-- ==== Sys2Proof/Word.lean ====
section
/-!
DEFINITION. The bit-vector names the model uses: a register word, a byte, and a device time.
-/
namespace Sys2Proof

/-- A register word: all registers are 32 bits wide (R11). -/
abbrev Word := BitVec 32

/-- A byte of memory or of a record (R9: multi-byte fields are little-endian). -/
abbrev Byte := BitVec 8

/-- Device time: a 64-bit count of nanoseconds (R17). -/
abbrev Time := BitVec 64

end Sys2Proof
end

