-- ==== Sys2Proof/Syntax.lean ====
section
/-!
DEFINITION. The commands of the Krovent TZK-1024A: one constructor per row of the opcode table, in the table's order.
Host writes with a row of their own, events at pins, timer expiries and internal steps are all commands; what an event
brings from outside (a sampled level, a received frame, bytes fetched from host memory) is its operand.
-/
namespace Sys2Proof

/-! ### Operand forms -/

/-- Why REFCLK or the root PLLs are at fault (R291). -/
inductive ClockFaultKind where
  | noRef | ratio | bothPlls
deriving DecidableEq, Repr

/-- What the scrub of Truss memory found (R290, R315): nothing, an uncorrectable budget entry or accumulator (0x0107), or
another uncorrectable word (0x0302). -/
inductive ScrubFind where
  | clean | exposure | other
deriving DecidableEq, Repr

/-- One fire report of an upstream REPORT frame (R116). -/
structure FireReport where
  tag    : BitVec 9
  row    : BitVec 5
  result : BitVec 3
  ftime  : BitVec 32
  cmask  : BitVec 32
deriving DecidableEq, Repr

/-- An upstream STATUS payload (R96). -/
structure StatusPayload where
  hushed    : Bool
  cwLock    : Bool
  ccwLock   : Bool
  timeValid : Bool
  repLost   : Bool
  capRej    : Bool
  alarm     : BitVec 8
  gen       : BitVec 16
  active    : BitVec 8
  previous  : BitVec 8
  staging   : BitVec 8
  pending   : BitVec 8
  crcCw     : BitVec 16
  crcCcw    : BitVec 16
  reserved  : BitVec 16
deriving DecidableEq, Repr

/-- The head and the check of an upstream frame (R92, R94): USEQ; whether LEN and the CRC-32C agree with the frame; whether its
TYPE byte is a reserved one. SRC is the driver that the command names. -/
structure UpHead where
  useq     : BitVec 8
  sound    : Bool
  reserved : Bool
deriving DecidableEq, Repr

/-- Where an upstream frame comes from: the driver that its SRC names, and its head. -/
structure UpFrom where
  n : Fin 64
  h : UpHead
deriving DecidableEq, Repr

/-- An ECHO_R's hold in 78.125 ps units and its check character (R91). -/
structure EchoHold where
  hold : BitVec 8
  chk  : BitVec 8
deriving DecidableEq, Repr

/-- An ACK's or NAK's link sequence number and its check character (R412). -/
structure AckSet where
  seq : BitVec 16
  chk : BitVec 8
deriving DecidableEq, Repr

/-- A SYNC set's number and its third character (R412). -/
structure SyncSet where
  n   : BitVec 8
  inv : BitVec 8
deriving DecidableEq, Repr

/-- A pair whose receiver drops lock, and the invalid characters and disparity errors since it locked (R409). -/
structure LostPair where
  p   : Fin 20
  bad : Nat
deriving DecidableEq, Repr

/-- What HOST_LINK finds: the function configured within its limit; the frames whose slots fail the check of their header area
(R58, R246). -/
structure LinkFind where
  ok       : Bool
  badSlots : List Nat
deriving DecidableEq, Repr

/-- A sample and the instant it was taken, in ticks of the root clock: that of the sample's newest input (R278). -/
structure SampleAt where
  code : BitVec 16
  at_  : Int
deriving DecidableEq, Repr

/-- What an item's program wrote before its commit word: bytes 16 to 27 of the record slots (R200), and the atomic adds to its
cluster's statistics as word and addend (R196). -/
structure Written where
  recs : List (BitVec 96)
  adds : List (BitVec 16 × Word)
deriving DecidableEq, Repr

/-- What Batten's receiver of a ring direction finds of a frame that it sent (R90, R93): it comes back as it was sent, after the
loop delay in LSB; it comes back changed; it does not come back. -/
inductive ReturnFind where
  | same (loop : Nat)
  | differs
  | missing
deriving DecidableEq, Repr

/-- What bringing one ring up finds (R104): drivers counted by ENUM and by COUNT (`up` when every step passed and the counts
agree); per driver the protocol version, rows - 1, columns - 1 and pass-through latency of its identity (R97); loop
delays in LSB, and per driver the sum over its NECHO echoes of the round trip less eight holds, on CW and on CCW (R100). -/
structure RingFind where
  up      : Bool
  ids     : List (BitVec 8 × BitVec 5 × BitVec 5 × BitVec 8)
  lcw     : Nat
  lccw    : Nat
  acw     : List Nat
  accw    : List Nat
deriving DecidableEq, Repr

/-- The kind of an engine's access to its address space (R196). -/
inductive EngAccess where
  | read | write | fetch | add
deriving DecidableEq, Repr

/-- What an engine or its cluster meets (R211, R214, R216): an ECC error of local memory or code fetch; an access to an address;
an invalid commit word; an uncorrectable error of shared memory or a fault of the dispatch unit or the journal port; an
access of the cluster's master to HBM. -/
inductive EngineFaultKind where
  | ecc (correctable : Bool)
  | access (addr : Word) (kind : EngAccess)
  | commitWord
  | cluster
  | girt (addr : Nat) (write : Bool)
deriving DecidableEq, Repr

/-- What the loader finds in the instruction words of a program set, whose encodings the spec does not give (R205): the first of
rules 4 to 8 that fails, 0 if none does; the slot it concerns, else that of the largest cost; the worst path computed. -/
structure ProofFind where
  rule  : BitVec 4
  slot  : BitVec 3
  worst : Nat
deriving DecidableEq, Repr, Inhabited

/-- An object with a progress watchdog (R404). -/
inductive WedgeObject where
  | queue (q : Fin 4096)
  | ring (r : Fin 16)
  | channel (c : Fin 32)
deriving DecidableEq, Repr

/-- A packet that an uncorrectable Lath word drops (R403). A read completion names the ring of the command, or the bulk
channel, whose fetch it answers; a word with a single-bit error is corrected and nothing is dropped. -/
inductive LathPacket where
  | inboundWrite
  | inboundRead
  | commandFetch (r : Fin 16)
  | descriptorFetch (c : Fin 32) (residue : Nat)
  | outboundWrite
  | outboundRead
  | corrected
deriving DecidableEq, Repr

/-- A tie frame as it arrives (R413): the bytes between K27.7 and K29.7, CRC included. -/
structure TieBytes where
  bytes : List Byte
deriving DecidableEq, Repr

/-- How a bulk descriptor ends (R398, R401): all of it moved; an error found while `residue` bytes had no request, or
late. `written` is what a SINK descriptor took. -/
inductive DescEnd where
  | done
  | error (residue : Nat)
  | late
deriving DecidableEq, Repr

/-- How a recovery command reaches the ROM (R444): through the mailbox of BAR4, or in a UART frame whose CRC is good or not. -/
inductive RecPath where
  | bar4
  | uart (crcOk : Bool)
deriving DecidableEq, Repr

/-- A configuration request (R59, R370, R373): a read, a write that sets Bus Master Enable and Memory Space Enable, or a write
of the power state, of MSI-X, or of the device controls: Max Payload Size and Max Read Request Size as their codes, and completion
timeout range B and 10-bit tags. -/
inductive ConfigRequest where
  | read (dword : BitVec 10)
  | command (memory busMaster : Bool)
  | power (d3hot : Bool)
  | msix (enable mask : Bool)
  | control (payload readRequest : BitVec 3)
  | control2 (rangeB tags10 : Bool)
deriving DecidableEq, Repr

/-- A JTAG debug access (R33, R445): a register read or write at a BAR0 offset, a memory read or write of HBM or a
cluster memory, or a boundary-scan access. -/
inductive JtagAccess where
  | regRead (addr : BitVec 24)
  | regWrite (addr : BitVec 24) (v : Word)
  | hbmRead (addr : BitVec 40) (n : Nat)
  | hbmWrite (addr : BitVec 40) (bytes : List Byte)
  | boundary (darkN : Bool) (sout : BitVec 4)
deriving DecidableEq, Repr

/-! ### The commands -/

/-- The commands: one constructor per row of the opcode table. -/
inductive Instr where
  /-- PORN_N_LOW (R37): PORN_N is driven low. -/
  | pornNLow
  /-- POWER_ON_RESET (R58): the rising edge of PORN_N, with the BOOTSEL level. -/
  | powerOnReset (bootsel : BitVec 2)
  /-- POWER_LOSS (R36): the rails fall. -/
  | powerLoss
  /-- FULLRST_N_FALL (R50): the filtered falling edge of FULLRST_N. -/
  | fullrstNFall
  /-- PERST_N_FALL (R50): the falling edge of PERST_N. -/
  | perstNFall
  /-- PERST_N_RISE (R59): the rising edge of PERST_N. -/
  | perstNRise
  /-- PCIE_FLR (R50): receipt of a function-level reset. -/
  | pcieFlr
  /-- HOT_RESET (R50): entry to PCIe hot reset. -/
  | hotReset
  /-- GLB_RST (R482): a write of GLB_RST. -/
  | glbRst (v : Word)
  /-- LOGIC_RELEASE (R50): 100 us have passed since the reset instant and the reset pins are high. -/
  | logicRelease
  /-- TRUSS_TEST (R58): the self-test of stage TRUSS_TEST ends; the rails (R34) inside their windows. -/
  | trussTest (pass : Bool) (rails : BitVec 16)
  /-- CLOCK (R58): stage CLOCK's result: REFCLK present, PLL A locked, PLL B locked. -/
  | clock (ref pllA pllB : Bool)
  /-- ROM_START (R58): ROM starts, the temperature start limit being met; it reads the boot header from the flash. -/
  | romStart
  /-- HBM_TRAIN (R58): the result of training: the stacks that trained. -/
  | hbmTrain (ok : BitVec 4)
  /-- IMAGE (R58): the chosen slot is checked under R426. -/
  | image
  /-- SETTINGS (R58): the settings store is parsed. -/
  | settings
  /-- HOST_LINK (R58): the PCIe function is configured within its limit, or the limit passes. -/
  | hostLink (r : LinkFind)
  /-- JOIST (R58): loading and proving the program set: what the loader finds in the code of the standard set and of the set in
  force, where that is another (R205). -/
  | joist (std set : ProofFind)
  /-- RINGS (R58): what the bring-up of each enabled ring finds. -/
  | rings (finds : List (Fin 8 × RingFind))
  /-- SPIN (R58): stage SPIN's work ends. -/
  | spin
  /-- CALIBRATE (R58): stage CALIBRATE ends; whether every calibration completed within its limit. -/
  | calibrate (ok : Bool)
  /-- ARM (R58): stage ARM's checks end, with the output test of check 6. -/
  | arm (fb : Bool)
  /-- STALL_LINE (R60): 1 s of a stalled stage passes. -/
  | stallLine
  /-- OCXO_RDY_RISE (R41): the filtered rising edge of OCXO_RDY. -/
  | ocxoRdyRise
  /-- OCXO_RDY_FALL (R41): the filtered falling edge of OCXO_RDY. -/
  | ocxoRdyFall
  /-- HOLD_ELAPSED (R41): the warm-up hold expires. -/
  | holdElapsed
  /-- PPS_EDGE (R46): a PPS edge, at a time in units of 2^-8 ns after the present root instant's 5 ns boundary. -/
  | ppsEdge (sub : Nat)
  /-- PPS_LOSS (R46): 1.5 s have passed without a PPS edge. -/
  | ppsLoss
  /-- CLK_TIMELO_READ (R47): a read of CLK_TIMELO. -/
  | clkTimeloRead
  /-- CLK_TBCFG_WRITE (R47): a write of CLK_TBCFG. -/
  | clkTbcfgWrite (v : Word)
  /-- PLL_LOCK_LOSS (R455): the active root PLL loses lock. -/
  | pllLockLoss
  /-- PLL_RELOCK (R455): 1 s of relock attempts ends. -/
  | pllRelock (ok : Bool)
  /-- SPINDLE_SAMPLE (R71): the 20 us spindle sample. -/
  | spindleSample
  /-- SPEED_CAPTURE (R75): the speed has stayed within 0.2 % of target for CAPCNT samples. -/
  | speedCapture
  /-- SPLOCK_SET (R75): the phase error has stayed inside LOCKWIN for LOCKCNT samples. -/
  | splockSet
  /-- BLEND_END (R77): 2,500 spindle samples have passed since the hand-over. -/
  | blendEnd
  /-- FOLLOWING_ERROR_TRIP (R79): a following-error counter has reached 2 * FETIME. -/
  | followingErrorTrip (tilt : Bool)
  /-- SCAN_STATE_SAMPLE (R64): Tenon publishes a sample. -/
  | scanStateSample
  /-- ENCODER_EDGE (R66): a qualified quadrature edge, forwards or backwards. -/
  | encoderEdge (back : Bool)
  /-- INDEX_EDGE (R66): a qualified index edge. -/
  | indexEdge
  /-- INDEX_MISSING (R66): no index edge within 1.5 revolutions while speed is at least 10 rev/s. -/
  | indexMissing
  /-- SPIN_UP_TIMEOUT (R76): the spin-up timer expires. -/
  | spinUpTimeout
  /-- RETAINED_STATE_COPY (R78): the 1 ms copy of mode requests and torque demand to HBM. -/
  | retainedStateCopy
  /-- TILT_SAMPLE (R73): the 40 us tilt sample instant. -/
  | tiltSample
  /-- TILT_SAMPLE_READY (R69): the injected conversion ends: its samples, and the pins seen above 3.0 V. -/
  | tiltSampleReady (codes : List (BitVec 18)) (wbPins : BitVec 24)
  /-- TLSENS (R69): three consecutive invalid tilt samples. -/
  | tlsens
  /-- SPINDLE_MODE_REQUEST (R74): a write of TNN_SPCTL.MODE. -/
  | spindleModeRequest (m : BitVec 3)
  /-- TILT_MODE_REQUEST (R74): a write of TNN_TLCTL.MODE. -/
  | tiltModeRequest (m : BitVec 3)
  /-- TNN_SPCFG_WRITE (R62): a write of TNN_SPCFG. -/
  | tnnSpcfgWrite (v : Word)
  /-- SPINDLE_SWAP (R81): a write of 1 to TNN_SPCTL.SWAP. -/
  | spindleSwap
  /-- TILT_SWAP (R81): a write of 1 to TNN_TLCTL.SWAP. -/
  | tiltSwap
  /-- INJECTION_START (R83): a write of 1 to TNN_INJCFG.START. -/
  | injectionStart
  /-- INJECTION_STOP (R83): a write of 1 to TNN_INJCFG.STOP. -/
  | injectionStop
  /-- INJECTION_END (R83): INJLEN samples have been injected. -/
  | injectionEnd
  /-- CAPTURE_START (R84): a write of 1 to TNN_CAPCFG.START. -/
  | captureStart
  /-- CAPDONE (R84): LEN entries have been written. -/
  | capdone
  /-- FIRE_SUBMISSION (R108): Batten submits driver `n`'s next planned fire to the exposure monitor. -/
  | fireSubmission (n : Fin 64)
  /-- FIRE_TRANSMIT (R110): Batten transmits driver `n`'s next submitted fire, or drops it. -/
  | fireTransmit (n : Fin 64)
  /-- GRANT (R93): the grant period of ring `r` ends; one GRANT or RGRANT goes out per direction. -/
  | grant (r : Fin 8)
  /-- DRIVER_SILENT (R118): driver `n` has answered none of SILENT consecutive grants. -/
  | driverSilent (n : Fin 64)
  /-- STATUS (R96): an upstream STATUS frame. -/
  | status (u : UpFrom) (p : StatusPayload)
  /-- REPORT (R116): an upstream REPORT frame with 1 to 6 fire reports. -/
  | report (u : UpFrom) (reps : List FireReport)
  /-- READDATA (R97): an upstream READDATA frame. -/
  | readdata (u : UpFrom) (addr : BitVec 16) (words : List Word)
  /-- ALARM (R118): an upstream ALARM frame. -/
  | alarm (u : UpFrom) (code : BitVec 8) (detail : BitVec 24)
  /-- ECHO_R (R91, R100): driver `n`'s reply to an ECHO sent on CW, or on CCW when `ccw`; its hold and check
  character, and the round trip Batten stamped, in LSB. -/
  | echoR (n : Fin 64) (ccw : Bool) (hold : EchoHold) (rt : Nat)
  /-- UNREPORTED (R116): the sent fire `tag` of driver `n` has no report 20 us after its TIME. -/
  | unreported (n : Fin 64) (tag : BitVec 9)
  /-- HUSHGEN_REPEAT (R113): 1 us passes while the hush request stands. -/
  | hushgenRepeat
  /-- HUSH_WITHDRAWAL (R295): 40 Truss cycles after the last hold lifted. -/
  | hushWithdrawal
  /-- ECHO_CHECK (R103): the CALCFG period ends; the echo check starts. Nothing comes with it. -/
  | echoCheck (nil : Unit)
  /-- RECAL (R103): BTN_CTL.RECAL repeats the echo check now. Nothing comes with it. -/
  | recal (nil : Unit)
  /-- RINGEN_WRITE (R121): a write of BTN_CTL.RINGEN; what the bring-up of each newly set ring finds. -/
  | ringenWrite (en : BitVec 8) (finds : List (Fin 8 × RingFind))
  /-- PROOF_PULSE (R119): the 2,000 ns point inside a chosen dead angle for driver `n`. -/
  | proofPulse (n : Fin 64)
  /-- OPTICAL_DARK (R120): row `row` of driver `n` has missed its reference return REFMISS times in a row. -/
  | opticalDark (n : Fin 64) (row : Fin 32)
  /-- FRAME_BOUNDARY (R122): a frame boundary passes. -/
  | frameBoundary
  /-- PLAN_STEP (R126): the plan instant of driver `n`. -/
  | planStep (n : Fin 64)
  /-- PLAN_STEP_RETRY (R132): driver `n`'s held plan step is retried. -/
  | planStepRetry (n : Fin 64)
  /-- TAGEXH (R132): driver `n`'s plan step has been held for tags for more than 1 ms. -/
  | tagexh (n : Fin 64)
  /-- LEADING_EDGE (R147): a leading edge on a channel: the 48-bit coarse count and the raw tap latched by the TDC
  that serves it, and what the group's spare latches if it shadows the channel. -/
  | leadingEdge (ch : Fin 1024) (coarse : BitVec 48) (tap : BitVec 5) (shadow : Option (BitVec 48 × BitVec 5))
  /-- TRAILING_EDGE (R147): a trailing edge on a channel. -/
  | trailingEdge (ch : Fin 1024) (coarse : BitVec 48) (tap : BitVec 5)
  /-- WIDTH_SATURATION (R151): the input is still high 1,023 LSB after the leading edge. -/
  | widthSaturation (ch : Fin 1024)
  /-- EVENT_WORD_DELIVERY (R154): the oldest undelivered event of a channel passes its gates, or is dropped: nothing else
  comes with it. -/
  | eventWordDelivery (ch : Fin 1024) (nil : Unit)
  /-- PULSER_EDGE (R156): a pulser edge enters TDC `t` (0 to 1,055). -/
  | pulserEdge (t : Fin 1056) (coarse : BitVec 48) (tap : BitVec 5)
  /-- STUCK (R157): a channel's input has been high for HIGHT us without a break. -/
  | stuck (ch : Fin 1024)
  /-- STUCK_RELEASE (R157): a held channel has been RELT ms below its condition. -/
  | stuckRelease (ch : Fin 1024)
  /-- FAST (R158): a channel reaches FASTMAX accepted events in 1 us. -/
  | fast (ch : Fin 1024)
  /-- REL (R157): a write of 1 to KRF_CHCFG.REL. -/
  | rel (ch : Fin 1024)
  /-- TDCFAIL (R160): a write of 1 to KRF_CHCFG.TDCFAIL. -/
  | tdcfail (ch : Fin 1024)
  /-- SHADOW_PERIOD_END (R160): the shadow period of group `g` ends. -/
  | shadowPeriodEnd (g : Fin 32)
  /-- SPARE_MOVE (R161): a write of KRF_SPARE of group `g`. -/
  | spareMove (g : Fin 32) (v : Word)
  /-- SPARE_TAKEOVER (R161): the takeover instant of group `g`'s move. -/
  | spareTakeover (g : Fin 32)
  /-- GAUGE_EDGE (R164): an edge on a gauge input, with its coarse count and fine value (0 to 31). -/
  | gaugeEdge (g : Fin 8) (rising : Bool) (coarse : BitVec 48) (fine : BitVec 5)
  /-- GAUGE_OVERFLOW (R165): unit `u`'s measurement reaches 2^32 coarse periods. -/
  | gaugeOverflow (u : Fin 8)
  /-- GAUGEDONE (R166): unit `u` has taken N measurements. -/
  | gaugedone (u : Fin 8)
  /-- GAUGE_ARM (R166): a write of 1 to KRF_GCFG.ARM. -/
  | gaugeArm (u : Fin 8)
  /-- GAUGE_ABORT (R166): a write of 1 to KRF_GCFG.ABORT. -/
  | gaugeAbort (u : Fin 8)
  /-- KRF_GTSLO_READ (R167): a read of KRF_GTSLO of unit `u`. -/
  | krfGtsloRead (u : Fin 8)
  /-- SCOUT_END (R179): 5,120 ns after the last scout shot of burst `b`. -/
  | scoutEnd (b : Nat)
  /-- RETROACTIVE_FILL (R180): the fill of burst `b` over its channel's backlog. Nothing else comes with it. -/
  | retroactiveFill (b : Nat) (nil : Unit)
  /-- WINDOW_CLOSE (R186): burst `b` closes. -/
  | windowClose (b : Nat)
  /-- COMMIT (R201): the engine that runs burst `b` writes its commit word. -/
  | commit (b : Nat) (word : Word) (w : Written)
  /-- MARKER_COMMIT (R230): pending markers and records whose place has come are committed. -/
  | markerCommit
  /-- ENGINE_FAULT (R211): engine `e` (0 to 1,055) stops on a fault. -/
  | engineFault (e : Fin 1056) (kind : EngineFaultKind)
  /-- BUDGET_EXPIRY (R206): engine `e` reaches its declared budget without COMMIT. -/
  | budgetExpiry (e : Fin 1056)
  /-- ENGINE_RETEST (R213): the 2 ms test of engine `e` ends. -/
  | engineRetest (e : Fin 1056) (pass : Bool)
  /-- CLUSTER_SUBSTITUTION (R214): the takeover instant of the spare cluster. -/
  | clusterSubstitution
  /-- JST_SUBCMD_GO (R214): a write of JST_SUBCMD with GO, naming cluster `c`. -/
  | jstSubcmdGo (c : BitVec 5)
  /-- PROGRAM_BANK_WRITE (R210): a staged program set waiting for a free bank is written. -/
  | programBankWrite
  /-- DEMOTION (R238): reliable subscriber `q` has held a full journal for STALLT ms. -/
  | demotion (q : Fin 4096)
  /-- TARGET_EVALUATION (R253): the oldest waiting target of the history is evaluated. -/
  | targetEvaluation
  /-- LOOKBACK_FRAME_COMMIT (R259): every target of frame `n` is done. -/
  | lookbackFrameCommit (n : Nat)
  /-- ABANDON (R260): frame `n`'s boundary plus LATEMAX has passed. -/
  | abandon (n : Nat)
  /-- CONVERTER_READY (R263): 20 us have passed since converter `i` was enabled. -/
  | converterReady (i : Fin 32)
  /-- WFP_PAIRCFG_WRITE (R264): a write of WFP_PAIRCFG. -/
  | wfpPaircfgWrite (v : Word)
  /-- HSRC_WRITE (R276): a write of WFP_LANE.HSRC of lane `l`. -/
  | hsrcWrite (l : Fin 32) (v : BitVec 2)
  /-- CORSWAP (R266): a write of 1 to WFP_CTL.CORSWAP. -/
  | corswap
  /-- CORRECTION_SWAP_APPLIED (R266): the first sample at least 1 us after the write is taken. -/
  | correctionSwapApplied
  /-- FSWAP (R271): a write of 1 to WFP_SWAP.FSWAP of lane `l`. -/
  | fswap (l : Fin 32)
  /-- MSWAP (R271): a write of 1 to WFP_SWAP.MSWAP of lane `l`. -/
  | mswap (l : Fin 32)
  /-- FILTER_SWAP_APPLIED (R271): the swap instant of lane `l`'s F bank (M bank when `m`). -/
  | filterSwapApplied (l : Fin 32) (m : Bool)
  /-- GATE_OPEN (R272): lane `l`'s gate opens, or is skipped. -/
  | gateOpen (l : Fin 32)
  /-- GATE_CLOSE (R273): GATELEN samples of the detector's source have passed; the lane's converter codes that they were
  computed from, newest first. -/
  | gateClose (l : Fin 32) (codes : List (BitVec 10))
  /-- EDGE_TRIGGER (R278): the sample that armed the unit, and the two samples either side of LEVEL. -/
  | edgeTrigger (u : Fin 32) (arm : SampleAt) (before : BitVec 16) (after : SampleAt)
  /-- SHOT_TRIGGER (R277): a transmitted fire (driver, tag) at its offset instant. -/
  | shotTrigger (u : Fin 32) (n : Fin 64) (tag : BitVec 9)
  /-- AUTO_TRIGGER (R281): AUTOT us have passed without a trigger. -/
  | autoTrigger (u : Fin 32)
  /-- DOG_ARM (R281): a write of 1 to DOG_UCFG.ARM. -/
  | dogArm (u : Fin 32)
  /-- FORCE (R281): a write of 1 to DOG_UCFG.FORCE. -/
  | force (u : Fin 32)
  /-- DOG_STOP (R281): a write of 1 to DOG_UCFG.STOP. -/
  | dogStop (u : Fin 32)
  /-- CAPTURE_COMPLETE (R282): the last sample of unit `u`'s oldest capture is taken; the lane's converter codes that its samples
  were computed from, newest first. -/
  | captureComplete (u : Fin 32) (codes : List (BitVec 10))
  /-- DRAIN_DELIVERY (R283): Purlin reports the oldest posted entry delivered. -/
  | drainDelivery
  /-- DRAIN_LEVEL_TICK (R284): DRAINT ms have passed. -/
  | drainLevelTick
  /-- TRS_KEY (R292): a write of TRS_KEY. -/
  | trsKey (v : Word)
  /-- KEY_WINDOW_EXPIRY (R292): 5 s have passed since the window was opened or renewed. -/
  | keyWindowExpiry
  /-- KEY_SEQUENCE_EXPIRY (R292): 100 us have passed without the second word. -/
  | keySequenceExpiry
  /-- DARKREQ (R295): a write of TRS_CTL.DARKREQ. -/
  | darkreq (v : Bool)
  /-- ARM_CHECKS (R296): the seven ARM checks end; `fb` says that every enabled output's feedback matched for 1 ms and
  every output commanded on passed its off-pulse (check 6). -/
  | armChecks (fb : Bool)
  /-- SUPPLY_FAULT (R291): rail `i` of R34 has been outside its window past the 2 us filter. -/
  | supplyFault (i : Fin 16)
  /-- CLOCK_FAULT (R291): a clock fault condition arises. -/
  | clockFault (k : ClockFaultKind)
  /-- CLOCK_FAULT_CLEAR (R291): REFOK has read 1 for 100 us with a PLL locked. -/
  | clockFaultClear
  /-- HEARTBEAT (R291): the active management core writes the heartbeat. -/
  | heartbeat
  /-- HEARTBEAT_MISSING (R315): no heartbeat for 1 ms without standby takeover. -/
  | heartbeatMissing
  /-- MGMT_TAKEOVER (R456): the standby core takes over after 300 us without heartbeat. -/
  | mgmtTakeover
  /-- CORE_TEST (R456): the 2 ms test of a failed management core ends. -/
  | coreTest (pass : Bool)
  /-- READBACK (R304): the 10 us readback of the DARK_N ball and of SFB[3:0]. -/
  | readback (dark : Bool) (sfb : BitVec 4)
  /-- HUSH_NOT_CONFIRMED (R304): no confirmation 100 ns after the hush request. -/
  | hushNotConfirmed
  /-- KNOWN_ANSWER_CHECK (R302): the 1 ms check of the 32 monitor lanes; lanes with a right answer. -/
  | knownAnswerCheck (good : BitVec 32)
  /-- TRUSS_SCRUB (R290): the 10 ms scrub of Truss memory ends. -/
  | trussScrub (found : ScrubFind)
  /-- LOCKSTEP_MISMATCH (R315): the two cores' outputs differ. -/
  | lockstepMismatch
  /-- ROOT_WATCHDOG (R460): Truss's toggle has stopped for 1 us. -/
  | rootWatchdog
  /-- BUCKET_ROLLOVER (R299): a sixteenth of window W1 (`w2` false) or W2 ends. -/
  | bucketRollover (w2 : Bool)
  /-- INPUT_SAMPLE (R306): the 10 us sample of SINA[7:0] and SINB[7:0]. -/
  | inputSample (a b : BitVec 8)
  /-- INPUT_LEVEL_ACCEPTED (R308): a leg of input `k` (leg B when `legB`) has held its new level through FILT. -/
  | inputLevelAccepted (k : Fin 8) (legB : Bool)
  /-- DISCREPANCY (R308): input `k`'s discrepancy timer expires. -/
  | discrepancy (k : Fin 8)
  /-- OFF_PULSE (R313): output `k`'s off-pulse. -/
  | offPulse (k : Fin 4)
  /-- FEEDBACK_CHECK (R313): a feedback sample of output `k`, FBDLY or more after its last change or pulse edge; `pulse` when
  it is taken inside an off-pulse. -/
  | feedbackCheck (k : Fin 4) (level pulse : Bool)
  /-- SRESET_N_RISE (R317): a rising edge of SRESET_N after a low of `lowUs` microseconds. -/
  | sresetNRise (lowUs : Nat)
  /-- SRESET_N_STUCK (R312): SRESET_N has been low for more than 5 s. -/
  | sresetNStuck
  /-- LIMP_RECOVERY (R316): every fault of the limp window has been absent for CLEART ms. -/
  | limpRecovery
  /-- LIMP_WINDOW_EXPIRY (R316): the limp window ends. -/
  | limpWindowExpiry
  /-- BUDLOAD (R298): a write of 1 to TRS_CTL.BUDLOAD. -/
  | budload
  /-- BUDSWAP (R298): a write of 1 to TRS_CTL.BUDSWAP. -/
  | budswap
  /-- ROUND_TICK (R333): a SIL_ROUND tick: the readings of T0-T23 and H0-H3 and of PKG, in 0.125 degrees. -/
  | roundTick (temps : List (BitVec 12)) (pkg : BitVec 12)
  /-- THROTTLE_STEP_DOWN (R343): a class (HBM when `hbm`) has stood 5 degrees below its threshold for DWELL ticks. -/
  | throttleStepDown (hbm : Bool)
  /-- SENSFAIL (R341): sensor `i` has been invalid at 3 consecutive ticks. -/
  | sensfail (i : Fin 28)
  /-- SLOT_RESULT (R329): the last sample of the slot under way on converter `adc` ends: its 18-bit codes, and whether wire
  break or an excitation fault stood. -/
  | slotResult (adc : Bool) (codes : List (BitVec 18)) (wbPins : BitVec 24) (excf : Bool)
  /-- SIL_SWAP (R332): a write of 1 to SIL_CTL.SWAP. -/
  | silSwap
  /-- REFEN_WRITE (R337): a write of SIL_CTL.REFEN. -/
  | refenWrite (v : Bool)
  /-- REFRDY (R337): 5 ms have passed since REFEN was set. -/
  | refrdy
  /-- REFLOSS (R337): HK_REF deviates beyond 1 %. -/
  | refloss
  /-- PIN_CLAMP (R323): a clamp current above 50 uA on AX pin `p`. -/
  | pinClamp (p : Fin 24)
  /-- CALIBRATION_RUN (R338): converter `adc`'s run ends with the sums of 256 ZERO and 256 REF samples. -/
  | calibrationRun (adc : Bool) (sz sr : Int)
  /-- CALIBRATION_PERIOD (R351): kind `k`'s PERIOD (1, 3 or 4) has elapsed. -/
  | calibrationPeriod (k : Fin 6)
  /-- PLB_CMD_CD (R351): a write of 1 to PLB_CMD.CD. -/
  | plbCmdCd
  /-- PLB_CMD_WF (R351): a write of 1 to PLB_CMD.WF. -/
  | plbCmdWf
  /-- PLB_CMD_HK (R351): a write of 1 to PLB_CMD.HK. -/
  | plbCmdHk
  /-- PLB_CMD_LANE (R364): a write of 1 to PLB_CMD.LANE. -/
  | plbCmdLane
  /-- PLB_CMD_SAVE (R365): a write of 1 to PLB_CMD.SAVE. -/
  | plbCmdSave
  /-- CODE_DENSITY_DONE (R356): TDC `t` has reached NEV * 1,024 events. -/
  | codeDensityDone (t : Fin 1056)
  /-- CODE_DENSITY_TIMEOUT (R356): TDC `t` has not reached its total within TMAX. -/
  | codeDensityTimeout (t : Fin 1056)
  /-- INTERLEAVE_RUN_DONE (R362): the 2^22 stage C samples of every enabled converter are taken: per converter their sum and
  the sum of their squares, in units of 1/32 converter LSB, and the sums of their products with the even neighbour before
  and behind. -/
  | interleaveRunDone (meas : List (Fin 32 × Int × Nat × Int × Int))
  /-- RZNOREF (R360): group `g` has had no drift sample for 60 s. -/
  | rznoref (g : Fin 32)
  /-- QUIET (R358): a channel has stamped no non-pulser event for QUIETT s. -/
  | quiet (ch : Fin 1024)
  /-- LANE_ADAPT_PERIOD (R364): LANEPER s have passed. -/
  | laneAdaptPeriod
  /-- SAVE_PERIOD (R365): SAVEH hours have passed. -/
  | savePeriod
  /-- QUEUE_DOORBELL (R374): a write at a subscriber queue's doorbell; `whole` when it is one aligned 64-bit write. The
  buffer-ring entries it posts and the head word Krovent reads (R388). -/
  | queueDoorbell (q : Fin 4096) (whole : Bool) (v : BitVec 64) (bufs : List (BitVec 128)) (headWord : BitVec 64)
  /-- COMMAND_DOORBELL (R376): a write at a command ring's doorbell and the entries fetched from the ring's head up. -/
  | commandDoorbell (r : Fin 16) (whole : Bool) (v : BitVec 64) (entries : List (BitVec 512))
  /-- BULK_DOORBELL (R374): a write at offset 0x9000 + 8 * `slot` of BAR2: channels 32 to 62, the discarded doorbell of
  channel 63, and the unassigned offsets behind; the descriptors fetched from the channel's head up. -/
  | bulkDoorbell (slot : BitVec 12) (whole : Bool) (v : BitVec 64) (descs : List (BitVec 256))
  /-- NOP (R379): command ring `r` executes the NOP at its front. -/
  | nop (r : Fin 16)
  /-- SCAN_START (R123): command ring `r` executes SCAN_START. -/
  | scanStart (r : Fin 16)
  /-- SCAN_STOP (R123): command ring `r` executes SCAN_STOP. -/
  | scanStop (r : Fin 16)
  /-- TIME_SET (R45): command ring `r` executes TIME_SET. -/
  | timeSet (r : Fin 16)
  /-- EPOCH_COMMIT (R381): command ring `r` executes EPOCH_COMMIT, or starts to wait. -/
  | epochCommit (r : Fin 16)
  /-- EPOCH_COMMIT_EXECUTION (R381): the waiting EPOCH_COMMIT reaches its execution point. -/
  | epochCommitExecution
  /-- EPOCH_EFFECTIVE (R22): the accepted epoch's device time is reached. -/
  | epochEffective
  /-- TABLE_LOAD (R380): command ring `r` executes TABLE_LOAD with the table fetched, or a failed fetch. -/
  | tableLoad (r : Fin 16) (data : Option (List Byte))
  /-- PROG_LOAD (R210): command ring `r` executes PROG_LOAD with the image fetched, or a failed fetch. -/
  | progLoad (r : Fin 16) (data : Option (List Byte))
  /-- POSE (R249): command ring `r` executes POSE with the samples fetched (PARAM at least 1), or a failed fetch. -/
  | pose (r : Fin 16) (data : Option (List (BitVec 384)))
  /-- QUEUE_CREATE (R383): command ring `r` executes QUEUE_CREATE with the queue block fetched, or a failed fetch. -/
  | queueCreate (r : Fin 16) (block : Option (BitVec 1024))
  /-- QUEUE_RESUME (R395): command ring `r` executes QUEUE_RESUME with the queue block fetched, or a failed fetch. -/
  | queueResume (r : Fin 16) (block : Option (BitVec 1024))
  /-- QUEUE_CLOSE (R392): command ring `r` executes QUEUE_CLOSE. -/
  | queueClose (r : Fin 16)
  /-- QUEUE_FILTER (R384): command ring `r` executes QUEUE_FILTER. -/
  | queueFilter (r : Fin 16)
  /-- FW_STAGE (R430): command ring `r` starts FW_STAGE with the image fetched, or a failed fetch. -/
  | fwStage (r : Fin 16) (data : Option (List Byte))
  /-- FW_CONFIRM (R434): command ring `r` executes FW_CONFIRM. -/
  | fwConfirm (r : Fin 16)
  /-- FW_LIVE (R437): command ring `r` executes FW_LIVE. -/
  | fwLive (r : Fin 16)
  /-- LIVE_CLUSTER_STEP (R438): one cluster's step of a live replacement ends. -/
  | liveClusterStep
  /-- SETTINGS_SAVE (R442): command ring `r` executes SETTINGS_SAVE; `flashOk` when the write reads back. -/
  | settingsSave (r : Fin 16) (flashOk : Bool)
  /-- SUBSCRIBER_DELIVERY (R386): stream channel `c` serves its next queue. -/
  | subscriberDelivery (c : Fin 32)
  /-- HEAD_WORD_POLL (R388): queue `q` reads its head word. -/
  | headWordPoll (q : Fin 4096) (headWord : BitVec 64)
  /-- INTERRUPT_COALESCE (R391): queue `q`'s COALNS has run from its first completion since arming. -/
  | interruptCoalesce (q : Fin 4096)
  /-- DESCRIPTOR_COMPLETE (R398): the descriptor in progress on channel 32 + `c` ends; data read from host memory. -/
  | descriptorComplete (c : Fin 32) (e : DescEnd) (data : List Byte)
  /-- ABORT (R399): a write of 1 to PUR_CHCTL.ABORT of channel `c`; bytes unissued after the current burst. -/
  | abort (c : Fin 64) (residue : Nat)
  /-- RUN_CLEAR (R399): a write of 0 to PUR_CHCFG.RUN of channel `c`; whether a group or descriptor is in progress. -/
  | runClear (c : Fin 64) (busy : Bool)
  /-- WEDGE (R404): an object has made no progress for WEDGET ms. -/
  | wedge (o : WedgeObject)
  /-- LINK_DOWN (R373): the PCIe link goes down without hot reset or PERST_N. -/
  | linkDown
  /-- LINK_UP (R373): the PCIe link comes up at a speed code and a width code of HIF_STATUS. -/
  | linkUp (speed : BitVec 3) (width : BitVec 3)
  /-- BUS_MASTER_DISABLE (R373): Bus Master Enable is cleared, or D3hot entered; unissued bytes per bulk descriptor in
  progress. -/
  | busMasterDisable (d3 : Bool) (residues : List (Fin 32 × Nat))
  /-- LATH_DROP (R403): an uncorrectable Lath word drops a packet. -/
  | lathDrop (p : LathPacket)
  /-- PCIE_LANE_REMOVE (R457): lane `lane`, with over 64 errors in 1 s, is removed. -/
  | pcieLaneRemove (lane : Fin 16)
  /-- RECEIVER_LOCK (R409): pair `p`'s receiver declares lock. -/
  | receiverLock (p : Fin 20)
  /-- LOCK_LOSS (R409): a pair's receiver drops lock. -/
  | lockLoss (x : LostPair)
  /-- AUTOPOL (R409): pair `p`'s receiver inverts itself. -/
  | autopol (p : Fin 20)
  /-- TRAINING_COMPLETE (R410): pair `p`'s receiver has tried the 16 CTLE settings: errors and figure of merit of each. -/
  | trainingComplete (p : Fin 20) (tries : List (Nat × BitVec 8))
  /-- TRAINING_RETRY (R410): 1 s has passed since pair `p`'s training failed. -/
  | trainingRetry (p : Fin 20)
  /-- TRAIN (R422): a write of 1 to DWL_PCFG.TRAIN of pair `p`. -/
  | train (p : Fin 20)
  /-- BACKGROUND_TRIM (R411): pair `p`'s 10 ms trim step, and the figure of merit after the step. -/
  | backgroundTrim (p : Fin 20) (fom : BitVec 8)
  /-- FOMLOW (R411): pair `p`'s figure of merit has been below FOMMIN for 100 ms. -/
  | fomlow (p : Fin 20)
  /-- HELLO_SEND (R414): the 10 ms HELLO on every up tie link. -/
  | helloSend
  /-- HELLO (R416): a HELLO frame arrives on tie link `k`. -/
  | hello (k : Fin 4) (f : TieBytes)
  /-- SYNC_SEND (R417): the 1 ms SYNC on every up tie link; its departure stamp t1 per link, in tie time. -/
  | syncSend (t1 : List (Fin 4 × BitVec 53))
  /-- SYNC (R417): a SYNC ordered set arrives on tie link `k` at tie time `t4`. -/
  | sync (k : Fin 4) (x : SyncSet) (t4 : BitVec 53)
  /-- SYNCDATA (R417): a SYNCDATA frame arrives on tie link `k`. -/
  | syncdata (k : Fin 4) (f : TieBytes)
  /-- FRAMEANN (R416): a FRAMEANN frame arrives on tie link `k`. -/
  | frameann (k : Fin 4) (f : TieBytes)
  /-- BOUNDARY_FIX (R418): 1 ms before the next boundary. -/
  | boundaryFix
  /-- CODEBOOK (R420): a CODEBOOK frame arrives on tie link `k`. -/
  | codebook (k : Fin 4) (f : TieBytes)
  /-- ACK (R415): an ACK ordered set arrives on tie link `k`. -/
  | ack (k : Fin 4) (x : AckSet)
  /-- NAK (R415): a NAK ordered set arrives on tie link `k`. -/
  | nak (k : Fin 4) (x : AckSet)
  /-- RETRY_TIMEOUT (R415): 10 us without an acknowledgement of tie link `k`'s oldest outstanding frame. -/
  | retryTimeout (k : Fin 4)
  /-- DWL_PTEST_WRITE (R421): a write of DWL_PTEST of pair `p`. -/
  | dwlPtestWrite (p : Fin 20) (v : Word)
  /-- BEGIN (R444): recovery command 0x01. -/
  | begin (via : RecPath) (arg0 arg1 : Word)
  /-- CHUNK (R444): recovery command 0x02 with the data window or the UART data; `flashOk` when the write succeeds. -/
  | chunk (via : RecPath) (arg0 arg1 : Word) (data : List Byte) (flashOk : Bool)
  /-- RECOVERY_COMMIT (R444): recovery command 0x03. -/
  | recoveryCommit (via : RecPath) (flashOk : Bool)
  /-- RECOVERY_RESET (R444): recovery command 0x04. -/
  | recoveryReset (via : RecPath)
  /-- ERASESET (R444): recovery command 0x05. -/
  | eraseset (via : RecPath) (flashOk : Bool)
  /-- BAUD (R444): recovery command 0x06. -/
  | baud (via : RecPath) (arg0 : Word)
  /-- PROGSIG_SET (R436): a write of 1 to FWU_CTL.PROGSIG. -/
  | progsigSet
  /-- PATROL_SCRUB (R453): a scrub step: HBM words (address / 32) that have newly gone wrong, each with its number of wrong
  symbols, found together with those the model already holds. -/
  | patrolScrub (errs : List (Nat × Nat))
  /-- HBM_ROW_SPARE (R453): the sparing of a row that is due; `ok` unless the stack's repair resources are spent. -/
  | hbmRowSpare (row : Nat) (ok : Bool)
  /-- FAULT_REPORT (R463): the fault log unit takes the next report from its FIFO. -/
  | faultReport
  /-- ENTRY_FLUSH (R463): FLUSHT ms after it opened, the open entry of (source, code) is written. -/
  | entryFlush (src code : Nat)
  /-- FLT_RDSEQHI_WRITE (R466): a write of FLT_RDSEQHI. -/
  | fltRdseqhiWrite (v : Word)
  /-- INJECT_SYMBOL_ERROR (R467): a GO write of FLT_INJ with KIND 1. -/
  | injectSymbolError
  /-- INJECT_TWO_SYMBOL_ERROR (R467): a GO write of FLT_INJ with KIND 2. -/
  | injectTwoSymbolError
  /-- INJECT_ENGINE_FAULT (R467): a GO write of FLT_INJ with KIND 3. -/
  | injectEngineFault (unit : BitVec 11)
  /-- INJECT_CLUSTER_FAULT (R467): a GO write of FLT_INJ with KIND 4. -/
  | injectClusterFault (unit : BitVec 11)
  /-- INJECT_TDC_FAIL (R467): a GO write of FLT_INJ with KIND 5. -/
  | injectTdcFail (unit : BitVec 11)
  /-- INJECT_PLL_LOSS (R467): a GO write of FLT_INJ with KIND 6. -/
  | injectPllLoss
  /-- INJECT_HEARTBEAT_STOP (R467): a GO write of FLT_INJ with KIND 7. -/
  | injectHeartbeatStop
  /-- INJECT_LANE_ERRORS (R467): a GO write of FLT_INJ with KIND 8. -/
  | injectLaneErrors (unit : BitVec 11)
  /-- INJECT_LATH_ERROR (R467): a GO write of FLT_INJ with KIND 9. -/
  | injectLathError
  /-- INJECT_RING_IDLE (R467): a GO write of FLT_INJ with KIND 10. -/
  | injectRingIdle (unit : BitVec 11)
  /-- INJLOCK (R467): a write of 1 to FLT_CTL.INJLOCK. -/
  | injlock
  /-- GLB_INTCTL_ARM (R484): a write of 1 to GLB_INTCTL.ARM. -/
  | glbIntctlArm
  /-- REGISTER_WRITE (R474): a BAR0 write at a byte offset with its byte enables (bits 0 to 3 the first word, 4 to 7 the
  second). -/
  | registerWrite (addr : BitVec 24) (be : BitVec 8) (v : BitVec 64)
  /-- REGISTER_READ (R474): a BAR0 read of `n` bytes at a byte offset. -/
  | registerRead (addr : BitVec 24) (n : BitVec 4)
  /-- CONFIGURATION_REQUEST (R59): a PCIe configuration request. -/
  | configurationRequest (c : ConfigRequest)
  /-- SUPPLY_CLEAR (R291): rail `i` of R34 returns inside its monitor window. -/
  | supplyClear (i : Fin 16)
  /-- RETURNED_FRAME (R90, R93): what Batten's receiver of a direction of ring `r` finds of a downstream frame. -/
  | returnedFrame (r : Fin 8) (ccw : Bool) (f : ReturnFind)
  /-- CONVERTER_OVER_RANGE (R265): waveform converter `i` produces an over-range code. -/
  | converterOverRange (i : Fin 32)
  /-- POSELATE (R260): 1 ms has passed since frame `n`'s boundary. -/
  | poselate (n : Nat)
  /-- DARK_N_RELEASE (R304): the minimum low time of DARK_N has run. -/
  | darkNRelease
  /-- TIE_UNIT_UNHEARD (R422): unit `u` has not been heard for 30 ms. -/
  | tieUnitUnheard (u : Fin 8)
  /-- FW_STAGE_DONE (R430): the slot's programming and read-back end. -/
  | fwStageDone (flashOk : Bool)
  /-- JTAG_ACCESS (R445): a JTAG debug or boundary-scan access. -/
  | jtagAccess (a : JtagAccess)
deriving DecidableEq, Repr

end Sys2Proof
end

