-- ==== Sys2Proof/Decode.lean ====
section
/-!
DEFINITION. The decoder of table words. The opcode table of this block gives no row any bits: a command arrives as a
register access, a frame or an event, never as a word. So no word spells a command.
-/
namespace Sys2Proof

/-- The command that a word of the table spells: none, since the table gives its rows no bits. -/
def decodeTableWord (_nbits _w : Nat) : Option Instr := none

end Sys2Proof
end

