-- ==== Sys2Proof/Config.lean ====
section
/-!
DEFINITION. The configuration: the free values of the model, as constants without a body. Nothing in Lean can evaluate
one, so whatever is proved of the machine holds for every value of them. Each is named in an assumption log entry.
-/
namespace Sys2Proof.Config

/-- Whether the IDLE fill before what a lane sends next has an odd number of IDLE sets (R408): fill is not shown. -/
opaque idleOdd : Nat → Bool

/-- Which bit of the PRBS-31 register is its output, the one shifted out or the one fed in, and whether the first output bit is bit 0
of its data character or bit 7 (R410). -/
opaque prbsFedIn : Bool
opaque prbsLsbFirst : Bool

/-- The DFE taps that a training finds, and the tap and direction of a trimming step (R410, R411). -/
opaque dfeTrained : Nat → List Int
opaque dfeStep : Nat → Nat × Bool

/-- The figure of merit behind a FOMLOW (R411). -/
opaque lowFom : Nat → Nat

/-- Detail bytes of a report whose chapter states no content for them (R462): by source, code and unit. -/
opaque freeDetail : Nat → Nat → Nat → BitVec 64

/-- The cause that the marker of the root-domain watchdog's HALT carries; the spec states none (R460). -/
opaque wdogCause : Nat

/-- Sign and payload of a binary32 result that is not a number (R71). -/
opaque nanBits : Word

/-- The DEMAND field of a coast frame (R67: the inverter ignores it). -/
opaque coastDemand : Nat → BitVec 16

/-- OFS and GAIN that an interleaved slot's result uses, from those of SAR0 and SAR1 (R329 names one converter's). -/
opaque ilvCorrection : Int → Int → Int → Int → Int × Int

/-- Setpoint and error words of a response capture entry taken while no loop runs (R84). -/
opaque capIdle : Nat → Word

/-- The 64-bit unit identity in the one-time memory, which is the unit seed (R129, R449). -/
opaque unitId : BitVec 64

/-- The tag of a proof pulse that opens no reference burst; the spec states none (R95, R119). -/
opaque proofTag : Nat → Nat

/-- How a tie master's generator goes on where a code has been redrawn 4,096 times and still coincides too often (R137): by
generation, unit, K and code; the spec states no end of the redraws. -/
opaque tieGap : Nat → Nat → Nat → Nat → Nat → Nat

/-- What a read of an HBM address beyond the 96 GiB of R15 finds: draw and address; the spec states no such memory. -/
opaque noMemory : Nat → Nat → Byte

/-- Bytes of the lookback region while it holds frames: draw and address; the spec gives no layout of its slots (R245). -/
opaque lookbackByte : Nat → Nat → Byte

/-- The last places of q(n, mu) as the standard program set's own fixed sequence gives it in binary32 (R207); the spec states
no sequence. -/
opaque engineQErr : Nat → Word → Int

/-- The last places of log2 as an engine gives it, within 2 ulp (R197). -/
opaque engineLogErr : Word → Int

/-- Bytes of a channel's calibration block before any channel calibration table has been loaded: channel and offset (R361). -/
opaque calBlank : Nat → Nat → Byte

/-- The fine value of a raw tap of a TDC that no calibration has given a table (R147). -/
opaque fineBlank : Nat → Nat → Nat

/-- The last place of a sine, a cosine, an atan2 or an arcsine in turns (0 to 3), by its operands (R83, R253): the spec states
no rounding of them. -/
opaque trigErr : Nat → Word → Word → Int

/-- One output of the 15-tap fractional-delay filter of an interleaved lane: by SKEW(2p) - SKEW(2p + 1) and the 15 samples of its
span, newest first (R266); the spec states no taps. -/
opaque fracDelay : Int → List Int → Int

/-- The sense in which a larger SKEW moves the odd samples of a pair (R266, R362); the spec does not state it. -/
opaque skewSense : Bool

/-- The HBM row, and the channel of its stack, of an HBM word; the spec gives neither organisation (R453, R458). -/
opaque hbmRow : Nat → Nat
opaque hbmChannel : Nat → Nat

/-- The frame and the column of the history that an HBM word of the lookback region holds; the spec gives no addresses within a
slot (R245, R454). -/
opaque hbmColumn : Nat → Nat × Nat

/-- Where a table or image is placed in the firmware region: the area tried first (R380: Krovent chooses the staged area). -/
opaque areaPick : Nat → Nat

/-- The target that GRT_LASTDENY shows for an HBM address in no enabled window (R445). -/
opaque noTarget : Nat

/-- Bytes that the spec leaves unspecified in HBM: those of a failing burst, and those a stopped transfer had read (R401). -/
opaque freeByte : Nat → Nat → Byte

/-- The burst of a descriptor in which an error lies, by the free-value counter (R401). -/
opaque failBurst : Nat → Nat

/-! Cryptography that the spec takes from FIPS 180-4, FIPS 186-5 and AES-GCM, and the production contents of the one-time memory
(R423, R424). -/

/-- SHA-384 of a byte string. -/
opaque sha384 : List Byte → BitVec 384

/-- The key hash of a key slot. -/
opaque keyHash : Nat → List Byte

/-- ECDSA P-384: public key, hash and signature agree. -/
opaque p384Verify : List Byte → List Byte → List Byte → Bool

/-- AES-256-GCM opening under the image key: additional data, IV, ciphertext and tag; none where the tag fails. -/
opaque gcmOpen : List Byte → List Byte → List Byte → List Byte → Option (List Byte)

/-- AES-256-GCM sealing under the image key: additional data, IV and plaintext; ciphertext and tag. -/
opaque gcmSeal : List Byte → List Byte → List Byte → List Byte × List Byte

/-- A fresh 96-bit IV of the random source (R432), by the free-value counter. -/
opaque freshIv : Nat → List Byte

/-- The journal generation that the random source draws (R232). -/
opaque newGen : Nat → BitVec 32

/-! The content of settings record 6, to which the spec gives no layout (R440); the tables it holds are larger than a settings
copy, so they are held packed. -/

/-- Record 6: tables by TABLE_LOAD kind, packed and unpacked. -/
opaque packTables : List (Nat × List Byte) → List Byte
opaque unpackTable : List Byte → Nat → Option (List Byte)

/-- RESULT of a completion for which the spec states none (R378, R379). -/
opaque noResult : Nat

/-- A configuration-space dword to which the spec gives no value (R370), and the BUFID of a subscriber completion that names no
buffer (R387). -/
opaque cfgWord : Nat → BitVec 32
opaque noBufid : Nat

/-- What a transfer had not issued when Bus Master Enable was cleared under it (R373). -/
opaque cutResidue : Nat → Nat

/-- Argument 1 of a recovery command's reply, by opcode (R444 states argument 0). -/
opaque replyArg : Nat → Nat

/-- The residue of an ABORT written as a register (R399). -/
opaque abortResidue : Nat → Nat

/-- What the loader finds in the instruction words of a program-set image that PROG_LOAD brings (R205); the spec gives the
engine's instruction encodings no layout. -/
opaque proofOf : List Byte → ProofFind

/-- What an engine's scratch memory holds (R203): unspecified when a work item starts. -/
opaque scratch : Nat → Nat → Byte

/-- Girt's number for the master of a cluster (R216, R445): the spec gives none. -/
opaque clusterMaster : Nat → Nat

/-- RESULT of a PROG_LOAD that ends before any proof runs, and the slot and cost of a proof that fails before a slot's cost is
computed (R205, R379, R436). -/
opaque noProof : List Byte → Nat

/-- The configuration words of the drivers, from word 0x0100 up, that an epoch stages; the spec names no source of them in the
part (R97, R112). -/
opaque driverWords : Nat → Word × List Word

/-- The functional-safety grade of the part, an OTP bit (R4, R480). -/
opaque safetyGrade : Bool

/-- What the bring-up of a ring finds when RINGEN is written as a register (R104, R121). -/
opaque ringFinds : Nat → List (Fin 8 × RingFind)


/-- The regulator addresses that the data of settings record 7 spell (R38, R440): the spec states no layout of the record. -/
opaque pmbusAddrs : List Byte → List (BitVec 7)

end Sys2Proof.Config
end

