-- ==== Sys2Proof/Machine/Operands.lean ====
section
/-!
DEFINITION. Bytes, words and check codes: little-endian fields (R9), CRC-16/CCITT (R218), and small list helpers that
the operand forms of the commands use.
-/
namespace Sys2Proof.Machine

/-- A little-endian field of `n` bytes (R9). -/
def leBytes : Nat → Nat → List Byte
  | 0, _ => []
  | n + 1, v => BitVec.ofNat 8 v :: leBytes n (v / 256)

/-- The number that bytes hold in little-endian order (R9). -/
def leNat : List Byte → Nat
  | [] => 0
  | b :: r => b.toNat + 256 * leNat r

/-- One bit step of CRC-16 with polynomial 0x1021, no reflection (R218). -/
def crcBit (c : BitVec 16) : BitVec 16 :=
  if c.getMsbD 0 then (c <<< 1) ^^^ 0x1021#16 else c <<< 1

/-- One byte of CRC-16/CCITT. -/
def crcByte (c : BitVec 16) (b : Byte) : BitVec 16 :=
  crcBit (crcBit (crcBit (crcBit (crcBit (crcBit (crcBit (crcBit (c ^^^ (b.setWidth 16 <<< 8)))))))))

/-- CRC-16/CCITT: polynomial 0x1021, initial 0xFFFF, no reflection, no final XOR (R218). -/
def crc16 (bs : List Byte) : BitVec 16 := bs.foldl crcByte 0xFFFF#16

/-- One bit step of CRC-32C, reflected. -/
def crc32Bit (c : Word) : Word := if c.getLsbD 0 then (c >>> 1) ^^^ 0x82F63B78#32 else c >>> 1

/-- One byte of CRC-32C. -/
def crc32Byte (c : Word) (b : Byte) : Word :=
  crc32Bit (crc32Bit (crc32Bit (crc32Bit (crc32Bit (crc32Bit (crc32Bit (crc32Bit (c ^^^ b.setWidth 32))))))))

/-- CRC-32C: polynomial 0x1EDC6F41, initial value and final XOR of all ones, input and output reflected (R92). -/
def crc32c (bs : List Byte) : Word := bs.foldl crc32Byte 0xFFFFFFFF#32 ^^^ 0xFFFFFFFF#32

/-- Bits [lo+w-1:lo] of a number. -/
def bits (v lo w : Nat) : Nat := v / 2 ^ lo % 2 ^ w

/-- `n` bytes of a list from an offset; bytes beyond its end read 0. -/
def sliceBytes (bs : List Byte) (o n : Nat) : List Byte := (List.range n).map (fun i => bs.getD (o + i) 0)

/-- The number held by `n` little-endian bytes of a list from an offset. -/
def fieldAt (bs : List Byte) (o n : Nat) : Nat := leNat (sliceBytes bs o n)

/-- Clamp to a range. -/
def clampN (lo hi v : Nat) : Nat := max lo (min hi v)

/-- Clamp of a signed number. -/
def clampI (lo hi v : Int) : Int := max lo (min hi v)

/-- Division rounded to nearest, ties away from zero upwards (positive divisor). -/
def divRound (a : Int) (d : Nat) : Int := (2 * a + d) / (2 * d)

/-- Square root rounded down, by bit-wise search over `fuel` bits. -/
def isqrtAux (n : Nat) : Nat → Nat → Nat
  | 0, r => r
  | k + 1, r => let t := r + 2 ^ k; isqrtAux n k (if t * t ≤ n then t else r)

/-- Integer square root, rounded down. -/
def isqrt (n : Nat) : Nat := isqrtAux n (Nat.log2 n / 2 + 1) 0

/-- Remove the first element that satisfies a test. -/
def removeFirst {α : Type} (p : α → Bool) : List α → List α
  | [] => []
  | a :: r => if p a then r else a :: removeFirst p r

/-- Replace every element that satisfies a test. -/
def updateWhere {α : Type} (p : α → Bool) (f : α → α) (l : List α) : List α :=
  l.map (fun a => if p a then f a else a)

/-- Number of bits set among the lowest `n` of a number. -/
def popCount (v : Nat) : Nat → Nat
  | 0 => 0
  | n + 1 => (if v.testBit n then 1 else 0) + popCount v n

/-- A number with one bit set or cleared. -/
def putBit (v i : Nat) (b : Bool) : Nat :=
  if b then v ||| 2 ^ i else if v.testBit i then v - 2 ^ i else v

end Sys2Proof.Machine
end

