-- ==== Sys2Proof/Machine/Store.lean ====
section
/-!
DEFINITION. Sparse stores as plain lists of (key, value) pairs in one canonical form: keys strictly rising, and no
entry equal to what an unlisted key reads as. Registers, HBM, boot flash and every per-channel, per-queue or
per-burst table of the machine are held this way.
-/
namespace Sys2Proof.Machine

/-- What a sparse store holds at a key; `d` is what an unlisted key reads as. -/
def mapGet {α : Type} (d : α) : List (Nat × α) → Nat → α
  | [], _ => d
  | (a, v) :: r, k => if a = k then v else mapGet d r k

/-- A store without any entry for a key. -/
def mapErase {α : Type} (m : List (Nat × α)) (k : Nat) : List (Nat × α) :=
  m.filter (fun p => p.1 != k)

/-- Insertion at the place the key order gives. -/
def mapIns {α : Type} : List (Nat × α) → Nat → α → List (Nat × α)
  | [], k, v => [(k, v)]
  | (a, w) :: r, k, v => if k < a then (k, v) :: (a, w) :: r else (a, w) :: mapIns r k v

/-- A store after one write; writing what an unlisted key reads as removes the entry. -/
def mapSet {α : Type} [DecidableEq α] (d : α) (m : List (Nat × α)) (k : Nat) (v : α) : List (Nat × α) :=
  if v = d then mapErase m k else mapIns (mapErase m k) k v

/-- The canonical form over a default that may depend on the key. -/
def mapWf {α : Type} [DecidableEq α] (d : Nat → α) : List (Nat × α) → Bool
  | [] => true
  | [(k, v)] => decide (v ≠ d k)
  | (k, v) :: (k', v') :: r => decide (v ≠ d k) && decide (k < k') && mapWf d ((k', v') :: r)

end Sys2Proof.Machine
end

