-- ==== Sys2Proof/Machine/Field.lean ====
section
/-!
DEFINITION. Register fields and register descriptors. A field is named by its bit address in BAR0 (eight times the
byte offset of its register, plus its lowest bit) and its width.
-/
namespace Sys2Proof.Machine

/-- One register field: its bit address in BAR0 and its width in bits. -/
structure Fld where
  key   : Nat
  width : Nat
deriving DecidableEq, Repr

/-- The access codes of R12. -/
inductive Acc where
  | rw | ro | wo | w1c | w1s | rc | rwk
deriving DecidableEq, Repr

/-- A register, or a family of `count` equal registers at `base + stride * i`; the fields are given as low bit,
width and access code (R11). Bits in no field are reserved (R476). -/
structure RegDesc where
  base   : Nat
  stride : Nat
  count  : Nat
  fields : List (Nat × Nat × Acc)
deriving DecidableEq, Repr

end Sys2Proof.Machine
end

