-- ==== Sys2Proof/Machine/RegMapGlobal.lean ====
section
/-!
DEFINITION. The register map of the blocks GLB, CLK, THM, FLT, FWU, GRT: one `Fld` per named field of
the chapters' register tables (a field's key is its bit address in BAR0), and each block's register descriptors
(base offset, stride, count, and the fields as low bit, width and access code). An index is taken modulo the number of registers
of its array.
-/
namespace Sys2Proof.Machine.R

/-- GLB_ID.PART, RO, R480: Part number -/
def GLB_ID_PART : Fld := ⟨0, 16⟩
/-- GLB_ID.FAMILY, RO, R480: Turzan family code -/
def GLB_ID_FAMILY : Fld := ⟨16, 16⟩
/-- GLB_REV.STEP, RO, R480: Die stepping, R481; equals the PCIe Revision ID (R370) -/
def GLB_REV_STEP : Fld := ⟨32, 8⟩
/-- GLB_REV.ROMVER, RO, R480: ROM version fixed in the die, R481 -/
def GLB_REV_ROMVER : Fld := ⟨40, 8⟩
/-- GLB_CAP0.NCH, RO, R480: Echo channels -/
def GLB_CAP0_NCH : Fld := ⟨64, 12⟩
/-- GLB_CAP0.NSPTDC, RO, R480: Spare TDCs -/
def GLB_CAP0_NSPTDC : Fld := ⟨76, 6⟩
/-- GLB_CAP0.NCLUS, RO, R480: Joist clusters, spare included -/
def GLB_CAP0_NCLUS : Fld := ⟨82, 6⟩
/-- GLB_CAP0.NHBM, RO, R480: HBM capacity, GiB -/
def GLB_CAP0_NHBM : Fld := ⟨88, 8⟩
/-- GLB_CAP1.NLANE, RO, R480: Dowel lane pairs -/
def GLB_CAP1_NLANE : Fld := ⟨96, 6⟩
/-- GLB_CAP1.NRING, RO, R480: Emitter rings -/
def GLB_CAP1_NRING : Fld := ⟨102, 4⟩
/-- GLB_CAP1.NWF, RO, R480: Waveform converters -/
def GLB_CAP1_NWF : Fld := ⟨106, 6⟩
/-- GLB_CAP1.NGAUGE, RO, R480: Gauge inputs -/
def GLB_CAP1_NGAUGE : Fld := ⟨112, 4⟩
/-- GLB_CAP1.GRADE, RO, R480: 0 = general; 1 = functional-safety (R4) -/
def GLB_CAP1_GRADE : Fld := ⟨116, 1⟩
/-- GLB_CAP1.FEPOAS, RO, R480: Fepoas compatibility mode available (R316) -/
def GLB_CAP1_FEPOAS : Fld := ⟨117, 1⟩
/-- GLB_STATUS.STAGE, RO, R480: Start-up stage code of R58 -/
def GLB_STATUS_STAGE : Fld := ⟨128, 8⟩
/-- GLB_STATUS.CAUSE, RO, R480: Latest cause of R60 -/
def GLB_STATUS_CAUSE : Fld := ⟨136, 8⟩
/-- GLB_STATUS.DETAIL, RO, R480: Detail byte xx of R60 -/
def GLB_STATUS_DETAIL : Fld := ⟨144, 8⟩
/-- GLB_STATUS.TRUSS, RO, R480: Low bits of TRS_STATE.STATE (R294) -/
def GLB_STATUS_TRUSS : Fld := ⟨152, 3⟩
/-- GLB_STATUS.LIGHT, RO, R480: TRS_STATE.LIGHT -/
def GLB_STATUS_LIGHT : Fld := ⟨155, 1⟩
/-- GLB_RST.KEY, WO, R480: R482 -/
def GLB_RST_KEY : Fld := ⟨160, 32⟩
/-- GLB_RSTCAUSE.CAUSE, RO, R480: Last reset, R483 -/
def GLB_RSTCAUSE_CAUSE : Fld := ⟨192, 4⟩
/-- GLB_RSTCAUSE.JOINED, RO, R480: A further source joined it under R53 -/
def GLB_RSTCAUSE_JOINED : Fld := ⟨196, 1⟩
/-- GLB_RSTCAUSE.RSTCNT, RO, R480: Full resets since power-on reset, saturating at 65,535 -/
def GLB_RSTCAUSE_RSTCNT : Fld := ⟨208, 16⟩
/-- GLB_INTSUM.BLK, RO, R480: Bit b: block b of R473 has a bit set in both its INTSTAT and its INTEN -/
def GLB_INTSUM_BLK : Fld := ⟨256, 22⟩
/-- GLB_SUMEN.EN, RW, R480: Bit b: GLB_INTSUM bit b can raise the summary message -/
def GLB_SUMEN_EN : Fld := ⟨288, 22⟩
/-- GLB_INTCTL.ARM, W1S, R480: Arm the summary message, R484 -/
def GLB_INTCTL_ARM : Fld := ⟨320, 1⟩
/-- GLB_INTCTL.ARMED, RO, R480: Message armed -/
def GLB_INTCTL_ARMED : Fld := ⟨321, 1⟩
/-- GLB_INTSTAT.STAGECHG, W1C, R480: A start-up stage was entered, from HOST_LINK onwards -/
def GLB_INTSTAT_STAGECHG : Fld := ⟨384, 1⟩
/-- GLB_INTSTAT.ACCERR, W1C, R480: R475, R477 -/
def GLB_INTSTAT_ACCERR : Fld := ⟨385, 1⟩
/-- GLB_INTSTAT.KEYBAD, W1C, R480: GLB_RST written with a wrong key -/
def GLB_INTSTAT_KEYBAD : Fld := ⟨386, 1⟩
/-- GLB_INTSTAT.RSTDONE, W1C, R480: Stage RUNNING or READY reached after a full reset -/
def GLB_INTSTAT_RSTDONE : Fld := ⟨387, 1⟩
/-- GLB_INTEN.EN, RW, R480: Enables the GLB_INTSTAT bit of the same position into GLB_INTSUM bit 0 -/
def GLB_INTEN_EN : Fld := ⟨416, 4⟩
/-- GLB_ACCERR.BADACC, RC, R480: Accesses refused under R474 and R475, and writes refused under R477 in blocks without BADCFG, saturating -/
def GLB_ACCERR_BADACC : Fld := ⟨448, 16⟩
/-- GLB_ACCERR.RSVDWR, RC, R480: Writes with reserved bits set, R476, saturating -/
def GLB_ACCERR_RSVDWR : Fld := ⟨464, 16⟩
/-- GLB_LASTERR.OFFSET, RO, R480: BAR0 offset of the last access counted in GLB_ACCERR or KEYBAD -/
def GLB_LASTERR_OFFSET : Fld := ⟨480, 24⟩
/-- GLB_LASTERR.WRITE, RO, R480: 1 = write -/
def GLB_LASTERR_WRITE : Fld := ⟨504, 1⟩
/-- GLB_LASTERR.KIND, RO, R480: 0 unassigned; 1 size or byte enables; 2 reserved bits; 3 reserved encoding; 4 wrong GLB_RST key; 5–7 never produced -/
def GLB_LASTERR_KIND : Fld := ⟨505, 3⟩
/-- GLB_SCRATCH.DATA, RW, R480: Free for host software; Krovent never reads it -/
def GLB_SCRATCH_DATA : Fld := ⟨512, 32⟩

/-- CLK_STATUS.TBSTATE, RO, R47: Timebase state per R40 -/
def CLK_STATUS_TBSTATE : Fld := ⟨524288, 2⟩
/-- CLK_STATUS.OCXORDY, RO, R47: Filtered level of OCXO_RDY -/
def CLK_STATUS_OCXORDY : Fld := ⟨524290, 1⟩
/-- CLK_STATUS.REFOK, RO, R47: 1 = REFCLK present, and its frequency ratio to the Truss oscillator steady within 0.1 % over every 100 µs (R291). Its absolute frequency is not judged, because the Truss oscillator is only ±2 % (R491) -/
def CLK_STATUS_REFOK : Fld := ⟨524291, 1⟩
/-- CLK_STATUS.PLLALOCK, RO, R47: Root PLL A locked -/
def CLK_STATUS_PLLALOCK : Fld := ⟨524292, 1⟩
/-- CLK_STATUS.PLLBLOCK, RO, R47: Root PLL B locked -/
def CLK_STATUS_PLLBLOCK : Fld := ⟨524293, 1⟩
/-- CLK_STATUS.PLLSEL, RO, R47: Active root PLL: 0 = A, 1 = B -/
def CLK_STATUS_PLLSEL : Fld := ⟨524294, 1⟩
/-- CLK_STATUS.PPSOK, RO, R47: PPS edge seen within the last 1.5 s -/
def CLK_STATUS_PPSOK : Fld := ⟨524295, 1⟩
/-- CLK_STATUS.DRIFTVAL, RO, R47: CLK_DRIFT holds a valid estimate -/
def CLK_STATUS_DRIFTVAL : Fld := ⟨524296, 1⟩
/-- CLK_STATUS.TSET, RO, R47: Device time set by host since power-on reset -/
def CLK_STATUS_TSET : Fld := ⟨524297, 1⟩
/-- CLK_TBCFG.HOLD, RW, R47: Warm-up hold in seconds, 0–4,095. A write during a running hold leaves max(0, HOLD − elapsed) remaining -/
def CLK_TBCFG_HOLD : Fld := ⟨524320, 12⟩
/-- CLK_TBCFG.PPSEN, RW, R47: 1 = use PPS on GAUGE0 for drift and discipline -/
def CLK_TBCFG_PPSEN : Fld := ⟨524332, 1⟩
/-- CLK_TBCFG.PPSEDGE, RW, R47: 0 = rising edge, 1 = falling edge marks the second -/
def CLK_TBCFG_PPSEDGE : Fld := ⟨524333, 1⟩
/-- CLK_TBCFG.TBGATE, RW, R47: 1 = stage ARM waits for STABLE -/
def CLK_TBCFG_TBGATE : Fld := ⟨524334, 1⟩
/-- CLK_TBCFG.STEPMAX, RW, R47: Largest discipline step in units of 5 ns (200 = 1,000 ns); 0 = measure, never step -/
def CLK_TBCFG_STEPMAX : Fld := ⟨524336, 10⟩
/-- CLK_DRIFT.DRIFT, RO, R47: Signed drift, units of 0.1 ppb/s; 0 while DRIFTVAL = 0 -/
def CLK_DRIFT_DRIFT : Fld := ⟨524352, 32⟩
/-- CLK_FREQERR.FERR, RO, R47: Signed root frequency error against PPS, units of 0.01 ppb; saturates at ±2³¹ − 1 -/
def CLK_FREQERR_FERR : Fld := ⟨524384, 32⟩
/-- CLK_TIMELO.TLO, RO, R47: Device time [31:0]; latches TTHI -/
def CLK_TIMELO_TLO : Fld := ⟨524416, 32⟩
/-- CLK_TIMEHI.TTHI, RO, R47: Device time [63:32] as latched -/
def CLK_TIMEHI_TTHI : Fld := ⟨524448, 32⟩
/-- CLK_PPSOFS.OFS, RO, R47: Signed offset of the last PPS edge from the nearest whole second, ns -/
def CLK_PPSOFS_OFS : Fld := ⟨524480, 32⟩
/-- CLK_HOLDLEFT.LEFT, RO, R47: Seconds of hold remaining, rounded up; reads 0 only once the hold has elapsed -/
def CLK_HOLDLEFT_LEFT : Fld := ⟨524512, 12⟩
/-- CLK_STEPS.STEPS, RO, R47: Steps applied, wraps at 65,535 -/
def CLK_STEPS_STEPS : Fld := ⟨524544, 16⟩
/-- CLK_STEPS.CLAMPS, RO, R47: Steps clamped, wraps at 65,535 -/
def CLK_STEPS_CLAMPS : Fld := ⟨524560, 16⟩
/-- CLK_INTSTAT.TBCHG, W1C, R47: Timebase state changed -/
def CLK_INTSTAT_TBCHG : Fld := ⟨524576, 1⟩
/-- CLK_INTSTAT.PPSLOSS, W1C, R47: PPS lost -/
def CLK_INTSTAT_PPSLOSS : Fld := ⟨524577, 1⟩
/-- CLK_INTSTAT.STEPCLAMP, W1C, R47: A discipline step was clamped -/
def CLK_INTSTAT_STEPCLAMP : Fld := ⟨524578, 1⟩
/-- CLK_INTSTAT.REFLOSS, W1C, R47: REFCLK left REFOK; Truss reacts, this bit only reports -/
def CLK_INTSTAT_REFLOSS : Fld := ⟨524579, 1⟩
/-- CLK_INTSTAT.PLLFAIL, W1C, R47: A root PLL lost lock -/
def CLK_INTSTAT_PLLFAIL : Fld := ⟨524580, 1⟩
/-- CLK_INTEN.EN, RW, R47: Enables for the CLK_INTSTAT bits of the same position into the global interrupt summary -/
def CLK_INTEN_EN : Fld := ⟨524608, 5⟩

/-- THM_STATUS.LMAX, RO, R348: Largest valid logic reading -/
def THM_STATUS_LMAX : Fld := ⟨1048576, 12⟩
/-- THM_STATUS.HMAX, RO, R348: Largest valid HBM reading -/
def THM_STATUS_HMAX : Fld := ⟨1048588, 12⟩
/-- THM_STATUS.LEVEL, RO, R348: Throttle level L, R343 -/
def THM_STATUS_LEVEL : Fld := ⟨1048600, 2⟩
/-- THM_STATUS.LWARN, RO, R348: Logic warning -/
def THM_STATUS_LWARN : Fld := ⟨1048602, 1⟩
/-- THM_STATUS.HWARN, RO, R348: HBM warning -/
def THM_STATUS_HWARN : Fld := ⟨1048603, 1⟩
/-- THM_STATUS.SHUT, RO, R348: Shutdown condition standing, R344, R345 -/
def THM_STATUS_SHUT : Fld := ⟨1048604, 1⟩
/-- THM_STATUS.HBMLOST, RO, R348: HBM contents abandoned, R345; clears at power-on reset -/
def THM_STATUS_HBMLOST : Fld := ⟨1048605, 1⟩
/-- THM_LEVELS.LLVL, RO, R348: Logic level -/
def THM_LEVELS_LLVL : Fld := ⟨1048608, 2⟩
/-- THM_LEVELS.HLVL, RO, R348: HBM level -/
def THM_LEVELS_HLVL : Fld := ⟨1048610, 2⟩
/-- THM_PKG.T, RO, R348: Package reading -/
def THM_PKG_T : Fld := ⟨1048640, 12⟩
/-- THM_PKG.VALID, RO, R348: Reading valid -/
def THM_PKG_VALID : Fld := ⟨1048652, 1⟩
/-- THM_LTHR.WARN, RW, R348: Logic warning, °C -/
def THM_LTHR_WARN : Fld := ⟨1048672, 8⟩
/-- THM_LTHR.THROT, RW, R348: Logic throttle, °C -/
def THM_LTHR_THROT : Fld := ⟨1048680, 8⟩
/-- THM_LTHR.SHUT, RW, R348: Logic shutdown, °C -/
def THM_LTHR_SHUT : Fld := ⟨1048688, 8⟩
/-- THM_HTHR.WARN, RW, R348: HBM warning, °C -/
def THM_HTHR_WARN : Fld := ⟨1048704, 8⟩
/-- THM_HTHR.THROT, RW, R348: HBM throttle, °C -/
def THM_HTHR_THROT : Fld := ⟨1048712, 8⟩
/-- THM_HTHR.SHUT, RW, R348: HBM shutdown, °C -/
def THM_HTHR_SHUT : Fld := ⟨1048720, 8⟩
/-- THM_DWELL.DWELL, RW, R348: Ticks per step down, R343; 0 acts as 1 -/
def THM_DWELL_DWELL : Fld := ⟨1048736, 8⟩
/-- THM_THROTRND.CNT, RC, R348: Ticks with L ≥ 1, saturating -/
def THM_THROTRND_CNT : Fld := ⟨1048768, 32⟩
/-- THM_INTSTAT.WARN, W1C, R348: A warning flag rose -/
def THM_INTSTAT_WARN : Fld := ⟨1048832, 1⟩
/-- THM_INTSTAT.THROTTLE, W1C, R348: L rose -/
def THM_INTSTAT_THROTTLE : Fld := ⟨1048833, 1⟩
/-- THM_INTSTAT.UNTHROT, W1C, R348: L returned to 0 -/
def THM_INTSTAT_UNTHROT : Fld := ⟨1048834, 1⟩
/-- THM_INTSTAT.SHUTDOWN, W1C, R348: Shutdown condition arose -/
def THM_INTSTAT_SHUTDOWN : Fld := ⟨1048835, 1⟩
/-- THM_INTSTAT.SENSFAIL, W1C, R348: A sensor failed, R341 -/
def THM_INTSTAT_SENSFAIL : Fld := ⟨1048836, 1⟩
/-- THM_INTSTAT.HBMLOST, W1C, R348: R345 -/
def THM_INTSTAT_HBMLOST : Fld := ⟨1048837, 1⟩
/-- THM_INTSTAT.BADCFG, W1C, R348: A write was refused -/
def THM_INTSTAT_BADCFG : Fld := ⟨1048838, 1⟩
/-- THM_INTEN.EN, RW, R348: Enables the THM_INTSTAT bit of the same position into the global interrupt summary -/
def THM_INTEN_EN : Fld := ⟨1048864, 7⟩
/-- THM_SENS.T, RO, R348: Last reading -/
def THM_SENS_T (i : Nat) : Fld := ⟨1050624 + 32 * (i % 28), 12⟩
/-- THM_SENS.VALID, RO, R348: Valid at the last tick -/
def THM_SENS_VALID (i : Nat) : Fld := ⟨1050636 + 32 * (i % 28), 1⟩
/-- THM_SENS.FAILED, RO, R348: Failed, R341; clears at power-on reset -/
def THM_SENS_FAILED (i : Nat) : Fld := ⟨1050637 + 32 * (i % 28), 1⟩

/-- FLT_CTL.STOPFULL, RW, R470: R465 -/
def FLT_CTL_STOPFULL : Fld := ⟨41943040, 1⟩
/-- FLT_CTL.INJLOCK, W1S, R470: R467; clears at power-on reset -/
def FLT_CTL_INJLOCK : Fld := ⟨41943041, 1⟩
/-- FLT_CFG.FLUSHT, RW, R470: ms, R463; 0 acts as 1 -/
def FLT_CFG_FLUSHT : Fld := ⟨41943072, 16⟩
/-- FLT_CFG.INTSEV, RW, R470: Least severity that sets ENTRY; 5–7 act as 4 -/
def FLT_CFG_INTSEV : Fld := ⟨41943088, 3⟩
/-- FLT_HBMCFG.SPARETH, RW, R470: R453; 0 = no sparing on corrected errors -/
def FLT_HBMCFG_SPARETH : Fld := ⟨41943104, 8⟩
/-- FLT_HBMCFG.SPAREWIN, RW, R470: Minutes; 0 acts as 1 -/
def FLT_HBMCFG_SPAREWIN : Fld := ⟨41943112, 8⟩
/-- FLT_HBMCFG.SCRUBH, RW, R470: Hours per scrub pass; 0 = no scrub -/
def FLT_HBMCFG_SCRUBH : Fld := ⟨41943120, 8⟩
/-- FLT_STATUS.OPEN, RO, R470: Open entries, 0–256 -/
def FLT_STATUS_OPEN : Fld := ⟨41943136, 9⟩
/-- FLT_STATUS.FULL, RO, R470: R465 -/
def FLT_STATUS_FULL : Fld := ⟨41943145, 1⟩
/-- FLT_STATUS.MGMTSB, RO, R470: Standby management core in service -/
def FLT_STATUS_MGMTSB : Fld := ⟨41943146, 1⟩
/-- FLT_STATUS.ACTCORE, RO, R470: Active management core -/
def FLT_STATUS_ACTCORE : Fld := ⟨41943147, 1⟩
/-- FLT_STATUS.SCRUB, RO, R470: Scrub pass running -/
def FLT_STATUS_SCRUB : Fld := ⟨41943148, 1⟩
/-- FLT_HEADLO.ESEQ, RO, R470: Next ESEQ [31:0]; latches HEADHI -/
def FLT_HEADLO_ESEQ : Fld := ⟨41943168, 32⟩
/-- FLT_HEADHI.ESEQ, RO, R470: Next ESEQ [63:32] -/
def FLT_HEADHI_ESEQ : Fld := ⟨41943200, 32⟩
/-- FLT_OLDLO.ESEQ, RO, R470: Oldest ESEQ held [31:0]; latches OLDHI -/
def FLT_OLDLO_ESEQ : Fld := ⟨41943232, 32⟩
/-- FLT_OLDHI.ESEQ, RO, R470: Oldest ESEQ held [63:32] -/
def FLT_OLDHI_ESEQ : Fld := ⟨41943264, 32⟩
/-- FLT_OVERFLOW.CNT, RC, R470: Reports dropped, R464, R454, saturating -/
def FLT_OVERFLOW_CNT : Fld := ⟨41943296, 32⟩
/-- FLT_LOSTFULL.CNT, RC, R470: Entries not written, R465, saturating -/
def FLT_LOSTFULL_CNT : Fld := ⟨41943328, 32⟩
/-- FLT_RDSEQLO.ESEQ, RW, R470: Entry to read [31:0] -/
def FLT_RDSEQLO_ESEQ : Fld := ⟨41943360, 32⟩
/-- FLT_RDSEQHI.ESEQ, RW, R470: Entry to read [63:32]; a write loads it, R466 -/
def FLT_RDSEQHI_ESEQ : Fld := ⟨41943392, 32⟩
/-- FLT_RDSTAT.VALID, RO, R470: Loaded entry held -/
def FLT_RDSTAT_VALID : Fld := ⟨41943424, 1⟩
/-- FLT_RDDATA.DATA, RO, R470: Entry bytes 4i to 4i + 3, i = 0–15 -/
def FLT_RDDATA_DATA (i : Nat) : Fld := ⟨41943552 + 32 * (i % 16), 32⟩
/-- FLT_HBMCOR.CNT, RC, R470: Corrected words of stack s, saturating -/
def FLT_HBMCOR_CNT (i : Nat) : Fld := ⟨41944064 + 64 * (i % 4), 32⟩
/-- FLT_HBMUNC.CNT, RC, R470: Uncorrectable words of stack s, saturating -/
def FLT_HBMUNC_CNT (i : Nat) : Fld := ⟨41944096 + 64 * (i % 4), 32⟩
/-- FLT_HBMSPARE.SPARED, RO, R470: Rows spared in stack s since power-on reset -/
def FLT_HBMSPARE_SPARED (i : Nat) : Fld := ⟨41944320 + 32 * (i % 4), 16⟩
/-- FLT_HBMSPARE.REFUSED, RO, R470: Repairs refused, R453 -/
def FLT_HBMSPARE_REFUSED (i : Nat) : Fld := ⟨41944336 + 32 * (i % 4), 16⟩
/-- FLT_PCIE.LANEOUT, RO, R470: Lanes removed, R457 -/
def FLT_PCIE_LANEOUT : Fld := ⟨41944448, 16⟩
/-- FLT_POH.SEC, RO, R470: Seconds since power-on reset -/
def FLT_POH_SEC : Fld := ⟨41944480, 32⟩
/-- FLT_HOTSEC.SEC, RO, R470: Seconds with LMAX above 95 °C, R469 -/
def FLT_HOTSEC_SEC : Fld := ⟨41944512, 32⟩
/-- FLT_TJAVG.T, RO, R470: Mean LMAX, 0.125 °C -/
def FLT_TJAVG_T : Fld := ⟨41944544, 12⟩
/-- FLT_INJ.KIND, RWK, R470: R467 -/
def FLT_INJ_KIND : Fld := ⟨41944576, 5⟩
/-- FLT_INJ.UNIT, RWK, R470: R467 -/
def FLT_INJ_UNIT : Fld := ⟨41944581, 11⟩
/-- FLT_INJ.GO, RWK, R470: Write 1: inject (a command bit, R292); reads 1 until injected or refused -/
def FLT_INJ_GO : Fld := ⟨41944592, 1⟩
/-- FLT_INJADDRLO.ADDR, RWK, R470: HBM address [31:0]; bits [4:0] must be 0 -/
def FLT_INJADDRLO_ADDR : Fld := ⟨41944608, 32⟩
/-- FLT_INJADDRHI.ADDR, RWK, R470: HBM address [39:32] -/
def FLT_INJADDRHI_ADDR : Fld := ⟨41944640, 8⟩
/-- FLT_INTSTAT.ENTRY, W1C, R470: Entry of severity ≥ INTSEV written -/
def FLT_INTSTAT_ENTRY : Fld := ⟨41944704, 1⟩
/-- FLT_INTSTAT.OVERFLOW, W1C, R470: R464 -/
def FLT_INTSTAT_OVERFLOW : Fld := ⟨41944705, 1⟩
/-- FLT_INTSTAT.FULL, W1C, R470: R465 -/
def FLT_INTSTAT_FULL : Fld := ⟨41944706, 1⟩
/-- FLT_INTSTAT.SPARE, W1C, R470: Row spared -/
def FLT_INTSTAT_SPARE : Fld := ⟨41944707, 1⟩
/-- FLT_INTSTAT.SPAREOUT, W1C, R470: Repair refused -/
def FLT_INTSTAT_SPAREOUT : Fld := ⟨41944708, 1⟩
/-- FLT_INTSTAT.UNCOR, W1C, R470: Uncorrectable HBM word -/
def FLT_INTSTAT_UNCOR : Fld := ⟨41944709, 1⟩
/-- FLT_INTSTAT.PLLSW, W1C, R470: Root PLL switched, R455 -/
def FLT_INTSTAT_PLLSW : Fld := ⟨41944710, 1⟩
/-- FLT_INTSTAT.MGMTSW, W1C, R470: Management takeover, R456 -/
def FLT_INTSTAT_MGMTSW : Fld := ⟨41944711, 1⟩
/-- FLT_INTSTAT.LANEOUT, W1C, R470: PCIe lane removed -/
def FLT_INTSTAT_LANEOUT : Fld := ⟨41944712, 1⟩
/-- FLT_INTSTAT.INJDONE, W1C, R470: Injected fault detected -/
def FLT_INTSTAT_INJDONE : Fld := ⟨41944713, 1⟩
/-- FLT_INTSTAT.BADCFG, W1C, R470: A write was refused -/
def FLT_INTSTAT_BADCFG : Fld := ⟨41944714, 1⟩
/-- FLT_INTEN.EN, RW, R470: Enables the FLT_INTSTAT bit of the same position into the global interrupt summary -/
def FLT_INTEN_EN : Fld := ⟨41944736, 11⟩
/-- FLT_THAVG.T, RO, R470: Mean HMAX, 0.125 °C, R469 -/
def FLT_THAVG_T : Fld := ⟨41944768, 12⟩
/-- FLT_TCYC.CNT, RO, R470: Thermal cycles of the logic junction, R469, saturating -/
def FLT_TCYC_CNT : Fld := ⟨41944800, 32⟩

/-- FWU_STATUS.RUNSLOT, RO, R449: Running slot: 0 = A, 1 = B -/
def FWU_STATUS_RUNSLOT : Fld := ⟨37748736, 1⟩
/-- FWU_STATUS.IMGSTATE, RO, R449: 0 CONFIRMED, 1 TRIAL, 2 MIXED, 3 RECOVERY -/
def FWU_STATUS_IMGSTATE : Fld := ⟨37748737, 2⟩
/-- FWU_STATUS.TRIES, RO, R449: Boot header TRIES -/
def FWU_STATUS_TRIES : Fld := ⟨37748739, 2⟩
/-- FWU_STATUS.SETSRC, RO, R449: 0 copy 0, 1 copy 1, 2 image defaults, 3 never produced -/
def FWU_STATUS_SETSRC : Fld := ⟨37748741, 2⟩
/-- FWU_STATUS.SETLOCK, RO, R449: Settings writes held, R442 -/
def FWU_STATUS_SETLOCK : Fld := ⟨37748743, 1⟩
/-- FWU_STATUS.STAGEBUSY, RO, R449: FW_STAGE running -/
def FWU_STATUS_STAGEBUSY : Fld := ⟨37748744, 1⟩
/-- FWU_STATUS.LIVEPART, RO, R449: Parts live-replaced: bit 0 management, bit 1 clusters -/
def FWU_STATUS_LIVEPART : Fld := ⟨37748745, 2⟩
/-- FWU_STATUS.TRUSSOLD, RO, R449: R425 -/
def FWU_STATUS_TRUSSOLD : Fld := ⟨37748747, 1⟩
/-- FWU_STATUS.OTPPEND, RO, R449: R434 -/
def FWU_STATUS_OTPPEND : Fld := ⟨37748748, 1⟩
/-- FWU_VERSION.VER, RO, R449: Running VERSION -/
def FWU_VERSION_VER : Fld := ⟨37748768, 32⟩
/-- FWU_ALTVER.VER, RO, R449: VEROTH -/
def FWU_ALTVER_VER : Fld := ⟨37748800, 32⟩
/-- FWU_SVN.CNT, RO, R449: Rollback counter -/
def FWU_SVN_CNT : Fld := ⟨37748832, 7⟩
/-- FWU_SVN.RUN, RO, R449: Running SVN -/
def FWU_SVN_RUN : Fld := ⟨37748840, 7⟩
/-- FWU_SVN.REVOKED, RO, R449: Revoked key slots -/
def FWU_SVN_REVOKED : Fld := ⟨37748848, 4⟩
/-- FWU_SVN.KEYSLOT, RO, R449: Running image's key slot -/
def FWU_SVN_KEYSLOT : Fld := ⟨37748852, 2⟩
/-- FWU_SCHEMA.STORE, RO, R449: Store SCHEMA -/
def FWU_SCHEMA_STORE : Fld := ⟨37748864, 16⟩
/-- FWU_SCHEMA.IMAGE, RO, R449: Running W -/
def FWU_SCHEMA_IMAGE : Fld := ⟨37748880, 16⟩
/-- FWU_SETGEN.SGEN, RO, R449: Store generation in use -/
def FWU_SETGEN_SGEN : Fld := ⟨37748896, 32⟩
/-- FWU_ERR.CODE, RO, R449: Last code of R426 -/
def FWU_ERR_CODE : Fld := ⟨37748928, 4⟩
/-- FWU_ERR.SLOT, RO, R449: Slot it concerns -/
def FWU_ERR_SLOT : Fld := ⟨37748932, 1⟩
/-- FWU_CTL.PROGSIG, W1S, R449: R436; clears at power-on reset -/
def FWU_CTL_PROGSIG : Fld := ⟨37748960, 1⟩
/-- FWU_IDLO.ID, RO, R449: Unit identity [31:0] -/
def FWU_IDLO_ID : Fld := ⟨37748992, 32⟩
/-- FWU_IDHI.ID, RO, R449: Unit identity [63:32] -/
def FWU_IDHI_ID : Fld := ⟨37749024, 32⟩
/-- FWU_SAVES.CNT, RC, R449: Store writes, saturating -/
def FWU_SAVES_CNT : Fld := ⟨37749056, 32⟩
/-- FWU_INTSTAT.STAGED, W1C, R449: FW_STAGE completed OK -/
def FWU_INTSTAT_STAGED : Fld := ⟨37749120, 1⟩
/-- FWU_INTSTAT.FALLBACK, W1C, R449: R428 -/
def FWU_INTSTAT_FALLBACK : Fld := ⟨37749121, 1⟩
/-- FWU_INTSTAT.CONFIRMED, W1C, R449: Image confirmed -/
def FWU_INTSTAT_CONFIRMED : Fld := ⟨37749122, 1⟩
/-- FWU_INTSTAT.LIVEDONE, W1C, R449: A live part replaced -/
def FWU_INTSTAT_LIVEDONE : Fld := ⟨37749123, 1⟩
/-- FWU_INTSTAT.IMGREJ, W1C, R449: An image or envelope refused -/
def FWU_INTSTAT_IMGREJ : Fld := ⟨37749124, 1⟩
/-- FWU_INTSTAT.SAVED, W1C, R449: Store written -/
def FWU_INTSTAT_SAVED : Fld := ⟨37749125, 1⟩
/-- FWU_INTEN.EN, RW, R449: Enables the FWU_INTSTAT bit of the same position into the global interrupt summary -/
def FWU_INTEN_EN : Fld := ⟨37749152, 6⟩

/-- GRT_CTL.LOCK, RWK, R450: 1 = tables frozen until the next full reset -/
def GRT_CTL_LOCK : Fld := ⟨39845888, 1⟩
/-- GRT_DENY.CNT, RC, R450: Refused accesses, saturating -/
def GRT_DENY_CNT : Fld := ⟨39845920, 32⟩
/-- GRT_LASTDENY.MASTER, RO, R450: Master of the last refusal -/
def GRT_LASTDENY_MASTER : Fld := ⟨39845952, 4⟩
/-- GRT_LASTDENY.TARGET, RO, R450: Target -/
def GRT_LASTDENY_TARGET : Fld := ⟨39845956, 7⟩
/-- GRT_LASTDENY.WRITE, RO, R450: 1 = write -/
def GRT_LASTDENY_WRITE : Fld := ⟨39845963, 1⟩
/-- GRT_LASTADDRLO.ADDR, RO, R450: Address [31:0] -/
def GRT_LASTADDRLO_ADDR : Fld := ⟨39845984, 32⟩
/-- GRT_LASTADDRHI.ADDR, RO, R450: Address [63:32] -/
def GRT_LASTADDRHI_ADDR : Fld := ⟨39846016, 32⟩
/-- GRT_INTSTAT.DENY, W1C, R450: An access was refused -/
def GRT_INTSTAT_DENY : Fld := ⟨39846144, 1⟩
/-- GRT_INTSTAT.BADCFG, W1C, R450: A write was refused -/
def GRT_INTSTAT_BADCFG : Fld := ⟨39846145, 1⟩
/-- GRT_INTEN.EN, RW, R450: Enables the GRT_INTSTAT bit of the same position into the global interrupt summary -/
def GRT_INTEN_EN : Fld := ⟨39846176, 2⟩
/-- GRT_WINBASE.BASE, RWK, R450: First 2 MiB unit -/
def GRT_WINBASE_BASE (i : Nat) : Fld := ⟨39847936 + 64 * (i % 64), 16⟩
/-- GRT_WINBASE.EN, RWK, R450: Window enabled -/
def GRT_WINBASE_EN (i : Nat) : Fld := ⟨39847967 + 64 * (i % 64), 1⟩
/-- GRT_WINLAST.LAST, RWK, R450: Last 2 MiB unit; below BASE refused -/
def GRT_WINLAST_LAST (i : Nat) : Fld := ⟨39847968 + 64 * (i % 64), 16⟩
/-- GRT_RIGHTS.RIGHTS, RWK, R450: Rights of masters 0–8 -/
def GRT_RIGHTS_RIGHTS (i : Nat) : Fld := ⟨39854080 + 32 * (i % 89), 18⟩

/-- Registers of block GLB, part 1. -/
def regsGLB1 : List RegDesc := [
  ⟨0, 4, 1, [(0, 16, .ro), (16, 16, .ro)]⟩,
  ⟨4, 4, 1, [(0, 8, .ro), (8, 8, .ro)]⟩,
  ⟨8, 4, 1, [(0, 12, .ro), (12, 6, .ro), (18, 6, .ro), (24, 8, .ro)]⟩,
  ⟨12, 4, 1, [(0, 6, .ro), (6, 4, .ro), (10, 6, .ro), (16, 4, .ro), (20, 1, .ro), (21, 1, .ro)]⟩,
  ⟨16, 4, 1, [(0, 8, .ro), (8, 8, .ro), (16, 8, .ro), (24, 3, .ro), (27, 1, .ro)]⟩,
  ⟨20, 4, 1, [(0, 32, .wo)]⟩,
  ⟨24, 4, 1, [(0, 4, .ro), (4, 1, .ro), (16, 16, .ro)]⟩,
  ⟨32, 4, 1, [(0, 22, .ro)]⟩,
  ⟨36, 4, 1, [(0, 22, .rw)]⟩,
  ⟨40, 4, 1, [(0, 1, .w1s), (1, 1, .ro)]⟩,
  ⟨48, 4, 1, [(0, 1, .w1c), (1, 1, .w1c), (2, 1, .w1c), (3, 1, .w1c)]⟩,
  ⟨52, 4, 1, [(0, 4, .rw)]⟩,
  ⟨56, 4, 1, [(0, 16, .rc), (16, 16, .rc)]⟩,
  ⟨60, 4, 1, [(0, 24, .ro), (24, 1, .ro), (25, 3, .ro)]⟩,
  ⟨64, 4, 1, [(0, 32, .rw)]⟩]

/-- All registers of block GLB. -/
def regsGLB : List RegDesc := regsGLB1

/-- Fields of block GLB whose reset value is not 0: (key, key stride, count, value). -/
def resetsGLB : List (Nat × Nat × Nat × Nat) := [
  (0, 32, 1, 4132),
  (16, 32, 1, 21594),
  (32, 32, 1, 16),
  (40, 32, 1, 1),
  (64, 32, 1, 1024),
  (76, 32, 1, 32),
  (82, 32, 1, 33),
  (88, 32, 1, 96),
  (96, 32, 1, 20),
  (102, 32, 1, 8),
  (106, 32, 1, 32),
  (112, 32, 1, 8),
  (117, 32, 1, 1),
  (128, 32, 1, 1)]

/-- Registers of block CLK, part 1. -/
def regsCLK1 : List RegDesc := [
  ⟨65536, 4, 1, [(0, 2, .ro), (2, 1, .ro), (3, 1, .ro), (4, 1, .ro), (5, 1, .ro), (6, 1, .ro), (7, 1, .ro), (8, 1, .ro), (9, 1, .ro)]⟩,
  ⟨65540, 4, 1, [(0, 12, .rw), (12, 1, .rw), (13, 1, .rw), (14, 1, .rw), (16, 10, .rw)]⟩,
  ⟨65544, 4, 1, [(0, 32, .ro)]⟩,
  ⟨65548, 4, 1, [(0, 32, .ro)]⟩,
  ⟨65552, 4, 1, [(0, 32, .ro)]⟩,
  ⟨65556, 4, 1, [(0, 32, .ro)]⟩,
  ⟨65560, 4, 1, [(0, 32, .ro)]⟩,
  ⟨65564, 4, 1, [(0, 12, .ro)]⟩,
  ⟨65568, 4, 1, [(0, 16, .ro), (16, 16, .ro)]⟩,
  ⟨65572, 4, 1, [(0, 1, .w1c), (1, 1, .w1c), (2, 1, .w1c), (3, 1, .w1c), (4, 1, .w1c)]⟩,
  ⟨65576, 4, 1, [(0, 5, .rw)]⟩]

/-- All registers of block CLK. -/
def regsCLK : List RegDesc := regsCLK1

/-- Fields of block CLK whose reset value is not 0: (key, key stride, count, value). -/
def resetsCLK : List (Nat × Nat × Nat × Nat) := [
  (524320, 32, 1, 600),
  (524336, 32, 1, 200)]

/-- Registers of block THM, part 1. -/
def regsTHM1 : List RegDesc := [
  ⟨131072, 4, 1, [(0, 12, .ro), (12, 12, .ro), (24, 2, .ro), (26, 1, .ro), (27, 1, .ro), (28, 1, .ro), (29, 1, .ro)]⟩,
  ⟨131076, 4, 1, [(0, 2, .ro), (2, 2, .ro)]⟩,
  ⟨131080, 4, 1, [(0, 12, .ro), (12, 1, .ro)]⟩,
  ⟨131084, 4, 1, [(0, 8, .rw), (8, 8, .rw), (16, 8, .rw)]⟩,
  ⟨131088, 4, 1, [(0, 8, .rw), (8, 8, .rw), (16, 8, .rw)]⟩,
  ⟨131092, 4, 1, [(0, 8, .rw)]⟩,
  ⟨131096, 4, 1, [(0, 32, .rc)]⟩,
  ⟨131104, 4, 1, [(0, 1, .w1c), (1, 1, .w1c), (2, 1, .w1c), (3, 1, .w1c), (4, 1, .w1c), (5, 1, .w1c), (6, 1, .w1c)]⟩,
  ⟨131108, 4, 1, [(0, 7, .rw)]⟩,
  ⟨131328, 4, 28, [(0, 12, .ro), (12, 1, .ro), (13, 1, .ro)]⟩]

/-- All registers of block THM. -/
def regsTHM : List RegDesc := regsTHM1

/-- Fields of block THM whose reset value is not 0: (key, key stride, count, value). -/
def resetsTHM : List (Nat × Nat × Nat × Nat) := [
  (1048672, 32, 1, 95),
  (1048680, 32, 1, 105),
  (1048688, 32, 1, 115),
  (1048704, 32, 1, 85),
  (1048712, 32, 1, 92),
  (1048720, 32, 1, 100),
  (1048736, 32, 1, 25)]

/-- Registers of block FLT, part 1. -/
def regsFLT1 : List RegDesc := [
  ⟨5242880, 4, 1, [(0, 1, .rw), (1, 1, .w1s)]⟩,
  ⟨5242884, 4, 1, [(0, 16, .rw), (16, 3, .rw)]⟩,
  ⟨5242888, 4, 1, [(0, 8, .rw), (8, 8, .rw), (16, 8, .rw)]⟩,
  ⟨5242892, 4, 1, [(0, 9, .ro), (9, 1, .ro), (10, 1, .ro), (11, 1, .ro), (12, 1, .ro)]⟩,
  ⟨5242896, 4, 1, [(0, 32, .ro)]⟩,
  ⟨5242900, 4, 1, [(0, 32, .ro)]⟩,
  ⟨5242904, 4, 1, [(0, 32, .ro)]⟩,
  ⟨5242908, 4, 1, [(0, 32, .ro)]⟩,
  ⟨5242912, 4, 1, [(0, 32, .rc)]⟩,
  ⟨5242916, 4, 1, [(0, 32, .rc)]⟩,
  ⟨5242920, 4, 1, [(0, 32, .rw)]⟩,
  ⟨5242924, 4, 1, [(0, 32, .rw)]⟩,
  ⟨5242928, 4, 1, [(0, 1, .ro)]⟩,
  ⟨5242944, 4, 16, [(0, 32, .ro)]⟩,
  ⟨5243008, 8, 4, [(0, 32, .rc)]⟩,
  ⟨5243012, 8, 4, [(0, 32, .rc)]⟩,
  ⟨5243040, 4, 4, [(0, 16, .ro), (16, 16, .ro)]⟩,
  ⟨5243056, 4, 1, [(0, 16, .ro)]⟩,
  ⟨5243060, 4, 1, [(0, 32, .ro)]⟩,
  ⟨5243064, 4, 1, [(0, 32, .ro)]⟩,
  ⟨5243068, 4, 1, [(0, 12, .ro)]⟩,
  ⟨5243072, 4, 1, [(0, 5, .rwk), (5, 11, .rwk), (16, 1, .rwk)]⟩,
  ⟨5243076, 4, 1, [(0, 32, .rwk)]⟩,
  ⟨5243080, 4, 1, [(0, 8, .rwk)]⟩]

/-- Registers of block FLT, part 2. -/
def regsFLT2 : List RegDesc := [
  ⟨5243088, 4, 1, [(0, 1, .w1c), (1, 1, .w1c), (2, 1, .w1c), (3, 1, .w1c), (4, 1, .w1c), (5, 1, .w1c), (6, 1, .w1c), (7, 1, .w1c), (8, 1, .w1c), (9, 1, .w1c), (10, 1, .w1c)]⟩,
  ⟨5243092, 4, 1, [(0, 11, .rw)]⟩,
  ⟨5243096, 4, 1, [(0, 12, .ro)]⟩,
  ⟨5243100, 4, 1, [(0, 32, .ro)]⟩]

/-- All registers of block FLT. -/
def regsFLT : List RegDesc := regsFLT1 ++ regsFLT2

/-- Fields of block FLT whose reset value is not 0: (key, key stride, count, value). -/
def resetsFLT : List (Nat × Nat × Nat × Nat) := [
  (41943072, 32, 1, 100),
  (41943088, 32, 1, 3),
  (41943104, 32, 1, 16),
  (41943112, 32, 1, 60),
  (41943120, 32, 1, 1),
  (41943168, 32, 1, 1),
  (41943232, 32, 1, 1)]

/-- Registers of block FWU, part 1. -/
def regsFWU1 : List RegDesc := [
  ⟨4718592, 4, 1, [(0, 1, .ro), (1, 2, .ro), (3, 2, .ro), (5, 2, .ro), (7, 1, .ro), (8, 1, .ro), (9, 2, .ro), (11, 1, .ro), (12, 1, .ro)]⟩,
  ⟨4718596, 4, 1, [(0, 32, .ro)]⟩,
  ⟨4718600, 4, 1, [(0, 32, .ro)]⟩,
  ⟨4718604, 4, 1, [(0, 7, .ro), (8, 7, .ro), (16, 4, .ro), (20, 2, .ro)]⟩,
  ⟨4718608, 4, 1, [(0, 16, .ro), (16, 16, .ro)]⟩,
  ⟨4718612, 4, 1, [(0, 32, .ro)]⟩,
  ⟨4718616, 4, 1, [(0, 4, .ro), (4, 1, .ro)]⟩,
  ⟨4718620, 4, 1, [(0, 1, .w1s)]⟩,
  ⟨4718624, 4, 1, [(0, 32, .ro)]⟩,
  ⟨4718628, 4, 1, [(0, 32, .ro)]⟩,
  ⟨4718632, 4, 1, [(0, 32, .rc)]⟩,
  ⟨4718640, 4, 1, [(0, 1, .w1c), (1, 1, .w1c), (2, 1, .w1c), (3, 1, .w1c), (4, 1, .w1c), (5, 1, .w1c)]⟩,
  ⟨4718644, 4, 1, [(0, 6, .rw)]⟩]

/-- All registers of block FWU. -/
def regsFWU : List RegDesc := regsFWU1

/-- Fields of block FWU whose reset value is not 0: (key, key stride, count, value). -/
def resetsFWU : List (Nat × Nat × Nat × Nat) := [
  (37748743, 32, 1, 1)]

/-- Registers of block GRT, part 1. -/
def regsGRT1 : List RegDesc := [
  ⟨4980736, 4, 1, [(0, 1, .rwk)]⟩,
  ⟨4980740, 4, 1, [(0, 32, .rc)]⟩,
  ⟨4980744, 4, 1, [(0, 4, .ro), (4, 7, .ro), (11, 1, .ro)]⟩,
  ⟨4980748, 4, 1, [(0, 32, .ro)]⟩,
  ⟨4980752, 4, 1, [(0, 32, .ro)]⟩,
  ⟨4980768, 4, 1, [(0, 1, .w1c), (1, 1, .w1c)]⟩,
  ⟨4980772, 4, 1, [(0, 2, .rw)]⟩,
  ⟨4980992, 8, 64, [(0, 16, .rwk), (31, 1, .rwk)]⟩,
  ⟨4980996, 8, 64, [(0, 16, .rwk)]⟩,
  ⟨4981760, 4, 89, [(0, 18, .rwk)]⟩]

/-- All registers of block GRT. -/
def regsGRT : List RegDesc := regsGRT1

/-- Fields of block GRT whose reset value is not 0: the right of JTAG debug, read-write on every target (R450). -/
def resetsGRT : List (Nat × Nat × Nat × Nat) := [(39854080, 32, 89, 0x30000)]

end Sys2Proof.Machine.R
end

