-- ==== Sys2Proof/Machine/RegMapHost.lean ====
section
/-!
DEFINITION. The register map of the blocks WFP, DOG, SIL, PLB, HIF, PUR, DWL: one `Fld` per named field of
the chapters' register tables (a field's key is its bit address in BAR0), and each block's register descriptors
(base offset, stride, count, and the fields as low bit, width and access code). An index is taken modulo the number of registers
of its array.
-/
namespace Sys2Proof.Machine.R

/-- WFP_CTL.RUN, RW, R287: Plane running; firmware sets it at stage CALIBRATE -/
def WFP_CTL_RUN : Fld := ⟨23068672, 1⟩
/-- WFP_CTL.CORSWAP, W1S, R287: Swap correction banks, R266; reads 1 until applied or refused -/
def WFP_CTL_CORSWAP : Fld := ⟨23068673, 1⟩
/-- WFP_CTL.CORBANK, RO, R287: Active correction bank -/
def WFP_CTL_CORBANK : Fld := ⟨23068674, 1⟩
/-- WFP_ADCEN.EN, RW, R287: Converter enables, R263 -/
def WFP_ADCEN_EN : Fld := ⟨23068704, 32⟩
/-- WFP_PAIRCFG.IL, RW, R287: Interleave pair p, R264 -/
def WFP_PAIRCFG_IL : Fld := ⟨23068736, 16⟩
/-- WFP_ADCRDY.RDY, RO, R287: Converter ready -/
def WFP_ADCRDY_RDY : Fld := ⟨23068768, 32⟩
/-- WFP_OVRSTAT.OVR, W1C, R287: Converter produced an over-range code -/
def WFP_OVRSTAT_OVR : Fld := ⟨23068800, 32⟩
/-- WFP_INTSTAT.OVR, W1C, R287: Over-range code seen -/
def WFP_INTSTAT_OVR : Fld := ⟨23068832, 1⟩
/-- WFP_INTSTAT.SWAPDONE, W1C, R287: A bank swap was applied -/
def WFP_INTSTAT_SWAPDONE : Fld := ⟨23068833, 1⟩
/-- WFP_INTSTAT.BADCFG, W1C, R287: A write or swap was refused -/
def WFP_INTSTAT_BADCFG : Fld := ⟨23068834, 1⟩
/-- WFP_INTSTAT.BANKWR, W1C, R287: Write to an active bank discarded -/
def WFP_INTSTAT_BANKWR : Fld := ⟨23068835, 1⟩
/-- WFP_INTSTAT.SHAPE, W1C, R287: Shape violation, R274 -/
def WFP_INTSTAT_SHAPE : Fld := ⟨23068836, 1⟩
/-- WFP_INTEN.EN, RW, R287: Enables the WFP_INTSTAT bit of the same position into the global interrupt summary -/
def WFP_INTEN_EN : Fld := ⟨23068864, 5⟩
/-- WFP_LANE.HSRC, RW, R287: History stage, R276: 0 = C, 1 = F, 2 = M; 3 refused -/
def WFP_LANE_HSRC (i : Nat) : Fld := ⟨23070720 + 512 * (i % 32), 2⟩
/-- WFP_LANE.DETSRC, RW, R287: Detector source: 0 = F, 1 = M -/
def WFP_LANE_DETSRC (i : Nat) : Fld := ⟨23070722 + 512 * (i % 32), 1⟩
/-- WFP_LANE.CHMAP, RW, R287: Echo channel whose tap feeds the lane -/
def WFP_LANE_CHMAP (i : Nat) : Fld := ⟨23070723 + 512 * (i % 32), 10⟩
/-- WFP_LANE.CHVAL, RW, R287: CHMAP valid -/
def WFP_LANE_CHVAL (i : Nat) : Fld := ⟨23070733 + 512 * (i % 32), 1⟩
/-- WFP_SKEW.SKEW, RW, R287: Signed ball-to-sampler delay, ticks, R268 -/
def WFP_SKEW_SKEW (i : Nat) : Fld := ⟨23070752 + 512 * (i % 32), 16⟩
/-- WFP_SWAP.FSWAP, W1S, R287: Swap F banks, R271 -/
def WFP_SWAP_FSWAP (i : Nat) : Fld := ⟨23070784 + 512 * (i % 32), 1⟩
/-- WFP_SWAP.MSWAP, W1S, R287: Swap M banks -/
def WFP_SWAP_MSWAP (i : Nat) : Fld := ⟨23070785 + 512 * (i % 32), 1⟩
/-- WFP_SWAP.WHEN, RW, R287: R271 -/
def WFP_SWAP_WHEN (i : Nat) : Fld := ⟨23070786 + 512 * (i % 32), 2⟩
/-- WFP_SWAP.FBANK, RO, R287: Active F bank -/
def WFP_SWAP_FBANK (i : Nat) : Fld := ⟨23070788 + 512 * (i % 32), 1⟩
/-- WFP_SWAP.MBANK, RO, R287: Active M bank -/
def WFP_SWAP_MBANK (i : Nat) : Fld := ⟨23070789 + 512 * (i % 32), 1⟩
/-- WFP_SWAPTLO.T, RW, R287: Swap device time [31:0], [63:32], ns -/
def WFP_SWAPTLO_T (i : Nat) : Fld := ⟨23070816 + 512 * (i % 32), 32⟩
/-- WFP_SWAPTHI.T, RW, R287: Swap device time [31:0], [63:32], ns -/
def WFP_SWAPTHI_T (i : Nat) : Fld := ⟨23070848 + 512 * (i % 32), 32⟩
/-- WFP_GATE.GMODE, RW, R287: R272 -/
def WFP_GATE_GMODE (i : Nat) : Fld := ⟨23070880 + 512 * (i % 32), 2⟩
/-- WFP_GATE.DRV, RW, R287: Driver n, 0–63 -/
def WFP_GATE_DRV (i : Nat) : Fld := ⟨23070882 + 512 * (i % 32), 6⟩
/-- WFP_GATE.PROOF, RW, R287: Proof pulses only -/
def WFP_GATE_PROOF (i : Nat) : Fld := ⟨23070888 + 512 * (i % 32), 1⟩
/-- WFP_GATE.DETREC, RW, R287: Write detector records -/
def WFP_GATE_DETREC (i : Nat) : Fld := ⟨23070889 + 512 * (i % 32), 1⟩
/-- WFP_GATE.GPER, RW, R287: Gate period, units of 100 ns; 0 acts as 1 -/
def WFP_GATE_GPER (i : Nat) : Fld := ⟨23070896 + 512 * (i % 32), 16⟩
/-- WFP_GATEOFS.OFS, RW, R287: Signed gate offset, ticks -/
def WFP_GATEOFS_OFS (i : Nat) : Fld := ⟨23070912 + 512 * (i % 32), 32⟩
/-- WFP_GATELEN.LEN, RW, R287: Samples per gate; 0 acts as 1 -/
def WFP_GATELEN_LEN (i : Nat) : Fld := ⟨23070944 + 512 * (i % 32), 16⟩
/-- WFP_ENV.ATT, RW, R287: Envelope attack shift -/
def WFP_ENV_ATT (i : Nat) : Fld := ⟨23070976 + 512 * (i % 32), 4⟩
/-- WFP_ENV.REL, RW, R287: Envelope release shift -/
def WFP_ENV_REL (i : Nat) : Fld := ⟨23070980 + 512 * (i % 32), 4⟩
/-- WFP_SHAPELIM.PKMIN, RW, R287: Least / | PEAK/ |  -/
def WFP_SHAPELIM_PKMIN (i : Nat) : Fld := ⟨23071008 + 512 * (i % 32), 16⟩
/-- WFP_SHAPELIM.PKMAX, RW, R287: Greatest / | PEAK/ |  -/
def WFP_SHAPELIM_PKMAX (i : Nat) : Fld := ⟨23071024 + 512 * (i % 32), 16⟩
/-- WFP_WIDLIM.WMIN, RW, R287: Least WIDTH50, ticks -/
def WFP_WIDLIM_WMIN (i : Nat) : Fld := ⟨23071040 + 512 * (i % 32), 16⟩
/-- WFP_WIDLIM.WMAX, RW, R287: Greatest WIDTH50, ticks -/
def WFP_WIDLIM_WMAX (i : Nat) : Fld := ⟨23071056 + 512 * (i % 32), 16⟩
/-- WFP_DETPEAK.PEAK, RO, R287: R273 -/
def WFP_DETPEAK_PEAK (i : Nat) : Fld := ⟨23071072 + 512 * (i % 32), 16⟩
/-- WFP_DETPEAK.RMS, RO, R287: R273 -/
def WFP_DETPEAK_RMS (i : Nat) : Fld := ⟨23071088 + 512 * (i % 32), 16⟩
/-- WFP_DETTIME.PEAKT, RO, R287: PEAKT from gate start, ticks -/
def WFP_DETTIME_PEAKT (i : Nat) : Fld := ⟨23071104 + 512 * (i % 32), 32⟩
/-- WFP_DETWID.WIDTH50, RO, R287: R273 -/
def WFP_DETWID_WIDTH50 (i : Nat) : Fld := ⟨23071136 + 512 * (i % 32), 16⟩
/-- WFP_DETWID.ENVMAX, RO, R287: R273 -/
def WFP_DETWID_ENVMAX (i : Nat) : Fld := ⟨23071152 + 512 * (i % 32), 16⟩
/-- WFP_DETCNT.SHAPE, RC, R287: Shape violations, saturating -/
def WFP_DETCNT_SHAPE (i : Nat) : Fld := ⟨23071168 + 512 * (i % 32), 16⟩
/-- WFP_DETCNT.SKIP, RC, R287: Gates skipped, R272, saturating -/
def WFP_DETCNT_SKIP (i : Nat) : Fld := ⟨23071184 + 512 * (i % 32), 16⟩
/-- WFP_CORA.OFS, RW, R287: Signed offset, 1/32 LSB -/
def WFP_CORA_OFS (i : Nat) : Fld := ⟨23101440 + 64 * (i % 64), 16⟩
/-- WFP_CORA.GAIN, RW, R287: Signed gain correction, 2⁻¹⁸ -/
def WFP_CORA_GAIN (i : Nat) : Fld := ⟨23101456 + 64 * (i % 64), 16⟩
/-- WFP_CORB.SKEW, RW, R287: Signed skew, 0.05 ps; beyond ±500 invalid -/
def WFP_CORB_SKEW (i : Nat) : Fld := ⟨23101472 + 64 * (i % 64), 12⟩

/-- DOG_CTL.EN, RW, R289: Dog on -/
def DOG_CTL_EN : Fld := ⟨25165824, 1⟩
/-- DOG_CTL.RINGMODE, RW, R289: R283; writable only while every unit is disarmed -/
def DOG_CTL_RINGMODE : Fld := ⟨25165825, 1⟩
/-- DOG_CTL.DRAINCH, RW, R289: Purlin channel, 32–62; 63 and values below 32 refused -/
def DOG_CTL_DRAINCH : Fld := ⟨25165826, 6⟩
/-- DOG_STATUS.RLVL, RO, R289: Rate level in force -/
def DOG_STATUS_RLVL : Fld := ⟨25165856, 2⟩
/-- DOG_STATUS.FILLLVL, RO, R289: Fill level -/
def DOG_STATUS_FILLLVL : Fld := ⟨25165858, 2⟩
/-- DOG_STATUS.DRAINLVL, RO, R289: Drain level -/
def DOG_STATUS_DRAINLVL : Fld := ⟨25165860, 2⟩
/-- DOG_RATECFG.T1, RW, R289: Per cent; T1 < T2 < T3 ≤ 99, else refused -/
def DOG_RATECFG_T1 : Fld := ⟨25165888, 8⟩
/-- DOG_RATECFG.T2, RW, R289: Per cent -/
def DOG_RATECFG_T2 : Fld := ⟨25165896, 8⟩
/-- DOG_RATECFG.T3, RW, R289: Per cent -/
def DOG_RATECFG_T3 : Fld := ⟨25165904, 8⟩
/-- DOG_RATECFG.DRAINT, RW, R289: ms; 0 acts as 1 -/
def DOG_RATECFG_DRAINT : Fld := ⟨25165912, 8⟩
/-- DOG_RINGSIZE.MIB, RO, R289: Ring size, MiB -/
def DOG_RINGSIZE_MIB : Fld := ⟨25165920, 32⟩
/-- DOG_FILL.MIB, RO, R289: Reserved and not freed, MiB -/
def DOG_FILL_MIB : Fld := ⟨25165952, 32⟩
/-- DOG_SEQLO.SEQ, RO, R289: Next SEQ [31:0]; latches SEQHI -/
def DOG_SEQLO_SEQ : Fld := ⟨25165984, 32⟩
/-- DOG_SEQHI.SEQ, RO, R289: Next SEQ [63:32] -/
def DOG_SEQHI_SEQ : Fld := ⟨25166016, 32⟩
/-- DOG_OLDEST.OFS, RO, R289: Offset in the ring of the oldest entry held, units of 64 bytes -/
def DOG_OLDEST_OFS : Fld := ⟨25166048, 32⟩
/-- DOG_FULLDROP.CNT, RC, R289: Entries not made for lack of space, saturating -/
def DOG_FULLDROP_CNT : Fld := ⟨25166080, 32⟩
/-- DOG_RSTDISC.CNT, RC, R289: Entries dropped by full resets, saturating -/
def DOG_RSTDISC_CNT : Fld := ⟨25166112, 32⟩
/-- DOG_INTSTAT.FULL, W1C, R289: R283 -/
def DOG_INTSTAT_FULL : Fld := ⟨25166144, 1⟩
/-- DOG_INTSTAT.RATE, W1C, R289: Rate level rose above 0 -/
def DOG_INTSTAT_RATE : Fld := ⟨25166145, 1⟩
/-- DOG_INTSTAT.LATEPT, W1C, R289: R280 -/
def DOG_INTSTAT_LATEPT : Fld := ⟨25166146, 1⟩
/-- DOG_INTSTAT.DONE, W1C, R289: A single-mode unit completed -/
def DOG_INTSTAT_DONE : Fld := ⟨25166147, 1⟩
/-- DOG_INTSTAT.BADCFG, W1C, R289: A write was refused -/
def DOG_INTSTAT_BADCFG : Fld := ⟨25166148, 1⟩
/-- DOG_INTEN.EN, RW, R289: Enables the DOG_INTSTAT bit of the same position into the global interrupt summary -/
def DOG_INTEN_EN : Fld := ⟨25166176, 5⟩
/-- DOG_UCFG.TMODE, RW, R289: R277 -/
def DOG_UCFG_TMODE (i : Nat) : Fld := ⟨25167872 + 512 * (i % 32), 3⟩
/-- DOG_UCFG.ARMMODE, RW, R289: R281 -/
def DOG_UCFG_ARMMODE (i : Nat) : Fld := ⟨25167875 + 512 * (i % 32), 2⟩
/-- DOG_UCFG.SLOPE, RW, R289: R278 -/
def DOG_UCFG_SLOPE (i : Nat) : Fld := ⟨25167877 + 512 * (i % 32), 1⟩
/-- DOG_UCFG.ARM, W1S, R289: Arm -/
def DOG_UCFG_ARM (i : Nat) : Fld := ⟨25167878 + 512 * (i % 32), 1⟩
/-- DOG_UCFG.FORCE, W1S, R289: Force a trigger -/
def DOG_UCFG_FORCE (i : Nat) : Fld := ⟨25167879 + 512 * (i % 32), 1⟩
/-- DOG_UCFG.STOP, W1S, R289: Disarm -/
def DOG_UCFG_STOP (i : Nat) : Fld := ⟨25167880 + 512 * (i % 32), 1⟩
/-- DOG_UCFG.DRV, RW, R289: Driver n for shot triggers -/
def DOG_UCFG_DRV (i : Nat) : Fld := ⟨25167881 + 512 * (i % 32), 6⟩
/-- DOG_UCFG.PROOF, RW, R289: Proof pulses only -/
def DOG_UCFG_PROOF (i : Nat) : Fld := ⟨25167887 + 512 * (i % 32), 1⟩
/-- DOG_UCFG.EVERY, RW, R289: R277 -/
def DOG_UCFG_EVERY (i : Nat) : Fld := ⟨25167888 + 512 * (i % 32), 8⟩
/-- DOG_ULEVEL.LEVEL, RW, R289: Signed level -/
def DOG_ULEVEL_LEVEL (i : Nat) : Fld := ⟨25167904 + 512 * (i % 32), 16⟩
/-- DOG_ULEVEL.HYST, RW, R289: Hysteresis -/
def DOG_ULEVEL_HYST (i : Nat) : Fld := ⟨25167920 + 512 * (i % 32), 16⟩
/-- DOG_ULEN.LEN, RW, R289: 64–65,536; other values refuse ARM -/
def DOG_ULEN_LEN (i : Nat) : Fld := ⟨25167936 + 512 * (i % 32), 17⟩
/-- DOG_UPRE.PRE, RW, R289: 0 to LEN; above LEN refuses ARM -/
def DOG_UPRE_PRE (i : Nat) : Fld := ⟨25167968 + 512 * (i % 32), 17⟩
/-- DOG_UHOLD.HOLD, RW, R289: Holdoff, units of 5 ns -/
def DOG_UHOLD_HOLD (i : Nat) : Fld := ⟨25168000 + 512 * (i % 32), 24⟩
/-- DOG_UAUTO.AUTOT, RW, R289: µs; 0 acts as 1 -/
def DOG_UAUTO_AUTOT (i : Nat) : Fld := ⟨25168032 + 512 * (i % 32), 24⟩
/-- DOG_USHOTOFS.OFS, RW, R289: Signed shot-trigger offset, ticks -/
def DOG_USHOTOFS_OFS (i : Nat) : Fld := ⟨25168064 + 512 * (i % 32), 32⟩
/-- DOG_UPOINT.CLASSMASK, RW, R289: Bit k: class k triggers; bits 9–14 ignored -/
def DOG_UPOINT_CLASSMASK (i : Nat) : Fld := ⟨25168096 + 512 * (i % 32), 16⟩
/-- DOG_USTAT.ARMED, RO, R289: Unit armed -/
def DOG_USTAT_ARMED (i : Nat) : Fld := ⟨25168128 + 512 * (i % 32), 1⟩
/-- DOG_USTAT.BUSY, RO, R289: Capture span open -/
def DOG_USTAT_BUSY (i : Nat) : Fld := ⟨25168129 + 512 * (i % 32), 1⟩
/-- DOG_UCAPS.CNT, RC, R289: Captures made, saturating -/
def DOG_UCAPS_CNT (i : Nat) : Fld := ⟨25168160 + 512 * (i % 32), 32⟩
/-- DOG_USKIPRATE.CNT, RC, R289: Triggers refused by rate, R285, saturating -/
def DOG_USKIPRATE_CNT (i : Nat) : Fld := ⟨25168192 + 512 * (i % 32), 32⟩
/-- DOG_USKIPBUSY.CNT, RC, R289: Triggers skipped as busy, R281, saturating -/
def DOG_USKIPBUSY_CNT (i : Nat) : Fld := ⟨25168224 + 512 * (i % 32), 32⟩
/-- DOG_ULATEPT.CNT, RC, R289: Point triggers too old for the history, R280, saturating -/
def DOG_ULATEPT_CNT (i : Nat) : Fld := ⟨25168256 + 512 * (i % 32), 32⟩

/-- SIL_CTL.RUN, RW, R347: Regular rounds on -/
def SIL_CTL_RUN : Fld := ⟨27262976, 1⟩
/-- SIL_CTL.REFEN, RW, R347: Reference buffer on, R337 -/
def SIL_CTL_REFEN : Fld := ⟨27262977, 1⟩
/-- SIL_CTL.SWAP, W1S, R347: Swap slot banks at the next round start; reads 1 until applied or refused -/
def SIL_CTL_SWAP : Fld := ⟨27262978, 1⟩
/-- SIL_STATUS.REFRDY, RO, R347: R337 -/
def SIL_STATUS_REFRDY : Fld := ⟨27263008, 1⟩
/-- SIL_STATUS.ACTBANK, RO, R347: Active slot bank: 0 = A, 1 = B -/
def SIL_STATUS_ACTBANK : Fld := ⟨27263009, 1⟩
/-- SIL_STATUS.BUSY0, RO, R347: SAR0 in a slot -/
def SIL_STATUS_BUSY0 : Fld := ⟨27263010, 1⟩
/-- SIL_STATUS.BUSY1, RO, R347: SAR1 in a slot -/
def SIL_STATUS_BUSY1 : Fld := ⟨27263011, 1⟩
/-- SIL_STATUS.CAL0, RO, R347: SAR0 calibration run, R338 -/
def SIL_STATUS_CAL0 : Fld := ⟨27263012, 1⟩
/-- SIL_STATUS.CAL1, RO, R347: SAR1 calibration run -/
def SIL_STATUS_CAL1 : Fld := ⟨27263013, 1⟩
/-- SIL_STATUS.INJ0, RO, R347: Injected conversion on SAR0 -/
def SIL_STATUS_INJ0 : Fld := ⟨27263014, 1⟩
/-- SIL_STATUS.INJ1, RO, R347: Injected conversion on SAR1 -/
def SIL_STATUS_INJ1 : Fld := ⟨27263015, 1⟩
/-- SIL_ROUND.PERIOD, RW, R347: Round and thermal tick period, ms, 1–16; 0 acts as 1; 17–31 act as 16 -/
def SIL_ROUND_PERIOD : Fld := ⟨27263040, 5⟩
/-- SIL_INJCFG.NPIN, RW, R347: Injected negative input, R335 -/
def SIL_INJCFG_NPIN : Fld := ⟨27263072, 5⟩
/-- SIL_INJCFG.ADC, RW, R347: Converter for injected conversions -/
def SIL_INJCFG_ADC : Fld := ⟨27263077, 1⟩
/-- SIL_INJCFG.BO, RW, R347: Burnout on the injected pins -/
def SIL_INJCFG_BO : Fld := ⟨27263078, 1⟩
/-- SIL_INJCFG.BOI, RW, R347: 0 = 1 µA, 1 = 10 µA -/
def SIL_INJCFG_BOI : Fld := ⟨27263079, 1⟩
/-- SIL_RNDCNT.CNT, RO, R347: Rounds latched, wraps -/
def SIL_RNDCNT_CNT : Fld := ⟨27263104, 32⟩
/-- SIL_PINCLAMP.PIN, W1C, R347: Clamp conducted, R323 -/
def SIL_PINCLAMP_PIN : Fld := ⟨27263136, 24⟩
/-- SIL_PINWB.PIN, W1C, R347: Wire break, R339 -/
def SIL_PINWB_PIN : Fld := ⟨27263168, 24⟩
/-- SIL_ABORTS.ABORT, RC, R347: Regular samples aborted, R335 and R338, saturating -/
def SIL_ABORTS_ABORT : Fld := ⟨27263200, 16⟩
/-- SIL_ABORTS.EXCWAIT, RC, R347: Slots that waited for a source, R325, saturating -/
def SIL_ABORTS_EXCWAIT : Fld := ⟨27263216, 16⟩
/-- SIL_LATE.CNT, RC, R347: Ticks passed by an overrun round, R333, saturating -/
def SIL_LATE_CNT : Fld := ⟨27263232, 32⟩
/-- SIL_INTSTAT.ROUNDDONE, W1C, R347: Round latched -/
def SIL_INTSTAT_ROUNDDONE : Fld := ⟨27263264, 1⟩
/-- SIL_INTSTAT.ROUNDLATE, W1C, R347: Round overran -/
def SIL_INTSTAT_ROUNDLATE : Fld := ⟨27263265, 1⟩
/-- SIL_INTSTAT.OVR, W1C, R347: An over-range result -/
def SIL_INTSTAT_OVR : Fld := ⟨27263266, 1⟩
/-- SIL_INTSTAT.WB, W1C, R347: Wire break -/
def SIL_INTSTAT_WB : Fld := ⟨27263267, 1⟩
/-- SIL_INTSTAT.CLAMP, W1C, R347: Clamp conducted -/
def SIL_INTSTAT_CLAMP : Fld := ⟨27263268, 1⟩
/-- SIL_INTSTAT.EXCF, W1C, R347: Excitation fault, R324 -/
def SIL_INTSTAT_EXCF : Fld := ⟨27263269, 1⟩
/-- SIL_INTSTAT.REFLOSS, W1C, R347: R337 -/
def SIL_INTSTAT_REFLOSS : Fld := ⟨27263270, 1⟩
/-- SIL_INTSTAT.REFRDY, W1C, R347: Reference became ready -/
def SIL_INTSTAT_REFRDY : Fld := ⟨27263271, 1⟩
/-- SIL_INTSTAT.BADCFG, W1C, R347: A write or swap was refused -/
def SIL_INTSTAT_BADCFG : Fld := ⟨27263272, 1⟩
/-- SIL_INTSTAT.BANKWR, W1C, R347: Write to the active bank discarded -/
def SIL_INTSTAT_BANKWR : Fld := ⟨27263273, 1⟩
/-- SIL_INTSTAT.SWAPDONE, W1C, R347: Slot banks swapped -/
def SIL_INTSTAT_SWAPDONE : Fld := ⟨27263274, 1⟩
/-- SIL_INTEN.EN, RW, R347: Enables the SIL_INTSTAT bit of the same position into the global interrupt summary -/
def SIL_INTEN_EN : Fld := ⟨27263296, 11⟩
/-- SIL_COROFS.OFS, RW, R347: Signed offset of SAR i, 1/16 LSB, R329 -/
def SIL_COROFS_OFS (i : Nat) : Fld := ⟨27263488 + 64 * (i % 2), 24⟩
/-- SIL_CORGAIN.GAIN, RW, R347: Signed gain correction of SAR i, 2⁻²² -/
def SIL_CORGAIN_GAIN (i : Nat) : Fld := ⟨27263520 + 64 * (i % 2), 24⟩
/-- SIL_RES.RESULT, RO, R347: Result of slot s, R329 -/
def SIL_RES_RESULT (i : Nat) : Fld := ⟨27264000 + 32 * (i % 32), 24⟩
/-- SIL_RES.OVR, RO, R347: Over-range -/
def SIL_RES_OVR (i : Nat) : Fld := ⟨27264024 + 32 * (i % 32), 1⟩
/-- SIL_RES.WB, RO, R347: Wire break -/
def SIL_RES_WB (i : Nat) : Fld := ⟨27264025 + 32 * (i % 32), 1⟩
/-- SIL_RES.CLAMP, RO, R347: Own pin clamped -/
def SIL_RES_CLAMP (i : Nat) : Fld := ⟨27264026 + 32 * (i % 32), 1⟩
/-- SIL_RES.NBR, RO, R347: Neighbour pin clamped -/
def SIL_RES_NBR (i : Nat) : Fld := ⟨27264027 + 32 * (i % 32), 1⟩
/-- SIL_RES.EXCF, RO, R347: Excitation fault -/
def SIL_RES_EXCF (i : Nat) : Fld := ⟨27264028 + 32 * (i % 32), 1⟩
/-- SIL_RES.NOREF, RO, R347: Not converted for lack of reference -/
def SIL_RES_NOREF (i : Nat) : Fld := ⟨27264029 + 32 * (i % 32), 1⟩
/-- SIL_RES.NEW, RO, R347: Converted in the last latched round -/
def SIL_RES_NEW (i : Nat) : Fld := ⟨27264030 + 32 * (i % 32), 1⟩
/-- SIL_INJRES.RESULT, RO, R347: Last injected result -/
def SIL_INJRES_RESULT : Fld := ⟨27265024, 24⟩
/-- SIL_INJRES.OVR, RO, R347: Over-range -/
def SIL_INJRES_OVR : Fld := ⟨27265048, 1⟩
/-- SIL_INJRES.WB, RO, R347: Wire break -/
def SIL_INJRES_WB : Fld := ⟨27265049, 1⟩
/-- SIL_SCFG.PPIN, RW, R331: Positive input: AX0–AX23, or 24–31 under R328 -/
def SIL_SCFG_PPIN (i : Nat) : Fld := ⟨27295744 + 64 * (i % 64), 5⟩
/-- SIL_SCFG.NPIN, RW, R331: Negative input, as PPIN -/
def SIL_SCFG_NPIN (i : Nat) : Fld := ⟨27295749 + 64 * (i % 64), 5⟩
/-- SIL_SCFG.ADC, RW, R331: 0 = SAR0, 1 = SAR1; ignored when ILV = 1 -/
def SIL_SCFG_ADC (i : Nat) : Fld := ⟨27295754 + 64 * (i % 64), 1⟩
/-- SIL_SCFG.ILV, RW, R331: 1 = interleaved on both converters, R333 -/
def SIL_SCFG_ILV (i : Nat) : Fld := ⟨27295755 + 64 * (i % 64), 1⟩
/-- SIL_SCFG.OS, RW, R331: N = 2^OS, 0–8; 9–15 invalid -/
def SIL_SCFG_OS (i : Nat) : Fld := ⟨27295756 + 64 * (i % 64), 4⟩
/-- SIL_SCFG.BO, RW, R331: Burnout current on, R326 -/
def SIL_SCFG_BO (i : Nat) : Fld := ⟨27295760 + 64 * (i % 64), 1⟩
/-- SIL_SCFG.BOI, RW, R331: 0 = 1 µA, 1 = 10 µA -/
def SIL_SCFG_BOI (i : Nat) : Fld := ⟨27295761 + 64 * (i % 64), 1⟩
/-- SIL_SCFG.BIASN, RW, R331: BIAS on NPIN, R326 -/
def SIL_SCFG_BIASN (i : Nat) : Fld := ⟨27295762 + 64 * (i % 64), 1⟩
/-- SIL_SCFG.EN, RW, R331: Slot in the round -/
def SIL_SCFG_EN (i : Nat) : Fld := ⟨27295763 + 64 * (i % 64), 1⟩
/-- SIL_SCFG.SETTLE, RW, R331: Settling delay, µs, 0–4,095 -/
def SIL_SCFG_SETTLE (i : Nat) : Fld := ⟨27295764 + 64 * (i % 64), 12⟩
/-- SIL_SEXC.EXCSRC, RW, R331: 0 = none, 1 = EXC0, 2 = EXC1, 3 invalid -/
def SIL_SEXC_EXCSRC (i : Nat) : Fld := ⟨27295776 + 64 * (i % 64), 2⟩
/-- SIL_SEXC.EXCMODE, RW, R331: 0 = current, 1 = voltage -/
def SIL_SEXC_EXCMODE (i : Nat) : Fld := ⟨27295778 + 64 * (i % 64), 1⟩
/-- SIL_SEXC.EXCPIN, RW, R331: Drive pin, 0–23; 24–31 invalid when EXCSRC ≠ 0 -/
def SIL_SEXC_EXCPIN (i : Nat) : Fld := ⟨27295779 + 64 * (i % 64), 5⟩
/-- SIL_SEXC.SNSPIN, RW, R331: Sense pin, 0–23; 31 = none; 24–30 invalid -/
def SIL_SEXC_SNSPIN (i : Nat) : Fld := ⟨27295784 + 64 * (i % 64), 5⟩
/-- SIL_SEXC.RETPIN, RW, R331: Return pin, 0–23; 31 = none; 24–30 invalid -/
def SIL_SEXC_RETPIN (i : Nat) : Fld := ⟨27295789 + 64 * (i % 64), 5⟩
/-- SIL_SEXC.EXCVAL, RW, R331: µA in current mode (10–2,000); mV in voltage mode (500–2,500); outside invalid when EXCSRC ≠ 0 -/
def SIL_SEXC_EXCVAL (i : Nat) : Fld := ⟨27295794 + 64 * (i % 64), 12⟩
/-- SIL_SEXC.RSV, RW, R331: Reserved; non-zero invalid -/
def SIL_SEXC_RSV (i : Nat) : Fld := ⟨27295806 + 64 * (i % 64), 2⟩

/-- PLB_CTL.CDEN, RW, R368: Kind 1 -/
def PLB_CTL_CDEN : Fld := ⟨29360128, 1⟩
/-- PLB_CTL.RZEN, RW, R368: Kind 2 -/
def PLB_CTL_RZEN : Fld := ⟨29360129, 1⟩
/-- PLB_CTL.WFEN, RW, R368: Kind 3 -/
def PLB_CTL_WFEN : Fld := ⟨29360130, 1⟩
/-- PLB_CTL.HKEN, RW, R368: Kind 4 -/
def PLB_CTL_HKEN : Fld := ⟨29360131, 1⟩
/-- PLB_CTL.LANEEN, RW, R368: Lane adaptation, R364 -/
def PLB_CTL_LANEEN : Fld := ⟨29360132, 1⟩
/-- PLB_CMD.CD, W1S, R368: Run kind 1 now -/
def PLB_CMD_CD : Fld := ⟨29360160, 1⟩
/-- PLB_CMD.WF, W1S, R368: Run kind 3 now -/
def PLB_CMD_WF : Fld := ⟨29360161, 1⟩
/-- PLB_CMD.HK, W1S, R368: Run kind 4 now -/
def PLB_CMD_HK : Fld := ⟨29360162, 1⟩
/-- PLB_CMD.LANE, W1S, R368: Adapt every lane now -/
def PLB_CMD_LANE : Fld := ⟨29360163, 1⟩
/-- PLB_CMD.SAVE, W1S, R368: Save the sets, R365 -/
def PLB_CMD_SAVE : Fld := ⟨29360164, 1⟩
/-- PLB_STATUS.CDBUSY, RO, R368: Kind 1 collecting -/
def PLB_STATUS_CDBUSY : Fld := ⟨29360192, 1⟩
/-- PLB_STATUS.CDRAMP, RO, R368: Kind 1 ramp running -/
def PLB_STATUS_CDRAMP : Fld := ⟨29360193, 1⟩
/-- PLB_STATUS.RZRAMP, RO, R368: Kind 2 ramp running -/
def PLB_STATUS_RZRAMP : Fld := ⟨29360194, 1⟩
/-- PLB_STATUS.WFBUSY, RO, R368: Kind 3 running -/
def PLB_STATUS_WFBUSY : Fld := ⟨29360195, 1⟩
/-- PLB_STATUS.HKBUSY, RO, R368: Kind 4 running or waiting -/
def PLB_STATUS_HKBUSY : Fld := ⟨29360196, 1⟩
/-- PLB_STATUS.LANEBUSY, RO, R368: A lane adapting -/
def PLB_STATUS_LANEBUSY : Fld := ⟨29360197, 1⟩
/-- PLB_STATUS.STORED, RO, R368: Some TDC on a reinstated table -/
def PLB_STATUS_STORED : Fld := ⟨29360198, 1⟩
/-- PLB_CDCFG.NEV, RW, R368: Events per TDC, units of 1,024; 0 acts as 1 -/
def PLB_CDCFG_NEV : Fld := ⟨29360224, 8⟩
/-- PLB_CDCFG.DTEMP, RW, R368: °C; 0 = no temperature trigger -/
def PLB_CDCFG_DTEMP : Fld := ⟨29360232, 8⟩
/-- PLB_CDCFG.PERIOD, RW, R368: s; 0 = no timer -/
def PLB_CDCFG_PERIOD : Fld := ⟨29360240, 16⟩
/-- PLB_CDSRC.AMBMIN, RW, R368: Thousand events/s, R355 -/
def PLB_CDSRC_AMBMIN : Fld := ⟨29360256, 16⟩
/-- PLB_CDSRC.TMAX, RW, R368: s; 0 acts as 1 -/
def PLB_CDSRC_TMAX : Fld := ⟨29360272, 8⟩
/-- PLB_CDSRC.QUIETT, RW, R368: s, R358; 0 = off -/
def PLB_CDSRC_QUIETT : Fld := ⟨29360280, 8⟩
/-- PLB_RZCFG.ZAVG, RW, R368: Samples, 16–1,023; below 16 act as 16 -/
def PLB_RZCFG_ZAVG : Fld := ⟨29360288, 10⟩
/-- PLB_RZCFG.ZSTEP, RW, R368: 1/16 LSB; 0 acts as 1 -/
def PLB_RZCFG_ZSTEP : Fld := ⟨29360304, 8⟩
/-- PLB_RZCFG.RAMPFR, RW, R368: Frames per ramp, kinds 1 and 2; 0 acts as 1 -/
def PLB_RZCFG_RAMPFR : Fld := ⟨29360312, 6⟩
/-- PLB_WFCFG.PERIOD, RW, R368: s; 0 = no timer -/
def PLB_WFCFG_PERIOD : Fld := ⟨29360320, 16⟩
/-- PLB_WFCFG.DTEMP, RW, R368: °C; 0 = no temperature trigger -/
def PLB_WFCFG_DTEMP : Fld := ⟨29360336, 8⟩
/-- PLB_HKCFG.PERIOD, RW, R368: ms; 0 = no timer -/
def PLB_HKCFG_PERIOD : Fld := ⟨29360352, 16⟩
/-- PLB_HKCFG.DTEMP, RW, R368: °C; 0 = no temperature trigger -/
def PLB_HKCFG_DTEMP : Fld := ⟨29360368, 8⟩
/-- PLB_LANECFG.LANEPER, RW, R368: s; 0 = figure of merit only -/
def PLB_LANECFG_LANEPER : Fld := ⟨29360384, 16⟩
/-- PLB_LANECFG.SAVEH, RW, R368: Hours; 0 = on SAVE only -/
def PLB_LANECFG_SAVEH : Fld := ⟨29360400, 8⟩
/-- PLB_SETCD.CD, RO, R368: Last kind 1 set -/
def PLB_SETCD_CD : Fld := ⟨29360416, 16⟩
/-- PLB_SETCD.RZ, RO, R368: Last kind 2 set -/
def PLB_SETCD_RZ : Fld := ⟨29360432, 16⟩
/-- PLB_SETAUX.WF, RO, R368: Last kind 3 set -/
def PLB_SETAUX_WF : Fld := ⟨29360448, 16⟩
/-- PLB_SETAUX.HK, RO, R368: Last kind 4 set -/
def PLB_SETAUX_HK : Fld := ⟨29360464, 16⟩
/-- PLB_CDWORST.DNL, RO, R368: Worst DNL of the last run, 1/16 LSB -/
def PLB_CDWORST_DNL : Fld := ⟨29360480, 8⟩
/-- PLB_CDWORST.INL, RO, R368: Worst INL, 1/16 LSB -/
def PLB_CDWORST_INL : Fld := ⟨29360488, 8⟩
/-- PLB_CDWORST.TDC, RO, R368: TDC of the worst DNL, 0–1,055 -/
def PLB_CDWORST_TDC : Fld := ⟨29360496, 11⟩
/-- PLB_INTSTAT.CDDONE, W1C, R368: Kind 1 set made -/
def PLB_INTSTAT_CDDONE : Fld := ⟨29360512, 1⟩
/-- PLB_INTSTAT.CDFAIL, W1C, R368: A TDC failed, R356 -/
def PLB_INTSTAT_CDFAIL : Fld := ⟨29360513, 1⟩
/-- PLB_INTSTAT.QUIET, W1C, R368: R358 -/
def PLB_INTSTAT_QUIET : Fld := ⟨29360514, 1⟩
/-- PLB_INTSTAT.RZDONE, W1C, R368: Kind 2 set made -/
def PLB_INTSTAT_RZDONE : Fld := ⟨29360515, 1⟩
/-- PLB_INTSTAT.RZNOREF, W1C, R368: R360 -/
def PLB_INTSTAT_RZNOREF : Fld := ⟨29360516, 1⟩
/-- PLB_INTSTAT.WFDONE, W1C, R368: Kind 3 set made -/
def PLB_INTSTAT_WFDONE : Fld := ⟨29360517, 1⟩
/-- PLB_INTSTAT.WFREJ, W1C, R368: R362 -/
def PLB_INTSTAT_WFREJ : Fld := ⟨29360518, 1⟩
/-- PLB_INTSTAT.HKDONE, W1C, R368: Kind 4 set made -/
def PLB_INTSTAT_HKDONE : Fld := ⟨29360519, 1⟩
/-- PLB_INTSTAT.HKREJ, W1C, R368: R363 -/
def PLB_INTSTAT_HKREJ : Fld := ⟨29360520, 1⟩
/-- PLB_INTSTAT.LANEDONE, W1C, R368: A lane adapted -/
def PLB_INTSTAT_LANEDONE : Fld := ⟨29360521, 1⟩
/-- PLB_INTSTAT.BADCFG, W1C, R368: A write was refused -/
def PLB_INTSTAT_BADCFG : Fld := ⟨29360522, 1⟩
/-- PLB_INTEN.EN, RW, R368: Enables the PLB_INTSTAT bit of the same position into the global interrupt summary -/
def PLB_INTEN_EN : Fld := ⟨29360544, 11⟩
/-- PLB_RZDZ.DZ, RO, R368: Signed applied dz of group g, 1/16 LSB -/
def PLB_RZDZ_DZ (i : Nat) : Fld := ⟨29362176 + 32 * (i % 32), 16⟩
/-- PLB_RZDZ.NSAMP, RO, R368: Samples held, 0–1,023 -/
def PLB_RZDZ_NSAMP (i : Nat) : Fld := ⟨29362192 + 32 * (i % 32), 16⟩
/-- PLB_QUIET.CH, RO, R368: Bit b: channel 32w + b quiet -/
def PLB_QUIET_CH (i : Nat) : Fld := ⟨29364224 + 32 * (i % 32), 32⟩
/-- PLB_CDQ.DNL, RO, R368: DNL of TDC t, 1/16 LSB; t = 1,024 + g for a spare -/
def PLB_CDQ_DNL (i : Nat) : Fld := ⟨29392896 + 32 * (i % 1056), 8⟩
/-- PLB_CDQ.INL, RO, R368: INL, 1/16 LSB -/
def PLB_CDQ_INL (i : Nat) : Fld := ⟨29392904 + 32 * (i % 1056), 8⟩
/-- PLB_CDQ.SRC, RO, R368: 0 = none, 1 = ambient, 2 = pulser, 3 = both -/
def PLB_CDQ_SRC (i : Nat) : Fld := ⟨29392912 + 32 * (i % 1056), 2⟩
/-- PLB_CDQ.FAIL, RO, R368: Failed the last run -/
def PLB_CDQ_FAIL (i : Nat) : Fld := ⟨29392914 + 32 * (i % 1056), 1⟩
/-- PLB_CDQ.QUIET, RO, R368: R358 -/
def PLB_CDQ_QUIET (i : Nat) : Fld := ⟨29392915 + 32 * (i % 1056), 1⟩

/-- HIF_CTL.GVEC, RW, R405: MSI-X vector of the global interrupt summary -/
def HIF_CTL_GVEC : Fld := ⟨31457280, 11⟩
/-- HIF_CTL.GVECEN, RW, R405: Summary message enabled -/
def HIF_CTL_GVECEN : Fld := ⟨31457291, 1⟩
/-- HIF_STATUS.SPEED, RO, R405: 0 = link down; 1–5 = 2.5, 5, 8, 16, 32 GT/s; 6, 7 never produced -/
def HIF_STATUS_SPEED : Fld := ⟨31457312, 3⟩
/-- HIF_STATUS.WIDTH, RO, R405: Trained lanes: 1, 2, 4, 8 or 16 -/
def HIF_STATUS_WIDTH : Fld := ⟨31457315, 5⟩
/-- HIF_STATUS.BME, RO, R405: Bus Master Enable -/
def HIF_STATUS_BME : Fld := ⟨31457320, 1⟩
/-- HIF_STATUS.D3, RO, R405: Function in D3hot -/
def HIF_STATUS_D3 : Fld := ⟨31457321, 1⟩
/-- HIF_PCIID.VID, RO, R405: Vendor ID -/
def HIF_PCIID_VID : Fld := ⟨31457344, 16⟩
/-- HIF_PCIID.DID, RO, R405: Device ID -/
def HIF_PCIID_DID : Fld := ⟨31457360, 16⟩
/-- HIF_WDG.WEDGET, RW, R405: ms, R404; 0 acts as 1 -/
def HIF_WDG_WEDGET : Fld := ⟨31457376, 16⟩
/-- HIF_DBBAD.CNT, RC, R405: Doorbell writes discarded, CONSUMED values ignored and head words clipped (R388), saturating -/
def HIF_DBBAD_CNT : Fld := ⟨31457408, 32⟩
/-- HIF_CMDEARLY.CNT, RC, R405: R376, saturating -/
def HIF_CMDEARLY_CNT : Fld := ⟨31457440, 32⟩
/-- HIF_LATHCOR.CNT, RC, R405: Corrected Lath words, saturating -/
def HIF_LATHCOR_CNT : Fld := ⟨31457472, 32⟩
/-- HIF_LATHDROP.CNT, RC, R405: Packets dropped, R403, saturating -/
def HIF_LATHDROP_CNT : Fld := ⟨31457504, 32⟩
/-- HIF_CMDS.CNT, RC, R405: Commands executed, saturating -/
def HIF_CMDS_CNT : Fld := ⟨31457536, 32⟩
/-- HIF_REPLAY.CNT, RC, R405: Completions replayed, R382, saturating -/
def HIF_REPLAY_CNT : Fld := ⟨31457568, 32⟩
/-- HIF_INTSTAT.CMDERR, W1C, R405: A command completed other than OK -/
def HIF_INTSTAT_CMDERR : Fld := ⟨31457664, 1⟩
/-- HIF_INTSTAT.DBBAD, W1C, R405: R374, R389 -/
def HIF_INTSTAT_DBBAD : Fld := ⟨31457665, 1⟩
/-- HIF_INTSTAT.LATHDROP, W1C, R405: R403 -/
def HIF_INTSTAT_LATHDROP : Fld := ⟨31457666, 1⟩
/-- HIF_INTSTAT.WEDGE, W1C, R405: R404 -/
def HIF_INTSTAT_WEDGE : Fld := ⟨31457667, 1⟩
/-- HIF_INTSTAT.LINKDOWN, W1C, R405: Link went down -/
def HIF_INTSTAT_LINKDOWN : Fld := ⟨31457668, 1⟩
/-- HIF_INTSTAT.LINKUP, W1C, R405: Link came up -/
def HIF_INTSTAT_LINKUP : Fld := ⟨31457669, 1⟩
/-- HIF_INTSTAT.QSUSP, W1C, R405: Queues suspended, R373, R393 -/
def HIF_INTSTAT_QSUSP : Fld := ⟨31457670, 1⟩
/-- HIF_INTSTAT.BADCFG, W1C, R405: A write was refused -/
def HIF_INTSTAT_BADCFG : Fld := ⟨31457671, 1⟩
/-- HIF_INTEN.EN, RW, R405: Enables the HIF_INTSTAT bit of the same position into the global interrupt summary -/
def HIF_INTEN_EN : Fld := ⟨31457696, 8⟩
/-- HIF_CRBASELO.ADDR, RW, R405: Command ring base [31:0]; bits [11:0] must be 0 -/
def HIF_CRBASELO_ADDR (i : Nat) : Fld := ⟨31459328 + 256 * (i % 16), 32⟩
/-- HIF_CRBASEHI.ADDR, RW, R405: Base [63:32] -/
def HIF_CRBASEHI_ADDR (i : Nat) : Fld := ⟨31459360 + 256 * (i % 16), 32⟩
/-- HIF_CCBASELO.ADDR, RW, R405: Completion ring base [31:0]; bits [11:0] must be 0 -/
def HIF_CCBASELO_ADDR (i : Nat) : Fld := ⟨31459392 + 256 * (i % 16), 32⟩
/-- HIF_CCBASEHI.ADDR, RW, R405: Base [63:32] -/
def HIF_CCBASEHI_ADDR (i : Nat) : Fld := ⟨31459424 + 256 * (i % 16), 32⟩
/-- HIF_CRCFG.LOG2, RW, R405: Entries 2^LOG2, 4–12; other values refused -/
def HIF_CRCFG_LOG2 (i : Nat) : Fld := ⟨31459456 + 256 * (i % 16), 4⟩
/-- HIF_CRCFG.EN, RW, R405: Ring enabled; head and pass bits restart at enable -/
def HIF_CRCFG_EN (i : Nat) : Fld := ⟨31459460 + 256 * (i % 16), 1⟩
/-- HIF_CRCFG.VECTOR, RW, R405: MSI-X vector -/
def HIF_CRCFG_VECTOR (i : Nat) : Fld := ⟨31459461 + 256 * (i % 16), 11⟩
/-- HIF_CRCFG.VECEN, RW, R405: Messages enabled -/
def HIF_CRCFG_VECEN (i : Nat) : Fld := ⟨31459472 + 256 * (i % 16), 1⟩
/-- HIF_CRSTAT.HEAD, RO, R405: Next entry to fetch -/
def HIF_CRSTAT_HEAD (i : Nat) : Fld := ⟨31459488 + 256 * (i % 16), 16⟩
/-- HIF_CRSTAT.BUSY, RO, R405: A command executing or waiting -/
def HIF_CRSTAT_BUSY (i : Nat) : Fld := ⟨31459504 + 256 * (i % 16), 1⟩
/-- HIF_CRSTAT.OPCODE, RO, R405: Opcode executing -/
def HIF_CRSTAT_OPCODE (i : Nat) : Fld := ⟨31459505 + 256 * (i % 16), 8⟩
/-- HIF_CRSTAT.WEDGED, RO, R405: R404 -/
def HIF_CRSTAT_WEDGED (i : Nat) : Fld := ⟨31459513 + 256 * (i % 16), 1⟩
/-- HIF_CRLASTLO.CID, RO, R405: Largest CID executed [31:0], R382; latches CRLASTHI -/
def HIF_CRLASTLO_CID (i : Nat) : Fld := ⟨31459520 + 256 * (i % 16), 32⟩
/-- HIF_CRLASTHI.CID, RO, R405: CID [63:32] -/
def HIF_CRLASTHI_CID (i : Nat) : Fld := ⟨31459552 + 256 * (i % 16), 32⟩
/-- HIF_QSTATE.STATE, RO, R405: Queue 16w + k, w = 0–255: 0 CLOSED, 1 OPEN, 2 SUSPENDED, 3 WEDGED -/
def HIF_QSTATE_STATE (i : Nat) : Fld := ⟨31465472 + 32 * (i / 16 % 256) + 2 * (i % 16), 2⟩

/-- PUR_CTL.BULKMIN, RW, R406: Bulk share, sixteenths, R396; 9–15 act as 8 -/
def PUR_CTL_BULKMIN : Fld := ⟨33554432, 4⟩
/-- PUR_STATUS.RDOUT, RO, R406: Read requests outstanding -/
def PUR_STATUS_RDOUT : Fld := ⟨33554464, 10⟩
/-- PUR_KIB.CNT, RC, R406: KiB written to host memory, saturating -/
def PUR_KIB_CNT : Fld := ⟨33554496, 32⟩
/-- PUR_INTSTAT.DESCERR, W1C, R406: A bulk completion without GOOD -/
def PUR_INTSTAT_DESCERR : Fld := ⟨33554560, 1⟩
/-- PUR_INTSTAT.LATEERR, W1C, R406: R401 -/
def PUR_INTSTAT_LATEERR : Fld := ⟨33554561, 1⟩
/-- PUR_INTSTAT.ACCESS, W1C, R406: R402 -/
def PUR_INTSTAT_ACCESS : Fld := ⟨33554562, 1⟩
/-- PUR_INTSTAT.STOPPED, W1C, R406: A channel reached stopped -/
def PUR_INTSTAT_STOPPED : Fld := ⟨33554563, 1⟩
/-- PUR_INTSTAT.BADCFG, W1C, R406: A write was refused -/
def PUR_INTSTAT_BADCFG : Fld := ⟨33554564, 1⟩
/-- PUR_INTEN.EN, RW, R406: Enables the PUR_INTSTAT bit of the same position into the global interrupt summary -/
def PUR_INTEN_EN : Fld := ⟨33554592, 5⟩
/-- PUR_CHCFG.OWNER, RW, R406: 0 host, 1 Dog, 2 management (channel 63 only); 3 refused -/
def PUR_CHCFG_OWNER (i : Nat) : Fld := ⟨33556480 + 256 * (i % 64), 2⟩
/-- PUR_CHCFG.MODE, RW, R406: 0 COPY, 1 SINK; Dog-owned channels must be SINK -/
def PUR_CHCFG_MODE (i : Nat) : Fld := ⟨33556482 + 256 * (i % 64), 1⟩
/-- PUR_CHCFG.DLOG2, RW, R406: Ring entries 2^DLOG2, 4–12; reads 0 on stream channels -/
def PUR_CHCFG_DLOG2 (i : Nat) : Fld := ⟨33556483 + 256 * (i % 64), 4⟩
/-- PUR_CHCFG.VECTOR, RW, R406: MSI-X vector -/
def PUR_CHCFG_VECTOR (i : Nat) : Fld := ⟨33556487 + 256 * (i % 64), 11⟩
/-- PUR_CHCFG.VECEN, RW, R406: Messages enabled -/
def PUR_CHCFG_VECEN (i : Nat) : Fld := ⟨33556498 + 256 * (i % 64), 1⟩
/-- PUR_CHCFG.RUN, RW, R406: Run; clearing it stops, R399 -/
def PUR_CHCFG_RUN (i : Nat) : Fld := ⟨33556499 + 256 * (i % 64), 1⟩
/-- PUR_CHCTL.ABORT, W1S, R406: R399; reads 1 until done -/
def PUR_CHCTL_ABORT (i : Nat) : Fld := ⟨33556512 + 256 * (i % 64), 1⟩
/-- PUR_CHSTAT.STATE, RO, R406: 0 idle, 1 running, 2 stopping, 3 stopped -/
def PUR_CHSTAT_STATE (i : Nat) : Fld := ⟨33556544 + 256 * (i % 64), 2⟩
/-- PUR_CHSTAT.WEDGED, RO, R406: R404 -/
def PUR_CHSTAT_WEDGED (i : Nat) : Fld := ⟨33556546 + 256 * (i % 64), 1⟩
/-- PUR_CHSTAT.HEAD, RO, R406: Next descriptor -/
def PUR_CHSTAT_HEAD (i : Nat) : Fld := ⟨33556547 + 256 * (i % 64), 16⟩
/-- PUR_DRBASELO.ADDR, RW, R406: Descriptor ring base [31:0]; bits [11:0] must be 0 -/
def PUR_DRBASELO_ADDR (i : Nat) : Fld := ⟨33556576 + 256 * (i % 64), 32⟩
/-- PUR_DRBASEHI.ADDR, RW, R406: Base [63:32] -/
def PUR_DRBASEHI_ADDR (i : Nat) : Fld := ⟨33556608 + 256 * (i % 64), 32⟩
/-- PUR_CQBASELO.ADDR, RW, R406: Completion queue base [31:0]; bits [11:0] must be 0 -/
def PUR_CQBASELO_ADDR (i : Nat) : Fld := ⟨33556640 + 256 * (i % 64), 32⟩
/-- PUR_CQBASEHI.ADDR, RW, R406: Base [63:32] -/
def PUR_CQBASEHI_ADDR (i : Nat) : Fld := ⟨33556672 + 256 * (i % 64), 32⟩
/-- PUR_CHERR.ERRS, RC, R406: Descriptors ended without GOOD, saturating -/
def PUR_CHERR_ERRS (i : Nat) : Fld := ⟨33556704 + 256 * (i % 64), 16⟩
/-- PUR_CHERR.LATE, RC, R406: Of those, with LATEERR, saturating -/
def PUR_CHERR_LATE (i : Nat) : Fld := ⟨33556720 + 256 * (i % 64), 16⟩

/-- DWL_STATUS.UP, RO, R422: Pair p up in both directions -/
def DWL_STATUS_UP : Fld := ⟨35651584, 20⟩
/-- DWL_STATUS.TESTACT, RO, R422: An injection mode is set, R421 -/
def DWL_STATUS_TESTACT : Fld := ⟨35651604, 1⟩
/-- DWL_ADCFG.FOMMIN, RW, R422: Least figure of merit, R410, R411 -/
def DWL_ADCFG_FOMMIN : Fld := ⟨35651616, 8⟩
/-- DWL_ADCFG.BGADAPT, RW, R422: Trimming in service, R411 -/
def DWL_ADCFG_BGADAPT : Fld := ⟨35651624, 1⟩
/-- DWL_TIECFG.INDEX, RW, R422: Tie index; writable only while TIEEN = 0 -/
def DWL_TIECFG_INDEX : Fld := ⟨35651648, 3⟩
/-- DWL_TIECFG.TIEEN, RW, R422: Tie network on -/
def DWL_TIECFG_TIEEN : Fld := ⟨35651651, 1⟩
/-- DWL_TIECFG.LINKEN, RW, R422: Pairs 16–19 in use as tie links -/
def DWL_TIECFG_LINKEN : Fld := ⟨35651652, 4⟩
/-- DWL_TIESTAT.ALIGNED, RO, R422: Frame clock on the master's grid, R419 -/
def DWL_TIESTAT_ALIGNED : Fld := ⟨35651680, 1⟩
/-- DWL_TIESTAT.FREERUN, RO, R422: No upstream link or no master -/
def DWL_TIESTAT_FREERUN : Fld := ⟨35651681, 1⟩
/-- DWL_TIESTAT.DUPIDX, RO, R422: R416 -/
def DWL_TIESTAT_DUPIDX : Fld := ⟨35651682, 1⟩
/-- DWL_TIESTAT.HOPS, RO, R422: Hops to the master; 7 also when none -/
def DWL_TIESTAT_HOPS : Fld := ⟨35651683, 3⟩
/-- DWL_TIESTAT.UPLINK, RO, R422: Upstream pair − 16 -/
def DWL_TIESTAT_UPLINK : Fld := ⟨35651686, 2⟩
/-- DWL_TIESTAT.SEEN, RO, R422: Bit i: unit i heard within 30 ms -/
def DWL_TIESTAT_SEEN : Fld := ⟨35651688, 8⟩
/-- DWL_THETALO.THETA, RO, R422: θ to the master [31:0], 2⁻⁸ LSB; latches THETAHI -/
def DWL_THETALO_THETA : Fld := ⟨35651712, 32⟩
/-- DWL_THETAHI.THETA, RO, R422: θ [63:32], signed -/
def DWL_THETAHI_THETA : Fld := ⟨35651744, 32⟩
/-- DWL_TIEFROFS.OFS, RO, R422: Own minus master frame number, R419 -/
def DWL_TIEFROFS_OFS : Fld := ⟨35651776, 32⟩
/-- DWL_INTSTAT.LANEDOWN, W1C, R422: A pair went down -/
def DWL_INTSTAT_LANEDOWN : Fld := ⟨35651840, 1⟩
/-- DWL_INTSTAT.LANEUP, W1C, R422: A pair came up -/
def DWL_INTSTAT_LANEUP : Fld := ⟨35651841, 1⟩
/-- DWL_INTSTAT.FOMLOW, W1C, R422: R411 -/
def DWL_INTSTAT_FOMLOW : Fld := ⟨35651842, 1⟩
/-- DWL_INTSTAT.TIELOST, W1C, R422: Upstream link lost -/
def DWL_INTSTAT_TIELOST : Fld := ⟨35651843, 1⟩
/-- DWL_INTSTAT.TIEFRLATE, W1C, R422: R419 -/
def DWL_INTSTAT_TIEFRLATE : Fld := ⟨35651844, 1⟩
/-- DWL_INTSTAT.TIEPERIOD, W1C, R422: R419 -/
def DWL_INTSTAT_TIEPERIOD : Fld := ⟨35651845, 1⟩
/-- DWL_INTSTAT.NOTALIGNED, W1C, R422: R419 -/
def DWL_INTSTAT_NOTALIGNED : Fld := ⟨35651846, 1⟩
/-- DWL_INTSTAT.DUPIDX, W1C, R422: R416 -/
def DWL_INTSTAT_DUPIDX : Fld := ⟨35651847, 1⟩
/-- DWL_INTSTAT.BADCFG, W1C, R422: A write was refused -/
def DWL_INTSTAT_BADCFG : Fld := ⟨35651848, 1⟩
/-- DWL_INTEN.EN, RW, R422: Enables the DWL_INTSTAT bit of the same position into the global interrupt summary -/
def DWL_INTEN_EN : Fld := ⟨35651872, 9⟩
/-- DWL_PCFG.TXPRE, RW, R422: Pre-cursor, 0–31 steps of 1 % of swing -/
def DWL_PCFG_TXPRE (i : Nat) : Fld := ⟨35653632 + 256 * (i % 20), 5⟩
/-- DWL_PCFG.TXMAIN, RW, R422: Main tap, 0–63; below 32 refused -/
def DWL_PCFG_TXMAIN (i : Nat) : Fld := ⟨35653637 + 256 * (i % 20), 6⟩
/-- DWL_PCFG.TXPOST, RW, R422: Post-cursor, 0–31 steps -/
def DWL_PCFG_TXPOST (i : Nat) : Fld := ⟨35653643 + 256 * (i % 20), 5⟩
/-- DWL_PCFG.TXPOL, RW, R422: Invert TX -/
def DWL_PCFG_TXPOL (i : Nat) : Fld := ⟨35653648 + 256 * (i % 20), 1⟩
/-- DWL_PCFG.RXPOL, RW, R422: Invert RX -/
def DWL_PCFG_RXPOL (i : Nat) : Fld := ⟨35653649 + 256 * (i % 20), 1⟩
/-- DWL_PCFG.TRAIN, W1S, R422: Train both directions now, R410; reads 1 until done -/
def DWL_PCFG_TRAIN (i : Nat) : Fld := ⟨35653650 + 256 * (i % 20), 1⟩
/-- DWL_PSTAT.LOCK, RO, R422: Receiver locked, R409 -/
def DWL_PSTAT_LOCK (i : Nat) : Fld := ⟨35653664 + 256 * (i % 20), 1⟩
/-- DWL_PSTAT.TRAINING, RO, R422: Training -/
def DWL_PSTAT_TRAINING (i : Nat) : Fld := ⟨35653665 + 256 * (i % 20), 1⟩
/-- DWL_PSTAT.AUTOPOL, RO, R422: R409 -/
def DWL_PSTAT_AUTOPOL (i : Nat) : Fld := ⟨35653666 + 256 * (i % 20), 1⟩
/-- DWL_PSTAT.CTLE, RO, R422: CTLE setting in use -/
def DWL_PSTAT_CTLE (i : Nat) : Fld := ⟨35653667 + 256 * (i % 20), 4⟩
/-- DWL_PSTAT.FOM, RO, R422: Figure of merit, R411 -/
def DWL_PSTAT_FOM (i : Nat) : Fld := ⟨35653672 + 256 * (i % 20), 8⟩
/-- DWL_PSTAT.BER, RO, R422: Errors at the kept setting in the last training, saturating -/
def DWL_PSTAT_BER (i : Nat) : Fld := ⟨35653680 + 256 * (i % 20), 16⟩
/-- DWL_PRXERR.CODE, RC, R422: Invalid characters and disparity errors, saturating -/
def DWL_PRXERR_CODE (i : Nat) : Fld := ⟨35653696 + 256 * (i % 20), 16⟩
/-- DWL_PRXERR.CRC, RC, R422: Tie frames failing CRC, saturating -/
def DWL_PRXERR_CRC (i : Nat) : Fld := ⟨35653712 + 256 * (i % 20), 16⟩
/-- DWL_PTIEERR.RETRY, RC, R422: Frames resent, R415, saturating -/
def DWL_PTIEERR_RETRY (i : Nat) : Fld := ⟨35653728 + 256 * (i % 20), 8⟩
/-- DWL_PTIEERR.OOS, RC, R422: Frames out of sequence, saturating -/
def DWL_PTIEERR_OOS (i : Nat) : Fld := ⟨35653736 + 256 * (i % 20), 8⟩
/-- DWL_PTIEERR.LINKLOSS, RC, R422: Frames discarded at link loss, saturating -/
def DWL_PTIEERR_LINKLOSS (i : Nat) : Fld := ⟨35653744 + 256 * (i % 20), 8⟩
/-- DWL_PTIEERR.BADTYPE, RC, R422: Reserved types received, saturating -/
def DWL_PTIEERR_BADTYPE (i : Nat) : Fld := ⟨35653752 + 256 * (i % 20), 8⟩
/-- DWL_PTEST.MODE, RW, R422: R421 -/
def DWL_PTEST_MODE (i : Nat) : Fld := ⟨35653760 + 256 * (i % 20), 3⟩
/-- DWL_PTEST.N, RW, R422: Every N-th frame; 0 acts as 1 -/
def DWL_PTEST_N (i : Nat) : Fld := ⟨35653776 + 256 * (i % 20), 16⟩
/-- DWL_PINJ.CNT, RC, R422: Frames injected, saturating -/
def DWL_PINJ_CNT (i : Nat) : Fld := ⟨35653792 + 256 * (i % 20), 32⟩

/-- Registers of block WFP, part 1. -/
def regsWFP1 : List RegDesc := [
  ⟨2883584, 4, 1, [(0, 1, .rw), (1, 1, .w1s), (2, 1, .ro)]⟩,
  ⟨2883588, 4, 1, [(0, 32, .rw)]⟩,
  ⟨2883592, 4, 1, [(0, 16, .rw)]⟩,
  ⟨2883596, 4, 1, [(0, 32, .ro)]⟩,
  ⟨2883600, 4, 1, [(0, 32, .w1c)]⟩,
  ⟨2883604, 4, 1, [(0, 1, .w1c), (1, 1, .w1c), (2, 1, .w1c), (3, 1, .w1c), (4, 1, .w1c)]⟩,
  ⟨2883608, 4, 1, [(0, 5, .rw)]⟩,
  ⟨2883840, 64, 32, [(0, 2, .rw), (2, 1, .rw), (3, 10, .rw), (13, 1, .rw)]⟩,
  ⟨2883844, 64, 32, [(0, 16, .rw)]⟩,
  ⟨2883848, 64, 32, [(0, 1, .w1s), (1, 1, .w1s), (2, 2, .rw), (4, 1, .ro), (5, 1, .ro)]⟩,
  ⟨2883852, 64, 32, [(0, 32, .rw)]⟩,
  ⟨2883856, 64, 32, [(0, 32, .rw)]⟩,
  ⟨2883860, 64, 32, [(0, 2, .rw), (2, 6, .rw), (8, 1, .rw), (9, 1, .rw), (16, 16, .rw)]⟩,
  ⟨2883864, 64, 32, [(0, 32, .rw)]⟩,
  ⟨2883868, 64, 32, [(0, 16, .rw)]⟩,
  ⟨2883872, 64, 32, [(0, 4, .rw), (4, 4, .rw)]⟩,
  ⟨2883876, 64, 32, [(0, 16, .rw), (16, 16, .rw)]⟩,
  ⟨2883880, 64, 32, [(0, 16, .rw), (16, 16, .rw)]⟩,
  ⟨2883884, 64, 32, [(0, 16, .ro), (16, 16, .ro)]⟩,
  ⟨2883888, 64, 32, [(0, 32, .ro)]⟩,
  ⟨2883892, 64, 32, [(0, 16, .ro), (16, 16, .ro)]⟩,
  ⟨2883896, 64, 32, [(0, 16, .rc), (16, 16, .rc)]⟩,
  ⟨2887680, 8, 64, [(0, 16, .rw), (16, 16, .rw)]⟩,
  ⟨2887684, 8, 64, [(0, 12, .rw)]⟩]

/-- All registers of block WFP. -/
def regsWFP : List RegDesc := regsWFP1

/-- Fields of block WFP whose reset value is not 0: (key, key stride, count, value). -/
def resetsWFP : List (Nat × Nat × Nat × Nat) := [
  (23070896, 512, 32, 100),
  (23070944, 512, 32, 64),
  (23070976, 512, 32, 1),
  (23070980, 512, 32, 6),
  (23071024, 512, 32, 65535),
  (23071056, 512, 32, 65535)]

/-- Registers of block DOG, part 1. -/
def regsDOG1 : List RegDesc := [
  ⟨3145728, 4, 1, [(0, 1, .rw), (1, 1, .rw), (2, 6, .rw)]⟩,
  ⟨3145732, 4, 1, [(0, 2, .ro), (2, 2, .ro), (4, 2, .ro)]⟩,
  ⟨3145736, 4, 1, [(0, 8, .rw), (8, 8, .rw), (16, 8, .rw), (24, 8, .rw)]⟩,
  ⟨3145740, 4, 1, [(0, 32, .ro)]⟩,
  ⟨3145744, 4, 1, [(0, 32, .ro)]⟩,
  ⟨3145748, 4, 1, [(0, 32, .ro)]⟩,
  ⟨3145752, 4, 1, [(0, 32, .ro)]⟩,
  ⟨3145756, 4, 1, [(0, 32, .ro)]⟩,
  ⟨3145760, 4, 1, [(0, 32, .rc)]⟩,
  ⟨3145764, 4, 1, [(0, 32, .rc)]⟩,
  ⟨3145768, 4, 1, [(0, 1, .w1c), (1, 1, .w1c), (2, 1, .w1c), (3, 1, .w1c), (4, 1, .w1c)]⟩,
  ⟨3145772, 4, 1, [(0, 5, .rw)]⟩,
  ⟨3145984, 64, 32, [(0, 3, .rw), (3, 2, .rw), (5, 1, .rw), (6, 1, .w1s), (7, 1, .w1s), (8, 1, .w1s), (9, 6, .rw), (15, 1, .rw), (16, 8, .rw)]⟩,
  ⟨3145988, 64, 32, [(0, 16, .rw), (16, 16, .rw)]⟩,
  ⟨3145992, 64, 32, [(0, 17, .rw)]⟩,
  ⟨3145996, 64, 32, [(0, 17, .rw)]⟩,
  ⟨3146000, 64, 32, [(0, 24, .rw)]⟩,
  ⟨3146004, 64, 32, [(0, 24, .rw)]⟩,
  ⟨3146008, 64, 32, [(0, 32, .rw)]⟩,
  ⟨3146012, 64, 32, [(0, 16, .rw)]⟩,
  ⟨3146016, 64, 32, [(0, 1, .ro), (1, 1, .ro)]⟩,
  ⟨3146020, 64, 32, [(0, 32, .rc)]⟩,
  ⟨3146024, 64, 32, [(0, 32, .rc)]⟩,
  ⟨3146028, 64, 32, [(0, 32, .rc)]⟩]

/-- Registers of block DOG, part 2. -/
def regsDOG2 : List RegDesc := [
  ⟨3146032, 64, 32, [(0, 32, .rc)]⟩]

/-- All registers of block DOG. -/
def regsDOG : List RegDesc := regsDOG1 ++ regsDOG2

/-- Fields of block DOG whose reset value is not 0: (key, key stride, count, value). -/
def resetsDOG : List (Nat × Nat × Nat × Nat) := [
  (25165826, 32, 1, 32),
  (25165888, 32, 1, 50),
  (25165896, 32, 1, 75),
  (25165904, 32, 1, 90),
  (25165912, 32, 1, 10),
  (25165920, 32, 1, 32768),
  (25165984, 32, 1, 1),
  (25167888, 512, 32, 1),
  (25167920, 512, 32, 64),
  (25167936, 512, 32, 4096),
  (25167968, 512, 32, 512),
  (25168032, 512, 32, 1000)]

/-- Registers of block SIL, part 1. -/
def regsSIL1 : List RegDesc := [
  ⟨3407872, 4, 1, [(0, 1, .rw), (1, 1, .rw), (2, 1, .w1s)]⟩,
  ⟨3407876, 4, 1, [(0, 1, .ro), (1, 1, .ro), (2, 1, .ro), (3, 1, .ro), (4, 1, .ro), (5, 1, .ro), (6, 1, .ro), (7, 1, .ro)]⟩,
  ⟨3407880, 4, 1, [(0, 5, .rw)]⟩,
  ⟨3407884, 4, 1, [(0, 5, .rw), (5, 1, .rw), (6, 1, .rw), (7, 1, .rw)]⟩,
  ⟨3407888, 4, 1, [(0, 32, .ro)]⟩,
  ⟨3407892, 4, 1, [(0, 24, .w1c)]⟩,
  ⟨3407896, 4, 1, [(0, 24, .w1c)]⟩,
  ⟨3407900, 4, 1, [(0, 16, .rc), (16, 16, .rc)]⟩,
  ⟨3407904, 4, 1, [(0, 32, .rc)]⟩,
  ⟨3407908, 4, 1, [(0, 1, .w1c), (1, 1, .w1c), (2, 1, .w1c), (3, 1, .w1c), (4, 1, .w1c), (5, 1, .w1c), (6, 1, .w1c), (7, 1, .w1c), (8, 1, .w1c), (9, 1, .w1c), (10, 1, .w1c)]⟩,
  ⟨3407912, 4, 1, [(0, 11, .rw)]⟩,
  ⟨3407936, 8, 2, [(0, 24, .rw)]⟩,
  ⟨3407940, 8, 2, [(0, 24, .rw)]⟩,
  ⟨3408000, 4, 32, [(0, 24, .ro), (24, 1, .ro), (25, 1, .ro), (26, 1, .ro), (27, 1, .ro), (28, 1, .ro), (29, 1, .ro), (30, 1, .ro)]⟩,
  ⟨3408128, 4, 1, [(0, 24, .ro), (24, 1, .ro), (25, 1, .ro)]⟩,
  ⟨3411968, 8, 64, [(0, 5, .rw), (5, 5, .rw), (10, 1, .rw), (11, 1, .rw), (12, 4, .rw), (16, 1, .rw), (17, 1, .rw), (18, 1, .rw), (19, 1, .rw), (20, 12, .rw)]⟩,
  ⟨3411972, 8, 64, [(0, 2, .rw), (2, 1, .rw), (3, 5, .rw), (8, 5, .rw), (13, 5, .rw), (18, 12, .rw), (30, 2, .rw)]⟩]

/-- All registers of block SIL. -/
def regsSIL : List RegDesc := regsSIL1

/-- Fields of block SIL whose reset value is not 0: (key, key stride, count, value). -/
def resetsSIL : List (Nat × Nat × Nat × Nat) := [
  (27263040, 32, 1, 4),
  (27263072, 32, 1, 24),
  (27295784, 64, 64, 31),
  (27295789, 64, 64, 31)]

/-- Registers of block PLB, part 1. -/
def regsPLB1 : List RegDesc := [
  ⟨3670016, 4, 1, [(0, 1, .rw), (1, 1, .rw), (2, 1, .rw), (3, 1, .rw), (4, 1, .rw)]⟩,
  ⟨3670020, 4, 1, [(0, 1, .w1s), (1, 1, .w1s), (2, 1, .w1s), (3, 1, .w1s), (4, 1, .w1s)]⟩,
  ⟨3670024, 4, 1, [(0, 1, .ro), (1, 1, .ro), (2, 1, .ro), (3, 1, .ro), (4, 1, .ro), (5, 1, .ro), (6, 1, .ro)]⟩,
  ⟨3670028, 4, 1, [(0, 8, .rw), (8, 8, .rw), (16, 16, .rw)]⟩,
  ⟨3670032, 4, 1, [(0, 16, .rw), (16, 8, .rw), (24, 8, .rw)]⟩,
  ⟨3670036, 4, 1, [(0, 10, .rw), (16, 8, .rw), (24, 6, .rw)]⟩,
  ⟨3670040, 4, 1, [(0, 16, .rw), (16, 8, .rw)]⟩,
  ⟨3670044, 4, 1, [(0, 16, .rw), (16, 8, .rw)]⟩,
  ⟨3670048, 4, 1, [(0, 16, .rw), (16, 8, .rw)]⟩,
  ⟨3670052, 4, 1, [(0, 16, .ro), (16, 16, .ro)]⟩,
  ⟨3670056, 4, 1, [(0, 16, .ro), (16, 16, .ro)]⟩,
  ⟨3670060, 4, 1, [(0, 8, .ro), (8, 8, .ro), (16, 11, .ro)]⟩,
  ⟨3670064, 4, 1, [(0, 1, .w1c), (1, 1, .w1c), (2, 1, .w1c), (3, 1, .w1c), (4, 1, .w1c), (5, 1, .w1c), (6, 1, .w1c), (7, 1, .w1c), (8, 1, .w1c), (9, 1, .w1c), (10, 1, .w1c)]⟩,
  ⟨3670068, 4, 1, [(0, 11, .rw)]⟩,
  ⟨3670272, 4, 32, [(0, 16, .ro), (16, 16, .ro)]⟩,
  ⟨3670528, 4, 32, [(0, 32, .ro)]⟩,
  ⟨3674112, 4, 1056, [(0, 8, .ro), (8, 8, .ro), (16, 2, .ro), (18, 1, .ro), (19, 1, .ro)]⟩]

/-- All registers of block PLB. -/
def regsPLB : List RegDesc := regsPLB1

/-- Fields of block PLB whose reset value is not 0: (key, key stride, count, value). -/
def resetsPLB : List (Nat × Nat × Nat × Nat) := [
  (29360128, 32, 1, 1),
  (29360129, 32, 1, 1),
  (29360130, 32, 1, 1),
  (29360131, 32, 1, 1),
  (29360132, 32, 1, 1),
  (29360224, 32, 1, 240),
  (29360232, 32, 1, 2),
  (29360240, 32, 1, 600),
  (29360256, 32, 1, 2000),
  (29360272, 32, 1, 5),
  (29360280, 32, 1, 10),
  (29360288, 32, 1, 256),
  (29360304, 32, 1, 32),
  (29360312, 32, 1, 8),
  (29360320, 32, 1, 60),
  (29360336, 32, 1, 2),
  (29360352, 32, 1, 1000),
  (29360368, 32, 1, 2),
  (29360384, 32, 1, 3600),
  (29360400, 32, 1, 24)]

/-- Registers of block HIF, part 1. -/
def regsHIF1 : List RegDesc := [
  ⟨3932160, 4, 1, [(0, 11, .rw), (11, 1, .rw)]⟩,
  ⟨3932164, 4, 1, [(0, 3, .ro), (3, 5, .ro), (8, 1, .ro), (9, 1, .ro)]⟩,
  ⟨3932168, 4, 1, [(0, 16, .ro), (16, 16, .ro)]⟩,
  ⟨3932172, 4, 1, [(0, 16, .rw)]⟩,
  ⟨3932176, 4, 1, [(0, 32, .rc)]⟩,
  ⟨3932180, 4, 1, [(0, 32, .rc)]⟩,
  ⟨3932184, 4, 1, [(0, 32, .rc)]⟩,
  ⟨3932188, 4, 1, [(0, 32, .rc)]⟩,
  ⟨3932192, 4, 1, [(0, 32, .rc)]⟩,
  ⟨3932196, 4, 1, [(0, 32, .rc)]⟩,
  ⟨3932208, 4, 1, [(0, 1, .w1c), (1, 1, .w1c), (2, 1, .w1c), (3, 1, .w1c), (4, 1, .w1c), (5, 1, .w1c), (6, 1, .w1c), (7, 1, .w1c)]⟩,
  ⟨3932212, 4, 1, [(0, 8, .rw)]⟩,
  ⟨3932416, 32, 16, [(0, 32, .rw)]⟩,
  ⟨3932420, 32, 16, [(0, 32, .rw)]⟩,
  ⟨3932424, 32, 16, [(0, 32, .rw)]⟩,
  ⟨3932428, 32, 16, [(0, 32, .rw)]⟩,
  ⟨3932432, 32, 16, [(0, 4, .rw), (4, 1, .rw), (5, 11, .rw), (16, 1, .rw)]⟩,
  ⟨3932436, 32, 16, [(0, 16, .ro), (16, 1, .ro), (17, 8, .ro), (25, 1, .ro)]⟩,
  ⟨3932440, 32, 16, [(0, 32, .ro)]⟩,
  ⟨3932444, 32, 16, [(0, 32, .ro)]⟩,
  ⟨3933184, 4, 256, [(0, 2, .ro), (2, 2, .ro), (4, 2, .ro), (6, 2, .ro), (8, 2, .ro), (10, 2, .ro), (12, 2, .ro), (14, 2, .ro), (16, 2, .ro), (18, 2, .ro), (20, 2, .ro), (22, 2, .ro), (24, 2, .ro), (26, 2, .ro), (28, 2, .ro), (30, 2, .ro)]⟩]

/-- All registers of block HIF. -/
def regsHIF : List RegDesc := regsHIF1

/-- Fields of block HIF whose reset value is not 0: (key, key stride, count, value). -/
def resetsHIF : List (Nat × Nat × Nat × Nat) := [
  (31457344, 32, 1, 7578),
  (31457360, 32, 1, 4132),
  (31457376, 32, 1, 100),
  (31459456, 256, 16, 4)]

/-- Registers of block PUR, part 1. -/
def regsPUR1 : List RegDesc := [
  ⟨4194304, 4, 1, [(0, 4, .rw)]⟩,
  ⟨4194308, 4, 1, [(0, 10, .ro)]⟩,
  ⟨4194312, 4, 1, [(0, 32, .rc)]⟩,
  ⟨4194320, 4, 1, [(0, 1, .w1c), (1, 1, .w1c), (2, 1, .w1c), (3, 1, .w1c), (4, 1, .w1c)]⟩,
  ⟨4194324, 4, 1, [(0, 5, .rw)]⟩,
  ⟨4194560, 32, 64, [(0, 2, .rw), (2, 1, .rw), (3, 4, .rw), (7, 11, .rw), (18, 1, .rw), (19, 1, .rw)]⟩,
  ⟨4194564, 32, 64, [(0, 1, .w1s)]⟩,
  ⟨4194568, 32, 64, [(0, 2, .ro), (2, 1, .ro), (3, 16, .ro)]⟩,
  ⟨4194572, 32, 64, [(0, 32, .rw)]⟩,
  ⟨4194576, 32, 64, [(0, 32, .rw)]⟩,
  ⟨4194580, 32, 64, [(0, 32, .rw)]⟩,
  ⟨4194584, 32, 64, [(0, 32, .rw)]⟩,
  ⟨4194588, 32, 64, [(0, 16, .rc), (16, 16, .rc)]⟩]

/-- All registers of block PUR. -/
def regsPUR : List RegDesc := regsPUR1

/-- Fields of block PUR whose reset value is not 0: (key, key stride, count, value). -/
def resetsPUR : List (Nat × Nat × Nat × Nat) := [
  (33554432, 32, 1, 4),
  (33572608, 256, 1, 2),
  (33564675, 256, 32, 4),
  (33556499, 256, 32, 1)]

/-- Registers of block DWL, part 1. -/
def regsDWL1 : List RegDesc := [
  ⟨4456448, 4, 1, [(0, 20, .ro), (20, 1, .ro)]⟩,
  ⟨4456452, 4, 1, [(0, 8, .rw), (8, 1, .rw)]⟩,
  ⟨4456456, 4, 1, [(0, 3, .rw), (3, 1, .rw), (4, 4, .rw)]⟩,
  ⟨4456460, 4, 1, [(0, 1, .ro), (1, 1, .ro), (2, 1, .ro), (3, 3, .ro), (6, 2, .ro), (8, 8, .ro)]⟩,
  ⟨4456464, 4, 1, [(0, 32, .ro)]⟩,
  ⟨4456468, 4, 1, [(0, 32, .ro)]⟩,
  ⟨4456472, 4, 1, [(0, 32, .ro)]⟩,
  ⟨4456480, 4, 1, [(0, 1, .w1c), (1, 1, .w1c), (2, 1, .w1c), (3, 1, .w1c), (4, 1, .w1c), (5, 1, .w1c), (6, 1, .w1c), (7, 1, .w1c), (8, 1, .w1c)]⟩,
  ⟨4456484, 4, 1, [(0, 9, .rw)]⟩,
  ⟨4456704, 32, 20, [(0, 5, .rw), (5, 6, .rw), (11, 5, .rw), (16, 1, .rw), (17, 1, .rw), (18, 1, .w1s)]⟩,
  ⟨4456708, 32, 20, [(0, 1, .ro), (1, 1, .ro), (2, 1, .ro), (3, 4, .ro), (8, 8, .ro), (16, 16, .ro)]⟩,
  ⟨4456712, 32, 20, [(0, 16, .rc), (16, 16, .rc)]⟩,
  ⟨4456716, 32, 20, [(0, 8, .rc), (8, 8, .rc), (16, 8, .rc), (24, 8, .rc)]⟩,
  ⟨4456720, 32, 20, [(0, 3, .rw), (16, 16, .rw)]⟩,
  ⟨4456724, 32, 20, [(0, 32, .rc)]⟩]

/-- All registers of block DWL. -/
def regsDWL : List RegDesc := regsDWL1

/-- Fields of block DWL whose reset value is not 0: (key, key stride, count, value). -/
def resetsDWL : List (Nat × Nat × Nat × Nat) := [
  (35651616, 32, 1, 64),
  (35651624, 32, 1, 1),
  (35651683, 32, 1, 7),
  (35653632, 256, 20, 2),
  (35653637, 256, 20, 48),
  (35653643, 256, 20, 8),
  (35653776, 256, 20, 1000)]

end Sys2Proof.Machine.R
end

