-- ==== Sys2Proof/Machine/RegMapPath.lean ====
section
/-!
DEFINITION. The register map of the blocks KRF, MRT, JST, JNL, LBK: one `Fld` per named field of
the chapters' register tables (a field's key is its bit address in BAR0), and each block's register descriptors
(base offset, stride, count, and the fields as low bit, width and access code). An index is taken modulo the number of registers
of its array.
-/
namespace Sys2Proof.Machine.R

/-- KRF_CTL.RUN, RW, R168: 1 = stamping enabled; firmware sets it in stage CALIBRATE -/
def KRF_CTL_RUN : Fld := ⟨2097152, 1⟩
/-- KRF_STATUS.NSTUCK, RO, R168: Channels stuck now -/
def KRF_STATUS_NSTUCK : Fld := ⟨2097184, 11⟩
/-- KRF_STATUS.NFAST, RO, R168: Channels over-fast now -/
def KRF_STATUS_NFAST : Fld := ⟨2097195, 11⟩
/-- KRF_LIMCFG.LIMRATE, RW, R168: Tokens per µs, R154; 0 = no channel gate; 401–511 act as 400 -/
def KRF_LIMCFG_LIMRATE : Fld := ⟨2097216, 9⟩
/-- KRF_LIMCFG.LIMDEPTH, RW, R168: Bucket depth; 0 acts as 1 -/
def KRF_LIMCFG_LIMDEPTH : Fld := ⟨2097232, 6⟩
/-- KRF_STUCKCFG.HIGHT, RW, R168: Stuck time, µs; 0 = no stuck detection -/
def KRF_STUCKCFG_HIGHT : Fld := ⟨2097248, 8⟩
/-- KRF_STUCKCFG.RELT, RW, R168: Release time, ms; 0 = release by REL only -/
def KRF_STUCKCFG_RELT : Fld := ⟨2097256, 8⟩
/-- KRF_STUCKCFG.FASTMAX, RW, R168: Events per µs, R158; 0 = off; 401–511 act as 400 -/
def KRF_STUCKCFG_FASTMAX : Fld := ⟨2097264, 9⟩
/-- KRF_STUCKCFG.FASTMASK, RW, R168: 1 = mask over-fast channels -/
def KRF_STUCKCFG_FASTMASK : Fld := ⟨2097273, 1⟩
/-- KRF_SHADOWCFG.SHADOWT, RW, R168: Shadow period per channel, ms; 0 acts as 1 -/
def KRF_SHADOWCFG_SHADOWT : Fld := ⟨2097280, 16⟩
/-- KRF_SHADOWCFG.SHDLIM, RW, R168: Mismatch limit, LSB; 0 acts as 1 -/
def KRF_SHADOWCFG_SHDLIM : Fld := ⟨2097296, 8⟩
/-- KRF_INTSTAT.STUCK, W1C, R168: A channel became stuck -/
def KRF_INTSTAT_STUCK : Fld := ⟨2097312, 1⟩
/-- KRF_INTSTAT.STUCKREL, W1C, R168: A stuck or over-fast channel was released -/
def KRF_INTSTAT_STUCKREL : Fld := ⟨2097313, 1⟩
/-- KRF_INTSTAT.FAST, W1C, R168: A channel became over-fast -/
def KRF_INTSTAT_FAST : Fld := ⟨2097314, 1⟩
/-- KRF_INTSTAT.DROP, W1C, R168: The limiter dropped an event -/
def KRF_INTSTAT_DROP : Fld := ⟨2097315, 1⟩
/-- KRF_INTSTAT.SPAREUSE, W1C, R168: A spare took over a channel -/
def KRF_INTSTAT_SPAREUSE : Fld := ⟨2097316, 1⟩
/-- KRF_INTSTAT.SHADOWMIS, W1C, R168: A channel was found suspect -/
def KRF_INTSTAT_SHADOWMIS : Fld := ⟨2097317, 1⟩
/-- KRF_INTSTAT.NOREPAIR, W1C, R168: A failed TDC could not be repaired -/
def KRF_INTSTAT_NOREPAIR : Fld := ⟨2097318, 1⟩
/-- KRF_INTSTAT.GAUGEDONE, W1C, R168: A gauge run completed -/
def KRF_INTSTAT_GAUGEDONE : Fld := ⟨2097319, 1⟩
/-- KRF_INTSTAT.GAUGEOVF, W1C, R168: A gauge measurement overflowed -/
def KRF_INTSTAT_GAUGEOVF : Fld := ⟨2097320, 1⟩
/-- KRF_INTSTAT.BADCFG, W1C, R168: A write was refused -/
def KRF_INTSTAT_BADCFG : Fld := ⟨2097321, 1⟩
/-- KRF_INTEN.EN, RW, R168: Enables the KRF_INTSTAT bit of the same position into the global interrupt summary -/
def KRF_INTEN_EN : Fld := ⟨2097344, 10⟩
/-- KRF_SPARE.MODE, RW, R168: R159 -/
def KRF_SPARE_MODE (i : Nat) : Fld := ⟨2099200 + 64 * (i % 32), 2⟩
/-- KRF_SPARE.CH, RW, R168: Channel within the group -/
def KRF_SPARE_CH (i : Nat) : Fld := ⟨2099202 + 64 * (i % 32), 5⟩
/-- KRF_SPARE.AUTO, RW, R168: Substitute automatically, R161 -/
def KRF_SPARE_AUTO (i : Nat) : Fld := ⟨2099207 + 64 * (i % 32), 1⟩
/-- KRF_SPARE.ROTATE, RW, R168: Rotate the shadow, R160 -/
def KRF_SPARE_ROTATE (i : Nat) : Fld := ⟨2099208 + 64 * (i % 32), 1⟩
/-- KRF_SPSTAT.CURCH, RO, R168: Channel the spare is on now -/
def KRF_SPSTAT_CURCH (i : Nat) : Fld := ⟨2099232 + 64 * (i % 32), 5⟩
/-- KRF_SPSTAT.TAKEN, RO, R168: Spare substituting -/
def KRF_SPSTAT_TAKEN (i : Nat) : Fld := ⟨2099237 + 64 * (i % 32), 1⟩
/-- KRF_SPSTAT.NOREPAIR, RO, R168: R162 -/
def KRF_SPSTAT_NOREPAIR (i : Nat) : Fld := ⟨2099238 + 64 * (i % 32), 1⟩
/-- KRF_SPSTAT.SPFAIL, RO, R168: Spare declared failed, R162; clears at power-on reset -/
def KRF_SPSTAT_SPFAIL (i : Nat) : Fld := ⟨2099239 + 64 * (i % 32), 1⟩
/-- KRF_SPSTAT.MISCNT, RC, R168: Shadow mismatches, saturating -/
def KRF_SPSTAT_MISCNT (i : Nat) : Fld := ⟨2099248 + 64 * (i % 32), 16⟩
/-- KRF_GCFG.MODE, RW, R168: R164 -/
def KRF_GCFG_MODE (i : Nat) : Fld := ⟨2113536 + 512 * (i % 8), 3⟩
/-- KRF_GCFG.START, RW, R168: Start gauge -/
def KRF_GCFG_START (i : Nat) : Fld := ⟨2113539 + 512 * (i % 8), 3⟩
/-- KRF_GCFG.STARTEDGE, RW, R168: 0 = rising, 1 = falling -/
def KRF_GCFG_STARTEDGE (i : Nat) : Fld := ⟨2113542 + 512 * (i % 8), 1⟩
/-- KRF_GCFG.STOP, RW, R168: Stop gauge -/
def KRF_GCFG_STOP (i : Nat) : Fld := ⟨2113543 + 512 * (i % 8), 3⟩
/-- KRF_GCFG.STOPEDGE, RW, R168: 0 = rising, 1 = falling -/
def KRF_GCFG_STOPEDGE (i : Nat) : Fld := ⟨2113546 + 512 * (i % 8), 1⟩
/-- KRF_GCFG.CONT, RW, R168: Re-arm after each run -/
def KRF_GCFG_CONT (i : Nat) : Fld := ⟨2113547 + 512 * (i % 8), 1⟩
/-- KRF_GCFG.ARM, W1S, R168: Start a run -/
def KRF_GCFG_ARM (i : Nat) : Fld := ⟨2113548 + 512 * (i % 8), 1⟩
/-- KRF_GCFG.ABORT, W1S, R168: Stop the run -/
def KRF_GCFG_ABORT (i : Nat) : Fld := ⟨2113549 + 512 * (i % 8), 1⟩
/-- KRF_GN.N, RW, R168: Measurements per run; 0 acts as 1 -/
def KRF_GN_N (i : Nat) : Fld := ⟨2113568 + 512 * (i % 8), 16⟩
/-- KRF_GSTAT.CNT, RO, R168: Measurements in this run -/
def KRF_GSTAT_CNT (i : Nat) : Fld := ⟨2113600 + 512 * (i % 8), 16⟩
/-- KRF_GSTAT.BUSY, RO, R168: Run in progress -/
def KRF_GSTAT_BUSY (i : Nat) : Fld := ⟨2113616 + 512 * (i % 8), 1⟩
/-- KRF_GSTAT.DONE, RO, R168: Statistics latched after N -/
def KRF_GSTAT_DONE (i : Nat) : Fld := ⟨2113617 + 512 * (i % 8), 1⟩
/-- KRF_GSTAT.OVF, RO, R168: Last measurement overflowed -/
def KRF_GSTAT_OVF (i : Nat) : Fld := ⟨2113618 + 512 * (i % 8), 1⟩
/-- KRF_GSTAT.FIFO, RO, R168: TIMESTAMP entries held, 0–16 -/
def KRF_GSTAT_FIFO (i : Nat) : Fld := ⟨2113619 + 512 * (i % 8), 5⟩
/-- KRF_GOVF.OVFCNT, RC, R168: Overflows and FIFO drops, saturating -/
def KRF_GOVF_OVFCNT (i : Nat) : Fld := ⟨2113632 + 512 * (i % 8), 16⟩
/-- KRF_GOVF.DEADCNT, RC, R168: Edges ignored, R163, saturating -/
def KRF_GOVF_DEADCNT (i : Nat) : Fld := ⟨2113648 + 512 * (i % 8), 16⟩
/-- KRF_GLASTLO.LAST, RO, R168: Last measurement, LSB, bits [36:0]; HI [31:5] reserved -/
def KRF_GLASTLO_LAST (i : Nat) : Fld := ⟨2113664 + 512 * (i % 8), 32⟩
/-- KRF_GLASTHI.LAST, RO, R168: Last measurement, LSB, bits [36:0]; HI [31:5] reserved -/
def KRF_GLASTHI_LAST (i : Nat) : Fld := ⟨2113696 + 512 * (i % 8), 5⟩
/-- KRF_GMEANLO.MEAN, RO, R168: Mean, 2⁻⁸ LSB, bits [44:0]; HI [31:13] reserved -/
def KRF_GMEANLO_MEAN (i : Nat) : Fld := ⟨2113728 + 512 * (i % 8), 32⟩
/-- KRF_GMEANHI.MEAN, RO, R168: Mean, 2⁻⁸ LSB, bits [44:0]; HI [31:13] reserved -/
def KRF_GMEANHI_MEAN (i : Nat) : Fld := ⟨2113760 + 512 * (i % 8), 13⟩
/-- KRF_GSDEVLO.SDEV, RO, R168: Deviation, 2⁻⁸ LSB, bits [44:0]; HI [31:13] reserved -/
def KRF_GSDEVLO_SDEV (i : Nat) : Fld := ⟨2113792 + 512 * (i % 8), 32⟩
/-- KRF_GSDEVHI.SDEV, RO, R168: Deviation, 2⁻⁸ LSB, bits [44:0]; HI [31:13] reserved -/
def KRF_GSDEVHI_SDEV (i : Nat) : Fld := ⟨2113824 + 512 * (i % 8), 13⟩
/-- KRF_GMINLO.MIN, RO, R168: Least measurement, LSB; HI [31:5] reserved -/
def KRF_GMINLO_MIN (i : Nat) : Fld := ⟨2113856 + 512 * (i % 8), 32⟩
/-- KRF_GMINHI.MIN, RO, R168: Least measurement, LSB; HI [31:5] reserved -/
def KRF_GMINHI_MIN (i : Nat) : Fld := ⟨2113888 + 512 * (i % 8), 5⟩
/-- KRF_GMAXLO.MAX, RO, R168: Greatest measurement, LSB; HI [31:5] reserved -/
def KRF_GMAXLO_MAX (i : Nat) : Fld := ⟨2113920 + 512 * (i % 8), 32⟩
/-- KRF_GMAXHI.MAX, RO, R168: Greatest measurement, LSB; HI [31:5] reserved -/
def KRF_GMAXHI_MAX (i : Nat) : Fld := ⟨2113952 + 512 * (i % 8), 5⟩
/-- KRF_GTSLO.TS, RO, R168: Timestamp [31:0]; read pops, R167 -/
def KRF_GTSLO_TS (i : Nat) : Fld := ⟨2113984 + 512 * (i % 8), 32⟩
/-- KRF_GTSHI.TS, RO, R168: Timestamp [63:32] of the entry popped -/
def KRF_GTSHI_TS (i : Nat) : Fld := ⟨2114016 + 512 * (i % 8), 32⟩
/-- KRF_CHCFG.EN, RW, R168: Channel enabled -/
def KRF_CHCFG_EN (i : Nat) : Fld := ⟨2129920 + 32 * (i % 1024), 1⟩
/-- KRF_CHCFG.TERM, RW, R168: 100 Ω termination on -/
def KRF_CHCFG_TERM (i : Nat) : Fld := ⟨2129921 + 32 * (i % 1024), 1⟩
/-- KRF_CHCFG.INV, RW, R168: Invert the pair -/
def KRF_CHCFG_INV (i : Nat) : Fld := ⟨2129922 + 32 * (i % 1024), 1⟩
/-- KRF_CHCFG.REL, W1S, R168: Release a stuck or over-fast mask, R157 -/
def KRF_CHCFG_REL (i : Nat) : Fld := ⟨2129923 + 32 * (i % 1024), 1⟩
/-- KRF_CHCFG.TDCFAIL, W1S, R168: Declare the channel's TDC failed, R160 -/
def KRF_CHCFG_TDCFAIL (i : Nat) : Fld := ⟨2129924 + 32 * (i % 1024), 1⟩
/-- KRF_CHSTAT.STUCK, RO, R168: Stuck now -/
def KRF_CHSTAT_STUCK (i : Nat) : Fld := ⟨2162688 + 32 * (i % 1024), 1⟩
/-- KRF_CHSTAT.FAST, RO, R168: Over-fast now -/
def KRF_CHSTAT_FAST (i : Nat) : Fld := ⟨2162689 + 32 * (i % 1024), 1⟩
/-- KRF_CHSTAT.SPARE, RO, R168: Served by the spare -/
def KRF_CHSTAT_SPARE (i : Nat) : Fld := ⟨2162690 + 32 * (i % 1024), 1⟩
/-- KRF_CHSTAT.MASKED, RO, R168: Masked under R146 -/
def KRF_CHSTAT_MASKED (i : Nat) : Fld := ⟨2162691 + 32 * (i % 1024), 1⟩
/-- KRF_CHSTAT.TDCFAIL, RO, R168: Own TDC declared failed -/
def KRF_CHSTAT_TDCFAIL (i : Nat) : Fld := ⟨2162692 + 32 * (i % 1024), 1⟩
/-- KRF_DROP.CNT, RC, R168: Events dropped by the limiter, saturating -/
def KRF_DROP_CNT (i : Nat) : Fld := ⟨2195456 + 32 * (i % 1024), 32⟩
/-- KRF_EVCNT.CNT, RC, R168: Events stamped, saturating -/
def KRF_EVCNT_CNT (i : Nat) : Fld := ⟨2228224 + 32 * (i % 1024), 32⟩
/-- KRF_SKEW.SKEW, RW, R168: Signed skew, LSB, R147 and R149; written by Plumb or host software -/
def KRF_SKEW_SKEW (i : Nat) : Fld := ⟨2260992 + 32 * (i % 1024), 12⟩
/-- KRF_DEADCNT.CNT, RC, R168: Pulses ignored in dead time, saturating -/
def KRF_DEADCNT_CNT (i : Nat) : Fld := ⟨2293760 + 32 * (i % 1024), 32⟩

/-- MRT_STATUS.INUSE, RO, R191: Slots in use, 0–4,096 -/
def MRT_STATUS_INUSE : Fld := ⟨6291456, 13⟩
/-- MRT_STATUS.PEAK, RC, R191: Most slots in use since last read -/
def MRT_STATUS_PEAK : Fld := ⟨6291472, 13⟩
/-- MRT_SIEVECFG.PFA, RW, R191: False-candidate exponent, R175; 0 acts as 1 -/
def MRT_SIEVECFG_PFA : Fld := ⟨6291488, 5⟩
/-- MRT_SIEVECFG.LPFA, RW, R191: Exponent for listen bursts; 0 acts as 1 -/
def MRT_SIEVECFG_LPFA : Fld := ⟨6291493, 5⟩
/-- MRT_SIEVECFG.NMIN, RW, R191: Least threshold; 0 acts as 1 -/
def MRT_SIEVECFG_NMIN : Fld := ⟨6291498, 4⟩
/-- MRT_SIEVECFG.BINMIN, RW, R191: First position searched; 0 and 1 act as 2; above 1,000 refused with BADCFG -/
def MRT_SIEVECFG_BINMIN : Fld := ⟨6291504, 12⟩
/-- MRT_SIEVECFG.SEP, RW, R191: Least spacing of kept candidates, bins; 0–3 act as 4 -/
def MRT_SIEVECFG_SEP : Fld := ⟨6291516, 4⟩
/-- MRT_ZOOMCFG.NWIN, RW, R191: Zoom windows per burst, 0–4; 5–7 act as 4 -/
def MRT_ZOOMCFG_NWIN : Fld := ⟨6291520, 3⟩
/-- MRT_ZOOMCFG.NEARFIRST, RW, R191: R177 -/
def MRT_ZOOMCFG_NEARFIRST : Fld := ⟨6291523, 1⟩
/-- MRT_NOCAND.CNT, RC, R191: Bursts whose sieve kept no candidate, saturating -/
def MRT_NOCAND_CNT : Fld := ⟨6291584, 32⟩
/-- MRT_OVERCAND.CNT, RC, R191: Bursts with more kept candidates than windows, saturating -/
def MRT_OVERCAND_CNT : Fld := ⟨6291616, 32⟩
/-- MRT_WRAPWIN.CNT, RC, R191: Windows with a shot excluded, R181, saturating -/
def MRT_WRAPWIN_CNT : Fld := ⟨6291648, 32⟩
/-- MRT_LATEEV.CNT, RC, R191: Events delivered after their burst closed, R173, saturating -/
def MRT_LATEEV_CNT : Fld := ⟨6291680, 32⟩
/-- MRT_FILLWAIT.CNT, RC, R191: Fills that waited, R180, saturating -/
def MRT_FILLWAIT_CNT : Fld := ⟨6291712, 32⟩
/-- MRT_BACKONLY.CNT, RC, R191: Backlog-only windows, R183, saturating -/
def MRT_BACKONLY_CNT : Fld := ⟨6291744, 32⟩
/-- MRT_INTSTAT.SLOTFULL, W1C, R191: R169 -/
def MRT_INTSTAT_SLOTFULL : Fld := ⟨6291840, 1⟩
/-- MRT_INTSTAT.BADCFG, W1C, R191: A write was refused -/
def MRT_INTSTAT_BADCFG : Fld := ⟨6291841, 1⟩
/-- MRT_INTSTAT.LATEEV, W1C, R191: R173 -/
def MRT_INTSTAT_LATEEV : Fld := ⟨6291842, 1⟩
/-- MRT_INTEN.EN, RW, R191: Enables the MRT_INTSTAT bit of the same position into the global interrupt summary -/
def MRT_INTEN_EN : Fld := ⟨6291872, 3⟩

/-- JST_CTL.AUTOSUB, RW, R217: Substitute automatically, R214 -/
def JST_CTL_AUTOSUB : Fld := ⟨8388608, 1⟩
/-- JST_CTL.RERUNEN, RW, R217: Re-run faulted items, R212 -/
def JST_CTL_RERUNEN : Fld := ⟨8388609, 1⟩
/-- JST_STATUS.ACTEPOCH, RO, R217: Newest epoch whose program set is active -/
def JST_STATUS_ACTEPOCH : Fld := ⟨8388640, 8⟩
/-- JST_STATUS.STGVALID, RO, R217: Staged set proven and written -/
def JST_STATUS_STGVALID : Fld := ⟨8388648, 1⟩
/-- JST_STATUS.LOADBUSY, RO, R217: Loader proving, writing or waiting, R210 -/
def JST_STATUS_LOADBUSY : Fld := ⟨8388649, 1⟩
/-- JST_STATUS.THROTTLE, RO, R217: Throttle level L in force -/
def JST_STATUS_THROTTLE : Fld := ⟨8388650, 2⟩
/-- JST_STATUS.SUBCL, RO, R217: Cluster substituted by the spare, 0–31; 63 = none -/
def JST_STATUS_SUBCL : Fld := ⟨8388656, 6⟩
/-- JST_SETINFO.BMAX, RO, R217: Largest proven budget of the active set, cycles -/
def JST_SETINFO_BMAX : Fld := ⟨8388672, 13⟩
/-- JST_SETINFO.SLOTS, RO, R217: Slots present in the active set -/
def JST_SETINFO_SLOTS : Fld := ⟨8388688, 8⟩
/-- JST_PROOF.CODE, RO, R217: Result of the last proof, R205; 0 = accepted -/
def JST_PROOF_CODE : Fld := ⟨8388704, 4⟩
/-- JST_PROOF.SLOT, RO, R217: Slot the result concerns -/
def JST_PROOF_SLOT : Fld := ⟨8388708, 3⟩
/-- JST_PROOF.WORST, RO, R217: Computed worst-path cost, cycles; saturates at 8,191 -/
def JST_PROOF_WORST : Fld := ⟨8388712, 13⟩
/-- JST_CLCFG.MINENG, RW, R217: Engines in service below which the spare substitutes; 0 acts as 1; 33–63 act as 32 -/
def JST_CLCFG_MINENG : Fld := ⟨8388736, 6⟩
/-- JST_RETEST.REFAULT, RW, R217: Hours, R213; 0 = a faulted engine never returns -/
def JST_RETEST_REFAULT : Fld := ⟨8388768, 8⟩
/-- JST_SUBCMD.CL, RW, R217: Cluster to substitute -/
def JST_SUBCMD_CL : Fld := ⟨8388800, 5⟩
/-- JST_SUBCMD.GO, W1S, R217: Substitute cluster CL now; refused with BADCFG while the spare is taken -/
def JST_SUBCMD_GO : Fld := ⟨8388805, 1⟩
/-- JST_ZONESEL.SLOT, RW, R217: Slot for zone 8z + n, n = 0–7, z = 0–7, R202; 0 or 2–7. A write holding 1 in any nibble is refused with BADCFG -/
def JST_ZONESEL_SLOT (i : Nat) : Fld := ⟨8388864 + 32 * (i / 8 % 8) + 4 * (i % 8), 3⟩
/-- JST_ITEMS.CNT, RC, R217: Work items run, saturating -/
def JST_ITEMS_CNT : Fld := ⟨8389120, 32⟩
/-- JST_RERUN.CNT, RC, R217: Re-runs, saturating -/
def JST_RERUN_CNT : Fld := ⟨8389152, 32⟩
/-- JST_DROPITEM.CNT, RC, R217: Bursts ended without a record by R212 or R215, saturating -/
def JST_DROPITEM_CNT : Fld := ⟨8389184, 32⟩
/-- JST_LATE.CNT, RC, R217: Re-runs that waited, R213, saturating -/
def JST_LATE_CNT : Fld := ⟨8389216, 32⟩
/-- JST_BOOKWAIT.CNT, RC, R217: Plan steps held for a booking, R194, saturating -/
def JST_BOOKWAIT_CNT : Fld := ⟨8389248, 32⟩
/-- JST_ECCCOR.CNT, RC, R217: Corrected ECC errors, saturating -/
def JST_ECCCOR_CNT : Fld := ⟨8389280, 32⟩
/-- JST_INTSTAT.PROOFFAIL, W1C, R217: A set was refused -/
def JST_INTSTAT_PROOFFAIL : Fld := ⟨8389376, 1⟩
/-- JST_INTSTAT.ENGFAULT, W1C, R217: An engine faulted -/
def JST_INTSTAT_ENGFAULT : Fld := ⟨8389377, 1⟩
/-- JST_INTSTAT.ENGOUT, W1C, R217: An engine left service for good, R213 -/
def JST_INTSTAT_ENGOUT : Fld := ⟨8389378, 1⟩
/-- JST_INTSTAT.SUBST, W1C, R217: The spare substituted -/
def JST_INTSTAT_SUBST : Fld := ⟨8389379, 1⟩
/-- JST_INTSTAT.DROPITEM, W1C, R217: A burst ended without a record -/
def JST_INTSTAT_DROPITEM : Fld := ⟨8389380, 1⟩
/-- JST_INTSTAT.LATE, W1C, R217: R213 -/
def JST_INTSTAT_LATE : Fld := ⟨8389381, 1⟩
/-- JST_INTSTAT.BADCFG, W1C, R217: A write was refused -/
def JST_INTSTAT_BADCFG : Fld := ⟨8389382, 1⟩
/-- JST_INTSTAT.NOSPARE, W1C, R217: R215 -/
def JST_INTSTAT_NOSPARE : Fld := ⟨8389383, 1⟩
/-- JST_INTSTAT.SETREADY, W1C, R217: A staged set is ready -/
def JST_INTSTAT_SETREADY : Fld := ⟨8389384, 1⟩
/-- JST_INTEN.EN, RW, R217: Enables the JST_INTSTAT bit of the same position into the global interrupt summary -/
def JST_INTEN_EN : Fld := ⟨8389408, 9⟩
/-- JST_CLSTAT.STATE, RO, R217: 0 = home cluster in service; 1 = substituted; 2 = spare idle; 3 = spare substituting -/
def JST_CLSTAT_STATE (i : Nat) : Fld := ⟨8390656 + 64 * (i % 33), 2⟩
/-- JST_CLSTAT.NENG, RO, R217: Engines in service, 0–32 -/
def JST_CLSTAT_NENG (i : Nat) : Fld := ⟨8390658 + 64 * (i % 33), 6⟩
/-- JST_CLSTAT.FAULTS, RC, R217: Engine faults, saturating -/
def JST_CLSTAT_FAULTS (i : Nat) : Fld := ⟨8390664 + 64 * (i % 33), 8⟩
/-- JST_CLENG.INSVC, RO, R217: Bit e: engine e in service -/
def JST_CLENG_INSVC (i : Nat) : Fld := ⟨8390688 + 64 * (i % 33), 32⟩

/-- JNL_CTL.DEMOTE, RW, R243: R238 -/
def JNL_CTL_DEMOTE : Fld := ⟨12582912, 1⟩
/-- JNL_STATUS.REFUSING, RO, R243: Points refused now, R234 -/
def JNL_STATUS_REFUSING : Fld := ⟨12582944, 1⟩
/-- JNL_STATUS.RECOVERED, RO, R243: Journal recovered at the last full reset, R240 -/
def JNL_STATUS_RECOVERED : Fld := ⟨12582945, 1⟩
/-- JNL_STATUS.RESVUSE, RO, R243: Marker reserve in use, R236 -/
def JNL_STATUS_RESVUSE : Fld := ⟨12582946, 1⟩
/-- JNL_STATUS.HELD, RO, R243: A commit is held behind a re-run now -/
def JNL_STATUS_HELD : Fld := ⟨12582947, 1⟩
/-- JNL_CAP.CAP, RO, R243: Slots, R233; follows the allocation of R19 and R21 -/
def JNL_CAP_CAP : Fld := ⟨12582976, 32⟩
/-- JNL_GEN.GEN, RO, R243: Journal generation, R232 -/
def JNL_GEN_GEN : Fld := ⟨12583008, 32⟩
/-- JNL_HEADLO.SEQ, RO, R243: Next sequence number [31:0]; latches HEADHI -/
def JNL_HEADLO_SEQ : Fld := ⟨12583040, 32⟩
/-- JNL_HEADHI.SEQ, RO, R243: Next sequence number [47:32] -/
def JNL_HEADHI_SEQ : Fld := ⟨12583072, 16⟩
/-- JNL_RELLO.SEQ, RO, R243: Release point [31:0]; latches RELHI -/
def JNL_RELLO_SEQ : Fld := ⟨12583104, 32⟩
/-- JNL_RELHI.SEQ, RO, R243: Release point [47:32] -/
def JNL_RELHI_SEQ : Fld := ⟨12583136, 16⟩
/-- JNL_RESERVE.SLOTS, RW, R243: Marker reserve; below 4,096 acts as 4,096; above CAP ÷ 16 acts as CAP ÷ 16 -/
def JNL_RESERVE_SLOTS : Fld := ⟨12583168, 28⟩
/-- JNL_RESUME.SLOTS, RW, R243: Free slots beyond the reserve needed to resume, R234; 0 acts as 1 -/
def JNL_RESUME_SLOTS : Fld := ⟨12583200, 28⟩
/-- JNL_STALLT.MS, RW, R243: Stall time before demotion, ms; 0 acts as 1 -/
def JNL_STALLT_MS : Fld := ⟨12583232, 16⟩
/-- JNL_USE.USED, RO, R243: head − release point -/
def JNL_USE_USED : Fld := ⟨12583264, 32⟩
/-- JNL_PEAK.USED, RC, R243: Largest USED since last read -/
def JNL_PEAK_USED : Fld := ⟨12583296, 32⟩
/-- JNL_COMMITS.CNT, RC, R243: Records committed, all streams, saturating -/
def JNL_COMMITS_CNT : Fld := ⟨12583328, 32⟩
/-- JNL_REFREC.CNT, RC, R243: Records refused, R234 and R235, saturating -/
def JNL_REFREC_CNT : Fld := ⟨12583360, 32⟩
/-- JNL_REFBURST.CNT, RC, R243: Bursts refused, saturating -/
def JNL_REFBURST_CNT : Fld := ⟨12583392, 32⟩
/-- JNL_RATEREF.CNT, RC, R243: Bursts refused for queue overflow, R235, saturating -/
def JNL_RATEREF_CNT : Fld := ⟨12583424, 32⟩
/-- JNL_MKREFUSE.CNT, RC, R243: Markers refused, R236, saturating -/
def JNL_MKREFUSE_CNT : Fld := ⟨12583456, 32⟩
/-- JNL_HELDCNT.CNT, RC, R243: Bursts held beyond their own bound, R230, saturating -/
def JNL_HELDCNT_CNT : Fld := ⟨12583488, 32⟩
/-- JNL_LOST.CNT, RC, R243: Records lost to uncorrectable errors, R239, saturating -/
def JNL_LOST_CNT : Fld := ⟨12583520, 32⟩
/-- JNL_DEMOTED.CNT, RC, R243: Subscribers demoted, R238, saturating -/
def JNL_DEMOTED_CNT : Fld := ⟨12583552, 32⟩
/-- JNL_BADCLS.CNT, RC, R243: Reserved classes rewritten to 15, R222, saturating -/
def JNL_BADCLS_CNT : Fld := ⟨12583584, 32⟩
/-- JNL_INTSTAT.FULL, W1C, R243: Refusal began -/
def JNL_INTSTAT_FULL : Fld := ⟨12583680, 1⟩
/-- JNL_INTSTAT.RESUMED, W1C, R243: Acceptance resumed -/
def JNL_INTSTAT_RESUMED : Fld := ⟨12583681, 1⟩
/-- JNL_INTSTAT.MKREFUSE, W1C, R243: A marker was refused -/
def JNL_INTSTAT_MKREFUSE : Fld := ⟨12583682, 1⟩
/-- JNL_INTSTAT.DEMOTED, W1C, R243: A subscriber was demoted -/
def JNL_INTSTAT_DEMOTED : Fld := ⟨12583683, 1⟩
/-- JNL_INTSTAT.LOST, W1C, R243: A record was lost -/
def JNL_INTSTAT_LOST : Fld := ⟨12583684, 1⟩
/-- JNL_INTSTAT.HELD, W1C, R243: A commit was held beyond its own bound -/
def JNL_INTSTAT_HELD : Fld := ⟨12583685, 1⟩
/-- JNL_INTSTAT.RECOVERY, W1C, R243: Journal recovered after a full reset -/
def JNL_INTSTAT_RECOVERY : Fld := ⟨12583686, 1⟩
/-- JNL_INTSTAT.NEWGEN, W1C, R243: Journal restarted with a new generation, R240 -/
def JNL_INTSTAT_NEWGEN : Fld := ⟨12583687, 1⟩
/-- JNL_INTSTAT.BADCFG, W1C, R243: A write was refused -/
def JNL_INTSTAT_BADCFG : Fld := ⟨12583688, 1⟩
/-- JNL_INTEN.EN, RW, R243: Enables the JNL_INTSTAT bit of the same position into the global interrupt summary -/
def JNL_INTEN_EN : Fld := ⟨12583712, 9⟩

/-- LBK_CTL.EN, RW, R262: Integrator on; 0 = columns still stored, nothing evaluated -/
def LBK_CTL_EN : Fld := ⟨14680064, 1⟩
/-- LBK_CTL.COVEREN, RW, R262: R257 -/
def LBK_CTL_COVEREN : Fld := ⟨14680065, 1⟩
/-- LBK_STATUS.NFR, RO, R262: Frames held F, R244 -/
def LBK_STATUS_NFR : Fld := ⟨14680096, 5⟩
/-- LBK_STATUS.BEHIND, RO, R262: R260 -/
def LBK_STATUS_BEHIND : Fld := ⟨14680101, 1⟩
/-- LBK_STATUS.POSEOK, RO, R262: A pose exists at the current device time -/
def LBK_STATUS_POSEOK : Fld := ⟨14680102, 1⟩
/-- LBK_CFG.WPFA, RW, R262: R255; 0 acts as 1 -/
def LBK_CFG_WPFA : Fld := ⟨14680128, 6⟩
/-- LBK_CFG.WMIN, RW, R262: Least threshold; 0 acts as 1 -/
def LBK_CFG_WMIN : Fld := ⟨14680134, 6⟩
/-- LBK_CFG.MINFR, RW, R262: Least contributing frames; 0 and 1 act as 2 -/
def LBK_CFG_MINFR : Fld := ⟨14680140, 4⟩
/-- LBK_CFG.MAXPT, RW, R262: Records per target, R256; 0 acts as 1; 5–7 act as 4 -/
def LBK_CFG_MAXPT : Fld := ⟨14680144, 3⟩
/-- LBK_CFG.COVER, RW, R262: Bins, R257 -/
def LBK_CFG_COVER : Fld := ⟨14680147, 4⟩
/-- LBK_POSECFG.GAPMAX, RW, R262: ms, R250; 0 acts as 1 -/
def LBK_POSECFG_GAPMAX : Fld := ⟨14680160, 16⟩
/-- LBK_POSECFG.LATEMAX, RW, R262: ms, R260; 0 acts as 1; a value above the frame period less 1 ms acts as that -/
def LBK_POSECFG_LATEMAX : Fld := ⟨14680176, 16⟩
/-- LBK_SLOTSIZE.MIB, RO, R262: Slot size, MiB -/
def LBK_SLOTSIZE_MIB : Fld := ⟨14680192, 16⟩
/-- LBK_COLCAP.C, RO, R262: Columns per slot -/
def LBK_COLCAP_C : Fld := ⟨14680224, 32⟩
/-- LBK_LASTFR.NUM, RO, R262: Last frame whose records were committed -/
def LBK_LASTFR_NUM : Fld := ⟨14680256, 32⟩
/-- LBK_TARGETS.CNT, RC, R262: Targets evaluated, saturating -/
def LBK_TARGETS_CNT : Fld := ⟨14680320, 32⟩
/-- LBK_HITS.CNT, RC, R262: Lookback records committed, saturating -/
def LBK_HITS_CNT : Fld := ⟨14680352, 32⟩
/-- LBK_COVERED.CNT, RC, R262: Tests suppressed, R257, saturating -/
def LBK_COVERED_CNT : Fld := ⟨14680384, 32⟩
/-- LBK_NOPOSE.CNT, RC, R262: Targets unposed, R252, saturating -/
def LBK_NOPOSE_CNT : Fld := ⟨14680416, 32⟩
/-- LBK_ABANDON.CNT, RC, R262: Targets abandoned, R260, saturating -/
def LBK_ABANDON_CNT : Fld := ⟨14680448, 32⟩
/-- LBK_COLDROP.CNT, RC, R262: Columns not stored, R245, saturating -/
def LBK_COLDROP_CNT : Fld := ⟨14680480, 32⟩
/-- LBK_POSEDROP.CNT, RC, R262: Pose samples refused, R249, saturating -/
def LBK_POSEDROP_CNT : Fld := ⟨14680512, 32⟩
/-- LBK_REFUSED.CNT, RC, R262: Lookback records refused, R261, saturating -/
def LBK_REFUSED_CNT : Fld := ⟨14680544, 32⟩
/-- LBK_INTSTAT.FRDONE, W1C, R262: A frame's records were committed -/
def LBK_INTSTAT_FRDONE : Fld := ⟨14680576, 1⟩
/-- LBK_INTSTAT.POSEGAP, W1C, R262: No pose exists at the current device time -/
def LBK_INTSTAT_POSEGAP : Fld := ⟨14680577, 1⟩
/-- LBK_INTSTAT.POSELATE, W1C, R262: A target waited beyond its boundary plus 1 ms -/
def LBK_INTSTAT_POSELATE : Fld := ⟨14680578, 1⟩
/-- LBK_INTSTAT.ABANDON, W1C, R262: R260 -/
def LBK_INTSTAT_ABANDON : Fld := ⟨14680579, 1⟩
/-- LBK_INTSTAT.DISCONT, W1C, R262: R250, R251 -/
def LBK_INTSTAT_DISCONT : Fld := ⟨14680580, 1⟩
/-- LBK_INTSTAT.COLDROP, W1C, R262: R245 -/
def LBK_INTSTAT_COLDROP : Fld := ⟨14680581, 1⟩
/-- LBK_INTSTAT.POSEBAD, W1C, R262: R249 -/
def LBK_INTSTAT_POSEBAD : Fld := ⟨14680582, 1⟩
/-- LBK_INTSTAT.BADCFG, W1C, R262: A write was refused -/
def LBK_INTSTAT_BADCFG : Fld := ⟨14680583, 1⟩
/-- LBK_INTSTAT.HISTRESET, W1C, R262: R246 -/
def LBK_INTSTAT_HISTRESET : Fld := ⟨14680584, 1⟩
/-- LBK_INTEN.EN, RW, R262: Enables the LBK_INTSTAT bit of the same position into the global interrupt summary -/
def LBK_INTEN_EN : Fld := ⟨14680608, 9⟩

/-- Registers of block KRF, part 1. -/
def regsKRF1 : List RegDesc := [
  ⟨262144, 4, 1, [(0, 1, .rw)]⟩,
  ⟨262148, 4, 1, [(0, 11, .ro), (11, 11, .ro)]⟩,
  ⟨262152, 4, 1, [(0, 9, .rw), (16, 6, .rw)]⟩,
  ⟨262156, 4, 1, [(0, 8, .rw), (8, 8, .rw), (16, 9, .rw), (25, 1, .rw)]⟩,
  ⟨262160, 4, 1, [(0, 16, .rw), (16, 8, .rw)]⟩,
  ⟨262164, 4, 1, [(0, 1, .w1c), (1, 1, .w1c), (2, 1, .w1c), (3, 1, .w1c), (4, 1, .w1c), (5, 1, .w1c), (6, 1, .w1c), (7, 1, .w1c), (8, 1, .w1c), (9, 1, .w1c)]⟩,
  ⟨262168, 4, 1, [(0, 10, .rw)]⟩,
  ⟨262400, 8, 32, [(0, 2, .rw), (2, 5, .rw), (7, 1, .rw), (8, 1, .rw)]⟩,
  ⟨262404, 8, 32, [(0, 5, .ro), (5, 1, .ro), (6, 1, .ro), (7, 1, .ro), (16, 16, .rc)]⟩,
  ⟨264192, 64, 8, [(0, 3, .rw), (3, 3, .rw), (6, 1, .rw), (7, 3, .rw), (10, 1, .rw), (11, 1, .rw), (12, 1, .w1s), (13, 1, .w1s)]⟩,
  ⟨264196, 64, 8, [(0, 16, .rw)]⟩,
  ⟨264200, 64, 8, [(0, 16, .ro), (16, 1, .ro), (17, 1, .ro), (18, 1, .ro), (19, 5, .ro)]⟩,
  ⟨264204, 64, 8, [(0, 16, .rc), (16, 16, .rc)]⟩,
  ⟨264208, 64, 8, [(0, 32, .ro)]⟩,
  ⟨264212, 64, 8, [(0, 5, .ro)]⟩,
  ⟨264216, 64, 8, [(0, 32, .ro)]⟩,
  ⟨264220, 64, 8, [(0, 13, .ro)]⟩,
  ⟨264224, 64, 8, [(0, 32, .ro)]⟩,
  ⟨264228, 64, 8, [(0, 13, .ro)]⟩,
  ⟨264232, 64, 8, [(0, 32, .ro)]⟩,
  ⟨264236, 64, 8, [(0, 5, .ro)]⟩,
  ⟨264240, 64, 8, [(0, 32, .ro)]⟩,
  ⟨264244, 64, 8, [(0, 5, .ro)]⟩,
  ⟨264248, 64, 8, [(0, 32, .ro)]⟩]

/-- Registers of block KRF, part 2. -/
def regsKRF2 : List RegDesc := [
  ⟨264252, 64, 8, [(0, 32, .ro)]⟩,
  ⟨266240, 4, 1024, [(0, 1, .rw), (1, 1, .rw), (2, 1, .rw), (3, 1, .w1s), (4, 1, .w1s)]⟩,
  ⟨270336, 4, 1024, [(0, 1, .ro), (1, 1, .ro), (2, 1, .ro), (3, 1, .ro), (4, 1, .ro)]⟩,
  ⟨274432, 4, 1024, [(0, 32, .rc)]⟩,
  ⟨278528, 4, 1024, [(0, 32, .rc)]⟩,
  ⟨282624, 4, 1024, [(0, 12, .rw)]⟩,
  ⟨286720, 4, 1024, [(0, 32, .rc)]⟩]

/-- All registers of block KRF. -/
def regsKRF : List RegDesc := regsKRF1 ++ regsKRF2

/-- Fields of block KRF whose reset value is not 0: (key, key stride, count, value). -/
def resetsKRF : List (Nat × Nat × Nat × Nat) := [
  (2097216, 32, 1, 60),
  (2097232, 32, 1, 16),
  (2097248, 32, 1, 10),
  (2097256, 32, 1, 10),
  (2097264, 32, 1, 300),
  (2097280, 32, 1, 100),
  (2097296, 32, 1, 4),
  (2099200, 64, 32, 1),
  (2099207, 64, 32, 1),
  (2099208, 64, 32, 1),
  (2113568, 512, 8, 1),
  (2162691, 32, 1024, 1)]

/-- Registers of block MRT, part 1. -/
def regsMRT1 : List RegDesc := [
  ⟨786432, 4, 1, [(0, 13, .ro), (16, 13, .rc)]⟩,
  ⟨786436, 4, 1, [(0, 5, .rw), (5, 5, .rw), (10, 4, .rw), (16, 12, .rw), (28, 4, .rw)]⟩,
  ⟨786440, 4, 1, [(0, 3, .rw), (3, 1, .rw)]⟩,
  ⟨786448, 4, 1, [(0, 32, .rc)]⟩,
  ⟨786452, 4, 1, [(0, 32, .rc)]⟩,
  ⟨786456, 4, 1, [(0, 32, .rc)]⟩,
  ⟨786460, 4, 1, [(0, 32, .rc)]⟩,
  ⟨786464, 4, 1, [(0, 32, .rc)]⟩,
  ⟨786468, 4, 1, [(0, 32, .rc)]⟩,
  ⟨786480, 4, 1, [(0, 1, .w1c), (1, 1, .w1c), (2, 1, .w1c)]⟩,
  ⟨786484, 4, 1, [(0, 3, .rw)]⟩]

/-- All registers of block MRT. -/
def regsMRT : List RegDesc := regsMRT1

/-- Fields of block MRT whose reset value is not 0: (key, key stride, count, value). -/
def resetsMRT : List (Nat × Nat × Nat × Nat) := [
  (6291488, 32, 1, 3),
  (6291493, 32, 1, 20),
  (6291498, 32, 1, 2),
  (6291504, 32, 1, 2),
  (6291516, 32, 1, 4),
  (6291520, 32, 1, 4),
  (6291523, 32, 1, 1)]

/-- Registers of block JST, part 1. -/
def regsJST1 : List RegDesc := [
  ⟨1048576, 4, 1, [(0, 1, .rw), (1, 1, .rw)]⟩,
  ⟨1048580, 4, 1, [(0, 8, .ro), (8, 1, .ro), (9, 1, .ro), (10, 2, .ro), (16, 6, .ro)]⟩,
  ⟨1048584, 4, 1, [(0, 13, .ro), (16, 8, .ro)]⟩,
  ⟨1048588, 4, 1, [(0, 4, .ro), (4, 3, .ro), (8, 13, .ro)]⟩,
  ⟨1048592, 4, 1, [(0, 6, .rw)]⟩,
  ⟨1048596, 4, 1, [(0, 8, .rw)]⟩,
  ⟨1048600, 4, 1, [(0, 5, .rw), (5, 1, .w1s)]⟩,
  ⟨1048608, 4, 8, [(0, 3, .rw), (4, 3, .rw), (8, 3, .rw), (12, 3, .rw), (16, 3, .rw), (20, 3, .rw), (24, 3, .rw), (28, 3, .rw)]⟩,
  ⟨1048640, 4, 1, [(0, 32, .rc)]⟩,
  ⟨1048644, 4, 1, [(0, 32, .rc)]⟩,
  ⟨1048648, 4, 1, [(0, 32, .rc)]⟩,
  ⟨1048652, 4, 1, [(0, 32, .rc)]⟩,
  ⟨1048656, 4, 1, [(0, 32, .rc)]⟩,
  ⟨1048660, 4, 1, [(0, 32, .rc)]⟩,
  ⟨1048672, 4, 1, [(0, 1, .w1c), (1, 1, .w1c), (2, 1, .w1c), (3, 1, .w1c), (4, 1, .w1c), (5, 1, .w1c), (6, 1, .w1c), (7, 1, .w1c), (8, 1, .w1c)]⟩,
  ⟨1048676, 4, 1, [(0, 9, .rw)]⟩,
  ⟨1048832, 8, 33, [(0, 2, .ro), (2, 6, .ro), (8, 8, .rc)]⟩,
  ⟨1048836, 8, 33, [(0, 32, .ro)]⟩]

/-- All registers of block JST. -/
def regsJST : List RegDesc := regsJST1

/-- Fields of block JST whose reset value is not 0: (key, key stride, count, value). -/
def resetsJST : List (Nat × Nat × Nat × Nat) := [
  (8388608, 32, 1, 1),
  (8388609, 32, 1, 1),
  (8388656, 32, 1, 63),
  (8388672, 32, 1, 256),
  (8388688, 32, 1, 3),
  (8388736, 32, 1, 30),
  (8388768, 32, 1, 1),
  (8390658, 64, 33, 32),
  (8390688, 64, 33, 4294967295),
  (8392704, 64, 1, 2)]

/-- Registers of block JNL, part 1. -/
def regsJNL1 : List RegDesc := [
  ⟨1572864, 4, 1, [(0, 1, .rw)]⟩,
  ⟨1572868, 4, 1, [(0, 1, .ro), (1, 1, .ro), (2, 1, .ro), (3, 1, .ro)]⟩,
  ⟨1572872, 4, 1, [(0, 32, .ro)]⟩,
  ⟨1572876, 4, 1, [(0, 32, .ro)]⟩,
  ⟨1572880, 4, 1, [(0, 32, .ro)]⟩,
  ⟨1572884, 4, 1, [(0, 16, .ro)]⟩,
  ⟨1572888, 4, 1, [(0, 32, .ro)]⟩,
  ⟨1572892, 4, 1, [(0, 16, .ro)]⟩,
  ⟨1572896, 4, 1, [(0, 28, .rw)]⟩,
  ⟨1572900, 4, 1, [(0, 28, .rw)]⟩,
  ⟨1572904, 4, 1, [(0, 16, .rw)]⟩,
  ⟨1572908, 4, 1, [(0, 32, .ro)]⟩,
  ⟨1572912, 4, 1, [(0, 32, .rc)]⟩,
  ⟨1572916, 4, 1, [(0, 32, .rc)]⟩,
  ⟨1572920, 4, 1, [(0, 32, .rc)]⟩,
  ⟨1572924, 4, 1, [(0, 32, .rc)]⟩,
  ⟨1572928, 4, 1, [(0, 32, .rc)]⟩,
  ⟨1572932, 4, 1, [(0, 32, .rc)]⟩,
  ⟨1572936, 4, 1, [(0, 32, .rc)]⟩,
  ⟨1572940, 4, 1, [(0, 32, .rc)]⟩,
  ⟨1572944, 4, 1, [(0, 32, .rc)]⟩,
  ⟨1572948, 4, 1, [(0, 32, .rc)]⟩,
  ⟨1572960, 4, 1, [(0, 1, .w1c), (1, 1, .w1c), (2, 1, .w1c), (3, 1, .w1c), (4, 1, .w1c), (5, 1, .w1c), (6, 1, .w1c), (7, 1, .w1c), (8, 1, .w1c)]⟩,
  ⟨1572964, 4, 1, [(0, 9, .rw)]⟩]

/-- All registers of block JNL. -/
def regsJNL : List RegDesc := regsJNL1

/-- Fields of block JNL whose reset value is not 0: (key, key stride, count, value). -/
def resetsJNL : List (Nat × Nat × Nat × Nat) := [
  (12582976, 32, 1, 268435456),
  (12583040, 32, 1, 1),
  (12583104, 32, 1, 1),
  (12583168, 32, 1, 65536),
  (12583200, 32, 1, 1048576),
  (12583232, 32, 1, 1000)]

/-- Registers of block LBK, part 1. -/
def regsLBK1 : List RegDesc := [
  ⟨1835008, 4, 1, [(0, 1, .rw), (1, 1, .rw)]⟩,
  ⟨1835012, 4, 1, [(0, 5, .ro), (5, 1, .ro), (6, 1, .ro)]⟩,
  ⟨1835016, 4, 1, [(0, 6, .rw), (6, 6, .rw), (12, 4, .rw), (16, 3, .rw), (19, 4, .rw)]⟩,
  ⟨1835020, 4, 1, [(0, 16, .rw), (16, 16, .rw)]⟩,
  ⟨1835024, 4, 1, [(0, 16, .ro)]⟩,
  ⟨1835028, 4, 1, [(0, 32, .ro)]⟩,
  ⟨1835032, 4, 1, [(0, 32, .ro)]⟩,
  ⟨1835040, 4, 1, [(0, 32, .rc)]⟩,
  ⟨1835044, 4, 1, [(0, 32, .rc)]⟩,
  ⟨1835048, 4, 1, [(0, 32, .rc)]⟩,
  ⟨1835052, 4, 1, [(0, 32, .rc)]⟩,
  ⟨1835056, 4, 1, [(0, 32, .rc)]⟩,
  ⟨1835060, 4, 1, [(0, 32, .rc)]⟩,
  ⟨1835064, 4, 1, [(0, 32, .rc)]⟩,
  ⟨1835068, 4, 1, [(0, 32, .rc)]⟩,
  ⟨1835072, 4, 1, [(0, 1, .w1c), (1, 1, .w1c), (2, 1, .w1c), (3, 1, .w1c), (4, 1, .w1c), (5, 1, .w1c), (6, 1, .w1c), (7, 1, .w1c), (8, 1, .w1c)]⟩,
  ⟨1835076, 4, 1, [(0, 9, .rw)]⟩]

/-- All registers of block LBK. -/
def regsLBK : List RegDesc := regsLBK1

/-- Fields of block LBK whose reset value is not 0: (key, key stride, count, value). -/
def resetsLBK : List (Nat × Nat × Nat × Nat) := [
  (14680064, 32, 1, 1),
  (14680065, 32, 1, 1),
  (14680128, 32, 1, 40),
  (14680134, 32, 1, 3),
  (14680140, 32, 1, 4),
  (14680144, 32, 1, 2),
  (14680147, 32, 1, 2),
  (14680160, 32, 1, 50),
  (14680176, 32, 1, 20)]

end Sys2Proof.Machine.R
end

