-- ==== Sys2Proof/Machine/RegMapScan.lean ====
section
/-!
DEFINITION. The register map of the blocks TNN, BTN, PEG, TRS: one `Fld` per named field of
the chapters' register tables (a field's key is its bit address in BAR0), and each block's register descriptors
(base offset, stride, count, and the fields as low bit, width and access code). An index is taken modulo the number of registers
of its array.
-/
namespace Sys2Proof.Machine.R

/-- TNN_STATUS.SPMODE, RO, R85: Spindle mode, R74 -/
def TNN_STATUS_SPMODE : Fld := ⟨18874368, 3⟩
/-- TNN_STATUS.SPLOCK, RO, R85: R75 -/
def TNN_STATUS_SPLOCK : Fld := ⟨18874371, 1⟩
/-- TNN_STATUS.SCANVALID, RO, R85: R80 -/
def TNN_STATUS_SCANVALID : Fld := ⟨18874372, 1⟩
/-- TNN_STATUS.SPBANK, RO, R85: Active spindle bank: 0 = A, 1 = B -/
def TNN_STATUS_SPBANK : Fld := ⟨18874373, 1⟩
/-- TNN_STATUS.TLBANK, RO, R85: Active tilt bank -/
def TNN_STATUS_TLBANK : Fld := ⟨18874374, 1⟩
/-- TNN_STATUS.TLMODE, RO, R85: Tilt mode, R74 -/
def TNN_STATUS_TLMODE : Fld := ⟨18874375, 3⟩
/-- TNN_STATUS.BLEND, RO, R85: Hand-over blend running -/
def TNN_STATUS_BLEND : Fld := ⟨18874378, 1⟩
/-- TNN_STATUS.SPSAT, RO, R85: Spindle output clamped in latest sample -/
def TNN_STATUS_SPSAT : Fld := ⟨18874379, 1⟩
/-- TNN_STATUS.TLSAT, RO, R85: Tilt output clamped in latest sample -/
def TNN_STATUS_TLSAT : Fld := ⟨18874380, 1⟩
/-- TNN_STATUS.INJ, RO, R85: Injection active -/
def TNN_STATUS_INJ : Fld := ⟨18874381, 1⟩
/-- TNN_STATUS.CAP, RO, R85: Capture running -/
def TNN_STATUS_CAP : Fld := ⟨18874382, 1⟩
/-- TNN_SPCTL.MODE, RW, R85: Requested spindle mode -/
def TNN_SPCTL_MODE : Fld := ⟨18874400, 3⟩
/-- TNN_SPCTL.SWAP, W1S, R85: Request spindle bank swap; reads 1 until applied or refused -/
def TNN_SPCTL_SWAP : Fld := ⟨18874403, 1⟩
/-- TNN_SPCFG.FACETS, RW, R85: Facets, 2–16 -/
def TNN_SPCFG_FACETS : Fld := ⟨18874432, 5⟩
/-- TNN_SPCFG.REVS, RW, R85: Revolutions per frame, 1–64 -/
def TNN_SPCFG_REVS : Fld := ⟨18874437, 7⟩
/-- TNN_SPCFG.DIR, RW, R85: 1 = invert DEMAND sign -/
def TNN_SPCFG_DIR : Fld := ⟨18874444, 1⟩
/-- TNN_SPCFG.SUTIME, RW, R85: Spin-up timer, units of 0.1 s; 0 = no timer -/
def TNN_SPCFG_SUTIME : Fld := ⟨18874448, 16⟩
/-- TNN_ENCCFG.CPR, RW, R85: Counts per revolution, 256–1,048,575; below 256 refuses SPEED and LOCK -/
def TNN_ENCCFG_CPR : Fld := ⟨18874464, 20⟩
/-- TNN_ENCCFG.ZPOL, RW, R85: 1 = index active low -/
def TNN_ENCCFG_ZPOL : Fld := ⟨18874484, 1⟩
/-- TNN_ENCCFG.ABSWAP, RW, R85: 1 = swap ENC_A and ENC_B -/
def TNN_ENCCFG_ABSWAP : Fld := ⟨18874485, 1⟩
/-- TNN_PHOFS.PHOFS, RW, R85: Phase offset of R63, 2⁻³² turn -/
def TNN_PHOFS_PHOFS : Fld := ⟨18874496, 32⟩
/-- TNN_DEADOFS.DEADOFS, RW, R85: Phase of facet boundary 0 from index, 2⁻³² turn -/
def TNN_DEADOFS_DEADOFS : Fld := ⟨18874528, 32⟩
/-- TNN_DEADCFG.HALFW, RW, R85: Dead-angle half-width, 2⁻¹⁶ turn; 0 = none -/
def TNN_DEADCFG_HALFW : Fld := ⟨18874560, 16⟩
/-- TNN_DEADCFG.GUARD, RW, R85: Guard per end, units of 100 ns -/
def TNN_DEADCFG_GUARD : Fld := ⟨18874576, 16⟩
/-- TNN_LOCKCFG.LOCKCNT, RW, R85: Samples inside LOCKWIN for SPLOCK; 0 acts as 1 -/
def TNN_LOCKCFG_LOCKCNT : Fld := ⟨18874592, 16⟩
/-- TNN_LOCKCFG.CAPCNT, RW, R85: Samples inside the capture window; 0 acts as 1 -/
def TNN_LOCKCFG_CAPCNT : Fld := ⟨18874608, 16⟩
/-- TNN_TLCTL.MODE, RW, R85: Requested tilt mode -/
def TNN_TLCTL_MODE : Fld := ⟨18874624, 3⟩
/-- TNN_TLCTL.SWAP, W1S, R85: Request tilt bank swap -/
def TNN_TLCTL_SWAP : Fld := ⟨18874627, 1⟩
/-- TNN_TLCFG.AXPIN, RW, R85: Sensor pin AX0–AX23; 24–31 refuse PARK and PROFILE -/
def TNN_TLCFG_AXPIN : Fld := ⟨18874656, 5⟩
/-- TNN_TLCFG.TLOS, RW, R85: 2^TLOS conversions per sample -/
def TNN_TLCFG_TLOS : Fld := ⟨18874661, 2⟩
/-- TNN_TLCFG.SENSPOL, RW, R85: 1 = invert sensor sign -/
def TNN_TLCFG_SENSPOL : Fld := ⟨18874663, 1⟩
/-- TNN_PARKPOS.POS, RW, R85: Park setpoint, normalised -/
def TNN_PARKPOS_POS : Fld := ⟨18874688, 32⟩
/-- TNN_SPOPEN.U, RW, R85: Spindle output in TEST -/
def TNN_SPOPEN_U : Fld := ⟨18874720, 32⟩
/-- TNN_TLOPEN.U, RW, R85: Tilt output in TEST -/
def TNN_TLOPEN_U : Fld := ⟨18874752, 32⟩
/-- TNN_INJCFG.LOOP, RW, R85: 0 = none, 1 = spindle, 2 = tilt, 3 = reserved (START refused) -/
def TNN_INJCFG_LOOP : Fld := ⟨18874784, 2⟩
/-- TNN_INJCFG.POINT, RW, R85: 0 = setpoint, 1 = output -/
def TNN_INJCFG_POINT : Fld := ⟨18874786, 1⟩
/-- TNN_INJCFG.SHAPE, RW, R85: 0 = sine, 1 = step, 2 = PRBS-11, 3 = reserved (START refused) -/
def TNN_INJCFG_SHAPE : Fld := ⟨18874787, 2⟩
/-- TNN_INJCFG.START, W1S, R85: Start injection -/
def TNN_INJCFG_START : Fld := ⟨18874789, 1⟩
/-- TNN_INJCFG.STOP, W1S, R85: End injection at the next sample -/
def TNN_INJCFG_STOP : Fld := ⟨18874790, 1⟩
/-- TNN_INJAMP.AMP, RW, R85: Amplitude, in units of the injection point -/
def TNN_INJAMP_AMP : Fld := ⟨18874816, 32⟩
/-- TNN_INJFREQ.FREQ, RW, R85: Sine frequency, Hz -/
def TNN_INJFREQ_FREQ : Fld := ⟨18874848, 32⟩
/-- TNN_INJLEN.LEN, RW, R85: Samples; 0 = until STOP -/
def TNN_INJLEN_LEN : Fld := ⟨18874880, 16⟩
/-- TNN_CAPADDRLO.ADDR, RW, R85: HBM address [31:0]; bits [3:0] must be 0 -/
def TNN_CAPADDRLO_ADDR : Fld := ⟨18874912, 32⟩
/-- TNN_CAPADDRHI.ADDR, RW, R85: HBM address [39:32] -/
def TNN_CAPADDRHI_ADDR : Fld := ⟨18874944, 8⟩
/-- TNN_CAPCFG.LEN, RW, R85: Entries; 0 = 65,536 -/
def TNN_CAPCFG_LEN : Fld := ⟨18874976, 16⟩
/-- TNN_CAPCFG.LOOP, RW, R85: 1 = spindle, 2 = tilt; 0, 3 refuse START -/
def TNN_CAPCFG_LOOP : Fld := ⟨18874992, 2⟩
/-- TNN_CAPCFG.TRIG, RW, R85: 0 = at START, 1 = at first injected sample -/
def TNN_CAPCFG_TRIG : Fld := ⟨18874994, 1⟩
/-- TNN_CAPCFG.START, W1S, R85: Arm capture -/
def TNN_CAPCFG_START : Fld := ⟨18874995, 1⟩
/-- TNN_CAPCNT.CNT, RO, R85: Entries written -/
def TNN_CAPCNT_CNT : Fld := ⟨18875008, 17⟩
/-- TNN_SPEED.V, RO, R85: Speed, rev/s -/
def TNN_SPEED_V : Fld := ⟨18875136, 32⟩
/-- TNN_SPERR.E, RO, R85: Error of the running spindle loop -/
def TNN_SPERR_E : Fld := ⟨18875168, 32⟩
/-- TNN_SPOUT.U, RO, R85: Spindle output u -/
def TNN_SPOUT_U : Fld := ⟨18875200, 32⟩
/-- TNN_TLPOS.M, RO, R85: Tilt measurement -/
def TNN_TLPOS_M : Fld := ⟨18875232, 32⟩
/-- TNN_TLERR.E, RO, R85: Tilt error -/
def TNN_TLERR_E : Fld := ⟨18875264, 32⟩
/-- TNN_TLOUT.U, RO, R85: Tilt output u -/
def TNN_TLOUT_U : Fld := ⟨18875296, 32⟩
/-- TNN_FECNT.SP, RO, R85: Spindle following-error counter -/
def TNN_FECNT_SP : Fld := ⟨18875328, 16⟩
/-- TNN_FECNT.TL, RO, R85: Tilt following-error counter -/
def TNN_FECNT_TL : Fld := ⟨18875344, 16⟩
/-- TNN_RETDEM.U, RO, R85: Retained demand used at the last re-engagement -/
def TNN_RETDEM_U : Fld := ⟨18875360, 32⟩
/-- TNN_INTSTAT.LOCKGAIN, W1C, R85: SPLOCK set -/
def TNN_INTSTAT_LOCKGAIN : Fld := ⟨18875392, 1⟩
/-- TNN_INTSTAT.LOCKLOSS, W1C, R85: SPLOCK cleared -/
def TNN_INTSTAT_LOCKLOSS : Fld := ⟨18875393, 1⟩
/-- TNN_INTSTAT.SPFETRIP, W1C, R85: Spindle following-error trip -/
def TNN_INTSTAT_SPFETRIP : Fld := ⟨18875394, 1⟩
/-- TNN_INTSTAT.TLFETRIP, W1C, R85: Tilt following-error trip -/
def TNN_INTSTAT_TLFETRIP : Fld := ⟨18875395, 1⟩
/-- TNN_INTSTAT.SUTIMEOUT, W1C, R85: Spin-up timer expired -/
def TNN_INTSTAT_SUTIMEOUT : Fld := ⟨18875396, 1⟩
/-- TNN_INTSTAT.IDXERR, W1C, R85: Index error -/
def TNN_INTSTAT_IDXERR : Fld := ⟨18875397, 1⟩
/-- TNN_INTSTAT.ENCFAST, W1C, R85: Encoder count rate above 40 M/s -/
def TNN_INTSTAT_ENCFAST : Fld := ⟨18875398, 1⟩
/-- TNN_INTSTAT.TLSENS, W1C, R85: Tilt sensor fault -/
def TNN_INTSTAT_TLSENS : Fld := ⟨18875399, 1⟩
/-- TNN_INTSTAT.BADCFG, W1C, R85: A request or swap was refused -/
def TNN_INTSTAT_BADCFG : Fld := ⟨18875400, 1⟩
/-- TNN_INTSTAT.BANKWR, W1C, R85: Write to an active bank discarded -/
def TNN_INTSTAT_BANKWR : Fld := ⟨18875401, 1⟩
/-- TNN_INTSTAT.SWAPDONE, W1C, R85: A bank swap was applied -/
def TNN_INTSTAT_SWAPDONE : Fld := ⟨18875402, 1⟩
/-- TNN_INTSTAT.INJEND, W1C, R85: Injection ended -/
def TNN_INTSTAT_INJEND : Fld := ⟨18875403, 1⟩
/-- TNN_INTSTAT.CAPDONE, W1C, R85: Capture complete -/
def TNN_INTSTAT_CAPDONE : Fld := ⟨18875404, 1⟩
/-- TNN_INTEN.EN, RW, R85: Enables the TNN_INTSTAT bit of the same position into the global interrupt summary -/
def TNN_INTEN_EN : Fld := ⟨18875424, 13⟩
/-- TNN_SP_SKP, RW, R86: Speed loop: kp (per rev/s), ki (per rev), kd (per rev/s²), tf (s), imin, imax -/
def TNN_SP_SKP (bank : Nat) : Fld := ⟨18907136 + 32768 * (bank % 2), 32⟩
/-- TNN_SP_SKI, RW, R86: Speed loop: kp (per rev/s), ki (per rev), kd (per rev/s²), tf (s), imin, imax -/
def TNN_SP_SKI (bank : Nat) : Fld := ⟨18907168 + 32768 * (bank % 2), 32⟩
/-- TNN_SP_SKD, RW, R86: Speed loop: kp (per rev/s), ki (per rev), kd (per rev/s²), tf (s), imin, imax -/
def TNN_SP_SKD (bank : Nat) : Fld := ⟨18907200 + 32768 * (bank % 2), 32⟩
/-- TNN_SP_STF, RW, R86: Speed loop: kp (per rev/s), ki (per rev), kd (per rev/s²), tf (s), imin, imax -/
def TNN_SP_STF (bank : Nat) : Fld := ⟨18907232 + 32768 * (bank % 2), 32⟩
/-- TNN_SP_SIMIN, RW, R86: Speed loop: kp (per rev/s), ki (per rev), kd (per rev/s²), tf (s), imin, imax -/
def TNN_SP_SIMIN (bank : Nat) : Fld := ⟨18907264 + 32768 * (bank % 2), 32⟩
/-- TNN_SP_SIMAX, RW, R86: Speed loop: kp (per rev/s), ki (per rev), kd (per rev/s²), tf (s), imin, imax -/
def TNN_SP_SIMAX (bank : Nat) : Fld := ⟨18907296 + 32768 * (bank % 2), 32⟩
/-- TNN_SP_PKP, RW, R86: Phase loop: kp (per turn), ki (per turn·s), kd (per rev/s), tf (s), imin, imax -/
def TNN_SP_PKP (bank : Nat) : Fld := ⟨18907392 + 32768 * (bank % 2), 32⟩
/-- TNN_SP_PKI, RW, R86: Phase loop: kp (per turn), ki (per turn·s), kd (per rev/s), tf (s), imin, imax -/
def TNN_SP_PKI (bank : Nat) : Fld := ⟨18907424 + 32768 * (bank % 2), 32⟩
/-- TNN_SP_PKD, RW, R86: Phase loop: kp (per turn), ki (per turn·s), kd (per rev/s), tf (s), imin, imax -/
def TNN_SP_PKD (bank : Nat) : Fld := ⟨18907456 + 32768 * (bank % 2), 32⟩
/-- TNN_SP_PTF, RW, R86: Phase loop: kp (per turn), ki (per turn·s), kd (per rev/s), tf (s), imin, imax -/
def TNN_SP_PTF (bank : Nat) : Fld := ⟨18907488 + 32768 * (bank % 2), 32⟩
/-- TNN_SP_PIMIN, RW, R86: Phase loop: kp (per turn), ki (per turn·s), kd (per rev/s), tf (s), imin, imax -/
def TNN_SP_PIMIN (bank : Nat) : Fld := ⟨18907520 + 32768 * (bank % 2), 32⟩
/-- TNN_SP_PIMAX, RW, R86: Phase loop: kp (per turn), ki (per turn·s), kd (per rev/s), tf (s), imin, imax -/
def TNN_SP_PIMAX (bank : Nat) : Fld := ⟨18907552 + 32768 * (bank % 2), 32⟩
/-- TNN_SP_UMIN, RW, R86: Output clamp, both loops, −1.0 to +1.0 -/
def TNN_SP_UMIN (bank : Nat) : Fld := ⟨18907648 + 32768 * (bank % 2), 32⟩
/-- TNN_SP_UMAX, RW, R86: Output clamp, both loops, −1.0 to +1.0 -/
def TNN_SP_UMAX (bank : Nat) : Fld := ⟨18907680 + 32768 * (bank % 2), 32⟩
/-- TNN_SP_FELIM, RW, R86: Phase following-error limit, turns -/
def TNN_SP_FELIM (bank : Nat) : Fld := ⟨18907712 + 32768 * (bank % 2), 32⟩
/-- TNN_SP_FETIME, RW, R86: Samples, R79 -/
def TNN_SP_FETIME (bank : Nat) : Fld := ⟨18907744 + 32768 * (bank % 2), 16⟩
/-- TNN_SP_LOCKWIN, RW, R86: Turns, R75 -/
def TNN_SP_LOCKWIN (bank : Nat) : Fld := ⟨18907776 + 32768 * (bank % 2), 32⟩
/-- TNN_SP_RAMP, RW, R86: rev/s² -/
def TNN_SP_RAMP (bank : Nat) : Fld := ⟨18907808 + 32768 * (bank % 2), 32⟩
/-- TNN_SP_COG, RW, R86: Cogging, torque fraction at φ = n ÷ 512 -/
def TNN_SP_COG (bank i : Nat) : Fld := ⟨18915328 + 32768 * (bank % 2) + 32 * (i % 512), 32⟩
/-- TNN_SP_FRIC, RW, R86: Friction magnitude per 1/64 turn -/
def TNN_SP_FRIC (bank i : Nat) : Fld := ⟨18931712 + 32768 * (bank % 2) + 32 * (i % 64), 32⟩
/-- TNN_TL_KP, RW, R86: Tilt loop coefficients -/
def TNN_TL_KP (bank : Nat) : Fld := ⟨19005440 + 65536 * (bank % 2), 32⟩
/-- TNN_TL_KI, RW, R86: Tilt loop coefficients -/
def TNN_TL_KI (bank : Nat) : Fld := ⟨19005472 + 65536 * (bank % 2), 32⟩
/-- TNN_TL_KD, RW, R86: Tilt loop coefficients -/
def TNN_TL_KD (bank : Nat) : Fld := ⟨19005504 + 65536 * (bank % 2), 32⟩
/-- TNN_TL_TF, RW, R86: Tilt loop coefficients -/
def TNN_TL_TF (bank : Nat) : Fld := ⟨19005536 + 65536 * (bank % 2), 32⟩
/-- TNN_TL_IMIN, RW, R86: Tilt loop coefficients -/
def TNN_TL_IMIN (bank : Nat) : Fld := ⟨19005568 + 65536 * (bank % 2), 32⟩
/-- TNN_TL_IMAX, RW, R86: Tilt loop coefficients -/
def TNN_TL_IMAX (bank : Nat) : Fld := ⟨19005600 + 65536 * (bank % 2), 32⟩
/-- TNN_TL_UMIN, RW, R86: Output clamp -/
def TNN_TL_UMIN (bank : Nat) : Fld := ⟨19005952 + 65536 * (bank % 2), 32⟩
/-- TNN_TL_UMAX, RW, R86: Output clamp -/
def TNN_TL_UMAX (bank : Nat) : Fld := ⟨19005984 + 65536 * (bank % 2), 32⟩
/-- TNN_TL_FELIM, RW, R86: Normalised position -/
def TNN_TL_FELIM (bank : Nat) : Fld := ⟨19006016 + 65536 * (bank % 2), 32⟩
/-- TNN_TL_FETIME, RW, R86: Samples -/
def TNN_TL_FETIME (bank : Nat) : Fld := ⟨19006048 + 65536 * (bank % 2), 16⟩
/-- TNN_TL_FRIC, RW, R86: Friction per 1/32 of normalised travel -/
def TNN_TL_FRIC (bank i : Nat) : Fld := ⟨19013632 + 65536 * (bank % 2) + 32 * (i % 64), 32⟩
/-- TNN_TL_PROF, RW, R86: Profile setpoints, R70 -/
def TNN_TL_PROF (bank i : Nat) : Fld := ⟨19038208 + 65536 * (bank % 2) + 32 * (i % 1024), 32⟩

/-- BTN_CTL.RINGEN, RW, R121: Ring enables. Clearing a bit hushes that ring alone at once; setting one brings the ring up under R104 and Peg plans its cells from the next frame -/
def BTN_CTL_RINGEN : Fld := ⟨16777216, 8⟩
/-- BTN_CTL.PROOFEN, RW, R121: Proof pulses, R119 -/
def BTN_CTL_PROOFEN : Fld := ⟨16777224, 1⟩
/-- BTN_CTL.REFCHK, RW, R121: Reference check, R120 -/
def BTN_CTL_REFCHK : Fld := ⟨16777225, 1⟩
/-- BTN_CTL.RECAL, W1S, R121: Repeat the R103 echo check now; reads 1 until done -/
def BTN_CTL_RECAL : Fld := ⟨16777226, 1⟩
/-- BTN_STATUS.RINGUP, RO, R121: Ring up -/
def BTN_STATUS_RINGUP : Fld := ⟨16777248, 8⟩
/-- BTN_STATUS.RINGDEG, RO, R121: Ring up on one direction only, or a driver cut off -/
def BTN_STATUS_RINGDEG : Fld := ⟨16777256, 8⟩
/-- BTN_STATUS.HUSHED, RO, R121: Hush request in force -/
def BTN_STATUS_HUSHED : Fld := ⟨16777264, 1⟩
/-- BTN_STATUS.CALBUSY, RO, R121: Calibration or echo check running -/
def BTN_STATUS_CALBUSY : Fld := ⟨16777265, 1⟩
/-- BTN_WNOM.WNOM, RW, R121: W_NOM, units of 78.125 ps, 52–255; a value below 52 is refused with BADCFG -/
def BTN_WNOM_WNOM : Fld := ⟨16777280, 8⟩
/-- BTN_PROOFCFG.EVERY, RW, R121: Proof in every EVERY-th dead angle; 0 acts as 1 -/
def BTN_PROOFCFG_EVERY : Fld := ⟨16777312, 8⟩
/-- BTN_PROOFCFG.PROOFEC, RW, R121: Proof energy code -/
def BTN_PROOFCFG_PROOFEC : Fld := ⟨16777320, 12⟩
/-- BTN_PROOFCFG.REFMISS, RW, R121: Consecutive misses for optical dark; 0 acts as 1 -/
def BTN_PROOFCFG_REFMISS : Fld := ⟨16777332, 4⟩
/-- BTN_GRANTCFG.PERIOD, RW, R121: Grant period, units of 5 ns; values below 100 act as 100 -/
def BTN_GRANTCFG_PERIOD : Fld := ⟨16777344, 10⟩
/-- BTN_GRANTCFG.SILENT, RW, R121: Missed grants per direction for silent; 0 acts as 1 -/
def BTN_GRANTCFG_SILENT : Fld := ⟨16777360, 4⟩
/-- BTN_CALCFG.PERIOD, RW, R121: Echo check period, ms; 0 = none -/
def BTN_CALCFG_PERIOD : Fld := ⟨16777376, 16⟩
/-- BTN_CALCFG.NECHO, RW, R121: Echoes averaged; 0 acts as 1 -/
def BTN_CALCFG_NECHO : Fld := ⟨16777392, 8⟩
/-- BTN_ROWCFG.ROWFAIL, RW, R121: Failed columns that blank a row; 0 = never; 33–63 act as 32 -/
def BTN_ROWCFG_ROWFAIL : Fld := ⟨16777408, 6⟩
/-- BTN_EPOCH.ACTIVE, RO, R121: Newest epoch committed on all rings -/
def BTN_EPOCH_ACTIVE : Fld := ⟨16777440, 8⟩
/-- BTN_EPOCH.STAGED, RO, R121: Epoch staged -/
def BTN_EPOCH_STAGED : Fld := ⟨16777448, 8⟩
/-- BTN_EPOCH.STGVALID, RO, R121: Staged tables checked and good -/
def BTN_EPOCH_STGVALID : Fld := ⟨16777456, 1⟩
/-- BTN_EPOCH.STGBAD, RO, R121: Staged tables refused, R106 -/
def BTN_EPOCH_STGBAD : Fld := ⟨16777457, 1⟩
/-- BTN_HUSHGEN.GEN, RO, R121: Hush generation, R113; wraps -/
def BTN_HUSHGEN_GEN : Fld := ⟨16777472, 16⟩
/-- BTN_INTSTAT.RINGDOWN, W1C, R121: A ring went down -/
def BTN_INTSTAT_RINGDOWN : Fld := ⟨16777504, 1⟩
/-- BTN_INTSTAT.RINGDEG, W1C, R121: A ring degraded -/
def BTN_INTSTAT_RINGDEG : Fld := ⟨16777505, 1⟩
/-- BTN_INTSTAT.LOOPLONG, W1C, R121: R101 -/
def BTN_INTSTAT_LOOPLONG : Fld := ⟨16777506, 1⟩
/-- BTN_INTSTAT.DRVALARM, W1C, R121: ALARM received -/
def BTN_INTSTAT_DRVALARM : Fld := ⟨16777507, 1⟩
/-- BTN_INTSTAT.DRVSILENT, W1C, R121: Driver silent -/
def BTN_INTSTAT_DRVSILENT : Fld := ⟨16777508, 1⟩
/-- BTN_INTSTAT.EMFAULT, W1C, R121: Emitter declared failed -/
def BTN_INTSTAT_EMFAULT : Fld := ⟨16777509, 1⟩
/-- BTN_INTSTAT.ROWAUTO, W1C, R121: Row blanked automatically -/
def BTN_INTSTAT_ROWAUTO : Fld := ⟨16777510, 1⟩
/-- BTN_INTSTAT.REFDARK, W1C, R121: R120 -/
def BTN_INTSTAT_REFDARK : Fld := ⟨16777511, 1⟩
/-- BTN_INTSTAT.CALDRIFT, W1C, R121: TRIM sent -/
def BTN_INTSTAT_CALDRIFT : Fld := ⟨16777512, 1⟩
/-- BTN_INTSTAT.ASYM, W1C, R121: R100 consistency failed -/
def BTN_INTSTAT_ASYM : Fld := ⟨16777513, 1⟩
/-- BTN_INTSTAT.LATE, W1C, R121: LATE report -/
def BTN_INTSTAT_LATE : Fld := ⟨16777514, 1⟩
/-- BTN_INTSTAT.REJECT, W1C, R121: REJECT report -/
def BTN_INTSTAT_REJECT : Fld := ⟨16777515, 1⟩
/-- BTN_INTSTAT.UNREPORTED, W1C, R121: Fire without report -/
def BTN_INTSTAT_UNREPORTED : Fld := ⟨16777516, 1⟩
/-- BTN_INTSTAT.REPLOST, W1C, R121: Driver lost reports -/
def BTN_INTSTAT_REPLOST : Fld := ⟨16777517, 1⟩
/-- BTN_INTSTAT.STGBAD, W1C, R121: Staged tables refused -/
def BTN_INTSTAT_STGBAD : Fld := ⟨16777518, 1⟩
/-- BTN_INTSTAT.BADCFG, W1C, R121: Register write refused -/
def BTN_INTSTAT_BADCFG : Fld := ⟨16777519, 1⟩
/-- BTN_INTEN.EN, RW, R121: Enables the BTN_INTSTAT bit of the same position into the global interrupt summary -/
def BTN_INTEN_EN : Fld := ⟨16777536, 16⟩
/-- BTN_RSTAT.NDRV, RO, R121: Drivers found, 0–8 -/
def BTN_RSTAT_NDRV (i : Nat) : Fld := ⟨16779264 + 128 * (i % 8), 4⟩
/-- BTN_RSTAT.CWUP, RO, R121: CW direction up -/
def BTN_RSTAT_CWUP (i : Nat) : Fld := ⟨16779268 + 128 * (i % 8), 1⟩
/-- BTN_RSTAT.CCWUP, RO, R121: CCW direction up -/
def BTN_RSTAT_CCWUP (i : Nat) : Fld := ⟨16779269 + 128 * (i % 8), 1⟩
/-- BTN_RSTAT.BREAK, RO, R121: Broken segment 0–8; 15 = none or unknown -/
def BTN_RSTAT_BREAK (i : Nat) : Fld := ⟨16779270 + 128 * (i % 8), 4⟩
/-- BTN_RLOOP.LCW, RO, R121: CW loop delay, LSB -/
def BTN_RLOOP_LCW (i : Nat) : Fld := ⟨16779296 + 128 * (i % 8), 16⟩
/-- BTN_RLOOP.LCCW, RO, R121: CCW loop delay, LSB -/
def BTN_RLOOP_LCCW (i : Nat) : Fld := ⟨16779312 + 128 * (i % 8), 16⟩
/-- BTN_RERR.CRCERR, RC, R121: CRC and comparison errors, saturating -/
def BTN_RERR_CRCERR (i : Nat) : Fld := ⟨16779328 + 128 * (i % 8), 16⟩
/-- BTN_RERR.LOCKLOSS, RC, R121: RX lock losses, saturating -/
def BTN_RERR_LOCKLOSS (i : Nat) : Fld := ⟨16779344 + 128 * (i % 8), 16⟩
/-- BTN_DDLY.ACW, RO, R121: a_cw, LSB -/
def BTN_DDLY_ACW (i : Nat) : Fld := ⟨16781312 + 128 * (i % 64), 16⟩
/-- BTN_DDLY.ACCW, RO, R121: a_ccw, LSB -/
def BTN_DDLY_ACCW (i : Nat) : Fld := ⟨16781328 + 128 * (i % 64), 16⟩
/-- BTN_DRES.RES, RO, R121: Signed residual, LSB -/
def BTN_DRES_RES (i : Nat) : Fld := ⟨16781344 + 128 * (i % 64), 8⟩
/-- BTN_DRES.TRIMS, RC, R121: TRIM frames sent, saturating -/
def BTN_DRES_TRIMS (i : Nat) : Fld := ⟨16781352 + 128 * (i % 64), 8⟩
/-- BTN_DID.PROTO, RO, R121: Protocol version -/
def BTN_DID_PROTO (i : Nat) : Fld := ⟨16781376 + 128 * (i % 64), 8⟩
/-- BTN_DID.ROWSM1, RO, R121: Rows − 1 -/
def BTN_DID_ROWSM1 (i : Nat) : Fld := ⟨16781384 + 128 * (i % 64), 5⟩
/-- BTN_DID.COLSM1, RO, R121: Columns − 1 -/
def BTN_DID_COLSM1 (i : Nat) : Fld := ⟨16781389 + 128 * (i % 64), 5⟩
/-- BTN_DID.PRESENT, RO, R121: Driver enumerated -/
def BTN_DID_PRESENT (i : Nat) : Fld := ⟨16781394 + 128 * (i % 64), 1⟩
/-- BTN_DSTAT.HUSHED, RO, R121: From the latest STATUS -/
def BTN_DSTAT_HUSHED (i : Nat) : Fld := ⟨16781408 + 128 * (i % 64), 1⟩
/-- BTN_DSTAT.SILENT, RO, R121: R118 -/
def BTN_DSTAT_SILENT (i : Nat) : Fld := ⟨16781409 + 128 * (i % 64), 1⟩
/-- BTN_DSTAT.REPLOST, RO, R121: From STATUS -/
def BTN_DSTAT_REPLOST (i : Nat) : Fld := ⟨16781410 + 128 * (i % 64), 1⟩
/-- BTN_DSTAT.CAPREJ, RO, R121: Cap rejection since power-on reset -/
def BTN_DSTAT_CAPREJ (i : Nat) : Fld := ⟨16781411 + 128 * (i % 64), 1⟩
/-- BTN_DSTAT.ALARM, RO, R121: Last alarm code -/
def BTN_DSTAT_ALARM (i : Nat) : Fld := ⟨16781416 + 128 * (i % 64), 8⟩
/-- BTN_EMFAIL.FAIL, W1C, R121: Column c failed, R117 -/
def BTN_EMFAIL_FAIL (i : Nat) : Fld := ⟨16809984 + 32 * (i % 2048), 32⟩
/-- BTN_RBLANK.BLANK, RW, R121: Rows blanked by host software -/
def BTN_RBLANK_BLANK (i : Nat) : Fld := ⟨16875520 + 32 * (i % 64), 32⟩
/-- BTN_RAUTO.AUTO, W1C, R121: Rows blanked by R117 -/
def BTN_RAUTO_AUTO (i : Nat) : Fld := ⟨16877568 + 32 * (i % 64), 32⟩

/-- PEG_CTL.LISTENEN, RW, R143: Listen gangs, R135 -/
def PEG_CTL_LISTENEN : Fld := ⟨4194304, 1⟩
/-- PEG_CTL.TIEJOINT, RW, R143: Joint codebook, R137 -/
def PEG_CTL_TIEJOINT : Fld := ⟨4194305, 1⟩
/-- PEG_STATUS.STATE, RO, R143: 0 = idle, 1 = waiting for the first frame, 2 = scanning, 3 = stopping at frame end -/
def PEG_STATUS_STATE : Fld := ⟨4194336, 2⟩
/-- PEG_STATUS.THROTTLE, RO, R143: Throttle level L in force -/
def PEG_STATUS_THROTTLE : Fld := ⟨4194338, 2⟩
/-- PEG_STATUS.CBVALID, RO, R143: Codebook generation in hand, R138 -/
def PEG_STATUS_CBVALID : Fld := ⟨4194340, 1⟩
/-- PEG_FRAME.PERIOD, RW, R143: Frame period, units of 5 ns (100 ms); 2,000,000–200,000,000. Other values are refused with BADCFG -/
def PEG_FRAME_PERIOD : Fld := ⟨4194368, 28⟩
/-- PEG_FRAMENUM.NUM, RO, R143: Current frame number, R123 -/
def PEG_FRAMENUM_NUM : Fld := ⟨4194400, 32⟩
/-- PEG_PLANCFG.LEAD, RW, R143: Plan lead, units of 5 ns; 400–4,000; values below 400 act as 400, values above 4,000 act as 4,000 -/
def PEG_PLANCFG_LEAD : Fld := ⟨4194432, 12⟩
/-- PEG_PLANCFG.BSPACE, RW, R143: Burst start spacing per channel, units of 100 ns; values below 250 act as 250 -/
def PEG_PLANCFG_BSPACE : Fld := ⟨4194444, 12⟩
/-- PEG_CODECFG.GMIN, RW, R143: Minimum gap, units of 5 ns; values below 400 act as 400 -/
def PEG_CODECFG_GMIN : Fld := ⟨4194464, 10⟩
/-- PEG_CODECFG.GSPAN, RW, R143: Gap steps, 128–1,024; other values are refused with BADCFG -/
def PEG_CODECFG_GSPAN : Fld := ⟨4194474, 11⟩
/-- PEG_CODECFG.CROSSMAX, RW, R143: R137, 1–8; 0 acts as 1; 9–15 act as 8 -/
def PEG_CODECFG_CROSSMAX : Fld := ⟨4194485, 4⟩
/-- PEG_CELLCFG.AZSH, RW, R143: R127, 0–8; 9–15 are refused with BADCFG -/
def PEG_CELLCFG_AZSH : Fld := ⟨4194496, 4⟩
/-- PEG_AZ0.AZ0, RW, R143: Beam azimuth at sweep start, turns, binary32 -/
def PEG_AZ0_AZ0 : Fld := ⟨4194528, 32⟩
/-- PEG_AZGAIN.GAIN, RW, R143: Beam turns per facet turn, binary32 (0x4000_0000) -/
def PEG_AZGAIN_GAIN : Fld := ⟨4194560, 32⟩
/-- PEG_TILTSCALE.SCALE, RW, R143: Elevation turns per normalised tilt unit, binary32 -/
def PEG_TILTSCALE_SCALE : Fld := ⟨4194592, 32⟩
/-- PEG_ELMIN.ELMIN, RW, R143: Elevation of index 0, turns, binary32 -/
def PEG_ELMIN_ELMIN : Fld := ⟨4194624, 32⟩
/-- PEG_ELSTEP.ELSTEP, RW, R143: Elevation step, turns, binary32; scan start is refused with BADCFG while ELSTEP is not above 0 -/
def PEG_ELSTEP_ELSTEP : Fld := ⟨4194656, 32⟩
/-- PEG_FORCFG.FORHOLD, RW, R143: Frames a channel stays foreign, R136 -/
def PEG_FORCFG_FORHOLD : Fld := ⟨4194688, 8⟩
/-- PEG_FORCFG.FORKLOG, RW, R143: Minimum K = 2^FORKLOG while foreign; 7 acts as 6 -/
def PEG_FORCFG_FORKLOG : Fld := ⟨4194696, 3⟩
/-- PEG_TIECFG.CBFRAMES, RW, R143: Frames per codebook generation; 0 acts as 1. Used only by the tie master -/
def PEG_TIECFG_CBFRAMES : Fld := ⟨4194720, 8⟩
/-- PEG_TIESECTLO.ZONE, RW, R143: Zones 0–31 that use the joint codebook -/
def PEG_TIESECTLO_ZONE : Fld := ⟨4194752, 32⟩
/-- PEG_TIESECTHI.ZONE, RW, R143: Zones 32–63 -/
def PEG_TIESECTHI_ZONE : Fld := ⟨4194784, 32⟩
/-- PEG_SEEDLO.SEED, RO, R143: Unit seed [31:0], R129 -/
def PEG_SEEDLO_SEED : Fld := ⟨4194816, 32⟩
/-- PEG_SEEDHI.SEED, RO, R143: Unit seed [63:32] -/
def PEG_SEEDHI_SEED : Fld := ⟨4194848, 32⟩
/-- PEG_TAGS.INUSE, RO, R143: Tags reserved now, 0–512 -/
def PEG_TAGS_INUSE : Fld := ⟨4194880, 10⟩
/-- PEG_TAGS.PEAK, RC, R143: Most tags reserved since last read -/
def PEG_TAGS_PEAK : Fld := ⟨4194896, 10⟩
/-- PEG_TAGWAIT.CNT, RC, R143: Steps held for tags, saturating -/
def PEG_TAGWAIT_CNT : Fld := ⟨4194944, 32⟩
/-- PEG_CHLIMIT.CNT, RC, R143: Columns refused under R133, saturating -/
def PEG_CHLIMIT_CNT : Fld := ⟨4194976, 32⟩
/-- PEG_VOIDSHOT.CNT, RC, R143: Shot-burst pairs made void, saturating -/
def PEG_VOIDSHOT_CNT : Fld := ⟨4195008, 32⟩
/-- PEG_VOIDBURST.CNT, RC, R143: Bursts closed with no valid shot, saturating -/
def PEG_VOIDBURST_CNT : Fld := ⟨4195040, 32⟩
/-- PEG_CODEWEAK.CNT, RC, R143: Codes kept after 16 redraws, saturating -/
def PEG_CODEWEAK_CNT : Fld := ⟨4195072, 32⟩
/-- PEG_LISTENHIT.CNT, RC, R143: Listen hits, saturating -/
def PEG_LISTENHIT_CNT : Fld := ⟨4195104, 32⟩
/-- PEG_THROTSKIP.CNT, RC, R143: Gangs skipped for throttle, saturating -/
def PEG_THROTSKIP_CNT : Fld := ⟨4195136, 32⟩
/-- PEG_INTSTAT.FRAMESTART, W1C, R143: A scanned frame started -/
def PEG_INTSTAT_FRAMESTART : Fld := ⟨4195200, 1⟩
/-- PEG_INTSTAT.FOREIGN, W1C, R143: Listen hit, R136 -/
def PEG_INTSTAT_FOREIGN : Fld := ⟨4195201, 1⟩
/-- PEG_INTSTAT.CBLATE, W1C, R143: R138 -/
def PEG_INTSTAT_CBLATE : Fld := ⟨4195202, 1⟩
/-- PEG_INTSTAT.TAGEXH, W1C, R143: R132 -/
def PEG_INTSTAT_TAGEXH : Fld := ⟨4195203, 1⟩
/-- PEG_INTSTAT.CODEWEAK, W1C, R143: R130 -/
def PEG_INTSTAT_CODEWEAK : Fld := ⟨4195204, 1⟩
/-- PEG_INTSTAT.BADCFG, W1C, R143: A write, bank or scan start was refused -/
def PEG_INTSTAT_BADCFG : Fld := ⟨4195205, 1⟩
/-- PEG_INTSTAT.SCONFLICT, W1C, R143: R140 -/
def PEG_INTSTAT_SCONFLICT : Fld := ⟨4195206, 1⟩
/-- PEG_INTSTAT.DRVIDLE, W1C, R143: A driver's timeline stopped for lack of an unblanked row, R141 -/
def PEG_INTSTAT_DRVIDLE : Fld := ⟨4195207, 1⟩
/-- PEG_INTEN.EN, RW, R143: Enables the PEG_INTSTAT bit of the same position into the global interrupt summary -/
def PEG_INTEN_EN : Fld := ⟨4195232, 8⟩
/-- PEG_DRVIDLELO.DRV, RO, R143: Bit n: driver n (n = 8r + d − 1, 0–31) has every row blanked and its timeline stopped, R141 -/
def PEG_DRVIDLELO_DRV : Fld := ⟨4195328, 32⟩
/-- PEG_DRVIDLEHI.DRV, RO, R143: Bit n: driver 32 + n, as PEG_DRVIDLELO -/
def PEG_DRVIDLEHI_DRV : Fld := ⟨4195360, 32⟩
/-- PEG_FOREIGN.CH, RO, R143: Bit b: channel 32w + b is foreign, R136; w = 0–31 -/
def PEG_FOREIGN_CH (i : Nat) : Fld := ⟨4196352 + 32 * (i % 32), 32⟩

/-- TRS_STATE.STATE, RO, R321: R294 -/
def TRS_STATE_STATE : Fld := ⟨20971520, 3⟩
/-- TRS_STATE.LIGHT, RO, R321: Light permitted now -/
def TRS_STATE_LIGHT : Fld := ⟨20971523, 1⟩
/-- TRS_STATE.HOLD, RO, R321: A hold stands -/
def TRS_STATE_HOLD : Fld := ⟨20971524, 1⟩
/-- TRS_STATE.DARKCMD, RO, R321: Commanded DARK_N level -/
def TRS_STATE_DARKCMD : Fld := ⟨20971525, 1⟩
/-- TRS_STATE.DARKPIN, RO, R321: DARK_N ball level -/
def TRS_STATE_DARKPIN : Fld := ⟨20971526, 1⟩
/-- TRS_STATE.SOUTCMD, RO, R321: Commanded SOUT[3:0] -/
def TRS_STATE_SOUTCMD : Fld := ⟨20971527, 4⟩
/-- TRS_STATE.SFB, RO, R321: SFB[3:0] as read -/
def TRS_STATE_SFB : Fld := ⟨20971531, 4⟩
/-- TRS_STATE.FEPOAS, RO, R321: Fepoas mode in force -/
def TRS_STATE_FEPOAS : Fld := ⟨20971535, 1⟩
/-- TRS_STATE.KEYOPEN, RO, R321: Key window open -/
def TRS_STATE_KEYOPEN : Fld := ⟨20971536, 1⟩
/-- TRS_STATE.PHVALID, RO, R321: φ_T valid -/
def TRS_STATE_PHVALID : Fld := ⟨20971537, 1⟩
/-- TRS_CTL.DARKREQ, RW, R321: Host hold, R295 -/
def TRS_CTL_DARKREQ : Fld := ⟨20971552, 1⟩
/-- TRS_CTL.FEPOAS, RWK, R321: Fepoas compatibility mode, R316 -/
def TRS_CTL_FEPOAS : Fld := ⟨20971553, 1⟩
/-- TRS_CTL.BUDLOAD, RWK, R321: Write 1: load the staged bank, R298; reads 1 until done -/
def TRS_CTL_BUDLOAD : Fld := ⟨20971554, 1⟩
/-- TRS_CTL.BUDSWAP, RWK, R321: Write 1: swap the budget banks, R298 -/
def TRS_CTL_BUDSWAP : Fld := ⟨20971555, 1⟩
/-- TRS_KEY.KEY, WO, R321: R292 -/
def TRS_KEY_KEY : Fld := ⟨20971584, 32⟩
/-- TRS_LASTCAUSE.CAUSE, RO, R321: Cause of the last state change -/
def TRS_LASTCAUSE_CAUSE : Fld := ⟨20971616, 16⟩
/-- TRS_LASTCAUSE.DETAIL, RO, R321: Detail of that cause -/
def TRS_LASTCAUSE_DETAIL : Fld := ⟨20971632, 16⟩
/-- TRS_EVENT.NUM, RO, R321: Truss event number, R318 -/
def TRS_EVENT_NUM : Fld := ⟨20971648, 32⟩
/-- TRS_LIMPCFG.LIMPPCT, RWK, R321: Per cent, 1–25; 0 acts as 1; 26–31 act as 25 -/
def TRS_LIMPCFG_LIMPPCT : Fld := ⟨20971680, 5⟩
/-- TRS_LIMPCFG.LIMPT, RWK, R321: Window, units of 0.1 s, 1–50; 0 acts as 1; 51–63 act as 50 -/
def TRS_LIMPCFG_LIMPT : Fld := ⟨20971688, 6⟩
/-- TRS_LIMPCFG.CLEART, RWK, R321: ms, 10–1,000; values below 10 act as 10, above 1,000 as 1,000 -/
def TRS_LIMPCFG_CLEART : Fld := ⟨20971696, 10⟩
/-- TRS_LIMPCFG.LIMPKEEP, RWK, R321: R312 -/
def TRS_LIMPCFG_LIMPKEEP : Fld := ⟨20971706, 1⟩
/-- TRS_EXPCFG.SECTLOG, RWK, R321: NSECT = 2^SECTLOG; 7 acts as 6 -/
def TRS_EXPCFG_SECTLOG : Fld := ⟨20971712, 3⟩
/-- TRS_EXPCFG.ABSDIR, RWK, R321: Absorber direction -/
def TRS_EXPCFG_ABSDIR : Fld := ⟨20971716, 12⟩
/-- TRS_EXPCFG.PHTOL, RWK, R321: Units of 2⁻¹⁶ turn, R303; 0 acts as 1 -/
def TRS_EXPCFG_PHTOL : Fld := ⟨20971728, 8⟩
/-- TRS_EXPWIN.W1, RWK, R321: µs; values below 16 act as 16 -/
def TRS_EXPWIN_W1 : Fld := ⟨20971744, 16⟩
/-- TRS_EXPWIN.W2, RWK, R321: ms; values below 16 act as 16 -/
def TRS_EXPWIN_W2 : Fld := ⟨20971760, 16⟩
/-- TRS_GEOM.FACETS, RWK, R321: Must equal TNN_SPCFG.FACETS -/
def TRS_GEOM_FACETS : Fld := ⟨20971776, 5⟩
/-- TRS_GEOM.HALFW, RWK, R321: Must equal TNN_DEADCFG.HALFW -/
def TRS_GEOM_HALFW : Fld := ⟨20971781, 16⟩
/-- TRS_DEADOFS.DEADOFS, RWK, R321: Must equal TNN_DEADOFS -/
def TRS_DEADOFS_DEADOFS : Fld := ⟨20971808, 32⟩
/-- TRS_BUDCFG.NDIR, RWK, R321: Directions in the staged bank, 0–4,096; larger values are refused -/
def TRS_BUDCFG_NDIR : Fld := ⟨20971840, 13⟩
/-- TRS_BUDCFG.ACTBANK, RO, R321: Active bank -/
def TRS_BUDCFG_ACTBANK : Fld := ⟨20971853, 1⟩
/-- TRS_BUDCFG.STGOK, RO, R321: Staged bank checked and good -/
def TRS_BUDCFG_STGOK : Fld := ⟨20971854, 1⟩
/-- TRS_BUDCFG.STGBAD, RO, R321: Staged bank refused -/
def TRS_BUDCFG_STGBAD : Fld := ⟨20971855, 1⟩
/-- TRS_BUDADDRLO.ADDR, RWK, R321: HBM address [31:0]; bits [5:0] must be 0 -/
def TRS_BUDADDRLO_ADDR : Fld := ⟨20971872, 32⟩
/-- TRS_BUDADDRHI.ADDR, RWK, R321: HBM address [39:32] -/
def TRS_BUDADDRHI_ADDR : Fld := ⟨20971904, 8⟩
/-- TRS_OPCFG.OPW, RWK, R321: Off-pulse, µs, 1–500; 0 acts as 1; 501–511 act as 500 -/
def TRS_OPCFG_OPW : Fld := ⟨20971936, 9⟩
/-- TRS_OPCFG.OPPER, RWK, R321: Test period, ms, 10–1,000; out-of-range values act as the nearer limit -/
def TRS_OPCFG_OPPER : Fld := ⟨20971952, 10⟩
/-- TRS_FBDLY.FBDLY, RWK, R321: Feedback delay, µs; 0 acts as 1 -/
def TRS_FBDLY_FBDLY : Fld := ⟨20971968, 9⟩
/-- TRS_SUPSTAT.INWIN, RO, R321: Rail i within its window, R291 -/
def TRS_SUPSTAT_INWIN : Fld := ⟨20972000, 16⟩
/-- TRS_SOUTCFG.INMASK, RWK, R321: Inputs the output needs closed -/
def TRS_SOUTCFG_INMASK (i : Nat) : Fld := ⟨20972032 + 32 * (i % 4), 8⟩
/-- TRS_SOUTCFG.SCANREQ, RWK, R321: R312 -/
def TRS_SOUTCFG_SCANREQ (i : Nat) : Fld := ⟨20972040 + 32 * (i % 4), 1⟩
/-- TRS_SOUTCFG.RESTART, RWK, R321: 1 = manual restart -/
def TRS_SOUTCFG_RESTART (i : Nat) : Fld := ⟨20972041 + 32 * (i % 4), 1⟩
/-- TRS_SOUTCFG.EN, RWK, R321: 0 = always low, never tested -/
def TRS_SOUTCFG_EN (i : Nat) : Fld := ⟨20972042 + 32 * (i % 4), 1⟩
/-- TRS_SOUTCFG.HOSTOFF, RW, R321: Host request to hold the output low -/
def TRS_SOUTCFG_HOSTOFF (i : Nat) : Fld := ⟨20972043 + 32 * (i % 4), 1⟩
/-- TRS_INCFG.MODE, RWK, R321: R306 -/
def TRS_INCFG_MODE (i : Nat) : Fld := ⟨20972288 + 64 * (i % 8), 2⟩
/-- TRS_INCFG.DARK, RWK, R321: Demand or fault holds light -/
def TRS_INCFG_DARK (i : Nat) : Fld := ⟨20972290 + 64 * (i % 8), 1⟩
/-- TRS_INCFG.FILT, RWK, R321: Units of 0.1 ms, 1–200; 0 acts as 1; 201–255 act as 200 -/
def TRS_INCFG_FILT (i : Nat) : Fld := ⟨20972296 + 64 * (i % 8), 8⟩
/-- TRS_INCFG.DISC, RWK, R321: ms, 1–1,000; 0 acts as 1; 1,001–1,023 act as 1,000 -/
def TRS_INCFG_DISC (i : Nat) : Fld := ⟨20972304 + 64 * (i % 8), 10⟩
/-- TRS_INCHAT.CHATN, RWK, R321: R309; 0 = off -/
def TRS_INCHAT_CHATN (i : Nat) : Fld := ⟨20972320 + 64 * (i % 8), 8⟩
/-- TRS_INCHAT.CHATT, RWK, R321: ms; 0 acts as 1 -/
def TRS_INCHAT_CHATT (i : Nat) : Fld := ⟨20972328 + 64 * (i % 8), 16⟩
/-- TRS_INSTAT.STATE, RO, R321: Input k: 0 = CLOSED, 1 = DEMAND, 2 = FAULT, 3 = UNUSED -/
def TRS_INSTAT_STATE (i : Nat) : Fld := ⟨20972800 + 4 * (i % 8), 2⟩
/-- TRS_INSTAT.ALVL, RO, R321: Accepted level of SINA[k] -/
def TRS_INSTAT_ALVL (i : Nat) : Fld := ⟨20972802 + 4 * (i % 8), 1⟩
/-- TRS_INSTAT.BLVL, RO, R321: Accepted level of SINB[k] -/
def TRS_INSTAT_BLVL (i : Nat) : Fld := ⟨20972803 + 4 * (i % 8), 1⟩
/-- TRS_DENY.CNT, RC, R321: Columns refused, R300, saturating -/
def TRS_DENY_CNT : Fld := ⟨20972864, 32⟩
/-- TRS_RWKREJ.CNT, RC, R321: RWK writes refused, saturating -/
def TRS_RWKREJ_CNT : Fld := ⟨20972896, 16⟩
/-- TRS_RWKREJ.RELREF, RC, R321: Releases refused, R317, saturating; same word as TRS_RWKREJ at 0x0028_00AC -/
def TRS_RWKREJ_RELREF : Fld := ⟨20972912, 16⟩
/-- TRS_INTSTAT.STATECHG, W1C, R321: State changed -/
def TRS_INTSTAT_STATECHG : Fld := ⟨20972928, 1⟩
/-- TRS_INTSTAT.EXPFAULT, W1C, R321: Exposure fault -/
def TRS_INTSTAT_EXPFAULT : Fld := ⟨20972929, 1⟩
/-- TRS_INTSTAT.DEVFAULT, W1C, R321: Fault of class 0x02xx -/
def TRS_INTSTAT_DEVFAULT : Fld := ⟨20972930, 1⟩
/-- TRS_INTSTAT.INFAULT, W1C, R321: An input entered FAULT -/
def TRS_INTSTAT_INFAULT : Fld := ⟨20972931, 1⟩
/-- TRS_INTSTAT.LIMP, W1C, R321: Limp window began -/
def TRS_INTSTAT_LIMP : Fld := ⟨20972932, 1⟩
/-- TRS_INTSTAT.KEYFAIL, W1C, R321: Wrong key, R292 -/
def TRS_INTSTAT_KEYFAIL : Fld := ⟨20972933, 1⟩
/-- TRS_INTSTAT.RELREF, W1C, R321: Release refused -/
def TRS_INTSTAT_RELREF : Fld := ⟨20972934, 1⟩
/-- TRS_INTSTAT.ARMREF, W1C, R321: ARM checks failed -/
def TRS_INTSTAT_ARMREF : Fld := ⟨20972935, 1⟩
/-- TRS_INTSTAT.DENY, W1C, R321: A column was refused -/
def TRS_INTSTAT_DENY : Fld := ⟨20972936, 1⟩
/-- TRS_INTSTAT.BUDSTG, W1C, R321: Staged budget bank checked and good -/
def TRS_INTSTAT_BUDSTG : Fld := ⟨20972937, 1⟩
/-- TRS_INTSTAT.BUDBAD, W1C, R321: Budget bank or swap refused -/
def TRS_INTSTAT_BUDBAD : Fld := ⟨20972938, 1⟩
/-- TRS_INTEN.EN, RW, R321: Enables the TRS_INTSTAT bit of the same position into the global interrupt summary -/
def TRS_INTEN_EN : Fld := ⟨20972960, 11⟩

/-- Registers of block TNN, part 1. -/
def regsTNN1 : List RegDesc := [
  ⟨2359296, 4, 1, [(0, 3, .ro), (3, 1, .ro), (4, 1, .ro), (5, 1, .ro), (6, 1, .ro), (7, 3, .ro), (10, 1, .ro), (11, 1, .ro), (12, 1, .ro), (13, 1, .ro), (14, 1, .ro)]⟩,
  ⟨2359300, 4, 1, [(0, 3, .rw), (3, 1, .w1s)]⟩,
  ⟨2359304, 4, 1, [(0, 5, .rw), (5, 7, .rw), (12, 1, .rw), (16, 16, .rw)]⟩,
  ⟨2359308, 4, 1, [(0, 20, .rw), (20, 1, .rw), (21, 1, .rw)]⟩,
  ⟨2359312, 4, 1, [(0, 32, .rw)]⟩,
  ⟨2359316, 4, 1, [(0, 32, .rw)]⟩,
  ⟨2359320, 4, 1, [(0, 16, .rw), (16, 16, .rw)]⟩,
  ⟨2359324, 4, 1, [(0, 16, .rw), (16, 16, .rw)]⟩,
  ⟨2359328, 4, 1, [(0, 3, .rw), (3, 1, .w1s)]⟩,
  ⟨2359332, 4, 1, [(0, 5, .rw), (5, 2, .rw), (7, 1, .rw)]⟩,
  ⟨2359336, 4, 1, [(0, 32, .rw)]⟩,
  ⟨2359340, 4, 1, [(0, 32, .rw)]⟩,
  ⟨2359344, 4, 1, [(0, 32, .rw)]⟩,
  ⟨2359348, 4, 1, [(0, 2, .rw), (2, 1, .rw), (3, 2, .rw), (5, 1, .w1s), (6, 1, .w1s)]⟩,
  ⟨2359352, 4, 1, [(0, 32, .rw)]⟩,
  ⟨2359356, 4, 1, [(0, 32, .rw)]⟩,
  ⟨2359360, 4, 1, [(0, 16, .rw)]⟩,
  ⟨2359364, 4, 1, [(0, 32, .rw)]⟩,
  ⟨2359368, 4, 1, [(0, 8, .rw)]⟩,
  ⟨2359372, 4, 1, [(0, 16, .rw), (16, 2, .rw), (18, 1, .rw), (19, 1, .w1s)]⟩,
  ⟨2359376, 4, 1, [(0, 17, .ro)]⟩,
  ⟨2359392, 4, 1, [(0, 32, .ro)]⟩,
  ⟨2359396, 4, 1, [(0, 32, .ro)]⟩,
  ⟨2359400, 4, 1, [(0, 32, .ro)]⟩]

/-- Registers of block TNN, part 2. -/
def regsTNN2 : List RegDesc := [
  ⟨2359404, 4, 1, [(0, 32, .ro)]⟩,
  ⟨2359408, 4, 1, [(0, 32, .ro)]⟩,
  ⟨2359412, 4, 1, [(0, 32, .ro)]⟩,
  ⟨2359416, 4, 1, [(0, 16, .ro), (16, 16, .ro)]⟩,
  ⟨2359420, 4, 1, [(0, 32, .ro)]⟩,
  ⟨2359424, 4, 1, [(0, 1, .w1c), (1, 1, .w1c), (2, 1, .w1c), (3, 1, .w1c), (4, 1, .w1c), (5, 1, .w1c), (6, 1, .w1c), (7, 1, .w1c), (8, 1, .w1c), (9, 1, .w1c), (10, 1, .w1c), (11, 1, .w1c), (12, 1, .w1c)]⟩,
  ⟨2359428, 4, 1, [(0, 13, .rw)]⟩,
  ⟨2363392, 4, 1, [(0, 32, .rw)]⟩,
  ⟨2363396, 4, 1, [(0, 32, .rw)]⟩,
  ⟨2363400, 4, 1, [(0, 32, .rw)]⟩,
  ⟨2363404, 4, 1, [(0, 32, .rw)]⟩,
  ⟨2363408, 4, 1, [(0, 32, .rw)]⟩,
  ⟨2363412, 4, 1, [(0, 32, .rw)]⟩,
  ⟨2363424, 4, 1, [(0, 32, .rw)]⟩,
  ⟨2363428, 4, 1, [(0, 32, .rw)]⟩,
  ⟨2363432, 4, 1, [(0, 32, .rw)]⟩,
  ⟨2363436, 4, 1, [(0, 32, .rw)]⟩,
  ⟨2363440, 4, 1, [(0, 32, .rw)]⟩,
  ⟨2363444, 4, 1, [(0, 32, .rw)]⟩,
  ⟨2363456, 4, 1, [(0, 32, .rw)]⟩,
  ⟨2363460, 4, 1, [(0, 32, .rw)]⟩,
  ⟨2363464, 4, 1, [(0, 32, .rw)]⟩,
  ⟨2363468, 4, 1, [(0, 16, .rw)]⟩,
  ⟨2363472, 4, 1, [(0, 32, .rw)]⟩]

/-- Registers of block TNN, part 3. -/
def regsTNN3 : List RegDesc := [
  ⟨2363476, 4, 1, [(0, 32, .rw)]⟩,
  ⟨2364416, 4, 512, [(0, 32, .rw)]⟩,
  ⟨2366464, 4, 64, [(0, 32, .rw)]⟩,
  ⟨2367488, 4, 1, [(0, 32, .rw)]⟩,
  ⟨2367492, 4, 1, [(0, 32, .rw)]⟩,
  ⟨2367496, 4, 1, [(0, 32, .rw)]⟩,
  ⟨2367500, 4, 1, [(0, 32, .rw)]⟩,
  ⟨2367504, 4, 1, [(0, 32, .rw)]⟩,
  ⟨2367508, 4, 1, [(0, 32, .rw)]⟩,
  ⟨2367520, 4, 1, [(0, 32, .rw)]⟩,
  ⟨2367524, 4, 1, [(0, 32, .rw)]⟩,
  ⟨2367528, 4, 1, [(0, 32, .rw)]⟩,
  ⟨2367532, 4, 1, [(0, 32, .rw)]⟩,
  ⟨2367536, 4, 1, [(0, 32, .rw)]⟩,
  ⟨2367540, 4, 1, [(0, 32, .rw)]⟩,
  ⟨2367552, 4, 1, [(0, 32, .rw)]⟩,
  ⟨2367556, 4, 1, [(0, 32, .rw)]⟩,
  ⟨2367560, 4, 1, [(0, 32, .rw)]⟩,
  ⟨2367564, 4, 1, [(0, 16, .rw)]⟩,
  ⟨2367568, 4, 1, [(0, 32, .rw)]⟩,
  ⟨2367572, 4, 1, [(0, 32, .rw)]⟩,
  ⟨2368512, 4, 512, [(0, 32, .rw)]⟩,
  ⟨2370560, 4, 64, [(0, 32, .rw)]⟩,
  ⟨2375680, 4, 1, [(0, 32, .rw)]⟩]

/-- Registers of block TNN, part 4. -/
def regsTNN4 : List RegDesc := [
  ⟨2375684, 4, 1, [(0, 32, .rw)]⟩,
  ⟨2375688, 4, 1, [(0, 32, .rw)]⟩,
  ⟨2375692, 4, 1, [(0, 32, .rw)]⟩,
  ⟨2375696, 4, 1, [(0, 32, .rw)]⟩,
  ⟨2375700, 4, 1, [(0, 32, .rw)]⟩,
  ⟨2375744, 4, 1, [(0, 32, .rw)]⟩,
  ⟨2375748, 4, 1, [(0, 32, .rw)]⟩,
  ⟨2375752, 4, 1, [(0, 32, .rw)]⟩,
  ⟨2375756, 4, 1, [(0, 16, .rw)]⟩,
  ⟨2376704, 4, 64, [(0, 32, .rw)]⟩,
  ⟨2379776, 4, 1024, [(0, 32, .rw)]⟩,
  ⟨2383872, 4, 1, [(0, 32, .rw)]⟩,
  ⟨2383876, 4, 1, [(0, 32, .rw)]⟩,
  ⟨2383880, 4, 1, [(0, 32, .rw)]⟩,
  ⟨2383884, 4, 1, [(0, 32, .rw)]⟩,
  ⟨2383888, 4, 1, [(0, 32, .rw)]⟩,
  ⟨2383892, 4, 1, [(0, 32, .rw)]⟩,
  ⟨2383936, 4, 1, [(0, 32, .rw)]⟩,
  ⟨2383940, 4, 1, [(0, 32, .rw)]⟩,
  ⟨2383944, 4, 1, [(0, 32, .rw)]⟩,
  ⟨2383948, 4, 1, [(0, 16, .rw)]⟩,
  ⟨2384896, 4, 64, [(0, 32, .rw)]⟩,
  ⟨2387968, 4, 1024, [(0, 32, .rw)]⟩]

/-- All registers of block TNN. -/
def regsTNN : List RegDesc := regsTNN1 ++ regsTNN2 ++ regsTNN3 ++ regsTNN4

/-- Fields of block TNN whose reset value is not 0: (key, key stride, count, value). -/
def resetsTNN : List (Nat × Nat × Nat × Nat) := [
  (18874432, 32, 1, 6),
  (18874437, 32, 1, 10),
  (18874448, 32, 1, 600),
  (18874464, 32, 1, 65536),
  (18874576, 32, 1, 20),
  (18874592, 32, 1, 2500),
  (18874608, 32, 1, 500),
  (18874661, 32, 1, 2)]

/-- Registers of block BTN, part 1. -/
def regsBTN1 : List RegDesc := [
  ⟨2097152, 4, 1, [(0, 8, .rw), (8, 1, .rw), (9, 1, .rw), (10, 1, .w1s)]⟩,
  ⟨2097156, 4, 1, [(0, 8, .ro), (8, 8, .ro), (16, 1, .ro), (17, 1, .ro)]⟩,
  ⟨2097160, 4, 1, [(0, 8, .rw)]⟩,
  ⟨2097164, 4, 1, [(0, 8, .rw), (8, 12, .rw), (20, 4, .rw)]⟩,
  ⟨2097168, 4, 1, [(0, 10, .rw), (16, 4, .rw)]⟩,
  ⟨2097172, 4, 1, [(0, 16, .rw), (16, 8, .rw)]⟩,
  ⟨2097176, 4, 1, [(0, 6, .rw)]⟩,
  ⟨2097180, 4, 1, [(0, 8, .ro), (8, 8, .ro), (16, 1, .ro), (17, 1, .ro)]⟩,
  ⟨2097184, 4, 1, [(0, 16, .ro)]⟩,
  ⟨2097188, 4, 1, [(0, 1, .w1c), (1, 1, .w1c), (2, 1, .w1c), (3, 1, .w1c), (4, 1, .w1c), (5, 1, .w1c), (6, 1, .w1c), (7, 1, .w1c), (8, 1, .w1c), (9, 1, .w1c), (10, 1, .w1c), (11, 1, .w1c), (12, 1, .w1c), (13, 1, .w1c), (14, 1, .w1c), (15, 1, .w1c)]⟩,
  ⟨2097192, 4, 1, [(0, 16, .rw)]⟩,
  ⟨2097408, 16, 8, [(0, 4, .ro), (4, 1, .ro), (5, 1, .ro), (6, 4, .ro)]⟩,
  ⟨2097412, 16, 8, [(0, 16, .ro), (16, 16, .ro)]⟩,
  ⟨2097416, 16, 8, [(0, 16, .rc), (16, 16, .rc)]⟩,
  ⟨2097664, 16, 64, [(0, 16, .ro), (16, 16, .ro)]⟩,
  ⟨2097668, 16, 64, [(0, 8, .ro), (8, 8, .rc)]⟩,
  ⟨2097672, 16, 64, [(0, 8, .ro), (8, 5, .ro), (13, 5, .ro), (18, 1, .ro)]⟩,
  ⟨2097676, 16, 64, [(0, 1, .ro), (1, 1, .ro), (2, 1, .ro), (3, 1, .ro), (8, 8, .ro)]⟩,
  ⟨2101248, 4, 2048, [(0, 32, .w1c)]⟩,
  ⟨2109440, 4, 64, [(0, 32, .rw)]⟩,
  ⟨2109696, 4, 64, [(0, 32, .w1c)]⟩]

/-- All registers of block BTN. -/
def regsBTN : List RegDesc := regsBTN1

/-- Fields of block BTN whose reset value is not 0: (key, key stride, count, value). -/
def resetsBTN : List (Nat × Nat × Nat × Nat) := [
  (16777216, 32, 1, 255),
  (16777224, 32, 1, 1),
  (16777225, 32, 1, 1),
  (16777264, 32, 1, 1),
  (16777280, 32, 1, 64),
  (16777312, 32, 1, 6),
  (16777320, 32, 1, 1024),
  (16777332, 32, 1, 3),
  (16777344, 32, 1, 200),
  (16777360, 32, 1, 3),
  (16777376, 32, 1, 100),
  (16777392, 32, 1, 64),
  (16777408, 32, 1, 8),
  (16779270, 128, 8, 15)]

/-- Registers of block PEG, part 1. -/
def regsPEG1 : List RegDesc := [
  ⟨524288, 4, 1, [(0, 1, .rw), (1, 1, .rw)]⟩,
  ⟨524292, 4, 1, [(0, 2, .ro), (2, 2, .ro), (4, 1, .ro)]⟩,
  ⟨524296, 4, 1, [(0, 28, .rw)]⟩,
  ⟨524300, 4, 1, [(0, 32, .ro)]⟩,
  ⟨524304, 4, 1, [(0, 12, .rw), (12, 12, .rw)]⟩,
  ⟨524308, 4, 1, [(0, 10, .rw), (10, 11, .rw), (21, 4, .rw)]⟩,
  ⟨524312, 4, 1, [(0, 4, .rw)]⟩,
  ⟨524316, 4, 1, [(0, 32, .rw)]⟩,
  ⟨524320, 4, 1, [(0, 32, .rw)]⟩,
  ⟨524324, 4, 1, [(0, 32, .rw)]⟩,
  ⟨524328, 4, 1, [(0, 32, .rw)]⟩,
  ⟨524332, 4, 1, [(0, 32, .rw)]⟩,
  ⟨524336, 4, 1, [(0, 8, .rw), (8, 3, .rw)]⟩,
  ⟨524340, 4, 1, [(0, 8, .rw)]⟩,
  ⟨524344, 4, 1, [(0, 32, .rw)]⟩,
  ⟨524348, 4, 1, [(0, 32, .rw)]⟩,
  ⟨524352, 4, 1, [(0, 32, .ro)]⟩,
  ⟨524356, 4, 1, [(0, 32, .ro)]⟩,
  ⟨524360, 4, 1, [(0, 10, .ro), (16, 10, .rc)]⟩,
  ⟨524368, 4, 1, [(0, 32, .rc)]⟩,
  ⟨524372, 4, 1, [(0, 32, .rc)]⟩,
  ⟨524376, 4, 1, [(0, 32, .rc)]⟩,
  ⟨524380, 4, 1, [(0, 32, .rc)]⟩,
  ⟨524384, 4, 1, [(0, 32, .rc)]⟩]

/-- Registers of block PEG, part 2. -/
def regsPEG2 : List RegDesc := [
  ⟨524388, 4, 1, [(0, 32, .rc)]⟩,
  ⟨524392, 4, 1, [(0, 32, .rc)]⟩,
  ⟨524400, 4, 1, [(0, 1, .w1c), (1, 1, .w1c), (2, 1, .w1c), (3, 1, .w1c), (4, 1, .w1c), (5, 1, .w1c), (6, 1, .w1c), (7, 1, .w1c)]⟩,
  ⟨524404, 4, 1, [(0, 8, .rw)]⟩,
  ⟨524416, 4, 1, [(0, 32, .ro)]⟩,
  ⟨524420, 4, 1, [(0, 32, .ro)]⟩,
  ⟨524544, 4, 32, [(0, 32, .ro)]⟩]

/-- All registers of block PEG. -/
def regsPEG : List RegDesc := regsPEG1 ++ regsPEG2

/-- Fields of block PEG whose reset value is not 0: (key, key stride, count, value). -/
def resetsPEG : List (Nat × Nat × Nat × Nat) := [
  (4194304, 32, 1, 1),
  (4194368, 32, 1, 20000000),
  (4194432, 32, 1, 800),
  (4194444, 32, 1, 250),
  (4194464, 32, 1, 400),
  (4194474, 32, 1, 256),
  (4194485, 32, 1, 2),
  (4194560, 32, 1, 1073741824),
  (4194688, 32, 1, 4),
  (4194696, 32, 1, 4),
  (4194720, 32, 1, 16)]

/-- Registers of block TRS, part 1. -/
def regsTRS1 : List RegDesc := [
  ⟨2621440, 4, 1, [(0, 3, .ro), (3, 1, .ro), (4, 1, .ro), (5, 1, .ro), (6, 1, .ro), (7, 4, .ro), (11, 4, .ro), (15, 1, .ro), (16, 1, .ro), (17, 1, .ro)]⟩,
  ⟨2621444, 4, 1, [(0, 1, .rw), (1, 1, .rwk), (2, 1, .rwk), (3, 1, .rwk)]⟩,
  ⟨2621448, 4, 1, [(0, 32, .wo)]⟩,
  ⟨2621452, 4, 1, [(0, 16, .ro), (16, 16, .ro)]⟩,
  ⟨2621456, 4, 1, [(0, 32, .ro)]⟩,
  ⟨2621460, 4, 1, [(0, 5, .rwk), (8, 6, .rwk), (16, 10, .rwk), (26, 1, .rwk)]⟩,
  ⟨2621464, 4, 1, [(0, 3, .rwk), (4, 12, .rwk), (16, 8, .rwk)]⟩,
  ⟨2621468, 4, 1, [(0, 16, .rwk), (16, 16, .rwk)]⟩,
  ⟨2621472, 4, 1, [(0, 5, .rwk), (5, 16, .rwk)]⟩,
  ⟨2621476, 4, 1, [(0, 32, .rwk)]⟩,
  ⟨2621480, 4, 1, [(0, 13, .rwk), (13, 1, .ro), (14, 1, .ro), (15, 1, .ro)]⟩,
  ⟨2621484, 4, 1, [(0, 32, .rwk)]⟩,
  ⟨2621488, 4, 1, [(0, 8, .rwk)]⟩,
  ⟨2621492, 4, 1, [(0, 9, .rwk), (16, 10, .rwk)]⟩,
  ⟨2621496, 4, 1, [(0, 9, .rwk)]⟩,
  ⟨2621500, 4, 1, [(0, 16, .ro)]⟩,
  ⟨2621504, 4, 4, [(0, 8, .rwk), (8, 1, .rwk), (9, 1, .rwk), (10, 1, .rwk), (11, 1, .rw)]⟩,
  ⟨2621536, 8, 8, [(0, 2, .rwk), (2, 1, .rwk), (8, 8, .rwk), (16, 10, .rwk)]⟩,
  ⟨2621540, 8, 8, [(0, 8, .rwk), (8, 16, .rwk)]⟩,
  ⟨2621600, 4, 1, [(0, 2, .ro), (4, 2, .ro), (8, 2, .ro), (12, 2, .ro), (16, 2, .ro), (20, 2, .ro), (24, 2, .ro), (28, 2, .ro), (2, 1, .ro), (6, 1, .ro), (10, 1, .ro), (14, 1, .ro), (18, 1, .ro), (22, 1, .ro), (26, 1, .ro), (30, 1, .ro), (3, 1, .ro), (7, 1, .ro), (11, 1, .ro), (15, 1, .ro), (19, 1, .ro), (23, 1, .ro), (27, 1, .ro), (31, 1, .ro)]⟩,
  ⟨2621608, 4, 1, [(0, 32, .rc)]⟩,
  ⟨2621612, 4, 1, [(0, 16, .rc), (16, 16, .rc)]⟩,
  ⟨2621616, 4, 1, [(0, 1, .w1c), (1, 1, .w1c), (2, 1, .w1c), (3, 1, .w1c), (4, 1, .w1c), (5, 1, .w1c), (6, 1, .w1c), (7, 1, .w1c), (8, 1, .w1c), (9, 1, .w1c), (10, 1, .w1c)]⟩,
  ⟨2621620, 4, 1, [(0, 11, .rw)]⟩]

/-- All registers of block TRS. -/
def regsTRS : List RegDesc := regsTRS1

/-- Fields of block TRS whose reset value is not 0: (key, key stride, count, value). -/
def resetsTRS : List (Nat × Nat × Nat × Nat) := [
  (20971524, 32, 1, 1),
  (20971680, 32, 1, 25),
  (20971688, 32, 1, 20),
  (20971696, 32, 1, 100),
  (20971712, 32, 1, 4),
  (20971728, 32, 1, 16),
  (20971744, 32, 1, 1000),
  (20971760, 32, 1, 10000),
  (20971776, 32, 1, 6),
  (20971936, 32, 1, 150),
  (20971952, 32, 1, 50),
  (20971968, 32, 1, 50),
  (20972040, 32, 4, 1),
  (20972041, 32, 4, 1),
  (20972296, 64, 8, 20),
  (20972304, 64, 8, 50),
  (20972320, 64, 8, 10),
  (20972328, 64, 8, 1000),
  (20972800, 4, 8, 3)]

end Sys2Proof.Machine.R
end

