-- ==== Sys2Proof/Machine/RegMapTables.lean ====
section
/-!
DEFINITION. The register map of the filter banks of Plane (R270, R288) and of the MSI-X table and pending bits (R370,
R405). A filter bank is numbered 4 * lane + 0 (F A), 1 (F B), 2 (M A), 3 (M B). Reserved bits of a bank are held,
because a bank with one of them set is invalid (R270). An index is taken modulo the number of entries of its array.
-/
namespace Sys2Proof.Machine.R

/-- Filter bank word +0x00, NTAPS, R270: taps -/
def WFP_BANK_NTAPS (bank : Nat) : Fld := ⟨23199744 + 4096 * (bank % 128), 7⟩
/-- Filter bank word +0x00, DLOG, R270: decimation -/
def WFP_BANK_DLOG (bank : Nat) : Fld := ⟨23199751 + 4096 * (bank % 128), 3⟩
/-- Filter bank word +0x00, SHIFT, R270: output shift -/
def WFP_BANK_SHIFT (bank : Nat) : Fld := ⟨23199754 + 4096 * (bank % 128), 5⟩
/-- Filter bank word +0x00, SYM, R270: symmetric -/
def WFP_BANK_SYM (bank : Nat) : Fld := ⟨23199759 + 4096 * (bank % 128), 1⟩
/-- Filter bank word +0x00, RSV0, R270: zero bits -/
def WFP_BANK_RSV0 (bank : Nat) : Fld := ⟨23199760 + 4096 * (bank % 128), 16⟩
/-- Filter bank word +0x04, GDLY, R270: signed group delay in ticks -/
def WFP_BANK_GDLY (bank : Nat) : Fld := ⟨23199776 + 4096 * (bank % 128), 24⟩
/-- Filter bank word +0x04, zero bits, R270 -/
def WFP_BANK_RSV1 (bank : Nat) : Fld := ⟨23199800 + 4096 * (bank % 128), 8⟩
/-- Filter bank coefficient k, R270. -/
def WFP_BANK_COEF (bank k : Nat) : Fld := ⟨23200000 + 4096 * (bank % 128) + 32 * (k % 64), 18⟩
/-- Zero bits of the word of coefficient k, R270. -/
def WFP_BANK_RSVC (bank k : Nat) : Fld := ⟨23200018 + 4096 * (bank % 128) + 32 * (k % 64), 14⟩
/-- MSI-X table entry v, ADDRLO, R405. -/
def MSIX_ADDRLO (v : Nat) : Fld := ⟨32505856 + 128 * (v % 2048), 32⟩
/-- MSI-X table entry v, ADDRHI, R405. -/
def MSIX_ADDRHI (v : Nat) : Fld := ⟨32505888 + 128 * (v % 2048), 32⟩
/-- MSI-X table entry v, DATA, R405. -/
def MSIX_DATA (v : Nat) : Fld := ⟨32505920 + 128 * (v % 2048), 32⟩
/-- MSI-X table entry v, the mask bit of Vector Control, R405. -/
def MSIX_MASK (v : Nat) : Fld := ⟨32505952 + 128 * (v % 2048), 1⟩
/-- MSI-X pending bit of vector v, R405. -/
def MSIX_PENDING (v : Nat) : Fld := ⟨32768000 + v % 2048, 1⟩

/-- The words of a filter bank of one coefficient index k, F and M banks alike. -/
def coefAll (k : Nat) : RegDesc := ⟨2900000 + 4 * k, 512, 128, [(0, 18, .rw), (18, 14, .rw)]⟩

/-- The words of coefficient index k of F bank A or B. -/
def coefF (k b : Nat) : RegDesc := ⟨2900000 + 4 * k + 512 * b, 2048, 32, [(0, 18, .rw), (18, 14, .rw)]⟩

/-- All registers of the filter banks. -/
def regsWFPBanks : List RegDesc :=
  [⟨2899968, 512, 128, [(0, 7, .rw), (7, 3, .rw), (10, 5, .rw), (15, 1, .rw), (16, 16, .rw)]⟩,
   ⟨2899972, 512, 128, [(0, 24, .rw), (24, 8, .rw)]⟩]
  ++ (List.range 32).map coefAll ++ (List.range 32).map (fun k => coefF (k + 32) 0)
  ++ (List.range 32).map (fun k => coefF (k + 32) 1)

/-- All words of the MSI-X table and of the pending bit array. -/
def regsMSIX : List RegDesc :=
  [⟨4063232, 16, 2048, [(0, 32, .rw)]⟩, ⟨4063236, 16, 2048, [(0, 32, .rw)]⟩, ⟨4063240, 16, 2048, [(0, 32, .rw)]⟩,
   ⟨4063244, 16, 2048, [(0, 1, .rw)]⟩,
   ⟨4096000, 4, 64, (List.range 32).map (fun i => (i, 1, .ro))⟩]

/-- MSI-X vectors are masked at reset (the Base Specification of R370). -/
def resetsMSIX : List (Nat × Nat × Nat × Nat) := [(32505952, 128, 2048, 1)]

end Sys2Proof.Machine.R
end

