-- ==== Sys2Proof/Machine/State.lean ====
section
/-!
DEFINITION. The state of the machine as plain data: the registers (a sparse table of fields by bit address), and
beside them, per block, everything the spec gives the part that no register shows; HBM, the boot flash, the record of
what has left the part, the free-value counter and the queue of waiting commands.
-/
namespace Sys2Proof.Machine

/-! ### JNL: output journal (R218 to R241) -/

/-- A committed record: STREAM, SEQ, the time of bytes 8-15, bytes 16-27 as one 96-bit word (byte 16 lowest) and the
flags of bytes 28-29; bytes 30-31 are the CRC over bytes 0-27, computed when the record is written out (R218, R226). -/
structure Rec where
  stream : Nat
  seq    : Nat
  time   : Time
  body   : BitVec 96
  flags  : BitVec 16
deriving DecidableEq, Repr

/-- A marker waiting for its place in the journal (R226 to R229): its event instant on the root clock (LSB), the
device time it shows, its kind, payload bytes 17-27 (byte 17 lowest) and its flags; `frame` names the frame a frame
end marker reports on. -/
structure Marker where
  instant : Nat
  time    : Time
  kind    : Nat
  payload : BitVec 88
  flags   : BitVec 16
  frame   : Nat
deriving DecidableEq, Repr

/-- A burst whose engine has handed its records over, waiting in the journal for its place (R230); `fLast` is the fire of its last
valid shot, root LSB (R280); `held` tells that it has been counted in JNL_HELDCNT. -/
structure Handed where
  burst   : Nat
  instant : Nat
  channel : Nat
  order   : Nat
  epoch   : Nat
  frame   : Nat
  fLast   : Nat
  recs    : List Rec
  held    : Bool
deriving DecidableEq, Repr

/-- What the frame end marker of a frame counts (R227, R237). -/
structure FrameStat where
  refused    : Nat
  dropped    : Nat
  incomplete : Bool
  byReset    : Bool
deriving DecidableEq, Repr

/-- The output journal: the generation (R232), the next sequence number, the ring of records by slot (R233), bursts
and markers waiting for their place in the order (R228, R230), the write queue (R235), the count of refused markers not
yet reported (R236), and the frame tallies of R237. -/
structure JnlState where
  gen       : BitVec 32
  head      : Nat
  ring      : List (Nat × Rec)
  handed    : List Handed
  markers   : List Marker
  wq        : Nat
  mkPend    : Nat
  frames    : List (Nat × FrameStat)
deriving DecidableEq, Repr


/-! ### CLK and start-up (R36 to R61) -/

/-- A device-time correction waiting for the next frame start, in units of 5 ns (R44 to R46). -/
inductive PendStep where
  | none
  | discipline (units : Int)
  | timeSet (units : Int)
deriving DecidableEq, Repr

/-- The clock plant, which a full reset does not reset (R43). -/
structure ClkState where
  /-- The first root PLL has locked since PORN_N rose, so device time counts (R43). -/
  running  : Bool
  /-- 200 MHz root cycles since the clock plant started; 512 LSB each (R16). -/
  ticks    : Nat
  devTime  : Time
  /-- 5 ns periods since PORN_N rose, for the T field of R60. -/
  porTicks : Nat
  /-- Warm-up hold: running, its age in root ticks, and elapsed (R41). -/
  holdRun  : Bool
  holdAge  : Nat
  holdDone : Bool
  /-- Frequency measurements, newest first, at most 16, in units of 0.01 ppb (R41). -/
  freqs    : List Int
  /-- Time of the last PPS edge in units of 2^-8 ns of the root clock (R41). -/
  lastPps  : Option Nat
  /-- A correction waiting under R44. -/
  pend     : PendStep
  /-- A time-set has been accepted but no PPS edge seen since it was applied (R46). -/
  afterSet : Bool
deriving DecidableEq, Repr

/-- Resets and start-up (R48 to R61). -/
structure BootState where
  /-- PORN_N is low (R37). -/
  pornLow   : Bool
  /-- The rails are within tolerance; a power loss clears it (R36). -/
  powered   : Bool
  /-- BOOTSEL as sampled at the rising edge of PORN_N (R56). -/
  bootsel   : BitVec 2
  /-- Recovery RESET has asked for BOOTSEL to be ignored (R444). -/
  ignoreSel : Bool
  /-- FULLRST_N and PERST_N pin levels. -/
  fullrstHi : Bool
  perstHi   : Bool
  /-- A full reset runs: from its reset instant to logic release (R50). -/
  inReset   : Bool
  /-- Start-up after logic release follows the course of R51. -/
  fast      : Bool
  /-- Stage HBM_TRAIN has been reached since PORN_N rose (R53). -/
  trained   : Bool
  /-- HBM is in self-refresh (R50). -/
  selfRef   : Bool
  /-- Whether Krovent was running is held in HBM (R49). -/
  wasRun    : Bool
  /-- A retained, verified image lies in HBM (R51). -/
  imageOk   : Bool
  /-- The reset instant of the running or last full reset: root LSB and device time. -/
  rstLsb    : Nat
  rstTime   : Time
  /-- Stage HOST_LINK has completed since the last reset, so markers may be committed (R318). -/
  linked    : Bool
  /-- Stage SPIN has completed; stage CALIBRATE has completed (R58: they run together). -/
  spinDone  : Bool
  calDone   : Bool
  /-- The stage has stalled, so STALL_LINE repeats its line (R60). -/
  stalled   : Bool
  /-- Start-up has ended (R58): after a failed TRUSS_TEST it waits for the next PORN_N; after a failed standard set, or in JTAG
  hold, for PORN_N or a full reset. -/
  ended     : Bool
  /-- CLKREQ_N is driven low (R498). -/
  clkreqLow : Bool
  /-- Block clocks are gated by a thermal shutdown (R344). -/
  gated     : Bool
  /-- The slot chosen at ROM_START: slot B (R428). -/
  slotB     : Bool
  /-- The detail byte of the latest start-up line (R60). -/
  detail    : Nat
deriving DecidableEq, Repr


/-! ### TNN: Tenon (R62 to R84) -/

/-- An injection under way (R83): tilt loop or spindle, at the setpoint or the output, shape 0 sine, 1 step, 2 PRBS;
samples injected and the PRBS register. -/
structure Inject where
  tilt   : Bool
  output : Bool
  shape  : Nat
  n      : Nat
  lfsr   : BitVec 11
  /-- STOP has been written: the injection ends at the next sample. -/
  stop   : Bool
deriving DecidableEq, Repr

/-- A response capture under way (R84). -/
structure RespCap where
  tilt    : Bool
  addr    : Nat
  len     : Nat
  n       : Nat
  waitInj : Bool
deriving DecidableEq, Repr

/-- A controller's state in output units (R71): integral, derivative, previous measurement and setpoint, last output. -/
structure LoopState where
  i     : Word
  d     : Word
  mPrev : Word
  rPrev : Word
  u     : Word
deriving DecidableEq, Repr

/-- The state of Tenon beside its registers. -/
structure TnnState where
  /-- Encoder counts since the index, root tick of the last accepted edge, last edge interval in ticks, direction. -/
  count     : Int
  edgeTick  : Nat
  interval  : Nat
  reverse   : Bool
  /-- Index seen since power-on, the tick of the last index edge, and counts at it. -/
  indexSeen : Bool
  indexTick : Nat
  /-- In mode LOCK: the phase loop runs (R75). -/
  phaseLoop : Bool
  sp        : LoopState
  tl        : LoopState
  /-- Speed setpoint under the ramp of mode SPEED (R74). -/
  setpoint  : Word
  /-- Hand-over blend: b0 and samples since the hand-over; 2,500 or more means none (R77). -/
  blend0    : Word
  blendN    : Nat
  capN      : Nat
  captured  : Bool
  lockN     : Nat
  /-- SEQ of the next torque frame (R67). -/
  seq       : BitVec 4
  portQuiet : Bool
  spinTimer : Bool
  /-- Tilt samples: consecutive invalid ones; a tilt trip stands (R69, R79). -/
  tlBad     : Nat
  tlTrip    : Bool
  /-- SCANVALID contributions of the two loops (R73, R80), and an encoder error since SPLOCK was last set. -/
  spOk      : Bool
  tlOk      : Bool
  encErr    : Bool
  inj       : Option Inject
  cap       : Option RespCap
  /-- A spindle trip asks for the fall-back to the speed loop at the next sample (R79). -/
  fall      : Bool
  spSwap    : Bool
  tlSwap    : Bool
  /-- A frame start has passed since the tilt swap was requested (R81). -/
  tlSwapDue : Bool
  /-- The word in the firmware region of HBM: mode requests and last torque demand (R78). -/
  retSp     : Nat
  retTl     : Nat
  retDem    : Word
  /-- The latest published sample: root LSB, phase, speed, tilt, SCANVALID (R64). -/
  smpLsb    : Nat
  smpPhi    : BitVec 32
  smpSpeed  : Word
  smpTilt   : Word
  smpValid  : Bool
  /-- The facet number of the latest published sample (R64). -/
  smpFacet  : Nat
  /-- The next spindle sample is a hand-over sample: re-engagement has preloaded the last torque (R77, R78). -/
  engage    : Bool
  /-- The tilt DAC's code: 32,767 is +2.000 V, 0 is 0 V (R69). -/
  dac       : Int
  /-- Age of the frame, in LSB, at the tilt loop's latest sample instant (R70, R73). -/
  tlAge     : Nat
deriving DecidableEq, Repr


/-! ### BTN: Batten (R87 to R120) -/

/-- Where a fire stands between Peg's plan and its report (R107 to R116). -/
inductive FireStage where
  /-- Planned by Peg or by a proof window; not yet submitted to Truss. -/
  | planned
  /-- Submitted; the allowed mask is in `mask` (R108). -/
  | submitted
  /-- Transmitted on both directions, no report yet (R110). -/
  | sent
deriving DecidableEq, Repr

/-- One fire of one driver row (R95, R107). `time` is the fire time on the root clock in units of 78.125 ps (64 to a
5 ns cycle); `cols` pairs each column that opened a burst with the burst's number. -/
structure Fire where
  driver  : Nat
  tag     : Nat
  row     : Nat
  proof   : Bool
  time    : Nat
  ec      : Nat
  mask    : BitVec 32
  cur     : Nat
  width   : Nat
  epoch   : Nat
  shot    : Nat
  cols    : List (Nat × Nat)
  stage   : FireStage
deriving DecidableEq, Repr

/-- An echo measurement on a driver in one direction (R100): the sum of rt - 8h over the echoes taken, and their number. -/
structure EchoRun where
  sum    : Int
  n      : Nat
deriving DecidableEq, Repr

/-- A proof pulse that opened a reference burst (R120): its row 32n + row, the burst's number, whether its report showed current,
and whether its return came. -/
structure ProofCycle where
  row     : Nat
  burst   : Nat
  current : Option Bool
  back    : Option Bool
deriving DecidableEq, Repr

/-- What a full reset retains of a ring that was up (R104): its drivers' number, its loop delays, and the forward delays of each
driver on CW and CCW, in LSB. -/
structure RingKept where
  n      : Nat
  lcw    : Nat
  lccw   : Nat
  delays : List (Nat × Nat)
deriving DecidableEq, Repr

/-- What Batten holds per driver beside its registers. -/
structure DrvState where
  /-- ALARM 0x40-0x7F or silence has stopped the driver (R118). -/
  stopped   : Bool
  /-- Time (78.125 ps units) of the driver's latest transmitted fire (R109). -/
  lastFire  : Option Nat
  /-- Consecutive unanswered grants on CW and on CCW (R118). -/
  missCw    : Nat
  missCcw   : Nat
  /-- Next row of the proof-pulse cursor (R119). -/
  cursor    : Nat
  /-- a_cw at the last TIMESET, for RES updates (R102, R103). -/
  baseAcw   : Nat
  /-- A TRIM waiting for its effective time: delta and effective time in 78.125 ps units (R103). -/
  trim      : Option (Int × Nat)
  /-- Echoes under way, and the last finished runs of an echo check, on CW and CCW (R100, R103). -/
  echoCw    : Option EchoRun
  echoCcw   : Option EchoRun
  runCw     : Option EchoRun
  runCcw    : Option EchoRun
  /-- Pass-through latency of the identity, in 78.125 ps units (R97, R100). -/
  pass      : Nat
  /-- Identity and configuration words read back (R97): (word address, value). -/
  words     : List (Nat × Nat)
  /-- The latest STATUS payload, and the USEQ of the latest upstream frame (R92, R96). -/
  status    : Option StatusPayload
  useq      : Nat
  /-- It has answered an ECHO on CW, on CCW, since both loops went down (R93). -/
  seenCw    : Bool
  seenCcw   : Bool
  /-- Two breaks cut it off from both directions (R115). -/
  cutOff    : Bool
deriving DecidableEq, Repr

/-- What Batten holds per ring. -/
structure RingState where
  /-- Next downstream sequence number (R92). -/
  seq     : Nat
  /-- Round-robin positions of the grants on CW and CCW (R93). -/
  rrCw    : Nat
  rrCcw   : Nat
  /-- Neither loop is up and the ECHOs that locate the break are out (R93). -/
  locating : Bool
  /-- The direction, CCW where true, that carries frames again once the echo check behind its adaptation is over (R364). -/
  back    : Option Bool
  /-- RINGEN has just brought it up: Peg plans its cells from the next frame (R121). -/
  waits   : Bool
deriving DecidableEq, Repr

/-- A dead-angle window that Tenon has published: start and end in root LSB, and its number (R65). -/
structure DeadWindow where
  start  : Nat
  stop   : Nat
  number : Nat
deriving DecidableEq, Repr

/-- The state of Batten beside its registers. -/
structure BtnState where
  fires     : List Fire
  drivers   : List (Nat × DrvState)
  rings     : List (Nat × RingState)
  /-- Consecutive proof cycles without a reference return, per row 32n + row (R120). -/
  refMiss   : List (Nat × Nat)
  /-- Emitters re-admitted by host software and waiting for their proof pulse: 32 * (32n + row) + column (R117). -/
  readmit   : List Nat
  /-- Published dead angles and the count of them since power-on, for EVERY (R65, R119). -/
  windows   : List DeadWindow
  winCount  : Nat
  /-- The hush request is raised by Truss, or by HUSH of one ring. -/
  hushing   : Bool
  resumed   : Bool
  /-- Fires transmitted before the last full reset: (driver, tag) (R503). -/
  preReset  : List (Nat × Nat)
  /-- Reference bursts of proof pulses whose outcome is not known yet (R120). -/
  proofs    : List ProofCycle
  /-- Rings as the last full reset found them (R104). -/
  kept      : List (Nat × RingKept)
deriving DecidableEq, Repr


/-! ### PEG, MRT, JST: bursts, histograms and engines (R122 to R215) -/

/-- What a burst is for: a scanning burst, a reference burst (R142) or a listen burst (R135). -/
inductive BurstKind where
  | scan | reference | listen
deriving DecidableEq, Repr

/-- Where a burst stands: accumulating; closed and waiting to be dispatched (a cluster with no free engine); running on
an engine; handed over to the journal. -/
inductive BurstStage where
  | open | waiting | running | handed
deriving DecidableEq, Repr

/-- A kept sieve candidate: bin, three-bin sum, and the window given to it (R176, R177). -/
structure Cand where
  b   : Nat
  sum : Nat
  win : Option Nat
deriving DecidableEq, Repr

/-- An entry of a zoom window's event list (R188), with the arrival it came from for withdrawals (R181). -/
structure WinEvent where
  ofs     : Nat
  width   : Nat
  shot    : Nat
  backlog : Bool
  wsat    : Bool
  spare   : Bool
deriving DecidableEq, Repr

/-- A burst whose window has closed, kept for the events that Kerf delivers after the close (R173): channel, frame, fires of its
valid shots, and its close from the frame's epoch and on the root clock, in LSB. -/
structure ShutBurst where
  channel  : Nat
  frame    : Nat
  fires    : List Nat
  closeRel : Nat
  closeLsb : Nat
deriving DecidableEq, Repr

/-- A zoom window (R178): start W in LSB, 64 fine counts by bin, shoulders, event list in the order of entry, excluded
shots, and whether any direct accumulation reached it (R183). The shoulder matches are kept with their shot, so that an
excluded shot's matches can be withdrawn (R181). -/
structure Window where
  w      : Nat
  fine   : List (Nat × Nat)
  lower  : List Nat
  upper  : List Nat
  events : List WinEvent
  excl   : Nat
  direct : Bool
deriving DecidableEq, Repr

/-- A burst from the instant Peg plans it until it is resolved (R125, R169, R230). `fires` are the f_j of R171 in LSB
from the frame epoch; `epoch0` is that epoch on the root clock in LSB. -/
structure Burst where
  num      : Nat
  kind     : BurstKind
  stage    : BurstStage
  /-- It holds one of Mortise's 4,096 slots; a burst that found none does not (R169). -/
  slot     : Bool
  /-- Joist's ledger granted it an engine; a cluster of capacity 0 grants without one (R215). -/
  booked   : Bool
  channel  : Nat
  driver   : Nat
  row      : Nat
  col      : Nat
  az       : Nat
  elev     : Nat
  zone     : Nat
  epoch    : Nat
  frame    : Nat
  k        : Nat
  s        : Nat
  tags     : List Nat
  fires    : List Nat
  epoch0   : Nat
  closeLsb : Nat
  void     : Nat
  coarse   : List (Nat × Nat)
  windows  : List Window
  sieved   : Bool
  /-- Root LSB of the placement instant P once windows are placed (R179). -/
  placed   : Option Nat
  svScout  : Nat
  lam      : Nat
  thr      : Nat
  npos     : Nat
  cands    : List Cand
  ndrop    : Nat
  foreign  : Bool
  spare    : Bool
  limiter  : Bool
  rerun    : Bool
  spareCl  : Bool
  /-- The retroactive fill has run (R180). -/
  filled   : Bool
  /-- Drift term of the channel's group (1/16 LSB), address of the channel calibration table, and flag bit 2, as they stood at
  the burst's frame start (R352, R354, R361). -/
  dz       : Int
  cal      : Nat
  calRamp  : Bool
  /-- RFLAGS as dispatch computed it (R199) and the close's device time. -/
  rflags   : BitVec 16
  closeT   : Time
  engine   : Option Nat
deriving DecidableEq, Repr

/-- An event of a channel's backlog, newest first (R170): arrival in LSB from the epoch of `frame`. -/
structure BackEvent where
  arrival : Nat
  frame   : Nat
  width   : Nat
  wsat    : Bool
  stuck   : Bool
  spare   : Bool
  /-- Root instant at which Kerf delivered it (LSB), for the fill of R180. -/
  deliver : Nat
deriving DecidableEq, Repr

/-- A gang whose tags or bookings were short, held for a retry with the same code (R132, R194). -/
structure HeldGang where
  offsets : List Nat
  ec      : Nat
  k       : Nat
  s       : Nat
  listen  : Bool
  row     : Nat
  /-- Columns already counted as refused (R133), and whether the step has been counted as held for tags and for a booking. -/
  refused : List Nat
  tagHeld : Bool
  bookHeld : Bool
deriving DecidableEq, Repr

/-- A driver's plan timeline (R126, R141): the row at which it looks next, its plan steps in the frame, and the gangs it has
planned. -/
structure DrvPlan where
  row      : Nat
  step     : Nat
  gangs    : Nat
  /-- Last planned shot, root LSB. -/
  lastShot : Option Nat
  idle     : Bool
  held     : Option HeldGang
deriving DecidableEq, Repr

/-- A joint codebook generation received or drawn (R137, R420): its number, its first master frame, and the gap bytes of its
chunks by index. -/
structure CodeGen where
  gen    : Nat
  first  : Nat
  chunks : List (Nat × List Byte)
deriving DecidableEq, Repr

/-- The configuration that a configuration epoch carries (R22): the staged registers as captured when the epoch was
staged, and where its tables lie in HBM (R105, R106, R128). -/
structure EpochCfg where
  period    : Nat
  gmin      : Nat
  gspan     : Nat
  crossMax  : Nat
  azSh      : Nat
  az0       : Word
  azGain    : Word
  tiltScale : Word
  elMin     : Word
  elStep    : Word
  pfa       : Nat
  lpfa      : Nat
  nmin      : Nat
  binMin    : Nat
  sep       : Nat
  nwin      : Nat
  nearFirst : Bool
  zoneSel   : List (Nat × Nat)
  sightAddr : Nat
  rowAddr   : Nat
  planAddr  : Nat
  /-- Number of the program set this epoch runs (0 = the standard set of the image). -/
  progSet   : Nat
deriving DecidableEq, Repr

/-- A booking of an engine of a cluster (R194): cluster, burst number, first and last instant (LSB). -/
structure Booking where
  cluster : Nat
  burst   : Nat
  start   : Nat
  stop    : Nat
deriving DecidableEq, Repr

/-- The state of Peg and of the bursts in flight. -/
structure PegState where
  /-- Frame clock running; root LSB of the present frame's epoch; its period in 5 ns units (R122). -/
  clockOn   : Bool
  epochLsb  : Nat
  period    : Nat
  /-- PERIOD of the configuration in force since the last boundary; `period` may be a length that a tie master sets (R122, R418). -/
  cfgPeriod : Nat
  /-- Root LSB of the previous frame's epoch, for edges that belong to it (R148). -/
  epochOld  : Option Nat
  /-- A scan start accepted and waiting; the root LSB of its acceptance (R123). -/
  startReq  : Option Nat
  stopReq   : Bool
  scanning  : Bool
  /-- A frame has been scanned since power-on reset, so frames passed over are counted. -/
  ran       : Bool
  /-- Frames passed over since the last frame end marker, and the first-frame mark of R241. -/
  passed    : Nat
  firstAfter : Bool
  /-- Shot tags in use (R132). -/
  tags      : List Nat
  bursts    : List Burst
  /-- Bursts closed within the last 25 ns of event delivery (R173). -/
  shut      : List ShutBurst
  nextBurst : Nat
  drivers   : List (Nat × DrvPlan)
  /-- Shot-0 instants (LSB) per channel, newest first (R133). -/
  lastOpen  : List (Nat × List Nat)
  /-- Foreign flags: channel and frames left (R136). -/
  foreign   : List (Nat × Nat)
  codebooks : List CodeGen
  epochs    : List (Nat × EpochCfg)
  active    : Nat
  backlog   : List (Nat × List BackEvent)
  /-- Channels whose flag bit 2 stood at the present frame's start, one bit each (R354). -/
  calMask   : Nat
  /-- Number of the last scanned frame (R379). -/
  lastFrame : Nat
deriving DecidableEq, Repr

/-- An engine's service (R211 to R213): in service, under test, out until power-on, tick of its last fault, and the
burst it runs. -/
structure Engine where
  out      : Bool
  testing  : Bool
  lastFail : Option Nat
  burst    : Option Nat
  /-- The work item in its local memory, what its program last wrote to the record port, and the root LSB at which its program
  started (R193, R196, R198). -/
  item     : List Byte
  port     : List Byte
  started  : Nat
deriving DecidableEq, Repr

/-- A program set resident or staged (R202, R209): declared budgets of its slots, its shared-table head for the class
parameters of R224, and whether it is the standard set. -/
structure ProgSet where
  num      : Nat
  standard : Bool
  ident    : Nat
  slots    : List (Nat × Nat)
  image    : List Byte
deriving DecidableEq, Repr

/-- The state of the engine array. -/
structure JstState where
  engines  : List (Nat × Engine)
  bookings : List Booking
  /-- The cluster the spare substitutes for, with the takeover instant while it lies ahead (R214). -/
  subFor   : Option Nat
  subAt    : Option (Nat × Nat)
  /-- Clusters with a cluster-level fault. -/
  clFault  : List Nat
  sets     : List ProgSet
  /-- A proven set waiting for a free bank, and one written and staged for the next EPOCH_COMMIT (R210, R381). -/
  waiting  : Option ProgSet
  staged   : Option ProgSet
  /-- The command ring of a PROG_LOAD whose set waits for a bank (R210, R379). -/
  loadRing : Option Nat
  /-- Words of the clusters' statistics that are not 0: 65,536 words a cluster (R196). -/
  stats    : List (Nat × Nat)
  nextSet  : Nat
deriving DecidableEq, Repr


/-! ### KRF: Kerf (R144 to R167) -/

/-- A stamped leading edge whose event is not yet delivered (R147 to R154): its time in 1/16 LSB, the TDC that stamped it, and
its width once it is closed. The time is on the coarse count, modulo 2^57. -/
structure KrfEvent where
  tAbs  : Nat
  tdc   : Nat
  width : Option Nat
  wsat  : Bool
  stuck : Bool
  /-- The raw tap of its leading edge, and what a spare that shadows the channel latched of it (R155, R160). -/
  tap    : Nat
  shadow : Option (BitVec 48 × BitVec 5)
  /-- Stamp of the leading edge accepted before it. -/
  prev   : Option Nat
deriving DecidableEq, Repr

/-- Per channel state of Kerf. -/
structure KrfChan where
  /-- The input reads high, as the last edge left it. -/
  high    : Bool
  /-- Stamp of the last accepted leading edge, in 1/16 LSB (R152). -/
  last    : Option Nat
  /-- Events stamped and not yet delivered, oldest first. -/
  queue   : List KrfEvent
  /-- Token bucket: tokens in 1/1600 of a token, cut to the depth where it is read, and the root LSB of its last refill
  (R154). -/
  tokens  : Nat
  refill  : Nat
  /-- Drop sequence (R154). -/
  dropSeq : Nat
  /-- Recent accepted events for R158: root LSB, newest first. -/
  recent  : List Nat
  /-- Held by stuck or over-fast (R157, R158); REL pending until low. -/
  held    : Bool
  relPend : Bool
  /-- The TDC has failed with no repair (R162). -/
  noFix   : Bool
  /-- Skew in force in the present frame, and in the one before it (R148, R149). -/
  skew    : Int
  skewOld : Int
deriving DecidableEq, Repr

/-- Per group state: a requested spare move (channel in the group, takeover instant in LSB, MODE), shadow compares, mismatches
and the sum of differences in 1/16 LSB of the present period (R160, R161, R357). -/
structure KrfGroup where
  move     : Option (Nat × Nat × Nat)
  compared : Nat
  mism     : Nat
  diffSum  : Int
  /-- Completed substitution kept in HBM across a full reset (R162). -/
  kept     : Option Nat
  /-- A move to a failed TDC's channel that a full reset has overtaken: it is made again once stamping resumes (R162). -/
  redo     : Option Nat
  /-- The latest 1.6 GHz cycle in which events left the group's Lath FIFO, and their number in it (R154). -/
  slot     : Nat
  used     : Nat
deriving DecidableEq, Repr

/-- A gauge measurement unit (R164 to R166). -/
structure Gauge where
  armed  : Bool
  start  : Option Nat
  n      : Nat
  sumX   : Nat
  sumXX  : Nat
  minX   : Nat
  maxX   : Nat
  last   : Nat
  fifo   : List Nat
deriving DecidableEq, Repr

/-- The state of Kerf beside its registers. -/
structure KrfState where
  chans  : List (Nat × KrfChan)
  groups : List (Nat × KrfGroup)
  gauges : List (Nat × Gauge)
  /-- Stamp of the last accepted edge per gauge input, in LSB (R163). -/
  gLast  : List (Nat × Nat)
  /-- Fine-code tables: (1024-entry index tdc, 32 values) (R147), as Plumb's present set and ramp leave them. -/
  fine   : List (Nat × List Nat)
deriving DecidableEq, Repr


/-! ### LBK: lookback integrator (R244 to R261) -/

/-- A pose sample (R248). -/
structure Pose where
  time    : Nat
  x       : Word
  y       : Word
  z       : Word
  qw      : Word
  qx      : Word
  qy      : Word
  qz      : Word
  valid   : Bool
deriving DecidableEq, Repr

/-- LBK_CFG and LBK_POSECFG as they stood when a frame started (R262). -/
structure LbkCfg where
  wpfa    : Nat
  wmin    : Nat
  minfr   : Nat
  maxpt   : Nat
  cover   : Nat
  gapmax  : Nat
  /-- LATEMAX as it acts, in LSB: the written value, at most the frame period less 1 ms (R260). -/
  latemax : Nat
deriving DecidableEq, Repr

/-- An evidence column in a frame slot (R189, R245), with what its target still needs: the burst it came from, the cell
geometry of its epoch, the close on the root clock and in device time, its flags, and the ranges of the committed direct
records of its burst (R257). -/
structure Column where
  burst    : Nat
  channel  : Nat
  az       : Nat
  elev     : Nat
  azSh     : Nat
  elMin    : Word
  elStep   : Word
  sv       : Nat
  lam      : Nat
  closeLsb : Nat
  closeT   : Nat
  codes    : List Nat
  flags    : BitVec 16
  ranges   : List Nat
  /-- 0 waiting, 1 evaluated, 2 unposed, 3 abandoned (R252, R260). -/
  done     : Nat
deriving DecidableEq, Repr

/-- A kept whisper test waiting for its frame's commit (R256 to R259). -/
structure Whisper where
  closeLsb : Nat
  channel  : Nat
  echo     : Nat
  record   : Rec
deriving DecidableEq, Repr

/-- A frame slot of the history (R245): frame number, epoch in device time, the configuration of its targets, columns in order
of close, pose samples in order of time, records waiting for its commit; whether it is absent (R247), whether its boundary
plus 1 ms has passed (R260), whether its records have been committed (R259), the root LSB of its end boundary once that has
passed (R260), and whether its slot failed the check at stage HOST_LINK (R246). -/
structure LbkFrame where
  num     : Nat
  epochT  : Nat
  cfg     : LbkCfg
  cols    : List Column
  poses   : List Pose
  kept    : List Whisper
  absent  : Bool
  late    : Bool
  sent    : Bool
  endAt   : Option Nat
  failed  : Bool
deriving DecidableEq, Repr

/-- The state of the lookback integrator beside its registers. -/
structure LbkState where
  /-- Oldest first; F + 1 at most. -/
  frames   : List LbkFrame
  /-- TIME of the last accepted pose sample. -/
  lastPose : Option Nat
  /-- Device times of DISCONT samples (R250), newest first. -/
  disconts : List Nat
  /-- First frames behind a device-time step that acts as a DISCONT (R251). -/
  breaks   : List Nat
  /-- F of the slots as they are laid out in HBM (R244): what LBK_STATUS.NFR reports, and what a full reset keeps (R246). -/
  held     : Nat
  /-- Samples ahead of a boundary that emptied the history: they belong to the frame it starts (R245, R246). -/
  early    : List Pose
deriving DecidableEq, Repr


/-! ### WFP and DOG: waveform path (R263 to R286) -/

/-- When a requested filter swap takes effect (R271): a frame start and the start of a configuration epoch become an instant of the
root clock as they come. -/
inductive SwapWhen where
  | atLsb (lsb : Nat)
  | frame
  | epoch
  | device (t : Nat)
deriving DecidableEq, Repr

/-- An open detector gate (R272): its instant in root ticks, the frame that instant belongs to, that frame's epoch on the root
clock in LSB, and the gate mode. -/
structure Gate where
  at_    : Int
  frame  : Nat
  epoch0 : Nat
  mode   : Nat
deriving DecidableEq, Repr

/-- What a filter bank holds (R270): taps, decimation exponent, output shift, SYM, GDLY and the coefficients of its taps. -/
structure FirBank where
  ntaps : Nat
  dlog  : Nat
  shift : Nat
  sym   : Bool
  gdly  : Int
  coefs : List Int
deriving DecidableEq, Repr

/-- Filter banks of a lane that a swap has replaced (R271): the root tick from which the next ones compute, the input sample S at
which the F bank took effect (R269), the tick at which the M bank did, and what the two banks held. -/
structure BankUse where
  until_ : Int
  phase  : Int
  mAt    : Int
  f      : FirBank
  m      : FirBank
deriving DecidableEq, Repr

/-- What Plane holds per lane: swaps that wait, the open gate and the instant of the last gate (root ticks), the root LSB since
which the history holds samples (R276), the input sample at which the active F bank took effect and the instant at which the
active M bank did, in root ticks (R269, R271), and the banks that swaps have replaced, oldest first, as far as the history
reaches. -/
structure LaneState where
  fSwap    : Option SwapWhen
  mSwap    : Option SwapWhen
  gate     : Option Gate
  gateLast : Option Int
  histFrom : Nat
  phase    : Int
  mAt      : Int
  olds     : List BankUse
deriving DecidableEq, Repr

/-- A correction bank that a swap has replaced (R266): the root tick from which the next one corrects, and (offset, gain, skew) of
each converter. -/
structure CorUse where
  until_ : Int
  vals   : List (Int × Int × Int)
deriving DecidableEq, Repr

/-- A fire that Batten transmitted, as gates and shot triggers see it (R272, R277): its instant in root LSB with the driver's
residual (R171), and what its FIRE frame carried. -/
structure ShotSeen where
  driver : Nat
  tag    : Nat
  row    : Nat
  proof  : Bool
  lsb    : Int
deriving DecidableEq, Repr

/-- The state of the waveform path beside its registers. -/
structure WfpState where
  lanes   : List (Nat × LaneState)
  /-- A correction-bank swap waiting for its instant (root LSB). -/
  corSwap : Option Nat
  /-- Correction banks replaced, oldest first, as far as the history reaches. -/
  corOlds : List CorUse
  /-- Transmitted fires that a gate or trigger offset may still reach, newest first. -/
  shots   : List ShotSeen
deriving DecidableEq, Repr

/-- A capture under way (R282): trigger kind, frame and its epoch on the root clock in LSB, trigger instant in ticks from that
epoch, and the header fields as they stood at the trigger. -/
structure Capture where
  seq    : Nat
  trig   : Nat
  frame  : Nat
  epoch0 : Nat
  trigT  : Int
  len    : Nat
  pre    : Nat
  src    : Nat
  rate   : Nat
  rlvl   : Nat
  tb     : Nat
  aux    : Nat
deriving DecidableEq, Repr

/-- What Dog holds per unit (R277 to R285): triggers counted for EVERY and for the rate, the end of the last capture's span on
the root clock in ticks (R281), the captures under way, oldest first, and the root tick of the sample that last fired the edge
trigger: it must re-arm behind it (R278). -/
structure DogUnit where
  everyCnt : Nat
  rateCnt  : Nat
  spanEnd  : Option Int
  caps     : List Capture
  edgeLast : Option Int
deriving DecidableEq, Repr

/-- An entry of the capture ring (R282, R283): its number, offset in units of 64 bytes, size in bytes, and whether it is
complete. Its bytes lie in HBM. -/
structure DogEntry where
  seq    : Nat
  offset : Nat
  size   : Nat
  full   : Bool
  /-- Purlin has written it to the host (R283). -/
  sent   : Bool
deriving DecidableEq, Repr

/-- The state of Dog beside its registers. -/
structure DogState where
  units     : List (Nat × DogUnit)
  /-- Entries made and not freed, oldest first; the next offset (units of 64 bytes) and the next SEQ. -/
  ring      : List DogEntry
  tail      : Nat
  nextSeq   : Nat
  /-- Purlin has delivered an entry since the last DRAINT tick (R284). -/
  delivered : Bool
deriving DecidableEq, Repr


/-! ### TRS: Truss (R290 to R320) -/

/-- One two-channel safety input (R306 to R310): the sample counts of each leg at a level not yet accepted, the
discrepancy timer, whether both channels have been accepted open since FAULT, the root ticks of the accepted changes,
and the samples an unused leg has read high. -/
structure TrsInput where
  cntA     : Nat
  cntB     : Nat
  /-- Discrepancy timer: 0 stopped, 1 waiting for the second opening, 2 waiting for the second closing. -/
  disc     : Nat
  bothOpen : Bool
  changes  : List Nat
  unusedHi : Nat
deriving DecidableEq, Repr

/-- A budget table entry (R298). -/
structure BudEntry where
  pulseMax : Nat
  lim1     : Nat
  lim2     : Nat
  valid    : Bool
  absorb   : Bool
deriving DecidableEq, Repr

/-- A budget bank: its number of directions and its entries (R298). -/
structure BudBank where
  ndir    : Nat
  entries : List BudEntry
deriving DecidableEq, Repr

/-- One exposure accumulator of a direction: the current bucket and the completed ones, newest first; completed buckets
behind the end of the list are those of R301 that stand at one sixteenth of the limit, or empty (R299). -/
structure Accum where
  cur  : Nat
  done : List Nat
deriving DecidableEq, Repr

/-- Truss's own spindle phase (R291): counts since the last index edge, counts and duration (in LSB) of the last full
revolution, the instant of the last encoder edge and of the last index edge (root LSB). -/
structure TrsPhase where
  counts   : Nat
  revCnt   : Nat
  revLsb   : Nat
  edgeLsb  : Nat
  indexLsb : Nat
  seen     : Bool
deriving DecidableEq, Repr

/-- The allowed mask Truss returned for a fire (R300, R303). -/
structure AllowedFire where
  driver : Nat
  tag    : Nat
  mask   : BitVec 32
deriving DecidableEq, Repr

/-- A fault that started or joined the limp window (R316). -/
structure LimpFault where
  cause  : Nat
  detail : Nat
deriving DecidableEq, Repr

/-- Why ARM checks are due (R296). -/
inductive ArmDue where
  | none | stage | release | darkreq
deriving DecidableEq, Repr

/-- The state of Truss beside its registers. -/
structure TrsState where
  /-- A key sequence runs (R292). -/
  keySeq      : Bool
  /-- Clock fault condition stands (R291). -/
  clkFault    : Bool
  /-- No management heartbeat stands as a fault (0x0205). -/
  hbFault     : Bool
  /-- Conditions of class 0x01xx that stand until the next good check: a memory error of the exposure monitor, a wrong known
  answer, and a phase disagreement (R302, R303). -/
  memFault    : Bool
  kacFault    : Bool
  phFault     : Bool
  /-- Outputs forced low by an output fault (R313). -/
  outFault    : BitVec 4
  /-- Consecutive feedback disagreements per output (R313). -/
  fbBad       : List (Nat × Nat)
  /-- Restart pending per output (R312). -/
  restart     : BitVec 4
  /-- The full-reset hold of R295. -/
  resetHold   : Bool
  /-- The hush request is raised; its withdrawal waits for the 40 Truss cycles of R295. -/
  hushReq     : Bool
  withdraw    : Bool
  /-- Root tick at which the commanded DARK_N level last changed, and whether its release waits for the 10 µs minimum (R304). -/
  darkTick    : Nat
  darkRel     : Bool
  /-- DARK_N readback: consecutive READBACK samples at which the ball differed (R304). -/
  darkBad     : Nat
  /-- The DARKREQ hold stands: the bit reads 1, or checks that R293 asks for have not passed since it was cleared. -/
  darkHold    : Bool
  /-- An R293 field was changed under the standing DARKREQ hold; any RWK field was changed, or the budget banks were
  swapped, since the last ARM checks (R293, R296). -/
  rwkUnder    : Bool
  rwkSince    : Bool
  armDue      : ArmDue
  inputs      : List (Nat × TrsInput)
  bankA       : BudBank
  bankB       : BudBank
  /-- Truss's copy of the BUDGET column per epoch: (epoch, per sightline entry (valid, BUDGET)) (R297). -/
  budCopy     : List (Nat × List (Bool × Nat))
  /-- Completed buckets that still stand at one sixteenth of their limit since the last restart of A1 and of A2 (R301). -/
  prime1      : Nat
  prime2      : Nat
  acc1        : List (Nat × Accum)
  acc2        : List (Nat × Accum)
  phase       : TrsPhase
  allowed     : List AllowedFire
  limp        : List LimpFault
  /-- The root-domain watchdog has latched HALT (R460). -/
  wdog        : Bool
deriving DecidableEq, Repr


/-! ### SIL and THM: housekeeping and thermal management (R322 to R346) -/

/-- The internal nodes of the crosspoint that an AX pin can be switched to (R322); `adc` false is SAR0, `src` false EXC0, and the
burnout source delivers 1 uA or, with `high`, 10 uA. -/
inductive XNode where
  | p (adc : Bool)
  | n (adc : Bool)
  | exc (src : Bool)
  | sns (src : Bool)
  | ret
  | bias
  | bo (high : Bool)
deriving DecidableEq, Repr

/-- The setting of an excitation source that is on (R324, R325): mode, value and pins. -/
structure ExcSet where
  volt : Bool
  val  : Nat
  exc  : Nat
  sns  : Nat
  ret  : Nat
deriving DecidableEq, Repr

/-- A slot under way on a converter (R334): the slot, and whether it waits for a held source (R325) or for its partner
converter (R333). -/
structure SlotRun where
  slot    : Nat
  waitExc : Bool
  waitIlv : Bool
  /-- Root tick of the slot's start, and the pins that have clamped during it (R323, R334). -/
  start   : Nat
  clamp   : BitVec 24
deriving DecidableEq, Repr

/-- A slot's result kept until the round ends (R333). -/
structure SlotRes where
  result : Int
  ovr    : Bool
  wb     : Bool
  clamp  : Bool
  nbr    : Bool
  excf   : Bool
  /-- The slot's time ran without a ready reference: nothing was converted (R337). -/
  noref  : Bool
deriving DecidableEq, Repr

/-- The state of Sill beside its registers. -/
structure SilState where
  /-- A round runs; the slots still to run and the slot under way, per converter. -/
  inRound  : Bool
  todo0    : List Nat
  todo1    : List Nat
  run0     : Option SlotRun
  run1     : Option SlotRun
  results  : List (Nat × SlotRes)
  swapReq  : Bool
  /-- REFEN is powered and REFRDY has not fallen since (R337). -/
  refWait  : Bool
  /-- An injected request is pending (R335), and calibration requests wait per converter (R338). -/
  injPend  : Bool
  calPend  : BitVec 2
  /-- The input codes of the injected conversion, as its request brought them, and its burnout pins, which stay connected (R335). -/
  injP     : Nat
  injN     : Nat
  injBo    : List (Nat × XNode)
  /-- Root tick at which the calibration run under way began (R338). -/
  calAt    : Nat
  /-- The crosspoint: every AX pin that is switched to a node, with that node (R322). -/
  xp       : List (Nat × XNode)
  /-- What the sources EXC0 and EXC1 deliver; none while a source is off (R325). -/
  exc0     : Option ExcSet
  exc1     : Option ExcSet
deriving DecidableEq, Repr

/-- A thermal sensor beside its register (R340, R341): last valid reading in 0.125 degrees, consecutive invalid ticks. -/
structure ThmSensor where
  last : Option Int
  bad  : Nat
deriving DecidableEq, Repr

/-- The thermal state of R343, which carries on through a full reset (R346). -/
structure ThmState where
  sensors : List (Nat × ThmSensor)
  lvlL    : Nat
  lvlH    : Nat
  holdL   : Nat
  holdH   : Nat
  shut    : Bool
deriving DecidableEq, Repr


/-! ### PLB: Plumb (R349 to R367) -/

/-- A ramp under way (R352): set number, its length and step, old and new values by unit. -/
structure Ramp where
  set  : Nat
  len  : Nat
  step : Nat
  old  : List (Nat × List Int)
  new  : List (Nat × List Int)
deriving DecidableEq, Repr

/-- A made set waiting for its ramp (R352, R367): its number, values by unit and the root LSB it was ready at. -/
structure CalSet where
  set   : Nat
  vals  : List (Nat × List Int)
  ready : Nat
deriving DecidableEq, Repr

/-- The configuration that a run took at its start: NEV, DTEMP, PERIOD and QUIETT (R369). -/
structure RunCfg where
  nev    : Nat
  dtemp  : Nat
  period : Nat
  quiett : Nat
deriving DecidableEq, Repr

/-- The state of Plumb beside its registers. -/
structure PlbState where
  /-- Code-density counts of the run under way: TDC and its 32 counts; TDCs done or failed (R355, R356). -/
  counts   : List (Nat × List Nat)
  doneTdc  : List Nat
  newFine  : List (Nat × List Int)
  /-- TDCs with a table produced by a run since power-on reset (R354). -/
  made     : List Nat
  /-- Non-pulser events per TDC in the run, the root tick of its start, and the TDCs that the pulser drives in it (R355). -/
  ambient  : List (Nat × Nat)
  cdStart  : Nat
  pulsed   : List Nat
  /-- Root ticks that a TDC has collected for in the run, once it is done (R355). -/
  took     : List (Nat × Nat)
  /-- The configuration that the latest runs of kinds 1 and 3 took; none before the first (R369). -/
  cfgCd    : Option RunCfg
  cfgWf    : Option RunCfg
  /-- Drift samples per group in LSB, newest first (R359), and the applied term dz in 1/16 LSB. -/
  drift    : List (Nat × List Rat)
  dzNow    : List (Nat × Int)
  rampCd   : Option Ramp
  rampRz   : Option Ramp
  waitCd   : Option CalSet
  waitRz   : Option CalSet
  nextCd   : Nat
  nextRz   : Nat
  nextWf   : Nat
  nextHk   : Nat
  next5    : Nat
  /-- Sensor readings at the last run of kinds 1, 3 and 4 (R351). -/
  tempCd   : List Int
  tempWf   : List Int
  tempHk   : Option Int
  /-- RZNOREF has been set for the present absence, per group (R360). -/
  noRef    : List Nat
  /-- Mean arrival difference of the spare per channel (R357), in 1/16 LSB. -/
  spareOfs : List (Nat × Int)
  /-- The interleave set whose bank swap is under way, and whether a converter of the housekeeping run was rejected. -/
  wfDue    : Option Nat
  hkBad    : Bool
  /-- TDCs on a table reinstated from the stored set (R365, PLB_STATUS.STORED), and the last sets of kinds 3 and 4, which survive a
  full reset (R366): OFS, GAIN and SKEW by converter; OFS and GAIN by SAR. -/
  onStored : List Nat
  lastWf   : List (Nat × Int × Int × Int)
  lastHk   : List (Nat × Int × Int)
  /-- The stored calibration set (R365), what record 0x0004 of the settings store holds: fine tables, range-zero terms,
  converter corrections (OFS, GAIN, SKEW) and housekeeping corrections (OFS, GAIN). -/
  storedCd : List (Nat × List Int)
  storedRz : List (Nat × Int)
  storedWf : List (Nat × Int × Int × Int)
  storedHk : List (Nat × Int × Int)
  /-- Channel calibration table in force: HBM address (R361). -/
  chanAddr : Nat
  /-- A newly loaded table and the root LSB its load completed (R361). -/
  chanNew  : Option (Nat × Nat)
  /-- Ramps interrupted by a full reset whose marker is due: kind and set number (R366). -/
  markDue  : List (Nat × Nat)
  /-- Ring directions whose adaptation is due: Dowel pairs (R364). -/
  adapt    : List Nat
deriving DecidableEq, Repr


/-! ### HIF and PUR: host link and DMA (R370 to R406) -/

/-- A buffer posted to a subscriber queue (R385); `bad` marks an entry with a bad field. -/
structure HostBuf where
  addr : Nat
  len  : Nat
  id   : Nat
  bad  : Bool
deriving DecidableEq, Repr

/-- A subscriber queue that is not closed, beside HIF_QSTATE (R383 to R395). -/
structure SubQueue where
  /-- CLASS: best-effort; demotion sets it (R390). -/
  best      : Bool
  channel   : Nat
  vector    : Nat
  coalCnt   : Nat
  coalNs    : Nat
  cqBase    : Nat
  cqLog2    : Nat
  brBase    : Nat
  brLog2    : Nat
  cqHead    : Nat
  filter    : List Byte
  consumed  : Nat
  /-- Next sequence number to examine (R386), and the last one delivered (R389). -/
  scan      : Nat
  delivered : Nat
  /-- Sequence numbers above CONSUMED that have passed the filter, oldest first (R389). -/
  passed    : List Nat
  pi        : Nat
  bufs      : List HostBuf
  /-- Bytes of the first buffer already filled. -/
  offset    : Nat
  /-- Completions written and consumed since creation or resumption, modulo 2^32 (R388). -/
  written   : Nat
  seen      : Nat
  armed     : Bool
  sinceArm  : Nat
  /-- SKIPPED, and the flags owed in the next completion (R387, R390). -/
  skipped   : Nat
  owed      : BitVec 16
  /-- Completions of COUNT 0 owed: their flags (DEMOTED, FILTER, or LAST with CLOSED) and buffer. -/
  notes     : List (BitVec 16 × Nat)
  /-- The QUEUE_CLOSE in progress: its command ring (R392). -/
  closing   : Option Nat
deriving DecidableEq, Repr

/-- A command ring beside its registers (R375 to R382). -/
structure CmdRing where
  /-- Entries fetched in phase order and not yet executed, oldest first. -/
  fetched : List (BitVec 512)
  /-- Completion entries written since the ring was enabled. -/
  written : Nat
  armed   : Bool
  /-- Retained completions, newest first, at most 64: CID, status, result (R382). -/
  done    : List (Nat × Nat × Nat)
  /-- Entries up to PI that a doorbell has announced while Purlin may issue no request: their number and what stands there
  (R373, R376). -/
  unread  : Option (Nat × List (BitVec 512))
deriving DecidableEq, Repr

/-- A bulk descriptor as fetched (R398). -/
structure Desc where
  host  : Nat
  loc   : Nat
  len   : Nat
  op    : Nat
  irq   : Bool
  id    : Nat
  /-- A reserved bit of the entry is set, or LEN, LOCADDR or OP lies outside its range. -/
  bad   : Bool
deriving DecidableEq, Repr

/-- A bulk channel beside its registers (R398 to R401): posted descriptors, oldest first, completions written, armed. -/
structure BulkChan where
  pi      : Nat
  descs   : List Desc
  written : Nat
  armed   : Bool
  /-- STOP asked while a descriptor is in progress (R399). -/
  stopDue : Bool
  /-- Descriptors ended by R373 whose completion waits for bus mastering: identity, RESIDUE, BYTES, IRQ. -/
  owed    : List (Nat × Nat × Nat × Bool)
  /-- Descriptors up to PI that a doorbell has announced while Purlin may issue no request (R373, R376). -/
  unread  : Option (Nat × List (BitVec 256))
deriving DecidableEq, Repr

/-- An EPOCH_COMMIT waiting for an older epoch to be released (R381): ring, CID, epoch, effective time. -/
structure EpochWait where
  ring  : Nat
  cid   : Nat
  epoch : Nat
  time  : Nat
deriving DecidableEq, Repr

/-- The state of the host link beside its registers. -/
structure HifState where
  queues   : List (Nat × SubQueue)
  rings    : List (Nat × CmdRing)
  /-- The MSI-X Enable and Function Mask bits, memory space, bus master enable and the power state D3hot. -/
  msixOn   : Bool
  funcMask : Bool
  memOn    : Bool
  busOn    : Bool
  d3       : Bool
  /-- Max Payload Size and Max Read Request Size as their codes (128 bytes doubled that often), completion timeout range B, and
  10-bit tags (R370). -/
  mps      : BitVec 3
  mrrs     : BitVec 3
  rangeB   : Bool
  tags10   : Bool
  /-- Queue served last per stream channel (R396). -/
  rr       : List (Nat × Nat)
  /-- Staged tables: kind and HBM address of the copy (R380). -/
  staged   : List (Nat × Nat)
  nextArea : Nat
  /-- The waiting EPOCH_COMMIT, and the accepted epoch with its effective device time (R381). -/
  waitCommit : Option EpochWait
  accepted   : Option (Nat × Nat)
  /-- Reads whose completion has been dropped once (R403): ring, or 64 + bulk channel, and the command or descriptor. -/
  redone   : List (Nat × Nat)
  bulk     : List (Nat × BulkChan)
  /-- Bytes written to host memory since PUR_KIB last counted (R406). -/
  bytesOut : Nat
deriving DecidableEq, Repr

/-! ### DWL: Dowel lanes and tie links (R407 to R422) -/

/-- A tie frame (R413): its type byte, header fields, payload, and whether its CRC passes. -/
structure TieFrame where
  typ     : Nat
  orig    : Nat
  dest    : Nat
  hop     : Nat
  lseq    : Nat
  oseq    : Nat
  payload : List Byte
deriving DecidableEq, Repr

/-- A frame kept until it is acknowledged, and how often it has been sent (R415). -/
structure OutFrame where
  frame : TieFrame
  sent  : Nat
deriving DecidableEq, Repr

/-- A tie link (pairs 16 to 19): R413 to R421. -/
structure TieLink where
  up       : Bool
  txSeq    : Nat
  rxSeq    : Nat
  /-- The LSEQ for which a NAK has been sent (R415). -/
  naked    : Option Nat
  out      : List OutFrame
  queue    : List TieFrame
  /-- The neighbour's tie index, hops (255 = none) and PERIOD from HELLO (R414). -/
  nbrIndex : Option Nat
  nbrHops  : Nat
  nbrPer   : Nat
  /-- SYNC exchange (R417): the number of the next SYNC, departures of SYNCs sent (n, t1), the last SYNC received (m, t4)
  and fitted offsets, newest first, at most 16: (own tie time, theta in 2^-8 LSB). -/
  syncN    : Nat
  syncTx   : List (Nat × Nat)
  syncRx   : Option (Nat × Nat)
  fit      : List (Nat × Int)
  /-- The neighbour's theta to the master, in 2^-8 LSB (R414). -/
  nbrTheta : Int
  /-- Injection (R421): frames sent since MODE was set and a frame held for reordering. -/
  injN     : Nat
  heldFr   : Option TieFrame
  /-- Ordered sets' worth of characters sent since the last IDLE set (R408). -/
  noIdle   : Nat
deriving DecidableEq, Repr

/-- A receiver's training result, kept in HBM (R411): CTLE setting, figure of merit, DFE taps. -/
structure Trained where
  ctle : Nat
  fom  : Nat
  dfe  : List Int
deriving DecidableEq, Repr

/-- The state of Dowel beside its registers. -/
structure DwlState where
  links    : List (Nat × TieLink)
  trained  : List (Nat × Trained)
  /-- The five DFE taps in use, by pair (R407, R410, R411). -/
  dfe      : List (Nat × List Int)
  /-- Receivers in training; training asked for by Plumb's lane schedule (R364). -/
  wantTrain : List Nat
  /-- OSEQ of the next originated frame (R413), and per origin the last 256 OSEQ seen (R416). -/
  oseq     : Nat
  seen     : List (Nat × List Nat)
  /-- Frames announced: master frame number and its tie time (R416), and the last boundary fixed, in tie time. -/
  announced : List (Nat × Nat)
  lastBound : Option Nat
  /-- The boundary fixed for the next frame, on the root clock in LSB (R418). -/
  nextBound : Option (Nat × Nat)
  /-- Tie lock was reached while Peg was scanning: alignment waits for a scan stop (R419). -/
  alignDue : Bool
  /-- Frames a ring pair with an injection has sent since its DWL_PTEST was written (R421). -/
  ringInj  : List (Nat × Nat)
  /-- Running disparity of each pair's transmitter behind what it sent last (R408); positive where true. -/
  disp     : List (Nat × Bool)
deriving DecidableEq, Repr

/-! ### FWU and GRT: firmware, settings and security (R423 to R450) -/

/-- The one-time memory that the firmware may set (R423): bits set in the rollback counter, revoked mask, PROGSIG. -/
structure OtpState where
  rollback : Nat
  revoked  : BitVec 4
  progsig  : Bool
deriving DecidableEq, Repr

/-- What Krovent keeps of a checked image (R424): its header bytes 0x000 to 0x35F and its plaintext payload. -/
structure Image where
  header  : List Byte
  payload : List Byte
deriving DecidableEq, Repr

/-- A FW_STAGE in progress (R430): ring, slot, the full image written, its bytes as they go to the flash. -/
structure StageJob where
  ring  : Nat
  cid   : Nat
  slot  : Bool
  image : Image
  bytes : List Byte
deriving DecidableEq, Repr

/-- A live replacement in progress (R438): the ring, the parts asked for and the next cluster to load (32 = the spare
first step is done for all). -/
structure LiveJob where
  ring  : Nat
  cid   : Nat
  parts : Nat
  step  : Nat
deriving DecidableEq, Repr

/-- ROM recovery's image receipt (R444): length announced, bytes accepted, header bytes, ciphertext so far. -/
structure Receipt where
  len    : Nat
  prog   : Nat
  slot   : Bool
  bytes  : List Byte
  failed : Bool
deriving DecidableEq, Repr

/-- The HBM allocation (R19): first address and size of each region, in the order of the table of R19. -/
structure Alloc where
  lookback : Nat × Nat
  capture  : Nat × Nat
  journal  : Nat × Nat
  cluster  : Nat × Nat
  firmware : Nat × Nat
  faultlog : Nat × Nat
  scratch  : Nat × Nat
deriving DecidableEq, Repr

/-- The recovery mailbox of BAR4 (R444). -/
structure Mailbox where
  rcmd  : Nat
  arg0  : Nat
  arg1  : Nat
  busy  : Bool
  res   : Nat
  rprog : Nat
  baud  : Nat
deriving DecidableEq, Repr

/-- The state of firmware, settings and security beside the registers. -/
structure FwuState where
  otp      : OtpState
  /-- The image that runs: none before IMAGE, and in recovery mode. -/
  running  : Option Image
  /-- The image whose Truss section Truss runs (R425). -/
  truss    : List Byte
  /-- Settings have been applied since the last power-on reset, so record 2 is not taken again (R21). -/
  applied  : Bool
  /-- Recovery mode (R444). -/
  recovery : Bool
  receipt  : Option Receipt
  mailbox  : Mailbox
  /-- Decrypted image in the staging area (R430). -/
  staged   : Option Image
  job      : Option StageJob
  live     : Option LiveJob
  /-- A save of Plumb's is held (R442). -/
  plbHeld  : Bool
  /-- The running image parsed every record of the store (R442). -/
  parsed   : Bool
  /-- Slots tried at this start-up (R428). -/
  tried    : List Bool
  /-- Records of the settings in use: type, flags, data (R440). -/
  records  : List (Nat × Nat × List Byte)
  alloc    : Alloc
  uartBaud : Nat
deriving DecidableEq, Repr

/-! ### FLT: fault log (R461 to R469) -/

/-- A report on its way to the fault log unit (R461). -/
structure Report where
  src    : Nat
  code   : Nat
  sev    : Nat
  unit   : Nat
  detail : BitVec 64
  time   : Time
deriving DecidableEq, Repr

/-- A fault log entry, open or written (R462); ESEQ is given when the entry is written, the CRC when it is read. -/
structure FltEntry where
  eseq      : Nat
  first     : Time
  last      : Time
  count     : Nat
  src       : Nat
  code      : Nat
  sev       : Nat
  flags     : BitVec 8
  unitFirst : Nat
  dFirst    : BitVec 64
  unitLast  : Nat
  dLast     : BitVec 64
  dropped   : Nat
  resets    : Nat
deriving DecidableEq, Repr

/-- The fault log unit: the 64-entry report FIFO (R464), the table of open entries, oldest first (R463), the write
queue and the writer's pace of one entry per 50 ns (R464), the ring of written entries, oldest first (R465), the HBM
error bookkeeping of R453, R454 and R458, the lifetime sums of R469 and the injections waiting to act (R467). -/
structure FltState where
  fifo       : List Report
  opens      : List FltEntry
  wq         : List FltEntry
  wbusy      : Nat
  ring       : List FltEntry
  nextSeq    : Nat
  dropPend   : Nat
  /-- Corrected errors per HBM row: the root tick of each, newest first (R453). -/
  rowErrs    : List (Nat × List Nat)
  /-- Rows whose sparing is due, each with the word whose error made it so. -/
  rowDue     : List (Nat × Nat)
  /-- Rows spared since power-on reset (R453), and those made permanent at HBM_TRAIN. -/
  spared     : List Nat
  permanent  : List Nat
  /-- Words of HBM that hold symbol errors: word index (address / 32) and the number of wrong symbols (R452). -/
  badWords   : List (Nat × Nat)
  /-- Root ticks of the latest uncorrectable words, per HBM channel (R458). -/
  uncTicks   : List (Nat × List Nat)
  /-- Sums and count of thermal ticks for the means of R469, and the lowest LMAX since the last thermal cycle. -/
  sumL       : Int
  sumH       : Int
  nTicks     : Nat
  lowL       : Option Int
  hotMs      : Nat
  /-- Symbol errors waiting for the next write to an HBM word: (word index, symbols) (R467, kinds 1 and 2). -/
  injWords   : List (Nat × Nat)
  /-- Words that an injection made wrong and no read has found yet (R467: INJDONE at detection). -/
  injFound   : List Nat
  /-- Engines that fault at their next work item (R467, kind 3). -/
  injEngines : List Nat
  /-- The next inbound host-path packet gets an uncorrectable Lath word (R467, kind 9). -/
  injLath    : Bool
  /-- Ring directions forced to IDLE and not yet detected, and the root tick at which each forced pair sends again: Dowel pairs
  (R467, kind 10). -/
  injIdle    : List Nat
  idleTill   : List (Nat × Nat)
  /-- The active management core's heartbeat has been stopped by injection (R467, kind 7). -/
  injHeart   : Bool
  /-- Service of the two management cores: in service, and the failed core under test (R456). -/
  coreUp     : BitVec 2
  coreTest   : Option (Fin 2)
deriving DecidableEq, Repr


/-! ### What leaves the part -/

/-- A character of an emitter ring (R91): an 8b/10b data character, or a control character where bit 8 is 1. -/
abbrev RingChar : Type := BitVec 9

/-- Everything that an observer outside the package can see leave it: pins, frames, messages and host memory writes. The
record `State.out` holds it, newest first. -/
inductive Emit where
  /-- A write to host memory by Purlin: address and bytes. -/
  | hostWrite (addr : Nat) (bytes : List Byte)
  /-- An MSI-X message of a vector (R391, R484). -/
  | msix (vector : Nat)
  /-- A status line on the management UART (R60): S, T, C and X. -/
  | line (stage ms cause detail : Nat)
  /-- The torque port's 32-bit frame (R67). -/
  | torque (word : Word)
  /-- A code loaded into the tilt DAC (R69). -/
  | tiltDac (code : Int)
  /-- DARK_N driven low or high (R304). -/
  | darkN (high : Bool)
  /-- CLKREQ_N driven low, or released (R498). -/
  | clkreqN (low : Bool)
  /-- A telemetry read on PMBus from a regulator address (R38). -/
  | pmbusRead (addr : Nat)
  /-- SOUT[k] commanded on or off, or pulsed off (R312, R313). -/
  | sout (k : Nat) (on : Bool)
  | soutPulse (k : Nat)
  /-- Characters on an emitter ring (R91, R92): a frame with its fill and the IDLE set behind it, or ordered sets; `dirs` is 1 for
  CW, 2 for CCW, 3 for both. -/
  | ring (r dirs : Nat) (chars : List RingChar)
  /-- So many copies of one ordered set in a row (R113). -/
  | ringSets (r dirs : Nat) (set : List RingChar) (n : Nat)
  /-- The 10-bit symbols that a pair's transmitter sends (R408). -/
  | lane (p : Nat) (syms : List (BitVec 10))
  /-- The training pattern starts on a pair's transmitter (R410): the characters `trainChar` 0, 1, 2 and so on. -/
  | training (p : Nat)
  /-- The copy of a ring frame that a pair has sent with bit 0 of its last CRC byte inverted (R421). -/
  | ringCorrupt (pair seq : Nat)
  /-- Tie link output: a frame, an acknowledgement, a NAK, a SYNC (R412, R413). -/
  | tie (link : Nat) (frame : TieFrame)
  | tieCorrupt (link : Nat) (frame : TieFrame)
  | tieAck (link : Nat) (seq : Nat)
  | tieNak (link : Nat) (seq : Nat)
  | tieSync (link : Nat) (n : Nat)
  /-- The value a register read answers (R474), or that BAR2, BAR4 or JTAG answers. -/
  | regRead (addr : Nat) (value : Nat)
  /-- What a JTAG read of HBM, or a boundary scan of DARK_N and SOUT, shows (R33, R445). -/
  | jtagRead (addr : Nat) (bytes : List Byte)
  | jtagScan (darkN : Bool) (sout : Nat)
  /-- A Completer Abort (R403), Unsupported Request, Configuration Request Retry Status or successful completion. -/
  | abort
  | cfgRetry
  | cfgOk
  /-- The answer to a configuration read (R370). -/
  | cfgData (dword : Nat) (value : Word)
  /-- A reply frame on the UART in ROM recovery mode (R444). -/
  | uartReply (bytes : List Byte)
  /-- An excitation source of Sill switched on with a setting, or off (R325). -/
  | excite (src : Bool) (set : Option ExcSet)
deriving DecidableEq, Repr

/-! ### The state -/

/-- The whole machine. -/
structure State where
  /-- Register fields whose value differs from their reset value, by bit address in BAR0 (R48, R476 to R480). -/
  regs    : List (Nat × Nat)
  /-- High words that a read of a LO register has latched, by BAR0 offset of the HI register (R243, R466, R474). -/
  latch   : List (Nat × Nat)
  clk     : ClkState
  boot    : BootState
  tnn     : TnnState
  btn     : BtnState
  peg     : PegState
  krf     : KrfState
  jst     : JstState
  jnl     : JnlState
  lbk     : LbkState
  wfp     : WfpState
  dog     : DogState
  trs     : TrsState
  sil     : SilState
  thm     : ThmState
  plb     : PlbState
  hif     : HifState
  dwl     : DwlState
  fwu     : FwuState
  flt     : FltState
  /-- HBM bytes that differ from 0 (R15, R19), outside the regions held as structured state. -/
  hbm     : List Host.Cell
  /-- Boot flash bytes that differ from the erased value 0xFF (R57). -/
  flash   : List Host.Cell
  /-- What has left the part, newest first (the model's own field). -/
  out     : List Emit
  /-- The counter that picks free values (the model's own field). -/
  fresh   : Nat
  /-- Commands waiting, first in, first out (the model's own field). -/
  pending : List Instr
deriving DecidableEq, Repr

/-- Why a step stops with a fault: no command of this block does, so there is no reason. -/
inductive Fault where
deriving DecidableEq, Repr

/-- Why a step is refused. -/
inductive Refusal where
  /-- A command without a meaning, rejected by name in the dispatch table. Safe: nothing can be proved of it. -/
  | notModelled (mnemonic : String)
deriving DecidableEq, Repr



/-! ### The state right after power-on reset -/

/-- The default allocation of R19. -/
def Alloc.default : Alloc :=
  { lookback := (0x00_0000_0000, 40 * 2 ^ 30), capture := (0x0A_0000_0000, 32 * 2 ^ 30)
    journal := (0x12_0000_0000, 8 * 2 ^ 30), cluster := (0x14_0000_0000, 8 * 2 ^ 30)
    firmware := (0x16_0000_0000, 2 ^ 30), faultlog := (0x16_4000_0000, 2 ^ 28)
    scratch := (0x16_5000_0000, 0x18_0000_0000 - 0x16_5000_0000) }

/-- The clock plant before the first root PLL locks (R43). -/
def ClkState.reset : ClkState :=
  { running := false, ticks := 0, devTime := 0, porTicks := 0, holdRun := false, holdAge := 0, holdDone := false
    freqs := [], lastPps := none, pend := .none, afterSet := false }

/-- Start-up at the rising edge of PORN_N, with BOOTSEL read as 0 and the reset pins high (R56, R58). -/
def BootState.reset : BootState :=
  { pornLow := false, powered := true, bootsel := 0, ignoreSel := false, fullrstHi := true, perstHi := true
    inReset := false, fast := false, trained := false, selfRef := false, wasRun := false, imageOk := false
    rstLsb := 0, rstTime := 0, linked := false, spinDone := false
    calDone := false, stalled := false, ended := false, clkreqLow := true, gated := false, slotB := false, detail := 0 }

/-- A controller with all memory cleared (R71). -/
def LoopState.zero : LoopState := { i := 0, d := 0, mPrev := 0, rPrev := 0, u := 0 }

/-- Tenon after reset. -/
def TnnState.reset : TnnState :=
  { count := 0, edgeTick := 0, interval := 0, reverse := false, indexSeen := false, indexTick := 0
    phaseLoop := false, sp := .zero, tl := .zero, setpoint := 0, blend0 := 0, blendN := 2500, capN := 0
    captured := false, lockN := 0, seq := 0, portQuiet := true, spinTimer := false, tlBad := 0
    tlTrip := false, spOk := false, tlOk := false, encErr := false, inj := none, cap := none
    fall := false, spSwap := false, tlSwap := false, tlSwapDue := false, retSp := 0, retTl := 0, retDem := 0
    smpLsb := 0, smpPhi := 0, smpSpeed := 0, smpTilt := 0, smpValid := false, smpFacet := 0, engage := false, dac := 0, tlAge := 0 }

/-- Batten after reset. -/
def BtnState.reset : BtnState :=
  { fires := [], drivers := [], rings := [], refMiss := [], readmit := [], windows := []
    winCount := 0, hushing := true, resumed := false, preReset := [], proofs := [], kept := [] }

/-- Peg after reset: no epoch staged, epoch 0 active. -/
def PegState.reset : PegState :=
  { clockOn := false, epochLsb := 0, period := 0, cfgPeriod := 0, epochOld := none, startReq := none, stopReq := false, scanning := false
    ran := false, passed := 0, firstAfter := false, tags := [], bursts := [], shut := [], nextBurst := 0, drivers := []
    lastOpen := [], foreign := [], codebooks := [], epochs := [], active := 0, backlog := [], calMask := 0, lastFrame := 0 }

/-- The engine array after reset. -/
def JstState.reset : JstState :=
  { engines := [], bookings := [], subFor := none, subAt := none, clFault := [], sets := [], waiting := none, staged := none, loadRing := none
    stats := [], nextSet := 1 }

/-- Kerf after reset. -/
def KrfState.reset : KrfState := { chans := [], groups := [], gauges := [], gLast := [], fine := [] }

/-- The journal after power-on reset: empty, with the generation that the random source has drawn (R232). -/
def JnlState.reset : JnlState :=
  { gen := Config.newGen 0, head := 1, ring := [], handed := [], markers := [], wq := 0, mkPend := 0, frames := [] }

/-- The lookback integrator after reset: an empty history (R246). -/
def LbkState.reset : LbkState := { frames := [], lastPose := none, disconts := [], breaks := [], held := 0, early := [] }

/-- The waveform path after reset. -/
def WfpState.reset : WfpState := { lanes := [], corSwap := none, corOlds := [], shots := [] }

/-- Dog after power-on reset: an empty ring, SEQ from 1 (R286). -/
def DogState.reset : DogState := { units := [], ring := [], tail := 0, nextSeq := 1, delivered := false }

/-- An empty budget bank. -/
def BudBank.empty : BudBank := { ndir := 0, entries := [] }

/-- Truss after power-on reset: SAFE, with no budget table and every accumulator empty. -/
def TrsState.reset : TrsState :=
  { keySeq := false, clkFault := false, hbFault := false, memFault := false, kacFault := false, phFault := false, outFault := 0, fbBad := []
    restart := 0, resetHold := true, hushReq := true, withdraw := false, darkTick := 0, darkRel := false
    darkBad := 0, darkHold := false, rwkUnder := false, rwkSince := false, armDue := .none, inputs := [], bankA := .empty, bankB := .empty
    budCopy := [], prime1 := 16, prime2 := 16, acc1 := [], acc2 := []
    phase := { counts := 0, revCnt := 0, revLsb := 0, edgeLsb := 0, indexLsb := 0, seen := false }
    allowed := [], limp := [], wdog := false }

/-- Sill after reset. -/
def SilState.reset : SilState :=
  { inRound := false, todo0 := [], todo1 := [], run0 := none, run1 := none, results := [], swapReq := false
    refWait := false, injPend := false, calPend := 0, injP := 0, injN := 0, injBo := [], calAt := 0, xp := [], exc0 := none
    exc1 := none }

/-- The thermal state after power-on reset (R343). -/
def ThmState.reset : ThmState := { sensors := [], lvlL := 0, lvlH := 0, holdL := 0, holdH := 0, shut := false }

/-- Plumb after power-on reset: set 0 of every kind, nothing made, nothing stored. -/
def PlbState.reset : PlbState :=
  { counts := [], doneTdc := [], newFine := [], made := [], ambient := [], cdStart := 0, pulsed := [], drift := [], dzNow := [], rampCd := none
    rampRz := none, waitCd := none, waitRz := none, nextCd := 1, nextRz := 1, nextWf := 1, nextHk := 1, next5 := 1
    tempCd := [], tempWf := [], tempHk := none, noRef := [], spareOfs := [], wfDue := none, hkBad := false
    storedCd := [], storedRz := [], storedWf := [], storedHk := [], took := [], cfgCd := none, cfgWf := none
    onStored := [], lastWf := [], lastHk := []
    chanAddr := 0, chanNew := none, markDue := [], adapt := [] }

/-- The host link after reset: nothing open, the function not configured. -/
def HifState.reset : HifState :=
  { queues := [], rings := [], msixOn := false, funcMask := false, memOn := false, busOn := false, d3 := false
    mps := 0, mrrs := 2, rangeB := false, tags10 := false, rr := [], staged := [], nextArea := 0, waitCommit := none, accepted := none
    redone := [], bulk := [], bytesOut := 0 }

/-- Dowel after reset. -/
def DwlState.reset : DwlState :=
  { links := [], trained := [], wantTrain := [], oseq := 0, seen := [], announced := [], lastBound := none
    nextBound := none, alignDue := false, ringInj := [], disp := [], dfe := [] }

/-- Firmware and security at power-on: no image runs yet (R58). -/
def FwuState.reset : FwuState :=
  { otp := { rollback := 0, revoked := 0, progsig := false }, running := none, truss := [], applied := false, recovery := false
    receipt := none
    mailbox := { rcmd := 0, arg0 := 0, arg1 := 0, busy := false, res := 0, rprog := 0, baud := 115200 }
    staged := none, job := none, live := none, plbHeld := false, parsed := false, tried := []
    records := [], alloc := .default, uartBaud := 115200 }

/-- The fault log after power-on reset: an empty ring and no open entry (R465). -/
def FltState.reset : FltState :=
  { fifo := [], opens := [], wq := [], wbusy := 0, ring := [], nextSeq := 1, dropPend := 0, rowErrs := []
    rowDue := [], spared := [], permanent := [], badWords := [], uncTicks := [], sumL := 0, sumH := 0, nTicks := 0
    lowL := none, hotMs := 0, injWords := [], injFound := [], injEngines := [], injLath := false, injIdle := [], idleTill := []
    injHeart := false, coreUp := 3, coreTest := none }

/-- The machine right after power-on reset, at stage TRUSS_TEST (R58): every register field at its reset value. -/
def State.reset : State :=
  { regs := [], latch := [], clk := .reset, boot := .reset, tnn := .reset, btn := .reset, peg := .reset, krf := .reset
    jst := .reset, jnl := .reset, lbk := .reset, wfp := .reset, dog := .reset, trs := .reset, sil := .reset
    thm := .reset, plb := .reset, hif := .reset, dwl := .reset, fwu := .reset, flt := .reset
    hbm := [], flash := [], out := [], fresh := 0, pending := [] }

end Sys2Proof.Machine
end

