-- ==== Sys2Proof/Machine/Ops.lean ====
section
/-!
DEFINITION. The named operations over registers, HBM, boot flash, time and the record of what leaves the part. Every
meaning is built from them.
-/
namespace Sys2Proof.Machine

/-- All fields whose reset value is not 0, of every block (R48). -/
def resetTable : List (Nat × Nat × Nat × Nat) :=
  R.resetsGLB ++ R.resetsCLK ++ R.resetsTHM ++ R.resetsKRF ++ R.resetsPEG ++ R.resetsMRT ++ R.resetsJST
    ++ R.resetsJNL ++ R.resetsLBK ++ R.resetsBTN ++ R.resetsTNN ++ R.resetsTRS ++ R.resetsWFP ++ R.resetsDOG
    ++ R.resetsSIL ++ R.resetsPLB ++ R.resetsHIF ++ R.resetsPUR ++ R.resetsDWL ++ R.resetsFWU ++ R.resetsGRT
    ++ R.resetsFLT ++ R.resetsMSIX

/-- The value a table of (key, stride, count, value) rows gives a key; 0 where no row names it. -/
def resetIn : List (Nat × Nat × Nat × Nat) → Nat → Nat
  | [], _ => 0
  | (b, st, n, v) :: r, k =>
    if b ≤ k && (k - b) % st == 0 && decide ((k - b) / st < n) then v else resetIn r k

/-- The reset value of the field with a key. -/
def regReset (k : Nat) : Nat := resetIn resetTable k

/-- SHA-384 of some bytes, as 48 bytes (R205, R426). -/
def sha384 (b : List Byte) : List Byte := leBytes 48 (Config.sha384 b).toNat

/-- The value of a register field. -/
def State.rd (s : State) (f : Fld) : Nat := mapGet (regReset f.key) s.regs f.key

/-- A register field written by the hardware; the value is cut to the field's width. -/
def State.wr (s : State) (f : Fld) (v : Nat) : State :=
  { s with regs := mapSet (regReset f.key) s.regs f.key (v % 2 ^ f.width) }

/-- A one-bit field as a Boolean. -/
def State.on (s : State) (f : Fld) : Bool := s.rd f != 0

/-- A field read as a two's complement number of its width. -/
def State.rdS (s : State) (f : Fld) : Int :=
  let v := s.rd f
  if 2 * v < 2 ^ f.width then (v : Int) else (v : Int) - (2 : Int) ^ f.width

/-- A field written with a two's complement number. -/
def State.wrS (s : State) (f : Fld) (v : Int) : State := s.wr f (v % (2 : Int) ^ f.width).toNat

/-- A one-bit field written with a Boolean. -/
def State.wrB (s : State) (f : Fld) (b : Bool) : State := s.wr f b.toNat

/-- A saturating counter counts `n` more (R478). -/
def State.bump (s : State) (f : Fld) (n : Nat) : State := s.wr f (min (s.rd f + n) (2 ^ f.width - 1))

/-- A wrapping counter counts `n` more. -/
def State.count (s : State) (f : Fld) (n : Nat) : State := s.wr f (s.rd f + n)

/-- A peak field keeps the larger value. -/
def State.peak (s : State) (f : Fld) (v : Nat) : State := s.wr f (max (s.rd f) v)

/-- What leaves the part is recorded, newest first. -/
def State.emit (s : State) (e : Emit) : State := { s with out := e :: s.out }

/-- The root clock's instant in LSB of 9.765625 ps: 512 LSB per 200 MHz cycle (R16). -/
def State.nowLsb (s : State) : Nat := 512 * s.clk.ticks

/-- A signed number as two's complement in `w` bits. -/
def ofIntBits (w : Nat) (v : Int) : Nat := (v % (2 : Int) ^ w).toNat

/-- Device time of a root instant: the present device time moved by the distance in whole nanoseconds
(1 ns = 102.4 LSB, R17), rounded down. -/
def State.timeAt (s : State) (lsb : Nat) : Time :=
  s.clk.devTime + BitVec.ofInt 64 (((lsb : Int) - (s.nowLsb : Int)) * 5 / 512)

/-- One byte of HBM. -/
def State.hbmByte (s : State) (a : Nat) : Byte := mapGet 0 s.hbm a

/-- `n` bytes of HBM from an address upwards. -/
def State.hbmBytes (s : State) (a : Nat) : Nat → List Byte
  | 0 => []
  | n + 1 => s.hbmByte a :: s.hbmBytes (a + 1) n

/-- Bytes stored upwards from an address of a sparse byte store. -/
def storeBytes (d : Byte) (m : List (Nat × Byte)) (a : Nat) : List Byte → List (Nat × Byte)
  | [] => m
  | b :: r => storeBytes d (mapSet d m a b) (a + 1) r

/-- The size of HBM: 96 GiB (R15). -/
def hbmSize : Nat := 96 * 2 ^ 30

/-- One byte of the boot flash; an erased byte reads 0xFF. -/
def State.flashByte (s : State) (a : Nat) : Byte := mapGet 0xFF s.flash a

/-- `n` bytes of the boot flash. -/
def State.flashBytes (s : State) (a : Nat) : Nat → List Byte
  | 0 => []
  | n + 1 => s.flashByte a :: s.flashBytes (a + 1) n

/-- A conditional effect. -/
def State.when (s : State) (c : Bool) (f : State → State) : State := if c then f s else s

/-- A free value of the machine: an uninterpreted constant applied to a counter that the step advances. -/
def State.draw (s : State) : State := { s with fresh := s.fresh + 1 }

end Sys2Proof.Machine
end

