-- ==== Sys2Proof/Machine/Coding.lean ====
section
/-!
DEFINITION. The 8b/10b code of the lanes with its running disparity (R408). PRESUMED (log 163): the code's tables are those of the
8b/10b standard; the spec names the code only. A symbol's first bit on the line is its most significant one.
-/
namespace Sys2Proof.Machine

/-- The 5b/6b column of negative disparity, by the low five bits of a data character. -/
def code6 : List Nat :=
  [0b100111, 0b011101, 0b101101, 0b110001, 0b110101, 0b101001, 0b011001, 0b111000,
   0b111001, 0b100101, 0b010101, 0b110100, 0b001101, 0b101100, 0b011100, 0b010111,
   0b011011, 0b100011, 0b010011, 0b110010, 0b001011, 0b101010, 0b011010, 0b111010,
   0b110011, 0b100110, 0b010110, 0b110110, 0b001110, 0b101110, 0b011110, 0b101011]

/-- The 3b/4b column of negative disparity of data characters, by the high three bits. -/
def code4 : List Nat := [0b1011, 0b1001, 0b0101, 0b1100, 0b1101, 0b1010, 0b0110, 0b1110]

/-- The 3b/4b column of negative disparity of control characters. -/
def code4k : List Nat := [0b1011, 0b0110, 0b1010, 0b1100, 0b1101, 0b0101, 0b1001, 0b0111]

/-- The ones of a block. -/
def onesOf (v n : Nat) : Nat := ((List.range n).filter (fun i => v.testBit i)).length

/-- A block of `n` bits for a running disparity (true is positive): its column's complement where the block is not balanced, or is one
of the balanced blocks that alternate; the answer's second part is the disparity behind it. -/
def blockFor (v n : Nat) (alt rd : Bool) : Nat × Bool :=
  let even := 2 * onesOf v n == n
  (if rd && (!even || alt) then 2 ^ n - 1 - v else v, if even then rd else !rd)

/-- One character coded with the running disparity before it: the symbol and the disparity behind it. -/
def encode10 (rd : Bool) (c : RingChar) : BitVec 10 × Bool :=
  let v := c.toNat % 256
  let x := v % 32
  let y := v / 32
  let k := c.getLsbD 8
  let (a, r1) := blockFor (if k && x == 28 then 0b001111 else code6.getD x 0) 6 (x == 7 && !k) rd
  let a7 := y == 7 && (if r1 then x == 11 || x == 13 || x == 14 else x == 17 || x == 18 || x == 20)
  let (b, r2) := if k then blockFor (code4k.getD y 0) 4 true r1
    else blockFor (if a7 then 0b0111 else code4.getD y 0) 4 (y == 3) r1
  (BitVec.ofNat 10 (16 * a + b), r2)

/-- Characters coded one behind the other. -/
def encodeAll (rd : Bool) : List RingChar → List (BitVec 10) × Bool
  | [] => ([], rd)
  | c :: r =>
    let (x, rd1) := encode10 rd c
    let (l, rd2) := encodeAll rd1 r
    (x :: l, rd2)

/-- One step of the PRBS-31 generator x^31 + x^28 + 1, and the bit that it puts out (R410). -/
def prbsStep (r : BitVec 31) : BitVec 31 × Bool :=
  let fed := r.getLsbD 30 ^^ r.getLsbD 27
  ((r <<< 1) ||| (if fed then 1 else 0), if Config.prbsFedIn then fed else r.getLsbD 30)

/-- The next eight bits of the generator as a data character. -/
def prbsByte (r : BitVec 31) : BitVec 31 × Byte :=
  (List.range 8).foldl (fun (a : BitVec 31 × Byte) i =>
    let (r1, b) := prbsStep a.1
    (r1, if b then a.2 ||| (1#8 <<< (if Config.prbsLsbFirst then i else 7 - i)) else a.2)) (r, 0)

/-- The generator after n characters, from a seed of all ones (R410). -/
def prbsAt : Nat → BitVec 31
  | 0 => BitVec.allOnes 31
  | n + 1 => (prbsByte (prbsAt n)).1

/-- A pair that an injection makes send IDLE only (R467, kind 10). -/
def State.idles (s : State) (p : Nat) : Bool := decide (s.clk.ticks < mapGet 0 s.flt.idleTill p)

/-- What leaves on a ring: the directions that carry it, 1 for CW, 2 for CCW, 3 for both, but those that send IDLE only. -/
def State.ringOut (s : State) (r dirs : Nat) (e : Nat → Emit) : State :=
  let d := (if s.idles (2 * r) then 0 else dirs % 2) + (if s.idles (2 * r + 1) then 0 else 2 * (dirs / 2))
  if d = 0 then s else s.emit (e d)

/-- Characters leave the transmitter of a pair, coded, inverted under TXPOL (R408, R409). The disparity they begin with is that behind what the pair sent last,
turned by each IDLE set of the fill in between; how many sets that fill had is a free value. -/
def State.laneOut (s : State) (p : Nat) (chars : List RingChar) : State :=
  if s.idles p then s else
  let rd := mapGet false s.dwl.disp p != Config.idleOdd s.fresh
  let (syms, rd') := encodeAll rd chars
  (({ s with dwl := { s.dwl with disp := mapSet false s.dwl.disp p rd' } } : State).emit
    (.lane p (if s.on (R.DWL_PCFG_TXPOL p) then syms.map (~~~·) else syms))).draw

end Sys2Proof.Machine
end

