-- ==== Sys2Proof/Machine/Flags.lean ====
section
/-!
DEFINITION. Status flags and what follows from them: the INTSTAT and INTEN registers of every block, the reports to the
fault log unit (R461, R464), MSI-X messages (R391, R405) and the global summary message (R484).
-/
namespace Sys2Proof.Machine

/-- Source code, INTSTAT offset, INTEN offset and INTEN width of every block that has flags (R461, R473). -/
def flagTable : List (Nat × Nat × Nat × Nat) :=
  [(0, 0x30, 0x34, 4), (1, 0x10024, 0x10028, 5), (2, 0x20020, 0x20024, 7), (3, 0x40014, 0x40018, 10),
   (4, 0x80070, 0x80074, 8), (5, 0xC0030, 0xC0034, 3), (6, 0x100060, 0x100064, 9), (7, 0x180060, 0x180064, 9),
   (8, 0x1C0040, 0x1C0044, 9), (9, 0x200024, 0x200028, 16), (10, 0x240080, 0x240084, 13),
   (11, 0x2800B0, 0x2800B4, 11), (12, 0x2C0014, 0x2C0018, 5), (13, 0x300028, 0x30002C, 5),
   (14, 0x340024, 0x340028, 11), (15, 0x380030, 0x380034, 11), (16, 0x3C0030, 0x3C0034, 8),
   (17, 0x400010, 0x400014, 5), (18, 0x440020, 0x440024, 9), (19, 0x480030, 0x480034, 6),
   (20, 0x4C0020, 0x4C0024, 2), (21, 0x5000D0, 0x5000D4, 11)]

/-- The fault log source of a flag: the index of the block whose INTSTAT register holds it (R461). -/
def srcOf (f : Fld) : Nat :=
  match flagTable.find? (fun r => r.2.1 == f.key / 32 * 4) with
  | some r => r.1
  | none => 0

/-- A status flag is set; it stays set until host software clears it (R12). -/
def State.flag (s : State) (f : Fld) : State := s.wr f 1

/-- A report enters the 64-entry FIFO of the fault log unit, or is dropped and counted (R464). -/
def State.report (s : State) (src code sev unit : Nat) (detail : BitVec 64) : State :=
  if s.flt.fifo.length < 64 then
    { s with flt := { s.flt with fifo := s.flt.fifo ++
        [{ src := src, code := code, sev := sev, unit := unit, detail := detail, time := s.clk.devTime }] } }
  else
    (({ s with flt := { s.flt with dropPend := s.flt.dropPend + 1 } } : State).bump R.FLT_OVERFLOW_CNT 1).flag
      R.FLT_INTSTAT_OVERFLOW

/-- Detail bytes that a chapter does not state are free. -/
def State.reportFree (s : State) (src code sev unit : Nat) : State :=
  s.report src code sev unit (Config.freeDetail src code unit)

/-- The detail of an injected fault: byte 7 is 0xFF (R467), the other bytes are not stated. -/
def injDetail (src code unit : Nat) : BitVec 64 :=
  (Config.freeDetail src code unit &&& 0x00FFFFFFFFFFFFFF#64) ||| 0xFF00000000000000#64

/-- An injected fault is reported and INJDONE is set (R467). -/
def State.reportInj (s : State) (src code sev unit : Nat) : State :=
  (s.report src code sev unit (injDetail src code unit)).flag R.FLT_INTSTAT_INJDONE

/-- A flag is set and its event reported: the code of a register-block source is the flag's bit number (R461). -/
def State.fault (s : State) (f : Fld) (sev unit : Nat) : State :=
  (s.flag f).reportFree (srcOf f) (f.key % 32) sev unit

/-- The same for a fault that an injection caused. -/
def State.faultInj (s : State) (f : Fld) (sev unit : Nat) (inj : Bool) : State :=
  if inj then (s.flag f).reportInj (srcOf f) (f.key % 32) sev unit else s.fault f sev unit

/-- A refused write: the block's BADCFG flag is set and logged as a refusal (severity 1, R461). -/
def State.refuse (s : State) (f : Fld) : State := s.fault f 1 0

/-- The interrupt condition of a block: a bit set in both its INTSTAT and its INTEN register (R480). -/
def State.blockIrq (s : State) (r : Nat × Nat × Nat × Nat) : Bool :=
  let en := s.rd ⟨8 * r.2.2.1, r.2.2.2⟩
  en != 0 && (List.range r.2.2.2).any (fun k => en.testBit k && s.on ⟨8 * r.2.1 + k, 1⟩)

/-- GLB_INTSUM, computed afresh from the blocks' flags (R484). -/
def State.intSum (s : State) : Nat :=
  (flagTable.map (fun r => if s.blockIrq r then 2 ^ r.1 else 0)).sum

/-- An MSI-X message of a vector is sent; a masked vector sets its pending bit instead (R391). -/
def State.msix (s : State) (v : Nat) : State :=
  if s.hif.msixOn && s.hif.busOn && !s.hif.d3 && !s.hif.funcMask && !s.on (R.MSIX_MASK v) && s.rd R.HIF_STATUS_SPEED != 0
  then s.emit (.msix v) else s.wr (R.MSIX_PENDING v) 1

/-- The masked summary of R484. -/
def State.summary (s : State) : Nat := s.intSum &&& s.rd R.GLB_SUMEN_EN

/-- The summary message is sent in the first cycle in which it is armed, enabled and not zero (R484). -/
def State.settle (s : State) : State :=
  if s.on R.GLB_INTCTL_ARMED && s.on R.HIF_CTL_GVECEN && s.summary != 0 then
    (s.msix (s.rd R.HIF_CTL_GVEC)).wr R.GLB_INTCTL_ARMED 0
  else s

/-- The outcome of a command that has an effect: the next state, once the summary has settled. -/
def State.done (s : State) : Host.Outcome State Fault Refusal := .next s.settle

end Sys2Proof.Machine
end

