-- ==== Sys2Proof/Machine/Journal.lean ====
section
/-!
DEFINITION. The output journal (R218 to R241): markers and their payloads, order keys, sequence numbers, acceptance and
refusal, and the commit of whatever has its place.
-/
namespace Sys2Proof.Machine

/-! ### Flags words and markers -/

/-- The TDC that serves a channel: its own, or its group's spare, numbered 1024 + group (R161). -/
def State.servingTdc (s : State) (ch : Nat) : Nat :=
  if s.on (R.KRF_CHSTAT_SPARE ch) then 1024 + ch / 32 else ch

/-- A ramp stands at a step between 1 and RAMPFR - 1 (R354). -/
def Ramp.mid (r : Option Ramp) : Bool :=
  match r with
  | some r => decide (1 ≤ r.step) && decide (r.step < r.len)
  | none => false

/-- The unit of a ramp: the TDC or group is part of the set. -/
def Ramp.has (r : Option Ramp) (u : Nat) : Bool :=
  match r with
  | some r => r.new.any (fun p => p.1 == u)
  | none => false

/-- Flag bit 2 of a channel (R354). -/
def State.calFlag (s : State) (ch : Nat) : Bool :=
  let t := s.servingTdc ch
  (Ramp.mid s.plb.rampCd && Ramp.has s.plb.rampCd t) || (Ramp.mid s.plb.rampRz && Ramp.has s.plb.rampRz (ch / 32))
    || !s.plb.made.contains t

/-- Flag bit 2 of a marker: it holds for any channel (R354). -/
def State.calAny (s : State) : Bool := (List.range 1024).any s.calFlag

/-- The throttle level L (R343). -/
def State.throttle (s : State) : Nat := s.rd R.THM_STATUS_LEVEL

/-- Truss is in LIMP (R294). -/
def State.inLimp (s : State) : Bool := s.rd R.TRS_STATE_STATE == 2

/-- A flags word: timebase state, calibration flag, throttle and limp (R218, R226). -/
def State.flagsWord (s : State) (cal : Bool) : BitVec 16 :=
  BitVec.ofNat 16 (s.rd R.CLK_STATUS_TBSTATE + (if cal then 4 else 0) + (if 1 ≤ s.throttle then 32 else 0)
    + (if s.inLimp then 64 else 0))

/-- A marker is raised at an instant of the root clock, with the device time it shows and its payload bytes from byte 17
on (R226, R227). It waits for its place. -/
def State.raiseMarker (s : State) (instant : Nat) (time : Time) (kind : Nat) (payload : List Byte) (frame : Nat) : State :=
  let m : Marker :=
    { instant := instant, time := time, kind := kind, payload := BitVec.ofNat 88 (leNat payload),
      flags := s.flagsWord s.calAny, frame := frame }
  { s with jnl := { s.jnl with markers := s.jnl.markers ++ [m] } }

/-- A marker raised now. -/
def State.markNow (s : State) (kind : Nat) (payload : List Byte) : State :=
  s.raiseMarker s.nowLsb s.clk.devTime kind payload 0

/-- A timebase change marker (R227, kind 6): new and previous state, cause, signed step in ns. -/
def State.markTimebase (s : State) (new prev cause : Nat) (step : Int) : State :=
  s.markNow 6 (leBytes 1 new ++ leBytes 1 prev ++ leBytes 1 cause ++ leBytes 8 (ofIntBits 64 step))

/-- A calibration applied marker (R227, kind 4; R353). -/
def State.markCal (s : State) (kind set : Nat) (start stop : Bool) (len : Nat) : State :=
  s.markNow 4 (leBytes 1 kind ++ leBytes 2 set ++ leBytes 1 (start.toNat + 2 * stop.toNat) ++ leBytes 2 len)

/-- The tally of a frame (R227, R237). -/
def State.frameStat (s : State) (f : Nat) : FrameStat :=
  mapGet { refused := 0, dropped := 0, incomplete := false, byReset := false } s.jnl.frames f

/-- A change of a frame's tally. -/
def State.tally (s : State) (f : Nat) (g : FrameStat → FrameStat) : State :=
  let z : FrameStat := { refused := 0, dropped := 0, incomplete := false, byReset := false }
  { s with jnl := { s.jnl with frames := mapSet z s.jnl.frames f (g (s.frameStat f)) } }

/-- A burst of the frame ended without a record under R212, R215 or R169, or was discarded by a reset (R237). -/
def State.tallyIncomplete (s : State) (f : Nat) : State := s.tally f (fun t => { t with incomplete := true })

/-- A burst was dropped: its work item found no engine (R215, R227). -/
def State.tallyDropped (s : State) (f : Nat) : State :=
  s.tally f (fun t => { t with incomplete := true, dropped := t.dropped + 1 })

/-- The payload of a frame end marker, taken when it is committed (R227). -/
def frameEndPayload (f : Nat) (t : FrameStat) : List Byte :=
  leBytes 4 f ++ leBytes 1 ((t.incomplete || t.byReset || decide (t.refused ≠ 0)).toNat + 2 * t.byReset.toNat
    + (if t.refused = 0 then 0 else 4) + (if t.dropped = 0 then 0 else 8))
    ++ leBytes 3 (min t.refused 16777215) ++ leBytes 3 (min t.dropped 16777215)

/-! ### Sequence numbers and room -/

/-- a - b on the 48-bit count (R232). -/
def seqSub (a b : Nat) : Nat := (a + (2 ^ 48 - b % 2 ^ 48)) % 2 ^ 48

/-- The number after n; 0 is skipped (R232). -/
def seqNext (n : Nat) : Nat := if (n + 1) % 2 ^ 48 = 0 then 1 else (n + 1) % 2 ^ 48

/-- CAP (R233). -/
def State.jnlCap (s : State) : Nat := s.rd R.JNL_CAP_CAP

/-- JNL_RESERVE as it acts (R243). -/
def State.jnlReserve (s : State) : Nat := min (max (s.rd R.JNL_RESERVE_SLOTS) 4096) (s.jnlCap / 16)

/-- JNL_RESUME as it acts (R243). -/
def State.jnlResume (s : State) : Nat := max (s.rd R.JNL_RESUME_SLOTS) 1

/-- H(q): the oldest number above CONSUMED that has passed the filter, or the scan position (R389). -/
def SubQueue.hold (q : SubQueue) : Nat :=
  match q.passed with
  | n :: _ => n
  | [] => q.scan

/-- The release point: the oldest number that some reliable subscriber has not consumed; the head without one (R233). -/
def State.release (s : State) : Nat :=
  s.hif.queues.foldl (fun r p =>
    if p.2.best then r else if seqSub s.jnl.head r < seqSub s.jnl.head p.2.hold then p.2.hold else r) s.jnl.head

/-- USED: head - release point (R243). -/
def State.jnlUsed (s : State) : Nat := seqSub s.jnl.head s.release

/-- JNL_USE is live; JNL_PEAK keeps its largest value. -/
def State.jnlPeak (s : State) : State := s.peak R.JNL_PEAK_USED s.jnlUsed

/-- The journal is full for points: head - release point has reached CAP - JNL_RESERVE (R234). -/
def State.jnlFull (s : State) : Bool := decide (s.jnlCap ≤ s.jnlUsed + s.jnlReserve)

/-- From the instant at which the journal is full for points it refuses (R234). -/
def State.fullBegins (s : State) : State :=
  if s.jnlFull && !s.on R.JNL_STATUS_REFUSING then (s.wr R.JNL_STATUS_REFUSING 1).fault R.JNL_INTSTAT_FULL 1 0 else s

/-- A best-effort queue that the head would overwrite within 65,536 commits skips to head - CAP / 2 (R390). -/
def SubQueue.overtake (q : SubQueue) (head cap : Nat) : SubQueue :=
  if q.best && decide (cap ≤ seqSub head q.scan + 65536) then
    let dest := seqSub head (cap / 2)
    { q with scan := dest, skipped := q.skipped + seqSub dest q.scan, owed := q.owed ||| 4 }
  else q

/-- One record takes the next sequence number and its slot (R232, R233). -/
def State.commitRec (s : State) (r : Rec) : State :=
  let n := s.jnl.head
  let slot := n % max s.jnlCap 1
  let word := s.fwu.alloc.journal.1 / 32 + slot
  let bad := mapGet 0 s.flt.injWords word
  let j : JnlState :=
    { s.jnl with head := seqNext n, wq := s.jnl.wq + 25,
                 ring := mapIns (mapErase s.jnl.ring slot) slot { r with seq := n } }
  let f : FltState :=
    { s.flt with badWords := mapSet 0 s.flt.badWords word bad, injWords := mapErase s.flt.injWords word,
                 injFound := if bad = 0 then s.flt.injFound else word :: s.flt.injFound }
  let s1 : State := { s with jnl := j, flt := f }
  let qs := s1.hif.queues.map (fun p => (p.1, p.2.overtake s1.jnl.head s1.jnlCap))
  let s2 : State := { s1 with hif := { s1.hif with queues := qs } }
  (s2.bump R.JNL_COMMITS_CNT 1).jnlPeak.fullBegins

/-! ### Order and commit -/

/-- Tie order of the marker kinds (R227). -/
def tieOrder (kind : Nat) : Nat :=
  match kind with
  | 2 => 1
  | 6 => 2
  | 5 => 3
  | 4 => 4
  | 3 => 5
  | _ => 6

/-- Lexicographic order of keys (R228); a marker follows the records of its instant (R229). -/
def keyLt (a b : Nat × Nat × Nat × Nat) : Bool :=
  decide (a.1 < b.1) || (a.1 == b.1 && (decide (a.2.1 < b.2.1) || (a.2.1 == b.2.1 &&
    (decide (a.2.2.1 < b.2.2.1) || (a.2.2.1 == b.2.2.1 && decide (a.2.2.2 < b.2.2.2))))))

/-- Order key of a handed-over burst. -/
def Handed.key (h : Handed) : Nat × Nat × Nat × Nat := (h.instant, 0, h.channel, h.order)

/-- Order key of a marker. -/
def Marker.key (m : Marker) : Nat × Nat × Nat × Nat := (m.instant, 1, tieOrder m.kind, 0)

/-- Order key of a burst that is not resolved. -/
def Burst.key (b : Burst) : Nat × Nat × Nat × Nat := (b.closeLsb, 0, b.channel, b.num)

/-- A burst that has not handed over its records and still takes a place in the order (R230); a listen burst leaves none
(R135). -/
def Burst.blocks (b : Burst) : Bool := b.stage != .handed && b.kind != .listen

/-- Some unresolved burst has a lower key (R230). -/
def State.blocked (s : State) (k : Nat × Nat × Nat × Nat) : Bool :=
  s.peg.bursts.any (fun b => b.blocks && keyLt b.key k)

/-- The same, by a burst that is being run again (R230, JNL_HELDCNT). -/
def State.blockedByRerun (s : State) (k : Nat × Nat × Nat × Nat) : Bool :=
  s.peg.bursts.any (fun b => b.blocks && b.rerun && keyLt b.key k)

/-- A burst handed over with records is held behind a re-run and has not been counted yet. -/
def State.newlyHeld (s : State) (h : Handed) : Bool := !h.held && !h.recs.isEmpty && s.blockedByRerun h.key

/-- Bursts that have come to be held behind a re-run are counted, each once (R230, R243). -/
def State.countHeld (s : State) : State :=
  let n := (s.jnl.handed.filter s.newlyHeld).length
  if n = 0 then s
  else
    let l := s.jnl.handed.map (fun h => if s.newlyHeld h then { h with held := true } else h)
    (({ s with jnl := { s.jnl with handed := l } } : State).bump R.JNL_HELDCNT_CNT n).flag R.JNL_INTSTAT_HELD

/-- What can be committed next: the least key of what waits. -/
inductive Due where
  | burst (h : Handed)
  | marker (m : Marker)
deriving DecidableEq, Repr

/-- The order key of either. -/
def Due.key : Due → Nat × Nat × Nat × Nat
  | .burst h => h.key
  | .marker m => m.key

/-- The least of a list by key; the first of equals. -/
def leastDue : List Due → Option Due
  | [] => none
  | d :: r =>
    match leastDue r with
    | none => some d
    | some e => if keyLt e.key d.key then some e else some d

/-- Refusal as it stands when a commit of points falls due (R234): it ends at the first one behind which enough room is free, and
begins where the journal is full. -/
def State.judgeFull (s : State) : State :=
  if s.on R.JNL_STATUS_REFUSING then
    if s.jnlUsed + s.jnlReserve + s.jnlResume ≤ s.jnlCap then
      (s.wr R.JNL_STATUS_REFUSING 0).flag R.JNL_INTSTAT_RESUMED
    else s
  else s.fullBegins

/-- A commit of `n` points is refused: the journal refuses, or they would reach into the last JNL_RESERVE slots, which take markers
only (R234, R236). -/
def State.refuses (s : State) (n : Nat) : Bool :=
  s.on R.JNL_STATUS_REFUSING || decide (s.jnlCap < s.jnlUsed + n + s.jnlReserve)

/-- A burst is refused as a whole and counted (R234, R237). -/
def State.refuseBurst (s : State) (h : Handed) : State :=
  ((s.bump R.JNL_REFREC_CNT h.recs.length).bump R.JNL_REFBURST_CNT 1).tally h.frame
    (fun t => { t with refused := t.refused + 1, incomplete := true })

/-- A burst is no longer in flight. -/
def State.dropBurst (s : State) (num : Nat) : State :=
  { s with peg := { s.peg with bursts := s.peg.bursts.filter (fun b => b.num != num) } }

/-- Records with the sequence numbers that their commit gives them (R232). -/
def numberRecs : Nat → List Rec → List Rec
  | _, [] => []
  | n, r :: rest => { r with seq := n } :: numberRecs (seqNext n) rest

/-- The commit of a burst whose place has come: accepted, or refused when the journal or its write queue is full (R233 to
R235). A burst without records only resolves. The answer holds the records accepted, with their numbers. -/
def State.commitBurst (s : State) (h : Handed) : State × Option Handed :=
  let s0 := { s with jnl := { s.jnl with handed := s.jnl.handed.filter (fun x => x.burst != h.burst) } }.dropBurst h.burst
  if h.recs.isEmpty then (s0, none)
  else
    let s1 := State.judgeFull s0
    if s1.refuses h.recs.length then (s1.refuseBurst h, none)
    else if 16384 * 25 < s1.jnl.wq + 25 * h.recs.length then
      ((s1.refuseBurst h).bump R.JNL_RATEREF_CNT 1, none)
    else (h.recs.foldl State.commitRec s1, some { h with recs := numberRecs s1.jnl.head h.recs })

/-- The marker's bytes 16 to 27 as they are committed: its kind, its payload, and the count of refused markers (R236). -/
def State.markerBody (s : State) (m : Marker) : BitVec 96 :=
  let pay := if m.kind = 2 then BitVec.ofNat 88 (leNat (frameEndPayload m.frame (s.frameStat m.frame))) else m.payload
  let cnt := if m.kind = 2 || m.kind = 6 then 0 else min s.jnl.mkPend 255
  BitVec.ofNat 96 (m.kind + 256 * (pay.toNat + cnt * 2 ^ 80))

/-- The commit of a marker whose place has come (R236). -/
def State.commitMarker (s : State) (m : Marker) : State :=
  let s0 : State := { s with jnl := { s.jnl with markers := removeFirst (· == m) s.jnl.markers } }
  if s0.jnlCap ≤ s0.jnlUsed then
    let s1 : State := { s0 with jnl := { s0.jnl with mkPend := s0.jnl.mkPend + 1 } }
    (s1.bump R.JNL_MKREFUSE_CNT 1).fault R.JNL_INTSTAT_MKREFUSE 3 0
  else
    let r : Rec := { stream := 2, seq := 0, time := m.time, body := s0.markerBody m, flags := m.flags }
    let s1 := s0.commitRec r
    let s2 : State := if m.kind = 2 || m.kind = 6 then s1 else { s1 with jnl := { s1.jnl with mkPend := 0 } }
    if m.kind = 2 then { s2 with jnl := { s2.jnl with frames := s2.jnl.frames.filter (fun p => p.1 != m.frame) } } else s2

/-- JNL_STATUS.RESVUSE: slots of the marker reserve hold records (R236, R243). -/
def State.reserveUsed (s : State) : Bool := decide (s.jnlCap < s.jnlUsed + s.jnlReserve)

/-- Everything that waits and may be committed before `linked` holds is held back: after a full reset the first records
are committed at stage HOST_LINK (R241, R318). -/
def State.nextDue (s : State) : Option Due :=
  if !s.boot.linked then none
  else
    match leastDue (s.jnl.handed.map Due.burst ++ s.jnl.markers.map Due.marker) with
    | some d => if s.blocked d.key then none else some d
    | none => none

/-- Commits one after the other in key order while nothing blocks (R230); the answer lists the bursts accepted. -/
def State.drainJnl (s : State) : Nat → State × List Handed
  | 0 => (s, [])
  | n + 1 =>
    match s.nextDue with
    | none => (s, [])
    | some (.marker m) => (s.commitMarker m).drainJnl n
    | some (.burst h) =>
      let (s1, ok) := s.commitBurst h
      let (s2, l) := s1.drainJnl n
      (s2, ok.toList ++ l)

/-- JNL_STATUS.HELD: a handed-over burst is held behind a re-run now (R243). -/
def State.heldStatus (s : State) : State :=
  s.wrB R.JNL_STATUS_HELD (s.jnl.handed.any (fun h => s.blockedByRerun h.key))

/-- Everything that waits for its place and may be committed is committed. -/
def State.drain (s : State) : State × List Handed :=
  let (s1, l) := s.drainJnl (s.jnl.handed.length + s.jnl.markers.length)
  (s1.heldStatus, l)

/-- The 32 bytes of a record (R218, R226); the CRC is taken over bytes 0 to 27. -/
def Rec.bytes (r : Rec) : List Byte :=
  let b := leBytes 2 r.stream ++ leBytes 6 r.seq ++ leBytes 8 r.time.toNat ++ leBytes 12 r.body.toNat
  b ++ leBytes 2 r.flags.toNat ++ leBytes 2 (crc16 b).toNat

end Sys2Proof.Machine
end

