-- ==== Sys2Proof/Machine/Float.lean ====
section
/-!
DEFINITION. IEEE 754 binary32 with round to nearest, ties to even, subnormal results flushed to zero: the arithmetic of
Tenon's loop law and of the lookback integrator (R71, R255). A value is a 32-bit word; every operation is exact on
integers and rounds once.
-/
namespace Sys2Proof.Machine

/-- What a binary32 word stands for: not a number, an infinity, or (-1)^neg * m * 2^e. -/
inductive FVal where
  | nan
  | inf (neg : Bool)
  | fin (neg : Bool) (m : Nat) (e : Int)
deriving DecidableEq, Repr

/-- The value of a word. -/
def fVal (w : Word) : FVal :=
  let neg := w.msb
  let ex := bits w.toNat 23 8
  let fr := bits w.toNat 0 23
  if ex = 255 then (if fr = 0 then .inf neg else .nan)
  else if ex = 0 then .fin neg fr (-149)
  else .fin neg (fr + 2 ^ 23) ((ex : Int) - 150)

/-- The word of a sign, an exponent field and a fraction. -/
def fWord (neg : Bool) (ex fr : Nat) : Word := BitVec.ofNat 32 (neg.toNat * 2 ^ 31 + ex * 2 ^ 23 + fr)

/-- The word of a result that is not a number; its sign and payload are not stated. -/
def fNan : Word := 0x7FC00000#32 ||| (Config.nanBits &&& 0x803FFFFF#32)

/-- num * 2^(-k) / den for a negative or positive k, as quotient and whether the rest calls for rounding up from an even or
odd quotient. -/
def fScale (num den : Nat) (k : Int) : Nat :=
  let n := num * 2 ^ (-k).toNat
  let d := den * 2 ^ k.toNat
  let q := n / d
  let r := n % d
  if d < 2 * r || (2 * r == d && q % 2 == 1) then q + 1 else q

/-- The binary32 word nearest to (-1)^neg * num / den * 2^e (den > 0). -/
def fRound (neg : Bool) (num den : Nat) (e : Int) : Word :=
  if num = 0 then fWord neg 0 0
  else
    let k0 : Int := (Nat.log2 num : Int) - (Nat.log2 den : Int) - 23
    let low := num * 2 ^ (-k0).toNat < den * 2 ^ k0.toNat * 2 ^ 23
    let k1 := if low then k0 - 1 else k0
    let q0 := fScale num den k1
    let k := if q0 = 2 ^ 24 then k1 + 1 else k1
    let q := if q0 = 2 ^ 24 then 2 ^ 23 else q0
    let ex := k + e + 150
    if ex ≥ 255 then fWord neg 255 0
    else if ex ≤ 0 then fWord neg 0 0
    else fWord neg ex.toNat (q - 2 ^ 23)

/-- The signed integer numerator of two finite values at a common exponent. -/
def fAlign (neg : Bool) (m : Nat) (e emin : Int) : Int :=
  let v : Int := (m : Int) * (2 : Int) ^ (e - emin).toNat
  if neg then -v else v

/-- Sum. -/
def fAdd (a b : Word) : Word :=
  match fVal a, fVal b with
  | .nan, _ => fNan
  | _, .nan => fNan
  | .inf s, .inf t => if s = t then a else fNan
  | .inf _, _ => a
  | _, .inf _ => b
  | .fin s m e, .fin t n g =>
    let lo := min e g
    let v := fAlign s m e lo + fAlign t n g lo
    if v = 0 then fWord (s && t) 0 0 else fRound (decide (v < 0)) v.natAbs 1 lo

/-- The opposite. -/
def fNeg (a : Word) : Word := a ^^^ 0x80000000#32

/-- Difference. -/
def fSub (a b : Word) : Word := fAdd a (fNeg b)

/-- Product. -/
def fMul (a b : Word) : Word :=
  match fVal a, fVal b with
  | .nan, _ => fNan
  | _, .nan => fNan
  | .inf s, .inf t => fWord (s != t) 255 0
  | .inf s, .fin t n _ => if n = 0 then fNan else fWord (s != t) 255 0
  | .fin s m _, .inf t => if m = 0 then fNan else fWord (s != t) 255 0
  | .fin s m e, .fin t n g => fRound (s != t) (m * n) 1 (e + g)

/-- Quotient. -/
def fDiv (a b : Word) : Word :=
  match fVal a, fVal b with
  | .nan, _ => fNan
  | _, .nan => fNan
  | .inf _, .inf _ => fNan
  | .inf s, .fin t _ _ => fWord (s != t) 255 0
  | .fin s _ _, .inf t => fWord (s != t) 0 0
  | .fin s m e, .fin t n g =>
    if n = 0 then (if m = 0 then fNan else fWord (s != t) 255 0) else fRound (s != t) m n (e - g)

/-- Less than; false when either is not a number. -/
def fLt (a b : Word) : Bool :=
  match fVal a, fVal b with
  | .nan, _ => false
  | _, .nan => false
  | .inf s, .inf t => s && !t
  | .inf s, .fin _ _ _ => s
  | .fin _ _ _, .inf t => !t
  | .fin s m e, .fin t n g => decide (fAlign s m e (min e g) < fAlign t n g (min e g))

/-- Less than or equal; false when either is not a number. -/
def fLe (a b : Word) : Bool :=
  match fVal a, fVal b with
  | .nan, _ => false
  | _, .nan => false
  | _, _ => !fLt b a

/-- Equal as numbers. -/
def fEq (a b : Word) : Bool := fLe a b && fLe b a

/-- Neither infinite nor not a number. -/
def fFinite (a : Word) : Bool := bits a.toNat 23 8 != 255

/-- The absolute value. -/
def fAbs (a : Word) : Word := a &&& 0x7FFFFFFF#32

/-- Clamp to [lo, hi]. -/
def fClamp (lo hi a : Word) : Word := if fLt a lo then lo else if fLt hi a then hi else a

/-- The word nearest to a quotient of integers (d > 0). -/
def fRat (n : Int) (d : Nat) : Word := fRound (decide (n < 0)) n.natAbs d 0

/-- The word nearest to an integer. -/
def fInt (n : Int) : Word := fRat n 1

/-- The integer below a finite value; 0 for the others. -/
def fFloor (a : Word) : Int :=
  match fVal a with
  | .fin s m e =>
    let v : Int := if s then -(m : Int) else m
    if 0 ≤ e then v * (2 : Int) ^ e.toNat else v / (2 : Int) ^ (-e).toNat
  | _ => 0

/-- The integer nearest to a finite value times `n`, ties away from zero; 0 for the others. -/
def fTimesRound (a : Word) (n : Nat) : Int :=
  match fVal a with
  | .fin s m e =>
    let p := m * n
    let q : Nat := if 0 ≤ e then p * 2 ^ e.toNat else (2 * p + 2 ^ (-e).toNat) / (2 * 2 ^ (-e).toNat)
    if s then -(q : Int) else q
  | _ => 0

/-- The value of a finite word as numerator and binary exponent: n * 2^e. -/
def fParts (a : Word) : Int × Int :=
  match fVal a with
  | .fin s m e => (if s then -(m : Int) else m, e)
  | _ => (0, 0)

end Sys2Proof.Machine
end

