-- ==== Sys2Proof/Machine/Series.lean ====
section
/-!
DEFINITION. The functions that the rules name and binary32 arithmetic does not give: the Poisson tail (R175), log2 (R197,
R219, R220), sine, cosine, atan2 and arcsine in turns (R83, R127, R253). Each is computed on integers well beyond the
precision of binary32 and rounded once; where the spec leaves the last places open, the result is moved by a free number of
them, within a bound.
-/
namespace Sys2Proof.Machine

/-- A finite result other than 0 moved by a free number of last places, at most k either way. -/
def fNudge (a : Word) (k : Nat) (d : Int) : Word :=
  let mag : Nat := a.toNat % 2 ^ 31
  if mag = 0 || !fFinite a then a
  else BitVec.ofNat 32 (a.toNat / 2 ^ 31 * 2 ^ 31 +
    (clampI 0x00800000 0x7F7FFFFF (Int.ofNat mag + clampI (-Int.ofNat k) (Int.ofNat k) d)).toNat)

/-! ### The Poisson tail -/

/-- Terms of the exponential series of num / den behind the term `t` of index `k`, each rounded down. -/
def expTerms (num den : Nat) : Nat → Nat → Nat → List Nat
  | 0, _, _ => []
  | fuel + 1, k, t => t :: expTerms num den fuel (k + 1) (t * num / (den * (k + 1)))

/-- q(n, mu): the probability that a Poisson variable of mean mu reaches n (R175), rounded to binary32. -/
def poissonTail (n : Nat) (mu : Word) : Word :=
  match fVal mu with
  | .nan => fNan
  | .inf _ => fInt 1
  | .fin neg m e =>
    let num := if neg then 0 else m * 2 ^ e.toNat
    let den := 2 ^ (-e).toNat
    let ts := expTerms num den (4 * (num / den) + 512) 0 (2 ^ 512)
    fRound false (ts.drop n).sum ts.sum 0

/-- q(n, mu) as the standard set evaluates it (R207): its fixed sequence of binary32 operations is not stated. DESIGN CHOICE
(log 39): it lies within 256 last places of q. -/
def engineQ (n : Nat) (mu : Word) : Word := fNudge (poissonTail n mu) 256 (Config.engineQErr n mu)

/-! ### The logarithm -/

/-- Binary digits of the logarithm of x / 2^p, which lies from 1 up and below 2. -/
def logDigits (p : Nat) : Nat → Nat → Nat → Nat
  | 0, _, acc => acc
  | fuel + 1, x, acc =>
    let y := x * x / 2 ^ p
    if 2 ^ (p + 1) ≤ y then logDigits p fuel (y / 2) (2 * acc + 1) else logDigits p fuel y (2 * acc)

/-- log2, rounded to binary32. -/
def fLog2 (a : Word) : Word :=
  match fVal a with
  | .nan => fNan
  | .inf neg => if neg then fNan else a
  | .fin neg m e =>
    if m = 0 then fWord true 255 0
    else if neg then fNan
    else
      let k := Nat.log2 m
      let v : Int := (e + k) * 2 ^ 64 + logDigits 256 64 (m * 2 ^ (256 - k)) 0
      fRound (decide (v < 0)) v.natAbs 1 (-64)

/-- log2 as an engine gives it: within 2 last places (R197). -/
def engineLog2 (a : Word) : Word := fNudge (fLog2 a) 2 (Config.engineLogErr a)

/-! ### Angles in turns -/

/-- The alternating series of the arc tangent of 1 / n, from its term of index k, `p` standing for the scaled power. -/
def arcSum (n : Nat) : Nat → Nat → Nat → Int
  | 0, _, _ => 0
  | fuel + 1, k, p => ((p / (2 * k + 1) : Nat) : Int) - arcSum n fuel (k + 1) (p / (n * n))

/-- pi, scaled by 2^256: 16 arctan(1/5) - 4 arctan(1/239). -/
def piScaled : Nat := ((16 * arcSum 5 160 0 (2 ^ 320 / 5) - 4 * arcSum 239 160 0 (2 ^ 320 / 239)) / 2 ^ 64).toNat

/-- The alternating series t - t x^2 / (k (k + 1)) + ..., with `x2` and `t` scaled by 2^256. -/
def trigSum (x2 : Nat) : Nat → Nat → Nat → Int
  | 0, _, _ => 0
  | fuel + 1, k, t => (t : Int) - trigSum x2 fuel (k + 2) (t * x2 / 2 ^ 256 / (k * (k + 1)))

/-- The sine of n / d of a quarter turn, scaled by 2^256. -/
def quarterSine (n d : Nat) : Nat :=
  let x := piScaled * n / (2 * d)
  (trigSum (x * x / 2 ^ 256) 64 2 x).toNat

/-- The sine of n / d turns, as its sign and its size scaled by 2^256. -/
def turnSine (n d : Nat) : Bool × Nat :=
  let r := 4 * n % d
  match 4 * n / d % 4 with
  | 0 => (false, quarterSine r d)
  | 1 => (false, quarterSine (d - r) d)
  | 2 => (true, quarterSine r d)
  | _ => (true, quarterSine (d - r) d)

/-- The sine of sgn * n / d turns, rounded to binary32. -/
def fSine (neg : Bool) (n d : Nat) : Word :=
  let x := turnSine n d
  fRound (neg != x.1) x.2 1 (-256)

/-- sin(2 pi u). Its rounding is not stated: within 1 last place (log 49). -/
def sinTurn (u : Word) : Word :=
  match fVal u with
  | .fin neg m e => fNudge (fSine neg (m * 2 ^ e.toNat) (2 ^ (-e).toNat)) 1 (Config.trigErr 0 u 0)
  | _ => fNan

/-- cos(2 pi u), like `sinTurn`, a quarter turn on. -/
def cosTurn (u : Word) : Word :=
  match fVal u with
  | .fin _ m e =>
    fNudge (fSine false (4 * (m * 2 ^ e.toNat) + 2 ^ (-e).toNat) (4 * 2 ^ (-e).toNat)) 1 (Config.trigErr 1 u 0)
  | _ => fNan

/-- The upper places of two numbers of like size. -/
def trim (x y : Int) : Int × Int :=
  let k := Nat.log2 (max x.natAbs y.natAbs) - 400
  (x / 2 ^ k, y / 2 ^ k)

/-- Binary digits, from a quarter turn down, of the angle of a vector in the upper half plane: squaring the vector as a complex
number doubles its angle. -/
def angleDigits : Nat → Int → Int → Nat → Nat
  | 0, _, _, acc => acc
  | fuel + 1, x, y, acc =>
    let z := trim (x * x - y * y) (2 * x * y)
    if z.2 < 0 || (z.2 = 0 && decide (z.1 < 0)) then angleDigits fuel (-z.1) (-z.2) (2 * acc + 1)
    else angleDigits fuel z.1 z.2 (2 * acc)

/-- The angle of a vector in turns, rounded to binary32; its y is not below 0, and `neg` gives the sign of the angle. -/
def fAngle (neg : Bool) (x y : Int) : Word :=
  if y = 0 then (if x < 0 then fRound neg 1 2 0 else fWord neg 0 0)
  else fRound neg (angleDigits 240 x y 0) 1 (-241)

/-- atan2(y, x) / 2 pi, within 1 last place. -/
def atanTurn (y x : Word) : Word :=
  match fVal y, fVal x with
  | .fin s m e, .fin t n g =>
    let lo := min e g
    fNudge (fAngle s (fAlign t n g lo) (fAlign false m e lo)) 1 (Config.trigErr 2 y x)
  | _, _ => fNan

/-- asin(x) / 2 pi, within 1 last place; a quarter turn where rounding has carried |x| to 1 or beyond. -/
def asinTurn (x : Word) : Word :=
  match fVal x with
  | .nan => fNan
  | .inf s => fRound s 1 4 0
  | .fin s m e =>
    let n := m * 2 ^ e.toNat
    let d := 2 ^ (-e).toNat
    if d ≤ n then fRound s 1 4 0
    else fNudge (fAngle s (isqrt ((d * d - n * n) * 2 ^ 640)) (n * 2 ^ 320 : Nat)) 1 (Config.trigErr 3 x 0)

end Sys2Proof.Machine
end

