-- ==== Sys2Proof/Machine/Mortise.lean ====
section
/-!
DEFINITION. Mortise (R169 to R190): matching of events to shots, the coarse histogram, ambient and threshold, the peak
sieve, zoom windows, fills from the backlog, and evidence columns.
-/
namespace Sys2Proof.Machine

/-! ### Bursts and their configuration -/

/-- A burst by its number. -/
def State.burst (s : State) (n : Nat) : Option Burst := s.peg.bursts.find? (fun b => b.num == n)

/-- A change of one burst. -/
def State.setBurst (s : State) (n : Nat) (f : Burst → Burst) : State :=
  { s with peg := { s.peg with bursts := updateWhere (fun b => b.num == n) f s.peg.bursts } }

/-- A change of every burst that a test picks. -/
def State.mapBursts (s : State) (p : Burst → Bool) (f : Burst → Burst) : State :=
  { s with peg := { s.peg with bursts := updateWhere p f s.peg.bursts } }

/-- The staged register fields as they stand now, as the configuration of an epoch (R22). The table addresses are those
given. -/
def State.captureCfg (s : State) (sight row plan progSet : Nat) : EpochCfg :=
  { period := s.rd R.PEG_FRAME_PERIOD, gmin := s.rd R.PEG_CODECFG_GMIN, gspan := s.rd R.PEG_CODECFG_GSPAN
    crossMax := s.rd R.PEG_CODECFG_CROSSMAX, azSh := s.rd R.PEG_CELLCFG_AZSH
    az0 := BitVec.ofNat 32 (s.rd R.PEG_AZ0_AZ0), azGain := BitVec.ofNat 32 (s.rd R.PEG_AZGAIN_GAIN)
    tiltScale := BitVec.ofNat 32 (s.rd R.PEG_TILTSCALE_SCALE), elMin := BitVec.ofNat 32 (s.rd R.PEG_ELMIN_ELMIN)
    elStep := BitVec.ofNat 32 (s.rd R.PEG_ELSTEP_ELSTEP)
    pfa := s.rd R.MRT_SIEVECFG_PFA, lpfa := s.rd R.MRT_SIEVECFG_LPFA, nmin := s.rd R.MRT_SIEVECFG_NMIN
    binMin := s.rd R.MRT_SIEVECFG_BINMIN, sep := s.rd R.MRT_SIEVECFG_SEP, nwin := s.rd R.MRT_ZOOMCFG_NWIN
    nearFirst := s.on R.MRT_ZOOMCFG_NEARFIRST
    zoneSel := (List.range 64).map (fun z => (z, s.rd (R.JST_ZONESEL_SLOT z)))
    sightAddr := sight, rowAddr := row, planAddr := plan, progSet := progSet }

/-- The configuration of an epoch: as retained, or the live fields where no epoch has been staged yet (R22). -/
def State.epochCfg (s : State) (e : Nat) : EpochCfg :=
  match s.peg.epochs.find? (fun p => p.1 == e) with
  | some p => p.2
  | none => s.captureCfg 0 0 0 0

/-- Bursts that hold a slot: planned, with a slot, and not yet presented (R169). -/
def State.openAll (s : State) : Nat := (s.peg.bursts.filter (fun b => b.stage == .open && b.slot)).length

/-- MRT_STATUS follows the slots in use: a burst holds its slot until its work item is presented (R169). -/
def State.mrtUse (s : State) : State :=
  let n := s.openAll
  (s.wr R.MRT_STATUS_INUSE n).peak R.MRT_STATUS_PEAK n

/-! ### Matching -/

/-- Shot j of a burst is valid: not in the void mask (R139). -/
def Burst.valid (b : Burst) (j : Nat) : Bool := !b.void.testBit j

/-- The burst's window close in LSB from its frame epoch. -/
def Burst.closeRel (b : Burst) : Nat := b.closeLsb - b.epoch0

/-- A match of a shot with an event at an arrival: tau, if it lies in the match interval (R171). -/
def Burst.tau (b : Burst) (j arrival : Nat) : Option Nat :=
  match b.fires[j]? with
  | some f => if f ≤ arrival && decide (arrival - f < 524288) && decide (arrival < b.closeRel) then some (arrival - f) else none
  | none => none

/-- A count added to a sparse histogram. -/
def histAdd (h : List (Nat × Nat)) (k : Nat) : List (Nat × Nat) := mapSet 0 h k (mapGet 0 h k + 1)

/-- A count taken from a sparse histogram. -/
def histSub (h : List (Nat × Nat)) (k : Nat) : List (Nat × Nat) := mapSet 0 h k (mapGet 0 h k - 1)

/-- The 32 bits of an event-list entry (R188). -/
def WinEvent.word (e : WinEvent) : Word :=
  BitVec.ofNat 32 (e.ofs % 512 + 2 ^ 9 * (e.width % 1024) + 2 ^ 19 * (e.shot % 64) + 2 ^ 25 * e.backlog.toNat
    + 2 ^ 26 * e.wsat.toNat + 2 ^ 27 * e.spare.toNat)

/-- An entry's place in the event list: filled entries in the order of the fill, then direct ones (R188). -/
def placeEvent (l : List WinEvent) (e : WinEvent) : List WinEvent :=
  if e.backlog then l.filter (·.backlog) ++ e :: l.filter (fun x => !x.backlog) else l ++ [e]

/-- A window or one of its shoulders holds a tau (R171, R178). -/
def Window.holds (w : Window) (tau : Nat) : Bool := decide (w.w ≤ tau + 256) && decide (tau < w.w + 768)

/-- A match enters a window, or a shoulder of it (R171, R178). -/
def Window.take (w : Window) (tau shot width : Nat) (wsat spare back : Bool) : Window :=
  if w.w ≤ tau && decide (tau < w.w + 512) then
    let e : WinEvent := { ofs := tau - w.w, width := width, shot := shot, backlog := back, wsat := wsat, spare := spare }
    { w with fine := histAdd w.fine ((tau - w.w) / 8), events := placeEvent w.events e, direct := w.direct || !back }
  else if w.w ≤ tau + 256 && decide (tau < w.w) then { w with lower := w.lower ++ [shot] }
  else if w.w + 512 ≤ tau && decide (tau < w.w + 768) then { w with upper := w.upper ++ [shot] }
  else w

/-- A shot excluded from a window: its matches are withdrawn (R181). -/
def Window.exclude (w : Window) (shot : Nat) : Window :=
  { w with excl := putBit w.excl shot true
           fine := (w.events.filter (fun e => e.shot == shot)).foldl (fun h e => histSub h (e.ofs / 8)) w.fine
           events := w.events.filter (fun e => e.shot != shot)
           lower := w.lower.filter (· != shot), upper := w.upper.filter (· != shot) }

/-- An event as Kerf delivers it, matched against one shot of a burst: the coarse histogram for a scout shot, the windows
once they are in place (R171). An event that is counted in one of them passes its spare mark to the burst (R187). -/
def Burst.matchShot (b : Burst) (e : BackEvent) (direct : Bool) (j : Nat) : Burst :=
  if b.valid j then
    match b.tau j e.arrival with
    | none => b
    | some tau =>
      let b1 := if direct && decide (j < b.s) then { b with coarse := histAdd b.coarse (tau / 128) } else b
      let inWin := !direct || (match b.placed with | some p => decide (p ≤ e.deliver) | none => false)
      let b2 := if inWin then
          { b1 with windows := b1.windows.map (fun w => if w.excl.testBit j then w else
              w.take tau j e.width e.wsat e.spare (!direct)) }
        else b1
      let counted := (direct && decide (j < b.s))
        || (inWin && b.windows.any (fun w => !w.excl.testBit j && w.holds tau))
      { b2 with spare := b2.spare || (counted && e.spare) }
  else b

/-- An event matched against every shot of an open burst of its channel and frame. -/
def Burst.matchEvent (b : Burst) (e : BackEvent) (direct : Bool) : Burst :=
  if b.frame == e.frame then (List.range b.k).foldl (fun b j => b.matchShot e direct j) b else b

/-- What Mortise keeps of a burst that closes (R173). -/
def Burst.shutOf (b : Burst) : ShutBurst :=
  { channel := b.channel, frame := b.frame, closeRel := b.closeRel, closeLsb := b.closeLsb
    fires := ((List.range b.k).filter b.valid).filterMap (fun j => b.fires[j]?) }

/-- A burst has closed: an event of its window can still be delivered for 25 ns (R153, R173). -/
def State.shutBurst (s : State) (b : Burst) : State :=
  { s with peg := { s.peg with
      shut := b.shutOf :: s.peg.shut.filter (fun x => decide (s.nowLsb ≤ x.closeLsb + 2560)) } }

/-- An event that reaches Mortise after the close of a burst it would have matched (R173). -/
def ShutBurst.lateFor (b : ShutBurst) (ch : Nat) (e : BackEvent) : Bool :=
  b.channel == ch && b.frame == e.frame && decide (e.arrival < b.closeRel)
    && b.fires.any (fun f => decide (f ≤ e.arrival) && decide (e.arrival < f + 524288))

/-- The backlog of a channel, newest first (R170). -/
def State.backlog (s : State) (ch : Nat) : List BackEvent := mapGet [] s.peg.backlog ch

/-- Mortise receives an event word: the backlog takes it, open bursts of the channel match it, and an event that comes
after the close of its burst is counted (R170 to R173). -/
def State.mrtEvent (s : State) (ch : Nat) (e : BackEvent) : State :=
  let late := s.peg.shut.any (fun b => b.lateFor ch e)
  let bl := mapSet [] s.peg.backlog ch ((e :: s.backlog ch).take 256)
  let s1 : State := { s with peg := { s.peg with backlog := bl } }
  let s2 := s1.mapBursts (fun b => b.channel == ch && b.stage == .open) (fun b => b.matchEvent e true)
  if late then (s2.bump R.MRT_LATEEV_CNT 1).fault R.MRT_INTSTAT_LATEEV 1 ch else s2

/-! ### Ambient, threshold and sieve -/

/-- The bins in use (R174). -/
def Burst.nb (b : Burst) : Nat := if b.kind == .reference then 1024 else 4096

/-- A coarse bin; the bin behind the last counts as 0 (R176). -/
def Burst.bin (b : Burst) (k : Nat) : Nat := if k < b.nb then mapGet 0 b.coarse k else 0

/-- The three-bin sum s(b) (R176). -/
def Burst.sum3 (b : Burst) (k : Nat) : Nat := b.bin (k - 1) + b.bin k + b.bin (k + 1)

/-- Positions at which a three-bin sum can differ from 0: those next to a bin that is not empty. -/
def Burst.spots (b : Burst) : List Nat :=
  (b.coarse.flatMap (fun p => [p.1 - 1, p.1, p.1 + 1])).foldl (fun l k => if l.contains k then l else l ++ [k]) []

/-- The total count over the bins in use. -/
def Burst.total (b : Burst) : Nat := (b.coarse.map (fun p => if p.1 < b.nb then p.2 else 0)).sum

/-- m of R175: the largest three-bin sum over b = 1 to NB - 1. -/
def Burst.peak3 (b : Burst) : Nat :=
  (b.spots.filter (fun k => decide (1 ≤ k) && decide (k < b.nb))).foldl (fun m k => max m (b.sum3 k)) 0

/-- lambda-hat in units of 2^-8, rounded up (R175). -/
def Burst.lambda (b : Burst) : Nat := ((b.total - b.peak3) * 256 + (b.nb - 4)) / (b.nb - 3)

/-- The least n from nmin up with npos * q(n, 3 lambda) at most 2^-pfa (R175): q(n, mu) is the tail of the Poisson
distribution, compared as exact sums of the series. `tail` is the sum of the terms from n on. -/
def threshFrom (npos pfa total : Nat) : List Nat → Nat → Nat → Nat
  | [], _, n => n
  | t :: r, tail, n => if npos * 2 ^ pfa * tail ≤ total then n else threshFrom npos pfa total r (tail - t) (n + 1)

/-- T (R175). -/
def threshold (lam npos pfa nmin : Nat) : Nat :=
  let ts := expTerms (3 * lam) 256 2048 0 (2 ^ 512)
  threshFrom npos pfa ts.sum (ts.drop nmin) ((ts.drop nmin).sum) nmin

/-- BINMIN as it acts (R191). -/
def EpochCfg.binMinEff (c : EpochCfg) : Nat := max c.binMin 2

/-- SEP as it acts (R191). -/
def EpochCfg.sepEff (c : EpochCfg) : Nat := max c.sep 4

/-- NWIN as it acts (R191). -/
def EpochCfg.nwinEff (c : EpochCfg) : Nat := min c.nwin 4

/-- The exponent of a burst's kind (R175). -/
def EpochCfg.pfaOf (c : EpochCfg) (k : BurstKind) : Nat := max 1 (if k == .listen then c.lpfa else c.pfa)

/-- NPOS (R175). -/
def Burst.positions (b : Burst) (c : EpochCfg) : Nat := b.nb - 3 - c.binMinEff + 1

/-- A position is a candidate (R176). -/
def Burst.isCand (b : Burst) (thr k : Nat) : Bool :=
  decide (thr ≤ b.sum3 k) && decide (b.sum3 (k - 1) < b.sum3 k) && decide (b.sum3 (k + 1) ≤ b.sum3 k)

/-- Insertion in rank order: s(b) descending, lower b first (R176). -/
def rankIns (c : Cand) : List Cand → List Cand
  | [] => [c]
  | d :: r => if d.sum < c.sum || (d.sum == c.sum && decide (c.b < d.b)) then c :: d :: r else d :: rankIns c r

/-- Two candidates lie fewer than SEP bins apart. -/
def Cand.near (sep : Nat) (c d : Cand) : Bool := decide (c.b < d.b + sep) && decide (d.b < c.b + sep)

/-- The walk down the ranking: at most 8 are kept, each SEP bins from every kept one; further ones that far away are
counted as dropped (R176). -/
def keepCands (sep : Nat) : List Cand → List Cand → Nat → List Cand × Nat
  | [], kept, n => (kept, n)
  | c :: r, kept, n =>
    if kept.any (c.near sep) then keepCands sep r kept n
    else if kept.length < 8 then keepCands sep r (kept ++ [c]) n
    else keepCands sep r kept (n + 1)

/-- Insertion sort of numbers, ascending. -/
def sortIns (a : Nat) : List Nat → List Nat
  | [] => [a]
  | b :: r => if a ≤ b then a :: b :: r else b :: sortIns a r

/-- Ascending order. -/
def sortNat (l : List Nat) : List Nat := l.foldr sortIns []

/-- The bins that get windows: the nearest first if NEARFIRST, then in rank order, at most NWIN (R177); ascending. -/
def windowBins (c : EpochCfg) (kept : List Cand) : List Nat :=
  let bs := kept.map (·.b)
  let order :=
    if c.nearFirst then
      match sortNat bs with
      | b :: _ => b :: bs.filter (· != b)
      | [] => []
    else bs
  sortNat (order.take c.nwinEff)

/-- Threshold and sieve of a burst (R175, R176), with the windows its candidates get (R177, R178, R184). -/
def Burst.sieve (b : Burst) (c : EpochCfg) : Burst :=
  let sv := ((List.range b.s).filter b.valid).length
  let lam := b.lambda
  let npos := b.positions c
  let thr := threshold lam npos (c.pfaOf b.kind) (max 1 c.nmin)
  let spots := b.spots.filter (fun k => decide (c.binMinEff ≤ k) && decide (k + 3 ≤ b.nb) && b.isCand thr k)
  let ranked := spots.foldl (fun l k => rankIns { b := k, sum := b.sum3 k, win := none } l) []
  let (kept, drop) := keepCands c.sepEff ranked [] 0
  let bins := if sv = 0 || b.kind == .listen then [] else windowBins c kept
  let cands := kept.map (fun d => { d with win := bins.idxOf? d.b })
  let wins := bins.map (fun k =>
    ({ w := 128 * k - 192, fine := [], lower := [], upper := [], events := [], excl := 0, direct := false } : Window))
  { b with svScout := sv, lam := lam, npos := npos, thr := thr, cands := cands, ndrop := drop, windows := wins
           sieved := true }

/-- The counts of a sieve (R184). -/
def State.countSieve (s : State) (b : Burst) : State :=
  let s1 := s.when b.cands.isEmpty (·.bump R.MRT_NOCAND_CNT 1)
  s1.when (decide (b.windows.length < b.cands.length)) (·.bump R.MRT_OVERCAND_CNT 1)

/-! ### Fills -/

/-- The coverage C of a fill (R181): the frame epoch when the whole ring holds fewer than 256 entries of the frame, so that
nothing of it was lost; else the arrival of the oldest entry read, or `p` when none was read. -/
def coverage (ring : List BackEvent) (frame : Nat) (entries : List BackEvent) (p : Nat) : Nat :=
  if (ring.filter (fun e => e.frame == frame)).length < 256 then 0
  else
    match (entries.filter (fun e => e.frame == frame)).getLast? with
    | some e => e.arrival
    | none => p

/-- The shots, void ones among them, whose interval in a window begins before the coverage: they are excluded, and what they
entered is withdrawn (R181). -/
def Burst.cut (b : Burst) (c : Nat) (w : Window) : Window :=
  (List.range b.k).foldl (fun w j =>
    match b.fires[j]? with
    | some f => if f + w.w < c then w.exclude j else w
    | none => w) w

/-- A fill from the ring as it stands: the shots that the coverage does not reach are excluded, then every entry read is matched,
newest first, against the windows (R180, R181). -/
def Burst.fill (b : Burst) (ring entries : List BackEvent) (p : Nat) : Burst :=
  let c := coverage ring b.frame entries p
  entries.foldl (fun b e => b.matchEvent e false) { b with windows := b.windows.map (b.cut c) }

/-- Windows with an excluded shot (R181). -/
def Burst.wrapped (b : Burst) : Nat := (b.windows.filter (fun w => w.excl != 0)).length

/-- NSHOT: the valid shots not excluded from a window (R181). -/
def Burst.nshot (b : Burst) (w : Window) : Nat :=
  ((List.range b.k).filter (fun j => b.valid j && !w.excl.testBit j)).length

/-! ### Void shots -/

/-- A shot of a burst becomes void (R139): Mortise stops accumulating against it. -/
def Burst.voidShot (b : Burst) (j : Nat) : Burst := { b with void := putBit b.void j true }

/-- A burst without a valid shot (R139). -/
def Burst.allVoid (b : Burst) : Bool := !(List.range b.k).any b.valid

/-- The shot index at which a burst uses a tag of a driver. -/
def Burst.shotOf (b : Burst) (driver tag : Nat) : Option Nat :=
  if b.driver == driver && b.kind != .listen then b.tags.idxOf? tag else none

/-- A fire of a driver becomes void for the columns that a test picks, in every open burst that uses it; each shot-burst
pair is counted (R139). -/
def State.voidFire (s : State) (driver tag : Nat) (col : Nat → Bool) : State :=
  let hit (b : Burst) : Bool := b.stage == .open && col b.col && (match b.shotOf driver tag with
    | some j => b.valid j
    | none => false)
  let n := (s.peg.bursts.filter hit).length
  (s.mapBursts hit (fun b => match b.shotOf driver tag with | some j => b.voidShot j | none => b)).bump
    R.PEG_VOIDSHOT_CNT n

/-! ### Evidence columns -/

/-- The code of a count over sv shots: min(255, round(24 log2(1 + 256 c / sv))) (R189), decided on integers: the rounded
value is at least k exactly when (1 + 256 c / sv)^48 is at least 2^(2k - 1). -/
def evidenceCode (c sv : Nat) : Nat :=
  ((List.range 255).filter (fun i => decide (2 ^ (2 * i + 1) * sv ^ 48 ≤ (sv + 256 * c) ^ 48))).length

/-- The 512 codes of a burst's evidence column (R189). -/
def Burst.codes (b : Burst) (sv : Nat) : List Nat :=
  (List.range 512).map (fun e => evidenceCode (((List.range 8).map (fun i => b.bin (8 * e + i))).sum) sv)

end Sys2Proof.Machine
end

