-- ==== Sys2Proof/Machine/BattenBase.lean ====
section
/-!
DEFINITION. The operations of Batten that Truss and Peg call: frames on the emitter rings, the sightline and row tables,
fires that will not be sent, HUSH and RESUME (R89 to R116).
-/
namespace Sys2Proof.Machine

/-! ### Rings, drivers and frames -/

/-- The ring of driver n = 8r + d - 1. -/
def ringOf (n : Nat) : Nat := n / 8

/-- The address d of driver n on its ring. -/
def addrOf (n : Nat) : Nat := n % 8 + 1

/-- The state of a driver. -/
def DrvState.zero : DrvState :=
  { stopped := false, lastFire := none, missCw := 0, missCcw := 0, cursor := 0, baseAcw := 0, trim := none
    echoCw := none, echoCcw := none, runCw := none, runCcw := none, pass := 0, words := [], status := none, useq := 0
    seenCw := false, seenCcw := false, cutOff := false }

/-- The state of a ring. -/
def RingState.zero : RingState := { seq := 0, rrCw := 0, rrCcw := 0, locating := false, back := none, waits := false }

/-- A driver's record. -/
def State.drv (s : State) (n : Nat) : DrvState := mapGet .zero s.btn.drivers n

/-- A change of a driver's record. -/
def State.setDrv (s : State) (n : Nat) (f : DrvState → DrvState) : State :=
  { s with btn := { s.btn with drivers := mapSet .zero s.btn.drivers n (f (s.drv n)) } }

/-- A ring's record. -/
def State.ringSt (s : State) (r : Nat) : RingState := mapGet .zero s.btn.rings r

/-- A change of a ring's record. -/
def State.setRing (s : State) (r : Nat) (f : RingState → RingState) : State :=
  { s with btn := { s.btn with rings := mapSet .zero s.btn.rings r (f (s.ringSt r)) } }

/-! ### Characters, ordered sets and frames (R91, R92) -/

/-- A data character. -/
def dataChar (b : Byte) : RingChar := b.setWidth 9

/-- A control character: K28.5 0xBC, K23.7 0xF7, K27.7 0xFB, K29.7 0xFD, K28.3 0x7C. -/
def ctlChar (b : Byte) : RingChar := 0x100#9 ||| b.setWidth 9

/-- IDLE: K28.5 D21.5 D21.5 D21.5. -/
def idleSet : List RingChar := [ctlChar 0xBC, dataChar 0xB5, dataChar 0xB5, dataChar 0xB5]

/-- Character i of the training pattern: IDLE sets and sets of four data characters of the generator by turns (R410). -/
def trainChar (i : Nat) : RingChar :=
  if i % 8 < 4 then idleSet.getD (i % 4) 0 else dataChar (prbsByte (prbsAt (4 * (i / 8) + i % 4))).2

/-- HUSH: four K23.7. -/
def hushSet : List RingChar := List.replicate 4 (ctlChar 0xF7)

/-- GRANT, or RGRANT when `ret`, of driver a: K28.5, D10.2 or D10.4, the address and its complement. -/
def grantSet (a : Nat) (ret : Bool) : List RingChar :=
  [ctlChar 0xBC, dataChar (if ret then 0x8A else 0x4A), dataChar (BitVec.ofNat 8 a), dataChar (~~~BitVec.ofNat 8 a)]

/-- A downstream frame's bytes before its check (R92). -/
def frameBody (typ dest seq : Nat) (payload : List Byte) : List Byte :=
  leBytes 1 dest ++ leBytes 1 typ ++ leBytes 2 seq ++ leBytes 1 payload.length ++ payload

/-- Bytes and their CRC-32C between the start and end characters, filled up with K28.3 to the next four-character boundary; `bad`
inverts bit 0 of the last CRC byte (R92, R413, R421). -/
def framed (body : List Byte) (bad : Bool) : List RingChar :=
  let crc := crc32c body ^^^ (if bad then 0x01000000#32 else 0)
  let l := [ctlChar 0xFB] ++ (body ++ leBytes 4 crc.toNat).map dataChar ++ [ctlChar 0xFD]
  l ++ List.replicate ((4 - l.length % 4) % 4) (ctlChar 0x7C)

/-- A downstream frame; at least one IDLE set parts it from the next frame (R92). -/
def ringFrame (typ dest seq : Nat) (payload : List Byte) : List RingChar :=
  framed (frameBody typ dest seq payload) false ++ idleSet

/-- A frame leaves a ring pair; with a test injection set, every N-th one leaves it corrupted (R421). -/
def State.ringPairOut (s : State) (p q : Nat) (body : List Byte) : State :=
  if s.idles p then s
  else if s.rd (R.DWL_PTEST_MODE p) = 2 then
    let n := mapGet 0 s.dwl.ringInj p + 1
    let s1 := { s with dwl := { s.dwl with ringInj := mapSet 0 s.dwl.ringInj p n } }
    if n % max 1 (s.rd (R.DWL_PTEST_N p)) = 0 then
      ((s1.bump (R.DWL_PINJ_CNT p) 1).emit (.ringCorrupt p q)).laneOut p (framed body true ++ idleSet)
    else s1.laneOut p (framed body false ++ idleSet)
  else s.laneOut p (framed body false ++ idleSet)

/-- A downstream frame: it takes the ring's next sequence number, one on one direction only too (R89, R92). `dirs` is 1 for
CW, 2 for CCW, 3 for both; pair 2r carries CW and pair 2r + 1 CCW. -/
def State.sendRing (s : State) (r typ dest : Nat) (payload : List Byte) (dirs : Nat) : State :=
  let q := (s.ringSt r).seq
  let s1 := (s.setRing r (fun x => { x with seq := (q + 1) % 65536 })).ringOut r dirs (fun d => .ring r d (ringFrame typ dest q payload))
  let body := frameBody typ dest q payload
  (s1.when (dirs % 2 == 1) (·.ringPairOut (2 * r) q body)).when (decide (2 ≤ dirs)) (·.ringPairOut (2 * r + 1) q body)

/-- An enabled ring. -/
def State.ringEn (s : State) (r : Nat) : Bool := (s.rd R.BTN_CTL_RINGEN).testBit r

/-- A ring that is up. -/
def State.ringUp (s : State) (r : Nat) : Bool := (s.rd R.BTN_STATUS_RINGUP).testBit r

/-- A driver that was enumerated on a ring that is up, and that no two breaks cut off (R104, R115). -/
def State.drvUp (s : State) (n : Nat) : Bool :=
  s.ringEn (ringOf n) && s.ringUp (ringOf n) && s.on (R.BTN_DID_PRESENT n) && !(s.drv n).cutOff

/-- A change on every ring that a test picks, in order. -/
def State.onRings (s : State) (p : State → Nat → Bool) (f : State → Nat → State) : State :=
  (List.range 8).foldl (fun t r => if p t r then f t r else t) s

/-! ### Tables of an epoch -/

/-- A sightline entry (R105). -/
structure Sight where
  channel : Nat
  valid   : Bool
  budget  : Nat
  azOfs   : Int
  elOfs   : Int
  refCh   : Nat
  refVal  : Bool
  refPos  : Nat
deriving DecidableEq, Repr

/-- Two's complement reading of a field of `w` bits. -/
def toSigned (w v : Nat) : Int := if 2 * v < 2 ^ w then (v : Int) else (v : Int) - (2 : Int) ^ w

/-- A sightline entry from its 16 bytes (R105). -/
def Sight.parse (b : List Byte) : Sight :=
  let w0 := fieldAt b 0 2
  let w8 := fieldAt b 8 2
  { channel := bits w0 0 10, valid := w0.testBit 10, budget := fieldAt b 2 2, azOfs := toSigned 16 (fieldAt b 4 2)
    elOfs := toSigned 16 (fieldAt b 6 2), refCh := bits w8 0 10, refVal := w8.testBit 10, refPos := fieldAt b 10 2 }

/-- The bytes of sightline entry i of a table. -/
def State.sightBytes (s : State) (addr i : Nat) : List Byte := s.hbmBytes (addr + 16 * i) 16

/-- The sightline entry of an emitter in an epoch (R105): row index 32n + row, column. -/
def State.sight (s : State) (epoch row col : Nat) : Sight :=
  Sight.parse (s.sightBytes (s.epochCfg epoch).sightAddr (32 * row + col))

/-- IMAX and KNEE of a row in an epoch (R106). -/
def State.rowEntry (s : State) (epoch row : Nat) : Nat × Nat :=
  let w := leNat (s.hbmBytes ((s.epochCfg epoch).rowAddr + 4 * row) 4)
  (bits w 0 10, bits w 10 12)

/-- A sightline entry passes the checks of staging: its CRC and its reserved fields (R105, R106). -/
def sightGood (b : List Byte) : Bool :=
  (crc16 (b.take 14)).toNat == fieldAt b 14 2 && bits (fieldAt b 0 2) 11 5 == 0 && bits (fieldAt b 8 2) 11 5 == 0
    && fieldAt b 12 2 == 0

/-! ### Fires that will not be sent -/

/-- A fire becomes void for the bursts of some columns; a proof pulse that opened no burst serves none (R139, R142). -/
def State.voidOf (s : State) (f : Fire) (col : Nat → Bool) : State :=
  if f.cols.isEmpty then s else s.voidFire f.driver f.tag col

/-- A fire is taken from Batten's schedule and reported to Peg as not sent: its shot is void for every column that opened a
burst (R113, R139). -/
def State.discardFire (s : State) (f : Fire) : State :=
  let s1 : State := { s with btn := { s.btn with fires := s.btn.fires.filter (fun g => !(g == f))
                                                 proofs := s.btn.proofs.filter (fun p => !f.cols.any (·.2 == p.burst)) } }
  if f.stage == .sent then s1 else s1.voidOf f (fun _ => true)

/-- Every fire not yet transmitted that a test picks is discarded. -/
def State.discardFires (s : State) (p : Fire → Bool) : State :=
  (s.btn.fires.filter (fun f => f.stage != .sent && p f)).foldl State.discardFire s

/-! ### HUSH and RESUME -/

/-- The hush generation as payload bytes. -/
def State.hushGenBytes (s : State) : List Byte := leBytes 2 (s.rd R.BTN_HUSHGEN_GEN)

/-- HUSH sets on both directions of a ring (R113). -/
def State.hushSets (s : State) (r n : Nat) : State :=
  let chars := (List.replicate n hushSet).flatten
  ((s.ringOut r 3 (fun d => .ringSets r d hushSet n)).laneOut (2 * r) chars).laneOut (2 * r + 1) chars

/-- HUSH sets for 1 us on a ring: 240 of them at 960 M characters per second (R91, R113). -/
def State.hushRing (s : State) (r : Nat) : State := s.hushSets r 240

/-- A hush request of Truss (R113): the generation counts, every enabled ring carries HUSH, and every fire not yet
transmitted is discarded. A TRIM is never sent during a HUSH. -/
def State.hushStart (s : State) : State :=
  let s1 := (s.count R.BTN_HUSHGEN_GEN 1).wr R.BTN_STATUS_HUSHED 1
  let s2 := s1.onRings State.ringEn State.hushRing
  ({ s2 with btn := { s2.btn with hushing := true } } : State).discardFires (fun _ => true)

/-- The request stands on: one HUSH set and one HUSHGEN frame every microsecond (R113). -/
def State.hushRepeat (s : State) : State :=
  s.onRings State.ringEn (fun t r => (t.hushSets r 1).sendRing r 0x0B 0xFF t.hushGenBytes 3)

/-- RESUME with the generation in force, on every ring that is up, once the request is withdrawn (R113, R115). -/
def State.hushEnd (s : State) : State :=
  let s1 := s.onRings (fun t r => t.ringEn r && t.ringUp r)
    (fun t r => t.sendRing r 0x04 0xFF t.hushGenBytes 3)
  ({ s1 with btn := { s1.btn with hushing := false } } : State).wr R.BTN_STATUS_HUSHED 0

end Sys2Proof.Machine
end

