-- ==== Sys2Proof/Machine/Truss.lean ====
section
/-!
DEFINITION. Truss (R290 to R318): states, holds and outputs, the reaction to faults, the ARM checks, and the exposure
monitor. States are coded as in R294: 0 SAFE, 1 ARMED, 2 LIMP, 3 LOCKOUT, 4 HALT.
-/
namespace Sys2Proof.Machine

/-! ### States, holds and outputs -/

/-- The state code of R294. -/
def State.trsState (s : State) : Nat := s.rd R.TRS_STATE_STATE

/-- An input counts as closed: its pair is unused, or its state is CLOSED (R306, R312). -/
def State.inputClosed (s : State) (k : Nat) : Bool :=
  s.rd (R.TRS_INCFG_MODE k) == 0 || s.rd (R.TRS_INSTAT_STATE k) == 0

/-- A hold of an input with its DARK bit set (R295). -/
def State.inputHold (s : State) (k : Nat) : Bool := s.on (R.TRS_INCFG_DARK k) && !s.inputClosed k

/-- Any hold of R295 stands. -/
def State.anyHold (s : State) : Bool :=
  !s.on R.TNN_STATUS_SCANVALID || s.trs.darkHold || s.trs.resetHold || (List.range 8).any s.inputHold

/-- Light is permitted: ARMED or LIMP, and no hold (R294). -/
def State.lightOk (s : State) : Bool := (s.trsState == 1 || s.trsState == 2) && !s.anyHold && !s.trs.wdog

/-- Every input that output k needs is closed (R312). -/
def State.inputsFor (s : State) (k : Nat) : Bool :=
  (List.range 8).all (fun i => !(s.rd (R.TRS_SOUTCFG_INMASK k)).testBit i || s.inputClosed i)

/-- The level Truss commands on SOUT[k] (R312, R313). -/
def State.soutLevel (s : State) (k : Nat) : Bool :=
  let st := s.trsState
  (st == 1 || st == 2) && !s.trs.wdog && s.on (R.TRS_SOUTCFG_EN k) && !s.on (R.TRS_SOUTCFG_HOSTOFF k)
    && (!s.on (R.TRS_SOUTCFG_SCANREQ k) || st == 1 || s.on R.TRS_LIMPCFG_LIMPKEEP)
    && s.inputsFor k && !s.trs.restart.getLsbD k && !s.trs.outFault.getLsbD k

/-- A change of Truss's own record. -/
def State.onTrs (s : State) (f : TrsState → TrsState) : State := { s with trs := f s.trs }

/-- The commanded SOUT levels. -/
def State.soutCmd (s : State) : Nat := s.rd R.TRS_STATE_SOUTCMD

/-- One safety output follows R312; an output that goes low because of an input waits for a restart where RESTART is 1. -/
def State.soutStep (s : State) (k : Nat) : State :=
  let old := s.soutCmd.testBit k
  let new := s.soutLevel k
  let s1 := if old && !new && s.on (R.TRS_SOUTCFG_RESTART k) && !s.inputsFor k then
      s.onTrs (fun t => { t with restart := t.restart ||| BitVec.ofNat 4 (2 ^ k) })
    else s
  if old == new then s1 else (s1.wr R.TRS_STATE_SOUTCMD (putBit s1.soutCmd k new)).emit (.sout k new)

/-- DARK_N and the hush request when light is not permitted: the request is raised and DARK_N driven low (R304). -/
def State.goDark (s : State) : State :=
  let s1 := s.onTrs (fun t => { t with darkRel := false, withdraw := false })
  let s2 := if s1.on R.TRS_STATE_DARKCMD then
      ((s1.wr R.TRS_STATE_DARKCMD 0).emit (.darkN false)).onTrs (fun t => { t with darkTick := s1.clk.porTicks })
    else s1
  if s2.trs.hushReq then s2 else (s2.onTrs (fun t => { t with hushReq := true })).hushStart

/-- DARK_N driven high; the hush request is withdrawn 40 Truss cycles later (R295). -/
def State.darkHigh (s : State) : State :=
  ((s.wr R.TRS_STATE_DARKCMD 1).emit (.darkN true)).onTrs (fun t =>
    { t with darkRel := false, withdraw := t.hushReq, darkTick := s.clk.porTicks })

/-- DARK_N when light is permitted: high at once, but no earlier than 10 us after it was driven low (R304). -/
def State.goLight (s : State) : State :=
  if s.on R.TRS_STATE_DARKCMD then s
  else if s.clk.porTicks < s.trs.darkTick + 2000 then s.onTrs (fun t => { t with darkRel := true })
  else s.darkHigh

/-- A safety state change marker (R227, R318): none is committed between the reset instant of a full reset and stage
HOST_LINK, but the event counts. -/
def State.trsMarker (s : State) (prev cause : Nat) : State :=
  let s1 := s.count R.TRS_EVENT_NUM 1
  if !s1.boot.linked && s1.rd R.GLB_RSTCAUSE_RSTCNT != 0 then s1
  else
    s1.markNow 3 (leBytes 1 s1.trsState ++ leBytes 1 prev ++ leBytes 2 cause
      ++ leBytes 1 (s1.soutCmd + 16 * s1.rd R.TRS_STATE_DARKCMD) ++ leBytes 4 (s1.rd R.TRS_EVENT_NUM))

/-- Holds, light, stop paths and outputs follow the state and its inputs; a change of state or of a commanded level raises
one marker with the cause given (R295, R304, R312, R318). `prev` is the state before the event. -/
def State.trsEvalFrom (s : State) (prev cause : Nat) : State :=
  let lv := (s.rd R.TRS_STATE_DARKCMD, s.soutCmd)
  let s1 := (s.wrB R.TRS_STATE_HOLD s.anyHold).wrB R.TRS_STATE_LIGHT s.lightOk
  let s2 := if s1.lightOk then s1.goLight else s1.goDark
  let s3 := (List.range 4).foldl State.soutStep s2
  if prev != s3.trsState || lv != (s3.rd R.TRS_STATE_DARKCMD, s3.soutCmd) then s3.trsMarker prev cause else s3

/-- The same after an event that leaves the state. -/
def State.trsEval (s : State) (cause : Nat) : State := s.trsEvalFrom s.trsState cause

/-- A change of state with its cause and detail (R294, R318). -/
def State.setTrs (s : State) (st cause detail : Nat) : State :=
  let prev := s.trsState
  if prev = st then s.trsEval cause
  else
    let s1 := ((s.wr R.TRS_STATE_STATE st).wr R.TRS_LASTCAUSE_CAUSE cause).wr R.TRS_LASTCAUSE_DETAIL detail
    (s1.flag R.TRS_INTSTAT_STATECHG).trsEvalFrom prev cause

/-- A report of Truss: code = cause, severity 4, unit and detail = the DETAIL of the cause (R461). -/
def State.trsReport (s : State) (cause detail : Nat) : State :=
  s.report 11 cause 4 detail (BitVec.ofNat 64 detail)

/-! ### Faults (R315, R316) -/

/-- A fault marked LIMP in the Fepoas column. -/
def limpEligible (cause : Nat) : Bool := cause == 0x0201 || cause == 0x0204 || cause == 0x0205

/-- Entry to LIMP (R305, R316): DARK_N stays high, and the hush request is raised for 1 us. -/
def State.enterLimp (s : State) (cause detail : Nat) : State :=
  let s1 := s.onTrs (fun t => { t with limp := [{ cause := cause, detail := detail }] })
  let s2 := (s1.flag R.TRS_INTSTAT_LIMP).setTrs 2 cause detail
  if s2.lightOk && !s2.trs.hushReq then
    (s2.onTrs (fun t => { t with hushReq := true, withdraw := true })).hushStart
  else s2

/-- The interrupt flag of a fault's class. -/
def State.trsClassFlag (s : State) (cause : Nat) : State :=
  if cause / 256 = 1 then s.flag R.TRS_INTSTAT_EXPFAULT
  else if cause / 256 = 2 then s.flag R.TRS_INTSTAT_DEVFAULT
  else s

/-- The reaction to a fault (R315, R316): HALT for a Truss-internal fault from every state but HALT; any other fault is
only logged in LOCKOUT, starts or joins the limp window if it may, and leads to LOCKOUT otherwise. -/
def State.trussFault (s : State) (cause detail : Nat) : State :=
  if s.trsState = 4 then s
  else
    let s1 := (s.trsClassFlag cause).trsReport cause detail
    if cause / 256 = 3 then (s1.onTrs (fun t => { t with limp := [] })).setTrs 4 cause detail
    else if s1.trsState = 3 then s1.trsEval cause
    else if s1.on R.TRS_CTL_FEPOAS && limpEligible cause && s1.trsState == 1 then s1.enterLimp cause detail
    else if s1.on R.TRS_CTL_FEPOAS && limpEligible cause && s1.trsState == 2 then
      (s1.onTrs (fun t => { t with limp := t.limp ++ [{ cause := cause, detail := detail }] })).trsEval cause
    else (s1.onTrs (fun t => { t with limp := [] })).setTrs 3 cause detail

/-- An output's feedback disagrees with its level (R313). -/
def State.fbStands (s : State) (k : Nat) : Bool := decide (2 ≤ mapGet 0 s.trs.fbBad k)

/-- A condition of the fault table stands (ARM check 1, R317). -/
def State.condStands (s : State) : Bool :=
  s.rd R.TRS_SUPSTAT_INWIN != 0xFFFF || s.trs.clkFault || s.thm.shut || s.trs.hbFault || s.trs.memFault
    || s.trs.kacFault || s.trs.phFault || s.trs.darkBad != 0 || (List.range 4).any s.fbStands

/-- A fault of the limp window has gone (R316). -/
def State.limpAbsent (s : State) (f : LimpFault) : Bool :=
  if f.cause = 0x0201 then (s.rd R.TRS_SUPSTAT_INWIN).testBit f.detail
  else if f.cause = 0x0204 then !s.fbStands f.detail
  else !s.trs.hbFault

/-! ### Geometry and phase (R291, R297) -/

/-- FACETS, HALFW, DEADOFS and NSECT as Truss holds them. -/
def State.nsect (s : State) : Nat := 2 ^ min (s.rd R.TRS_EXPCFG_SECTLOG) 6

/-- phi_T is valid: an index edge has come within the last 1.5 revolutions (R291). -/
def State.phiValid (s : State) : Bool :=
  let p := s.trs.phase
  p.seen && p.revCnt != 0 && p.revLsb != 0 && decide (2 * (s.nowLsb - p.indexLsb) ≤ 3 * p.revLsb)

/-- The denominator of the phase fractions of `facetPos`. -/
def State.phiDen (s : State) : Nat := s.trs.phase.revCnt * s.trs.phase.revLsb * 2 ^ 32

/-- x of R297 times `phiDen`: the place inside a facet at a root instant, phi_T being extrapolated at the speed of the last
revolution. -/
def State.facetPos (s : State) (lsb : Nat) : Nat :=
  let p := s.trs.phase
  let d := p.revCnt * p.revLsb
  let num : Int := (p.counts : Int) * p.revLsb + ((lsb : Int) - (p.edgeLsb : Int)) * p.revCnt
  (((s.rd R.TRS_GEOM_FACETS : Int) * (num * 2 ^ 32 - (s.rd R.TRS_DEADOFS_DEADOFS : Int) * d)) % (s.phiDen : Int)).toNat

/-- The instant lies within h = HALFW / 2^16 turn of a facet boundary (R300). -/
def State.nearBoundary (s : State) (lsb : Nat) : Bool :=
  let x := s.facetPos lsb
  let m := s.phiDen
  decide (min x (m - x) * 2 ^ 16 ≤ s.rd R.TRS_GEOM_HALFW * s.rd R.TRS_GEOM_FACETS * m)

/-- The direction a column strikes (R297). -/
def State.direction (s : State) (proof : Bool) (budget lsb : Nat) : Nat :=
  if proof then s.rd R.TRS_EXPCFG_ABSDIR else budget + s.nsect * s.facetPos lsb / max s.phiDen 1

/-! ### Budgets and accumulators (R298 to R301) -/

/-- The active budget bank. -/
def State.budBank (s : State) : BudBank := if s.on R.TRS_BUDCFG_ACTBANK then s.trs.bankB else s.trs.bankA

/-- A budget entry from its 16 bytes, with the checks of R298. -/
def BudEntry.parse (b : List Byte) : Option BudEntry :=
  let w0 := fieldAt b 0 4
  let w12 := fieldAt b 12 2
  if (crc16 (b.take 14)).toNat == fieldAt b 14 2 && bits w0 18 14 == 0 && bits w12 2 14 == 0 then
    some { pulseMax := bits w0 0 18, lim1 := fieldAt b 4 4, lim2 := fieldAt b 8 4, valid := w12.testBit 0
           absorb := w12.testBit 1 }
  else none

/-- Entry ABSDIR of a bank is VALID with ABSORB set (R296 check 2, R298). -/
def BudBank.absorber (b : BudBank) (dir : Nat) : Bool :=
  decide (1 ≤ b.ndir) && decide (b.ndir ≤ 4096) && decide (dir < b.ndir) &&
    (match b.entries[dir]? with | some e => e.valid && e.absorb | none => false)

/-- An accumulator without a charge. -/
def Accum.zero : Accum := { cur := 0, done := [] }

/-- 16 times the sum of an accumulator (R299): the current bucket, the completed ones, and the completed buckets that still
stand at one sixteenth of the limit (R301). -/
def Accum.sum16 (a : Accum) (prime lim : Nat) : Nat := 16 * (a.cur + (a.done.take (16 - prime)).sum) + prime * lim

/-- A charge into the current bucket. -/
def Accum.charge (a : Accum) (e : Nat) : Accum := { a with cur := a.cur + e }

/-- The end of a bucket (R299). -/
def Accum.roll (a : Accum) : Accum := { cur := 0, done := (a.cur :: a.done).take 16 }

/-- f in per cent: 100, or LIMPPCT in LIMP (R300). -/
def State.limpPct (s : State) : Nat :=
  if s.trsState = 2 then clampN 1 25 (s.rd R.TRS_LIMPCFG_LIMPPCT) else 100

/-- The energy limits of a direction allow a charge e (R300). -/
def State.energyOk (s : State) (b : BudEntry) (d e : Nat) : Bool :=
  let f := s.limpPct
  let l2 := 256 * b.lim2
  decide (100 * e ≤ b.pulseMax * f)
    && decide (100 * ((mapGet .zero s.trs.acc1 d).sum16 s.trs.prime1 b.lim1 + 16 * e) ≤ 16 * f * b.lim1)
    && decide (100 * ((mapGet .zero s.trs.acc2 d).sum16 s.trs.prime2 l2 + 16 * e) ≤ 16 * f * l2)

/-- Truss's copy of an emitter's BUDGET in an epoch: VALID and BUDGET (R297). -/
def State.budgetCopy (s : State) (epoch idx : Nat) : Option (Bool × Nat) :=
  match s.trs.budCopy.find? (fun p => p.1 == epoch) with
  | some p => p.2[idx]?
  | none => none

/-- One column of a submitted fire is judged and, if allowed, charged at once (R297, R300). `budget` is what Batten passes
for the column. -/
def State.judgeCol (s : State) (f : Fire) (col budget : Nat) : State × Bool :=
  let lsb := 8 * f.time
  let e := f.cur * f.width
  let deny (t : State) : State × Bool := ((t.bump R.TRS_DENY_CNT 1).flag R.TRS_INTSTAT_DENY, false)
  let d := s.direction f.proof budget lsb
  if !s.lightOk || !s.phiValid then deny s
  else if s.budgetCopy f.epoch (32 * f.row + col) != some (true, budget) || decide (s.budBank.ndir ≤ d) then
    deny (s.trussFault 0x0105 (32 * f.row + col))
  else
    match s.budBank.entries[d]? with
    | none => deny s
    | some b =>
      if b.valid && b.absorb == f.proof && s.nearBoundary lsb == f.proof && s.energyOk b d e then
        (s.onTrs (fun t => { t with acc1 := mapSet .zero t.acc1 d ((mapGet .zero t.acc1 d).charge e),
                                    acc2 := mapSet .zero t.acc2 d ((mapGet .zero t.acc2 d).charge e) }), true)
      else deny s

/-- The allowed mask of a submitted fire: its columns are judged in ascending order (R300). -/
def State.judgeFire (s : State) (f : Fire) (budgets : List (Nat × Nat)) : State × BitVec 32 :=
  let (s1, m) := budgets.foldl (fun (p : State × BitVec 32) cb =>
    let (t, ok) := p.1.judgeCol f cb.1 cb.2
    (t, if ok then p.2 ||| BitVec.ofNat 32 (2 ^ cb.1) else p.2)) (s, 0#32)
  (s1.onTrs (fun t => { t with allowed :=
    { driver := f.driver, tag := f.tag, mask := m } :: t.allowed.filter (fun a => !(a.driver == f.driver && a.tag == f.tag)) }), m)

/-! ### ARM checks (R296) -/

/-- Check 3: every VALID sightline entry of the current epoch fits the bank, and Truss's copy equals the table. -/
def State.armSightlines (s : State) : Bool :=
  let addr := (s.epochCfg s.peg.active).sightAddr
  (List.range 65536).all (fun i =>
    let e := Sight.parse (s.sightBytes addr i)
    !e.valid || (decide (e.budget + s.nsect ≤ s.budBank.ndir)
      && s.budgetCopy s.peg.active i == some (true, e.budget)))

/-- Check 4: Truss's geometry equals Tenon's. -/
def State.armGeometry (s : State) : Bool :=
  s.rd R.TRS_GEOM_FACETS == s.rd R.TNN_SPCFG_FACETS && s.rd R.TRS_GEOM_HALFW == s.rd R.TNN_DEADCFG_HALFW
    && s.rd R.TRS_DEADOFS_DEADOFS == s.rd R.TNN_DEADOFS_DEADOFS

/-- FBDLY and OPW as they act (R321). -/
def State.fbdlyEff (s : State) : Nat := max 1 (s.rd R.TRS_FBDLY_FBDLY)

/-- OPW as it acts. -/
def State.opwEff (s : State) : Nat := clampN 1 500 (s.rd R.TRS_OPCFG_OPW)

/-- The number of the first ARM check that fails; 0 when all pass. `fb` is the outcome of the output test of check 6. -/
def State.armCheck (s : State) (fb : Bool) : Nat :=
  if s.condStands then 1
  else if !s.budBank.absorber (s.rd R.TRS_EXPCFG_ABSDIR) then 2
  else if !s.armSightlines then 3
  else if !s.armGeometry then 4
  else if s.opwEff ≤ s.fbdlyEff then 5
  else if !fb then 6
  else if s.on R.TRS_STATE_DARKPIN then 7
  else 0

/-- Check 6 pulses every enabled output that is commanded on (R296, R313). -/
def State.armPulses (s : State) : State :=
  (List.range 4).foldl (fun t k => if t.on (R.TRS_SOUTCFG_EN k) && t.soutCmd.testBit k then t.emit (.soutPulse k) else t) s

/-- The end of the ARM checks (R296, R317): SAFE is left for ARMED, a lock-out is released; a failed check leads to SAFE, or leaves
Truss there, with its cause and the check's number. -/
def State.armResult (s : State) (fb : Bool) : State :=
  let n := s.armCheck fb
  let rel := s.trs.armDue == .release
  let s1 := s.armPulses.onTrs (fun t => { t with armDue := .none, rwkSince := false })
  if n = 0 then
    let keep := !(s.trs.armDue == .stage)
    let s2 := s1.onTrs (fun t =>
      { t with darkHold := s1.on R.TRS_CTL_DARKREQ, rwkUnder := false, resetHold := t.resetHold && keep })
    if s2.trsState = 0 then s2.setTrs 1 0x0401 0
    else if rel && s2.trsState == 3 then s2.setTrs 1 0x0403 0
    else s2.trsEval 0
  else
    let s2 := s1.onTrs (fun t => { t with limp := [], resetHold := t.resetHold && !(s.trs.armDue == .stage) })
    let s3 := (s2.flag R.TRS_INTSTAT_ARMREF).trsReport 0x0402 n
    if s3.trsState = 4 || (s3.trsState = 3 && !rel) then s3.trsEval 0x0402
    else if s3.trsState = 0 then
      ((s3.wr R.TRS_LASTCAUSE_CAUSE 0x0402).wr R.TRS_LASTCAUSE_DETAIL n).trsEval 0x0402
    else s3.setTrs 0 0x0402 n

/-- A refused RWK write: counted and logged with the BAR0 offset of its register (R292, R318). -/
def State.rwkReject (s : State) (offset : Nat) : State :=
  (s.bump R.TRS_RWKREJ_CNT 1).trsReport 0x0501 offset

/-- A changed RWK field is noted for the ARM checks (R293, R296). -/
def State.rwkNote (s : State) (exposure : Bool) : State :=
  s.onTrs (fun t => { t with rwkSince := true, rwkUnder := t.rwkUnder || (exposure && t.darkHold) })

/-- The fields of R293 may be written: SAFE, LOCKOUT, or a standing DARKREQ hold. -/
def State.rwkStateOk (s : State) : Bool := s.trsState == 0 || s.trsState == 3 || s.trs.darkHold

/-- An input's record. -/
def TrsInput.zero : TrsInput := { cntA := 0, cntB := 0, disc := 0, bothOpen := false, changes := [], unusedHi := 0 }

/-- The record of input k. -/
def State.input (s : State) (k : Nat) : TrsInput := mapGet .zero s.trs.inputs k

/-- A change of the record of input k. -/
def State.setInput (s : State) (k : Nat) (f : TrsInput → TrsInput) : State :=
  s.onTrs (fun t => { t with inputs := mapSet .zero t.inputs k (f (mapGet .zero t.inputs k)) })

/-- What follows a change of an input's MODE: an unused pair reads UNUSED; a pair newly used, or used in another sense, starts in
DEMAND with both channels open until both are accepted closed (R306, R308). -/
def State.inputMode (s : State) (k old : Nat) : State :=
  let m := s.rd (R.TRS_INCFG_MODE k)
  if m = old then s
  else
    let s1 := s.setInput k (fun _ => .zero)
    if m = 0 then s1.wr (R.TRS_INSTAT_STATE k) 3
    else ((s1.wr (R.TRS_INSTAT_STATE k) 1).wr (R.TRS_INSTAT_ALVL k) 0).wrB (R.TRS_INSTAT_BLVL k) (m == 2)

end Sys2Proof.Machine
end

