-- ==== Sys2Proof/Machine/Batten.lean ====
section
/-!
DEFINITION. The commands of Batten (R87 to R121): submission and transmission of fires, grants, upstream frames, ring
bring-up and delay calibration, and emitter diagnostics. Times on the root clock are in units of 78.125 ps, 64 to a
5 ns cycle (R95).
-/
namespace Sys2Proof.Machine

/-! ### Energy, masks and submission (R107 to R109) -/

/-- Current and width of an energy code on a row, rounded down (R107); none means no fire. -/
def fireEnergy (wnom imax knee ec : Nat) : Option (Nat × Nat) :=
  if ec = 0 || knee = 0 then none
  else
    let (i, w) := if knee ≤ ec then (imax * ec / 4095, wnom) else (imax * knee / 4095, wnom * ec / knee)
    if w = 0 || i = 0 then none else some (i, w)

/-- Current of a proof pulse; its width is W_NOM (R119). -/
def proofCurrent (imax proofEc : Nat) : Nat := imax * proofEc / 4095

/-- A row is blanked by host software or by R117 (R109). `row` is 32n + row. -/
def State.blanked (s : State) (n row : Nat) : Bool :=
  (s.rd (R.BTN_RBLANK_BLANK n)).testBit row || (s.rd (R.BTN_RAUTO_AUTO n)).testBit row

/-- A column is declared failed (R117). -/
def State.failed (s : State) (row col : Nat) : Bool := (s.rd (R.BTN_EMFAIL_FAIL row)).testBit col

/-- A column stays in a fire's mask (R105, R108, R117): valid in the fire's epoch, not failed unless the fire is a proof
pulse. `row` is 32n + row. -/
def State.colStays (s : State) (f : Fire) (col : Nat) : Bool :=
  (s.sight f.epoch f.row col).valid && (f.proof || !s.failed f.row col)

/-- The columns a fire asks for: those that opened a burst, or every column of a proof pulse's row. -/
def State.fireCols (s : State) (f : Fire) : List Nat :=
  if f.proof then (List.range 32).filter (fun c => (s.sight f.epoch f.row c).valid)
  else sortNat (f.cols.map (·.1))

/-- The next fire of a driver at a stage: the earliest. -/
def State.nextFire (s : State) (n : Nat) (st : FireStage) : Option Fire :=
  (s.btn.fires.filter (fun f => f.driver == n && f.stage == st)).foldl
    (fun o f => match o with | none => some f | some g => if f.time < g.time then some f else some g) none

/-- A fire in the schedule is replaced. -/
def State.putFire (s : State) (old new : Fire) : State :=
  { s with btn := { s.btn with fires := updateWhere (· == old) (fun _ => new) s.btn.fires } }

/-- Two fire times lie less than 2,000 ns apart (R109). -/
def nearFires (a b : Nat) : Bool := decide (a < b + 25600) && decide (b < a + 25600)

/-- The fires of the driver, submitted and not yet sent, that lie too close behind a fire in TIME (R109). -/
def State.laterNear (s : State) (f : Fire) : List Fire :=
  s.btn.fires.filter (fun g => g.driver == f.driver && g.stage == .submitted && decide (f.time < g.time) && nearFires f.time g.time)

/-- A fire lies too close to one of its driver's that Batten has sent, or has submitted for no later a TIME (R109). -/
def State.tooClose (s : State) (f : Fire) : Bool :=
  (match (s.drv f.driver).lastFire with | some t => nearFires f.time t | none => false)
    || s.btn.fires.any (fun g => g.driver == f.driver && nearFires f.time g.time
        && (g.stage == .sent || (g.stage == .submitted && decide (g.time ≤ f.time))))

/-- A fire is dropped as a schedule conflict (R109, R140). -/
def State.conflictFire (s : State) (f : Fire) : State := (s.discardFire f).fault R.PEG_INTSTAT_SCONFLICT 1 f.driver

/-- Current and width of a fire, from the row table of its epoch (R107, R119). -/
def State.fireDrive (s : State) (f : Fire) : Option (Nat × Nat) :=
  let (imax, knee) := s.rowEntry f.epoch f.row
  if f.proof then
    let i := proofCurrent imax (s.rd R.BTN_PROOFCFG_PROOFEC)
    if i = 0 then none else some (i, s.rd R.BTN_WNOM_WNOM)
  else fireEnergy (s.rd R.BTN_WNOM_WNOM) imax knee f.ec

/-- A fire whose drive is known is submitted to the exposure monitor (R108): columns removed from its mask are void for the
bursts they opened, and an empty mask means it is not sent. -/
def State.submitFire (s : State) (f : Fire) (cur width : Nat) : State :=
  let cols := if s.blanked f.driver (f.row % 32) then [] else (s.fireCols f).filter (s.colStays f)
  let f1 : Fire := { f with cur := cur, width := width }
  let (s1, m) := s.judgeFire f1 (cols.map (fun c => (c, (s.sight f.epoch f.row c).budget)))
  if m = 0 then s1.discardFire f
  else (s1.voidOf f (fun c => !m.getLsbD c)).putFire f { f1 with mask := m, stage := .submitted }

/-- FIRE_SUBMISSION (R108): Batten submits a driver's next planned fire. A fire too low in energy is not fired (R107); of two fires
less than 2,000 ns apart the one of the later TIME is dropped (R109). -/
def execFireSubmission (n : Fin 64) (s : State) : Host.Outcome State Fault Refusal :=
  match s.nextFire n.val .planned with
  | none => s.done
  | some f =>
    if s.tooClose f then (s.conflictFire f).done
    else
      match s.fireDrive f with
      | none => (s.discardFire f).done
      | some (i, w) => (((s.laterNear f).foldl State.conflictFire s).submitFire f i w).done

/-! ### Transmission (R89, R95, R110) -/

/-- Driver time of a root instant in units of 78.125 ps: device time times 12.8, modulo 2^44 (R98). -/
def State.driverTime (s : State) (u : Nat) : Nat :=
  ((((s.clk.devTime.toNat * 64 / 5 : Nat) : Int) + ((u : Int) - ((64 * s.clk.ticks : Nat) : Int))) % (2 : Int) ^ 44).toNat

/-- The FIRE payload (R95). -/
def State.firePayload (s : State) (f : Fire) : List Byte :=
  leBytes 6 (s.driverTime f.time) ++ leBytes 2 (f.tag + 512 * (f.row % 32) + 16384 * f.proof.toNat)
    ++ leBytes 4 f.mask.toNat ++ leBytes 2 f.cur ++ leBytes 1 f.width ++ leBytes 1 f.epoch

/-- A root instant (LSB) lies in a published dead angle (R65). -/
def State.inWindow (s : State) (lsb : Nat) : Bool :=
  s.btn.windows.any (fun w => decide (w.start ≤ lsb) && decide (lsb ≤ w.stop))

/-- A submitted fire may be transmitted: its driver is up and not stopped (R115, R118), its row is not blanked (R109), a scanning shot
lies outside every published dead angle, and a proof pulse inside one that still stands (R119, R139, R141). -/
def State.mayTransmit (s : State) (f : Fire) : Bool :=
  s.drvUp f.driver && !(s.drv f.driver).stopped && !s.blanked f.driver (f.row % 32) && (s.inWindow (8 * f.time) == f.proof)

/-- The rows that a driver has. -/
def State.rowsOf (s : State) (n : Nat) : Nat := s.rd (R.BTN_DID_ROWSM1 n) + 1

/-- The next unblanked row in ascending order, wrapping (R119, R126). -/
def State.nextRow (s : State) (n start : Nat) : Option Nat :=
  ((List.range 32).map (fun i => (start + i) % 32)).find? (fun r => decide (r < s.rowsOf n) && !s.blanked n r)

/-- The cursor of a driver when a fire is sent: a proof pulse of the row at the cursor moves it on, a skipped row keeps its place
there (R119). -/
def State.cursorSent (s : State) (f : Fire) : Nat :=
  let c := (s.drv f.driver).cursor
  if f.proof && s.nextRow f.driver c == some (f.row % 32) then (f.row + 1) % 32 else c

/-- RES of a driver for a shot at a root instant: a TRIM acts from its effective time on (R103). -/
def State.resAt (s : State) (n u : Nat) : Int :=
  let r := s.rdS (R.BTN_DRES_RES n)
  match (s.drv n).trim with
  | some (d, eff) => if eff ≤ u then r + 8 * d else r
  | none => r

/-- A transmitted fire is seen by the gates and triggers of the waveform path; those too far back for any offset leave (R272,
R277). -/
def State.noteShot (s : State) (f : Fire) : State :=
  let x : ShotSeen := { driver := f.driver, tag := f.tag, row := f.row % 32, proof := f.proof
                        lsb := ((8 * f.time : Nat) : Int) + s.resAt f.driver f.time }
  let keep := s.wfp.shots.filter (fun y => decide ((s.nowLsb : Int) < y.lsb + 1073741824))
  { s with wfp := { s.wfp with shots := x :: keep } }

/-- FIRE_TRANSMIT (R110): the next submitted fire goes out on both directions, or is discarded. -/
def execFireTransmit (n : Fin 64) (s : State) : Host.Outcome State Fault Refusal :=
  match s.nextFire n.val .submitted with
  | none => s.done
  | some f =>
    if !s.mayTransmit f then (s.discardFire f).done
    else
      let s1 := s.sendRing (ringOf n.val) 0x01 (addrOf n.val) (s.firePayload f) 3
      (((s1.putFire f { f with stage := .sent }).noteShot f).setDrv n.val (fun d =>
        { d with lastFire := some f.time, cursor := s.cursorSent f })).done

/-! ### Grants (R93) -/

/-- Round-robin advance. -/
def rrNext (i n : Nat) : Nat := (i + 1) % max n 1

/-- One more grant that has no answer yet. -/
def State.missed (s : State) (r a : Nat) (ccw : Bool) : State :=
  s.setDrv (8 * r + a - 1) (fun d =>
    if ccw then { d with missCcw := d.missCcw + 1 } else { d with missCw := d.missCw + 1 })

/-- A grant on one direction. -/
def State.sendGrant (s : State) (r a : Nat) (ret ccw : Bool) : State :=
  ((s.ringOut r (if ccw then 2 else 1) (fun d => .ring r d (grantSet a ret))).laneOut (2 * r + ccw.toNat) (grantSet a ret)).missed r a ccw

/-- Addresses of the ring's drivers that a test picks. -/
def State.addrsOf (s : State) (r : Nat) (p : DrvState → Bool) : List Nat :=
  ((List.range (s.rd (R.BTN_RSTAT_NDRV r))).filter (fun i => p (s.drv (8 * r + i)))).map (· + 1)

/-- The next RGRANT of a direction, round-robin over the drivers that have answered its ECHO. -/
def State.sendReturn (s : State) (r i : Nat) (l : List Nat) (ccw : Bool) : State :=
  if l.isEmpty then s else s.sendGrant r (l.getD (i % l.length) 1) true ccw

/-- The next grants of a ring (R93): GRANTs on every direction whose loop is up, CCW half a cycle behind CW; with neither loop up,
RGRANTs on CW to the drivers before the break and on CCW to those behind it. -/
def State.grantRing (s : State) (r : Nat) : State :=
  let n := s.rd (R.BTN_RSTAT_NDRV r)
  let cw := s.on (R.BTN_RSTAT_CWUP r)
  let ccw := s.on (R.BTN_RSTAT_CCWUP r)
  let st := s.ringSt r
  let s1 := s.setRing r (fun x => { x with rrCw := rrNext x.rrCw n, rrCcw := rrNext x.rrCcw n })
  if n = 0 then s
  else if cw || ccw then
    let s2 := if cw then s1.sendGrant r (st.rrCw % n + 1) false false else s1
    if ccw then s2.sendGrant r (if cw then (st.rrCw + n - n / 2) % n + 1 else st.rrCcw % n + 1) false true else s2
  else (s1.sendReturn r st.rrCw (s.addrsOf r (·.seenCw)) false).sendReturn r st.rrCcw (s.addrsOf r (·.seenCcw)) true

/-- A ring bit of BTN_STATUS. -/
def State.setRingBit (s : State) (f : Fld) (r : Nat) (v : Bool) : State := s.wr f (putBit (s.rd f) r v)

/-- Both loops of a ring are up (R93). -/
def State.bothLoops (s : State) (r : Nat) : Bool := s.on (R.BTN_RSTAT_CWUP r) && s.on (R.BTN_RSTAT_CCWUP r)

/-- A direction of a ring returns frames again: every driver of the ring is reached, and no break is known (R93). -/
def State.ringDirBack (s : State) (r : Nat) (ccw : Bool) : State :=
  let s1 := (s.wr (if ccw then R.BTN_RSTAT_CCWUP r else R.BTN_RSTAT_CWUP r) 1).wr (R.BTN_RSTAT_BREAK r) 15
  let s2 := (List.range 8).foldl (fun t i =>
    t.setDrv (8 * r + i) (fun d => { d with cutOff := false, seenCw := false, seenCcw := false })) s1
  let s3 := s2.setRing r (fun x => { x with locating := false, back := none })
  if s3.bothLoops r && s3.ringUp r then s3.setRingBit R.BTN_STATUS_RINGDEG r false else s3

/-- An echo of a driver is under way. -/
def State.echoing (s : State) (n : Nat) : Bool := (s.drv n).echoCw.isSome || (s.drv n).echoCcw.isSome

/-- A direction whose adaptation has ended carries frames again once the echo check of its ring is over (R364). -/
def State.echoesDone (s : State) : State :=
  (List.range 8).foldl (fun t r =>
    match (t.ringSt r).back with
    | some ccw => if (List.range 8).any (fun i => t.echoing (8 * r + i)) then t else t.ringDirBack r ccw
    | none => t) s

/-- The echo check is over once no echo is under way (R103, R121). -/
def State.calEnd (s : State) : State :=
  let s1 := s.echoesDone
  if (List.range 64).any s1.echoing then s1 else (s1.wr R.BTN_STATUS_CALBUSY 0).wr R.BTN_CTL_RECAL 0

/-- Echoes that are under way on a ring's drivers come to nothing. -/
def State.dropEchoes (s : State) (r : Nat) : State :=
  ((List.range 8).foldl (fun t i => t.setDrv (8 * r + i) (fun d => { d with echoCw := none, echoCcw := none })) s).calEnd

/-- A ring is no longer up: its fires not yet transmitted are discarded. -/
def State.ringGone (s : State) (r : Nat) : State :=
  ((((s.setRing r (fun x => { x with locating := false, back := none })).discardFires (fun f => ringOf f.driver == r)).setRingBit
    R.BTN_STATUS_RINGUP r false).setRingBit R.BTN_STATUS_RINGDEG r false).dropEchoes r

/-- The ECHOs on both directions have told which drivers are reached from either side (R93, R115): BREAK names the segment if every
driver before it answered on CW alone and every one behind it on CCW alone; a driver that answered neither is cut off and its
fires not yet transmitted are discarded; with no driver left the ring is down. -/
def State.located (s : State) (r : Nat) : State :=
  let n := s.rd (R.BTN_RSTAT_NDRV r)
  let at' (i : Nat) : DrvState := s.drv (8 * r + i)
  let k := (s.addrsOf r (·.seenCw)).length
  let cut := (List.range n).filter (fun i => !(at' i).seenCw && !(at' i).seenCcw)
  let one := (List.range n).all (fun i => (at' i).seenCw == decide (i < k) && (at' i).seenCcw == decide (k ≤ i))
  if cut.length = n then (s.ringGone r).fault R.BTN_INTSTAT_RINGDOWN 3 r
  else
    let s1 := (s.setRing r (fun x => { x with locating := false })).wr (R.BTN_RSTAT_BREAK r) (if one then k else 15)
    cut.foldl (fun t i => (t.setDrv (8 * r + i) (fun d => { d with cutOff := true })).discardFires (fun f => f.driver == 8 * r + i))
      (s1.when (!cut.isEmpty) (·.fault R.BTN_INTSTAT_RINGDEG 3 r))

/-- GRANT (R93): the grant period of a ring ends. -/
def execGrant (r : Fin 8) (s : State) : Host.Outcome State Fault Refusal :=
  if s.ringEn r.val && s.ringUp r.val then
    let s1 := if (s.ringSt r.val).locating then s.located r.val else s
    (if s1.ringUp r.val then s1.grantRing r.val else s1).done
  else s.done

/-- A driver has answered none of SILENT consecutive grants on each direction on which it is granted (R118). -/
def State.isSilent (s : State) (n : Nat) : Bool :=
  let lim := max 1 (s.rd R.BTN_GRANTCFG_SILENT)
  let d := s.drv n
  let r := ringOf n
  let cw := s.on (R.BTN_RSTAT_CWUP r)
  let ccw := s.on (R.BTN_RSTAT_CCWUP r)
  if cw && ccw then decide (lim ≤ d.missCw) && decide (lim ≤ d.missCcw)
  else if cw || (!ccw && d.seenCw) then decide (lim ≤ d.missCw)
  else if ccw || d.seenCcw then decide (lim ≤ d.missCcw)
  else false

/-- A driver stops: nothing is planned or sent for it, and fires not yet transmitted are discarded (R118). -/
def State.stopDriver (s : State) (n : Nat) : State :=
  (s.setDrv n (fun d => { d with stopped := true })).discardFires (fun f => f.driver == n)

/-- DRIVER_SILENT (R118). -/
def execDriverSilent (n : Fin 64) (s : State) : Host.Outcome State Fault Refusal :=
  if s.drvUp n.val && s.isSilent n.val && !s.on (R.BTN_DSTAT_SILENT n.val) then
    (((s.stopDriver n.val).wr (R.BTN_DSTAT_SILENT n.val) 1).fault R.BTN_INTSTAT_DRVSILENT 3 n.val).done
  else s.done

/-! ### Upstream frames (R94, R96, R97, R116, R118) -/

/-- A driver has answered: the counts of missed grants restart. -/
def State.answered (s : State) (n : Nat) (h : UpHead) : State :=
  s.setDrv n (fun d => { d with missCw := 0, missCcw := 0, useq := h.useq.toNat })

/-- An upstream frame that Batten takes: its LEN and CRC agree and its TYPE is no reserved one (R92, R94). -/
def upGood (h : UpHead) : Bool := h.sound && !h.reserved

/-- A frame that Batten does not take is discarded and counted in BTN_RERR.CRCERR (R94). -/
def State.upBad (s : State) (n : Nat) : State := s.bump (R.BTN_RERR_CRCERR (ringOf n)) 1

/-- What a STATUS shows in the driver's registers (R96). -/
def State.statusRegs (s : State) (n : Nat) (p : StatusPayload) : State :=
  let s1 := (s.wrB (R.BTN_DSTAT_HUSHED n) p.hushed).wrB (R.BTN_DSTAT_REPLOST n) p.repLost
  let s2 := (s1.wr (R.BTN_DSTAT_ALARM n) p.alarm.toNat).setDrv n (fun d => { d with status := some p })
  s2.when p.repLost (·.fault R.BTN_INTSTAT_REPLOST 1 n)

/-- A driver that answers a grant with STATUS holds no report (R93): none of a fire sent before a full reset is still to come. -/
def State.noOldReports (s : State) (n : Nat) : State :=
  { s with btn := { s.btn with preReset := s.btn.preReset.filter (fun p => p.1 != n) } }

/-- STATUS (R96): a cap rejection is an exposure fault (R111); a driver that Batten has not hushed, by a request of Truss or by
RINGEN, gets a RESUME (R115). -/
def execStatus (u : UpFrom) (p : StatusPayload) (s : State) : Host.Outcome State Fault Refusal :=
  let n := u.n.val
  let h := u.h
  if !upGood h then (s.upBad n).done
  else
    let s1 := ((s.answered n h).noOldReports n).statusRegs n p
    let s2 := if p.capRej then (s1.wr (R.BTN_DSTAT_CAPREJ n) 1).trussFault 0x0102 n else s1
    if p.hushed && !s2.btn.hushing && s2.ringEn (ringOf n) && s2.lightOk then
      ((s2.sendRing (ringOf n) 0x04 (addrOf n) s2.hushGenBytes 3).reportFree 9 0xFF 1 n).done
    else s2.done

/-- A column leaves every fire of its row that Batten has not transmitted; a fire left without a column is not sent (R117).
Fires only planned lose it when they are submitted. -/
def State.stripColumns (s : State) (row : Nat) (cols : BitVec 32) : State :=
  (s.btn.fires.filter (fun f => f.row == row && !f.proof && f.stage == .submitted && f.mask &&& cols != 0)).foldl
    (fun t f =>
      let m := f.mask &&& ~~~cols
      if m = 0 then t.discardFire f
      else (t.voidOf f (fun c => cols.getLsbD c)).putFire f { f with mask := m }) s

/-- ROWFAIL as it acts; 0 means never (R121). -/
def State.rowFail (s : State) : Nat := min (s.rd R.BTN_ROWCFG_ROWFAIL) 32

/-- A row that holds ROWFAIL failed columns or more is blanked (R117). -/
def State.autoBlank (s : State) (row : Nat) : State :=
  let n := row / 32
  if s.rowFail != 0 && decide (s.rowFail ≤ popCount (s.rd (R.BTN_EMFAIL_FAIL row)) 32)
      && !(s.rd (R.BTN_RAUTO_AUTO n)).testBit (row % 32) then
    (s.wr (R.BTN_RAUTO_AUTO n) (putBit (s.rd (R.BTN_RAUTO_AUTO n)) (row % 32) true)).fault R.BTN_INTSTAT_ROWAUTO 3 row
  else s

/-- COLUMN_FAILED (R117): columns of a row are declared failed, and the row is blanked when ROWFAIL of them have. -/
def State.columnsFail (s : State) (row : Nat) (cols : BitVec 32) : State :=
  if cols = 0 then s
  else
    let v := s.rd (R.BTN_EMFAIL_FAIL row) ||| cols.toNat
    (((s.wr (R.BTN_EMFAIL_FAIL row) v).fault R.BTN_INTSTAT_EMFAULT 3 row).stripColumns row cols).autoBlank row

/-- A fire leaves the schedule because its report has come, or because none will. -/
def State.fireReported (s : State) (n tag : Nat) : State :=
  { s with btn := { s.btn with fires := s.btn.fires.filter (fun f => !(f.driver == n && f.tag == tag && f.stage == .sent)) } }

/-- The report of a fire transmitted before a full reset has come. -/
def State.oldReported (s : State) (n tag : Nat) : State :=
  { s with btn := { s.btn with preReset := s.btn.preReset.filter (fun p => p != (n, tag)) } }

/-- A change of a row's proof cycle; once both its report and its return are known, a row that showed current and sent back nothing
counts a miss, one that sent a return counts none, and one that showed no current leaves the count (R120). -/
def State.setProof (s : State) (burst : Nat) (f : ProofCycle → ProofCycle) : State :=
  match s.btn.proofs.find? (fun p => p.burst == burst) with
  | none => s
  | some p =>
    let q := f p
    let rest := s.btn.proofs.filter (fun x => x.burst != burst)
    match q.current, q.back with
    | some true, some b =>
      { s with btn := { s.btn with proofs := rest
                                   refMiss := mapSet 0 s.btn.refMiss q.row (if b then 0 else mapGet 0 s.btn.refMiss q.row + 1) } }
    | some false, _ => { s with btn := { s.btn with proofs := rest } }
    | _, _ => { s with btn := { s.btn with proofs := q :: rest } }

/-- What the report of a proof pulse says of the current in its reference column (R116, R120): measured good or too high, or not named
among those below the open threshold. -/
def State.proofShown (s : State) (f : Fire) (r : FireReport) : State :=
  if f.proof then
    f.cols.foldl (fun t c => t.setProof c.2 (fun p =>
      { p with current := some (r.result == 0 || r.result == 3 || (r.result == 2 && !r.cmask.getLsbD c.1)) })) s
  else s

/-- The mask Truss allowed for a fire (R303). -/
def State.allowedMask (s : State) (n tag : Nat) : BitVec 32 :=
  match s.trs.allowed.find? (fun a => a.driver == n && a.tag == tag) with
  | some a => a.mask
  | none => 0

/-- R303: a report of a fired column that Truss did not allow. -/
def State.compareReport (s : State) (n : Nat) (r : FireReport) : State :=
  let m := s.allowedMask n r.tag.toNat
  if r.result.toNat ≤ 3 && (m == 0 || r.cmask &&& ~~~m != 0) then s.trussFault 0x0104 n else s

/-- Re-admitted columns of a row that a proof pulse has shown good may be planned again (R117). -/
def State.readmitProven (s : State) (row : Nat) (bad : BitVec 32) : State :=
  { s with btn := { s.btn with readmit := s.btn.readmit.filter (fun e => !(e / 32 == row && !bad.getLsbD (e % 32))) } }

/-- The sent fire that a report names. -/
def State.sentFire (s : State) (n tag : Nat) : Option Fire :=
  s.btn.fires.find? (fun f => f.driver == n && f.tag == tag && f.stage == .sent)

/-- What a report makes void (R139): the bursts of the columns it names, or all where a LATE, DARK or REJECT report names none;
a fired report also those of columns that have failed since the fire was transmitted. -/
def State.voidReported (s : State) (o : Option Fire) (r : FireReport) : State :=
  match o with
  | none => s
  | some f =>
    if 4 ≤ r.result.toNat then s.voidOf f (fun c => r.cmask == 0 || r.cmask.getLsbD c)
    else s.voidOf f (fun c => r.cmask.getLsbD c && decide (2 ≤ r.result.toNat) || (!f.proof && s.failed f.row c))

/-- One report of a fire sent since the last full reset is acted on (R116). -/
def State.newReport (s : State) (n : Nat) (r : FireReport) : State :=
  let row := 32 * n + r.row.toNat
  let o := s.sentFire n r.tag.toNat
  let proof := match o with | some f => f.proof | none => false
  let s0 := match o with | some f => (s.compareReport n r).proofShown f r | none => s.compareReport n r
  let s1 := s0.fireReported n r.tag.toNat
  match r.result.toNat with
  | 0 => (s1.voidReported o r).when proof (·.readmitProven row 0)
  | 1 => s1.voidReported o r
  | 2 => ((s1.columnsFail row r.cmask).voidReported o r).when proof (·.readmitProven row r.cmask)
  | 3 => (((s1.trussFault 0x0101 n).columnsFail row r.cmask).voidReported o r).when proof (·.readmitProven row r.cmask)
  | 4 => (s1.voidReported o r).fault R.BTN_INTSTAT_LATE 1 n
  | 5 => s1.voidReported o r
  | _ => (s1.voidReported o r).fault R.BTN_INTSTAT_REJECT 1 n

/-- One report of a fire sent before the last full reset is acted on for its emitter and exposure effects; LATE, DARK and REJECT are
counted and logged (R503). -/
def State.oldReport (s : State) (n : Nat) (r : FireReport) : State :=
  let row := 32 * n + r.row.toNat
  let s1 := (s.compareReport n r).oldReported n r.tag.toNat
  match r.result.toNat with
  | 0 | 1 => s1
  | 2 => s1.columnsFail row r.cmask
  | 3 => (s1.trussFault 0x0101 n).columnsFail row r.cmask
  | 4 => s1.fault R.BTN_INTSTAT_LATE 1 n
  | 5 => s1.reportFree 9 0xFF 1 n
  | _ => s1.fault R.BTN_INTSTAT_REJECT 1 n

/-- One fire report (R116, R503): a driver sends its reports in the order of its fires, so one that names a tag sent before the last
full reset is that fire's. -/
def State.fireReport (s : State) (n : Nat) (r : FireReport) : State :=
  if s.btn.preReset.contains (n, r.tag.toNat) then s.oldReport n r else s.newReport n r

/-- REPORT (R116): an upstream frame of 1 to 6 fire reports; any other LEN is discarded. -/
def execReport (u : UpFrom) (reps : List FireReport) (s : State) : Host.Outcome State Fault Refusal :=
  if upGood u.h && decide (1 ≤ reps.length) && decide (reps.length ≤ 6) then
    (reps.foldl (fun t r => t.fireReport u.n.val r) (s.answered u.n.val u.h)).done
  else (s.upBad u.n.val).done

/-- Words that a driver has sent are kept; those of its identity show in BTN_DID, and the maker's are logged (R97). -/
def State.takeWords (s : State) (n addr : Nat) (words : List Word) : State :=
  let s1 := s.setDrv n (fun d =>
    { d with words := (List.range words.length).foldl (fun m i => mapSet 0 m (addr + i) (words.getD i 0).toNat) d.words })
  let w := mapGet 0 (s1.drv n).words 0
  let s2 := if addr = 0 && !words.isEmpty then
      ((s1.wr (R.BTN_DID_PROTO n) (bits w 0 8)).wr (R.BTN_DID_ROWSM1 n) (bits w 8 5)).wr (R.BTN_DID_COLSM1 n) (bits w 13 5)
    else s1
  let s3 := if addr ≤ 1 && decide (1 < addr + words.length) then
      s2.setDrv n (fun d => { d with pass := bits (mapGet 0 d.words 1) 0 8 })
    else s2
  if addr < 0x100 && decide (3 < addr + words.length) then s3.reportFree 9 0xFF 0 n else s3

/-- READDATA (R97): configuration and identity words read back, 2 + 4n payload bytes, at most 82 (R94). -/
def execReaddata (u : UpFrom) (addr : BitVec 16) (words : List Word) (s : State) : Host.Outcome State Fault Refusal :=
  if upGood u.h && decide (1 ≤ words.length) && decide (words.length ≤ 20) then
    ((s.answered u.n.val u.h).takeWords u.n.val addr.toNat words).done
  else (s.upBad u.n.val).done

/-- ALARM (R118): advisory codes are logged, 0x40 to 0x7F stop the driver, 0x80 and above are exposure faults. -/
def execAlarm (u : UpFrom) (code : BitVec 8) (detail : BitVec 24) (s : State) : Host.Outcome State Fault Refusal :=
  let n := u.n.val
  let h := u.h
  let c := code.toNat
  let log (t : State) (sev : Nat) : State :=
    (t.flag R.BTN_INTSTAT_DRVALARM).report 9 3 sev n (BitVec.ofNat 64 (c + 256 * detail.toNat))
  let s0 := s.answered n h
  let s1 := s0.wr (R.BTN_DSTAT_ALARM n) c
  (if !upGood h then s.upBad n
  else if c = 0 then s0
  else if c < 0x40 then log s1 1
  else if c < 0x80 then log (s1.stopDriver n) 3
  else (log s1 3).trussFault 0x0103 n).done

/-- UNREPORTED (R116): no report 20 us after the fire's TIME; it is counted as unverified, not as a fault. -/
def execUnreported (n : Fin 64) (tag : BitVec 9) (s : State) : Host.Outcome State Fault Refusal :=
  match s.sentFire n.val tag.toNat with
  | some f =>
    let s1 := f.cols.foldl (fun t c => t.setProof c.2 (fun p => { p with current := some false })) s
    ((s1.fireReported n.val tag.toNat).fault R.BTN_INTSTAT_UNREPORTED 1 n.val).done
  | none => s.done

/-! ### Driver time and ring delays (R98 to R104) -/

/-- a = (rt - 8h) / 2 averaged over n echoes, to the nearest LSB (R100). -/
def echoMean (sum : Int) (n : Nat) : Nat := (divRound sum (2 * max n 1)).toNat


/-- A TRIM whose effective time has passed is taken into RES. -/
def State.settleTrim (s : State) (n : Nat) : State :=
  match (s.drv n).trim with
  | some (d, eff) =>
    if eff ≤ 64 * s.clk.ticks then
      (s.wrS (R.BTN_DRES_RES n) (clampI (-128) 127 (s.rdS (R.BTN_DRES_RES n) + 8 * d))).setDrv n
        (fun x => { x with trim := none })
    else s
  | none => s

/-- round(x / 8), ties away from zero. -/
def round8 (x : Int) : Int := if 0 ≤ x then (x + 4) / 8 else -((-x + 4) / 8)

/-- Shots already planned on a driver for an instant from a TRIM's effective time on: RES moves for them by 8 x delta, as it does for
the driver's light (R103). -/
def State.trimShots (s : State) (n : Nat) (d : Int) (eff : Nat) : State :=
  let late := (s.btn.fires.filter (fun f => f.driver == n && decide (eff ≤ f.time))).flatMap (fun f => f.cols.map (fun c => (c.2, f.shot)))
  { s with peg := { s.peg with bursts := s.peg.bursts.map (fun b =>
      if b.driver == n then
        { b with fires := b.fires.zipIdx.map (fun x => if late.contains (b.num, x.2) then ((x.1 : Int) + 8 * d).toNat else x.1) }
      else b) } }

/-- A new a_cw of a driver: RES moves by the change, and from 8 LSB on a TRIM is sent, 10 us ahead, unless a HUSH stands
(R103). -/
def State.echoUpdate (s : State) (n a : Nat) : State :=
  let s0 := s.settleTrim n
  let res := clampI (-128) 127 (s0.rdS (R.BTN_DRES_RES n) + (a : Int) - (s0.rd (R.BTN_DDLY_ACW n) : Int))
  let s1 := (s0.wr (R.BTN_DDLY_ACW n) a).wrS (R.BTN_DRES_RES n) res
  if 8 ≤ res.natAbs && !s1.btn.hushing && (s1.drv n).trim.isNone then
    let d := clampI (-8) 8 (-(round8 res))
    let eff := 64 * (s1.clk.ticks + 2000)
    let s2 := (s1.sendRing (ringOf n) 0x06 (addrOf n) (leBytes 1 (ofIntBits 8 d) ++ leBytes 6 (s1.driverTime eff)) 3).trimShots n d eff
    ((s2.setDrv n (fun x => { x with trim := some (d, eff) })).bump (R.BTN_DRES_TRIMS n) 1).fault R.BTN_INTSTAT_CALDRIFT 1 n
  else s1

/-- Every TRIM whose effective time has come is taken into RES (R103). -/
def State.trimCycle (s : State) : State :=
  (s.btn.drivers.filter (fun p => p.2.trim.isSome)).foldl (fun t p => t.settleTrim p.1) s

/-- Echoes averaged (R121). -/
def State.nEcho (s : State) : Nat := max 1 (s.rd R.BTN_CALCFG_NECHO)

/-- An ECHO to a driver on one direction (R94). -/
def State.sendEcho (s : State) (n : Nat) (ccw : Bool) : State :=
  s.sendRing (ringOf n) 0x07 (addrOf n) [] (if ccw then 2 else 1)

/-- The first ECHO of a check on a driver: on CW, and while both loops are up on CCW too, for the consistency of R100. -/
def State.startEcho (s : State) (n : Nat) : State :=
  let run : EchoRun := { sum := 0, n := 0 }
  let both := s.bothLoops (ringOf n)
  let s1 := (s.setDrv n (fun d => { d with echoCw := some run, echoCcw := if both then some run else none, runCw := none
                                           runCcw := none })).sendEcho n false
  s1.when both (·.sendEcho n true)

/-- The echo check starts on every driver of the rings that is up and answers (R103). -/
def State.echoRings (s : State) (which : Nat → Bool) : State :=
  let l := (List.range 64).filter (fun n => which (ringOf n) && s.drvUp n && !s.on (R.BTN_DSTAT_SILENT n))
  if l.isEmpty then s.calEnd else l.foldl State.startEcho (s.wr R.BTN_STATUS_CALBUSY 1)

/-- The echo check of every ring. -/
def State.startEchoes (s : State) : State := s.echoRings (fun _ => true)

/-- The consistency of R100 for a driver, on the sums of its echoes in both directions: with means S1/n1 and S2/n2 of rt - 8h,
S1/n1 + S2/n2 + 16 p = L_cw + L_ccw to within 13 LSB. -/
def asymOk (lcw lccw p : Nat) (a c : EchoRun) : Bool :=
  let k : Int := a.n * c.n
  let d : Int := a.sum * c.n + c.sum * a.n + k * (16 * (p : Int) - (lcw : Int) - (lccw : Int))
  decide (d ≤ 13 * k) && decide (-(13 * k) ≤ d)

/-- The check is made once both directions have been measured, while both loops are up (R100). -/
def State.asymCheck (s : State) (n : Nat) : State :=
  let r := ringOf n
  match (s.drv n).runCw, (s.drv n).runCcw with
  | some a, some c =>
    s.when (s.bothLoops r && !asymOk (s.rd (R.BTN_RLOOP_LCW r)) (s.rd (R.BTN_RLOOP_LCCW r)) (s.drv n).pass a c)
      (·.fault R.BTN_INTSTAT_ASYM 1 n)
  | _, _ => s

/-- A run of echoes of one direction is complete (R100, R103). -/
def State.echoEnd (s : State) (n : Nat) (ccw : Bool) (e : EchoRun) : State :=
  let a := echoMean e.sum e.n
  let s1 := if ccw then (s.setDrv n (fun d => { d with echoCcw := none, runCcw := some e })).wr (R.BTN_DDLY_ACCW n) a
    else (s.setDrv n (fun d => { d with echoCw := none, runCw := some e })).echoUpdate n a
  (s1.asymCheck n).calEnd

/-- ECHO_R (R91, R100): one whose check character does not match is taken as IDLE. While a break is sought it tells that the driver is
reached (R93); else its round trip joins the run of its direction, and the next ECHO goes out until NECHO are in. -/
def execEchoR (n : Fin 64) (ccw : Bool) (hold : EchoHold) (rt : Nat) (s : State) : Host.Outcome State Fault Refusal :=
  let n := n.val
  if hold.chk != BitVec.ofNat 8 (addrOf n) ^^^ hold.hold ^^^ 0x5A then s.done
  else if (s.ringSt (ringOf n)).locating then
    (s.setDrv n (fun d => if ccw then { d with seenCcw := true } else { d with seenCw := true })).done
  else
    match if ccw then (s.drv n).echoCcw else (s.drv n).echoCw with
    | none => s.done
    | some e =>
      let e1 : EchoRun := { sum := e.sum + ((rt : Int) - 8 * hold.hold.toNat), n := e.n + 1 }
      if s.nEcho ≤ e1.n then (s.echoEnd n ccw e1).done
      else ((s.setDrv n (fun d => if ccw then { d with echoCcw := some e1 } else { d with echoCw := some e1 })).sendEcho n ccw).done

/-- ECHO_CHECK (R103): the period ends; PERIOD 0 means no check. -/
def execEchoCheck (_nil : Unit) (s : State) : Host.Outcome State Fault Refusal :=
  if s.rd R.BTN_CALCFG_PERIOD = 0 then s.done else s.startEchoes.done

/-- RECAL (R103): the echo check is repeated now; RECAL reads 1 until it is done. -/
def execRecal (_nil : Unit) (s : State) : Host.Outcome State Fault Refusal := ((s.wr R.BTN_CTL_RECAL 1).startEchoes).done

/-- RES from a TIMESET: a_cw less eight times the delay part of the value (R102). -/
def timesetRes (a : Nat) : Int := (a : Int) - 8 * ((a + 4) / 8 : Nat)

/-- One driver of a ring that comes up: identity, delays, and TIMESET on CW (R97, R100, R102). -/
def State.bringDriver (s : State) (n : Nat) (id : BitVec 8 × BitVec 5 × BitVec 5 × BitVec 8) (a c : Nat) : State :=
  let s1 := (((s.wr (R.BTN_DID_PROTO n) id.1.toNat).wr (R.BTN_DID_ROWSM1 n) id.2.1.toNat).wr
    (R.BTN_DID_COLSM1 n) id.2.2.1.toNat).wr (R.BTN_DID_PRESENT n) 1
  let s2 := ((s1.wr (R.BTN_DDLY_ACW n) a).wr (R.BTN_DDLY_ACCW n) c).wrS (R.BTN_DRES_RES n) (timesetRes a)
  let s3 := s2.setDrv n (fun d =>
    { d with baseAcw := a, trim := none, stopped := false, missCw := 0, missCcw := 0, echoCw := none, echoCcw := none
             pass := id.2.2.2.toNat, seenCw := false, seenCcw := false, cutOff := false })
  (s3.wr (R.BTN_DSTAT_SILENT n) 0).sendRing (ringOf n) 0x05 (addrOf n)
    (leBytes 6 ((s3.driverTime (64 * s3.clk.ticks) + (a + 4) / 8) % 2 ^ 44)) 1


/-- What a ring's bring-up finds is good: every step passed, 1 to 8 drivers of protocol version 1, loops of at most 20,480
LSB (R97, R101, R104). -/
def ringFindGood (f : RingFind) : Bool :=
  f.up && decide (1 ≤ f.ids.length) && decide (f.ids.length ≤ 8) && f.ids.all (fun i => i.1 == 1)
    && decide (f.lcw ≤ 20480) && decide (f.lccw ≤ 20480) && f.acw.length == f.ids.length && f.accw.length == f.ids.length

/-- The STAGE payloads of an epoch's driver words from word 0x0100 up, at most 56 in a frame (R94, R97). -/
def stageFrames (e : Nat) (ws : List Word) : List (List Byte) :=
  (List.range ((ws.length + 55) / 56)).map (fun i =>
    let c := (ws.drop (56 * i)).take 56
    leBytes 1 e ++ leBytes 2 (0x100 + 56 * i) ++ leBytes 1 c.length ++ c.flatMap (fun w => leBytes 4 w.toNat))

/-- STAGE of an epoch's driver words on a ring, then its COMMIT at a device or driver time in 78.125 ps units (R112). -/
def State.stageOn (s : State) (r e time : Nat) : State :=
  let ws := Config.driverWords e
  ((stageFrames e (ws.1 :: ws.2)).foldl (fun t p => t.sendRing r 0x02 0xFF p 3) s).sendRing r 0x03 0xFF
    (leBytes 1 e ++ leBytes 6 (time % 2 ^ 44)) 3

/-- READ frames for a driver's identity: its first three words, then the maker's words up to 0x00FF (R97). -/
def State.readIdentity (s : State) (n : Nat) : State :=
  let rd (t : State) (a k : Nat) : State := t.sendRing (ringOf n) 0x08 (addrOf n) (leBytes 2 a ++ leBytes 1 k) 3
  (List.range 13).foldl (fun t i => rd t (3 + 20 * i) (min 20 (253 - 20 * i))) (rd s 0 3)

/-- NECHO ECHOs to a driver on each direction (R100). -/
def State.measure (s : State) (n : Nat) : State :=
  (List.range s.nEcho).foldl (fun t _ => (t.sendEcho n false).sendEcho n true) s

/-- A retained delay is verified by an echo run: the mean lies within 13 LSB of it (R104). -/
def keptNear (n a sum : Nat) : Bool := decide (2 * n * a ≤ sum + 26 * n) && decide (sum ≤ 2 * n * a + 26 * n)

/-- What a full reset has retained of a ring passes the checks of R104. -/
def RingKept.holds (k : RingKept) (n : Nat) (f : RingFind) : Bool :=
  f.up && f.ids.length == k.n && f.acw.length == k.n && f.accw.length == k.n
    && (List.range k.n).all (fun i => keptNear n (k.delays.getD i (0, 0)).1 (f.acw.getD i 0)
        && keptNear n (k.delays.getD i (0, 0)).2 (f.accw.getD i 0))

/-- The ring of a find comes up with these loop and forward delays, its drivers hushed (R104, steps 6 to 9); an epoch that has been
accepted and is still to come is staged and committed too (R112). -/
def State.ringComes (s : State) (r : Nat) (f : RingFind) (k : RingKept) : State :=
  let s2 := (((s.wr (R.BTN_RSTAT_NDRV r) k.n).wr (R.BTN_RSTAT_CWUP r) 1).wr (R.BTN_RSTAT_CCWUP r) 1).wr (R.BTN_RSTAT_BREAK r) 15
  let s3 := (s2.wr (R.BTN_RLOOP_LCW r) k.lcw).wr (R.BTN_RLOOP_LCCW r) k.lccw
  let s4 := (List.range k.n).foldl (fun t i =>
    let id := f.ids.getD i (0, 0, 0, 0)
    let d := k.delays.getD i (0, 0)
    let t1 := t.bringDriver (8 * r + i) id d.1 d.2
    t1.when (!asymOk f.lcw f.lccw id.2.2.2.toNat { sum := f.acw.getD i 0, n := t.nEcho } { sum := f.accw.getD i 0, n := t.nEcho })
      (·.fault R.BTN_INTSTAT_ASYM 1 (8 * r + i))) s3
  let s5 := (s4.stageOn r s4.peg.active (s4.driverTime (64 * s4.clk.ticks))).wr R.BTN_EPOCH_ACTIVE s4.peg.active
  let s6 := match s5.hif.accepted with | some (e, t) => s5.stageOn r e (t * 64 / 5) | none => s5
  let s7 := s6.sendRing r 0x0B 0xFF s6.hushGenBytes 3
  let s8 := ((s7.setRingBit R.BTN_STATUS_RINGUP r true).setRingBit R.BTN_STATUS_RINGDEG r false).setRing r
    (fun x => { x with locating := false, back := none, waits := false })
  if s8.btn.hushing then s8 else s8.sendRing r 0x04 0xFF s8.hushGenBytes 3

/-- What a find measures, as delays (R100). -/
def State.echoDelays (s : State) (f : RingFind) : RingKept :=
  { n := f.ids.length, lcw := f.lcw, lccw := f.lccw
    delays := (f.acw.zip f.accw).map (fun p => (echoMean p.1 s.nEcho, echoMean p.2 s.nEcho)) }

/-- Identity read and echoes of the first k drivers of a ring (R104, steps 4 and 5). -/
def State.askDrivers (s : State) (r k : Nat) : State :=
  (List.range k).foldl (fun t i => t.measure (8 * r + i)) ((List.range k).foldl (fun t i => t.readIdentity (8 * r + i)) s)

/-- The full order of R104: the ring comes up, or is reported down. -/
def State.fullBringUp (s : State) (r : Nat) (f : RingFind) : State :=
  let s0 := ((s.sendRing r 0x09 0xFF [1] 1).sendRing r 0x0A 0xFF [0] 2).askDrivers r (min 8 f.ids.length)
  let s1 := s0.when (decide (20480 < f.lcw) || decide (20480 < f.lccw)) (·.fault R.BTN_INTSTAT_LOOPLONG 3 r)
  if ringFindGood f then s1.ringComes r f (s1.echoDelays f)
  else
    (((s1.setRingBit R.BTN_STATUS_RINGUP r false).setRingBit R.BTN_STATUS_RINGDEG r false).wr
      (R.BTN_RSTAT_NDRV r) 0).fault R.BTN_INTSTAT_RINGDOWN 3 r

/-- RING_BRING_UP (R104): after a full reset ENUM is skipped and the retained delays are used once echoes have verified them; else,
or when that fails, the full order runs. -/
def State.bringUp (s : State) (r : Nat) (f : RingFind) : State :=
  match (s.btn.kept.find? (fun p => p.1 == r)).map (·.2) with
  | some k =>
    let s0 := (s.sendRing r 0x0A 0xFF [0] 2).askDrivers r k.n
    let s1 : State := { s0 with btn := { s0.btn with kept := s0.btn.kept.filter (fun p => p.1 != r) } }
    if k.holds s.nEcho f && ringFindGood f then s1.ringComes r f k else s1.fullBringUp r f
  | none => s.fullBringUp r f

/-- The ring of a list of finds. -/
def findOf (l : List (Fin 8 × RingFind)) (r : Nat) : RingFind :=
  match l.find? (fun p => p.1.val == r) with
  | some p => p.2
  | none => { up := false, ids := [], lcw := 0, lccw := 0, acw := [], accw := [] }

/-- A ring whose enable is cleared: it is hushed alone at once, and its fires not yet transmitted are discarded (R121). -/
def State.disableRing (s : State) (r : Nat) : State := (s.hushRing r).ringGone r

/-- RINGEN_WRITE (R121): a write of BTN_CTL.RINGEN: a ring newly set comes up, and Peg plans its cells from the next frame. No write
reaches the part while it is down (R37). -/
def execRingenWrite (en : BitVec 8) (finds : List (Fin 8 × RingFind)) (s : State) : Host.Outcome State Fault Refusal :=
  if s.boot.pornLow || !s.boot.powered || s.boot.inReset then s.done
  else
    let old := s.rd R.BTN_CTL_RINGEN
    let s1 := s.wr R.BTN_CTL_RINGEN en.toNat
    ((List.range 8).foldl (fun t r =>
      if old.testBit r && !en.getLsbD r then t.disableRing r
      else if !old.testBit r && en.getLsbD r then (t.bringUp r (findOf finds r)).setRing r (fun x => { x with waits := true })
      else t) s1).done

/-- A direction of a ring stops returning frames: the ring is degraded. With neither direction left Batten seeks the break with an ECHO
to every driver on each direction (R89, R93). -/
def State.ringDirDown (s : State) (r : Nat) (ccw : Bool) : State :=
  let s1 := s.wr (if ccw then R.BTN_RSTAT_CCWUP r else R.BTN_RSTAT_CWUP r) 0
  if !s1.ringUp r then s1
  else
    let p := 2 * r + ccw.toNat
    let inj := s1.flt.injIdle.contains p
    let s0 : State := { s1 with flt := { s1.flt with injIdle := s1.flt.injIdle.filter (· != p) } }
    let s2 := (s0.setRingBit R.BTN_STATUS_RINGDEG r true).faultInj R.BTN_INTSTAT_RINGDEG 2 r inj
    if s2.on (R.BTN_RSTAT_CWUP r) || s2.on (R.BTN_RSTAT_CCWUP r) then s2
    else
      let s3 := (s2.dropEchoes r).setRing r (fun x => { x with locating := true })
      (List.range (s3.rd (R.BTN_RSTAT_NDRV r))).foldl (fun t i =>
        ((t.setDrv (8 * r + i) (fun d => { d with seenCw := false, seenCcw := false })).sendEcho (8 * r + i) false).sendEcho
          (8 * r + i) true) s3

/-- RETURNED_FRAME (R90, R93): a frame that comes back shows the loop up and, unchanged, measures its delay (R100); one changed on the
way is a CRC error; one that does not come back shows the loop down. -/
def execReturnedFrame (r : Fin 8) (ccw : Bool) (f : ReturnFind) (s : State) : Host.Outcome State Fault Refusal :=
  let up := s.on (if ccw then R.BTN_RSTAT_CCWUP r.val else R.BTN_RSTAT_CWUP r.val)
  match f with
  | .same loop =>
    ((s.when (!up) (·.ringDirBack r.val ccw)).wr (if ccw then R.BTN_RLOOP_LCCW r.val else R.BTN_RLOOP_LCW r.val)
      (min loop 65535)).done
  | .differs => ((s.when (!up) (·.ringDirBack r.val ccw)).bump (R.BTN_RERR_CRCERR r.val) 1).done
  | .missing => (if up then s.ringDirDown r.val ccw else s).done

/-- OPTICAL_DARK (R120): a row has missed its reference return REFMISS times in a row; all its columns are declared failed. -/
def execOpticalDark (n : Fin 64) (row : Fin 32) (s : State) : Host.Outcome State Fault Refusal :=
  let i := 32 * n.val + row.val
  if max 1 (s.rd R.BTN_PROOFCFG_REFMISS) ≤ mapGet 0 s.btn.refMiss i then
    let cols := (List.range 32).foldl (fun m c =>
      if (s.sight s.peg.active i c).valid then putBit m c true else m) 0
    let s1 := { s with btn := { s.btn with refMiss := mapErase s.btn.refMiss i } }.columnsFail i (BitVec.ofNat 32 cols)
    (s1.fault R.BTN_INTSTAT_REFDARK 3 i).done
  else s.done

end Sys2Proof.Machine
end

