-- ==== Sys2Proof/Machine/HbmOps.lean ====
section
/-!
DEFINITION. Stores into HBM (R15, R452, R467).
-/
namespace Sys2Proof.Machine

/-- HBM words of 32 bytes that `n` bytes from an address touch. -/
def hbmWords (a n : Nat) : List Nat :=
  if n = 0 then [] else (List.range ((a + n - 1) / 32 - a / 32 + 1)).map (fun i => a / 32 + i)

/-- A write of one HBM word: what an injection holds for it makes it wrong, anything else makes it right (R452, R467). -/
def FltState.wordWritten (f : FltState) (w : Nat) : FltState :=
  let bad := mapGet 0 f.injWords w
  if bad = 0 && mapGet 0 f.badWords w = 0 then f
  else
    { f with badWords := mapSet 0 f.badWords w bad, injWords := mapErase f.injWords w
             injFound := if bad = 0 then f.injFound else w :: f.injFound }

/-- Bytes stored in HBM from an address upwards. -/
def State.hbmStore (s : State) (a : Nat) (bytes : List Byte) : State :=
  { s with hbm := storeBytes 0 s.hbm a bytes, flt := (hbmWords a bytes.length).foldl FltState.wordWritten s.flt }

end Sys2Proof.Machine
end

