-- ==== Sys2Proof/Machine/FaultLog.lean ====
section
/-!
DEFINITION. The fault log unit (R461 to R467): coalescing of reports, the write queue and its pace, the ring of written
entries, and their reading through registers.
-/
namespace Sys2Proof.Machine

/-- The capacity of the log ring (R465). -/
def fltRingSize : Nat := 4194304

/-- FLT_STATUS.OPEN follows the table of open entries (R470). -/
def State.setOpens (s : State) (l : List FltEntry) : State :=
  ({ s with flt := { s.flt with opens := l } } : State).wr R.FLT_STATUS_OPEN l.length

/-- The two HBM words in which the entry of a sequence number lies (R462, R465). -/
def State.fltWords (s : State) (q : Nat) : List Nat :=
  let w := s.fwu.alloc.faultlog.1 / 32 + 2 * ((q - 1) % fltRingSize)
  [w, w + 1]

/-- Under STOPFULL a full ring takes no new entries: FULL stands until it is emptied (R465). -/
def State.fltFull (s : State) : State :=
  s.when (s.on R.FLT_CTL_STOPFULL && decide (fltRingSize ≤ s.flt.ring.length) && !s.on R.FLT_STATUS_FULL)
    (fun t => (t.wr R.FLT_STATUS_FULL 1).flag R.FLT_INTSTAT_FULL)

/-- An entry is recorded in the ring: it takes its sequence number, the number of reports dropped before it and the count
of full resets (R462, R464, R465). A full ring under STOPFULL takes nothing (R465). -/
def State.fltRecord (s : State) (e : FltEntry) : State :=
  if s.on R.FLT_CTL_STOPFULL && decide (fltRingSize ≤ s.flt.ring.length) then
    s.bump R.FLT_LOSTFULL_CNT 1
  else
    let e' : FltEntry := { e with eseq := s.flt.nextSeq, dropped := min s.flt.dropPend (2 ^ 32 - 1),
                                  resets := s.rd R.GLB_RSTCAUSE_RSTCNT }
    let old := if fltRingSize ≤ s.flt.ring.length then s.flt.ring.drop 1 else s.flt.ring
    let f := (s.fltWords s.flt.nextSeq).foldl FltState.wordWritten s.flt
    let s1 : State := { s with flt := { f with ring := old ++ [e'], nextSeq := s.flt.nextSeq + 1, dropPend := 0 } }
    (s1.when (decide (min (s.rd R.FLT_CFG_INTSEV) 4 ≤ e.sev)) (·.flag R.FLT_INTSTAT_ENTRY)).fltFull

/-- The writer has room for one more entry (R464). -/
def State.fltRoom (s : State) : Bool := decide (s.flt.wq.length < 64)

/-- An entry goes to the writer: at once if it is idle, else to the write queue, severity 4 at its head (R464). -/
def State.fltWrite (s : State) (e : FltEntry) : State :=
  if s.flt.wbusy == 0 && s.flt.wq.isEmpty then
    let s1 := s.fltRecord e
    { s1 with flt := { s1.flt with wbusy := 10 } }
  else
    { s with flt := { s.flt with wq := if e.sev = 4 then e :: s.flt.wq else s.flt.wq ++ [e] } }

/-- One 5 ns cycle of the writer, which records one entry per 50 ns (R464). -/
def State.fltCycle (s : State) : State :=
  if s.flt.wbusy ≤ 1 then
    match s.flt.wq with
    | [] => { s with flt := { s.flt with wbusy := 0 } }
    | e :: r =>
      let s1 := ({ s with flt := { s.flt with wq := r } } : State).fltRecord e
      { s1 with flt := { s1.flt with wbusy := 10 } }
  else { s with flt := { s.flt with wbusy := s.flt.wbusy - 1 } }

/-- A report that finds no place is dropped and counted (R464). -/
def State.fltDrop (s : State) : State :=
  (({ s with flt := { s.flt with dropPend := s.flt.dropPend + 1 } } : State).bump R.FLT_OVERFLOW_CNT 1).flag
    R.FLT_INTSTAT_OVERFLOW

/-- A report opens an entry (R462). -/
def FltEntry.ofReport (r : Report) : FltEntry :=
  { eseq := 0, first := r.time, last := r.time, count := 1, src := r.src, code := r.code, sev := r.sev, flags := 0
    unitFirst := r.unit, dFirst := r.detail, unitLast := r.unit, dLast := r.detail, dropped := 0, resets := 0 }

/-- A report coalesces into an open entry of its key; an entry opened afresh under a key of severity 3 or 4 takes its
first report (R463). -/
def FltEntry.join (e : FltEntry) (r : Report) : FltEntry :=
  if e.count = 0 then { FltEntry.ofReport r with flags := e.flags }
  else { e with last := r.time, count := min (e.count + 1) (2 ^ 32 - 1), unitLast := r.unit, dLast := r.detail }

/-- The entry of a key. -/
def FltEntry.hasKey (e : FltEntry) (src code : Nat) : Bool := e.src == src && e.code == code

/-- The table of open entries has room for a severity: 256 entries, 16 of them reserved for severity 4 (R463). -/
def fltTableRoom (l : List FltEntry) (sev : Nat) : Bool :=
  decide (l.length < 256) && (sev == 4 || decide ((l.filter (fun e => e.sev != 4)).length < 240))

/-- A report of a key that is not open opens an entry: one of severity 3 or 4 is written at once and coalescing goes on in
a fresh entry (R463). -/
def State.fltOpen (s : State) (r : Report) : State :=
  let e := FltEntry.ofReport r
  if 3 ≤ r.sev then
    if s.fltRoom then (s.fltWrite e).setOpens (s.flt.opens ++ [{ e with count := 0 }]) else s.fltDrop
  else s.setOpens (s.flt.opens ++ [e])

/-- A new key makes room if it must: the oldest open entry of severity below 4 is written with flag bit 0 (R463). An entry
that holds no report yet has nothing to write. -/
def State.fltNew (s : State) (r : Report) : State :=
  if fltTableRoom s.flt.opens r.sev then s.fltOpen r
  else
    match s.flt.opens.find? (fun e => e.sev != 4) with
    | none => s.fltDrop
    | some e =>
      let rest := removeFirst (fun e => e.sev != 4) s.flt.opens
      if e.count = 0 then (s.setOpens rest).fltOpen r
      else if s.fltRoom then ((s.fltWrite { e with flags := e.flags ||| 1 }).setOpens rest).fltOpen r
      else s.fltDrop

/-- The unit takes a report (R463). -/
def State.fltTake (s : State) (r : Report) : State :=
  if s.flt.opens.any (·.hasKey r.src r.code) then
    s.setOpens (updateWhere (·.hasKey r.src r.code) (·.join r) s.flt.opens)
  else s.fltNew r

/-- FAULT_REPORT (R463): the unit drains one report from its FIFO. -/
def execFaultReport (s : State) : Host.Outcome State Fault Refusal :=
  match s.flt.fifo with
  | [] => s.done
  | r :: rest => (({ s with flt := { s.flt with fifo := rest } } : State).fltTake r).done

/-- ENTRY_FLUSH (R463): an open entry is written FLUSHT ms after it opened; while the write queue is full it stays open. -/
def execEntryFlush (src code : Nat) (s : State) : Host.Outcome State Fault Refusal :=
  match s.flt.opens.find? (·.hasKey src code) with
  | none => s.done
  | some e =>
    let rest := removeFirst (·.hasKey src code) s.flt.opens
    if e.count = 0 then (s.setOpens rest).done
    else if s.fltRoom then ((s.fltWrite e).setOpens rest).done
    else s.done

/-- Bytes 0 to 61 of an entry (R462). -/
def FltEntry.body (e : FltEntry) : List Byte :=
  leBytes 8 e.eseq ++ leBytes 8 e.first.toNat ++ leBytes 8 e.last.toNat ++ leBytes 4 e.count ++ leBytes 2 e.src
    ++ leBytes 2 e.code ++ leBytes 1 e.sev ++ leBytes 1 e.flags.toNat ++ leBytes 2 e.unitFirst
    ++ leBytes 8 e.dFirst.toNat ++ leBytes 2 e.unitLast ++ leBytes 8 e.dLast.toNat ++ leBytes 4 e.dropped
    ++ leBytes 4 e.resets

/-- The 64 bytes of an entry, with their CRC (R462). -/
def FltEntry.bytes (e : FltEntry) : List Byte := e.body ++ leBytes 2 (crc16 e.body).toNat

/-- INJLOCK (R467): no further injection until power-on reset. -/
def execInjlock (s : State) : Host.Outcome State Fault Refusal := (s.wr R.FLT_CTL_INJLOCK 1).done

/-- Clearing STOPFULL empties a full ring; setting it over one shows FULL (R465). -/
def State.fltStopfull (s : State) (v : Bool) : State :=
  let s1 := s.wrB R.FLT_CTL_STOPFULL v
  if !v && s.on R.FLT_STATUS_FULL then
    ({ s1 with flt := { s1.flt with ring := [] } } : State).wr R.FLT_STATUS_FULL 0
  else s1.fltFull

/-- Open entries that a full reset interrupted are written when logic is released, with flag bit 1 (R465). They go to the
write queue in their order. -/
def State.fltRelease (s : State) : State :=
  let due := (s.flt.opens.filter (fun e => e.count != 0)).map (fun e => { e with flags := e.flags ||| 2 })
  (due.foldl State.fltWrite s).setOpens []

end Sys2Proof.Machine
end

