-- ==== Sys2Proof/Machine/Clock.lean ====
section
/-!
DEFINITION. The clock plant (R39 to R47, R455): timebase state, warm-up hold, drift, PPS discipline, device-time steps and the
root PLLs.
-/
namespace Sys2Proof.Machine

/-- A change of the clock plant's own record. -/
def State.onClk (s : State) (f : ClkState → ClkState) : State := { s with clk := f s.clk }

/-- The present timebase state (R40): 0 COLD, 1 SETTLING, 2 STABLE. -/
def State.tb (s : State) : Nat := s.rd R.CLK_STATUS_TBSTATE

/-- The timebase state moves: flag and marker (R42). -/
def State.tbMove (s : State) (new : Nat) : State :=
  if s.tb = new then s
  else ((s.wr R.CLK_STATUS_TBSTATE new).flag R.CLK_INTSTAT_TBCHG).markTimebase new s.tb 0 0

/-- 680 times the slope through the last 16 frequency measurements, newest first, in 0.01 ppb per second (R41). -/
def driftSum (freqs : List Int) : Int :=
  ((List.range 16).map (fun (i : Nat) => (15 - 2 * (i : Int)) * freqs.getD i 0)).sum

/-- A drift exists: 16 measurements (R41). -/
def State.driftValid (s : State) : Bool := decide (16 ≤ s.clk.freqs.length)

/-- The drift rule lets the state become STABLE: no valid drift, or at most 0.05 ppm/s (R41). -/
def State.driftOk (s : State) : Bool := !s.driftValid || decide ((driftSum s.clk.freqs).natAbs ≤ 680 * 5000)

/-- A valid drift exceeds 0.10 ppm/s (R41). -/
def State.driftBad (s : State) : Bool := s.driftValid && decide (680 * 10000 < (driftSum s.clk.freqs).natAbs)

/-- The rules of R41 on the present hold and drift. -/
def State.tbEval (s : State) : State :=
  if s.tb = 1 && s.clk.holdDone && s.driftOk then s.tbMove 2
  else if s.tb = 2 && s.driftBad then s.tbMove 1
  else s

/-- OCXO_RDY_RISE (R41): the hold restarts; with HOLD = 0 it elapses at once. -/
def execOcxoRdyRise (s : State) : Host.Outcome State Fault Refusal :=
  let zero := s.rd R.CLK_TBCFG_HOLD == 0
  let s1 := (s.wr R.CLK_STATUS_OCXORDY 1).onClk (fun c => { c with holdRun := !zero, holdAge := 0, holdDone := zero })
  if s1.tb = 0 then (if zero && s1.driftOk then s1.tbMove 2 else s1.tbMove 1).done else s1.done

/-- OCXO_RDY_FALL (R41): any state moves to COLD. -/
def execOcxoRdyFall (s : State) : Host.Outcome State Fault Refusal :=
  (((s.wr R.CLK_STATUS_OCXORDY 0).onClk (fun c => { c with holdRun := false, holdAge := 0, holdDone := false })).tbMove 0).done

/-- The hold has elapsed (R41). -/
def State.holdEnd (s : State) : State := (s.onClk (fun c => { c with holdRun := false, holdDone := true })).tbEval

/-- HOLD_ELAPSED (R41): the hold timer expires. -/
def execHoldElapsed (s : State) : Host.Outcome State Fault Refusal := if s.clk.holdRun then s.holdEnd.done else s.done

/-- Seconds of hold remaining, rounded up (R47). DEDUCED (log 129): while no hold has started the table's reset value 0 and the text
'reads 0 only once the hold has elapsed' disagree, and the field reads HOLD. -/
def State.holdLeft (s : State) : Nat :=
  if s.clk.holdRun then s.rd R.CLK_TBCFG_HOLD - s.clk.holdAge / 200000000
  else if s.clk.holdDone then 0 else s.rd R.CLK_TBCFG_HOLD

/-- The drift estimate is invalid (R41, R46). -/
def State.driftDrop (s : State) : State :=
  ((s.onClk (fun c => { c with freqs := [], lastPps := none })).wr R.CLK_STATUS_DRIFTVAL 0).wr R.CLK_DRIFT_DRIFT 0

/-- CLK_TBCFG_WRITE (R47): a write during a running hold leaves max(0, HOLD - elapsed). Clearing PPSEN ends PPS use. DEDUCED (log
133): a discipline step that already waits is kept and applied, since R46 drops one only for a new edge, a time-set or PPS loss. -/
def execClkTbcfgWrite (v : Word) (s : State) : Host.Outcome State Fault Refusal :=
  let n := v.toNat
  let s1 := ((((s.wr R.CLK_TBCFG_HOLD (bits n 0 12)).wr R.CLK_TBCFG_PPSEN (bits n 12 1)).wr R.CLK_TBCFG_PPSEDGE (bits n 13 1)).wr
    R.CLK_TBCFG_TBGATE (bits n 14 1)).wr R.CLK_TBCFG_STEPMAX (bits n 16 10)
  let s2 := if n &&& 0xFC008000 = 0 then s1 else ((s1.bump R.GLB_ACCERR_RSVDWR 1).wr R.GLB_LASTERR_OFFSET 0x10004 |>.wrB
    R.GLB_LASTERR_WRITE true).wr R.GLB_LASTERR_KIND 2
  let s3 := if s2.on R.CLK_TBCFG_PPSEN then s2 else (s2.wr R.CLK_STATUS_PPSOK 0).driftDrop.tbEval
  (if s3.clk.holdRun && decide (s3.rd R.CLK_TBCFG_HOLD * 200000000 ≤ s3.clk.holdAge) then s3.holdEnd else s3).done

/-! ### PPS (R46) -/

/-- A frequency measurement joins the last 16, in 0.01 ppb: the interval between two edges against a second, in units of
2^-8 ns (R41). -/
def State.freqIn (s : State) (interval : Nat) : State :=
  let f := clampI (-2147483647) 2147483647 (divRound (((interval : Int) - 256000000000) * 25) 64)
  let l := (f :: s.clk.freqs).take 16
  let s1 := (s.onClk (fun c => { c with freqs := l })).wrS R.CLK_FREQERR_FERR f
  if s1.driftValid then (s1.wr R.CLK_STATUS_DRIFTVAL 1).wrS R.CLK_DRIFT_DRIFT (divRound (driftSum l) 6800) else s1

/-- The distance of a device time from the nearest whole second, in 2^-8 ns (R46). -/
def secondOffset (t256 : Nat) : Int :=
  let r := t256 % 256000000000
  if 2 * r < 256000000000 then (r : Int) else (r : Int) - 256000000000

/-- The discipline step that an offset in 2^-8 ns asks for: rounded to 5 ns units and clamped (R46). -/
def State.ppsStep (s : State) (ofs : Int) : State :=
  let m : Int := s.rd R.CLK_TBCFG_STEPMAX
  let u := -(divRound ofs 1280)
  match s.clk.pend with
  | .timeSet _ => s
  | _ =>
    if m = 0 then s.onClk (fun k => { k with pend := .none })
    else
      let c := clampI (-m) m u
      let s1 := s.onClk (fun k => { k with pend := if c = 0 then .none else .discipline c })
      s1.when (c != u) (fun t => (t.count R.CLK_STEPS_CLAMPS 1).flag R.CLK_INTSTAT_STEPCLAMP)

/-- PPS_EDGE (R41, R46): the edge is measured on device time; its offset is reported, drift follows, and a discipline step
waits for the next frame start. -/
def execPpsEdge (sub : Nat) (s : State) : Host.Outcome State Fault Refusal :=
  if !s.on R.CLK_TBCFG_PPSEN then s.done
  else
    let root := 1280 * s.clk.ticks + sub
    let ofs := secondOffset (256 * s.clk.devTime.toNat + sub)
    let s1 := (s.wr R.CLK_STATUS_PPSOK 1).wrS R.CLK_PPSOFS_OFS (divRound ofs 256)
    let s2 := match s.clk.lastPps with
      | some p => s1.freqIn (root - p)
      | none => s1
    let s3 := s2.onClk (fun c => { c with lastPps := some root, afterSet := false })
    (s3.ppsStep ofs).tbEval.done

/-- PPS_LOSS (R46): 1.5 s without an edge while PPSEN = 1. -/
def execPpsLoss (s : State) : Host.Outcome State Fault Refusal :=
  if !s.on R.CLK_TBCFG_PPSEN then s.done
  else
    let s1 := ((s.wr R.CLK_STATUS_PPSOK 0).fault R.CLK_INTSTAT_PPSLOSS 1 0).driftDrop
    let p := match s1.clk.pend with
      | .discipline _ => .none
      | x => x
    (s1.onClk (fun c => { c with pend := p })).tbEval.done

/-! ### Steps (R44, R45) -/

/-- A waiting step is applied: device time moves, and its marker is raised (R44, R227). The answer's second part is its size in
ns. -/
def State.applyStep (s : State) : State × Int :=
  let go (u : Int) (cause : Nat) : State × Int :=
    let s1 := s.onClk (fun c => { c with devTime := c.devTime + BitVec.ofInt 64 (5 * u), pend := .none, afterSet := cause == 2 })
    (((s1.count R.CLK_STEPS_STEPS 1)).markTimebase s1.tb s1.tb cause (5 * u), 5 * u)
  match s.clk.pend with
  | .none => (s, 0)
  | .discipline u => go u 1
  | .timeSet u => go u 2

/-- A step of at most 10 us is ignored by the integrator; a larger one acts as a DISCONT, so the frames from number `num` on
stand apart from those before (R251). -/
def State.stepBreak (s : State) (step : Int) (num : Nat) : State :=
  if step.natAbs ≤ 10000 then s
  else ({ s with lbk := { s.lbk with breaks := num :: s.lbk.breaks } } : State).flag R.LBK_INTSTAT_DISCONT

/-- The time-set command enters the clock plant (R45): the rounded time less the present device time, as one step. -/
def State.timeSetStep (s : State) (t : Nat) : State :=
  let u := ((t : Int) + 2) / 5 - (s.clk.devTime.toNat : Int) / 5
  (s.onClk (fun c => { c with pend := .timeSet u })).wr R.CLK_STATUS_TSET 1

/-! ### CLK_TIMELO (R47) -/

/-- The snapshot of device time; its high word waits in CLK_TIMEHI (R47). -/
def State.timeLatch (s : State) : State :=
  let t := s.clk.devTime.toNat
  (s.wr R.CLK_TIMELO_TLO (t % 2 ^ 32)).wr R.CLK_TIMEHI_TTHI (t / 2 ^ 32)

/-- CLK_TIMELO_READ (R47): a read of CLK_TIMELO. -/
def execClkTimeloRead (s : State) : Host.Outcome State Fault Refusal :=
  (s.timeLatch.emit (.regRead 0x10010 (s.clk.devTime.toNat % 2 ^ 32))).done

/-! ### Root PLLs (R455) -/

/-- The lock field of a root PLL: A when `b` is false. -/
def pllLock (b : Bool) : Fld := if b then R.CLK_STATUS_PLLBLOCK else R.CLK_STATUS_PLLALOCK

/-- The active root PLL loses lock: the standby takes every divider, if it is locked (R455). -/
def State.pllLoss (s : State) (inj : Bool) : State :=
  let act := s.on R.CLK_STATUS_PLLSEL
  if !s.on (pllLock act) then s
  else
    let s1 := (s.wr (pllLock act) 0).flag R.CLK_INTSTAT_PLLFAIL
    if s1.on (pllLock (!act)) then
      let s2 := (s1.wrB R.CLK_STATUS_PLLSEL (!act)).flag R.FLT_INTSTAT_PLLSW
      if inj then s2.reportInj 0x21 1 2 act.toNat else s2.reportFree 0x21 1 2 act.toNat
    else s1.reportFree 1 4 3 act.toNat

/-- PLL_LOCK_LOSS (R455): the lock detector of the active root PLL trips. -/
def execPllLockLoss (s : State) : Host.Outcome State Fault Refusal := (s.pllLoss false).done

/-- PLL_RELOCK (R455): 1 s of attempts ends; a PLL that relocks becomes standby. -/
def execPllRelock (ok : Bool) (s : State) : Host.Outcome State Fault Refusal :=
  let other := !s.on R.CLK_STATUS_PLLSEL
  if ok && !s.on (pllLock other) then ((s.wr (pllLock other) 1).reportFree 0x21 2 0 other.toNat).done else s.done

end Sys2Proof.Machine
end

