-- ==== Sys2Proof/Machine/FwOps.lean ====
section
/-!
DEFINITION. Images, slots, the boot header and the settings store (R423 to R432, R439 to R443).
-/
namespace Sys2Proof.Machine

/-- A change of the firmware's own record. -/
def State.onFwu (s : State) (f : FwuState → FwuState) : State := { s with fwu := f s.fwu }


/-- Bytes of a span are all zero. -/
def zeroSpan (b : List Byte) (o n : Nat) : Bool := ((b.drop o).take n).all (· == 0)

/-! ### Images (R424 to R426) -/

/-- The header fields of an image. -/
def imgType (h : List Byte) : Nat := fieldAt h 6 2
def imgVersion (h : List Byte) : Nat := fieldAt h 8 4
def imgSvn (h : List Byte) : Nat := fieldAt h 12 1
def imgKey (h : List Byte) : Nat := fieldAt h 13 1
def imgRevoke (h : List Byte) : Nat := fieldAt h 14 1
def imgSchema (h : List Byte) : Nat := fieldAt h 16 2
def imgSchemaMin (h : List Byte) : Nat := fieldAt h 18 2
def imgPlen (h : List Byte) : Nat := fieldAt h 20 4
def imgHash (h : List Byte) : List Byte := sliceBytes h 0x18 48
def imgBase (h : List Byte) : List Byte := sliceBytes h 0x48 48
def imgResult (h : List Byte) : List Byte := sliceBytes h 0x78 48

/-- A slot's size: 127 MiB (R57). -/
def slotSize : Nat := 127 * 2 ^ 20

/-- Section entry i: kind, offset, length, and whether its zero bytes are zero (R425). -/
def sectAt (h : List Byte) (i : Nat) : Nat × Nat × Nat × Bool :=
  let o := 0x200 + 16 * i
  (fieldAt h o 1, fieldAt h (o + 4) 4, fieldAt h (o + 8) 4, fieldAt h (o + 1) 3 == 0 && fieldAt h (o + 12) 4 == 0)

/-- The section entries of a header. -/
def sections (h : List Byte) : List (Nat × Nat × Nat × Bool) := (List.range 16).map (sectAt h)

/-- The bytes of an image's section of a kind. -/
def Image.sect (i : Image) (kind : Nat) : List Byte :=
  match (sections i.header).find? (fun x => x.1 == kind) with
  | some (_, o, n, _) => (i.payload.drop o).take n
  | none => []

/-- Code 1: MAGIC, FORMAT, TYPE, the zero fields, and that PLEN and the sections fit (R426). `all` is the header up to 0x35F or
longer; `len` the length of the whole image, header included. -/
def headGood (h : List Byte) (len : Nat) : Bool :=
  let t := imgType h
  fieldAt h 0 4 == 0x5A4B494D && fieldAt h 4 2 == 1 && (t == 1 || t == 2 || t == 3) && fieldAt h 15 1 == 0
    && decide (imgRevoke h < 16) && zeroSpan h 0x108 248 && (t == 2 || (zeroSpan h 0x48 48 && zeroSpan h 0x78 48))
    && (t == 1 || zeroSpan h 0x200 256) && decide (1024 + imgPlen h ≤ len) && decide (1024 + imgPlen h ≤ slotSize)
    && (sections h).all (fun x => decide (x.2.1 + x.2.2.1 ≤ imgPlen h))

/-- Code 2: the key slot is not revoked, and its hash is that of PUBKEY. -/
def State.keyGood (s : State) (h : List Byte) : Bool :=
  decide (imgKey h < 4) && !s.fwu.otp.revoked.getLsbD (imgKey h)
    && sha384 (sliceBytes h 0xA8 96) == Config.keyHash (imgKey h)

/-- Code 3: the signature verifies. -/
def sigGood (h : List Byte) : Bool := Config.p384Verify (sliceBytes h 0xA8 96) (sha384 (h.take 0x300)) (sliceBytes h 0x300 96)

/-- Code 7: the section table (R425). -/
def sectGood (h : List Byte) : Bool :=
  (sections h).all (fun x => decide (x.1 ≤ 5) && x.2.2.2 && (if x.1 = 0 then x.2.1 == 0 && x.2.2.1 == 0 else x.2.1 % 4096 == 0))
    && [1, 2, 3, 4, 5].all (fun k => ((sections h).filter (fun x => x.1 == k)).length == 1)

/-- Codes 1 to 4 on a header (R426); 0 where all pass. -/
def State.headCode (s : State) (h : List Byte) (len : Nat) : Nat :=
  if !headGood h len then 1
  else if !s.keyGood h then 2
  else if !sigGood h then 3
  else if imgType h != 3 && decide (imgSvn h < s.fwu.otp.rollback) then 4
  else 0

/-- The plaintext payload of an image, where its tag verifies (code 5). -/
def openImage (b : List Byte) : Option (List Byte) :=
  Config.gcmOpen (b.take 0x360) (sliceBytes b 0x360 12) ((b.drop 1024).take (imgPlen b)) (sliceBytes b 0x36C 16)

/-- The checks of R426 on a whole image of one of the types allowed: a code, and the image where it is 0. -/
def State.checkImage (s : State) (b : List Byte) (types : List Nat) : Nat × Option Image :=
  if b.length < 1024 || !types.contains (imgType b) || !zeroSpan b 0x37C 132 then (1, none)
  else
    let c := s.headCode b b.length
    if c != 0 then (c, none)
    else
      match openImage b with
      | none => (5, none)
      | some p =>
        if sha384 p != imgHash b then (6, none)
        else if imgType b = 1 && !sectGood b then (7, none)
        else (0, some { header := b.take 0x360, payload := p })

/-- A Scarf patch's delta records applied to a base (R431); none for an invalid record. -/
def applyDelta (base : List Byte) : Nat → List Byte → List Byte → Option (List Byte)
  | 0, _, _ => none
  | fuel + 1, recs, acc =>
    match recs with
    | [] => none
    | op :: r =>
      if op = 0 then some acc
      else if op = 1 then
        let o := fieldAt r 0 4
        let n := fieldAt r 4 4
        if 8 ≤ r.length && decide (o + n ≤ base.length) then applyDelta base fuel (r.drop 8) (acc ++ (base.drop o).take n) else none
      else if op = 2 then
        let n := fieldAt r 0 4
        if decide (4 + n ≤ r.length) then applyDelta base fuel (r.drop (4 + n)) (acc ++ (r.drop 4).take n) else none
      else if op = 3 then
        let n := fieldAt r 0 4
        if 5 ≤ r.length && decide (n ≤ slotSize) then applyDelta base fuel (r.drop 5) (acc ++ List.replicate n (r.getD 4 0)) else none
      else none

/-- A verified patch builds its result on a base (codes 8 to 10, then 1 to 4 and 7 of the embedded header; R431). -/
def State.buildPatch (s : State) (patch : Image) (base : Image) : Nat × Option Image :=
  let h := patch.payload.take 0x360
  if imgBase patch.header != imgHash base.header then (8, none)
  else
    match applyDelta base.payload (patch.payload.length + 1) (patch.payload.drop 0x360) [] with
    | none => (9, none)
    | some p =>
      if sha384 p != imgResult patch.header then (10, none)
      else if imgType h != 1 then (1, none)
      else
        let c := s.headCode h (1024 + p.length)
        if c != 0 then (c, none)
        else if !sectGood h then (7, none)
        else (0, some { header := h, payload := p })

/-- An image as it is written to a slot under a fresh IV (R432). -/
def sealImage (i : Image) (iv : List Byte) : List Byte :=
  let (ct, tag) := Config.gcmSeal i.header iv i.payload
  i.header ++ sliceBytes iv 0 12 ++ sliceBytes tag 0 16 ++ List.replicate 132 0 ++ ct

/-- FWU_ERR shows a code and the slot it concerns (R449). -/
def State.fwErr (s : State) (code : Nat) (slotB : Bool) : State := (s.wr R.FWU_ERR_CODE code).wrB R.FWU_ERR_SLOT slotB

/-! ### Flash and boot header (R57, R427) -/

/-- Bytes programmed into the boot flash. -/
def State.flashStore (s : State) (a : Nat) (b : List Byte) : State := { s with flash := storeBytes 0xFF s.flash a b }

/-- First address of a slot. -/
def slotBase (b : Bool) : Nat := if b then 0x08000000 else 0x00100000

/-- First address of a copy of the boot header, and of the settings store. -/
def headBase (c : Bool) : Nat := if c then 0x00080000 else 0
def storeBase (c : Bool) : Nat := if c then 0x0FF80000 else 0x0FF00000

/-- The fields of a boot header. -/
structure BootHead where
  hseq   : Nat
  active : Bool
  state  : Nat
  tries  : Nat
  verAct : Nat
  verOth : Nat
deriving DecidableEq, Repr

/-- The 64 bytes of a boot header (R427). -/
def BootHead.bytes (h : BootHead) : List Byte :=
  let b := leBytes 4 0x54424831 ++ leBytes 4 h.hseq ++ leBytes 1 h.active.toNat ++ leBytes 1 h.state ++ leBytes 1 h.tries ++ [0]
    ++ leBytes 4 h.verAct ++ leBytes 4 h.verOth ++ List.replicate 40 0
  b ++ leBytes 4 (crc32c b).toNat

/-- A valid boot header from its bytes. -/
def BootHead.parse (b : List Byte) : Option BootHead :=
  let g := fieldAt b
  if g 0 4 == 0x54424831 && decide (g 8 1 ≤ 1) && decide (g 9 1 ≤ 2) && decide (g 10 1 ≤ 3) && g 0x3C 4 == (crc32c (b.take 0x3C)).toNat then
    some { hseq := g 4 4, active := g 8 1 == 1, state := g 9 1, tries := g 10 1, verAct := g 12 4, verOth := g 16 4 }
  else none

/-- The header copy in force, with the number of its copy: the valid one with the later HSEQ (R427). -/
def State.bootHead (s : State) : Option (Bool × BootHead) :=
  match BootHead.parse (s.flashBytes 0 64), BootHead.parse (s.flashBytes 0x80000 64) with
  | some a, some b =>
    let d := (a.hseq + (2 ^ 32 - b.hseq % 2 ^ 32)) % 2 ^ 32
    if 1 ≤ d && d ≤ 2 ^ 31 - 1 then some (false, a) else some (true, b)
  | some a, none => some (false, a)
  | none, some b => some (true, b)
  | none, none => none

/-- A header is written to the copy not in use, with the next HSEQ (R427). -/
def State.putHead (s : State) (h : BootHead) : State :=
  match s.bootHead with
  | some (c, old) => s.flashStore (headBase (!c)) (BootHead.bytes { h with hseq := (old.hseq + 1) % 2 ^ 32 })
  | none => s.flashStore (headBase false) (BootHead.bytes { h with hseq := 1 })

/-- FWU_STATUS and FWU_ALTVER show the boot header. -/
def State.headRegs (s : State) : State :=
  match s.bootHead with
  | some (_, h) => (s.wr R.FWU_STATUS_TRIES h.tries).wr R.FWU_ALTVER_VER h.verOth
  | none => s

/-- The running image is CONFIRMED, TRIAL or MIXED (FWU_STATUS.IMGSTATE). -/
def State.imgState (s : State) : Nat := s.rd R.FWU_STATUS_IMGSTATE

/-! ### Settings store (R439 to R443) -/

/-- A record: its type, flags and data. -/
abbrev SetRec := Nat × Nat × List Byte

/-- The bytes of a record, padded to a multiple of 8. -/
def recBytes (r : SetRec) : List Byte :=
  leBytes 2 r.1 ++ leBytes 1 r.2.1 ++ [0] ++ leBytes 4 r.2.2.length ++ r.2.2 ++ List.replicate ((8 - r.2.2.length % 8) % 8) 0

/-- The records of a store, one after the other. -/
def parseRecs : Nat → List Byte → List SetRec
  | 0, _ => []
  | n + 1, b =>
    let len := fieldAt b 4 4
    (fieldAt b 0 2, fieldAt b 2 1, (b.drop 8).take len) :: parseRecs n (b.drop (8 + (len + 7) / 8 * 8))

/-- A store: its generation, schema and records. -/
structure Store where
  sgen   : Nat
  schema : Nat
  recs   : List SetRec
deriving DecidableEq, Repr

/-- The bytes of a store. -/
def Store.bytes (x : Store) : List Byte :=
  let r := x.recs.flatMap recBytes
  let h := leBytes 4 0x54534554 ++ leBytes 4 x.sgen ++ leBytes 2 x.schema ++ leBytes 2 x.recs.length ++ leBytes 4 r.length
    ++ leBytes 4 (crc32c r).toNat ++ List.replicate 40 0
  h ++ leBytes 4 (crc32c h).toNat ++ r

/-- A valid store from bytes: MAGIC, HCRC and CRC are correct (R441). -/
def Store.parse (h body : List Byte) : Option Store :=
  let g := fieldAt h
  let r := body.take (g 12 4)
  if g 0 4 == 0x54534554 && g 0x3C 4 == (crc32c (h.take 0x3C)).toNat && decide (g 12 4 ≤ 524288 - 64) && g 16 4 == (crc32c r).toNat then
    some { sgen := g 4 4, schema := g 8 2, recs := parseRecs (g 10 2) r }
  else none

/-- One copy of the store in flash. -/
def State.storeCopy (s : State) (c : Bool) : Option Store :=
  let h := s.flashBytes (storeBase c) 64
  if fieldAt h 0 4 == 0x54534554 && decide (fieldAt h 12 4 ≤ 524288 - 64) then
    Store.parse h (s.flashBytes (storeBase c + 64) (fieldAt h 12 4))
  else none

/-- The store in force with its copy: the valid one with the larger SGEN (R441). -/
def State.storeNow (s : State) : Option (Bool × Store) :=
  match s.storeCopy false, s.storeCopy true with
  | some a, some b => if a.sgen < b.sgen then some (true, b) else some (false, a)
  | some a, none => some (false, a)
  | none, some b => some (true, b)
  | none, none => none

/-- The types that this specification's image knows: 1 to 7, and host records (R440). -/
def typeKnown (t : Nat) : Bool := (decide (1 ≤ t) && decide (t ≤ 7)) || decide (0x8000 ≤ t)

/-- A store is readable by an image: its schema, and every MANDATORY record of a known type (R443). -/
def storeReadable (h : List Byte) (x : Store) : Bool :=
  decide (imgSchemaMin h ≤ x.schema) && decide (x.schema ≤ imgSchema h)
    && x.recs.all (fun r => r.2.1 % 2 == 0 || typeKnown r.1)

/-- The settings lock of R442 follows the image's state and whether it parsed the whole store. -/
def State.setLock (s : State) : State := s.wrB R.FWU_STATUS_SETLOCK (!(s.fwu.parsed && s.imgState == 0))

/-- A store is written to the other copy with the next generation, and read back (R441, R442). The answer holds the new SGEN. -/
def State.writeStore (s : State) (recs : List SetRec) : State × Nat :=
  let w := match s.fwu.running with | some i => imgSchema i.header | none => 0
  let (c, g) : Bool × Nat := match s.storeNow with | some (c, x) => (!c, (x.sgen + 1) % 2 ^ 32) | none => (false, 1)
  let s1 := (s.flashStore (storeBase c) (Store.bytes { sgen := g, schema := w, recs := recs })).onFwu (fun f => { f with records := recs })
  ((((s1.wr R.FWU_SETGEN_SGEN g).wr R.FWU_SCHEMA_STORE w).bump R.FWU_SAVES_CNT 1).flag R.FWU_INTSTAT_SAVED, g)

/-- A record of a type replaces the one there, or joins the list. -/
def putRec (l : List SetRec) (t flags : Nat) (data : List Byte) : List SetRec :=
  l.filter (fun r => r.1 != t) ++ [(t, flags, data)]

end Sys2Proof.Machine
end

