-- ==== Sys2Proof/Machine/Plane.lean ====
section
/-!
DEFINITION. Plane (R263 to R276): converters, corrected samples, filters, stamps, swaps of banks, and the history. Times are
ticks of a third of an LSB.
-/
namespace Sys2Proof.Machine

/-! ### Lanes -/

/-- A lane that has done nothing. -/
def LaneState.zero : LaneState :=
  { fSwap := none, mSwap := none, gate := none, gateLast := none, histFrom := 0, phase := 0, mAt := 0, olds := [] }

/-- A lane's record. -/
def State.lane (s : State) (l : Nat) : LaneState := mapGet .zero s.wfp.lanes l

/-- A change of a lane's record. -/
def State.setLane (s : State) (l : Nat) (f : LaneState → LaneState) : State :=
  { s with wfp := { s.wfp with lanes := mapSet .zero s.wfp.lanes l (f (s.lane l)) } }

/-- A lane is interleaved (R264). -/
def State.interleaved (s : State) (l : Nat) : Bool := (s.rd R.WFP_PAIRCFG_IL).testBit (l / 2)

/-- A lane exists: not the odd one of an interleaved pair (R264). -/
def State.laneExists (s : State) (l : Nat) : Bool := !(s.interleaved l && l % 2 == 1)

/-- The converters that a lane draws on are ready (R263). -/
def State.laneReady (s : State) (l : Nat) : Bool :=
  (s.rd R.WFP_ADCRDY_RDY).testBit l && (!s.interleaved l || (s.rd R.WFP_ADCRDY_RDY).testBit (l + 1))

/-- The input sample period in ticks (R264, R268). -/
def State.inPeriod (s : State) (l : Nat) : Nat := if s.interleaved l then 32 else 64

/-- The number of a lane's F or M bank: A at even, B at odd places (R288). -/
def bankOf (l : Nat) (m b : Bool) : Nat := 4 * l + 2 * m.toNat + b.toNat

/-- The active bank of a lane's stage. -/
def State.activeBank (s : State) (l : Nat) (m : Bool) : Nat :=
  bankOf l m (s.on (if m then R.WFP_SWAP_MBANK l else R.WFP_SWAP_FBANK l))

/-- The inactive bank. -/
def State.spareBank (s : State) (l : Nat) (m : Bool) : Nat :=
  bankOf l m (!s.on (if m then R.WFP_SWAP_MBANK l else R.WFP_SWAP_FBANK l))

/-- D of a lane's F bank (R269). -/
def State.decim (s : State) (l : Nat) : Nat := 2 ^ s.rd (R.WFP_BANK_DLOG (s.activeBank l false))

/-- A bank is valid (R270). -/
def State.bankOk (s : State) (k : Nat) (m : Bool) : Bool :=
  let n := s.rd (R.WFP_BANK_NTAPS k)
  decide (1 ≤ n) && decide (n ≤ if m then 32 else 64) && decide (s.rd (R.WFP_BANK_DLOG k) ≤ if m then 0 else 4)
    && s.rd (R.WFP_BANK_RSV0 k) == 0 && s.rd (R.WFP_BANK_RSV1 k) == 0
    && (List.range n).all (fun i => s.rd (R.WFP_BANK_RSVC k i) == 0)
    && (!s.on (R.WFP_BANK_SYM k)
        || (List.range n).all (fun i => s.rd (R.WFP_BANK_COEF k i) == s.rd (R.WFP_BANK_COEF k (n - 1 - i))))

/-! ### Banks over time (R269, R271) -/

/-- What a filter bank holds now. -/
def State.firBank (s : State) (k : Nat) : FirBank :=
  let n := s.rd (R.WFP_BANK_NTAPS k)
  { ntaps := n, dlog := s.rd (R.WFP_BANK_DLOG k), shift := s.rd (R.WFP_BANK_SHIFT k), sym := s.on (R.WFP_BANK_SYM k)
    gdly := s.rdS (R.WFP_BANK_GDLY k), coefs := (List.range n).map (fun i => s.rdS (R.WFP_BANK_COEF k i)) }

/-- The F and M banks of a lane, oldest first, each until the instant that the next one takes over; the last entry is the pair
in force. -/
def State.bankUses (s : State) (l : Nat) : List (Option Int × BankUse) :=
  let x := s.lane l
  x.olds.map (fun u => (some u.until_, u)) ++
    [(none, { until_ := 0, phase := x.phase, mAt := x.mAt, f := s.firBank (s.activeBank l false), m := s.firBank (s.activeBank l true) })]

/-- The banks that compute an output whose newest input was taken at an instant. -/
def State.banksAt (s : State) (l : Nat) (t : Int) : BankUse :=
  match (s.bankUses l).find? (fun u => u.1.all (fun e => decide (t < e))) with
  | some u => u.2
  | none => { until_ := 0, phase := 0, mAt := 0, f := s.firBank (s.activeBank l false), m := s.firBank (s.activeBank l true) }

/-! ### Stamps (R268) -/

/-- The group delay that a filter bank adds, its input samples `p` ticks apart. -/
def FirBank.delay (b : FirBank) (p : Nat) : Int := if b.sym then ((b.ntaps - 1) * p / 2 : Nat) else b.gdly

/-- GD of a stage: 0 = C, 1 = F, 2 = M, with the banks of an instant. -/
def State.groupDelay (s : State) (l stage : Nat) (u : BankUse) : Int :=
  let c : Int := if s.interleaved l then 224 else 0
  let f : Int := if 1 ≤ stage then u.f.delay (s.inPeriod l) else 0
  let m : Int := if 2 ≤ stage then u.m.delay (s.inPeriod l * 2 ^ u.f.dlog) else 0
  c + f + m

/-- A stretch of a stage's output: the instants `phase + k * step` below `until_`, each stamped `delay` before it. -/
structure Stretch where
  until_ : Option Int
  phase  : Int
  mAt    : Int
  step   : Nat
  delay  : Int
deriving DecidableEq, Repr

/-- The stretches of a lane's stage, oldest first: the input samples themselves for stage C, the grid S + kD of each F bank for
F and M (R269). A stamp lies GD + WFP_SKEW before the instant of its newest input sample. -/
def State.stretches (s : State) (l stage : Nat) : List Stretch :=
  let skew := s.rdS (R.WFP_SKEW_SKEW l)
  let p := s.inPeriod l
  if stage = 0 then
    [{ until_ := none, phase := 0, mAt := 0, step := p, delay := s.groupDelay l 0 (s.banksAt l 0) + skew }]
  else
    (s.bankUses l).map (fun u =>
      { until_ := u.1, phase := u.2.phase, mAt := u.2.mAt, step := p * 2 ^ u.2.f.dlog, delay := s.groupDelay l stage u.2 + skew })

/-- The least a + k * p that is not below x. -/
def gridFrom (a x : Int) (p : Nat) : Int := x + (a - x) % (p : Int)

/-- The first output of a stretch at or after an instant, if the stretch reaches it. -/
def Stretch.firstAt (g : Stretch) (x : Int) : Option Int :=
  let y := gridFrom g.phase (max g.phase x) g.step
  if g.until_.all (fun e => decide (y < e)) then some y else none

/-- The last output of a stretch at or before an instant. -/
def Stretch.lastAt (g : Stretch) (x : Int) : Option Int :=
  let h := match g.until_ with | some e => min x (e - 1) | none => x
  let y := h - (h - g.phase) % (g.step : Int)
  if g.phase ≤ y then some y else none

/-- The stretch that an output belongs to. -/
def stretchAt (gs : List Stretch) (x : Int) : Option Stretch := gs.find? (fun g => g.until_.all (fun e => decide (x < e)))

/-- The output behind one. -/
def nextOut (gs : List Stretch) (x : Int) : Int := (gs.findSome? (fun g => g.firstAt (x + 1))).getD (x + 64)

/-- The output before one. -/
def prevOut (gs : List Stretch) (x : Int) : Int := (gs.reverse.findSome? (fun g => g.lastAt (x - 1))).getD (x - 64)

/-- An instant is an output of the stage. -/
def isOut (gs : List Stretch) (x : Int) : Bool := gs.findSome? (fun g => g.firstAt x) == some x

/-- What the stamp of an output lies before its newest input sample. -/
def delayAt (gs : List Stretch) (x : Int) : Int := match stretchAt gs x with | some g => g.delay | none => 0

/-- The stamp of an output (R268). -/
def stampOf (gs : List Stretch) (x : Int) : Int := x - delayAt gs x

/-- The instant of the first output whose stamp is at or after an instant of the ball (R272, R282). -/
def firstOut (gs : List Stretch) (t : Int) : Int := (gs.findSome? (fun g => g.firstAt (t + g.delay))).getD t

/-- `n` outputs on from one. -/
def outAfter (gs : List Stretch) (x : Int) : Nat → Int
  | 0 => x
  | n + 1 => outAfter gs (nextOut gs x) n

/-- `n` outputs back from one. -/
def outBefore (gs : List Stretch) (x : Int) : Nat → Int
  | 0 => x
  | n + 1 => outBefore gs (prevOut gs x) n

/-- GD + WFP_SKEW of a lane's stage at an instant. -/
def State.stampDelay (s : State) (l stage : Nat) (x : Int) : Int := delayAt (s.stretches l stage) x

/-- The sample period of a stage in ticks, with the banks in force (R282). -/
def State.stagePeriod (s : State) (l stage : Nat) : Nat := if stage = 0 then s.inPeriod l else s.inPeriod l * s.decim l

/-- A root instant in ticks. -/
def ticksOf (lsb : Nat) : Int := 3 * (lsb : Int)

/-- The frame, and its epoch in LSB, that a root instant in ticks belongs to (R282). -/
def State.frameOfTick (s : State) (t : Int) : Nat × Nat :=
  let f := s.rd R.PEG_FRAMENUM_NUM
  match s.peg.epochOld with
  | some e => if t < ticksOf s.peg.epochLsb then ((f + (2 ^ 32 - 1)) % 2 ^ 32, e) else (f, s.peg.epochLsb)
  | none => (f, s.peg.epochLsb)

/-! ### Samples -/

/-- Division rounded to nearest, ties to even (d > 0). -/
def roundEven (a : Int) (d : Nat) : Int :=
  let q := a / d
  let r := a % d
  if (d : Int) < 2 * r || (2 * r == (d : Int) && q % 2 == 1) then q + 1 else q

/-- A marker sample (R267). -/
def isMarker (x : Int) : Bool := x == 32767 || x == -32767

/-- The marker of a sign. -/
def markerOf (neg : Bool) : Int := if neg then -32767 else 32767

/-- A converter code (R265). -/
def adcCode (c : BitVec 10) : Int := c.toInt

/-- An over-range code. -/
def overRange (c : BitVec 10) : Bool := c.toInt == 511 || c.toInt == -512

/-- Offset, gain and skew of each converter in a correction bank as it stands (0 = A, 1 = B). -/
def State.corBank (s : State) (b : Nat) : List (Int × Int × Int) :=
  (List.range 32).map (fun i =>
    (s.rdS (R.WFP_CORA_OFS (32 * b + i)), s.rdS (R.WFP_CORA_GAIN (32 * b + i)), s.rdS (R.WFP_CORB_SKEW (32 * b + i))))

/-- The corrections of converter i for a sample taken at an instant: those of the bank active then (R266). -/
def State.corAt (s : State) (i : Nat) (t : Int) : Int × Int × Int :=
  match s.wfp.corOlds.find? (fun u => decide (t < u.until_)) with
  | some u => u.vals.getD i (0, 0, 0)
  | none =>
    let k := i + 32 * (s.on R.WFP_CTL_CORBANK).toNat
    (s.rdS (R.WFP_CORA_OFS k), s.rdS (R.WFP_CORA_GAIN k), s.rdS (R.WFP_CORB_SKEW k))

/-- Clip of an ordinary sample (R267). -/
def clipSample (x : Int) : Int := clampI (-32766) 32766 x

/-- Stage C's correction of one code of converter i, taken at an instant (R266). -/
def State.correct (s : State) (i : Nat) (t : Int) (c : BitVec 10) : Int :=
  let (ofs, gain, _) := s.corAt i t
  clipSample (roundEven ((adcCode c * 32 - ofs) * (262144 + gain)) 262144)

/-- The sign of the over-range code nearest to the middle of a span. -/
def nearestOver (w : List (BitVec 10)) : Option Bool :=
  (List.range 8).findSome? (fun d => ([7 + d, 7 - d]).findSome? (fun i =>
    match w[i]? with
    | some c => if overRange c then some (decide (c.toInt < 0)) else none
    | none => none))

/-- The converter that takes a lane's sample at an instant of the root clock, in ticks: on an interleaved lane, even edges are
converter 2p's. -/
def State.converterAt (s : State) (l : Nat) (t : Int) : Nat :=
  if s.interleaved l then 2 * (l / 2) + (t / 32 % 2).toNat else l

/-- The marker or the ordinary sample that a code yields (R266, R267). -/
def State.sampleOf (s : State) (i : Nat) (t : Int) (c : BitVec 10) : Int :=
  if overRange c then markerOf (decide (c.toInt < 0)) else s.correct i t c

/-- Stage C of a lane, newest first, each with the instant of its newest input, from codes newest first; the newest was taken at
the root instant `t` (R266, R267). The odd converter's samples pass the fractional-delay filter, the even one's a pure delay. -/
def State.stageC (s : State) (l : Nat) (t : Int) (codes : List (BitVec 10)) : List (Int × Int) :=
  if s.interleaved l then
    let p := 2 * (l / 2)
    (List.range (codes.length - 14)).map (fun (i : Nat) =>
      let w := (codes.drop i).take 15
      let at0 := t - 32 * (i : Int)
      let at7 := at0 - 224
      (at0, if s.converterAt l at7 = p then s.sampleOf p at7 (w.getD 7 0)
        else
          match nearestOver w with
          | some neg => markerOf neg
          | none =>
            let diff := (s.corAt p at7).2.2 - (s.corAt (p + 1) at7).2.2
            clipSample (Config.fracDelay diff (w.zipIdx.map (fun x =>
              let tx := at0 - 32 * (x.2 : Int)
              s.correct (s.converterAt l tx) tx x.1)))))
  else codes.mapIdx (fun i c => (t - 64 * (i : Int), s.sampleOf l (t - 64 * (i : Int)) c))

/-- One filter output over its span, newest first, with its clip (R269). -/
def FirBank.out (b : FirBank) (w : List Int) : Int × Bool :=
  let acc := ((w.take b.ntaps).zipIdx.map (fun x => b.coefs.getD x.2 0 * x.1)).sum
  if (w.take b.ntaps).any isMarker then (markerOf (decide (acc < 0)), false)
  else
    let y := roundEven acc (2 ^ b.shift)
    (clipSample y, decide (clipSample y ≠ y))

/-- A stage's output: its instant, its value and whether it was clipped. -/
structure OutSample where
  at_ : Int
  v   : Int
  sat : Bool
deriving DecidableEq, Repr

/-- F's outputs, newest first: each on the grid of the bank in force at its instant, computed by that bank on all taps (R271). -/
def State.stageF (s : State) (l : Nat) : List (Int × Int) → List OutSample
  | [] => []
  | c :: r =>
    if isOut (s.stretches l 1) c.1 then
      let (v, sat) := (s.banksAt l c.1).f.out ((c :: r).map (·.2))
      { at_ := c.1, v := v, sat := sat } :: s.stageF l r
    else s.stageF l r

/-- M's outputs, newest first, from F's. -/
def State.stageM (s : State) (l : Nat) : List OutSample → List OutSample
  | [] => []
  | f :: r =>
    let (v, sat) := (s.banksAt l f.at_).m.out ((f :: r).map (·.v))
    { at_ := f.at_, v := v, sat := sat } :: s.stageM l r

/-- Outputs of a stage from the instant `first` to the newest, oldest first; the newest code was taken at the root instant `t`. -/
def State.samples (s : State) (l stage : Nat) (first t : Int) (codes : List (BitVec 10)) : List OutSample :=
  let c := s.stageC l t codes
  let out :=
    if stage = 0 then c.map (fun x => { at_ := x.1, v := x.2, sat := false })
    else if stage = 1 then s.stageF l c
    else s.stageM l (s.stageF l c)
  (out.filter (fun x => decide (first ≤ x.at_))).reverse

/-- A sample in recovery lies in the span of stamps `lo` to `hi`: one of the 8 samples of its own converter behind an over-range one
(R265). The span is that of the signal at the ball, so a sample counts by the instant it was taken less WFP_SKEW. -/
def State.inRecovery (s : State) (l : Nat) (lo hi t : Int) (codes : List (BitVec 10)) : Bool :=
  let st := if s.interleaved l then 2 else 1
  let skew := s.rdS (R.WFP_SKEW_SKEW l)
  (List.range codes.length).any (fun i =>
    let a := t - ((i * s.inPeriod l : Nat) : Int) - skew
    decide (lo ≤ a) && decide (a ≤ hi) && !overRange (codes.getD i 0) && (List.range 8).any (fun j =>
      match codes[i + st * (j + 1)]? with | some c => overRange c | none => false))

/-- How far back in root ticks replaced banks are kept: beyond the longest history. -/
def keepTicks : Int := 268435456

/-! ### Commands -/

/-- CONVERTER_READY (R263): an enabled converter's samples are valid. -/
def execConverterReady (i : Fin 32) (s : State) : Host.Outcome State Fault Refusal :=
  if (s.rd R.WFP_ADCEN_EN).testBit i.val then
    (s.wr R.WFP_ADCRDY_RDY (putBit (s.rd R.WFP_ADCRDY_RDY) i.val true)).done
  else s.done

/-- CONVERTER_OVER_RANGE (R265). -/
def execConverterOverRange (i : Fin 32) (s : State) : Host.Outcome State Fault Refusal :=
  ((s.wr R.WFP_OVRSTAT_OVR (putBit (s.rd R.WFP_OVRSTAT_OVR) i.val true)).fault R.WFP_INTSTAT_OVR 1 i.val).done

/-- WFP_PAIRCFG_WRITE (R264): a pair's bit changes only while both its converters are disabled. -/
def execWfpPaircfgWrite (v : Word) (s : State) : Host.Outcome State Fault Refusal :=
  let new := v.toNat % 65536
  let old := s.rd R.WFP_PAIRCFG_IL
  let en := s.rd R.WFP_ADCEN_EN
  let bad := (List.range 16).any (fun p => new.testBit p != old.testBit p && (en.testBit (2 * p) || en.testBit (2 * p + 1)))
  if bad then (s.refuse R.WFP_INTSTAT_BADCFG).done else (s.wr R.WFP_PAIRCFG_IL new).done

/-- HSRC_WRITE (R276): accepted while the lane's Dog unit is disarmed; it empties the history. -/
def execHsrcWrite (l : Fin 32) (v : BitVec 2) (s : State) : Host.Outcome State Fault Refusal :=
  if v = 3 || s.on (R.DOG_USTAT_ARMED l.val) then (s.refuse R.WFP_INTSTAT_BADCFG).done
  else ((s.wr (R.WFP_LANE_HSRC l.val) v.toNat).setLane l.val (fun x => { x with histFrom := s.nowLsb })).done

/-- The inactive correction bank is to become active 1 us later; a skew beyond 500 is refused; a request while one is pending is no
second one (R478). -/
def State.corSwap (s : State) : State :=
  if s.wfp.corSwap.isSome then s else
  let bank := 32 * (!s.on R.WFP_CTL_CORBANK).toNat
  let bad := (List.range 32).any (fun i => decide (500 < (s.rdS (R.WFP_CORB_SKEW (bank + i))).natAbs))
  if bad then s.refuse R.WFP_INTSTAT_BADCFG
  else ({ s with wfp := { s.wfp with corSwap := some (s.nowLsb + 102400) } } : State).wr R.WFP_CTL_CORSWAP 1

/-- CORSWAP (R266): a write of 1 to WFP_CTL.CORSWAP. -/
def execCorswap (s : State) : Host.Outcome State Fault Refusal := s.corSwap.done

/-- The other correction bank becomes active on every converter for samples taken from the instant `at0` (root LSB); earlier ones
keep the bank before (R266). -/
def State.corApply (s : State) (at0 : Nat) : State :=
  let old : CorUse := { until_ := ticksOf at0, vals := s.corBank (s.on R.WFP_CTL_CORBANK).toNat }
  let keep := s.wfp.corOlds.filter (fun u => decide (ticksOf s.nowLsb - keepTicks < u.until_))
  let s1 : State := { s with wfp := { s.wfp with corSwap := none, corOlds := keep ++ [old] } }
  ((s1.wrB R.WFP_CTL_CORBANK (!s.on R.WFP_CTL_CORBANK)).wr R.WFP_CTL_CORSWAP 0).flag R.WFP_INTSTAT_SWAPDONE

/-- CORRECTION_SWAP_APPLIED (R266): once 1 us has passed, the bank is active on every converter at once; a set of Plumb's takes
effect with it and commits its marker (R353, R362). -/
def execCorrectionSwapApplied (s : State) : Host.Outcome State Fault Refusal :=
  match s.wfp.corSwap with
  | none => s.done
  | some t =>
    if s.nowLsb < t then s.done
    else
      let s2 := s.corApply t
      match s2.plb.wfDue with
      | some n => (({ s2 with plb := { s2.plb with wfDue := none } } : State).markCal 3 n true true 0).done
      | none => s2.done

/-- The instant that WHEN selects (R271). -/
def State.swapWhen (s : State) (l : Nat) : SwapWhen :=
  let soon := SwapWhen.atLsb (s.nowLsb + 102400)
  match s.rd (R.WFP_SWAP_WHEN l) with
  | 0 => soon
  | 1 => .frame
  | 2 => .epoch
  | _ =>
    let t := s.rd (R.WFP_SWAPTLO_T l) + 2 ^ 32 * s.rd (R.WFP_SWAPTHI_T l)
    if t < s.clk.devTime.toNat + 1000 then soon else .device t

/-- A swap of one filter stage is requested (R271). -/
def State.askSwap (s : State) (l : Nat) (m : Bool) : State :=
  let busy := if m then (s.lane l).mSwap.isSome else (s.lane l).fSwap.isSome
  if busy || !s.bankOk (s.spareBank l m) m then s.refuse R.WFP_INTSTAT_BADCFG
  else
    let w := some (s.swapWhen l)
    (s.setLane l (fun x => if m then { x with mSwap := w } else { x with fSwap := w })).wr
      (if m then R.WFP_SWAP_MSWAP l else R.WFP_SWAP_FSWAP l) 1

/-- FSWAP (R271). -/
def execFswap (l : Fin 32) (s : State) : Host.Outcome State Fault Refusal := (s.askSwap l.val false).done

/-- MSWAP (R271). -/
def execMswap (l : Fin 32) (s : State) : Host.Outcome State Fault Refusal := (s.askSwap l.val true).done

/-- Swaps that wait for an event get its instant: T of R271 (a frame start, or the start of a configuration epoch). -/
def State.swapsAt (s : State) (w : SwapWhen) (lsb : Nat) : State :=
  let go (o : Option SwapWhen) : Option SwapWhen := if o = some w then some (.atLsb lsb) else o
  { s with wfp := { s.wfp with lanes := s.wfp.lanes.map (fun p => (p.1, { p.2 with fSwap := go p.2.fSwap, mSwap := go p.2.mSwap })) } }

/-- T of a waiting swap as a root instant in LSB, once it has come (R271). -/
def State.swapT (s : State) : SwapWhen → Option Nat
  | .atLsb t => if t ≤ s.nowLsb then some t else none
  | .device t =>
    if t ≤ s.clk.devTime.toNat then some (s.nowLsb - (s.clk.devTime.toNat - t) * 512 / 5) else none
  | .frame | .epoch => none

/-- A bank takes effect at the first input sample of its stage at or after T; what the lane's banks held until then stays with the
outputs computed before (R271). -/
def State.applySwap (s : State) (l : Nat) (m : Bool) (lsb : Nat) : State :=
  let x := s.lane l
  let t := (x.olds.map (·.until_)).foldl max (ticksOf lsb)
  let old : BankUse := { until_ := t, phase := x.phase, mAt := x.mAt, f := s.firBank (s.activeBank l false)
                         m := s.firBank (s.activeBank l true) }
  let keep := x.olds.filter (fun u => decide (ticksOf s.nowLsb - keepTicks < u.until_)) ++ [old]
  let act := if m then R.WFP_SWAP_MBANK l else R.WFP_SWAP_FBANK l
  let s1 := s.setLane l (fun x => if m then { x with mSwap := none, mAt := t, olds := keep }
    else { x with fSwap := none, phase := gridFrom 0 t (s.inPeriod l), olds := keep })
  ((s1.wrB act (!s.on act)).wr (if m then R.WFP_SWAP_MSWAP l else R.WFP_SWAP_FSWAP l) 0).flag R.WFP_INTSTAT_SWAPDONE

/-- FILTER_SWAP_APPLIED (R271): a pending swap is applied once its instant has come. -/
def execFilterSwapApplied (l : Fin 32) (m : Bool) (s : State) : Host.Outcome State Fault Refusal :=
  match (if m then (s.lane l.val).mSwap else (s.lane l.val).fSwap).bind s.swapT with
  | some t => (s.applySwap l.val m t).done
  | none => s.done

end Sys2Proof.Machine
end

