-- ==== Sys2Proof/Machine/Girt.lean ====
section
/-!
DEFINITION. Girt (R445, R446, R450): the rights of a master on a target, and what a refusal records.
-/
namespace Sys2Proof.Machine

/-- Girt's master numbers (R445). -/
def girtHost : Nat := 0
def girtPurlin63 : Nat := 4
def girtDog : Nat := 5
def girtTenon : Nat := 7
def girtJtag : Nat := 8

/-- The right of a master on a target: 0 none, 1 read, 2 write, 3 read-write; JTAG debug reads 3 always (R450). -/
def State.girtRight (s : State) (m t : Nat) : Nat := if m = girtJtag then 3 else bits (s.rd (R.GRT_RIGHTS_RIGHTS t)) (2 * m) 2

/-- The window of an HBM address: the lowest-numbered enabled one that holds it (R445). -/
def State.girtWindow (s : State) (addr : Nat) : Option Nat :=
  let u := addr / 2097152
  (List.range 64).find? (fun w => s.on (R.GRT_WINBASE_EN w) && decide (s.rd (R.GRT_WINBASE_BASE w) ≤ u)
    && decide (u ≤ s.rd (R.GRT_WINLAST_LAST w)))

/-- An access is allowed by a right. -/
def rightOk (r : Nat) (write : Bool) : Bool := if write then r / 2 % 2 == 1 else r % 2 == 1

/-- A master may read or write an HBM address. -/
def State.girtHbm (s : State) (m addr : Nat) (write : Bool) : Bool :=
  match s.girtWindow addr with
  | some w => decide (addr < hbmSize) && rightOk (s.girtRight m w) write
  | none => false

/-- The first address of a span that a master may not access, looking at each 2 MiB unit of it. -/
def State.girtSpan (s : State) (m addr n : Nat) (write : Bool) : Option Nat :=
  let units := (List.range ((addr + (n - 1)) / 2097152 - addr / 2097152 + 1)).map (fun i =>
    if i = 0 then addr else (addr / 2097152 + i) * 2097152)
  units.find? (fun a => !s.girtHbm m a write)

/-- A refusal is counted, recorded and logged (R446). -/
def State.girtDeny (s : State) (m target addr : Nat) (write : Bool) : State :=
  let s1 := (((s.bump R.GRT_DENY_CNT 1).wr R.GRT_LASTDENY_MASTER m).wr R.GRT_LASTDENY_TARGET target).wrB R.GRT_LASTDENY_WRITE write
  ((s1.wr R.GRT_LASTADDRLO_ADDR (addr % 2 ^ 32)).wr R.GRT_LASTADDRHI_ADDR (addr / 2 ^ 32)).fault R.GRT_INTSTAT_DENY 1 target

/-- A refusal on HBM. -/
def State.girtDenyHbm (s : State) (m addr : Nat) (write : Bool) : State :=
  s.girtDeny m ((s.girtWindow addr).getD Config.noTarget) addr write

end Sys2Proof.Machine
end

