-- ==== Sys2Proof/Machine/DogOps.lean ====
section
/-!
DEFINITION. Dog's ring and triggers (R277 to R286).
-/
namespace Sys2Proof.Machine

/-- A unit that has done nothing. -/
def DogUnit.zero : DogUnit := { everyCnt := 0, rateCnt := 0, spanEnd := none, caps := [], edgeLast := none }

/-- A unit's record. -/
def State.dogU (s : State) (u : Nat) : DogUnit := mapGet .zero s.dog.units u

/-- A change of a unit's record. -/
def State.setDogU (s : State) (u : Nat) (f : DogUnit → DogUnit) : State :=
  { s with dog := { s.dog with units := mapSet .zero s.dog.units u (f (s.dogU u)) } }

/-- The ring's size in bytes: that of the capture region (R19, R283). -/
def State.ringBytes (s : State) : Nat := s.fwu.alloc.capture.2

/-- Bytes reserved and not freed. -/
def State.ringUsed (s : State) : Nat := (s.dog.ring.map (·.size)).sum

/-- Dog drains its ring (RINGMODE 0). -/
def State.draining (s : State) : Bool := !s.on R.DOG_CTL_RINGMODE

/-! ### Rate levels (R284) -/

/-- The threshold of a level, per cent. -/
def State.levelAt (s : State) (l : Nat) : Nat :=
  if l = 1 then s.rd R.DOG_RATECFG_T1 else if l = 2 then s.rd R.DOG_RATECFG_T2 else s.rd R.DOG_RATECFG_T3

/-- One move of the fill level: up to the highest threshold reached, or down by one 5 points below its own. -/
def State.fillStep (s : State) (cur : Nat) : Nat :=
  let pct := 100 * s.ringUsed
  let up := ([1, 2, 3].filter (fun l => decide (s.levelAt l * s.ringBytes ≤ pct))).foldl max 0
  if cur < up then up
  else if 0 < cur && decide (pct + 5 * s.ringBytes < s.levelAt cur * s.ringBytes) then cur - 1
  else cur

/-- The levels as they show; STORE mode has none. -/
def State.showLevels (s : State) (fill drain : Nat) : State :=
  let lvl := if s.draining then max fill drain else 0
  let old := s.rd R.DOG_STATUS_RLVL
  let s1 := ((s.wr R.DOG_STATUS_FILLLVL fill).wr R.DOG_STATUS_DRAINLVL drain).wr R.DOG_STATUS_RLVL lvl
  s1.when (old == 0 && decide (0 < lvl)) (·.fault R.DOG_INTSTAT_RATE 1 0)

/-- DOG_FILL, DOG_OLDEST and the fill level follow the ring. -/
def State.ringRegs (s : State) : State :=
  let old := match s.dog.ring.head? with | some e => e.offset | none => s.dog.tail
  let s1 := (s.wr R.DOG_FILL_MIB (s.ringUsed / 2 ^ 20)).wr R.DOG_OLDEST_OFS old
  let f0 := s1.rd R.DOG_STATUS_FILLLVL
  let f := s1.fillStep (s1.fillStep (s1.fillStep f0))
  s1.showLevels (if s1.draining then f else 0) (s1.rd R.DOG_STATUS_DRAINLVL)

/-- The rate level in force (R284). -/
def State.rateLevel (s : State) : Nat := s.rd R.DOG_STATUS_RLVL

/-! ### Entries (R283) -/

/-- The oldest whole entries are overwritten until `size` bytes fit (STORE mode). -/
def makeRoom (cap size : Nat) : List DogEntry → List DogEntry
  | [] => []
  | e :: r => if ((e :: r).map (·.size)).sum + size ≤ cap || !e.full then e :: r else makeRoom cap size r

/-- Space for an entry is reserved and its number taken, or it is not made and counted. -/
def State.reserve (s : State) (size : Nat) : State × Option DogEntry :=
  let ring := if s.draining then s.dog.ring else makeRoom s.ringBytes size s.dog.ring
  if s.ringBytes < (ring.map (·.size)).sum + size then
    ((s.bump R.DOG_FULLDROP_CNT 1).fault R.DOG_INTSTAT_FULL 1 0, none)
  else
    let e : DogEntry := { seq := s.dog.nextSeq, offset := s.dog.tail, size := size, full := false, sent := false }
    let s1 : State :=
      { s with dog := { s.dog with ring := ring ++ [e], nextSeq := s.dog.nextSeq + 1
                                   tail := (s.dog.tail + size / 64) % (max 64 s.ringBytes / 64) } }
    (s1.ringRegs, some e)

/-- An entry's bytes go into the ring, wrapping at its end, and the entry is complete. -/
def State.fillEntry (s : State) (seq : Nat) (bytes : List Byte) : State :=
  match s.dog.ring.find? (fun e => e.seq == seq) with
  | none => s
  | some e =>
    let base := s.fwu.alloc.capture.1
    let room := s.ringBytes - 64 * e.offset
    let s1 := (s.hbmStore (base + 64 * e.offset) (bytes.take room)).hbmStore base (bytes.drop room)
    { s1 with dog := { s1.dog with ring := updateWhere (fun e => e.seq == seq) (fun e => { e with full := true }) s1.dog.ring } }

/-- The oldest entry's space is freed (DRAIN mode). -/
def State.freeEntry (s : State) : State :=
  ({ s with dog := { s.dog with ring := s.dog.ring.drop 1, delivered := true } } : State).ringRegs

/-- Bytes of an entry in the ring. -/
def State.entryBytes (s : State) (e : DogEntry) : List Byte :=
  let base := s.fwu.alloc.capture.1
  let room := min e.size (s.ringBytes - 64 * e.offset)
  s.hbmBytes (base + 64 * e.offset) room ++ s.hbmBytes base (e.size - room)

/-- 64 header bytes: 62 and their CRC (R282). -/
def withCrc (b : List Byte) : List Byte := b ++ leBytes 2 (crc16 b).toNat

/-! ### Triggers -/

/-- What a trigger brings: its kind, its instant in root ticks, and its AUX bits. -/
structure Trig where
  kind : Nat
  t    : Int
  aux  : Nat
deriving DecidableEq, Repr

/-- LEN and PRE of a unit. -/
def State.uLen (s : State) (u : Nat) : Nat := s.rd (R.DOG_ULEN_LEN u)

/-- The size of a unit's entries: header, samples and zero fill (R282). -/
def entrySize (len : Nat) : Nat := (64 + 2 * len + 63) / 64 * 64

/-- The history stage of a lane (R276). -/
def State.hsrc (s : State) (l : Nat) : Nat := s.rd (R.WFP_LANE_HSRC l)

/-- The instant of a capture's first sample: PRE outputs before the first whose stamp is at or after the trigger (R282). -/
def State.capFirst (s : State) (u stage pre : Nat) (t : Int) : Int :=
  let gs := s.stretches u stage
  outBefore gs (firstOut gs t) pre

/-- The history no longer holds the output of an instant, or never did (R276, R280). -/
def State.leftHistory (s : State) (u : Nat) (x : Int) : Bool :=
  decide (x + ((131072 * s.stagePeriod u (s.hsrc u) : Nat) : Int) < ticksOf s.nowLsb)
    || decide (x < ticksOf (s.lane u).histFrom)

/-- The trigger lies before the end of the last span plus the holdoff (R281). -/
def State.dogBusy (s : State) (u : Nat) (t : Int) : Bool :=
  match (s.dogU u).spanEnd with
  | some e => decide (t < e + ((1536 * s.rd (R.DOG_UHOLD_HOLD u) : Nat) : Int))
  | none => false

/-- RATE of a header (R282). -/
def State.rateByte (s : State) (l stage : Nat) : Nat :=
  (if s.interleaved l then 0 else 1) + 2 * (if stage = 0 then 0 else s.rd (R.WFP_BANK_DLOG (s.activeBank l false)))
    + 16 * stage + 64 * s.rd (R.WFP_SWAP_FBANK l) + 128 * s.rd (R.WFP_SWAP_MBANK l)

/-- A capture is made: its entry is reserved and its span opens (R282, R283). -/
def State.capture (s : State) (u : Nat) (g : Trig) : State :=
  let len := s.uLen u
  match s.reserve (entrySize len) with
  | (s1, none) => s1
  | (s1, some e) =>
    let stage := s.hsrc u
    let (fr, ep) := s.frameOfTick g.t
    let pre := s.rd (R.DOG_UPRE_PRE u)
    let gs := s.stretches u stage
    let c : Capture :=
      { seq := e.seq, trig := g.kind, frame := fr, epoch0 := ep, trigT := g.t - ticksOf ep, len := len
        pre := pre, src := stage, rate := s.rateByte u stage, rlvl := s.rateLevel
        tb := s.rd R.CLK_STATUS_TBSTATE, aux := g.aux }
    let stop := stampOf gs (outAfter gs (s.capFirst u stage pre g.t) (len - 1))
    let s2 := s1.setDogU u (fun x => { x with caps := x.caps ++ [c], spanEnd := some stop })
    (s2.bump (R.DOG_UCAPS_CNT u) 1).wr (R.DOG_USTAT_BUSY u) 1

/-- One trigger in how many a level takes (R285). -/
def rateOf (l : Nat) : Nat := if l = 0 then 1 else if l = 1 then 2 else if l = 2 then 4 else 16

/-- A trigger against holdoff, history and rate (R280, R281, R285). -/
def State.trigger (s : State) (u : Nat) (g : Trig) : State :=
  if s.dogBusy u g.t then s.bump (R.DOG_USKIPBUSY_CNT u) 1
  else if g.kind = 2 && s.leftHistory u (s.capFirst u (s.hsrc u) (s.rd (R.DOG_UPRE_PRE u)) g.t) then
    (s.bump (R.DOG_ULATEPT_CNT u) 1).fault R.DOG_INTSTAT_LATEPT 1 u
  else if g.kind = 4 then s.capture u g
  else
    let n := rateOf s.rateLevel
    let k := (s.dogU u).rateCnt
    let s1 := s.setDogU u (fun x => { x with rateCnt := (k + 1) % n })
    if k % n = 0 then s1.capture u g else s1.bump (R.DOG_USKIPRATE_CNT u) 1

/-- A unit takes triggers: Dog is on, the unit is armed, and a single-mode unit has no capture under way (R281). -/
def State.dogLive (s : State) (u : Nat) : Bool :=
  s.on R.DOG_CTL_EN && s.on (R.DOG_USTAT_ARMED u)
    && !(s.rd (R.DOG_UCFG_ARMMODE u) == 2 && !(s.dogU u).caps.isEmpty)

/-- A trigger of the unit's mode: one in EVERY is taken (R277). -/
def State.modeTrigger (s : State) (u mode : Nat) (g : Trig) : State :=
  if s.dogLive u && s.rd (R.DOG_UCFG_TMODE u) == mode then
    let every := max 1 (s.rd (R.DOG_UCFG_EVERY u))
    let k := (s.dogU u).everyCnt
    let s1 := s.setDogU u (fun x => { x with everyCnt := (k + 1) % every })
    if k = 0 then s1.trigger u g else s1
  else s


/-- A record of the journal reaches a unit in point mode (R280). -/
def State.pointTrigger (s : State) (h : Handed) (r : Rec) (u : Nat) : State :=
  let body := r.body.toNat
  let cls := bits body 44 4
  let ok := s.on (R.WFP_LANE_CHVAL u) && s.rd (R.WFP_LANE_CHMAP u) == bits body 32 10
    && (s.rd (R.DOG_UPOINT_CLASSMASK u)).testBit cls && !(decide (9 ≤ cls) && decide (cls ≤ 14))
  if ok then
    let d := (2 * bits body 0 24 * 10000 + 146383) / (2 * 146383)
    s.modeTrigger u 3 { kind := 2, t := ticksOf (h.fLast + d), aux := r.seq }
  else s

/-- A committed burst's records reach Dog in sequence order (R280). -/
def State.dogPoints (s : State) (h : Handed) : State :=
  (h.recs.filter (fun r => r.stream == 0)).foldl (fun t r => (List.range 32).foldl (fun t u => t.pointTrigger h r u) t) s

end Sys2Proof.Machine
end

