-- ==== Sys2Proof/Machine/Ledger.lean ====
section
/-!
DEFINITION. The engine ledger of Joist (R194, R195) and the bookkeeping of engines and clusters that Peg's planning and the
dispatch of work items both read (R192, R213, R214).
-/
namespace Sys2Proof.Machine

/-- An engine in service that runs nothing and has never failed. -/
def Engine.zero : Engine :=
  { out := false, testing := false, lastFail := none, burst := none, item := [], port := [], started := 0 }

/-- The record of a device-wide engine number (R192). -/
def State.engine (s : State) (e : Nat) : Engine := mapGet .zero s.jst.engines e

/-- A change of an engine's record. -/
def State.setEngine (s : State) (e : Nat) (f : Engine → Engine) : State :=
  { s with jst := { s.jst with engines := mapSet .zero s.jst.engines e (f (s.engine e)) } }

/-- An engine in service: not under test and not out until power-on reset (R213). -/
def Engine.inService (e : Engine) : Bool := !e.out && !e.testing

/-- The engines of a cluster, in ascending order (R192). -/
def clusterEngines (c : Nat) : List Nat := (List.range 32).map (fun i => 32 * c + i)

/-- Engines of a cluster in service. -/
def State.inSvc (s : State) (c : Nat) : Nat := ((clusterEngines c).filter (fun e => (s.engine e).inService)).length

/-- JST_CLSTAT.NENG and JST_CLENG follow the engines. -/
def State.clusterRegs (s : State) (c : Nat) : State :=
  let m := (List.range 32).foldl (fun m i => if (s.engine (32 * c + i)).inService then m + 2 ^ i else m) 0
  (s.wr (R.JST_CLSTAT_NENG c) (s.inSvc c)).wr (R.JST_CLENG_INSVC c) m

/-- The cluster that serves items of home cluster c presented at a root instant: the spare from the takeover on (R214). -/
def State.serving (s : State) (c lsb : Nat) : Nat :=
  if s.jst.subFor = some c then 32
  else
    match s.jst.subAt with
    | some (d, t) => if d = c && decide (t ≤ lsb) then 32 else c
    | none => c

/-- The capacity of the cluster that serves c: one engine is kept as the re-run reserve, and the throttle level takes
quarters of the rest (R194). -/
def State.capacity (s : State) (c lsb : Nat) : Nat := (s.inSvc (s.serving c lsb) - 1) * (4 - s.throttle) / 4

/-- The standard set (R208). -/
def ProgSet.std : ProgSet := { num := 0, standard := true, ident := 0, slots := [(0, 256), (1, 128)], image := [] }

/-- The program set of a configuration epoch (R22, R202). -/
def State.setOf (s : State) (epoch : Nat) : ProgSet :=
  match s.jst.sets.find? (fun p => p.num == (s.epochCfg epoch).progSet) with
  | some p => p
  | none => .std

/-- The largest declared budget of a set (R204). -/
def ProgSet.bmax (p : ProgSet) : Nat := (p.slots.map (·.2)).foldl max 0

/-- Presentation follows the close by 40 ns (R186). -/
def presentLsb (close : Nat) : Nat := close + 4096

/-- The booking of a burst: from presentation to 20 ns + B_max * 625 ps later (R194). -/
def State.bookingFor (s : State) (ch num close epoch : Nat) : Booking :=
  { cluster := ch / 32, burst := num, start := presentLsb close
    stop := presentLsb close + 2048 + 64 * (s.setOf epoch).bmax }

/-- Bookings of a cluster that cover a root instant. -/
def covering (l : List Booking) (c t : Nat) : Nat :=
  (l.filter (fun b => b.cluster == c && decide (b.start ≤ t) && decide (t < b.stop))).length

/-- A booking fits: at no instant of its occupancy are there more bookings than the capacity. -/
def State.fits (s : State) (l : List Booking) (b : Booking) : Bool :=
  let cap := s.capacity b.cluster b.start
  let inside := (l.filter (fun x => x.cluster == b.cluster && decide (b.start ≤ x.start) && decide (x.start < b.stop))).map (·.start)
  (b.start :: inside).all (fun t => decide (covering l b.cluster t + 1 ≤ cap))

/-- Every burst of a gang is booked, or none: the bookings afterwards. A cluster of capacity 0 grants at once, without an
engine (R215). -/
def State.bookAll (s : State) : List Booking → List Booking → Option (List Booking)
  | l, [] => some l
  | l, b :: r =>
    if s.capacity b.cluster b.start = 0 then s.bookAll l r
    else if s.fits l b then s.bookAll (l ++ [b]) r
    else none

/-- The bookings that have not ended. -/
def State.liveBookings (s : State) : List Booking := s.jst.bookings.filter (fun b => decide (s.nowLsb ≤ b.stop))

/-- The ledger after a change. -/
def State.setBookings (s : State) (l : List Booking) : State := { s with jst := { s.jst with bookings := l } }

end Sys2Proof.Machine
end

