-- ==== Sys2Proof/Machine/StdSet.lean ====
section
/-!
DEFINITION. The standard program set as the records it writes (R207, R208, R219 to R224): binary32 throughout, q and log2 being
the programs' own.
-/
namespace Sys2Proof.Machine

/-! ### Class parameters and calibration -/

/-- The class parameters of R224. -/
structure ClassParams where
  xspread : Nat
  rprec   : Nat
  cdepth  : Nat
  wbloom  : Nat
deriving DecidableEq, Repr

/-- The defaults of R224. -/
def ClassParams.default : ClassParams := { xspread := 128, rprec := 64, cdepth := 200000, wbloom := 96 }

/-- The parameters that the first 16 bytes of a shared table hold; a non-zero reserved byte calls for every default. -/
def ClassParams.parse (b : List Byte) : ClassParams :=
  if (sliceBytes b 9 7).any (· != 0) then .default
  else { xspread := fieldAt b 0 2, rprec := fieldAt b 2 2, cdepth := fieldAt b 4 4, wbloom := fieldAt b 8 1 }

/-- Code, constants and shared-table lengths, and the slots, of a program-set image (R209). -/
def psCode (b : List Byte) : Nat := fieldAt b 8 4
def psConst (b : List Byte) : Nat := fieldAt b 12 4
def psShared (b : List Byte) : Nat := fieldAt b 0x50 4
def psEntry (b : List Byte) (i : Nat) : Nat := fieldAt b (16 + 8 * i) 2
def psBudget (b : List Byte) (i : Nat) : Nat := fieldAt b (18 + 8 * i) 2

/-- The class parameters of a program set: from the shared table of its image (R209); the firmware's own set has the
defaults. -/
def ProgSet.params (p : ProgSet) : ClassParams :=
  if p.image.length < 0x90 then .default
  else .parse (p.image.drop (0x90 + fieldAt p.image 8 4 + fieldAt p.image 12 4))

/-- Bytes of a channel's calibration block (R361, R380). -/
def State.calField (s : State) (addr ch off n : Nat) : Nat :=
  if addr = 0 then leNat ((List.range n).map (fun i => Config.calBlank ch (off + i)))
  else leNat (s.hbmBytes (addr + 1024 * ch + off) n)

/-- What a program reads of its channel's calibration (R361): Z = Zf + dz, the contamination band, and the gain of a range. -/
structure ChanCal where
  z    : Word
  cmin : Nat
  cmax : Nat
deriving DecidableEq, Repr

/-- The calibration of a burst's channel, in the values of its frame's start (R352, R359, R361). -/
def State.chanCal (s : State) (b : Burst) : ChanCal :=
  { z := fAdd (BitVec.ofNat 32 (s.calField b.cal b.channel 0 4)) (fRat b.dz 16)
    cmin := s.calField b.cal b.channel 4 4, cmax := s.calField b.cal b.channel 8 4 }

/-- The gain g_i for a range in 0.1 mm: i counts 6 m (R361). -/
def State.gainAt (s : State) (b : Burst) (range : Nat) : Word :=
  BitVec.ofNat 32 (s.calField b.cal b.channel (0x100 + 4 * min 127 (range / 60000)) 4)

/-! ### Numbers -/

/-- Conversion to an integer, to nearest and ties to even; what is not finite converts to 0. -/
def fToInt (a : Word) : Int :=
  if fFinite a then
    let p := fParts a
    if 0 ≤ p.2 then p.1 * (2 : Int) ^ p.2.toNat
    else
      let d : Int := (2 : Int) ^ (-p.2).toNat
      let q := p.1 / d
      let r := p.1 % d
      if d < 2 * r || (2 * r == d && q % 2 == 1) then q + 1 else q
  else 0

/-- 14.6383 at its nearest binary32 value: 0.1 mm per LSB. -/
def rangeScale : Word := fRat 146383 10000

/-- A weight: never below 0. -/
def fPosPart (w : Word) : Word := if fLt 0 w then w else 0

/-- A value is accepted at 2^-acc: N_acc, the least n from 3 up with q(n, mu) at most 2^-acc, does not exceed it (R207). -/
def accepted (p5 : Nat) (mu : Word) (acc : Nat) : Bool :=
  (List.range (p5 + 1)).any (fun n => decide (3 ≤ n) && fLe (engineQ n mu) (fRat 1 (2 ^ acc)))

/-- The centroid of weighed times (R207 step 3). -/
def centroid (l : List (Word × Nat)) : Word :=
  let tot := l.foldl (fun a x => fAdd a x.1) 0
  let num := l.foldl (fun a x => fAdd a (fMul x.1 (fInt x.2))) 0
  fDiv num tot

/-- A range in 0.1 mm units (R207 step 3). -/
def rangeOf (tau z : Word) : Int := fToInt (fMul (fSub tau z) rangeScale)

/-- An echo keeps its place between 0.5 m and 760 m. -/
def rangeOk (r : Int) : Bool := decide (5000 ≤ r) && decide (r ≤ 7600000)

/-! ### Echoes -/

/-- An echo that the standard set has found (R207). `win` is none for a coarse-only echo. -/
structure Echo where
  tau    : Word
  range  : Int
  win    : Option Nat
  start  : Nat
  p5     : Nat
  mu     : Word
  nshot  : Nat
  netw   : Word
  r      : Word
  width  : Nat
  wsat   : Bool
  slid   : Bool
  lower  : Nat
  upper  : Nat
  only12 : Bool
  abut   : Bool
  sum    : Nat
deriving DecidableEq, Repr

/-- A fine count. -/
def Window.count (w : Window) (k : Nat) : Nat := mapGet 0 w.fine k

/-- The peak bin: the largest count, the lowest index on a tie (R197, PKSCAN). -/
def Window.peak (w : Window) : Nat :=
  (List.range 64).foldl (fun p k => if w.count p < w.count k then k else p) 0

/-- The total of the fine counts. -/
def Window.total (w : Window) : Nat := ((List.range 64).map w.count).sum

/-- The weighed centres of some bins of a window. -/
def Window.weights (w : Window) (base : Word) (bins : List Nat) (ofs : Nat) : List (Word × Nat) :=
  bins.map (fun k => (fPosPart (fSub (fInt (w.count k)) base), ofs + 8 * k + 4))

/-- The width of an echo: the lower median of the widths, in 78.125 ps, ties to even; 255 with a saturated one (R207 step 4). -/
def echoWidth (l : List WinEvent) : Nat :=
  if l.any (·.wsat) then 255
  else
    let ws := sortNat (l.map (·.width))
    let m := ws.getD ((ws.length - 1) / 2) 0
    let q := m / 8
    min 255 (if 4 < m % 8 || (m % 8 == 4 && q % 2 == 1) then q + 1 else q)

/-- The test of one window (R207 steps 2 to 5): the echo it holds. -/
def Burst.testWindow (b : Burst) (aF : Word) (foreign : Bool) (z : Word) (i : Nat) (w : Window) : Option Echo :=
  let n := b.nshot w
  let p := w.peak
  let lo := p - 2
  let hi := min 63 (p + 2)
  let bins := (List.range 64).filter (fun k => decide (lo ≤ k) && decide (k ≤ hi))
  let p5 := (bins.map w.count).sum
  let mu := fMul (fInt (5 * n)) aF
  let base := fMul (fInt n) aF
  if n = 0 || !accepted p5 mu 12 then none
  else
    let tau := fAdd (fInt w.w) (centroid (w.weights base bins 0))
    let evs := w.events.filter (fun e => decide (lo ≤ e.ofs / 8) && decide (e.ofs / 8 ≤ hi))
    let e : Echo :=
      { tau := tau, range := rangeOf tau z, win := some i, start := w.w, p5 := p5, mu := mu, nshot := n
        netw := fSub (fInt w.total) (fMul (fInt (64 * n)) aF), r := fDiv (fSub (fInt p5) mu) (fInt n)
        width := echoWidth evs, wsat := evs.any (·.wsat), lower := w.lower.length, upper := w.upper.length
        slid := decide (p5 < 2 * max w.lower.length w.upper.length)
        only12 := foreign && !accepted p5 mu 20, abut := false, sum := 0 }
    if rangeOk e.range then some e else none

/-- Windows abut: one starts where the other ends. -/
def Echo.abuts (e f : Echo) : Bool := e.start + 512 == f.start || f.start + 512 == e.start

/-- The class of an echo (R223); `far` is the range of the next echo beyond, `near1` a nearer echo of class 1. -/
def Echo.classOf (e : Echo) (p : ClassParams) (c : ChanCal) (far : Option Int) (near1 : Bool) : Nat :=
  if c.cmax != 0 && decide ((c.cmin : Int) ≤ e.range) && decide (e.range ≤ (c.cmax : Int)) then 7
  else if e.only12 then 5
  else if e.wsat || decide (p.wbloom ≤ e.width) then 6
  else if e.win.isNone then 15
  else if fLe (fMul (fInt e.p5) (fAdd (fInt 1) (fRat p.xspread 256))) e.netw
      || decide (e.p5 ≤ 4 * min e.lower e.upper) || e.abut then 3
  else
    match far with
    | some r =>
      if fLt e.r (fRat p.rprec 256) then 4
      else if r - e.range ≤ p.cdepth then 1
      else if near1 then 2 else 0
    | none => if near1 then 2 else 0

/-- A coarse-only candidate as an echo (R207 step 6). -/
def coarseEcho (z : Word) (d : Cand) : Echo :=
  let tau := fInt (128 * d.b + 64)
  { tau := tau, range := rangeOf tau z, win := none, start := 0, p5 := 0, mu := 0, nshot := 0, netw := 0, r := 0, width := 0
    wsat := false, slid := false, lower := 0, upper := 0, only12 := false, abut := false, sum := d.sum }

/-- An echo lies within 4 coarse bins of a bin (R207 step 6). -/
def Echo.within4 (e : Echo) (b : Nat) : Bool := decide (((b : Int) - fFloor e.tau / 128).natAbs ≤ 4)

/-- The coarse-only echoes, in descending s(b). -/
def Burst.coarseEchoes (b : Burst) (z : Word) (found : List Echo) : List Echo :=
  (b.cands.filter (fun d => d.win.isNone && decide (2 * b.thr ≤ d.sum))).foldl (fun l d =>
    let e := coarseEcho z d
    if (found ++ l).any (·.within4 d.b) || !rangeOk e.range then l else l ++ [e]) []

/-- Merging (R207 step 7): a particulate echo whose window abuts the last part of the particulate echo before it joins it. Each
item holds the echo of the nearest part and the windows merged so far. -/
def mergeEchoes (p : ClassParams) (c : ChanCal) : List Echo → List (Echo × List Nat) → List (Echo × List Nat)
  | [], acc => acc
  | e :: r, acc =>
    let i := e.win.getD 0
    match acc.getLast? with
    | some (f, ws) =>
      if e.classOf p c none false == 3 && f.classOf p c none false == 3 && f.start + 512 * ws.length == e.start then
        mergeEchoes p c r (acc.dropLast ++ [(f, ws ++ [i])])
      else mergeEchoes p c r (acc ++ [(e, [i])])
    | none => mergeEchoes p c r [(e, [i])]

/-- A merged echo is ranged at the centroid of every bin of its windows. -/
def Burst.rangeMerged (b : Burst) (aF z : Word) (m : Echo × List Nat) : Echo :=
  if m.2.length ≤ 1 then m.1
  else
    let ws := m.2.flatMap (fun i => match b.windows[i]? with
      | some w => w.weights (fMul (fInt (b.nshot w)) aF) (List.range 64) w.w
      | none => [])
    let tau := centroid ws
    { m.1 with tau := tau, range := rangeOf tau z }

/-- Insertion by range, ascending; equal ranges keep their order. -/
def echoIns (e : Echo) : List Echo → List Echo
  | [] => [e]
  | f :: r => if e.range < f.range then e :: f :: r else f :: echoIns e r

/-- The echoes kept, in ascending range (R207 steps 2 to 8), and the number of windows tested. -/
def Burst.echoes (b : Burst) (p : ClassParams) (c : ChanCal) (aF : Word) : List Echo × Nat :=
  let tested := b.windows.zipIdx.filter (fun x => b.nshot x.1 != 0)
  let found0 := tested.filterMap (fun x => b.testWindow aF b.foreign c.z x.2 x.1)
  let found := found0.map (fun e => { e with abut := found0.any (·.abuts e) })
  let coarse := b.coarseEchoes c.z found
  let windowed := ((mergeEchoes p c found []).map (b.rangeMerged aF c.z)).filter (fun e => rangeOk e.range)
  (((windowed ++ coarse).take 4).foldl (fun l e => echoIns e l) [], tested.length)

/-! ### Records -/

/-- The confidence code of a probability (R220). -/
def confCode (p : Word) (slid : Bool) : Nat :=
  let p1 := if fLt (fInt 1) p then fInt 1 else p
  let c : Int := if fLt 0 p1 then min 255 (fFloor (fMul (fInt (-4)) (engineLog2 p1))) else 255
  (max 1 (if slid then c - 32 else c)).toNat

/-- The intensity code (R219). -/
def intensityCode (r gain : Word) : Nat :=
  let rho := fMul r gain
  if fLt 0 rho then
    (clampI 1 255 (fToInt (fAdd (fInt 160) (fMul (fInt 24) (engineLog2 rho))))).toNat
  else 1

/-- Bytes 16 to 27 of a record of stream 0 or 1 (R218). -/
def recBody (range inten ch echo cls conf width az el vhyp : Nat) : BitVec 96 :=
  BitVec.ofNat 96 (range % 2 ^ 24 + inten * 2 ^ 24
    + 2 ^ 32 * (ch % 1024 + echo * 2 ^ 10 + cls * 2 ^ 12 + conf * 2 ^ 16 + width * 2 ^ 24)
    + 2 ^ 64 * (az % 2 ^ 16 + (el % 4096) * 2 ^ 16 + vhyp * 2 ^ 28))

/-- Bytes 16 to 27 of a direct record, which carries no velocity hypothesis (R218). -/
def pointBody (range inten ch echo cls conf width az el : Nat) : BitVec 96 :=
  recBody range inten ch echo cls conf width az el 15

/-- a_f: ambient per fine bin per shot (R207 step 1). -/
def Burst.ambient (b : Burst) : Word := if b.svScout = 0 then 0 else fDiv (fRat b.lam 256) (fInt (16 * b.svScout))

/-- The classes of echoes in ascending range, with each echo's index (R223). -/
def classify (p : ClassParams) (c : ChanCal) : List Echo → Bool → List (Echo × Nat)
  | [], _ => []
  | e :: r, near1 =>
    let k := e.classOf p c ((r.head?).map (·.range)) near1
    (e, k) :: classify p c r (near1 || k == 1)

/-- STD-SCAN (R207): the records of a burst, each with its window, none standing for a coarse-only echo. -/
def State.stdScan (s : State) (b : Burst) (p : ClassParams) : List (BitVec 96 × Option Nat) :=
  let c := s.chanCal b
  let (es, nt) := b.echoes p c b.ambient
  ((classify p c es false).zipIdx).map (fun x =>
    let e := x.1.1
    let prob := if e.win.isSome then fMul (fInt nt) (engineQ e.p5 e.mu)
      else fMul (fInt b.npos) (engineQ e.sum (fRat (3 * b.lam) 256))
    let inten := if e.win.isSome then intensityCode e.r (s.gainAt b e.range.toNat) else 0
    (pointBody e.range.toNat inten b.channel x.2 x.1.2 (confCode prob e.slid) e.width b.az b.elev, e.win))

/-- STD-REF (R208): one class 8 record or none. -/
def State.stdRef (s : State) (b : Burst) : List (BitVec 96 × Option Nat) :=
  let c := s.chanCal b
  match b.windows with
  | [] => []
  | w :: _ =>
    match b.testWindow b.ambient false c.z 0 w with
    | none => []
    | some e => [(pointBody e.range.toNat 0 b.channel 0 8 (confCode (engineQ e.p5 e.mu) false) e.width b.az 0, some 0)]

end Sys2Proof.Machine
end

