-- ==== Sys2Proof/Machine/JoistMem.lean ====
section
/-!
DEFINITION. What an engine sees (R196 to R200, R209, R361): the work item that the dispatch unit writes, the record port, the
engine registers, scratch, the program window, the shared table, the calibration copies and the statistics.
-/
namespace Sys2Proof.Machine

/-! ### The work item (R198, R199) -/

/-- Bytes placed at an offset of a block whose bytes read 0 elsewhere. -/
def putAt (o : Nat) (b : List Byte) (l : List Byte) : List Byte :=
  l.take o ++ List.replicate (o - l.length) 0 ++ b ++ l.drop (o + b.length)

/-- A candidate of the work item: b, s(b), and its window or 0xFF. -/
def Cand.bytes (c : Cand) : List Byte :=
  leBytes 2 c.b ++ leBytes 2 c.sum ++ [BitVec.ofNat 8 (c.win.getD 0xFF), 0, 0, 0]

/-- A window block (R199). -/
def Burst.windowBytes (b : Burst) (w : Window) : List Byte :=
  leBytes 4 w.w ++ leBytes 1 (b.nshot w) ++ leBytes 1 (!w.direct).toNat ++ leBytes 2 w.events.length ++ leBytes 8 w.excl
    ++ leBytes 2 w.lower.length ++ leBytes 2 w.upper.length ++ List.replicate 12 0
    ++ (List.range 64).map (fun k => BitVec.ofNat 8 (mapGet 0 w.fine k))
    ++ w.events.flatMap (fun e => leBytes 4 e.word.toNat)

/-- BFLAGS (R198). -/
def Burst.bflags (b : Burst) : Nat :=
  b.foreign.toNat + 2 * b.spare.toNat + 4 * b.limiter.toNat + 8 * b.rerun.toNat + 16 * b.spareCl.toNat

/-- Valid shots of a burst. -/
def Burst.nvalid (b : Burst) : Nat := ((List.range b.k).filter b.valid).length

/-- The head of a work item, up to its candidates (R198). -/
def Burst.itemHead (b : Burst) (e : Nat) : List Byte :=
  leBytes 2 b.channel ++ leBytes 2 b.elev ++ leBytes 2 b.az ++ leBytes 1 b.epoch ++ leBytes 1 (b.kind == .reference).toNat
    ++ leBytes 1 b.k ++ leBytes 1 b.s ++ leBytes 1 b.nvalid ++ leBytes 1 b.svScout ++ leBytes 4 b.frame ++ leBytes 8 b.void
    ++ leBytes 8 b.closeT.toNat ++ leBytes 4 b.lam ++ leBytes 2 b.thr ++ leBytes 1 b.cands.length ++ leBytes 1 b.ndrop
    ++ leBytes 1 b.bflags ++ leBytes 1 b.windows.length ++ leBytes 2 b.rflags.toNat ++ leBytes 2 e ++ leBytes 2 b.npos
    ++ List.replicate 16 0

/-- The work item as the dispatch unit writes it for engine e; what lies behind its last byte reads 0 (R198). -/
def Burst.item (b : Burst) (e : Nat) : List Byte :=
  let head := b.itemHead e ++ b.cands.flatMap Cand.bytes
  b.windows.zipIdx.foldl (fun l x => putAt (0x100 + 0x500 * x.2) (b.windowBytes x.1) l) head

/-! ### The record port (R200, R201) -/

/-- The record port after a program has written bytes 16 to 27 of its records and the commit word. -/
def portBytes (word : Word) (recs : List (BitVec 96)) : List Byte :=
  (recs.take 4).flatMap (fun r => List.replicate 16 0 ++ leBytes 12 r.toNat ++ List.replicate 4 0)
    ++ List.replicate (128 - 32 * (recs.take 4).length) 0 ++ leBytes 4 word.toNat

/-! ### The address space (R196) -/

/-- A region allows an access; there is no region behind the last one named. DEDUCED (log 134): the whole program window allows
reads as well as fetches, and an access is judged by its first byte. -/
def engAllows (addr : Nat) (k : EngAccess) : Bool :=
  if addr < 0x2000 then k == .read
  else if addr < 0x2100 then k == .write
  else if addr < 0x2110 then k == .read
  else if addr < 0x4000 then false
  else if addr < 0x8000 then k == .read || k == .write
  else if addr < 0xC000 then k == .read || k == .fetch
  else if addr < 0x10000000 then false
  else if addr < 0x10100000 then k == .read
  else if addr < 0x10140000 then k == .add
  else false

/-- The burst that an engine runs. -/
def State.burstOn (s : State) (e : Nat) : Option Burst := (s.engine e).burst.bind s.burst

/-- The slot of a burst's program (R202). -/
def State.slotFor (s : State) (b : Burst) : Nat :=
  if b.kind == .reference then 1 else mapGet 0 (s.epochCfg b.epoch).zoneSel b.zone

/-- The declared budget of a burst's program (R204). -/
def State.budgetFor (s : State) (b : Burst) : Nat := mapGet 0 (s.setOf b.epoch).slots (s.slotFor b)

/-- CYCLE: cycles of 625 ps since the program's start. -/
def State.cycles (s : State) (e : Nat) : Nat := (s.nowLsb - (s.engine e).started) / 64

/-- The engine registers CYCLE, BUDGET and ENGID. -/
def State.engineRegs (s : State) (e : Nat) : List Byte :=
  leBytes 4 (s.cycles e) ++ leBytes 4 ((s.burstOn e).map s.budgetFor |>.getD 0) ++ leBytes 4 e ++ leBytes 4 0

/-- Code and constants, and the shared table, of a program-set image (R209). -/
def ProgSet.window (p : ProgSet) : List Byte := (p.image.drop 0x90).take (psCode p.image + psConst p.image)
def ProgSet.table (p : ProgSet) : List Byte :=
  (p.image.drop (0x90 + psCode p.image + psConst p.image)).take (psShared p.image)

/-- The block of a channel in a calibration copy (R361). -/
def State.calBlock (s : State) (cal : Nat) (dz : Int) (flag : Bool) (ch : Nat) : List Byte :=
  leBytes 4 (fAdd (BitVec.ofNat 32 (s.calField cal ch 0 4)) (fRat dz 16)).toNat ++ leBytes 4 (s.calField cal ch 4 4)
    ++ leBytes 4 (s.calField cal ch 8 4) ++ leBytes 4 flag.toNat ++ List.replicate 0xF0 0
    ++ (List.range 128).flatMap (fun i => leBytes 4 (s.calField cal ch (0x100 + 4 * i) 4))

/-- A byte of a cluster's calibration area as the work item of a burst reads it: the copy of its frame's parity holds the values
of its frame's start, the other copy those that stand now (R361). -/
def State.calByte (s : State) (b : Burst) (o : Nat) : Byte :=
  let ch := b.channel / 32 * 32 + o / 0x1000 % 32
  let own := b.frame % 2 == o / 0x20000 % 2
  let blk := if own then s.calBlock b.cal b.dz b.calRamp ch
    else s.calBlock s.plb.chanAddr (mapGet 0 s.plb.dzNow (ch / 32)) (s.peg.calMask.testBit ch) ch
  blk.getD (o % 0x1000) 0

/-- A byte of a cluster's statistics. -/
def State.statByte (s : State) (c o : Nat) : Byte := (leBytes 4 (mapGet 0 s.jst.stats (65536 * c + o / 4))).getD (o % 4) 0

/-- A byte of an engine's address space as a read of it gives it (R196); scratch holds what the spec does not specify until its
program has written it (R203). -/
def State.engineByte (s : State) (e addr : Nat) : Byte :=
  match s.burstOn e with
  | none => 0
  | some b =>
    if addr < 0x2000 then (s.engine e).item.getD addr 0
    else if addr < 0x2100 then (s.engine e).port.getD (addr - 0x2000) 0
    else if addr < 0x2110 then (s.engineRegs e).getD (addr - 0x2100) 0
    else if addr < 0x8000 then Config.scratch e addr
    else if addr < 0xC000 then (s.setOf b.epoch).window.getD (addr - 0x8000) 0
    else if addr < 0x100C0000 then (s.setOf b.epoch).table.getD (addr - 0x10000000) 0
    else if addr < 0x10100000 then s.calByte b (addr - 0x100C0000)
    else s.statByte (e / 32) (addr - 0x10100000)

/-- An atomic add to a word of a cluster's statistics (R196). -/
def State.statAdd (s : State) (c : Nat) (a : BitVec 16 × Word) : State :=
  let k := 65536 * c + a.1.toNat
  { s with jst := { s.jst with stats := mapSet 0 s.jst.stats k (BitVec.ofNat 32 (mapGet 0 s.jst.stats k) + a.2).toNat } }

end Sys2Proof.Machine
end

