-- ==== Sys2Proof/Machine/PegCode.lean ====
section
/-!
DEFINITION. Burst codes (R129, R130, R137) and the cells of R127.
-/
namespace Sys2Proof.Machine

/-! ### Codes -/

/-- One step of the xorshift64 generator (R129). -/
def xorshift (x : BitVec 64) : BitVec 64 :=
  let a := x ^^^ (x <<< 13)
  let b := a ^^^ (a >>> 7)
  b ^^^ (b <<< 17)

/-- Several steps of the generator. -/
def xorshiftN : Nat → BitVec 64 → BitVec 64
  | 0, x => x
  | n + 1, x => xorshiftN n (xorshift x)

/-- The generator of a plan step, warmed up (R129). -/
def codeSeed (seed : BitVec 64) (frame driver step : Nat) : BitVec 64 :=
  let s := seed ^^^ (BitVec.ofNat 64 frame * 0x9E3779B97F4A7C15#64) ^^^ (BitVec.ofNat 64 driver <<< 56)
    ^^^ (BitVec.ofNat 64 step <<< 8)
  xorshiftN 8 (if s = 0 then 1 else s)

/-- The gap that a generator state gives, in units of 5 ns. -/
def gapOf (gmin gspan : Nat) (g : BitVec 64) : Nat := gmin + (g >>> 32).toNat % gspan

/-- The gaps of a code as first drawn (R129). -/
def drawGaps (gmin gspan : Nat) : Nat → BitVec 64 → List Nat × BitVec 64
  | 0, g => ([], g)
  | n + 1, g =>
    let g1 := xorshift g
    let (l, g2) := drawGaps gmin gspan n g1
    (gapOf gmin gspan g1 :: l, g2)

/-- The differences below 5,120 ns that a new offset makes with those before it. -/
def newDiffs (offs : List Nat) (o : Nat) : List Nat := (offs.map (fun p => o - p)).filter (fun d => decide (d < 1024))

/-- Coincidences: pairs of differences less than 10 ns apart (R130). -/
def clashes (new diffs : List Nat) : Nat :=
  (new.map (fun a => (diffs.filter (fun b => decide (a < b + 2) && decide (b < a + 2))).length)).sum

/-- Up to 16 redraws of a gap; the candidate with the fewest coincidences so far is kept (R130). -/
def redraw (gmin gspan : Nat) (offs diffs : List Nat) (base : Nat) : Nat → BitVec 64 → Nat × Nat → (Nat × Nat) × BitVec 64
  | 0, g, b => (b, g)
  | n + 1, g, b =>
    if b.1 = 0 then (b, g)
    else
      let g1 := xorshift g
      let gap := gapOf gmin gspan g1
      let c := clashes (newDiffs offs (base + gap)) diffs
      redraw gmin gspan offs diffs base n g1 (if c < b.1 then (c, gap) else b)

/-- A code being checked: its offsets, newest first, their differences, the generator, and whether a gap was kept with a
coincidence. -/
structure CodeRun where
  offs  : List Nat
  diffs : List Nat
  gen   : BitVec 64
  weak  : Bool
deriving DecidableEq, Repr

/-- The next gap of a code is checked, redrawn if it must be, and joined (R130). -/
def CodeRun.step (gmin gspan : Nat) (r : CodeRun) (gap : Nat) : CodeRun :=
  let base := r.offs.headD 0
  let c := clashes (newDiffs r.offs (base + gap)) r.diffs
  let (b, g) := redraw gmin gspan r.offs r.diffs base 16 r.gen (c, gap)
  { offs := (base + b.2) :: r.offs, diffs := r.diffs ++ newDiffs r.offs (base + b.2), gen := g
    weak := r.weak || decide (0 < b.1) }

/-- A code of K offsets, checked and redrawn, with the generator behind it (R129, R130). -/
def runCode (gmin gspan k : Nat) (g : BitVec 64) : CodeRun :=
  let (gaps, g1) := drawGaps gmin gspan (k - 1) g
  gaps.foldl (CodeRun.step gmin gspan) { offs := [0], diffs := [], gen := g1, weak := false }

/-- The code of K offsets that a generator gives, in units of 5 ns, and whether it is weak (R129, R130). -/
def makeCode (gmin gspan k : Nat) (g : BitVec 64) : List Nat × Bool :=
  let r := runCode gmin gspan k g
  (r.offs.reverse, r.weak)

/-- GMIN as it acts (R143). -/
def EpochCfg.gminEff (c : EpochCfg) : Nat := max 400 c.gmin

/-- GSPAN as it acts; a staged value lies within 128 to 1,024 (R143). -/
def EpochCfg.gspanEff (c : EpochCfg) : Nat := max 1 c.gspan

/-! ### Joint codebooks (R137, R420) -/

/-- The gap bytes of a generation, when all 17 chunks are held. -/
def CodeGen.gapBytes (c : CodeGen) : Option (List Byte) :=
  (List.range 17).foldl (fun o i => match o, c.chunks.find? (fun p => p.1 == i) with
    | some l, some p => some (l ++ p.2)
    | _, _ => none) (some [])

/-- Where the gaps of a code begin in a generation: in order of K, then of the code (R420). -/
def codebookBase (klog idx : Nat) : Nat :=
  ((List.range klog).map (fun i => 16 * (2 ^ i - 1))).sum + idx * (2 ^ klog - 1)

/-- Differences of the offsets of two codes. -/
def crossDiffs (a b : List Nat) : List Int := a.flatMap (fun x => b.map (fun y => (x : Int) - y))

/-- No lag makes more than m pairs of shots of two codes coincide within 10 ns (R137): as many differences lie within 10 ns of a lag
as within 20 ns above the least of them. -/
def crossOk (m : Nat) (a b : List Nat) : Bool :=
  let l := crossDiffs a b
  l.all (fun d => decide ((l.filter (fun e => decide (d ≤ e) && decide (e ≤ d + 4))).length ≤ m))

/-- A joint code being drawn: it passes R130, and against each code of another unit CROSSMAX, or it is drawn again (R137). -/
def drawJoint (gmin gspan k m : Nat) (others : List (List Nat)) : Nat → BitVec 64 → Option (List Nat) × BitVec 64
  | 0, g => (none, g)
  | n + 1, g =>
    let r := runCode gmin gspan k g
    if !r.weak && others.all (crossOk m r.offs.reverse) then (some r.offs.reverse, r.gen)
    else drawJoint gmin gspan k m others n r.gen

/-- A codebook being drawn: the generator, and the codes so far with their units, newest first. -/
structure BookRun where
  gen   : BitVec 64
  codes : List (Nat × List Nat)
deriving DecidableEq, Repr

/-- The gaps of a code. -/
def gapsOf (offs : List Nat) : List Nat := (offs.drop 1).zipWith (· - ·) offs

/-- The next code of a unit: number `idx` of its 16 for K (R137). -/
def BookRun.next (gmin gspan m generation unit k idx : Nat) (b : BookRun) : BookRun :=
  let others := (b.codes.filter (fun c => c.1 != unit)).map (·.2)
  let (o, g) := drawJoint gmin gspan k m others 4096 b.gen
  let offs := o.getD (((List.range (k - 1)).foldl (fun l i =>
    (l.headD 0 + gmin + Config.tieGap generation unit k idx i % gspan) :: l) [0]).reverse)
  { gen := g, codes := (unit, offs) :: b.codes }

/-- A codebook generation of the tie master (R137): the generator of R129, seeded with its own unit seed and the generation number,
draws the codes of every unit in turn, in order of K and then of the code. -/
def drawBook (gmin gspan m generation : Nat) (units : List Nat) : List (Nat × List Nat) :=
  (units.foldl (fun b u => (List.range 6).foldl (fun b1 j => (List.range 16).foldl (fun b2 c =>
    b2.next gmin gspan m generation u (2 ^ (j + 1)) c) b1) b) { gen := codeSeed Config.unitId generation 0 0, codes := [] : BookRun }).codes.reverse

/-- The offsets that gaps make. -/
def offsetsOf (gaps : List Nat) : List Nat := (gaps.foldl (fun l g => (l.headD 0 + g) :: l) [0]).reverse

/-- A joint code of a generation. -/
def CodeGen.code (c : CodeGen) (klog idx : Nat) : Option (List Nat) :=
  match c.gapBytes with
  | none => none
  | some bs =>
    let b := codebookBase klog idx
    some (offsetsOf ((List.range (2 ^ klog - 1)).map (fun j => fieldAt bs (2 * (b + j)) 2)))

/-- The master frame number of the present frame (R419). -/
def State.masterFrame (s : State) (frame : Nat) : Nat := (frame + (2 ^ 32 - s.rd R.DWL_TIEFROFS_OFS)) % 2 ^ 32

/-- Frames of a codebook generation (R137). -/
def State.cbFrames (s : State) : Nat := max 1 (s.rd R.PEG_TIECFG_CBFRAMES)

/-- The generation due in a frame, if all of it is held (R137, R138, R420): generations change every CBFRAMES frames, so one is due
for as many from its first on. -/
def State.dueCodebook (s : State) (frame : Nat) : Option CodeGen :=
  s.peg.codebooks.find? (fun c => c.gapBytes.isSome && decide ((s.masterFrame frame + 2 ^ 32 - c.first) % 2 ^ 32 < s.cbFrames))

/-- A zone takes joint codes (R137). -/
def State.jointZone (s : State) (zone : Nat) : Bool :=
  s.on R.PEG_CTL_TIEJOINT && s.on R.PEG_STATUS_CBVALID
    && (s.rd R.PEG_TIESECTLO_ZONE + 2 ^ 32 * s.rd R.PEG_TIESECTHI_ZONE).testBit zone

/-- The code of a plan step, in units of 5 ns, and whether it is weak (R129, R130, R137). -/
def State.codeFor (s : State) (c : EpochCfg) (driver step zone klog : Nat) : List Nat × Bool :=
  let own := makeCode c.gminEff c.gspanEff (2 ^ klog) (codeSeed Config.unitId (s.rd R.PEG_FRAMENUM_NUM) driver step)
  if klog = 0 then ([0], false)
  else if s.jointZone zone then
    match s.dueCodebook (s.rd R.PEG_FRAMENUM_NUM) with
    | some g => (match g.code klog (step % 16) with | some l => (l, false) | none => own)
    | none => own
  else own

/-! ### Cells (R127) -/

/-- A binary32 word as an exact number; none for an infinity or what is not a number. -/
def fExact (w : Word) : Option Rat :=
  if fFinite w then
    let p := fParts w
    some (if p.2 < 0 then (p.1 : Rat) / (2 : Rat) ^ p.2.natAbs else (p.1 : Rat) * (2 : Rat) ^ p.2.natAbs)
  else none

/-- The fractional part. -/
def fracQ (q : Rat) : Rat := q - (q.floor : Rat)

/-- The spindle phase of the latest sample carried on at its speed to a root instant, in turns (R127). 102.4 * 10^9 LSB make
a second. -/
def State.phiAt (s : State) (lsb : Nat) : Rat :=
  let v : Rat := (fExact s.tnn.smpSpeed).getD 0
  (s.tnn.smpPhi.toNat : Rat) / 4294967296 + v * (((lsb : Int) - (s.tnn.smpLsb : Int) : Int) : Rat) / 102400000000

/-- The sweep fraction x (R127). -/
def State.sweepAt (s : State) (lsb : Nat) : Rat :=
  fracQ ((max 1 (s.rd R.TNN_SPCFG_FACETS) : Nat) * (s.phiAt lsb - (s.rd R.TNN_DEADOFS_DEADOFS : Rat) / 4294967296))

/-- Azimuth cell and elevation index of a column at a root instant (R127), by exact arithmetic; none when the index lies
outside 0 to 4,095 or a register of the formula holds no number. -/
def State.cellAt (s : State) (c : EpochCfg) (e : Sight) (lsb : Nat) : Option (Nat × Nat) :=
  match fExact c.az0, fExact c.azGain, fExact c.tiltScale, fExact c.elMin, fExact c.elStep, fExact s.tnn.smpTilt with
  | some az0, some gain, some scale, some elMin, some elStep, some tilt =>
    if elStep ≤ 0 then none
    else
      let theta := az0 + gain * s.sweepAt lsb / (max 1 (s.rd R.TNN_SPCFG_FACETS) : Nat) + (e.azOfs : Rat) / 65536
      let az := (fracQ theta * 65536).floor.toNat / 2 ^ c.azSh
      let el := ((tilt * scale + (e.elOfs : Rat) / 65536 - elMin) / elStep).floor
      if 0 ≤ el && decide (el ≤ 4095) then some (az, el.toNat) else none
  | _, _, _, _, _, _ => none

/-- A root instant lies inside a dead angle that Peg predicts by R65 from the latest sample (R141): nearer to a facet boundary
than HALFW less the guard, for a window of 1 us or more. -/
def State.deadAt (s : State) (lsb : Nat) : Bool :=
  let f : Rat := (max 1 (s.rd R.TNN_SPCFG_FACETS) : Nat)
  let v : Rat := (fExact s.tnn.smpSpeed).getD 0
  let y := s.sweepAt lsb / f
  let d := min y (1 / f - y)
  let h : Rat := (s.rd R.TNN_DEADCFG_HALFW : Rat) / 65536
  let room := h - v * (s.rd R.TNN_DEADCFG_GUARD : Rat) / 10000000
  s.rd R.TNN_DEADCFG_HALFW != 0 && decide (v / 1000000 ≤ 2 * room) && decide (d ≤ room)

/-- The zone of an azimuth cell: the upper six bits of the plan-table index (R128, R202). -/
def zoneOf (c : EpochCfg) (az : Nat) : Nat := az / 2 ^ (10 - c.azSh)

/-- A plan-table entry: KLOG, S, EC, LISTEN (R128). -/
structure PlanEntry where
  klog   : Nat
  s      : Nat
  ec     : Nat
  listen : Nat
deriving DecidableEq, Repr

/-- The plan entry of a cell in an epoch (R128). -/
def State.planEntry (s : State) (c : EpochCfg) (az el : Nat) : PlanEntry :=
  let w := leNat (s.hbmBytes (c.planAddr + 4 * (64 * zoneOf c az + el / 64)) 4)
  { klog := bits w 0 3, s := bits w 3 6, ec := bits w 9 12, listen := bits w 21 4 }

end Sys2Proof.Machine
end

