-- ==== Sys2Proof/Machine/LbkOps.lean ====
section
/-!
DEFINITION. The lookback integrator's parts (R244 to R258): the layout of the history, poses, re-projection and the whisper
test. Arithmetic on poses is binary32, left to right.
-/
namespace Sys2Proof.Machine

/-! ### Layout (R244) -/

/-- Columns per slot. -/
def lbkCols (period : Nat) : Nat := (2048 * period + 9999) / 10000

/-- The least power of two from p up that reaches n. -/
def pow2From (n : Nat) : Nat → Nat → Nat
  | 0, p => p
  | k + 1, p => if n ≤ p then p else pow2From n k (2 * p)

/-- Slot size in MiB: rounded up to a multiple of 2 MiB. -/
def lbkSlotMib (period : Nat) : Nat :=
  let c := lbkCols period
  (528 * c + 8 * pow2From (2 * c) 64 1 + 49152 + 2097151) / 2097152 * 2

/-- F: frames held. -/
def State.lbkF (s : State) (period : Nat) : Nat :=
  min 16 ((s.fwu.alloc.lookback.2 - 2 ^ 30) / (lbkSlotMib period * 2 ^ 20) - 1)

/-- The slots are laid out for a period (R244). -/
def State.lbkLayout (s : State) (period : Nat) : State :=
  ((({ s with lbk := { s.lbk with held := s.lbkF period } } : State).wr R.LBK_STATUS_NFR (s.lbkF period)).wr R.LBK_SLOTSIZE_MIB (lbkSlotMib period)).wr R.LBK_COLCAP_C (lbkCols period)

/-- The history is emptied and laid out for a new period (R246). Samples and discontinuities that lie ahead of the boundary belong
to the frames that follow (R249, R250). -/
def State.lbkRelay (s : State) (period : Nat) : State :=
  let t := s.clk.devTime.toNat
  let ahead := s.lbk.frames.flatMap (fun f => f.poses.filter (fun p => decide (t ≤ p.time)))
  (({ s with lbk := { s.lbk with
        frames := [], disconts := s.lbk.disconts.filter (fun d => decide (t < d)), breaks := [], early := ahead } } : State).lbkLayout
    period).flag R.LBK_INTSTAT_HISTRESET

/-- 1 ms in LSB (R17). -/
def lsbPerMs : Nat := 102400000

/-- LBK_CFG and LBK_POSECFG as they stand at a frame's start, LATEMAX at most its period less 1 ms (R260, R262). -/
def State.lbkCfg (s : State) : LbkCfg :=
  { wpfa := max 1 (s.rd R.LBK_CFG_WPFA), wmin := max 1 (s.rd R.LBK_CFG_WMIN), minfr := max 2 (s.rd R.LBK_CFG_MINFR)
    maxpt := clampN 1 4 (s.rd R.LBK_CFG_MAXPT), cover := s.rd R.LBK_CFG_COVER
    gapmax := max 1 (s.rd R.LBK_POSECFG_GAPMAX), latemax := min (max 1 (s.rd R.LBK_POSECFG_LATEMAX) * lsbPerMs) (512 * s.peg.period - lsbPerMs) }

/-- A new frame takes its slot; the oldest beyond F + 1 leaves. Samples whose TIME lies in the new frame move to its pose
table (R245). The boundary `b` ends the frame before (R260). -/
def State.lbkFrame (s : State) (b num : Nat) (scanned : Bool) : State :=
  let t := s.clk.devTime.toNat
  let moved := s.lbk.early ++ s.lbk.frames.flatMap (fun f => f.poses.filter (fun p => decide (t ≤ p.time)))
  let old := s.lbk.frames.map (fun f =>
    { f with poses := f.poses.filter (fun p => decide (p.time < t)), endAt := if f.endAt.isNone then some b else f.endAt })
  let all := old ++ [{ num := num, epochT := t, cfg := s.lbkCfg, cols := [], poses := moved, kept := [], absent := !scanned
                       late := false, sent := false, endAt := none, failed := false }]
  { s with lbk := { s.lbk with frames := all.drop (all.length - (s.lbk.held + 1)), early := [] } }

/-- A change of one frame's slot. -/
def State.setFrame (s : State) (num : Nat) (f : LbkFrame → LbkFrame) : State :=
  { s with lbk := { s.lbk with frames := updateWhere (fun x => x.num == num) f s.lbk.frames } }

/-- A frame's slot. -/
def State.frameSlot (s : State) (num : Nat) : Option LbkFrame := s.lbk.frames.find? (fun f => f.num == num)

/-- A burst's evidence column is stored in its frame's slot (R186, R189, R245). -/
def State.lbkStore (s : State) (b : Burst) : State :=
  match s.frameSlot b.frame with
  | none => s
  | some f =>
    if s.rd R.LBK_COLCAP_C ≤ f.cols.length then (s.bump R.LBK_COLDROP_CNT 1).fault R.LBK_INTSTAT_COLDROP 1 b.channel
    else
      let c := s.epochCfg b.epoch
      let col : Column :=
        { burst := b.num, channel := b.channel, az := b.az, elev := b.elev, azSh := c.azSh, elMin := c.elMin
          elStep := c.elStep, sv := b.svScout, lam := b.lam, closeLsb := b.closeLsb, closeT := b.closeT.toNat
          codes := b.codes b.svScout, flags := b.rflags &&& 0x67, ranges := [], done := 0 }
      s.setFrame b.frame (fun f => { f with cols := f.cols ++ [col] })

/-! ### Vectors and poses -/

/-- A vector in metres or a direction. -/
structure V3 where
  x : Word
  y : Word
  z : Word
deriving DecidableEq, Repr

/-- A quaternion. -/
structure Quat where
  w : Word
  x : Word
  y : Word
  z : Word
deriving DecidableEq, Repr

/-- Sum of vectors. -/
def V3.add (a b : V3) : V3 := ⟨fAdd a.x b.x, fAdd a.y b.y, fAdd a.z b.z⟩

/-- Difference of vectors. -/
def V3.sub (a b : V3) : V3 := ⟨fSub a.x b.x, fSub a.y b.y, fSub a.z b.z⟩

/-- A vector times a number. -/
def V3.scale (k : Word) (a : V3) : V3 := ⟨fMul k a.x, fMul k a.y, fMul k a.z⟩

/-- The square root of a binary32 number that is not negative, rounded to nearest. -/
def fSqrt (a : Word) : Word :=
  match fVal a with
  | .fin _ m e =>
    let k : Nat := if (e - 60) % 2 = 0 then 60 else 61
    let n := m * 2 ^ k
    let r := isqrt n
    fRound false (2 * r + (if r * r = n then 0 else 1)) 1 ((e - (k : Int)) / 2 - 1)
  | .inf _ => a
  | .nan => fNan

/-- Length of a vector. -/
def V3.len (a : V3) : Word := fSqrt (fAdd (fAdd (fMul a.x a.x) (fMul a.y a.y)) (fMul a.z a.z))

/-- Product of quaternions. -/
def Quat.mul (a b : Quat) : Quat :=
  { w := fSub (fSub (fSub (fMul a.w b.w) (fMul a.x b.x)) (fMul a.y b.y)) (fMul a.z b.z)
    x := fSub (fAdd (fAdd (fMul a.w b.x) (fMul a.x b.w)) (fMul a.y b.z)) (fMul a.z b.y)
    y := fAdd (fAdd (fSub (fMul a.w b.y) (fMul a.x b.z)) (fMul a.y b.w)) (fMul a.z b.x)
    z := fAdd (fSub (fAdd (fMul a.w b.z) (fMul a.x b.y)) (fMul a.y b.x)) (fMul a.z b.w) }

/-- The conjugate. -/
def Quat.conj (q : Quat) : Quat := ⟨q.w, fNeg q.x, fNeg q.y, fNeg q.z⟩

/-- A vector turned by a quaternion. -/
def Quat.turn (q : Quat) (v : V3) : V3 :=
  let r := (q.mul ⟨0, v.x, v.y, v.z⟩).mul q.conj
  ⟨r.x, r.y, r.z⟩

/-- A pose at an instant. -/
structure PoseAt where
  pos : V3
  rot : Quat
deriving DecidableEq, Repr

/-- Linear interpolation. -/
def fLerp (a b f : Word) : Word := fAdd a (fMul f (fSub b a))

/-- The pose between two samples at a fraction of their distance (R250). -/
def poseMix (p q : Pose) (f : Word) : PoseAt :=
  let dot := fAdd (fAdd (fAdd (fMul p.qw q.qw) (fMul p.qx q.qx)) (fMul p.qy q.qy)) (fMul p.qz q.qz)
  let flip (a : Word) : Word := if fLt dot 0 then fNeg a else a
  let w := fLerp p.qw (flip q.qw) f
  let x := fLerp p.qx (flip q.qx) f
  let y := fLerp p.qy (flip q.qy) f
  let z := fLerp p.qz (flip q.qz) f
  let n := fSqrt (fAdd (fAdd (fAdd (fMul w w) (fMul x x)) (fMul y y)) (fMul z z))
  { pos := ⟨fLerp p.x q.x f, fLerp p.y q.y f, fLerp p.z q.z f⟩, rot := ⟨fDiv w n, fDiv x n, fDiv y n, fDiv z n⟩ }

/-- The pose at an instant of device time, if one exists (R250). -/
def poseOf (poses : List Pose) (gapmax t : Nat) : Option PoseAt :=
  match (poses.filter (fun p => decide (p.time ≤ t))).getLast?, poses.find? (fun p => decide (t < p.time)) with
  | some p, some q =>
    if p.valid && q.valid && decide (q.time - p.time ≤ gapmax * 1000000) then
      some (poseMix p q (fRat ((t : Int) - (p.time : Int)) (q.time - p.time)))
    else none
  | _, _ => none

/-- All samples held, in order of time. -/
def State.poses (s : State) : List Pose := s.lbk.frames.flatMap (·.poses)

/-- A pose exists at the present device time. -/
def State.poseNow (s : State) : Bool := (poseOf s.poses s.lbkCfg.gapmax s.clk.devTime.toNat).isSome

/-- LBK_STATUS.POSEOK follows the pose at the present device time; its loss sets POSEGAP (R262). -/
def State.poseTick (s : State) : State :=
  if s.poseNow == s.on R.LBK_STATUS_POSEOK then s
  else if s.poseNow then s.wr R.LBK_STATUS_POSEOK 1
  else (s.wr R.LBK_STATUS_POSEOK 0).flag R.LBK_INTSTAT_POSEGAP

/-! ### Pose samples (R248, R249) -/

/-- A word of a sample. -/
def sampleWord (p : BitVec 384) (byte : Nat) : Word := BitVec.ofNat 32 (bits p.toNat (8 * byte) 32)

/-- The sample that 48 bytes hold. -/
def Pose.parse (p : BitVec 384) : Pose :=
  { time := bits p.toNat 0 64, x := sampleWord p 8, y := sampleWord p 12, z := sampleWord p 16, qw := sampleWord p 20
    qx := sampleWord p 24, qy := sampleWord p 28, qz := sampleWord p 32, valid := p.getLsbD 288 }

/-- The norm of a sample's quaternion lies within 0.001 of 1 (R249). -/
def Pose.unit (p : Pose) : Bool :=
  match fExact p.qw, fExact p.qx, fExact p.qy, fExact p.qz with
  | some w, some x, some y, some z =>
    let n := w * w + x * x + y * y + z * z
    decide ((999 / 1000 : Rat) * (999 / 1000) ≤ n) && decide (n ≤ (1001 / 1000 : Rat) * (1001 / 1000))
  | _, _, _, _ => false

/-- The slot whose span holds an instant: the last one whose epoch is not later. -/
def State.slotAt (s : State) (t : Nat) : Option LbkFrame := (s.lbk.frames.filter (fun f => decide (f.epochT ≤ t))).getLast?

/-- A sample is acceptable (R249). -/
def State.poseFits (s : State) (raw : BitVec 384) : Bool :=
  let p := Pose.parse raw
  (match s.lbk.lastPose with | some t => decide (t < p.time) | none => true)
    && decide (p.time ≤ s.clk.devTime.toNat + 1000000)
    && (match s.lbk.frames with | f :: _ => decide (f.epochT ≤ p.time) | [] => true)
    && fFinite p.x && fFinite p.y && fFinite p.z && p.unit && bits raw.toNat 290 94 == 0
    && (match s.slotAt p.time with | some f => decide (f.poses.length < 1024) | none => true)

/-- One sample arrives (R249, R250). -/
def State.poseIn (s : State) (raw : BitVec 384) : State :=
  if s.poseFits raw then
    let p := Pose.parse raw
    let disc := raw.getLsbD 289
    let s1 := match s.slotAt p.time with
      | some f => s.setFrame f.num (fun f => { f with poses := f.poses ++ [p] })
      | none => s
    let s2 : State := { s1 with lbk := { s1.lbk with lastPose := some p.time
                                                     disconts := if disc then p.time :: s1.lbk.disconts else s1.lbk.disconts } }
    s2.when disc (·.flag R.LBK_INTSTAT_DISCONT)
  else (s.bump R.LBK_POSEDROP_CNT 1).fault R.LBK_INTSTAT_POSEBAD 1 0

/-! ### Re-projection (R253, R254) -/

/-- The 24th root of a number below 2^(24 * 60), rounded down. -/
def root24 (n : Nat) : Nat → Nat → Nat
  | 0, r => r
  | k + 1, r => let t := r + 2 ^ k; root24 n k (if t ^ 24 ≤ n then t else r)

/-- dec(c): the decoding of an evidence byte (R189, R253). -/
def evidenceDec (c : Nat) : Word := fRound false (root24 (2 ^ (24 * 40 + c)) 60 0 - 2 ^ 40) 1 (-48)

/-- One bin's depth: 1.498962 m. -/
def binDepth : Word := fRat 1498962 1000000

/-- Azimuth, in turns, and elevation, in turns, of a column's cell (R253). -/
def Column.angles (c : Column) : Word × Word :=
  (fDiv (fMul (fAdd (fInt c.az) (fRat 1 2)) (fInt (2 ^ c.azSh))) (fInt 65536),
   fAdd c.elMin (fMul (fAdd (fInt c.elev) (fRat 1 2)) c.elStep))

/-- The direction of a column's cell in the sensor frame (R253). -/
def Column.dir (c : Column) : V3 :=
  let (th, ep) := c.angles
  ⟨fMul (cosTurn ep) (cosTurn th), fMul (cosTurn ep) (sinTurn th), sinTurn ep⟩

/-- What point(e, h, s) needs of a target: its close time, position and world line of sight. -/
structure Sighted where
  t   : Nat
  pos : V3
  u   : V3
deriving DecidableEq, Repr

/-- point(e, h, s) with the pose at the instant s (R253). -/
def Sighted.point (g : Sighted) (e h : Nat) (s : Int) (q : PoseAt) : V3 :=
  let v := fInt (5 * (h : Int) - 20)
  let dt := fRat ((g.t : Int) - s) 1000000000
  let along := fSub (fMul (fAdd (fInt e) (fRat 1 2)) binDepth) (fMul v dt)
  let w := g.pos.add (g.u.scale along)
  q.rot.conj.turn (w.sub q.pos)

/-- cell(p) with a target's geometry (R127, R253). -/
def Column.cellOf (c : Column) (p : V3) : Option (Nat × Nat) :=
  match fExact (atanTurn p.y p.x), fExact (asinTurn (fDiv p.z p.len)), fExact c.elMin, fExact c.elStep with
  | some th, some ep, some lo, some st =>
    if st ≤ 0 then none
    else
      let el := ((ep - lo) / st).floor
      if 0 ≤ el && decide (el ≤ 4095) then some ((fracQ th * 65536).floor.toNat / 2 ^ c.azSh, el.toNat) else none
  | _, _, _, _ => none

/-- The column that the index of a frame names at a cell: the latest; one that is unposed or abandoned is no source (R245,
R252, R260). -/
def LbkFrame.at (f : LbkFrame) (cell : Nat × Nat) : Option Column :=
  match (f.cols.filter (fun c => c.az == cell.1 && c.elev == cell.2)).getLast? with
  | some c => if c.done = 2 || c.done = 3 then none else some c
  | none => none

/-- A source frame is present for a target of frame n at time t (R247, R250, R251, R254). -/
def State.sourceOk (s : State) (n t : Nat) (c : Column) (f : LbkFrame) : Bool :=
  !f.absent && !f.failed && !s.lbk.disconts.any (fun d => decide (f.epochT < d) && decide (d ≤ t))
    && !s.lbk.breaks.any (fun b => decide (f.num < b) && decide (b ≤ n))
    && (match f.cols.head? with
        | some x => x.azSh == c.azSh && x.elMin == c.elMin && x.elStep == c.elStep
        | none => true)

/-- The sums of one test. `mu` counts units of 1/32: 8 * lambda in units of 2^-8. -/
structure Sums where
  n      : Word
  mu     : Nat
  sv     : Nat
  frames : Nat
deriving DecidableEq, Repr

/-- A column's term joins the sums. -/
def Sums.add (a : Sums) (c : Column) (e : Nat) : Sums :=
  { n := fAdd a.n (fMul (fInt c.sv) (evidenceDec (c.codes.getD e 0))), mu := a.mu + c.lam, sv := a.sv + c.sv
    frames := a.frames + 1 }

/-- The sums of test (e, h) over the source frames, latest first (R253). -/
def sumsOf (poses : List Pose) (gapmax tFrame n : Nat) (g : Sighted) (c : Column) (sources : List LbkFrame) (e h : Nat) : Sums :=
  sources.foldl (fun a f =>
    let t0 : Int := (g.t : Int) - ((n - f.num) * tFrame : Nat)
    match poseOf poses gapmax t0.toNat with
    | none => a
    | some q =>
      match c.cellOf (g.point e h t0 q) with
      | none => a
      | some cell =>
        match f.at cell with
        | none => a
        | some col =>
          match poseOf poses gapmax col.closeT with
          | none => a
          | some qs =>
            let p := (g.point e h col.closeT qs).len
            let e2 := fFloor (fDiv p binDepth)
            if fFinite p && decide (0 ≤ e2) && decide (e2 ≤ 511) then a.add col e2.toNat else a)
    (Sums.add { n := 0, mu := 0, sv := 0, frames := 0 } c e)

/-! ### The whisper test (R255, R256) -/

/-- The terms of a test's mu. -/
def whisperTerms (mu : Nat) : List Nat := expTerms mu 32 (mu / 8 + 1024) 0 (2 ^ 512)

/-- W(mu) (R255). -/
def whisperBound (mu wpfa wmin : Nat) : Nat :=
  let ts := whisperTerms mu
  threshFrom 1 wpfa ts.sum (ts.drop wmin) ((ts.drop wmin).sum) wmin

/-- A test that is evaluated: bin, hypothesis, sums and threshold. -/
structure Test where
  e : Nat
  h : Nat
  a : Sums
  n : Rat
  w : Nat
deriving DecidableEq

/-- Distance of a hypothesis from 4. -/
def hypDist (h : Nat) : Nat := ((h : Int) - 4).natAbs

/-- A test stands before another: larger n_sum, then lower e, then the hypothesis nearer 4, then the lower one (R256). -/
def Test.beats (x y : Test) : Bool :=
  decide (y.n < x.n) || (decide (x.n = y.n) && (decide (x.e < y.e) || (x.e == y.e &&
    (decide (hypDist x.h < hypDist y.h) || (hypDist x.h == hypDist y.h && decide (x.h < y.h))))))

/-- The tests kept of those evaluated (R256). -/
def keptTests (all : List Test) : List Test :=
  all.filter (fun x => decide ((x.w : Rat) ≤ x.n) && decide (x.e < 507)
    && !all.any (fun y => decide (y.e ≤ x.e + 1) && decide (x.e ≤ y.e + 1) && y.beats x))

/-- Insertion by margin, largest first. -/
def marginIns (x : Test) : List Test → List Test
  | [] => [x]
  | y :: r => if y.n - (y.w : Rat) < x.n - (x.w : Rat) then x :: y :: r else y :: marginIns x r

/-- Insertion by bin, ascending. -/
def binIns (x : Test) : List Test → List Test
  | [] => [x]
  | y :: r => if x.e < y.e then x :: y :: r else y :: binIns x r

/-- CONF of R258: the largest c with (2^34 q)^4 * 2^c at most 1, within 1 to 255. -/
def whisperConf (n mu : Nat) : Nat :=
  let ts := whisperTerms mu
  let tail := (ts.drop n).sum
  let ok (c : Nat) : Bool := decide ((2 ^ 34 * tail) ^ 4 * 2 ^ c ≤ ts.sum ^ 4)
  max 1 ((List.range 255).filter (fun i => ok (i + 1))).length

/-- INTENSITY of R258: the evidence code of a ratio. -/
def whisperCode (r : Rat) : Nat :=
  let q := 1 + 256 * r
  ((List.range 255).filter (fun i => decide ((2 : Rat) ^ (2 * i + 1) ≤ q ^ 48))).length

/-- The range of a bin's centre in 0.1 mm (R258). -/
def binRange (e : Nat) : Int := divRound (1498962 * (2 * (e : Int) + 1)) 200

/-- A test is covered by a committed direct record of the target's own burst (R257). -/
def Column.covered (c : Column) (cover e : Nat) : Bool :=
  c.ranges.any (fun r => decide (((r : Int) * 100 - (e : Int) * 1498962 - 749481).natAbs ≤ cover * 1498962))

/-- The lookback record of a kept test (R258). -/
def Test.record (x : Test) (c : Column) (echo : Nat) : Rec :=
  let mu : Rat := (x.a.mu : Rat) / 32
  let body := recBody (binRange x.e).toNat (whisperCode (max 0 ((x.n - mu) / (x.a.sv : Rat)))) c.channel echo 15
    (whisperConf x.n.floor.toNat x.a.mu) x.a.frames c.az c.elev x.h
  { stream := 1, seq := 0, time := BitVec.ofNat 64 c.closeT, body := body, flags := c.flags }

end Sys2Proof.Machine
end

