-- ==== Sys2Proof/Machine/Lookback.lean ====
section
/-!
DEFINITION. The lookback integrator's commands (R249, R252 to R261): evaluation of targets, commit of a frame's records,
abandonment and lateness, and the pose samples of a POSE command.
-/
namespace Sys2Proof.Machine

/-- The integrator evaluates targets of a frame: it is on, and F reaches MINFR (R244, R262). -/
def State.lbkOn (s : State) (f : LbkFrame) : Bool :=
  s.on R.LBK_CTL_EN && decide (f.cfg.minfr ≤ s.rd R.LBK_STATUS_NFR)

/-- A frame's end boundary lies at least that many LSB back (R260). -/
def State.endedFor (s : State) (f : LbkFrame) (lsb : Nat) : Bool := f.endAt.any (fun b => decide (b + lsb ≤ s.nowLsb))

/-- A frame has targets that are not done. -/
def LbkFrame.waits (f : LbkFrame) : Bool := f.cols.any (fun c => c.done == 0)

/-- LBK_STATUS.BEHIND (R260). -/
def State.lbkBehind (s : State) : State :=
  s.wrB R.LBK_STATUS_BEHIND (s.lbk.frames.any (fun f => f.late && f.waits && s.lbkOn f))

/-- A burst is resolved: nothing of it is in flight (R230). -/
def State.burstGone (s : State) (num : Nat) : Bool :=
  !s.peg.bursts.any (fun b => b.num == num) && !s.jnl.handed.any (fun h => h.burst == num)

/-- The ranges of a committed burst's direct records reach its column (R257). -/
def State.lbkCover (s : State) (h : Handed) : State :=
  let rs := (h.recs.filter (fun r => r.stream == 0)).map (fun r => bits r.body.toNat 0 24)
  s.setFrame h.frame (fun f => { f with cols := updateWhere (fun c => c.burst == h.burst) (fun c => { c with ranges := rs }) f.cols })

/-- A change of one target. -/
def State.setTarget (s : State) (num burst : Nat) (f : Column → Column) : State :=
  s.setFrame num (fun x => { x with cols := updateWhere (fun c => c.burst == burst) f x.cols })

/-- The kept tests of a target (R255, R256): at most MAXPT by margin, then in ascending range. -/
def State.lbkTests (s : State) (f : LbkFrame) (c : Column) (p : PoseAt) : List Test :=
  let tf := 5 * s.peg.period
  let back := (s.lbk.frames.filter (fun x => decide (x.num < f.num) && decide (f.num < x.num + s.lbk.held)
    && s.sourceOk f.num c.closeT c x)).reverse
  let g : Sighted := { t := c.closeT, pos := p.pos, u := p.rot.turn c.dir }
  let all := (List.range 512).flatMap (fun e => (List.range 9).filterMap (fun h =>
    let a := sumsOf s.poses f.cfg.gapmax tf f.num g c back e h
    match fExact a.n with
    | some n => if f.cfg.minfr ≤ a.frames then
        some { e := e, h := h, a := a, n := n, w := whisperBound a.mu f.cfg.wpfa f.cfg.wmin } else none
    | none => none))
  (((keptTests all).foldl (fun l x => marginIns x l) []).take f.cfg.maxpt).foldl (fun l x => binIns x l) []

/-- A target is evaluated (R253 to R258): its records wait for the frame's commit. -/
def State.lbkEvaluate (s : State) (f : LbkFrame) (c : Column) (p : PoseAt) : State :=
  let tests := s.lbkTests f c p
  let cov (x : Test) : Bool := s.on R.LBK_CTL_COVEREN && c.covered f.cfg.cover x.e
  let recs := (tests.zipIdx.filter (fun x => !cov x.1)).map (fun x =>
    ({ closeLsb := c.closeLsb, channel := c.channel, echo := x.2, record := x.1.record c x.2 } : Whisper))
  let n := (tests.filter cov).length
  let s1 := (s.setTarget f.num c.burst (fun c => { c with done := 1 })).setFrame f.num (fun f => { f with kept := f.kept ++ recs })
  (s1.bump R.LBK_TARGETS_CNT 1).when (n != 0) (·.bump R.LBK_COVERED_CNT n)

/-- The oldest waiting target, in order of frame and close (R252). -/
def State.oldestTarget (s : State) : Option (LbkFrame × Column) :=
  s.lbk.frames.findSome? (fun f => if s.lbkOn f then (f.cols.find? (fun c => c.done == 0)).map (fun c => (f, c)) else none)

/-- TARGET_EVALUATION (R252, R253): the oldest waiting target is evaluated once its burst is resolved and a pose exists at its
close, or marked unposed once none can come. -/
def execTargetEvaluation (s : State) : Host.Outcome State Fault Refusal :=
  match s.oldestTarget with
  | none => s.done
  | some (f, c) =>
    if !s.burstGone c.burst then s.done
    else
      match poseOf s.poses f.cfg.gapmax c.closeT with
      | some p => (s.lbkEvaluate f c p).lbkBehind.done
      | none =>
        match s.lbk.lastPose with
        | some t =>
          if c.closeT + f.cfg.gapmax * 1000000 < t then
            ((s.setTarget f.num c.burst (fun c => { c with done := 2 })).bump R.LBK_NOPOSE_CNT 1).lbkBehind.done
          else s.done
        | none => s.done

/-- One lookback record is committed, or refused like any other (R234, R235, R261). -/
def State.lbkCommit (s : State) (w : Whisper) : State :=
  let s1 := s.judgeFull
  if s1.refuses 1 then (s1.bump R.JNL_REFREC_CNT 1).bump R.LBK_REFUSED_CNT 1
  else if 16384 * 25 < s1.jnl.wq + 25 then
    ((s1.bump R.JNL_REFREC_CNT 1).bump R.JNL_RATEREF_CNT 1).bump R.LBK_REFUSED_CNT 1
  else (s1.commitRec w.record).bump R.LBK_HITS_CNT 1

/-- Order of a frame's records: close, channel, ECHO (R259). -/
def Whisper.before (a b : Whisper) : Bool :=
  keyLt (a.closeLsb, a.channel, a.echo, 0) (b.closeLsb, b.channel, b.echo, 0)

/-- Insertion in that order. -/
def whisperIns (x : Whisper) : List Whisper → List Whisper
  | [] => [x]
  | y :: r => if x.before y then x :: y :: r else y :: whisperIns x r

/-- A frame's records may be committed: it has ended, its end marker is committed, no target waits, and the journal runs
(R231, R259, R318). -/
def State.lbkReady (s : State) (f : LbkFrame) : Bool :=
  s.boot.linked && s.lbkOn f && !f.absent && !f.sent && !f.waits
    && f.endAt.isSome && !s.jnl.markers.any (fun m => m.kind == 2 && m.frame == f.num)

/-- LOOKBACK_FRAME_COMMIT (R259): the records of a frame whose targets are all done. -/
def execLookbackFrameCommit (n : Nat) (s : State) : Host.Outcome State Fault Refusal :=
  match s.frameSlot n with
  | none => s.done
  | some f =>
    if s.lbkReady f then
      let s1 := (f.kept.foldl (fun l x => whisperIns x l) []).foldl State.lbkCommit s
      let s2 := (s1.setFrame n (fun f => { f with sent := true, kept := [] })).wr R.LBK_LASTFR_NUM n
      (s2.flag R.LBK_INTSTAT_FRDONE).done
    else s.done

/-- The waiting targets of a frame are abandoned and counted (R260). -/
def State.lbkAbandon (s : State) (f : LbkFrame) : State :=
  let n := (f.cols.filter (fun c => c.done == 0)).length
  if n = 0 || !s.lbkOn f then s
  else
    let s1 := s.setFrame f.num (fun f => { f with cols := f.cols.map (fun c => if c.done = 0 then { c with done := 3 } else c) })
    ((s1.bump R.LBK_ABANDON_CNT n).fault R.LBK_INTSTAT_ABANDON 1 0).lbkBehind

/-- ABANDON (R260): once LATEMAX has passed since a frame's end boundary, its waiting targets are given up; no sooner. -/
def execAbandon (n : Nat) (s : State) : Host.Outcome State Fault Refusal :=
  match s.frameSlot n with
  | none => s.done
  | some f => if s.endedFor f f.cfg.latemax then (s.lbkAbandon f).done else s.done

/-- POSELATE (R260): a target waits 1 ms behind its frame's end boundary. -/
def execPoselate (n : Nat) (s : State) : Host.Outcome State Fault Refusal :=
  match s.frameSlot n with
  | none => s.done
  | some f =>
    if f.waits && s.lbkOn f && s.endedFor f lsbPerMs then
      (((s.setFrame n (fun f => { f with late := true })).fault R.LBK_INTSTAT_POSELATE 1 0).lbkBehind).done
    else s.done

/-- The samples of one POSE command, in their order (R249). -/
def State.lbkPose (s : State) (samples : List (BitVec 384)) : State := (samples.foldl State.poseIn s).poseTick

/-- At stage HOST_LINK after a full reset, the slots whose header area fails its check are absent from then on, and the targets
that were waiting are abandoned (R246). -/
def State.lbkRecover (s : State) (bad : List Nat) : State :=
  let s1 := s.lbk.frames.foldl State.lbkAbandon s
  { s1 with lbk := { s1.lbk with
      frames := s1.lbk.frames.map (fun f => if bad.contains f.num then { f with failed := true } else f) } }

end Sys2Proof.Machine
end

