-- ==== Sys2Proof/Machine/KerfOps.lean ====
section
/-!
DEFINITION. The operations of Kerf (R144 to R162): stamps, masks, frames, gates, holds and spare moves.
-/
namespace Sys2Proof.Machine

/-! ### Records -/

/-- A channel that has seen nothing since reset, with a full bucket (R154). -/
def KrfChan.zero : KrfChan :=
  { high := false, last := none, queue := [], tokens := 63 * 1600, refill := 0, dropSeq := 0, recent := [], held := false
    relPend := false, noFix := false, skew := 0, skewOld := 0 }

/-- A channel's record. -/
def State.krfChan (s : State) (ch : Nat) : KrfChan := mapGet .zero s.krf.chans ch

/-- A change of a channel's record. -/
def State.setChan (s : State) (ch : Nat) (f : KrfChan → KrfChan) : State :=
  { s with krf := { s.krf with chans := mapSet .zero s.krf.chans ch (f (s.krfChan ch)) } }

/-- A group without a move. -/
def KrfGroup.zero : KrfGroup :=
  { move := none, compared := 0, mism := 0, diffSum := 0, kept := none, redo := none, slot := 0, used := 0 }

/-- A group's record. -/
def State.krfGroup (s : State) (g : Nat) : KrfGroup := mapGet .zero s.krf.groups g

/-- A change of a group's record. -/
def State.setGroup (s : State) (g : Nat) (f : KrfGroup → KrfGroup) : State :=
  { s with krf := { s.krf with groups := mapSet .zero s.krf.groups g (f (s.krfGroup g)) } }

/-! ### Stamps (R147, R148) -/

/-- One wrap of the coarse counter, in 1/16 LSB: 2^48 coarse periods of 512 (R148). -/
def krfWrap : Nat := 2 ^ 57

/-- a - b on the wrapped count, as a signed distance. -/
def krfDiff (a b : Nat) : Int := toSignedN 57 ((a + krfWrap - b % krfWrap) % krfWrap)
where
  /-- Two's complement reading. -/
  toSignedN (w v : Nat) : Int := if 2 * v < 2 ^ w then (v : Int) else (v : Int) - (2 : Int) ^ w

/-- A root instant in 1/16 LSB on the coarse count (R43). -/
def krfStampOf (lsb : Nat) : Nat := 16 * lsb % krfWrap

/-- The fine value of a raw tap (R147). -/
def State.fineOf (s : State) (tdc tap : Nat) : Nat :=
  match s.krf.fine.find? (fun p => p.1 == tdc) with
  | some p => p.2.getD tap 0
  | none => Config.fineBlank tdc tap % 512

/-- t_abs of an edge (R147). -/
def State.tAbs (s : State) (tdc : Nat) (coarse : BitVec 48) (tap : BitVec 5) : Nat :=
  512 * coarse.toNat + s.fineOf tdc tap.toNat

/-- The mean arrival difference subtracted from the spare's stamps while it serves a channel (R357). -/
def State.spareShift (s : State) (ch : Nat) : Int := mapGet 0 s.plb.spareOfs ch

/-- Round half to even of v / 16. -/
def roundEven16 (v : Int) : Int :=
  let q := v / 16
  let r := v % 16
  if 8 < r || (r == 8 && q % 2 == 1) then q + 1 else q

/-- The stamp of a channel's edge by the TDC that serves it, a spare's less its mean difference (R147, R357). -/
def State.stampOf (s : State) (ch : Nat) (coarse : BitVec 48) (tap : BitVec 5) : Nat :=
  let tdc := s.servingTdc ch
  let t := s.tAbs tdc coarse tap
  if tdc < 1024 then t else (((t : Int) - s.spareShift ch) % (krfWrap : Int)).toNat

/-- The instant of the next boundary on the retained grid (R122, R123). -/
def State.gridNext (s : State) : Nat := s.peg.epochLsb + 512 * max 1 s.peg.period

/-- The frame an edge belongs to and its arrival there: the latest frame whose epoch lies at or before the time corrected by
that frame's skew (R147, R148), the next frame by the skew that it will take; none before the first frame epoch. -/
def State.frameOfEdge (s : State) (ch tAbs : Nat) : Option (Nat × Nat) :=
  let c := s.krfChan ch
  let rel (epoch : Nat) (skew : Int) : Int := krfDiff tAbs (krfStampOf epoch) - 16 * skew
  if !s.peg.clockOn then none
  else
    let n := s.rd R.PEG_FRAMENUM_NUM
    let d := rel s.peg.epochLsb c.skew
    let next := rel s.gridNext (s.rdS (R.KRF_SKEW_SKEW ch))
    if 0 ≤ next then some ((n + 1) % 2 ^ 32, (roundEven16 next).toNat)
    else if 0 ≤ d then some (n, (roundEven16 d).toNat)
    else
      match s.peg.epochOld with
      | some e =>
        let d := rel e c.skewOld
        if 0 ≤ d then some ((n + (2 ^ 32 - 1)) % 2 ^ 32, (roundEven16 d).toNat) else none
      | none => none

/-! ### Masks and holds (R146, R157, R158) -/

/-- KRF_CHSTAT.MASKED follows EN, the holds and the repairs (R146). -/
def State.maskEval (s : State) (ch : Nat) : State :=
  s.wrB (R.KRF_CHSTAT_MASKED ch) (!s.on (R.KRF_CHCFG_EN ch) || (s.krfChan ch).held || (s.krfChan ch).noFix)

/-- A channel stamps: Kerf runs and the channel is not masked. -/
def State.stamping (s : State) (ch : Nat) : Bool := s.on R.KRF_CTL_RUN && !s.on (R.KRF_CHSTAT_MASKED ch)

/-- A hold or an over-fast mark of a channel ends (R157, R158). -/
def State.releaseChan (s : State) (ch : Nat) : State :=
  let s1 := s.when (s.on (R.KRF_CHSTAT_STUCK ch)) (fun t => t.wr R.KRF_STATUS_NSTUCK (t.rd R.KRF_STATUS_NSTUCK - 1))
  let s2 := s1.when (s.on (R.KRF_CHSTAT_FAST ch)) (fun t => t.wr R.KRF_STATUS_NFAST (t.rd R.KRF_STATUS_NFAST - 1))
  let s3 := (s2.wr (R.KRF_CHSTAT_STUCK ch) 0).wr (R.KRF_CHSTAT_FAST ch) 0
  ((s3.setChan ch (fun c => { c with held := false, relPend := false })).maskEval ch).flag R.KRF_INTSTAT_STUCKREL

/-! ### Gates (R154) -/

/-- LIMRATE as it acts. -/
def State.limRate (s : State) : Nat := min 400 (s.rd R.KRF_LIMCFG_LIMRATE)

/-- The bucket of a channel at the present instant, in 1/1600 of a token: LIMRATE of them per 1.6 GHz cycle. -/
def State.bucket (s : State) (ch : Nat) : Nat :=
  let c := s.krfChan ch
  min (1600 * max 1 (s.rd R.KRF_LIMCFG_LIMDEPTH)) (c.tokens + (s.nowLsb - c.refill) / 64 * s.limRate)

/-- Every bucket is brought up to the present instant: a new rate and depth act from here on (R154). -/
def State.bucketsNow (s : State) : State :=
  (List.range 1024).foldl (fun t ch => t.setChan ch (fun c => { c with tokens := s.bucket ch, refill := s.nowLsb / 64 * 64 })) s

/-- The channel gate: an event takes one whole token, or is dropped; LIMRATE 0 disables the gate, and a STUCK event needs no
token. -/
def State.takeToken (s : State) (ch : Nat) (free : Bool) : State × Bool :=
  if free || s.limRate = 0 then (s, true)
  else
    let b := s.bucket ch
    if 1600 ≤ b then (s.setChan ch (fun c => { c with tokens := b - 1600, refill := s.nowLsb / 64 * 64 }), true)
    else (s.setChan ch (fun c => { c with tokens := b, refill := s.nowLsb / 64 * 64 }), false)

/-- A dropped event: the drop sequence advances, and every burst whose shot 0 has fired carries the limiter flag (R154,
R187). -/
def State.krfDrop (s : State) (ch : Nat) : State :=
  let s1 := (s.setChan ch (fun c => { c with dropSeq := (c.dropSeq + 1) % 2 ^ 32 })).bump (R.KRF_DROP_CNT ch) 1
  let now := s.nowLsb
  (s1.mapBursts (fun b => b.channel == ch && b.stage == .open && decide (b.epoch0 + b.fires.headD 0 ≤ now))
    (fun b => { b with limiter := true })).fault R.KRF_INTSTAT_DROP 1 ch

/-- The 64-bit event word of a channel's event (R150); BACKLOG is Mortise's own and 0 here. -/
def BackEvent.word (e : BackEvent) (ch : Nat) : BitVec 64 :=
  BitVec.ofNat 64 (e.arrival % 2 ^ 40 + 2 ^ 40 * (e.width % 1024) + 2 ^ 50 * (ch % 1024) + 2 ^ 60 * e.wsat.toNat
    + 2 ^ 61 * e.stuck.toNat + 2 ^ 62 * e.spare.toNat)

/-- The event that an event word carries to Mortise, in a frame (R150). -/
def BackEvent.ofWord (w : BitVec 64) (frame deliver : Nat) : BackEvent :=
  { arrival := bits w.toNat 0 40, frame := frame, width := bits w.toNat 40 10, wsat := w.getLsbD 60, stuck := w.getLsbD 61
    spare := w.getLsbD 62, deliver := deliver }

/-- An event leaves for Mortise as its event word (R150, R171). -/
def State.krfDeliver (s : State) (ch : Nat) (e : KrfEvent) : State :=
  match s.frameOfEdge ch e.tAbs with
  | none => s
  | some (frame, arrival) =>
    let b : BackEvent :=
      { arrival := arrival, frame := frame, width := e.width.getD 0, wsat := e.wsat, stuck := e.stuck
        spare := decide (1024 ≤ e.tdc), deliver := s.nowLsb }
    s.mrtEvent ch (.ofWord (b.word ch) frame s.nowLsb)

/-- The root instant of a stamp, in whole LSB, near the present. -/
def State.stampLsb (s : State) (tAbs : Nat) : Nat := ((s.nowLsb : Int) + krfDiff tAbs (krfStampOf s.nowLsb) / 16).toNat

/-- A channel's oldest event is the next of its group to leave: events go in the order of their stamps, those of one stamp in
ascending channel order (R154). -/
def State.headOfGroup (s : State) (ch : Nat) (e : KrfEvent) : Bool :=
  (List.range 32).all (fun i =>
    let c := 32 * (ch / 32) + i
    match (s.krfChan c).queue.head? with
    | some x => c == ch || decide (0 < krfDiff x.tAbs e.tAbs) || (decide (krfDiff x.tAbs e.tAbs = 0) && decide (ch < c))
    | none => true)

/-- The 1.6 GHz cycle in which an event leaves its group, and its place among the two of that cycle: 15 ns after its leading edge or
later, behind the events before it (R153, R154). -/
def State.groupSlot (s : State) (g lsb : Nat) : Nat × Nat :=
  let x := s.krfGroup g
  let ready := (lsb + 1536 + 63) / 64
  if x.slot < ready then (ready, 1) else if x.used < 2 then (x.slot, x.used + 1) else (x.slot + 1, 1)

/-- The group gate: an event that would leave later than 25 ns after its leading edge is dropped; a STUCK event passes (R154, R157). -/
def State.groupGate (s : State) (ch : Nat) (e : KrfEvent) : State × Bool :=
  let a := s.stampLsb e.tAbs
  let p := s.groupSlot (ch / 32) a
  if e.stuck || decide (64 * p.1 ≤ a + 2560) then (s.setGroup (ch / 32) (fun g => { g with slot := p.1, used := p.2 }), true)
  else (s, false)

/-! ### Calibration tap (R155, R355, R358) -/

/-- The configuration of the latest code-density run; before the first, what the registers hold (R369). -/
def State.cdCfgNow (s : State) : RunCfg :=
  { nev := s.rd R.PLB_CDCFG_NEV, dtemp := s.rd R.PLB_CDCFG_DTEMP, period := s.rd R.PLB_CDCFG_PERIOD, quiett := s.rd R.PLB_CDSRC_QUIETT }
def State.cdCfg (s : State) : RunCfg := s.plb.cfgCd.getD s.cdCfgNow

/-- The same of the latest interleave run. -/
def State.wfCfgNow (s : State) : RunCfg :=
  { nev := 0, dtemp := s.rd R.PLB_WFCFG_DTEMP, period := s.rd R.PLB_WFCFG_PERIOD, quiett := 0 }
def State.wfCfg (s : State) : RunCfg := s.plb.cfgWf.getD s.wfCfgNow

/-- A TDC declared failed leaves the ramp that moves its table (R367). -/
def State.leaveRamp (s : State) (t : Nat) : State :=
  let drop (l : List (Nat × List Int)) := l.filter (fun p => p.1 != t)
  { s with plb := { s.plb with rampCd := s.plb.rampCd.map (fun r => { r with old := drop r.old, new := drop r.new }) } }

/-- A count of one raw tap more. -/
def tapCount (l : List Nat) (tap : Nat) : List Nat :=
  (List.range 32).map (fun k => l.getD k 0 + (if k = tap then 1 else 0))

/-- The calibration tap takes an event of a TDC: a run that collects counts its raw tap; a channel's own event ends its mark of
being quiet. -/
def State.calTap (s : State) (tdc tap : Nat) (pulser : Bool) : State :=
  let l := mapGet [] s.plb.counts tdc
  if s.on R.PLB_STATUS_CDBUSY && !s.plb.doneTdc.contains tdc && decide (l.sum < 1024 * max 1 s.cdCfg.nev) then
    { s with plb := { s.plb with counts := mapSet [] s.plb.counts tdc (tapCount l tap)
                                 ambient := if pulser then s.plb.ambient else histAdd s.plb.ambient tdc } }
  else s

/-- A channel that stamps is quiet no longer (R358). -/
def State.notQuiet (s : State) (ch : Nat) : State :=
  if s.on (R.PLB_CDQ_QUIET ch) then
    (s.wr (R.PLB_QUIET_CH (ch / 32)) (putBit (s.rd (R.PLB_QUIET_CH (ch / 32))) (ch % 32) false)).wr (R.PLB_CDQ_QUIET ch) 0
  else s

/-! ### Spares (R159 to R162) -/

/-- The channel a spare is on. -/
def State.spareCh (s : State) (g : Nat) : Nat := 32 * g + s.rd (R.KRF_SPSTAT_CURCH g)

/-- The spare of a channel's group shadows it: in mode SHADOW, or while a move waits for its takeover instant (R159, R161). -/
def State.shadows (s : State) (ch : Nat) : Bool :=
  (s.rd (R.KRF_SPARE_MODE (ch / 32)) == 1 || (s.krfGroup (ch / 32)).move.isSome)
    && !s.on (R.KRF_SPSTAT_TAKEN (ch / 32)) && s.spareCh (ch / 32) == ch

/-- A channel is masked because its TDC has failed with no repair; NOREPAIR follows the group's channels (R162). -/
def State.noRepair (s : State) (ch : Nat) : State :=
  ((s.setChan ch (fun c => { c with noFix := true })).maskEval ch).wr (R.KRF_SPSTAT_NOREPAIR (ch / 32)) 1

/-- A channel is served again. -/
def State.repaired (s : State) (ch : Nat) : State :=
  let s1 := (s.setChan ch (fun c => { c with noFix := false })).maskEval ch
  s1.wrB (R.KRF_SPSTAT_NOREPAIR (ch / 32))
    ((List.range 32).any (fun k => (s1.krfChan (32 * (ch / 32) + k)).noFix))

/-- A waiting move of a spare is replaced: one to another channel whose TDC has failed leaves that channel masked (R161). -/
def State.moveReplaced (s : State) (g : Nat) (ch : Option Nat) : State :=
  match (s.krfGroup g).move with
  | some (c, _, m) =>
    if m = 2 && some c != ch && s.on (R.KRF_CHSTAT_TDCFAIL (32 * g + c)) then
      (s.noRepair (32 * g + c)).flag R.KRF_INTSTAT_NOREPAIR
    else s
  | none => s

/-- A move of a spare is requested: the takeover instant is the coarse boundary 10 us ahead. Until then the spare shadows the channel,
unless it serves one by an earlier request or by substitution, which it goes on serving (R161). -/
def State.requestMove (s : State) (g ch mode : Nat) : State :=
  let free := (s.krfGroup g).move.isNone && !s.on (R.KRF_SPSTAT_TAKEN g) && mode == 2 && s.rd (R.KRF_SPSTAT_CURCH g) != ch
  let s1 := s.moveReplaced g (some ch)
  let s2 := s1.when free (fun t => (t.wr (R.KRF_SPSTAT_CURCH g) ch).setGroup g (fun x =>
    { x with compared := 0, mism := 0, diffSum := 0 }))
  s2.setGroup g (fun x => { x with move := some (ch, s.nowLsb + 1024000, mode) })

/-- The channel that a spare serves goes back to its own TDC, or is masked if that has failed (R162). -/
def State.spareLeaves (s : State) (g : Nat) : State :=
  if s.on (R.KRF_SPSTAT_TAKEN g) then
    let ch := s.spareCh g
    let s1 := ((s.wr (R.KRF_SPSTAT_TAKEN g) 0).wr (R.KRF_CHSTAT_SPARE ch) 0).setGroup g (fun x => { x with kept := none })
    if s.on (R.KRF_CHSTAT_TDCFAIL ch) then s1.noRepair ch else s1
  else s

/-- A TDC is declared failed (R160 to R162): with AUTO its spare is moved, and where no spare is left the channel is masked and the
fault stands without repair. -/
def State.tdcFailed (s : State) (ch : Nat) (inj : Bool) : State :=
  let g := ch / 32
  let s1 := ((s.wr (R.KRF_CHSTAT_TDCFAIL ch) 1).wr (R.KRF_CHCFG_TDCFAIL ch) 1).leaveRamp ch
  if s.on (R.KRF_SPSTAT_TAKEN g) && s.spareCh g == ch then s1
  else if s.on (R.KRF_SPARE_AUTO g) && !s.on (R.KRF_SPSTAT_TAKEN g) && !s.on (R.KRF_SPSTAT_SPFAIL g) then
    (s1.requestMove g (ch % 32) 2).when inj (·.reportInj 3 0xFF 2 ch)
  else (s1.noRepair ch).faultInj R.KRF_INTSTAT_NOREPAIR 3 ch inj

/-- What firmware restores of the spares at stage SETTINGS (R162): a completed takeover is taken up again, and a move that had not been
is as not begun, the spare in SHADOW; a failed spare stays IDLE, and channels whose TDC has failed without repair stay masked. A
power-on start moves the spares that the settings move. -/
def State.krfRestore (s : State) (full : Bool) : State :=
  let s1 := (List.range 32).foldl (fun t g =>
    let t1 := match (t.krfGroup g).kept with
      | some c =>
        ((((t.wr (R.KRF_SPARE_MODE g) 2).wr (R.KRF_SPARE_CH g) c).wr (R.KRF_SPSTAT_CURCH g) c).wr (R.KRF_SPSTAT_TAKEN g) 1).wr
          (R.KRF_CHSTAT_SPARE (32 * g + c)) 1
      | none =>
        if t.rd (R.KRF_SPARE_MODE g) = 2 then
          (if full then t.wr (R.KRF_SPARE_MODE g) 1 else t.requestMove g (t.rd (R.KRF_SPARE_CH g)) 2)
        else t
    let t2 := t1.when (t1.on (R.KRF_SPSTAT_SPFAIL g)) (·.wr (R.KRF_SPARE_MODE g) 0)
    t2.wrB (R.KRF_SPSTAT_NOREPAIR g) ((List.range 32).any (fun k => (t2.krfChan (32 * g + k)).noFix))) s
  (List.range 1024).foldl State.maskEval s1

/-- Once stamping resumes a move that a full reset has overtaken is made again (R162). -/
def State.krfResume (s : State) : State :=
  (List.range 32).foldl (fun t g =>
    match (t.krfGroup g).redo with
    | some c =>
      (t.setGroup g (fun x => { x with redo := none })).when
        (t.on (R.KRF_SPARE_AUTO g) && !t.on (R.KRF_SPSTAT_TAKEN g) && !t.on (R.KRF_SPSTAT_SPFAIL g)) (·.requestMove g c 2)
    | none => t) s

/-- A spare is itself declared failed (R162): its group reverts to IDLE. -/
def State.spareFailed (s : State) (g : Nat) : State :=
  let ch := s.spareCh g
  let taken := s.on (R.KRF_SPSTAT_TAKEN g)
  let s1 := (((s.spareLeaves g).wr (R.KRF_SPARE_MODE g) 0).wr (R.KRF_SPSTAT_SPFAIL g) 1).leaveRamp (1024 + g)
  let s2 := s1.setGroup g (fun x => { x with move := none })
  if taken then (s2.noRepair ch).fault R.KRF_INTSTAT_NOREPAIR 3 ch else s2

end Sys2Proof.Machine
end

