-- ==== Sys2Proof/Machine/StageLine.lean ====
section
/-!
DEFINITION. The start-up line of R60, with the status it leaves in GLB_STATUS and its copy in the fault log.
-/
namespace Sys2Proof.Machine

/-- The severity of a start-up line by its cause (R461). -/
def lineSev (cause : Nat) : Nat :=
  if cause = 0 || cause = 0x11 then 0
  else if cause = 6 then 1
  else if [3, 8, 0x0A, 0x0B, 0x0E, 0x10].contains cause then 2
  else 3

/-- The stage code that GLB_STATUS shows. -/
def State.stage (s : State) : Nat := s.rd R.GLB_STATUS_STAGE

/-- One line on the management UART (R60): T counts milliseconds since PORN_N rose, wrapping at 999,999. From stage
SETTINGS on, the line goes to the fault log too. -/
def State.stageLine (s : State) (stage cause detail : Nat) : State :=
  let s1 := ((s.wr R.GLB_STATUS_STAGE stage).wr R.GLB_STATUS_CAUSE cause).wr R.GLB_STATUS_DETAIL detail
  let s2 := s1.emit (.line stage (s.clk.porTicks / 200000 % 1000000) cause detail)
  if 6 ≤ stage && stage != 0x0F then
    s2.report 0x24 cause (lineSev cause) 0 (BitVec.ofNat 64 (stage + 256 * detail))
  else s2

/-- Entry to a stage: its line with cause 0, and STAGECHG from HOST_LINK on (R480). -/
def State.enterStage (s : State) (stage : Nat) : State :=
  let s1 : State := { s with boot := { s.boot with stalled := false } }
  let s2 := s1.stageLine stage 0 0
  if 7 ≤ stage && stage != 0x0F then s2.flag R.GLB_INTSTAT_STAGECHG else s2

/-- A stall of the present stage: its line with the cause, repeated every second (R60). -/
def State.stall (s : State) (cause detail : Nat) : State :=
  let s1 := s.stageLine s.stage cause detail
  { s1 with boot := { s1.boot with stalled := true } }

end Sys2Proof.Machine
end

