-- ==== Sys2Proof/Machine/ResetOps.lean ====
section
/-!
DEFINITION. What the two resets do to the state (R48 to R53): the power-on reset restarts everything but the boot flash and
the one-time memory; a full reset keeps HBM, the clock plant, Truss and what the chapters name as surviving (R479).
-/
namespace Sys2Proof.Machine

/-! ### Registers that a full reset keeps -/

/-- Registers kept as ranges of byte offsets [lo, hi): CLK, TRS, GLB_STATUS to GLB_RSTCAUSE, the thermal state of R346, the
lifetime counters of R470, the error counters of HBM, FLT_STATUS and FLT_HEAD. -/
def keptRanges : List (Nat × Nat) :=
  [(0x10000, 0x20000), (0x280000, 0x2C0000), (0x20000, 0x2000C), (0x20100, 0x20170)]

/-- Single fields kept (R243, R262, R465, R470, R479, R483). -/
def keptFlds : List Fld :=
  [R.GLB_STATUS_STAGE, R.GLB_STATUS_CAUSE, R.GLB_STATUS_DETAIL, R.GLB_RSTCAUSE_CAUSE, R.GLB_RSTCAUSE_JOINED,
   R.GLB_RSTCAUSE_RSTCNT, R.JNL_CAP_CAP, R.JNL_COMMITS_CNT, R.JNL_REFREC_CNT, R.JNL_REFBURST_CNT,
   R.JNL_RATEREF_CNT, R.JNL_MKREFUSE_CNT, R.JNL_HELDCNT_CNT, R.JNL_LOST_CNT, R.JNL_DEMOTED_CNT, R.JNL_BADCLS_CNT,
   R.LBK_TARGETS_CNT, R.LBK_HITS_CNT, R.LBK_COVERED_CNT, R.LBK_NOPOSE_CNT, R.LBK_ABANDON_CNT,
   R.LBK_COLDROP_CNT, R.LBK_POSEDROP_CNT, R.LBK_REFUSED_CNT, R.FWU_CTL_PROGSIG, R.FLT_CTL_INJLOCK,
   R.FLT_STATUS_OPEN, R.FLT_STATUS_FULL, R.FLT_STATUS_MGMTSB, R.FLT_STATUS_ACTCORE, R.FLT_PCIE_LANEOUT, R.FLT_POH_SEC,
   R.FLT_HOTSEC_SEC, R.FLT_TJAVG_T, R.FLT_THAVG_T, R.FLT_TCYC_CNT,
   R.PEG_FRAMENUM_NUM, R.HIF_STATUS_SPEED, R.HIF_STATUS_WIDTH]

/-- Families of fields kept: (field of index 0, field of index 1, count). -/
def keptFamilies : List (Fld × Fld × Nat) :=
  [(R.BTN_DSTAT_CAPREJ 0, R.BTN_DSTAT_CAPREJ 1, 64), (R.KRF_CHCFG_TDCFAIL 0, R.KRF_CHCFG_TDCFAIL 1, 1024), (R.KRF_CHSTAT_TDCFAIL 0, R.KRF_CHSTAT_TDCFAIL 1, 1024), (R.KRF_SPSTAT_SPFAIL 0, R.KRF_SPSTAT_SPFAIL 1, 32),
   (R.FLT_HBMCOR_CNT 0, R.FLT_HBMCOR_CNT 1, 4), (R.FLT_HBMUNC_CNT 0, R.FLT_HBMUNC_CNT 1, 4),
   (R.FLT_HBMSPARE_SPARED 0, R.FLT_HBMSPARE_SPARED 1, 4), (R.FLT_HBMSPARE_REFUSED 0, R.FLT_HBMSPARE_REFUSED 1, 4),
   (R.HIF_CRLASTLO_CID 0, R.HIF_CRLASTLO_CID 1, 16), (R.HIF_CRLASTHI_CID 0, R.HIF_CRLASTHI_CID 1, 16)]

/-- A key lies in a family. -/
def inFamily (f : Fld × Fld × Nat) (k : Nat) : Bool :=
  let st := f.2.1.key - f.1.key
  decide (f.1.key ≤ k) && decide (k < f.1.key + f.2.2 * st) && (k - f.1.key) % max st 1 == 0

/-- A register field that survives a full reset (R479). -/
def survives (k : Nat) : Bool :=
  keptRanges.any (fun r => decide (8 * r.1 ≤ k) && decide (k < 8 * r.2)) || keptFlds.any (fun f => f.key == k)
    || keptFamilies.any (fun f => inFamily f k)

/-! ### The parts of a full reset -/

/-- Every burst is discarded, which makes its frame incomplete (R237); markers raised before the reset instant are committed while
the journal still runs, and the write queue is drained (R49, R50, R240). The frame in progress gets its frame end marker,
incomplete and ended by the reset, which waits for stage HOST_LINK (R241). -/
def State.resetJournal (s : State) : State :=
  let s0 := s.peg.bursts.foldl (fun t b => t.tallyIncomplete b.frame) s
  let s1 : State := { s0 with peg := { s.peg with bursts := [] }, jnl := { s0.jnl with handed := [] } }
  let s2 := s1.drain.1
  let f := s2.rd R.PEG_FRAMENUM_NUM
  let s3 : State :=
    { s2 with jnl := { s2.jnl with wq := 0, markers := s2.jnl.markers.filter (fun m => m.kind == 6 || m.kind == 2) } }
  if s.peg.scanning then
    (s3.tally f (fun t => { t with incomplete := true, byReset := true })).raiseMarker s.nowLsb s.clk.devTime 2 [] f
  else s3

/-- A subscriber queue after a full reset (R393): it keeps class, filter, CONSUMED and scan position. -/
def SubQueue.suspend (q : SubQueue) : SubQueue :=
  { q with pi := 0, bufs := [], offset := 0, written := 0, seen := 0, armed := false, sinceArm := 0, skipped := 0
           owed := 0, notes := [], closing := none }

/-- The host link after a full reset (R373, R393): queues suspended, rings disabled with their retained completions, bulk
channels forgotten. -/
def HifState.suspend (h : HifState) : HifState :=
  { HifState.reset with queues := h.queues.map (fun p => (p.1, p.2.suspend)), nextArea := h.nextArea
                        rings := h.rings.map (fun p => (p.1, { fetched := [], written := 0, armed := false, done := p.2.done, unread := none })) }

/-- Peg after a full reset: the frame clock and the retained configuration epochs stay (R123, R501). -/
def PegState.afterReset (p : PegState) : PegState :=
  { PegState.reset with clockOn := p.clockOn, epochLsb := p.epochLsb, period := p.period, cfgPeriod := p.cfgPeriod
                        epochOld := p.epochOld
                        codebooks := p.codebooks
                        epochs := p.epochs, active := p.active, nextBurst := p.nextBurst, passed := p.passed
                        ran := p.ran, firstAfter := true, lastFrame := p.lastFrame }

/-- A group after a full reset: its completed takeover, and the channel of a move to a failed TDC that was not reached (R162). -/
def State.groupAfterReset (s : State) (g : Nat) (x : KrfGroup) : KrfGroup :=
  { move := none, compared := 0, mism := 0, diffSum := 0, kept := x.kept, slot := 0, used := 0
    redo := match x.move with
      | some (c, _, 2) => if s.on (R.KRF_CHSTAT_TDCFAIL (32 * g + c)) then some c else none
      | _ => x.redo }

/-- Kerf after a full reset: fine tables are kept in HBM, and completed substitutions (R162, R366); TDCs that failed without repair
stay so. -/
def State.krfAfterReset (s : State) : KrfState :=
  { KrfState.reset with
      fine := s.krf.fine
      groups := (s.krf.groups.map (fun p => (p.1, s.groupAfterReset p.1 p.2))).filter (fun p => p.2 != KrfGroup.zero)
      chans := (s.krf.chans.filter (fun p => p.2.noFix)).map (fun p => (p.1, { KrfChan.zero with noFix := true })) }

/-- The engine array after a full reset: engines out of service and the substitution stay (R213, R214). -/
def JstState.afterReset (j : JstState) : JstState :=
  { j with engines := j.engines.map (fun p => (p.1, { p.2 with burst := none })), bookings := [], subAt := none
           waiting := none, staged := none, loadRing := none }


/-- Dog after a full reset: every entry is dropped and SEQ goes on (R286). -/
def DogState.afterReset (d : DogState) : DogState := { DogState.reset with nextSeq := d.nextSeq }

/-- Plumb after a full reset: sets, drift and ramps stay in HBM; a run that was collecting is abandoned (R366). -/
def PlbState.afterReset (p : PlbState) : PlbState :=
  { p with counts := [], doneTdc := [], newFine := [], ambient := [], pulsed := [], took := [], cfgCd := none, cfgWf := none
           adapt := [], hkBad := false }

/-- Tenon after a full reset: the retained word of R78. -/
def TnnState.afterReset (t : TnnState) : TnnState :=
  { TnnState.reset with retSp := t.retSp, retTl := t.retTl, retDem := t.retDem }

/-- Dowel after a full reset: training results stay in HBM (R411). -/
def DwlState.afterReset (d : DwlState) : DwlState := { DwlState.reset with trained := d.trained }

/-- Firmware after a full reset: the retained image and settings stay; whatever was under way is dropped. -/
def FwuState.afterReset (f : FwuState) : FwuState :=
  { f with recovery := false, receipt := none, mailbox := FwuState.reset.mailbox, job := none
           live := none, plbHeld := false, parsed := false, tried := [], uartBaud := 115200 }

/-- The fault log unit after a full reset: log and counts stay (R465); injections that have not acted end. -/
def FltState.afterReset (f : FltState) : FltState :=
  { f with injWords := [], injEngines := [], injLath := false, injIdle := [], idleTill := [], injHeart := false }

/-- What is retained of a ring whose drivers have been enumerated (R104). -/
def State.keepRing (s : State) (r : Nat) : Option (Nat × RingKept) :=
  let n := s.rd (R.BTN_RSTAT_NDRV r)
  if n = 0 then none
  else some (r, { n := n, lcw := s.rd (R.BTN_RLOOP_LCW r), lccw := s.rd (R.BTN_RLOOP_LCCW r)
                  delays := (List.range n).map (fun i => (s.rd (R.BTN_DDLY_ACW (8 * r + i)), s.rd (R.BTN_DDLY_ACCW (8 * r + i)))) })

/-- Rings retained through a full reset: those enumerated since the last one, and those that it had not brought up again (R104). -/
def State.keptRings (s : State) : List (Nat × RingKept) :=
  let l := (List.range 8).filterMap s.keepRing
  l ++ s.btn.kept.filter (fun p => !l.any (·.1 == p.1))

/-- Batten after a full reset: fires already transmitted may still be reported (R503), and the delays of its rings are retained
(R104). -/
def State.btnAfterReset (s : State) : BtnState :=
  let b := s.btn
  { BtnState.reset with
      hushing := b.hushing, kept := s.keptRings
      preReset := b.preReset ++ (b.fires.filter (fun f => f.stage == .sent)).map (fun f => (f.driver, f.tag)) }

/-! ### Full reset -/

/-- Registers go back to their reset values, except what survives (R48, R479). -/
def State.resetRegs (s : State) : State := { s with regs := s.regs.filter (fun p => survives p.1) }

/-- The flash once the writing of a staged image has been cut short: what the slot, which is not ACTIVE, then holds is not stated. -/
def State.cutFlash (s : State) : State :=
  match s.fwu.job with
  | some j => s.flashStore (slotBase j.slot) (j.bytes.mapIdx (fun i _ => Config.freeByte s.fresh i))
  | none => s

/-- Every block but the clock plant and Truss is reset; HBM keeps its contents (R48). -/
def State.resetBlocks (s : State) : State :=
  { s.cutFlash.resetRegs with
      tnn := s.tnn.afterReset, btn := s.btnAfterReset, peg := s.peg.afterReset, krf := s.krfAfterReset
      jst := s.jst.afterReset, wfp := .reset, dog := s.dog.afterReset, sil := .reset
      latch := [], plb := s.plb.afterReset, hif := s.hif.suspend, dwl := s.dwl.afterReset, fwu := s.fwu.afterReset
      flt := s.flt.afterReset }

/-- Start-up's own record from the reset instant on (R49, R50, R53): a reset before stage HBM_TRAIN restarts start-up with
full training. -/
def State.resetBoot (s : State) : State :=
  { s with boot := { s.boot with
      inReset := true, fast := s.boot.trained, selfRef := s.boot.trained, linked := false, spinDone := false
      calDone := false, stalled := false, ended := s.boot.ended && s.rd R.GLB_STATUS_STAGE == 1, gated := false
      wasRun := (s.peg.scanning && !s.peg.stopReq) || s.boot.wasRun
      rstLsb := s.nowLsb, rstTime := s.clk.devTime, detail := 0 } }

/-- A full reset from a source of R483. A source that arrives before logic release joins the reset already running (R53), and the
restart of a thermal shutdown ungates the clocks then too (R345). The torque port falls quiet, subscriber queues are suspended,
DARK_N falls and HUSH goes out before the rest. -/
def State.fullReset (s : State) (cause : Nat) : State :=
  if s.boot.pornLow || !s.boot.powered then s
  else if s.boot.inReset then
    ({ s with boot := { s.boot with gated := s.boot.gated && cause != 6 } } : State).wr R.GLB_RSTCAUSE_JOINED 1
  else
    let s1 := ((s.wr R.GLB_RSTCAUSE_CAUSE cause).wr R.GLB_RSTCAUSE_JOINED 0).bump R.GLB_RSTCAUSE_RSTCNT 1
    let s2 := s1.resetJournal
    let lost := s2.dog.ring.length
    let s3 := s2.resetBoot.onTrs (fun t => { t with resetHold := true, armDue := .none })
    let s4 := (s3.trsEval 0x0013).resetBlocks
    let s5 := s4.when (lost != 0) (·.bump R.DOG_RSTDISC_CNT lost)
    let s6 := (s5.hif.queues.map (·.1)).foldl (fun t q => t.wr (R.HIF_QSTATE_STATE q) 2) s5
    s6.when (!s6.hif.queues.isEmpty) (·.flag R.HIF_INTSTAT_QSUSP)

/-! ### Power-on reset -/

/-- What a power-on reset leaves (R48): the boot flash, the one-time memory, the permanent repairs of HBM rows, and the
model's own record of what has left the part. -/
def State.powerReset (s : State) : State :=
  { State.reset with flash := s.cutFlash.flash, fwu := { FwuState.reset with otp := s.fwu.otp }
                     flt := { FltState.reset with permanent := s.flt.permanent }
                     jnl := { JnlState.reset with gen := Config.newGen (s.fresh + 1) }
                     out := s.out, fresh := s.fresh + 1, pending := s.pending }

end Sys2Proof.Machine
end

