-- ==== Sys2Proof/Machine/Sill.lean ====
section
/-!
DEFINITION. Sill (R322 to R339): slots and rounds, sources, conversions and their results, the reference buffer, and
thermal sensors, levels and thresholds (R340 to R346).
-/
namespace Sys2Proof.Machine

/-! ### Results (R329) -/

/-- round_half_even of a quotient (positive divisor). -/
def divHalfEven (n : Int) (d : Nat) : Int :=
  let q := n / d
  let r := 2 * (n - q * d)
  if r < d then q else if (d : Int) < r then q + 1 else if q % 2 = 0 then q else q + 1

/-- A sample code of 18 bits. -/
def codeVal (c : BitVec 18) : Int := c.toInt

/-- An over-range code (R327). -/
def codeOver (c : Int) : Bool := c == -131072 || c == 131071

/-- The marker of full scale. -/
def markPos : Int := 8388607

/-- The result of a run of samples with a correction (R329): result and OVR. -/
def convResult (xs : List Int) (ofs gain : Int) : Int × Bool :=
  let avg := divHalfEven (16 * xs.sum) (max xs.length 1)
  let r := clampI (-2097151) 2097151 (divHalfEven ((avg - ofs) * (4194304 + gain)) 4194304)
  match xs.reverse.find? codeOver with
  | some c => (if c < 0 then -markPos else markPos, true)
  | none => (r, false)

/-- OFS and GAIN of a converter. -/
def State.silCor (s : State) (adc : Bool) : Int × Int :=
  (s.rdS (R.SIL_COROFS_OFS adc.toNat), s.rdS (R.SIL_CORGAIN_GAIN adc.toNat))

/-- OFS and GAIN of a slot's run; for an interleaved slot the spec names none. -/
def State.slotCor (s : State) (adc ilv : Bool) : Int × Int :=
  if ilv then
    let a := s.silCor false
    let b := s.silCor true
    Config.ilvCorrection a.1 b.1 a.2 b.2
  else s.silCor adc

/-! ### Slots (R331 to R334) -/

/-- The index of a slot of the active bank in the slot registers. -/
def State.slotIx (s : State) (slot : Nat) : Nat := 32 * s.rd R.SIL_STATUS_ACTBANK + slot

/-- A slot of a bank is enabled. -/
def State.slotEn (s : State) (i : Nat) : Bool := s.on (R.SIL_SCFG_EN i)

/-- A pin field that may be 31 for none. -/
def pinOk (p : Nat) : Bool := decide (p < 24) || p == 31

/-- The fields of a slot are valid (R331, R332). -/
def State.slotValid (s : State) (i : Nat) : Bool :=
  let src := s.rd (R.SIL_SEXC_EXCSRC i)
  let val := s.rd (R.SIL_SEXC_EXCVAL i)
  let range := if s.on (R.SIL_SEXC_EXCMODE i) then 500 ≤ val && decide (val ≤ 2500) else 10 ≤ val && decide (val ≤ 2000)
  decide (s.rd (R.SIL_SCFG_OS i) ≤ 8) && decide (src ≠ 3)
    && (src == 0 || (decide (s.rd (R.SIL_SEXC_EXCPIN i) < 24) && range)) && s.rd (R.SIL_SEXC_RSV i) == 0
    && pinOk (s.rd (R.SIL_SEXC_SNSPIN i)) && pinOk (s.rd (R.SIL_SEXC_RETPIN i))
    && s.rd (R.SIL_SCFG_PPIN i) != s.rd (R.SIL_SCFG_NPIN i)

/-- The inactive bank may become active (R332). -/
def State.slotBankOk (s : State) : Bool :=
  let b := 32 * (1 - s.rd R.SIL_STATUS_ACTBANK)
  (List.range 32).all (fun i => !s.slotEn (b + i) || s.slotValid (b + i))

/-- A swap request is met at a round start (R332). -/
def State.silSwapNow (s : State) : State :=
  if s.sil.swapReq then
    let s1 := { s with sil := { s.sil with swapReq := false } }.wr R.SIL_CTL_SWAP 0
    if s1.slotBankOk then
      (s1.wr R.SIL_STATUS_ACTBANK (1 - s1.rd R.SIL_STATUS_ACTBANK)).flag R.SIL_INTSTAT_SWAPDONE
    else s1.refuse R.SIL_INTSTAT_BADCFG
  else s

/-- The slots a converter runs in a round, ascending (R333). -/
def State.slotList (s : State) (adc : Bool) : List Nat :=
  (List.range 32).filter (fun k =>
    let i := s.slotIx k
    s.slotEn i && (s.on (R.SIL_SCFG_ILV i) || s.on (R.SIL_SCFG_ADC i) == adc))

/-- What a slot asks of a source: which one, mode, value and pins; none if it names no source (R325). -/
def State.slotExc (s : State) (slot : Nat) : Option (Bool × ExcSet) :=
  let i := s.slotIx slot
  let src := s.rd (R.SIL_SEXC_EXCSRC i)
  if src = 0 then none
  else some (src == 2, { volt := s.on (R.SIL_SEXC_EXCMODE i), val := s.rd (R.SIL_SEXC_EXCVAL i), exc := s.rd (R.SIL_SEXC_EXCPIN i)
                         sns := s.rd (R.SIL_SEXC_SNSPIN i), ret := s.rd (R.SIL_SEXC_RETPIN i) })

/-- Two slots cannot run together: they name one source with different settings (R325). -/
def State.excConflict (s : State) (a b : Nat) : Bool :=
  match s.slotExc a, s.slotExc b with
  | some x, some y => x.1 == y.1 && x.2 != y.2
  | _, _ => false

/-- The run of a converter. -/
def SilState.run (t : SilState) (adc : Bool) : Option SlotRun := if adc then t.run1 else t.run0

/-- The slots a converter has still to run. -/
def SilState.todo (t : SilState) (adc : Bool) : List Nat := if adc then t.todo1 else t.todo0

/-- A converter's run and list are set. -/
def SilState.put (t : SilState) (adc : Bool) (r : Option SlotRun) (l : List Nat) : SilState :=
  if adc then { t with run1 := r, todo1 := l } else { t with run0 := r, todo0 := l }

/-- A slot that a converter really runs: not one that waits. -/
def SlotRun.live (r : Option SlotRun) : Option Nat :=
  match r with
  | some r => if r.waitExc || r.waitIlv then none else some r.slot
  | none => none

/-- BUSY follows the runs (R347). -/
def State.silBusy (s : State) : State :=
  (s.wrB R.SIL_STATUS_BUSY0 s.sil.run0.isSome).wrB R.SIL_STATUS_BUSY1 s.sil.run1.isSome

/-! ### The crosspoint and the sources (R322, R324 to R326, R335, R338) -/

/-- A pin code that is an AX pin; 24 to 31 are internal channels (R328). -/
def axPin (p : Nat) : Bool := decide (p < 24)

/-- A pin code switched to a node, if it is an AX pin. -/
def toNode (p : Nat) (x : XNode) : List (Nat × XNode) := if axPin p then [(p, x)] else []

/-- What a running slot switches beside its converter's inputs: excitation, sense in voltage mode, return, bias and burnout (R322,
R324, R326). -/
def State.slotNodes (s : State) (slot : Nat) : List (Nat × XNode) :=
  let i := s.slotIx slot
  let pp := s.rd (R.SIL_SCFG_PPIN i)
  let np := s.rd (R.SIL_SCFG_NPIN i)
  let exc := match s.slotExc slot with
    | some (src, e) => toNode e.exc (.exc src) ++ (if e.volt then toNode e.sns (.sns src) else [])
    | none => []
  let bo : XNode := .bo (s.on (R.SIL_SCFG_BOI i))
  exc ++ toNode (s.rd (R.SIL_SEXC_RETPIN i)) .ret ++ (if s.on (R.SIL_SCFG_BIASN i) then toNode np .bias else [])
    ++ (if s.on (R.SIL_SCFG_BO i) then toNode pp bo ++ toNode np bo else [])

/-- The channel codes at a converter's inputs P and N: those of an injected conversion (R335), of a calibration run, which takes
ZERO and then REF against ZERO (R338), or else of its slot. -/
def State.convIn (s : State) (adc : Bool) : Option (Nat × Nat) :=
  if s.sil.injPend && s.on (if adc then R.SIL_STATUS_INJ1 else R.SIL_STATUS_INJ0) then some (s.sil.injP, s.sil.injN)
  else if s.on (if adc then R.SIL_STATUS_CAL1 else R.SIL_STATUS_CAL0) then
    some (if s.clk.ticks < s.sil.calAt + 25640 then 24 else 25, 24)
  else (SlotRun.live (s.sil.run adc)).map (fun k => (s.rd (R.SIL_SCFG_PPIN (s.slotIx k)), s.rd (R.SIL_SCFG_NPIN (s.slotIx k))))

/-- The switches that are closed: the inputs of both converters, what the running slots connect, and the burnout of the injected
pins. -/
def State.closed (s : State) : List (Nat × XNode) :=
  let ins (adc : Bool) := match s.convIn adc with | some (p, n) => toNode p (.p adc) ++ toNode n (.n adc) | none => []
  let slot (adc : Bool) := match SlotRun.live (s.sil.run adc) with | some k => s.slotNodes k | none => []
  (ins false ++ ins true ++ slot false ++ slot true ++ s.sil.injBo).eraseDups

/-- The setting of a source (R325): that of a running slot that holds it; at the end of the last one it stays on if the next slot
of either converter uses it with equal settings, and is switched off otherwise. -/
def State.excNow (s : State) (src : Bool) : Option ExcSet :=
  let of (k : Option Nat) : Option ExcSet :=
    (k.bind s.slotExc).bind (fun e => if e.1 == src then some e.2 else none)
  let next (adc : Bool) : Option Nat := match s.sil.run adc with
    | some r => if r.waitExc || r.waitIlv then some r.slot else (s.sil.todo adc).head?
    | none => (s.sil.todo adc).head?
  match of (SlotRun.live s.sil.run0), of (SlotRun.live s.sil.run1) with
  | some e, _ => some e
  | none, some e => some e
  | none, none =>
    let now := if src then s.sil.exc1 else s.sil.exc0
    if now.isSome && (of (next false) == now || of (next true) == now) then now else none

/-- One source follows the slots. -/
def State.excSet (s : State) (src : Bool) : State :=
  let e := s.excNow src
  if e = (if src then s.sil.exc1 else s.sil.exc0) then s
  else ({ s with sil := if src then { s.sil with exc1 := e } else { s.sil with exc0 := e } } : State).emit (.excite src e)

/-- Crosspoint and sources follow the slots, the injected conversion and the calibration run. DESIGN CHOICE (log 162): a slot's
switches open at its end. -/
def State.switch (s : State) : State :=
  let s1 := (s.excSet false).excSet true
  { s1 with sil := { s1.sil with xp := s1.closed } }

/-- A converter that is free takes the next slot of its list; an interleaved slot first waits for its partner (R333). -/
def State.takeSlot (s : State) (adc : Bool) : State :=
  match s.sil.run adc, s.sil.todo adc with
  | none, k :: r =>
    let run : SlotRun := { slot := k, waitExc := false, waitIlv := s.on (R.SIL_SCFG_ILV (s.slotIx k)), start := s.clk.ticks
                           clamp := 0 }
    { s with sil := s.sil.put adc (some run) r }
  | _, _ => s

/-- Both converters have reached the same interleaved slot: it starts (R333). -/
def State.joinIlv (s : State) : State :=
  match s.sil.run0, s.sil.run1 with
  | some a, some b =>
    if a.waitIlv && b.waitIlv && a.slot == b.slot then
      let go (r : SlotRun) : SlotRun := { r with waitIlv := false, start := s.clk.ticks }
      { s with sil := { s.sil with run0 := some (go a), run1 := some (go b) } }
    else s
  | _, _ => s

/-- A slot that just came to a converter waits if its source is held otherwise by the other converter; each such wait is
counted. One that waited starts when the source is free (R325). -/
def State.excWait (s : State) (adc : Bool) : State :=
  match s.sil.run adc with
  | some r =>
    if r.waitIlv then s
    else
      let clash := match SlotRun.live (s.sil.run (!adc)) with
        | some k => k != r.slot && s.excConflict r.slot k
        | none => false
      if clash && !r.waitExc then
        { s with sil := s.sil.put adc (some { r with waitExc := true }) (s.sil.todo adc) }.bump R.SIL_ABORTS_EXCWAIT 1
      else if !clash && r.waitExc then
        { s with sil := s.sil.put adc (some { r with waitExc := false, start := s.clk.ticks }) (s.sil.todo adc) }
      else s
  | none => s

/-- One slot's result stands in its register; a slot that was not converted for want of the reference shows NOREF (R333, R337,
R347). -/
def State.latchSlot (s : State) (k : Nat) : State :=
  match s.sil.results.find? (fun p => p.1 == k) with
  | some (_, r) =>
    if r.noref then (s.wr (R.SIL_RES_NEW k) 0).wr (R.SIL_RES_NOREF k) 1
    else
    let s1 := ((s.wrS (R.SIL_RES_RESULT k) r.result).wrB (R.SIL_RES_OVR k) r.ovr).wrB (R.SIL_RES_WB k) r.wb
    let s2 := ((s1.wrB (R.SIL_RES_CLAMP k) r.clamp).wrB (R.SIL_RES_NBR k) r.nbr).wrB (R.SIL_RES_EXCF k) r.excf
    (s2.wr (R.SIL_RES_NOREF k) 0).wr (R.SIL_RES_NEW k) 1
  | none => (s.wr (R.SIL_RES_NEW k) 0).wr (R.SIL_RES_NOREF k) 0

/-- The round ends when both lists are done: every result is latched (R333). -/
def State.roundEnd (s : State) : State :=
  if s.sil.inRound && s.sil.run0.isNone && s.sil.run1.isNone && s.sil.todo0.isEmpty && s.sil.todo1.isEmpty then
    let s1 := (List.range 32).foldl State.latchSlot s
    let s2 : State := { s1 with sil := { s1.sil with inRound := false, results := [] } }
    (s2.count R.SIL_RNDCNT_CNT 1).flag R.SIL_INTSTAT_ROUNDDONE
  else s

/-- Everything a round can do at an instant: slots start, wait, join, and the round ends. -/
def State.roundGo (s : State) : State :=
  let s1 := (s.takeSlot false).takeSlot true
  let s2 := (s1.joinIlv.excWait false).excWait true
  s2.roundEnd.silBusy.switch

/-- A housekeeping tick (R333): a round starts if RUN is set and the last one has ended. -/
def State.roundTick (s : State) : State :=
  if s.sil.inRound then (s.bump R.SIL_LATE_CNT 1).fault R.SIL_INTSTAT_ROUNDLATE 1 0
  else if s.on R.SIL_CTL_RUN then
    let s1 := s.silSwapNow
    { s1 with sil := { s1.sil with inRound := true, todo0 := s1.slotList false, todo1 := s1.slotList true, results := [] } }.roundGo
  else s


/-- The clamp marks of a slot's result: its own pins, and the neighbours of a clamping pin (R323). -/
def State.clampMarks (s : State) (slot : Nat) (c : BitVec 24) : Bool × Bool :=
  let i := s.slotIx slot
  let pins := [s.rd (R.SIL_SCFG_PPIN i), s.rd (R.SIL_SCFG_NPIN i)].filter axPin
  (pins.any (fun p => c.getLsbD p), pins.any (fun p => (1 ≤ p && c.getLsbD (p - 1)) || c.getLsbD (p + 1)))

/-- A wire break seen at pins (R339). -/
def State.seenWb (s : State) (pins : BitVec 24) : State :=
  if pins = 0 then s
  else (s.wr R.SIL_PINWB_PIN (s.rd R.SIL_PINWB_PIN ||| pins.toNat)).fault R.SIL_INTSTAT_WB 1 0

/-- The first `n` of the samples that a command brings. -/
def firstCodes (n : Nat) (codes : List (BitVec 18)) : List Int := (List.range n).map (fun i => codeVal (codes.getD i 0))

/-- The result of a slot's run of 2^OS samples (R323, R329, R339). -/
def State.slotRes (s : State) (adc : Bool) (r : SlotRun) (codes : List (BitVec 18)) (wb : BitVec 24) (excf : Bool) :
    SlotRes :=
  let i := s.slotIx r.slot
  let cor := s.slotCor adc (s.on (R.SIL_SCFG_ILV i))
  let v := convResult (firstCodes (2 ^ s.rd (R.SIL_SCFG_OS i)) codes) cor.1 cor.2
  let m := s.clampMarks r.slot r.clamp
  { result := if wb = 0 then v.1 else markPos, ovr := v.2, wb := wb != 0, clamp := m.1, nbr := m.2, excf := excf, noref := false }

/-- A slot's time that ran without a ready reference (R337). -/
def SlotRes.unconverted : SlotRes :=
  { result := 0, ovr := false, wb := false, clamp := false, nbr := false, excf := false, noref := true }

/-- The pins above 3.0 V that a conversion with these inputs compares: its own (R339). -/
def ownPins (ins : Option (Nat × Nat)) (wb : BitVec 24) : BitVec 24 :=
  match ins with
  | some (p, n) => wb &&& (BitVec.ofNat 24 ((toNode p .ret ++ toNode n .ret).foldl (fun m x => m ||| 2 ^ x.1) 0))
  | none => 0

/-- SLOT_RESULT (R329): the last sample of the slot under way on a converter ends. Without a ready reference no slot is
converted, and only the round's timing goes on (R337). -/
def execSlotResult (adc : Bool) (codes : List (BitVec 18)) (wbPins : BitVec 24) (excf : Bool) (s : State) :
    Host.Outcome State Fault Refusal :=
  match s.sil.run adc with
  | none => s.done
  | some r =>
    if r.waitExc || r.waitIlv then s.done
    else
      let ilv := s.on (R.SIL_SCFG_ILV (s.slotIx r.slot))
      let t := s.sil.put adc none (s.sil.todo adc)
      let t1 := if ilv then t.put (!adc) none (t.todo (!adc)) else t
      let rest := t1.results.filter (fun p => p.1 != r.slot)
      if s.on R.SIL_STATUS_REFRDY then
        let i := s.slotIx r.slot
        let wb := ownPins (some (s.rd (R.SIL_SCFG_PPIN i), s.rd (R.SIL_SCFG_NPIN i))) wbPins
        let res := s.slotRes adc r codes wb excf
        let s1 : State := { s with sil := { t1 with results := (r.slot, res) :: rest } }
        let s2 := (s1.when res.ovr (·.flag R.SIL_INTSTAT_OVR)).seenWb wb
        ((s2.when excf (·.fault R.SIL_INTSTAT_EXCF 1 r.slot)).roundGo).done
      else ({ s with sil := { t1 with results := (r.slot, .unconverted) :: rest } }.roundGo).done

/-- SIL_SWAP (R332): a swap of slot banks is asked for the next round start; a second request before it is ignored. -/
def execSilSwap (s : State) : Host.Outcome State Fault Refusal :=
  ({ s with sil := { s.sil with swapReq := true } }.wr R.SIL_CTL_SWAP 1).done

/-! ### Reference buffer, clamps and calibration requests (R323, R337, R338) -/

/-- A regular sample is in progress on a converter: its slot has settled, and neither an injected conversion nor a calibration run
has the converter (R334, R335, R338). -/
def State.sampling (s : State) (adc : Bool) : Bool :=
  match s.sil.run adc with
  | some r => !r.waitExc && !r.waitIlv && s.on R.SIL_STATUS_REFRDY
      && !s.on (if adc then R.SIL_STATUS_INJ1 else R.SIL_STATUS_INJ0) && !s.on (if adc then R.SIL_STATUS_CAL1 else R.SIL_STATUS_CAL0)
      && decide (r.start + 40 + 200 * s.rd (R.SIL_SCFG_SETTLE (s.slotIx r.slot)) ≤ s.clk.ticks)
  | none => false

/-- A calibration run that waits starts when the reference is ready, no other run is on, and the converter has no injected
conversion; it aborts the regular sample in progress (R337, R338). -/
def State.calStart (s : State) : State :=
  if s.on R.SIL_STATUS_REFRDY && !s.on R.SIL_STATUS_CAL0 && !s.on R.SIL_STATUS_CAL1 then
    let go (t : State) (adc : Bool) : State :=
      if t.on (if adc then R.SIL_STATUS_INJ1 else R.SIL_STATUS_INJ0) then t
      else
        let t1 := t.when (t.sampling adc) (·.bump R.SIL_ABORTS_ABORT 1)
        let t2 := { t1 with sil := { t1.sil with calPend := t1.sil.calPend &&& (if adc then 1 else 2), calAt := t1.clk.ticks } }.wr
          (if adc then R.SIL_STATUS_CAL1 else R.SIL_STATUS_CAL0) 1
        t2.switch
    if s.sil.calPend.getLsbD 0 then go s false else if s.sil.calPend.getLsbD 1 then go s true else s
  else s

/-- A calibration run is asked for (R338). -/
def State.calAsk (s : State) (adc : Bool) : State :=
  ({ s with sil := { s.sil with calPend := s.sil.calPend ||| (if adc then 2 else 1) } } : State).calStart

/-- A calibration run waits or runs. -/
def State.calPending (s : State) : Bool := s.sil.calPend != 0 || s.on R.SIL_STATUS_CAL0 || s.on R.SIL_STATUS_CAL1

/-- REFEN_WRITE (R337): a write of SIL_CTL.REFEN; clearing it is refused while the tilt loop or a calibration needs it. -/
def execRefenWrite (v : Bool) (s : State) : Host.Outcome State Fault Refusal :=
  let tl := s.rd R.TNN_STATUS_TLMODE
  if v then
    if s.on R.SIL_CTL_REFEN then s.done
    else ({ s with sil := { s.sil with refWait := true } }.wr R.SIL_CTL_REFEN 1).done
  else if tl = 1 || tl = 2 || s.calPending then (s.refuse R.SIL_INTSTAT_BADCFG).done
  else (({ s with sil := { s.sil with refWait := false } }.wr R.SIL_CTL_REFEN 0).wr R.SIL_STATUS_REFRDY 0).done

/-- REFRDY (R337): 5 ms after REFEN was set the reference is ready. -/
def execRefrdy (s : State) : Host.Outcome State Fault Refusal :=
  if s.on R.SIL_CTL_REFEN && s.sil.refWait then
    ((({ s with sil := { s.sil with refWait := false } }.wr R.SIL_STATUS_REFRDY 1).flag R.SIL_INTSTAT_REFRDY).calStart).done
  else s.done

/-- REFLOSS (R337): HK_REF deviates; REFRDY returns only when REFEN is cleared and set again. -/
def execRefloss (s : State) : Host.Outcome State Fault Refusal :=
  if s.on R.SIL_STATUS_REFRDY then ((s.wr R.SIL_STATUS_REFRDY 0).fault R.SIL_INTSTAT_REFLOSS 3 0).done else s.done

/-- PIN_CLAMP (R323): a clamp conducts more than 50 uA; the runs under way are marked. -/
def execPinClamp (p : Fin 24) (s : State) : Host.Outcome State Fault Refusal :=
  let m : BitVec 24 := BitVec.ofNat 24 (2 ^ p.val)
  let mark (r : Option SlotRun) : Option SlotRun :=
    r.map (fun x => if (SlotRun.live r).isSome then { x with clamp := x.clamp ||| m } else x)
  let s1 : State := { s with sil := { s.sil with run0 := mark s.sil.run0, run1 := mark s.sil.run1 } }
  ((s1.wr R.SIL_PINCLAMP_PIN (s1.rd R.SIL_PINCLAMP_PIN ||| m.toNat)).fault R.SIL_INTSTAT_CLAMP 1 p.val).done

/-! ### Thermal sensors and levels (R340 to R346) -/

/-- A sensor's record. -/
def State.sensor (s : State) (i : Nat) : ThmSensor := mapGet { last := none, bad := 0 } s.thm.sensors i

/-- A reading is valid (R341): inside -60 to +150 degrees and within 20 degrees of the previous valid one. -/
def ThmSensor.accepts (t : ThmSensor) (v : Int) : Bool :=
  decide (-480 ≤ v) && decide (v ≤ 1200) && (match t.last with | some l => decide ((v - l).natAbs ≤ 160) | none => true)

/-- One sensor is latched at a tick. -/
def State.latchSensor (s : State) (i : Nat) (raw : BitVec 12) : State :=
  let v := raw.toInt
  let t := s.sensor i
  let ok := t.accepts v && !s.on (R.THM_SENS_FAILED i)
  let t1 : ThmSensor := if ok then { last := some v, bad := 0 } else { t with bad := t.bad + 1 }
  let s1 : State := { s with thm := { s.thm with sensors := mapSet { last := none, bad := 0 } s.thm.sensors i t1 } }
  (s1.wr (R.THM_SENS_T i) raw.toNat).wrB (R.THM_SENS_VALID i) ok

/-- The package reading is latched by the same rule (R340, R341); it takes part in nothing. -/
def State.latchPkg (s : State) (raw : BitVec 12) : State :=
  let t := s.sensor 28
  let ok := t.accepts raw.toInt
  let t1 : ThmSensor := if ok then { last := some raw.toInt, bad := 0 } else { t with bad := t.bad + 1 }
  let s1 : State := { s with thm := { s.thm with sensors := mapSet { last := none, bad := 0 } s.thm.sensors 28 t1 } }
  (s1.wr R.THM_PKG_T raw.toNat).wrB R.THM_PKG_VALID ok

/-- SENSFAIL (R341): a sensor invalid at 3 consecutive ticks has failed. -/
def execSensfail (i : Fin 28) (s : State) : Host.Outcome State Fault Refusal :=
  if 3 ≤ (s.sensor i.val).bad && !s.on (R.THM_SENS_FAILED i.val) then
    ((s.wr (R.THM_SENS_FAILED i.val) 1).fault R.THM_INTSTAT_SENSFAIL 3 i.val).done
  else s.done

/-- The largest valid reading of the sensors of a class; none without a valid one. -/
def State.classMax (s : State) (lo n : Nat) : Option Int :=
  ((List.range n).filter (fun i => s.on (R.THM_SENS_VALID (lo + i)))).foldl (fun m i =>
    let v := s.rdS (R.THM_SENS_T (lo + i))
    match m with | none => some v | some x => some (max x v)) none

/-- Thresholds of a class as they act, in 0.125 degrees: a value above its default acts as the default (R342). -/
def State.thr (s : State) (hbm : Bool) : Int × Int × Int :=
  if hbm then (8 * min (s.rd R.THM_HTHR_WARN) 85, 8 * min (s.rd R.THM_HTHR_THROT) 92, 8 * min (s.rd R.THM_HTHR_SHUT) 100)
  else (8 * min (s.rd R.THM_LTHR_WARN) 95, 8 * min (s.rd R.THM_LTHR_THROT) 105, 8 * min (s.rd R.THM_LTHR_SHUT) 115)

/-- Level and hold count of a class after a tick (R343); the step down itself is THROTTLE_STEP_DOWN. -/
def levelTick (thr mx : Int) (lvl hold : Nat) : Nat × Nat :=
  if thr ≤ mx then (min 3 (lvl + 1), 0) else if mx < thr - 40 then (lvl, hold + 1) else (lvl, 0)

/-- L follows the levels; a rise and a return to 0 are flagged (R343). -/
def State.setLevels (s : State) (l h : Nat) : State :=
  let old := s.throttle
  let new := max l h
  let s1 := ((s.wr R.THM_LEVELS_LLVL l).wr R.THM_LEVELS_HLVL h).wr R.THM_STATUS_LEVEL new
  if old < new then s1.fault R.THM_INTSTAT_THROTTLE 1 0
  else if new = 0 && old != 0 then s1.flag R.THM_INTSTAT_UNTHROT
  else s1

/-- THROTTLE_STEP_DOWN (R343): a class has stood 5 degrees below its threshold for DWELL ticks. -/
def execThrottleStepDown (hbm : Bool) (s : State) : Host.Outcome State Fault Refusal :=
  let dwell := max 1 (s.rd R.THM_DWELL_DWELL)
  let t := s.thm
  if dwell ≤ (if hbm then t.holdH else t.holdL) then
    let t1 := if hbm then { t with lvlH := t.lvlH - 1, holdH := 0 } else { t with lvlL := t.lvlL - 1, holdL := 0 }
    (({ s with thm := t1 } : State).setLevels (if hbm then s.rd R.THM_LEVELS_LLVL else t1.lvlL)
      (if hbm then t1.lvlH else s.rd R.THM_LEVELS_HLVL)).done
  else s.done

/-- The warning flag of a class (R342). -/
def State.warnTick (s : State) (f : Fld) (warn : Int) (mx : Option Int) : State :=
  match mx with
  | none => s
  | some m =>
    if warn ≤ m && !s.on f then (s.wr f 1).fault R.THM_INTSTAT_WARN 1 0
    else if m < warn - 40 then s.wr f 0
    else s

/-- The lifetime counters of R469 at a thermal tick. -/
def State.lifeTick (s : State) (l h : Option Int) : State :=
  let f := s.flt
  let lv := l.getD 0
  let hv := h.getD 0
  let n := f.nTicks + 1
  let ms := f.hotMs + (if 760 < lv then clampN 1 16 (s.rd R.SIL_ROUND_PERIOD) else 0)
  let low := match f.lowL with | some x => min x lv | none => lv
  let cyc := low + 800 ≤ lv
  let f1 : FltState := { f with sumL := f.sumL + lv, sumH := f.sumH + hv, nTicks := n, hotMs := ms % 1000
                                lowL := some (if cyc then lv else low) }
  let s1 := ({ s with flt := f1 } : State).bump R.FLT_HOTSEC_SEC (ms / 1000)
  let s2 := (s1.wrS R.FLT_TJAVG_T (divRound f1.sumL n)).wrS R.FLT_THAVG_T (divRound f1.sumH n)
  if cyc then s2.bump R.FLT_TCYC_CNT 1 else s2

/-- The clocks of every block but the clock plant, Truss and the thermal sensors stop: the journal's write queue is drained,
HBM goes into self-refresh, the torque port falls quiet, and the PCIe function answers configuration requests with retry
status (R344). -/
def State.gateClocks (s : State) : State :=
  { s with boot := { s.boot with gated := true, selfRef := true }, tnn := { s.tnn with portQuiet := true }
           jnl := { s.jnl with wq := 0 } }

/-- A shutdown tick (R344). -/
def State.shutdown (s : State) : State :=
  if s.thm.shut then s
  else
    let s1 := ({ s with thm := { s.thm with shut := true } } : State).wr R.THM_STATUS_SHUT 1
    ((s1.fault R.THM_INTSTAT_SHUTDOWN 3 0).trussFault 0x0203 0).gateClocks

/-- A tick during a shutdown (R345): HBM is abandoned at 105 degrees; below both restart thresholds a full reset starts. -/
def State.shutTick (s : State) (l h : Option Int) : State :=
  let s1 := if s.on R.THM_STATUS_HBMLOST then s
    else match h with
      | some v => if 840 ≤ v then (s.wr R.THM_STATUS_HBMLOST 1).fault R.THM_INTSTAT_HBMLOST 3 0 else s
      | none => s
  match l, h with
  | some a, some b =>
    if a < (s1.thr false).1 - 40 && b < (s1.thr true).1 - 40 then
      let s2 := ({ s1 with thm := { s1.thm with shut := false } } : State).wr R.THM_STATUS_SHUT 0
      (s2.reportFree 2 0xFF 0 0).fullReset 6
    else s1
  | _, _ => s1

/-- The thermal part of a tick (R340 to R345). -/
def State.thermalTick (s : State) (temps : List (BitVec 12)) (pkg : BitVec 12) : State :=
  let s1 := (List.range 28).foldl (fun (t : State) i => t.latchSensor i (temps.getD i 0)) s
  let s2 := s1.latchPkg pkg
  let l := s2.classMax 0 24
  let h := s2.classMax 24 4
  let s3 := (s2.wrS R.THM_STATUS_LMAX (l.getD (s2.rdS R.THM_STATUS_LMAX))).wrS R.THM_STATUS_HMAX
    (h.getD (s2.rdS R.THM_STATUS_HMAX))
  let tl := s3.thr false
  let th := s3.thr true
  let s4 := ((s3.lifeTick l h).warnTick R.THM_STATUS_LWARN tl.1 l).warnTick R.THM_STATUS_HWARN th.1 h
  if s4.thm.shut then s4.shutTick l h
  else
    match l, h with
    | some a, some b =>
      if tl.2.2 ≤ a || th.2.2 ≤ b then s4.shutdown
      else
        let t := s4.thm
        let (ll, cl) := levelTick tl.2.1 a t.lvlL t.holdL
        let (lh, ch) := levelTick th.2.1 b t.lvlH t.holdH
        let nL := ((List.range 24).filter (fun i => s4.on (R.THM_SENS_VALID i))).length
        let nH := ((List.range 4).filter (fun i => s4.on (R.THM_SENS_VALID (24 + i)))).length
        let s5 : State := { s4 with thm := { t with lvlL := ll, holdL := cl, lvlH := lh, holdH := ch } }
        let s6 := s5.setLevels (if nL < 20 then 3 else ll) (if nH < 4 then 3 else lh)
        if 1 ≤ s6.throttle then s6.bump R.THM_THROTRND_CNT 1 else s6
    | _, _ => s4.shutdown

end Sys2Proof.Machine
end

