-- ==== Sys2Proof/Machine/PlumbOps.lean ====
section
/-!
DEFINITION. Plumb's runs, sets and ramps (R350 to R367).
-/
namespace Sys2Proof.Machine

/-- A change of Plumb's own record. -/
def State.onPlb (s : State) (f : PlbState → PlbState) : State := { s with plb := f s.plb }

/-- The next number of a kind: 16 bits, 0 skipped (R350). -/
def setNext (n : Nat) : Nat := if (n + 1) % 65536 = 0 then 1 else (n + 1) % 65536

/-! ### Runs (R351) -/

/-- Readings of sensors from `i` up, in 0.125 degrees. -/
def State.sensors (s : State) (i n : Nat) : List Int := (List.range n).map (fun k => s.rdS (R.THM_SENS_T (i + k)))

/-- A code-density run starts: TDCs that stamped fewer ambient events than AMBMIN in the last run are driven by the pulser
(R355). -/
def State.startCd (s : State) : State :=
  let quota (t : Nat) : Bool :=
    let ticks := mapGet 0 s.plb.took t
    ticks != 0 && decide (s.rd R.PLB_CDSRC_AMBMIN * 1000 * ticks ≤ mapGet 0 s.plb.ambient t * 200000000)
  let pulsed := (List.range 1056).filter (fun t => !quota t)
  (s.onPlb (fun p => { p with counts := [], doneTdc := [], newFine := [], ambient := [], cdStart := s.clk.ticks, pulsed := pulsed
                              took := [], tempCd := s.sensors 0 8, cfgCd := some s.cdCfgNow })).wr R.PLB_STATUS_CDBUSY 1

/-- A run of a kind starts, if the kind is enabled; a trigger during a run is merged into it (R351). -/
def State.startRun (s : State) (k : Nat) : State :=
  if k = 1 then
    if s.on R.PLB_CTL_CDEN && !s.on R.PLB_STATUS_CDBUSY then s.startCd else s
  else if k = 3 then
    if s.on R.PLB_CTL_WFEN && !s.on R.PLB_STATUS_WFBUSY then
      (s.onPlb (fun p => { p with tempWf := s.sensors 20 4, cfgWf := some s.wfCfgNow })).wr R.PLB_STATUS_WFBUSY 1
    else s
  else if k = 4 then
    if s.on R.PLB_CTL_HKEN && !s.on R.PLB_STATUS_HKBUSY then
      (((s.onPlb (fun p => { p with tempHk := some (s.rdS R.THM_PKG_T), hkBad := false })).wr R.PLB_STATUS_HKBUSY 1).calAsk false).calAsk
        true
    else s
  else s

/-- A write of PLB_CTL: a kind runs only while it is enabled, so a run that collects ends without a set when its enable is cleared
(R351). -/
def State.plbCtl (s : State) (v : Nat) : State :=
  let s1 := s.when (!v.testBit 0 && s.on R.PLB_STATUS_CDBUSY) (fun t =>
    (t.onPlb (fun p => { p with counts := [], doneTdc := [], newFine := [], ambient := [], took := [] })).wr R.PLB_STATUS_CDBUSY 0)
  let s2 := s1.when (!v.testBit 2) (·.wr R.PLB_STATUS_WFBUSY 0)
  s2.when (!v.testBit 3) (fun t => ({ t with sil := { t.sil with calPend := 0 } } : State).wr R.PLB_STATUS_HKBUSY 0)

/-- The largest change of the valid sensors of a group since its last run, in 0.125 degrees. -/
def State.moved (s : State) (i : Nat) (old : List Int) : Nat :=
  (old.zipIdx.map (fun x => if s.on (R.THM_SENS_VALID (i + x.2)) then (s.rdS (R.THM_SENS_T (i + x.2)) - x.1).natAbs else 0)).foldl
    max 0

/-- A temperature trigger: DTEMP degrees, 0 for none (R351). -/
def dtempHit (dtemp moved : Nat) : Bool := dtemp != 0 && decide (8 * dtemp ≤ moved)

/-- The temperature triggers at a thermal tick (R351). -/
def State.tempTriggers (s : State) : State :=
  let s1 := if dtempHit s.cdCfg.dtemp (s.moved 0 s.plb.tempCd) then s.startRun 1 else s
  let s2 := if dtempHit s1.wfCfg.dtemp (s1.moved 20 s1.plb.tempWf) then s1.startRun 3 else s1
  match s2.plb.tempHk with
  | some t =>
    if s2.on R.THM_PKG_VALID && dtempHit (s2.rd R.PLB_HKCFG_DTEMP) (s2.rdS R.THM_PKG_T - t).natAbs then s2.startRun 4 else s2
  | none => s2

/-! ### Kind 1: code density (R356) -/

/-- A fine table from counts: entry[k] in 1/16 LSB. -/
def fineEntries (n : List Nat) : List Int :=
  let tot := max 1 n.sum
  (List.range 32).map (fun k => roundEven (512 * (2 * ((n.take k).sum : Int) + (n.getD k 0 : Int))) (2 * tot))

/-- DNL in 1/16 LSB, to nearest. -/
def dnlOf (n : List Nat) : Nat :=
  let tot := max 1 n.sum
  ((List.range 32).map (fun k => (divRound ((512 * (n.getD k 0) : Nat) - (16 * tot : Nat) : Int).natAbs tot).toNat)).foldl max 0

/-- INL in 1/16 LSB. -/
def inlOf (e : List Int) : Nat := ((List.range 32).map (fun k => (e.getD k 0 - (16 * (k : Int) + 8)).natAbs)).foldl max 0

/-- Some tap is narrower than 0.25 LSB or wider than 2.5 LSB. -/
def tapsBad (n : List Nat) : Bool :=
  (List.range 32).any (fun k => decide (512 * n.getD k 0 < 4 * n.sum) || decide (40 * n.sum < 512 * n.getD k 0))

/-- A TDC has done collecting. -/
def State.cdDone (s : State) (t : Nat) : State :=
  s.onPlb (fun p => { p with doneTdc := t :: p.doneTdc, took := mapIns (mapErase p.took t) t (s.clk.ticks - p.cdStart) })

/-- A TDC fails the run (R356): it keeps its table and is declared failed. -/
def State.cdFail (s : State) (t : Nat) : State :=
  let s1 := ((s.wr (R.PLB_CDQ_FAIL t) 1).fault R.PLB_INTSTAT_CDFAIL 1 t).cdDone t
  if t < 1024 then s1.tdcFailed t false else s1.spareFailed (t - 1024)

/-- Where a TDC's events came from (R355, PLB_CDQ.SRC). -/
def State.cdSource (s : State) (t : Nat) : Nat :=
  if s.plb.pulsed.contains t then (if mapGet 0 s.plb.ambient t = 0 then 2 else 3) else 1

/-- A TDC's counts are complete: its table joins the set (R356). -/
def State.cdTake (s : State) (t : Nat) (n : List Nat) : State :=
  let e := fineEntries n
  let s1 := (((s.wr (R.PLB_CDQ_DNL t) (min 255 (dnlOf n))).wr (R.PLB_CDQ_INL t) (min 255 (inlOf e))).wr (R.PLB_CDQ_SRC t)
    (s.cdSource t)).wr (R.PLB_CDQ_FAIL t) 0
  (s1.cdDone t).onPlb (fun p => { p with newFine := mapIns (mapErase p.newFine t) t e })

/-- PLB_CDWORST of a run that has ended: the largest DNL with its TDC, the lowest of equal ones, and the largest INL. -/
def State.cdWorst (s : State) : State :=
  let ts := s.plb.newFine.map (·.1)
  let w := ts.foldl (fun (a : Nat × Nat) t => if a.1 < s.rd (R.PLB_CDQ_DNL t) then (s.rd (R.PLB_CDQ_DNL t), t) else a) (0, ts.headD 0)
  ((s.wr R.PLB_CDWORST_DNL w.1).wr R.PLB_CDWORST_TDC w.2).wr R.PLB_CDWORST_INL ((ts.map (fun t => s.rd (R.PLB_CDQ_INL t))).foldl max 0)

/-- The run ends once every TDC has its table or has failed: the set is made and waits for its ramp (R350, R356, R367). -/
def State.cdFinish (s : State) : State :=
  if s.plb.doneTdc.length < 1056 then s
  else
    let n := s.plb.nextCd
    let s1 := s.cdWorst.onPlb (fun p => { p with waitCd := some { set := n, vals := p.newFine, ready := s.nowLsb }, nextCd := setNext n
                                                 counts := [], doneTdc := [], newFine := [] })
    ((s1.wr R.PLB_SETCD_CD n).wr R.PLB_STATUS_CDBUSY 0).flag R.PLB_INTSTAT_CDDONE

/-! ### Kind 2: range zero (R359) -/

/-- The mean of samples without the highest and the lowest eighth. -/
def trimmedMean (l : List Rat) : Rat :=
  let ins (a : Rat) : List Rat → List Rat := fun r => (r.takeWhile (fun b => decide (b < a))) ++ a :: (r.dropWhile (fun b => decide (b < a)))
  let sorted := l.foldl (fun r a => ins a r) []
  let n := l.length
  let mid := (sorted.drop (n / 8)).take (n - 2 * (n / 8))
  mid.sum / (max 1 mid.length : Nat)

/-- A rational rounded to the nearest integer, ties to even. -/
def roundQ (q : Rat) : Int := roundEven q.num q.den

/-- ZAVG as it acts. -/
def State.zavg (s : State) : Nat := max 16 (s.rd R.PLB_RZCFG_ZAVG)

/-- dz estimate of a group in 1/16 LSB; none without a sample. -/
def State.dzEstimate (s : State) (g : Nat) : Option Int :=
  match (mapGet [] s.plb.drift g).take s.zavg with
  | [] => none
  | l => some (roundQ (16 * trimmedMean l))

/-- The term that a group stands at, or is on its way to. -/
def State.dzTarget (s : State) (g : Nat) : Int :=
  let pick (l : List (Nat × List Int)) : Option Int := (l.find? (fun p => p.1 == g)).map (fun p => p.2.headD 0)
  match s.plb.waitRz.bind (fun w => pick w.vals), s.plb.rampRz.bind (fun r => pick r.new) with
  | some v, _ => v
  | none, some v => v
  | none, none => mapGet 0 s.plb.dzNow g

/-- A range-zero set covers every group whose estimate has moved by ZSTEP or more (R359). -/
def State.rzCheck (s : State) : State :=
  let step := max 1 (s.rd R.PLB_RZCFG_ZSTEP)
  let vals := (List.range 32).filterMap (fun g => match s.dzEstimate g with
    | some e => if step ≤ (e - s.dzTarget g).natAbs then some (g, [e]) else none
    | none => none)
  if vals.isEmpty || !s.on R.PLB_CTL_RZEN then s
  else
    let n := s.plb.nextRz
    let s1 := s.onPlb (fun p => { p with waitRz := some { set := n, vals := vals, ready := s.nowLsb }, nextRz := setNext n })
    (s1.wr R.PLB_SETCD_RZ n).flag R.PLB_INTSTAT_RZDONE

/-- A class 8 record reaches Plumb: a drift sample of its channel's group (R359). -/
def State.driftSample (s : State) (b : Burst) (range : Nat) : State :=
  let pos := (s.sight b.epoch b.row b.col).refPos
  match fExact (s.chanCal b).z, s.on R.PLB_CTL_RZEN && s.on R.BTN_CTL_REFCHK with
  | none, _ | _, false => s
  | some z, true =>
    let g := b.channel / 32
    let d : Rat := (range : Rat) * 10000 / 146383 + z - (8 * pos : Nat)
    let l := (d :: mapGet [] s.plb.drift g).take 1023
    let s1 := s.onPlb (fun p => { p with drift := mapSet [] p.drift g l, noRef := p.noRef.filter (· != g) })
    (s1.wr (R.PLB_RZDZ_NSAMP g) (min l.length s.zavg)).rzCheck

/-! ### Ramps (R352, R353) -/

/-- Step s of a ramp of one value. -/
def rampValue (old new : Int) (s len : Nat) : Int := roundEven (old * (len : Int) + (new - old) * (s : Int)) (max 1 len)

/-- The values of a ramp at its present step. -/
def Ramp.values (r : Ramp) : List (Nat × List Int) :=
  r.new.map (fun p => (p.1, p.2.zipIdx.map (fun x => rampValue ((mapGet [] r.old p.1).getD x.2 0) x.1 r.step r.len)))

/-- Fine tables come into force. -/
def State.setFine (s : State) (vals : List (Nat × List Int)) : State :=
  { s with krf := { s.krf with fine := vals.foldl (fun m p => mapIns (mapErase m p.1) p.1 (p.2.map Int.toNat)) s.krf.fine } }

/-- Drift terms come into force (R359, PLB_RZDZ). -/
def State.setDz (s : State) (vals : List (Nat × List Int)) : State :=
  vals.foldl (fun t p => (t.onPlb (fun q => { q with dzNow := mapSet 0 q.dzNow p.1 (p.2.headD 0) })).wrS (R.PLB_RZDZ_DZ p.1)
    (p.2.headD 0)) s

/-- The fine table in force for a TDC. -/
def State.fineNow (s : State) (t : Nat) : List Int := (List.range 32).map (fun k => Int.ofNat (s.fineOf t k))

/-- A ramp of kind 1 starts from the tables in force. -/
def State.newRamp (s : State) (cd : Bool) (w : CalSet) : Ramp :=
  { set := w.set, len := max 1 (s.rd R.PLB_RZCFG_RAMPFR), step := 0, new := w.vals
    old := w.vals.map (fun p => (p.1, if cd then s.fineNow p.1 else [mapGet 0 s.plb.dzNow p.1])) }

/-- PLB_STATUS.STORED: some TDC stands on a reinstated table. -/
def State.showStored (s : State) : State := s.wrB R.PLB_STATUS_STORED (!s.plb.onStored.isEmpty)

/-- The values of a ramp come into force. -/
def State.applyRamp (s : State) (cd : Bool) (vals : List (Nat × List Int)) : State :=
  if cd then
    ((s.setFine vals).onPlb (fun p =>
      { p with made := p.made ++ (vals.map (·.1)).filter (fun t => !p.made.contains t)
               onStored := p.onStored.filter (fun t => !vals.any (·.1 == t)) })).showStored
  else s.setDz vals

/-- The ramp of a kind after a step. -/
def State.putRamp (s : State) (cd : Bool) (r : Option Ramp) : State :=
  (s.onPlb (fun p => if cd then { p with rampCd := r } else { p with rampRz := r })).wrB
    (if cd then R.PLB_STATUS_CDRAMP else R.PLB_STATUS_RZRAMP) r.isSome

/-- One step of a ramp at a frame start, with the markers of its first and last step. -/
def State.rampStep (s : State) (cd : Bool) (r : Ramp) : State :=
  let r1 : Ramp := { r with step := r.step + 1 }
  let kind := if cd then 1 else 2
  let s1 := s.applyRamp cd r1.values
  let s2 := s1.when (r1.step == 1) (·.markCal kind r.set true false r.len)
  if r1.len ≤ r1.step then (s2.markCal kind r.set false true r.len).putRamp cd none else s2.putRamp cd (some r1)

/-- A kind at a frame start: the running ramp steps, or a set that has been ready for 1 ms starts its ramp (R352, R367). -/
def State.rampFrame (s : State) (cd : Bool) : State :=
  match if cd then s.plb.rampCd else s.plb.rampRz with
  | some r => s.rampStep cd r
  | none =>
    match if cd then s.plb.waitCd else s.plb.waitRz with
    | some w =>
      if w.ready + 102400000 ≤ s.nowLsb then
        (s.onPlb (fun p => if cd then { p with waitCd := none } else { p with waitRz := none })).rampStep cd (s.newRamp cd w)
      else s
    | none => s

/-- Plumb at a frame start: ramps, markers due after a reset, and a newly loaded channel calibration table (R352, R361,
R366). -/
def State.plbFrame (s : State) : State :=
  let s1 := if s.peg.scanning then
      (s.plb.markDue.foldl (fun (t : State) m => t.markCal m.1 m.2 false true 0) s).onPlb (fun p => { p with markDue := [] })
    else s
  let s2 := (s1.rampFrame true).rampFrame false
  match s2.plb.chanNew with
  | some (a, t) => if t + 102400000 ≤ s2.nowLsb then s2.onPlb (fun p => { p with chanAddr := a, chanNew := none }) else s2
  | none => s2

/-- At stage ARM after a full reset an interrupted ramp goes to its target at once; its marker is due at the first scanned
frame (R366). -/
def State.plbArm (s : State) : State :=
  let go (t : State) (cd : Bool) : State :=
    match if cd then t.plb.rampCd else t.plb.rampRz with
    | some r =>
      ((t.applyRamp cd r.new).putRamp cd none).onPlb (fun p => { p with markDue := p.markDue ++ [(if cd then 1 else 2, r.set)] })
    | none => t
  go (go s true) false

/-! ### Stored sets (R365) -/

/-- A set's values over older ones. -/
def setOver {α : Type} (l new : List (Nat × α)) : List (Nat × α) := new.foldl (fun m p => mapIns (mapErase m p.1) p.1 p.2) l

/-- The values of the last set of a ramped kind: those in force, under those that ramp or wait. -/
def lastSet (l : List (Nat × List Int)) (r : Option Ramp) (w : Option CalSet) : List (Nat × List Int) :=
  setOver (setOver l ((r.map (·.new)).getD [])) ((w.map (·.vals)).getD [])

/-- The last set of each kind is saved as the stored calibration set (R365). -/
def State.storeSets (s : State) : State :=
  s.onPlb (fun p =>
    { p with storedCd := lastSet (s.krf.fine.map (fun q => (q.1, q.2.map Int.ofNat))) p.rampCd p.waitCd
             storedRz := (lastSet (p.dzNow.map (fun q => (q.1, [q.2]))) p.rampRz p.waitRz).map (fun q => (q.1, q.2.headD 0))
             storedWf := p.lastWf, storedHk := p.lastHk })

/-- The corrections of a converter bank, and of the SAR converters. -/
def State.wfBank (s : State) (act : Bool) : List (Nat × Int × Int × Int) :=
  let bank := 32 * act.toNat
  (List.range 32).map (fun i => (i, s.rdS (R.WFP_CORA_OFS (bank + i)), s.rdS (R.WFP_CORA_GAIN (bank + i)), s.rdS (R.WFP_CORB_SKEW (bank + i))))
def State.hkNow (s : State) : List (Nat × Int × Int) :=
  (List.range 2).map (fun i => (i, s.rdS (R.SIL_COROFS_OFS i), s.rdS (R.SIL_CORGAIN_GAIN i)))

/-- Corrections come into force in the active bank, and in the SAR converters. -/
def State.putWf (s : State) (l : List (Nat × Int × Int × Int)) : State :=
  let bank := 32 * (s.on R.WFP_CTL_CORBANK).toNat
  (l.foldl (fun (t : State) c => ((t.wrS (R.WFP_CORA_OFS (bank + c.1)) c.2.1).wrS (R.WFP_CORA_GAIN (bank + c.1)) c.2.2.1).wrS
    (R.WFP_CORB_SKEW (bank + c.1)) c.2.2.2) s).onPlb (fun p => { p with lastWf := l })
def State.putHk (s : State) (l : List (Nat × Int × Int)) : State :=
  (l.foldl (fun (t : State) c => (t.wrS (R.SIL_COROFS_OFS c.1) c.2.1).wrS (R.SIL_CORGAIN_GAIN c.1) c.2.2) s).onPlb
    (fun p => { p with lastHk := l })

/-- A kind 5 marker (R349, R353). -/
def State.mark5 (s : State) : State :=
  (s.markCal 5 s.plb.next5 true true 0).onPlb (fun p => { p with next5 := setNext p.next5 })

/-- Sets, terms and drift samples that have survived a full reset show in the registers again (R366); an interleave set whose bank
swap the reset has overtaken takes effect now, with its marker (R353). DEDUCED (log 164): a surviving set goes back into force as
it was, without a marker of kind 5. -/
def State.calSurvivors (s : State) : State :=
  let s1 := s.when (!s.plb.lastWf.isEmpty) (fun t => t.putWf t.plb.lastWf)
  let s2 := s1.when (!s1.plb.lastHk.isEmpty) (fun t => t.putHk t.plb.lastHk)
  let s3 := match s2.plb.wfDue with
    | some n => (s2.onPlb (fun p => { p with wfDue := none })).markCal 3 n true true 0
    | none => s2
  let s4 := s3.plb.dzNow.foldl (fun (t : State) p => t.wrS (R.PLB_RZDZ_DZ p.1) p.2) s3
  (s4.plb.drift.foldl (fun (t : State) p => t.wr (R.PLB_RZDZ_NSAMP p.1) (min p.2.length t.zavg)) s4).showStored

/-- Stage CALIBRATE begins: kinds 1, 3 and 4 run, and the stored range-zero terms are reinstated (R365). -/
def State.calStage (s : State) : State :=
  let s1 := ((s.calSurvivors.startRun 1).startRun 3).startRun 4
  if s1.plb.storedRz.isEmpty || !s1.plb.dzNow.isEmpty then s1
  else (s1.setDz (s1.plb.storedRz.map (fun p => (p.1, [p.2])))).mark5

/-- Stage CALIBRATE ends: a kind that has not completed in it, disabled or still running, is reinstated from the stored set, unless
a set of its own stands (R365, R366). -/
def State.calReinstate (s : State) : State :=
  let cd := s.plb.storedCd.filter (fun p => !s.krf.fine.any (fun q => q.1 == p.1))
  let open_ (en busy : Fld) (t : State) : Bool := !t.on en || t.on busy
  let s1 := if open_ R.PLB_CTL_CDEN R.PLB_STATUS_CDBUSY s && s.plb.waitCd.isNone && !cd.isEmpty then
      ((s.setFine cd).onPlb (fun p => { p with onStored := cd.map (·.1) })).showStored.mark5 else s
  let s2 := if open_ R.PLB_CTL_WFEN R.PLB_STATUS_WFBUSY s1 && s1.plb.lastWf.isEmpty && !s1.plb.storedWf.isEmpty then
      (s1.putWf s1.plb.storedWf).mark5 else s1
  if open_ R.PLB_CTL_HKEN R.PLB_STATUS_HKBUSY s2 && s2.plb.lastHk.isEmpty && !s2.plb.storedHk.isEmpty then
    (s2.putHk s2.plb.storedHk).mark5
  else s2

end Sys2Proof.Machine
end

