-- ==== Sys2Proof/Machine/JoistOps.lean ====
section
/-!
DEFINITION. Joist's dispatch units (R193, R199, R211 to R215) and what follows when the journal commits (R201, R257, R280,
R359).
-/
namespace Sys2Proof.Machine

/-! ### The journal settles -/

/-- Whatever has its place is committed, and the records accepted reach the lookback integrator and Dog (R230, R257, R280). -/
def State.settleJnl (s : State) : State :=
  let (s1, l) := s.drain
  l.foldl (fun t h => (t.lbkCover h).dogPoints h) s1

/-- A burst ends without a record (R230). -/
def State.endBurst (s : State) (num : Nat) : State := (s.dropBurst num).settleJnl

/-! ### Epochs and banks -/

/-- An epoch is held: a burst that carries it is not resolved, or a fire of it is pending (R22). -/
def State.epochHeld (s : State) (e : Nat) : Bool :=
  s.peg.bursts.any (fun b => b.epoch == e) || s.btn.fires.any (fun f => f.epoch == e)
    || s.jnl.handed.any (fun h => h.epoch == e)

/-- Some epoch older than the active one is held. -/
def State.olderHeld (s : State) : Bool :=
  s.peg.epochs.any (fun p => p.1 != s.peg.active && s.hif.accepted.all (fun a => a.1 != p.1) && s.epochHeld p.1)

/-- A program bank is free (R210): no older epoch holds one, and no accepted epoch waits with its set in one. -/
def State.bankFree (s : State) : Bool := !s.olderHeld && s.hif.accepted.isNone

/-- JST_SETINFO and JST_STATUS of the active set. -/
def State.setInfo (s : State) : State :=
  let p := s.setOf s.peg.active
  ((s.wr R.JST_SETINFO_BMAX p.bmax).wr R.JST_SETINFO_SLOTS (p.slots.map (fun x => 2 ^ x.1)).sum).wr R.JST_STATUS_ACTEPOCH s.peg.active

/-- A proven set is written into the inactive banks, or waits for one (R210). -/
def State.bankWrite (s : State) (p : ProgSet) : State :=
  if s.bankFree then
    (((({ s with jst := { s.jst with waiting := none, staged := some p } } : State).wr R.JST_STATUS_LOADBUSY 0).wr
      R.JST_STATUS_STGVALID 1).flag R.JST_INTSTAT_SETREADY)
  else ({ s with jst := { s.jst with waiting := some p } } : State).wr R.JST_STATUS_LOADBUSY 1

/-! ### Substitution (R214, R215) -/

/-- The spare is taken. -/
def State.spareTaken (s : State) : Bool := s.jst.subFor.isSome || s.jst.subAt.isSome

/-- The spare is to take over a cluster 2 us ahead. -/
def State.substitute (s : State) (c : Nat) : State :=
  { s with jst := { s.jst with subAt := some (c, s.nowLsb + 204800) } }

/-- A cluster meets R214: the spare substitutes, or NOSPARE is set while it is taken by another. -/
def State.needSpare (s : State) (c : Nat) : State :=
  if !s.on R.JST_CTL_AUTOSUB || c = 32 || s.jst.subFor = some c || (s.jst.subAt.map (·.1)) = some c then s
  else if s.spareTaken then s.fault R.JST_INTSTAT_NOSPARE 3 c
  else s.substitute c

/-- MINENG as it acts (R217). -/
def State.minEng (s : State) : Nat := clampN 1 32 (s.rd R.JST_CLCFG_MINENG)

/-! ### Dispatch (R193, R199) -/

/-- The cluster that serves a burst's item; an item that a cluster-level fault has taken from its cluster is the spare's (R214). -/
def State.servesFor (s : State) (b : Burst) : Nat :=
  if b.spareCl then 32 else s.serving (b.channel / 32) (presentLsb b.closeLsb)

/-- The lowest-numbered free engine in service of a cluster. -/
def State.freeEngine (s : State) (c : Nat) : Option Nat :=
  (clusterEngines c).find? (fun e => (s.engine e).inService && (s.engine e).burst.isNone)

/-- RFLAGS (R199), from what the close found. -/
def Burst.rflagsFor (b : Burst) (spareCl : Bool) : BitVec 16 := if b.spare || spareCl then b.rflags ||| 8 else b.rflags

/-- An item starts on an engine: the dispatch unit copies it into the engine's local memory, and the program starts 20 ns later
(R193). -/
def State.startItem (s : State) (b : Burst) (e : Nat) : State :=
  let sp := decide (1024 ≤ e)
  let y : Burst := { b with stage := .running, engine := some e, spareCl := sp, rflags := b.rflagsFor sp }
  ((s.setBurst b.num (fun _ => y)).setEngine e (fun x =>
    { x with burst := some b.num, item := y.item e, port := []
             started := max s.nowLsb (presentLsb b.closeLsb) + 2048 })).bump R.JST_ITEMS_CNT 1

/-- A burst ends without a record by R212 or R215. -/
def State.dropItem (s : State) (b : Burst) : State :=
  ((((s.bump R.JST_DROPITEM_CNT 1).fault R.JST_INTSTAT_DROPITEM 3 b.channel).tallyDropped b.frame)).endBurst b.num

/-- A faulted engine leaves the ledger, for good if it has faulted within REFAULT hours (R213). -/
def State.engineOut (s : State) (e : Nat) : State :=
  let x := s.engine e
  let hours := s.rd R.JST_RETEST_REFAULT
  let again := hours = 0 || (match x.lastFail with
    | some t => decide (s.clk.ticks < t + hours * 720000000000)
    | none => false)
  let s1 := s.setEngine e (fun x => { x with burst := none, testing := !again, out := again, lastFail := some s.clk.ticks })
  let s2 := (s1.bump (R.JST_CLSTAT_FAULTS (e / 32)) 1).clusterRegs (e / 32)
  s2.when again (·.fault R.JST_INTSTAT_ENGOUT 2 e)

/-- A faulted item is presented again to an engine of its cluster, or of the spare after a cluster-level fault; without re-runs, or
if it faults again, its burst ends (R212 to R214). What it now holds back in the journal is counted (R230). -/
def State.reRun (s : State) (num : Nat) (spare : Bool) : State :=
  match s.burst num with
  | none => s
  | some b =>
    if s.on R.JST_CTL_RERUNEN && !b.rerun then
      let y : Burst := { b with rerun := true, stage := .waiting, engine := none, spareCl := spare }
      let s1 := ((s.bump R.JST_RERUN_CNT 1).setBurst num (fun _ => y)).countHeld
      match s1.freeEngine (s1.servesFor y) with
      | some e => s1.startItem y e
      | none => (s1.bump R.JST_LATE_CNT 1).fault R.JST_INTSTAT_LATE 1 b.channel
    else s.dropItem b

/-- An engine fault (R211 to R214). -/
def State.engineFault (s : State) (e : Nat) (inj : Bool) : State :=
  let item := (s.engine e).burst
  let s1 := ((s.faultInj R.JST_INTSTAT_ENGFAULT 2 e inj).engineOut e)
  let s2 := if s1.inSvc (e / 32) < s1.minEng then s1.needSpare (e / 32) else s1
  match item with
  | some n => s2.reRun n (decide (1024 ≤ e))
  | none => s2

/-- An injected engine fault acts at the engine's next work item (R467). -/
def State.injected (s : State) (e : Nat) : State :=
  if s.flt.injEngines.contains e then
    ({ s with flt := { s.flt with injEngines := s.flt.injEngines.filter (· != e) } } : State).engineFault e true
  else s

/-- A work item is presented (R193, R215): it takes the lowest-numbered free engine; a burst that the ledger granted without an
engine ends without a record. -/
def State.dispatch (s : State) (num : Nat) : State :=
  match s.burst num with
  | none => s
  | some b =>
    if !b.booked then s.dropItem b
    else
      match s.freeEngine (s.servesFor b) with
      | some e => (s.startItem b e).injected e
      | none => s.setBurst num (fun b => { b with stage := .waiting })

/-- The oldest waiting item of a cluster takes an engine that has become free (R213). -/
def State.dispatchWaiting (s : State) (c : Nat) : State :=
  match s.peg.bursts.find? (fun b => b.stage == .waiting && s.servesFor b == c), s.freeEngine c with
  | some b, some e => (s.startItem b e).injected e
  | _, _ => s

/-- A cluster-level fault (R214): its running items are run again on the spare. -/
def State.clusterFault (s : State) (c : Nat) (inj : Bool) : State :=
  let s0 := if inj then s.reportInj 7 0xFF 2 c else s.reportFree 7 0xFF 2 c
  let s1 : State := { s0 with jst := { s0.jst with clFault := if s0.jst.clFault.contains c then s0.jst.clFault else c :: s0.jst.clFault } }
  let s2 := s1.needSpare c
  let spare := s2.jst.subFor = some c || (s2.jst.subAt.map (·.1)) = some c
  (clusterEngines c).foldl (fun t e => match (t.engine e).burst with
    | some n => (t.setEngine e (fun x => { x with burst := none })).reRun n spare
    | none => t) s2

/-! ### Access under Girt (R216) -/

/-- The cluster whose access table a cluster has: its own; the spare has that of the cluster it substitutes for, and none while
idle. -/
def State.tableOf (s : State) (c : Nat) : Option Nat := if c = 32 then s.jst.subFor else some c

/-- The slice of Joist cluster memory that an address lies in: 248 MiB each, for clusters 0 to 32; the region's last 8 MiB belong
to none. DEDUCED (log 135): the slices start where the region of R19 starts. -/
def State.clusterSlice (s : State) (addr : Nat) : Option Nat :=
  let base := s.fwu.alloc.cluster.1
  let c := (addr - base) / 260046848
  if base ≤ addr && decide (c < 33) then some c else none

/-- A cluster may reach an HBM address: it reads the slice of the cluster whose table it has, and the firmware, calibration and
tables region; it writes nothing. -/
def State.clusterMay (s : State) (c addr : Nat) (write : Bool) : Bool :=
  match s.tableOf c with
  | none => false
  | some t =>
    let fw := s.fwu.alloc.firmware
    !write && (s.clusterSlice addr == some t || (decide (fw.1 ≤ addr) && decide (addr < fw.1 + fw.2)))

/-- An access of a cluster's master to HBM: what its table does not hold is refused and logged. The spec gives the cluster masters
no number (log 135). -/
def State.clusterAccess (s : State) (c addr : Nat) (write : Bool) : State :=
  if s.clusterMay c addr write then s else s.girtDenyHbm (Config.clusterMaster c % 16) addr write

/-! ### Hand-over (R200, R201, R222) -/

/-- Classes 9 to 14 become 15 (R222). -/
def fixClass (body : BitVec 96) : BitVec 96 :=
  let k := bits body.toNat 44 4
  if 9 ≤ k && k ≤ 14 then body ||| BitVec.ofNat 96 (15 * 2 ^ 44) else body

/-- A body has a class from 9 to 14. -/
def badClass (body : BitVec 96) : Bool := decide (9 ≤ bits body.toNat 44 4) && decide (bits body.toNat 44 4 ≤ 14)

/-- The flags of a record: RFLAGS, with bit 4 for a backlog-only window (R183, R200). -/
def Burst.recFlags (b : Burst) (win : Option Nat) : BitVec 16 :=
  match win.bind (fun i => b.windows[i]?) with
  | some w => if w.direct then b.rflags else b.rflags ||| 16
  | none => b.rflags

/-- The root LSB of a burst's last valid shot (R280). -/
def Burst.lastShot (b : Burst) : Nat :=
  b.epoch0 + (((List.range b.k).filter b.valid).map (fun j => b.fires.getD j 0)).foldl max 0

/-- A reference burst's outcome reaches Batten: a return within 5 ns of REFPOS, or a miss (R120). -/
def State.refResult (s : State) (b : Burst) (range : Option Nat) : State :=
  let pos := (s.sight b.epoch b.row b.col).refPos
  let z : Rat := (fExact (s.chanCal b).z).getD 0
  let hit := match range with
    | some r =>
      let d : Rat := (r : Rat) * 10000 / 146383 + z - (8 * pos : Nat)
      decide (-512 ≤ d) && decide (d ≤ 512)
    | none => false
  s.setProof b.num (fun p => { p with back := some hit })

/-- The records of an item, each with its window (R200, R201, R207). The standard set's records are those of R207 and R208; a
host-supplied program's are what it wrote. A burst with no valid shot gives none (R139). -/
def State.itemRecords (s : State) (b : Burst) (word : Word) (recs : List (BitVec 96)) : List (BitVec 96 × Option Nat) :=
  let p := s.setOf b.epoch
  let slot := s.slotFor b
  if b.allVoid then []
  else if p.standard && (b.kind == .reference || slot = 0) then
    if b.kind == .reference then s.stdRef b else s.stdScan b p.params
  else
    let win (i : Nat) : Option Nat :=
      let c := bits word.toNat (4 + 3 * i) 3
      if c < 4 then some c else none
    (List.range (min 4 (bits word.toNat 0 3))).map (fun i => (recs.getD i 0, win i))

/-- A commit word is valid: N at most 4, and no window code from 5 to 7 (R201). -/
def commitOk (word : Word) : Bool :=
  decide (bits word.toNat 0 3 ≤ 4) && (List.range 4).all (fun i => decide (bits word.toNat (4 + 3 * i) 3 ≤ 4))

/-- Records are handed to the journal port (R200, R201, R222): the burst waits for its place, and class 8 records reach Batten
and Plumb. -/
def State.handOver (s : State) (b : Burst) (rs : List (BitVec 96 × Option Nat)) : State :=
  let bad := (rs.filter (fun r => badClass r.1)).length
  let recs : List Rec := rs.map (fun r =>
    { stream := 0, seq := 0, time := b.closeT, body := fixClass r.1, flags := b.recFlags r.2 })
  let h : Handed :=
    { burst := b.num, instant := b.closeLsb, channel := b.channel, order := b.num, epoch := b.epoch, frame := b.frame
      fLast := b.lastShot, recs := recs, held := false }
  let s1 := (s.setBurst b.num (fun b => { b with stage := .handed, engine := none })).when (bad != 0) (·.bump R.JNL_BADCLS_CNT bad)
  let s3 := ({ s1 with jnl := { s1.jnl with handed := s1.jnl.handed ++ [h] } } : State).countHeld
  let eight := (recs.filter (fun r => bits r.body.toNat 44 4 == 8)).map (fun r => bits r.body.toNat 0 24)
  let s4 := eight.foldl (fun t r => t.driftSample b r) s3
  if b.kind == .reference then s4.refResult b eight.head? else s4

end Sys2Proof.Machine
end

