-- ==== Sys2Proof/Machine/TrussRows.lean ====
section
/-!
DEFINITION. The commands of Truss (R290 to R318): the key window, holds and ARM checks, watched conditions, the exposure
monitor's periodic work, safety inputs and outputs, lock-out release, the limp window and the budget banks.
-/
namespace Sys2Proof.Machine

/-! ### Key window (R292) -/

/-- The first key word. -/
def keyWord1 : Nat := 0x54525553

/-- The second key word. -/
def keyWord2 : Nat := 0xABADAAAC

/-- The window closes and any sequence ends. -/
def State.keyClose (s : State) : State := (s.wr R.TRS_STATE_KEYOPEN 0).onTrs (fun t => { t with keySeq := false })

/-- A write of TRS_KEY. -/
def State.keyWrite (s : State) (v : Nat) : State :=
  if v = keyWord1 then s.onTrs (fun t => { t with keySeq := true })
  else if v = keyWord2 && s.trs.keySeq then (s.wr R.TRS_STATE_KEYOPEN 1).onTrs (fun t => { t with keySeq := false })
  else if v = 0 then s.keyClose
  else (s.keyClose.flag R.TRS_INTSTAT_KEYFAIL).trsReport 0x0502 0

/-- TRS_KEY (R292): a write of TRS_KEY. -/
def execTrsKey (v : Word) (s : State) : Host.Outcome State Fault Refusal := (s.keyWrite v.toNat).done

/-- KEY_WINDOW_EXPIRY (R292): 5 s after it was opened or renewed, the window closes. -/
def execKeyWindowExpiry (s : State) : Host.Outcome State Fault Refusal := (s.wr R.TRS_STATE_KEYOPEN 0).done

/-- KEY_SEQUENCE_EXPIRY (R292): a sequence ends without effect. -/
def execKeySequenceExpiry (s : State) : Host.Outcome State Fault Refusal :=
  (s.onTrs (fun t => { t with keySeq := false })).done

/-! ### Holds and ARM checks (R295, R296) -/

/-- A write of TRS_CTL.DARKREQ: setting it raises the hold; clearing it lifts the hold, after ARM checks where R293 asks for
them, and starts them where R296 does. -/
def State.darkreqWrite (s : State) (v : Bool) : State :=
  let s1 := s.wrB R.TRS_CTL_DARKREQ v
  if v then (s1.onTrs (fun t => { t with darkHold := true, armDue := if t.armDue == .darkreq then .none else t.armDue })).trsEval 0x0011
  else if !s1.trs.darkHold then s1
  else if s1.trsState = 3 || s1.trsState = 4 then
    (s1.onTrs (fun t => { t with darkHold := false, rwkUnder := false })).trsEval 0
  else if s1.trs.rwkUnder then s1.onTrs (fun t => { t with armDue := .darkreq })
  else if s1.trs.rwkSince then (s1.onTrs (fun t => { t with darkHold := false, armDue := .darkreq })).trsEval 0
  else (s1.onTrs (fun t => { t with darkHold := false })).trsEval 0

/-- DARKREQ (R295): a write of TRS_CTL.DARKREQ. -/
def execDarkreq (v : Bool) (s : State) : Host.Outcome State Fault Refusal := (s.darkreqWrite v).done

/-- ARM_CHECKS (R296): checks that a release or a lifted DARKREQ hold started end. -/
def execArmChecks (fb : Bool) (s : State) : Host.Outcome State Fault Refusal :=
  if s.trs.armDue = .release || s.trs.armDue = .darkreq then (s.armResult fb).done else s.done

/-- DARK_N_RELEASE (R304): the minimum low time has run; DARK_N goes high if light is permitted. -/
def execDarkNRelease (s : State) : Host.Outcome State Fault Refusal :=
  if s.trs.darkRel && s.lightOk then (s.darkHigh.trsMarker s.trsState 0).done else s.done

/-- HUSH_WITHDRAWAL (R295): the request is withdrawn unless a hold or fault cancelled that; only then RESUME goes out. -/
def execHushWithdrawal (s : State) : Host.Outcome State Fault Refusal :=
  if s.trs.withdraw && s.trs.hushReq && s.lightOk then
    (s.onTrs (fun t => { t with hushReq := false, withdraw := false })).hushEnd.done
  else s.done

/-- HUSHGEN_REPEAT (R113): 1 us passes while the request stands. -/
def execHushgenRepeat (s : State) : Host.Outcome State Fault Refusal :=
  if s.trs.hushReq then s.hushRepeat.done else s.done

/-! ### Watched conditions (R291, R315) -/

/-- SUPPLY_FAULT (R291): a rail leaves its window; VDD_TRS (row 15 of R34) halts Truss. -/
def execSupplyFault (i : Fin 16) (s : State) : Host.Outcome State Fault Refusal :=
  let s1 := s.wr R.TRS_SUPSTAT_INWIN (putBit (s.rd R.TRS_SUPSTAT_INWIN) i.val false)
  (if i.val = 15 then s1.trussFault 0x0303 i.val else s1.trussFault 0x0201 i.val).done

/-- SUPPLY_CLEAR (R291): a rail is back inside its window. -/
def execSupplyClear (i : Fin 16) (s : State) : Host.Outcome State Fault Refusal :=
  (s.wr R.TRS_SUPSTAT_INWIN (putBit (s.rd R.TRS_SUPSTAT_INWIN) i.val true)).done

/-- What a clock fault shows in the CLK block (R47). -/
def State.clkFaultShow (s : State) (k : ClockFaultKind) : State :=
  match k with
  | .bothPlls => ((s.wr R.CLK_STATUS_PLLALOCK 0).wr R.CLK_STATUS_PLLBLOCK 0).fault R.CLK_INTSTAT_PLLFAIL 3 0
  | _ => (s.wr R.CLK_STATUS_REFOK 0).fault R.CLK_INTSTAT_REFLOSS 3 0

/-- CLOCK_FAULT (R291): a clock fault condition arises. -/
def execClockFault (k : ClockFaultKind) (s : State) : Host.Outcome State Fault Refusal :=
  (((s.clkFaultShow k).onTrs (fun t => { t with clkFault := true })).trussFault 0x0202 0).done

/-- CLOCK_FAULT_CLEAR (R291): REFOK has read 1 for 100 us; the condition ends if a root PLL is locked. -/
def execClockFaultClear (s : State) : Host.Outcome State Fault Refusal :=
  let s1 := s.wr R.CLK_STATUS_REFOK 1
  (s1.when (s1.on R.CLK_STATUS_PLLALOCK || s1.on R.CLK_STATUS_PLLBLOCK) (·.onTrs (fun t => { t with clkFault := false }))).done

/-- HEARTBEAT (R291): the heartbeat is there. -/
def execHeartbeat (s : State) : Host.Outcome State Fault Refusal :=
  (s.onTrs (fun t => { t with hbFault := false })).done

/-- HEARTBEAT_MISSING (R315): 1 ms without heartbeat and no standby takeover. -/
def execHeartbeatMissing (s : State) : Host.Outcome State Fault Refusal :=
  ((s.onTrs (fun t => { t with hbFault := true })).trussFault 0x0205 0).done

/-- READBACK (R304): the DARK_N ball and SFB are read; a ball that differs from its commanded level more than 1 us behind the last
change of that level is a fault. -/
def execReadback (dark : Bool) (sfb : BitVec 4) (s : State) : Host.Outcome State Fault Refusal :=
  let s1 := (s.wrB R.TRS_STATE_DARKPIN dark).wr R.TRS_STATE_SFB sfb.toNat
  if dark == s1.on R.TRS_STATE_DARKCMD then (s1.onTrs (fun t => { t with darkBad := 0 })).done
  else if s.clk.porTicks ≤ s.trs.darkTick + 200 then s1.done
  else
    let s2 := s1.onTrs (fun t => { t with darkBad := t.darkBad + 1 })
    (if s.trs.darkBad = 0 then s2.trussFault 0x010A 0 else s2).done

/-- HUSH_NOT_CONFIRMED (R304): 100 ns after the request no confirmation has come. -/
def execHushNotConfirmed (s : State) : Host.Outcome State Fault Refusal :=
  if s.trs.hushReq then (s.trussFault 0x0109 0).done else s.done

/-- KNOWN_ANSWER_CHECK (R302): a wrong answer of any lane is an exposure fault. -/
def execKnownAnswerCheck (good : BitVec 32) (s : State) : Host.Outcome State Fault Refusal :=
  if good = 0xFFFFFFFF#32 then (s.onTrs (fun t => { t with kacFault := false })).done
  else ((s.onTrs (fun t => { t with kacFault := true })).trussFault 0x0108 0).done

/-- TRUSS_SCRUB (R290): the scrub of Truss memory ends. -/
def execTrussScrub (found : ScrubFind) (s : State) : Host.Outcome State Fault Refusal :=
  match found with
  | .clean => (s.onTrs (fun t => { t with memFault := false })).done
  | .exposure => ((s.onTrs (fun t => { t with memFault := true })).trussFault 0x0107 0).done
  | .other => (s.trussFault 0x0302 0).done

/-- LOCKSTEP_MISMATCH (R315). -/
def execLockstepMismatch (s : State) : Host.Outcome State Fault Refusal := (s.trussFault 0x0301 0).done

/-- ROOT_WATCHDOG (R460): the watchdog of the root domain stops light and outputs by its own path and latches HALT. The
spec states no cause code for the marker of this latch. -/
def execRootWatchdog (s : State) : Host.Outcome State Fault Refusal :=
  let s1 := (s.onTrs (fun t => { t with wdog := true, limp := [] })).report 0x25 1 4 0 (Config.freeDetail 0x25 1 0)
  (if s.trsState = 4 then s1.trsEval 0 else s1.setTrs 4 (Config.wdogCause % 65536) 0).done

/-! ### Exposure monitor (R299) -/

/-- BUCKET_ROLLOVER (R299): a sixteenth of W1 or of W2 ends. -/
def execBucketRollover (w2 : Bool) (s : State) : Host.Outcome State Fault Refusal :=
  let live (l : List (Nat × Accum)) : List (Nat × Accum) :=
    (l.map (fun p => (p.1, p.2.roll))).filter (fun p => p.2.done.any (· != 0))
  (s.onTrs (fun t =>
    if w2 then { t with acc2 := live t.acc2, prime2 := t.prime2 - 1 }
    else { t with acc1 := live t.acc1, prime1 := t.prime1 - 1 })).done

/-! ### Safety inputs (R306 to R310) -/

/-- One sample of an unused pair: either leg high for 1 ms is logged (R306). -/
def State.sampleUnused (s : State) (k : Nat) (a b : Bool) : State :=
  let n := if a || b then (s.input k).unusedHi + 1 else 0
  let s1 := s.setInput k (fun i => { i with unusedHi := n })
  if n = 100 then s1.trsReport 0x0505 k else s1

/-- One sample of a used pair: a leg counts samples at a level not yet accepted, and one at the old level restarts it
(R307). -/
def State.sampleUsed (s : State) (k : Nat) (a b : Bool) : State :=
  s.setInput k (fun i =>
    { i with cntA := if a == s.on (R.TRS_INSTAT_ALVL k) then 0 else i.cntA + 1,
             cntB := if b == s.on (R.TRS_INSTAT_BLVL k) then 0 else i.cntB + 1 })

/-- INPUT_SAMPLE (R306): the 10 us sample of all pairs. -/
def execInputSample (a b : BitVec 8) (s : State) : Host.Outcome State Fault Refusal :=
  ((List.range 8).foldl (fun t k =>
    if t.rd (R.TRS_INCFG_MODE k) = 0 then t.sampleUnused k (a.getLsbD k) (b.getLsbD k)
    else t.sampleUsed k (a.getLsbD k) (b.getLsbD k)) s).done

/-- FILT as it acts, in samples of 10 us (R307, R321). -/
def State.filtSamples (s : State) (k : Nat) : Nat := 10 * clampN 1 200 (s.rd (R.TRS_INCFG_FILT k))

/-- A channel stands at its closed level (R306): leg B of an antivalent pair is closed when low. -/
def State.legClosed (s : State) (k : Nat) (legB : Bool) : Bool :=
  if legB then s.on (R.TRS_INSTAT_BLVL k) == (s.rd (R.TRS_INCFG_MODE k) != 2) else s.on (R.TRS_INSTAT_ALVL k)

/-- An input enters FAULT (R308, R309). -/
def State.inputFault (s : State) (k cause : Nat) : State :=
  if s.rd (R.TRS_INSTAT_STATE k) = 2 then s
  else
    let s1 := (s.wr (R.TRS_INSTAT_STATE k) 2).setInput k (fun i =>
      { i with disc := 0, bothOpen := !s.legClosed k false && !s.legClosed k true })
    ((s1.flag R.TRS_INTSTAT_INFAULT).trsReport cause k).trsEval cause

/-- An accepted opening of a leg (R308, R310). -/
def State.inputOpens (s : State) (k : Nat) : State :=
  let both := !s.legClosed k false && !s.legClosed k true
  let st := s.rd (R.TRS_INSTAT_STATE k)
  if st = 0 then
    ((s.wr (R.TRS_INSTAT_STATE k) 1).setInput k (fun i => { i with disc := if both then 0 else 1 })).trsEval 0x0020
  else if both then s.setInput k (fun i => { i with disc := 0, bothOpen := st == 2 || i.bothOpen })
  else s

/-- An accepted closing of a leg (R308, R310). The second closing within DISC of the first closes the input; in FAULT only
after both channels have been open together. -/
def State.inputCloses (s : State) (k : Nat) : State :=
  let st := s.rd (R.TRS_INSTAT_STATE k)
  let i := s.input k
  if s.legClosed k false && s.legClosed k true then
    if i.disc = 2 && (st = 1 || (st = 2 && i.bothOpen)) then
      ((s.wr (R.TRS_INSTAT_STATE k) 0).setInput k (fun i => { i with disc := 0, bothOpen := false })).trsEval 0x0021
    else s
  else if i.disc = 0 then s.setInput k (fun i => { i with disc := 2 })
  else s

/-- Chatter: CHATN accepted changes within CHATT ms (R309). -/
def State.inputChatter (s : State) (k : Nat) : State :=
  let n := s.rd (R.TRS_INCHAT_CHATN k)
  let win := 200000 * max 1 (s.rd (R.TRS_INCHAT_CHATT k))
  let now := s.clk.porTicks
  let l := ((now :: (s.input k).changes).filter (fun t => decide (now ≤ t + win))).take 255
  let s1 := s.setInput k (fun i => { i with changes := l })
  if n != 0 && decide (n ≤ l.length) then s1.inputFault k 0x0023 else s1

/-- INPUT_LEVEL_ACCEPTED (R308): a leg's new level is accepted once it has been seen in every sample for FILT. -/
def execInputLevelAccepted (k : Fin 8) (legB : Bool) (s : State) : Host.Outcome State Fault Refusal :=
  let k := k.val
  let n := if legB then (s.input k).cntB else (s.input k).cntA
  if s.rd (R.TRS_INCFG_MODE k) = 0 || n < s.filtSamples k then s.done
  else
    let f := if legB then R.TRS_INSTAT_BLVL k else R.TRS_INSTAT_ALVL k
    let s1 := (s.wrB f (!s.on f)).setInput k (fun i =>
      if legB then { i with cntB := 0 } else { i with cntA := 0 })
    let s2 := if s1.legClosed k legB then s1.inputCloses k else s1.inputOpens k
    (s2.inputChatter k).done

/-- DISCREPANCY (R308): the timer expires before the second channel follows. -/
def execDiscrepancy (k : Fin 8) (s : State) : Host.Outcome State Fault Refusal :=
  let k := k.val
  if (s.input k).disc = 0 then s.done
  else if s.rd (R.TRS_INSTAT_STATE k) = 2 then (s.setInput k (fun i => { i with disc := 0, bothOpen := false })).done
  else (s.inputFault k 0x0022).done

/-! ### Safety outputs (R311 to R314) -/

/-- OFF_PULSE (R313): an enabled output that is commanded high is driven low for OPW. -/
def execOffPulse (k : Fin 4) (s : State) : Host.Outcome State Fault Refusal :=
  if s.on (R.TRS_SOUTCFG_EN k.val) && s.soutCmd.testBit k.val then (s.emit (.soutPulse k.val)).done else s.done

/-- FEEDBACK_CHECK (R313): the feedback must read the output's level; two samples in a row that disagree are an output
fault, and the output is forced low. -/
def execFeedbackCheck (k : Fin 4) (level pulse : Bool) (s : State) : Host.Outcome State Fault Refusal :=
  let k := k.val
  let want := s.soutCmd.testBit k && !pulse
  let s1 := s.wr R.TRS_STATE_SFB (putBit (s.rd R.TRS_STATE_SFB) k level)
  let n := if level == want then 0 else mapGet 0 s.trs.fbBad k + 1
  let s2 := s1.onTrs (fun t => { t with fbBad := mapSet 0 t.fbBad k n })
  if s.on (R.TRS_SOUTCFG_EN k) then
    if n = 2 then
      ((s2.onTrs (fun t => { t with outFault := t.outFault ||| BitVec.ofNat 4 (2 ^ k) })).trussFault 0x0204 k).done
    else s2.done
  else s1.done

/-! ### SRESET_N, release and restart (R312, R317) -/

/-- A release attempt is refused (R317). -/
def State.releaseRefused (s : State) : State :=
  ((s.bump R.TRS_RWKREJ_RELREF 1).flag R.TRS_INTSTAT_RELREF).trsReport 0x0503 0

/-- A restart edge: outputs that wait for it and whose inputs are closed may go high again (R312). -/
def State.restartEdge (s : State) : State :=
  let m := (List.range 4).foldl (fun m k => if s.trs.restart.getLsbD k && s.inputsFor k then putBit m k true else m) 0
  if m = 0 then s
  else (s.onTrs (fun t => { t with restart := t.restart &&& ~~~(BitVec.ofNat 4 m) })).trsEval 0x0024

/-- SRESET_N_RISE (R317): inside a key window a release attempt, outside one a restart edge. -/
def execSresetNRise (lowUs : Nat) (s : State) : Host.Outcome State Fault Refusal :=
  let good := decide (100000 ≤ lowUs) && decide (lowUs ≤ 5000000)
  if s.on R.TRS_STATE_KEYOPEN then
    if good && s.trsState == 3 && !s.condStands then
      (s.keyClose.onTrs (fun t => { t with armDue := .release, outFault := 0 })).done
    else s.releaseRefused.done
  else if good then s.restartEdge.done
  else s.done

/-- SRESET_N_STUCK (R312): a low of more than 5 s is logged. -/
def execSresetNStuck (s : State) : Host.Outcome State Fault Refusal := (s.trsReport 0x0504 0).done

/-! ### Limp window (R316) -/

/-- The limp window is not shorter than CLEART: one that is always ends in LOCKOUT (R316). -/
def State.limpLong (s : State) : Bool :=
  decide (clampN 10 1000 (s.rd R.TRS_LIMPCFG_CLEART) ≤ 100 * clampN 1 50 (s.rd R.TRS_LIMPCFG_LIMPT))

/-- LIMP_RECOVERY (R316): every fault of the window has been absent for CLEART. -/
def execLimpRecovery (s : State) : Host.Outcome State Fault Refusal :=
  if s.trsState = 2 && s.limpLong && s.trs.limp.all s.limpAbsent then
    ((s.onTrs (fun t => { t with limp := [], outFault := 0 })).setTrs 1 0x0404 0).done
  else s.done

/-- LIMP_WINDOW_EXPIRY (R316): the window ends first. -/
def execLimpWindowExpiry (s : State) : Host.Outcome State Fault Refusal :=
  if s.trsState = 2 then
    (((s.onTrs (fun t => { t with limp := [] })).trsReport 0x0405 0).setTrs 3 0x0405 0).done
  else s.done

/-! ### Budget banks (R298, R301) -/

/-- The entries of a table in HBM, or none if one of them fails its checks. -/
def State.readBudget (s : State) (addr : Nat) : Nat → Option (List BudEntry)
  | 0 => some []
  | n + 1 =>
    match BudEntry.parse (s.hbmBytes addr 16), s.readBudget (addr + 16) n with
    | some e, some l => some (e :: l)
    | _, _ => none

/-- A load of the inactive bank (R298). -/
def State.budLoad (s : State) : State :=
  let n := s.rd R.TRS_BUDCFG_NDIR
  let addr := s.rd R.TRS_BUDADDRLO_ADDR + 2 ^ 32 * s.rd R.TRS_BUDADDRHI_ADDR
  let good := match s.readBudget addr n with
    | some l => if BudBank.absorber { ndir := n, entries := l } (s.rd R.TRS_EXPCFG_ABSDIR) then some l else none
    | none => none
  match good with
  | some l =>
    let b : BudBank := { ndir := n, entries := l }
    let s1 := s.onTrs (fun t => if s.on R.TRS_BUDCFG_ACTBANK then { t with bankA := b } else { t with bankB := b })
    ((s1.wr R.TRS_BUDCFG_STGOK 1).wr R.TRS_BUDCFG_STGBAD 0).flag R.TRS_INTSTAT_BUDSTG
  | none => ((s.wr R.TRS_BUDCFG_STGOK 0).wr R.TRS_BUDCFG_STGBAD 1).fault R.TRS_INTSTAT_BUDBAD 4 0

/-- BUDLOAD (R298): an RWK command bit; outside a key window a refused RWK write. -/
def execBudload (s : State) : Host.Outcome State Fault Refusal :=
  if s.on R.TRS_STATE_KEYOPEN then (s.budLoad.onTrs (fun t => { t with rwkSince := true })).done
  else (s.rwkReject 0x280004).done

/-- An accumulator with its primed buckets written out at one sixteenth of a limit, rounded up (R301). -/
def Accum.fix (a : Accum) (prime lim : Nat) : Accum :=
  { a with done := (a.done.take (16 - prime) ++ List.replicate (16 - prime - a.done.length) 0
      ++ List.replicate prime ((lim + 15) / 16)) }

/-- The limit of a direction before a swap, or after it where the old bank has no such direction. -/
def limitOf (old new : BudBank) (d : Nat) (g : BudEntry → Nat) : Nat :=
  match old.entries[d]? with
  | some e => g e
  | none => match new.entries[d]? with | some e => g e | none => 0

/-- A swap leaves the sums as they stand: what stood at one sixteenth of a limit stays at that amount (R301). -/
def State.fixSums (s : State) (old new : BudBank) : State :=
  if old.ndir = 0 then s
  else
    s.onTrs (fun t =>
      let f (l : List (Nat × Accum)) (prime : Nat) (g : BudEntry → Nat) : List (Nat × Accum) :=
        (List.range (max old.ndir new.ndir)).foldl (fun m d =>
          mapSet .zero m d ((mapGet .zero m d).fix prime (limitOf old new d g))) l
      { t with acc1 := if t.prime1 = 0 then t.acc1 else f t.acc1 t.prime1 (·.lim1),
               acc2 := if t.prime2 = 0 then t.acc2 else f t.acc2 t.prime2 (fun e => 256 * e.lim2),
               prime1 := 0, prime2 := 0 })

/-- A swap of the budget banks (R298). -/
def State.budSwap (s : State) : State :=
  let old := s.budBank
  let s1 := (s.wrB R.TRS_BUDCFG_ACTBANK (!s.on R.TRS_BUDCFG_ACTBANK)).wr R.TRS_BUDCFG_STGOK 0
  (s1.fixSums old s1.budBank).onTrs (fun t => { t with rwkSince := true, rwkUnder := t.rwkUnder || t.darkHold })

/-- BUDSWAP (R298): accepted inside a key window and under R293; a swap while STGOK is 0 is refused. -/
def execBudswap (s : State) : Host.Outcome State Fault Refusal :=
  if !s.on R.TRS_STATE_KEYOPEN || !s.rwkStateOk then (s.rwkReject 0x280004).done
  else if !s.on R.TRS_BUDCFG_STGOK then (s.fault R.TRS_INTSTAT_BUDBAD 4 0).done
  else s.budSwap.done

end Sys2Proof.Machine
end

