-- ==== Sys2Proof/Machine/HbmRead.lean ====
section
/-!
DEFINITION. Reads of HBM that find a wrong word (R452 to R454, R458): correction, row bookkeeping, and what an uncorrectable word
does in each region.
-/
namespace Sys2Proof.Machine

/-- A change of the fault log unit's own record. -/
def State.onFlt (s : State) (f : FltState → FltState) : State := { s with flt := f s.flt }

/-- The stack of an HBM word (R20). -/
def stackOf (w : Nat) : Nat := w / 8 % 4

/-- A word lies in a region. -/
def inRegion (r : Nat × Nat) (w : Nat) : Bool := decide (r.1 ≤ 32 * w) && decide (32 * w < r.1 + r.2)

/-- Number of wrong symbols in an HBM word. -/
def State.wrong (s : State) (w : Nat) : Nat := mapGet 0 s.flt.badWords w

/-- A report on HBM: injected where an injection made the word wrong (R467). -/
def State.hbmReport (s : State) (w code sev : Nat) : State :=
  if s.flt.injFound.contains w then
    (s.onFlt (fun f => { f with injFound := f.injFound.filter (· != w) })).reportInj 0x20 code sev (stackOf w)
  else s.reportFree 0x20 code sev (stackOf w)

/-- The row of a word is due for sparing; one already due is not named again (R453). -/
def State.rowNeeds (s : State) (w : Nat) : State :=
  if s.flt.rowDue.any (fun p => p.1 == Config.hbmRow w) then s
  else s.onFlt (fun f => { f with rowDue := f.rowDue ++ [(Config.hbmRow w, w)] })

/-- A corrected error in a word joins those of its row in the last SPAREWIN minutes (R453). -/
def State.rowError (s : State) (w : Nat) : State :=
  let row := Config.hbmRow w
  let win := 60 * 200000000 * max 1 (s.rd R.FLT_HBMCFG_SPAREWIN)
  let l := s.clk.ticks :: (mapGet [] s.flt.rowErrs row).filter (fun t => decide (s.clk.ticks < t + win))
  let s1 := s.onFlt (fun f => { f with rowErrs := mapSet [] f.rowErrs row l })
  s1.when (s.rd R.FLT_HBMCFG_SPARETH != 0 && decide (s.rd R.FLT_HBMCFG_SPARETH ≤ l.length)) (·.rowNeeds w)

/-- A word becomes right. -/
def State.wordRight (s : State) (w : Nat) : State := s.onFlt (fun f => { f with badWords := mapErase f.badWords w })

/-- Peg stops at once and light is put out: an HBM channel has failed, or a firmware word cannot be repaired (R458). -/
def State.hbmStop (s : State) (w : Nat) : State :=
  let s1 := (s.reportFree 0x20 5 3 (stackOf w)).darkreqWrite true
  ({ s1 with peg := { s1.peg with scanning := false, startReq := none, stopReq := false } } : State).wr R.PEG_STATUS_STATE 0

/-- The record of a journal word is lost (R239). -/
def State.recordLost (s : State) (w : Nat) : State :=
  let slot := w - s.fwu.alloc.journal.1 / 32
  if s.jnl.ring.any (fun p => p.1 == slot) then
    (({ s with jnl := { s.jnl with ring := mapErase s.jnl.ring slot } } : State).bump R.JNL_LOST_CNT 1).fault R.JNL_INTSTAT_LOST 3 0
  else s

/-- The capture entry that holds a word: its CRC is forced to fail (R454). -/
def State.entryBroken (s : State) (w : Nat) : State :=
  let o := 32 * w - s.fwu.alloc.capture.1
  match s.dog.ring.find? (fun e => decide (64 * e.offset ≤ o) && decide (o < 64 * e.offset + e.size)) with
  | some e =>
    let a := s.fwu.alloc.capture.1 + 64 * e.offset + 62
    { s with hbm := storeBytes 0 s.hbm a ((s.hbmBytes a 2).map (fun b => ~~~b)) }
  | none => s

/-- The fault log entry that holds a word is lost (R454). -/
def State.entryLost (s : State) (w : Nat) : State :=
  let slot := (32 * w - s.fwu.alloc.faultlog.1) / 64
  if s.flt.ring.any (fun e => (e.eseq - 1) % fltRingSize == slot) then
    (s.onFlt (fun f => { f with ring := f.ring.filter (fun e => (e.eseq - 1) % fltRingSize != slot) })).bump R.FLT_OVERFLOW_CNT 1
  else s

/-- A word of the firmware region lies in a table that host software loaded, which no settings record holds. -/
def State.inTable (s : State) (w : Nat) : Bool :=
  let hit (a n : Nat) : Bool := decide (a ≤ 32 * w) && decide (32 * w < a + n)
  let c := s.epochCfg s.peg.active
  (hit c.sightAddr 1048576 || hit c.rowAddr 8192 || hit c.planAddr 16384 || hit s.plb.chanAddr 1048576)
    && !s.fwu.records.any (fun r => r.1 == 6)

/-- What the reader of an uncorrectable word does, by its region (R454). -/
def State.uncorAct (s : State) (w : Nat) : State :=
  let al := s.fwu.alloc
  if inRegion al.journal w then s.recordLost w
  else if inRegion al.lookback w then
    let (n, i) := Config.hbmColumn w
    s.setFrame n (fun f => { f with cols := f.cols.mapIdx (fun k c => if k = i then { c with done := 3 } else c) })
  else if inRegion al.capture w then s.entryBroken w
  else if inRegion al.faultlog w then s.entryLost w
  else if inRegion al.cluster w then
    if s.flt.badWords.any (fun p => inRegion al.firmware p.1 && decide (2 ≤ p.2)) then
      match s.clusterSlice (32 * w) with
      | some c => s.clusterFault c false
      | none => s
    else s.wordRight w
  else if inRegion al.firmware w then (if s.inTable w then s.hbmStop w else s.wordRight w)
  else s

/-- A read meets a wrong word (R452, R454, R458): one symbol is corrected, and the scrub writes the word back; more is not
correctable. -/
def State.readWrong (s : State) (w : Nat) (scrub : Bool) : State :=
  if s.wrong w = 0 then s
  else if s.wrong w = 1 then
    let s1 := (((s.bump (R.FLT_HBMCOR_CNT (stackOf w)) 1).hbmReport w 1 2).rowError w)
    s1.when scrub (·.wordRight w)
  else
    let ch := Config.hbmChannel w
    let l := s.clk.ticks :: (mapGet [] s.flt.uncTicks ch).filter (fun t => decide (s.clk.ticks < t + 200000))
    let s1 := ((s.bump (R.FLT_HBMUNC_CNT (stackOf w)) 1).flag R.FLT_INTSTAT_UNCOR).hbmReport w 4 3
    let s2 := (s1.onFlt (fun f => { f with uncTicks := mapSet [] f.uncTicks ch l })).rowNeeds w
    (s2.uncorAct w).when (l.length == 17) (·.hbmStop w)

/-- A read of HBM words; the answer tells whether one of them was uncorrectable. -/
def State.readWords (s : State) (ws : List Nat) (scrub : Bool) : State × Bool :=
  if s.flt.badWords.isEmpty then (s, false)
  else
    let hit := s.flt.badWords.filter (fun p => ws.contains p.1)
    (hit.foldl (fun t p => t.readWrong p.1 scrub) s, hit.any (fun p => decide (2 ≤ p.2)))

/-- A byte of HBM as a read finds it (R19): committed records in the journal region, each in its slot (R233), entries of the fault log
in its ring (R465), and what has been stored elsewhere. -/
def State.viewByte (s : State) (a : Nat) : Byte :=
  let al := s.fwu.alloc
  let at' (r : Nat × Nat) : Bool := decide (r.1 ≤ a) && decide (a < r.1 + r.2)
  if hbmSize ≤ a then Config.noMemory s.fresh a
  else if at' al.journal then
    match s.jnl.ring.find? (fun p => p.1 == (a - al.journal.1) / 32) with
    | some p => p.2.bytes.getD ((a - al.journal.1) % 32) 0
    | none => s.hbmByte a
  else if at' al.faultlog then
    match s.flt.ring.find? (fun e => (e.eseq - 1) % fltRingSize == (a - al.faultlog.1) / 64) with
    | some e => e.bytes.getD ((a - al.faultlog.1) % 64) 0
    | none => s.hbmByte a
  else if at' al.lookback && !s.lbk.frames.isEmpty then Config.lookbackByte s.fresh a
  else s.hbmByte a

/-- `n` bytes of HBM from an address upwards, as a read finds them. -/
def State.viewBytes (s : State) (a n : Nat) : List Byte := (List.range n).map (fun i => s.viewByte (a + i))

/-- A read of a span of HBM, without naming each of its words. -/
def State.readSpan (s : State) (a n : Nat) : State × Bool :=
  let hit := s.flt.badWords.filter (fun p => decide (a < 32 * p.1 + 32) && decide (32 * p.1 < a + n))
  (hit.foldl (fun t p => t.readWrong p.1 false) s, hit.any (fun p => decide (2 ≤ p.2)))

end Sys2Proof.Machine
end

