-- ==== Sys2Proof/Machine/HostOps.lean ====
section
/-!
DEFINITION. What the link carries (R371 to R378, R391): when the function answers, writes to host memory, command rings and their
completions.
-/
namespace Sys2Proof.Machine

/-- A change of the host link's own record. -/
def State.onHif (s : State) (f : HifState → HifState) : State := { s with hif := f s.hif }

/-- The part answers the host beyond configuration requests: stage HOST_LINK has completed, no reset runs, and no block clocks are
gated (R59, R344). -/
def State.partUp (s : State) : Bool :=
  s.boot.linked && !s.boot.inReset && !s.boot.pornLow && s.boot.powered && !s.boot.gated && !s.fwu.recovery
    && s.rd R.HIF_STATUS_SPEED != 0

/-- BAR0 and BAR2 answer: memory space is enabled and the function is in D0. -/
def State.barOn (s : State) : Bool := s.partUp && s.hif.memOn && !s.hif.d3

/-- Purlin may issue requests (R373). -/
def State.dmaOn (s : State) : Bool := s.partUp && s.hif.busOn && !s.hif.d3

/-- Max Payload Size in bytes: 128, 256 or 512 (R370). -/
def State.maxPayload (s : State) : Nat := 128 * 2 ^ min s.hif.mps.toNat 2

/-- The writes that carry bytes to a host address: each of at most Max Payload Size, and none across a 4 KiB boundary (R397). -/
def hostPieces (mps : Nat) : Nat → Nat → List Byte → List (Nat × List Byte)
  | 0, _, _ => []
  | _, _, [] => []
  | k + 1, addr, b :: bs =>
    let n := min mps (4096 - addr % 4096)
    (addr, (b :: bs).take n) :: hostPieces mps k (addr + n) ((b :: bs).drop n)

/-- Bytes written to host memory, counted in PUR_KIB by whole KiB. -/
def State.hostWrite (s : State) (addr : Nat) (bytes : List Byte) : State :=
  let n := s.hif.bytesOut + bytes.length
  let s1 := (s.onHif (fun h => { h with bytesOut := n % 1024 })).bump R.PUR_KIB_CNT (n / 1024)
  (hostPieces s.maxPayload bytes.length addr bytes).foldl (fun t p => t.emit (.hostWrite p.1 p.2)) s1

/-- Krovent's pass bit for the entry of index `i` in a ring of 2^log2 entries: 1 on the first pass (R376). -/
def passBit (i log2 : Nat) : Nat := 1 - i / 2 ^ log2 % 2

/-- A discarded doorbell, an ignored CONSUMED or a clipped head word is counted (R374, R388, R389). -/
def State.dbBad (s : State) : State := (s.bump R.HIF_DBBAD_CNT 1).fault R.HIF_INTSTAT_DBBAD 1 0

/-! ### Command rings -/

/-- A ring with nothing in it. -/
def CmdRing.zero : CmdRing := { fetched := [], written := 0, armed := false, done := [], unread := none }

/-- The record of a command ring. -/
def State.cmdRing (s : State) (r : Nat) : CmdRing := mapGet .zero s.hif.rings r

/-- A change of it. -/
def State.setCmdRing (s : State) (r : Nat) (f : CmdRing → CmdRing) : State :=
  s.onHif (fun h => { h with rings := mapSet .zero h.rings r (f (mapGet .zero h.rings r)) })

/-- Completion codes (R378). -/
def stOk : Nat := 0
def stBadOp : Nat := 1
def stBadParam : Nat := 2
def stDmaErr : Nat := 3
def stState : Nat := 4
def stStale : Nat := 5
def stProof : Nat := 6
def stBadTable : Nat := 7
def stNoQueue : Nat := 8
def stTooSoon : Nat := 9
def stNewGen : Nat := 10
def stWedged : Nat := 12

/-- The RESULT of a completion for which the spec states none: a refused command's, above all (R378, R379). -/
def noRes : Nat := Config.noResult % 2 ^ 32

/-- The fields of a command entry (R375). -/
def cmdCid (e : BitVec 512) : Nat := bits e.toNat 0 64
def cmdOp (e : BitVec 512) : Nat := bits e.toNat 64 8
def cmdPhase (e : BitVec 512) : Nat := bits e.toNat 72 1
def cmdParam (e : BitVec 512) : Nat := bits e.toNat 80 16

/-- A field of the payload, by its first byte in the entry and its length in bytes. -/
def cmdField (e : BitVec 512) (byte n : Nat) : Nat := bits e.toNat (8 * byte) (8 * n)

/-- RESULT of a command refused or failed before its payload is known: 0 where its opcode answers nothing else (R379). -/
def failRes (e : BitVec 512) : Nat := if [1, 4, 9, 10, 11, 12].contains (cmdOp e) then 0 else noRes

/-- The reserved bits of every entry are zero, and so is every byte behind the first `used` bytes of the entry (R375, R378). -/
def cmdClean (e : BitVec 512) (used : Nat) : Bool :=
  bits e.toNat 73 7 == 0 && cmdField e 12 4 == 0 && cmdField e used (64 - used) == 0

/-- The opcodes of R379 that are not reserved. -/
def opKnown (op : Nat) : Bool := decide (1 ≤ op) && (decide (op ≤ 12) || (decide (16 ≤ op) && decide (op ≤ 19)))

/-- CRSTAT follows the ring: BUSY and OPCODE name the command at its front. -/
def State.showRing (s : State) (r : Nat) : State :=
  match (s.cmdRing r).fetched with
  | [] => (s.wr (R.HIF_CRSTAT_BUSY r) 0).wr (R.HIF_CRSTAT_OPCODE r) 0
  | e :: _ => (s.wr (R.HIF_CRSTAT_BUSY r) 1).wr (R.HIF_CRSTAT_OPCODE r) (cmdOp e)

/-- The largest CID executed on a ring (R382). -/
def State.lastCid (s : State) (r : Nat) : Nat := s.rd (R.HIF_CRLASTLO_CID r) + 2 ^ 32 * s.rd (R.HIF_CRLASTHI_CID r)

/-- The 16 bytes of a completion entry (R378). -/
def cplBytes (cid status phase result : Nat) (replay : Bool) : List Byte :=
  leBytes 8 cid ++ leBytes 2 status ++ leBytes 1 (phase + 2 * replay.toNat) ++ leBytes 1 0 ++ leBytes 4 result

/-- A ring's completion entry is written, and its message sent if armed (R376, R378, R391). -/
def State.writeCpl (s : State) (r cid status result : Nat) (replay : Bool) : State :=
  let lg := s.rd (R.HIF_CRCFG_LOG2 r)
  let i := (s.cmdRing r).written
  let base := s.rd (R.HIF_CCBASELO_ADDR r) + 2 ^ 32 * s.rd (R.HIF_CCBASEHI_ADDR r)
  let s1 := (s.hostWrite (base + 16 * (i % 2 ^ lg)) (cplBytes cid status (passBit i lg) result replay)).setCmdRing r
    (fun x => { x with written := x.written + 1 })
  let s2 := s1.when (status != 0) (·.fault R.HIF_INTSTAT_CMDERR 1 r)
  if (s.cmdRing r).armed && s.on (R.HIF_CRCFG_VECEN r) then
    (s2.setCmdRing r (fun x => { x with armed := false })).msix (s.rd (R.HIF_CRCFG_VECTOR r))
  else s2

/-- The front command leaves the ring. -/
def State.popCmd (s : State) (r : Nat) : State := (s.setCmdRing r (fun x => { x with fetched := x.fetched.drop 1 })).showRing r

/-- The execution point of the front command: its completion is retained and written (R377, R382). -/
def State.execPoint (s : State) (r cid status result : Nat) : State :=
  let s1 := s.setCmdRing r (fun x => { x with done := ((cid, status, result) :: x.done).take 64 })
  let s2 := ((s1.wr (R.HIF_CRLASTLO_CID r) (cid % 2 ^ 32)).wr (R.HIF_CRLASTHI_CID r) (cid / 2 ^ 32)).bump R.HIF_CMDS_CNT 1
  (s2.writeCpl r cid status result false).popCmd r

/-- A front command that executes nothing: CID 0, a retained CID, a stale CID, or a reserved opcode (R378, R382). -/
def State.frontTrivial (s : State) (r : Nat) (e : BitVec 512) : Option State :=
  let cid := cmdCid e
  if cid = 0 then some ((s.writeCpl r 0 stBadParam noRes false).popCmd r)
  else
    match (s.cmdRing r).done.find? (fun d => d.1 == cid) with
    | some d => some (((s.bump R.HIF_REPLAY_CNT 1).writeCpl r cid d.2.1 d.2.2 true).popCmd r)
    | none =>
      if cid ≤ s.lastCid r then some ((s.writeCpl r cid stStale noRes false).popCmd r)
      else if !opKnown (cmdOp e) then some (s.execPoint r cid stBadOp noRes)
      else none

/-- A ring runs until a command that executes stands at its front (R377). -/
def State.pumpRing (s : State) (r : Nat) : Nat → State
  | 0 => s
  | n + 1 =>
    match (s.cmdRing r).fetched with
    | [] => s
    | e :: _ =>
      match s.frontTrivial r e with
      | some t => t.pumpRing r n
      | none => s

/-- A command held on a ring before its execution point: a close that waits for room, a waiting EPOCH_COMMIT, a staging, a live
replacement or a save (R381, R388, R430, R438, R442). -/
def State.ringHeld (s : State) (r : Nat) : Bool :=
  s.hif.queues.any (fun p => p.2.closing == some r) || (s.hif.waitCommit.map (·.ring)) == some r || s.jst.loadRing == some r
    || (s.fwu.job.map (·.ring)) == some r || (s.fwu.live.map (·.ring)) == some r

/-- A ring can run: enabled, not wedged, and Purlin may write its completions. -/
def State.ringRuns (s : State) (r : Nat) : Bool := s.dmaOn && s.on (R.HIF_CRCFG_EN r) && !s.on (R.HIF_CRSTAT_WEDGED r)

/-- The command at the front of a ring, if it has the opcode and may execute now. -/
def State.frontCmd (s : State) (r op : Nat) : Option (BitVec 512) :=
  if s.ringRuns r && !s.ringHeld r then
    match (s.cmdRing r).fetched with
    | e :: _ => if cmdOp e = op then some e else none
    | [] => none
  else none

/-- The front command completes; what stands behind it may then complete without executing. -/
def State.complete (s : State) (r : Nat) (e : BitVec 512) (status result : Nat) : State :=
  let s1 := s.execPoint r (cmdCid e) status result
  s1.pumpRing r (s1.cmdRing r).fetched.length

/-- A held command completes, by its ring. -/
def State.completeHeld (s : State) (r status result : Nat) : State :=
  match (s.cmdRing r).fetched with
  | e :: _ => s.complete r e status result
  | [] => s

/-- The execution of a command of an opcode: with reserved bytes set it is refused; else its effect answers status and result. -/
def State.command (s : State) (r op used : Nat) (param : Bool) (eff : BitVec 512 → State × Nat × Nat) : State :=
  match s.frontCmd r op with
  | none => s
  | some e =>
    if cmdClean e used && (param || cmdParam e == 0) then
      let (s1, st, res) := eff e
      s1.complete r e st res
    else s.complete r e stBadParam (failRes e)

/-- Entries are fetched while their phase is the expected one; an entry not yet visible stops the fetch and is counted (R376). -/
def State.fetchCmds (s : State) (r : Nat) : Nat → List (BitVec 512) → State
  | 0, _ => s
  | n + 1, es =>
    let head := s.rd (R.HIF_CRSTAT_HEAD r)
    match es with
    | e :: rest =>
      if cmdPhase e = passBit head (s.rd (R.HIF_CRCFG_LOG2 r)) then
        ((s.wr (R.HIF_CRSTAT_HEAD r) (head + 1)).setCmdRing r (fun x => { x with fetched := x.fetched ++ [e] })).fetchCmds r n rest
      else s.bump R.HIF_CMDEARLY_CNT 1
    | [] => s.bump R.HIF_CMDEARLY_CNT 1

/-- The entries up to PI, `n` of them, are fetched, or left until requests may be issued; commands that execute nothing complete
(R373, R376, R377). -/
def State.ringFetch (s : State) (r n : Nat) (entries : List (BitVec 512)) : State :=
  let s1 :=
    if s.dmaOn then (s.setCmdRing r (fun x => { x with unread := none })).fetchCmds r n entries
    else s.setCmdRing r (fun x => { x with unread := if n = 0 then none else some (n, entries) })
  let s2 := if s1.ringRuns r && !s1.ringHeld r then s1.pumpRing r (s1.cmdRing r).fetched.length else s1
  s2.showRing r

/-- A ring is enabled: head and pass bits restart, and retained completions stay (R382, R405). A command that an earlier enabling
still holds goes on with no ring to complete on, its completion being forgotten; a waiting EPOCH_COMMIT is withdrawn. -/
def State.ringEnable (s : State) (r : Nat) : State :=
  let away (x : Nat) : Nat := if x = r then 16 else x
  let s1 := s.setCmdRing r (fun x => { CmdRing.zero with done := x.done })
  let s2 := s1.onHif (fun h =>
    { h with queues := h.queues.map (fun p => (p.1, { p.2 with closing := p.2.closing.map away }))
             waitCommit := h.waitCommit.filter (fun w => w.ring != r) })
  let s3 : State := { s2 with jst := { s2.jst with loadRing := s2.jst.loadRing.map away } }
  let s4 : State := { s3 with fwu := { s3.fwu with job := s3.fwu.job.map (fun j => { j with ring := away j.ring })
                                                   live := s3.fwu.live.map (fun j => { j with ring := away j.ring }) } }
  (s4.wr (R.HIF_CRSTAT_HEAD r) 0).showRing r

end Sys2Proof.Machine
end

