-- ==== Sys2Proof/Machine/QueueOps.lean ====
section
/-!
DEFINITION. Subscriber queues (R383 to R392): filters, queue blocks, completions and groups.
-/
namespace Sys2Proof.Machine

/-! ### Sequence numbers -/

/-- a is later than b as 48-bit serial numbers (R232). -/
def seqLater (a b : Nat) : Bool := decide (1 ≤ seqSub a b) && decide (seqSub a b ≤ 2 ^ 47 - 1)

/-- The number before n; 0 never appears (R232), but CONSUMED may read 0 before record 1. -/
def seqPrev (n : Nat) : Nat := seqSub n 1

/-! ### Filters (R384) -/

/-- A byte, and a 16-bit field, of a filter. -/
def fByte (f : List Byte) (i : Nat) : Nat := fieldAt f i 1
def fHalf (f : List Byte) (i : Nat) : Nat := fieldAt f i 2

/-- A filter is in range: reserved bytes and bits zero, and every field inside its own. -/
def filterOk (f : List Byte) : Bool :=
  decide (fByte f 0 < 8) && fByte f 1 == 0 && decide (fHalf f 4 ≤ 1023) && decide (fHalf f 6 ≤ 1023)
    && decide (fHalf f 8 ≤ 4095) && decide (fHalf f 10 ≤ 4095) && fByte f 17 == 0 && decide (fByte f 18 ≤ 2)
    && fByte f 19 == 0 && fHalf f 20 &&& 0x7E == fHalf f 20 && fieldAt f 22 10 == 0

/-- A safety state change marker. -/
def Rec.safety (r : Rec) : Bool := r.stream == 2 && bits r.body.toNat 0 8 == 3

/-- A record passes a filter (R384). -/
def passes (f : List Byte) (r : Rec) : Bool :=
  if r.stream = 2 then
    let kind := bits r.body.toNat 0 8
    r.safety || ((fByte f 0).testBit 2 && (fHalf f 20).testBit kind)
  else
    let b := r.body.toNat
    let ch := bits b 32 10
    let cls := bits b 44 4
    let az := bits b 64 16
    let el := bits b 80 12
    let azOk := if fHalf f 12 ≤ fHalf f 14 then decide (fHalf f 12 ≤ az) && decide (az ≤ fHalf f 14)
      else decide (fHalf f 12 ≤ az) || decide (az ≤ fHalf f 14)
    (fByte f 0).testBit r.stream && (fHalf f 2).testBit cls && decide (fHalf f 4 ≤ ch) && decide (ch ≤ fHalf f 6)
      && (cls == 8 || (decide (fHalf f 8 ≤ el) && decide (el ≤ fHalf f 10) && azOk))
      && decide (fByte f 16 ≤ bits b 48 8) && decide (fByte f 18 ≤ bits r.flags.toNat 0 2)

/-! ### Queue blocks (R383) -/

/-- The bytes of a queue block. -/
def blockBytes (b : BitVec 1024) : List Byte := leBytes 128 b.toNat

/-- The fields of a queue block are in range. -/
def blockOk (b : List Byte) : Bool :=
  let g := fieldAt b
  g 0 8 % 4096 == 0 && decide (4 ≤ g 8 1) && decide (g 8 1 ≤ 16) && decide (4 ≤ g 9 1) && decide (g 9 1 ≤ 14)
    && decide (g 10 1 ≤ 1) && decide (g 11 1 ≤ 31) && (decide (g 12 2 ≤ 2047) || g 12 2 == 0xFFFF) && g 16 8 % 4096 == 0
    && g 34 2 == 0 && g 40 8 != 0 && g 40 8 % 8 == 0 && g 48 16 == 0 && filterOk (sliceBytes b 64 32) && g 96 32 == 0

/-- A queue as its block opens it, at a scan position and with a value of CONSUMED. -/
def SubQueue.ofBlock (b : List Byte) (scan consumed : Nat) : SubQueue :=
  let g := fieldAt b
  { best := g 10 1 == 1, channel := g 11 1, vector := g 12 2, coalCnt := max 1 (g 14 2), coalNs := g 24 4
    cqBase := g 0 8, cqLog2 := g 8 1, brBase := g 16 8, brLog2 := g 9 1, cqHead := g 40 8, filter := sliceBytes b 64 32
    consumed := consumed, scan := scan, delivered := consumed, passed := [], pi := 0, bufs := [], offset := 0
    written := 0, seen := 0, armed := false, sinceArm := 0, skipped := 0, owed := 0, notes := [], closing := none }

/-! ### State of a queue -/

/-- HIF_QSTATE of a queue: 0 CLOSED, 1 OPEN, 2 SUSPENDED, 3 WEDGED (R405). -/
def State.qState (s : State) (q : Nat) : Nat := s.rd (R.HIF_QSTATE_STATE q)

/-- A queue that is not closed. -/
def State.queue (s : State) (q : Nat) : Option SubQueue := (s.hif.queues.find? (fun p => p.1 == q)).map (·.2)

/-- A queue is stored. -/
def State.putQueue (s : State) (q : Nat) (x : SubQueue) : State :=
  s.onHif (fun h => { h with queues := mapIns (mapErase h.queues q) q x })

/-- A queue closes: it holds nothing any more (R389, R392). -/
def State.dropQueue (s : State) (q : Nat) : State :=
  (s.onHif (fun h => { h with queues := mapErase h.queues q })).wr (R.HIF_QSTATE_STATE q) 0

/-- Room for one more completion (R388). -/
def SubQueue.room (x : SubQueue) : Bool := decide ((x.written + (2 ^ 32 - x.seen % 2 ^ 32)) % 2 ^ 32 < 2 ^ x.cqLog2)

/-- A queue's message is sent, which disarms it (R391). -/
def State.queueMsg (s : State) (q : Nat) (x : SubQueue) : State :=
  (s.putQueue q { x with armed := false, sinceArm := 0 }).when (x.vector != 0xFFFF) (·.msix x.vector)

/-- A subscriber completion is written, with the flags and SKIPPED owed, and its interrupt follows (R387, R391). -/
def State.queueCpl (s : State) (q : Nat) (x : SubQueue) (buf : Nat) (flags : BitVec 16) (offset count first : Nat) : State :=
  let f := (flags ||| x.owed).toNat / 2 * 2 + passBit x.written x.cqLog2
  let bytes := leBytes 2 buf ++ leBytes 2 f ++ leBytes 4 offset ++ leBytes 4 count ++ leBytes 6 first ++ leBytes 6 x.scan
    ++ leBytes 4 (min x.skipped (2 ^ 32 - 1)) ++ leBytes 4 s.jnl.gen.toNat
  let y := { x with written := (x.written + 1) % 2 ^ 32, skipped := 0, owed := 0
                    sinceArm := if x.armed then x.sinceArm + 1 else 0 }
  let s1 := (s.hostWrite (x.cqBase + 32 * (x.written % 2 ^ x.cqLog2)) bytes).putQueue q y
  if flags.getLsbD 8 || (x.armed && decide (x.coalCnt ≤ y.sinceArm)) then s1.queueMsg q y else s1

/-- Host software's count of consumed completions arrives with the head word; one ahead of what is written is clipped (R388). -/
def State.headIn (s : State) (q : Nat) (x : SubQueue) (word : Nat) : State :=
  let new := word % 2 ^ 32
  let d (n : Nat) : Nat := (n + (2 ^ 32 - x.seen % 2 ^ 32)) % 2 ^ 32
  if d x.written < d new then (s.putQueue q { x with seen := x.written }).dbBad else s.putQueue q { x with seen := new }

/-- Completions of COUNT 0 are written by an OPEN queue while there is room; a close that has written its last one ends (R388,
R392). A suspended queue has no completion queue (R393), and a wedged one makes no progress (R404). -/
def State.pumpNotes (s : State) (q : Nat) : Nat → State
  | 0 => s
  | n + 1 =>
    match s.queue q with
    | none => s
    | some x =>
      match x.notes with
      | [] =>
        match x.closing with
        | some r => (s.dropQueue q).completeHeld r stOk 0
        | none => s
      | (f, b) :: rest =>
        if s.dmaOn && s.qState q == 1 && x.room then (s.queueCpl q { x with notes := rest } b f 0 0 0).pumpNotes q n else s

/-- The notes of a queue, as far as they can go. -/
def State.settleQueue (s : State) (q : Nat) : State := s.pumpNotes q (((s.queue q).map (·.notes.length)).getD 0 + 1)

/-! ### Groups (R386, R390) -/

/-- The journal record of a sequence number, if its slot still holds it. -/
def State.recordAt (s : State) (n : Nat) : Option Rec :=
  match s.jnl.ring.find? (fun p => p.1 == n % max 1 s.jnlCap) with
  | some p => if p.2.seq = n then some p.2 else none
  | none => none

/-- A group under way. -/
structure Group where
  recs   : List Rec
  safety : Bool
deriving DecidableEq

/-- A record joins a group at its end. -/
def Group.add (g : Group) (r : Rec) : Group := { recs := g.recs ++ [r], safety := r.safety }

/-- Records are examined from the scan position: one that passes joins the group, a lost slot is passed over (R386, R390). -/
def State.examine (s : State) (q : Nat) (x : SubQueue) (g : Group) (lim : Nat) : Nat → State × SubQueue × Group
  | 0 => (s, x, g)
  | n + 1 =>
    if x.scan = s.jnl.head || g.safety || decide (lim ≤ g.recs.length) then (s, x, g)
    else
      let word := s.fwu.alloc.journal.1 / 32 + x.scan % max 1 s.jnlCap
      let s1 := (s.readWords [word] false).1
      let y := { x with scan := seqNext x.scan }
      match s1.recordAt x.scan with
      | none => s1.examine q { y with skipped := y.skipped + 1, owed := y.owed ||| 8 } g lim n
      | some r =>
        if passes x.filter r then
          s1.examine q { y with delivered := x.scan, passed := if x.best then [] else y.passed ++ [x.scan] } (g.add r) lim n
        else s1.examine q y g lim n

/-- A group that has been examined is written to the queue's first buffer, with one completion (R385 to R388); `r` is what the
examination left and found. -/
def State.writeGroup (q : Nat) (x : SubQueue) (b : HostBuf) (r : State × SubQueue × Group) : State :=
  match r.2.2.recs with
  | [] => r.1.putQueue q r.2.1
  | c :: _ =>
    let n := r.2.2.recs.length
    let last := decide (b.len < x.offset + 32 * n + 32)
    let z := if last then { r.2.1 with bufs := r.2.1.bufs.drop 1, offset := 0 } else { r.2.1 with offset := x.offset + 32 * n }
    (r.1.hostWrite (b.addr + x.offset) (r.2.2.recs.flatMap Rec.bytes)).queueCpl q z b.id
      (BitVec.ofNat 16 (2 * last.toNat + 256 * r.2.2.safety.toNat)) x.offset n c.seq

/-- One group of a queue with an open buffer (R386, R387). -/
def State.serveGroup (s : State) (q : Nat) (x : SubQueue) (b : HostBuf) : State :=
  State.writeGroup q x b
    (s.examine q x { recs := [], safety := false } (min 128 ((b.len - x.offset) / 32)) (seqSub s.jnl.head x.scan))

/-- What a queue can do next: notes, a bad buffer's return, or a group (R385, R386). -/
def State.serveQueue (s : State) (q : Nat) (x : SubQueue) : State :=
  if !x.notes.isEmpty then s.settleQueue q
  else
    match x.bufs with
    | b :: rest => if b.bad then s.queueCpl q { x with bufs := rest } b.id 514 0 0 0 else s.serveGroup q x b
    | [] => s

/-- A queue has work and the resources for it (R386, R388, R404). -/
def State.queueReady (s : State) (q : Nat) (x : SubQueue) : Bool :=
  s.qState q == 1 && x.room && (!x.notes.isEmpty || (match x.bufs with
    | b :: _ => b.bad || decide (x.scan ≠ s.jnl.head)
    | [] => false))

/-- A posted buffer as fetched (R385). -/
def HostBuf.parse (e : BitVec 128) : HostBuf :=
  let a := bits e.toNat 0 64
  let l := bits e.toNat 64 32
  { addr := a, len := l, id := bits e.toNat 96 16
    bad := a % 64 != 0 || l % 64 != 0 || decide (l < 256) || decide (1048576 < l) || bits e.toNat 112 16 != 0 }

end Sys2Proof.Machine
end

