-- ==== Sys2Proof/Machine/Access.lean ====
section
/-!
DEFINITION. What GLB records of accesses it refuses or cuts (R474 to R477, R480).
-/
namespace Sys2Proof.Machine

/-- GLB_LASTERR: offset, direction and kind of the last access counted (R480). -/
def State.lastErr (s : State) (off kind : Nat) (write : Bool) : State :=
  ((s.wr R.GLB_LASTERR_OFFSET off).wrB R.GLB_LASTERR_WRITE write).wr R.GLB_LASTERR_KIND kind

/-- An access refused under R474 or R475. -/
def State.badAccess (s : State) (off kind : Nat) (write : Bool) : State :=
  (s.bump R.GLB_ACCERR_BADACC 1).lastErr off kind write

/-- A write with a 1 in a reserved bit is counted; its defined fields still apply (R476). -/
def State.rsvdCheck (s : State) (off mask v : Nat) : State :=
  if v &&& mask = 0 then s else (s.bump R.GLB_ACCERR_RSVDWR 1).lastErr off 2 true

/-- A reserved encoding in a block without BADCFG (R477). -/
def State.badEncoding (s : State) (off : Nat) : State :=
  (s.badAccess off 3 true).flag R.GLB_INTSTAT_ACCERR

end Sys2Proof.Machine
end

