-- ==== Sys2Proof/Machine/TenonOps.lean ====
section
/-!
DEFINITION. Tenon's operations (R62 to R84): encoder phase and speed, the loop law, feedforward, banks, the torque port,
injection and response capture, and scan validity.
-/
namespace Sys2Proof.Machine

/-! ### Plumbing -/

/-- A change of Tenon's own record. -/
def State.onTnn (s : State) (f : TnnState → TnnState) : State := { s with tnn := f s.tnn }

/-- A float register. -/
def State.fr (s : State) (f : Fld) : Word := BitVec.ofNat 32 (s.rd f)

/-- A float register written. -/
def State.fw (s : State) (f : Fld) (v : Word) : State := s.wr f v.toNat

/-- The spindle mode (R74). -/
def State.spMode (s : State) : Nat := s.rd R.TNN_STATUS_SPMODE

/-- The tilt mode (R74). -/
def State.tlMode (s : State) : Nat := s.rd R.TNN_STATUS_TLMODE

/-- The active spindle bank. -/
def State.spBank (s : State) : Nat := s.rd R.TNN_STATUS_SPBANK

/-- The active tilt bank. -/
def State.tlBank (s : State) : Nat := s.rd R.TNN_STATUS_TLBANK

/-! ### Phase and speed (R63, R66) -/

/-- CPR as a divisor. -/
def State.cpr (s : State) : Nat := max 1 (s.rd R.TNN_ENCCFG_CPR)

/-- Root ticks since the last accepted encoder edge, at most the last edge interval. -/
def State.edgeAge (s : State) : Nat := min (s.clk.ticks - s.tnn.edgeTick) s.tnn.interval

/-- Phase as a 32-bit fraction of a revolution: encoder counts, interpolated by the time since the last edge (R66). -/
def State.phi (s : State) : Nat :=
  let iv := max 1 s.tnn.interval
  let a : Int := if s.tnn.reverse then -(s.edgeAge : Int) else s.edgeAge
  let num : Int := (s.tnn.count * iv + a) * (2 : Int) ^ 32
  ((num / ((s.cpr * iv : Nat) : Int)) % (2 : Int) ^ 32).toNat

/-- Root ticks that one count takes now: the last edge interval, or the longer time since the last edge. -/
def State.countTicks (s : State) : Nat := max s.tnn.interval (s.clk.ticks - s.tnn.edgeTick)

/-- Speed in rev/s (DEDUCED from R66): one count per `countTicks`; 0 before the first interval. -/
def State.speed (s : State) : Word :=
  if s.tnn.interval = 0 then 0
  else fRat (if s.tnn.reverse then -200000000 else 200000000) (s.cpr * s.countTicks)

/-- Ticks of the present frame: the time since its epoch and the frame period, in LSB. -/
def State.frameAge (s : State) : Nat := if s.peg.clockOn then s.nowLsb - s.peg.epochLsb else 0

/-- The frame period in 5 ns units. -/
def State.framePeriod (s : State) : Nat := if s.peg.clockOn then max 1 s.peg.period else max 1 (s.rd R.PEG_FRAME_PERIOD)

/-- The reference phase of R63, as a 32-bit fraction. -/
def State.phiRef (s : State) : Nat :=
  (s.rd R.TNN_SPCFG_REVS * s.frameAge * 2 ^ 32 / (512 * s.framePeriod) + s.rd R.TNN_PHOFS_PHOFS) % 2 ^ 32

/-- The phase error as a signed 32-bit fraction of a turn, wrapped into [-0.5, 0.5) (R63). -/
def State.phaseErr (s : State) : Int := toSigned 32 ((s.phiRef + (2 ^ 32 - s.phi % 2 ^ 32)) % 2 ^ 32)

/-- A 32-bit fraction of a turn in turns. -/
def fTurn (n : Int) : Word := fRat n (2 ^ 32)

/-- The target speed REVS / T_frame in rev/s (R62). -/
def State.target (s : State) : Word := fRat (s.rd R.TNN_SPCFG_REVS * 200000000 : Nat) s.framePeriod

/-- A target of revs revolutions per period (5 ns units) lies inside 10 to 400 rev/s. -/
def targetOk (revs period : Nat) : Bool :=
  decide (10 * period ≤ revs * 200000000) && decide (revs * 200000000 ≤ 400 * period)

/-- The frame period that a retained epoch holds. -/
def State.epochPeriod (s : State) (e : Nat) : List Nat :=
  match s.peg.epochs.find? (fun p => p.1 == e) with
  | some (_, c) => [c.period]
  | none => []

/-- The frame periods a check is made against: the one in force, that of the active epoch, which takes force at the next boundary,
and the one staged in an epoch not yet effective (R62, R122). -/
def State.periods (s : State) : List Nat :=
  s.framePeriod :: (if s.peg.clockOn then s.epochPeriod s.peg.active else []) ++ (match s.hif.accepted with
    | some (e, _) => s.epochPeriod e
    | none => [])

/-- The conditions of R62 on a request for SPEED or LOCK. -/
def State.spindleOk (s : State) (facets revs : Nat) : Bool :=
  decide (1 ≤ revs) && decide (revs ≤ 64) && decide (2 ≤ facets) && decide (facets ≤ 16)
    && s.periods.all (fun p => targetOk revs p)

/-! ### Banks (R81, R86) -/

/-- The coefficients of one controller. -/
structure Coef where
  kp   : Word
  ki   : Word
  kd   : Word
  tf   : Word
  imin : Word
  imax : Word
  umin : Word
  umax : Word
deriving DecidableEq, Repr

/-- Speed loop coefficients of a bank. -/
def State.speedCoef (s : State) (b : Nat) : Coef :=
  { kp := s.fr (R.TNN_SP_SKP b), ki := s.fr (R.TNN_SP_SKI b), kd := s.fr (R.TNN_SP_SKD b), tf := s.fr (R.TNN_SP_STF b)
    imin := s.fr (R.TNN_SP_SIMIN b), imax := s.fr (R.TNN_SP_SIMAX b)
    umin := s.fr (R.TNN_SP_UMIN b), umax := s.fr (R.TNN_SP_UMAX b) }

/-- Phase loop coefficients of a bank. -/
def State.phaseCoef (s : State) (b : Nat) : Coef :=
  { kp := s.fr (R.TNN_SP_PKP b), ki := s.fr (R.TNN_SP_PKI b), kd := s.fr (R.TNN_SP_PKD b), tf := s.fr (R.TNN_SP_PTF b)
    imin := s.fr (R.TNN_SP_PIMIN b), imax := s.fr (R.TNN_SP_PIMAX b)
    umin := s.fr (R.TNN_SP_UMIN b), umax := s.fr (R.TNN_SP_UMAX b) }

/-- Tilt loop coefficients of a bank. -/
def State.tiltCoef (s : State) (b : Nat) : Coef :=
  { kp := s.fr (R.TNN_TL_KP b), ki := s.fr (R.TNN_TL_KI b), kd := s.fr (R.TNN_TL_KD b), tf := s.fr (R.TNN_TL_TF b)
    imin := s.fr (R.TNN_TL_IMIN b), imax := s.fr (R.TNN_TL_IMAX b)
    umin := s.fr (R.TNN_TL_UMIN b), umax := s.fr (R.TNN_TL_UMAX b) }

/-- A controller's words pass the checks of R81. -/
def Coef.ok (c : Coef) : Bool :=
  [c.kp, c.ki, c.kd, c.tf, c.imin, c.imax, c.umin, c.umax].all fFinite
    && !fLt c.tf 0 && fLt c.umin c.umax && fLe c.imin c.imax

/-- A float table of a bank holds no NaN and no infinity. -/
def State.tableOk (s : State) (f : Nat → Fld) (n : Nat) : Bool := (List.range n).all (fun i => fFinite (s.fr (f i)))

/-- A positive finite float. -/
def fPos (w : Word) : Bool := fFinite w && fLt 0 w

/-- A spindle bank is valid (R81). -/
def State.spBankOk (s : State) (b : Nat) : Bool :=
  (s.speedCoef b).ok && (s.phaseCoef b).ok && fPos (s.fr (R.TNN_SP_FELIM b)) && fPos (s.fr (R.TNN_SP_LOCKWIN b))
    && fFinite (s.fr (R.TNN_SP_RAMP b)) && decide (s.rd (R.TNN_SP_FETIME b) ≤ 32767)
    && s.tableOk (R.TNN_SP_COG b) 512 && s.tableOk (R.TNN_SP_FRIC b) 64

/-- A tilt bank is valid (R81). -/
def State.tlBankOk (s : State) (b : Nat) : Bool :=
  (s.tiltCoef b).ok && fPos (s.fr (R.TNN_TL_FELIM b)) && decide (s.rd (R.TNN_TL_FETIME b) ≤ 32767)
    && s.tableOk (R.TNN_TL_FRIC b) 64 && s.tableOk (R.TNN_TL_PROF b) 1024

/-! ### The loop law (R71, R72) -/

/-- The sample period in seconds: 20 us for the spindle, 40 us for the tilt loop (R71). -/
def tsOf (tilt : Bool) : Word := if tilt then fRat 1 25000 else fRat 1 50000

/-- What one sample of a controller takes in: setpoint, measurement, error, feedforward, blend and output injection. -/
structure LoopIn where
  r   : Word
  m   : Word
  e   : Word
  ff  : Word
  b   : Word
  inj : Word
deriving DecidableEq, Repr

/-- beta = tf / (tf + ts). -/
def betaOf (tf ts : Word) : Word := fDiv tf (fAdd tf ts)

/-- The derivative term of R71. -/
def derivTerm (c : Coef) (ts : Word) (st : LoopState) (m : Word) : Word :=
  let beta := betaOf c.tf ts
  fAdd (fMul beta st.d) (fDiv (fMul (fMul (fSub 0x3F800000#32 beta) c.kd) (fSub st.mPrev m)) ts)

/-- The output before clamping: p + i + d + ff + b, and the injection at the output (R71, R83). -/
def rawOut (x : LoopIn) (p i d : Word) : Word := fAdd (fAdd (fAdd (fAdd (fAdd p i) d) x.ff) x.b) x.inj

/-- One sample of the loop law (R71): the new controller state and whether the output was clamped. -/
def loopStep (c : Coef) (ts : Word) (st : LoopState) (x : LoopIn) : LoopState × Bool :=
  let p := fMul c.kp x.e
  let d := derivTerm c ts st x.m
  let kie := fMul c.ki x.e
  let iTry := fAdd st.i (fMul (fMul c.ki ts) x.e)
  let uTry := fAdd (fAdd (fAdd (fAdd p iTry) d) x.ff) x.b
  let sat := (fLt c.umax uTry && fLt 0 kie) || (fLt uTry c.umin && fLt kie 0)
  let i := fClamp c.imin c.imax (if sat then st.i else iTry)
  let raw := rawOut x p i d
  let u := fClamp c.umin c.umax raw
  ({ i := i, d := d, mPrev := x.m, rPrev := x.r, u := u }, !fEq u raw)

/-- The hand-over sample (R77): d = 0, the integral term preloaded so that the output equals the last torque sent, and the
rest of it as blend b0. -/
def loopHandOver (c : Coef) (uLast : Word) (x : LoopIn) : LoopState × Word × Bool :=
  let p := fMul c.kp x.e
  let iPre := fSub (fSub uLast p) x.ff
  let i := fClamp c.imin c.imax iPre
  let b0 := fSub iPre i
  let raw := rawOut { x with b := b0 } p i 0
  let u := fClamp c.umin c.umax raw
  ({ i := i, d := 0, mPrev := x.m, rPrev := x.r, u := u }, b0, !fEq u raw)

/-- The blend term of sample n after a hand-over (R77). -/
def blendAt (b0 : Word) (n : Nat) : Word :=
  if 2500 ≤ n then 0 else fMul b0 (fSub 0x3F800000#32 (fRat n 2500))

/-- The sign of a float. -/
def fSign (w : Word) : Word := if fLt 0 w then 0x3F800000#32 else if fLt w 0 then 0xBF800000#32 else 0

/-- Spindle feedforward (R72). -/
def State.spFf (s : State) (speed : Word) : Word :=
  let b := s.spBank
  let ph := fAdd (fTurn s.phi) (fMul speed (fRat 9 4000000))
  let x := fMul 0x44000000#32 (fSub ph (fInt (fFloor ph)))
  let k := (fFloor x).toNat
  let c0 := s.fr (R.TNN_SP_COG b (k % 512))
  let c1 := s.fr (R.TNN_SP_COG b ((k + 1) % 512))
  let cog := fAdd c0 (fMul (fSub x (fInt k)) (fSub c1 c0))
  let fric := if fLt (fAbs speed) (fRat 1 10) then 0
    else fMul (s.fr (R.TNN_SP_FRIC b (s.phi / 2 ^ 26))) (fSign speed)
  fAdd cog fric

/-- Tilt feedforward (R72). -/
def State.tlFf (s : State) (m r : Word) : Word :=
  let k := clampI 0 63 (fFloor (fMul 0x42000000#32 (fAdd m 0x3F800000#32)))
  let dr := fSub r s.tnn.tl.rPrev
  if fEq r s.tnn.tl.rPrev then 0 else fMul (s.fr (R.TNN_TL_FRIC s.tlBank k.toNat)) (fSign dr)

/-- The profile setpoint at a frame fraction num / den (R70); entry 1,024 is entry 0 of the profile in force for the next
frame. -/
def State.profile (s : State) (num den : Nat) : Word :=
  let b := s.tlBank
  let x := 1024 * num
  let k := min 1023 (x / max den 1)
  let a := s.fr (R.TNN_TL_PROF b k)
  let c := if k = 1023 then s.fr (R.TNN_TL_PROF (if s.tnn.tlSwap then 1 - b else b) 0) else s.fr (R.TNN_TL_PROF b (k + 1))
  fAdd a (fMul (fRat (x - k * den : Int) (max den 1)) (fSub c a))

/-! ### Scan validity and lock (R65, R75, R80) -/

/-- SCANVALID as it stands (R80). -/
def State.scanOk (s : State) : Bool :=
  s.on R.TNN_STATUS_SPLOCK && s.tnn.spOk && (s.tlMode == 1 || s.tlMode == 2) && s.tnn.tlOk && !s.tnn.tlTrip
    && !s.on R.TNN_STATUS_INJ && !s.tnn.encErr

/-- SCANVALID follows its conditions in the cycle of their change: when it falls, the published dead angles that have not
ended are withdrawn (R65); Truss sees every change (R80, R295). -/
def State.scanEval (s : State) : State :=
  let old := s.on R.TNN_STATUS_SCANVALID
  let new := s.scanOk
  if old == new then s
  else
    let s1 := s.wrB R.TNN_STATUS_SCANVALID new
    if new then s1.trsEval 0
    else
      let now := s1.nowLsb
      ({ s1 with btn := { s1.btn with windows := s1.btn.windows.filter (fun w => decide (w.stop ≤ now)) } } : State).trsEval 0x0010

/-- SPLOCK is cleared (R75). -/
def State.unlock (s : State) : State :=
  let s1 := s.onTnn (fun t => { t with lockN := 0 })
  if s1.on R.TNN_STATUS_SPLOCK then
    ((s1.wr R.TNN_STATUS_SPLOCK 0).fault R.TNN_INTSTAT_LOCKLOSS 1 0).scanEval
  else s1

/-! ### Injection and capture (R83, R84) -/

/-- An injection of a loop ends: INJ clears and INJEND is set. -/
def State.endInject (s : State) (tilt : Bool) : State :=
  match s.tnn.inj with
  | some i =>
    if i.tilt == tilt then
      (((s.onTnn (fun t => { t with inj := none })).wr R.TNN_STATUS_INJ 0).flag
        R.TNN_INTSTAT_INJEND).scanEval
    else s
  | none => s

/-- PRBS-11: the next register of x^11 + x^9 + 1 (R83). -/
def prbsNext (r : BitVec 11) : BitVec 11 :=
  let bit := r.getLsbD 10 != r.getLsbD 8
  (r <<< 1) ||| (if bit then 1 else 0)

/-- Samples a second of a loop (R71). -/
def loopRate (tilt : Bool) : Nat := if tilt then 25000 else 50000

/-- A sine of an amplitude and a frequency in Hz at sample n of a loop, 0 at sample 0 (R83); the rounding of the sine is not
stated (log 49). -/
def injSine (amp freq : Word) (n : Nat) (tilt : Bool) : Word :=
  match fVal freq with
  | .fin neg m e =>
    fMul amp (fNudge (fSine neg (m * 2 ^ e.toNat * n) (2 ^ (-e).toNat * loopRate tilt)) 1 (Config.trigErr 4 freq (BitVec.ofNat 32 n)))
  | _ => fNan

/-- The value an injection adds at its present sample (R83). DEDUCED (log 138): the PRBS chip is the register's last stage, 1
standing for +INJAMP. -/
def State.injValue (s : State) (i : Inject) : Word :=
  let amp := s.fr R.TNN_INJAMP_AMP
  if i.shape = 0 then injSine amp (s.fr R.TNN_INJFREQ_FREQ) i.n i.tilt
  else if i.shape = 1 then amp
  else if i.lfsr.getLsbD 10 then amp else fNeg amp

/-- One sample of a loop as an injection sees it: what is added to the setpoint and to the output, with the injection
started, advanced, or ended by STOP (R83). -/
def State.injSample (s : State) (tilt : Bool) : State × Word × Word :=
  match s.tnn.inj with
  | none => (s, 0, 0)
  | some i =>
    if i.tilt != tilt then (s, 0, 0)
    else if i.stop then (s.endInject tilt, 0, 0)
    else
      let len := s.rd R.TNN_INJLEN_LEN
      if len != 0 && decide (len ≤ i.n) then (s, 0, 0)
      else
        let v := s.injValue i
        let s1 := s.onTnn (fun t => { t with inj := some { i with n := i.n + 1, lfsr := prbsNext i.lfsr } })
        let s2 := (s1.wr R.TNN_STATUS_INJ 1).scanEval
        (s2, if i.output then 0 else v, if i.output then v else 0)

/-- One entry of a response capture: setpoint, measurement, error and output, written through Girt with Tenon's rights (R84, R445).
DESIGN CHOICE (log 141): an entry that Girt refuses is lost and counts. -/
def State.capSample (s : State) (tilt : Bool) (r m e u : Word) : State :=
  match s.tnn.cap with
  | none => s
  | some c =>
    if c.tilt != tilt || (c.waitInj && !s.on R.TNN_STATUS_INJ) || decide (c.len ≤ c.n) then s
    else
      let bytes := leBytes 4 r.toNat ++ leBytes 4 m.toNat ++ leBytes 4 e.toNat ++ leBytes 4 u.toNat
      let s1 := s.onTnn (fun t => { t with cap := some { c with n := c.n + 1, waitInj := false } })
      let a := c.addr + 16 * c.n
      (if s1.girtHbm girtTenon a true then s1.hbmStore a bytes else s1.girtDenyHbm girtTenon a true).wr R.TNN_CAPCNT_CNT (c.n + 1)

/-! ### Following error (R79) -/

/-- The following-error counter after a sample. -/
def feCount (n : Nat) (big : Bool) : Nat := if big then min (n + 2) 65535 else n - 1

/-- The trip level of a counter: 2 * FETIME, FETIME 0 acting as 1. -/
def feTrip (fetime : Nat) : Nat := 2 * max 1 fetime

/-! ### Torque port (R67) -/

/-- One bit step of CRC-8 with polynomial x^8 + x^2 + x + 1 (R67). -/
def crc8Bit (c : BitVec 8) (b : Bool) : BitVec 8 :=
  let x := c.getMsbD 0 != b
  (c <<< 1) ^^^ (if x then 0x07#8 else 0)

/-- CRC-8 over bits [31:8] of a frame, most significant bit first (R67). -/
def crc8 (w : Word) : BitVec 8 := (List.range 24).foldl (fun c i => crc8Bit c (w.getMsbD i)) 0

/-- A torque frame (R67). -/
def torqueFrame (typ : Nat) (seq : BitVec 4) (demand : BitVec 16) : Word :=
  let w : Word := BitVec.ofNat 32 (typ * 2 ^ 30 + seq.toNat * 2 ^ 26 + demand.toNat * 2 ^ 8)
  w ||| (crc8 w).setWidth 32

/-- DEMAND of an output: round(32,767 u), its sign turned by DIR, never -32,768 (R67). -/
def State.demand (s : State) (u : Word) : BitVec 16 :=
  let v := fTimesRound u 32767
  BitVec.ofInt 16 (clampI (-32767) 32767 (if s.on R.TNN_SPCFG_DIR then -v else v))

/-- DEMAND of a coast frame, which the inverter ignores: any value but -32,768 (R67). -/
def coastDemand (n : Nat) : BitVec 16 := if Config.coastDemand n = 0x8000#16 then 0x8001#16 else Config.coastDemand n

/-- One frame leaves the torque port; SEQ restarts at 0 when the port leaves quiet (R67). -/
def State.sendTorque (s : State) (typ : Nat) (demand : BitVec 16) : State :=
  let q : BitVec 4 := if s.tnn.portQuiet then 0 else s.tnn.seq
  (s.onTnn (fun t => { t with seq := q + 1, portQuiet := false })).emit (.torque (torqueFrame typ q demand))

end Sys2Proof.Machine
end

