-- ==== Sys2Proof/Machine/Tenon.lean ====
section
/-!
DEFINITION. The commands of Tenon (R62 to R86): encoder events, loop samples, modes, locks, bank swaps, injection and
capture.
-/
namespace Sys2Proof.Machine

/-! ### Encoder (R66) -/

/-- ENCFAST or IDXERR: the flag is set and reported, and SPLOCK is cleared (R66, R80). -/
def State.encError (s : State) (f : Fld) : State :=
  ((s.fault f 1 0).onTnn (fun t => { t with encErr := true })).unlock.scanEval

/-- ENCODER_EDGE (R66): a quadrature edge counts; a rate above 40 M counts/s is an error. Truss counts it for its own phase
(R291). -/
def execEncoderEdge (back : Bool) (s : State) : Host.Outcome State Fault Refusal :=
  let rev := back != s.on R.TNN_ENCCFG_ABSWAP
  let iv := s.clk.ticks - s.tnn.edgeTick
  let s1 := s.onTnn (fun t =>
    { t with count := t.count + (if rev then -1 else 1), interval := iv, edgeTick := s.clk.ticks, reverse := rev })
  let s2 := s1.onTrs (fun t => { t with phase := { t.phase with counts := t.phase.counts + 1, edgeLsb := s.nowLsb } })
  (if iv < 5 then s2.encError R.TNN_INTSTAT_ENCFAST else s2).done

/-- The count left over from the nearest whole revolution. -/
def revRest (c : Int) (cpr : Nat) : Int := (c + (cpr : Int) / 2) % (cpr : Int) - (cpr : Int) / 2

/-- INDEX_EDGE (R66): the count is checked against whole revolutions and resynchronised if it is more than 2 off; Truss
closes a revolution of its own phase (R291). -/
def execIndexEdge (s : State) : Host.Outcome State Fault Refusal :=
  let rest := revRest s.tnn.count s.cpr
  let bad := s.tnn.indexSeen && decide (2 < rest.natAbs)
  let s1 := s.onTnn (fun t =>
    { t with count := if s.tnn.indexSeen && !bad then rest else 0, indexSeen := true, indexTick := s.clk.ticks })
  let s2 := s1.onTrs (fun t =>
    let p := t.phase
    { t with phase := { p with counts := 0, indexLsb := s.nowLsb, seen := true
                               revCnt := if p.seen then p.counts else 0
                               revLsb := if p.seen then s.nowLsb - p.indexLsb else 0 } })
  (if bad then s2.encError R.TNN_INTSTAT_IDXERR else s2).done

/-- INDEX_MISSING (R66): at 10 rev/s or more, no index edge within 1.5 revolutions, as the counter has counted them; the counter
is resynchronised at the next one. -/
def execIndexMissing (s : State) : Host.Outcome State Fault Refusal :=
  if fLe (fInt 10) (fAbs s.speed) && decide (3 * s.cpr ≤ 2 * s.tnn.count.natAbs) then
    ((s.onTnn (fun t => { t with indexSeen := false })).encError R.TNN_INTSTAT_IDXERR).done
  else s.done

/-! ### Spindle samples (R71 to R77) -/

/-- A pending spindle bank swap is applied at the sample (R81, R82). -/
def State.spSwapNow (s : State) : State :=
  if s.tnn.spSwap then
    let b := 1 - s.spBank
    let c := if s.tnn.phaseLoop then s.phaseCoef b else s.speedCoef b
    let s1 := ((s.wr R.TNN_STATUS_SPBANK b).wr R.TNN_SPCTL_SWAP 0).onTnn (fun t =>
      { t with spSwap := false, sp := { t.sp with i := fClamp c.imin c.imax t.sp.i } })
    (s1.flag R.TNN_INTSTAT_SWAPDONE).endInject false
  else s

/-- |e| of an error in turns stays within a fraction num / den of a turn. -/
def turnWithin (e : Int) (num den : Nat) : Bool := decide (e.natAbs * den ≤ num * 2 ^ 32)

/-- The setpoint after one sample of the ramp towards the target (R74). -/
def rampToward (ramp sp target : Word) : Word :=
  let step := fMul ramp (tsOf false)
  let d := fSub target sp
  if fEq ramp 0 || fLe (fAbs d) step then target else if fLt d 0 then fSub sp step else fAdd sp step

/-- The slip term of LOCK's speed phase (R75). -/
def slipTerm (e : Int) (target : Word) : Word :=
  let lim := fMul target (fRat 1 1000)
  fClamp (fNeg lim) lim (fDiv (fTurn e) (fRat 1 10))

/-- The speed lies within 0.2 % of the target (R75). -/
def nearTarget (speed target : Word) : Bool := fLe (fAbs (fSub speed target)) (fMul target (fRat 1 500))

/-- An error wrapped into [-0.5, 0.5) (R71). -/
def fWrap (e : Word) : Word :=
  if fLe 0x3F000000#32 e then fSub e 0x3F800000#32 else if fLt e 0xBF000000#32 then fAdd e 0x3F800000#32 else e

/-- The inputs of a phase loop sample; `inj` is added to the setpoint. -/
def State.phaseIn (s : State) (injR injU b : Word) : LoopIn :=
  { r := fAdd (fTurn s.phiRef) injR, m := fTurn s.phi, e := fWrap (fAdd (fTurn s.phaseErr) injR), ff := s.spFf s.speed
    b := b, inj := injU }

/-- The inputs of a speed loop sample with a ramped setpoint. -/
def State.speedIn (s : State) (sp injR injU b : Word) : LoopIn :=
  let r0 := if s.spMode = 3 then fAdd sp (slipTerm s.phaseErr s.target) else sp
  let r := fAdd r0 injR
  { r := r, m := s.speed, e := fSub r s.speed, ff := s.spFf s.speed, b := b, inj := injU }

/-- What a sample of a spindle loop leaves in registers, capture and torque port. -/
def State.spOut (s : State) (x : LoopIn) (u : Word) (sat : Bool) : State :=
  let s1 := ((s.fw R.TNN_SPERR_E x.e).fw R.TNN_SPOUT_U u).wrB R.TNN_STATUS_SPSAT sat
  (s1.capSample false x.r x.m x.e u).sendTorque 0 (s1.demand u)

/-- A sample of the phase loop in LOCK: the counters of R75 and R79 move, and the SCANVALID contribution is set. -/
def State.phaseCounts (s : State) (e : Word) : State :=
  let b := s.spBank
  let a := fAbs (fTurn s.phaseErr)
  let s1 := s.wr R.TNN_FECNT_SP (feCount (s.rd R.TNN_FECNT_SP) (fLt (s.fr (R.TNN_SP_FELIM b)) (fAbs e)))
  (s1.onTnn (fun t => { t with lockN := if fLe a (s.fr (R.TNN_SP_LOCKWIN b)) then t.lockN + 1 else 0
                               spOk := fLe a (s.fr (R.TNN_SP_FELIM b)) })).scanEval

/-- Consecutive samples near the target, the present one among them (R75). -/
def State.capNow (s : State) : Nat := if nearTarget s.speed s.target then s.tnn.capN + 1 else 0

/-- A sample of the speed loop: the capture counter of R75 moves. -/
def State.speedCounts (s : State) (setpoint : Word) : State :=
  (s.onTnn (fun t =>
    { t with setpoint := setpoint, capN := s.capNow, captured := t.captured && s.capNow != 0, spOk := false
             lockN := 0 })).scanEval

/-- The loop that a sample runs, the phase loop standing for true: LOCK hands over at the first sample at which the speed is captured
and the phase error is small; a re-engagement needs no capture (R75, R78). -/
def State.wantPhase (s : State) : Bool :=
  let t := s.tnn
  s.spMode == 3 && !t.fall && (t.phaseLoop ||
    ((t.engage || decide (max 1 (s.rd R.TNN_LOCKCFG_CAPCNT) ≤ s.capNow)) && turnWithin s.phaseErr 5 1000))

/-- One sample of the spindle loops in SPEED or LOCK, with the hand-over where the loop changes (R75, R77). -/
def State.spindleLoop (s0 : State) : State :=
  let (s, injR, injU) := s0.injSample false
  let t := s.tnn
  let want := s.wantPhase
  let change := t.engage || want != t.phaseLoop
  let b := if change then 0 else blendAt t.blend0 t.blendN
  let sp0 := rampToward (s.fr (R.TNN_SP_RAMP s.spBank)) (if change then s.speed else t.setpoint) s.target
  let x := if want then s.phaseIn injR injU b else s.speedIn sp0 injR injU b
  let c := if want then s.phaseCoef s.spBank else s.speedCoef s.spBank
  if change then
    let (l, b0, sat) := loopHandOver c t.sp.u x
    let s1 := s.onTnn (fun t => { t with sp := l, phaseLoop := want, fall := false, engage := false, blend0 := b0, blendN := 1 })
    let s2 := (s1.wrB R.TNN_STATUS_BLEND (!fEq b0 0)).spOut x l.u sat
    if want then s2.phaseCounts x.e else s2.speedCounts sp0
  else
    let (l, sat) := loopStep c (tsOf false) t.sp x
    let s1 := s.onTnn (fun t => { t with sp := l, fall := false, blendN := min (t.blendN + 1) 2500 })
    let s2 := (s1.wrB R.TNN_STATUS_BLEND (!fEq b 0)).spOut x l.u sat
    if want then s2.phaseCounts x.e else s2.speedCounts sp0

/-- A sample in TEST: open loop (R74). DEDUCED (log 138): TEST has no setpoint, so an injection at the setpoint adds nothing. -/
def State.spindleTest (s0 : State) : State :=
  let (s, _, injU) := s0.injSample false
  let u := fAdd (s.fr R.TNN_SPOPEN_U) injU
  let s1 := (s.fw R.TNN_SPOUT_U u).wr R.TNN_STATUS_SPSAT 0
  ((s1.capSample false (Config.capIdle s1.fresh) s1.speed (Config.capIdle (s1.fresh + 1)) u).draw.draw.onTnn (fun t =>
    { t with sp := { t.sp with u := u } })).sendTorque 0 (s1.demand u)

/-- SPINDLE_SAMPLE (R71): the 20 us sample in the spindle's mode. -/
def execSpindleSample (s : State) : Host.Outcome State Fault Refusal :=
  let s1 := s.spSwapNow
  let s2 := s1.fw R.TNN_SPEED_V s1.speed
  let idle (t : State) : State :=
    ((t.wr R.TNN_STATUS_SPSAT 0).capSample false (Config.capIdle t.fresh) t.speed (Config.capIdle (t.fresh + 1)) (t.fr R.TNN_SPOUT_U)).draw.draw
  (match s2.spMode with
  | 0 => (idle s2).onTnn (fun t => { t with portQuiet := true })
  | 1 => ((idle s2).sendTorque 1 (coastDemand s2.fresh)).draw
  | 4 => s2.spindleTest
  | _ => s2.spindleLoop).done

/-- SPEED_CAPTURE (R75): the speed has stayed near the target for CAPCNT samples; in SPEED the spin-up timer stops (R76). -/
def execSpeedCapture (s : State) : Host.Outcome State Fault Refusal :=
  if (s.spMode = 2 || s.spMode = 3) && !s.tnn.phaseLoop && decide (max 1 (s.rd R.TNN_LOCKCFG_CAPCNT) ≤ s.tnn.capN) then
    (s.onTnn (fun t => { t with captured := true, spinTimer := t.spinTimer && s.spMode != 2 })).done
  else s.done

/-- SPLOCK_SET (R75): the phase error has stayed inside LOCKWIN for LOCKCNT phase-loop samples. -/
def execSplockSet (s : State) : Host.Outcome State Fault Refusal :=
  if s.spMode = 3 && s.tnn.phaseLoop && !s.on R.TNN_STATUS_SPLOCK
      && decide (max 1 (s.rd R.TNN_LOCKCFG_LOCKCNT) ≤ s.tnn.lockN) then
    ((((s.wr R.TNN_STATUS_SPLOCK 1).flag R.TNN_INTSTAT_LOCKGAIN).onTnn (fun t =>
      { t with encErr := false, spinTimer := false })).scanEval).done
  else s.done

/-- BLEND_END (R77): after 2,500 samples the blend is zero. -/
def execBlendEnd (s : State) : Host.Outcome State Fault Refusal :=
  if 2500 ≤ s.tnn.blendN then ((s.wr R.TNN_STATUS_BLEND 0).onTnn (fun t => { t with blend0 := 0 })).done else s.done

/-- FOLLOWING_ERROR_TRIP (R79): a counter has reached 2 * FETIME. The spindle falls back to the speed loop of LOCK; the tilt
loop keeps its mode with a trip standing. -/
def execFollowingErrorTrip (tilt : Bool) (s : State) : Host.Outcome State Fault Refusal :=
  if tilt then
    if (s.tlMode = 1 || s.tlMode = 2) && !s.tnn.tlTrip
        && decide (feTrip (s.rd (R.TNN_TL_FETIME s.tlBank)) ≤ s.rd R.TNN_FECNT_TL) then
      (((s.fault R.TNN_INTSTAT_TLFETRIP 1 0).onTnn (fun t => { t with tlTrip := true })).scanEval).done
    else s.done
  else if s.spMode = 3 && s.tnn.phaseLoop && decide (feTrip (s.rd (R.TNN_SP_FETIME s.spBank)) ≤ s.rd R.TNN_FECNT_SP) then
    let s1 := (s.fault R.TNN_INTSTAT_SPFETRIP 1 0).unlock
    ((s1.wr R.TNN_FECNT_SP 0).onTnn (fun t => { t with fall := true, capN := 0, captured := false })).done
  else s.done

/-- SPIN_UP_TIMEOUT (R76): the timer expires; Tenon keeps trying. During start-up cause 0x0D is reported. -/
def execSpinUpTimeout (s : State) : Host.Outcome State Fault Refusal :=
  if s.tnn.spinTimer && s.rd R.TNN_SPCFG_SUTIME != 0 then
    let s1 := (s.onTnn (fun t => { t with spinTimer := false })).fault R.TNN_INTSTAT_SUTIMEOUT 1 0
    (if s1.stage = 0x0A then s1.stall 0x0D 0 else s1).done
  else s.done

/-- RETAINED_STATE_COPY (R78): mode requests and the last torque demand are kept in HBM. -/
def execRetainedStateCopy (s : State) : Host.Outcome State Fault Refusal :=
  (s.onTnn (fun t => { t with retSp := s.rd R.TNN_SPCTL_MODE, retTl := s.rd R.TNN_TLCTL_MODE, retDem := t.sp.u })).done

/-! ### Scan state (R64, R65, R303) -/

/-- The root LSB that a rotation by a 32-bit fraction of a turn takes at the present speed. -/
def State.turnLsb (s : State) (frac : Nat) : Nat := frac * s.cpr * s.countTicks * 512 / 2 ^ 32

/-- The dead angle of the j-th facet boundary ahead, shrunk by the guard (R65). -/
def State.deadAhead (s : State) (j : Nat) : Nat × Nat :=
  let f := max 1 (s.rd R.TNN_SPCFG_FACETS)
  let d := (s.phi + (2 ^ 32 - s.rd R.TNN_DEADOFS_DEADOFS)) % 2 ^ 32
  let y := f * d % 2 ^ 32
  let ahead := (if s.tnn.reverse then y else 2 ^ 32 - y) + j * 2 ^ 32
  let mid := s.nowLsb + s.turnLsb (ahead / f)
  let h := s.turnLsb (s.rd R.TNN_DEADCFG_HALFW * 2 ^ 16)
  let g := 10240 * s.rd R.TNN_DEADCFG_GUARD
  (mid - h + g, mid + h - g)

/-- A dead angle is published once, 50 us or more before its start, if it is at least 1 us long (R65). -/
def State.publishDead (s : State) (j : Nat) : State :=
  let (a, z) := s.deadAhead j
  let near := s.nowLsb + 5120000 ≤ a && decide (a < s.nowLsb + 10240000)
  let dup := s.btn.windows.any (fun w => decide (w.start ≤ z) && decide (a ≤ w.stop))
  if s.rd R.TNN_DEADCFG_HALFW != 0 && near && decide (a + 102400 ≤ z) && !dup then
    { s with btn := { s.btn with windows := s.btn.windows ++ [{ start := a, stop := z, number := s.btn.winCount }],
                                 winCount := s.btn.winCount + 1 } }
  else s

/-- Truss's own phase as a 32-bit fraction (R291). -/
def State.phiT (s : State) : Nat := s.trs.phase.counts * 2 ^ 32 / max 1 s.trs.phase.revCnt % 2 ^ 32

/-- R303: Truss compares its phase with Tenon's at every sample; a disagreement is an exposure fault. -/
def State.phaseCompare (s : State) : State :=
  if s.phiValid && s.tnn.smpValid then
    let d := toSigned 32 ((s.phiT + (2 ^ 32 - s.tnn.smpPhi.toNat)) % 2 ^ 32)
    if max 1 (s.rd R.TRS_EXPCFG_PHTOL) * 2 ^ 16 < d.natAbs then
      (s.onTrs (fun t => { t with phFault := true })).trussFault 0x0106 0
    else s.onTrs (fun t => { t with phFault := false })
  else s

/-- The facet number (R64). -/
def State.facet (s : State) : Nat :=
  s.rd R.TNN_SPCFG_FACETS * ((s.phi + (2 ^ 32 - s.rd R.TNN_DEADOFS_DEADOFS)) % 2 ^ 32) / 2 ^ 32

/-- SCAN_STATE_SAMPLE (R64): Tenon publishes phase, facet, speed, tilt and SCANVALID, and dead angles while SCANVALID is 1. -/
def execScanStateSample (s : State) : Host.Outcome State Fault Refusal :=
  let valid := s.on R.TNN_STATUS_SCANVALID
  let s1 := s.onTnn (fun t => { t with smpLsb := s.nowLsb, smpPhi := BitVec.ofNat 32 s.phi, smpSpeed := s.speed
                                       smpTilt := s.fr R.TNN_TLPOS_M, smpValid := valid, smpFacet := s.facet })
  let s2 : State := { s1 with btn := { s1.btn with windows := s1.btn.windows.filter (fun w => decide (s.nowLsb < w.stop)) } }
  let s3 := if valid && s2.tnn.interval != 0 then (s2.publishDead 0).publishDead 1 else s2
  s3.phaseCompare.done

/-! ### Tilt (R69 to R74) -/

/-- A pending tilt swap whose frame start has passed is applied at the sample (R81, R82). -/
def State.tlSwapNow (s : State) : State :=
  if s.tnn.tlSwap && s.tnn.tlSwapDue then
    let b := 1 - s.tlBank
    let c := s.tiltCoef b
    let s1 := ((s.wr R.TNN_STATUS_TLBANK b).wr R.TNN_TLCTL_SWAP 0).onTnn (fun t =>
      { t with tlSwap := false, tlSwapDue := false, tl := { t.tl with i := fClamp c.imin c.imax t.tl.i } })
    (s1.flag R.TNN_INTSTAT_SWAPDONE).endInject true
  else s

/-- The tilt loop's setpoint (R70, R74). DEDUCED (log 136): t of R70 is the sample instant, at which the conversion starts. -/
def State.tiltSetpoint (s : State) : Word :=
  if s.tlMode = 1 then s.fr R.TNN_PARKPOS_POS else s.profile s.tnn.tlAge (512 * s.framePeriod)

/-- The tilt DAC takes an output: 16 bits, linear, full scale 2.000 V at +-1.0 (R69). DESIGN CHOICE (log 142): the code is
round(32,767 u). -/
def State.setDac (s : State) (u : Word) : State :=
  let c := clampI (-32767) 32767 (fTimesRound u 32767)
  (s.onTnn (fun t => { t with dac := c })).emit (.tiltDac c)

/-- One valid sample of the tilt loop in PARK or PROFILE. -/
def State.tiltLoop (s0 : State) (m : Word) : State :=
  let (s, injR, injU) := s0.injSample true
  let r := fAdd s.tiltSetpoint injR
  let x : LoopIn := { r := r, m := m, e := fSub r m, ff := s.tlFf m r, b := 0, inj := injU }
  let (l, sat) := loopStep (s.tiltCoef s.tlBank) (tsOf true) s.tnn.tl x
  let lim := s.fr (R.TNN_TL_FELIM s.tlBank)
  let n := feCount (s.rd R.TNN_FECNT_TL) (fLt lim (fAbs x.e))
  let s1 := (((s.fw R.TNN_TLERR_E x.e).fw R.TNN_TLOUT_U l.u).wrB R.TNN_STATUS_TLSAT sat).wr R.TNN_FECNT_TL n
  let s2 := s1.onTnn (fun t => { t with tl := l, tlOk := fLe (fAbs x.e) lim, tlTrip := t.tlTrip && n != 0 })
  ((s2.scanEval).capSample true x.r m x.e l.u).setDac l.u

/-- A tilt sample without a loop: the DAC at 0 V in OFF, open loop in TEST. -/
def State.tiltOpen (s0 : State) (m : Word) : State :=
  let (s, _, injU) := s0.injSample true
  let u := if s.tlMode = 3 then fAdd (s.fr R.TNN_TLOPEN_U) injU else 0
  ((((s.fw R.TNN_TLOUT_U u).wr R.TNN_STATUS_TLSAT 0).capSample true (Config.capIdle s.fresh) m (Config.capIdle (s.fresh + 1))
    u).draw.draw).setDac u

/-- An invalid tilt sample (R69): the output is held and the SCANVALID contribution falls; an injection and a capture go on, the
measurement and error of its entry being free (R83, R84). -/
def State.tiltInvalid (s0 : State) : State :=
  let (s, injR, _) := s0.injSample true
  let r := if s.tlMode = 1 || s.tlMode = 2 then fAdd s.tiltSetpoint injR else Config.capIdle (s.fresh + 2)
  let s1 := (s.onTnn (fun t => { t with tlBad := t.tlBad + 1, tlOk := false })).scanEval
  (s1.capSample true r (Config.capIdle s.fresh) (Config.capIdle (s.fresh + 1)) (s.fr R.TNN_TLOUT_U)).draw.draw.draw

/-- The result of a tilt conversion reaches Tenon (R69). -/
def State.tiltResult (s : State) (v : Int) (ovr wb : Bool) : State :=
  let s1 := ((s.wrS R.SIL_INJRES_RESULT v).wrB R.SIL_INJRES_OVR ovr).wrB R.SIL_INJRES_WB wb
  if ovr || wb then s1.tiltInvalid
  else
    let m := fRat (if s1.on R.TNN_TLCFG_SENSPOL then -v else v) 2097152
    let s2 := (s1.fw R.TNN_TLPOS_M m).onTnn (fun t => { t with tlBad := 0 })
    if s2.tlMode = 1 || s2.tlMode = 2 then s2.tiltLoop m else s2.tiltOpen m

/-- The converter an injected request goes to: the partner while a calibration run holds the one named (R335, R338). -/
def State.injAdc (s : State) : Bool :=
  let a := s.on R.SIL_INJCFG_ADC
  if s.on (if a then R.SIL_STATUS_CAL1 else R.SIL_STATUS_CAL0) then !a else a

/-- An injected request takes a converter: its inputs, and the burnout of the pins, come from TNN_TLCFG and SIL_INJCFG; a regular
sample in progress is aborted (R322, R335). -/
def State.inject (s : State) (adc : Bool) : State :=
  let p := s.rd R.TNN_TLCFG_AXPIN
  let n := s.rd R.SIL_INJCFG_NPIN
  let bo : XNode := .bo (s.on R.SIL_INJCFG_BOI)
  let s1 := s.when (s.sampling adc) (·.bump R.SIL_ABORTS_ABORT 1)
  let s2 : State := { s1 with sil := { s1.sil with
    injPend := true, injP := p, injN := n, injBo := if s.on R.SIL_INJCFG_BO then toNode p bo ++ toNode n bo else [] } }
  (s2.wr (if adc then R.SIL_STATUS_INJ1 else R.SIL_STATUS_INJ0) 1).switch

/-- The injected conversion ends: the converter's inputs are restored, and a calibration run that waited for it begins (R322,
R338). -/
def State.injectEnd (s : State) : State :=
  let s1 := ({ s with sil := { s.sil with injPend := false } }.wr R.SIL_STATUS_INJ0 0).wr R.SIL_STATUS_INJ1 0
  s1.switch.calStart

/-- TILT_SAMPLE (R73): a tilt bank swap that is due applies, and the injected conversion is asked for; Sill answers at once
where it cannot convert (R336), and aborts a regular sample in progress (R335). -/
def execTiltSample (s : State) : Host.Outcome State Fault Refusal :=
  let s1 := s.tlSwapNow.onTnn (fun t => { t with tlAge := s.frameAge })
  if s1.rd R.TNN_TLCFG_AXPIN = s1.rd R.SIL_INJCFG_NPIN || !s1.on R.SIL_STATUS_REFRDY then
    (s1.tiltResult markPos true false).done
  else (s1.inject s1.injAdc).done

/-- TILT_SAMPLE_READY (R69): the injected conversion of 2^TLOS codes ends; its result is that of R329 with its flags (R336). -/
def execTiltSampleReady (codes : List (BitVec 18)) (wbPins : BitVec 24) (s : State) : Host.Outcome State Fault Refusal :=
  if s.sil.injPend then
    let cor := s.silCor (s.on R.SIL_STATUS_INJ1)
    let v := convResult (firstCodes (2 ^ s.rd R.TNN_TLCFG_TLOS) codes) cor.1 cor.2
    let wb := ownPins (some (s.sil.injP, s.sil.injN)) wbPins
    let s2 := (s.injectEnd.when v.2 (·.flag R.SIL_INTSTAT_OVR)).seenWb wb
    (s2.tiltResult (if wb = 0 then v.1 else markPos) v.2 (wb != 0)).done
  else s.done

/-- TLSENS (R69): three consecutive invalid tilt samples. -/
def execTlsens (s : State) : Host.Outcome State Fault Refusal :=
  if 3 ≤ s.tnn.tlBad then (s.fault R.TNN_INTSTAT_TLSENS 1 0).done else s.done

/-! ### Mode requests (R62, R74) -/

/-- A spindle loop starts cold from the measured speed. DESIGN CHOICE (log 137): m_prev is the measurement at the start, so that
the first derivative term sees no step. -/
def State.spCold (s : State) : State :=
  s.onTnn (fun t => { t with sp := { i := 0, d := 0, mPrev := s.speed, rPrev := s.speed, u := t.sp.u }, setpoint := s.speed
                             phaseLoop := false, fall := false, engage := false, capN := 0, captured := false, lockN := 0 })

/-- An accepted change of spindle mode (R74 to R77). -/
def State.setSpMode (s : State) (m : Nat) : State :=
  let old := s.spMode
  let s1 := s.wr R.TNN_SPCTL_MODE m
  if old = m then s1
  else
    let s2 := (s1.wr R.TNN_STATUS_SPMODE m).endInject false
    let s3 := if old = 3 then (s2.onTnn (fun t => { t with spOk := false })).unlock else s2
    if m = 2 || m = 3 then
      if old = 2 || old = 3 then s3.onTnn (fun t => { t with capN := 0, captured := false })
      else s3.spCold.onTnn (fun t => { t with spinTimer := old != 4 })
    else
      (s3.wr R.TNN_STATUS_BLEND 0).onTnn (fun t =>
        { t with blend0 := 0, blendN := 2500, phaseLoop := false, fall := false, engage := false, spinTimer := false
                 portQuiet := t.portQuiet || m == 0 })

/-- A request of a spindle mode: refused with BADCFG for a reserved code, an invalid active bank, or the conditions of R62. -/
def State.requestSp (s : State) (m : Nat) : State :=
  let run := m = 2 || m = 3
  if 5 ≤ m || !s.spBankOk s.spBank || (run && (decide (s.rd R.TNN_ENCCFG_CPR < 256)
      || !s.spindleOk (s.rd R.TNN_SPCFG_FACETS) (s.rd R.TNN_SPCFG_REVS))) then
    s.refuse R.TNN_INTSTAT_BADCFG
  else s.setSpMode m

/-- SPINDLE_MODE_REQUEST (R74). -/
def execSpindleModeRequest (m : BitVec 3) (s : State) : Host.Outcome State Fault Refusal := (s.requestSp m.toNat).done

/-- An accepted change of tilt mode: the loop starts with a cold integrator, m_prev and r_prev at the measured position (R72, R74,
R78; log 137). DESIGN CHOICE (log 140): the following-error counter and a standing trip are kept when the mode is left. -/
def State.setTlMode (s : State) (m : Nat) : State :=
  let old := s.tlMode
  let s1 := s.wr R.TNN_TLCTL_MODE m
  if old = m then s1
  else
    let s2 := (s1.wr R.TNN_STATUS_TLMODE m).endInject true
    let pos := s2.fr R.TNN_TLPOS_M
    let s3 := if (m = 1 || m = 2) && !(old = 1 || old = 2) then
        s2.onTnn (fun t => { t with tl := { i := 0, d := 0, mPrev := pos, rPrev := pos, u := t.tl.u }, tlOk := false })
      else if m = 1 || m = 2 then s2
      else s2.onTnn (fun t => { t with tlOk := false })
    (if m = 0 then (s3.fw R.TNN_TLOUT_U 0).setDac 0 else s3).scanEval

/-- A request of a tilt mode: refused with BADCFG for a reserved code, an invalid active bank, or a pin that is none. -/
def State.requestTl (s : State) (m : Nat) : State :=
  if 4 ≤ m || !s.tlBankOk s.tlBank || ((m = 1 || m = 2) && decide (24 ≤ s.rd R.TNN_TLCFG_AXPIN)) then
    s.refuse R.TNN_INTSTAT_BADCFG
  else s.setTlMode m

/-- TILT_MODE_REQUEST (R74). -/
def execTiltModeRequest (m : BitVec 3) (s : State) : Host.Outcome State Fault Refusal := (s.requestTl m.toNat).done

/-- TNN_SPCFG_WRITE (R62): refused if it would put the target outside 10 to 400 rev/s with either period. -/
def execTnnSpcfgWrite (v : Word) (s : State) : Host.Outcome State Fault Refusal :=
  let v := v.toNat
  let s1 := s.rsvdCheck 0x240008 0xE000 v
  if s1.periods.all (fun p => targetOk (bits v 5 7) p) then
    ((((s1.wr R.TNN_SPCFG_FACETS (bits v 0 5)).wr R.TNN_SPCFG_REVS (bits v 5 7)).wr R.TNN_SPCFG_DIR (bits v 12 1)).wr
      R.TNN_SPCFG_SUTIME (bits v 16 16)).done
  else (s1.refuse R.TNN_INTSTAT_BADCFG).done

/-! ### Swaps, injection and capture (R81, R83, R84) -/

/-- SPINDLE_SWAP (R81): the inactive bank is checked; a further request before the swap is applied is ignored. -/
def execSpindleSwap (s : State) : Host.Outcome State Fault Refusal :=
  if s.tnn.spSwap then s.done
  else if s.spBankOk (1 - s.spBank) then ((s.wr R.TNN_SPCTL_SWAP 1).onTnn (fun t => { t with spSwap := true })).done
  else (s.refuse R.TNN_INTSTAT_BADCFG).done

/-- TILT_SWAP (R81): applied at the first tilt sample at or after the next frame start. -/
def execTiltSwap (s : State) : Host.Outcome State Fault Refusal :=
  if s.tnn.tlSwap then s.done
  else if s.tlBankOk (1 - s.tlBank) then
    ((s.wr R.TNN_TLCTL_SWAP 1).onTnn (fun t => { t with tlSwap := true, tlSwapDue := false })).done
  else (s.refuse R.TNN_INTSTAT_BADCFG).done

/-- INJECTION_START (R83): refused for reserved codes, a spindle in OFF or COAST, or a tilt in OFF. DESIGN CHOICE (log 138): with
LOOP = 0 there is nothing to inject into, and START is refused too. -/
def execInjectionStart (s : State) : Host.Outcome State Fault Refusal :=
  let l := s.rd R.TNN_INJCFG_LOOP
  let sh := s.rd R.TNN_INJCFG_SHAPE
  if l = 0 || l = 3 || sh = 3 || (l = 1 && s.spMode ≤ 1) || (l = 2 && s.tlMode = 0) then
    (s.refuse R.TNN_INTSTAT_BADCFG).done
  else
    (s.onTnn (fun t => { t with inj := some { tilt := l == 2, output := s.on R.TNN_INJCFG_POINT, shape := sh, n := 0
                                              lfsr := 0x7FF#11, stop := false } })).done

/-- INJECTION_STOP (R83): the injection ends at the next sample of its loop. -/
def execInjectionStop (s : State) : Host.Outcome State Fault Refusal :=
  (s.onTnn (fun t => { t with inj := t.inj.map (fun i => { i with stop := true }) })).done

/-- INJECTION_END (R83): INJLEN samples have been injected. -/
def execInjectionEnd (s : State) : Host.Outcome State Fault Refusal :=
  match s.tnn.inj with
  | some i =>
    let len := s.rd R.TNN_INJLEN_LEN
    if len != 0 && decide (len ≤ i.n) then (s.endInject i.tilt).done else s.done
  | none => s.done

/-- CAPTURE_START (R84): refused for a reserved loop or an area that is not 16-byte aligned inside the scratch region. DESIGN CHOICE
(log 141): STATUS.CAP reads 1 from START on, also while the capture waits for its trigger. -/
def execCaptureStart (s : State) : Host.Outcome State Fault Refusal :=
  let l := s.rd R.TNN_CAPCFG_LOOP
  let addr := s.rd R.TNN_CAPADDRLO_ADDR + 2 ^ 32 * s.rd R.TNN_CAPADDRHI_ADDR
  let n := if s.rd R.TNN_CAPCFG_LEN = 0 then 65536 else s.rd R.TNN_CAPCFG_LEN
  let a := s.fwu.alloc.scratch
  if l = 0 || l = 3 || addr % 16 != 0 || decide (addr < a.1) || decide (a.1 + a.2 < addr + 16 * n) then
    (s.refuse R.TNN_INTSTAT_BADCFG).done
  else
    (((s.onTnn (fun t => { t with cap := some { tilt := l == 2, addr := addr, len := n, n := 0, waitInj := s.on R.TNN_CAPCFG_TRIG } })).wr
      R.TNN_CAPCNT_CNT 0).wr R.TNN_STATUS_CAP 1).done

/-- CAPDONE (R84): LEN entries have been written. -/
def execCapdone (s : State) : Host.Outcome State Fault Refusal :=
  match s.tnn.cap with
  | some c =>
    if c.len ≤ c.n then
      (((s.onTnn (fun t => { t with cap := none })).wr R.TNN_STATUS_CAP 0).flag R.TNN_INTSTAT_CAPDONE).done
    else s.done
  | none => s.done

/-! ### Re-engagement after a full reset (R78) -/

/-- Stage SPIN after a full reset: the spindle turns within 5 % of its target, and an index was seen within 1.5
revolutions. -/
def State.inCaptureRange (s : State) : Bool :=
  fLe (fAbs (fSub s.speed s.target)) (fMul s.target (fRat 1 20)) && s.tnn.indexSeen
    && decide (2 * (s.clk.ticks - s.tnn.indexTick) ≤ 3 * s.cpr * s.countTicks)

/-- Tenon re-engages in its retained modes: a spindle within capture range takes up the retained demand at its next sample, a
hand-over sample (R77, R78), and one outside it spins up from the measured speed; the tilt loop restarts with a cold
integrator. DEDUCED (log 139): no check of R62 or R74 is repeated. -/
def State.reengage (s : State) : State :=
  let t := s.tnn
  let m := t.retSp
  let s1 :=
    if m = 2 || m = 3 then
      if s.inCaptureRange then
        let s2 := ((s.wr R.TNN_SPCTL_MODE m).wr R.TNN_STATUS_SPMODE m).fw R.TNN_RETDEM_U t.retDem
        s2.onTnn (fun t => { t with sp := { t.sp with u := t.retDem }, engage := true, spinTimer := true })
      else s.setSpMode m
    else if m = 0 then s else s.setSpMode m
  if t.retTl = 0 then s1 else s1.setTlMode t.retTl

end Sys2Proof.Machine
end

