-- ==== Sys2Proof/Machine/EpochOps.lean ====
section
/-!
DEFINITION. Scanning, configuration epochs and staged tables as host commands reach them (R22, R105, R106, R112, R123, R128, R297,
R380, R381).
-/
namespace Sys2Proof.Machine

/-- A change of Peg's own record. -/
def State.onPeg (s : State) (f : PegState → PegState) : State := { s with peg := f s.peg }

/-! ### Scan start and stop (R123, R379) -/

/-- The number of frame boundaries from the present frame to the first one at least 100 us behind a root instant. -/
def State.boundariesTo (s : State) (lsb : Nat) : Nat :=
  let p := 512 * max 1 s.peg.period
  max 1 ((lsb + 10240000 - s.peg.epochLsb + (p - 1)) / p)

/-- Peg accepts a scan start: status and result. -/
def State.scanStart (s : State) : State × Nat × Nat :=
  let now := s.rd R.PEG_FRAMENUM_NUM
  let step := (s.epochCfg s.peg.active).elStep
  if !(s.stage = 0x0D || s.stage = 0x0E) then (s, stState, noRes)
  else if s.peg.scanning then ((s.onPeg (fun p => { p with stopReq := false })).wr R.PEG_STATUS_STATE 2, stOk, now)
  else if !fLt 0 step then (s.refuse R.PEG_INTSTAT_BADCFG, stState, noRes)
  else
    let t := s.peg.startReq.getD s.nowLsb
    ((s.onPeg (fun p => { p with startReq := some t })).wr R.PEG_STATUS_STATE 1, stOk, (now + s.boundariesTo t) % 2 ^ 32)

/-- Peg accepts a scan stop; a resumption that is still to come after a full reset is withdrawn (R49). -/
def State.scanStop (s : State) : State × Nat × Nat :=
  if s.peg.scanning then
    ((s.onPeg (fun p => { p with stopReq := true })).wr R.PEG_STATUS_STATE 3, stOk, s.rd R.PEG_FRAMENUM_NUM)
  else
    let s1 : State := { s with boot := { s.boot with wasRun := false } }
    ((s1.onPeg (fun p => { p with startReq := none })).wr R.PEG_STATUS_STATE 0, stOk, s.peg.lastFrame)

/-! ### Staged areas (R380) -/

/-- Areas of 1 MiB for loaded tables: the upper 64 MiB of the firmware region. -/
def State.areaAddr (s : State) (i : Nat) : Nat := s.fwu.alloc.firmware.1 + s.fwu.alloc.firmware.2 - 2 ^ 20 * (64 - i % 64)

/-- Addresses of the tables that are staged or in force. -/
def State.areasUsed (s : State) : List Nat :=
  s.hif.staged.map (·.2) ++ s.peg.epochs.flatMap (fun p => [p.2.sightAddr, p.2.rowAddr, p.2.planAddr])
    ++ [s.plb.chanAddr] ++ (s.plb.chanNew.map (·.1)).toList

/-- The area that Krovent chooses: the first from its own pick that holds no table in use. -/
def State.chooseArea (s : State) : Nat :=
  let pick := Config.areaPick s.hif.nextArea
  match ((List.range 64).map (fun i => s.areaAddr (pick + i))).find? (fun a => !s.areasUsed.contains a) with
  | some a => a
  | none => s.areaAddr pick

/-- A table is copied into a staged area of its kind (R380). -/
def State.stageTable (s : State) (kind : Nat) (bytes : List Byte) : State × Nat :=
  let s0 := s.onHif (fun h => { h with staged := mapErase h.staged kind })
  let a := s0.chooseArea
  ((s0.hbmStore a bytes).onHif (fun h => { h with staged := mapIns h.staged kind a, nextArea := h.nextArea + 1 }), a)

/-- The staged table of a kind, or the one an epoch uses. -/
def State.stagedOr (s : State) (kind old : Nat) : Nat := mapGet old s.hif.staged kind

/-! ### Checks of staging -/

/-- Every entry of a sightline table is good (R105, R106). -/
def State.sightsGood (s : State) (addr : Nat) : Bool := (List.range 65536).all (fun i => sightGood (s.sightBytes addr i))

/-- Reserved bits of every row entry are zero (R106). -/
def State.rowsGood (s : State) (addr : Nat) : Bool := (List.range 2048).all (fun i => bits (leNat (s.hbmBytes (addr + 4 * i) 4)) 22 10 == 0)

/-- Reserved bits of every plan entry are zero (R128). -/
def State.plansGood (s : State) (addr : Nat) : Bool := (List.range 4096).all (fun i => bits (leNat (s.hbmBytes (addr + 4 * i) 4)) 25 7 == 0)

/-- Truss's copy of the BUDGET column of a sightline table (R297). -/
def State.readBudgets (s : State) (addr : Nat) : List (Bool × Nat) :=
  (List.range 65536).map (fun i => let e := Sight.parse (s.sightBytes addr i); (e.valid, e.budget))

/-- Every VALID entry's directions lie inside the active budget bank (R297). -/
def State.budgetsFit (s : State) (l : List (Bool × Nat)) : Bool :=
  l.all (fun p => !p.1 || decide (p.2 + s.nsect - 1 < s.budBank.ndir))

/-- The block that refuses the staging of a configuration: 1 Batten, 2 Peg, 3 Joist, 4 Truss's BUDGET copy; 0 for none (R381). Batten
checks every CRC and every reserved field of both its tables, loaded anew or not (R106). -/
def State.stagingCode (s : State) (c : EpochCfg) (copy : List (Bool × Nat)) : Nat :=
  let new (k : Nat) : Bool := s.hif.staged.any (fun p => p.1 == k)
  let spin := s.spMode == 2 || s.spMode == 3
  if !s.sightsGood c.sightAddr || !s.rowsGood c.rowAddr then 1
  else if (new 3 && !s.plansGood c.planAddr) || (spin && !targetOk (s.rd R.TNN_SPCFG_REVS) c.period) then 2
  else if s.on R.JST_STATUS_LOADBUSY then 3
  else if !s.budgetsFit copy then 4
  else 0

/-- What a refusal by a block sets (R106, R122, R128, R297). -/
def State.stagingRefused (s : State) (code : Nat) (c : EpochCfg) : State :=
  if code = 1 || code = 4 then (s.wr R.BTN_EPOCH_STGBAD 1).fault R.BTN_INTSTAT_STGBAD 1 0
  else if code = 2 then
    let s1 := s.refuse R.PEG_INTSTAT_BADCFG
    if (s.spMode == 2 || s.spMode == 3) && !targetOk (s.rd R.TNN_SPCFG_REVS) c.period then s1.refuse R.TNN_INTSTAT_BADCFG else s1
  else s

/-- Batten stages an epoch's words on every driver and sends its COMMIT (R112). -/
def State.sendEpoch (s : State) (e time : Nat) : State :=
  s.onRings (fun t r => t.ringEn r && t.ringUp r) (fun t r => t.stageOn r e (time * 64 / 5))

/-- The staged fields and tables as the configuration of the next epoch (R22, R381). -/
def State.nextCfg (s : State) : EpochCfg :=
  let c := s.epochCfg s.peg.active
  let set := match s.jst.staged with | some p => p.num | none => c.progSet
  s.captureCfg (s.stagedOr 1 c.sightAddr) (s.stagedOr 2 c.rowAddr) (s.stagedOr 3 c.planAddr) set

/-- Every block has accepted the staging of epoch E (R381). -/
def State.acceptEpoch (s : State) (e time : Nat) (c : EpochCfg) (copy : List (Bool × Nat)) : State :=
  let s1 := s.onPeg (fun p => { p with epochs := mapIns (mapErase (p.epochs.filter (fun x => x.1 == p.active)) e) e c })
  let s2 := s1.onTrs (fun t => { t with budCopy := (t.budCopy.filter (fun x => x.1 == s.peg.active)) ++ [(e, copy)] })
  let sets := match s.jst.staged with | some p => s.jst.sets.filter (fun x => x.num != p.num) ++ [p] | none => s.jst.sets
  let s3 : State := { s2 with jst := { s2.jst with sets := sets, staged := none } }
  let s4 := s3.onHif (fun h => { h with staged := h.staged.filter (fun p => p.1 == 4 || p.1 == 5), waitCommit := none
                                        accepted := some (e, time) })
  let s5 := ((((s4.wr R.BTN_EPOCH_STAGED e).wr R.BTN_EPOCH_STGVALID 1).wr R.BTN_EPOCH_STGBAD 0).wr R.JST_STATUS_STGVALID 0)
  s5.sendEpoch e time

/-- The execution point of EPOCH_COMMIT (R381): state afterwards, status and refusing block. -/
def State.epochPoint (s : State) (e time : Nat) : State × Nat × Nat :=
  let s0 := s.onHif (fun h => { h with waitCommit := none })
  if time < 1000000 + s.clk.devTime.toNat then (s0, stTooSoon, e)
  else
    let c := s.nextCfg
    let old := match s.trs.budCopy.find? (fun p => p.1 == s.peg.active) with | some p => p.2 | none => []
    let copy := if s.hif.staged.any (fun p => p.1 == 1) then s.readBudgets c.sightAddr else old
    let code := s.stagingCode c copy
    if code = 0 then (s0.acceptEpoch e time c copy, stOk, e)
    else (s0.stagingRefused code c, stBadTable, e + 256 * code)

/-- The last window close, in device time, of a burst planned under an epoch other than the new one (R227). -/
def State.lastClose (s : State) (e : Nat) : Nat :=
  ((s.peg.bursts.filter (fun b => b.epoch != e)).map (fun b => (s.timeAt b.closeLsb).toNat)).foldl max 0

/-- The accepted epoch becomes active (R22), with its marker at the epoch's own device time (R227). -/
def State.epochStarts (s : State) (e time : Nat) : State :=
  let old := s.peg.active
  let drain := max time (s.lastClose e)
  let s1 := (s.onPeg (fun p => { p with active := e })).onHif (fun h => { h with accepted := none })
  let s2 := ((s1.wr R.BTN_EPOCH_ACTIVE e).wr R.BTN_EPOCH_STGVALID 0).setInfo
  let b := ((s2.nowLsb : Int) + ((time : Int) - (s2.clk.devTime.toNat : Int)) * 512 / 5).toNat
  (s2.swapsAt .epoch b).raiseMarker b (BitVec.ofNat 64 time) 5 (leBytes 1 e ++ leBytes 1 old ++ leBytes 8 drain) 0

end Sys2Proof.Machine
end

