-- ==== Sys2Proof/Machine/Queues.lean ====
section
/-!
DEFINITION. The commands of subscriber queues (R238, R374, R383 to R395).
-/
namespace Sys2Proof.Machine

/-! ### Doorbell, head word, interrupts -/

/-- CONSUMED arrives with a doorbell: one behind the present value, or beyond the last record delivered, is ignored (R389). -/
def State.consumedIn (s : State) (q : Nat) (x : SubQueue) (c : Nat) : State :=
  if c = 0 then s
  else if seqLater x.consumed c || seqLater c x.delivered then s.dbBad
  else s.putQueue q { x with consumed := c, passed := x.passed.filter (fun n => seqLater n c) }

/-- The effect of a whole doorbell on an open queue (R374, R388, R389, R391). -/
def State.queueBell (s : State) (q : Nat) (x : SubQueue) (v : Nat) (bufs : List (BitVec 128)) (head : Nat) : State :=
  let n := (bits v 0 15 + (2 ^ 15 - x.pi % 2 ^ 15)) % 2 ^ 15
  if 2 ^ x.brLog2 < x.bufs.length + n then s.dbBad
  else
    let arm := v.testBit 15
    let new := (bufs.take n).map HostBuf.parse
    let shut := x.closing.isSome
    let y := { x with pi := bits v 0 15, bufs := if shut then x.bufs else x.bufs ++ new
                      notes := if shut then x.notes ++ new.map (fun b => (130#16, b.id)) else x.notes
                      armed := x.armed || arm, sinceArm := if arm then 0 else x.sinceArm }
    let s1 := if s.dmaOn then s.headIn q y head else s.putQueue q y
    let s2 := match s1.queue q with | some z => s1.consumedIn q z (bits v 16 48) | none => s1
    s2.settleQueue q

/-- QUEUE_DOORBELL (R374): a write at a subscriber queue's doorbell. -/
def execQueueDoorbell (q : Fin 4096) (whole : Bool) (v : BitVec 64) (bufs : List (BitVec 128)) (headWord : BitVec 64)
    (s : State) : Host.Outcome State Fault Refusal :=
  if !s.barOn then s.done
  else if !whole || s.qState q.val != 1 then s.dbBad.done
  else
    match s.queue q.val with
    | some x => (s.queueBell q.val x v.toNat bufs headWord.toNat).done
    | none => s.dbBad.done

/-- HEAD_WORD_POLL (R388): a queue that waits for room reads its head word every 2 us. -/
def execHeadWordPoll (q : Fin 4096) (headWord : BitVec 64) (s : State) : Host.Outcome State Fault Refusal :=
  match s.queue q.val with
  | some x => if s.dmaOn && s.qState q.val == 1 then ((s.headIn q.val x headWord.toNat).settleQueue q.val).done else s.done
  | none => s.done

/-- INTERRUPT_COALESCE (R391): COALNS has run from the first completion since arming. -/
def execInterruptCoalesce (q : Fin 4096) (s : State) : Host.Outcome State Fault Refusal :=
  match s.queue q.val with
  | some x => if x.armed && decide (0 < x.sinceArm) then (s.queueMsg q.val x).done else s.done
  | none => s.done

/-! ### Delivery -/

/-- The queues that name a stream channel, in the order in which the channel serves them: round-robin from the one behind the
queue served last (R396). -/
def State.channelOrder (s : State) (c : Nat) : List (Nat × SubQueue) :=
  let l := s.hif.queues.filter (fun p => p.2.channel == c)
  let last := mapGet 4096 s.hif.rr c
  l.filter (fun p => decide (last < p.1)) ++ l.filter (fun p => decide (p.1 ≤ last))

/-- A stream channel that was stopping has ended its group (R399). -/
def State.channelStopped (s : State) (c : Nat) : State :=
  if s.rd (R.PUR_CHSTAT_STATE c) = 2 then (s.wr (R.PUR_CHSTAT_STATE c) 3).flag R.PUR_INTSTAT_STOPPED else s

/-- SUBSCRIBER_DELIVERY (R386, R396): stream channel `c` serves its next queue. -/
def execSubscriberDelivery (c : Fin 32) (s : State) : Host.Outcome State Fault Refusal :=
  if !s.dmaOn || !(s.on (R.PUR_CHCFG_RUN c.val) || s.rd (R.PUR_CHSTAT_STATE c.val) == 2) then s.done
  else
    match (s.channelOrder c.val).find? (fun p => s.queueReady p.1 p.2) with
    | none => (s.channelStopped c.val).done
    | some p =>
      let s1 := (s.serveQueue p.1 p.2).onHif (fun h => { h with rr := mapSet 4096 h.rr c.val p.1 })
      (s1.channelStopped c.val).done

/-- DEMOTION (R238, R390): a reliable queue that has held the release point while the journal was full becomes best-effort. -/
def execDemotion (q : Fin 4096) (s : State) : Host.Outcome State Fault Refusal :=
  match s.queue q.val with
  | none => s.done
  | some x =>
    if s.on R.JNL_CTL_DEMOTE && s.jnlFull && !x.best && x.hold == s.release then
      let s1 := s.putQueue q.val { x with best := true, passed := [], notes := x.notes ++ [(16, Config.noBufid % 65536)] }
      (((s1.bump R.JNL_DEMOTED_CNT 1).fault R.JNL_INTSTAT_DEMOTED 3 q.val).settleQueue q.val).done
    else s.done

/-! ### Queue commands -/

/-- Effect of QUEUE_CREATE: status, and the queue opened (R383). -/
def State.createQueue (s : State) (q : Nat) (block : BitVec 1024) : State × Nat × Nat :=
  let b := blockBytes block
  let start := fieldAt b 28 6
  let gen := fieldAt b 36 4
  if 4096 ≤ q then (s, stBadParam, 0)
  else if s.qState q != 0 then (s, stNoQueue, 0)
  else if !blockOk b || (start != 0 && (seqLater s.release start || seqLater start s.jnl.head)) then (s, stBadParam, 0)
  else if gen != 0 && gen != s.jnl.gen.toNat then (s, stNewGen, 0)
  else
    let scan := if start = 0 then s.jnl.head else start
    (((s.putQueue q (SubQueue.ofBlock b scan (seqPrev scan))).wr (R.HIF_QSTATE_STATE q) 1).fullBegins, stOk, 0)

/-- QUEUE_CREATE (R383). -/
def execQueueCreate (r : Fin 16) (block : Option (BitVec 1024)) (s : State) : Host.Outcome State Fault Refusal :=
  (s.command r.val 9 24 true (fun e => match block with
    | none => (s, stDmaErr, 0)
    | some b => s.createQueue (cmdParam e) b)).done

/-- Effect of QUEUE_RESUME (R395): a queue goes on at NEXT, or at number 1 of a new generation. -/
def State.resumeQueue (s : State) (q next gen : Nat) (block : BitVec 1024) : State × Nat × Nat :=
  let b := blockBytes block
  match s.queue q with
  | none => (s, if 4096 ≤ q then stBadParam else stNoQueue, 0)
  | some x =>
    if s.qState q != 2 then (s, stNoQueue, 0)
    else if !blockOk b || (fieldAt b 10 1 == 1) != x.best || sliceBytes b 64 32 != x.filter then (s, stBadParam, 0)
    else if gen != s.jnl.gen.toNat then
      ((s.putQueue q { SubQueue.ofBlock b 1 0 with owed := 32, notes := x.notes }).wr (R.HIF_QSTATE_STATE q) 1, stNewGen, 0)
    else if next = 0 || !seqLater next x.consumed || seqLater next x.scan then (s, stBadParam, 0)
    else
      let y := { SubQueue.ofBlock b next x.consumed with
        delivered := if seqLater next x.delivered then x.delivered else seqPrev next
        passed := x.passed.filter (fun n => seqLater next n), notes := x.notes }
      ((s.putQueue q y).wr (R.HIF_QSTATE_STATE q) 1, stOk, 0)

/-- QUEUE_RESUME (R395). -/
def execQueueResume (r : Fin 16) (block : Option (BitVec 1024)) (s : State) : Host.Outcome State Fault Refusal :=
  (s.command r.val 10 36 true (fun e =>
    if cmdField e 30 2 != 0 then (s, stBadParam, 0)
    else match block with
      | none => (s, stDmaErr, 0)
      | some b => s.resumeQueue (cmdParam e) (cmdField e 24 6) (cmdField e 32 4) b)).done

/-- The effect of QUEUE_CLOSE (R392, R404): an open queue first writes a completion for every buffer it holds. -/
def State.closeQueue (s : State) (r q : Nat) (e : BitVec 512) : State :=
  if 4096 ≤ q then s.complete r e stBadParam 0
  else if s.qState q = 0 then s.complete r e stNoQueue 0
  else if s.qState q = 3 then
    (s.onHif (fun h => { h with queues := mapErase h.queues q })).complete r e stWedged 0
  else
    match s.queue q with
    | none => s.complete r e stNoQueue 0
    | some x =>
      if s.qState q = 2 then (s.dropQueue q).complete r e stOk 0
      else if x.closing.isSome then s.complete r e stNoQueue 0
      else
        let notes := x.notes ++ x.bufs.map (fun b => (130#16, b.id))
        (s.putQueue q { x with bufs := [], offset := 0, notes := notes, closing := some r }).settleQueue q

/-- QUEUE_CLOSE (R392). -/
def execQueueClose (r : Fin 16) (s : State) : Host.Outcome State Fault Refusal :=
  match s.frontCmd r.val 11 with
  | none => s.done
  | some e => (if cmdClean e 16 then s.closeQueue r.val (cmdParam e) e else s.complete r.val e stBadParam 0).done

/-- The effect of QUEUE_FILTER (R384). -/
def State.filterQueue (s : State) (q : Nat) (f : List Byte) : State × Nat × Nat :=
  if 4096 ≤ q then (s, stBadParam, 0)
  else
    match s.queue q with
    | none => (s, stNoQueue, 0)
    | some x =>
      if s.qState q != 1 then (s, stNoQueue, 0)
      else if !filterOk f then (s, stBadParam, 0)
      else
        (s.putQueue q { x with filter := f, notes := x.notes ++ [(64, Config.noBufid % 65536)] }, stOk, 0)

/-- QUEUE_FILTER (R384): the queue's completion with FILTER follows as soon as it has room. -/
def execQueueFilter (r : Fin 16) (s : State) : Host.Outcome State Fault Refusal :=
  (s.command r.val 12 48 true (fun e =>
    let (s1, st, res) := s.filterQueue (cmdParam e) (leBytes 32 (cmdField e 16 32))
    (if st = 0 then s1.settleQueue (cmdParam e) else s1, st, res))).done

end Sys2Proof.Machine
end

