-- ==== Sys2Proof/Machine/Commands.lean ====
section
/-!
DEFINITION. Command rings and the commands of R379 on scanning, time, epochs, tables, program sets and poses (R205, R209, R210, R374
to R382, R435, R436).
-/
namespace Sys2Proof.Machine

/-! ### The doorbell (R374 to R376) -/

/-- A whole doorbell of an enabled ring: entries up to PI are fetched, and those that execute nothing complete. -/
def State.ringBell (s : State) (r v : Nat) (entries : List (BitVec 512)) : State :=
  let n := (bits v 0 16 + (2 ^ 16 - s.rd (R.HIF_CRSTAT_HEAD r))) % 2 ^ 16
  if 2 ^ s.rd (R.HIF_CRCFG_LOG2 r) < (s.cmdRing r).fetched.length + n then s.dbBad
  else
    (s.when (v.testBit 16) (·.setCmdRing r (fun x => { x with armed := true }))).ringFetch r n entries

/-- COMMAND_DOORBELL (R374, R376). -/
def execCommandDoorbell (r : Fin 16) (whole : Bool) (v : BitVec 64) (entries : List (BitVec 512)) (s : State) :
    Host.Outcome State Fault Refusal :=
  if !s.barOn then s.done
  else if !whole || v.toNat / 2 ^ 17 != 0 || !s.on (R.HIF_CRCFG_EN r.val) then s.dbBad.done
  else (s.ringBell r.val v.toNat entries).done

/-! ### Scanning, time and epochs -/

/-- NOP (R379). -/
def execNop (r : Fin 16) (s : State) : Host.Outcome State Fault Refusal := (s.command r.val 1 16 false (fun _ => (s, stOk, 0))).done

/-- SCAN_START (R123, R379). -/
def execScanStart (r : Fin 16) (s : State) : Host.Outcome State Fault Refusal :=
  (s.command r.val 2 16 false (fun _ => s.scanStart)).done

/-- SCAN_STOP (R123, R379). -/
def execScanStop (r : Fin 16) (s : State) : Host.Outcome State Fault Refusal :=
  (s.command r.val 3 16 false (fun _ => s.scanStop)).done

/-- TIME_SET (R45). -/
def execTimeSet (r : Fin 16) (s : State) : Host.Outcome State Fault Refusal :=
  (s.command r.val 4 24 false (fun e => (s.timeSetStep (cmdField e 16 8), stOk, 0))).done

/-- The effect of EPOCH_COMMIT (R381): refused, waiting, or at its execution point. -/
def State.commitEpoch (s : State) (r : Nat) (e : BitVec 512) : State :=
  let n := cmdField e 16 1
  let time := cmdField e 24 8
  if n != (s.peg.active + 1) % 256 || s.hif.waitCommit.isSome || s.hif.accepted.isSome then s.complete r e stState n
  else if s.olderHeld then s.onHif (fun h => { h with waitCommit := some { ring := r, cid := cmdCid e, epoch := n, time := time } })
  else
    let (s1, st, res) := s.epochPoint n time
    s1.complete r e st res

/-- EPOCH_COMMIT (R381). -/
def execEpochCommit (r : Fin 16) (s : State) : Host.Outcome State Fault Refusal :=
  match s.frontCmd r.val 5 with
  | none => s.done
  | some e =>
    (if cmdClean e 32 && cmdParam e == 0 && cmdField e 17 7 == 0 then s.commitEpoch r.val e
      else s.complete r.val e stBadParam noRes).done

/-- EPOCH_COMMIT_EXECUTION (R381): the older epoch has been released. -/
def execEpochCommitExecution (s : State) : Host.Outcome State Fault Refusal :=
  match s.hif.waitCommit with
  | none => s.done
  | some w =>
    if s.ringRuns w.ring && !s.olderHeld then
      let (s1, st, res) := s.epochPoint w.epoch w.time
      (s1.completeHeld w.ring st res).done
    else s.done

/-- EPOCH_EFFECTIVE (R22, R381): at its device time an accepted epoch becomes active. -/
def execEpochEffective (s : State) : Host.Outcome State Fault Refusal :=
  match s.hif.accepted with
  | none => s.done
  | some (e, t) => ((s.epochStarts e t).settleJnl).done

/-! ### Tables (R380, R402) -/

/-- A table's length fits its kind (R380). -/
def tableLenOk (kind len : Nat) : Bool :=
  match kind with
  | 1 => len == 1048576
  | 2 => len == 8192
  | 3 => len == 16384
  | 4 => decide (16 ≤ len) && decide (len ≤ 65536) && len % 16 == 0
  | 5 => len == 1048576
  | _ => false

/-- What a fetch from host memory brings: exactly the length asked for. -/
def fitBytes (n : Nat) (l : List Byte) : List Byte := l.take n ++ List.replicate (n - l.length) 0

/-- The effect of TABLE_LOAD: the copy, checked under the management core's table (R402). -/
def State.loadTable (s : State) (kind addr len : Nat) (data : Option (List Byte)) : State × Nat × Nat :=
  if !tableLenOk kind len || addr % 64 != 0 then (s, stBadParam, noRes)
  else
    match data with
    | none => (s, stDmaErr, noRes)
    | some b =>
      let (s1, a) := s.stageTable kind (fitBytes len b)
      match s.girtSpan girtPurlin63 a len true with
      | some bad => (s.girtDenyHbm girtPurlin63 bad true, 0x0B, noRes)
      | none =>
        let s2 := if kind = 5 then ({ s1 with plb := { s1.plb with chanNew := some (a, s1.nowLsb) } } : State) else s1
        (s2, stOk, a / 64)

/-- TABLE_LOAD (R380). -/
def execTableLoad (r : Fin 16) (data : Option (List Byte)) (s : State) : Host.Outcome State Fault Refusal :=
  (s.command r.val 6 28 true (fun e => s.loadTable (cmdParam e) (cmdField e 16 8) (cmdField e 24 4) data)).done

/-! ### Program sets (R205, R209, R210, R435, R436) -/


/-- Rule 1 of R205: header and lengths. -/
def psHeadOk (b : List Byte) : Bool :=
  decide (0x90 ≤ b.length) && fieldAt b 0 4 == 0x4A535450 && fieldAt b 4 2 == 1 && psCode b % 4 == 0
    && decide (psCode b + psConst b ≤ 16384) && decide (psShared b ≤ 786432)
    && (List.range 8).all (fun i => fieldAt b (20 + 8 * i) 4 == 0) && zeroSpan b 0x54 12
    && decide (0x90 + psCode b + psConst b + psShared b ≤ b.length)

/-- The hash of an image, over all but the hash itself. -/
def psHash (b : List Byte) : List Byte := sha384 (b.take 0x60 ++ b.drop 0x90)

/-- Rule 2: the hash. -/
def psHashOk (b : List Byte) : Bool := psHash b == sliceBytes b 0x60 48

/-- Rule 3: the first slot that is missing or whose entry lies outside the code. -/
def psEntryBad (b : List Byte) : Option Nat :=
  (List.range 8).find? (fun i => if psBudget b i = 0 then decide (i < 2) else decide (psCode b / 4 ≤ psEntry b i))

/-- Rule 9: the first slot with a budget above 4,096. -/
def psBudgetBad (b : List Byte) : Option Nat := (List.range 8).find? (fun i => decide (4096 < psBudget b i))

/-- The loader's proof (R205): code, slot and worst-path cost. `p` says what the loader finds in the instruction words, whose
encodings the spec does not give: which of rules 4 to 8 fails first, if any, and the worst path that it computes. -/
def proveSet (b : List Byte) (p : ProofFind) : Nat × Nat × Nat :=
  let free := Config.noProof b
  if !psHeadOk b then (1, free % 8, free / 8 % 8192)
  else if !psHashOk b then (2, free % 8, free / 8 % 8192)
  else
    match psEntryBad b with
    | some i => (3, i, free / 8 % 8192)
    | none =>
      if 4 ≤ p.rule.toNat && decide (p.rule.toNat ≤ 8) then (p.rule.toNat, p.slot.toNat, min p.worst 8191)
      else
        match psBudgetBad b with
        | some i => (9, i, free / 8 % 8192)
        | none => (if psBudget b p.slot.toNat < p.worst then 10 else 0, p.slot.toNat, min p.worst 8191)

/-- Two images hold the same program: slots, code and constants; their shared tables may differ (R224). -/
def sameProgram (a b : List Byte) : Bool :=
  psCode a == psCode b && psConst a == psConst b && sliceBytes a 16 64 == sliceBytes b 16 64
    && sliceBytes a 0x90 (psCode a + psConst a) == sliceBytes b 0x90 (psCode a + psConst a)

/-- The set that a proven image holds; `own` is the image of the firmware's standard set. -/
def ProgSet.ofImage (num : Nat) (own b : List Byte) : ProgSet :=
  { num := num, standard := sameProgram own b, ident := fieldAt b 6 2, image := b
    slots := ((List.range 8).filter (fun i => psBudget b i != 0)).map (fun i => (i, psBudget b i)) }

/-- The image of the standard program set that the running firmware holds (R207, R425, R435). -/
def State.standardImage (s : State) : List Byte := match s.fwu.running with | some i => i.sect 4 | none => []

/-- JST_PROOF as a word. -/
def State.proofWord (s : State) : Nat := s.rd R.JST_PROOF_CODE + 16 * s.rd R.JST_PROOF_SLOT + 256 * s.rd R.JST_PROOF_WORST

/-- The result of a proof in JST_PROOF; a refusal sets PROOFFAIL (R210). -/
def State.showProof (s : State) (p : Nat × Nat × Nat) : State :=
  let s1 := ((s.wr R.JST_PROOF_CODE p.1).wr R.JST_PROOF_SLOT p.2.1).wr R.JST_PROOF_WORST p.2.2
  s1.when (p.1 != 0) (·.refuse R.JST_INTSTAT_PROOFFAIL)

/-- The program-set image in what PROG_LOAD fetched, or the code of its refusal (R435, R436). -/
def State.openSet (s : State) (b : List Byte) : Nat × List Byte :=
  if fieldAt b 0 4 = 0x5A4B494D then
    if imgType b == 1 || imgType b == 2 then (14, [])
    else
      match s.checkImage b [3] with
      | (0, some i) => (0, i.payload)
      | (c, _) => (c, [])
  else if s.fwu.otp.progsig || s.on R.FWU_CTL_PROGSIG then (14, [])
  else (0, b)

/-- A set proven and accepted is written, or waits for a bank; the ring is held while it waits. -/
def State.acceptSet (s : State) (r : Nat) (e : BitVec 512) (img : List Byte) : State :=
  let p := ProgSet.ofImage s.jst.nextSet s.standardImage img
  let s1 := ({ s with jst := { s.jst with nextSet := s.jst.nextSet + 1 } } : State).bankWrite p
  if s1.jst.waiting.isSome then { s1 with jst := { s1.jst with loadRing := some r } } else s1.complete r e stOk s1.proofWord

/-- The effect of PROG_LOAD. -/
def State.loadSet (s : State) (r : Nat) (e : BitVec 512) (data : Option (List Byte)) : State :=
  match data with
  | none => s.complete r e stDmaErr noRes
  | some d =>
    let b := fitBytes (cmdField e 24 4) d
    match s.openSet b with
    | (0, img) =>
      let s1 := s.showProof (proveSet img (Config.proofOf img))
      if s1.rd R.JST_PROOF_CODE = 0 then s1.acceptSet r e img else s1.complete r e stProof s1.proofWord
    | (c, _) => (((s.wr R.FWU_ERR_CODE c).refuse R.FWU_INTSTAT_IMGREJ).complete r e stProof (Config.noProof b % 2 ^ 32))

/-- PROG_LOAD (R210, R435): the loader takes one set at a time, so it waits while another waits for a bank. -/
def execProgLoad (r : Fin 16) (data : Option (List Byte)) (s : State) : Host.Outcome State Fault Refusal :=
  if s.jst.waiting.isSome then s.done
  else
    match s.frontCmd r.val 7 with
    | none => s.done
    | some e => (if cmdClean e 28 && cmdParam e == 0 then s.loadSet r.val e data else s.complete r.val e stBadParam noRes).done

/-- PROGRAM_BANK_WRITE (R210): a bank is free for the set that waits, and its command completes. -/
def execProgramBankWrite (s : State) : Host.Outcome State Fault Refusal :=
  match s.jst.waiting with
  | none => s.done
  | some p =>
    if s.bankFree then
      let s1 := s.bankWrite p
      let s2 : State := { s1 with jst := { s1.jst with loadRing := none } }
      match s.jst.loadRing with
      | some r => (s2.completeHeld r stOk s2.proofWord).done
      | none => s2.done
    else s.done

/-! ### Poses (R248, R249) -/

/-- Samples enter the pose tables; accepted and refused are counted. -/
def State.poseEnter (s : State) : List (BitVec 384) → Nat → Nat → State × Nat × Nat
  | [], a, r => (s, a, r)
  | p :: l, a, r => if s.poseFits p then (s.poseIn p).poseEnter l (a + 1) r else (s.poseIn p).poseEnter l a (r + 1)

/-- The effect of POSE. -/
def State.enterPoses (s : State) (samples : List (BitVec 384)) : State × Nat × Nat :=
  let (s1, a, r) := s.poseEnter samples 0 0
  (s1.poseTick, stOk, a + 2 ^ 16 * r)

/-- The effect of POSE on a command entry: one sample inline, or n from host memory. -/
def State.poseCommand (s : State) (r : Nat) (e : BitVec 512) (data : Option (List (BitVec 384))) : State :=
  let n := cmdParam e
  let answer (x : State × Nat × Nat) : State := x.1.complete r e x.2.1 x.2.2
  if n = 0 then if cmdClean e 64 then answer (s.enterPoses [e.extractLsb' 128 384]) else s.complete r e stBadParam noRes
  else if n ≤ 64 && cmdClean e 24 then
    match data with
    | none => s.complete r e stDmaErr noRes
    | some l => answer (s.enterPoses (l.take n ++ List.replicate (n - l.length) 0))
  else s.complete r e stBadParam noRes

/-- POSE (R249, R379). -/
def execPose (r : Fin 16) (data : Option (List (BitVec 384))) (s : State) : Host.Outcome State Fault Refusal :=
  match s.frontCmd r.val 8 with
  | none => s.done
  | some e => (s.poseCommand r.val e data).done

end Sys2Proof.Machine
end

