-- ==== Sys2Proof/Machine/DowelOps.lean ====
section
/-!
DEFINITION. The operations of Dowel: the lane pairs and their training (R407 to R411, R364), the tie link layer with its
sequence numbers, acknowledgement and retry (R412 to R415), tie time and the offset to the master (R416 to R418).
-/
namespace Sys2Proof.Machine

/-! ### Tie links: records and conditions -/

/-- A tie link that is down and holds nothing. -/
def TieLink.zero : TieLink :=
  { up := false, txSeq := 0, rxSeq := 0, naked := none, out := [], queue := [], nbrIndex := none, nbrHops := 255, nbrPer := 0
    syncN := 0, syncTx := [], syncRx := none, fit := [], nbrTheta := 0, injN := 0, heldFr := none, noIdle := 0 }

/-- Tie link k, on pair 16 + k. -/
def State.link (s : State) (k : Nat) : TieLink := mapGet .zero s.dwl.links k

/-- A change of Dowel's own state. -/
def State.onDwl (s : State) (f : DwlState → DwlState) : State := { s with dwl := f s.dwl }

/-- A change of a tie link. -/
def State.setLink (s : State) (k : Nat) (f : TieLink → TieLink) : State :=
  s.onDwl (fun d => { d with links := mapSet .zero d.links k (f (s.link k)) })

/-- Link k is in use: the tie network is on and the pair enabled (R422). -/
def State.tieOn (s : State) (k : Nat) : Bool := s.on R.DWL_TIECFG_TIEEN && (s.rd R.DWL_TIECFG_LINKEN).testBit k

/-- The unit takes part in the tie network: a unit that has seen its index twice treats itself as untied (R416). -/
def State.tied (s : State) : Bool := s.on R.DWL_TIECFG_TIEEN && !s.on R.DWL_TIESTAT_DUPIDX

/-- The unit is the tie master, unit 0 (R137). -/
def State.tieMaster (s : State) : Bool := s.tied && s.rd R.DWL_TIECFG_INDEX == 0

/-- Pair p is up (R410). -/
def State.pairUp (s : State) (p : Nat) : Bool := (s.rd R.DWL_STATUS_UP).testBit p

/-- Tie time of a root instant: the 48-bit coarse count times 32 (R417). -/
def tieTime (lsb : Nat) : Nat := lsb % 2 ^ 53

/-- A number of tie time as a signed value of `w` bits (R417). -/
def tieSigned (w : Nat) (v : Int) : Int := toSigned w (ofIntBits w v)

/-! ### The upstream link (R418) -/

/-- The upstream link: up, with the fewest hops to the master, ties to the lower pair. No unit is more than 7 hops away. -/
def State.uplink (s : State) : Option Nat :=
  if s.tied && !s.tieMaster then
    (List.range 4).foldl (fun o k =>
      let l := s.link k
      if l.up && decide (l.nbrHops ≤ 6) then
        match o with
        | none => some k
        | some j => if l.nbrHops < (s.link j).nbrHops then some k else some j
      else o) none
  else none

/-- Hops to the master; none reads 7 in DWL_TIESTAT and travels as 0xFF in HELLO (R414, R422). -/
def State.hops (s : State) : Option Nat :=
  if s.tieMaster then some 0 else s.uplink.map (fun k => (s.link k).nbrHops + 1)

/-- DWL_TIESTAT after a change: hops, upstream pair, and FREERUN without an upstream link or a master (R419, R422). A unit that
runs free is no longer on the master's grid. -/
def State.tieRefresh (s : State) : State :=
  let s1 := (s.wr R.DWL_TIESTAT_HOPS (s.hops.getD 7)).wr R.DWL_TIESTAT_UPLINK (s.uplink.getD 0)
  let free := s.on R.DWL_TIECFG_TIEEN && !s.tieMaster
    && (s.uplink.isNone || !(s.rd R.DWL_TIESTAT_SEEN).testBit 0)
  let s2 := s1.wrB R.DWL_TIESTAT_FREERUN free
  if s.tied && !free then s2 else s2.wr R.DWL_TIESTAT_ALIGNED 0

/-! ### Characters of a tie link (R408, R412, R413) -/

/-- The bytes of a tie frame before its CRC (R413). -/
def TieFrame.bytes (f : TieFrame) : List Byte :=
  leBytes 1 f.typ ++ leBytes 1 f.orig ++ leBytes 1 f.dest ++ leBytes 1 f.hop ++ leBytes 2 f.lseq ++ leBytes 2 f.oseq
    ++ leBytes 1 f.payload.length ++ f.payload

/-- ACK and NAK: the control character, the sequence and its check (R412). -/
def ackSet (nak : Bool) (seq : Nat) : List RingChar :=
  let lo := BitVec.ofNat 8 (seq % 256)
  let hi := BitVec.ofNat 8 (seq / 256)
  [ctlChar (if nak then 0x5C else 0x3C), dataChar lo, dataChar hi, dataChar (lo ^^^ hi ^^^ (if nak then 0x5A else 0xA5))]

/-- SYNC number n (R412). -/
def syncSet (n : Nat) : List RingChar :=
  [ctlChar 0xDC, dataChar (BitVec.ofNat 8 n), dataChar (~~~BitVec.ofNat 8 n), dataChar 0xB5]

/-- Characters leave tie link k: an IDLE set goes before them where 256 ordered sets would otherwise pass without one (R408). -/
def State.tieOut (s : State) (k : Nat) (chars : List RingChar) : State :=
  let n := chars.length / 4
  let full := decide (256 ≤ (s.link k).noIdle + n)
  (s.setLink k (fun l => { l with noIdle := if full then n else l.noIdle + n })).laneOut (16 + k)
    (if full then idleSet ++ chars else chars)

/-- A frame leaves tie link k, corrupted where an injection says so (R421). -/
def State.tieFrameOut (s : State) (k : Nat) (f : TieFrame) (bad : Bool) : State :=
  (s.emit (if bad then .tieCorrupt k f else .tie k f)).tieOut k (framed f.bytes bad)

/-! ### Sending (R413 to R415, R421) -/

/-- Acknowledgement of a frame is awaited: a new frame leaves, subject to the injection of its pair. Every N-th new frame is
dropped, corrupted, or held and sent after the next one (R421). -/
def State.tieTransmit (s : State) (k : Nat) (f : TieFrame) : State :=
  let p := 16 + k
  let l := s.link k
  let g := { f with lseq := l.txSeq }
  let mode := s.rd (R.DWL_PTEST_MODE p)
  let n := l.injN + 1
  let hit := mode != 0 && n % max 1 (s.rd (R.DWL_PTEST_N p)) == 0
  let s1 := s.setLink k (fun x =>
    { x with txSeq := (x.txSeq + 1) % 65536, out := x.out ++ [{ frame := g, sent := 1 }], injN := n
             heldFr := if hit && mode == 3 then some g else none })
  let s2 := if hit then
      let t := s1.bump (R.DWL_PINJ_CNT p) 1
      if mode = 2 then t.tieFrameOut k g true else t
    else s1.tieFrameOut k g false
  match l.heldFr with
  | some h => s2.tieFrameOut k h false
  | none => s2

/-- New frames leave while fewer than 64 are outstanding (R415). -/
def State.tiePump (s : State) (k : Nat) : Nat → State
  | 0 => s
  | n + 1 =>
    let l := s.link k
    match l.queue with
    | [] => s
    | f :: rest =>
      if l.out.length < 64 then ((s.setLink k (fun x => { x with queue := rest })).tieTransmit k f).tiePump k n else s

/-- A frame for one link. -/
def State.tieSend (s : State) (k : Nat) (f : TieFrame) : State :=
  if (s.link k).up then (s.setLink k (fun x => { x with queue := x.queue ++ [f] })).tiePump k 1 else s

/-- A frame that the unit originates, with its next OSEQ, on the links a test picks (R413). -/
def State.tieOriginate (s : State) (on : Nat → Bool) (typ dest : Nat) (payload : List Byte) : State :=
  if s.tied then
    let f : TieFrame :=
      { typ := typ, orig := s.rd R.DWL_TIECFG_INDEX, dest := dest, hop := 0, lseq := 0, oseq := s.dwl.oseq, payload := payload }
    let s1 := s.onDwl (fun d => { d with oseq := (d.oseq + 1) % 65536 })
    (List.range 4).foldl (fun t k => if on k then t.tieSend k f else t) s1
  else s

/-- HELLO: index, hops, unit seed and the PERIOD in force (R414). -/
def State.helloBytes (s : State) : List Byte :=
  leBytes 1 (s.rd R.DWL_TIECFG_INDEX) ++ leBytes 1 (s.hops.getD 255) ++ leBytes 8 Config.unitId.toNat
    ++ leBytes 4 (s.epochCfg s.peg.active).period

/-- HELLO on the links a test picks. -/
def State.sendHello (s : State) (on : Nat → Bool) : State := s.tieOriginate on 1 255 s.helloBytes

/-! ### Link and pair state (R409, R410, R415) -/

/-- Link k comes up: the sequences of both directions restart at 0, and HELLO is sent (R414, R415). -/
def State.linkUp (s : State) (k : Nat) : State :=
  if s.tieOn k && s.pairUp (16 + k) && !(s.link k).up then
    (s.setLink k (fun _ => { TieLink.zero with up := true })).sendHello (· == k)
  else s

/-- Link k goes down: its outstanding frames are discarded and counted; a lost upstream link sets TIELOST (R415, R422). -/
def State.linkDown (s : State) (k : Nat) : State :=
  if (s.link k).up then
    let lost := s.uplink == some k
    let s1 := (s.bump (R.DWL_PTIEERR_LINKLOSS (16 + k)) (s.link k).out.length).setLink k (fun _ => .zero)
    (s1.when lost (·.fault R.DWL_INTSTAT_TIELOST 2 (16 + k))).tieRefresh
  else s

/-- The UP bit of a pair. -/
def State.setUp (s : State) (p : Nat) (v : Bool) : State := s.wr R.DWL_STATUS_UP (putBit (s.rd R.DWL_STATUS_UP) p v)

/-- The partner direction of a ring pair. -/
def partnerPair (p : Nat) : Nat := if p % 2 = 0 then p + 1 else p - 1

/-- The direction of a ring that a pair carries returns frames (R93). -/
def State.ringPairUp (s : State) (p : Nat) : Bool :=
  s.on (if p % 2 = 0 then R.BTN_RSTAT_CWUP (p / 2) else R.BTN_RSTAT_CCWUP (p / 2))

/-- Plumb adapts the pair (R364). -/
def State.adapting (s : State) (p : Nat) : Bool := s.on R.PLB_STATUS_LANEBUSY && s.plb.adapt.headD 20 == p

/-- A ring direction is out of traffic, or back in it, without a fault; behind an adaptation the echo check of its ring comes
first (R364). -/
def State.ringPair (s : State) (p : Nat) (v : Bool) : State :=
  if !v then
    (s.wr (if p % 2 = 0 then R.BTN_RSTAT_CWUP (p / 2) else R.BTN_RSTAT_CCWUP (p / 2)) 0).setRing (p / 2) (fun x =>
      { x with back := none })
  else if s.adapting p then (s.setRing (p / 2) (fun x => { x with back := some (p % 2 == 1) })).echoRings (· == p / 2)
  else s.ringDirBack (p / 2) (p % 2 == 1)

/-- A receiver takes the equaliser settings of its last training again (R411). -/
def State.restoreTrained (s : State) (p : Nat) : State :=
  match s.dwl.trained.find? (fun t => t.1 == p) with
  | some t =>
    ((s.wr (R.DWL_PSTAT_CTLE p) t.2.ctle).wr (R.DWL_PSTAT_FOM p) t.2.fom).onDwl (fun d => { d with dfe := mapSet [] d.dfe p t.2.dfe })
  | none => s

/-- Training of a direction starts: it leaves traffic, and the transmitter sends the pattern (R410). -/
def State.startTrain (s : State) (p : Nat) : State :=
  let s1 := ((s.wr (R.DWL_PSTAT_TRAINING p) 1).setUp p false).emit (.training p)
  let s2 := s1.onDwl (fun d => { d with wantTrain := d.wantTrain.filter (· != p) })
  if p < 16 then s2.ringPair p false else s2.linkDown (p - 16)

/-- A pair goes down (R409, R410): LANEDOWN; a ring's frames go over the other direction where it is up. -/
def State.pairFell (s : State) (p : Nat) : State :=
  let inj := s.flt.injIdle.contains p
  let sev := if p < 16 && s.ringPairUp (partnerPair p) then 2 else 3
  let s1 := { s with flt := { s.flt with injIdle := s.flt.injIdle.filter (· != p) } }
  let s2 := (s1.setUp p false).faultInj R.DWL_INTSTAT_LANEDOWN sev p inj
  if p < 16 then (if s2.ringPairUp p then s2.ringDirDown (p / 2) (p % 2 == 1) else s2.ringPair p false) else s2.linkDown (p - 16)

/-- A pair comes up (R409, R410). -/
def State.pairRose (s : State) (p : Nat) : State :=
  if s.pairUp p then s
  else
    let s1 := (s.setUp p true).flag R.DWL_INTSTAT_LANEUP
    if p < 16 then s1.ringPair p true else s1.linkUp (p - 16)

/-- Link k has given up on a frame: it trains again (R415). -/
def State.linkFail (s : State) (k : Nat) : State := (s.pairFell (16 + k)).startTrain (16 + k)

/-- Every outstanding frame is sent again, oldest first, never injected; the eighth send of a frame ends the link (R415). -/
def State.tieResend (s : State) (k : Nat) : State :=
  let l := s.link k
  let s1 := s.setLink k (fun x => { x with out := x.out.map (fun o => { o with sent := o.sent + 1 }), heldFr := none })
  let s2 := (l.out.foldl (fun t o => t.tieFrameOut k o.frame false) s1).bump (R.DWL_PTIEERR_RETRY (16 + k)) l.out.length
  if l.out.any (fun o => decide (8 ≤ o.sent + 1)) then s2.linkFail k else s2

/-- Outstanding frames up to and including a link sequence are acknowledged; an unknown sequence acknowledges none. -/
def ackOut (seq : Nat) (l : List OutFrame) : List OutFrame :=
  if l.any (fun o => o.frame.lseq == seq) then (l.dropWhile (fun o => o.frame.lseq != seq)).drop 1 else l

/-- An acknowledgement frees room for frames that wait (R415). -/
def State.tieAcked (s : State) (k seq : Nat) : State :=
  (s.setLink k (fun x => { x with out := ackOut seq x.out })).tiePump k 64

/-! ### Adaptation that Plumb schedules (R364) -/

/-- Plumb starts the next due direction: never one whose partner is down, never two at a time, never while HUSH stands. -/
def State.adaptNext (s : State) : State :=
  if s.on R.PLB_STATUS_LANEBUSY || s.btn.hushing || !s.on R.PLB_CTL_LANEEN then s
  else
    match s.plb.adapt.find? (fun p => decide (16 ≤ p) || s.ringPairUp (partnerPair p)) with
    | none => s
    | some p =>
      ({ s with plb := { s.plb with adapt := p :: s.plb.adapt.filter (· != p) } }.wr R.PLB_STATUS_LANEBUSY 1).startTrain p

/-- A pair's adaptation becomes due, while lane adaptation is enabled. -/
def State.adaptDue (s : State) (p : Nat) : State :=
  if s.on R.PLB_CTL_LANEEN && !s.plb.adapt.contains p then { s with plb := { s.plb with adapt := s.plb.adapt ++ [p] } } else s

/-- Both directions of every enabled ring, and the tie links in use, become due. -/
def State.adaptAll (s : State) : State :=
  ((List.range 20).foldl (fun t p => if if p < 16 then t.ringEn (p / 2) else t.tieOn (p - 16) then t.adaptDue p else t) s).adaptNext

/-- The adaptation of a pair has ended (R364, R368). -/
def State.adaptDone (s : State) (p : Nat) : State :=
  if s.adapting p then
    (({ s with plb := { s.plb with adapt := s.plb.adapt.drop 1 } }.wr R.PLB_STATUS_LANEBUSY 0).flag
      R.PLB_INTSTAT_LANEDONE).adaptNext
  else s

/-! ### Receiving (R413 to R416) -/

/-- A tie frame read from its bytes: none when it is shorter than a frame, its LEN disagrees or its CRC fails (R413). -/
def tieParse (bs : List Byte) : Option TieFrame :=
  let len := fieldAt bs 8 1
  if bs.length == len + 13 && decide (len ≤ 240) && fieldAt bs (9 + len) 4 == (crc32c (bs.take (9 + len))).toNat then
    some { typ := fieldAt bs 0 1, orig := fieldAt bs 1 1, dest := fieldAt bs 2 1, hop := fieldAt bs 3 1, lseq := fieldAt bs 4 2
           oseq := fieldAt bs 6 2, payload := sliceBytes bs 9 len }
  else none

/-- NAK names the last frame accepted, at most once per expected LSEQ (R415). -/
def State.tieNak (s : State) (k : Nat) : State :=
  let l := s.link k
  if l.naked = some l.rxSeq then s
  else
    let seq := (l.rxSeq + 65535) % 65536
    ((s.setLink k (fun x => { x with naked := some x.rxSeq })).emit (.tieNak k seq)).tieOut k (ackSet true seq)

/-- The last 256 origin sequences seen of an origin (R416). -/
def State.seenOf (s : State) (orig : Nat) : List Nat := mapGet [] s.dwl.seen orig

/-- Forwarding on every other link that is up, HOP incremented (R416). -/
def State.tieForward (s : State) (k : Nat) (f : TieFrame) : State :=
  if f.hop = 7 || (s.seenOf f.orig).contains f.oseq || f.typ = 1 || f.typ = 2 then s
  else (List.range 4).foldl (fun t j => if j = k then t else t.tieSend j { f with hop := f.hop + 1 }) s

/-- A frame that link k has accepted: reserved types are discarded and counted, an own frame is neither accepted nor
forwarded, DEST 8 to 0xFE is discarded (R413 to R416). `eff` is what an accepted frame does. -/
def State.tieAccept (s : State) (k : Nat) (f : TieFrame) (eff : State → TieFrame → State) : State :=
  if f.typ = 0 || decide (5 ≤ f.typ) then s.bump (R.DWL_PTIEERR_BADTYPE (16 + k)) 1
  else if f.orig = s.rd R.DWL_TIECFG_INDEX && f.typ != 1 then s
  else if 8 ≤ f.dest && f.dest ≤ 254 then s
  else
    let s1 := s.when (decide (f.orig < 8) && f.orig != s.rd R.DWL_TIECFG_INDEX) (fun t =>
      t.wr R.DWL_TIESTAT_SEEN (putBit (t.rd R.DWL_TIESTAT_SEEN) f.orig true))
    let s2 := s1.tieForward k f
    let s3 := s2.onDwl (fun d =>
      let l := s2.seenOf f.orig
      { d with seen := mapSet [] d.seen f.orig (if l.contains f.oseq then l else (f.oseq :: l).take 256) })
    let s4 := if f.dest = 255 || f.dest = s.rd R.DWL_TIECFG_INDEX then eff s3 f else s3
    s4.tieRefresh

/-- A frame arrives on tie link k (R415): accepted with an ACK only when its CRC passes and its LSEQ is the next expected. -/
def State.tieIn (s : State) (k : Nat) (bs : List Byte) (eff : State → TieFrame → State) : State :=
  let l := s.link k
  if l.up then
    match tieParse bs with
    | none => (s.bump (R.DWL_PRXERR_CRC (16 + k)) 1).tieNak k
    | some f =>
      if f.lseq = l.rxSeq then
        (((s.setLink k (fun x => { x with rxSeq := (x.rxSeq + 1) % 65536, naked := none })).emit (.tieAck k f.lseq)).tieOut k
          (ackSet false f.lseq)).tieAccept k f eff
      else (s.bump (R.DWL_PTIEERR_OOS (16 + k)) 1).tieNak k
  else s

/-! ### Tie time (R417, R418) -/

/-- The offset of one exchange, own time minus neighbour's time, in 2^-8 LSB. The half difference is taken on the signed
difference of the two terms, so that no wrap of either counter moves it. -/
def exchangeTheta (t1 t2 t3 t4 : Int) : Int :=
  let a := tieSigned 53 (t1 - t2)
  let b := tieSigned 53 (tieSigned 53 (t4 - t3) - a)
  tieSigned 61 (256 * a + 128 * b)

/-- The offset of a fit at an own tie time (R417): least squares over the held exchanges, rounded to 2^-8 LSB. -/
def fitTheta (l : List (Nat × Int)) (t : Nat) : Int :=
  match l with
  | [] => 0
  | (_, th0) :: _ =>
    let pts : List (Rat × Rat) := l.map (fun q =>
      (((tieSigned 53 ((q.1 : Int) - (t : Int)) : Int) : Rat), ((tieSigned 61 (q.2 - th0) : Int) : Rat)))
    let n : Rat := (pts.length : Rat)
    let sx := (pts.map (·.1)).sum
    let sy := (pts.map (·.2)).sum
    let sxx := (pts.map (fun q => q.1 * q.1)).sum
    let sxy := (pts.map (fun q => q.1 * q.2)).sum
    let d := n * sxx - sx * sx
    let y := if d = 0 then sy / n else (sy * sxx - sx * sxy) / d
    tieSigned 61 (th0 + (y + 1 / 2).floor)

/-- The offset to the master at an own tie time, in 2^-8 LSB; the master's is 0 (R418). -/
def State.thetaMaster (s : State) (t : Nat) : Int :=
  match s.uplink with
  | some k => tieSigned 61 (fitTheta (s.link k).fit t + (s.link k).nbrTheta)
  | none => 0

/-- DWL_THETALO and DWL_THETAHI follow the offset to the master. -/
def State.thetaShow (s : State) : State :=
  let v := ofIntBits 64 (s.thetaMaster (tieTime s.nowLsb))
  (s.wr R.DWL_THETALO_THETA (v % 2 ^ 32)).wr R.DWL_THETAHI_THETA (v / 2 ^ 32)

/-- Tie lock: an upstream link with a fitted offset, and a frame announced (R419). -/
def State.tieLocked (s : State) : Bool :=
  match s.uplink with
  | some k => !(s.link k).fit.isEmpty && !s.dwl.announced.isEmpty && !s.on R.DWL_TIESTAT_FREERUN
  | none => false

/-- Tie lock first reached while Peg is scanning: the unit keeps its grid until a scan stop completes (R419). -/
def State.lockNoted (s : State) (before : Bool) : State :=
  if s.tieLocked && !before && s.peg.scanning && !s.on R.DWL_TIESTAT_ALIGNED then
    (s.onDwl (fun d => { d with alignDue := true })).fault R.DWL_INTSTAT_NOTALIGNED 1 0
  else s

/-- The own tie time of a master time: the offset extrapolated to that instant, rounded to a multiple of 512 LSB (R418). -/
def State.ownBoundary (s : State) (tm : Nat) : Nat :=
  let near := ofIntBits 53 ((tm : Int) + s.thetaMaster (tieTime s.nowLsb) / 256)
  ofIntBits 53 (512 * divRound (256 * (tm : Int) + s.thetaMaster near) (512 * 256))

/-- The root instant nearest to now of an own tie time. -/
def State.rootOf (s : State) (t : Nat) : Int := (s.nowLsb : Int) + tieSigned 53 ((t : Int) - (tieTime s.nowLsb : Int))

/-! ### Codebooks (R420) -/

/-- A chunk of a generation is stored; a third generation replaces the older one not in use. -/
def State.codeChunk (s : State) (gen first chunk : Nat) (gaps : List Byte) : State :=
  let l := s.peg.codebooks
  let put (c : CodeGen) : CodeGen := { c with first := first, chunks := mapSet [] c.chunks chunk gaps }
  if l.any (fun c => c.gen == gen) then
    { s with peg := { s.peg with codebooks := updateWhere (fun c => c.gen == gen) put l } }
  else
    let used := (s.dueCodebook (s.rd R.PEG_FRAMENUM_NUM)).map (·.gen)
    let kept := if l.length < 2 then l else
      let spare := l.filter (fun c => some c.gen != used)
      let oldest := (spare.foldl (fun o c => match o with
        | none => some c
        | some (d : CodeGen) => if c.first < d.first then some c else some d) none).map (·.gen)
      l.filter (fun c => some c.gen != oldest)
    { s with peg := { s.peg with codebooks := kept ++ [put { gen := gen, first := first, chunks := [] }] } }

/-- The bytes of a chunk: 114 gaps in chunks 0 to 15 and 96 in chunk 16. -/
def chunkBytes (i : Nat) : Nat := if i < 16 then 228 else 192

/-- The gap bytes of a unit's share, in order of K, code and gap (R420). -/
def shareBytes (book : List (Nat × List Nat)) (unit : Nat) : List Byte :=
  (book.filter (fun c => c.1 == unit)).flatMap (fun c => (gapsOf c.2).flatMap (leBytes 2))

/-- The codebook that the master draws for itself and the units it hears, with GMIN and GSPAN of the epoch in force and CROSSMAX as it
stands, 1 to 8 (R137, R143). -/
def State.drawnBook (s : State) (gen : Nat) : List (Nat × List Nat) :=
  let c := s.epochCfg s.peg.active
  drawBook c.gminEff c.gspanEff (clampN 1 8 (s.rd R.PEG_CODECFG_CROSSMAX)) gen
    ((List.range 8).filter (fun u => u == 0 || (s.rd R.DWL_TIESTAT_SEEN).testBit u))

/-- The master sends a generation: 17 frames to each unit it hears, and keeps its own share (R137, R420). -/
def State.sendCodebook (s : State) (gen first : Nat) : State :=
  let book := s.drawnBook gen
  let chunk (u i : Nat) : List Byte := sliceBytes (shareBytes book u) (228 * i) (chunkBytes i)
  let s1 := (List.range 17).foldl (fun t i => t.codeChunk gen first i (chunk 0 i)) s
  (List.range 8).foldl (fun t u =>
    if u != 0 && (s.rd R.DWL_TIESTAT_SEEN).testBit u then
      (List.range 17).foldl (fun t2 i =>
        t2.tieOriginate (fun _ => true) 4 u (leBytes 4 gen ++ leBytes 4 first ++ leBytes 1 u ++ leBytes 1 i ++ [0, 0] ++ chunk u i)) t
    else t) s1

/-- DWL_TIECFG after a write: links no longer in use go down, links newly in use come up or train; a network switched off
forgets its index conflict and its neighbours (R416, R422). -/
def State.tieConfig (s : State) : State :=
  let s1 := (List.range 4).foldl (fun t k =>
    if !t.tieOn k then t.linkDown k
    else if t.pairUp (16 + k) then t.linkUp k
    else if t.on (R.DWL_PSTAT_LOCK (16 + k)) && !t.on (R.DWL_PSTAT_TRAINING (16 + k)) then t.startTrain (16 + k)
    else t) s
  if s1.on R.DWL_TIECFG_TIEEN then s1.tieRefresh
  else
    (((s1.wr R.DWL_TIESTAT_DUPIDX 0).wr R.DWL_TIESTAT_SEEN 0).onDwl (fun d =>
      { d with announced := [], nextBound := none, alignDue := false, seen := [] })).tieRefresh

end Sys2Proof.Machine
end

