-- ==== Sys2Proof/Machine/Dowel.lean ====
section
/-!
DEFINITION. The commands of Dowel: receivers, training and adaptation of the lane pairs (R409 to R411, R364), the tie links
(R412 to R420) and test injection (R421).
-/
namespace Sys2Proof.Machine

/-! ### Receivers and training (R409 to R411) -/

/-- RECEIVER_LOCK (R409): a direction with a kept training result carries traffic again; a tie link in use without one trains. -/
def execReceiverLock (p : Fin 20) (s : State) : Host.Outcome State Fault Refusal :=
  let s1 := s.wr (R.DWL_PSTAT_LOCK p.val) 1
  (if s1.on (R.DWL_PSTAT_TRAINING p.val) then s1
  else if s1.dwl.trained.any (fun t => t.1 == p.val) then (s1.restoreTrained p.val).pairRose p.val
  else if 16 ≤ p.val && s1.tieOn (p.val - 16) then s1.startTrain p.val
  else s1).done

/-- LOCK_LOSS (R409): counted for a ring pair; realignment starts at once. -/
def execLockLoss (x : LostPair) (s : State) : Host.Outcome State Fault Refusal :=
  let p := x.p
  if s.on (R.DWL_PSTAT_LOCK p.val) || s.pairUp p.val then
    let s1 := (s.wr (R.DWL_PSTAT_LOCK p.val) 0).bump (R.DWL_PRXERR_CODE p.val) x.bad
    let s2 := s1.when (decide (p.val < 16)) (·.bump (R.BTN_RERR_LOCKLOSS (p.val / 2)) 1)
    (s2.pairFell p.val).done
  else s.done

/-- AUTOPOL (R409): a receiver that finds only inverted commas inverts itself. -/
def execAutopol (p : Fin 20) (s : State) : Host.Outcome State Fault Refusal := (s.wr (R.DWL_PSTAT_AUTOPOL p.val) 1).done

/-- The CTLE setting that training keeps: fewest errors, then the higher figure of merit, then the lower setting (R410): setting,
errors, figure of merit. -/
def bestCtle (tries : List (Nat × BitVec 8)) : Option (Nat × Nat × Nat) :=
  ((tries.take 16).zipIdx).foldl (fun o t =>
    match o with
    | none => some (t.2, t.1.1, t.1.2.toNat)
    | some b => if t.1.1 < b.2.1 || (t.1.1 == b.2.1 && b.2.2 < t.1.2.toNat) then some (t.2, t.1.1, t.1.2.toNat) else some b) none

/-- TRAINING_COMPLETE (R410): the direction is up only if the kept setting showed no error and its figure of merit suffices;
otherwise training repeats. -/
def execTrainingComplete (p : Fin 20) (tries : List (Nat × BitVec 8)) (s : State) : Host.Outcome State Fault Refusal :=
  if s.on (R.DWL_PSTAT_TRAINING p.val) then
    let s0 := (s.wr (R.DWL_PSTAT_TRAINING p.val) 0).wr (R.DWL_PCFG_TRAIN p.val) 0
    let s1 := match bestCtle tries with
      | none => (s0.onDwl (fun d => { d with wantTrain := d.wantTrain ++ [p.val] })).pairFell p.val
      | some (c, e, f) =>
        let dfe := (Config.dfeTrained s.fresh).take 5
        let t := ((((s0.draw).wr (R.DWL_PSTAT_CTLE p.val) c).wr (R.DWL_PSTAT_FOM p.val) f).wr (R.DWL_PSTAT_BER p.val) (min e 65535)).onDwl
          (fun d => { d with dfe := mapSet [] d.dfe p.val dfe })
        if e = 0 && s.rd R.DWL_ADCFG_FOMMIN ≤ f then
          (t.onDwl (fun d => { d with trained := (p.val, ({ ctle := c, fom := f, dfe := dfe } : Trained))
                                        :: d.trained.filter (fun q => q.1 != p.val) })).pairRose p.val
        else
          (t.onDwl (fun d =>
            { d with trained := d.trained.filter (fun q => q.1 != p.val), wantTrain := d.wantTrain ++ [p.val] })).pairFell p.val
    (s1.adaptDone p.val).done
  else s.done

/-- TRAINING_RETRY (R410): a down direction trains again. -/
def execTrainingRetry (p : Fin 20) (s : State) : Host.Outcome State Fault Refusal :=
  if s.dwl.wantTrain.contains p.val && !s.on (R.DWL_PSTAT_TRAINING p.val) then (s.startTrain p.val).done else s.done

/-- TRAIN (R422): training of the pair now; DWL_PCFG.TRAIN reads 1 until done. -/
def execTrain (p : Fin 20) (s : State) : Host.Outcome State Fault Refusal :=
  ((s.wr (R.DWL_PCFG_TRAIN p.val) 1).startTrain p.val).done

/-- DFE taps after a step of one of them. -/
def trimTaps (l : List Int) (st : Nat × Bool) : List Int :=
  l.mapIdx (fun i t => if i = st.1 % 5 then (if st.2 then t + 1 else t - 1) else t)

/-- BACKGROUND_TRIM (R411): a step of a DFE tap is kept only if the figure of merit does not fall. -/
def execBackgroundTrim (p : Fin 20) (fom : BitVec 8) (s : State) : Host.Outcome State Fault Refusal :=
  if s.on R.DWL_ADCFG_BGADAPT && s.pairUp p.val && s.rd (R.DWL_PSTAT_FOM p.val) ≤ fom.toNat then
    let taps := trimTaps (mapGet [] s.dwl.dfe p.val) (Config.dfeStep s.fresh)
    (((s.draw).onDwl (fun d => { d with dfe := mapSet [] d.dfe p.val taps })).wr (R.DWL_PSTAT_FOM p.val) fom.toNat).done
  else s.done

/-- FOMLOW (R411): the figure of merit stands below FOMMIN, at a free value; Plumb is asked for re-training. -/
def execFomlow (p : Fin 20) (s : State) : Host.Outcome State Fault Refusal :=
  let m := s.rd R.DWL_ADCFG_FOMMIN
  if s.pairUp p.val && m != 0 then
    let low := Config.lowFom s.fresh % m
    (((((s.draw).wr (R.DWL_PSTAT_FOM p.val) low).fault R.DWL_INTSTAT_FOMLOW 1 p.val).adaptDue p.val).adaptNext).done
  else s.done

/-- PLB_CMD_LANE (R364, R368): every lane adapts now. -/
def execPlbCmdLane (s : State) : Host.Outcome State Fault Refusal := s.adaptAll.done

/-- LANE_ADAPT_PERIOD (R364): every LANEPER seconds every lane adapts; 0 leaves it to the figure of merit. -/
def execLaneAdaptPeriod (s : State) : Host.Outcome State Fault Refusal :=
  if s.on R.PLB_CTL_LANEEN && s.rd R.PLB_LANECFG_LANEPER != 0 then s.adaptAll.done else s.done

/-! ### HELLO, SYNC and SYNCDATA (R414, R416, R417) -/

/-- HELLO_SEND (R414): on every up tie link. -/
def execHelloSend (s : State) : Host.Outcome State Fault Refusal := (s.sendHello (fun _ => true)).done

/-- What an accepted HELLO does: the neighbour's index, hops and PERIOD are held; its own index with another unit seed makes
the unit untied (R416). -/
def State.helloIn (k : Nat) (s : State) (f : TieFrame) : State :=
  let idx := fieldAt f.payload 0 1
  let seed := fieldAt f.payload 2 8
  if f.typ != 1 then s
  else if idx = s.rd R.DWL_TIECFG_INDEX then
    if seed != Config.unitId.toNat then
      (s.wr R.DWL_TIESTAT_DUPIDX 1).when (!s.on R.DWL_TIESTAT_DUPIDX) (·.fault R.DWL_INTSTAT_DUPIDX 1 (16 + k))
    else s
  else s.setLink k (fun l => { l with nbrIndex := some idx, nbrHops := fieldAt f.payload 1 1, nbrPer := fieldAt f.payload 10 4 })

/-- HELLO (R416). -/
def execHello (k : Fin 4) (f : TieBytes) (s : State) : Host.Outcome State Fault Refusal :=
  (s.tieIn k.val f.bytes (State.helloIn k.val)).done

/-- SYNC_SEND (R417): SYNC on every up tie link whose departure is stamped. -/
def execSyncSend (t1 : List (Fin 4 × BitVec 53)) (s : State) : Host.Outcome State Fault Refusal :=
  (t1.foldl (fun t q =>
    let k := q.1.val
    let l := t.link k
    if l.up && t.tied then
      ((t.setLink k (fun x =>
        { x with syncN := (x.syncN + 1) % 256, syncTx := ((x.syncN, q.2.toNat) :: x.syncTx).take 16 })).emit
          (.tieSync k l.syncN)).tieOut k (syncSet l.syncN)
    else t) s).done

/-- The SYNCDATA of a link: the last SYNC sent and received on it and the sender's offset to the master (R414). -/
def State.syncBytes (s : State) (k m t4 : Nat) : List Byte :=
  let tx := (s.link k).syncTx.headD (0, 0)
  leBytes 1 tx.1 ++ leBytes 7 tx.2 ++ leBytes 1 m ++ leBytes 7 t4
    ++ leBytes 8 (ofIntBits 64 (s.thetaMaster (tieTime s.nowLsb)))

/-- SYNC (R417): the arrival is held and answered with SYNCDATA; a set whose check character does not match is taken as IDLE (R412). -/
def execSync (k : Fin 4) (x : SyncSet) (t4 : BitVec 53) (s : State) : Host.Outcome State Fault Refusal :=
  if (s.link k.val).up && x.inv == ~~~x.n then
    let s1 := s.setLink k.val (fun l => { l with syncRx := some (x.n.toNat, t4.toNat) })
    (s1.tieOriginate (· == k.val) 2 255 (s1.syncBytes k.val x.n.toNat t4.toNat)).done
  else s.done

/-- What an accepted SYNCDATA does (R417): with the unit's own stamps it completes an exchange, and the fit takes it. -/
def State.syncdataIn (k : Nat) (s : State) (f : TieFrame) : State :=
  if f.typ != 2 then s
  else
    let l := s.link k
    let g := fieldAt f.payload
    let th : Int := toSigned 64 (g 16 8)
    let was := s.tieLocked
    let s1 := s.setLink k (fun x => { x with nbrTheta := tieSigned 61 th })
    let s2 := match l.syncTx.find? (fun q => q.1 == g 8 1), l.syncRx with
      | some (_, t1), some (n, t4) =>
        if n = g 0 1 then
          let o := exchangeTheta t1 (g 9 7) (g 1 7) t4
          s1.setLink k (fun x => { x with fit := ((t4, o) :: x.fit).take 16 })
        else s1
      | _, _ => s1
    (s2.thetaShow).lockNoted was

/-- SYNCDATA (R417). -/
def execSyncdata (k : Fin 4) (f : TieBytes) (s : State) : Host.Outcome State Fault Refusal :=
  (s.tieIn k.val f.bytes (State.syncdataIn k.val)).done

/-! ### Frame announcements and boundaries (R416, R418, R419) -/

/-- What an accepted FRAMEANN does: the frame's start is held (R414); the master itself needs none. -/
def State.frameannIn (s : State) (f : TieFrame) : State :=
  if f.typ != 3 || !s.tied || s.tieMaster then s
  else
    let was := s.tieLocked
    let a := fieldAt f.payload 0 4
    (s.onDwl (fun d => { d with announced := ((a, fieldAt f.payload 4 7 % 2 ^ 53)
      :: d.announced.filter (fun q => q.1 != a)).take 8 })).lockNoted was

/-- FRAMEANN (R416). -/
def execFrameann (k : Fin 4) (f : TieBytes) (s : State) : Host.Outcome State Fault Refusal :=
  (s.tieIn k.val f.bytes State.frameannIn).done

/-- The announced tie time of a master frame. -/
def State.announcedAt (s : State) (f : Nat) : Option Nat := (s.dwl.announced.find? (fun q => q.1 == f)).map (·.2)

/-- The announced length of the frame that ends where master frame f starts, in LSB. -/
def State.announcedLen (s : State) (f : Nat) : Option Nat :=
  match s.announcedAt f, s.announcedAt ((f + (2 ^ 32 - 1)) % 2 ^ 32) with
  | some a, some b => some ((a + (2 ^ 53 - b % 2 ^ 53)) % 2 ^ 53)
  | _, _ => none

/-- A length that differs from the unit's PERIOD by more than 0.1 % (R419). -/
def State.lengthOff (s : State) (len : Nat) : Bool :=
  let p := 512 * (s.epochCfg s.peg.active).period
  decide (p < 1000 * (len - p)) || decide (p < 1000 * (p - len))

/-- The next boundary is fixed at an instant, for master frame f: Peg ends the present frame there, and passes its length to
Tenon (R418). -/
def State.fixAt (s : State) (f : Nat) (lsb : Nat) : State :=
  { s.onDwl (fun d => { d with nextBound := some (f, lsb), lastBound := some (tieTime lsb) }) with
    peg := { s.peg with period := (lsb - s.peg.epochLsb) / 512 } }

/-- The unit leaves the master's grid because of the announced length (R419). -/
def State.periodOff (s : State) : State := (s.wr R.DWL_TIESTAT_ALIGNED 0).fault R.DWL_INTSTAT_TIEPERIOD 1 0

/-- The announced frame that starts next on the unit's own clock, with its root instant (R419). -/
def State.nextAnnounced (s : State) : Option (Nat × Nat) :=
  s.dwl.announced.foldl (fun o q =>
    let r := s.rootOf (s.ownBoundary q.2)
    if r ≤ (s.nowLsb : Int) then o
    else match o with
      | some b => if r.toNat < b.2 then some (q.1, r.toNat) else o
      | none => some (q.1, r.toNat)) none

/-- BOUNDARY_FIX (R418, R419): a slave fixes its next boundary, or falls back to PERIOD. -/
def execBoundaryFix (s : State) : Host.Outcome State Fault Refusal :=
  if !s.tieLocked || !s.peg.clockOn then s.done
  else if s.on R.DWL_TIESTAT_ALIGNED then
    let f := (s.rd R.PEG_FRAMENUM_NUM + 1 + (2 ^ 32 - s.rd R.DWL_TIEFROFS_OFS)) % 2 ^ 32
    (match s.announcedAt f with
    | none => s.fault R.DWL_INTSTAT_TIEFRLATE 1 0
    | some tm =>
      if (match s.announcedLen f with | some n => s.lengthOff n | none => false) then s.periodOff
      else
        let r := s.rootOf (s.ownBoundary tm)
        if (s.nowLsb : Int) < r then s.fixAt f r.toNat else s.fault R.DWL_INTSTAT_TIEFRLATE 1 0).done
  else if s.peg.scanning then s.done
  else
    (match s.nextAnnounced with
    | none => s
    | some (f, lsb) =>
      match s.announcedLen f with
      | some n => if s.lengthOff n then s.periodOff else s.fixAt f lsb
      | none => s).done

/-! ### Codebooks (R420) -/

/-- What an accepted CODEBOOK does: a chunk for this unit is stored; the master holds its own share. -/
def State.codebookIn (s : State) (f : TieFrame) : State :=
  let g := fieldAt f.payload
  if f.typ != 4 || !s.tied || s.tieMaster || g 8 1 != s.rd R.DWL_TIECFG_INDEX || 17 ≤ g 9 1 then s
  else s.codeChunk (g 0 4) (g 4 4) (g 9 1) (sliceBytes f.payload 12 (chunkBytes (g 9 1)))

/-- CODEBOOK (R420). -/
def execCodebook (k : Fin 4) (f : TieBytes) (s : State) : Host.Outcome State Fault Refusal :=
  (s.tieIn k.val f.bytes State.codebookIn).done

/-! ### Acknowledgement and retry (R415) -/

/-- The check character of an ACK or NAK matches (R412). -/
def ackGood (nak : Bool) (seq : BitVec 16) (chk : BitVec 8) : Bool :=
  chk == seq.extractLsb' 0 8 ^^^ seq.extractLsb' 8 8 ^^^ (if nak then 0x5A else 0xA5)

/-- ACK (R415): frames up to the named link sequence are released; a set that fails its check is taken as IDLE (R412). -/
def execAck (k : Fin 4) (x : AckSet) (s : State) : Host.Outcome State Fault Refusal :=
  if (s.link k.val).up && ackGood false x.seq x.chk then (s.tieAcked k.val x.seq.toNat).done else s.done

/-- NAK (R415): frames up to the named one were received; every outstanding frame is sent again. A set that fails its check is taken
as IDLE (R412). -/
def execNak (k : Fin 4) (x : AckSet) (s : State) : Host.Outcome State Fault Refusal :=
  if (s.link k.val).up && ackGood true x.seq x.chk then
    ((s.setLink k.val (fun l => { l with out := ackOut x.seq.toNat l.out })).tieResend k.val |>.tiePump k.val 64).done
  else s.done

/-- RETRY_TIMEOUT (R415): 10 us without acknowledgement of the oldest outstanding frame. -/
def execRetryTimeout (k : Fin 4) (s : State) : Host.Outcome State Fault Refusal :=
  if (s.link k.val).up && !(s.link k.val).out.isEmpty then (s.tieResend k.val).done else s.done

/-- TIE_UNIT_UNHEARD (R422): a unit has not been heard for 30 ms. -/
def execTieUnitUnheard (u : Fin 8) (s : State) : Host.Outcome State Fault Refusal :=
  ((s.wr R.DWL_TIESTAT_SEEN (putBit (s.rd R.DWL_TIESTAT_SEEN) u.val false)).tieRefresh).done

/-! ### Test injection (R421) -/

/-- A mode that a pair allows (R421). -/
def State.ptestOk (s : State) (p mode : Nat) : Bool :=
  mode == 0 || (mode == 2 && (decide (16 ≤ p) || s.ringPairUp (partnerPair p))) || ((mode == 1 || mode == 3) && decide (16 ≤ p))

/-- DWL_PTEST_WRITE (R421): an injection mode is set or cleared; the change is logged. -/
def execDwlPtestWrite (p : Fin 20) (v : Word) (s : State) : Host.Outcome State Fault Refusal :=
  let mode := bits v.toNat 0 3
  let s0 := s.rsvdCheck (0x440110 + 0x20 * p.val) 0xFFF8 v.toNat
  if s0.ptestOk p.val mode then
    let old := s0.rd (R.DWL_PTEST_MODE p.val)
    let s1 := (s0.wr (R.DWL_PTEST_MODE p.val) mode).wr (R.DWL_PTEST_N p.val) (bits v.toNat 16 16)
    let s2 := if p.val < 16 then s1.onDwl (fun d => { d with ringInj := mapSet 0 d.ringInj p.val 0 })
      else s1.setLink (p.val - 16) (fun l => { l with injN := 0 })
    let s3 := s2.wrB R.DWL_STATUS_TESTACT ((List.range 20).any (fun q => s2.on (R.DWL_PTEST_MODE q)))
    (if old = mode then s3 else s3.reportFree (srcOf R.DWL_INTSTAT_BADCFG) 0xFF 0 p.val).done
  else (s0.refuse R.DWL_INTSTAT_BADCFG).done

end Sys2Proof.Machine
end

