-- ==== Sys2Proof/Machine/RegOps.lean ====
section
/-!
DEFINITION. Registers by their BAR0 offset (R11, R12, R473 to R477): which register an offset names, the word it holds, and writes
of its fields by access code.
-/
namespace Sys2Proof.Machine

/-- Every register of the 22 blocks, with the filter banks, the MSI-X table and the pending bits. -/
def allRegs : List RegDesc :=
  R.regsGLB ++ R.regsCLK ++ R.regsTHM ++ R.regsKRF ++ R.regsPEG ++ R.regsMRT ++ R.regsJST ++ R.regsJNL ++ R.regsLBK
    ++ R.regsBTN ++ R.regsTNN ++ R.regsTRS ++ R.regsWFP ++ R.regsWFPBanks ++ R.regsDOG ++ R.regsSIL ++ R.regsPLB ++ R.regsHIF
    ++ R.regsPUR ++ R.regsDWL ++ R.regsFWU ++ R.regsGRT ++ R.regsFLT ++ R.regsMSIX

/-- A family of registers has one at an offset. -/
def RegDesc.has (d : RegDesc) (off : Nat) : Bool :=
  decide (d.base ≤ off) && (off - d.base) % d.stride == 0 && decide ((off - d.base) / d.stride < d.count)

/-- The register at an offset; none where no chapter names it. -/
def findReg (off : Nat) : Option RegDesc := allRegs.find? (fun d => d.has off)

/-- A field of the register at an offset. -/
def fldAt (off : Nat) (f : Nat × Nat × Acc) : Fld := ⟨8 * off + f.1, f.2.1⟩

/-- The part of a word that a field takes. -/
def fieldOf (v : Nat) (f : Nat × Nat × Acc) : Nat := bits v f.1 f.2.1

/-- The bits of a word that no field names (R476). -/
def RegDesc.reserved (d : RegDesc) : Nat := d.fields.foldl (fun m f => m ^^^ ((2 ^ f.2.1 - 1) * 2 ^ f.1)) (2 ^ 32 - 1)

/-- The word that a register holds: its readable fields (R12: a write-only field reads 0). -/
def State.regWord (s : State) (d : RegDesc) (off : Nat) : Nat :=
  (d.fields.map (fun f => if f.2.2 = .wo then 0 else s.rd (fldAt off f) * 2 ^ f.1)).sum

/-- One field written by its access code (R12); RC, RO, W1S and WO fields take nothing here. -/
def State.putField (s : State) (off v : Nat) (rwk : Bool) (f : Nat × Nat × Acc) : State :=
  match f.2.2 with
  | .rw => s.wr (fldAt off f) (fieldOf v f)
  | .rwk => if rwk then s.wr (fldAt off f) (fieldOf v f) else s
  | .w1c => s.wr (fldAt off f) (s.rd (fldAt off f) - (s.rd (fldAt off f) &&& fieldOf v f))
  | .ro => s
  | .wo => s
  | .w1s => s
  | .rc => s

/-- Every field written. -/
def State.putReg (s : State) (d : RegDesc) (off v : Nat) (rwk : Bool) : State :=
  d.fields.foldl (fun t f => t.putField off v rwk f) s

/-- A write would change an RWK field of the register (R292). -/
def State.rwkChanges (s : State) (d : RegDesc) (off v : Nat) : Bool :=
  d.fields.any (fun f => f.2.2 == .rwk && fieldOf v f != s.rd (fldAt off f))

/-! ### Saved register images (R440) -/

/-- Registers of a block list with a field of an access code, by offset. -/
def regOffsets (l : List RegDesc) (a : Acc) : List (RegDesc × Nat) :=
  (l.filter (fun d => d.fields.any (fun f => f.2.2 == a))).flatMap (fun d => (List.range d.count).map (fun i => (d, d.base + d.stride * i)))

/-- The fields of an access code in a register, as a word. -/
def State.regImage (s : State) (a : Acc) (p : RegDesc × Nat) : Nat × Nat :=
  (p.2, ((p.1.fields.filter (fun f => f.2.2 == a)).map (fun f => s.rd (fldAt p.2 f) * 2 ^ f.1)).sum)

/-- Those fields written back from a word. -/
def State.putImage (s : State) (a : Acc) (e : Nat × Nat) : State :=
  match findReg e.1 with
  | some d => (d.fields.filter (fun f => f.2.2 == a)).foldl (fun t f => t.wr (fldAt e.1 f) (fieldOf e.2 f)) s
  | none => s

/-- The blocks of settings record 1: those whose configuration firmware restores. Truss and Girt have records of their own; the
host sets up HIF and PUR itself (R394). -/
def imageRegs : List RegDesc :=
  R.regsGLB ++ R.regsCLK ++ R.regsTHM ++ R.regsKRF ++ R.regsPEG ++ R.regsMRT ++ R.regsJST ++ R.regsJNL ++ R.regsLBK
    ++ R.regsBTN ++ R.regsTNN ++ R.regsWFP ++ R.regsWFPBanks ++ R.regsDOG ++ R.regsSIL ++ R.regsPLB ++ R.regsDWL ++ R.regsFLT

/-- Offsets of registers of record 1 that start or run something, which stages and commands set anew (KRF_CTL, TNN_SPCTL, TNN_TLCTL,
WFP_CTL). -/
def imageSkips : List Nat := [0x40000, 0x240004, 0x240020, 0x2C0000]

/-- Staged register fields, which an epoch restores (R22, R501): PEG_FRAME, CODECFG, the cell registers, MRT_SIEVECFG, MRT_ZOOMCFG
and JST_ZONESEL. -/
def stagedOffsets : List Nat :=
  [0x80008, 0x80014, 0x80018, 0x8001C, 0x80020, 0x80024, 0x80028, 0x8002C, 0xC0004, 0xC0008]
    ++ (List.range 8).map (fun z => 0x100020 + 4 * z)

/-- The register image of settings record 1. -/
def State.image1 (s : State) : List (Nat × Nat) :=
  ((regOffsets imageRegs .rw).filter (fun p => !imageSkips.contains p.2)).map (s.regImage .rw)

/-- The RWK configuration of Truss for record 3, and the Girt tables of record 5. -/
def State.image3 (s : State) : List (Nat × Nat) :=
  ((regOffsets R.regsTRS .rwk).filter (fun p => p.2 != 0x280004)).map (s.regImage .rwk)
def State.image5 (s : State) : List (Nat × Nat) :=
  ((regOffsets R.regsGRT .rwk).filter (fun p => p.2 != 0x4C0000)).map (s.regImage .rwk)

/-- Entries of a register image as bytes: offset and value. -/
def packRegs (l : List (Nat × Nat)) : List Byte := l.flatMap (fun e => leBytes 4 e.1 ++ leBytes 4 e.2)

/-- Entries from their bytes. -/
def unpackRegs (b : List Byte) : List (Nat × Nat) := (List.range (b.length / 8)).map (fun i => (fieldAt b (8 * i) 4, fieldAt b (8 * i + 4) 4))

/-- First address and size of each region of an allocation, as bytes. -/
def packAlloc (a : Alloc) : List Byte :=
  [a.lookback, a.capture, a.journal, a.cluster, a.firmware, a.faultlog, a.scratch].flatMap (fun r => leBytes 8 r.1 ++ leBytes 8 r.2)

/-- An allocation from its bytes. -/
def unpackAlloc (b : List Byte) : Alloc :=
  let r (i : Nat) : Nat × Nat := (fieldAt b (16 * i) 8, fieldAt b (16 * i + 8) 8)
  { lookback := r 0, capture := r 1, journal := r 2, cluster := r 3, firmware := r 4, faultlog := r 5, scratch := r 6 }

/-- A list of numbers as bytes: its length, then 8 bytes each. -/
def packInts (l : List Int) : List Byte := leBytes 4 l.length ++ l.flatMap (fun v => leBytes 8 (ofIntBits 64 v))

/-- Lists of numbers from their bytes. -/
def unpackInts : Nat → List Byte → List (List Int)
  | 0, _ => []
  | n + 1, b =>
    if b.length < 4 then []
    else
      let k := fieldAt b 0 4
      ((List.range k).map (fun i => toSigned 64 (fieldAt b (4 + 8 * i) 8))) :: unpackInts n (b.drop (4 + 8 * k))

/-- The entries of a budget bank as bytes, in the layout of R298 without their CRC, behind NDIR. -/
def packBank (k : BudBank) : List Byte :=
  leBytes 4 k.ndir ++ k.entries.flatMap (fun e =>
    leBytes 4 e.pulseMax ++ leBytes 4 e.lim1 ++ leBytes 4 e.lim2 ++ leBytes 4 (e.valid.toNat + 2 * e.absorb.toNat))

/-- A budget bank from its bytes. -/
def unpackBank (b : List Byte) : BudBank :=
  let f (i o : Nat) : Nat := fieldAt b (4 + 16 * i + o) 4
  { ndir := fieldAt b 0 4
    entries := (List.range ((b.length - 4) / 16)).map (fun i =>
      { pulseMax := f i 0, lim1 := f i 4, lim2 := f i 8, valid := f i 12 % 2 == 1, absorb := f i 12 / 2 % 2 == 1 }) }

end Sys2Proof.Machine
end

