-- ==== Sys2Proof/Machine/Repair.lean ====
section
/-!
DEFINITION. Masked faults (R452, R453, R456) and the reading of the fault log (R466): patrol scrub, row sparing, and the management
cores.
-/
namespace Sys2Proof.Machine

/-! ### HBM (R453) -/

/-- PATROL_SCRUB (R453): the scrub finds the words that have newly gone wrong, with those the model holds, and writes back each
one it corrects. -/
def execPatrolScrub (errs : List (Nat × Nat)) (s : State) : Host.Outcome State Fault Refusal :=
  if s.rd R.FLT_HBMCFG_SCRUBH = 0 then s.done
  else
    let new := errs.filter (fun p => p.2 != 0 && decide (32 * p.1 < hbmSize))
    let s1 := s.onFlt (fun f => { f with badWords := new.foldl (fun m p => mapSet 0 m p.1 p.2) f.badWords })
    let all := s1.flt.badWords.map (·.1)
    (s1.readWords all true).1.done

/-- A word of a spared row: its corrected contents are written back; a word beyond correction has none, and stays as it is until
it is written (R453; DEDUCED). -/
def sparedWord (row : Nat) (p : Nat × Nat) : Bool := p.2 == 1 && Config.hbmRow p.1 == row

/-- HBM_ROW_SPARE (R453): a row that is due is remapped, with its contents corrected; where the stack's repair resources are
spent, the repair is refused. -/
def execHbmRowSpare (row : Nat) (ok : Bool) (s : State) : Host.Outcome State Fault Refusal :=
  match s.flt.rowDue.find? (fun p => p.1 == row) with
  | none => s.done
  | some due =>
    let s0 := s.onFlt (fun f => { f with rowDue := f.rowDue.filter (fun p => p.1 != row), rowErrs := mapErase f.rowErrs row })
    let st := stackOf due.2
    if ok then
      let s1 := s0.onFlt (fun f =>
        { f with badWords := f.badWords.filter (fun p => !sparedWord row p)
                 spared := if f.spared.contains row then f.spared else row :: f.spared })
      (((s1.bump (R.FLT_HBMSPARE_SPARED st) 1).flag R.FLT_INTSTAT_SPARE).reportFree 0x20 2 2 st).done
    else (((s0.bump (R.FLT_HBMSPARE_REFUSED st) 1).flag R.FLT_INTSTAT_SPAREOUT).reportFree 0x20 3 1 st).done

/-! ### The log read through registers (R466) -/

/-- FLT_RDDATA0 to FLT_RDDATA15 hold the bytes of an entry, or 0. -/
def State.fltLoad (s : State) (bs : List Byte) : State :=
  (List.range 16).foldl (fun t i => t.wr (R.FLT_RDDATA_DATA i) (fieldAt bs (4 * i) 4)) s

/-- FLT_RDSEQHI_WRITE (R466): the entry of that ESEQ is read from its place in the ring and loaded within the access; one that the
read finds beyond correction is lost (R454). -/
def execFltRdseqhiWrite (v : Word) (s : State) : Host.Outcome State Fault Refusal :=
  let s := s.wr R.FLT_RDSEQHI_ESEQ v.toNat
  let q := s.rd R.FLT_RDSEQLO_ESEQ + 2 ^ 32 * v.toNat
  let s := if s.flt.ring.any (fun e => e.eseq == q) then (s.readWords (s.fltWords q) false).1 else s
  match s.flt.ring.find? (fun e => e.eseq == q) with
  | some e => ((s.fltLoad e.bytes).wr R.FLT_RDSTAT_VALID 1).done
  | none => ((s.fltLoad []).wr R.FLT_RDSTAT_VALID 0).done

/-! ### Management cores (R456) -/

/-- The number of the active core as a bit position. -/
def State.activeCore (s : State) : Nat := s.rd R.FLT_STATUS_ACTCORE

/-- A standby management core is in service. -/
def State.standbyUp (s : State) : Bool := s.on R.FLT_STATUS_MGMTSB

/-- MGMT_TAKEOVER (R456): the standby becomes active, and the failed core is tested. Commands fetched and not executed are
executed afresh by their own rows; none has passed its execution point without its completion. -/
def execMgmtTakeover (s : State) : Host.Outcome State Fault Refusal :=
  if !s.standbyUp then s.done
  else
    let old := s.activeCore
    let s1 := ((s.wr R.FLT_STATUS_ACTCORE (1 - old)).wr R.FLT_STATUS_MGMTSB 0).flag R.FLT_INTSTAT_MGMTSW
    let s2 := s1.onFlt (fun f => { f with coreTest := if old = 0 then some 0 else some 1, injHeart := false })
    (if s.flt.injHeart then s2.reportInj 0x22 1 2 old else s2.reportFree 0x22 1 2 old).done

/-- CORE_TEST (R456): a core that passes becomes standby; one that fails stays out until power-on reset. -/
def execCoreTest (pass : Bool) (s : State) : Host.Outcome State Fault Refusal :=
  match s.flt.coreTest with
  | none => s.done
  | some c =>
    let s1 := s.onFlt (fun f =>
      { f with coreTest := none, coreUp := if pass then f.coreUp else f.coreUp &&& ~~~(1#2 <<< c.val) })
    if pass then ((s1.wr R.FLT_STATUS_MGMTSB 1).reportFree 0x22 2 0 c.val).done
    else ((s1.wr R.FLT_STATUS_MGMTSB 0).reportFree 0x22 3 2 c.val).done

end Sys2Proof.Machine
end

