-- ==== Sys2Proof/Machine/Firmware.lean ====
section
/-!
DEFINITION. Firmware and settings in service (R365, R430 to R443): FW_STAGE, FW_CONFIRM, FW_LIVE, SETTINGS_SAVE, Plumb's saves and
the recovery commands of R444.
-/
namespace Sys2Proof.Machine

/-! ### The settings store (R440, R442) -/

/-- The stored calibration sets of record 4. -/
def State.packCal (s : State) : List Byte :=
  let p := s.plb
  let rows (l : List (List Int)) : List Byte := packInts [(l.length : Int)] ++ l.flatMap packInts
  rows (p.storedCd.map (fun c => (c.1 : Int) :: c.2)) ++ rows (p.storedRz.map (fun c => [(c.1 : Int), c.2]))
    ++ rows (p.storedWf.map (fun c => [(c.1 : Int), c.2.1, c.2.2.1, c.2.2.2])) ++ rows (p.storedHk.map (fun c => [(c.1 : Int), c.2.1, c.2.2]))

/-- The stored calibration sets from record 4. -/
def State.unpackCal (s : State) (b : List Byte) : State :=
  let all := unpackInts (b.length + 1) b
  let take (l : List (List Int)) : List (List Int) × List (List Int) :=
    match l with
    | (n :: _) :: r => (r.take n.toNat, r.drop n.toNat)
    | _ => ([], [])
  let a := take all
  let r := take a.2
  let w := take r.2
  let h := take w.2
  let g (l : List Int) (i : Nat) : Int := l.getD i 0
  { s with plb := { s.plb with
      storedCd := a.1.map (fun l => ((g l 0).toNat, l.drop 1)), storedRz := r.1.map (fun l => ((g l 0).toNat, g l 1))
      storedWf := w.1.map (fun l => ((g l 0).toNat, g l 1, g l 2, g l 3)), storedHk := h.1.map (fun l => ((g l 0).toNat, g l 1, g l 2)) } }

/-- The tables in force, by TABLE_LOAD kind (R380, R440). -/
def State.tablesNow (s : State) : List (Nat × List Byte) :=
  let c := s.epochCfg s.peg.active
  [(1, s.hbmBytes c.sightAddr 1048576), (2, s.hbmBytes c.rowAddr 8192), (3, s.hbmBytes c.planAddr 16384)]
    ++ (if s.plb.chanAddr = 0 then [] else [(5, s.hbmBytes s.plb.chanAddr 1048576)])

/-- Flags of a record that is written again: as it had them. -/
def storedFlags (l : List SetRec) (t : Nat) : Nat := match l.find? (fun r => r.1 == t) with | some r => r.2.1 | none => 0

/-- The records of a save: the configuration as it stands; calibration, regulator addresses, host records and records of types the
image does not know are copied (R440, R442). -/
def State.newRecords (s : State) : List SetRec :=
  let old := s.fwu.records
  let put (l : List SetRec) (t : Nat) (d : List Byte) : List SetRec := putRec l t (storedFlags old t) d
  let l1 := put old 1 (packRegs s.image1)
  let l2 := put l1 2 (match old.find? (fun r => r.1 == 2) with | some r => r.2.2 | none => packAlloc s.fwu.alloc)
  let l3 := put l2 3 (packRegs s.image3 ++ packBank s.budBank)
  let l5 := put l3 5 (packRegs s.image5)
  put l5 6 (Config.packTables s.tablesNow)

/-- SETTINGS_SAVE (R442): it waits for a running FW_STAGE; `flashOk` when the write reads back. -/
def execSettingsSave (r : Fin 16) (flashOk : Bool) (s : State) : Host.Outcome State Fault Refusal :=
  if s.on R.FWU_STATUS_STAGEBUSY then s.done
  else
    (s.command r.val 0x13 16 false (fun _ =>
      if s.on R.FWU_STATUS_SETLOCK then (s, stState, noRes)
      else if flashOk then let (s1, g) := s.writeStore s.newRecords; (s1, stOk, g)
      else (s.wr R.FWU_ERR_CODE 11, stBadTable, noRes))).done

/-- The sets in force are saved in the store, or held until it may be written (R365, R442). -/
def State.plumbSave (s : State) : State :=
  let s1 := s.storeSets
  if s1.on R.FWU_STATUS_SETLOCK || s1.on R.FWU_STATUS_STAGEBUSY then s1.onFwu (fun f => { f with plbHeld := true })
  else ((s1.writeStore (putRec s1.fwu.records 4 (storedFlags s1.fwu.records 4) s1.packCal)).1).onFwu (fun f => { f with plbHeld := false })

/-- A save that was held runs. -/
def State.heldSave (s : State) : State := if s.fwu.plbHeld then s.plumbSave else s

/-- PLB_CMD_SAVE (R365). -/
def execPlbCmdSave (s : State) : Host.Outcome State Fault Refusal := s.plumbSave.done

/-- SAVE_PERIOD (R365): every SAVEH hours; SAVEH = 0 saves on SAVE only. -/
def execSavePeriod (s : State) : Host.Outcome State Fault Refusal :=
  if s.rd R.PLB_LANECFG_SAVEH = 0 then s.done else s.plumbSave.done

/-- PROGSIG_SET (R436). -/
def execProgsigSet (s : State) : Host.Outcome State Fault Refusal := (s.wr R.FWU_CTL_PROGSIG 1).done

/-! ### Staging (R430 to R432) -/

/-- RESULT of FW_STAGE: the slot and the code. -/
def stageResult (slot : Bool) (code : Nat) : Nat := slot.toNat + 256 * code

/-- The slot that is not ACTIVE. -/
def State.spareSlot (s : State) : Bool := match s.bootHead with | some (_, h) => !h.active | none => false

/-- The image that a staged file yields: itself, or a patch's result on the running image, and the bytes for the flash. -/
def State.stagedImage (s : State) (b : List Byte) : Nat × Option (Image × List Byte) :=
  match s.checkImage b [1, 2] with
  | (0, some i) =>
    if imgType i.header = 1 then (0, some (i, b.take (1024 + imgPlen b)))
    else
      match s.fwu.running with
      | none => (8, none)
      | some base =>
        match s.buildPatch i base with
        | (0, some j) => (0, some (j, sealImage j (Config.freshIv s.fresh)))
        | (c, _) => (c, none)
  | (c, _) => (c, none)

/-- The effect of FW_STAGE: refused, or under way until the flash has been written. -/
def State.stageImage (s : State) (r : Nat) (e : BitVec 512) (data : Option (List Byte)) : State :=
  let len := cmdField e 24 4
  if cmdField e 16 8 % 64 != 0 then s.complete r e stBadParam noRes
  else if s.imgState = 1 || s.imgState = 2 || s.fwu.job.isSome || s.fwu.live.isSome then
    s.complete r e stState noRes
  else
    match data with
    | none => (s.onFwu (fun f => { f with staged := none })).complete r e stDmaErr noRes
    | some d =>
      let b := d.take len ++ List.replicate (len - d.length) 0
      let slot := s.spareSlot
      match s.stagedImage b with
      | (0, some (i, bytes)) =>
        let job : StageJob := { ring := r, cid := cmdCid e, slot := slot, image := i, bytes := bytes }
        ((s.draw).onFwu (fun f => { f with staged := some i, job := some job })).wr R.FWU_STATUS_STAGEBUSY 1
      | (c, _) =>
        (((s.onFwu (fun f => { f with staged := none })).fwErr c slot).refuse R.FWU_INTSTAT_IMGREJ).complete r e stBadTable
          (stageResult slot c)

/-- FW_STAGE (R430). -/
def execFwStage (r : Fin 16) (data : Option (List Byte)) (s : State) : Host.Outcome State Fault Refusal :=
  match s.frontCmd r.val 0x10 with
  | none => s.done
  | some e =>
    (if cmdClean e 28 && cmdParam e == 0 then s.stageImage r.val e data
      else s.complete r.val e stBadParam noRes).done

/-- The slot and the boot header are written, or the flash has failed and the header stays (R430). -/
def State.stageDone (s : State) (j : StageJob) (flashOk : Bool) : State :=
  let s0 := (s.onFwu (fun f => { f with job := none })).wr R.FWU_STATUS_STAGEBUSY 0
  if flashOk then
    let ver := match s.fwu.running with | some i => imgVersion i.header | none => 0
    let s1 := (s0.flashStore (slotBase j.slot) j.bytes).putHead
      { hseq := 0, active := j.slot, state := 1, tries := 3, verAct := imgVersion j.image.header, verOth := ver }
    ((s1.headRegs).flag R.FWU_INTSTAT_STAGED).completeHeld j.ring stOk (stageResult j.slot 0)
  else
    let s1 := (s0.draw).flashStore (slotBase j.slot) (j.bytes.mapIdx (fun i _ => Config.freeByte s.fresh i))
    (s1.fwErr 11 j.slot).completeHeld j.ring stBadTable (stageResult j.slot 11)

/-- FW_STAGE_DONE (R430): the flash write has ended; saves of Plumb's that waited for it run. -/
def execFwStageDone (flashOk : Bool) (s : State) : Host.Outcome State Fault Refusal :=
  match s.fwu.job with
  | none => s.done
  | some j =>
    let s1 := s.stageDone j flashOk
    (if s1.on R.FWU_STATUS_SETLOCK then s1 else s1.heldSave).done

/-! ### Confirmation (R433, R434) -/

/-- The SVN of the image in a slot, as its header in the flash gives it. -/
def State.slotSvn (s : State) (b : Bool) : Nat := (s.flashByte (slotBase b + 12)).toNat

/-- OTP bits of a confirmed image: the rollback counter, and the key slots it revokes but its own. -/
def State.burnOtp (s : State) (h : List Byte) : State :=
  let own : BitVec 4 := BitVec.ofNat 4 (2 ^ (imgKey h % 4))
  let s1 := s.onFwu (fun f => { f with otp := { f.otp with
    rollback := max f.otp.rollback (imgSvn h), revoked := f.otp.revoked ||| (BitVec.ofNat 4 (imgRevoke h) &&& ~~~own) } })
  (s1.wr R.FWU_SVN_CNT s1.fwu.otp.rollback).wr R.FWU_SVN_REVOKED s1.fwu.otp.revoked.toNat

/-- A trial image is confirmed. -/
def State.confirmImage (s : State) (i : Image) : State :=
  match s.bootHead with
  | none => s
  | some (_, h) =>
    let oth := if s.slotSvn (!h.active) < imgSvn i.header then 0 else h.verOth
    let s1 := ((s.putHead { h with state := 0, verOth := oth }).headRegs).wr R.FWU_STATUS_IMGSTATE 0
    let s2 := (((s1.burnOtp i.header).wr R.FWU_STATUS_OTPPEND 0).setLock).flag R.FWU_INTSTAT_CONFIRMED
    if s2.on R.FWU_STATUS_SETLOCK then s2 else ((s2.writeStore s2.fwu.records).1).heldSave

/-- The effect of FW_CONFIRM. -/
def State.confirmCmd (s : State) (r : Nat) (e : BitVec 512) : State :=
  let p := cmdParam e
  match s.fwu.running with
  | none => s.complete r e stState noRes
  | some i =>
    if 1 < p then s.complete r e stBadParam noRes
    else if !(s.imgState = 1 || (s.imgState = 2 && p = 1)) then s.complete r e stState noRes
    else if cmdField e 16 4 != imgVersion i.header then s.complete r e stBadParam noRes
    else if p = 0 then (s.confirmImage i).complete r e stOk noRes
    else
      let s1 := match s.bootHead with | some (_, h) => s.putHead { h with state := 2 } | none => s
      (s1.complete r e stOk noRes).fullReset 7

/-- FW_CONFIRM (R434). -/
def execFwConfirm (r : Fin 16) (s : State) : Host.Outcome State Fault Refusal :=
  match s.frontCmd r.val 0x11 with
  | none => s.done
  | some e => (if cmdClean e 20 then s.confirmCmd r.val e else s.complete r.val e stBadParam noRes).done

/-! ### Live replacement (R437, R438) -/

/-- The staged image is the TRIAL image that the boot header names. -/
def State.stagedTrial (s : State) : Option (Image × BootHead) :=
  match s.fwu.staged, s.bootHead with
  | some i, some (_, h) =>
    if h.state = 1 && s.flashBytes (slotBase h.active) 0x360 == i.header.take 0x360 && imgVersion i.header == h.verAct then some (i, h)
    else none
  | _, _ => none

/-- The registers of the image that runs (R449). -/
def State.runRegs (s : State) (i : Image) (slot : Bool) : State :=
  let s1 := ((s.wrB R.FWU_STATUS_RUNSLOT slot).wr R.FWU_VERSION_VER (imgVersion i.header)).wr R.FWU_SCHEMA_IMAGE (imgSchema i.header)
  (s1.wr R.FWU_SVN_RUN (imgSvn i.header)).wr R.FWU_SVN_KEYSLOT (imgKey i.header)

/-- A part has been replaced: LIVEPART, LIVEDONE, and the image's state, which is TRIAL once both parts run the staged image. -/
def State.livePart (s : State) (part : Nat) : State :=
  let parts := s.rd R.FWU_STATUS_LIVEPART ||| part
  let s1 := (s.wr R.FWU_STATUS_LIVEPART parts).flag R.FWU_INTSTAT_LIVEDONE
  match s.stagedTrial with
  | some (i, h) =>
    if parts = 3 then
      let s2 : State := { s1 with boot := { s1.boot with slotB := h.active } }
      (((s2.onFwu (fun f => { f with running := some i })).runRegs i h.active).wr R.FWU_STATUS_IMGSTATE 1).setLock
    else (s1.wr R.FWU_STATUS_IMGSTATE 2).setLock
  | none => s1

/-- The management part: the standby core takes over with the new section, and the former active core becomes standby. -/
def State.liveManagement (s : State) : State :=
  ((s.wr R.FLT_STATUS_ACTCORE (1 - s.activeCore)).flag R.FLT_INTSTAT_MGMTSW).livePart 1

/-- The checks of FW_LIVE: a status and a code of R426. -/
def State.liveCheck (s : State) (p : Nat) : Option (Nat × Nat) :=
  match s.stagedTrial with
  | none => some (stState, 0)
  | some (i, _) =>
    if (p.testBit 0 && !s.standbyUp) || (p.testBit 1 && (s.spareTaken || s.fwu.live.isSome)) || s.fwu.job.isSome then
      some (stState, 0)
    else if i.sect 2 != s.fwu.truss then some (stBadTable, 12)
    else
      match s.storeNow with
      | some (_, x) => if storeReadable i.header x then none else some (stBadTable, 13)
      | none => none

/-- The effect of FW_LIVE: management at once, clusters one by one behind it. -/
def State.liveCmd (s : State) (r : Nat) (e : BitVec 512) : State :=
  let p := cmdParam e
  if 3 < p then s.complete r e stBadParam noRes
  else
    match s.liveCheck p with
    | some (st, code) => (if code = 0 then s else s.fwErr code (!s.spareSlot)).complete r e st noRes
    | none =>
      let s1 := if p.testBit 0 then s.liveManagement else s
      if p.testBit 1 then
        (s1.substitute 0).onFwu (fun f => { f with live := some { ring := r, cid := cmdCid e, parts := p, step := 0 } })
      else s1.complete r e stOk noRes

/-- FW_LIVE (R437). -/
def execFwLive (r : Fin 16) (s : State) : Host.Outcome State Fault Refusal :=
  match s.frontCmd r.val 0x12 with
  | none => s.done
  | some e => (if cmdClean e 16 then s.liveCmd r.val e else s.complete r.val e stBadParam noRes).done

/-- A cluster that the spare has replaced returns to service. -/
def State.clusterBack (s : State) (c : Nat) : State :=
  (({ s with jst := { s.jst with subFor := none } } : State).wr (R.JST_CLSTAT_STATE c) 0).wr (R.JST_CLSTAT_STATE 32) 2

/-- One cluster has loaded the new section (R438): the spare goes on to the next, and the command completes after the last. A fault
that has taken the spare away stops the replacement where it stands. -/
def State.liveStep (s : State) (j : LiveJob) : State :=
  if (s.jst.subAt.map (·.1)) = some j.step then s
  else if s.jst.subFor != some j.step || s.jst.clFault.contains j.step || s.jst.clFault.contains 32 then
    (s.onFwu (fun f => { f with live := none })).completeHeld j.ring stState noRes
  else
    let s1 := s.clusterBack j.step
    if j.step < 31 then
      ((s1.substitute (j.step + 1)).wr R.JST_STATUS_SUBCL 63).onFwu (fun f => { f with live := some { j with step := j.step + 1 } })
    else
      let s2 := (s1.wr R.JST_STATUS_SUBCL 63).livePart 2
      (s2.onFwu (fun f => { f with live := none })).completeHeld j.ring stOk noRes

/-- LIVE_CLUSTER_STEP (R438). -/
def execLiveClusterStep (s : State) : Host.Outcome State Fault Refusal :=
  match s.fwu.live with
  | none => s.done
  | some j => (s.liveStep j).done

/-! ### ROM recovery (R444) -/

/-- The command came in a UART frame; its CRC is bad, and it gets no reply (R444). -/
def recUart (v : RecPath) : Bool := match v with | .bar4 => false | .uart _ => true
def recBadCrc (v : RecPath) : Bool := v == .uart false

/-- A frame on the UART (R444). -/
def uartFrame (op a0 a1 : Nat) (data : List Byte) : List Byte :=
  let body := leBytes 1 op ++ leBytes 4 a0 ++ leBytes 4 a1 ++ data
  let l := leBytes 2 body.length ++ body
  [0x7E#8] ++ l ++ leBytes 4 (crc32c l).toNat

/-- What a recovery command answers: the mailbox's result, or a reply frame on the UART. -/
def State.recAnswer (s : State) (via : RecPath) (op a0 a1 res : Nat) : State :=
  if recUart via then s.emit (.uartReply (uartFrame op res (Config.replyArg op) []))
  else
    let prog := match s.fwu.receipt with | some x => x.prog | none => 0
    s.onFwu (fun f => { f with mailbox := { f.mailbox with rcmd := op, arg0 := a0, arg1 := a1, busy := false, res := res, rprog := prog } })

/-- The result of a bad opcode or argument. -/
def recBad : Nat := 0x21

/-- BEGIN (R444): the length of a full image, header included. -/
def execBegin (via : RecPath) (arg0 arg1 : Word) (s : State) : Host.Outcome State Fault Refusal :=
  let n := arg1.toNat
  if !s.fwu.recovery || recBadCrc via then s.done
  else if 1024 ≤ n && decide (n ≤ slotSize) then
    let rc : Receipt := { len := n, prog := 0, slot := s.spareSlot, bytes := [], failed := false }
    ((s.onFwu (fun f => { f with receipt := some rc })).recAnswer via 1 arg0.toNat n 0).done
  else (s.recAnswer via 1 arg0.toNat n recBad).done

/-- Bytes accepted by a receipt: codes 1 to 4 once the first 1 KiB is there, then the flash is written (R444). The answer is the
result. -/
def State.recTake (s : State) (x : Receipt) (data : List Byte) (flashOk : Bool) : State × Nat :=
  let all := x.bytes ++ data
  let y := { x with prog := all.length, bytes := all }
  let keep (z : Receipt) : State := s.onFwu (fun f => { f with receipt := some z })
  if all.length < 1024 then (keep y, 0)
  else
    let code := if 1024 ≤ x.prog then 0
      else if imgType all != 1 || !zeroSpan all 0x37C 132 then 1 else s.headCode (all.take 0x360) x.len
    if code != 0 then ((keep { x with failed := true }).fwErr code x.slot, code)
    else if !flashOk then ((keep { x with failed := true }).fwErr 11 x.slot, 11)
    else
      let s1 := keep y
      (if 1024 ≤ x.prog then s1.flashStore (slotBase x.slot + x.prog) data else s1.flashStore (slotBase x.slot) all, 0)

/-- CHUNK (R444): at most 983,040 bytes from the data window, 4,096 in a UART frame. -/
def execChunk (via : RecPath) (arg0 arg1 : Word) (data : List Byte) (flashOk : Bool) (s : State) : Host.Outcome State Fault Refusal :=
  let n := arg1.toNat
  let say (t : State) (res : Nat) : Host.Outcome State Fault Refusal := (t.recAnswer via 2 arg0.toNat n res).done
  if !s.fwu.recovery || recBadCrc via then s.done
  else
    match s.fwu.receipt with
    | none => say s recBad
    | some x =>
      if x.failed || decide ((if recUart via then 4096 else 983040) < n) || decide (x.len < x.prog + n) then say s recBad
      else if arg0.toNat != x.prog then say s 0x20
      else
        let (s1, res) := s.recTake x (data.take n ++ List.replicate (n - data.length) 0) flashOk
        say s1 res

/-- Codes 5 to 7 on a whole image whose header has passed. -/
def lateCode (b : List Byte) : Nat :=
  match openImage b with
  | none => 5
  | some p => if sha384 p != imgHash b then 6 else if !sectGood b then 7 else 0

/-- RECOVERY_COMMIT (R444): codes 5 to 7, then the boot header: the slot ACTIVE, TRIAL, TRIES 3. -/
def execRecoveryCommit (via : RecPath) (flashOk : Bool) (s : State) : Host.Outcome State Fault Refusal :=
  let say (t : State) (res : Nat) : Host.Outcome State Fault Refusal := (t.recAnswer via 3 0 0 res).done
  if !s.fwu.recovery || recBadCrc via then s.done
  else
    match s.fwu.receipt with
    | none => say s recBad
    | some x =>
      if x.failed || x.prog != x.len then say s recBad
      else
        let code := lateCode x.bytes
        if code != 0 then say (s.fwErr code x.slot) code
        else if !flashOk then say (s.fwErr 11 x.slot) 11
        else
          let oth := match s.bootHead with | some (_, h) => if h.state = 0 then h.verAct else 0 | none => 0
          let s1 := s.putHead { hseq := 0, active := x.slot, state := 1, tries := 3, verAct := imgVersion x.bytes, verOth := oth }
          say (s1.onFwu (fun f => { f with receipt := none })) 0

/-- ERASESET (R444): both settings copies are erased. -/
def execEraseset (via : RecPath) (flashOk : Bool) (s : State) : Host.Outcome State Fault Refusal :=
  if !s.fwu.recovery || recBadCrc via then s.done
  else if !flashOk then ((s.wr R.FWU_ERR_CODE 11).recAnswer via 5 0 0 11).done
  else (({ s with flash := s.flash.filter (fun c => decide (c.1 < storeBase false)) } : State).recAnswer via 5 0 0 0).done

/-- BAUD (R444): UART only. -/
def execBaud (via : RecPath) (arg0 : Word) (s : State) : Host.Outcome State Fault Refusal :=
  if !s.fwu.recovery || recBadCrc via then s.done
  else if recUart via && decide (115200 ≤ arg0.toNat) && decide (arg0.toNat ≤ 3000000) then
    ((s.onFwu (fun f => { f with uartBaud := arg0.toNat })).recAnswer via 6 arg0.toNat 0 0).done
  else (s.recAnswer via 6 arg0.toNat 0 recBad).done

end Sys2Proof.Machine
end

