-- ==== Sys2Proof/Machine/Plumb.lean ====
section
/-!
DEFINITION. Plumb's commands (R351 to R363), the thermal tick that carries its temperature triggers, and Sill's calibration run.
-/
namespace Sys2Proof.Machine

/-- ROUND_TICK (R333): a housekeeping and thermal tick. While the clocks are gated only the thermal part runs. -/
def execRoundTick (temps : List (BitVec 12)) (pkg : BitVec 12) (s : State) : Host.Outcome State Fault Refusal :=
  let s1 := s.thermalTick temps pkg
  (if s1.boot.gated || s1.boot.inReset then s1 else s1.roundTick.tempTriggers).done

/-- CALIBRATION_PERIOD (R351): a kind's PERIOD has elapsed. -/
def execCalibrationPeriod (k : Fin 6) (s : State) : Host.Outcome State Fault Refusal :=
  let on := if k = 1 then s.cdCfg.period != 0 else if k = 3 then s.wfCfg.period != 0
    else if k = 4 then s.rd R.PLB_HKCFG_PERIOD != 0 else false
  if on then (s.startRun k.val).done else s.done

/-- PLB_CMD_CD (R351). -/
def execPlbCmdCd (s : State) : Host.Outcome State Fault Refusal := (s.startRun 1).done

/-- PLB_CMD_WF (R351). -/
def execPlbCmdWf (s : State) : Host.Outcome State Fault Refusal := (s.startRun 3).done

/-- PLB_CMD_HK (R351). -/
def execPlbCmdHk (s : State) : Host.Outcome State Fault Refusal := (s.startRun 4).done

/-- CODE_DENSITY_DONE (R356): a TDC has reached its total. -/
def execCodeDensityDone (t : Fin 1056) (s : State) : Host.Outcome State Fault Refusal :=
  let t := t.val
  let n := mapGet [] s.plb.counts t
  if s.on R.PLB_STATUS_CDBUSY && !s.plb.doneTdc.contains t && decide (1024 * max 1 s.cdCfg.nev ≤ n.sum) then
    (if tapsBad n then s.cdFail t else s.cdTake t n).cdFinish.done
  else s.done

/-- CODE_DENSITY_TIMEOUT (R356): a TDC has not reached its total within TMAX. -/
def execCodeDensityTimeout (t : Fin 1056) (s : State) : Host.Outcome State Fault Refusal :=
  if s.on R.PLB_STATUS_CDBUSY && !s.plb.doneTdc.contains t.val then (s.cdFail t.val).cdFinish.done else s.done

/-- What an interleave run measured of one converter: sum, sum of squares, and the correlations with the even neighbours. -/
structure IlvMeas where
  sum  : Int
  sq   : Nat
  pre  : Int
  post : Int
deriving DecidableEq, Repr

/-- The new GAIN that makes a mean square equal another (R362). -/
def gainFor (gain : Int) (want have' : Nat) : Int :=
  let g := (262144 + gain).toNat
  clampI (-32768) 32767 ((((isqrt (4 * g * g * want / max 1 have') + 1) / 2 : Nat) : Int) - 262144)

/-- The two correlations differ by 0.1 % or more (R362). -/
def corrDiffer (m : IlvMeas) : Bool := decide (max m.pre.natAbs m.post.natAbs ≤ 1000 * (m.pre - m.post).natAbs)

/-- The correction bank after an interleave run (R362), written into the inactive one; the answer says whether a pair was
rejected. -/
def State.ilvWrite (s : State) (meas : List (Nat × IlvMeas)) : State × Bool :=
  let act := 32 * (s.on R.WFP_CTL_CORBANK).toNat
  let new := 32 - act
  let n : Nat := 4194304
  let s1 := (List.range 32).foldl (fun (t : State) i =>
    ((t.wr (R.WFP_CORA_OFS (new + i)) (t.rd (R.WFP_CORA_OFS (act + i)))).wr (R.WFP_CORA_GAIN (new + i))
      (t.rd (R.WFP_CORA_GAIN (act + i)))).wr (R.WFP_CORB_SKEW (new + i)) (t.rd (R.WFP_CORB_SKEW (act + i)))) s
  let s2 := meas.foldl (fun (t : State) m =>
    t.wrS (R.WFP_CORA_OFS (new + m.1)) (clampI (-32768) 32767 (t.rdS (R.WFP_CORA_OFS (act + m.1)) + divRound m.2.sum n))) s1
  (List.range 16).foldl (fun (a : State × Bool) p =>
    match meas.find? (fun m => m.1 == 2 * p), meas.find? (fun m => m.1 == 2 * p + 1) with
    | some e, some o =>
      if !(s.rd R.WFP_PAIRCFG_IL).testBit p then a
      else if e.2.sq < 1048576 * n || o.2.sq < 1048576 * n then (a.1, true)
      else
        let i := 2 * p + 1
        let k := a.1.rdS (R.WFP_CORB_SKEW (act + i))
        let up := (decide (o.2.pre < o.2.post)) == Config.skewSense
        let sk := if corrDiffer o.2 then clampI (-500) 500 (if up then k + 20 else k - 20) else k
        ((a.1.wrS (R.WFP_CORA_GAIN (new + i)) (gainFor (a.1.rdS (R.WFP_CORA_GAIN (act + i))) e.2.sq o.2.sq)).wrS
          (R.WFP_CORB_SKEW (new + i)) sk, a.2)
    | _, _ => a) (s2, false)

/-- INTERLEAVE_RUN_DONE (R362): new corrections of the enabled converters go into the inactive bank, which is asked to become
active. While a host's swap is pending the run waits (R367). -/
def execInterleaveRunDone (meas : List (Fin 32 × Int × Nat × Int × Int)) (s : State) : Host.Outcome State Fault Refusal :=
  if s.on R.PLB_STATUS_WFBUSY && s.wfp.corSwap.isNone then
    let en := s.rd R.WFP_ADCEN_EN
    let ms := (meas.filter (fun m => en.testBit m.1.val)).map (fun m =>
      (m.1.val, ({ sum := m.2.1, sq := m.2.2.1, pre := m.2.2.2.1, post := m.2.2.2.2 } : IlvMeas)))
    let (s1, rej) := s.ilvWrite ms
    let n := s1.plb.nextWf
    let s2 := ((s1.when rej (·.fault R.PLB_INTSTAT_WFREJ 1 0)).wr R.PLB_STATUS_WFBUSY 0).wr R.PLB_SETAUX_WF n
    ((s2.onPlb (fun p => { p with nextWf := setNext n, wfDue := some n, lastWf := s1.wfBank (!s1.on R.WFP_CTL_CORBANK) })).flag
      R.PLB_INTSTAT_WFDONE).corSwap.done
  else s.done

/-- OFS and GAIN from the sums of a housekeeping run (R363), or none when they are rejected. -/
def hkCorrection (sz sr : Int) : Option (Int × Int) :=
  let ofs := roundEven sz 16
  let d := sr - 16 * ofs
  if d ≤ 0 then none
  else
    let gain := roundEven (4194304 * (16777216 - d)) d.toNat
    if 3200 < ofs.natAbs || 41943 < gain.natAbs then none else some (ofs, gain)

/-- The housekeeping run ends with its second converter: a set, unless a result was rejected (R350, R353, R363). -/
def State.hkFinish (s : State) : State :=
  if s.calPending || !s.on R.PLB_STATUS_HKBUSY then s
  else
    let s1 := s.wr R.PLB_STATUS_HKBUSY 0
    if s1.plb.hkBad then s1
    else
      let n := s1.plb.nextHk
      (((s1.wr R.PLB_SETAUX_HK n).onPlb (fun p => { p with nextHk := setNext n, lastHk := s1.hkNow })).markCal 4 n true true 0).flag
        R.PLB_INTSTAT_HKDONE

/-- CALIBRATION_RUN (R338, R363): a converter's run ends and Plumb takes the sums, unless its run has been ended (R351); the other
converter's request follows. -/
def execCalibrationRun (adc : Bool) (sz sr : Int) (s : State) : Host.Outcome State Fault Refusal :=
  let flag := if adc then R.SIL_STATUS_CAL1 else R.SIL_STATUS_CAL0
  if s.on flag then
    let s1 := s.wr flag 0
    let s2 := if !s.on R.PLB_STATUS_HKBUSY then s1 else match hkCorrection sz sr with
      | some (o, g) => (s1.wrS (R.SIL_COROFS_OFS adc.toNat) o).wrS (R.SIL_CORGAIN_GAIN adc.toNat) g
      | none => (s1.onPlb (fun p => { p with hkBad := true })).fault R.PLB_INTSTAT_HKREJ 1 adc.toNat
    s2.switch.calStart.hkFinish.done
  else s.done

/-- RZNOREF (R360): a group has had no drift sample for 60 s; the flag is set once for that absence. -/
def execRznoref (g : Fin 32) (s : State) : Host.Outcome State Fault Refusal :=
  if s.plb.noRef.contains g.val then s.done
  else ((s.onPlb (fun p => { p with noRef := g.val :: p.noRef })).fault R.PLB_INTSTAT_RZNOREF 1 g.val).done

/-- QUIET (R358): a channel has stamped no event of its own for QUIETT seconds of scanning. -/
def execQuiet (ch : Fin 1024) (s : State) : Host.Outcome State Fault Refusal :=
  let c := ch.val
  if s.cdCfg.quiett != 0 && s.peg.scanning && !s.on (R.PLB_CDQ_QUIET c) then
    (((s.wr (R.PLB_QUIET_CH (c / 32)) (putBit (s.rd (R.PLB_QUIET_CH (c / 32))) (c % 32) true)).wr (R.PLB_CDQ_QUIET c) 1).fault
      R.PLB_INTSTAT_QUIET 1 c).done
  else s.done

end Sys2Proof.Machine
end

