-- ==== Sys2Proof/Machine/BootOps.lean ====
section
/-!
DEFINITION. What the start-up stages do beside moving on (R49 to R60): recovery mode, choice of a slot, settings and tables
(R440 to R446, R501, R502), journal recovery (R240), program sets, and the entries to stages SPIN and ARM.
-/
namespace Sys2Proof.Machine

/-- A change of start-up's own record. -/
def State.onBoot (s : State) (f : BootState → BootState) : State := { s with boot := f s.boot }

/-- Start-up stands at a stage and goes on from it. -/
def State.bootAt (s : State) (n : Nat) : Bool :=
  s.stage == n && !s.boot.inReset && !s.boot.pornLow && s.boot.powered && !s.boot.ended && !s.boot.gated

/-- ROM recovery mode (R444): stage 0x0F with its cause. -/
def State.enterRecovery (s : State) (cause detail : Nat) : State :=
  ((s.onFwu (fun f => { f with recovery := true })).wr R.FWU_STATUS_IMGSTATE 3).stageLine 0x0F cause detail

/-- Start-up ends here (R58): at TRUSS_TEST until the next PORN_N. DEDUCED (log 130): at JOIST, where the table names no end, until
PORN_N or the next full reset, which R50 and R53 except nowhere. -/
def State.bootEnds (s : State) (cause : Nat) : State := (s.stall cause 0).onBoot (fun b => { b with ended := true })

/-- BOOTSEL 0b11 as sampled at PORN_N, and no recovery RESET since: ROM stops and waits for the debugger (R56, R444). -/
def State.jtagHold (s : State) : Bool := s.boot.bootsel == 3 && !s.boot.ignoreSel

/-- What a power-on reset, or the loss of power, leaves: the levels of the reset pins are those of the board, and CLKREQ_N is driven
low while the part is powered (R498). -/
def State.powerState (s : State) (low powered : Bool) (sel : BitVec 2) : State :=
  let s1 := s.powerReset.onBoot (fun b =>
    { b with pornLow := low, powered := powered, clkreqLow := powered, bootsel := sel, fullrstHi := s.boot.fullrstHi
             perstHi := s.boot.perstHi })
  s1.when (s.boot.clkreqLow != powered) (·.emit (.clkreqN powered))

/-- While PORN_N is low, DARK_N and SOUT are low (R37). -/
def State.pinsLow (s : State) : State :=
  let s1 := if s.on R.TRS_STATE_DARKCMD then s.emit (.darkN false) else s
  (List.range 4).foldl (fun t k => if (s.rd R.TRS_STATE_SOUTCMD).testBit k then t.emit (.sout k false) else t) s1

/-- The link is down after PERST_N or a hot reset; every lane is tried again (R48, R457). -/
def State.linkGone (s : State) : State :=
  ((s.wr R.HIF_STATUS_SPEED 0).wr R.HIF_STATUS_WIDTH 0).wr R.FLT_PCIE_LANEOUT 0

/-- The journal as after a power-on reset: a new generation and numbers from 1 (R232, R240); the markers that wait, such as a
timebase change, are still due (R42, R241). -/
def State.journalNew (s : State) : State :=
  { s.draw with jnl := { JnlState.reset with gen := Config.newGen s.fresh, markers := s.jnl.markers, frames := s.jnl.frames } }

/-- What the blocks retain in HBM, and HBM itself, are gone. -/
def State.hbmGone (s : State) : State :=
  { s with
      hbm := [], lbk := .reset, peg := .reset, plb := .reset, hif := .reset
      dog := { s.dog with ring := [] }, krf := { s.krf with fine := [], groups := [] }
      jst := { s.jst with sets := [] }, dwl := { s.dwl with trained := [] }
      tnn := { s.tnn with retSp := 0, retTl := 0, retDem := 0 }
      fwu := { s.fwu with running := none, records := [] }
      flt := { s.flt with ring := [], wq := [], spared := [], badWords := [] } }

/-- HBM contents are lost at the restart of a thermal shutdown (R345): HBM is trained fully, and what lay in it is gone. -/
def State.hbmLoss (s : State) : State :=
  let s1 := (List.range 4096).foldl (fun t q => t.wr (R.HIF_QSTATE_STATE q) 0) s.journalNew.hbmGone
  let s2 := (List.range 16).foldl (fun t r => (t.wr (R.HIF_CRLASTLO_CID r) 0).wr (R.HIF_CRLASTHI_CID r) 0) s1
  (((s2.wr R.PEG_FRAMENUM_NUM 0).wr R.THM_STATUS_HBMLOST 0).fault R.JNL_INTSTAT_NEWGEN 3 0).onBoot
    (fun b => { b with fast := false, trained := false, wasRun := false })

/-! ### ROM_START (R59, R428, R429) -/

/-- The start limit of R59 is met: no HBM sensor above 85 degrees and no logic sensor above 95; once the stage waits, all below
those thresholds less 5 degrees. -/
def State.coolEnough (s : State) : Bool :=
  let hot (t lim : Int) : Bool := if s.boot.stalled then decide (lim - 40 ≤ t) else decide (lim < t)
  let tooHot (i n : Nat) (lim : Int) : Bool :=
    (List.range n).any (fun k => s.on (R.THM_SENS_VALID (i + k)) && hot (s.rdS (R.THM_SENS_T (i + k))) lim)
  !tooHot 0 24 760 && !tooHot 24 4 680

/-- What the OTP shows in FWU_SVN (R423, R449). -/
def State.otpRegs (s : State) : State :=
  (s.wr R.FWU_SVN_CNT s.fwu.otp.rollback).wr R.FWU_SVN_REVOKED s.fwu.otp.revoked.toNat

/-- The slot that a boot header names, and the header as rewritten before stage IMAGE (R428). -/
def chooseSlot (h : BootHead) : Bool × Option BootHead :=
  if h.state = 1 then
    if h.tries = 0 then (!h.active, some { h with state := 2 }) else (h.active, some { h with tries := h.tries - 1 })
  else (if h.state = 2 then !h.active else h.active, none)

/-- The retained image may be used again (R429): the header names its slot, CONFIRMED, or as a TRIAL that was running. -/
def State.retainedOk (s : State) (h : BootHead) : Bool :=
  s.boot.fast && s.fwu.running.isSome && h.active == s.boot.slotB && h.state != 2
    && s.fwu.running.any (fun i => imgVersion i.header == h.verAct)

/-- ROM's choice at stage ROM_START: JTAG hold and ROM recovery mode by BOOTSEL (R56), else the slot that the header names. -/
def State.romChoice (s : State) : State :=
  if s.jtagHold then s.onBoot (fun b => { b with ended := true })
  else if s.boot.bootsel != 0 && !s.boot.ignoreSel then s.enterRecovery 0 0
  else
    match s.bootHead with
    | none => s.enterRecovery 5 0
    | some (_, h) =>
      let keep := s.retainedOk h
      let (slot, new) := chooseSlot h
      let s1 := match new with | some g => s.putHead g | none => s
      let ok := keep && slot == h.active
      let s2 := s1.onBoot (fun b => { b with slotB := slot, imageOk := ok })
      let s3 := s2.onFwu (fun f => { f with tried := [] })
      let s4 := if s.boot.fast && !ok then s3.stageLine 3 0x10 0 else s3
      s4.enterStage 4

/-! ### IMAGE (R58, R426, R428) -/

/-- The chosen slot is that of a trial image. -/
def State.slotIsTrial (s : State) : Bool := match s.bootHead with | some (_, h) => h.state == 1 && h.active == s.boot.slotB | none => false

/-- The image of the chosen slot has failed: a trial is marked FAILED, and the other slot is tried once (R428). -/
def State.slotFails (s : State) : State :=
  let s1 := if s.slotIsTrial then match s.bootHead with | some (_, h) => s.putHead { h with state := 2 } | none => s else s
  let s2 := s1.onFwu (fun f => { f with tried := s.boot.slotB :: f.tried, running := none })
  if s2.fwu.tried.contains (!s.boot.slotB) then (s2.stageLine s2.stage 9 0).enterRecovery 9 0
  else
    let s3 := s2.onBoot (fun b => { b with slotB := !b.slotB, imageOk := false })
    (s3.stageLine s3.stage 8 0).enterStage 5

/-- Stage IMAGE: the retained image, or the chosen slot under R426. -/
def State.imageStage (s : State) : State :=
  if s.boot.imageOk then s.enterStage 6
  else
    let base := slotBase s.boot.slotB
    let len := min slotSize (1024 + fieldAt (s.flashBytes base 24) 20 4)
    match s.checkImage (s.flashBytes base len) [1] with
    | (0, some i) => (s.onFwu (fun f => { f with running := some i })).enterStage 6
    | (c, _) => ((s.fwErr c s.boot.slotB).flag R.FWU_INTSTAT_IMGREJ).slotFails

/-! ### SETTINGS (R440 to R446, R501, R502) -/

/-- A register image of record 1 is restored: at a full reset, staged fields and the clock plant stay as they are (R501). -/
def State.restore1 (s : State) (b : List Byte) (full : Bool) : State :=
  ((unpackRegs b).filter (fun e => imageRegs.any (fun d => d.has e.1) && !imageSkips.contains e.1
    && !(full && (stagedOffsets.contains e.1 || (decide (0x10000 ≤ e.1) && decide (e.1 < 0x20000)))))).foldl (State.putImage · .rw) s

/-- The staged fields of an epoch go back to their registers (R501). -/
def State.putStaged (s : State) (c : EpochCfg) : State :=
  let s1 := (((((s.wr R.PEG_FRAME_PERIOD c.period).wr R.PEG_CODECFG_GMIN c.gmin).wr R.PEG_CODECFG_GSPAN c.gspan).wr
    R.PEG_CODECFG_CROSSMAX c.crossMax).wr R.PEG_CELLCFG_AZSH c.azSh).wr R.PEG_AZ0_AZ0 c.az0.toNat
  let s2 := ((((s1.wr R.PEG_AZGAIN_GAIN c.azGain.toNat).wr R.PEG_TILTSCALE_SCALE c.tiltScale.toNat).wr R.PEG_ELMIN_ELMIN
    c.elMin.toNat).wr R.PEG_ELSTEP_ELSTEP c.elStep.toNat).wr R.MRT_SIEVECFG_PFA c.pfa
  let s3 := ((((((s2.wr R.MRT_SIEVECFG_LPFA c.lpfa).wr R.MRT_SIEVECFG_NMIN c.nmin).wr R.MRT_SIEVECFG_BINMIN c.binMin).wr
    R.MRT_SIEVECFG_SEP c.sep).wr R.MRT_ZOOMCFG_NWIN c.nwin).wrB R.MRT_ZOOMCFG_NEARFIRST c.nearFirst)
  c.zoneSel.foldl (fun t z => t.wr (R.JST_ZONESEL_SLOT z.1) z.2) s3

/-- A record of the settings in use. -/
def recData (l : List SetRec) (t : Nat) : Option (List Byte) := (l.find? (fun r => r.1 == t)).map (fun r => r.2.2)

/-- Record 2: an allocation that keeps both minima is taken at a power-on start-up (R21). -/
def State.restoreAlloc (s : State) (l : List SetRec) : State :=
  match recData l 2 with
  | some b =>
    let a := unpackAlloc b
    if 2 ^ 30 ≤ a.journal.2 && 2 ^ 29 ≤ a.firmware.2 then s.onFwu (fun f => { f with alloc := a })
    else s.reportFree (srcOf R.FWU_INTSTAT_IMGREJ) 0xFF 1 2
  | none => s

/-- Record 3: Truss's RWK configuration and the active budget bank. -/
def State.restoreTruss (s : State) (l : List SetRec) : State :=
  match recData l 3 with
  | some b =>
    let n := 8 * s.image3.length
    let s0 := (unpackRegs (b.take n)).foldl (State.putImage · .rwk) s
    let s1 := (List.range 8).foldl (fun t k => t.inputMode k (s.rd (R.TRS_INCFG_MODE k))) s0
    s1.onTrs (fun t =>
      if s1.on R.TRS_BUDCFG_ACTBANK then { t with bankB := unpackBank (b.drop n) } else { t with bankA := unpackBank (b.drop n) })
  | none => s

/-- The rights word of a target, from those of host, management cores, Purlin 63, Dog, Plumb and Tenon; JTAG reads 3. -/
def rightsWord (host mgmt pur dog plb tnn : Nat) : Nat :=
  host + 20 * mgmt + 256 * pur + 1024 * dog + 4096 * plb + 16384 * tnn + 3 * 65536

/-- The default Girt tables (R446). -/
def State.girtDefaults (s : State) : State :=
  let a := s.fwu.alloc
  let win (t : State) (w : Nat) (r : Nat × Nat) (rights : Nat) : State :=
    (((t.wr (R.GRT_WINBASE_BASE w) (r.1 / 2097152)).wr (R.GRT_WINBASE_EN w) 1).wr (R.GRT_WINLAST_LAST w)
      ((r.1 + r.2) / 2097152 - 1)).wr (R.GRT_RIGHTS_RIGHTS w) rights
  let s1 := win (win (win s 0 a.lookback (rightsWord 0 3 0 0 0 0)) 1 a.capture (rightsWord 0 3 1 3 0 0)) 2 a.journal (rightsWord 0 3 1 0 0 0)
  let s2 := win (win (win s1 3 a.cluster (rightsWord 0 3 0 0 0 0)) 4 a.firmware (rightsWord 0 3 2 0 3 0)) 5 a.faultlog (rightsWord 0 3 1 0 0 0)
  let s3 := win s2 6 a.scratch (rightsWord 3 3 3 0 0 2)
  let s4 := (List.range 22).foldl (fun t b => if b = 20 then t else t.wr (R.GRT_RIGHTS_RIGHTS (64 + b)) (rightsWord 3 3 0 0 3 0)) s3
  ((s4.wr (R.GRT_RIGHTS_RIGHTS 86) (rightsWord 0 3 0 0 2 0)).wr (R.GRT_RIGHTS_RIGHTS 87) (rightsWord 0 3 0 0 0 0)).wr
    (R.GRT_RIGHTS_RIGHTS 88) (rightsWord 0 1 0 0 0 0)

/-- Record 5, or the defaults; the right of JTAG debug stands whatever the record says (R445). -/
def State.restoreGirt (s : State) (l : List SetRec) : State :=
  match recData l 5 with
  | some b =>
    (List.range 89).foldl (fun t i => t.wr (R.GRT_RIGHTS_RIGHTS i) (t.rd (R.GRT_RIGHTS_RIGHTS i) ||| 0x30000))
      ((unpackRegs b).foldl (State.putImage · .rwk) s)
  | none => s.girtDefaults

/-- An empty table of a kind (R502): sightline entries are zero but for their CRC. -/
def emptyTable (kind : Nat) : List Byte :=
  if kind = 1 then
    (List.replicate 65536 (List.replicate 14 0 ++ leBytes 2 (crc16 (List.replicate 14 0)).toNat)).flatten
  else List.replicate (if kind = 2 then 8192 else 16384) 0

/-- A table of a kind at an address passes the checks of staging (R106, R128, R297). -/
def State.tableGood (s : State) (kind addr : Nat) : Bool :=
  if kind = 1 then s.sightsGood addr && s.budgetsFit (s.readBudgets addr)
  else if kind = 2 then s.rowsGood addr
  else s.plansGood addr

/-- A table from the settings, or the empty one in its place, which is logged (R502). The answer is its address. -/
def State.settingsTable (s : State) (l : List SetRec) (kind : Nat) : State × Nat :=
  let empty (t : State) : State × Nat := (t.reportFree (srcOf R.FWU_INTSTAT_IMGREJ) 0xFF 1 kind).stageTable kind (emptyTable kind)
  match (recData l 6).bind (fun b => Config.unpackTable b kind) with
  | some d =>
    if tableLenOk kind d.length then
      let (s1, a) := s.stageTable kind d
      if s1.tableGood kind a then (s1, a) else empty s
    else empty s
  | none => empty s

/-- A table of the retained epoch that passes stays; another is replaced (R501). -/
def State.keptTable (s : State) (l : List SetRec) (kind addr : Nat) : State × Nat :=
  if s.tableGood kind addr then (s, addr)
  else (s.reportFree (srcOf R.FWU_INTSTAT_IMGREJ) 0xFF 1 kind).settingsTable l kind

/-- The tables of the epoch in force: those retained at a full reset with a valid configuration, else those of the settings. Truss's
copy of the BUDGET column follows the sightline table. -/
def State.restoreTables (s : State) (l : List SetRec) (kept : Bool) : State :=
  let c := s.epochCfg s.peg.active
  let get (t : State) (kind addr : Nat) : State × Nat := if kept then t.keptTable l kind addr else t.settingsTable l kind
  let (s1, a1) := get s 1 c.sightAddr
  let (s2, a2) := get s1 2 c.rowAddr
  let (s3, a3) := get s2 3 c.planAddr
  let cfg : EpochCfg := if kept then { c with sightAddr := a1, rowAddr := a2, planAddr := a3 } else s3.captureCfg a1 a2 a3 0
  let s4 : State := { s3 with peg := { s3.peg with epochs := mapIns (mapErase s3.peg.epochs s3.peg.active) s3.peg.active cfg } }
  let s5 := (s4.onHif (fun h => { h with staged := [] })).onTrs (fun t =>
    { t with budCopy := [(s4.peg.active, s4.readBudgets a1)] })
  if kept then s5
  else
    match (recData l 6).bind (fun b => Config.unpackTable b 5) with
    | some d =>
      if d.length = 1048576 then
        let (s6, a) := s5.stageTable 5 d
        (s6.onHif (fun h => { h with staged := [] })).onPlb (fun p => { p with chanAddr := a, chanNew := none })
      else s5
    | none => s5

/-- The image's state and version registers once it runs (R434, R449). -/
def State.imageRuns (s : State) (i : Image) : State :=
  let s1 := ((s.runRegs i s.boot.slotB).wrB R.FWU_STATUS_IMGSTATE s.slotIsTrial).headRegs
  let s2 := s1.otpRegs
  if s2.fwu.truss.isEmpty then (s2.onFwu (fun f => { f with truss := i.sect 2 })).wr R.FWU_STATUS_TRUSSOLD 0
  else s2.wrB R.FWU_STATUS_TRUSSOLD (i.sect 2 != s2.fwu.truss)

/-- After a failure a confirmed image that runs makes its own slot the ACTIVE one (R428). -/
def State.fallback (s : State) (i : Image) : State :=
  match s.bootHead with
  | some (_, h) =>
    if s.imgState = 0 && (h.state = 2 || h.active != s.boot.slotB) then
      (((s.putHead { hseq := 0, active := s.boot.slotB, state := 0, tries := 0, verAct := imgVersion i.header, verOth := 0 }).headRegs).flag
        R.FWU_INTSTAT_FALLBACK)
    else s
  | none => s

/-- Settings applied: registers, allocation, Truss, calibration, Girt and tables (R440, R501, R502). -/
def State.applySettings (s : State) (l : List SetRec) (power : Bool) : State :=
  let full := s.boot.fast
  let s1 := s.onFwu (fun f => { f with records := l })
  let s2 := if power then s1.restoreAlloc l else s1
  let s3 := match recData l 1 with | some b => s2.restore1 b full | none => s2
  let s4 := (if full then s3.putStaged (s3.epochCfg s3.peg.active) else s3).krfRestore full
  let s5 := if power then s4.restoreTruss l else s4
  let s6 := match recData l 4 with | some b => s5.unpackCal b | none => s5
  let s7 := s6.restoreGirt l
  let s8 := s7.restoreTables l full
  let s9 := s8.wr R.JNL_CAP_CAP (s8.fwu.alloc.journal.2 / 32)
  let s10 := ((List.range 20).foldl State.restoreTrained (s9.lbkLayout (s9.epochCfg s9.peg.active).period)).tieConfig
  let s11 := if s10.on R.SIL_CTL_REFEN then { s10 with sil := { s10.sil with refWait := true } }
    else ({ s10 with sil := { s10.sil with refWait := true } }).wr R.SIL_CTL_REFEN 1
  (s11.when (!full) (·.wr R.FLT_STATUS_MGMTSB 1)).onFwu (fun f => { f with applied := true })

/-- The telemetry reads on PMBus that settings record 7 names, one of each address (R38). DESIGN CHOICE (log 132): the spec states
neither the record's layout nor when or how often telemetry is read. -/
def State.readRails (s : State) (l : List SetRec) : State :=
  ((recData l 7).map Config.pmbusAddrs |>.getD []).foldl (fun t a => t.emit (.pmbusRead a.toNat)) s

/-- The default-settings section of an image (R425, R443). -/
def Image.defaults (i : Image) : List SetRec :=
  let b := i.sect 5
  match Store.parse (b.take 64) (b.drop 64) with
  | some x => x.recs
  | none => []

/-- Stage SETTINGS of an image: the store, or the defaults; a trial that cannot read the store fails (R443). -/
def State.settingsStage (s : State) (i : Image) : State :=
  let power := !s.fwu.applied
  let s1 := s.imageRuns i
  let goOn (t : State) (l : List SetRec) (src : Nat) (parsed : Bool) : State :=
    let t1 := ((t.onFwu (fun f => { f with parsed := parsed })).wr R.FWU_STATUS_SETSRC src).applySettings l power
    (((t1.fallback i).setLock).readRails l).enterStage 7
  match s1.storeNow with
  | none => goOn (s1.stageLine 6 0x0A 0) i.defaults 2 true
  | some (c, x) =>
    let s2 := (s1.wr R.FWU_SCHEMA_STORE x.schema).wr R.FWU_SETGEN_SGEN x.sgen
    if storeReadable i.header x then goOn s2 x.recs c.toNat (x.recs.all (fun r => typeKnown r.1))
    else
      let s3 := s2.stageLine 6 0x0A 0
      if s3.slotIsTrial && !s3.fwu.tried.contains (!s3.boot.slotB) then (s3.fwErr 13 s3.boot.slotB).slotFails
      else goOn s3 i.defaults 2 false

/-! ### HOST_LINK (R240, R241, R246) -/

/-- The last 16,384 records before the head can be read (R240): none of their slots holds an uncorrectable word. -/
def State.journalSound (s : State) : Bool :=
  let base := s.fwu.alloc.journal.1 / 32
  s.flt.badWords.all (fun w => w.2 < 2 || !s.jnl.ring.any (fun p =>
    base + p.1 == w.1 && decide (seqSub s.jnl.head p.2.seq ≤ 16384)))

/-- A queue of the old generation: it stays suspended, holds nothing of the new journal, and opens at number 1 (R240, R393,
R395). -/
def SubQueue.oldGen (q : SubQueue) : SubQueue :=
  { q with consumed := 0, scan := 1, delivered := 0, passed := [], skipped := 0 }

/-- Journal recovery after a full reset (R240). -/
def State.journalRecover (s : State) : State :=
  if s.journalSound then (s.wr R.JNL_STATUS_RECOVERED 1).flag R.JNL_INTSTAT_RECOVERY
  else
    ((s.onHif (fun h => { h with queues := h.queues.map (fun p => (p.1, p.2.oldGen)) })).journalNew).fault R.JNL_INTSTAT_NEWGEN 3 0

/-! ### JOIST (R58, R428) -/

/-- The standard program set of the image that runs (R425, R435). -/
def State.standardSet (s : State) : ProgSet := ProgSet.ofImage 0 s.standardImage s.standardImage

/-- The registers of clusters and of the spare, from what is out of service (R213, R214). -/
def State.clusterStatus (s : State) : State :=
  let s1 := (List.range 33).foldl State.clusterRegs s
  match s1.jst.subFor with
  | some c => ((s1.wr (R.JST_CLSTAT_STATE c) 1).wr (R.JST_CLSTAT_STATE 32) 3).wr R.JST_STATUS_SUBCL c
  | none => s1

/-- Stage JOIST: the standard set of the image is proven, then the set in force where it is another one (R58, R205, R428). -/
def State.joistStage (s : State) (std set : ProofFind) : State :=
  let own := s.standardSet
  let proof := proveSet own.image std
  if proof.1 != 0 then
    let s1 := s.showProof proof
    if s1.slotIsTrial && !s1.fwu.tried.contains (!s1.boot.slotB) then s1.slotFails else s1.bootEnds 0x0B
  else
    let s1 : State := { s with jst := { s.jst with sets := own :: s.jst.sets.filter (fun p => p.num != 0) } }
    let act := s1.setOf s.peg.active
    let again := proveSet act.image set
    let s2 :=
      if act.num = 0 then s1.showProof proof
      else if again.1 = 0 then s1.showProof again
      else
        let t := ((s1.showProof again).stageLine 8 0x0B 0)
        { t with peg := { t.peg with epochs := t.peg.epochs.map (fun p =>
            if p.1 = t.peg.active then (p.1, { p.2 with progSet := 0 }) else p) } }
    s2.clusterStatus.setInfo.enterStage 9

/-! ### SPIN to ARM (R58, R78, R296, R365) -/

/-- Entry to stage SPIN: calibration runs beside it; the spindle and the tilt are asked for LOCK and PROFILE, or re-engage in
their retained modes after a full reset. -/
def State.enterSpin (s : State) : State :=
  let s1 := (s.onBoot (fun b => { b with spinDone := false, calDone := false })).enterStage 0x0A
  let s2 := (((s1.wr R.KRF_CTL_RUN 1).krfResume).wr R.WFP_CTL_RUN 1).calStage
  if s.boot.fast then s2.reengage else (s2.requestSp 3).requestTl 2

/-- Stage SPIN's work is done: phase lock, and the tilt on its profile (R58, R80). -/
def State.spinReady (s : State) : Bool := s.on R.TNN_STATUS_SPLOCK && s.tnn.tlOk

/-- Both SPIN and CALIBRATE decide what comes next. -/
def State.afterSpin (s : State) : State :=
  if !s.boot.spinDone then s
  else if s.boot.calDone then (s.enterStage 0x0C).onTrs (fun t => { t with armDue := .stage })
  else if s.stage = 0x0A then s.enterStage 0x0B else s

/-- Stage ARM has been passed (R49, R58): RUNNING at once when scanning resumes after a full reset, else READY. -/
def State.armPassed (s : State) : State :=
  let s1 := s.enterStage (if s.boot.wasRun then 0x0E else 0x0D)
  if s.rd R.GLB_RSTCAUSE_CAUSE = 0 then s1 else s1.flag R.GLB_INTSTAT_RSTDONE

/-- A Krovent whose block clocks run in recovery or in stage RUNNING; the stage shown when a scan begins (R58). -/
def State.nowRunning (s : State) : State := if s.stage = 0x0D then s.enterStage 0x0E else s

/-- Stage READY again when scanning has stopped (R58). -/
def State.nowReady (s : State) : State := if s.stage = 0x0E then s.enterStage 0x0D else s

end Sys2Proof.Machine
end

