-- ==== Sys2Proof/Machine/Boot.lean ====
section
/-!
DEFINITION. The commands of reset and start-up (R36, R37, R48 to R61, R444, R482, R483): each stage's result moves start-up on, or
leaves it where it stands.
-/
namespace Sys2Proof.Machine

/-! ### Power (R36, R37, R58) -/

/-- PORN_N_LOW (R37): DARK_N and SOUT are low, and nothing else runs; HBM contents are lost (R36). -/
def execPornNLow (s : State) : Host.Outcome State Fault Refusal := (s.pinsLow.powerState true s.boot.powered 0).done

/-- POWER_ON_RESET (R56, R58): the rising edge of PORN_N samples BOOTSEL and starts stage TRUSS_TEST. -/
def execPowerOnReset (bootsel : BitVec 2) (s : State) : Host.Outcome State Fault Refusal :=
  ((s.powerState false true bootsel).enterStage 1).done

/-- POWER_LOSS (R36): the rails fall. -/
def execPowerLoss (s : State) : Host.Outcome State Fault Refusal := (s.pinsLow.powerState true false 0).done

/-! ### Full reset (R50, R53, R483) -/

/-- FULLRST_N_FALL (R50). -/
def execFullrstNFall (s : State) : Host.Outcome State Fault Refusal :=
  ((s.onBoot (fun b => { b with fullrstHi := false })).fullReset 1).done

/-- PERST_N_FALL (R50): the link goes down. -/
def execPerstNFall (s : State) : Host.Outcome State Fault Refusal :=
  (((s.onBoot (fun b => { b with perstHi := false })).fullReset 5).linkGone).done

/-- PERST_N_RISE (R59): the link trains under hardware control from 10 ms later (LINK_UP). -/
def execPerstNRise (s : State) : Host.Outcome State Fault Refusal := (s.onBoot (fun b => { b with perstHi := true })).done

/-- PCIE_FLR (R50): the link stays up (R48). -/
def execPcieFlr (s : State) : Host.Outcome State Fault Refusal :=
  if s.rd R.HIF_STATUS_SPEED = 0 then s.done else (s.fullReset 3).done

/-- HOT_RESET (R50): the link goes down. -/
def execHotReset (s : State) : Host.Outcome State Fault Refusal :=
  if s.rd R.HIF_STATUS_SPEED = 0 then s.done else ((s.fullReset 4).linkGone).done

/-- A write of GLB_RST (R482): the key starts a full reset; any other value sets KEYBAD. -/
def State.glbRstWrite (s : State) (v : Nat) : State :=
  if v = 0x46554C4C then s.fullReset 2 else (s.fault R.GLB_INTSTAT_KEYBAD 1 0).lastErr 0x14 4 true

/-- GLB_RST (R482): host software writes it under its Girt rights on the GLB block. -/
def execGlbRst (v : Word) (s : State) : Host.Outcome State Fault Refusal :=
  if !s.barOn then s.done
  else if rightOk (s.girtRight girtHost 64) true then (s.glbRstWrite v.toNat).done
  else (s.girtDeny girtHost 64 0x14 true).done

/-- LOGIC_RELEASE (R50, R53): logic is released once both reset pins are high; the fault log writes what the reset interrupted
(R465). Start-up that a failed TRUSS_TEST has ended stays ended until the next PORN_N (R58). -/
def execLogicRelease (s : State) : Host.Outcome State Fault Refusal :=
  if s.boot.inReset && s.boot.perstHi then
    let s1 := s.onBoot (fun b => { b with inReset := false, fullrstHi := true })
    let s2 := (if s1.on R.THM_STATUS_HBMLOST then s1.hbmLoss else s1).fltRelease
    (if s2.boot.ended then s2 else s2.enterStage 3).done
  else s.done

/-! ### Stages TRUSS_TEST to HBM_TRAIN (R58) -/

/-- TRUSS_TEST (R58, R291): the supply monitors are armed, and a rail outside its window is a fault at once. -/
def execTrussTest (pass : Bool) (rails : BitVec 16) (s : State) : Host.Outcome State Fault Refusal :=
  if !s.bootAt 1 then s.done
  else if !pass then (s.bootEnds 1).done
  else
    let s1 := s.wr R.TRS_SUPSTAT_INWIN rails.toNat
    let s2 := (List.range 16).foldl (fun t i =>
      if rails.getLsbD i then t else t.trussFault (if i = 15 then 0x0303 else 0x0201) i) s1
    (s2.enterStage 2).done

/-- REFCLK is checked and the root PLLs lock: with REFCLK and at least one lock the clock plant runs and device time starts (R43,
R58). -/
def State.plantCheck (s : State) (ref pllA pllB : Bool) : State :=
  let s1 := ((s.wrB R.CLK_STATUS_REFOK ref).wrB R.CLK_STATUS_PLLALOCK pllA).wrB R.CLK_STATUS_PLLBLOCK pllB
  if ref && (pllA || pllB) then (s1.wrB R.CLK_STATUS_PLLSEL (!pllA)).onClk (fun c => { c with running := true }) else s1

/-- The clock plant is still to start in a start-up that a full reset has restarted behind stage CLOCK (R53). -/
def State.plantDue (s : State) : Bool :=
  !s.clk.running && decide (3 ≤ s.stage) && !s.boot.pornLow && s.boot.powered

/-- CLOCK (R43, R58): the stage waits without REFCLK or lock; with one PLL it proceeds without a standby. BOOTSEL 0b11 stops
start-up after it (R56). DESIGN CHOICE (log 131): where a full reset in TRUSS_TEST or CLOCK has restarted start-up at ROM_START
(R53), the clock plant starts all the same when its check comes out good. -/
def execClock (ref pllA pllB : Bool) (s : State) : Host.Outcome State Fault Refusal :=
  if !s.bootAt 2 then (if s.plantDue then s.plantCheck ref pllA pllB else s).done
  else
    let s1 := s.plantCheck ref pllA pllB
    if !ref then (s1.stall 2 0).done
    else if !pllA && !pllB then (s1.stall 4 0).done
    else
      let s2 := if pllA && pllB then s1
        else (s1.stageLine 2 3 0).fault R.CLK_INTSTAT_PLLFAIL 2 (if pllA then 1 else 0)
      (if s2.jtagHold then s2.onBoot (fun b => { b with ended := true }) else s2.enterStage 3).done

/-- ROM_START (R58, R59): the stage waits above the start limit. -/
def execRomStart (s : State) : Host.Outcome State Fault Refusal :=
  if !s.bootAt 3 then s.done
  else if !s.coolEnough then (if s.boot.stalled then s else s.stall 6 0).done
  else s.otpRegs.romChoice.done

/-- HBM_TRAIN (R58, R453): row repairs of a full reset become permanent. A stack that fails is reported. -/
def execHbmTrain (ok : BitVec 4) (s : State) : Host.Outcome State Fault Refusal :=
  if !s.bootAt 4 then s.done
  else
    match (List.range 4).find? (fun i => !ok.getLsbD i) with
    | some i => (s.enterRecovery 7 i).done
    | none =>
      let s1 := s.onBoot (fun b => { b with trained := true, selfRef := false })
      let s2 := if s.boot.fast then
          { s1 with flt := { s1.flt with permanent := s1.flt.permanent ++ s1.flt.spared.filter (fun r => !s1.flt.permanent.contains r) } }
        else s1
      (s2.enterStage 5).done

/-! ### Stages IMAGE to ARM -/

/-- IMAGE (R58). -/
def execImage (s : State) : Host.Outcome State Fault Refusal := if s.bootAt 5 then s.imageStage.done else s.done

/-- SETTINGS (R58). -/
def execSettings (s : State) : Host.Outcome State Fault Refusal :=
  match s.fwu.running with
  | some i => if s.bootAt 6 then (s.settingsStage i).done else s.done
  | none => s.done

/-- HOST_LINK (R58): within its limit the function answers, and after a full reset journal and history are recovered; past it,
configuration requests keep receiving retry status, which is logged. -/
def execHostLink (r : LinkFind) (s : State) : Host.Outcome State Fault Refusal :=
  if !s.bootAt 7 then s.done
  else if !r.ok then ((s.stall 0 0).reportFree (srcOf R.HIF_INTSTAT_LINKDOWN) 0xFF 3 0).done
  else
    let s1 := s.onBoot (fun b => { b with linked := true })
    let s2 := if s.boot.fast then s1.journalRecover.lbkRecover r.badSlots else s1
    ((s2.enterStage 8).settleJnl).done

/-- JOIST (R58). -/
def execJoist (std set : ProofFind) (s : State) : Host.Outcome State Fault Refusal :=
  if s.bootAt 8 then (s.joistStage std set).done else s.done

/-- RINGS (R58, R104): every enabled ring is brought up; those that are not up are reported, and start-up proceeds. -/
def execRings (finds : List (Fin 8 × RingFind)) (s : State) : Host.Outcome State Fault Refusal :=
  if !s.bootAt 9 then s.done
  else
    let s1 := s.onRings State.ringEn (fun t r => t.bringUp r (findOf finds r))
    let down := (List.range 8).foldl (fun m r => if s1.ringEn r && !s1.ringUp r then m + 2 ^ r else m) 0
    let s2 := if down = 0 then s1 else s1.stageLine 9 0x0C down
    s2.enterSpin.done

/-- SPIN (R58): the spindle is locked and the tilt on its profile. -/
def execSpin (s : State) : Host.Outcome State Fault Refusal :=
  if s.bootAt 0x0A && s.spinReady then ((s.onBoot (fun b => { b with spinDone := true })).afterSpin).done else s.done

/-- CALIBRATE (R58, R365): beside stage SPIN, or behind it; what has not completed uses stored values. -/
def execCalibrate (ok : Bool) (s : State) : Host.Outcome State Fault Refusal :=
  if (s.bootAt 0x0A || s.bootAt 0x0B) && !s.boot.calDone then
    let s1 := (if ok then s else s.stageLine s.stage 0x0E 0).calReinstate
    ((s1.onBoot (fun b => { b with calDone := true })).afterSpin).done
  else s.done

/-- ARM (R58, R59, R296): the stage waits for STABLE under TBGATE; a refusal leaves Krovent dark. -/
def execArm (fb : Bool) (s : State) : Host.Outcome State Fault Refusal :=
  if !s.bootAt 0x0C then s.done
  else if s.on R.CLK_TBCFG_TBGATE && s.tb != 2 then (s.stall 0x11 0).done
  else
    let s1 := (s.onTrs (fun t => { t with armDue := .stage })).armResult fb
    (if s1.trsState = 1 || s1.trsState = 2 then s1.plbArm.armPassed else s1.stall 0x0F 0).done

/-- STALL_LINE (R60): a stalled stage repeats its line every second. -/
def execStallLine (s : State) : Host.Outcome State Fault Refusal :=
  if s.boot.stalled && !s.boot.inReset then
    (s.stageLine s.stage (s.rd R.GLB_STATUS_CAUSE) (s.rd R.GLB_STATUS_DETAIL)).done
  else s.done

/-- RECOVERY_RESET (R444): recovery command 0x04 restarts at ROM_START with BOOTSEL ignored. -/
def execRecoveryReset (via : RecPath) (s : State) : Host.Outcome State Fault Refusal :=
  if !s.fwu.recovery || recBadCrc via then s.done
  else
    let s1 := s.recAnswer via 4 0 0 0
    let s2 := (s1.onFwu (fun f => { f with recovery := false, receipt := none })).wr R.FWU_STATUS_IMGSTATE 0
    ((s2.onBoot (fun b => { b with ignoreSel := true })).enterStage 3).done

end Sys2Proof.Machine
end

