-- ==== Sys2Proof/Machine/Dog.lean ====
section
/-!
DEFINITION. The detectors of Plane (R272 to R274) and the commands of Dog (R278 to R286).
-/
namespace Sys2Proof.Machine

/-! ### Detectors -/

/-- The stage that a lane's detector takes: F or M (R272). -/
def State.detStage (s : State) (l : Nat) : Nat := 1 + s.rd (R.WFP_LANE_DETSRC l)

/-- The latest gate instant that has come, in root ticks: a shot of the driver plus GATEOFS, or the grid from the frame epoch
(R272). -/
def State.gateInstant (s : State) (l : Nat) : Option Int :=
  let ofs := s.rdS (R.WFP_GATEOFS_OFS l)
  let now := ticksOf s.nowLsb
  match s.rd (R.WFP_GATE_GMODE l) with
  | 1 =>
    let ts := (s.wfp.shots.filter (fun f => f.driver == s.rd (R.WFP_GATE_DRV l)
      && (f.proof || !s.on (R.WFP_GATE_PROOF l)))).map (fun f => 3 * f.lsb + ofs)
    (ts.filter (fun t => decide (t ≤ now))).foldl (fun o t => match o with | none => some t | some x => some (max x t)) none
  | 2 =>
    let p : Nat := 30720 * max 1 (s.rd (R.WFP_GATE_GPER l))
    let e := ticksOf s.peg.epochLsb + ofs
    if e ≤ now then some (e + (now - e) / (p : Int) * (p : Int)) else none
  | _ => none

/-- GATE_OPEN (R272): the detector's gate opens, or is skipped while the previous one is open. -/
def execGateOpen (l : Fin 32) (s : State) : Host.Outcome State Fault Refusal :=
  let l := l.val
  match s.gateInstant l with
  | none => s.done
  | some t =>
    let new := match (s.lane l).gateLast with | some x => decide (x < t) | none => true
    if !(s.on R.WFP_CTL_RUN && s.laneExists l && new) then s.done
    else
      let s1 := s.setLane l (fun x => { x with gateLast := some t })
      if (s.lane l).gate.isSome then (s1.bump (R.WFP_DETCNT_SKIP l) 1).done
      else
        let (fr, ep) := s.frameOfTick t
        let g : Gate := { at_ := t, frame := fr, epoch0 := ep, mode := s.rd (R.WFP_GATE_GMODE l) }
        (s1.setLane l (fun x => { x with gate := some g })).done

/-- The index of the sample of largest magnitude, the earliest on a tie (R273). -/
def peakIndex (xs : List Int) : Nat :=
  (xs.zipIdx.foldl (fun b x => if (xs.getD b 0).natAbs < x.1.natAbs then x.2 else b) 0)

/-- The refinement of the peak by a parabola, in ticks; none at a gate edge or beside a marker (R273). -/
def peakOffset (xs : List Int) (i p : Nat) : Int :=
  if 1 ≤ i && decide (i + 1 < xs.length) then
    let a := xs.getD (i - 1) 0
    let b := xs.getD i 0
    let c := xs.getD (i + 1) 0
    let den := 2 * (a - 2 * b + c)
    if isMarker a || isMarker c || den = 0 then 0
    else if 0 < den then divRound ((a - c) * (p : Int)) den.natAbs else divRound ((c - a) * (p : Int)) den.natAbs
  else 0

/-- RMS (R273). -/
def rmsOf (xs : List Int) : Nat :=
  min 32766 ((isqrt (4 * (xs.map (fun x => x.natAbs * x.natAbs)).sum / max 1 xs.length) + 1) / 2)

/-- The largest value of the envelope (R273). -/
def envMax (att rel : Nat) (xs : List Int) : Nat :=
  ((xs.foldl (fun (a : Rat × Rat) x =>
    let m : Rat := (x.natAbs : Rat)
    let e := a.1 + (m - a.1) / (2 ^ (if a.1 < m then att else rel) : Nat)
    (e, max a.2 e)) (0, 0)).2).floor.toNat

/-- WIDTH50 (R273): ticks between the stamps of the first and the last sample of at least half the peak. -/
def width50 (gs : List Stretch) (xs : List OutSample) (peak : Nat) : Nat :=
  let is := (xs.filter (fun x => decide (peak ≤ 2 * x.v.natAbs))).map (fun x => stampOf gs x.at_)
  min 65535 (is.getLastD 0 - is.headD 0).toNat

/-- The index of the first sample of a span that a new bank computed: a swap took effect inside it (R271). A swap of M's banks
changes no output of F. -/
def swapIndex (gs : List Stretch) (stage : Nat) (xs : List OutSample) : Option Nat :=
  let key (x : OutSample) : Option (Int × Int) := (stretchAt gs x.at_).map (fun g => (g.phase, if stage = 2 then g.mAt else 0))
  match xs with
  | [] => none
  | x :: _ => xs.findIdx? (fun y => key y != key x)

/-- A detector record (R282). -/
def detRecord (s : State) (l seq : Nat) (g : Gate) (firstT peakT : Int) (peak : Int) (rms env wid flags : Nat) : List Byte :=
  withCrc (leBytes 2 2 ++ leBytes 1 l ++ leBytes 1 g.mode ++ leBytes 4 64 ++ leBytes 8 seq ++ leBytes 4 g.frame
    ++ leBytes 5 (ofIntBits 40 firstT) ++ leBytes 5 (ofIntBits 40 peakT) ++ leBytes 1 (s.rateByte l (s.detStage l))
    ++ leBytes 1 0 ++ leBytes 2 (ofIntBits 16 peak) ++ leBytes 2 rms ++ leBytes 2 env ++ leBytes 2 wid ++ leBytes 2 flags
    ++ leBytes 14 0 ++ leBytes 6 0)

/-- GATE_CLOSE (R273, R274): the results of the gate's samples, the check of its shape, and its record. The first sample is the
first whose stamp is at or after the gate's instant; the newest code is the newest input of the last one. -/
def execGateClose (l : Fin 32) (codes : List (BitVec 10)) (s : State) : Host.Outcome State Fault Refusal :=
  let l := l.val
  match (s.lane l).gate with
  | none => s.done
  | some g =>
    let stage := s.detStage l
    let n := max 1 (s.rd (R.WFP_GATELEN_LEN l))
    let gs := s.stretches l stage
    let first := firstOut gs g.at_
    let last := outAfter gs first (n - 1)
    let sm := (s.samples l stage first last codes).take n
    let xs := sm.map (·.v)
    let i := peakIndex xs
    let peak := xs.getD i 0
    let firstT := stampOf gs first - ticksOf g.epoch0
    let p := match stretchAt gs (outAfter gs first i) with | some x => x.step | none => s.inPeriod l
    let peakT := stampOf gs (outAfter gs first i) - ticksOf g.epoch0 + peakOffset xs i p
    let rms := rmsOf xs
    let env := envMax (s.rd (R.WFP_ENV_ATT l)) (s.rd (R.WFP_ENV_REL l)) xs
    let wid := width50 gs sm peak.natAbs
    let bad := g.mode == 1 &&
      (decide (peak.natAbs < s.rd (R.WFP_SHAPELIM_PKMIN l))
        || (s.rd (R.WFP_SHAPELIM_PKMAX l) != 65535 && decide (s.rd (R.WFP_SHAPELIM_PKMAX l) < peak.natAbs))
        || decide (wid < s.rd (R.WFP_WIDLIM_WMIN l))
        || (s.rd (R.WFP_WIDLIM_WMAX l) != 65535 && decide (s.rd (R.WFP_WIDLIM_WMAX l) < wid)))
    let s1 := (((((s.setLane l (fun x => { x with gate := none })).wrS (R.WFP_DETPEAK_PEAK l) peak).wr
      (R.WFP_DETPEAK_RMS l) rms).wrS (R.WFP_DETTIME_PEAKT l) (peakT - firstT)).wr (R.WFP_DETWID_WIDTH50 l) wid).wr (R.WFP_DETWID_ENVMAX l) env
    let s2 := s1.when bad (fun t => (t.bump (R.WFP_DETCNT_SHAPE l) 1).fault R.WFP_INTSTAT_SHAPE 1 l)
    if s.on (R.WFP_GATE_DETREC l) && s.on R.DOG_CTL_EN then
      let rec_ := s.inRecovery l (stampOf gs first) (stampOf gs last) last codes
      let flags := (xs.any isMarker).toNat + 2 * rec_.toNat + 4 * (swapIndex gs stage sm).isSome.toNat
        + 8 * (sm.any (·.sat)).toNat + 16 * bad.toNat + 64 * s.rd R.CLK_STATUS_TBSTATE
      match s2.reserve 64 with
      | (t, none) => t.done
      | (t, some e) => (t.fillEntry e.seq (detRecord s l e.seq g firstT peakT peak rms env wid flags)).done
    else s2.done

/-! ### Triggers -/

/-- A sample arms an edge trigger: it lies beyond the hysteresis band, and behind the sample that fired last (R278). -/
def State.edgeArms (s : State) (u : Nat) (arm : Int) (armAt : Int) : Bool :=
  let lvl := s.rdS (R.DOG_ULEVEL_LEVEL u)
  let hyst : Int := s.rd (R.DOG_ULEVEL_HYST u)
  (if s.on (R.DOG_UCFG_SLOPE u) then decide (lvl + hyst ≤ arm) else decide (arm ≤ lvl - hyst))
    && (match (s.dogU u).edgeLast with | some x => decide (x < armAt) | none => true)

/-- EDGE_TRIGGER (R278): the first crossing of LEVEL behind the sample that armed the unit. The instant is interpolated between the
two samples either side of LEVEL, rounded to a tick and stamped (R268); the unit must re-arm before it fires again. -/
def execEdgeTrigger (u : Fin 32) (arm : SampleAt) (before : BitVec 16) (after : SampleAt) (s : State) :
    Host.Outcome State Fault Refusal :=
  let u := u.val
  let a := before.toInt
  let b := after.code.toInt
  let taken := after.at_
  let lvl := s.rdS (R.DOG_ULEVEL_LEVEL u)
  let up := !s.on (R.DOG_UCFG_SLOPE u)
  let crosses := if up then decide (a < lvl) && decide (lvl ≤ b) else decide (lvl < a) && decide (b ≤ lvl)
  if crosses && s.edgeArms u arm.code.toInt arm.at_ && decide (arm.at_ < taken) && s.dogLive u && s.rd (R.DOG_UCFG_TMODE u) == 1 then
    let gs := s.stretches u (s.hsrc u)
    let p := taken - prevOut gs taken
    let back := if up then divRound ((b - lvl) * p) (b - a).natAbs else divRound ((lvl - b) * p) (b - a).natAbs
    ((s.setDogU u (fun x => { x with edgeLast := some taken })).modeTrigger u 1
      { kind := 0, t := stampOf gs taken - back, aux := 0 }).done
  else s.done

/-- SHOT_TRIGGER (R277, R279): a transmitted fire of the chosen driver. -/
def execShotTrigger (u : Fin 32) (n : Fin 64) (tag : BitVec 9) (s : State) : Host.Outcome State Fault Refusal :=
  let u := u.val
  match s.wfp.shots.find? (fun f => f.driver == n.val && f.tag == tag.toNat) with
  | none => s.done
  | some f =>
    if s.rd (R.DOG_UCFG_DRV u) == n.val && (f.proof || !s.on (R.DOG_UCFG_PROOF u)) then
      let aux := f.tag + 512 * f.row + 16384 * f.proof.toNat + 65536 * n.val
      (s.modeTrigger u 2 { kind := 1, t := 3 * f.lsb + s.rdS (R.DOG_USHOTOFS_OFS u), aux := aux }).done
    else s.done

/-- AUTO_TRIGGER (R281): in auto mode no trigger has been taken within AUTOT us. -/
def execAutoTrigger (u : Fin 32) (s : State) : Host.Outcome State Fault Refusal :=
  let u := u.val
  if s.dogLive u && s.rd (R.DOG_UCFG_ARMMODE u) == 1 && (s.dogU u).caps.isEmpty then
    (s.trigger u { kind := 3, t := ticksOf s.nowLsb, aux := 0 }).done
  else s.done

/-- DOG_ARM (R281): refused on a lane that does not exist, on a converter that is not ready, and for LEN or PRE out of range
(R263, R289). -/
def execDogArm (u : Fin 32) (s : State) : Host.Outcome State Fault Refusal :=
  let u := u.val
  let len := s.uLen u
  if s.laneExists u && s.laneReady u && decide (64 ≤ len) && decide (len ≤ 65536) && decide (s.rd (R.DOG_UPRE_PRE u) ≤ len) then
    ((s.wr (R.DOG_USTAT_ARMED u) 1).setDogU u (fun x => { x with everyCnt := 0 })).done
  else (s.refuse R.DOG_INTSTAT_BADCFG).done

/-- FORCE (R281): an immediate trigger while the unit is armed. -/
def execForce (u : Fin 32) (s : State) : Host.Outcome State Fault Refusal :=
  let u := u.val
  if s.dogLive u then (s.trigger u { kind := 4, t := ticksOf s.nowLsb, aux := 0 }).done else s.done

/-- DOG_STOP (R281): the unit is disarmed; a capture under way still completes. -/
def execDogStop (u : Fin 32) (s : State) : Host.Outcome State Fault Refusal := (s.wr (R.DOG_USTAT_ARMED u.val) 0).done

/-- The 64-byte header of a capture (R282). -/
def Capture.header (c : Capture) (lane flags ovrIdx swapIdx : Nat) (firstT gdly : Int) : List Byte :=
  withCrc (leBytes 2 1 ++ leBytes 1 lane ++ leBytes 1 c.trig ++ leBytes 4 (entrySize c.len) ++ leBytes 8 c.seq
    ++ leBytes 4 c.frame ++ leBytes 5 (ofIntBits 40 c.trigT) ++ leBytes 5 (ofIntBits 40 firstT) ++ leBytes 1 c.rate
    ++ leBytes 1 c.rlvl ++ leBytes 4 c.len ++ leBytes 4 c.pre ++ leBytes 2 flags ++ leBytes 2 0 ++ leBytes 4 ovrIdx
    ++ leBytes 4 swapIdx ++ leBytes 4 (ofIntBits 32 gdly) ++ leBytes 6 c.aux)

/-- CAPTURE_COMPLETE (R282, R283): the last sample of the unit's oldest capture is taken and the entry written. -/
def execCaptureComplete (u : Fin 32) (codes : List (BitVec 10)) (s : State) : Host.Outcome State Fault Refusal :=
  let u := u.val
  match (s.dogU u).caps with
  | [] => s.done
  | c :: rest =>
    let gs := s.stretches u c.src
    let first := s.capFirst u c.src c.pre (c.trigT + ticksOf c.epoch0)
    let last := outAfter gs first (c.len - 1)
    let sm := (s.samples u c.src first last codes).take c.len
    let xs := sm.map (·.v)
    let ovr := xs.findIdx? isMarker
    let swap := swapIndex gs c.src sm
    let rec_ := s.inRecovery u (stampOf gs first) (stampOf gs last) last codes
    let flags := ovr.isSome.toNat + 2 * rec_.toNat + 4 * swap.isSome.toNat + 8 * (sm.any (·.sat)).toNat + 16 * c.tb
    let bytes := c.header u flags (ovr.getD (2 ^ 32 - 1)) (swap.getD (2 ^ 32 - 1)) (stampOf gs first - ticksOf c.epoch0)
        (delayAt gs first)
      ++ (List.range c.len).flatMap (fun i => leBytes 2 (ofIntBits 16 (xs.getD i 0)))
    let s1 := (s.fillEntry c.seq (bytes ++ leBytes (entrySize c.len - bytes.length) 0)).setDogU u (fun x => { x with caps := rest })
    let s2 := s1.wrB (R.DOG_USTAT_BUSY u) (!rest.isEmpty)
    if s.rd (R.DOG_UCFG_ARMMODE u) == 2 && s.on (R.DOG_USTAT_ARMED u) then
      ((s2.wr (R.DOG_USTAT_ARMED u) 0).flag R.DOG_INTSTAT_DONE).done
    else s2.done

/-- DRAIN_DELIVERY (R283): Purlin reports the oldest entry delivered; its space is free. -/
def execDrainDelivery (s : State) : Host.Outcome State Fault Refusal :=
  match s.dog.ring with
  | e :: _ => if s.draining && e.sent then s.freeEntry.done else s.done
  | [] => s.done

/-- DRAIN_LEVEL_TICK (R284): DRAINT ms with or without a delivery. -/
def execDrainLevelTick (s : State) : Host.Outcome State Fault Refusal :=
  let d := s.rd R.DOG_STATUS_DRAINLVL
  let d' := if s.dog.delivered then d - 1 else if s.dog.ring.isEmpty then d else min 3 (d + 1)
  let s1 : State := { s with dog := { s.dog with delivered := false } }
  if s.draining then (s1.showLevels (s1.rd R.DOG_STATUS_FILLLVL) d').done else s1.done

end Sys2Proof.Machine
end

