-- ==== Sys2Proof/Machine/Peg.lean ====
section
/-!
DEFINITION. Peg's plan steps (R124 to R142): rows, columns, channel limits, tags, bookings, fires, listen gangs and reference
bursts.
-/
namespace Sys2Proof.Machine

/-! ### Timelines (R126, R141) -/

/-- A driver's timeline before its first plan step. -/
def DrvPlan.zero : DrvPlan := { row := 0, step := 0, gangs := 0, lastShot := none, idle := false, held := none }

/-- A driver's timeline. -/
def State.plan (s : State) (n : Nat) : DrvPlan := mapGet .zero s.peg.drivers n

/-- A change of a driver's timeline. -/
def State.setPlan (s : State) (n : Nat) (f : DrvPlan → DrvPlan) : State :=
  { s with peg := { s.peg with drivers := mapSet .zero s.peg.drivers n (f (s.plan n)) } }

/-- Peg plans for a driver: it scans, SCANVALID is 1, no hush request stands, and the driver answers (R141). -/
def State.canPlan (s : State) (n : Nat) : Bool :=
  s.peg.scanning && s.on R.TNN_STATUS_SCANVALID && !s.trs.hushReq && s.drvUp n && !(s.drv n).stopped
    && !(s.ringSt (ringOf n)).waits

/-- PEG_DRVIDLE of a driver. -/
def State.idleBit (s : State) (n : Nat) (b : Bool) : State :=
  if n < 32 then s.wr R.PEG_DRVIDLELO_DRV (putBit (s.rd R.PEG_DRVIDLELO_DRV) n b)
  else s.wr R.PEG_DRVIDLEHI_DRV (putBit (s.rd R.PEG_DRVIDLEHI_DRV) (n - 32) b)

/-- DRVIDLE (R141): a driver without an unblanked row stops its timeline. -/
def State.driverIdle (s : State) (n : Nat) : State :=
  if (s.plan n).idle then s
  else ((s.setPlan n (fun p => { p with idle := true, held := none })).idleBit n true).fault R.PEG_INTSTAT_DRVIDLE 3 n

/-- The timeline restarts once an unblanked row exists (R141). -/
def State.driverWake (s : State) (n : Nat) : State :=
  if (s.plan n).idle then (s.setPlan n (fun p => { p with idle := false })).idleBit n false else s

/-- A step of a timeline has been taken: the step count and the row cursor move on. -/
def DrvPlan.taken (p : DrvPlan) (row : Nat) : DrvPlan := { p with step := p.step + 1, row := (row + 1) % 32, held := none }

/-! ### Tags (R132) -/

/-- The lowest k free tags, if there are as many. -/
def State.freeTags (s : State) (k : Nat) : Option (List Nat) :=
  let l := ((List.range 512).filter (fun t => !s.peg.tags.contains t)).take k
  if l.length = k then some l else none

/-- PEG_TAGS follows the tags in use. -/
def State.setTags (s : State) (l : List Nat) : State :=
  (({ s with peg := { s.peg with tags := l } } : State).wr R.PEG_TAGS_INUSE l.length).peak R.PEG_TAGS_PEAK l.length

/-! ### Channel limits (R131, R133) -/

/-- Bursts open on a channel: planned and not yet presented. -/
def State.openOn (s : State) (ch : Nat) : List Burst :=
  s.peg.bursts.filter (fun b => b.channel == ch && b.stage == .open)


/-- The shots of a burst on the root clock, in LSB. -/
def Burst.shotsAbs (b : Burst) : List Nat := b.fires.map (fun f => b.epoch0 + f)

/-- Shots whose match interval covers a root instant. -/
def shotsCovering (shots : List Nat) (t : Nat) : Nat :=
  (shots.filter (fun f => decide (f ≤ t) && decide (t < f + 524288))).length

/-- The fan-out limit: with the new shots, no instant of the new burst's match intervals is covered by more than 8. -/
def fanOk (old new : List Nat) : Bool :=
  let all := old ++ new
  let lo := new.headD 0
  let hi := new.getLastD 0 + 524288
  (all.filter (fun t => decide (lo ≤ t) && decide (t < hi))).all (fun t => decide (shotsCovering all t ≤ 8))

/-- BSPACE as it acts, in LSB (R133, R143). -/
def State.bspace (s : State) : Nat := 10240 * max 250 (s.rd R.PEG_PLANCFG_BSPACE)

/-- A channel passes the limits of R133 for a new burst of K shots at these root instants; `extra` bursts of the same gang are
open already. R131 is not applied to a reference burst (R142). -/
def State.channelOk (s : State) (ch k extra : Nat) (shots : List Nat) (reference : Bool) : Bool :=
  let opens := s.openOn ch
  let shot0 := shots.headD 0
  decide (opens.length < 4) && decide (s.openAll + extra < 4096)
    && (reference || (!(decide (k ≤ 2) && !opens.isEmpty) && !opens.any (fun b => b.kind != .reference && decide (b.k ≤ 2))))
    && fanOk (opens.flatMap (·.shotsAbs)) shots
    && (mapGet [] s.peg.lastOpen ch).all (fun t => decide (t + s.bspace ≤ shot0) || decide (shot0 + s.bspace ≤ t))

/-! ### Gangs (R125 to R135) -/

/-- A column that may join a gang: its number, its sightline entry and its cell. -/
structure GangCol where
  col   : Nat
  sight : Sight
  cell  : Nat × Nat
deriving DecidableEq, Repr

/-- Columns of a row whose entry is valid, which have not failed, and whose elevation index is in range at an instant; the
lower column of two that name one channel (R125, R127). -/
def State.columnsAt (s : State) (c : EpochCfg) (epoch row lsb : Nat) : List GangCol :=
  (List.range 32).foldl (fun l i =>
    let e := s.sight epoch row i
    if e.valid && !s.failed row i && !s.btn.readmit.contains (32 * row + i) && !l.any (fun g => g.sight.channel == e.channel) then
      match s.cellAt c e lsb with
      | some x => l ++ [{ col := i, sight := e, cell := x }]
      | none => l
    else l) []

/-- A channel carries the foreign flag (R136). -/
def State.isForeign (s : State) (ch : Nat) : Bool := (s.rd (R.PEG_FOREIGN_CH (ch / 32))).testBit (ch % 32)

/-- The energy code in LIMP (R305). -/
def State.limpEc (s : State) (ec : Nat) : Nat := if s.inLimp then ec * s.limpPct / 100 else ec

/-- The gang that a driver's step calls for at shot 0, and whether its code is weak: what a hold kept, or the plan entry of the
lowest column, with K raised on a foreign channel (R128, R132, R136). -/
def State.gangSpec (s : State) (c : EpochCfg) (n row : Nat) (cols : List GangCol) : Option (HeldGang × Bool) :=
  let p := s.plan n
  match p.held with
  | some h => if h.row = row then some (h, false) else none
  | none =>
    match cols with
    | [] => none
    | g :: _ =>
      let e := s.planEntry c g.cell.1 g.cell.2
      let up := if cols.any (fun g => s.isForeign g.sight.channel) then min 6 (s.rd R.PEG_FORCFG_FORKLOG) else 0
      let klog := max e.klog up
      if e.klog = 7 || e.ec = 0 then none
      else
        let k := 2 ^ klog
        let (offs, weak) := s.codeFor c n p.step (zoneOf c g.cell.1) klog
        let turn := 2 ^ (e.listen + 2)
        some ({ offsets := offs, ec := e.ec, k := k, s := min k (max 1 e.s), row := row, refused := []
                listen := s.on R.PEG_CTL_LISTENEN && e.listen != 0 && (p.gangs + 1) % turn == 0
                tagHeld := false, bookHeld := false }, weak)

/-- A burst as Peg opens it. -/
def newBurst (s : State) (num : Nat) (kind : BurstKind) (n row : Nat) (g : GangCol) (ch k sc : Nat) (tags fires : List Nat)
    (close : Nat) : Burst :=
  { num := num, kind := kind, stage := .open, slot := true, booked := s.jst.bookings.any (fun k => k.burst == num)
    channel := ch, driver := n, row := row, col := g.col, az := g.cell.1
    elev := g.cell.2, zone := zoneOf (s.epochCfg s.peg.active) g.cell.1, epoch := s.peg.active
    frame := s.rd R.PEG_FRAMENUM_NUM, k := k, s := sc, tags := tags, fires := fires, epoch0 := s.peg.epochLsb
    closeLsb := close, void := 0, coarse := [], windows := [], sieved := false, placed := none, svScout := 0, lam := 0
    thr := 0, npos := 0, cands := [], ndrop := 0, foreign := s.isForeign ch, spare := false, limiter := false
    rerun := false, spareCl := false, filled := false, dz := mapGet 0 s.plb.dzNow (ch / 32), cal := s.plb.chanAddr
    calRamp := s.peg.calMask.testBit ch, rflags := 0, closeT := 0, engine := none }

/-- Mortise opens a burst; without a free slot every shot of it is void and its frame is incomplete (R169, R237). -/
def State.openBurst (s : State) (b : Burst) (shot0 : Nat) : State :=
  let full := decide (4096 ≤ s.openAll)
  let b' := if full then { b with void := 2 ^ b.k - 1, slot := false } else b
  let opened := mapSet [] s.peg.lastOpen b.channel ((shot0 :: mapGet [] s.peg.lastOpen b.channel).take 32)
  let s1 : State :=
    { s with peg := { s.peg with bursts := s.peg.bursts ++ [b'], nextBurst := max s.peg.nextBurst (b.num + 1)
                                 lastOpen := opened } }
  (s1.when full (fun t => (t.fault R.MRT_INTSTAT_SLOTFULL 3 b.channel).tallyDropped b.frame)).mrtUse

/-- The fires of a gang, as Peg hands them to Batten (R107). -/
def gangFires (s : State) (n row ec : Nat) (tags shots : List Nat) (cols : List (Nat × Nat)) : List Fire :=
  (tags.zip shots).zipIdx.map (fun x =>
    { driver := n, tag := x.1.1, row := row, proof := false, time := x.1.2 / 8, ec := ec, mask := 0, cur := 0, width := 0
      epoch := s.peg.active, shot := x.2, cols := cols, stage := .planned })

/-- The shots of a burst in LSB from the frame epoch, with the driver's residual (R171). -/
def State.shotsRel (s : State) (n : Nat) (shots : List Nat) : List Nat :=
  shots.map (fun (f : Nat) => ((f : Int) - Int.ofNat s.peg.epochLsb + s.resAt n (Nat.div f 8)).toNat)

/-- A gang is planned: tags and bookings are taken, one burst is opened per column, and its fires go to Batten unless it
listens (R125, R132, R135, R194). -/
def State.planGang (s : State) (n row : Nat) (h : HeldGang) (cols : List GangCol) (tags shots : List Nat) (close : Nat)
    (books : List Booking) : State :=
  let kind := if h.listen then BurstKind.listen else BurstKind.scan
  let num0 := s.peg.nextBurst
  let rel := s.shotsRel n shots
  let s1 := (s.setTags (s.peg.tags ++ tags)).setBookings books
  let s2 := cols.zipIdx.foldl (fun t x =>
    t.openBurst (newBurst t (num0 + x.2) kind n row x.1 x.1.sight.channel h.k h.s tags rel close) (shots.headD 0)) s1
  let pairs := cols.zipIdx.map (fun x => (x.1.col, num0 + x.2))
  let fires := if h.listen then [] else gangFires s n row (s.limpEc h.ec) tags shots pairs
  let s3 : State := { s2 with btn := { s2.btn with fires := s2.btn.fires ++ fires } }
  s3.setPlan n (fun p => { p.taken (row % 32) with gangs := p.gangs + 1, lastShot := some (shots.getLastD 0) })

/-- A plan step is held with its code (R132, R194). -/
def State.holdStep (s : State) (n : Nat) (h : HeldGang) (refused : List Nat) (tags : Bool) : State :=
  let fresh := if tags then !h.tagHeld else !h.bookHeld
  let s1 := s.when fresh (·.bump (if tags then R.PEG_TAGWAIT_CNT else R.JST_BOOKWAIT_CNT) 1)
  s1.setPlan n (fun p => { p with held := some { h with refused := refused, tagHeld := h.tagHeld || tags,
                                                         bookHeld := h.bookHeld || !tags } })

/-- Columns within the limits of R133, with the columns refused. -/
def State.limitCols (s : State) (k : Nat) (shots : List Nat) (cols : List GangCol) : List GangCol × List Nat :=
  cols.foldl (fun a g =>
    if s.channelOk g.sight.channel k a.1.length shots false then (a.1 ++ [g], a.2) else (a.1, a.2 ++ [g.col])) ([], [])

/-- The gang of a step against limits, tags and the ledger (R125, R132, R133, R194). -/
def State.planLimits (s : State) (n row : Nat) (c : EpochCfg) (h : HeldGang) (shots : List Nat) (close : Nat) : State :=
  let (cols, bad) := s.limitCols h.k shots (s.columnsAt c s.peg.active row ((shots.headD 0 + shots.getLastD 0) / 2))
  let new := bad.filter (fun x => !h.refused.contains x)
  let s1 := s.when (!new.isEmpty) (·.bump R.PEG_CHLIMIT_CNT new.length)
  if cols.isEmpty then s1.setPlan n (fun p => p.taken (row % 32))
  else
    match s1.freeTags h.k with
    | none => s1.holdStep n h (h.refused ++ new) true
    | some tags =>
      let want := if h.listen then [] else cols.zipIdx.map (fun x =>
        s1.bookingFor x.1.sight.channel (s1.peg.nextBurst + x.2) close s1.peg.active)
      match s1.bookAll s1.liveBookings want with
      | none => s1.holdStep n h (h.refused ++ new) false
      | some books => s1.planGang n row h cols tags shots close books

/-- The root instants of a gang's shots: shot 0 at the later of the plan instant plus LEAD and the driver's last shot plus GMIN
(R126). -/
def State.gangShots (s : State) (n : Nat) (c : EpochCfg) (offsets : List Nat) : List Nat :=
  let lead := s.nowLsb + 512 * clampN 400 4000 (s.rd R.PEG_PLANCFG_LEAD)
  let t0 := match (s.plan n).lastShot with
    | some t => max lead (t + 512 * c.gminEff)
    | none => lead
  offsets.map (fun o => t0 + 512 * o)

/-- One plan step on a row (R126). A gang that would close behind the next boundary, or that would put a shot into a dead
angle, is not planned and the step stands (R124, R141); a step that the throttle level takes draws its code and leaves the
driver idle for the gang's length (R141). -/
def State.planRow (s : State) (n row : Nat) : State :=
  let c := s.epochCfg s.peg.active
  let at0 := (s.gangShots n c [0]).headD 0
  match s.gangSpec c n row (s.columnsAt c s.peg.active row at0) with
  | none => s.setPlan n (fun p => p.taken (row % 32))
  | some (h, weak) =>
    let shots := s.gangShots n c h.offsets
    let close := shots.getLastD 0 + 524288
    if s.peg.epochLsb + 512 * s.peg.period < close || shots.any s.deadAt then s
    else
      let s1 := s.when weak (fun t => (t.bump R.PEG_CODEWEAK_CNT 1).fault R.PEG_INTSTAT_CODEWEAK 1 n)
      if (s.plan n).step % 4 < s.throttle then
        (s1.bump R.PEG_THROTSKIP_CNT 1).setPlan n (fun p =>
          { p.taken (row % 32) with lastShot := some (shots.getLastD 0) })
      else s1.planLimits n row c h shots close

/-- A driver's plan step, or a retry of its held one (R126, R132). A hold on a row that has been blanked ends. -/
def State.planStep (s : State) (n : Nat) : State :=
  if !s.canPlan n then s
  else
    let p := s.plan n
    let kept := match p.held with
      | some h => if s.blanked n (h.row % 32) then none else some (h.row % 32)
      | none => none
    match kept with
    | some r => s.planRow n (32 * n + r)
    | none =>
      let s1 := s.setPlan n (fun p => { p with held := none })
      match s1.nextRow n p.row with
      | none => s1.driverIdle n
      | some r => (s1.driverWake n).planRow n (32 * n + r)

/-- PLAN_STEP (R126): the plan instant of a driver. -/
def execPlanStep (n : Fin 64) (s : State) : Host.Outcome State Fault Refusal :=
  if (s.plan n.val).held.isSome then s.done else (s.planStep n.val).done

/-- PLAN_STEP_RETRY (R132, R194): a held step is retried with the same code. -/
def execPlanStepRetry (n : Fin 64) (s : State) : Host.Outcome State Fault Refusal :=
  if (s.plan n.val).held.isSome then (s.planStep n.val).done else s.done

/-- TAGEXH (R132): a step has been held for tags for more than 1 ms. -/
def execTagexh (n : Fin 64) (s : State) : Host.Outcome State Fault Refusal :=
  match (s.plan n.val).held with
  | some h => if h.tagHeld then (s.fault R.PEG_INTSTAT_TAGEXH 1 n.val).done else s.done
  | none => s.done

/-! ### Proof pulses (R119, R120, R142) -/

/-- Lead of a proof pulse over its fire: 1,500 ns of transmission (R110) and 20 ns of the monitor (R108), in LSB. -/
def proofLead : Nat := 155648

/-- The next proof-pulse instant of a driver: a 2,000 ns point of a chosen dead angle whose pulse of W_NOM ends inside it, far enough
ahead, and behind the driver's last planned proof pulse (R119). -/
def State.proofPoint (s : State) (n : Nat) : Option Nat :=
  let every := max 1 (s.rd R.BTN_PROOFCFG_EVERY)
  let last := (s.btn.fires.filter (fun f => f.driver == n && f.proof)).foldl (fun m f => max m (8 * f.time + 1)) 0
  let floor := max (s.nowLsb + proofLead) last
  let points := (s.btn.windows.filter (fun w => (w.number + 1) % every == 0)).map (fun w =>
    let t := w.start + (floor - w.start + 204799) / 204800 * 204800
    (t / 8 * 8, w.stop))
  (points.filter (fun p => decide (p.1 + 8 * s.rd R.BTN_WNOM_WNOM ≤ p.2))).foldl (fun o p =>
    match o with | none => some p.1 | some t => some (min t p.1)) none

/-- A proof pulse of a driver's row is planned or submitted. -/
def State.proofPending (s : State) (n r : Nat) : Bool :=
  s.btn.fires.any (fun f => f.driver == n && f.proof && f.stage != .sent && f.row % 32 == r)

/-- The next row to prove: the first unblanked one from the cursor on whose proof pulse is not on its way (R119). -/
def State.nextProofRow (s : State) (n : Nat) : Option Nat :=
  ((List.range 32).map (fun i => ((s.drv n).cursor + i) % 32)).find? (fun r =>
    decide (r < s.rowsOf n) && !s.blanked n r && !s.proofPending n r)

/-- The column of a row whose entry names the row's reference return: the lowest valid one with REFVAL. -/
def State.refColumn (s : State) (row : Nat) : Option Nat :=
  (List.range 32).find? (fun c => (s.sight s.peg.active row c).valid && (s.sight s.peg.active row c).refVal)

/-- The reference burst of a proof pulse, whose records hold 32n + row in AZ and 0 in ELEV (R142, R221): its tag, if REFCH is within its limits, a tag is free, the booking succeeds and the
window closes before the next boundary. -/
def State.openReference (s : State) (n row col t : Nat) : State × Option Nat :=
  let e := s.sight s.peg.active row col
  let close := t + 131072
  let b := s.bookingFor e.refCh s.peg.nextBurst close s.peg.active
  match s.freeTags 1, s.bookAll s.liveBookings [b] with
  | some [tag], some books =>
    if s.channelOk e.refCh 1 0 [t] true && decide (close ≤ s.peg.epochLsb + 512 * s.peg.period) then
      let g : GangCol := { col := col, sight := e, cell := (row, 0) }
      let s1 := (s.setTags (s.peg.tags ++ [tag])).setBookings books
      (s1.openBurst (newBurst s1 s.peg.nextBurst .reference n row g e.refCh 1 1 [tag] (s1.shotsRel n [t]) close) t, some tag)
    else (s, none)
  | _, _ => (s, none)

/-- A proof pulse of a row is planned (R119). The spec states no tag for one that opens no burst. -/
def State.planProof (s : State) (n r t : Nat) : State :=
  let row := 32 * n + r
  let (s1, tag, cols) :=
    match if s.on R.BTN_CTL_REFCHK then s.refColumn row else none with
    | some c => (match s.openReference n row c t with
      | (u, some g) => (u, g, [(c, s.peg.nextBurst)])
      | (u, none) => (u.draw, Config.proofTag s.fresh % 512, []))
    | none => (s.draw, Config.proofTag s.fresh % 512, [])
  let f : Fire :=
    { driver := n, tag := tag, row := row, proof := true, time := t / 8, ec := 0, mask := 0, cur := 0, width := 0
      epoch := s.peg.active, shot := 0, cols := cols, stage := .planned }
  let cycles := cols.map (fun c => ({ row := row, burst := c.2, current := none, back := none } : ProofCycle))
  { s1 with btn := { s1.btn with fires := s1.btn.fires ++ [f], proofs := s1.btn.proofs.filter (fun p => p.row != row) ++ cycles } }

/-- PROOF_PULSE (R119): a driver's next proof pulse inside a chosen dead angle, on the next unblanked row of its cursor. -/
def execProofPulse (n : Fin 64) (s : State) : Host.Outcome State Fault Refusal :=
  let n := n.val
  if s.on R.BTN_CTL_PROOFEN && s.drvUp n && !(s.drv n).stopped && !s.trs.hushReq then
    match s.proofPoint n, s.nextProofRow n with
    | some t, some r => (s.planProof n r t).done
    | _, _ => s.done
  else s.done

end Sys2Proof.Machine
end

