-- ==== Sys2Proof/Machine/Joist.lean ====
section
/-!
DEFINITION. The commands of Mortise's scout end, fill and close, and of Joist (R179 to R190, R201 to R215), with the commit of
markers (R230).
-/
namespace Sys2Proof.Machine

/-! ### Mortise -/

/-- A listen burst's candidates return to Peg: a hit marks its channel as foreign (R136, R190). -/
def State.listenHit (s : State) (b : Burst) : State :=
  if b.cands.isEmpty then s
  else
    let hold := s.rd R.PEG_FORCFG_FORHOLD
    let w := b.channel / 32
    let s1 : State := { s with peg := { s.peg with foreign := mapIns (mapErase s.peg.foreign b.channel) b.channel hold } }
    ((s1.wr (R.PEG_FOREIGN_CH w) (putBit (s1.rd (R.PEG_FOREIGN_CH w)) (b.channel % 32) true)).bump R.PEG_LISTENHIT_CNT 1).flag
      R.PEG_INTSTAT_FOREIGN

/-- The sieve of a burst runs (R175 to R178), with its counts. -/
def State.runSieve (s : State) (b : Burst) (placed : Option Nat) : State :=
  let b1 := { b.sieve (s.epochCfg b.epoch) with placed := placed }
  let s1 := (s.setBurst b.num (fun _ => b1)).countSieve b1
  if b.kind == .listen then s1.listenHit b1 else s1

/-- A fill of the burst's channel is still to run: of a burst placed before `p`, or at it with a lower number (R180). -/
def State.fillBusy (s : State) (b : Burst) (p : Nat) : Bool :=
  s.peg.bursts.any (fun x => x.channel == b.channel && x.num != b.num && x.stage == .open && !x.filled
    && !x.windows.isEmpty && (match x.placed with
      | some q => decide (q < p) || (q == p && decide (x.num < b.num))
      | none => false))

/-- SCOUT_END (R179): threshold, sieve and windows of a burst with an aim phase; P comes 40 ns later. -/
def execScoutEnd (b : Nat) (s : State) : Host.Outcome State Fault Refusal :=
  match s.burst b with
  | none => s.done
  | some x =>
    if x.stage == .open && !x.sieved && decide (x.s < x.k) then
      let p := s.nowLsb + 4096
      let s1 := s.runSieve x (some p)
      let n := ((s1.burst b).map (·.windows.length)).getD 0
      (s1.when (n != 0 && s1.fillBusy x p) (·.bump R.MRT_FILLWAIT_CNT 1)).done
    else s.done

/-- Windows with an excluded shot, and backlog-only windows, are counted (R181, R183). -/
def State.countWindows (s : State) (b : Burst) : State :=
  let n := (b.windows.filter (fun w => !w.direct)).length
  s.when (n != 0) (·.bump R.MRT_BACKONLY_CNT n)

/-- RETROACTIVE_FILL (R180, R181): what the ring still holds of the backlog before P enters the windows, in the channel's order of
scout ends. -/
def execRetroactiveFill (b : Nat) (_nil : Unit) (s : State) : Host.Outcome State Fault Refusal :=
  match s.burst b with
  | none => s.done
  | some x =>
    match x.placed with
    | some p =>
      if x.stage == .open && !x.filled && !s.fillBusy x p then
        let ring := s.backlog x.channel
        let y := { x.fill ring (ring.filter (fun e => decide (e.deliver < p))) (p - x.epoch0) with filled := true }
        ((s.setBurst b (fun _ => y)).when (y.wrapped != 0) (·.bump R.MRT_WRAPWIN_CNT y.wrapped)).done
      else s.done
    | none => s.done

/-- The burst at its close: sieve, placement and wide-port fill if it has no aim phase (R182), then RFLAGS and the close's device
time (R199). -/
def State.closeOut (s : State) (x : Burst) : State :=
  let s1 :=
    if x.sieved then s
    else
      let t := s.runSieve x (some x.closeLsb)
      match t.burst x.num with
      | none => t
      | some y =>
        let ring := t.backlog y.channel
        let z := { y.fill ring (ring.filter (fun e => decide (e.deliver ≤ y.closeLsb))) y.closeRel with filled := true }
        (t.setBurst x.num (fun _ => z)).when (z.wrapped != 0) (·.bump R.MRT_WRAPWIN_CNT z.wrapped)
  s1.setBurst x.num (fun b =>
    { b with stage := .waiting, closeT := s1.timeAt b.closeLsb,
             rflags := (s1.flagsWord b.calRamp) ||| (if b.spare then 8 else 0) ||| (if b.limiter then 128 else 0) })

/-- Tags are released once no open burst of the gang is left (R186). -/
def State.releaseTags (s : State) (b : Burst) : State :=
  if s.peg.bursts.any (fun x => x.stage == .open && x.driver == b.driver && x.tags == b.tags) then s
  else s.setTags (s.peg.tags.filter (fun t => !b.tags.contains t))

/-- The evidence column of a burst goes to the lookback history (R186, R189). -/
def State.handColumn (s : State) (b : Burst) : State :=
  let sv := ((List.range b.s).filter b.valid).length
  if b.kind == .scan && sv != 0 then s.lbkStore { b with svScout := sv } else s

/-- WINDOW_CLOSE (R139, R169, R186, R190): a burst closes and its work item is presented, also that of a burst with no valid shot;
a listen burst, and one that held no slot, have none. -/
def execWindowClose (b : Nat) (s : State) : Host.Outcome State Fault Refusal :=
  match s.burst b with
  | none => s.done
  | some x =>
    if x.stage == .open then
      let s1 := (((s.closeOut x).releaseTags x).shutBurst x).mrtUse
      match s1.burst b with
      | none => s1.done
      | some y =>
        let s2 := ((s1.countWindows y).handColumn y).when (y.allVoid && y.kind != .listen) (·.bump R.PEG_VOIDBURST_CNT 1)
        if y.kind == .listen || !y.slot then (s2.endBurst b).done else (s2.dispatch b).done
    else s.done

/-! ### Joist -/

/-- COMMIT (R201): the engine that runs a burst writes its commit word; a bad word is an engine fault. The atomic adds that
its program made stand in the cluster's statistics (R196). -/
def execCommit (b : Nat) (word : Word) (w : Written) (s : State) : Host.Outcome State Fault Refusal :=
  match s.burst b with
  | none => s.done
  | some x =>
    match x.engine with
    | none => s.done
    | some e =>
      let std := (s.setOf x.epoch).standard
      let s0 := if std then s
        else (w.adds.foldl (fun t a => t.statAdd (e / 32) a) s).setEngine e (fun y => { y with port := portBytes word w.recs })
      if !std && !commitOk word then (s0.engineFault e false).settleJnl.done
      else
        let s1 := s0.handOver x (s0.itemRecords x word w.recs)
        ((s1.setEngine e (fun y => { y with burst := none })).dispatchWaiting (e / 32)).settleJnl.done

/-- MARKER_COMMIT (R230): whatever has its place is committed. -/
def execMarkerCommit (s : State) : Host.Outcome State Fault Refusal := s.settleJnl.done

/-- ENGINE_FAULT (R211, R214, R216): an engine in service stops on an uncorrectable error, or while it runs an item on an access
that its address space does not allow or on a bad commit word. A correctable error is counted. A cluster-level fault, and an
access of its cluster's master to HBM, are the cluster's. -/
def execEngineFault (e : Fin 1056) (kind : EngineFaultKind) (s : State) : Host.Outcome State Fault Refusal :=
  let e := e.val
  let x := s.engine e
  match kind with
  | .cluster => (s.clusterFault (e / 32) false).settleJnl.done
  | .girt addr write => (s.clusterAccess (e / 32) addr write).done
  | .ecc true => (s.bump R.JST_ECCCOR_CNT 1).done
  | .ecc false => if x.inService then (s.engineFault e false).settleJnl.done else s.done
  | .access addr k =>
    if x.inService && x.burst.isSome && !engAllows addr.toNat k then (s.engineFault e false).settleJnl.done else s.done
  | .commitWord => if x.inService && x.burst.isSome then (s.engineFault e false).settleJnl.done else s.done

/-- BUDGET_EXPIRY (R206): an engine reaches its budget without COMMIT. -/
def execBudgetExpiry (e : Fin 1056) (s : State) : Host.Outcome State Fault Refusal :=
  if (s.engine e.val).burst.isSome then (s.engineFault e.val false).settleJnl.done else s.done

/-- ENGINE_RETEST (R213): an engine that passes returns to service; one that fails stays out until power-on reset. -/
def execEngineRetest (e : Fin 1056) (pass : Bool) (s : State) : Host.Outcome State Fault Refusal :=
  let e := e.val
  if (s.engine e).testing then
    let s1 := (s.setEngine e (fun x => { x with testing := false, out := !pass })).clusterRegs (e / 32)
    if pass then ((s1.dispatchWaiting (e / 32)).settleJnl).done else (s1.fault R.JST_INTSTAT_ENGOUT 2 e).done
  else s.done

/-- CLUSTER_SUBSTITUTION (R214): the takeover instant of the spare. -/
def execClusterSubstitution (s : State) : Host.Outcome State Fault Refusal :=
  match s.jst.subAt with
  | none => s.done
  | some (c, _) =>
    let s1 : State := { s with jst := { s.jst with subFor := some c, subAt := none } }
    ((((s1.wr (R.JST_CLSTAT_STATE c) 1).wr (R.JST_CLSTAT_STATE 32) 3).wr R.JST_STATUS_SUBCL c).fault R.JST_INTSTAT_SUBST 2 c).done

/-- JST_SUBCMD_GO (R214): host software forces a substitution; refused while the spare is taken. -/
def execJstSubcmdGo (c : BitVec 5) (s : State) : Host.Outcome State Fault Refusal :=
  if s.spareTaken then (s.refuse R.JST_INTSTAT_BADCFG).done
  else ((s.wr R.JST_SUBCMD_CL c.toNat).substitute c.toNat).done

end Sys2Proof.Machine
end

