-- ==== Sys2Proof/Machine/Kerf.lean ====
section
/-!
DEFINITION. Kerf's commands on echo channels and spares (R147 to R162).
-/
namespace Sys2Proof.Machine

/-! ### Edges -/

/-- One compare of the spare's stamp with the channel's own (R160). -/
def State.shadowCompare (s : State) (ch own spare : Nat) : State :=
  let d := roundEven16 ((own : Int) + krfDiff spare own) - roundEven16 own
  let bad := decide (max 1 (s.rd R.KRF_SHADOWCFG_SHDLIM) < d.natAbs)
  (s.setGroup (ch / 32) (fun g =>
    { g with compared := g.compared + 1, mism := g.mism + bad.toNat, diffSum := g.diffSum + krfDiff spare own })).when bad
      (·.bump (R.KRF_SPSTAT_MISCNT (ch / 32)) 1)

/-- The spare's stamp of an edge that it shadows goes to the calibration tap and to the compare alone (R159). -/
def State.shadowEdge (s : State) (ch own : Nat) (shadow : Option (BitVec 48 × BitVec 5)) : State :=
  match shadow with
  | some (c, tap) =>
    if s.shadows ch then
      (s.calTap (1024 + ch / 32) tap.toNat false).shadowCompare ch own (s.tAbs (1024 + ch / 32) c tap)
    else s
  | none => s

/-- A leading edge that a channel accepts (R147): its event waits for its close and its delivery. -/
def State.acceptEdge (s : State) (ch : Nat) (coarse : BitVec 48) (tap : BitVec 5) (shadow : Option (BitVec 48 × BitVec 5)) :
    State :=
  let t := s.stampOf ch coarse tap
  s.setChan ch (fun c =>
    { c with high := true, last := some t
             queue := c.queue ++ [{ tAbs := t, tdc := s.servingTdc ch, width := none, wsat := false, stuck := false
                                    tap := tap.toNat, shadow := shadow, prev := c.last }] })

/-- An event closes with its width: it is counted, and the calibration tap and the shadow comparison take its leading edge (R155,
R160). -/
def State.stamped (s : State) (ch : Nat) (e : KrfEvent) : State :=
  let lsb := s.nowLsb
  let s1 := s.setChan ch (fun c =>
    { c with queue := c.queue.dropLast ++ [e], recent := (lsb :: c.recent).filter (fun x => decide (lsb < x + 102400)) })
  (((s1.bump (R.KRF_EVCNT_CNT ch) 1).calTap e.tdc e.tap false).notQuiet ch).shadowEdge ch e.tAbs e.shadow

/-- The newest event of a channel, if it is open. -/
def State.openEvent (s : State) (ch : Nat) : Option KrfEvent :=
  match (s.krfChan ch).queue.getLast? with
  | some e => if e.width.isNone then some e else none
  | none => none

/-- The open event of a channel closes with its width saturated (R151). -/
def State.saturate (s : State) (ch : Nat) : State :=
  match s.openEvent ch with
  | some e => s.stamped ch { e with width := some 1023, wsat := true }
  | none => s

/-- Whether a leading edge falls into the dead time: less than 256 LSB after the last accepted one, or before the input has been
low again (R152). -/
def State.inDead (s : State) (ch t : Nat) : Bool :=
  (s.krfChan ch).high ||
    (match (s.krfChan ch).last with
     | some l => decide (krfDiff t l < 4096) && decide (0 ≤ krfDiff t l)
     | none => false)

/-- LEADING_EDGE (R147, R152): a masked channel stamps nothing; an edge in the dead time is ignored whole and counted. -/
def execLeadingEdge (ch : Fin 1024) (coarse : BitVec 48) (tap : BitVec 5) (shadow : Option (BitVec 48 × BitVec 5)) (s : State) :
    Host.Outcome State Fault Refusal :=
  let ch := ch.val
  if !s.stamping ch then (s.setChan ch (fun c => { c with high := true })).done
  else if s.inDead ch (s.stampOf ch coarse tap) then
    ((s.setChan ch (fun c => { c with high := true })).bump (R.KRF_DEADCNT_CNT ch) 1).done
  else (s.acceptEdge ch coarse tap shadow).done

/-- The time between an event's leading edge and a trailing edge through the same table, in 1/16 LSB (R147). -/
def State.highTime (s : State) (ch : Nat) (e : KrfEvent) (coarse : BitVec 48) (tap : BitVec 5) : Int :=
  krfDiff (s.tAbs e.tdc coarse tap) e.tAbs + (if e.tdc < 1024 then 0 else - s.spareShift ch)

/-- The open event of a channel at a trailing edge: a pulse high for less than 150 ps, 15.36 LSB, is never stamped (R145); one high for
more than 1,023 LSB has its width saturated (R151). -/
def State.trail (s : State) (ch : Nat) (coarse : BitVec 48) (tap : BitVec 5) : State :=
  match s.openEvent ch with
  | some e =>
    let w := (roundEven16 (s.highTime ch e coarse tap)).toNat
    if 100 * s.highTime ch e coarse tap < 24576 then s.setChan ch (fun c => { c with queue := c.queue.dropLast, last := e.prev })
    else if 1023 < w then s.saturate ch
    else s.stamped ch { e with width := some w }
  | none => s

/-- TRAILING_EDGE (R147): the width is the difference of the unrounded stamps, through the same table; a release asked for while
the input was high takes effect (R157). -/
def execTrailingEdge (ch : Fin 1024) (coarse : BitVec 48) (tap : BitVec 5) (s : State) : Host.Outcome State Fault Refusal :=
  let ch := ch.val
  let s1 := (s.trail ch coarse tap).setChan ch (fun c => { c with high := false })
  (s1.when ((s1.krfChan ch).held && (s1.krfChan ch).relPend) (·.releaseChan ch)).done

/-- WIDTH_SATURATION (R151): 1,023 LSB after the leading edge the event is closed with WSAT. -/
def execWidthSaturation (ch : Fin 1024) (s : State) : Host.Outcome State Fault Refusal :=
  (if (s.krfChan ch.val).high then s.saturate ch.val else s).done

/-- EVENT_WORD_DELIVERY (R154): the oldest event of a channel, closed and the next of its group, passes the channel gate and the group
gate, or is dropped. -/
def execEventWordDelivery (ch : Fin 1024) (_nil : Unit) (s : State) : Host.Outcome State Fault Refusal :=
  let ch := ch.val
  match (s.krfChan ch).queue with
  | [] => s.done
  | e :: r =>
    if e.width.isNone || !s.headOfGroup ch e then s.done
    else
      let (s1, ok) := (s.setChan ch (fun c => { c with queue := r })).takeToken ch e.stuck
      if !ok then (s1.krfDrop ch).done
      else
        let (s2, pass) := s1.groupGate ch e
        if pass then (s2.krfDeliver ch e).done else (s2.krfDrop ch).done

/-- PULSER_EDGE (R156): an edge of the random pulser enters a TDC while its echo input is low, for the calibration tap only; the dead
time after it hides what follows. A spare in IDLE has no echo input. -/
def execPulserEdge (t : Fin 1056) (coarse : BitVec 48) (tap : BitVec 5) (s : State) : Host.Outcome State Fault Refusal :=
  let t := t.val
  let ch := if t < 1024 then t else s.spareCh (t - 1024)
  let wired := t < 1024 || s.rd (R.KRF_SPARE_MODE (t - 1024)) != 0
  if wired && (s.krfChan ch).high then s.done
  else
    let s1 := if s.servingTdc ch == t then s.setChan ch (fun c => { c with last := some (s.stampOf ch coarse tap) }) else s
    (s1.calTap t tap.toNat true).done

/-! ### Stuck and over-fast inputs (R157, R158) -/

/-- STUCK (R157): an input high for HIGHT us delivers one STUCK event, and the channel is masked. -/
def execStuck (ch : Fin 1024) (s : State) : Host.Outcome State Fault Refusal :=
  let ch := ch.val
  if s.stamping ch && (s.krfChan ch).high && s.rd R.KRF_STUCKCFG_HIGHT != 0 then
    let e : KrfEvent :=
      { tAbs := krfStampOf s.nowLsb, tdc := s.servingTdc ch, width := some 1023, wsat := true, stuck := true, tap := 0
        shadow := none, prev := none }
    let s1 := (s.saturate ch).setChan ch (fun c => { c with held := true, queue := c.queue ++ [e] })
    let s2 := ((s1.wr (R.KRF_CHSTAT_STUCK ch) 1).count R.KRF_STATUS_NSTUCK 1).maskEval ch
    (s2.fault R.KRF_INTSTAT_STUCK 3 ch).done
  else s.done

/-- FASTMAX as it acts. -/
def State.fastMax (s : State) : Nat := min 400 (s.rd R.KRF_STUCKCFG_FASTMAX)

/-- Accepted events of a channel in the last microsecond. -/
def State.recentEvents (s : State) (ch : Nat) : Nat :=
  ((s.krfChan ch).recent.filter (fun x => decide (s.nowLsb < x + 102400))).length

/-- FAST (R158): a channel that reaches FASTMAX accepted events in 1 us is marked, and with FASTMASK masked. -/
def execFast (ch : Fin 1024) (s : State) : Host.Outcome State Fault Refusal :=
  let ch := ch.val
  if s.fastMax != 0 && decide (s.fastMax ≤ s.recentEvents ch) && !s.on (R.KRF_CHSTAT_FAST ch) then
    let mask := s.on R.KRF_STUCKCFG_FASTMASK
    let s1 := (s.wr (R.KRF_CHSTAT_FAST ch) 1).count R.KRF_STATUS_NFAST 1
    let s2 := if mask then (s1.setChan ch (fun c => { c with held := true })).maskEval ch else s1
    (s2.fault R.KRF_INTSTAT_FAST (if mask then 3 else 1) ch).done
  else s.done

/-- STUCK_RELEASE (R157, R158): RELT ms below its condition, a channel is released: low if it was stuck, below half of FASTMAX if it
was over-fast. -/
def execStuckRelease (ch : Fin 1024) (s : State) : Host.Outcome State Fault Refusal :=
  let ch := ch.val
  let calm := (if s.on (R.KRF_CHSTAT_STUCK ch) then !(s.krfChan ch).high else true)
    && (if s.on (R.KRF_CHSTAT_FAST ch) then decide (2 * s.recentEvents ch < s.fastMax) else true)
  if s.rd R.KRF_STUCKCFG_RELT != 0 && (s.on (R.KRF_CHSTAT_STUCK ch) || s.on (R.KRF_CHSTAT_FAST ch)) && calm then
    (s.releaseChan ch).done
  else s.done

/-- REL (R157): host software releases a held channel, at once or when its input goes low. -/
def execRel (ch : Fin 1024) (s : State) : Host.Outcome State Fault Refusal :=
  let ch := ch.val
  if !(s.krfChan ch).held then s.done
  else if (s.krfChan ch).high then (s.setChan ch (fun c => { c with relPend := true })).done
  else (s.releaseChan ch).done

/-! ### Spare TDCs (R159 to R162) -/

/-- TDCFAIL (R160): host software declares a channel's TDC failed. -/
def execTdcfail (ch : Fin 1024) (s : State) : Host.Outcome State Fault Refusal :=
  if s.on (R.KRF_CHSTAT_TDCFAIL ch.val) then s.done else (s.tdcFailed ch.val false).done

/-- The next unmasked channel of a group behind the one the spare is on (R160). -/
def State.nextShadow (s : State) (g : Nat) : Nat :=
  let c := s.rd (R.KRF_SPSTAT_CURCH g)
  (((List.range 32).map (fun i => (c + 1 + i) % 32)).find? (fun k => !s.on (R.KRF_CHSTAT_MASKED (32 * g + k)))).getD c

/-- SHADOW_PERIOD_END (R160, R357): the mismatch rate is judged, the mean difference kept, and the spare moves on, unless a move keeps it
on its channel (R161). -/
def execShadowPeriodEnd (g : Fin 32) (s : State) : Host.Outcome State Fault Refusal :=
  let g := g.val
  if s.rd (R.KRF_SPARE_MODE g) = 1 && !s.on (R.KRF_SPSTAT_TAKEN g) && !s.on (R.KRF_SPSTAT_SPFAIL g) then
    let x := s.krfGroup g
    let ch := s.spareCh g
    let s1 : State :=
      if x.compared = 0 then s
      else { s with plb := { s.plb with spareOfs := mapSet 0 s.plb.spareOfs ch (divRound x.diffSum x.compared) } }
    let s2 := s1.setGroup g (fun x => { x with compared := 0, mism := 0, diffSum := 0 })
    let s3 := s2.when (s.on (R.KRF_SPARE_ROTATE g) && x.move.isNone) (fun t => t.wr (R.KRF_SPSTAT_CURCH g) (t.nextShadow g))
    if 1000 ≤ x.compared && x.compared < 100 * x.mism && !s.on (R.KRF_CHSTAT_TDCFAIL ch) then
      ((s3.fault R.KRF_INTSTAT_SHADOWMIS 2 ch).tdcFailed ch false).done
    else s3.done
  else s.done

/-- SPARE_MOVE (R159, R161, R162): a write of KRF_SPARE. A spare that substitutes, or is to, moves at a takeover instant; the others
move at once. -/
def execSpareMove (g : Fin 32) (v : Word) (s : State) : Host.Outcome State Fault Refusal :=
  let g := g.val
  let part (f : Fld) : Nat := bits v.toNat (f.key % 32) f.width
  let mode := part (R.KRF_SPARE_MODE g)
  let ch := part (R.KRF_SPARE_CH g)
  if mode = 3 || (s.on (R.KRF_SPSTAT_SPFAIL g) && mode != 0) then (s.refuse R.KRF_INTSTAT_BADCFG).done
  else
    let s1 := (((s.wr (R.KRF_SPARE_MODE g) mode).wr (R.KRF_SPARE_CH g) ch).wr (R.KRF_SPARE_AUTO g) (part (R.KRF_SPARE_AUTO g))).wr
      (R.KRF_SPARE_ROTATE g) (part (R.KRF_SPARE_ROTATE g))
    if mode = 2 && s.on (R.KRF_SPSTAT_TAKEN g) && s.rd (R.KRF_SPSTAT_CURCH g) == ch then
      (s1.setGroup g (fun x => { x with move := none })).done
    else if mode = 2 || s.on (R.KRF_SPSTAT_TAKEN g) then (s1.requestMove g ch mode).done
    else
      (((s1.moveReplaced g none).wr (R.KRF_SPSTAT_CURCH g) ch).setGroup g (fun x =>
        { x with move := none, compared := 0, mism := 0, diffSum := 0 })).done

/-- SPARE_TAKEOVER (R161): at the takeover instant the spare leaves the channel it serves and takes up its task. -/
def execSpareTakeover (g : Fin 32) (s : State) : Host.Outcome State Fault Refusal :=
  let g := g.val
  match (s.krfGroup g).move with
  | none => s.done
  | some (c, _, mode) =>
    let ch := 32 * g + c
    let s1 := ((s.spareLeaves g).wr (R.KRF_SPSTAT_CURCH g) c).setGroup g (fun x =>
      { x with move := none, compared := 0, mism := 0, diffSum := 0 })
    if mode = 2 then
      let s2 := (((s1.wr (R.KRF_SPSTAT_TAKEN g) 1).wr (R.KRF_CHSTAT_SPARE ch) 1).wr (R.KRF_SPARE_MODE g) 2).wr (R.KRF_SPARE_CH g) c
      let s3 := (s2.setGroup g (fun x => { x with kept := some c })).repaired ch
      (s3.fault R.KRF_INTSTAT_SPAREUSE 2 ch).done
    else s1.done

end Sys2Proof.Machine
end

