-- ==== Sys2Proof/Machine/Frame.lean ====
section
/-!
DEFINITION. FRAME_BOUNDARY (R122 to R124): the end of a frame and the start of the next, with everything that takes effect there
(R44, R63, R81, R136, R138, R141, R149, R227, R241, R352, R354, R418 to R420).
-/
namespace Sys2Proof.Machine


/-- Skews of the frame that starts (R149). -/
def State.skewFrame (s : State) : State :=
  (List.range 1024).foldl (fun t ch =>
    let c := t.krfChan ch
    let k := t.rdS (R.KRF_SKEW_SKEW ch)
    if c.skew = k && c.skewOld = k then t else t.setChan ch (fun c => { c with skewOld := c.skew, skew := k })) s

/-- Foreign flags age by a frame (R136). -/
def State.foreignFrame (s : State) : State :=
  let left := if s.rd R.PEG_FORCFG_FORHOLD = 0 then []
    else (s.peg.foreign.filter (fun p => decide (2 ≤ p.2))).map (fun p => (p.1, p.2 - 1))
  let gone := (s.peg.foreign.map (·.1)).filter (fun ch => left.all (fun p => p.1 != ch))
  gone.foldl (fun t ch => t.wr (R.PEG_FOREIGN_CH (ch / 32)) (putBit (t.rd (R.PEG_FOREIGN_CH (ch / 32))) (ch % 32) false))
    { s with peg := { s.peg with foreign := left } }

/-- The driver timelines start afresh (R126, R129). An idle driver is looked at again at its next plan instant (R141). -/
def State.driverFrame (s : State) : State :=
  (List.range 64).foldl (fun t n => t.setPlan n (fun p => { p with step := 0, held := none })) s

/-- The codebook generation due in the frame that starts: where it is not in hand, R129 stays in force (R138). -/
def State.codebookFrame (s : State) (num : Nat) : State :=
  let ok := (s.dueCodebook num).isSome
  (s.wrB R.PEG_STATUS_CBVALID ok).when (s.on R.PEG_CTL_TIEJOINT && !ok) (·.fault R.PEG_INTSTAT_CBLATE 1 0)

/-- What the tie master originates at a boundary: the start of the frame after the next, and a generation two frames before its
first (R137, R418, R420). -/
def State.masterFrameStart (s : State) (num b : Nat) : State :=
  if s.tieMaster then
    let f := (num + 1) % 2 ^ 32
    let s1 := s.tieOriginate (fun _ => true) 3 255 (leBytes 4 f ++ leBytes 7 (tieTime (b + 512 * max 1 s.peg.period)))
    let n := s.cbFrames
    s1.when (s.on R.PEG_CTL_TIEJOINT && (num + 2) % n == 0) (·.sendCodebook ((num + 2) / n % 2 ^ 32) ((num + 2) % 2 ^ 32))
  else s

/-- A slave that has fixed this boundary stands on the master's grid (R419). -/
def State.tieFrame (s : State) (num : Nat) : State :=
  match s.dwl.nextBound with
  | none => s
  | some (f, _) =>
    let s1 := s.onDwl (fun d => { d with nextBound := none, alignDue := false })
    if s.on R.DWL_TIESTAT_ALIGNED then s1
    else (s1.wr R.DWL_TIESTAT_ALIGNED 1).wr R.DWL_TIEFROFS_OFS ((num + (2 ^ 32 - f % 2 ^ 32)) % 2 ^ 32)

/-- The frame that ends (R124, R227): its end marker while scanning; a frame not scanned counts as passed over. -/
def State.frameEnds (s : State) (b old : Nat) : State :=
  if s.peg.scanning then s.raiseMarker b (s.timeAt b) 2 [] old
  else if s.peg.ran && old != s.peg.lastFrame then s.onPeg (fun p => { p with passed := p.passed + 1 })
  else s

/-- The period of the frame that starts: that of the configuration epoch in force. A change empties the lookback history (R122,
R246). -/
def State.periodFrame (s : State) : State :=
  let p := (s.epochCfg s.peg.active).period
  let s1 := s.onPeg (fun g => { g with period := p, cfgPeriod := p })
  if s.peg.cfgPeriod = 0 || s.peg.cfgPeriod = p then s1 else s1.lbkRelay p

/-- A scan begins at this boundary: accepted at least 100 us before it (R61, R123), or resumed after a full reset (R49). -/
def State.scanBegins (s : State) (b : Nat) : Bool :=
  !s.peg.scanning && (s.peg.startReq.any (fun t => decide (t + 10240000 ≤ b)) || (s.boot.wasRun && s.stage == 0x0E))

/-- Scanning after the boundary (R123): a stop that was asked for has run to the frame's end. -/
def State.scanFrame (s : State) (b old : Nat) : State :=
  if s.peg.scanning && s.peg.stopReq then
    ((s.onPeg (fun p => { p with scanning := false, stopReq := false, lastFrame := old })).wr R.PEG_STATUS_STATE 0).nowReady
  else if s.scanBegins b then
    let s1 := s.onPeg (fun p => { p with scanning := true, startReq := none, ran := true })
    ((s1.onBoot (fun x => { x with wasRun := false })).wr R.PEG_STATUS_STATE 2).nowRunning
  else s

/-- The frame start marker of a scanned frame (R227, R241). -/
def State.frameStarts (s : State) (b num : Nat) : State :=
  if s.peg.scanning then
    let first := s.peg.firstAfter
    let s1 := s.raiseMarker b (s.timeAt b) 1
      (leBytes 4 num ++ leBytes 1 s.peg.active ++ leBytes 1 first.toNat ++ leBytes 4 s.peg.passed) 0
    (s1.onPeg (fun p => { p with firstAfter := false, passed := 0, lastFrame := num })).flag R.PEG_INTSTAT_FRAMESTART
  else s

/-- Rings that RINGEN has brought up: Peg plans their cells from this frame (R121). -/
def State.ringFrame (s : State) : State :=
  { s with btn := { s.btn with rings := s.btn.rings.map (fun p => (p.1, { p.2 with waits := false })) } }

/-- What takes effect at the boundary b beside the frame clock itself. -/
def State.frameEffects (s : State) (b num : Nat) : State :=
  let s1 := ((s.ringFrame.skewFrame.foreignFrame).driverFrame).onTnn (fun t => { t with tlSwapDue := t.tlSwap })
  let s2 := ((s1.tieFrame num).masterFrameStart num b).codebookFrame num
  let s3 := s2.plbFrame
  let s4 := s3.onPeg (fun p =>
    { p with calMask := (List.range 1024).foldl (fun m ch => if s3.calFlag ch then m + 2 ^ ch else m) 0 })
  s4.lbkFrame b num s4.peg.scanning

/-- A boundary at the root instant b. -/
def State.boundary (s : State) (b : Nat) : State :=
  let old := s.rd R.PEG_FRAMENUM_NUM
  let num := (old + 1) % 2 ^ 32
  let s1 := s.frameEnds b old
  let (s2, step) := s1.applyStep
  let s3 := (s2.stepBreak step num).wr R.PEG_FRAMENUM_NUM num
  let s4 := s3.onPeg (fun p => { p with clockOn := true, epochOld := if p.clockOn then some p.epochLsb else none, epochLsb := b })
  let s5 := ((s4.swapsAt .frame b).periodFrame).scanFrame b old
  ((s5.frameEffects b num).frameStarts b num).settleJnl

/-- FRAME_BOUNDARY (R122, R123): the first one at or after entry to stage SPIN starts the frame clock; later ones fall on its
grid, scanned or not. -/
def execFrameBoundary (s : State) : Host.Outcome State Fault Refusal :=
  if s.peg.clockOn then (if s.gridNext ≤ s.nowLsb then s.boundary s.gridNext else s).done
  else if 0x0A ≤ s.stage && s.stage ≤ 0x0E && !s.boot.inReset && !s.boot.pornLow && s.boot.powered then (s.boundary s.nowLsb).done
  else s.done

end Sys2Proof.Machine
end

