-- ==== Sys2Proof/Machine/Gauges.lean ====
section
/-!
DEFINITION. The gauges (R163 to R167): measurement units, their statistics and the timestamp FIFO.
-/
namespace Sys2Proof.Machine

/-- A unit that measures nothing. -/
def Gauge.zero : Gauge :=
  { armed := false, start := none, n := 0, sumX := 0, sumXX := 0, minX := 0, maxX := 0, last := 0, fifo := [] }

/-- A unit's record. -/
def State.gauge (s : State) (u : Nat) : Gauge := mapGet .zero s.krf.gauges u

/-- A change of a unit's record. -/
def State.setGauge (s : State) (u : Nat) (f : Gauge → Gauge) : State :=
  { s with krf := { s.krf with gauges := mapSet .zero s.krf.gauges u (f (s.gauge u)) } }

/-- One wrap of a gauge stamp, in LSB. -/
def gaugeWrap : Nat := 2 ^ 53

/-- a - b of two stamps. -/
def gaugeSub (a b : Nat) : Nat := (a + gaugeWrap - b % gaugeWrap) % gaugeWrap

/-- The mode of a unit (R164). -/
def State.gMode (s : State) (u : Nat) : Nat := s.rd (R.KRF_GCFG_MODE u)

/-- A START edge of a unit. -/
def State.gStart (s : State) (u g : Nat) (rising : Bool) : Bool :=
  s.rd (R.KRF_GCFG_START u) == g && s.on (R.KRF_GCFG_STARTEDGE u) == !rising

/-- A STOP edge of a unit: of the gauge and edge named, or in mode WIDTH the opposite edge of the START gauge. -/
def State.gStop (s : State) (u g : Nat) (rising : Bool) : Bool :=
  if s.gMode u = 3 then s.rd (R.KRF_GCFG_START u) == g && s.on (R.KRF_GCFG_STARTEDGE u) == rising
  else s.rd (R.KRF_GCFG_STOP u) == g && s.on (R.KRF_GCFG_STOPEDGE u) == !rising

/-- A unit uses a gauge. -/
def State.gUses (s : State) (u g : Nat) : Bool :=
  s.gMode u != 0 && (s.rd (R.KRF_GCFG_START u) == g || (s.gMode u == 1 && s.rd (R.KRF_GCFG_STOP u) == g))

/-- N as it acts. -/
def State.gN (s : State) (u : Nat) : Nat := max 1 (s.rd (R.KRF_GN_N u))

/-- A field pair: the low word and the rest. -/
def State.wrPair (s : State) (lo hi : Fld) (v : Nat) : State := (s.wr lo (v % 2 ^ 32)).wr hi (v / 2 ^ 32)

/-- A measurement is taken: the sums, LAST and CNT follow (R166). -/
def State.measured (s : State) (u x : Nat) (next : Option Nat) : State :=
  let s1 := s.setGauge u (fun g =>
    { g with start := next, n := g.n + 1, sumX := g.sumX + x, sumXX := g.sumXX + x * x, last := x
             minX := if g.n = 0 then x else min g.minX x, maxX := max g.maxX x })
  ((s1.wrPair (R.KRF_GLASTLO_LAST u) (R.KRF_GLASTHI_LAST u) x).wr (R.KRF_GSTAT_CNT u) (s1.gauge u).n).wr (R.KRF_GSTAT_OVF u) 0

/-- Device time of a gauge edge in units of 2^-8 ns (R167). -/
def State.edgeTime (s : State) (stamp : Nat) : Nat :=
  let d := krfDiff (16 * stamp) (krfStampOf s.nowLsb) / 16
  ofIntBits 64 ((s.clk.devTime.toNat : Int) * 256 + d * 5 / 2)

/-- A timestamp enters the FIFO of a unit, or is dropped (R167). -/
def State.gStampIn (s : State) (u stamp : Nat) : State :=
  if 16 ≤ (s.gauge u).fifo.length then s.bump (R.KRF_GOVF_OVFCNT u) 1
  else
    let s1 := s.setGauge u (fun g => { g with fifo := g.fifo ++ [s.edgeTime stamp] })
    s1.wr (R.KRF_GSTAT_FIFO u) (s1.gauge u).fifo.length

/-- An edge as one unit takes it (R164). -/
def State.gaugeUnit (s : State) (u g : Nat) (rising : Bool) (stamp : Nat) : State :=
  let x := s.gauge u
  let m := s.gMode u
  let start := s.gStart u g rising
  if m = 4 then (if start then s.gStampIn u stamp else s)
  else if m = 0 || !x.armed || decide (s.gN u ≤ x.n) then s
  else
    match x.start with
    | none => if start then s.setGauge u (fun g => { g with start := some stamp }) else s
    | some t =>
      if m = 2 then (if start then s.measured u (gaugeSub stamp t) (some stamp) else s)
      else if s.gStop u g rising then s.measured u (gaugeSub stamp t) none
      else s

/-- GAUGE_EDGE (R163, R164): an edge in the dead time of its input is ignored and counted; else every unit that uses it takes
it. -/
def execGaugeEdge (g : Fin 8) (rising : Bool) (coarse : BitVec 48) (fine : BitVec 5) (s : State) :
    Host.Outcome State Fault Refusal :=
  let g := g.val
  let stamp := 32 * coarse.toNat + fine.toNat
  let dead := match s.krf.gLast.find? (fun p => p.1 == g) with
    | some p => decide (gaugeSub stamp p.2 < 256)
    | none => false
  if dead then
    ((List.range 8).foldl (fun t u => if t.gUses u g then t.bump (R.KRF_GOVF_DEADCNT u) 1 else t) s).done
  else
    let s1 : State := { s with krf := { s.krf with gLast := mapIns (mapErase s.krf.gLast g) g stamp } }
    ((List.range 8).foldl (fun t u => t.gaugeUnit u g rising stamp) s1).done

/-- GAUGE_OVERFLOW (R165): a measurement that reaches 2^32 coarse periods ends and is left out. -/
def execGaugeOverflow (u : Fin 8) (s : State) : Host.Outcome State Fault Refusal :=
  let u := u.val
  if (s.gauge u).start.isSome && (s.gauge u).armed then
    let s1 := (s.setGauge u (fun g => { g with start := none })).wr (R.KRF_GSTAT_OVF u) 1
    ((s1.bump (R.KRF_GOVF_OVFCNT u) 1).fault R.KRF_INTSTAT_GAUGEOVF 1 u).done
  else s.done

/-- The mean in 2^-8 LSB (R166). -/
def Gauge.mean (g : Gauge) : Nat := (2 * 256 * g.sumX + g.n) / (2 * max 1 g.n)

/-- The population deviation in 2^-8 LSB (R166): sqrt(n * sum of squares - square of the sum) / n, to nearest. -/
def Gauge.sdev (g : Gauge) : Nat :=
  (isqrt (262144 * (g.n * g.sumXX - g.sumX * g.sumX)) + g.n) / (2 * max 1 g.n)

/-- The statistics of a run are latched; without a measurement every one reads 0 (R166). -/
def State.latchStats (s : State) (u : Nat) : State :=
  let g := s.gauge u
  let v (x : Nat) : Nat := if g.n = 0 then 0 else x
  (((s.wrPair (R.KRF_GMEANLO_MEAN u) (R.KRF_GMEANHI_MEAN u) (v g.mean)).wrPair
    (R.KRF_GSDEVLO_SDEV u) (R.KRF_GSDEVHI_SDEV u) (v g.sdev)).wrPair
    (R.KRF_GMINLO_MIN u) (R.KRF_GMINHI_MIN u) (v g.minX)).wrPair (R.KRF_GMAXLO_MAX u) (R.KRF_GMAXHI_MAX u) (v g.maxX)

/-- A run starts at n = 0 (R166). -/
def State.gaugeRun (s : State) (u : Nat) : State :=
  ((s.setGauge u (fun g => { Gauge.zero with armed := true, fifo := g.fifo, last := g.last })).wr (R.KRF_GSTAT_BUSY u) 1).wr
    (R.KRF_GSTAT_CNT u) 0

/-- GAUGEDONE (R166): after N measurements the statistics are latched; with CONT the unit re-arms at once. -/
def execGaugedone (u : Fin 8) (s : State) : Host.Outcome State Fault Refusal :=
  let u := u.val
  if (s.gauge u).armed && decide (s.gN u ≤ (s.gauge u).n) then
    let s1 := (((s.latchStats u).wr (R.KRF_GSTAT_DONE u) 1).wr (R.KRF_GSTAT_BUSY u) 0).flag R.KRF_INTSTAT_GAUGEDONE
    (if s.on (R.KRF_GCFG_CONT u) then s1.gaugeRun u else s1.setGauge u (fun g => { g with armed := false, start := none })).done
  else s.done

/-- GAUGE_ARM (R166): a run starts, or starts again. -/
def execGaugeArm (u : Fin 8) (s : State) : Host.Outcome State Fault Refusal :=
  let m := s.gMode u.val
  if m = 0 || m = 4 then s.done else ((s.gaugeRun u.val).wr (R.KRF_GSTAT_DONE u.val) 0).done

/-- GAUGE_ABORT (R166): the unit stops and latches what it has; DONE is left at 0. -/
def execGaugeAbort (u : Fin 8) (s : State) : Host.Outcome State Fault Refusal :=
  let u := u.val
  if (s.gauge u).armed then
    (((((s.latchStats u).wr (R.KRF_GSTAT_DONE u) 0).wr (R.KRF_GSTAT_BUSY u) 0)).setGauge u (fun g =>
      { g with armed := false, start := none })).done
  else s.done

/-- The oldest timestamp is popped into KRF_GTSLO, and its upper word is held for KRF_GTSHI; an empty FIFO reads 0 (R167). -/
def State.gtsPop (s : State) (u : Nat) : State :=
  match (s.gauge u).fifo with
  | [] => s.wrPair (R.KRF_GTSLO_TS u) (R.KRF_GTSHI_TS u) 0
  | t :: r =>
    ((s.setGauge u (fun g => { g with fifo := r })).wr (R.KRF_GSTAT_FIFO u) r.length).wrPair (R.KRF_GTSLO_TS u) (R.KRF_GTSHI_TS u) t

/-- KRF_GTSLO_READ (R167): a read of KRF_GTSLO. -/
def execKrfGtsloRead (u : Fin 8) (s : State) : Host.Outcome State Fault Refusal :=
  let s1 := s.gtsPop u.val
  (s1.emit (.regRead ((R.KRF_GTSLO_TS u.val).key / 8) (s1.rd (R.KRF_GTSLO_TS u.val)))).done

end Sys2Proof.Machine
end

