-- ==== Sys2Proof/Machine/Purlin.lean ====
section
/-!
DEFINITION. Bulk channels, wedged objects and the PCIe link (R59, R373, R374, R391, R396 to R404, R457).
-/
namespace Sys2Proof.Machine

/-! ### Bulk channels (R398) -/

/-- A channel with nothing posted. -/
def BulkChan.zero : BulkChan :=
  { pi := 0, descs := [], written := 0, armed := false, stopDue := false, owed := [], unread := none }

/-- The record of a channel, by its number. -/
def State.bulk (s : State) (c : Nat) : BulkChan := mapGet .zero s.hif.bulk c

/-- A change of it. -/
def State.setBulk (s : State) (c : Nat) (f : BulkChan → BulkChan) : State :=
  s.onHif (fun h => { h with bulk := mapSet .zero h.bulk c (f (mapGet .zero h.bulk c)) })

/-- A descriptor from its 32 bytes. -/
def Desc.parse (e : BitVec 256) : Desc :=
  let b := leBytes 32 e.toNat
  let len := fieldAt b 16 4
  { host := fieldAt b 0 8, loc := fieldAt b 8 8, len := len, op := fieldAt b 20 1, irq := e.getLsbD 169, id := fieldAt b 22 2
    bad := bits e.toNat 170 6 != 0 || fieldAt b 24 8 != 0 || len == 0 || decide (16777216 < len) }

/-- A descriptor's bad fields in the channel's mode. -/
def Desc.wrongFor (d : Desc) (sink : Bool) : Bool :=
  d.bad || (if sink then d.host % 64 != 0 else decide (1 < d.op) || decide (2 ^ 40 ≤ d.loc))

/-- The channel is open to doorbells: it runs, or has been set up and stopped (R374, R399). -/
def State.bulkOpen (s : State) (c : Nat) : Bool := s.on (R.PUR_CHCFG_RUN c) || s.rd (R.PUR_CHSTAT_STATE c) != 0

/-- Descriptors are fetched while their phase is the expected one (R376, R398). -/
def State.fetchDescs (s : State) (c : Nat) : Nat → List (BitVec 256) → State
  | 0, _ => s
  | n + 1, es =>
    let i := s.rd (R.PUR_CHSTAT_HEAD c) + (s.bulk c).descs.length
    match es with
    | e :: rest =>
      if bits e.toNat 168 1 = passBit i (s.rd (R.PUR_CHCFG_DLOG2 c)) then
        (s.setBulk c (fun x => { x with descs := x.descs ++ [Desc.parse e] })).fetchDescs c n rest
      else s.bump R.HIF_CMDEARLY_CNT 1
    | [] => s.bump R.HIF_CMDEARLY_CNT 1

/-- The descriptors up to PI, `n` of them, are fetched, or left until requests may be issued (R373, R376). -/
def State.bulkFetch (s : State) (c n : Nat) (descs : List (BitVec 256)) : State :=
  if s.dmaOn then (s.setBulk c (fun x => { x with unread := none })).fetchDescs c n descs
  else s.setBulk c (fun x => { x with unread := if n = 0 then none else some (n, descs) })

/-- A whole doorbell of an open channel. -/
def State.bulkBell (s : State) (c v : Nat) (descs : List (BitVec 256)) : State :=
  let x := s.bulk c
  let n := (bits v 0 16 + (2 ^ 17 - (s.rd (R.PUR_CHSTAT_HEAD c) + x.descs.length % 2 ^ 16))) % 2 ^ 16
  if 2 ^ s.rd (R.PUR_CHCFG_DLOG2 c) < x.descs.length + n then s.dbBad
  else
    (s.setBulk c (fun x => { x with pi := bits v 0 16, armed := x.armed || v.testBit 16 })).bulkFetch c n descs

/-- BULK_DOORBELL (R374): a write at BAR2 offset 0x9000 + 8 * slot. -/
def execBulkDoorbell (slot : BitVec 12) (whole : Bool) (v : BitVec 64) (descs : List (BitVec 256)) (s : State) :
    Host.Outcome State Fault Refusal :=
  let c := 32 + slot.toNat
  if !s.barOn then s.done
  else if !whole || decide (63 ≤ c) || v.toNat / 2 ^ 17 != 0 then s.dbBad.done
  else if !s.bulkOpen c then s.dbBad.done
  else (s.bulkBell c v.toNat descs).done

/-! ### Completion of descriptors (R398, R401) -/

/-- The 16 bytes of a completion entry. -/
def bulkCplBytes (id status phase : Nat) (late good : Bool) (residue bytes : Nat) : List Byte :=
  leBytes 2 id ++ leBytes 1 status ++ leBytes 1 (phase + 2 * late.toNat + 4 * good.toNat) ++ leBytes 4 residue ++ leBytes 4 bytes
    ++ leBytes 4 0

/-- A completion entry is written, and the channel's message sent if asked for (R391, R398). -/
def State.writeBulkCpl (s : State) (c id status : Nat) (late : Bool) (residue bytes : Nat) (irq : Bool) : State :=
  let x := s.bulk c
  let lg := s.rd (R.PUR_CHCFG_DLOG2 c)
  let base := s.rd (R.PUR_CQBASELO_ADDR c) + 2 ^ 32 * s.rd (R.PUR_CQBASEHI_ADDR c)
  let s1 := (s.hostWrite (base + 16 * (x.written % 2 ^ lg))
    (bulkCplBytes id status (passBit x.written lg) late (status == 0 && !late) residue bytes)).setBulk c
      (fun x => { x with written := x.written + 1 })
  if (irq || x.armed) && s.on (R.PUR_CHCFG_VECEN c) then
    (s1.setBulk c (fun x => { x with armed := false })).msix (s.rd (R.PUR_CHCFG_VECTOR c))
  else s1

/-- A descriptor ended without GOOD is counted and flagged (R401, R402). -/
def State.bulkBad (s : State) (c status : Nat) (late : Bool) : State :=
  let s1 := (s.bump (R.PUR_CHERR_ERRS c) 1).fault R.PUR_INTSTAT_DESCERR 1 c
  let s2 := s1.when late (fun t => (t.bump (R.PUR_CHERR_LATE c) 1).fault R.PUR_INTSTAT_LATEERR 1 c)
  s2.when (status == 3) (·.fault R.PUR_INTSTAT_ACCESS 1 c)

/-- The front descriptor leaves the channel; a stop that waited for it takes effect (R399). -/
def State.popDesc (s : State) (c : Nat) : State :=
  let due := (s.bulk c).stopDue
  let s1 := (s.setBulk c (fun x => { x with descs := x.descs.drop 1, stopDue := false })).count (R.PUR_CHSTAT_HEAD c) 1
  if due then (s1.wr (R.PUR_CHSTAT_STATE c) 3).flag R.PUR_INTSTAT_STOPPED else s1

/-- The front descriptor completes. -/
def State.endDesc (s : State) (c : Nat) (d : Desc) (status : Nat) (late : Bool) (residue bytes : Nat) : State :=
  let s1 := s.writeBulkCpl c d.id status late residue bytes d.irq
  (s1.when (status != 0 || late) (·.bulkBad c status late)).popDesc c

/-- The bytes from o up to o + n of a transfer to or from a host address, with those of the burst in error replaced by free
ones: a burst is at most 4,096 bytes and crosses no 4 KiB boundary of host address (R397, R401). -/
def brokenBytes (fresh host n : Nat) (data : List Byte) : List Byte :=
  let k := Config.failBurst fresh % ((host % 4096 + n + 4095) / 4096)
  data.mapIdx (fun i b => if (host % 4096 + i) / 4096 = k then Config.freeByte fresh i else b)

/-- Bytes move between HBM and host memory, the first n of a descriptor; `bad` where a burst of them is in error. -/
def State.moveBytes (s : State) (d : Desc) (n : Nat) (bad : Bool) (data : List Byte) : State :=
  let src := if d.op = 0 then s.viewBytes d.loc n else data.take n
  let out := if bad then brokenBytes s.fresh d.host n src else src
  let s1 := s.draw
  if n = 0 then s1 else if d.op = 0 then s1.hostWrite d.host out else s1.hbmStore d.loc out

/-- The course of a COPY descriptor that passes its checks: HBM is read under its ECC, and the error may be Krovent's own
(R401). -/
def State.runCopy (s : State) (c : Nat) (d : Desc) (e : DescEnd) (data : List Byte) : State :=
  let (s1, broken) := if d.op = 0 then s.readSpan d.loc d.len else (s, false)
  let fetched := data.take d.len ++ List.replicate (d.len - data.length) 0
  match e with
  | .done =>
    let s2 := s1.moveBytes d d.len broken fetched
    if broken then s2.endDesc c d 4 true 0 0 else s2.endDesc c d 0 false 0 0
  | .error residue =>
    let r := min residue d.len
    (s1.moveBytes d (d.len - r) true fetched).endDesc c d 4 (r == 0) r 0
  | .late => (s1.moveBytes d d.len true fetched).endDesc c d 4 true 0 0

/-- A COPY descriptor (R398, R402). -/
def State.copyDesc (s : State) (c : Nat) (d : Desc) (e : DescEnd) (data : List Byte) : State :=
  if d.wrongFor false then s.endDesc c d 5 false d.len 0
  else
    match s.girtSpan girtHost d.loc d.len (d.op == 1) with
    | some bad => (s.girtDenyHbm girtHost bad (d.op == 1)).endDesc c d 3 false d.len 0
    | none => s.runCopy c d e data

/-- Dog's oldest entry that has not been delivered, if it is complete. -/
def State.nextEntry (s : State) : Option DogEntry :=
  match s.dog.ring.find? (fun e => !e.sent) with
  | some e => if e.full then some e else none
  | none => none

/-- The entry has been delivered; Dog frees its space when it hears of it (DRAIN_DELIVERY). -/
def State.entrySent (s : State) (e : DogEntry) : State :=
  { s with dog := { s.dog with ring := updateWhere (fun x => x.seq == e.seq) (fun x => { x with sent := true }) s.dog.ring } }

/-- A SINK descriptor: the next buffer for Dog's entry; one shorter than the entry completes at once with BADDESC (R283,
R398). -/
def State.sinkDesc (s : State) (c : Nat) (d : Desc) (e : DescEnd) : State :=
  if d.wrongFor true then s.endDesc c d 5 false d.len 0
  else
    match s.nextEntry with
    | none => s
    | some x =>
      if s.draining && s.rd R.DOG_CTL_DRAINCH = c then
        if d.len < x.size then s.endDesc c d 5 false d.len 0
        else
          let bytes := s.entryBytes x
          match e with
          | .done => ((s.hostWrite d.host bytes).entrySent x).endDesc c d 0 false (d.len - x.size) x.size
          | .late => ((s.hostWrite d.host (brokenBytes s.fresh d.host x.size bytes)).draw).endDesc c d 4 true 0 x.size
          | .error residue =>
            let r := min residue d.len
            let n := min x.size (d.len - r)
            ((s.hostWrite d.host (brokenBytes s.fresh d.host n (bytes.take n))).draw).endDesc c d 4 (r == 0) r n
      else s

/-- A bulk channel may work on its front descriptor. -/
def State.bulkRuns (s : State) (c : Nat) : Bool :=
  s.dmaOn && (s.on (R.PUR_CHCFG_RUN c) || (s.bulk c).stopDue) && !s.on (R.PUR_CHSTAT_WEDGED c) && s.rd (R.PUR_CHCFG_OWNER c) != 2

/-- DESCRIPTOR_COMPLETE (R398, R401). -/
def execDescriptorComplete (c : Fin 32) (e : DescEnd) (data : List Byte) (s : State) : Host.Outcome State Fault Refusal :=
  let c := 32 + c.val
  match (s.bulk c).descs with
  | [] => s.done
  | d :: _ =>
    if !s.bulkRuns c then s.done
    else if s.on (R.PUR_CHCFG_MODE c) then
      if s.rd (R.PUR_CHCFG_OWNER c) = 1 then (s.sinkDesc c d e).done else s.done
    else (s.copyDesc c d e data).done

/-! ### Stop and abort (R399, R400) -/

/-- A channel stops at once. -/
def State.stopNow (s : State) (c : Nat) : State :=
  ((s.wr (R.PUR_CHCFG_RUN c) 0).wr (R.PUR_CHSTAT_STATE c) 3).flag R.PUR_INTSTAT_STOPPED

/-- The descriptor in progress ends with ABORTED after its burst; the data of a host-to-HBM transfer reached HBM as they came. -/
def State.abortDesc (s : State) (c residue : Nat) : State :=
  match (s.bulk c).descs with
  | d :: _ =>
    if s.bulkRuns c && !s.on (R.PUR_CHCFG_MODE c) && !d.wrongFor false then
      let r := min residue d.len
      let n := d.len - r
      let came := (List.range n).map (Config.freeByte s.fresh)
      (((s.draw).moveBytes d n false came).endDesc c d 2 false r 0).stopNow c
    else s.stopNow c
  | [] => s.stopNow c

/-- ABORT (R399): refused on a stream channel, on channel 63 and on a channel that Dog owns. -/
def execAbort (c : Fin 64) (residue : Nat) (s : State) : Host.Outcome State Fault Refusal :=
  if !s.barOn then s.done
  else if c.val < 32 || s.rd (R.PUR_CHCFG_OWNER c.val) != 0 then (s.refuse R.PUR_INTSTAT_BADCFG).done
  else (s.abortDesc c.val residue).done

/-- RUN_CLEAR (R399): `busy` while a group or a descriptor is in progress. -/
def execRunClear (c : Fin 64) (busy : Bool) (s : State) : Host.Outcome State Fault Refusal :=
  let c := c.val
  if !s.barOn then s.done
  else if c = 63 then (s.refuse R.PUR_INTSTAT_BADCFG).done
  else if !s.on (R.PUR_CHCFG_RUN c) then s.done
  else if busy then
    let s1 := (s.wr (R.PUR_CHCFG_RUN c) 0).wr (R.PUR_CHSTAT_STATE c) 2
    (s1.when (decide (32 ≤ c)) (·.setBulk c (fun x => { x with stopDue := true }))).done
  else (s.stopNow c).done

/-! ### Wedged objects (R404) -/

/-- WEDGE (R404): an object that works is marked; a close that waits on it completes with WEDGED. -/
def execWedge (o : WedgeObject) (s : State) : Host.Outcome State Fault Refusal :=
  match o with
  | .queue q =>
    if s.qState q.val != 1 then s.done
    else
      let s1 := (s.wr (R.HIF_QSTATE_STATE q.val) 3).fault R.HIF_INTSTAT_WEDGE 3 q.val
      match (s.queue q.val).bind (·.closing) with
      | some r => ((s1.onHif (fun h => { h with queues := mapErase h.queues q.val })).completeHeld r stWedged 0).done
      | none => s1.done
  | .ring r =>
    if s.on (R.HIF_CRCFG_EN r.val) && !s.on (R.HIF_CRSTAT_WEDGED r.val) then
      ((s.wr (R.HIF_CRSTAT_WEDGED r.val) 1).fault R.HIF_INTSTAT_WEDGE 3 r.val).done
    else s.done
  | .channel c =>
    let c := 32 + c.val
    if s.on (R.PUR_CHCFG_RUN c) && !s.on (R.PUR_CHSTAT_WEDGED c) then
      ((s.wr (R.PUR_CHSTAT_WEDGED c) 1).fault R.HIF_INTSTAT_WEDGE 3 c).done
    else s.done

/-! ### The link (R54, R373) -/

/-- Every open queue becomes SUSPENDED (R373, R393). -/
def State.suspendQueues (s : State) : State :=
  let opens := (s.hif.queues.map (·.1)).filter (fun q => s.qState q == 1)
  let s1 := s.onHif (fun h => { h with queues := h.queues.map (fun p => if opens.contains p.1 then (p.1, p.2.suspend) else p) })
  let s2 := opens.foldl (fun t q => t.wr (R.HIF_QSTATE_STATE q) 2) s1
  if opens.isEmpty then s2 else s2.flag R.HIF_INTSTAT_QSUSP

/-- The function's configuration state is reset. -/
def State.resetConfig (s : State) : State :=
  ((s.onHif (fun h => { h with msixOn := false, funcMask := false, memOn := false, busOn := false, d3 := false
                               mps := 0, mrrs := 2, rangeB := false, tags10 := false })).wr R.HIF_STATUS_BME 0).wr R.HIF_STATUS_D3 0


/-- LINK_UP (R373): with speed codes 1 to 5 and widths of 2^code lanes. -/
def execLinkUp (speed : BitVec 3) (width : BitVec 3) (s : State) : Host.Outcome State Fault Refusal :=
  if s.boot.perstHi && s.boot.powered && !s.boot.pornLow && s.rd R.HIF_STATUS_SPEED == 0
      && decide (1 ≤ speed.toNat) && decide (speed.toNat ≤ 5) && decide (width.toNat ≤ 4) then
    (((s.wr R.HIF_STATUS_SPEED speed.toNat).wr R.HIF_STATUS_WIDTH (2 ^ width.toNat)).flag R.HIF_INTSTAT_LINKUP).done
  else s.done

/-- The descriptor in progress on a channel ends with DMAERR; its completion waits until requests may be issued (R373,
R401). -/
def State.cutDesc (s : State) (c residue : Nat) : State :=
  match (s.bulk c).descs with
  | [] => s
  | d :: _ =>
    if s.bulkRuns c then
      let sink := s.on (R.PUR_CHCFG_MODE c)
      let r := min residue d.len
      let n := d.len - r
      let came := if sink then (match s.nextEntry with | some e => (s.entryBytes e).take n | none => [])
        else (List.range n).map (Config.freeByte s.fresh)
      let s1 := if sink then (s.draw).hostWrite d.host (brokenBytes s.fresh d.host n came) else (s.draw).moveBytes d n true came
      let s2 := s1.setBulk c (fun x => { x with owed := x.owed ++ [(d.id, r, if sink then came.length else 0, d.irq)] })
      (s2.bulkBad c 4 (r == 0)).popDesc c
    else s

/-- BUS_MASTER_DISABLE (R373): Purlin stops at once. -/
def execBusMasterDisable (d3 : Bool) (residues : List (Fin 32 × Nat)) (s : State) : Host.Outcome State Fault Refusal :=
  if !s.partUp then s.done
  else
    let s1 := residues.foldl (fun t p => t.cutDesc (32 + p.1.val) p.2) s
    if d3 then ((s1.onHif (fun h => { h with d3 := true })).wr R.HIF_STATUS_D3 1).done
    else ((s1.onHif (fun h => { h with busOn := false })).wr R.HIF_STATUS_BME 0).done

/-- Completions that waited for bus mastering are written. -/
def State.payOwed (s : State) (c : Nat) : State :=
  let l := (s.bulk c).owed
  l.foldl (fun t o => t.writeBulkCpl c o.1 4 (o.2.1 == 0) o.2.1 o.2.2.1 o.2.2.2) (s.setBulk c (fun x => { x with owed := [] }))

/-- Pending messages whose vector is no longer masked are sent (R391). -/
def State.flushMsix (s : State) : State :=
  (List.range 2048).foldl (fun t v => if t.on (R.MSIX_PENDING v) then (t.wr (R.MSIX_PENDING v) 0).msix v else t) s

/-- Requests may be issued again: completions and messages that waited go out, and what doorbells have announced is fetched. -/
def State.resumeDma (s : State) : State :=
  if s.dmaOn then
    let s1 := (List.range 31).foldl (fun t i => t.payOwed (32 + i)) s
    let s2 := (List.range 31).foldl (fun t i =>
      match (t.bulk (32 + i)).unread with | some (n, l) => t.bulkFetch (32 + i) n l | none => t) s1
    let s3 := (List.range 16).foldl (fun t r =>
      match (t.cmdRing r).unread with | some (n, l) => t.ringFetch r n l | none => t) s2
    s3.flushMsix
  else s

/-- What runs on every bulk channel is cut off when a configuration write takes Bus Master Enable or D0 away (R373). -/
def State.cutAll (s : State) (stop : Bool) : State :=
  if stop && s.dmaOn then (List.range 31).foldl (fun t i => (t.draw).cutDesc (32 + i) (Config.cutResidue t.fresh)) s else s

/-- The link goes down (R54, R373). -/
def State.pcieDown (s : State) : State :=
  if s.rd R.HIF_STATUS_SPEED = 0 then s
  else
    let s1 := ((((s.cutAll true).resetConfig).suspendQueues).wr R.HIF_STATUS_SPEED 0).wr R.HIF_STATUS_WIDTH 0
    s1.fault R.HIF_INTSTAT_LINKDOWN 3 0

/-- LINK_DOWN (R54, R373). -/
def execLinkDown (s : State) : Host.Outcome State Fault Refusal := s.pcieDown.done

/-- The widest width that excludes the lanes removed, no wider than before: lanes from 0 upwards, or with the lanes reversed from 15
downwards (R370, R457). -/
def widthWithout (out w : Nat) : Option Nat :=
  [16, 8, 4, 2, 1].find? (fun k => decide (k ≤ w) &&
    ((List.range k).all (fun j => !out.testBit j) || (List.range k).all (fun j => !out.testBit (15 - j))))

/-- A lane is removed and the link retrains to the widest width that excludes it; a link that no width leaves goes down (R457). -/
def State.laneRemove (s : State) (lane : Nat) (inj : Bool) : State :=
  let out := putBit (s.rd R.FLT_PCIE_LANEOUT) lane true
  let s1 := (s.wr R.FLT_PCIE_LANEOUT out).flag R.FLT_INTSTAT_LANEOUT
  let s2 := if inj then s1.reportInj 0x23 1 2 lane else s1.reportFree 0x23 1 2 lane
  match widthWithout out (s.rd R.HIF_STATUS_WIDTH) with
  | some k => s2.wr R.HIF_STATUS_WIDTH k
  | none => s2.pcieDown

/-- A dword of configuration space (R370): Vendor and Device ID, Revision ID and Class code; the others hold what the Base
Specification and the root complex put there. -/
def State.cfgRead (s : State) (n : Nat) : Word :=
  if n = 0 then BitVec.ofNat 32 (s.rd R.HIF_PCIID_VID + 65536 * s.rd R.HIF_PCIID_DID)
  else if n = 2 then BitVec.ofNat 32 (s.rd R.GLB_REV_STEP + 256 * 0x118000)
  else Config.cfgWord n

/-- CONFIGURATION_REQUEST (R59, R373). -/
def execConfigurationRequest (c : ConfigRequest) (s : State) : Host.Outcome State Fault Refusal :=
  if s.rd R.HIF_STATUS_SPEED = 0 then s.done
  else if !s.partUp then (s.emit .cfgRetry).done
  else
    let s1 := s.emit .cfgOk
    match c with
    | .read n => (s.emit (.cfgData n.toNat (s.cfgRead n.toNat))).done
    | .command memory busMaster =>
      ((((s1.cutAll (!busMaster)).onHif (fun h => { h with memOn := memory, busOn := busMaster })).wrB R.HIF_STATUS_BME
        busMaster).resumeDma).done
    | .power d3hot =>
      ((((s1.cutAll d3hot).onHif (fun h => { h with d3 := d3hot })).wrB R.HIF_STATUS_D3 d3hot).resumeDma).done
    | .msix enable mask => ((s1.onHif (fun h => { h with msixOn := enable, funcMask := mask })).flushMsix).done
    | .control payload readRequest => (s1.onHif (fun h => { h with mps := payload, mrrs := readRequest })).done
    | .control2 rangeB tags10 => (s1.onHif (fun h => { h with rangeB := rangeB, tags10 := tags10 })).done

/-- PCIE_LANE_REMOVE (R457): of a link that is up, a lane not removed before. -/
def execPcieLaneRemove (lane : Fin 16) (s : State) : Host.Outcome State Fault Refusal :=
  if s.rd R.HIF_STATUS_SPEED = 0 || (s.rd R.FLT_PCIE_LANEOUT).testBit lane.val then s.done
  else (s.laneRemove lane.val false).done

/-! ### Lath (R403) -/

/-- A read that has been dropped before, by its object and token; it is noted otherwise. -/
def State.droppedAgain (s : State) (obj token : Nat) : Bool × State :=
  if mapGet 0 s.hif.redone obj = token then (true, s.onHif (fun h => { h with redone := mapErase h.redone obj }))
  else (false, s.onHif (fun h => { h with redone := mapSet 0 h.redone obj token }))

/-- A dropped packet is counted, flagged and logged; an injected word is the next inbound one (R403, R467). -/
def State.dropPacket (s : State) (inbound : Bool) : State :=
  let inj := inbound && s.flt.injLath
  ((s.bump R.HIF_LATHDROP_CNT 1).faultInj R.HIF_INTSTAT_LATHDROP 1 0 inj).when inj (·.onFlt (fun f => { f with injLath := false }))

/-- LATH_DROP (R403). -/
def execLathDrop (p : LathPacket) (s : State) : Host.Outcome State Fault Refusal :=
  match p with
  | .inboundWrite => (s.dropPacket true).done
  | .inboundRead => ((s.dropPacket true).emit .abort).done
  | .outboundWrite => (s.dropPacket false).done
  | .outboundRead => (s.dropPacket false).done
  | .corrected => (s.bump R.HIF_LATHCOR_CNT 1).done
  | .commandFetch r =>
    let s1 := s.dropPacket true
    match (s.cmdRing r.val).fetched with
    | [] => s1.done
    | e :: _ =>
      let (again, s2) := s1.droppedAgain r.val (cmdCid e)
      if again && s.ringRuns r.val && !s.ringHeld r.val then (s2.complete r.val e stDmaErr (failRes e)).done else s2.done
  | .descriptorFetch c residue =>
    let c := 32 + c.val
    let s1 := s.dropPacket true
    match (s.bulk c).descs with
    | [] => s1.done
    | d :: _ =>
      let (again, s2) := s1.droppedAgain (64 + c) ((s.bulk c).written + 1)
      if again && s.bulkRuns c && !s.on (R.PUR_CHCFG_MODE c) && !d.wrongFor false then
        let n := d.len - min residue d.len
        let came := (List.range n).map (Config.freeByte s.fresh)
        (((s2.draw).moveBytes d n true came).endDesc c d 4 (decide (d.len ≤ n)) (d.len - n) 0).done
      else s2.done

end Sys2Proof.Machine
end

