-- ==== Sys2Proof/Machine/Inject.lean ====
section
/-!
DEFINITION. Test injection (R467): what a write of FLT_INJ.GO does, by kind.
-/
namespace Sys2Proof.Machine

/-- The HBM word that FLT_INJADDR names, if it is one. -/
def State.injWord (s : State) : Option Nat :=
  let a := s.rd R.FLT_INJADDRLO_ADDR + 2 ^ 32 * s.rd R.FLT_INJADDRHI_ADDR
  if a < hbmSize then some (a / 32) else none

/-- A kind and unit that is refused (R467). A UNIT beyond those that a kind names is refused as well (DEDUCED, log 165). -/
def State.injRefused (s : State) (kind unit : Nat) : Bool :=
  match kind with
  | 0 | 9 => false
  | 1 | 2 => s.injWord.isNone
  | 3 => decide (1056 ≤ unit) || !(s.engine unit).inService
  | 4 => decide (33 ≤ unit) || s.jst.subFor.isSome
  | 5 => decide (1056 ≤ unit)
  | 6 => !s.on (pllLock (!s.on R.CLK_STATUS_PLLSEL))
  | 7 => !s.standbyUp
  | 8 => decide (16 ≤ unit) || decide (s.rd R.HIF_STATUS_WIDTH < 2)
  | 10 => decide (16 ≤ unit) || !s.ringPairUp (partnerPair unit)
  | _ => true

/-- The next write to FLT_INJADDR leaves wrong symbols. -/
def State.injectHbm (s : State) (symbols : Nat) : State :=
  match s.injWord with
  | some w => s.onFlt (fun f => { f with injWords := mapSet 0 f.injWords w symbols })
  | none => s

/-- A TDC is declared failed, as by KRF_CHCFG.TDCFAIL; UNIT 1,024 + g is the spare of group g. -/
def State.injectTdc (s : State) (u : Nat) : State :=
  if u < 1024 then
    if s.on (R.KRF_CHSTAT_TDCFAIL u) then s.flag R.FLT_INTSTAT_INJDONE else s.tdcFailed u true
  else (s.spareFailed (u - 1024)).reportInj 3 0xFF 2 u

/-- Ring pair p sends IDLE only for 1 s. -/
def State.injectIdle (s : State) (p : Nat) : State :=
  s.onFlt (fun f => { f with injIdle := if f.injIdle.contains p then f.injIdle else p :: f.injIdle
                             idleTill := mapSet 0 f.idleTill p (s.clk.ticks + 200000000) })

/-- The fault of a kind. -/
def State.injectAct (s : State) (kind unit : Nat) : State :=
  match kind with
  | 1 => s.injectHbm 1
  | 2 => s.injectHbm 2
  | 3 => s.onFlt (fun f => { f with injEngines := if f.injEngines.contains unit then f.injEngines else unit :: f.injEngines })
  | 4 => s.clusterFault unit true
  | 5 => s.injectTdc unit
  | 6 => s.pllLoss true
  | 7 => s.onFlt (fun f => { f with injHeart := true })
  | 8 => s.laneRemove unit true
  | 9 => s.onFlt (fun f => { f with injLath := true })
  | 10 => s.injectIdle unit
  | _ => s

/-- A GO write of FLT_INJ: outside the key window it is a refused RWK write; a refused GO sets BADCFG, injects nothing and leaves the
register (R467, R470). -/
def State.goInject (s : State) (kind unit : Nat) : State :=
  if !s.on R.TRS_STATE_KEYOPEN then s.rwkReject 0x5000C0
  else if s.on R.FLT_CTL_INJLOCK || s.injRefused kind unit then s.refuse R.FLT_INTSTAT_BADCFG
  else (((s.wr R.FLT_INJ_KIND kind).wr R.FLT_INJ_UNIT unit).rwkNote false).injectAct kind unit

/-- INJECT_SYMBOL_ERROR (R467): UNIT stays as it stands. -/
def execInjectSymbolError (s : State) : Host.Outcome State Fault Refusal := (s.goInject 1 (s.rd R.FLT_INJ_UNIT)).done

/-- INJECT_TWO_SYMBOL_ERROR (R467). -/
def execInjectTwoSymbolError (s : State) : Host.Outcome State Fault Refusal := (s.goInject 2 (s.rd R.FLT_INJ_UNIT)).done

/-- INJECT_ENGINE_FAULT (R467): refused for an engine out of service. -/
def execInjectEngineFault (unit : BitVec 11) (s : State) : Host.Outcome State Fault Refusal := (s.goInject 3 unit.toNat).done

/-- INJECT_CLUSTER_FAULT (R467): refused while the spare substitutes. -/
def execInjectClusterFault (unit : BitVec 11) (s : State) : Host.Outcome State Fault Refusal := (s.goInject 4 unit.toNat).done

/-- INJECT_TDC_FAIL (R467). -/
def execInjectTdcFail (unit : BitVec 11) (s : State) : Host.Outcome State Fault Refusal := (s.goInject 5 unit.toNat).done

/-- INJECT_PLL_LOSS (R467): refused without a locked standby. -/
def execInjectPllLoss (s : State) : Host.Outcome State Fault Refusal := (s.goInject 6 (s.rd R.FLT_INJ_UNIT)).done

/-- INJECT_HEARTBEAT_STOP (R467): refused without a standby; MGMT_TAKEOVER follows 300 us later. -/
def execInjectHeartbeatStop (s : State) : Host.Outcome State Fault Refusal := (s.goInject 7 (s.rd R.FLT_INJ_UNIT)).done

/-- INJECT_LANE_ERRORS (R467): 65 errors take the lane out under R457; refused on a link narrower than x2. -/
def execInjectLaneErrors (unit : BitVec 11) (s : State) : Host.Outcome State Fault Refusal := (s.goInject 8 unit.toNat).done

/-- INJECT_LATH_ERROR (R467): the next inbound host-path packet gets an uncorrectable Lath word. -/
def execInjectLathError (s : State) : Host.Outcome State Fault Refusal := (s.goInject 9 (s.rd R.FLT_INJ_UNIT)).done

/-- INJECT_RING_IDLE (R467): the direction sends IDLE only for 1 s; refused while its partner direction is down. -/
def execInjectRingIdle (unit : BitVec 11) (s : State) : Host.Outcome State Fault Refusal := (s.goInject 10 unit.toNat).done

end Sys2Proof.Machine
end

