-- ==== Sys2Proof/Machine/RegWrites.lean ====
section
/-!
DEFINITION. A write of one register (R12, R292, R293, R474 to R479): which writes a block refuses, and what a write does beside
storing its fields. A field that a command of its own writes has that command's effect.
-/
namespace Sys2Proof.Machine

/-! ### Blocks and refusals (R473, R477) -/

/-- The index of the block that an offset belongs to; none behind the last (R473). -/
def blockOf (off : Nat) : Option Nat :=
  if off < 0x10000 then some 0
  else if off < 0x20000 then some 1
  else if off < 0x40000 then some 2
  else if off < 0x80000 then some 3
  else if off < 0xC0000 then some 4
  else if off < 0x100000 then some 5
  else if off < 0x180000 then some 6
  else if off < 0x540000 then some (7 + (off - 0x180000) / 0x40000)
  else none

/-- The BADCFG flag of a block; GLB, CLK, TRS and FWU have none. -/
def badCfg : Nat → Option Fld
  | 2 => some R.THM_INTSTAT_BADCFG
  | 3 => some R.KRF_INTSTAT_BADCFG
  | 4 => some R.PEG_INTSTAT_BADCFG
  | 5 => some R.MRT_INTSTAT_BADCFG
  | 6 => some R.JST_INTSTAT_BADCFG
  | 7 => some R.JNL_INTSTAT_BADCFG
  | 8 => some R.LBK_INTSTAT_BADCFG
  | 9 => some R.BTN_INTSTAT_BADCFG
  | 10 => some R.TNN_INTSTAT_BADCFG
  | 12 => some R.WFP_INTSTAT_BADCFG
  | 13 => some R.DOG_INTSTAT_BADCFG
  | 14 => some R.SIL_INTSTAT_BADCFG
  | 15 => some R.PLB_INTSTAT_BADCFG
  | 16 => some R.HIF_INTSTAT_BADCFG
  | 17 => some R.PUR_INTSTAT_BADCFG
  | 18 => some R.DWL_INTSTAT_BADCFG
  | 20 => some R.GRT_INTSTAT_BADCFG
  | 21 => some R.FLT_INTSTAT_BADCFG
  | _ => none

/-- A write that a block refuses: its BADCFG, or the record of R477 in a block without one. -/
def State.refuseAt (s : State) (off : Nat) : State :=
  match (blockOf off).bind badCfg with
  | some f => s.refuse f
  | none => s.badEncoding off

/-- The state that a command's meaning answers. -/
def State.took (s : State) (o : Host.Outcome State Fault Refusal) : State :=
  match o with
  | .next t => t
  | _ => s

/-- The place of an offset in a family of registers, if it is one of them. -/
def place (base stride count off : Nat) : Option Nat :=
  if base ≤ off && (off - base) % stride == 0 && decide ((off - base) / stride < count) then some ((off - base) / stride) else none

/-! ### Banks in force (R81, R266, R271, R332) -/

/-- The BANKWR flag, where the offset lies in an active bank. -/
def State.activeWrite (s : State) (off : Nat) : Option Fld :=
  if 0x241000 ≤ off && off < 0x243000 then
    if (off - 0x241000) / 0x1000 = s.spBank then some R.TNN_INTSTAT_BANKWR else none
  else if 0x244000 ≤ off && off < 0x248000 then
    if (off - 0x244000) / 0x2000 = s.tlBank then some R.TNN_INTSTAT_BANKWR else none
  else if 0x2C1000 ≤ off && off < 0x2C1200 then
    if (off - 0x2C1000) / 0x100 = s.rd R.WFP_CTL_CORBANK then some R.WFP_INTSTAT_BANKWR else none
  else if 0x2C4000 ≤ off && off < 0x2D4000 then
    let i := (off - 0x2C4000) / 512
    if s.activeBank (i / 4) (i / 2 % 2 == 1) = i then some R.WFP_INTSTAT_BANKWR else none
  else if 0x341000 ≤ off && off < 0x341200 then
    if (off - 0x341000) / 0x100 = s.rd R.SIL_STATUS_ACTBANK then some R.SIL_INTSTAT_BANKWR else none
  else none

/-! ### Which writes a block accepts -/

/-- WARN, THROT and SHUT as they act stay in order (R342). -/
def thrOk (v w t h : Nat) : Bool :=
  decide (min (bits v 0 8) w ≤ min (bits v 8 8) t) && decide (min (bits v 8 8) t ≤ min (bits v 16 8) h)

/-- Peg (R143). -/
def pegOk (off v : Nat) : Bool :=
  if off = 0x80008 then decide (2000000 ≤ bits v 0 28) && decide (bits v 0 28 ≤ 200000000)
  else if off = 0x80018 then decide (bits v 0 4 ≤ 8)
  else true

/-- The reserve and the resumption margin leave half the ring (R243). -/
def State.jnlOk (s : State) (off v : Nat) : Bool :=
  let res := if off = 0x180020 then min (max (bits v 0 28) 4096) (s.jnlCap / 16) else s.jnlReserve
  let rsm := if off = 0x180024 then max (bits v 0 28) 1 else s.jnlResume
  if off = 0x180020 || off = 0x180024 then decide (2 * (res + rsm) ≤ s.jnlCap) else true

/-- Plane (R272, R276, R287). -/
def wfpOk (off v : Nat) : Bool := (place 0x2C0114 64 32 off).isNone || decide (bits v 0 2 < 3)

/-- Dog (R277, R281, R283, R289). -/
def State.dogOk (s : State) (off v : Nat) : Bool :=
  if off = 0x300000 then
    decide (32 ≤ bits v 2 6) && decide (bits v 2 6 ≤ 62)
      && (bits v 1 1 == s.rd R.DOG_CTL_RINGMODE || (List.range 32).all (fun u => !s.on (R.DOG_USTAT_ARMED u)))
  else if off = 0x300008 then
    decide (bits v 0 8 < bits v 8 8) && decide (bits v 8 8 < bits v 16 8) && decide (bits v 16 8 ≤ 99)
  else (place 0x300100 64 32 off).isNone || (decide (bits v 0 3 < 4) && decide (bits v 3 2 < 3))

/-- Sill: REFEN is not cleared while the tilt loop or a calibration needs it (R337). -/
def State.silOk (s : State) (off v : Nat) : Bool :=
  let tl := s.rd R.TNN_STATUS_TLMODE
  off != 0x340000 || v.testBit 1 || !s.on R.SIL_CTL_REFEN || !(tl == 1 || tl == 2 || s.calPending)

/-- The host link (R405): bases are aligned, and bases and LOG2 stand while the ring is enabled. -/
def State.hifOk (s : State) (off v : Nat) : Bool :=
  let base (b : Nat) (low : Bool) : Bool :=
    match place b 32 16 off with
    | some r => !s.on (R.HIF_CRCFG_EN r) && (!low || v % 4096 == 0)
    | none => true
  base 0x3C0100 true && base 0x3C0104 false && base 0x3C0108 true && base 0x3C010C false
    && match place 0x3C0110 32 16 off with
      | some r => decide (4 ≤ bits v 0 4) && decide (bits v 0 4 ≤ 12)
          && (!s.on (R.HIF_CRCFG_EN r) || bits v 0 4 == s.rd (R.HIF_CRCFG_LOG2 r))
      | none => true

/-- A bulk channel may be set up: it does not run and is idle or stopped (R406). -/
def State.bulkIdle (s : State) (c : Nat) : Bool :=
  !s.on (R.PUR_CHCFG_RUN c) && (s.rd (R.PUR_CHSTAT_STATE c) == 0 || s.rd (R.PUR_CHSTAT_STATE c) == 3)

/-- PUR_CHCFG of a bulk channel (R406): channel 63 is the management core's. -/
def State.chcfgOk (s : State) (c v : Nat) : Bool :=
  let same := bits v 0 2 == s.rd (R.PUR_CHCFG_OWNER c) && bits v 2 1 == s.rd (R.PUR_CHCFG_MODE c)
    && bits v 3 4 == s.rd (R.PUR_CHCFG_DLOG2 c)
  if c = 63 then same && bits v 19 1 == s.rd (R.PUR_CHCFG_RUN c)
  else
    decide (bits v 0 2 ≤ 1) && (bits v 0 2 == 0 || v.testBit 2) && decide (4 ≤ bits v 3 4) && decide (bits v 3 4 ≤ 12)
      && (same || s.bulkIdle c)

/-- Purlin (R399, R406). -/
def State.purOk (s : State) (off v : Nat) : Bool :=
  if off < 0x400100 then true
  else
    let c := (off - 0x400100) / 32
    let r := off % 32
    if r = 0 then (if c < 32 then v % 2 ^ 19 == 0 else s.chcfgOk c v)
    else if r = 4 then !v.testBit 0 || (decide (32 ≤ c) && s.rd (R.PUR_CHCFG_OWNER c) == 0)
    else if r = 8 then true
    else if c < 32 then false
    else if r = 0x1C then true
    else c != 63 && s.bulkIdle c && (!(r == 0x0C || r == 0x14) || v % 4096 == 0)

/-- Dowel (R422): the tie index stands while the network is on; TXMAIN is at least 32; ring pairs have no tie counters. -/
def State.dwlOk (s : State) (off v : Nat) : Bool :=
  if off = 0x440008 then !s.on R.DWL_TIECFG_TIEEN || bits v 0 3 == s.rd R.DWL_TIECFG_INDEX
  else if (place 0x440100 32 20 off).isSome then decide (32 ≤ bits v 5 6)
  else (place 0x44010C 32 16 off).isNone

/-- Girt (R450): a window's last unit does not lie below its base. -/
def State.grtOk (s : State) (off v : Nat) : Bool :=
  match place 0x4C0104 8 64 off with
  | some w => decide (s.rd (R.GRT_WINBASE_BASE w) ≤ bits v 0 16)
  | none => true

/-- Truss (R298, R306, R321). -/
def trsOk (off v : Nat) : Bool :=
  if off = 0x280028 then decide (bits v 0 13 ≤ 4096)
  else if off = 0x28002C then v % 64 == 0
  else (place 0x280060 8 8 off).isNone || decide (bits v 0 2 < 3)

/-- The write is one that its block accepts. -/
def State.accepts (s : State) (off v : Nat) : Bool :=
  match blockOf off with
  | some 2 => if off = 0x2000C then thrOk v 95 105 115 else if off = 0x20010 then thrOk v 85 92 100 else true
  | some 3 => (place 0x40800 64 8 off).isNone || decide (bits v 0 3 < 5)
  | some 4 => pegOk off v
  | some 5 => off != 0xC0004 || decide (bits v 16 12 ≤ 1000)
  | some 6 => (place 0x100020 4 8 off).isNone || (List.range 8).all (fun n => bits v (4 * n) 3 != 1)
  | some 7 => s.jnlOk off v
  | some 9 => off != 0x200008 || decide (52 ≤ bits v 0 8)
  | some 11 => trsOk off v
  | some 12 => wfpOk off v
  | some 13 => s.dogOk off v
  | some 14 => s.silOk off v
  | some 16 => s.hifOk off v
  | some 17 => s.purOk off v
  | some 18 => s.dwlOk off v
  | some 20 => s.grtOk off v
  | some 21 => off != 0x5000C4 || v % 32 == 0
  | _ => true

/-! ### RWK fields (R292, R293) -/

/-- Registers whose RWK fields fall under R293. -/
def exposureCfg (off : Nat) : Bool := [0x280014, 0x280018, 0x28001C, 0x280020, 0x280024, 0x280028].contains off

/-- A write of a register with RWK fields: they take it inside a key window, those of R293 in its states alone; a refused write
leaves them, and the other fields take it all the same. -/
def State.rwkWrite (s : State) (d : RegDesc) (off v : Nat) : State :=
  if !s.rwkChanges d off v then s.putReg d off v false
  else if s.on R.TRS_STATE_KEYOPEN && (!exposureCfg off || s.rwkStateOk) then (s.putReg d off v true).rwkNote (exposureCfg off)
  else (s.putReg d off v false).rwkReject off

/-- TRS_CTL (R292, R293, R295, R298): FEPOAS, BUDLOAD and BUDSWAP first, then DARKREQ. -/
def State.trsCtlWrite (s : State) (v : Nat) : State :=
  let key := s.on R.TRS_STATE_KEYOPEN
  let fep := v.testBit 1 != s.on R.TRS_CTL_FEPOAS
  let load := v.testBit 2
  let swap := v.testBit 3
  let bad := (!key && (fep || load || swap)) || (key && !s.rwkStateOk && (fep || swap))
  let s1 := s.when bad (·.rwkReject 0x280004)
  let s2 := s1.when (key && s.rwkStateOk && fep) (fun t => (t.wrB R.TRS_CTL_FEPOAS (v.testBit 1)).rwkNote true)
  let s3 := s2.when (key && load) (fun t => t.took (execBudload t))
  let s4 := s3.when (key && s.rwkStateOk && swap) (fun t => t.took (execBudswap t))
  if v.testBit 0 == s.on R.TRS_CTL_DARKREQ then s4 else s4.darkreqWrite (v.testBit 0)

/-- Truss (R292, R298, R306, R312): outputs and holds follow a new configuration; another absorber direction clears STGOK. -/
def State.trsWrite (s : State) (d : RegDesc) (off v : Nat) : State :=
  if off = 0x280008 then s.keyWrite v
  else if off = 0x280004 then s.trsCtlWrite v
  else
    let s1 := s.rwkWrite d off v
    let s2 := s1.when (s1.rd R.TRS_EXPCFG_ABSDIR != s.rd R.TRS_EXPCFG_ABSDIR) (fun t => t.wr R.TRS_BUDCFG_STGOK 0)
    let s3 := match place 0x280060 8 8 off with
      | some k => s2.inputMode k (s.rd (R.TRS_INCFG_MODE k))
      | none => s2
    if 0x280040 ≤ off && off < 0x2800A0 then s3.trsEval 0 else s3

/-- FLT_INJ (R292, R467): GO is an RWK command bit. -/
def State.injWrite (s : State) (d : RegDesc) (off v : Nat) : State :=
  if v.testBit 16 then s.goInject (bits v 0 5) (bits v 5 11) else s.rwkWrite d off v

/-! ### What a write does, by block -/

/-- Kerf: channels (R146, R157, R160), spares (R159), gauges (R166). -/
def State.krfWrite (s : State) (d : RegDesc) (off v : Nat) : State :=
  match place 0x41000 4 1024 off, place 0x40100 8 32 off, place 0x40800 64 8 off with
  | some ch, _, _ =>
    let inv := v.testBit 2 != s.on (R.KRF_CHCFG_INV ch)
    let s0 := s.when inv (·.setChan ch (fun c => { c with high := !c.high }))
    let s1 := (s0.putReg d off v false).maskEval ch
    let s2 := s1.when (v.testBit 3) (fun t => t.took (execRel (Fin.ofNat 1024 ch) t))
    s2.when (v.testBit 4) (fun t => t.took (execTdcfail (Fin.ofNat 1024 ch) t))
  | none, some g, _ => s.took (execSpareMove (Fin.ofNat 32 g) (BitVec.ofNat 32 v) s)
  | none, none, some u =>
    let s1 := s.putReg d off v false
    let s2 := s1.when (v.testBit 12) (fun t => t.took (execGaugeArm (Fin.ofNat 8 u) t))
    s2.when (v.testBit 13) (fun t => t.took (execGaugeAbort (Fin.ofNat 8 u) t))
  | none, none, none => if off = 0x40008 then (s.bucketsNow).putReg d off v false else s.putReg d off v false

/-- Emitters re-admitted by clearing their fault bits wait for a proof pulse (R117). -/
def State.readmitBits (s : State) (row cleared : Nat) : State :=
  { s with btn := { s.btn with readmit := s.btn.readmit
      ++ (((List.range 32).filter cleared.testBit).map (32 * row + ·)).filter (fun e => !s.btn.readmit.contains e) } }

/-- Batten: rings and the echo check (R103, R121), emitter faults (R117). -/
def State.btnWrite (s : State) (d : RegDesc) (off v : Nat) : State :=
  if off = 0x200000 then
    let s1 := (s.wr R.BTN_CTL_PROOFEN (bits v 8 1)).wr R.BTN_CTL_REFCHK (bits v 9 1)
    let s2 := if bits v 0 8 = s.rd R.BTN_CTL_RINGEN then s1
      else let t := s1.draw; t.took (execRingenWrite (BitVec.ofNat 8 v) (Config.ringFinds s1.fresh) t)
    s2.when (v.testBit 10) (fun t => t.took (execRecal () t))
  else if off = 0x200018 then (List.range 2048).foldl State.autoBlank (s.putReg d off v false)
  else
    match place 0x201000 4 2048 off with
    | some row => (s.putReg d off v false).readmitBits row (s.rd (R.BTN_EMFAIL_FAIL row) &&& v)
    | none => s.putReg d off v false

/-- Tenon: modes and swaps (R74, R81), injection and capture (R83, R84). -/
def State.tnnWrite (s : State) (d : RegDesc) (off v : Nat) : State :=
  if off = 0x240004 then
    (s.requestSp (bits v 0 3)).when (v.testBit 3) (fun t => t.took (execSpindleSwap t))
  else if off = 0x240020 then
    (s.requestTl (bits v 0 3)).when (v.testBit 3) (fun t => t.took (execTiltSwap t))
  else if off = 0x240008 then s.took (execTnnSpcfgWrite (BitVec.ofNat 32 v) s)
  else if off = 0x240034 then
    let s1 := (s.putReg d off v false).when (v.testBit 5) (fun t => t.took (execInjectionStart t))
    s1.when (v.testBit 6) (fun t => t.took (execInjectionStop t))
  else if off = 0x24004C then (s.putReg d off v false).when (v.testBit 19) (fun t => t.took (execCaptureStart t))
  else s.putReg d off v false

/-- WFP_LANE (R276): another history stage follows the rule of HSRC, and a refused write leaves the register. -/
def State.laneWrite (s : State) (d : RegDesc) (l off v : Nat) : State :=
  if bits v 0 2 = s.rd (R.WFP_LANE_HSRC l) then s.putReg d off v false
  else if bits v 0 2 = 3 || s.on (R.DOG_USTAT_ARMED l) then s.refuse R.WFP_INTSTAT_BADCFG
  else
    let t := s.putReg d off v false
    t.took (execHsrcWrite (Fin.ofNat 32 l) (BitVec.ofNat 2 v) t)

/-- The waveform path: converters (R263, R264), correction and filter swaps (R266, R271). A converter that is switched off is not
ready. -/
def State.wfpWrite (s : State) (d : RegDesc) (off v : Nat) : State :=
  if off = 0x2C0000 then (s.putReg d off v false).when (v.testBit 1) (fun t => t.took (execCorswap t))
  else if off = 0x2C0004 then
    (s.putReg d off v false).wr R.WFP_ADCRDY_RDY (s.rd R.WFP_ADCRDY_RDY &&& s.rd R.WFP_ADCEN_EN &&& v)
  else if off = 0x2C0008 then s.took (execWfpPaircfgWrite (BitVec.ofNat 32 v) s)
  else
    match place 0x2C0100 64 32 off, place 0x2C0108 64 32 off with
    | some l, _ => s.laneWrite d l off v
    | none, some l =>
      let s1 := (s.putReg d off v false).when (v.testBit 0) (fun t => t.took (execFswap (Fin.ofNat 32 l) t))
      s1.when (v.testBit 1) (fun t => t.took (execMswap (Fin.ofNat 32 l) t))
    | none, none => s.putReg d off v false

/-- Dog: units are armed, forced and stopped (R281). -/
def State.dogWrite (s : State) (d : RegDesc) (off v : Nat) : State :=
  match place 0x300100 64 32 off with
  | some u =>
    let u : Fin 32 := Fin.ofNat 32 u
    let s1 := (s.putReg d off v false).when (v.testBit 6) (fun t => t.took (execDogArm u t))
    let s2 := s1.when (v.testBit 7) (fun t => t.took (execForce u t))
    s2.when (v.testBit 8) (fun t => t.took (execDogStop u t))
  | none => s.putReg d off v false

/-- Sill: the reference buffer and bank swaps (R332, R337). -/
def State.silWrite (s : State) (d : RegDesc) (off v : Nat) : State :=
  if off = 0x340000 then
    let s1 := s.wr R.SIL_CTL_RUN (bits v 0 1)
    let s2 := s1.took (execRefenWrite (v.testBit 1) s1)
    s2.when (v.testBit 2) (fun t => t.took (execSilSwap t))
  else s.putReg d off v false

/-- Plumb: the command bits (R351, R364, R365). -/
def State.plbWrite (s : State) (d : RegDesc) (off v : Nat) : State :=
  if off = 0x380004 then
    let s1 := s.when (v.testBit 0) (fun t => t.took (execPlbCmdCd t))
    let s2 := s1.when (v.testBit 1) (fun t => t.took (execPlbCmdWf t))
    let s3 := s2.when (v.testBit 2) (fun t => t.took (execPlbCmdHk t))
    let s4 := s3.when (v.testBit 3) (fun t => t.took (execPlbCmdLane t))
    s4.when (v.testBit 4) (fun t => t.took (execPlbCmdSave t))
  else if off = 0x380000 then (s.plbCtl v).putReg d off v false
  else s.putReg d off v false

/-- The host link: a command ring's head and pass bits restart when it is enabled (R405); messages of an unmasked vector go out
(R391). -/
def State.hifWrite (s : State) (d : RegDesc) (off v : Nat) : State :=
  let s1 := s.putReg d off v false
  match place 0x3C0110 32 16 off with
  | some r =>
    if v.testBit 4 && !s.on (R.HIF_CRCFG_EN r) then s1.ringEnable r else s1
  | none => if (place 0x3E000C 16 2048 off).isSome then s1.flushMsix else s1

/-- PUR_CHCFG.RUN (R399): a channel starts, or stops when what is in progress has ended. -/
def State.runWrite (s : State) (c : Nat) (run : Bool) : State :=
  if run == s.on (R.PUR_CHCFG_RUN c) then s
  else if run then
    ((s.wr (R.PUR_CHCFG_RUN c) 1).wr (R.PUR_CHSTAT_STATE c) 1).when (decide (32 ≤ c)) (·.setBulk c (fun x => { x with stopDue := false }))
  else if 32 ≤ c && s.bulkRuns c && !(s.bulk c).descs.isEmpty then
    ((s.wr (R.PUR_CHCFG_RUN c) 0).wr (R.PUR_CHSTAT_STATE c) 2).setBulk c (fun x => { x with stopDue := true })
  else s.stopNow c

/-- Purlin: channels run, stop and abort (R399, R406). -/
def State.purWrite (s : State) (d : RegDesc) (off v : Nat) : State :=
  match place 0x400100 32 64 off, place 0x400104 32 64 off with
  | some c, _ =>
    if c < 32 then s.runWrite c (v.testBit 19)
    else (((s.putReg d off v false).wr (R.PUR_CHCFG_RUN c) (s.rd (R.PUR_CHCFG_RUN c)))).runWrite c (v.testBit 19)
  | none, some c => if v.testBit 0 then (s.draw).abortDesc c (Config.abortResidue s.fresh) else s
  | none, none => s.putReg d off v false

/-- Dowel: training, tie configuration and error injection (R410, R416, R421). -/
def State.dwlWrite (s : State) (d : RegDesc) (off v : Nat) : State :=
  if off = 0x440008 then (s.putReg d off v false).tieConfig
  else
    match place 0x440100 32 20 off, place 0x440110 32 20 off with
    | some p, _ => (s.putReg d off v false).when (v.testBit 18) (fun t => t.took (execTrain (Fin.ofNat 20 p) t))
    | none, some p => s.took (execDwlPtestWrite (Fin.ofNat 20 p) (BitVec.ofNat 32 v) s)
    | none, none => s.putReg d off v false

/-- Girt (R450): JTAG's right cannot be lowered. -/
def State.grtWrite (s : State) (d : RegDesc) (off v : Nat) : State :=
  if (place 0x4C0400 4 89 off).isSome then s.rwkWrite d off (v ||| 0x30000) else s.rwkWrite d off v

/-- The fault log: a ring stopped when full, the entry to read, injections (R465 to R467). -/
def State.fltWriteReg (s : State) (d : RegDesc) (off v : Nat) : State :=
  if off = 0x500000 then (s.fltStopfull (v.testBit 0)).when (v.testBit 1) (fun t => t.took (execInjlock t))
  else if off = 0x50002C then s.took (execFltRdseqhiWrite (BitVec.ofNat 32 v) s)
  else if off = 0x5000C0 then s.injWrite d off v
  else s.rwkWrite d off v

/-- GLB: the reset key (R482) and the arming of the summary (R484). -/
def State.glbWrite (s : State) (d : RegDesc) (off v : Nat) : State :=
  if off = 0x14 then s.glbRstWrite v
  else if off = 0x28 then s.when (v.testBit 0) (·.wr R.GLB_INTCTL_ARMED 1)
  else s.putReg d off v false

/-- PEG_CODECFG (R143): a GSPAN out of range is refused and that field stays; the others take the write. -/
def State.codeCfgWrite (s : State) (d : RegDesc) (off v : Nat) : State :=
  let span := bits v 10 11
  if 128 ≤ span && span ≤ 1024 then s.putReg d off v false
  else (s.putReg d off (v - 1024 * span + 1024 * s.rd R.PEG_CODECFG_GSPAN) false).refuse R.PEG_INTSTAT_BADCFG

/-- What an accepted write does. -/
def State.regEffect (s : State) (d : RegDesc) (off v : Nat) : State :=
  match blockOf off with
  | some 0 => s.glbWrite d off v
  | some 1 => if off = 0x10004 then s.took (execClkTbcfgWrite (BitVec.ofNat 32 v) s) else s.putReg d off v false
  | some 3 => s.krfWrite d off v
  | some 4 => if off = 0x80014 then s.codeCfgWrite d off v else s.putReg d off v false
  | some 6 => if off = 0x100018 && v.testBit 5 then s.took (execJstSubcmdGo (BitVec.ofNat 5 v) s) else s.putReg d off v false
  | some 9 => s.btnWrite d off v
  | some 10 => s.tnnWrite d off v
  | some 11 => s.trsWrite d off v
  | some 12 => s.wfpWrite d off v
  | some 13 => s.dogWrite d off v
  | some 14 => s.silWrite d off v
  | some 15 => s.plbWrite d off v
  | some 16 => s.hifWrite d off v
  | some 17 => s.purWrite d off v
  | some 18 => s.dwlWrite d off v
  | some 19 => if off = 0x48001C && v.testBit 0 then s.took (execProgsigSet s) else s.putReg d off v false
  | some 20 => s.grtWrite d off v
  | some 21 => s.fltWriteReg d off v
  | _ => s.putReg d off v false

/-- The register holds an RWK field. -/
def RegDesc.hasRwk (d : RegDesc) : Bool := d.fields.any (fun f => f.2.2 == .rwk)

/-- A whole write of the register at an aligned offset (R474 to R477). A write of RWK fields that no window lets through needs no
further check; a reserved Girt target is refused (R450). -/
def State.regWrite (s : State) (off v : Nat) : State :=
  match findReg off with
  | none =>
    if 0x4C0564 ≤ off && off < 0x4C0600 then s.refuse R.GRT_INTSTAT_BADCFG
    else (s.badAccess off 0 true).flag R.GLB_INTSTAT_ACCERR
  | some d =>
    let s1 := s.rsvdCheck off d.reserved v
    let u := v &&& (2 ^ 32 - 1 - d.reserved)
    if d.hasRwk && decide (blockOf off = some 20) && s.on R.GRT_CTL_LOCK then s1.refuse R.GRT_INTSTAT_BADCFG
    else
      match s.activeWrite off with
      | some f => s1.fault f 1 0
      | none =>
        if s.accepts off u || (d.hasRwk && !s.on R.TRS_STATE_KEYOPEN) then s1.regEffect d off u
        else
          let s2 := s1.refuseAt off
          s2.when (decide (blockOf off = some 11)) (·.trsReport 0x0501 off)

end Sys2Proof.Machine
end

