-- ==== Sys2Proof/Machine/Registers.lean ====
section
/-!
DEFINITION. BAR0 and JTAG accesses (R12, R472, R474 to R477, R484): reads with their side effects and snapshots, and the commands
REGISTER_WRITE, REGISTER_READ, GLB_INTCTL_ARM and JTAG_ACCESS.
-/
namespace Sys2Proof.Machine

/-! ### Reads -/

/-- LO registers whose read latches their HI register: offsets of both (R243, R287, R382, R417, R470). -/
def latchPairs : List (Nat × Nat) :=
  [(0x180010, 0x180014), (0x180018, 0x18001C), (0x300014, 0x300018), (0x440010, 0x440014), (0x500010, 0x500014), (0x500018, 0x50001C)]
    ++ (List.range 16).map (fun r => (0x3C0118 + 32 * r, 0x3C011C + 32 * r))

/-- The oldest ESEQ that the ring holds, or the next one (R470). -/
def State.fltOld (s : State) : Nat := match s.flt.ring with | e :: _ => e.eseq | [] => s.flt.nextSeq

/-- An injection of FLT_INJ has not been made yet: the write, the work item or the packet that it waits for has not come (R467,
R470). -/
def State.injWaits (s : State) : Bool := !s.flt.injWords.isEmpty || !s.flt.injEngines.isEmpty || s.flt.injLath

/-- A register word that is computed afresh at each read, by its offset; a HI word of a latched pair is given as it stands now. -/
def State.liveWord (s : State) (off : Nat) : Option Nat :=
  let lo (v : Nat) : Option Nat := some (v % 2 ^ 32)
  let hi (v : Nat) : Option Nat := some (v / 2 ^ 32 % 2 ^ 32)
  match off with
  | 0x20 => some s.intSum
  | 0x1001C => some s.holdLeft
  | 0x80040 => lo Config.unitId.toNat
  | 0x80044 => hi Config.unitId.toNat
  | 0x180010 => lo s.jnl.head
  | 0x180014 => hi s.jnl.head
  | 0x180018 => lo s.release
  | 0x18001C => hi s.release
  | 0x18000C => some s.jnl.gen.toNat
  | 0x18002C => some s.jnlUsed
  | 0x30000C => some (s.fwu.alloc.capture.2 / 2 ^ 20)
  | 0x300014 => lo s.dog.nextSeq
  | 0x300018 => hi s.dog.nextSeq
  | 0x480020 => lo Config.unitId.toNat
  | 0x480024 => hi Config.unitId.toNat
  | 0x5000B4 => some (min (s.clk.porTicks / 200000000) (2 ^ 32 - 1))
  | 0x500010 => lo s.flt.nextSeq
  | 0x500014 => hi s.flt.nextSeq
  | 0x500018 => lo s.fltOld
  | 0x50001C => hi s.fltOld
  | _ => none

/-- Fields that show other state, to be put over the word at an offset: lowest bit, width and value. -/
def State.liveField (s : State) (off : Nat) : List (Nat × Nat × Nat) :=
  match off with
  | 0xC => [(20, 1, Config.safetyGrade.toNat)]
  | 0x10 => [(24, 3, s.trsState % 8), (27, 1, s.rd R.TRS_STATE_LIGHT)]
  | 0x80004 => [(2, 2, s.throttle)]
  | 0x180004 => [(2, 1, s.reserveUsed.toNat)]
  | 0x100004 => [(10, 2, s.throttle)]
  | 0x280000 => [(15, 1, s.rd R.TRS_CTL_FEPOAS), (17, 1, s.phiValid.toNat)]
  | 0x50000C => [(12, 1, (s.boot.trained && !s.boot.selfRef && s.rd R.FLT_HBMCFG_SCRUBH != 0).toNat)]
  | 0x5000C0 => [(16, 1, s.injWaits.toNat)]
  | _ => if (place 0x4C0400 4 89 off).isSome then [(16, 2, 3)] else []

/-- A word with fields put over it. -/
def overlay (w : Nat) (l : List (Nat × Nat × Nat)) : Nat :=
  l.foldl (fun v f => v - bits v f.1 f.2.1 * 2 ^ f.1 + f.2.2 % 2 ^ f.2.1 * 2 ^ f.1) w

/-- The word that the register at an offset holds now. -/
def State.wordNow (s : State) (d : RegDesc) (off : Nat) : Nat :=
  (s.liveWord off).getD (overlay (s.regWord d off) (s.liveField off))

/-- The word that a read answers: the HI register of a pair reads as latched. -/
def State.readValue (s : State) (d : RegDesc) (off : Nat) : Nat :=
  if latchPairs.any (fun p => p.2 == off) then mapGet 0 s.latch off else s.wordNow d off

/-- The HI word of a pair is latched at a read of its LO register. -/
def State.latchHi (s : State) (off : Nat) : State :=
  match latchPairs.find? (fun p => p.1 == off) with
  | some p =>
    match findReg p.2 with
    | some d => { s with latch := mapSet 0 s.latch p.2 (s.wordNow d p.2) }
    | none => s
  | none => s

/-- RC fields are cleared in the access that reads them (R12). -/
def State.clearRc (s : State) (d : RegDesc) (off : Nat) : State :=
  (d.fields.filter (fun f => f.2.2 == .rc)).foldl (fun t f => t.wr (fldAt off f) 0) s

/-- What a read does before its value is taken: a snapshot of device time, or a timestamp popped (R47, R167). -/
def State.readSide (s : State) (off : Nat) : State :=
  if off = 0x10010 then s.timeLatch
  else match place 0x40838 64 8 off with | some u => s.gtsPop u | none => s

/-- A read of the register at an aligned offset: the state behind it and the word (R12, R474, R475). A reserved Girt target reads
0 (R450). -/
def State.regRead (s : State) (off : Nat) : State × Nat :=
  match findReg off with
  | none =>
    if 0x4C0564 ≤ off && off < 0x4C0600 then (s, 0) else ((s.badAccess off 0 false).flag R.GLB_INTSTAT_ACCERR, 0)
  | some d =>
    let s1 := s.readSide off
    ((s1.latchHi off).clearRc d off, s1.readValue d off)

/-! ### Access by a master (R445, R446, R474) -/

/-- Girt's right of a master on the block of an offset; offsets behind the last block have no target. -/
def State.girtReg (s : State) (m off : Nat) (write : Bool) : Bool :=
  match blockOf off with
  | some b => rightOk (s.girtRight m (64 + b)) write
  | none => true

/-- A word write by a master. -/
def State.busWrite (s : State) (m off v : Nat) : State :=
  if s.girtReg m off true then s.regWrite off v else s.girtDeny m (64 + (blockOf off).getD 0) off true

/-- A word read by a master. -/
def State.busRead (s : State) (m off : Nat) : State × Nat :=
  if s.girtReg m off false then s.regRead off else (s.girtDeny m (64 + (blockOf off).getD 0) off false, 0)

/-- A write access by its byte enables: one whole register, or two as an aligned 64-bit write, the lower first; any other is
discarded and counted (R474). -/
def State.accessWrite (s : State) (m addr be v : Nat) : State :=
  let low := v % 2 ^ 32
  let high := v / 2 ^ 32 % 2 ^ 32
  if be = 0x0F && addr % 4 = 0 then s.busWrite m addr low
  else if be = 0xF0 && addr % 8 = 0 then s.busWrite m (addr + 4) high
  else if be = 0xFF && addr % 8 = 0 then (s.busWrite m addr low).busWrite m (addr + 4) high
  else s.badAccess addr 1 true

/-- A read access of `n` bytes: inside one register, or an aligned 64-bit read; any other answers 0, without side effect, and is
counted (R474). -/
def State.accessRead (s : State) (m addr n : Nat) : State × Nat :=
  if 1 ≤ n && addr % 4 + n ≤ 4 then
    let (t, w) := s.busRead m (addr / 4 * 4)
    (t, bits w (8 * (addr % 4)) (8 * n))
  else if n = 8 && addr % 8 = 0 then
    let (t, l) := s.busRead m addr
    let (u, h) := t.busRead m (addr + 4)
    (u, l + 2 ^ 32 * h)
  else (s.badAccess addr 1 false, 0)

/-! ### The commands -/

/-- REGISTER_WRITE (R474): a BAR0 write; discarded where BAR0 does not answer (R472). -/
def execRegisterWrite (addr : BitVec 24) (be : BitVec 8) (v : BitVec 64) (s : State) : Host.Outcome State Fault Refusal :=
  if s.barOn then (s.accessWrite girtHost addr.toNat be.toNat v.toNat).done else s.done

/-- REGISTER_READ (R474): a BAR0 read; in ROM recovery mode BAR0 reads 0 (R472). -/
def execRegisterRead (addr : BitVec 24) (n : BitVec 4) (s : State) : Host.Outcome State Fault Refusal :=
  if s.barOn then
    let (t, v) := s.accessRead girtHost addr.toNat n.toNat
    (t.emit (.regRead addr.toNat v)).done
  else if s.fwu.recovery && s.rd R.HIF_STATUS_SPEED != 0 && s.hif.memOn && !s.hif.d3 then (s.emit (.regRead addr.toNat 0)).done
  else s.done

/-- GLB_INTCTL_ARM (R484): a write of ARM sets ARMED; the message goes out at once where the masked summary is not zero. -/
def execGlbIntctlArm (s : State) : Host.Outcome State Fault Refusal :=
  if s.barOn then
    if s.girtReg girtHost 0x28 true then (s.wr R.GLB_INTCTL_ARMED 1).done else (s.girtDeny girtHost 64 0x28 true).done
  else s.done

/-- JTAG_ACCESS (R33, R445): JTAG debug reads and writes registers and memory whatever the tables say, with R292 kept; the
boundary-scan cells of DARK_N and SOUT show the levels that Truss commands and drive none. -/
def execJtagAccess (a : JtagAccess) (s : State) : Host.Outcome State Fault Refusal :=
  if s.boot.pornLow || !s.boot.powered then s.done
  else
    match a with
    | .regRead addr =>
      let (t, v) := s.accessRead girtJtag addr.toNat 4
      (t.emit (.regRead addr.toNat v)).done
    | .regWrite addr v => (s.accessWrite girtJtag addr.toNat 0x0F v.toNat).done
    | .hbmRead addr n => ((s.readSpan addr.toNat n).1.emit (.jtagRead addr.toNat (s.viewBytes addr.toNat n))).draw.done
    | .hbmWrite addr bytes => (s.hbmStore addr.toNat (bytes.take (hbmSize - addr.toNat))).done
    | .boundary _ _ => (s.emit (.jtagScan (s.on R.TRS_STATE_DARKCMD) s.soutCmd)).done

end Sys2Proof.Machine
end

