-- ==== Sys2Proof/Machine/Dispatch.lean ====
section
/-!
DEFINITION. The dispatch table: one arm per command, each a direct call of its meaning.
-/
namespace Sys2Proof.Machine

/-- The effect of a command on everything but the queue. -/
def exec (i : Instr) (s : State) : Host.Outcome State Fault Refusal :=
  match i with
  | .pornNLow => Sys2Proof.Machine.execPornNLow s
  | .powerOnReset bootsel => Sys2Proof.Machine.execPowerOnReset bootsel s
  | .powerLoss => Sys2Proof.Machine.execPowerLoss s
  | .fullrstNFall => Sys2Proof.Machine.execFullrstNFall s
  | .perstNFall => Sys2Proof.Machine.execPerstNFall s
  | .perstNRise => Sys2Proof.Machine.execPerstNRise s
  | .pcieFlr => Sys2Proof.Machine.execPcieFlr s
  | .hotReset => Sys2Proof.Machine.execHotReset s
  | .glbRst v => Sys2Proof.Machine.execGlbRst v s
  | .logicRelease => Sys2Proof.Machine.execLogicRelease s
  | .trussTest pass rails => Sys2Proof.Machine.execTrussTest pass rails s
  | .clock ref pllA pllB => Sys2Proof.Machine.execClock ref pllA pllB s
  | .romStart => Sys2Proof.Machine.execRomStart s
  | .hbmTrain ok => Sys2Proof.Machine.execHbmTrain ok s
  | .image => Sys2Proof.Machine.execImage s
  | .settings => Sys2Proof.Machine.execSettings s
  | .hostLink r => Sys2Proof.Machine.execHostLink r s
  | .joist std set => Sys2Proof.Machine.execJoist std set s
  | .rings finds => Sys2Proof.Machine.execRings finds s
  | .spin => Sys2Proof.Machine.execSpin s
  | .calibrate ok => Sys2Proof.Machine.execCalibrate ok s
  | .arm fb => Sys2Proof.Machine.execArm fb s
  | .stallLine => Sys2Proof.Machine.execStallLine s
  | .ocxoRdyRise => Sys2Proof.Machine.execOcxoRdyRise s
  | .ocxoRdyFall => Sys2Proof.Machine.execOcxoRdyFall s
  | .holdElapsed => Sys2Proof.Machine.execHoldElapsed s
  | .ppsEdge sub => Sys2Proof.Machine.execPpsEdge sub s
  | .ppsLoss => Sys2Proof.Machine.execPpsLoss s
  | .clkTimeloRead => Sys2Proof.Machine.execClkTimeloRead s
  | .clkTbcfgWrite v => Sys2Proof.Machine.execClkTbcfgWrite v s
  | .pllLockLoss => Sys2Proof.Machine.execPllLockLoss s
  | .pllRelock ok => Sys2Proof.Machine.execPllRelock ok s
  | .spindleSample => Sys2Proof.Machine.execSpindleSample s
  | .speedCapture => Sys2Proof.Machine.execSpeedCapture s
  | .splockSet => Sys2Proof.Machine.execSplockSet s
  | .blendEnd => Sys2Proof.Machine.execBlendEnd s
  | .followingErrorTrip tilt => Sys2Proof.Machine.execFollowingErrorTrip tilt s
  | .scanStateSample => Sys2Proof.Machine.execScanStateSample s
  | .encoderEdge back => Sys2Proof.Machine.execEncoderEdge back s
  | .indexEdge => Sys2Proof.Machine.execIndexEdge s
  | .indexMissing => Sys2Proof.Machine.execIndexMissing s
  | .spinUpTimeout => Sys2Proof.Machine.execSpinUpTimeout s
  | .retainedStateCopy => Sys2Proof.Machine.execRetainedStateCopy s
  | .tiltSample => Sys2Proof.Machine.execTiltSample s
  | .tiltSampleReady codes wbPins => Sys2Proof.Machine.execTiltSampleReady codes wbPins s
  | .tlsens => Sys2Proof.Machine.execTlsens s
  | .spindleModeRequest m => Sys2Proof.Machine.execSpindleModeRequest m s
  | .tiltModeRequest m => Sys2Proof.Machine.execTiltModeRequest m s
  | .tnnSpcfgWrite v => Sys2Proof.Machine.execTnnSpcfgWrite v s
  | .spindleSwap => Sys2Proof.Machine.execSpindleSwap s
  | .tiltSwap => Sys2Proof.Machine.execTiltSwap s
  | .injectionStart => Sys2Proof.Machine.execInjectionStart s
  | .injectionStop => Sys2Proof.Machine.execInjectionStop s
  | .injectionEnd => Sys2Proof.Machine.execInjectionEnd s
  | .captureStart => Sys2Proof.Machine.execCaptureStart s
  | .capdone => Sys2Proof.Machine.execCapdone s
  | .fireSubmission n => Sys2Proof.Machine.execFireSubmission n s
  | .fireTransmit n => Sys2Proof.Machine.execFireTransmit n s
  | .grant r => Sys2Proof.Machine.execGrant r s
  | .driverSilent n => Sys2Proof.Machine.execDriverSilent n s
  | .status u p => Sys2Proof.Machine.execStatus u p s
  | .report u reps => Sys2Proof.Machine.execReport u reps s
  | .readdata u addr words => Sys2Proof.Machine.execReaddata u addr words s
  | .alarm u code detail => Sys2Proof.Machine.execAlarm u code detail s
  | .echoR n ccw hold rt => Sys2Proof.Machine.execEchoR n ccw hold rt s
  | .unreported n tag => Sys2Proof.Machine.execUnreported n tag s
  | .hushgenRepeat => Sys2Proof.Machine.execHushgenRepeat s
  | .hushWithdrawal => Sys2Proof.Machine.execHushWithdrawal s
  | .echoCheck nil => Sys2Proof.Machine.execEchoCheck nil s
  | .recal nil => Sys2Proof.Machine.execRecal nil s
  | .ringenWrite en finds => Sys2Proof.Machine.execRingenWrite en finds s
  | .proofPulse n => Sys2Proof.Machine.execProofPulse n s
  | .opticalDark n row => Sys2Proof.Machine.execOpticalDark n row s
  | .frameBoundary => Sys2Proof.Machine.execFrameBoundary s
  | .planStep n => Sys2Proof.Machine.execPlanStep n s
  | .planStepRetry n => Sys2Proof.Machine.execPlanStepRetry n s
  | .tagexh n => Sys2Proof.Machine.execTagexh n s
  | .leadingEdge ch coarse tap shadow => Sys2Proof.Machine.execLeadingEdge ch coarse tap shadow s
  | .trailingEdge ch coarse tap => Sys2Proof.Machine.execTrailingEdge ch coarse tap s
  | .widthSaturation ch => Sys2Proof.Machine.execWidthSaturation ch s
  | .eventWordDelivery ch nil => Sys2Proof.Machine.execEventWordDelivery ch nil s
  | .pulserEdge t coarse tap => Sys2Proof.Machine.execPulserEdge t coarse tap s
  | .stuck ch => Sys2Proof.Machine.execStuck ch s
  | .stuckRelease ch => Sys2Proof.Machine.execStuckRelease ch s
  | .fast ch => Sys2Proof.Machine.execFast ch s
  | .rel ch => Sys2Proof.Machine.execRel ch s
  | .tdcfail ch => Sys2Proof.Machine.execTdcfail ch s
  | .shadowPeriodEnd g => Sys2Proof.Machine.execShadowPeriodEnd g s
  | .spareMove g v => Sys2Proof.Machine.execSpareMove g v s
  | .spareTakeover g => Sys2Proof.Machine.execSpareTakeover g s
  | .gaugeEdge g rising coarse fine => Sys2Proof.Machine.execGaugeEdge g rising coarse fine s
  | .gaugeOverflow u => Sys2Proof.Machine.execGaugeOverflow u s
  | .gaugedone u => Sys2Proof.Machine.execGaugedone u s
  | .gaugeArm u => Sys2Proof.Machine.execGaugeArm u s
  | .gaugeAbort u => Sys2Proof.Machine.execGaugeAbort u s
  | .krfGtsloRead u => Sys2Proof.Machine.execKrfGtsloRead u s
  | .scoutEnd b => Sys2Proof.Machine.execScoutEnd b s
  | .retroactiveFill b nil => Sys2Proof.Machine.execRetroactiveFill b nil s
  | .windowClose b => Sys2Proof.Machine.execWindowClose b s
  | .commit b word w => Sys2Proof.Machine.execCommit b word w s
  | .markerCommit => Sys2Proof.Machine.execMarkerCommit s
  | .engineFault e kind => Sys2Proof.Machine.execEngineFault e kind s
  | .budgetExpiry e => Sys2Proof.Machine.execBudgetExpiry e s
  | .engineRetest e pass => Sys2Proof.Machine.execEngineRetest e pass s
  | .clusterSubstitution => Sys2Proof.Machine.execClusterSubstitution s
  | .jstSubcmdGo c => Sys2Proof.Machine.execJstSubcmdGo c s
  | .programBankWrite => Sys2Proof.Machine.execProgramBankWrite s
  | .demotion q => Sys2Proof.Machine.execDemotion q s
  | .targetEvaluation => Sys2Proof.Machine.execTargetEvaluation s
  | .lookbackFrameCommit n => Sys2Proof.Machine.execLookbackFrameCommit n s
  | .abandon n => Sys2Proof.Machine.execAbandon n s
  | .converterReady k => Sys2Proof.Machine.execConverterReady k s
  | .wfpPaircfgWrite v => Sys2Proof.Machine.execWfpPaircfgWrite v s
  | .hsrcWrite l v => Sys2Proof.Machine.execHsrcWrite l v s
  | .corswap => Sys2Proof.Machine.execCorswap s
  | .correctionSwapApplied => Sys2Proof.Machine.execCorrectionSwapApplied s
  | .fswap l => Sys2Proof.Machine.execFswap l s
  | .mswap l => Sys2Proof.Machine.execMswap l s
  | .filterSwapApplied l m => Sys2Proof.Machine.execFilterSwapApplied l m s
  | .gateOpen l => Sys2Proof.Machine.execGateOpen l s
  | .gateClose l codes => Sys2Proof.Machine.execGateClose l codes s
  | .edgeTrigger u arm before after => Sys2Proof.Machine.execEdgeTrigger u arm before after s
  | .shotTrigger u n tag => Sys2Proof.Machine.execShotTrigger u n tag s
  | .autoTrigger u => Sys2Proof.Machine.execAutoTrigger u s
  | .dogArm u => Sys2Proof.Machine.execDogArm u s
  | .force u => Sys2Proof.Machine.execForce u s
  | .dogStop u => Sys2Proof.Machine.execDogStop u s
  | .captureComplete u codes => Sys2Proof.Machine.execCaptureComplete u codes s
  | .drainDelivery => Sys2Proof.Machine.execDrainDelivery s
  | .drainLevelTick => Sys2Proof.Machine.execDrainLevelTick s
  | .trsKey v => Sys2Proof.Machine.execTrsKey v s
  | .keyWindowExpiry => Sys2Proof.Machine.execKeyWindowExpiry s
  | .keySequenceExpiry => Sys2Proof.Machine.execKeySequenceExpiry s
  | .darkreq v => Sys2Proof.Machine.execDarkreq v s
  | .armChecks fb => Sys2Proof.Machine.execArmChecks fb s
  | .supplyFault k => Sys2Proof.Machine.execSupplyFault k s
  | .clockFault k => Sys2Proof.Machine.execClockFault k s
  | .clockFaultClear => Sys2Proof.Machine.execClockFaultClear s
  | .heartbeat => Sys2Proof.Machine.execHeartbeat s
  | .heartbeatMissing => Sys2Proof.Machine.execHeartbeatMissing s
  | .mgmtTakeover => Sys2Proof.Machine.execMgmtTakeover s
  | .coreTest pass => Sys2Proof.Machine.execCoreTest pass s
  | .readback dark sfb => Sys2Proof.Machine.execReadback dark sfb s
  | .hushNotConfirmed => Sys2Proof.Machine.execHushNotConfirmed s
  | .knownAnswerCheck good => Sys2Proof.Machine.execKnownAnswerCheck good s
  | .trussScrub found => Sys2Proof.Machine.execTrussScrub found s
  | .lockstepMismatch => Sys2Proof.Machine.execLockstepMismatch s
  | .rootWatchdog => Sys2Proof.Machine.execRootWatchdog s
  | .bucketRollover w2 => Sys2Proof.Machine.execBucketRollover w2 s
  | .inputSample a b => Sys2Proof.Machine.execInputSample a b s
  | .inputLevelAccepted k legB => Sys2Proof.Machine.execInputLevelAccepted k legB s
  | .discrepancy k => Sys2Proof.Machine.execDiscrepancy k s
  | .offPulse k => Sys2Proof.Machine.execOffPulse k s
  | .feedbackCheck k level pulse => Sys2Proof.Machine.execFeedbackCheck k level pulse s
  | .sresetNRise lowUs => Sys2Proof.Machine.execSresetNRise lowUs s
  | .sresetNStuck => Sys2Proof.Machine.execSresetNStuck s
  | .limpRecovery => Sys2Proof.Machine.execLimpRecovery s
  | .limpWindowExpiry => Sys2Proof.Machine.execLimpWindowExpiry s
  | .budload => Sys2Proof.Machine.execBudload s
  | .budswap => Sys2Proof.Machine.execBudswap s
  | .roundTick temps pkg => Sys2Proof.Machine.execRoundTick temps pkg s
  | .throttleStepDown hbm => Sys2Proof.Machine.execThrottleStepDown hbm s
  | .sensfail k => Sys2Proof.Machine.execSensfail k s
  | .slotResult adc codes wbPins excf => Sys2Proof.Machine.execSlotResult adc codes wbPins excf s
  | .silSwap => Sys2Proof.Machine.execSilSwap s
  | .refenWrite v => Sys2Proof.Machine.execRefenWrite v s
  | .refrdy => Sys2Proof.Machine.execRefrdy s
  | .refloss => Sys2Proof.Machine.execRefloss s
  | .pinClamp p => Sys2Proof.Machine.execPinClamp p s
  | .calibrationRun adc sz sr => Sys2Proof.Machine.execCalibrationRun adc sz sr s
  | .calibrationPeriod k => Sys2Proof.Machine.execCalibrationPeriod k s
  | .plbCmdCd => Sys2Proof.Machine.execPlbCmdCd s
  | .plbCmdWf => Sys2Proof.Machine.execPlbCmdWf s
  | .plbCmdHk => Sys2Proof.Machine.execPlbCmdHk s
  | .plbCmdLane => Sys2Proof.Machine.execPlbCmdLane s
  | .plbCmdSave => Sys2Proof.Machine.execPlbCmdSave s
  | .codeDensityDone t => Sys2Proof.Machine.execCodeDensityDone t s
  | .codeDensityTimeout t => Sys2Proof.Machine.execCodeDensityTimeout t s
  | .interleaveRunDone meas => Sys2Proof.Machine.execInterleaveRunDone meas s
  | .rznoref g => Sys2Proof.Machine.execRznoref g s
  | .quiet ch => Sys2Proof.Machine.execQuiet ch s
  | .laneAdaptPeriod => Sys2Proof.Machine.execLaneAdaptPeriod s
  | .savePeriod => Sys2Proof.Machine.execSavePeriod s
  | .queueDoorbell q whole v bufs headWord => Sys2Proof.Machine.execQueueDoorbell q whole v bufs headWord s
  | .commandDoorbell r whole v entries => Sys2Proof.Machine.execCommandDoorbell r whole v entries s
  | .bulkDoorbell slot whole v descs => Sys2Proof.Machine.execBulkDoorbell slot whole v descs s
  | .nop r => Sys2Proof.Machine.execNop r s
  | .scanStart r => Sys2Proof.Machine.execScanStart r s
  | .scanStop r => Sys2Proof.Machine.execScanStop r s
  | .timeSet r => Sys2Proof.Machine.execTimeSet r s
  | .epochCommit r => Sys2Proof.Machine.execEpochCommit r s
  | .epochCommitExecution => Sys2Proof.Machine.execEpochCommitExecution s
  | .epochEffective => Sys2Proof.Machine.execEpochEffective s
  | .tableLoad r data => Sys2Proof.Machine.execTableLoad r data s
  | .progLoad r data => Sys2Proof.Machine.execProgLoad r data s
  | .pose r data => Sys2Proof.Machine.execPose r data s
  | .queueCreate r block => Sys2Proof.Machine.execQueueCreate r block s
  | .queueResume r block => Sys2Proof.Machine.execQueueResume r block s
  | .queueClose r => Sys2Proof.Machine.execQueueClose r s
  | .queueFilter r => Sys2Proof.Machine.execQueueFilter r s
  | .fwStage r data => Sys2Proof.Machine.execFwStage r data s
  | .fwConfirm r => Sys2Proof.Machine.execFwConfirm r s
  | .fwLive r => Sys2Proof.Machine.execFwLive r s
  | .liveClusterStep => Sys2Proof.Machine.execLiveClusterStep s
  | .settingsSave r flashOk => Sys2Proof.Machine.execSettingsSave r flashOk s
  | .subscriberDelivery c => Sys2Proof.Machine.execSubscriberDelivery c s
  | .headWordPoll q headWord => Sys2Proof.Machine.execHeadWordPoll q headWord s
  | .interruptCoalesce q => Sys2Proof.Machine.execInterruptCoalesce q s
  | .descriptorComplete c e data => Sys2Proof.Machine.execDescriptorComplete c e data s
  | .abort c residue => Sys2Proof.Machine.execAbort c residue s
  | .runClear c busy => Sys2Proof.Machine.execRunClear c busy s
  | .wedge o => Sys2Proof.Machine.execWedge o s
  | .linkDown => Sys2Proof.Machine.execLinkDown s
  | .linkUp speed width => Sys2Proof.Machine.execLinkUp speed width s
  | .busMasterDisable d3 residues => Sys2Proof.Machine.execBusMasterDisable d3 residues s
  | .lathDrop p => Sys2Proof.Machine.execLathDrop p s
  | .pcieLaneRemove lane => Sys2Proof.Machine.execPcieLaneRemove lane s
  | .receiverLock p => Sys2Proof.Machine.execReceiverLock p s
  | .lockLoss x => Sys2Proof.Machine.execLockLoss x s
  | .autopol p => Sys2Proof.Machine.execAutopol p s
  | .trainingComplete p tries => Sys2Proof.Machine.execTrainingComplete p tries s
  | .trainingRetry p => Sys2Proof.Machine.execTrainingRetry p s
  | .train p => Sys2Proof.Machine.execTrain p s
  | .backgroundTrim p fom => Sys2Proof.Machine.execBackgroundTrim p fom s
  | .fomlow p => Sys2Proof.Machine.execFomlow p s
  | .helloSend => Sys2Proof.Machine.execHelloSend s
  | .hello k f => Sys2Proof.Machine.execHello k f s
  | .syncSend t1 => Sys2Proof.Machine.execSyncSend t1 s
  | .sync k x t4 => Sys2Proof.Machine.execSync k x t4 s
  | .syncdata k f => Sys2Proof.Machine.execSyncdata k f s
  | .frameann k f => Sys2Proof.Machine.execFrameann k f s
  | .boundaryFix => Sys2Proof.Machine.execBoundaryFix s
  | .codebook k f => Sys2Proof.Machine.execCodebook k f s
  | .ack k x => Sys2Proof.Machine.execAck k x s
  | .nak k x => Sys2Proof.Machine.execNak k x s
  | .retryTimeout k => Sys2Proof.Machine.execRetryTimeout k s
  | .dwlPtestWrite p v => Sys2Proof.Machine.execDwlPtestWrite p v s
  | .begin via arg0 arg1 => Sys2Proof.Machine.execBegin via arg0 arg1 s
  | .chunk via arg0 arg1 data flashOk => Sys2Proof.Machine.execChunk via arg0 arg1 data flashOk s
  | .recoveryCommit via flashOk => Sys2Proof.Machine.execRecoveryCommit via flashOk s
  | .recoveryReset via => Sys2Proof.Machine.execRecoveryReset via s
  | .eraseset via flashOk => Sys2Proof.Machine.execEraseset via flashOk s
  | .baud via arg0 => Sys2Proof.Machine.execBaud via arg0 s
  | .progsigSet => Sys2Proof.Machine.execProgsigSet s
  | .patrolScrub errs => Sys2Proof.Machine.execPatrolScrub errs s
  | .hbmRowSpare row ok => Sys2Proof.Machine.execHbmRowSpare row ok s
  | .faultReport => Sys2Proof.Machine.execFaultReport s
  | .entryFlush src code => Sys2Proof.Machine.execEntryFlush src code s
  | .fltRdseqhiWrite v => Sys2Proof.Machine.execFltRdseqhiWrite v s
  | .injectSymbolError => Sys2Proof.Machine.execInjectSymbolError s
  | .injectTwoSymbolError => Sys2Proof.Machine.execInjectTwoSymbolError s
  | .injectEngineFault unit => Sys2Proof.Machine.execInjectEngineFault unit s
  | .injectClusterFault unit => Sys2Proof.Machine.execInjectClusterFault unit s
  | .injectTdcFail unit => Sys2Proof.Machine.execInjectTdcFail unit s
  | .injectPllLoss => Sys2Proof.Machine.execInjectPllLoss s
  | .injectHeartbeatStop => Sys2Proof.Machine.execInjectHeartbeatStop s
  | .injectLaneErrors unit => Sys2Proof.Machine.execInjectLaneErrors unit s
  | .injectLathError => Sys2Proof.Machine.execInjectLathError s
  | .injectRingIdle unit => Sys2Proof.Machine.execInjectRingIdle unit s
  | .injlock => Sys2Proof.Machine.execInjlock s
  | .glbIntctlArm => Sys2Proof.Machine.execGlbIntctlArm s
  | .registerWrite addr be v => Sys2Proof.Machine.execRegisterWrite addr be v s
  | .registerRead addr n => Sys2Proof.Machine.execRegisterRead addr n s
  | .configurationRequest c => Sys2Proof.Machine.execConfigurationRequest c s
  | .supplyClear k => Sys2Proof.Machine.execSupplyClear k s
  | .returnedFrame r ccw f => Sys2Proof.Machine.execReturnedFrame r ccw f s
  | .converterOverRange k => Sys2Proof.Machine.execConverterOverRange k s
  | .poselate n => Sys2Proof.Machine.execPoselate n s
  | .darkNRelease => Sys2Proof.Machine.execDarkNRelease s
  | .tieUnitUnheard u => Sys2Proof.Machine.execTieUnitUnheard u s
  | .fwStageDone flashOk => Sys2Proof.Machine.execFwStageDone flashOk s
  | .jtagAccess a => Sys2Proof.Machine.execJtagAccess a s

end Sys2Proof.Machine
end

