-- ==== Sys2Proof/Machine/Tick.lean ====
section
/-!
DEFINITION. One cycle of the 200 MHz root domain: what step does on an empty queue (DESIGN CHOICE). Time passes: the
clock plant counts, the fault log writer keeps its pace, the journal's write queue drains, and what waits for no event of its own
goes on.
-/
namespace Sys2Proof.Machine

/-- The journal's write queue drains 64 M records per second: 8 records in 25 cycles (R235). `wq` is held in units of one
twenty-fifth of a record. -/
def State.jnlCycle (s : State) : State := { s with jnl := { s.jnl with wq := s.jnl.wq - 8 } }

/-- The clock plant advances by 5 ns once the first root PLL has locked (R16, R43), the warm-up hold with it (R41); the time since
PORN_N rose runs before it (R60). -/
def State.clkCycle (s : State) : State :=
  let c := { s.clk with porTicks := s.clk.porTicks + 1 }
  { s with clk := if c.running then
      { c with ticks := c.ticks + 1, devTime := c.devTime + 5, holdAge := if c.holdRun then c.holdAge + 1 else c.holdAge } else c }

/-- A device-time step that no frame start will apply is applied at once (R44); a large one acts as a DISCONT at that instant
(R251). -/
def State.stepCycle (s : State) : State :=
  if s.peg.clockOn then s
  else
    let (s1, step) := s.applyStep
    s1.stepBreak step ((s.rd R.PEG_FRAMENUM_NUM + 1) % 2 ^ 32)

/-- What passes in 5 ns when no command waits; nothing passes while PORN_N is low or the rails are down. -/
def State.tick (s : State) : State :=
  if s.boot.pornLow || !s.boot.powered then s
  else s.clkCycle.trimCycle.fltCycle.jnlCycle.stepCycle.poseTick.adaptNext.settle

end Sys2Proof.Machine
end

