-- ==== Sys2Proof/Parts.lean ====
section
/-!
DEFINITION. The parts of the state, and for each command the parts that it may change: what the frame statement says of every
command at once. The fault log, the journal's queues and the light path hang on many commands, so they have names of their own.
-/
namespace Sys2Proof.Machine

/-- GLB_INTCTL.ARMED and the MSI-X pending bits, which the summary message of R484 may change at the end of any command. -/
def summaryKey (k : Nat) : Prop := k = R.GLB_INTCTL_ARMED.key ∨ (32768000 ≤ k ∧ k < 32770048)

/-- The parts of the state: the register blocks of the register map in capitals (R471), and beside them what the blocks hold out of
sight of the registers, HBM and the boot flash. -/
inductive Part where
  | GLB | CLK | THM | KRF | PEG | MRT | JST | JNL | LBK | BTN | TNN
  | TRS | WFP | DOG | SIL | PLB | HIF | PUR | DWL | FWU | GRT | FLT
  | latch | clk | boot | tnn | btn | peg | krf | jst | jnl | lbk | wfp | dog
  | trs | sil | thm | plb | hif | dwl | fwu | flt | hbm | flash | fresh
deriving DecidableEq, Repr

/-- The register fields of a block, but for those that the summary message changes, keep their values. -/
def sameBlock (b : Nat) (s t : State) : Prop :=
  ∀ f : Fld, blockOf (f.key / 8) = some b → ¬ summaryKey f.key → t.rd f = s.rd f

/-- A part of the state is the same in two states. -/
def Part.same : Part → State → State → Prop
  | .GLB, s, t => sameBlock 0 s t
  | .CLK, s, t => sameBlock 1 s t
  | .THM, s, t => sameBlock 2 s t
  | .KRF, s, t => sameBlock 3 s t
  | .PEG, s, t => sameBlock 4 s t
  | .MRT, s, t => sameBlock 5 s t
  | .JST, s, t => sameBlock 6 s t
  | .JNL, s, t => sameBlock 7 s t
  | .LBK, s, t => sameBlock 8 s t
  | .BTN, s, t => sameBlock 9 s t
  | .TNN, s, t => sameBlock 10 s t
  | .TRS, s, t => sameBlock 11 s t
  | .WFP, s, t => sameBlock 12 s t
  | .DOG, s, t => sameBlock 13 s t
  | .SIL, s, t => sameBlock 14 s t
  | .PLB, s, t => sameBlock 15 s t
  | .HIF, s, t => sameBlock 16 s t
  | .PUR, s, t => sameBlock 17 s t
  | .DWL, s, t => sameBlock 18 s t
  | .FWU, s, t => sameBlock 19 s t
  | .GRT, s, t => sameBlock 20 s t
  | .FLT, s, t => sameBlock 21 s t
  | .latch, s, t => t.latch = s.latch
  | .clk, s, t => t.clk = s.clk
  | .boot, s, t => t.boot = s.boot
  | .tnn, s, t => t.tnn = s.tnn
  | .btn, s, t => t.btn = s.btn
  | .peg, s, t => t.peg = s.peg
  | .krf, s, t => t.krf = s.krf
  | .jst, s, t => t.jst = s.jst
  | .jnl, s, t => t.jnl = s.jnl
  | .lbk, s, t => t.lbk = s.lbk
  | .wfp, s, t => t.wfp = s.wfp
  | .dog, s, t => t.dog = s.dog
  | .trs, s, t => t.trs = s.trs
  | .sil, s, t => t.sil = s.sil
  | .thm, s, t => t.thm = s.thm
  | .plb, s, t => t.plb = s.plb
  | .hif, s, t => t.hif = s.hif
  | .dwl, s, t => t.dwl = s.dwl
  | .fwu, s, t => t.fwu = s.fwu
  | .flt, s, t => t.flt = s.flt
  | .hbm, s, t => ∀ a, t.hbmByte a = s.hbmByte a
  | .flash, s, t => ∀ a, t.flashByte a = s.flashByte a
  | .fresh, s, t => t.fresh = s.fresh

/-- What a report to the fault log reaches (R461). -/
def reportParts : List Part :=
  [.FLT, .flt]

/-- What a committed record reaches: the journal, Dog and the subscriber queues (R230, R238, R280). -/
def recordParts : List Part :=
  [.JNL, .DOG, .peg, .jnl, .dog, .hif]

/-- What answers a host command: its ring, its completion and a report of an error (R378, R382). -/
def answerParts : List Part :=
  [.HIF, .PUR, .FLT, .hif, .flt]

/-- What lies on the path of light: Truss, the driver rings, fires and bursts, the ties (R295, R296, R304). -/
def lightParts : List Part :=
  [.PEG, .BTN, .TRS, .DWL, .btn, .peg, .jnl, .trs, .dwl]

/-- Every register block. -/
def everyBlock : List Part :=
  [.GLB, .CLK, .THM, .KRF, .PEG, .MRT, .JST, .JNL, .LBK, .BTN, .TNN, .TRS, .WFP, .DOG, .SIL, .PLB, .HIF, .PUR, .DWL, .FWU, .GRT,
   .FLT]

/-- What the start of a full reset reaches (R48 to R50). -/
def resetParts : List Part :=
  [.GLB, .CLK, .THM, .KRF, .PEG, .MRT, .JST, .JNL, .LBK, .BTN, .TNN, .TRS, .WFP, .DOG, .SIL, .PLB, .HIF, .PUR, .DWL, .FWU, .GRT,
   .FLT, .latch, .boot, .tnn, .btn, .peg, .krf, .jst, .jnl, .wfp, .dog, .trs, .sil, .plb, .hif, .dwl, .fwu, .flt, .flash, .fresh]

/-- What a write of an arbitrary register can reach. -/
def everyPart : List Part :=
  [.GLB, .CLK, .THM, .KRF, .PEG, .MRT, .JST, .JNL, .LBK, .BTN, .TNN, .TRS, .WFP, .DOG, .SIL, .PLB, .HIF, .PUR, .DWL, .FWU, .GRT,
   .FLT, .latch, .clk, .boot, .tnn, .btn, .peg, .krf, .jst, .jnl, .lbk, .wfp, .dog, .trs, .sil, .plb, .hif, .dwl, .fwu, .flt]

/-- The parts of the state that a command may change; every other part it leaves as it was. -/
def mayChange : Instr → List Part
  | .pornNLow .. | .powerOnReset .. | .powerLoss .. =>
      everyPart ++ resetParts ++ [.thm, .hbm]
  | .fullrstNFall .. | .perstNFall .. | .pcieFlr .. | .hotReset .. | .glbRst .. | .fwConfirm .. =>
      resetParts
  | .perstNRise .. =>
      [.boot]
  | .logicRelease .. =>
      reportParts ++ [.GLB, .THM, .PEG, .JNL, .HIF, .boot, .tnn, .peg, .krf, .jst, .jnl, .lbk, .dog, .plb, .hif, .dwl, .fwu, .hbm, .fresh]
  | .trussTest .. =>
      reportParts ++ [.GLB, .PEG, .BTN, .TRS, .boot, .btn, .peg, .jnl, .trs, .dwl, .fresh]
  | .clock .. =>
      reportParts ++ [.GLB, .CLK, .clk, .boot]
  | .romStart .. | .image .. =>
      reportParts ++ [.GLB, .FWU, .boot, .fwu, .flash]
  | .hbmTrain .. | .recoveryReset .. =>
      reportParts ++ [.GLB, .FWU, .boot, .fwu]
  | .settings .. =>
      everyBlock ++ lightParts ++ answerParts ++ recordParts ++ [.boot, .krf, .lbk, .sil, .plb, .fwu, .hbm, .flash, .fresh]
  | .hostLink .. =>
      recordParts ++ reportParts ++ [.GLB, .LBK, .HIF, .boot, .lbk, .fresh]
  | .joist .. =>
      reportParts ++ [.GLB, .JST, .FWU, .boot, .peg, .jst, .fwu, .flash]
  | .rings .. =>
      lightParts ++ reportParts ++ [.GLB, .KRF, .TNN, .WFP, .SIL, .PLB, .boot, .tnn, .krf, .sil, .plb, .fresh]
  | .spin .. =>
      reportParts ++ [.GLB, .boot, .trs]
  | .calibrate .. =>
      reportParts ++ [.GLB, .WFP, .SIL, .PLB, .boot, .krf, .jnl, .trs, .plb]
  | .arm .. =>
      reportParts ++ [.GLB, .PEG, .BTN, .TRS, .PLB, .boot, .btn, .peg, .krf, .jnl, .trs, .plb, .dwl, .fresh]
  | .stallLine .. =>
      reportParts ++ [.GLB]
  | .ocxoRdyRise .. | .ocxoRdyFall .. | .holdElapsed .. | .ppsEdge .. =>
      [.CLK, .clk, .jnl]
  | .ppsLoss .. =>
      reportParts ++ [.CLK, .clk, .jnl]
  | .clkTimeloRead .. =>
      [.CLK]
  | .clkTbcfgWrite .. =>
      [.GLB, .CLK, .clk, .jnl]
  | .pllLockLoss .. | .pllRelock .. =>
      reportParts ++ [.CLK]
  | .spindleSample .. =>
      reportParts ++ [.PEG, .BTN, .TNN, .TRS, .GRT, .tnn, .btn, .peg, .jnl, .trs, .dwl, .hbm, .fresh]
  | .speedCapture .. | .retainedStateCopy .. | .injectionStop .. =>
      [.tnn]
  | .splockSet .. | .injectionEnd .. =>
      [.PEG, .BTN, .TNN, .TRS, .tnn, .btn, .peg, .jnl, .trs, .dwl, .fresh]
  | .blendEnd .. | .capdone .. =>
      [.TNN, .tnn]
  | .followingErrorTrip .. | .encoderEdge .. | .indexEdge .. | .indexMissing .. | .spindleModeRequest .. | .tiltModeRequest .. =>
      reportParts ++ [.PEG, .BTN, .TNN, .TRS, .tnn, .btn, .peg, .jnl, .trs, .dwl, .fresh]
  | .scanStateSample .. =>
      reportParts ++ [.PEG, .BTN, .TRS, .tnn, .btn, .peg, .jnl, .trs, .dwl, .fresh]
  | .spinUpTimeout .. =>
      reportParts ++ [.GLB, .TNN, .boot, .tnn]
  | .tiltSample .. | .tiltSampleReady .. =>
      reportParts ++ [.PEG, .BTN, .TNN, .TRS, .SIL, .GRT, .tnn, .btn, .peg, .jnl, .trs, .sil, .dwl, .hbm, .fresh]
  | .tlsens .. =>
      reportParts ++ [.TNN]
  | .tnnSpcfgWrite .. =>
      reportParts ++ [.GLB, .TNN]
  | .spindleSwap .. | .tiltSwap .. | .injectionStart .. | .captureStart .. =>
      reportParts ++ [.TNN, .tnn]
  | .fireSubmission .. | .report .. | .alarm .. | .armChecks .. | .supplyFault .. | .heartbeatMissing .. | .readback ..
  | .hushNotConfirmed .. | .knownAnswerCheck .. | .trussScrub .. | .lockstepMismatch .. | .rootWatchdog .. | .inputLevelAccepted ..
  | .discrepancy .. | .feedbackCheck .. | .sresetNRise .. | .limpWindowExpiry .. =>
      reportParts ++ [.PEG, .BTN, .TRS, .btn, .peg, .jnl, .trs, .dwl, .fresh]
  | .fireTransmit .. =>
      [.PEG, .DWL, .btn, .peg, .wfp, .dwl, .fresh]
  | .grant .. =>
      reportParts ++ [.PEG, .BTN, .btn, .peg, .dwl, .fresh]
  | .driverSilent .. | .opticalDark .. =>
      reportParts ++ [.PEG, .BTN, .btn, .peg]
  | .status .. =>
      lightParts ++ reportParts ++ [.fresh]
  | .readdata .. | .unreported .. =>
      reportParts ++ [.BTN, .btn]
  | .echoR .. =>
      reportParts ++ [.BTN, .DWL, .btn, .peg, .dwl, .fresh]
  | .hushgenRepeat .. =>
      [.DWL, .btn, .dwl, .fresh]
  | .hushWithdrawal .. =>
      [.BTN, .DWL, .btn, .trs, .dwl, .fresh]
  | .echoCheck .. | .recal .. =>
      [.BTN, .DWL, .btn, .dwl, .fresh]
  | .ringenWrite .. =>
      reportParts ++ [.PEG, .BTN, .DWL, .btn, .peg, .dwl, .fresh]
  | .proofPulse .. =>
      reportParts ++ [.PEG, .MRT, .btn, .peg, .jst, .jnl, .fresh]
  | .frameBoundary .. =>
      recordParts ++ reportParts ++ [.GLB, .CLK, .PEG, .LBK, .PLB, .DWL, .clk, .boot, .tnn, .btn, .krf, .lbk, .wfp, .plb, .dwl, .fresh]
  | .planStep .. | .planStepRetry .. =>
      reportParts ++ [.PEG, .MRT, .JST, .btn, .peg, .jst, .jnl, .fresh]
  | .tagexh .. =>
      reportParts ++ [.PEG]
  | .leadingEdge .. | .stuckRelease .. | .rel .. | .gaugeEdge .. | .gaugedone .. | .gaugeArm .. | .gaugeAbort .. | .krfGtsloRead .. =>
      [.KRF, .krf]
  | .trailingEdge .. | .widthSaturation .. =>
      [.KRF, .PLB, .krf, .plb]
  | .eventWordDelivery .. =>
      reportParts ++ [.KRF, .MRT, .peg, .krf]
  | .pulserEdge .. =>
      [.krf, .plb]
  | .stuck .. | .codeDensityDone .. | .codeDensityTimeout .. =>
      reportParts ++ [.KRF, .PLB, .krf, .plb]
  | .fast .. | .spareMove .. | .spareTakeover .. | .gaugeOverflow .. =>
      reportParts ++ [.KRF, .krf]
  | .tdcfail .. | .shadowPeriodEnd .. =>
      reportParts ++ [.KRF, .krf, .plb]
  | .scoutEnd .. =>
      [.PEG, .MRT, .peg]
  | .retroactiveFill .. =>
      [.MRT, .peg]
  | .windowClose .. =>
      recordParts ++ reportParts ++ [.PEG, .MRT, .JST, .LBK, .jst, .lbk]
  | .commit .. =>
      recordParts ++ reportParts ++ [.JST, .PLB, .btn, .jst, .lbk, .plb]
  | .markerCommit .. =>
      recordParts ++ reportParts ++ [.lbk]
  | .engineFault .. =>
      recordParts ++ reportParts ++ [.JST, .GRT, .jst, .lbk]
  | .budgetExpiry .. | .engineRetest .. =>
      recordParts ++ reportParts ++ [.JST, .jst, .lbk]
  | .clusterSubstitution .. | .jstSubcmdGo .. =>
      reportParts ++ [.JST, .jst]
  | .programBankWrite .. =>
      answerParts ++ [.JST, .jst]
  | .demotion .. | .queueCreate .. =>
      answerParts ++ [.JNL]
  | .targetEvaluation .. =>
      [.LBK, .lbk]
  | .lookbackFrameCommit .. =>
      reportParts ++ [.JNL, .LBK, .jnl, .lbk, .hif]
  | .abandon .. | .poselate .. =>
      reportParts ++ [.LBK, .lbk]
  | .converterReady .. =>
      [.WFP]
  | .wfpPaircfgWrite .. | .converterOverRange .. =>
      reportParts ++ [.WFP]
  | .hsrcWrite .. | .corswap .. | .fswap .. | .mswap .. =>
      reportParts ++ [.WFP, .wfp]
  | .correctionSwapApplied .. =>
      reportParts ++ [.WFP, .jnl, .wfp, .plb]
  | .filterSwapApplied .. | .gateOpen .. =>
      [.WFP, .wfp]
  | .gateClose .. =>
      recordParts ++ reportParts ++ [.WFP, .wfp, .hbm]
  | .edgeTrigger .. | .shotTrigger .. | .autoTrigger .. | .force .. | .drainDelivery .. | .drainLevelTick .. =>
      recordParts ++ reportParts
  | .dogArm .. =>
      reportParts ++ [.DOG, .dog]
  | .dogStop .. =>
      [.DOG]
  | .captureComplete .. =>
      recordParts ++ reportParts ++ [.hbm]
  | .trsKey .. | .budload .. | .budswap .. =>
      reportParts ++ [.TRS, .trs]
  | .keyWindowExpiry .. | .supplyClear .. =>
      [.TRS]
  | .keySequenceExpiry .. | .heartbeat .. | .bucketRollover .. =>
      [.trs]
  | .darkreq .. | .limpRecovery .. =>
      [.PEG, .BTN, .TRS, .btn, .peg, .jnl, .trs, .dwl, .fresh]
  | .clockFault .. =>
      reportParts ++ [.CLK, .PEG, .BTN, .TRS, .btn, .peg, .jnl, .trs, .dwl, .fresh]
  | .clockFaultClear .. =>
      [.CLK, .trs]
  | .mgmtTakeover .. | .coreTest .. | .sresetNStuck .. | .hbmRowSpare .. | .faultReport .. | .entryFlush .. =>
      reportParts
  | .inputSample .. =>
      reportParts ++ [.trs]
  | .offPulse .. =>
      []
  | .roundTick .. =>
      resetParts ++ [.thm]
  | .throttleStepDown .. =>
      reportParts ++ [.THM, .thm]
  | .sensfail .. =>
      reportParts ++ [.THM]
  | .slotResult .. | .refenWrite .. | .pinClamp .. =>
      reportParts ++ [.SIL, .sil]
  | .silSwap .. | .refrdy .. =>
      [.SIL, .sil]
  | .refloss .. =>
      reportParts ++ [.SIL]
  | .calibrationRun .. =>
      reportParts ++ [.SIL, .PLB, .jnl, .sil, .plb]
  | .calibrationPeriod .. | .plbCmdCd .. | .plbCmdWf .. | .plbCmdHk .. =>
      [.SIL, .PLB, .sil, .plb]
  | .plbCmdLane .. | .laneAdaptPeriod .. | .trainingComplete .. | .fomlow .. =>
      reportParts ++ [.BTN, .PLB, .DWL, .btn, .plb, .dwl, .fresh]
  | .plbCmdSave .. | .savePeriod .. =>
      [.FWU, .plb, .fwu, .flash]
  | .interleaveRunDone .. =>
      reportParts ++ [.WFP, .PLB, .wfp, .plb]
  | .rznoref .. =>
      reportParts ++ [.PLB, .plb]
  | .quiet .. =>
      reportParts ++ [.PLB]
  | .queueDoorbell .. | .commandDoorbell .. | .nop .. | .queueResume .. | .queueClose .. | .queueFilter .. | .headWordPoll ..
  | .wedge .. =>
      answerParts
  | .bulkDoorbell .. =>
      reportParts ++ [.HIF, .hif]
  | .scanStart .. =>
      answerParts ++ [.PEG, .peg]
  | .scanStop .. =>
      answerParts ++ [.PEG, .boot, .peg]
  | .timeSet .. =>
      answerParts ++ [.CLK, .clk]
  | .epochCommit .. | .epochCommitExecution .. =>
      answerParts ++ [.PEG, .JST, .BTN, .TNN, .DWL, .btn, .peg, .jst, .trs, .dwl, .fresh]
  | .epochEffective .. =>
      recordParts ++ reportParts ++ [.JST, .BTN, .lbk, .wfp]
  | .tableLoad .. =>
      answerParts ++ [.GRT, .plb, .hbm]
  | .progLoad .. =>
      answerParts ++ [.JST, .FWU, .jst]
  | .pose .. =>
      answerParts ++ [.LBK, .lbk]
  | .fwStage .. =>
      answerParts ++ [.FWU, .fwu, .fresh]
  | .fwLive .. =>
      answerParts ++ [.FWU, .boot, .jst, .fwu]
  | .liveClusterStep .. =>
      answerParts ++ [.JST, .FWU, .boot, .jst, .fwu]
  | .settingsSave .. =>
      answerParts ++ [.FWU, .fwu, .flash]
  | .subscriberDelivery .. =>
      answerParts ++ recordParts ++ [.PEG, .JST, .BTN, .TRS, .btn, .jst, .lbk, .trs, .dwl, .hbm, .fresh]
  | .interruptCoalesce .. =>
      [.hif]
  | .descriptorComplete .. =>
      recordParts ++ reportParts ++ [.PEG, .JST, .BTN, .TRS, .PUR, .GRT, .btn, .jst, .lbk, .trs, .dwl, .hbm, .fresh]
  | .abort .. =>
      reportParts ++ [.PUR, .hif, .hbm, .fresh]
  | .runClear .. =>
      reportParts ++ [.PUR, .hif]
  | .linkDown .. | .busMasterDisable .. | .lathDrop .. | .pcieLaneRemove .. | .configurationRequest .. =>
      answerParts ++ [.hbm, .fresh]
  | .linkUp .. =>
      [.HIF]
  | .receiverLock .. | .lockLoss .. | .trainingRetry .. | .train .. | .nak .. | .retryTimeout .. | .returnedFrame .. =>
      reportParts ++ [.BTN, .DWL, .btn, .dwl, .fresh]
  | .autopol .. | .tieUnitUnheard .. =>
      [.DWL]
  | .backgroundTrim .. | .helloSend .. | .sync .. | .ack .. =>
      [.DWL, .dwl, .fresh]
  | .hello .. | .syncdata .. | .frameann .. =>
      reportParts ++ [.DWL, .dwl, .fresh]
  | .syncSend .. =>
      [.dwl, .fresh]
  | .boundaryFix .. =>
      reportParts ++ [.DWL, .peg, .dwl]
  | .codebook .. =>
      [.DWL, .peg, .dwl, .fresh]
  | .dwlPtestWrite .. =>
      reportParts ++ [.GLB, .DWL, .dwl]
  | .begin .. | .baud .. =>
      [.fwu]
  | .chunk .. | .recoveryCommit .. | .eraseset .. =>
      [.FWU, .fwu, .flash]
  | .progsigSet .. =>
      [.FWU]
  | .patrolScrub .. | .fltRdseqhiWrite .. =>
      recordParts ++ reportParts ++ [.PEG, .JST, .BTN, .TRS, .btn, .jst, .lbk, .trs, .dwl, .hbm, .fresh]
  | .injectSymbolError .. | .injectTwoSymbolError .. | .injectEngineFault .. | .injectClusterFault .. | .injectTdcFail ..
  | .injectPllLoss .. | .injectHeartbeatStop .. | .injectLaneErrors .. | .injectLathError .. | .injectRingIdle .. =>
      answerParts ++ recordParts ++ [.CLK, .KRF, .JST, .TRS, .krf, .jst, .lbk, .trs, .plb, .hbm, .fresh]
  | .injlock .. =>
      [.FLT]
  | .glbIntctlArm .. =>
      reportParts ++ [.GRT]
  | .registerWrite .. | .jtagAccess .. =>
      everyPart ++ resetParts ++ [.hbm]
  | .registerRead .. =>
      everyBlock ++ reportParts ++ [.latch, .krf]
  | .darkNRelease .. =>
      [.TRS, .jnl, .trs]
  | .fwStageDone .. =>
      answerParts ++ [.FWU, .plb, .fwu, .flash, .fresh]

end Sys2Proof.Machine
end

