-- ==== Sys2Proof/Safety.lean ====
section
/-!
DEFINITION. What claims about whole runs speak of: the canonical form of the sparse stores.
-/
namespace Sys2Proof.Machine

/-- The register table is in canonical form: rising keys and no entry at its reset value. -/
def State.regsWf (s : State) : Bool := mapWf regReset s.regs

/-- Memory.wf: HBM and the boot flash are in canonical form. -/
def Memory.wf (s : State) : Bool := mapWf (fun _ => (0 : Byte)) s.hbm && mapWf (fun _ => (0xFF : Byte)) s.flash

/-- The canonical form of every sparse store of bytes and registers. -/
def State.wf (s : State) : Bool := s.regsWf && Memory.wf s

end Sys2Proof.Machine
end

