-- ==== Sys2Proof/Certificates/Slice0/Obligations.lean ====
section
/-!
DEFINITION. The statements for the provers, each from the rules of the spec that it cites. A statement about a command says that
exec answers a next state (Completes) and what holds of it; the definitions before the statements are the vocabulary they share.
-/
namespace Sys2Proof.Machine

/-- The command `i` completes from `s`: exec answers a next state, and `P` holds of it. -/
def Completes (i : Instr) (s : State) (P : State → Prop) : Prop := ∃ t, exec i s = .next t ∧ P t

/-- Neither direction of a ring is made to send IDLE only (R467). -/
def sendsBoth (s : State) (r : Nat) : Prop := s.idles (2 * r) = false ∧ s.idles (2 * r + 1) = false

/-- The two fields that a report to a full fault log FIFO changes (R464). -/
def reportFlds : List Fld := [R.FLT_OVERFLOW_CNT, R.FLT_INTSTAT_OVERFLOW]

/-- Every register field but those listed and those of `summaryKey` keeps its value. -/
def KeepsRegs (l : List Fld) (s t : State) : Prop :=
  ∀ f : Fld, (∀ g ∈ l, f.key ≠ g.key) → ¬ summaryKey f.key → t.rd f = s.rd f

/-- Every byte of HBM keeps its value. -/
def KeepsHbm (s t : State) : Prop := ∀ a, t.hbmByte a = s.hbmByte a

/-- Every byte of the boot flash keeps its value. -/
def KeepsFlash (s t : State) : Prop := ∀ a, t.flashByte a = s.flashByte a

/-- Every byte of HBM and of the boot flash keeps its value. -/
def KeepsMemory (s t : State) : Prop := KeepsHbm s t ∧ KeepsFlash s t

/-- The frame of a command that writes only the register fields listed. -/
def Frame (l : List Fld) (s t : State) : Prop := KeepsRegs l s t ∧ KeepsMemory s t

/-- The bytes for a host address leave in writes of at most Max Payload Size (R397). -/
def Sent (addr : Nat) (bytes : List Byte) (s t : State) : Prop :=
  ∀ p ∈ hostPieces s.maxPayload bytes.length addr bytes, Emit.hostWrite p.1 p.2 ∈ t.out

/-- PORN_N and the rails are good, and no full reset runs. -/
def ResetMayStart (s : State) : Prop :=
  s.boot.pornLow = false ∧ s.boot.powered = true ∧ s.boot.inReset = false

/-- Outside the blocks listed every register field is at its reset value, unless it survives a full reset (R479). -/
def RegsAfterReset (skip : List Nat) (s t : State) : Prop :=
  ∀ f : Fld, (∀ b ∈ skip, blockOf (f.key / 8) ≠ some b) → ¬ summaryKey f.key → t.rd f = if survives f.key then s.rd f else regReset f.key

/-- What the start of a full reset from the source `cause` leaves (R48 to R50, R483). -/
def FullResetBegun (cause : Nat) (s t : State) : Prop :=
  t.boot.inReset = true ∧ t.boot.stalled = false ∧ t.boot.linked = false
    ∧ t.rd R.GLB_RSTCAUSE_CAUSE = cause ∧ t.rd R.GLB_RSTCAUSE_JOINED = 0
    ∧ t.rd R.GLB_RSTCAUSE_RSTCNT = min (s.rd R.GLB_RSTCAUSE_RSTCNT + 1) 65535
    ∧ t.trs.resetHold = true ∧ t.rd R.TRS_STATE_DARKCMD = 0 ∧ t.rd R.TRS_STATE_STATE = s.rd R.TRS_STATE_STATE
    ∧ t.peg.bursts = [] ∧ t.btn.fires = [] ∧ t.tnn.phaseLoop = false ∧ t.clk = s.clk
    ∧ KeepsHbm s t ∧ (s.fwu.job = none → KeepsFlash s t)

/-- A source that arrives before logic release joins (R53): only JOINED changes. -/
def OnlyJoins (s t : State) : Prop :=
  t.rd R.GLB_RSTCAUSE_JOINED = 1 ∧ t.boot.inReset = true ∧ Frame [R.GLB_RSTCAUSE_JOINED] s t

/-- Start-up stands at stage `n` with the rails good, and has not ended. -/
def StandsAt (n : Nat) (s : State) : Prop :=
  s.rd R.GLB_STATUS_STAGE = n ∧ s.boot.inReset = false ∧ s.boot.pornLow = false ∧ s.boot.powered = true
    ∧ s.boot.ended = false ∧ s.boot.gated = false

/-- GLB_STATUS. -/
def stageFlds : List Fld := [R.GLB_STATUS_STAGE, R.GLB_STATUS_CAUSE, R.GLB_STATUS_DETAIL]

/-- Field T of a start-up line (R60): milliseconds since PORN_N rose, wrapping at 999,999. -/
def lineTime (s : State) : Nat := s.clk.porTicks / 200000 % 1000000

/-- What the checks of R426 say of the chosen slot. -/
def slotImage (s : State) : Nat × Option Image :=
  let base := slotBase s.boot.slotB
  s.checkImage (s.flashBytes base (min slotSize (1024 + fieldAt (s.flashBytes base 24) 20 4))) [1]

/-- The state once the proven standard set is loaded. -/
def standardLoaded (s : State) : State :=
  { s with jst := { s.jst with sets := s.standardSet :: s.jst.sets.filter (fun p => p.num != 0) } }

/-- JST_PROOF and its failure flag. -/
def proofFlds : List Fld := [R.JST_PROOF_CODE, R.JST_PROOF_SLOT, R.JST_PROOF_WORST, R.JST_INTSTAT_PROOFFAIL]

/-- A start-up line of stage RINGS that names a ring as not up (R60). -/
def ringReported (e : Emit) (r : Fin 8) : Bool :=
  match e with
  | .line 9 _ 0x0C m => m.testBit r
  | _ => false

/-- The size of a waiting discipline step. -/
def disciplineSize : PendStep → Nat
  | .discipline c => c.natAbs
  | _ => 0

/-- A waiting step without the discipline of PPS. -/
def timeSetOnly : PendStep → PendStep
  | .timeSet u => .timeSet u
  | _ => .none

/-- Current, width and the mask that the exposure monitor leaves of a fire once later fires near it have been dropped (R107 to R109). -/
def allowedOf (s : State) (f : Fire) : Nat × Nat × BitVec 32 :=
  let (i, w) := (s.fireDrive f).getD (0, 0)
  let s0 := (s.laterNear f).foldl State.conflictFire s
  let cols := if s0.blanked f.driver (f.row % 32) then [] else (s0.fireCols f).filter (s0.colStays f)
  (i, w, (s0.judgeFire { f with cur := i, width := w } (cols.map (fun c => (c, (s0.sight f.epoch f.row c).budget)))).2)

/-- The check character of ECHO_R (R91). -/
def echoChk (n : Nat) (hold : BitVec 8) : BitVec 8 := BitVec.ofNat 8 (addrOf n) ^^^ hold ^^^ 0x5A

/-- The run of echoes of a direction that is under way on a driver. -/
def echoRun (s : State) (n : Nat) (ccw : Bool) : Option EchoRun := if ccw then (s.drv n).echoCcw else (s.drv n).echoCw

/-- What an echo check may change in the registers. -/
def echoFlds (n : Nat) : List Fld :=
  [R.BTN_DDLY_ACW n, R.BTN_DDLY_ACCW n, R.BTN_DRES_RES n, R.BTN_DRES_TRIMS n, R.BTN_INTSTAT_CALDRIFT, R.BTN_INTSTAT_ASYM,
   R.BTN_STATUS_CALBUSY, R.BTN_CTL_RECAL] ++ (List.range 16).map R.DWL_PINJ_CNT ++ reportFlds

/-- What a write of reserved bits changes (R12): nothing where none of them is written with 1. -/
def rsvdFlds (hit : Bool) : List Fld :=
  if hit then [R.GLB_ACCERR_RSVDWR, R.GLB_LASTERR_OFFSET, R.GLB_LASTERR_WRITE, R.GLB_LASTERR_KIND] else []

/-- Truss has gone from ARMED to LOCKOUT with a cause: no light, DARK_N low, every output low (R294, R304, R312). -/
def LockedOut (cause : Nat) (s t : State) : Prop :=
  t.trsState = 3 ∧ t.rd R.TRS_LASTCAUSE_CAUSE = cause ∧ t.rd R.TRS_STATE_LIGHT = 0 ∧ t.rd R.TRS_STATE_DARKCMD = 0
    ∧ (t.rd R.TRS_STATE_SOUTCMD % 16 = 0) ∧ t.rd R.TRS_INTSTAT_STATECHG = 1 ∧ t.trs.hushReq = true ∧ KeepsMemory s t

/-- Truss has gone to HALT with a cause: no light, DARK_N low, every output low. -/
def Halted (cause : Nat) (s t : State) : Prop :=
  t.trsState = 4 ∧ t.rd R.TRS_LASTCAUSE_CAUSE = cause ∧ t.rd R.TRS_STATE_LIGHT = 0 ∧ t.rd R.TRS_STATE_DARKCMD = 0
    ∧ (t.rd R.TRS_STATE_SOUTCMD % 16 = 0) ∧ t.rd R.TRS_INTSTAT_STATECHG = 1 ∧ t.trs.hushReq = true ∧ KeepsMemory s t

/-- The gang `h` of row `r` of driver `n` fits: in time, outside dead angles, on the columns `cols` within the limits, with the tags `tags`
and the bookings `books` (R126, R132, R133, R141, R194). -/
def GangFits (n r : Nat) (h : HeldGang) (cols : List GangCol) (tags : List Nat) (books : List Booking) (s : State) : Prop :=
  let c := s.epochCfg s.peg.active
  let row := 32 * n + r
  let shots := s.gangShots n c h.offsets
  let close := shots.getLastD 0 + 524288
  s.canPlan n = true ∧ (s.plan n).held = none ∧ (s.plan n).idle = false ∧ s.nextRow n (s.plan n).row = some r
    ∧ s.gangSpec c n row (s.columnsAt c s.peg.active row ((s.gangShots n c [0]).headD 0)) = some (h, false)
    ∧ close ≤ s.peg.epochLsb + 512 * s.peg.period ∧ shots.any s.deadAt = false ∧ s.throttle = 0
    ∧ s.limitCols h.k shots (s.columnsAt c s.peg.active row ((shots.headD 0 + shots.getLastD 0) / 2)) = (cols, []) ∧ cols ≠ []
    ∧ s.freeTags h.k = some tags
    ∧ s.bookAll s.liveBookings (if h.listen then [] else cols.zipIdx.map (fun x =>
        s.bookingFor x.1.sight.channel (s.peg.nextBurst + x.2) close s.peg.active)) = some books

/-- What a plan step of driver `n` adds is its own: open bursts under the active epoch and planned fires, with tags in use. -/
def AddsOwnGang (n : Nat) (s t : State) : Prop :=
  (∀ b ∈ t.peg.bursts, b ∈ s.peg.bursts ∨ (b.driver = n ∧ b.row / 32 = n ∧ b.stage = .open ∧ b.epoch = s.peg.active ∧ b.tags.all t.peg.tags.contains = true))
    ∧ (∀ f ∈ t.btn.fires, f ∈ s.btn.fires ∨ (f.driver = n ∧ f.row / 32 = n ∧ f.stage = .planned ∧ t.peg.tags.contains f.tag = true))
    ∧ KeepsMemory s t

/-- What the close of an event may write: its counter, the channel's quiet mark and the mismatch count of its group. -/
def closeFlds (ch : Nat) : List Fld :=
  [R.KRF_EVCNT_CNT ch, R.PLB_QUIET_CH (ch / 32), R.PLB_CDQ_QUIET ch, R.KRF_SPSTAT_MISCNT (ch / 32)]

/-- The faults that stop an engine which runs an item (R211). -/
def faultsItem : EngineFaultKind → Bool
  | .ecc c => !c
  | .access a k => !engAllows a.toNat k
  | .commitWord => true
  | .cluster => false
  | .girt _ _ => false

/-- The command `e` of opcode `op` is all that a ring which runs holds (R376, R377). -/
def AtFront (r op : Nat) (e : BitVec 512) (s : State) : Prop := s.frontCmd r op = some e ∧ (s.cmdRing r).fetched = [e]

/-- The one command of a ring has been answered: its completion entry is written to host memory and retained (R378, R382). -/
def Answered (r : Nat) (e : BitVec 512) (status result : Nat) (s t : State) : Prop :=
  (t.cmdRing r).done.head? = some (cmdCid e, status, result) ∧ t.lastCid r = cmdCid e ∧ (t.cmdRing r).fetched = []
    ∧ (t.cmdRing r).written = (s.cmdRing r).written + 1 ∧ t.rd (R.HIF_CRSTAT_BUSY r) = 0
    ∧ t.rd R.HIF_CMDS_CNT = min (s.rd R.HIF_CMDS_CNT + 1) 0xFFFFFFFF
    ∧ Sent (s.rd (R.HIF_CCBASELO_ADDR r) + 2 ^ 32 * s.rd (R.HIF_CCBASEHI_ADDR r) + 16 * ((s.cmdRing r).written % 2 ^ s.rd (R.HIF_CRCFG_LOG2 r)))
        (cplBytes (cmdCid e) status (passBit (s.cmdRing r).written (s.rd (R.HIF_CRCFG_LOG2 r))) result false) s t

/-- The registers that an answer writes. -/
def cplFlds (r : Nat) : List Fld :=
  [R.HIF_CRLASTLO_CID r, R.HIF_CRLASTHI_CID r, R.HIF_CMDS_CNT, R.PUR_KIB_CNT, R.HIF_CRSTAT_BUSY r, R.HIF_CRSTAT_OPCODE r]

/-- Truss's copy of the BUDGET column as an epoch commit reads it (R297). -/
def budgetsTaken (s : State) : List (Bool × Nat) :=
  if s.hif.staged.any (fun p => p.1 == 1) then s.readBudgets s.nextCfg.sightAddr
  else match s.trs.budCopy.find? (fun p => p.1 == s.peg.active) with | some p => p.2 | none => []

/-- Queue `q` is open with the record `x` (R405). -/
def QueueOpen (q : Nat) (x : SubQueue) (s : State) : Prop := s.queue q = some x ∧ s.qState q = 1

/-- A subscriber completion of the queue `x` has left for its completion queue (R387). -/
def Notified (x : SubQueue) (buf : Nat) (flags : BitVec 16) (offset count first scan : Nat) (s t : State) : Prop :=
  Sent (x.cqBase + 32 * (x.written % 2 ^ x.cqLog2))
    (leBytes 2 buf ++ leBytes 2 ((flags ||| x.owed).toNat / 2 * 2 + passBit x.written x.cqLog2) ++ leBytes 4 offset ++ leBytes 4 count
      ++ leBytes 6 first ++ leBytes 6 scan ++ leBytes 4 (min x.skipped (2 ^ 32 - 1)) ++ leBytes 4 s.jnl.gen.toNat) s t

/-- The instant from which a swap's banks compute: T, and not before the swap before it (R271). -/
def bankEnd (s : State) (l n : Nat) : Int := ((s.lane l).olds.map (·.until_)).foldl max (ticksOf n)

/-- A trigger of unit `u` at the root tick `x` opens a capture of kind `k`: an entry of the ring and a number of its own (R282, R283). -/
def Captured (u k : Nat) (x : Int) (s t : State) : Prop :=
  (t.dogU u).caps.map (fun c => (c.seq, c.trig, c.len, c.trigT)) = (s.dogU u).caps.map (fun c => (c.seq, c.trig, c.len, c.trigT))
        ++ [(s.dog.nextSeq, k, s.uLen u, x - ticksOf (s.frameOfTick x).2)]
    ∧ t.rd (R.DOG_USTAT_BUSY u) = 1 ∧ t.rd (R.DOG_UCAPS_CNT u) = min (s.rd (R.DOG_UCAPS_CNT u) + 1) 0xFFFFFFFF
    ∧ (t.dog.ring.getLast?.map (fun e => (e.seq, e.offset, e.size, e.full))) = some (s.dog.nextSeq, s.dog.tail, entrySize (s.uLen u), false)
    ∧ KeepsMemory s t

/-- Unit `u` takes a trigger at the root tick `x`: it is live, the holdoff is over, the rate level is 0, and the ring has room (R281, R283, R285). -/
def TakesTrigger (u : Nat) (x : Int) (s : State) : Prop :=
  s.dogLive u = true ∧ s.dogBusy u x = false ∧ s.rateLevel = 0 ∧ (s.dogU u).rateCnt = 0 ∧ (s.dogU u).everyCnt = 0
    ∧ s.rd R.DOG_CTL_RINGMODE = 0 ∧ s.ringUsed + entrySize (s.uLen u) ≤ s.ringBytes

/-- The registers that follow the ring (R283, R284). -/
def ringFlds : List Fld :=
  [R.DOG_FILL_MIB, R.DOG_OLDEST_OFS, R.DOG_STATUS_FILLLVL, R.DOG_STATUS_DRAINLVL, R.DOG_STATUS_RLVL, R.DOG_INTSTAT_RATE] ++ reportFlds

/-- The samples of a lane's gate from the codes taken (R272). -/
def gateSamples (s : State) (l : Nat) (g : Gate) (codes : List (BitVec 10)) : List OutSample :=
  let n := max 1 (s.rd (R.WFP_GATELEN_LEN l))
  let gs := s.stretches l (s.detStage l)
  let first := firstOut gs g.at_
  (s.samples l (s.detStage l) first (outAfter gs first (n - 1)) codes).take n

/-- The instant of an edge trigger of unit `u`: interpolated between the samples either side of its level (R278). -/
def edgeInstant (s : State) (u : Nat) (before after : BitVec 16) (taken : Int) : Int :=
  let gs := s.stretches u (s.hsrc u)
  stampOf gs taken - divRound ((after.toInt - s.rdS (R.DOG_ULEVEL_LEVEL u)) * (taken - prevOut gs taken)) (after.toInt - before.toInt).natAbs

/-- An injection may act: the key window is open and injections are not locked (R467). -/
def MayInject (s : State) : Prop := s.rd R.TRS_STATE_KEYOPEN = 1 ∧ s.rd R.FLT_CTL_INJLOCK = 0

/-- Link `k` accepts the frame `f` whose bytes are `bs`, and it is meant for this unit (R413, R415, R416). -/
def Accepts (k : Nat) (bs : List Byte) (f : TieFrame) (s : State) : Prop :=
  (s.link k).up = true ∧ tieParse bs = some f ∧ f.lseq = (s.link k).rxSeq ∧ f.dest = 255 ∧ f.orig < 8 ∧ f.orig ≠ s.rd R.DWL_TIECFG_INDEX ∧ s.tied = true

/-- The link layer's part of an acceptance: the next LSEQ is expected, and the frame is acknowledged. -/
def LinkAccepted (k : Nat) (f : TieFrame) (s t : State) : Prop :=
  (t.link k).rxSeq = (f.lseq + 1) % 65536 ∧ (t.link k).naked = none ∧ Emit.tieAck k f.lseq ∈ t.out ∧ (t.rd R.DWL_TIESTAT_SEEN).testBit f.orig = true
    ∧ KeepsMemory s t

/-- The descriptor at the front of bulk channel `c` has ended: its completion is written to host memory, and the channel goes on (R398, R401). -/
def Ended (c : Nat) (d : Desc) (status : Nat) (late : Bool) (residue bytes : Nat) (s t : State) : Prop :=
  (t.bulk c).descs = (s.bulk c).descs.drop 1 ∧ (t.bulk c).written = (s.bulk c).written + 1
    ∧ t.rd (R.PUR_CHSTAT_HEAD c) = (s.rd (R.PUR_CHSTAT_HEAD c) + 1) % 65536
    ∧ (status ≠ 0 → t.rd R.PUR_INTSTAT_DESCERR = 1)
    ∧ Sent (s.rd (R.PUR_CQBASELO_ADDR c) + 2 ^ 32 * s.rd (R.PUR_CQBASEHI_ADDR c) + 16 * ((s.bulk c).written % 2 ^ s.rd (R.PUR_CHCFG_DLOG2 c)))
        (bulkCplBytes d.id status (passBit (s.bulk c).written (s.rd (R.PUR_CHCFG_DLOG2 c))) late (status == 0 && !late) residue bytes) s t

/-- Where a save goes: the copy that is not in force (R441). -/
def savedAt (s : State) : Nat := storeBase (match s.storeNow with | some (c, _) => !c | none => false)

/-- The generation that a save carries (R441). -/
def savedGen (s : State) : Nat := match s.storeNow with | some (_, x) => (x.sgen + 1) % 2 ^ 32 | none => 1

/-- The bytes of the store that a save of records writes (R439, R442). -/
def savedBytes (l : List SetRec) (s : State) : List Byte :=
  Store.bytes { sgen := savedGen s, schema := match s.fwu.running with | some i => imgSchema i.header | none => 0, recs := l }

/-- The store has been saved with a list of records, and no other byte of memory has changed. -/
def Saved (l : List SetRec) (s t : State) : Prop :=
  t.fwu.records = l ∧ t.rd R.FWU_SETGEN_SGEN = savedGen s ∧ t.rd R.FWU_INTSTAT_SAVED = 1
    ∧ t.rd R.FWU_SAVES_CNT = min (s.rd R.FWU_SAVES_CNT + 1) 0xFFFFFFFF
    ∧ t.flash = storeBytes 0xFF s.flash (savedAt s) (savedBytes l s) ∧ t.hbm = s.hbm

/-- The registers that a save writes. -/
def saveFlds : List Fld := [R.FWU_SETGEN_SGEN, R.FWU_SCHEMA_STORE, R.FWU_SAVES_CNT, R.FWU_INTSTAT_SAVED]

/-- The staged image is the TRIAL image that the boot header names, and it may replace what runs (R437, R443). -/
def MayReplace (i : Image) (h : BootHead) (s : State) : Prop :=
  s.stagedTrial = some (i, h) ∧ s.fwu.job = none ∧ i.sect 2 = s.fwu.truss ∧ s.storeNow.all (fun x => storeReadable i.header x.2) = true

/-- A recovery command has been answered with a result (R444). -/
def RecAnswered (via : RecPath) (op res : Nat) (t : State) : Prop :=
  if recUart via = true then Emit.uartReply (uartFrame op res (Config.replyArg op) []) ∈ t.out else t.fwu.mailbox.rcmd = op ∧ t.fwu.mailbox.busy = false ∧ t.fwu.mailbox.res = res

/-- An offset with no register, outside the reserved targets of Girt (R450, R475). -/
def Unassigned (off : Nat) : Prop := findReg off = none ∧ (off < 0x4C0564 ∨ 0x4C0600 ≤ off)

/-- An access has been counted as R475 says. -/
def AccessCounted (off : Nat) (write : Bool) (s t : State) : Prop :=
  t.rd R.GLB_ACCERR_BADACC = min (s.rd R.GLB_ACCERR_BADACC + 1) 65535 ∧ t.rd R.GLB_LASTERR_OFFSET = off ∧ t.rd R.GLB_LASTERR_KIND = 0
    ∧ t.rd R.GLB_LASTERR_WRITE = write.toNat ∧ t.rd R.GLB_INTSTAT_ACCERR = 1

/-- The registers that the count of R475 writes. -/
def accFlds : List Fld :=
  [R.GLB_ACCERR_BADACC, R.GLB_LASTERR_OFFSET, R.GLB_LASTERR_WRITE, R.GLB_LASTERR_KIND, R.GLB_INTSTAT_ACCERR]

/-- The registers that a refusal of Girt's writes (R446). -/
def denyFlds : List Fld :=
  [R.GRT_DENY_CNT, R.GRT_LASTDENY_MASTER, R.GRT_LASTDENY_TARGET, R.GRT_LASTDENY_WRITE, R.GRT_LASTADDRLO_ADDR, R.GRT_LASTADDRHI_ADDR,
   R.GRT_INTSTAT_DENY] ++ reportFlds

end Sys2Proof.Machine

open Sys2Proof Sys2Proof.Machine

/-- The model's queue: where a command stands at the front, step is exec of that command on the state whose queue is the rest.
  Commands reach the part one after another, those of a ring in order (R376), register accesses one by one (R474); the queue itself is
  the model's (log entry 1, DESIGN CHOICE). -/
def Obligations.StepTakesTheFront : Prop :=
  ∀ (c : Instr) (rest : List Instr) (s : State), s.pending = c :: rest → step s = exec c { s with pending := rest }

/-- Log entry 2, DESIGN CHOICE: on an empty queue one 200 MHz cycle passes. The time since PORN_N rose grows by one cycle, the root
  count and device time grow while the root PLL has locked (R16, R43), HBM and the flash keep every byte; with PORN_N low or the rails
  down nothing changes. -/
def Obligations.AnIdleStepIsOneCycle : Prop :=
  ∀ s : State, s.pending = [] → step s = .next s.tick
    ∧ ((s.boot.pornLow = true ∨ s.boot.powered = false) → s.tick = s)
    ∧ (s.boot.pornLow = false → s.boot.powered = true →
      s.tick.clk.porTicks = s.clk.porTicks + 1 ∧ s.tick.clk.ticks = (if s.clk.running then s.clk.ticks + 1 else s.clk.ticks)
        ∧ s.tick.pending = [] ∧ KeepsMemory s s.tick)

/-- R36, R48: in State.reset every register field reads the value that the register chapters give for reset, HBM reads 0 where nothing
  is written (log entry 5, DESIGN CHOICE) and the flash reads erased; the stores are in canonical form, no laser shot is pending, and
  the queue is empty. -/
def Obligations.ResetIsCanonicalAndEmpty : Prop :=
  State.reset.wf = true ∧ (∀ f : Fld, State.reset.rd f = regReset f.key) ∧ (∀ a, State.reset.hbmByte a = 0) ∧ (∀ a, State.reset.flashByte a = 0xFF)
    ∧ State.reset.btn.fires = [] ∧ State.reset.peg.bursts = [] ∧ State.reset.pending = []

/-- For every state in which the register table, HBM and the boot flash are in canonical form (rising keys, no entry at what an
  unlisted key reads as), the state after any step is too, whatever command stands at the front. -/
def Obligations.StoresStayCanonical : Prop :=
  ∀ s t : State, s.wf = true → step s = .next t → t.wf = true

/-- The frame of all commands at once: for each command the table mayChange names the register blocks, the blocks' own records and the
  memories that it may change, and every other part is the same after it; of the registers, GLB_INTCTL.ARMED and the MSI-X pending
  bits may change with the summary message (R484). -/
def Obligations.EveryCommandKeepsOtherParts : Prop :=
  ∀ (c : Instr) (s t : State), exec c s = .next t → ∀ p : Part, p ∉ mayChange c → p.same s t

/-- The queue of waiting commands belongs to the senders: whatever a command does to the part, the commands that wait behind it are
  those that waited. -/
def Obligations.NoCommandTouchesTheQueue : Prop :=
  ∀ (c : Instr) (s t : State), exec c s = .next t → t.pending = s.pending

/-- No command stops: exec answers a next state for every command of the table with whatever operands, and from every state. A command
  turned away, and one that comes at a time when the part does not hear it, completes too. -/
def Obligations.EveryCommandCompletes : Prop :=
  ∀ (c : Instr) (s : State), ∃ t, exec c s = .next t

/-- R484: Krovent sends the summary message in the first cycle in which it is armed, GVECEN is 1 and GLB_INTSUM AND GLB_SUMEN is not
  zero, and clears ARMED with it. So after any command from any state it is not the case that ARMED and GVECEN are 1 and the masked
  summary is not zero. -/
def Obligations.TheSummaryMessageNeverWaits : Prop :=
  ∀ (c : Instr) (s t : State), exec c s = .next t →
    ¬ (t.rd R.GLB_INTCTL_ARMED ≠ 0 ∧ t.rd R.HIF_CTL_GVECEN ≠ 0 ∧ t.summary ≠ 0)

/-- R434, R447: the one-time memory only gains bits. Whatever command stands at the front, and from every state, the rollback counter
  does not fall, no revoked key slot is restored, and what no FW_CONFIRM raises stays: a step whose front command is not FW_CONFIRM
  leaves the one-time memory as it was. -/
def Obligations.RollbackProtectionOnlyGrows : Prop :=
  ∀ s t : State, step s = .next t →
    s.fwu.otp.rollback ≤ t.fwu.otp.rollback ∧ (∀ k : Nat, s.fwu.otp.revoked.getLsbD k = true → t.fwu.otp.revoked.getLsbD k = true)
      ∧ ((∀ r rest, s.pending ≠ .fwConfirm r :: rest) → t.fwu.otp = s.fwu.otp)

/-- R291, R315: HALT is left by power-on reset only. From every state in which TRS_STATE.STATE reads HALT, every step leaves it at
  HALT, but for the commands that are the loss of power, PORN_N low and the rise of PORN_N. -/
def Obligations.HaltIsLeftByPowerAlone : Prop :=
  ∀ s t : State, s.rd R.TRS_STATE_STATE = 4 → step s = .next t →
    (∀ rest b, s.pending ≠ .pornNLow :: rest ∧ s.pending ≠ .powerLoss :: rest ∧ s.pending ≠ .powerOnReset b :: rest) →
      t.rd R.TRS_STATE_STATE = 4

/-- R36, R37, R48, R56, R58, R498: PORN_N low, the rising edge of PORN_N and the loss of power put every register field to its reset
  value; HBM contents are lost, the one-time memory stays, and the boot flash unless a slot is being written; the rising edge samples
  BOOTSEL and shows stage TRUSS_TEST; DARK_N goes low where it was high; CLKREQ_N is driven low while the part is powered (R498). -/
def Obligations.PowerEventsRestart : Prop :=
  (∀ (s : State), Completes .pornNLow s (fun t =>
      t.boot.pornLow = true ∧ (∀ f : Fld, t.rd f = regReset f.key) ∧ t.hbm = [] ∧ (s.fwu.job = none → t.flash = s.flash)
        ∧ t.fwu.otp = s.fwu.otp ∧ (s.on R.TRS_STATE_DARKCMD = true → Emit.darkN false ∈ t.out)))
  ∧ (∀ (b : BitVec 2) (s : State), Completes (.powerOnReset b) s (fun t =>
      t.boot.pornLow = false ∧ t.boot.powered = true ∧ t.boot.clkreqLow = true ∧ t.boot.bootsel = b ∧ t.rd R.GLB_STATUS_STAGE = 1
        ∧ (∀ f : Fld, f.key ∉ [R.GLB_STATUS_STAGE.key, R.GLB_STATUS_CAUSE.key, R.GLB_STATUS_DETAIL.key] → t.rd f = regReset f.key)
        ∧ t.trs = .reset ∧ t.clk = .reset ∧ t.hbm = [] ∧ (s.fwu.job = none → t.flash = s.flash) ∧ t.fwu.otp = s.fwu.otp))
  ∧ (∀ (s : State), Completes .powerLoss s (fun t =>
      t.boot.powered = false ∧ t.boot.clkreqLow = false ∧ (∀ f : Fld, t.rd f = regReset f.key) ∧ t.hbm = []
        ∧ (s.fwu.job = none → t.flash = s.flash) ∧ t.fwu.otp = s.fwu.otp ∧ (s.on R.TRS_STATE_DARKCMD = true → Emit.darkN false ∈
          t.out)))

/-- R48 to R50, R53, R479, R482, R483: FULLRST_N, PERST_N, a function-level reset, hot reset and the key in GLB_RST start a full reset
  with their cause wherever start-up stands: every register field outside the blocks GLB, JNL, TRS, DOG and HIF goes to its reset
  value unless R479 has it survive, bursts end, DARK_N falls, HBM keeps every byte, and the flash too unless a slot is being written.
  PERST_N and hot reset take the link down and try every lane again. A source that comes before logic release only sets JOINED. A
  wrong key only sets KEYBAD, and without the host's right on the GLB block the key starts nothing. -/
def Obligations.ResetSourcesStartFullReset : Prop :=
  (∀ (s : State), ResetMayStart s → Completes .fullrstNFall s (fun t =>
      FullResetBegun 1 s t ∧ RegsAfterReset [0, 7, 11, 13, 16] s t ∧ t.boot.fullrstHi = false
        ∧ t.rd R.HIF_STATUS_SPEED = s.rd R.HIF_STATUS_SPEED))
  ∧ (∀ (s : State), ResetMayStart s → Completes .perstNFall s (fun t =>
      FullResetBegun 5 s t ∧ RegsAfterReset [0, 7, 11, 13, 16, 21] s t ∧ t.boot.perstHi = false ∧ t.rd R.HIF_STATUS_SPEED = 0
        ∧ t.rd R.HIF_STATUS_WIDTH = 0 ∧ t.rd R.FLT_PCIE_LANEOUT = 0))
  ∧ (∀ (s : State), ResetMayStart s → s.rd R.HIF_STATUS_SPEED ≠ 0 → Completes .pcieFlr s (fun t =>
      FullResetBegun 3 s t ∧ RegsAfterReset [0, 7, 11, 13, 16] s t ∧ t.rd R.HIF_STATUS_SPEED = s.rd R.HIF_STATUS_SPEED))
  ∧ (∀ (s : State), ResetMayStart s → s.rd R.HIF_STATUS_SPEED ≠ 0 → Completes .hotReset s (fun t =>
      FullResetBegun 4 s t ∧ RegsAfterReset [0, 7, 11, 13, 16, 21] s t ∧ t.rd R.HIF_STATUS_SPEED = 0 ∧ t.rd R.HIF_STATUS_WIDTH = 0
        ∧ t.rd R.FLT_PCIE_LANEOUT = 0))
  ∧ (∀ (s : State), ResetMayStart s → s.barOn = true → rightOk (s.girtRight girtHost 64) true = true → Completes (.glbRst 0x46554C4C#32) s
  (fun t =>
      FullResetBegun 2 s t ∧ RegsAfterReset [0, 7, 11, 13, 16] s t))
  ∧ (∀ (v : Word) (s : State), s.barOn = true → rightOk (s.girtRight girtHost 64) true = true → v ≠ 0x46554C4C#32 → Completes (.glbRst v)
  s (fun t =>
      t.rd R.GLB_INTSTAT_KEYBAD = 1 ∧ t.boot = s.boot
        ∧ KeepsRegs ([R.GLB_INTSTAT_KEYBAD, R.GLB_LASTERR_OFFSET, R.GLB_LASTERR_WRITE, R.GLB_LASTERR_KIND] ++ reportFlds) s t
        ∧ KeepsMemory s t))
  ∧ (∀ (v : Word) (s : State), s.barOn = true → rightOk (s.girtRight girtHost 64) true = false → Completes (.glbRst v) s (fun t =>
      t.boot = s.boot ∧ t.rd R.GRT_INTSTAT_DENY = 1 ∧ KeepsMemory s t))
  ∧ (∀ (s : State), s.boot.pornLow = false → s.boot.powered = true → s.boot.inReset = true → Completes .fullrstNFall s (fun t =>
      OnlyJoins s t ∧ t.boot.fullrstHi = false))
  ∧ (∀ (s : State), s.boot.pornLow = false → s.boot.powered = true → s.boot.inReset = true → Completes .perstNFall s (fun t =>
      t.boot.perstHi = false ∧ t.boot.inReset = true ∧ t.rd R.GLB_RSTCAUSE_JOINED = 1 ∧ t.rd R.HIF_STATUS_SPEED = 0
        ∧ t.rd R.HIF_STATUS_WIDTH = 0 ∧ t.rd R.FLT_PCIE_LANEOUT = 0
        ∧ Frame [R.GLB_RSTCAUSE_JOINED, R.HIF_STATUS_SPEED, R.HIF_STATUS_WIDTH, R.FLT_PCIE_LANEOUT] s t))
  ∧ (∀ (s : State), s.boot.pornLow = false → s.boot.powered = true → s.boot.inReset = true → s.rd R.HIF_STATUS_SPEED ≠ 0 → Completes
  .pcieFlr s (fun t =>
      OnlyJoins s t))

/-- R34, R43, R53, R56, R58 to R60, R291, R428, R429, R444, R453: a passed self-test with every rail inside its window goes on to
  stage CLOCK; a rail outside takes Truss to LOCKOUT, or to HALT for the monitor's own rail; a failed self-test ends start-up with
  cause 1. CLOCK goes on with REFCLK and one locked PLL, logging cause 3 with only one, and starts the clock plant; with BOOTSEL 0b11
  start-up stops there; it waits with cause 2 without REFCLK and with cause 4 without lock. ROM_START waits above the start limit with
  cause 6, goes to recovery mode where BOOTSEL asks for it or no boot header is good, and else to HBM_TRAIN with the slot that the
  header names. Four trained stacks lead to IMAGE, and row repairs of a full reset become permanent; a stack that fails leads to
  recovery mode with cause 7 and its number. -/
def Obligations.EarlyStagesMoveOn : Prop :=
  (∀ (s : State), StandsAt 1 s → Completes (.trussTest true 0xFFFF#16) s (fun t =>
      t.rd R.GLB_STATUS_STAGE = 2 ∧ t.rd R.GLB_STATUS_CAUSE = 0 ∧ t.rd R.TRS_SUPSTAT_INWIN = 0xFFFF
        ∧ Emit.line 2 (lineTime s) 0 0 ∈ t.out ∧ t.trs = s.trs ∧ Frame (R.TRS_SUPSTAT_INWIN :: stageFlds) s t))
  ∧ (∀ (rails : BitVec 16) (s : State), StandsAt 1 s → rails ≠ 0xFFFF#16 → s.rd R.TRS_STATE_STATE = 0 → Completes (.trussTest true rails)
  s (fun t =>
      t.rd R.TRS_STATE_STATE = (if rails.getLsbD 15 then 3 else 4) ∧ t.rd R.TRS_STATE_DARKCMD = 0
        ∧ t.rd R.TRS_SUPSTAT_INWIN = rails.toNat ∧ t.rd R.GLB_STATUS_STAGE = 2 ∧ KeepsMemory s t))
  ∧ (∀ (rails : BitVec 16) (s : State), StandsAt 1 s → Completes (.trussTest false rails) s (fun t =>
      t.rd R.GLB_STATUS_STAGE = 1 ∧ t.rd R.GLB_STATUS_CAUSE = 1 ∧ t.boot.ended = true ∧ Emit.line 1 (lineTime s) 1 0 ∈ t.out
        ∧ t.trs = s.trs ∧ Frame stageFlds s t))
  ∧ (∀ (a b : Bool) (s : State), StandsAt 2 s → s.jtagHold = false → (a || b) = true → Completes (.clock true a b) s (fun t =>
      t.rd R.GLB_STATUS_STAGE = 3 ∧ t.rd R.GLB_STATUS_CAUSE = 0 ∧ t.rd R.CLK_STATUS_REFOK = 1 ∧ t.rd R.CLK_STATUS_PLLALOCK = a.toNat
        ∧ t.rd R.CLK_STATUS_PLLBLOCK = b.toNat ∧ t.rd R.CLK_STATUS_PLLSEL = (!a).toNat ∧ t.clk.running = true
        ∧ Emit.line 3 (lineTime s) 0 0 ∈ t.out
        ∧ ((a && b) = false → t.rd R.CLK_INTSTAT_PLLFAIL = 1 ∧ Emit.line 2 (lineTime s) 3 0 ∈ t.out)
        ∧ Frame ([R.CLK_STATUS_REFOK, R.CLK_STATUS_PLLALOCK, R.CLK_STATUS_PLLBLOCK, R.CLK_STATUS_PLLSEL, R.CLK_INTSTAT_PLLFAIL] ++
          stageFlds ++ reportFlds) s t))
  ∧ (∀ (a b : Bool) (s : State), StandsAt 2 s → s.jtagHold = true → (a || b) = true → Completes (.clock true a b) s (fun t =>
      t.rd R.GLB_STATUS_STAGE = 2 ∧ t.boot.ended = true ∧ t.clk.running = true ∧ KeepsMemory s t))
  ∧ (∀ (a b : Bool) (s : State), StandsAt 2 s → Completes (.clock false a b) s (fun t =>
      t.rd R.GLB_STATUS_STAGE = 2 ∧ t.rd R.GLB_STATUS_CAUSE = 2 ∧ t.boot.stalled = true ∧ Emit.line 2 (lineTime s) 2 0 ∈ t.out
        ∧ t.clk = s.clk ∧ Frame ([R.CLK_STATUS_REFOK, R.CLK_STATUS_PLLALOCK, R.CLK_STATUS_PLLBLOCK] ++ stageFlds) s t))
  ∧ (∀ (s : State), StandsAt 2 s → Completes (.clock true false false) s (fun t =>
      t.rd R.GLB_STATUS_STAGE = 2 ∧ t.rd R.GLB_STATUS_CAUSE = 4 ∧ t.boot.stalled = true ∧ Emit.line 2 (lineTime s) 4 0 ∈ t.out
        ∧ t.clk = s.clk ∧ Frame ([R.CLK_STATUS_REFOK, R.CLK_STATUS_PLLALOCK, R.CLK_STATUS_PLLBLOCK] ++ stageFlds) s t))
  ∧ (∀ (s : State), StandsAt 3 s → s.coolEnough = false → s.boot.stalled = false → Completes .romStart s (fun t =>
      t.rd R.GLB_STATUS_STAGE = 3 ∧ t.rd R.GLB_STATUS_CAUSE = 6 ∧ t.boot.stalled = true ∧ Emit.line 3 (lineTime s) 6 0 ∈ t.out
        ∧ Frame stageFlds s t))
  ∧ (∀ (s : State), StandsAt 3 s → s.coolEnough = true → s.jtagHold = true → Completes .romStart s (fun t =>
      t.boot.ended = true ∧ t.rd R.GLB_STATUS_STAGE = 3 ∧ Frame [R.FWU_SVN_CNT, R.FWU_SVN_REVOKED] s t))
  ∧ (∀ (s : State), StandsAt 3 s → s.coolEnough = true → (s.boot.bootsel = 1 ∨ s.boot.bootsel = 2) → s.boot.ignoreSel = false → Completes
  .romStart s (fun t =>
      t.rd R.GLB_STATUS_STAGE = 0x0F ∧ t.rd R.GLB_STATUS_CAUSE = 0 ∧ t.fwu.recovery = true ∧ t.rd R.FWU_STATUS_IMGSTATE = 3
        ∧ Frame ([R.FWU_SVN_CNT, R.FWU_SVN_REVOKED, R.FWU_STATUS_IMGSTATE] ++ stageFlds) s t))
  ∧ (∀ (s : State), StandsAt 3 s → s.coolEnough = true → (s.boot.bootsel = 0 ∨ s.boot.ignoreSel = true) → s.bootHead = none → Completes
  .romStart s (fun t =>
      t.rd R.GLB_STATUS_STAGE = 0x0F ∧ t.rd R.GLB_STATUS_CAUSE = 5 ∧ t.fwu.recovery = true ∧ t.rd R.FWU_STATUS_IMGSTATE = 3
        ∧ Frame ([R.FWU_SVN_CNT, R.FWU_SVN_REVOKED, R.FWU_STATUS_IMGSTATE] ++ stageFlds) s t))
  ∧ (∀ (c : Bool) (h : BootHead) (s : State), StandsAt 3 s → s.coolEnough = true → (s.boot.bootsel = 0 ∨ s.boot.ignoreSel = true) →
  s.bootHead = some (c, h) → Completes .romStart s (fun t =>
      t.rd R.GLB_STATUS_STAGE = 4 ∧ t.rd R.GLB_STATUS_CAUSE = 0
        ∧ t.boot.slotB = (if h.state = 2 ∨ (h.state = 1 ∧ h.tries = 0) then !h.active else h.active)
        ∧ t.rd R.FWU_SVN_CNT = s.fwu.otp.rollback % 2 ^ R.FWU_SVN_CNT.width ∧ (h.state ≠ 1 → KeepsFlash s t)
        ∧ KeepsRegs ([R.FWU_SVN_CNT, R.FWU_SVN_REVOKED] ++ stageFlds) s t ∧ KeepsHbm s t))
  ∧ (∀ (s : State), StandsAt 4 s → Completes (.hbmTrain 0xF#4) s (fun t =>
      t.rd R.GLB_STATUS_STAGE = 5 ∧ t.rd R.GLB_STATUS_CAUSE = 0 ∧ t.boot.trained = true ∧ t.boot.selfRef = false
        ∧ (s.boot.fast = true → ∀ r ∈ s.flt.spared, r ∈ t.flt.permanent) ∧ Frame stageFlds s t))
  ∧ (∀ (ok : BitVec 4) (s : State), StandsAt 4 s → ok ≠ 0xF#4 → Completes (.hbmTrain ok) s (fun t =>
      t.rd R.GLB_STATUS_STAGE = 0x0F ∧ t.rd R.GLB_STATUS_CAUSE = 7 ∧ t.rd R.GLB_STATUS_DETAIL < 4
        ∧ ok.getLsbD (t.rd R.GLB_STATUS_DETAIL) = false ∧ t.fwu.recovery = true ∧ Frame (R.FWU_STATUS_IMGSTATE :: stageFlds) s t))

/-- R58, R60, R205, R240, R246, R426, R428, R429: a retained image that may be used again leads to SETTINGS, and so does a slot that
  passes the image checks; a slot that fails them is reported with its code and leaves start-up at IMAGE with the other slot, or in
  recovery mode with cause 9 when both have failed. SETTINGS leads to HOST_LINK; within its limit HOST_LINK leads to JOIST and lets
  markers be committed, past it the stage stalls and configuration requests keep their retry status. At JOIST a standard set that is
  accepted leads to RINGS, and replaces a set in force that fails its proof; a standard set that fails ends start-up with cause 0x0B
  unless it belongs to a trial. -/
def Obligations.ImageStagesMoveOn : Prop :=
  (∀ (s : State), StandsAt 5 s → s.boot.imageOk = true → Completes .image s (fun t =>
      t.rd R.GLB_STATUS_STAGE = 6 ∧ t.rd R.GLB_STATUS_CAUSE = 0 ∧ t.fwu = s.fwu ∧ Frame (stageFlds ++ reportFlds) s t))
  ∧ (∀ (s : State), StandsAt 5 s → s.boot.imageOk = false → Completes .image s (fun t =>
      (∀ i, slotImage s = (0, some i) → t.rd R.GLB_STATUS_STAGE = 6 ∧ t.fwu.running = some i)
        ∧ ((slotImage s).2 = none → t.rd R.FWU_INTSTAT_IMGREJ = 1 ∧ t.fwu.running = none ∧ t.rd R.GLB_STATUS_STAGE = (if
          s.fwu.tried.contains (!s.boot.slotB) then 0x0F else 5))
        ∧ ((slotImage s).2 = none → s.fwu.tried.contains (!s.boot.slotB) = false → t.boot.slotB = (!s.boot.slotB) ∧ Emit.line 5
          (lineTime s) 8 0 ∈ t.out)
        ∧ ((slotImage s).2 = none → s.fwu.tried.contains (!s.boot.slotB) = true → t.fwu.recovery = true ∧ t.rd R.GLB_STATUS_CAUSE = 9)
        ∧ KeepsHbm s t))
  ∧ (∀ (i : Image) (s : State), StandsAt 6 s → s.fwu.running = some i → (s.imageRuns i).storeNow = none → Completes .settings s (fun t =>
      t.rd R.GLB_STATUS_STAGE = 7 ∧ t.rd R.GLB_STATUS_CAUSE = 0 ∧ t.rd R.FWU_STATUS_SETSRC = 2
        ∧ Emit.line 6 (lineTime s) 0x0A 0 ∈ t.out))
  ∧ (∀ (bad : List Nat) (s : State), StandsAt 7 s → Completes (.hostLink ⟨true, bad⟩) s (fun t =>
      t.rd R.GLB_STATUS_STAGE = 8 ∧ t.rd R.GLB_STATUS_CAUSE = 0 ∧ t.boot.linked = true
        ∧ (s.boot.fast = true → s.journalSound = true → t.rd R.JNL_STATUS_RECOVERED = 1)
        ∧ (s.boot.fast = true → s.journalSound = false → t.rd R.JNL_INTSTAT_NEWGEN = 1) ∧ KeepsMemory s t))
  ∧ (∀ (bad : List Nat) (s : State), StandsAt 7 s → Completes (.hostLink ⟨false, bad⟩) s (fun t =>
      t.rd R.GLB_STATUS_STAGE = 7 ∧ t.boot.stalled = true ∧ t.boot.linked = s.boot.linked ∧ Frame (stageFlds ++ reportFlds) s t))
  ∧ (∀ (std set : ProofFind) (s : State), StandsAt 8 s → (proveSet s.standardSet.image std).1 = 0 → Completes (.joist std set) s (fun t =>
      t.rd R.GLB_STATUS_STAGE = 9 ∧ t.rd R.GLB_STATUS_CAUSE = 0 ∧ s.standardSet ∈ t.jst.sets
        ∧ (((standardLoaded s).setOf s.peg.active).num = 0 → t.rd R.JST_PROOF_CODE = 0)
        ∧ (((standardLoaded s).setOf s.peg.active).num ≠ 0 → (proveSet ((standardLoaded s).setOf s.peg.active).image set).1 ≠ 0 →
          (t.epochCfg s.peg.active).progSet = 0 ∧ Emit.line 8 (lineTime s) 0x0B 0 ∈ t.out)
        ∧ KeepsMemory s t))
  ∧ (∀ (std set : ProofFind) (s : State), StandsAt 8 s → (proveSet s.standardSet.image std).1 ≠ 0 → s.slotIsTrial = false → Completes
  (.joist std set) s (fun t =>
      t.rd R.GLB_STATUS_STAGE = 8 ∧ t.rd R.GLB_STATUS_CAUSE = 0x0B ∧ t.boot.ended = true
        ∧ t.rd R.JST_PROOF_CODE = (proveSet s.standardSet.image std).1 % 2 ^ R.JST_PROOF_CODE.width
        ∧ Frame (proofFlds ++ stageFlds ++ reportFlds) s t))

/-- R49, R50, R53, R58 to R60, R104, R444: RINGS leads to SPIN with Kerf and Plane running, and reports the enabled rings that are not
  up with cause 0x0C; SPIN ends once phase lock and the tilt profile are reached and then waits for CALIBRATE, which runs beside it
  and uses stored values with cause 0x0E where it has not completed; both done lead to ARM, which waits for STABLE under TBGATE with
  cause 0x11, leads to READY, or to RUNNING when scanning resumes, once Truss is ARMED or LIMP, and else stalls with cause 0x0F. A
  stalled stage repeats its line. Logic release, unless a failed self-test has ended start-up, and a recovery RESET start ROM_START
  again, the latter with BOOTSEL ignored; PERST_N high is recorded. -/
def Obligations.LateStagesMoveOn : Prop :=
  (∀ (finds : List (Fin 8 × RingFind)) (s : State), StandsAt 9 s → Completes (.rings finds) s (fun t =>
      t.rd R.GLB_STATUS_STAGE = 0x0A ∧ t.rd R.KRF_CTL_RUN = 1 ∧ t.rd R.WFP_CTL_RUN = 1
        ∧ (∀ r : Fin 8, s.ringEn r = true → t.ringUp r = false → t.out.any (ringReported · r) = true) ∧ t.boot.spinDone = false
        ∧ t.boot.calDone = false ∧ KeepsMemory s t))
  ∧ (∀ (s : State), StandsAt 0x0A s → s.rd R.TNN_STATUS_SPLOCK ≠ 0 → s.tnn.tlOk = true → Completes .spin s (fun t =>
      t.boot.spinDone = true ∧ t.rd R.GLB_STATUS_STAGE = (if s.boot.calDone then 0x0C else 0x0B) ∧ KeepsMemory s t))
  ∧ (∀ (ok : Bool) (s : State), (StandsAt 0x0A s ∨ StandsAt 0x0B s) → s.boot.calDone = false → Completes (.calibrate ok) s (fun t =>
      t.boot.calDone = true ∧ (ok = false → Emit.line (s.rd R.GLB_STATUS_STAGE) (lineTime s) 0x0E 0 ∈ t.out)
        ∧ t.rd R.GLB_STATUS_STAGE = (if s.boot.spinDone then 0x0C else s.rd R.GLB_STATUS_STAGE) ∧ KeepsMemory s t))
  ∧ (∀ (fb : Bool) (s : State), StandsAt 0x0C s → s.rd R.CLK_TBCFG_TBGATE ≠ 0 → s.rd R.CLK_STATUS_TBSTATE ≠ 2 → Completes (.arm fb) s (fun
  t =>
      t.rd R.GLB_STATUS_STAGE = 0x0C ∧ t.rd R.GLB_STATUS_CAUSE = 0x11 ∧ t.boot.stalled = true ∧ t.trs = s.trs
        ∧ Frame ([R.GLB_STATUS_STAGE, R.GLB_STATUS_CAUSE, R.GLB_STATUS_DETAIL] ++ reportFlds) s t))
  ∧ (∀ (fb : Bool) (s : State), StandsAt 0x0C s → s.rd R.CLK_TBCFG_TBGATE = 0 → Completes (.arm fb) s (fun t =>
      (t.rd R.TRS_STATE_STATE = 1 ∨ t.rd R.TRS_STATE_STATE = 2 → t.rd R.GLB_STATUS_STAGE = (if s.boot.wasRun then 0x0E else 0x0D))
        ∧ (t.rd R.TRS_STATE_STATE ≠ 1 → t.rd R.TRS_STATE_STATE ≠ 2 → t.rd R.GLB_STATUS_STAGE = 0x0C ∧ t.rd R.GLB_STATUS_CAUSE = 0x0F ∧
          t.boot.stalled = true)
        ∧ KeepsMemory s t))
  ∧ (∀ (s : State), s.boot.stalled = true → s.boot.inReset = false → s.rd R.GLB_STATUS_STAGE < 256 → s.rd R.GLB_STATUS_CAUSE < 256 → s.rd
  R.GLB_STATUS_DETAIL < 256 → Completes .stallLine s (fun t =>
      Emit.line (s.rd R.GLB_STATUS_STAGE) (s.clk.porTicks / 200000 % 1000000) (s.rd R.GLB_STATUS_CAUSE) (s.rd R.GLB_STATUS_DETAIL) ∈
        t.out
        ∧ Frame reportFlds s t))
  ∧ (∀ (s : State), s.boot.inReset = true → s.boot.perstHi = true → Completes .logicRelease s (fun t =>
      t.boot.inReset = false ∧ t.rd R.GLB_STATUS_STAGE = (if s.boot.ended then s.rd R.GLB_STATUS_STAGE else 3) ∧ t.flt.opens = []
        ∧ (s.rd R.THM_STATUS_HBMLOST = 0 → KeepsMemory s t)))
  ∧ (∀ (via : RecPath) (s : State), s.fwu.recovery = true → recBadCrc via = false → Completes (.recoveryReset via) s (fun t =>
      t.fwu.recovery = false ∧ t.rd R.GLB_STATUS_STAGE = 3 ∧ t.rd R.FWU_STATUS_IMGSTATE = 0 ∧ t.boot.ignoreSel = true
        ∧ Frame (R.FWU_STATUS_IMGSTATE :: stageFlds) s t))
  ∧ (∀ (s : State), Completes .perstNRise s (fun t =>
      t.boot.perstHi = true ∧ Frame [] s t))

/-- R12, R41, R42, R46, R47: the oven's ready pin and the hold move the timebase between COLD, SETTLING and STABLE, each move with its
  flag; a write of CLK_TBCFG takes its fields and counts a write of reserved bits, ends a running hold that is as long as the new HOLD
  already, and clearing PPSEN drops PPS and drift. -/
def Obligations.TimebaseFollowsOvenAndHold : Prop :=
  (∀ (s : State), s.tb = 0 → s.rd R.CLK_TBCFG_HOLD ≠ 0 → Completes .ocxoRdyRise s (fun t =>
      t.tb = 1 ∧ t.rd R.CLK_STATUS_OCXORDY = 1 ∧ t.rd R.CLK_INTSTAT_TBCHG = 1 ∧ t.clk.holdRun = true ∧ t.clk.holdAge = 0
        ∧ Frame [R.CLK_STATUS_OCXORDY, R.CLK_STATUS_TBSTATE, R.CLK_INTSTAT_TBCHG] s t))
  ∧ (∀ (s : State), s.tb = 0 → s.rd R.CLK_TBCFG_HOLD = 0 → Completes .ocxoRdyRise s (fun t =>
      t.tb = (if s.driftOk then 2 else 1) ∧ t.rd R.CLK_STATUS_OCXORDY = 1 ∧ t.rd R.CLK_INTSTAT_TBCHG = 1 ∧ t.clk.holdDone = true
        ∧ Frame [R.CLK_STATUS_OCXORDY, R.CLK_STATUS_TBSTATE, R.CLK_INTSTAT_TBCHG] s t))
  ∧ (∀ (s : State), Completes .ocxoRdyFall s (fun t =>
      t.tb = 0 ∧ t.rd R.CLK_STATUS_OCXORDY = 0 ∧ (s.tb ≠ 0 → t.rd R.CLK_INTSTAT_TBCHG = 1) ∧ t.clk.holdRun = false
        ∧ t.clk.holdDone = false ∧ Frame [R.CLK_STATUS_OCXORDY, R.CLK_STATUS_TBSTATE, R.CLK_INTSTAT_TBCHG] s t))
  ∧ (∀ (s : State), s.clk.holdRun = true → s.tb = 1 → Completes .holdElapsed s (fun t =>
      t.tb = (if s.driftOk then 2 else 1) ∧ t.clk.holdRun = false ∧ t.clk.holdDone = true
        ∧ Frame [R.CLK_STATUS_TBSTATE, R.CLK_INTSTAT_TBCHG] s t))
  ∧ (∀ (v : Word) (s : State), Completes (.clkTbcfgWrite v) s (fun t =>
      t.rd R.CLK_TBCFG_HOLD = v.toNat % 4096 ∧ t.rd R.CLK_TBCFG_PPSEN = v.toNat / 4096 % 2
        ∧ t.rd R.CLK_TBCFG_PPSEDGE = v.toNat / 8192 % 2 ∧ t.rd R.CLK_TBCFG_TBGATE = v.toNat / 16384 % 2
        ∧ t.rd R.CLK_TBCFG_STEPMAX = v.toNat / 65536 % 1024
        ∧ (v.toNat / 4096 % 2 = 0 → t.rd R.CLK_STATUS_PPSOK = 0 ∧ t.rd R.CLK_STATUS_DRIFTVAL = 0 ∧ t.rd R.CLK_DRIFT_DRIFT = 0 ∧
          t.clk.freqs = [])
        ∧ (s.clk.holdRun = true → v.toNat % 4096 * 200000000 ≤ s.clk.holdAge → t.clk.holdRun = false ∧ t.clk.holdDone = true)
        ∧ (s.clk.holdRun = true → s.clk.holdAge < v.toNat % 4096 * 200000000 → t.clk.holdRun = true)
        ∧ (v &&& 0xFC008000#32 ≠ 0 → t.rd R.GLB_ACCERR_RSVDWR = min (s.rd R.GLB_ACCERR_RSVDWR + 1) 65535)
        ∧ Frame ([R.CLK_TBCFG_HOLD, R.CLK_TBCFG_PPSEN, R.CLK_TBCFG_PPSEDGE, R.CLK_TBCFG_TBGATE, R.CLK_TBCFG_STEPMAX,
          R.CLK_STATUS_PPSOK, R.CLK_STATUS_DRIFTVAL, R.CLK_DRIFT_DRIFT, R.CLK_STATUS_TBSTATE, R.CLK_INTSTAT_TBCHG] ++ (if v &&&
          0xFC008000#32 = 0 then [] else [R.GLB_ACCERR_RSVDWR, R.GLB_LASTERR_OFFSET, R.GLB_LASTERR_WRITE, R.GLB_LASTERR_KIND])) s t))

/-- R45 to R47, R455: a PPS edge is measured when PPSEN is set and ignored otherwise, and asks for a discipline step of at most
  STEPMAX, for none with STEPMAX 0, and leaves a waiting time-set alone; 1.5 s without an edge while PPSEN is set drops drift and a
  waiting discipline step; a read of CLK_TIMELO takes the snapshot; a root PLL that loses lock hands over to a locked standby, and one
  that relocks becomes standby. -/
def Obligations.PpsAndRootPllCommands : Prop :=
  (∀ (sub : Nat) (s : State), s.rd R.CLK_TBCFG_PPSEN = 0 → Completes (.ppsEdge sub) s (fun t =>
      t.clk = s.clk ∧ Frame [] s t))
  ∧ (∀ (sub : Nat) (s : State), s.rd R.CLK_TBCFG_PPSEN ≠ 0 → Completes (.ppsEdge sub) s (fun t =>
      t.rd R.CLK_STATUS_PPSOK = 1
        ∧ t.rd R.CLK_PPSOFS_OFS = ofIntBits R.CLK_PPSOFS_OFS.width (divRound (secondOffset (256 * s.clk.devTime.toNat + sub)) 256)
        ∧ t.clk.lastPps = some (1280 * s.clk.ticks + sub) ∧ t.clk.devTime = s.clk.devTime
        ∧ (s.rd R.CLK_TBCFG_STEPMAX = 0 → t.clk.pend = timeSetOnly s.clk.pend) ∧ disciplineSize t.clk.pend ≤ s.rd R.CLK_TBCFG_STEPMAX
        ∧ Frame [R.CLK_STATUS_PPSOK, R.CLK_PPSOFS_OFS, R.CLK_FREQERR_FERR, R.CLK_STATUS_DRIFTVAL, R.CLK_DRIFT_DRIFT,
          R.CLK_STATUS_TBSTATE, R.CLK_INTSTAT_TBCHG, R.CLK_STEPS_CLAMPS, R.CLK_INTSTAT_STEPCLAMP] s t))
  ∧ (∀ (s : State), s.rd R.CLK_TBCFG_PPSEN ≠ 0 → Completes .ppsLoss s (fun t =>
      t.rd R.CLK_STATUS_PPSOK = 0 ∧ t.rd R.CLK_INTSTAT_PPSLOSS = 1 ∧ t.rd R.CLK_STATUS_DRIFTVAL = 0 ∧ t.rd R.CLK_DRIFT_DRIFT = 0
        ∧ t.clk.freqs = [] ∧ t.clk.lastPps = none ∧ t.clk.pend = timeSetOnly s.clk.pend
        ∧ Frame ([R.CLK_STATUS_PPSOK, R.CLK_INTSTAT_PPSLOSS, R.CLK_STATUS_DRIFTVAL, R.CLK_DRIFT_DRIFT, R.CLK_STATUS_TBSTATE,
          R.CLK_INTSTAT_TBCHG] ++ reportFlds) s t))
  ∧ (∀ (s : State), Completes .clkTimeloRead s (fun t =>
      Emit.regRead 0x10010 (s.clk.devTime.toNat % 2 ^ 32) ∈ t.out ∧ t.rd R.CLK_TIMEHI_TTHI = s.clk.devTime.toNat / 2 ^ 32
        ∧ t.clk = s.clk ∧ Frame [R.CLK_TIMELO_TLO, R.CLK_TIMEHI_TTHI] s t))
  ∧ (∀ (s : State), s.rd (pllLock (s.on R.CLK_STATUS_PLLSEL)) ≠ 0 → Completes .pllLockLoss s (fun t =>
      t.rd (pllLock (s.on R.CLK_STATUS_PLLSEL)) = 0 ∧ t.rd R.CLK_INTSTAT_PLLFAIL = 1
        ∧ t.on R.CLK_STATUS_PLLSEL = (if s.on (pllLock (!s.on R.CLK_STATUS_PLLSEL)) then !s.on R.CLK_STATUS_PLLSEL else s.on
          R.CLK_STATUS_PLLSEL)
        ∧ Frame ([R.CLK_STATUS_PLLALOCK, R.CLK_STATUS_PLLBLOCK, R.CLK_STATUS_PLLSEL, R.CLK_INTSTAT_PLLFAIL, R.FLT_INTSTAT_PLLSW] ++
          reportFlds) s t))
  ∧ (∀ (s : State), s.rd (pllLock (!s.on R.CLK_STATUS_PLLSEL)) = 0 → Completes (.pllRelock true) s (fun t =>
      t.rd (pllLock (!s.on R.CLK_STATUS_PLLSEL)) = 1 ∧ t.rd R.CLK_STATUS_PLLSEL = s.rd R.CLK_STATUS_PLLSEL
        ∧ Frame ([R.CLK_STATUS_PLLALOCK, R.CLK_STATUS_PLLBLOCK] ++ reportFlds) s t))
  ∧ (∀ (s : State), Completes (.pllRelock false) s (fun t =>
      t.clk = s.clk ∧ Frame [] s t))

/-- R91 to R93, R95, R107 to R110, R118: submission takes a driver's next planned fire out of the plan; unless it is too close to
  another, which is a schedule conflict, it enters as submitted with the drive of its row and the columns that the exposure monitor
  leaves, if any. Transmission sends the FIRE frame with the ring's next sequence number on both directions and notes the shot for
  Plane, or discards a fire that may not be sent. A grant on a whole ring goes to one driver each way; on a ring without a loop,
  RGRANT goes to drivers that answered from either side, and answers before and behind a single break name its segment. A silent
  driver is stopped; a fire without a report is counted as unverified. -/
def Obligations.BattenSendsFires : Prop :=
  (∀ (n : Fin 64) (f : Fire) (s : State), s.nextFire n.val .planned = some f → f.stage = .planned → Completes (.fireSubmission n) s (fun
  t =>
      f ∉ t.btn.fires
        ∧ (s.tooClose f = false → (s.fireDrive f).isSome → (allowedOf s f).2.2 ≠ 0 →
          { f with cur := (allowedOf s f).1, width := (allowedOf s f).2.1, mask := (allowedOf s f).2.2, stage := .submitted } ∈
          t.btn.fires)
        ∧ (∀ g ∈ t.btn.fires, g ∈ s.btn.fires ∨ (g = { f with cur := g.cur, width := g.width, mask := g.mask, stage := .submitted } ∧
          s.fireDrive f = some (g.cur, g.width) ∧ g.mask ≠ 0))
        ∧ (s.tooClose f = true → t.rd R.PEG_INTSTAT_SCONFLICT = 1) ∧ KeepsMemory s t))
  ∧ (∀ (n : Fin 64) (f : Fire) (s : State), s.nextFire n.val .submitted = some f → s.mayTransmit f = true → f.stage = .submitted →
  sendsBoth s (ringOf n.val) → Completes (.fireTransmit n) s (fun t =>
      Emit.ring (ringOf n.val) 3 (ringFrame 0x01 (addrOf n.val) (s.ringSt (ringOf n.val)).seq (s.firePayload f)) ∈ t.out
        ∧ (t.ringSt (ringOf n.val)).seq = ((s.ringSt (ringOf n.val)).seq + 1) % 65536
        ∧ (t.wfp.shots.any (fun x => x.driver == n.val && x.tag == f.tag)) = true ∧ (t.drv n.val).lastFire = some f.time
        ∧ f ∉ t.btn.fires ∧ { f with stage := FireStage.sent } ∈ t.btn.fires
        ∧ Frame [R.DWL_PINJ_CNT (2 * ringOf n.val), R.DWL_PINJ_CNT (2 * ringOf n.val + 1)] s t))
  ∧ (∀ (n : Fin 64) (f : Fire) (s : State), s.nextFire n.val .submitted = some f → s.mayTransmit f = false → Completes (.fireTransmit n) s
  (fun t =>
      f ∉ t.btn.fires ∧ KeepsMemory s t))
  ∧ (∀ (r : Fin 8) (s : State), s.ringEn r.val = true → s.ringUp r.val = true → (s.ringSt r.val).locating = false → s.rd (R.BTN_RSTAT_CWUP
  r.val) ≠ 0 → s.rd (R.BTN_RSTAT_CCWUP r.val) ≠ 0 → s.rd (R.BTN_RSTAT_NDRV r.val) ≠ 0 → sendsBoth s r.val → Completes (.grant r) s
  (fun t =>
      (∃ a, a < s.rd (R.BTN_RSTAT_NDRV r.val) ∧ Emit.ring r.val 1 (grantSet (a + 1) false) ∈ t.out)
        ∧ (∃ a, a < s.rd (R.BTN_RSTAT_NDRV r.val) ∧ Emit.ring r.val 2 (grantSet (a + 1) false) ∈ t.out)
        ∧ (t.ringSt r.val).seq = (s.ringSt r.val).seq ∧ Frame [] s t))
  ∧ (∀ (r : Fin 8) (s : State), s.ringEn r.val = true → s.ringUp r.val = true → (s.ringSt r.val).locating = false → s.rd (R.BTN_RSTAT_CWUP
  r.val) = 0 → s.rd (R.BTN_RSTAT_CCWUP r.val) = 0 → s.rd (R.BTN_RSTAT_NDRV r.val) ≠ 0 → s.addrsOf r.val (·.seenCw) ≠ [] → s.addrsOf
  r.val (·.seenCcw) ≠ [] → sendsBoth s r.val → Completes (.grant r) s (fun t =>
      (∃ a ∈ s.addrsOf r.val (·.seenCw), Emit.ring r.val 1 (grantSet a true) ∈ t.out)
        ∧ (∃ a ∈ s.addrsOf r.val (·.seenCcw), Emit.ring r.val 2 (grantSet a true) ∈ t.out) ∧ Frame [] s t))
  ∧ (∀ (r : Fin 8) (k : Nat) (s : State), s.ringEn r.val = true → s.ringUp r.val = true → (s.ringSt r.val).locating = true → s.rd
  (R.BTN_RSTAT_NDRV r.val) ≠ 0 → s.rd (R.BTN_RSTAT_NDRV r.val) ≤ 8 → k ≤ s.rd (R.BTN_RSTAT_NDRV r.val) → (∀ i : Fin 8, i.val < s.rd
  (R.BTN_RSTAT_NDRV r.val) → (s.drv (8 * r.val + i.val)).seenCw = decide (i.val < k) ∧ (s.drv (8 * r.val + i.val)).seenCcw = decide (k
  ≤ i.val)) → Completes (.grant r) s (fun t =>
      t.rd (R.BTN_RSTAT_BREAK r.val) = k ∧ (t.ringSt r.val).locating = false ∧ t.ringUp r.val = true
        ∧ Frame [R.BTN_RSTAT_BREAK r.val] s t))
  ∧ (∀ (n : Fin 64) (s : State), s.drvUp n.val = true → s.isSilent n.val = true → s.rd (R.BTN_DSTAT_SILENT n.val) = 0 → Completes
  (.driverSilent n) s (fun t =>
      t.rd (R.BTN_DSTAT_SILENT n.val) = 1 ∧ t.rd R.BTN_INTSTAT_DRVSILENT = 1 ∧ (t.drv n.val).stopped = true
        ∧ (∀ f ∈ t.btn.fires, f.driver = n.val → f.stage = .sent) ∧ KeepsMemory s t))
  ∧ (∀ (n : Fin 64) (tag : BitVec 9) (s : State), s.btn.fires.any (fun f => f.driver == n.val && f.tag == tag.toNat && f.stage == .sent) =
  true → Completes (.unreported n tag) s (fun t =>
      t.rd R.BTN_INTSTAT_UNREPORTED = 1 ∧ (∀ f ∈ t.btn.fires, ¬(f.driver = n.val ∧ f.tag = tag.toNat ∧ f.stage = .sent))
        ∧ Frame ([R.BTN_INTSTAT_UNREPORTED] ++ reportFlds) s t))

/-- R92, R94, R96, R97, R111, R116 to R118, R503: an upstream frame whose LEN or CRC is wrong or whose type is reserved is discarded
  and counted; STATUS leaves its flags and alarm code in the driver's registers, and a cap rejection is an exposure fault, which locks
  an armed part out with light forbidden; a report closes its fire, with columns short or open it declares them failed, and of a
  current too high it is an exposure fault besides; a report of a fire sent before the last full reset touches no newer fire; words
  read back are kept, word 0 in the identity register; an alarm is shown and logged, from 0x40 it stops the driver, and from 0x80 it
  is an exposure fault. -/
def Obligations.BattenHearsDrivers : Prop :=
  (∀ (n : Fin 64) (h : UpHead) (p : StatusPayload) (s : State), upGood h = true → p.capRej = false → Completes (.status ⟨n, h⟩ p) s (fun
  t =>
      t.rd (R.BTN_DSTAT_HUSHED n.val) = p.hushed.toNat ∧ t.rd (R.BTN_DSTAT_REPLOST n.val) = p.repLost.toNat
        ∧ t.rd (R.BTN_DSTAT_ALARM n.val) = p.alarm.toNat ∧ (t.drv n.val).missCw = 0 ∧ (t.drv n.val).missCcw = 0
        ∧ (p.repLost = true → t.rd R.BTN_INTSTAT_REPLOST = 1)
        ∧ Frame ([R.BTN_DSTAT_HUSHED n.val, R.BTN_DSTAT_REPLOST n.val, R.BTN_DSTAT_ALARM n.val, R.BTN_INTSTAT_REPLOST, R.DWL_PINJ_CNT
          (2 * ringOf n.val), R.DWL_PINJ_CNT (2 * ringOf n.val + 1)] ++ reportFlds) s t))
  ∧ (∀ (n : Fin 64) (h : UpHead) (p : StatusPayload) (s : State), upGood h = true → p.capRej = true → s.trsState = 1 → Completes (.status
  ⟨n, h⟩ p) s (fun t =>
      t.rd (R.BTN_DSTAT_CAPREJ n.val) = 1 ∧ t.trsState = 3 ∧ t.rd R.TRS_LASTCAUSE_CAUSE = 0x0102 ∧ t.rd R.TRS_STATE_DARKCMD = 0
        ∧ KeepsMemory s t))
  ∧ (∀ (n : Fin 64) (h : UpHead) (r : FireReport) (s : State), upGood h = true → s.btn.preReset.contains (n.val, r.tag.toNat) = false →
  r.result.toNat = 2 → s.rd (R.BTN_EMFAIL_FAIL (32 * n.val + r.row.toNat)) < 2 ^ 32 → Completes (.report ⟨n, h⟩ [r]) s (fun t =>
      t.rd (R.BTN_EMFAIL_FAIL (32 * n.val + r.row.toNat)) = s.rd (R.BTN_EMFAIL_FAIL (32 * n.val + r.row.toNat)) ||| r.cmask.toNat
        ∧ (r.cmask ≠ 0 → t.rd R.BTN_INTSTAT_EMFAULT = 1)
        ∧ (∀ f ∈ t.btn.fires, ¬(f.driver = n.val ∧ f.tag = r.tag.toNat ∧ f.stage = .sent)) ∧ (t.drv n.val).missCw = 0 ∧ KeepsMemory s
          t))
  ∧ (∀ (n : Fin 64) (h : UpHead) (r : FireReport) (s : State), upGood h = true → s.btn.preReset.contains (n.val, r.tag.toNat) = false →
  r.result.toNat ≠ 2 → r.result.toNat ≠ 3 → Completes (.report ⟨n, h⟩ [r]) s (fun t =>
      (r.result.toNat = 4 → t.rd R.BTN_INTSTAT_LATE = 1) ∧ (6 ≤ r.result.toNat → t.rd R.BTN_INTSTAT_REJECT = 1)
        ∧ (∀ f ∈ t.btn.fires, ¬(f.driver = n.val ∧ f.tag = r.tag.toNat ∧ f.stage = .sent)) ∧ KeepsMemory s t))
  ∧ (∀ (n : Fin 64) (h : UpHead) (addr : BitVec 16) (words : List Word) (s : State), upGood h = true → 1 ≤ words.length → words.length ≤
  20 → Completes (.readdata ⟨n, h⟩ addr words) s (fun t =>
      (∀ i, i < words.length → mapGet 0 (t.drv n.val).words (addr.toNat + i) = (words.getD i 0).toNat)
        ∧ Frame ([R.BTN_DID_PROTO n.val, R.BTN_DID_ROWSM1 n.val, R.BTN_DID_COLSM1 n.val] ++ reportFlds) s t))
  ∧ (∀ (n : Fin 64) (h : UpHead) (w : Word) (s : State), upGood h = true → Completes (.readdata ⟨n, h⟩ 0#16 [w]) s (fun t =>
      t.rd (R.BTN_DID_PROTO n.val) = w.toNat % 256 ∧ t.rd (R.BTN_DID_ROWSM1 n.val) = w.toNat / 256 % 32
        ∧ t.rd (R.BTN_DID_COLSM1 n.val) = w.toNat / 8192 % 32))
  ∧ (∀ (n : Fin 64) (h : UpHead) (code : BitVec 8) (detail : BitVec 24) (s : State), upGood h = true → code ≠ 0 → code.toNat < 0x40 →
  Completes (.alarm ⟨n, h⟩ code detail) s (fun t =>
      t.rd (R.BTN_DSTAT_ALARM n.val) = code.toNat ∧ t.rd R.BTN_INTSTAT_DRVALARM = 1 ∧ (t.drv n.val).stopped = (s.drv n.val).stopped
        ∧ Frame ([R.BTN_DSTAT_ALARM n.val, R.BTN_INTSTAT_DRVALARM] ++ reportFlds) s t))
  ∧ (∀ (n : Fin 64) (h : UpHead) (code : BitVec 8) (detail : BitVec 24) (s : State), upGood h = true → 0x40 ≤ code.toNat → code.toNat <
  0x80 → Completes (.alarm ⟨n, h⟩ code detail) s (fun t =>
      t.rd (R.BTN_DSTAT_ALARM n.val) = code.toNat ∧ t.rd R.BTN_INTSTAT_DRVALARM = 1 ∧ (t.drv n.val).stopped = true
        ∧ (∀ f ∈ t.btn.fires, f.driver = n.val → f.stage = .sent) ∧ t.rd R.TRS_STATE_STATE = s.rd R.TRS_STATE_STATE ∧ KeepsMemory s t))
  ∧ (∀ (n : Fin 64) (h : UpHead) (code : BitVec 8) (detail : BitVec 24) (s : State), upGood h = true → 0x80 ≤ code.toNat → s.trsState = 1
  → Completes (.alarm ⟨n, h⟩ code detail) s (fun t =>
      t.rd (R.BTN_DSTAT_ALARM n.val) = code.toNat ∧ t.trsState = 3 ∧ t.rd R.TRS_LASTCAUSE_CAUSE = 0x0103 ∧ t.rd R.TRS_STATE_DARKCMD = 0
        ∧ KeepsMemory s t))
  ∧ (∀ (n : Fin 64) (h : UpHead) (r : FireReport) (s : State), upGood h = true → s.btn.preReset.contains (n.val, r.tag.toNat) = false →
  r.result.toNat = 3 → s.trsState = 1 → s.rd (R.BTN_EMFAIL_FAIL (32 * n.val + r.row.toNat)) < 2 ^ 32 → Completes (.report ⟨n, h⟩ [r])
  s (fun t =>
      t.trsState = 3 ∧ t.rd R.TRS_STATE_DARKCMD = 0
        ∧ t.rd (R.BTN_EMFAIL_FAIL (32 * n.val + r.row.toNat)) = s.rd (R.BTN_EMFAIL_FAIL (32 * n.val + r.row.toNat)) ||| r.cmask.toNat
        ∧ KeepsMemory s t))
  ∧ (∀ (n : Fin 64) (h : UpHead) (r : FireReport) (s : State), upGood h = true → s.btn.preReset.contains (n.val, r.tag.toNat) = true →
  Completes (.report ⟨n, h⟩ [r]) s (fun t =>
      (n.val, r.tag.toNat) ∉ t.btn.preReset ∧ (∀ f ∈ s.btn.fires, f.stage = .sent → f ∈ t.btn.fires) ∧ KeepsMemory s t))
  ∧ (∀ (n : Fin 64) (h : UpHead) (p : StatusPayload) (s : State), upGood h = false → Completes (.status ⟨n, h⟩ p) s (fun t =>
      t.rd (R.BTN_RERR_CRCERR (ringOf n.val)) = min (s.rd (R.BTN_RERR_CRCERR (ringOf n.val)) + 1) (2 ^ (R.BTN_RERR_CRCERR (ringOf
        n.val)).width - 1)
        ∧ t.btn = s.btn ∧ Frame [R.BTN_RERR_CRCERR (ringOf n.val)] s t))
  ∧ (∀ (n : Fin 64) (h : UpHead) (reps : List FireReport) (s : State), (upGood h = false ∨ reps.length = 0 ∨ 6 < reps.length) → Completes
  (.report ⟨n, h⟩ reps) s (fun t =>
      t.rd (R.BTN_RERR_CRCERR (ringOf n.val)) = min (s.rd (R.BTN_RERR_CRCERR (ringOf n.val)) + 1) (2 ^ (R.BTN_RERR_CRCERR (ringOf
        n.val)).width - 1)
        ∧ t.btn = s.btn ∧ Frame [R.BTN_RERR_CRCERR (ringOf n.val)] s t))
  ∧ (∀ (n : Fin 64) (h : UpHead) (code : BitVec 8) (detail : BitVec 24) (s : State), upGood h = false → Completes (.alarm ⟨n, h⟩ code
  detail) s (fun t =>
      t.rd (R.BTN_RERR_CRCERR (ringOf n.val)) = min (s.rd (R.BTN_RERR_CRCERR (ringOf n.val)) + 1) (2 ^ (R.BTN_RERR_CRCERR (ringOf
        n.val)).width - 1)
        ∧ t.btn = s.btn ∧ Frame [R.BTN_RERR_CRCERR (ringOf n.val)] s t))

/-- R90, R91, R93, R94, R100, R103, R104, R120, R121: an ECHO_R whose check character is wrong is nothing; while a break is sought it
  shows its driver reached; else its round trip less eight holds joins the run of its direction, the next ECHO goes out, and the mean
  of the last becomes the delay of that direction. The echo check and RECAL start a run on every driver that is up and answers, and
  PERIOD 0 means no check. Clearing a ring's enable takes the ring down and leaves none of its fires untransmitted, and setting it
  brings the ring up exactly when what it finds is good. A returned frame shows its direction up with its loop delay and counts a
  mismatch; one that does not return takes the direction down: the ring is degraded, and with neither direction left the break is
  sought. A row dark for REFMISS returns has all its valid columns declared failed. -/
def Obligations.BattenMeasuresRings : Prop :=
  (∀ (n : Fin 64) (ccw : Bool) (hold chk : BitVec 8) (rt : Nat) (s : State), chk ≠ echoChk n.val hold → Completes (.echoR n ccw ⟨hold,
  chk⟩ rt) s (fun t =>
      t.btn = s.btn ∧ Frame [] s t))
  ∧ (∀ (n : Fin 64) (ccw : Bool) (hold : BitVec 8) (rt : Nat) (s : State), (s.ringSt (ringOf n.val)).locating = true → Completes (.echoR n
  ccw ⟨hold, echoChk n.val hold⟩ rt) s (fun t =>
      (if ccw then (t.drv n.val).seenCcw else (t.drv n.val).seenCw) = true ∧ Frame [] s t))
  ∧ (∀ (n : Fin 64) (ccw : Bool) (hold : BitVec 8) (rt : Nat) (e : EchoRun) (s : State), (s.ringSt (ringOf n.val)).locating = false →
  echoRun s n.val ccw = some e → s.rd R.BTN_CALCFG_NECHO ≤ e.n + 1 → (∀ r : Fin 8, (s.ringSt r.val).back = none) → Completes (.echoR n
  ccw ⟨hold, echoChk n.val hold⟩ rt) s (fun t =>
      t.rd (if ccw then R.BTN_DDLY_ACCW n.val else R.BTN_DDLY_ACW n.val) = (divRound (e.sum + ((rt : Int) - 8 * hold.toNat)) (2 * (e.n
        + 1))).toNat % 2 ^ (R.BTN_DDLY_ACW n.val).width
        ∧ echoRun t n.val ccw = none ∧ Frame (echoFlds n.val) s t))
  ∧ (∀ (n : Fin 64) (ccw : Bool) (hold : BitVec 8) (rt : Nat) (e : EchoRun) (s : State), (s.ringSt (ringOf n.val)).locating = false →
  echoRun s n.val ccw = some e → e.n + 1 < s.rd R.BTN_CALCFG_NECHO → sendsBoth s (ringOf n.val) → Completes (.echoR n ccw ⟨hold,
  echoChk n.val hold⟩ rt) s (fun t =>
      echoRun t n.val ccw = some { sum := e.sum + ((rt : Int) - 8 * hold.toNat), n := e.n + 1 }
        ∧ Emit.ring (ringOf n.val) (if ccw then 2 else 1) (ringFrame 0x07 (addrOf n.val) (s.ringSt (ringOf n.val)).seq []) ∈ t.out
        ∧ Frame ((List.range 16).map R.DWL_PINJ_CNT) s t))
  ∧ (∀ (s : State), s.rd R.BTN_CALCFG_PERIOD = 0 → Completes (.echoCheck ()) s (fun t =>
      t.btn = s.btn ∧ Frame [] s t))
  ∧ (∀ (n : Fin 64) (s : State), s.rd R.BTN_CALCFG_PERIOD ≠ 0 → s.drvUp n.val = true → s.rd (R.BTN_DSTAT_SILENT n.val) = 0 → Completes
  (.echoCheck ()) s (fun t =>
      t.rd R.BTN_STATUS_CALBUSY = 1 ∧ (t.drv n.val).echoCw = some { sum := 0, n := 0 }
        ∧ (t.drv n.val).echoCcw = (if s.bothLoops (ringOf n.val) then some { sum := 0, n := 0 } else none)
        ∧ Frame (R.BTN_STATUS_CALBUSY :: (List.range 16).map R.DWL_PINJ_CNT) s t))
  ∧ (∀ (n : Fin 64) (s : State), s.drvUp n.val = true → s.rd (R.BTN_DSTAT_SILENT n.val) = 0 → Completes (.recal ()) s (fun t =>
      t.rd R.BTN_CTL_RECAL = 1 ∧ t.rd R.BTN_STATUS_CALBUSY = 1 ∧ (t.drv n.val).echoCw = some { sum := 0, n := 0 }
        ∧ Frame (R.BTN_CTL_RECAL :: R.BTN_STATUS_CALBUSY :: (List.range 16).map R.DWL_PINJ_CNT) s t))
  ∧ (∀ (en : BitVec 8) (finds : List (Fin 8 × RingFind)) (s : State), s.boot.pornLow = false → s.boot.powered = true → s.boot.inReset =
  false → Completes (.ringenWrite en finds) s (fun t =>
      t.rd R.BTN_CTL_RINGEN = en.toNat
        ∧ (∀ r : Fin 8, s.ringEn r.val = true → en.getLsbD r.val = false → t.ringUp r.val = false ∧ ∀ f ∈ t.btn.fires, ringOf f.driver
          = r.val → f.stage = .sent)
        ∧ (∀ r : Fin 8, s.ringEn r.val = false → en.getLsbD r.val = true → t.ringUp r.val = ringFindGood (findOf finds r.val))
        ∧ (∀ r : Fin 8, s.ringEn r.val = en.getLsbD r.val → t.ringUp r.val = s.ringUp r.val) ∧ KeepsMemory s t))
  ∧ (∀ (r : Fin 8) (ccw : Bool) (loop : Nat) (s : State), Completes (.returnedFrame r ccw (.same loop)) s (fun t =>
      t.on (if ccw then R.BTN_RSTAT_CCWUP r.val else R.BTN_RSTAT_CWUP r.val) = true
        ∧ t.rd (if ccw then R.BTN_RLOOP_LCCW r.val else R.BTN_RLOOP_LCW r.val) = min loop 65535
        ∧ Frame [(if ccw then R.BTN_RSTAT_CCWUP r.val else R.BTN_RSTAT_CWUP r.val), if ccw then R.BTN_RLOOP_LCCW r.val else
          R.BTN_RLOOP_LCW r.val, R.BTN_RSTAT_BREAK r.val, R.BTN_STATUS_RINGDEG] s t))
  ∧ (∀ (r : Fin 8) (ccw : Bool) (s : State), Completes (.returnedFrame r ccw .differs) s (fun t =>
      t.on (if ccw then R.BTN_RSTAT_CCWUP r.val else R.BTN_RSTAT_CWUP r.val) = true
        ∧ t.rd (R.BTN_RERR_CRCERR r.val) = min (s.rd (R.BTN_RERR_CRCERR r.val) + 1) (2 ^ (R.BTN_RERR_CRCERR r.val).width - 1)
        ∧ Frame [(if ccw then R.BTN_RSTAT_CCWUP r.val else R.BTN_RSTAT_CWUP r.val), R.BTN_RERR_CRCERR r.val, R.BTN_RSTAT_BREAK r.val,
          R.BTN_STATUS_RINGDEG] s t))
  ∧ (∀ (r : Fin 8) (ccw : Bool) (s : State), s.ringUp r.val = true → s.bothLoops r.val = true → Completes (.returnedFrame r ccw .missing)
  s (fun t =>
      t.rd (if ccw then R.BTN_RSTAT_CCWUP r.val else R.BTN_RSTAT_CWUP r.val) = 0 ∧ (t.rd R.BTN_STATUS_RINGDEG).testBit r.val = true
        ∧ t.rd R.BTN_INTSTAT_RINGDEG = 1 ∧ t.ringUp r.val = true
        ∧ Frame ([(if ccw then R.BTN_RSTAT_CCWUP r.val else R.BTN_RSTAT_CWUP r.val), R.BTN_STATUS_RINGDEG, R.BTN_INTSTAT_RINGDEG] ++
          reportFlds) s t))
  ∧ (∀ (r : Fin 8) (ccw : Bool) (s : State), s.ringUp r.val = true → s.on (if ccw then R.BTN_RSTAT_CCWUP r.val else R.BTN_RSTAT_CWUP
  r.val) = true → s.bothLoops r.val = false → Completes (.returnedFrame r ccw .missing) s (fun t =>
      t.rd (if ccw then R.BTN_RSTAT_CCWUP r.val else R.BTN_RSTAT_CWUP r.val) = 0 ∧ (t.ringSt r.val).locating = true
        ∧ t.ringUp r.val = true ∧ KeepsMemory s t))
  ∧ (∀ (n : Fin 64) (row : Fin 32) (s : State), max 1 (s.rd R.BTN_PROOFCFG_REFMISS) ≤ mapGet 0 s.btn.refMiss (32 * n.val + row.val) →
  Completes (.opticalDark n row) s (fun t =>
      t.rd R.BTN_INTSTAT_REFDARK = 1
        ∧ (∀ c : Fin 32, (s.sight s.peg.active (32 * n.val + row.val) c.val).valid = true → t.failed (32 * n.val + row.val) c.val =
          true)
        ∧ KeepsMemory s t))
  ∧ (∀ (n : Fin 64) (row : Fin 32) (s : State), mapGet 0 s.btn.refMiss (32 * n.val + row.val) = 0 → Completes (.opticalDark n row) s (fun
  t =>
      t.btn = s.btn ∧ Frame [] s t))

/-- R462 to R464, R467: a report whose key is open joins its entry; a new key with room opens an entry, which is recorded at once from
  severity 3 on when the writer is idle; a flush writes an open entry, with its count and times, and closes it, unless the write queue
  is full; INJLOCK is set. -/
def Obligations.FaultReportsCoalesce : Prop :=
  (∀ (r : Report) (rest : List Report) (s : State), s.flt.fifo = r :: rest → s.flt.opens.any (·.hasKey r.src r.code) = true → Completes
  .faultReport s (fun t =>
      t.flt.fifo = rest ∧ t.flt.opens.length = s.flt.opens.length
        ∧ (∃ e ∈ t.flt.opens, e.hasKey r.src r.code = true ∧ e.last = r.time ∧ e.unitLast = r.unit ∧ e.dLast = r.detail)
        ∧ t.flt.ring = s.flt.ring ∧ Frame [R.FLT_STATUS_OPEN] s t))
  ∧ (∀ (r : Report) (rest : List Report) (s : State), s.flt.fifo = r :: rest → s.flt.opens.any (·.hasKey r.src r.code) = false →
  fltTableRoom s.flt.opens r.sev = true → r.sev < 3 → Completes .faultReport s (fun t =>
      t.flt.fifo = rest ∧ t.flt.opens = s.flt.opens ++ [FltEntry.ofReport r] ∧ t.flt.ring = s.flt.ring ∧ Frame [R.FLT_STATUS_OPEN] s
        t))
  ∧ (∀ (r : Report) (rest : List Report) (s : State), s.flt.fifo = r :: rest → s.flt.opens.any (·.hasKey r.src r.code) = false →
  fltTableRoom s.flt.opens r.sev = true → 3 ≤ r.sev → s.flt.wbusy = 0 → s.flt.wq = [] → s.rd R.FLT_CTL_STOPFULL = 0 → Completes
  .faultReport s (fun t =>
      t.flt.fifo = rest
        ∧ (∃ e ∈ t.flt.ring, e.eseq = s.flt.nextSeq ∧ e.src = r.src ∧ e.code = r.code ∧ e.sev = r.sev ∧ e.count = 1 ∧ e.first = r.time)
        ∧ t.flt.nextSeq = s.flt.nextSeq + 1 ∧ t.flt.opens.length = s.flt.opens.length + 1
        ∧ Frame [R.FLT_STATUS_OPEN, R.FLT_INTSTAT_ENTRY] s t))
  ∧ (∀ (src code : Nat) (e : FltEntry) (s : State), s.flt.opens.find? (·.hasKey src code) = some e → e.count ≠ 0 → s.fltRoom = true →
  Completes (.entryFlush src code) s (fun t =>
      t.flt.opens = removeFirst (·.hasKey src code) s.flt.opens ∧ t.flt.opens.length + 1 = s.flt.opens.length
        ∧ (s.flt.wbusy = 0 → s.flt.wq = [] → s.rd R.FLT_CTL_STOPFULL = 0 → ∃ x ∈ t.flt.ring, x.eseq = s.flt.nextSeq ∧ x.src = e.src ∧
          x.code = e.code ∧ x.count = e.count ∧ x.first = e.first ∧ x.last = e.last)
        ∧ (s.flt.wbusy ≠ 0 → e ∈ t.flt.wq)
        ∧ Frame [R.FLT_STATUS_OPEN, R.FLT_INTSTAT_ENTRY, R.FLT_LOSTFULL_CNT, R.FLT_STATUS_FULL, R.FLT_INTSTAT_FULL] s t))
  ∧ (∀ (src code : Nat) (e : FltEntry) (s : State), s.flt.opens.find? (·.hasKey src code) = some e → e.count ≠ 0 → s.fltRoom = false →
  Completes (.entryFlush src code) s (fun t =>
      t.flt = s.flt ∧ Frame [] s t))
  ∧ (∀ (s : State), Completes .injlock s (fun t =>
      t.rd R.FLT_CTL_INJLOCK = 1 ∧ Frame [R.FLT_CTL_INJLOCK] s t))

/-- R12, R33, R446, R474, R475, R484: a write of GLB_SCRATCH takes its word; a write of GLB_INTSTAT clears exactly the flags written
  with 1; a write outside the registers or with other byte enables is counted and recorded; an access that Girt refuses is counted by
  Girt and changes nothing else; a read answers the word; arming sets ARMED or sends the summary message at once; JTAG writes
  registers and memory whatever Girt's tables say. -/
def Obligations.RegisterAccesses : Prop :=
  (∀ (v : BitVec 64) (s : State), s.barOn = true → s.girtReg girtHost 0x40 true = true → Completes (.registerWrite 0x40#24 0x0F#8 v) s
  (fun t =>
      t.rd R.GLB_SCRATCH_DATA = v.toNat % 2 ^ 32 ∧ Frame [R.GLB_SCRATCH_DATA] s t))
  ∧ (∀ (v : BitVec 64) (s : State), s.barOn = true → s.girtReg girtHost 0x30 true = true → v.toNat < 16 → s.rd R.GLB_INTSTAT_STAGECHG ≤ 1
  → s.rd R.GLB_INTSTAT_ACCERR ≤ 1 → s.rd R.GLB_INTSTAT_KEYBAD ≤ 1 → s.rd R.GLB_INTSTAT_RSTDONE ≤ 1 → Completes (.registerWrite 0x30#24
  0x0F#8 v) s (fun t =>
      t.rd R.GLB_INTSTAT_STAGECHG = (if v.getLsbD 0 then 0 else s.rd R.GLB_INTSTAT_STAGECHG)
        ∧ t.rd R.GLB_INTSTAT_ACCERR = (if v.getLsbD 1 then 0 else s.rd R.GLB_INTSTAT_ACCERR)
        ∧ t.rd R.GLB_INTSTAT_KEYBAD = (if v.getLsbD 2 then 0 else s.rd R.GLB_INTSTAT_KEYBAD)
        ∧ t.rd R.GLB_INTSTAT_RSTDONE = (if v.getLsbD 3 then 0 else s.rd R.GLB_INTSTAT_RSTDONE)
        ∧ Frame [R.GLB_INTSTAT_STAGECHG, R.GLB_INTSTAT_ACCERR, R.GLB_INTSTAT_KEYBAD, R.GLB_INTSTAT_RSTDONE] s t))
  ∧ (∀ (be : BitVec 8) (v : BitVec 64) (addr : BitVec 24) (s : State), s.barOn = true → be ≠ 0x0F#8 → be ≠ 0xF0#8 → be ≠ 0xFF#8 →
  Completes (.registerWrite addr be v) s (fun t =>
      t.rd R.GLB_ACCERR_BADACC = min (s.rd R.GLB_ACCERR_BADACC + 1) 65535 ∧ t.rd R.GLB_LASTERR_OFFSET = addr.toNat
        ∧ t.rd R.GLB_LASTERR_WRITE = 1 ∧ t.rd R.GLB_LASTERR_KIND = 1
        ∧ Frame [R.GLB_ACCERR_BADACC, R.GLB_LASTERR_OFFSET, R.GLB_LASTERR_WRITE, R.GLB_LASTERR_KIND] s t))
  ∧ (∀ (v : BitVec 64) (s : State), s.barOn = true → s.girtReg girtHost 0x44 true = true → Completes (.registerWrite 0x44#24 0x0F#8 v) s
  (fun t =>
      t.rd R.GLB_ACCERR_BADACC = min (s.rd R.GLB_ACCERR_BADACC + 1) 65535 ∧ t.rd R.GLB_LASTERR_OFFSET = 0x44
        ∧ t.rd R.GLB_LASTERR_KIND = 0 ∧ t.rd R.GLB_INTSTAT_ACCERR = 1
        ∧ Frame [R.GLB_ACCERR_BADACC, R.GLB_LASTERR_OFFSET, R.GLB_LASTERR_WRITE, R.GLB_LASTERR_KIND, R.GLB_INTSTAT_ACCERR] s t))
  ∧ (∀ (v : BitVec 64) (s : State), s.barOn = true → s.girtReg girtHost 0x40 true = false → Completes (.registerWrite 0x40#24 0x0F#8 v) s
  (fun t =>
      t.rd R.GLB_SCRATCH_DATA = s.rd R.GLB_SCRATCH_DATA
        ∧ t.rd R.GRT_DENY_CNT = min (s.rd R.GRT_DENY_CNT + 1) (2 ^ R.GRT_DENY_CNT.width - 1) ∧ t.rd R.GRT_LASTDENY_TARGET = 64
        ∧ t.rd R.GRT_INTSTAT_DENY = 1
        ∧ Frame ([R.GRT_DENY_CNT, R.GRT_LASTDENY_MASTER, R.GRT_LASTDENY_TARGET, R.GRT_LASTDENY_WRITE, R.GRT_LASTADDRLO_ADDR,
          R.GRT_LASTADDRHI_ADDR, R.GRT_INTSTAT_DENY] ++ reportFlds) s t))
  ∧ (∀ (addr : BitVec 24) (be : BitVec 8) (v : BitVec 64) (s : State), s.barOn = false → Completes (.registerWrite addr be v) s (fun t =>
      t.out = s.settle.out ∧ Frame [] s t))
  ∧ (∀ (s : State), s.barOn = true → s.girtReg girtHost 0x40 false = true → s.rd R.GLB_SCRATCH_DATA < 2 ^ 32 → Completes (.registerRead
  0x40#24 4#4) s (fun t =>
      Emit.regRead 0x40 (s.rd R.GLB_SCRATCH_DATA) ∈ t.out ∧ Frame [] s t))
  ∧ (∀ (s : State), s.barOn = true → s.girtReg girtHost 0x38 false = true → Completes (.registerRead 0x38#24 4#4) s (fun t =>
      t.rd R.GLB_ACCERR_BADACC = 0 ∧ t.rd R.GLB_ACCERR_RSVDWR = 0 ∧ Frame [R.GLB_ACCERR_BADACC, R.GLB_ACCERR_RSVDWR] s t))
  ∧ (∀ (s : State), s.barOn = true → s.girtReg girtHost 0x28 true = true → Completes .glbIntctlArm s (fun t =>
      (s.rd R.HIF_CTL_GVECEN ≠ 0 ∧ s.summary ≠ 0 → t.rd R.GLB_INTCTL_ARMED = 0)
        ∧ (s.rd R.HIF_CTL_GVECEN = 0 ∨ s.summary = 0 → t.rd R.GLB_INTCTL_ARMED = 1 ∧ t.out = s.out) ∧ Frame [] s t))
  ∧ (∀ (v : Word) (s : State), s.boot.pornLow = false → s.boot.powered = true → Completes (.jtagAccess (.regWrite 0x40#24 v)) s (fun t =>
      t.rd R.GLB_SCRATCH_DATA = v.toNat ∧ Frame [R.GLB_SCRATCH_DATA] s t))
  ∧ (∀ (addr : BitVec 40) (b : Byte) (s : State), s.boot.pornLow = false → s.boot.powered = true → addr.toNat < hbmSize → Completes
  (.jtagAccess (.hbmWrite addr [b])) s (fun t =>
      t.hbmByte addr.toNat = b ∧ (∀ a, a ≠ addr.toNat → t.hbmByte a = s.hbmByte a) ∧ t.flash = s.flash ∧ KeepsRegs [] s t))
  ∧ (∀ (darkN : Bool) (sout : BitVec 4) (s : State), s.boot.pornLow = false → s.boot.powered = true → Completes (.jtagAccess (.boundary
  darkN sout)) s (fun t =>
      Emit.jtagScan (s.on R.TRS_STATE_DARKCMD) s.soutCmd ∈ t.out ∧ Frame [] s t))

/-- R64 to R66, R76, R78, R291, R303: a quadrature edge counts in Tenon and in Truss, and one that comes too fast is an error that
  unlocks; an index edge keeps a count within 2 of whole revolutions and otherwise restarts it with an error; an index edge missing
  for 1.5 revolutions at 10 rev/s or more is an error, and at a lower speed or sooner is none; the scan state sample publishes phase,
  speed, tilt, facet and validity, and a phase that Truss finds too far off locks an armed part out; requests are kept for a restart;
  the spin-up timer's expiry is flagged. -/
def Obligations.EncoderMovesTheScanState : Prop :=
  (∀ (back : Bool) (s : State), s.tnn.edgeTick + 5 ≤ s.clk.ticks → Completes (.encoderEdge back) s (fun t =>
      t.tnn.count = s.tnn.count + (if back != s.on R.TNN_ENCCFG_ABSWAP then -1 else 1) ∧ t.tnn.interval = s.clk.ticks - s.tnn.edgeTick
        ∧ t.tnn.edgeTick = s.clk.ticks ∧ t.trs.phase.counts = s.trs.phase.counts + 1 ∧ Frame [] s t))
  ∧ (∀ (back : Bool) (s : State), s.clk.ticks < s.tnn.edgeTick + 5 → Completes (.encoderEdge back) s (fun t =>
      t.rd R.TNN_INTSTAT_ENCFAST = 1 ∧ t.tnn.encErr = true ∧ t.rd R.TNN_STATUS_SPLOCK = 0 ∧ t.rd R.TNN_STATUS_SCANVALID = 0
        ∧ t.trs.phase.counts = s.trs.phase.counts + 1 ∧ KeepsMemory s t))
  ∧ (∀ (s : State), s.tnn.indexSeen = true → (revRest s.tnn.count s.cpr).natAbs ≤ 2 → Completes .indexEdge s (fun t =>
      t.tnn.count = revRest s.tnn.count s.cpr ∧ t.tnn.indexTick = s.clk.ticks ∧ t.trs.phase.counts = 0 ∧ t.trs.phase.seen = true
        ∧ t.trs.phase.indexLsb = s.nowLsb ∧ Frame [] s t))
  ∧ (∀ (s : State), s.tnn.indexSeen = true → 2 < (revRest s.tnn.count s.cpr).natAbs → Completes .indexEdge s (fun t =>
      t.tnn.count = 0 ∧ t.rd R.TNN_INTSTAT_IDXERR = 1 ∧ t.tnn.encErr = true ∧ t.rd R.TNN_STATUS_SPLOCK = 0 ∧ KeepsMemory s t))
  ∧ (∀ (s : State), fLe (fInt 10) (fAbs s.speed) = true → 3 * s.cpr ≤ 2 * s.tnn.count.natAbs → Completes .indexMissing s (fun t =>
      t.tnn.indexSeen = false ∧ t.rd R.TNN_INTSTAT_IDXERR = 1 ∧ t.rd R.TNN_STATUS_SPLOCK = 0 ∧ t.rd R.TNN_STATUS_SCANVALID = 0
        ∧ KeepsMemory s t))
  ∧ (∀ (s : State), (fLe (fInt 10) (fAbs s.speed) = false ∨ 2 * s.tnn.count.natAbs < 3 * s.cpr) → Completes .indexMissing s (fun t =>
      t.tnn = s.tnn ∧ Frame [] s t))
  ∧ (∀ (s : State), s.rd R.TNN_STATUS_SCANVALID = 0 → s.phiValid = false → Completes .scanStateSample s (fun t =>
      t.tnn.smpLsb = s.nowLsb ∧ t.tnn.smpPhi = BitVec.ofNat 32 s.phi ∧ t.tnn.smpSpeed = s.speed ∧ t.tnn.smpTilt = s.fr R.TNN_TLPOS_M
        ∧ t.tnn.smpValid = false
        ∧ t.tnn.smpFacet = s.rd R.TNN_SPCFG_FACETS * ((s.phi + (2 ^ 32 - s.rd R.TNN_DEADOFS_DEADOFS)) % 2 ^ 32) / 2 ^ 32
        ∧ t.btn.windows = s.btn.windows.filter (fun w => decide (s.nowLsb < w.stop)) ∧ Frame [] s t))
  ∧ (∀ (s : State), s.rd R.TNN_STATUS_SCANVALID ≠ 0 → s.phiValid = true → max 1 (s.rd R.TRS_EXPCFG_PHTOL) * 2 ^ 16 < (toSigned 32 ((s.phiT
  + (2 ^ 32 - s.phi)) % 2 ^ 32)).natAbs → s.trsState = 1 → Completes .scanStateSample s (fun t =>
      t.tnn.smpValid = true ∧ t.trs.phFault = true ∧ t.trsState = 3 ∧ t.rd R.TRS_LASTCAUSE_CAUSE = 0x0106
        ∧ t.rd R.TRS_STATE_DARKCMD = 0 ∧ KeepsMemory s t))
  ∧ (∀ (s : State), Completes .retainedStateCopy s (fun t =>
      t.tnn.retSp = s.rd R.TNN_SPCTL_MODE ∧ t.tnn.retTl = s.rd R.TNN_TLCTL_MODE ∧ t.tnn.retDem = s.tnn.sp.u ∧ Frame [] s t))
  ∧ (∀ (s : State), s.tnn.spinTimer = true → s.rd R.TNN_SPCFG_SUTIME ≠ 0 → s.rd R.GLB_STATUS_STAGE ≠ 0x0A → Completes .spinUpTimeout s
  (fun t =>
      t.rd R.TNN_INTSTAT_SUTIMEOUT = 1 ∧ t.tnn.spinTimer = false ∧ Frame ([R.TNN_INTSTAT_SUTIMEOUT] ++ reportFlds) s t))
  ∧ (∀ (s : State), s.tnn.spinTimer = true → s.rd R.TNN_SPCFG_SUTIME ≠ 0 → s.rd R.GLB_STATUS_STAGE = 0x0A → Completes .spinUpTimeout s
  (fun t =>
      t.rd R.TNN_INTSTAT_SUTIMEOUT = 1 ∧ t.rd R.GLB_STATUS_STAGE = 0x0A ∧ t.rd R.GLB_STATUS_CAUSE = 0x0D ∧ t.boot.stalled = true
        ∧ KeepsMemory s t))

/-- R67, R71, R74, R75, R77, R79: a spindle sample in OFF leaves the torque port quiet, in COAST sends a coast frame whose demand is
  never -32,768, in TEST drives the open-loop output, and in SPEED and on LOCK's phase loop takes one step of the loop law and sends
  the output as a torque frame; the first sample at which the speed is captured and the phase error within 0.005 turn hands LOCK over
  to its phase loop; speed capture, lock and the end of a blend follow their counters; a following error of the spindle falls back and
  unlocks, one of the tilt ends scan validity. -/
def Obligations.SpindleLoopRuns : Prop :=
  (∀ (s : State), s.tnn.spSwap = false → s.spMode = 0 → s.tnn.cap = none → Completes .spindleSample s (fun t =>
      t.rd R.TNN_SPEED_V = s.speed.toNat ∧ t.tnn.portQuiet = true ∧ t.rd R.TNN_STATUS_SPSAT = 0
        ∧ Frame [R.TNN_SPEED_V, R.TNN_STATUS_SPSAT] s t))
  ∧ (∀ (s : State), s.tnn.spSwap = false → s.spMode = 1 → s.tnn.cap = none → Completes .spindleSample s (fun t =>
      t.rd R.TNN_SPEED_V = s.speed.toNat ∧ t.tnn.portQuiet = false ∧ t.tnn.seq = (if s.tnn.portQuiet then 0 else s.tnn.seq) + 1
        ∧ (∃ w, w ≠ 0x8000 ∧ Emit.torque (torqueFrame 1 (if s.tnn.portQuiet then 0 else s.tnn.seq) w) ∈ t.out)
        ∧ t.rd R.TNN_STATUS_SPSAT = 0 ∧ Frame [R.TNN_SPEED_V, R.TNN_STATUS_SPSAT] s t))
  ∧ (∀ (s : State), s.tnn.spSwap = false → s.spMode = 4 → s.tnn.cap = none → s.tnn.inj = none → Completes .spindleSample s (fun t =>
      t.rd R.TNN_SPOUT_U = (fAdd (s.fr R.TNN_SPOPEN_U) 0).toNat ∧ t.tnn.sp.u = fAdd (s.fr R.TNN_SPOPEN_U) 0
        ∧ Emit.torque (torqueFrame 0 (if s.tnn.portQuiet then 0 else s.tnn.seq) (s.demand (fAdd (s.fr R.TNN_SPOPEN_U) 0))) ∈ t.out
        ∧ t.rd R.TNN_STATUS_SPSAT = 0 ∧ Frame [R.TNN_SPEED_V, R.TNN_SPOUT_U, R.TNN_STATUS_SPSAT] s t))
  ∧ (∀ (l : LoopState) (sat : Bool) (s : State), s.tnn.spSwap = false → s.spMode = 2 → s.tnn.cap = none → s.tnn.inj = none →
  s.tnn.phaseLoop = false → s.tnn.engage = false → loopStep (s.speedCoef s.spBank) (tsOf false) s.tnn.sp (s.speedIn (rampToward (s.fr
  (R.TNN_SP_RAMP s.spBank)) s.tnn.setpoint s.target) 0 0 (blendAt s.tnn.blend0 s.tnn.blendN)) = (l, sat) → Completes .spindleSample s
  (fun t =>
      t.tnn.sp = l ∧ t.rd R.TNN_SPOUT_U = l.u.toNat ∧ t.rd R.TNN_STATUS_SPSAT = sat.toNat
        ∧ t.tnn.setpoint = rampToward (s.fr (R.TNN_SP_RAMP s.spBank)) s.tnn.setpoint s.target
        ∧ Emit.torque (torqueFrame 0 (if s.tnn.portQuiet then 0 else s.tnn.seq) (s.demand l.u)) ∈ t.out ∧ KeepsMemory s t))
  ∧ (∀ (l : LoopState) (sat : Bool) (s : State), s.tnn.spSwap = false → s.spMode = 3 → s.tnn.cap = none → s.tnn.inj = none →
  s.tnn.phaseLoop = true → s.tnn.fall = false → s.tnn.engage = false → loopStep (s.phaseCoef s.spBank) (tsOf false) s.tnn.sp
  (s.phaseIn 0 0 (blendAt s.tnn.blend0 s.tnn.blendN)) = (l, sat) → Completes .spindleSample s (fun t =>
      t.tnn.sp = l ∧ t.tnn.phaseLoop = true ∧ t.rd R.TNN_SPOUT_U = l.u.toNat ∧ t.rd R.TNN_STATUS_SPSAT = sat.toNat
        ∧ t.tnn.lockN = (if fLe (fAbs (fTurn s.phaseErr)) (s.fr (R.TNN_SP_LOCKWIN s.spBank)) then s.tnn.lockN + 1 else 0)
        ∧ Emit.torque (torqueFrame 0 (if s.tnn.portQuiet then 0 else s.tnn.seq) (s.demand l.u)) ∈ t.out ∧ KeepsMemory s t))
  ∧ (∀ (s : State), s.tnn.spSwap = false → s.spMode = 3 → s.tnn.cap = none → s.tnn.inj = none → s.tnn.phaseLoop = false → s.tnn.fall =
  false → max 1 (s.rd R.TNN_LOCKCFG_CAPCNT) ≤ s.capNow → turnWithin s.phaseErr 5 1000 = true → Completes .spindleSample s (fun t =>
      t.tnn.phaseLoop = true ∧ t.tnn.blendN = 1 ∧ t.tnn.sp = (loopHandOver (s.phaseCoef s.spBank) s.tnn.sp.u (s.phaseIn 0 0 0)).1
        ∧ t.tnn.blend0 = (loopHandOver (s.phaseCoef s.spBank) s.tnn.sp.u (s.phaseIn 0 0 0)).2.1 ∧ KeepsMemory s t))
  ∧ (∀ (s : State), (s.spMode = 2 ∨ s.spMode = 3) → s.tnn.phaseLoop = false → max 1 (s.rd R.TNN_LOCKCFG_CAPCNT) ≤ s.tnn.capN → Completes
  .speedCapture s (fun t =>
      t.tnn.captured = true ∧ (s.spMode = 2 → t.tnn.spinTimer = false) ∧ Frame [] s t))
  ∧ (∀ (s : State), s.spMode = 3 → s.tnn.phaseLoop = true → s.rd R.TNN_STATUS_SPLOCK = 0 → max 1 (s.rd R.TNN_LOCKCFG_LOCKCNT) ≤
  s.tnn.lockN → Completes .splockSet s (fun t =>
      t.rd R.TNN_STATUS_SPLOCK = 1 ∧ t.rd R.TNN_INTSTAT_LOCKGAIN = 1 ∧ t.tnn.encErr = false ∧ t.tnn.spinTimer = false ∧ KeepsMemory s
        t))
  ∧ (∀ (s : State), 2500 ≤ s.tnn.blendN → Completes .blendEnd s (fun t =>
      t.rd R.TNN_STATUS_BLEND = 0 ∧ t.tnn.blend0 = 0 ∧ Frame [R.TNN_STATUS_BLEND] s t))
  ∧ (∀ (s : State), s.spMode = 3 → s.tnn.phaseLoop = true → feTrip (s.rd (R.TNN_SP_FETIME s.spBank)) ≤ s.rd R.TNN_FECNT_SP → Completes
  (.followingErrorTrip false) s (fun t =>
      t.rd R.TNN_INTSTAT_SPFETRIP = 1 ∧ t.rd R.TNN_FECNT_SP = 0 ∧ t.tnn.fall = true ∧ t.tnn.captured = false
        ∧ t.rd R.TNN_STATUS_SPLOCK = 0 ∧ KeepsMemory s t))
  ∧ (∀ (s : State), (s.tlMode = 1 ∨ s.tlMode = 2) → s.tnn.tlTrip = false → feTrip (s.rd (R.TNN_TL_FETIME s.tlBank)) ≤ s.rd R.TNN_FECNT_TL
  → Completes (.followingErrorTrip true) s (fun t =>
      t.rd R.TNN_INTSTAT_TLFETRIP = 1 ∧ t.tnn.tlTrip = true ∧ t.rd R.TNN_STATUS_SCANVALID = 0 ∧ t.tlMode = s.tlMode ∧ KeepsMemory s t))

/-- R69, R73, R74, R81, R335, R336: a tilt sample whose pins agree or without a reference fails at once, else its conversion is
  requested; a result with an open wire at one of its own pins is invalid, and a good one, the average of 2^TLOS codes, becomes the
  tilt's position; three invalid samples raise TLSENS; a tilt mode is taken when its code, bank and pin are valid and refused
  otherwise; a swap waits for the next frame start when the inactive bank is valid and is refused otherwise; a further one before it
  is applied is ignored. -/
def Obligations.TiltLoopAndItsRequests : Prop :=
  (∀ (s : State), s.tnn.tlSwap = false → s.tnn.cap = none → (s.rd R.TNN_TLCFG_AXPIN = s.rd R.SIL_INJCFG_NPIN ∨ s.rd R.SIL_STATUS_REFRDY
  = 0) → Completes .tiltSample s (fun t =>
      t.rd R.SIL_INJRES_OVR = 1 ∧ t.rd R.SIL_INJRES_WB = 0 ∧ t.tnn.tlBad = s.tnn.tlBad + 1 ∧ t.tnn.tlOk = false
        ∧ t.rd R.TNN_STATUS_SCANVALID = 0 ∧ KeepsMemory s t))
  ∧ (∀ (s : State), s.tnn.tlSwap = false → s.rd R.TNN_TLCFG_AXPIN ≠ s.rd R.SIL_INJCFG_NPIN → s.rd R.SIL_STATUS_REFRDY ≠ 0 → Completes
  .tiltSample s (fun t =>
      t.sil.injPend = true ∧ t.rd (if s.injAdc then R.SIL_STATUS_INJ1 else R.SIL_STATUS_INJ0) = 1
        ∧ t.tnn = { s.tnn with tlAge := s.frameAge } ∧ t.sil.injP = s.rd R.TNN_TLCFG_AXPIN ∧ t.sil.injN = s.rd R.SIL_INJCFG_NPIN
        ∧ Frame [R.SIL_STATUS_INJ0, R.SIL_STATUS_INJ1, R.SIL_ABORTS_ABORT] s t))
  ∧ (∀ (codes : List (BitVec 18)) (wbPins : BitVec 24) (s : State), s.sil.injPend = true → s.tnn.cap = none → ownPins (some (s.sil.injP,
  s.sil.injN)) wbPins ≠ 0 → Completes (.tiltSampleReady codes wbPins) s (fun t =>
      t.sil.injPend = false ∧ t.rd R.SIL_STATUS_INJ0 = 0 ∧ t.rd R.SIL_STATUS_INJ1 = 0 ∧ t.rd R.SIL_INJRES_WB = 1
        ∧ t.tnn.tlBad = s.tnn.tlBad + 1 ∧ t.tnn.tlOk = false ∧ KeepsMemory s t))
  ∧ (∀ (codes : List (BitVec 18)) (v : Int) (s : State), s.sil.injPend = true → s.tnn.cap = none → convResult (firstCodes (2 ^ s.rd
  R.TNN_TLCFG_TLOS) codes) (s.silCor (s.on R.SIL_STATUS_INJ1)).1 (s.silCor (s.on R.SIL_STATUS_INJ1)).2 = (v, false) → Completes
  (.tiltSampleReady codes 0#24) s (fun t =>
      t.sil.injPend = false ∧ t.rd R.SIL_INJRES_WB = 0 ∧ t.rd R.SIL_INJRES_OVR = 0 ∧ t.tnn.tlBad = 0
        ∧ t.rd R.TNN_TLPOS_M = (fRat (if s.on R.TNN_TLCFG_SENSPOL then -v else v) 2097152).toNat ∧ KeepsMemory s t))
  ∧ (∀ (s : State), 3 ≤ s.tnn.tlBad → Completes .tlsens s (fun t =>
      t.rd R.TNN_INTSTAT_TLSENS = 1 ∧ Frame ([R.TNN_INTSTAT_TLSENS] ++ reportFlds) s t))
  ∧ (∀ (m : BitVec 3) (s : State), m.toNat < 4 → s.tlBankOk s.tlBank = true → (m.toNat = 1 ∨ m.toNat = 2 → s.rd R.TNN_TLCFG_AXPIN < 24) →
  Completes (.tiltModeRequest m) s (fun t =>
      t.tlMode = m.toNat ∧ t.rd R.TNN_TLCTL_MODE = m.toNat ∧ (m = 0 → s.tlMode ≠ 0 → t.rd R.TNN_TLOUT_U = 0) ∧ KeepsMemory s t))
  ∧ (∀ (m : BitVec 3) (s : State), (4 ≤ m.toNat ∨ s.tlBankOk s.tlBank = false ∨ ((m.toNat = 1 ∨ m.toNat = 2) ∧ 24 ≤ s.rd
  R.TNN_TLCFG_AXPIN)) → Completes (.tiltModeRequest m) s (fun t =>
      t.rd R.TNN_INTSTAT_BADCFG = 1 ∧ t.tnn = s.tnn ∧ Frame ([R.TNN_INTSTAT_BADCFG] ++ reportFlds) s t))
  ∧ (∀ (s : State), s.tnn.tlSwap = false → s.tlBankOk (1 - s.tlBank) = true → Completes .tiltSwap s (fun t =>
      t.rd R.TNN_TLCTL_SWAP = 1 ∧ t.tnn.tlSwap = true ∧ t.tnn.tlSwapDue = false ∧ Frame [R.TNN_TLCTL_SWAP] s t))
  ∧ (∀ (s : State), s.tnn.tlSwap = true → Completes .tiltSwap s (fun t =>
      t.tnn = s.tnn ∧ Frame [] s t))
  ∧ (∀ (s : State), s.tnn.tlSwap = false → s.tlBankOk (1 - s.tlBank) = false → Completes .tiltSwap s (fun t =>
      t.rd R.TNN_INTSTAT_BADCFG = 1 ∧ t.tnn = s.tnn ∧ Frame ([R.TNN_INTSTAT_BADCFG] ++ reportFlds) s t))

/-- R62, R74, R81, R83, R84: a spindle mode is taken when its code, bank and, for SPEED and LOCK, the conditions on counts and target
  hold, and refused otherwise; TNN_SPCFG takes its fields only when every period keeps the target inside its range; a spindle swap is
  taken when the inactive bank is valid and refused otherwise, and a further one is ignored; an injection starts, or is refused for a
  reserved code or a loop that does not run, is asked to stop, and ends; a response capture starts when its entries lie aligned inside
  the scratch region, is refused otherwise, and ends. -/
def Obligations.SpindleRequestsInjectionCapture : Prop :=
  (∀ (m : BitVec 3) (s : State), m.toNat < 5 → s.spBankOk s.spBank = true → (m.toNat = 2 ∨ m.toNat = 3 → 256 ≤ s.rd R.TNN_ENCCFG_CPR ∧
  s.spindleOk (s.rd R.TNN_SPCFG_FACETS) (s.rd R.TNN_SPCFG_REVS) = true) → Completes (.spindleModeRequest m) s (fun t =>
      t.spMode = m.toNat ∧ t.rd R.TNN_SPCTL_MODE = m.toNat
        ∧ (m.toNat ≠ 2 → m.toNat ≠ 3 → s.spMode ≠ m.toNat → t.tnn.phaseLoop = false ∧ t.rd R.TNN_STATUS_BLEND = 0) ∧ KeepsMemory s t))
  ∧ (∀ (m : BitVec 3) (s : State), (5 ≤ m.toNat ∨ s.spBankOk s.spBank = false ∨ ((m.toNat = 2 ∨ m.toNat = 3) ∧ (s.rd R.TNN_ENCCFG_CPR <
  256 ∨ s.spindleOk (s.rd R.TNN_SPCFG_FACETS) (s.rd R.TNN_SPCFG_REVS) = false))) → Completes (.spindleModeRequest m) s (fun t =>
      t.rd R.TNN_INTSTAT_BADCFG = 1 ∧ t.tnn = s.tnn ∧ Frame ([R.TNN_INTSTAT_BADCFG] ++ reportFlds) s t))
  ∧ (∀ (v : Word) (s : State), s.periods.all (fun p => targetOk (v.toNat / 32 % 128) p) = true → Completes (.tnnSpcfgWrite v) s (fun t =>
      t.rd R.TNN_SPCFG_FACETS = v.toNat % 32 ∧ t.rd R.TNN_SPCFG_REVS = v.toNat / 32 % 128 ∧ t.rd R.TNN_SPCFG_DIR = v.toNat / 4096 % 2
        ∧ t.rd R.TNN_SPCFG_SUTIME = v.toNat / 65536
        ∧ Frame ([R.TNN_SPCFG_FACETS, R.TNN_SPCFG_REVS, R.TNN_SPCFG_DIR, R.TNN_SPCFG_SUTIME] ++ rsvdFlds (v &&& 0xE000#32 != 0)) s t))
  ∧ (∀ (v : Word) (s : State), s.periods.all (fun p => targetOk (v.toNat / 32 % 128) p) = false → Completes (.tnnSpcfgWrite v) s (fun t =>
      t.rd R.TNN_INTSTAT_BADCFG = 1 ∧ t.tnn = s.tnn
        ∧ Frame ([R.TNN_INTSTAT_BADCFG] ++ reportFlds ++ rsvdFlds (v &&& 0xE000#32 != 0)) s t))
  ∧ (∀ (s : State), s.tnn.spSwap = false → s.spBankOk (1 - s.spBank) = true → Completes .spindleSwap s (fun t =>
      t.rd R.TNN_SPCTL_SWAP = 1 ∧ t.tnn.spSwap = true ∧ Frame [R.TNN_SPCTL_SWAP] s t))
  ∧ (∀ (s : State), s.tnn.spSwap = true → Completes .spindleSwap s (fun t =>
      t.tnn = s.tnn ∧ Frame [] s t))
  ∧ (∀ (s : State), s.tnn.spSwap = false → s.spBankOk (1 - s.spBank) = false → Completes .spindleSwap s (fun t =>
      t.rd R.TNN_INTSTAT_BADCFG = 1 ∧ t.tnn = s.tnn ∧ Frame ([R.TNN_INTSTAT_BADCFG] ++ reportFlds) s t))
  ∧ (∀ (s : State), (s.rd R.TNN_INJCFG_LOOP = 1 ∧ 1 < s.spMode ∨ s.rd R.TNN_INJCFG_LOOP = 2 ∧ s.tlMode ≠ 0) → s.rd R.TNN_INJCFG_SHAPE ≠ 3
  → Completes .injectionStart s (fun t =>
      t.tnn.inj = some
        { tilt := s.rd R.TNN_INJCFG_LOOP == 2, output := s.on R.TNN_INJCFG_POINT, shape := s.rd R.TNN_INJCFG_SHAPE, n := 0, lfsr := 0x7FF#11, stop := false }
        ∧ Frame [] s t))
  ∧ (∀ (s : State), (s.rd R.TNN_INJCFG_LOOP = 0 ∨ s.rd R.TNN_INJCFG_LOOP = 3 ∨ s.rd R.TNN_INJCFG_SHAPE = 3 ∨ (s.rd R.TNN_INJCFG_LOOP = 1 ∧
  s.spMode ≤ 1) ∨ (s.rd R.TNN_INJCFG_LOOP = 2 ∧ s.tlMode = 0)) → Completes .injectionStart s (fun t =>
      t.rd R.TNN_INTSTAT_BADCFG = 1 ∧ t.tnn = s.tnn ∧ Frame ([R.TNN_INTSTAT_BADCFG] ++ reportFlds) s t))
  ∧ (∀ (s : State), Completes .injectionStop s (fun t =>
      t.tnn.inj = s.tnn.inj.map (fun i => { i with stop := true }) ∧ Frame [] s t))
  ∧ (∀ (i : Inject) (s : State), s.tnn.inj = some i → s.rd R.TNN_INJLEN_LEN ≠ 0 → s.rd R.TNN_INJLEN_LEN ≤ i.n → Completes .injectionEnd s
  (fun t =>
      t.tnn.inj = none ∧ t.rd R.TNN_STATUS_INJ = 0 ∧ t.rd R.TNN_INTSTAT_INJEND = 1 ∧ KeepsMemory s t))
  ∧ (∀ (addr n : Nat) (s : State), s.rd R.TNN_CAPADDRLO_ADDR + 2 ^ 32 * s.rd R.TNN_CAPADDRHI_ADDR = addr → (s.rd R.TNN_CAPCFG_LOOP = 1 ∨
  s.rd R.TNN_CAPCFG_LOOP = 2) → addr % 16 = 0 → s.fwu.alloc.scratch.1 ≤ addr → n = (if s.rd R.TNN_CAPCFG_LEN = 0 then 65536 else s.rd
  R.TNN_CAPCFG_LEN) → addr + 16 * n ≤ s.fwu.alloc.scratch.1 + s.fwu.alloc.scratch.2 → Completes .captureStart s (fun t =>
      t.rd R.TNN_STATUS_CAP = 1 ∧ t.rd R.TNN_CAPCNT_CNT = 0
        ∧ t.tnn.cap = some { tilt := s.rd R.TNN_CAPCFG_LOOP == 2, addr := addr, len := n, n := 0, waitInj := s.on R.TNN_CAPCFG_TRIG }
        ∧ Frame [R.TNN_STATUS_CAP, R.TNN_CAPCNT_CNT] s t))
  ∧ (∀ (addr n : Nat) (s : State), s.rd R.TNN_CAPADDRLO_ADDR + 2 ^ 32 * s.rd R.TNN_CAPADDRHI_ADDR = addr → n = (if s.rd R.TNN_CAPCFG_LEN =
  0 then 65536 else s.rd R.TNN_CAPCFG_LEN) → (s.rd R.TNN_CAPCFG_LOOP = 0 ∨ s.rd R.TNN_CAPCFG_LOOP = 3 ∨ addr % 16 ≠ 0 ∨ addr <
  s.fwu.alloc.scratch.1 ∨ s.fwu.alloc.scratch.1 + s.fwu.alloc.scratch.2 < addr + 16 * n) → Completes .captureStart s (fun t =>
      t.rd R.TNN_INTSTAT_BADCFG = 1 ∧ t.tnn = s.tnn ∧ Frame ([R.TNN_INTSTAT_BADCFG] ++ reportFlds) s t))
  ∧ (∀ (c : RespCap) (s : State), s.tnn.cap = some c → c.len ≤ c.n → Completes .capdone s (fun t =>
      t.tnn.cap = none ∧ t.rd R.TNN_STATUS_CAP = 0 ∧ t.rd R.TNN_INTSTAT_CAPDONE = 1
        ∧ Frame [R.TNN_STATUS_CAP, R.TNN_INTSTAT_CAPDONE] s t))

/-- R113, R292, R295, R296, R304: the two key words open the window, a zero closes it, and any other write closes it with KEYFAIL;
  window and sequence expire; DARKREQ raises its hold and takes DARK_N low; passed ARM checks of a release lead to ARMED, failed ones
  to SAFE with ARMREF; DARK_N goes high after its minimum low time when light is permitted; HUSH and HUSHGEN are repeated while the
  request stands, and its withdrawal sends RESUME with the generation in force on every ring that is up. -/
def Obligations.TrussKeyWindowAndHolds : Prop :=
  (∀ (s : State), Completes (.trsKey 0x54525553#32) s (fun t =>
      t.trs.keySeq = true ∧ t.rd R.TRS_STATE_KEYOPEN = s.rd R.TRS_STATE_KEYOPEN ∧ Frame [] s t))
  ∧ (∀ (s : State), s.trs.keySeq = true → Completes (.trsKey 0xABADAAAC#32) s (fun t =>
      t.trs.keySeq = false ∧ t.rd R.TRS_STATE_KEYOPEN = 1 ∧ Frame [R.TRS_STATE_KEYOPEN] s t))
  ∧ (∀ (s : State), Completes (.trsKey 0#32) s (fun t =>
      t.trs.keySeq = false ∧ t.rd R.TRS_STATE_KEYOPEN = 0 ∧ Frame [R.TRS_STATE_KEYOPEN] s t))
  ∧ (∀ (v : Word) (s : State), v ≠ 0 → v ≠ 0x54525553#32 → (v = 0xABADAAAC#32 → s.trs.keySeq = false) → Completes (.trsKey v) s (fun t =>
      t.trs.keySeq = false ∧ t.rd R.TRS_STATE_KEYOPEN = 0 ∧ t.rd R.TRS_INTSTAT_KEYFAIL = 1
        ∧ Frame ([R.TRS_STATE_KEYOPEN, R.TRS_INTSTAT_KEYFAIL] ++ reportFlds) s t))
  ∧ (∀ (s : State), Completes .keyWindowExpiry s (fun t =>
      t.rd R.TRS_STATE_KEYOPEN = 0 ∧ t.trs = s.trs ∧ Frame [R.TRS_STATE_KEYOPEN] s t))
  ∧ (∀ (s : State), Completes .keySequenceExpiry s (fun t =>
      t.trs.keySeq = false ∧ Frame [] s t))
  ∧ (∀ (s : State), Completes (.darkreq true) s (fun t =>
      t.rd R.TRS_CTL_DARKREQ = 1 ∧ t.trs.darkHold = true ∧ t.rd R.TRS_STATE_HOLD = 1 ∧ t.rd R.TRS_STATE_LIGHT = 0
        ∧ t.rd R.TRS_STATE_DARKCMD = 0 ∧ t.trsState = s.trsState ∧ KeepsMemory s t))
  ∧ (∀ (s : State), s.trs.darkHold = true → s.trsState = 3 → Completes (.darkreq false) s (fun t =>
      t.rd R.TRS_CTL_DARKREQ = 0 ∧ t.trs.darkHold = false ∧ t.rd R.TRS_STATE_DARKCMD = 0 ∧ t.trsState = 3 ∧ KeepsMemory s t))
  ∧ (∀ (s : State), s.trs.darkHold = false → Completes (.darkreq false) s (fun t =>
      t.rd R.TRS_CTL_DARKREQ = 0 ∧ t.trs = s.trs ∧ Frame [R.TRS_CTL_DARKREQ] s t))
  ∧ (∀ (s : State), s.trs.armDue = .release → s.trsState = 3 → Completes (.armChecks false) s (fun t =>
      t.trs.armDue = .none ∧ t.trsState = 0 ∧ t.rd R.TRS_INTSTAT_ARMREF = 1 ∧ t.rd R.TRS_LASTCAUSE_CAUSE = 0x0402
        ∧ t.rd R.TRS_STATE_DARKCMD = 0 ∧ KeepsMemory s t))
  ∧ (∀ (s : State), s.trs.armDue = .release → s.trsState = 3 → s.armCheck true = 0 → Completes (.armChecks true) s (fun t =>
      t.trs.armDue = .none ∧ t.trsState = 1 ∧ t.rd R.TRS_LASTCAUSE_CAUSE = 0x0403 ∧ KeepsMemory s t))
  ∧ (∀ (s : State), s.trs.darkRel = true → s.lightOk = true → Completes .darkNRelease s (fun t =>
      t.rd R.TRS_STATE_DARKCMD = 1 ∧ t.trs.darkRel = false ∧ t.trs.withdraw = s.trs.hushReq ∧ Emit.darkN true ∈ t.out
        ∧ Frame [R.TRS_STATE_DARKCMD, R.TRS_EVENT_NUM] s t))
  ∧ (∀ (s : State), s.trs.withdraw = true → s.trs.hushReq = true → s.lightOk = true → (∀ r : Fin 8, sendsBoth s r.val) → Completes
  .hushWithdrawal s (fun t =>
      t.trs.withdraw = false ∧ t.trs.hushReq = false ∧ t.rd R.BTN_STATUS_HUSHED = 0 ∧ t.btn.hushing = false
        ∧ (∀ r : Fin 8, s.ringEn r.val = true → s.ringUp r.val = true → Emit.ring r.val 3 (ringFrame 0x04 0xFF (s.ringSt r.val).seq
          s.hushGenBytes) ∈ t.out)
        ∧ Frame ([R.BTN_STATUS_HUSHED] ++ (List.range 16).map R.DWL_PINJ_CNT) s t))
  ∧ (∀ (s : State), s.trs.hushReq = true → (∀ r : Fin 8, sendsBoth s r.val) → Completes .hushgenRepeat s (fun t =>
      (∀ r : Fin 8, s.ringEn r.val = true → Emit.ringSets r.val 3 hushSet 1 ∈ t.out ∧ Emit.ring r.val 3 (ringFrame 0x0B 0xFF (s.ringSt
        r.val).seq s.hushGenBytes) ∈ t.out)
        ∧ t.trs = s.trs ∧ Frame ((List.range 16).map R.DWL_PINJ_CNT) s t))

/-- R290, R291, R302, R304, R305, R315, R316, R460: in ARMED a supply, clock, heartbeat, DARK_N, HUSH, known-answer or memory fault
  leads to LOCKOUT with its cause and light off; a supply fault of a Fepoas part leads to LIMP instead; the own rail, lock-step, scrub
  and the root watchdog lead to HALT from every other state; a readback that matches, or differs within 1 µs of a change of the
  commanded level, and a right answer change no state. -/
def Obligations.TrussFaultsStopLight : Prop :=
  (∀ (i : Fin 16) (s : State), s.trsState = 1 → s.rd R.TRS_CTL_FEPOAS = 0 → i.val ≠ 15 → Completes (.supplyFault i) s (fun t =>
      LockedOut 0x0201 s t ∧ (t.rd R.TRS_SUPSTAT_INWIN).testBit i.val = false ∧ t.rd R.TRS_LASTCAUSE_DETAIL = i.val
        ∧ t.rd R.TRS_INTSTAT_DEVFAULT = 1))
  ∧ (∀ (i : Fin 16) (s : State), s.trsState = 1 → s.rd R.TRS_CTL_FEPOAS ≠ 0 → i.val ≠ 15 → Completes (.supplyFault i) s (fun t =>
      t.trsState = 2 ∧ t.rd R.TRS_INTSTAT_LIMP = 1 ∧ t.trs.limp = [{ cause := 0x0201, detail := i.val }]
        ∧ t.rd R.TRS_LASTCAUSE_CAUSE = 0x0201 ∧ KeepsMemory s t))
  ∧ (∀ (s : State), s.trsState ≠ 4 → Completes (.supplyFault 15) s (fun t =>
      Halted 0x0303 s t))
  ∧ (∀ (k : ClockFaultKind) (s : State), s.trsState = 1 → Completes (.clockFault k) s (fun t =>
      LockedOut 0x0202 s t ∧ t.trs.clkFault = true ∧ (k = .bothPlls → t.rd R.CLK_STATUS_PLLALOCK = 0 ∧ t.rd R.CLK_STATUS_PLLBLOCK = 0)
        ∧ (k ≠ .bothPlls → t.rd R.CLK_STATUS_REFOK = 0 ∧ t.rd R.CLK_INTSTAT_REFLOSS = 1)))
  ∧ (∀ (s : State), s.trsState = 1 → s.rd R.TRS_CTL_FEPOAS = 0 → Completes .heartbeatMissing s (fun t =>
      LockedOut 0x0205 s t ∧ t.trs.hbFault = true))
  ∧ (∀ (dark : Bool) (sfb : BitVec 4) (s : State), s.trsState = 1 → s.trs.darkBad = 0 → dark ≠ s.on R.TRS_STATE_DARKCMD → s.trs.darkTick +
  200 < s.clk.porTicks → Completes (.readback dark sfb) s (fun t =>
      LockedOut 0x010A s t ∧ t.rd R.TRS_STATE_DARKPIN = dark.toNat ∧ t.trs.darkBad = 1))
  ∧ (∀ (dark : Bool) (sfb : BitVec 4) (s : State), dark ≠ s.on R.TRS_STATE_DARKCMD → s.clk.porTicks ≤ s.trs.darkTick + 200 → Completes
  (.readback dark sfb) s (fun t =>
      t.rd R.TRS_STATE_DARKPIN = dark.toNat ∧ t.trs = s.trs ∧ Frame [R.TRS_STATE_DARKPIN, R.TRS_STATE_SFB] s t))
  ∧ (∀ (dark : Bool) (sfb : BitVec 4) (s : State), dark = s.on R.TRS_STATE_DARKCMD → Completes (.readback dark sfb) s (fun t =>
      t.rd R.TRS_STATE_DARKPIN = dark.toNat ∧ t.rd R.TRS_STATE_SFB = sfb.toNat ∧ t.trs.darkBad = 0
        ∧ Frame [R.TRS_STATE_DARKPIN, R.TRS_STATE_SFB] s t))
  ∧ (∀ (s : State), s.trsState = 1 → s.trs.hushReq = true → Completes .hushNotConfirmed s (fun t =>
      LockedOut 0x0109 s t))
  ∧ (∀ (good : BitVec 32) (s : State), s.trsState = 1 → good ≠ 0xFFFFFFFF#32 → Completes (.knownAnswerCheck good) s (fun t =>
      LockedOut 0x0108 s t ∧ t.trs.kacFault = true))
  ∧ (∀ (s : State), Completes (.knownAnswerCheck 0xFFFFFFFF#32) s (fun t =>
      t.trs.kacFault = false ∧ Frame [] s t))
  ∧ (∀ (s : State), s.trsState = 1 → Completes (.trussScrub .exposure) s (fun t =>
      LockedOut 0x0107 s t ∧ t.trs.memFault = true))
  ∧ (∀ (s : State), Completes (.trussScrub .clean) s (fun t =>
      t.trs.memFault = false ∧ Frame [] s t))
  ∧ (∀ (s : State), s.trsState ≠ 4 → Completes (.trussScrub .other) s (fun t =>
      Halted 0x0302 s t))
  ∧ (∀ (s : State), s.trsState ≠ 4 → Completes .lockstepMismatch s (fun t =>
      Halted 0x0301 s t))
  ∧ (∀ (s : State), s.trsState ≠ 4 → Completes .rootWatchdog s (fun t =>
      Halted (Config.wdogCause % 65536) s t ∧ t.trs.wdog = true))

/-- R306 to R309, R312, R313, R317: a sample counts each leg of a used pair at a level not yet accepted; an accepted level shows, and
  a leg of a closed pair that opens ends CLOSED; an expired discrepancy is a fault; an output commanded high is pulsed low; a feedback
  that agrees changes nothing, and the second that disagrees forces the output low and locks out; SRESET_N inside a key window starts
  a release or is refused, and outside it lets outputs restart; a stuck SRESET_N is only logged. -/
def Obligations.TrussInputsAndOutputs : Prop :=
  (∀ (a b : BitVec 8) (s : State), Completes (.inputSample a b) s (fun t =>
      (∀ k : Fin 8, s.rd (R.TRS_INCFG_MODE k.val) ≠ 0 → (t.input k.val).cntA = if a.getLsbD k.val == s.on (R.TRS_INSTAT_ALVL k.val)
        then 0 else (s.input k.val).cntA + 1)
        ∧ (∀ k : Fin 8, s.rd (R.TRS_INCFG_MODE k.val) ≠ 0 → (t.input k.val).cntB = if b.getLsbD k.val == s.on (R.TRS_INSTAT_BLVL
          k.val) then 0 else (s.input k.val).cntB + 1)
        ∧ (∀ k : Fin 8, s.rd (R.TRS_INCFG_MODE k.val) = 0 → (t.input k.val).unusedHi = if a.getLsbD k.val || b.getLsbD k.val then
          (s.input k.val).unusedHi + 1 else 0)
        ∧ Frame reportFlds s t))
  ∧ (∀ (k : Fin 8) (legB : Bool) (s : State), s.rd (R.TRS_INCFG_MODE k.val) ≠ 0 → s.filtSamples k.val ≤ (if legB then (s.input k.val).cntB
  else (s.input k.val).cntA) → s.rd (R.TRS_INCHAT_CHATN k.val) = 0 → Completes (.inputLevelAccepted k legB) s (fun t =>
      t.on (if legB then R.TRS_INSTAT_BLVL k.val else R.TRS_INSTAT_ALVL k.val) = !s.on (if legB then R.TRS_INSTAT_BLVL k.val else
        R.TRS_INSTAT_ALVL k.val)
        ∧ (s.rd (R.TRS_INSTAT_STATE k.val) = 0 → s.legClosed k.val legB = true → t.rd (R.TRS_INSTAT_STATE k.val) = 1)
        ∧ (if legB then (t.input k.val).cntB else (t.input k.val).cntA) = 0 ∧ KeepsMemory s t))
  ∧ (∀ (k : Fin 8) (s : State), (s.input k.val).disc ≠ 0 → s.rd (R.TRS_INSTAT_STATE k.val) ≠ 2 → Completes (.discrepancy k) s (fun t =>
      t.rd (R.TRS_INSTAT_STATE k.val) = 2 ∧ t.rd R.TRS_INTSTAT_INFAULT = 1 ∧ (t.input k.val).disc = 0 ∧ KeepsMemory s t))
  ∧ (∀ (k : Fin 4) (s : State), s.rd (R.TRS_SOUTCFG_EN k.val) ≠ 0 → s.soutCmd.testBit k.val = true → Completes (.offPulse k) s (fun t =>
      Emit.soutPulse k.val ∈ t.out ∧ Frame [] s t))
  ∧ (∀ (k : Fin 4) (level pulse : Bool) (s : State), level = (s.soutCmd.testBit k.val && !pulse) → s.rd (R.TRS_SOUTCFG_EN k.val) ≠ 0 →
  Completes (.feedbackCheck k level pulse) s (fun t =>
      mapGet 0 t.trs.fbBad k.val = 0 ∧ (t.rd R.TRS_STATE_SFB).testBit k.val = level ∧ Frame [R.TRS_STATE_SFB] s t))
  ∧ (∀ (k : Fin 4) (level pulse : Bool) (s : State), level ≠ (s.soutCmd.testBit k.val && !pulse) → mapGet 0 s.trs.fbBad k.val = 1 → s.rd
  (R.TRS_SOUTCFG_EN k.val) ≠ 0 → s.trsState = 1 → s.rd R.TRS_CTL_FEPOAS = 0 → Completes (.feedbackCheck k level pulse) s (fun t =>
      t.trs.outFault.getLsbD k.val = true ∧ LockedOut 0x0204 s t ∧ t.rd R.TRS_LASTCAUSE_DETAIL = k.val))
  ∧ (∀ (lowUs : Nat) (s : State), s.rd R.TRS_STATE_KEYOPEN ≠ 0 → 100000 ≤ lowUs → lowUs ≤ 5000000 → s.trsState = 3 → s.condStands = false
  → Completes (.sresetNRise lowUs) s (fun t =>
      t.trs.armDue = .release ∧ t.trs.outFault = 0 ∧ t.rd R.TRS_STATE_KEYOPEN = 0 ∧ t.trsState = 3 ∧ Frame [R.TRS_STATE_KEYOPEN] s t))
  ∧ (∀ (lowUs : Nat) (s : State), s.rd R.TRS_STATE_KEYOPEN ≠ 0 → (lowUs < 100000 ∨ 5000000 < lowUs ∨ s.trsState ≠ 3 ∨ s.condStands = true)
  → Completes (.sresetNRise lowUs) s (fun t =>
      t.rd R.TRS_INTSTAT_RELREF = 1 ∧ t.rd R.TRS_RWKREJ_RELREF = min (s.rd R.TRS_RWKREJ_RELREF + 1) (2 ^ R.TRS_RWKREJ_RELREF.width - 1)
        ∧ t.trs = s.trs ∧ Frame ([R.TRS_INTSTAT_RELREF, R.TRS_RWKREJ_RELREF] ++ reportFlds) s t))
  ∧ (∀ (lowUs : Nat) (s : State), s.rd R.TRS_STATE_KEYOPEN = 0 → 100000 ≤ lowUs → lowUs ≤ 5000000 → Completes (.sresetNRise lowUs) s (fun
  t =>
      (∀ k : Fin 4, s.inputsFor k.val = true → t.trs.restart.getLsbD k.val = false) ∧ t.trsState = s.trsState ∧ KeepsMemory s t))
  ∧ (∀ (s : State), Completes .sresetNStuck s (fun t =>
      t.trs = s.trs ∧ (s.flt.fifo.length < 64 → t.flt.fifo.length = s.flt.fifo.length + 1) ∧ Frame reportFlds s t))

/-- R291, R298, R299, R301, R316: a limp window whose faults have all been absent for CLEART leads back to ARMED unless the window is
  shorter than CLEART, and one that ends first leads to LOCKOUT; a budget load takes a good table into the inactive bank and flags a
  bad one; a swap changes the active bank only inside a key window, under R293 and with a staged bank; a bucket rollover moves the
  sums of its window alone; rails, clock and heartbeat that are back are shown, the clock fault ending once a root PLL is locked too.
  -/
def Obligations.TrussLimpAndBudgets : Prop :=
  (∀ (s : State), s.trsState = 2 → s.limpLong = true → s.trs.limp.all s.limpAbsent = true → Completes .limpRecovery s (fun t =>
      t.trsState = 1 ∧ t.rd R.TRS_LASTCAUSE_CAUSE = 0x0404 ∧ t.trs.limp = [] ∧ t.trs.outFault = 0 ∧ KeepsMemory s t))
  ∧ (∀ (s : State), s.limpLong = false → Completes .limpRecovery s (fun t =>
      t.trs = s.trs ∧ Frame [] s t))
  ∧ (∀ (s : State), s.trsState = 2 → Completes .limpWindowExpiry s (fun t =>
      t.trsState = 3 ∧ t.rd R.TRS_LASTCAUSE_CAUSE = 0x0405 ∧ t.trs.limp = [] ∧ t.rd R.TRS_STATE_DARKCMD = 0
        ∧ t.rd R.TRS_STATE_LIGHT = 0 ∧ KeepsMemory s t))
  ∧ (∀ (l : List BudEntry) (s : State), s.rd R.TRS_STATE_KEYOPEN ≠ 0 → s.readBudget (s.rd R.TRS_BUDADDRLO_ADDR + 2 ^ 32 * s.rd
  R.TRS_BUDADDRHI_ADDR) (s.rd R.TRS_BUDCFG_NDIR) = some l → BudBank.absorber { ndir := s.rd R.TRS_BUDCFG_NDIR, entries := l } (s.rd
  R.TRS_EXPCFG_ABSDIR) = true → Completes .budload s (fun t =>
      (if s.on R.TRS_BUDCFG_ACTBANK then t.trs.bankA else t.trs.bankB) = { ndir := s.rd R.TRS_BUDCFG_NDIR, entries := l }
        ∧ t.budBank = s.budBank ∧ t.rd R.TRS_BUDCFG_STGOK = 1 ∧ t.rd R.TRS_BUDCFG_STGBAD = 0 ∧ t.rd R.TRS_INTSTAT_BUDSTG = 1
        ∧ Frame [R.TRS_BUDCFG_STGOK, R.TRS_BUDCFG_STGBAD, R.TRS_INTSTAT_BUDSTG] s t))
  ∧ (∀ (s : State), s.rd R.TRS_STATE_KEYOPEN ≠ 0 → (s.readBudget (s.rd R.TRS_BUDADDRLO_ADDR + 2 ^ 32 * s.rd R.TRS_BUDADDRHI_ADDR) (s.rd
  R.TRS_BUDCFG_NDIR)).all (fun l => !BudBank.absorber { ndir := s.rd R.TRS_BUDCFG_NDIR, entries := l } (s.rd R.TRS_EXPCFG_ABSDIR)) =
  true → Completes .budload s (fun t =>
      t.rd R.TRS_BUDCFG_STGOK = 0 ∧ t.rd R.TRS_BUDCFG_STGBAD = 1 ∧ t.rd R.TRS_INTSTAT_BUDBAD = 1 ∧ t.trs.bankA = s.trs.bankA
        ∧ t.trs.bankB = s.trs.bankB ∧ Frame ([R.TRS_BUDCFG_STGOK, R.TRS_BUDCFG_STGBAD, R.TRS_INTSTAT_BUDBAD] ++ reportFlds) s t))
  ∧ (∀ (s : State), s.rd R.TRS_STATE_KEYOPEN = 0 → Completes .budload s (fun t =>
      t.rd R.TRS_RWKREJ_CNT = min (s.rd R.TRS_RWKREJ_CNT + 1) (2 ^ R.TRS_RWKREJ_CNT.width - 1) ∧ t.trs = s.trs
        ∧ Frame ([R.TRS_RWKREJ_CNT] ++ reportFlds) s t))
  ∧ (∀ (s : State), s.rd R.TRS_STATE_KEYOPEN ≠ 0 → s.rwkStateOk = true → s.rd R.TRS_BUDCFG_STGOK ≠ 0 → Completes .budswap s (fun t =>
      t.on R.TRS_BUDCFG_ACTBANK = !s.on R.TRS_BUDCFG_ACTBANK ∧ t.rd R.TRS_BUDCFG_STGOK = 0 ∧ t.trs.bankA = s.trs.bankA
        ∧ t.trs.bankB = s.trs.bankB ∧ t.trs.rwkSince = true ∧ Frame [R.TRS_BUDCFG_ACTBANK, R.TRS_BUDCFG_STGOK] s t))
  ∧ (∀ (s : State), (s.rd R.TRS_STATE_KEYOPEN = 0 ∨ s.rwkStateOk = false) → Completes .budswap s (fun t =>
      t.rd R.TRS_RWKREJ_CNT = min (s.rd R.TRS_RWKREJ_CNT + 1) (2 ^ R.TRS_RWKREJ_CNT.width - 1) ∧ t.trs = s.trs
        ∧ Frame ([R.TRS_RWKREJ_CNT] ++ reportFlds) s t))
  ∧ (∀ (s : State), s.rd R.TRS_STATE_KEYOPEN ≠ 0 → s.rwkStateOk = true → s.rd R.TRS_BUDCFG_STGOK = 0 → Completes .budswap s (fun t =>
      t.rd R.TRS_INTSTAT_BUDBAD = 1 ∧ t.trs = s.trs ∧ Frame ([R.TRS_INTSTAT_BUDBAD] ++ reportFlds) s t))
  ∧ (∀ (w2 : Bool) (s : State), Completes (.bucketRollover w2) s (fun t =>
      (∀ p ∈ (if w2 then t.trs.acc2 else t.trs.acc1), p.2.cur = 0)
        ∧ (if w2 then t.trs.acc1 = s.trs.acc1 ∧ t.trs.prime1 = s.trs.prime1 else t.trs.acc2 = s.trs.acc2 ∧ t.trs.prime2 = s.trs.prime2)
        ∧ (if w2 then t.trs.prime2 = s.trs.prime2 - 1 else t.trs.prime1 = s.trs.prime1 - 1) ∧ Frame [] s t))
  ∧ (∀ (i : Fin 16) (s : State), Completes (.supplyClear i) s (fun t =>
      (t.rd R.TRS_SUPSTAT_INWIN).testBit i.val = true ∧ t.trs = s.trs ∧ Frame [R.TRS_SUPSTAT_INWIN] s t))
  ∧ (∀ (s : State), Completes .clockFaultClear s (fun t =>
      t.rd R.CLK_STATUS_REFOK = 1 ∧ (s.rd R.CLK_STATUS_PLLALOCK ≠ 0 ∨ s.rd R.CLK_STATUS_PLLBLOCK ≠ 0 → t.trs.clkFault = false)
        ∧ (s.rd R.CLK_STATUS_PLLALOCK = 0 → s.rd R.CLK_STATUS_PLLBLOCK = 0 → t.trs = s.trs) ∧ Frame [R.CLK_STATUS_REFOK] s t))
  ∧ (∀ (s : State), Completes .heartbeat s (fun t =>
      t.trs.hbFault = false ∧ Frame [] s t))

/-- R119, R120, R125, R126, R132, R133, R141, R142, R194: a plan step whose gang fits takes its tags and bookings, opens one burst per
  column and hands one fire per shot to Batten unless it listens; without an unblanked row the driver goes idle; a row without a gang
  is passed; whatever a step or a retry does, every burst and fire it adds belongs to its driver and carries a tag in use; a step held
  long for tags is flagged; a proof pulse adds one proof fire of the next row at the next point of a dead angle, and with reference
  checks on a reference burst of one shot beside it. -/
def Obligations.PegPlansGangs : Prop :=
  (∀ (n : Fin 64) (r : Nat) (h : HeldGang) (cols : List GangCol) (tags : List Nat) (books : List Booking) (s : State), GangFits n.val r
  h cols tags books s → Completes (.planStep n) s (fun t =>
      t.peg.tags = s.peg.tags ++ tags ∧ t.jst.bookings = books ∧ t.peg.bursts.length = s.peg.bursts.length + cols.length
        ∧ t.btn.fires.length = s.btn.fires.length + (if h.listen then 0 else min h.k h.offsets.length)
        ∧ (t.plan n.val).step = (s.plan n.val).step + 1 ∧ (t.plan n.val).gangs = (s.plan n.val).gangs + 1 ∧ AddsOwnGang n.val s t))
  ∧ (∀ (n : Fin 64) (s : State), s.canPlan n.val = true → (s.plan n.val).held = none → (s.plan n.val).idle = false → s.nextRow n.val
  (s.plan n.val).row = none → Completes (.planStep n) s (fun t =>
      (t.plan n.val).idle = true ∧ t.rd R.PEG_INTSTAT_DRVIDLE = 1
        ∧ Frame ([R.PEG_INTSTAT_DRVIDLE, R.PEG_DRVIDLELO_DRV, R.PEG_DRVIDLEHI_DRV] ++ reportFlds) s t))
  ∧ (∀ (n : Fin 64) (r : Nat) (s : State), s.canPlan n.val = true → (s.plan n.val).held = none → (s.plan n.val).idle = false → s.nextRow
  n.val (s.plan n.val).row = some r → s.gangSpec (s.epochCfg s.peg.active) n.val (32 * n.val + r) (s.columnsAt (s.epochCfg
  s.peg.active) s.peg.active (32 * n.val + r) ((s.gangShots n.val (s.epochCfg s.peg.active) [0]).headD 0)) = none → Completes
  (.planStep n) s (fun t =>
      (t.plan n.val).step = (s.plan n.val).step + 1 ∧ (t.plan n.val).row = (r + 1) % 32 ∧ t.peg.bursts = s.peg.bursts ∧ t.btn = s.btn
        ∧ Frame [] s t))
  ∧ (∀ (n : Fin 64) (s : State), Completes (.planStep n) s (fun t =>
      AddsOwnGang n.val s t))
  ∧ (∀ (n : Fin 64) (s : State), (s.plan n.val).held ≠ none → Completes (.planStepRetry n) s (fun t =>
      AddsOwnGang n.val s t))
  ∧ (∀ (n : Fin 64) (h : HeldGang) (s : State), (s.plan n.val).held = some h → h.tagHeld = true → Completes (.tagexh n) s (fun t =>
      t.rd R.PEG_INTSTAT_TAGEXH = 1 ∧ Frame ([R.PEG_INTSTAT_TAGEXH] ++ reportFlds) s t))
  ∧ (∀ (n : Fin 64) (u r : Nat) (s : State), s.rd R.BTN_CTL_PROOFEN ≠ 0 → s.drvUp n.val = true → (s.drv n.val).stopped = false →
  s.trs.hushReq = false → s.proofPoint n.val = some u → s.nextProofRow n.val = some r → s.rd R.BTN_CTL_REFCHK = 0 → Completes
  (.proofPulse n) s (fun t =>
      t.btn.fires.length = s.btn.fires.length + 1
        ∧ (∃ f ∈ t.btn.fires, f.driver = n.val ∧ f.proof = true ∧ f.row = 32 * n.val + r ∧ f.time = u / 8 ∧ f.cols = [] ∧ f.stage =
          .planned)
        ∧ t.peg = s.peg ∧ Frame [] s t))
  ∧ (∀ (n : Fin 64) (u r c g : Nat) (s : State), s.rd R.BTN_CTL_PROOFEN ≠ 0 → s.drvUp n.val = true → (s.drv n.val).stopped = false →
  s.trs.hushReq = false → s.proofPoint n.val = some u → s.nextProofRow n.val = some r → s.rd R.BTN_CTL_REFCHK ≠ 0 → s.refColumn (32 *
  n.val + r) = some c → (s.openReference n.val (32 * n.val + r) c u).2 = some g → Completes (.proofPulse n) s (fun t =>
      t.btn.fires.length = s.btn.fires.length + 1
        ∧ (∃ f ∈ t.btn.fires, f.driver = n.val ∧ f.proof = true ∧ f.row = 32 * n.val + r ∧ f.time = u / 8 ∧ f.tag = g ∧ f.cols = [(c,
          s.peg.nextBurst)])
        ∧ t.peg.bursts.length = s.peg.bursts.length + 1
        ∧ (∃ b ∈ t.peg.bursts, b.kind = .reference ∧ b.num = s.peg.nextBurst ∧ b.driver = n.val ∧ b.row = 32 * n.val + r ∧ b.col = c ∧
          b.k = 1 ∧ b.tags = [g])
        ∧ t.peg.tags = s.peg.tags ++ [g] ∧ KeepsMemory s t))

/-- R22, R121, R122, R123, R227: a boundary that is due on the grid counts the frame number on, takes the grid instant as frame epoch
  and the period of the active epoch, lets newly enabled rings join, and flags a scanned frame that starts; before the grid instant
  nothing happens; the first boundary starts the clock in stages SPIN to RUNNING. -/
def Obligations.FrameBoundariesAdvanceTheFrame : Prop :=
  (∀ (s : State), s.peg.clockOn = true → s.gridNext ≤ s.nowLsb → Completes .frameBoundary s (fun t =>
      t.rd R.PEG_FRAMENUM_NUM = (s.rd R.PEG_FRAMENUM_NUM + 1) % 2 ^ 32 ∧ t.peg.epochLsb = s.gridNext
        ∧ t.peg.epochOld = some s.peg.epochLsb ∧ t.peg.period = (s.epochCfg s.peg.active).period
        ∧ (∀ r : Fin 8, (t.ringSt r.val).waits = false)
        ∧ (s.peg.scanning = true → s.peg.stopReq = false → t.peg.scanning = true ∧ t.rd R.PEG_INTSTAT_FRAMESTART = 1 ∧ t.peg.lastFrame
          = (s.rd R.PEG_FRAMENUM_NUM + 1) % 2 ^ 32)
        ∧ (s.peg.scanning = true → s.peg.stopReq = true → t.peg.scanning = false ∧ t.peg.lastFrame = s.rd R.PEG_FRAMENUM_NUM)))
  ∧ (∀ (s : State), s.peg.clockOn = true → s.nowLsb < s.gridNext → Completes .frameBoundary s (fun t =>
      t.peg = s.peg ∧ t.clk = s.clk ∧ Frame [] s t))
  ∧ (∀ (s : State), s.peg.clockOn = false → 0x0A ≤ s.stage → s.stage ≤ 0x0E → s.boot.inReset = false → s.boot.pornLow = false →
  s.boot.powered = true → Completes .frameBoundary s (fun t =>
      t.peg.clockOn = true ∧ t.peg.epochLsb = s.nowLsb ∧ t.rd R.PEG_FRAMENUM_NUM = (s.rd R.PEG_FRAMENUM_NUM + 1) % 2 ^ 32))

/-- R145, R147, R151 to R154, R156, R357, R358: an accepted leading edge opens an event stamped by the serving TDC, a spare's stamp
  less its mean difference; a masked channel stamps nothing; an edge in the dead time is counted and ignored whole; a trailing edge
  closes the event with its width, drops a pulse under 150 ps as never stamped, saturates one over 1,023 LSB, and lets a release asked
  for take effect; a closed event is counted and ends the channel's quiet mark, and leaves its queue in its group's order: delivered,
  or dropped without a whole token or 25 ns late, which is counted, reported and marked on the bursts under way; a pulser edge writes
  no register. -/
def Obligations.KerfStampsEdges : Prop :=
  (∀ (ch : Fin 1024) (coarse : BitVec 48) (tap : BitVec 5) (shadow : Option (BitVec 48 × BitVec 5)) (s : State), s.stamping ch.val =
  true → s.inDead ch.val (s.stampOf ch.val coarse tap) = false → Completes (.leadingEdge ch coarse tap shadow) s (fun t =>
      (t.krfChan ch.val).high = true ∧ (t.krfChan ch.val).last = some (s.stampOf ch.val coarse tap)
        ∧ (t.krfChan ch.val).queue = (s.krfChan ch.val).queue ++
          [{ tAbs := s.stampOf ch.val coarse tap, tdc := s.servingTdc ch.val, width := none, wsat := false, stuck := false, tap := tap.toNat, shadow := shadow, prev := (s.krfChan ch.val).last }]
        ∧ Frame [] s t))
  ∧ (∀ (ch : Fin 1024) (coarse : BitVec 48) (tap : BitVec 5) (shadow : Option (BitVec 48 × BitVec 5)) (s : State), s.stamping ch.val =
  false → Completes (.leadingEdge ch coarse tap shadow) s (fun t =>
      (t.krfChan ch.val).high = true ∧ (t.krfChan ch.val).queue = (s.krfChan ch.val).queue
        ∧ (t.krfChan ch.val).last = (s.krfChan ch.val).last ∧ Frame [] s t))
  ∧ (∀ (ch : Fin 1024) (coarse : BitVec 48) (tap : BitVec 5) (shadow : Option (BitVec 48 × BitVec 5)) (s : State), s.stamping ch.val =
  true → s.inDead ch.val (s.stampOf ch.val coarse tap) = true → s.rd (R.KRF_DEADCNT_CNT ch.val) < 0xFFFFFFFF → Completes (.leadingEdge
  ch coarse tap shadow) s (fun t =>
      t.rd (R.KRF_DEADCNT_CNT ch.val) = s.rd (R.KRF_DEADCNT_CNT ch.val) + 1 ∧ (t.krfChan ch.val).high = true
        ∧ (t.krfChan ch.val).queue = (s.krfChan ch.val).queue ∧ (t.krfChan ch.val).last = (s.krfChan ch.val).last
        ∧ Frame [R.KRF_DEADCNT_CNT ch.val] s t))
  ∧ (∀ (ch : Fin 1024) (coarse : BitVec 48) (tap : BitVec 5) (e : KrfEvent) (s : State), s.openEvent ch.val = some e → 100 * s.highTime
  ch.val e coarse tap < 24576 → ((s.krfChan ch.val).held && (s.krfChan ch.val).relPend) = false → Completes (.trailingEdge ch coarse
  tap) s (fun t =>
      (t.krfChan ch.val).high = false ∧ (t.krfChan ch.val).queue = (s.krfChan ch.val).queue.dropLast ∧ (t.krfChan ch.val).last = e.prev
        ∧ Frame [] s t))
  ∧ (∀ (ch : Fin 1024) (coarse : BitVec 48) (tap : BitVec 5) (e : KrfEvent) (s : State), s.openEvent ch.val = some e → 24576 ≤ 100 *
  s.highTime ch.val e coarse tap → (roundEven16 (s.highTime ch.val e coarse tap)).toNat ≤ 1023 → ((s.krfChan ch.val).held &&
  (s.krfChan ch.val).relPend) = false → s.rd (R.KRF_EVCNT_CNT ch.val) < 0xFFFFFFFF → Completes (.trailingEdge ch coarse tap) s (fun t
  =>
      (t.krfChan ch.val).high = false
        ∧ (t.krfChan ch.val).queue = (s.krfChan ch.val).queue.dropLast ++
          [{ e with width := some (roundEven16 (s.highTime ch.val e coarse tap)).toNat }]
        ∧ t.rd (R.KRF_EVCNT_CNT ch.val) = s.rd (R.KRF_EVCNT_CNT ch.val) + 1 ∧ t.rd (R.PLB_CDQ_QUIET ch.val) = 0
        ∧ Frame (closeFlds ch.val) s t))
  ∧ (∀ (ch : Fin 1024) (coarse : BitVec 48) (tap : BitVec 5) (e : KrfEvent) (s : State), s.openEvent ch.val = some e → 1023 < (roundEven16
  (s.highTime ch.val e coarse tap)).toNat → ((s.krfChan ch.val).held && (s.krfChan ch.val).relPend) = false → s.rd (R.KRF_EVCNT_CNT
  ch.val) < 0xFFFFFFFF → Completes (.trailingEdge ch coarse tap) s (fun t =>
      (t.krfChan ch.val).high = false
        ∧ (t.krfChan ch.val).queue = (s.krfChan ch.val).queue.dropLast ++ [{ e with width := some 1023, wsat := true }]
        ∧ t.rd (R.KRF_EVCNT_CNT ch.val) = s.rd (R.KRF_EVCNT_CNT ch.val) + 1 ∧ Frame (closeFlds ch.val) s t))
  ∧ (∀ (ch : Fin 1024) (coarse : BitVec 48) (tap : BitVec 5) (s : State), s.openEvent ch.val = none → (s.krfChan ch.val).held = true →
  (s.krfChan ch.val).relPend = true → Completes (.trailingEdge ch coarse tap) s (fun t =>
      (t.krfChan ch.val).high = false ∧ (t.krfChan ch.val).held = false ∧ (t.krfChan ch.val).relPend = false
        ∧ t.rd (R.KRF_CHSTAT_STUCK ch.val) = 0 ∧ t.rd (R.KRF_CHSTAT_FAST ch.val) = 0 ∧ t.rd R.KRF_INTSTAT_STUCKREL = 1
        ∧ Frame [R.KRF_CHSTAT_STUCK ch.val, R.KRF_CHSTAT_FAST ch.val, R.KRF_CHSTAT_MASKED ch.val, R.KRF_STATUS_NSTUCK,
          R.KRF_STATUS_NFAST, R.KRF_INTSTAT_STUCKREL] s t))
  ∧ (∀ (ch : Fin 1024) (e : KrfEvent) (s : State), (s.krfChan ch.val).high = true → s.openEvent ch.val = some e → s.rd (R.KRF_EVCNT_CNT
  ch.val) < 0xFFFFFFFF → Completes (.widthSaturation ch) s (fun t =>
      (t.krfChan ch.val).queue = (s.krfChan ch.val).queue.dropLast ++ [{ e with width := some 1023, wsat := true }]
        ∧ t.rd (R.KRF_EVCNT_CNT ch.val) = s.rd (R.KRF_EVCNT_CNT ch.val) + 1 ∧ Frame (closeFlds ch.val) s t))
  ∧ (∀ (ch : Fin 1024) (e : KrfEvent) (r : List KrfEvent) (s : State), (s.krfChan ch.val).queue = e :: r → e.width ≠ none → s.headOfGroup
  ch.val e = true → e.stuck = false → s.limRate ≠ 0 → s.bucket ch.val < 1600 → s.rd (R.KRF_DROP_CNT ch.val) < 0xFFFFFFFF → Completes
  (.eventWordDelivery ch ()) s (fun t =>
      (t.krfChan ch.val).queue = r ∧ t.rd (R.KRF_DROP_CNT ch.val) = s.rd (R.KRF_DROP_CNT ch.val) + 1
        ∧ (t.krfChan ch.val).dropSeq = ((s.krfChan ch.val).dropSeq + 1) % 2 ^ 32 ∧ t.rd R.KRF_INTSTAT_DROP = 1
        ∧ (∀ b ∈ t.peg.bursts, b.channel = ch.val → b.stage = .open → b.epoch0 + b.fires.headD 0 ≤ s.nowLsb → b.limiter = true)
        ∧ Frame ([R.KRF_DROP_CNT ch.val, R.KRF_INTSTAT_DROP] ++ reportFlds) s t))
  ∧ (∀ (ch : Fin 1024) (e : KrfEvent) (r : List KrfEvent) (s : State), (s.krfChan ch.val).queue = e :: r → e.width ≠ none → s.headOfGroup
  ch.val e = true → e.stuck = false → s.limRate = 0 → s.stampLsb e.tAbs + 2560 < 64 * (s.groupSlot (ch.val / 32) (s.stampLsb
  e.tAbs)).1 → s.rd (R.KRF_DROP_CNT ch.val) < 0xFFFFFFFF → Completes (.eventWordDelivery ch ()) s (fun t =>
      (t.krfChan ch.val).queue = r ∧ t.rd (R.KRF_DROP_CNT ch.val) = s.rd (R.KRF_DROP_CNT ch.val) + 1
        ∧ (t.krfChan ch.val).dropSeq = ((s.krfChan ch.val).dropSeq + 1) % 2 ^ 32 ∧ t.rd R.KRF_INTSTAT_DROP = 1
        ∧ (∀ b ∈ t.peg.bursts, b.channel = ch.val → b.stage = .open → b.epoch0 + b.fires.headD 0 ≤ s.nowLsb → b.limiter = true)
        ∧ Frame ([R.KRF_DROP_CNT ch.val, R.KRF_INTSTAT_DROP] ++ reportFlds) s t))
  ∧ (∀ (ch : Fin 1024) (e : KrfEvent) (r : List KrfEvent) (s : State), (s.krfChan ch.val).queue = e :: r → e.width ≠ none → s.headOfGroup
  ch.val e = true → (e.stuck = true ∨ s.limRate = 0 ∧ 64 * (s.groupSlot (ch.val / 32) (s.stampLsb e.tAbs)).1 ≤ s.stampLsb e.tAbs +
  2560) → Completes (.eventWordDelivery ch ()) s (fun t =>
      (t.krfChan ch.val).queue = r ∧ (t.krfChan ch.val).dropSeq = (s.krfChan ch.val).dropSeq
        ∧ ((t.krfGroup (ch.val / 32)).slot, (t.krfGroup (ch.val / 32)).used) = s.groupSlot (ch.val / 32) (s.stampLsb e.tAbs)
        ∧ (s.frameOfEdge ch.val e.tAbs ≠ none → (t.backlog ch.val).length = min 256 ((s.backlog ch.val).length + 1))
        ∧ (s.frameOfEdge ch.val e.tAbs = none → t.peg = s.peg) ∧ Frame ([R.MRT_LATEEV_CNT, R.MRT_INTSTAT_LATEEV] ++ reportFlds) s t))
  ∧ (∀ (n : Fin 1056) (coarse : BitVec 48) (tap : BitVec 5) (s : State), Completes (.pulserEdge n coarse tap) s (fun t =>
      t.thm = s.thm ∧ t.peg = s.peg ∧ Frame [] s t))
  ∧ (∀ (n : Fin 1024) (coarse : BitVec 48) (tap : BitVec 5) (s : State), s.on R.PLB_STATUS_CDBUSY = true → s.plb.doneTdc = [] → (mapGet []
  s.plb.counts n.val).sum = 0 → (s.krfChan n.val).high = false → Completes (.pulserEdge (n.castLE (by decide)) coarse tap) s (fun t =>
      mapGet [] t.plb.counts n.val = tapCount (mapGet [] s.plb.counts n.val) tap.toNat
        ∧ (s.servingTdc n.val = n.val → (t.krfChan n.val).last = some (s.stampOf n.val coarse tap)) ∧ Frame [] s t))
  ∧ (∀ (n : Fin 1024) (coarse : BitVec 48) (tap : BitVec 5) (s : State), (s.krfChan n.val).high = true → Completes (.pulserEdge (n.castLE
  (by decide)) coarse tap) s (fun t =>
      t.plb = s.plb ∧ t.krf = s.krf ∧ Frame [] s t))

/-- R157 to R162: a stuck input delivers one STUCK event and its channel is masked and counted; an over-fast one is marked, and masked
  only with FASTMASK; a release ends either, when the input is low or below half of FASTMAX; a failed TDC asks for its spare 10 us
  ahead, or is masked with NOREPAIR; a shadow period keeps the mean difference and moves the spare on, or declares the TDC failed on
  more than 1 % of mismatches among 1,000 compares; a write of KRF_SPARE moves a spare at once or at a takeover instant, a move to
  another channel that it replaces leaving that one masked if its TDC has failed; the takeover marks the channel served, or gives it
  back. -/
def Obligations.KerfHoldsAndSpares : Prop :=
  (∀ (ch : Fin 1024) (s : State), s.stamping ch.val = true → (s.krfChan ch.val).high = true → s.rd R.KRF_STUCKCFG_HIGHT ≠ 0 → s.rd
  R.KRF_STATUS_NSTUCK < 1024 → Completes (.stuck ch) s (fun t =>
      t.rd (R.KRF_CHSTAT_STUCK ch.val) = 1 ∧ t.rd (R.KRF_CHSTAT_MASKED ch.val) = 1
        ∧ t.rd R.KRF_STATUS_NSTUCK = s.rd R.KRF_STATUS_NSTUCK + 1 ∧ t.rd R.KRF_INTSTAT_STUCK = 1 ∧ (t.krfChan ch.val).held = true
        ∧ (t.krfChan ch.val).queue.getLast? = some
          { tAbs := krfStampOf s.nowLsb, tdc := s.servingTdc ch.val, width := some 1023, wsat := true, stuck := true, tap := 0, shadow := none, prev := none }
        ∧ Frame ([R.KRF_CHSTAT_STUCK ch.val, R.KRF_CHSTAT_MASKED ch.val, R.KRF_STATUS_NSTUCK, R.KRF_INTSTAT_STUCK] ++ closeFlds ch.val
          ++ reportFlds) s t))
  ∧ (∀ (ch : Fin 1024) (s : State), (s.stamping ch.val && (s.krfChan ch.val).high && s.rd R.KRF_STUCKCFG_HIGHT != 0) = false → Completes
  (.stuck ch) s (fun t =>
      t.krf = s.krf ∧ Frame [] s t))
  ∧ (∀ (ch : Fin 1024) (s : State), s.fastMax ≠ 0 → s.fastMax ≤ s.recentEvents ch.val → s.rd (R.KRF_CHSTAT_FAST ch.val) = 0 → s.rd
  R.KRF_STUCKCFG_FASTMASK = 1 → s.rd R.KRF_STATUS_NFAST < 1024 → Completes (.fast ch) s (fun t =>
      t.rd (R.KRF_CHSTAT_FAST ch.val) = 1 ∧ t.rd (R.KRF_CHSTAT_MASKED ch.val) = 1
        ∧ t.rd R.KRF_STATUS_NFAST = s.rd R.KRF_STATUS_NFAST + 1 ∧ t.rd R.KRF_INTSTAT_FAST = 1 ∧ (t.krfChan ch.val).held = true
        ∧ Frame ([R.KRF_CHSTAT_FAST ch.val, R.KRF_CHSTAT_MASKED ch.val, R.KRF_STATUS_NFAST, R.KRF_INTSTAT_FAST] ++ reportFlds) s t))
  ∧ (∀ (ch : Fin 1024) (s : State), s.fastMax ≠ 0 → s.fastMax ≤ s.recentEvents ch.val → s.rd (R.KRF_CHSTAT_FAST ch.val) = 0 → s.rd
  R.KRF_STUCKCFG_FASTMASK = 0 → s.rd R.KRF_STATUS_NFAST < 1024 → Completes (.fast ch) s (fun t =>
      t.rd (R.KRF_CHSTAT_FAST ch.val) = 1 ∧ t.rd R.KRF_STATUS_NFAST = s.rd R.KRF_STATUS_NFAST + 1 ∧ t.krf = s.krf
        ∧ Frame ([R.KRF_CHSTAT_FAST ch.val, R.KRF_STATUS_NFAST, R.KRF_INTSTAT_FAST] ++ reportFlds) s t))
  ∧ (∀ (ch : Fin 1024) (s : State), s.rd R.KRF_STUCKCFG_RELT ≠ 0 → s.rd (R.KRF_CHSTAT_STUCK ch.val) = 1 → (s.krfChan ch.val).high = false
  → s.rd (R.KRF_CHSTAT_FAST ch.val) = 0 → Completes (.stuckRelease ch) s (fun t =>
      t.rd (R.KRF_CHSTAT_STUCK ch.val) = 0 ∧ t.rd R.KRF_STATUS_NSTUCK = s.rd R.KRF_STATUS_NSTUCK - 1 ∧ (t.krfChan ch.val).held = false
        ∧ t.rd R.KRF_INTSTAT_STUCKREL = 1
        ∧ (s.rd (R.KRF_CHCFG_EN ch.val) = 1 → (s.krfChan ch.val).noFix = false → t.rd (R.KRF_CHSTAT_MASKED ch.val) = 0)
        ∧ Frame [R.KRF_CHSTAT_STUCK ch.val, R.KRF_CHSTAT_MASKED ch.val, R.KRF_STATUS_NSTUCK, R.KRF_INTSTAT_STUCKREL] s t))
  ∧ (∀ (ch : Fin 1024) (s : State), s.rd R.KRF_STUCKCFG_RELT ≠ 0 → s.rd (R.KRF_CHSTAT_STUCK ch.val) = 0 → s.rd (R.KRF_CHSTAT_FAST ch.val)
  = 1 → 2 * s.recentEvents ch.val < s.fastMax → Completes (.stuckRelease ch) s (fun t =>
      t.rd (R.KRF_CHSTAT_FAST ch.val) = 0 ∧ t.rd R.KRF_STATUS_NFAST = s.rd R.KRF_STATUS_NFAST - 1 ∧ (t.krfChan ch.val).held = false
        ∧ t.rd R.KRF_INTSTAT_STUCKREL = 1
        ∧ (s.rd (R.KRF_CHCFG_EN ch.val) = 1 → (s.krfChan ch.val).noFix = false → t.rd (R.KRF_CHSTAT_MASKED ch.val) = 0)
        ∧ Frame [R.KRF_CHSTAT_FAST ch.val, R.KRF_CHSTAT_STUCK ch.val, R.KRF_CHSTAT_MASKED ch.val, R.KRF_STATUS_NFAST,
          R.KRF_INTSTAT_STUCKREL] s t))
  ∧ (∀ (ch : Fin 1024) (s : State), (s.krfChan ch.val).held = false → Completes (.rel ch) s (fun t =>
      t.krf = s.krf ∧ Frame [] s t))
  ∧ (∀ (ch : Fin 1024) (s : State), (s.krfChan ch.val).held = true → (s.krfChan ch.val).high = true → Completes (.rel ch) s (fun t =>
      (t.krfChan ch.val).relPend = true ∧ (t.krfChan ch.val).held = true ∧ Frame [] s t))
  ∧ (∀ (ch : Fin 1024) (s : State), (s.krfChan ch.val).held = true → (s.krfChan ch.val).high = false → Completes (.rel ch) s (fun t =>
      t.rd (R.KRF_CHSTAT_STUCK ch.val) = 0 ∧ t.rd (R.KRF_CHSTAT_FAST ch.val) = 0 ∧ (t.krfChan ch.val).held = false
        ∧ t.rd R.KRF_INTSTAT_STUCKREL = 1
        ∧ Frame [R.KRF_CHSTAT_STUCK ch.val, R.KRF_CHSTAT_FAST ch.val, R.KRF_CHSTAT_MASKED ch.val, R.KRF_STATUS_NSTUCK,
          R.KRF_STATUS_NFAST, R.KRF_INTSTAT_STUCKREL] s t))
  ∧ (∀ (ch : Fin 1024) (s : State), s.rd (R.KRF_CHSTAT_TDCFAIL ch.val) = 0 → s.rd (R.KRF_SPARE_AUTO (ch.val / 32)) = 1 → s.rd
  (R.KRF_SPSTAT_TAKEN (ch.val / 32)) = 0 → s.rd (R.KRF_SPSTAT_SPFAIL (ch.val / 32)) = 0 → (s.krfGroup (ch.val / 32)).move = none →
  Completes (.tdcfail ch) s (fun t =>
      t.rd (R.KRF_CHSTAT_TDCFAIL ch.val) = 1 ∧ (t.krfGroup (ch.val / 32)).move = some (ch.val % 32, s.nowLsb + 1024000, 2)
        ∧ t.rd (R.KRF_SPSTAT_CURCH (ch.val / 32)) = ch.val % 32
        ∧ Frame [R.KRF_CHSTAT_TDCFAIL ch.val, R.KRF_CHCFG_TDCFAIL ch.val, R.KRF_SPSTAT_CURCH (ch.val / 32)] s t))
  ∧ (∀ (ch : Fin 1024) (s : State), s.rd (R.KRF_CHSTAT_TDCFAIL ch.val) = 0 → (¬ (s.rd (R.KRF_SPSTAT_TAKEN (ch.val / 32)) = 1 ∧ s.rd
  (R.KRF_SPSTAT_CURCH (ch.val / 32)) = ch.val % 32)) → (s.rd (R.KRF_SPARE_AUTO (ch.val / 32)) = 0 ∨ s.rd (R.KRF_SPSTAT_TAKEN (ch.val /
  32)) = 1 ∨ s.rd (R.KRF_SPSTAT_SPFAIL (ch.val / 32)) = 1) → Completes (.tdcfail ch) s (fun t =>
      t.rd (R.KRF_CHSTAT_TDCFAIL ch.val) = 1 ∧ t.rd (R.KRF_CHSTAT_MASKED ch.val) = 1 ∧ t.rd (R.KRF_SPSTAT_NOREPAIR (ch.val / 32)) = 1
        ∧ t.rd R.KRF_INTSTAT_NOREPAIR = 1 ∧ (t.krfChan ch.val).noFix = true
        ∧ Frame ([R.KRF_CHSTAT_TDCFAIL ch.val, R.KRF_CHCFG_TDCFAIL ch.val, R.KRF_CHSTAT_MASKED ch.val, R.KRF_SPSTAT_NOREPAIR (ch.val /
          32), R.KRF_INTSTAT_NOREPAIR] ++ reportFlds) s t))
  ∧ (∀ (ch : Fin 1024) (s : State), s.rd (R.KRF_CHSTAT_TDCFAIL ch.val) = 0 → s.rd (R.KRF_SPSTAT_TAKEN (ch.val / 32)) = 1 → s.rd
  (R.KRF_SPSTAT_CURCH (ch.val / 32)) = ch.val % 32 → Completes (.tdcfail ch) s (fun t =>
      t.rd (R.KRF_CHSTAT_TDCFAIL ch.val) = 1 ∧ t.krf = s.krf ∧ Frame [R.KRF_CHSTAT_TDCFAIL ch.val, R.KRF_CHCFG_TDCFAIL ch.val] s t))
  ∧ (∀ (g : Fin 32) (s : State), s.rd (R.KRF_SPARE_MODE g.val) = 1 → s.rd (R.KRF_SPSTAT_TAKEN g.val) = 0 → s.rd (R.KRF_SPSTAT_SPFAIL
  g.val) = 0 → 1000 ≤ (s.krfGroup g.val).compared → (s.krfGroup g.val).compared < 100 * (s.krfGroup g.val).mism → s.rd
  (R.KRF_CHSTAT_TDCFAIL (s.spareCh g.val)) = 0 → s.rd (R.KRF_SPSTAT_CURCH g.val) < 32 → s.rd (R.KRF_SPARE_AUTO g.val) = 0 → Completes
  (.shadowPeriodEnd g) s (fun t =>
      t.rd R.KRF_INTSTAT_SHADOWMIS = 1 ∧ t.rd (R.KRF_CHSTAT_TDCFAIL (s.spareCh g.val)) = 1
        ∧ t.rd (R.KRF_CHSTAT_MASKED (s.spareCh g.val)) = 1 ∧ t.rd (R.KRF_SPSTAT_NOREPAIR g.val) = 1 ∧ (t.krfGroup g.val).compared = 0
        ∧ Frame ([R.KRF_INTSTAT_SHADOWMIS, R.KRF_SPSTAT_CURCH g.val, R.KRF_CHSTAT_TDCFAIL (s.spareCh g.val), R.KRF_CHCFG_TDCFAIL
          (s.spareCh g.val), R.KRF_CHSTAT_MASKED (s.spareCh g.val), R.KRF_SPSTAT_NOREPAIR g.val, R.KRF_INTSTAT_NOREPAIR] ++
          reportFlds) s t))
  ∧ (∀ (g : Fin 32) (s : State), s.rd (R.KRF_SPARE_MODE g.val) = 1 → s.rd (R.KRF_SPSTAT_TAKEN g.val) = 0 → s.rd (R.KRF_SPSTAT_SPFAIL
  g.val) = 0 → s.rd (R.KRF_SPARE_ROTATE g.val) = 1 → (s.krfGroup g.val).compared ≠ 0 → 100 * (s.krfGroup g.val).mism ≤ (s.krfGroup
  g.val).compared → (s.krfGroup g.val).move = none → Completes (.shadowPeriodEnd g) s (fun t =>
      t.spareShift (s.spareCh g.val) = divRound (s.krfGroup g.val).diffSum (s.krfGroup g.val).compared
        ∧ (t.krfGroup g.val).compared = 0 ∧ t.rd (R.KRF_SPSTAT_CURCH g.val) = s.nextShadow g.val ∧ Frame [R.KRF_SPSTAT_CURCH g.val] s
          t))
  ∧ (∀ (g : Fin 32) (v : Word) (s : State), v.toNat % 4 = 1 → s.rd (R.KRF_SPSTAT_SPFAIL g.val) = 0 → s.rd (R.KRF_SPSTAT_TAKEN g.val) = 0 →
  (s.krfGroup g.val).move = none → Completes (.spareMove g v) s (fun t =>
      t.rd (R.KRF_SPARE_MODE g.val) = 1 ∧ t.rd (R.KRF_SPARE_CH g.val) = v.toNat / 4 % 32
        ∧ t.rd (R.KRF_SPARE_AUTO g.val) = v.toNat / 128 % 2 ∧ t.rd (R.KRF_SPARE_ROTATE g.val) = v.toNat / 256 % 2
        ∧ t.rd (R.KRF_SPSTAT_CURCH g.val) = v.toNat / 4 % 32 ∧ (t.krfGroup g.val).move = none
        ∧ Frame [R.KRF_SPARE_MODE g.val, R.KRF_SPARE_CH g.val, R.KRF_SPARE_AUTO g.val, R.KRF_SPARE_ROTATE g.val, R.KRF_SPSTAT_CURCH
          g.val] s t))
  ∧ (∀ (g : Fin 32) (v : Word) (c u : Nat) (s : State), v.toNat % 4 = 1 → s.rd (R.KRF_SPSTAT_SPFAIL g.val) = 0 → s.rd (R.KRF_SPSTAT_TAKEN
  g.val) = 0 → (s.krfGroup g.val).move = some (c, u, 2) → c < 32 → s.rd (R.KRF_CHSTAT_TDCFAIL (32 * g.val + c)) = 1 → Completes
  (.spareMove g v) s (fun t =>
      t.rd (R.KRF_SPARE_MODE g.val) = 1 ∧ t.rd (R.KRF_SPSTAT_CURCH g.val) = v.toNat / 4 % 32 ∧ (t.krfGroup g.val).move = none
        ∧ t.rd (R.KRF_CHSTAT_MASKED (32 * g.val + c)) = 1 ∧ t.rd (R.KRF_SPSTAT_NOREPAIR g.val) = 1 ∧ t.rd R.KRF_INTSTAT_NOREPAIR = 1
        ∧ Frame [R.KRF_SPARE_MODE g.val, R.KRF_SPARE_CH g.val, R.KRF_SPARE_AUTO g.val, R.KRF_SPARE_ROTATE g.val, R.KRF_SPSTAT_CURCH
          g.val, R.KRF_CHSTAT_MASKED (32 * g.val + c), R.KRF_SPSTAT_NOREPAIR g.val, R.KRF_INTSTAT_NOREPAIR] s t))
  ∧ (∀ (g : Fin 32) (v : Word) (s : State), v.toNat % 4 = 2 → s.rd (R.KRF_SPSTAT_SPFAIL g.val) = 0 → s.rd (R.KRF_SPSTAT_TAKEN g.val) = 0 →
  (s.krfGroup g.val).move = none → Completes (.spareMove g v) s (fun t =>
      t.rd (R.KRF_SPARE_MODE g.val) = 2 ∧ t.rd (R.KRF_SPARE_CH g.val) = v.toNat / 4 % 32
        ∧ t.rd (R.KRF_SPSTAT_CURCH g.val) = v.toNat / 4 % 32 ∧ (t.krfGroup g.val).move = some (v.toNat / 4 % 32, s.nowLsb + 1024000, 2)
        ∧ Frame [R.KRF_SPARE_MODE g.val, R.KRF_SPARE_CH g.val, R.KRF_SPARE_AUTO g.val, R.KRF_SPARE_ROTATE g.val, R.KRF_SPSTAT_CURCH
          g.val] s t))
  ∧ (∀ (g : Fin 32) (v : Word) (s : State), (v.toNat % 4 = 3 ∨ s.rd (R.KRF_SPSTAT_SPFAIL g.val) = 1 ∧ v.toNat % 4 ≠ 0) → Completes
  (.spareMove g v) s (fun t =>
      t.rd R.KRF_INTSTAT_BADCFG = 1 ∧ t.krf = s.krf ∧ Frame ([R.KRF_INTSTAT_BADCFG] ++ reportFlds) s t))
  ∧ (∀ (g : Fin 32) (c u : Nat) (s : State), (s.krfGroup g.val).move = some (c, u, 2) → c < 32 → s.rd (R.KRF_SPSTAT_TAKEN g.val) = 0 →
  Completes (.spareTakeover g) s (fun t =>
      t.rd (R.KRF_SPSTAT_TAKEN g.val) = 1 ∧ t.rd (R.KRF_SPSTAT_CURCH g.val) = c ∧ t.rd (R.KRF_CHSTAT_SPARE (32 * g.val + c)) = 1
        ∧ t.rd (R.KRF_SPARE_MODE g.val) = 2 ∧ t.rd (R.KRF_SPARE_CH g.val) = c ∧ (t.krfGroup g.val).move = none
        ∧ (t.krfGroup g.val).kept = some c ∧ t.rd R.KRF_INTSTAT_SPAREUSE = 1
        ∧ Frame ([R.KRF_SPSTAT_TAKEN g.val, R.KRF_SPSTAT_CURCH g.val, R.KRF_CHSTAT_SPARE (32 * g.val + c), R.KRF_CHSTAT_MASKED (32 *
          g.val + c), R.KRF_SPSTAT_NOREPAIR g.val, R.KRF_SPARE_MODE g.val, R.KRF_SPARE_CH g.val, R.KRF_INTSTAT_SPAREUSE] ++
          reportFlds) s t))
  ∧ (∀ (g : Fin 32) (c u m : Nat) (s : State), (s.krfGroup g.val).move = some (c, u, m) → c < 32 → m ≠ 2 → s.rd (R.KRF_SPSTAT_TAKEN g.val)
  = 1 → s.rd (R.KRF_CHSTAT_TDCFAIL (s.spareCh g.val)) = 0 → Completes (.spareTakeover g) s (fun t =>
      t.rd (R.KRF_SPSTAT_TAKEN g.val) = 0 ∧ t.rd (R.KRF_CHSTAT_SPARE (s.spareCh g.val)) = 0 ∧ t.rd (R.KRF_SPSTAT_CURCH g.val) = c
        ∧ (t.krfGroup g.val).move = none ∧ (t.krfGroup g.val).kept = none
        ∧ Frame [R.KRF_SPSTAT_TAKEN g.val, R.KRF_CHSTAT_SPARE (s.spareCh g.val), R.KRF_SPSTAT_CURCH g.val] s t))
  ∧ (∀ (g : Fin 32) (s : State), (s.krfGroup g.val).move = none → Completes (.spareTakeover g) s (fun t =>
      t.krf = s.krf ∧ Frame [] s t))

/-- R163 to R167: an edge in the dead time of its input changes no measurement; in mode INTERVAL an edge that stops a measurement adds
  its length to the run; an overflowed measurement is left out and flagged; after N measurements the statistics are latched; an arm
  starts a run, an abort latches what there is without DONE; a read of KRF_GTSLO pops the oldest stamp, and an empty FIFO reads 0. -/
def Obligations.GaugesMeasureIntervals : Prop :=
  (∀ (g : Fin 8) (rising : Bool) (coarse : BitVec 48) (fine : BitVec 5) (p : Nat) (s : State), s.krf.gLast = [(g.val, p)] → gaugeSub (32
  * coarse.toNat + fine.toNat) p < 256 → Completes (.gaugeEdge g rising coarse fine) s (fun t =>
      t.krf = s.krf ∧ Frame ((List.range 8).map R.KRF_GOVF_DEADCNT) s t))
  ∧ (∀ (g : Fin 8) (rising : Bool) (coarse : BitVec 48) (fine : BitVec 5) (u : Fin 8) (x0 : Nat) (s : State), s.krf.gLast = [] → s.gMode
  u.val = 1 → (s.gauge u.val).armed = true → (s.gauge u.val).n < s.gN u.val → (s.gauge u.val).start = some x0 → s.gStop u.val g.val
  rising = true → Completes (.gaugeEdge g rising coarse fine) s (fun t =>
      (t.gauge u.val).n = (s.gauge u.val).n + 1 ∧ (t.gauge u.val).start = none
        ∧ (t.gauge u.val).last = gaugeSub (32 * coarse.toNat + fine.toNat) x0
        ∧ (t.gauge u.val).sumX = (s.gauge u.val).sumX + gaugeSub (32 * coarse.toNat + fine.toNat) x0
        ∧ (t.gauge u.val).sumXX = (s.gauge u.val).sumXX + gaugeSub (32 * coarse.toNat + fine.toNat) x0 ^ 2
        ∧ t.rd (R.KRF_GSTAT_OVF u.val) = 0 ∧ KeepsMemory s t))
  ∧ (∀ (u : Fin 8) (s : State), (s.gauge u.val).armed = true → (s.gauge u.val).start ≠ none → s.rd (R.KRF_GOVF_OVFCNT u.val) < 65535 →
  Completes (.gaugeOverflow u) s (fun t =>
      (t.gauge u.val).start = none ∧ (t.gauge u.val).n = (s.gauge u.val).n ∧ t.rd (R.KRF_GSTAT_OVF u.val) = 1
        ∧ t.rd (R.KRF_GOVF_OVFCNT u.val) = s.rd (R.KRF_GOVF_OVFCNT u.val) + 1 ∧ t.rd R.KRF_INTSTAT_GAUGEOVF = 1
        ∧ Frame ([R.KRF_GSTAT_OVF u.val, R.KRF_GOVF_OVFCNT u.val, R.KRF_INTSTAT_GAUGEOVF] ++ reportFlds) s t))
  ∧ (∀ (u : Fin 8) (s : State), (s.gauge u.val).armed = true → s.gN u.val ≤ (s.gauge u.val).n → (s.gauge u.val).sumX < 2 ^ 50 → (s.gauge
  u.val).minX < 2 ^ 48 → Completes (.gaugedone u) s (fun t =>
      t.rd (R.KRF_GMEANLO_MEAN u.val) = (s.gauge u.val).mean % 2 ^ 32 ∧ t.rd (R.KRF_GSDEVLO_SDEV u.val) = (s.gauge u.val).sdev % 2 ^ 32
        ∧ t.rd (R.KRF_GMINLO_MIN u.val) = (s.gauge u.val).minX % 2 ^ 32 ∧ t.rd (R.KRF_GMAXLO_MAX u.val) = (s.gauge u.val).maxX % 2 ^ 32
        ∧ t.rd (R.KRF_GSTAT_DONE u.val) = 1 ∧ t.rd R.KRF_INTSTAT_GAUGEDONE = 1
        ∧ t.rd (R.KRF_GSTAT_BUSY u.val) = s.rd (R.KRF_GCFG_CONT u.val)
        ∧ (s.rd (R.KRF_GCFG_CONT u.val) = 0 → (t.gauge u.val).armed = false)
        ∧ (s.rd (R.KRF_GCFG_CONT u.val) = 1 → (t.gauge u.val).armed = true ∧ (t.gauge u.val).n = 0) ∧ KeepsMemory s t))
  ∧ (∀ (u : Fin 8) (s : State), s.gMode u.val ≠ 0 → s.gMode u.val ≠ 4 → Completes (.gaugeArm u) s (fun t =>
      (t.gauge u.val).armed = true ∧ (t.gauge u.val).n = 0 ∧ (t.gauge u.val).sumX = 0 ∧ t.rd (R.KRF_GSTAT_BUSY u.val) = 1
        ∧ t.rd (R.KRF_GSTAT_DONE u.val) = 0 ∧ t.rd (R.KRF_GSTAT_CNT u.val) = 0
        ∧ Frame [R.KRF_GSTAT_BUSY u.val, R.KRF_GSTAT_DONE u.val, R.KRF_GSTAT_CNT u.val] s t))
  ∧ (∀ (u : Fin 8) (s : State), (s.gauge u.val).armed = true → Completes (.gaugeAbort u) s (fun t =>
      (t.gauge u.val).armed = false ∧ t.rd (R.KRF_GSTAT_DONE u.val) = 0 ∧ t.rd (R.KRF_GSTAT_BUSY u.val) = 0
        ∧ t.rd (R.KRF_GMINLO_MIN u.val) = (if (s.gauge u.val).n = 0 then 0 else (s.gauge u.val).minX % 2 ^ 32)
        ∧ t.rd R.KRF_INTSTAT_GAUGEDONE = s.rd R.KRF_INTSTAT_GAUGEDONE ∧ KeepsMemory s t))
  ∧ (∀ (u : Fin 8) (x : Nat) (r : List Nat) (s : State), (s.gauge u.val).fifo = x :: r → x < 2 ^ 64 → r.length < 16 → Completes
  (.krfGtsloRead u) s (fun t =>
      t.rd (R.KRF_GTSLO_TS u.val) = x % 2 ^ 32 ∧ t.rd (R.KRF_GTSHI_TS u.val) = x / 2 ^ 32 ∧ (t.gauge u.val).fifo = r
        ∧ t.rd (R.KRF_GSTAT_FIFO u.val) = r.length ∧ Frame [R.KRF_GTSLO_TS u.val, R.KRF_GTSHI_TS u.val, R.KRF_GSTAT_FIFO u.val] s t))
  ∧ (∀ (u : Fin 8) (s : State), (s.gauge u.val).fifo = [] → Completes (.krfGtsloRead u) s (fun t =>
      t.rd (R.KRF_GTSLO_TS u.val) = 0 ∧ t.rd (R.KRF_GTSHI_TS u.val) = 0 ∧ Frame [R.KRF_GTSLO_TS u.val, R.KRF_GTSHI_TS u.val] s t))

/-- R139, R169, R179, R180, R182, R186, R190, R193, R198, R215: a scout end runs the sieve of an open burst with an aim phase and
  places its windows 4,096 LSB later; the fill runs once, and waits for an earlier one of its channel; a close releases the gang's
  tags, ends listen bursts and those without a slot without a record, counts a burst with no valid shot, and presents every other one:
  it takes the lowest free engine of its cluster, whose local memory then holds its work item, waits for one, or ends without a record
  where the ledger granted it without an engine. -/
def Obligations.MortiseClosesBursts : Prop :=
  (∀ (b : Nat) (x : Burst) (s : State), s.burst b = some x → x.stage = .open → x.sieved = false → x.s < x.k → Completes (.scoutEnd b) s
  (fun t =>
      t.burst b = some { (x.sieve (s.epochCfg x.epoch)) with placed := some (s.nowLsb + 4096) } ∧ t.jnl = s.jnl ∧ t.btn = s.btn
        ∧ KeepsMemory s t))
  ∧ (∀ (b : Nat) (x : Burst) (s : State), s.burst b = some x → (x.stage ≠ .open ∨ x.sieved = true ∨ x.k ≤ x.s) → Completes (.scoutEnd b) s
  (fun t =>
      t.peg = s.peg ∧ Frame [] s t))
  ∧ (∀ (b p : Nat) (x : Burst) (s : State), s.burst b = some x → x.num = b → x.stage = .open → x.placed = some p → x.filled = false →
  s.fillBusy x p = false → Completes (.retroactiveFill b ()) s (fun t =>
      t.burst b = some
        { x.fill (s.backlog x.channel) ((s.backlog x.channel).filter (fun e => decide (e.deliver < p))) (p - x.epoch0) with filled := true }
        ∧ Frame [R.MRT_WRAPWIN_CNT] s t))
  ∧ (∀ (b p : Nat) (x : Burst) (s : State), s.burst b = some x → x.placed = some p → (x.filled = true ∨ s.fillBusy x p = true) → Completes
  (.retroactiveFill b ()) s (fun t =>
      t.peg = s.peg ∧ Frame [] s t))
  ∧ (∀ (b : Nat) (x : Burst) (s : State), s.burst b = some x → x.stage = .open → (∀ y ∈ s.peg.bursts, y.stage = .open → y.num ≠ b → ¬
  (y.driver = x.driver ∧ y.tags = x.tags)) → Completes (.windowClose b) s (fun t =>
      (∀ y ∈ t.peg.bursts, y.num = b → y.stage ≠ .open) ∧ t.peg.tags = s.peg.tags.filter (fun g => !x.tags.contains g)
        ∧ KeepsMemory s t))
  ∧ (∀ (b : Nat) (x : Burst) (s : State), s.burst b = some x → x.stage = .open → (x.kind = .listen ∨ x.slot = false) → s.boot.linked =
  false → Completes (.windowClose b) s (fun t =>
      t.burst b = none ∧ t.jnl = s.jnl ∧ t.jst = s.jst ∧ KeepsMemory s t))
  ∧ (∀ (b e : Nat) (x : Burst) (s : State), s.burst b = some x → x.num = b → x.stage = .open → x.kind ≠ .listen → x.slot = true → x.booked
  = true → x.sieved = true → s.freeEngine (s.servesFor x) = some e → s.flt.injEngines = [] → s.rd R.JST_ITEMS_CNT < 0xFFFFFFFF → s.rd
  R.PEG_VOIDBURST_CNT < 0xFFFFFFFF → Completes (.windowClose b) s (fun t =>
      ((t.burst b).map (fun y => (y.stage, y.engine, y.closeT))) = some (.running, some e, s.timeAt x.closeLsb)
        ∧ (t.engine e).burst = some b ∧ ((t.burst b).map (·.item e)) = some (t.engine e).item
        ∧ t.rd R.JST_ITEMS_CNT = s.rd R.JST_ITEMS_CNT + 1 ∧ t.rd R.PEG_VOIDBURST_CNT = s.rd R.PEG_VOIDBURST_CNT + x.allVoid.toNat))
  ∧ (∀ (b : Nat) (x : Burst) (s : State), s.burst b = some x → x.num = b → x.stage = .open → x.kind ≠ .listen → x.slot = true → x.booked =
  true → x.sieved = true → s.freeEngine (s.servesFor x) = none → Completes (.windowClose b) s (fun t =>
      ((t.burst b).map (fun y => (y.stage, y.engine))) = some (.waiting, x.engine) ∧ t.jst = s.jst ∧ KeepsMemory s t))
  ∧ (∀ (b : Nat) (x : Burst) (s : State), s.burst b = some x → x.num = b → x.stage = .open → x.kind ≠ .listen → x.slot = true → x.booked =
  false → s.boot.linked = false → s.rd R.JST_DROPITEM_CNT < 0xFFFFFFFF → Completes (.windowClose b) s (fun t =>
      t.burst b = none ∧ t.rd R.JST_DROPITEM_CNT = s.rd R.JST_DROPITEM_CNT + 1 ∧ t.rd R.JST_INTSTAT_DROPITEM = 1 ∧ t.jst = s.jst
        ∧ KeepsMemory s t))

/-- R196, R201, R206, R211 to R214, R216, R230: a commit frees its engine and hands its burst to the journal, what a host-supplied
  program wrote standing at its record port, and its bad commit word is an engine fault; a committed marker takes the next sequence
  number and its slot; an engine that faults, accesses what its address space does not allow, or reaches its budget leaves service and
  its item runs again once, or ends its burst; a correctable error is counted, an allowed access changes nothing, and a cluster's
  access that its table does not hold is refused by Girt; a retest returns or retires an engine; a substitution switches the spare in
  at its instant, and a forced one is refused while the spare is taken. -/
def Obligations.JoistRunsItems : Prop :=
  (∀ (b e : Nat) (x : Burst) (word : Word) (recs : List (BitVec 96)) (adds : List (BitVec 16 × Word)) (s : State), s.burst b = some x →
  x.engine = some e → x.kind = .scan → (s.setOf x.epoch).standard = true → (∀ y ∈ s.peg.bursts, y.stage ≠ .waiting) → s.boot.linked =
  false → Completes (.commit b word ⟨recs, adds⟩) s (fun t =>
      (t.engine e).burst = none ∧ ((t.burst b).map (·.stage)) = some .handed
        ∧ (t.jnl.handed.getLast?.map (fun h => (h.burst, h.instant, h.channel, h.epoch, h.frame))) = some (x.num, x.closeLsb,
          x.channel, x.epoch, x.frame)
        ∧ t.jnl.head = s.jnl.head ∧ KeepsMemory s t))
  ∧ (∀ (b e : Nat) (x : Burst) (word : Word) (recs : List (BitVec 96)) (adds : List (BitVec 16 × Word)) (s : State), s.burst b = some x →
  x.engine = some e → (s.setOf x.epoch).standard = false → commitOk word = true → (∀ y ∈ s.peg.bursts, y.stage ≠ .waiting) →
  s.boot.linked = false → Completes (.commit b word ⟨recs, adds⟩) s (fun t =>
      (t.engine e).burst = none ∧ (t.engine e).port = portBytes word recs
        ∧ t.jst.stats = (adds.foldl (fun u a => u.statAdd (e / 32) a) s).jst.stats
        ∧ (t.jnl.handed.getLast?.map (fun h => (h.burst, h.instant, h.channel, h.epoch, h.recs))) = some (x.num, x.closeLsb,
          x.channel, x.epoch, (s.itemRecords x word recs).map (fun r =>
          { stream := 0, seq := 0, time := x.closeT, body := fixClass r.1, flags := x.recFlags r.2 }))
        ∧ t.jnl.head = s.jnl.head ∧ KeepsMemory s t))
  ∧ (∀ (b e : Nat) (x : Burst) (word : Word) (recs : List (BitVec 96)) (adds : List (BitVec 16 × Word)) (s : State), s.burst b = some x →
  x.engine = some e → (s.setOf x.epoch).standard = false → commitOk word = false → (s.engine e).burst = some b → s.rd
  R.JST_CTL_RERUNEN = 0 → s.rd R.JST_DROPITEM_CNT < 0xFFFFFFFF → Completes (.commit b word ⟨recs, adds⟩) s (fun t =>
      (t.engine e).inService = false ∧ t.rd R.JST_INTSTAT_ENGFAULT = 1 ∧ t.rd R.JST_DROPITEM_CNT = s.rd R.JST_DROPITEM_CNT + 1
        ∧ t.burst b = none ∧ KeepsMemory s t))
  ∧ (∀ (m : Marker) (s : State), s.boot.linked = true → s.jnl.handed = [] → s.jnl.markers = [m] → s.blocked m.key = false → s.jnlUsed <
  s.jnlCap → m.kind ≠ 2 → s.hif.queues = [] → Completes .markerCommit s (fun t =>
      t.jnl.markers = [] ∧ t.jnl.head = seqNext s.jnl.head
        ∧ (s.jnl.head % max s.jnlCap 1, ({ stream := 2, seq := s.jnl.head, time := m.time, body := s.markerBody m, flags := m.flags }
          : Rec)) ∈ t.jnl.ring
        ∧ t.peg = s.peg ∧ KeepsMemory s t))
  ∧ (∀ (s : State), s.boot.linked = false → Completes .markerCommit s (fun t =>
      t.jnl = s.jnl ∧ t.peg = s.peg ∧ Frame [R.JNL_STATUS_HELD] s t))
  ∧ (∀ (e : Fin 1056) (s : State), (s.engine e.val).inService = true → (s.engine e.val).burst = none → Completes (.engineFault e (.ecc
  false)) s (fun t =>
      (t.engine e.val).inService = false ∧ t.rd R.JST_INTSTAT_ENGFAULT = 1 ∧ KeepsMemory s t))
  ∧ (∀ (e : Fin 1056) (s : State), s.rd R.JST_ECCCOR_CNT < 0xFFFFFFFF → Completes (.engineFault e (.ecc true)) s (fun t =>
      t.rd R.JST_ECCCOR_CNT = s.rd R.JST_ECCCOR_CNT + 1 ∧ t.jst = s.jst ∧ Frame [R.JST_ECCCOR_CNT] s t))
  ∧ (∀ (e : Fin 1056) (addr : Word) (k : EngAccess) (s : State), engAllows addr.toNat k = true → Completes (.engineFault e (.access addr
  k)) s (fun t =>
      t.jst = s.jst ∧ t.peg = s.peg ∧ Frame [] s t))
  ∧ (∀ (e : Fin 1056) (k : EngineFaultKind) (n : Nat) (x : Burst) (s : State), faultsItem k = true → (s.engine e.val).inService = true →
  (s.engine e.val).burst = some n → s.burst n = some x → x.num = n → x.rerun = false → s.rd R.JST_CTL_RERUNEN = 1 → s.rd
  R.JST_RERUN_CNT < 0xFFFFFFFF → Completes (.engineFault e k) s (fun t =>
      (t.engine e.val).inService = false ∧ t.rd R.JST_INTSTAT_ENGFAULT = 1 ∧ t.rd R.JST_RERUN_CNT = s.rd R.JST_RERUN_CNT + 1
        ∧ ((t.burst n).map (fun y => (y.rerun, y.stage == .running || y.stage == .waiting))) = some (true, true) ∧ KeepsMemory s t))
  ∧ (∀ (e : Fin 1056) (s : State), Completes (.engineFault e .cluster) s (fun t =>
      (e.val / 32 ∈ t.jst.clFault) ∧ KeepsMemory s t))
  ∧ (∀ (e : Fin 1056) (addr : Nat) (write : Bool) (s : State), s.clusterMay (e.val / 32) addr write = true → Completes (.engineFault e
  (.girt addr write)) s (fun t =>
      t.jst = s.jst ∧ Frame [] s t))
  ∧ (∀ (e : Fin 1056) (addr : Nat) (write : Bool) (s : State), s.clusterMay (e.val / 32) addr write = false → s.rd R.GRT_DENY_CNT <
  0xFFFFFFFF → Completes (.engineFault e (.girt addr write)) s (fun t =>
      t.jst = s.jst ∧ t.rd R.GRT_DENY_CNT = s.rd R.GRT_DENY_CNT + 1 ∧ t.rd R.GRT_INTSTAT_DENY = 1
        ∧ t.rd R.GRT_LASTADDRLO_ADDR = addr % 2 ^ 32 ∧ t.rd R.GRT_LASTADDRHI_ADDR = addr / 2 ^ 32
        ∧ Frame ([R.GRT_DENY_CNT, R.GRT_LASTDENY_MASTER, R.GRT_LASTDENY_TARGET, R.GRT_LASTDENY_WRITE, R.GRT_LASTADDRLO_ADDR,
          R.GRT_LASTADDRHI_ADDR, R.GRT_INTSTAT_DENY] ++ reportFlds) s t))
  ∧ (∀ (e : Fin 1056) (n : Nat) (x : Burst) (s : State), (s.engine e.val).burst = some n → s.burst n = some x → x.num = n → s.rd
  R.JST_CTL_RERUNEN = 0 → s.rd R.JST_DROPITEM_CNT < 0xFFFFFFFF → Completes (.budgetExpiry e) s (fun t =>
      (t.engine e.val).inService = false ∧ t.rd R.JST_INTSTAT_ENGFAULT = 1 ∧ t.rd R.JST_DROPITEM_CNT = s.rd R.JST_DROPITEM_CNT + 1
        ∧ t.burst n = none ∧ KeepsMemory s t))
  ∧ (∀ (e : Fin 1056) (s : State), (s.engine e.val).testing = true → Completes (.engineRetest e true) s (fun t =>
      (t.engine e.val).inService = true ∧ KeepsMemory s t))
  ∧ (∀ (e : Fin 1056) (s : State), (s.engine e.val).testing = true → Completes (.engineRetest e false) s (fun t =>
      (t.engine e.val).out = true ∧ (t.engine e.val).testing = false ∧ t.rd R.JST_INTSTAT_ENGOUT = 1
        ∧ Frame ([R.JST_INTSTAT_ENGOUT, R.JST_CLSTAT_NENG (e.val / 32), R.JST_CLENG_INSVC (e.val / 32)] ++ reportFlds) s t))
  ∧ (∀ (c u : Nat) (s : State), s.jst.subAt = some (c, u) → c < 32 → Completes .clusterSubstitution s (fun t =>
      t.jst.subFor = some c ∧ t.jst.subAt = none ∧ t.rd (R.JST_CLSTAT_STATE c) = 1 ∧ t.rd (R.JST_CLSTAT_STATE 32) = 3
        ∧ t.rd R.JST_STATUS_SUBCL = c ∧ t.rd R.JST_INTSTAT_SUBST = 1
        ∧ Frame ([R.JST_CLSTAT_STATE c, R.JST_CLSTAT_STATE 32, R.JST_STATUS_SUBCL, R.JST_INTSTAT_SUBST] ++ reportFlds) s t))
  ∧ (∀ (c : BitVec 5) (s : State), s.spareTaken = false → Completes (.jstSubcmdGo c) s (fun t =>
      t.jst.subAt = some (c.toNat, s.nowLsb + 204800) ∧ t.rd R.JST_SUBCMD_CL = c.toNat ∧ Frame [R.JST_SUBCMD_CL] s t))
  ∧ (∀ (c : BitVec 5) (s : State), s.spareTaken = true → Completes (.jstSubcmdGo c) s (fun t =>
      t.jst = s.jst ∧ t.rd R.JST_INTSTAT_BADCFG = 1 ∧ Frame ([R.JST_INTSTAT_BADCFG] ++ reportFlds) s t))

/-- R249, R252, R259 to R261: the oldest waiting target is evaluated once its burst is resolved and a pose exists, or is unposed when
  none can come; a frame whose targets are done commits its records and is reported; once LATEMAX has passed since the frame's end
  boundary its waiting targets are abandoned and counted; 1 ms behind it the frame is late, and before these instants neither happens;
  a target whose burst is still in flight waits. -/
def Obligations.LookbackEvaluatesAndCommits : Prop :=
  (∀ (f : LbkFrame) (c : Column) (p : PoseAt) (s : State), s.oldestTarget = some (f, c) → s.burstGone c.burst = true → poseOf s.poses
  f.cfg.gapmax c.closeT = some p → s.rd R.LBK_TARGETS_CNT < 0xFFFFFFFF → Completes .targetEvaluation s (fun t =>
      t.rd R.LBK_TARGETS_CNT = s.rd R.LBK_TARGETS_CNT + 1
        ∧ (∀ g ∈ t.lbk.frames, g.num = f.num → ∀ d ∈ g.cols, d.burst = c.burst → d.done = 1)
        ∧ Frame [R.LBK_TARGETS_CNT, R.LBK_COVERED_CNT, R.LBK_STATUS_BEHIND] s t))
  ∧ (∀ (f : LbkFrame) (c : Column) (u : Nat) (s : State), s.oldestTarget = some (f, c) → s.burstGone c.burst = true → poseOf s.poses
  f.cfg.gapmax c.closeT = none → s.lbk.lastPose = some u → c.closeT + f.cfg.gapmax * 1000000 < u → s.rd R.LBK_NOPOSE_CNT < 0xFFFFFFFF
  → Completes .targetEvaluation s (fun t =>
      t.rd R.LBK_NOPOSE_CNT = s.rd R.LBK_NOPOSE_CNT + 1
        ∧ (∀ g ∈ t.lbk.frames, g.num = f.num → ∀ d ∈ g.cols, d.burst = c.burst → d.done = 2)
        ∧ Frame [R.LBK_NOPOSE_CNT, R.LBK_STATUS_BEHIND] s t))
  ∧ (∀ (f : LbkFrame) (c : Column) (s : State), s.oldestTarget = some (f, c) → s.burstGone c.burst = false → Completes .targetEvaluation s
  (fun t =>
      t.lbk = s.lbk ∧ Frame [] s t))
  ∧ (∀ (n : Nat) (f : LbkFrame) (s : State), s.frameSlot n = some f → s.lbkReady f = true → Completes (.lookbackFrameCommit n) s (fun t =>
      t.rd R.LBK_LASTFR_NUM = n % 2 ^ 32 ∧ t.rd R.LBK_INTSTAT_FRDONE = 1
        ∧ (∀ g ∈ t.lbk.frames, g.num = n → g.sent = true ∧ g.kept = []) ∧ KeepsMemory s t))
  ∧ (∀ (n : Nat) (f : LbkFrame) (w : Whisper) (s : State), s.frameSlot n = some f → s.lbkReady f = true → f.kept = [w] →
  s.judgeFull.refuses 1 = false → s.jnl.wq + 25 ≤ 16384 * 25 → s.rd R.LBK_HITS_CNT < 0xFFFFFFFF → Completes (.lookbackFrameCommit n) s
  (fun t =>
      t.jnl.head = seqNext s.jnl.head ∧ (s.jnl.head % max s.jnlCap 1, { w.record with seq := s.jnl.head }) ∈ t.jnl.ring
        ∧ t.rd R.LBK_HITS_CNT = s.rd R.LBK_HITS_CNT + 1 ∧ t.rd R.LBK_LASTFR_NUM = n % 2 ^ 32 ∧ KeepsMemory s t))
  ∧ (∀ (n : Nat) (f : LbkFrame) (s : State), s.frameSlot n = some f → s.lbkReady f = false → Completes (.lookbackFrameCommit n) s (fun t =>
      t.lbk = s.lbk ∧ t.jnl = s.jnl ∧ Frame [] s t))
  ∧ (∀ (n : Nat) (f : LbkFrame) (s : State), s.frameSlot n = some f → s.lbkOn f = true → f.waits = true → s.endedFor f f.cfg.latemax =
  true → s.rd R.LBK_ABANDON_CNT + (f.cols.filter (fun c => c.done == 0)).length ≤ 0xFFFFFFFF → Completes (.abandon n) s (fun t =>
      t.rd R.LBK_ABANDON_CNT = s.rd R.LBK_ABANDON_CNT + (f.cols.filter (fun c => c.done == 0)).length ∧ t.rd R.LBK_INTSTAT_ABANDON = 1
        ∧ ((t.frameSlot n).map (·.waits)) = some false
        ∧ Frame ([R.LBK_ABANDON_CNT, R.LBK_INTSTAT_ABANDON, R.LBK_STATUS_BEHIND] ++ reportFlds) s t))
  ∧ (∀ (n : Nat) (f : LbkFrame) (s : State), s.frameSlot n = some f → s.lbkOn f = true → f.waits = true → s.endedFor f lsbPerMs = true →
  Completes (.poselate n) s (fun t =>
      t.rd R.LBK_INTSTAT_POSELATE = 1 ∧ t.rd R.LBK_STATUS_BEHIND = 1
        ∧ ((t.frameSlot n).map (fun x => (x.late, x.waits))) = some (true, true)
        ∧ Frame ([R.LBK_INTSTAT_POSELATE, R.LBK_STATUS_BEHIND] ++ reportFlds) s t))
  ∧ (∀ (n : Nat) (f : LbkFrame) (s : State), s.frameSlot n = some f → s.endedFor f f.cfg.latemax = false → Completes (.abandon n) s (fun t
  =>
      t.lbk = s.lbk ∧ Frame [] s t))
  ∧ (∀ (n : Nat) (f : LbkFrame) (s : State), s.frameSlot n = some f → (f.waits && s.lbkOn f && s.endedFor f lsbPerMs) = false → Completes
  (.poselate n) s (fun t =>
      t.lbk = s.lbk ∧ Frame [] s t))

/-- R45, R123, R249, R374, R376, R378, R379, R382: a good doorbell fetches an entry of the expected phase, and a bad one, of less than
  the word, to a disabled ring or with a reserved bit, is counted; a command at the front of a ring that runs is answered by one
  completion of its CID, status and RESULT, retained as the newest; NOP does nothing else; SCAN_START and SCAN_STOP ask Peg; TIME_SET
  leaves a step for the next frame start; POSE enters a good sample, counts bad ones, and answers how many were accepted and refused;
  a reserved byte that is set answers BADPARAM. -/
def Obligations.HostCommandsComplete : Prop :=
  (∀ (r : Fin 16) (whole : Bool) (v : BitVec 64) (entries : List (BitVec 512)) (s : State), s.barOn = true → (whole = false ∨ s.rd
  (R.HIF_CRCFG_EN r.val) = 0 ∨ v.toNat / 2 ^ 17 ≠ 0) → Completes (.commandDoorbell r whole v entries) s (fun t =>
      t.rd R.HIF_DBBAD_CNT = min (s.rd R.HIF_DBBAD_CNT + 1) 0xFFFFFFFF ∧ t.rd R.HIF_INTSTAT_DBBAD = 1 ∧ t.hif.rings = s.hif.rings
        ∧ Frame ([R.HIF_DBBAD_CNT, R.HIF_INTSTAT_DBBAD] ++ reportFlds) s t))
  ∧ (∀ (r : Fin 16) (v : BitVec 64) (e : BitVec 512) (s : State), s.barOn = true → s.dmaOn = true → s.rd (R.HIF_CRCFG_EN r.val) = 1 → s.rd
  (R.HIF_CRSTAT_WEDGED r.val) = 1 → v.toNat = s.rd (R.HIF_CRSTAT_HEAD r.val) + 1 → s.rd (R.HIF_CRSTAT_HEAD r.val) < 65535 → (s.cmdRing
  r.val).fetched = [] → cmdPhase e = passBit (s.rd (R.HIF_CRSTAT_HEAD r.val)) (s.rd (R.HIF_CRCFG_LOG2 r.val)) → Completes
  (.commandDoorbell r true v [e]) s (fun t =>
      (t.cmdRing r.val).fetched = [e] ∧ t.rd (R.HIF_CRSTAT_HEAD r.val) = s.rd (R.HIF_CRSTAT_HEAD r.val) + 1
        ∧ t.rd (R.HIF_CRSTAT_BUSY r.val) = 1 ∧ t.rd (R.HIF_CRSTAT_OPCODE r.val) = cmdOp e
        ∧ Frame [R.HIF_CRSTAT_HEAD r.val, R.HIF_CRSTAT_BUSY r.val, R.HIF_CRSTAT_OPCODE r.val] s t))
  ∧ (∀ (r : Fin 16) (e : BitVec 512) (s : State), AtFront r.val 1 e s → cmdClean e 16 = true → cmdParam e = 0 → Completes (.nop r) s (fun
  t =>
      Answered r.val e stOk 0 s t ∧ Frame (cplFlds r.val) s t))
  ∧ (∀ (r : Fin 16) (e : BitVec 512) (s : State), AtFront r.val 1 e s → (cmdClean e 16 = false ∨ cmdParam e ≠ 0) → Completes (.nop r) s
  (fun t =>
      Answered r.val e stBadParam 0 s t ∧ Frame (R.HIF_INTSTAT_CMDERR :: cplFlds r.val ++ reportFlds) s t))
  ∧ (∀ (r : Fin 16) (e : BitVec 512) (s : State), AtFront r.val 2 e s → cmdClean e 16 = true → cmdParam e = 0 → (s.stage = 0x0D ∨ s.stage
  = 0x0E) → s.peg.scanning = false → fLt 0 (s.epochCfg s.peg.active).elStep = true → Completes (.scanStart r) s (fun t =>
      t.peg.startReq = some (s.peg.startReq.getD s.nowLsb) ∧ t.rd R.PEG_STATUS_STATE = 1
        ∧ Answered r.val e stOk ((s.rd R.PEG_FRAMENUM_NUM + s.boundariesTo (s.peg.startReq.getD s.nowLsb)) % 2 ^ 32) s t
        ∧ Frame (R.PEG_STATUS_STATE :: cplFlds r.val) s t))
  ∧ (∀ (r : Fin 16) (e : BitVec 512) (s : State), AtFront r.val 2 e s → cmdClean e 16 = true → cmdParam e = 0 → s.stage ≠ 0x0D → s.stage ≠
  0x0E → Completes (.scanStart r) s (fun t =>
      t.peg = s.peg ∧ Answered r.val e stState noRes s t ∧ Frame (R.HIF_INTSTAT_CMDERR :: cplFlds r.val ++ reportFlds) s t))
  ∧ (∀ (r : Fin 16) (e : BitVec 512) (s : State), AtFront r.val 3 e s → cmdClean e 16 = true → cmdParam e = 0 → s.peg.scanning = true →
  Completes (.scanStop r) s (fun t =>
      t.peg.stopReq = true ∧ t.rd R.PEG_STATUS_STATE = 3 ∧ Answered r.val e stOk (s.rd R.PEG_FRAMENUM_NUM) s t
        ∧ Frame (R.PEG_STATUS_STATE :: cplFlds r.val) s t))
  ∧ (∀ (r : Fin 16) (e : BitVec 512) (s : State), AtFront r.val 4 e s → cmdClean e 24 = true → cmdParam e = 0 → Completes (.timeSet r) s
  (fun t =>
      t.clk.pend = .timeSet (((cmdField e 16 8 : Nat) : Int) / 5 + (if cmdField e 16 8 % 5 < 3 then 0 else 1) - (s.clk.devTime.toNat :
        Int) / 5)
        ∧ t.clk.devTime = s.clk.devTime ∧ t.rd R.CLK_STATUS_TSET = 1 ∧ Answered r.val e stOk 0 s t
        ∧ Frame (R.CLK_STATUS_TSET :: cplFlds r.val) s t))
  ∧ (∀ (r : Fin 16) (e : BitVec 512) (d : Option (List (BitVec 384))) (s : State), AtFront r.val 8 e s → cmdClean e 64 = true → cmdParam e
  = 0 → s.poseFits (e.extractLsb' 128 384) = true → Completes (.pose r d) s (fun t =>
      Answered r.val e stOk 1 s t ∧ t.lbk.lastPose = some (cmdField e 16 8) ∧ t.peg = s.peg
        ∧ Frame ([R.LBK_INTSTAT_DISCONT, R.LBK_STATUS_POSEOK, R.LBK_INTSTAT_POSEGAP] ++ cplFlds r.val) s t))
  ∧ (∀ (r : Fin 16) (e : BitVec 512) (l : List (BitVec 384)) (s : State), AtFront r.val 8 e s → cmdClean e 24 = true → cmdParam e =
  l.length → 1 ≤ l.length → l.length ≤ 64 → l.all (fun p => !s.poseFits p) = true → s.rd R.LBK_POSEDROP_CNT + l.length ≤ 0xFFFFFFFF →
  Completes (.pose r (some l)) s (fun t =>
      Answered r.val e stOk (2 ^ 16 * l.length) s t ∧ t.rd R.LBK_POSEDROP_CNT = s.rd R.LBK_POSEDROP_CNT + l.length
        ∧ t.rd R.LBK_INTSTAT_POSEBAD = 1 ∧ t.lbk = s.lbk
        ∧ Frame ([R.LBK_POSEDROP_CNT, R.LBK_INTSTAT_POSEBAD, R.LBK_STATUS_POSEOK, R.LBK_INTSTAT_POSEGAP] ++ cplFlds r.val ++
          reportFlds) s t))
  ∧ (∀ (r : Fin 16) (e : BitVec 512) (s : State), AtFront r.val 8 e s → cmdClean e 24 = true → cmdParam e = 2 → Completes (.pose r none) s
  (fun t =>
      t.lbk = s.lbk ∧ Answered r.val e stDmaErr noRes s t ∧ Frame (R.HIF_INTSTAT_CMDERR :: cplFlds r.val ++ reportFlds) s t))

/-- R22, R112, R210, R227, R380, R381, R402, R435: an epoch commit of the wrong number is refused, one with an older epoch held waits,
  one too soon is refused, and a good one stages the next epoch's configuration and is accepted for its effective time, at which it
  becomes active; a loaded table is copied to a staged area and answers its place; a program set is proven and staged, or waits for a
  bank; a waiting set is written when a bank is free. -/
def Obligations.EpochsAndTablesFollowCommands : Prop :=
  (∀ (r : Fin 16) (e : BitVec 512) (s : State), AtFront r.val 5 e s → cmdClean e 32 = true → cmdParam e = 0 → cmdField e 17 7 = 0 →
  cmdField e 16 1 ≠ (s.peg.active + 1) % 256 → Completes (.epochCommit r) s (fun t =>
      t.peg = s.peg ∧ t.hif.accepted = s.hif.accepted ∧ Answered r.val e stState (cmdField e 16 1) s t
        ∧ Frame (R.HIF_INTSTAT_CMDERR :: cplFlds r.val ++ reportFlds) s t))
  ∧ (∀ (r : Fin 16) (e : BitVec 512) (s : State), s.frontCmd r.val 5 = some e → cmdClean e 32 = true → cmdParam e = 0 → cmdField e 17 7 =
  0 → cmdField e 16 1 = (s.peg.active + 1) % 256 → s.hif.waitCommit = none → s.hif.accepted = none → s.olderHeld = true → Completes
  (.epochCommit r) s (fun t =>
      t.hif.waitCommit = some { ring := r.val, cid := cmdCid e, epoch := cmdField e 16 1, time := cmdField e 24 8 }
        ∧ t.hif.rings = s.hif.rings ∧ t.peg = s.peg ∧ Frame [] s t))
  ∧ (∀ (r : Fin 16) (e : BitVec 512) (s : State), AtFront r.val 5 e s → cmdClean e 32 = true → cmdParam e = 0 → cmdField e 17 7 = 0 →
  cmdField e 16 1 = (s.peg.active + 1) % 256 → s.hif.waitCommit = none → s.hif.accepted = none → s.olderHeld = false → cmdField e 24 8
  < 1000000 + s.clk.devTime.toNat → Completes (.epochCommit r) s (fun t =>
      t.hif.accepted = none ∧ t.peg = s.peg ∧ Answered r.val e stTooSoon (cmdField e 16 1) s t
        ∧ Frame (R.HIF_INTSTAT_CMDERR :: cplFlds r.val ++ reportFlds) s t))
  ∧ (∀ (r : Fin 16) (e : BitVec 512) (s : State), AtFront r.val 5 e s → cmdClean e 32 = true → cmdParam e = 0 → cmdField e 17 7 = 0 →
  cmdField e 16 1 = (s.peg.active + 1) % 256 → s.hif.waitCommit = none → s.hif.accepted = none → s.olderHeld = false → 1000000 +
  s.clk.devTime.toNat ≤ cmdField e 24 8 → s.stagingCode s.nextCfg (budgetsTaken s) = 0 → Completes (.epochCommit r) s (fun t =>
      t.hif.accepted = some (cmdField e 16 1, cmdField e 24 8) ∧ (cmdField e 16 1, s.nextCfg) ∈ t.peg.epochs
        ∧ t.peg.active = s.peg.active ∧ t.jst.staged = none ∧ t.rd R.BTN_EPOCH_STAGED = cmdField e 16 1 ∧ t.rd R.BTN_EPOCH_STGVALID = 1
        ∧ Answered r.val e stOk (cmdField e 16 1) s t ∧ KeepsMemory s t))
  ∧ (∀ (w : EpochWait) (e : BitVec 512) (s : State), s.hif.waitCommit = some w → s.ringRuns w.ring = true → s.olderHeld = false →
  (s.cmdRing w.ring).fetched = [e] → s.jst.loadRing = none → w.ring < 16 → w.epoch < 256 → 1000000 + s.clk.devTime.toNat ≤ w.time →
  s.stagingCode s.nextCfg (budgetsTaken s) = 0 → Completes .epochCommitExecution s (fun t =>
      t.hif.waitCommit = none ∧ t.hif.accepted = some (w.epoch, w.time) ∧ (w.epoch, s.nextCfg) ∈ t.peg.epochs
        ∧ t.rd R.BTN_EPOCH_STAGED = w.epoch ∧ Answered w.ring e stOk w.epoch s t ∧ KeepsMemory s t))
  ∧ (∀ (n u : Nat) (s : State), s.hif.accepted = some (n, u) → n < 256 → s.boot.linked = false → Completes .epochEffective s (fun t =>
      t.peg.active = n ∧ t.hif.accepted = none ∧ t.rd R.BTN_EPOCH_ACTIVE = n ∧ t.rd R.BTN_EPOCH_STGVALID = 0
        ∧ t.rd R.JST_STATUS_ACTEPOCH = n ∧ (t.jnl.markers.getLast?.map (fun m => (m.kind, m.time))) = some (5, BitVec.ofNat 64 u)
        ∧ Frame [R.BTN_EPOCH_ACTIVE, R.BTN_EPOCH_STGVALID, R.JST_STATUS_ACTEPOCH, R.JST_SETINFO_BMAX, R.JST_SETINFO_SLOTS,
          R.JNL_STATUS_HELD] s t))
  ∧ (∀ (r : Fin 16) (e : BitVec 512) (d : List Byte) (s : State), AtFront r.val 6 e s → cmdClean e 28 = true → tableLenOk (cmdParam e)
  (cmdField e 24 4) = true → cmdField e 16 8 % 64 = 0 → (∀ i : Fin 64, s.girtSpan girtPurlin63 (s.areaAddr i.val) (cmdField e 24 4)
  true = none) → s.jst.loadRing = none → Completes (.tableLoad r (some d)) s (fun t =>
      (∃ i : Fin 64, mapGet 0 t.hif.staged (cmdParam e) = s.areaAddr i.val ∧ Answered r.val e stOk (s.areaAddr i.val / 64) s t ∧ ∀ j <
        cmdField e 24 4, t.hbmByte (s.areaAddr i.val + j) = (fitBytes (cmdField e 24 4) d).getD j 0)
        ∧ KeepsRegs (cplFlds r.val) s t ∧ KeepsFlash s t ∧ t.peg = s.peg))
  ∧ (∀ (r : Fin 16) (e : BitVec 512) (s : State), AtFront r.val 6 e s → cmdClean e 28 = true → tableLenOk (cmdParam e) (cmdField e 24 4) =
  true → cmdField e 16 8 % 64 = 0 → Completes (.tableLoad r none) s (fun t =>
      t.hif.staged = s.hif.staged ∧ Answered r.val e stDmaErr noRes s t
        ∧ Frame (R.HIF_INTSTAT_CMDERR :: cplFlds r.val ++ reportFlds) s t))
  ∧ (∀ (r : Fin 16) (e : BitVec 512) (d : List Byte) (s : State), AtFront r.val 7 e s → cmdClean e 28 = true → cmdParam e = 0 →
  s.jst.waiting = none → s.fwu.otp.progsig = false → s.rd R.FWU_CTL_PROGSIG = 0 → fieldAt (fitBytes (cmdField e 24 4) d) 0 4 ≠
  0x5A4B494D → Completes (.progLoad r (some d)) s (fun t =>
      t.rd R.JST_PROOF_CODE = (proveSet (fitBytes (cmdField e 24 4) d) (Config.proofOf (fitBytes (cmdField e 24 4) d))).1
        ∧ (t.rd R.JST_PROOF_CODE ≠ 0 → t.rd R.JST_INTSTAT_PROOFFAIL = 1 ∧ t.jst.staged = s.jst.staged ∧ Answered r.val e stProof
          t.proofWord s t)
        ∧ (t.rd R.JST_PROOF_CODE = 0 → s.bankFree = true → t.jst.staged = some (ProgSet.ofImage s.jst.nextSet s.standardImage
          (fitBytes (cmdField e 24 4) d)) ∧ t.rd R.JST_INTSTAT_SETREADY = 1 ∧ Answered r.val e stOk t.proofWord s t)
        ∧ (t.rd R.JST_PROOF_CODE = 0 → s.bankFree = false → t.jst.waiting = some (ProgSet.ofImage s.jst.nextSet s.standardImage
          (fitBytes (cmdField e 24 4) d)) ∧ t.jst.loadRing = some r.val ∧ (t.cmdRing r.val).fetched = [e])
        ∧ KeepsMemory s t))
  ∧ (∀ (r : Fin 16) (d : Option (List Byte)) (s : State), s.jst.waiting ≠ none → Completes (.progLoad r d) s (fun t =>
      t.jst = s.jst ∧ t.hif = s.hif ∧ Frame [] s t))
  ∧ (∀ (p : ProgSet) (s : State), s.jst.waiting = some p → s.bankFree = true → s.jst.loadRing = none → Completes .programBankWrite s (fun
  t =>
      t.jst.waiting = none ∧ t.jst.staged = some p ∧ t.rd R.JST_STATUS_LOADBUSY = 0 ∧ t.rd R.JST_STATUS_STGVALID = 1
        ∧ t.rd R.JST_INTSTAT_SETREADY = 1 ∧ Frame [R.JST_STATUS_LOADBUSY, R.JST_STATUS_STGVALID, R.JST_INTSTAT_SETREADY] s t))
  ∧ (∀ (p : ProgSet) (r : Nat) (e : BitVec 512) (s : State), s.jst.waiting = some p → s.bankFree = true → s.jst.loadRing = some r → r < 16
  → (s.cmdRing r).fetched = [e] → Completes .programBankWrite s (fun t =>
      t.jst.waiting = none ∧ t.jst.staged = some p ∧ t.jst.loadRing = none ∧ Answered r e stOk s.proofWord s t ∧ KeepsMemory s t))

/-- R383, R384, R392, R395: a good block opens a closed queue, at the journal's head where START is 0; a suspended queue resumes at
  NEXT, in a new generation at number 1; a filter is installed and answered by a completion; a close writes one completion per buffer
  held and then drops the queue, and answers WEDGED for a wedged one, which stays so; a queue that is not closed, or a bad block, is
  refused. -/
def Obligations.QueuesOpenAndClose : Prop :=
  (∀ (r : Fin 16) (e : BitVec 512) (b : BitVec 1024) (s : State), AtFront r.val 9 e s → cmdClean e 24 = true → cmdParam e < 4096 →
  s.qState (cmdParam e) = 0 → blockOk (blockBytes b) = true → fieldAt (blockBytes b) 28 6 = 0 → fieldAt (blockBytes b) 36 4 = 0 →
  Completes (.queueCreate r (some b)) s (fun t =>
      QueueOpen (cmdParam e) (SubQueue.ofBlock (blockBytes b) s.jnl.head (seqPrev s.jnl.head)) t ∧ Answered r.val e stOk 0 s t
        ∧ Frame ([R.HIF_QSTATE_STATE (cmdParam e), R.JNL_STATUS_REFUSING, R.JNL_INTSTAT_FULL] ++ cplFlds r.val ++ reportFlds) s t))
  ∧ (∀ (r : Fin 16) (e : BitVec 512) (b : BitVec 1024) (s : State), AtFront r.val 9 e s → cmdClean e 24 = true → cmdParam e < 4096 →
  s.qState (cmdParam e) ≠ 0 → Completes (.queueCreate r (some b)) s (fun t =>
      t.hif.queues = s.hif.queues ∧ Answered r.val e stNoQueue 0 s t ∧ Frame (R.HIF_INTSTAT_CMDERR :: cplFlds r.val ++ reportFlds) s
        t))
  ∧ (∀ (r : Fin 16) (e : BitVec 512) (b : BitVec 1024) (x : SubQueue) (s : State), AtFront r.val 10 e s → cmdClean e 36 = true → cmdField
  e 30 2 = 0 → s.queue (cmdParam e) = some x → s.qState (cmdParam e) = 2 → blockOk (blockBytes b) = true → x.best = decide (fieldAt
  (blockBytes b) 10 1 = 1) → x.filter = sliceBytes (blockBytes b) 64 32 → x.closing = none → cmdField e 32 4 = s.jnl.gen.toNat →
  cmdField e 24 6 ≠ 0 → seqLater (cmdField e 24 6) x.consumed = true → seqLater (cmdField e 24 6) x.scan = false → Completes
  (.queueResume r (some b)) s (fun t =>
      t.qState (cmdParam e) = 1
        ∧ ((t.queue (cmdParam e)).map (fun y => (y.scan, y.consumed, y.bufs.length, y.written))) = some (cmdField e 24 6, x.consumed,
          0, 0)
        ∧ Answered r.val e stOk 0 s t ∧ Frame (R.HIF_QSTATE_STATE (cmdParam e) :: cplFlds r.val) s t))
  ∧ (∀ (r : Fin 16) (e : BitVec 512) (b : BitVec 1024) (x : SubQueue) (s : State), AtFront r.val 10 e s → cmdClean e 36 = true → cmdField
  e 30 2 = 0 → s.queue (cmdParam e) = some x → s.qState (cmdParam e) = 2 → blockOk (blockBytes b) = true → x.best = decide (fieldAt
  (blockBytes b) 10 1 = 1) → x.filter = sliceBytes (blockBytes b) 64 32 → x.closing = none → cmdField e 32 4 ≠ s.jnl.gen.toNat →
  Completes (.queueResume r (some b)) s (fun t =>
      t.qState (cmdParam e) = 1 ∧ ((t.queue (cmdParam e)).map (fun y => (y.scan, y.consumed, y.owed))) = some (1, 0, 32#16)
        ∧ Answered r.val e stNewGen 0 s t
        ∧ Frame (R.HIF_QSTATE_STATE (cmdParam e) :: R.HIF_INTSTAT_CMDERR :: cplFlds r.val ++ reportFlds) s t))
  ∧ (∀ (r : Fin 16) (e : BitVec 512) (x : SubQueue) (s : State), AtFront r.val 12 e s → cmdClean e 48 = true → cmdParam e < 4096 →
  QueueOpen (cmdParam e) x s → filterOk (leBytes 32 (cmdField e 16 32)) = true → x.notes = [] → x.closing = none → x.room = true →
  Completes (.queueFilter r) s (fun t =>
      t.qState (cmdParam e) = 1
        ∧ ((t.queue (cmdParam e)).map (fun y => (y.filter, y.notes, y.written, y.bufs))) = some (leBytes 32 (cmdField e 16 32), [],
          (x.written + 1) % 2 ^ 32, x.bufs)
        ∧ Answered r.val e stOk 0 s t ∧ Frame (cplFlds r.val) s t))
  ∧ (∀ (r : Fin 16) (e : BitVec 512) (x : SubQueue) (s : State), AtFront r.val 11 e s → cmdClean e 16 = true → cmdParam e < 4096 → s.queue
  (cmdParam e) = some x → s.qState (cmdParam e) = 2 → Completes (.queueClose r) s (fun t =>
      t.queue (cmdParam e) = none ∧ t.qState (cmdParam e) = 0 ∧ Answered r.val e stOk 0 s t
        ∧ Frame (R.HIF_QSTATE_STATE (cmdParam e) :: cplFlds r.val) s t))
  ∧ (∀ (r : Fin 16) (e : BitVec 512) (s : State), AtFront r.val 11 e s → cmdClean e 16 = true → cmdParam e < 4096 → s.qState (cmdParam e)
  = 3 → Completes (.queueClose r) s (fun t =>
      t.queue (cmdParam e) = none ∧ t.qState (cmdParam e) = 3 ∧ Answered r.val e stWedged 0 s t
        ∧ Frame (R.HIF_INTSTAT_CMDERR :: cplFlds r.val ++ reportFlds) s t))
  ∧ (∀ (r : Fin 16) (e : BitVec 512) (x : SubQueue) (b : HostBuf) (s : State), AtFront r.val 11 e s → s.hif.queues = [(cmdParam e, x)] →
  s.hif.waitCommit = none → cmdClean e 16 = true → cmdParam e < 4096 → s.qState (cmdParam e) = 1 → x.closing = none → x.notes = [] →
  x.bufs = [b] → x.room = true → Completes (.queueClose r) s (fun t =>
      t.queue (cmdParam e) = none ∧ t.qState (cmdParam e) = 0 ∧ ((t.cmdRing r.val).done.head?) = some (cmdCid e, stOk, 0)
        ∧ Notified x b.id 130 0 0 0 x.scan s t ∧ KeepsMemory s t))

/-- R238, R374, R386 to R391, R396, R399: a good doorbell posts its buffers, arms the queue and takes CONSUMED, a bad one is counted;
  a head word frees completion entries and is clipped at what is written; COALNS sends the message of an armed queue; a stream channel
  serves one queue: the records of a group go to its buffer with one completion; a reliable queue that holds the release point of a
  full journal becomes best-effort, which its completion says once the queue is OPEN. -/
def Obligations.QueuesDeliverRecords : Prop :=
  (∀ (q : Fin 4096) (whole : Bool) (v hw : BitVec 64) (bufs : List (BitVec 128)) (s : State), s.barOn = true → (whole = false ∨ s.qState
  q.val ≠ 1) → Completes (.queueDoorbell q whole v bufs hw) s (fun t =>
      t.rd R.HIF_DBBAD_CNT = min (s.rd R.HIF_DBBAD_CNT + 1) 0xFFFFFFFF ∧ t.rd R.HIF_INTSTAT_DBBAD = 1 ∧ t.hif = s.hif
        ∧ Frame ([R.HIF_DBBAD_CNT, R.HIF_INTSTAT_DBBAD] ++ reportFlds) s t))
  ∧ (∀ (q : Fin 4096) (v : BitVec 64) (b : BitVec 128) (x : SubQueue) (s : State), s.barOn = true → QueueOpen q.val x s → v.toNat = x.pi +
  1 + 2 ^ 15 → x.pi < 2 ^ 15 - 1 → x.bufs.length < 2 ^ x.brLog2 → x.closing = none → x.notes = [] → x.seen = x.written → x.written < 2
  ^ 32 → Completes (.queueDoorbell q true v [b] (BitVec.ofNat 64 x.written)) s (fun t =>
      QueueOpen q.val { x with pi := x.pi + 1, bufs := x.bufs ++ [HostBuf.parse b], armed := true, sinceArm := 0 } t ∧ Frame [] s t))
  ∧ (∀ (q : Fin 4096) (hw : BitVec 64) (x : SubQueue) (s : State), s.dmaOn = true → QueueOpen q.val x s → x.notes = [] → x.closing = none
  → x.seen < 2 ^ 32 → x.seen ≤ hw.toNat → hw.toNat ≤ x.written → x.written < 2 ^ 32 → Completes (.headWordPoll q hw) s (fun t =>
      QueueOpen q.val { x with seen := hw.toNat } t ∧ Frame [] s t))
  ∧ (∀ (q : Fin 4096) (hw : BitVec 64) (x : SubQueue) (s : State), s.dmaOn = true → QueueOpen q.val x s → x.notes = [] → x.closing = none
  → x.seen ≤ x.written → x.written < hw.toNat → hw.toNat < 2 ^ 32 → Completes (.headWordPoll q hw) s (fun t =>
      QueueOpen q.val { x with seen := x.written } t ∧ t.rd R.HIF_INTSTAT_DBBAD = 1
        ∧ Frame ([R.HIF_DBBAD_CNT, R.HIF_INTSTAT_DBBAD] ++ reportFlds) s t))
  ∧ (∀ (q : Fin 4096) (x : SubQueue) (s : State), s.queue q.val = some x → x.armed = true → 0 < x.sinceArm → Completes (.interruptCoalesce
  q) s (fun t =>
      t.queue q.val = some { x with armed := false, sinceArm := 0 } ∧ Frame [] s t))
  ∧ (∀ (c : Fin 32) (q : Nat) (x : SubQueue) (b : HostBuf) (rest : List HostBuf) (y : Rec) (s : State), s.dmaOn = true → s.rd
  (R.PUR_CHCFG_RUN c.val) = 1 → s.rd (R.PUR_CHSTAT_STATE c.val) ≠ 2 → s.hif.queues = [(q, x)] → x.channel = c.val → s.qState q = 1 →
  x.room = true → x.notes = [] → x.bufs = b :: rest → b.bad = false → x.offset + 64 ≤ b.len → s.jnl.head = x.scan + 1 → x.scan < 2 ^
  48 - 1 → s.recordAt x.scan = some y → s.flt.badWords = [] → passes x.filter y = true → Completes (.subscriberDelivery c) s (fun t =>
      t.hif.queues.map (fun p => (p.1, p.2.scan, p.2.delivered, p.2.written)) = [(q, x.scan + 1, x.scan, (x.written + 1) % 2 ^ 32)]
        ∧ Sent (b.addr + x.offset) y.bytes s t
        ∧ Notified x b.id (BitVec.ofNat 16 (2 * (decide (b.len < x.offset + 64)).toNat + 256 * y.safety.toNat)) x.offset 1 y.seq
          (x.scan + 1) s t
        ∧ t.jnl = s.jnl ∧ KeepsMemory s t))
  ∧ (∀ (c : Fin 32) (s : State), s.dmaOn = true → s.rd (R.PUR_CHSTAT_STATE c.val) = 2 → s.hif.queues = [] → Completes (.subscriberDelivery
  c) s (fun t =>
      t.rd (R.PUR_CHSTAT_STATE c.val) = 3 ∧ t.rd R.PUR_INTSTAT_STOPPED = 1
        ∧ Frame [R.PUR_CHSTAT_STATE c.val, R.PUR_INTSTAT_STOPPED] s t))
  ∧ (∀ (q : Fin 4096) (x : SubQueue) (s : State), s.queue q.val = some x → s.rd R.JNL_CTL_DEMOTE = 1 → s.jnlFull = true → x.best = false →
  x.hold = s.release → x.notes = [] → (s.dmaOn = false ∨ s.qState q.val ≠ 1) → Completes (.demotion q) s (fun t =>
      t.queue q.val = some { x with best := true, passed := [], notes := [(16#16, Config.noBufid % 65536)] }
        ∧ t.rd R.JNL_DEMOTED_CNT = min (s.rd R.JNL_DEMOTED_CNT + 1) 0xFFFFFFFF ∧ t.rd R.JNL_INTSTAT_DEMOTED = 1
        ∧ Frame ([R.JNL_DEMOTED_CNT, R.JNL_INTSTAT_DEMOTED] ++ reportFlds) s t))
  ∧ (∀ (q : Fin 4096) (x : SubQueue) (s : State), QueueOpen q.val x s → s.dmaOn = true → s.rd R.JNL_CTL_DEMOTE = 1 → s.jnlFull = true →
  x.best = false → x.hold = s.release → x.notes = [] → x.closing = none → x.room = true → Completes (.demotion q) s (fun t =>
      t.qState q.val = 1
        ∧ ((t.queue q.val).map (fun y => (y.best, y.passed, y.notes, y.written))) = some (true, [], [], (x.written + 1) % 2 ^ 32)
        ∧ Notified x (Config.noBufid % 65536) 16 0 0 0 x.scan s t ∧ t.rd R.JNL_INTSTAT_DEMOTED = 1
        ∧ Frame ([R.JNL_DEMOTED_CNT, R.JNL_INTSTAT_DEMOTED, R.PUR_KIB_CNT] ++ reportFlds) s t))

/-- R263 to R266, R271, R276, R353: an enabled converter becomes ready and an over-range one is flagged; a pair's mode changes only
  while both its converters are disabled; the history source changes only while the lane's unit is disarmed, and empties the history;
  the correction bank swaps 1 us after a good request, and a filter bank at the instant chosen, after a check of the bank, neither
  before its time; what a bank held stays with the outputs before the swap. -/
def Obligations.PlaneConvertersAndBanks : Prop :=
  (∀ (i : Fin 32) (s : State), (s.rd R.WFP_ADCEN_EN).testBit i.val = true → s.rd R.WFP_ADCEN_EN < 2 ^ 32 → Completes (.converterReady i)
  s (fun t =>
      (t.rd R.WFP_ADCRDY_RDY).testBit i.val = true
        ∧ (∀ j : Fin 32, j ≠ i → (t.rd R.WFP_ADCRDY_RDY).testBit j.val = (s.rd R.WFP_ADCRDY_RDY).testBit j.val)
        ∧ Frame [R.WFP_ADCRDY_RDY] s t))
  ∧ (∀ (i : Fin 32) (s : State), (s.rd R.WFP_ADCEN_EN).testBit i.val = false → Completes (.converterReady i) s (fun t =>
      t.wfp = s.wfp ∧ Frame [] s t))
  ∧ (∀ (i : Fin 32) (s : State), Completes (.converterOverRange i) s (fun t =>
      (t.rd R.WFP_OVRSTAT_OVR).testBit i.val = true ∧ t.rd R.WFP_INTSTAT_OVR = 1
        ∧ (∀ j : Fin 32, j ≠ i → (t.rd R.WFP_OVRSTAT_OVR).testBit j.val = (s.rd R.WFP_OVRSTAT_OVR).testBit j.val)
        ∧ Frame ([R.WFP_OVRSTAT_OVR, R.WFP_INTSTAT_OVR] ++ reportFlds) s t))
  ∧ (∀ (v : Word) (s : State), s.rd R.WFP_ADCEN_EN = 0 → Completes (.wfpPaircfgWrite v) s (fun t =>
      t.rd R.WFP_PAIRCFG_IL = v.toNat % 65536 ∧ Frame [R.WFP_PAIRCFG_IL] s t))
  ∧ (∀ (v : Word) (p : Fin 16) (s : State), v.toNat.testBit p.val ≠ (s.rd R.WFP_PAIRCFG_IL).testBit p.val → (s.rd R.WFP_ADCEN_EN).testBit
  (2 * p.val) = true → Completes (.wfpPaircfgWrite v) s (fun t =>
      t.rd R.WFP_INTSTAT_BADCFG = 1 ∧ Frame ([R.WFP_INTSTAT_BADCFG] ++ reportFlds) s t))
  ∧ (∀ (l : Fin 32) (v : BitVec 2) (s : State), v ≠ 3 → s.rd (R.DOG_USTAT_ARMED l.val) = 0 → Completes (.hsrcWrite l v) s (fun t =>
      t.rd (R.WFP_LANE_HSRC l.val) = v.toNat ∧ (t.lane l.val).histFrom = s.nowLsb ∧ Frame [R.WFP_LANE_HSRC l.val] s t))
  ∧ (∀ (l : Fin 32) (v : BitVec 2) (s : State), (v = 3 ∨ s.rd (R.DOG_USTAT_ARMED l.val) = 1) → Completes (.hsrcWrite l v) s (fun t =>
      t.rd R.WFP_INTSTAT_BADCFG = 1 ∧ t.wfp = s.wfp ∧ Frame ([R.WFP_INTSTAT_BADCFG] ++ reportFlds) s t))
  ∧ (∀ (s : State), s.wfp.corSwap = none → (∀ i : Fin 32, (s.rdS (R.WFP_CORB_SKEW (32 * (!s.on R.WFP_CTL_CORBANK).toNat + i.val))).natAbs
  ≤ 500) → Completes .corswap s (fun t =>
      t.wfp.corSwap = some (s.nowLsb + 102400) ∧ t.rd R.WFP_CTL_CORSWAP = 1 ∧ Frame [R.WFP_CTL_CORSWAP] s t))
  ∧ (∀ (i : Fin 32) (s : State), s.wfp.corSwap = none → 500 < (s.rdS (R.WFP_CORB_SKEW (32 * (!s.on R.WFP_CTL_CORBANK).toNat +
  i.val))).natAbs → Completes .corswap s (fun t =>
      t.wfp = s.wfp ∧ t.rd R.WFP_INTSTAT_BADCFG = 1 ∧ Frame ([R.WFP_INTSTAT_BADCFG] ++ reportFlds) s t))
  ∧ (∀ (s : State), s.wfp.corSwap ≠ none → Completes .corswap s (fun t =>
      t.wfp = s.wfp ∧ Frame [] s t))
  ∧ (∀ (n : Nat) (s : State), s.wfp.corSwap = some n → n ≤ s.nowLsb → Completes .correctionSwapApplied s (fun t =>
      t.wfp.corSwap = none ∧ t.rd R.WFP_CTL_CORBANK = (if s.rd R.WFP_CTL_CORBANK = 0 then 1 else 0) ∧ t.rd R.WFP_CTL_CORSWAP = 0
        ∧ t.rd R.WFP_INTSTAT_SWAPDONE = 1
        ∧ t.wfp.corOlds.getLast? = some { until_ := ticksOf n, vals := s.corBank (s.on R.WFP_CTL_CORBANK).toNat }
        ∧ t.jnl.markers.length = s.jnl.markers.length + s.plb.wfDue.isSome.toNat ∧ t.plb.wfDue = none
        ∧ Frame [R.WFP_CTL_CORBANK, R.WFP_CTL_CORSWAP, R.WFP_INTSTAT_SWAPDONE] s t))
  ∧ (∀ (n : Nat) (s : State), s.wfp.corSwap = some n → s.nowLsb < n → Completes .correctionSwapApplied s (fun t =>
      t.wfp = s.wfp ∧ Frame [] s t))
  ∧ (∀ (l : Fin 32) (s : State), (s.lane l.val).fSwap = none → s.bankOk (s.spareBank l.val false) false = true → Completes (.fswap l) s
  (fun t =>
      (t.lane l.val).fSwap = some (s.swapWhen l.val) ∧ t.rd (R.WFP_SWAP_FSWAP l.val) = 1 ∧ Frame [R.WFP_SWAP_FSWAP l.val] s t))
  ∧ (∀ (l : Fin 32) (s : State), (s.lane l.val).mSwap = none → s.bankOk (s.spareBank l.val true) true = true → Completes (.mswap l) s (fun
  t =>
      (t.lane l.val).mSwap = some (s.swapWhen l.val) ∧ t.rd (R.WFP_SWAP_MSWAP l.val) = 1 ∧ Frame [R.WFP_SWAP_MSWAP l.val] s t))
  ∧ (∀ (l : Fin 32) (s : State), ((s.lane l.val).fSwap ≠ none ∨ s.bankOk (s.spareBank l.val false) false = false) → Completes (.fswap l) s
  (fun t =>
      t.wfp = s.wfp ∧ t.rd R.WFP_INTSTAT_BADCFG = 1 ∧ Frame ([R.WFP_INTSTAT_BADCFG] ++ reportFlds) s t))
  ∧ (∀ (l : Fin 32) (s : State), ((s.lane l.val).mSwap ≠ none ∨ s.bankOk (s.spareBank l.val true) true = false) → Completes (.mswap l) s
  (fun t =>
      t.wfp = s.wfp ∧ t.rd R.WFP_INTSTAT_BADCFG = 1 ∧ Frame ([R.WFP_INTSTAT_BADCFG] ++ reportFlds) s t))
  ∧ (∀ (l : Fin 32) (n : Nat) (s : State), (s.lane l.val).fSwap.bind s.swapT = some n → Completes (.filterSwapApplied l false) s (fun t =>
      (t.lane l.val).fSwap = none ∧ (t.lane l.val).phase = gridFrom 0 (bankEnd s l.val n) (s.inPeriod l.val)
        ∧ (t.lane l.val).olds.getLast?.map (·.until_) = some (bankEnd s l.val n)
        ∧ t.rd (R.WFP_SWAP_FBANK l.val) = (if s.rd (R.WFP_SWAP_FBANK l.val) = 0 then 1 else 0) ∧ t.rd (R.WFP_SWAP_FSWAP l.val) = 0
        ∧ t.rd R.WFP_INTSTAT_SWAPDONE = 1 ∧ Frame [R.WFP_SWAP_FBANK l.val, R.WFP_SWAP_FSWAP l.val, R.WFP_INTSTAT_SWAPDONE] s t))
  ∧ (∀ (l : Fin 32) (s : State), (s.lane l.val).fSwap.bind s.swapT = none → Completes (.filterSwapApplied l false) s (fun t =>
      t.wfp = s.wfp ∧ Frame [] s t))
  ∧ (∀ (l : Fin 32) (n : Nat) (s : State), (s.lane l.val).mSwap.bind s.swapT = some n → Completes (.filterSwapApplied l true) s (fun t =>
      (t.lane l.val).mSwap = none ∧ (t.lane l.val).mAt = bankEnd s l.val n
        ∧ (t.lane l.val).olds.getLast?.map (·.until_) = some (bankEnd s l.val n)
        ∧ t.rd (R.WFP_SWAP_MBANK l.val) = (if s.rd (R.WFP_SWAP_MBANK l.val) = 0 then 1 else 0) ∧ t.rd (R.WFP_SWAP_MSWAP l.val) = 0
        ∧ t.rd R.WFP_INTSTAT_SWAPDONE = 1 ∧ Frame [R.WFP_SWAP_MBANK l.val, R.WFP_SWAP_MSWAP l.val, R.WFP_INTSTAT_SWAPDONE] s t))
  ∧ (∀ (l : Fin 32) (s : State), (s.lane l.val).mSwap.bind s.swapT = none → Completes (.filterSwapApplied l true) s (fun t =>
      t.wfp = s.wfp ∧ Frame [] s t))

/-- R272, R273, R277 to R279, R281 to R284: a gate opens at a new instant, or is skipped while one is open; its close leaves peak,
  RMS, envelope and width of its samples; a unit is armed only on a ready lane with good lengths; a trigger in its mode is counted,
  skipped by the holdoff or rate, or opens a capture with a reserved entry; the capture's close completes its entry; a delivered entry
  frees its space, and the drain level follows deliveries. -/
def Obligations.DetectorsAndCaptures : Prop :=
  (∀ (l : Fin 32) (x : Int) (s : State), s.gateInstant l.val = some x → s.rd R.WFP_CTL_RUN = 1 → s.laneExists l.val = true → (s.lane
  l.val).gateLast.all (fun y => decide (y < x)) = true → (s.lane l.val).gate = none → Completes (.gateOpen l) s (fun t =>
      (t.lane l.val).gateLast = some x
        ∧ (t.lane l.val).gate = some
          { at_ := x, frame := (s.frameOfTick x).1, epoch0 := (s.frameOfTick x).2, mode := s.rd (R.WFP_GATE_GMODE l.val) }
        ∧ Frame [] s t))
  ∧ (∀ (l : Fin 32) (x : Int) (g : Gate) (s : State), s.gateInstant l.val = some x → s.rd R.WFP_CTL_RUN = 1 → s.laneExists l.val = true →
  (s.lane l.val).gateLast.all (fun y => decide (y < x)) = true → (s.lane l.val).gate = some g → Completes (.gateOpen l) s (fun t =>
      (t.lane l.val).gate = some g ∧ (t.lane l.val).gateLast = some x
        ∧ t.rd (R.WFP_DETCNT_SKIP l.val) = min (s.rd (R.WFP_DETCNT_SKIP l.val) + 1) (2 ^ (R.WFP_DETCNT_SKIP l.val).width - 1)
        ∧ Frame [R.WFP_DETCNT_SKIP l.val] s t))
  ∧ (∀ (l : Fin 32) (x : Int) (s : State), s.gateInstant l.val = some x → (s.rd R.WFP_CTL_RUN = 0 ∨ s.laneExists l.val = false ∨ (s.lane
  l.val).gateLast = some x) → Completes (.gateOpen l) s (fun t =>
      t.wfp = s.wfp ∧ Frame [] s t))
  ∧ (∀ (l : Fin 32) (codes : List (BitVec 10)) (g : Gate) (sm : List OutSample) (xs : List Int) (s : State), (s.lane l.val).gate = some g
  → sm = gateSamples s l.val g codes → xs = sm.map (fun x => x.v) → (s.rd (R.WFP_GATE_DETREC l.val) = 0 ∨ s.rd R.DOG_CTL_EN = 0) →
  Completes (.gateClose l codes) s (fun t =>
      (t.lane l.val).gate = none ∧ t.rd (R.WFP_DETPEAK_PEAK l.val) = ofIntBits 16 (xs.getD (peakIndex xs) 0)
        ∧ t.rd (R.WFP_DETPEAK_RMS l.val) = rmsOf xs
        ∧ t.rd (R.WFP_DETWID_WIDTH50 l.val) = width50 (s.stretches l.val (s.detStage l.val)) sm (xs.getD (peakIndex xs) 0).natAbs
        ∧ t.rd (R.WFP_DETWID_ENVMAX l.val) = envMax (s.rd (R.WFP_ENV_ATT l.val)) (s.rd (R.WFP_ENV_REL l.val)) xs ∧ t.dog = s.dog
        ∧ Frame ([R.WFP_DETPEAK_PEAK l.val, R.WFP_DETPEAK_RMS l.val, R.WFP_DETTIME_PEAKT l.val, R.WFP_DETWID_WIDTH50 l.val,
          R.WFP_DETWID_ENVMAX l.val, R.WFP_DETCNT_SHAPE l.val, R.WFP_INTSTAT_SHAPE] ++ reportFlds) s t))
  ∧ (∀ (l : Fin 32) (codes : List (BitVec 10)) (g : Gate) (sm : List OutSample) (xs : List Int) (s : State), (s.lane l.val).gate = some g
  → sm = gateSamples s l.val g codes → xs = sm.map (fun x => x.v) → s.rd (R.WFP_GATE_DETREC l.val) = 1 → s.rd R.DOG_CTL_EN = 1 → s.rd
  R.DOG_CTL_RINGMODE = 0 → s.ringUsed + 64 ≤ s.ringBytes → s.dog.ring.any (fun e => e.seq == s.dog.nextSeq) = false → Completes
  (.gateClose l codes) s (fun t =>
      (t.lane l.val).gate = none ∧ t.rd (R.WFP_DETPEAK_PEAK l.val) = ofIntBits 16 (xs.getD (peakIndex xs) 0)
        ∧ t.rd (R.WFP_DETPEAK_RMS l.val) = rmsOf xs
        ∧ t.rd (R.WFP_DETWID_WIDTH50 l.val) = width50 (s.stretches l.val (s.detStage l.val)) sm (xs.getD (peakIndex xs) 0).natAbs
        ∧ t.rd (R.WFP_DETWID_ENVMAX l.val) = envMax (s.rd (R.WFP_ENV_ATT l.val)) (s.rd (R.WFP_ENV_REL l.val)) xs
        ∧ (t.dog.ring.getLast?.map (fun e => (e.seq, e.offset, e.size, e.full))) = some (s.dog.nextSeq, s.dog.tail, 64, true)
        ∧ KeepsRegs ([R.WFP_DETPEAK_PEAK l.val, R.WFP_DETPEAK_RMS l.val, R.WFP_DETTIME_PEAKT l.val, R.WFP_DETWID_WIDTH50 l.val,
          R.WFP_DETWID_ENVMAX l.val, R.WFP_DETCNT_SHAPE l.val, R.WFP_INTSTAT_SHAPE] ++ ringFlds) s t))
  ∧ (∀ (u : Fin 32) (arm : BitVec 16) (armAt : Int) (before after : BitVec 16) (taken : Int) (s : State), s.rd (R.DOG_UCFG_TMODE u.val) =
  1 → s.rd (R.DOG_UCFG_SLOPE u.val) = 0 → s.edgeArms u.val arm.toInt armAt = true → armAt < taken → before.toInt < s.rdS
  (R.DOG_ULEVEL_LEVEL u.val) → s.rdS (R.DOG_ULEVEL_LEVEL u.val) ≤ after.toInt → TakesTrigger u.val (edgeInstant s u.val before after
  taken) s → Completes (.edgeTrigger u ⟨arm, armAt⟩ before ⟨after, taken⟩) s (fun t =>
      Captured u.val 0 (edgeInstant s u.val before after taken) s t ∧ (t.dogU u.val).edgeLast = some taken))
  ∧ (∀ (u : Fin 32) (arm : BitVec 16) (armAt : Int) (before after : BitVec 16) (taken : Int) (s : State), s.edgeArms u.val arm.toInt armAt
  = false → Completes (.edgeTrigger u ⟨arm, armAt⟩ before ⟨after, taken⟩) s (fun t =>
      t.dog = s.dog ∧ Frame [] s t))
  ∧ (∀ (u : Fin 32) (n : Fin 64) (tag : BitVec 9) (f : ShotSeen) (s : State), s.wfp.shots.find? (fun f => f.driver == n.val && f.tag ==
  tag.toNat) = some f → s.rd (R.DOG_UCFG_TMODE u.val) = 2 → s.rd (R.DOG_UCFG_DRV u.val) = n.val → (f.proof = true ∨ s.rd
  (R.DOG_UCFG_PROOF u.val) = 0) → TakesTrigger u.val (3 * f.lsb + s.rdS (R.DOG_USHOTOFS_OFS u.val)) s → Completes (.shotTrigger u n
  tag) s (fun t =>
      Captured u.val 1 (3 * f.lsb + s.rdS (R.DOG_USHOTOFS_OFS u.val)) s t))
  ∧ (∀ (u : Fin 32) (s : State), s.rd (R.DOG_UCFG_ARMMODE u.val) = 1 → (s.dogU u.val).caps = [] → TakesTrigger u.val (ticksOf s.nowLsb) s
  → Completes (.autoTrigger u) s (fun t =>
      Captured u.val 3 (ticksOf s.nowLsb) s t))
  ∧ (∀ (u : Fin 32) (s : State), TakesTrigger u.val (ticksOf s.nowLsb) s → Completes (.force u) s (fun t =>
      Captured u.val 4 (ticksOf s.nowLsb) s t))
  ∧ (∀ (u : Fin 32) (s : State), s.dogLive u.val = true → s.dogBusy u.val (ticksOf s.nowLsb) = true → Completes (.force u) s (fun t =>
      t.rd (R.DOG_USKIPBUSY_CNT u.val) = min (s.rd (R.DOG_USKIPBUSY_CNT u.val) + 1) 0xFFFFFFFF ∧ t.dog = s.dog
        ∧ Frame [R.DOG_USKIPBUSY_CNT u.val] s t))
  ∧ (∀ (u : Fin 32) (s : State), s.laneExists u.val = true → s.laneReady u.val = true → 64 ≤ s.uLen u.val → s.uLen u.val ≤ 65536 → s.rd
  (R.DOG_UPRE_PRE u.val) ≤ s.uLen u.val → Completes (.dogArm u) s (fun t =>
      t.rd (R.DOG_USTAT_ARMED u.val) = 1 ∧ (t.dogU u.val).everyCnt = 0 ∧ Frame [R.DOG_USTAT_ARMED u.val] s t))
  ∧ (∀ (u : Fin 32) (s : State), (s.uLen u.val < 64 ∨ 65536 < s.uLen u.val ∨ s.uLen u.val < s.rd (R.DOG_UPRE_PRE u.val) ∨ s.laneReady
  u.val = false ∨ s.laneExists u.val = false) → Completes (.dogArm u) s (fun t =>
      t.rd R.DOG_INTSTAT_BADCFG = 1 ∧ t.dog = s.dog ∧ Frame ([R.DOG_INTSTAT_BADCFG] ++ reportFlds) s t))
  ∧ (∀ (u : Fin 32) (s : State), Completes (.dogStop u) s (fun t =>
      t.rd (R.DOG_USTAT_ARMED u.val) = 0 ∧ t.dog = s.dog ∧ Frame [R.DOG_USTAT_ARMED u.val] s t))
  ∧ (∀ (u : Fin 32) (codes : List (BitVec 10)) (c : Capture) (e : DogEntry) (s : State), (s.dogU u.val).caps = [c] → s.dog.ring = [e] →
  e.seq = c.seq → 64 * e.offset + entrySize c.len ≤ s.ringBytes → s.rd (R.DOG_UCFG_ARMMODE u.val) = 2 → s.rd (R.DOG_USTAT_ARMED u.val)
  = 1 → Completes (.captureComplete u codes) s (fun t =>
      (t.dogU u.val).caps = [] ∧ t.dog.ring = [{ e with full := true }] ∧ t.rd (R.DOG_USTAT_BUSY u.val) = 0
        ∧ t.rd (R.DOG_USTAT_ARMED u.val) = 0 ∧ t.rd R.DOG_INTSTAT_DONE = 1
        ∧ t.hbmBytes (s.fwu.alloc.capture.1 + 64 * e.offset) 20 = leBytes 2 1 ++ leBytes 1 u.val ++ leBytes 1 c.trig ++ leBytes 4
          (entrySize c.len) ++ leBytes 8 c.seq ++ leBytes 4 c.frame
        ∧ (∀ a, (a < s.fwu.alloc.capture.1 + 64 * e.offset ∨ s.fwu.alloc.capture.1 + 64 * e.offset + entrySize c.len ≤ a) → t.hbmByte
          a = s.hbmByte a)
        ∧ KeepsFlash s t ∧ KeepsRegs [R.DOG_USTAT_BUSY u.val, R.DOG_USTAT_ARMED u.val, R.DOG_INTSTAT_DONE] s t))
  ∧ (∀ (e : DogEntry) (rest : List DogEntry) (s : State), s.dog.ring = e :: rest → s.rd R.DOG_CTL_RINGMODE = 0 → e.sent = true → Completes
  .drainDelivery s (fun t =>
      t.dog.ring = rest ∧ t.dog.delivered = true ∧ t.rd R.DOG_OLDEST_OFS = (rest.head?.map (·.offset)).getD s.dog.tail
        ∧ Frame ringFlds s t))
  ∧ (∀ (s : State), s.rd R.DOG_CTL_RINGMODE = 0 → s.dog.delivered = false → s.dog.ring ≠ [] → s.rd R.DOG_STATUS_DRAINLVL ≤ 3 → s.rd
  R.DOG_STATUS_FILLLVL ≤ 3 → Completes .drainLevelTick s (fun t =>
      t.rd R.DOG_STATUS_DRAINLVL = min 3 (s.rd R.DOG_STATUS_DRAINLVL + 1)
        ∧ t.rd R.DOG_STATUS_RLVL = max (s.rd R.DOG_STATUS_FILLLVL) (min 3 (s.rd R.DOG_STATUS_DRAINLVL + 1)) ∧ t.dog.delivered = false
        ∧ Frame ([R.DOG_STATUS_FILLLVL, R.DOG_STATUS_DRAINLVL, R.DOG_STATUS_RLVL, R.DOG_INTSTAT_RATE] ++ reportFlds) s t))
  ∧ (∀ (s : State), s.rd R.DOG_CTL_RINGMODE = 0 → s.dog.delivered = true → s.rd R.DOG_STATUS_DRAINLVL ≤ 3 → Completes .drainLevelTick s
  (fun t =>
      t.rd R.DOG_STATUS_DRAINLVL = s.rd R.DOG_STATUS_DRAINLVL - 1 ∧ t.dog.delivered = false
        ∧ Frame ([R.DOG_STATUS_FILLLVL, R.DOG_STATUS_DRAINLVL, R.DOG_STATUS_RLVL, R.DOG_INTSTAT_RATE] ++ reportFlds) s t))

/-- R452, R453, R456: the scrub writes back each word it corrects and counts it, and counts one it cannot correct; a row that is due
  is remapped and counted, or refused when the repair resources are spent; a management takeover exchanges the cores and tests the
  failed one, which becomes standby or stays out. -/
def Obligations.RepairsKeepTheMachineGoing : Prop :=
  (∀ (w : Nat) (s : State), s.flt.badWords = [] → 32 * w < hbmSize → s.rd R.FLT_HBMCFG_SCRUBH ≠ 0 → Completes (.patrolScrub [(w, 1)]) s
  (fun t =>
      t.wrong w = 0
        ∧ t.rd (R.FLT_HBMCOR_CNT (stackOf w)) = min (s.rd (R.FLT_HBMCOR_CNT (stackOf w)) + 1) (2 ^ (R.FLT_HBMCOR_CNT 0).width - 1)
        ∧ Frame (R.FLT_HBMCOR_CNT (stackOf w) :: R.FLT_INTSTAT_INJDONE :: reportFlds) s t))
  ∧ (∀ (w : Nat) (s : State), s.flt.badWords = [] → 32 * w < hbmSize → s.rd R.FLT_HBMCFG_SCRUBH ≠ 0 → Completes (.patrolScrub [(w, 2)]) s
  (fun t =>
      t.rd (R.FLT_HBMUNC_CNT (stackOf w)) = min (s.rd (R.FLT_HBMUNC_CNT (stackOf w)) + 1) (2 ^ (R.FLT_HBMUNC_CNT 0).width - 1)
        ∧ t.rd R.FLT_INTSTAT_UNCOR = 1 ∧ t.rd (R.FLT_HBMCOR_CNT (stackOf w)) = s.rd (R.FLT_HBMCOR_CNT (stackOf w)) ∧ KeepsMemory s t))
  ∧ (∀ (errs : List (Nat × Nat)) (s : State), s.rd R.FLT_HBMCFG_SCRUBH = 0 → Completes (.patrolScrub errs) s (fun t =>
      t.flt.badWords = s.flt.badWords ∧ Frame [] s t))
  ∧ (∀ (row w : Nat) (s : State), s.flt.rowDue.find? (fun p => p.1 == row) = some (row, w) → Completes (.hbmRowSpare row true) s (fun t =>
      t.flt.spared.contains row = true ∧ t.flt.rowDue.any (fun p => p.1 == row) = false
        ∧ t.flt.badWords = s.flt.badWords.filter (fun p => !sparedWord row p) ∧ t.rd R.FLT_INTSTAT_SPARE = 1
        ∧ t.rd (R.FLT_HBMSPARE_SPARED (stackOf w)) = min (s.rd (R.FLT_HBMSPARE_SPARED (stackOf w)) + 1) (2 ^ (R.FLT_HBMSPARE_SPARED
          0).width - 1)
        ∧ Frame (R.FLT_HBMSPARE_SPARED (stackOf w) :: R.FLT_INTSTAT_SPARE :: reportFlds) s t))
  ∧ (∀ (row w : Nat) (s : State), s.flt.rowDue.find? (fun p => p.1 == row) = some (row, w) → Completes (.hbmRowSpare row false) s (fun t =>
      t.flt.spared = s.flt.spared ∧ t.flt.badWords = s.flt.badWords ∧ t.flt.rowDue.any (fun p => p.1 == row) = false
        ∧ t.rd R.FLT_INTSTAT_SPAREOUT = 1
        ∧ t.rd (R.FLT_HBMSPARE_REFUSED (stackOf w)) = min (s.rd (R.FLT_HBMSPARE_REFUSED (stackOf w)) + 1) (2 ^ (R.FLT_HBMSPARE_REFUSED
          0).width - 1)
        ∧ Frame (R.FLT_HBMSPARE_REFUSED (stackOf w) :: R.FLT_INTSTAT_SPAREOUT :: reportFlds) s t))
  ∧ (∀ (row : Nat) (ok : Bool) (s : State), s.flt.rowDue.any (fun p => p.1 == row) = false → Completes (.hbmRowSpare row ok) s (fun t =>
      t.flt = s.flt ∧ Frame [] s t))
  ∧ (∀ (s : State), s.rd R.FLT_STATUS_MGMTSB = 1 → s.rd R.FLT_STATUS_ACTCORE < 2 → Completes .mgmtTakeover s (fun t =>
      t.rd R.FLT_STATUS_ACTCORE = 1 - s.rd R.FLT_STATUS_ACTCORE ∧ t.rd R.FLT_STATUS_MGMTSB = 0 ∧ t.rd R.FLT_INTSTAT_MGMTSW = 1
        ∧ (t.flt.coreTest.map (·.val)) = some (s.rd R.FLT_STATUS_ACTCORE) ∧ t.flt.injHeart = false
        ∧ Frame ([R.FLT_STATUS_ACTCORE, R.FLT_STATUS_MGMTSB, R.FLT_INTSTAT_MGMTSW, R.FLT_INTSTAT_INJDONE] ++ reportFlds) s t))
  ∧ (∀ (s : State), s.rd R.FLT_STATUS_MGMTSB = 0 → Completes .mgmtTakeover s (fun t =>
      t.flt.coreTest = s.flt.coreTest ∧ Frame [] s t))
  ∧ (∀ (c : Fin 2) (s : State), s.flt.coreTest = some c → Completes (.coreTest true) s (fun t =>
      t.rd R.FLT_STATUS_MGMTSB = 1 ∧ t.flt.coreTest = none ∧ t.flt.coreUp = s.flt.coreUp
        ∧ Frame (R.FLT_STATUS_MGMTSB :: reportFlds) s t))
  ∧ (∀ (c : Fin 2) (s : State), s.flt.coreTest = some c → Completes (.coreTest false) s (fun t =>
      t.rd R.FLT_STATUS_MGMTSB = 0 ∧ t.flt.coreTest = none ∧ t.flt.coreUp.getLsbD c.val = false
        ∧ Frame (R.FLT_STATUS_MGMTSB :: reportFlds) s t))

/-- R467, with R214, R455, R457 and R159: inside the key window a GO write of an injection kind leaves its fault to act, or acts at
  once; outside it the write is rejected as an RWK write; with INJLOCK, or where its target cannot fail, it is refused and injects
  nothing. -/
def Obligations.InjectionTestsTheRepairs : Prop :=
  (∀ (w : Nat) (s : State), MayInject s → s.injWord = some w → Completes .injectSymbolError s (fun t =>
      mapGet 0 t.flt.injWords w = 1 ∧ t.rd R.FLT_INJ_KIND = 1 ∧ Frame [R.FLT_INJ_KIND, R.FLT_INJ_UNIT] s t))
  ∧ (∀ (w : Nat) (s : State), MayInject s → s.injWord = some w → Completes .injectTwoSymbolError s (fun t =>
      mapGet 0 t.flt.injWords w = 2 ∧ t.rd R.FLT_INJ_KIND = 2 ∧ Frame [R.FLT_INJ_KIND, R.FLT_INJ_UNIT] s t))
  ∧ (∀ (s : State), s.rd R.TRS_STATE_KEYOPEN = 0 → Completes .injectSymbolError s (fun t =>
      t.rd R.TRS_RWKREJ_CNT = min (s.rd R.TRS_RWKREJ_CNT + 1) (2 ^ R.TRS_RWKREJ_CNT.width - 1) ∧ t.flt.injWords = s.flt.injWords
        ∧ KeepsMemory s t))
  ∧ (∀ (s : State), s.rd R.TRS_STATE_KEYOPEN = 1 → s.rd R.FLT_CTL_INJLOCK = 1 → Completes .injectTwoSymbolError s (fun t =>
      t.rd R.FLT_INTSTAT_BADCFG = 1 ∧ t.flt.injWords = s.flt.injWords ∧ Frame (R.FLT_INTSTAT_BADCFG :: reportFlds) s t))
  ∧ (∀ (unit : BitVec 11) (s : State), MayInject s → unit.toNat < 1056 → (s.engine unit.toNat).inService = true → Completes
  (.injectEngineFault unit) s (fun t =>
      t.flt.injEngines.contains unit.toNat = true ∧ t.rd R.FLT_INJ_KIND = 3 ∧ t.rd R.FLT_INJ_UNIT = unit.toNat
        ∧ Frame [R.FLT_INJ_KIND, R.FLT_INJ_UNIT] s t))
  ∧ (∀ (unit : BitVec 11) (s : State), MayInject s → unit.toNat < 32 → s.jst.subFor = none → s.jst.subAt = none → s.rd R.JST_CTL_AUTOSUB =
  1 → Completes (.injectClusterFault unit) s (fun t =>
      t.jst.clFault.contains unit.toNat = true ∧ t.jst.subAt = some (unit.toNat, s.nowLsb + 204800) ∧ t.rd R.FLT_INTSTAT_INJDONE = 1
        ∧ KeepsMemory s t))
  ∧ (∀ (unit : BitVec 11) (s : State), MayInject s → (33 ≤ unit.toNat ∨ s.jst.subFor ≠ none) → Completes (.injectClusterFault unit) s (fun
  t =>
      t.jst = s.jst ∧ t.rd R.FLT_INTSTAT_BADCFG = 1 ∧ Frame (R.FLT_INTSTAT_BADCFG :: reportFlds) s t))
  ∧ (∀ (unit : BitVec 11) (s : State), MayInject s → unit.toNat < 1024 → s.rd (R.KRF_CHSTAT_TDCFAIL unit.toNat) = 0 → s.rd
  (R.KRF_SPARE_AUTO (unit.toNat / 32)) = 0 → s.rd (R.KRF_SPSTAT_TAKEN (unit.toNat / 32)) = 0 → Completes (.injectTdcFail unit) s (fun
  t =>
      t.rd (R.KRF_CHSTAT_TDCFAIL unit.toNat) = 1 ∧ t.rd (R.KRF_CHSTAT_MASKED unit.toNat) = 1 ∧ t.rd R.FLT_INTSTAT_INJDONE = 1
        ∧ KeepsMemory s t))
  ∧ (∀ (unit : BitVec 11) (s : State), MayInject s → 1024 ≤ unit.toNat → unit.toNat < 1056 → Completes (.injectTdcFail unit) s (fun t =>
      t.rd (R.KRF_SPSTAT_SPFAIL (unit.toNat - 1024)) = 1 ∧ t.rd (R.KRF_SPARE_MODE (unit.toNat - 1024)) = 0
        ∧ t.rd (R.KRF_SPSTAT_TAKEN (unit.toNat - 1024)) = 0 ∧ t.rd R.FLT_INTSTAT_INJDONE = 1 ∧ KeepsMemory s t))
  ∧ (∀ (s : State), MayInject s → s.rd (pllLock (s.on R.CLK_STATUS_PLLSEL)) = 1 → s.rd (pllLock (!s.on R.CLK_STATUS_PLLSEL)) = 1 →
  Completes .injectPllLoss s (fun t =>
      t.on R.CLK_STATUS_PLLSEL = !s.on R.CLK_STATUS_PLLSEL ∧ t.rd R.CLK_INTSTAT_PLLFAIL = 1 ∧ t.rd R.FLT_INTSTAT_PLLSW = 1
        ∧ t.rd R.FLT_INTSTAT_INJDONE = 1
        ∧ Frame ([R.CLK_STATUS_PLLSEL, pllLock true, pllLock false, R.CLK_INTSTAT_PLLFAIL, R.FLT_INTSTAT_PLLSW, R.FLT_INTSTAT_INJDONE,
          R.FLT_INJ_KIND, R.FLT_INJ_UNIT] ++ reportFlds) s t))
  ∧ (∀ (s : State), MayInject s → s.rd R.FLT_STATUS_MGMTSB = 1 → Completes .injectHeartbeatStop s (fun t =>
      t.flt.injHeart = true ∧ Frame [R.FLT_INJ_KIND, R.FLT_INJ_UNIT] s t))
  ∧ (∀ (unit : BitVec 11) (s : State), MayInject s → unit.toNat < 16 → 2 ≤ s.rd R.HIF_STATUS_WIDTH → s.rd R.HIF_STATUS_WIDTH ≤ 16 → s.rd
  R.FLT_PCIE_LANEOUT < 2 ^ 16 → Completes (.injectLaneErrors unit) s (fun t =>
      (t.rd R.FLT_PCIE_LANEOUT).testBit unit.toNat = true ∧ t.rd R.HIF_STATUS_WIDTH < s.rd R.HIF_STATUS_WIDTH
        ∧ t.rd R.FLT_INTSTAT_LANEOUT = 1 ∧ t.rd R.FLT_INTSTAT_INJDONE = 1
        ∧ Frame ([R.FLT_PCIE_LANEOUT, R.HIF_STATUS_WIDTH, R.FLT_INTSTAT_LANEOUT, R.FLT_INTSTAT_INJDONE, R.FLT_INJ_KIND,
          R.FLT_INJ_UNIT] ++ reportFlds) s t))
  ∧ (∀ (s : State), MayInject s → Completes .injectLathError s (fun t =>
      t.flt.injLath = true ∧ Frame [R.FLT_INJ_KIND, R.FLT_INJ_UNIT] s t))
  ∧ (∀ (unit : BitVec 11) (s : State), MayInject s → unit.toNat < 16 → s.ringPairUp (partnerPair unit.toNat) = true → Completes
  (.injectRingIdle unit) s (fun t =>
      t.flt.injIdle.contains unit.toNat = true ∧ mapGet 0 t.flt.idleTill unit.toNat = s.clk.ticks + 200000000
        ∧ Frame [R.FLT_INJ_KIND, R.FLT_INJ_UNIT] s t))

/-- R350, R351, R355, R356, R358, R360, R362, R363: a command or a period starts a run of its kind when the kind is enabled and idle;
  a TDC with good counts gets its table, and one that fails or runs out of time is declared failed; an interleave run leaves new
  corrections in the inactive bank and a numbered set; a run whose last TDC is done leaves a numbered set; a converter's housekeeping
  run leaves its corrections, is rejected, or leaves nothing where its run has been ended; RZNOREF and QUIET are flagged once. -/
def Obligations.PlumbRunsCalibrations : Prop :=
  (∀ (s : State), s.rd R.PLB_CTL_CDEN = 1 → s.rd R.PLB_STATUS_CDBUSY = 0 → Completes .plbCmdCd s (fun t =>
      t.rd R.PLB_STATUS_CDBUSY = 1 ∧ t.plb.counts = [] ∧ t.plb.doneTdc = [] ∧ t.plb.cdStart = s.clk.ticks
        ∧ Frame [R.PLB_STATUS_CDBUSY] s t))
  ∧ (∀ (s : State), (s.rd R.PLB_CTL_CDEN = 0 ∨ s.rd R.PLB_STATUS_CDBUSY = 1) → Completes .plbCmdCd s (fun t =>
      t.plb = s.plb ∧ Frame [] s t))
  ∧ (∀ (s : State), s.rd R.PLB_CTL_WFEN = 1 → s.rd R.PLB_STATUS_WFBUSY = 0 → Completes .plbCmdWf s (fun t =>
      t.rd R.PLB_STATUS_WFBUSY = 1
        ∧ t.plb.tempWf = [s.rdS (R.THM_SENS_T 20), s.rdS (R.THM_SENS_T 21), s.rdS (R.THM_SENS_T 22), s.rdS (R.THM_SENS_T 23)]
        ∧ Frame [R.PLB_STATUS_WFBUSY] s t))
  ∧ (∀ (s : State), s.rd R.PLB_CTL_HKEN = 1 → s.rd R.PLB_STATUS_HKBUSY = 0 → s.rd R.SIL_STATUS_REFRDY = 1 → s.rd R.SIL_STATUS_CAL0 = 0 →
  s.rd R.SIL_STATUS_CAL1 = 0 → s.rd R.SIL_STATUS_INJ0 = 0 → Completes .plbCmdHk s (fun t =>
      t.rd R.PLB_STATUS_HKBUSY = 1 ∧ t.rd R.SIL_STATUS_CAL0 = 1 ∧ t.sil.calPend.getLsbD 1 = true ∧ t.plb.hkBad = false
        ∧ Frame [R.PLB_STATUS_HKBUSY, R.SIL_STATUS_CAL0, R.SIL_ABORTS_ABORT] s t))
  ∧ (∀ (s : State), s.cdCfg.period ≠ 0 → s.rd R.PLB_CTL_CDEN = 1 → s.rd R.PLB_STATUS_CDBUSY = 0 → Completes (.calibrationPeriod 1) s (fun
  t =>
      t.rd R.PLB_STATUS_CDBUSY = 1 ∧ Frame [R.PLB_STATUS_CDBUSY] s t))
  ∧ (∀ (k : Fin 6) (s : State), (k = 0 ∨ k = 2 ∨ k = 5) → Completes (.calibrationPeriod k) s (fun t =>
      t.plb = s.plb ∧ Frame [] s t))
  ∧ (∀ (n : Fin 1056) (s : State), s.rd R.PLB_STATUS_CDBUSY = 1 → s.plb.doneTdc.contains n.val = false → s.plb.doneTdc.length < 1055 →
  1024 * max 1 s.cdCfg.nev ≤ (mapGet [] s.plb.counts n.val).sum → tapsBad (mapGet [] s.plb.counts n.val) = false → Completes
  (.codeDensityDone n) s (fun t =>
      t.plb.doneTdc = n.val :: s.plb.doneTdc ∧ mapGet [] t.plb.newFine n.val = fineEntries (mapGet [] s.plb.counts n.val)
        ∧ t.rd (R.PLB_CDQ_DNL n.val) = min 255 (dnlOf (mapGet [] s.plb.counts n.val)) ∧ t.rd (R.PLB_CDQ_FAIL n.val) = 0
        ∧ t.rd R.PLB_STATUS_CDBUSY = 1
        ∧ Frame [R.PLB_CDQ_DNL n.val, R.PLB_CDQ_INL n.val, R.PLB_CDQ_SRC n.val, R.PLB_CDQ_FAIL n.val] s t))
  ∧ (∀ (n : Fin 1056) (s : State), s.rd R.PLB_STATUS_CDBUSY = 1 → s.plb.doneTdc.contains n.val = false → s.plb.doneTdc.length = 1055 →
  1024 * max 1 s.cdCfg.nev ≤ (mapGet [] s.plb.counts n.val).sum → tapsBad (mapGet [] s.plb.counts n.val) = false → Completes
  (.codeDensityDone n) s (fun t =>
      t.rd R.PLB_STATUS_CDBUSY = 0 ∧ t.rd R.PLB_SETCD_CD = s.plb.nextCd ∧ t.rd R.PLB_INTSTAT_CDDONE = 1
        ∧ t.plb.nextCd = setNext s.plb.nextCd
        ∧ (t.plb.waitCd.map (fun w => (w.set, w.ready, mapGet [] w.vals n.val))) = some (s.plb.nextCd, s.nowLsb, fineEntries (mapGet
          [] s.plb.counts n.val))
        ∧ Frame [R.PLB_CDQ_DNL n.val, R.PLB_CDQ_INL n.val, R.PLB_CDQ_SRC n.val, R.PLB_CDQ_FAIL n.val, R.PLB_CDWORST_DNL,
          R.PLB_CDWORST_INL, R.PLB_CDWORST_TDC, R.PLB_SETCD_CD, R.PLB_STATUS_CDBUSY, R.PLB_INTSTAT_CDDONE] s t))
  ∧ (∀ (n : Fin 1056) (s : State), s.rd R.PLB_STATUS_CDBUSY = 1 → s.plb.doneTdc.contains n.val = false → s.plb.doneTdc.length < 1055 →
  n.val < 1024 → Completes (.codeDensityTimeout n) s (fun t =>
      t.plb.doneTdc = n.val :: s.plb.doneTdc ∧ t.rd (R.PLB_CDQ_FAIL n.val) = 1 ∧ t.rd R.PLB_INTSTAT_CDFAIL = 1
        ∧ t.rd (R.KRF_CHSTAT_TDCFAIL n.val) = 1 ∧ t.krf.fine = s.krf.fine ∧ KeepsMemory s t))
  ∧ (∀ (i : Fin 32) (sum : Int) (sq : Nat) (pre post : Int) (s : State), s.rd R.PLB_STATUS_WFBUSY = 1 → s.wfp.corSwap = none → (s.rd
  R.WFP_ADCEN_EN).testBit i.val = true → Completes (.interleaveRunDone [(i, sum, sq, pre, post)]) s (fun t =>
      t.rd R.PLB_STATUS_WFBUSY = 0 ∧ t.rd R.PLB_SETAUX_WF = s.plb.nextWf % 65536 ∧ t.plb.wfDue = some s.plb.nextWf
        ∧ t.plb.nextWf = setNext s.plb.nextWf ∧ t.rd R.PLB_INTSTAT_WFDONE = 1
        ∧ t.rdS (R.WFP_CORA_OFS (32 - 32 * (s.on R.WFP_CTL_CORBANK).toNat + i.val)) = clampI (-32768) 32767 (s.rdS (R.WFP_CORA_OFS (32
          * (s.on R.WFP_CTL_CORBANK).toNat + i.val)) + divRound sum 4194304)
        ∧ KeepsMemory s t))
  ∧ (∀ (adc : Bool) (sz sr o g : Int) (s : State), s.rd (if adc then R.SIL_STATUS_CAL1 else R.SIL_STATUS_CAL0) = 1 → hkCorrection sz sr =
  some (o, g) → s.sil.calPend = 0 → s.rd (if adc then R.SIL_STATUS_CAL0 else R.SIL_STATUS_CAL1) = 0 → s.rd R.PLB_STATUS_HKBUSY = 1 →
  s.plb.hkBad = false → Completes (.calibrationRun adc sz sr) s (fun t =>
      t.rdS (R.SIL_COROFS_OFS adc.toNat) = o ∧ t.rdS (R.SIL_CORGAIN_GAIN adc.toNat) = g ∧ t.rd R.PLB_STATUS_HKBUSY = 0
        ∧ t.rd R.PLB_INTSTAT_HKDONE = 1 ∧ t.rd R.PLB_SETAUX_HK = s.plb.nextHk % 65536
        ∧ Frame [R.SIL_STATUS_CAL0, R.SIL_STATUS_CAL1, R.SIL_COROFS_OFS adc.toNat, R.SIL_CORGAIN_GAIN adc.toNat, R.PLB_STATUS_HKBUSY,
          R.PLB_SETAUX_HK, R.PLB_INTSTAT_HKDONE] s t))
  ∧ (∀ (adc : Bool) (sz sr : Int) (s : State), s.rd (if adc then R.SIL_STATUS_CAL1 else R.SIL_STATUS_CAL0) = 1 → hkCorrection sz sr = none
  → s.rd R.PLB_STATUS_HKBUSY = 1 → Completes (.calibrationRun adc sz sr) s (fun t =>
      t.plb.hkBad = true ∧ t.rd R.PLB_INTSTAT_HKREJ = 1 ∧ t.rd (R.SIL_COROFS_OFS adc.toNat) = s.rd (R.SIL_COROFS_OFS adc.toNat)
        ∧ KeepsMemory s t))
  ∧ (∀ (adc : Bool) (sz sr : Int) (s : State), s.rd (if adc then R.SIL_STATUS_CAL1 else R.SIL_STATUS_CAL0) = 1 → s.rd R.PLB_STATUS_HKBUSY
  = 0 → s.sil.calPend = 0 → Completes (.calibrationRun adc sz sr) s (fun t =>
      t.rd (if adc then R.SIL_STATUS_CAL1 else R.SIL_STATUS_CAL0) = 0 ∧ t.plb = s.plb
        ∧ Frame [if adc then R.SIL_STATUS_CAL1 else R.SIL_STATUS_CAL0] s t))
  ∧ (∀ (g : Fin 32) (s : State), s.plb.noRef.contains g.val = false → Completes (.rznoref g) s (fun t =>
      t.plb.noRef = g.val :: s.plb.noRef ∧ t.rd R.PLB_INTSTAT_RZNOREF = 1 ∧ Frame (R.PLB_INTSTAT_RZNOREF :: reportFlds) s t))
  ∧ (∀ (ch : Fin 1024) (s : State), s.rd R.PLB_CDSRC_QUIETT ≠ 0 → s.peg.scanning = true → s.rd (R.PLB_CDQ_QUIET ch.val) = 0 → s.rd
  (R.PLB_QUIET_CH (ch.val / 32)) < 2 ^ 32 → Completes (.quiet ch) s (fun t =>
      t.rd (R.PLB_CDQ_QUIET ch.val) = 1 ∧ (t.rd (R.PLB_QUIET_CH (ch.val / 32))).testBit (ch.val % 32) = true
        ∧ t.rd R.PLB_INTSTAT_QUIET = 1
        ∧ Frame (R.PLB_CDQ_QUIET ch.val :: R.PLB_QUIET_CH (ch.val / 32) :: R.PLB_INTSTAT_QUIET :: reportFlds) s t))

/-- R322, R323, R329, R332, R333, R337, R339, R340, R341, R343, R344: a tick latches every sensor, shuts the part down above the
  shutdown threshold, and counts a round that is still running; a slot's result ends its run and opens its switches, the last one ends
  the round, a wire break at its own pins reads full scale, and a slot without a ready reference reads NOREF; bank swaps, the
  reference buffer and clamps follow their commands; a failed sensor is marked; a class steps down after DWELL cool ticks. -/
def Obligations.SillConvertsAndWatchesHeat : Prop :=
  (∀ (temps : List (BitVec 12)) (pkg : BitVec 12) (s : State), s.boot.gated = true → s.rd R.THM_STATUS_HBMLOST ≤ 1 → s.thm.shut = true →
  (temps.getD 24 0).toInt ≥ 900 → ((s.sensor 24).accepts (temps.getD 24 0).toInt) = true → s.rd (R.THM_SENS_FAILED 24) = 0 → Completes
  (.roundTick temps pkg) s (fun t =>
      (∀ i : Fin 28, t.rd (R.THM_SENS_T i.val) = (temps.getD i.val 0).toNat) ∧ t.rd R.THM_PKG_T = pkg.toNat
        ∧ t.rd R.THM_STATUS_HBMLOST = 1 ∧ t.sil = s.sil ∧ KeepsMemory s t))
  ∧ (∀ (temps : List (BitVec 12)) (pkg : BitVec 12) (s : State), s.thm.shut = false → (temps.getD 3 0).toInt ≥ 920 → (s.sensor 3).accepts
  (temps.getD 3 0).toInt = true → s.rd (R.THM_SENS_FAILED 3) = 0 → Completes (.roundTick temps pkg) s (fun t =>
      t.rd R.THM_STATUS_SHUT = 1 ∧ t.rd R.THM_INTSTAT_SHUTDOWN = 1 ∧ t.boot.gated = true ∧ t.thm.shut = true ∧ KeepsMemory s t))
  ∧ (∀ (temps : List (BitVec 12)) (pkg : BitVec 12) (s : State), (s.thermalTick temps pkg).boot.gated = false → (s.thermalTick temps
  pkg).boot.inReset = false → s.sil.inRound = true → Completes (.roundTick temps pkg) s (fun t =>
      (∀ i : Fin 28, t.rd (R.THM_SENS_T i.val) = (temps.getD i.val 0).toNat)
        ∧ t.rd R.SIL_LATE_CNT = min (s.rd R.SIL_LATE_CNT + 1) (2 ^ R.SIL_LATE_CNT.width - 1) ∧ t.rd R.SIL_INTSTAT_ROUNDLATE = 1
        ∧ KeepsMemory s t))
  ∧ (∀ (s : State), max 1 (s.rd R.THM_DWELL_DWELL) ≤ s.thm.holdL → 0 < s.thm.lvlL → s.thm.lvlL ≤ 3 → s.rd R.THM_LEVELS_HLVL ≤ 3 →
  Completes (.throttleStepDown false) s (fun t =>
      t.thm.lvlL = s.thm.lvlL - 1 ∧ t.thm.holdL = 0 ∧ t.rd R.THM_LEVELS_LLVL = s.thm.lvlL - 1
        ∧ t.rd R.THM_STATUS_LEVEL = max (s.thm.lvlL - 1) (s.rd R.THM_LEVELS_HLVL)
        ∧ Frame ([R.THM_LEVELS_LLVL, R.THM_LEVELS_HLVL, R.THM_STATUS_LEVEL, R.THM_INTSTAT_THROTTLE, R.THM_INTSTAT_UNTHROT] ++
          reportFlds) s t))
  ∧ (∀ (s : State), max 1 (s.rd R.THM_DWELL_DWELL) ≤ s.thm.holdH → 0 < s.thm.lvlH → s.thm.lvlH ≤ 3 → s.rd R.THM_LEVELS_LLVL ≤ 3 →
  Completes (.throttleStepDown true) s (fun t =>
      t.thm.lvlH = s.thm.lvlH - 1 ∧ t.thm.holdH = 0 ∧ t.rd R.THM_LEVELS_HLVL = s.thm.lvlH - 1
        ∧ t.rd R.THM_STATUS_LEVEL = max (s.thm.lvlH - 1) (s.rd R.THM_LEVELS_LLVL)
        ∧ Frame ([R.THM_LEVELS_LLVL, R.THM_LEVELS_HLVL, R.THM_STATUS_LEVEL, R.THM_INTSTAT_THROTTLE, R.THM_INTSTAT_UNTHROT] ++
          reportFlds) s t))
  ∧ (∀ (i : Fin 28) (s : State), 3 ≤ (s.sensor i.val).bad → s.rd (R.THM_SENS_FAILED i.val) = 0 → Completes (.sensfail i) s (fun t =>
      t.rd (R.THM_SENS_FAILED i.val) = 1 ∧ t.rd R.THM_INTSTAT_SENSFAIL = 1
        ∧ Frame ([R.THM_SENS_FAILED i.val, R.THM_INTSTAT_SENSFAIL] ++ reportFlds) s t))
  ∧ (∀ (codes : List (BitVec 18)) (r : SlotRun) (s : State), s.sil.run0 = some r → r.waitExc = false → r.waitIlv = false → r.slot < 32 →
  s.rd (R.SIL_SCFG_ILV (s.slotIx r.slot)) = 0 → s.rd R.SIL_STATUS_REFRDY = 1 → s.sil.inRound = true → s.sil.run1 = none → s.sil.todo0
  = [] → s.sil.todo1 = [] → s.sil.results = [] → Completes (.slotResult false codes 0 false) s (fun t =>
      t.sil.run0 = none ∧ t.sil.inRound = false
        ∧ t.rd (R.SIL_RES_RESULT r.slot) = ofIntBits (R.SIL_RES_RESULT r.slot).width (convResult (firstCodes (2 ^ s.rd (R.SIL_SCFG_OS
          (s.slotIx r.slot))) codes) (s.silCor false).1 (s.silCor false).2).1
        ∧ t.rd (R.SIL_RES_NEW r.slot) = 1 ∧ t.rd R.SIL_INTSTAT_ROUNDDONE = 1 ∧ t.rd R.SIL_STATUS_BUSY0 = 0 ∧ t.sil.xp = t.closed
        ∧ KeepsMemory s t))
  ∧ (∀ (codes : List (BitVec 18)) (wb : BitVec 24) (r : SlotRun) (s : State), s.sil.run0 = some r → r.waitExc = false → r.waitIlv = false
  → r.slot < 32 → s.rd (R.SIL_SCFG_ILV (s.slotIx r.slot)) = 0 → s.rd R.SIL_STATUS_REFRDY = 1 → s.sil.inRound = true → s.sil.run1 =
  none → s.sil.todo0 = [] → s.sil.todo1 = [] → s.sil.results = [] → ownPins (some (s.rd (R.SIL_SCFG_PPIN (s.slotIx r.slot)), s.rd
  (R.SIL_SCFG_NPIN (s.slotIx r.slot)))) wb ≠ 0 → Completes (.slotResult false codes wb false) s (fun t =>
      t.rd (R.SIL_RES_RESULT r.slot) = ofIntBits (R.SIL_RES_RESULT r.slot).width 8388607 ∧ t.rd (R.SIL_RES_WB r.slot) = 1
        ∧ t.rd R.SIL_INTSTAT_WB = 1
        ∧ t.rd R.SIL_PINWB_PIN = s.rd R.SIL_PINWB_PIN ||| (ownPins (some (s.rd (R.SIL_SCFG_PPIN (s.slotIx r.slot)), s.rd
          (R.SIL_SCFG_NPIN (s.slotIx r.slot)))) wb).toNat
        ∧ KeepsMemory s t))
  ∧ (∀ (codes : List (BitVec 18)) (wb : BitVec 24) (r : SlotRun) (s : State), s.sil.run0 = some r → r.waitExc = false → r.waitIlv = false
  → r.slot < 32 → s.rd (R.SIL_SCFG_ILV (s.slotIx r.slot)) = 0 → s.rd R.SIL_STATUS_REFRDY = 0 → s.sil.inRound = true → s.sil.run1 =
  none → s.sil.todo0 = [] → s.sil.todo1 = [] → s.sil.results = [] → Completes (.slotResult false codes wb false) s (fun t =>
      t.sil.inRound = false ∧ t.rd (R.SIL_RES_NOREF r.slot) = 1 ∧ t.rd (R.SIL_RES_NEW r.slot) = 0
        ∧ t.rd (R.SIL_RES_RESULT r.slot) = s.rd (R.SIL_RES_RESULT r.slot) ∧ KeepsMemory s t))
  ∧ (∀ (s : State), Completes .silSwap s (fun t =>
      t.sil = { s.sil with swapReq := true } ∧ t.rd R.SIL_CTL_SWAP = 1 ∧ Frame [R.SIL_CTL_SWAP] s t))
  ∧ (∀ (s : State), s.rd R.SIL_CTL_REFEN = 0 → Completes (.refenWrite true) s (fun t =>
      t.rd R.SIL_CTL_REFEN = 1 ∧ t.sil.refWait = true ∧ Frame [R.SIL_CTL_REFEN] s t))
  ∧ (∀ (s : State), s.rd R.TNN_STATUS_TLMODE = 0 → s.calPending = false → Completes (.refenWrite false) s (fun t =>
      t.rd R.SIL_CTL_REFEN = 0 ∧ t.rd R.SIL_STATUS_REFRDY = 0 ∧ Frame [R.SIL_CTL_REFEN, R.SIL_STATUS_REFRDY] s t))
  ∧ (∀ (s : State), (s.rd R.TNN_STATUS_TLMODE = 1 ∨ s.rd R.TNN_STATUS_TLMODE = 2 ∨ s.calPending = true) → Completes (.refenWrite false) s
  (fun t =>
      t.rd R.SIL_INTSTAT_BADCFG = 1 ∧ t.sil = s.sil ∧ Frame (R.SIL_INTSTAT_BADCFG :: reportFlds) s t))
  ∧ (∀ (s : State), s.rd R.SIL_CTL_REFEN = 1 → s.sil.refWait = true → s.sil.calPend = 0 → Completes .refrdy s (fun t =>
      t.rd R.SIL_STATUS_REFRDY = 1 ∧ t.rd R.SIL_INTSTAT_REFRDY = 1 ∧ t.sil.refWait = false
        ∧ Frame [R.SIL_STATUS_REFRDY, R.SIL_INTSTAT_REFRDY] s t))
  ∧ (∀ (s : State), s.rd R.SIL_STATUS_REFRDY = 1 → Completes .refloss s (fun t =>
      t.rd R.SIL_STATUS_REFRDY = 0 ∧ t.rd R.SIL_INTSTAT_REFLOSS = 1
        ∧ Frame (R.SIL_STATUS_REFRDY :: R.SIL_INTSTAT_REFLOSS :: reportFlds) s t))
  ∧ (∀ (p : Fin 24) (s : State), s.rd R.SIL_PINCLAMP_PIN < 2 ^ 24 → Completes (.pinClamp p) s (fun t =>
      (t.rd R.SIL_PINCLAMP_PIN).testBit p.val = true ∧ t.rd R.SIL_INTSTAT_CLAMP = 1
        ∧ ((SlotRun.live s.sil.run0).isSome → (t.sil.run0.map (fun r => r.clamp.getLsbD p.val)) = some true)
        ∧ Frame (R.SIL_PINCLAMP_PIN :: R.SIL_INTSTAT_CLAMP :: reportFlds) s t))

/-- R364, R409 to R411, R421, R422: a receiver that locks with a kept result carries traffic; one that loses lock is down, and its
  loss and its bad characters are counted; a receiver that sees only inverted commas inverts itself; training takes a pair out of
  traffic and brings it up only with no error and a sufficient figure of merit, else it is to be repeated and the kept result is gone;
  a background step is kept only if the figure does not fall; a figure below FOMMIN, the command and the period make adaptation due
  while it is enabled; an injection mode is set only where the pair allows it. -/
def Obligations.LanesTrainAndAdapt : Prop :=
  (∀ (p : Fin 20) (s : State), p.val < 16 → s.rd (R.DWL_PSTAT_TRAINING p.val) = 0 → s.dwl.trained.any (fun t => t.1 == p.val) = true →
  s.pairUp p.val = false → s.rd R.PLB_STATUS_LANEBUSY = 0 → Completes (.receiverLock p) s (fun t =>
      t.rd (R.DWL_PSTAT_LOCK p.val) = 1 ∧ (t.rd R.DWL_STATUS_UP).testBit p.val = true ∧ t.ringPairUp p.val = true
        ∧ t.rd R.DWL_INTSTAT_LANEUP = 1 ∧ KeepsMemory s t))
  ∧ (∀ (p : Fin 20) (bad : Nat) (s : State), s.rd (R.DWL_PSTAT_LOCK p.val) = 1 → Completes (.lockLoss ⟨p, bad⟩) s (fun t =>
      t.rd (R.DWL_PSTAT_LOCK p.val) = 0 ∧ (t.rd R.DWL_STATUS_UP).testBit p.val = false ∧ t.rd R.DWL_INTSTAT_LANEDOWN = 1
        ∧ (p.val < 16 → t.rd (R.BTN_RERR_LOCKLOSS (p.val / 2)) = min (s.rd (R.BTN_RERR_LOCKLOSS (p.val / 2)) + 1) (2 ^
          (R.BTN_RERR_LOCKLOSS 0).width - 1))
        ∧ t.rd (R.DWL_PRXERR_CODE p.val) = min (s.rd (R.DWL_PRXERR_CODE p.val) + bad) (2 ^ (R.DWL_PRXERR_CODE 0).width - 1)
        ∧ KeepsMemory s t))
  ∧ (∀ (p : Fin 20) (s : State), Completes (.autopol p) s (fun t =>
      t.rd (R.DWL_PSTAT_AUTOPOL p.val) = 1 ∧ Frame [R.DWL_PSTAT_AUTOPOL p.val] s t))
  ∧ (∀ (p : Fin 20) (tries : List (Nat × BitVec 8)) (c f : Nat) (s : State), s.rd (R.DWL_PSTAT_TRAINING p.val) = 1 → p.val < 16 → bestCtle
  tries = some (c, 0, f) → s.rd R.DWL_ADCFG_FOMMIN ≤ f → s.rd R.PLB_STATUS_LANEBUSY = 0 → s.pairUp p.val = false → Completes
  (.trainingComplete p tries) s (fun t =>
      t.rd (R.DWL_PSTAT_TRAINING p.val) = 0 ∧ t.rd (R.DWL_PSTAT_CTLE p.val) = c ∧ t.rd (R.DWL_PSTAT_FOM p.val) = f
        ∧ (t.rd R.DWL_STATUS_UP).testBit p.val = true ∧ t.rd (R.DWL_PCFG_TRAIN p.val) = 0 ∧ t.rd (R.DWL_PSTAT_BER p.val) = 0
        ∧ (t.dwl.trained.head?.map (fun x => (x.1, x.2.ctle, x.2.fom))) = some (p.val, c, f) ∧ t.rd R.DWL_INTSTAT_LANEUP = 1
        ∧ KeepsMemory s t))
  ∧ (∀ (p : Fin 20) (tries : List (Nat × BitVec 8)) (c e f : Nat) (s : State), s.rd (R.DWL_PSTAT_TRAINING p.val) = 1 → p.val < 16 →
  bestCtle tries = some (c, e, f) → (0 < e ∨ f < s.rd R.DWL_ADCFG_FOMMIN) → s.rd R.PLB_STATUS_LANEBUSY = 0 → Completes
  (.trainingComplete p tries) s (fun t =>
      t.rd (R.DWL_PSTAT_TRAINING p.val) = 0 ∧ (t.rd R.DWL_STATUS_UP).testBit p.val = false ∧ t.dwl.wantTrain.contains p.val = true
        ∧ t.dwl.trained.any (fun q => q.1 == p.val) = false ∧ t.rd R.DWL_INTSTAT_LANEDOWN = 1 ∧ KeepsMemory s t))
  ∧ (∀ (p : Fin 20) (s : State), s.dwl.wantTrain.contains p.val = true → s.rd (R.DWL_PSTAT_TRAINING p.val) = 0 → Completes (.trainingRetry
  p) s (fun t =>
      t.rd (R.DWL_PSTAT_TRAINING p.val) = 1 ∧ (t.rd R.DWL_STATUS_UP).testBit p.val = false ∧ t.dwl.wantTrain.contains p.val = false
        ∧ KeepsMemory s t))
  ∧ (∀ (p : Fin 20) (s : State), Completes (.train p) s (fun t =>
      t.rd (R.DWL_PCFG_TRAIN p.val) = 1 ∧ t.rd (R.DWL_PSTAT_TRAINING p.val) = 1 ∧ (t.rd R.DWL_STATUS_UP).testBit p.val = false
        ∧ KeepsMemory s t))
  ∧ (∀ (p : Fin 20) (fom : BitVec 8) (s : State), s.rd R.DWL_ADCFG_BGADAPT = 1 → s.pairUp p.val = true → s.rd (R.DWL_PSTAT_FOM p.val) ≤
  fom.toNat → Completes (.backgroundTrim p fom) s (fun t =>
      t.rd (R.DWL_PSTAT_FOM p.val) = fom.toNat
        ∧ t.dwl.dfe = mapSet [] s.dwl.dfe p.val (trimTaps (mapGet [] s.dwl.dfe p.val) (Config.dfeStep s.fresh))
        ∧ Frame [R.DWL_PSTAT_FOM p.val] s t))
  ∧ (∀ (p : Fin 20) (fom : BitVec 8) (s : State), fom.toNat < s.rd (R.DWL_PSTAT_FOM p.val) → Completes (.backgroundTrim p fom) s (fun t =>
      t.dwl = s.dwl ∧ Frame [] s t))
  ∧ (∀ (p : Fin 20) (s : State), s.pairUp p.val = true → s.rd R.DWL_ADCFG_FOMMIN ≠ 0 → Completes (.fomlow p) s (fun t =>
      t.rd R.DWL_INTSTAT_FOMLOW = 1 ∧ t.rd (R.DWL_PSTAT_FOM p.val) < s.rd R.DWL_ADCFG_FOMMIN
        ∧ (s.rd R.PLB_CTL_LANEEN = 1 → t.plb.adapt.contains p.val = true) ∧ KeepsMemory s t))
  ∧ (∀ (s : State), s.rd R.PLB_CTL_LANEEN = 0 → Completes .plbCmdLane s (fun t =>
      t.plb = s.plb ∧ Frame [] s t))
  ∧ (∀ (s : State), s.rd R.PLB_CTL_LANEEN = 1 → Completes .plbCmdLane s (fun t =>
      (∀ r : Fin 8, s.ringEn r.val = true → t.plb.adapt.contains (2 * r.val) = true ∧ t.plb.adapt.contains (2 * r.val + 1) = true)
        ∧ KeepsMemory s t))
  ∧ (∀ (s : State), s.rd R.PLB_CTL_LANEEN = 1 → s.rd R.PLB_LANECFG_LANEPER ≠ 0 → Completes .laneAdaptPeriod s (fun t =>
      (∀ r : Fin 8, s.ringEn r.val = true → t.plb.adapt.contains (2 * r.val) = true ∧ t.plb.adapt.contains (2 * r.val + 1) = true)
        ∧ KeepsMemory s t))
  ∧ (∀ (s : State), s.rd R.PLB_LANECFG_LANEPER = 0 → Completes .laneAdaptPeriod s (fun t =>
      t.plb = s.plb ∧ Frame [] s t))
  ∧ (∀ (p : Fin 20) (v : Word) (s : State), v.toNat / 8 % 8192 = 0 → s.ptestOk p.val (v.toNat % 8) = true → Completes (.dwlPtestWrite p v)
  s (fun t =>
      t.rd (R.DWL_PTEST_MODE p.val) = v.toNat % 8 ∧ t.rd (R.DWL_PTEST_N p.val) = v.toNat / 65536
        ∧ (v.toNat % 8 ≠ 0 → t.rd R.DWL_STATUS_TESTACT = 1)
        ∧ Frame ([R.DWL_PTEST_MODE p.val, R.DWL_PTEST_N p.val, R.DWL_STATUS_TESTACT] ++ reportFlds) s t))
  ∧ (∀ (p : Fin 20) (v : Word) (s : State), v.toNat / 8 % 8192 = 0 → s.ptestOk p.val (v.toNat % 8) = false → Completes (.dwlPtestWrite p
  v) s (fun t =>
      t.rd R.DWL_INTSTAT_BADCFG = 1 ∧ t.dwl = s.dwl ∧ Frame (R.DWL_INTSTAT_BADCFG :: reportFlds) s t))

/-- R412 to R422: a frame that passes its CRC with the LSEQ expected is accepted with an ACK and acts by its type, one that fails its
  CRC gets a NAK; HELLO and SYNC go out on a link that is up; SYNC is answered and an exchange gives an offset; an ordered set that
  fails its check is taken as IDLE; an announcement is held and fixes the next boundary, is missed, or by its length takes the unit
  off the grid; a chunk of the unit's codebook is stored; acknowledged frames are released, the others sent again, the eighth time
  ending the link; a unit not heard is no longer seen. -/
def Obligations.TieLinksCarryFrames : Prop :=
  (∀ (s : State), s.tied = true → (∀ k : Fin 4, (s.link k.val).queue = [] ∧ (s.link k.val).out.length < 64) → Completes .helloSend s
  (fun t =>
      t.dwl.oseq = (s.dwl.oseq + 1) % 65536
        ∧ (∀ k : Fin 4, (s.link k.val).up = true → (t.link k.val).txSeq = ((s.link k.val).txSeq + 1) % 65536 ∧ ((t.link
          k.val).out.getLast?.map (fun o => (o.frame.typ, o.frame.lseq))) = some (1, (s.link k.val).txSeq))
        ∧ (∀ k : Fin 4, (s.link k.val).up = false → t.link k.val = s.link k.val) ∧ Frame ((List.range 20).map R.DWL_PINJ_CNT) s t))
  ∧ (∀ (k : Fin 4) (t1 : BitVec 53) (s : State), (s.link k.val).up = true → s.tied = true → Completes (.syncSend [(k, t1)]) s (fun t =>
      (t.link k.val).syncN = ((s.link k.val).syncN + 1) % 256 ∧ (t.link k.val).syncTx.head? = some ((s.link k.val).syncN, t1.toNat)
        ∧ Emit.tieSync k.val (s.link k.val).syncN ∈ t.out ∧ Frame [] s t))
  ∧ (∀ (k : Fin 4) (bs : TieBytes) (f : TieFrame) (s : State), Accepts k.val bs.bytes f s → f.typ = 1 → fieldAt f.payload 0 1 ≠ s.rd
  R.DWL_TIECFG_INDEX → Completes (.hello k bs) s (fun t =>
      (t.link k.val).nbrIndex = some (fieldAt f.payload 0 1) ∧ (t.link k.val).nbrHops = fieldAt f.payload 1 1
        ∧ (t.link k.val).nbrPer = fieldAt f.payload 10 4 ∧ LinkAccepted k.val f s t))
  ∧ (∀ (k : Fin 4) (bs : TieBytes) (s : State), (s.link k.val).up = true → tieParse bs.bytes = none → (s.link k.val).naked = none →
  Completes (.hello k bs) s (fun t =>
      t.rd (R.DWL_PRXERR_CRC (16 + k.val)) = min (s.rd (R.DWL_PRXERR_CRC (16 + k.val)) + 1) (2 ^ (R.DWL_PRXERR_CRC 0).width - 1)
        ∧ Emit.tieNak k.val (((s.link k.val).rxSeq + 65535) % 65536) ∈ t.out ∧ (t.link k.val).rxSeq = (s.link k.val).rxSeq
        ∧ Frame [R.DWL_PRXERR_CRC (16 + k.val)] s t))
  ∧ (∀ (k : Fin 4) (n inv : BitVec 8) (t4 : BitVec 53) (s : State), (s.link k.val).up = true → inv = ~~~n → s.tied = true → (s.link
  k.val).queue = [] → (s.link k.val).out.length < 64 → Completes (.sync k ⟨n, inv⟩ t4) s (fun t =>
      (t.link k.val).syncRx = some (n.toNat, t4.toNat)
        ∧ ((t.link k.val).out.getLast?.map (fun o => (o.frame.typ, fieldAt o.frame.payload 8 1, fieldAt o.frame.payload 9 7))) = some
          (2, n.toNat, t4.toNat)
        ∧ Frame [R.DWL_PINJ_CNT (16 + k.val)] s t))
  ∧ (∀ (k : Fin 4) (n inv : BitVec 8) (t4 : BitVec 53) (s : State), inv ≠ ~~~n → Completes (.sync k ⟨n, inv⟩ t4) s (fun t =>
      t.dwl = s.dwl ∧ Frame [] s t))
  ∧ (∀ (k : Fin 4) (seq : BitVec 16) (chk : BitVec 8) (s : State), ackGood false seq chk = false → Completes (.ack k ⟨seq, chk⟩) s (fun t
  =>
      t.dwl = s.dwl ∧ Frame [] s t))
  ∧ (∀ (k : Fin 4) (seq : BitVec 16) (chk : BitVec 8) (s : State), ackGood true seq chk = false → Completes (.nak k ⟨seq, chk⟩) s (fun t =>
      t.dwl = s.dwl ∧ Frame [] s t))
  ∧ (∀ (k : Fin 4) (bs : TieBytes) (f : TieFrame) (t1 t4 : Nat) (s : State), Accepts k.val bs.bytes f s → f.typ = 2 → (s.link
  k.val).syncTx.find? (fun q => q.1 == fieldAt f.payload 8 1) = some (fieldAt f.payload 8 1, t1) → (s.link k.val).syncRx = some
  (fieldAt f.payload 0 1, t4) → Completes (.syncdata k bs) s (fun t =>
      (t.link k.val).fit.head? = some (t4, exchangeTheta t1 (fieldAt f.payload 9 7) (fieldAt f.payload 1 7) t4)
        ∧ (t.link k.val).nbrTheta = tieSigned 61 (toSigned 64 (fieldAt f.payload 16 8)) ∧ LinkAccepted k.val f s t))
  ∧ (∀ (k : Fin 4) (bs : TieBytes) (f : TieFrame) (s : State), Accepts k.val bs.bytes f s → f.typ = 3 → s.rd R.DWL_TIECFG_INDEX ≠ 0 →
  Completes (.frameann k bs) s (fun t =>
      t.announcedAt (fieldAt f.payload 0 4) = some (fieldAt f.payload 4 7 % 2 ^ 53) ∧ LinkAccepted k.val f s t))
  ∧ (∀ (k : Fin 4) (bs : TieBytes) (f : TieFrame) (s : State), Accepts k.val bs.bytes f s → f.typ = 4 → s.rd R.DWL_TIECFG_INDEX ≠ 0 →
  fieldAt f.payload 8 1 = s.rd R.DWL_TIECFG_INDEX → fieldAt f.payload 9 1 < 17 → Completes (.codebook k bs) s (fun t =>
      (∃ c ∈ t.peg.codebooks, c.gen = fieldAt f.payload 0 4 ∧ c.first = fieldAt f.payload 4 4 ∧ mapGet [] c.chunks (fieldAt f.payload
        9 1) = sliceBytes f.payload 12 (chunkBytes (fieldAt f.payload 9 1)))
        ∧ LinkAccepted k.val f s t))
  ∧ (∀ (f tm : Nat) (s : State), s.tieLocked = true → s.peg.clockOn = true → s.rd R.DWL_TIESTAT_ALIGNED = 1 → f = (s.rd R.PEG_FRAMENUM_NUM
  + 1 + (2 ^ 32 - s.rd R.DWL_TIEFROFS_OFS)) % 2 ^ 32 → s.announcedAt f = some tm → s.announcedLen f = none → (s.nowLsb : Int) <
  s.rootOf (s.ownBoundary tm) → Completes .boundaryFix s (fun t =>
      t.dwl.nextBound = some (f, (s.rootOf (s.ownBoundary tm)).toNat)
        ∧ t.peg.period = ((s.rootOf (s.ownBoundary tm)).toNat - s.peg.epochLsb) / 512 ∧ Frame [] s t))
  ∧ (∀ (f tm n : Nat) (s : State), s.tieLocked = true → s.peg.clockOn = true → s.rd R.DWL_TIESTAT_ALIGNED = 1 → f = (s.rd
  R.PEG_FRAMENUM_NUM + 1 + (2 ^ 32 - s.rd R.DWL_TIEFROFS_OFS)) % 2 ^ 32 → s.announcedAt f = some tm → s.announcedLen f = some n →
  s.lengthOff n = true → Completes .boundaryFix s (fun t =>
      t.rd R.DWL_INTSTAT_TIEPERIOD = 1 ∧ t.rd R.DWL_TIESTAT_ALIGNED = 0 ∧ t.peg = s.peg
        ∧ Frame ([R.DWL_INTSTAT_TIEPERIOD, R.DWL_TIESTAT_ALIGNED] ++ reportFlds) s t))
  ∧ (∀ (f : Nat) (s : State), s.tieLocked = true → s.peg.clockOn = true → s.rd R.DWL_TIESTAT_ALIGNED = 1 → f = (s.rd R.PEG_FRAMENUM_NUM +
  1 + (2 ^ 32 - s.rd R.DWL_TIEFROFS_OFS)) % 2 ^ 32 → s.announcedAt f = none → Completes .boundaryFix s (fun t =>
      t.rd R.DWL_INTSTAT_TIEFRLATE = 1 ∧ t.peg = s.peg ∧ Frame (R.DWL_INTSTAT_TIEFRLATE :: reportFlds) s t))
  ∧ (∀ (k : Fin 4) (seq : BitVec 16) (chk : BitVec 8) (s : State), (s.link k.val).up = true → (s.link k.val).queue = [] → ackGood false
  seq chk = true → Completes (.ack k ⟨seq, chk⟩) s (fun t =>
      (t.link k.val).out = ackOut seq.toNat (s.link k.val).out ∧ (t.link k.val).queue = [] ∧ Frame [] s t))
  ∧ (∀ (k : Fin 4) (seq : BitVec 16) (chk : BitVec 8) (s : State), (s.link k.val).up = true → (s.link k.val).queue = [] → ackGood true seq
  chk = true → (∀ o ∈ (s.link k.val).out, o.sent < 7) → Completes (.nak k ⟨seq, chk⟩) s (fun t =>
      (t.link k.val).out = (ackOut seq.toNat (s.link k.val).out).map (fun o => { o with sent := o.sent + 1 })
        ∧ t.rd (R.DWL_PTIEERR_RETRY (16 + k.val)) = min (s.rd (R.DWL_PTIEERR_RETRY (16 + k.val)) + (ackOut seq.toNat (s.link
          k.val).out).length) (2 ^ (R.DWL_PTIEERR_RETRY 0).width - 1)
        ∧ Frame [R.DWL_PTIEERR_RETRY (16 + k.val)] s t))
  ∧ (∀ (k : Fin 4) (s : State), (s.link k.val).up = true → (s.link k.val).out ≠ [] → (∀ o ∈ (s.link k.val).out, o.sent < 7) → Completes
  (.retryTimeout k) s (fun t =>
      (t.link k.val).out = (s.link k.val).out.map (fun o => { o with sent := o.sent + 1 })
        ∧ (∀ o ∈ (s.link k.val).out, Emit.tie k.val o.frame ∈ t.out) ∧ Frame [R.DWL_PTIEERR_RETRY (16 + k.val)] s t))
  ∧ (∀ (k : Fin 4) (o : OutFrame) (s : State), (s.link k.val).up = true → (s.link k.val).out = [o] → 7 ≤ o.sent → Completes (.retryTimeout
  k) s (fun t =>
      (t.link k.val).up = false ∧ (t.rd R.DWL_STATUS_UP).testBit (16 + k.val) = false ∧ t.rd R.DWL_INTSTAT_LANEDOWN = 1
        ∧ t.rd (R.DWL_PSTAT_TRAINING (16 + k.val)) = 1 ∧ KeepsMemory s t))
  ∧ (∀ (u : Fin 8) (s : State), Completes (.tieUnitUnheard u) s (fun t =>
      (t.rd R.DWL_TIESTAT_SEEN).testBit u.val = false ∧ t.dwl = s.dwl
        ∧ Frame [R.DWL_TIESTAT_SEEN, R.DWL_TIESTAT_HOPS, R.DWL_TIESTAT_UPLINK, R.DWL_TIESTAT_FREERUN, R.DWL_TIESTAT_ALIGNED] s t))

/-- R374, R376, R398, R399, R401, R402, R446: a good doorbell of an open channel fetches descriptors in phase order; a copy to HBM
  leaves its bytes there, a copy from HBM writes them to the host, each with one completion; an error ends the descriptor with DMAERR,
  a bad one with BADDESC, and a forbidden one with ACCESS and nothing moved; RUN cleared stops the channel at once or after the
  descriptor; ABORT ends the descriptor with ABORTED. -/
def Obligations.BulkChannelsMoveBytes : Prop :=
  (∀ (slot : BitVec 12) (v : BitVec 64) (l : List (BitVec 256)) (s : State), s.barOn = true → (31 ≤ slot.toNat ∨ v.toNat / 2 ^ 17 ≠ 0) →
  Completes (.bulkDoorbell slot true v l) s (fun t =>
      t.rd R.HIF_DBBAD_CNT = min (s.rd R.HIF_DBBAD_CNT + 1) 0xFFFFFFFF ∧ t.hif = s.hif
        ∧ Frame ([R.HIF_DBBAD_CNT, R.HIF_INTSTAT_DBBAD] ++ reportFlds) s t))
  ∧ (∀ (slot : BitVec 12) (v : BitVec 64) (e : BitVec 256) (s : State), s.barOn = true → s.dmaOn = true → slot.toNat < 31 → s.rd
  (R.PUR_CHCFG_RUN (32 + slot.toNat)) = 1 → (s.bulk (32 + slot.toNat)).descs = [] → v.toNat = s.rd (R.PUR_CHSTAT_HEAD (32 +
  slot.toNat)) + 1 → v.toNat < 65536 → e.toNat / 2 ^ 168 % 2 = passBit (s.rd (R.PUR_CHSTAT_HEAD (32 + slot.toNat))) (s.rd
  (R.PUR_CHCFG_DLOG2 (32 + slot.toNat))) → Completes (.bulkDoorbell slot true v [e]) s (fun t =>
      (t.bulk (32 + slot.toNat)).descs = [Desc.parse e] ∧ (t.bulk (32 + slot.toNat)).pi = v.toNat ∧ Frame [] s t))
  ∧ (∀ (c : Fin 32) (d : Desc) (data : List Byte) (s : State), s.bulkRuns (32 + c.val) = true → s.rd (R.PUR_CHCFG_MODE (32 + c.val)) = 0 →
  (s.bulk (32 + c.val)).descs = [d] → (s.bulk (32 + c.val)).stopDue = false → d.wrongFor false = false → d.op = 1 → data.length =
  d.len → s.girtSpan girtHost d.loc d.len true = none → Completes (.descriptorComplete c .done data) s (fun t =>
      (∀ j < d.len, t.hbmByte (d.loc + j) = data.getD j 0) ∧ (∀ a, ((a < d.loc ∨ d.loc + d.len ≤ a)) → t.hbmByte a = s.hbmByte a)
        ∧ t.flash = s.flash ∧ Ended (32 + c.val) d 0 false 0 0 s t))
  ∧ (∀ (c : Fin 32) (d : Desc) (s : State), s.bulkRuns (32 + c.val) = true → s.rd (R.PUR_CHCFG_MODE (32 + c.val)) = 0 → (s.bulk (32 +
  c.val)).descs = [d] → (s.bulk (32 + c.val)).stopDue = false → d.wrongFor false = false → d.op = 0 → d.len ≠ 0 → s.flt.badWords = []
  → s.girtSpan girtHost d.loc d.len false = none → Completes (.descriptorComplete c .done []) s (fun t =>
      Sent d.host (s.viewBytes d.loc d.len) s t ∧ Ended (32 + c.val) d 0 false 0 0 s t ∧ KeepsMemory s t))
  ∧ (∀ (c : Fin 32) (d : Desc) (data : List Byte) (r : Nat) (s : State), s.bulkRuns (32 + c.val) = true → s.rd (R.PUR_CHCFG_MODE (32 +
  c.val)) = 0 → (s.bulk (32 + c.val)).descs = [d] → (s.bulk (32 + c.val)).stopDue = false → d.wrongFor false = false → d.op = 1 → 0 <
  r → r ≤ d.len → s.girtSpan girtHost d.loc d.len true = none → Completes (.descriptorComplete c (.error r) data) s (fun t =>
      Ended (32 + c.val) d 4 false r 0 s t ∧ t.rd R.PUR_INTSTAT_DESCERR = 1
        ∧ (∀ a, (a < d.loc ∨ d.loc + d.len - r ≤ a) → t.hbmByte a = s.hbmByte a)))
  ∧ (∀ (c : Fin 32) (d : Desc) (e : DescEnd) (data : List Byte) (s : State), s.bulkRuns (32 + c.val) = true → s.rd (R.PUR_CHCFG_MODE (32 +
  c.val)) = 0 → (s.bulk (32 + c.val)).descs = [d] → (s.bulk (32 + c.val)).stopDue = false → d.wrongFor false = true → Completes
  (.descriptorComplete c e data) s (fun t =>
      Ended (32 + c.val) d 5 false d.len 0 s t ∧ KeepsMemory s t))
  ∧ (∀ (c : Fin 32) (d : Desc) (e : DescEnd) (data : List Byte) (a : Nat) (s : State), s.bulkRuns (32 + c.val) = true → s.rd
  (R.PUR_CHCFG_MODE (32 + c.val)) = 0 → (s.bulk (32 + c.val)).descs = [d] → (s.bulk (32 + c.val)).stopDue = false → d.wrongFor false =
  false → s.girtSpan girtHost d.loc d.len (d.op == 1) = some a → Completes (.descriptorComplete c e data) s (fun t =>
      Ended (32 + c.val) d 3 false d.len 0 s t ∧ t.rd R.PUR_INTSTAT_ACCESS = 1 ∧ t.rd R.GRT_INTSTAT_DENY = 1 ∧ KeepsMemory s t))
  ∧ (∀ (c : Fin 32) (d : Desc) (x : DogEntry) (s : State), s.bulkRuns (32 + c.val) = true → s.rd (R.PUR_CHCFG_MODE (32 + c.val)) = 1 →
  s.rd (R.PUR_CHCFG_OWNER (32 + c.val)) = 1 → (s.bulk (32 + c.val)).descs = [d] → (s.bulk (32 + c.val)).stopDue = false → d.wrongFor
  true = false → s.nextEntry = some x → s.draining = true → s.rd R.DOG_CTL_DRAINCH = 32 + c.val → x.size ≤ d.len → Completes
  (.descriptorComplete c .done []) s (fun t =>
      Sent d.host (s.entryBytes x) s t ∧ (∀ y ∈ t.dog.ring, y.seq = x.seq → y.sent = true)
        ∧ Ended (32 + c.val) d 0 false (d.len - x.size) x.size s t ∧ KeepsMemory s t))
  ∧ (∀ (c : Fin 64) (r : Nat) (d : Desc) (s : State), s.barOn = true → 32 ≤ c.val → s.rd (R.PUR_CHCFG_OWNER c.val) = 0 → s.bulkRuns c.val
  = true → s.rd (R.PUR_CHCFG_MODE c.val) = 0 → (s.bulk c.val).descs = [d] → (s.bulk c.val).stopDue = false → d.wrongFor false = false
  → r ≤ d.len → Completes (.abort c r) s (fun t =>
      Ended c.val d 2 false r 0 s t ∧ t.rd (R.PUR_CHCFG_RUN c.val) = 0 ∧ t.rd (R.PUR_CHSTAT_STATE c.val) = 3
        ∧ t.rd R.PUR_INTSTAT_STOPPED = 1))
  ∧ (∀ (c : Fin 64) (r : Nat) (s : State), s.barOn = true → c.val < 32 → Completes (.abort c r) s (fun t =>
      t.rd R.PUR_INTSTAT_BADCFG = 1 ∧ t.hif = s.hif ∧ Frame (R.PUR_INTSTAT_BADCFG :: reportFlds) s t))
  ∧ (∀ (c : Fin 64) (s : State), s.barOn = true → c.val ≠ 63 → s.rd (R.PUR_CHCFG_RUN c.val) = 1 → Completes (.runClear c false) s (fun t =>
      t.rd (R.PUR_CHCFG_RUN c.val) = 0 ∧ t.rd (R.PUR_CHSTAT_STATE c.val) = 3 ∧ t.rd R.PUR_INTSTAT_STOPPED = 1
        ∧ Frame [R.PUR_CHCFG_RUN c.val, R.PUR_CHSTAT_STATE c.val, R.PUR_INTSTAT_STOPPED] s t))
  ∧ (∀ (c : Fin 64) (s : State), s.barOn = true → c.val ≠ 63 → 32 ≤ c.val → s.rd (R.PUR_CHCFG_RUN c.val) = 1 → Completes (.runClear c
  true) s (fun t =>
      t.rd (R.PUR_CHCFG_RUN c.val) = 0 ∧ t.rd (R.PUR_CHSTAT_STATE c.val) = 2 ∧ (t.bulk c.val).stopDue = true
        ∧ Frame [R.PUR_CHCFG_RUN c.val, R.PUR_CHSTAT_STATE c.val] s t))

/-- R54, R59, R370, R373, R391, R393, R403, R404, R457: a lost link resets the function's configuration and suspends the open queues;
  an inactive link comes up with its speed and width; configuration reads and writes are answered, with retry status before the part
  is up, and bus mastering, the power state, MSI-X and the packet sizes follow them; a wedged object is marked; a dropped packet is
  counted, and a read dropped twice fails its command; a removed lane narrows the link, or takes it down where no width leaves that
  lane out. -/
def Obligations.TheLinkGoesAndComes : Prop :=
  (∀ (s : State), s.rd R.HIF_STATUS_SPEED ≠ 0 → Completes .linkDown s (fun t =>
      t.rd R.HIF_STATUS_SPEED = 0 ∧ t.rd R.HIF_STATUS_WIDTH = 0 ∧ t.rd R.HIF_STATUS_BME = 0 ∧ t.hif.memOn = false ∧ t.hif.busOn = false
        ∧ t.hif.msixOn = false ∧ t.rd R.HIF_INTSTAT_LINKDOWN = 1
        ∧ (∀ p ∈ s.hif.queues, s.qState p.1 = 1 → p.1 < 4096 → t.qState p.1 = 2) ∧ KeepsFlash s t
        ∧ ((∀ i : Fin 31, (s.bulk (32 + i.val)).descs = []) → KeepsHbm s t)))
  ∧ (∀ (s : State), s.rd R.HIF_STATUS_SPEED = 0 → Completes .linkDown s (fun t =>
      t.hif = s.hif ∧ Frame [] s t))
  ∧ (∀ (speed width : BitVec 3) (s : State), s.boot.perstHi = true → s.boot.powered = true → s.boot.pornLow = false → s.rd
  R.HIF_STATUS_SPEED = 0 → 1 ≤ speed.toNat → speed.toNat ≤ 5 → width.toNat ≤ 4 → Completes (.linkUp speed width) s (fun t =>
      t.rd R.HIF_STATUS_SPEED = speed.toNat ∧ t.rd R.HIF_STATUS_WIDTH = 2 ^ width.toNat ∧ t.rd R.HIF_INTSTAT_LINKUP = 1
        ∧ Frame [R.HIF_STATUS_SPEED, R.HIF_STATUS_WIDTH, R.HIF_INTSTAT_LINKUP] s t))
  ∧ (∀ (s : State), s.partUp = true → Completes (.busMasterDisable false []) s (fun t =>
      t.hif = { s.hif with busOn := false } ∧ t.rd R.HIF_STATUS_BME = 0 ∧ Frame [R.HIF_STATUS_BME] s t))
  ∧ (∀ (c : Fin 32) (r : Nat) (d : Desc) (s : State), s.partUp = true → s.bulkRuns (32 + c.val) = true → s.rd (R.PUR_CHCFG_MODE (32 +
  c.val)) = 0 → (s.bulk (32 + c.val)).descs = [d] → (s.bulk (32 + c.val)).owed = [] → 0 < r → r ≤ d.len → Completes (.busMasterDisable
  true [(c, r)]) s (fun t =>
      t.hif.d3 = true ∧ t.rd R.HIF_STATUS_D3 = 1 ∧ (t.bulk (32 + c.val)).descs = []
        ∧ (t.bulk (32 + c.val)).owed = [(d.id, r, 0, d.irq)] ∧ t.rd R.PUR_INTSTAT_DESCERR = 1))
  ∧ (∀ (q : Fin 4096) (s : State), s.qState q.val = 1 → (s.queue q.val).bind (·.closing) = none → Completes (.wedge (.queue q)) s (fun t =>
      t.qState q.val = 3 ∧ t.rd R.HIF_INTSTAT_WEDGE = 1 ∧ Frame (R.HIF_QSTATE_STATE q.val :: R.HIF_INTSTAT_WEDGE :: reportFlds) s t))
  ∧ (∀ (r : Fin 16) (s : State), s.rd (R.HIF_CRCFG_EN r.val) = 1 → s.rd (R.HIF_CRSTAT_WEDGED r.val) = 0 → Completes (.wedge (.ring r)) s
  (fun t =>
      t.rd (R.HIF_CRSTAT_WEDGED r.val) = 1 ∧ t.rd R.HIF_INTSTAT_WEDGE = 1 ∧ t.hif = s.hif
        ∧ Frame (R.HIF_CRSTAT_WEDGED r.val :: R.HIF_INTSTAT_WEDGE :: reportFlds) s t))
  ∧ (∀ (c : Fin 32) (s : State), s.rd (R.PUR_CHCFG_RUN (32 + c.val)) = 1 → s.rd (R.PUR_CHSTAT_WEDGED (32 + c.val)) = 0 → Completes (.wedge
  (.channel c)) s (fun t =>
      t.rd (R.PUR_CHSTAT_WEDGED (32 + c.val)) = 1 ∧ t.rd R.HIF_INTSTAT_WEDGE = 1
        ∧ Frame (R.PUR_CHSTAT_WEDGED (32 + c.val) :: R.HIF_INTSTAT_WEDGE :: reportFlds) s t))
  ∧ (∀ (s : State), s.flt.injLath = false → Completes (.lathDrop .inboundRead) s (fun t =>
      Emit.abort ∈ t.out ∧ t.rd R.HIF_LATHDROP_CNT = min (s.rd R.HIF_LATHDROP_CNT + 1) (2 ^ R.HIF_LATHDROP_CNT.width - 1)
        ∧ t.rd R.HIF_INTSTAT_LATHDROP = 1 ∧ t.hif = s.hif ∧ Frame (R.HIF_LATHDROP_CNT :: R.HIF_INTSTAT_LATHDROP :: reportFlds) s t))
  ∧ (∀ (r : Fin 16) (e : BitVec 512) (s : State), (s.cmdRing r.val).fetched = [e] → s.ringRuns r.val = true → s.ringHeld r.val = false →
  mapGet 0 s.hif.redone r.val = cmdCid e → Completes (.lathDrop (.commandFetch r)) s (fun t =>
      ((t.cmdRing r.val).done.head?) = some (cmdCid e, stDmaErr, failRes e) ∧ (t.cmdRing r.val).fetched = []
        ∧ t.rd R.HIF_INTSTAT_LATHDROP = 1 ∧ KeepsMemory s t))
  ∧ (∀ (lane : Fin 16) (k : Nat) (s : State), s.rd R.HIF_STATUS_SPEED ≠ 0 → (s.rd R.FLT_PCIE_LANEOUT).testBit lane.val = false →
  widthWithout (putBit (s.rd R.FLT_PCIE_LANEOUT) lane.val true) (s.rd R.HIF_STATUS_WIDTH) = some k → Completes (.pcieLaneRemove lane)
  s (fun t =>
      (t.rd R.FLT_PCIE_LANEOUT).testBit lane.val = true ∧ t.rd R.HIF_STATUS_WIDTH = k ∧ t.rd R.FLT_INTSTAT_LANEOUT = 1 ∧ t.hif = s.hif
        ∧ Frame ([R.FLT_PCIE_LANEOUT, R.HIF_STATUS_WIDTH, R.FLT_INTSTAT_LANEOUT] ++ reportFlds) s t))
  ∧ (∀ (lane : Fin 16) (s : State), s.rd R.HIF_STATUS_SPEED ≠ 0 → (s.rd R.FLT_PCIE_LANEOUT).testBit lane.val = false → widthWithout
  (putBit (s.rd R.FLT_PCIE_LANEOUT) lane.val true) (s.rd R.HIF_STATUS_WIDTH) = none → Completes (.pcieLaneRemove lane) s (fun t =>
      (t.rd R.FLT_PCIE_LANEOUT).testBit lane.val = true ∧ t.rd R.HIF_STATUS_SPEED = 0 ∧ t.rd R.HIF_INTSTAT_LINKDOWN = 1))
  ∧ (∀ (c : ConfigRequest) (s : State), s.rd R.HIF_STATUS_SPEED ≠ 0 → s.partUp = false → Completes (.configurationRequest c) s (fun t =>
      Emit.cfgRetry ∈ t.out ∧ t.hif = s.hif ∧ Frame [] s t))
  ∧ (∀ (n : BitVec 10) (s : State), s.partUp = true → Completes (.configurationRequest (.read n)) s (fun t =>
      Emit.cfgData n.toNat (s.cfgRead n.toNat) ∈ t.out ∧ t.hif = s.hif ∧ Frame [] s t))
  ∧ (∀ (m : Bool) (s : State), s.partUp = true → (∀ i : Fin 31, (s.bulk (32 + i.val)).descs = []) → Completes (.configurationRequest
  (.command m false)) s (fun t =>
      t.hif = { s.hif with memOn := m, busOn := false } ∧ t.rd R.HIF_STATUS_BME = 0 ∧ Emit.cfgOk ∈ t.out ∧ Frame [R.HIF_STATUS_BME] s
        t))
  ∧ (∀ (s : State), s.partUp = true → (∀ i : Fin 31, (s.bulk (32 + i.val)).descs = []) → Completes (.configurationRequest (.power true)) s
  (fun t =>
      t.hif = { s.hif with d3 := true } ∧ t.rd R.HIF_STATUS_D3 = 1 ∧ Emit.cfgOk ∈ t.out ∧ Frame [R.HIF_STATUS_D3] s t))
  ∧ (∀ (m : Bool) (s : State), s.partUp = true → Completes (.configurationRequest (.msix true m)) s (fun t =>
      t.hif.msixOn = true ∧ t.hif.funcMask = m ∧ Emit.cfgOk ∈ t.out ∧ KeepsMemory s t))
  ∧ (∀ (payload readRequest : BitVec 3) (s : State), s.partUp = true → Completes (.configurationRequest (.control payload readRequest)) s
  (fun t =>
      t.hif = { s.hif with mps := payload, mrrs := readRequest } ∧ Emit.cfgOk ∈ t.out ∧ Frame [] s t))
  ∧ (∀ (b g : Bool) (s : State), s.partUp = true → Completes (.configurationRequest (.control2 b g)) s (fun t =>
      t.hif = { s.hif with rangeB := b, tags10 := g } ∧ Emit.cfgOk ∈ t.out ∧ Frame [] s t))

/-- R365, R440, R441, R442: a save writes the store to the copy that is not in force, under the next generation, and touches no other
  byte; SETTINGS_SAVE answers that generation, and Plumb's saves put the calibration sets in record 4. While the lock stands
  SETTINGS_SAVE is refused with STATE and Plumb's saves are held; a SETTINGS_SAVE that meets a FW_STAGE waits. R436: PROGSIG_SET sets
  PROGSIG. Log entry 97: a SETTINGS_SAVE whose flash write fails is answered BADTABLE with code 11 (DESIGN CHOICE). -/
def Obligations.SettingsAreSaved : Prop :=
  (∀ (s : State), s.rd R.FWU_STATUS_SETLOCK = 0 → s.rd R.FWU_STATUS_STAGEBUSY = 0 → Completes .plbCmdSave s (fun t =>
      Saved (putRec s.fwu.records 4 (storedFlags s.fwu.records 4) t.packCal) s t
        ∧ (∀ a, (a < savedAt s ∨ savedAt s + (savedBytes t.fwu.records s).length ≤ a) → t.flashByte a = s.flashByte a)
        ∧ t.plb = (s.storeSets).plb ∧ t.fwu.plbHeld = false ∧ KeepsRegs saveFlds s t))
  ∧ (∀ (s : State), (s.rd R.FWU_STATUS_SETLOCK = 1 ∨ s.rd R.FWU_STATUS_STAGEBUSY = 1) → Completes .plbCmdSave s (fun t =>
      t.plb = (s.storeSets).plb ∧ t.fwu.plbHeld = true ∧ t.fwu.records = s.fwu.records ∧ Frame [] s t))
  ∧ (∀ (s : State), s.rd R.PLB_LANECFG_SAVEH ≠ 0 → s.rd R.FWU_STATUS_SETLOCK = 0 → s.rd R.FWU_STATUS_STAGEBUSY = 0 → Completes .savePeriod
  s (fun t =>
      Saved (putRec s.fwu.records 4 (storedFlags s.fwu.records 4) t.packCal) s t
        ∧ (∀ a, (a < savedAt s ∨ savedAt s + (savedBytes t.fwu.records s).length ≤ a) → t.flashByte a = s.flashByte a)
        ∧ t.plb = (s.storeSets).plb ∧ t.fwu.plbHeld = false ∧ KeepsRegs saveFlds s t))
  ∧ (∀ (s : State), s.rd R.PLB_LANECFG_SAVEH = 0 → Completes .savePeriod s (fun t =>
      t.fwu = s.fwu ∧ t.plb = s.plb ∧ Frame [] s t))
  ∧ (∀ (r : Fin 16) (e : BitVec 512) (s : State), AtFront r.val 0x13 e s → cmdClean e 16 = true → cmdParam e = 0 → s.rd
  R.FWU_STATUS_SETLOCK = 0 → s.rd R.FWU_STATUS_STAGEBUSY = 0 → Completes (.settingsSave r true) s (fun t =>
      Answered r.val e stOk (savedGen s) s t ∧ Saved s.newRecords s t
        ∧ (∀ a, (a < savedAt s ∨ savedAt s + (savedBytes t.fwu.records s).length ≤ a) → t.flashByte a = s.flashByte a)
        ∧ t.fwu.records.find? (fun x => x.1 == 1) = some (1, storedFlags s.fwu.records 1, packRegs s.image1)
        ∧ t.fwu.records.filter (fun x => 7 < x.1) = s.fwu.records.filter (fun x => 7 < x.1) ∧ KeepsRegs (saveFlds ++ cplFlds r.val) s
          t))
  ∧ (∀ (r : Fin 16) (e : BitVec 512) (flashOk : Bool) (s : State), AtFront r.val 0x13 e s → cmdClean e 16 = true → cmdParam e = 0 → s.rd
  R.FWU_STATUS_SETLOCK = 1 → s.rd R.FWU_STATUS_STAGEBUSY = 0 → Completes (.settingsSave r flashOk) s (fun t =>
      Answered r.val e stState noRes s t ∧ t.fwu = s.fwu ∧ Frame (R.HIF_INTSTAT_CMDERR :: cplFlds r.val ++ reportFlds) s t))
  ∧ (∀ (r : Fin 16) (e : BitVec 512) (s : State), AtFront r.val 0x13 e s → cmdClean e 16 = true → cmdParam e = 0 → s.rd
  R.FWU_STATUS_SETLOCK = 0 → s.rd R.FWU_STATUS_STAGEBUSY = 0 → Completes (.settingsSave r false) s (fun t =>
      Answered r.val e stBadTable noRes s t ∧ t.rd R.FWU_ERR_CODE = 11 ∧ t.fwu = s.fwu
        ∧ Frame (R.FWU_ERR_CODE :: R.HIF_INTSTAT_CMDERR :: cplFlds r.val ++ reportFlds) s t))
  ∧ (∀ (r : Fin 16) (flashOk : Bool) (s : State), s.rd R.FWU_STATUS_STAGEBUSY = 1 → Completes (.settingsSave r flashOk) s (fun t =>
      t.hif.rings = s.hif.rings ∧ t.fwu = s.fwu ∧ Frame [] s t))
  ∧ (∀ (s : State), Completes .progsigSet s (fun t =>
      t.rd R.FWU_CTL_PROGSIG = 1 ∧ t.fwu = s.fwu ∧ Frame [R.FWU_CTL_PROGSIG] s t))

/-- R430: FW_STAGE checks the image and, where the checks pass, goes on with STAGEBUSY set and no answer yet; a failed check is
  answered BADTABLE with the slot and the code, and leaves the flash untouched; it is refused with STATE on a TRIAL or MIXED image and
  beside another FW_STAGE. The end of the flash write makes the slot ACTIVE in a new boot header with STATE = TRIAL and TRIES = 3, or
  leaves the header as it was with code 11. R434: FW_CONFIRM writes the header as CONFIRMED, raises the rollback counter to SVN and
  releases the settings lock; a rejection writes FAILED and starts a full reset with cause 7; a version that differs is refused with
  BADPARAM, and an image that is not on trial with STATE. -/
def Obligations.ImagesAreStagedAndConfirmed : Prop :=
  (∀ (r : Fin 16) (e : BitVec 512) (d : Option (List Byte)) (s : State), AtFront r.val 0x10 e s → (cmdClean e 28 = false ∨ cmdParam e ≠
  0 ∨ cmdField e 16 8 % 64 ≠ 0) → Completes (.fwStage r d) s (fun t =>
      Answered r.val e stBadParam noRes s t ∧ t.fwu = s.fwu ∧ Frame (R.HIF_INTSTAT_CMDERR :: cplFlds r.val ++ reportFlds) s t))
  ∧ (∀ (r : Fin 16) (e : BitVec 512) (d : Option (List Byte)) (s : State), AtFront r.val 0x10 e s → cmdClean e 28 = true → cmdParam e = 0
  → cmdField e 16 8 % 64 = 0 → (s.rd R.FWU_STATUS_IMGSTATE = 1 ∨ s.rd R.FWU_STATUS_IMGSTATE = 2 ∨ s.fwu.job ≠ none ∨ s.fwu.live ≠
  none) → Completes (.fwStage r d) s (fun t =>
      Answered r.val e stState noRes s t ∧ t.fwu = s.fwu ∧ Frame (R.HIF_INTSTAT_CMDERR :: cplFlds r.val ++ reportFlds) s t))
  ∧ (∀ (r : Fin 16) (e : BitVec 512) (s : State), AtFront r.val 0x10 e s → cmdClean e 28 = true → cmdParam e = 0 → cmdField e 16 8 % 64 =
  0 → s.rd R.FWU_STATUS_IMGSTATE = 0 → s.fwu.job = none → s.fwu.live = none → Completes (.fwStage r none) s (fun t =>
      Answered r.val e stDmaErr noRes s t ∧ t.fwu = { s.fwu with staged := none }
        ∧ Frame (R.HIF_INTSTAT_CMDERR :: cplFlds r.val ++ reportFlds) s t))
  ∧ (∀ (r : Fin 16) (e : BitVec 512) (d : List Byte) (s : State), AtFront r.val 0x10 e s → cmdClean e 28 = true → cmdParam e = 0 →
  cmdField e 16 8 % 64 = 0 → s.rd R.FWU_STATUS_IMGSTATE = 0 → s.fwu.job = none → s.fwu.live = none → d.length = cmdField e 24 4 →
  Completes (.fwStage r (some d)) s (fun t =>
      (∀ i b, s.stagedImage d = (0, some (i, b)) → t.fwu.staged = some i ∧ t.fwu.job = some
        { ring := r.val, cid := cmdCid e, slot := s.spareSlot, image := i, bytes := b } ∧ t.rd R.FWU_STATUS_STAGEBUSY = 1 ∧
        t.hif.rings = s.hif.rings ∧ Frame [R.FWU_STATUS_STAGEBUSY] s t)
        ∧ ((s.stagedImage d).2 = none → t.fwu = { s.fwu with staged := none } ∧ t.rd R.FWU_ERR_CODE = (s.stagedImage d).1 % 16 ∧ t.rd
          R.FWU_INTSTAT_IMGREJ = 1 ∧ Answered r.val e stBadTable (stageResult s.spareSlot (s.stagedImage d).1) s t ∧ Frame
          ([R.FWU_ERR_CODE, R.FWU_ERR_SLOT, R.FWU_INTSTAT_IMGREJ, R.HIF_INTSTAT_CMDERR] ++ cplFlds r.val ++ reportFlds) s t)))
  ∧ (∀ (j : StageJob) (e : BitVec 512) (flashOk : Bool) (s : State), s.fwu.job = some j → j.ring < 16 → (s.cmdRing j.ring).fetched = [e] →
  s.fwu.plbHeld = false → Completes (.fwStageDone flashOk) s (fun t =>
      (flashOk = true → Answered j.ring e stOk (stageResult j.slot 0) s t ∧ KeepsRegs ([R.FWU_STATUS_STAGEBUSY, R.FWU_STATUS_TRIES,
        R.FWU_ALTVER_VER, R.FWU_INTSTAT_STAGED] ++ cplFlds j.ring) s t)
        ∧ (flashOk = false → Answered j.ring e stBadTable (stageResult j.slot 11) s t ∧ KeepsRegs ([R.FWU_STATUS_STAGEBUSY,
          R.FWU_ERR_CODE, R.FWU_ERR_SLOT, R.HIF_INTSTAT_CMDERR] ++ cplFlds j.ring ++ reportFlds) s t)))
  ∧ (∀ (j : StageJob) (s : State), s.fwu.job = some j → (s.rd R.FWU_STATUS_SETLOCK = 1 ∨ s.fwu.plbHeld = false) → Completes (.fwStageDone
  true) s (fun t =>
      t.fwu.job = none ∧ t.rd R.FWU_STATUS_STAGEBUSY = 0 ∧ t.rd R.FWU_INTSTAT_STAGED = 1
        ∧ t.flash = ((s.flashStore (slotBase j.slot) j.bytes).putHead
          { hseq := 0, active := j.slot, state := 1, tries := 3, verAct := imgVersion j.image.header, verOth := match s.fwu.running with | some i => imgVersion i.header | none => 0 }).flash
        ∧ t.fwu.staged = s.fwu.staged ∧ t.hbm = s.hbm))
  ∧ (∀ (j : StageJob) (s : State), s.fwu.job = some j → (s.rd R.FWU_STATUS_SETLOCK = 1 ∨ s.fwu.plbHeld = false) → Completes (.fwStageDone
  false) s (fun t =>
      t.fwu.job = none ∧ t.rd R.FWU_STATUS_STAGEBUSY = 0 ∧ t.rd R.FWU_ERR_CODE = 11
        ∧ (∀ a, (a < slotBase j.slot ∨ slotBase j.slot + j.bytes.length ≤ a) → t.flashByte a = s.flashByte a) ∧ t.hbm = s.hbm))
  ∧ (∀ (flashOk : Bool) (s : State), s.fwu.job = none → Completes (.fwStageDone flashOk) s (fun t =>
      t.fwu = s.fwu ∧ Frame [] s t))
  ∧ (∀ (r : Fin 16) (e : BitVec 512) (i : Image) (c : Bool) (h : BootHead) (s : State), AtFront r.val 0x11 e s → cmdClean e 20 = true →
  cmdParam e = 0 → s.fwu.running = some i → s.bootHead = some (c, h) → s.rd R.FWU_STATUS_IMGSTATE = 1 → cmdField e 16 4 = imgVersion
  i.header → s.fwu.plbHeld = false → Completes (.fwConfirm r) s (fun t =>
      Answered r.val e stOk noRes s t ∧ t.rd R.FWU_STATUS_IMGSTATE = 0 ∧ t.rd R.FWU_STATUS_OTPPEND = 0
        ∧ t.rd R.FWU_INTSTAT_CONFIRMED = 1 ∧ t.fwu.otp.rollback = max s.fwu.otp.rollback (imgSvn i.header)
        ∧ t.fwu.otp.revoked = s.fwu.otp.revoked ||| (BitVec.ofNat 4 (imgRevoke i.header) &&& ~~~BitVec.ofNat 4 (2 ^ (imgKey i.header %
          4)))
        ∧ (s.fwu.parsed = false → t.flash = (s.putHead
          { h with state := 0, verOth := if s.slotSvn (!h.active) < imgSvn i.header then 0 else h.verOth }).flash)
        ∧ (s.fwu.parsed = true → t.rd R.FWU_INTSTAT_SAVED = 1) ∧ t.rd R.FWU_STATUS_SETLOCK = (if s.fwu.parsed then 0 else 1)
        ∧ t.boot = s.boot ∧ t.hbm = s.hbm))
  ∧ (∀ (r : Fin 16) (e : BitVec 512) (i : Image) (c : Bool) (h : BootHead) (s : State), AtFront r.val 0x11 e s → cmdClean e 20 = true →
  cmdParam e = 1 → s.fwu.running = some i → s.bootHead = some (c, h) → (s.rd R.FWU_STATUS_IMGSTATE = 1 ∨ s.rd R.FWU_STATUS_IMGSTATE =
  2) → cmdField e 16 4 = imgVersion i.header → ResetMayStart s → Completes (.fwConfirm r) s (fun t =>
      t.boot.inReset = true ∧ t.rd R.GLB_RSTCAUSE_CAUSE = 7 ∧ t.trs.resetHold = true
        ∧ t.flash = (s.putHead { h with state := 2 }).flash ∧ t.fwu.otp = s.fwu.otp ∧ t.hbm = s.hbm))
  ∧ (∀ (r : Fin 16) (e : BitVec 512) (i : Image) (s : State), AtFront r.val 0x11 e s → cmdClean e 20 = true → cmdParam e ≤ 1 →
  s.fwu.running = some i → s.rd R.FWU_STATUS_IMGSTATE = 1 → cmdField e 16 4 ≠ imgVersion i.header → Completes (.fwConfirm r) s (fun t
  =>
      Answered r.val e stBadParam noRes s t ∧ t.fwu = s.fwu ∧ Frame (R.HIF_INTSTAT_CMDERR :: cplFlds r.val ++ reportFlds) s t))
  ∧ (∀ (r : Fin 16) (e : BitVec 512) (s : State), AtFront r.val 0x11 e s → (cmdClean e 20 = false ∨ (1 < cmdParam e ∧ s.fwu.running ≠
  none)) → Completes (.fwConfirm r) s (fun t =>
      Answered r.val e stBadParam noRes s t ∧ t.fwu = s.fwu ∧ Frame (R.HIF_INTSTAT_CMDERR :: cplFlds r.val ++ reportFlds) s t))
  ∧ (∀ (r : Fin 16) (e : BitVec 512) (s : State), AtFront r.val 0x11 e s → cmdClean e 20 = true → cmdParam e ≤ 1 → (s.fwu.running = none ∨
  s.rd R.FWU_STATUS_IMGSTATE = 0 ∨ (s.rd R.FWU_STATUS_IMGSTATE = 2 ∧ cmdParam e = 0)) → Completes (.fwConfirm r) s (fun t =>
      Answered r.val e stState noRes s t ∧ t.fwu = s.fwu ∧ Frame (R.HIF_INTSTAT_CMDERR :: cplFlds r.val ++ reportFlds) s t))

/-- R437, R438: FW_LIVE is refused with BADPARAM on other PARAM bits, with STATE where the staged image is not the TRIAL image of the
  boot header, beside a FW_STAGE, without a standby core, or beside another replacement of the clusters or with the spare taken, and
  with BADTABLE, code 12, where its Truss section is not the one that runs. The management part exchanges the cores, and the image
  reads MIXED until the clusters run the section too, then TRIAL. The clusters are replaced in turn behind the spare, and the command
  is answered after the last; a fault stops it where it stands. -/
def Obligations.RunningFirmwareIsReplacedLive : Prop :=
  (∀ (r : Fin 16) (e : BitVec 512) (s : State), AtFront r.val 0x12 e s → (cmdClean e 16 = false ∨ 3 < cmdParam e) → Completes (.fwLive
  r) s (fun t =>
      Answered r.val e stBadParam noRes s t ∧ t.fwu = s.fwu ∧ Frame (R.HIF_INTSTAT_CMDERR :: cplFlds r.val ++ reportFlds) s t))
  ∧ (∀ (r : Fin 16) (e : BitVec 512) (s : State), AtFront r.val 0x12 e s → cmdClean e 16 = true → cmdParam e ≤ 3 → (s.stagedTrial = none ∨
  s.fwu.job ≠ none ∨ (cmdParam e % 2 = 1 ∧ s.rd R.FLT_STATUS_MGMTSB = 0) ∨ (2 ≤ cmdParam e ∧ (s.fwu.live ≠ none ∨ s.jst.subFor ≠ none
  ∨ s.jst.subAt ≠ none))) → Completes (.fwLive r) s (fun t =>
      Answered r.val e stState noRes s t ∧ t.fwu = s.fwu ∧ Frame (R.HIF_INTSTAT_CMDERR :: cplFlds r.val ++ reportFlds) s t))
  ∧ (∀ (r : Fin 16) (e : BitVec 512) (i : Image) (h : BootHead) (s : State), AtFront r.val 0x12 e s → cmdClean e 16 = true → cmdParam e =
  1 → MayReplace i h s → s.rd R.FLT_STATUS_MGMTSB ≠ 0 → s.rd R.FLT_STATUS_ACTCORE < 2 → s.rd R.FWU_STATUS_LIVEPART = 0 → Completes
  (.fwLive r) s (fun t =>
      Answered r.val e stOk noRes s t ∧ t.rd R.FLT_STATUS_ACTCORE = 1 - s.rd R.FLT_STATUS_ACTCORE
        ∧ t.rd R.FLT_STATUS_MGMTSB = s.rd R.FLT_STATUS_MGMTSB ∧ t.rd R.FLT_INTSTAT_MGMTSW = 1 ∧ t.rd R.FWU_STATUS_LIVEPART = 1
        ∧ t.rd R.FWU_INTSTAT_LIVEDONE = 1 ∧ t.rd R.FWU_STATUS_IMGSTATE = 2 ∧ t.rd R.FWU_STATUS_SETLOCK = 1 ∧ t.jst = s.jst
        ∧ Frame ([R.FLT_STATUS_ACTCORE, R.FLT_INTSTAT_MGMTSW, R.FWU_STATUS_LIVEPART, R.FWU_INTSTAT_LIVEDONE, R.FWU_STATUS_IMGSTATE,
          R.FWU_STATUS_SETLOCK] ++ cplFlds r.val) s t))
  ∧ (∀ (r : Fin 16) (e : BitVec 512) (i : Image) (h : BootHead) (s : State), AtFront r.val 0x12 e s → cmdClean e 16 = true → cmdParam e =
  1 → MayReplace i h s → s.rd R.FLT_STATUS_MGMTSB ≠ 0 → s.rd R.FWU_STATUS_LIVEPART = 2 → Completes (.fwLive r) s (fun t =>
      Answered r.val e stOk noRes s t ∧ t.rd R.FWU_STATUS_LIVEPART = 3 ∧ t.rd R.FWU_STATUS_IMGSTATE = 1 ∧ t.rd R.FWU_STATUS_SETLOCK = 1
        ∧ t.fwu.running = some i ∧ t.boot = { s.boot with slotB := h.active } ∧ KeepsMemory s t))
  ∧ (∀ (r : Fin 16) (e : BitVec 512) (i : Image) (h : BootHead) (s : State), AtFront r.val 0x12 e s → cmdClean e 16 = true → cmdParam e =
  1 → s.stagedTrial = some (i, h) → s.fwu.job = none → s.rd R.FLT_STATUS_MGMTSB ≠ 0 → i.sect 2 ≠ s.fwu.truss → Completes (.fwLive r) s
  (fun t =>
      Answered r.val e stBadTable noRes s t ∧ t.rd R.FWU_ERR_CODE = 12 ∧ t.fwu = s.fwu
        ∧ Frame ([R.FWU_ERR_CODE, R.FWU_ERR_SLOT, R.HIF_INTSTAT_CMDERR] ++ cplFlds r.val ++ reportFlds) s t))
  ∧ (∀ (r : Fin 16) (e : BitVec 512) (i : Image) (h : BootHead) (s : State), AtFront r.val 0x12 e s → cmdClean e 16 = true → cmdParam e =
  2 → MayReplace i h s → s.fwu.live = none → s.jst.subFor = none → s.jst.subAt = none → Completes (.fwLive r) s (fun t =>
      t.fwu.live = some { ring := r.val, cid := cmdCid e, parts := 2, step := 0 } ∧ (t.jst.subAt.map (fun x => x.1)) = some 0
        ∧ t.hif.rings = s.hif.rings ∧ Frame [] s t))
  ∧ (∀ (j : LiveJob) (s : State), s.fwu.live = some j → j.step < 31 → s.jst.subFor = some j.step → s.jst.subAt = none → s.jst.clFault = []
  → Completes .liveClusterStep s (fun t =>
      t.fwu.live = some { j with step := j.step + 1 } ∧ t.jst.subFor = none ∧ (t.jst.subAt.map (fun x => x.1)) = some (j.step + 1)
        ∧ t.rd (R.JST_CLSTAT_STATE j.step) = 0 ∧ t.rd R.JST_STATUS_SUBCL = 63
        ∧ Frame [R.JST_CLSTAT_STATE j.step, R.JST_CLSTAT_STATE 32, R.JST_STATUS_SUBCL] s t))
  ∧ (∀ (j : LiveJob) (e : BitVec 512) (s : State), s.fwu.live = some j → j.ring < 16 → j.step = 31 → (s.cmdRing j.ring).fetched = [e] →
  s.jst.subFor = some 31 → s.jst.subAt = none → s.jst.clFault = [] → Completes .liveClusterStep s (fun t =>
      t.fwu.live = none ∧ t.jst.subFor = none ∧ t.rd R.FWU_INTSTAT_LIVEDONE = 1 ∧ Answered j.ring e stOk noRes s t))
  ∧ (∀ (j : LiveJob) (e : BitVec 512) (s : State), s.fwu.live = some j → j.ring < 16 → (s.cmdRing j.ring).fetched = [e] → s.jst.subFor ≠
  some j.step → s.jst.subAt = none → Completes .liveClusterStep s (fun t =>
      t.fwu.live = none ∧ t.fwu.running = s.fwu.running ∧ t.jst = s.jst ∧ Answered j.ring e stState noRes s t
        ∧ Frame (R.HIF_INTSTAT_CMDERR :: cplFlds j.ring ++ reportFlds) s t))
  ∧ (∀ (s : State), s.fwu.live = none → Completes .liveClusterStep s (fun t =>
      t.fwu = s.fwu ∧ t.jst = s.jst ∧ Frame [] s t))

/-- R444: outside recovery mode, and in a UART frame whose CRC fails, the recovery commands do nothing. BEGIN opens a receipt for an
  image length that fits a slot; CHUNK takes bytes at the offset RPROG, answers 0x20 out of order and 0x21 for a bad length or without
  a BEGIN; COMMIT checks codes 5 to 7 and makes the slot ACTIVE, TRIAL with TRIES 3, and a failure leaves the flash as it was;
  ERASESET erases both settings copies; BAUD is for the UART, 115,200 to 3,000,000. Over the UART the result is a reply frame, through
  the mailbox it stands in RSTAT. -/
def Obligations.RecoveryCommandsAnswer : Prop :=
  (∀ (via : RecPath) (a0 a1 : Word) (s : State), (s.fwu.recovery = false ∨ via = .uart false) → Completes (.begin via a0 a1) s (fun t =>
      t.fwu = s.fwu ∧ Frame [] s t))
  ∧ (∀ (via : RecPath) (ok : Bool) (a0 a1 : Word) (d : List Byte) (s : State), (s.fwu.recovery = false ∨ via = .uart false) → Completes
  (.chunk via a0 a1 d ok) s (fun t =>
      t.fwu = s.fwu ∧ Frame [] s t))
  ∧ (∀ (via : RecPath) (ok : Bool) (s : State), (s.fwu.recovery = false ∨ via = .uart false) → Completes (.recoveryCommit via ok) s (fun t
  =>
      t.fwu = s.fwu ∧ Frame [] s t))
  ∧ (∀ (via : RecPath) (ok : Bool) (s : State), (s.fwu.recovery = false ∨ via = .uart false) → Completes (.eraseset via ok) s (fun t =>
      t.fwu = s.fwu ∧ Frame [] s t))
  ∧ (∀ (via : RecPath) (a0 : Word) (s : State), (s.fwu.recovery = false ∨ via = .uart false) → Completes (.baud via a0) s (fun t =>
      t.fwu = s.fwu ∧ Frame [] s t))
  ∧ (∀ (via : RecPath) (a0 a1 : Word) (s : State), s.fwu.recovery = true → via ≠ .uart false → 1024 ≤ a1.toNat → a1.toNat ≤ 127 * 2 ^ 20 →
  Completes (.begin via a0 a1) s (fun t =>
      t.fwu.receipt = some { len := a1.toNat, prog := 0, slot := s.spareSlot, bytes := [], failed := false } ∧ RecAnswered via 1 0 t
        ∧ Frame [] s t))
  ∧ (∀ (via : RecPath) (a0 a1 : Word) (s : State), s.fwu.recovery = true → via ≠ .uart false → (a1.toNat < 1024 ∨ 127 * 2 ^ 20 < a1.toNat)
  → Completes (.begin via a0 a1) s (fun t =>
      t.fwu.receipt = s.fwu.receipt ∧ RecAnswered via 1 0x21 t ∧ Frame [] s t))
  ∧ (∀ (via : RecPath) (ok : Bool) (a0 a1 : Word) (d : List Byte) (s : State), s.fwu.recovery = true → via ≠ .uart false → s.fwu.receipt =
  none → Completes (.chunk via a0 a1 d ok) s (fun t =>
      t.fwu.receipt = none ∧ RecAnswered via 2 0x21 t ∧ Frame [] s t))
  ∧ (∀ (via : RecPath) (ok : Bool) (a0 a1 : Word) (d : List Byte) (x : Receipt) (s : State), s.fwu.recovery = true → via ≠ .uart false →
  s.fwu.receipt = some x → (x.failed = true ∨ 983040 < a1.toNat ∨ (recUart via = true ∧ 4096 < a1.toNat) ∨ x.len < x.prog + a1.toNat)
  → Completes (.chunk via a0 a1 d ok) s (fun t =>
      t.fwu.receipt = some x ∧ RecAnswered via 2 0x21 t ∧ Frame [] s t))
  ∧ (∀ (via : RecPath) (ok : Bool) (a0 a1 : Word) (d : List Byte) (x : Receipt) (s : State), s.fwu.recovery = true → via ≠ .uart false →
  s.fwu.receipt = some x → x.failed = false → a1.toNat ≤ 4096 → x.prog + a1.toNat ≤ x.len → a0.toNat ≠ x.prog → Completes (.chunk via
  a0 a1 d ok) s (fun t =>
      t.fwu.receipt = some x ∧ RecAnswered via 2 0x20 t ∧ Frame [] s t))
  ∧ (∀ (via : RecPath) (ok : Bool) (a0 a1 : Word) (d : List Byte) (x : Receipt) (s : State), s.fwu.recovery = true → via ≠ .uart false →
  s.fwu.receipt = some x → x.failed = false → a1.toNat ≤ 4096 → d.length = a1.toNat → x.prog + a1.toNat ≤ x.len → a0.toNat = x.prog →
  x.bytes.length + d.length < 1024 → Completes (.chunk via a0 a1 d ok) s (fun t =>
      t.fwu.receipt = some { x with prog := x.bytes.length + d.length, bytes := x.bytes ++ d } ∧ RecAnswered via 2 0 t ∧ Frame [] s t))
  ∧ (∀ (via : RecPath) (a0 a1 : Word) (d : List Byte) (x : Receipt) (s : State), s.fwu.recovery = true → via ≠ .uart false → s.fwu.receipt
  = some x → x.failed = false → a1.toNat ≤ 4096 → d.length = a1.toNat → x.prog + a1.toNat ≤ x.len → a0.toNat = x.prog → 1024 ≤ x.prog
  → x.bytes.length = x.prog → Completes (.chunk via a0 a1 d true) s (fun t =>
      t.fwu.receipt = some { x with prog := x.prog + d.length, bytes := x.bytes ++ d }
        ∧ t.flash = storeBytes 0xFF s.flash (slotBase x.slot + x.prog) d ∧ t.hbm = s.hbm ∧ RecAnswered via 2 0 t ∧ KeepsRegs [] s t))
  ∧ (∀ (via : RecPath) (ok : Bool) (s : State), s.fwu.recovery = true → via ≠ .uart false → s.fwu.receipt = none → Completes
  (.recoveryCommit via ok) s (fun t =>
      t.fwu.receipt = none ∧ RecAnswered via 3 0x21 t ∧ Frame [] s t))
  ∧ (∀ (via : RecPath) (x : Receipt) (s : State), s.fwu.recovery = true → via ≠ .uart false → s.fwu.receipt = some x → x.failed = false →
  x.prog = x.len → Completes (.recoveryCommit via true) s (fun t =>
      (lateCode x.bytes = 0 → RecAnswered via 3 0 t ∧ t.fwu.receipt = none ∧ t.flash = (s.putHead
        { hseq := 0, active := x.slot, state := 1, tries := 3, verAct := imgVersion x.bytes, verOth := match s.bootHead with | some (_, h) => (if h.state = 0 then h.verAct else 0) | none => 0 }).flash
        ∧ KeepsRegs [] s t)
        ∧ (lateCode x.bytes ≠ 0 → RecAnswered via 3 (lateCode x.bytes) t ∧ t.fwu.receipt = some x ∧ t.rd R.FWU_ERR_CODE = lateCode
          x.bytes ∧ Frame [R.FWU_ERR_CODE, R.FWU_ERR_SLOT] s t)))
  ∧ (∀ (via : RecPath) (s : State), s.fwu.recovery = true → via ≠ .uart false → Completes (.eraseset via true) s (fun t =>
      (∀ a, 0x0FF00000 ≤ a → t.flashByte a = 0xFF) ∧ (∀ a, a < 0x0FF00000 → t.flashByte a = s.flashByte a) ∧ t.hbm = s.hbm
        ∧ RecAnswered via 5 0 t ∧ KeepsRegs [] s t))
  ∧ (∀ (via : RecPath) (s : State), s.fwu.recovery = true → via ≠ .uart false → Completes (.eraseset via false) s (fun t =>
      t.rd R.FWU_ERR_CODE = 11 ∧ RecAnswered via 5 11 t ∧ Frame [R.FWU_ERR_CODE] s t))
  ∧ (∀ (a0 : Word) (s : State), s.fwu.recovery = true → 115200 ≤ a0.toNat → a0.toNat ≤ 3000000 → Completes (.baud (.uart true) a0) s (fun
  t =>
      t.fwu.uartBaud = a0.toNat ∧ RecAnswered (.uart true) 6 0 t ∧ Frame [] s t))
  ∧ (∀ (via : RecPath) (a0 : Word) (s : State), s.fwu.recovery = true → via ≠ .uart false → (recUart via = false ∨ a0.toNat < 115200 ∨
  3000000 < a0.toNat) → Completes (.baud via a0) s (fun t =>
      t.fwu.uartBaud = s.fwu.uartBaud ∧ RecAnswered via 6 0x21 t ∧ Frame [] s t))

/-- R466: a write of FLT_RDSEQLO sets the low half of the ESEQ; the write of FLT_RDSEQHI that follows loads the 64 bytes of the entry
  with that ESEQ into FLT_RDDATA0 to FLT_RDDATA15 within the same access, and sets VALID; where the ring holds no such entry VALID is
  0 and the data words read 0. No word of HBM is in error here (R454). -/
def Obligations.LogEntriesReadThroughRegisters : Prop :=
  (∀ (v : BitVec 64) (s : State), s.barOn = true → s.girtReg girtHost 0x500028 true = true → Completes (.registerWrite 0x500028#24
  0x0F#8 v) s (fun t =>
      t.rd R.FLT_RDSEQLO_ESEQ = v.toNat % 2 ^ 32 ∧ t.flt.ring = s.flt.ring ∧ Frame [R.FLT_RDSEQLO_ESEQ] s t))
  ∧ (∀ (v : Word) (e : FltEntry) (s : State), s.flt.badWords = [] → s.flt.ring.find? (fun e => e.eseq == s.rd R.FLT_RDSEQLO_ESEQ + 2 ^ 32
  * v.toNat) = some e → Completes (.fltRdseqhiWrite v) s (fun t =>
      t.rd R.FLT_RDSTAT_VALID = 1 ∧ t.rd R.FLT_RDSEQHI_ESEQ = v.toNat
        ∧ (∀ i : Fin 16, t.rd (R.FLT_RDDATA_DATA i.val) = fieldAt e.bytes (4 * i.val) 4) ∧ t.flt = s.flt
        ∧ Frame ([R.FLT_RDSEQHI_ESEQ, R.FLT_RDSTAT_VALID] ++ (List.range 16).map R.FLT_RDDATA_DATA) s t))
  ∧ (∀ (v : Word) (s : State), s.flt.ring.find? (fun e => e.eseq == s.rd R.FLT_RDSEQLO_ESEQ + 2 ^ 32 * v.toNat) = none → Completes
  (.fltRdseqhiWrite v) s (fun t =>
      t.rd R.FLT_RDSTAT_VALID = 0 ∧ (∀ i : Fin 16, t.rd (R.FLT_RDDATA_DATA i.val) = 0)
        ∧ Frame ([R.FLT_RDSEQHI_ESEQ, R.FLT_RDSTAT_VALID] ++ (List.range 16).map R.FLT_RDDATA_DATA) s t))

/-- R475: a read of an unassigned offset answers 0 and a write of one is discarded; either is counted in GLB_ACCERR.BADACC, recorded
  in GLB_LASTERR with kind 0, and sets GLB_INTSTAT.ACCERR. An access that Girt refuses is counted in GRT_DENY and leaves GLB_ACCERR
  and GLB_LASTERR as they were. The reserved targets of Girt's own table are not unassigned (R450). -/
def Obligations.UnassignedOffsetsReadZero : Prop :=
  (∀ (addr : BitVec 24) (s : State), s.barOn = true → Unassigned addr.toNat → addr.toNat % 4 = 0 → s.girtReg girtHost addr.toNat false =
  true → Completes (.registerRead addr 4#4) s (fun t =>
      Emit.regRead addr.toNat 0 ∈ t.out ∧ AccessCounted addr.toNat false s t ∧ Frame accFlds s t))
  ∧ (∀ (addr : BitVec 24) (v : BitVec 64) (s : State), s.barOn = true → Unassigned addr.toNat → addr.toNat % 4 = 0 → s.girtReg girtHost
  addr.toNat true = true → Completes (.registerWrite addr 0x0F#8 v) s (fun t =>
      AccessCounted addr.toNat true s t ∧ Frame accFlds s t))
  ∧ (∀ (addr : BitVec 24) (s : State), s.barOn = true → addr.toNat % 4 = 0 → s.girtReg girtHost addr.toNat false = false → Completes
  (.registerRead addr 4#4) s (fun t =>
      Emit.regRead addr.toNat 0 ∈ t.out ∧ t.rd R.GRT_DENY_CNT = min (s.rd R.GRT_DENY_CNT + 1) 0xFFFFFFFF
        ∧ t.rd R.GRT_LASTDENY_WRITE = 0 ∧ Frame denyFlds s t))
  ∧ (∀ (addr : BitVec 24) (v : BitVec 64) (s : State), s.barOn = true → addr.toNat % 4 = 0 → s.girtReg girtHost addr.toNat true = false →
  Completes (.registerWrite addr 0x0F#8 v) s (fun t =>
      t.rd R.GRT_DENY_CNT = min (s.rd R.GRT_DENY_CNT + 1) 0xFFFFFFFF ∧ t.rd R.GRT_LASTDENY_WRITE = 1 ∧ Frame denyFlds s t))

/-- R482: a write of 0x4655_4C4C to GLB_RST starts a full reset with that write; any other value is discarded, sets KEYBAD and is
  recorded in GLB_LASTERR; a host without the Girt right on the GLB block is refused. The kind 4 of the record, and that a reset
  already running is joined, are as the model reads R480 and R53. -/
def Obligations.TheKeyStartsAFullReset : Prop :=
  (∀ (s : State), s.barOn = true → s.boot.pornLow = false → s.boot.powered = true → s.boot.ended = false → s.boot.inReset = false →
  rightOk (s.girtRight girtHost 64) true = true → Completes (.glbRst 0x46554C4C#32) s (fun t =>
      t.boot.inReset = true ∧ t.rd R.GLB_RSTCAUSE_CAUSE = 2 ∧ t.rd R.GLB_RSTCAUSE_RSTCNT = min (s.rd R.GLB_RSTCAUSE_RSTCNT + 1) 65535
        ∧ t.trs.resetHold = true ∧ t.clk = s.clk ∧ KeepsMemory s t))
  ∧ (∀ (v : Word) (s : State), s.barOn = true → rightOk (s.girtRight girtHost 64) true = true → v ≠ 0x46554C4C#32 → Completes (.glbRst v)
  s (fun t =>
      t.rd R.GLB_INTSTAT_KEYBAD = 1 ∧ t.rd R.GLB_LASTERR_OFFSET = 0x14 ∧ t.rd R.GLB_LASTERR_WRITE = 1 ∧ t.rd R.GLB_LASTERR_KIND = 4
        ∧ t.boot = s.boot
        ∧ Frame ([R.GLB_INTSTAT_KEYBAD, R.GLB_LASTERR_OFFSET, R.GLB_LASTERR_WRITE, R.GLB_LASTERR_KIND] ++ reportFlds) s t))
  ∧ (∀ (v : Word) (s : State), s.barOn = true → rightOk (s.girtRight girtHost 64) true = false → Completes (.glbRst v) s (fun t =>
      t.rd R.GRT_DENY_CNT = min (s.rd R.GRT_DENY_CNT + 1) 0xFFFFFFFF ∧ t.boot = s.boot ∧ Frame denyFlds s t))
end

