-- ==== Sys2Proof/Laws/Store.lean ====
section
/-!
SUPPORT. Laws of the sparse stores: a read after a write gives the value written, a write leaves every other key alone, and every
write keeps the canonical form.
-/
namespace Sys2Proof.Machine

variable {α : Type}

theorem mapGet_ins_same (d : α) (m : List (Nat × α)) (k : Nat) (v : α) (h : ∀ p ∈ m, p.1 ≠ k) :
    mapGet d (mapIns m k v) k = v := by
  induction m with
  | nil => simp [mapIns, mapGet]
  | cons p r ih =>
    obtain ⟨a, w⟩ := p
    have ha : a ≠ k := h (a, w) (by simp)
    have hr : ∀ p ∈ r, p.1 ≠ k := fun p hp => h p (by simp [hp])
    unfold mapIns
    split
    · simp [mapGet]
    · simp [mapGet, ha, ih hr]

theorem mapGet_ins_ne (d : α) (m : List (Nat × α)) (k k' : Nat) (v : α) (h : k' ≠ k) :
    mapGet d (mapIns m k v) k' = mapGet d m k' := by
  induction m with
  | nil => simp [mapIns, mapGet, Ne.symm h]
  | cons p r ih =>
    obtain ⟨a, w⟩ := p
    unfold mapIns
    split
    · simp [mapGet, Ne.symm h]
    · simp [mapGet, ih]

theorem mapErase_mem_ne (m : List (Nat × α)) (k : Nat) : ∀ p ∈ mapErase m k, p.1 ≠ k := by
  intro p hp
  simpa using (List.mem_filter.mp hp).2

theorem mapGet_erase_ne (d : α) (m : List (Nat × α)) (k k' : Nat) (h : k' ≠ k) :
    mapGet d (mapErase m k) k' = mapGet d m k' := by
  induction m with
  | nil => rfl
  | cons p r ih =>
    obtain ⟨a, w⟩ := p
    unfold mapErase at ih ⊢
    by_cases ha : a = k
    · subst ha; simp [mapGet, ih, Ne.symm h]
    · simp [ha, mapGet, ih]

theorem mapGet_erase_same (d : α) (m : List (Nat × α)) (k : Nat) : mapGet d (mapErase m k) k = d := by
  induction m with
  | nil => rfl
  | cons p r ih =>
    obtain ⟨a, w⟩ := p
    unfold mapErase at ih ⊢
    by_cases ha : a = k
    · subst ha; simpa using ih
    · simp [ha, mapGet, ih]

/-- A read after a write to the same key gives the value written. -/
@[simp] theorem mapGet_set_same [DecidableEq α] (d : α) (m : List (Nat × α)) (k : Nat) (v : α) :
    mapGet d (mapSet d m k v) k = v := by
  unfold mapSet
  split
  · next h => rw [mapGet_erase_same, h]
  · exact mapGet_ins_same d _ k v (mapErase_mem_ne m k)

/-- A write leaves every other key alone, whatever the two defaults. -/
theorem mapGet_set_ne [DecidableEq α] (d e : α) (m : List (Nat × α)) (k k' : Nat) (v : α) (h : k' ≠ k) :
    mapGet e (mapSet d m k v) k' = mapGet e m k' := by
  unfold mapSet
  split
  · exact mapGet_erase_ne e m k k' h
  · rw [mapGet_ins_ne e _ k k' v h, mapGet_erase_ne e m k k' h]

/-! ### The canonical form -/

/-- The canonical form, said of all entries at once: no entry holds its default, and the keys rise. -/
theorem mapWf_iff [DecidableEq α] (d : Nat → α) (m : List (Nat × α)) :
    mapWf d m = true ↔ (∀ p ∈ m, p.2 ≠ d p.1) ∧ m.Pairwise (fun p q => p.1 < q.1) := by
  induction m with
  | nil => simp [mapWf]
  | cons p r ih =>
    obtain ⟨k, v⟩ := p
    cases r with
    | nil => simp [mapWf]
    | cons q r =>
      obtain ⟨k', v'⟩ := q
      simp only [mapWf, Bool.and_eq_true, decide_eq_true_eq, ih]
      constructor
      · rintro ⟨⟨h1, h2⟩, h3, h4⟩
        refine ⟨?_, ?_⟩
        · intro p hp
          rcases List.mem_cons.mp hp with rfl | hp
          · exact h1
          · exact h3 p hp
        · refine List.pairwise_cons.mpr ⟨?_, h4⟩
          intro q hq
          rcases List.mem_cons.mp hq with rfl | hq
          · exact h2
          · exact Nat.lt_trans h2 ((List.pairwise_cons.mp h4).1 q hq)
      · rintro ⟨h1, h2⟩
        have h2' := List.pairwise_cons.mp h2
        exact ⟨⟨h1 (k, v) (by simp), h2'.1 (k', v') (by simp)⟩, fun p hp => h1 p (by simp [hp]), h2'.2⟩

theorem mapWf_filter [DecidableEq α] (d : Nat → α) (m : List (Nat × α)) (p : Nat × α → Bool) (h : mapWf d m = true) :
    mapWf d (m.filter p) = true := by
  rw [mapWf_iff] at h ⊢
  exact ⟨fun q hq => h.1 q (List.mem_of_mem_filter hq), h.2.filter p⟩

theorem mem_mapIns (m : List (Nat × α)) (k : Nat) (v : α) (p : Nat × α) (h : p ∈ mapIns m k v) : p = (k, v) ∨ p ∈ m := by
  induction m with
  | nil => simpa [mapIns] using h
  | cons q r ih =>
    obtain ⟨a, w⟩ := q
    unfold mapIns at h
    split at h
    · simpa using h
    · rcases List.mem_cons.mp h with rfl | h
      · simp
      · rcases ih h with rfl | h
        · simp
        · simp [h]

theorem mapIns_pairwise (m : List (Nat × α)) (k : Nat) (v : α) (hm : m.Pairwise (fun p q => p.1 < q.1))
    (hk : ∀ p ∈ m, p.1 ≠ k) : (mapIns m k v).Pairwise (fun p q => p.1 < q.1) := by
  induction m with
  | nil => simp [mapIns]
  | cons q r ih =>
    obtain ⟨a, w⟩ := q
    have hm' := List.pairwise_cons.mp hm
    have ha : a ≠ k := hk (a, w) (by simp)
    unfold mapIns
    split
    · next hlt =>
      refine List.pairwise_cons.mpr ⟨?_, hm⟩
      intro p hp
      rcases List.mem_cons.mp hp with rfl | hp
      · exact hlt
      · exact Nat.lt_trans hlt (hm'.1 p hp)
    · next hge =>
      refine List.pairwise_cons.mpr ⟨?_, ih hm'.2 (fun p hp => hk p (by simp [hp]))⟩
      intro p hp
      rcases mem_mapIns r k v p hp with rfl | hp
      · show a < k; omega
      · exact hm'.1 p hp

/-- A write of the default's own key keeps the canonical form. -/
theorem mapWf_set [DecidableEq α] (d : Nat → α) (m : List (Nat × α)) (k : Nat) (v : α) (h : mapWf d m = true) :
    mapWf d (mapSet (d k) m k v) = true := by
  unfold mapSet
  split
  · exact mapWf_filter d m _ h
  · next hv =>
    have he := mapWf_filter d m (fun p => p.1 != k) h
    rw [mapWf_iff] at he ⊢
    refine ⟨?_, mapIns_pairwise _ k v he.2 (mapErase_mem_ne m k)⟩
    intro p hp
    rcases mem_mapIns _ k v p hp with rfl | hp
    · exact hv
    · exact he.1 p hp

end Sys2Proof.Machine
end

