-- ==== Sys2Proof/Laws/Eff.lean ====
section
/-!
SUPPORT. What an operation may change, said once: `Only m s t` says that `t` differs from `s` at most in the parts of the
state whose bits are set in `m` (register blocks, the blocks' own records, HBM, the flash, what left the part), that the queue of
waiting commands is untouched, and that the canonical form of the stores is kept.
-/
namespace Sys2Proof.Machine

/-- The part of the state that holds a register key: 0 GLB, 1 CLK, 2 THM, 4 KRF, 5 PEG, 6 MRT, 7 JST, 9 JNL, 10 LBK, 11 BTN, 12 TNN,
13 TRS, 14 WFP, 15 DOG, 16 SIL, 17 PLB, 18 HIF, 19 PUR, 20 DWL, 21 FWU, 22 GRT, 23 FLT; 24 GLB_INTCTL.ARMED alone, 25 the MSI-X
pending bits; 26 what lies behind the last block. -/
def blk (k : Nat) : Nat :=
  if k = R.GLB_INTCTL_ARMED.key then 24
  else if 32768000 ≤ k ∧ k < 32770048 then 25
  else if k < 2097152 then k / 524288
  else if k < 44040192 then 3 + k / 2097152 else 26

/-- A register field by its key. -/
def State.at (s : State) (k : Nat) : Nat := mapGet (regReset k) s.regs k

theorem State.rd_eq_at (s : State) (f : Fld) : s.rd f = s.at f.key := rfl

/-- `t` differs from `s` at most in the parts set in `m`. -/
structure Only (m : Nat) (s t : State) : Prop where
  reg     : ∀ k, m.testBit (blk k) = false → t.at k = s.at k
  latch   : m.testBit 32 = true ∨ t.latch = s.latch
  clk     : m.testBit 33 = true ∨ t.clk = s.clk
  boot    : m.testBit 34 = true ∨ t.boot = s.boot
  tnn     : m.testBit 35 = true ∨ t.tnn = s.tnn
  btn     : m.testBit 36 = true ∨ t.btn = s.btn
  peg     : m.testBit 37 = true ∨ t.peg = s.peg
  krf     : m.testBit 38 = true ∨ t.krf = s.krf
  jst     : m.testBit 39 = true ∨ t.jst = s.jst
  jnl     : m.testBit 40 = true ∨ t.jnl = s.jnl
  lbk     : m.testBit 41 = true ∨ t.lbk = s.lbk
  wfp     : m.testBit 42 = true ∨ t.wfp = s.wfp
  dog     : m.testBit 43 = true ∨ t.dog = s.dog
  trs     : m.testBit 44 = true ∨ t.trs = s.trs
  sil     : m.testBit 45 = true ∨ t.sil = s.sil
  thm     : m.testBit 46 = true ∨ t.thm = s.thm
  plb     : m.testBit 47 = true ∨ t.plb = s.plb
  hif     : m.testBit 48 = true ∨ t.hif = s.hif
  dwl     : m.testBit 49 = true ∨ t.dwl = s.dwl
  fwu     : m.testBit 50 = true ∨ t.fwu = s.fwu
  flt     : m.testBit 51 = true ∨ t.flt = s.flt
  hbm     : m.testBit 52 = true ∨ t.hbm = s.hbm
  flash   : m.testBit 53 = true ∨ t.flash = s.flash
  out     : m.testBit 54 = true ∨ t.out = s.out
  fresh   : m.testBit 55 = true ∨ t.fresh = s.fresh
  pending : t.pending = s.pending
  wf      : s.wf = true → t.wf = true

theorem Only.refl (m : Nat) (s : State) : Only m s s := by
  constructor <;> first | exact Or.inr rfl | exact fun _ _ => rfl | rfl | exact id

theorem orLink {p : Bool} {α : Type} {a b c : α} (h1 : p = true ∨ b = a) (h2 : p = true ∨ c = b) :
    p = true ∨ c = a := by
  rcases h1 with h | h
  · exact .inl h
  · rcases h2 with h' | h'
    · exact .inl h'
    · exact .inr (h'.trans h)

theorem Only.trans {m : Nat} {s u t : State} (h1 : Only m s u) (h2 : Only m u t) : Only m s t where
  reg k hk := (h2.reg k hk).trans (h1.reg k hk)
  latch := orLink h1.latch h2.latch
  clk := orLink h1.clk h2.clk
  boot := orLink h1.boot h2.boot
  tnn := orLink h1.tnn h2.tnn
  btn := orLink h1.btn h2.btn
  peg := orLink h1.peg h2.peg
  krf := orLink h1.krf h2.krf
  jst := orLink h1.jst h2.jst
  jnl := orLink h1.jnl h2.jnl
  lbk := orLink h1.lbk h2.lbk
  wfp := orLink h1.wfp h2.wfp
  dog := orLink h1.dog h2.dog
  trs := orLink h1.trs h2.trs
  sil := orLink h1.sil h2.sil
  thm := orLink h1.thm h2.thm
  plb := orLink h1.plb h2.plb
  hif := orLink h1.hif h2.hif
  dwl := orLink h1.dwl h2.dwl
  fwu := orLink h1.fwu h2.fwu
  flt := orLink h1.flt h2.flt
  hbm := orLink h1.hbm h2.hbm
  flash := orLink h1.flash h2.flash
  out := orLink h1.out h2.out
  fresh := orLink h1.fresh h2.fresh
  pending := h2.pending.trans h1.pending
  wf h := h2.wf (h1.wf h)

theorem testBit_of_sub {m n : Nat} (h : m ||| n = n) (i : Nat) (hi : m.testBit i = true) : n.testBit i = true := by
  rw [← h, Nat.testBit_lor, hi]; rfl

theorem Only.mono {m n : Nat} {s t : State} (hs : m ||| n = n) (h : Only m s t) : Only n s t where
  reg k hk := h.reg k (by
    cases hb : m.testBit (blk k)
    · rfl
    · rw [testBit_of_sub hs _ hb] at hk; cases hk)
  latch := h.latch.imp_left (testBit_of_sub hs _)
  clk := h.clk.imp_left (testBit_of_sub hs _)
  boot := h.boot.imp_left (testBit_of_sub hs _)
  tnn := h.tnn.imp_left (testBit_of_sub hs _)
  btn := h.btn.imp_left (testBit_of_sub hs _)
  peg := h.peg.imp_left (testBit_of_sub hs _)
  krf := h.krf.imp_left (testBit_of_sub hs _)
  jst := h.jst.imp_left (testBit_of_sub hs _)
  jnl := h.jnl.imp_left (testBit_of_sub hs _)
  lbk := h.lbk.imp_left (testBit_of_sub hs _)
  wfp := h.wfp.imp_left (testBit_of_sub hs _)
  dog := h.dog.imp_left (testBit_of_sub hs _)
  trs := h.trs.imp_left (testBit_of_sub hs _)
  sil := h.sil.imp_left (testBit_of_sub hs _)
  thm := h.thm.imp_left (testBit_of_sub hs _)
  plb := h.plb.imp_left (testBit_of_sub hs _)
  hif := h.hif.imp_left (testBit_of_sub hs _)
  dwl := h.dwl.imp_left (testBit_of_sub hs _)
  fwu := h.fwu.imp_left (testBit_of_sub hs _)
  flt := h.flt.imp_left (testBit_of_sub hs _)
  hbm := h.hbm.imp_left (testBit_of_sub hs _)
  flash := h.flash.imp_left (testBit_of_sub hs _)
  out := h.out.imp_left (testBit_of_sub hs _)
  fresh := h.fresh.imp_left (testBit_of_sub hs _)
  pending := h.pending
  wf := h.wf

/-- One more operation, whose own parts lie within those of the whole. -/
theorem Only.app {g m : Nat} {s u t : State} (h : Only m s u) (hg : Only g u t) (hm : g ||| m = m) : Only m s t :=
  h.trans (hg.mono hm)

/-- An update of fields of the state other than registers and memory. -/
theorem Only.upd {m : Nat} {s u : State} (h : Only m s u) {latch clk boot tnn btn peg krf jst jnl lbk wfp dog trs sil thm plb hif
    dwl fwu flt out fresh}
    (h32 : m.testBit 32 = true ∨ latch = u.latch) (h33 : m.testBit 33 = true ∨ clk = u.clk)
    (h34 : m.testBit 34 = true ∨ boot = u.boot) (h35 : m.testBit 35 = true ∨ tnn = u.tnn)
    (h36 : m.testBit 36 = true ∨ btn = u.btn) (h37 : m.testBit 37 = true ∨ peg = u.peg)
    (h38 : m.testBit 38 = true ∨ krf = u.krf) (h39 : m.testBit 39 = true ∨ jst = u.jst)
    (h40 : m.testBit 40 = true ∨ jnl = u.jnl) (h41 : m.testBit 41 = true ∨ lbk = u.lbk)
    (h42 : m.testBit 42 = true ∨ wfp = u.wfp) (h43 : m.testBit 43 = true ∨ dog = u.dog)
    (h44 : m.testBit 44 = true ∨ trs = u.trs) (h45 : m.testBit 45 = true ∨ sil = u.sil)
    (h46 : m.testBit 46 = true ∨ thm = u.thm) (h47 : m.testBit 47 = true ∨ plb = u.plb)
    (h48 : m.testBit 48 = true ∨ hif = u.hif) (h49 : m.testBit 49 = true ∨ dwl = u.dwl)
    (h50 : m.testBit 50 = true ∨ fwu = u.fwu) (h51 : m.testBit 51 = true ∨ flt = u.flt)
    (h54 : m.testBit 54 = true ∨ out = u.out) (h55 : m.testBit 55 = true ∨ fresh = u.fresh) :
    Only m s ⟨u.regs, latch, clk, boot, tnn, btn, peg, krf, jst, jnl, lbk, wfp, dog, trs, sil, thm, plb, hif, dwl, fwu, flt,
      u.hbm, u.flash, out, fresh, u.pending⟩ :=
  h.trans ⟨fun _ _ => rfl, h32, h33, h34, h35, h36, h37, h38, h39, h40, h41, h42, h43, h44, h45, h46, h47, h48, h49, h50, h51,
    .inr rfl, .inr rfl, h54, h55, rfl, id⟩

/-- A register write. -/
theorem Only.wr {m : Nat} {s u : State} {f : Fld} {v : Nat} (h : Only m s u) (hb : m.testBit (blk f.key) = true) :
    Only m s (u.wr f v) := by
  refine h.trans ?_
  constructor
  case reg =>
    intro k hk
    refine mapGet_set_ne _ _ _ _ _ _ ?_
    rintro rfl
    rw [hb] at hk; cases hk
  case wf =>
    intro hw
    simp only [State.wf, Bool.and_eq_true] at hw ⊢
    exact ⟨mapWf_set regReset u.regs f.key _ hw.1, hw.2⟩
  all_goals first | exact Or.inr rfl | rfl

theorem Only.wrB {m : Nat} {s u : State} {f : Fld} {v : Bool} (h : Only m s u) (hb : m.testBit (blk f.key) = true) :
    Only m s (u.wrB f v) := h.wr hb

theorem Only.wrS {m : Nat} {s u : State} {f : Fld} {v : Int} (h : Only m s u) (hb : m.testBit (blk f.key) = true) :
    Only m s (u.wrS f v) := h.wr hb

theorem Only.bump {m : Nat} {s u : State} {f : Fld} {n : Nat} (h : Only m s u) (hb : m.testBit (blk f.key) = true) :
    Only m s (u.bump f n) := h.wr hb

theorem Only.count {m : Nat} {s u : State} {f : Fld} {n : Nat} (h : Only m s u) (hb : m.testBit (blk f.key) = true) :
    Only m s (u.count f n) := h.wr hb

theorem Only.peak {m : Nat} {s u : State} {f : Fld} {n : Nat} (h : Only m s u) (hb : m.testBit (blk f.key) = true) :
    Only m s (u.peak f n) := h.wr hb

theorem Only.flag {m : Nat} {s u : State} {f : Fld} (h : Only m s u) (hb : m.testBit (blk f.key) = true) :
    Only m s (u.flag f) := h.wr hb

/-- A conditional effect. -/
theorem Only.when {m : Nat} {s u : State} {c : Bool} {f : State → State} (h : Only m s u) (hf : Only m u (f u)) :
    Only m s (u.when c f) := by
  unfold State.when
  split
  · exact h.trans hf
  · exact h

/-- A fold of effects. -/
theorem Only.foldl {α : Type} {m : Nat} {s u : State} {l : List α} {f : State → α → State} (h : Only m s u)
    (hf : ∀ t a, Only m t (f t a)) : Only m s (l.foldl f u) := by
  induction l generalizing u with
  | nil => exact h
  | cons a r ih => exact ih (h.trans (hf u a))

theorem blk_le (k : Nat) : blk k ≤ 26 := by
  unfold blk
  split
  · omega
  · split
    · omega
    · split
      · omega
      · split <;> omega

/-- A mask that holds every register block. -/
theorem testBit_blk {m : Nat} (h : ∀ i ≤ 26, m.testBit i = true) (k : Nat) : m.testBit (blk k) = true := h _ (blk_le k)

/-- The state of a pair that an operation answers. -/
theorem Only.ofFst {α : Type} {m : Nat} {s t : State} {a : α} {p : State × α} (hp : p = (t, a)) (h : Only m s p.1) : Only m s t := by
  rw [hp] at h; exact h

theorem Only.ofSnd {α : Type} {m : Nat} {s t : State} {a : α} {p : α × State} (hp : p = (a, t)) (h : Only m s p.2) : Only m s t := by
  rw [hp] at h; exact h

/-- Bytes stored in a sparse store of bytes keep its canonical form. -/
theorem storeBytes_wf (d : Byte) (m : List (Nat × Byte)) (a : Nat) (bs : List Byte) (h : mapWf (fun _ => d) m = true) :
    mapWf (fun _ => d) (storeBytes d m a bs) = true := by
  induction bs generalizing m a with
  | nil => exact h
  | cons b r ih => exact ih _ _ (mapWf_set (fun _ => d) m a b h)

/-- The outcome of a command, if it is a next state, changes only the parts set in `m`. -/
def OnlyO (m : Nat) (s : State) (o : Host.Outcome State Fault Refusal) : Prop :=
  ∀ t, o = .next t → Only m s t

end Sys2Proof.Machine
end

