-- ==== Sys2Proof/Laws/Blk.lean ====
section
/-!
SUPPORT. The part of the state that an indexed register field lies in, whatever its index.
-/
namespace Sys2Proof.Machine

theorem blk_of (c : Nat) (hc : 4 ≤ c ∧ c ≤ 23) (k : Nat) (h1 : 2097152 * (c - 3) ≤ k) (h2 : k < 2097152 * (c - 2))
    (h3 : k < 32768000 ∨ 32770048 ≤ k) : blk k = c := by
  have h4 : R.GLB_INTCTL_ARMED.key < 2097152 := by decide
  unfold blk
  rw [if_neg (by omega), if_neg (by omega), if_neg (by omega), if_pos (by omega)]
  omega

theorem blk_BTN_DDLY_ACCW (i : Nat) : blk (R.BTN_DDLY_ACCW i).key = 11 := blk_of 11 (by decide) _ (by unfold R.BTN_DDLY_ACCW; dsimp only; omega)
  (by unfold R.BTN_DDLY_ACCW; dsimp only; omega) (by unfold R.BTN_DDLY_ACCW; dsimp only; omega)

theorem blk_BTN_DDLY_ACW (i : Nat) : blk (R.BTN_DDLY_ACW i).key = 11 := blk_of 11 (by decide) _ (by unfold R.BTN_DDLY_ACW; dsimp only; omega)
  (by unfold R.BTN_DDLY_ACW; dsimp only; omega) (by unfold R.BTN_DDLY_ACW; dsimp only; omega)

theorem blk_BTN_DID_COLSM1 (i : Nat) : blk (R.BTN_DID_COLSM1 i).key = 11 := blk_of 11 (by decide) _ (by unfold R.BTN_DID_COLSM1; dsimp only; omega)
  (by unfold R.BTN_DID_COLSM1; dsimp only; omega) (by unfold R.BTN_DID_COLSM1; dsimp only; omega)

theorem blk_BTN_DID_PRESENT (i : Nat) : blk (R.BTN_DID_PRESENT i).key = 11 := blk_of 11 (by decide) _ (by unfold R.BTN_DID_PRESENT; dsimp only; omega)
  (by unfold R.BTN_DID_PRESENT; dsimp only; omega) (by unfold R.BTN_DID_PRESENT; dsimp only; omega)

theorem blk_BTN_DID_PROTO (i : Nat) : blk (R.BTN_DID_PROTO i).key = 11 := blk_of 11 (by decide) _ (by unfold R.BTN_DID_PROTO; dsimp only; omega)
  (by unfold R.BTN_DID_PROTO; dsimp only; omega) (by unfold R.BTN_DID_PROTO; dsimp only; omega)

theorem blk_BTN_DID_ROWSM1 (i : Nat) : blk (R.BTN_DID_ROWSM1 i).key = 11 := blk_of 11 (by decide) _ (by unfold R.BTN_DID_ROWSM1; dsimp only; omega)
  (by unfold R.BTN_DID_ROWSM1; dsimp only; omega) (by unfold R.BTN_DID_ROWSM1; dsimp only; omega)

theorem blk_BTN_DRES_RES (i : Nat) : blk (R.BTN_DRES_RES i).key = 11 := blk_of 11 (by decide) _ (by unfold R.BTN_DRES_RES; dsimp only; omega)
  (by unfold R.BTN_DRES_RES; dsimp only; omega) (by unfold R.BTN_DRES_RES; dsimp only; omega)

theorem blk_BTN_DRES_TRIMS (i : Nat) : blk (R.BTN_DRES_TRIMS i).key = 11 := blk_of 11 (by decide) _ (by unfold R.BTN_DRES_TRIMS; dsimp only; omega)
  (by unfold R.BTN_DRES_TRIMS; dsimp only; omega) (by unfold R.BTN_DRES_TRIMS; dsimp only; omega)

theorem blk_BTN_DSTAT_ALARM (i : Nat) : blk (R.BTN_DSTAT_ALARM i).key = 11 := blk_of 11 (by decide) _ (by unfold R.BTN_DSTAT_ALARM; dsimp only; omega)
  (by unfold R.BTN_DSTAT_ALARM; dsimp only; omega) (by unfold R.BTN_DSTAT_ALARM; dsimp only; omega)

theorem blk_BTN_DSTAT_CAPREJ (i : Nat) : blk (R.BTN_DSTAT_CAPREJ i).key = 11 := blk_of 11 (by decide) _ (by unfold R.BTN_DSTAT_CAPREJ; dsimp only; omega)
  (by unfold R.BTN_DSTAT_CAPREJ; dsimp only; omega) (by unfold R.BTN_DSTAT_CAPREJ; dsimp only; omega)

theorem blk_BTN_DSTAT_HUSHED (i : Nat) : blk (R.BTN_DSTAT_HUSHED i).key = 11 := blk_of 11 (by decide) _ (by unfold R.BTN_DSTAT_HUSHED; dsimp only; omega)
  (by unfold R.BTN_DSTAT_HUSHED; dsimp only; omega) (by unfold R.BTN_DSTAT_HUSHED; dsimp only; omega)

theorem blk_BTN_DSTAT_REPLOST (i : Nat) : blk (R.BTN_DSTAT_REPLOST i).key = 11 := blk_of 11 (by decide) _ (by unfold R.BTN_DSTAT_REPLOST; dsimp only; omega)
  (by unfold R.BTN_DSTAT_REPLOST; dsimp only; omega) (by unfold R.BTN_DSTAT_REPLOST; dsimp only; omega)

theorem blk_BTN_DSTAT_SILENT (i : Nat) : blk (R.BTN_DSTAT_SILENT i).key = 11 := blk_of 11 (by decide) _ (by unfold R.BTN_DSTAT_SILENT; dsimp only; omega)
  (by unfold R.BTN_DSTAT_SILENT; dsimp only; omega) (by unfold R.BTN_DSTAT_SILENT; dsimp only; omega)

theorem blk_BTN_EMFAIL_FAIL (i : Nat) : blk (R.BTN_EMFAIL_FAIL i).key = 11 := blk_of 11 (by decide) _ (by unfold R.BTN_EMFAIL_FAIL; dsimp only; omega)
  (by unfold R.BTN_EMFAIL_FAIL; dsimp only; omega) (by unfold R.BTN_EMFAIL_FAIL; dsimp only; omega)

theorem blk_BTN_RAUTO_AUTO (i : Nat) : blk (R.BTN_RAUTO_AUTO i).key = 11 := blk_of 11 (by decide) _ (by unfold R.BTN_RAUTO_AUTO; dsimp only; omega)
  (by unfold R.BTN_RAUTO_AUTO; dsimp only; omega) (by unfold R.BTN_RAUTO_AUTO; dsimp only; omega)

theorem blk_BTN_RERR_CRCERR (i : Nat) : blk (R.BTN_RERR_CRCERR i).key = 11 := blk_of 11 (by decide) _ (by unfold R.BTN_RERR_CRCERR; dsimp only; omega)
  (by unfold R.BTN_RERR_CRCERR; dsimp only; omega) (by unfold R.BTN_RERR_CRCERR; dsimp only; omega)

theorem blk_BTN_RERR_LOCKLOSS (i : Nat) : blk (R.BTN_RERR_LOCKLOSS i).key = 11 := blk_of 11 (by decide) _ (by unfold R.BTN_RERR_LOCKLOSS; dsimp only; omega)
  (by unfold R.BTN_RERR_LOCKLOSS; dsimp only; omega) (by unfold R.BTN_RERR_LOCKLOSS; dsimp only; omega)

theorem blk_BTN_RLOOP_LCCW (i : Nat) : blk (R.BTN_RLOOP_LCCW i).key = 11 := blk_of 11 (by decide) _ (by unfold R.BTN_RLOOP_LCCW; dsimp only; omega)
  (by unfold R.BTN_RLOOP_LCCW; dsimp only; omega) (by unfold R.BTN_RLOOP_LCCW; dsimp only; omega)

theorem blk_BTN_RLOOP_LCW (i : Nat) : blk (R.BTN_RLOOP_LCW i).key = 11 := blk_of 11 (by decide) _ (by unfold R.BTN_RLOOP_LCW; dsimp only; omega)
  (by unfold R.BTN_RLOOP_LCW; dsimp only; omega) (by unfold R.BTN_RLOOP_LCW; dsimp only; omega)

theorem blk_BTN_RSTAT_BREAK (i : Nat) : blk (R.BTN_RSTAT_BREAK i).key = 11 := blk_of 11 (by decide) _ (by unfold R.BTN_RSTAT_BREAK; dsimp only; omega)
  (by unfold R.BTN_RSTAT_BREAK; dsimp only; omega) (by unfold R.BTN_RSTAT_BREAK; dsimp only; omega)

theorem blk_BTN_RSTAT_CCWUP (i : Nat) : blk (R.BTN_RSTAT_CCWUP i).key = 11 := blk_of 11 (by decide) _ (by unfold R.BTN_RSTAT_CCWUP; dsimp only; omega)
  (by unfold R.BTN_RSTAT_CCWUP; dsimp only; omega) (by unfold R.BTN_RSTAT_CCWUP; dsimp only; omega)

theorem blk_BTN_RSTAT_CWUP (i : Nat) : blk (R.BTN_RSTAT_CWUP i).key = 11 := blk_of 11 (by decide) _ (by unfold R.BTN_RSTAT_CWUP; dsimp only; omega)
  (by unfold R.BTN_RSTAT_CWUP; dsimp only; omega) (by unfold R.BTN_RSTAT_CWUP; dsimp only; omega)

theorem blk_BTN_RSTAT_NDRV (i : Nat) : blk (R.BTN_RSTAT_NDRV i).key = 11 := blk_of 11 (by decide) _ (by unfold R.BTN_RSTAT_NDRV; dsimp only; omega)
  (by unfold R.BTN_RSTAT_NDRV; dsimp only; omega) (by unfold R.BTN_RSTAT_NDRV; dsimp only; omega)

theorem blk_DOG_UCAPS_CNT (i : Nat) : blk (R.DOG_UCAPS_CNT i).key = 15 := blk_of 15 (by decide) _ (by unfold R.DOG_UCAPS_CNT; dsimp only; omega)
  (by unfold R.DOG_UCAPS_CNT; dsimp only; omega) (by unfold R.DOG_UCAPS_CNT; dsimp only; omega)

theorem blk_DOG_ULATEPT_CNT (i : Nat) : blk (R.DOG_ULATEPT_CNT i).key = 15 := blk_of 15 (by decide) _ (by unfold R.DOG_ULATEPT_CNT; dsimp only; omega)
  (by unfold R.DOG_ULATEPT_CNT; dsimp only; omega) (by unfold R.DOG_ULATEPT_CNT; dsimp only; omega)

theorem blk_DOG_USKIPBUSY_CNT (i : Nat) : blk (R.DOG_USKIPBUSY_CNT i).key = 15 := blk_of 15 (by decide) _ (by unfold R.DOG_USKIPBUSY_CNT; dsimp only; omega)
  (by unfold R.DOG_USKIPBUSY_CNT; dsimp only; omega) (by unfold R.DOG_USKIPBUSY_CNT; dsimp only; omega)

theorem blk_DOG_USKIPRATE_CNT (i : Nat) : blk (R.DOG_USKIPRATE_CNT i).key = 15 := blk_of 15 (by decide) _ (by unfold R.DOG_USKIPRATE_CNT; dsimp only; omega)
  (by unfold R.DOG_USKIPRATE_CNT; dsimp only; omega) (by unfold R.DOG_USKIPRATE_CNT; dsimp only; omega)

theorem blk_DOG_USTAT_ARMED (i : Nat) : blk (R.DOG_USTAT_ARMED i).key = 15 := blk_of 15 (by decide) _ (by unfold R.DOG_USTAT_ARMED; dsimp only; omega)
  (by unfold R.DOG_USTAT_ARMED; dsimp only; omega) (by unfold R.DOG_USTAT_ARMED; dsimp only; omega)

theorem blk_DOG_USTAT_BUSY (i : Nat) : blk (R.DOG_USTAT_BUSY i).key = 15 := blk_of 15 (by decide) _ (by unfold R.DOG_USTAT_BUSY; dsimp only; omega)
  (by unfold R.DOG_USTAT_BUSY; dsimp only; omega) (by unfold R.DOG_USTAT_BUSY; dsimp only; omega)

theorem blk_DWL_PCFG_TRAIN (i : Nat) : blk (R.DWL_PCFG_TRAIN i).key = 20 := blk_of 20 (by decide) _ (by unfold R.DWL_PCFG_TRAIN; dsimp only; omega)
  (by unfold R.DWL_PCFG_TRAIN; dsimp only; omega) (by unfold R.DWL_PCFG_TRAIN; dsimp only; omega)

theorem blk_DWL_PINJ_CNT (i : Nat) : blk (R.DWL_PINJ_CNT i).key = 20 := blk_of 20 (by decide) _ (by unfold R.DWL_PINJ_CNT; dsimp only; omega)
  (by unfold R.DWL_PINJ_CNT; dsimp only; omega) (by unfold R.DWL_PINJ_CNT; dsimp only; omega)

theorem blk_DWL_PRXERR_CODE (i : Nat) : blk (R.DWL_PRXERR_CODE i).key = 20 := blk_of 20 (by decide) _ (by unfold R.DWL_PRXERR_CODE; dsimp only; omega)
  (by unfold R.DWL_PRXERR_CODE; dsimp only; omega) (by unfold R.DWL_PRXERR_CODE; dsimp only; omega)

theorem blk_DWL_PRXERR_CRC (i : Nat) : blk (R.DWL_PRXERR_CRC i).key = 20 := blk_of 20 (by decide) _ (by unfold R.DWL_PRXERR_CRC; dsimp only; omega)
  (by unfold R.DWL_PRXERR_CRC; dsimp only; omega) (by unfold R.DWL_PRXERR_CRC; dsimp only; omega)

theorem blk_DWL_PSTAT_AUTOPOL (i : Nat) : blk (R.DWL_PSTAT_AUTOPOL i).key = 20 := blk_of 20 (by decide) _ (by unfold R.DWL_PSTAT_AUTOPOL; dsimp only; omega)
  (by unfold R.DWL_PSTAT_AUTOPOL; dsimp only; omega) (by unfold R.DWL_PSTAT_AUTOPOL; dsimp only; omega)

theorem blk_DWL_PSTAT_BER (i : Nat) : blk (R.DWL_PSTAT_BER i).key = 20 := blk_of 20 (by decide) _ (by unfold R.DWL_PSTAT_BER; dsimp only; omega)
  (by unfold R.DWL_PSTAT_BER; dsimp only; omega) (by unfold R.DWL_PSTAT_BER; dsimp only; omega)

theorem blk_DWL_PSTAT_CTLE (i : Nat) : blk (R.DWL_PSTAT_CTLE i).key = 20 := blk_of 20 (by decide) _ (by unfold R.DWL_PSTAT_CTLE; dsimp only; omega)
  (by unfold R.DWL_PSTAT_CTLE; dsimp only; omega) (by unfold R.DWL_PSTAT_CTLE; dsimp only; omega)

theorem blk_DWL_PSTAT_FOM (i : Nat) : blk (R.DWL_PSTAT_FOM i).key = 20 := blk_of 20 (by decide) _ (by unfold R.DWL_PSTAT_FOM; dsimp only; omega)
  (by unfold R.DWL_PSTAT_FOM; dsimp only; omega) (by unfold R.DWL_PSTAT_FOM; dsimp only; omega)

theorem blk_DWL_PSTAT_LOCK (i : Nat) : blk (R.DWL_PSTAT_LOCK i).key = 20 := blk_of 20 (by decide) _ (by unfold R.DWL_PSTAT_LOCK; dsimp only; omega)
  (by unfold R.DWL_PSTAT_LOCK; dsimp only; omega) (by unfold R.DWL_PSTAT_LOCK; dsimp only; omega)

theorem blk_DWL_PSTAT_TRAINING (i : Nat) : blk (R.DWL_PSTAT_TRAINING i).key = 20 := blk_of 20 (by decide) _ (by unfold R.DWL_PSTAT_TRAINING; dsimp only; omega)
  (by unfold R.DWL_PSTAT_TRAINING; dsimp only; omega) (by unfold R.DWL_PSTAT_TRAINING; dsimp only; omega)

theorem blk_DWL_PTEST_MODE (i : Nat) : blk (R.DWL_PTEST_MODE i).key = 20 := blk_of 20 (by decide) _ (by unfold R.DWL_PTEST_MODE; dsimp only; omega)
  (by unfold R.DWL_PTEST_MODE; dsimp only; omega) (by unfold R.DWL_PTEST_MODE; dsimp only; omega)

theorem blk_DWL_PTEST_N (i : Nat) : blk (R.DWL_PTEST_N i).key = 20 := blk_of 20 (by decide) _ (by unfold R.DWL_PTEST_N; dsimp only; omega)
  (by unfold R.DWL_PTEST_N; dsimp only; omega) (by unfold R.DWL_PTEST_N; dsimp only; omega)

theorem blk_DWL_PTIEERR_BADTYPE (i : Nat) : blk (R.DWL_PTIEERR_BADTYPE i).key = 20 := blk_of 20 (by decide) _ (by unfold R.DWL_PTIEERR_BADTYPE; dsimp only; omega)
  (by unfold R.DWL_PTIEERR_BADTYPE; dsimp only; omega) (by unfold R.DWL_PTIEERR_BADTYPE; dsimp only; omega)

theorem blk_DWL_PTIEERR_LINKLOSS (i : Nat) : blk (R.DWL_PTIEERR_LINKLOSS i).key = 20 := blk_of 20 (by decide) _ (by unfold R.DWL_PTIEERR_LINKLOSS; dsimp only; omega)
  (by unfold R.DWL_PTIEERR_LINKLOSS; dsimp only; omega) (by unfold R.DWL_PTIEERR_LINKLOSS; dsimp only; omega)

theorem blk_DWL_PTIEERR_OOS (i : Nat) : blk (R.DWL_PTIEERR_OOS i).key = 20 := blk_of 20 (by decide) _ (by unfold R.DWL_PTIEERR_OOS; dsimp only; omega)
  (by unfold R.DWL_PTIEERR_OOS; dsimp only; omega) (by unfold R.DWL_PTIEERR_OOS; dsimp only; omega)

theorem blk_DWL_PTIEERR_RETRY (i : Nat) : blk (R.DWL_PTIEERR_RETRY i).key = 20 := blk_of 20 (by decide) _ (by unfold R.DWL_PTIEERR_RETRY; dsimp only; omega)
  (by unfold R.DWL_PTIEERR_RETRY; dsimp only; omega) (by unfold R.DWL_PTIEERR_RETRY; dsimp only; omega)

theorem blk_FLT_HBMCOR_CNT (i : Nat) : blk (R.FLT_HBMCOR_CNT i).key = 23 := blk_of 23 (by decide) _ (by unfold R.FLT_HBMCOR_CNT; dsimp only; omega)
  (by unfold R.FLT_HBMCOR_CNT; dsimp only; omega) (by unfold R.FLT_HBMCOR_CNT; dsimp only; omega)

theorem blk_FLT_HBMSPARE_REFUSED (i : Nat) : blk (R.FLT_HBMSPARE_REFUSED i).key = 23 := blk_of 23 (by decide) _ (by unfold R.FLT_HBMSPARE_REFUSED; dsimp only; omega)
  (by unfold R.FLT_HBMSPARE_REFUSED; dsimp only; omega) (by unfold R.FLT_HBMSPARE_REFUSED; dsimp only; omega)

theorem blk_FLT_HBMSPARE_SPARED (i : Nat) : blk (R.FLT_HBMSPARE_SPARED i).key = 23 := blk_of 23 (by decide) _ (by unfold R.FLT_HBMSPARE_SPARED; dsimp only; omega)
  (by unfold R.FLT_HBMSPARE_SPARED; dsimp only; omega) (by unfold R.FLT_HBMSPARE_SPARED; dsimp only; omega)

theorem blk_FLT_HBMUNC_CNT (i : Nat) : blk (R.FLT_HBMUNC_CNT i).key = 23 := blk_of 23 (by decide) _ (by unfold R.FLT_HBMUNC_CNT; dsimp only; omega)
  (by unfold R.FLT_HBMUNC_CNT; dsimp only; omega) (by unfold R.FLT_HBMUNC_CNT; dsimp only; omega)

theorem blk_FLT_RDDATA_DATA (i : Nat) : blk (R.FLT_RDDATA_DATA i).key = 23 := blk_of 23 (by decide) _ (by unfold R.FLT_RDDATA_DATA; dsimp only; omega)
  (by unfold R.FLT_RDDATA_DATA; dsimp only; omega) (by unfold R.FLT_RDDATA_DATA; dsimp only; omega)

theorem blk_GRT_RIGHTS_RIGHTS (i : Nat) : blk (R.GRT_RIGHTS_RIGHTS i).key = 22 := blk_of 22 (by decide) _ (by unfold R.GRT_RIGHTS_RIGHTS; dsimp only; omega)
  (by unfold R.GRT_RIGHTS_RIGHTS; dsimp only; omega) (by unfold R.GRT_RIGHTS_RIGHTS; dsimp only; omega)

theorem blk_GRT_WINBASE_BASE (i : Nat) : blk (R.GRT_WINBASE_BASE i).key = 22 := blk_of 22 (by decide) _ (by unfold R.GRT_WINBASE_BASE; dsimp only; omega)
  (by unfold R.GRT_WINBASE_BASE; dsimp only; omega) (by unfold R.GRT_WINBASE_BASE; dsimp only; omega)

theorem blk_GRT_WINBASE_EN (i : Nat) : blk (R.GRT_WINBASE_EN i).key = 22 := blk_of 22 (by decide) _ (by unfold R.GRT_WINBASE_EN; dsimp only; omega)
  (by unfold R.GRT_WINBASE_EN; dsimp only; omega) (by unfold R.GRT_WINBASE_EN; dsimp only; omega)

theorem blk_GRT_WINLAST_LAST (i : Nat) : blk (R.GRT_WINLAST_LAST i).key = 22 := blk_of 22 (by decide) _ (by unfold R.GRT_WINLAST_LAST; dsimp only; omega)
  (by unfold R.GRT_WINLAST_LAST; dsimp only; omega) (by unfold R.GRT_WINLAST_LAST; dsimp only; omega)

theorem blk_HIF_CRLASTHI_CID (i : Nat) : blk (R.HIF_CRLASTHI_CID i).key = 18 := blk_of 18 (by decide) _ (by unfold R.HIF_CRLASTHI_CID; dsimp only; omega)
  (by unfold R.HIF_CRLASTHI_CID; dsimp only; omega) (by unfold R.HIF_CRLASTHI_CID; dsimp only; omega)

theorem blk_HIF_CRLASTLO_CID (i : Nat) : blk (R.HIF_CRLASTLO_CID i).key = 18 := blk_of 18 (by decide) _ (by unfold R.HIF_CRLASTLO_CID; dsimp only; omega)
  (by unfold R.HIF_CRLASTLO_CID; dsimp only; omega) (by unfold R.HIF_CRLASTLO_CID; dsimp only; omega)

theorem blk_HIF_CRSTAT_BUSY (i : Nat) : blk (R.HIF_CRSTAT_BUSY i).key = 18 := blk_of 18 (by decide) _ (by unfold R.HIF_CRSTAT_BUSY; dsimp only; omega)
  (by unfold R.HIF_CRSTAT_BUSY; dsimp only; omega) (by unfold R.HIF_CRSTAT_BUSY; dsimp only; omega)

theorem blk_HIF_CRSTAT_HEAD (i : Nat) : blk (R.HIF_CRSTAT_HEAD i).key = 18 := blk_of 18 (by decide) _ (by unfold R.HIF_CRSTAT_HEAD; dsimp only; omega)
  (by unfold R.HIF_CRSTAT_HEAD; dsimp only; omega) (by unfold R.HIF_CRSTAT_HEAD; dsimp only; omega)

theorem blk_HIF_CRSTAT_OPCODE (i : Nat) : blk (R.HIF_CRSTAT_OPCODE i).key = 18 := blk_of 18 (by decide) _ (by unfold R.HIF_CRSTAT_OPCODE; dsimp only; omega)
  (by unfold R.HIF_CRSTAT_OPCODE; dsimp only; omega) (by unfold R.HIF_CRSTAT_OPCODE; dsimp only; omega)

theorem blk_HIF_CRSTAT_WEDGED (i : Nat) : blk (R.HIF_CRSTAT_WEDGED i).key = 18 := blk_of 18 (by decide) _ (by unfold R.HIF_CRSTAT_WEDGED; dsimp only; omega)
  (by unfold R.HIF_CRSTAT_WEDGED; dsimp only; omega) (by unfold R.HIF_CRSTAT_WEDGED; dsimp only; omega)

theorem blk_HIF_QSTATE_STATE (i : Nat) : blk (R.HIF_QSTATE_STATE i).key = 18 := blk_of 18 (by decide) _ (by unfold R.HIF_QSTATE_STATE; dsimp only; omega)
  (by unfold R.HIF_QSTATE_STATE; dsimp only; omega) (by unfold R.HIF_QSTATE_STATE; dsimp only; omega)

theorem blk_JST_CLENG_INSVC (i : Nat) : blk (R.JST_CLENG_INSVC i).key = 7 := blk_of 7 (by decide) _ (by unfold R.JST_CLENG_INSVC; dsimp only; omega)
  (by unfold R.JST_CLENG_INSVC; dsimp only; omega) (by unfold R.JST_CLENG_INSVC; dsimp only; omega)

theorem blk_JST_CLSTAT_FAULTS (i : Nat) : blk (R.JST_CLSTAT_FAULTS i).key = 7 := blk_of 7 (by decide) _ (by unfold R.JST_CLSTAT_FAULTS; dsimp only; omega)
  (by unfold R.JST_CLSTAT_FAULTS; dsimp only; omega) (by unfold R.JST_CLSTAT_FAULTS; dsimp only; omega)

theorem blk_JST_CLSTAT_NENG (i : Nat) : blk (R.JST_CLSTAT_NENG i).key = 7 := blk_of 7 (by decide) _ (by unfold R.JST_CLSTAT_NENG; dsimp only; omega)
  (by unfold R.JST_CLSTAT_NENG; dsimp only; omega) (by unfold R.JST_CLSTAT_NENG; dsimp only; omega)

theorem blk_JST_CLSTAT_STATE (i : Nat) : blk (R.JST_CLSTAT_STATE i).key = 7 := blk_of 7 (by decide) _ (by unfold R.JST_CLSTAT_STATE; dsimp only; omega)
  (by unfold R.JST_CLSTAT_STATE; dsimp only; omega) (by unfold R.JST_CLSTAT_STATE; dsimp only; omega)

theorem blk_JST_ZONESEL_SLOT (i : Nat) : blk (R.JST_ZONESEL_SLOT i).key = 7 := blk_of 7 (by decide) _ (by unfold R.JST_ZONESEL_SLOT; dsimp only; omega)
  (by unfold R.JST_ZONESEL_SLOT; dsimp only; omega) (by unfold R.JST_ZONESEL_SLOT; dsimp only; omega)

theorem blk_KRF_CHCFG_TDCFAIL (i : Nat) : blk (R.KRF_CHCFG_TDCFAIL i).key = 4 := blk_of 4 (by decide) _ (by unfold R.KRF_CHCFG_TDCFAIL; dsimp only; omega)
  (by unfold R.KRF_CHCFG_TDCFAIL; dsimp only; omega) (by unfold R.KRF_CHCFG_TDCFAIL; dsimp only; omega)

theorem blk_KRF_CHSTAT_FAST (i : Nat) : blk (R.KRF_CHSTAT_FAST i).key = 4 := blk_of 4 (by decide) _ (by unfold R.KRF_CHSTAT_FAST; dsimp only; omega)
  (by unfold R.KRF_CHSTAT_FAST; dsimp only; omega) (by unfold R.KRF_CHSTAT_FAST; dsimp only; omega)

theorem blk_KRF_CHSTAT_MASKED (i : Nat) : blk (R.KRF_CHSTAT_MASKED i).key = 4 := blk_of 4 (by decide) _ (by unfold R.KRF_CHSTAT_MASKED; dsimp only; omega)
  (by unfold R.KRF_CHSTAT_MASKED; dsimp only; omega) (by unfold R.KRF_CHSTAT_MASKED; dsimp only; omega)

theorem blk_KRF_CHSTAT_SPARE (i : Nat) : blk (R.KRF_CHSTAT_SPARE i).key = 4 := blk_of 4 (by decide) _ (by unfold R.KRF_CHSTAT_SPARE; dsimp only; omega)
  (by unfold R.KRF_CHSTAT_SPARE; dsimp only; omega) (by unfold R.KRF_CHSTAT_SPARE; dsimp only; omega)

theorem blk_KRF_CHSTAT_STUCK (i : Nat) : blk (R.KRF_CHSTAT_STUCK i).key = 4 := blk_of 4 (by decide) _ (by unfold R.KRF_CHSTAT_STUCK; dsimp only; omega)
  (by unfold R.KRF_CHSTAT_STUCK; dsimp only; omega) (by unfold R.KRF_CHSTAT_STUCK; dsimp only; omega)

theorem blk_KRF_CHSTAT_TDCFAIL (i : Nat) : blk (R.KRF_CHSTAT_TDCFAIL i).key = 4 := blk_of 4 (by decide) _ (by unfold R.KRF_CHSTAT_TDCFAIL; dsimp only; omega)
  (by unfold R.KRF_CHSTAT_TDCFAIL; dsimp only; omega) (by unfold R.KRF_CHSTAT_TDCFAIL; dsimp only; omega)

theorem blk_KRF_DEADCNT_CNT (i : Nat) : blk (R.KRF_DEADCNT_CNT i).key = 4 := blk_of 4 (by decide) _ (by unfold R.KRF_DEADCNT_CNT; dsimp only; omega)
  (by unfold R.KRF_DEADCNT_CNT; dsimp only; omega) (by unfold R.KRF_DEADCNT_CNT; dsimp only; omega)

theorem blk_KRF_DROP_CNT (i : Nat) : blk (R.KRF_DROP_CNT i).key = 4 := blk_of 4 (by decide) _ (by unfold R.KRF_DROP_CNT; dsimp only; omega)
  (by unfold R.KRF_DROP_CNT; dsimp only; omega) (by unfold R.KRF_DROP_CNT; dsimp only; omega)

theorem blk_KRF_EVCNT_CNT (i : Nat) : blk (R.KRF_EVCNT_CNT i).key = 4 := blk_of 4 (by decide) _ (by unfold R.KRF_EVCNT_CNT; dsimp only; omega)
  (by unfold R.KRF_EVCNT_CNT; dsimp only; omega) (by unfold R.KRF_EVCNT_CNT; dsimp only; omega)

theorem blk_KRF_GLASTHI_LAST (i : Nat) : blk (R.KRF_GLASTHI_LAST i).key = 4 := blk_of 4 (by decide) _ (by unfold R.KRF_GLASTHI_LAST; dsimp only; omega)
  (by unfold R.KRF_GLASTHI_LAST; dsimp only; omega) (by unfold R.KRF_GLASTHI_LAST; dsimp only; omega)

theorem blk_KRF_GLASTLO_LAST (i : Nat) : blk (R.KRF_GLASTLO_LAST i).key = 4 := blk_of 4 (by decide) _ (by unfold R.KRF_GLASTLO_LAST; dsimp only; omega)
  (by unfold R.KRF_GLASTLO_LAST; dsimp only; omega) (by unfold R.KRF_GLASTLO_LAST; dsimp only; omega)

theorem blk_KRF_GMAXHI_MAX (i : Nat) : blk (R.KRF_GMAXHI_MAX i).key = 4 := blk_of 4 (by decide) _ (by unfold R.KRF_GMAXHI_MAX; dsimp only; omega)
  (by unfold R.KRF_GMAXHI_MAX; dsimp only; omega) (by unfold R.KRF_GMAXHI_MAX; dsimp only; omega)

theorem blk_KRF_GMAXLO_MAX (i : Nat) : blk (R.KRF_GMAXLO_MAX i).key = 4 := blk_of 4 (by decide) _ (by unfold R.KRF_GMAXLO_MAX; dsimp only; omega)
  (by unfold R.KRF_GMAXLO_MAX; dsimp only; omega) (by unfold R.KRF_GMAXLO_MAX; dsimp only; omega)

theorem blk_KRF_GMEANHI_MEAN (i : Nat) : blk (R.KRF_GMEANHI_MEAN i).key = 4 := blk_of 4 (by decide) _ (by unfold R.KRF_GMEANHI_MEAN; dsimp only; omega)
  (by unfold R.KRF_GMEANHI_MEAN; dsimp only; omega) (by unfold R.KRF_GMEANHI_MEAN; dsimp only; omega)

theorem blk_KRF_GMEANLO_MEAN (i : Nat) : blk (R.KRF_GMEANLO_MEAN i).key = 4 := blk_of 4 (by decide) _ (by unfold R.KRF_GMEANLO_MEAN; dsimp only; omega)
  (by unfold R.KRF_GMEANLO_MEAN; dsimp only; omega) (by unfold R.KRF_GMEANLO_MEAN; dsimp only; omega)

theorem blk_KRF_GMINHI_MIN (i : Nat) : blk (R.KRF_GMINHI_MIN i).key = 4 := blk_of 4 (by decide) _ (by unfold R.KRF_GMINHI_MIN; dsimp only; omega)
  (by unfold R.KRF_GMINHI_MIN; dsimp only; omega) (by unfold R.KRF_GMINHI_MIN; dsimp only; omega)

theorem blk_KRF_GMINLO_MIN (i : Nat) : blk (R.KRF_GMINLO_MIN i).key = 4 := blk_of 4 (by decide) _ (by unfold R.KRF_GMINLO_MIN; dsimp only; omega)
  (by unfold R.KRF_GMINLO_MIN; dsimp only; omega) (by unfold R.KRF_GMINLO_MIN; dsimp only; omega)

theorem blk_KRF_GOVF_DEADCNT (i : Nat) : blk (R.KRF_GOVF_DEADCNT i).key = 4 := blk_of 4 (by decide) _ (by unfold R.KRF_GOVF_DEADCNT; dsimp only; omega)
  (by unfold R.KRF_GOVF_DEADCNT; dsimp only; omega) (by unfold R.KRF_GOVF_DEADCNT; dsimp only; omega)

theorem blk_KRF_GOVF_OVFCNT (i : Nat) : blk (R.KRF_GOVF_OVFCNT i).key = 4 := blk_of 4 (by decide) _ (by unfold R.KRF_GOVF_OVFCNT; dsimp only; omega)
  (by unfold R.KRF_GOVF_OVFCNT; dsimp only; omega) (by unfold R.KRF_GOVF_OVFCNT; dsimp only; omega)

theorem blk_KRF_GSDEVHI_SDEV (i : Nat) : blk (R.KRF_GSDEVHI_SDEV i).key = 4 := blk_of 4 (by decide) _ (by unfold R.KRF_GSDEVHI_SDEV; dsimp only; omega)
  (by unfold R.KRF_GSDEVHI_SDEV; dsimp only; omega) (by unfold R.KRF_GSDEVHI_SDEV; dsimp only; omega)

theorem blk_KRF_GSDEVLO_SDEV (i : Nat) : blk (R.KRF_GSDEVLO_SDEV i).key = 4 := blk_of 4 (by decide) _ (by unfold R.KRF_GSDEVLO_SDEV; dsimp only; omega)
  (by unfold R.KRF_GSDEVLO_SDEV; dsimp only; omega) (by unfold R.KRF_GSDEVLO_SDEV; dsimp only; omega)

theorem blk_KRF_GSTAT_BUSY (i : Nat) : blk (R.KRF_GSTAT_BUSY i).key = 4 := blk_of 4 (by decide) _ (by unfold R.KRF_GSTAT_BUSY; dsimp only; omega)
  (by unfold R.KRF_GSTAT_BUSY; dsimp only; omega) (by unfold R.KRF_GSTAT_BUSY; dsimp only; omega)

theorem blk_KRF_GSTAT_CNT (i : Nat) : blk (R.KRF_GSTAT_CNT i).key = 4 := blk_of 4 (by decide) _ (by unfold R.KRF_GSTAT_CNT; dsimp only; omega)
  (by unfold R.KRF_GSTAT_CNT; dsimp only; omega) (by unfold R.KRF_GSTAT_CNT; dsimp only; omega)

theorem blk_KRF_GSTAT_DONE (i : Nat) : blk (R.KRF_GSTAT_DONE i).key = 4 := blk_of 4 (by decide) _ (by unfold R.KRF_GSTAT_DONE; dsimp only; omega)
  (by unfold R.KRF_GSTAT_DONE; dsimp only; omega) (by unfold R.KRF_GSTAT_DONE; dsimp only; omega)

theorem blk_KRF_GSTAT_FIFO (i : Nat) : blk (R.KRF_GSTAT_FIFO i).key = 4 := blk_of 4 (by decide) _ (by unfold R.KRF_GSTAT_FIFO; dsimp only; omega)
  (by unfold R.KRF_GSTAT_FIFO; dsimp only; omega) (by unfold R.KRF_GSTAT_FIFO; dsimp only; omega)

theorem blk_KRF_GSTAT_OVF (i : Nat) : blk (R.KRF_GSTAT_OVF i).key = 4 := blk_of 4 (by decide) _ (by unfold R.KRF_GSTAT_OVF; dsimp only; omega)
  (by unfold R.KRF_GSTAT_OVF; dsimp only; omega) (by unfold R.KRF_GSTAT_OVF; dsimp only; omega)

theorem blk_KRF_GTSHI_TS (i : Nat) : blk (R.KRF_GTSHI_TS i).key = 4 := blk_of 4 (by decide) _ (by unfold R.KRF_GTSHI_TS; dsimp only; omega)
  (by unfold R.KRF_GTSHI_TS; dsimp only; omega) (by unfold R.KRF_GTSHI_TS; dsimp only; omega)

theorem blk_KRF_GTSLO_TS (i : Nat) : blk (R.KRF_GTSLO_TS i).key = 4 := blk_of 4 (by decide) _ (by unfold R.KRF_GTSLO_TS; dsimp only; omega)
  (by unfold R.KRF_GTSLO_TS; dsimp only; omega) (by unfold R.KRF_GTSLO_TS; dsimp only; omega)

theorem blk_KRF_SPARE_AUTO (i : Nat) : blk (R.KRF_SPARE_AUTO i).key = 4 := blk_of 4 (by decide) _ (by unfold R.KRF_SPARE_AUTO; dsimp only; omega)
  (by unfold R.KRF_SPARE_AUTO; dsimp only; omega) (by unfold R.KRF_SPARE_AUTO; dsimp only; omega)

theorem blk_KRF_SPARE_CH (i : Nat) : blk (R.KRF_SPARE_CH i).key = 4 := blk_of 4 (by decide) _ (by unfold R.KRF_SPARE_CH; dsimp only; omega)
  (by unfold R.KRF_SPARE_CH; dsimp only; omega) (by unfold R.KRF_SPARE_CH; dsimp only; omega)

theorem blk_KRF_SPARE_MODE (i : Nat) : blk (R.KRF_SPARE_MODE i).key = 4 := blk_of 4 (by decide) _ (by unfold R.KRF_SPARE_MODE; dsimp only; omega)
  (by unfold R.KRF_SPARE_MODE; dsimp only; omega) (by unfold R.KRF_SPARE_MODE; dsimp only; omega)

theorem blk_KRF_SPARE_ROTATE (i : Nat) : blk (R.KRF_SPARE_ROTATE i).key = 4 := blk_of 4 (by decide) _ (by unfold R.KRF_SPARE_ROTATE; dsimp only; omega)
  (by unfold R.KRF_SPARE_ROTATE; dsimp only; omega) (by unfold R.KRF_SPARE_ROTATE; dsimp only; omega)

theorem blk_KRF_SPSTAT_CURCH (i : Nat) : blk (R.KRF_SPSTAT_CURCH i).key = 4 := blk_of 4 (by decide) _ (by unfold R.KRF_SPSTAT_CURCH; dsimp only; omega)
  (by unfold R.KRF_SPSTAT_CURCH; dsimp only; omega) (by unfold R.KRF_SPSTAT_CURCH; dsimp only; omega)

theorem blk_KRF_SPSTAT_MISCNT (i : Nat) : blk (R.KRF_SPSTAT_MISCNT i).key = 4 := blk_of 4 (by decide) _ (by unfold R.KRF_SPSTAT_MISCNT; dsimp only; omega)
  (by unfold R.KRF_SPSTAT_MISCNT; dsimp only; omega) (by unfold R.KRF_SPSTAT_MISCNT; dsimp only; omega)

theorem blk_KRF_SPSTAT_NOREPAIR (i : Nat) : blk (R.KRF_SPSTAT_NOREPAIR i).key = 4 := blk_of 4 (by decide) _ (by unfold R.KRF_SPSTAT_NOREPAIR; dsimp only; omega)
  (by unfold R.KRF_SPSTAT_NOREPAIR; dsimp only; omega) (by unfold R.KRF_SPSTAT_NOREPAIR; dsimp only; omega)

theorem blk_KRF_SPSTAT_SPFAIL (i : Nat) : blk (R.KRF_SPSTAT_SPFAIL i).key = 4 := blk_of 4 (by decide) _ (by unfold R.KRF_SPSTAT_SPFAIL; dsimp only; omega)
  (by unfold R.KRF_SPSTAT_SPFAIL; dsimp only; omega) (by unfold R.KRF_SPSTAT_SPFAIL; dsimp only; omega)

theorem blk_KRF_SPSTAT_TAKEN (i : Nat) : blk (R.KRF_SPSTAT_TAKEN i).key = 4 := blk_of 4 (by decide) _ (by unfold R.KRF_SPSTAT_TAKEN; dsimp only; omega)
  (by unfold R.KRF_SPSTAT_TAKEN; dsimp only; omega) (by unfold R.KRF_SPSTAT_TAKEN; dsimp only; omega)

theorem blk_MSIX_PENDING (i : Nat) : blk (R.MSIX_PENDING i).key = 25 := by
  have h4 : R.GLB_INTCTL_ARMED.key < 2097152 := by decide
  have h : (R.MSIX_PENDING i).key = 32768000 + i % 2048 := rfl
  unfold blk
  rw [if_neg (by omega), if_pos (by omega)]

theorem blk_PEG_FOREIGN_CH (i : Nat) : blk (R.PEG_FOREIGN_CH i).key = 5 := blk_of 5 (by decide) _ (by unfold R.PEG_FOREIGN_CH; dsimp only; omega)
  (by unfold R.PEG_FOREIGN_CH; dsimp only; omega) (by unfold R.PEG_FOREIGN_CH; dsimp only; omega)

theorem blk_PLB_CDQ_DNL (i : Nat) : blk (R.PLB_CDQ_DNL i).key = 17 := blk_of 17 (by decide) _ (by unfold R.PLB_CDQ_DNL; dsimp only; omega)
  (by unfold R.PLB_CDQ_DNL; dsimp only; omega) (by unfold R.PLB_CDQ_DNL; dsimp only; omega)

theorem blk_PLB_CDQ_FAIL (i : Nat) : blk (R.PLB_CDQ_FAIL i).key = 17 := blk_of 17 (by decide) _ (by unfold R.PLB_CDQ_FAIL; dsimp only; omega)
  (by unfold R.PLB_CDQ_FAIL; dsimp only; omega) (by unfold R.PLB_CDQ_FAIL; dsimp only; omega)

theorem blk_PLB_CDQ_INL (i : Nat) : blk (R.PLB_CDQ_INL i).key = 17 := blk_of 17 (by decide) _ (by unfold R.PLB_CDQ_INL; dsimp only; omega)
  (by unfold R.PLB_CDQ_INL; dsimp only; omega) (by unfold R.PLB_CDQ_INL; dsimp only; omega)

theorem blk_PLB_CDQ_QUIET (i : Nat) : blk (R.PLB_CDQ_QUIET i).key = 17 := blk_of 17 (by decide) _ (by unfold R.PLB_CDQ_QUIET; dsimp only; omega)
  (by unfold R.PLB_CDQ_QUIET; dsimp only; omega) (by unfold R.PLB_CDQ_QUIET; dsimp only; omega)

theorem blk_PLB_CDQ_SRC (i : Nat) : blk (R.PLB_CDQ_SRC i).key = 17 := blk_of 17 (by decide) _ (by unfold R.PLB_CDQ_SRC; dsimp only; omega)
  (by unfold R.PLB_CDQ_SRC; dsimp only; omega) (by unfold R.PLB_CDQ_SRC; dsimp only; omega)

theorem blk_PLB_QUIET_CH (i : Nat) : blk (R.PLB_QUIET_CH i).key = 17 := blk_of 17 (by decide) _ (by unfold R.PLB_QUIET_CH; dsimp only; omega)
  (by unfold R.PLB_QUIET_CH; dsimp only; omega) (by unfold R.PLB_QUIET_CH; dsimp only; omega)

theorem blk_PLB_RZDZ_DZ (i : Nat) : blk (R.PLB_RZDZ_DZ i).key = 17 := blk_of 17 (by decide) _ (by unfold R.PLB_RZDZ_DZ; dsimp only; omega)
  (by unfold R.PLB_RZDZ_DZ; dsimp only; omega) (by unfold R.PLB_RZDZ_DZ; dsimp only; omega)

theorem blk_PLB_RZDZ_NSAMP (i : Nat) : blk (R.PLB_RZDZ_NSAMP i).key = 17 := blk_of 17 (by decide) _ (by unfold R.PLB_RZDZ_NSAMP; dsimp only; omega)
  (by unfold R.PLB_RZDZ_NSAMP; dsimp only; omega) (by unfold R.PLB_RZDZ_NSAMP; dsimp only; omega)

theorem blk_PUR_CHCFG_RUN (i : Nat) : blk (R.PUR_CHCFG_RUN i).key = 19 := blk_of 19 (by decide) _ (by unfold R.PUR_CHCFG_RUN; dsimp only; omega)
  (by unfold R.PUR_CHCFG_RUN; dsimp only; omega) (by unfold R.PUR_CHCFG_RUN; dsimp only; omega)

theorem blk_PUR_CHERR_ERRS (i : Nat) : blk (R.PUR_CHERR_ERRS i).key = 19 := blk_of 19 (by decide) _ (by unfold R.PUR_CHERR_ERRS; dsimp only; omega)
  (by unfold R.PUR_CHERR_ERRS; dsimp only; omega) (by unfold R.PUR_CHERR_ERRS; dsimp only; omega)

theorem blk_PUR_CHERR_LATE (i : Nat) : blk (R.PUR_CHERR_LATE i).key = 19 := blk_of 19 (by decide) _ (by unfold R.PUR_CHERR_LATE; dsimp only; omega)
  (by unfold R.PUR_CHERR_LATE; dsimp only; omega) (by unfold R.PUR_CHERR_LATE; dsimp only; omega)

theorem blk_PUR_CHSTAT_HEAD (i : Nat) : blk (R.PUR_CHSTAT_HEAD i).key = 19 := blk_of 19 (by decide) _ (by unfold R.PUR_CHSTAT_HEAD; dsimp only; omega)
  (by unfold R.PUR_CHSTAT_HEAD; dsimp only; omega) (by unfold R.PUR_CHSTAT_HEAD; dsimp only; omega)

theorem blk_PUR_CHSTAT_STATE (i : Nat) : blk (R.PUR_CHSTAT_STATE i).key = 19 := blk_of 19 (by decide) _ (by unfold R.PUR_CHSTAT_STATE; dsimp only; omega)
  (by unfold R.PUR_CHSTAT_STATE; dsimp only; omega) (by unfold R.PUR_CHSTAT_STATE; dsimp only; omega)

theorem blk_PUR_CHSTAT_WEDGED (i : Nat) : blk (R.PUR_CHSTAT_WEDGED i).key = 19 := blk_of 19 (by decide) _ (by unfold R.PUR_CHSTAT_WEDGED; dsimp only; omega)
  (by unfold R.PUR_CHSTAT_WEDGED; dsimp only; omega) (by unfold R.PUR_CHSTAT_WEDGED; dsimp only; omega)

theorem blk_SIL_CORGAIN_GAIN (i : Nat) : blk (R.SIL_CORGAIN_GAIN i).key = 16 := blk_of 16 (by decide) _ (by unfold R.SIL_CORGAIN_GAIN; dsimp only; omega)
  (by unfold R.SIL_CORGAIN_GAIN; dsimp only; omega) (by unfold R.SIL_CORGAIN_GAIN; dsimp only; omega)

theorem blk_SIL_COROFS_OFS (i : Nat) : blk (R.SIL_COROFS_OFS i).key = 16 := blk_of 16 (by decide) _ (by unfold R.SIL_COROFS_OFS; dsimp only; omega)
  (by unfold R.SIL_COROFS_OFS; dsimp only; omega) (by unfold R.SIL_COROFS_OFS; dsimp only; omega)

theorem blk_SIL_RES_CLAMP (i : Nat) : blk (R.SIL_RES_CLAMP i).key = 16 := blk_of 16 (by decide) _ (by unfold R.SIL_RES_CLAMP; dsimp only; omega)
  (by unfold R.SIL_RES_CLAMP; dsimp only; omega) (by unfold R.SIL_RES_CLAMP; dsimp only; omega)

theorem blk_SIL_RES_EXCF (i : Nat) : blk (R.SIL_RES_EXCF i).key = 16 := blk_of 16 (by decide) _ (by unfold R.SIL_RES_EXCF; dsimp only; omega)
  (by unfold R.SIL_RES_EXCF; dsimp only; omega) (by unfold R.SIL_RES_EXCF; dsimp only; omega)

theorem blk_SIL_RES_NBR (i : Nat) : blk (R.SIL_RES_NBR i).key = 16 := blk_of 16 (by decide) _ (by unfold R.SIL_RES_NBR; dsimp only; omega)
  (by unfold R.SIL_RES_NBR; dsimp only; omega) (by unfold R.SIL_RES_NBR; dsimp only; omega)

theorem blk_SIL_RES_NEW (i : Nat) : blk (R.SIL_RES_NEW i).key = 16 := blk_of 16 (by decide) _ (by unfold R.SIL_RES_NEW; dsimp only; omega)
  (by unfold R.SIL_RES_NEW; dsimp only; omega) (by unfold R.SIL_RES_NEW; dsimp only; omega)

theorem blk_SIL_RES_NOREF (i : Nat) : blk (R.SIL_RES_NOREF i).key = 16 := blk_of 16 (by decide) _ (by unfold R.SIL_RES_NOREF; dsimp only; omega)
  (by unfold R.SIL_RES_NOREF; dsimp only; omega) (by unfold R.SIL_RES_NOREF; dsimp only; omega)

theorem blk_SIL_RES_OVR (i : Nat) : blk (R.SIL_RES_OVR i).key = 16 := blk_of 16 (by decide) _ (by unfold R.SIL_RES_OVR; dsimp only; omega)
  (by unfold R.SIL_RES_OVR; dsimp only; omega) (by unfold R.SIL_RES_OVR; dsimp only; omega)

theorem blk_SIL_RES_RESULT (i : Nat) : blk (R.SIL_RES_RESULT i).key = 16 := blk_of 16 (by decide) _ (by unfold R.SIL_RES_RESULT; dsimp only; omega)
  (by unfold R.SIL_RES_RESULT; dsimp only; omega) (by unfold R.SIL_RES_RESULT; dsimp only; omega)

theorem blk_SIL_RES_WB (i : Nat) : blk (R.SIL_RES_WB i).key = 16 := blk_of 16 (by decide) _ (by unfold R.SIL_RES_WB; dsimp only; omega)
  (by unfold R.SIL_RES_WB; dsimp only; omega) (by unfold R.SIL_RES_WB; dsimp only; omega)

theorem blk_THM_SENS_FAILED (i : Nat) : blk (R.THM_SENS_FAILED i).key = 2 := by
  have h : R.GLB_INTCTL_ARMED.key < 524288 := by decide
  have h1 : 1048576 ≤ (R.THM_SENS_FAILED i).key ∧ (R.THM_SENS_FAILED i).key < 1572864 := by unfold R.THM_SENS_FAILED; dsimp only; omega
  have h2 : (R.THM_SENS_FAILED i).key ≠ R.GLB_INTCTL_ARMED.key := by omega
  unfold blk
  rw [if_neg h2, if_neg (by omega), if_pos (by omega)]
  omega

theorem blk_THM_SENS_T (i : Nat) : blk (R.THM_SENS_T i).key = 2 := by
  have h : R.GLB_INTCTL_ARMED.key < 524288 := by decide
  have h1 : 1048576 ≤ (R.THM_SENS_T i).key ∧ (R.THM_SENS_T i).key < 1572864 := by unfold R.THM_SENS_T; dsimp only; omega
  have h2 : (R.THM_SENS_T i).key ≠ R.GLB_INTCTL_ARMED.key := by omega
  unfold blk
  rw [if_neg h2, if_neg (by omega), if_pos (by omega)]
  omega

theorem blk_THM_SENS_VALID (i : Nat) : blk (R.THM_SENS_VALID i).key = 2 := by
  have h : R.GLB_INTCTL_ARMED.key < 524288 := by decide
  have h1 : 1048576 ≤ (R.THM_SENS_VALID i).key ∧ (R.THM_SENS_VALID i).key < 1572864 := by unfold R.THM_SENS_VALID; dsimp only; omega
  have h2 : (R.THM_SENS_VALID i).key ≠ R.GLB_INTCTL_ARMED.key := by omega
  unfold blk
  rw [if_neg h2, if_neg (by omega), if_pos (by omega)]
  omega

theorem blk_TRS_INSTAT_ALVL (i : Nat) : blk (R.TRS_INSTAT_ALVL i).key = 13 := blk_of 13 (by decide) _ (by unfold R.TRS_INSTAT_ALVL; dsimp only; omega)
  (by unfold R.TRS_INSTAT_ALVL; dsimp only; omega) (by unfold R.TRS_INSTAT_ALVL; dsimp only; omega)

theorem blk_TRS_INSTAT_BLVL (i : Nat) : blk (R.TRS_INSTAT_BLVL i).key = 13 := blk_of 13 (by decide) _ (by unfold R.TRS_INSTAT_BLVL; dsimp only; omega)
  (by unfold R.TRS_INSTAT_BLVL; dsimp only; omega) (by unfold R.TRS_INSTAT_BLVL; dsimp only; omega)

theorem blk_TRS_INSTAT_STATE (i : Nat) : blk (R.TRS_INSTAT_STATE i).key = 13 := blk_of 13 (by decide) _ (by unfold R.TRS_INSTAT_STATE; dsimp only; omega)
  (by unfold R.TRS_INSTAT_STATE; dsimp only; omega) (by unfold R.TRS_INSTAT_STATE; dsimp only; omega)

theorem blk_WFP_CORA_GAIN (i : Nat) : blk (R.WFP_CORA_GAIN i).key = 14 := blk_of 14 (by decide) _ (by unfold R.WFP_CORA_GAIN; dsimp only; omega)
  (by unfold R.WFP_CORA_GAIN; dsimp only; omega) (by unfold R.WFP_CORA_GAIN; dsimp only; omega)

theorem blk_WFP_CORA_OFS (i : Nat) : blk (R.WFP_CORA_OFS i).key = 14 := blk_of 14 (by decide) _ (by unfold R.WFP_CORA_OFS; dsimp only; omega)
  (by unfold R.WFP_CORA_OFS; dsimp only; omega) (by unfold R.WFP_CORA_OFS; dsimp only; omega)

theorem blk_WFP_CORB_SKEW (i : Nat) : blk (R.WFP_CORB_SKEW i).key = 14 := blk_of 14 (by decide) _ (by unfold R.WFP_CORB_SKEW; dsimp only; omega)
  (by unfold R.WFP_CORB_SKEW; dsimp only; omega) (by unfold R.WFP_CORB_SKEW; dsimp only; omega)

theorem blk_WFP_DETCNT_SHAPE (i : Nat) : blk (R.WFP_DETCNT_SHAPE i).key = 14 := blk_of 14 (by decide) _ (by unfold R.WFP_DETCNT_SHAPE; dsimp only; omega)
  (by unfold R.WFP_DETCNT_SHAPE; dsimp only; omega) (by unfold R.WFP_DETCNT_SHAPE; dsimp only; omega)

theorem blk_WFP_DETCNT_SKIP (i : Nat) : blk (R.WFP_DETCNT_SKIP i).key = 14 := blk_of 14 (by decide) _ (by unfold R.WFP_DETCNT_SKIP; dsimp only; omega)
  (by unfold R.WFP_DETCNT_SKIP; dsimp only; omega) (by unfold R.WFP_DETCNT_SKIP; dsimp only; omega)

theorem blk_WFP_DETPEAK_PEAK (i : Nat) : blk (R.WFP_DETPEAK_PEAK i).key = 14 := blk_of 14 (by decide) _ (by unfold R.WFP_DETPEAK_PEAK; dsimp only; omega)
  (by unfold R.WFP_DETPEAK_PEAK; dsimp only; omega) (by unfold R.WFP_DETPEAK_PEAK; dsimp only; omega)

theorem blk_WFP_DETPEAK_RMS (i : Nat) : blk (R.WFP_DETPEAK_RMS i).key = 14 := blk_of 14 (by decide) _ (by unfold R.WFP_DETPEAK_RMS; dsimp only; omega)
  (by unfold R.WFP_DETPEAK_RMS; dsimp only; omega) (by unfold R.WFP_DETPEAK_RMS; dsimp only; omega)

theorem blk_WFP_DETTIME_PEAKT (i : Nat) : blk (R.WFP_DETTIME_PEAKT i).key = 14 := blk_of 14 (by decide) _ (by unfold R.WFP_DETTIME_PEAKT; dsimp only; omega)
  (by unfold R.WFP_DETTIME_PEAKT; dsimp only; omega) (by unfold R.WFP_DETTIME_PEAKT; dsimp only; omega)

theorem blk_WFP_DETWID_ENVMAX (i : Nat) : blk (R.WFP_DETWID_ENVMAX i).key = 14 := blk_of 14 (by decide) _ (by unfold R.WFP_DETWID_ENVMAX; dsimp only; omega)
  (by unfold R.WFP_DETWID_ENVMAX; dsimp only; omega) (by unfold R.WFP_DETWID_ENVMAX; dsimp only; omega)

theorem blk_WFP_DETWID_WIDTH50 (i : Nat) : blk (R.WFP_DETWID_WIDTH50 i).key = 14 := blk_of 14 (by decide) _ (by unfold R.WFP_DETWID_WIDTH50; dsimp only; omega)
  (by unfold R.WFP_DETWID_WIDTH50; dsimp only; omega) (by unfold R.WFP_DETWID_WIDTH50; dsimp only; omega)

theorem blk_WFP_LANE_HSRC (i : Nat) : blk (R.WFP_LANE_HSRC i).key = 14 := blk_of 14 (by decide) _ (by unfold R.WFP_LANE_HSRC; dsimp only; omega)
  (by unfold R.WFP_LANE_HSRC; dsimp only; omega) (by unfold R.WFP_LANE_HSRC; dsimp only; omega)

theorem blk_WFP_SWAP_FBANK (i : Nat) : blk (R.WFP_SWAP_FBANK i).key = 14 := blk_of 14 (by decide) _ (by unfold R.WFP_SWAP_FBANK; dsimp only; omega)
  (by unfold R.WFP_SWAP_FBANK; dsimp only; omega) (by unfold R.WFP_SWAP_FBANK; dsimp only; omega)

theorem blk_WFP_SWAP_FSWAP (i : Nat) : blk (R.WFP_SWAP_FSWAP i).key = 14 := blk_of 14 (by decide) _ (by unfold R.WFP_SWAP_FSWAP; dsimp only; omega)
  (by unfold R.WFP_SWAP_FSWAP; dsimp only; omega) (by unfold R.WFP_SWAP_FSWAP; dsimp only; omega)

theorem blk_WFP_SWAP_MBANK (i : Nat) : blk (R.WFP_SWAP_MBANK i).key = 14 := blk_of 14 (by decide) _ (by unfold R.WFP_SWAP_MBANK; dsimp only; omega)
  (by unfold R.WFP_SWAP_MBANK; dsimp only; omega) (by unfold R.WFP_SWAP_MBANK; dsimp only; omega)

theorem blk_WFP_SWAP_MSWAP (i : Nat) : blk (R.WFP_SWAP_MSWAP i).key = 14 := blk_of 14 (by decide) _ (by unfold R.WFP_SWAP_MSWAP; dsimp only; omega)
  (by unfold R.WFP_SWAP_MSWAP; dsimp only; omega) (by unfold R.WFP_SWAP_MSWAP; dsimp only; omega)

end Sys2Proof.Machine
end

