-- ==== Sys2Proof/Laws/OnlyOps.lean ====
section
/-!
SUPPORT. What each operation of Machine/Ops.lean may change: its register blocks and parts of the state, as the mask of `Only`.
-/
namespace Sys2Proof.Machine

set_option linter.unusedTactic false
set_option linter.unreachableTactic false

theorem State.emit_only (s : State) (e : Emit) :
    Only 0x40000000000000 s (State.emit s e) := by
  unfold State.emit
  repeat' (first
    | with_reducible exact Only.refl _ _
    | decide
    | (with_reducible apply Only.upd <;> try (first | exact Or.inl (by decide) | exact Or.inr rfl)))

theorem State.draw_only (s : State) :
    Only 0x80000000000000 s (State.draw s) := by
  unfold State.draw
  repeat' (first
    | with_reducible exact Only.refl _ _
    | decide
    | (with_reducible apply Only.upd <;> try (first | exact Or.inl (by decide) | exact Or.inr rfl)))

end Sys2Proof.Machine
end

