-- ==== Sys2Proof/Laws/OnlyFlags.lean ====
section
/-!
SUPPORT. What each operation of Machine/Flags.lean may change: its register blocks and parts of the state, as the mask of `Only`.
-/
namespace Sys2Proof.Machine

set_option linter.unusedTactic false
set_option linter.unreachableTactic false

theorem State.report_only (s : State) (src : Nat) (code : Nat) (sev : Nat) (unit : Nat) (detail : BitVec 64) :
    Only 0x8000000800000 s (State.report s src code sev unit detail) := by
  unfold State.report
  repeat' (first
    | with_reducible exact Only.refl _ _
    | with_reducible apply Only.bump
    | with_reducible apply Only.flag
    | decide
    | split
    | (with_reducible apply Only.upd <;> try (first | exact Or.inl (by decide) | exact Or.inr rfl)))

theorem State.reportFree_only (s : State) (src : Nat) (code : Nat) (sev : Nat) (unit : Nat) :
    Only 0x8000000800000 s (State.reportFree s src code sev unit) := by
  unfold State.reportFree
  repeat' (first
    | with_reducible exact Only.refl _ _
    | with_reducible apply Only.app (hg := State.report_only ..)
    | decide)

theorem State.reportInj_only (s : State) (src : Nat) (code : Nat) (sev : Nat) (unit : Nat) :
    Only 0x8000000800000 s (State.reportInj s src code sev unit) := by
  unfold State.reportInj
  repeat' (first
    | with_reducible exact Only.refl _ _
    | with_reducible apply Only.flag
    | with_reducible apply Only.app (hg := State.report_only ..)
    | decide)

theorem State.fault_only {m : Nat} {s u : State} {f : Fld} {sev unit : Nat} (h : Only m s u)
    (hb : m.testBit (blk f.key) = true) (hm : 0x8000000800000 ||| m = m) : Only m s (u.fault f sev unit) :=
  (h.flag hb).app (State.reportFree_only ..) hm

theorem State.faultInj_only {m : Nat} {s u : State} {f : Fld} {sev unit : Nat} {inj : Bool} (h : Only m s u)
    (hb : m.testBit (blk f.key) = true) (hm : 0x8000000800000 ||| m = m) : Only m s (u.faultInj f sev unit inj) := by
  unfold State.faultInj
  split
  · exact (h.flag hb).app (State.reportInj_only ..) hm
  · exact State.fault_only h hb hm

theorem State.refuse_only {m : Nat} {s u : State} {f : Fld} (h : Only m s u) (hb : m.testBit (blk f.key) = true)
    (hm : 0x8000000800000 ||| m = m) : Only m s (u.refuse f) := State.fault_only h hb hm

theorem State.msix_only (s : State) (v : Nat) :
    Only 0x40000002000000 s (State.msix s v) := by
  unfold State.msix
  repeat' (first
    | with_reducible exact Only.refl _ _
    | with_reducible apply Only.wr
    | with_reducible apply Only.app (hg := State.emit_only ..)
    | decide
    | (rw [blk_MSIX_PENDING]; decide)
    | split)

theorem State.settle_only (s : State) : Only 0x40000003000000 s s.settle := by
  unfold State.settle
  split
  · exact ((Only.refl _ s).app (State.msix_only ..) (by decide)).wr (by decide)
  · exact Only.refl _ s

/-- The outcome of a command that has an effect. -/
theorem OnlyO.done {m : Nat} {s u : State} (h : Only m s u) (hm : 0x40000003000000 ||| m = m) : OnlyO m s u.done := by
  intro t ht
  obtain rfl : u.settle = t := by simpa [State.done] using ht
  exact h.app (State.settle_only u) hm

end Sys2Proof.Machine
end

