-- ==== Sys2Proof/Laws/OnlyAccess.lean ====
section
/-!
SUPPORT. What each operation of Machine/Access.lean may change: its register blocks and parts of the state, as the mask of `Only`.
-/
namespace Sys2Proof.Machine

set_option linter.unusedTactic false
set_option linter.unreachableTactic false

theorem State.lastErr_only (s : State) (off : Nat) (kind : Nat) (write : Bool) :
    Only 0x1 s (State.lastErr s off kind write) := by
  unfold State.lastErr
  repeat' (first
    | with_reducible exact Only.refl _ _
    | with_reducible apply Only.wr
    | with_reducible apply Only.wrB
    | decide)

theorem State.badAccess_only (s : State) (off : Nat) (kind : Nat) (write : Bool) :
    Only 0x1 s (State.badAccess s off kind write) := by
  unfold State.badAccess
  repeat' (first
    | with_reducible exact Only.refl _ _
    | with_reducible apply Only.bump
    | with_reducible apply Only.app (hg := State.lastErr_only ..)
    | decide)

theorem State.rsvdCheck_only (s : State) (off : Nat) (mask : Nat) (v : Nat) :
    Only 0x1 s (State.rsvdCheck s off mask v) := by
  unfold State.rsvdCheck
  repeat' (first
    | with_reducible exact Only.refl _ _
    | with_reducible apply Only.bump
    | with_reducible apply Only.app (hg := State.lastErr_only ..)
    | decide
    | split)

theorem State.badEncoding_only (s : State) (off : Nat) :
    Only 0x1 s (State.badEncoding s off) := by
  unfold State.badEncoding
  repeat' (first
    | with_reducible exact Only.refl _ _
    | with_reducible apply Only.flag
    | with_reducible apply Only.app (hg := State.badAccess_only ..)
    | decide)

end Sys2Proof.Machine
end

