-- ==== Sys2Proof/Laws/OnlyCoding.lean ====
section
/-!
SUPPORT. What each operation of Machine/Coding.lean may change: its register blocks and parts of the state, as the mask of `Only`.
-/
namespace Sys2Proof.Machine

set_option linter.unusedTactic false
set_option linter.unreachableTactic false

theorem State.ringOut_only (s : State) (r : Nat) (dirs : Nat) (e : Nat → Emit) :
    Only 0x40000000000000 s (State.ringOut s r dirs e) := by
  unfold State.ringOut
  dsimp only
  repeat' (first
    | with_reducible exact Only.refl _ _
    | with_reducible apply Only.app (hg := State.emit_only ..)
    | decide
    | split)

theorem State.laneOut_only (s : State) (p : Nat) (chars : List RingChar) :
    Only 0xc2000000000000 s (State.laneOut s p chars) := by
  unfold State.laneOut
  dsimp only
  repeat' (first
    | with_reducible exact Only.refl _ _
    | with_reducible apply Only.app (hg := State.emit_only ..)
    | with_reducible apply Only.app (hg := State.draw_only ..)
    | decide
    | split
    | (with_reducible apply Only.upd <;> try (first | exact Or.inl (by decide) | exact Or.inr rfl)))

end Sys2Proof.Machine
end

