-- ==== Sys2Proof/Laws/OnlyJournal.lean ====
section
/-!
SUPPORT. What each operation of Machine/Journal.lean may change: its register blocks and parts of the state, as the mask of `Only`.
-/
namespace Sys2Proof.Machine

set_option linter.unusedTactic false
set_option linter.unreachableTactic false

theorem State.raiseMarker_only (s : State) (instant : Nat) (time : Time) (kind : Nat) (payload : List Byte) (frame : Nat) :
    Only 0x10000000000 s (State.raiseMarker s instant time kind payload frame) := by
  unfold State.raiseMarker
  dsimp only
  repeat' (first
    | with_reducible exact Only.refl _ _
    | decide
    | (with_reducible apply Only.upd <;> try (first | exact Or.inl (by decide) | exact Or.inr rfl)))

theorem State.markNow_only (s : State) (kind : Nat) (payload : List Byte) :
    Only 0x10000000000 s (State.markNow s kind payload) := by
  unfold State.markNow
  repeat' (first
    | with_reducible exact Only.refl _ _
    | with_reducible apply Only.app (hg := State.raiseMarker_only ..)
    | decide)

theorem State.markTimebase_only (s : State) (new : Nat) (prev : Nat) (cause : Nat) (step : Int) :
    Only 0x10000000000 s (State.markTimebase s new prev cause step) := by
  unfold State.markTimebase
  repeat' (first
    | with_reducible exact Only.refl _ _
    | with_reducible apply Only.app (hg := State.markNow_only ..)
    | decide)

theorem State.markCal_only (s : State) (kind : Nat) (set : Nat) (start : Bool) (stop : Bool) (len : Nat) :
    Only 0x10000000000 s (State.markCal s kind set start stop len) := by
  unfold State.markCal
  repeat' (first
    | with_reducible exact Only.refl _ _
    | with_reducible apply Only.app (hg := State.markNow_only ..)
    | decide)

theorem State.tally_only (s : State) (f : Nat) (g : FrameStat → FrameStat) :
    Only 0x10000000000 s (State.tally s f g) := by
  unfold State.tally
  dsimp only
  repeat' (first
    | with_reducible exact Only.refl _ _
    | decide
    | (with_reducible apply Only.upd <;> try (first | exact Or.inl (by decide) | exact Or.inr rfl)))

theorem State.tallyIncomplete_only (s : State) (f : Nat) :
    Only 0x10000000000 s (State.tallyIncomplete s f) := by
  unfold State.tallyIncomplete
  repeat' (first
    | with_reducible exact Only.refl _ _
    | with_reducible apply Only.app (hg := State.tally_only ..)
    | decide
    | (with_reducible apply Only.upd <;> try (first | exact Or.inl (by decide) | exact Or.inr rfl)))

theorem State.tallyDropped_only (s : State) (f : Nat) :
    Only 0x10000000000 s (State.tallyDropped s f) := by
  unfold State.tallyDropped
  repeat' (first
    | with_reducible exact Only.refl _ _
    | with_reducible apply Only.app (hg := State.tally_only ..)
    | decide
    | (with_reducible apply Only.upd <;> try (first | exact Or.inl (by decide) | exact Or.inr rfl)))

theorem State.jnlPeak_only (s : State) :
    Only 0x200 s (State.jnlPeak s) := by
  unfold State.jnlPeak
  repeat' (first
    | with_reducible exact Only.refl _ _
    | with_reducible apply Only.peak
    | decide)

theorem State.fullBegins_only (s : State) :
    Only 0x8000000800200 s (State.fullBegins s) := by
  unfold State.fullBegins
  repeat' (first
    | with_reducible exact Only.refl _ _
    | with_reducible apply Only.wr
    | with_reducible apply State.fault_only
    | decide
    | split
    | intro _)

theorem State.commitRec_only (s : State) (r : Rec) :
    Only 0x9010000800200 s (State.commitRec s r) := by
  unfold State.commitRec
  dsimp only
  repeat' (first
    | with_reducible exact Only.refl _ _
    | with_reducible apply Only.bump
    | with_reducible apply Only.app (hg := State.jnlPeak_only ..)
    | with_reducible apply Only.app (hg := State.fullBegins_only ..)
    | decide
    | split
    | (with_reducible apply Only.upd <;> try (first | exact Or.inl (by decide) | exact Or.inr rfl)))

theorem State.countHeld_only (s : State) :
    Only 0x10000000200 s (State.countHeld s) := by
  unfold State.countHeld
  dsimp only
  repeat' (first
    | with_reducible exact Only.refl _ _
    | with_reducible apply Only.bump
    | with_reducible apply Only.flag
    | decide
    | split
    | (with_reducible apply Only.upd <;> try (first | exact Or.inl (by decide) | exact Or.inr rfl)))

theorem State.judgeFull_only (s : State) :
    Only 0x8000000800200 s (State.judgeFull s) := by
  unfold State.judgeFull
  repeat' (first
    | with_reducible exact Only.refl _ _
    | with_reducible apply Only.wr
    | with_reducible apply Only.flag
    | with_reducible apply Only.app (hg := State.fullBegins_only ..)
    | decide
    | split)

theorem State.refuseBurst_only (s : State) (h : Handed) :
    Only 0x10000000200 s (State.refuseBurst s h) := by
  unfold State.refuseBurst
  repeat' (first
    | with_reducible exact Only.refl _ _
    | with_reducible apply Only.bump
    | with_reducible apply Only.app (hg := State.tally_only ..)
    | decide
    | (with_reducible apply Only.upd <;> try (first | exact Or.inl (by decide) | exact Or.inr rfl)))

theorem State.dropBurst_only (s : State) (num : Nat) :
    Only 0x2000000000 s (State.dropBurst s num) := by
  unfold State.dropBurst
  repeat' (first
    | with_reducible exact Only.refl _ _
    | decide
    | (with_reducible apply Only.upd <;> try (first | exact Or.inl (by decide) | exact Or.inr rfl)))

theorem State.commitBurst_only (s : State) (h : Handed) :
    Only 0x9012000800200 s (State.commitBurst s h).1 := by
  unfold State.commitBurst
  dsimp only
  repeat' (first
    | with_reducible exact Only.refl _ _
    | with_reducible apply Only.bump
    | with_reducible apply Only.app (hg := State.dropBurst_only ..)
    | with_reducible apply Only.app (hg := State.judgeFull_only ..)
    | with_reducible apply Only.app (hg := State.refuseBurst_only ..)
    | with_reducible apply Only.app (hg := State.commitRec_only ..)
    | with_reducible apply Only.foldl
    | decide
    | split
    | intro _
    | (with_reducible apply Only.upd <;> try (first | exact Or.inl (by decide) | exact Or.inr rfl)))

theorem State.commitMarker_only (s : State) (m : Marker) :
    Only 0x9010000800200 s (State.commitMarker s m) := by
  unfold State.commitMarker
  dsimp only
  repeat' (first
    | with_reducible exact Only.refl _ _
    | with_reducible apply Only.bump
    | with_reducible apply State.fault_only
    | with_reducible apply Only.app (hg := State.commitRec_only ..)
    | decide
    | split
    | intro _
    | (with_reducible apply Only.upd <;> try (first | exact Or.inl (by decide) | exact Or.inr rfl)))

theorem State.drainJnl_only (n : Nat) (s : State) : Only 0x9012000800200 s (s.drainJnl n).1 := by
  induction n generalizing s with
  | zero => exact Only.refl _ s
  | succ n ih =>
    unfold State.drainJnl
    split
    · exact Only.refl _ s
    · exact ((Only.refl _ s).app (State.commitMarker_only ..) (by decide)).trans (ih _)
    · exact ((Only.refl _ s).app (State.commitBurst_only ..) (by decide)).trans (ih _)

theorem State.heldStatus_only (s : State) :
    Only 0x200 s (State.heldStatus s) := by
  unfold State.heldStatus
  repeat' (first
    | with_reducible exact Only.refl _ _
    | with_reducible apply Only.wrB
    | decide)

theorem State.drain_only (s : State) :
    Only 0x9012000800200 s (State.drain s).1 := by
  unfold State.drain
  dsimp only
  repeat' (first
    | with_reducible exact Only.refl _ _
    | with_reducible apply Only.app (hg := State.drainJnl_only ..)
    | (with_reducible refine Only.ofFst (by assumption) ?_; with_reducible apply Only.app (hg := State.drainJnl_only ..))
    | with_reducible apply Only.app (hg := State.heldStatus_only ..)
    | decide
    | split)

end Sys2Proof.Machine
end

