-- ==== Sys2Proof/Laws/OnlyMortise.lean ====
section
/-!
SUPPORT. What each operation of Machine/Mortise.lean may change: its register blocks and parts of the state, as the mask of `Only`.
-/
namespace Sys2Proof.Machine

set_option linter.unusedTactic false
set_option linter.unreachableTactic false

theorem State.setBurst_only (s : State) (n : Nat) (f : Burst → Burst) :
    Only 0x2000000000 s (State.setBurst s n f) := by
  unfold State.setBurst
  repeat' (first
    | with_reducible exact Only.refl _ _
    | decide
    | (with_reducible apply Only.upd <;> try (first | exact Or.inl (by decide) | exact Or.inr rfl)))

theorem State.mapBursts_only (s : State) (p : Burst → Bool) (f : Burst → Burst) :
    Only 0x2000000000 s (State.mapBursts s p f) := by
  unfold State.mapBursts
  repeat' (first
    | with_reducible exact Only.refl _ _
    | decide
    | (with_reducible apply Only.upd <;> try (first | exact Or.inl (by decide) | exact Or.inr rfl)))

theorem State.mrtUse_only (s : State) :
    Only 0x40 s (State.mrtUse s) := by
  unfold State.mrtUse
  dsimp only
  repeat' (first
    | with_reducible exact Only.refl _ _
    | with_reducible apply Only.wr
    | with_reducible apply Only.peak
    | decide)

theorem State.shutBurst_only (s : State) (b : Burst) :
    Only 0x2000000000 s (State.shutBurst s b) := by
  unfold State.shutBurst
  repeat' (first
    | with_reducible exact Only.refl _ _
    | decide
    | (with_reducible apply Only.upd <;> try (first | exact Or.inl (by decide) | exact Or.inr rfl)))

theorem State.mrtEvent_only (s : State) (ch : Nat) (e : BackEvent) :
    Only 0x8002000800040 s (State.mrtEvent s ch e) := by
  unfold State.mrtEvent
  dsimp only
  repeat' (first
    | with_reducible exact Only.refl _ _
    | with_reducible apply Only.bump
    | with_reducible apply Only.app (hg := State.mapBursts_only ..)
    | with_reducible apply State.fault_only
    | decide
    | split
    | intro _
    | (with_reducible apply Only.upd <;> try (first | exact Or.inl (by decide) | exact Or.inr rfl)))

theorem State.countSieve_only (s : State) (b : Burst) :
    Only 0x40 s (State.countSieve s b) := by
  unfold State.countSieve
  dsimp only
  repeat' (first
    | with_reducible exact Only.refl _ _
    | with_reducible apply Only.bump
    | with_reducible apply Only.when
    | decide
    | intro _)

theorem State.voidFire_only (s : State) (driver : Nat) (tag : Nat) (col : Nat → Bool) :
    Only 0x2000000020 s (State.voidFire s driver tag col) := by
  unfold State.voidFire
  dsimp only
  repeat' (first
    | with_reducible exact Only.refl _ _
    | with_reducible apply Only.bump
    | with_reducible apply Only.app (hg := State.mapBursts_only ..)
    | decide
    | split
    | (with_reducible apply Only.upd <;> try (first | exact Or.inl (by decide) | exact Or.inr rfl)))

end Sys2Proof.Machine
end

