-- ==== Sys2Proof/Laws/OnlyBattenBase.lean ====
section
/-!
SUPPORT. What each operation of Machine/BattenBase.lean may change: its register blocks and parts of the state, as the mask of `Only`.
-/
namespace Sys2Proof.Machine

set_option linter.unusedTactic false
set_option linter.unreachableTactic false

theorem State.setDrv_only (s : State) (n : Nat) (f : DrvState → DrvState) :
    Only 0x1000000000 s (State.setDrv s n f) := by
  unfold State.setDrv
  repeat' (first
    | with_reducible exact Only.refl _ _
    | decide
    | (with_reducible apply Only.upd <;> try (first | exact Or.inl (by decide) | exact Or.inr rfl)))

theorem State.setRing_only (s : State) (r : Nat) (f : RingState → RingState) :
    Only 0x1000000000 s (State.setRing s r f) := by
  unfold State.setRing
  repeat' (first
    | with_reducible exact Only.refl _ _
    | decide
    | (with_reducible apply Only.upd <;> try (first | exact Or.inl (by decide) | exact Or.inr rfl)))

theorem State.ringPairOut_only (s : State) (p : Nat) (q : Nat) (body : List Byte) :
    Only 0xc2000000100000 s (State.ringPairOut s p q body) := by
  unfold State.ringPairOut
  dsimp only
  repeat' (first
    | with_reducible exact Only.refl _ _
    | with_reducible apply Only.bump
    | with_reducible apply Only.app (hg := State.emit_only ..)
    | with_reducible apply Only.app (hg := State.laneOut_only ..)
    | decide
    | (rw [blk_DWL_PINJ_CNT]; decide)
    | split
    | (with_reducible apply Only.upd <;> try (first | exact Or.inl (by decide) | exact Or.inr rfl)))

theorem State.sendRing_only (s : State) (r : Nat) (typ : Nat) (dest : Nat) (payload : List Byte) (dirs : Nat) :
    Only 0xc2001000100000 s (State.sendRing s r typ dest payload dirs) := by
  unfold State.sendRing
  dsimp only
  repeat' (first
    | with_reducible exact Only.refl _ _
    | with_reducible apply Only.app (hg := State.setRing_only ..)
    | with_reducible apply Only.app (hg := State.ringOut_only ..)
    | with_reducible apply Only.app (hg := State.ringFrame_only ..)
    | with_reducible apply Only.app (hg := State.ringPairOut_only ..)
    | with_reducible apply Only.when
    | decide
    | intro _
    | (with_reducible apply Only.upd <;> try (first | exact Or.inl (by decide) | exact Or.inr rfl)))

theorem State.onRings_only {m : Nat} {s u : State} {p : State → Nat → Bool} {f : State → Nat → State} (h : Only m s u)
    (hf : ∀ t r, Only m t (f t r)) : Only m s (u.onRings p f) := by
  unfold State.onRings
  refine Only.foldl h ?_
  intro t r
  split
  · exact hf t r
  · exact Only.refl _ _

theorem State.voidOf_only (s : State) (f : Fire) (col : Nat → Bool) :
    Only 0x2000000020 s (State.voidOf s f col) := by
  unfold State.voidOf
  repeat' (first
    | with_reducible exact Only.refl _ _
    | with_reducible apply Only.app (hg := State.voidFire_only ..)
    | decide
    | split)

theorem State.discardFire_only (s : State) (f : Fire) :
    Only 0x3000000020 s (State.discardFire s f) := by
  unfold State.discardFire
  dsimp only
  repeat' (first
    | with_reducible exact Only.refl _ _
    | with_reducible apply Only.app (hg := State.voidOf_only ..)
    | decide
    | split
    | (with_reducible apply Only.upd <;> try (first | exact Or.inl (by decide) | exact Or.inr rfl)))

theorem State.discardFires_only (s : State) (p : Fire → Bool) :
    Only 0x3000000020 s (State.discardFires s p) := by
  unfold State.discardFires
  repeat' (first
    | with_reducible exact Only.refl _ _
    | with_reducible apply Only.app (hg := State.discardFire_only ..)
    | with_reducible apply Only.foldl
    | decide
    | intro _)

theorem State.hushSets_only (s : State) (r : Nat) (n : Nat) :
    Only 0xc2000000000000 s (State.hushSets s r n) := by
  unfold State.hushSets
  dsimp only
  repeat' (first
    | with_reducible exact Only.refl _ _
    | with_reducible apply Only.app (hg := State.ringOut_only ..)
    | with_reducible apply Only.app (hg := State.laneOut_only ..)
    | decide)

theorem State.hushRing_only (s : State) (r : Nat) :
    Only 0xc2000000000000 s (State.hushRing s r) := by
  unfold State.hushRing
  repeat' (first
    | with_reducible exact Only.refl _ _
    | with_reducible apply Only.app (hg := State.hushSets_only ..)
    | decide)

theorem State.hushStart_only (s : State) :
    Only 0xc2003000000820 s (State.hushStart s) := by
  unfold State.hushStart
  dsimp only
  repeat' (first
    | with_reducible exact Only.refl _ _
    | with_reducible apply Only.wr
    | with_reducible apply Only.count
    | with_reducible apply State.onRings_only
    | with_reducible apply Only.app (hg := State.hushRing_only ..)
    | with_reducible apply Only.app (hg := State.discardFires_only ..)
    | decide
    | intro _
    | (with_reducible apply Only.upd <;> try (first | exact Or.inl (by decide) | exact Or.inr rfl)))

theorem State.hushRepeat_only (s : State) :
    Only 0xc2001000100000 s (State.hushRepeat s) := by
  unfold State.hushRepeat
  repeat' (first
    | with_reducible exact Only.refl _ _
    | with_reducible apply State.onRings_only
    | with_reducible apply Only.app (hg := State.hushSets_only ..)
    | with_reducible apply Only.app (hg := State.sendRing_only ..)
    | decide
    | intro _)

theorem State.hushEnd_only (s : State) :
    Only 0xc2001000100800 s (State.hushEnd s) := by
  unfold State.hushEnd
  dsimp only
  repeat' (first
    | with_reducible exact Only.refl _ _
    | with_reducible apply Only.wr
    | with_reducible apply State.onRings_only
    | with_reducible apply Only.app (hg := State.sendRing_only ..)
    | decide
    | intro _
    | (with_reducible apply Only.upd <;> try (first | exact Or.inl (by decide) | exact Or.inr rfl)))

end Sys2Proof.Machine
end

