-- ==== Sys2Proof/Laws/OnlyTruss.lean ====
section
/-!
SUPPORT. What each operation of Machine/Truss.lean may change: its register blocks and parts of the state, as the mask of `Only`.
-/
namespace Sys2Proof.Machine

set_option linter.unusedTactic false
set_option linter.unreachableTactic false

theorem State.onTrs_only (s : State) (f : TrsState → TrsState) :
    Only 0x100000000000 s (State.onTrs s f) := by
  unfold State.onTrs
  repeat' (first
    | with_reducible exact Only.refl _ _
    | decide
    | (with_reducible apply Only.upd <;> try (first | exact Or.inl (by decide) | exact Or.inr rfl)))

theorem State.soutStep_only (s : State) (k : Nat) :
    Only 0x40100000002000 s (State.soutStep s k) := by
  unfold State.soutStep
  dsimp only
  repeat' (first
    | with_reducible exact Only.refl _ _
    | with_reducible apply Only.wr
    | with_reducible apply Only.app (hg := State.onTrs_only ..)
    | with_reducible apply Only.app (hg := State.emit_only ..)
    | decide
    | split
    | (with_reducible apply Only.upd <;> try (first | exact Or.inl (by decide) | exact Or.inr rfl)))

theorem State.goDark_only (s : State) :
    Only 0xc2103000002820 s (State.goDark s) := by
  unfold State.goDark
  dsimp only
  repeat' (first
    | with_reducible exact Only.refl _ _
    | with_reducible apply Only.wr
    | with_reducible apply Only.app (hg := State.onTrs_only ..)
    | with_reducible apply Only.app (hg := State.emit_only ..)
    | with_reducible apply Only.app (hg := State.hushStart_only ..)
    | decide
    | split
    | (with_reducible apply Only.upd <;> try (first | exact Or.inl (by decide) | exact Or.inr rfl)))

theorem State.darkHigh_only (s : State) :
    Only 0x40100000002000 s (State.darkHigh s) := by
  unfold State.darkHigh
  repeat' (first
    | with_reducible exact Only.refl _ _
    | with_reducible apply Only.wr
    | with_reducible apply Only.app (hg := State.emit_only ..)
    | with_reducible apply Only.app (hg := State.onTrs_only ..)
    | decide
    | (with_reducible apply Only.upd <;> try (first | exact Or.inl (by decide) | exact Or.inr rfl)))

theorem State.goLight_only (s : State) :
    Only 0x40100000002000 s (State.goLight s) := by
  unfold State.goLight
  repeat' (first
    | with_reducible exact Only.refl _ _
    | with_reducible apply Only.app (hg := State.onTrs_only ..)
    | with_reducible apply Only.app (hg := State.darkHigh_only ..)
    | decide
    | split
    | (with_reducible apply Only.upd <;> try (first | exact Or.inl (by decide) | exact Or.inr rfl)))

theorem State.trsMarker_only (s : State) (prev : Nat) (cause : Nat) :
    Only 0x10000002000 s (State.trsMarker s prev cause) := by
  unfold State.trsMarker
  dsimp only
  repeat' (first
    | with_reducible exact Only.refl _ _
    | with_reducible apply Only.count
    | with_reducible apply Only.app (hg := State.markNow_only ..)
    | decide
    | split)

theorem State.trsEvalFrom_only (s : State) (prev : Nat) (cause : Nat) :
    Only 0xc2113000002820 s (State.trsEvalFrom s prev cause) := by
  unfold State.trsEvalFrom
  dsimp only
  repeat' (first
    | with_reducible exact Only.refl _ _
    | with_reducible apply Only.wrB
    | with_reducible apply Only.app (hg := State.goLight_only ..)
    | with_reducible apply Only.app (hg := State.goDark_only ..)
    | with_reducible apply Only.app (hg := State.soutStep_only ..)
    | with_reducible apply Only.app (hg := State.trsMarker_only ..)
    | with_reducible apply Only.foldl
    | decide
    | split
    | intro _)

theorem State.trsEval_only (s : State) (cause : Nat) :
    Only 0xc2113000002820 s (State.trsEval s cause) := by
  unfold State.trsEval
  repeat' (first
    | with_reducible exact Only.refl _ _
    | with_reducible apply Only.app (hg := State.trsEvalFrom_only ..)
    | decide)

theorem State.setTrs_only (s : State) (st : Nat) (cause : Nat) (detail : Nat) :
    Only 0xc2113000002820 s (State.setTrs s st cause detail) := by
  unfold State.setTrs
  dsimp only
  repeat' (first
    | with_reducible exact Only.refl _ _
    | with_reducible apply Only.wr
    | with_reducible apply Only.flag
    | with_reducible apply Only.app (hg := State.trsEval_only ..)
    | with_reducible apply Only.app (hg := State.trsEvalFrom_only ..)
    | decide
    | split)

theorem State.trsReport_only (s : State) (cause : Nat) (detail : Nat) :
    Only 0x8000000800000 s (State.trsReport s cause detail) := by
  unfold State.trsReport
  repeat' (first
    | with_reducible exact Only.refl _ _
    | with_reducible apply Only.app (hg := State.report_only ..)
    | decide)

theorem State.enterLimp_only (s : State) (cause : Nat) (detail : Nat) :
    Only 0xc2113000002820 s (State.enterLimp s cause detail) := by
  unfold State.enterLimp
  dsimp only
  repeat' (first
    | with_reducible exact Only.refl _ _
    | with_reducible apply Only.flag
    | with_reducible apply Only.app (hg := State.onTrs_only ..)
    | with_reducible apply Only.app (hg := State.setTrs_only ..)
    | with_reducible apply Only.app (hg := State.hushStart_only ..)
    | decide
    | split
    | (with_reducible apply Only.upd <;> try (first | exact Or.inl (by decide) | exact Or.inr rfl)))

theorem State.trsClassFlag_only (s : State) (cause : Nat) :
    Only 0x2000 s (State.trsClassFlag s cause) := by
  unfold State.trsClassFlag
  repeat' (first
    | with_reducible exact Only.refl _ _
    | with_reducible apply Only.flag
    | decide
    | split)

theorem State.trussFault_only (s : State) (cause : Nat) (detail : Nat) :
    Only 0xca113000802820 s (State.trussFault s cause detail) := by
  unfold State.trussFault
  dsimp only
  repeat' (first
    | with_reducible exact Only.refl _ _
    | with_reducible apply Only.app (hg := State.trsClassFlag_only ..)
    | with_reducible apply Only.app (hg := State.trsReport_only ..)
    | with_reducible apply Only.app (hg := State.onTrs_only ..)
    | with_reducible apply Only.app (hg := State.setTrs_only ..)
    | with_reducible apply Only.app (hg := State.trsEval_only ..)
    | with_reducible apply Only.app (hg := State.enterLimp_only ..)
    | decide
    | split
    | (with_reducible apply Only.upd <;> try (first | exact Or.inl (by decide) | exact Or.inr rfl)))

theorem State.judgeCol_only (s : State) (f : Fire) (col : Nat) (budget : Nat) :
    Only 0xca113000802820 s (State.judgeCol s f col budget).1 := by
  unfold State.judgeCol
  dsimp only
  repeat' (first
    | with_reducible exact Only.refl _ _
    | with_reducible apply Only.bump
    | with_reducible apply Only.flag
    | with_reducible apply Only.app (hg := State.trussFault_only ..)
    | with_reducible apply Only.app (hg := State.onTrs_only ..)
    | decide
    | split
    | (with_reducible apply Only.upd <;> try (first | exact Or.inl (by decide) | exact Or.inr rfl)))

theorem State.judgeFire_only (s : State) (f : Fire) (budgets : List (Nat × Nat)) :
    Only 0xca113000802820 s (State.judgeFire s f budgets).1 := by
  have hfold : ∀ (l : List (Nat × Nat)) (F : State × BitVec 32 → Nat × Nat → State × BitVec 32) (p : State × BitVec 32),
      (∀ q a, Only 0xca113000802820 q.1 (F q a).1) → Only 0xca113000802820 p.1 (l.foldl F p).1 := by
    intro l F
    induction l with
    | nil => intro p _; exact Only.refl _ _
    | cons a r ih => intro p hF; exact (hF p a).trans (ih _ hF)
  unfold State.judgeFire
  split
  next s1 m heq =>
  dsimp only
  refine Only.app (u := s1) (Only.ofFst heq (hfold budgets _ (s, 0#32) ?_)) (State.onTrs_only ..) (by decide)
  intro q a
  exact (Only.refl _ q.1).app (State.judgeCol_only ..) (by decide)

theorem State.armPulses_only (s : State) :
    Only 0x40000000000000 s (State.armPulses s) := by
  unfold State.armPulses
  repeat' (first
    | with_reducible exact Only.refl _ _
    | with_reducible apply Only.app (hg := State.emit_only ..)
    | with_reducible apply Only.foldl
    | decide
    | split
    | intro _)

theorem State.armResult_only (s : State) (fb : Bool) :
    Only 0xca113000802820 s (State.armResult s fb) := by
  unfold State.armResult
  dsimp only
  repeat' (first
    | with_reducible exact Only.refl _ _
    | with_reducible apply Only.wr
    | with_reducible apply Only.flag
    | with_reducible apply Only.app (hg := State.armPulses_only ..)
    | with_reducible apply Only.app (hg := State.onTrs_only ..)
    | with_reducible apply Only.app (hg := State.setTrs_only ..)
    | with_reducible apply Only.app (hg := State.trsEval_only ..)
    | with_reducible apply Only.app (hg := State.trsReport_only ..)
    | decide
    | split
    | (with_reducible apply Only.upd <;> try (first | exact Or.inl (by decide) | exact Or.inr rfl)))

theorem State.rwkReject_only (s : State) (offset : Nat) :
    Only 0x8000000802000 s (State.rwkReject s offset) := by
  unfold State.rwkReject
  repeat' (first
    | with_reducible exact Only.refl _ _
    | with_reducible apply Only.bump
    | with_reducible apply Only.app (hg := State.trsReport_only ..)
    | decide)

theorem State.rwkNote_only (s : State) (exposure : Bool) :
    Only 0x100000000000 s (State.rwkNote s exposure) := by
  unfold State.rwkNote
  repeat' (first
    | with_reducible exact Only.refl _ _
    | with_reducible apply Only.app (hg := State.onTrs_only ..)
    | decide
    | (with_reducible apply Only.upd <;> try (first | exact Or.inl (by decide) | exact Or.inr rfl)))

theorem State.setInput_only (s : State) (k : Nat) (f : TrsInput → TrsInput) :
    Only 0x100000000000 s (State.setInput s k f) := by
  unfold State.setInput
  repeat' (first
    | with_reducible exact Only.refl _ _
    | with_reducible apply Only.app (hg := State.onTrs_only ..)
    | decide
    | (with_reducible apply Only.upd <;> try (first | exact Or.inl (by decide) | exact Or.inr rfl)))

theorem State.inputMode_only (s : State) (k : Nat) (old : Nat) :
    Only 0x100000002000 s (State.inputMode s k old) := by
  unfold State.inputMode
  dsimp only
  repeat' (first
    | with_reducible exact Only.refl _ _
    | with_reducible apply Only.wr
    | with_reducible apply Only.wrB
    | with_reducible apply Only.app (hg := State.setInput_only ..)
    | decide
    | (rw [blk_TRS_INSTAT_ALVL]; decide)
    | (rw [blk_TRS_INSTAT_BLVL]; decide)
    | (rw [blk_TRS_INSTAT_STATE]; decide)
    | split)

end Sys2Proof.Machine
end

