-- ==== Sys2Proof/Laws/OnlyBatten.lean ====
section
/-!
SUPPORT. What each operation of Machine/Batten.lean may change: its register blocks and parts of the state, as the mask of `Only`.
-/
namespace Sys2Proof.Machine

set_option linter.unusedTactic false
set_option linter.unreachableTactic false

theorem State.putFire_only (s : State) (old : Fire) (new : Fire) :
    Only 0x1000000000 s (State.putFire s old new) := by
  unfold State.putFire
  repeat' (first
    | with_reducible exact Only.refl _ _
    | decide
    | (with_reducible apply Only.upd <;> try (first | exact Or.inl (by decide) | exact Or.inr rfl)))

theorem State.conflictFire_only (s : State) (f : Fire) :
    Only 0x8003000800020 s (State.conflictFire s f) := by
  unfold State.conflictFire
  repeat' (first
    | with_reducible exact Only.refl _ _
    | with_reducible apply Only.app (hg := State.discardFire_only ..)
    | with_reducible apply State.fault_only
    | decide
    | intro _)

theorem State.submitFire_only (s : State) (f : Fire) (cur : Nat) (width : Nat) :
    Only 0xca113000802820 s (State.submitFire s f cur width) := by
  unfold State.submitFire
  dsimp only
  repeat' (first
    | with_reducible exact Only.refl _ _
    | with_reducible apply Only.app (hg := State.judgeFire_only ..)
    | (with_reducible refine Only.ofFst (by assumption) ?_; with_reducible apply Only.app (hg := State.judgeFire_only ..))
    | with_reducible apply Only.app (hg := State.discardFire_only ..)
    | with_reducible apply Only.app (hg := State.voidOf_only ..)
    | with_reducible apply Only.app (hg := State.putFire_only ..)
    | decide
    | split
    | (with_reducible apply Only.upd <;> try (first | exact Or.inl (by decide) | exact Or.inr rfl)))

theorem execFireSubmission_only (n : Fin 64) (s : State) :
    OnlyO 0xca113003802820 s (execFireSubmission n s) := by
  unfold execFireSubmission
  repeat' (first
    | with_reducible apply OnlyO.done
    | with_reducible exact Only.refl _ _
    | with_reducible apply Only.app (hg := State.conflictFire_only ..)
    | with_reducible apply Only.app (hg := State.discardFire_only ..)
    | with_reducible apply Only.app (hg := State.submitFire_only ..)
    | with_reducible apply Only.foldl
    | decide
    | split
    | intro _
    | (with_reducible apply Only.upd <;> try (first | exact Or.inl (by decide) | exact Or.inr rfl)))

theorem State.noteShot_only (s : State) (f : Fire) :
    Only 0x40000000000 s (State.noteShot s f) := by
  unfold State.noteShot
  dsimp only
  repeat' (first
    | with_reducible exact Only.refl _ _
    | decide
    | (with_reducible apply Only.upd <;> try (first | exact Or.inl (by decide) | exact Or.inr rfl)))

theorem execFireTransmit_only (n : Fin 64) (s : State) :
    OnlyO 0xc2043003100020 s (execFireTransmit n s) := by
  unfold execFireTransmit
  dsimp only
  repeat' (first
    | with_reducible apply OnlyO.done
    | with_reducible exact Only.refl _ _
    | with_reducible apply Only.app (hg := State.discardFire_only ..)
    | with_reducible apply Only.app (hg := State.sendRing_only ..)
    | with_reducible apply Only.app (hg := State.putFire_only ..)
    | with_reducible apply Only.app (hg := State.noteShot_only ..)
    | with_reducible apply Only.app (hg := State.setDrv_only ..)
    | decide
    | split
    | (with_reducible apply Only.upd <;> try (first | exact Or.inl (by decide) | exact Or.inr rfl)))

theorem State.missed_only (s : State) (r : Nat) (a : Nat) (ccw : Bool) :
    Only 0x1000000000 s (State.missed s r a ccw) := by
  unfold State.missed
  repeat' (first
    | with_reducible exact Only.refl _ _
    | with_reducible apply Only.app (hg := State.setDrv_only ..)
    | decide
    | split
    | (with_reducible apply Only.upd <;> try (first | exact Or.inl (by decide) | exact Or.inr rfl)))

theorem State.sendGrant_only (s : State) (r : Nat) (a : Nat) (ret : Bool) (ccw : Bool) :
    Only 0xc2001000000000 s (State.sendGrant s r a ret ccw) := by
  unfold State.sendGrant
  repeat' (first
    | with_reducible exact Only.refl _ _
    | with_reducible apply Only.app (hg := State.ringOut_only ..)
    | with_reducible apply Only.app (hg := State.laneOut_only ..)
    | with_reducible apply Only.app (hg := State.missed_only ..)
    | decide
    | split)

theorem State.sendReturn_only (s : State) (r : Nat) (i : Nat) (l : List Nat) (ccw : Bool) :
    Only 0xc2001000000000 s (State.sendReturn s r i l ccw) := by
  unfold State.sendReturn
  repeat' (first
    | with_reducible exact Only.refl _ _
    | with_reducible apply Only.app (hg := State.sendGrant_only ..)
    | decide
    | split)

theorem State.grantRing_only (s : State) (r : Nat) :
    Only 0xc2001000000000 s (State.grantRing s r) := by
  unfold State.grantRing
  dsimp only
  repeat' (first
    | with_reducible exact Only.refl _ _
    | with_reducible apply Only.app (hg := State.setRing_only ..)
    | with_reducible apply Only.app (hg := State.sendGrant_only ..)
    | with_reducible apply Only.app (hg := State.sendReturn_only ..)
    | decide
    | split
    | (with_reducible apply Only.upd <;> try (first | exact Or.inl (by decide) | exact Or.inr rfl)))

theorem State.setRingBit_only {m : Nat} {s u : State} {f : Fld} {r : Nat} {v : Bool} (h : Only m s u)
    (hb : m.testBit (blk f.key) = true) (_ : 0 ||| m = m) : Only m s (u.setRingBit f r v) := h.wr hb

theorem State.ringDirBack_only (s : State) (r : Nat) (ccw : Bool) :
    Only 0x1000000800 s (State.ringDirBack s r ccw) := by
  unfold State.ringDirBack
  dsimp only
  repeat' (first
    | with_reducible exact Only.refl _ _
    | with_reducible apply Only.wr
    | with_reducible apply Only.app (hg := State.setDrv_only ..)
    | with_reducible apply Only.app (hg := State.setRing_only ..)
    | with_reducible apply State.setRingBit_only
    | with_reducible apply Only.foldl
    | decide
    | (rw [blk_BTN_RSTAT_BREAK]; decide)
    | (rw [blk_BTN_RSTAT_CCWUP]; decide)
    | (rw [blk_BTN_RSTAT_CWUP]; decide)
    | split
    | intro _
    | (with_reducible apply Only.upd <;> try (first | exact Or.inl (by decide) | exact Or.inr rfl)))

theorem State.echoesDone_only (s : State) :
    Only 0x1000000800 s (State.echoesDone s) := by
  unfold State.echoesDone
  repeat' (first
    | with_reducible exact Only.refl _ _
    | with_reducible apply Only.app (hg := State.ringDirBack_only ..)
    | with_reducible apply Only.foldl
    | decide
    | split
    | intro _
    | (with_reducible apply Only.upd <;> try (first | exact Or.inl (by decide) | exact Or.inr rfl)))

theorem State.calEnd_only (s : State) :
    Only 0x1000000800 s (State.calEnd s) := by
  unfold State.calEnd
  dsimp only
  repeat' (first
    | with_reducible exact Only.refl _ _
    | with_reducible apply Only.wr
    | with_reducible apply Only.app (hg := State.echoesDone_only ..)
    | decide
    | split)

theorem State.dropEchoes_only (s : State) (r : Nat) :
    Only 0x1000000800 s (State.dropEchoes s r) := by
  unfold State.dropEchoes
  repeat' (first
    | with_reducible exact Only.refl _ _
    | with_reducible apply Only.app (hg := State.setDrv_only ..)
    | with_reducible apply Only.app (hg := State.calEnd_only ..)
    | with_reducible apply Only.foldl
    | decide
    | intro _
    | (with_reducible apply Only.upd <;> try (first | exact Or.inl (by decide) | exact Or.inr rfl)))

theorem State.ringGone_only (s : State) (r : Nat) :
    Only 0x3000000820 s (State.ringGone s r) := by
  unfold State.ringGone
  repeat' (first
    | with_reducible exact Only.refl _ _
    | with_reducible apply Only.app (hg := State.setRing_only ..)
    | with_reducible apply Only.app (hg := State.discardFires_only ..)
    | with_reducible apply State.setRingBit_only
    | with_reducible apply Only.app (hg := State.dropEchoes_only ..)
    | decide
    | intro _
    | (with_reducible apply Only.upd <;> try (first | exact Or.inl (by decide) | exact Or.inr rfl)))

theorem State.located_only (s : State) (r : Nat) :
    Only 0x8003000800820 s (State.located s r) := by
  unfold State.located
  dsimp only
  repeat' (first
    | with_reducible exact Only.refl _ _
    | with_reducible apply Only.wr
    | with_reducible apply Only.app (hg := State.ringGone_only ..)
    | with_reducible apply State.fault_only
    | with_reducible apply Only.app (hg := State.setRing_only ..)
    | with_reducible apply Only.app (hg := State.setDrv_only ..)
    | with_reducible apply Only.app (hg := State.discardFires_only ..)
    | with_reducible apply Only.when
    | with_reducible apply Only.foldl
    | decide
    | (rw [blk_BTN_RSTAT_BREAK]; decide)
    | split
    | intro _
    | (with_reducible apply Only.upd <;> try (first | exact Or.inl (by decide) | exact Or.inr rfl)))

theorem execGrant_only (r : Fin 8) (s : State) :
    OnlyO 0xca003003800820 s (execGrant r s) := by
  unfold execGrant
  dsimp only
  repeat' (first
    | with_reducible apply OnlyO.done
    | with_reducible exact Only.refl _ _
    | with_reducible apply Only.app (hg := State.located_only ..)
    | with_reducible apply Only.app (hg := State.grantRing_only ..)
    | decide
    | split)

theorem State.stopDriver_only (s : State) (n : Nat) :
    Only 0x3000000020 s (State.stopDriver s n) := by
  unfold State.stopDriver
  repeat' (first
    | with_reducible exact Only.refl _ _
    | with_reducible apply Only.app (hg := State.setDrv_only ..)
    | with_reducible apply Only.app (hg := State.discardFires_only ..)
    | decide
    | (with_reducible apply Only.upd <;> try (first | exact Or.inl (by decide) | exact Or.inr rfl)))

theorem execDriverSilent_only (n : Fin 64) (s : State) :
    OnlyO 0x48003003800820 s (execDriverSilent n s) := by
  unfold execDriverSilent
  repeat' (first
    | with_reducible apply OnlyO.done
    | with_reducible exact Only.refl _ _
    | with_reducible apply Only.wr
    | with_reducible apply Only.app (hg := State.stopDriver_only ..)
    | with_reducible apply State.fault_only
    | decide
    | (rw [blk_BTN_DSTAT_SILENT]; decide)
    | split
    | intro _)

theorem State.answered_only (s : State) (n : Nat) (h : UpHead) :
    Only 0x1000000000 s (State.answered s n h) := by
  unfold State.answered
  repeat' (first
    | with_reducible exact Only.refl _ _
    | with_reducible apply Only.app (hg := State.setDrv_only ..)
    | decide
    | (with_reducible apply Only.upd <;> try (first | exact Or.inl (by decide) | exact Or.inr rfl)))

theorem State.upBad_only (s : State) (n : Nat) :
    Only 0x800 s (State.upBad s n) := by
  unfold State.upBad
  repeat' (first
    | with_reducible exact Only.refl _ _
    | with_reducible apply Only.bump
    | decide
    | (rw [blk_BTN_RERR_CRCERR]; decide))

theorem State.statusRegs_only (s : State) (n : Nat) (p : StatusPayload) :
    Only 0x8001000800800 s (State.statusRegs s n p) := by
  unfold State.statusRegs
  dsimp only
  repeat' (first
    | with_reducible exact Only.refl _ _
    | with_reducible apply Only.wr
    | with_reducible apply Only.wrB
    | with_reducible apply Only.app (hg := State.setDrv_only ..)
    | with_reducible apply State.fault_only
    | with_reducible apply Only.when
    | decide
    | (rw [blk_BTN_DSTAT_ALARM]; decide)
    | (rw [blk_BTN_DSTAT_HUSHED]; decide)
    | (rw [blk_BTN_DSTAT_REPLOST]; decide)
    | intro _
    | (with_reducible apply Only.upd <;> try (first | exact Or.inl (by decide) | exact Or.inr rfl)))

theorem State.noOldReports_only (s : State) (n : Nat) :
    Only 0x1000000000 s (State.noOldReports s n) := by
  unfold State.noOldReports
  repeat' (first
    | with_reducible exact Only.refl _ _
    | decide
    | (with_reducible apply Only.upd <;> try (first | exact Or.inl (by decide) | exact Or.inr rfl)))

theorem execStatus_only (u : UpFrom) (p : StatusPayload) (s : State) :
    OnlyO 0xca113003902820 s (execStatus u p s) := by
  unfold execStatus
  dsimp only
  repeat' (first
    | with_reducible apply OnlyO.done
    | with_reducible exact Only.refl _ _
    | with_reducible apply Only.wr
    | with_reducible apply Only.app (hg := State.upBad_only ..)
    | with_reducible apply Only.app (hg := State.answered_only ..)
    | with_reducible apply Only.app (hg := State.noOldReports_only ..)
    | with_reducible apply Only.app (hg := State.statusRegs_only ..)
    | with_reducible apply Only.app (hg := State.trussFault_only ..)
    | with_reducible apply Only.app (hg := State.sendRing_only ..)
    | with_reducible apply Only.app (hg := State.reportFree_only ..)
    | decide
    | (rw [blk_BTN_DSTAT_CAPREJ]; decide)
    | split)

theorem State.stripColumns_only (s : State) (row : Nat) (cols : BitVec 32) :
    Only 0x3000000020 s (State.stripColumns s row cols) := by
  unfold State.stripColumns
  dsimp only
  repeat' (first
    | with_reducible exact Only.refl _ _
    | with_reducible apply Only.app (hg := State.discardFire_only ..)
    | with_reducible apply Only.app (hg := State.voidOf_only ..)
    | with_reducible apply Only.app (hg := State.putFire_only ..)
    | with_reducible apply Only.foldl
    | decide
    | split
    | intro _
    | (with_reducible apply Only.upd <;> try (first | exact Or.inl (by decide) | exact Or.inr rfl)))

theorem State.autoBlank_only (s : State) (row : Nat) :
    Only 0x8000000800800 s (State.autoBlank s row) := by
  unfold State.autoBlank
  dsimp only
  repeat' (first
    | with_reducible exact Only.refl _ _
    | with_reducible apply Only.wr
    | with_reducible apply State.fault_only
    | decide
    | (rw [blk_BTN_RAUTO_AUTO]; decide)
    | split
    | intro _)

theorem State.columnsFail_only (s : State) (row : Nat) (cols : BitVec 32) :
    Only 0x8003000800820 s (State.columnsFail s row cols) := by
  unfold State.columnsFail
  dsimp only
  repeat' (first
    | with_reducible exact Only.refl _ _
    | with_reducible apply Only.wr
    | with_reducible apply State.fault_only
    | with_reducible apply Only.app (hg := State.stripColumns_only ..)
    | with_reducible apply Only.app (hg := State.autoBlank_only ..)
    | decide
    | (rw [blk_BTN_EMFAIL_FAIL]; decide)
    | split
    | intro _)

theorem State.fireReported_only (s : State) (n : Nat) (tag : Nat) :
    Only 0x1000000000 s (State.fireReported s n tag) := by
  unfold State.fireReported
  repeat' (first
    | with_reducible exact Only.refl _ _
    | decide
    | (with_reducible apply Only.upd <;> try (first | exact Or.inl (by decide) | exact Or.inr rfl)))

theorem State.oldReported_only (s : State) (n : Nat) (tag : Nat) :
    Only 0x1000000000 s (State.oldReported s n tag) := by
  unfold State.oldReported
  repeat' (first
    | with_reducible exact Only.refl _ _
    | decide
    | (with_reducible apply Only.upd <;> try (first | exact Or.inl (by decide) | exact Or.inr rfl)))

theorem State.setProof_only (s : State) (burst : Nat) (f : ProofCycle → ProofCycle) :
    Only 0x1000000000 s (State.setProof s burst f) := by
  unfold State.setProof
  dsimp only
  repeat' (first
    | with_reducible exact Only.refl _ _
    | decide
    | split
    | (with_reducible apply Only.upd <;> try (first | exact Or.inl (by decide) | exact Or.inr rfl)))

theorem State.proofShown_only (s : State) (f : Fire) (r : FireReport) :
    Only 0x1000000000 s (State.proofShown s f r) := by
  unfold State.proofShown
  repeat' (first
    | with_reducible exact Only.refl _ _
    | with_reducible apply Only.app (hg := State.setProof_only ..)
    | with_reducible apply Only.foldl
    | decide
    | split
    | intro _
    | (with_reducible apply Only.upd <;> try (first | exact Or.inl (by decide) | exact Or.inr rfl)))

theorem State.compareReport_only (s : State) (n : Nat) (r : FireReport) :
    Only 0xca113000802820 s (State.compareReport s n r) := by
  unfold State.compareReport
  dsimp only
  repeat' (first
    | with_reducible exact Only.refl _ _
    | with_reducible apply Only.app (hg := State.trussFault_only ..)
    | decide
    | split)

theorem State.readmitProven_only (s : State) (row : Nat) (bad : BitVec 32) :
    Only 0x1000000000 s (State.readmitProven s row bad) := by
  unfold State.readmitProven
  repeat' (first
    | with_reducible exact Only.refl _ _
    | decide
    | (with_reducible apply Only.upd <;> try (first | exact Or.inl (by decide) | exact Or.inr rfl)))

theorem State.voidReported_only (s : State) (o : Option Fire) (r : FireReport) :
    Only 0x2000000020 s (State.voidReported s o r) := by
  unfold State.voidReported
  repeat' (first
    | with_reducible exact Only.refl _ _
    | with_reducible apply Only.app (hg := State.voidOf_only ..)
    | decide
    | split
    | (with_reducible apply Only.upd <;> try (first | exact Or.inl (by decide) | exact Or.inr rfl)))

theorem State.newReport_only (s : State) (n : Nat) (r : FireReport) :
    Only 0xca113000802820 s (State.newReport s n r) := by
  unfold State.newReport
  dsimp only
  repeat' (first
    | with_reducible exact Only.refl _ _
    | with_reducible apply Only.app (hg := State.compareReport_only ..)
    | with_reducible apply Only.app (hg := State.proofShown_only ..)
    | with_reducible apply Only.app (hg := State.fireReported_only ..)
    | with_reducible apply Only.app (hg := State.voidReported_only ..)
    | with_reducible apply Only.app (hg := State.readmitProven_only ..)
    | with_reducible apply Only.app (hg := State.columnsFail_only ..)
    | with_reducible apply Only.app (hg := State.trussFault_only ..)
    | with_reducible apply State.fault_only
    | with_reducible apply Only.when
    | decide
    | split
    | intro _
    | (with_reducible apply Only.upd <;> try (first | exact Or.inl (by decide) | exact Or.inr rfl)))

theorem State.oldReport_only (s : State) (n : Nat) (r : FireReport) :
    Only 0xca113000802820 s (State.oldReport s n r) := by
  unfold State.oldReport
  dsimp only
  repeat' (first
    | with_reducible exact Only.refl _ _
    | with_reducible apply Only.app (hg := State.compareReport_only ..)
    | with_reducible apply Only.app (hg := State.oldReported_only ..)
    | with_reducible apply Only.app (hg := State.columnsFail_only ..)
    | with_reducible apply Only.app (hg := State.trussFault_only ..)
    | with_reducible apply State.fault_only
    | with_reducible apply Only.app (hg := State.reportFree_only ..)
    | decide
    | split
    | intro _
    | (with_reducible apply Only.upd <;> try (first | exact Or.inl (by decide) | exact Or.inr rfl)))

theorem State.fireReport_only (s : State) (n : Nat) (r : FireReport) :
    Only 0xca113000802820 s (State.fireReport s n r) := by
  unfold State.fireReport
  repeat' (first
    | with_reducible exact Only.refl _ _
    | with_reducible apply Only.app (hg := State.oldReport_only ..)
    | with_reducible apply Only.app (hg := State.newReport_only ..)
    | decide
    | split)

theorem execReport_only (u : UpFrom) (reps : List FireReport) (s : State) :
    OnlyO 0xca113003802820 s (execReport u reps s) := by
  unfold execReport
  repeat' (first
    | with_reducible apply OnlyO.done
    | with_reducible exact Only.refl _ _
    | with_reducible apply Only.app (hg := State.fireReport_only ..)
    | with_reducible apply Only.app (hg := State.answered_only ..)
    | with_reducible apply Only.app (hg := State.upBad_only ..)
    | with_reducible apply Only.foldl
    | decide
    | split
    | intro _)

theorem State.takeWords_only (s : State) (n : Nat) (addr : Nat) (words : List Word) :
    Only 0x8001000800800 s (State.takeWords s n addr words) := by
  unfold State.takeWords
  dsimp only
  repeat' (first
    | with_reducible exact Only.refl _ _
    | with_reducible apply Only.wr
    | with_reducible apply Only.app (hg := State.setDrv_only ..)
    | with_reducible apply Only.app (hg := State.reportFree_only ..)
    | with_reducible apply Only.foldl
    | decide
    | (rw [blk_BTN_DID_COLSM1]; decide)
    | (rw [blk_BTN_DID_PROTO]; decide)
    | (rw [blk_BTN_DID_ROWSM1]; decide)
    | split
    | intro _
    | (with_reducible apply Only.upd <;> try (first | exact Or.inl (by decide) | exact Or.inr rfl)))

theorem execReaddata_only (u : UpFrom) (addr : BitVec 16) (words : List Word) (s : State) :
    OnlyO 0x48001003800800 s (execReaddata u addr words s) := by
  unfold execReaddata
  repeat' (first
    | with_reducible apply OnlyO.done
    | with_reducible exact Only.refl _ _
    | with_reducible apply Only.app (hg := State.answered_only ..)
    | with_reducible apply Only.app (hg := State.takeWords_only ..)
    | with_reducible apply Only.app (hg := State.upBad_only ..)
    | decide
    | split)

theorem execAlarm_only (u : UpFrom) (code : BitVec 8) (detail : BitVec 24) (s : State) :
    OnlyO 0xca113003802820 s (execAlarm u code detail s) := by
  unfold execAlarm
  dsimp only
  repeat' (first
    | with_reducible apply OnlyO.done
    | with_reducible exact Only.refl _ _
    | with_reducible apply Only.wr
    | with_reducible apply Only.flag
    | with_reducible apply Only.app (hg := State.report_only ..)
    | with_reducible apply Only.app (hg := State.answered_only ..)
    | with_reducible apply Only.app (hg := State.upBad_only ..)
    | with_reducible apply Only.app (hg := State.stopDriver_only ..)
    | with_reducible apply Only.app (hg := State.trussFault_only ..)
    | decide
    | (rw [blk_BTN_DSTAT_ALARM]; decide)
    | split)

theorem execUnreported_only (n : Fin 64) (tag : BitVec 9) (s : State) :
    OnlyO 0x48001003800800 s (execUnreported n tag s) := by
  unfold execUnreported
  dsimp only
  repeat' (first
    | with_reducible apply OnlyO.done
    | with_reducible exact Only.refl _ _
    | with_reducible apply Only.app (hg := State.setProof_only ..)
    | with_reducible apply Only.app (hg := State.fireReported_only ..)
    | with_reducible apply State.fault_only
    | with_reducible apply Only.foldl
    | decide
    | split
    | intro _
    | (with_reducible apply Only.upd <;> try (first | exact Or.inl (by decide) | exact Or.inr rfl)))

theorem State.settleTrim_only (s : State) (n : Nat) :
    Only 0x1000000800 s (State.settleTrim s n) := by
  unfold State.settleTrim
  repeat' (first
    | with_reducible exact Only.refl _ _
    | with_reducible apply Only.wrS
    | with_reducible apply Only.app (hg := State.setDrv_only ..)
    | decide
    | (rw [blk_BTN_DRES_RES]; decide)
    | split
    | (with_reducible apply Only.upd <;> try (first | exact Or.inl (by decide) | exact Or.inr rfl)))

theorem State.trimShots_only (s : State) (n : Nat) (d : Int) (eff : Nat) :
    Only 0x2000000000 s (State.trimShots s n d eff) := by
  unfold State.trimShots
  dsimp only
  repeat' (first
    | with_reducible exact Only.refl _ _
    | decide
    | split
    | (with_reducible apply Only.upd <;> try (first | exact Or.inl (by decide) | exact Or.inr rfl)))

theorem State.echoUpdate_only (s : State) (n : Nat) (a : Nat) :
    Only 0xca003000900800 s (State.echoUpdate s n a) := by
  unfold State.echoUpdate
  dsimp only
  repeat' (first
    | with_reducible exact Only.refl _ _
    | with_reducible apply Only.wr
    | with_reducible apply Only.wrS
    | with_reducible apply Only.bump
    | with_reducible apply Only.app (hg := State.settleTrim_only ..)
    | with_reducible apply Only.app (hg := State.sendRing_only ..)
    | with_reducible apply Only.app (hg := State.trimShots_only ..)
    | with_reducible apply Only.app (hg := State.setDrv_only ..)
    | with_reducible apply State.fault_only
    | decide
    | (rw [blk_BTN_DDLY_ACW]; decide)
    | (rw [blk_BTN_DRES_RES]; decide)
    | (rw [blk_BTN_DRES_TRIMS]; decide)
    | split
    | intro _
    | (with_reducible apply Only.upd <;> try (first | exact Or.inl (by decide) | exact Or.inr rfl)))

theorem State.trimCycle_only (s : State) :
    Only 0x1000000800 s (State.trimCycle s) := by
  unfold State.trimCycle
  repeat' (first
    | with_reducible exact Only.refl _ _
    | with_reducible apply Only.app (hg := State.settleTrim_only ..)
    | with_reducible apply Only.foldl
    | decide
    | intro _)

theorem State.sendEcho_only (s : State) (n : Nat) (ccw : Bool) :
    Only 0xc2001000100000 s (State.sendEcho s n ccw) := by
  unfold State.sendEcho
  repeat' (first
    | with_reducible exact Only.refl _ _
    | with_reducible apply Only.app (hg := State.sendRing_only ..)
    | decide
    | split)

theorem State.startEcho_only (s : State) (n : Nat) :
    Only 0xc2001000100000 s (State.startEcho s n) := by
  unfold State.startEcho
  dsimp only
  repeat' (first
    | with_reducible exact Only.refl _ _
    | with_reducible apply Only.app (hg := State.setDrv_only ..)
    | with_reducible apply Only.app (hg := State.sendEcho_only ..)
    | with_reducible apply Only.when
    | decide
    | split
    | intro _
    | (with_reducible apply Only.upd <;> try (first | exact Or.inl (by decide) | exact Or.inr rfl)))

theorem State.echoRings_only (s : State) (which : Nat → Bool) :
    Only 0xc2001000100800 s (State.echoRings s which) := by
  unfold State.echoRings
  dsimp only
  repeat' (first
    | with_reducible exact Only.refl _ _
    | with_reducible apply Only.wr
    | with_reducible apply Only.app (hg := State.calEnd_only ..)
    | with_reducible apply Only.app (hg := State.startEcho_only ..)
    | with_reducible apply Only.foldl
    | decide
    | split
    | intro _)

theorem State.startEchoes_only (s : State) :
    Only 0xc2001000100800 s (State.startEchoes s) := by
  unfold State.startEchoes
  repeat' (first
    | with_reducible exact Only.refl _ _
    | with_reducible apply Only.app (hg := State.echoRings_only ..)
    | decide)

theorem State.asymCheck_only (s : State) (n : Nat) :
    Only 0x8000000800800 s (State.asymCheck s n) := by
  unfold State.asymCheck
  dsimp only
  repeat' (first
    | with_reducible exact Only.refl _ _
    | with_reducible apply State.fault_only
    | with_reducible apply Only.when
    | decide
    | split
    | intro _
    | (with_reducible apply Only.upd <;> try (first | exact Or.inl (by decide) | exact Or.inr rfl)))

theorem State.echoEnd_only (s : State) (n : Nat) (ccw : Bool) (e : EchoRun) :
    Only 0xca003000900800 s (State.echoEnd s n ccw e) := by
  unfold State.echoEnd
  dsimp only
  repeat' (first
    | with_reducible exact Only.refl _ _
    | with_reducible apply Only.wr
    | with_reducible apply Only.app (hg := State.setDrv_only ..)
    | with_reducible apply Only.app (hg := State.echoUpdate_only ..)
    | with_reducible apply Only.app (hg := State.asymCheck_only ..)
    | with_reducible apply Only.app (hg := State.calEnd_only ..)
    | decide
    | (rw [blk_BTN_DDLY_ACCW]; decide)
    | split
    | (with_reducible apply Only.upd <;> try (first | exact Or.inl (by decide) | exact Or.inr rfl)))

theorem execEchoR_only (n : Fin 64) (ccw : Bool) (hold : EchoHold) (rt : Nat) (s : State) :
    OnlyO 0xca003003900800 s (execEchoR n ccw hold rt s) := by
  unfold execEchoR
  dsimp only
  repeat' (first
    | with_reducible apply OnlyO.done
    | with_reducible exact Only.refl _ _
    | with_reducible apply Only.app (hg := State.setDrv_only ..)
    | with_reducible apply Only.app (hg := State.echoEnd_only ..)
    | with_reducible apply Only.app (hg := State.sendEcho_only ..)
    | decide
    | split
    | (with_reducible apply Only.upd <;> try (first | exact Or.inl (by decide) | exact Or.inr rfl)))

theorem execEchoCheck_only (nil : Unit) (s : State) :
    OnlyO 0xc2001003100800 s (execEchoCheck nil s) := by
  unfold execEchoCheck
  repeat' (first
    | with_reducible apply OnlyO.done
    | with_reducible exact Only.refl _ _
    | with_reducible apply Only.app (hg := State.startEchoes_only ..)
    | decide
    | split)

theorem execRecal_only (nil : Unit) (s : State) :
    OnlyO 0xc2001003100800 s (execRecal nil s) := by
  unfold execRecal
  repeat' (first
    | with_reducible apply OnlyO.done
    | with_reducible exact Only.refl _ _
    | with_reducible apply Only.wr
    | with_reducible apply Only.app (hg := State.startEchoes_only ..)
    | decide)

theorem State.bringDriver_only (s : State) (n : Nat) (id : BitVec 8 × BitVec 5 × BitVec 5 × BitVec 8) (a : Nat) (c : Nat) :
    Only 0xc2001000100800 s (State.bringDriver s n id a c) := by
  unfold State.bringDriver
  dsimp only
  repeat' (first
    | with_reducible exact Only.refl _ _
    | with_reducible apply Only.wr
    | with_reducible apply Only.wrS
    | with_reducible apply Only.app (hg := State.setDrv_only ..)
    | with_reducible apply Only.app (hg := State.sendRing_only ..)
    | decide
    | (rw [blk_BTN_DDLY_ACCW]; decide)
    | (rw [blk_BTN_DDLY_ACW]; decide)
    | (rw [blk_BTN_DID_COLSM1]; decide)
    | (rw [blk_BTN_DID_PRESENT]; decide)
    | (rw [blk_BTN_DID_PROTO]; decide)
    | (rw [blk_BTN_DID_ROWSM1]; decide)
    | (rw [blk_BTN_DRES_RES]; decide)
    | (rw [blk_BTN_DSTAT_SILENT]; decide)
    | (with_reducible apply Only.upd <;> try (first | exact Or.inl (by decide) | exact Or.inr rfl)))

theorem State.stageOn_only (s : State) (r : Nat) (e : Nat) (time : Nat) :
    Only 0xc2001000100000 s (State.stageOn s r e time) := by
  unfold State.stageOn
  dsimp only
  repeat' (first
    | with_reducible exact Only.refl _ _
    | with_reducible apply Only.app (hg := State.sendRing_only ..)
    | with_reducible apply Only.foldl
    | decide
    | intro _)

theorem State.readIdentity_only (s : State) (n : Nat) :
    Only 0xc2001000100000 s (State.readIdentity s n) := by
  unfold State.readIdentity
  dsimp only
  repeat' (first
    | with_reducible exact Only.refl _ _
    | with_reducible apply Only.app (hg := State.sendRing_only ..)
    | with_reducible apply Only.foldl
    | decide
    | intro _)

theorem State.measure_only (s : State) (n : Nat) :
    Only 0xc2001000100000 s (State.measure s n) := by
  unfold State.measure
  repeat' (first
    | with_reducible exact Only.refl _ _
    | with_reducible apply Only.app (hg := State.sendEcho_only ..)
    | with_reducible apply Only.foldl
    | decide
    | intro _)

theorem State.ringComes_only (s : State) (r : Nat) (f : RingFind) (k : RingKept) :
    Only 0xca001000900800 s (State.ringComes s r f k) := by
  unfold State.ringComes
  dsimp only
  repeat' (first
    | with_reducible exact Only.refl _ _
    | with_reducible apply Only.wr
    | with_reducible apply Only.app (hg := State.bringDriver_only ..)
    | with_reducible apply State.fault_only
    | with_reducible apply Only.app (hg := State.stageOn_only ..)
    | with_reducible apply Only.app (hg := State.sendRing_only ..)
    | with_reducible apply State.setRingBit_only
    | with_reducible apply Only.app (hg := State.setRing_only ..)
    | with_reducible apply Only.when
    | with_reducible apply Only.foldl
    | decide
    | (rw [blk_BTN_RLOOP_LCCW]; decide)
    | (rw [blk_BTN_RLOOP_LCW]; decide)
    | (rw [blk_BTN_RSTAT_BREAK]; decide)
    | (rw [blk_BTN_RSTAT_CCWUP]; decide)
    | (rw [blk_BTN_RSTAT_CWUP]; decide)
    | (rw [blk_BTN_RSTAT_NDRV]; decide)
    | split
    | intro _
    | (with_reducible apply Only.upd <;> try (first | exact Or.inl (by decide) | exact Or.inr rfl)))

theorem State.askDrivers_only (s : State) (r : Nat) (k : Nat) :
    Only 0xc2001000100000 s (State.askDrivers s r k) := by
  unfold State.askDrivers
  repeat' (first
    | with_reducible exact Only.refl _ _
    | with_reducible apply Only.app (hg := State.measure_only ..)
    | with_reducible apply Only.app (hg := State.readIdentity_only ..)
    | with_reducible apply Only.foldl
    | decide
    | intro _)

theorem State.fullBringUp_only (s : State) (r : Nat) (f : RingFind) :
    Only 0xca001000900800 s (State.fullBringUp s r f) := by
  unfold State.fullBringUp
  dsimp only
  repeat' (first
    | with_reducible exact Only.refl _ _
    | with_reducible apply Only.wr
    | with_reducible apply Only.app (hg := State.sendRing_only ..)
    | with_reducible apply Only.app (hg := State.askDrivers_only ..)
    | with_reducible apply State.fault_only
    | with_reducible apply Only.app (hg := State.ringComes_only ..)
    | with_reducible apply State.setRingBit_only
    | with_reducible apply Only.when
    | decide
    | (rw [blk_BTN_RSTAT_NDRV]; decide)
    | split
    | intro _)

theorem State.bringUp_only (s : State) (r : Nat) (f : RingFind) :
    Only 0xca001000900800 s (State.bringUp s r f) := by
  unfold State.bringUp
  dsimp only
  repeat' (first
    | with_reducible exact Only.refl _ _
    | with_reducible apply Only.app (hg := State.sendRing_only ..)
    | with_reducible apply Only.app (hg := State.askDrivers_only ..)
    | with_reducible apply Only.app (hg := State.ringComes_only ..)
    | with_reducible apply Only.app (hg := State.fullBringUp_only ..)
    | decide
    | split
    | (with_reducible apply Only.upd <;> try (first | exact Or.inl (by decide) | exact Or.inr rfl)))

theorem State.disableRing_only (s : State) (r : Nat) :
    Only 0xc2003000000820 s (State.disableRing s r) := by
  unfold State.disableRing
  repeat' (first
    | with_reducible exact Only.refl _ _
    | with_reducible apply Only.app (hg := State.hushRing_only ..)
    | with_reducible apply Only.app (hg := State.ringGone_only ..)
    | decide)

theorem execRingenWrite_only (en : BitVec 8) (finds : List (Fin 8 × RingFind)) (s : State) :
    OnlyO 0xca003003900820 s (execRingenWrite en finds s) := by
  unfold execRingenWrite
  dsimp only
  repeat' (first
    | with_reducible apply OnlyO.done
    | with_reducible exact Only.refl _ _
    | with_reducible apply Only.wr
    | with_reducible apply Only.app (hg := State.disableRing_only ..)
    | with_reducible apply Only.app (hg := State.bringUp_only ..)
    | with_reducible apply Only.app (hg := State.setRing_only ..)
    | with_reducible apply Only.foldl
    | decide
    | split
    | intro _
    | (with_reducible apply Only.upd <;> try (first | exact Or.inl (by decide) | exact Or.inr rfl)))

theorem State.ringDirDown_only (s : State) (r : Nat) (ccw : Bool) :
    Only 0xca001000900800 s (State.ringDirDown s r ccw) := by
  unfold State.ringDirDown
  dsimp only
  repeat' (first
    | with_reducible exact Only.refl _ _
    | with_reducible apply Only.wr
    | with_reducible apply State.setRingBit_only
    | with_reducible apply State.faultInj_only
    | with_reducible apply Only.app (hg := State.dropEchoes_only ..)
    | with_reducible apply Only.app (hg := State.setRing_only ..)
    | with_reducible apply Only.app (hg := State.setDrv_only ..)
    | with_reducible apply Only.app (hg := State.sendEcho_only ..)
    | with_reducible apply Only.foldl
    | decide
    | (rw [blk_BTN_RSTAT_CCWUP]; decide)
    | (rw [blk_BTN_RSTAT_CWUP]; decide)
    | split
    | intro _
    | (with_reducible apply Only.upd <;> try (first | exact Or.inl (by decide) | exact Or.inr rfl)))

theorem execReturnedFrame_only (r : Fin 8) (ccw : Bool) (f : ReturnFind) (s : State) :
    OnlyO 0xca001003900800 s (execReturnedFrame r ccw f s) := by
  unfold execReturnedFrame
  dsimp only
  repeat' (first
    | with_reducible apply OnlyO.done
    | with_reducible exact Only.refl _ _
    | with_reducible apply Only.wr
    | with_reducible apply Only.bump
    | with_reducible apply Only.app (hg := State.ringDirBack_only ..)
    | with_reducible apply Only.app (hg := State.ringDirDown_only ..)
    | with_reducible apply Only.when
    | decide
    | (rw [blk_BTN_RERR_CRCERR]; decide)
    | (rw [blk_BTN_RLOOP_LCCW]; decide)
    | (rw [blk_BTN_RLOOP_LCW]; decide)
    | (rw [blk_BTN_RSTAT_CCWUP]; decide)
    | (rw [blk_BTN_RSTAT_CWUP]; decide)
    | split
    | intro _
    | (with_reducible apply Only.upd <;> try (first | exact Or.inl (by decide) | exact Or.inr rfl)))

theorem execOpticalDark_only (n : Fin 64) (row : Fin 32) (s : State) :
    OnlyO 0x48003003800820 s (execOpticalDark n row s) := by
  unfold execOpticalDark
  dsimp only
  repeat' (first
    | with_reducible apply OnlyO.done
    | with_reducible exact Only.refl _ _
    | with_reducible apply Only.app (hg := State.columnsFail_only ..)
    | with_reducible apply State.fault_only
    | with_reducible apply Only.foldl
    | decide
    | split
    | intro _
    | (with_reducible apply Only.upd <;> try (first | exact Or.inl (by decide) | exact Or.inr rfl)))

end Sys2Proof.Machine
end

