-- ==== Sys2Proof/Laws/OnlyHbmOps.lean ====
section
/-!
SUPPORT. What each operation of Machine/HbmOps.lean may change: its register blocks and parts of the state, as the mask of `Only`.
-/
namespace Sys2Proof.Machine

set_option linter.unusedTactic false
set_option linter.unreachableTactic false

theorem State.hbmStore_only (s : State) (a : Nat) (bytes : List Byte) : Only 0x18000000000000 s (State.hbmStore s a bytes) := by
  unfold State.hbmStore
  constructor
  case wf =>
    intro h
    simp only [State.wf, State.regsWf, Memory.wf, Bool.and_eq_true] at h ⊢
    exact ⟨h.1, storeBytes_wf 0 _ _ _ h.2.1, h.2.2⟩
  case reg => exact fun _ _ => rfl
  case hbm => exact Or.inl (by decide)
  case flt => exact Or.inl (by decide)
  all_goals first | exact Or.inr rfl | rfl

end Sys2Proof.Machine
end

