-- ==== Sys2Proof/Laws/OnlyFaultLog.lean ====
section
/-!
SUPPORT. What each operation of Machine/FaultLog.lean may change: its register blocks and parts of the state, as the mask of `Only`.
-/
namespace Sys2Proof.Machine

set_option linter.unusedTactic false
set_option linter.unreachableTactic false

theorem State.setOpens_only (s : State) (l : List FltEntry) :
    Only 0x8000000800000 s (State.setOpens s l) := by
  unfold State.setOpens
  repeat' (first
    | with_reducible exact Only.refl _ _
    | with_reducible apply Only.wr
    | decide
    | (with_reducible apply Only.upd <;> try (first | exact Or.inl (by decide) | exact Or.inr rfl)))

theorem State.fltFull_only (s : State) :
    Only 0x800000 s (State.fltFull s) := by
  unfold State.fltFull
  repeat' (first
    | with_reducible exact Only.refl _ _
    | with_reducible apply Only.wr
    | with_reducible apply Only.flag
    | with_reducible apply Only.when
    | decide
    | intro _)

theorem State.fltRecord_only (s : State) (e : FltEntry) :
    Only 0x8000000800000 s (State.fltRecord s e) := by
  unfold State.fltRecord
  dsimp only
  repeat' (first
    | with_reducible exact Only.refl _ _
    | with_reducible apply Only.bump
    | with_reducible apply Only.flag
    | with_reducible apply Only.app (hg := State.fltFull_only ..)
    | with_reducible apply Only.when
    | with_reducible apply Only.foldl
    | decide
    | split
    | intro _
    | (with_reducible apply Only.upd <;> try (first | exact Or.inl (by decide) | exact Or.inr rfl)))

theorem State.fltWrite_only (s : State) (e : FltEntry) :
    Only 0x8000000800000 s (State.fltWrite s e) := by
  unfold State.fltWrite
  dsimp only
  repeat' (first
    | with_reducible exact Only.refl _ _
    | with_reducible apply Only.app (hg := State.fltRecord_only ..)
    | decide
    | split
    | (with_reducible apply Only.upd <;> try (first | exact Or.inl (by decide) | exact Or.inr rfl)))

theorem State.fltCycle_only (s : State) :
    Only 0x8000000800000 s (State.fltCycle s) := by
  unfold State.fltCycle
  dsimp only
  repeat' (first
    | with_reducible exact Only.refl _ _
    | with_reducible apply Only.app (hg := State.fltRecord_only ..)
    | decide
    | split
    | (with_reducible apply Only.upd <;> try (first | exact Or.inl (by decide) | exact Or.inr rfl)))

theorem State.fltDrop_only (s : State) :
    Only 0x8000000800000 s (State.fltDrop s) := by
  unfold State.fltDrop
  repeat' (first
    | with_reducible exact Only.refl _ _
    | with_reducible apply Only.bump
    | with_reducible apply Only.flag
    | decide
    | (with_reducible apply Only.upd <;> try (first | exact Or.inl (by decide) | exact Or.inr rfl)))

theorem State.fltOpen_only (s : State) (r : Report) :
    Only 0x8000000800000 s (State.fltOpen s r) := by
  unfold State.fltOpen
  dsimp only
  repeat' (first
    | with_reducible exact Only.refl _ _
    | with_reducible apply Only.app (hg := State.fltWrite_only ..)
    | with_reducible apply Only.app (hg := State.setOpens_only ..)
    | with_reducible apply Only.app (hg := State.fltDrop_only ..)
    | decide
    | split
    | (with_reducible apply Only.upd <;> try (first | exact Or.inl (by decide) | exact Or.inr rfl)))

theorem State.fltNew_only (s : State) (r : Report) :
    Only 0x8000000800000 s (State.fltNew s r) := by
  unfold State.fltNew
  dsimp only
  repeat' (first
    | with_reducible exact Only.refl _ _
    | with_reducible apply Only.count
    | with_reducible apply Only.app (hg := State.fltOpen_only ..)
    | with_reducible apply Only.app (hg := State.fltDrop_only ..)
    | with_reducible apply Only.app (hg := State.setOpens_only ..)
    | with_reducible apply Only.app (hg := State.fltWrite_only ..)
    | decide
    | split
    | (with_reducible apply Only.upd <;> try (first | exact Or.inl (by decide) | exact Or.inr rfl)))

theorem State.fltTake_only (s : State) (r : Report) :
    Only 0x8000000800000 s (State.fltTake s r) := by
  unfold State.fltTake
  repeat' (first
    | with_reducible exact Only.refl _ _
    | with_reducible apply Only.app (hg := State.setOpens_only ..)
    | with_reducible apply Only.app (hg := State.fltNew_only ..)
    | decide
    | split)

theorem execFaultReport_only (s : State) :
    OnlyO 0x48000003800000 s (execFaultReport s) := by
  unfold execFaultReport
  repeat' (first
    | with_reducible apply OnlyO.done
    | with_reducible exact Only.refl _ _
    | with_reducible apply Only.app (hg := State.fltTake_only ..)
    | decide
    | split
    | (with_reducible apply Only.upd <;> try (first | exact Or.inl (by decide) | exact Or.inr rfl)))

theorem execEntryFlush_only (src : Nat) (code : Nat) (s : State) :
    OnlyO 0x48000003800000 s (execEntryFlush src code s) := by
  unfold execEntryFlush
  dsimp only
  repeat' (first
    | with_reducible apply OnlyO.done
    | with_reducible exact Only.refl _ _
    | with_reducible apply Only.count
    | with_reducible apply Only.app (hg := State.setOpens_only ..)
    | with_reducible apply Only.app (hg := State.fltWrite_only ..)
    | decide
    | split
    | (with_reducible apply Only.upd <;> try (first | exact Or.inl (by decide) | exact Or.inr rfl)))

theorem execInjlock_only (s : State) :
    OnlyO 0x40000003800000 s (execInjlock s) := by
  unfold execInjlock
  repeat' (first
    | with_reducible apply OnlyO.done
    | with_reducible exact Only.refl _ _
    | with_reducible apply Only.wr
    | decide)

theorem State.fltStopfull_only (s : State) (v : Bool) :
    Only 0x8000000800000 s (State.fltStopfull s v) := by
  unfold State.fltStopfull
  dsimp only
  repeat' (first
    | with_reducible exact Only.refl _ _
    | with_reducible apply Only.wr
    | with_reducible apply Only.wrB
    | with_reducible apply Only.app (hg := State.fltFull_only ..)
    | decide
    | split
    | (with_reducible apply Only.upd <;> try (first | exact Or.inl (by decide) | exact Or.inr rfl)))

theorem State.fltRelease_only (s : State) :
    Only 0x8000000800000 s (State.fltRelease s) := by
  unfold State.fltRelease
  dsimp only
  repeat' (first
    | with_reducible exact Only.refl _ _
    | with_reducible apply Only.count
    | with_reducible apply Only.app (hg := State.fltWrite_only ..)
    | with_reducible apply Only.app (hg := State.setOpens_only ..)
    | with_reducible apply Only.foldl
    | decide
    | intro _
    | (with_reducible apply Only.upd <;> try (first | exact Or.inl (by decide) | exact Or.inr rfl)))

end Sys2Proof.Machine
end

