-- ==== Sys2Proof/Laws/OnlyClock.lean ====
section
/-!
SUPPORT. What each operation of Machine/Clock.lean may change: its register blocks and parts of the state, as the mask of `Only`.
-/
namespace Sys2Proof.Machine

set_option linter.unusedTactic false
set_option linter.unreachableTactic false

theorem State.onClk_only (s : State) (f : ClkState → ClkState) :
    Only 0x200000000 s (State.onClk s f) := by
  unfold State.onClk
  repeat' (first
    | with_reducible exact Only.refl _ _
    | decide
    | (with_reducible apply Only.upd <;> try (first | exact Or.inl (by decide) | exact Or.inr rfl)))

theorem State.tbMove_only (s : State) (new : Nat) :
    Only 0x10000000002 s (State.tbMove s new) := by
  unfold State.tbMove
  repeat' (first
    | with_reducible exact Only.refl _ _
    | with_reducible apply Only.wr
    | with_reducible apply Only.flag
    | with_reducible apply Only.app (hg := State.markTimebase_only ..)
    | decide
    | split)

theorem State.tbEval_only (s : State) :
    Only 0x10000000002 s (State.tbEval s) := by
  unfold State.tbEval
  repeat' (first
    | with_reducible exact Only.refl _ _
    | with_reducible apply Only.app (hg := State.tbMove_only ..)
    | decide
    | split)

theorem execOcxoRdyRise_only (s : State) :
    OnlyO 0x40010203000002 s (execOcxoRdyRise s) := by
  unfold execOcxoRdyRise
  dsimp only
  repeat' (first
    | with_reducible apply OnlyO.done
    | with_reducible exact Only.refl _ _
    | with_reducible apply Only.wr
    | with_reducible apply Only.app (hg := State.onClk_only ..)
    | with_reducible apply Only.app (hg := State.tbMove_only ..)
    | decide
    | split
    | (with_reducible apply Only.upd <;> try (first | exact Or.inl (by decide) | exact Or.inr rfl)))

theorem execOcxoRdyFall_only (s : State) :
    OnlyO 0x40010203000002 s (execOcxoRdyFall s) := by
  unfold execOcxoRdyFall
  repeat' (first
    | with_reducible apply OnlyO.done
    | with_reducible exact Only.refl _ _
    | with_reducible apply Only.wr
    | with_reducible apply Only.app (hg := State.onClk_only ..)
    | with_reducible apply Only.app (hg := State.tbMove_only ..)
    | decide
    | (with_reducible apply Only.upd <;> try (first | exact Or.inl (by decide) | exact Or.inr rfl)))

theorem State.holdEnd_only (s : State) :
    Only 0x10200000002 s (State.holdEnd s) := by
  unfold State.holdEnd
  repeat' (first
    | with_reducible exact Only.refl _ _
    | with_reducible apply Only.app (hg := State.onClk_only ..)
    | with_reducible apply Only.app (hg := State.tbEval_only ..)
    | decide
    | (with_reducible apply Only.upd <;> try (first | exact Or.inl (by decide) | exact Or.inr rfl)))

theorem execHoldElapsed_only (s : State) :
    OnlyO 0x40010203000002 s (execHoldElapsed s) := by
  unfold execHoldElapsed
  repeat' (first
    | with_reducible apply OnlyO.done
    | with_reducible exact Only.refl _ _
    | with_reducible apply Only.app (hg := State.holdEnd_only ..)
    | decide
    | split)

theorem State.driftDrop_only (s : State) :
    Only 0x200000002 s (State.driftDrop s) := by
  unfold State.driftDrop
  repeat' (first
    | with_reducible exact Only.refl _ _
    | with_reducible apply Only.wr
    | with_reducible apply Only.app (hg := State.onClk_only ..)
    | decide
    | (with_reducible apply Only.upd <;> try (first | exact Or.inl (by decide) | exact Or.inr rfl)))

theorem execClkTbcfgWrite_only (v : Word) (s : State) :
    OnlyO 0x40010203000003 s (execClkTbcfgWrite v s) := by
  unfold execClkTbcfgWrite
  dsimp only
  repeat' (first
    | with_reducible apply OnlyO.done
    | with_reducible exact Only.refl _ _
    | with_reducible apply Only.wr
    | with_reducible apply Only.wrB
    | with_reducible apply Only.bump
    | with_reducible apply Only.app (hg := State.driftDrop_only ..)
    | with_reducible apply Only.app (hg := State.tbEval_only ..)
    | with_reducible apply Only.app (hg := State.holdEnd_only ..)
    | decide
    | split)

theorem State.freqIn_only (s : State) (interval : Nat) :
    Only 0x200000002 s (State.freqIn s interval) := by
  unfold State.freqIn
  dsimp only
  repeat' (first
    | with_reducible exact Only.refl _ _
    | with_reducible apply Only.wr
    | with_reducible apply Only.wrS
    | with_reducible apply Only.app (hg := State.onClk_only ..)
    | decide
    | split
    | (with_reducible apply Only.upd <;> try (first | exact Or.inl (by decide) | exact Or.inr rfl)))

theorem State.ppsStep_only (s : State) (ofs : Int) :
    Only 0x200000002 s (State.ppsStep s ofs) := by
  unfold State.ppsStep
  dsimp only
  repeat' (first
    | with_reducible exact Only.refl _ _
    | with_reducible apply Only.count
    | with_reducible apply Only.flag
    | with_reducible apply Only.app (hg := State.onClk_only ..)
    | with_reducible apply Only.when
    | decide
    | split
    | intro _
    | (with_reducible apply Only.upd <;> try (first | exact Or.inl (by decide) | exact Or.inr rfl)))

theorem execPpsEdge_only (sub : Nat) (s : State) :
    OnlyO 0x40010203000002 s (execPpsEdge sub s) := by
  unfold execPpsEdge
  dsimp only
  repeat' (first
    | with_reducible apply OnlyO.done
    | with_reducible exact Only.refl _ _
    | with_reducible apply Only.wr
    | with_reducible apply Only.wrS
    | with_reducible apply Only.app (hg := State.freqIn_only ..)
    | with_reducible apply Only.app (hg := State.onClk_only ..)
    | with_reducible apply Only.app (hg := State.ppsStep_only ..)
    | with_reducible apply Only.app (hg := State.tbEval_only ..)
    | decide
    | split
    | (with_reducible apply Only.upd <;> try (first | exact Or.inl (by decide) | exact Or.inr rfl)))

theorem execPpsLoss_only (s : State) :
    OnlyO 0x48010203800002 s (execPpsLoss s) := by
  unfold execPpsLoss
  dsimp only
  repeat' (first
    | with_reducible apply OnlyO.done
    | with_reducible exact Only.refl _ _
    | with_reducible apply Only.wr
    | with_reducible apply State.fault_only
    | with_reducible apply Only.app (hg := State.driftDrop_only ..)
    | with_reducible apply Only.app (hg := State.onClk_only ..)
    | with_reducible apply Only.app (hg := State.tbEval_only ..)
    | decide
    | split
    | intro _
    | (with_reducible apply Only.upd <;> try (first | exact Or.inl (by decide) | exact Or.inr rfl)))

theorem State.applyStep_only (s : State) :
    Only 0x10200000002 s (State.applyStep s).1 := by
  unfold State.applyStep
  dsimp only
  repeat' (first
    | with_reducible exact Only.refl _ _
    | with_reducible apply Only.count
    | with_reducible apply Only.app (hg := State.onClk_only ..)
    | with_reducible apply Only.app (hg := State.markTimebase_only ..)
    | decide
    | split
    | (with_reducible apply Only.upd <;> try (first | exact Or.inl (by decide) | exact Or.inr rfl)))

theorem State.stepBreak_only (s : State) (step : Int) (num : Nat) :
    Only 0x20000000400 s (State.stepBreak s step num) := by
  unfold State.stepBreak
  repeat' (first
    | with_reducible exact Only.refl _ _
    | with_reducible apply Only.flag
    | decide
    | split
    | (with_reducible apply Only.upd <;> try (first | exact Or.inl (by decide) | exact Or.inr rfl)))

theorem State.timeSetStep_only (s : State) (t : Nat) :
    Only 0x200000002 s (State.timeSetStep s t) := by
  unfold State.timeSetStep
  dsimp only
  repeat' (first
    | with_reducible exact Only.refl _ _
    | with_reducible apply Only.wr
    | with_reducible apply Only.app (hg := State.onClk_only ..)
    | decide
    | (with_reducible apply Only.upd <;> try (first | exact Or.inl (by decide) | exact Or.inr rfl)))

theorem State.timeLatch_only (s : State) :
    Only 0x2 s (State.timeLatch s) := by
  unfold State.timeLatch
  dsimp only
  repeat' (first
    | with_reducible exact Only.refl _ _
    | with_reducible apply Only.wr
    | decide)

theorem execClkTimeloRead_only (s : State) :
    OnlyO 0x40000003000002 s (execClkTimeloRead s) := by
  unfold execClkTimeloRead
  repeat' (first
    | with_reducible apply OnlyO.done
    | with_reducible exact Only.refl _ _
    | with_reducible apply Only.app (hg := State.timeLatch_only ..)
    | with_reducible apply Only.app (hg := State.emit_only ..)
    | decide)

theorem blk_pllLock (b : Bool) : blk (pllLock b).key = 1 := by cases b <;> decide

theorem State.pllLoss_only (s : State) (inj : Bool) : Only 0x8000000800002 s (State.pllLoss s inj) := by
  unfold State.pllLoss
  dsimp only
  repeat' (first
    | with_reducible exact Only.refl _ _
    | with_reducible apply Only.wr
    | with_reducible apply Only.wrB
    | with_reducible apply Only.flag
    | with_reducible apply Only.app (hg := State.reportFree_only ..)
    | with_reducible apply Only.app (hg := State.reportInj_only ..)
    | decide
    | (rw [blk_pllLock]; decide)
    | split)

theorem execPllLockLoss_only (s : State) :
    OnlyO 0x48000003800002 s (execPllLockLoss s) := by
  unfold execPllLockLoss
  repeat' (first
    | with_reducible apply OnlyO.done
    | with_reducible exact Only.refl _ _
    | with_reducible apply Only.app (hg := State.pllLoss_only ..)
    | decide)

theorem execPllRelock_only (ok : Bool) (s : State) :
    OnlyO 0x48000003800002 s (execPllRelock ok s) := by
  unfold execPllRelock
  dsimp only
  repeat' (first
    | with_reducible apply OnlyO.done
    | with_reducible exact Only.refl _ _
    | with_reducible apply Only.wr
    | with_reducible apply Only.app (hg := State.reportFree_only ..)
    | decide
    | (rw [blk_pllLock]; decide)
    | split)

end Sys2Proof.Machine
end

