-- ==== Sys2Proof/Laws/OnlyFwOps.lean ====
section
/-!
SUPPORT. What each operation of Machine/FwOps.lean may change: its register blocks and parts of the state, as the mask of `Only`.
-/
namespace Sys2Proof.Machine

set_option linter.unusedTactic false
set_option linter.unreachableTactic false

theorem State.onFwu_only (s : State) (f : FwuState → FwuState) :
    Only 0x4000000000000 s (State.onFwu s f) := by
  unfold State.onFwu
  repeat' (first
    | with_reducible exact Only.refl _ _
    | decide
    | (with_reducible apply Only.upd <;> try (first | exact Or.inl (by decide) | exact Or.inr rfl)))

theorem State.fwErr_only (s : State) (code : Nat) (slotB : Bool) :
    Only 0x200000 s (State.fwErr s code slotB) := by
  unfold State.fwErr
  repeat' (first
    | with_reducible exact Only.refl _ _
    | with_reducible apply Only.wr
    | with_reducible apply Only.wrB
    | decide)

theorem State.flashStore_only (s : State) (a : Nat) (b : List Byte) : Only 0x20000000000000 s (State.flashStore s a b) := by
  unfold State.flashStore
  constructor
  case wf =>
    intro h
    simp only [State.wf, State.regsWf, Memory.wf, Bool.and_eq_true] at h ⊢
    exact ⟨h.1, h.2.1, storeBytes_wf 0xFF _ _ _ h.2.2⟩
  case reg => exact fun _ _ => rfl
  case flash => exact Or.inl (by decide)
  all_goals first | exact Or.inr rfl | rfl

theorem State.putHead_only (s : State) (h : BootHead) :
    Only 0x20000000000000 s (State.putHead s h) := by
  unfold State.putHead
  repeat' (first
    | with_reducible exact Only.refl _ _
    | with_reducible apply Only.app (hg := State.flashStore_only ..)
    | decide
    | split
    | (with_reducible apply Only.upd <;> try (first | exact Or.inl (by decide) | exact Or.inr rfl)))

theorem State.headRegs_only (s : State) :
    Only 0x200000 s (State.headRegs s) := by
  unfold State.headRegs
  repeat' (first
    | with_reducible exact Only.refl _ _
    | with_reducible apply Only.wr
    | decide
    | split
    | (with_reducible apply Only.upd <;> try (first | exact Or.inl (by decide) | exact Or.inr rfl)))

theorem State.setLock_only (s : State) :
    Only 0x200000 s (State.setLock s) := by
  unfold State.setLock
  repeat' (first
    | with_reducible exact Only.refl _ _
    | with_reducible apply Only.wrB
    | decide)

theorem State.writeStore_only (s : State) (recs : List SetRec) :
    Only 0x24000000200000 s (State.writeStore s recs).1 := by
  unfold State.writeStore
  dsimp only
  repeat' (first
    | with_reducible exact Only.refl _ _
    | with_reducible apply Only.wr
    | with_reducible apply Only.bump
    | with_reducible apply Only.flag
    | with_reducible apply Only.app (hg := State.flashStore_only ..)
    | with_reducible apply Only.app (hg := State.onFwu_only ..)
    | decide
    | split
    | (with_reducible apply Only.upd <;> try (first | exact Or.inl (by decide) | exact Or.inr rfl)))

end Sys2Proof.Machine
end

