-- ==== Sys2Proof/Laws/OnlyPlane.lean ====
section
/-!
SUPPORT. What each operation of Machine/Plane.lean may change: its register blocks and parts of the state, as the mask of `Only`.
-/
namespace Sys2Proof.Machine

set_option linter.unusedTactic false
set_option linter.unreachableTactic false

theorem State.setLane_only (s : State) (l : Nat) (f : LaneState → LaneState) :
    Only 0x40000000000 s (State.setLane s l f) := by
  unfold State.setLane
  repeat' (first
    | with_reducible exact Only.refl _ _
    | decide
    | (with_reducible apply Only.upd <;> try (first | exact Or.inl (by decide) | exact Or.inr rfl)))

theorem execConverterReady_only (i : Fin 32) (s : State) :
    OnlyO 0x40000003004000 s (execConverterReady i s) := by
  unfold execConverterReady
  repeat' (first
    | with_reducible apply OnlyO.done
    | with_reducible exact Only.refl _ _
    | with_reducible apply Only.wr
    | decide
    | split)

theorem execConverterOverRange_only (i : Fin 32) (s : State) :
    OnlyO 0x48000003804000 s (execConverterOverRange i s) := by
  unfold execConverterOverRange
  repeat' (first
    | with_reducible apply OnlyO.done
    | with_reducible exact Only.refl _ _
    | with_reducible apply Only.wr
    | with_reducible apply State.fault_only
    | decide
    | intro _)

theorem execWfpPaircfgWrite_only (v : Word) (s : State) :
    OnlyO 0x48000003804000 s (execWfpPaircfgWrite v s) := by
  unfold execWfpPaircfgWrite
  dsimp only
  repeat' (first
    | with_reducible apply OnlyO.done
    | with_reducible exact Only.refl _ _
    | with_reducible apply Only.wr
    | with_reducible apply State.refuse_only
    | decide
    | split
    | intro _)

theorem execHsrcWrite_only (l : Fin 32) (v : BitVec 2) (s : State) :
    OnlyO 0x48040003804000 s (execHsrcWrite l v s) := by
  unfold execHsrcWrite
  repeat' (first
    | with_reducible apply OnlyO.done
    | with_reducible exact Only.refl _ _
    | with_reducible apply Only.wr
    | with_reducible apply State.refuse_only
    | with_reducible apply Only.app (hg := State.setLane_only ..)
    | decide
    | (rw [blk_WFP_LANE_HSRC]; decide)
    | split
    | intro _
    | (with_reducible apply Only.upd <;> try (first | exact Or.inl (by decide) | exact Or.inr rfl)))

theorem State.corSwap_only (s : State) :
    Only 0x8040000804000 s (State.corSwap s) := by
  unfold State.corSwap
  dsimp only
  repeat' (first
    | with_reducible exact Only.refl _ _
    | with_reducible apply Only.wr
    | with_reducible apply State.refuse_only
    | decide
    | split
    | intro _
    | (with_reducible apply Only.upd <;> try (first | exact Or.inl (by decide) | exact Or.inr rfl)))

theorem execCorswap_only (s : State) :
    OnlyO 0x48040003804000 s (execCorswap s) := by
  unfold execCorswap
  repeat' (first
    | with_reducible apply OnlyO.done
    | with_reducible exact Only.refl _ _
    | with_reducible apply Only.app (hg := State.corSwap_only ..)
    | decide)

theorem State.corApply_only (s : State) (at0 : Nat) :
    Only 0x8040000804000 s (State.corApply s at0) := by
  unfold State.corApply
  dsimp only
  repeat' (first
    | with_reducible exact Only.refl _ _
    | with_reducible apply Only.wr
    | with_reducible apply Only.wrB
    | with_reducible apply Only.flag
    | with_reducible apply Only.app (hg := State.corSwap_only ..)
    | decide
    | (with_reducible apply Only.upd <;> try (first | exact Or.inl (by decide) | exact Or.inr rfl)))

theorem execCorrectionSwapApplied_only (s : State) :
    OnlyO 0x48850003804000 s (execCorrectionSwapApplied s) := by
  unfold execCorrectionSwapApplied
  dsimp only
  repeat' (first
    | with_reducible apply OnlyO.done
    | with_reducible exact Only.refl _ _
    | with_reducible apply Only.app (hg := State.corSwap_only ..)
    | with_reducible apply Only.app (hg := State.corApply_only ..)
    | with_reducible apply Only.app (hg := State.markCal_only ..)
    | decide
    | split
    | (with_reducible apply Only.upd <;> try (first | exact Or.inl (by decide) | exact Or.inr rfl)))

theorem State.askSwap_only (s : State) (l : Nat) (m : Bool) :
    Only 0x8040000804000 s (State.askSwap s l m) := by
  unfold State.askSwap
  dsimp only
  repeat' (first
    | with_reducible exact Only.refl _ _
    | with_reducible apply Only.wr
    | with_reducible apply State.refuse_only
    | with_reducible apply Only.app (hg := State.setLane_only ..)
    | decide
    | (rw [blk_WFP_SWAP_FSWAP]; decide)
    | (rw [blk_WFP_SWAP_MSWAP]; decide)
    | split
    | intro _
    | (with_reducible apply Only.upd <;> try (first | exact Or.inl (by decide) | exact Or.inr rfl)))

theorem execFswap_only (l : Fin 32) (s : State) :
    OnlyO 0x48040003804000 s (execFswap l s) := by
  unfold execFswap
  repeat' (first
    | with_reducible apply OnlyO.done
    | with_reducible exact Only.refl _ _
    | with_reducible apply Only.app (hg := State.askSwap_only ..)
    | decide)

theorem execMswap_only (l : Fin 32) (s : State) :
    OnlyO 0x48040003804000 s (execMswap l s) := by
  unfold execMswap
  repeat' (first
    | with_reducible apply OnlyO.done
    | with_reducible exact Only.refl _ _
    | with_reducible apply Only.app (hg := State.askSwap_only ..)
    | decide)

theorem State.swapsAt_only (s : State) (w : SwapWhen) (lsb : Nat) :
    Only 0x40000000000 s (State.swapsAt s w lsb) := by
  unfold State.swapsAt
  dsimp only
  repeat' (first
    | with_reducible exact Only.refl _ _
    | decide
    | split
    | (with_reducible apply Only.upd <;> try (first | exact Or.inl (by decide) | exact Or.inr rfl)))

theorem State.applySwap_only (s : State) (l : Nat) (m : Bool) (lsb : Nat) :
    Only 0x40000004000 s (State.applySwap s l m lsb) := by
  unfold State.applySwap
  dsimp only
  repeat' (first
    | with_reducible exact Only.refl _ _
    | with_reducible apply Only.wr
    | with_reducible apply Only.wrB
    | with_reducible apply Only.flag
    | with_reducible apply Only.app (hg := State.setLane_only ..)
    | with_reducible apply Only.foldl
    | decide
    | (rw [blk_WFP_SWAP_FBANK]; decide)
    | (rw [blk_WFP_SWAP_FSWAP]; decide)
    | (rw [blk_WFP_SWAP_MBANK]; decide)
    | (rw [blk_WFP_SWAP_MSWAP]; decide)
    | split
    | intro _
    | (with_reducible apply Only.upd <;> try (first | exact Or.inl (by decide) | exact Or.inr rfl)))

theorem execFilterSwapApplied_only (l : Fin 32) (m : Bool) (s : State) :
    OnlyO 0x40040003004000 s (execFilterSwapApplied l m s) := by
  unfold execFilterSwapApplied
  repeat' (first
    | with_reducible apply OnlyO.done
    | with_reducible exact Only.refl _ _
    | with_reducible apply Only.app (hg := State.applySwap_only ..)
    | decide
    | split
    | (with_reducible apply Only.upd <;> try (first | exact Or.inl (by decide) | exact Or.inr rfl)))

end Sys2Proof.Machine
end

