-- ==== Sys2Proof/Laws/OnlyGirt.lean ====
section
/-!
SUPPORT. What each operation of Machine/Girt.lean may change: its register blocks and parts of the state, as the mask of `Only`.
-/
namespace Sys2Proof.Machine

set_option linter.unusedTactic false
set_option linter.unreachableTactic false

theorem State.girtDeny_only (s : State) (m : Nat) (target : Nat) (addr : Nat) (write : Bool) :
    Only 0x8000000c00000 s (State.girtDeny s m target addr write) := by
  unfold State.girtDeny
  dsimp only
  repeat' (first
    | with_reducible exact Only.refl _ _
    | with_reducible apply Only.wr
    | with_reducible apply Only.wrB
    | with_reducible apply Only.bump
    | with_reducible apply State.fault_only
    | decide
    | intro _)

theorem State.girtDenyHbm_only (s : State) (m : Nat) (addr : Nat) (write : Bool) :
    Only 0x8000000c00000 s (State.girtDenyHbm s m addr write) := by
  unfold State.girtDenyHbm
  repeat' (first
    | with_reducible exact Only.refl _ _
    | with_reducible apply Only.app (hg := State.girtDeny_only ..)
    | decide)

end Sys2Proof.Machine
end

