-- ==== Sys2Proof/Laws/OnlyDogOps.lean ====
section
/-!
SUPPORT. What each operation of Machine/DogOps.lean may change: its register blocks and parts of the state, as the mask of `Only`.
-/
namespace Sys2Proof.Machine

set_option linter.unusedTactic false
set_option linter.unreachableTactic false

theorem State.setDogU_only (s : State) (u : Nat) (f : DogUnit → DogUnit) :
    Only 0x80000000000 s (State.setDogU s u f) := by
  unfold State.setDogU
  repeat' (first
    | with_reducible exact Only.refl _ _
    | decide
    | (with_reducible apply Only.upd <;> try (first | exact Or.inl (by decide) | exact Or.inr rfl)))

theorem State.showLevels_only (s : State) (fill : Nat) (drain : Nat) :
    Only 0x9012000808200 s (State.showLevels s fill drain) := by
  unfold State.showLevels
  dsimp only
  repeat' (first
    | with_reducible exact Only.refl _ _
    | with_reducible apply Only.wr
    | with_reducible apply Only.app (hg := State.drain_only ..)
    | (with_reducible refine Only.ofFst (by assumption) ?_; with_reducible apply Only.app (hg := State.drain_only ..))
    | with_reducible apply State.fault_only
    | with_reducible apply Only.when
    | decide
    | split
    | intro _)

theorem State.ringRegs_only (s : State) :
    Only 0x9012000808200 s (State.ringRegs s) := by
  unfold State.ringRegs
  dsimp only
  repeat' (first
    | with_reducible exact Only.refl _ _
    | with_reducible apply Only.wr
    | with_reducible apply Only.app (hg := State.showLevels_only ..)
    | decide
    | split
    | (with_reducible apply Only.upd <;> try (first | exact Or.inl (by decide) | exact Or.inr rfl)))

theorem State.reserve_only (s : State) (size : Nat) :
    Only 0x9092000808200 s (State.reserve s size).1 := by
  unfold State.reserve
  dsimp only
  repeat' (first
    | with_reducible exact Only.refl _ _
    | with_reducible apply Only.bump
    | with_reducible apply State.fault_only
    | with_reducible apply Only.app (hg := State.ringRegs_only ..)
    | decide
    | split
    | intro _
    | (with_reducible apply Only.upd <;> try (first | exact Or.inl (by decide) | exact Or.inr rfl)))

theorem State.fillEntry_only (s : State) (seq : Nat) (bytes : List Byte) :
    Only 0x19092000808200 s (State.fillEntry s seq bytes) := by
  unfold State.fillEntry
  dsimp only
  repeat' (first
    | with_reducible exact Only.refl _ _
    | with_reducible apply Only.app (hg := State.capture_only ..)
    | with_reducible apply Only.app (hg := State.hbmStore_only ..)
    | decide
    | split
    | (with_reducible apply Only.upd <;> try (first | exact Or.inl (by decide) | exact Or.inr rfl)))

theorem State.freeEntry_only (s : State) :
    Only 0x9092000808200 s (State.freeEntry s) := by
  unfold State.freeEntry
  repeat' (first
    | with_reducible exact Only.refl _ _
    | with_reducible apply Only.app (hg := State.ringRegs_only ..)
    | decide
    | (with_reducible apply Only.upd <;> try (first | exact Or.inl (by decide) | exact Or.inr rfl)))

theorem State.capture_only (s : State) (u : Nat) (g : Trig) :
    Only 0x9092000808200 s (State.capture s u g) := by
  unfold State.capture
  dsimp only
  repeat' (first
    | with_reducible exact Only.refl _ _
    | with_reducible apply Only.wr
    | with_reducible apply Only.bump
    | with_reducible apply Only.app (hg := State.reserve_only ..)
    | (with_reducible refine Only.ofFst (by assumption) ?_; with_reducible apply Only.app (hg := State.reserve_only ..))
    | with_reducible apply Only.app (hg := State.setDogU_only ..)
    | decide
    | (rw [blk_DOG_UCAPS_CNT]; decide)
    | (rw [blk_DOG_USTAT_BUSY]; decide)
    | split
    | (with_reducible apply Only.upd <;> try (first | exact Or.inl (by decide) | exact Or.inr rfl)))

theorem State.trigger_only (s : State) (u : Nat) (g : Trig) :
    Only 0x9092000808200 s (State.trigger s u g) := by
  unfold State.trigger
  dsimp only
  repeat' (first
    | with_reducible exact Only.refl _ _
    | with_reducible apply Only.bump
    | with_reducible apply State.fault_only
    | with_reducible apply Only.app (hg := State.capture_only ..)
    | with_reducible apply Only.app (hg := State.setDogU_only ..)
    | decide
    | (rw [blk_DOG_ULATEPT_CNT]; decide)
    | (rw [blk_DOG_USKIPBUSY_CNT]; decide)
    | (rw [blk_DOG_USKIPRATE_CNT]; decide)
    | split
    | intro _
    | (with_reducible apply Only.upd <;> try (first | exact Or.inl (by decide) | exact Or.inr rfl)))

theorem State.modeTrigger_only (s : State) (u : Nat) (mode : Nat) (g : Trig) :
    Only 0x9092000808200 s (State.modeTrigger s u mode g) := by
  unfold State.modeTrigger
  dsimp only
  repeat' (first
    | with_reducible exact Only.refl _ _
    | with_reducible apply Only.app (hg := State.setDogU_only ..)
    | with_reducible apply Only.app (hg := State.trigger_only ..)
    | decide
    | split
    | (with_reducible apply Only.upd <;> try (first | exact Or.inl (by decide) | exact Or.inr rfl)))

theorem State.pointTrigger_only (s : State) (h : Handed) (r : Rec) (u : Nat) :
    Only 0x9092000808200 s (State.pointTrigger s h r u) := by
  unfold State.pointTrigger
  dsimp only
  repeat' (first
    | with_reducible exact Only.refl _ _
    | with_reducible apply Only.app (hg := State.modeTrigger_only ..)
    | decide
    | split)

theorem State.dogPoints_only (s : State) (h : Handed) :
    Only 0x9092000808200 s (State.dogPoints s h) := by
  unfold State.dogPoints
  repeat' (first
    | with_reducible exact Only.refl _ _
    | with_reducible apply Only.app (hg := State.pointTrigger_only ..)
    | with_reducible apply Only.foldl
    | decide
    | intro _)

end Sys2Proof.Machine
end

