-- ==== Sys2Proof/Laws/OnlyLedger.lean ====
section
/-!
SUPPORT. What each operation of Machine/Ledger.lean may change: its register blocks and parts of the state, as the mask of `Only`.
-/
namespace Sys2Proof.Machine

set_option linter.unusedTactic false
set_option linter.unreachableTactic false

theorem State.setEngine_only (s : State) (e : Nat) (f : Engine → Engine) :
    Only 0x8000000000 s (State.setEngine s e f) := by
  unfold State.setEngine
  repeat' (first
    | with_reducible exact Only.refl _ _
    | decide
    | (with_reducible apply Only.upd <;> try (first | exact Or.inl (by decide) | exact Or.inr rfl)))

theorem State.clusterRegs_only (s : State) (c : Nat) :
    Only 0x80 s (State.clusterRegs s c) := by
  unfold State.clusterRegs
  dsimp only
  repeat' (first
    | with_reducible exact Only.refl _ _
    | with_reducible apply Only.wr
    | with_reducible apply Only.foldl
    | decide
    | (rw [blk_JST_CLENG_INSVC]; decide)
    | (rw [blk_JST_CLSTAT_NENG]; decide)
    | split
    | intro _)

theorem State.setBookings_only (s : State) (l : List Booking) :
    Only 0x8000000000 s (State.setBookings s l) := by
  unfold State.setBookings
  repeat' (first
    | with_reducible exact Only.refl _ _
    | decide
    | (with_reducible apply Only.upd <;> try (first | exact Or.inl (by decide) | exact Or.inr rfl)))

end Sys2Proof.Machine
end

