-- ==== Sys2Proof/Laws/OnlyJoistMem.lean ====
section
/-!
SUPPORT. What each operation of Machine/JoistMem.lean may change: its register blocks and parts of the state, as the mask of `Only`.
-/
namespace Sys2Proof.Machine

set_option linter.unusedTactic false
set_option linter.unreachableTactic false

theorem State.statAdd_only (s : State) (c : Nat) (a : BitVec 16 × Word) :
    Only 0x8000000000 s (State.statAdd s c a) := by
  unfold State.statAdd
  dsimp only
  repeat' (first
    | with_reducible exact Only.refl _ _
    | decide
    | (with_reducible apply Only.upd <;> try (first | exact Or.inl (by decide) | exact Or.inr rfl)))

end Sys2Proof.Machine
end

