-- ==== Sys2Proof/Laws/OnlyLbkOps.lean ====
section
/-!
SUPPORT. What each operation of Machine/LbkOps.lean may change: its register blocks and parts of the state, as the mask of `Only`.
-/
namespace Sys2Proof.Machine

set_option linter.unusedTactic false
set_option linter.unreachableTactic false

theorem State.lbkLayout_only (s : State) (period : Nat) :
    Only 0x20000000400 s (State.lbkLayout s period) := by
  unfold State.lbkLayout
  repeat' (first
    | with_reducible exact Only.refl _ _
    | with_reducible apply Only.wr
    | decide
    | (with_reducible apply Only.upd <;> try (first | exact Or.inl (by decide) | exact Or.inr rfl)))

theorem State.lbkRelay_only (s : State) (period : Nat) :
    Only 0x20000000400 s (State.lbkRelay s period) := by
  unfold State.lbkRelay
  dsimp only
  repeat' (first
    | with_reducible exact Only.refl _ _
    | with_reducible apply Only.flag
    | with_reducible apply Only.app (hg := State.lbkLayout_only ..)
    | decide
    | (with_reducible apply Only.upd <;> try (first | exact Or.inl (by decide) | exact Or.inr rfl)))

theorem State.lbkFrame_only (s : State) (b : Nat) (num : Nat) (scanned : Bool) :
    Only 0x20000000000 s (State.lbkFrame s b num scanned) := by
  unfold State.lbkFrame
  dsimp only
  repeat' (first
    | with_reducible exact Only.refl _ _
    | decide
    | split
    | (with_reducible apply Only.upd <;> try (first | exact Or.inl (by decide) | exact Or.inr rfl)))

theorem State.setFrame_only (s : State) (num : Nat) (f : LbkFrame → LbkFrame) :
    Only 0x20000000000 s (State.setFrame s num f) := by
  unfold State.setFrame
  repeat' (first
    | with_reducible exact Only.refl _ _
    | decide
    | (with_reducible apply Only.upd <;> try (first | exact Or.inl (by decide) | exact Or.inr rfl)))

theorem State.lbkStore_only (s : State) (b : Burst) :
    Only 0x8020000800400 s (State.lbkStore s b) := by
  unfold State.lbkStore
  dsimp only
  repeat' (first
    | with_reducible exact Only.refl _ _
    | with_reducible apply Only.bump
    | with_reducible apply State.fault_only
    | with_reducible apply Only.app (hg := State.setFrame_only ..)
    | decide
    | split
    | intro _
    | (with_reducible apply Only.upd <;> try (first | exact Or.inl (by decide) | exact Or.inr rfl)))

theorem State.poseTick_only (s : State) :
    Only 0x400 s (State.poseTick s) := by
  unfold State.poseTick
  repeat' (first
    | with_reducible exact Only.refl _ _
    | with_reducible apply Only.wr
    | with_reducible apply Only.flag
    | decide
    | split)

theorem State.poseIn_only (s : State) (raw : BitVec 384) :
    Only 0x8020000800400 s (State.poseIn s raw) := by
  unfold State.poseIn
  dsimp only
  repeat' (first
    | with_reducible exact Only.refl _ _
    | with_reducible apply Only.bump
    | with_reducible apply Only.flag
    | with_reducible apply Only.app (hg := State.setFrame_only ..)
    | with_reducible apply State.fault_only
    | with_reducible apply Only.when
    | decide
    | split
    | intro _
    | (with_reducible apply Only.upd <;> try (first | exact Or.inl (by decide) | exact Or.inr rfl)))

end Sys2Proof.Machine
end

