-- ==== Sys2Proof/Laws/OnlyLookback.lean ====
section
/-!
SUPPORT. What each operation of Machine/Lookback.lean may change: its register blocks and parts of the state, as the mask of `Only`.
-/
namespace Sys2Proof.Machine

set_option linter.unusedTactic false
set_option linter.unreachableTactic false

theorem State.lbkBehind_only (s : State) :
    Only 0x400 s (State.lbkBehind s) := by
  unfold State.lbkBehind
  repeat' (first
    | with_reducible exact Only.refl _ _
    | with_reducible apply Only.wrB
    | decide)

theorem State.lbkCover_only (s : State) (h : Handed) :
    Only 0x20000000000 s (State.lbkCover s h) := by
  unfold State.lbkCover
  dsimp only
  repeat' (first
    | with_reducible exact Only.refl _ _
    | with_reducible apply Only.app (hg := State.setFrame_only ..)
    | decide
    | (with_reducible apply Only.upd <;> try (first | exact Or.inl (by decide) | exact Or.inr rfl)))

theorem State.setTarget_only (s : State) (num : Nat) (burst : Nat) (f : Column → Column) :
    Only 0x20000000000 s (State.setTarget s num burst f) := by
  unfold State.setTarget
  repeat' (first
    | with_reducible exact Only.refl _ _
    | with_reducible apply Only.app (hg := State.setFrame_only ..)
    | decide
    | (with_reducible apply Only.upd <;> try (first | exact Or.inl (by decide) | exact Or.inr rfl)))

theorem State.lbkEvaluate_only (s : State) (f : LbkFrame) (c : Column) (p : PoseAt) :
    Only 0x20000000400 s (State.lbkEvaluate s f c p) := by
  unfold State.lbkEvaluate
  dsimp only
  repeat' (first
    | with_reducible exact Only.refl _ _
    | with_reducible apply Only.bump
    | with_reducible apply Only.app (hg := State.setTarget_only ..)
    | with_reducible apply Only.app (hg := State.setFrame_only ..)
    | with_reducible apply Only.when
    | decide
    | intro _
    | (with_reducible apply Only.upd <;> try (first | exact Or.inl (by decide) | exact Or.inr rfl)))

theorem execTargetEvaluation_only (s : State) :
    OnlyO 0x40020003000400 s (execTargetEvaluation s) := by
  unfold execTargetEvaluation
  repeat' (first
    | with_reducible apply OnlyO.done
    | with_reducible exact Only.refl _ _
    | with_reducible apply Only.bump
    | with_reducible apply Only.app (hg := State.lbkEvaluate_only ..)
    | with_reducible apply Only.app (hg := State.lbkBehind_only ..)
    | with_reducible apply Only.app (hg := State.setTarget_only ..)
    | decide
    | split
    | (with_reducible apply Only.upd <;> try (first | exact Or.inl (by decide) | exact Or.inr rfl)))

theorem State.lbkCommit_only (s : State) (w : Whisper) :
    Only 0x9010000800600 s (State.lbkCommit s w) := by
  unfold State.lbkCommit
  dsimp only
  repeat' (first
    | with_reducible exact Only.refl _ _
    | with_reducible apply Only.bump
    | with_reducible apply Only.app (hg := State.judgeFull_only ..)
    | with_reducible apply Only.app (hg := State.commitRec_only ..)
    | decide
    | split)

theorem execLookbackFrameCommit_only (n : Nat) (s : State) :
    OnlyO 0x49030003800600 s (execLookbackFrameCommit n s) := by
  unfold execLookbackFrameCommit
  dsimp only
  repeat' (first
    | with_reducible apply OnlyO.done
    | with_reducible exact Only.refl _ _
    | with_reducible apply Only.wr
    | with_reducible apply Only.flag
    | with_reducible apply Only.app (hg := State.lbkCommit_only ..)
    | with_reducible apply Only.app (hg := State.setFrame_only ..)
    | with_reducible apply Only.foldl
    | decide
    | split
    | intro _
    | (with_reducible apply Only.upd <;> try (first | exact Or.inl (by decide) | exact Or.inr rfl)))

theorem State.lbkAbandon_only (s : State) (f : LbkFrame) :
    Only 0x8020000800400 s (State.lbkAbandon s f) := by
  unfold State.lbkAbandon
  dsimp only
  repeat' (first
    | with_reducible exact Only.refl _ _
    | with_reducible apply Only.bump
    | with_reducible apply Only.app (hg := State.setFrame_only ..)
    | with_reducible apply State.fault_only
    | with_reducible apply Only.app (hg := State.lbkBehind_only ..)
    | decide
    | split
    | intro _
    | (with_reducible apply Only.upd <;> try (first | exact Or.inl (by decide) | exact Or.inr rfl)))

theorem execAbandon_only (n : Nat) (s : State) :
    OnlyO 0x48020003800400 s (execAbandon n s) := by
  unfold execAbandon
  repeat' (first
    | with_reducible apply OnlyO.done
    | with_reducible exact Only.refl _ _
    | with_reducible apply Only.app (hg := State.lbkAbandon_only ..)
    | decide
    | split
    | (with_reducible apply Only.upd <;> try (first | exact Or.inl (by decide) | exact Or.inr rfl)))

theorem execPoselate_only (n : Nat) (s : State) :
    OnlyO 0x48020003800400 s (execPoselate n s) := by
  unfold execPoselate
  repeat' (first
    | with_reducible apply OnlyO.done
    | with_reducible exact Only.refl _ _
    | with_reducible apply Only.app (hg := State.setFrame_only ..)
    | with_reducible apply State.fault_only
    | with_reducible apply Only.app (hg := State.lbkBehind_only ..)
    | decide
    | split
    | intro _
    | (with_reducible apply Only.upd <;> try (first | exact Or.inl (by decide) | exact Or.inr rfl)))

theorem State.lbkPose_only (s : State) (samples : List (BitVec 384)) :
    Only 0x8020000800400 s (State.lbkPose s samples) := by
  unfold State.lbkPose
  repeat' (first
    | with_reducible exact Only.refl _ _
    | with_reducible apply Only.app (hg := State.poseIn_only ..)
    | with_reducible apply Only.app (hg := State.poseTick_only ..)
    | with_reducible apply Only.foldl
    | decide
    | intro _)

theorem State.lbkRecover_only (s : State) (bad : List Nat) :
    Only 0x8020000800400 s (State.lbkRecover s bad) := by
  unfold State.lbkRecover
  dsimp only
  repeat' (first
    | with_reducible exact Only.refl _ _
    | with_reducible apply Only.app (hg := State.lbkAbandon_only ..)
    | with_reducible apply Only.foldl
    | decide
    | split
    | intro _
    | (with_reducible apply Only.upd <;> try (first | exact Or.inl (by decide) | exact Or.inr rfl)))

end Sys2Proof.Machine
end

