-- ==== Sys2Proof/Laws/OnlyKerfOps.lean ====
section
/-!
SUPPORT. What each operation of Machine/KerfOps.lean may change: its register blocks and parts of the state, as the mask of `Only`.
-/
namespace Sys2Proof.Machine

set_option linter.unusedTactic false
set_option linter.unreachableTactic false

theorem State.setChan_only (s : State) (ch : Nat) (f : KrfChan → KrfChan) :
    Only 0x4000000000 s (State.setChan s ch f) := by
  unfold State.setChan
  repeat' (first
    | with_reducible exact Only.refl _ _
    | decide
    | (with_reducible apply Only.upd <;> try (first | exact Or.inl (by decide) | exact Or.inr rfl)))

theorem State.setGroup_only (s : State) (g : Nat) (f : KrfGroup → KrfGroup) :
    Only 0x4000000000 s (State.setGroup s g f) := by
  unfold State.setGroup
  repeat' (first
    | with_reducible exact Only.refl _ _
    | decide
    | (with_reducible apply Only.upd <;> try (first | exact Or.inl (by decide) | exact Or.inr rfl)))

theorem State.maskEval_only (s : State) (ch : Nat) :
    Only 0x10 s (State.maskEval s ch) := by
  unfold State.maskEval
  repeat' (first
    | with_reducible exact Only.refl _ _
    | with_reducible apply Only.wrB
    | decide
    | (rw [blk_KRF_CHSTAT_MASKED]; decide))

theorem State.releaseChan_only (s : State) (ch : Nat) :
    Only 0x4000000010 s (State.releaseChan s ch) := by
  unfold State.releaseChan
  dsimp only
  repeat' (first
    | with_reducible exact Only.refl _ _
    | with_reducible apply Only.wr
    | with_reducible apply Only.flag
    | with_reducible apply Only.app (hg := State.setChan_only ..)
    | with_reducible apply Only.app (hg := State.maskEval_only ..)
    | with_reducible apply Only.when
    | decide
    | (rw [blk_KRF_CHSTAT_FAST]; decide)
    | (rw [blk_KRF_CHSTAT_STUCK]; decide)
    | intro _
    | (with_reducible apply Only.upd <;> try (first | exact Or.inl (by decide) | exact Or.inr rfl)))

theorem State.bucketsNow_only (s : State) :
    Only 0x4000000000 s (State.bucketsNow s) := by
  unfold State.bucketsNow
  repeat' (first
    | with_reducible exact Only.refl _ _
    | with_reducible apply Only.app (hg := State.setChan_only ..)
    | with_reducible apply Only.foldl
    | decide
    | intro _
    | (with_reducible apply Only.upd <;> try (first | exact Or.inl (by decide) | exact Or.inr rfl)))

theorem State.takeToken_only (s : State) (ch : Nat) (free : Bool) :
    Only 0x4000000000 s (State.takeToken s ch free).1 := by
  unfold State.takeToken
  dsimp only
  repeat' (first
    | with_reducible exact Only.refl _ _
    | with_reducible apply Only.app (hg := State.setChan_only ..)
    | decide
    | split
    | (with_reducible apply Only.upd <;> try (first | exact Or.inl (by decide) | exact Or.inr rfl)))

theorem State.krfDrop_only (s : State) (ch : Nat) :
    Only 0x8006000800010 s (State.krfDrop s ch) := by
  unfold State.krfDrop
  dsimp only
  repeat' (first
    | with_reducible exact Only.refl _ _
    | with_reducible apply Only.bump
    | with_reducible apply Only.app (hg := State.setChan_only ..)
    | with_reducible apply Only.app (hg := State.mapBursts_only ..)
    | with_reducible apply State.fault_only
    | decide
    | (rw [blk_KRF_DROP_CNT]; decide)
    | intro _
    | (with_reducible apply Only.upd <;> try (first | exact Or.inl (by decide) | exact Or.inr rfl)))

theorem State.krfDeliver_only (s : State) (ch : Nat) (e : KrfEvent) :
    Only 0x8002000800040 s (State.krfDeliver s ch e) := by
  unfold State.krfDeliver
  dsimp only
  repeat' (first
    | with_reducible exact Only.refl _ _
    | with_reducible apply Only.app (hg := State.mrtEvent_only ..)
    | decide
    | split
    | (with_reducible apply Only.upd <;> try (first | exact Or.inl (by decide) | exact Or.inr rfl)))

theorem State.groupGate_only (s : State) (ch : Nat) (e : KrfEvent) :
    Only 0x4000000000 s (State.groupGate s ch e).1 := by
  unfold State.groupGate
  dsimp only
  repeat' (first
    | with_reducible exact Only.refl _ _
    | with_reducible apply Only.app (hg := State.setGroup_only ..)
    | decide
    | split
    | (with_reducible apply Only.upd <;> try (first | exact Or.inl (by decide) | exact Or.inr rfl)))

theorem State.leaveRamp_only (s : State) (t : Nat) :
    Only 0x800000000000 s (State.leaveRamp s t) := by
  unfold State.leaveRamp
  dsimp only
  repeat' (first
    | with_reducible exact Only.refl _ _
    | decide
    | (with_reducible apply Only.upd <;> try (first | exact Or.inl (by decide) | exact Or.inr rfl)))

theorem State.calTap_only (s : State) (tdc : Nat) (tap : Nat) (pulser : Bool) :
    Only 0x800000000000 s (State.calTap s tdc tap pulser) := by
  unfold State.calTap
  dsimp only
  repeat' (first
    | with_reducible exact Only.refl _ _
    | decide
    | split
    | (with_reducible apply Only.upd <;> try (first | exact Or.inl (by decide) | exact Or.inr rfl)))

theorem State.notQuiet_only (s : State) (ch : Nat) :
    Only 0x20000 s (State.notQuiet s ch) := by
  unfold State.notQuiet
  repeat' (first
    | with_reducible exact Only.refl _ _
    | with_reducible apply Only.wr
    | decide
    | (rw [blk_PLB_CDQ_QUIET]; decide)
    | (rw [blk_PLB_QUIET_CH]; decide)
    | split)

theorem State.noRepair_only (s : State) (ch : Nat) :
    Only 0x4000000010 s (State.noRepair s ch) := by
  unfold State.noRepair
  repeat' (first
    | with_reducible exact Only.refl _ _
    | with_reducible apply Only.wr
    | with_reducible apply Only.app (hg := State.setChan_only ..)
    | with_reducible apply Only.app (hg := State.maskEval_only ..)
    | decide
    | (rw [blk_KRF_SPSTAT_NOREPAIR]; decide)
    | (with_reducible apply Only.upd <;> try (first | exact Or.inl (by decide) | exact Or.inr rfl)))

theorem State.repaired_only (s : State) (ch : Nat) :
    Only 0x4000000010 s (State.repaired s ch) := by
  unfold State.repaired
  dsimp only
  repeat' (first
    | with_reducible exact Only.refl _ _
    | with_reducible apply Only.wrB
    | with_reducible apply Only.app (hg := State.setChan_only ..)
    | with_reducible apply Only.app (hg := State.maskEval_only ..)
    | decide
    | (rw [blk_KRF_SPSTAT_NOREPAIR]; decide)
    | (with_reducible apply Only.upd <;> try (first | exact Or.inl (by decide) | exact Or.inr rfl)))

theorem State.moveReplaced_only (s : State) (g : Nat) (ch : Option Nat) :
    Only 0x4000000010 s (State.moveReplaced s g ch) := by
  unfold State.moveReplaced
  repeat' (first
    | with_reducible exact Only.refl _ _
    | with_reducible apply Only.flag
    | with_reducible apply Only.app (hg := State.noRepair_only ..)
    | decide
    | split
    | (with_reducible apply Only.upd <;> try (first | exact Or.inl (by decide) | exact Or.inr rfl)))

theorem State.requestMove_only (s : State) (g : Nat) (ch : Nat) (mode : Nat) :
    Only 0x4000000010 s (State.requestMove s g ch mode) := by
  unfold State.requestMove
  dsimp only
  repeat' (first
    | with_reducible exact Only.refl _ _
    | with_reducible apply Only.wr
    | with_reducible apply Only.app (hg := State.moveReplaced_only ..)
    | with_reducible apply Only.app (hg := State.setGroup_only ..)
    | with_reducible apply Only.when
    | decide
    | (rw [blk_KRF_SPSTAT_CURCH]; decide)
    | intro _
    | (with_reducible apply Only.upd <;> try (first | exact Or.inl (by decide) | exact Or.inr rfl)))

theorem State.spareLeaves_only (s : State) (g : Nat) :
    Only 0x4000000010 s (State.spareLeaves s g) := by
  unfold State.spareLeaves
  dsimp only
  repeat' (first
    | with_reducible exact Only.refl _ _
    | with_reducible apply Only.wr
    | with_reducible apply Only.app (hg := State.setGroup_only ..)
    | with_reducible apply Only.app (hg := State.noRepair_only ..)
    | decide
    | (rw [blk_KRF_CHSTAT_SPARE]; decide)
    | (rw [blk_KRF_SPSTAT_TAKEN]; decide)
    | split
    | (with_reducible apply Only.upd <;> try (first | exact Or.inl (by decide) | exact Or.inr rfl)))

theorem State.tdcFailed_only (s : State) (ch : Nat) (inj : Bool) :
    Only 0x8804000800010 s (State.tdcFailed s ch inj) := by
  unfold State.tdcFailed
  dsimp only
  repeat' (first
    | with_reducible exact Only.refl _ _
    | with_reducible apply Only.wr
    | with_reducible apply Only.app (hg := State.leaveRamp_only ..)
    | with_reducible apply Only.app (hg := State.requestMove_only ..)
    | with_reducible apply Only.app (hg := State.reportInj_only ..)
    | with_reducible apply Only.app (hg := State.noRepair_only ..)
    | with_reducible apply State.faultInj_only
    | with_reducible apply Only.when
    | decide
    | (rw [blk_KRF_CHCFG_TDCFAIL]; decide)
    | (rw [blk_KRF_CHSTAT_TDCFAIL]; decide)
    | split
    | intro _)

theorem State.krfRestore_only (s : State) (full : Bool) :
    Only 0x4000000010 s (State.krfRestore s full) := by
  unfold State.krfRestore
  dsimp only
  repeat' (first
    | with_reducible exact Only.refl _ _
    | with_reducible apply Only.wr
    | with_reducible apply Only.wrB
    | with_reducible apply Only.app (hg := State.requestMove_only ..)
    | with_reducible apply Only.app (hg := State.maskEval_only ..)
    | with_reducible apply Only.when
    | with_reducible apply Only.foldl
    | decide
    | (rw [blk_KRF_CHSTAT_SPARE]; decide)
    | (rw [blk_KRF_SPARE_CH]; decide)
    | (rw [blk_KRF_SPARE_MODE]; decide)
    | (rw [blk_KRF_SPSTAT_CURCH]; decide)
    | (rw [blk_KRF_SPSTAT_NOREPAIR]; decide)
    | (rw [blk_KRF_SPSTAT_TAKEN]; decide)
    | split
    | intro _
    | (with_reducible apply Only.upd <;> try (first | exact Or.inl (by decide) | exact Or.inr rfl)))

theorem State.krfResume_only (s : State) :
    Only 0x4000000010 s (State.krfResume s) := by
  unfold State.krfResume
  repeat' (first
    | with_reducible exact Only.refl _ _
    | with_reducible apply Only.app (hg := State.setGroup_only ..)
    | with_reducible apply Only.app (hg := State.requestMove_only ..)
    | with_reducible apply Only.when
    | with_reducible apply Only.foldl
    | decide
    | split
    | intro _
    | (with_reducible apply Only.upd <;> try (first | exact Or.inl (by decide) | exact Or.inr rfl)))

theorem State.spareFailed_only (s : State) (g : Nat) :
    Only 0x8804000800010 s (State.spareFailed s g) := by
  unfold State.spareFailed
  dsimp only
  repeat' (first
    | with_reducible exact Only.refl _ _
    | with_reducible apply Only.wr
    | with_reducible apply Only.app (hg := State.spareLeaves_only ..)
    | with_reducible apply Only.app (hg := State.leaveRamp_only ..)
    | with_reducible apply Only.app (hg := State.setGroup_only ..)
    | with_reducible apply Only.app (hg := State.noRepair_only ..)
    | with_reducible apply State.fault_only
    | decide
    | (rw [blk_KRF_SPARE_MODE]; decide)
    | (rw [blk_KRF_SPSTAT_SPFAIL]; decide)
    | split
    | intro _
    | (with_reducible apply Only.upd <;> try (first | exact Or.inl (by decide) | exact Or.inr rfl)))

end Sys2Proof.Machine
end

