-- ==== Sys2Proof/Laws/OnlyStageLine.lean ====
section
/-!
SUPPORT. What each operation of Machine/StageLine.lean may change: its register blocks and parts of the state, as the mask of `Only`.
-/
namespace Sys2Proof.Machine

set_option linter.unusedTactic false
set_option linter.unreachableTactic false

theorem State.stageLine_only (s : State) (stage : Nat) (cause : Nat) (detail : Nat) :
    Only 0x48000000800001 s (State.stageLine s stage cause detail) := by
  unfold State.stageLine
  dsimp only
  repeat' (first
    | with_reducible exact Only.refl _ _
    | with_reducible apply Only.wr
    | with_reducible apply Only.app (hg := State.emit_only ..)
    | with_reducible apply Only.app (hg := State.report_only ..)
    | decide
    | split)

theorem State.enterStage_only (s : State) (stage : Nat) :
    Only 0x48000400800001 s (State.enterStage s stage) := by
  unfold State.enterStage
  dsimp only
  repeat' (first
    | with_reducible exact Only.refl _ _
    | with_reducible apply Only.flag
    | with_reducible apply Only.app (hg := State.stageLine_only ..)
    | decide
    | split
    | (with_reducible apply Only.upd <;> try (first | exact Or.inl (by decide) | exact Or.inr rfl)))

theorem State.stall_only (s : State) (cause : Nat) (detail : Nat) :
    Only 0x48000400800001 s (State.stall s cause detail) := by
  unfold State.stall
  dsimp only
  repeat' (first
    | with_reducible exact Only.refl _ _
    | with_reducible apply Only.app (hg := State.stageLine_only ..)
    | decide
    | (with_reducible apply Only.upd <;> try (first | exact Or.inl (by decide) | exact Or.inr rfl)))

end Sys2Proof.Machine
end

