-- ==== Sys2Proof/Laws/OnlyResetOps.lean ====
section
/-!
SUPPORT. What each operation of Machine/ResetOps.lean may change: its register blocks and parts of the state, as the mask of `Only`.
-/
namespace Sys2Proof.Machine

set_option linter.unusedTactic false
set_option linter.unreachableTactic false

theorem State.resetJournal_only (s : State) :
    Only 0x9012000800200 s (State.resetJournal s) := by
  unfold State.resetJournal
  dsimp only
  repeat' (first
    | with_reducible exact Only.refl _ _
    | with_reducible apply Only.app (hg := State.tallyIncomplete_only ..)
    | with_reducible apply Only.app (hg := State.drain_only ..)
    | (with_reducible refine Only.ofFst (by assumption) ?_; with_reducible apply Only.app (hg := State.drain_only ..))
    | with_reducible apply Only.app (hg := State.tally_only ..)
    | with_reducible apply Only.app (hg := State.raiseMarker_only ..)
    | with_reducible apply Only.foldl
    | decide
    | split
    | intro _
    | (with_reducible apply Only.upd <;> try (first | exact Or.inl (by decide) | exact Or.inr rfl)))

theorem State.resetRegs_only (s : State) : Only 0x7FFFFFF s (State.resetRegs s) := by
  unfold State.resetRegs
  constructor
  case reg => intro k hk; rw [testBit_blk (by decide) k] at hk; cases hk
  case wf =>
    intro h
    simp only [State.wf, State.regsWf, Memory.wf, Bool.and_eq_true] at h ⊢
    exact ⟨mapWf_filter _ _ _ h.1, h.2⟩
  all_goals first | exact Or.inr rfl | rfl

theorem State.cutFlash_only (s : State) :
    Only 0x20000000000000 s (State.cutFlash s) := by
  unfold State.cutFlash
  repeat' (first
    | with_reducible exact Only.refl _ _
    | with_reducible apply Only.app (hg := State.flashStore_only ..)
    | decide
    | split
    | (with_reducible apply Only.upd <;> try (first | exact Or.inl (by decide) | exact Or.inr rfl)))

theorem State.resetBlocks_only (s : State) :
    Only 0x2facf907ffffff s (State.resetBlocks s) := by
  unfold State.resetBlocks
  repeat' (first
    | with_reducible exact Only.refl _ _
    | with_reducible apply Only.app (hg := State.cutFlash_only ..)
    | with_reducible apply Only.app (hg := State.resetRegs_only ..)
    | decide
    | (with_reducible apply Only.upd <;> try (first | exact Or.inl (by decide) | exact Or.inr rfl)))

theorem State.resetBoot_only (s : State) :
    Only 0x400000000 s (State.resetBoot s) := by
  unfold State.resetBoot
  repeat' (first
    | with_reducible exact Only.refl _ _
    | decide
    | (with_reducible apply Only.upd <;> try (first | exact Or.inl (by decide) | exact Or.inr rfl)))

theorem State.fullReset_only (s : State) (cause : Nat) :
    Only 0xefbdfd07ffffff s (State.fullReset s cause) := by
  unfold State.fullReset
  dsimp only
  repeat' (first
    | with_reducible exact Only.refl _ _
    | with_reducible apply Only.wr
    | with_reducible apply Only.bump
    | with_reducible apply Only.flag
    | with_reducible apply Only.app (hg := State.resetJournal_only ..)
    | with_reducible apply Only.app (hg := State.resetBoot_only ..)
    | with_reducible apply Only.app (hg := State.onTrs_only ..)
    | with_reducible apply Only.app (hg := State.trsEval_only ..)
    | with_reducible apply Only.app (hg := State.resetBlocks_only ..)
    | with_reducible apply Only.when
    | with_reducible apply Only.foldl
    | decide
    | (rw [blk_HIF_QSTATE_STATE]; decide)
    | split
    | intro _
    | (with_reducible apply Only.upd <;> try (first | exact Or.inl (by decide) | exact Or.inr rfl)))

theorem State.powerReset_only (s : State) : Only 0xbfffff07ffffff s (State.powerReset s) := by
  unfold State.powerReset
  constructor
  case reg => intro k hk; rw [testBit_blk (by decide) k] at hk; cases hk
  case wf =>
    intro h
    have h := (State.cutFlash_only s).wf h
    simp only [State.wf, State.regsWf, Memory.wf, Bool.and_eq_true] at h ⊢
    exact ⟨rfl, rfl, h.2.2⟩
  all_goals first | exact Or.inl (by decide) | exact Or.inr rfl | rfl

end Sys2Proof.Machine
end

