-- ==== Sys2Proof/Laws/OnlySill.lean ====
section
/-!
SUPPORT. What each operation of Machine/Sill.lean may change: its register blocks and parts of the state, as the mask of `Only`.
-/
namespace Sys2Proof.Machine

set_option linter.unusedTactic false
set_option linter.unreachableTactic false

theorem State.silSwapNow_only (s : State) :
    Only 0x8200000810000 s (State.silSwapNow s) := by
  unfold State.silSwapNow
  dsimp only
  repeat' (first
    | with_reducible exact Only.refl _ _
    | with_reducible apply Only.wr
    | with_reducible apply Only.flag
    | with_reducible apply State.refuse_only
    | decide
    | split
    | intro _
    | (with_reducible apply Only.upd <;> try (first | exact Or.inl (by decide) | exact Or.inr rfl)))

theorem State.silBusy_only (s : State) :
    Only 0x10000 s (State.silBusy s) := by
  unfold State.silBusy
  repeat' (first
    | with_reducible exact Only.refl _ _
    | with_reducible apply Only.wrB
    | decide)

theorem State.excSet_only (s : State) (src : Bool) :
    Only 0x40200000000000 s (State.excSet s src) := by
  unfold State.excSet
  dsimp only
  repeat' (first
    | with_reducible exact Only.refl _ _
    | with_reducible apply Only.app (hg := State.emit_only ..)
    | decide
    | split
    | (with_reducible apply Only.upd <;> try (first | exact Or.inl (by decide) | exact Or.inr rfl)))

theorem State.switch_only (s : State) :
    Only 0x40200000000000 s (State.switch s) := by
  unfold State.switch
  dsimp only
  repeat' (first
    | with_reducible exact Only.refl _ _
    | with_reducible apply Only.app (hg := State.excSet_only ..)
    | decide
    | (with_reducible apply Only.upd <;> try (first | exact Or.inl (by decide) | exact Or.inr rfl)))

theorem State.takeSlot_only (s : State) (adc : Bool) :
    Only 0x200000000000 s (State.takeSlot s adc) := by
  unfold State.takeSlot
  dsimp only
  repeat' (first
    | with_reducible exact Only.refl _ _
    | decide
    | split
    | (with_reducible apply Only.upd <;> try (first | exact Or.inl (by decide) | exact Or.inr rfl)))

theorem State.joinIlv_only (s : State) :
    Only 0x200000000000 s (State.joinIlv s) := by
  unfold State.joinIlv
  dsimp only
  repeat' (first
    | with_reducible exact Only.refl _ _
    | decide
    | split
    | (with_reducible apply Only.upd <;> try (first | exact Or.inl (by decide) | exact Or.inr rfl)))

theorem State.excWait_only (s : State) (adc : Bool) :
    Only 0x200000010000 s (State.excWait s adc) := by
  unfold State.excWait
  dsimp only
  repeat' (first
    | with_reducible exact Only.refl _ _
    | with_reducible apply Only.bump
    | decide
    | split
    | (with_reducible apply Only.upd <;> try (first | exact Or.inl (by decide) | exact Or.inr rfl)))

theorem State.latchSlot_only (s : State) (k : Nat) :
    Only 0x10000 s (State.latchSlot s k) := by
  unfold State.latchSlot
  dsimp only
  repeat' (first
    | with_reducible exact Only.refl _ _
    | with_reducible apply Only.wr
    | with_reducible apply Only.wrB
    | with_reducible apply Only.wrS
    | decide
    | (rw [blk_SIL_RES_CLAMP]; decide)
    | (rw [blk_SIL_RES_EXCF]; decide)
    | (rw [blk_SIL_RES_NBR]; decide)
    | (rw [blk_SIL_RES_NEW]; decide)
    | (rw [blk_SIL_RES_NOREF]; decide)
    | (rw [blk_SIL_RES_OVR]; decide)
    | (rw [blk_SIL_RES_RESULT]; decide)
    | (rw [blk_SIL_RES_WB]; decide)
    | split
    | (with_reducible apply Only.upd <;> try (first | exact Or.inl (by decide) | exact Or.inr rfl)))

theorem State.roundEnd_only (s : State) :
    Only 0x200000010000 s (State.roundEnd s) := by
  unfold State.roundEnd
  dsimp only
  repeat' (first
    | with_reducible exact Only.refl _ _
    | with_reducible apply Only.count
    | with_reducible apply Only.flag
    | with_reducible apply Only.app (hg := State.latchSlot_only ..)
    | with_reducible apply Only.foldl
    | decide
    | split
    | intro _
    | (with_reducible apply Only.upd <;> try (first | exact Or.inl (by decide) | exact Or.inr rfl)))

theorem State.roundGo_only (s : State) :
    Only 0x40200000010000 s (State.roundGo s) := by
  unfold State.roundGo
  dsimp only
  repeat' (first
    | with_reducible exact Only.refl _ _
    | with_reducible apply Only.app (hg := State.takeSlot_only ..)
    | with_reducible apply Only.app (hg := State.joinIlv_only ..)
    | with_reducible apply Only.app (hg := State.excWait_only ..)
    | with_reducible apply Only.app (hg := State.roundEnd_only ..)
    | with_reducible apply Only.app (hg := State.silBusy_only ..)
    | with_reducible apply Only.app (hg := State.switch_only ..)
    | decide)

theorem State.roundTick_only (s : State) :
    Only 0x48200000810000 s (State.roundTick s) := by
  unfold State.roundTick
  dsimp only
  repeat' (first
    | with_reducible exact Only.refl _ _
    | with_reducible apply Only.bump
    | with_reducible apply State.fault_only
    | with_reducible apply Only.app (hg := State.silSwapNow_only ..)
    | with_reducible apply Only.app (hg := State.roundGo_only ..)
    | decide
    | split
    | intro _
    | (with_reducible apply Only.upd <;> try (first | exact Or.inl (by decide) | exact Or.inr rfl)))

theorem State.seenWb_only (s : State) (pins : BitVec 24) :
    Only 0x8000000810000 s (State.seenWb s pins) := by
  unfold State.seenWb
  repeat' (first
    | with_reducible exact Only.refl _ _
    | with_reducible apply Only.wr
    | with_reducible apply State.fault_only
    | decide
    | split
    | intro _)

theorem execSlotResult_only (adc : Bool) (codes : List (BitVec 18)) (wbPins : BitVec 24) (excf : Bool) (s : State) :
    OnlyO 0x48200003810000 s (execSlotResult adc codes wbPins excf s) := by
  unfold execSlotResult
  dsimp only
  repeat' (first
    | with_reducible apply OnlyO.done
    | with_reducible exact Only.refl _ _
    | with_reducible apply Only.flag
    | with_reducible apply Only.app (hg := State.seenWb_only ..)
    | with_reducible apply State.fault_only
    | with_reducible apply Only.app (hg := State.roundGo_only ..)
    | with_reducible apply Only.when
    | decide
    | split
    | intro _
    | (with_reducible apply Only.upd <;> try (first | exact Or.inl (by decide) | exact Or.inr rfl)))

theorem execSilSwap_only (s : State) :
    OnlyO 0x40200003010000 s (execSilSwap s) := by
  unfold execSilSwap
  repeat' (first
    | with_reducible apply OnlyO.done
    | with_reducible exact Only.refl _ _
    | with_reducible apply Only.wr
    | decide
    | (with_reducible apply Only.upd <;> try (first | exact Or.inl (by decide) | exact Or.inr rfl)))

theorem State.calStart_only (s : State) :
    Only 0x40200000010000 s (State.calStart s) := by
  unfold State.calStart
  dsimp only
  repeat' (first
    | with_reducible exact Only.refl _ _
    | with_reducible apply Only.wr
    | with_reducible apply Only.bump
    | with_reducible apply Only.app (hg := State.switch_only ..)
    | with_reducible apply Only.when
    | decide
    | split
    | intro _
    | (with_reducible apply Only.upd <;> try (first | exact Or.inl (by decide) | exact Or.inr rfl)))

theorem State.calAsk_only (s : State) (adc : Bool) :
    Only 0x40200000010000 s (State.calAsk s adc) := by
  unfold State.calAsk
  repeat' (first
    | with_reducible exact Only.refl _ _
    | with_reducible apply Only.app (hg := State.calStart_only ..)
    | decide
    | split
    | (with_reducible apply Only.upd <;> try (first | exact Or.inl (by decide) | exact Or.inr rfl)))

theorem execRefenWrite_only (v : Bool) (s : State) :
    OnlyO 0x48200003810000 s (execRefenWrite v s) := by
  unfold execRefenWrite
  dsimp only
  repeat' (first
    | with_reducible apply OnlyO.done
    | with_reducible exact Only.refl _ _
    | with_reducible apply Only.wr
    | with_reducible apply State.refuse_only
    | decide
    | split
    | intro _
    | (with_reducible apply Only.upd <;> try (first | exact Or.inl (by decide) | exact Or.inr rfl)))

theorem execRefrdy_only (s : State) :
    OnlyO 0x40200003010000 s (execRefrdy s) := by
  unfold execRefrdy
  repeat' (first
    | with_reducible apply OnlyO.done
    | with_reducible exact Only.refl _ _
    | with_reducible apply Only.wr
    | with_reducible apply Only.flag
    | with_reducible apply Only.app (hg := State.calStart_only ..)
    | decide
    | split
    | (with_reducible apply Only.upd <;> try (first | exact Or.inl (by decide) | exact Or.inr rfl)))

theorem execRefloss_only (s : State) :
    OnlyO 0x48000003810000 s (execRefloss s) := by
  unfold execRefloss
  repeat' (first
    | with_reducible apply OnlyO.done
    | with_reducible exact Only.refl _ _
    | with_reducible apply Only.wr
    | with_reducible apply State.fault_only
    | decide
    | split
    | intro _)

theorem execPinClamp_only (p : Fin 24) (s : State) :
    OnlyO 0x48200003810000 s (execPinClamp p s) := by
  unfold execPinClamp
  dsimp only
  repeat' (first
    | with_reducible apply OnlyO.done
    | with_reducible exact Only.refl _ _
    | with_reducible apply Only.wr
    | with_reducible apply State.fault_only
    | decide
    | split
    | intro _
    | (with_reducible apply Only.upd <;> try (first | exact Or.inl (by decide) | exact Or.inr rfl)))

theorem State.latchSensor_only (s : State) (i : Nat) (raw : BitVec 12) :
    Only 0x400000000004 s (State.latchSensor s i raw) := by
  unfold State.latchSensor
  dsimp only
  repeat' (first
    | with_reducible exact Only.refl _ _
    | with_reducible apply Only.wr
    | with_reducible apply Only.wrB
    | decide
    | (rw [blk_THM_SENS_T]; decide)
    | (rw [blk_THM_SENS_VALID]; decide)
    | split
    | (with_reducible apply Only.upd <;> try (first | exact Or.inl (by decide) | exact Or.inr rfl)))

theorem State.latchPkg_only (s : State) (raw : BitVec 12) :
    Only 0x400000000004 s (State.latchPkg s raw) := by
  unfold State.latchPkg
  dsimp only
  repeat' (first
    | with_reducible exact Only.refl _ _
    | with_reducible apply Only.wr
    | with_reducible apply Only.wrB
    | decide
    | split
    | (with_reducible apply Only.upd <;> try (first | exact Or.inl (by decide) | exact Or.inr rfl)))

theorem execSensfail_only (i : Fin 28) (s : State) :
    OnlyO 0x48000003800004 s (execSensfail i s) := by
  unfold execSensfail
  repeat' (first
    | with_reducible apply OnlyO.done
    | with_reducible exact Only.refl _ _
    | with_reducible apply Only.wr
    | with_reducible apply State.fault_only
    | decide
    | (rw [blk_THM_SENS_FAILED]; decide)
    | split
    | intro _)

theorem State.setLevels_only (s : State) (l : Nat) (h : Nat) :
    Only 0x8000000800004 s (State.setLevels s l h) := by
  unfold State.setLevels
  dsimp only
  repeat' (first
    | with_reducible exact Only.refl _ _
    | with_reducible apply Only.wr
    | with_reducible apply Only.flag
    | with_reducible apply State.fault_only
    | decide
    | split
    | intro _)

theorem execThrottleStepDown_only (hbm : Bool) (s : State) :
    OnlyO 0x48400003800004 s (execThrottleStepDown hbm s) := by
  unfold execThrottleStepDown
  dsimp only
  repeat' (first
    | with_reducible apply OnlyO.done
    | with_reducible exact Only.refl _ _
    | with_reducible apply Only.app (hg := State.setLevels_only ..)
    | decide
    | split
    | (with_reducible apply Only.upd <;> try (first | exact Or.inl (by decide) | exact Or.inr rfl)))

theorem State.warnTick_only {m : Nat} {s u : State} {f : Fld} {warn : Int} {mx : Option Int} (h : Only m s u)
    (hb : m.testBit (blk f.key) = true) (hm : 0x8000000800004 ||| m = m) : Only m s (u.warnTick f warn mx) := by
  have hs : ∀ g, g ||| 0x8000000800004 = 0x8000000800004 → g ||| m = m := fun g hg => by rw [← hm, ← Nat.lor_assoc, hg]
  unfold State.warnTick
  split
  · exact h
  · split
    · exact State.fault_only (h.wr hb) (testBit_of_sub hm _ (by decide)) (hs _ (by decide))
    · split
      · exact h.wr hb
      · exact h

theorem State.lifeTick_only (s : State) (l : Option Int) (h : Option Int) :
    Only 0x8000000800000 s (State.lifeTick s l h) := by
  unfold State.lifeTick
  dsimp only
  repeat' (first
    | with_reducible exact Only.refl _ _
    | with_reducible apply Only.wrS
    | with_reducible apply Only.bump
    | decide
    | split
    | (with_reducible apply Only.upd <;> try (first | exact Or.inl (by decide) | exact Or.inr rfl)))

theorem State.gateClocks_only (s : State) :
    Only 0x10c00000000 s (State.gateClocks s) := by
  unfold State.gateClocks
  repeat' (first
    | with_reducible exact Only.refl _ _
    | decide
    | (with_reducible apply Only.upd <;> try (first | exact Or.inl (by decide) | exact Or.inr rfl)))

theorem State.shutdown_only (s : State) :
    Only 0xca513c00802824 s (State.shutdown s) := by
  unfold State.shutdown
  dsimp only
  repeat' (first
    | with_reducible exact Only.refl _ _
    | with_reducible apply Only.wr
    | with_reducible apply State.fault_only
    | with_reducible apply Only.app (hg := State.trussFault_only ..)
    | with_reducible apply Only.app (hg := State.gateClocks_only ..)
    | decide
    | split
    | intro _
    | (with_reducible apply Only.upd <;> try (first | exact Or.inl (by decide) | exact Or.inr rfl)))

theorem State.shutTick_only (s : State) (l : Option Int) (h : Option Int) :
    Only 0xeffdfd07ffffff s (State.shutTick s l h) := by
  unfold State.shutTick
  dsimp only
  repeat' (first
    | with_reducible exact Only.refl _ _
    | with_reducible apply Only.wr
    | with_reducible apply State.fault_only
    | with_reducible apply Only.app (hg := State.reportFree_only ..)
    | with_reducible apply Only.app (hg := State.fullReset_only ..)
    | decide
    | split
    | intro _
    | (with_reducible apply Only.upd <;> try (first | exact Or.inl (by decide) | exact Or.inr rfl)))

theorem State.thermalTick_only (s : State) (temps : List (BitVec 12)) (pkg : BitVec 12) :
    Only 0xeffdfd07ffffff s (State.thermalTick s temps pkg) := by
  unfold State.thermalTick
  extract_lets s1 s2 lm hm s3 tl th s4 t4 nL nH
  have h1 : Only 0xeffdfd07ffffff s s1 :=
    Only.foldl (Only.refl _ _) (fun t i => (Only.refl _ t).app (State.latchSensor_only ..) (by decide))
  have h2 : Only 0xeffdfd07ffffff s s2 := h1.app (State.latchPkg_only ..) (by decide)
  have h3 : Only 0xeffdfd07ffffff s s3 := (h2.wrS (by decide)).wrS (by decide)
  have h4 : Only 0xeffdfd07ffffff s s4 :=
    State.warnTick_only (State.warnTick_only (h3.app (State.lifeTick_only ..) (by decide)) (by decide) (by decide)) (by decide)
      (by decide)
  clear_value nL nH t4 s4 tl th s3 lm hm
  split
  · exact h4.app (State.shutTick_only ..) (by decide)
  · split
    · split
      · exact h4.app (State.shutdown_only ..) (by decide)
      · dsimp only
        repeat' (first
          | exact h4
          | with_reducible apply Only.bump
          | with_reducible apply Only.app (hg := State.setLevels_only ..)
          | decide
          | split
          | (with_reducible apply Only.upd <;> try (first | exact Or.inl (by decide) | exact Or.inr rfl)))
    · exact h4.app (State.shutdown_only ..) (by decide)

end Sys2Proof.Machine
end

