-- ==== Sys2Proof/Laws/OnlyPlumbOps.lean ====
section
/-!
SUPPORT. What each operation of Machine/PlumbOps.lean may change: its register blocks and parts of the state, as the mask of `Only`.
-/
namespace Sys2Proof.Machine

set_option linter.unusedTactic false
set_option linter.unreachableTactic false

theorem State.onPlb_only (s : State) (f : PlbState → PlbState) :
    Only 0x800000000000 s (State.onPlb s f) := by
  unfold State.onPlb
  repeat' (first
    | with_reducible exact Only.refl _ _
    | decide
    | (with_reducible apply Only.upd <;> try (first | exact Or.inl (by decide) | exact Or.inr rfl)))

theorem State.startCd_only (s : State) :
    Only 0x800000020000 s (State.startCd s) := by
  unfold State.startCd
  dsimp only
  repeat' (first
    | with_reducible exact Only.refl _ _
    | with_reducible apply Only.wr
    | with_reducible apply State.took_only
    | with_reducible apply Only.app (hg := State.onPlb_only ..)
    | decide
    | intro _
    | dsimp only
    | (with_reducible apply Only.upd <;> try (first | exact Or.inl (by decide) | exact Or.inr rfl)))

theorem State.startRun_only (s : State) (k : Nat) :
    Only 0x40a00000030000 s (State.startRun s k) := by
  unfold State.startRun
  repeat' (first
    | with_reducible exact Only.refl _ _
    | with_reducible apply Only.wr
    | with_reducible apply Only.app (hg := State.startCd_only ..)
    | with_reducible apply Only.app (hg := State.onPlb_only ..)
    | with_reducible apply Only.app (hg := State.calAsk_only ..)
    | decide
    | split
    | (with_reducible apply Only.upd <;> try (first | exact Or.inl (by decide) | exact Or.inr rfl)))

theorem State.plbCtl_only (s : State) (v : Nat) :
    Only 0xa00000020000 s (State.plbCtl s v) := by
  unfold State.plbCtl
  dsimp only
  repeat' (first
    | with_reducible exact Only.refl _ _
    | with_reducible apply Only.wr
    | with_reducible apply Only.app (hg := State.onPlb_only ..)
    | with_reducible apply State.took_only
    | with_reducible apply Only.when
    | decide
    | intro _
    | dsimp only
    | (with_reducible apply Only.upd <;> try (first | exact Or.inl (by decide) | exact Or.inr rfl)))

theorem State.tempTriggers_only (s : State) :
    Only 0x40a00000030000 s (State.tempTriggers s) := by
  unfold State.tempTriggers
  dsimp only
  repeat' (first
    | with_reducible exact Only.refl _ _
    | with_reducible apply Only.app (hg := State.startRun_only ..)
    | decide
    | split
    | (with_reducible apply Only.upd <;> try (first | exact Or.inl (by decide) | exact Or.inr rfl)))

theorem State.cdDone_only (s : State) (t : Nat) :
    Only 0x800000000000 s (State.cdDone s t) := by
  unfold State.cdDone
  repeat' (first
    | with_reducible exact Only.refl _ _
    | with_reducible apply Only.app (hg := State.onPlb_only ..)
    | with_reducible apply State.took_only
    | decide
    | intro _
    | dsimp only
    | (with_reducible apply Only.upd <;> try (first | exact Or.inl (by decide) | exact Or.inr rfl)))

theorem State.cdFail_only (s : State) (t : Nat) :
    Only 0x8804000820010 s (State.cdFail s t) := by
  unfold State.cdFail
  dsimp only
  repeat' (first
    | with_reducible exact Only.refl _ _
    | with_reducible apply Only.wr
    | with_reducible apply State.fault_only
    | with_reducible apply Only.app (hg := State.cdDone_only ..)
    | with_reducible apply Only.app (hg := State.tdcFailed_only ..)
    | with_reducible apply Only.app (hg := State.spareFailed_only ..)
    | decide
    | (rw [blk_PLB_CDQ_FAIL]; decide)
    | split
    | intro _)

theorem State.cdTake_only (s : State) (t : Nat) (n : List Nat) :
    Only 0x800000020000 s (State.cdTake s t n) := by
  unfold State.cdTake
  dsimp only
  repeat' (first
    | with_reducible exact Only.refl _ _
    | with_reducible apply Only.wr
    | with_reducible apply Only.app (hg := State.cdDone_only ..)
    | with_reducible apply Only.app (hg := State.onPlb_only ..)
    | decide
    | (rw [blk_PLB_CDQ_DNL]; decide)
    | (rw [blk_PLB_CDQ_FAIL]; decide)
    | (rw [blk_PLB_CDQ_INL]; decide)
    | (rw [blk_PLB_CDQ_SRC]; decide)
    | (with_reducible apply Only.upd <;> try (first | exact Or.inl (by decide) | exact Or.inr rfl)))

theorem State.cdWorst_only (s : State) :
    Only 0x20000 s (State.cdWorst s) := by
  unfold State.cdWorst
  dsimp only
  repeat' (first
    | with_reducible exact Only.refl _ _
    | with_reducible apply Only.wr
    | with_reducible apply Only.foldl
    | decide
    | split
    | intro _)

theorem State.cdFinish_only (s : State) :
    Only 0x800000020000 s (State.cdFinish s) := by
  unfold State.cdFinish
  dsimp only
  repeat' (first
    | with_reducible exact Only.refl _ _
    | with_reducible apply Only.wr
    | with_reducible apply Only.flag
    | with_reducible apply Only.app (hg := State.cdWorst_only ..)
    | with_reducible apply Only.app (hg := State.onPlb_only ..)
    | decide
    | split
    | (with_reducible apply Only.upd <;> try (first | exact Or.inl (by decide) | exact Or.inr rfl)))

theorem State.rzCheck_only (s : State) :
    Only 0x800000020000 s (State.rzCheck s) := by
  unfold State.rzCheck
  dsimp only
  repeat' (first
    | with_reducible exact Only.refl _ _
    | with_reducible apply Only.wr
    | with_reducible apply Only.flag
    | with_reducible apply Only.app (hg := State.onPlb_only ..)
    | decide
    | split
    | (with_reducible apply Only.upd <;> try (first | exact Or.inl (by decide) | exact Or.inr rfl)))

theorem State.driftSample_only (s : State) (b : Burst) (range : Nat) :
    Only 0x800000020000 s (State.driftSample s b range) := by
  unfold State.driftSample
  dsimp only
  repeat' (first
    | with_reducible exact Only.refl _ _
    | with_reducible apply Only.wr
    | with_reducible apply Only.app (hg := State.onPlb_only ..)
    | with_reducible apply Only.app (hg := State.rzCheck_only ..)
    | decide
    | (rw [blk_PLB_RZDZ_NSAMP]; decide)
    | split
    | (with_reducible apply Only.upd <;> try (first | exact Or.inl (by decide) | exact Or.inr rfl)))

theorem State.setFine_only (s : State) (vals : List (Nat × List Int)) :
    Only 0x4000000000 s (State.setFine s vals) := by
  unfold State.setFine
  repeat' (first
    | with_reducible exact Only.refl _ _
    | with_reducible apply Only.foldl
    | decide
    | intro _
    | (with_reducible apply Only.upd <;> try (first | exact Or.inl (by decide) | exact Or.inr rfl)))

theorem State.setDz_only (s : State) (vals : List (Nat × List Int)) :
    Only 0x800000020000 s (State.setDz s vals) := by
  unfold State.setDz
  repeat' (first
    | with_reducible exact Only.refl _ _
    | with_reducible apply Only.wrS
    | with_reducible apply Only.app (hg := State.onPlb_only ..)
    | with_reducible apply Only.foldl
    | decide
    | (rw [blk_PLB_RZDZ_DZ]; decide)
    | intro _
    | (with_reducible apply Only.upd <;> try (first | exact Or.inl (by decide) | exact Or.inr rfl)))

theorem State.showStored_only (s : State) :
    Only 0x20000 s (State.showStored s) := by
  unfold State.showStored
  repeat' (first
    | with_reducible exact Only.refl _ _
    | with_reducible apply Only.wrB
    | decide)

theorem State.applyRamp_only (s : State) (cd : Bool) (vals : List (Nat × List Int)) :
    Only 0x804000020000 s (State.applyRamp s cd vals) := by
  unfold State.applyRamp
  repeat' (first
    | with_reducible exact Only.refl _ _
    | with_reducible apply Only.app (hg := State.setFine_only ..)
    | with_reducible apply Only.app (hg := State.onPlb_only ..)
    | with_reducible apply Only.app (hg := State.showStored_only ..)
    | with_reducible apply Only.app (hg := State.setDz_only ..)
    | decide
    | split
    | (with_reducible apply Only.upd <;> try (first | exact Or.inl (by decide) | exact Or.inr rfl)))

theorem State.putRamp_only (s : State) (cd : Bool) (r : Option Ramp) :
    Only 0x800000020000 s (State.putRamp s cd r) := by
  unfold State.putRamp
  repeat' (first
    | with_reducible exact Only.refl _ _
    | with_reducible apply Only.wrB
    | with_reducible apply Only.app (hg := State.onPlb_only ..)
    | decide
    | split
    | (with_reducible apply Only.upd <;> try (first | exact Or.inl (by decide) | exact Or.inr rfl)))

theorem State.rampStep_only (s : State) (cd : Bool) (r : Ramp) :
    Only 0x814000020000 s (State.rampStep s cd r) := by
  unfold State.rampStep
  dsimp only
  repeat' (first
    | with_reducible exact Only.refl _ _
    | with_reducible apply Only.app (hg := State.applyRamp_only ..)
    | with_reducible apply Only.app (hg := State.markCal_only ..)
    | with_reducible apply Only.app (hg := State.putRamp_only ..)
    | with_reducible apply Only.when
    | decide
    | split
    | intro _
    | (with_reducible apply Only.upd <;> try (first | exact Or.inl (by decide) | exact Or.inr rfl)))

theorem State.rampFrame_only (s : State) (cd : Bool) :
    Only 0x814000020000 s (State.rampFrame s cd) := by
  unfold State.rampFrame
  repeat' (first
    | with_reducible exact Only.refl _ _
    | with_reducible apply Only.app (hg := State.rampStep_only ..)
    | with_reducible apply Only.app (hg := State.onPlb_only ..)
    | decide
    | split
    | (with_reducible apply Only.upd <;> try (first | exact Or.inl (by decide) | exact Or.inr rfl)))

theorem State.plbFrame_only (s : State) :
    Only 0x814000020000 s (State.plbFrame s) := by
  unfold State.plbFrame
  dsimp only
  repeat' (first
    | with_reducible exact Only.refl _ _
    | with_reducible apply Only.app (hg := State.markCal_only ..)
    | with_reducible apply Only.app (hg := State.onPlb_only ..)
    | with_reducible apply Only.app (hg := State.rampFrame_only ..)
    | with_reducible apply Only.foldl
    | decide
    | split
    | intro _
    | (with_reducible apply Only.upd <;> try (first | exact Or.inl (by decide) | exact Or.inr rfl)))

theorem State.plbArm_only (s : State) :
    Only 0x804000020000 s (State.plbArm s) := by
  unfold State.plbArm
  dsimp only
  repeat' (first
    | with_reducible exact Only.refl _ _
    | with_reducible apply Only.app (hg := State.applyRamp_only ..)
    | with_reducible apply Only.app (hg := State.putRamp_only ..)
    | with_reducible apply Only.app (hg := State.onPlb_only ..)
    | decide
    | split
    | (with_reducible apply Only.upd <;> try (first | exact Or.inl (by decide) | exact Or.inr rfl)))

theorem State.storeSets_only (s : State) :
    Only 0x800000000000 s (State.storeSets s) := by
  unfold State.storeSets
  repeat' (first
    | with_reducible exact Only.refl _ _
    | with_reducible apply Only.app (hg := State.onPlb_only ..)
    | decide
    | (with_reducible apply Only.upd <;> try (first | exact Or.inl (by decide) | exact Or.inr rfl)))

theorem State.putWf_only (s : State) (l : List (Nat × Int × Int × Int)) :
    Only 0x800000004000 s (State.putWf s l) := by
  unfold State.putWf
  dsimp only
  repeat' (first
    | with_reducible exact Only.refl _ _
    | with_reducible apply Only.wrS
    | with_reducible apply Only.app (hg := State.onPlb_only ..)
    | with_reducible apply Only.foldl
    | decide
    | (rw [blk_WFP_CORA_GAIN]; decide)
    | (rw [blk_WFP_CORA_OFS]; decide)
    | (rw [blk_WFP_CORB_SKEW]; decide)
    | intro _
    | (with_reducible apply Only.upd <;> try (first | exact Or.inl (by decide) | exact Or.inr rfl)))

theorem State.putHk_only (s : State) (l : List (Nat × Int × Int)) :
    Only 0x800000010000 s (State.putHk s l) := by
  unfold State.putHk
  repeat' (first
    | with_reducible exact Only.refl _ _
    | with_reducible apply Only.wrS
    | with_reducible apply Only.app (hg := State.onPlb_only ..)
    | with_reducible apply Only.foldl
    | decide
    | (rw [blk_SIL_CORGAIN_GAIN]; decide)
    | (rw [blk_SIL_COROFS_OFS]; decide)
    | intro _
    | (with_reducible apply Only.upd <;> try (first | exact Or.inl (by decide) | exact Or.inr rfl)))

theorem State.mark5_only (s : State) :
    Only 0x810000000000 s (State.mark5 s) := by
  unfold State.mark5
  repeat' (first
    | with_reducible exact Only.refl _ _
    | with_reducible apply Only.app (hg := State.markCal_only ..)
    | with_reducible apply Only.app (hg := State.onPlb_only ..)
    | decide
    | (with_reducible apply Only.upd <;> try (first | exact Or.inl (by decide) | exact Or.inr rfl)))

theorem State.calSurvivors_only (s : State) :
    Only 0x810000034000 s (State.calSurvivors s) := by
  unfold State.calSurvivors
  dsimp only
  repeat' (first
    | with_reducible exact Only.refl _ _
    | with_reducible apply Only.wr
    | with_reducible apply Only.wrS
    | with_reducible apply Only.app (hg := State.putWf_only ..)
    | with_reducible apply Only.app (hg := State.putHk_only ..)
    | with_reducible apply Only.app (hg := State.onPlb_only ..)
    | with_reducible apply Only.app (hg := State.markCal_only ..)
    | with_reducible apply Only.app (hg := State.showStored_only ..)
    | with_reducible apply Only.when
    | with_reducible apply Only.foldl
    | decide
    | (rw [blk_PLB_RZDZ_DZ]; decide)
    | (rw [blk_PLB_RZDZ_NSAMP]; decide)
    | split
    | intro _
    | (with_reducible apply Only.upd <;> try (first | exact Or.inl (by decide) | exact Or.inr rfl)))

theorem State.calStage_only (s : State) :
    Only 0x40a10000034000 s (State.calStage s) := by
  unfold State.calStage
  dsimp only
  repeat' (first
    | with_reducible exact Only.refl _ _
    | with_reducible apply Only.app (hg := State.calSurvivors_only ..)
    | with_reducible apply Only.app (hg := State.startRun_only ..)
    | with_reducible apply Only.app (hg := State.setDz_only ..)
    | with_reducible apply Only.app (hg := State.mark5_only ..)
    | decide
    | split)

theorem State.calReinstate_only (s : State) :
    Only 0x814000034000 s (State.calReinstate s) := by
  unfold State.calReinstate
  dsimp only
  repeat' (first
    | with_reducible exact Only.refl _ _
    | with_reducible apply Only.app (hg := State.setFine_only ..)
    | with_reducible apply Only.app (hg := State.onPlb_only ..)
    | with_reducible apply Only.app (hg := State.showStored_only ..)
    | with_reducible apply Only.app (hg := State.mark5_only ..)
    | with_reducible apply Only.app (hg := State.putWf_only ..)
    | with_reducible apply Only.app (hg := State.putHk_only ..)
    | decide
    | split
    | (with_reducible apply Only.upd <;> try (first | exact Or.inl (by decide) | exact Or.inr rfl)))

end Sys2Proof.Machine
end

