-- ==== Sys2Proof/Laws/OnlyJoistOps.lean ====
section
/-!
SUPPORT. What each operation of Machine/JoistOps.lean may change: its register blocks and parts of the state, as the mask of `Only`.
-/
namespace Sys2Proof.Machine

set_option linter.unusedTactic false
set_option linter.unreachableTactic false

theorem State.settleJnl_only (s : State) :
    Only 0x90b2000808200 s (State.settleJnl s) := by
  unfold State.settleJnl
  dsimp only
  repeat' (first
    | with_reducible exact Only.refl _ _
    | with_reducible apply Only.app (hg := State.drain_only ..)
    | (with_reducible refine Only.ofFst (by assumption) ?_; with_reducible apply Only.app (hg := State.drain_only ..))
    | with_reducible apply Only.app (hg := State.lbkCover_only ..)
    | with_reducible apply Only.app (hg := State.dogPoints_only ..)
    | with_reducible apply Only.foldl
    | decide
    | split
    | intro _)

theorem State.endBurst_only (s : State) (num : Nat) :
    Only 0x90b2000808200 s (State.endBurst s num) := by
  unfold State.endBurst
  repeat' (first
    | with_reducible exact Only.refl _ _
    | with_reducible apply Only.app (hg := State.dropBurst_only ..)
    | with_reducible apply Only.app (hg := State.settleJnl_only ..)
    | decide)

theorem State.setInfo_only (s : State) :
    Only 0x80 s (State.setInfo s) := by
  unfold State.setInfo
  dsimp only
  repeat' (first
    | with_reducible exact Only.refl _ _
    | with_reducible apply Only.wr
    | decide)

theorem State.bankWrite_only (s : State) (p : ProgSet) :
    Only 0x8000000080 s (State.bankWrite s p) := by
  unfold State.bankWrite
  repeat' (first
    | with_reducible exact Only.refl _ _
    | with_reducible apply Only.wr
    | with_reducible apply Only.flag
    | decide
    | split
    | (with_reducible apply Only.upd <;> try (first | exact Or.inl (by decide) | exact Or.inr rfl)))

theorem State.substitute_only (s : State) (c : Nat) :
    Only 0x8000000000 s (State.substitute s c) := by
  unfold State.substitute
  repeat' (first
    | with_reducible exact Only.refl _ _
    | decide
    | (with_reducible apply Only.upd <;> try (first | exact Or.inl (by decide) | exact Or.inr rfl)))

theorem State.needSpare_only (s : State) (c : Nat) :
    Only 0x8008000800080 s (State.needSpare s c) := by
  unfold State.needSpare
  repeat' (first
    | with_reducible exact Only.refl _ _
    | with_reducible apply State.fault_only
    | with_reducible apply Only.app (hg := State.substitute_only ..)
    | decide
    | split
    | intro _)

theorem State.startItem_only (s : State) (b : Burst) (e : Nat) :
    Only 0xa000000080 s (State.startItem s b e) := by
  unfold State.startItem
  dsimp only
  repeat' (first
    | with_reducible exact Only.refl _ _
    | with_reducible apply Only.bump
    | with_reducible apply Only.app (hg := State.setBurst_only ..)
    | with_reducible apply Only.app (hg := State.setEngine_only ..)
    | decide
    | (with_reducible apply Only.upd <;> try (first | exact Or.inl (by decide) | exact Or.inr rfl)))

theorem State.dropItem_only (s : State) (b : Burst) :
    Only 0x90b2000808280 s (State.dropItem s b) := by
  unfold State.dropItem
  repeat' (first
    | with_reducible exact Only.refl _ _
    | with_reducible apply Only.bump
    | with_reducible apply State.fault_only
    | with_reducible apply Only.app (hg := State.tallyDropped_only ..)
    | with_reducible apply Only.app (hg := State.endBurst_only ..)
    | decide
    | intro _)

theorem State.engineOut_only (s : State) (e : Nat) :
    Only 0x48008000800080 s (State.engineOut s e) := by
  unfold State.engineOut
  dsimp only
  repeat' (first
    | with_reducible exact Only.refl _ _
    | with_reducible apply Only.bump
    | with_reducible apply Only.app (hg := State.setEngine_only ..)
    | with_reducible apply Only.app (hg := State.clusterRegs_only ..)
    | with_reducible apply State.fault_only
    | with_reducible apply Only.when
    | decide
    | (rw [blk_JST_CLSTAT_FAULTS]; decide)
    | split
    | intro _
    | (with_reducible apply Only.upd <;> try (first | exact Or.inl (by decide) | exact Or.inr rfl)))

theorem State.reRun_only (s : State) (num : Nat) (spare : Bool) :
    Only 0x90ba000808280 s (State.reRun s num spare) := by
  unfold State.reRun
  dsimp only
  repeat' (first
    | with_reducible exact Only.refl _ _
    | with_reducible apply Only.bump
    | with_reducible apply Only.app (hg := State.setBurst_only ..)
    | with_reducible apply Only.app (hg := State.countHeld_only ..)
    | with_reducible apply Only.app (hg := State.startItem_only ..)
    | with_reducible apply State.fault_only
    | with_reducible apply Only.app (hg := State.dropItem_only ..)
    | decide
    | split
    | intro _
    | (with_reducible apply Only.upd <;> try (first | exact Or.inl (by decide) | exact Or.inr rfl)))

theorem State.engineFault_only (s : State) (e : Nat) (inj : Bool) :
    Only 0x490ba000808280 s (State.engineFault s e inj) := by
  unfold State.engineFault
  dsimp only
  repeat' (first
    | with_reducible exact Only.refl _ _
    | with_reducible apply State.faultInj_only
    | with_reducible apply Only.app (hg := State.engineOut_only ..)
    | with_reducible apply Only.app (hg := State.needSpare_only ..)
    | with_reducible apply Only.app (hg := State.reRun_only ..)
    | decide
    | split
    | intro _
    | (with_reducible apply Only.upd <;> try (first | exact Or.inl (by decide) | exact Or.inr rfl)))

theorem State.injected_only (s : State) (e : Nat) :
    Only 0x490ba000808280 s (State.injected s e) := by
  unfold State.injected
  repeat' (first
    | with_reducible exact Only.refl _ _
    | with_reducible apply Only.app (hg := State.engineFault_only ..)
    | decide
    | split
    | (with_reducible apply Only.upd <;> try (first | exact Or.inl (by decide) | exact Or.inr rfl)))

theorem State.dispatch_only (s : State) (num : Nat) :
    Only 0x490ba000808280 s (State.dispatch s num) := by
  unfold State.dispatch
  repeat' (first
    | with_reducible exact Only.refl _ _
    | with_reducible apply Only.app (hg := State.dropItem_only ..)
    | with_reducible apply Only.app (hg := State.startItem_only ..)
    | with_reducible apply Only.app (hg := State.injected_only ..)
    | with_reducible apply Only.app (hg := State.setBurst_only ..)
    | decide
    | split
    | (with_reducible apply Only.upd <;> try (first | exact Or.inl (by decide) | exact Or.inr rfl)))

theorem State.dispatchWaiting_only (s : State) (c : Nat) :
    Only 0x490ba000808280 s (State.dispatchWaiting s c) := by
  unfold State.dispatchWaiting
  repeat' (first
    | with_reducible exact Only.refl _ _
    | with_reducible apply Only.app (hg := State.startItem_only ..)
    | with_reducible apply Only.app (hg := State.injected_only ..)
    | decide
    | split
    | (with_reducible apply Only.upd <;> try (first | exact Or.inl (by decide) | exact Or.inr rfl)))

theorem State.clusterFault_only (s : State) (c : Nat) (inj : Bool) :
    Only 0x90ba000808280 s (State.clusterFault s c inj) := by
  unfold State.clusterFault
  dsimp only
  repeat' (first
    | with_reducible exact Only.refl _ _
    | with_reducible apply Only.app (hg := State.reportInj_only ..)
    | with_reducible apply Only.app (hg := State.reportFree_only ..)
    | with_reducible apply Only.app (hg := State.needSpare_only ..)
    | with_reducible apply Only.app (hg := State.setEngine_only ..)
    | with_reducible apply Only.app (hg := State.reRun_only ..)
    | with_reducible apply Only.foldl
    | decide
    | split
    | intro _
    | (with_reducible apply Only.upd <;> try (first | exact Or.inl (by decide) | exact Or.inr rfl)))

theorem State.clusterAccess_only (s : State) (c : Nat) (addr : Nat) (write : Bool) :
    Only 0x8000000c00000 s (State.clusterAccess s c addr write) := by
  unfold State.clusterAccess
  repeat' (first
    | with_reducible exact Only.refl _ _
    | with_reducible apply Only.app (hg := State.girtDenyHbm_only ..)
    | decide
    | split)

theorem State.refResult_only (s : State) (b : Burst) (range : Option Nat) :
    Only 0x1000000000 s (State.refResult s b range) := by
  unfold State.refResult
  dsimp only
  repeat' (first
    | with_reducible exact Only.refl _ _
    | with_reducible apply Only.app (hg := State.setProof_only ..)
    | decide
    | split
    | (with_reducible apply Only.upd <;> try (first | exact Or.inl (by decide) | exact Or.inr rfl)))

theorem State.handOver_only (s : State) (b : Burst) (rs : List (BitVec 96 × Option Nat)) :
    Only 0x813000020200 s (State.handOver s b rs) := by
  unfold State.handOver
  dsimp only
  repeat' (first
    | with_reducible exact Only.refl _ _
    | with_reducible apply Only.bump
    | with_reducible apply Only.app (hg := State.setBurst_only ..)
    | with_reducible apply Only.app (hg := State.countHeld_only ..)
    | with_reducible apply Only.app (hg := State.driftSample_only ..)
    | with_reducible apply Only.app (hg := State.refResult_only ..)
    | with_reducible apply Only.when
    | with_reducible apply Only.foldl
    | decide
    | split
    | intro _
    | (with_reducible apply Only.upd <;> try (first | exact Or.inl (by decide) | exact Or.inr rfl)))

end Sys2Proof.Machine
end

