-- ==== Sys2Proof/Laws/OnlyTrussRows.lean ====
section
/-!
SUPPORT. What each operation of Machine/TrussRows.lean may change: its register blocks and parts of the state, as the mask of `Only`.
-/
namespace Sys2Proof.Machine

set_option linter.unusedTactic false
set_option linter.unreachableTactic false

theorem State.keyClose_only (s : State) :
    Only 0x100000002000 s (State.keyClose s) := by
  unfold State.keyClose
  repeat' (first
    | with_reducible exact Only.refl _ _
    | with_reducible apply Only.wr
    | with_reducible apply Only.app (hg := State.onTrs_only ..)
    | decide
    | (with_reducible apply Only.upd <;> try (first | exact Or.inl (by decide) | exact Or.inr rfl)))

theorem State.keyWrite_only (s : State) (v : Nat) :
    Only 0x8100000802000 s (State.keyWrite s v) := by
  unfold State.keyWrite
  repeat' (first
    | with_reducible exact Only.refl _ _
    | with_reducible apply Only.wr
    | with_reducible apply Only.flag
    | with_reducible apply Only.app (hg := State.onTrs_only ..)
    | with_reducible apply Only.app (hg := State.keyClose_only ..)
    | with_reducible apply Only.app (hg := State.trsReport_only ..)
    | decide
    | split
    | (with_reducible apply Only.upd <;> try (first | exact Or.inl (by decide) | exact Or.inr rfl)))

theorem execTrsKey_only (v : Word) (s : State) :
    OnlyO 0x48100003802000 s (execTrsKey v s) := by
  unfold execTrsKey
  repeat' (first
    | with_reducible apply OnlyO.done
    | with_reducible exact Only.refl _ _
    | with_reducible apply Only.app (hg := State.keyWrite_only ..)
    | decide)

theorem execKeyWindowExpiry_only (s : State) :
    OnlyO 0x40000003002000 s (execKeyWindowExpiry s) := by
  unfold execKeyWindowExpiry
  repeat' (first
    | with_reducible apply OnlyO.done
    | with_reducible exact Only.refl _ _
    | with_reducible apply Only.wr
    | decide)

theorem execKeySequenceExpiry_only (s : State) :
    OnlyO 0x40100003000000 s (execKeySequenceExpiry s) := by
  unfold execKeySequenceExpiry
  repeat' (first
    | with_reducible apply OnlyO.done
    | with_reducible exact Only.refl _ _
    | with_reducible apply Only.app (hg := State.onTrs_only ..)
    | decide
    | (with_reducible apply Only.upd <;> try (first | exact Or.inl (by decide) | exact Or.inr rfl)))

theorem State.darkreqWrite_only (s : State) (v : Bool) :
    Only 0xc2113000002820 s (State.darkreqWrite s v) := by
  unfold State.darkreqWrite
  dsimp only
  repeat' (first
    | with_reducible exact Only.refl _ _
    | with_reducible apply Only.wrB
    | with_reducible apply Only.app (hg := State.onTrs_only ..)
    | with_reducible apply Only.app (hg := State.trsEval_only ..)
    | decide
    | split
    | (with_reducible apply Only.upd <;> try (first | exact Or.inl (by decide) | exact Or.inr rfl)))

theorem execDarkreq_only (v : Bool) (s : State) :
    OnlyO 0xc2113003002820 s (execDarkreq v s) := by
  unfold execDarkreq
  repeat' (first
    | with_reducible apply OnlyO.done
    | with_reducible exact Only.refl _ _
    | with_reducible apply Only.app (hg := State.darkreqWrite_only ..)
    | decide)

theorem execArmChecks_only (fb : Bool) (s : State) :
    OnlyO 0xca113003802820 s (execArmChecks fb s) := by
  unfold execArmChecks
  repeat' (first
    | with_reducible apply OnlyO.done
    | with_reducible exact Only.refl _ _
    | with_reducible apply Only.app (hg := State.armResult_only ..)
    | decide
    | split)

theorem execDarkNRelease_only (s : State) :
    OnlyO 0x40110003002000 s (execDarkNRelease s) := by
  unfold execDarkNRelease
  repeat' (first
    | with_reducible apply OnlyO.done
    | with_reducible exact Only.refl _ _
    | with_reducible apply Only.app (hg := State.darkHigh_only ..)
    | with_reducible apply Only.app (hg := State.trsMarker_only ..)
    | decide
    | split)

theorem execHushWithdrawal_only (s : State) :
    OnlyO 0xc2101003100800 s (execHushWithdrawal s) := by
  unfold execHushWithdrawal
  repeat' (first
    | with_reducible apply OnlyO.done
    | with_reducible exact Only.refl _ _
    | with_reducible apply Only.app (hg := State.onTrs_only ..)
    | with_reducible apply Only.app (hg := State.hushEnd_only ..)
    | decide
    | split
    | (with_reducible apply Only.upd <;> try (first | exact Or.inl (by decide) | exact Or.inr rfl)))

theorem execHushgenRepeat_only (s : State) :
    OnlyO 0xc2001003100000 s (execHushgenRepeat s) := by
  unfold execHushgenRepeat
  repeat' (first
    | with_reducible apply OnlyO.done
    | with_reducible exact Only.refl _ _
    | with_reducible apply Only.app (hg := State.hushRepeat_only ..)
    | decide
    | split)

theorem execSupplyFault_only (i : Fin 16) (s : State) :
    OnlyO 0xca113003802820 s (execSupplyFault i s) := by
  unfold execSupplyFault
  dsimp only
  repeat' (first
    | with_reducible apply OnlyO.done
    | with_reducible exact Only.refl _ _
    | with_reducible apply Only.wr
    | with_reducible apply Only.app (hg := State.trussFault_only ..)
    | decide
    | split)

theorem execSupplyClear_only (i : Fin 16) (s : State) :
    OnlyO 0x40000003002000 s (execSupplyClear i s) := by
  unfold execSupplyClear
  repeat' (first
    | with_reducible apply OnlyO.done
    | with_reducible exact Only.refl _ _
    | with_reducible apply Only.wr
    | decide)

theorem State.clkFaultShow_only (s : State) (k : ClockFaultKind) :
    Only 0x8000000800002 s (State.clkFaultShow s k) := by
  unfold State.clkFaultShow
  repeat' (first
    | with_reducible exact Only.refl _ _
    | with_reducible apply Only.wr
    | with_reducible apply State.fault_only
    | decide
    | split
    | intro _
    | (with_reducible apply Only.upd <;> try (first | exact Or.inl (by decide) | exact Or.inr rfl)))

theorem execClockFault_only (k : ClockFaultKind) (s : State) :
    OnlyO 0xca113003802822 s (execClockFault k s) := by
  unfold execClockFault
  repeat' (first
    | with_reducible apply OnlyO.done
    | with_reducible exact Only.refl _ _
    | with_reducible apply Only.app (hg := State.clkFaultShow_only ..)
    | with_reducible apply Only.app (hg := State.onTrs_only ..)
    | with_reducible apply Only.app (hg := State.trussFault_only ..)
    | decide
    | (with_reducible apply Only.upd <;> try (first | exact Or.inl (by decide) | exact Or.inr rfl)))

theorem execClockFaultClear_only (s : State) :
    OnlyO 0x40100003000002 s (execClockFaultClear s) := by
  unfold execClockFaultClear
  dsimp only
  repeat' (first
    | with_reducible apply OnlyO.done
    | with_reducible exact Only.refl _ _
    | with_reducible apply Only.wr
    | with_reducible apply Only.app (hg := State.onTrs_only ..)
    | with_reducible apply Only.when
    | decide
    | intro _
    | (with_reducible apply Only.upd <;> try (first | exact Or.inl (by decide) | exact Or.inr rfl)))

theorem execHeartbeat_only (s : State) :
    OnlyO 0x40100003000000 s (execHeartbeat s) := by
  unfold execHeartbeat
  repeat' (first
    | with_reducible apply OnlyO.done
    | with_reducible exact Only.refl _ _
    | with_reducible apply Only.app (hg := State.onTrs_only ..)
    | decide
    | (with_reducible apply Only.upd <;> try (first | exact Or.inl (by decide) | exact Or.inr rfl)))

theorem execHeartbeatMissing_only (s : State) :
    OnlyO 0xca113003802820 s (execHeartbeatMissing s) := by
  unfold execHeartbeatMissing
  repeat' (first
    | with_reducible apply OnlyO.done
    | with_reducible exact Only.refl _ _
    | with_reducible apply Only.app (hg := State.onTrs_only ..)
    | with_reducible apply Only.app (hg := State.trussFault_only ..)
    | decide
    | (with_reducible apply Only.upd <;> try (first | exact Or.inl (by decide) | exact Or.inr rfl)))

theorem execReadback_only (dark : Bool) (sfb : BitVec 4) (s : State) :
    OnlyO 0xca113003802820 s (execReadback dark sfb s) := by
  unfold execReadback
  dsimp only
  repeat' (first
    | with_reducible apply OnlyO.done
    | with_reducible exact Only.refl _ _
    | with_reducible apply Only.wr
    | with_reducible apply Only.wrB
    | with_reducible apply Only.app (hg := State.onTrs_only ..)
    | with_reducible apply Only.app (hg := State.trussFault_only ..)
    | decide
    | split
    | (with_reducible apply Only.upd <;> try (first | exact Or.inl (by decide) | exact Or.inr rfl)))

theorem execHushNotConfirmed_only (s : State) :
    OnlyO 0xca113003802820 s (execHushNotConfirmed s) := by
  unfold execHushNotConfirmed
  repeat' (first
    | with_reducible apply OnlyO.done
    | with_reducible exact Only.refl _ _
    | with_reducible apply Only.app (hg := State.trussFault_only ..)
    | decide
    | split)

theorem execKnownAnswerCheck_only (good : BitVec 32) (s : State) :
    OnlyO 0xca113003802820 s (execKnownAnswerCheck good s) := by
  unfold execKnownAnswerCheck
  repeat' (first
    | with_reducible apply OnlyO.done
    | with_reducible exact Only.refl _ _
    | with_reducible apply Only.app (hg := State.onTrs_only ..)
    | with_reducible apply Only.app (hg := State.trussFault_only ..)
    | decide
    | split
    | (with_reducible apply Only.upd <;> try (first | exact Or.inl (by decide) | exact Or.inr rfl)))

theorem execTrussScrub_only (found : ScrubFind) (s : State) :
    OnlyO 0xca113003802820 s (execTrussScrub found s) := by
  unfold execTrussScrub
  repeat' (first
    | with_reducible apply OnlyO.done
    | with_reducible exact Only.refl _ _
    | with_reducible apply Only.app (hg := State.onTrs_only ..)
    | with_reducible apply Only.app (hg := State.trussFault_only ..)
    | decide
    | split
    | (with_reducible apply Only.upd <;> try (first | exact Or.inl (by decide) | exact Or.inr rfl)))

theorem execLockstepMismatch_only (s : State) :
    OnlyO 0xca113003802820 s (execLockstepMismatch s) := by
  unfold execLockstepMismatch
  repeat' (first
    | with_reducible apply OnlyO.done
    | with_reducible exact Only.refl _ _
    | with_reducible apply Only.app (hg := State.trussFault_only ..)
    | decide)

theorem execRootWatchdog_only (s : State) :
    OnlyO 0xca113003802820 s (execRootWatchdog s) := by
  unfold execRootWatchdog
  dsimp only
  repeat' (first
    | with_reducible apply OnlyO.done
    | with_reducible exact Only.refl _ _
    | with_reducible apply Only.app (hg := State.onTrs_only ..)
    | with_reducible apply Only.app (hg := State.report_only ..)
    | with_reducible apply Only.app (hg := State.trsEval_only ..)
    | with_reducible apply Only.app (hg := State.setTrs_only ..)
    | decide
    | split
    | (with_reducible apply Only.upd <;> try (first | exact Or.inl (by decide) | exact Or.inr rfl)))

theorem execBucketRollover_only (w2 : Bool) (s : State) :
    OnlyO 0x40100003000000 s (execBucketRollover w2 s) := by
  unfold execBucketRollover
  dsimp only
  repeat' (first
    | with_reducible apply OnlyO.done
    | with_reducible exact Only.refl _ _
    | with_reducible apply Only.app (hg := State.onTrs_only ..)
    | decide
    | split
    | (with_reducible apply Only.upd <;> try (first | exact Or.inl (by decide) | exact Or.inr rfl)))

theorem State.sampleUnused_only (s : State) (k : Nat) (a : Bool) (b : Bool) :
    Only 0x8100000800000 s (State.sampleUnused s k a b) := by
  unfold State.sampleUnused
  dsimp only
  repeat' (first
    | with_reducible exact Only.refl _ _
    | with_reducible apply Only.app (hg := State.setInput_only ..)
    | with_reducible apply Only.app (hg := State.trsReport_only ..)
    | decide
    | split
    | (with_reducible apply Only.upd <;> try (first | exact Or.inl (by decide) | exact Or.inr rfl)))

theorem State.sampleUsed_only (s : State) (k : Nat) (a : Bool) (b : Bool) :
    Only 0x100000000000 s (State.sampleUsed s k a b) := by
  unfold State.sampleUsed
  repeat' (first
    | with_reducible exact Only.refl _ _
    | with_reducible apply Only.app (hg := State.setInput_only ..)
    | decide
    | split
    | (with_reducible apply Only.upd <;> try (first | exact Or.inl (by decide) | exact Or.inr rfl)))

theorem execInputSample_only (a : BitVec 8) (b : BitVec 8) (s : State) :
    OnlyO 0x48100003800000 s (execInputSample a b s) := by
  unfold execInputSample
  repeat' (first
    | with_reducible apply OnlyO.done
    | with_reducible exact Only.refl _ _
    | with_reducible apply Only.app (hg := State.sampleUnused_only ..)
    | with_reducible apply Only.app (hg := State.sampleUsed_only ..)
    | with_reducible apply Only.foldl
    | decide
    | split
    | intro _)

theorem State.inputFault_only (s : State) (k : Nat) (cause : Nat) :
    Only 0xca113000802820 s (State.inputFault s k cause) := by
  unfold State.inputFault
  dsimp only
  repeat' (first
    | with_reducible exact Only.refl _ _
    | with_reducible apply Only.wr
    | with_reducible apply Only.flag
    | with_reducible apply Only.app (hg := State.setInput_only ..)
    | with_reducible apply Only.app (hg := State.trsReport_only ..)
    | with_reducible apply Only.app (hg := State.trsEval_only ..)
    | decide
    | (rw [blk_TRS_INSTAT_STATE]; decide)
    | split
    | (with_reducible apply Only.upd <;> try (first | exact Or.inl (by decide) | exact Or.inr rfl)))

theorem State.inputOpens_only (s : State) (k : Nat) :
    Only 0xc2113000002820 s (State.inputOpens s k) := by
  unfold State.inputOpens
  dsimp only
  repeat' (first
    | with_reducible exact Only.refl _ _
    | with_reducible apply Only.wr
    | with_reducible apply Only.app (hg := State.setInput_only ..)
    | with_reducible apply Only.app (hg := State.trsEval_only ..)
    | decide
    | (rw [blk_TRS_INSTAT_STATE]; decide)
    | split
    | (with_reducible apply Only.upd <;> try (first | exact Or.inl (by decide) | exact Or.inr rfl)))

theorem State.inputCloses_only (s : State) (k : Nat) :
    Only 0xc2113000002820 s (State.inputCloses s k) := by
  unfold State.inputCloses
  dsimp only
  repeat' (first
    | with_reducible exact Only.refl _ _
    | with_reducible apply Only.wr
    | with_reducible apply Only.app (hg := State.setInput_only ..)
    | with_reducible apply Only.app (hg := State.trsEval_only ..)
    | decide
    | (rw [blk_TRS_INSTAT_STATE]; decide)
    | split
    | (with_reducible apply Only.upd <;> try (first | exact Or.inl (by decide) | exact Or.inr rfl)))

theorem State.inputChatter_only (s : State) (k : Nat) :
    Only 0xca113000802820 s (State.inputChatter s k) := by
  unfold State.inputChatter
  dsimp only
  repeat' (first
    | with_reducible exact Only.refl _ _
    | with_reducible apply Only.app (hg := State.setInput_only ..)
    | with_reducible apply Only.app (hg := State.inputFault_only ..)
    | decide
    | split
    | (with_reducible apply Only.upd <;> try (first | exact Or.inl (by decide) | exact Or.inr rfl)))

theorem execInputLevelAccepted_only (k : Fin 8) (legB : Bool) (s : State) :
    OnlyO 0xca113003802820 s (execInputLevelAccepted k legB s) := by
  unfold execInputLevelAccepted
  dsimp only
  repeat' (first
    | with_reducible apply OnlyO.done
    | with_reducible exact Only.refl _ _
    | with_reducible apply Only.wrB
    | with_reducible apply Only.app (hg := State.setInput_only ..)
    | with_reducible apply Only.app (hg := State.inputCloses_only ..)
    | with_reducible apply Only.app (hg := State.inputOpens_only ..)
    | with_reducible apply Only.app (hg := State.inputChatter_only ..)
    | decide
    | (rw [blk_TRS_INSTAT_ALVL]; decide)
    | (rw [blk_TRS_INSTAT_BLVL]; decide)
    | split
    | (with_reducible apply Only.upd <;> try (first | exact Or.inl (by decide) | exact Or.inr rfl)))

theorem execDiscrepancy_only (k : Fin 8) (s : State) :
    OnlyO 0xca113003802820 s (execDiscrepancy k s) := by
  unfold execDiscrepancy
  dsimp only
  repeat' (first
    | with_reducible apply OnlyO.done
    | with_reducible exact Only.refl _ _
    | with_reducible apply Only.app (hg := State.setInput_only ..)
    | with_reducible apply Only.app (hg := State.inputFault_only ..)
    | decide
    | split
    | (with_reducible apply Only.upd <;> try (first | exact Or.inl (by decide) | exact Or.inr rfl)))

theorem execOffPulse_only (k : Fin 4) (s : State) :
    OnlyO 0x40000003000000 s (execOffPulse k s) := by
  unfold execOffPulse
  repeat' (first
    | with_reducible apply OnlyO.done
    | with_reducible exact Only.refl _ _
    | with_reducible apply Only.app (hg := State.emit_only ..)
    | decide
    | split)

theorem execFeedbackCheck_only (k : Fin 4) (level : Bool) (pulse : Bool) (s : State) :
    OnlyO 0xca113003802820 s (execFeedbackCheck k level pulse s) := by
  unfold execFeedbackCheck
  dsimp only
  repeat' (first
    | with_reducible apply OnlyO.done
    | with_reducible exact Only.refl _ _
    | with_reducible apply Only.wr
    | with_reducible apply Only.app (hg := State.onTrs_only ..)
    | with_reducible apply Only.app (hg := State.trussFault_only ..)
    | decide
    | split
    | (with_reducible apply Only.upd <;> try (first | exact Or.inl (by decide) | exact Or.inr rfl)))

theorem State.releaseRefused_only (s : State) :
    Only 0x8000000802000 s (State.releaseRefused s) := by
  unfold State.releaseRefused
  repeat' (first
    | with_reducible exact Only.refl _ _
    | with_reducible apply Only.bump
    | with_reducible apply Only.flag
    | with_reducible apply Only.app (hg := State.trsReport_only ..)
    | decide)

theorem State.restartEdge_only (s : State) :
    Only 0xc2113000002820 s (State.restartEdge s) := by
  unfold State.restartEdge
  dsimp only
  repeat' (first
    | with_reducible exact Only.refl _ _
    | with_reducible apply Only.app (hg := State.onTrs_only ..)
    | with_reducible apply Only.app (hg := State.trsEval_only ..)
    | with_reducible apply Only.foldl
    | decide
    | split
    | intro _
    | (with_reducible apply Only.upd <;> try (first | exact Or.inl (by decide) | exact Or.inr rfl)))

theorem execSresetNRise_only (lowUs : Nat) (s : State) :
    OnlyO 0xca113003802820 s (execSresetNRise lowUs s) := by
  unfold execSresetNRise
  dsimp only
  repeat' (first
    | with_reducible apply OnlyO.done
    | with_reducible exact Only.refl _ _
    | with_reducible apply Only.app (hg := State.keyClose_only ..)
    | with_reducible apply Only.app (hg := State.onTrs_only ..)
    | with_reducible apply Only.app (hg := State.releaseRefused_only ..)
    | with_reducible apply Only.app (hg := State.restartEdge_only ..)
    | decide
    | split
    | (with_reducible apply Only.upd <;> try (first | exact Or.inl (by decide) | exact Or.inr rfl)))

theorem execSresetNStuck_only (s : State) :
    OnlyO 0x48000003800000 s (execSresetNStuck s) := by
  unfold execSresetNStuck
  repeat' (first
    | with_reducible apply OnlyO.done
    | with_reducible exact Only.refl _ _
    | with_reducible apply Only.app (hg := State.trsReport_only ..)
    | decide)

theorem execLimpRecovery_only (s : State) :
    OnlyO 0xc2113003002820 s (execLimpRecovery s) := by
  unfold execLimpRecovery
  repeat' (first
    | with_reducible apply OnlyO.done
    | with_reducible exact Only.refl _ _
    | with_reducible apply Only.app (hg := State.onTrs_only ..)
    | with_reducible apply Only.app (hg := State.setTrs_only ..)
    | decide
    | split
    | (with_reducible apply Only.upd <;> try (first | exact Or.inl (by decide) | exact Or.inr rfl)))

theorem execLimpWindowExpiry_only (s : State) :
    OnlyO 0xca113003802820 s (execLimpWindowExpiry s) := by
  unfold execLimpWindowExpiry
  repeat' (first
    | with_reducible apply OnlyO.done
    | with_reducible exact Only.refl _ _
    | with_reducible apply Only.app (hg := State.onTrs_only ..)
    | with_reducible apply Only.app (hg := State.trsReport_only ..)
    | with_reducible apply Only.app (hg := State.setTrs_only ..)
    | decide
    | split
    | (with_reducible apply Only.upd <;> try (first | exact Or.inl (by decide) | exact Or.inr rfl)))

theorem State.budLoad_only (s : State) :
    Only 0x8100000802000 s (State.budLoad s) := by
  unfold State.budLoad
  dsimp only
  repeat' (first
    | with_reducible exact Only.refl _ _
    | with_reducible apply Only.wr
    | with_reducible apply Only.flag
    | with_reducible apply Only.app (hg := State.onTrs_only ..)
    | with_reducible apply State.fault_only
    | decide
    | split
    | intro _
    | (with_reducible apply Only.upd <;> try (first | exact Or.inl (by decide) | exact Or.inr rfl)))

theorem execBudload_only (s : State) :
    OnlyO 0x48100003802000 s (execBudload s) := by
  unfold execBudload
  repeat' (first
    | with_reducible apply OnlyO.done
    | with_reducible exact Only.refl _ _
    | with_reducible apply Only.app (hg := State.budLoad_only ..)
    | with_reducible apply Only.app (hg := State.onTrs_only ..)
    | with_reducible apply Only.app (hg := State.rwkReject_only ..)
    | decide
    | split
    | (with_reducible apply Only.upd <;> try (first | exact Or.inl (by decide) | exact Or.inr rfl)))

theorem State.fixSums_only (s : State) (old : BudBank) (new : BudBank) :
    Only 0x100000000000 s (State.fixSums s old new) := by
  unfold State.fixSums
  dsimp only
  repeat' (first
    | with_reducible exact Only.refl _ _
    | with_reducible apply Only.app (hg := State.onTrs_only ..)
    | with_reducible apply Only.foldl
    | decide
    | split
    | intro _
    | (with_reducible apply Only.upd <;> try (first | exact Or.inl (by decide) | exact Or.inr rfl)))

theorem State.budSwap_only (s : State) :
    Only 0x100000002000 s (State.budSwap s) := by
  unfold State.budSwap
  dsimp only
  repeat' (first
    | with_reducible exact Only.refl _ _
    | with_reducible apply Only.wr
    | with_reducible apply Only.wrB
    | with_reducible apply Only.app (hg := State.fixSums_only ..)
    | with_reducible apply Only.app (hg := State.onTrs_only ..)
    | decide
    | (with_reducible apply Only.upd <;> try (first | exact Or.inl (by decide) | exact Or.inr rfl)))

theorem execBudswap_only (s : State) :
    OnlyO 0x48100003802000 s (execBudswap s) := by
  unfold execBudswap
  repeat' (first
    | with_reducible apply OnlyO.done
    | with_reducible exact Only.refl _ _
    | with_reducible apply Only.app (hg := State.rwkReject_only ..)
    | with_reducible apply State.fault_only
    | with_reducible apply Only.app (hg := State.budSwap_only ..)
    | decide
    | split
    | intro _)

end Sys2Proof.Machine
end

