-- ==== Sys2Proof/Laws/OnlyHbmRead.lean ====
section
/-!
SUPPORT. What each operation of Machine/HbmRead.lean may change: its register blocks and parts of the state, as the mask of `Only`.
-/
namespace Sys2Proof.Machine

set_option linter.unusedTactic false
set_option linter.unreachableTactic false

theorem State.onFlt_only (s : State) (f : FltState → FltState) :
    Only 0x8000000000000 s (State.onFlt s f) := by
  unfold State.onFlt
  repeat' (first
    | with_reducible exact Only.refl _ _
    | decide
    | (with_reducible apply Only.upd <;> try (first | exact Or.inl (by decide) | exact Or.inr rfl)))

theorem State.hbmReport_only (s : State) (w : Nat) (code : Nat) (sev : Nat) :
    Only 0x8000000800000 s (State.hbmReport s w code sev) := by
  unfold State.hbmReport
  repeat' (first
    | with_reducible exact Only.refl _ _
    | with_reducible apply Only.app (hg := State.onFlt_only ..)
    | with_reducible apply Only.app (hg := State.reportInj_only ..)
    | with_reducible apply Only.app (hg := State.reportFree_only ..)
    | decide
    | split
    | (with_reducible apply Only.upd <;> try (first | exact Or.inl (by decide) | exact Or.inr rfl)))

theorem State.rowNeeds_only (s : State) (w : Nat) :
    Only 0x8000000000000 s (State.rowNeeds s w) := by
  unfold State.rowNeeds
  repeat' (first
    | with_reducible exact Only.refl _ _
    | with_reducible apply Only.app (hg := State.onFlt_only ..)
    | decide
    | split
    | (with_reducible apply Only.upd <;> try (first | exact Or.inl (by decide) | exact Or.inr rfl)))

theorem State.rowError_only (s : State) (w : Nat) :
    Only 0x8000000000000 s (State.rowError s w) := by
  unfold State.rowError
  dsimp only
  repeat' (first
    | with_reducible exact Only.refl _ _
    | with_reducible apply Only.app (hg := State.onFlt_only ..)
    | with_reducible apply Only.app (hg := State.rowNeeds_only ..)
    | with_reducible apply Only.when
    | decide
    | intro _
    | (with_reducible apply Only.upd <;> try (first | exact Or.inl (by decide) | exact Or.inr rfl)))

theorem State.wordRight_only (s : State) (w : Nat) :
    Only 0x8000000000000 s (State.wordRight s w) := by
  unfold State.wordRight
  repeat' (first
    | with_reducible exact Only.refl _ _
    | with_reducible apply Only.app (hg := State.onFlt_only ..)
    | decide
    | (with_reducible apply Only.upd <;> try (first | exact Or.inl (by decide) | exact Or.inr rfl)))

theorem State.hbmStop_only (s : State) (w : Nat) :
    Only 0xca113000802820 s (State.hbmStop s w) := by
  unfold State.hbmStop
  dsimp only
  repeat' (first
    | with_reducible exact Only.refl _ _
    | with_reducible apply Only.wr
    | with_reducible apply Only.app (hg := State.reportFree_only ..)
    | with_reducible apply Only.app (hg := State.darkreqWrite_only ..)
    | decide
    | (with_reducible apply Only.upd <;> try (first | exact Or.inl (by decide) | exact Or.inr rfl)))

theorem State.recordLost_only (s : State) (w : Nat) :
    Only 0x8010000800200 s (State.recordLost s w) := by
  unfold State.recordLost
  dsimp only
  repeat' (first
    | with_reducible exact Only.refl _ _
    | with_reducible apply Only.bump
    | with_reducible apply State.fault_only
    | decide
    | split
    | intro _
    | (with_reducible apply Only.upd <;> try (first | exact Or.inl (by decide) | exact Or.inr rfl)))

theorem State.entryBroken_only (s : State) (w : Nat) : Only 0x10000000000000 s (State.entryBroken s w) := by
  unfold State.entryBroken
  dsimp only
  split
  · constructor
    case wf =>
      intro h
      simp only [State.wf, State.regsWf, Memory.wf, Bool.and_eq_true] at h ⊢
      exact ⟨h.1, storeBytes_wf 0 _ _ _ h.2.1, h.2.2⟩
    case reg => exact fun _ _ => rfl
    case hbm => exact Or.inl (by decide)
    all_goals first | exact Or.inr rfl | rfl
  · exact Only.refl _ s

theorem State.entryLost_only (s : State) (w : Nat) :
    Only 0x8000000800000 s (State.entryLost s w) := by
  unfold State.entryLost
  dsimp only
  repeat' (first
    | with_reducible exact Only.refl _ _
    | with_reducible apply Only.bump
    | with_reducible apply Only.app (hg := State.onFlt_only ..)
    | decide
    | split
    | (with_reducible apply Only.upd <;> try (first | exact Or.inl (by decide) | exact Or.inr rfl)))

theorem State.uncorAct_only (s : State) (w : Nat) :
    Only 0xdb1bb00080aaa0 s (State.uncorAct s w) := by
  unfold State.uncorAct
  dsimp only
  repeat' (first
    | with_reducible exact Only.refl _ _
    | with_reducible apply Only.app (hg := State.recordLost_only ..)
    | with_reducible apply Only.app (hg := State.setFrame_only ..)
    | with_reducible apply Only.app (hg := State.capture_only ..)
    | with_reducible apply Only.app (hg := State.entryBroken_only ..)
    | with_reducible apply Only.app (hg := State.entryLost_only ..)
    | with_reducible apply Only.app (hg := State.clusterFault_only ..)
    | with_reducible apply Only.app (hg := State.wordRight_only ..)
    | with_reducible apply Only.app (hg := State.hbmStop_only ..)
    | decide
    | split
    | (with_reducible apply Only.upd <;> try (first | exact Or.inl (by decide) | exact Or.inr rfl)))

theorem State.readWrong_only (s : State) (w : Nat) (scrub : Bool) :
    Only 0xdb1bb00080aaa0 s (State.readWrong s w scrub) := by
  unfold State.readWrong
  dsimp only
  repeat' (first
    | with_reducible exact Only.refl _ _
    | with_reducible apply Only.bump
    | with_reducible apply Only.flag
    | with_reducible apply Only.app (hg := State.hbmReport_only ..)
    | with_reducible apply Only.app (hg := State.rowError_only ..)
    | with_reducible apply Only.app (hg := State.wordRight_only ..)
    | with_reducible apply Only.app (hg := State.onFlt_only ..)
    | with_reducible apply Only.app (hg := State.rowNeeds_only ..)
    | with_reducible apply Only.app (hg := State.uncorAct_only ..)
    | with_reducible apply Only.app (hg := State.hbmStop_only ..)
    | with_reducible apply Only.when
    | decide
    | (rw [blk_FLT_HBMCOR_CNT]; decide)
    | (rw [blk_FLT_HBMUNC_CNT]; decide)
    | split
    | intro _
    | (with_reducible apply Only.upd <;> try (first | exact Or.inl (by decide) | exact Or.inr rfl)))

theorem State.readWords_only (s : State) (ws : List Nat) (scrub : Bool) :
    Only 0xdb1bb00080aaa0 s (State.readWords s ws scrub).1 := by
  unfold State.readWords
  dsimp only
  repeat' (first
    | with_reducible exact Only.refl _ _
    | with_reducible apply Only.app (hg := State.readWrong_only ..)
    | with_reducible apply Only.foldl
    | decide
    | split
    | intro _)

theorem State.readSpan_only (s : State) (a : Nat) (n : Nat) :
    Only 0xdb1bb00080aaa0 s (State.readSpan s a n).1 := by
  unfold State.readSpan
  dsimp only
  repeat' (first
    | with_reducible exact Only.refl _ _
    | with_reducible apply Only.app (hg := State.readWrong_only ..)
    | with_reducible apply Only.foldl
    | decide
    | intro _)

end Sys2Proof.Machine
end

