-- ==== Sys2Proof/Laws/OnlyHostOps.lean ====
section
/-!
SUPPORT. What each operation of Machine/HostOps.lean may change: its register blocks and parts of the state, as the mask of `Only`.
-/
namespace Sys2Proof.Machine

set_option linter.unusedTactic false
set_option linter.unreachableTactic false

theorem State.onHif_only (s : State) (f : HifState → HifState) :
    Only 0x1000000000000 s (State.onHif s f) := by
  unfold State.onHif
  repeat' (first
    | with_reducible exact Only.refl _ _
    | decide
    | (with_reducible apply Only.upd <;> try (first | exact Or.inl (by decide) | exact Or.inr rfl)))

theorem State.hostWrite_only (s : State) (addr : Nat) (bytes : List Byte) :
    Only 0x41000000080000 s (State.hostWrite s addr bytes) := by
  unfold State.hostWrite
  dsimp only
  repeat' (first
    | with_reducible exact Only.refl _ _
    | with_reducible apply Only.bump
    | with_reducible apply Only.app (hg := State.onHif_only ..)
    | with_reducible apply Only.app (hg := State.emit_only ..)
    | with_reducible apply Only.foldl
    | decide
    | intro _
    | (with_reducible apply Only.upd <;> try (first | exact Or.inl (by decide) | exact Or.inr rfl)))

theorem State.dbBad_only (s : State) :
    Only 0x8000000840000 s (State.dbBad s) := by
  unfold State.dbBad
  repeat' (first
    | with_reducible exact Only.refl _ _
    | with_reducible apply Only.bump
    | with_reducible apply State.fault_only
    | decide
    | intro _)

theorem State.setCmdRing_only (s : State) (r : Nat) (f : CmdRing → CmdRing) :
    Only 0x1000000000000 s (State.setCmdRing s r f) := by
  unfold State.setCmdRing
  repeat' (first
    | with_reducible exact Only.refl _ _
    | with_reducible apply Only.app (hg := State.onHif_only ..)
    | decide
    | (with_reducible apply Only.upd <;> try (first | exact Or.inl (by decide) | exact Or.inr rfl)))

theorem State.showRing_only (s : State) (r : Nat) :
    Only 0x40000 s (State.showRing s r) := by
  unfold State.showRing
  repeat' (first
    | with_reducible exact Only.refl _ _
    | with_reducible apply Only.wr
    | decide
    | (rw [blk_HIF_CRSTAT_BUSY]; decide)
    | (rw [blk_HIF_CRSTAT_OPCODE]; decide)
    | split
    | (with_reducible apply Only.upd <;> try (first | exact Or.inl (by decide) | exact Or.inr rfl)))

theorem State.writeCpl_only (s : State) (r : Nat) (cid : Nat) (status : Nat) (result : Nat) (replay : Bool) :
    Only 0x490000028c0000 s (State.writeCpl s r cid status result replay) := by
  unfold State.writeCpl
  dsimp only
  repeat' (first
    | with_reducible exact Only.refl _ _
    | with_reducible apply Only.app (hg := State.hostWrite_only ..)
    | with_reducible apply Only.app (hg := State.setCmdRing_only ..)
    | with_reducible apply State.fault_only
    | with_reducible apply Only.app (hg := State.msix_only ..)
    | with_reducible apply Only.when
    | decide
    | split
    | intro _
    | (with_reducible apply Only.upd <;> try (first | exact Or.inl (by decide) | exact Or.inr rfl)))

theorem State.popCmd_only (s : State) (r : Nat) :
    Only 0x1000000040000 s (State.popCmd s r) := by
  unfold State.popCmd
  repeat' (first
    | with_reducible exact Only.refl _ _
    | with_reducible apply Only.app (hg := State.setCmdRing_only ..)
    | with_reducible apply Only.app (hg := State.showRing_only ..)
    | decide
    | (with_reducible apply Only.upd <;> try (first | exact Or.inl (by decide) | exact Or.inr rfl)))

theorem State.execPoint_only (s : State) (r : Nat) (cid : Nat) (status : Nat) (result : Nat) :
    Only 0x490000028c0000 s (State.execPoint s r cid status result) := by
  unfold State.execPoint
  dsimp only
  repeat' (first
    | with_reducible exact Only.refl _ _
    | with_reducible apply Only.wr
    | with_reducible apply Only.bump
    | with_reducible apply Only.app (hg := State.setCmdRing_only ..)
    | with_reducible apply Only.app (hg := State.writeCpl_only ..)
    | with_reducible apply Only.app (hg := State.popCmd_only ..)
    | decide
    | (rw [blk_HIF_CRLASTHI_CID]; decide)
    | (rw [blk_HIF_CRLASTLO_CID]; decide)
    | (with_reducible apply Only.upd <;> try (first | exact Or.inl (by decide) | exact Or.inr rfl)))

theorem State.frontTrivial_only (s : State) (r : Nat) (e : BitVec 512) (t : State) (ht : s.frontTrivial r e = some t) :
    Only 0x490000028c0000 s t := by
  unfold State.frontTrivial at ht
  dsimp only at ht
  have hw : ∀ (u : State) a b c d, Only 0x490000028c0000 s u → Only 0x490000028c0000 s ((u.writeCpl r a b c d).popCmd r) := fun u a b c d h =>
    (h.app (State.writeCpl_only ..) (by decide)).app (State.popCmd_only ..) (by decide)
  split at ht
  · cases ht; exact hw _ _ _ _ _ (Only.refl _ s)
  · split at ht
    · cases ht; exact hw _ _ _ _ _ ((Only.refl _ s).bump (by decide))
    · split at ht
      · cases ht; exact hw _ _ _ _ _ (Only.refl _ s)
      · split at ht
        · cases ht; exact (Only.refl _ s).app (State.execPoint_only ..) (by decide)
        · cases ht

theorem State.pumpRing_only (s : State) (r n : Nat) : Only 0x490000028c0000 s (State.pumpRing s r n) := by
  induction n generalizing s with
  | zero => exact Only.refl _ s
  | succ n ih =>
    unfold State.pumpRing
    split
    · exact Only.refl _ s
    · split
      · next t ht => exact ((Only.refl _ s).app (State.frontTrivial_only s r _ t ht) (by decide)).trans (ih t)
      · exact Only.refl _ s

theorem State.complete_only (s : State) (r : Nat) (e : BitVec 512) (status : Nat) (result : Nat) :
    Only 0x490000028c0000 s (State.complete s r e status result) := by
  unfold State.complete
  dsimp only
  repeat' (first
    | with_reducible exact Only.refl _ _
    | with_reducible apply Only.app (hg := State.execPoint_only ..)
    | with_reducible apply Only.app (hg := State.pumpRing_only ..)
    | decide)

theorem State.completeHeld_only (s : State) (r : Nat) (status : Nat) (result : Nat) :
    Only 0x490000028c0000 s (State.completeHeld s r status result) := by
  unfold State.completeHeld
  repeat' (first
    | with_reducible exact Only.refl _ _
    | with_reducible apply Only.app (hg := State.complete_only ..)
    | decide
    | split
    | (with_reducible apply Only.upd <;> try (first | exact Or.inl (by decide) | exact Or.inr rfl)))

theorem State.command_only {m : Nat} {s u : State} {r op used : Nat} {param : Bool} {eff : BitVec 512 → State × Nat × Nat}
    (h : Only m s u) (heff : ∀ e, Only m s (eff e).1) (hm : 0x490000028c0000 ||| m = m) : Only m s (u.command r op used param eff) := by
  unfold State.command
  split
  · exact h
  · split
    · exact (heff _).app (State.complete_only ..) (by rw [← hm, ← Nat.lor_assoc]; congr 1)
    · exact h.app (State.complete_only ..) (by rw [← hm, ← Nat.lor_assoc]; congr 1)

theorem State.fetchCmds_only (s : State) (r n : Nat) (es : List (BitVec 512)) : Only 0x1000000040000 s (State.fetchCmds s r n es) := by
  induction n generalizing s es with
  | zero => exact Only.refl _ s
  | succ n ih =>
    unfold State.fetchCmds
    dsimp only
    split
    · split
      · exact (((Only.refl _ s).wr (by rw [blk_HIF_CRSTAT_HEAD]; decide)).app (State.setCmdRing_only ..) (by decide)).trans (ih _ _)
      · exact (Only.refl _ s).bump (by decide)
    · exact (Only.refl _ s).bump (by decide)

theorem State.ringFetch_only (s : State) (r : Nat) (n : Nat) (entries : List (BitVec 512)) :
    Only 0x490000028c0000 s (State.ringFetch s r n entries) := by
  unfold State.ringFetch
  dsimp only
  repeat' (first
    | with_reducible exact Only.refl _ _
    | with_reducible apply Only.app (hg := State.setCmdRing_only ..)
    | with_reducible apply Only.app (hg := State.fetchCmds_only ..)
    | with_reducible apply Only.app (hg := State.pumpRing_only ..)
    | with_reducible apply Only.app (hg := State.showRing_only ..)
    | decide
    | split
    | (with_reducible apply Only.upd <;> try (first | exact Or.inl (by decide) | exact Or.inr rfl)))

theorem State.ringEnable_only (s : State) (r : Nat) :
    Only 0x5008000040000 s (State.ringEnable s r) := by
  unfold State.ringEnable
  dsimp only
  repeat' (first
    | with_reducible exact Only.refl _ _
    | with_reducible apply Only.wr
    | with_reducible apply Only.app (hg := State.setCmdRing_only ..)
    | with_reducible apply Only.app (hg := State.onHif_only ..)
    | with_reducible apply Only.app (hg := State.showRing_only ..)
    | decide
    | (rw [blk_HIF_CRSTAT_HEAD]; decide)
    | split
    | (with_reducible apply Only.upd <;> try (first | exact Or.inl (by decide) | exact Or.inr rfl)))

end Sys2Proof.Machine
end

