-- ==== Sys2Proof/Laws/OnlyQueueOps.lean ====
section
/-!
SUPPORT. What each operation of Machine/QueueOps.lean may change: its register blocks and parts of the state, as the mask of `Only`.
-/
namespace Sys2Proof.Machine

set_option linter.unusedTactic false
set_option linter.unreachableTactic false

theorem State.putQueue_only (s : State) (q : Nat) (x : SubQueue) :
    Only 0x1000000000000 s (State.putQueue s q x) := by
  unfold State.putQueue
  repeat' (first
    | with_reducible exact Only.refl _ _
    | with_reducible apply Only.app (hg := State.onHif_only ..)
    | decide
    | (with_reducible apply Only.upd <;> try (first | exact Or.inl (by decide) | exact Or.inr rfl)))

theorem State.dropQueue_only (s : State) (q : Nat) :
    Only 0x1000000040000 s (State.dropQueue s q) := by
  unfold State.dropQueue
  repeat' (first
    | with_reducible exact Only.refl _ _
    | with_reducible apply Only.wr
    | with_reducible apply Only.app (hg := State.onHif_only ..)
    | decide
    | (rw [blk_HIF_QSTATE_STATE]; decide)
    | (with_reducible apply Only.upd <;> try (first | exact Or.inl (by decide) | exact Or.inr rfl)))

theorem State.queueMsg_only (s : State) (q : Nat) (x : SubQueue) :
    Only 0x41000002000000 s (State.queueMsg s q x) := by
  unfold State.queueMsg
  repeat' (first
    | with_reducible exact Only.refl _ _
    | with_reducible apply Only.app (hg := State.putQueue_only ..)
    | with_reducible apply Only.app (hg := State.msix_only ..)
    | with_reducible apply Only.when
    | decide
    | intro _
    | (with_reducible apply Only.upd <;> try (first | exact Or.inl (by decide) | exact Or.inr rfl)))

theorem State.queueCpl_only (s : State) (q : Nat) (x : SubQueue) (buf : Nat) (flags : BitVec 16) (offset : Nat) (count : Nat) (first : Nat) :
    Only 0x41000002080000 s (State.queueCpl s q x buf flags offset count first) := by
  unfold State.queueCpl
  dsimp only
  repeat' (first
    | with_reducible exact Only.refl _ _
    | with_reducible apply Only.app (hg := State.hostWrite_only ..)
    | with_reducible apply Only.app (hg := State.putQueue_only ..)
    | with_reducible apply Only.app (hg := State.queueMsg_only ..)
    | decide
    | split
    | (with_reducible apply Only.upd <;> try (first | exact Or.inl (by decide) | exact Or.inr rfl)))

theorem State.headIn_only (s : State) (q : Nat) (x : SubQueue) (word : Nat) :
    Only 0x9000000840000 s (State.headIn s q x word) := by
  unfold State.headIn
  dsimp only
  repeat' (first
    | with_reducible exact Only.refl _ _
    | with_reducible apply Only.app (hg := State.putQueue_only ..)
    | with_reducible apply Only.app (hg := State.dbBad_only ..)
    | decide
    | split
    | (with_reducible apply Only.upd <;> try (first | exact Or.inl (by decide) | exact Or.inr rfl)))

theorem State.pumpNotes_only (s : State) (q n : Nat) : Only 0x490000028c0000 s (State.pumpNotes s q n) := by
  induction n generalizing s with
  | zero => exact Only.refl _ s
  | succ n ih =>
    unfold State.pumpNotes
    split
    · exact Only.refl _ s
    · split
      · split
        · exact ((Only.refl _ s).app (State.dropQueue_only ..) (by decide)).app (State.completeHeld_only ..) (by decide)
        · exact Only.refl _ s
      · split
        · exact ((Only.refl _ s).app (State.queueCpl_only ..) (by decide)).trans (ih _)
        · exact Only.refl _ s

theorem State.settleQueue_only (s : State) (q : Nat) :
    Only 0x490000028c0000 s (State.settleQueue s q) := by
  unfold State.settleQueue
  repeat' (first
    | with_reducible exact Only.refl _ _
    | with_reducible apply Only.app (hg := State.pumpNotes_only ..)
    | decide)

theorem State.examine_only (s : State) (q : Nat) (x : SubQueue) (g : Group) (lim n : Nat) :
    Only 0xdb1bb00080aaa0 s (State.examine s q x g lim n).1 := by
  induction n generalizing s x g with
  | zero => exact Only.refl _ s
  | succ n ih =>
    unfold State.examine
    split
    · exact Only.refl _ s
    · have h1 : ∀ w, Only 0xdb1bb00080aaa0 s (s.readWords w false).1 := fun w =>
        (Only.refl _ s).app (State.readWords_only ..) (by decide)
      dsimp only
      split
      · exact (h1 _).trans (ih _ _ _)
      · split
        · exact (h1 _).trans (ih _ _ _)
        · exact (h1 _).trans (ih _ _ _)

theorem State.writeGroup_only {m : Nat} {s : State} {q : Nat} {x : SubQueue} {b : HostBuf} {r : State × SubQueue × Group}
    (h : Only m s r.1) (hm : 0x41000002080000 ||| m = m) : Only m s (State.writeGroup q x b r) := by
  have hs : ∀ g, g ||| 0x41000002080000 = 0x41000002080000 → g ||| m = m := fun g hg => by rw [← hm, ← Nat.lor_assoc, hg]
  unfold State.writeGroup
  split
  · exact h.app (State.putQueue_only ..) (hs _ (by decide))
  · exact (h.app (State.hostWrite_only ..) (hs _ (by decide))).app (State.queueCpl_only ..) (hs _ (by decide))

theorem State.serveGroup_only (s : State) (q : Nat) (x : SubQueue) (b : HostBuf) : Only 0xdb1bb00288aaa0 s (State.serveGroup s q x b) := by
  unfold State.serveGroup
  exact State.writeGroup_only ((Only.refl _ s).app (State.examine_only ..) (by decide)) (by decide)

theorem State.serveQueue_only (s : State) (q : Nat) (x : SubQueue) :
    Only 0xdb1bb0028caaa0 s (State.serveQueue s q x) := by
  unfold State.serveQueue
  repeat' (first
    | with_reducible exact Only.refl _ _
    | with_reducible apply Only.app (hg := State.settleQueue_only ..)
    | with_reducible apply Only.app (hg := State.queueCpl_only ..)
    | with_reducible apply Only.app (hg := State.serveGroup_only ..)
    | decide
    | split
    | (with_reducible apply Only.upd <;> try (first | exact Or.inl (by decide) | exact Or.inr rfl)))

end Sys2Proof.Machine
end

