-- ==== Sys2Proof/Laws/OnlyTenonOps.lean ====
section
/-!
SUPPORT. What each operation of Machine/TenonOps.lean may change: its register blocks and parts of the state, as the mask of `Only`.
-/
namespace Sys2Proof.Machine

set_option linter.unusedTactic false
set_option linter.unreachableTactic false

theorem State.onTnn_only (s : State) (f : TnnState → TnnState) :
    Only 0x800000000 s (State.onTnn s f) := by
  unfold State.onTnn
  repeat' (first
    | with_reducible exact Only.refl _ _
    | decide
    | (with_reducible apply Only.upd <;> try (first | exact Or.inl (by decide) | exact Or.inr rfl)))

theorem State.fw_only {m : Nat} {s u : State} {f : Fld} {v : Word} (h : Only m s u)
    (hb : m.testBit (blk f.key) = true) (_ : 0 ||| m = m) : Only m s (u.fw f v) := h.wr hb

theorem State.scanEval_only (s : State) :
    Only 0xc2113000003820 s (State.scanEval s) := by
  unfold State.scanEval
  dsimp only
  repeat' (first
    | with_reducible exact Only.refl _ _
    | with_reducible apply Only.wrB
    | with_reducible apply Only.app (hg := State.trsEval_only ..)
    | decide
    | split
    | (with_reducible apply Only.upd <;> try (first | exact Or.inl (by decide) | exact Or.inr rfl)))

theorem State.unlock_only (s : State) :
    Only 0xca113800803820 s (State.unlock s) := by
  unfold State.unlock
  dsimp only
  repeat' (first
    | with_reducible exact Only.refl _ _
    | with_reducible apply Only.wr
    | with_reducible apply Only.app (hg := State.onTnn_only ..)
    | with_reducible apply State.fault_only
    | with_reducible apply Only.app (hg := State.scanEval_only ..)
    | decide
    | split
    | intro _
    | (with_reducible apply Only.upd <;> try (first | exact Or.inl (by decide) | exact Or.inr rfl)))

theorem State.endInject_only (s : State) (tilt : Bool) :
    Only 0xc2113800003820 s (State.endInject s tilt) := by
  unfold State.endInject
  repeat' (first
    | with_reducible exact Only.refl _ _
    | with_reducible apply Only.wr
    | with_reducible apply Only.flag
    | with_reducible apply Only.app (hg := State.onTnn_only ..)
    | with_reducible apply Only.app (hg := State.scanEval_only ..)
    | decide
    | split
    | (with_reducible apply Only.upd <;> try (first | exact Or.inl (by decide) | exact Or.inr rfl)))

theorem State.injSample_only (s : State) (tilt : Bool) :
    Only 0xc2113800003820 s (State.injSample s tilt).1 := by
  unfold State.injSample
  dsimp only
  repeat' (first
    | with_reducible exact Only.refl _ _
    | with_reducible apply Only.wr
    | with_reducible apply Only.app (hg := State.endInject_only ..)
    | with_reducible apply Only.app (hg := State.onTnn_only ..)
    | with_reducible apply Only.app (hg := State.scanEval_only ..)
    | decide
    | split
    | (with_reducible apply Only.upd <;> try (first | exact Or.inl (by decide) | exact Or.inr rfl)))

theorem State.capSample_only (s : State) (tilt : Bool) (r : Word) (m : Word) (e : Word) (u : Word) :
    Only 0x18000800c01000 s (State.capSample s tilt r m e u) := by
  unfold State.capSample
  dsimp only
  repeat' (first
    | with_reducible exact Only.refl _ _
    | with_reducible apply Only.wr
    | with_reducible apply Only.app (hg := State.onTnn_only ..)
    | with_reducible apply Only.app (hg := State.hbmStore_only ..)
    | with_reducible apply Only.app (hg := State.girtDenyHbm_only ..)
    | decide
    | split
    | (with_reducible apply Only.upd <;> try (first | exact Or.inl (by decide) | exact Or.inr rfl)))

theorem State.sendTorque_only (s : State) (typ : Nat) (demand : BitVec 16) :
    Only 0x40000800000000 s (State.sendTorque s typ demand) := by
  unfold State.sendTorque
  dsimp only
  repeat' (first
    | with_reducible exact Only.refl _ _
    | with_reducible apply Only.app (hg := State.onTnn_only ..)
    | with_reducible apply Only.app (hg := State.emit_only ..)
    | decide
    | split
    | (with_reducible apply Only.upd <;> try (first | exact Or.inl (by decide) | exact Or.inr rfl)))

end Sys2Proof.Machine
end

