-- ==== Sys2Proof/Laws/OnlyTenon.lean ====
section
/-!
SUPPORT. What each operation of Machine/Tenon.lean may change: its register blocks and parts of the state, as the mask of `Only`.
-/
namespace Sys2Proof.Machine

set_option linter.unusedTactic false
set_option linter.unreachableTactic false

theorem State.encError_only {m : Nat} {s u : State} {f : Fld} (h : Only m s u) (hb : m.testBit (blk f.key) = true)
    (hm : 0xca113800803820 ||| m = m) : Only m s (u.encError f) := by
  have hs : ∀ g, g ||| 0xca113800803820 = 0xca113800803820 → g ||| m = m := fun g hg => by rw [← hm, ← Nat.lor_assoc, hg]
  exact (((State.fault_only h hb (hs _ (by decide))).app (State.onTnn_only ..) (hs _ (by decide))).app (State.unlock_only ..)
    (hs _ (by decide))).app (State.scanEval_only ..) (hs _ (by decide))

theorem execEncoderEdge_only (back : Bool) (s : State) :
    OnlyO 0xca113803803820 s (execEncoderEdge back s) := by
  unfold execEncoderEdge
  dsimp only
  repeat' (first
    | with_reducible apply OnlyO.done
    | with_reducible exact Only.refl _ _
    | with_reducible apply Only.count
    | with_reducible apply Only.app (hg := State.onTnn_only ..)
    | with_reducible apply Only.app (hg := State.onTrs_only ..)
    | with_reducible apply State.encError_only
    | decide
    | split
    | intro _
    | (with_reducible apply Only.upd <;> try (first | exact Or.inl (by decide) | exact Or.inr rfl)))

theorem execIndexEdge_only (s : State) :
    OnlyO 0xca113803803820 s (execIndexEdge s) := by
  unfold execIndexEdge
  dsimp only
  repeat' (first
    | with_reducible apply OnlyO.done
    | with_reducible exact Only.refl _ _
    | with_reducible apply Only.count
    | with_reducible apply Only.app (hg := State.onTnn_only ..)
    | with_reducible apply Only.app (hg := State.onTrs_only ..)
    | with_reducible apply State.encError_only
    | decide
    | split
    | intro _
    | (with_reducible apply Only.upd <;> try (first | exact Or.inl (by decide) | exact Or.inr rfl)))

theorem execIndexMissing_only (s : State) :
    OnlyO 0xca113803803820 s (execIndexMissing s) := by
  unfold execIndexMissing
  repeat' (first
    | with_reducible apply OnlyO.done
    | with_reducible exact Only.refl _ _
    | with_reducible apply Only.count
    | with_reducible apply Only.app (hg := State.onTnn_only ..)
    | with_reducible apply State.encError_only
    | decide
    | split
    | intro _
    | (with_reducible apply Only.upd <;> try (first | exact Or.inl (by decide) | exact Or.inr rfl)))

theorem State.spSwapNow_only (s : State) :
    Only 0xc2113800003820 s (State.spSwapNow s) := by
  unfold State.spSwapNow
  dsimp only
  repeat' (first
    | with_reducible exact Only.refl _ _
    | with_reducible apply Only.wr
    | with_reducible apply Only.flag
    | with_reducible apply Only.app (hg := State.onTnn_only ..)
    | with_reducible apply Only.app (hg := State.endInject_only ..)
    | decide
    | split
    | (with_reducible apply Only.upd <;> try (first | exact Or.inl (by decide) | exact Or.inr rfl)))

theorem State.spOut_only (s : State) (x : LoopIn) (u : Word) (sat : Bool) :
    Only 0x58000800c01000 s (State.spOut s x u sat) := by
  unfold State.spOut
  dsimp only
  repeat' (first
    | with_reducible exact Only.refl _ _
    | with_reducible apply Only.wrB
    | with_reducible apply State.fw_only
    | with_reducible apply Only.app (hg := State.capSample_only ..)
    | with_reducible apply Only.app (hg := State.sendTorque_only ..)
    | decide
    | intro _)

theorem State.phaseCounts_only (s : State) (e : Word) :
    Only 0xc2113800003820 s (State.phaseCounts s e) := by
  unfold State.phaseCounts
  dsimp only
  repeat' (first
    | with_reducible exact Only.refl _ _
    | with_reducible apply Only.wr
    | with_reducible apply Only.app (hg := State.onTnn_only ..)
    | with_reducible apply Only.app (hg := State.scanEval_only ..)
    | decide
    | split
    | (with_reducible apply Only.upd <;> try (first | exact Or.inl (by decide) | exact Or.inr rfl)))

theorem State.speedCounts_only (s : State) (setpoint : Word) :
    Only 0xc2113800003820 s (State.speedCounts s setpoint) := by
  unfold State.speedCounts
  repeat' (first
    | with_reducible exact Only.refl _ _
    | with_reducible apply Only.app (hg := State.onTnn_only ..)
    | with_reducible apply Only.app (hg := State.scanEval_only ..)
    | decide
    | (with_reducible apply Only.upd <;> try (first | exact Or.inl (by decide) | exact Or.inr rfl)))

theorem State.spindleLoop_only (s0 : State) :
    Only 0xda113800c03820 s0 (State.spindleLoop s0) := by
  unfold State.spindleLoop
  dsimp only
  repeat' (first
    | with_reducible exact Only.refl _ _
    | with_reducible apply Only.wrB
    | with_reducible apply Only.app (hg := State.injSample_only ..)
    | (with_reducible refine Only.ofFst (by assumption) ?_; with_reducible apply Only.app (hg := State.injSample_only ..))
    | with_reducible apply Only.app (hg := State.onTnn_only ..)
    | with_reducible apply Only.app (hg := State.spOut_only ..)
    | with_reducible apply Only.app (hg := State.phaseCounts_only ..)
    | with_reducible apply Only.app (hg := State.speedCounts_only ..)
    | decide
    | split
    | (with_reducible apply Only.upd <;> try (first | exact Or.inl (by decide) | exact Or.inr rfl)))

theorem State.spindleTest_only (s0 : State) :
    Only 0xda113800c03820 s0 (State.spindleTest s0) := by
  unfold State.spindleTest
  dsimp only
  repeat' (first
    | with_reducible exact Only.refl _ _
    | with_reducible apply Only.wr
    | with_reducible apply Only.app (hg := State.injSample_only ..)
    | (with_reducible refine Only.ofFst (by assumption) ?_; with_reducible apply Only.app (hg := State.injSample_only ..))
    | with_reducible apply State.fw_only
    | with_reducible apply Only.app (hg := State.capSample_only ..)
    | with_reducible apply Only.app (hg := State.draw_only ..)
    | with_reducible apply Only.app (hg := State.onTnn_only ..)
    | with_reducible apply Only.app (hg := State.sendTorque_only ..)
    | decide
    | split
    | intro _
    | (with_reducible apply Only.upd <;> try (first | exact Or.inl (by decide) | exact Or.inr rfl)))

theorem execSpindleSample_only (s : State) :
    OnlyO 0xda113803c03820 s (execSpindleSample s) := by
  unfold execSpindleSample
  dsimp only
  repeat' (first
    | with_reducible apply OnlyO.done
    | with_reducible exact Only.refl _ _
    | with_reducible apply Only.wr
    | with_reducible apply Only.app (hg := State.spSwapNow_only ..)
    | with_reducible apply State.fw_only
    | with_reducible apply Only.app (hg := State.capSample_only ..)
    | with_reducible apply Only.app (hg := State.draw_only ..)
    | with_reducible apply Only.app (hg := State.onTnn_only ..)
    | with_reducible apply Only.app (hg := State.sendTorque_only ..)
    | with_reducible apply Only.app (hg := State.spindleTest_only ..)
    | with_reducible apply Only.app (hg := State.spindleLoop_only ..)
    | decide
    | split
    | intro _
    | (with_reducible apply Only.upd <;> try (first | exact Or.inl (by decide) | exact Or.inr rfl)))

theorem execSpeedCapture_only (s : State) :
    OnlyO 0x40000803000000 s (execSpeedCapture s) := by
  unfold execSpeedCapture
  repeat' (first
    | with_reducible apply OnlyO.done
    | with_reducible exact Only.refl _ _
    | with_reducible apply Only.app (hg := State.onTnn_only ..)
    | decide
    | split
    | (with_reducible apply Only.upd <;> try (first | exact Or.inl (by decide) | exact Or.inr rfl)))

theorem execSplockSet_only (s : State) :
    OnlyO 0xc2113803003820 s (execSplockSet s) := by
  unfold execSplockSet
  repeat' (first
    | with_reducible apply OnlyO.done
    | with_reducible exact Only.refl _ _
    | with_reducible apply Only.wr
    | with_reducible apply Only.flag
    | with_reducible apply Only.app (hg := State.onTnn_only ..)
    | with_reducible apply Only.app (hg := State.scanEval_only ..)
    | decide
    | split
    | (with_reducible apply Only.upd <;> try (first | exact Or.inl (by decide) | exact Or.inr rfl)))

theorem execBlendEnd_only (s : State) :
    OnlyO 0x40000803001000 s (execBlendEnd s) := by
  unfold execBlendEnd
  repeat' (first
    | with_reducible apply OnlyO.done
    | with_reducible exact Only.refl _ _
    | with_reducible apply Only.wr
    | with_reducible apply Only.app (hg := State.onTnn_only ..)
    | decide
    | split
    | (with_reducible apply Only.upd <;> try (first | exact Or.inl (by decide) | exact Or.inr rfl)))

theorem execFollowingErrorTrip_only (tilt : Bool) (s : State) :
    OnlyO 0xca113803803820 s (execFollowingErrorTrip tilt s) := by
  unfold execFollowingErrorTrip
  dsimp only
  repeat' (first
    | with_reducible apply OnlyO.done
    | with_reducible exact Only.refl _ _
    | with_reducible apply Only.wr
    | with_reducible apply State.fault_only
    | with_reducible apply Only.app (hg := State.onTnn_only ..)
    | with_reducible apply Only.app (hg := State.scanEval_only ..)
    | with_reducible apply Only.app (hg := State.unlock_only ..)
    | decide
    | split
    | intro _
    | (with_reducible apply Only.upd <;> try (first | exact Or.inl (by decide) | exact Or.inr rfl)))

theorem execSpinUpTimeout_only (s : State) :
    OnlyO 0x48000c03801001 s (execSpinUpTimeout s) := by
  unfold execSpinUpTimeout
  dsimp only
  repeat' (first
    | with_reducible apply OnlyO.done
    | with_reducible exact Only.refl _ _
    | with_reducible apply Only.app (hg := State.onTnn_only ..)
    | with_reducible apply State.fault_only
    | with_reducible apply Only.app (hg := State.stall_only ..)
    | decide
    | split
    | intro _
    | (with_reducible apply Only.upd <;> try (first | exact Or.inl (by decide) | exact Or.inr rfl)))

theorem execRetainedStateCopy_only (s : State) :
    OnlyO 0x40000803000000 s (execRetainedStateCopy s) := by
  unfold execRetainedStateCopy
  repeat' (first
    | with_reducible apply OnlyO.done
    | with_reducible exact Only.refl _ _
    | with_reducible apply Only.app (hg := State.onTnn_only ..)
    | decide
    | (with_reducible apply Only.upd <;> try (first | exact Or.inl (by decide) | exact Or.inr rfl)))

theorem State.publishDead_only (s : State) (j : Nat) :
    Only 0x1000000000 s (State.publishDead s j) := by
  unfold State.publishDead
  dsimp only
  repeat' (first
    | with_reducible exact Only.refl _ _
    | decide
    | split
    | (with_reducible apply Only.upd <;> try (first | exact Or.inl (by decide) | exact Or.inr rfl)))

theorem State.phaseCompare_only (s : State) :
    Only 0xca113000802820 s (State.phaseCompare s) := by
  unfold State.phaseCompare
  dsimp only
  repeat' (first
    | with_reducible exact Only.refl _ _
    | with_reducible apply Only.app (hg := State.onTrs_only ..)
    | with_reducible apply Only.app (hg := State.trussFault_only ..)
    | decide
    | split
    | (with_reducible apply Only.upd <;> try (first | exact Or.inl (by decide) | exact Or.inr rfl)))

theorem execScanStateSample_only (s : State) :
    OnlyO 0xca113803802820 s (execScanStateSample s) := by
  unfold execScanStateSample
  dsimp only
  repeat' (first
    | with_reducible apply OnlyO.done
    | with_reducible exact Only.refl _ _
    | with_reducible apply Only.app (hg := State.onTnn_only ..)
    | with_reducible apply Only.app (hg := State.publishDead_only ..)
    | with_reducible apply Only.app (hg := State.phaseCompare_only ..)
    | decide
    | split
    | (with_reducible apply Only.upd <;> try (first | exact Or.inl (by decide) | exact Or.inr rfl)))

theorem State.tlSwapNow_only (s : State) :
    Only 0xc2113800003820 s (State.tlSwapNow s) := by
  unfold State.tlSwapNow
  dsimp only
  repeat' (first
    | with_reducible exact Only.refl _ _
    | with_reducible apply Only.wr
    | with_reducible apply Only.flag
    | with_reducible apply Only.app (hg := State.onTnn_only ..)
    | with_reducible apply Only.app (hg := State.endInject_only ..)
    | decide
    | split
    | (with_reducible apply Only.upd <;> try (first | exact Or.inl (by decide) | exact Or.inr rfl)))

theorem State.setDac_only (s : State) (u : Word) :
    Only 0x40000800000000 s (State.setDac s u) := by
  unfold State.setDac
  dsimp only
  repeat' (first
    | with_reducible exact Only.refl _ _
    | with_reducible apply Only.app (hg := State.onTnn_only ..)
    | with_reducible apply Only.app (hg := State.emit_only ..)
    | decide
    | (with_reducible apply Only.upd <;> try (first | exact Or.inl (by decide) | exact Or.inr rfl)))

theorem State.tiltLoop_only (s0 : State) (m : Word) :
    Only 0xda113800c03820 s0 (State.tiltLoop s0 m) := by
  unfold State.tiltLoop
  dsimp only
  repeat' (first
    | with_reducible exact Only.refl _ _
    | with_reducible apply Only.wr
    | with_reducible apply Only.wrB
    | with_reducible apply Only.app (hg := State.injSample_only ..)
    | (with_reducible refine Only.ofFst (by assumption) ?_; with_reducible apply Only.app (hg := State.injSample_only ..))
    | with_reducible apply State.fw_only
    | with_reducible apply Only.app (hg := State.onTnn_only ..)
    | with_reducible apply Only.app (hg := State.scanEval_only ..)
    | with_reducible apply Only.app (hg := State.capSample_only ..)
    | with_reducible apply Only.app (hg := State.setDac_only ..)
    | decide
    | split
    | intro _
    | (with_reducible apply Only.upd <;> try (first | exact Or.inl (by decide) | exact Or.inr rfl)))

theorem State.tiltOpen_only (s0 : State) (m : Word) :
    Only 0xda113800c03820 s0 (State.tiltOpen s0 m) := by
  unfold State.tiltOpen
  dsimp only
  repeat' (first
    | with_reducible exact Only.refl _ _
    | with_reducible apply Only.wr
    | with_reducible apply Only.app (hg := State.injSample_only ..)
    | (with_reducible refine Only.ofFst (by assumption) ?_; with_reducible apply Only.app (hg := State.injSample_only ..))
    | with_reducible apply State.fw_only
    | with_reducible apply Only.app (hg := State.capSample_only ..)
    | with_reducible apply Only.app (hg := State.draw_only ..)
    | with_reducible apply Only.app (hg := State.setDac_only ..)
    | decide
    | split
    | intro _)

theorem State.tiltInvalid_only (s0 : State) :
    Only 0xda113800c03820 s0 (State.tiltInvalid s0) := by
  unfold State.tiltInvalid
  dsimp only
  repeat' (first
    | with_reducible exact Only.refl _ _
    | with_reducible apply Only.app (hg := State.injSample_only ..)
    | (with_reducible refine Only.ofFst (by assumption) ?_; with_reducible apply Only.app (hg := State.injSample_only ..))
    | with_reducible apply Only.app (hg := State.onTnn_only ..)
    | with_reducible apply Only.app (hg := State.scanEval_only ..)
    | with_reducible apply Only.app (hg := State.capSample_only ..)
    | with_reducible apply Only.app (hg := State.draw_only ..)
    | decide
    | split
    | (with_reducible apply Only.upd <;> try (first | exact Or.inl (by decide) | exact Or.inr rfl)))

theorem State.tiltResult_only (s : State) (v : Int) (ovr : Bool) (wb : Bool) :
    Only 0xda113800c13820 s (State.tiltResult s v ovr wb) := by
  unfold State.tiltResult
  dsimp only
  repeat' (first
    | with_reducible exact Only.refl _ _
    | with_reducible apply Only.wrB
    | with_reducible apply Only.wrS
    | with_reducible apply Only.app (hg := State.tiltInvalid_only ..)
    | with_reducible apply State.fw_only
    | with_reducible apply Only.app (hg := State.onTnn_only ..)
    | with_reducible apply Only.app (hg := State.tiltLoop_only ..)
    | with_reducible apply Only.app (hg := State.tiltOpen_only ..)
    | decide
    | split
    | intro _
    | (with_reducible apply Only.upd <;> try (first | exact Or.inl (by decide) | exact Or.inr rfl)))

theorem State.inject_only (s : State) (adc : Bool) :
    Only 0x40200000010000 s (State.inject s adc) := by
  unfold State.inject
  dsimp only
  repeat' (first
    | with_reducible exact Only.refl _ _
    | with_reducible apply Only.wr
    | with_reducible apply Only.bump
    | with_reducible apply Only.app (hg := State.switch_only ..)
    | with_reducible apply Only.when
    | decide
    | split
    | intro _
    | (with_reducible apply Only.upd <;> try (first | exact Or.inl (by decide) | exact Or.inr rfl)))

theorem State.injectEnd_only (s : State) :
    Only 0x40200000010000 s (State.injectEnd s) := by
  unfold State.injectEnd
  dsimp only
  repeat' (first
    | with_reducible exact Only.refl _ _
    | with_reducible apply Only.wr
    | with_reducible apply Only.app (hg := State.switch_only ..)
    | with_reducible apply Only.app (hg := State.calStart_only ..)
    | decide
    | (with_reducible apply Only.upd <;> try (first | exact Or.inl (by decide) | exact Or.inr rfl)))

theorem execTiltSample_only (s : State) :
    OnlyO 0xda313803c13820 s (execTiltSample s) := by
  unfold execTiltSample
  dsimp only
  repeat' (first
    | with_reducible apply OnlyO.done
    | with_reducible exact Only.refl _ _
    | with_reducible apply Only.app (hg := State.tlSwapNow_only ..)
    | with_reducible apply Only.app (hg := State.onTnn_only ..)
    | with_reducible apply Only.app (hg := State.tiltResult_only ..)
    | with_reducible apply Only.app (hg := State.inject_only ..)
    | decide
    | split
    | (with_reducible apply Only.upd <;> try (first | exact Or.inl (by decide) | exact Or.inr rfl)))

theorem execTiltSampleReady_only (codes : List (BitVec 18)) (wbPins : BitVec 24) (s : State) :
    OnlyO 0xda313803c13820 s (execTiltSampleReady codes wbPins s) := by
  unfold execTiltSampleReady
  dsimp only
  repeat' (first
    | with_reducible apply OnlyO.done
    | with_reducible exact Only.refl _ _
    | with_reducible apply Only.flag
    | with_reducible apply Only.app (hg := State.injectEnd_only ..)
    | with_reducible apply Only.app (hg := State.seenWb_only ..)
    | with_reducible apply Only.app (hg := State.tiltResult_only ..)
    | with_reducible apply Only.when
    | decide
    | split
    | intro _)

theorem execTlsens_only (s : State) :
    OnlyO 0x48000003801000 s (execTlsens s) := by
  unfold execTlsens
  repeat' (first
    | with_reducible apply OnlyO.done
    | with_reducible exact Only.refl _ _
    | with_reducible apply State.fault_only
    | decide
    | split
    | intro _)

theorem State.spCold_only (s : State) :
    Only 0x800000000 s (State.spCold s) := by
  unfold State.spCold
  repeat' (first
    | with_reducible exact Only.refl _ _
    | with_reducible apply Only.app (hg := State.onTnn_only ..)
    | decide
    | (with_reducible apply Only.upd <;> try (first | exact Or.inl (by decide) | exact Or.inr rfl)))

theorem State.setSpMode_only (s : State) (m : Nat) :
    Only 0xca113800803820 s (State.setSpMode s m) := by
  unfold State.setSpMode
  dsimp only
  repeat' (first
    | with_reducible exact Only.refl _ _
    | with_reducible apply Only.wr
    | with_reducible apply Only.app (hg := State.endInject_only ..)
    | with_reducible apply Only.app (hg := State.onTnn_only ..)
    | with_reducible apply Only.app (hg := State.unlock_only ..)
    | with_reducible apply Only.app (hg := State.spCold_only ..)
    | decide
    | split
    | (with_reducible apply Only.upd <;> try (first | exact Or.inl (by decide) | exact Or.inr rfl)))

theorem State.requestSp_only (s : State) (m : Nat) :
    Only 0xca113800803820 s (State.requestSp s m) := by
  unfold State.requestSp
  dsimp only
  repeat' (first
    | with_reducible exact Only.refl _ _
    | with_reducible apply State.refuse_only
    | with_reducible apply Only.app (hg := State.setSpMode_only ..)
    | decide
    | split
    | intro _)

theorem execSpindleModeRequest_only (m : BitVec 3) (s : State) :
    OnlyO 0xca113803803820 s (execSpindleModeRequest m s) := by
  unfold execSpindleModeRequest
  repeat' (first
    | with_reducible apply OnlyO.done
    | with_reducible exact Only.refl _ _
    | with_reducible apply Only.app (hg := State.requestSp_only ..)
    | decide)

theorem State.setTlMode_only (s : State) (m : Nat) :
    Only 0xc2113800003820 s (State.setTlMode s m) := by
  unfold State.setTlMode
  dsimp only
  repeat' (first
    | with_reducible exact Only.refl _ _
    | with_reducible apply Only.wr
    | with_reducible apply Only.app (hg := State.endInject_only ..)
    | with_reducible apply Only.app (hg := State.onTnn_only ..)
    | with_reducible apply State.fw_only
    | with_reducible apply Only.app (hg := State.setDac_only ..)
    | with_reducible apply Only.app (hg := State.scanEval_only ..)
    | decide
    | split
    | intro _
    | (with_reducible apply Only.upd <;> try (first | exact Or.inl (by decide) | exact Or.inr rfl)))

theorem State.requestTl_only (s : State) (m : Nat) :
    Only 0xca113800803820 s (State.requestTl s m) := by
  unfold State.requestTl
  repeat' (first
    | with_reducible exact Only.refl _ _
    | with_reducible apply State.refuse_only
    | with_reducible apply Only.app (hg := State.setTlMode_only ..)
    | decide
    | split
    | intro _)

theorem execTiltModeRequest_only (m : BitVec 3) (s : State) :
    OnlyO 0xca113803803820 s (execTiltModeRequest m s) := by
  unfold execTiltModeRequest
  repeat' (first
    | with_reducible apply OnlyO.done
    | with_reducible exact Only.refl _ _
    | with_reducible apply Only.app (hg := State.requestTl_only ..)
    | decide)

theorem execTnnSpcfgWrite_only (v : Word) (s : State) :
    OnlyO 0x48000003801001 s (execTnnSpcfgWrite v s) := by
  unfold execTnnSpcfgWrite
  dsimp only
  repeat' (first
    | with_reducible apply OnlyO.done
    | with_reducible exact Only.refl _ _
    | with_reducible apply Only.wr
    | with_reducible apply Only.app (hg := State.rsvdCheck_only ..)
    | with_reducible apply State.refuse_only
    | decide
    | split
    | intro _)

theorem execSpindleSwap_only (s : State) :
    OnlyO 0x48000803801000 s (execSpindleSwap s) := by
  unfold execSpindleSwap
  repeat' (first
    | with_reducible apply OnlyO.done
    | with_reducible exact Only.refl _ _
    | with_reducible apply Only.wr
    | with_reducible apply Only.app (hg := State.onTnn_only ..)
    | with_reducible apply State.refuse_only
    | decide
    | split
    | intro _
    | (with_reducible apply Only.upd <;> try (first | exact Or.inl (by decide) | exact Or.inr rfl)))

theorem execTiltSwap_only (s : State) :
    OnlyO 0x48000803801000 s (execTiltSwap s) := by
  unfold execTiltSwap
  repeat' (first
    | with_reducible apply OnlyO.done
    | with_reducible exact Only.refl _ _
    | with_reducible apply Only.wr
    | with_reducible apply Only.app (hg := State.onTnn_only ..)
    | with_reducible apply State.refuse_only
    | decide
    | split
    | intro _
    | (with_reducible apply Only.upd <;> try (first | exact Or.inl (by decide) | exact Or.inr rfl)))

theorem execInjectionStart_only (s : State) :
    OnlyO 0x48000803801000 s (execInjectionStart s) := by
  unfold execInjectionStart
  dsimp only
  repeat' (first
    | with_reducible apply OnlyO.done
    | with_reducible exact Only.refl _ _
    | with_reducible apply State.refuse_only
    | with_reducible apply Only.app (hg := State.onTnn_only ..)
    | decide
    | split
    | intro _
    | (with_reducible apply Only.upd <;> try (first | exact Or.inl (by decide) | exact Or.inr rfl)))

theorem execInjectionStop_only (s : State) :
    OnlyO 0x40000803000000 s (execInjectionStop s) := by
  unfold execInjectionStop
  repeat' (first
    | with_reducible apply OnlyO.done
    | with_reducible exact Only.refl _ _
    | with_reducible apply Only.app (hg := State.onTnn_only ..)
    | decide
    | (with_reducible apply Only.upd <;> try (first | exact Or.inl (by decide) | exact Or.inr rfl)))

theorem execInjectionEnd_only (s : State) :
    OnlyO 0xc2113803003820 s (execInjectionEnd s) := by
  unfold execInjectionEnd
  dsimp only
  repeat' (first
    | with_reducible apply OnlyO.done
    | with_reducible exact Only.refl _ _
    | with_reducible apply Only.app (hg := State.endInject_only ..)
    | decide
    | split
    | (with_reducible apply Only.upd <;> try (first | exact Or.inl (by decide) | exact Or.inr rfl)))

theorem execCaptureStart_only (s : State) :
    OnlyO 0x48000803801000 s (execCaptureStart s) := by
  unfold execCaptureStart
  dsimp only
  repeat' (first
    | with_reducible apply OnlyO.done
    | with_reducible exact Only.refl _ _
    | with_reducible apply Only.wr
    | with_reducible apply State.refuse_only
    | with_reducible apply Only.app (hg := State.onTnn_only ..)
    | decide
    | split
    | intro _
    | (with_reducible apply Only.upd <;> try (first | exact Or.inl (by decide) | exact Or.inr rfl)))

theorem execCapdone_only (s : State) :
    OnlyO 0x40000803001000 s (execCapdone s) := by
  unfold execCapdone
  repeat' (first
    | with_reducible apply OnlyO.done
    | with_reducible exact Only.refl _ _
    | with_reducible apply Only.wr
    | with_reducible apply Only.flag
    | with_reducible apply Only.app (hg := State.onTnn_only ..)
    | decide
    | split
    | (with_reducible apply Only.upd <;> try (first | exact Or.inl (by decide) | exact Or.inr rfl)))

theorem State.reengage_only (s : State) :
    Only 0xca113800803820 s (State.reengage s) := by
  unfold State.reengage
  dsimp only
  repeat' (first
    | with_reducible exact Only.refl _ _
    | with_reducible apply Only.wr
    | with_reducible apply State.fw_only
    | with_reducible apply Only.app (hg := State.onTnn_only ..)
    | with_reducible apply Only.app (hg := State.setSpMode_only ..)
    | with_reducible apply Only.app (hg := State.setTlMode_only ..)
    | decide
    | split
    | intro _
    | (with_reducible apply Only.upd <;> try (first | exact Or.inl (by decide) | exact Or.inr rfl)))

end Sys2Proof.Machine
end

