-- ==== Sys2Proof/Laws/OnlyEpochOps.lean ====
section
/-!
SUPPORT. What each operation of Machine/EpochOps.lean may change: its register blocks and parts of the state, as the mask of `Only`.
-/
namespace Sys2Proof.Machine

set_option linter.unusedTactic false
set_option linter.unreachableTactic false

theorem State.onPeg_only (s : State) (f : PegState → PegState) :
    Only 0x2000000000 s (State.onPeg s f) := by
  unfold State.onPeg
  repeat' (first
    | with_reducible exact Only.refl _ _
    | decide
    | (with_reducible apply Only.upd <;> try (first | exact Or.inl (by decide) | exact Or.inr rfl)))

theorem State.scanStart_only (s : State) :
    Only 0x8002000800020 s (State.scanStart s).1 := by
  unfold State.scanStart
  dsimp only
  repeat' (first
    | with_reducible exact Only.refl _ _
    | with_reducible apply Only.wr
    | with_reducible apply Only.app (hg := State.onPeg_only ..)
    | with_reducible apply State.refuse_only
    | decide
    | split
    | intro _
    | (with_reducible apply Only.upd <;> try (first | exact Or.inl (by decide) | exact Or.inr rfl)))

theorem State.scanStop_only (s : State) :
    Only 0x2400000020 s (State.scanStop s).1 := by
  unfold State.scanStop
  dsimp only
  repeat' (first
    | with_reducible exact Only.refl _ _
    | with_reducible apply Only.wr
    | with_reducible apply Only.app (hg := State.onPeg_only ..)
    | decide
    | split
    | (with_reducible apply Only.upd <;> try (first | exact Or.inl (by decide) | exact Or.inr rfl)))

theorem State.stageTable_only (s : State) (kind : Nat) (bytes : List Byte) :
    Only 0x19000000000000 s (State.stageTable s kind bytes).1 := by
  unfold State.stageTable
  dsimp only
  repeat' (first
    | with_reducible exact Only.refl _ _
    | with_reducible apply Only.app (hg := State.onHif_only ..)
    | with_reducible apply Only.app (hg := State.hbmStore_only ..)
    | decide
    | (with_reducible apply Only.upd <;> try (first | exact Or.inl (by decide) | exact Or.inr rfl)))

theorem State.stagingRefused_only (s : State) (code : Nat) (c : EpochCfg) :
    Only 0x8000000801820 s (State.stagingRefused s code c) := by
  unfold State.stagingRefused
  dsimp only
  repeat' (first
    | with_reducible exact Only.refl _ _
    | with_reducible apply Only.wr
    | with_reducible apply State.fault_only
    | with_reducible apply State.refuse_only
    | decide
    | split
    | intro _)

theorem State.sendEpoch_only (s : State) (e : Nat) (time : Nat) :
    Only 0xc2001000100000 s (State.sendEpoch s e time) := by
  unfold State.sendEpoch
  repeat' (first
    | with_reducible exact Only.refl _ _
    | with_reducible apply State.onRings_only
    | with_reducible apply Only.app (hg := State.stageOn_only ..)
    | decide
    | intro _)

theorem State.acceptEpoch_only (s : State) (e : Nat) (time : Nat) (c : EpochCfg) (copy : List (Bool × Nat)) :
    Only 0xc310b000100880 s (State.acceptEpoch s e time c copy) := by
  unfold State.acceptEpoch
  dsimp only
  repeat' (first
    | with_reducible exact Only.refl _ _
    | with_reducible apply Only.wr
    | with_reducible apply Only.app (hg := State.onPeg_only ..)
    | with_reducible apply Only.app (hg := State.onTrs_only ..)
    | with_reducible apply Only.app (hg := State.onHif_only ..)
    | with_reducible apply Only.app (hg := State.sendEpoch_only ..)
    | decide
    | split
    | (with_reducible apply Only.upd <;> try (first | exact Or.inl (by decide) | exact Or.inr rfl)))

theorem State.epochPoint_only (s : State) (e : Nat) (time : Nat) :
    Only 0xcb10b0009018a0 s (State.epochPoint s e time).1 := by
  unfold State.epochPoint
  dsimp only
  repeat' (first
    | with_reducible exact Only.refl _ _
    | with_reducible apply Only.app (hg := State.onHif_only ..)
    | with_reducible apply Only.app (hg := State.acceptEpoch_only ..)
    | with_reducible apply Only.app (hg := State.stagingRefused_only ..)
    | decide
    | split
    | (with_reducible apply Only.upd <;> try (first | exact Or.inl (by decide) | exact Or.inr rfl)))

theorem State.epochStarts_only (s : State) (e : Nat) (time : Nat) :
    Only 0x9052000800a80 s (State.epochStarts s e time) := by
  unfold State.epochStarts
  dsimp only
  repeat' (first
    | with_reducible exact Only.refl _ _
    | with_reducible apply Only.wr
    | with_reducible apply Only.app (hg := State.drain_only ..)
    | (with_reducible refine Only.ofFst (by assumption) ?_; with_reducible apply Only.app (hg := State.drain_only ..))
    | with_reducible apply Only.app (hg := State.onPeg_only ..)
    | with_reducible apply Only.app (hg := State.onHif_only ..)
    | with_reducible apply Only.app (hg := State.setInfo_only ..)
    | with_reducible apply Only.app (hg := State.swapsAt_only ..)
    | with_reducible apply Only.app (hg := State.raiseMarker_only ..)
    | decide
    | (with_reducible apply Only.upd <;> try (first | exact Or.inl (by decide) | exact Or.inr rfl)))

end Sys2Proof.Machine
end

