-- ==== Sys2Proof/Laws/OnlyQueues.lean ====
section
/-!
SUPPORT. What each operation of Machine/Queues.lean may change: its register blocks and parts of the state, as the mask of `Only`.
-/
namespace Sys2Proof.Machine

set_option linter.unusedTactic false
set_option linter.unreachableTactic false

theorem State.consumedIn_only (s : State) (q : Nat) (x : SubQueue) (c : Nat) :
    Only 0x9000000840000 s (State.consumedIn s q x c) := by
  unfold State.consumedIn
  repeat' (first
    | with_reducible exact Only.refl _ _
    | with_reducible apply Only.app (hg := State.dbBad_only ..)
    | with_reducible apply Only.app (hg := State.putQueue_only ..)
    | decide
    | split
    | (with_reducible apply Only.upd <;> try (first | exact Or.inl (by decide) | exact Or.inr rfl)))

theorem State.queueBell_only (s : State) (q : Nat) (x : SubQueue) (v : Nat) (bufs : List (BitVec 128)) (head : Nat) :
    Only 0x490000028c0000 s (State.queueBell s q x v bufs head) := by
  unfold State.queueBell
  dsimp only
  repeat' (first
    | with_reducible exact Only.refl _ _
    | with_reducible apply Only.app (hg := State.dbBad_only ..)
    | with_reducible apply Only.app (hg := State.headIn_only ..)
    | with_reducible apply Only.app (hg := State.putQueue_only ..)
    | with_reducible apply Only.app (hg := State.consumedIn_only ..)
    | with_reducible apply Only.app (hg := State.settleQueue_only ..)
    | decide
    | split
    | (with_reducible apply Only.upd <;> try (first | exact Or.inl (by decide) | exact Or.inr rfl)))

theorem execQueueDoorbell_only (q : Fin 4096) (whole : Bool) (v : BitVec 64) (bufs : List (BitVec 128)) (headWord : BitVec 64) (s : State) :
    OnlyO 0x490000038c0000 s (execQueueDoorbell q whole v bufs headWord s) := by
  unfold execQueueDoorbell
  repeat' (first
    | with_reducible apply OnlyO.done
    | with_reducible exact Only.refl _ _
    | with_reducible apply Only.app (hg := State.dbBad_only ..)
    | with_reducible apply Only.app (hg := State.queueBell_only ..)
    | decide
    | split
    | (with_reducible apply Only.upd <;> try (first | exact Or.inl (by decide) | exact Or.inr rfl)))

theorem execHeadWordPoll_only (q : Fin 4096) (headWord : BitVec 64) (s : State) :
    OnlyO 0x490000038c0000 s (execHeadWordPoll q headWord s) := by
  unfold execHeadWordPoll
  repeat' (first
    | with_reducible apply OnlyO.done
    | with_reducible exact Only.refl _ _
    | with_reducible apply Only.app (hg := State.headIn_only ..)
    | with_reducible apply Only.app (hg := State.settleQueue_only ..)
    | decide
    | split
    | (with_reducible apply Only.upd <;> try (first | exact Or.inl (by decide) | exact Or.inr rfl)))

theorem execInterruptCoalesce_only (q : Fin 4096) (s : State) :
    OnlyO 0x41000003000000 s (execInterruptCoalesce q s) := by
  unfold execInterruptCoalesce
  repeat' (first
    | with_reducible apply OnlyO.done
    | with_reducible exact Only.refl _ _
    | with_reducible apply Only.app (hg := State.queueMsg_only ..)
    | decide
    | split
    | (with_reducible apply Only.upd <;> try (first | exact Or.inl (by decide) | exact Or.inr rfl)))

theorem State.channelStopped_only (s : State) (c : Nat) :
    Only 0x80000 s (State.channelStopped s c) := by
  unfold State.channelStopped
  repeat' (first
    | with_reducible exact Only.refl _ _
    | with_reducible apply Only.wr
    | with_reducible apply Only.flag
    | decide
    | (rw [blk_PUR_CHSTAT_STATE]; decide)
    | split)

theorem execSubscriberDelivery_only (c : Fin 32) (s : State) :
    OnlyO 0xdb1bb0038caaa0 s (execSubscriberDelivery c s) := by
  unfold execSubscriberDelivery
  dsimp only
  repeat' (first
    | with_reducible apply OnlyO.done
    | with_reducible exact Only.refl _ _
    | with_reducible apply Only.app (hg := State.channelStopped_only ..)
    | with_reducible apply Only.app (hg := State.serveQueue_only ..)
    | with_reducible apply Only.app (hg := State.onHif_only ..)
    | decide
    | split
    | (with_reducible apply Only.upd <;> try (first | exact Or.inl (by decide) | exact Or.inr rfl)))

theorem execDemotion_only (q : Fin 4096) (s : State) :
    OnlyO 0x490000038c0200 s (execDemotion q s) := by
  unfold execDemotion
  dsimp only
  repeat' (first
    | with_reducible apply OnlyO.done
    | with_reducible exact Only.refl _ _
    | with_reducible apply Only.bump
    | with_reducible apply Only.app (hg := State.putQueue_only ..)
    | with_reducible apply State.fault_only
    | with_reducible apply Only.app (hg := State.settleQueue_only ..)
    | decide
    | split
    | intro _
    | (with_reducible apply Only.upd <;> try (first | exact Or.inl (by decide) | exact Or.inr rfl)))

theorem State.createQueue_only (s : State) (q : Nat) (block : BitVec 1024) :
    Only 0x9000000840200 s (State.createQueue s q block).1 := by
  unfold State.createQueue
  dsimp only
  repeat' (first
    | with_reducible exact Only.refl _ _
    | with_reducible apply Only.wr
    | with_reducible apply Only.app (hg := State.putQueue_only ..)
    | with_reducible apply Only.app (hg := State.fullBegins_only ..)
    | decide
    | (rw [blk_HIF_QSTATE_STATE]; decide)
    | split)

theorem execQueueCreate_only (r : Fin 16) (block : Option (BitVec 1024)) (s : State) :
    OnlyO 0x490000038c0200 s (execQueueCreate r block s) := by
  unfold execQueueCreate
  repeat' (first
    | with_reducible apply OnlyO.done
    | with_reducible exact Only.refl _ _
    | with_reducible apply State.command_only
    | with_reducible apply Only.app (hg := State.createQueue_only ..)
    | (with_reducible refine Only.ofFst (by assumption) ?_; with_reducible apply Only.app (hg := State.createQueue_only ..))
    | decide
    | split
    | intro _
    | dsimp only
    | (with_reducible apply Only.upd <;> try (first | exact Or.inl (by decide) | exact Or.inr rfl)))

theorem State.resumeQueue_only (s : State) (q : Nat) (next : Nat) (gen : Nat) (block : BitVec 1024) :
    Only 0x1000000040000 s (State.resumeQueue s q next gen block).1 := by
  unfold State.resumeQueue
  dsimp only
  repeat' (first
    | with_reducible exact Only.refl _ _
    | with_reducible apply Only.wr
    | with_reducible apply Only.app (hg := State.putQueue_only ..)
    | decide
    | (rw [blk_HIF_QSTATE_STATE]; decide)
    | split
    | (with_reducible apply Only.upd <;> try (first | exact Or.inl (by decide) | exact Or.inr rfl)))

theorem execQueueResume_only (r : Fin 16) (block : Option (BitVec 1024)) (s : State) :
    OnlyO 0x490000038c0000 s (execQueueResume r block s) := by
  unfold execQueueResume
  repeat' (first
    | with_reducible apply OnlyO.done
    | with_reducible exact Only.refl _ _
    | with_reducible apply State.command_only
    | with_reducible apply Only.app (hg := State.resumeQueue_only ..)
    | (with_reducible refine Only.ofFst (by assumption) ?_; with_reducible apply Only.app (hg := State.resumeQueue_only ..))
    | decide
    | split
    | intro _
    | dsimp only
    | (with_reducible apply Only.upd <;> try (first | exact Or.inl (by decide) | exact Or.inr rfl)))

theorem State.closeQueue_only (s : State) (r : Nat) (q : Nat) (e : BitVec 512) :
    Only 0x490000028c0000 s (State.closeQueue s r q e) := by
  unfold State.closeQueue
  dsimp only
  repeat' (first
    | with_reducible exact Only.refl _ _
    | with_reducible apply Only.app (hg := State.complete_only ..)
    | with_reducible apply Only.app (hg := State.onHif_only ..)
    | with_reducible apply Only.app (hg := State.dropQueue_only ..)
    | with_reducible apply Only.app (hg := State.putQueue_only ..)
    | with_reducible apply Only.app (hg := State.settleQueue_only ..)
    | decide
    | split
    | (with_reducible apply Only.upd <;> try (first | exact Or.inl (by decide) | exact Or.inr rfl)))

theorem execQueueClose_only (r : Fin 16) (s : State) :
    OnlyO 0x490000038c0000 s (execQueueClose r s) := by
  unfold execQueueClose
  repeat' (first
    | with_reducible apply OnlyO.done
    | with_reducible exact Only.refl _ _
    | with_reducible apply Only.app (hg := State.closeQueue_only ..)
    | with_reducible apply Only.app (hg := State.complete_only ..)
    | decide
    | split
    | (with_reducible apply Only.upd <;> try (first | exact Or.inl (by decide) | exact Or.inr rfl)))

theorem State.filterQueue_only (s : State) (q : Nat) (f : List Byte) :
    Only 0x1000000000000 s (State.filterQueue s q f).1 := by
  unfold State.filterQueue
  repeat' (first
    | with_reducible exact Only.refl _ _
    | with_reducible apply Only.app (hg := State.putQueue_only ..)
    | decide
    | split
    | (with_reducible apply Only.upd <;> try (first | exact Or.inl (by decide) | exact Or.inr rfl)))

theorem execQueueFilter_only (r : Fin 16) (s : State) :
    OnlyO 0x490000038c0000 s (execQueueFilter r s) := by
  unfold execQueueFilter
  dsimp only
  repeat' (first
    | with_reducible apply OnlyO.done
    | with_reducible exact Only.refl _ _
    | with_reducible apply State.command_only
    | with_reducible apply Only.app (hg := State.filterQueue_only ..)
    | (with_reducible refine Only.ofFst (by assumption) ?_; with_reducible apply Only.app (hg := State.filterQueue_only ..))
    | with_reducible apply Only.app (hg := State.settleQueue_only ..)
    | decide
    | split
    | intro _
    | dsimp only)

end Sys2Proof.Machine
end

