-- ==== Sys2Proof/Laws/OnlyCommands.lean ====
section
/-!
SUPPORT. What each operation of Machine/Commands.lean may change: its register blocks and parts of the state, as the mask of `Only`.
-/
namespace Sys2Proof.Machine

set_option linter.unusedTactic false
set_option linter.unreachableTactic false

theorem State.ringBell_only (s : State) (r : Nat) (v : Nat) (entries : List (BitVec 512)) :
    Only 0x490000028c0000 s (State.ringBell s r v entries) := by
  unfold State.ringBell
  dsimp only
  repeat' (first
    | with_reducible exact Only.refl _ _
    | with_reducible apply Only.app (hg := State.dbBad_only ..)
    | with_reducible apply Only.app (hg := State.setCmdRing_only ..)
    | with_reducible apply Only.app (hg := State.ringFetch_only ..)
    | with_reducible apply Only.when
    | decide
    | split
    | intro _
    | (with_reducible apply Only.upd <;> try (first | exact Or.inl (by decide) | exact Or.inr rfl)))

theorem execCommandDoorbell_only (r : Fin 16) (whole : Bool) (v : BitVec 64) (entries : List (BitVec 512)) (s : State) :
    OnlyO 0x490000038c0000 s (execCommandDoorbell r whole v entries s) := by
  unfold execCommandDoorbell
  repeat' (first
    | with_reducible apply OnlyO.done
    | with_reducible exact Only.refl _ _
    | with_reducible apply Only.app (hg := State.dbBad_only ..)
    | with_reducible apply Only.app (hg := State.ringBell_only ..)
    | decide
    | split)

theorem execNop_only (r : Fin 16) (s : State) :
    OnlyO 0x490000038c0000 s (execNop r s) := by
  unfold execNop
  repeat' (first
    | with_reducible apply OnlyO.done
    | with_reducible exact Only.refl _ _
    | with_reducible apply State.command_only
    | decide
    | intro _
    | dsimp only)

theorem execScanStart_only (r : Fin 16) (s : State) :
    OnlyO 0x490020038c0020 s (execScanStart r s) := by
  unfold execScanStart
  repeat' (first
    | with_reducible apply OnlyO.done
    | with_reducible exact Only.refl _ _
    | with_reducible apply State.command_only
    | with_reducible apply Only.app (hg := State.scanStart_only ..)
    | (with_reducible refine Only.ofFst (by assumption) ?_; with_reducible apply Only.app (hg := State.scanStart_only ..))
    | decide
    | intro _
    | dsimp only)

theorem execScanStop_only (r : Fin 16) (s : State) :
    OnlyO 0x490024038c0020 s (execScanStop r s) := by
  unfold execScanStop
  repeat' (first
    | with_reducible apply OnlyO.done
    | with_reducible exact Only.refl _ _
    | with_reducible apply State.command_only
    | with_reducible apply Only.app (hg := State.scanStop_only ..)
    | (with_reducible refine Only.ofFst (by assumption) ?_; with_reducible apply Only.app (hg := State.scanStop_only ..))
    | decide
    | intro _
    | dsimp only)

theorem execTimeSet_only (r : Fin 16) (s : State) :
    OnlyO 0x490002038c0002 s (execTimeSet r s) := by
  unfold execTimeSet
  repeat' (first
    | with_reducible apply OnlyO.done
    | with_reducible exact Only.refl _ _
    | with_reducible apply State.command_only
    | with_reducible apply Only.app (hg := State.timeSetStep_only ..)
    | decide
    | intro _
    | dsimp only)

theorem State.commitEpoch_only (s : State) (r : Nat) (e : BitVec 512) :
    Only 0xcb10b0029c18a0 s (State.commitEpoch s r e) := by
  unfold State.commitEpoch
  dsimp only
  repeat' (first
    | with_reducible exact Only.refl _ _
    | with_reducible apply Only.app (hg := State.complete_only ..)
    | with_reducible apply Only.app (hg := State.onHif_only ..)
    | with_reducible apply Only.app (hg := State.epochPoint_only ..)
    | (with_reducible refine Only.ofFst (by assumption) ?_; with_reducible apply Only.app (hg := State.epochPoint_only ..))
    | decide
    | split
    | (with_reducible apply Only.upd <;> try (first | exact Or.inl (by decide) | exact Or.inr rfl)))

theorem execEpochCommit_only (r : Fin 16) (s : State) :
    OnlyO 0xcb10b0039c18a0 s (execEpochCommit r s) := by
  unfold execEpochCommit
  repeat' (first
    | with_reducible apply OnlyO.done
    | with_reducible exact Only.refl _ _
    | with_reducible apply Only.app (hg := State.commitEpoch_only ..)
    | with_reducible apply Only.app (hg := State.complete_only ..)
    | decide
    | split
    | (with_reducible apply Only.upd <;> try (first | exact Or.inl (by decide) | exact Or.inr rfl)))

theorem execEpochCommitExecution_only (s : State) :
    OnlyO 0xcb10b0039c18a0 s (execEpochCommitExecution s) := by
  unfold execEpochCommitExecution
  dsimp only
  repeat' (first
    | with_reducible apply OnlyO.done
    | with_reducible exact Only.refl _ _
    | with_reducible apply Only.app (hg := State.epochPoint_only ..)
    | (with_reducible refine Only.ofFst (by assumption) ?_; with_reducible apply Only.app (hg := State.epochPoint_only ..))
    | with_reducible apply Only.app (hg := State.completeHeld_only ..)
    | decide
    | split
    | (with_reducible apply Only.upd <;> try (first | exact Or.inl (by decide) | exact Or.inr rfl)))

theorem execEpochEffective_only (s : State) :
    OnlyO 0x490f2003808a80 s (execEpochEffective s) := by
  unfold execEpochEffective
  repeat' (first
    | with_reducible apply OnlyO.done
    | with_reducible exact Only.refl _ _
    | with_reducible apply Only.app (hg := State.epochStarts_only ..)
    | with_reducible apply Only.app (hg := State.settleJnl_only ..)
    | decide
    | split
    | (with_reducible apply Only.upd <;> try (first | exact Or.inl (by decide) | exact Or.inr rfl)))

theorem State.loadTable_only (s : State) (kind : Nat) (addr : Nat) (len : Nat) (data : Option (List Byte)) :
    Only 0x19800000c00000 s (State.loadTable s kind addr len data).1 := by
  unfold State.loadTable
  dsimp only
  repeat' (first
    | with_reducible exact Only.refl _ _
    | with_reducible apply Only.app (hg := State.stageTable_only ..)
    | (with_reducible refine Only.ofFst (by assumption) ?_; with_reducible apply Only.app (hg := State.stageTable_only ..))
    | with_reducible apply Only.app (hg := State.girtDenyHbm_only ..)
    | decide
    | split
    | (with_reducible apply Only.upd <;> try (first | exact Or.inl (by decide) | exact Or.inr rfl)))

theorem execTableLoad_only (r : Fin 16) (data : Option (List Byte)) (s : State) :
    OnlyO 0x59800003cc0000 s (execTableLoad r data s) := by
  unfold execTableLoad
  repeat' (first
    | with_reducible apply OnlyO.done
    | with_reducible exact Only.refl _ _
    | with_reducible apply State.command_only
    | with_reducible apply Only.app (hg := State.loadTable_only ..)
    | (with_reducible refine Only.ofFst (by assumption) ?_; with_reducible apply Only.app (hg := State.loadTable_only ..))
    | decide
    | intro _
    | dsimp only)

theorem State.showProof_only (s : State) (p : Nat × Nat × Nat) :
    Only 0x8000000800080 s (State.showProof s p) := by
  unfold State.showProof
  dsimp only
  repeat' (first
    | with_reducible exact Only.refl _ _
    | with_reducible apply Only.wr
    | with_reducible apply State.refuse_only
    | with_reducible apply Only.when
    | decide
    | intro _)

theorem State.acceptSet_only (s : State) (r : Nat) (e : BitVec 512) (img : List Byte) :
    Only 0x490080028c0080 s (State.acceptSet s r e img) := by
  unfold State.acceptSet
  dsimp only
  repeat' (first
    | with_reducible exact Only.refl _ _
    | with_reducible apply Only.app (hg := State.bankWrite_only ..)
    | with_reducible apply Only.app (hg := State.complete_only ..)
    | decide
    | split
    | (with_reducible apply Only.upd <;> try (first | exact Or.inl (by decide) | exact Or.inr rfl)))

theorem State.loadSet_only (s : State) (r : Nat) (e : BitVec 512) (data : Option (List Byte)) :
    Only 0x49008002ac0080 s (State.loadSet s r e data) := by
  unfold State.loadSet
  dsimp only
  repeat' (first
    | with_reducible exact Only.refl _ _
    | with_reducible apply Only.wr
    | with_reducible apply Only.app (hg := State.complete_only ..)
    | with_reducible apply Only.app (hg := State.showProof_only ..)
    | with_reducible apply Only.app (hg := State.acceptSet_only ..)
    | with_reducible apply State.refuse_only
    | decide
    | split
    | intro _
    | (with_reducible apply Only.upd <;> try (first | exact Or.inl (by decide) | exact Or.inr rfl)))

theorem execProgLoad_only (r : Fin 16) (data : Option (List Byte)) (s : State) :
    OnlyO 0x49008003ac0080 s (execProgLoad r data s) := by
  unfold execProgLoad
  repeat' (first
    | with_reducible apply OnlyO.done
    | with_reducible exact Only.refl _ _
    | with_reducible apply Only.app (hg := State.loadSet_only ..)
    | with_reducible apply Only.app (hg := State.complete_only ..)
    | decide
    | split
    | (with_reducible apply Only.upd <;> try (first | exact Or.inl (by decide) | exact Or.inr rfl)))

theorem execProgramBankWrite_only (s : State) :
    OnlyO 0x490080038c0080 s (execProgramBankWrite s) := by
  unfold execProgramBankWrite
  dsimp only
  repeat' (first
    | with_reducible apply OnlyO.done
    | with_reducible exact Only.refl _ _
    | with_reducible apply Only.app (hg := State.bankWrite_only ..)
    | with_reducible apply Only.app (hg := State.completeHeld_only ..)
    | decide
    | split
    | (with_reducible apply Only.upd <;> try (first | exact Or.inl (by decide) | exact Or.inr rfl)))

theorem State.poseEnter_only (s : State) (l : List (BitVec 384)) (a r : Nat) : Only 0x8020000800400 s (State.poseEnter s l a r).1 := by
  induction l generalizing s a r with
  | nil => exact Only.refl _ s
  | cons p l ih =>
    unfold State.poseEnter
    split
    · exact ((Only.refl _ s).app (State.poseIn_only ..) (by decide)).trans (ih _ _ _)
    · exact ((Only.refl _ s).app (State.poseIn_only ..) (by decide)).trans (ih _ _ _)

theorem State.enterPoses_only (s : State) (samples : List (BitVec 384)) :
    Only 0x8020000800400 s (State.enterPoses s samples).1 := by
  unfold State.enterPoses
  dsimp only
  repeat' (first
    | with_reducible exact Only.refl _ _
    | with_reducible apply Only.app (hg := State.poseEnter_only ..)
    | with_reducible apply Only.app (hg := State.poseTick_only ..)
    | decide
    | split)

theorem State.poseCommand_only (s : State) (r : Nat) (e : BitVec 512) (data : Option (List (BitVec 384))) :
    Only 0x490200028c0400 s (State.poseCommand s r e data) := by
  unfold State.poseCommand
  dsimp only
  repeat' (first
    | with_reducible exact Only.refl _ _
    | with_reducible apply Only.app (hg := State.complete_only ..)
    | with_reducible apply Only.app (hg := State.enterPoses_only ..)
    | (with_reducible refine Only.ofFst (by assumption) ?_; with_reducible apply Only.app (hg := State.enterPoses_only ..))
    | decide
    | split
    | (with_reducible apply Only.upd <;> try (first | exact Or.inl (by decide) | exact Or.inr rfl)))

theorem execPose_only (r : Fin 16) (data : Option (List (BitVec 384))) (s : State) :
    OnlyO 0x490200038c0400 s (execPose r data s) := by
  unfold execPose
  repeat' (first
    | with_reducible apply OnlyO.done
    | with_reducible exact Only.refl _ _
    | with_reducible apply Only.app (hg := State.poseCommand_only ..)
    | decide
    | split
    | (with_reducible apply Only.upd <;> try (first | exact Or.inl (by decide) | exact Or.inr rfl)))

end Sys2Proof.Machine
end

