-- ==== Sys2Proof/Laws/OnlyDowelOps.lean ====
section
/-!
SUPPORT. What each operation of Machine/DowelOps.lean may change: its register blocks and parts of the state, as the mask of `Only`.
-/
namespace Sys2Proof.Machine

set_option linter.unusedTactic false
set_option linter.unreachableTactic false

theorem State.onDwl_only (s : State) (f : DwlState → DwlState) :
    Only 0x2000000000000 s (State.onDwl s f) := by
  unfold State.onDwl
  repeat' (first
    | with_reducible exact Only.refl _ _
    | decide
    | (with_reducible apply Only.upd <;> try (first | exact Or.inl (by decide) | exact Or.inr rfl)))

theorem State.setLink_only (s : State) (k : Nat) (f : TieLink → TieLink) :
    Only 0x2000000000000 s (State.setLink s k f) := by
  unfold State.setLink
  repeat' (first
    | with_reducible exact Only.refl _ _
    | with_reducible apply Only.app (hg := State.onDwl_only ..)
    | decide
    | (with_reducible apply Only.upd <;> try (first | exact Or.inl (by decide) | exact Or.inr rfl)))

theorem State.tieRefresh_only (s : State) :
    Only 0x100000 s (State.tieRefresh s) := by
  unfold State.tieRefresh
  dsimp only
  repeat' (first
    | with_reducible exact Only.refl _ _
    | with_reducible apply Only.wr
    | with_reducible apply Only.wrB
    | decide
    | split)

theorem State.tieOut_only (s : State) (k : Nat) (chars : List RingChar) :
    Only 0xc2000000000000 s (State.tieOut s k chars) := by
  unfold State.tieOut
  dsimp only
  repeat' (first
    | with_reducible exact Only.refl _ _
    | with_reducible apply Only.app (hg := State.setLink_only ..)
    | with_reducible apply Only.app (hg := State.laneOut_only ..)
    | decide
    | split
    | (with_reducible apply Only.upd <;> try (first | exact Or.inl (by decide) | exact Or.inr rfl)))

theorem State.tieFrameOut_only (s : State) (k : Nat) (f : TieFrame) (bad : Bool) :
    Only 0xc2000000000000 s (State.tieFrameOut s k f bad) := by
  unfold State.tieFrameOut
  repeat' (first
    | with_reducible exact Only.refl _ _
    | with_reducible apply Only.app (hg := State.emit_only ..)
    | with_reducible apply Only.app (hg := State.tieOut_only ..)
    | decide
    | split)

theorem State.tieTransmit_only (s : State) (k : Nat) (f : TieFrame) :
    Only 0xc2000000100000 s (State.tieTransmit s k f) := by
  unfold State.tieTransmit
  dsimp only
  repeat' (first
    | with_reducible exact Only.refl _ _
    | with_reducible apply Only.bump
    | with_reducible apply Only.app (hg := State.setLink_only ..)
    | with_reducible apply Only.app (hg := State.tieFrameOut_only ..)
    | decide
    | (rw [blk_DWL_PINJ_CNT]; decide)
    | split
    | (with_reducible apply Only.upd <;> try (first | exact Or.inl (by decide) | exact Or.inr rfl)))

theorem State.tiePump_only (s : State) (k n : Nat) : Only 0xc2000000100000 s (State.tiePump s k n) := by
  induction n generalizing s with
  | zero => exact Only.refl _ s
  | succ n ih =>
    unfold State.tiePump
    dsimp only
    split
    · exact Only.refl _ s
    · split
      · exact (((Only.refl _ s).app (State.setLink_only ..) (by decide)).app (State.tieTransmit_only ..) (by decide)).trans (ih _)
      · exact Only.refl _ s

theorem State.tieSend_only (s : State) (k : Nat) (f : TieFrame) :
    Only 0xc2000000100000 s (State.tieSend s k f) := by
  unfold State.tieSend
  repeat' (first
    | with_reducible exact Only.refl _ _
    | with_reducible apply Only.app (hg := State.setLink_only ..)
    | with_reducible apply Only.app (hg := State.tiePump_only ..)
    | decide
    | split
    | (with_reducible apply Only.upd <;> try (first | exact Or.inl (by decide) | exact Or.inr rfl)))

theorem State.tieOriginate_only (s : State) (on : Nat → Bool) (typ : Nat) (dest : Nat) (payload : List Byte) :
    Only 0xc2000000100000 s (State.tieOriginate s on typ dest payload) := by
  unfold State.tieOriginate
  dsimp only
  repeat' (first
    | with_reducible exact Only.refl _ _
    | with_reducible apply Only.app (hg := State.onDwl_only ..)
    | with_reducible apply Only.app (hg := State.tieSend_only ..)
    | with_reducible apply Only.foldl
    | decide
    | split
    | intro _
    | (with_reducible apply Only.upd <;> try (first | exact Or.inl (by decide) | exact Or.inr rfl)))

theorem State.sendHello_only (s : State) (on : Nat → Bool) :
    Only 0xc2000000100000 s (State.sendHello s on) := by
  unfold State.sendHello
  repeat' (first
    | with_reducible exact Only.refl _ _
    | with_reducible apply Only.app (hg := State.tieOriginate_only ..)
    | decide)

theorem State.linkUp_only (s : State) (k : Nat) :
    Only 0xc2000000100000 s (State.linkUp s k) := by
  unfold State.linkUp
  repeat' (first
    | with_reducible exact Only.refl _ _
    | with_reducible apply Only.app (hg := State.setLink_only ..)
    | with_reducible apply Only.app (hg := State.sendHello_only ..)
    | decide
    | split
    | (with_reducible apply Only.upd <;> try (first | exact Or.inl (by decide) | exact Or.inr rfl)))

theorem State.linkDown_only (s : State) (k : Nat) :
    Only 0xa000000900000 s (State.linkDown s k) := by
  unfold State.linkDown
  dsimp only
  repeat' (first
    | with_reducible exact Only.refl _ _
    | with_reducible apply Only.bump
    | with_reducible apply Only.app (hg := State.setLink_only ..)
    | with_reducible apply State.fault_only
    | with_reducible apply Only.app (hg := State.tieRefresh_only ..)
    | with_reducible apply Only.when
    | decide
    | (rw [blk_DWL_PTIEERR_LINKLOSS]; decide)
    | split
    | intro _)

theorem State.setUp_only (s : State) (p : Nat) (v : Bool) :
    Only 0x100000 s (State.setUp s p v) := by
  unfold State.setUp
  repeat' (first
    | with_reducible exact Only.refl _ _
    | with_reducible apply Only.wr
    | decide)

theorem State.ringPair_only (s : State) (p : Nat) (v : Bool) :
    Only 0xc2001000100800 s (State.ringPair s p v) := by
  unfold State.ringPair
  repeat' (first
    | with_reducible exact Only.refl _ _
    | with_reducible apply Only.wr
    | with_reducible apply Only.app (hg := State.setRing_only ..)
    | with_reducible apply Only.app (hg := State.echoRings_only ..)
    | with_reducible apply Only.app (hg := State.ringDirBack_only ..)
    | decide
    | (rw [blk_BTN_RSTAT_CCWUP]; decide)
    | (rw [blk_BTN_RSTAT_CWUP]; decide)
    | split
    | (with_reducible apply Only.upd <;> try (first | exact Or.inl (by decide) | exact Or.inr rfl)))

theorem State.restoreTrained_only (s : State) (p : Nat) :
    Only 0x2000000100000 s (State.restoreTrained s p) := by
  unfold State.restoreTrained
  repeat' (first
    | with_reducible exact Only.refl _ _
    | with_reducible apply Only.wr
    | with_reducible apply Only.app (hg := State.onDwl_only ..)
    | decide
    | (rw [blk_DWL_PSTAT_CTLE]; decide)
    | (rw [blk_DWL_PSTAT_FOM]; decide)
    | split
    | (with_reducible apply Only.upd <;> try (first | exact Or.inl (by decide) | exact Or.inr rfl)))

theorem State.startTrain_only (s : State) (p : Nat) :
    Only 0xca001000900800 s (State.startTrain s p) := by
  unfold State.startTrain
  dsimp only
  repeat' (first
    | with_reducible exact Only.refl _ _
    | with_reducible apply Only.wr
    | with_reducible apply Only.app (hg := State.setUp_only ..)
    | with_reducible apply Only.app (hg := State.emit_only ..)
    | with_reducible apply Only.app (hg := State.onDwl_only ..)
    | with_reducible apply Only.app (hg := State.ringPair_only ..)
    | with_reducible apply Only.app (hg := State.linkDown_only ..)
    | decide
    | (rw [blk_DWL_PSTAT_TRAINING]; decide)
    | split
    | (with_reducible apply Only.upd <;> try (first | exact Or.inl (by decide) | exact Or.inr rfl)))

theorem State.pairFell_only (s : State) (p : Nat) :
    Only 0xca001000900800 s (State.pairFell s p) := by
  unfold State.pairFell
  dsimp only
  repeat' (first
    | with_reducible exact Only.refl _ _
    | with_reducible apply Only.app (hg := State.setUp_only ..)
    | with_reducible apply State.faultInj_only
    | with_reducible apply Only.app (hg := State.ringDirDown_only ..)
    | with_reducible apply Only.app (hg := State.ringPair_only ..)
    | with_reducible apply Only.app (hg := State.linkDown_only ..)
    | decide
    | split
    | intro _
    | (with_reducible apply Only.upd <;> try (first | exact Or.inl (by decide) | exact Or.inr rfl)))

theorem State.pairRose_only (s : State) (p : Nat) :
    Only 0xc2001000100800 s (State.pairRose s p) := by
  unfold State.pairRose
  dsimp only
  repeat' (first
    | with_reducible exact Only.refl _ _
    | with_reducible apply Only.flag
    | with_reducible apply Only.app (hg := State.setUp_only ..)
    | with_reducible apply Only.app (hg := State.ringPair_only ..)
    | with_reducible apply Only.app (hg := State.linkUp_only ..)
    | decide
    | split)

theorem State.linkFail_only (s : State) (k : Nat) :
    Only 0xca001000900800 s (State.linkFail s k) := by
  unfold State.linkFail
  repeat' (first
    | with_reducible exact Only.refl _ _
    | with_reducible apply Only.app (hg := State.pairFell_only ..)
    | with_reducible apply Only.app (hg := State.startTrain_only ..)
    | decide)

theorem State.tieResend_only (s : State) (k : Nat) :
    Only 0xca001000900800 s (State.tieResend s k) := by
  unfold State.tieResend
  dsimp only
  repeat' (first
    | with_reducible exact Only.refl _ _
    | with_reducible apply Only.bump
    | with_reducible apply Only.app (hg := State.setLink_only ..)
    | with_reducible apply Only.app (hg := State.tieFrameOut_only ..)
    | with_reducible apply Only.app (hg := State.linkFail_only ..)
    | with_reducible apply Only.foldl
    | decide
    | (rw [blk_DWL_PTIEERR_RETRY]; decide)
    | split
    | intro _
    | (with_reducible apply Only.upd <;> try (first | exact Or.inl (by decide) | exact Or.inr rfl)))

theorem State.tieAcked_only (s : State) (k : Nat) (seq : Nat) :
    Only 0xc2000000100000 s (State.tieAcked s k seq) := by
  unfold State.tieAcked
  repeat' (first
    | with_reducible exact Only.refl _ _
    | with_reducible apply Only.app (hg := State.setLink_only ..)
    | with_reducible apply Only.app (hg := State.tiePump_only ..)
    | decide
    | (with_reducible apply Only.upd <;> try (first | exact Or.inl (by decide) | exact Or.inr rfl)))

theorem State.adaptNext_only (s : State) :
    Only 0xca801000920800 s (State.adaptNext s) := by
  unfold State.adaptNext
  repeat' (first
    | with_reducible exact Only.refl _ _
    | with_reducible apply Only.wr
    | with_reducible apply Only.app (hg := State.startTrain_only ..)
    | decide
    | split
    | (with_reducible apply Only.upd <;> try (first | exact Or.inl (by decide) | exact Or.inr rfl)))

theorem State.adaptDue_only (s : State) (p : Nat) :
    Only 0x800000000000 s (State.adaptDue s p) := by
  unfold State.adaptDue
  repeat' (first
    | with_reducible exact Only.refl _ _
    | decide
    | split
    | (with_reducible apply Only.upd <;> try (first | exact Or.inl (by decide) | exact Or.inr rfl)))

theorem State.adaptAll_only (s : State) :
    Only 0xca801000920800 s (State.adaptAll s) := by
  unfold State.adaptAll
  repeat' (first
    | with_reducible exact Only.refl _ _
    | with_reducible apply Only.app (hg := State.adaptDue_only ..)
    | with_reducible apply Only.app (hg := State.adaptNext_only ..)
    | with_reducible apply Only.foldl
    | decide
    | split
    | intro _)

theorem State.adaptDone_only (s : State) (p : Nat) :
    Only 0xca801000920800 s (State.adaptDone s p) := by
  unfold State.adaptDone
  repeat' (first
    | with_reducible exact Only.refl _ _
    | with_reducible apply Only.wr
    | with_reducible apply Only.flag
    | with_reducible apply Only.app (hg := State.adaptNext_only ..)
    | decide
    | split
    | (with_reducible apply Only.upd <;> try (first | exact Or.inl (by decide) | exact Or.inr rfl)))

theorem State.tieNak_only (s : State) (k : Nat) :
    Only 0xc2000000000000 s (State.tieNak s k) := by
  unfold State.tieNak
  dsimp only
  repeat' (first
    | with_reducible exact Only.refl _ _
    | with_reducible apply Only.app (hg := State.setLink_only ..)
    | with_reducible apply Only.app (hg := State.emit_only ..)
    | with_reducible apply Only.app (hg := State.tieOut_only ..)
    | decide
    | split
    | (with_reducible apply Only.upd <;> try (first | exact Or.inl (by decide) | exact Or.inr rfl)))

theorem State.tieForward_only (s : State) (k : Nat) (f : TieFrame) :
    Only 0xc2000000100000 s (State.tieForward s k f) := by
  unfold State.tieForward
  repeat' (first
    | with_reducible exact Only.refl _ _
    | with_reducible apply Only.app (hg := State.tieSend_only ..)
    | with_reducible apply Only.foldl
    | decide
    | split
    | intro _
    | (with_reducible apply Only.upd <;> try (first | exact Or.inl (by decide) | exact Or.inr rfl)))

theorem State.tieAccept_only {m : Nat} {s u : State} {k : Nat} {f : TieFrame} {eff : State → TieFrame → State} (h : Only m s u)
    (heff : ∀ t g, Only m t (eff t g)) (hm : 0xc2000000100000 ||| m = m) : Only m s (u.tieAccept k f eff) := by
  have hs : ∀ g, g ||| 0xc2000000100000 = 0xc2000000100000 → g ||| m = m := fun g hg => by rw [← hm, ← Nat.lor_assoc, hg]
  have hb : ∀ i, Nat.testBit 0xc2000000100000 i = true → m.testBit i = true := fun i hi => testBit_of_sub hm i hi
  unfold State.tieAccept
  split
  · exact h.bump (by rw [blk_DWL_PTIEERR_BADTYPE]; exact hb _ (by decide))
  · split
    · exact h
    · split
      · exact h
      · refine Only.app ?_ (State.tieRefresh_only ..) (hs _ (by decide))
        have h3 := ((h.when (c := decide (f.orig < 8) && f.orig != u.rd R.DWL_TIECFG_INDEX) (f := fun t =>
          t.wr R.DWL_TIESTAT_SEEN (putBit (t.rd R.DWL_TIESTAT_SEEN) f.orig true))
          ((Only.refl _ u).wr (hb _ (by decide)))).app (State.tieForward_only _ k f) (hs _ (by decide)))
        split
        · exact (h3.app (State.onDwl_only ..) (hs _ (by decide))).trans (heff _ _)
        · exact h3.app (State.onDwl_only ..) (hs _ (by decide))

theorem State.tieIn_only {m : Nat} {s u : State} {k : Nat} {bs : List Byte} {eff : State → TieFrame → State} (h : Only m s u)
    (heff : ∀ t g, Only m t (eff t g)) (hm : 0xc2000000100000 ||| m = m) : Only m s (u.tieIn k bs eff) := by
  have hs : ∀ g, g ||| 0xc2000000100000 = 0xc2000000100000 → g ||| m = m := fun g hg => by rw [← hm, ← Nat.lor_assoc, hg]
  have hb : ∀ i, Nat.testBit 0xc2000000100000 i = true → m.testBit i = true := fun i hi => testBit_of_sub hm i hi
  unfold State.tieIn
  dsimp only
  split
  · split
    · exact (h.bump (by rw [blk_DWL_PRXERR_CRC]; exact hb _ (by decide))).app (State.tieNak_only ..) (hs _ (by decide))
    · split
      · exact State.tieAccept_only (((h.app (State.setLink_only ..) (hs _ (by decide))).app (State.emit_only ..) (hs _ (by decide))).app
          (State.tieOut_only ..) (hs _ (by decide))) heff (hs _ (by decide))
      · exact (h.bump (by rw [blk_DWL_PTIEERR_OOS]; exact hb _ (by decide))).app (State.tieNak_only ..) (hs _ (by decide))
  · exact h

theorem State.thetaShow_only (s : State) :
    Only 0x100000 s (State.thetaShow s) := by
  unfold State.thetaShow
  dsimp only
  repeat' (first
    | with_reducible exact Only.refl _ _
    | with_reducible apply Only.wr
    | decide)

theorem State.lockNoted_only (s : State) (before : Bool) :
    Only 0xa000000900000 s (State.lockNoted s before) := by
  unfold State.lockNoted
  repeat' (first
    | with_reducible exact Only.refl _ _
    | with_reducible apply Only.app (hg := State.onDwl_only ..)
    | with_reducible apply State.fault_only
    | decide
    | split
    | intro _
    | (with_reducible apply Only.upd <;> try (first | exact Or.inl (by decide) | exact Or.inr rfl)))

theorem State.codeChunk_only (s : State) (gen : Nat) (first : Nat) (chunk : Nat) (gaps : List Byte) :
    Only 0x2000000000 s (State.codeChunk s gen first chunk gaps) := by
  unfold State.codeChunk
  dsimp only
  repeat' (first
    | with_reducible exact Only.refl _ _
    | with_reducible apply Only.foldl
    | decide
    | split
    | intro _
    | (with_reducible apply Only.upd <;> try (first | exact Or.inl (by decide) | exact Or.inr rfl)))

theorem State.sendCodebook_only (s : State) (gen : Nat) (first : Nat) :
    Only 0xc2002000100000 s (State.sendCodebook s gen first) := by
  unfold State.sendCodebook
  dsimp only
  repeat' (first
    | with_reducible exact Only.refl _ _
    | with_reducible apply Only.app (hg := State.codeChunk_only ..)
    | with_reducible apply Only.app (hg := State.tieOriginate_only ..)
    | with_reducible apply Only.foldl
    | decide
    | split
    | intro _)

theorem State.tieConfig_only (s : State) :
    Only 0xca001000900800 s (State.tieConfig s) := by
  unfold State.tieConfig
  dsimp only
  repeat' (first
    | with_reducible exact Only.refl _ _
    | with_reducible apply Only.wr
    | with_reducible apply Only.app (hg := State.linkDown_only ..)
    | with_reducible apply Only.app (hg := State.linkUp_only ..)
    | with_reducible apply Only.app (hg := State.startTrain_only ..)
    | with_reducible apply Only.app (hg := State.tieRefresh_only ..)
    | with_reducible apply Only.app (hg := State.onDwl_only ..)
    | with_reducible apply Only.foldl
    | decide
    | split
    | intro _
    | (with_reducible apply Only.upd <;> try (first | exact Or.inl (by decide) | exact Or.inr rfl)))

end Sys2Proof.Machine
end

