-- ==== Sys2Proof/Laws/OnlyDowel.lean ====
section
/-!
SUPPORT. What each operation of Machine/Dowel.lean may change: its register blocks and parts of the state, as the mask of `Only`.
-/
namespace Sys2Proof.Machine

set_option linter.unusedTactic false
set_option linter.unreachableTactic false

theorem execReceiverLock_only (p : Fin 20) (s : State) :
    OnlyO 0xca001003900800 s (execReceiverLock p s) := by
  unfold execReceiverLock
  dsimp only
  repeat' (first
    | with_reducible apply OnlyO.done
    | with_reducible exact Only.refl _ _
    | with_reducible apply Only.wr
    | with_reducible apply Only.app (hg := State.restoreTrained_only ..)
    | with_reducible apply Only.app (hg := State.pairRose_only ..)
    | with_reducible apply Only.app (hg := State.startTrain_only ..)
    | decide
    | (rw [blk_DWL_PSTAT_LOCK]; decide)
    | split)

theorem execLockLoss_only (x : LostPair) (s : State) :
    OnlyO 0xca001003900800 s (execLockLoss x s) := by
  unfold execLockLoss
  dsimp only
  repeat' (first
    | with_reducible apply OnlyO.done
    | with_reducible exact Only.refl _ _
    | with_reducible apply Only.wr
    | with_reducible apply Only.bump
    | with_reducible apply Only.app (hg := State.pairFell_only ..)
    | with_reducible apply Only.when
    | decide
    | (rw [blk_BTN_RERR_LOCKLOSS]; decide)
    | (rw [blk_DWL_PRXERR_CODE]; decide)
    | (rw [blk_DWL_PSTAT_LOCK]; decide)
    | split
    | intro _)

theorem execAutopol_only (p : Fin 20) (s : State) :
    OnlyO 0x40000003100000 s (execAutopol p s) := by
  unfold execAutopol
  repeat' (first
    | with_reducible apply OnlyO.done
    | with_reducible exact Only.refl _ _
    | with_reducible apply Only.wr
    | decide
    | (rw [blk_DWL_PSTAT_AUTOPOL]; decide))

theorem execTrainingComplete_only (p : Fin 20) (tries : List (Nat × BitVec 8)) (s : State) :
    OnlyO 0xca801003920800 s (execTrainingComplete p tries s) := by
  unfold execTrainingComplete
  dsimp only
  repeat' (first
    | with_reducible apply OnlyO.done
    | with_reducible exact Only.refl _ _
    | with_reducible apply Only.wr
    | with_reducible apply Only.app (hg := State.onDwl_only ..)
    | with_reducible apply Only.app (hg := State.pairFell_only ..)
    | with_reducible apply Only.app (hg := State.draw_only ..)
    | with_reducible apply Only.app (hg := State.pairRose_only ..)
    | with_reducible apply Only.app (hg := State.adaptDone_only ..)
    | decide
    | (rw [blk_DWL_PCFG_TRAIN]; decide)
    | (rw [blk_DWL_PSTAT_BER]; decide)
    | (rw [blk_DWL_PSTAT_CTLE]; decide)
    | (rw [blk_DWL_PSTAT_FOM]; decide)
    | (rw [blk_DWL_PSTAT_TRAINING]; decide)
    | split
    | (with_reducible apply Only.upd <;> try (first | exact Or.inl (by decide) | exact Or.inr rfl)))

theorem execTrainingRetry_only (p : Fin 20) (s : State) :
    OnlyO 0xca001003900800 s (execTrainingRetry p s) := by
  unfold execTrainingRetry
  repeat' (first
    | with_reducible apply OnlyO.done
    | with_reducible exact Only.refl _ _
    | with_reducible apply Only.app (hg := State.startTrain_only ..)
    | decide
    | split)

theorem execTrain_only (p : Fin 20) (s : State) :
    OnlyO 0xca001003900800 s (execTrain p s) := by
  unfold execTrain
  repeat' (first
    | with_reducible apply OnlyO.done
    | with_reducible exact Only.refl _ _
    | with_reducible apply Only.wr
    | with_reducible apply Only.app (hg := State.startTrain_only ..)
    | decide
    | (rw [blk_DWL_PCFG_TRAIN]; decide))

theorem execBackgroundTrim_only (p : Fin 20) (fom : BitVec 8) (s : State) :
    OnlyO 0xc2000003100000 s (execBackgroundTrim p fom s) := by
  unfold execBackgroundTrim
  dsimp only
  repeat' (first
    | with_reducible apply OnlyO.done
    | with_reducible exact Only.refl _ _
    | with_reducible apply Only.wr
    | with_reducible apply Only.app (hg := State.draw_only ..)
    | with_reducible apply Only.app (hg := State.onDwl_only ..)
    | decide
    | (rw [blk_DWL_PSTAT_FOM]; decide)
    | split
    | (with_reducible apply Only.upd <;> try (first | exact Or.inl (by decide) | exact Or.inr rfl)))

theorem execFomlow_only (p : Fin 20) (s : State) :
    OnlyO 0xca801003920800 s (execFomlow p s) := by
  unfold execFomlow
  dsimp only
  repeat' (first
    | with_reducible apply OnlyO.done
    | with_reducible exact Only.refl _ _
    | with_reducible apply Only.wr
    | with_reducible apply Only.app (hg := State.draw_only ..)
    | with_reducible apply State.fault_only
    | with_reducible apply Only.app (hg := State.adaptDue_only ..)
    | with_reducible apply Only.app (hg := State.adaptNext_only ..)
    | decide
    | (rw [blk_DWL_PSTAT_FOM]; decide)
    | split
    | intro _)

theorem execPlbCmdLane_only (s : State) :
    OnlyO 0xca801003920800 s (execPlbCmdLane s) := by
  unfold execPlbCmdLane
  repeat' (first
    | with_reducible apply OnlyO.done
    | with_reducible exact Only.refl _ _
    | with_reducible apply Only.app (hg := State.adaptAll_only ..)
    | decide)

theorem execLaneAdaptPeriod_only (s : State) :
    OnlyO 0xca801003920800 s (execLaneAdaptPeriod s) := by
  unfold execLaneAdaptPeriod
  repeat' (first
    | with_reducible apply OnlyO.done
    | with_reducible exact Only.refl _ _
    | with_reducible apply Only.app (hg := State.adaptAll_only ..)
    | decide
    | split)

theorem execHelloSend_only (s : State) :
    OnlyO 0xc2000003100000 s (execHelloSend s) := by
  unfold execHelloSend
  repeat' (first
    | with_reducible apply OnlyO.done
    | with_reducible exact Only.refl _ _
    | with_reducible apply Only.app (hg := State.sendHello_only ..)
    | decide)

theorem State.helloIn_only (k : Nat) (s : State) (f : TieFrame) :
    Only 0xa000000900000 s (State.helloIn k s f) := by
  unfold State.helloIn
  dsimp only
  repeat' (first
    | with_reducible exact Only.refl _ _
    | with_reducible apply Only.wr
    | with_reducible apply State.fault_only
    | with_reducible apply Only.app (hg := State.setLink_only ..)
    | with_reducible apply Only.when
    | decide
    | split
    | intro _
    | (with_reducible apply Only.upd <;> try (first | exact Or.inl (by decide) | exact Or.inr rfl)))

theorem execHello_only (k : Fin 4) (f : TieBytes) (s : State) :
    OnlyO 0xca000003900000 s (execHello k f s) := by
  unfold execHello
  repeat' (first
    | with_reducible apply OnlyO.done
    | with_reducible exact Only.refl _ _
    | with_reducible apply State.tieIn_only
    | with_reducible apply Only.app (hg := State.helloIn_only ..)
    | decide
    | intro _)

theorem execSyncSend_only (t1 : List (Fin 4 × BitVec 53)) (s : State) :
    OnlyO 0xc2000003000000 s (execSyncSend t1 s) := by
  unfold execSyncSend
  dsimp only
  repeat' (first
    | with_reducible apply OnlyO.done
    | with_reducible exact Only.refl _ _
    | with_reducible apply Only.app (hg := State.setLink_only ..)
    | with_reducible apply Only.app (hg := State.emit_only ..)
    | with_reducible apply Only.app (hg := State.tieOut_only ..)
    | with_reducible apply Only.foldl
    | decide
    | split
    | intro _
    | (with_reducible apply Only.upd <;> try (first | exact Or.inl (by decide) | exact Or.inr rfl)))

theorem execSync_only (k : Fin 4) (x : SyncSet) (t4 : BitVec 53) (s : State) :
    OnlyO 0xc2000003100000 s (execSync k x t4 s) := by
  unfold execSync
  dsimp only
  repeat' (first
    | with_reducible apply OnlyO.done
    | with_reducible exact Only.refl _ _
    | with_reducible apply Only.app (hg := State.setLink_only ..)
    | with_reducible apply Only.app (hg := State.tieOriginate_only ..)
    | decide
    | split
    | (with_reducible apply Only.upd <;> try (first | exact Or.inl (by decide) | exact Or.inr rfl)))

theorem State.syncdataIn_only (k : Nat) (s : State) (f : TieFrame) :
    Only 0xa000000900000 s (State.syncdataIn k s f) := by
  unfold State.syncdataIn
  dsimp only
  repeat' (first
    | with_reducible exact Only.refl _ _
    | with_reducible apply Only.app (hg := State.setLink_only ..)
    | with_reducible apply Only.app (hg := State.thetaShow_only ..)
    | with_reducible apply Only.app (hg := State.lockNoted_only ..)
    | decide
    | split
    | (with_reducible apply Only.upd <;> try (first | exact Or.inl (by decide) | exact Or.inr rfl)))

theorem execSyncdata_only (k : Fin 4) (f : TieBytes) (s : State) :
    OnlyO 0xca000003900000 s (execSyncdata k f s) := by
  unfold execSyncdata
  repeat' (first
    | with_reducible apply OnlyO.done
    | with_reducible exact Only.refl _ _
    | with_reducible apply State.tieIn_only
    | with_reducible apply Only.app (hg := State.syncdataIn_only ..)
    | decide
    | intro _)

theorem State.frameannIn_only (s : State) (f : TieFrame) :
    Only 0xa000000900000 s (State.frameannIn s f) := by
  unfold State.frameannIn
  dsimp only
  repeat' (first
    | with_reducible exact Only.refl _ _
    | with_reducible apply Only.app (hg := State.onDwl_only ..)
    | with_reducible apply Only.app (hg := State.lockNoted_only ..)
    | decide
    | split
    | (with_reducible apply Only.upd <;> try (first | exact Or.inl (by decide) | exact Or.inr rfl)))

theorem execFrameann_only (k : Fin 4) (f : TieBytes) (s : State) :
    OnlyO 0xca000003900000 s (execFrameann k f s) := by
  unfold execFrameann
  repeat' (first
    | with_reducible apply OnlyO.done
    | with_reducible exact Only.refl _ _
    | with_reducible apply State.tieIn_only
    | with_reducible apply Only.app (hg := State.frameannIn_only ..)
    | decide
    | intro _)

theorem State.fixAt_only (s : State) (f : Nat) (lsb : Nat) :
    Only 0x2002000000000 s (State.fixAt s f lsb) := by
  unfold State.fixAt
  repeat' (first
    | with_reducible exact Only.refl _ _
    | with_reducible apply Only.app (hg := State.onDwl_only ..)
    | decide
    | (with_reducible apply Only.upd <;> try (first | exact Or.inl (by decide) | exact Or.inr rfl)))

theorem State.periodOff_only (s : State) :
    Only 0x8000000900000 s (State.periodOff s) := by
  unfold State.periodOff
  repeat' (first
    | with_reducible exact Only.refl _ _
    | with_reducible apply Only.wr
    | with_reducible apply State.fault_only
    | decide
    | intro _)

theorem execBoundaryFix_only (s : State) :
    OnlyO 0x4a002003900000 s (execBoundaryFix s) := by
  unfold execBoundaryFix
  dsimp only
  repeat' (first
    | with_reducible apply OnlyO.done
    | with_reducible exact Only.refl _ _
    | with_reducible apply State.fault_only
    | with_reducible apply Only.app (hg := State.periodOff_only ..)
    | with_reducible apply Only.app (hg := State.fixAt_only ..)
    | decide
    | split
    | intro _
    | (with_reducible apply Only.upd <;> try (first | exact Or.inl (by decide) | exact Or.inr rfl)))

theorem State.codebookIn_only (s : State) (f : TieFrame) :
    Only 0x2000000000 s (State.codebookIn s f) := by
  unfold State.codebookIn
  dsimp only
  repeat' (first
    | with_reducible exact Only.refl _ _
    | with_reducible apply Only.app (hg := State.codeChunk_only ..)
    | decide
    | split)

theorem execCodebook_only (k : Fin 4) (f : TieBytes) (s : State) :
    OnlyO 0xc2002003100000 s (execCodebook k f s) := by
  unfold execCodebook
  repeat' (first
    | with_reducible apply OnlyO.done
    | with_reducible exact Only.refl _ _
    | with_reducible apply State.tieIn_only
    | with_reducible apply Only.app (hg := State.codebookIn_only ..)
    | decide
    | intro _)

theorem execAck_only (k : Fin 4) (x : AckSet) (s : State) :
    OnlyO 0xc2000003100000 s (execAck k x s) := by
  unfold execAck
  repeat' (first
    | with_reducible apply OnlyO.done
    | with_reducible exact Only.refl _ _
    | with_reducible apply Only.app (hg := State.tieAcked_only ..)
    | decide
    | split)

theorem execNak_only (k : Fin 4) (x : AckSet) (s : State) :
    OnlyO 0xca001003900800 s (execNak k x s) := by
  unfold execNak
  repeat' (first
    | with_reducible apply OnlyO.done
    | with_reducible exact Only.refl _ _
    | with_reducible apply Only.app (hg := State.setLink_only ..)
    | with_reducible apply Only.app (hg := State.tieResend_only ..)
    | with_reducible apply Only.app (hg := State.tiePump_only ..)
    | decide
    | split
    | (with_reducible apply Only.upd <;> try (first | exact Or.inl (by decide) | exact Or.inr rfl)))

theorem execRetryTimeout_only (k : Fin 4) (s : State) :
    OnlyO 0xca001003900800 s (execRetryTimeout k s) := by
  unfold execRetryTimeout
  repeat' (first
    | with_reducible apply OnlyO.done
    | with_reducible exact Only.refl _ _
    | with_reducible apply Only.app (hg := State.tieResend_only ..)
    | decide
    | split)

theorem execTieUnitUnheard_only (u : Fin 8) (s : State) :
    OnlyO 0x40000003100000 s (execTieUnitUnheard u s) := by
  unfold execTieUnitUnheard
  repeat' (first
    | with_reducible apply OnlyO.done
    | with_reducible exact Only.refl _ _
    | with_reducible apply Only.wr
    | with_reducible apply Only.app (hg := State.tieRefresh_only ..)
    | decide)

theorem execDwlPtestWrite_only (p : Fin 20) (v : Word) (s : State) :
    OnlyO 0x4a000003900001 s (execDwlPtestWrite p v s) := by
  unfold execDwlPtestWrite
  dsimp only
  repeat' (first
    | with_reducible apply OnlyO.done
    | with_reducible exact Only.refl _ _
    | with_reducible apply Only.wr
    | with_reducible apply Only.wrB
    | with_reducible apply Only.app (hg := State.rsvdCheck_only ..)
    | with_reducible apply Only.app (hg := State.onDwl_only ..)
    | with_reducible apply Only.app (hg := State.setLink_only ..)
    | with_reducible apply Only.app (hg := State.reportFree_only ..)
    | with_reducible apply State.refuse_only
    | decide
    | (rw [blk_DWL_PTEST_MODE]; decide)
    | (rw [blk_DWL_PTEST_N]; decide)
    | split
    | intro _
    | (with_reducible apply Only.upd <;> try (first | exact Or.inl (by decide) | exact Or.inr rfl)))

end Sys2Proof.Machine
end

