-- ==== Sys2Proof/Laws/OnlyRegOps.lean ====
section
/-!
SUPPORT. What each operation of Machine/RegOps.lean may change: its register blocks and parts of the state, as the mask of `Only`.
-/
namespace Sys2Proof.Machine

set_option linter.unusedTactic false
set_option linter.unreachableTactic false

theorem State.putField_only (s : State) (off v : Nat) (rwk : Bool) (f : Nat × Nat × Acc) :
    Only 0x7FFFFFF s (State.putField s off v rwk f) := by
  have hk : ∀ k, Nat.testBit 0x7FFFFFF (blk k) = true := testBit_blk (by decide)
  unfold State.putField
  split
  · exact (Only.refl _ s).wr (hk _)
  · split
    · exact (Only.refl _ s).wr (hk _)
    · exact Only.refl _ s
  · exact (Only.refl _ s).wr (hk _)
  all_goals exact Only.refl _ s

theorem State.putReg_only (s : State) (d : RegDesc) (off : Nat) (v : Nat) (rwk : Bool) :
    Only 0x7ffffff s (State.putReg s d off v rwk) := by
  unfold State.putReg
  repeat' (first
    | with_reducible exact Only.refl _ _
    | with_reducible apply Only.app (hg := State.putField_only ..)
    | with_reducible apply Only.foldl
    | decide
    | intro _)

theorem State.putImage_only (s : State) (a : Acc) (e : Nat × Nat) : Only 0x7FFFFFF s (State.putImage s a e) := by
  have hk : ∀ k, Nat.testBit 0x7FFFFFF (blk k) = true := testBit_blk (by decide)
  unfold State.putImage
  split
  · exact Only.foldl (Only.refl _ s) (fun t f => (Only.refl _ t).wr (hk _))
  · exact Only.refl _ s

end Sys2Proof.Machine
end

