-- ==== Sys2Proof/Laws/OnlyRepair.lean ====
section
/-!
SUPPORT. What each operation of Machine/Repair.lean may change: its register blocks and parts of the state, as the mask of `Only`.
-/
namespace Sys2Proof.Machine

set_option linter.unusedTactic false
set_option linter.unreachableTactic false

theorem execPatrolScrub_only (errs : List (Nat × Nat)) (s : State) :
    OnlyO 0xdb1bb00380aaa0 s (execPatrolScrub errs s) := by
  unfold execPatrolScrub
  dsimp only
  repeat' (first
    | with_reducible apply OnlyO.done
    | with_reducible exact Only.refl _ _
    | with_reducible apply Only.app (hg := State.onFlt_only ..)
    | with_reducible apply Only.app (hg := State.readWords_only ..)
    | (with_reducible refine Only.ofFst (by assumption) ?_; with_reducible apply Only.app (hg := State.readWords_only ..))
    | with_reducible apply Only.foldl
    | decide
    | split
    | intro _
    | (with_reducible apply Only.upd <;> try (first | exact Or.inl (by decide) | exact Or.inr rfl)))

theorem execHbmRowSpare_only (row : Nat) (ok : Bool) (s : State) :
    OnlyO 0x48000003800000 s (execHbmRowSpare row ok s) := by
  unfold execHbmRowSpare
  dsimp only
  repeat' (first
    | with_reducible apply OnlyO.done
    | with_reducible exact Only.refl _ _
    | with_reducible apply Only.bump
    | with_reducible apply Only.flag
    | with_reducible apply Only.app (hg := State.onFlt_only ..)
    | with_reducible apply Only.app (hg := State.reportFree_only ..)
    | decide
    | (rw [blk_FLT_HBMSPARE_REFUSED]; decide)
    | (rw [blk_FLT_HBMSPARE_SPARED]; decide)
    | split
    | (with_reducible apply Only.upd <;> try (first | exact Or.inl (by decide) | exact Or.inr rfl)))

theorem State.fltLoad_only (s : State) (bs : List Byte) :
    Only 0x800000 s (State.fltLoad s bs) := by
  unfold State.fltLoad
  repeat' (first
    | with_reducible exact Only.refl _ _
    | with_reducible apply Only.wr
    | with_reducible apply Only.foldl
    | decide
    | (rw [blk_FLT_RDDATA_DATA]; decide)
    | intro _)

theorem execFltRdseqhiWrite_only (v : Word) (s : State) :
    OnlyO 0xdb1bb00380aaa0 s (execFltRdseqhiWrite v s) := by
  unfold execFltRdseqhiWrite
  dsimp only
  repeat' (first
    | with_reducible apply OnlyO.done
    | with_reducible exact Only.refl _ _
    | with_reducible apply Only.wr
    | with_reducible apply Only.app (hg := State.readWords_only ..)
    | (with_reducible refine Only.ofFst (by assumption) ?_; with_reducible apply Only.app (hg := State.readWords_only ..))
    | with_reducible apply Only.app (hg := State.fltLoad_only ..)
    | decide
    | split
    | (with_reducible apply Only.upd <;> try (first | exact Or.inl (by decide) | exact Or.inr rfl)))

theorem execMgmtTakeover_only (s : State) :
    OnlyO 0x48000003800000 s (execMgmtTakeover s) := by
  unfold execMgmtTakeover
  dsimp only
  repeat' (first
    | with_reducible apply OnlyO.done
    | with_reducible exact Only.refl _ _
    | with_reducible apply Only.wr
    | with_reducible apply Only.flag
    | with_reducible apply Only.app (hg := State.onFlt_only ..)
    | with_reducible apply Only.app (hg := State.reportInj_only ..)
    | with_reducible apply Only.app (hg := State.reportFree_only ..)
    | decide
    | split
    | (with_reducible apply Only.upd <;> try (first | exact Or.inl (by decide) | exact Or.inr rfl)))

theorem execCoreTest_only (pass : Bool) (s : State) :
    OnlyO 0x48000003800000 s (execCoreTest pass s) := by
  unfold execCoreTest
  dsimp only
  repeat' (first
    | with_reducible apply OnlyO.done
    | with_reducible exact Only.refl _ _
    | with_reducible apply Only.wr
    | with_reducible apply Only.app (hg := State.onFlt_only ..)
    | with_reducible apply Only.app (hg := State.reportFree_only ..)
    | decide
    | split
    | (with_reducible apply Only.upd <;> try (first | exact Or.inl (by decide) | exact Or.inr rfl)))

end Sys2Proof.Machine
end

