-- ==== Sys2Proof/Laws/OnlyFirmware.lean ====
section
/-!
SUPPORT. What each operation of Machine/Firmware.lean may change: its register blocks and parts of the state, as the mask of `Only`.
-/
namespace Sys2Proof.Machine

set_option linter.unusedTactic false
set_option linter.unreachableTactic false

theorem State.unpackCal_only (s : State) (b : List Byte) :
    Only 0x800000000000 s (State.unpackCal s b) := by
  unfold State.unpackCal
  dsimp only
  repeat' (first
    | with_reducible exact Only.refl _ _
    | decide
    | split
    | (with_reducible apply Only.upd <;> try (first | exact Or.inl (by decide) | exact Or.inr rfl)))

theorem execSettingsSave_only (r : Fin 16) (flashOk : Bool) (s : State) :
    OnlyO 0x6d000003ac0000 s (execSettingsSave r flashOk s) := by
  unfold execSettingsSave
  dsimp only
  repeat' (first
    | with_reducible apply OnlyO.done
    | with_reducible exact Only.refl _ _
    | with_reducible apply Only.wr
    | with_reducible apply State.command_only
    | with_reducible apply Only.app (hg := State.writeStore_only ..)
    | (with_reducible refine Only.ofFst (by assumption) ?_; with_reducible apply Only.app (hg := State.writeStore_only ..))
    | decide
    | split
    | intro _
    | dsimp only)

theorem State.plumbSave_only (s : State) :
    Only 0x24800000200000 s (State.plumbSave s) := by
  unfold State.plumbSave
  dsimp only
  repeat' (first
    | with_reducible exact Only.refl _ _
    | with_reducible apply Only.app (hg := State.storeSets_only ..)
    | with_reducible apply Only.app (hg := State.onFwu_only ..)
    | with_reducible apply Only.app (hg := State.writeStore_only ..)
    | (with_reducible refine Only.ofFst (by assumption) ?_; with_reducible apply Only.app (hg := State.writeStore_only ..))
    | decide
    | split
    | (with_reducible apply Only.upd <;> try (first | exact Or.inl (by decide) | exact Or.inr rfl)))

theorem State.heldSave_only (s : State) :
    Only 0x24800000200000 s (State.heldSave s) := by
  unfold State.heldSave
  repeat' (first
    | with_reducible exact Only.refl _ _
    | with_reducible apply Only.app (hg := State.plumbSave_only ..)
    | decide
    | split)

theorem execPlbCmdSave_only (s : State) :
    OnlyO 0x64800003200000 s (execPlbCmdSave s) := by
  unfold execPlbCmdSave
  repeat' (first
    | with_reducible apply OnlyO.done
    | with_reducible exact Only.refl _ _
    | with_reducible apply Only.app (hg := State.plumbSave_only ..)
    | decide)

theorem execSavePeriod_only (s : State) :
    OnlyO 0x64800003200000 s (execSavePeriod s) := by
  unfold execSavePeriod
  repeat' (first
    | with_reducible apply OnlyO.done
    | with_reducible exact Only.refl _ _
    | with_reducible apply Only.app (hg := State.plumbSave_only ..)
    | decide
    | split)

theorem execProgsigSet_only (s : State) :
    OnlyO 0x40000003200000 s (execProgsigSet s) := by
  unfold execProgsigSet
  repeat' (first
    | with_reducible apply OnlyO.done
    | with_reducible exact Only.refl _ _
    | with_reducible apply Only.wr
    | decide)

theorem State.stageImage_only (s : State) (r : Nat) (e : BitVec 512) (data : Option (List Byte)) :
    Only 0xcd000002ac0000 s (State.stageImage s r e data) := by
  unfold State.stageImage
  dsimp only
  repeat' (first
    | with_reducible exact Only.refl _ _
    | with_reducible apply Only.wr
    | with_reducible apply Only.app (hg := State.complete_only ..)
    | with_reducible apply Only.app (hg := State.onFwu_only ..)
    | with_reducible apply Only.app (hg := State.draw_only ..)
    | with_reducible apply Only.app (hg := State.fwErr_only ..)
    | with_reducible apply State.refuse_only
    | decide
    | split
    | intro _
    | (with_reducible apply Only.upd <;> try (first | exact Or.inl (by decide) | exact Or.inr rfl)))

theorem execFwStage_only (r : Fin 16) (data : Option (List Byte)) (s : State) :
    OnlyO 0xcd000003ac0000 s (execFwStage r data s) := by
  unfold execFwStage
  repeat' (first
    | with_reducible apply OnlyO.done
    | with_reducible exact Only.refl _ _
    | with_reducible apply Only.app (hg := State.stageImage_only ..)
    | with_reducible apply Only.app (hg := State.complete_only ..)
    | decide
    | split
    | (with_reducible apply Only.upd <;> try (first | exact Or.inl (by decide) | exact Or.inr rfl)))

theorem State.stageDone_only (s : State) (j : StageJob) (flashOk : Bool) :
    Only 0xed000002ac0000 s (State.stageDone s j flashOk) := by
  unfold State.stageDone
  dsimp only
  repeat' (first
    | with_reducible exact Only.refl _ _
    | with_reducible apply Only.wr
    | with_reducible apply Only.flag
    | with_reducible apply Only.app (hg := State.onFwu_only ..)
    | with_reducible apply Only.app (hg := State.flashStore_only ..)
    | with_reducible apply Only.app (hg := State.putHead_only ..)
    | with_reducible apply Only.app (hg := State.headRegs_only ..)
    | with_reducible apply Only.app (hg := State.completeHeld_only ..)
    | with_reducible apply Only.app (hg := State.draw_only ..)
    | with_reducible apply Only.app (hg := State.fwErr_only ..)
    | decide
    | split
    | (with_reducible apply Only.upd <;> try (first | exact Or.inl (by decide) | exact Or.inr rfl)))

theorem execFwStageDone_only (flashOk : Bool) (s : State) :
    OnlyO 0xed800003ac0000 s (execFwStageDone flashOk s) := by
  unfold execFwStageDone
  dsimp only
  repeat' (first
    | with_reducible apply OnlyO.done
    | with_reducible exact Only.refl _ _
    | with_reducible apply Only.app (hg := State.stageDone_only ..)
    | with_reducible apply Only.app (hg := State.heldSave_only ..)
    | decide
    | split
    | (with_reducible apply Only.upd <;> try (first | exact Or.inl (by decide) | exact Or.inr rfl)))

theorem State.burnOtp_only (s : State) (h : List Byte) :
    Only 0x4000000200000 s (State.burnOtp s h) := by
  unfold State.burnOtp
  dsimp only
  repeat' (first
    | with_reducible exact Only.refl _ _
    | with_reducible apply Only.wr
    | with_reducible apply Only.app (hg := State.onFwu_only ..)
    | decide
    | (with_reducible apply Only.upd <;> try (first | exact Or.inl (by decide) | exact Or.inr rfl)))

theorem State.confirmImage_only (s : State) (i : Image) :
    Only 0x24800000200000 s (State.confirmImage s i) := by
  unfold State.confirmImage
  dsimp only
  repeat' (first
    | with_reducible exact Only.refl _ _
    | with_reducible apply Only.wr
    | with_reducible apply Only.flag
    | with_reducible apply Only.app (hg := State.putHead_only ..)
    | with_reducible apply Only.app (hg := State.headRegs_only ..)
    | with_reducible apply Only.app (hg := State.burnOtp_only ..)
    | with_reducible apply Only.app (hg := State.setLock_only ..)
    | with_reducible apply Only.app (hg := State.writeStore_only ..)
    | (with_reducible refine Only.ofFst (by assumption) ?_; with_reducible apply Only.app (hg := State.writeStore_only ..))
    | with_reducible apply Only.app (hg := State.heldSave_only ..)
    | decide
    | split
    | (with_reducible apply Only.upd <;> try (first | exact Or.inl (by decide) | exact Or.inr rfl)))

theorem State.confirmCmd_only (s : State) (r : Nat) (e : BitVec 512) :
    Only 0xefbdfd07ffffff s (State.confirmCmd s r e) := by
  unfold State.confirmCmd
  dsimp only
  repeat' (first
    | with_reducible exact Only.refl _ _
    | with_reducible apply Only.app (hg := State.complete_only ..)
    | with_reducible apply Only.app (hg := State.confirmImage_only ..)
    | with_reducible apply Only.app (hg := State.putHead_only ..)
    | with_reducible apply Only.app (hg := State.fullReset_only ..)
    | decide
    | split
    | (with_reducible apply Only.upd <;> try (first | exact Or.inl (by decide) | exact Or.inr rfl)))

theorem execFwConfirm_only (r : Fin 16) (s : State) :
    OnlyO 0xefbdfd07ffffff s (execFwConfirm r s) := by
  unfold execFwConfirm
  repeat' (first
    | with_reducible apply OnlyO.done
    | with_reducible exact Only.refl _ _
    | with_reducible apply Only.app (hg := State.confirmCmd_only ..)
    | with_reducible apply Only.app (hg := State.complete_only ..)
    | decide
    | split
    | (with_reducible apply Only.upd <;> try (first | exact Or.inl (by decide) | exact Or.inr rfl)))

theorem State.runRegs_only (s : State) (i : Image) (slot : Bool) :
    Only 0x200000 s (State.runRegs s i slot) := by
  unfold State.runRegs
  dsimp only
  repeat' (first
    | with_reducible exact Only.refl _ _
    | with_reducible apply Only.wr
    | with_reducible apply Only.wrB
    | decide)

theorem State.livePart_only (s : State) (part : Nat) :
    Only 0x4000400200000 s (State.livePart s part) := by
  unfold State.livePart
  dsimp only
  repeat' (first
    | with_reducible exact Only.refl _ _
    | with_reducible apply Only.wr
    | with_reducible apply Only.flag
    | with_reducible apply Only.app (hg := State.onFwu_only ..)
    | with_reducible apply Only.app (hg := State.runRegs_only ..)
    | with_reducible apply Only.app (hg := State.setLock_only ..)
    | decide
    | split
    | (with_reducible apply Only.upd <;> try (first | exact Or.inl (by decide) | exact Or.inr rfl)))

theorem State.liveManagement_only (s : State) :
    Only 0x4000400a00000 s (State.liveManagement s) := by
  unfold State.liveManagement
  repeat' (first
    | with_reducible exact Only.refl _ _
    | with_reducible apply Only.wr
    | with_reducible apply Only.flag
    | with_reducible apply Only.app (hg := State.livePart_only ..)
    | decide)

theorem State.liveCmd_only (s : State) (r : Nat) (e : BitVec 512) :
    Only 0x4d008402ac0000 s (State.liveCmd s r e) := by
  unfold State.liveCmd
  dsimp only
  repeat' (first
    | with_reducible exact Only.refl _ _
    | with_reducible apply Only.app (hg := State.complete_only ..)
    | with_reducible apply Only.app (hg := State.fwErr_only ..)
    | with_reducible apply Only.app (hg := State.liveManagement_only ..)
    | with_reducible apply Only.app (hg := State.substitute_only ..)
    | with_reducible apply Only.app (hg := State.onFwu_only ..)
    | decide
    | split
    | (with_reducible apply Only.upd <;> try (first | exact Or.inl (by decide) | exact Or.inr rfl)))

theorem execFwLive_only (r : Fin 16) (s : State) :
    OnlyO 0x4d008403ac0000 s (execFwLive r s) := by
  unfold execFwLive
  repeat' (first
    | with_reducible apply OnlyO.done
    | with_reducible exact Only.refl _ _
    | with_reducible apply Only.app (hg := State.liveCmd_only ..)
    | with_reducible apply Only.app (hg := State.complete_only ..)
    | decide
    | split
    | (with_reducible apply Only.upd <;> try (first | exact Or.inl (by decide) | exact Or.inr rfl)))

theorem State.clusterBack_only (s : State) (c : Nat) :
    Only 0x8000000080 s (State.clusterBack s c) := by
  unfold State.clusterBack
  repeat' (first
    | with_reducible exact Only.refl _ _
    | with_reducible apply Only.wr
    | decide
    | (rw [blk_JST_CLSTAT_STATE]; decide)
    | (with_reducible apply Only.upd <;> try (first | exact Or.inl (by decide) | exact Or.inr rfl)))

theorem State.liveStep_only (s : State) (j : LiveJob) :
    Only 0x4d008402ac0080 s (State.liveStep s j) := by
  unfold State.liveStep
  dsimp only
  repeat' (first
    | with_reducible exact Only.refl _ _
    | with_reducible apply Only.wr
    | with_reducible apply Only.app (hg := State.onFwu_only ..)
    | with_reducible apply Only.app (hg := State.completeHeld_only ..)
    | with_reducible apply Only.app (hg := State.clusterBack_only ..)
    | with_reducible apply Only.app (hg := State.substitute_only ..)
    | with_reducible apply Only.app (hg := State.livePart_only ..)
    | decide
    | split
    | (with_reducible apply Only.upd <;> try (first | exact Or.inl (by decide) | exact Or.inr rfl)))

theorem execLiveClusterStep_only (s : State) :
    OnlyO 0x4d008403ac0080 s (execLiveClusterStep s) := by
  unfold execLiveClusterStep
  repeat' (first
    | with_reducible apply OnlyO.done
    | with_reducible exact Only.refl _ _
    | with_reducible apply Only.app (hg := State.liveStep_only ..)
    | decide
    | split
    | (with_reducible apply Only.upd <;> try (first | exact Or.inl (by decide) | exact Or.inr rfl)))

theorem State.recAnswer_only (s : State) (via : RecPath) (op : Nat) (a0 : Nat) (a1 : Nat) (res : Nat) :
    Only 0x44000000000000 s (State.recAnswer s via op a0 a1 res) := by
  unfold State.recAnswer
  dsimp only
  repeat' (first
    | with_reducible exact Only.refl _ _
    | with_reducible apply Only.app (hg := State.emit_only ..)
    | with_reducible apply Only.app (hg := State.onFwu_only ..)
    | decide
    | split
    | (with_reducible apply Only.upd <;> try (first | exact Or.inl (by decide) | exact Or.inr rfl)))

theorem execBegin_only (via : RecPath) (arg0 : Word) (arg1 : Word) (s : State) :
    OnlyO 0x44000003000000 s (execBegin via arg0 arg1 s) := by
  unfold execBegin
  dsimp only
  repeat' (first
    | with_reducible apply OnlyO.done
    | with_reducible exact Only.refl _ _
    | with_reducible apply Only.app (hg := State.onFwu_only ..)
    | with_reducible apply Only.app (hg := State.recAnswer_only ..)
    | decide
    | split
    | (with_reducible apply Only.upd <;> try (first | exact Or.inl (by decide) | exact Or.inr rfl)))

theorem State.recTake_only (s : State) (x : Receipt) (data : List Byte) (flashOk : Bool) :
    Only 0x24000000200000 s (State.recTake s x data flashOk).1 := by
  unfold State.recTake
  dsimp only
  repeat' (first
    | with_reducible exact Only.refl _ _
    | with_reducible apply Only.app (hg := State.onFwu_only ..)
    | with_reducible apply Only.app (hg := State.fwErr_only ..)
    | with_reducible apply Only.app (hg := State.flashStore_only ..)
    | decide
    | split
    | (with_reducible apply Only.upd <;> try (first | exact Or.inl (by decide) | exact Or.inr rfl)))

theorem execChunk_only (via : RecPath) (arg0 : Word) (arg1 : Word) (data : List Byte) (flashOk : Bool) (s : State) :
    OnlyO 0x64000003200000 s (execChunk via arg0 arg1 data flashOk s) := by
  unfold execChunk
  dsimp only
  repeat' (first
    | with_reducible apply OnlyO.done
    | with_reducible exact Only.refl _ _
    | with_reducible apply Only.app (hg := State.recAnswer_only ..)
    | with_reducible apply Only.app (hg := State.recTake_only ..)
    | (with_reducible refine Only.ofFst (by assumption) ?_; with_reducible apply Only.app (hg := State.recTake_only ..))
    | decide
    | split
    | (with_reducible apply Only.upd <;> try (first | exact Or.inl (by decide) | exact Or.inr rfl)))

theorem execRecoveryCommit_only (via : RecPath) (flashOk : Bool) (s : State) :
    OnlyO 0x64000003200000 s (execRecoveryCommit via flashOk s) := by
  unfold execRecoveryCommit
  dsimp only
  repeat' (first
    | with_reducible apply OnlyO.done
    | with_reducible exact Only.refl _ _
    | with_reducible apply Only.app (hg := State.recAnswer_only ..)
    | with_reducible apply Only.app (hg := State.fwErr_only ..)
    | with_reducible apply Only.app (hg := State.putHead_only ..)
    | with_reducible apply Only.app (hg := State.onFwu_only ..)
    | decide
    | split
    | (with_reducible apply Only.upd <;> try (first | exact Or.inl (by decide) | exact Or.inr rfl)))

theorem execEraseset_only (path : RecPath) (flashOk : Bool) (s : State) : OnlyO 0x64000003200000 s (execEraseset path flashOk s) := by
  unfold execEraseset
  split
  · exact OnlyO.done (Only.refl _ _) (by decide)
  · split
    · exact OnlyO.done (((Only.refl _ s).wr (by decide)).app (State.recAnswer_only ..) (by decide)) (by decide)
    · refine OnlyO.done (Only.app ?_ (State.recAnswer_only ..) (by decide)) (by decide)
      constructor
      case wf =>
        intro h
        simp only [State.wf, State.regsWf, Memory.wf, Bool.and_eq_true] at h ⊢
        exact ⟨h.1, h.2.1, mapWf_filter _ _ _ h.2.2⟩
      case reg => exact fun _ _ => rfl
      case flash => exact Or.inl (by decide)
      all_goals first | exact Or.inr rfl | rfl

theorem execBaud_only (via : RecPath) (arg0 : Word) (s : State) :
    OnlyO 0x44000003000000 s (execBaud via arg0 s) := by
  unfold execBaud
  repeat' (first
    | with_reducible apply OnlyO.done
    | with_reducible exact Only.refl _ _
    | with_reducible apply Only.app (hg := State.onFwu_only ..)
    | with_reducible apply Only.app (hg := State.recAnswer_only ..)
    | decide
    | split
    | (with_reducible apply Only.upd <;> try (first | exact Or.inl (by decide) | exact Or.inr rfl)))

end Sys2Proof.Machine
end

