-- ==== Sys2Proof/Laws/OnlyPlumb.lean ====
section
/-!
SUPPORT. What each operation of Machine/Plumb.lean may change: its register blocks and parts of the state, as the mask of `Only`.
-/
namespace Sys2Proof.Machine

set_option linter.unusedTactic false
set_option linter.unreachableTactic false

theorem execRoundTick_only (temps : List (BitVec 12)) (pkg : BitVec 12) (s : State) :
    OnlyO 0xeffdfd07ffffff s (execRoundTick temps pkg s) := by
  unfold execRoundTick
  dsimp only
  repeat' (first
    | with_reducible apply OnlyO.done
    | with_reducible exact Only.refl _ _
    | with_reducible apply Only.app (hg := State.thermalTick_only ..)
    | with_reducible apply Only.app (hg := State.roundTick_only ..)
    | with_reducible apply Only.app (hg := State.tempTriggers_only ..)
    | decide
    | split)

theorem execCalibrationPeriod_only (k : Fin 6) (s : State) :
    OnlyO 0x40a00003030000 s (execCalibrationPeriod k s) := by
  unfold execCalibrationPeriod
  dsimp only
  repeat' (first
    | with_reducible apply OnlyO.done
    | with_reducible exact Only.refl _ _
    | with_reducible apply Only.app (hg := State.startRun_only ..)
    | decide
    | split)

theorem execPlbCmdCd_only (s : State) :
    OnlyO 0x40a00003030000 s (execPlbCmdCd s) := by
  unfold execPlbCmdCd
  repeat' (first
    | with_reducible apply OnlyO.done
    | with_reducible exact Only.refl _ _
    | with_reducible apply Only.app (hg := State.startRun_only ..)
    | decide)

theorem execPlbCmdWf_only (s : State) :
    OnlyO 0x40a00003030000 s (execPlbCmdWf s) := by
  unfold execPlbCmdWf
  repeat' (first
    | with_reducible apply OnlyO.done
    | with_reducible exact Only.refl _ _
    | with_reducible apply Only.app (hg := State.startRun_only ..)
    | decide)

theorem execPlbCmdHk_only (s : State) :
    OnlyO 0x40a00003030000 s (execPlbCmdHk s) := by
  unfold execPlbCmdHk
  repeat' (first
    | with_reducible apply OnlyO.done
    | with_reducible exact Only.refl _ _
    | with_reducible apply Only.app (hg := State.startRun_only ..)
    | decide)

theorem execCodeDensityDone_only (t : Fin 1056) (s : State) :
    OnlyO 0x48804003820010 s (execCodeDensityDone t s) := by
  unfold execCodeDensityDone
  dsimp only
  repeat' (first
    | with_reducible apply OnlyO.done
    | with_reducible exact Only.refl _ _
    | with_reducible apply Only.app (hg := State.cdFail_only ..)
    | with_reducible apply Only.app (hg := State.cdTake_only ..)
    | with_reducible apply Only.app (hg := State.cdFinish_only ..)
    | decide
    | split)

theorem execCodeDensityTimeout_only (t : Fin 1056) (s : State) :
    OnlyO 0x48804003820010 s (execCodeDensityTimeout t s) := by
  unfold execCodeDensityTimeout
  repeat' (first
    | with_reducible apply OnlyO.done
    | with_reducible exact Only.refl _ _
    | with_reducible apply Only.app (hg := State.cdFail_only ..)
    | with_reducible apply Only.app (hg := State.cdFinish_only ..)
    | decide
    | split)

theorem State.ilvWrite_only (s : State) (meas : List (Nat × IlvMeas)) : Only 0x4000 s (State.ilvWrite s meas).1 := by
  have hfold : ∀ {α : Type} (l : List α) (F : State × Bool → α → State × Bool) (p : State × Bool),
      (∀ q a, Only 0x4000 q.1 (F q a).1) → Only 0x4000 p.1 (l.foldl F p).1 := by
    intro α l F
    induction l with
    | nil => intro p _; exact Only.refl _ _
    | cons a r ih => intro p hF; exact (hF p a).trans (ih _ hF)
  unfold State.ilvWrite
  extract_lets act new n s1 s2
  have h1 : Only 0x4000 s s1 := by
    refine Only.foldl (Only.refl _ _) ?_
    intro t i
    exact (((Only.refl _ t).wr (by rw [blk_WFP_CORA_OFS]; decide)).wr (by rw [blk_WFP_CORA_GAIN]; decide)).wr
      (by rw [blk_WFP_CORB_SKEW]; decide)
  have h2 : Only 0x4000 s s2 := by
    refine Only.foldl h1 ?_
    intro t i
    exact (Only.refl _ t).wrS (by rw [blk_WFP_CORA_OFS]; decide)
  refine h2.trans (hfold _ _ (s2, false) ?_)
  intro q p
  dsimp only
  split
  · split
    · exact Only.refl _ _
    · split
      · exact Only.refl _ _
      · exact ((Only.refl _ q.1).wrS (by rw [blk_WFP_CORA_GAIN]; decide)).wrS (by rw [blk_WFP_CORB_SKEW]; decide)
  · exact Only.refl _ _

theorem execInterleaveRunDone_only (meas : List (Fin 32 × Int × Nat × Int × Int)) (s : State) :
    OnlyO 0x48840003824000 s (execInterleaveRunDone meas s) := by
  unfold execInterleaveRunDone
  dsimp only
  repeat' (first
    | with_reducible apply OnlyO.done
    | with_reducible exact Only.refl _ _
    | with_reducible apply Only.wr
    | with_reducible apply Only.flag
    | with_reducible apply Only.app (hg := State.corSwap_only ..)
    | with_reducible apply Only.app (hg := State.ilvWrite_only ..)
    | (with_reducible refine Only.ofFst (by assumption) ?_; with_reducible apply Only.app (hg := State.ilvWrite_only ..))
    | with_reducible apply State.fault_only
    | with_reducible apply Only.app (hg := State.onPlb_only ..)
    | with_reducible apply Only.when
    | decide
    | split
    | intro _
    | (with_reducible apply Only.upd <;> try (first | exact Or.inl (by decide) | exact Or.inr rfl)))

theorem State.hkFinish_only (s : State) :
    Only 0x810000020000 s (State.hkFinish s) := by
  unfold State.hkFinish
  dsimp only
  repeat' (first
    | with_reducible exact Only.refl _ _
    | with_reducible apply Only.wr
    | with_reducible apply Only.flag
    | with_reducible apply Only.app (hg := State.onPlb_only ..)
    | with_reducible apply Only.app (hg := State.markCal_only ..)
    | decide
    | split
    | (with_reducible apply Only.upd <;> try (first | exact Or.inl (by decide) | exact Or.inr rfl)))

theorem execCalibrationRun_only (adc : Bool) (sz : Int) (sr : Int) (s : State) :
    OnlyO 0x48a10003830000 s (execCalibrationRun adc sz sr s) := by
  unfold execCalibrationRun
  dsimp only
  repeat' (first
    | with_reducible apply OnlyO.done
    | with_reducible exact Only.refl _ _
    | with_reducible apply Only.wr
    | with_reducible apply Only.wrS
    | with_reducible apply Only.app (hg := State.onPlb_only ..)
    | with_reducible apply State.fault_only
    | with_reducible apply Only.app (hg := State.switch_only ..)
    | with_reducible apply Only.app (hg := State.calStart_only ..)
    | with_reducible apply Only.app (hg := State.hkFinish_only ..)
    | decide
    | (rw [blk_SIL_CORGAIN_GAIN]; decide)
    | (rw [blk_SIL_COROFS_OFS]; decide)
    | split
    | intro _
    | (with_reducible apply Only.upd <;> try (first | exact Or.inl (by decide) | exact Or.inr rfl)))

theorem execRznoref_only (g : Fin 32) (s : State) :
    OnlyO 0x48800003820000 s (execRznoref g s) := by
  unfold execRznoref
  repeat' (first
    | with_reducible apply OnlyO.done
    | with_reducible exact Only.refl _ _
    | with_reducible apply Only.app (hg := State.onPlb_only ..)
    | with_reducible apply State.fault_only
    | decide
    | split
    | intro _
    | (with_reducible apply Only.upd <;> try (first | exact Or.inl (by decide) | exact Or.inr rfl)))

theorem execQuiet_only (ch : Fin 1024) (s : State) :
    OnlyO 0x48000003820000 s (execQuiet ch s) := by
  unfold execQuiet
  dsimp only
  repeat' (first
    | with_reducible apply OnlyO.done
    | with_reducible exact Only.refl _ _
    | with_reducible apply Only.wr
    | with_reducible apply State.fault_only
    | decide
    | (rw [blk_PLB_CDQ_QUIET]; decide)
    | (rw [blk_PLB_QUIET_CH]; decide)
    | split
    | intro _)

end Sys2Proof.Machine
end

