-- ==== Sys2Proof/Laws/OnlyBootOps.lean ====
section
/-!
SUPPORT. What each operation of Machine/BootOps.lean may change: its register blocks and parts of the state, as the mask of `Only`.
-/
namespace Sys2Proof.Machine

set_option linter.unusedTactic false
set_option linter.unreachableTactic false

theorem State.onBoot_only (s : State) (f : BootState → BootState) :
    Only 0x400000000 s (State.onBoot s f) := by
  unfold State.onBoot
  repeat' (first
    | with_reducible exact Only.refl _ _
    | decide
    | (with_reducible apply Only.upd <;> try (first | exact Or.inl (by decide) | exact Or.inr rfl)))

theorem State.enterRecovery_only (s : State) (cause : Nat) (detail : Nat) :
    Only 0x4c000000a00001 s (State.enterRecovery s cause detail) := by
  unfold State.enterRecovery
  repeat' (first
    | with_reducible exact Only.refl _ _
    | with_reducible apply Only.wr
    | with_reducible apply Only.app (hg := State.onFwu_only ..)
    | with_reducible apply Only.app (hg := State.stageLine_only ..)
    | decide
    | (with_reducible apply Only.upd <;> try (first | exact Or.inl (by decide) | exact Or.inr rfl)))

theorem State.bootEnds_only (s : State) (cause : Nat) :
    Only 0x48000400800001 s (State.bootEnds s cause) := by
  unfold State.bootEnds
  repeat' (first
    | with_reducible exact Only.refl _ _
    | with_reducible apply Only.app (hg := State.stall_only ..)
    | with_reducible apply Only.app (hg := State.onBoot_only ..)
    | decide
    | (with_reducible apply Only.upd <;> try (first | exact Or.inl (by decide) | exact Or.inr rfl)))

theorem State.powerState_only (s : State) (low : Bool) (powered : Bool) (sel : BitVec 2) :
    Only 0xffffff07ffffff s (State.powerState s low powered sel) := by
  unfold State.powerState
  dsimp only
  repeat' (first
    | with_reducible exact Only.refl _ _
    | with_reducible apply Only.app (hg := State.powerReset_only ..)
    | with_reducible apply Only.app (hg := State.onBoot_only ..)
    | with_reducible apply Only.app (hg := State.emit_only ..)
    | with_reducible apply Only.when
    | decide
    | intro _
    | (with_reducible apply Only.upd <;> try (first | exact Or.inl (by decide) | exact Or.inr rfl)))

theorem State.pinsLow_only (s : State) :
    Only 0x40000000000000 s (State.pinsLow s) := by
  unfold State.pinsLow
  dsimp only
  repeat' (first
    | with_reducible exact Only.refl _ _
    | with_reducible apply Only.app (hg := State.emit_only ..)
    | with_reducible apply Only.foldl
    | decide
    | split
    | intro _)

theorem State.linkGone_only (s : State) :
    Only 0x840000 s (State.linkGone s) := by
  unfold State.linkGone
  repeat' (first
    | with_reducible exact Only.refl _ _
    | with_reducible apply Only.wr
    | decide)

theorem State.journalNew_only (s : State) :
    Only 0x80010000000000 s (State.journalNew s) := by
  unfold State.journalNew
  repeat' (first
    | with_reducible exact Only.refl _ _
    | with_reducible apply Only.app (hg := State.draw_only ..)
    | decide
    | (with_reducible apply Only.upd <;> try (first | exact Or.inl (by decide) | exact Or.inr rfl)))

theorem State.hbmGone_only (s : State) : Only 0x1f8ae800000000 s (State.hbmGone s) := by
  unfold State.hbmGone
  constructor
  case wf =>
    intro h
    simp only [State.wf, State.regsWf, Memory.wf, Bool.and_eq_true] at h ⊢
    exact ⟨h.1, rfl, h.2.2⟩
  case reg => exact fun _ _ => rfl
  all_goals first | exact Or.inl (by decide) | exact Or.inr rfl | rfl

theorem State.hbmLoss_only (s : State) : Only 0x9f8bec00840224 s (State.hbmLoss s) := by
  unfold State.hbmLoss
  extract_lets s1 s2
  have h0 : Only 0x9f8bec00840224 s s.journalNew.hbmGone :=
    ((Only.refl _ s).app (State.journalNew_only ..) (by decide)).app (State.hbmGone_only ..) (by decide)
  have h1 : Only 0x9f8bec00840224 s s1 := Only.foldl h0 (fun t q => (Only.refl _ t).wr (by rw [blk_HIF_QSTATE_STATE]; decide))
  have h2 : Only 0x9f8bec00840224 s s2 := Only.foldl h1 (fun t r => ((Only.refl _ t).wr (by rw [blk_HIF_CRLASTLO_CID]; decide)).wr
    (by rw [blk_HIF_CRLASTHI_CID]; decide))
  exact (State.fault_only ((h2.wr (by decide)).wr (by decide)) (by decide) (by decide)).app (State.onBoot_only ..) (by decide)

theorem State.otpRegs_only (s : State) :
    Only 0x200000 s (State.otpRegs s) := by
  unfold State.otpRegs
  repeat' (first
    | with_reducible exact Only.refl _ _
    | with_reducible apply Only.wr
    | decide)

theorem State.romChoice_only (s : State) :
    Only 0x6c000400a00001 s (State.romChoice s) := by
  unfold State.romChoice
  dsimp only
  repeat' (first
    | with_reducible exact Only.refl _ _
    | with_reducible apply Only.app (hg := State.onBoot_only ..)
    | with_reducible apply Only.app (hg := State.enterRecovery_only ..)
    | with_reducible apply Only.app (hg := State.putHead_only ..)
    | with_reducible apply Only.app (hg := State.onFwu_only ..)
    | with_reducible apply Only.app (hg := State.stageLine_only ..)
    | with_reducible apply Only.app (hg := State.enterStage_only ..)
    | decide
    | split
    | (with_reducible apply Only.upd <;> try (first | exact Or.inl (by decide) | exact Or.inr rfl)))

theorem State.slotFails_only (s : State) :
    Only 0x6c000400a00001 s (State.slotFails s) := by
  unfold State.slotFails
  dsimp only
  repeat' (first
    | with_reducible exact Only.refl _ _
    | with_reducible apply Only.app (hg := State.putHead_only ..)
    | with_reducible apply Only.app (hg := State.onFwu_only ..)
    | with_reducible apply Only.app (hg := State.stageLine_only ..)
    | with_reducible apply Only.app (hg := State.enterRecovery_only ..)
    | with_reducible apply Only.app (hg := State.onBoot_only ..)
    | with_reducible apply Only.app (hg := State.enterStage_only ..)
    | decide
    | split
    | (with_reducible apply Only.upd <;> try (first | exact Or.inl (by decide) | exact Or.inr rfl)))

theorem State.imageStage_only (s : State) :
    Only 0x6c000400a00001 s (State.imageStage s) := by
  unfold State.imageStage
  dsimp only
  repeat' (first
    | with_reducible exact Only.refl _ _
    | with_reducible apply Only.flag
    | with_reducible apply Only.app (hg := State.enterStage_only ..)
    | with_reducible apply Only.app (hg := State.onFwu_only ..)
    | with_reducible apply Only.app (hg := State.fwErr_only ..)
    | with_reducible apply Only.app (hg := State.slotFails_only ..)
    | decide
    | split
    | (with_reducible apply Only.upd <;> try (first | exact Or.inl (by decide) | exact Or.inr rfl)))

theorem State.restore1_only (s : State) (b : List Byte) (full : Bool) :
    Only 0x7ffffff s (State.restore1 s b full) := by
  unfold State.restore1
  repeat' (first
    | with_reducible exact Only.refl _ _
    | with_reducible apply Only.app (hg := State.putImage_only ..)
    | with_reducible apply Only.foldl
    | decide
    | intro _)

theorem State.putStaged_only (s : State) (c : EpochCfg) :
    Only 0xe0 s (State.putStaged s c) := by
  unfold State.putStaged
  dsimp only
  repeat' (first
    | with_reducible exact Only.refl _ _
    | with_reducible apply Only.wr
    | with_reducible apply Only.wrB
    | with_reducible apply Only.foldl
    | decide
    | (rw [blk_JST_ZONESEL_SLOT]; decide)
    | intro _)

theorem State.restoreAlloc_only (s : State) (l : List SetRec) :
    Only 0xc000000a00000 s (State.restoreAlloc s l) := by
  unfold State.restoreAlloc
  dsimp only
  repeat' (first
    | with_reducible exact Only.refl _ _
    | with_reducible apply Only.app (hg := State.onFwu_only ..)
    | with_reducible apply Only.app (hg := State.reportFree_only ..)
    | decide
    | split
    | (with_reducible apply Only.upd <;> try (first | exact Or.inl (by decide) | exact Or.inr rfl)))

theorem State.restoreTruss_only (s : State) (l : List SetRec) :
    Only 0x100007ffffff s (State.restoreTruss s l) := by
  unfold State.restoreTruss
  dsimp only
  repeat' (first
    | with_reducible exact Only.refl _ _
    | with_reducible apply Only.app (hg := State.putImage_only ..)
    | with_reducible apply Only.app (hg := State.inputMode_only ..)
    | with_reducible apply Only.app (hg := State.onTrs_only ..)
    | with_reducible apply Only.foldl
    | decide
    | split
    | intro _
    | (with_reducible apply Only.upd <;> try (first | exact Or.inl (by decide) | exact Or.inr rfl)))

theorem State.girtDefaults_only (s : State) :
    Only 0x9092000c08200 s (State.girtDefaults s) := by
  unfold State.girtDefaults
  dsimp only
  repeat' (first
    | with_reducible exact Only.refl _ _
    | with_reducible apply Only.wr
    | with_reducible apply Only.app (hg := State.capture_only ..)
    | with_reducible apply Only.foldl
    | decide
    | (rw [blk_GRT_RIGHTS_RIGHTS]; decide)
    | (rw [blk_GRT_WINBASE_BASE]; decide)
    | (rw [blk_GRT_WINBASE_EN]; decide)
    | (rw [blk_GRT_WINLAST_LAST]; decide)
    | split
    | intro _)

theorem State.restoreGirt_only (s : State) (l : List SetRec) :
    Only 0x9092007ffffff s (State.restoreGirt s l) := by
  unfold State.restoreGirt
  repeat' (first
    | with_reducible exact Only.refl _ _
    | with_reducible apply Only.wr
    | with_reducible apply Only.app (hg := State.putImage_only ..)
    | with_reducible apply Only.app (hg := State.girtDefaults_only ..)
    | with_reducible apply Only.foldl
    | decide
    | (rw [blk_GRT_RIGHTS_RIGHTS]; decide)
    | split
    | intro _
    | (with_reducible apply Only.upd <;> try (first | exact Or.inl (by decide) | exact Or.inr rfl)))

theorem State.settingsTable_only (s : State) (l : List SetRec) (kind : Nat) :
    Only 0x19000000a00000 s (State.settingsTable s l kind).1 := by
  unfold State.settingsTable
  dsimp only
  repeat' (first
    | with_reducible exact Only.refl _ _
    | with_reducible apply Only.app (hg := State.reportFree_only ..)
    | with_reducible apply Only.app (hg := State.stageTable_only ..)
    | (with_reducible refine Only.ofFst (by assumption) ?_; with_reducible apply Only.app (hg := State.stageTable_only ..))
    | decide
    | split
    | (with_reducible apply Only.upd <;> try (first | exact Or.inl (by decide) | exact Or.inr rfl)))

theorem State.keptTable_only (s : State) (l : List SetRec) (kind : Nat) (addr : Nat) :
    Only 0x19000000a00000 s (State.keptTable s l kind addr).1 := by
  unfold State.keptTable
  repeat' (first
    | with_reducible exact Only.refl _ _
    | with_reducible apply Only.app (hg := State.reportFree_only ..)
    | with_reducible apply Only.app (hg := State.settingsTable_only ..)
    | (with_reducible refine Only.ofFst (by assumption) ?_; with_reducible apply Only.app (hg := State.settingsTable_only ..))
    | decide
    | split)

theorem State.restoreTables_only (s : State) (l : List SetRec) (kept : Bool) :
    Only 0x19902000a00000 s (State.restoreTables s l kept) := by
  unfold State.restoreTables
  dsimp only
  repeat' (first
    | with_reducible exact Only.refl _ _
    | with_reducible apply Only.app (hg := State.keptTable_only ..)
    | (with_reducible refine Only.ofFst (by assumption) ?_; with_reducible apply Only.app (hg := State.keptTable_only ..))
    | with_reducible apply Only.app (hg := State.settingsTable_only ..)
    | (with_reducible refine Only.ofFst (by assumption) ?_; with_reducible apply Only.app (hg := State.settingsTable_only ..))
    | with_reducible apply Only.app (hg := State.onHif_only ..)
    | with_reducible apply Only.app (hg := State.onTrs_only ..)
    | with_reducible apply Only.app (hg := State.stageTable_only ..)
    | (with_reducible refine Only.ofFst (by assumption) ?_; with_reducible apply Only.app (hg := State.stageTable_only ..))
    | with_reducible apply Only.app (hg := State.onPlb_only ..)
    | decide
    | split
    | (with_reducible apply Only.upd <;> try (first | exact Or.inl (by decide) | exact Or.inr rfl)))

theorem State.imageRuns_only (s : State) (i : Image) :
    Only 0x4000000200000 s (State.imageRuns s i) := by
  unfold State.imageRuns
  dsimp only
  repeat' (first
    | with_reducible exact Only.refl _ _
    | with_reducible apply Only.wr
    | with_reducible apply Only.wrB
    | with_reducible apply Only.app (hg := State.runRegs_only ..)
    | with_reducible apply Only.app (hg := State.headRegs_only ..)
    | with_reducible apply Only.app (hg := State.otpRegs_only ..)
    | with_reducible apply Only.app (hg := State.onFwu_only ..)
    | decide
    | split
    | (with_reducible apply Only.upd <;> try (first | exact Or.inl (by decide) | exact Or.inr rfl)))

theorem State.fallback_only (s : State) (i : Image) :
    Only 0x20000000200000 s (State.fallback s i) := by
  unfold State.fallback
  repeat' (first
    | with_reducible exact Only.refl _ _
    | with_reducible apply Only.flag
    | with_reducible apply Only.app (hg := State.putHead_only ..)
    | with_reducible apply Only.app (hg := State.headRegs_only ..)
    | decide
    | split
    | (with_reducible apply Only.upd <;> try (first | exact Or.inl (by decide) | exact Or.inr rfl)))

theorem State.applySettings_only (s : State) (l : List SetRec) (power : Bool) :
    Only 0xdfbb7007ffffff s (State.applySettings s l power) := by
  unfold State.applySettings
  dsimp only
  repeat' (first
    | with_reducible exact Only.refl _ _
    | with_reducible apply Only.wr
    | with_reducible apply Only.app (hg := State.onFwu_only ..)
    | with_reducible apply Only.app (hg := State.restoreAlloc_only ..)
    | with_reducible apply Only.app (hg := State.restore1_only ..)
    | with_reducible apply Only.app (hg := State.putStaged_only ..)
    | with_reducible apply Only.app (hg := State.krfRestore_only ..)
    | with_reducible apply Only.app (hg := State.restoreTruss_only ..)
    | with_reducible apply Only.app (hg := State.unpackCal_only ..)
    | with_reducible apply Only.app (hg := State.restoreGirt_only ..)
    | with_reducible apply Only.app (hg := State.restoreTables_only ..)
    | with_reducible apply Only.app (hg := State.restoreTrained_only ..)
    | with_reducible apply Only.app (hg := State.lbkLayout_only ..)
    | with_reducible apply Only.app (hg := State.tieConfig_only ..)
    | with_reducible apply Only.when
    | with_reducible apply Only.foldl
    | decide
    | split
    | intro _
    | (with_reducible apply Only.upd <;> try (first | exact Or.inl (by decide) | exact Or.inr rfl)))

theorem State.readRails_only (s : State) (l : List SetRec) :
    Only 0x40000000000000 s (State.readRails s l) := by
  unfold State.readRails
  repeat' (first
    | with_reducible exact Only.refl _ _
    | with_reducible apply Only.app (hg := State.emit_only ..)
    | with_reducible apply Only.foldl
    | decide
    | intro _)

theorem State.settingsStage_only (s : State) (i : Image) :
    Only 0xffbb7407ffffff s (State.settingsStage s i) := by
  unfold State.settingsStage
  dsimp only
  repeat' (first
    | with_reducible exact Only.refl _ _
    | with_reducible apply Only.wr
    | with_reducible apply Only.app (hg := State.imageRuns_only ..)
    | with_reducible apply Only.app (hg := State.onFwu_only ..)
    | with_reducible apply Only.app (hg := State.applySettings_only ..)
    | with_reducible apply Only.app (hg := State.fallback_only ..)
    | with_reducible apply Only.app (hg := State.setLock_only ..)
    | with_reducible apply Only.app (hg := State.readRails_only ..)
    | with_reducible apply Only.app (hg := State.enterStage_only ..)
    | with_reducible apply Only.app (hg := State.stageLine_only ..)
    | with_reducible apply Only.app (hg := State.fwErr_only ..)
    | with_reducible apply Only.app (hg := State.slotFails_only ..)
    | decide
    | split
    | (with_reducible apply Only.upd <;> try (first | exact Or.inl (by decide) | exact Or.inr rfl)))

theorem State.journalRecover_only (s : State) :
    Only 0x89010000800200 s (State.journalRecover s) := by
  unfold State.journalRecover
  repeat' (first
    | with_reducible exact Only.refl _ _
    | with_reducible apply Only.wr
    | with_reducible apply Only.flag
    | with_reducible apply Only.app (hg := State.onHif_only ..)
    | with_reducible apply Only.app (hg := State.journalNew_only ..)
    | with_reducible apply State.fault_only
    | decide
    | split
    | intro _
    | (with_reducible apply Only.upd <;> try (first | exact Or.inl (by decide) | exact Or.inr rfl)))

theorem State.clusterStatus_only (s : State) :
    Only 0x80 s (State.clusterStatus s) := by
  unfold State.clusterStatus
  dsimp only
  repeat' (first
    | with_reducible exact Only.refl _ _
    | with_reducible apply Only.wr
    | with_reducible apply Only.app (hg := State.clusterRegs_only ..)
    | with_reducible apply Only.foldl
    | decide
    | (rw [blk_JST_CLSTAT_STATE]; decide)
    | split
    | intro _
    | (with_reducible apply Only.upd <;> try (first | exact Or.inl (by decide) | exact Or.inr rfl)))

theorem State.joistStage_only (s : State) (std : ProofFind) (set : ProofFind) :
    Only 0x6c00a400a00081 s (State.joistStage s std set) := by
  unfold State.joistStage
  dsimp only
  repeat' (first
    | with_reducible exact Only.refl _ _
    | with_reducible apply Only.app (hg := State.showProof_only ..)
    | with_reducible apply Only.app (hg := State.slotFails_only ..)
    | with_reducible apply Only.app (hg := State.bootEnds_only ..)
    | with_reducible apply Only.app (hg := State.stageLine_only ..)
    | with_reducible apply Only.app (hg := State.clusterStatus_only ..)
    | with_reducible apply Only.app (hg := State.setInfo_only ..)
    | with_reducible apply Only.app (hg := State.enterStage_only ..)
    | decide
    | split
    | (with_reducible apply Only.upd <;> try (first | exact Or.inl (by decide) | exact Or.inr rfl)))

theorem State.enterSpin_only (s : State) :
    Only 0xcab17c00837831 s (State.enterSpin s) := by
  unfold State.enterSpin
  dsimp only
  repeat' (first
    | with_reducible exact Only.refl _ _
    | with_reducible apply Only.wr
    | with_reducible apply Only.app (hg := State.onBoot_only ..)
    | with_reducible apply Only.app (hg := State.enterStage_only ..)
    | with_reducible apply Only.app (hg := State.krfResume_only ..)
    | with_reducible apply Only.app (hg := State.calStage_only ..)
    | with_reducible apply Only.app (hg := State.reengage_only ..)
    | with_reducible apply Only.app (hg := State.requestSp_only ..)
    | with_reducible apply Only.app (hg := State.requestTl_only ..)
    | decide
    | split
    | (with_reducible apply Only.upd <;> try (first | exact Or.inl (by decide) | exact Or.inr rfl)))

theorem State.afterSpin_only (s : State) :
    Only 0x48100400800001 s (State.afterSpin s) := by
  unfold State.afterSpin
  repeat' (first
    | with_reducible exact Only.refl _ _
    | with_reducible apply Only.app (hg := State.enterStage_only ..)
    | with_reducible apply Only.app (hg := State.onTrs_only ..)
    | decide
    | split
    | (with_reducible apply Only.upd <;> try (first | exact Or.inl (by decide) | exact Or.inr rfl)))

theorem State.armPassed_only (s : State) :
    Only 0x48000400800001 s (State.armPassed s) := by
  unfold State.armPassed
  dsimp only
  repeat' (first
    | with_reducible exact Only.refl _ _
    | with_reducible apply Only.flag
    | with_reducible apply Only.app (hg := State.enterStage_only ..)
    | decide
    | split)

theorem State.nowRunning_only (s : State) :
    Only 0x48000400800001 s (State.nowRunning s) := by
  unfold State.nowRunning
  repeat' (first
    | with_reducible exact Only.refl _ _
    | with_reducible apply Only.app (hg := State.enterStage_only ..)
    | decide
    | split)

theorem State.nowReady_only (s : State) :
    Only 0x48000400800001 s (State.nowReady s) := by
  unfold State.nowReady
  repeat' (first
    | with_reducible exact Only.refl _ _
    | with_reducible apply Only.app (hg := State.enterStage_only ..)
    | decide
    | split)

end Sys2Proof.Machine
end

