-- ==== Sys2Proof/Laws/OnlyBoot.lean ====
section
/-!
SUPPORT. What each operation of Machine/Boot.lean may change: its register blocks and parts of the state, as the mask of `Only`.
-/
namespace Sys2Proof.Machine

set_option linter.unusedTactic false
set_option linter.unreachableTactic false

theorem execPornNLow_only (s : State) :
    OnlyO 0xffffff07ffffff s (execPornNLow s) := by
  unfold execPornNLow
  repeat' (first
    | with_reducible apply OnlyO.done
    | with_reducible exact Only.refl _ _
    | with_reducible apply Only.app (hg := State.pinsLow_only ..)
    | with_reducible apply Only.app (hg := State.powerState_only ..)
    | decide)

theorem execPowerOnReset_only (bootsel : BitVec 2) (s : State) :
    OnlyO 0xffffff07ffffff s (execPowerOnReset bootsel s) := by
  unfold execPowerOnReset
  repeat' (first
    | with_reducible apply OnlyO.done
    | with_reducible exact Only.refl _ _
    | with_reducible apply Only.app (hg := State.powerState_only ..)
    | with_reducible apply Only.app (hg := State.enterStage_only ..)
    | decide)

theorem execPowerLoss_only (s : State) :
    OnlyO 0xffffff07ffffff s (execPowerLoss s) := by
  unfold execPowerLoss
  repeat' (first
    | with_reducible apply OnlyO.done
    | with_reducible exact Only.refl _ _
    | with_reducible apply Only.app (hg := State.pinsLow_only ..)
    | with_reducible apply Only.app (hg := State.powerState_only ..)
    | decide)

theorem execFullrstNFall_only (s : State) :
    OnlyO 0xefbdfd07ffffff s (execFullrstNFall s) := by
  unfold execFullrstNFall
  repeat' (first
    | with_reducible apply OnlyO.done
    | with_reducible exact Only.refl _ _
    | with_reducible apply Only.app (hg := State.onBoot_only ..)
    | with_reducible apply Only.app (hg := State.fullReset_only ..)
    | decide
    | (with_reducible apply Only.upd <;> try (first | exact Or.inl (by decide) | exact Or.inr rfl)))

theorem execPerstNFall_only (s : State) :
    OnlyO 0xefbdfd07ffffff s (execPerstNFall s) := by
  unfold execPerstNFall
  repeat' (first
    | with_reducible apply OnlyO.done
    | with_reducible exact Only.refl _ _
    | with_reducible apply Only.app (hg := State.onBoot_only ..)
    | with_reducible apply Only.app (hg := State.fullReset_only ..)
    | with_reducible apply Only.app (hg := State.linkGone_only ..)
    | decide
    | (with_reducible apply Only.upd <;> try (first | exact Or.inl (by decide) | exact Or.inr rfl)))

theorem execPerstNRise_only (s : State) :
    OnlyO 0x40000403000000 s (execPerstNRise s) := by
  unfold execPerstNRise
  repeat' (first
    | with_reducible apply OnlyO.done
    | with_reducible exact Only.refl _ _
    | with_reducible apply Only.app (hg := State.onBoot_only ..)
    | decide
    | (with_reducible apply Only.upd <;> try (first | exact Or.inl (by decide) | exact Or.inr rfl)))

theorem execPcieFlr_only (s : State) :
    OnlyO 0xefbdfd07ffffff s (execPcieFlr s) := by
  unfold execPcieFlr
  repeat' (first
    | with_reducible apply OnlyO.done
    | with_reducible exact Only.refl _ _
    | with_reducible apply Only.app (hg := State.fullReset_only ..)
    | decide
    | split)

theorem execHotReset_only (s : State) :
    OnlyO 0xefbdfd07ffffff s (execHotReset s) := by
  unfold execHotReset
  repeat' (first
    | with_reducible apply OnlyO.done
    | with_reducible exact Only.refl _ _
    | with_reducible apply Only.app (hg := State.fullReset_only ..)
    | with_reducible apply Only.app (hg := State.linkGone_only ..)
    | decide
    | split)

theorem State.glbRstWrite_only (s : State) (v : Nat) :
    Only 0xefbdfd07ffffff s (State.glbRstWrite s v) := by
  unfold State.glbRstWrite
  repeat' (first
    | with_reducible exact Only.refl _ _
    | with_reducible apply Only.app (hg := State.fullReset_only ..)
    | with_reducible apply State.fault_only
    | with_reducible apply Only.app (hg := State.lastErr_only ..)
    | decide
    | split
    | intro _)

theorem execGlbRst_only (v : Word) (s : State) :
    OnlyO 0xefbdfd07ffffff s (execGlbRst v s) := by
  unfold execGlbRst
  repeat' (first
    | with_reducible apply OnlyO.done
    | with_reducible exact Only.refl _ _
    | with_reducible apply Only.app (hg := State.glbRstWrite_only ..)
    | with_reducible apply Only.app (hg := State.girtDeny_only ..)
    | decide
    | split)

theorem execLogicRelease_only (s : State) :
    OnlyO 0xdf8bec03840225 s (execLogicRelease s) := by
  unfold execLogicRelease
  dsimp only
  repeat' (first
    | with_reducible apply OnlyO.done
    | with_reducible exact Only.refl _ _
    | with_reducible apply Only.app (hg := State.onBoot_only ..)
    | with_reducible apply Only.app (hg := State.hbmLoss_only ..)
    | with_reducible apply Only.app (hg := State.fltRelease_only ..)
    | with_reducible apply Only.app (hg := State.enterStage_only ..)
    | decide
    | split
    | (with_reducible apply Only.upd <;> try (first | exact Or.inl (by decide) | exact Or.inr rfl)))

theorem execTrussTest_only (pass : Bool) (rails : BitVec 16) (s : State) :
    OnlyO 0xca113403802821 s (execTrussTest pass rails s) := by
  unfold execTrussTest
  dsimp only
  repeat' (first
    | with_reducible apply OnlyO.done
    | with_reducible exact Only.refl _ _
    | with_reducible apply Only.wr
    | with_reducible apply Only.app (hg := State.bootEnds_only ..)
    | with_reducible apply Only.app (hg := State.trussFault_only ..)
    | with_reducible apply Only.app (hg := State.enterStage_only ..)
    | with_reducible apply Only.foldl
    | decide
    | split
    | intro _)

theorem State.plantCheck_only (s : State) (ref : Bool) (pllA : Bool) (pllB : Bool) :
    Only 0x200000002 s (State.plantCheck s ref pllA pllB) := by
  unfold State.plantCheck
  dsimp only
  repeat' (first
    | with_reducible exact Only.refl _ _
    | with_reducible apply Only.wrB
    | with_reducible apply Only.app (hg := State.onClk_only ..)
    | decide
    | split
    | (with_reducible apply Only.upd <;> try (first | exact Or.inl (by decide) | exact Or.inr rfl)))

theorem execClock_only (ref : Bool) (pllA : Bool) (pllB : Bool) (s : State) :
    OnlyO 0x48000603800003 s (execClock ref pllA pllB s) := by
  unfold execClock
  dsimp only
  repeat' (first
    | with_reducible apply OnlyO.done
    | with_reducible exact Only.refl _ _
    | with_reducible apply Only.app (hg := State.plantCheck_only ..)
    | with_reducible apply Only.app (hg := State.stall_only ..)
    | with_reducible apply Only.app (hg := State.stageLine_only ..)
    | with_reducible apply State.fault_only
    | with_reducible apply Only.app (hg := State.onBoot_only ..)
    | with_reducible apply Only.app (hg := State.enterStage_only ..)
    | decide
    | split
    | intro _
    | (with_reducible apply Only.upd <;> try (first | exact Or.inl (by decide) | exact Or.inr rfl)))

theorem execRomStart_only (s : State) :
    OnlyO 0x6c000403a00001 s (execRomStart s) := by
  unfold execRomStart
  repeat' (first
    | with_reducible apply OnlyO.done
    | with_reducible exact Only.refl _ _
    | with_reducible apply Only.app (hg := State.stall_only ..)
    | with_reducible apply Only.app (hg := State.otpRegs_only ..)
    | with_reducible apply Only.app (hg := State.romChoice_only ..)
    | decide
    | split)

theorem execHbmTrain_only (ok : BitVec 4) (s : State) :
    OnlyO 0x4c000403a00001 s (execHbmTrain ok s) := by
  unfold execHbmTrain
  dsimp only
  repeat' (first
    | with_reducible apply OnlyO.done
    | with_reducible exact Only.refl _ _
    | with_reducible apply Only.app (hg := State.enterRecovery_only ..)
    | with_reducible apply Only.app (hg := State.onBoot_only ..)
    | with_reducible apply Only.app (hg := State.enterStage_only ..)
    | decide
    | split
    | (with_reducible apply Only.upd <;> try (first | exact Or.inl (by decide) | exact Or.inr rfl)))

theorem execImage_only (s : State) :
    OnlyO 0x6c000403a00001 s (execImage s) := by
  unfold execImage
  repeat' (first
    | with_reducible apply OnlyO.done
    | with_reducible exact Only.refl _ _
    | with_reducible apply Only.app (hg := State.imageStage_only ..)
    | decide
    | split)

theorem execSettings_only (s : State) :
    OnlyO 0xffbb7407ffffff s (execSettings s) := by
  unfold execSettings
  repeat' (first
    | with_reducible apply OnlyO.done
    | with_reducible exact Only.refl _ _
    | with_reducible apply Only.app (hg := State.settingsStage_only ..)
    | decide
    | split
    | (with_reducible apply Only.upd <;> try (first | exact Or.inl (by decide) | exact Or.inr rfl)))

theorem execHostLink_only (r : LinkFind) (s : State) :
    OnlyO 0xc90b2403848601 s (execHostLink r s) := by
  unfold execHostLink
  dsimp only
  repeat' (first
    | with_reducible apply OnlyO.done
    | with_reducible exact Only.refl _ _
    | with_reducible apply Only.app (hg := State.stall_only ..)
    | with_reducible apply Only.app (hg := State.reportFree_only ..)
    | with_reducible apply Only.app (hg := State.onBoot_only ..)
    | with_reducible apply Only.app (hg := State.journalRecover_only ..)
    | with_reducible apply Only.app (hg := State.lbkRecover_only ..)
    | with_reducible apply Only.app (hg := State.enterStage_only ..)
    | with_reducible apply Only.app (hg := State.settleJnl_only ..)
    | decide
    | split
    | (with_reducible apply Only.upd <;> try (first | exact Or.inl (by decide) | exact Or.inr rfl)))

theorem execJoist_only (std : ProofFind) (set : ProofFind) (s : State) :
    OnlyO 0x6c00a403a00081 s (execJoist std set s) := by
  unfold execJoist
  repeat' (first
    | with_reducible apply OnlyO.done
    | with_reducible exact Only.refl _ _
    | with_reducible apply Only.app (hg := State.joistStage_only ..)
    | decide
    | split)

theorem execRings_only (finds : List (Fin 8 × RingFind)) (s : State) :
    OnlyO 0xcab17c03937831 s (execRings finds s) := by
  unfold execRings
  dsimp only
  repeat' (first
    | with_reducible apply OnlyO.done
    | with_reducible exact Only.refl _ _
    | with_reducible apply State.onRings_only
    | with_reducible apply Only.app (hg := State.bringUp_only ..)
    | with_reducible apply Only.app (hg := State.stageLine_only ..)
    | with_reducible apply Only.app (hg := State.enterSpin_only ..)
    | with_reducible apply Only.foldl
    | decide
    | split
    | intro _)

theorem execSpin_only (s : State) :
    OnlyO 0x48100403800001 s (execSpin s) := by
  unfold execSpin
  repeat' (first
    | with_reducible apply OnlyO.done
    | with_reducible exact Only.refl _ _
    | with_reducible apply Only.app (hg := State.onBoot_only ..)
    | with_reducible apply Only.app (hg := State.afterSpin_only ..)
    | decide
    | split
    | (with_reducible apply Only.upd <;> try (first | exact Or.inl (by decide) | exact Or.inr rfl)))

theorem execCalibrate_only (ok : Bool) (s : State) :
    OnlyO 0x48914403834001 s (execCalibrate ok s) := by
  unfold execCalibrate
  dsimp only
  repeat' (first
    | with_reducible apply OnlyO.done
    | with_reducible exact Only.refl _ _
    | with_reducible apply Only.app (hg := State.stageLine_only ..)
    | with_reducible apply Only.app (hg := State.calReinstate_only ..)
    | with_reducible apply Only.app (hg := State.onBoot_only ..)
    | with_reducible apply Only.app (hg := State.afterSpin_only ..)
    | decide
    | split
    | (with_reducible apply Only.upd <;> try (first | exact Or.inl (by decide) | exact Or.inr rfl)))

theorem execArm_only (fb : Bool) (s : State) :
    OnlyO 0xca917403822821 s (execArm fb s) := by
  unfold execArm
  dsimp only
  repeat' (first
    | with_reducible apply OnlyO.done
    | with_reducible exact Only.refl _ _
    | with_reducible apply Only.app (hg := State.stall_only ..)
    | with_reducible apply Only.app (hg := State.onTrs_only ..)
    | with_reducible apply Only.app (hg := State.armResult_only ..)
    | with_reducible apply Only.app (hg := State.plbArm_only ..)
    | with_reducible apply Only.app (hg := State.armPassed_only ..)
    | decide
    | split
    | (with_reducible apply Only.upd <;> try (first | exact Or.inl (by decide) | exact Or.inr rfl)))

theorem execStallLine_only (s : State) :
    OnlyO 0x48000003800001 s (execStallLine s) := by
  unfold execStallLine
  repeat' (first
    | with_reducible apply OnlyO.done
    | with_reducible exact Only.refl _ _
    | with_reducible apply Only.app (hg := State.stageLine_only ..)
    | decide
    | split)

theorem execRecoveryReset_only (via : RecPath) (s : State) :
    OnlyO 0x4c000403a00001 s (execRecoveryReset via s) := by
  unfold execRecoveryReset
  dsimp only
  repeat' (first
    | with_reducible apply OnlyO.done
    | with_reducible exact Only.refl _ _
    | with_reducible apply Only.wr
    | with_reducible apply Only.app (hg := State.recAnswer_only ..)
    | with_reducible apply Only.app (hg := State.onFwu_only ..)
    | with_reducible apply Only.app (hg := State.onBoot_only ..)
    | with_reducible apply Only.app (hg := State.enterStage_only ..)
    | decide
    | split
    | (with_reducible apply Only.upd <;> try (first | exact Or.inl (by decide) | exact Or.inr rfl)))

end Sys2Proof.Machine
end

