-- ==== Sys2Proof/Laws/OnlyDog.lean ====
section
/-!
SUPPORT. What each operation of Machine/Dog.lean may change: its register blocks and parts of the state, as the mask of `Only`.
-/
namespace Sys2Proof.Machine

set_option linter.unusedTactic false
set_option linter.unreachableTactic false

theorem execGateOpen_only (l : Fin 32) (s : State) :
    OnlyO 0x40040003004000 s (execGateOpen l s) := by
  unfold execGateOpen
  dsimp only
  repeat' (first
    | with_reducible apply OnlyO.done
    | with_reducible exact Only.refl _ _
    | with_reducible apply Only.bump
    | with_reducible apply Only.app (hg := State.setLane_only ..)
    | decide
    | (rw [blk_WFP_DETCNT_SKIP]; decide)
    | split
    | (with_reducible apply Only.upd <;> try (first | exact Or.inl (by decide) | exact Or.inr rfl)))

theorem execGateClose_only (l : Fin 32) (codes : List (BitVec 10)) (s : State) :
    OnlyO 0x590d200380c200 s (execGateClose l codes s) := by
  unfold execGateClose
  dsimp only
  repeat' (first
    | with_reducible apply OnlyO.done
    | with_reducible exact Only.refl _ _
    | with_reducible apply Only.wr
    | with_reducible apply Only.wrS
    | with_reducible apply Only.bump
    | with_reducible apply Only.app (hg := State.setLane_only ..)
    | with_reducible apply State.fault_only
    | with_reducible apply Only.app (hg := State.reserve_only ..)
    | (with_reducible refine Only.ofFst (by assumption) ?_; with_reducible apply Only.app (hg := State.reserve_only ..))
    | with_reducible apply Only.app (hg := State.fillEntry_only ..)
    | with_reducible apply Only.when
    | decide
    | (rw [blk_WFP_DETCNT_SHAPE]; decide)
    | (rw [blk_WFP_DETPEAK_PEAK]; decide)
    | (rw [blk_WFP_DETPEAK_RMS]; decide)
    | (rw [blk_WFP_DETTIME_PEAKT]; decide)
    | (rw [blk_WFP_DETWID_ENVMAX]; decide)
    | (rw [blk_WFP_DETWID_WIDTH50]; decide)
    | split
    | intro _
    | (with_reducible apply Only.upd <;> try (first | exact Or.inl (by decide) | exact Or.inr rfl)))

theorem execEdgeTrigger_only (u : Fin 32) (arm : SampleAt) (before : BitVec 16) (after : SampleAt) (s : State) :
    OnlyO 0x49092003808200 s (execEdgeTrigger u arm before after s) := by
  unfold execEdgeTrigger
  dsimp only
  repeat' (first
    | with_reducible apply OnlyO.done
    | with_reducible exact Only.refl _ _
    | with_reducible apply Only.app (hg := State.setDogU_only ..)
    | with_reducible apply Only.app (hg := State.modeTrigger_only ..)
    | decide
    | split
    | (with_reducible apply Only.upd <;> try (first | exact Or.inl (by decide) | exact Or.inr rfl)))

theorem execShotTrigger_only (u : Fin 32) (n : Fin 64) (tag : BitVec 9) (s : State) :
    OnlyO 0x49092003808200 s (execShotTrigger u n tag s) := by
  unfold execShotTrigger
  dsimp only
  repeat' (first
    | with_reducible apply OnlyO.done
    | with_reducible exact Only.refl _ _
    | with_reducible apply Only.app (hg := State.modeTrigger_only ..)
    | decide
    | split
    | (with_reducible apply Only.upd <;> try (first | exact Or.inl (by decide) | exact Or.inr rfl)))

theorem execAutoTrigger_only (u : Fin 32) (s : State) :
    OnlyO 0x49092003808200 s (execAutoTrigger u s) := by
  unfold execAutoTrigger
  dsimp only
  repeat' (first
    | with_reducible apply OnlyO.done
    | with_reducible exact Only.refl _ _
    | with_reducible apply Only.app (hg := State.trigger_only ..)
    | decide
    | split)

theorem execDogArm_only (u : Fin 32) (s : State) :
    OnlyO 0x48080003808000 s (execDogArm u s) := by
  unfold execDogArm
  dsimp only
  repeat' (first
    | with_reducible apply OnlyO.done
    | with_reducible exact Only.refl _ _
    | with_reducible apply Only.wr
    | with_reducible apply Only.app (hg := State.setDogU_only ..)
    | with_reducible apply State.refuse_only
    | decide
    | (rw [blk_DOG_USTAT_ARMED]; decide)
    | split
    | intro _
    | (with_reducible apply Only.upd <;> try (first | exact Or.inl (by decide) | exact Or.inr rfl)))

theorem execForce_only (u : Fin 32) (s : State) :
    OnlyO 0x49092003808200 s (execForce u s) := by
  unfold execForce
  dsimp only
  repeat' (first
    | with_reducible apply OnlyO.done
    | with_reducible exact Only.refl _ _
    | with_reducible apply Only.app (hg := State.trigger_only ..)
    | decide
    | split)

theorem execDogStop_only (u : Fin 32) (s : State) :
    OnlyO 0x40000003008000 s (execDogStop u s) := by
  unfold execDogStop
  repeat' (first
    | with_reducible apply OnlyO.done
    | with_reducible exact Only.refl _ _
    | with_reducible apply Only.wr
    | decide
    | (rw [blk_DOG_USTAT_ARMED]; decide))

theorem execCaptureComplete_only (u : Fin 32) (codes : List (BitVec 10)) (s : State) :
    OnlyO 0x59092003808200 s (execCaptureComplete u codes s) := by
  unfold execCaptureComplete
  dsimp only
  repeat' (first
    | with_reducible apply OnlyO.done
    | with_reducible exact Only.refl _ _
    | with_reducible apply Only.wr
    | with_reducible apply Only.wrB
    | with_reducible apply Only.flag
    | with_reducible apply Only.app (hg := State.fillEntry_only ..)
    | with_reducible apply Only.app (hg := State.setDogU_only ..)
    | decide
    | (rw [blk_DOG_USTAT_ARMED]; decide)
    | (rw [blk_DOG_USTAT_BUSY]; decide)
    | split
    | (with_reducible apply Only.upd <;> try (first | exact Or.inl (by decide) | exact Or.inr rfl)))

theorem execDrainDelivery_only (s : State) :
    OnlyO 0x49092003808200 s (execDrainDelivery s) := by
  unfold execDrainDelivery
  repeat' (first
    | with_reducible apply OnlyO.done
    | with_reducible exact Only.refl _ _
    | with_reducible apply Only.app (hg := State.freeEntry_only ..)
    | decide
    | split
    | (with_reducible apply Only.upd <;> try (first | exact Or.inl (by decide) | exact Or.inr rfl)))

theorem execDrainLevelTick_only (s : State) :
    OnlyO 0x49092003808200 s (execDrainLevelTick s) := by
  unfold execDrainLevelTick
  dsimp only
  repeat' (first
    | with_reducible apply OnlyO.done
    | with_reducible exact Only.refl _ _
    | with_reducible apply Only.app (hg := State.showLevels_only ..)
    | decide
    | split
    | (with_reducible apply Only.upd <;> try (first | exact Or.inl (by decide) | exact Or.inr rfl)))

end Sys2Proof.Machine
end

