-- ==== Sys2Proof/Laws/OnlyPeg.lean ====
section
/-!
SUPPORT. What each operation of Machine/Peg.lean may change: its register blocks and parts of the state, as the mask of `Only`.
-/
namespace Sys2Proof.Machine

set_option linter.unusedTactic false
set_option linter.unreachableTactic false

theorem State.setPlan_only (s : State) (n : Nat) (f : DrvPlan → DrvPlan) :
    Only 0x2000000000 s (State.setPlan s n f) := by
  unfold State.setPlan
  repeat' (first
    | with_reducible exact Only.refl _ _
    | decide
    | (with_reducible apply Only.upd <;> try (first | exact Or.inl (by decide) | exact Or.inr rfl)))

theorem State.idleBit_only (s : State) (n : Nat) (b : Bool) :
    Only 0x20 s (State.idleBit s n b) := by
  unfold State.idleBit
  repeat' (first
    | with_reducible exact Only.refl _ _
    | with_reducible apply Only.wr
    | decide
    | split)

theorem State.driverIdle_only (s : State) (n : Nat) :
    Only 0x8002000800020 s (State.driverIdle s n) := by
  unfold State.driverIdle
  repeat' (first
    | with_reducible exact Only.refl _ _
    | with_reducible apply Only.app (hg := State.setPlan_only ..)
    | with_reducible apply Only.app (hg := State.idleBit_only ..)
    | with_reducible apply State.fault_only
    | decide
    | split
    | intro _
    | (with_reducible apply Only.upd <;> try (first | exact Or.inl (by decide) | exact Or.inr rfl)))

theorem State.driverWake_only (s : State) (n : Nat) :
    Only 0x2000000020 s (State.driverWake s n) := by
  unfold State.driverWake
  repeat' (first
    | with_reducible exact Only.refl _ _
    | with_reducible apply Only.app (hg := State.setPlan_only ..)
    | with_reducible apply Only.app (hg := State.idleBit_only ..)
    | decide
    | split
    | (with_reducible apply Only.upd <;> try (first | exact Or.inl (by decide) | exact Or.inr rfl)))

theorem State.setTags_only (s : State) (l : List Nat) :
    Only 0x2000000020 s (State.setTags s l) := by
  unfold State.setTags
  repeat' (first
    | with_reducible exact Only.refl _ _
    | with_reducible apply Only.wr
    | with_reducible apply Only.peak
    | decide
    | (with_reducible apply Only.upd <;> try (first | exact Or.inl (by decide) | exact Or.inr rfl)))

theorem State.openBurst_only (s : State) (b : Burst) (shot0 : Nat) :
    Only 0x8012000800040 s (State.openBurst s b shot0) := by
  unfold State.openBurst
  dsimp only
  repeat' (first
    | with_reducible exact Only.refl _ _
    | with_reducible apply State.fault_only
    | with_reducible apply Only.app (hg := State.tallyDropped_only ..)
    | with_reducible apply Only.app (hg := State.mrtUse_only ..)
    | with_reducible apply Only.when
    | decide
    | split
    | intro _
    | (with_reducible apply Only.upd <;> try (first | exact Or.inl (by decide) | exact Or.inr rfl)))

theorem State.planGang_only (s : State) (n : Nat) (row : Nat) (h : HeldGang) (cols : List GangCol) (tags : List Nat) (shots : List Nat) (close : Nat) (books : List Booking) :
    Only 0x801b000800060 s (State.planGang s n row h cols tags shots close books) := by
  unfold State.planGang
  dsimp only
  repeat' (first
    | with_reducible exact Only.refl _ _
    | with_reducible apply Only.app (hg := State.setTags_only ..)
    | with_reducible apply Only.app (hg := State.setBookings_only ..)
    | with_reducible apply Only.app (hg := State.openBurst_only ..)
    | with_reducible apply Only.app (hg := State.setPlan_only ..)
    | with_reducible apply Only.foldl
    | decide
    | split
    | intro _
    | (with_reducible apply Only.upd <;> try (first | exact Or.inl (by decide) | exact Or.inr rfl)))

theorem State.holdStep_only (s : State) (n : Nat) (h : HeldGang) (refused : List Nat) (tags : Bool) :
    Only 0x800020000000a0 s (State.holdStep s n h refused tags) := by
  unfold State.holdStep
  dsimp only
  repeat' (first
    | with_reducible exact Only.refl _ _
    | with_reducible apply Only.bump
    | with_reducible apply Only.app (hg := State.setPlan_only ..)
    | with_reducible apply Only.when
    | decide
    | split
    | intro _
    | (with_reducible apply Only.upd <;> try (first | exact Or.inl (by decide) | exact Or.inr rfl)))

theorem State.planLimits_only (s : State) (n : Nat) (row : Nat) (c : EpochCfg) (h : HeldGang) (shots : List Nat) (close : Nat) :
    Only 0x8801b0008000e0 s (State.planLimits s n row c h shots close) := by
  unfold State.planLimits
  dsimp only
  repeat' (first
    | with_reducible exact Only.refl _ _
    | with_reducible apply Only.bump
    | with_reducible apply Only.app (hg := State.setPlan_only ..)
    | with_reducible apply Only.app (hg := State.holdStep_only ..)
    | with_reducible apply Only.app (hg := State.planGang_only ..)
    | with_reducible apply Only.when
    | decide
    | split
    | intro _
    | (with_reducible apply Only.upd <;> try (first | exact Or.inl (by decide) | exact Or.inr rfl)))

theorem State.planRow_only (s : State) (n : Nat) (row : Nat) :
    Only 0x8801b0008000e0 s (State.planRow s n row) := by
  unfold State.planRow
  dsimp only
  repeat' (first
    | with_reducible exact Only.refl _ _
    | with_reducible apply Only.bump
    | with_reducible apply Only.app (hg := State.setPlan_only ..)
    | with_reducible apply State.fault_only
    | with_reducible apply Only.app (hg := State.planLimits_only ..)
    | with_reducible apply Only.when
    | decide
    | split
    | intro _
    | (with_reducible apply Only.upd <;> try (first | exact Or.inl (by decide) | exact Or.inr rfl)))

theorem State.planStep_only (s : State) (n : Nat) :
    Only 0x8801b0008000e0 s (State.planStep s n) := by
  unfold State.planStep
  dsimp only
  repeat' (first
    | with_reducible exact Only.refl _ _
    | with_reducible apply Only.app (hg := State.planRow_only ..)
    | with_reducible apply Only.app (hg := State.setPlan_only ..)
    | with_reducible apply Only.app (hg := State.driverIdle_only ..)
    | with_reducible apply Only.app (hg := State.driverWake_only ..)
    | decide
    | split
    | (with_reducible apply Only.upd <;> try (first | exact Or.inl (by decide) | exact Or.inr rfl)))

theorem execPlanStep_only (n : Fin 64) (s : State) :
    OnlyO 0xc801b0038000e0 s (execPlanStep n s) := by
  unfold execPlanStep
  repeat' (first
    | with_reducible apply OnlyO.done
    | with_reducible exact Only.refl _ _
    | with_reducible apply Only.app (hg := State.planStep_only ..)
    | decide
    | split)

theorem execPlanStepRetry_only (n : Fin 64) (s : State) :
    OnlyO 0xc801b0038000e0 s (execPlanStepRetry n s) := by
  unfold execPlanStepRetry
  repeat' (first
    | with_reducible apply OnlyO.done
    | with_reducible exact Only.refl _ _
    | with_reducible apply Only.app (hg := State.planStep_only ..)
    | decide
    | split)

theorem execTagexh_only (n : Fin 64) (s : State) :
    OnlyO 0x48000003800020 s (execTagexh n s) := by
  unfold execTagexh
  repeat' (first
    | with_reducible apply OnlyO.done
    | with_reducible exact Only.refl _ _
    | with_reducible apply State.fault_only
    | decide
    | split
    | intro _
    | (with_reducible apply Only.upd <;> try (first | exact Or.inl (by decide) | exact Or.inr rfl)))

theorem State.openReference_only (s : State) (n : Nat) (row : Nat) (col : Nat) (t : Nat) :
    Only 0x801a000800060 s (State.openReference s n row col t).1 := by
  unfold State.openReference
  dsimp only
  repeat' (first
    | with_reducible exact Only.refl _ _
    | with_reducible apply Only.app (hg := State.setTags_only ..)
    | with_reducible apply Only.app (hg := State.setBookings_only ..)
    | with_reducible apply Only.app (hg := State.openBurst_only ..)
    | decide
    | split
    | (with_reducible apply Only.upd <;> try (first | exact Or.inl (by decide) | exact Or.inr rfl)))

theorem State.planProof_only (s : State) (n : Nat) (r : Nat) (t : Nat) :
    Only 0x8801b000800060 s (State.planProof s n r t) := by
  unfold State.planProof
  dsimp only
  repeat' (first
    | with_reducible exact Only.refl _ _
    | with_reducible apply Only.app (hg := State.openReference_only ..)
    | (with_reducible refine Only.ofFst (by assumption) ?_; with_reducible apply Only.app (hg := State.openReference_only ..))
    | with_reducible apply Only.app (hg := State.draw_only ..)
    | decide
    | split
    | (with_reducible apply Only.upd <;> try (first | exact Or.inl (by decide) | exact Or.inr rfl)))

theorem execProofPulse_only (n : Fin 64) (s : State) :
    OnlyO 0xc801b003800060 s (execProofPulse n s) := by
  unfold execProofPulse
  dsimp only
  repeat' (first
    | with_reducible apply OnlyO.done
    | with_reducible exact Only.refl _ _
    | with_reducible apply Only.app (hg := State.planProof_only ..)
    | decide
    | split
    | (with_reducible apply Only.upd <;> try (first | exact Or.inl (by decide) | exact Or.inr rfl)))

end Sys2Proof.Machine
end

