-- ==== Sys2Proof/Laws/OnlyJoist.lean ====
section
/-!
SUPPORT. What each operation of Machine/Joist.lean may change: its register blocks and parts of the state, as the mask of `Only`.
-/
namespace Sys2Proof.Machine

set_option linter.unusedTactic false
set_option linter.unreachableTactic false

theorem State.listenHit_only (s : State) (b : Burst) :
    Only 0x2000000020 s (State.listenHit s b) := by
  unfold State.listenHit
  dsimp only
  repeat' (first
    | with_reducible exact Only.refl _ _
    | with_reducible apply Only.wr
    | with_reducible apply Only.bump
    | with_reducible apply Only.flag
    | decide
    | (rw [blk_PEG_FOREIGN_CH]; decide)
    | split
    | (with_reducible apply Only.upd <;> try (first | exact Or.inl (by decide) | exact Or.inr rfl)))

theorem State.runSieve_only (s : State) (b : Burst) (placed : Option Nat) :
    Only 0x2000000060 s (State.runSieve s b placed) := by
  unfold State.runSieve
  dsimp only
  repeat' (first
    | with_reducible exact Only.refl _ _
    | with_reducible apply Only.app (hg := State.setBurst_only ..)
    | with_reducible apply Only.app (hg := State.countSieve_only ..)
    | with_reducible apply Only.app (hg := State.listenHit_only ..)
    | decide
    | split
    | (with_reducible apply Only.upd <;> try (first | exact Or.inl (by decide) | exact Or.inr rfl)))

theorem execScoutEnd_only (b : Nat) (s : State) :
    OnlyO 0x40002003000060 s (execScoutEnd b s) := by
  unfold execScoutEnd
  dsimp only
  repeat' (first
    | with_reducible apply OnlyO.done
    | with_reducible exact Only.refl _ _
    | with_reducible apply Only.bump
    | with_reducible apply Only.app (hg := State.runSieve_only ..)
    | with_reducible apply Only.when
    | decide
    | split
    | intro _
    | (with_reducible apply Only.upd <;> try (first | exact Or.inl (by decide) | exact Or.inr rfl)))

theorem State.countWindows_only (s : State) (b : Burst) :
    Only 0x40 s (State.countWindows s b) := by
  unfold State.countWindows
  dsimp only
  repeat' (first
    | with_reducible exact Only.refl _ _
    | with_reducible apply Only.bump
    | with_reducible apply Only.when
    | decide
    | intro _)

theorem execRetroactiveFill_only (b : Nat) (nil : Unit) (s : State) :
    OnlyO 0x40002003000040 s (execRetroactiveFill b nil s) := by
  unfold execRetroactiveFill
  dsimp only
  repeat' (first
    | with_reducible apply OnlyO.done
    | with_reducible exact Only.refl _ _
    | with_reducible apply Only.bump
    | with_reducible apply Only.app (hg := State.setBurst_only ..)
    | with_reducible apply Only.when
    | decide
    | split
    | intro _
    | (with_reducible apply Only.upd <;> try (first | exact Or.inl (by decide) | exact Or.inr rfl)))

theorem State.closeOut_only (s : State) (x : Burst) :
    Only 0x2000000060 s (State.closeOut s x) := by
  unfold State.closeOut
  dsimp only
  repeat' (first
    | with_reducible exact Only.refl _ _
    | with_reducible apply Only.bump
    | with_reducible apply Only.app (hg := State.runSieve_only ..)
    | with_reducible apply Only.app (hg := State.setBurst_only ..)
    | with_reducible apply Only.when
    | decide
    | split
    | intro _
    | (with_reducible apply Only.upd <;> try (first | exact Or.inl (by decide) | exact Or.inr rfl)))

theorem State.releaseTags_only (s : State) (b : Burst) :
    Only 0x2000000020 s (State.releaseTags s b) := by
  unfold State.releaseTags
  repeat' (first
    | with_reducible exact Only.refl _ _
    | with_reducible apply Only.app (hg := State.setTags_only ..)
    | decide
    | split)

theorem State.handColumn_only (s : State) (b : Burst) :
    Only 0x8020000800400 s (State.handColumn s b) := by
  unfold State.handColumn
  dsimp only
  repeat' (first
    | with_reducible exact Only.refl _ _
    | with_reducible apply Only.app (hg := State.lbkStore_only ..)
    | decide
    | split
    | (with_reducible apply Only.upd <;> try (first | exact Or.inl (by decide) | exact Or.inr rfl)))

theorem execWindowClose_only (b : Nat) (s : State) :
    OnlyO 0x490ba0038086e0 s (execWindowClose b s) := by
  unfold execWindowClose
  dsimp only
  repeat' (first
    | with_reducible apply OnlyO.done
    | with_reducible exact Only.refl _ _
    | with_reducible apply Only.bump
    | with_reducible apply Only.app (hg := State.closeOut_only ..)
    | with_reducible apply Only.app (hg := State.releaseTags_only ..)
    | with_reducible apply Only.app (hg := State.shutBurst_only ..)
    | with_reducible apply Only.app (hg := State.mrtUse_only ..)
    | with_reducible apply Only.app (hg := State.countWindows_only ..)
    | with_reducible apply Only.app (hg := State.handColumn_only ..)
    | with_reducible apply Only.app (hg := State.endBurst_only ..)
    | with_reducible apply Only.app (hg := State.dispatch_only ..)
    | with_reducible apply Only.when
    | decide
    | split
    | intro _
    | (with_reducible apply Only.upd <;> try (first | exact Or.inl (by decide) | exact Or.inr rfl)))

theorem execCommit_only (b : Nat) (word : Word) (w : Written) (s : State) :
    OnlyO 0x498bb003828280 s (execCommit b word w s) := by
  unfold execCommit
  dsimp only
  repeat' (first
    | with_reducible apply OnlyO.done
    | with_reducible exact Only.refl _ _
    | with_reducible apply Only.app (hg := State.statAdd_only ..)
    | with_reducible apply Only.app (hg := State.setEngine_only ..)
    | with_reducible apply Only.app (hg := State.engineFault_only ..)
    | with_reducible apply Only.app (hg := State.settleJnl_only ..)
    | with_reducible apply Only.app (hg := State.handOver_only ..)
    | with_reducible apply Only.app (hg := State.dispatchWaiting_only ..)
    | with_reducible apply Only.foldl
    | decide
    | split
    | intro _
    | (with_reducible apply Only.upd <;> try (first | exact Or.inl (by decide) | exact Or.inr rfl)))

theorem execMarkerCommit_only (s : State) :
    OnlyO 0x490b2003808200 s (execMarkerCommit s) := by
  unfold execMarkerCommit
  repeat' (first
    | with_reducible apply OnlyO.done
    | with_reducible exact Only.refl _ _
    | with_reducible apply Only.app (hg := State.settleJnl_only ..)
    | decide)

theorem execEngineFault_only (e : Fin 1056) (kind : EngineFaultKind) (s : State) :
    OnlyO 0x490ba003c08280 s (execEngineFault e kind s) := by
  unfold execEngineFault
  dsimp only
  repeat' (first
    | with_reducible apply OnlyO.done
    | with_reducible exact Only.refl _ _
    | with_reducible apply Only.bump
    | with_reducible apply Only.app (hg := State.clusterFault_only ..)
    | with_reducible apply Only.app (hg := State.settleJnl_only ..)
    | with_reducible apply Only.app (hg := State.clusterAccess_only ..)
    | with_reducible apply Only.app (hg := State.engineFault_only ..)
    | decide
    | split
    | (with_reducible apply Only.upd <;> try (first | exact Or.inl (by decide) | exact Or.inr rfl)))

theorem execBudgetExpiry_only (e : Fin 1056) (s : State) :
    OnlyO 0x490ba003808280 s (execBudgetExpiry e s) := by
  unfold execBudgetExpiry
  repeat' (first
    | with_reducible apply OnlyO.done
    | with_reducible exact Only.refl _ _
    | with_reducible apply Only.app (hg := State.engineFault_only ..)
    | with_reducible apply Only.app (hg := State.settleJnl_only ..)
    | decide
    | split)

theorem execEngineRetest_only (e : Fin 1056) (pass : Bool) (s : State) :
    OnlyO 0x490ba003808280 s (execEngineRetest e pass s) := by
  unfold execEngineRetest
  dsimp only
  repeat' (first
    | with_reducible apply OnlyO.done
    | with_reducible exact Only.refl _ _
    | with_reducible apply Only.app (hg := State.setEngine_only ..)
    | with_reducible apply Only.app (hg := State.clusterRegs_only ..)
    | with_reducible apply Only.app (hg := State.dispatchWaiting_only ..)
    | with_reducible apply Only.app (hg := State.settleJnl_only ..)
    | with_reducible apply State.fault_only
    | decide
    | split
    | intro _
    | (with_reducible apply Only.upd <;> try (first | exact Or.inl (by decide) | exact Or.inr rfl)))

theorem execClusterSubstitution_only (s : State) :
    OnlyO 0x48008003800080 s (execClusterSubstitution s) := by
  unfold execClusterSubstitution
  dsimp only
  repeat' (first
    | with_reducible apply OnlyO.done
    | with_reducible exact Only.refl _ _
    | with_reducible apply Only.wr
    | with_reducible apply State.fault_only
    | decide
    | (rw [blk_JST_CLSTAT_STATE]; decide)
    | split
    | intro _
    | (with_reducible apply Only.upd <;> try (first | exact Or.inl (by decide) | exact Or.inr rfl)))

theorem execJstSubcmdGo_only (c : BitVec 5) (s : State) :
    OnlyO 0x48008003800080 s (execJstSubcmdGo c s) := by
  unfold execJstSubcmdGo
  repeat' (first
    | with_reducible apply OnlyO.done
    | with_reducible exact Only.refl _ _
    | with_reducible apply Only.wr
    | with_reducible apply State.refuse_only
    | with_reducible apply Only.app (hg := State.substitute_only ..)
    | decide
    | split
    | intro _)

end Sys2Proof.Machine
end

