-- ==== Sys2Proof/Laws/OnlyKerf.lean ====
section
/-!
SUPPORT. What each operation of Machine/Kerf.lean may change: its register blocks and parts of the state, as the mask of `Only`.
-/
namespace Sys2Proof.Machine

set_option linter.unusedTactic false
set_option linter.unreachableTactic false

theorem State.shadowCompare_only (s : State) (ch : Nat) (own : Nat) (spare : Nat) :
    Only 0x4000000010 s (State.shadowCompare s ch own spare) := by
  unfold State.shadowCompare
  dsimp only
  repeat' (first
    | with_reducible exact Only.refl _ _
    | with_reducible apply Only.bump
    | with_reducible apply Only.app (hg := State.setGroup_only ..)
    | with_reducible apply Only.when
    | decide
    | (rw [blk_KRF_SPSTAT_MISCNT]; decide)
    | intro _
    | (with_reducible apply Only.upd <;> try (first | exact Or.inl (by decide) | exact Or.inr rfl)))

theorem State.shadowEdge_only (s : State) (ch : Nat) (own : Nat) (shadow : Option (BitVec 48 × BitVec 5)) :
    Only 0x804000000010 s (State.shadowEdge s ch own shadow) := by
  unfold State.shadowEdge
  repeat' (first
    | with_reducible exact Only.refl _ _
    | with_reducible apply Only.app (hg := State.calTap_only ..)
    | with_reducible apply Only.app (hg := State.shadowCompare_only ..)
    | decide
    | split
    | (with_reducible apply Only.upd <;> try (first | exact Or.inl (by decide) | exact Or.inr rfl)))

theorem State.acceptEdge_only (s : State) (ch : Nat) (coarse : BitVec 48) (tap : BitVec 5) (shadow : Option (BitVec 48 × BitVec 5)) :
    Only 0x4000000000 s (State.acceptEdge s ch coarse tap shadow) := by
  unfold State.acceptEdge
  dsimp only
  repeat' (first
    | with_reducible exact Only.refl _ _
    | with_reducible apply Only.app (hg := State.setChan_only ..)
    | decide
    | (with_reducible apply Only.upd <;> try (first | exact Or.inl (by decide) | exact Or.inr rfl)))

theorem State.stamped_only (s : State) (ch : Nat) (e : KrfEvent) :
    Only 0x804000020010 s (State.stamped s ch e) := by
  unfold State.stamped
  dsimp only
  repeat' (first
    | with_reducible exact Only.refl _ _
    | with_reducible apply Only.bump
    | with_reducible apply Only.app (hg := State.setChan_only ..)
    | with_reducible apply Only.app (hg := State.calTap_only ..)
    | with_reducible apply Only.app (hg := State.notQuiet_only ..)
    | with_reducible apply Only.app (hg := State.shadowEdge_only ..)
    | decide
    | (rw [blk_KRF_EVCNT_CNT]; decide)
    | (with_reducible apply Only.upd <;> try (first | exact Or.inl (by decide) | exact Or.inr rfl)))

theorem State.saturate_only (s : State) (ch : Nat) :
    Only 0x804000020010 s (State.saturate s ch) := by
  unfold State.saturate
  repeat' (first
    | with_reducible exact Only.refl _ _
    | with_reducible apply Only.app (hg := State.stamped_only ..)
    | decide
    | split
    | (with_reducible apply Only.upd <;> try (first | exact Or.inl (by decide) | exact Or.inr rfl)))

theorem execLeadingEdge_only (ch : Fin 1024) (coarse : BitVec 48) (tap : BitVec 5) (shadow : Option (BitVec 48 × BitVec 5)) (s : State) :
    OnlyO 0x40004003000010 s (execLeadingEdge ch coarse tap shadow s) := by
  unfold execLeadingEdge
  dsimp only
  repeat' (first
    | with_reducible apply OnlyO.done
    | with_reducible exact Only.refl _ _
    | with_reducible apply Only.bump
    | with_reducible apply Only.app (hg := State.setChan_only ..)
    | with_reducible apply Only.app (hg := State.acceptEdge_only ..)
    | decide
    | (rw [blk_KRF_DEADCNT_CNT]; decide)
    | split
    | (with_reducible apply Only.upd <;> try (first | exact Or.inl (by decide) | exact Or.inr rfl)))

theorem State.trail_only (s : State) (ch : Nat) (coarse : BitVec 48) (tap : BitVec 5) :
    Only 0x804000020010 s (State.trail s ch coarse tap) := by
  unfold State.trail
  dsimp only
  repeat' (first
    | with_reducible exact Only.refl _ _
    | with_reducible apply Only.app (hg := State.setChan_only ..)
    | with_reducible apply Only.app (hg := State.saturate_only ..)
    | with_reducible apply Only.app (hg := State.stamped_only ..)
    | decide
    | split
    | (with_reducible apply Only.upd <;> try (first | exact Or.inl (by decide) | exact Or.inr rfl)))

theorem execTrailingEdge_only (ch : Fin 1024) (coarse : BitVec 48) (tap : BitVec 5) (s : State) :
    OnlyO 0x40804003020010 s (execTrailingEdge ch coarse tap s) := by
  unfold execTrailingEdge
  dsimp only
  repeat' (first
    | with_reducible apply OnlyO.done
    | with_reducible exact Only.refl _ _
    | with_reducible apply Only.app (hg := State.trail_only ..)
    | with_reducible apply Only.app (hg := State.setChan_only ..)
    | with_reducible apply Only.app (hg := State.releaseChan_only ..)
    | with_reducible apply Only.when
    | decide
    | intro _
    | (with_reducible apply Only.upd <;> try (first | exact Or.inl (by decide) | exact Or.inr rfl)))

theorem execWidthSaturation_only (ch : Fin 1024) (s : State) :
    OnlyO 0x40804003020010 s (execWidthSaturation ch s) := by
  unfold execWidthSaturation
  repeat' (first
    | with_reducible apply OnlyO.done
    | with_reducible exact Only.refl _ _
    | with_reducible apply Only.app (hg := State.saturate_only ..)
    | decide
    | split)

theorem execEventWordDelivery_only (ch : Fin 1024) (nil : Unit) (s : State) :
    OnlyO 0x48006003800050 s (execEventWordDelivery ch nil s) := by
  unfold execEventWordDelivery
  dsimp only
  repeat' (first
    | with_reducible apply OnlyO.done
    | with_reducible exact Only.refl _ _
    | with_reducible apply Only.app (hg := State.setChan_only ..)
    | with_reducible apply Only.app (hg := State.takeToken_only ..)
    | (with_reducible refine Only.ofFst (by assumption) ?_; with_reducible apply Only.app (hg := State.takeToken_only ..))
    | with_reducible apply Only.app (hg := State.krfDrop_only ..)
    | with_reducible apply Only.app (hg := State.groupGate_only ..)
    | (with_reducible refine Only.ofFst (by assumption) ?_; with_reducible apply Only.app (hg := State.groupGate_only ..))
    | with_reducible apply Only.app (hg := State.krfDeliver_only ..)
    | decide
    | split
    | (with_reducible apply Only.upd <;> try (first | exact Or.inl (by decide) | exact Or.inr rfl)))

theorem execPulserEdge_only (t : Fin 1056) (coarse : BitVec 48) (tap : BitVec 5) (s : State) :
    OnlyO 0x40804003000000 s (execPulserEdge t coarse tap s) := by
  unfold execPulserEdge
  dsimp only
  repeat' (first
    | with_reducible apply OnlyO.done
    | with_reducible exact Only.refl _ _
    | with_reducible apply Only.app (hg := State.setChan_only ..)
    | with_reducible apply Only.app (hg := State.calTap_only ..)
    | decide
    | split
    | (with_reducible apply Only.upd <;> try (first | exact Or.inl (by decide) | exact Or.inr rfl)))

theorem execStuck_only (ch : Fin 1024) (s : State) :
    OnlyO 0x48804003820010 s (execStuck ch s) := by
  unfold execStuck
  dsimp only
  repeat' (first
    | with_reducible apply OnlyO.done
    | with_reducible exact Only.refl _ _
    | with_reducible apply Only.wr
    | with_reducible apply Only.count
    | with_reducible apply Only.app (hg := State.saturate_only ..)
    | with_reducible apply Only.app (hg := State.setChan_only ..)
    | with_reducible apply Only.app (hg := State.maskEval_only ..)
    | with_reducible apply State.fault_only
    | decide
    | (rw [blk_KRF_CHSTAT_STUCK]; decide)
    | split
    | intro _
    | (with_reducible apply Only.upd <;> try (first | exact Or.inl (by decide) | exact Or.inr rfl)))

theorem execFast_only (ch : Fin 1024) (s : State) :
    OnlyO 0x48004003800010 s (execFast ch s) := by
  unfold execFast
  dsimp only
  repeat' (first
    | with_reducible apply OnlyO.done
    | with_reducible exact Only.refl _ _
    | with_reducible apply Only.wr
    | with_reducible apply Only.count
    | with_reducible apply Only.app (hg := State.setChan_only ..)
    | with_reducible apply Only.app (hg := State.maskEval_only ..)
    | with_reducible apply State.fault_only
    | decide
    | (rw [blk_KRF_CHSTAT_FAST]; decide)
    | split
    | intro _
    | (with_reducible apply Only.upd <;> try (first | exact Or.inl (by decide) | exact Or.inr rfl)))

theorem execStuckRelease_only (ch : Fin 1024) (s : State) :
    OnlyO 0x40004003000010 s (execStuckRelease ch s) := by
  unfold execStuckRelease
  dsimp only
  repeat' (first
    | with_reducible apply OnlyO.done
    | with_reducible exact Only.refl _ _
    | with_reducible apply Only.app (hg := State.releaseChan_only ..)
    | decide
    | split)

theorem execRel_only (ch : Fin 1024) (s : State) :
    OnlyO 0x40004003000010 s (execRel ch s) := by
  unfold execRel
  dsimp only
  repeat' (first
    | with_reducible apply OnlyO.done
    | with_reducible exact Only.refl _ _
    | with_reducible apply Only.app (hg := State.setChan_only ..)
    | with_reducible apply Only.app (hg := State.releaseChan_only ..)
    | decide
    | split
    | (with_reducible apply Only.upd <;> try (first | exact Or.inl (by decide) | exact Or.inr rfl)))

theorem execTdcfail_only (ch : Fin 1024) (s : State) :
    OnlyO 0x48804003800010 s (execTdcfail ch s) := by
  unfold execTdcfail
  repeat' (first
    | with_reducible apply OnlyO.done
    | with_reducible exact Only.refl _ _
    | with_reducible apply Only.app (hg := State.tdcFailed_only ..)
    | decide
    | split)

theorem execShadowPeriodEnd_only (g : Fin 32) (s : State) :
    OnlyO 0x48804003800010 s (execShadowPeriodEnd g s) := by
  unfold execShadowPeriodEnd
  dsimp only
  repeat' (first
    | with_reducible apply OnlyO.done
    | with_reducible exact Only.refl _ _
    | with_reducible apply Only.wr
    | with_reducible apply Only.app (hg := State.setGroup_only ..)
    | with_reducible apply State.fault_only
    | with_reducible apply Only.app (hg := State.tdcFailed_only ..)
    | with_reducible apply Only.when
    | decide
    | (rw [blk_KRF_SPSTAT_CURCH]; decide)
    | split
    | intro _
    | (with_reducible apply Only.upd <;> try (first | exact Or.inl (by decide) | exact Or.inr rfl)))

theorem execSpareMove_only (g : Fin 32) (v : Word) (s : State) :
    OnlyO 0x48004003800010 s (execSpareMove g v s) := by
  unfold execSpareMove
  dsimp only
  repeat' (first
    | with_reducible apply OnlyO.done
    | with_reducible exact Only.refl _ _
    | with_reducible apply Only.wr
    | with_reducible apply State.refuse_only
    | with_reducible apply Only.app (hg := State.setGroup_only ..)
    | with_reducible apply Only.app (hg := State.requestMove_only ..)
    | with_reducible apply Only.app (hg := State.moveReplaced_only ..)
    | decide
    | (rw [blk_KRF_SPARE_AUTO]; decide)
    | (rw [blk_KRF_SPARE_CH]; decide)
    | (rw [blk_KRF_SPARE_MODE]; decide)
    | (rw [blk_KRF_SPARE_ROTATE]; decide)
    | (rw [blk_KRF_SPSTAT_CURCH]; decide)
    | split
    | intro _
    | (with_reducible apply Only.upd <;> try (first | exact Or.inl (by decide) | exact Or.inr rfl)))

theorem execSpareTakeover_only (g : Fin 32) (s : State) :
    OnlyO 0x48004003800010 s (execSpareTakeover g s) := by
  unfold execSpareTakeover
  dsimp only
  repeat' (first
    | with_reducible apply OnlyO.done
    | with_reducible exact Only.refl _ _
    | with_reducible apply Only.wr
    | with_reducible apply Only.app (hg := State.spareLeaves_only ..)
    | with_reducible apply Only.app (hg := State.setGroup_only ..)
    | with_reducible apply Only.app (hg := State.repaired_only ..)
    | with_reducible apply State.fault_only
    | decide
    | (rw [blk_KRF_CHSTAT_SPARE]; decide)
    | (rw [blk_KRF_SPARE_CH]; decide)
    | (rw [blk_KRF_SPARE_MODE]; decide)
    | (rw [blk_KRF_SPSTAT_CURCH]; decide)
    | (rw [blk_KRF_SPSTAT_TAKEN]; decide)
    | split
    | intro _
    | (with_reducible apply Only.upd <;> try (first | exact Or.inl (by decide) | exact Or.inr rfl)))

end Sys2Proof.Machine
end

