-- ==== Sys2Proof/Laws/OnlyFrame.lean ====
section
/-!
SUPPORT. What each operation of Machine/Frame.lean may change: its register blocks and parts of the state, as the mask of `Only`.
-/
namespace Sys2Proof.Machine

set_option linter.unusedTactic false
set_option linter.unreachableTactic false

theorem State.skewFrame_only (s : State) :
    Only 0x4000000000 s (State.skewFrame s) := by
  unfold State.skewFrame
  dsimp only
  repeat' (first
    | with_reducible exact Only.refl _ _
    | with_reducible apply Only.app (hg := State.setChan_only ..)
    | with_reducible apply Only.foldl
    | decide
    | split
    | intro _
    | (with_reducible apply Only.upd <;> try (first | exact Or.inl (by decide) | exact Or.inr rfl)))

theorem State.foreignFrame_only (s : State) :
    Only 0x2000000020 s (State.foreignFrame s) := by
  unfold State.foreignFrame
  dsimp only
  repeat' (first
    | with_reducible exact Only.refl _ _
    | with_reducible apply Only.wr
    | with_reducible apply Only.foldl
    | decide
    | (rw [blk_PEG_FOREIGN_CH]; decide)
    | split
    | intro _
    | (with_reducible apply Only.upd <;> try (first | exact Or.inl (by decide) | exact Or.inr rfl)))

theorem State.driverFrame_only (s : State) :
    Only 0x2000000000 s (State.driverFrame s) := by
  unfold State.driverFrame
  repeat' (first
    | with_reducible exact Only.refl _ _
    | with_reducible apply Only.app (hg := State.setPlan_only ..)
    | with_reducible apply Only.foldl
    | decide
    | intro _
    | (with_reducible apply Only.upd <;> try (first | exact Or.inl (by decide) | exact Or.inr rfl)))

theorem State.codebookFrame_only (s : State) (num : Nat) :
    Only 0x8000000800020 s (State.codebookFrame s num) := by
  unfold State.codebookFrame
  dsimp only
  repeat' (first
    | with_reducible exact Only.refl _ _
    | with_reducible apply Only.wrB
    | with_reducible apply State.fault_only
    | with_reducible apply Only.when
    | decide
    | intro _)

theorem State.masterFrameStart_only (s : State) (num : Nat) (b : Nat) :
    Only 0xc2002000100000 s (State.masterFrameStart s num b) := by
  unfold State.masterFrameStart
  dsimp only
  repeat' (first
    | with_reducible exact Only.refl _ _
    | with_reducible apply Only.app (hg := State.tieOriginate_only ..)
    | with_reducible apply Only.app (hg := State.sendCodebook_only ..)
    | with_reducible apply Only.when
    | decide
    | split
    | intro _)

theorem State.tieFrame_only (s : State) (num : Nat) :
    Only 0x2000000100000 s (State.tieFrame s num) := by
  unfold State.tieFrame
  dsimp only
  repeat' (first
    | with_reducible exact Only.refl _ _
    | with_reducible apply Only.wr
    | with_reducible apply Only.app (hg := State.onDwl_only ..)
    | decide
    | split
    | (with_reducible apply Only.upd <;> try (first | exact Or.inl (by decide) | exact Or.inr rfl)))

theorem State.frameEnds_only (s : State) (b : Nat) (old : Nat) :
    Only 0x12000000000 s (State.frameEnds s b old) := by
  unfold State.frameEnds
  repeat' (first
    | with_reducible exact Only.refl _ _
    | with_reducible apply Only.app (hg := State.raiseMarker_only ..)
    | with_reducible apply Only.app (hg := State.onPeg_only ..)
    | decide
    | split
    | (with_reducible apply Only.upd <;> try (first | exact Or.inl (by decide) | exact Or.inr rfl)))

theorem State.periodFrame_only (s : State) :
    Only 0x22000000400 s (State.periodFrame s) := by
  unfold State.periodFrame
  dsimp only
  repeat' (first
    | with_reducible exact Only.refl _ _
    | with_reducible apply Only.app (hg := State.onPeg_only ..)
    | with_reducible apply Only.app (hg := State.lbkRelay_only ..)
    | decide
    | split
    | (with_reducible apply Only.upd <;> try (first | exact Or.inl (by decide) | exact Or.inr rfl)))

theorem State.scanFrame_only (s : State) (b : Nat) (old : Nat) :
    Only 0x48002400800021 s (State.scanFrame s b old) := by
  unfold State.scanFrame
  dsimp only
  repeat' (first
    | with_reducible exact Only.refl _ _
    | with_reducible apply Only.wr
    | with_reducible apply Only.app (hg := State.onPeg_only ..)
    | with_reducible apply Only.app (hg := State.nowReady_only ..)
    | with_reducible apply Only.app (hg := State.onBoot_only ..)
    | with_reducible apply Only.app (hg := State.nowRunning_only ..)
    | decide
    | split
    | (with_reducible apply Only.upd <;> try (first | exact Or.inl (by decide) | exact Or.inr rfl)))

theorem State.frameStarts_only (s : State) (b : Nat) (num : Nat) :
    Only 0x12000000020 s (State.frameStarts s b num) := by
  unfold State.frameStarts
  dsimp only
  repeat' (first
    | with_reducible exact Only.refl _ _
    | with_reducible apply Only.flag
    | with_reducible apply Only.app (hg := State.raiseMarker_only ..)
    | with_reducible apply Only.app (hg := State.onPeg_only ..)
    | decide
    | split
    | (with_reducible apply Only.upd <;> try (first | exact Or.inl (by decide) | exact Or.inr rfl)))

theorem State.ringFrame_only (s : State) :
    Only 0x1000000000 s (State.ringFrame s) := by
  unfold State.ringFrame
  repeat' (first
    | with_reducible exact Only.refl _ _
    | decide
    | (with_reducible apply Only.upd <;> try (first | exact Or.inl (by decide) | exact Or.inr rfl)))

theorem State.frameEffects_only (s : State) (b : Nat) (num : Nat) :
    Only 0xca837800920020 s (State.frameEffects s b num) := by
  unfold State.frameEffects
  dsimp only
  repeat' (first
    | with_reducible exact Only.refl _ _
    | with_reducible apply Only.app (hg := State.ringFrame_only ..)
    | with_reducible apply Only.app (hg := State.skewFrame_only ..)
    | with_reducible apply Only.app (hg := State.foreignFrame_only ..)
    | with_reducible apply Only.app (hg := State.driverFrame_only ..)
    | with_reducible apply Only.app (hg := State.onTnn_only ..)
    | with_reducible apply Only.app (hg := State.tieFrame_only ..)
    | with_reducible apply Only.app (hg := State.masterFrameStart_only ..)
    | with_reducible apply Only.app (hg := State.codebookFrame_only ..)
    | with_reducible apply Only.app (hg := State.plbFrame_only ..)
    | with_reducible apply Only.app (hg := State.onPeg_only ..)
    | with_reducible apply Only.app (hg := State.lbkFrame_only ..)
    | with_reducible apply Only.foldl
    | decide
    | split
    | intro _
    | (with_reducible apply Only.upd <;> try (first | exact Or.inl (by decide) | exact Or.inr rfl)))

theorem State.boundary_only (s : State) (b : Nat) :
    Only 0xcb8f7e00928623 s (State.boundary s b) := by
  unfold State.boundary
  dsimp only
  repeat' (first
    | with_reducible exact Only.refl _ _
    | with_reducible apply Only.wr
    | with_reducible apply Only.app (hg := State.frameEnds_only ..)
    | with_reducible apply Only.app (hg := State.applyStep_only ..)
    | (with_reducible refine Only.ofFst (by assumption) ?_; with_reducible apply Only.app (hg := State.applyStep_only ..))
    | with_reducible apply Only.app (hg := State.stepBreak_only ..)
    | with_reducible apply Only.app (hg := State.onPeg_only ..)
    | with_reducible apply Only.app (hg := State.swapsAt_only ..)
    | with_reducible apply Only.app (hg := State.periodFrame_only ..)
    | with_reducible apply Only.app (hg := State.scanFrame_only ..)
    | with_reducible apply Only.app (hg := State.frameEffects_only ..)
    | with_reducible apply Only.app (hg := State.frameStarts_only ..)
    | with_reducible apply Only.app (hg := State.settleJnl_only ..)
    | decide
    | split
    | (with_reducible apply Only.upd <;> try (first | exact Or.inl (by decide) | exact Or.inr rfl)))

theorem execFrameBoundary_only (s : State) :
    OnlyO 0xcb8f7e03928623 s (execFrameBoundary s) := by
  unfold execFrameBoundary
  repeat' (first
    | with_reducible apply OnlyO.done
    | with_reducible exact Only.refl _ _
    | with_reducible apply Only.app (hg := State.boundary_only ..)
    | decide
    | split)

end Sys2Proof.Machine
end

