-- ==== Sys2Proof/Laws/OnlyGauges.lean ====
section
/-!
SUPPORT. What each operation of Machine/Gauges.lean may change: its register blocks and parts of the state, as the mask of `Only`.
-/
namespace Sys2Proof.Machine

set_option linter.unusedTactic false
set_option linter.unreachableTactic false

theorem State.setGauge_only (s : State) (u : Nat) (f : Gauge → Gauge) :
    Only 0x4000000000 s (State.setGauge s u f) := by
  unfold State.setGauge
  repeat' (first
    | with_reducible exact Only.refl _ _
    | decide
    | (with_reducible apply Only.upd <;> try (first | exact Or.inl (by decide) | exact Or.inr rfl)))

theorem State.wrPair_only {m : Nat} {s u : State} {lo hi : Fld} {v : Nat} (h : Only m s u) (hl : m.testBit (blk lo.key) = true)
    (hh : m.testBit (blk hi.key) = true) (_ : 0 ||| m = m) : Only m s (u.wrPair lo hi v) := (h.wr hl).wr hh

theorem State.measured_only (s : State) (u : Nat) (x : Nat) (next : Option Nat) :
    Only 0x4000000010 s (State.measured s u x next) := by
  unfold State.measured
  dsimp only
  repeat' (first
    | with_reducible exact Only.refl _ _
    | with_reducible apply Only.wr
    | with_reducible apply Only.app (hg := State.setGauge_only ..)
    | with_reducible apply State.wrPair_only
    | decide
    | (rw [blk_KRF_GLASTHI_LAST]; decide)
    | (rw [blk_KRF_GLASTLO_LAST]; decide)
    | (rw [blk_KRF_GSTAT_CNT]; decide)
    | (rw [blk_KRF_GSTAT_OVF]; decide)
    | split
    | intro _
    | (with_reducible apply Only.upd <;> try (first | exact Or.inl (by decide) | exact Or.inr rfl)))

theorem State.gStampIn_only (s : State) (u : Nat) (stamp : Nat) :
    Only 0x4000000010 s (State.gStampIn s u stamp) := by
  unfold State.gStampIn
  dsimp only
  repeat' (first
    | with_reducible exact Only.refl _ _
    | with_reducible apply Only.wr
    | with_reducible apply Only.bump
    | with_reducible apply Only.app (hg := State.setGauge_only ..)
    | decide
    | (rw [blk_KRF_GOVF_OVFCNT]; decide)
    | (rw [blk_KRF_GSTAT_FIFO]; decide)
    | split
    | (with_reducible apply Only.upd <;> try (first | exact Or.inl (by decide) | exact Or.inr rfl)))

theorem State.gaugeUnit_only (s : State) (u : Nat) (g : Nat) (rising : Bool) (stamp : Nat) :
    Only 0x4000000010 s (State.gaugeUnit s u g rising stamp) := by
  unfold State.gaugeUnit
  dsimp only
  repeat' (first
    | with_reducible exact Only.refl _ _
    | with_reducible apply Only.app (hg := State.gStampIn_only ..)
    | with_reducible apply Only.app (hg := State.setGauge_only ..)
    | with_reducible apply Only.app (hg := State.measured_only ..)
    | decide
    | split
    | (with_reducible apply Only.upd <;> try (first | exact Or.inl (by decide) | exact Or.inr rfl)))

theorem execGaugeEdge_only (g : Fin 8) (rising : Bool) (coarse : BitVec 48) (fine : BitVec 5) (s : State) :
    OnlyO 0x40004003000010 s (execGaugeEdge g rising coarse fine s) := by
  unfold execGaugeEdge
  dsimp only
  repeat' (first
    | with_reducible apply OnlyO.done
    | with_reducible exact Only.refl _ _
    | with_reducible apply Only.bump
    | with_reducible apply Only.app (hg := State.gaugeUnit_only ..)
    | with_reducible apply Only.foldl
    | decide
    | (rw [blk_KRF_GOVF_DEADCNT]; decide)
    | split
    | intro _
    | (with_reducible apply Only.upd <;> try (first | exact Or.inl (by decide) | exact Or.inr rfl)))

theorem execGaugeOverflow_only (u : Fin 8) (s : State) :
    OnlyO 0x48004003800010 s (execGaugeOverflow u s) := by
  unfold execGaugeOverflow
  dsimp only
  repeat' (first
    | with_reducible apply OnlyO.done
    | with_reducible exact Only.refl _ _
    | with_reducible apply Only.wr
    | with_reducible apply Only.bump
    | with_reducible apply Only.app (hg := State.setGauge_only ..)
    | with_reducible apply State.fault_only
    | decide
    | (rw [blk_KRF_GOVF_OVFCNT]; decide)
    | (rw [blk_KRF_GSTAT_OVF]; decide)
    | split
    | intro _
    | (with_reducible apply Only.upd <;> try (first | exact Or.inl (by decide) | exact Or.inr rfl)))

theorem State.latchStats_only (s : State) (u : Nat) :
    Only 0x10 s (State.latchStats s u) := by
  unfold State.latchStats
  dsimp only
  repeat' (first
    | with_reducible exact Only.refl _ _
    | with_reducible apply State.wrPair_only
    | decide
    | (rw [blk_KRF_GMAXHI_MAX]; decide)
    | (rw [blk_KRF_GMAXLO_MAX]; decide)
    | (rw [blk_KRF_GMEANHI_MEAN]; decide)
    | (rw [blk_KRF_GMEANLO_MEAN]; decide)
    | (rw [blk_KRF_GMINHI_MIN]; decide)
    | (rw [blk_KRF_GMINLO_MIN]; decide)
    | (rw [blk_KRF_GSDEVHI_SDEV]; decide)
    | (rw [blk_KRF_GSDEVLO_SDEV]; decide)
    | split
    | intro _)

theorem State.gaugeRun_only (s : State) (u : Nat) :
    Only 0x4000000010 s (State.gaugeRun s u) := by
  unfold State.gaugeRun
  repeat' (first
    | with_reducible exact Only.refl _ _
    | with_reducible apply Only.wr
    | with_reducible apply Only.app (hg := State.setGauge_only ..)
    | decide
    | (rw [blk_KRF_GSTAT_BUSY]; decide)
    | (rw [blk_KRF_GSTAT_CNT]; decide)
    | (with_reducible apply Only.upd <;> try (first | exact Or.inl (by decide) | exact Or.inr rfl)))

theorem execGaugedone_only (u : Fin 8) (s : State) :
    OnlyO 0x40004003000010 s (execGaugedone u s) := by
  unfold execGaugedone
  dsimp only
  repeat' (first
    | with_reducible apply OnlyO.done
    | with_reducible exact Only.refl _ _
    | with_reducible apply Only.wr
    | with_reducible apply Only.flag
    | with_reducible apply Only.app (hg := State.latchStats_only ..)
    | with_reducible apply Only.app (hg := State.gaugeRun_only ..)
    | with_reducible apply Only.app (hg := State.setGauge_only ..)
    | decide
    | (rw [blk_KRF_GSTAT_BUSY]; decide)
    | (rw [blk_KRF_GSTAT_DONE]; decide)
    | split
    | (with_reducible apply Only.upd <;> try (first | exact Or.inl (by decide) | exact Or.inr rfl)))

theorem execGaugeArm_only (u : Fin 8) (s : State) :
    OnlyO 0x40004003000010 s (execGaugeArm u s) := by
  unfold execGaugeArm
  dsimp only
  repeat' (first
    | with_reducible apply OnlyO.done
    | with_reducible exact Only.refl _ _
    | with_reducible apply Only.wr
    | with_reducible apply Only.app (hg := State.gaugeRun_only ..)
    | decide
    | (rw [blk_KRF_GSTAT_DONE]; decide)
    | split)

theorem execGaugeAbort_only (u : Fin 8) (s : State) :
    OnlyO 0x40004003000010 s (execGaugeAbort u s) := by
  unfold execGaugeAbort
  dsimp only
  repeat' (first
    | with_reducible apply OnlyO.done
    | with_reducible exact Only.refl _ _
    | with_reducible apply Only.wr
    | with_reducible apply Only.app (hg := State.latchStats_only ..)
    | with_reducible apply Only.app (hg := State.setGauge_only ..)
    | decide
    | (rw [blk_KRF_GSTAT_BUSY]; decide)
    | (rw [blk_KRF_GSTAT_DONE]; decide)
    | split
    | (with_reducible apply Only.upd <;> try (first | exact Or.inl (by decide) | exact Or.inr rfl)))

theorem State.gtsPop_only (s : State) (u : Nat) :
    Only 0x4000000010 s (State.gtsPop s u) := by
  unfold State.gtsPop
  repeat' (first
    | with_reducible exact Only.refl _ _
    | with_reducible apply Only.wr
    | with_reducible apply State.wrPair_only
    | with_reducible apply Only.app (hg := State.setGauge_only ..)
    | decide
    | (rw [blk_KRF_GSTAT_FIFO]; decide)
    | (rw [blk_KRF_GTSHI_TS]; decide)
    | (rw [blk_KRF_GTSLO_TS]; decide)
    | split
    | intro _
    | (with_reducible apply Only.upd <;> try (first | exact Or.inl (by decide) | exact Or.inr rfl)))

theorem execKrfGtsloRead_only (u : Fin 8) (s : State) :
    OnlyO 0x40004003000010 s (execKrfGtsloRead u s) := by
  unfold execKrfGtsloRead
  dsimp only
  repeat' (first
    | with_reducible apply OnlyO.done
    | with_reducible exact Only.refl _ _
    | with_reducible apply Only.app (hg := State.gtsPop_only ..)
    | with_reducible apply Only.app (hg := State.emit_only ..)
    | decide
    | (rw [blk_KRF_GTSLO_TS]; decide))

end Sys2Proof.Machine
end

