-- ==== Sys2Proof/Laws/OnlyPurlin.lean ====
section
/-!
SUPPORT. What each operation of Machine/Purlin.lean may change: its register blocks and parts of the state, as the mask of `Only`.
-/
namespace Sys2Proof.Machine

set_option linter.unusedTactic false
set_option linter.unreachableTactic false

theorem State.setBulk_only (s : State) (c : Nat) (f : BulkChan → BulkChan) :
    Only 0x1000000000000 s (State.setBulk s c f) := by
  unfold State.setBulk
  repeat' (first
    | with_reducible exact Only.refl _ _
    | with_reducible apply Only.app (hg := State.onHif_only ..)
    | decide
    | (with_reducible apply Only.upd <;> try (first | exact Or.inl (by decide) | exact Or.inr rfl)))

theorem State.fetchDescs_only (s : State) (c n : Nat) (es : List (BitVec 256)) : Only 0x1000000040000 s (State.fetchDescs s c n es) := by
  induction n generalizing s es with
  | zero => exact Only.refl _ s
  | succ n ih =>
    unfold State.fetchDescs
    dsimp only
    split
    · split
      · exact ((Only.refl _ s).app (State.setBulk_only ..) (by decide)).trans (ih _ _)
      · exact (Only.refl _ s).bump (by decide)
    · exact (Only.refl _ s).bump (by decide)

theorem State.bulkFetch_only (s : State) (c : Nat) (n : Nat) (descs : List (BitVec 256)) :
    Only 0x1000000040000 s (State.bulkFetch s c n descs) := by
  unfold State.bulkFetch
  repeat' (first
    | with_reducible exact Only.refl _ _
    | with_reducible apply Only.app (hg := State.setBulk_only ..)
    | with_reducible apply Only.app (hg := State.fetchDescs_only ..)
    | decide
    | split
    | (with_reducible apply Only.upd <;> try (first | exact Or.inl (by decide) | exact Or.inr rfl)))

theorem State.bulkBell_only (s : State) (c : Nat) (v : Nat) (descs : List (BitVec 256)) :
    Only 0x9000000840000 s (State.bulkBell s c v descs) := by
  unfold State.bulkBell
  dsimp only
  repeat' (first
    | with_reducible exact Only.refl _ _
    | with_reducible apply Only.app (hg := State.dbBad_only ..)
    | with_reducible apply Only.app (hg := State.setBulk_only ..)
    | with_reducible apply Only.app (hg := State.bulkFetch_only ..)
    | decide
    | split
    | (with_reducible apply Only.upd <;> try (first | exact Or.inl (by decide) | exact Or.inr rfl)))

theorem execBulkDoorbell_only (slot : BitVec 12) (whole : Bool) (v : BitVec 64) (descs : List (BitVec 256)) (s : State) :
    OnlyO 0x49000003840000 s (execBulkDoorbell slot whole v descs s) := by
  unfold execBulkDoorbell
  dsimp only
  repeat' (first
    | with_reducible apply OnlyO.done
    | with_reducible exact Only.refl _ _
    | with_reducible apply Only.app (hg := State.dbBad_only ..)
    | with_reducible apply Only.app (hg := State.bulkBell_only ..)
    | decide
    | split)

theorem State.writeBulkCpl_only (s : State) (c : Nat) (id : Nat) (status : Nat) (late : Bool) (residue : Nat) (bytes : Nat) (irq : Bool) :
    Only 0x41000002080000 s (State.writeBulkCpl s c id status late residue bytes irq) := by
  unfold State.writeBulkCpl
  dsimp only
  repeat' (first
    | with_reducible exact Only.refl _ _
    | with_reducible apply Only.app (hg := State.hostWrite_only ..)
    | with_reducible apply Only.app (hg := State.setBulk_only ..)
    | with_reducible apply Only.app (hg := State.msix_only ..)
    | decide
    | split
    | (with_reducible apply Only.upd <;> try (first | exact Or.inl (by decide) | exact Or.inr rfl)))

theorem State.bulkBad_only (s : State) (c : Nat) (status : Nat) (late : Bool) :
    Only 0x8000000880000 s (State.bulkBad s c status late) := by
  unfold State.bulkBad
  dsimp only
  repeat' (first
    | with_reducible exact Only.refl _ _
    | with_reducible apply Only.bump
    | with_reducible apply State.fault_only
    | with_reducible apply Only.when
    | decide
    | (rw [blk_PUR_CHERR_ERRS]; decide)
    | (rw [blk_PUR_CHERR_LATE]; decide)
    | intro _)

theorem State.popDesc_only (s : State) (c : Nat) :
    Only 0x1000000080000 s (State.popDesc s c) := by
  unfold State.popDesc
  dsimp only
  repeat' (first
    | with_reducible exact Only.refl _ _
    | with_reducible apply Only.wr
    | with_reducible apply Only.count
    | with_reducible apply Only.flag
    | with_reducible apply Only.app (hg := State.setBulk_only ..)
    | decide
    | (rw [blk_PUR_CHSTAT_HEAD]; decide)
    | (rw [blk_PUR_CHSTAT_STATE]; decide)
    | split
    | (with_reducible apply Only.upd <;> try (first | exact Or.inl (by decide) | exact Or.inr rfl)))

theorem State.endDesc_only (s : State) (c : Nat) (d : Desc) (status : Nat) (late : Bool) (residue : Nat) (bytes : Nat) :
    Only 0x49000002880000 s (State.endDesc s c d status late residue bytes) := by
  unfold State.endDesc
  dsimp only
  repeat' (first
    | with_reducible exact Only.refl _ _
    | with_reducible apply Only.app (hg := State.writeBulkCpl_only ..)
    | with_reducible apply Only.app (hg := State.bulkBad_only ..)
    | with_reducible apply Only.app (hg := State.popDesc_only ..)
    | with_reducible apply Only.when
    | decide
    | intro _)

theorem State.moveBytes_only (s : State) (d : Desc) (n : Nat) (bad : Bool) (data : List Byte) :
    Only 0xd9000000080000 s (State.moveBytes s d n bad data) := by
  unfold State.moveBytes
  dsimp only
  repeat' (first
    | with_reducible exact Only.refl _ _
    | with_reducible apply Only.app (hg := State.draw_only ..)
    | with_reducible apply Only.app (hg := State.hostWrite_only ..)
    | with_reducible apply Only.app (hg := State.hbmStore_only ..)
    | decide
    | split)

theorem State.runCopy_only (s : State) (c : Nat) (d : Desc) (e : DescEnd) (data : List Byte) :
    Only 0xdb1bb00288aaa0 s (State.runCopy s c d e data) := by
  unfold State.runCopy
  dsimp only
  repeat' (first
    | with_reducible exact Only.refl _ _
    | with_reducible apply Only.app (hg := State.readSpan_only ..)
    | (with_reducible refine Only.ofFst (by assumption) ?_; with_reducible apply Only.app (hg := State.readSpan_only ..))
    | with_reducible apply Only.app (hg := State.moveBytes_only ..)
    | with_reducible apply Only.app (hg := State.endDesc_only ..)
    | decide
    | split
    | (with_reducible apply Only.upd <;> try (first | exact Or.inl (by decide) | exact Or.inr rfl)))

theorem State.copyDesc_only (s : State) (c : Nat) (d : Desc) (e : DescEnd) (data : List Byte) :
    Only 0xdb1bb002c8aaa0 s (State.copyDesc s c d e data) := by
  unfold State.copyDesc
  repeat' (first
    | with_reducible exact Only.refl _ _
    | with_reducible apply Only.app (hg := State.endDesc_only ..)
    | with_reducible apply Only.app (hg := State.girtDenyHbm_only ..)
    | with_reducible apply Only.app (hg := State.runCopy_only ..)
    | decide
    | split
    | (with_reducible apply Only.upd <;> try (first | exact Or.inl (by decide) | exact Or.inr rfl)))

theorem State.entrySent_only (s : State) (e : DogEntry) :
    Only 0x80000000000 s (State.entrySent s e) := by
  unfold State.entrySent
  repeat' (first
    | with_reducible exact Only.refl _ _
    | decide
    | (with_reducible apply Only.upd <;> try (first | exact Or.inl (by decide) | exact Or.inr rfl)))

theorem State.sinkDesc_only (s : State) (c : Nat) (d : Desc) (e : DescEnd) :
    Only 0xc9080002880000 s (State.sinkDesc s c d e) := by
  unfold State.sinkDesc
  dsimp only
  repeat' (first
    | with_reducible exact Only.refl _ _
    | with_reducible apply Only.app (hg := State.endDesc_only ..)
    | with_reducible apply Only.app (hg := State.hostWrite_only ..)
    | with_reducible apply Only.app (hg := State.entrySent_only ..)
    | with_reducible apply Only.app (hg := State.draw_only ..)
    | decide
    | split
    | (with_reducible apply Only.upd <;> try (first | exact Or.inl (by decide) | exact Or.inr rfl)))

theorem execDescriptorComplete_only (c : Fin 32) (e : DescEnd) (data : List Byte) (s : State) :
    OnlyO 0xdb1bb003c8aaa0 s (execDescriptorComplete c e data s) := by
  unfold execDescriptorComplete
  dsimp only
  repeat' (first
    | with_reducible apply OnlyO.done
    | with_reducible exact Only.refl _ _
    | with_reducible apply Only.app (hg := State.sinkDesc_only ..)
    | with_reducible apply Only.app (hg := State.copyDesc_only ..)
    | decide
    | split
    | (with_reducible apply Only.upd <;> try (first | exact Or.inl (by decide) | exact Or.inr rfl)))

theorem State.stopNow_only (s : State) (c : Nat) :
    Only 0x80000 s (State.stopNow s c) := by
  unfold State.stopNow
  repeat' (first
    | with_reducible exact Only.refl _ _
    | with_reducible apply Only.wr
    | with_reducible apply Only.flag
    | decide
    | (rw [blk_PUR_CHCFG_RUN]; decide)
    | (rw [blk_PUR_CHSTAT_STATE]; decide))

theorem State.abortDesc_only (s : State) (c : Nat) (residue : Nat) :
    Only 0xd9000002880000 s (State.abortDesc s c residue) := by
  unfold State.abortDesc
  dsimp only
  repeat' (first
    | with_reducible exact Only.refl _ _
    | with_reducible apply Only.app (hg := State.draw_only ..)
    | with_reducible apply Only.app (hg := State.moveBytes_only ..)
    | with_reducible apply Only.app (hg := State.endDesc_only ..)
    | with_reducible apply Only.app (hg := State.stopNow_only ..)
    | decide
    | split
    | (with_reducible apply Only.upd <;> try (first | exact Or.inl (by decide) | exact Or.inr rfl)))

theorem execAbort_only (c : Fin 64) (residue : Nat) (s : State) :
    OnlyO 0xd9000003880000 s (execAbort c residue s) := by
  unfold execAbort
  repeat' (first
    | with_reducible apply OnlyO.done
    | with_reducible exact Only.refl _ _
    | with_reducible apply State.refuse_only
    | with_reducible apply Only.app (hg := State.abortDesc_only ..)
    | decide
    | split
    | intro _)

theorem execRunClear_only (c : Fin 64) (busy : Bool) (s : State) :
    OnlyO 0x49000003880000 s (execRunClear c busy s) := by
  unfold execRunClear
  dsimp only
  repeat' (first
    | with_reducible apply OnlyO.done
    | with_reducible exact Only.refl _ _
    | with_reducible apply Only.wr
    | with_reducible apply State.refuse_only
    | with_reducible apply Only.app (hg := State.setBulk_only ..)
    | with_reducible apply Only.app (hg := State.stopNow_only ..)
    | with_reducible apply Only.when
    | decide
    | (rw [blk_PUR_CHCFG_RUN]; decide)
    | (rw [blk_PUR_CHSTAT_STATE]; decide)
    | split
    | intro _
    | (with_reducible apply Only.upd <;> try (first | exact Or.inl (by decide) | exact Or.inr rfl)))

theorem execWedge_only (o : WedgeObject) (s : State) :
    OnlyO 0x490000038c0000 s (execWedge o s) := by
  unfold execWedge
  dsimp only
  repeat' (first
    | with_reducible apply OnlyO.done
    | with_reducible exact Only.refl _ _
    | with_reducible apply Only.wr
    | with_reducible apply State.fault_only
    | with_reducible apply Only.app (hg := State.onHif_only ..)
    | with_reducible apply Only.app (hg := State.completeHeld_only ..)
    | decide
    | (rw [blk_HIF_CRSTAT_WEDGED]; decide)
    | (rw [blk_HIF_QSTATE_STATE]; decide)
    | (rw [blk_PUR_CHSTAT_WEDGED]; decide)
    | split
    | intro _
    | (with_reducible apply Only.upd <;> try (first | exact Or.inl (by decide) | exact Or.inr rfl)))

theorem State.suspendQueues_only (s : State) :
    Only 0x1000000040000 s (State.suspendQueues s) := by
  unfold State.suspendQueues
  dsimp only
  repeat' (first
    | with_reducible exact Only.refl _ _
    | with_reducible apply Only.wr
    | with_reducible apply Only.flag
    | with_reducible apply Only.app (hg := State.onHif_only ..)
    | with_reducible apply Only.foldl
    | decide
    | (rw [blk_HIF_QSTATE_STATE]; decide)
    | split
    | intro _
    | (with_reducible apply Only.upd <;> try (first | exact Or.inl (by decide) | exact Or.inr rfl)))

theorem State.resetConfig_only (s : State) :
    Only 0x1000000040000 s (State.resetConfig s) := by
  unfold State.resetConfig
  repeat' (first
    | with_reducible exact Only.refl _ _
    | with_reducible apply Only.wr
    | with_reducible apply Only.app (hg := State.onHif_only ..)
    | decide
    | (with_reducible apply Only.upd <;> try (first | exact Or.inl (by decide) | exact Or.inr rfl)))

theorem execLinkUp_only (speed : BitVec 3) (width : BitVec 3) (s : State) :
    OnlyO 0x40000003040000 s (execLinkUp speed width s) := by
  unfold execLinkUp
  repeat' (first
    | with_reducible apply OnlyO.done
    | with_reducible exact Only.refl _ _
    | with_reducible apply Only.wr
    | with_reducible apply Only.flag
    | decide
    | split)

theorem State.cutDesc_only (s : State) (c : Nat) (residue : Nat) :
    Only 0xd9000000880000 s (State.cutDesc s c residue) := by
  unfold State.cutDesc
  dsimp only
  repeat' (first
    | with_reducible exact Only.refl _ _
    | with_reducible apply Only.app (hg := State.draw_only ..)
    | with_reducible apply Only.app (hg := State.hostWrite_only ..)
    | with_reducible apply Only.app (hg := State.moveBytes_only ..)
    | with_reducible apply Only.app (hg := State.setBulk_only ..)
    | with_reducible apply Only.app (hg := State.bulkBad_only ..)
    | with_reducible apply Only.app (hg := State.popDesc_only ..)
    | decide
    | split
    | (with_reducible apply Only.upd <;> try (first | exact Or.inl (by decide) | exact Or.inr rfl)))

theorem execBusMasterDisable_only (d3 : Bool) (residues : List (Fin 32 × Nat)) (s : State) :
    OnlyO 0xd90000038c0000 s (execBusMasterDisable d3 residues s) := by
  unfold execBusMasterDisable
  dsimp only
  repeat' (first
    | with_reducible apply OnlyO.done
    | with_reducible exact Only.refl _ _
    | with_reducible apply Only.wr
    | with_reducible apply Only.app (hg := State.cutDesc_only ..)
    | with_reducible apply Only.app (hg := State.onHif_only ..)
    | with_reducible apply Only.foldl
    | decide
    | split
    | intro _
    | (with_reducible apply Only.upd <;> try (first | exact Or.inl (by decide) | exact Or.inr rfl)))

theorem State.payOwed_only (s : State) (c : Nat) :
    Only 0x41000002080000 s (State.payOwed s c) := by
  unfold State.payOwed
  dsimp only
  repeat' (first
    | with_reducible exact Only.refl _ _
    | with_reducible apply Only.app (hg := State.writeBulkCpl_only ..)
    | with_reducible apply Only.app (hg := State.setBulk_only ..)
    | with_reducible apply Only.foldl
    | decide
    | intro _
    | (with_reducible apply Only.upd <;> try (first | exact Or.inl (by decide) | exact Or.inr rfl)))

theorem State.flushMsix_only (s : State) :
    Only 0x40000002000000 s (State.flushMsix s) := by
  unfold State.flushMsix
  repeat' (first
    | with_reducible exact Only.refl _ _
    | with_reducible apply Only.wr
    | with_reducible apply Only.app (hg := State.msix_only ..)
    | with_reducible apply Only.foldl
    | decide
    | (rw [blk_MSIX_PENDING]; decide)
    | split
    | intro _)

theorem State.resumeDma_only (s : State) :
    Only 0x490000028c0000 s (State.resumeDma s) := by
  unfold State.resumeDma
  dsimp only
  repeat' (first
    | with_reducible exact Only.refl _ _
    | with_reducible apply Only.app (hg := State.payOwed_only ..)
    | with_reducible apply Only.app (hg := State.bulkFetch_only ..)
    | with_reducible apply Only.app (hg := State.ringFetch_only ..)
    | with_reducible apply Only.app (hg := State.flushMsix_only ..)
    | with_reducible apply Only.foldl
    | decide
    | split
    | intro _
    | (with_reducible apply Only.upd <;> try (first | exact Or.inl (by decide) | exact Or.inr rfl)))

theorem State.cutAll_only (s : State) (stop : Bool) :
    Only 0xd9000000880000 s (State.cutAll s stop) := by
  unfold State.cutAll
  repeat' (first
    | with_reducible exact Only.refl _ _
    | with_reducible apply Only.app (hg := State.draw_only ..)
    | with_reducible apply Only.app (hg := State.cutDesc_only ..)
    | with_reducible apply Only.foldl
    | decide
    | split
    | intro _)

theorem State.pcieDown_only (s : State) :
    Only 0xd90000008c0000 s (State.pcieDown s) := by
  unfold State.pcieDown
  dsimp only
  repeat' (first
    | with_reducible exact Only.refl _ _
    | with_reducible apply Only.wr
    | with_reducible apply Only.app (hg := State.cutAll_only ..)
    | with_reducible apply Only.app (hg := State.resetConfig_only ..)
    | with_reducible apply Only.app (hg := State.suspendQueues_only ..)
    | with_reducible apply State.fault_only
    | decide
    | split
    | intro _)

theorem execLinkDown_only (s : State) :
    OnlyO 0xd90000038c0000 s (execLinkDown s) := by
  unfold execLinkDown
  repeat' (first
    | with_reducible apply OnlyO.done
    | with_reducible exact Only.refl _ _
    | with_reducible apply Only.app (hg := State.pcieDown_only ..)
    | decide)

theorem State.laneRemove_only (s : State) (lane : Nat) (inj : Bool) :
    Only 0xd90000008c0000 s (State.laneRemove s lane inj) := by
  unfold State.laneRemove
  dsimp only
  repeat' (first
    | with_reducible exact Only.refl _ _
    | with_reducible apply Only.wr
    | with_reducible apply Only.flag
    | with_reducible apply Only.app (hg := State.reportInj_only ..)
    | with_reducible apply Only.app (hg := State.reportFree_only ..)
    | with_reducible apply Only.app (hg := State.pcieDown_only ..)
    | decide
    | split
    | (with_reducible apply Only.upd <;> try (first | exact Or.inl (by decide) | exact Or.inr rfl)))

theorem execConfigurationRequest_only (c : ConfigRequest) (s : State) :
    OnlyO 0xd90000038c0000 s (execConfigurationRequest c s) := by
  unfold execConfigurationRequest
  dsimp only
  repeat' (first
    | with_reducible apply OnlyO.done
    | with_reducible exact Only.refl _ _
    | with_reducible apply Only.wrB
    | with_reducible apply Only.app (hg := State.emit_only ..)
    | with_reducible apply State.command_only
    | with_reducible apply Only.app (hg := State.cutAll_only ..)
    | with_reducible apply Only.app (hg := State.onHif_only ..)
    | with_reducible apply Only.app (hg := State.resumeDma_only ..)
    | with_reducible apply Only.app (hg := State.msix_only ..)
    | with_reducible apply Only.app (hg := State.flushMsix_only ..)
    | decide
    | split
    | intro _
    | dsimp only
    | (with_reducible apply Only.upd <;> try (first | exact Or.inl (by decide) | exact Or.inr rfl)))

theorem execPcieLaneRemove_only (lane : Fin 16) (s : State) :
    OnlyO 0xd90000038c0000 s (execPcieLaneRemove lane s) := by
  unfold execPcieLaneRemove
  repeat' (first
    | with_reducible apply OnlyO.done
    | with_reducible exact Only.refl _ _
    | with_reducible apply Only.app (hg := State.laneRemove_only ..)
    | decide
    | split)

theorem State.droppedAgain_only (s : State) (obj : Nat) (token : Nat) :
    Only 0x1000000000000 s (State.droppedAgain s obj token).2 := by
  unfold State.droppedAgain
  repeat' (first
    | with_reducible exact Only.refl _ _
    | with_reducible apply Only.app (hg := State.onHif_only ..)
    | decide
    | split
    | (with_reducible apply Only.upd <;> try (first | exact Or.inl (by decide) | exact Or.inr rfl)))

theorem State.dropPacket_only (s : State) (inbound : Bool) :
    Only 0x8000000840000 s (State.dropPacket s inbound) := by
  unfold State.dropPacket
  dsimp only
  repeat' (first
    | with_reducible exact Only.refl _ _
    | with_reducible apply Only.bump
    | with_reducible apply State.faultInj_only
    | with_reducible apply Only.app (hg := State.onFlt_only ..)
    | with_reducible apply Only.when
    | decide
    | intro _
    | (with_reducible apply Only.upd <;> try (first | exact Or.inl (by decide) | exact Or.inr rfl)))

theorem execLathDrop_only (p : LathPacket) (s : State) :
    OnlyO 0xd90000038c0000 s (execLathDrop p s) := by
  unfold execLathDrop
  dsimp only
  repeat' (first
    | with_reducible apply OnlyO.done
    | with_reducible exact Only.refl _ _
    | with_reducible apply Only.bump
    | with_reducible apply Only.app (hg := State.dropPacket_only ..)
    | with_reducible apply Only.app (hg := State.emit_only ..)
    | with_reducible apply Only.app (hg := State.droppedAgain_only ..)
    | (with_reducible refine Only.ofSnd (by assumption) ?_; with_reducible apply Only.app (hg := State.droppedAgain_only ..))
    | with_reducible apply Only.app (hg := State.complete_only ..)
    | with_reducible apply Only.app (hg := State.draw_only ..)
    | with_reducible apply Only.app (hg := State.moveBytes_only ..)
    | with_reducible apply Only.app (hg := State.endDesc_only ..)
    | decide
    | split
    | (with_reducible apply Only.upd <;> try (first | exact Or.inl (by decide) | exact Or.inr rfl)))

end Sys2Proof.Machine
end

