-- ==== Sys2Proof/Laws/OnlyInject.lean ====
section
/-!
SUPPORT. What each operation of Machine/Inject.lean may change: its register blocks and parts of the state, as the mask of `Only`.
-/
namespace Sys2Proof.Machine

set_option linter.unusedTactic false
set_option linter.unreachableTactic false

theorem State.injectHbm_only (s : State) (symbols : Nat) :
    Only 0x8000000000000 s (State.injectHbm s symbols) := by
  unfold State.injectHbm
  repeat' (first
    | with_reducible exact Only.refl _ _
    | with_reducible apply Only.app (hg := State.onFlt_only ..)
    | decide
    | split
    | (with_reducible apply Only.upd <;> try (first | exact Or.inl (by decide) | exact Or.inr rfl)))

theorem State.injectTdc_only (s : State) (u : Nat) :
    Only 0x8804000800010 s (State.injectTdc s u) := by
  unfold State.injectTdc
  repeat' (first
    | with_reducible exact Only.refl _ _
    | with_reducible apply Only.flag
    | with_reducible apply Only.app (hg := State.tdcFailed_only ..)
    | with_reducible apply Only.app (hg := State.spareFailed_only ..)
    | with_reducible apply Only.app (hg := State.reportInj_only ..)
    | decide
    | split)

theorem State.injectIdle_only (s : State) (p : Nat) :
    Only 0x8000000000000 s (State.injectIdle s p) := by
  unfold State.injectIdle
  repeat' (first
    | with_reducible exact Only.refl _ _
    | with_reducible apply Only.app (hg := State.onFlt_only ..)
    | decide
    | split
    | (with_reducible apply Only.upd <;> try (first | exact Or.inl (by decide) | exact Or.inr rfl)))

theorem State.injectAct_only (s : State) (kind : Nat) (unit : Nat) :
    Only 0xd98be0008c8292 s (State.injectAct s kind unit) := by
  unfold State.injectAct
  repeat' (first
    | with_reducible exact Only.refl _ _
    | with_reducible apply Only.app (hg := State.injectHbm_only ..)
    | with_reducible apply Only.app (hg := State.onFlt_only ..)
    | with_reducible apply Only.app (hg := State.clusterFault_only ..)
    | with_reducible apply Only.app (hg := State.injectTdc_only ..)
    | with_reducible apply Only.app (hg := State.pllLoss_only ..)
    | with_reducible apply Only.app (hg := State.laneRemove_only ..)
    | with_reducible apply Only.app (hg := State.injectIdle_only ..)
    | decide
    | split
    | (with_reducible apply Only.upd <;> try (first | exact Or.inl (by decide) | exact Or.inr rfl)))

theorem State.goInject_only (s : State) (kind : Nat) (unit : Nat) :
    Only 0xd99be0008ca292 s (State.goInject s kind unit) := by
  unfold State.goInject
  repeat' (first
    | with_reducible exact Only.refl _ _
    | with_reducible apply Only.wr
    | with_reducible apply Only.app (hg := State.rwkReject_only ..)
    | with_reducible apply State.refuse_only
    | with_reducible apply Only.app (hg := State.rwkNote_only ..)
    | with_reducible apply Only.app (hg := State.injectAct_only ..)
    | decide
    | split
    | intro _)

theorem execInjectSymbolError_only (s : State) :
    OnlyO 0xd99be0038ca292 s (execInjectSymbolError s) := by
  unfold execInjectSymbolError
  repeat' (first
    | with_reducible apply OnlyO.done
    | with_reducible exact Only.refl _ _
    | with_reducible apply Only.app (hg := State.goInject_only ..)
    | decide)

theorem execInjectTwoSymbolError_only (s : State) :
    OnlyO 0xd99be0038ca292 s (execInjectTwoSymbolError s) := by
  unfold execInjectTwoSymbolError
  repeat' (first
    | with_reducible apply OnlyO.done
    | with_reducible exact Only.refl _ _
    | with_reducible apply Only.app (hg := State.goInject_only ..)
    | decide)

theorem execInjectEngineFault_only (unit : BitVec 11) (s : State) :
    OnlyO 0xd99be0038ca292 s (execInjectEngineFault unit s) := by
  unfold execInjectEngineFault
  repeat' (first
    | with_reducible apply OnlyO.done
    | with_reducible exact Only.refl _ _
    | with_reducible apply Only.app (hg := State.goInject_only ..)
    | decide)

theorem execInjectClusterFault_only (unit : BitVec 11) (s : State) :
    OnlyO 0xd99be0038ca292 s (execInjectClusterFault unit s) := by
  unfold execInjectClusterFault
  repeat' (first
    | with_reducible apply OnlyO.done
    | with_reducible exact Only.refl _ _
    | with_reducible apply Only.app (hg := State.goInject_only ..)
    | decide)

theorem execInjectTdcFail_only (unit : BitVec 11) (s : State) :
    OnlyO 0xd99be0038ca292 s (execInjectTdcFail unit s) := by
  unfold execInjectTdcFail
  repeat' (first
    | with_reducible apply OnlyO.done
    | with_reducible exact Only.refl _ _
    | with_reducible apply Only.app (hg := State.goInject_only ..)
    | decide)

theorem execInjectPllLoss_only (s : State) :
    OnlyO 0xd99be0038ca292 s (execInjectPllLoss s) := by
  unfold execInjectPllLoss
  repeat' (first
    | with_reducible apply OnlyO.done
    | with_reducible exact Only.refl _ _
    | with_reducible apply Only.app (hg := State.goInject_only ..)
    | decide)

theorem execInjectHeartbeatStop_only (s : State) :
    OnlyO 0xd99be0038ca292 s (execInjectHeartbeatStop s) := by
  unfold execInjectHeartbeatStop
  repeat' (first
    | with_reducible apply OnlyO.done
    | with_reducible exact Only.refl _ _
    | with_reducible apply Only.app (hg := State.goInject_only ..)
    | decide)

theorem execInjectLaneErrors_only (unit : BitVec 11) (s : State) :
    OnlyO 0xd99be0038ca292 s (execInjectLaneErrors unit s) := by
  unfold execInjectLaneErrors
  repeat' (first
    | with_reducible apply OnlyO.done
    | with_reducible exact Only.refl _ _
    | with_reducible apply Only.app (hg := State.goInject_only ..)
    | decide)

theorem execInjectLathError_only (s : State) :
    OnlyO 0xd99be0038ca292 s (execInjectLathError s) := by
  unfold execInjectLathError
  repeat' (first
    | with_reducible apply OnlyO.done
    | with_reducible exact Only.refl _ _
    | with_reducible apply Only.app (hg := State.goInject_only ..)
    | decide)

theorem execInjectRingIdle_only (unit : BitVec 11) (s : State) :
    OnlyO 0xd99be0038ca292 s (execInjectRingIdle unit s) := by
  unfold execInjectRingIdle
  repeat' (first
    | with_reducible apply OnlyO.done
    | with_reducible exact Only.refl _ _
    | with_reducible apply Only.app (hg := State.goInject_only ..)
    | decide)

end Sys2Proof.Machine
end

