-- ==== Sys2Proof/Laws/OnlyRegWrites.lean ====
section
/-!
SUPPORT. What each operation of Machine/RegWrites.lean may change: its register blocks and parts of the state, as the mask of `Only`.
-/
namespace Sys2Proof.Machine

set_option linter.unusedTactic false
set_option linter.unreachableTactic false

theorem State.refuseAt_only (s : State) (off : Nat) : Only 0x8000007ffffff s (State.refuseAt s off) := by
  have hk : ∀ k, Nat.testBit 0x8000007ffffff (blk k) = true := testBit_blk (by decide)
  unfold State.refuseAt
  split
  · exact State.refuse_only (Only.refl _ s) (hk _) (by decide)
  · exact (Only.refl _ s).app (State.badEncoding_only ..) (by decide)

theorem State.took_only {g m : Nat} {s u : State} {o : Host.Outcome State Fault Refusal} (h : Only m s u) (ho : OnlyO g u o)
    (hm : g ||| m = m) : Only m s (u.took o) := by
  unfold State.took
  split
  · next t => exact h.app (ho t rfl) hm
  · exact h

theorem State.rwkWrite_only (s : State) (d : RegDesc) (off : Nat) (v : Nat) :
    Only 0x8100007ffffff s (State.rwkWrite s d off v) := by
  unfold State.rwkWrite
  repeat' (first
    | with_reducible exact Only.refl _ _
    | with_reducible apply Only.app (hg := State.putReg_only ..)
    | with_reducible apply Only.app (hg := State.rwkNote_only ..)
    | with_reducible apply Only.app (hg := State.rwkReject_only ..)
    | decide
    | split)

theorem State.trsCtlWrite_only (s : State) (v : Nat) :
    Only 0xca113003802820 s (State.trsCtlWrite s v) := by
  unfold State.trsCtlWrite
  dsimp only
  repeat' (first
    | with_reducible exact Only.refl _ _
    | with_reducible apply Only.wrB
    | with_reducible apply Only.app (hg := State.rwkReject_only ..)
    | with_reducible apply Only.app (hg := State.rwkNote_only ..)
    | with_reducible apply State.took_only
    | with_reducible exact execBudload_only ..
    | with_reducible exact execBudswap_only ..
    | with_reducible apply Only.app (hg := State.darkreqWrite_only ..)
    | with_reducible apply Only.when
    | decide
    | split
    | intro _
    | dsimp only)

theorem State.trsWrite_only (s : State) (d : RegDesc) (off : Nat) (v : Nat) :
    Only 0xca113007ffffff s (State.trsWrite s d off v) := by
  unfold State.trsWrite
  dsimp only
  repeat' (first
    | with_reducible exact Only.refl _ _
    | with_reducible apply Only.wr
    | with_reducible apply Only.app (hg := State.keyWrite_only ..)
    | with_reducible apply Only.app (hg := State.trsCtlWrite_only ..)
    | with_reducible apply Only.app (hg := State.rwkWrite_only ..)
    | with_reducible apply Only.app (hg := State.inputMode_only ..)
    | with_reducible apply Only.app (hg := State.trsEval_only ..)
    | with_reducible apply Only.when
    | decide
    | split
    | intro _
    | (with_reducible apply Only.upd <;> try (first | exact Or.inl (by decide) | exact Or.inr rfl)))

theorem State.injWrite_only (s : State) (d : RegDesc) (off : Nat) (v : Nat) :
    Only 0xd99be007ffffff s (State.injWrite s d off v) := by
  unfold State.injWrite
  repeat' (first
    | with_reducible exact Only.refl _ _
    | with_reducible apply Only.app (hg := State.goInject_only ..)
    | with_reducible apply Only.app (hg := State.rwkWrite_only ..)
    | decide
    | split)

theorem State.krfWrite_only (s : State) (d : RegDesc) (off : Nat) (v : Nat) :
    Only 0x48804007ffffff s (State.krfWrite s d off v) := by
  unfold State.krfWrite
  dsimp only
  repeat' (first
    | with_reducible exact Only.refl _ _
    | with_reducible apply Only.app (hg := State.setChan_only ..)
    | with_reducible apply Only.app (hg := State.putReg_only ..)
    | with_reducible apply Only.app (hg := State.maskEval_only ..)
    | with_reducible apply State.took_only
    | with_reducible exact execRel_only ..
    | with_reducible exact execTdcfail_only ..
    | with_reducible exact execSpareMove_only ..
    | with_reducible exact execGaugeArm_only ..
    | with_reducible exact execGaugeAbort_only ..
    | with_reducible apply Only.app (hg := State.bucketsNow_only ..)
    | with_reducible apply Only.when
    | decide
    | split
    | intro _
    | dsimp only
    | (with_reducible apply Only.upd <;> try (first | exact Or.inl (by decide) | exact Or.inr rfl)))

theorem State.readmitBits_only (s : State) (row : Nat) (cleared : Nat) :
    Only 0x1000000000 s (State.readmitBits s row cleared) := by
  unfold State.readmitBits
  repeat' (first
    | with_reducible exact Only.refl _ _
    | decide
    | (with_reducible apply Only.upd <;> try (first | exact Or.inl (by decide) | exact Or.inr rfl)))

theorem State.btnWrite_only (s : State) (d : RegDesc) (off : Nat) (v : Nat) :
    Only 0xca003007ffffff s (State.btnWrite s d off v) := by
  unfold State.btnWrite
  dsimp only
  repeat' (first
    | with_reducible exact Only.refl _ _
    | with_reducible apply Only.wr
    | with_reducible apply Only.app (hg := State.draw_only ..)
    | with_reducible apply State.took_only
    | with_reducible exact execRingenWrite_only ..
    | with_reducible exact execRecal_only ..
    | with_reducible apply Only.app (hg := State.autoBlank_only ..)
    | with_reducible apply Only.app (hg := State.putReg_only ..)
    | with_reducible apply Only.app (hg := State.readmitBits_only ..)
    | with_reducible apply Only.when
    | with_reducible apply Only.foldl
    | decide
    | split
    | intro _
    | dsimp only
    | (with_reducible apply Only.upd <;> try (first | exact Or.inl (by decide) | exact Or.inr rfl)))

theorem State.tnnWrite_only (s : State) (d : RegDesc) (off : Nat) (v : Nat) :
    Only 0xca113807ffffff s (State.tnnWrite s d off v) := by
  unfold State.tnnWrite
  dsimp only
  repeat' (first
    | with_reducible exact Only.refl _ _
    | with_reducible apply Only.app (hg := State.requestSp_only ..)
    | with_reducible apply State.took_only
    | with_reducible exact execSpindleSwap_only ..
    | with_reducible apply Only.app (hg := State.requestTl_only ..)
    | with_reducible exact execTiltSwap_only ..
    | with_reducible exact execTnnSpcfgWrite_only ..
    | with_reducible apply Only.app (hg := State.putReg_only ..)
    | with_reducible exact execInjectionStart_only ..
    | with_reducible exact execInjectionStop_only ..
    | with_reducible exact execCaptureStart_only ..
    | with_reducible apply Only.when
    | decide
    | split
    | intro _
    | dsimp only)

theorem State.laneWrite_only (s : State) (d : RegDesc) (l : Nat) (off : Nat) (v : Nat) :
    Only 0x48040007ffffff s (State.laneWrite s d l off v) := by
  unfold State.laneWrite
  dsimp only
  repeat' (first
    | with_reducible exact Only.refl _ _
    | with_reducible apply Only.app (hg := State.putReg_only ..)
    | with_reducible apply State.refuse_only
    | with_reducible apply State.took_only
    | with_reducible exact execHsrcWrite_only ..
    | decide
    | split
    | intro _
    | dsimp only)

theorem State.wfpWrite_only (s : State) (d : RegDesc) (off : Nat) (v : Nat) :
    Only 0x48040007ffffff s (State.wfpWrite s d off v) := by
  unfold State.wfpWrite
  dsimp only
  repeat' (first
    | with_reducible exact Only.refl _ _
    | with_reducible apply Only.wr
    | with_reducible apply Only.app (hg := State.putReg_only ..)
    | with_reducible apply State.took_only
    | with_reducible exact execCorswap_only ..
    | with_reducible exact execWfpPaircfgWrite_only ..
    | with_reducible apply Only.app (hg := State.laneWrite_only ..)
    | with_reducible exact execFswap_only ..
    | with_reducible exact execMswap_only ..
    | with_reducible apply Only.when
    | decide
    | split
    | intro _
    | dsimp only
    | (with_reducible apply Only.upd <;> try (first | exact Or.inl (by decide) | exact Or.inr rfl)))

theorem State.dogWrite_only (s : State) (d : RegDesc) (off : Nat) (v : Nat) :
    Only 0x49092007ffffff s (State.dogWrite s d off v) := by
  unfold State.dogWrite
  dsimp only
  repeat' (first
    | with_reducible exact Only.refl _ _
    | with_reducible apply Only.app (hg := State.putReg_only ..)
    | with_reducible apply State.took_only
    | with_reducible exact execDogArm_only ..
    | with_reducible exact execForce_only ..
    | with_reducible exact execDogStop_only ..
    | with_reducible apply Only.when
    | decide
    | split
    | intro _
    | dsimp only
    | (with_reducible apply Only.upd <;> try (first | exact Or.inl (by decide) | exact Or.inr rfl)))

theorem State.silWrite_only (s : State) (d : RegDesc) (off : Nat) (v : Nat) :
    Only 0x48200007ffffff s (State.silWrite s d off v) := by
  unfold State.silWrite
  dsimp only
  repeat' (first
    | with_reducible exact Only.refl _ _
    | with_reducible apply Only.wr
    | with_reducible apply State.took_only
    | with_reducible exact execRefenWrite_only ..
    | with_reducible exact execSilSwap_only ..
    | with_reducible apply Only.app (hg := State.putReg_only ..)
    | with_reducible apply Only.when
    | decide
    | split
    | intro _
    | dsimp only)

theorem State.plbWrite_only (s : State) (d : RegDesc) (off : Nat) (v : Nat) :
    Only 0xeea01007ffffff s (State.plbWrite s d off v) := by
  unfold State.plbWrite
  dsimp only
  repeat' (first
    | with_reducible exact Only.refl _ _
    | with_reducible apply State.took_only
    | with_reducible exact execPlbCmdCd_only ..
    | with_reducible exact execPlbCmdWf_only ..
    | with_reducible exact execPlbCmdHk_only ..
    | with_reducible exact execPlbCmdLane_only ..
    | with_reducible exact execPlbCmdSave_only ..
    | with_reducible apply Only.app (hg := State.plbCtl_only ..)
    | with_reducible apply Only.app (hg := State.putReg_only ..)
    | with_reducible apply Only.when
    | decide
    | split
    | intro _
    | dsimp only)

theorem State.hifWrite_only (s : State) (d : RegDesc) (off : Nat) (v : Nat) :
    Only 0x45008007ffffff s (State.hifWrite s d off v) := by
  unfold State.hifWrite
  dsimp only
  repeat' (first
    | with_reducible exact Only.refl _ _
    | with_reducible apply Only.app (hg := State.putReg_only ..)
    | with_reducible apply Only.app (hg := State.ringEnable_only ..)
    | with_reducible apply Only.app (hg := State.flushMsix_only ..)
    | decide
    | split
    | (with_reducible apply Only.upd <;> try (first | exact Or.inl (by decide) | exact Or.inr rfl)))

theorem State.runWrite_only (s : State) (c : Nat) (run : Bool) :
    Only 0x1000000080000 s (State.runWrite s c run) := by
  unfold State.runWrite
  repeat' (first
    | with_reducible exact Only.refl _ _
    | with_reducible apply Only.wr
    | with_reducible apply Only.app (hg := State.setBulk_only ..)
    | with_reducible apply Only.app (hg := State.stopNow_only ..)
    | with_reducible apply Only.when
    | decide
    | (rw [blk_PUR_CHCFG_RUN]; decide)
    | (rw [blk_PUR_CHSTAT_STATE]; decide)
    | split
    | intro _
    | (with_reducible apply Only.upd <;> try (first | exact Or.inl (by decide) | exact Or.inr rfl)))

theorem State.purWrite_only (s : State) (d : RegDesc) (off : Nat) (v : Nat) :
    Only 0xd9000007ffffff s (State.purWrite s d off v) := by
  unfold State.purWrite
  repeat' (first
    | with_reducible exact Only.refl _ _
    | with_reducible apply Only.wr
    | with_reducible apply Only.app (hg := State.runWrite_only ..)
    | with_reducible apply Only.app (hg := State.putReg_only ..)
    | with_reducible apply Only.app (hg := State.draw_only ..)
    | with_reducible apply Only.app (hg := State.abortDesc_only ..)
    | decide
    | (rw [blk_PUR_CHCFG_RUN]; decide)
    | split
    | (with_reducible apply Only.upd <;> try (first | exact Or.inl (by decide) | exact Or.inr rfl)))

theorem State.dwlWrite_only (s : State) (d : RegDesc) (off : Nat) (v : Nat) :
    Only 0xca001007ffffff s (State.dwlWrite s d off v) := by
  unfold State.dwlWrite
  repeat' (first
    | with_reducible exact Only.refl _ _
    | with_reducible apply Only.app (hg := State.putReg_only ..)
    | with_reducible apply Only.app (hg := State.tieConfig_only ..)
    | with_reducible apply State.took_only
    | with_reducible exact execTrain_only ..
    | with_reducible exact execDwlPtestWrite_only ..
    | with_reducible apply Only.when
    | decide
    | split
    | intro _
    | dsimp only
    | (with_reducible apply Only.upd <;> try (first | exact Or.inl (by decide) | exact Or.inr rfl)))

theorem State.grtWrite_only (s : State) (d : RegDesc) (off : Nat) (v : Nat) :
    Only 0x8100007ffffff s (State.grtWrite s d off v) := by
  unfold State.grtWrite
  repeat' (first
    | with_reducible exact Only.refl _ _
    | with_reducible apply Only.app (hg := State.rwkWrite_only ..)
    | decide
    | split)

theorem State.fltWriteReg_only (s : State) (d : RegDesc) (off : Nat) (v : Nat) :
    Only 0xdb9bf007ffffff s (State.fltWriteReg s d off v) := by
  unfold State.fltWriteReg
  repeat' (first
    | with_reducible exact Only.refl _ _
    | with_reducible apply Only.app (hg := State.fltStopfull_only ..)
    | with_reducible apply State.took_only
    | with_reducible exact execInjlock_only ..
    | with_reducible exact execFltRdseqhiWrite_only ..
    | with_reducible apply Only.app (hg := State.injWrite_only ..)
    | with_reducible apply Only.app (hg := State.rwkWrite_only ..)
    | with_reducible apply Only.when
    | decide
    | split
    | intro _
    | dsimp only)

theorem State.glbWrite_only (s : State) (d : RegDesc) (off : Nat) (v : Nat) :
    Only 0xefbdfd07ffffff s (State.glbWrite s d off v) := by
  unfold State.glbWrite
  repeat' (first
    | with_reducible exact Only.refl _ _
    | with_reducible apply Only.wr
    | with_reducible apply Only.app (hg := State.glbRstWrite_only ..)
    | with_reducible apply Only.app (hg := State.putReg_only ..)
    | with_reducible apply Only.when
    | decide
    | split
    | intro _)

theorem State.codeCfgWrite_only (s : State) (d : RegDesc) (off : Nat) (v : Nat) :
    Only 0x8000007ffffff s (State.codeCfgWrite s d off v) := by
  unfold State.codeCfgWrite
  dsimp only
  repeat' (first
    | with_reducible exact Only.refl _ _
    | with_reducible apply Only.app (hg := State.putReg_only ..)
    | with_reducible apply State.refuse_only
    | decide
    | split
    | intro _)

theorem State.regEffect_only (s : State) (d : RegDesc) (off : Nat) (v : Nat) :
    Only 0xffbfff07ffffff s (State.regEffect s d off v) := by
  unfold State.regEffect
  repeat' (first
    | with_reducible exact Only.refl _ _
    | with_reducible apply Only.app (hg := State.glbWrite_only ..)
    | with_reducible apply State.took_only
    | with_reducible exact execClkTbcfgWrite_only ..
    | with_reducible apply Only.app (hg := State.putReg_only ..)
    | with_reducible apply Only.app (hg := State.krfWrite_only ..)
    | with_reducible apply Only.app (hg := State.codeCfgWrite_only ..)
    | with_reducible exact execJstSubcmdGo_only ..
    | with_reducible apply Only.app (hg := State.btnWrite_only ..)
    | with_reducible apply Only.app (hg := State.tnnWrite_only ..)
    | with_reducible apply Only.app (hg := State.trsWrite_only ..)
    | with_reducible apply Only.app (hg := State.wfpWrite_only ..)
    | with_reducible apply Only.app (hg := State.dogWrite_only ..)
    | with_reducible apply Only.app (hg := State.silWrite_only ..)
    | with_reducible apply Only.app (hg := State.plbWrite_only ..)
    | with_reducible apply Only.app (hg := State.hifWrite_only ..)
    | with_reducible apply Only.app (hg := State.purWrite_only ..)
    | with_reducible apply Only.app (hg := State.dwlWrite_only ..)
    | with_reducible exact execProgsigSet_only ..
    | with_reducible apply Only.app (hg := State.grtWrite_only ..)
    | with_reducible apply Only.app (hg := State.fltWriteReg_only ..)
    | decide
    | split
    | intro _
    | dsimp only
    | (with_reducible apply Only.upd <;> try (first | exact Or.inl (by decide) | exact Or.inr rfl)))

theorem State.regWrite_only (s : State) (off v : Nat) : Only 0xffbfff07ffffff s (State.regWrite s off v) := by
  have hk : ∀ k, Nat.testBit 0xffbfff07ffffff (blk k) = true := testBit_blk (by decide)
  unfold State.regWrite
  split
  · split
    · exact State.refuse_only (Only.refl _ s) (hk _) (by decide)
    · exact ((Only.refl _ s).app (State.badAccess_only ..) (by decide)).flag (hk _)
  · dsimp only
    next d _ =>
    have h1 : Only 0xffbfff07ffffff s (s.rsvdCheck off d.reserved v) := (Only.refl _ s).app (State.rsvdCheck_only ..) (by decide)
    split
    · exact State.refuse_only h1 (hk _) (by decide)
    · split
      · exact State.fault_only h1 (hk _) (by decide)
      · split
        · exact h1.app (State.regEffect_only ..) (by decide)
        · exact (h1.app (State.refuseAt_only ..) (by decide)).when ((Only.refl _ _).app (State.trsReport_only ..) (by decide))

end Sys2Proof.Machine
end

