-- ==== Sys2Proof/Laws/OnlyRegisters.lean ====
section
/-!
SUPPORT. What each operation of Machine/Registers.lean may change: its register blocks and parts of the state, as the mask of `Only`.
-/
namespace Sys2Proof.Machine

set_option linter.unusedTactic false
set_option linter.unreachableTactic false

theorem State.latchHi_only (s : State) (off : Nat) :
    Only 0x100000000 s (State.latchHi s off) := by
  unfold State.latchHi
  repeat' (first
    | with_reducible exact Only.refl _ _
    | decide
    | split
    | (with_reducible apply Only.upd <;> try (first | exact Or.inl (by decide) | exact Or.inr rfl)))

theorem State.clearRc_only (s : State) (d : RegDesc) (off : Nat) : Only 0x7FFFFFF s (State.clearRc s d off) :=
  Only.foldl (Only.refl _ s) (fun t _ => (Only.refl _ t).wr (testBit_blk (by decide) _))

theorem State.readSide_only (s : State) (off : Nat) :
    Only 0x4000000012 s (State.readSide s off) := by
  unfold State.readSide
  repeat' (first
    | with_reducible exact Only.refl _ _
    | with_reducible apply Only.app (hg := State.timeLatch_only ..)
    | with_reducible apply Only.app (hg := State.gtsPop_only ..)
    | decide
    | split
    | (with_reducible apply Only.upd <;> try (first | exact Or.inl (by decide) | exact Or.inr rfl)))

theorem State.regRead_only (s : State) (off : Nat) :
    Only 0x4107ffffff s (State.regRead s off).1 := by
  unfold State.regRead
  dsimp only
  repeat' (first
    | with_reducible exact Only.refl _ _
    | with_reducible apply Only.flag
    | with_reducible apply Only.app (hg := State.badAccess_only ..)
    | with_reducible apply Only.app (hg := State.readSide_only ..)
    | with_reducible apply Only.app (hg := State.latchHi_only ..)
    | with_reducible apply Only.app (hg := State.clearRc_only ..)
    | decide
    | split
    | (with_reducible apply Only.upd <;> try (first | exact Or.inl (by decide) | exact Or.inr rfl)))

theorem State.busWrite_only (s : State) (m : Nat) (off : Nat) (v : Nat) :
    Only 0xffbfff07ffffff s (State.busWrite s m off v) := by
  unfold State.busWrite
  repeat' (first
    | with_reducible exact Only.refl _ _
    | with_reducible apply Only.app (hg := State.regWrite_only ..)
    | with_reducible apply Only.app (hg := State.girtDeny_only ..)
    | decide
    | split)

theorem State.busRead_only (s : State) (m : Nat) (off : Nat) :
    Only 0x8004107ffffff s (State.busRead s m off).1 := by
  unfold State.busRead
  repeat' (first
    | with_reducible exact Only.refl _ _
    | with_reducible apply Only.app (hg := State.regRead_only ..)
    | (with_reducible refine Only.ofFst (by assumption) ?_; with_reducible apply Only.app (hg := State.regRead_only ..))
    | with_reducible apply Only.app (hg := State.girtDeny_only ..)
    | decide
    | split)

theorem State.accessWrite_only (s : State) (m : Nat) (addr : Nat) (be : Nat) (v : Nat) :
    Only 0xffbfff07ffffff s (State.accessWrite s m addr be v) := by
  unfold State.accessWrite
  dsimp only
  repeat' (first
    | with_reducible exact Only.refl _ _
    | with_reducible apply Only.app (hg := State.busWrite_only ..)
    | with_reducible apply Only.app (hg := State.badAccess_only ..)
    | decide
    | split)

theorem State.accessRead_only (s : State) (m : Nat) (addr : Nat) (n : Nat) :
    Only 0x8004107ffffff s (State.accessRead s m addr n).1 := by
  unfold State.accessRead
  dsimp only
  repeat' (first
    | with_reducible exact Only.refl _ _
    | with_reducible apply Only.app (hg := State.busRead_only ..)
    | (with_reducible refine Only.ofFst (by assumption) ?_; with_reducible apply Only.app (hg := State.busRead_only ..))
    | with_reducible apply Only.app (hg := State.badAccess_only ..)
    | decide
    | split)

theorem execRegisterWrite_only (addr : BitVec 24) (be : BitVec 8) (v : BitVec 64) (s : State) :
    OnlyO 0xffbfff07ffffff s (execRegisterWrite addr be v s) := by
  unfold execRegisterWrite
  repeat' (first
    | with_reducible apply OnlyO.done
    | with_reducible exact Only.refl _ _
    | with_reducible apply Only.app (hg := State.accessWrite_only ..)
    | decide
    | split)

theorem execRegisterRead_only (addr : BitVec 24) (n : BitVec 4) (s : State) :
    OnlyO 0x48004107ffffff s (execRegisterRead addr n s) := by
  unfold execRegisterRead
  dsimp only
  repeat' (first
    | with_reducible apply OnlyO.done
    | with_reducible exact Only.refl _ _
    | with_reducible apply Only.app (hg := State.accessRead_only ..)
    | (with_reducible refine Only.ofFst (by assumption) ?_; with_reducible apply Only.app (hg := State.accessRead_only ..))
    | with_reducible apply Only.app (hg := State.emit_only ..)
    | decide
    | split)

theorem execGlbIntctlArm_only (s : State) :
    OnlyO 0x48000003c00000 s (execGlbIntctlArm s) := by
  unfold execGlbIntctlArm
  repeat' (first
    | with_reducible apply OnlyO.done
    | with_reducible exact Only.refl _ _
    | with_reducible apply Only.wr
    | with_reducible apply Only.app (hg := State.girtDeny_only ..)
    | decide
    | split)

theorem execJtagAccess_only (a : JtagAccess) (s : State) : OnlyO 0xffbfff07ffffff s (execJtagAccess a s) := by
  unfold execJtagAccess
  split
  · exact OnlyO.done (Only.refl _ _) (by decide)
  · split
    · dsimp only
      exact OnlyO.done (((Only.refl _ s).app (State.accessRead_only ..) (by decide)).app (State.emit_only ..) (by decide)) (by decide)
    · exact OnlyO.done ((Only.refl _ s).app (State.accessWrite_only ..) (by decide)) (by decide)
    · exact OnlyO.done ((((Only.refl _ s).app (State.readSpan_only ..) (by decide)).app (State.emit_only ..) (by decide)).app
        (State.draw_only ..) (by decide)) (by decide)
    · exact OnlyO.done ((Only.refl _ s).app (State.hbmStore_only ..) (by decide)) (by decide)
    · exact OnlyO.done ((Only.refl _ s).app (State.emit_only ..) (by decide)) (by decide)

end Sys2Proof.Machine
end

