-- ==== Sys2Proof/Laws/OnlyTick.lean ====
section
/-!
SUPPORT. What each operation of Machine/Tick.lean may change: its register blocks and parts of the state, as the mask of `Only`.
-/
namespace Sys2Proof.Machine

set_option linter.unusedTactic false
set_option linter.unreachableTactic false

theorem State.jnlCycle_only (s : State) :
    Only 0x10000000000 s (State.jnlCycle s) := by
  unfold State.jnlCycle
  repeat' (first
    | with_reducible exact Only.refl _ _
    | decide
    | (with_reducible apply Only.upd <;> try (first | exact Or.inl (by decide) | exact Or.inr rfl)))

theorem State.clkCycle_only (s : State) :
    Only 0x200000000 s (State.clkCycle s) := by
  unfold State.clkCycle
  dsimp only
  repeat' (first
    | with_reducible exact Only.refl _ _
    | decide
    | split
    | (with_reducible apply Only.upd <;> try (first | exact Or.inl (by decide) | exact Or.inr rfl)))

theorem State.stepCycle_only (s : State) :
    Only 0x30200000402 s (State.stepCycle s) := by
  unfold State.stepCycle
  dsimp only
  repeat' (first
    | with_reducible exact Only.refl _ _
    | with_reducible apply Only.app (hg := State.applyStep_only ..)
    | (with_reducible refine Only.ofFst (by assumption) ?_; with_reducible apply Only.app (hg := State.applyStep_only ..))
    | with_reducible apply Only.app (hg := State.stepBreak_only ..)
    | decide
    | split)

theorem State.tick_only (s : State) :
    Only 0xca831203920c02 s (State.tick s) := by
  unfold State.tick
  repeat' (first
    | with_reducible exact Only.refl _ _
    | with_reducible apply Only.app (hg := State.clkCycle_only ..)
    | with_reducible apply Only.app (hg := State.trimCycle_only ..)
    | with_reducible apply Only.app (hg := State.fltCycle_only ..)
    | with_reducible apply Only.app (hg := State.jnlCycle_only ..)
    | with_reducible apply Only.app (hg := State.stepCycle_only ..)
    | with_reducible apply Only.app (hg := State.poseTick_only ..)
    | with_reducible apply Only.app (hg := State.adaptNext_only ..)
    | with_reducible apply Only.app (hg := State.settle_only ..)
    | decide
    | split)

end Sys2Proof.Machine
end

