-- ==== Sys2Proof/Laws/State.lean ====
section
/-!
SUPPORT. What each plain update of the state leaves alone, field by field.
-/
namespace Sys2Proof.Machine

@[simp] theorem State.wr_latch (s : State) (f : Fld) (v : Nat) : (s.wr f v).latch = s.latch := rfl
@[simp] theorem State.wr_clk (s : State) (f : Fld) (v : Nat) : (s.wr f v).clk = s.clk := rfl
@[simp] theorem State.wr_boot (s : State) (f : Fld) (v : Nat) : (s.wr f v).boot = s.boot := rfl
@[simp] theorem State.wr_tnn (s : State) (f : Fld) (v : Nat) : (s.wr f v).tnn = s.tnn := rfl
@[simp] theorem State.wr_btn (s : State) (f : Fld) (v : Nat) : (s.wr f v).btn = s.btn := rfl
@[simp] theorem State.wr_peg (s : State) (f : Fld) (v : Nat) : (s.wr f v).peg = s.peg := rfl
@[simp] theorem State.wr_krf (s : State) (f : Fld) (v : Nat) : (s.wr f v).krf = s.krf := rfl
@[simp] theorem State.wr_jst (s : State) (f : Fld) (v : Nat) : (s.wr f v).jst = s.jst := rfl
@[simp] theorem State.wr_jnl (s : State) (f : Fld) (v : Nat) : (s.wr f v).jnl = s.jnl := rfl
@[simp] theorem State.wr_lbk (s : State) (f : Fld) (v : Nat) : (s.wr f v).lbk = s.lbk := rfl
@[simp] theorem State.wr_wfp (s : State) (f : Fld) (v : Nat) : (s.wr f v).wfp = s.wfp := rfl
@[simp] theorem State.wr_dog (s : State) (f : Fld) (v : Nat) : (s.wr f v).dog = s.dog := rfl
@[simp] theorem State.wr_trs (s : State) (f : Fld) (v : Nat) : (s.wr f v).trs = s.trs := rfl
@[simp] theorem State.wr_sil (s : State) (f : Fld) (v : Nat) : (s.wr f v).sil = s.sil := rfl
@[simp] theorem State.wr_thm (s : State) (f : Fld) (v : Nat) : (s.wr f v).thm = s.thm := rfl
@[simp] theorem State.wr_plb (s : State) (f : Fld) (v : Nat) : (s.wr f v).plb = s.plb := rfl
@[simp] theorem State.wr_hif (s : State) (f : Fld) (v : Nat) : (s.wr f v).hif = s.hif := rfl
@[simp] theorem State.wr_dwl (s : State) (f : Fld) (v : Nat) : (s.wr f v).dwl = s.dwl := rfl
@[simp] theorem State.wr_fwu (s : State) (f : Fld) (v : Nat) : (s.wr f v).fwu = s.fwu := rfl
@[simp] theorem State.wr_flt (s : State) (f : Fld) (v : Nat) : (s.wr f v).flt = s.flt := rfl
@[simp] theorem State.wr_hbm (s : State) (f : Fld) (v : Nat) : (s.wr f v).hbm = s.hbm := rfl
@[simp] theorem State.wr_flash (s : State) (f : Fld) (v : Nat) : (s.wr f v).flash = s.flash := rfl
@[simp] theorem State.wr_out (s : State) (f : Fld) (v : Nat) : (s.wr f v).out = s.out := rfl
@[simp] theorem State.wr_fresh (s : State) (f : Fld) (v : Nat) : (s.wr f v).fresh = s.fresh := rfl
@[simp] theorem State.wr_pending (s : State) (f : Fld) (v : Nat) : (s.wr f v).pending = s.pending := rfl

@[simp] theorem State.emit_regs (s : State) (e : Emit) : (s.emit e).regs = s.regs := rfl
@[simp] theorem State.emit_latch (s : State) (e : Emit) : (s.emit e).latch = s.latch := rfl
@[simp] theorem State.emit_clk (s : State) (e : Emit) : (s.emit e).clk = s.clk := rfl
@[simp] theorem State.emit_boot (s : State) (e : Emit) : (s.emit e).boot = s.boot := rfl
@[simp] theorem State.emit_tnn (s : State) (e : Emit) : (s.emit e).tnn = s.tnn := rfl
@[simp] theorem State.emit_btn (s : State) (e : Emit) : (s.emit e).btn = s.btn := rfl
@[simp] theorem State.emit_peg (s : State) (e : Emit) : (s.emit e).peg = s.peg := rfl
@[simp] theorem State.emit_krf (s : State) (e : Emit) : (s.emit e).krf = s.krf := rfl
@[simp] theorem State.emit_jst (s : State) (e : Emit) : (s.emit e).jst = s.jst := rfl
@[simp] theorem State.emit_jnl (s : State) (e : Emit) : (s.emit e).jnl = s.jnl := rfl
@[simp] theorem State.emit_lbk (s : State) (e : Emit) : (s.emit e).lbk = s.lbk := rfl
@[simp] theorem State.emit_wfp (s : State) (e : Emit) : (s.emit e).wfp = s.wfp := rfl
@[simp] theorem State.emit_dog (s : State) (e : Emit) : (s.emit e).dog = s.dog := rfl
@[simp] theorem State.emit_trs (s : State) (e : Emit) : (s.emit e).trs = s.trs := rfl
@[simp] theorem State.emit_sil (s : State) (e : Emit) : (s.emit e).sil = s.sil := rfl
@[simp] theorem State.emit_thm (s : State) (e : Emit) : (s.emit e).thm = s.thm := rfl
@[simp] theorem State.emit_plb (s : State) (e : Emit) : (s.emit e).plb = s.plb := rfl
@[simp] theorem State.emit_hif (s : State) (e : Emit) : (s.emit e).hif = s.hif := rfl
@[simp] theorem State.emit_dwl (s : State) (e : Emit) : (s.emit e).dwl = s.dwl := rfl
@[simp] theorem State.emit_fwu (s : State) (e : Emit) : (s.emit e).fwu = s.fwu := rfl
@[simp] theorem State.emit_flt (s : State) (e : Emit) : (s.emit e).flt = s.flt := rfl
@[simp] theorem State.emit_hbm (s : State) (e : Emit) : (s.emit e).hbm = s.hbm := rfl
@[simp] theorem State.emit_flash (s : State) (e : Emit) : (s.emit e).flash = s.flash := rfl
@[simp] theorem State.emit_fresh (s : State) (e : Emit) : (s.emit e).fresh = s.fresh := rfl
@[simp] theorem State.emit_pending (s : State) (e : Emit) : (s.emit e).pending = s.pending := rfl
@[simp] theorem State.emit_rd (s : State) (e : Emit) (g : Fld) : (s.emit e).rd g = s.rd g := rfl

@[simp] theorem State.draw_regs (s : State) : (s.draw).regs = s.regs := rfl
@[simp] theorem State.draw_latch (s : State) : (s.draw).latch = s.latch := rfl
@[simp] theorem State.draw_clk (s : State) : (s.draw).clk = s.clk := rfl
@[simp] theorem State.draw_boot (s : State) : (s.draw).boot = s.boot := rfl
@[simp] theorem State.draw_tnn (s : State) : (s.draw).tnn = s.tnn := rfl
@[simp] theorem State.draw_btn (s : State) : (s.draw).btn = s.btn := rfl
@[simp] theorem State.draw_peg (s : State) : (s.draw).peg = s.peg := rfl
@[simp] theorem State.draw_krf (s : State) : (s.draw).krf = s.krf := rfl
@[simp] theorem State.draw_jst (s : State) : (s.draw).jst = s.jst := rfl
@[simp] theorem State.draw_jnl (s : State) : (s.draw).jnl = s.jnl := rfl
@[simp] theorem State.draw_lbk (s : State) : (s.draw).lbk = s.lbk := rfl
@[simp] theorem State.draw_wfp (s : State) : (s.draw).wfp = s.wfp := rfl
@[simp] theorem State.draw_dog (s : State) : (s.draw).dog = s.dog := rfl
@[simp] theorem State.draw_trs (s : State) : (s.draw).trs = s.trs := rfl
@[simp] theorem State.draw_sil (s : State) : (s.draw).sil = s.sil := rfl
@[simp] theorem State.draw_thm (s : State) : (s.draw).thm = s.thm := rfl
@[simp] theorem State.draw_plb (s : State) : (s.draw).plb = s.plb := rfl
@[simp] theorem State.draw_hif (s : State) : (s.draw).hif = s.hif := rfl
@[simp] theorem State.draw_dwl (s : State) : (s.draw).dwl = s.dwl := rfl
@[simp] theorem State.draw_fwu (s : State) : (s.draw).fwu = s.fwu := rfl
@[simp] theorem State.draw_flt (s : State) : (s.draw).flt = s.flt := rfl
@[simp] theorem State.draw_hbm (s : State) : (s.draw).hbm = s.hbm := rfl
@[simp] theorem State.draw_flash (s : State) : (s.draw).flash = s.flash := rfl
@[simp] theorem State.draw_out (s : State) : (s.draw).out = s.out := rfl
@[simp] theorem State.draw_pending (s : State) : (s.draw).pending = s.pending := rfl
@[simp] theorem State.draw_rd (s : State) (g : Fld) : (s.draw).rd g = s.rd g := rfl

@[simp] theorem State.onBoot_regs (s : State) (f : BootState → BootState) : (s.onBoot f).regs = s.regs := rfl
@[simp] theorem State.onBoot_latch (s : State) (f : BootState → BootState) : (s.onBoot f).latch = s.latch := rfl
@[simp] theorem State.onBoot_clk (s : State) (f : BootState → BootState) : (s.onBoot f).clk = s.clk := rfl
@[simp] theorem State.onBoot_tnn (s : State) (f : BootState → BootState) : (s.onBoot f).tnn = s.tnn := rfl
@[simp] theorem State.onBoot_btn (s : State) (f : BootState → BootState) : (s.onBoot f).btn = s.btn := rfl
@[simp] theorem State.onBoot_peg (s : State) (f : BootState → BootState) : (s.onBoot f).peg = s.peg := rfl
@[simp] theorem State.onBoot_krf (s : State) (f : BootState → BootState) : (s.onBoot f).krf = s.krf := rfl
@[simp] theorem State.onBoot_jst (s : State) (f : BootState → BootState) : (s.onBoot f).jst = s.jst := rfl
@[simp] theorem State.onBoot_jnl (s : State) (f : BootState → BootState) : (s.onBoot f).jnl = s.jnl := rfl
@[simp] theorem State.onBoot_lbk (s : State) (f : BootState → BootState) : (s.onBoot f).lbk = s.lbk := rfl
@[simp] theorem State.onBoot_wfp (s : State) (f : BootState → BootState) : (s.onBoot f).wfp = s.wfp := rfl
@[simp] theorem State.onBoot_dog (s : State) (f : BootState → BootState) : (s.onBoot f).dog = s.dog := rfl
@[simp] theorem State.onBoot_trs (s : State) (f : BootState → BootState) : (s.onBoot f).trs = s.trs := rfl
@[simp] theorem State.onBoot_sil (s : State) (f : BootState → BootState) : (s.onBoot f).sil = s.sil := rfl
@[simp] theorem State.onBoot_thm (s : State) (f : BootState → BootState) : (s.onBoot f).thm = s.thm := rfl
@[simp] theorem State.onBoot_plb (s : State) (f : BootState → BootState) : (s.onBoot f).plb = s.plb := rfl
@[simp] theorem State.onBoot_hif (s : State) (f : BootState → BootState) : (s.onBoot f).hif = s.hif := rfl
@[simp] theorem State.onBoot_dwl (s : State) (f : BootState → BootState) : (s.onBoot f).dwl = s.dwl := rfl
@[simp] theorem State.onBoot_fwu (s : State) (f : BootState → BootState) : (s.onBoot f).fwu = s.fwu := rfl
@[simp] theorem State.onBoot_flt (s : State) (f : BootState → BootState) : (s.onBoot f).flt = s.flt := rfl
@[simp] theorem State.onBoot_hbm (s : State) (f : BootState → BootState) : (s.onBoot f).hbm = s.hbm := rfl
@[simp] theorem State.onBoot_flash (s : State) (f : BootState → BootState) : (s.onBoot f).flash = s.flash := rfl
@[simp] theorem State.onBoot_out (s : State) (f : BootState → BootState) : (s.onBoot f).out = s.out := rfl
@[simp] theorem State.onBoot_fresh (s : State) (f : BootState → BootState) : (s.onBoot f).fresh = s.fresh := rfl
@[simp] theorem State.onBoot_pending (s : State) (f : BootState → BootState) : (s.onBoot f).pending = s.pending := rfl
@[simp] theorem State.onBoot_rd (s : State) (f : BootState → BootState) (g : Fld) : (s.onBoot f).rd g = s.rd g := rfl
@[simp] theorem State.onBoot_self (s : State) (f : BootState → BootState) : (s.onBoot f).boot = f s.boot := rfl

@[simp] theorem State.onClk_regs (s : State) (f : ClkState → ClkState) : (s.onClk f).regs = s.regs := rfl
@[simp] theorem State.onClk_latch (s : State) (f : ClkState → ClkState) : (s.onClk f).latch = s.latch := rfl
@[simp] theorem State.onClk_boot (s : State) (f : ClkState → ClkState) : (s.onClk f).boot = s.boot := rfl
@[simp] theorem State.onClk_tnn (s : State) (f : ClkState → ClkState) : (s.onClk f).tnn = s.tnn := rfl
@[simp] theorem State.onClk_btn (s : State) (f : ClkState → ClkState) : (s.onClk f).btn = s.btn := rfl
@[simp] theorem State.onClk_peg (s : State) (f : ClkState → ClkState) : (s.onClk f).peg = s.peg := rfl
@[simp] theorem State.onClk_krf (s : State) (f : ClkState → ClkState) : (s.onClk f).krf = s.krf := rfl
@[simp] theorem State.onClk_jst (s : State) (f : ClkState → ClkState) : (s.onClk f).jst = s.jst := rfl
@[simp] theorem State.onClk_jnl (s : State) (f : ClkState → ClkState) : (s.onClk f).jnl = s.jnl := rfl
@[simp] theorem State.onClk_lbk (s : State) (f : ClkState → ClkState) : (s.onClk f).lbk = s.lbk := rfl
@[simp] theorem State.onClk_wfp (s : State) (f : ClkState → ClkState) : (s.onClk f).wfp = s.wfp := rfl
@[simp] theorem State.onClk_dog (s : State) (f : ClkState → ClkState) : (s.onClk f).dog = s.dog := rfl
@[simp] theorem State.onClk_trs (s : State) (f : ClkState → ClkState) : (s.onClk f).trs = s.trs := rfl
@[simp] theorem State.onClk_sil (s : State) (f : ClkState → ClkState) : (s.onClk f).sil = s.sil := rfl
@[simp] theorem State.onClk_thm (s : State) (f : ClkState → ClkState) : (s.onClk f).thm = s.thm := rfl
@[simp] theorem State.onClk_plb (s : State) (f : ClkState → ClkState) : (s.onClk f).plb = s.plb := rfl
@[simp] theorem State.onClk_hif (s : State) (f : ClkState → ClkState) : (s.onClk f).hif = s.hif := rfl
@[simp] theorem State.onClk_dwl (s : State) (f : ClkState → ClkState) : (s.onClk f).dwl = s.dwl := rfl
@[simp] theorem State.onClk_fwu (s : State) (f : ClkState → ClkState) : (s.onClk f).fwu = s.fwu := rfl
@[simp] theorem State.onClk_flt (s : State) (f : ClkState → ClkState) : (s.onClk f).flt = s.flt := rfl
@[simp] theorem State.onClk_hbm (s : State) (f : ClkState → ClkState) : (s.onClk f).hbm = s.hbm := rfl
@[simp] theorem State.onClk_flash (s : State) (f : ClkState → ClkState) : (s.onClk f).flash = s.flash := rfl
@[simp] theorem State.onClk_out (s : State) (f : ClkState → ClkState) : (s.onClk f).out = s.out := rfl
@[simp] theorem State.onClk_fresh (s : State) (f : ClkState → ClkState) : (s.onClk f).fresh = s.fresh := rfl
@[simp] theorem State.onClk_pending (s : State) (f : ClkState → ClkState) : (s.onClk f).pending = s.pending := rfl
@[simp] theorem State.onClk_rd (s : State) (f : ClkState → ClkState) (g : Fld) : (s.onClk f).rd g = s.rd g := rfl
@[simp] theorem State.onClk_self (s : State) (f : ClkState → ClkState) : (s.onClk f).clk = f s.clk := rfl

@[simp] theorem State.onDwl_regs (s : State) (f : DwlState → DwlState) : (s.onDwl f).regs = s.regs := rfl
@[simp] theorem State.onDwl_latch (s : State) (f : DwlState → DwlState) : (s.onDwl f).latch = s.latch := rfl
@[simp] theorem State.onDwl_clk (s : State) (f : DwlState → DwlState) : (s.onDwl f).clk = s.clk := rfl
@[simp] theorem State.onDwl_boot (s : State) (f : DwlState → DwlState) : (s.onDwl f).boot = s.boot := rfl
@[simp] theorem State.onDwl_tnn (s : State) (f : DwlState → DwlState) : (s.onDwl f).tnn = s.tnn := rfl
@[simp] theorem State.onDwl_btn (s : State) (f : DwlState → DwlState) : (s.onDwl f).btn = s.btn := rfl
@[simp] theorem State.onDwl_peg (s : State) (f : DwlState → DwlState) : (s.onDwl f).peg = s.peg := rfl
@[simp] theorem State.onDwl_krf (s : State) (f : DwlState → DwlState) : (s.onDwl f).krf = s.krf := rfl
@[simp] theorem State.onDwl_jst (s : State) (f : DwlState → DwlState) : (s.onDwl f).jst = s.jst := rfl
@[simp] theorem State.onDwl_jnl (s : State) (f : DwlState → DwlState) : (s.onDwl f).jnl = s.jnl := rfl
@[simp] theorem State.onDwl_lbk (s : State) (f : DwlState → DwlState) : (s.onDwl f).lbk = s.lbk := rfl
@[simp] theorem State.onDwl_wfp (s : State) (f : DwlState → DwlState) : (s.onDwl f).wfp = s.wfp := rfl
@[simp] theorem State.onDwl_dog (s : State) (f : DwlState → DwlState) : (s.onDwl f).dog = s.dog := rfl
@[simp] theorem State.onDwl_trs (s : State) (f : DwlState → DwlState) : (s.onDwl f).trs = s.trs := rfl
@[simp] theorem State.onDwl_sil (s : State) (f : DwlState → DwlState) : (s.onDwl f).sil = s.sil := rfl
@[simp] theorem State.onDwl_thm (s : State) (f : DwlState → DwlState) : (s.onDwl f).thm = s.thm := rfl
@[simp] theorem State.onDwl_plb (s : State) (f : DwlState → DwlState) : (s.onDwl f).plb = s.plb := rfl
@[simp] theorem State.onDwl_hif (s : State) (f : DwlState → DwlState) : (s.onDwl f).hif = s.hif := rfl
@[simp] theorem State.onDwl_fwu (s : State) (f : DwlState → DwlState) : (s.onDwl f).fwu = s.fwu := rfl
@[simp] theorem State.onDwl_flt (s : State) (f : DwlState → DwlState) : (s.onDwl f).flt = s.flt := rfl
@[simp] theorem State.onDwl_hbm (s : State) (f : DwlState → DwlState) : (s.onDwl f).hbm = s.hbm := rfl
@[simp] theorem State.onDwl_flash (s : State) (f : DwlState → DwlState) : (s.onDwl f).flash = s.flash := rfl
@[simp] theorem State.onDwl_out (s : State) (f : DwlState → DwlState) : (s.onDwl f).out = s.out := rfl
@[simp] theorem State.onDwl_fresh (s : State) (f : DwlState → DwlState) : (s.onDwl f).fresh = s.fresh := rfl
@[simp] theorem State.onDwl_pending (s : State) (f : DwlState → DwlState) : (s.onDwl f).pending = s.pending := rfl
@[simp] theorem State.onDwl_rd (s : State) (f : DwlState → DwlState) (g : Fld) : (s.onDwl f).rd g = s.rd g := rfl
@[simp] theorem State.onDwl_self (s : State) (f : DwlState → DwlState) : (s.onDwl f).dwl = f s.dwl := rfl

@[simp] theorem State.onPeg_regs (s : State) (f : PegState → PegState) : (s.onPeg f).regs = s.regs := rfl
@[simp] theorem State.onPeg_latch (s : State) (f : PegState → PegState) : (s.onPeg f).latch = s.latch := rfl
@[simp] theorem State.onPeg_clk (s : State) (f : PegState → PegState) : (s.onPeg f).clk = s.clk := rfl
@[simp] theorem State.onPeg_boot (s : State) (f : PegState → PegState) : (s.onPeg f).boot = s.boot := rfl
@[simp] theorem State.onPeg_tnn (s : State) (f : PegState → PegState) : (s.onPeg f).tnn = s.tnn := rfl
@[simp] theorem State.onPeg_btn (s : State) (f : PegState → PegState) : (s.onPeg f).btn = s.btn := rfl
@[simp] theorem State.onPeg_krf (s : State) (f : PegState → PegState) : (s.onPeg f).krf = s.krf := rfl
@[simp] theorem State.onPeg_jst (s : State) (f : PegState → PegState) : (s.onPeg f).jst = s.jst := rfl
@[simp] theorem State.onPeg_jnl (s : State) (f : PegState → PegState) : (s.onPeg f).jnl = s.jnl := rfl
@[simp] theorem State.onPeg_lbk (s : State) (f : PegState → PegState) : (s.onPeg f).lbk = s.lbk := rfl
@[simp] theorem State.onPeg_wfp (s : State) (f : PegState → PegState) : (s.onPeg f).wfp = s.wfp := rfl
@[simp] theorem State.onPeg_dog (s : State) (f : PegState → PegState) : (s.onPeg f).dog = s.dog := rfl
@[simp] theorem State.onPeg_trs (s : State) (f : PegState → PegState) : (s.onPeg f).trs = s.trs := rfl
@[simp] theorem State.onPeg_sil (s : State) (f : PegState → PegState) : (s.onPeg f).sil = s.sil := rfl
@[simp] theorem State.onPeg_thm (s : State) (f : PegState → PegState) : (s.onPeg f).thm = s.thm := rfl
@[simp] theorem State.onPeg_plb (s : State) (f : PegState → PegState) : (s.onPeg f).plb = s.plb := rfl
@[simp] theorem State.onPeg_hif (s : State) (f : PegState → PegState) : (s.onPeg f).hif = s.hif := rfl
@[simp] theorem State.onPeg_dwl (s : State) (f : PegState → PegState) : (s.onPeg f).dwl = s.dwl := rfl
@[simp] theorem State.onPeg_fwu (s : State) (f : PegState → PegState) : (s.onPeg f).fwu = s.fwu := rfl
@[simp] theorem State.onPeg_flt (s : State) (f : PegState → PegState) : (s.onPeg f).flt = s.flt := rfl
@[simp] theorem State.onPeg_hbm (s : State) (f : PegState → PegState) : (s.onPeg f).hbm = s.hbm := rfl
@[simp] theorem State.onPeg_flash (s : State) (f : PegState → PegState) : (s.onPeg f).flash = s.flash := rfl
@[simp] theorem State.onPeg_out (s : State) (f : PegState → PegState) : (s.onPeg f).out = s.out := rfl
@[simp] theorem State.onPeg_fresh (s : State) (f : PegState → PegState) : (s.onPeg f).fresh = s.fresh := rfl
@[simp] theorem State.onPeg_pending (s : State) (f : PegState → PegState) : (s.onPeg f).pending = s.pending := rfl
@[simp] theorem State.onPeg_rd (s : State) (f : PegState → PegState) (g : Fld) : (s.onPeg f).rd g = s.rd g := rfl
@[simp] theorem State.onPeg_self (s : State) (f : PegState → PegState) : (s.onPeg f).peg = f s.peg := rfl

@[simp] theorem State.onFwu_regs (s : State) (f : FwuState → FwuState) : (s.onFwu f).regs = s.regs := rfl
@[simp] theorem State.onFwu_latch (s : State) (f : FwuState → FwuState) : (s.onFwu f).latch = s.latch := rfl
@[simp] theorem State.onFwu_clk (s : State) (f : FwuState → FwuState) : (s.onFwu f).clk = s.clk := rfl
@[simp] theorem State.onFwu_boot (s : State) (f : FwuState → FwuState) : (s.onFwu f).boot = s.boot := rfl
@[simp] theorem State.onFwu_tnn (s : State) (f : FwuState → FwuState) : (s.onFwu f).tnn = s.tnn := rfl
@[simp] theorem State.onFwu_btn (s : State) (f : FwuState → FwuState) : (s.onFwu f).btn = s.btn := rfl
@[simp] theorem State.onFwu_peg (s : State) (f : FwuState → FwuState) : (s.onFwu f).peg = s.peg := rfl
@[simp] theorem State.onFwu_krf (s : State) (f : FwuState → FwuState) : (s.onFwu f).krf = s.krf := rfl
@[simp] theorem State.onFwu_jst (s : State) (f : FwuState → FwuState) : (s.onFwu f).jst = s.jst := rfl
@[simp] theorem State.onFwu_jnl (s : State) (f : FwuState → FwuState) : (s.onFwu f).jnl = s.jnl := rfl
@[simp] theorem State.onFwu_lbk (s : State) (f : FwuState → FwuState) : (s.onFwu f).lbk = s.lbk := rfl
@[simp] theorem State.onFwu_wfp (s : State) (f : FwuState → FwuState) : (s.onFwu f).wfp = s.wfp := rfl
@[simp] theorem State.onFwu_dog (s : State) (f : FwuState → FwuState) : (s.onFwu f).dog = s.dog := rfl
@[simp] theorem State.onFwu_trs (s : State) (f : FwuState → FwuState) : (s.onFwu f).trs = s.trs := rfl
@[simp] theorem State.onFwu_sil (s : State) (f : FwuState → FwuState) : (s.onFwu f).sil = s.sil := rfl
@[simp] theorem State.onFwu_thm (s : State) (f : FwuState → FwuState) : (s.onFwu f).thm = s.thm := rfl
@[simp] theorem State.onFwu_plb (s : State) (f : FwuState → FwuState) : (s.onFwu f).plb = s.plb := rfl
@[simp] theorem State.onFwu_hif (s : State) (f : FwuState → FwuState) : (s.onFwu f).hif = s.hif := rfl
@[simp] theorem State.onFwu_dwl (s : State) (f : FwuState → FwuState) : (s.onFwu f).dwl = s.dwl := rfl
@[simp] theorem State.onFwu_flt (s : State) (f : FwuState → FwuState) : (s.onFwu f).flt = s.flt := rfl
@[simp] theorem State.onFwu_hbm (s : State) (f : FwuState → FwuState) : (s.onFwu f).hbm = s.hbm := rfl
@[simp] theorem State.onFwu_flash (s : State) (f : FwuState → FwuState) : (s.onFwu f).flash = s.flash := rfl
@[simp] theorem State.onFwu_out (s : State) (f : FwuState → FwuState) : (s.onFwu f).out = s.out := rfl
@[simp] theorem State.onFwu_fresh (s : State) (f : FwuState → FwuState) : (s.onFwu f).fresh = s.fresh := rfl
@[simp] theorem State.onFwu_pending (s : State) (f : FwuState → FwuState) : (s.onFwu f).pending = s.pending := rfl
@[simp] theorem State.onFwu_rd (s : State) (f : FwuState → FwuState) (g : Fld) : (s.onFwu f).rd g = s.rd g := rfl
@[simp] theorem State.onFwu_self (s : State) (f : FwuState → FwuState) : (s.onFwu f).fwu = f s.fwu := rfl

@[simp] theorem State.onFlt_regs (s : State) (f : FltState → FltState) : (s.onFlt f).regs = s.regs := rfl
@[simp] theorem State.onFlt_latch (s : State) (f : FltState → FltState) : (s.onFlt f).latch = s.latch := rfl
@[simp] theorem State.onFlt_clk (s : State) (f : FltState → FltState) : (s.onFlt f).clk = s.clk := rfl
@[simp] theorem State.onFlt_boot (s : State) (f : FltState → FltState) : (s.onFlt f).boot = s.boot := rfl
@[simp] theorem State.onFlt_tnn (s : State) (f : FltState → FltState) : (s.onFlt f).tnn = s.tnn := rfl
@[simp] theorem State.onFlt_btn (s : State) (f : FltState → FltState) : (s.onFlt f).btn = s.btn := rfl
@[simp] theorem State.onFlt_peg (s : State) (f : FltState → FltState) : (s.onFlt f).peg = s.peg := rfl
@[simp] theorem State.onFlt_krf (s : State) (f : FltState → FltState) : (s.onFlt f).krf = s.krf := rfl
@[simp] theorem State.onFlt_jst (s : State) (f : FltState → FltState) : (s.onFlt f).jst = s.jst := rfl
@[simp] theorem State.onFlt_jnl (s : State) (f : FltState → FltState) : (s.onFlt f).jnl = s.jnl := rfl
@[simp] theorem State.onFlt_lbk (s : State) (f : FltState → FltState) : (s.onFlt f).lbk = s.lbk := rfl
@[simp] theorem State.onFlt_wfp (s : State) (f : FltState → FltState) : (s.onFlt f).wfp = s.wfp := rfl
@[simp] theorem State.onFlt_dog (s : State) (f : FltState → FltState) : (s.onFlt f).dog = s.dog := rfl
@[simp] theorem State.onFlt_trs (s : State) (f : FltState → FltState) : (s.onFlt f).trs = s.trs := rfl
@[simp] theorem State.onFlt_sil (s : State) (f : FltState → FltState) : (s.onFlt f).sil = s.sil := rfl
@[simp] theorem State.onFlt_thm (s : State) (f : FltState → FltState) : (s.onFlt f).thm = s.thm := rfl
@[simp] theorem State.onFlt_plb (s : State) (f : FltState → FltState) : (s.onFlt f).plb = s.plb := rfl
@[simp] theorem State.onFlt_hif (s : State) (f : FltState → FltState) : (s.onFlt f).hif = s.hif := rfl
@[simp] theorem State.onFlt_dwl (s : State) (f : FltState → FltState) : (s.onFlt f).dwl = s.dwl := rfl
@[simp] theorem State.onFlt_fwu (s : State) (f : FltState → FltState) : (s.onFlt f).fwu = s.fwu := rfl
@[simp] theorem State.onFlt_hbm (s : State) (f : FltState → FltState) : (s.onFlt f).hbm = s.hbm := rfl
@[simp] theorem State.onFlt_flash (s : State) (f : FltState → FltState) : (s.onFlt f).flash = s.flash := rfl
@[simp] theorem State.onFlt_out (s : State) (f : FltState → FltState) : (s.onFlt f).out = s.out := rfl
@[simp] theorem State.onFlt_fresh (s : State) (f : FltState → FltState) : (s.onFlt f).fresh = s.fresh := rfl
@[simp] theorem State.onFlt_pending (s : State) (f : FltState → FltState) : (s.onFlt f).pending = s.pending := rfl
@[simp] theorem State.onFlt_rd (s : State) (f : FltState → FltState) (g : Fld) : (s.onFlt f).rd g = s.rd g := rfl
@[simp] theorem State.onFlt_self (s : State) (f : FltState → FltState) : (s.onFlt f).flt = f s.flt := rfl

@[simp] theorem State.onHif_regs (s : State) (f : HifState → HifState) : (s.onHif f).regs = s.regs := rfl
@[simp] theorem State.onHif_latch (s : State) (f : HifState → HifState) : (s.onHif f).latch = s.latch := rfl
@[simp] theorem State.onHif_clk (s : State) (f : HifState → HifState) : (s.onHif f).clk = s.clk := rfl
@[simp] theorem State.onHif_boot (s : State) (f : HifState → HifState) : (s.onHif f).boot = s.boot := rfl
@[simp] theorem State.onHif_tnn (s : State) (f : HifState → HifState) : (s.onHif f).tnn = s.tnn := rfl
@[simp] theorem State.onHif_btn (s : State) (f : HifState → HifState) : (s.onHif f).btn = s.btn := rfl
@[simp] theorem State.onHif_peg (s : State) (f : HifState → HifState) : (s.onHif f).peg = s.peg := rfl
@[simp] theorem State.onHif_krf (s : State) (f : HifState → HifState) : (s.onHif f).krf = s.krf := rfl
@[simp] theorem State.onHif_jst (s : State) (f : HifState → HifState) : (s.onHif f).jst = s.jst := rfl
@[simp] theorem State.onHif_jnl (s : State) (f : HifState → HifState) : (s.onHif f).jnl = s.jnl := rfl
@[simp] theorem State.onHif_lbk (s : State) (f : HifState → HifState) : (s.onHif f).lbk = s.lbk := rfl
@[simp] theorem State.onHif_wfp (s : State) (f : HifState → HifState) : (s.onHif f).wfp = s.wfp := rfl
@[simp] theorem State.onHif_dog (s : State) (f : HifState → HifState) : (s.onHif f).dog = s.dog := rfl
@[simp] theorem State.onHif_trs (s : State) (f : HifState → HifState) : (s.onHif f).trs = s.trs := rfl
@[simp] theorem State.onHif_sil (s : State) (f : HifState → HifState) : (s.onHif f).sil = s.sil := rfl
@[simp] theorem State.onHif_thm (s : State) (f : HifState → HifState) : (s.onHif f).thm = s.thm := rfl
@[simp] theorem State.onHif_plb (s : State) (f : HifState → HifState) : (s.onHif f).plb = s.plb := rfl
@[simp] theorem State.onHif_dwl (s : State) (f : HifState → HifState) : (s.onHif f).dwl = s.dwl := rfl
@[simp] theorem State.onHif_fwu (s : State) (f : HifState → HifState) : (s.onHif f).fwu = s.fwu := rfl
@[simp] theorem State.onHif_flt (s : State) (f : HifState → HifState) : (s.onHif f).flt = s.flt := rfl
@[simp] theorem State.onHif_hbm (s : State) (f : HifState → HifState) : (s.onHif f).hbm = s.hbm := rfl
@[simp] theorem State.onHif_flash (s : State) (f : HifState → HifState) : (s.onHif f).flash = s.flash := rfl
@[simp] theorem State.onHif_out (s : State) (f : HifState → HifState) : (s.onHif f).out = s.out := rfl
@[simp] theorem State.onHif_fresh (s : State) (f : HifState → HifState) : (s.onHif f).fresh = s.fresh := rfl
@[simp] theorem State.onHif_pending (s : State) (f : HifState → HifState) : (s.onHif f).pending = s.pending := rfl
@[simp] theorem State.onHif_rd (s : State) (f : HifState → HifState) (g : Fld) : (s.onHif f).rd g = s.rd g := rfl
@[simp] theorem State.onHif_self (s : State) (f : HifState → HifState) : (s.onHif f).hif = f s.hif := rfl

@[simp] theorem State.onPlb_regs (s : State) (f : PlbState → PlbState) : (s.onPlb f).regs = s.regs := rfl
@[simp] theorem State.onPlb_latch (s : State) (f : PlbState → PlbState) : (s.onPlb f).latch = s.latch := rfl
@[simp] theorem State.onPlb_clk (s : State) (f : PlbState → PlbState) : (s.onPlb f).clk = s.clk := rfl
@[simp] theorem State.onPlb_boot (s : State) (f : PlbState → PlbState) : (s.onPlb f).boot = s.boot := rfl
@[simp] theorem State.onPlb_tnn (s : State) (f : PlbState → PlbState) : (s.onPlb f).tnn = s.tnn := rfl
@[simp] theorem State.onPlb_btn (s : State) (f : PlbState → PlbState) : (s.onPlb f).btn = s.btn := rfl
@[simp] theorem State.onPlb_peg (s : State) (f : PlbState → PlbState) : (s.onPlb f).peg = s.peg := rfl
@[simp] theorem State.onPlb_krf (s : State) (f : PlbState → PlbState) : (s.onPlb f).krf = s.krf := rfl
@[simp] theorem State.onPlb_jst (s : State) (f : PlbState → PlbState) : (s.onPlb f).jst = s.jst := rfl
@[simp] theorem State.onPlb_jnl (s : State) (f : PlbState → PlbState) : (s.onPlb f).jnl = s.jnl := rfl
@[simp] theorem State.onPlb_lbk (s : State) (f : PlbState → PlbState) : (s.onPlb f).lbk = s.lbk := rfl
@[simp] theorem State.onPlb_wfp (s : State) (f : PlbState → PlbState) : (s.onPlb f).wfp = s.wfp := rfl
@[simp] theorem State.onPlb_dog (s : State) (f : PlbState → PlbState) : (s.onPlb f).dog = s.dog := rfl
@[simp] theorem State.onPlb_trs (s : State) (f : PlbState → PlbState) : (s.onPlb f).trs = s.trs := rfl
@[simp] theorem State.onPlb_sil (s : State) (f : PlbState → PlbState) : (s.onPlb f).sil = s.sil := rfl
@[simp] theorem State.onPlb_thm (s : State) (f : PlbState → PlbState) : (s.onPlb f).thm = s.thm := rfl
@[simp] theorem State.onPlb_hif (s : State) (f : PlbState → PlbState) : (s.onPlb f).hif = s.hif := rfl
@[simp] theorem State.onPlb_dwl (s : State) (f : PlbState → PlbState) : (s.onPlb f).dwl = s.dwl := rfl
@[simp] theorem State.onPlb_fwu (s : State) (f : PlbState → PlbState) : (s.onPlb f).fwu = s.fwu := rfl
@[simp] theorem State.onPlb_flt (s : State) (f : PlbState → PlbState) : (s.onPlb f).flt = s.flt := rfl
@[simp] theorem State.onPlb_hbm (s : State) (f : PlbState → PlbState) : (s.onPlb f).hbm = s.hbm := rfl
@[simp] theorem State.onPlb_flash (s : State) (f : PlbState → PlbState) : (s.onPlb f).flash = s.flash := rfl
@[simp] theorem State.onPlb_out (s : State) (f : PlbState → PlbState) : (s.onPlb f).out = s.out := rfl
@[simp] theorem State.onPlb_fresh (s : State) (f : PlbState → PlbState) : (s.onPlb f).fresh = s.fresh := rfl
@[simp] theorem State.onPlb_pending (s : State) (f : PlbState → PlbState) : (s.onPlb f).pending = s.pending := rfl
@[simp] theorem State.onPlb_rd (s : State) (f : PlbState → PlbState) (g : Fld) : (s.onPlb f).rd g = s.rd g := rfl
@[simp] theorem State.onPlb_self (s : State) (f : PlbState → PlbState) : (s.onPlb f).plb = f s.plb := rfl

@[simp] theorem State.onTnn_regs (s : State) (f : TnnState → TnnState) : (s.onTnn f).regs = s.regs := rfl
@[simp] theorem State.onTnn_latch (s : State) (f : TnnState → TnnState) : (s.onTnn f).latch = s.latch := rfl
@[simp] theorem State.onTnn_clk (s : State) (f : TnnState → TnnState) : (s.onTnn f).clk = s.clk := rfl
@[simp] theorem State.onTnn_boot (s : State) (f : TnnState → TnnState) : (s.onTnn f).boot = s.boot := rfl
@[simp] theorem State.onTnn_btn (s : State) (f : TnnState → TnnState) : (s.onTnn f).btn = s.btn := rfl
@[simp] theorem State.onTnn_peg (s : State) (f : TnnState → TnnState) : (s.onTnn f).peg = s.peg := rfl
@[simp] theorem State.onTnn_krf (s : State) (f : TnnState → TnnState) : (s.onTnn f).krf = s.krf := rfl
@[simp] theorem State.onTnn_jst (s : State) (f : TnnState → TnnState) : (s.onTnn f).jst = s.jst := rfl
@[simp] theorem State.onTnn_jnl (s : State) (f : TnnState → TnnState) : (s.onTnn f).jnl = s.jnl := rfl
@[simp] theorem State.onTnn_lbk (s : State) (f : TnnState → TnnState) : (s.onTnn f).lbk = s.lbk := rfl
@[simp] theorem State.onTnn_wfp (s : State) (f : TnnState → TnnState) : (s.onTnn f).wfp = s.wfp := rfl
@[simp] theorem State.onTnn_dog (s : State) (f : TnnState → TnnState) : (s.onTnn f).dog = s.dog := rfl
@[simp] theorem State.onTnn_trs (s : State) (f : TnnState → TnnState) : (s.onTnn f).trs = s.trs := rfl
@[simp] theorem State.onTnn_sil (s : State) (f : TnnState → TnnState) : (s.onTnn f).sil = s.sil := rfl
@[simp] theorem State.onTnn_thm (s : State) (f : TnnState → TnnState) : (s.onTnn f).thm = s.thm := rfl
@[simp] theorem State.onTnn_plb (s : State) (f : TnnState → TnnState) : (s.onTnn f).plb = s.plb := rfl
@[simp] theorem State.onTnn_hif (s : State) (f : TnnState → TnnState) : (s.onTnn f).hif = s.hif := rfl
@[simp] theorem State.onTnn_dwl (s : State) (f : TnnState → TnnState) : (s.onTnn f).dwl = s.dwl := rfl
@[simp] theorem State.onTnn_fwu (s : State) (f : TnnState → TnnState) : (s.onTnn f).fwu = s.fwu := rfl
@[simp] theorem State.onTnn_flt (s : State) (f : TnnState → TnnState) : (s.onTnn f).flt = s.flt := rfl
@[simp] theorem State.onTnn_hbm (s : State) (f : TnnState → TnnState) : (s.onTnn f).hbm = s.hbm := rfl
@[simp] theorem State.onTnn_flash (s : State) (f : TnnState → TnnState) : (s.onTnn f).flash = s.flash := rfl
@[simp] theorem State.onTnn_out (s : State) (f : TnnState → TnnState) : (s.onTnn f).out = s.out := rfl
@[simp] theorem State.onTnn_fresh (s : State) (f : TnnState → TnnState) : (s.onTnn f).fresh = s.fresh := rfl
@[simp] theorem State.onTnn_pending (s : State) (f : TnnState → TnnState) : (s.onTnn f).pending = s.pending := rfl
@[simp] theorem State.onTnn_rd (s : State) (f : TnnState → TnnState) (g : Fld) : (s.onTnn f).rd g = s.rd g := rfl
@[simp] theorem State.onTnn_self (s : State) (f : TnnState → TnnState) : (s.onTnn f).tnn = f s.tnn := rfl

@[simp] theorem State.onTrs_regs (s : State) (f : TrsState → TrsState) : (s.onTrs f).regs = s.regs := rfl
@[simp] theorem State.onTrs_latch (s : State) (f : TrsState → TrsState) : (s.onTrs f).latch = s.latch := rfl
@[simp] theorem State.onTrs_clk (s : State) (f : TrsState → TrsState) : (s.onTrs f).clk = s.clk := rfl
@[simp] theorem State.onTrs_boot (s : State) (f : TrsState → TrsState) : (s.onTrs f).boot = s.boot := rfl
@[simp] theorem State.onTrs_tnn (s : State) (f : TrsState → TrsState) : (s.onTrs f).tnn = s.tnn := rfl
@[simp] theorem State.onTrs_btn (s : State) (f : TrsState → TrsState) : (s.onTrs f).btn = s.btn := rfl
@[simp] theorem State.onTrs_peg (s : State) (f : TrsState → TrsState) : (s.onTrs f).peg = s.peg := rfl
@[simp] theorem State.onTrs_krf (s : State) (f : TrsState → TrsState) : (s.onTrs f).krf = s.krf := rfl
@[simp] theorem State.onTrs_jst (s : State) (f : TrsState → TrsState) : (s.onTrs f).jst = s.jst := rfl
@[simp] theorem State.onTrs_jnl (s : State) (f : TrsState → TrsState) : (s.onTrs f).jnl = s.jnl := rfl
@[simp] theorem State.onTrs_lbk (s : State) (f : TrsState → TrsState) : (s.onTrs f).lbk = s.lbk := rfl
@[simp] theorem State.onTrs_wfp (s : State) (f : TrsState → TrsState) : (s.onTrs f).wfp = s.wfp := rfl
@[simp] theorem State.onTrs_dog (s : State) (f : TrsState → TrsState) : (s.onTrs f).dog = s.dog := rfl
@[simp] theorem State.onTrs_sil (s : State) (f : TrsState → TrsState) : (s.onTrs f).sil = s.sil := rfl
@[simp] theorem State.onTrs_thm (s : State) (f : TrsState → TrsState) : (s.onTrs f).thm = s.thm := rfl
@[simp] theorem State.onTrs_plb (s : State) (f : TrsState → TrsState) : (s.onTrs f).plb = s.plb := rfl
@[simp] theorem State.onTrs_hif (s : State) (f : TrsState → TrsState) : (s.onTrs f).hif = s.hif := rfl
@[simp] theorem State.onTrs_dwl (s : State) (f : TrsState → TrsState) : (s.onTrs f).dwl = s.dwl := rfl
@[simp] theorem State.onTrs_fwu (s : State) (f : TrsState → TrsState) : (s.onTrs f).fwu = s.fwu := rfl
@[simp] theorem State.onTrs_flt (s : State) (f : TrsState → TrsState) : (s.onTrs f).flt = s.flt := rfl
@[simp] theorem State.onTrs_hbm (s : State) (f : TrsState → TrsState) : (s.onTrs f).hbm = s.hbm := rfl
@[simp] theorem State.onTrs_flash (s : State) (f : TrsState → TrsState) : (s.onTrs f).flash = s.flash := rfl
@[simp] theorem State.onTrs_out (s : State) (f : TrsState → TrsState) : (s.onTrs f).out = s.out := rfl
@[simp] theorem State.onTrs_fresh (s : State) (f : TrsState → TrsState) : (s.onTrs f).fresh = s.fresh := rfl
@[simp] theorem State.onTrs_pending (s : State) (f : TrsState → TrsState) : (s.onTrs f).pending = s.pending := rfl
@[simp] theorem State.onTrs_rd (s : State) (f : TrsState → TrsState) (g : Fld) : (s.onTrs f).rd g = s.rd g := rfl
@[simp] theorem State.onTrs_self (s : State) (f : TrsState → TrsState) : (s.onTrs f).trs = f s.trs := rfl

@[simp] theorem State.setDrv_regs (s : State) (n : Nat) (f : DrvState → DrvState) : (s.setDrv n f).regs = s.regs := rfl
@[simp] theorem State.setDrv_latch (s : State) (n : Nat) (f : DrvState → DrvState) : (s.setDrv n f).latch = s.latch := rfl
@[simp] theorem State.setDrv_clk (s : State) (n : Nat) (f : DrvState → DrvState) : (s.setDrv n f).clk = s.clk := rfl
@[simp] theorem State.setDrv_boot (s : State) (n : Nat) (f : DrvState → DrvState) : (s.setDrv n f).boot = s.boot := rfl
@[simp] theorem State.setDrv_tnn (s : State) (n : Nat) (f : DrvState → DrvState) : (s.setDrv n f).tnn = s.tnn := rfl
@[simp] theorem State.setDrv_peg (s : State) (n : Nat) (f : DrvState → DrvState) : (s.setDrv n f).peg = s.peg := rfl
@[simp] theorem State.setDrv_krf (s : State) (n : Nat) (f : DrvState → DrvState) : (s.setDrv n f).krf = s.krf := rfl
@[simp] theorem State.setDrv_jst (s : State) (n : Nat) (f : DrvState → DrvState) : (s.setDrv n f).jst = s.jst := rfl
@[simp] theorem State.setDrv_jnl (s : State) (n : Nat) (f : DrvState → DrvState) : (s.setDrv n f).jnl = s.jnl := rfl
@[simp] theorem State.setDrv_lbk (s : State) (n : Nat) (f : DrvState → DrvState) : (s.setDrv n f).lbk = s.lbk := rfl
@[simp] theorem State.setDrv_wfp (s : State) (n : Nat) (f : DrvState → DrvState) : (s.setDrv n f).wfp = s.wfp := rfl
@[simp] theorem State.setDrv_dog (s : State) (n : Nat) (f : DrvState → DrvState) : (s.setDrv n f).dog = s.dog := rfl
@[simp] theorem State.setDrv_trs (s : State) (n : Nat) (f : DrvState → DrvState) : (s.setDrv n f).trs = s.trs := rfl
@[simp] theorem State.setDrv_sil (s : State) (n : Nat) (f : DrvState → DrvState) : (s.setDrv n f).sil = s.sil := rfl
@[simp] theorem State.setDrv_thm (s : State) (n : Nat) (f : DrvState → DrvState) : (s.setDrv n f).thm = s.thm := rfl
@[simp] theorem State.setDrv_plb (s : State) (n : Nat) (f : DrvState → DrvState) : (s.setDrv n f).plb = s.plb := rfl
@[simp] theorem State.setDrv_hif (s : State) (n : Nat) (f : DrvState → DrvState) : (s.setDrv n f).hif = s.hif := rfl
@[simp] theorem State.setDrv_dwl (s : State) (n : Nat) (f : DrvState → DrvState) : (s.setDrv n f).dwl = s.dwl := rfl
@[simp] theorem State.setDrv_fwu (s : State) (n : Nat) (f : DrvState → DrvState) : (s.setDrv n f).fwu = s.fwu := rfl
@[simp] theorem State.setDrv_flt (s : State) (n : Nat) (f : DrvState → DrvState) : (s.setDrv n f).flt = s.flt := rfl
@[simp] theorem State.setDrv_hbm (s : State) (n : Nat) (f : DrvState → DrvState) : (s.setDrv n f).hbm = s.hbm := rfl
@[simp] theorem State.setDrv_flash (s : State) (n : Nat) (f : DrvState → DrvState) : (s.setDrv n f).flash = s.flash := rfl
@[simp] theorem State.setDrv_out (s : State) (n : Nat) (f : DrvState → DrvState) : (s.setDrv n f).out = s.out := rfl
@[simp] theorem State.setDrv_fresh (s : State) (n : Nat) (f : DrvState → DrvState) : (s.setDrv n f).fresh = s.fresh := rfl
@[simp] theorem State.setDrv_pending (s : State) (n : Nat) (f : DrvState → DrvState) : (s.setDrv n f).pending = s.pending := rfl
@[simp] theorem State.setDrv_rd (s : State) (n : Nat) (f : DrvState → DrvState) (g : Fld) : (s.setDrv n f).rd g = s.rd g := rfl

@[simp] theorem State.setRing_regs (s : State) (n : Nat) (f : RingState → RingState) : (s.setRing n f).regs = s.regs := rfl
@[simp] theorem State.setRing_latch (s : State) (n : Nat) (f : RingState → RingState) : (s.setRing n f).latch = s.latch := rfl
@[simp] theorem State.setRing_clk (s : State) (n : Nat) (f : RingState → RingState) : (s.setRing n f).clk = s.clk := rfl
@[simp] theorem State.setRing_boot (s : State) (n : Nat) (f : RingState → RingState) : (s.setRing n f).boot = s.boot := rfl
@[simp] theorem State.setRing_tnn (s : State) (n : Nat) (f : RingState → RingState) : (s.setRing n f).tnn = s.tnn := rfl
@[simp] theorem State.setRing_peg (s : State) (n : Nat) (f : RingState → RingState) : (s.setRing n f).peg = s.peg := rfl
@[simp] theorem State.setRing_krf (s : State) (n : Nat) (f : RingState → RingState) : (s.setRing n f).krf = s.krf := rfl
@[simp] theorem State.setRing_jst (s : State) (n : Nat) (f : RingState → RingState) : (s.setRing n f).jst = s.jst := rfl
@[simp] theorem State.setRing_jnl (s : State) (n : Nat) (f : RingState → RingState) : (s.setRing n f).jnl = s.jnl := rfl
@[simp] theorem State.setRing_lbk (s : State) (n : Nat) (f : RingState → RingState) : (s.setRing n f).lbk = s.lbk := rfl
@[simp] theorem State.setRing_wfp (s : State) (n : Nat) (f : RingState → RingState) : (s.setRing n f).wfp = s.wfp := rfl
@[simp] theorem State.setRing_dog (s : State) (n : Nat) (f : RingState → RingState) : (s.setRing n f).dog = s.dog := rfl
@[simp] theorem State.setRing_trs (s : State) (n : Nat) (f : RingState → RingState) : (s.setRing n f).trs = s.trs := rfl
@[simp] theorem State.setRing_sil (s : State) (n : Nat) (f : RingState → RingState) : (s.setRing n f).sil = s.sil := rfl
@[simp] theorem State.setRing_thm (s : State) (n : Nat) (f : RingState → RingState) : (s.setRing n f).thm = s.thm := rfl
@[simp] theorem State.setRing_plb (s : State) (n : Nat) (f : RingState → RingState) : (s.setRing n f).plb = s.plb := rfl
@[simp] theorem State.setRing_hif (s : State) (n : Nat) (f : RingState → RingState) : (s.setRing n f).hif = s.hif := rfl
@[simp] theorem State.setRing_dwl (s : State) (n : Nat) (f : RingState → RingState) : (s.setRing n f).dwl = s.dwl := rfl
@[simp] theorem State.setRing_fwu (s : State) (n : Nat) (f : RingState → RingState) : (s.setRing n f).fwu = s.fwu := rfl
@[simp] theorem State.setRing_flt (s : State) (n : Nat) (f : RingState → RingState) : (s.setRing n f).flt = s.flt := rfl
@[simp] theorem State.setRing_hbm (s : State) (n : Nat) (f : RingState → RingState) : (s.setRing n f).hbm = s.hbm := rfl
@[simp] theorem State.setRing_flash (s : State) (n : Nat) (f : RingState → RingState) : (s.setRing n f).flash = s.flash := rfl
@[simp] theorem State.setRing_out (s : State) (n : Nat) (f : RingState → RingState) : (s.setRing n f).out = s.out := rfl
@[simp] theorem State.setRing_fresh (s : State) (n : Nat) (f : RingState → RingState) : (s.setRing n f).fresh = s.fresh := rfl
@[simp] theorem State.setRing_pending (s : State) (n : Nat) (f : RingState → RingState) : (s.setRing n f).pending = s.pending := rfl
@[simp] theorem State.setRing_rd (s : State) (n : Nat) (f : RingState → RingState) (g : Fld) : (s.setRing n f).rd g = s.rd g := rfl

@[simp] theorem State.setDogU_regs (s : State) (n : Nat) (f : DogUnit → DogUnit) : (s.setDogU n f).regs = s.regs := rfl
@[simp] theorem State.setDogU_latch (s : State) (n : Nat) (f : DogUnit → DogUnit) : (s.setDogU n f).latch = s.latch := rfl
@[simp] theorem State.setDogU_clk (s : State) (n : Nat) (f : DogUnit → DogUnit) : (s.setDogU n f).clk = s.clk := rfl
@[simp] theorem State.setDogU_boot (s : State) (n : Nat) (f : DogUnit → DogUnit) : (s.setDogU n f).boot = s.boot := rfl
@[simp] theorem State.setDogU_tnn (s : State) (n : Nat) (f : DogUnit → DogUnit) : (s.setDogU n f).tnn = s.tnn := rfl
@[simp] theorem State.setDogU_btn (s : State) (n : Nat) (f : DogUnit → DogUnit) : (s.setDogU n f).btn = s.btn := rfl
@[simp] theorem State.setDogU_peg (s : State) (n : Nat) (f : DogUnit → DogUnit) : (s.setDogU n f).peg = s.peg := rfl
@[simp] theorem State.setDogU_krf (s : State) (n : Nat) (f : DogUnit → DogUnit) : (s.setDogU n f).krf = s.krf := rfl
@[simp] theorem State.setDogU_jst (s : State) (n : Nat) (f : DogUnit → DogUnit) : (s.setDogU n f).jst = s.jst := rfl
@[simp] theorem State.setDogU_jnl (s : State) (n : Nat) (f : DogUnit → DogUnit) : (s.setDogU n f).jnl = s.jnl := rfl
@[simp] theorem State.setDogU_lbk (s : State) (n : Nat) (f : DogUnit → DogUnit) : (s.setDogU n f).lbk = s.lbk := rfl
@[simp] theorem State.setDogU_wfp (s : State) (n : Nat) (f : DogUnit → DogUnit) : (s.setDogU n f).wfp = s.wfp := rfl
@[simp] theorem State.setDogU_trs (s : State) (n : Nat) (f : DogUnit → DogUnit) : (s.setDogU n f).trs = s.trs := rfl
@[simp] theorem State.setDogU_sil (s : State) (n : Nat) (f : DogUnit → DogUnit) : (s.setDogU n f).sil = s.sil := rfl
@[simp] theorem State.setDogU_thm (s : State) (n : Nat) (f : DogUnit → DogUnit) : (s.setDogU n f).thm = s.thm := rfl
@[simp] theorem State.setDogU_plb (s : State) (n : Nat) (f : DogUnit → DogUnit) : (s.setDogU n f).plb = s.plb := rfl
@[simp] theorem State.setDogU_hif (s : State) (n : Nat) (f : DogUnit → DogUnit) : (s.setDogU n f).hif = s.hif := rfl
@[simp] theorem State.setDogU_dwl (s : State) (n : Nat) (f : DogUnit → DogUnit) : (s.setDogU n f).dwl = s.dwl := rfl
@[simp] theorem State.setDogU_fwu (s : State) (n : Nat) (f : DogUnit → DogUnit) : (s.setDogU n f).fwu = s.fwu := rfl
@[simp] theorem State.setDogU_flt (s : State) (n : Nat) (f : DogUnit → DogUnit) : (s.setDogU n f).flt = s.flt := rfl
@[simp] theorem State.setDogU_hbm (s : State) (n : Nat) (f : DogUnit → DogUnit) : (s.setDogU n f).hbm = s.hbm := rfl
@[simp] theorem State.setDogU_flash (s : State) (n : Nat) (f : DogUnit → DogUnit) : (s.setDogU n f).flash = s.flash := rfl
@[simp] theorem State.setDogU_out (s : State) (n : Nat) (f : DogUnit → DogUnit) : (s.setDogU n f).out = s.out := rfl
@[simp] theorem State.setDogU_fresh (s : State) (n : Nat) (f : DogUnit → DogUnit) : (s.setDogU n f).fresh = s.fresh := rfl
@[simp] theorem State.setDogU_pending (s : State) (n : Nat) (f : DogUnit → DogUnit) : (s.setDogU n f).pending = s.pending := rfl
@[simp] theorem State.setDogU_rd (s : State) (n : Nat) (f : DogUnit → DogUnit) (g : Fld) : (s.setDogU n f).rd g = s.rd g := rfl

@[simp] theorem State.setLink_regs (s : State) (n : Nat) (f : TieLink → TieLink) : (s.setLink n f).regs = s.regs := rfl
@[simp] theorem State.setLink_latch (s : State) (n : Nat) (f : TieLink → TieLink) : (s.setLink n f).latch = s.latch := rfl
@[simp] theorem State.setLink_clk (s : State) (n : Nat) (f : TieLink → TieLink) : (s.setLink n f).clk = s.clk := rfl
@[simp] theorem State.setLink_boot (s : State) (n : Nat) (f : TieLink → TieLink) : (s.setLink n f).boot = s.boot := rfl
@[simp] theorem State.setLink_tnn (s : State) (n : Nat) (f : TieLink → TieLink) : (s.setLink n f).tnn = s.tnn := rfl
@[simp] theorem State.setLink_btn (s : State) (n : Nat) (f : TieLink → TieLink) : (s.setLink n f).btn = s.btn := rfl
@[simp] theorem State.setLink_peg (s : State) (n : Nat) (f : TieLink → TieLink) : (s.setLink n f).peg = s.peg := rfl
@[simp] theorem State.setLink_krf (s : State) (n : Nat) (f : TieLink → TieLink) : (s.setLink n f).krf = s.krf := rfl
@[simp] theorem State.setLink_jst (s : State) (n : Nat) (f : TieLink → TieLink) : (s.setLink n f).jst = s.jst := rfl
@[simp] theorem State.setLink_jnl (s : State) (n : Nat) (f : TieLink → TieLink) : (s.setLink n f).jnl = s.jnl := rfl
@[simp] theorem State.setLink_lbk (s : State) (n : Nat) (f : TieLink → TieLink) : (s.setLink n f).lbk = s.lbk := rfl
@[simp] theorem State.setLink_wfp (s : State) (n : Nat) (f : TieLink → TieLink) : (s.setLink n f).wfp = s.wfp := rfl
@[simp] theorem State.setLink_dog (s : State) (n : Nat) (f : TieLink → TieLink) : (s.setLink n f).dog = s.dog := rfl
@[simp] theorem State.setLink_trs (s : State) (n : Nat) (f : TieLink → TieLink) : (s.setLink n f).trs = s.trs := rfl
@[simp] theorem State.setLink_sil (s : State) (n : Nat) (f : TieLink → TieLink) : (s.setLink n f).sil = s.sil := rfl
@[simp] theorem State.setLink_thm (s : State) (n : Nat) (f : TieLink → TieLink) : (s.setLink n f).thm = s.thm := rfl
@[simp] theorem State.setLink_plb (s : State) (n : Nat) (f : TieLink → TieLink) : (s.setLink n f).plb = s.plb := rfl
@[simp] theorem State.setLink_hif (s : State) (n : Nat) (f : TieLink → TieLink) : (s.setLink n f).hif = s.hif := rfl
@[simp] theorem State.setLink_fwu (s : State) (n : Nat) (f : TieLink → TieLink) : (s.setLink n f).fwu = s.fwu := rfl
@[simp] theorem State.setLink_flt (s : State) (n : Nat) (f : TieLink → TieLink) : (s.setLink n f).flt = s.flt := rfl
@[simp] theorem State.setLink_hbm (s : State) (n : Nat) (f : TieLink → TieLink) : (s.setLink n f).hbm = s.hbm := rfl
@[simp] theorem State.setLink_flash (s : State) (n : Nat) (f : TieLink → TieLink) : (s.setLink n f).flash = s.flash := rfl
@[simp] theorem State.setLink_out (s : State) (n : Nat) (f : TieLink → TieLink) : (s.setLink n f).out = s.out := rfl
@[simp] theorem State.setLink_fresh (s : State) (n : Nat) (f : TieLink → TieLink) : (s.setLink n f).fresh = s.fresh := rfl
@[simp] theorem State.setLink_pending (s : State) (n : Nat) (f : TieLink → TieLink) : (s.setLink n f).pending = s.pending := rfl
@[simp] theorem State.setLink_rd (s : State) (n : Nat) (f : TieLink → TieLink) (g : Fld) : (s.setLink n f).rd g = s.rd g := rfl

@[simp] theorem State.setGauge_regs (s : State) (n : Nat) (f : Gauge → Gauge) : (s.setGauge n f).regs = s.regs := rfl
@[simp] theorem State.setGauge_latch (s : State) (n : Nat) (f : Gauge → Gauge) : (s.setGauge n f).latch = s.latch := rfl
@[simp] theorem State.setGauge_clk (s : State) (n : Nat) (f : Gauge → Gauge) : (s.setGauge n f).clk = s.clk := rfl
@[simp] theorem State.setGauge_boot (s : State) (n : Nat) (f : Gauge → Gauge) : (s.setGauge n f).boot = s.boot := rfl
@[simp] theorem State.setGauge_tnn (s : State) (n : Nat) (f : Gauge → Gauge) : (s.setGauge n f).tnn = s.tnn := rfl
@[simp] theorem State.setGauge_btn (s : State) (n : Nat) (f : Gauge → Gauge) : (s.setGauge n f).btn = s.btn := rfl
@[simp] theorem State.setGauge_peg (s : State) (n : Nat) (f : Gauge → Gauge) : (s.setGauge n f).peg = s.peg := rfl
@[simp] theorem State.setGauge_jst (s : State) (n : Nat) (f : Gauge → Gauge) : (s.setGauge n f).jst = s.jst := rfl
@[simp] theorem State.setGauge_jnl (s : State) (n : Nat) (f : Gauge → Gauge) : (s.setGauge n f).jnl = s.jnl := rfl
@[simp] theorem State.setGauge_lbk (s : State) (n : Nat) (f : Gauge → Gauge) : (s.setGauge n f).lbk = s.lbk := rfl
@[simp] theorem State.setGauge_wfp (s : State) (n : Nat) (f : Gauge → Gauge) : (s.setGauge n f).wfp = s.wfp := rfl
@[simp] theorem State.setGauge_dog (s : State) (n : Nat) (f : Gauge → Gauge) : (s.setGauge n f).dog = s.dog := rfl
@[simp] theorem State.setGauge_trs (s : State) (n : Nat) (f : Gauge → Gauge) : (s.setGauge n f).trs = s.trs := rfl
@[simp] theorem State.setGauge_sil (s : State) (n : Nat) (f : Gauge → Gauge) : (s.setGauge n f).sil = s.sil := rfl
@[simp] theorem State.setGauge_thm (s : State) (n : Nat) (f : Gauge → Gauge) : (s.setGauge n f).thm = s.thm := rfl
@[simp] theorem State.setGauge_plb (s : State) (n : Nat) (f : Gauge → Gauge) : (s.setGauge n f).plb = s.plb := rfl
@[simp] theorem State.setGauge_hif (s : State) (n : Nat) (f : Gauge → Gauge) : (s.setGauge n f).hif = s.hif := rfl
@[simp] theorem State.setGauge_dwl (s : State) (n : Nat) (f : Gauge → Gauge) : (s.setGauge n f).dwl = s.dwl := rfl
@[simp] theorem State.setGauge_fwu (s : State) (n : Nat) (f : Gauge → Gauge) : (s.setGauge n f).fwu = s.fwu := rfl
@[simp] theorem State.setGauge_flt (s : State) (n : Nat) (f : Gauge → Gauge) : (s.setGauge n f).flt = s.flt := rfl
@[simp] theorem State.setGauge_hbm (s : State) (n : Nat) (f : Gauge → Gauge) : (s.setGauge n f).hbm = s.hbm := rfl
@[simp] theorem State.setGauge_flash (s : State) (n : Nat) (f : Gauge → Gauge) : (s.setGauge n f).flash = s.flash := rfl
@[simp] theorem State.setGauge_out (s : State) (n : Nat) (f : Gauge → Gauge) : (s.setGauge n f).out = s.out := rfl
@[simp] theorem State.setGauge_fresh (s : State) (n : Nat) (f : Gauge → Gauge) : (s.setGauge n f).fresh = s.fresh := rfl
@[simp] theorem State.setGauge_pending (s : State) (n : Nat) (f : Gauge → Gauge) : (s.setGauge n f).pending = s.pending := rfl
@[simp] theorem State.setGauge_rd (s : State) (n : Nat) (f : Gauge → Gauge) (g : Fld) : (s.setGauge n f).rd g = s.rd g := rfl

@[simp] theorem State.setCmdRing_regs (s : State) (n : Nat) (f : CmdRing → CmdRing) : (s.setCmdRing n f).regs = s.regs := rfl
@[simp] theorem State.setCmdRing_latch (s : State) (n : Nat) (f : CmdRing → CmdRing) : (s.setCmdRing n f).latch = s.latch := rfl
@[simp] theorem State.setCmdRing_clk (s : State) (n : Nat) (f : CmdRing → CmdRing) : (s.setCmdRing n f).clk = s.clk := rfl
@[simp] theorem State.setCmdRing_boot (s : State) (n : Nat) (f : CmdRing → CmdRing) : (s.setCmdRing n f).boot = s.boot := rfl
@[simp] theorem State.setCmdRing_tnn (s : State) (n : Nat) (f : CmdRing → CmdRing) : (s.setCmdRing n f).tnn = s.tnn := rfl
@[simp] theorem State.setCmdRing_btn (s : State) (n : Nat) (f : CmdRing → CmdRing) : (s.setCmdRing n f).btn = s.btn := rfl
@[simp] theorem State.setCmdRing_peg (s : State) (n : Nat) (f : CmdRing → CmdRing) : (s.setCmdRing n f).peg = s.peg := rfl
@[simp] theorem State.setCmdRing_krf (s : State) (n : Nat) (f : CmdRing → CmdRing) : (s.setCmdRing n f).krf = s.krf := rfl
@[simp] theorem State.setCmdRing_jst (s : State) (n : Nat) (f : CmdRing → CmdRing) : (s.setCmdRing n f).jst = s.jst := rfl
@[simp] theorem State.setCmdRing_jnl (s : State) (n : Nat) (f : CmdRing → CmdRing) : (s.setCmdRing n f).jnl = s.jnl := rfl
@[simp] theorem State.setCmdRing_lbk (s : State) (n : Nat) (f : CmdRing → CmdRing) : (s.setCmdRing n f).lbk = s.lbk := rfl
@[simp] theorem State.setCmdRing_wfp (s : State) (n : Nat) (f : CmdRing → CmdRing) : (s.setCmdRing n f).wfp = s.wfp := rfl
@[simp] theorem State.setCmdRing_dog (s : State) (n : Nat) (f : CmdRing → CmdRing) : (s.setCmdRing n f).dog = s.dog := rfl
@[simp] theorem State.setCmdRing_trs (s : State) (n : Nat) (f : CmdRing → CmdRing) : (s.setCmdRing n f).trs = s.trs := rfl
@[simp] theorem State.setCmdRing_sil (s : State) (n : Nat) (f : CmdRing → CmdRing) : (s.setCmdRing n f).sil = s.sil := rfl
@[simp] theorem State.setCmdRing_thm (s : State) (n : Nat) (f : CmdRing → CmdRing) : (s.setCmdRing n f).thm = s.thm := rfl
@[simp] theorem State.setCmdRing_plb (s : State) (n : Nat) (f : CmdRing → CmdRing) : (s.setCmdRing n f).plb = s.plb := rfl
@[simp] theorem State.setCmdRing_dwl (s : State) (n : Nat) (f : CmdRing → CmdRing) : (s.setCmdRing n f).dwl = s.dwl := rfl
@[simp] theorem State.setCmdRing_fwu (s : State) (n : Nat) (f : CmdRing → CmdRing) : (s.setCmdRing n f).fwu = s.fwu := rfl
@[simp] theorem State.setCmdRing_flt (s : State) (n : Nat) (f : CmdRing → CmdRing) : (s.setCmdRing n f).flt = s.flt := rfl
@[simp] theorem State.setCmdRing_hbm (s : State) (n : Nat) (f : CmdRing → CmdRing) : (s.setCmdRing n f).hbm = s.hbm := rfl
@[simp] theorem State.setCmdRing_flash (s : State) (n : Nat) (f : CmdRing → CmdRing) : (s.setCmdRing n f).flash = s.flash := rfl
@[simp] theorem State.setCmdRing_out (s : State) (n : Nat) (f : CmdRing → CmdRing) : (s.setCmdRing n f).out = s.out := rfl
@[simp] theorem State.setCmdRing_fresh (s : State) (n : Nat) (f : CmdRing → CmdRing) : (s.setCmdRing n f).fresh = s.fresh := rfl
@[simp] theorem State.setCmdRing_pending (s : State) (n : Nat) (f : CmdRing → CmdRing) : (s.setCmdRing n f).pending = s.pending := rfl
@[simp] theorem State.setCmdRing_rd (s : State) (n : Nat) (f : CmdRing → CmdRing) (g : Fld) : (s.setCmdRing n f).rd g = s.rd g := rfl

@[simp] theorem State.setChan_regs (s : State) (n : Nat) (f : KrfChan → KrfChan) : (s.setChan n f).regs = s.regs := rfl
@[simp] theorem State.setChan_latch (s : State) (n : Nat) (f : KrfChan → KrfChan) : (s.setChan n f).latch = s.latch := rfl
@[simp] theorem State.setChan_clk (s : State) (n : Nat) (f : KrfChan → KrfChan) : (s.setChan n f).clk = s.clk := rfl
@[simp] theorem State.setChan_boot (s : State) (n : Nat) (f : KrfChan → KrfChan) : (s.setChan n f).boot = s.boot := rfl
@[simp] theorem State.setChan_tnn (s : State) (n : Nat) (f : KrfChan → KrfChan) : (s.setChan n f).tnn = s.tnn := rfl
@[simp] theorem State.setChan_btn (s : State) (n : Nat) (f : KrfChan → KrfChan) : (s.setChan n f).btn = s.btn := rfl
@[simp] theorem State.setChan_peg (s : State) (n : Nat) (f : KrfChan → KrfChan) : (s.setChan n f).peg = s.peg := rfl
@[simp] theorem State.setChan_jst (s : State) (n : Nat) (f : KrfChan → KrfChan) : (s.setChan n f).jst = s.jst := rfl
@[simp] theorem State.setChan_jnl (s : State) (n : Nat) (f : KrfChan → KrfChan) : (s.setChan n f).jnl = s.jnl := rfl
@[simp] theorem State.setChan_lbk (s : State) (n : Nat) (f : KrfChan → KrfChan) : (s.setChan n f).lbk = s.lbk := rfl
@[simp] theorem State.setChan_wfp (s : State) (n : Nat) (f : KrfChan → KrfChan) : (s.setChan n f).wfp = s.wfp := rfl
@[simp] theorem State.setChan_dog (s : State) (n : Nat) (f : KrfChan → KrfChan) : (s.setChan n f).dog = s.dog := rfl
@[simp] theorem State.setChan_trs (s : State) (n : Nat) (f : KrfChan → KrfChan) : (s.setChan n f).trs = s.trs := rfl
@[simp] theorem State.setChan_sil (s : State) (n : Nat) (f : KrfChan → KrfChan) : (s.setChan n f).sil = s.sil := rfl
@[simp] theorem State.setChan_thm (s : State) (n : Nat) (f : KrfChan → KrfChan) : (s.setChan n f).thm = s.thm := rfl
@[simp] theorem State.setChan_plb (s : State) (n : Nat) (f : KrfChan → KrfChan) : (s.setChan n f).plb = s.plb := rfl
@[simp] theorem State.setChan_hif (s : State) (n : Nat) (f : KrfChan → KrfChan) : (s.setChan n f).hif = s.hif := rfl
@[simp] theorem State.setChan_dwl (s : State) (n : Nat) (f : KrfChan → KrfChan) : (s.setChan n f).dwl = s.dwl := rfl
@[simp] theorem State.setChan_fwu (s : State) (n : Nat) (f : KrfChan → KrfChan) : (s.setChan n f).fwu = s.fwu := rfl
@[simp] theorem State.setChan_flt (s : State) (n : Nat) (f : KrfChan → KrfChan) : (s.setChan n f).flt = s.flt := rfl
@[simp] theorem State.setChan_hbm (s : State) (n : Nat) (f : KrfChan → KrfChan) : (s.setChan n f).hbm = s.hbm := rfl
@[simp] theorem State.setChan_flash (s : State) (n : Nat) (f : KrfChan → KrfChan) : (s.setChan n f).flash = s.flash := rfl
@[simp] theorem State.setChan_out (s : State) (n : Nat) (f : KrfChan → KrfChan) : (s.setChan n f).out = s.out := rfl
@[simp] theorem State.setChan_fresh (s : State) (n : Nat) (f : KrfChan → KrfChan) : (s.setChan n f).fresh = s.fresh := rfl
@[simp] theorem State.setChan_pending (s : State) (n : Nat) (f : KrfChan → KrfChan) : (s.setChan n f).pending = s.pending := rfl
@[simp] theorem State.setChan_rd (s : State) (n : Nat) (f : KrfChan → KrfChan) (g : Fld) : (s.setChan n f).rd g = s.rd g := rfl

@[simp] theorem State.setGroup_regs (s : State) (n : Nat) (f : KrfGroup → KrfGroup) : (s.setGroup n f).regs = s.regs := rfl
@[simp] theorem State.setGroup_latch (s : State) (n : Nat) (f : KrfGroup → KrfGroup) : (s.setGroup n f).latch = s.latch := rfl
@[simp] theorem State.setGroup_clk (s : State) (n : Nat) (f : KrfGroup → KrfGroup) : (s.setGroup n f).clk = s.clk := rfl
@[simp] theorem State.setGroup_boot (s : State) (n : Nat) (f : KrfGroup → KrfGroup) : (s.setGroup n f).boot = s.boot := rfl
@[simp] theorem State.setGroup_tnn (s : State) (n : Nat) (f : KrfGroup → KrfGroup) : (s.setGroup n f).tnn = s.tnn := rfl
@[simp] theorem State.setGroup_btn (s : State) (n : Nat) (f : KrfGroup → KrfGroup) : (s.setGroup n f).btn = s.btn := rfl
@[simp] theorem State.setGroup_peg (s : State) (n : Nat) (f : KrfGroup → KrfGroup) : (s.setGroup n f).peg = s.peg := rfl
@[simp] theorem State.setGroup_jst (s : State) (n : Nat) (f : KrfGroup → KrfGroup) : (s.setGroup n f).jst = s.jst := rfl
@[simp] theorem State.setGroup_jnl (s : State) (n : Nat) (f : KrfGroup → KrfGroup) : (s.setGroup n f).jnl = s.jnl := rfl
@[simp] theorem State.setGroup_lbk (s : State) (n : Nat) (f : KrfGroup → KrfGroup) : (s.setGroup n f).lbk = s.lbk := rfl
@[simp] theorem State.setGroup_wfp (s : State) (n : Nat) (f : KrfGroup → KrfGroup) : (s.setGroup n f).wfp = s.wfp := rfl
@[simp] theorem State.setGroup_dog (s : State) (n : Nat) (f : KrfGroup → KrfGroup) : (s.setGroup n f).dog = s.dog := rfl
@[simp] theorem State.setGroup_trs (s : State) (n : Nat) (f : KrfGroup → KrfGroup) : (s.setGroup n f).trs = s.trs := rfl
@[simp] theorem State.setGroup_sil (s : State) (n : Nat) (f : KrfGroup → KrfGroup) : (s.setGroup n f).sil = s.sil := rfl
@[simp] theorem State.setGroup_thm (s : State) (n : Nat) (f : KrfGroup → KrfGroup) : (s.setGroup n f).thm = s.thm := rfl
@[simp] theorem State.setGroup_plb (s : State) (n : Nat) (f : KrfGroup → KrfGroup) : (s.setGroup n f).plb = s.plb := rfl
@[simp] theorem State.setGroup_hif (s : State) (n : Nat) (f : KrfGroup → KrfGroup) : (s.setGroup n f).hif = s.hif := rfl
@[simp] theorem State.setGroup_dwl (s : State) (n : Nat) (f : KrfGroup → KrfGroup) : (s.setGroup n f).dwl = s.dwl := rfl
@[simp] theorem State.setGroup_fwu (s : State) (n : Nat) (f : KrfGroup → KrfGroup) : (s.setGroup n f).fwu = s.fwu := rfl
@[simp] theorem State.setGroup_flt (s : State) (n : Nat) (f : KrfGroup → KrfGroup) : (s.setGroup n f).flt = s.flt := rfl
@[simp] theorem State.setGroup_hbm (s : State) (n : Nat) (f : KrfGroup → KrfGroup) : (s.setGroup n f).hbm = s.hbm := rfl
@[simp] theorem State.setGroup_flash (s : State) (n : Nat) (f : KrfGroup → KrfGroup) : (s.setGroup n f).flash = s.flash := rfl
@[simp] theorem State.setGroup_out (s : State) (n : Nat) (f : KrfGroup → KrfGroup) : (s.setGroup n f).out = s.out := rfl
@[simp] theorem State.setGroup_fresh (s : State) (n : Nat) (f : KrfGroup → KrfGroup) : (s.setGroup n f).fresh = s.fresh := rfl
@[simp] theorem State.setGroup_pending (s : State) (n : Nat) (f : KrfGroup → KrfGroup) : (s.setGroup n f).pending = s.pending := rfl
@[simp] theorem State.setGroup_rd (s : State) (n : Nat) (f : KrfGroup → KrfGroup) (g : Fld) : (s.setGroup n f).rd g = s.rd g := rfl

@[simp] theorem State.setFrame_regs (s : State) (n : Nat) (f : LbkFrame → LbkFrame) : (s.setFrame n f).regs = s.regs := rfl
@[simp] theorem State.setFrame_latch (s : State) (n : Nat) (f : LbkFrame → LbkFrame) : (s.setFrame n f).latch = s.latch := rfl
@[simp] theorem State.setFrame_clk (s : State) (n : Nat) (f : LbkFrame → LbkFrame) : (s.setFrame n f).clk = s.clk := rfl
@[simp] theorem State.setFrame_boot (s : State) (n : Nat) (f : LbkFrame → LbkFrame) : (s.setFrame n f).boot = s.boot := rfl
@[simp] theorem State.setFrame_tnn (s : State) (n : Nat) (f : LbkFrame → LbkFrame) : (s.setFrame n f).tnn = s.tnn := rfl
@[simp] theorem State.setFrame_btn (s : State) (n : Nat) (f : LbkFrame → LbkFrame) : (s.setFrame n f).btn = s.btn := rfl
@[simp] theorem State.setFrame_peg (s : State) (n : Nat) (f : LbkFrame → LbkFrame) : (s.setFrame n f).peg = s.peg := rfl
@[simp] theorem State.setFrame_krf (s : State) (n : Nat) (f : LbkFrame → LbkFrame) : (s.setFrame n f).krf = s.krf := rfl
@[simp] theorem State.setFrame_jst (s : State) (n : Nat) (f : LbkFrame → LbkFrame) : (s.setFrame n f).jst = s.jst := rfl
@[simp] theorem State.setFrame_jnl (s : State) (n : Nat) (f : LbkFrame → LbkFrame) : (s.setFrame n f).jnl = s.jnl := rfl
@[simp] theorem State.setFrame_wfp (s : State) (n : Nat) (f : LbkFrame → LbkFrame) : (s.setFrame n f).wfp = s.wfp := rfl
@[simp] theorem State.setFrame_dog (s : State) (n : Nat) (f : LbkFrame → LbkFrame) : (s.setFrame n f).dog = s.dog := rfl
@[simp] theorem State.setFrame_trs (s : State) (n : Nat) (f : LbkFrame → LbkFrame) : (s.setFrame n f).trs = s.trs := rfl
@[simp] theorem State.setFrame_sil (s : State) (n : Nat) (f : LbkFrame → LbkFrame) : (s.setFrame n f).sil = s.sil := rfl
@[simp] theorem State.setFrame_thm (s : State) (n : Nat) (f : LbkFrame → LbkFrame) : (s.setFrame n f).thm = s.thm := rfl
@[simp] theorem State.setFrame_plb (s : State) (n : Nat) (f : LbkFrame → LbkFrame) : (s.setFrame n f).plb = s.plb := rfl
@[simp] theorem State.setFrame_hif (s : State) (n : Nat) (f : LbkFrame → LbkFrame) : (s.setFrame n f).hif = s.hif := rfl
@[simp] theorem State.setFrame_dwl (s : State) (n : Nat) (f : LbkFrame → LbkFrame) : (s.setFrame n f).dwl = s.dwl := rfl
@[simp] theorem State.setFrame_fwu (s : State) (n : Nat) (f : LbkFrame → LbkFrame) : (s.setFrame n f).fwu = s.fwu := rfl
@[simp] theorem State.setFrame_flt (s : State) (n : Nat) (f : LbkFrame → LbkFrame) : (s.setFrame n f).flt = s.flt := rfl
@[simp] theorem State.setFrame_hbm (s : State) (n : Nat) (f : LbkFrame → LbkFrame) : (s.setFrame n f).hbm = s.hbm := rfl
@[simp] theorem State.setFrame_flash (s : State) (n : Nat) (f : LbkFrame → LbkFrame) : (s.setFrame n f).flash = s.flash := rfl
@[simp] theorem State.setFrame_out (s : State) (n : Nat) (f : LbkFrame → LbkFrame) : (s.setFrame n f).out = s.out := rfl
@[simp] theorem State.setFrame_fresh (s : State) (n : Nat) (f : LbkFrame → LbkFrame) : (s.setFrame n f).fresh = s.fresh := rfl
@[simp] theorem State.setFrame_pending (s : State) (n : Nat) (f : LbkFrame → LbkFrame) : (s.setFrame n f).pending = s.pending := rfl
@[simp] theorem State.setFrame_rd (s : State) (n : Nat) (f : LbkFrame → LbkFrame) (g : Fld) : (s.setFrame n f).rd g = s.rd g := rfl

@[simp] theorem State.setEngine_regs (s : State) (n : Nat) (f : Engine → Engine) : (s.setEngine n f).regs = s.regs := rfl
@[simp] theorem State.setEngine_latch (s : State) (n : Nat) (f : Engine → Engine) : (s.setEngine n f).latch = s.latch := rfl
@[simp] theorem State.setEngine_clk (s : State) (n : Nat) (f : Engine → Engine) : (s.setEngine n f).clk = s.clk := rfl
@[simp] theorem State.setEngine_boot (s : State) (n : Nat) (f : Engine → Engine) : (s.setEngine n f).boot = s.boot := rfl
@[simp] theorem State.setEngine_tnn (s : State) (n : Nat) (f : Engine → Engine) : (s.setEngine n f).tnn = s.tnn := rfl
@[simp] theorem State.setEngine_btn (s : State) (n : Nat) (f : Engine → Engine) : (s.setEngine n f).btn = s.btn := rfl
@[simp] theorem State.setEngine_peg (s : State) (n : Nat) (f : Engine → Engine) : (s.setEngine n f).peg = s.peg := rfl
@[simp] theorem State.setEngine_krf (s : State) (n : Nat) (f : Engine → Engine) : (s.setEngine n f).krf = s.krf := rfl
@[simp] theorem State.setEngine_jnl (s : State) (n : Nat) (f : Engine → Engine) : (s.setEngine n f).jnl = s.jnl := rfl
@[simp] theorem State.setEngine_lbk (s : State) (n : Nat) (f : Engine → Engine) : (s.setEngine n f).lbk = s.lbk := rfl
@[simp] theorem State.setEngine_wfp (s : State) (n : Nat) (f : Engine → Engine) : (s.setEngine n f).wfp = s.wfp := rfl
@[simp] theorem State.setEngine_dog (s : State) (n : Nat) (f : Engine → Engine) : (s.setEngine n f).dog = s.dog := rfl
@[simp] theorem State.setEngine_trs (s : State) (n : Nat) (f : Engine → Engine) : (s.setEngine n f).trs = s.trs := rfl
@[simp] theorem State.setEngine_sil (s : State) (n : Nat) (f : Engine → Engine) : (s.setEngine n f).sil = s.sil := rfl
@[simp] theorem State.setEngine_thm (s : State) (n : Nat) (f : Engine → Engine) : (s.setEngine n f).thm = s.thm := rfl
@[simp] theorem State.setEngine_plb (s : State) (n : Nat) (f : Engine → Engine) : (s.setEngine n f).plb = s.plb := rfl
@[simp] theorem State.setEngine_hif (s : State) (n : Nat) (f : Engine → Engine) : (s.setEngine n f).hif = s.hif := rfl
@[simp] theorem State.setEngine_dwl (s : State) (n : Nat) (f : Engine → Engine) : (s.setEngine n f).dwl = s.dwl := rfl
@[simp] theorem State.setEngine_fwu (s : State) (n : Nat) (f : Engine → Engine) : (s.setEngine n f).fwu = s.fwu := rfl
@[simp] theorem State.setEngine_flt (s : State) (n : Nat) (f : Engine → Engine) : (s.setEngine n f).flt = s.flt := rfl
@[simp] theorem State.setEngine_hbm (s : State) (n : Nat) (f : Engine → Engine) : (s.setEngine n f).hbm = s.hbm := rfl
@[simp] theorem State.setEngine_flash (s : State) (n : Nat) (f : Engine → Engine) : (s.setEngine n f).flash = s.flash := rfl
@[simp] theorem State.setEngine_out (s : State) (n : Nat) (f : Engine → Engine) : (s.setEngine n f).out = s.out := rfl
@[simp] theorem State.setEngine_fresh (s : State) (n : Nat) (f : Engine → Engine) : (s.setEngine n f).fresh = s.fresh := rfl
@[simp] theorem State.setEngine_pending (s : State) (n : Nat) (f : Engine → Engine) : (s.setEngine n f).pending = s.pending := rfl
@[simp] theorem State.setEngine_rd (s : State) (n : Nat) (f : Engine → Engine) (g : Fld) : (s.setEngine n f).rd g = s.rd g := rfl

@[simp] theorem State.setBurst_regs (s : State) (n : Nat) (f : Burst → Burst) : (s.setBurst n f).regs = s.regs := rfl
@[simp] theorem State.setBurst_latch (s : State) (n : Nat) (f : Burst → Burst) : (s.setBurst n f).latch = s.latch := rfl
@[simp] theorem State.setBurst_clk (s : State) (n : Nat) (f : Burst → Burst) : (s.setBurst n f).clk = s.clk := rfl
@[simp] theorem State.setBurst_boot (s : State) (n : Nat) (f : Burst → Burst) : (s.setBurst n f).boot = s.boot := rfl
@[simp] theorem State.setBurst_tnn (s : State) (n : Nat) (f : Burst → Burst) : (s.setBurst n f).tnn = s.tnn := rfl
@[simp] theorem State.setBurst_btn (s : State) (n : Nat) (f : Burst → Burst) : (s.setBurst n f).btn = s.btn := rfl
@[simp] theorem State.setBurst_krf (s : State) (n : Nat) (f : Burst → Burst) : (s.setBurst n f).krf = s.krf := rfl
@[simp] theorem State.setBurst_jst (s : State) (n : Nat) (f : Burst → Burst) : (s.setBurst n f).jst = s.jst := rfl
@[simp] theorem State.setBurst_jnl (s : State) (n : Nat) (f : Burst → Burst) : (s.setBurst n f).jnl = s.jnl := rfl
@[simp] theorem State.setBurst_lbk (s : State) (n : Nat) (f : Burst → Burst) : (s.setBurst n f).lbk = s.lbk := rfl
@[simp] theorem State.setBurst_wfp (s : State) (n : Nat) (f : Burst → Burst) : (s.setBurst n f).wfp = s.wfp := rfl
@[simp] theorem State.setBurst_dog (s : State) (n : Nat) (f : Burst → Burst) : (s.setBurst n f).dog = s.dog := rfl
@[simp] theorem State.setBurst_trs (s : State) (n : Nat) (f : Burst → Burst) : (s.setBurst n f).trs = s.trs := rfl
@[simp] theorem State.setBurst_sil (s : State) (n : Nat) (f : Burst → Burst) : (s.setBurst n f).sil = s.sil := rfl
@[simp] theorem State.setBurst_thm (s : State) (n : Nat) (f : Burst → Burst) : (s.setBurst n f).thm = s.thm := rfl
@[simp] theorem State.setBurst_plb (s : State) (n : Nat) (f : Burst → Burst) : (s.setBurst n f).plb = s.plb := rfl
@[simp] theorem State.setBurst_hif (s : State) (n : Nat) (f : Burst → Burst) : (s.setBurst n f).hif = s.hif := rfl
@[simp] theorem State.setBurst_dwl (s : State) (n : Nat) (f : Burst → Burst) : (s.setBurst n f).dwl = s.dwl := rfl
@[simp] theorem State.setBurst_fwu (s : State) (n : Nat) (f : Burst → Burst) : (s.setBurst n f).fwu = s.fwu := rfl
@[simp] theorem State.setBurst_flt (s : State) (n : Nat) (f : Burst → Burst) : (s.setBurst n f).flt = s.flt := rfl
@[simp] theorem State.setBurst_hbm (s : State) (n : Nat) (f : Burst → Burst) : (s.setBurst n f).hbm = s.hbm := rfl
@[simp] theorem State.setBurst_flash (s : State) (n : Nat) (f : Burst → Burst) : (s.setBurst n f).flash = s.flash := rfl
@[simp] theorem State.setBurst_out (s : State) (n : Nat) (f : Burst → Burst) : (s.setBurst n f).out = s.out := rfl
@[simp] theorem State.setBurst_fresh (s : State) (n : Nat) (f : Burst → Burst) : (s.setBurst n f).fresh = s.fresh := rfl
@[simp] theorem State.setBurst_pending (s : State) (n : Nat) (f : Burst → Burst) : (s.setBurst n f).pending = s.pending := rfl
@[simp] theorem State.setBurst_rd (s : State) (n : Nat) (f : Burst → Burst) (g : Fld) : (s.setBurst n f).rd g = s.rd g := rfl

@[simp] theorem State.setPlan_regs (s : State) (n : Nat) (f : DrvPlan → DrvPlan) : (s.setPlan n f).regs = s.regs := rfl
@[simp] theorem State.setPlan_latch (s : State) (n : Nat) (f : DrvPlan → DrvPlan) : (s.setPlan n f).latch = s.latch := rfl
@[simp] theorem State.setPlan_clk (s : State) (n : Nat) (f : DrvPlan → DrvPlan) : (s.setPlan n f).clk = s.clk := rfl
@[simp] theorem State.setPlan_boot (s : State) (n : Nat) (f : DrvPlan → DrvPlan) : (s.setPlan n f).boot = s.boot := rfl
@[simp] theorem State.setPlan_tnn (s : State) (n : Nat) (f : DrvPlan → DrvPlan) : (s.setPlan n f).tnn = s.tnn := rfl
@[simp] theorem State.setPlan_btn (s : State) (n : Nat) (f : DrvPlan → DrvPlan) : (s.setPlan n f).btn = s.btn := rfl
@[simp] theorem State.setPlan_krf (s : State) (n : Nat) (f : DrvPlan → DrvPlan) : (s.setPlan n f).krf = s.krf := rfl
@[simp] theorem State.setPlan_jst (s : State) (n : Nat) (f : DrvPlan → DrvPlan) : (s.setPlan n f).jst = s.jst := rfl
@[simp] theorem State.setPlan_jnl (s : State) (n : Nat) (f : DrvPlan → DrvPlan) : (s.setPlan n f).jnl = s.jnl := rfl
@[simp] theorem State.setPlan_lbk (s : State) (n : Nat) (f : DrvPlan → DrvPlan) : (s.setPlan n f).lbk = s.lbk := rfl
@[simp] theorem State.setPlan_wfp (s : State) (n : Nat) (f : DrvPlan → DrvPlan) : (s.setPlan n f).wfp = s.wfp := rfl
@[simp] theorem State.setPlan_dog (s : State) (n : Nat) (f : DrvPlan → DrvPlan) : (s.setPlan n f).dog = s.dog := rfl
@[simp] theorem State.setPlan_trs (s : State) (n : Nat) (f : DrvPlan → DrvPlan) : (s.setPlan n f).trs = s.trs := rfl
@[simp] theorem State.setPlan_sil (s : State) (n : Nat) (f : DrvPlan → DrvPlan) : (s.setPlan n f).sil = s.sil := rfl
@[simp] theorem State.setPlan_thm (s : State) (n : Nat) (f : DrvPlan → DrvPlan) : (s.setPlan n f).thm = s.thm := rfl
@[simp] theorem State.setPlan_plb (s : State) (n : Nat) (f : DrvPlan → DrvPlan) : (s.setPlan n f).plb = s.plb := rfl
@[simp] theorem State.setPlan_hif (s : State) (n : Nat) (f : DrvPlan → DrvPlan) : (s.setPlan n f).hif = s.hif := rfl
@[simp] theorem State.setPlan_dwl (s : State) (n : Nat) (f : DrvPlan → DrvPlan) : (s.setPlan n f).dwl = s.dwl := rfl
@[simp] theorem State.setPlan_fwu (s : State) (n : Nat) (f : DrvPlan → DrvPlan) : (s.setPlan n f).fwu = s.fwu := rfl
@[simp] theorem State.setPlan_flt (s : State) (n : Nat) (f : DrvPlan → DrvPlan) : (s.setPlan n f).flt = s.flt := rfl
@[simp] theorem State.setPlan_hbm (s : State) (n : Nat) (f : DrvPlan → DrvPlan) : (s.setPlan n f).hbm = s.hbm := rfl
@[simp] theorem State.setPlan_flash (s : State) (n : Nat) (f : DrvPlan → DrvPlan) : (s.setPlan n f).flash = s.flash := rfl
@[simp] theorem State.setPlan_out (s : State) (n : Nat) (f : DrvPlan → DrvPlan) : (s.setPlan n f).out = s.out := rfl
@[simp] theorem State.setPlan_fresh (s : State) (n : Nat) (f : DrvPlan → DrvPlan) : (s.setPlan n f).fresh = s.fresh := rfl
@[simp] theorem State.setPlan_pending (s : State) (n : Nat) (f : DrvPlan → DrvPlan) : (s.setPlan n f).pending = s.pending := rfl
@[simp] theorem State.setPlan_rd (s : State) (n : Nat) (f : DrvPlan → DrvPlan) (g : Fld) : (s.setPlan n f).rd g = s.rd g := rfl

@[simp] theorem State.setLane_regs (s : State) (n : Nat) (f : LaneState → LaneState) : (s.setLane n f).regs = s.regs := rfl
@[simp] theorem State.setLane_latch (s : State) (n : Nat) (f : LaneState → LaneState) : (s.setLane n f).latch = s.latch := rfl
@[simp] theorem State.setLane_clk (s : State) (n : Nat) (f : LaneState → LaneState) : (s.setLane n f).clk = s.clk := rfl
@[simp] theorem State.setLane_boot (s : State) (n : Nat) (f : LaneState → LaneState) : (s.setLane n f).boot = s.boot := rfl
@[simp] theorem State.setLane_tnn (s : State) (n : Nat) (f : LaneState → LaneState) : (s.setLane n f).tnn = s.tnn := rfl
@[simp] theorem State.setLane_btn (s : State) (n : Nat) (f : LaneState → LaneState) : (s.setLane n f).btn = s.btn := rfl
@[simp] theorem State.setLane_peg (s : State) (n : Nat) (f : LaneState → LaneState) : (s.setLane n f).peg = s.peg := rfl
@[simp] theorem State.setLane_krf (s : State) (n : Nat) (f : LaneState → LaneState) : (s.setLane n f).krf = s.krf := rfl
@[simp] theorem State.setLane_jst (s : State) (n : Nat) (f : LaneState → LaneState) : (s.setLane n f).jst = s.jst := rfl
@[simp] theorem State.setLane_jnl (s : State) (n : Nat) (f : LaneState → LaneState) : (s.setLane n f).jnl = s.jnl := rfl
@[simp] theorem State.setLane_lbk (s : State) (n : Nat) (f : LaneState → LaneState) : (s.setLane n f).lbk = s.lbk := rfl
@[simp] theorem State.setLane_dog (s : State) (n : Nat) (f : LaneState → LaneState) : (s.setLane n f).dog = s.dog := rfl
@[simp] theorem State.setLane_trs (s : State) (n : Nat) (f : LaneState → LaneState) : (s.setLane n f).trs = s.trs := rfl
@[simp] theorem State.setLane_sil (s : State) (n : Nat) (f : LaneState → LaneState) : (s.setLane n f).sil = s.sil := rfl
@[simp] theorem State.setLane_thm (s : State) (n : Nat) (f : LaneState → LaneState) : (s.setLane n f).thm = s.thm := rfl
@[simp] theorem State.setLane_plb (s : State) (n : Nat) (f : LaneState → LaneState) : (s.setLane n f).plb = s.plb := rfl
@[simp] theorem State.setLane_hif (s : State) (n : Nat) (f : LaneState → LaneState) : (s.setLane n f).hif = s.hif := rfl
@[simp] theorem State.setLane_dwl (s : State) (n : Nat) (f : LaneState → LaneState) : (s.setLane n f).dwl = s.dwl := rfl
@[simp] theorem State.setLane_fwu (s : State) (n : Nat) (f : LaneState → LaneState) : (s.setLane n f).fwu = s.fwu := rfl
@[simp] theorem State.setLane_flt (s : State) (n : Nat) (f : LaneState → LaneState) : (s.setLane n f).flt = s.flt := rfl
@[simp] theorem State.setLane_hbm (s : State) (n : Nat) (f : LaneState → LaneState) : (s.setLane n f).hbm = s.hbm := rfl
@[simp] theorem State.setLane_flash (s : State) (n : Nat) (f : LaneState → LaneState) : (s.setLane n f).flash = s.flash := rfl
@[simp] theorem State.setLane_out (s : State) (n : Nat) (f : LaneState → LaneState) : (s.setLane n f).out = s.out := rfl
@[simp] theorem State.setLane_fresh (s : State) (n : Nat) (f : LaneState → LaneState) : (s.setLane n f).fresh = s.fresh := rfl
@[simp] theorem State.setLane_pending (s : State) (n : Nat) (f : LaneState → LaneState) : (s.setLane n f).pending = s.pending := rfl
@[simp] theorem State.setLane_rd (s : State) (n : Nat) (f : LaneState → LaneState) (g : Fld) : (s.setLane n f).rd g = s.rd g := rfl

@[simp] theorem State.setBulk_regs (s : State) (n : Nat) (f : BulkChan → BulkChan) : (s.setBulk n f).regs = s.regs := rfl
@[simp] theorem State.setBulk_latch (s : State) (n : Nat) (f : BulkChan → BulkChan) : (s.setBulk n f).latch = s.latch := rfl
@[simp] theorem State.setBulk_clk (s : State) (n : Nat) (f : BulkChan → BulkChan) : (s.setBulk n f).clk = s.clk := rfl
@[simp] theorem State.setBulk_boot (s : State) (n : Nat) (f : BulkChan → BulkChan) : (s.setBulk n f).boot = s.boot := rfl
@[simp] theorem State.setBulk_tnn (s : State) (n : Nat) (f : BulkChan → BulkChan) : (s.setBulk n f).tnn = s.tnn := rfl
@[simp] theorem State.setBulk_btn (s : State) (n : Nat) (f : BulkChan → BulkChan) : (s.setBulk n f).btn = s.btn := rfl
@[simp] theorem State.setBulk_peg (s : State) (n : Nat) (f : BulkChan → BulkChan) : (s.setBulk n f).peg = s.peg := rfl
@[simp] theorem State.setBulk_krf (s : State) (n : Nat) (f : BulkChan → BulkChan) : (s.setBulk n f).krf = s.krf := rfl
@[simp] theorem State.setBulk_jst (s : State) (n : Nat) (f : BulkChan → BulkChan) : (s.setBulk n f).jst = s.jst := rfl
@[simp] theorem State.setBulk_jnl (s : State) (n : Nat) (f : BulkChan → BulkChan) : (s.setBulk n f).jnl = s.jnl := rfl
@[simp] theorem State.setBulk_lbk (s : State) (n : Nat) (f : BulkChan → BulkChan) : (s.setBulk n f).lbk = s.lbk := rfl
@[simp] theorem State.setBulk_wfp (s : State) (n : Nat) (f : BulkChan → BulkChan) : (s.setBulk n f).wfp = s.wfp := rfl
@[simp] theorem State.setBulk_dog (s : State) (n : Nat) (f : BulkChan → BulkChan) : (s.setBulk n f).dog = s.dog := rfl
@[simp] theorem State.setBulk_trs (s : State) (n : Nat) (f : BulkChan → BulkChan) : (s.setBulk n f).trs = s.trs := rfl
@[simp] theorem State.setBulk_sil (s : State) (n : Nat) (f : BulkChan → BulkChan) : (s.setBulk n f).sil = s.sil := rfl
@[simp] theorem State.setBulk_thm (s : State) (n : Nat) (f : BulkChan → BulkChan) : (s.setBulk n f).thm = s.thm := rfl
@[simp] theorem State.setBulk_plb (s : State) (n : Nat) (f : BulkChan → BulkChan) : (s.setBulk n f).plb = s.plb := rfl
@[simp] theorem State.setBulk_dwl (s : State) (n : Nat) (f : BulkChan → BulkChan) : (s.setBulk n f).dwl = s.dwl := rfl
@[simp] theorem State.setBulk_fwu (s : State) (n : Nat) (f : BulkChan → BulkChan) : (s.setBulk n f).fwu = s.fwu := rfl
@[simp] theorem State.setBulk_flt (s : State) (n : Nat) (f : BulkChan → BulkChan) : (s.setBulk n f).flt = s.flt := rfl
@[simp] theorem State.setBulk_hbm (s : State) (n : Nat) (f : BulkChan → BulkChan) : (s.setBulk n f).hbm = s.hbm := rfl
@[simp] theorem State.setBulk_flash (s : State) (n : Nat) (f : BulkChan → BulkChan) : (s.setBulk n f).flash = s.flash := rfl
@[simp] theorem State.setBulk_out (s : State) (n : Nat) (f : BulkChan → BulkChan) : (s.setBulk n f).out = s.out := rfl
@[simp] theorem State.setBulk_fresh (s : State) (n : Nat) (f : BulkChan → BulkChan) : (s.setBulk n f).fresh = s.fresh := rfl
@[simp] theorem State.setBulk_pending (s : State) (n : Nat) (f : BulkChan → BulkChan) : (s.setBulk n f).pending = s.pending := rfl
@[simp] theorem State.setBulk_rd (s : State) (n : Nat) (f : BulkChan → BulkChan) (g : Fld) : (s.setBulk n f).rd g = s.rd g := rfl

@[simp] theorem State.setInput_regs (s : State) (n : Nat) (f : TrsInput → TrsInput) : (s.setInput n f).regs = s.regs := rfl
@[simp] theorem State.setInput_latch (s : State) (n : Nat) (f : TrsInput → TrsInput) : (s.setInput n f).latch = s.latch := rfl
@[simp] theorem State.setInput_clk (s : State) (n : Nat) (f : TrsInput → TrsInput) : (s.setInput n f).clk = s.clk := rfl
@[simp] theorem State.setInput_boot (s : State) (n : Nat) (f : TrsInput → TrsInput) : (s.setInput n f).boot = s.boot := rfl
@[simp] theorem State.setInput_tnn (s : State) (n : Nat) (f : TrsInput → TrsInput) : (s.setInput n f).tnn = s.tnn := rfl
@[simp] theorem State.setInput_btn (s : State) (n : Nat) (f : TrsInput → TrsInput) : (s.setInput n f).btn = s.btn := rfl
@[simp] theorem State.setInput_peg (s : State) (n : Nat) (f : TrsInput → TrsInput) : (s.setInput n f).peg = s.peg := rfl
@[simp] theorem State.setInput_krf (s : State) (n : Nat) (f : TrsInput → TrsInput) : (s.setInput n f).krf = s.krf := rfl
@[simp] theorem State.setInput_jst (s : State) (n : Nat) (f : TrsInput → TrsInput) : (s.setInput n f).jst = s.jst := rfl
@[simp] theorem State.setInput_jnl (s : State) (n : Nat) (f : TrsInput → TrsInput) : (s.setInput n f).jnl = s.jnl := rfl
@[simp] theorem State.setInput_lbk (s : State) (n : Nat) (f : TrsInput → TrsInput) : (s.setInput n f).lbk = s.lbk := rfl
@[simp] theorem State.setInput_wfp (s : State) (n : Nat) (f : TrsInput → TrsInput) : (s.setInput n f).wfp = s.wfp := rfl
@[simp] theorem State.setInput_dog (s : State) (n : Nat) (f : TrsInput → TrsInput) : (s.setInput n f).dog = s.dog := rfl
@[simp] theorem State.setInput_sil (s : State) (n : Nat) (f : TrsInput → TrsInput) : (s.setInput n f).sil = s.sil := rfl
@[simp] theorem State.setInput_thm (s : State) (n : Nat) (f : TrsInput → TrsInput) : (s.setInput n f).thm = s.thm := rfl
@[simp] theorem State.setInput_plb (s : State) (n : Nat) (f : TrsInput → TrsInput) : (s.setInput n f).plb = s.plb := rfl
@[simp] theorem State.setInput_hif (s : State) (n : Nat) (f : TrsInput → TrsInput) : (s.setInput n f).hif = s.hif := rfl
@[simp] theorem State.setInput_dwl (s : State) (n : Nat) (f : TrsInput → TrsInput) : (s.setInput n f).dwl = s.dwl := rfl
@[simp] theorem State.setInput_fwu (s : State) (n : Nat) (f : TrsInput → TrsInput) : (s.setInput n f).fwu = s.fwu := rfl
@[simp] theorem State.setInput_flt (s : State) (n : Nat) (f : TrsInput → TrsInput) : (s.setInput n f).flt = s.flt := rfl
@[simp] theorem State.setInput_hbm (s : State) (n : Nat) (f : TrsInput → TrsInput) : (s.setInput n f).hbm = s.hbm := rfl
@[simp] theorem State.setInput_flash (s : State) (n : Nat) (f : TrsInput → TrsInput) : (s.setInput n f).flash = s.flash := rfl
@[simp] theorem State.setInput_out (s : State) (n : Nat) (f : TrsInput → TrsInput) : (s.setInput n f).out = s.out := rfl
@[simp] theorem State.setInput_fresh (s : State) (n : Nat) (f : TrsInput → TrsInput) : (s.setInput n f).fresh = s.fresh := rfl
@[simp] theorem State.setInput_pending (s : State) (n : Nat) (f : TrsInput → TrsInput) : (s.setInput n f).pending = s.pending := rfl
@[simp] theorem State.setInput_rd (s : State) (n : Nat) (f : TrsInput → TrsInput) (g : Fld) : (s.setInput n f).rd g = s.rd g := rfl

end Sys2Proof.Machine
end

