-- ==== Sys2Proof/Laws/Regs.lean ====
section
/-!
SUPPORT. Reading a register field after each operation on registers: the field written holds the value cut to its width, every
other field is as before; reports, flags and the summary message leave all fields alone but those named.
-/
namespace Sys2Proof.Machine

/-- A register field after a write. -/
theorem State.rd_wr (s : State) (f g : Fld) (v : Nat) :
    (s.wr f v).rd g = if g.key = f.key then v % 2 ^ f.width else s.rd g := by
  unfold State.rd State.wr
  split
  · next h => rw [h]; exact mapGet_set_same _ _ _ _
  · next h => exact mapGet_set_ne _ _ _ _ _ _ h

theorem State.rd_wr_same (s : State) (f : Fld) (v : Nat) : (s.wr f v).rd f = v % 2 ^ f.width := by simp [State.rd_wr]

theorem State.rd_wr_ne (s : State) (f g : Fld) (v : Nat) (h : g.key ≠ f.key) : (s.wr f v).rd g = s.rd g := by
  simp [State.rd_wr, h]

theorem State.rd_flag (s : State) (f g : Fld) :
    (s.flag f).rd g = if g.key = f.key then 1 % 2 ^ f.width else s.rd g := State.rd_wr s f g 1

theorem State.rd_wrB (s : State) (f g : Fld) (b : Bool) :
    (s.wrB f b).rd g = if g.key = f.key then b.toNat % 2 ^ f.width else s.rd g := State.rd_wr s f g _

theorem State.rd_bump (s : State) (f g : Fld) (n : Nat) :
    (s.bump f n).rd g = if g.key = f.key then min (s.rd f + n) (2 ^ f.width - 1) % 2 ^ f.width else s.rd g :=
  State.rd_wr s f g _

theorem State.rd_count (s : State) (f g : Fld) (n : Nat) :
    (s.count f n).rd g = if g.key = f.key then (s.rd f + n) % 2 ^ f.width else s.rd g := State.rd_wr s f g _

/-- What an operation that changes only the parts of a mask leaves of a register field. -/
theorem Only.rd {m : Nat} {s t : State} (h : Only m s t) (f : Fld) (hb : m.testBit (blk f.key) = false) : t.rd f = s.rd f :=
  h.reg f.key hb

/-- The summary message touches GLB_INTCTL.ARMED and the MSI-X pending bits alone. -/
theorem State.settle_rd (s : State) (f : Fld) (h1 : f.key ≠ R.GLB_INTCTL_ARMED.key) (h2 : f.key < 32768000 ∨ 32770048 ≤ f.key) :
    s.settle.rd f = s.rd f := by
  refine (State.settle_only s).rd f ?_
  have h3 : blk f.key ≠ 24 ∧ blk f.key ≠ 25 ∧ blk f.key ≠ 54 := by
    unfold blk
    rw [if_neg h1, if_neg (by omega)]
    split
    · omega
    · split <;> omega
  have h4 : blk f.key ≤ 26 := blk_le _
  generalize blk f.key = i at h3 h4
  interval_cases i <;> first | decide | omega

/-- A report touches the report FIFO, or the overflow count and flag, of the fault log unit. -/
theorem State.report_rd (s : State) (src code sev unit : Nat) (d : BitVec 64) (f : Fld)
    (h1 : f.key ≠ R.FLT_OVERFLOW_CNT.key) (h2 : f.key ≠ R.FLT_INTSTAT_OVERFLOW.key) :
    (s.report src code sev unit d).rd f = s.rd f := by
  unfold State.report
  split
  · rfl
  · rw [State.rd_flag, if_neg h2, State.rd_bump, if_neg h1]; rfl

theorem State.reportFree_rd (s : State) (src code sev unit : Nat) (f : Fld)
    (h1 : f.key ≠ R.FLT_OVERFLOW_CNT.key) (h2 : f.key ≠ R.FLT_INTSTAT_OVERFLOW.key) :
    (s.reportFree src code sev unit).rd f = s.rd f := State.report_rd _ _ _ _ _ _ _ h1 h2

/-- A fault sets its flag. -/
theorem State.fault_rd (s : State) (f g : Fld) (sev unit : Nat)
    (h1 : g.key ≠ R.FLT_OVERFLOW_CNT.key) (h2 : g.key ≠ R.FLT_INTSTAT_OVERFLOW.key) :
    (s.fault f sev unit).rd g = if g.key = f.key then 1 % 2 ^ f.width else s.rd g := by
  unfold State.fault
  rw [State.reportFree_rd _ _ _ _ _ _ h1 h2, State.rd_flag]

theorem State.refuse_rd (s : State) (f g : Fld)
    (h1 : g.key ≠ R.FLT_OVERFLOW_CNT.key) (h2 : g.key ≠ R.FLT_INTSTAT_OVERFLOW.key) :
    (s.refuse f).rd g = if g.key = f.key then 1 % 2 ^ f.width else s.rd g := State.fault_rd _ _ _ _ _ h1 h2

end Sys2Proof.Machine
end

