-- ==== Sys2Proof/Laws/Stage.lean ====
section
/-!
SUPPORT. What a start-up line and the entry to a stage leave in GLB_STATUS, and what the two resets leave in the registers.
-/
namespace Sys2Proof.Machine

theorem State.stageLine_rd (s : State) (n c d : Nat) (g : Fld)
    (h1 : g.key ≠ R.FLT_OVERFLOW_CNT.key) (h2 : g.key ≠ R.FLT_INTSTAT_OVERFLOW.key) :
    (s.stageLine n c d).rd g = if g.key = R.GLB_STATUS_DETAIL.key then d % 256 else if g.key = R.GLB_STATUS_CAUSE.key then c % 256
      else if g.key = R.GLB_STATUS_STAGE.key then n % 256 else s.rd g := by
  unfold State.stageLine
  dsimp only
  split
  · rw [State.report_rd _ _ _ _ _ _ _ h1 h2]; simp only [State.emit_rd, State.rd_wr]; rfl
  · simp only [State.emit_rd, State.rd_wr]; rfl

theorem State.enterStage_rd (s : State) (n : Nat) (g : Fld) (h1 : g.key ≠ R.FLT_OVERFLOW_CNT.key)
    (h2 : g.key ≠ R.FLT_INTSTAT_OVERFLOW.key) (h3 : g.key ≠ R.GLB_INTSTAT_STAGECHG.key) :
    (s.enterStage n).rd g = if g.key = R.GLB_STATUS_DETAIL.key then 0 else if g.key = R.GLB_STATUS_CAUSE.key then 0
      else if g.key = R.GLB_STATUS_STAGE.key then n % 256 else s.rd g := by
  unfold State.enterStage
  dsimp only
  split
  · rw [State.rd_flag, if_neg h3, State.stageLine_rd _ _ _ _ _ h1 h2]; rfl
  · rw [State.stageLine_rd _ _ _ _ _ h1 h2]; rfl

/-- Entry to a stage shows it with cause 0. -/
theorem State.enterStage_shows (s : State) (n : Nat) (h : n < 256) :
    (s.enterStage n).rd R.GLB_STATUS_STAGE = n ∧ (s.enterStage n).rd R.GLB_STATUS_CAUSE = 0 := by
  constructor
  · rw [State.enterStage_rd _ _ _ (by decide) (by decide) (by decide), if_neg (by decide), if_neg (by decide), if_pos rfl,
      Nat.mod_eq_of_lt h]
  · rw [State.enterStage_rd _ _ _ (by decide) (by decide) (by decide), if_neg (by decide), if_pos rfl]

theorem State.stall_rd (s : State) (c d : Nat) (g : Fld)
    (h1 : g.key ≠ R.FLT_OVERFLOW_CNT.key) (h2 : g.key ≠ R.FLT_INTSTAT_OVERFLOW.key) :
    (s.stall c d).rd g = if g.key = R.GLB_STATUS_DETAIL.key then d % 256 else if g.key = R.GLB_STATUS_CAUSE.key then c % 256
      else if g.key = R.GLB_STATUS_STAGE.key then s.stage % 256 else s.rd g :=
  State.stageLine_rd s s.stage c d g h1 h2

/-- A lookup in a map of which only some keys have been kept. -/
theorem State.mapGet_filter_key (d : Nat) (l : List (Nat × Nat)) (p : Nat → Bool) (k : Nat) :
    mapGet d (l.filter (fun e => p e.1)) k = if p k then mapGet d l k else d := by
  induction l with
  | nil => simp [mapGet]
  | cons a r ih =>
    obtain ⟨k', v⟩ := a
    by_cases hk : k' = k
    · subst hk
      by_cases hp : p k' = true
      · simp [hp, mapGet]
      · have hp' : p k' = false := by simpa using hp
        simp only [List.filter_cons, hp', Bool.false_eq_true, if_false] at ih ⊢
        simpa [hp'] using ih
    · by_cases hp : p k' = true
      · simp [hp, mapGet, hk, ih]
      · simp [hp, mapGet, hk, ih]

/-- A full reset keeps a register field that survives, and puts any other back to its reset value (R48, R479). -/
theorem State.resetBlocks_rd (s : State) (f : Fld) :
    s.resetBlocks.rd f = if survives f.key then s.rd f else regReset f.key := by
  have h : s.cutFlash.regs = s.regs := by unfold State.cutFlash; split <;> rfl
  show mapGet (regReset f.key) (s.cutFlash.regs.filter (fun p => survives p.1)) f.key = _
  rw [h, State.mapGet_filter_key]; rfl

end Sys2Proof.Machine
end

