-- ==== Sys2Proof/WellFormed.lean ====
section
/-!
DEFINITION. Which commands are well formed: the limits that the spec puts on an operand and that its type does not
already hold. An ill-formed command stands for an event that no source of the spec can send.
-/
namespace Sys2Proof

/-- A report frame carries 1 to 6 fire reports (R116). -/
def wfReports (l : List FireReport) : Bool := decide (1 ≤ l.length) && decide (l.length ≤ 6)

/-- The frame payload bound of R413: at most 240 bytes behind the 9 header bytes and before the 4 CRC bytes. -/
def wfTie (f : TieBytes) : Bool := decide (13 ≤ f.bytes.length) && decide (f.bytes.length ≤ 253)

/-- The well-formedness check of a command. -/
def Instr.wf : Instr → Bool
  | .report _ reps => wfReports reps
  | .trainingComplete _ tries => decide (tries.length = 16)
  | .hello _ f => wfTie f
  | .syncdata _ f => wfTie f
  | .frameann _ f => wfTie f
  | .codebook _ f => wfTie f
  | .roundTick temps _ => decide (temps.length = 28)
  | .commit _ _ w => decide (w.recs.length ≤ 4)
  | .registerRead _ n => decide (1 ≤ n.toNat) && decide (n.toNat ≤ 8)
  | .pornNLow .. | .powerOnReset .. | .powerLoss .. | .fullrstNFall .. | .perstNFall .. | .perstNRise .. | .pcieFlr ..
  | .hotReset .. | .glbRst .. | .logicRelease .. | .trussTest .. | .clock .. | .romStart .. | .hbmTrain .. | .image ..
  | .settings .. | .hostLink .. | .joist .. | .rings .. | .spin .. | .calibrate .. | .arm .. | .stallLine .. | .ocxoRdyRise ..
  | .ocxoRdyFall .. | .holdElapsed .. | .ppsEdge .. | .ppsLoss .. | .clkTimeloRead .. | .clkTbcfgWrite .. | .pllLockLoss ..
  | .pllRelock .. | .spindleSample .. | .speedCapture .. | .splockSet .. | .blendEnd .. | .followingErrorTrip ..
  | .scanStateSample .. | .encoderEdge .. | .indexEdge .. | .indexMissing .. | .spinUpTimeout .. | .retainedStateCopy ..
  | .tiltSample .. | .tiltSampleReady .. | .tlsens .. | .spindleModeRequest .. | .tiltModeRequest .. | .tnnSpcfgWrite ..
  | .spindleSwap .. | .tiltSwap .. | .injectionStart .. | .injectionStop .. | .injectionEnd .. | .captureStart .. | .capdone ..
  | .fireSubmission .. | .fireTransmit .. | .grant .. | .driverSilent .. | .status .. | .readdata .. | .alarm .. | .echoR ..
  | .unreported .. | .hushgenRepeat .. | .hushWithdrawal .. | .echoCheck .. | .recal .. | .ringenWrite .. | .proofPulse ..
  | .opticalDark .. | .frameBoundary .. | .planStep .. | .planStepRetry .. | .tagexh .. | .leadingEdge .. | .trailingEdge ..
  | .widthSaturation .. | .eventWordDelivery .. | .pulserEdge .. | .stuck .. | .stuckRelease .. | .fast .. | .rel ..
  | .tdcfail .. | .shadowPeriodEnd .. | .spareMove .. | .spareTakeover .. | .gaugeEdge .. | .gaugeOverflow .. | .gaugedone ..
  | .gaugeArm .. | .gaugeAbort .. | .krfGtsloRead .. | .scoutEnd .. | .retroactiveFill .. | .windowClose .. | .markerCommit ..
  | .engineFault .. | .budgetExpiry .. | .engineRetest .. | .clusterSubstitution .. | .jstSubcmdGo .. | .programBankWrite ..
  | .demotion .. | .targetEvaluation .. | .lookbackFrameCommit .. | .abandon .. | .converterReady .. | .wfpPaircfgWrite ..
  | .hsrcWrite .. | .corswap .. | .correctionSwapApplied .. | .fswap .. | .mswap .. | .filterSwapApplied .. | .gateOpen ..
  | .gateClose .. | .edgeTrigger .. | .shotTrigger .. | .autoTrigger .. | .dogArm .. | .force .. | .dogStop ..
  | .captureComplete .. | .drainDelivery .. | .drainLevelTick .. | .trsKey .. | .keyWindowExpiry .. | .keySequenceExpiry ..
  | .darkreq .. | .armChecks .. | .supplyFault .. | .clockFault .. | .clockFaultClear .. | .heartbeat .. | .heartbeatMissing ..
  | .mgmtTakeover .. | .coreTest .. | .readback .. | .hushNotConfirmed .. | .knownAnswerCheck .. | .trussScrub ..
  | .lockstepMismatch .. | .rootWatchdog .. | .bucketRollover .. | .inputSample .. | .inputLevelAccepted .. | .discrepancy ..
  | .offPulse .. | .feedbackCheck .. | .sresetNRise .. | .sresetNStuck .. | .limpRecovery .. | .limpWindowExpiry .. | .budload ..
  | .budswap .. | .throttleStepDown .. | .sensfail .. | .slotResult .. | .silSwap .. | .refenWrite .. | .refrdy .. | .refloss ..
  | .pinClamp .. | .calibrationRun .. | .calibrationPeriod .. | .plbCmdCd .. | .plbCmdWf .. | .plbCmdHk .. | .plbCmdLane ..
  | .plbCmdSave .. | .codeDensityDone .. | .codeDensityTimeout .. | .interleaveRunDone .. | .rznoref .. | .quiet ..
  | .laneAdaptPeriod .. | .savePeriod .. | .queueDoorbell .. | .commandDoorbell .. | .bulkDoorbell .. | .nop .. | .scanStart ..
  | .scanStop .. | .timeSet .. | .epochCommit .. | .epochCommitExecution .. | .epochEffective .. | .tableLoad .. | .progLoad ..
  | .pose .. | .queueCreate .. | .queueResume .. | .queueClose .. | .queueFilter .. | .fwStage .. | .fwConfirm .. | .fwLive ..
  | .liveClusterStep .. | .settingsSave .. | .subscriberDelivery .. | .headWordPoll .. | .interruptCoalesce ..
  | .descriptorComplete .. | .abort .. | .runClear .. | .wedge .. | .linkDown .. | .linkUp .. | .busMasterDisable ..
  | .lathDrop .. | .pcieLaneRemove .. | .receiverLock .. | .lockLoss .. | .autopol .. | .trainingRetry .. | .train ..
  | .backgroundTrim .. | .fomlow .. | .helloSend .. | .syncSend .. | .sync .. | .boundaryFix .. | .ack .. | .nak ..
  | .retryTimeout .. | .dwlPtestWrite .. | .begin .. | .chunk .. | .recoveryCommit .. | .recoveryReset .. | .eraseset ..
  | .baud .. | .progsigSet .. | .patrolScrub .. | .hbmRowSpare .. | .faultReport .. | .entryFlush .. | .fltRdseqhiWrite ..
  | .injectSymbolError .. | .injectTwoSymbolError .. | .injectEngineFault .. | .injectClusterFault .. | .injectTdcFail ..
  | .injectPllLoss .. | .injectHeartbeatStop .. | .injectLaneErrors .. | .injectLathError .. | .injectRingIdle .. | .injlock ..
  | .glbIntctlArm .. | .registerWrite .. | .configurationRequest .. | .supplyClear .. | .returnedFrame ..
  | .converterOverRange .. | .poselate .. | .darkNRelease .. | .tieUnitUnheard .. | .fwStageDone .. | .jtagAccess .. => true

end Sys2Proof
end

