-- ==== Sys2Proof/Tests/Slice0.lean ====
section
/-!
SUPPORT. The model's own tests: the well-formedness checks, single steps on small states with results read from the spec, and for
every clause of a statement that has hypotheses a state and operands that meet all of them.
-/
namespace Sys2Proof.Machine

set_option Elab.async false

/-! ### Builders of small states -/

/-- A state in which start-up stands at a stage. -/
def standAt (n : Nat) (s : State) : State :=
  (s.wr R.GLB_STATUS_STAGE n).onBoot (fun b =>
    { b with inReset := false, pornLow := false, powered := true, ended := false, gated := false })

/-- A state in which the host link is up and the host has every right on the register blocks. -/
def hostOn (s : State) : State :=
  (((List.range 25).foldl (fun t i => t.wr (R.GRT_RIGHTS_RIGHTS (64 + i)) 0xFFFFF) (s.wr R.HIF_STATUS_SPEED 3)).onBoot (fun b =>
    { b with linked := true, inReset := false, pornLow := false, powered := true, gated := false })).onHif (fun h =>
      { h with memOn := true, busOn := true, d3 := false }) |>.onFwu (fun f => { f with recovery := false })

/-- A state whose sensors show no heat. -/
def cool (s : State) : State := (List.range 28).foldl (fun t k => t.wr (R.THM_SENS_VALID k) 0) s

/-- A state whose flash holds a boot header. -/
def headed (s : State) : State := s.putHead { hseq := 1, active := false, state := 0, tries := 0, verAct := 1, verOth := 0 }

/-- A state whose tilt bank passes the checks of R81. -/
def tlGood (b : Nat) (s : State) : State :=
  ((List.range 64).foldl (fun t i => t.wr (R.TNN_TL_FRIC b i) 0) ((List.range 4).foldl (fun t i => t.wr (R.TNN_TL_PROF b i) 0)
    ([R.TNN_TL_KP b, R.TNN_TL_KI b, R.TNN_TL_KD b, R.TNN_TL_TF b, R.TNN_TL_IMIN b, R.TNN_TL_IMAX b, R.TNN_TL_UMIN b].foldl
      (fun t f => t.wr f 0) s))).wr (R.TNN_TL_UMAX b) 0x3F800000 |>.wr (R.TNN_TL_FELIM b) 0x3F800000 |>.wr (R.TNN_TL_FETIME b) 100

/-- A state whose spindle bank passes the checks of R81. -/
def spGood (b : Nat) (s : State) : State :=
  ((List.range 4).foldl (fun t i => t.wr (R.TNN_SP_FRIC b i) 0) ((List.range 4).foldl (fun t i => t.wr (R.TNN_SP_COG b i) 0)
    ([R.TNN_SP_SKP b, R.TNN_SP_SKI b, R.TNN_SP_SKD b, R.TNN_SP_STF b, R.TNN_SP_SIMIN b, R.TNN_SP_SIMAX b, R.TNN_SP_UMIN b, R.TNN_SP_PKP b,
      R.TNN_SP_PKI b, R.TNN_SP_PKD b, R.TNN_SP_PTF b, R.TNN_SP_PIMIN b, R.TNN_SP_PIMAX b, R.TNN_SP_RAMP b].foldl
      (fun t f => t.wr f 0) s))).wr (R.TNN_SP_UMAX b) 0x3F800000 |>.wr (R.TNN_SP_FELIM b) 0x3F800000
        |>.wr (R.TNN_SP_LOCKWIN b) 0x3F800000 |>.wr (R.TNN_SP_FETIME b) 100

/-- A state of Truss in which light is permitted. -/
def lit (s : State) : State :=
  ((List.range 8).foldl (fun t k => t.wr (R.TRS_INCFG_DARK k) 0) ((s.wr R.TRS_STATE_STATE 1).wr R.TNN_STATUS_SCANVALID 1)).onTrs
    (fun t => { t with darkHold := false, resetHold := false, wdog := false })

/-- A state of Truss in which every ARM check passes. -/
def armable (s : State) : State :=
  { ((((((((((s.wr R.TRS_STATE_STATE 3).wr R.TRS_SUPSTAT_INWIN 0xFFFF).wr R.TRS_EXPCFG_ABSDIR 0).wr R.TRS_GEOM_FACETS 6).wr
      R.TNN_SPCFG_FACETS 6).wr R.TRS_GEOM_HALFW 9).wr R.TNN_DEADCFG_HALFW 9).wr R.TRS_DEADOFS_DEADOFS 0).wr
      R.TNN_DEADOFS_DEADOFS 0).wr R.TRS_OPCFG_OPW 100).wr R.TRS_FBDLY_FBDLY 10 |>.wr R.TRS_STATE_DARKPIN 0 |>.wr R.TRS_BUDCFG_ACTBANK 0 with
    hbm := [],
    trs := { s.trs with armDue := .release, darkBad := 0, fbBad := [], bankA := { ndir := 1, entries :=
      [{ pulseMax := 1, lim1 := 1, lim2 := 1, valid := true, absorb := true }] } } }

/-- A budget entry as it lies in HBM (R298). -/
def budgetBytes : List Byte :=
  let b := leBytes 4 100 ++ leBytes 4 1000 ++ leBytes 4 2000 ++ leBytes 2 3
  b ++ leBytes 2 (crc16 b).toNat

/-- A state in which driver 0 may plan a gang of one shot on channel 5. -/
def planner (s : State) : State :=
  let c : EpochCfg := { period := 10000000, gmin := 400, gspan := 200, crossMax := 4, azSh := 0, az0 := 0, azGain := 0, tiltScale := 0x3F800000#32,
                        elMin := 0, elStep := 0x3F800000#32, pfa := 0, lpfa := 0, nmin := 0, binMin := 0, sep := 0, nwin := 0, nearFirst := false,
                        zoneSel := [], sightAddr := 0x1000, rowAddr := 0x2000, planAddr := 0x3000, progSet := 0 }
  let e := leBytes 2 1029 ++ List.replicate 12 (0 : Byte)
  let m := storeBytes 0 (storeBytes 0 [] 0x1000 (e ++ leBytes 2 (crc16 e).toNat)) 0x3000 (leBytes 4 (1 * 8 + 100 * 512))
  let u := [R.BTN_RBLANK_BLANK 0, R.BTN_RAUTO_AUTO 0, R.BTN_EMFAIL_FAIL 0, R.BTN_DID_ROWSM1 0, R.PEG_FOREIGN_CH 0, R.PEG_CTL_TIEJOINT,
    R.PEG_CTL_LISTENEN, R.TNN_DEADCFG_HALFW, R.BTN_CTL_REFCHK, R.THM_STATUS_LEVEL].foldl (fun t f => t.wr f 0) s
  let v := [R.TNN_STATUS_SCANVALID, R.BTN_CTL_RINGEN, R.BTN_STATUS_RINGUP, R.BTN_DID_PRESENT 0, R.BTN_CTL_PROOFEN, R.BTN_PROOFCFG_EVERY].foldl
    (fun t f => t.wr f 1) u
  { v with hbm := m, clk := { s.clk with ticks := 1000 }, trs := { s.trs with hushReq := false },
           tnn := { s.tnn with smpTilt := 0x3F800000#32 },
           btn := { s.btn with drivers := [], fires := [], readmit := [], windows := [{ start := 1000000, stop := 5000000, number := 0 }] },
           peg := { s.peg with scanning := true, clockOn := true, epochLsb := 0, period := 10000000, epochs := [(0, c)], active := 0, drivers := [],
                               bursts := [], tags := [0, 2], lastOpen := [] },
           thm := { s.thm with lvlL := 0, lvlH := 0, shut := false }, jst := { s.jst with bookings := [] } }


/-- An open scan burst of four shots on channel 5 whose sieve has not run. -/
def aBurst : Burst :=
  { num := 7, kind := .scan, stage := .open, slot := true, booked := true, channel := 5, driver := 0, row := 0, col := 0, az := 3, elev := 0, zone := 0, epoch := 0, frame := 0,
    k := 4, s := 2, tags := [1], fires := [0, 500, 1100, 1700], epoch0 := 1000, closeLsb := 526988, void := 0, coarse := [], windows := [],
    sieved := false, placed := none, svScout := 0, lam := 0, thr := 0, npos := 0, cands := [], ndrop := 0, foreign := false, spare := false,
    limiter := false, rerun := false, spareCl := false, filled := false, dz := 0, cal := 0, calRamp := false, rflags := 0, closeT := 0, engine := none }

/-- A state with one burst and nothing else under way. -/
def bursting (b : Burst) (s : State) : State :=
  { s with peg := { s.peg with bursts := [b], tags := [1] }, boot := { s.boot with linked := false }, jnl := { s.jnl with handed := [], markers := [] },
           jst := { s.jst with engines := [], bookings := [{ cluster := 0, burst := 7, start := 0, stop := 1 }], subFor := none, subAt := none },
           flt := { s.flt with injEngines := [] }, lbk := { s.lbk with frames := [] }, btn := { s.btn with fires := [] } }

/-- A state whose set of programs is a host-supplied one. -/
def hostSet (s : State) : State :=
  { s with jst := { s.jst with sets := [{ num := (s.epochCfg 0).progSet, standard := false, ident := 9, slots := [(0, 300)], image := [] }] } }

/-- A waiting column of burst 4. -/
def lbkCol0 : Column :=
  { burst := 4, channel := 5, az := 3, elev := 0, azSh := 0, elMin := 0, elStep := 0, sv := 2, lam := 0, closeLsb := 500, closeT := 2000, codes := [],
    flags := 0, ranges := [], done := 0 }

/-- A pose sample at rest. -/
def lbkPose0 : Pose := { time := 1000, x := 0, y := 0, z := 0, qw := 0x3F800000#32, qx := 0, qy := 0, qz := 0, valid := true }

/-- A frame slot with one waiting column and two samples. -/
def lbkFrame0 : LbkFrame :=
  { num := 3, epochT := 100, cfg := { wpfa := 1, wmin := 1, minfr := 2, maxpt := 1, cover := 0, gapmax := 10, latemax := 10 }, cols := [lbkCol0],
    poses := [lbkPose0, { lbkPose0 with time := 3000 }], kept := [], absent := false, late := false, sent := false, endAt := none, failed := false }

/-- A state whose lookback integrator waits for one target. -/
def lbkState (s : State) : State :=
  { (s.wr R.LBK_CTL_EN 1).wr R.LBK_STATUS_NFR 3 with
    lbk := { s.lbk with frames := [lbkFrame0], lastPose := some 3000 }, peg := { s.peg with bursts := [] }, jnl := { s.jnl with handed := [] } }

/-- A command entry: identity, opcode, parameter and payload from byte 16 on. -/
def entry (cid op param : Nat) (payload : Nat) : BitVec 512 := BitVec.ofNat 512 (cid + op * 2 ^ 64 + param * 2 ^ 80 + payload * 2 ^ 128)

/-- A state with one entry on a command ring that runs. -/
def ringed (r : Nat) (e : BitVec 512) (s : State) : State :=
  { (((hostOn s).wr (R.HIF_CRCFG_EN r) 1).wr (R.HIF_CRSTAT_WEDGED r) 0).setCmdRing r (fun _ => { CmdRing.zero with fetched := [e] }) with
    jst := { s.jst with loadRing := none, waiting := none }, fwu := { s.fwu with recovery := false, job := none, live := none } }.onHif (fun h =>
      { h with queues := [], waitCommit := none, accepted := none, staged := [] })

/-- A state whose window 0 spans all of HBM, with every right for every master. -/
def openGirt (s : State) : State :=
  { (((s.wr (R.GRT_WINBASE_EN 0) 1).wr (R.GRT_WINBASE_BASE 0) 0).wr (R.GRT_WINLAST_LAST 0) 49151).wr (R.GRT_RIGHTS_RIGHTS 0) 0xFFFFF with
    fwu := { s.fwu with alloc := .default } }

/-- An open queue with one buffer of 4,096 bytes. -/
def aQueue : SubQueue :=
  { best := false, channel := 2, vector := 40, coalCnt := 1, coalNs := 1000, cqBase := 0x10000, cqLog2 := 4, brBase := 0x20000, brLog2 := 4,
    cqHead := 0x30000, filter := List.replicate 32 0, consumed := 0, scan := 1, delivered := 0, passed := [], pi := 1,
    bufs := [{ addr := 0x40000, len := 4096, id := 6, bad := false }], offset := 0, written := 0, seen := 0, armed := false, sinceArm := 0,
    skipped := 0, owed := 0, notes := [], closing := none }

/-- A state with one open queue, number 9. -/
def queued (x : SubQueue) (s : State) : State :=
  ((hostOn s).wr (R.HIF_QSTATE_STATE 9) 1).onHif (fun h => { h with queues := [(9, x)], rr := [], waitCommit := none })

/-- A good queue block: rings of 16 entries, reliable, channel 2, vector 40, every field 0 where it may be. -/
def aBlock : BitVec 1024 := BitVec.ofNat 1024 (0x10000 + 2 ^ 64 * 4 + 2 ^ 72 * 4 + 2 ^ 88 * 2 + 2 ^ 96 * 40 + 2 ^ 128 * 0x20000 + 2 ^ 320 * 0x30000)

/-- A state whose filter bank `k` passes the checks of R270. -/
def bankGood (k : Nat) (s : State) : State :=
  [R.WFP_BANK_DLOG k, R.WFP_BANK_RSV0 k, R.WFP_BANK_RSV1 k, R.WFP_BANK_RSVC k 0, R.WFP_BANK_RSVC k 1, R.WFP_BANK_SYM k].foldl (fun t f => t.wr f 0)
    (s.wr (R.WFP_BANK_NTAPS k) 2)

/-- A state whose Dog unit 3 takes triggers. -/
def ready3 (s : State) : State :=
  { ((((((s.wr R.DOG_CTL_EN 1).wr (R.DOG_USTAT_ARMED 3) 1).wr R.DOG_CTL_RINGMODE 0).wr R.DOG_STATUS_RLVL 0).wr (R.DOG_ULEN_LEN 3) 64).wr (R.DOG_UPRE_PRE 3) 0) with
    dog := { s.dog with units := [], ring := [], tail := 0, nextSeq := 6 }, fwu := { s.fwu with alloc := .default } }

/-- A transmitted fire of driver 7. -/
def aSentFire : Fire :=
  { driver := 7, tag := 5, row := 224, proof := false, time := 4000, ec := 0, mask := 0, cur := 0, width := 0, epoch := 0, shot := 0, cols := [],
    stage := .sent }

/-- A state in which injections may act. -/
def inj0 (s : State) : State := (s.wr R.TRS_STATE_KEYOPEN 1).wr R.FLT_CTL_INJLOCK 0

/-- The bytes of a tie frame (R413). -/
def frameBytes (typ orig dest lseq oseq : Nat) (payload : List Byte) : List Byte :=
  let b := leBytes 1 typ ++ leBytes 1 orig ++ leBytes 1 dest ++ leBytes 1 0 ++ leBytes 2 lseq ++ leBytes 2 oseq ++ leBytes 1 payload.length ++ payload
  b ++ leBytes 4 (crc32c b).toNat

/-- A state of unit 3 of a tie network whose link 1 is up and heard by the master's neighbour. -/
def tieState (s : State) : State :=
  { (((((s.wr R.DWL_TIECFG_TIEEN 1).wr R.DWL_TIECFG_INDEX 3).wr R.DWL_TIESTAT_DUPIDX 0).wr R.DWL_STATUS_UP 0x20000).wr R.DWL_TIECFG_LINKEN 2).wr
      (R.DWL_PTEST_MODE 17) 0 with
    dwl := { s.dwl with links := [(1, { TieLink.zero with up := true, nbrHops := 0 })], announced := [], seen := [] } }

/-- An outstanding frame. -/
def tieOut (n : Nat) : OutFrame := { frame := { typ := 1, orig := 3, dest := 255, hop := 0, lseq := n, oseq := n, payload := [] }, sent := 1 }

/-- A state whose bulk channel 34 runs with a record given. -/
def bulkOf (x : BulkChan) (s : State) : State :=
  ([R.PUR_CHCFG_MODE 34, R.PUR_CHCFG_OWNER 34, R.PUR_CHSTAT_WEDGED 34, R.PUR_CHSTAT_HEAD 34].foldl (fun t f => t.wr f 0)
    ((hostOn s).wr (R.PUR_CHCFG_RUN 34) 1)).setBulk 34 (fun _ => x)

/-- A state whose settings store may be written: the running image is CONFIRMED and no FW_STAGE runs. -/
def unlocked (s : State) : State := (s.wr R.FWU_STATUS_SETLOCK 0).wr R.FWU_STATUS_STAGEBUSY 0

/-- An image whose header reads as erased flash does. -/
def blankImage : Image := { header := List.replicate 0x360 0xFF, payload := [] }

/-- A state that runs `blankImage` from slot A, whose boot header says TRIAL. -/
def onTrial (s : State) : State :=
  ((s.putHead { hseq := 1, active := false, state := 1, tries := 2, verAct := 0xFFFFFFFF, verOth := 5 }).onFwu (fun f =>
    { f with running := some blankImage, staged := some blankImage, truss := [] })).wr R.FWU_STATUS_IMGSTATE 1

/-- A state in recovery mode with a receipt given. -/
def recovering (x : Option Receipt) (s : State) : State := s.onFwu (fun f => { f with recovery := true, receipt := x })

/-- A change of the Joist part. -/
def joisted (f : JstState → JstState) (s : State) : State := { s with jst := f s.jst }

/-! ### Well-formedness: an ill-formed command for each check -/

/-- A fire report of no consequence. -/
def fireRep0 : FireReport := { tag := 0, row := 0, result := 0, ftime := 0, cmask := 0 }

theorem test_wf_report_empty : (Instr.report ⟨0, { useq := 0, sound := true, reserved := false }⟩ []).wf = false := by decide
theorem test_wf_report_seven : (Instr.report ⟨0, { useq := 0, sound := true, reserved := false }⟩ (List.replicate 7 fireRep0)).wf = false := by decide
theorem test_wf_report_six : (Instr.report ⟨0, { useq := 0, sound := true, reserved := false }⟩ (List.replicate 6 fireRep0)).wf = true := by decide
theorem test_wf_training_tries : (Instr.trainingComplete 3 [(0, 0)]).wf = false := by decide
theorem test_wf_hello_short : (Instr.hello 1 { bytes := List.replicate 12 0 }).wf = false := by decide
theorem test_wf_syncdata_long : (Instr.syncdata 1 { bytes := List.replicate 254 0 }).wf = false := by decide +kernel
theorem test_wf_frameann_short : (Instr.frameann 1 { bytes := [] }).wf = false := by decide
theorem test_wf_codebook_short : (Instr.codebook 1 { bytes := [1] }).wf = false := by decide
theorem test_wf_round_sensors : (Instr.roundTick (List.replicate 27 0) 0).wf = false := by decide
theorem test_wf_commit_records : (Instr.commit 7 0 ⟨List.replicate 5 0, []⟩).wf = false := by decide
theorem test_wf_read_nothing : (Instr.registerRead 0x40 0).wf = false := by decide
theorem test_wf_read_nine : (Instr.registerRead 0x40 9).wf = false := by decide

/-! ### Single steps; each expected value is read from the rule named -/

/-- A register field after one step, or 2^64 where the step stops. -/
def after (s : State) (c : Instr) (f : Fld) : Nat :=
  match step { s with pending := [c] } with | .next t => t.rd f | _ => 2 ^ 64

/-- R12, R474: a write takes the word; a W1C flag clears where a 1 is written. -/
theorem test_scratch_takes_the_word : after (hostOn State.reset) (.registerWrite 0x40 0x0F 0x89ABCDEF) R.GLB_SCRATCH_DATA = 0x89ABCDEF := by
  decide +kernel
/-- R474: the upper half of an aligned 64-bit write goes to the upper register. -/
theorem test_upper_enables : after (hostOn State.reset) (.registerWrite 0x40 0xF0 0x89ABCDEF) R.GLB_SCRATCH_DATA = 0 := by decide +kernel
/-- R474: a write with two byte enables is discarded and counted. -/
theorem test_partial_write_counted : after (hostOn State.reset) (.registerWrite 0x40 0x03 7) R.GLB_ACCERR_BADACC = 1 := by decide +kernel
/-- R482: a wrong key starts no reset. -/
theorem test_wrong_key : after (hostOn State.reset) (.glbRst 0x46554C4D) R.GLB_INTSTAT_KEYBAD = 1 := by decide +kernel
/-- R482, R483: the key starts a full reset with cause 2. -/
theorem test_key : after (hostOn State.reset) (.glbRst 0x46554C4C) R.GLB_RSTCAUSE_CAUSE = 2 := by decide +kernel
/-- R483: FULLRST_N is cause 1. -/
theorem test_fullrst : after (hostOn State.reset) .fullrstNFall R.GLB_RSTCAUSE_CAUSE = 1 := by decide +kernel
/-- R36, R58: the rise of PORN_N shows stage TRUSS_TEST. -/
theorem test_porn_rise : after State.reset (.powerOnReset 0) R.GLB_STATUS_STAGE = 1 := by decide +kernel
/-- R467: INJLOCK stays set. -/
theorem test_injlock : after State.reset .injlock R.FLT_CTL_INJLOCK = 1 := by decide +kernel
/-- R436: PROGSIG stays set. -/
theorem test_progsig : after State.reset .progsigSet R.FWU_CTL_PROGSIG = 1 := by decide +kernel
/-- R360: the flag of a group without samples. -/
theorem test_rznoref : after State.reset (.rznoref 4) R.PLB_INTSTAT_RZNOREF = 1 := by decide +kernel
/-- R466: an entry that the ring does not hold is not valid. -/
theorem test_no_entry : after (State.reset.wr R.FLT_RDSTAT_VALID 1) (.fltRdseqhiWrite 0) R.FLT_RDSTAT_VALID = 0 := by decide +kernel
/-- The opcode table gives no row any bits, so no word spells a command. -/
theorem test_no_word (n w : Nat) : decodeTableWord n w = none := rfl

/-! ### Witnesses of hypotheses that need an argument -/

/-- A reset table names no key of a range that its rows leave out. -/
theorem resetIn_zero (l : List (Nat × Nat × Nat × Nat)) (lo hi k : Nat) (h1 : lo ≤ k) (h2 : k < hi)
    (h : l.all (fun r => decide (0 < r.2.1) && (decide (hi ≤ r.1) || decide (r.1 + r.2.1 * r.2.2.1 ≤ lo))) = true) :
    resetIn l k = 0 := by
  induction l with
  | nil => rfl
  | cons a r ih =>
    obtain ⟨b, st, n, v⟩ := a
    simp only [List.all_cons, Bool.and_eq_true, Bool.or_eq_true, decide_eq_true_eq] at h
    unfold resetIn
    rw [if_neg, ih h.2]
    simp only [Bool.and_eq_true, decide_eq_true_eq, not_and, not_lt]
    rintro ⟨hb, -⟩
    rcases h.1.2 with h3 | h3
    · omega
    · exact (Nat.le_div_iff_mul_le h.1.1).2 (by rw [Nat.mul_comm]; omega)

/-- A field whose key lies in a range that neither the registers nor the reset table name reads 0. -/
theorem rd_fresh (s : State) (lo hi : Nat) (f : Fld) (h1 : lo ≤ f.key) (h2 : f.key < hi)
    (h : resetTable.all (fun r => decide (0 < r.2.1) && (decide (hi ≤ r.1) || decide (r.1 + r.2.1 * r.2.2.1 ≤ lo))) = true)
    (hr : s.regs.all (fun p => decide (p.1 < lo) || decide (hi ≤ p.1)) = true) : s.rd f = 0 := by
  have key : ∀ l : List (Nat × Nat), l.all (fun p => decide (p.1 < lo) || decide (hi ≤ p.1)) = true →
      mapGet (regReset f.key) l f.key = regReset f.key := by
    intro l hl
    induction l with
    | nil => rfl
    | cons a r ih =>
      obtain ⟨k, v⟩ := a
      simp only [List.all_cons, Bool.and_eq_true, Bool.or_eq_true, decide_eq_true_eq] at hl
      unfold mapGet
      rw [if_neg (by omega)]
      exact ih (by simpa [List.all_eq_true] using hl.2)
  unfold State.rd
  rw [key s.regs hr]
  exact resetIn_zero _ lo hi _ h1 h2 h

/-- A table of floats that nothing has written holds finite numbers. -/
theorem tableOk_fresh (s : State) (f : Nat → Fld) (n lo hi : Nat) (hf : ∀ i, lo ≤ (f i).key ∧ (f i).key < hi)
    (h : resetTable.all (fun r => decide (0 < r.2.1) && (decide (hi ≤ r.1) || decide (r.1 + r.2.1 * r.2.2.1 ≤ lo))) = true)
    (hr : s.regs.all (fun p => decide (p.1 < lo) || decide (hi ≤ p.1)) = true) : s.tableOk f n = true := by
  unfold State.tableOk
  rw [List.all_eq_true]
  intro i _
  unfold State.fr
  rw [rd_fresh s lo hi _ (hf i).1 (hf i).2 h hr]
  rfl

/-- A state with the few coefficients that make a tilt bank valid. -/
def tiltState (b : Nat) : State :=
  (((State.reset.wr (R.TNN_TL_UMAX b) 0x3F800000).wr (R.TNN_TL_FELIM b) 0x3F800000).wr (R.TNN_TL_FETIME b) 100).wr R.TNN_TLCFG_AXPIN 3

theorem tiltState_ok (b : Nat) (hb : b < 2) : (tiltState b).tlBankOk b = true := by
  unfold State.tlBankOk
  have h1 : (tiltState b).tableOk (R.TNN_TL_FRIC b) 64 = true :=
    tableOk_fresh _ _ _ (19013632 + 65536 * b) (19013632 + 65536 * b + 2048)
      (fun i => by simp only [R.TNN_TL_FRIC]; omega) (by interval_cases b <;> decide +kernel) (by interval_cases b <;> decide +kernel)
  have h2 : (tiltState b).tableOk (R.TNN_TL_PROF b) 1024 = true :=
    tableOk_fresh _ _ _ (19038208 + 65536 * b) (19038208 + 65536 * b + 32768)
      (fun i => by simp only [R.TNN_TL_PROF]; omega) (by interval_cases b <;> decide +kernel) (by interval_cases b <;> decide +kernel)
  rw [h1, h2]
  interval_cases b <;> decide +kernel

theorem witness_TiltLoopAndItsRequests_6 :
  let s : State := tiltState 0;
  let m : BitVec 3 := 2;
  (m.toNat < 4) ∧ (s.tlBankOk s.tlBank = true) ∧ (m.toNat = 1 ∨ m.toNat = 2 → s.rd R.TNN_TLCFG_AXPIN < 24) :=
  by
  intro s m
  have hb : s.tlBank = 0 := by decide +kernel
  exact ⟨by decide, by rw [hb]; exact tiltState_ok 0 (by decide), by decide +kernel⟩

theorem witness_TiltLoopAndItsRequests_8 :
  let s : State := tiltState 1;
  (s.tnn.tlSwap = false) ∧ (s.tlBankOk (1 - s.tlBank) = true) := by
  intro s
  have hb : 1 - s.tlBank = 1 := by decide +kernel
  exact ⟨rfl, by rw [hb]; exact tiltState_ok 1 (by decide)⟩

/-- A state with the few coefficients that make a spindle bank valid, and a geometry inside R62. -/
def spindleState (b : Nat) : State :=
  (((((((State.reset.wr (R.TNN_SP_UMAX b) 0x3F800000).wr (R.TNN_SP_FELIM b) 0x3F800000).wr (R.TNN_SP_LOCKWIN b) 0x3F800000).wr
    (R.TNN_SP_FETIME b) 100).wr R.TNN_ENCCFG_CPR 4096).wr R.TNN_SPCFG_FACETS 6).wr R.TNN_SPCFG_REVS 2).wr R.PEG_FRAME_PERIOD 10000000

theorem spindleState_ok (b : Nat) (hb : b < 2) : (spindleState b).spBankOk b = true := by
  unfold State.spBankOk
  have h1 : (spindleState b).tableOk (R.TNN_SP_COG b) 512 = true :=
    tableOk_fresh _ _ _ (18915328 + 32768 * b) (18915328 + 32768 * b + 16384)
      (fun i => by simp only [R.TNN_SP_COG]; omega) (by interval_cases b <;> decide +kernel) (by interval_cases b <;> decide +kernel)
  have h2 : (spindleState b).tableOk (R.TNN_SP_FRIC b) 64 = true :=
    tableOk_fresh _ _ _ (18931712 + 32768 * b) (18931712 + 32768 * b + 2048)
      (fun i => by simp only [R.TNN_SP_FRIC]; omega) (by interval_cases b <;> decide +kernel) (by interval_cases b <;> decide +kernel)
  rw [h1, h2]
  interval_cases b <;> decide +kernel

theorem witness_SpindleRequestsInjectionCapture_1 :
  let s : State := spindleState 0;
  let m : BitVec 3 := 3;
  (m.toNat < 5) ∧ (s.spBankOk s.spBank = true) ∧ (m.toNat = 2 ∨ m.toNat = 3 → 256 ≤ s.rd R.TNN_ENCCFG_CPR
    ∧ s.spindleOk (s.rd R.TNN_SPCFG_FACETS) (s.rd R.TNN_SPCFG_REVS) = true) :=
  by
  intro s m
  have hb : s.spBank = 0 := by decide +kernel
  exact ⟨by decide, by rw [hb]; exact spindleState_ok 0 (by decide), by decide +kernel⟩

theorem witness_SpindleRequestsInjectionCapture_5 :
  let s : State := spindleState 1;
  (s.tnn.spSwap = false) ∧ (s.spBankOk (1 - s.spBank) = true) := by
  intro s
  have hb : 1 - s.spBank = 1 := by decide +kernel
  exact ⟨rfl, by rw [hb]; exact spindleState_ok 1 (by decide)⟩

/-- An HBM in which nothing is written reads zeros. -/
theorem hbmBytes_nil (s : State) (h : s.hbm = []) (a n : Nat) : s.hbmBytes a n = List.replicate n 0 := by
  induction n generalizing a with
  | zero => rfl
  | succ n ih =>
    unfold State.hbmBytes
    rw [ih, List.replicate_succ]
    unfold State.hbmByte
    rw [h]; rfl

/-- Where nothing is written no sightline entry is valid, and check 3 of R296 passes. -/
theorem armSightlines_nil (s : State) (h : s.hbm = []) : s.armSightlines = true := by
  unfold State.armSightlines
  dsimp only
  rw [List.all_eq_true]
  intro i _
  unfold State.sightBytes
  rw [hbmBytes_nil s h]
  have hv : (Sight.parse (List.replicate 16 0)).valid = false := by decide
  rw [hv]; rfl

theorem witness_TrussKeyWindowAndHolds_11 :
  let s : State := armable State.reset;
  (s.trs.armDue = .release) ∧ (s.trsState = 3) ∧ (s.armCheck true = 0) := by
  intro s
  have h1 : s.condStands = false := by decide +kernel
  have h2 : s.budBank.absorber (s.rd R.TRS_EXPCFG_ABSDIR) = true := by decide +kernel
  have h3 : s.armSightlines = true := armSightlines_nil s rfl
  have h4 : s.armGeometry = true := by decide +kernel
  have h5 : ¬ s.opwEff ≤ s.fbdlyEff := by decide +kernel
  have h6 : s.on R.TRS_STATE_DARKPIN = false := by decide +kernel
  refine ⟨rfl, by decide +kernel, ?_⟩
  unfold State.armCheck
  rw [h1, h2, h3, h4, h6, if_neg h5]; rfl


/-- Cells of sightline entries `k` up, `n` of them: all zero but for their CRC. -/
def sightCells : Nat → Nat → List (Nat × Byte)
  | 0, _ => []
  | n + 1, k => (16 * k + 14, (0x6A : Byte)) :: (16 * k + 15, (0xA9 : Byte)) :: sightCells n (k + 1)

theorem sightCells_out (n : Nat) : ∀ k a, (a % 16 < 14 ∨ a < 16 * k ∨ 16 * (k + n) ≤ a) → mapGet 0 (sightCells n k) a = 0 := by
  induction n with
  | zero => intro k a _; rfl
  | succ n ih =>
    intro k a h
    unfold sightCells mapGet
    rw [if_neg (by omega)]
    unfold mapGet
    rw [if_neg (by omega)]
    exact ih (k + 1) a (by omega)

theorem sightCells_in (n : Nat) : ∀ k j, k ≤ j → j < k + n →
    mapGet 0 (sightCells n k) (16 * j + 14) = 0x6A ∧ mapGet 0 (sightCells n k) (16 * j + 15) = 0xA9 := by
  induction n with
  | zero => intro k j h1 h2; omega
  | succ n ih =>
    intro k j h1 h2
    by_cases h : j = k
    · subst h
      constructor
      · simp [sightCells, mapGet]
      · simp [sightCells, mapGet]
    · have := ih (k + 1) j (by omega) (by omega)
      constructor
      · unfold sightCells mapGet; rw [if_neg (by omega)]; unfold mapGet; rw [if_neg (by omega)]; exact this.1
      · unfold sightCells mapGet; rw [if_neg (by omega)]; unfold mapGet; rw [if_neg (by omega)]; exact this.2

/-- A full sightline table of entries that are not valid passes the checks of staging. -/
theorem sightCells_good (s : State) (h : s.hbm = sightCells 65536 0) : s.sightsGood 0 = true := by
  unfold State.sightsGood
  rw [List.all_eq_true]
  intro i hi
  have hi : i < 65536 := List.mem_range.1 hi
  have hb : ∀ k, k < 14 → s.hbmByte (16 * i + k) = 0 := fun k hk => by
    unfold State.hbmByte; rw [h]; exact sightCells_out _ _ _ (by omega)
  have h14 : s.hbmByte (16 * i + 14) = 0x6A := by unfold State.hbmByte; rw [h]; exact (sightCells_in 65536 0 i (by omega) (by omega)).1
  have h15 : s.hbmByte (16 * i + 15) = 0xA9 := by unfold State.hbmByte; rw [h]; exact (sightCells_in 65536 0 i (by omega) (by omega)).2
  have e : s.sightBytes 0 i = List.replicate 14 0 ++ [0x6A, 0xA9] := by
    unfold State.sightBytes
    simp only [State.hbmBytes, Nat.zero_add, Nat.add_assoc, Nat.reduceAdd]
    rw [h14, h15]
    have h0 := hb 0 (by omega)
    rw [Nat.add_zero] at h0
    simp [h0, hb, List.replicate]
  rw [e]; decide +kernel

/-- Rows above the table read zeros. -/
theorem sightCells_rows (s : State) (h : s.hbm = sightCells 65536 0) : s.rowsGood 1048576 = true := by
  unfold State.rowsGood
  rw [List.all_eq_true]
  intro i _
  have hb : ∀ a, 1048576 ≤ a → s.hbmByte a = 0 := fun a ha => by
    unfold State.hbmByte; rw [h]; exact sightCells_out _ _ _ (by omega)
  simp only [State.hbmBytes]
  rw [hb _ (by omega), hb _ (by omega), hb _ (by omega), hb _ (by omega)]
  decide

/-- A state whose epoch 7 is in force with a full sightline table at address 0 and its rows behind it. -/
def sighted (s : State) : State :=
  { (s.wr R.TNN_SPCTL_MODE 0).wr R.JST_STATUS_LOADBUSY 0 with
    hbm := sightCells 65536 0, trs := { s.trs with budCopy := [] }
    peg := { s.peg with active := 7, epochs := [(7, { State.reset.nextCfg with sightAddr := 0, rowAddr := 1048576 })], bursts := [] } }

/-- Its next epoch passes the staging of every block. -/
theorem sighted_code (s : State) (h : s.hbm = sightCells 65536 0) (ha : s.nextCfg.sightAddr = 0) (hr : s.nextCfg.rowAddr = 1048576)
    (h3 : s.hif.staged = []) (hm : (s.spMode == 2 || s.spMode == 3) = false) (hl : s.on R.JST_STATUS_LOADBUSY = false)
    (hc : s.trs.budCopy = []) : s.stagingCode s.nextCfg (budgetsTaken s) = 0 := by
  unfold State.stagingCode budgetsTaken
  rw [ha, hr, h3, hc, hm, hl, sightCells_good s h, sightCells_rows s h]
  rfl

theorem witness_EpochsAndTablesFollowCommands_4 :
  let r : Fin 16 := 3;
  let e : BitVec 512 := entry 9 5 0 (8 + 2 ^ 64 * 200000000000000000);
  let s : State := sighted (ringed 3 (entry 9 5 0 (8 + 2 ^ 64 * 200000000000000000)) State.reset);
  (AtFront r.val 5 e s) ∧ (cmdClean e 32 = true) ∧ (cmdParam e = 0) ∧ (cmdField e 17 7 = 0) ∧ (cmdField e 16 1 = (s.peg.active + 1) %
  256) ∧ (s.hif.waitCommit = none) ∧ (s.hif.accepted = none) ∧ (s.olderHeld = false) ∧ (1000000 + s.clk.devTime.toNat ≤ cmdField e 24
  8) ∧ (s.stagingCode s.nextCfg (budgetsTaken s) = 0) := by
  intro r e s
  exact ⟨⟨by decide +kernel, by decide +kernel⟩, by decide +kernel, by decide +kernel, by decide +kernel, by decide +kernel,
    rfl, rfl, by decide +kernel, by decide +kernel,
    sighted_code s rfl (by decide +kernel) (by decide +kernel) rfl (by decide +kernel) (by decide +kernel) rfl⟩

theorem witness_EpochsAndTablesFollowCommands_5 :
  let w : EpochWait := { ring := 3, cid := 9, epoch := 8, time := 200000000000000000 };
  let e : BitVec 512 := entry 9 5 0 8;
  let s : State := sighted ((ringed 3 (entry 9 5 0 8) State.reset).onHif (fun h => { h with waitCommit := some { ring := 3, cid := 9, epoch := 8, time := 200000000000000000 } }));
  (s.hif.waitCommit = some w) ∧ (s.ringRuns w.ring = true) ∧ (s.olderHeld = false) ∧ ((s.cmdRing w.ring).fetched = [e]) ∧
  (s.jst.loadRing = none) ∧ (w.ring < 16) ∧ (w.epoch < 256) ∧ (1000000 + s.clk.devTime.toNat ≤ w.time) ∧ (s.stagingCode s.nextCfg
  (budgetsTaken s) = 0) := by
  intro w e s
  exact ⟨rfl, by decide +kernel, by decide +kernel, by decide +kernel, rfl, by decide, by decide, by decide +kernel,
    sighted_code s rfl (by decide +kernel) (by decide +kernel) rfl (by decide +kernel) (by decide +kernel) rfl⟩

/-! A program set whose hash is that of its other bytes -/

/-- The bytes before the hash of a small program set: two slots of budget 300 on one word of code. -/
def psPre : List Byte :=
  leBytes 4 0x4A535450 ++ leBytes 2 1 ++ leBytes 2 7 ++ leBytes 4 4 ++ leBytes 4 0 ++ leBytes 4 (300 * 65536) ++ leBytes 4 0
    ++ leBytes 4 (300 * 65536) ++ List.replicate 68 0

/-- The set: the hash is that of everything else. -/
def psSmall : List Byte := psPre ++ sha384 (psPre ++ List.replicate 4 0) ++ List.replicate 4 0

theorem leBytes_length (n v : Nat) : (leBytes n v).length = n := by
  induction n generalizing v with
  | zero => rfl
  | succ n ih => simp [leBytes, ih]

theorem sha384_length (b : List Byte) : (sha384 b).length = 48 := leBytes_length _ _

theorem psSmall_hash : psHashOk psSmall = true := by
  have hp : psPre.length = 0x60 := by decide +kernel
  unfold psHashOk psHash
  rw [beq_iff_eq]
  have ht : psSmall.take 0x60 = psPre := by
    unfold psSmall; rw [List.append_assoc, ← hp, List.take_left']
    rfl
  have hd : psSmall.drop 0x90 = List.replicate 4 0 := by
    unfold psSmall
    exact List.drop_left' (by rw [List.length_append, hp, sha384_length])
  rw [ht, hd]
  have hl : (sha384 (psPre ++ List.replicate 4 0)).length = 48 := sha384_length _
  unfold sliceBytes psSmall
  generalize sha384 (psPre ++ List.replicate 4 0) = h at hl
  apply List.ext_getElem
  · simp [hl]
  · intro i h1 h2
    have hi : i < 48 := by omega
    simp only [List.getElem_map, List.getElem_range, List.getD_eq_getElem?_getD]
    rw [List.getElem?_append_left (by rw [List.length_append, hp, hl]; omega), List.getElem?_append_right (by omega), hp]
    simp [h1]

/-- An image whose only section is that set. -/
def psImage : Image :=
  { header := List.replicate 512 0 ++ leBytes 4 4 ++ leBytes 4 0 ++ leBytes 4 148 ++ List.replicate 340 0, payload := psSmall }

theorem psImage_sect : psImage.sect 4 = psSmall := by
  unfold Image.sect
  have h : (sections psImage.header).find? (fun x => x.1 == 4) = some (4, 0, 148, true) := by decide +kernel
  rw [h]
  have hl : psSmall.length = 148 := by
    have hp : psPre.length = 0x60 := by decide +kernel
    unfold psSmall; rw [List.length_append, List.length_append, sha384_length, hp, List.length_replicate]
  show ((psImage.payload.drop 0).take 148) = psSmall
  rw [List.drop_zero]
  exact List.take_of_length_le (le_of_eq hl)

theorem psSmall_proof : (proveSet psSmall ⟨0, 0, 0⟩).1 = 0 := by
  have h1 : psHeadOk psSmall = true := by decide +kernel
  have h2 : psEntryBad psSmall = none := by decide +kernel
  have h3 : psBudgetBad psSmall = none := by decide +kernel
  unfold proveSet
  rw [h1, psSmall_hash, h2, h3]
  rfl

/-- The standard set of a state is section 4 of the image that runs. -/
theorem standardSet_image (s : State) (i : Image) (h : s.fwu.running = some i) : s.standardSet.image = i.sect 4 := by
  unfold State.standardSet ProgSet.ofImage State.standardImage
  rw [h]

theorem witness_ImageStagesMoveOn_6 :
  let s : State := standAt 8 (State.reset.onFwu (fun f => { f with running := some psImage }));
  let std : ProofFind := ⟨0, 0, 0⟩;
  (StandsAt 8 s) ∧ ((proveSet s.standardSet.image std).1 = 0) := by
  intro s std
  refine ⟨⟨by decide +kernel, rfl, rfl, rfl, rfl, rfl⟩, ?_⟩
  rw [standardSet_image s psImage rfl, psImage_sect]
  exact psSmall_proof

/-! ### Witnesses of hypotheses -/

theorem witness_ResetSourcesStartFullReset_1 :
  let s : State := State.reset.onBoot (fun b => { b with inReset := false, pornLow := false, powered := true, ended := 1 % 2 == 0 });
  (ResetMayStart s) := by delta ResetMayStart; decide +kernel
theorem witness_ResetSourcesStartFullReset_2 :
  let s : State := State.reset.onBoot (fun b => { b with inReset := false, pornLow := false, powered := true, ended := 1 % 2 == 0 });
  (ResetMayStart s) := by delta ResetMayStart; decide +kernel
theorem witness_ResetSourcesStartFullReset_3 :
  let s : State := (State.reset.onBoot (fun b => { b with inReset := false, pornLow := false, powered := true, ended := 1 % 2 == 0 })).wr R.HIF_STATUS_SPEED 3;
  (ResetMayStart s) ∧ (s.rd R.HIF_STATUS_SPEED ≠ 0) := by delta ResetMayStart; decide +kernel
theorem witness_ResetSourcesStartFullReset_4 :
  let s : State := (State.reset.onBoot (fun b => { b with inReset := false, pornLow := false, powered := true, ended := 1 % 2 == 0 })).wr R.HIF_STATUS_SPEED 3;
  (ResetMayStart s) ∧ (s.rd R.HIF_STATUS_SPEED ≠ 0) := by delta ResetMayStart; decide +kernel
theorem witness_ResetSourcesStartFullReset_5 :
  let s : State := hostOn (State.reset.onBoot (fun b => { b with inReset := false, pornLow := false, powered := true, ended := 1 % 2 == 0 }));
  (ResetMayStart s) ∧ (s.barOn = true) ∧ (rightOk (s.girtRight girtHost 64) true = true) := by delta ResetMayStart; decide +kernel
theorem witness_ResetSourcesStartFullReset_6 :
  let v : Word := 5;
  let s : State := hostOn State.reset;
  (s.barOn = true) ∧ (rightOk (s.girtRight girtHost 64) true = true) ∧ (v ≠ 0x46554C4C#32) := by decide +kernel
theorem witness_ResetSourcesStartFullReset_7 :
  let s : State := (hostOn State.reset).wr (R.GRT_RIGHTS_RIGHTS 64) 0;
  (s.barOn = true) ∧ (rightOk (s.girtRight girtHost 64) true = false) := by decide +kernel
theorem witness_ResetSourcesStartFullReset_8 :
  let s : State := State.reset.onBoot (fun b => { b with inReset := true, pornLow := false, powered := true });
  (s.boot.pornLow = false) ∧ (s.boot.powered = true) ∧ (s.boot.inReset = true) := by decide +kernel
theorem witness_ResetSourcesStartFullReset_9 :
  let s : State := State.reset.onBoot (fun b => { b with inReset := true, pornLow := false, powered := true });
  (s.boot.pornLow = false) ∧ (s.boot.powered = true) ∧ (s.boot.inReset = true) := by decide +kernel
theorem witness_ResetSourcesStartFullReset_10 :
  let s : State := (State.reset.onBoot (fun b => { b with inReset := true, pornLow := false, powered := true })).wr R.HIF_STATUS_SPEED 3;
  (s.boot.pornLow = false) ∧ (s.boot.powered = true) ∧ (s.boot.inReset = true) ∧ (s.rd R.HIF_STATUS_SPEED ≠ 0) := by decide +kernel
theorem witness_EarlyStagesMoveOn_1 :
  let s : State := standAt 1 State.reset;
  (StandsAt 1 s) := by delta StandsAt; decide +kernel
theorem witness_EarlyStagesMoveOn_2 :
  let rails : BitVec 16 := if 1 % 2 = 0 then 0xFFEF else 0x7FFF;
  let s : State := (standAt 1 State.reset).wr R.TRS_STATE_STATE 0;
  (StandsAt 1 s) ∧ (rails ≠ 0xFFFF#16) ∧ (s.rd R.TRS_STATE_STATE = 0) := by delta StandsAt; decide +kernel
theorem witness_EarlyStagesMoveOn_3 :
  let s : State := standAt 1 State.reset;
  (StandsAt 1 s) := by delta StandsAt; decide +kernel
theorem witness_EarlyStagesMoveOn_4 :
  let a : Bool := 1 % 2 == 0;
  let b : Bool := true;
  let s : State := standAt 2 State.reset;
  (StandsAt 2 s) ∧ (s.jtagHold = false) ∧ ((a || b) = true) := by delta StandsAt; decide +kernel
theorem witness_EarlyStagesMoveOn_5 :
  let a : Bool := true;
  let b : Bool := 1 % 2 == 0;
  let s : State := (standAt 2 State.reset).onBoot (fun b => { b with bootsel := 3, ignoreSel := false });
  (StandsAt 2 s) ∧ (s.jtagHold = true) ∧ ((a || b) = true) := by delta StandsAt; decide +kernel
theorem witness_EarlyStagesMoveOn_6 :
  let s : State := standAt 2 State.reset;
  (StandsAt 2 s) := by delta StandsAt; decide +kernel
theorem witness_EarlyStagesMoveOn_7 :
  let s : State := standAt 2 State.reset;
  (StandsAt 2 s) := by delta StandsAt; decide +kernel
theorem witness_EarlyStagesMoveOn_8 :
  let s : State := ((standAt 3 State.reset).wr (R.THM_SENS_VALID 0) 1).wr (R.THM_SENS_T 0) 800 |>.onBoot (fun b => { b with stalled := false });
  (StandsAt 3 s) ∧ (s.coolEnough = false) ∧ (s.boot.stalled = false) := by delta StandsAt; decide +kernel
theorem witness_EarlyStagesMoveOn_9 :
  let s : State := cool ((standAt 3 State.reset).onBoot (fun b => { b with bootsel := 3, ignoreSel := false }));
  (StandsAt 3 s) ∧ (s.coolEnough = true) ∧ (s.jtagHold = true) := by delta StandsAt; decide +kernel
theorem witness_EarlyStagesMoveOn_10 :
  let s : State := cool ((standAt 3 State.reset).onBoot (fun b => { b with bootsel := 1 + BitVec.ofNat 2 (1 % 2), ignoreSel := false }));
  (StandsAt 3 s) ∧ (s.coolEnough = true) ∧ (s.boot.bootsel = 1 ∨ s.boot.bootsel = 2) ∧ (s.boot.ignoreSel = false) := by delta StandsAt; decide +kernel
theorem witness_EarlyStagesMoveOn_11 :
  let s : State := cool (standAt 3 State.reset);
  (StandsAt 3 s) ∧ (s.coolEnough = true) ∧ (s.boot.bootsel = 0 ∨ s.boot.ignoreSel = true) ∧ (s.bootHead = none) := by delta StandsAt; decide +kernel
theorem witness_EarlyStagesMoveOn_12 :
  let s : State := headed (cool (standAt 3 State.reset));
  let c : Bool := (s.bootHead.map (·.1)).getD false;
  let h : BootHead := (s.bootHead.map (·.2)).getD { hseq := 0, active := false, state := 0, tries := 0, verAct := 1, verOth := 0 };
  (StandsAt 3 s) ∧ (s.coolEnough = true) ∧ (s.boot.bootsel = 0 ∨ s.boot.ignoreSel = true) ∧ (s.bootHead = some (c, h)) := by delta StandsAt; decide +kernel
theorem witness_EarlyStagesMoveOn_13 :
  let s : State := standAt 4 State.reset;
  (StandsAt 4 s) := by delta StandsAt; decide +kernel
theorem witness_EarlyStagesMoveOn_14 :
  let s : State := standAt 4 State.reset;
  let ok : BitVec 4 := 0xB;
  (StandsAt 4 s) ∧ (ok ≠ 0xF#4) := by delta StandsAt; decide +kernel
theorem witness_ImageStagesMoveOn_1 :
  let s : State := (standAt 5 State.reset).onBoot (fun b => { b with imageOk := true });
  (StandsAt 5 s) ∧ (s.boot.imageOk = true) := by delta StandsAt; decide +kernel
theorem witness_ImageStagesMoveOn_2 :
  let s : State := { (((standAt 5 State.reset).onBoot (fun b => { b with imageOk := false, slotB := false })).onFwu (fun f => { f with tried := if 1 % 2 = 0 then [] else [true, false] })) with flash := storeBytes 0xFF [] (slotBase false + 20) [0, 0, 0, 0] };
  (StandsAt 5 s) ∧ (s.boot.imageOk = false) := by delta StandsAt; decide +kernel
theorem witness_ImageStagesMoveOn_3 :
  let i : Image := ⟨[], []⟩;
  let s : State := (standAt 6 State.reset).onFwu (fun f => { f with running := some i });
  (StandsAt 6 s) ∧ (s.fwu.running = some i) ∧ ((s.imageRuns i).storeNow = none) := by delta StandsAt; decide +kernel
theorem witness_ImageStagesMoveOn_4 :
  let s : State := standAt 7 State.reset;
  (StandsAt 7 s) := by delta StandsAt; decide +kernel
theorem witness_ImageStagesMoveOn_5 :
  let s : State := standAt 7 State.reset;
  (StandsAt 7 s) := by delta StandsAt; decide +kernel
theorem witness_ImageStagesMoveOn_7 :
  let s : State := standAt 8 State.reset;
  let std : ProofFind := ⟨0, 0, 0⟩;
  (StandsAt 8 s) ∧ ((proveSet s.standardSet.image std).1 ≠ 0) ∧ (s.slotIsTrial = false) := by delta StandsAt; decide +kernel
theorem witness_LateStagesMoveOn_1 :
  let s : State := standAt 9 State.reset;
  (StandsAt 9 s) := by delta StandsAt; decide +kernel
theorem witness_LateStagesMoveOn_2 :
  let s : State := { (standAt 0x0A State.reset).wr R.TNN_STATUS_SPLOCK 1 with tnn := { State.reset.tnn with tlOk := true } };
  (StandsAt 0x0A s) ∧ (s.rd R.TNN_STATUS_SPLOCK ≠ 0) ∧ (s.tnn.tlOk = true) := by delta StandsAt; decide +kernel
theorem witness_LateStagesMoveOn_3 :
  let s : State := (standAt 0x0B State.reset).onBoot (fun b => { b with spinDone := true, calDone := false });
  (StandsAt 0x0A s ∨ StandsAt 0x0B s) ∧ (s.boot.calDone = false) := by delta StandsAt; decide +kernel
theorem witness_LateStagesMoveOn_4 :
  let s : State := ((standAt 0x0C State.reset).wr R.CLK_TBCFG_TBGATE 1).wr R.CLK_STATUS_TBSTATE 1;
  (StandsAt 0x0C s) ∧ (s.rd R.CLK_TBCFG_TBGATE ≠ 0) ∧ (s.rd R.CLK_STATUS_TBSTATE ≠ 2) := by delta StandsAt; decide +kernel
theorem witness_LateStagesMoveOn_5 :
  let s : State := (standAt 0x0C State.reset).wr R.CLK_TBCFG_TBGATE 0;
  (StandsAt 0x0C s) ∧ (s.rd R.CLK_TBCFG_TBGATE = 0) := by delta StandsAt; decide +kernel
theorem witness_LateStagesMoveOn_6 :
  let s : State := State.reset.onBoot (fun b => { b with stalled := true, inReset := false });
  (s.boot.stalled = true) ∧ (s.boot.inReset = false) ∧ (s.rd R.GLB_STATUS_STAGE < 256) ∧ (s.rd R.GLB_STATUS_CAUSE < 256) ∧ (s.rd
  R.GLB_STATUS_DETAIL < 256) := by decide +kernel
theorem witness_LateStagesMoveOn_7 :
  let s : State := (State.reset.onBoot (fun b => { b with perstHi := true, inReset := true, ended := 1 % 4 == 0 })).wr R.THM_STATUS_HBMLOST (1 % 2);
  (s.boot.inReset = true) ∧ (s.boot.perstHi = true) := by decide +kernel
theorem witness_LateStagesMoveOn_8 :
  let s : State := State.reset.onFwu (fun f => { f with recovery := true });
  let via : RecPath := if 1 % 2 = 0 then .bar4 else .uart true;
  (s.fwu.recovery = true) ∧ (recBadCrc via = false) := by decide +kernel
theorem witness_TimebaseFollowsOvenAndHold_1 :
  let s : State := (State.reset.wr R.CLK_STATUS_TBSTATE 0).wr R.CLK_TBCFG_HOLD 7;
  (s.tb = 0) ∧ (s.rd R.CLK_TBCFG_HOLD ≠ 0) := by decide +kernel
theorem witness_TimebaseFollowsOvenAndHold_2 :
  let s : State := (State.reset.wr R.CLK_STATUS_TBSTATE 0).wr R.CLK_TBCFG_HOLD 0;
  (s.tb = 0) ∧ (s.rd R.CLK_TBCFG_HOLD = 0) := by decide +kernel
theorem witness_TimebaseFollowsOvenAndHold_4 :
  let s : State := (State.reset.wr R.CLK_STATUS_TBSTATE 1).onClk (fun c => { c with holdRun := true });
  (s.clk.holdRun = true) ∧ (s.tb = 1) := by decide +kernel
theorem witness_PpsAndRootPllCommands_1 :
  let s : State := State.reset.wr R.CLK_TBCFG_PPSEN 0;
  (s.rd R.CLK_TBCFG_PPSEN = 0) := by decide +kernel
theorem witness_PpsAndRootPllCommands_2 :
  let s : State := State.reset.wr R.CLK_TBCFG_PPSEN 1;
  (s.rd R.CLK_TBCFG_PPSEN ≠ 0) := by decide +kernel
theorem witness_PpsAndRootPllCommands_3 :
  let s : State := State.reset.wr R.CLK_TBCFG_PPSEN 1;
  (s.rd R.CLK_TBCFG_PPSEN ≠ 0) := by decide +kernel
theorem witness_PpsAndRootPllCommands_5 :
  let s : State := (State.reset.wr R.CLK_STATUS_PLLALOCK 1).wr R.CLK_STATUS_PLLBLOCK 1;
  (s.rd (pllLock (s.on R.CLK_STATUS_PLLSEL)) ≠ 0) := by decide +kernel
theorem witness_PpsAndRootPllCommands_6 :
  let s : State := State.reset.wr R.CLK_STATUS_PLLALOCK 0 |>.wr R.CLK_STATUS_PLLBLOCK 0;
  (s.rd (pllLock (!s.on R.CLK_STATUS_PLLSEL)) = 0) := by decide +kernel
theorem witness_BattenSendsFires_1 :
  let n : Fin 64 := 0;
  let f : Fire := { driver := 0, tag := 5, row := 3, proof := false, time := 10000, ec := 2000, mask := 0, cur := 0, width := 0, epoch := 0, shot := 1, cols := [], stage := .planned };
  let s : State := { State.reset with btn := { State.reset.btn with fires := if 1 % 3 == 1 then [{ f with time := 9000, tag := 4, stage := .submitted }, f] else [f] } };
  (s.nextFire n.val .planned = some f) ∧ (f.stage = .planned) := by decide +kernel
theorem witness_BattenSendsFires_2 :
  let n : Fin 64 := 0;
  let f : Fire := { driver := 0, tag := 5, row := 3, proof := false, time := 10000, ec := 2000, mask := 1, cur := 1, width := 1, epoch := 0, shot := 1, cols := [], stage := .submitted };
  let s : State := (({ State.reset with btn := { State.reset.btn with fires := [f] } } : State).wr R.BTN_CTL_RINGEN 1).wr R.BTN_STATUS_RINGUP 1 |>.wr (R.BTN_DID_PRESENT 0) 1 |>.setDrv 0 (fun d => { d with stopped := false });
  (s.nextFire n.val .submitted = some f) ∧ (s.mayTransmit f = true) ∧ (f.stage = .submitted) ∧ (sendsBoth s (ringOf n.val)) := by delta sendsBoth; decide +kernel
theorem witness_BattenSendsFires_3 :
  let n : Fin 64 := 0;
  let f : Fire := { driver := 0, tag := 5, row := 3, proof := true, time := 10000, ec := 2000, mask := 1, cur := 1, width := 1, epoch := 0, shot := 1, cols := [], stage := .submitted };
  let s : State := { State.reset with btn := { State.reset.btn with fires := [f] } };
  (s.nextFire n.val .submitted = some f) ∧ (s.mayTransmit f = false) := by decide +kernel
theorem witness_BattenSendsFires_4 :
  let r : Fin 8 := 2;
  let s : State := State.reset.wr R.BTN_CTL_RINGEN 4 |>.wr R.BTN_STATUS_RINGUP 4 |>.wr (R.BTN_RSTAT_CWUP 2) 1 |>.wr (R.BTN_RSTAT_CCWUP 2) 1 |>.wr (R.BTN_RSTAT_NDRV 2) 5;
  (s.ringEn r.val = true) ∧ (s.ringUp r.val = true) ∧ ((s.ringSt r.val).locating = false) ∧ (s.rd (R.BTN_RSTAT_CWUP r.val) ≠ 0) ∧ (s.rd
  (R.BTN_RSTAT_CCWUP r.val) ≠ 0) ∧ (s.rd (R.BTN_RSTAT_NDRV r.val) ≠ 0) ∧ (sendsBoth s r.val) := by delta sendsBoth; decide +kernel
theorem witness_BattenSendsFires_5 :
  let r : Fin 8 := 2;
  let s : State := (State.reset.wr R.BTN_CTL_RINGEN 4 |>.wr R.BTN_STATUS_RINGUP 4 |>.wr (R.BTN_RSTAT_CWUP 2) 0 |>.wr (R.BTN_RSTAT_CCWUP 2) 0 |>.wr (R.BTN_RSTAT_NDRV 2) 5).setDrv 17 (fun d => { d with seenCw := true }) |>.setDrv 18 (fun d => { d with seenCcw := true });
  (s.ringEn r.val = true) ∧ (s.ringUp r.val = true) ∧ ((s.ringSt r.val).locating = false) ∧ (s.rd (R.BTN_RSTAT_CWUP r.val) = 0) ∧ (s.rd
  (R.BTN_RSTAT_CCWUP r.val) = 0) ∧ (s.rd (R.BTN_RSTAT_NDRV r.val) ≠ 0) ∧ (s.addrsOf r.val (·.seenCw) ≠ []) ∧ (s.addrsOf r.val
  (·.seenCcw) ≠ []) ∧ (sendsBoth s r.val) := by delta sendsBoth; decide +kernel
theorem witness_BattenSendsFires_6 :
  let r : Fin 8 := 2;
  let k : Nat := 1;
  let s : State := (State.reset.wr R.BTN_CTL_RINGEN 4 |>.wr R.BTN_STATUS_RINGUP 4 |>.wr (R.BTN_RSTAT_NDRV 2) 2).setDrv 16 (fun d => { d with seenCw := true }) |>.setDrv 17 (fun d => { d with seenCcw := true }) |>.setRing 2 (fun x => { x with locating := true });
  (s.ringEn r.val = true) ∧ (s.ringUp r.val = true) ∧ ((s.ringSt r.val).locating = true) ∧ (s.rd (R.BTN_RSTAT_NDRV r.val) ≠ 0) ∧ (s.rd
  (R.BTN_RSTAT_NDRV r.val) ≤ 8) ∧ (k ≤ s.rd (R.BTN_RSTAT_NDRV r.val)) ∧ (∀ i : Fin 8, i.val < s.rd (R.BTN_RSTAT_NDRV r.val) → (s.drv
  (8 * r.val + i.val)).seenCw = decide (i.val < k) ∧ (s.drv (8 * r.val + i.val)).seenCcw = decide (k ≤ i.val)) := by decide +kernel
theorem witness_BattenSendsFires_7 :
  let n : Fin 64 := 9;
  let s : State := State.reset.wr R.BTN_CTL_RINGEN 2 |>.wr R.BTN_STATUS_RINGUP 2 |>.wr (R.BTN_RSTAT_CWUP 1) 1 |>.wr (R.BTN_DID_PRESENT 9) 1 |>.wr (R.BTN_DSTAT_SILENT 9) 0 |>.setDrv 9 (fun d => { d with missCw := 300, missCcw := 300 });
  (s.drvUp n.val = true) ∧ (s.isSilent n.val = true) ∧ (s.rd (R.BTN_DSTAT_SILENT n.val) = 0) := by decide +kernel
theorem witness_BattenSendsFires_8 :
  let n : Fin 64 := 0;
  let tag : BitVec 9 := 5;
  let s : State := { State.reset with btn := { State.reset.btn with fires := [{ driver := 0, tag := 5, row := 3, proof := true, time := 10000, ec := 2000, mask := 1, cur := 1, width := 1, epoch := 0, shot := 1, cols := [], stage := .sent }] } };
  (s.btn.fires.any (fun f => f.driver == n.val && f.tag == tag.toNat && f.stage == .sent) = true) := by decide +kernel
theorem witness_BattenHearsDrivers_1 :
  let h : UpHead := { useq := 3, sound := true, reserved := false };
  let p : StatusPayload := { hushed := 1 % 2 == 0, cwLock := true, ccwLock := true, capRej := false, repLost := 1 % 3 == 0, alarm := 7, gen := 3, pending := 2, timeValid := true, active := 0, previous := 0, staging := 0, crcCw := 0, crcCcw := 0, reserved := 0 };
  (upGood h = true) ∧ (p.capRej = false) := by decide +kernel
theorem witness_BattenHearsDrivers_2 :
  let h : UpHead := { useq := 3, sound := true, reserved := false };
  let p : StatusPayload := { hushed := true, cwLock := true, ccwLock := true, capRej := true, repLost := false, alarm := 7, gen := 3, pending := 2, timeValid := true, active := 0, previous := 0, staging := 0, crcCw := 0, crcCcw := 0, reserved := 0 };
  let s : State := State.reset.wr R.TRS_STATE_STATE 1;
  (upGood h = true) ∧ (p.capRej = true) ∧ (s.trsState = 1) := by decide +kernel
theorem witness_BattenHearsDrivers_3 :
  let s : State := State.reset;
  let h : UpHead := { useq := 3, sound := true, reserved := false };
  let n : Fin 64 := 7;
  let r : FireReport := { tag := 9, row := 4, result := 2, ftime := 77, cmask := 0x11 };
  (upGood h = true) ∧ (s.btn.preReset.contains (n.val, r.tag.toNat) = false) ∧ (r.result.toNat = 2) ∧ (s.rd (R.BTN_EMFAIL_FAIL (32 *
  n.val + r.row.toNat)) < 2 ^ 32) := by decide +kernel
theorem witness_BattenHearsDrivers_4 :
  let s : State := State.reset;
  let h : UpHead := { useq := 3, sound := true, reserved := false };
  let n : Fin 64 := 7;
  let r : FireReport := { tag := 9, row := 4, result := if 1 % 3 == 0 then 1 - BitVec.ofNat 3 (1 % 2) else 4 + BitVec.ofNat 3 (1 % 4), ftime := 77, cmask := 0x11 };
  (upGood h = true) ∧ (s.btn.preReset.contains (n.val, r.tag.toNat) = false) ∧ (r.result.toNat ≠ 2) ∧ (r.result.toNat ≠ 3) := by decide +kernel
theorem witness_BattenHearsDrivers_5 :
  let h : UpHead := { useq := 3, sound := true, reserved := false };
  let words : List Word := [0x12345, 0, 7];
  (upGood h = true) ∧ (1 ≤ words.length) ∧ (words.length ≤ 20) := by decide +kernel
theorem witness_BattenHearsDrivers_6 :
  let h : UpHead := { useq := 3, sound := true, reserved := false };
  (upGood h = true) := by decide +kernel
theorem witness_BattenHearsDrivers_7 :
  let h : UpHead := { useq := 3, sound := true, reserved := false };
  let code : BitVec 8 := 0x3F;
  (upGood h = true) ∧ (code ≠ 0) ∧ (code.toNat < 0x40) := by decide +kernel
theorem witness_BattenHearsDrivers_8 :
  let h : UpHead := { useq := 3, sound := true, reserved := false };
  let code : BitVec 8 := 0x7F;
  (upGood h = true) ∧ (0x40 ≤ code.toNat) ∧ (code.toNat < 0x80) := by decide +kernel
theorem witness_BattenHearsDrivers_9 :
  let h : UpHead := { useq := 3, sound := true, reserved := false };
  let code : BitVec 8 := 0x80;
  let s : State := State.reset.wr R.TRS_STATE_STATE 1;
  (upGood h = true) ∧ (0x80 ≤ code.toNat) ∧ (s.trsState = 1) := by decide +kernel
theorem witness_BattenHearsDrivers_10 :
  let h : UpHead := { useq := 3, sound := true, reserved := false };
  let n : Fin 64 := 7;
  let r : FireReport := { tag := 9, row := 4, result := 3, ftime := 77, cmask := 0x11 };
  let s : State := State.reset.wr R.TRS_STATE_STATE 1;
  (upGood h = true) ∧ (s.btn.preReset.contains (n.val, r.tag.toNat) = false) ∧ (r.result.toNat = 3) ∧ (s.trsState = 1) ∧ (s.rd
  (R.BTN_EMFAIL_FAIL (32 * n.val + r.row.toNat)) < 2 ^ 32) := by decide +kernel
theorem witness_BattenHearsDrivers_11 :
  let h : UpHead := { useq := 3, sound := true, reserved := false };
  let n : Fin 64 := 7;
  let r : FireReport := { tag := 9, row := 4, result := BitVec.ofNat 3 (1 % 8), ftime := 77, cmask := 0x11 };
  let s : State := { State.reset with btn := { State.reset.btn with preReset := [(7, 9)] } };
  (upGood h = true) ∧ (s.btn.preReset.contains (n.val, r.tag.toNat) = true) := by decide +kernel
theorem witness_BattenHearsDrivers_12 :
  let h : UpHead := { useq := 3, sound := 1 % 2 == 0, reserved := 1 % 2 == 0 };
  (upGood h = false) := by decide +kernel
theorem witness_BattenHearsDrivers_13 :
  let h : UpHead := { useq := 3, sound := 1 % 2 == 0, reserved := false };
  let reps : List FireReport := [];
  (upGood h = false ∨ reps.length = 0 ∨ 6 < reps.length) := by decide +kernel
theorem witness_BattenHearsDrivers_14 :
  let h : UpHead := { useq := 3, sound := false, reserved := false };
  (upGood h = false) := by decide +kernel
theorem witness_BattenMeasuresRings_1 :
  let n : Fin 64 := 11;
  let hold : BitVec 8 := 3;
  let chk : BitVec 8 := 7;
  (chk ≠ echoChk n.val hold) := by decide +kernel
theorem witness_BattenMeasuresRings_2 :
  let n : Fin 64 := 11;
  let s : State := State.reset.setRing 1 (fun x => { x with locating := true });
  ((s.ringSt (ringOf n.val)).locating = true) := by decide +kernel
theorem witness_BattenMeasuresRings_3 :
  let n : Fin 64 := 11;
  let ccw : Bool := 1 % 2 == 0;
  let e : EchoRun := { sum := 300, n := 3 };
  let s : State := (State.reset.wr R.BTN_CALCFG_NECHO 4).setDrv 11 (fun d => { d with echoCw := some { sum := 300, n := 3 }, echoCcw := some { sum := 300, n := 3 } });
  ((s.ringSt (ringOf n.val)).locating = false) ∧ (echoRun s n.val ccw = some e) ∧ (s.rd R.BTN_CALCFG_NECHO ≤ e.n + 1) ∧ (∀ r : Fin 8,
  (s.ringSt r.val).back = none) := by decide +kernel
theorem witness_BattenMeasuresRings_4 :
  let n : Fin 64 := 11;
  let ccw : Bool := 1 % 2 == 0;
  let e : EchoRun := { sum := 300, n := 2 };
  let s : State := (State.reset.wr R.BTN_CALCFG_NECHO 4).setDrv 11 (fun d => { d with echoCw := some { sum := 300, n := 2 }, echoCcw := some { sum := 300, n := 2 } });
  ((s.ringSt (ringOf n.val)).locating = false) ∧ (echoRun s n.val ccw = some e) ∧ (e.n + 1 < s.rd R.BTN_CALCFG_NECHO) ∧ (sendsBoth s
  (ringOf n.val)) := by delta sendsBoth; decide +kernel
theorem witness_BattenMeasuresRings_5 :
  let s : State := State.reset.wr R.BTN_CALCFG_PERIOD 0;
  (s.rd R.BTN_CALCFG_PERIOD = 0) := by decide +kernel
theorem witness_BattenMeasuresRings_6 :
  let n : Fin 64 := 9;
  let s : State := State.reset.wr R.BTN_CALCFG_PERIOD 5 |>.wr R.BTN_CTL_RINGEN 3 |>.wr R.BTN_STATUS_RINGUP 3 |>.wr (R.BTN_DID_PRESENT 9) 1 |>.wr (R.BTN_DSTAT_SILENT 9) 0;
  (s.rd R.BTN_CALCFG_PERIOD ≠ 0) ∧ (s.drvUp n.val = true) ∧ (s.rd (R.BTN_DSTAT_SILENT n.val) = 0) := by decide +kernel
theorem witness_BattenMeasuresRings_7 :
  let n : Fin 64 := 9;
  let s : State := State.reset.wr R.BTN_CTL_RINGEN 3 |>.wr R.BTN_STATUS_RINGUP 3 |>.wr (R.BTN_DID_PRESENT 9) 1 |>.wr (R.BTN_DSTAT_SILENT 9) 0;
  (s.drvUp n.val = true) ∧ (s.rd (R.BTN_DSTAT_SILENT n.val) = 0) := by decide +kernel
theorem witness_BattenMeasuresRings_8 :
  let s : State := (State.reset.wr R.BTN_CTL_RINGEN (1 * 37) |>.wr R.BTN_STATUS_RINGUP (1 * 37)).onBoot (fun b => { b with inReset := false });
  (s.boot.pornLow = false) ∧ (s.boot.powered = true) ∧ (s.boot.inReset = false) := by decide +kernel
theorem witness_BattenMeasuresRings_11 :
  let r : Fin 8 := 2;
  let s : State := State.reset.wr R.BTN_STATUS_RINGUP 4 |>.wr (R.BTN_RSTAT_CWUP 2) 1 |>.wr (R.BTN_RSTAT_CCWUP 2) 1;
  (s.ringUp r.val = true) ∧ (s.bothLoops r.val = true) := by decide +kernel
theorem witness_BattenMeasuresRings_12 :
  let r : Fin 8 := 2;
  let ccw : Bool := true;
  let s : State := State.reset.wr R.BTN_STATUS_RINGUP 4 |>.wr (R.BTN_RSTAT_CWUP 2) 0 |>.wr (R.BTN_RSTAT_CCWUP 2) 1;
  (s.ringUp r.val = true) ∧ (s.on (if ccw then R.BTN_RSTAT_CCWUP r.val else R.BTN_RSTAT_CWUP r.val) = true) ∧ (s.bothLoops r.val = false) := by decide +kernel
theorem witness_BattenMeasuresRings_13 :
  let n : Fin 64 := 4;
  let row : Fin 32 := 9;
  let s : State := ({ State.reset with btn := { State.reset.btn with refMiss := [(137, 300)] } } : State);
  (max 1 (s.rd R.BTN_PROOFCFG_REFMISS) ≤ mapGet 0 s.btn.refMiss (32 * n.val + row.val)) := by decide +kernel
theorem witness_BattenMeasuresRings_14 :
  let s : State := State.reset;
  let n : Fin 64 := 4;
  let row : Fin 32 := 9;
  (mapGet 0 s.btn.refMiss (32 * n.val + row.val) = 0) := by decide +kernel
theorem witness_FaultReportsCoalesce_1 :
  let r : Report := { src := 9, code := 3, sev := 1, unit := 4, detail := 0x55, time := 777 };
  let rest : List Report := [];
  let s : State := { State.reset with flt := { State.reset.flt with fifo := [r], opens := [FltEntry.ofReport { r with time := 5, unit := 2 }] } };
  (s.flt.fifo = r :: rest) ∧ (s.flt.opens.any (·.hasKey r.src r.code) = true) := by decide +kernel
theorem witness_FaultReportsCoalesce_2 :
  let r : Report := { src := 9, code := 3, sev := 1, unit := 4, detail := 0x55, time := 777 };
  let rest : List Report := [];
  let s : State := { State.reset with flt := { State.reset.flt with fifo := [r], opens := [FltEntry.ofReport { r with code := 5, unit := 2 }] } };
  (s.flt.fifo = r :: rest) ∧ (s.flt.opens.any (·.hasKey r.src r.code) = false) ∧ (fltTableRoom s.flt.opens r.sev = true) ∧ (r.sev < 3) := by decide +kernel
theorem witness_FaultReportsCoalesce_3 :
  let r : Report := { src := 9, code := 3, sev := 3, unit := 4, detail := 0x55, time := 777 };
  let rest : List Report := [];
  let s : State := ({ State.reset with flt := { State.reset.flt with fifo := [r] } } : State).wr R.FLT_CTL_STOPFULL 0;
  (s.flt.fifo = r :: rest) ∧ (s.flt.opens.any (·.hasKey r.src r.code) = false) ∧ (fltTableRoom s.flt.opens r.sev = true) ∧ (3 ≤ r.sev) ∧
  (s.flt.wbusy = 0) ∧ (s.flt.wq = []) ∧ (s.rd R.FLT_CTL_STOPFULL = 0) := by decide +kernel
theorem witness_FaultReportsCoalesce_4 :
  let src : Nat := 9;
  let code : Nat := 3;
  let e : FltEntry := FltEntry.ofReport { src := 9, code := 3, sev := 1, unit := 4, detail := 0x55, time := 777 };
  let s : State := { State.reset with flt := { State.reset.flt with opens := [e], wbusy := 1 % 3 } };
  (s.flt.opens.find? (·.hasKey src code) = some e) ∧ (e.count ≠ 0) ∧ (s.fltRoom = true) := by decide +kernel
theorem witness_FaultReportsCoalesce_5 :
  let src : Nat := 9;
  let code : Nat := 3;
  let e : FltEntry := FltEntry.ofReport { src := 9, code := 3, sev := 1, unit := 4, detail := 0x55, time := 777 };
  let s : State := { State.reset with flt := { State.reset.flt with opens := [e], wq := List.replicate 64 e } };
  (s.flt.opens.find? (·.hasKey src code) = some e) ∧ (e.count ≠ 0) ∧ (s.fltRoom = false) := by decide +kernel
theorem witness_RegisterAccesses_1 :
  let s : State := hostOn State.reset;
  (s.barOn = true) ∧ (s.girtReg girtHost 0x40 true = true) := by decide +kernel
theorem witness_RegisterAccesses_2 :
  let v : BitVec 64 := BitVec.ofNat 64 (1 % 16);
  let s : State := hostOn State.reset;
  (s.barOn = true) ∧ (s.girtReg girtHost 0x30 true = true) ∧ (v.toNat < 16) ∧ (s.rd R.GLB_INTSTAT_STAGECHG ≤ 1) ∧ (s.rd
  R.GLB_INTSTAT_ACCERR ≤ 1) ∧ (s.rd R.GLB_INTSTAT_KEYBAD ≤ 1) ∧ (s.rd R.GLB_INTSTAT_RSTDONE ≤ 1) := by decide +kernel
theorem witness_RegisterAccesses_3 :
  let be : BitVec 8 := 3;
  let s : State := hostOn State.reset;
  (s.barOn = true) ∧ (be ≠ 0x0F#8) ∧ (be ≠ 0xF0#8) ∧ (be ≠ 0xFF#8) := by decide +kernel
theorem witness_RegisterAccesses_4 :
  let s : State := hostOn State.reset;
  (s.barOn = true) ∧ (s.girtReg girtHost 0x44 true = true) := by decide +kernel
theorem witness_RegisterAccesses_5 :
  let s : State := (hostOn State.reset).wr (R.GRT_RIGHTS_RIGHTS 64) 0;
  (s.barOn = true) ∧ (s.girtReg girtHost 0x40 true = false) := by decide +kernel
theorem witness_RegisterAccesses_6 :
  let s : State := State.reset.onHif (fun h => { h with d3 := true });
  (s.barOn = false) := by decide +kernel
theorem witness_RegisterAccesses_7 :
  let s : State := (hostOn State.reset).wr R.GLB_SCRATCH_DATA 0x1234;
  (s.barOn = true) ∧ (s.girtReg girtHost 0x40 false = true) ∧ (s.rd R.GLB_SCRATCH_DATA < 2 ^ 32) := by decide +kernel
theorem witness_RegisterAccesses_8 :
  let s : State := hostOn State.reset;
  (s.barOn = true) ∧ (s.girtReg girtHost 0x38 false = true) := by decide +kernel
theorem witness_RegisterAccesses_9 :
  let s : State := (hostOn State.reset).wr R.HIF_CTL_GVECEN (1 % 2) |>.wr R.GLB_SUMEN_EN 0x3FFFFF |>.wr R.GLB_INTEN_EN 15 |>.wr R.GLB_INTSTAT_KEYBAD (1 / 2 % 2);
  (s.barOn = true) ∧ (s.girtReg girtHost 0x28 true = true) := by decide +kernel
theorem witness_RegisterAccesses_10 :
  let s : State := State.reset;
  (s.boot.pornLow = false) ∧ (s.boot.powered = true) := by decide +kernel
theorem witness_RegisterAccesses_11 :
  let s : State := State.reset;
  let addr : BitVec 40 := 0x17FFFFFFFF;
  (s.boot.pornLow = false) ∧ (s.boot.powered = true) ∧ (addr.toNat < hbmSize) := by decide +kernel
theorem witness_RegisterAccesses_12 :
  let s : State := State.reset;
  (s.boot.pornLow = false) ∧ (s.boot.powered = true) := by decide +kernel
theorem witness_EncoderMovesTheScanState_1 :
  let s : State := { State.reset with clk := { State.reset.clk with ticks := 100 }, tnn := { State.reset.tnn with edgeTick := 60, count := -4 } };
  (s.tnn.edgeTick + 5 ≤ s.clk.ticks) := by decide +kernel
theorem witness_EncoderMovesTheScanState_2 :
  let s : State := { State.reset with clk := { State.reset.clk with ticks := 64 }, tnn := { State.reset.tnn with edgeTick := 60, count := -4 } };
  (s.clk.ticks < s.tnn.edgeTick + 5) := by decide +kernel
theorem witness_EncoderMovesTheScanState_3 :
  let s : State := { (State.reset.wr R.TNN_ENCCFG_CPR 1000) with tnn := { State.reset.tnn with indexSeen := true, count := 1001 } };
  (s.tnn.indexSeen = true) ∧ ((revRest s.tnn.count s.cpr).natAbs ≤ 2) := by decide +kernel
theorem witness_EncoderMovesTheScanState_4 :
  let s : State := { (State.reset.wr R.TNN_ENCCFG_CPR 1000) with tnn := { State.reset.tnn with indexSeen := true, count := 1003 } };
  (s.tnn.indexSeen = true) ∧ (2 < (revRest s.tnn.count s.cpr).natAbs) := by decide +kernel
theorem witness_EncoderMovesTheScanState_5 :
  let s : State := { (State.reset.wr R.TNN_ENCCFG_CPR 1000) with clk := { State.reset.clk with ticks := 110 }, tnn := { State.reset.tnn with count := -1500, interval := 100, edgeTick := 10, reverse := true } };
  (fLe (fInt 10) (fAbs s.speed) = true) ∧ (3 * s.cpr ≤ 2 * s.tnn.count.natAbs) := by decide +kernel
theorem witness_EncoderMovesTheScanState_6 :
  let s : State := { (State.reset.wr R.TNN_ENCCFG_CPR 1000) with clk := { State.reset.clk with ticks := 110 }, tnn := { State.reset.tnn with count := 1499, interval := 100, edgeTick := 10 } };
  (fLe (fInt 10) (fAbs s.speed) = false ∨ 2 * s.tnn.count.natAbs < 3 * s.cpr) := by decide +kernel
theorem witness_EncoderMovesTheScanState_7 :
  let s : State := State.reset.wr R.TNN_STATUS_SCANVALID 0;
  (s.rd R.TNN_STATUS_SCANVALID = 0) ∧ (s.phiValid = false) := by decide +kernel
theorem witness_EncoderMovesTheScanState_8 :
  let s : State := { ((State.reset.wr R.TNN_STATUS_SCANVALID 1).wr R.TRS_STATE_STATE 1).wr R.TRS_EXPCFG_PHTOL 5 |>.wr R.TNN_ENCCFG_CPR 1000 with clk := { State.reset.clk with ticks := 10 }, tnn := { State.reset.tnn with count := 500, interval := 100, edgeTick := 10 }, trs := { State.reset.trs with phase := { counts := 0, revCnt := 1000, revLsb := 100000, edgeLsb := 5120, indexLsb := 5120, seen := true } } };
  (s.rd R.TNN_STATUS_SCANVALID ≠ 0) ∧ (s.phiValid = true) ∧ (max 1 (s.rd R.TRS_EXPCFG_PHTOL) * 2 ^ 16 < (toSigned 32 ((s.phiT + (2 ^ 32
  - s.phi)) % 2 ^ 32)).natAbs) ∧ (s.trsState = 1) := by decide +kernel
theorem witness_EncoderMovesTheScanState_10 :
  let s : State := { (State.reset.wr R.TNN_SPCFG_SUTIME 5).wr R.GLB_STATUS_STAGE 0x0D with tnn := { State.reset.tnn with spinTimer := true } };
  (s.tnn.spinTimer = true) ∧ (s.rd R.TNN_SPCFG_SUTIME ≠ 0) ∧ (s.rd R.GLB_STATUS_STAGE ≠ 0x0A) := by decide +kernel
theorem witness_EncoderMovesTheScanState_11 :
  let s : State := { (State.reset.wr R.TNN_SPCFG_SUTIME 5).wr R.GLB_STATUS_STAGE 0x0A with tnn := { State.reset.tnn with spinTimer := true } };
  (s.tnn.spinTimer = true) ∧ (s.rd R.TNN_SPCFG_SUTIME ≠ 0) ∧ (s.rd R.GLB_STATUS_STAGE = 0x0A) := by decide +kernel
theorem witness_SpindleLoopRuns_1 :
  let s : State := State.reset.wr R.TNN_STATUS_SPMODE 0;
  (s.tnn.spSwap = false) ∧ (s.spMode = 0) ∧ (s.tnn.cap = none) := by decide +kernel
theorem witness_SpindleLoopRuns_2 :
  let s : State := State.reset.wr R.TNN_STATUS_SPMODE 1;
  (s.tnn.spSwap = false) ∧ (s.spMode = 1) ∧ (s.tnn.cap = none) := by decide +kernel
theorem witness_SpindleLoopRuns_3 :
  let s : State := State.reset.wr R.TNN_STATUS_SPMODE 4 |>.wr R.TNN_SPOPEN_U 0x3E000000;
  (s.tnn.spSwap = false) ∧ (s.spMode = 4) ∧ (s.tnn.cap = none) ∧ (s.tnn.inj = none) := by decide +kernel
theorem witness_SpindleLoopRuns_4 :
  let s : State := State.reset.wr R.TNN_STATUS_SPMODE 2;
  let l : LoopState := (loopStep (s.speedCoef s.spBank) (tsOf false) s.tnn.sp (s.speedIn (rampToward (s.fr (R.TNN_SP_RAMP s.spBank)) s.tnn.setpoint s.target) 0 0 (blendAt s.tnn.blend0 s.tnn.blendN))).1;
  let sat : Bool := (loopStep (s.speedCoef s.spBank) (tsOf false) s.tnn.sp (s.speedIn (rampToward (s.fr (R.TNN_SP_RAMP s.spBank)) s.tnn.setpoint s.target) 0 0 (blendAt s.tnn.blend0 s.tnn.blendN))).2;
  (s.tnn.spSwap = false) ∧ (s.spMode = 2) ∧ (s.tnn.cap = none) ∧ (s.tnn.inj = none) ∧ (s.tnn.phaseLoop = false) ∧ (s.tnn.engage = false)
  ∧ (loopStep (s.speedCoef s.spBank) (tsOf false) s.tnn.sp (s.speedIn (rampToward (s.fr (R.TNN_SP_RAMP s.spBank)) s.tnn.setpoint
  s.target) 0 0 (blendAt s.tnn.blend0 s.tnn.blendN)) = (l, sat)) := by decide +kernel
theorem witness_SpindleLoopRuns_5 :
  let s : State := { State.reset.wr R.TNN_STATUS_SPMODE 3 with tnn := { State.reset.tnn with phaseLoop := true } };
  let l : LoopState := (loopStep (s.phaseCoef s.spBank) (tsOf false) s.tnn.sp (s.phaseIn 0 0 (blendAt s.tnn.blend0 s.tnn.blendN))).1;
  let sat : Bool := (loopStep (s.phaseCoef s.spBank) (tsOf false) s.tnn.sp (s.phaseIn 0 0 (blendAt s.tnn.blend0 s.tnn.blendN))).2;
  (s.tnn.spSwap = false) ∧ (s.spMode = 3) ∧ (s.tnn.cap = none) ∧ (s.tnn.inj = none) ∧ (s.tnn.phaseLoop = true) ∧ (s.tnn.fall = false) ∧
  (s.tnn.engage = false) ∧ (loopStep (s.phaseCoef s.spBank) (tsOf false) s.tnn.sp (s.phaseIn 0 0 (blendAt s.tnn.blend0 s.tnn.blendN))
  = (l, sat)) := by decide +kernel
theorem witness_SpindleLoopRuns_6 :
  let s : State := { (State.reset.wr R.TNN_STATUS_SPMODE 3).wr R.TNN_LOCKCFG_CAPCNT 4 |>.wr R.TNN_ENCCFG_CPR 1000 |>.wr R.TNN_SPCFG_REVS 0 |>.wr R.TNN_SPCFG_FACETS 4 with tnn := { State.reset.tnn with capN := 10, count := 0, interval := 0 }, peg := { State.reset.peg with clockOn := false } };
  (s.tnn.spSwap = false) ∧ (s.spMode = 3) ∧ (s.tnn.cap = none) ∧ (s.tnn.inj = none) ∧ (s.tnn.phaseLoop = false) ∧ (s.tnn.fall = false) ∧
  (max 1 (s.rd R.TNN_LOCKCFG_CAPCNT) ≤ s.capNow) ∧ (turnWithin s.phaseErr 5 1000 = true) := by decide +kernel
theorem witness_SpindleLoopRuns_7 :
  let s : State := { State.reset.wr R.TNN_STATUS_SPMODE 2 with tnn := { State.reset.tnn with capN := 100000, spinTimer := true } };
  (s.spMode = 2 ∨ s.spMode = 3) ∧ (s.tnn.phaseLoop = false) ∧ (max 1 (s.rd R.TNN_LOCKCFG_CAPCNT) ≤ s.tnn.capN) := by decide +kernel
theorem witness_SpindleLoopRuns_8 :
  let s : State := { (State.reset.wr R.TNN_STATUS_SPMODE 3).wr R.TNN_STATUS_SPLOCK 0 with tnn := { State.reset.tnn with lockN := 100000, phaseLoop := true } };
  (s.spMode = 3) ∧ (s.tnn.phaseLoop = true) ∧ (s.rd R.TNN_STATUS_SPLOCK = 0) ∧ (max 1 (s.rd R.TNN_LOCKCFG_LOCKCNT) ≤ s.tnn.lockN) := by decide +kernel
theorem witness_SpindleLoopRuns_9 :
  let s : State := { State.reset with tnn := { State.reset.tnn with blendN := 2500 } };
  (2500 ≤ s.tnn.blendN) := by decide +kernel
theorem witness_SpindleLoopRuns_10 :
  let s : State := { ((State.reset.wr R.TNN_STATUS_SPMODE 3).wr R.TNN_FECNT_SP 60000).wr (R.TNN_SP_FETIME State.reset.spBank) 100 with tnn := { State.reset.tnn with phaseLoop := true } };
  (s.spMode = 3) ∧ (s.tnn.phaseLoop = true) ∧ (feTrip (s.rd (R.TNN_SP_FETIME s.spBank)) ≤ s.rd R.TNN_FECNT_SP) := by decide +kernel
theorem witness_SpindleLoopRuns_11 :
  let s : State := { ((State.reset.wr R.TNN_STATUS_TLMODE 2).wr R.TNN_FECNT_TL 60000).wr (R.TNN_TL_FETIME State.reset.tlBank) 100 with tnn := { State.reset.tnn with tlTrip := false } };
  (s.tlMode = 1 ∨ s.tlMode = 2) ∧ (s.tnn.tlTrip = false) ∧ (feTrip (s.rd (R.TNN_TL_FETIME s.tlBank)) ≤ s.rd R.TNN_FECNT_TL) := by decide +kernel
theorem witness_TiltLoopAndItsRequests_1 :
  let s : State := State.reset.wr R.SIL_STATUS_REFRDY 0;
  (s.tnn.tlSwap = false) ∧ (s.tnn.cap = none) ∧ (s.rd R.TNN_TLCFG_AXPIN = s.rd R.SIL_INJCFG_NPIN ∨ s.rd R.SIL_STATUS_REFRDY = 0) := by decide +kernel
theorem witness_TiltLoopAndItsRequests_2 :
  let s : State := ((State.reset.wr R.SIL_STATUS_REFRDY 1).wr R.TNN_TLCFG_AXPIN 3).wr R.SIL_INJCFG_NPIN 4;
  (s.tnn.tlSwap = false) ∧ (s.rd R.TNN_TLCFG_AXPIN ≠ s.rd R.SIL_INJCFG_NPIN) ∧ (s.rd R.SIL_STATUS_REFRDY ≠ 0) := by decide +kernel
theorem witness_TiltLoopAndItsRequests_3 :
  let wbPins : BitVec 24 := 4;
  let s : State := { State.reset with sil := { State.reset.sil with injPend := true, injP := 2, injN := 5 } };
  (s.sil.injPend = true) ∧ (s.tnn.cap = none) ∧ (ownPins (some (s.sil.injP, s.sil.injN)) wbPins ≠ 0) := by decide +kernel
theorem witness_TiltLoopAndItsRequests_4 :
  let codes : List (BitVec 18) := List.replicate 16 1000;
  let s : State := { State.reset.wr R.SIL_STATUS_INJ1 0 |>.wr R.TNN_TLCFG_TLOS 4 with sil := { State.reset.sil with injPend := true } };
  let v : Int := (convResult (firstCodes (2 ^ s.rd R.TNN_TLCFG_TLOS) codes) (s.silCor (s.on R.SIL_STATUS_INJ1)).1 (s.silCor (s.on R.SIL_STATUS_INJ1)).2).1;
  (s.sil.injPend = true) ∧ (s.tnn.cap = none) ∧ (convResult (firstCodes (2 ^ s.rd R.TNN_TLCFG_TLOS) codes) (s.silCor (s.on
  R.SIL_STATUS_INJ1)).1 (s.silCor (s.on R.SIL_STATUS_INJ1)).2 = (v, false)) := by decide +kernel
theorem witness_TiltLoopAndItsRequests_5 :
  let s : State := { State.reset with tnn := { State.reset.tnn with tlBad := 3 } };
  (3 ≤ s.tnn.tlBad) := by decide +kernel
theorem witness_TiltLoopAndItsRequests_7 :
  let s : State := State.reset;
  let m : BitVec 3 := 5;
  (4 ≤ m.toNat ∨ s.tlBankOk s.tlBank = false ∨ ((m.toNat = 1 ∨ m.toNat = 2) ∧ 24 ≤ s.rd R.TNN_TLCFG_AXPIN)) := by decide +kernel
theorem witness_TiltLoopAndItsRequests_9 :
  let s : State := { State.reset with tnn := { State.reset.tnn with tlSwap := true } };
  (s.tnn.tlSwap = true) := by decide +kernel
theorem witness_TiltLoopAndItsRequests_10 :
  let s : State := (State.reset.wr R.TNN_STATUS_TLBANK 0).wr (R.TNN_TL_UMAX 1) 0 |>.wr (R.TNN_TL_UMIN 1) 0;
  (s.tnn.tlSwap = false) ∧ (s.tlBankOk (1 - s.tlBank) = false) := by decide +kernel
theorem witness_SpindleRequestsInjectionCapture_2 :
  let s : State := State.reset;
  let m : BitVec 3 := 7;
  (5 ≤ m.toNat ∨ s.spBankOk s.spBank = false ∨ ((m.toNat = 2 ∨ m.toNat = 3) ∧ (s.rd R.TNN_ENCCFG_CPR < 256 ∨ s.spindleOk (s.rd
  R.TNN_SPCFG_FACETS) (s.rd R.TNN_SPCFG_REVS) = false))) := by decide +kernel
theorem witness_SpindleRequestsInjectionCapture_3 :
  let v : Word := 0x51046;
  let s : State := State.reset.wr R.PEG_FRAME_PERIOD 10000000;
  (s.periods.all (fun p => targetOk (v.toNat / 32 % 128) p) = true) := by decide +kernel
theorem witness_SpindleRequestsInjectionCapture_4 :
  let s : State := State.reset;
  let v : Word := 0x50006;
  (s.periods.all (fun p => targetOk (v.toNat / 32 % 128) p) = false) := by decide +kernel
theorem witness_SpindleRequestsInjectionCapture_6 :
  let s : State := { State.reset with tnn := { State.reset.tnn with spSwap := true } };
  (s.tnn.spSwap = true) := by decide +kernel
theorem witness_SpindleRequestsInjectionCapture_7 :
  let s : State := (State.reset.wr R.TNN_STATUS_SPBANK 0).wr (R.TNN_SP_UMAX 1) 0 |>.wr (R.TNN_SP_UMIN 1) 0;
  (s.tnn.spSwap = false) ∧ (s.spBankOk (1 - s.spBank) = false) := by decide +kernel
theorem witness_SpindleRequestsInjectionCapture_8 :
  let s : State := (State.reset.wr R.TNN_INJCFG_LOOP 2).wr R.TNN_STATUS_TLMODE 1 |>.wr R.TNN_INJCFG_SHAPE 1;
  (s.rd R.TNN_INJCFG_LOOP = 1 ∧ 1 < s.spMode ∨ s.rd R.TNN_INJCFG_LOOP = 2 ∧ s.tlMode ≠ 0) ∧ (s.rd R.TNN_INJCFG_SHAPE ≠ 3) := by decide +kernel
theorem witness_SpindleRequestsInjectionCapture_9 :
  let s : State := State.reset.wr R.TNN_INJCFG_LOOP 0;
  (s.rd R.TNN_INJCFG_LOOP = 0 ∨ s.rd R.TNN_INJCFG_LOOP = 3 ∨ s.rd R.TNN_INJCFG_SHAPE = 3 ∨ (s.rd R.TNN_INJCFG_LOOP = 1 ∧ s.spMode ≤ 1) ∨
  (s.rd R.TNN_INJCFG_LOOP = 2 ∧ s.tlMode = 0)) := by decide +kernel
theorem witness_SpindleRequestsInjectionCapture_11 :
  let i : Inject := { tilt := false, output := false, shape := 1, n := 9, lfsr := 1, stop := false };
  let s : State := { State.reset.wr R.TNN_INJLEN_LEN 9 with tnn := { State.reset.tnn with inj := some i } };
  (s.tnn.inj = some i) ∧ (s.rd R.TNN_INJLEN_LEN ≠ 0) ∧ (s.rd R.TNN_INJLEN_LEN ≤ i.n) := by decide +kernel
theorem witness_SpindleRequestsInjectionCapture_12 :
  let addr : Nat := State.reset.fwu.alloc.scratch.1 + 32;
  let n : Nat := 65536;
  let s : State := (State.reset.wr R.TNN_CAPADDRLO_ADDR (addr % 2 ^ 32)).wr R.TNN_CAPADDRHI_ADDR (addr / 2 ^ 32) |>.wr R.TNN_CAPCFG_LOOP 1 |>.wr R.TNN_CAPCFG_LEN 0;
  (s.rd R.TNN_CAPADDRLO_ADDR + 2 ^ 32 * s.rd R.TNN_CAPADDRHI_ADDR = addr) ∧ (s.rd R.TNN_CAPCFG_LOOP = 1 ∨ s.rd R.TNN_CAPCFG_LOOP = 2) ∧
  (addr % 16 = 0) ∧ (s.fwu.alloc.scratch.1 ≤ addr) ∧ (n = (if s.rd R.TNN_CAPCFG_LEN = 0 then 65536 else s.rd R.TNN_CAPCFG_LEN)) ∧
  (addr + 16 * n ≤ s.fwu.alloc.scratch.1 + s.fwu.alloc.scratch.2) := by decide +kernel
theorem witness_SpindleRequestsInjectionCapture_13 :
  let s : State := State.reset.wr R.TNN_CAPADDRLO_ADDR 8;
  let addr : Nat := s.rd R.TNN_CAPADDRLO_ADDR + 2 ^ 32 * s.rd R.TNN_CAPADDRHI_ADDR;
  let n : Nat := if s.rd R.TNN_CAPCFG_LEN = 0 then 65536 else s.rd R.TNN_CAPCFG_LEN;
  (s.rd R.TNN_CAPADDRLO_ADDR + 2 ^ 32 * s.rd R.TNN_CAPADDRHI_ADDR = addr) ∧ (n = (if s.rd R.TNN_CAPCFG_LEN = 0 then 65536 else s.rd
  R.TNN_CAPCFG_LEN)) ∧ (s.rd R.TNN_CAPCFG_LOOP = 0 ∨ s.rd R.TNN_CAPCFG_LOOP = 3 ∨ addr % 16 ≠ 0 ∨ addr < s.fwu.alloc.scratch.1 ∨
  s.fwu.alloc.scratch.1 + s.fwu.alloc.scratch.2 < addr + 16 * n) := by decide +kernel
theorem witness_SpindleRequestsInjectionCapture_14 :
  let c : RespCap := { tilt := false, addr := 0, len := 4, n := 4, waitInj := false };
  let s : State := { State.reset with tnn := { State.reset.tnn with cap := some c } };
  (s.tnn.cap = some c) ∧ (c.len ≤ c.n) := by decide +kernel
theorem witness_TrussKeyWindowAndHolds_2 :
  let s : State := State.reset.onTrs (fun t => { t with keySeq := true });
  (s.trs.keySeq = true) := by decide +kernel
theorem witness_TrussKeyWindowAndHolds_4 :
  let s : State := State.reset;
  let v : Word := 77;
  (v ≠ 0) ∧ (v ≠ 0x54525553#32) ∧ (v = 0xABADAAAC#32 → s.trs.keySeq = false) := by decide +kernel
theorem witness_TrussKeyWindowAndHolds_8 :
  let s : State := (State.reset.wr R.TRS_STATE_STATE 3).onTrs (fun t => { t with darkHold := true });
  (s.trs.darkHold = true) ∧ (s.trsState = 3) := by decide +kernel
theorem witness_TrussKeyWindowAndHolds_9 :
  let s : State := State.reset.onTrs (fun t => { t with darkHold := false });
  (s.trs.darkHold = false) := by decide +kernel
theorem witness_TrussKeyWindowAndHolds_10 :
  let s : State := (State.reset.wr R.TRS_STATE_STATE 3).onTrs (fun t => { t with armDue := .release });
  (s.trs.armDue = .release) ∧ (s.trsState = 3) := by decide +kernel
theorem witness_TrussKeyWindowAndHolds_12 :
  let s : State := (lit State.reset).onTrs (fun t => { t with darkRel := true });
  (s.trs.darkRel = true) ∧ (s.lightOk = true) := by decide +kernel
theorem witness_TrussKeyWindowAndHolds_13 :
  let s : State := (lit State.reset).onTrs (fun t => { t with hushReq := true, withdraw := true });
  (s.trs.withdraw = true) ∧ (s.trs.hushReq = true) ∧ (s.lightOk = true) ∧ (∀ r : Fin 8, sendsBoth s r.val) := by delta sendsBoth; decide +kernel
theorem witness_TrussKeyWindowAndHolds_14 :
  let s : State := State.reset.onTrs (fun t => { t with hushReq := true });
  (s.trs.hushReq = true) ∧ (∀ r : Fin 8, sendsBoth s r.val) := by delta sendsBoth; decide +kernel
theorem witness_TrussFaultsStopLight_1 :
  let i : Fin 16 := 3;
  let s : State := (State.reset.wr R.TRS_STATE_STATE 1).wr R.TRS_CTL_FEPOAS 0;
  (s.trsState = 1) ∧ (s.rd R.TRS_CTL_FEPOAS = 0) ∧ (i.val ≠ 15) := by decide +kernel
theorem witness_TrussFaultsStopLight_2 :
  let i : Fin 16 := 3;
  let s : State := (State.reset.wr R.TRS_STATE_STATE 1).wr R.TRS_CTL_FEPOAS 1;
  (s.trsState = 1) ∧ (s.rd R.TRS_CTL_FEPOAS ≠ 0) ∧ (i.val ≠ 15) := by decide +kernel
theorem witness_TrussFaultsStopLight_3 :
  let s : State := State.reset.wr R.TRS_STATE_STATE (1 % 4);
  (s.trsState ≠ 4) := by decide +kernel
theorem witness_TrussFaultsStopLight_4 :
  let s : State := State.reset.wr R.TRS_STATE_STATE 1;
  (s.trsState = 1) := by decide +kernel
theorem witness_TrussFaultsStopLight_5 :
  let s : State := (State.reset.wr R.TRS_STATE_STATE 1).wr R.TRS_CTL_FEPOAS 0;
  (s.trsState = 1) ∧ (s.rd R.TRS_CTL_FEPOAS = 0) := by decide +kernel
theorem witness_TrussFaultsStopLight_6 :
  let s : State := ((State.reset.wr R.TRS_STATE_STATE 1).wr R.TRS_STATE_DARKCMD 1).onClk (fun c => { c with porTicks := 1000 });
  let dark : Bool := false;
  (s.trsState = 1) ∧ (s.trs.darkBad = 0) ∧ (dark ≠ s.on R.TRS_STATE_DARKCMD) ∧ (s.trs.darkTick + 200 < s.clk.porTicks) := by decide +kernel
theorem witness_TrussFaultsStopLight_7 :
  let s : State := ((State.reset.wr R.TRS_STATE_STATE 1).wr R.TRS_STATE_DARKCMD 1).onClk (fun c => { c with porTicks := 200 });
  let dark : Bool := false;
  (dark ≠ s.on R.TRS_STATE_DARKCMD) ∧ (s.clk.porTicks ≤ s.trs.darkTick + 200) := by decide +kernel
theorem witness_TrussFaultsStopLight_8 :
  let s : State := State.reset.wr R.TRS_STATE_DARKCMD 1;
  let dark : Bool := true;
  (dark = s.on R.TRS_STATE_DARKCMD) := by decide +kernel
theorem witness_TrussFaultsStopLight_9 :
  let s : State := (State.reset.wr R.TRS_STATE_STATE 1).onTrs (fun t => { t with hushReq := true });
  (s.trsState = 1) ∧ (s.trs.hushReq = true) := by decide +kernel
theorem witness_TrussFaultsStopLight_10 :
  let s : State := State.reset.wr R.TRS_STATE_STATE 1;
  let good : BitVec 32 := 0xFFFFFFFE;
  (s.trsState = 1) ∧ (good ≠ 0xFFFFFFFF#32) := by decide +kernel
theorem witness_TrussFaultsStopLight_12 :
  let s : State := State.reset.wr R.TRS_STATE_STATE 1;
  (s.trsState = 1) := by decide +kernel
theorem witness_TrussFaultsStopLight_14 :
  let s : State := State.reset.wr R.TRS_STATE_STATE (1 % 4);
  (s.trsState ≠ 4) := by decide +kernel
theorem witness_TrussFaultsStopLight_15 :
  let s : State := State.reset.wr R.TRS_STATE_STATE (1 % 4);
  (s.trsState ≠ 4) := by decide +kernel
theorem witness_TrussFaultsStopLight_16 :
  let s : State := State.reset.wr R.TRS_STATE_STATE (1 % 4);
  (s.trsState ≠ 4) := by decide +kernel
theorem witness_TrussInputsAndOutputs_2 :
  let k : Fin 8 := 4;
  let legB : Bool := 1 % 2 == 0;
  let s : State := State.reset.wr (R.TRS_INCFG_MODE 4) (1 + 1 % 2) |>.wr (R.TRS_INCHAT_CHATN 4) 0 |>.wr (R.TRS_INSTAT_STATE 4) 0 |>.wr (R.TRS_INSTAT_ALVL 4) (1 / 2 % 2) |>.wr (R.TRS_INSTAT_BLVL 4) (1 / 3 % 2) |>.setInput 4 (fun i => { i with cntA := 3000, cntB := 3000 });
  (s.rd (R.TRS_INCFG_MODE k.val) ≠ 0) ∧ (s.filtSamples k.val ≤ (if legB then (s.input k.val).cntB else (s.input k.val).cntA)) ∧ (s.rd
  (R.TRS_INCHAT_CHATN k.val) = 0) := by decide +kernel
theorem witness_TrussInputsAndOutputs_3 :
  let k : Fin 8 := 4;
  let s : State := State.reset.wr (R.TRS_INSTAT_STATE 4) 1 |>.setInput 4 (fun i => { i with disc := 1 });
  ((s.input k.val).disc ≠ 0) ∧ (s.rd (R.TRS_INSTAT_STATE k.val) ≠ 2) := by decide +kernel
theorem witness_TrussInputsAndOutputs_4 :
  let k : Fin 4 := 2;
  let s : State := State.reset.wr (R.TRS_SOUTCFG_EN 2) 1 |>.wr R.TRS_STATE_SOUTCMD 4;
  (s.rd (R.TRS_SOUTCFG_EN k.val) ≠ 0) ∧ (s.soutCmd.testBit k.val = true) := by decide +kernel
theorem witness_TrussInputsAndOutputs_5 :
  let k : Fin 4 := 2;
  let s : State := State.reset.wr (R.TRS_SOUTCFG_EN 2) 1 |>.wr R.TRS_STATE_SOUTCMD 4;
  let level : Bool := true;
  let pulse : Bool := false;
  (level = (s.soutCmd.testBit k.val && !pulse)) ∧ (s.rd (R.TRS_SOUTCFG_EN k.val) ≠ 0) := by decide +kernel
theorem witness_TrussInputsAndOutputs_6 :
  let k : Fin 4 := 2;
  let s : State := State.reset.wr (R.TRS_SOUTCFG_EN 2) 1 |>.wr R.TRS_STATE_SOUTCMD 4 |>.wr R.TRS_STATE_STATE 1 |>.wr R.TRS_CTL_FEPOAS 0 |>.onTrs (fun t => { t with fbBad := [(2, 1)] });
  let level : Bool := false;
  let pulse : Bool := false;
  (level ≠ (s.soutCmd.testBit k.val && !pulse)) ∧ (mapGet 0 s.trs.fbBad k.val = 1) ∧ (s.rd (R.TRS_SOUTCFG_EN k.val) ≠ 0) ∧ (s.trsState =
  1) ∧ (s.rd R.TRS_CTL_FEPOAS = 0) := by decide +kernel
theorem witness_TrussInputsAndOutputs_7 :
  let lowUs : Nat := 5000000;
  let s : State := State.reset.wr R.TRS_STATE_KEYOPEN 1 |>.wr R.TRS_STATE_STATE 3 |>.wr R.TRS_SUPSTAT_INWIN 0xFFFF;
  (s.rd R.TRS_STATE_KEYOPEN ≠ 0) ∧ (100000 ≤ lowUs) ∧ (lowUs ≤ 5000000) ∧ (s.trsState = 3) ∧ (s.condStands = false) := by decide +kernel
theorem witness_TrussInputsAndOutputs_8 :
  let lowUs : Nat := 99999;
  let s : State := State.reset.wr R.TRS_STATE_KEYOPEN 1;
  (s.rd R.TRS_STATE_KEYOPEN ≠ 0) ∧ (lowUs < 100000 ∨ 5000000 < lowUs ∨ s.trsState ≠ 3 ∨ s.condStands = true) := by decide +kernel
theorem witness_TrussInputsAndOutputs_9 :
  let lowUs : Nat := 100000;
  let s : State := (State.reset.wr R.TRS_STATE_KEYOPEN 0).onTrs (fun t => { t with restart := 0xF });
  (s.rd R.TRS_STATE_KEYOPEN = 0) ∧ (100000 ≤ lowUs) ∧ (lowUs ≤ 5000000) := by decide +kernel
theorem witness_TrussLimpAndBudgets_1 :
  let s : State := State.reset.wr R.TRS_STATE_STATE 2 |>.wr R.TRS_LIMPCFG_CLEART 20 |>.wr R.TRS_LIMPCFG_LIMPT 5;
  (s.trsState = 2) ∧ (s.limpLong = true) ∧ (s.trs.limp.all s.limpAbsent = true) := by decide +kernel
theorem witness_TrussLimpAndBudgets_2 :
  let s : State := State.reset.wr R.TRS_STATE_STATE 2 |>.wr R.TRS_LIMPCFG_CLEART 200 |>.wr R.TRS_LIMPCFG_LIMPT 1;
  (s.limpLong = false) := by decide +kernel
theorem witness_TrussLimpAndBudgets_3 :
  let s : State := State.reset.wr R.TRS_STATE_STATE 2;
  (s.trsState = 2) := by decide +kernel
theorem witness_TrussLimpAndBudgets_4 :
  let l : List BudEntry := [{ pulseMax := 100, lim1 := 1000, lim2 := 2000, valid := true, absorb := true }];
  let s : State := { (((State.reset.wr R.TRS_STATE_KEYOPEN 1).wr R.TRS_BUDADDRLO_ADDR 0).wr R.TRS_BUDADDRHI_ADDR 0).wr R.TRS_BUDCFG_NDIR 1 |>.wr R.TRS_EXPCFG_ABSDIR 0 with hbm := storeBytes 0 [] 0 budgetBytes };
  (s.rd R.TRS_STATE_KEYOPEN ≠ 0) ∧ (s.readBudget (s.rd R.TRS_BUDADDRLO_ADDR + 2 ^ 32 * s.rd R.TRS_BUDADDRHI_ADDR) (s.rd
  R.TRS_BUDCFG_NDIR) = some l) ∧ (BudBank.absorber { ndir := s.rd R.TRS_BUDCFG_NDIR, entries := l } (s.rd R.TRS_EXPCFG_ABSDIR) = true) := by decide +kernel
theorem witness_TrussLimpAndBudgets_5 :
  let s : State := (State.reset.wr R.TRS_STATE_KEYOPEN 1).wr R.TRS_BUDCFG_NDIR 1;
  (s.rd R.TRS_STATE_KEYOPEN ≠ 0) ∧ ((s.readBudget (s.rd R.TRS_BUDADDRLO_ADDR + 2 ^ 32 * s.rd R.TRS_BUDADDRHI_ADDR) (s.rd
  R.TRS_BUDCFG_NDIR)).all (fun l => !BudBank.absorber { ndir := s.rd R.TRS_BUDCFG_NDIR, entries := l } (s.rd R.TRS_EXPCFG_ABSDIR)) =
  true) := by decide +kernel
theorem witness_TrussLimpAndBudgets_6 :
  let s : State := State.reset.wr R.TRS_STATE_KEYOPEN 0;
  (s.rd R.TRS_STATE_KEYOPEN = 0) := by decide +kernel
theorem witness_TrussLimpAndBudgets_7 :
  let s : State := ((State.reset.wr R.TRS_STATE_KEYOPEN 1).wr R.TRS_STATE_STATE 3).wr R.TRS_BUDCFG_STGOK 1;
  (s.rd R.TRS_STATE_KEYOPEN ≠ 0) ∧ (s.rwkStateOk = true) ∧ (s.rd R.TRS_BUDCFG_STGOK ≠ 0) := by decide +kernel
theorem witness_TrussLimpAndBudgets_8 :
  let s : State := (State.reset.wr R.TRS_STATE_KEYOPEN 1).wr R.TRS_STATE_STATE 1;
  (s.rd R.TRS_STATE_KEYOPEN = 0 ∨ s.rwkStateOk = false) := by decide +kernel
theorem witness_TrussLimpAndBudgets_9 :
  let s : State := ((State.reset.wr R.TRS_STATE_KEYOPEN 1).wr R.TRS_STATE_STATE 3).wr R.TRS_BUDCFG_STGOK 0;
  (s.rd R.TRS_STATE_KEYOPEN ≠ 0) ∧ (s.rwkStateOk = true) ∧ (s.rd R.TRS_BUDCFG_STGOK = 0) := by decide +kernel
theorem witness_PegPlansGangs_1 :
  let n : Fin 64 := 0;
  let r : Nat := 0;
  let s : State := planner State.reset;
  let h : HeldGang := ((s.gangSpec (s.epochCfg 0) 0 0 (s.columnsAt (s.epochCfg 0) 0 0 ((s.gangShots 0 (s.epochCfg 0) [0]).headD 0))).getD ({ offsets := [], ec := 0, k := 0, s := 0, listen := false, row := 0, refused := [], tagHeld := false, bookHeld := false }, true)).1;
  let cols : List GangCol := (s.limitCols h.k (s.gangShots 0 (s.epochCfg 0) h.offsets) (s.columnsAt (s.epochCfg 0) 0 0 (((s.gangShots 0 (s.epochCfg 0) h.offsets).headD 0 + (s.gangShots 0 (s.epochCfg 0) h.offsets).getLastD 0) / 2))).1;
  let tags : List Nat := [1];
  let books : List Booking := [s.bookingFor 5 s.peg.nextBurst ((s.gangShots 0 (s.epochCfg 0) h.offsets).getLastD 0 + 524288) 0];
  (GangFits n.val r h cols tags books s) := by delta GangFits; decide +kernel
theorem witness_PegPlansGangs_2 :
  let n : Fin 64 := 0;
  let s : State := (planner State.reset).wr (R.BTN_RBLANK_BLANK 0) 1;
  (s.canPlan n.val = true) ∧ ((s.plan n.val).held = none) ∧ ((s.plan n.val).idle = false) ∧ (s.nextRow n.val (s.plan n.val).row = none) := by decide +kernel
theorem witness_PegPlansGangs_3 :
  let n : Fin 64 := 0;
  let r : Nat := 0;
  let s : State := { (planner State.reset) with hbm := [] };
  (s.canPlan n.val = true) ∧ ((s.plan n.val).held = none) ∧ ((s.plan n.val).idle = false) ∧ (s.nextRow n.val (s.plan n.val).row = some
  r) ∧ (s.gangSpec (s.epochCfg s.peg.active) n.val (32 * n.val + r) (s.columnsAt (s.epochCfg s.peg.active) s.peg.active (32 * n.val +
  r) ((s.gangShots n.val (s.epochCfg s.peg.active) [0]).headD 0)) = none) := by decide +kernel
theorem witness_PegPlansGangs_5 :
  let n : Fin 64 := 0;
  let s : State := (planner State.reset).setPlan 0 (fun p => { p with held := some { offsets := [0, 500, 1100, 1700], ec := 100, k := 4, s := 4, listen := false, row := 0, refused := [], tagHeld := true, bookHeld := false } });
  ((s.plan n.val).held ≠ none) := by decide +kernel
theorem witness_PegPlansGangs_6 :
  let n : Fin 64 := 0;
  let h : HeldGang := { offsets := [0, 500], ec := 100, k := 2, s := 2, listen := false, row := 0, refused := [], tagHeld := true, bookHeld := false };
  let s : State := State.reset.setPlan 0 (fun p => { p with held := some h });
  ((s.plan n.val).held = some h) ∧ (h.tagHeld = true) := by decide +kernel
theorem witness_PegPlansGangs_7 :
  let n : Fin 64 := 0;
  let u : Nat := 1000000;
  let r : Nat := 0;
  let s : State := planner State.reset;
  (s.rd R.BTN_CTL_PROOFEN ≠ 0) ∧ (s.drvUp n.val = true) ∧ ((s.drv n.val).stopped = false) ∧ (s.trs.hushReq = false) ∧ (s.proofPoint
  n.val = some u) ∧ (s.nextProofRow n.val = some r) ∧ (s.rd R.BTN_CTL_REFCHK = 0) := by decide +kernel
theorem witness_PegPlansGangs_8 :
  let n : Fin 64 := 0;
  let u : Nat := 1000000;
  let r : Nat := 0;
  let c : Nat := 0;
  let g : Nat := 1;
  let s : State := { (planner State.reset).wr R.BTN_CTL_REFCHK 1 with hbm := storeBytes 0 [] 0x1000 (leBytes 2 1029 ++ List.replicate 6 (0 : Byte) ++ leBytes 2 1033 ++ List.replicate 6 (0 : Byte)) };
  (s.rd R.BTN_CTL_PROOFEN ≠ 0) ∧ (s.drvUp n.val = true) ∧ ((s.drv n.val).stopped = false) ∧ (s.trs.hushReq = false) ∧ (s.proofPoint
  n.val = some u) ∧ (s.nextProofRow n.val = some r) ∧ (s.rd R.BTN_CTL_REFCHK ≠ 0) ∧ (s.refColumn (32 * n.val + r) = some c) ∧
  ((s.openReference n.val (32 * n.val + r) c u).2 = some g) := by decide +kernel
theorem witness_FrameBoundariesAdvanceTheFrame_1 :
  let s : State := (fun u : State => { u with clk := { u.clk with ticks := 10000077 }, peg := { u.peg with stopReq := 1 % 2 == 1 } }) (planner State.reset);
  (s.peg.clockOn = true) ∧ (s.gridNext ≤ s.nowLsb) := by decide +kernel
theorem witness_FrameBoundariesAdvanceTheFrame_2 :
  let s : State := planner State.reset;
  (s.peg.clockOn = true) ∧ (s.nowLsb < s.gridNext) := by decide +kernel
theorem witness_FrameBoundariesAdvanceTheFrame_3 :
  let s : State := (fun u : State => { u with peg := { u.peg with clockOn := false } }) (standAt 0x0B (planner State.reset));
  (s.peg.clockOn = false) ∧ (0x0A ≤ s.stage) ∧ (s.stage ≤ 0x0E) ∧ (s.boot.inReset = false) ∧ (s.boot.pornLow = false) ∧ (s.boot.powered
  = true) := by decide +kernel
theorem witness_KerfStampsEdges_1 :
  let ch : Fin 1024 := 37;
  let coarse : BitVec 48 := 5000;
  let tap : BitVec 5 := 3;
  let s : State := ((((State.reset.wr R.KRF_CTL_RUN 1).wr (R.KRF_CHSTAT_MASKED 37) 0).setChan 37 (fun _ => KrfChan.zero)).wr (R.KRF_CHSTAT_SPARE 37) 0).wr (R.KRF_SPSTAT_TAKEN 1) 0;
  (s.stamping ch.val = true) ∧ (s.inDead ch.val (s.stampOf ch.val coarse tap) = false) := by decide +kernel
theorem witness_KerfStampsEdges_2 :
  let ch : Fin 1024 := 37;
  let s : State := State.reset.wr R.KRF_CTL_RUN 0;
  (s.stamping ch.val = false) := by decide +kernel
theorem witness_KerfStampsEdges_3 :
  let ch : Fin 1024 := 37;
  let coarse : BitVec 48 := 5000;
  let tap : BitVec 5 := 3;
  let s : State := (((State.reset.wr R.KRF_CTL_RUN 1).wr (R.KRF_CHSTAT_MASKED 37) 0).wr (R.KRF_DEADCNT_CNT 37) 4).setChan 37 (fun c => { c with high := true });
  (s.stamping ch.val = true) ∧ (s.inDead ch.val (s.stampOf ch.val coarse tap) = true) ∧ (s.rd (R.KRF_DEADCNT_CNT ch.val) < 0xFFFFFFFF) := by decide +kernel
theorem witness_KerfStampsEdges_4 :
  let ch : Fin 1024 := 37;
  let coarse : BitVec 48 := 5000;
  let tap : BitVec 5 := 3;
  let e : KrfEvent := { tAbs := 2560056, tdc := 37, width := none, wsat := false, stuck := false, tap := 3, shadow := none, prev := some 77 };
  let s : State := (fun u : State => { u with krf := { u.krf with fine := [(37, (List.range 32).map (fun k => 16 * k + 8))] } }) (State.reset.setChan 37 (fun c => { c with high := true, relPend := false, queue := [e] }));
  (s.openEvent ch.val = some e) ∧ (100 * s.highTime ch.val e coarse tap < 24576) ∧ (((s.krfChan ch.val).held && (s.krfChan
  ch.val).relPend) = false) := by decide +kernel
theorem witness_KerfStampsEdges_5 :
  let ch : Fin 1024 := 37;
  let coarse : BitVec 48 := 5003;
  let tap : BitVec 5 := 3;
  let e : KrfEvent := { tAbs := 2560056, tdc := 37, width := none, wsat := false, stuck := false, tap := 3, shadow := some (5000, 4), prev := some 77 };
  let s : State := (fun u : State => { u with krf := { u.krf with fine := [(37, (List.range 32).map (fun k => 16 * k + 8))] } }) ((State.reset.wr (R.KRF_EVCNT_CNT 37) 5).setChan 37 (fun c => { c with high := true, relPend := false, queue := [e] }));
  (s.openEvent ch.val = some e) ∧ (24576 ≤ 100 * s.highTime ch.val e coarse tap) ∧ ((roundEven16 (s.highTime ch.val e coarse tap)).toNat
  ≤ 1023) ∧ (((s.krfChan ch.val).held && (s.krfChan ch.val).relPend) = false) ∧ (s.rd (R.KRF_EVCNT_CNT ch.val) < 0xFFFFFFFF) := by decide +kernel
theorem witness_KerfStampsEdges_6 :
  let ch : Fin 1024 := 37;
  let coarse : BitVec 48 := 5040;
  let tap : BitVec 5 := 3;
  let e : KrfEvent := { tAbs := 2560056, tdc := 37, width := none, wsat := false, stuck := false, tap := 3, shadow := none, prev := some 77 };
  let s : State := (fun u : State => { u with krf := { u.krf with fine := [(37, (List.range 32).map (fun k => 16 * k + 8))] } }) ((State.reset.wr (R.KRF_EVCNT_CNT 37) 5).setChan 37 (fun c => { c with high := true, relPend := false, queue := [e] }));
  (s.openEvent ch.val = some e) ∧ (1023 < (roundEven16 (s.highTime ch.val e coarse tap)).toNat) ∧ (((s.krfChan ch.val).held &&
  (s.krfChan ch.val).relPend) = false) ∧ (s.rd (R.KRF_EVCNT_CNT ch.val) < 0xFFFFFFFF) := by decide +kernel
theorem witness_KerfStampsEdges_7 :
  let ch : Fin 1024 := 37;
  let s : State := State.reset.setChan 37 (fun c => { c with high := true, held := true, relPend := true, queue := [] });
  (s.openEvent ch.val = none) ∧ ((s.krfChan ch.val).held = true) ∧ ((s.krfChan ch.val).relPend = true) := by decide +kernel
theorem witness_KerfStampsEdges_8 :
  let ch : Fin 1024 := 37;
  let e : KrfEvent := { tAbs := 2560000, tdc := 37, width := none, wsat := false, stuck := false, tap := 3, shadow := none, prev := none };
  let s : State := (State.reset.wr (R.KRF_EVCNT_CNT 37) 5).setChan 37 (fun c => { c with high := true, relPend := false, queue := [e] });
  ((s.krfChan ch.val).high = true) ∧ (s.openEvent ch.val = some e) ∧ (s.rd (R.KRF_EVCNT_CNT ch.val) < 0xFFFFFFFF) := by decide +kernel
theorem witness_KerfStampsEdges_9 :
  let ch : Fin 1024 := 37;
  let e : KrfEvent := { tAbs := 2560000, tdc := 37, width := some 40, wsat := false, stuck := false, tap := 3, shadow := none, prev := none };
  let r : List KrfEvent := [];
  let s : State := (fun u : State => { u with clk := { u.clk with ticks := 0 }, krf := { u.krf with chans := [] } }) (((State.reset.wr R.KRF_LIMCFG_LIMRATE 1).wr R.KRF_LIMCFG_LIMDEPTH 4).wr (R.KRF_DROP_CNT 37) 6) |>.setChan 37 (fun c => { c with tokens := 0, refill := 0, queue := [e] });
  ((s.krfChan ch.val).queue = e :: r) ∧ (e.width ≠ none) ∧ (s.headOfGroup ch.val e = true) ∧ (e.stuck = false) ∧ (s.limRate ≠ 0) ∧
  (s.bucket ch.val < 1600) ∧ (s.rd (R.KRF_DROP_CNT ch.val) < 0xFFFFFFFF) := by decide +kernel
theorem witness_KerfStampsEdges_10 :
  let ch : Fin 1024 := 37;
  let e : KrfEvent := { tAbs := 1024000, tdc := 37, width := some 40, wsat := false, stuck := false, tap := 3, shadow := none, prev := none };
  let r : List KrfEvent := [];
  let s : State := ((fun u : State => { u with clk := { u.clk with ticks := 130 }, krf := { u.krf with chans := [] } }) ((State.reset.wr R.KRF_LIMCFG_LIMRATE 0).wr (R.KRF_DROP_CNT 37) 6)).setChan 37 (fun c => { c with queue := [e] }) |>.setGroup 1 (fun x => { x with slot := 1041, used := 2 });
  ((s.krfChan ch.val).queue = e :: r) ∧ (e.width ≠ none) ∧ (s.headOfGroup ch.val e = true) ∧ (e.stuck = false) ∧ (s.limRate = 0) ∧
  (s.stampLsb e.tAbs + 2560 < 64 * (s.groupSlot (ch.val / 32) (s.stampLsb e.tAbs)).1) ∧ (s.rd (R.KRF_DROP_CNT ch.val) < 0xFFFFFFFF) := by decide +kernel
theorem witness_KerfStampsEdges_11 :
  let ch : Fin 1024 := 37;
  let e : KrfEvent := { tAbs := 1024000, tdc := 37, width := some 40, wsat := false, stuck := false, tap := 3, shadow := none, prev := none };
  let r : List KrfEvent := [];
  let s : State := ((fun u : State => { u with clk := { u.clk with ticks := 130 }, krf := { u.krf with chans := [], groups := [] } }) ((State.reset.wr R.KRF_LIMCFG_LIMRATE 0).wr (R.KRF_DROP_CNT 37) 6)).setChan 37 (fun c => { c with queue := [e] });
  ((s.krfChan ch.val).queue = e :: r) ∧ (e.width ≠ none) ∧ (s.headOfGroup ch.val e = true) ∧ ((e.stuck = true ∨ s.limRate = 0 ∧ 64 *
  (s.groupSlot (ch.val / 32) (s.stampLsb e.tAbs)).1 ≤ s.stampLsb e.tAbs + 2560)) := by decide +kernel
theorem witness_KerfStampsEdges_13 :
  let n : Fin 1024 := 5;
  let s : State := (fun u : State => { u with plb := { u.plb with doneTdc := [], counts := [] }, krf := { u.krf with chans := [] } }) (State.reset.wr R.PLB_STATUS_CDBUSY 1);
  (s.on R.PLB_STATUS_CDBUSY = true) ∧ (s.plb.doneTdc = []) ∧ ((mapGet [] s.plb.counts n.val).sum = 0) ∧ ((s.krfChan n.val).high = false) := by decide +kernel
theorem witness_KerfStampsEdges_14 :
  let n : Fin 1024 := 5;
  let s : State := State.reset.setChan 5 (fun c => { c with high := true });
  ((s.krfChan n.val).high = true) := by decide +kernel
theorem witness_KerfHoldsAndSpares_1 :
  let ch : Fin 1024 := 37;
  let s : State := ((((State.reset.wr R.KRF_CTL_RUN 1).wr (R.KRF_CHSTAT_MASKED 37) 0).wr R.KRF_STUCKCFG_HIGHT 10).wr R.KRF_STATUS_NSTUCK 3).setChan 37 (fun c => { c with high := true });
  (s.stamping ch.val = true) ∧ ((s.krfChan ch.val).high = true) ∧ (s.rd R.KRF_STUCKCFG_HIGHT ≠ 0) ∧ (s.rd R.KRF_STATUS_NSTUCK < 1024) := by decide +kernel
theorem witness_KerfHoldsAndSpares_2 :
  let ch : Fin 1024 := 37;
  let s : State := State.reset.wr R.KRF_STUCKCFG_HIGHT 0;
  ((s.stamping ch.val && (s.krfChan ch.val).high && s.rd R.KRF_STUCKCFG_HIGHT != 0) = false) := by decide +kernel
theorem witness_KerfHoldsAndSpares_3 :
  let ch : Fin 1024 := 37;
  let s : State := (fun u : State => { u with clk := { u.clk with ticks := 1000 } }) (((((State.reset.wr R.KRF_STUCKCFG_FASTMAX 2).wr (R.KRF_CHSTAT_FAST 37) 0).wr R.KRF_STUCKCFG_FASTMASK 1).wr R.KRF_STATUS_NFAST 0).setChan 37 (fun c => { c with recent := [511000, 510000] }));
  (s.fastMax ≠ 0) ∧ (s.fastMax ≤ s.recentEvents ch.val) ∧ (s.rd (R.KRF_CHSTAT_FAST ch.val) = 0) ∧ (s.rd R.KRF_STUCKCFG_FASTMASK = 1) ∧
  (s.rd R.KRF_STATUS_NFAST < 1024) := by decide +kernel
theorem witness_KerfHoldsAndSpares_4 :
  let ch : Fin 1024 := 37;
  let s : State := (fun u : State => { u with clk := { u.clk with ticks := 1000 } }) (((((State.reset.wr R.KRF_STUCKCFG_FASTMAX 2).wr (R.KRF_CHSTAT_FAST 37) 0).wr R.KRF_STUCKCFG_FASTMASK 0).wr R.KRF_STATUS_NFAST 0).setChan 37 (fun c => { c with recent := [511000, 510000] }));
  (s.fastMax ≠ 0) ∧ (s.fastMax ≤ s.recentEvents ch.val) ∧ (s.rd (R.KRF_CHSTAT_FAST ch.val) = 0) ∧ (s.rd R.KRF_STUCKCFG_FASTMASK = 0) ∧
  (s.rd R.KRF_STATUS_NFAST < 1024) := by decide +kernel
theorem witness_KerfHoldsAndSpares_5 :
  let ch : Fin 1024 := 37;
  let s : State := (((((State.reset.wr R.KRF_STUCKCFG_RELT 5).wr (R.KRF_CHSTAT_STUCK 37) 1).wr (R.KRF_CHSTAT_FAST 37) 0).wr R.KRF_STATUS_NSTUCK 3).wr (R.KRF_CHCFG_EN 37) 1).setChan 37 (fun c => { c with high := false, held := true });
  (s.rd R.KRF_STUCKCFG_RELT ≠ 0) ∧ (s.rd (R.KRF_CHSTAT_STUCK ch.val) = 1) ∧ ((s.krfChan ch.val).high = false) ∧ (s.rd (R.KRF_CHSTAT_FAST
  ch.val) = 0) := by decide +kernel
theorem witness_KerfHoldsAndSpares_6 :
  let ch : Fin 1024 := 37;
  let s : State := ((((((State.reset.wr R.KRF_STUCKCFG_RELT 5).wr R.KRF_STUCKCFG_FASTMAX 20).wr (R.KRF_CHSTAT_STUCK 37) 0).wr (R.KRF_CHSTAT_FAST 37) 1).wr R.KRF_STATUS_NFAST 3).wr (R.KRF_CHCFG_EN 37) 1).setChan 37 (fun c => { c with high := false, held := true, recent := [] });
  (s.rd R.KRF_STUCKCFG_RELT ≠ 0) ∧ (s.rd (R.KRF_CHSTAT_STUCK ch.val) = 0) ∧ (s.rd (R.KRF_CHSTAT_FAST ch.val) = 1) ∧ (2 * s.recentEvents
  ch.val < s.fastMax) := by decide +kernel
theorem witness_KerfHoldsAndSpares_7 :
  let ch : Fin 1024 := 37;
  let s : State := State.reset.setChan 37 (fun c => { c with held := false });
  ((s.krfChan ch.val).held = false) := by decide +kernel
theorem witness_KerfHoldsAndSpares_8 :
  let ch : Fin 1024 := 37;
  let s : State := State.reset.setChan 37 (fun c => { c with high := true, held := true });
  ((s.krfChan ch.val).held = true) ∧ ((s.krfChan ch.val).high = true) := by decide +kernel
theorem witness_KerfHoldsAndSpares_9 :
  let ch : Fin 1024 := 37;
  let s : State := State.reset.setChan 37 (fun c => { c with high := false, held := true });
  ((s.krfChan ch.val).held = true) ∧ ((s.krfChan ch.val).high = false) := by decide +kernel
theorem witness_KerfHoldsAndSpares_10 :
  let ch : Fin 1024 := 37;
  let s : State := ((((State.reset.wr (R.KRF_CHSTAT_TDCFAIL 37) 0).wr (R.KRF_SPARE_AUTO 1) 1).wr (R.KRF_SPSTAT_TAKEN 1) 0).wr (R.KRF_SPSTAT_SPFAIL 1) 0).setGroup 1 (fun _ => KrfGroup.zero);
  (s.rd (R.KRF_CHSTAT_TDCFAIL ch.val) = 0) ∧ (s.rd (R.KRF_SPARE_AUTO (ch.val / 32)) = 1) ∧ (s.rd (R.KRF_SPSTAT_TAKEN (ch.val / 32)) = 0)
  ∧ (s.rd (R.KRF_SPSTAT_SPFAIL (ch.val / 32)) = 0) ∧ ((s.krfGroup (ch.val / 32)).move = none) := by decide +kernel
theorem witness_KerfHoldsAndSpares_11 :
  let ch : Fin 1024 := 37;
  let s : State := ((State.reset.wr (R.KRF_CHSTAT_TDCFAIL 37) 0).wr (R.KRF_SPARE_AUTO 1) 0).wr (R.KRF_SPSTAT_TAKEN 1) 0;
  (s.rd (R.KRF_CHSTAT_TDCFAIL ch.val) = 0) ∧ (¬ (s.rd (R.KRF_SPSTAT_TAKEN (ch.val / 32)) = 1 ∧ s.rd (R.KRF_SPSTAT_CURCH (ch.val / 32)) =
  ch.val % 32)) ∧ ((s.rd (R.KRF_SPARE_AUTO (ch.val / 32)) = 0 ∨ s.rd (R.KRF_SPSTAT_TAKEN (ch.val / 32)) = 1 ∨ s.rd
  (R.KRF_SPSTAT_SPFAIL (ch.val / 32)) = 1)) := by decide +kernel
theorem witness_KerfHoldsAndSpares_12 :
  let ch : Fin 1024 := 37;
  let s : State := ((State.reset.wr (R.KRF_CHSTAT_TDCFAIL 37) 0).wr (R.KRF_SPSTAT_TAKEN 1) 1).wr (R.KRF_SPSTAT_CURCH 1) 5;
  (s.rd (R.KRF_CHSTAT_TDCFAIL ch.val) = 0) ∧ (s.rd (R.KRF_SPSTAT_TAKEN (ch.val / 32)) = 1) ∧ (s.rd (R.KRF_SPSTAT_CURCH (ch.val / 32)) =
  ch.val % 32) := by decide +kernel
theorem witness_KerfHoldsAndSpares_13 :
  let g : Fin 32 := 3;
  let s : State := ((((((State.reset.wr (R.KRF_SPARE_MODE 3) 1).wr (R.KRF_SPSTAT_TAKEN 3) 0).wr (R.KRF_SPSTAT_SPFAIL 3) 0).wr (R.KRF_SPARE_AUTO 3) 0).wr (R.KRF_SPSTAT_CURCH 3) 9).wr (R.KRF_CHSTAT_TDCFAIL 105) 0).setGroup 3 (fun x => { x with compared := 1200, mism := 13, diffSum := 5000 });
  (s.rd (R.KRF_SPARE_MODE g.val) = 1) ∧ (s.rd (R.KRF_SPSTAT_TAKEN g.val) = 0) ∧ (s.rd (R.KRF_SPSTAT_SPFAIL g.val) = 0) ∧ (1000 ≤
  (s.krfGroup g.val).compared) ∧ ((s.krfGroup g.val).compared < 100 * (s.krfGroup g.val).mism) ∧ (s.rd (R.KRF_CHSTAT_TDCFAIL
  (s.spareCh g.val)) = 0) ∧ (s.rd (R.KRF_SPSTAT_CURCH g.val) < 32) ∧ (s.rd (R.KRF_SPARE_AUTO g.val) = 0) := by decide +kernel
theorem witness_KerfHoldsAndSpares_14 :
  let g : Fin 32 := 3;
  let s : State := ((((State.reset.wr (R.KRF_SPARE_MODE 3) 1).wr (R.KRF_SPSTAT_TAKEN 3) 0).wr (R.KRF_SPSTAT_SPFAIL 3) 0).wr (R.KRF_SPARE_ROTATE 3) 1).setGroup 3 (fun x => { x with compared := 1200, mism := 12, diffSum := 5000, move := none });
  (s.rd (R.KRF_SPARE_MODE g.val) = 1) ∧ (s.rd (R.KRF_SPSTAT_TAKEN g.val) = 0) ∧ (s.rd (R.KRF_SPSTAT_SPFAIL g.val) = 0) ∧ (s.rd
  (R.KRF_SPARE_ROTATE g.val) = 1) ∧ ((s.krfGroup g.val).compared ≠ 0) ∧ (100 * (s.krfGroup g.val).mism ≤ (s.krfGroup g.val).compared)
  ∧ ((s.krfGroup g.val).move = none) := by decide +kernel
theorem witness_KerfHoldsAndSpares_15 :
  let g : Fin 32 := 3;
  let v : Word := 0x55;
  let s : State := ((State.reset.wr (R.KRF_SPSTAT_TAKEN 3) 0).wr (R.KRF_SPSTAT_SPFAIL 3) 0).setGroup 3 (fun x => { x with move := none });
  (v.toNat % 4 = 1) ∧ (s.rd (R.KRF_SPSTAT_SPFAIL g.val) = 0) ∧ (s.rd (R.KRF_SPSTAT_TAKEN g.val) = 0) ∧ ((s.krfGroup g.val).move = none) := by decide +kernel
theorem witness_KerfHoldsAndSpares_16 :
  let g : Fin 32 := 3;
  let v : Word := 0x55;
  let c : Nat := 17;
  let u : Nat := 5000;
  let s : State := (((State.reset.wr (R.KRF_SPSTAT_TAKEN 3) 0).wr (R.KRF_SPSTAT_SPFAIL 3) 0).wr (R.KRF_CHSTAT_TDCFAIL 113) 1).setGroup 3 (fun x => { x with move := some (17, 5000, 2) });
  (v.toNat % 4 = 1) ∧ (s.rd (R.KRF_SPSTAT_SPFAIL g.val) = 0) ∧ (s.rd (R.KRF_SPSTAT_TAKEN g.val) = 0) ∧ ((s.krfGroup g.val).move = some
  (c, u, 2)) ∧ (c < 32) ∧ (s.rd (R.KRF_CHSTAT_TDCFAIL (32 * g.val + c)) = 1) := by decide +kernel
theorem witness_KerfHoldsAndSpares_17 :
  let g : Fin 32 := 3;
  let v : Word := 0x56;
  let s : State := ((State.reset.wr (R.KRF_SPSTAT_TAKEN 3) 0).wr (R.KRF_SPSTAT_SPFAIL 3) 0).setGroup 3 (fun x => { x with move := none });
  (v.toNat % 4 = 2) ∧ (s.rd (R.KRF_SPSTAT_SPFAIL g.val) = 0) ∧ (s.rd (R.KRF_SPSTAT_TAKEN g.val) = 0) ∧ ((s.krfGroup g.val).move = none) := by decide +kernel
theorem witness_KerfHoldsAndSpares_18 :
  let s : State := State.reset;
  let g : Fin 32 := 3;
  let v : Word := 0x57;
  ((v.toNat % 4 = 3 ∨ s.rd (R.KRF_SPSTAT_SPFAIL g.val) = 1 ∧ v.toNat % 4 ≠ 0)) := by decide +kernel
theorem witness_KerfHoldsAndSpares_19 :
  let g : Fin 32 := 3;
  let c : Nat := 17;
  let u : Nat := 5000;
  let s : State := (State.reset.wr (R.KRF_SPSTAT_TAKEN 3) 0).setGroup 3 (fun x => { x with move := some (17, 5000, 2) });
  ((s.krfGroup g.val).move = some (c, u, 2)) ∧ (c < 32) ∧ (s.rd (R.KRF_SPSTAT_TAKEN g.val) = 0) := by decide +kernel
theorem witness_KerfHoldsAndSpares_20 :
  let g : Fin 32 := 3;
  let c : Nat := 17;
  let u : Nat := 5000;
  let m : Nat := 1;
  let s : State := (((State.reset.wr (R.KRF_SPSTAT_TAKEN 3) 1).wr (R.KRF_SPSTAT_CURCH 3) 9).wr (R.KRF_CHSTAT_TDCFAIL 105) 0).setGroup 3 (fun x => { x with move := some (17, 5000, 1) });
  ((s.krfGroup g.val).move = some (c, u, m)) ∧ (c < 32) ∧ (m ≠ 2) ∧ (s.rd (R.KRF_SPSTAT_TAKEN g.val) = 1) ∧ (s.rd (R.KRF_CHSTAT_TDCFAIL
  (s.spareCh g.val)) = 0) := by decide +kernel
theorem witness_KerfHoldsAndSpares_21 :
  let g : Fin 32 := 3;
  let s : State := State.reset.setGroup 3 (fun x => { x with move := none });
  ((s.krfGroup g.val).move = none) := by decide +kernel
theorem witness_GaugesMeasureIntervals_1 :
  let g : Fin 8 := 2;
  let coarse : BitVec 48 := 1000;
  let fine : BitVec 5 := 3;
  let p : Nat := 31900;
  let s : State := (fun u : State => { u with krf := { u.krf with gLast := [(2, 31900)] } }) State.reset;
  (s.krf.gLast = [(g.val, p)]) ∧ (gaugeSub (32 * coarse.toNat + fine.toNat) p < 256) := by decide +kernel
theorem witness_GaugesMeasureIntervals_2 :
  let g : Fin 8 := 2;
  let rising : Bool := true;
  let u : Fin 8 := 5;
  let x0 : Nat := 20000;
  let s : State := ((((State.reset.wr (R.KRF_GCFG_MODE 5) 1).wr (R.KRF_GN_N 5) 100).wr (R.KRF_GCFG_STOP 5) 2).wr (R.KRF_GCFG_STOPEDGE 5) 0).setGauge 5 (fun y => { y with armed := true, n := 3, sumX := 300, sumXX := 30000, minX := 100, maxX := 100, start := some 20000 });
  (s.krf.gLast = []) ∧ (s.gMode u.val = 1) ∧ ((s.gauge u.val).armed = true) ∧ ((s.gauge u.val).n < s.gN u.val) ∧ ((s.gauge u.val).start
  = some x0) ∧ (s.gStop u.val g.val rising = true) := by decide +kernel
theorem witness_GaugesMeasureIntervals_3 :
  let u : Fin 8 := 5;
  let s : State := (State.reset.wr (R.KRF_GOVF_OVFCNT 5) 9).setGauge 5 (fun y => { y with armed := true, start := some 20000 });
  ((s.gauge u.val).armed = true) ∧ ((s.gauge u.val).start ≠ none) ∧ (s.rd (R.KRF_GOVF_OVFCNT u.val) < 65535) := by decide +kernel
theorem witness_GaugesMeasureIntervals_4 :
  let u : Fin 8 := 5;
  let s : State := (State.reset.wr (R.KRF_GN_N 5) 2).setGauge 5 (fun y => { y with armed := true, n := 2, sumX := 300, sumXX := 50000, minX := 100, maxX := 200 });
  ((s.gauge u.val).armed = true) ∧ (s.gN u.val ≤ (s.gauge u.val).n) ∧ ((s.gauge u.val).sumX < 2 ^ 50) ∧ ((s.gauge u.val).minX < 2 ^ 48) := by decide +kernel
theorem witness_GaugesMeasureIntervals_5 :
  let u : Fin 8 := 5;
  let s : State := State.reset.wr (R.KRF_GCFG_MODE 5) 3;
  (s.gMode u.val ≠ 0) ∧ (s.gMode u.val ≠ 4) := by decide +kernel
theorem witness_GaugesMeasureIntervals_6 :
  let u : Fin 8 := 5;
  let s : State := State.reset.setGauge 5 (fun y => { y with armed := true, n := 2, sumX := 300, sumXX := 50000, minX := 100, maxX := 200 });
  ((s.gauge u.val).armed = true) := by decide +kernel
theorem witness_GaugesMeasureIntervals_7 :
  let u : Fin 8 := 5;
  let x : Nat := 77777777777;
  let r : List Nat := [88888888888];
  let s : State := State.reset.setGauge 5 (fun y => { y with fifo := [77777777777, 88888888888] });
  ((s.gauge u.val).fifo = x :: r) ∧ (x < 2 ^ 64) ∧ (r.length < 16) := by decide +kernel
theorem witness_GaugesMeasureIntervals_8 :
  let s : State := State.reset;
  let u : Fin 8 := 5;
  ((s.gauge u.val).fifo = []) := by decide +kernel
theorem witness_MortiseClosesBursts_1 :
  let b : Nat := 7;
  let x : Burst := aBurst;
  let s : State := bursting aBurst State.reset;
  (s.burst b = some x) ∧ (x.stage = .open) ∧ (x.sieved = false) ∧ (x.s < x.k) := by decide +kernel
theorem witness_MortiseClosesBursts_2 :
  let b : Nat := 7;
  let x : Burst := { aBurst with sieved := true };
  let s : State := bursting { aBurst with sieved := true } State.reset;
  (s.burst b = some x) ∧ ((x.stage ≠ .open ∨ x.sieved = true ∨ x.k ≤ x.s)) := by decide +kernel
theorem witness_MortiseClosesBursts_3 :
  let b : Nat := 7;
  let p : Nat := 5000;
  let x : Burst := { aBurst with sieved := true, placed := some 5000 };
  let s : State := bursting { aBurst with sieved := true, placed := some 5000 } State.reset;
  (s.burst b = some x) ∧ (x.num = b) ∧ (x.stage = .open) ∧ (x.placed = some p) ∧ (x.filled = false) ∧ (s.fillBusy x p = false) := by decide +kernel
theorem witness_MortiseClosesBursts_4 :
  let b : Nat := 7;
  let p : Nat := 5000;
  let x : Burst := { aBurst with sieved := true, placed := some 5000, filled := true };
  let s : State := bursting { aBurst with sieved := true, placed := some 5000, filled := true } State.reset;
  (s.burst b = some x) ∧ (x.placed = some p) ∧ ((x.filled = true ∨ s.fillBusy x p = true)) := by decide +kernel
theorem witness_MortiseClosesBursts_5 :
  let b : Nat := 7;
  let x : Burst := aBurst;
  let s : State := bursting aBurst State.reset;
  (s.burst b = some x) ∧ (x.stage = .open) ∧ (∀ y ∈ s.peg.bursts, y.stage = .open → y.num ≠ b → ¬ (y.driver = x.driver ∧ y.tags =
  x.tags)) := by decide +kernel
theorem witness_MortiseClosesBursts_6 :
  let b : Nat := 7;
  let x : Burst := { aBurst with kind := .listen, sieved := true };
  let s : State := bursting { aBurst with kind := .listen, sieved := true } State.reset;
  (s.burst b = some x) ∧ (x.stage = .open) ∧ ((x.kind = .listen ∨ x.slot = false)) ∧ (s.boot.linked = false) := by decide +kernel
theorem witness_MortiseClosesBursts_7 :
  let b : Nat := 7;
  let e : Nat := 0;
  let x : Burst := { aBurst with sieved := true };
  let s : State := bursting { aBurst with sieved := true } ((State.reset.wr R.JST_ITEMS_CNT 2).wr R.PEG_VOIDBURST_CNT 7);
  (s.burst b = some x) ∧ (x.num = b) ∧ (x.stage = .open) ∧ (x.kind ≠ .listen) ∧ (x.slot = true) ∧ (x.booked = true) ∧ (x.sieved = true)
  ∧ (s.freeEngine (s.servesFor x) = some e) ∧ (s.flt.injEngines = []) ∧ (s.rd R.JST_ITEMS_CNT < 0xFFFFFFFF) ∧ (s.rd
  R.PEG_VOIDBURST_CNT < 0xFFFFFFFF) := by decide +kernel
theorem witness_MortiseClosesBursts_8 :
  let b : Nat := 7;
  let x : Burst := { aBurst with sieved := true };
  let s : State := (fun u : State => { u with jst := { u.jst with engines := (List.range 32).map (fun e => (e, { Engine.zero with burst := some (100 + e) })) } }) (bursting { aBurst with sieved := true } State.reset);
  (s.burst b = some x) ∧ (x.num = b) ∧ (x.stage = .open) ∧ (x.kind ≠ .listen) ∧ (x.slot = true) ∧ (x.booked = true) ∧ (x.sieved = true)
  ∧ (s.freeEngine (s.servesFor x) = none) := by decide +kernel
theorem witness_MortiseClosesBursts_9 :
  let b : Nat := 7;
  let x : Burst := { aBurst with sieved := true, booked := false };
  let s : State := bursting { aBurst with sieved := true, booked := false } (State.reset.wr R.JST_DROPITEM_CNT 2);
  (s.burst b = some x) ∧ (x.num = b) ∧ (x.stage = .open) ∧ (x.kind ≠ .listen) ∧ (x.slot = true) ∧ (x.booked = false) ∧ (s.boot.linked =
  false) ∧ (s.rd R.JST_DROPITEM_CNT < 0xFFFFFFFF) := by decide +kernel
theorem witness_JoistRunsItems_1 :
  let b : Nat := 7;
  let e : Nat := 3;
  let x : Burst := { aBurst with stage := .running, engine := some 3, sieved := true };
  let s : State := bursting { aBurst with stage := .running, engine := some 3, sieved := true } State.reset;
  (s.burst b = some x) ∧ (x.engine = some e) ∧ (x.kind = .scan) ∧ ((s.setOf x.epoch).standard = true) ∧ (∀ y ∈ s.peg.bursts, y.stage ≠
  .waiting) ∧ (s.boot.linked = false) := by decide +kernel
theorem witness_JoistRunsItems_2 :
  let b : Nat := 7;
  let e : Nat := 3;
  let word : Word := 1;
  let x : Burst := { aBurst with stage := .running, engine := some 3, sieved := true };
  let s : State := hostSet (bursting { aBurst with stage := .running, engine := some 3, sieved := true } State.reset);
  (s.burst b = some x) ∧ (x.engine = some e) ∧ ((s.setOf x.epoch).standard = false) ∧ (commitOk word = true) ∧ (∀ y ∈ s.peg.bursts,
  y.stage ≠ .waiting) ∧ (s.boot.linked = false) := by decide +kernel
theorem witness_JoistRunsItems_3 :
  let b : Nat := 7;
  let e : Nat := 3;
  let word : Word := 6;
  let x : Burst := { aBurst with stage := .running, engine := some 3, sieved := true };
  let s : State := (hostSet (bursting { aBurst with stage := .running, engine := some 3, sieved := true } ((State.reset.wr R.JST_CTL_RERUNEN 0).wr R.JST_DROPITEM_CNT 5))).setEngine 3 (fun y => { y with burst := some 7 });
  (s.burst b = some x) ∧ (x.engine = some e) ∧ ((s.setOf x.epoch).standard = false) ∧ (commitOk word = false) ∧ ((s.engine e).burst =
  some b) ∧ (s.rd R.JST_CTL_RERUNEN = 0) ∧ (s.rd R.JST_DROPITEM_CNT < 0xFFFFFFFF) := by decide +kernel
theorem witness_JoistRunsItems_4 :
  let m : Marker := { instant := 500, time := 77, kind := 4, payload := 5, flags := 0, frame := 0 };
  let s : State := (fun u : State => { u with boot := { u.boot with linked := true }, hif := { u.hif with queues := [] }, jnl := { u.jnl with handed := [], markers := [{ instant := 500, time := 77, kind := 4, payload := 5, flags := 0, frame := 0 }] } }) (State.reset.wr R.JNL_CAP_CAP 0x800000);
  (s.boot.linked = true) ∧ (s.jnl.handed = []) ∧ (s.jnl.markers = [m]) ∧ (s.blocked m.key = false) ∧ (s.jnlUsed < s.jnlCap) ∧ (m.kind ≠
  2) ∧ (s.hif.queues = []) := by decide +kernel
theorem witness_JoistRunsItems_5 :
  let s : State := bursting aBurst State.reset;
  (s.boot.linked = false) := by decide +kernel
theorem witness_JoistRunsItems_6 :
  let e : Fin 1056 := 40;
  let s : State := bursting aBurst State.reset;
  ((s.engine e.val).inService = true) ∧ ((s.engine e.val).burst = none) := by decide +kernel
theorem witness_JoistRunsItems_7 :
  let s : State := State.reset.wr R.JST_ECCCOR_CNT 2;
  (s.rd R.JST_ECCCOR_CNT < 0xFFFFFFFF) := by decide +kernel
theorem witness_JoistRunsItems_8 :
  let addr : Word := 0x2000;
  let k : EngAccess := .write;
  (engAllows addr.toNat k = true) := by decide +kernel
theorem witness_JoistRunsItems_9 :
  let e : Fin 1056 := 3;
  let k : EngineFaultKind := .ecc false;
  let n : Nat := 7;
  let x : Burst := { aBurst with stage := .running, engine := some 3, sieved := true };
  let s : State := (bursting { aBurst with stage := .running, engine := some 3, sieved := true } ((State.reset.wr R.JST_CTL_RERUNEN 1).wr R.JST_RERUN_CNT 5)).setEngine 3 (fun y => { y with burst := some 7 });
  (faultsItem k = true) ∧ ((s.engine e.val).inService = true) ∧ ((s.engine e.val).burst = some n) ∧ (s.burst n = some x) ∧ (x.num = n) ∧
  (x.rerun = false) ∧ (s.rd R.JST_CTL_RERUNEN = 1) ∧ (s.rd R.JST_RERUN_CNT < 0xFFFFFFFF) := by decide +kernel
theorem witness_JoistRunsItems_11 :
  let e : Fin 1056 := 40;
  let addr : Nat := State.reset.fwu.alloc.firmware.1;
  let write : Bool := false;
  let s : State := (fun u : State => { u with fwu := { u.fwu with alloc := State.reset.fwu.alloc } }) State.reset;
  (s.clusterMay (e.val / 32) addr write = true) := by decide +kernel
theorem witness_JoistRunsItems_12 :
  let e : Fin 1056 := 40;
  let addr : Nat := 0x1234;
  let write : Bool := true;
  let s : State := State.reset.wr R.GRT_DENY_CNT 9;
  (s.clusterMay (e.val / 32) addr write = false) ∧ (s.rd R.GRT_DENY_CNT < 0xFFFFFFFF) := by decide +kernel
theorem witness_JoistRunsItems_13 :
  let e : Fin 1056 := 3;
  let n : Nat := 7;
  let x : Burst := { aBurst with stage := .running, engine := some 3, sieved := true };
  let s : State := (bursting { aBurst with stage := .running, engine := some 3, sieved := true } ((State.reset.wr R.JST_CTL_RERUNEN 0).wr R.JST_DROPITEM_CNT 5)).setEngine 3 (fun y => { y with burst := some 7 });
  ((s.engine e.val).burst = some n) ∧ (s.burst n = some x) ∧ (x.num = n) ∧ (s.rd R.JST_CTL_RERUNEN = 0) ∧ (s.rd R.JST_DROPITEM_CNT <
  0xFFFFFFFF) := by decide +kernel
theorem witness_JoistRunsItems_14 :
  let e : Fin 1056 := 3;
  let s : State := State.reset.setEngine 3 (fun y => { y with testing := true });
  ((s.engine e.val).testing = true) := by decide +kernel
theorem witness_JoistRunsItems_15 :
  let e : Fin 1056 := 3;
  let s : State := State.reset.setEngine 3 (fun y => { y with testing := true });
  ((s.engine e.val).testing = true) := by decide +kernel
theorem witness_JoistRunsItems_16 :
  let c : Nat := 9;
  let u : Nat := 5000;
  let s : State := (fun u : State => { u with jst := { u.jst with subAt := some (9, 5000), subFor := none } }) State.reset;
  (s.jst.subAt = some (c, u)) ∧ (c < 32) := by decide +kernel
theorem witness_JoistRunsItems_17 :
  let s : State := bursting aBurst State.reset;
  (s.spareTaken = false) := by decide +kernel
theorem witness_JoistRunsItems_18 :
  let s : State := (fun u : State => { u with jst := { u.jst with subAt := some (9, 5000), subFor := none } }) State.reset;
  (s.spareTaken = true) := by decide +kernel
theorem witness_LookbackEvaluatesAndCommits_1 :
  let f : LbkFrame := lbkFrame0;
  let c : Column := lbkCol0;
  let p : PoseAt := poseMix lbkPose0 { lbkPose0 with time := 3000 } (fRat 1000 2000);
  let s : State := lbkState State.reset;
  (s.oldestTarget = some (f, c)) ∧ (s.burstGone c.burst = true) ∧ (poseOf s.poses f.cfg.gapmax c.closeT = some p) ∧ (s.rd
  R.LBK_TARGETS_CNT < 0xFFFFFFFF) := by decide +kernel
theorem witness_LookbackEvaluatesAndCommits_2 :
  let f : LbkFrame := { lbkFrame0 with poses := [] };
  let c : Column := lbkCol0;
  let u : Nat := 50000000000;
  let s : State := (fun u : State => { u with lbk := { u.lbk with frames := [{ lbkFrame0 with poses := [] }], lastPose := some 50000000000 } }) (lbkState State.reset);
  (s.oldestTarget = some (f, c)) ∧ (s.burstGone c.burst = true) ∧ (poseOf s.poses f.cfg.gapmax c.closeT = none) ∧ (s.lbk.lastPose = some
  u) ∧ (c.closeT + f.cfg.gapmax * 1000000 < u) ∧ (s.rd R.LBK_NOPOSE_CNT < 0xFFFFFFFF) := by decide +kernel
theorem witness_LookbackEvaluatesAndCommits_3 :
  let f : LbkFrame := lbkFrame0;
  let c : Column := lbkCol0;
  let s : State := (fun u : State => { u with peg := { u.peg with bursts := [{ aBurst with num := 4 }] } }) (lbkState State.reset);
  (s.oldestTarget = some (f, c)) ∧ (s.burstGone c.burst = false) := by decide +kernel
theorem witness_LookbackEvaluatesAndCommits_4 :
  let n : Nat := 3;
  let f : LbkFrame := { lbkFrame0 with cols := [{ lbkCol0 with done := 1 }], endAt := some 5 };
  let s : State := (fun u : State => { u with boot := { u.boot with linked := true }, jnl := { u.jnl with markers := [] }, lbk := { u.lbk with frames := [{ lbkFrame0 with cols := [{ lbkCol0 with done := 1 }], endAt := some 5 }, { lbkFrame0 with num := 4 }] } }) (lbkState State.reset);
  (s.frameSlot n = some f) ∧ (s.lbkReady f = true) := by decide +kernel
theorem witness_LookbackEvaluatesAndCommits_5 :
  let n : Nat := 3;
  let w : Whisper := { closeLsb := 9, channel := 5, echo := 0, record := { stream := 1, seq := 0, time := 77, body := 5, flags := 0 } };
  let f : LbkFrame := { lbkFrame0 with cols := [{ lbkCol0 with done := 1 }], endAt := some 5, kept := [w] };
  let s : State := (fun u : State => { u with boot := { u.boot with linked := true }, jnl := { u.jnl with markers := [], head := 9, wq := 0 }, hif := { u.hif with queues := [] }, lbk := { u.lbk with frames := [f, { lbkFrame0 with num := 4 }] } }) (lbkState (((State.reset.wr R.JNL_CAP_CAP 0x800000).wr R.JNL_STATUS_REFUSING 0).wr R.LBK_HITS_CNT 7));
  (s.frameSlot n = some f) ∧ (s.lbkReady f = true) ∧ (f.kept = [w]) ∧ (s.judgeFull.refuses 1 = false) ∧ (s.jnl.wq + 25 ≤ 16384 * 25) ∧
  (s.rd R.LBK_HITS_CNT < 0xFFFFFFFF) := by decide +kernel
theorem witness_LookbackEvaluatesAndCommits_6 :
  let n : Nat := 3;
  let f : LbkFrame := lbkFrame0;
  let s : State := lbkState State.reset;
  (s.frameSlot n = some f) ∧ (s.lbkReady f = false) := by decide +kernel
theorem witness_LookbackEvaluatesAndCommits_7 :
  let n : Nat := 3;
  let f : LbkFrame := { lbkFrame0 with endAt := some 100 };
  let s : State := (fun u : State => { u with clk := { u.clk with ticks := 4000000 }, lbk := { u.lbk with frames := [{ lbkFrame0 with endAt := some 100 }, { lbkFrame0 with num := 4 }] } }) ((lbkState State.reset).wr R.LBK_ABANDON_CNT 6);
  (s.frameSlot n = some f) ∧ (s.lbkOn f = true) ∧ (f.waits = true) ∧ (s.endedFor f f.cfg.latemax = true) ∧ (s.rd R.LBK_ABANDON_CNT +
  (f.cols.filter (fun c => c.done == 0)).length ≤ 0xFFFFFFFF) := by decide +kernel
theorem witness_LookbackEvaluatesAndCommits_8 :
  let n : Nat := 3;
  let f : LbkFrame := { lbkFrame0 with endAt := some 100 };
  let s : State := (fun u : State => { u with clk := { u.clk with ticks := 4000000 }, lbk := { u.lbk with frames := [{ lbkFrame0 with endAt := some 100 }, { lbkFrame0 with num := 4 }] } }) (lbkState State.reset);
  (s.frameSlot n = some f) ∧ (s.lbkOn f = true) ∧ (f.waits = true) ∧ (s.endedFor f lsbPerMs = true) := by decide +kernel
theorem witness_LookbackEvaluatesAndCommits_9 :
  let n : Nat := 3;
  let f : LbkFrame := lbkFrame0;
  let s : State := lbkState State.reset;
  (s.frameSlot n = some f) ∧ (s.endedFor f f.cfg.latemax = false) := by decide +kernel
theorem witness_LookbackEvaluatesAndCommits_10 :
  let n : Nat := 3;
  let f : LbkFrame := lbkFrame0;
  let s : State := lbkState State.reset;
  (s.frameSlot n = some f) ∧ ((f.waits && s.lbkOn f && s.endedFor f lsbPerMs) = false) := by decide +kernel
theorem witness_HostCommandsComplete_1 :
  let r : Fin 16 := 3;
  let whole : Bool := true;
  let v : BitVec 64 := 5;
  let s : State := (hostOn State.reset).wr (R.HIF_CRCFG_EN 3) 0;
  (s.barOn = true) ∧ ((whole = false ∨ s.rd (R.HIF_CRCFG_EN r.val) = 0 ∨ v.toNat / 2 ^ 17 ≠ 0)) := by decide +kernel
theorem witness_HostCommandsComplete_2 :
  let r : Fin 16 := 3;
  let v : BitVec 64 := 1;
  let e : BitVec 512 := entry 9 1 0 0 ||| BitVec.ofNat 512 (2 ^ 72);
  let s : State := (((hostOn (ringed 3 0 State.reset)).setCmdRing 3 (fun _ => CmdRing.zero)).wr (R.HIF_CRSTAT_HEAD 3) 0).wr (R.HIF_CRSTAT_WEDGED 3) 1;
  (s.barOn = true) ∧ (s.dmaOn = true) ∧ (s.rd (R.HIF_CRCFG_EN r.val) = 1) ∧ (s.rd (R.HIF_CRSTAT_WEDGED r.val) = 1) ∧ (v.toNat = s.rd
  (R.HIF_CRSTAT_HEAD r.val) + 1) ∧ (s.rd (R.HIF_CRSTAT_HEAD r.val) < 65535) ∧ ((s.cmdRing r.val).fetched = []) ∧ (cmdPhase e = passBit
  (s.rd (R.HIF_CRSTAT_HEAD r.val)) (s.rd (R.HIF_CRCFG_LOG2 r.val))) := by decide +kernel
theorem witness_HostCommandsComplete_3 :
  let r : Fin 16 := 3;
  let e : BitVec 512 := entry 9 1 0 0;
  let s : State := ringed 3 (entry 9 1 0 0) State.reset;
  (AtFront r.val 1 e s) ∧ (cmdClean e 16 = true) ∧ (cmdParam e = 0) := by delta AtFront; decide +kernel
theorem witness_HostCommandsComplete_4 :
  let r : Fin 16 := 3;
  let e : BitVec 512 := entry 9 1 7 0;
  let s : State := ringed 3 (entry 9 1 7 0) State.reset;
  (AtFront r.val 1 e s) ∧ ((cmdClean e 16 = false ∨ cmdParam e ≠ 0)) := by delta AtFront; decide +kernel
theorem witness_HostCommandsComplete_5 :
  let r : Fin 16 := 3;
  let e : BitVec 512 := entry 9 2 0 0;
  let s : State := (fun u : State => { u with peg := { u.peg with scanning := false } }) (standAt 0x0D (planner (ringed 3 (entry 9 2 0 0) State.reset)));
  (AtFront r.val 2 e s) ∧ (cmdClean e 16 = true) ∧ (cmdParam e = 0) ∧ ((s.stage = 0x0D ∨ s.stage = 0x0E)) ∧ (s.peg.scanning = false) ∧
  (fLt 0 (s.epochCfg s.peg.active).elStep = true) := by delta AtFront; decide +kernel
theorem witness_HostCommandsComplete_6 :
  let r : Fin 16 := 3;
  let e : BitVec 512 := entry 9 2 0 0;
  let s : State := standAt 0x0B (planner (ringed 3 (entry 9 2 0 0) State.reset));
  (AtFront r.val 2 e s) ∧ (cmdClean e 16 = true) ∧ (cmdParam e = 0) ∧ (s.stage ≠ 0x0D) ∧ (s.stage ≠ 0x0E) := by delta AtFront; decide +kernel
theorem witness_HostCommandsComplete_7 :
  let r : Fin 16 := 3;
  let e : BitVec 512 := entry 9 3 0 0;
  let s : State := planner (ringed 3 (entry 9 3 0 0) State.reset);
  (AtFront r.val 3 e s) ∧ (cmdClean e 16 = true) ∧ (cmdParam e = 0) ∧ (s.peg.scanning = true) := by delta AtFront; decide +kernel
theorem witness_HostCommandsComplete_8 :
  let r : Fin 16 := 3;
  let e : BitVec 512 := entry 9 4 0 77777777777778;
  let s : State := ringed 3 (entry 9 4 0 77777777777778) State.reset;
  (AtFront r.val 4 e s) ∧ (cmdClean e 24 = true) ∧ (cmdParam e = 0) := by delta AtFront; decide +kernel
theorem witness_HostCommandsComplete_9 :
  let r : Fin 16 := 3;
  let e : BitVec 512 := entry 9 8 0 (5 + 2 ^ 160 * 0x3F800000);
  let s : State := (fun u : State => { u with lbk := { u.lbk with frames := [], lastPose := none } }) (ringed 3 e State.reset);
  (AtFront r.val 8 e s) ∧ (cmdClean e 64 = true) ∧ (cmdParam e = 0) ∧ (s.poseFits (e.extractLsb' 128 384) = true) := by delta AtFront; decide +kernel
theorem witness_HostCommandsComplete_10 :
  let r : Fin 16 := 3;
  let e : BitVec 512 := entry 9 8 2 4096;
  let l : List (BitVec 384) := [BitVec.ofNat 384 5, 0];
  let s : State := (ringed 3 (entry 9 8 2 4096) State.reset).wr R.LBK_POSEDROP_CNT 5;
  (AtFront r.val 8 e s) ∧ (cmdClean e 24 = true) ∧ (cmdParam e = l.length) ∧ (1 ≤ l.length) ∧ (l.length ≤ 64) ∧ (l.all (fun p =>
  !s.poseFits p) = true) ∧ (s.rd R.LBK_POSEDROP_CNT + l.length ≤ 0xFFFFFFFF) := by delta AtFront; decide +kernel
theorem witness_HostCommandsComplete_11 :
  let r : Fin 16 := 3;
  let e : BitVec 512 := entry 9 8 2 4096;
  let s : State := ringed 3 (entry 9 8 2 4096) State.reset;
  (AtFront r.val 8 e s) ∧ (cmdClean e 24 = true) ∧ (cmdParam e = 2) := by delta AtFront; decide +kernel
theorem witness_EpochsAndTablesFollowCommands_1 :
  let r : Fin 16 := 3;
  let e : BitVec 512 := entry 9 5 0 200;
  let s : State := ringed 3 (entry 9 5 0 200) State.reset;
  (AtFront r.val 5 e s) ∧ (cmdClean e 32 = true) ∧ (cmdParam e = 0) ∧ (cmdField e 17 7 = 0) ∧ (cmdField e 16 1 ≠ (s.peg.active + 1) %
  256) := by delta AtFront; decide +kernel
theorem witness_EpochsAndTablesFollowCommands_2 :
  let r : Fin 16 := 3;
  let e : BitVec 512 := entry 9 5 0 8;
  let s : State := (fun u : State => { u with peg := { u.peg with active := 7, epochs := [(6, State.reset.nextCfg), (7, State.reset.nextCfg)], bursts := [{ aBurst with epoch := 6 }] } }) (ringed 3 (entry 9 5 0 8) State.reset);
  (s.frontCmd r.val 5 = some e) ∧ (cmdClean e 32 = true) ∧ (cmdParam e = 0) ∧ (cmdField e 17 7 = 0) ∧ (cmdField e 16 1 = (s.peg.active +
  1) % 256) ∧ (s.hif.waitCommit = none) ∧ (s.hif.accepted = none) ∧ (s.olderHeld = true) := by decide +kernel
theorem witness_EpochsAndTablesFollowCommands_3 :
  let r : Fin 16 := 3;
  let e : BitVec 512 := entry 9 5 0 8;
  let s : State := (fun u : State => { u with peg := { u.peg with active := 7, epochs := [(7, State.reset.nextCfg)], bursts := [] } }) (ringed 3 (entry 9 5 0 8) State.reset);
  (AtFront r.val 5 e s) ∧ (cmdClean e 32 = true) ∧ (cmdParam e = 0) ∧ (cmdField e 17 7 = 0) ∧ (cmdField e 16 1 = (s.peg.active + 1) %
  256) ∧ (s.hif.waitCommit = none) ∧ (s.hif.accepted = none) ∧ (s.olderHeld = false) ∧ (cmdField e 24 8 < 1000000 +
  s.clk.devTime.toNat) := by delta AtFront; decide +kernel
theorem witness_EpochsAndTablesFollowCommands_6 :
  let n : Nat := 8;
  let u : Nat := 5000;
  let s : State := (fun u : State => { u with hif := { u.hif with accepted := some (8, 5000) }, boot := { u.boot with linked := false } }) State.reset;
  (s.hif.accepted = some (n, u)) ∧ (n < 256) ∧ (s.boot.linked = false) := by decide +kernel
theorem witness_EpochsAndTablesFollowCommands_7 :
  let r : Fin 16 := 3;
  let e : BitVec 512 := entry 9 6 4 (4096 + 2 ^ 64 * 32);
  let s : State := openGirt (ringed 3 (entry 9 6 4 (4096 + 2 ^ 64 * 32)) State.reset);
  (AtFront r.val 6 e s) ∧ (cmdClean e 28 = true) ∧ (tableLenOk (cmdParam e) (cmdField e 24 4) = true) ∧ (cmdField e 16 8 % 64 = 0) ∧ (∀
  i : Fin 64, s.girtSpan girtPurlin63 (s.areaAddr i.val) (cmdField e 24 4) true = none) ∧ (s.jst.loadRing = none) := by delta AtFront; decide +kernel
theorem witness_EpochsAndTablesFollowCommands_8 :
  let r : Fin 16 := 3;
  let e : BitVec 512 := entry 9 6 4 (4096 + 2 ^ 64 * 32);
  let s : State := ringed 3 (entry 9 6 4 (4096 + 2 ^ 64 * 32)) State.reset;
  (AtFront r.val 6 e s) ∧ (cmdClean e 28 = true) ∧ (tableLenOk (cmdParam e) (cmdField e 24 4) = true) ∧ (cmdField e 16 8 % 64 = 0) := by delta AtFront; decide +kernel
theorem witness_EpochsAndTablesFollowCommands_9 :
  let r : Fin 16 := 3;
  let e : BitVec 512 := entry 9 7 0 (4096 + 2 ^ 64 * 32);
  let d : List Byte := [1, 2, 3];
  let s : State := (fun u : State => { u with fwu := { u.fwu with otp := { u.fwu.otp with progsig := false } } }) ((ringed 3 (entry 9 7 0 (4096 + 2 ^ 64 * 32)) State.reset).wr R.FWU_CTL_PROGSIG 0);
  (AtFront r.val 7 e s) ∧ (cmdClean e 28 = true) ∧ (cmdParam e = 0) ∧ (s.jst.waiting = none) ∧ (s.fwu.otp.progsig = false) ∧ (s.rd
  R.FWU_CTL_PROGSIG = 0) ∧ (fieldAt (fitBytes (cmdField e 24 4) d) 0 4 ≠ 0x5A4B494D) := by delta AtFront; decide +kernel
theorem witness_EpochsAndTablesFollowCommands_10 :
  let s : State := (fun u : State => { u with jst := { u.jst with waiting := some { num := 4, standard := false, ident := 7, slots := [], image := [] } } }) State.reset;
  (s.jst.waiting ≠ none) := by decide +kernel
theorem witness_EpochsAndTablesFollowCommands_11 :
  let p : ProgSet := { num := 4, standard := false, ident := 7, slots := [], image := [] };
  let s : State := (fun u : State => { u with jst := { u.jst with waiting := some { num := 4, standard := false, ident := 7, slots := [], image := [] }, loadRing := none }, hif := { u.hif with accepted := none }, peg := { u.peg with bursts := [], epochs := [] }, jnl := { u.jnl with handed := [] } }) State.reset;
  (s.jst.waiting = some p) ∧ (s.bankFree = true) ∧ (s.jst.loadRing = none) := by decide +kernel
theorem witness_EpochsAndTablesFollowCommands_12 :
  let p : ProgSet := { num := 4, standard := false, ident := 7, slots := [], image := [] };
  let r : Nat := 3;
  let e : BitVec 512 := entry 9 7 0 32;
  let s : State := (fun u : State => { u with jst := { u.jst with waiting := some { num := 4, standard := false, ident := 7, slots := [], image := [] }, loadRing := some 3 }, hif := { u.hif with accepted := none }, peg := { u.peg with bursts := [], epochs := [] }, jnl := { u.jnl with handed := [] } }) (ringed 3 (entry 9 7 0 32) State.reset);
  (s.jst.waiting = some p) ∧ (s.bankFree = true) ∧ (s.jst.loadRing = some r) ∧ (r < 16) ∧ ((s.cmdRing r).fetched = [e]) := by decide +kernel
theorem witness_QueuesOpenAndClose_1 :
  let r : Fin 16 := 3;
  let e : BitVec 512 := entry 70 9 9 4096;
  let b : BitVec 1024 := aBlock;
  let s : State := (ringed 3 (entry 70 9 9 4096) State.reset).wr (R.HIF_QSTATE_STATE 9) 0;
  (AtFront r.val 9 e s) ∧ (cmdClean e 24 = true) ∧ (cmdParam e < 4096) ∧ (s.qState (cmdParam e) = 0) ∧ (blockOk (blockBytes b) = true) ∧
  (fieldAt (blockBytes b) 28 6 = 0) ∧ (fieldAt (blockBytes b) 36 4 = 0) := by delta AtFront; decide +kernel
theorem witness_QueuesOpenAndClose_2 :
  let r : Fin 16 := 3;
  let e : BitVec 512 := entry 70 9 9 4096;
  let s : State := (ringed 3 (entry 70 9 9 4096) State.reset).wr (R.HIF_QSTATE_STATE 9) 2;
  (AtFront r.val 9 e s) ∧ (cmdClean e 24 = true) ∧ (cmdParam e < 4096) ∧ (s.qState (cmdParam e) ≠ 0) := by delta AtFront; decide +kernel
theorem witness_QueuesOpenAndClose_3 :
  let r : Fin 16 := 3;
  let e : BitVec 512 := entry 70 10 9 (4096 + 2 ^ 64 * 5 + 2 ^ 128 * 77);
  let b : BitVec 1024 := aBlock;
  let x : SubQueue := { aQueue with scan := 8, consumed := 2, passed := [4, 6] };
  let s : State := (fun u : State => { u with jnl := { u.jnl with gen := 77 }, hif := { u.hif with queues := [(9, { aQueue with scan := 8, consumed := 2, passed := [4, 6] })] } }) ((ringed 3 (entry 70 10 9 (4096 + 2 ^ 64 * 5 + 2 ^ 128 * 77)) State.reset).wr (R.HIF_QSTATE_STATE 9) 2);
  (AtFront r.val 10 e s) ∧ (cmdClean e 36 = true) ∧ (cmdField e 30 2 = 0) ∧ (s.queue (cmdParam e) = some x) ∧ (s.qState (cmdParam e) =
  2) ∧ (blockOk (blockBytes b) = true) ∧ (x.best = decide (fieldAt (blockBytes b) 10 1 = 1)) ∧ (x.filter = sliceBytes (blockBytes b)
  64 32) ∧ (x.closing = none) ∧ (cmdField e 32 4 = s.jnl.gen.toNat) ∧ (cmdField e 24 6 ≠ 0) ∧ (seqLater (cmdField e 24 6) x.consumed =
  true) ∧ (seqLater (cmdField e 24 6) x.scan = false) := by delta AtFront; decide +kernel
theorem witness_QueuesOpenAndClose_4 :
  let r : Fin 16 := 3;
  let e : BitVec 512 := entry 70 10 9 (4096 + 2 ^ 64 * 5 + 2 ^ 128 * 78);
  let b : BitVec 1024 := aBlock;
  let x : SubQueue := { aQueue with scan := 8, consumed := 2, passed := [4, 6] };
  let s : State := (fun u : State => { u with jnl := { u.jnl with gen := 77 }, hif := { u.hif with queues := [(9, { aQueue with scan := 8, consumed := 2, passed := [4, 6] })] } }) ((ringed 3 (entry 70 10 9 (4096 + 2 ^ 64 * 5 + 2 ^ 128 * 78)) State.reset).wr (R.HIF_QSTATE_STATE 9) 2);
  (AtFront r.val 10 e s) ∧ (cmdClean e 36 = true) ∧ (cmdField e 30 2 = 0) ∧ (s.queue (cmdParam e) = some x) ∧ (s.qState (cmdParam e) =
  2) ∧ (blockOk (blockBytes b) = true) ∧ (x.best = decide (fieldAt (blockBytes b) 10 1 = 1)) ∧ (x.filter = sliceBytes (blockBytes b)
  64 32) ∧ (x.closing = none) ∧ (cmdField e 32 4 ≠ s.jnl.gen.toNat) := by delta AtFront; decide +kernel
theorem witness_QueuesOpenAndClose_5 :
  let r : Fin 16 := 3;
  let e : BitVec 512 := entry 70 12 9 7;
  let x : SubQueue := aQueue;
  let s : State := (fun u : State => { u with hif := { u.hif with queues := [(9, aQueue)] } }) ((ringed 3 (entry 70 12 9 7) State.reset).wr (R.HIF_QSTATE_STATE 9) 1);
  (AtFront r.val 12 e s) ∧ (cmdClean e 48 = true) ∧ (cmdParam e < 4096) ∧ (QueueOpen (cmdParam e) x s) ∧ (filterOk (leBytes 32 (cmdField
  e 16 32)) = true) ∧ (x.notes = []) ∧ (x.closing = none) ∧ (x.room = true) := by delta AtFront QueueOpen; decide +kernel
theorem witness_QueuesOpenAndClose_6 :
  let r : Fin 16 := 3;
  let e : BitVec 512 := entry 70 11 9 0;
  let x : SubQueue := aQueue;
  let s : State := (fun u : State => { u with hif := { u.hif with queues := [(9, aQueue)] } }) ((ringed 3 (entry 70 11 9 0) State.reset).wr (R.HIF_QSTATE_STATE 9) 2);
  (AtFront r.val 11 e s) ∧ (cmdClean e 16 = true) ∧ (cmdParam e < 4096) ∧ (s.queue (cmdParam e) = some x) ∧ (s.qState (cmdParam e) = 2) := by delta AtFront; decide +kernel
theorem witness_QueuesOpenAndClose_7 :
  let r : Fin 16 := 3;
  let e : BitVec 512 := entry 70 11 9 0;
  let s : State := (fun u : State => { u with hif := { u.hif with queues := [(9, aQueue)] } }) ((ringed 3 (entry 70 11 9 0) State.reset).wr (R.HIF_QSTATE_STATE 9) 3);
  (AtFront r.val 11 e s) ∧ (cmdClean e 16 = true) ∧ (cmdParam e < 4096) ∧ (s.qState (cmdParam e) = 3) := by delta AtFront; decide +kernel
theorem witness_QueuesOpenAndClose_8 :
  let r : Fin 16 := 3;
  let e : BitVec 512 := entry 70 11 9 0;
  let x : SubQueue := aQueue;
  let b : HostBuf := { addr := 0x40000, len := 4096, id := 6, bad := false };
  let s : State := (fun u : State => { u with hif := { u.hif with queues := [(9, aQueue)] } }) ((ringed 3 (entry 70 11 9 0) State.reset).wr (R.HIF_QSTATE_STATE 9) 1);
  (AtFront r.val 11 e s) ∧ (s.hif.queues = [(cmdParam e, x)]) ∧ (s.hif.waitCommit = none) ∧ (cmdClean e 16 = true) ∧ (cmdParam e < 4096)
  ∧ (s.qState (cmdParam e) = 1) ∧ (x.closing = none) ∧ (x.notes = []) ∧ (x.bufs = [b]) ∧ (x.room = true) := by delta AtFront; decide +kernel
theorem witness_QueuesDeliverRecords_1 :
  let q : Fin 4096 := 9;
  let whole : Bool := true;
  let s : State := (hostOn State.reset).wr (R.HIF_QSTATE_STATE 9) 0;
  (s.barOn = true) ∧ ((whole = false ∨ s.qState q.val ≠ 1)) := by decide +kernel
theorem witness_QueuesDeliverRecords_2 :
  let q : Fin 4096 := 9;
  let v : BitVec 64 := 32770;
  let x : SubQueue := aQueue;
  let s : State := queued aQueue State.reset;
  (s.barOn = true) ∧ (QueueOpen q.val x s) ∧ (v.toNat = x.pi + 1 + 2 ^ 15) ∧ (x.pi < 2 ^ 15 - 1) ∧ (x.bufs.length < 2 ^ x.brLog2) ∧
  (x.closing = none) ∧ (x.notes = []) ∧ (x.seen = x.written) ∧ (x.written < 2 ^ 32) := by delta QueueOpen; decide +kernel
theorem witness_QueuesDeliverRecords_3 :
  let q : Fin 4096 := 9;
  let hw : BitVec 64 := 2;
  let x : SubQueue := { aQueue with written := 4 };
  let s : State := queued { aQueue with written := 4 } State.reset;
  (s.dmaOn = true) ∧ (QueueOpen q.val x s) ∧ (x.notes = []) ∧ (x.closing = none) ∧ (x.seen < 2 ^ 32) ∧ (x.seen ≤ hw.toNat) ∧ (hw.toNat ≤
  x.written) ∧ (x.written < 2 ^ 32) := by delta QueueOpen; decide +kernel
theorem witness_QueuesDeliverRecords_4 :
  let q : Fin 4096 := 9;
  let hw : BitVec 64 := 20;
  let x : SubQueue := { aQueue with written := 4 };
  let s : State := queued { aQueue with written := 4 } State.reset;
  (s.dmaOn = true) ∧ (QueueOpen q.val x s) ∧ (x.notes = []) ∧ (x.closing = none) ∧ (x.seen ≤ x.written) ∧ (x.written < hw.toNat) ∧
  (hw.toNat < 2 ^ 32) := by delta QueueOpen; decide +kernel
theorem witness_QueuesDeliverRecords_5 :
  let q : Fin 4096 := 9;
  let x : SubQueue := { aQueue with armed := true, sinceArm := 1 };
  let s : State := queued { aQueue with armed := true, sinceArm := 1 } State.reset;
  (s.queue q.val = some x) ∧ (x.armed = true) ∧ (0 < x.sinceArm) := by decide +kernel
theorem witness_QueuesDeliverRecords_6 :
  let c : Fin 32 := 2;
  let q : Nat := 9;
  let x : SubQueue := { aQueue with filter := [4, 0] ++ List.replicate 18 0 ++ [0x7E, 0] ++ List.replicate 10 0 };
  let b : HostBuf := { addr := 0x40000, len := 4096, id := 6, bad := false };
  let rest : List HostBuf := [];
  let y : Rec := { stream := 2, seq := 1, time := 7, body := 2, flags := 0 };
  let s : State := (fun u : State => { u with jnl := { u.jnl with head := 2, ring := [(1, { stream := 2, seq := 1, time := 7, body := 2, flags := 0 })] }, flt := { u.flt with badWords := [] } }) (((queued { aQueue with filter := [4, 0] ++ List.replicate 18 0 ++ [0x7E, 0] ++ List.replicate 10 0 } State.reset).wr (R.PUR_CHCFG_RUN 2) 1).wr (R.PUR_CHSTAT_STATE 2) 1 |>.wr R.JNL_CAP_CAP 0x800000);
  (s.dmaOn = true) ∧ (s.rd (R.PUR_CHCFG_RUN c.val) = 1) ∧ (s.rd (R.PUR_CHSTAT_STATE c.val) ≠ 2) ∧ (s.hif.queues = [(q, x)]) ∧ (x.channel
  = c.val) ∧ (s.qState q = 1) ∧ (x.room = true) ∧ (x.notes = []) ∧ (x.bufs = b :: rest) ∧ (b.bad = false) ∧ (x.offset + 64 ≤ b.len) ∧
  (s.jnl.head = x.scan + 1) ∧ (x.scan < 2 ^ 48 - 1) ∧ (s.recordAt x.scan = some y) ∧ (s.flt.badWords = []) ∧ (passes x.filter y = true) := by decide +kernel
theorem witness_QueuesDeliverRecords_7 :
  let c : Fin 32 := 2;
  let s : State := (fun u : State => { u with hif := { u.hif with queues := [] } }) ((hostOn State.reset).wr (R.PUR_CHSTAT_STATE 2) 2);
  (s.dmaOn = true) ∧ (s.rd (R.PUR_CHSTAT_STATE c.val) = 2) ∧ (s.hif.queues = []) := by decide +kernel
theorem witness_QueuesDeliverRecords_8 :
  let q : Fin 4096 := 9;
  let x : SubQueue := aQueue;
  let s : State := (fun u : State => { u with jnl := { u.jnl with head := 500 }, hif := { u.hif with busOn := false } }) (((queued aQueue State.reset).wr R.JNL_CTL_DEMOTE 1).wr R.JNL_CAP_CAP 100);
  (s.queue q.val = some x) ∧ (s.rd R.JNL_CTL_DEMOTE = 1) ∧ (s.jnlFull = true) ∧ (x.best = false) ∧ (x.hold = s.release) ∧ (x.notes = [])
  ∧ ((s.dmaOn = false ∨ s.qState q.val ≠ 1)) := by decide +kernel
theorem witness_QueuesDeliverRecords_9 :
  let q : Fin 4096 := 9;
  let x : SubQueue := aQueue;
  let s : State := (fun u : State => { u with jnl := { u.jnl with head := 500 } }) (((queued aQueue State.reset).wr R.JNL_CTL_DEMOTE 1).wr R.JNL_CAP_CAP 100);
  (QueueOpen q.val x s) ∧ (s.dmaOn = true) ∧ (s.rd R.JNL_CTL_DEMOTE = 1) ∧ (s.jnlFull = true) ∧ (x.best = false) ∧ (x.hold = s.release)
  ∧ (x.notes = []) ∧ (x.closing = none) ∧ (x.room = true) := by delta QueueOpen; decide +kernel
theorem witness_PlaneConvertersAndBanks_1 :
  let i : Fin 32 := 5;
  let s : State := (State.reset.wr R.WFP_ADCEN_EN 0xFF);
  ((s.rd R.WFP_ADCEN_EN).testBit i.val = true) ∧ (s.rd R.WFP_ADCEN_EN < 2 ^ 32) := by decide +kernel
theorem witness_PlaneConvertersAndBanks_2 :
  let i : Fin 32 := 5;
  let s : State := (State.reset.wr R.WFP_ADCEN_EN 0);
  ((s.rd R.WFP_ADCEN_EN).testBit i.val = false) := by decide +kernel
theorem witness_PlaneConvertersAndBanks_4 :
  let s : State := (State.reset.wr R.WFP_ADCEN_EN 0);
  (s.rd R.WFP_ADCEN_EN = 0) := by decide +kernel
theorem witness_PlaneConvertersAndBanks_5 :
  let v : Word := 4;
  let p : Fin 16 := 2;
  let s : State := ((State.reset.wr R.WFP_ADCEN_EN 0x10).wr R.WFP_PAIRCFG_IL 0);
  (v.toNat.testBit p.val ≠ (s.rd R.WFP_PAIRCFG_IL).testBit p.val) ∧ ((s.rd R.WFP_ADCEN_EN).testBit (2 * p.val) = true) := by decide +kernel
theorem witness_PlaneConvertersAndBanks_6 :
  let l : Fin 32 := 9;
  let v : BitVec 2 := 2;
  let s : State := State.reset.wr (R.DOG_USTAT_ARMED 9) 0;
  (v ≠ 3) ∧ (s.rd (R.DOG_USTAT_ARMED l.val) = 0) := by decide +kernel
theorem witness_PlaneConvertersAndBanks_7 :
  let l : Fin 32 := 9;
  let v : BitVec 2 := 2;
  let s : State := State.reset.wr (R.DOG_USTAT_ARMED 9) 1;
  ((v = 3 ∨ s.rd (R.DOG_USTAT_ARMED l.val) = 1)) := by decide +kernel
theorem witness_PlaneConvertersAndBanks_8 :
  let s : State := (fun u : State => { u with wfp := { u.wfp with corSwap := none } }) ((List.range 64).foldl (fun t i => t.wr (R.WFP_CORB_SKEW i) 0) State.reset);
  (s.wfp.corSwap = none) ∧ (∀ i : Fin 32, (s.rdS (R.WFP_CORB_SKEW (32 * (!s.on R.WFP_CTL_CORBANK).toNat + i.val))).natAbs ≤ 500) := by decide +kernel
theorem witness_PlaneConvertersAndBanks_9 :
  let i : Fin 32 := 4;
  let s : State := (fun u : State => { u with wfp := { u.wfp with corSwap := none } }) ((State.reset.wr R.WFP_CTL_CORBANK 0).wr (R.WFP_CORB_SKEW 36) 501);
  (s.wfp.corSwap = none) ∧ (500 < (s.rdS (R.WFP_CORB_SKEW (32 * (!s.on R.WFP_CTL_CORBANK).toNat + i.val))).natAbs) := by decide +kernel
theorem witness_PlaneConvertersAndBanks_10 :
  let s : State := (fun u : State => { u with wfp := { u.wfp with corSwap := some 99 } }) State.reset;
  (s.wfp.corSwap ≠ none) := by decide +kernel
theorem witness_PlaneConvertersAndBanks_11 :
  let n : Nat := 99;
  let s : State := (fun u : State => { u with clk := { u.clk with ticks := 1000 }, wfp := { u.wfp with corSwap := some 99 }, plb := { u.plb with wfDue := some 4 } }) State.reset;
  (s.wfp.corSwap = some n) ∧ (n ≤ s.nowLsb) := by decide +kernel
theorem witness_PlaneConvertersAndBanks_12 :
  let n : Nat := State.reset.nowLsb + 99;
  let s : State := (fun u : State => { u with wfp := { u.wfp with corSwap := some (State.reset.nowLsb + 99) } }) State.reset;
  (s.wfp.corSwap = some n) ∧ (s.nowLsb < n) := by decide +kernel
theorem witness_PlaneConvertersAndBanks_13 :
  let l : Fin 32 := 3;
  let s : State := bankGood 13 ((State.reset.wr (R.WFP_SWAP_FBANK 3) 0).setLane 3 (fun x => { x with fSwap := none }));
  ((s.lane l.val).fSwap = none) ∧ (s.bankOk (s.spareBank l.val false) false = true) := by decide +kernel
theorem witness_PlaneConvertersAndBanks_14 :
  let l : Fin 32 := 3;
  let s : State := bankGood 15 ((State.reset.wr (R.WFP_SWAP_MBANK 3) 0).setLane 3 (fun x => { x with mSwap := none }));
  ((s.lane l.val).mSwap = none) ∧ (s.bankOk (s.spareBank l.val true) true = true) := by decide +kernel
theorem witness_PlaneConvertersAndBanks_15 :
  let l : Fin 32 := 3;
  let s : State := State.reset.setLane 3 (fun x => { x with fSwap := some .frame });
  (((s.lane l.val).fSwap ≠ none ∨ s.bankOk (s.spareBank l.val false) false = false)) := by decide +kernel
theorem witness_PlaneConvertersAndBanks_16 :
  let l : Fin 32 := 3;
  let s : State := State.reset.setLane 3 (fun x => { x with mSwap := some .frame });
  (((s.lane l.val).mSwap ≠ none ∨ s.bankOk (s.spareBank l.val true) true = false)) := by decide +kernel
theorem witness_PlaneConvertersAndBanks_17 :
  let l : Fin 32 := 3;
  let n : Nat := 70;
  let s : State := ((fun u : State => { u with clk := { u.clk with ticks := 1000 } }) State.reset).setLane 3 (fun x => { x with fSwap := some (.atLsb 70), olds := [] });
  ((s.lane l.val).fSwap.bind s.swapT = some n) := by decide +kernel
theorem witness_PlaneConvertersAndBanks_18 :
  let l : Fin 32 := 3;
  let s : State := State.reset.setLane 3 (fun x => { x with fSwap := some .frame });
  ((s.lane l.val).fSwap.bind s.swapT = none) := by decide +kernel
theorem witness_PlaneConvertersAndBanks_19 :
  let l : Fin 32 := 3;
  let n : Nat := 70;
  let s : State := ((fun u : State => { u with clk := { u.clk with ticks := 1000 } }) State.reset).setLane 3 (fun x => { x with mSwap := some (.atLsb 70), olds := [] });
  ((s.lane l.val).mSwap.bind s.swapT = some n) := by decide +kernel
theorem witness_PlaneConvertersAndBanks_20 :
  let l : Fin 32 := 3;
  let s : State := State.reset.setLane 3 (fun x => { x with mSwap := some .frame });
  ((s.lane l.val).mSwap.bind s.swapT = none) := by decide +kernel
theorem witness_DetectorsAndCaptures_1 :
  let l : Fin 32 := 3;
  let x : Int := 0;
  let s : State := (fun u : State => { u with clk := { u.clk with ticks := 0 }, peg := { u.peg with epochLsb := 0 } }) ((((State.reset.wr R.WFP_CTL_RUN 1).wr (R.WFP_GATE_GMODE 3) 2).wr (R.WFP_GATEOFS_OFS 3) 0).wr R.WFP_PAIRCFG_IL 0 |>.setLane 3 (fun y => { y with gate := none, gateLast := none }));
  (s.gateInstant l.val = some x) ∧ (s.rd R.WFP_CTL_RUN = 1) ∧ (s.laneExists l.val = true) ∧ ((s.lane l.val).gateLast.all (fun y =>
  decide (y < x)) = true) ∧ ((s.lane l.val).gate = none) := by decide +kernel
theorem witness_DetectorsAndCaptures_2 :
  let l : Fin 32 := 3;
  let x : Int := 0;
  let g : Gate := { at_ := 0, frame := 0, epoch0 := 0, mode := 2 };
  let s : State := (fun u : State => { u with clk := { u.clk with ticks := 0 }, peg := { u.peg with epochLsb := 0 } }) ((((State.reset.wr R.WFP_CTL_RUN 1).wr (R.WFP_GATE_GMODE 3) 2).wr (R.WFP_GATEOFS_OFS 3) 0).wr R.WFP_PAIRCFG_IL 0 |>.setLane 3 (fun y => { y with gate := some g, gateLast := none }));
  (s.gateInstant l.val = some x) ∧ (s.rd R.WFP_CTL_RUN = 1) ∧ (s.laneExists l.val = true) ∧ ((s.lane l.val).gateLast.all (fun y =>
  decide (y < x)) = true) ∧ ((s.lane l.val).gate = some g) := by decide +kernel
theorem witness_DetectorsAndCaptures_3 :
  let l : Fin 32 := 3;
  let x : Int := 0;
  let s : State := (fun u : State => { u with clk := { u.clk with ticks := 0 }, peg := { u.peg with epochLsb := 0 } }) ((((State.reset.wr R.WFP_CTL_RUN 0).wr (R.WFP_GATE_GMODE 3) 2).wr (R.WFP_GATEOFS_OFS 3) 0).wr R.WFP_PAIRCFG_IL 0);
  (s.gateInstant l.val = some x) ∧ ((s.rd R.WFP_CTL_RUN = 0 ∨ s.laneExists l.val = false ∨ (s.lane l.val).gateLast = some x)) := by decide +kernel
theorem witness_DetectorsAndCaptures_4 :
  let l : Fin 32 := 3;
  let codes : List (BitVec 10) := [BitVec.ofNat 10 1, 30, 100, 40, 5];
  let g : Gate := { at_ := 0, frame := 0, epoch0 := 0, mode := 2 };
  let s : State := ((State.reset.wr (R.WFP_GATELEN_LEN 3) 2).wr (R.WFP_GATE_DETREC 3) 0).setLane 3 (fun y => { y with gate := some g });
  let sm : List OutSample := gateSamples s 3 g codes;
  let xs : List Int := sm.map (fun x => x.v);
  ((s.lane l.val).gate = some g) ∧ (sm = gateSamples s l.val g codes) ∧ (xs = sm.map (fun x => x.v)) ∧ ((s.rd (R.WFP_GATE_DETREC l.val)
  = 0 ∨ s.rd R.DOG_CTL_EN = 0)) := by decide +kernel
theorem witness_DetectorsAndCaptures_5 :
  let l : Fin 32 := 3;
  let codes : List (BitVec 10) := [BitVec.ofNat 10 1, 30, 100, 40, 5];
  let g : Gate := { at_ := 0, frame := 0, epoch0 := 0, mode := 2 };
  let s : State := (ready3 (((State.reset.wr (R.WFP_GATELEN_LEN 3) 2).wr (R.WFP_GATE_DETREC 3) 1).wr R.DOG_CTL_EN 1)).setLane 3 (fun y => { y with gate := some g });
  let sm : List OutSample := gateSamples s 3 g codes;
  let xs : List Int := sm.map (fun x => x.v);
  ((s.lane l.val).gate = some g) ∧ (sm = gateSamples s l.val g codes) ∧ (xs = sm.map (fun x => x.v)) ∧ (s.rd (R.WFP_GATE_DETREC l.val) =
  1) ∧ (s.rd R.DOG_CTL_EN = 1) ∧ (s.rd R.DOG_CTL_RINGMODE = 0) ∧ (s.ringUsed + 64 ≤ s.ringBytes) ∧ (s.dog.ring.any (fun e => e.seq ==
  s.dog.nextSeq) = false) := by decide +kernel
theorem witness_DetectorsAndCaptures_6 :
  let u : Fin 32 := 3;
  let arm : BitVec 16 := 0;
  let armAt : Int := 3000;
  let before : BitVec 16 := 10;
  let after : BitVec 16 := 90;
  let taken : Int := 4000;
  let s : State := (ready3 (((((State.reset.wr (R.DOG_UCFG_TMODE 3) 1).wr (R.DOG_UCFG_SLOPE 3) 0).wr (R.DOG_ULEVEL_LEVEL 3) 50).wr (R.DOG_ULEVEL_HYST 3) 5).wr (R.WFP_LANE_HSRC 3) 0)).setDogU 3 (fun x => { x with edgeLast := some 500 });
  (s.rd (R.DOG_UCFG_TMODE u.val) = 1) ∧ (s.rd (R.DOG_UCFG_SLOPE u.val) = 0) ∧ (s.edgeArms u.val arm.toInt armAt = true) ∧ (armAt <
  taken) ∧ (before.toInt < s.rdS (R.DOG_ULEVEL_LEVEL u.val)) ∧ (s.rdS (R.DOG_ULEVEL_LEVEL u.val) ≤ after.toInt) ∧ (TakesTrigger u.val
  (edgeInstant s u.val before after taken) s) := by delta TakesTrigger; decide +kernel
theorem witness_DetectorsAndCaptures_7 :
  let u : Fin 32 := 3;
  let arm : BitVec 16 := 0;
  let armAt : Int := 300;
  let s : State := State.reset.setDogU 3 (fun x => { x with edgeLast := some 500 });
  (s.edgeArms u.val arm.toInt armAt = false) := by decide +kernel
theorem witness_DetectorsAndCaptures_8 :
  let u : Fin 32 := 3;
  let n : Fin 64 := 7;
  let tag : BitVec 9 := 5;
  let f : ShotSeen := { driver := 7, tag := 5, row := 3, proof := false, lsb := 5000 };
  let s : State := (fun u : State => { u with wfp := { u.wfp with shots := [f] } }) (ready3 (((State.reset.wr (R.DOG_UCFG_TMODE 3) 2).wr (R.DOG_UCFG_DRV 3) 7).wr (R.DOG_UCFG_PROOF 3) 0));
  (s.wfp.shots.find? (fun f => f.driver == n.val && f.tag == tag.toNat) = some f) ∧ (s.rd (R.DOG_UCFG_TMODE u.val) = 2) ∧ (s.rd
  (R.DOG_UCFG_DRV u.val) = n.val) ∧ ((f.proof = true ∨ s.rd (R.DOG_UCFG_PROOF u.val) = 0)) ∧ (TakesTrigger u.val (3 * f.lsb + s.rdS
  (R.DOG_USHOTOFS_OFS u.val)) s) := by delta TakesTrigger; decide +kernel
theorem witness_DetectorsAndCaptures_9 :
  let u : Fin 32 := 3;
  let s : State := ready3 (State.reset.wr (R.DOG_UCFG_ARMMODE 3) 1);
  (s.rd (R.DOG_UCFG_ARMMODE u.val) = 1) ∧ ((s.dogU u.val).caps = []) ∧ (TakesTrigger u.val (ticksOf s.nowLsb) s) := by delta TakesTrigger; decide +kernel
theorem witness_DetectorsAndCaptures_10 :
  let u : Fin 32 := 3;
  let s : State := ready3 State.reset;
  (TakesTrigger u.val (ticksOf s.nowLsb) s) := by delta TakesTrigger; decide +kernel
theorem witness_DetectorsAndCaptures_11 :
  let u : Fin 32 := 3;
  let s : State := (ready3 (State.reset.wr (R.DOG_UHOLD_HOLD 3) 5000)).setDogU 3 (fun x => { x with spanEnd := some (3 * (512 * 70000000000 : Nat) : Int) });
  (s.dogLive u.val = true) ∧ (s.dogBusy u.val (ticksOf s.nowLsb) = true) := by decide +kernel
theorem witness_DetectorsAndCaptures_12 :
  let u : Fin 32 := 3;
  let s : State := ((ready3 State.reset).wr R.WFP_ADCRDY_RDY 0xFF).wr R.WFP_PAIRCFG_IL 0;
  (s.laneExists u.val = true) ∧ (s.laneReady u.val = true) ∧ (64 ≤ s.uLen u.val) ∧ (s.uLen u.val ≤ 65536) ∧ (s.rd (R.DOG_UPRE_PRE u.val)
  ≤ s.uLen u.val) := by decide +kernel
theorem witness_DetectorsAndCaptures_13 :
  let u : Fin 32 := 3;
  let s : State := ((ready3 State.reset).wr (R.DOG_ULEN_LEN 3) 63);
  ((s.uLen u.val < 64 ∨ 65536 < s.uLen u.val ∨ s.uLen u.val < s.rd (R.DOG_UPRE_PRE u.val) ∨ s.laneReady u.val = false ∨ s.laneExists
  u.val = false)) := by decide +kernel
theorem witness_DetectorsAndCaptures_15 :
  let u : Fin 32 := 3;
  let c : Capture := { seq := 6, trig := 4, frame := 0, epoch0 := 0, trigT := 0, len := 64, pre := 0, src := 0, rate := 0, rlvl := 0, tb := 0, aux := 0 };
  let e : DogEntry := { seq := 6, offset := 0, size := 192, full := false, sent := false };
  let s : State := (fun u : State => { u with dog := { u.dog with ring := [e] } }) (((ready3 (State.reset.wr (R.DOG_UCFG_ARMMODE 3) 2))).setDogU 3 (fun x => { x with caps := [c] }));
  ((s.dogU u.val).caps = [c]) ∧ (s.dog.ring = [e]) ∧ (e.seq = c.seq) ∧ (64 * e.offset + entrySize c.len ≤ s.ringBytes) ∧ (s.rd
  (R.DOG_UCFG_ARMMODE u.val) = 2) ∧ (s.rd (R.DOG_USTAT_ARMED u.val) = 1) := by decide +kernel
theorem witness_DetectorsAndCaptures_16 :
  let e : DogEntry := { seq := 6, offset := 0, size := 192, full := true, sent := true };
  let rest : List DogEntry := [{ seq := 7, offset := 3, size := 192, full := true, sent := false }];
  let s : State := (fun u : State => { u with dog := { u.dog with ring := [{ seq := 6, offset := 0, size := 192, full := true, sent := true }, { seq := 7, offset := 3, size := 192, full := true, sent := false }] } }) (State.reset.wr R.DOG_CTL_RINGMODE 0);
  (s.dog.ring = e :: rest) ∧ (s.rd R.DOG_CTL_RINGMODE = 0) ∧ (e.sent = true) := by decide +kernel
theorem witness_DetectorsAndCaptures_17 :
  let s : State := (fun u : State => { u with dog := { u.dog with delivered := false, ring := [{ seq := 6, offset := 0, size := 192, full := true, sent := true }] } }) ((State.reset.wr R.DOG_CTL_RINGMODE 0).wr R.DOG_STATUS_DRAINLVL 1);
  (s.rd R.DOG_CTL_RINGMODE = 0) ∧ (s.dog.delivered = false) ∧ (s.dog.ring ≠ []) ∧ (s.rd R.DOG_STATUS_DRAINLVL ≤ 3) ∧ (s.rd
  R.DOG_STATUS_FILLLVL ≤ 3) := by decide +kernel
theorem witness_DetectorsAndCaptures_18 :
  let s : State := (fun u : State => { u with dog := { u.dog with delivered := true } }) ((State.reset.wr R.DOG_CTL_RINGMODE 0).wr R.DOG_STATUS_DRAINLVL 1);
  (s.rd R.DOG_CTL_RINGMODE = 0) ∧ (s.dog.delivered = true) ∧ (s.rd R.DOG_STATUS_DRAINLVL ≤ 3) := by decide +kernel
theorem witness_RepairsKeepTheMachineGoing_1 :
  let w : Nat := 12345;
  let s : State := (fun u : State => { u with flt := { u.flt with badWords := [] } }) (State.reset.wr R.FLT_HBMCFG_SCRUBH 4);
  (s.flt.badWords = []) ∧ (32 * w < hbmSize) ∧ (s.rd R.FLT_HBMCFG_SCRUBH ≠ 0) := by decide +kernel
theorem witness_RepairsKeepTheMachineGoing_2 :
  let w : Nat := 12345;
  let s : State := (fun u : State => { u with flt := { u.flt with badWords := [] } }) (State.reset.wr R.FLT_HBMCFG_SCRUBH 4);
  (s.flt.badWords = []) ∧ (32 * w < hbmSize) ∧ (s.rd R.FLT_HBMCFG_SCRUBH ≠ 0) := by decide +kernel
theorem witness_RepairsKeepTheMachineGoing_3 :
  let s : State := State.reset.wr R.FLT_HBMCFG_SCRUBH 0;
  (s.rd R.FLT_HBMCFG_SCRUBH = 0) := by decide +kernel
theorem witness_RepairsKeepTheMachineGoing_4 :
  let row : Nat := 7;
  let w : Nat := 9;
  let s : State := (fun u : State => { u with flt := { u.flt with rowDue := [(7, 9)] } }) State.reset;
  (s.flt.rowDue.find? (fun p => p.1 == row) = some (row, w)) := by decide +kernel
theorem witness_RepairsKeepTheMachineGoing_5 :
  let row : Nat := 7;
  let w : Nat := 9;
  let s : State := (fun u : State => { u with flt := { u.flt with rowDue := [(7, 9)] } }) State.reset;
  (s.flt.rowDue.find? (fun p => p.1 == row) = some (row, w)) := by decide +kernel
theorem witness_RepairsKeepTheMachineGoing_6 :
  let row : Nat := 7;
  let s : State := (fun u : State => { u with flt := { u.flt with rowDue := [] } }) State.reset;
  (s.flt.rowDue.any (fun p => p.1 == row) = false) := by decide +kernel
theorem witness_RepairsKeepTheMachineGoing_7 :
  let s : State := (State.reset.wr R.FLT_STATUS_MGMTSB 1);
  (s.rd R.FLT_STATUS_MGMTSB = 1) ∧ (s.rd R.FLT_STATUS_ACTCORE < 2) := by decide +kernel
theorem witness_RepairsKeepTheMachineGoing_8 :
  let s : State := (State.reset.wr R.FLT_STATUS_MGMTSB 0);
  (s.rd R.FLT_STATUS_MGMTSB = 0) := by decide +kernel
theorem witness_RepairsKeepTheMachineGoing_9 :
  let c : Fin 2 := 1;
  let s : State := (fun u : State => { u with flt := { u.flt with coreTest := some 1 } }) State.reset;
  (s.flt.coreTest = some c) := by decide +kernel
theorem witness_RepairsKeepTheMachineGoing_10 :
  let c : Fin 2 := 1;
  let s : State := (fun u : State => { u with flt := { u.flt with coreTest := some 1 } }) State.reset;
  (s.flt.coreTest = some c) := by decide +kernel
theorem witness_InjectionTestsTheRepairs_1 :
  let w : Nat := 100;
  let s : State := inj0 (((State.reset.wr R.FLT_INJADDRLO_ADDR 3200).wr R.FLT_INJADDRHI_ADDR 0));
  (MayInject s) ∧ (s.injWord = some w) := by delta MayInject; decide +kernel
theorem witness_InjectionTestsTheRepairs_2 :
  let w : Nat := 100;
  let s : State := inj0 (((State.reset.wr R.FLT_INJADDRLO_ADDR 3200).wr R.FLT_INJADDRHI_ADDR 0));
  (MayInject s) ∧ (s.injWord = some w) := by delta MayInject; decide +kernel
theorem witness_InjectionTestsTheRepairs_3 :
  let s : State := State.reset.wr R.TRS_STATE_KEYOPEN 0;
  (s.rd R.TRS_STATE_KEYOPEN = 0) := by decide +kernel
theorem witness_InjectionTestsTheRepairs_4 :
  let s : State := (State.reset.wr R.TRS_STATE_KEYOPEN 1).wr R.FLT_CTL_INJLOCK 1;
  (s.rd R.TRS_STATE_KEYOPEN = 1) ∧ (s.rd R.FLT_CTL_INJLOCK = 1) := by decide +kernel
theorem witness_InjectionTestsTheRepairs_5 :
  let unit : BitVec 11 := 40;
  let s : State := inj0 State.reset;
  (MayInject s) ∧ (unit.toNat < 1056) ∧ ((s.engine unit.toNat).inService = true) := by delta MayInject; decide +kernel
theorem witness_InjectionTestsTheRepairs_6 :
  let unit : BitVec 11 := 9;
  let s : State := (fun u : State => { u with jst := { u.jst with subFor := none, subAt := none, clFault := [], engines := [] } }) (inj0 (State.reset.wr R.JST_CTL_AUTOSUB 1));
  (MayInject s) ∧ (unit.toNat < 32) ∧ (s.jst.subFor = none) ∧ (s.jst.subAt = none) ∧ (s.rd R.JST_CTL_AUTOSUB = 1) := by delta MayInject; decide +kernel
theorem witness_InjectionTestsTheRepairs_7 :
  let unit : BitVec 11 := 33;
  let s : State := inj0 State.reset;
  (MayInject s) ∧ ((33 ≤ unit.toNat ∨ s.jst.subFor ≠ none)) := by delta MayInject; decide +kernel
theorem witness_InjectionTestsTheRepairs_8 :
  let unit : BitVec 11 := 37;
  let s : State := (((inj0 State.reset).wr (R.KRF_CHSTAT_TDCFAIL 37) 0).wr (R.KRF_SPARE_AUTO 1) 0).wr (R.KRF_SPSTAT_TAKEN 1) 0;
  (MayInject s) ∧ (unit.toNat < 1024) ∧ (s.rd (R.KRF_CHSTAT_TDCFAIL unit.toNat) = 0) ∧ (s.rd (R.KRF_SPARE_AUTO (unit.toNat / 32)) = 0) ∧
  (s.rd (R.KRF_SPSTAT_TAKEN (unit.toNat / 32)) = 0) := by delta MayInject; decide +kernel
theorem witness_InjectionTestsTheRepairs_9 :
  let unit : BitVec 11 := 1030;
  let s : State := inj0 State.reset;
  (MayInject s) ∧ (1024 ≤ unit.toNat) ∧ (unit.toNat < 1056) := by delta MayInject; decide +kernel
theorem witness_InjectionTestsTheRepairs_10 :
  let s : State := ((inj0 State.reset).wr (pllLock true) 1).wr (pllLock false) 1;
  (MayInject s) ∧ (s.rd (pllLock (s.on R.CLK_STATUS_PLLSEL)) = 1) ∧ (s.rd (pllLock (!s.on R.CLK_STATUS_PLLSEL)) = 1) := by delta MayInject; decide +kernel
theorem witness_InjectionTestsTheRepairs_11 :
  let s : State := (inj0 State.reset).wr R.FLT_STATUS_MGMTSB 1;
  (MayInject s) ∧ (s.rd R.FLT_STATUS_MGMTSB = 1) := by delta MayInject; decide +kernel
theorem witness_InjectionTestsTheRepairs_12 :
  let unit : BitVec 11 := 3;
  let s : State := ((inj0 State.reset).wr R.HIF_STATUS_WIDTH 16);
  (MayInject s) ∧ (unit.toNat < 16) ∧ (2 ≤ s.rd R.HIF_STATUS_WIDTH) ∧ (s.rd R.HIF_STATUS_WIDTH ≤ 16) ∧ (s.rd R.FLT_PCIE_LANEOUT < 2 ^ 16) := by delta MayInject; decide +kernel
theorem witness_InjectionTestsTheRepairs_13 :
  let s : State := inj0 State.reset;
  (MayInject s) := by delta MayInject; decide +kernel
theorem witness_InjectionTestsTheRepairs_14 :
  let unit : BitVec 11 := 3;
  let s : State := (inj0 State.reset).wr (R.BTN_RSTAT_CWUP 1) 1;
  (MayInject s) ∧ (unit.toNat < 16) ∧ (s.ringPairUp (partnerPair unit.toNat) = true) := by delta MayInject; decide +kernel
theorem witness_PlumbRunsCalibrations_1 :
  let s : State := (State.reset.wr R.PLB_CTL_CDEN 1).wr R.PLB_STATUS_CDBUSY 0;
  (s.rd R.PLB_CTL_CDEN = 1) ∧ (s.rd R.PLB_STATUS_CDBUSY = 0) := by decide +kernel
theorem witness_PlumbRunsCalibrations_2 :
  let s : State := (State.reset.wr R.PLB_CTL_CDEN 1).wr R.PLB_STATUS_CDBUSY 1;
  ((s.rd R.PLB_CTL_CDEN = 0 ∨ s.rd R.PLB_STATUS_CDBUSY = 1)) := by decide +kernel
theorem witness_PlumbRunsCalibrations_3 :
  let s : State := (State.reset.wr R.PLB_CTL_WFEN 1).wr R.PLB_STATUS_WFBUSY 0;
  (s.rd R.PLB_CTL_WFEN = 1) ∧ (s.rd R.PLB_STATUS_WFBUSY = 0) := by decide +kernel
theorem witness_PlumbRunsCalibrations_4 :
  let s : State := ((((State.reset.wr R.PLB_CTL_HKEN 1).wr R.PLB_STATUS_HKBUSY 0).wr R.SIL_STATUS_REFRDY 1).wr R.SIL_STATUS_CAL0 0).wr R.SIL_STATUS_CAL1 0 |>.wr R.SIL_STATUS_INJ0 0;
  (s.rd R.PLB_CTL_HKEN = 1) ∧ (s.rd R.PLB_STATUS_HKBUSY = 0) ∧ (s.rd R.SIL_STATUS_REFRDY = 1) ∧ (s.rd R.SIL_STATUS_CAL0 = 0) ∧ (s.rd
  R.SIL_STATUS_CAL1 = 0) ∧ (s.rd R.SIL_STATUS_INJ0 = 0) := by decide +kernel
theorem witness_PlumbRunsCalibrations_5 :
  let s : State := (fun u : State => { u with plb := { u.plb with cfgCd := none } }) (((State.reset.wr R.PLB_CTL_CDEN 1).wr R.PLB_STATUS_CDBUSY 0).wr R.PLB_CDCFG_PERIOD 3);
  (s.cdCfg.period ≠ 0) ∧ (s.rd R.PLB_CTL_CDEN = 1) ∧ (s.rd R.PLB_STATUS_CDBUSY = 0) := by decide +kernel
theorem witness_PlumbRunsCalibrations_6 :
  let k : Fin 6 := 2;
  ((k = 0 ∨ k = 2 ∨ k = 5)) := by decide +kernel
theorem witness_PlumbRunsCalibrations_7 :
  let n : Fin 1056 := 40;
  let s : State := (fun u : State => { u with plb := { u.plb with doneTdc := [3], counts := [(40, List.replicate 32 100)], cfgCd := none } }) ((State.reset.wr R.PLB_STATUS_CDBUSY 1).wr R.PLB_CDCFG_NEV 1);
  (s.rd R.PLB_STATUS_CDBUSY = 1) ∧ (s.plb.doneTdc.contains n.val = false) ∧ (s.plb.doneTdc.length < 1055) ∧ (1024 * max 1 s.cdCfg.nev ≤
  (mapGet [] s.plb.counts n.val).sum) ∧ (tapsBad (mapGet [] s.plb.counts n.val) = false) := by decide +kernel
theorem witness_PlumbRunsCalibrations_8 :
  let n : Fin 1056 := 1055;
  let s : State := (fun u : State => { u with plb := { u.plb with doneTdc := List.range 1055, counts := [(1055, List.replicate 32 100)], newFine := [], cfgCd := none } }) ((State.reset.wr R.PLB_STATUS_CDBUSY 1).wr R.PLB_CDCFG_NEV 1);
  (s.rd R.PLB_STATUS_CDBUSY = 1) ∧ (s.plb.doneTdc.contains n.val = false) ∧ (s.plb.doneTdc.length = 1055) ∧ (1024 * max 1 s.cdCfg.nev ≤
  (mapGet [] s.plb.counts n.val).sum) ∧ (tapsBad (mapGet [] s.plb.counts n.val) = false) := by decide +kernel
theorem witness_PlumbRunsCalibrations_9 :
  let n : Fin 1056 := 40;
  let s : State := (fun u : State => { u with plb := { u.plb with doneTdc := [3] } }) (State.reset.wr R.PLB_STATUS_CDBUSY 1);
  (s.rd R.PLB_STATUS_CDBUSY = 1) ∧ (s.plb.doneTdc.contains n.val = false) ∧ (s.plb.doneTdc.length < 1055) ∧ (n.val < 1024) := by decide +kernel
theorem witness_PlumbRunsCalibrations_10 :
  let i : Fin 32 := 4;
  let s : State := (fun u : State => { u with wfp := { u.wfp with corSwap := none } }) ((State.reset.wr R.PLB_STATUS_WFBUSY 1).wr R.WFP_ADCEN_EN 0xFF);
  (s.rd R.PLB_STATUS_WFBUSY = 1) ∧ (s.wfp.corSwap = none) ∧ ((s.rd R.WFP_ADCEN_EN).testBit i.val = true) := by decide +kernel
theorem witness_PlumbRunsCalibrations_11 :
  let adc : Bool := true;
  let sz : Int := 1600;
  let sr : Int := 16777216;
  let o : Int := 100;
  let g : Int := 400;
  let s : State := (fun u : State => { u with sil := { u.sil with calPend := 0 }, plb := { u.plb with hkBad := false } }) (((State.reset.wr R.SIL_STATUS_CAL1 1).wr R.SIL_STATUS_CAL0 0).wr R.PLB_STATUS_HKBUSY 1);
  (s.rd (if adc then R.SIL_STATUS_CAL1 else R.SIL_STATUS_CAL0) = 1) ∧ (hkCorrection sz sr = some (o, g)) ∧ (s.sil.calPend = 0) ∧ (s.rd
  (if adc then R.SIL_STATUS_CAL0 else R.SIL_STATUS_CAL1) = 0) ∧ (s.rd R.PLB_STATUS_HKBUSY = 1) ∧ (s.plb.hkBad = false) := by decide +kernel
theorem witness_PlumbRunsCalibrations_12 :
  let adc : Bool := true;
  let sz : Int := 1600;
  let sr : Int := 0;
  let s : State := (State.reset.wr R.SIL_STATUS_CAL1 1).wr R.PLB_STATUS_HKBUSY 1;
  (s.rd (if adc then R.SIL_STATUS_CAL1 else R.SIL_STATUS_CAL0) = 1) ∧ (hkCorrection sz sr = none) ∧ (s.rd R.PLB_STATUS_HKBUSY = 1) := by decide +kernel
theorem witness_PlumbRunsCalibrations_13 :
  let adc : Bool := true;
  let s : State := (fun u : State => { u with sil := { u.sil with calPend := 0 } }) ((State.reset.wr R.SIL_STATUS_CAL1 1).wr R.PLB_STATUS_HKBUSY 0);
  (s.rd (if adc then R.SIL_STATUS_CAL1 else R.SIL_STATUS_CAL0) = 1) ∧ (s.rd R.PLB_STATUS_HKBUSY = 0) ∧ (s.sil.calPend = 0) := by decide +kernel
theorem witness_PlumbRunsCalibrations_14 :
  let g : Fin 32 := 4;
  let s : State := (fun u : State => { u with plb := { u.plb with noRef := [] } }) State.reset;
  (s.plb.noRef.contains g.val = false) := by decide +kernel
theorem witness_PlumbRunsCalibrations_15 :
  let ch : Fin 1024 := 77;
  let s : State := (fun u : State => { u with peg := { u.peg with scanning := true } }) ((State.reset.wr R.PLB_CDSRC_QUIETT 5).wr (R.PLB_CDQ_QUIET 77) 0);
  (s.rd R.PLB_CDSRC_QUIETT ≠ 0) ∧ (s.peg.scanning = true) ∧ (s.rd (R.PLB_CDQ_QUIET ch.val) = 0) ∧ (s.rd (R.PLB_QUIET_CH (ch.val / 32)) <
  2 ^ 32) := by decide +kernel
theorem witness_SillConvertsAndWatchesHeat_1 :
  let temps : List (BitVec 12) := List.replicate 28 950;
  let s : State := (fun u : State => { u with boot := { u.boot with gated := true }, thm := { u.thm with shut := true, sensors := [] } }) (State.reset.wr (R.THM_SENS_FAILED 24) 0);
  (s.boot.gated = true) ∧ (s.rd R.THM_STATUS_HBMLOST ≤ 1) ∧ (s.thm.shut = true) ∧ ((temps.getD 24 0).toInt ≥ 900) ∧ (((s.sensor
  24).accepts (temps.getD 24 0).toInt) = true) ∧ (s.rd (R.THM_SENS_FAILED 24) = 0) := by decide +kernel
theorem witness_SillConvertsAndWatchesHeat_2 :
  let temps : List (BitVec 12) := List.replicate 28 950;
  let s : State := (fun u : State => { u with boot := { u.boot with gated := false }, thm := { u.thm with shut := false, sensors := [] } }) (State.reset.wr (R.THM_SENS_FAILED 3) 0);
  (s.thm.shut = false) ∧ ((temps.getD 3 0).toInt ≥ 920) ∧ ((s.sensor 3).accepts (temps.getD 3 0).toInt = true) ∧ (s.rd
  (R.THM_SENS_FAILED 3) = 0) := by decide +kernel
theorem witness_SillConvertsAndWatchesHeat_3 :
  let temps : List (BitVec 12) := List.replicate 28 240;
  let pkg : BitVec 12 := 33;
  let s : State := (fun u : State => { u with boot := { u.boot with gated := false, inReset := false }, thm := { u.thm with shut := false, sensors := [] }, sil := { u.sil with inRound := true } }) ([R.THM_LTHR_SHUT, R.THM_HTHR_SHUT].foldl (fun t f => t.wr f 100) ((List.range 28).foldl (fun t i => t.wr (R.THM_SENS_FAILED i) 0) State.reset));
  ((s.thermalTick temps pkg).boot.gated = false) ∧ ((s.thermalTick temps pkg).boot.inReset = false) ∧ (s.sil.inRound = true) := by decide +kernel
theorem witness_SillConvertsAndWatchesHeat_4 :
  let s : State := (fun u : State => { u with thm := { u.thm with lvlL := 2, holdL := 500000 } }) State.reset;
  (max 1 (s.rd R.THM_DWELL_DWELL) ≤ s.thm.holdL) ∧ (0 < s.thm.lvlL) ∧ (s.thm.lvlL ≤ 3) ∧ (s.rd R.THM_LEVELS_HLVL ≤ 3) := by decide +kernel
theorem witness_SillConvertsAndWatchesHeat_5 :
  let s : State := (fun u : State => { u with thm := { u.thm with lvlH := 2, holdH := 500000 } }) State.reset;
  (max 1 (s.rd R.THM_DWELL_DWELL) ≤ s.thm.holdH) ∧ (0 < s.thm.lvlH) ∧ (s.thm.lvlH ≤ 3) ∧ (s.rd R.THM_LEVELS_LLVL ≤ 3) := by decide +kernel
theorem witness_SillConvertsAndWatchesHeat_6 :
  let i : Fin 28 := 6;
  let s : State := (fun u : State => { u with thm := { u.thm with sensors := [(6, { last := some 20, bad := 3 })] } }) (State.reset.wr (R.THM_SENS_FAILED 6) 0);
  (3 ≤ (s.sensor i.val).bad) ∧ (s.rd (R.THM_SENS_FAILED i.val) = 0) := by decide +kernel
theorem witness_SillConvertsAndWatchesHeat_7 :
  let r : SlotRun := { slot := 9, waitExc := false, waitIlv := false, start := 0, clamp := 0 };
  let s : State := (fun u : State => { u with sil := { u.sil with run0 := some { slot := 9, waitExc := false, waitIlv := false, start := 0, clamp := 0 }, run1 := none, todo0 := [], todo1 := [], results := [], inRound := true } }) (((State.reset.wr R.SIL_STATUS_REFRDY 1).wr (R.SIL_SCFG_ILV 9) 0).wr (R.SIL_SCFG_ILV 41) 0);
  (s.sil.run0 = some r) ∧ (r.waitExc = false) ∧ (r.waitIlv = false) ∧ (r.slot < 32) ∧ (s.rd (R.SIL_SCFG_ILV (s.slotIx r.slot)) = 0) ∧
  (s.rd R.SIL_STATUS_REFRDY = 1) ∧ (s.sil.inRound = true) ∧ (s.sil.run1 = none) ∧ (s.sil.todo0 = []) ∧ (s.sil.todo1 = []) ∧
  (s.sil.results = []) := by decide +kernel
theorem witness_SillConvertsAndWatchesHeat_8 :
  let wb : BitVec 24 := 8;
  let r : SlotRun := { slot := 9, waitExc := false, waitIlv := false, start := 0, clamp := 0 };
  let s : State := (fun u : State => { u with sil := { u.sil with run0 := some r, run1 := none, todo0 := [], todo1 := [], results := [], inRound := true } }) (((((State.reset.wr R.SIL_STATUS_REFRDY 1).wr (R.SIL_SCFG_ILV 9) 0).wr (R.SIL_SCFG_ILV 41) 0).wr (R.SIL_SCFG_PPIN 9) 3).wr (R.SIL_SCFG_PPIN 41) 3);
  (s.sil.run0 = some r) ∧ (r.waitExc = false) ∧ (r.waitIlv = false) ∧ (r.slot < 32) ∧ (s.rd (R.SIL_SCFG_ILV (s.slotIx r.slot)) = 0) ∧
  (s.rd R.SIL_STATUS_REFRDY = 1) ∧ (s.sil.inRound = true) ∧ (s.sil.run1 = none) ∧ (s.sil.todo0 = []) ∧ (s.sil.todo1 = []) ∧
  (s.sil.results = []) ∧ (ownPins (some (s.rd (R.SIL_SCFG_PPIN (s.slotIx r.slot)), s.rd (R.SIL_SCFG_NPIN (s.slotIx r.slot)))) wb ≠ 0) := by decide +kernel
theorem witness_SillConvertsAndWatchesHeat_9 :
  let r : SlotRun := { slot := 9, waitExc := false, waitIlv := false, start := 0, clamp := 0 };
  let s : State := (fun u : State => { u with sil := { u.sil with run0 := some r, run1 := none, todo0 := [], todo1 := [], results := [], inRound := true } }) (((State.reset.wr R.SIL_STATUS_REFRDY 0).wr (R.SIL_SCFG_ILV 9) 0).wr (R.SIL_SCFG_ILV 41) 0);
  (s.sil.run0 = some r) ∧ (r.waitExc = false) ∧ (r.waitIlv = false) ∧ (r.slot < 32) ∧ (s.rd (R.SIL_SCFG_ILV (s.slotIx r.slot)) = 0) ∧
  (s.rd R.SIL_STATUS_REFRDY = 0) ∧ (s.sil.inRound = true) ∧ (s.sil.run1 = none) ∧ (s.sil.todo0 = []) ∧ (s.sil.todo1 = []) ∧
  (s.sil.results = []) := by decide +kernel
theorem witness_SillConvertsAndWatchesHeat_11 :
  let s : State := State.reset.wr R.SIL_CTL_REFEN 0;
  (s.rd R.SIL_CTL_REFEN = 0) := by decide +kernel
theorem witness_SillConvertsAndWatchesHeat_12 :
  let s : State := (fun u : State => { u with sil := { u.sil with calPend := 0 } }) (((State.reset.wr R.TNN_STATUS_TLMODE 0).wr R.SIL_STATUS_CAL0 0).wr R.SIL_STATUS_CAL1 0);
  (s.rd R.TNN_STATUS_TLMODE = 0) ∧ (s.calPending = false) := by decide +kernel
theorem witness_SillConvertsAndWatchesHeat_13 :
  let s : State := State.reset.wr R.TNN_STATUS_TLMODE 2;
  ((s.rd R.TNN_STATUS_TLMODE = 1 ∨ s.rd R.TNN_STATUS_TLMODE = 2 ∨ s.calPending = true)) := by decide +kernel
theorem witness_SillConvertsAndWatchesHeat_14 :
  let s : State := (fun u : State => { u with sil := { u.sil with refWait := true, calPend := 0 } }) (State.reset.wr R.SIL_CTL_REFEN 1);
  (s.rd R.SIL_CTL_REFEN = 1) ∧ (s.sil.refWait = true) ∧ (s.sil.calPend = 0) := by decide +kernel
theorem witness_SillConvertsAndWatchesHeat_15 :
  let s : State := State.reset.wr R.SIL_STATUS_REFRDY 1;
  (s.rd R.SIL_STATUS_REFRDY = 1) := by decide +kernel
theorem witness_SillConvertsAndWatchesHeat_16 :
  let s : State := State.reset;
  (s.rd R.SIL_PINCLAMP_PIN < 2 ^ 24) := by decide +kernel
theorem witness_LanesTrainAndAdapt_1 :
  let p : Fin 20 := 4;
  let s : State := (fun u : State => { u with dwl := { u.dwl with trained := [(4, { ctle := 3, fom := 80, dfe := [] })] } }) (((State.reset.wr (R.DWL_PSTAT_TRAINING 4) 0).wr R.DWL_STATUS_UP 0).wr R.PLB_STATUS_LANEBUSY 0);
  (p.val < 16) ∧ (s.rd (R.DWL_PSTAT_TRAINING p.val) = 0) ∧ (s.dwl.trained.any (fun t => t.1 == p.val) = true) ∧ (s.pairUp p.val = false)
  ∧ (s.rd R.PLB_STATUS_LANEBUSY = 0) := by decide +kernel
theorem witness_LanesTrainAndAdapt_2 :
  let p : Fin 20 := 4;
  let s : State := State.reset.wr (R.DWL_PSTAT_LOCK 4) 1;
  (s.rd (R.DWL_PSTAT_LOCK p.val) = 1) := by decide +kernel
theorem witness_LanesTrainAndAdapt_4 :
  let p : Fin 20 := 4;
  let tries : List (Nat × BitVec 8) := [(3, 200), (0, 90), (0, 100), (0, 100)];
  let c : Nat := 2;
  let f : Nat := 100;
  let s : State := (((State.reset.wr (R.DWL_PSTAT_TRAINING 4) 1).wr R.DWL_ADCFG_FOMMIN 60).wr R.PLB_STATUS_LANEBUSY 0).wr R.DWL_STATUS_UP 0;
  (s.rd (R.DWL_PSTAT_TRAINING p.val) = 1) ∧ (p.val < 16) ∧ (bestCtle tries = some (c, 0, f)) ∧ (s.rd R.DWL_ADCFG_FOMMIN ≤ f) ∧ (s.rd
  R.PLB_STATUS_LANEBUSY = 0) ∧ (s.pairUp p.val = false) := by decide +kernel
theorem witness_LanesTrainAndAdapt_5 :
  let p : Fin 20 := 4;
  let tries : List (Nat × BitVec 8) := [(3, 200), (2, 90)];
  let c : Nat := 1;
  let e : Nat := 2;
  let f : Nat := 90;
  let s : State := ((State.reset.wr (R.DWL_PSTAT_TRAINING 4) 1).wr R.DWL_ADCFG_FOMMIN 60).wr R.PLB_STATUS_LANEBUSY 0;
  (s.rd (R.DWL_PSTAT_TRAINING p.val) = 1) ∧ (p.val < 16) ∧ (bestCtle tries = some (c, e, f)) ∧ ((0 < e ∨ f < s.rd R.DWL_ADCFG_FOMMIN)) ∧
  (s.rd R.PLB_STATUS_LANEBUSY = 0) := by decide +kernel
theorem witness_LanesTrainAndAdapt_6 :
  let p : Fin 20 := 4;
  let s : State := (fun u : State => { u with dwl := { u.dwl with wantTrain := [4, 9] } }) (State.reset.wr (R.DWL_PSTAT_TRAINING 4) 0);
  (s.dwl.wantTrain.contains p.val = true) ∧ (s.rd (R.DWL_PSTAT_TRAINING p.val) = 0) := by decide +kernel
theorem witness_LanesTrainAndAdapt_8 :
  let p : Fin 20 := 4;
  let fom : BitVec 8 := 90;
  let s : State := ((State.reset.wr R.DWL_ADCFG_BGADAPT 1).wr R.DWL_STATUS_UP 0xFF).wr (R.DWL_PSTAT_FOM 4) 80;
  (s.rd R.DWL_ADCFG_BGADAPT = 1) ∧ (s.pairUp p.val = true) ∧ (s.rd (R.DWL_PSTAT_FOM p.val) ≤ fom.toNat) := by decide +kernel
theorem witness_LanesTrainAndAdapt_9 :
  let p : Fin 20 := 4;
  let fom : BitVec 8 := 70;
  let s : State := State.reset.wr (R.DWL_PSTAT_FOM 4) 80;
  (fom.toNat < s.rd (R.DWL_PSTAT_FOM p.val)) := by decide +kernel
theorem witness_LanesTrainAndAdapt_10 :
  let p : Fin 20 := 4;
  let s : State := ((State.reset.wr R.DWL_STATUS_UP 0xFF).wr R.DWL_ADCFG_FOMMIN 40).wr R.PLB_CTL_LANEEN 1;
  (s.pairUp p.val = true) ∧ (s.rd R.DWL_ADCFG_FOMMIN ≠ 0) := by decide +kernel
theorem witness_LanesTrainAndAdapt_11 :
  let s : State := State.reset.wr R.PLB_CTL_LANEEN 0;
  (s.rd R.PLB_CTL_LANEEN = 0) := by decide +kernel
theorem witness_LanesTrainAndAdapt_12 :
  let s : State := State.reset.wr R.PLB_CTL_LANEEN 1;
  (s.rd R.PLB_CTL_LANEEN = 1) := by decide +kernel
theorem witness_LanesTrainAndAdapt_13 :
  let s : State := (State.reset.wr R.PLB_CTL_LANEEN 1).wr R.PLB_LANECFG_LANEPER 9;
  (s.rd R.PLB_CTL_LANEEN = 1) ∧ (s.rd R.PLB_LANECFG_LANEPER ≠ 0) := by decide +kernel
theorem witness_LanesTrainAndAdapt_14 :
  let s : State := (State.reset.wr R.PLB_CTL_LANEEN 1).wr R.PLB_LANECFG_LANEPER 0;
  (s.rd R.PLB_LANECFG_LANEPER = 0) := by decide +kernel
theorem witness_LanesTrainAndAdapt_15 :
  let s : State := State.reset;
  let p : Fin 20 := 17;
  let v : Word := 0x50002;
  (v.toNat / 8 % 8192 = 0) ∧ (s.ptestOk p.val (v.toNat % 8) = true) := by decide +kernel
theorem witness_LanesTrainAndAdapt_16 :
  let s : State := State.reset;
  let p : Fin 20 := 3;
  let v : Word := 0x50001;
  (v.toNat / 8 % 8192 = 0) ∧ (s.ptestOk p.val (v.toNat % 8) = false) := by decide +kernel
theorem witness_TieLinksCarryFrames_1 :
  let s : State := tieState State.reset;
  (s.tied = true) ∧ (∀ k : Fin 4, (s.link k.val).queue = [] ∧ (s.link k.val).out.length < 64) := by decide +kernel
theorem witness_TieLinksCarryFrames_2 :
  let k : Fin 4 := 1;
  let s : State := tieState State.reset;
  ((s.link k.val).up = true) ∧ (s.tied = true) := by decide +kernel
theorem witness_TieLinksCarryFrames_3 :
  let k : Fin 4 := 1;
  let bs : TieBytes := ⟨frameBytes 1 2 255 0 9 ([2, 1] ++ List.replicate 12 7)⟩;
  let f : TieFrame := { typ := 1, orig := 2, dest := 255, hop := 0, lseq := 0, oseq := 9, payload := [2, 1] ++ List.replicate 12 7 };
  let s : State := tieState State.reset;
  (Accepts k.val bs.bytes f s) ∧ (f.typ = 1) ∧ (fieldAt f.payload 0 1 ≠ s.rd R.DWL_TIECFG_INDEX) := by delta Accepts; decide +kernel
theorem witness_TieLinksCarryFrames_4 :
  let k : Fin 4 := 1;
  let bs : TieBytes := ⟨[1, 2, 3]⟩;
  let s : State := tieState State.reset;
  ((s.link k.val).up = true) ∧ (tieParse bs.bytes = none) ∧ ((s.link k.val).naked = none) := by decide +kernel
theorem witness_TieLinksCarryFrames_5 :
  let k : Fin 4 := 1;
  let n : BitVec 8 := 7;
  let inv : BitVec 8 := 0xF8;
  let s : State := tieState State.reset;
  ((s.link k.val).up = true) ∧ (inv = ~~~n) ∧ (s.tied = true) ∧ ((s.link k.val).queue = []) ∧ ((s.link k.val).out.length < 64) := by decide +kernel
theorem witness_TieLinksCarryFrames_6 :
  let n : BitVec 8 := 7;
  let inv : BitVec 8 := 7;
  (inv ≠ ~~~n) := by decide +kernel
theorem witness_TieLinksCarryFrames_7 :
  let seq : BitVec 16 := 4;
  let chk : BitVec 8 := 0;
  (ackGood false seq chk = false) := by decide +kernel
theorem witness_TieLinksCarryFrames_8 :
  let seq : BitVec 16 := 4;
  let chk : BitVec 8 := 0;
  (ackGood true seq chk = false) := by decide +kernel
theorem witness_TieLinksCarryFrames_9 :
  let k : Fin 4 := 1;
  let t1 : Nat := 900;
  let t4 : Nat := 5000;
  let bs : TieBytes := ⟨frameBytes 2 2 255 0 9 ([4, 0, 1, 0, 0, 0, 0, 0] ++ [6, 0, 2, 0, 0, 0, 0, 0] ++ List.replicate 8 0)⟩;
  let f : TieFrame := { typ := 2, orig := 2, dest := 255, hop := 0, lseq := 0, oseq := 9, payload := [4, 0, 1, 0, 0, 0, 0, 0] ++ [6, 0, 2, 0, 0, 0, 0, 0] ++ List.replicate 8 0 };
  let s : State := (tieState State.reset).setLink 1 (fun l => { l with syncTx := [(6, 900)], syncRx := some (4, 5000) });
  (Accepts k.val bs.bytes f s) ∧ (f.typ = 2) ∧ ((s.link k.val).syncTx.find? (fun q => q.1 == fieldAt f.payload 8 1) = some (fieldAt
  f.payload 8 1, t1)) ∧ ((s.link k.val).syncRx = some (fieldAt f.payload 0 1, t4)) := by delta Accepts; decide +kernel
theorem witness_TieLinksCarryFrames_10 :
  let k : Fin 4 := 1;
  let bs : TieBytes := ⟨frameBytes 3 0 255 0 9 ([9, 0, 0, 0] ++ [0, 0, 2, 0, 0, 0, 0])⟩;
  let f : TieFrame := { typ := 3, orig := 0, dest := 255, hop := 0, lseq := 0, oseq := 9, payload := [9, 0, 0, 0] ++ [0, 0, 2, 0, 0, 0, 0] };
  let s : State := tieState State.reset;
  (Accepts k.val bs.bytes f s) ∧ (f.typ = 3) ∧ (s.rd R.DWL_TIECFG_INDEX ≠ 0) := by delta Accepts; decide +kernel
theorem witness_TieLinksCarryFrames_11 :
  let k : Fin 4 := 1;
  let bs : TieBytes := ⟨frameBytes 4 0 255 0 9 ([9, 0, 0, 0, 5, 0, 0, 0, 3, 2, 0, 0] ++ List.replicate 8 1)⟩;
  let f : TieFrame := { typ := 4, orig := 0, dest := 255, hop := 0, lseq := 0, oseq := 9, payload := [9, 0, 0, 0, 5, 0, 0, 0, 3, 2, 0, 0] ++ List.replicate 8 1 };
  let s : State := tieState State.reset;
  (Accepts k.val bs.bytes f s) ∧ (f.typ = 4) ∧ (s.rd R.DWL_TIECFG_INDEX ≠ 0) ∧ (fieldAt f.payload 8 1 = s.rd R.DWL_TIECFG_INDEX) ∧
  (fieldAt f.payload 9 1 < 17) := by delta Accepts; decide +kernel
theorem witness_TieLinksCarryFrames_12 :
  let f : Nat := 1;
  let tm : Nat := 5120000;
  let s : State := (fun u : State => { u with clk := { u.clk with ticks := 1000 }, peg := { u.peg with clockOn := true, epochLsb := 0 }, dwl := { u.dwl with announced := [(1, 5120000)] } }) ((((((tieState State.reset).setLink 1 (fun l => { l with fit := [(100, 0)], nbrTheta := 0 })).wr R.DWL_TIESTAT_ALIGNED 1).wr R.DWL_TIESTAT_FREERUN 0).wr R.PEG_FRAMENUM_NUM 0).wr R.DWL_TIEFROFS_OFS 0);
  (s.tieLocked = true) ∧ (s.peg.clockOn = true) ∧ (s.rd R.DWL_TIESTAT_ALIGNED = 1) ∧ (f = (s.rd R.PEG_FRAMENUM_NUM + 1 + (2 ^ 32 - s.rd
  R.DWL_TIEFROFS_OFS)) % 2 ^ 32) ∧ (s.announcedAt f = some tm) ∧ (s.announcedLen f = none) ∧ ((s.nowLsb : Int) < s.rootOf
  (s.ownBoundary tm)) := by decide +kernel
theorem witness_TieLinksCarryFrames_13 :
  let f : Nat := 1;
  let tm : Nat := 5120000;
  let n : Nat := 120000;
  let s : State := (fun u : State => { u with clk := { u.clk with ticks := 1000 }, peg := { u.peg with clockOn := true, epochLsb := 0 }, dwl := { u.dwl with announced := [(1, 5120000), (0, 5000000)] } }) ((((((tieState State.reset).setLink 1 (fun l => { l with fit := [(100, 0)], nbrTheta := 0 })).wr R.DWL_TIESTAT_ALIGNED 1).wr R.DWL_TIESTAT_FREERUN 0).wr R.PEG_FRAMENUM_NUM 0).wr R.DWL_TIEFROFS_OFS 0);
  (s.tieLocked = true) ∧ (s.peg.clockOn = true) ∧ (s.rd R.DWL_TIESTAT_ALIGNED = 1) ∧ (f = (s.rd R.PEG_FRAMENUM_NUM + 1 + (2 ^ 32 - s.rd
  R.DWL_TIEFROFS_OFS)) % 2 ^ 32) ∧ (s.announcedAt f = some tm) ∧ (s.announcedLen f = some n) ∧ (s.lengthOff n = true) := by decide +kernel
theorem witness_TieLinksCarryFrames_14 :
  let f : Nat := 1;
  let s : State := (fun u : State => { u with clk := { u.clk with ticks := 1000 }, peg := { u.peg with clockOn := true, epochLsb := 0 }, dwl := { u.dwl with announced := [(7, 5120000)] } }) ((((((tieState State.reset).setLink 1 (fun l => { l with fit := [(100, 0)], nbrTheta := 0 })).wr R.DWL_TIESTAT_ALIGNED 1).wr R.DWL_TIESTAT_FREERUN 0).wr R.PEG_FRAMENUM_NUM 0).wr R.DWL_TIEFROFS_OFS 0);
  (s.tieLocked = true) ∧ (s.peg.clockOn = true) ∧ (s.rd R.DWL_TIESTAT_ALIGNED = 1) ∧ (f = (s.rd R.PEG_FRAMENUM_NUM + 1 + (2 ^ 32 - s.rd
  R.DWL_TIEFROFS_OFS)) % 2 ^ 32) ∧ (s.announcedAt f = none) := by decide +kernel
theorem witness_TieLinksCarryFrames_15 :
  let k : Fin 4 := 1;
  let seq : BitVec 16 := 4;
  let chk : BitVec 8 := 0xA1;
  let s : State := (tieState State.reset).setLink 1 (fun l => { l with out := [tieOut 3, tieOut 4, tieOut 5] });
  ((s.link k.val).up = true) ∧ ((s.link k.val).queue = []) ∧ (ackGood false seq chk = true) := by decide +kernel
theorem witness_TieLinksCarryFrames_16 :
  let k : Fin 4 := 1;
  let seq : BitVec 16 := 4;
  let chk : BitVec 8 := 0x5E;
  let s : State := (tieState State.reset).setLink 1 (fun l => { l with out := [tieOut 3, tieOut 4, tieOut 5] });
  ((s.link k.val).up = true) ∧ ((s.link k.val).queue = []) ∧ (ackGood true seq chk = true) ∧ (∀ o ∈ (s.link k.val).out, o.sent < 7) := by decide +kernel
theorem witness_TieLinksCarryFrames_17 :
  let k : Fin 4 := 1;
  let s : State := (tieState State.reset).setLink 1 (fun l => { l with out := [tieOut 3, tieOut 4, tieOut 5] });
  ((s.link k.val).up = true) ∧ ((s.link k.val).out ≠ []) ∧ (∀ o ∈ (s.link k.val).out, o.sent < 7) := by decide +kernel
theorem witness_TieLinksCarryFrames_18 :
  let k : Fin 4 := 1;
  let o : OutFrame := { (tieOut 3) with sent := 7 };
  let s : State := (tieState State.reset).setLink 1 (fun l => { l with out := [{ (tieOut 3) with sent := 7 }] });
  ((s.link k.val).up = true) ∧ ((s.link k.val).out = [o]) ∧ (7 ≤ o.sent) := by decide +kernel
theorem witness_BulkChannelsMoveBytes_1 :
  let slot : BitVec 12 := 31;
  let v : BitVec 64 := 1;
  let s : State := hostOn State.reset;
  (s.barOn = true) ∧ ((31 ≤ slot.toNat ∨ v.toNat / 2 ^ 17 ≠ 0)) := by decide +kernel
theorem witness_BulkChannelsMoveBytes_2 :
  let slot : BitVec 12 := 2;
  let v : BitVec 64 := 1;
  let e : BitVec 256 := BitVec.ofNat 256 (0x5000 + 2 ^ 64 * 0x9000 + 2 ^ 128 * 8 + 2 ^ 168);
  let s : State := bulkOf { BulkChan.zero with descs := [] } State.reset;
  (s.barOn = true) ∧ (s.dmaOn = true) ∧ (slot.toNat < 31) ∧ (s.rd (R.PUR_CHCFG_RUN (32 + slot.toNat)) = 1) ∧ ((s.bulk (32 +
  slot.toNat)).descs = []) ∧ (v.toNat = s.rd (R.PUR_CHSTAT_HEAD (32 + slot.toNat)) + 1) ∧ (v.toNat < 65536) ∧ (e.toNat / 2 ^ 168 % 2 =
  passBit (s.rd (R.PUR_CHSTAT_HEAD (32 + slot.toNat))) (s.rd (R.PUR_CHCFG_DLOG2 (32 + slot.toNat)))) := by decide +kernel
theorem witness_BulkChannelsMoveBytes_3 :
  let c : Fin 32 := 2;
  let d : Desc := { host := 0x5000, loc := 0x9000, len := 8, op := 1, irq := false, id := 77, bad := false };
  let data : List Byte := [1, 2, 0, 4, 5, 6, 7, 8];
  let s : State := openGirt (bulkOf { BulkChan.zero with descs := [{ host := 0x5000, loc := 0x9000, len := 8, op := 1, irq := false, id := 77, bad := false }] } State.reset);
  (s.bulkRuns (32 + c.val) = true) ∧ (s.rd (R.PUR_CHCFG_MODE (32 + c.val)) = 0) ∧ ((s.bulk (32 + c.val)).descs = [d]) ∧ ((s.bulk (32 +
  c.val)).stopDue = false) ∧ (d.wrongFor false = false) ∧ (d.op = 1) ∧ (data.length = d.len) ∧ (s.girtSpan girtHost d.loc d.len true =
  none) := by decide +kernel
theorem witness_BulkChannelsMoveBytes_4 :
  let c : Fin 32 := 2;
  let d : Desc := { host := 0x5000, loc := 0x9000, len := 8, op := 0, irq := false, id := 77, bad := false };
  let s : State := (fun u : State => { u with flt := { u.flt with badWords := [] } }) (openGirt (bulkOf { BulkChan.zero with descs := [{ host := 0x5000, loc := 0x9000, len := 8, op := 0, irq := false, id := 77, bad := false }] } State.reset));
  (s.bulkRuns (32 + c.val) = true) ∧ (s.rd (R.PUR_CHCFG_MODE (32 + c.val)) = 0) ∧ ((s.bulk (32 + c.val)).descs = [d]) ∧ ((s.bulk (32 +
  c.val)).stopDue = false) ∧ (d.wrongFor false = false) ∧ (d.op = 0) ∧ (d.len ≠ 0) ∧ (s.flt.badWords = []) ∧ (s.girtSpan girtHost
  d.loc d.len false = none) := by decide +kernel
theorem witness_BulkChannelsMoveBytes_5 :
  let c : Fin 32 := 2;
  let d : Desc := { host := 0x5000, loc := 0x9000, len := 8, op := 1, irq := false, id := 77, bad := false };
  let r : Nat := 3;
  let s : State := openGirt (bulkOf { BulkChan.zero with descs := [{ host := 0x5000, loc := 0x9000, len := 8, op := 1, irq := false, id := 77, bad := false }] } State.reset);
  (s.bulkRuns (32 + c.val) = true) ∧ (s.rd (R.PUR_CHCFG_MODE (32 + c.val)) = 0) ∧ ((s.bulk (32 + c.val)).descs = [d]) ∧ ((s.bulk (32 +
  c.val)).stopDue = false) ∧ (d.wrongFor false = false) ∧ (d.op = 1) ∧ (0 < r) ∧ (r ≤ d.len) ∧ (s.girtSpan girtHost d.loc d.len true =
  none) := by decide +kernel
theorem witness_BulkChannelsMoveBytes_6 :
  let c : Fin 32 := 2;
  let d : Desc := { host := 0x5000, loc := 0x9000, len := 8, op := 7, irq := false, id := 77, bad := false };
  let s : State := bulkOf { BulkChan.zero with descs := [{ host := 0x5000, loc := 0x9000, len := 8, op := 7, irq := false, id := 77, bad := false }] } State.reset;
  (s.bulkRuns (32 + c.val) = true) ∧ (s.rd (R.PUR_CHCFG_MODE (32 + c.val)) = 0) ∧ ((s.bulk (32 + c.val)).descs = [d]) ∧ ((s.bulk (32 +
  c.val)).stopDue = false) ∧ (d.wrongFor false = true) := by decide +kernel
theorem witness_BulkChannelsMoveBytes_7 :
  let c : Fin 32 := 2;
  let d : Desc := { host := 0x5000, loc := 0x9000, len := 8, op := 0, irq := false, id := 77, bad := false };
  let a : Nat := 0x9000;
  let s : State := (openGirt (bulkOf { BulkChan.zero with descs := [{ host := 0x5000, loc := 0x9000, len := 8, op := 0, irq := false, id := 77, bad := false }] } State.reset)).wr (R.GRT_RIGHTS_RIGHTS 0) 0;
  (s.bulkRuns (32 + c.val) = true) ∧ (s.rd (R.PUR_CHCFG_MODE (32 + c.val)) = 0) ∧ ((s.bulk (32 + c.val)).descs = [d]) ∧ ((s.bulk (32 +
  c.val)).stopDue = false) ∧ (d.wrongFor false = false) ∧ (s.girtSpan girtHost d.loc d.len (d.op == 1) = some a) := by decide +kernel
theorem witness_BulkChannelsMoveBytes_8 :
  let c : Fin 32 := 2;
  let d : Desc := { host := 0x5000, loc := 0, len := 256, op := 0, irq := false, id := 77, bad := false };
  let x : DogEntry := { seq := 6, offset := 0, size := 192, full := true, sent := false };
  let s : State := (fun u : State => { u with dog := { u.dog with ring := [{ seq := 6, offset := 0, size := 192, full := true, sent := false }] }, fwu := { u.fwu with alloc := .default } }) (((((bulkOf { BulkChan.zero with descs := [{ host := 0x5000, loc := 0, len := 256, op := 0, irq := false, id := 77, bad := false }] } State.reset).wr (R.PUR_CHCFG_MODE 34) 1).wr (R.PUR_CHCFG_OWNER 34) 1).wr R.DOG_CTL_RINGMODE 0).wr R.DOG_CTL_DRAINCH 34);
  (s.bulkRuns (32 + c.val) = true) ∧ (s.rd (R.PUR_CHCFG_MODE (32 + c.val)) = 1) ∧ (s.rd (R.PUR_CHCFG_OWNER (32 + c.val)) = 1) ∧ ((s.bulk
  (32 + c.val)).descs = [d]) ∧ ((s.bulk (32 + c.val)).stopDue = false) ∧ (d.wrongFor true = false) ∧ (s.nextEntry = some x) ∧
  (s.draining = true) ∧ (s.rd R.DOG_CTL_DRAINCH = 32 + c.val) ∧ (x.size ≤ d.len) := by decide +kernel
theorem witness_BulkChannelsMoveBytes_9 :
  let c : Fin 64 := 34;
  let r : Nat := 3;
  let d : Desc := { host := 0x5000, loc := 0x9000, len := 8, op := 1, irq := false, id := 77, bad := false };
  let s : State := openGirt (bulkOf { BulkChan.zero with descs := [{ host := 0x5000, loc := 0x9000, len := 8, op := 1, irq := false, id := 77, bad := false }] } State.reset);
  (s.barOn = true) ∧ (32 ≤ c.val) ∧ (s.rd (R.PUR_CHCFG_OWNER c.val) = 0) ∧ (s.bulkRuns c.val = true) ∧ (s.rd (R.PUR_CHCFG_MODE c.val) =
  0) ∧ ((s.bulk c.val).descs = [d]) ∧ ((s.bulk c.val).stopDue = false) ∧ (d.wrongFor false = false) ∧ (r ≤ d.len) := by decide +kernel
theorem witness_BulkChannelsMoveBytes_10 :
  let c : Fin 64 := 3;
  let s : State := hostOn State.reset;
  (s.barOn = true) ∧ (c.val < 32) := by decide +kernel
theorem witness_BulkChannelsMoveBytes_11 :
  let c : Fin 64 := 34;
  let s : State := (hostOn State.reset).wr (R.PUR_CHCFG_RUN 34) 1;
  (s.barOn = true) ∧ (c.val ≠ 63) ∧ (s.rd (R.PUR_CHCFG_RUN c.val) = 1) := by decide +kernel
theorem witness_BulkChannelsMoveBytes_12 :
  let c : Fin 64 := 34;
  let s : State := (hostOn State.reset).wr (R.PUR_CHCFG_RUN 34) 1;
  (s.barOn = true) ∧ (c.val ≠ 63) ∧ (32 ≤ c.val) ∧ (s.rd (R.PUR_CHCFG_RUN c.val) = 1) := by decide +kernel
theorem witness_TheLinkGoesAndComes_1 :
  let s : State := queued aQueue State.reset;
  (s.rd R.HIF_STATUS_SPEED ≠ 0) := by decide +kernel
theorem witness_TheLinkGoesAndComes_2 :
  let s : State := State.reset.wr R.HIF_STATUS_SPEED 0;
  (s.rd R.HIF_STATUS_SPEED = 0) := by decide +kernel
theorem witness_TheLinkGoesAndComes_3 :
  let speed : BitVec 3 := 4;
  let width : BitVec 3 := 4;
  let s : State := (fun u : State => { u with boot := { u.boot with perstHi := true, powered := true, pornLow := false } }) (State.reset.wr R.HIF_STATUS_SPEED 0);
  (s.boot.perstHi = true) ∧ (s.boot.powered = true) ∧ (s.boot.pornLow = false) ∧ (s.rd R.HIF_STATUS_SPEED = 0) ∧ (1 ≤ speed.toNat) ∧
  (speed.toNat ≤ 5) ∧ (width.toNat ≤ 4) := by decide +kernel
theorem witness_TheLinkGoesAndComes_4 :
  let s : State := hostOn State.reset;
  (s.partUp = true) := by decide +kernel
theorem witness_TheLinkGoesAndComes_5 :
  let c : Fin 32 := 2;
  let r : Nat := 3;
  let d : Desc := { host := 0x5000, loc := 0x9000, len := 8, op := 1, irq := false, id := 77, bad := false };
  let s : State := openGirt (bulkOf { BulkChan.zero with descs := [{ host := 0x5000, loc := 0x9000, len := 8, op := 1, irq := false, id := 77, bad := false }] } State.reset);
  (s.partUp = true) ∧ (s.bulkRuns (32 + c.val) = true) ∧ (s.rd (R.PUR_CHCFG_MODE (32 + c.val)) = 0) ∧ ((s.bulk (32 + c.val)).descs =
  [d]) ∧ ((s.bulk (32 + c.val)).owed = []) ∧ (0 < r) ∧ (r ≤ d.len) := by decide +kernel
theorem witness_TheLinkGoesAndComes_6 :
  let q : Fin 4096 := 9;
  let s : State := queued aQueue State.reset;
  (s.qState q.val = 1) ∧ ((s.queue q.val).bind (·.closing) = none) := by decide +kernel
theorem witness_TheLinkGoesAndComes_7 :
  let r : Fin 16 := 3;
  let s : State := (State.reset.wr (R.HIF_CRCFG_EN 3) 1).wr (R.HIF_CRSTAT_WEDGED 3) 0;
  (s.rd (R.HIF_CRCFG_EN r.val) = 1) ∧ (s.rd (R.HIF_CRSTAT_WEDGED r.val) = 0) := by decide +kernel
theorem witness_TheLinkGoesAndComes_8 :
  let c : Fin 32 := 2;
  let s : State := (State.reset.wr (R.PUR_CHCFG_RUN 34) 1).wr (R.PUR_CHSTAT_WEDGED 34) 0;
  (s.rd (R.PUR_CHCFG_RUN (32 + c.val)) = 1) ∧ (s.rd (R.PUR_CHSTAT_WEDGED (32 + c.val)) = 0) := by decide +kernel
theorem witness_TheLinkGoesAndComes_9 :
  let s : State := (fun u : State => { u with flt := { u.flt with injLath := false } }) State.reset;
  (s.flt.injLath = false) := by decide +kernel
theorem witness_TheLinkGoesAndComes_10 :
  let r : Fin 16 := 3;
  let e : BitVec 512 := entry 9 6 4 4096;
  let s : State := (fun u : State => { u with hif := { u.hif with redone := [(3, 9)] } }) (ringed 3 (entry 9 6 4 4096) State.reset);
  ((s.cmdRing r.val).fetched = [e]) ∧ (s.ringRuns r.val = true) ∧ (s.ringHeld r.val = false) ∧ (mapGet 0 s.hif.redone r.val = cmdCid e) := by decide +kernel
theorem witness_TheLinkGoesAndComes_11 :
  let lane : Fin 16 := 3;
  let k : Nat := 2;
  let s : State := ((State.reset.wr R.HIF_STATUS_WIDTH 16).wr R.FLT_PCIE_LANEOUT 0x1000).wr R.HIF_STATUS_SPEED 4;
  (s.rd R.HIF_STATUS_SPEED ≠ 0) ∧ ((s.rd R.FLT_PCIE_LANEOUT).testBit lane.val = false) ∧ (widthWithout (putBit (s.rd R.FLT_PCIE_LANEOUT)
  lane.val true) (s.rd R.HIF_STATUS_WIDTH) = some k) := by decide +kernel
theorem witness_TheLinkGoesAndComes_12 :
  let lane : Fin 16 := 15;
  let s : State := ((State.reset.wr R.HIF_STATUS_WIDTH 1).wr R.FLT_PCIE_LANEOUT 1).wr R.HIF_STATUS_SPEED 4;
  (s.rd R.HIF_STATUS_SPEED ≠ 0) ∧ ((s.rd R.FLT_PCIE_LANEOUT).testBit lane.val = false) ∧ (widthWithout (putBit (s.rd R.FLT_PCIE_LANEOUT)
  lane.val true) (s.rd R.HIF_STATUS_WIDTH) = none) := by decide +kernel
theorem witness_TheLinkGoesAndComes_13 :
  let s : State := (fun u : State => { u with boot := { u.boot with linked := false } }) (State.reset.wr R.HIF_STATUS_SPEED 3);
  (s.rd R.HIF_STATUS_SPEED ≠ 0) ∧ (s.partUp = false) := by decide +kernel
theorem witness_TheLinkGoesAndComes_14 :
  let s : State := hostOn State.reset;
  (s.partUp = true) := by decide +kernel
theorem witness_TheLinkGoesAndComes_15 :
  let s : State := hostOn State.reset;
  (s.partUp = true) ∧ (∀ i : Fin 31, (s.bulk (32 + i.val)).descs = []) := by decide +kernel
theorem witness_TheLinkGoesAndComes_16 :
  let s : State := hostOn State.reset;
  (s.partUp = true) ∧ (∀ i : Fin 31, (s.bulk (32 + i.val)).descs = []) := by decide +kernel
theorem witness_TheLinkGoesAndComes_17 :
  let s : State := hostOn State.reset;
  (s.partUp = true) := by decide +kernel
theorem witness_TheLinkGoesAndComes_18 :
  let s : State := hostOn State.reset;
  (s.partUp = true) := by decide +kernel
theorem witness_TheLinkGoesAndComes_19 :
  let s : State := hostOn State.reset;
  (s.partUp = true) := by decide +kernel
theorem witness_SettingsAreSaved_1 :
  let s : State := unlocked State.reset;
  (s.rd R.FWU_STATUS_SETLOCK = 0) ∧ (s.rd R.FWU_STATUS_STAGEBUSY = 0) := by decide +kernel
theorem witness_SettingsAreSaved_2 :
  let s : State := (unlocked State.reset).wr R.FWU_STATUS_SETLOCK 1;
  ((s.rd R.FWU_STATUS_SETLOCK = 1 ∨ s.rd R.FWU_STATUS_STAGEBUSY = 1)) := by decide +kernel
theorem witness_SettingsAreSaved_3 :
  let s : State := (unlocked State.reset).wr R.PLB_LANECFG_SAVEH 24;
  (s.rd R.PLB_LANECFG_SAVEH ≠ 0) ∧ (s.rd R.FWU_STATUS_SETLOCK = 0) ∧ (s.rd R.FWU_STATUS_STAGEBUSY = 0) := by decide +kernel
theorem witness_SettingsAreSaved_4 :
  let s : State := (unlocked State.reset).wr R.PLB_LANECFG_SAVEH 0;
  (s.rd R.PLB_LANECFG_SAVEH = 0) := by decide +kernel
theorem witness_SettingsAreSaved_5 :
  let r : Fin 16 := 3;
  let e : BitVec 512 := entry 9 0x13 0 0;
  let s : State := unlocked (ringed 3 (entry 9 0x13 0 0) State.reset);
  (AtFront r.val 0x13 e s) ∧ (cmdClean e 16 = true) ∧ (cmdParam e = 0) ∧ (s.rd R.FWU_STATUS_SETLOCK = 0) ∧ (s.rd R.FWU_STATUS_STAGEBUSY
  = 0) := by delta AtFront; decide +kernel
theorem witness_SettingsAreSaved_6 :
  let r : Fin 16 := 3;
  let e : BitVec 512 := entry 9 0x13 0 0;
  let s : State := (unlocked (ringed 3 (entry 9 0x13 0 0) State.reset)).wr R.FWU_STATUS_SETLOCK 1;
  (AtFront r.val 0x13 e s) ∧ (cmdClean e 16 = true) ∧ (cmdParam e = 0) ∧ (s.rd R.FWU_STATUS_SETLOCK = 1) ∧ (s.rd R.FWU_STATUS_STAGEBUSY
  = 0) := by delta AtFront; decide +kernel
theorem witness_SettingsAreSaved_7 :
  let r : Fin 16 := 3;
  let e : BitVec 512 := entry 9 0x13 0 0;
  let s : State := unlocked (ringed 3 (entry 9 0x13 0 0) State.reset);
  (AtFront r.val 0x13 e s) ∧ (cmdClean e 16 = true) ∧ (cmdParam e = 0) ∧ (s.rd R.FWU_STATUS_SETLOCK = 0) ∧ (s.rd R.FWU_STATUS_STAGEBUSY
  = 0) := by delta AtFront; decide +kernel
theorem witness_SettingsAreSaved_8 :
  let s : State := (ringed 3 (entry 9 0x13 0 0) State.reset).wr R.FWU_STATUS_STAGEBUSY 1;
  (s.rd R.FWU_STATUS_STAGEBUSY = 1) := by decide +kernel
theorem witness_ImagesAreStagedAndConfirmed_1 :
  let r : Fin 16 := 3;
  let e : BitVec 512 := entry 9 0x10 0 32;
  let s : State := ringed 3 (entry 9 0x10 0 32) State.reset;
  (AtFront r.val 0x10 e s) ∧ ((cmdClean e 28 = false ∨ cmdParam e ≠ 0 ∨ cmdField e 16 8 % 64 ≠ 0)) := by delta AtFront; decide +kernel
theorem witness_ImagesAreStagedAndConfirmed_2 :
  let r : Fin 16 := 3;
  let e : BitVec 512 := entry 9 0x10 0 0;
  let s : State := onTrial (ringed 3 (entry 9 0x10 0 0) State.reset);
  (AtFront r.val 0x10 e s) ∧ (cmdClean e 28 = true) ∧ (cmdParam e = 0) ∧ (cmdField e 16 8 % 64 = 0) ∧ ((s.rd R.FWU_STATUS_IMGSTATE = 1 ∨
  s.rd R.FWU_STATUS_IMGSTATE = 2 ∨ s.fwu.job ≠ none ∨ s.fwu.live ≠ none)) := by delta AtFront; decide +kernel
theorem witness_ImagesAreStagedAndConfirmed_3 :
  let r : Fin 16 := 3;
  let e : BitVec 512 := entry 9 0x10 0 0;
  let s : State := (ringed 3 (entry 9 0x10 0 0) State.reset).wr R.FWU_STATUS_IMGSTATE 0;
  (AtFront r.val 0x10 e s) ∧ (cmdClean e 28 = true) ∧ (cmdParam e = 0) ∧ (cmdField e 16 8 % 64 = 0) ∧ (s.rd R.FWU_STATUS_IMGSTATE = 0) ∧
  (s.fwu.job = none) ∧ (s.fwu.live = none) := by delta AtFront; decide +kernel
theorem witness_ImagesAreStagedAndConfirmed_4 :
  let r : Fin 16 := 3;
  let d : List Byte := [1, 2];
  let e : BitVec 512 := entry 9 0x10 0 (2 * 2 ^ 64);
  let s : State := (ringed 3 (entry 9 0x10 0 (2 * 2 ^ 64)) State.reset).wr R.FWU_STATUS_IMGSTATE 0;
  (AtFront r.val 0x10 e s) ∧ (cmdClean e 28 = true) ∧ (cmdParam e = 0) ∧ (cmdField e 16 8 % 64 = 0) ∧ (s.rd R.FWU_STATUS_IMGSTATE = 0) ∧
  (s.fwu.job = none) ∧ (s.fwu.live = none) ∧ (d.length = cmdField e 24 4) := by delta AtFront; decide +kernel
theorem witness_ImagesAreStagedAndConfirmed_5 :
  let j : StageJob := { ring := 3, cid := 0, slot := true, image := blankImage, bytes := [1, 2, 3] };
  let e : BitVec 512 := entry 9 0x10 0 0;
  let s : State := (ringed 3 (entry 9 0x10 0 0) State.reset).onFwu (fun f => { f with job := some { ring := 3, cid := 0, slot := true, image := blankImage, bytes := [1, 2, 3] }, plbHeld := false });
  (s.fwu.job = some j) ∧ (j.ring < 16) ∧ ((s.cmdRing j.ring).fetched = [e]) ∧ (s.fwu.plbHeld = false) := by decide +kernel
theorem witness_ImagesAreStagedAndConfirmed_6 :
  let j : StageJob := { ring := 3, cid := 0, slot := true, image := blankImage, bytes := [1, 2, 3] };
  let s : State := ((ringed 3 0 State.reset).onFwu (fun f => { f with job := some { ring := 3, cid := 0, slot := true, image := blankImage, bytes := [1, 2, 3] }, plbHeld := false })).wr R.FWU_STATUS_SETLOCK 1;
  (s.fwu.job = some j) ∧ ((s.rd R.FWU_STATUS_SETLOCK = 1 ∨ s.fwu.plbHeld = false)) := by decide +kernel
theorem witness_ImagesAreStagedAndConfirmed_7 :
  let j : StageJob := { ring := 3, cid := 0, slot := true, image := blankImage, bytes := [1, 2, 3] };
  let s : State := ((ringed 3 0 State.reset).onFwu (fun f => { f with job := some { ring := 3, cid := 0, slot := true, image := blankImage, bytes := [1, 2, 3] }, plbHeld := false })).wr R.FWU_STATUS_SETLOCK 1;
  (s.fwu.job = some j) ∧ ((s.rd R.FWU_STATUS_SETLOCK = 1 ∨ s.fwu.plbHeld = false)) := by decide +kernel
theorem witness_ImagesAreStagedAndConfirmed_8 :
  let s : State := State.reset.onFwu (fun f => { f with job := none });
  (s.fwu.job = none) := by decide +kernel
theorem witness_ImagesAreStagedAndConfirmed_9 :
  let r : Fin 16 := 3;
  let e : BitVec 512 := entry 9 0x11 0 0xFFFFFFFF;
  let i : Image := blankImage;
  let c : Bool := false;
  let h : BootHead := { hseq := 1, active := false, state := 1, tries := 2, verAct := 0xFFFFFFFF, verOth := 5 };
  let s : State := (onTrial (ringed 3 (entry 9 0x11 0 0xFFFFFFFF) { State.reset with flash := [] })).onFwu (fun f => { f with plbHeld := false });
  (AtFront r.val 0x11 e s) ∧ (cmdClean e 20 = true) ∧ (cmdParam e = 0) ∧ (s.fwu.running = some i) ∧ (s.bootHead = some (c, h)) ∧ (s.rd
  R.FWU_STATUS_IMGSTATE = 1) ∧ (cmdField e 16 4 = imgVersion i.header) ∧ (s.fwu.plbHeld = false) := by delta AtFront; decide +kernel
theorem witness_ImagesAreStagedAndConfirmed_10 :
  let r : Fin 16 := 3;
  let e : BitVec 512 := entry 9 0x11 1 0xFFFFFFFF;
  let i : Image := blankImage;
  let c : Bool := false;
  let h : BootHead := { hseq := 1, active := false, state := 1, tries := 2, verAct := 0xFFFFFFFF, verOth := 5 };
  let s : State := (onTrial (ringed 3 (entry 9 0x11 1 0xFFFFFFFF) { State.reset with flash := [] })).onBoot (fun b => { b with inReset := false, ended := false, pornLow := false, powered := true });
  (AtFront r.val 0x11 e s) ∧ (cmdClean e 20 = true) ∧ (cmdParam e = 1) ∧ (s.fwu.running = some i) ∧ (s.bootHead = some (c, h)) ∧ ((s.rd
  R.FWU_STATUS_IMGSTATE = 1 ∨ s.rd R.FWU_STATUS_IMGSTATE = 2)) ∧ (cmdField e 16 4 = imgVersion i.header) ∧ (ResetMayStart s) := by delta ResetMayStart AtFront; decide +kernel
theorem witness_ImagesAreStagedAndConfirmed_11 :
  let r : Fin 16 := 3;
  let e : BitVec 512 := entry 9 0x11 1 77;
  let i : Image := blankImage;
  let s : State := onTrial (ringed 3 (entry 9 0x11 1 77) State.reset);
  (AtFront r.val 0x11 e s) ∧ (cmdClean e 20 = true) ∧ (cmdParam e ≤ 1) ∧ (s.fwu.running = some i) ∧ (s.rd R.FWU_STATUS_IMGSTATE = 1) ∧
  (cmdField e 16 4 ≠ imgVersion i.header) := by delta AtFront; decide +kernel
theorem witness_ImagesAreStagedAndConfirmed_12 :
  let r : Fin 16 := 3;
  let e : BitVec 512 := entry 9 0x11 2 77;
  let s : State := onTrial (ringed 3 (entry 9 0x11 2 77) State.reset);
  (AtFront r.val 0x11 e s) ∧ ((cmdClean e 20 = false ∨ (1 < cmdParam e ∧ s.fwu.running ≠ none))) := by delta AtFront; decide +kernel
theorem witness_ImagesAreStagedAndConfirmed_13 :
  let r : Fin 16 := 3;
  let e : BitVec 512 := entry 9 0x11 0 0xFFFFFFFF;
  let s : State := (onTrial (ringed 3 (entry 9 0x11 0 0xFFFFFFFF) State.reset)).wr R.FWU_STATUS_IMGSTATE 2;
  (AtFront r.val 0x11 e s) ∧ (cmdClean e 20 = true) ∧ (cmdParam e ≤ 1) ∧ ((s.fwu.running = none ∨ s.rd R.FWU_STATUS_IMGSTATE = 0 ∨ (s.rd
  R.FWU_STATUS_IMGSTATE = 2 ∧ cmdParam e = 0))) := by delta AtFront; decide +kernel
theorem witness_RunningFirmwareIsReplacedLive_1 :
  let r : Fin 16 := 3;
  let e : BitVec 512 := entry 9 0x12 4 0;
  let s : State := ringed 3 (entry 9 0x12 4 0) State.reset;
  (AtFront r.val 0x12 e s) ∧ ((cmdClean e 16 = false ∨ 3 < cmdParam e)) := by delta AtFront; decide +kernel
theorem witness_RunningFirmwareIsReplacedLive_2 :
  let r : Fin 16 := 3;
  let e : BitVec 512 := entry 9 0x12 3 0;
  let s : State := (ringed 3 (entry 9 0x12 3 0) State.reset).onFwu (fun f => { f with staged := none });
  (AtFront r.val 0x12 e s) ∧ (cmdClean e 16 = true) ∧ (cmdParam e ≤ 3) ∧ ((s.stagedTrial = none ∨ s.fwu.job ≠ none ∨ (cmdParam e % 2 = 1
  ∧ s.rd R.FLT_STATUS_MGMTSB = 0) ∨ (2 ≤ cmdParam e ∧ (s.fwu.live ≠ none ∨ s.jst.subFor ≠ none ∨ s.jst.subAt ≠ none)))) := by delta AtFront; decide +kernel
theorem witness_RunningFirmwareIsReplacedLive_3 :
  let r : Fin 16 := 3;
  let e : BitVec 512 := entry 9 0x12 1 0;
  let i : Image := blankImage;
  let h : BootHead := { hseq := 1, active := false, state := 1, tries := 2, verAct := 0xFFFFFFFF, verOth := 5 };
  let s : State := (((onTrial (ringed 3 (entry 9 0x12 1 0) { State.reset with flash := [] })).wr R.FWU_STATUS_IMGSTATE 0).wr R.FLT_STATUS_MGMTSB 1).wr R.FWU_STATUS_LIVEPART 0;
  (AtFront r.val 0x12 e s) ∧ (cmdClean e 16 = true) ∧ (cmdParam e = 1) ∧ (MayReplace i h s) ∧ (s.rd R.FLT_STATUS_MGMTSB ≠ 0) ∧ (s.rd
  R.FLT_STATUS_ACTCORE < 2) ∧ (s.rd R.FWU_STATUS_LIVEPART = 0) := by delta AtFront MayReplace; decide +kernel
theorem witness_RunningFirmwareIsReplacedLive_4 :
  let r : Fin 16 := 3;
  let e : BitVec 512 := entry 9 0x12 1 0;
  let i : Image := blankImage;
  let h : BootHead := { hseq := 1, active := false, state := 1, tries := 2, verAct := 0xFFFFFFFF, verOth := 5 };
  let s : State := (((onTrial (ringed 3 (entry 9 0x12 1 0) { State.reset with flash := [] })).wr R.FWU_STATUS_IMGSTATE 2).wr R.FLT_STATUS_MGMTSB 1).wr R.FWU_STATUS_LIVEPART 2;
  (AtFront r.val 0x12 e s) ∧ (cmdClean e 16 = true) ∧ (cmdParam e = 1) ∧ (MayReplace i h s) ∧ (s.rd R.FLT_STATUS_MGMTSB ≠ 0) ∧ (s.rd
  R.FWU_STATUS_LIVEPART = 2) := by delta AtFront MayReplace; decide +kernel
theorem witness_RunningFirmwareIsReplacedLive_5 :
  let r : Fin 16 := 3;
  let e : BitVec 512 := entry 9 0x12 1 0;
  let i : Image := blankImage;
  let h : BootHead := { hseq := 1, active := false, state := 1, tries := 2, verAct := 0xFFFFFFFF, verOth := 5 };
  let s : State := ((onTrial (ringed 3 (entry 9 0x12 1 0) { State.reset with flash := [] })).onFwu (fun f => { f with truss := [1] })).wr R.FLT_STATUS_MGMTSB 1;
  (AtFront r.val 0x12 e s) ∧ (cmdClean e 16 = true) ∧ (cmdParam e = 1) ∧ (s.stagedTrial = some (i, h)) ∧ (s.fwu.job = none) ∧ (s.rd
  R.FLT_STATUS_MGMTSB ≠ 0) ∧ (i.sect 2 ≠ s.fwu.truss) := by delta AtFront; decide +kernel
theorem witness_RunningFirmwareIsReplacedLive_6 :
  let r : Fin 16 := 3;
  let e : BitVec 512 := entry 9 0x12 2 0;
  let i : Image := blankImage;
  let h : BootHead := { hseq := 1, active := false, state := 1, tries := 2, verAct := 0xFFFFFFFF, verOth := 5 };
  let s : State := joisted (fun j => { j with subFor := none, subAt := none }) (((onTrial (ringed 3 (entry 9 0x12 2 0) { State.reset with flash := [] })).wr R.FWU_STATUS_IMGSTATE 0));
  (AtFront r.val 0x12 e s) ∧ (cmdClean e 16 = true) ∧ (cmdParam e = 2) ∧ (MayReplace i h s) ∧ (s.fwu.live = none) ∧ (s.jst.subFor =
  none) ∧ (s.jst.subAt = none) := by delta AtFront MayReplace; decide +kernel
theorem witness_RunningFirmwareIsReplacedLive_7 :
  let j : LiveJob := { ring := 3, cid := 9, parts := 2, step := 4 };
  let s : State := joisted (fun j => { j with subFor := some 4, subAt := none, clFault := [] }) ((ringed 3 0 State.reset).onFwu (fun f => { f with live := some { ring := 3, cid := 9, parts := 2, step := 4 } }) );
  (s.fwu.live = some j) ∧ (j.step < 31) ∧ (s.jst.subFor = some j.step) ∧ (s.jst.subAt = none) ∧ (s.jst.clFault = []) := by decide +kernel
theorem witness_RunningFirmwareIsReplacedLive_8 :
  let j : LiveJob := { ring := 3, cid := 9, parts := 2, step := 31 };
  let e : BitVec 512 := entry 9 0x12 2 0;
  let s : State := joisted (fun j => { j with subFor := some 31, subAt := none, clFault := [] }) ((ringed 3 (entry 9 0x12 2 0) State.reset).onFwu (fun f => { f with live := some { ring := 3, cid := 9, parts := 2, step := 31 } }) );
  (s.fwu.live = some j) ∧ (j.ring < 16) ∧ (j.step = 31) ∧ ((s.cmdRing j.ring).fetched = [e]) ∧ (s.jst.subFor = some 31) ∧ (s.jst.subAt =
  none) ∧ (s.jst.clFault = []) := by decide +kernel
theorem witness_RunningFirmwareIsReplacedLive_9 :
  let j : LiveJob := { ring := 3, cid := 9, parts := 2, step := 4 };
  let e : BitVec 512 := entry 9 0x12 2 0;
  let s : State := joisted (fun j => { j with subFor := none, subAt := none, clFault := [] }) ((ringed 3 (entry 9 0x12 2 0) State.reset).onFwu (fun f => { f with live := some { ring := 3, cid := 9, parts := 2, step := 4 } }) );
  (s.fwu.live = some j) ∧ (j.ring < 16) ∧ ((s.cmdRing j.ring).fetched = [e]) ∧ (s.jst.subFor ≠ some j.step) ∧ (s.jst.subAt = none) := by decide +kernel
theorem witness_RunningFirmwareIsReplacedLive_10 :
  let s : State := State.reset.onFwu (fun f => { f with live := none });
  (s.fwu.live = none) := by decide +kernel
theorem witness_RecoveryCommandsAnswer_1 :
  let via : RecPath := .uart true;
  let s : State := State.reset.onFwu (fun f => { f with recovery := false });
  ((s.fwu.recovery = false ∨ via = .uart false)) := by decide +kernel
theorem witness_RecoveryCommandsAnswer_2 :
  let via : RecPath := .uart true;
  let s : State := State.reset.onFwu (fun f => { f with recovery := false });
  ((s.fwu.recovery = false ∨ via = .uart false)) := by decide +kernel
theorem witness_RecoveryCommandsAnswer_3 :
  let via : RecPath := .uart true;
  let s : State := State.reset.onFwu (fun f => { f with recovery := false });
  ((s.fwu.recovery = false ∨ via = .uart false)) := by decide +kernel
theorem witness_RecoveryCommandsAnswer_4 :
  let via : RecPath := .uart true;
  let s : State := State.reset.onFwu (fun f => { f with recovery := false });
  ((s.fwu.recovery = false ∨ via = .uart false)) := by decide +kernel
theorem witness_RecoveryCommandsAnswer_5 :
  let via : RecPath := .uart true;
  let s : State := State.reset.onFwu (fun f => { f with recovery := false });
  ((s.fwu.recovery = false ∨ via = .uart false)) := by decide +kernel
theorem witness_RecoveryCommandsAnswer_6 :
  let via : RecPath := if 1 % 2 == 0 then .bar4 else .uart true;
  let a1 : Word := 70000;
  let s : State := recovering none State.reset;
  (s.fwu.recovery = true) ∧ (via ≠ .uart false) ∧ (1024 ≤ a1.toNat) ∧ (a1.toNat ≤ 127 * 2 ^ 20) := by decide +kernel
theorem witness_RecoveryCommandsAnswer_7 :
  let via : RecPath := if 1 % 2 == 0 then .bar4 else .uart true;
  let a1 : Word := 1023;
  let s : State := recovering none State.reset;
  (s.fwu.recovery = true) ∧ (via ≠ .uart false) ∧ ((a1.toNat < 1024 ∨ 127 * 2 ^ 20 < a1.toNat)) := by decide +kernel
theorem witness_RecoveryCommandsAnswer_8 :
  let via : RecPath := if 1 % 2 == 0 then .bar4 else .uart true;
  let s : State := recovering none State.reset;
  (s.fwu.recovery = true) ∧ (via ≠ .uart false) ∧ (s.fwu.receipt = none) := by decide +kernel
theorem witness_RecoveryCommandsAnswer_9 :
  let via : RecPath := .uart true;
  let a1 : Word := 4097;
  let x : Receipt := { len := 8000, prog := 0, slot := true, bytes := [], failed := false };
  let s : State := recovering (some { len := 8000, prog := 0, slot := true, bytes := [], failed := false }) State.reset;
  (s.fwu.recovery = true) ∧ (via ≠ .uart false) ∧ (s.fwu.receipt = some x) ∧ ((x.failed = true ∨ 983040 < a1.toNat ∨ (recUart via = true
  ∧ 4096 < a1.toNat) ∨ x.len < x.prog + a1.toNat)) := by decide +kernel
theorem witness_RecoveryCommandsAnswer_10 :
  let via : RecPath := if 1 % 2 == 0 then .bar4 else .uart true;
  let a0 : Word := 3;
  let a1 : Word := 2;
  let x : Receipt := { len := 8000, prog := 0, slot := true, bytes := [], failed := false };
  let s : State := recovering (some { len := 8000, prog := 0, slot := true, bytes := [], failed := false }) State.reset;
  (s.fwu.recovery = true) ∧ (via ≠ .uart false) ∧ (s.fwu.receipt = some x) ∧ (x.failed = false) ∧ (a1.toNat ≤ 4096) ∧ (x.prog + a1.toNat
  ≤ x.len) ∧ (a0.toNat ≠ x.prog) := by decide +kernel
theorem witness_RecoveryCommandsAnswer_11 :
  let via : RecPath := if 1 % 2 == 0 then .bar4 else .uart true;
  let a0 : Word := 3;
  let a1 : Word := 2;
  let d : List Byte := [1, 2];
  let x : Receipt := { len := 8000, prog := 3, slot := true, bytes := [7, 8, 9], failed := false };
  let s : State := recovering (some { len := 8000, prog := 3, slot := true, bytes := [7, 8, 9], failed := false }) State.reset;
  (s.fwu.recovery = true) ∧ (via ≠ .uart false) ∧ (s.fwu.receipt = some x) ∧ (x.failed = false) ∧ (a1.toNat ≤ 4096) ∧ (d.length =
  a1.toNat) ∧ (x.prog + a1.toNat ≤ x.len) ∧ (a0.toNat = x.prog) ∧ (x.bytes.length + d.length < 1024) := by decide +kernel
theorem witness_RecoveryCommandsAnswer_12 :
  let via : RecPath := if 1 % 2 == 0 then .bar4 else .uart true;
  let a0 : Word := 1025;
  let a1 : Word := 2;
  let d : List Byte := [1, 2];
  let x : Receipt := { len := 8000, prog := 1025, slot := true, bytes := List.replicate 1025 7, failed := false };
  let s : State := recovering (some { len := 8000, prog := 1025, slot := true, bytes := List.replicate 1025 7, failed := false }) State.reset;
  (s.fwu.recovery = true) ∧ (via ≠ .uart false) ∧ (s.fwu.receipt = some x) ∧ (x.failed = false) ∧ (a1.toNat ≤ 4096) ∧ (d.length =
  a1.toNat) ∧ (x.prog + a1.toNat ≤ x.len) ∧ (a0.toNat = x.prog) ∧ (1024 ≤ x.prog) ∧ (x.bytes.length = x.prog) := by decide +kernel
theorem witness_RecoveryCommandsAnswer_13 :
  let via : RecPath := if 1 % 2 == 0 then .bar4 else .uart true;
  let s : State := recovering none State.reset;
  (s.fwu.recovery = true) ∧ (via ≠ .uart false) ∧ (s.fwu.receipt = none) := by decide +kernel
theorem witness_RecoveryCommandsAnswer_14 :
  let via : RecPath := if 1 % 2 == 0 then .bar4 else .uart true;
  let x : Receipt := { len := 4, prog := 4, slot := true, bytes := [1, 2, 3, 4], failed := false };
  let s : State := recovering (some { len := 4, prog := 4, slot := true, bytes := [1, 2, 3, 4], failed := false }) State.reset;
  (s.fwu.recovery = true) ∧ (via ≠ .uart false) ∧ (s.fwu.receipt = some x) ∧ (x.failed = false) ∧ (x.prog = x.len) := by decide +kernel
theorem witness_RecoveryCommandsAnswer_15 :
  let via : RecPath := if 1 % 2 == 0 then .bar4 else .uart true;
  let s : State := recovering none State.reset;
  (s.fwu.recovery = true) ∧ (via ≠ .uart false) := by decide +kernel
theorem witness_RecoveryCommandsAnswer_16 :
  let via : RecPath := if 1 % 2 == 0 then .bar4 else .uart true;
  let s : State := recovering none State.reset;
  (s.fwu.recovery = true) ∧ (via ≠ .uart false) := by decide +kernel
theorem witness_RecoveryCommandsAnswer_17 :
  let a0 : Word := 3000000;
  let s : State := recovering none State.reset;
  (s.fwu.recovery = true) ∧ (115200 ≤ a0.toNat) ∧ (a0.toNat ≤ 3000000) := by decide +kernel
theorem witness_RecoveryCommandsAnswer_18 :
  let via : RecPath := .bar4;
  let a0 : Word := 3000000;
  let s : State := recovering none State.reset;
  (s.fwu.recovery = true) ∧ (via ≠ .uart false) ∧ ((recUart via = false ∨ a0.toNat < 115200 ∨ 3000000 < a0.toNat)) := by decide +kernel
theorem witness_LogEntriesReadThroughRegisters_1 :
  let s : State := hostOn State.reset;
  (s.barOn = true) ∧ (s.girtReg girtHost 0x500028 true = true) := by decide +kernel
theorem witness_LogEntriesReadThroughRegisters_2 :
  let v : Word := 0;
  let e : FltEntry := FltEntry.ofReport { src := 9, code := 3, sev := 1, unit := 4, detail := 0x55, time := 777 };
  let s : State := ({ State.reset with flt := { State.reset.flt with ring := [e] } } : State).wr R.FLT_RDSEQLO_ESEQ 0;
  (s.flt.badWords = []) ∧ (s.flt.ring.find? (fun e => e.eseq == s.rd R.FLT_RDSEQLO_ESEQ + 2 ^ 32 * v.toNat) = some e) := by decide +kernel
theorem witness_LogEntriesReadThroughRegisters_3 :
  let v : Word := 5;
  let s : State := ({ State.reset with flt := { State.reset.flt with ring := [] } } : State);
  (s.flt.ring.find? (fun e => e.eseq == s.rd R.FLT_RDSEQLO_ESEQ + 2 ^ 32 * v.toNat) = none) := by decide +kernel
theorem witness_UnassignedOffsetsReadZero_1 :
  let addr : BitVec 24 := 0x44;
  let s : State := hostOn State.reset;
  (s.barOn = true) ∧ (Unassigned addr.toNat) ∧ (addr.toNat % 4 = 0) ∧ (s.girtReg girtHost addr.toNat false = true) := by delta Unassigned; decide +kernel
theorem witness_UnassignedOffsetsReadZero_2 :
  let addr : BitVec 24 := 0x5FFFF8;
  let s : State := hostOn State.reset;
  (s.barOn = true) ∧ (Unassigned addr.toNat) ∧ (addr.toNat % 4 = 0) ∧ (s.girtReg girtHost addr.toNat true = true) := by delta Unassigned; decide +kernel
theorem witness_UnassignedOffsetsReadZero_3 :
  let addr : BitVec 24 := 0x44;
  let s : State := (hostOn State.reset).wr (R.GRT_RIGHTS_RIGHTS 64) 0;
  (s.barOn = true) ∧ (addr.toNat % 4 = 0) ∧ (s.girtReg girtHost addr.toNat false = false) := by decide +kernel
theorem witness_UnassignedOffsetsReadZero_4 :
  let addr : BitVec 24 := 0x40;
  let s : State := (hostOn State.reset).wr (R.GRT_RIGHTS_RIGHTS 64) 0;
  (s.barOn = true) ∧ (addr.toNat % 4 = 0) ∧ (s.girtReg girtHost addr.toNat true = false) := by decide +kernel
theorem witness_TheKeyStartsAFullReset_1 :
  let s : State := hostOn (State.reset.onBoot (fun b => { b with ended := false }));
  (s.barOn = true) ∧ (s.boot.pornLow = false) ∧ (s.boot.powered = true) ∧ (s.boot.ended = false) ∧ (s.boot.inReset = false) ∧ (rightOk
  (s.girtRight girtHost 64) true = true) := by decide +kernel
theorem witness_TheKeyStartsAFullReset_2 :
  let v : Word := 5;
  let s : State := hostOn State.reset;
  (s.barOn = true) ∧ (rightOk (s.girtRight girtHost 64) true = true) ∧ (v ≠ 0x46554C4C#32) := by decide +kernel
theorem witness_TheKeyStartsAFullReset_3 :
  let s : State := (hostOn State.reset).wr (R.GRT_RIGHTS_RIGHTS 64) 0;
  (s.barOn = true) ∧ (rightOk (s.girtRight girtHost 64) true = false) := by decide +kernel

end Sys2Proof.Machine
end

section
/-!
The frame of every command, said once: `exec_within` puts the laws `execX_only` of all commands beside the table `mayChange`. The
canonical form of the stores (O4) and the frame of all commands (O5) follow from it.
-/
namespace Sys2Proof.Machine

/-- The part of the state that a bit of the masks of `Only` stands for. THM and JST each fill two bits; what the summary message
changes, what left the part and the keys of no block belong to none. -/
def partOfBit : Nat → Option Part
  | 0 => some .GLB | 1 => some .CLK | 2 => some .THM | 3 => some .THM | 4 => some .KRF | 5 => some .PEG | 6 => some .MRT
  | 7 => some .JST | 8 => some .JST | 9 => some .JNL | 10 => some .LBK | 11 => some .BTN | 12 => some .TNN | 13 => some .TRS
  | 14 => some .WFP | 15 => some .DOG | 16 => some .SIL | 17 => some .PLB | 18 => some .HIF | 19 => some .PUR | 20 => some .DWL
  | 21 => some .FWU | 22 => some .GRT | 23 => some .FLT | 32 => some .latch | 33 => some .clk | 34 => some .boot
  | 35 => some .tnn | 36 => some .btn | 37 => some .peg | 38 => some .krf | 39 => some .jst | 40 => some .jnl | 41 => some .lbk
  | 42 => some .wfp | 43 => some .dog | 44 => some .trs | 45 => some .sil | 46 => some .thm | 47 => some .plb | 48 => some .hif
  | 49 => some .dwl | 50 => some .fwu | 51 => some .flt | 52 => some .hbm | 53 => some .flash | 55 => some .fresh
  | _ => none

/-- Every bit set in the mask stands for a listed part, or for none. -/
def maskWithin (m : Nat) (l : List Part) : Bool :=
  (List.range 56).all (fun i => !m.testBit i || (partOfBit i).all (l.contains ·))

/-- A bit of a part that is not listed is clear in the mask. -/
theorem testBit_of_maskWithin {m : Nat} {l : List Part} {p : Part} (hm : maskWithin m l = true) (hp : p ∉ l) (i : Nat)
    (hi : i < 56) (hip : partOfBit i = some p) : m.testBit i = false := by
  have h := List.all_eq_true.mp hm i (List.mem_range.mpr hi)
  simpa [hip, hp] using h

/-- The bit of block `b`. THM and JST are each two bits' stretches of keys long, so their half decides. -/
def blockBit (b thmHalf jstHalf : Nat) : Nat :=
  if b < 2 then b else if b = 2 then 2 + thmHalf else if b < 6 then b + 1 else if b = 6 then 7 + jstHalf else b + 2

/-- The bit of a register key in block `b` that is no summary key. -/
theorem blk_of_blockOf {k b : Nat} (hb : blockOf (k / 8) = some b) (hk : ¬ summaryKey k) :
    b < 22 ∧ blk k = blockBit b (k / 524288 % 2) (k / 2097152 % 2) := by
  simp only [summaryKey, not_or] at hk
  unfold blk blockBit
  rw [if_neg hk.1, if_neg hk.2]
  revert hb
  unfold blockOf
  repeat' split
  all_goals simp only [Option.some.injEq, reduceCtorEq, false_implies]
  all_goals omega

/-- The blocks stand in the list in the order of their numbers. -/
theorem partOfBit_blockBit : ∀ b < 22, ∀ x < 2, ∀ y < 2, partOfBit (blockBit b x y) = everyBlock[b]? := by decide

/-- The bit of a register key stands for the key's block. -/
theorem partOfBit_blk {k b : Nat} (hb : blockOf (k / 8) = some b) (hk : ¬ summaryKey k) : partOfBit (blk k) = everyBlock[b]? := by
  obtain ⟨hlt, hblk⟩ := blk_of_blockOf hb hk
  rw [hblk]
  exact partOfBit_blockBit b hlt _ (Nat.mod_lt _ two_pos) _ (Nat.mod_lt _ two_pos)

section
variable {m : Nat} {l : List Part} {p : Part} {s t : State}

/-- The registers of a block that is not listed are kept. -/
theorem Only.sameBlock (h : Only m s t) (hm : maskWithin m l = true) (hp : p ∉ l) {b : Nat} (hb : everyBlock[b]? = some p) :
    sameBlock b s t := fun f hf hs =>
  h.rd f (testBit_of_maskWithin hm hp _ (Nat.lt_of_le_of_lt (blk_le _) (by decide)) ((partOfBit_blk hf hs).trans hb))

/-- What a law of `Only` says beside the bit of a part holds where the part is not listed. -/
theorem kept_of_unlisted {i : Nat} {q : Prop} (h : m.testBit i = true ∨ q) (hm : maskWithin m l = true) (hp : p ∉ l)
    (hi : i < 56) (hip : partOfBit i = some p) : q :=
  h.resolve_left (by simp [testBit_of_maskWithin hm hp i hi hip])

/-- A change within a mask whose parts are all listed keeps every part that is not. -/
theorem Only.same (h : Only m s t) (hm : maskWithin m l = true) (hp : p ∉ l) : p.same s t := by
  cases p with
  | GLB | CLK | THM | KRF | PEG | MRT | JST | JNL | LBK | BTN | TNN | TRS | WFP | DOG | SIL | PLB | HIF | PUR | DWL | FWU | GRT
  | FLT => exact h.sameBlock hm hp rfl
  | latch => exact kept_of_unlisted h.latch hm hp (by decide) rfl
  | clk => exact kept_of_unlisted h.clk hm hp (by decide) rfl
  | boot => exact kept_of_unlisted h.boot hm hp (by decide) rfl
  | tnn => exact kept_of_unlisted h.tnn hm hp (by decide) rfl
  | btn => exact kept_of_unlisted h.btn hm hp (by decide) rfl
  | peg => exact kept_of_unlisted h.peg hm hp (by decide) rfl
  | krf => exact kept_of_unlisted h.krf hm hp (by decide) rfl
  | jst => exact kept_of_unlisted h.jst hm hp (by decide) rfl
  | jnl => exact kept_of_unlisted h.jnl hm hp (by decide) rfl
  | lbk => exact kept_of_unlisted h.lbk hm hp (by decide) rfl
  | wfp => exact kept_of_unlisted h.wfp hm hp (by decide) rfl
  | dog => exact kept_of_unlisted h.dog hm hp (by decide) rfl
  | trs => exact kept_of_unlisted h.trs hm hp (by decide) rfl
  | sil => exact kept_of_unlisted h.sil hm hp (by decide) rfl
  | thm => exact kept_of_unlisted h.thm hm hp (by decide) rfl
  | plb => exact kept_of_unlisted h.plb hm hp (by decide) rfl
  | hif => exact kept_of_unlisted h.hif hm hp (by decide) rfl
  | dwl => exact kept_of_unlisted h.dwl hm hp (by decide) rfl
  | fwu => exact kept_of_unlisted h.fwu hm hp (by decide) rfl
  | flt => exact kept_of_unlisted h.flt hm hp (by decide) rfl
  | hbm => exact fun a => by rw [State.hbmByte, State.hbmByte, kept_of_unlisted h.hbm hm hp (by decide) rfl]
  | flash => exact fun a => by rw [State.flashByte, State.flashByte, kept_of_unlisted h.flash hm hp (by decide) rfl]
  | fresh => exact kept_of_unlisted h.fresh hm hp (by decide) rfl

end

/-- The outcome of a command, if it is a next state, changes nothing outside the parts listed. -/
def ChangesWithin (l : List Part) (s : State) (o : Host.Outcome State Fault Refusal) : Prop :=
  ∃ m, maskWithin m l = true ∧ OnlyO m s o

/-- Every command changes only what the table lists for it. -/
theorem exec_within (c : Instr) (s : State) : ChangesWithin (mayChange c) s (exec c s) :=
  match c with
  | .pornNLow => ⟨_, rfl, execPornNLow_only s⟩
  | .powerOnReset bootsel => ⟨_, rfl, execPowerOnReset_only bootsel s⟩
  | .powerLoss => ⟨_, rfl, execPowerLoss_only s⟩
  | .fullrstNFall => ⟨_, rfl, execFullrstNFall_only s⟩
  | .perstNFall => ⟨_, rfl, execPerstNFall_only s⟩
  | .perstNRise => ⟨_, rfl, execPerstNRise_only s⟩
  | .pcieFlr => ⟨_, rfl, execPcieFlr_only s⟩
  | .hotReset => ⟨_, rfl, execHotReset_only s⟩
  | .glbRst v => ⟨_, rfl, execGlbRst_only v s⟩
  | .logicRelease => ⟨_, rfl, execLogicRelease_only s⟩
  | .trussTest pass rails => ⟨_, rfl, execTrussTest_only pass rails s⟩
  | .clock ref pllA pllB => ⟨_, rfl, execClock_only ref pllA pllB s⟩
  | .romStart => ⟨_, rfl, execRomStart_only s⟩
  | .hbmTrain ok => ⟨_, rfl, execHbmTrain_only ok s⟩
  | .image => ⟨_, rfl, execImage_only s⟩
  | .settings => ⟨_, rfl, execSettings_only s⟩
  | .hostLink r => ⟨_, rfl, execHostLink_only r s⟩
  | .joist std set => ⟨_, rfl, execJoist_only std set s⟩
  | .rings finds => ⟨_, rfl, execRings_only finds s⟩
  | .spin => ⟨_, rfl, execSpin_only s⟩
  | .calibrate ok => ⟨_, rfl, execCalibrate_only ok s⟩
  | .arm fb => ⟨_, rfl, execArm_only fb s⟩
  | .stallLine => ⟨_, rfl, execStallLine_only s⟩
  | .ocxoRdyRise => ⟨_, rfl, execOcxoRdyRise_only s⟩
  | .ocxoRdyFall => ⟨_, rfl, execOcxoRdyFall_only s⟩
  | .holdElapsed => ⟨_, rfl, execHoldElapsed_only s⟩
  | .ppsEdge sub => ⟨_, rfl, execPpsEdge_only sub s⟩
  | .ppsLoss => ⟨_, rfl, execPpsLoss_only s⟩
  | .clkTimeloRead => ⟨_, rfl, execClkTimeloRead_only s⟩
  | .clkTbcfgWrite v => ⟨_, rfl, execClkTbcfgWrite_only v s⟩
  | .pllLockLoss => ⟨_, rfl, execPllLockLoss_only s⟩
  | .pllRelock ok => ⟨_, rfl, execPllRelock_only ok s⟩
  | .spindleSample => ⟨_, rfl, execSpindleSample_only s⟩
  | .speedCapture => ⟨_, rfl, execSpeedCapture_only s⟩
  | .splockSet => ⟨_, rfl, execSplockSet_only s⟩
  | .blendEnd => ⟨_, rfl, execBlendEnd_only s⟩
  | .followingErrorTrip tilt => ⟨_, rfl, execFollowingErrorTrip_only tilt s⟩
  | .scanStateSample => ⟨_, rfl, execScanStateSample_only s⟩
  | .encoderEdge back => ⟨_, rfl, execEncoderEdge_only back s⟩
  | .indexEdge => ⟨_, rfl, execIndexEdge_only s⟩
  | .indexMissing => ⟨_, rfl, execIndexMissing_only s⟩
  | .spinUpTimeout => ⟨_, rfl, execSpinUpTimeout_only s⟩
  | .retainedStateCopy => ⟨_, rfl, execRetainedStateCopy_only s⟩
  | .tiltSample => ⟨_, rfl, execTiltSample_only s⟩
  | .tiltSampleReady codes wbPins => ⟨_, rfl, execTiltSampleReady_only codes wbPins s⟩
  | .tlsens => ⟨_, rfl, execTlsens_only s⟩
  | .spindleModeRequest m => ⟨_, rfl, execSpindleModeRequest_only m s⟩
  | .tiltModeRequest m => ⟨_, rfl, execTiltModeRequest_only m s⟩
  | .tnnSpcfgWrite v => ⟨_, rfl, execTnnSpcfgWrite_only v s⟩
  | .spindleSwap => ⟨_, rfl, execSpindleSwap_only s⟩
  | .tiltSwap => ⟨_, rfl, execTiltSwap_only s⟩
  | .injectionStart => ⟨_, rfl, execInjectionStart_only s⟩
  | .injectionStop => ⟨_, rfl, execInjectionStop_only s⟩
  | .injectionEnd => ⟨_, rfl, execInjectionEnd_only s⟩
  | .captureStart => ⟨_, rfl, execCaptureStart_only s⟩
  | .capdone => ⟨_, rfl, execCapdone_only s⟩
  | .fireSubmission n => ⟨_, rfl, execFireSubmission_only n s⟩
  | .fireTransmit n => ⟨_, rfl, execFireTransmit_only n s⟩
  | .grant r => ⟨_, rfl, execGrant_only r s⟩
  | .driverSilent n => ⟨_, rfl, execDriverSilent_only n s⟩
  | .status u p => ⟨_, rfl, execStatus_only u p s⟩
  | .report u reps => ⟨_, rfl, execReport_only u reps s⟩
  | .readdata u addr words => ⟨_, rfl, execReaddata_only u addr words s⟩
  | .alarm u code detail => ⟨_, rfl, execAlarm_only u code detail s⟩
  | .echoR n ccw hold rt => ⟨_, rfl, execEchoR_only n ccw hold rt s⟩
  | .unreported n tag => ⟨_, rfl, execUnreported_only n tag s⟩
  | .hushgenRepeat => ⟨_, rfl, execHushgenRepeat_only s⟩
  | .hushWithdrawal => ⟨_, rfl, execHushWithdrawal_only s⟩
  | .echoCheck nil => ⟨_, rfl, execEchoCheck_only nil s⟩
  | .recal nil => ⟨_, rfl, execRecal_only nil s⟩
  | .ringenWrite en finds => ⟨_, rfl, execRingenWrite_only en finds s⟩
  | .proofPulse n => ⟨_, rfl, execProofPulse_only n s⟩
  | .opticalDark n row => ⟨_, rfl, execOpticalDark_only n row s⟩
  | .frameBoundary => ⟨_, rfl, execFrameBoundary_only s⟩
  | .planStep n => ⟨_, rfl, execPlanStep_only n s⟩
  | .planStepRetry n => ⟨_, rfl, execPlanStepRetry_only n s⟩
  | .tagexh n => ⟨_, rfl, execTagexh_only n s⟩
  | .leadingEdge ch coarse tap shadow => ⟨_, rfl, execLeadingEdge_only ch coarse tap shadow s⟩
  | .trailingEdge ch coarse tap => ⟨_, rfl, execTrailingEdge_only ch coarse tap s⟩
  | .widthSaturation ch => ⟨_, rfl, execWidthSaturation_only ch s⟩
  | .eventWordDelivery ch nil => ⟨_, rfl, execEventWordDelivery_only ch nil s⟩
  | .pulserEdge t coarse tap => ⟨_, rfl, execPulserEdge_only t coarse tap s⟩
  | .stuck ch => ⟨_, rfl, execStuck_only ch s⟩
  | .stuckRelease ch => ⟨_, rfl, execStuckRelease_only ch s⟩
  | .fast ch => ⟨_, rfl, execFast_only ch s⟩
  | .rel ch => ⟨_, rfl, execRel_only ch s⟩
  | .tdcfail ch => ⟨_, rfl, execTdcfail_only ch s⟩
  | .shadowPeriodEnd g => ⟨_, rfl, execShadowPeriodEnd_only g s⟩
  | .spareMove g v => ⟨_, rfl, execSpareMove_only g v s⟩
  | .spareTakeover g => ⟨_, rfl, execSpareTakeover_only g s⟩
  | .gaugeEdge g rising coarse fine => ⟨_, rfl, execGaugeEdge_only g rising coarse fine s⟩
  | .gaugeOverflow u => ⟨_, rfl, execGaugeOverflow_only u s⟩
  | .gaugedone u => ⟨_, rfl, execGaugedone_only u s⟩
  | .gaugeArm u => ⟨_, rfl, execGaugeArm_only u s⟩
  | .gaugeAbort u => ⟨_, rfl, execGaugeAbort_only u s⟩
  | .krfGtsloRead u => ⟨_, rfl, execKrfGtsloRead_only u s⟩
  | .scoutEnd b => ⟨_, rfl, execScoutEnd_only b s⟩
  | .retroactiveFill b nil => ⟨_, rfl, execRetroactiveFill_only b nil s⟩
  | .windowClose b => ⟨_, rfl, execWindowClose_only b s⟩
  | .commit b word w => ⟨_, rfl, execCommit_only b word w s⟩
  | .markerCommit => ⟨_, rfl, execMarkerCommit_only s⟩
  | .engineFault e kind => ⟨_, rfl, execEngineFault_only e kind s⟩
  | .budgetExpiry e => ⟨_, rfl, execBudgetExpiry_only e s⟩
  | .engineRetest e pass => ⟨_, rfl, execEngineRetest_only e pass s⟩
  | .clusterSubstitution => ⟨_, rfl, execClusterSubstitution_only s⟩
  | .jstSubcmdGo c => ⟨_, rfl, execJstSubcmdGo_only c s⟩
  | .programBankWrite => ⟨_, rfl, execProgramBankWrite_only s⟩
  | .demotion q => ⟨_, rfl, execDemotion_only q s⟩
  | .targetEvaluation => ⟨_, rfl, execTargetEvaluation_only s⟩
  | .lookbackFrameCommit n => ⟨_, rfl, execLookbackFrameCommit_only n s⟩
  | .abandon n => ⟨_, rfl, execAbandon_only n s⟩
  | .converterReady k => ⟨_, rfl, execConverterReady_only k s⟩
  | .wfpPaircfgWrite v => ⟨_, rfl, execWfpPaircfgWrite_only v s⟩
  | .hsrcWrite l v => ⟨_, rfl, execHsrcWrite_only l v s⟩
  | .corswap => ⟨_, rfl, execCorswap_only s⟩
  | .correctionSwapApplied => ⟨_, rfl, execCorrectionSwapApplied_only s⟩
  | .fswap l => ⟨_, rfl, execFswap_only l s⟩
  | .mswap l => ⟨_, rfl, execMswap_only l s⟩
  | .filterSwapApplied l m => ⟨_, rfl, execFilterSwapApplied_only l m s⟩
  | .gateOpen l => ⟨_, rfl, execGateOpen_only l s⟩
  | .gateClose l codes => ⟨_, rfl, execGateClose_only l codes s⟩
  | .edgeTrigger u arm before after => ⟨_, rfl, execEdgeTrigger_only u arm before after s⟩
  | .shotTrigger u n tag => ⟨_, rfl, execShotTrigger_only u n tag s⟩
  | .autoTrigger u => ⟨_, rfl, execAutoTrigger_only u s⟩
  | .dogArm u => ⟨_, rfl, execDogArm_only u s⟩
  | .force u => ⟨_, rfl, execForce_only u s⟩
  | .dogStop u => ⟨_, rfl, execDogStop_only u s⟩
  | .captureComplete u codes => ⟨_, rfl, execCaptureComplete_only u codes s⟩
  | .drainDelivery => ⟨_, rfl, execDrainDelivery_only s⟩
  | .drainLevelTick => ⟨_, rfl, execDrainLevelTick_only s⟩
  | .trsKey v => ⟨_, rfl, execTrsKey_only v s⟩
  | .keyWindowExpiry => ⟨_, rfl, execKeyWindowExpiry_only s⟩
  | .keySequenceExpiry => ⟨_, rfl, execKeySequenceExpiry_only s⟩
  | .darkreq v => ⟨_, rfl, execDarkreq_only v s⟩
  | .armChecks fb => ⟨_, rfl, execArmChecks_only fb s⟩
  | .supplyFault k => ⟨_, rfl, execSupplyFault_only k s⟩
  | .clockFault k => ⟨_, rfl, execClockFault_only k s⟩
  | .clockFaultClear => ⟨_, rfl, execClockFaultClear_only s⟩
  | .heartbeat => ⟨_, rfl, execHeartbeat_only s⟩
  | .heartbeatMissing => ⟨_, rfl, execHeartbeatMissing_only s⟩
  | .mgmtTakeover => ⟨_, rfl, execMgmtTakeover_only s⟩
  | .coreTest pass => ⟨_, rfl, execCoreTest_only pass s⟩
  | .readback dark sfb => ⟨_, rfl, execReadback_only dark sfb s⟩
  | .hushNotConfirmed => ⟨_, rfl, execHushNotConfirmed_only s⟩
  | .knownAnswerCheck good => ⟨_, rfl, execKnownAnswerCheck_only good s⟩
  | .trussScrub found => ⟨_, rfl, execTrussScrub_only found s⟩
  | .lockstepMismatch => ⟨_, rfl, execLockstepMismatch_only s⟩
  | .rootWatchdog => ⟨_, rfl, execRootWatchdog_only s⟩
  | .bucketRollover w2 => ⟨_, rfl, execBucketRollover_only w2 s⟩
  | .inputSample a b => ⟨_, rfl, execInputSample_only a b s⟩
  | .inputLevelAccepted k legB => ⟨_, rfl, execInputLevelAccepted_only k legB s⟩
  | .discrepancy k => ⟨_, rfl, execDiscrepancy_only k s⟩
  | .offPulse k => ⟨_, rfl, execOffPulse_only k s⟩
  | .feedbackCheck k level pulse => ⟨_, rfl, execFeedbackCheck_only k level pulse s⟩
  | .sresetNRise lowUs => ⟨_, rfl, execSresetNRise_only lowUs s⟩
  | .sresetNStuck => ⟨_, rfl, execSresetNStuck_only s⟩
  | .limpRecovery => ⟨_, rfl, execLimpRecovery_only s⟩
  | .limpWindowExpiry => ⟨_, rfl, execLimpWindowExpiry_only s⟩
  | .budload => ⟨_, rfl, execBudload_only s⟩
  | .budswap => ⟨_, rfl, execBudswap_only s⟩
  | .roundTick temps pkg => ⟨_, rfl, execRoundTick_only temps pkg s⟩
  | .throttleStepDown hbm => ⟨_, rfl, execThrottleStepDown_only hbm s⟩
  | .sensfail k => ⟨_, rfl, execSensfail_only k s⟩
  | .slotResult adc codes wbPins excf => ⟨_, rfl, execSlotResult_only adc codes wbPins excf s⟩
  | .silSwap => ⟨_, rfl, execSilSwap_only s⟩
  | .refenWrite v => ⟨_, rfl, execRefenWrite_only v s⟩
  | .refrdy => ⟨_, rfl, execRefrdy_only s⟩
  | .refloss => ⟨_, rfl, execRefloss_only s⟩
  | .pinClamp p => ⟨_, rfl, execPinClamp_only p s⟩
  | .calibrationRun adc sz sr => ⟨_, rfl, execCalibrationRun_only adc sz sr s⟩
  | .calibrationPeriod k => ⟨_, rfl, execCalibrationPeriod_only k s⟩
  | .plbCmdCd => ⟨_, rfl, execPlbCmdCd_only s⟩
  | .plbCmdWf => ⟨_, rfl, execPlbCmdWf_only s⟩
  | .plbCmdHk => ⟨_, rfl, execPlbCmdHk_only s⟩
  | .plbCmdLane => ⟨_, rfl, execPlbCmdLane_only s⟩
  | .plbCmdSave => ⟨_, rfl, execPlbCmdSave_only s⟩
  | .codeDensityDone t => ⟨_, rfl, execCodeDensityDone_only t s⟩
  | .codeDensityTimeout t => ⟨_, rfl, execCodeDensityTimeout_only t s⟩
  | .interleaveRunDone meas => ⟨_, rfl, execInterleaveRunDone_only meas s⟩
  | .rznoref g => ⟨_, rfl, execRznoref_only g s⟩
  | .quiet ch => ⟨_, rfl, execQuiet_only ch s⟩
  | .laneAdaptPeriod => ⟨_, rfl, execLaneAdaptPeriod_only s⟩
  | .savePeriod => ⟨_, rfl, execSavePeriod_only s⟩
  | .queueDoorbell q whole v bufs headWord => ⟨_, rfl, execQueueDoorbell_only q whole v bufs headWord s⟩
  | .commandDoorbell r whole v entries => ⟨_, rfl, execCommandDoorbell_only r whole v entries s⟩
  | .bulkDoorbell slot whole v descs => ⟨_, rfl, execBulkDoorbell_only slot whole v descs s⟩
  | .nop r => ⟨_, rfl, execNop_only r s⟩
  | .scanStart r => ⟨_, rfl, execScanStart_only r s⟩
  | .scanStop r => ⟨_, rfl, execScanStop_only r s⟩
  | .timeSet r => ⟨_, rfl, execTimeSet_only r s⟩
  | .epochCommit r => ⟨_, rfl, execEpochCommit_only r s⟩
  | .epochCommitExecution => ⟨_, rfl, execEpochCommitExecution_only s⟩
  | .epochEffective => ⟨_, rfl, execEpochEffective_only s⟩
  | .tableLoad r data => ⟨_, rfl, execTableLoad_only r data s⟩
  | .progLoad r data => ⟨_, rfl, execProgLoad_only r data s⟩
  | .pose r data => ⟨_, rfl, execPose_only r data s⟩
  | .queueCreate r block => ⟨_, rfl, execQueueCreate_only r block s⟩
  | .queueResume r block => ⟨_, rfl, execQueueResume_only r block s⟩
  | .queueClose r => ⟨_, rfl, execQueueClose_only r s⟩
  | .queueFilter r => ⟨_, rfl, execQueueFilter_only r s⟩
  | .fwStage r data => ⟨_, rfl, execFwStage_only r data s⟩
  | .fwConfirm r => ⟨_, rfl, execFwConfirm_only r s⟩
  | .fwLive r => ⟨_, rfl, execFwLive_only r s⟩
  | .liveClusterStep => ⟨_, rfl, execLiveClusterStep_only s⟩
  | .settingsSave r flashOk => ⟨_, rfl, execSettingsSave_only r flashOk s⟩
  | .subscriberDelivery c => ⟨_, rfl, execSubscriberDelivery_only c s⟩
  | .headWordPoll q headWord => ⟨_, rfl, execHeadWordPoll_only q headWord s⟩
  | .interruptCoalesce q => ⟨_, rfl, execInterruptCoalesce_only q s⟩
  | .descriptorComplete c e data => ⟨_, rfl, execDescriptorComplete_only c e data s⟩
  | .abort c residue => ⟨_, rfl, execAbort_only c residue s⟩
  | .runClear c busy => ⟨_, rfl, execRunClear_only c busy s⟩
  | .wedge o => ⟨_, rfl, execWedge_only o s⟩
  | .linkDown => ⟨_, rfl, execLinkDown_only s⟩
  | .linkUp speed width => ⟨_, rfl, execLinkUp_only speed width s⟩
  | .busMasterDisable d3 residues => ⟨_, rfl, execBusMasterDisable_only d3 residues s⟩
  | .lathDrop p => ⟨_, rfl, execLathDrop_only p s⟩
  | .pcieLaneRemove lane => ⟨_, rfl, execPcieLaneRemove_only lane s⟩
  | .receiverLock p => ⟨_, rfl, execReceiverLock_only p s⟩
  | .lockLoss x => ⟨_, rfl, execLockLoss_only x s⟩
  | .autopol p => ⟨_, rfl, execAutopol_only p s⟩
  | .trainingComplete p tries => ⟨_, rfl, execTrainingComplete_only p tries s⟩
  | .trainingRetry p => ⟨_, rfl, execTrainingRetry_only p s⟩
  | .train p => ⟨_, rfl, execTrain_only p s⟩
  | .backgroundTrim p fom => ⟨_, rfl, execBackgroundTrim_only p fom s⟩
  | .fomlow p => ⟨_, rfl, execFomlow_only p s⟩
  | .helloSend => ⟨_, rfl, execHelloSend_only s⟩
  | .hello k f => ⟨_, rfl, execHello_only k f s⟩
  | .syncSend t1 => ⟨_, rfl, execSyncSend_only t1 s⟩
  | .sync k x t4 => ⟨_, rfl, execSync_only k x t4 s⟩
  | .syncdata k f => ⟨_, rfl, execSyncdata_only k f s⟩
  | .frameann k f => ⟨_, rfl, execFrameann_only k f s⟩
  | .boundaryFix => ⟨_, rfl, execBoundaryFix_only s⟩
  | .codebook k f => ⟨_, rfl, execCodebook_only k f s⟩
  | .ack k x => ⟨_, rfl, execAck_only k x s⟩
  | .nak k x => ⟨_, rfl, execNak_only k x s⟩
  | .retryTimeout k => ⟨_, rfl, execRetryTimeout_only k s⟩
  | .dwlPtestWrite p v => ⟨_, rfl, execDwlPtestWrite_only p v s⟩
  | .begin via arg0 arg1 => ⟨_, rfl, execBegin_only via arg0 arg1 s⟩
  | .chunk via arg0 arg1 data flashOk => ⟨_, rfl, execChunk_only via arg0 arg1 data flashOk s⟩
  | .recoveryCommit via flashOk => ⟨_, rfl, execRecoveryCommit_only via flashOk s⟩
  | .recoveryReset via => ⟨_, rfl, execRecoveryReset_only via s⟩
  | .eraseset via flashOk => ⟨_, rfl, execEraseset_only via flashOk s⟩
  | .baud via arg0 => ⟨_, rfl, execBaud_only via arg0 s⟩
  | .progsigSet => ⟨_, rfl, execProgsigSet_only s⟩
  | .patrolScrub errs => ⟨_, rfl, execPatrolScrub_only errs s⟩
  | .hbmRowSpare row ok => ⟨_, rfl, execHbmRowSpare_only row ok s⟩
  | .faultReport => ⟨_, rfl, execFaultReport_only s⟩
  | .entryFlush src code => ⟨_, rfl, execEntryFlush_only src code s⟩
  | .fltRdseqhiWrite v => ⟨_, rfl, execFltRdseqhiWrite_only v s⟩
  | .injectSymbolError => ⟨_, rfl, execInjectSymbolError_only s⟩
  | .injectTwoSymbolError => ⟨_, rfl, execInjectTwoSymbolError_only s⟩
  | .injectEngineFault unit => ⟨_, rfl, execInjectEngineFault_only unit s⟩
  | .injectClusterFault unit => ⟨_, rfl, execInjectClusterFault_only unit s⟩
  | .injectTdcFail unit => ⟨_, rfl, execInjectTdcFail_only unit s⟩
  | .injectPllLoss => ⟨_, rfl, execInjectPllLoss_only s⟩
  | .injectHeartbeatStop => ⟨_, rfl, execInjectHeartbeatStop_only s⟩
  | .injectLaneErrors unit => ⟨_, rfl, execInjectLaneErrors_only unit s⟩
  | .injectLathError => ⟨_, rfl, execInjectLathError_only s⟩
  | .injectRingIdle unit => ⟨_, rfl, execInjectRingIdle_only unit s⟩
  | .injlock => ⟨_, rfl, execInjlock_only s⟩
  | .glbIntctlArm => ⟨_, rfl, execGlbIntctlArm_only s⟩
  | .registerWrite addr be v => ⟨_, rfl, execRegisterWrite_only addr be v s⟩
  | .registerRead addr n => ⟨_, rfl, execRegisterRead_only addr n s⟩
  | .configurationRequest c => ⟨_, rfl, execConfigurationRequest_only c s⟩
  | .supplyClear k => ⟨_, rfl, execSupplyClear_only k s⟩
  | .returnedFrame r ccw f => ⟨_, rfl, execReturnedFrame_only r ccw f s⟩
  | .converterOverRange k => ⟨_, rfl, execConverterOverRange_only k s⟩
  | .poselate n => ⟨_, rfl, execPoselate_only n s⟩
  | .darkNRelease => ⟨_, rfl, execDarkNRelease_only s⟩
  | .tieUnitUnheard u => ⟨_, rfl, execTieUnitUnheard_only u s⟩
  | .fwStageDone flashOk => ⟨_, rfl, execFwStageDone_only flashOk s⟩
  | .jtagAccess a => ⟨_, rfl, execJtagAccess_only a s⟩

/-- An operation keeps the canonical form of the stores, whatever it changes. -/
theorem exec_keeps_wf {c : Instr} {s t : State} (hs : s.wf = true) (h : exec c s = .next t) : t.wf = true := by
  obtain ⟨m, -, hm⟩ := exec_within c s
  exact (hm t h).wf hs

/-- On an empty queue a step is one cycle. -/
theorem step_of_empty {s : State} (h : s.pending = []) : step s = .next s.tick := by simp [step, h]

/-- The command at the front acts on the state whose queue is the rest. -/
theorem step_of_front {c : Instr} {rest : List Instr} {s : State} (h : s.pending = c :: rest) :
    step s = exec c { s with pending := rest } := by simp [step, h]

/-- The queue is no part of the canonical form. -/
theorem wf_withPending {s : State} (q : List Instr) (h : s.wf = true) : ({ s with pending := q } : State).wf = true := h

/-- Settles O4: the front command keeps the form by its own law, and on an empty queue the cycle does. -/
theorem storesStayCanonical : Obligations.StoresStayCanonical := by
  intro s t hs h
  cases hq : s.pending with
  | nil =>
    obtain rfl : s.tick = t := by simpa [step_of_empty hq] using h
    exact (State.tick_only s).wf hs
  | cons c rest => exact exec_keeps_wf (wf_withPending rest hs) (step_of_front hq ▸ h)

/-- Settles O5: the parts that a command changes stand in the table, and every part outside it is the same. -/
theorem everyCommandKeepsOtherParts : Obligations.EveryCommandKeepsOtherParts := by
  intro c s t h p hp
  obtain ⟨m, hm, ho⟩ := exec_within c s
  exact (ho t h).same hm hp

end Sys2Proof.Machine
end

section
/-!
No command stops (O7): whatever decides in a meaning, every branch of it ends in `State.done`.
-/
namespace Sys2Proof.Machine

/-- The outcome is a next state, that of an effect whose summary has settled. -/
def Finishes (o : Host.Outcome State Fault Refusal) : Prop := ∃ u : State, o = u.done

theorem Finishes.done (u : State) : Finishes u.done := ⟨u, rfl⟩

theorem Finishes.ite {c : Prop} [Decidable c] {a b : Host.Outcome State Fault Refusal} (ha : Finishes a) (hb : Finishes b) :
    Finishes (if c then a else b) := by
  split
  · exact ha
  · exact hb

/-- Every command ends in `State.done`. The commands are sorted by how their meanings branch: on conditions alone, in the order of
the conditions, and last those that look something up, whose matches are split one after another. -/
theorem exec_finishes (c : Instr) (s : State) : Finishes (exec c s) := by
  cases c with
  | pornNLow | powerOnReset | powerLoss | fullrstNFall | perstNFall | perstNRise | ocxoRdyFall | clkTimeloRead | clkTbcfgWrite
  | pllLockLoss | spindleSample | scanStateSample | encoderEdge | indexEdge | retainedStateCopy | spindleModeRequest
  | tiltModeRequest | injectionStop | alarm | recal | trailingEdge | widthSaturation | krfGtsloRead | markerCommit | corswap
  | fswap | mswap | dogStop | trsKey | keyWindowExpiry | keySequenceExpiry | darkreq | supplyFault | clockFault
  | clockFaultClear | heartbeat | heartbeatMissing | lockstepMismatch | rootWatchdog | bucketRollover | inputSample
  | sresetNStuck | roundTick | silSwap | pinClamp | plbCmdCd | plbCmdWf | plbCmdHk | plbCmdLane | plbCmdSave | nop | scanStart
  | scanStop | timeSet | tableLoad | queueCreate | queueResume | queueFilter | linkDown | receiverLock | autopol | train
  | helloSend | hello | syncSend | syncdata | frameann | codebook | progsigSet | injectSymbolError | injectTwoSymbolError
  | injectEngineFault | injectClusterFault | injectTdcFail | injectPllLoss | injectHeartbeatStop | injectLaneErrors
  | injectLathError | injectRingIdle | injlock | supplyClear | converterOverRange | tieUnitUnheard =>
    exact .done _
  | pcieFlr | hotReset | logicRelease | image | joist | rings | spin | calibrate | stallLine | ocxoRdyRise | holdElapsed
  | ppsEdge | ppsLoss | pllRelock | speedCapture | splockSet | blendEnd | indexMissing | spinUpTimeout | tiltSample
  | tiltSampleReady | tlsens | tnnSpcfgWrite | injectionStart | captureStart | grant | driverSilent | report | readdata
  | hushgenRepeat | hushWithdrawal | echoCheck | ringenWrite | opticalDark | planStep | planStepRetry | pulserEdge | stuck
  | stuckRelease | fast | tdcfail | gaugeEdge | gaugeOverflow | gaugedone | gaugeArm | gaugeAbort | budgetExpiry | jstSubcmdGo
  | converterReady | wfpPaircfgWrite | hsrcWrite | edgeTrigger | autoTrigger | dogArm | force | drainLevelTick | armChecks
  | mgmtTakeover | hushNotConfirmed | knownAnswerCheck | inputLevelAccepted | offPulse | limpRecovery | limpWindowExpiry
  | budload | throttleStepDown | sensfail | refrdy | refloss | calibrationRun | calibrationPeriod | codeDensityDone
  | codeDensityTimeout | interleaveRunDone | rznoref | quiet | laneAdaptPeriod | savePeriod | settingsSave | linkUp
  | pcieLaneRemove | lockLoss | trainingComplete | trainingRetry | backgroundTrim | fomlow | sync | ack | nak | retryTimeout
  | dwlPtestWrite | recoveryReset | patrolScrub | registerWrite | darkNRelease =>
    exact .ite (.done _) (.done _)
  | glbRst | trussTest | romStart | hostLink | arm | spindleSwap | tiltSwap | status | frameBoundary | leadingEdge | rel
  | readback | discrepancy | budswap | commandDoorbell | abort | busMasterDisable | begin | eraseset | baud | registerRead =>
    exact .ite (.done _) (.ite (.done _) (.done _))
  | shadowPeriodEnd | engineRetest | feedbackCheck | glbIntctlArm =>
    exact .ite (.ite (.done _) (.done _)) (.done _)
  | followingErrorTrip | sresetNRise | refenWrite =>
    exact .ite (.ite (.done _) (.done _)) (.ite (.done _) (.done _))
  | clock | spareMove | bulkDoorbell | boundaryFix =>
    exact .ite (.done _) (.ite (.done _) (.ite (.done _) (.done _)))
  | runClear =>
    exact .ite (.done _) (.ite (.done _) (.ite (.done _) (.ite (.done _) (.done _))))
  | hbmTrain | settings | injectionEnd | capdone | fireSubmission | fireTransmit | echoR | unreported | proofPulse | tagexh
  | eventWordDelivery | spareTakeover | scoutEnd | retroactiveFill | windowClose | commit | engineFault | clusterSubstitution
  | programBankWrite | demotion | targetEvaluation | lookbackFrameCommit | abandon | correctionSwapApplied | filterSwapApplied
  | gateOpen | gateClose | shotTrigger | captureComplete | drainDelivery | coreTest | trussScrub | slotResult | queueDoorbell
  | epochCommit | epochCommitExecution | epochEffective | progLoad | pose | queueClose | fwStage | fwConfirm | fwLive
  | liveClusterStep | subscriberDelivery | headWordPoll | interruptCoalesce | descriptorComplete | wedge | lathDrop | chunk
  | recoveryCommit | hbmRowSpare | faultReport | entryFlush | fltRdseqhiWrite | configurationRequest | returnedFrame | poselate
  | fwStageDone | jtagAccess =>
    simp only [exec, execHbmTrain, execSettings, execInjectionEnd, execCapdone, execFireSubmission, execFireTransmit, execEchoR,
      execUnreported, execProofPulse, execTagexh, execEventWordDelivery, execSpareTakeover, execScoutEnd, execRetroactiveFill,
      execWindowClose, execCommit, execEngineFault, execClusterSubstitution, execProgramBankWrite, execDemotion,
      execTargetEvaluation, execLookbackFrameCommit, execAbandon, execCorrectionSwapApplied, execFilterSwapApplied,
      execGateOpen, execGateClose, execShotTrigger, execCaptureComplete, execDrainDelivery, execCoreTest, execTrussScrub,
      execSlotResult, execQueueDoorbell, execEpochCommit, execEpochCommitExecution, execEpochEffective, execProgLoad, execPose,
      execQueueClose, execFwStage, execFwConfirm, execFwLive, execLiveClusterStep, execSubscriberDelivery, execHeadWordPoll,
      execInterruptCoalesce, execDescriptorComplete, execWedge, execLathDrop, execChunk, execRecoveryCommit, execHbmRowSpare,
      execFaultReport, execEntryFlush, execFltRdseqhiWrite, execConfigurationRequest, execReturnedFrame, execPoselate,
      execFwStageDone, execJtagAccess]
    repeat' split
    all_goals exact .done _

/-- Settles O7: the outcome of every command is that of `State.done`. -/
theorem everyCommandCompletes : Obligations.EveryCommandCompletes := by
  intro c s
  obtain ⟨u, hu⟩ := exec_finishes c s
  exact ⟨u.settle, hu⟩

end Sys2Proof.Machine
end

section
/-!
Frames: how `Frame` composes, and what keeps it. A register write adds its own field; an operation whose mask of `Only` has no
register block and no memory adds nothing; the summary message at the end adds nothing.
-/
namespace Sys2Proof.Machine

/-- An effect that ends a command's meaning completes the command with what holds once the summary has settled. -/
theorem completes_of_done {c : Instr} {s u : State} {P : State → Prop} (h : exec c s = u.done) (hP : P u.settle) :
    Completes c s P := ⟨u.settle, h, hP⟩

/-- A register key is neither GLB_INTCTL.ARMED nor an MSI-X pending bit, in a form that `decide` can check. -/
abbrev OffSummary (k : Nat) : Prop := k ≠ R.GLB_INTCTL_ARMED.key ∧ (k < 32768000 ∨ 32770048 ≤ k)

theorem not_summaryKey_iff {k : Nat} : ¬ summaryKey k ↔ OffSummary k := by
  unfold summaryKey
  omega

section
variable {l l' : List Fld} {s u t : State}

theorem Frame.refl (l : List Fld) (s : State) : Frame l s s := ⟨fun _ _ _ => rfl, fun _ => rfl, fun _ => rfl⟩

theorem Frame.trans (h : Frame l s u) (h' : Frame l u t) : Frame l s t := by
  obtain ⟨hr, hh, hf⟩ := h
  obtain ⟨hr', hh', hf'⟩ := h'
  exact ⟨fun f hl hs => (hr' f hl hs).trans (hr f hl hs), fun a => (hh' a).trans (hh a), fun a => (hf' a).trans (hf a)⟩

theorem Frame.mono (h : Frame l s t) (hl : l ⊆ l') : Frame l' s t :=
  ⟨fun f hf hs => h.1 f (fun g hg => hf g (hl hg)) hs, h.2⟩

/-- A register field outside the frame's list keeps its value. -/
theorem Frame.rd (h : Frame l s t) (f : Fld) (hl : ∀ g ∈ l, f.key ≠ g.key) (hs : OffSummary f.key) : t.rd f = s.rd f :=
  h.1 f hl (not_summaryKey_iff.mpr hs)

theorem Frame.wr {f : Fld} {v : Nat} (h : Frame l s u) (hf : f ∈ l) : Frame l s (u.wr f v) :=
  h.trans ⟨fun g hg _ => State.rd_wr_ne u f g v (hg f hf), fun _ => rfl, fun _ => rfl⟩

/-- A change of blocks' own records alone. -/
theorem Frame.of_only {m : Nat} (h : Only m u t) (hm : (List.range 27).all (!m.testBit ·) = true) (h52 : m.testBit 52 = false)
    (h53 : m.testBit 53 = false) : Frame l u t := by
  refine ⟨fun f _ _ => h.rd f ?_, fun a => ?_, fun a => ?_⟩
  · simpa using List.all_eq_true.mp hm _ (List.mem_range.mpr (Nat.lt_succ_of_le (blk_le f.key)))
  · rw [State.hbmByte, State.hbmByte, h.hbm.resolve_left (by simp [h52])]
  · rw [State.flashByte, State.flashByte, h.flash.resolve_left (by simp [h53])]

/-- The summary message writes the summary's own keys alone. -/
theorem Frame.settle (h : Frame l s u) : Frame l s u.settle := by
  refine h.trans ⟨fun f _ hs => ?_, fun a => ?_, fun a => ?_⟩
  · obtain ⟨harm, hmsix⟩ := not_summaryKey_iff.mp hs
    exact State.settle_rd u f harm hmsix
  · rw [State.hbmByte, State.hbmByte, (State.settle_only u).hbm.resolve_left (by decide)]
  · rw [State.flashByte, State.flashByte, (State.settle_only u).flash.resolve_left (by decide)]

end

@[simp] theorem State.settle_clk (s : State) : s.settle.clk = s.clk := (State.settle_only s).clk.resolve_left (by decide)

@[simp] theorem State.settle_tb (s : State) : s.settle.tb = s.tb := State.settle_rd s _ (by decide) (by decide)

end Sys2Proof.Machine
end

section
/-!
The timebase (R40 to R42, R47): what a move, the rules of R41, the end of the hold and the loss of drift leave in the clock plant
and in the registers; then the oven's pin, the hold and a write of CLK_TBCFG (O16).
-/
namespace Sys2Proof.Machine

/-! ### A move of the timebase and the rules that move it -/

/-- The fields that a move writes (R42). -/
def tbFlds : List Fld := [R.CLK_STATUS_TBSTATE, R.CLK_INTSTAT_TBCHG]

theorem State.tbMove_rd (s : State) (new : Nat) (g : Fld) :
    (s.tbMove new).rd g = if s.tb = new then s.rd g else if g.key = R.CLK_INTSTAT_TBCHG.key then 1
      else if g.key = R.CLK_STATUS_TBSTATE.key then new % 4 else s.rd g := by
  unfold State.tbMove
  split
  · rfl
  · rw [(State.markTimebase_only ..).rd g ?_, State.rd_flag, State.rd_wr]
    · rfl
    · exact (by decide : ∀ i < 27, Nat.testBit 0x10000000000 i = false) _ (Nat.lt_succ_of_le (blk_le _))

/-- A move ends in the state it moves to, whether or not it stood there. -/
theorem State.tbMove_tb (s : State) {new : Nat} (h : new < 4) : (s.tbMove new).tb = new := by
  rw [State.tb, State.tbMove_rd]
  split
  · assumption
  · rw [if_neg (by decide), if_pos rfl, Nat.mod_eq_of_lt h]

/-- A move to another state sets its flag. -/
theorem State.tbMove_flag (s : State) {new : Nat} (h : s.tb ≠ new) : (s.tbMove new).rd R.CLK_INTSTAT_TBCHG = 1 := by
  rw [State.tbMove_rd, if_neg h, if_pos rfl]

@[simp] theorem State.tbMove_clk (s : State) (new : Nat) : (s.tbMove new).clk = s.clk :=
  (State.tbMove_only s new).clk.resolve_left (by decide)

theorem State.tbMove_frame (s : State) (new : Nat) : Frame tbFlds s (s.tbMove new) := by
  unfold State.tbMove
  split
  · exact Frame.refl ..
  · exact (((Frame.refl ..).wr (by decide)).wr (by decide)).trans
      (Frame.of_only (State.markTimebase_only ..) (by decide) (by decide) (by decide))

@[simp] theorem State.tbEval_clk (s : State) : s.tbEval.clk = s.clk :=
  (State.tbEval_only s).clk.resolve_left (by decide)

theorem State.tbEval_frame (s : State) : Frame tbFlds s s.tbEval := by
  unfold State.tbEval
  split
  · exact State.tbMove_frame ..
  · split
    · exact State.tbMove_frame ..
    · exact Frame.refl ..

/-- Once the hold has elapsed in SETTLING, drift alone decides (R41). -/
theorem State.tbEval_tb_of_settling (s : State) (h : s.tb = 1) (hd : s.clk.holdDone = true) :
    s.tbEval.tb = if s.driftOk then 2 else 1 := by
  unfold State.tbEval
  cases hk : s.driftOk
  · simp [h]
  · simp [h, hd, State.tbMove_tb]

/-! ### The hold and the drift -/

@[simp] theorem State.holdEnd_clk (s : State) : s.holdEnd.clk = { s.clk with holdRun := false, holdDone := true } := by
  simp [State.holdEnd]

theorem State.holdEnd_frame (s : State) : Frame tbFlds s s.holdEnd :=
  (Frame.of_only (State.onClk_only ..) (by decide) (by decide) (by decide)).trans (State.tbEval_frame _)

theorem State.holdEnd_tb_of_settling (s : State) (h : s.tb = 1) : s.holdEnd.tb = if s.driftOk then 2 else 1 :=
  State.tbEval_tb_of_settling _ h rfl

@[simp] theorem State.driftDrop_clk (s : State) : s.driftDrop.clk = { s.clk with freqs := [], lastPps := none } := rfl

theorem State.driftDrop_rd (s : State) (g : Fld) :
    s.driftDrop.rd g = if g.key = R.CLK_DRIFT_DRIFT.key ∨ g.key = R.CLK_STATUS_DRIFTVAL.key then 0 else s.rd g := by
  unfold State.driftDrop
  rw [State.rd_wr, State.rd_wr, Nat.zero_mod, Nat.zero_mod, State.onClk_rd]
  split <;> simp [*]

theorem State.driftDrop_frame (s : State) : Frame [R.CLK_STATUS_DRIFTVAL, R.CLK_DRIFT_DRIFT] s s.driftDrop :=
  ((Frame.of_only (State.onClk_only ..) (by decide) (by decide) (by decide)).wr (by decide)).wr (by decide)

/-! ### The oven's ready pin -/

/-- The oven reports ready: the pin shows, and the hold starts, or has elapsed where it is 0 (R41). -/
def State.ovenReady (s : State) : State :=
  (s.wr R.CLK_STATUS_OCXORDY 1).onClk (fun c =>
    { c with holdRun := !(s.rd R.CLK_TBCFG_HOLD == 0), holdAge := 0, holdDone := s.rd R.CLK_TBCFG_HOLD == 0 })

/-- The oven reports not ready: the hold is off (R41). -/
def State.ovenCold (s : State) : State :=
  (s.wr R.CLK_STATUS_OCXORDY 0).onClk (fun c => { c with holdRun := false, holdAge := 0, holdDone := false })

/-- The fields that the oven's pin writes. -/
def ovenFlds : List Fld := [R.CLK_STATUS_OCXORDY, R.CLK_STATUS_TBSTATE, R.CLK_INTSTAT_TBCHG]

theorem State.ovenReady_frame (s : State) : Frame ovenFlds s s.ovenReady :=
  ((Frame.refl ..).wr (by decide)).trans (Frame.of_only (State.onClk_only ..) (by decide) (by decide) (by decide))

theorem State.ovenCold_frame (s : State) : Frame ovenFlds s s.ovenCold :=
  ((Frame.refl ..).wr (by decide)).trans (Frame.of_only (State.onClk_only ..) (by decide) (by decide) (by decide))

theorem State.tb_wr (s : State) (f : Fld) (v : Nat) (h : R.CLK_STATUS_TBSTATE.key ≠ f.key) : (s.wr f v).tb = s.tb :=
  State.rd_wr_ne s f _ v h

@[simp] theorem State.ovenReady_tb (s : State) : s.ovenReady.tb = s.tb := State.tb_wr s R.CLK_STATUS_OCXORDY 1 (by decide)

@[simp] theorem State.ovenCold_tb (s : State) : s.ovenCold.tb = s.tb := State.tb_wr s R.CLK_STATUS_OCXORDY 0 (by decide)

theorem State.ovenReady_pin (s : State) : s.ovenReady.rd R.CLK_STATUS_OCXORDY = 1 := State.rd_wr_same s R.CLK_STATUS_OCXORDY 1

theorem State.ovenCold_pin (s : State) : s.ovenCold.rd R.CLK_STATUS_OCXORDY = 0 := State.rd_wr_same s R.CLK_STATUS_OCXORDY 0

/-- From COLD the rising pin moves the timebase to SETTLING, with HOLD 0 and a good drift straight on to STABLE. -/
theorem execOcxoRdyRise_of_cold {s : State} (h : s.tb = 0) :
    execOcxoRdyRise s = (s.ovenReady.tbMove (if s.rd R.CLK_TBCFG_HOLD = 0 ∧ s.driftOk = true then 2 else 1)).done := by
  have hd : s.ovenReady.driftOk = s.driftOk := rfl
  show (if s.ovenReady.tb = 0 then
    (if s.rd R.CLK_TBCFG_HOLD == 0 && s.ovenReady.driftOk then s.ovenReady.tbMove 2 else s.ovenReady.tbMove 1).done
    else s.ovenReady.done) = _
  rw [if_pos (s.ovenReady_tb.trans h), hd]
  congr 1
  simp only [Bool.and_eq_true, beq_iff_eq]
  split <;> rfl

/-- What a move leaves of a pin's effect once the summary has settled. -/
theorem State.tbMove_settle_pin (s : State) (new : Nat) :
    (s.tbMove new).settle.rd R.CLK_STATUS_OCXORDY = s.rd R.CLK_STATUS_OCXORDY := by
  rw [State.settle_rd _ _ (by decide) (by decide), (State.tbMove_frame s new).rd _ (by decide) (by decide)]

theorem State.tbMove_settle_flag (s : State) {new : Nat} (h : s.tb ≠ new) :
    (s.tbMove new).settle.rd R.CLK_INTSTAT_TBCHG = 1 := by
  rw [State.settle_rd _ _ (by decide) (by decide), State.tbMove_flag s h]

/-- The rising pin from COLD: where the timebase ends, its flag, and what is left alone. -/
theorem ocxoRdyRise_completes {s : State} (h : s.tb = 0) :
    Completes .ocxoRdyRise s (fun t =>
      t.tb = (if s.rd R.CLK_TBCFG_HOLD = 0 ∧ s.driftOk = true then 2 else 1) ∧ t.rd R.CLK_STATUS_OCXORDY = 1
        ∧ t.rd R.CLK_INTSTAT_TBCHG = 1 ∧ t.clk = s.ovenReady.clk ∧ Frame ovenFlds s t) := by
  have hlt : (if s.rd R.CLK_TBCFG_HOLD = 0 ∧ s.driftOk = true then 2 else 1) < 4 := by split <;> decide
  have hne : s.ovenReady.tb ≠ if s.rd R.CLK_TBCFG_HOLD = 0 ∧ s.driftOk = true then 2 else 1 := by
    rw [State.ovenReady_tb, h]; split <;> decide
  refine completes_of_done (execOcxoRdyRise_of_cold h) ⟨?_, ?_, State.tbMove_settle_flag _ hne, ?_, ?_⟩
  · rw [State.settle_tb, State.tbMove_tb _ hlt]
  · rw [State.tbMove_settle_pin, State.ovenReady_pin]
  · rw [State.settle_clk, State.tbMove_clk]
  · exact (s.ovenReady_frame.trans ((State.tbMove_frame ..).mono (by simp [tbFlds, ovenFlds]))).settle

/-- The falling pin: COLD from wherever the timebase stood. -/
theorem ocxoRdyFall_completes (s : State) :
    Completes .ocxoRdyFall s (fun t =>
      t.tb = 0 ∧ t.rd R.CLK_STATUS_OCXORDY = 0 ∧ (s.tb ≠ 0 → t.rd R.CLK_INTSTAT_TBCHG = 1) ∧ t.clk.holdRun = false
        ∧ t.clk.holdDone = false ∧ Frame ovenFlds s t) := by
  refine completes_of_done (u := s.ovenCold.tbMove 0) rfl ⟨?_, ?_, fun h => ?_, ?_, ?_, ?_⟩
  · rw [State.settle_tb, State.tbMove_tb _ (by decide)]
  · rw [State.tbMove_settle_pin, State.ovenCold_pin]
  · exact State.tbMove_settle_flag _ (by rwa [State.ovenCold_tb])
  · rw [State.settle_clk, State.tbMove_clk]; rfl
  · rw [State.settle_clk, State.tbMove_clk]; rfl
  · exact (s.ovenCold_frame.trans ((State.tbMove_frame ..).mono (by simp [tbFlds, ovenFlds]))).settle

/-- The hold elapses in SETTLING. -/
theorem holdElapsed_completes {s : State} (hr : s.clk.holdRun = true) (h : s.tb = 1) :
    Completes .holdElapsed s (fun t =>
      t.tb = (if s.driftOk then 2 else 1) ∧ t.clk.holdRun = false ∧ t.clk.holdDone = true ∧ Frame tbFlds s t) := by
  have he : exec .holdElapsed s = s.holdEnd.done := if_pos hr
  refine completes_of_done he ⟨?_, ?_, ?_, s.holdEnd_frame.settle⟩
  · rw [State.settle_tb, State.holdEnd_tb_of_settling s h]
  · rw [State.settle_clk, State.holdEnd_clk]
  · rw [State.settle_clk, State.holdEnd_clk]

/-! ### A write of CLK_TBCFG -/

/-- The write takes the register's fields. -/
def State.tbcfgFields (s : State) (n : Nat) : State :=
  ((((s.wr R.CLK_TBCFG_HOLD (bits n 0 12)).wr R.CLK_TBCFG_PPSEN (bits n 12 1)).wr R.CLK_TBCFG_PPSEDGE (bits n 13 1)).wr
    R.CLK_TBCFG_TBGATE (bits n 14 1)).wr R.CLK_TBCFG_STEPMAX (bits n 16 10)

/-- The write counts reserved bits that are set. -/
def State.tbcfgReserved (s : State) (n : Nat) : State :=
  if n &&& 0xFC008000 = 0 then s
  else (((s.bump R.GLB_ACCERR_RSVDWR 1).wr R.GLB_LASTERR_OFFSET 0x10004).wrB R.GLB_LASTERR_WRITE true).wr R.GLB_LASTERR_KIND 2

/-- Without PPSEN, PPS and drift are dropped. -/
def State.tbcfgPps (s : State) : State :=
  if s.on R.CLK_TBCFG_PPSEN then s else (s.wr R.CLK_STATUS_PPSOK 0).driftDrop.tbEval

/-- A running hold that is as long as HOLD already ends. -/
def State.tbcfgHold (s : State) : State :=
  if s.clk.holdRun && decide (s.rd R.CLK_TBCFG_HOLD * 200000000 ≤ s.clk.holdAge) then s.holdEnd else s

/-- The fields of CLK_TBCFG. -/
def tbcfgFlds : List Fld :=
  [R.CLK_TBCFG_HOLD, R.CLK_TBCFG_PPSEN, R.CLK_TBCFG_PPSEDGE, R.CLK_TBCFG_TBGATE, R.CLK_TBCFG_STEPMAX]

/-- The fields of PPS and drift, and those of a move. -/
def ppsFlds : List Fld := [R.CLK_STATUS_PPSOK, R.CLK_STATUS_DRIFTVAL, R.CLK_DRIFT_DRIFT] ++ tbFlds

@[simp] theorem State.tbcfgFields_clk (s : State) (n : Nat) : (s.tbcfgFields n).clk = s.clk := rfl

theorem State.tbcfgFields_frame (s : State) (n : Nat) : Frame tbcfgFlds s (s.tbcfgFields n) :=
  (((((Frame.refl ..).wr (by decide)).wr (by decide)).wr (by decide)).wr (by decide)).wr (by decide)

/-- The fields of CLK_TBCFG hold their bits of the word written. -/
theorem State.tbcfgFields_rd (s : State) (n : Nat) :
    (s.tbcfgFields n).rd R.CLK_TBCFG_HOLD = n % 4096 ∧ (s.tbcfgFields n).rd R.CLK_TBCFG_PPSEN = n / 4096 % 2
      ∧ (s.tbcfgFields n).rd R.CLK_TBCFG_PPSEDGE = n / 8192 % 2 ∧ (s.tbcfgFields n).rd R.CLK_TBCFG_TBGATE = n / 16384 % 2
      ∧ (s.tbcfgFields n).rd R.CLK_TBCFG_STEPMAX = n / 65536 % 1024 := by
  simp [State.tbcfgFields, State.rd_wr, bits, R.CLK_TBCFG_HOLD, R.CLK_TBCFG_PPSEN, R.CLK_TBCFG_PPSEDGE, R.CLK_TBCFG_TBGATE,
    R.CLK_TBCFG_STEPMAX]

@[simp] theorem State.tbcfgReserved_clk (s : State) (n : Nat) : (s.tbcfgReserved n).clk = s.clk := by
  unfold State.tbcfgReserved
  split <;> rfl

theorem State.tbcfgReserved_frame (s : State) (n : Nat) :
    Frame (if n &&& 0xFC008000 = 0 then [] else rsvdFlds true) s (s.tbcfgReserved n) := by
  unfold State.tbcfgReserved
  split
  · exact Frame.refl ..
  · exact ((((Frame.refl ..).wr (by decide)).wr (by decide)).wr (by decide)).wr (by decide)

theorem State.tbcfgReserved_rd (s : State) (n : Nat) (f : Fld) (hf : ∀ g ∈ rsvdFlds true, f.key ≠ g.key)
    (hs : OffSummary f.key) : (s.tbcfgReserved n).rd f = s.rd f :=
  ((s.tbcfgReserved_frame n).mono (by split <;> simp)).rd f hf hs

theorem State.tbcfgReserved_count (s : State) {n : Nat} (h : n &&& 0xFC008000 ≠ 0) :
    (s.tbcfgReserved n).rd R.GLB_ACCERR_RSVDWR = min (s.rd R.GLB_ACCERR_RSVDWR + 1) 65535 := by
  rw [State.tbcfgReserved, if_neg h, State.rd_wr_ne _ _ _ _ (by decide), State.wrB, State.rd_wr_ne _ _ _ _ (by decide),
    State.rd_wr_ne _ _ _ _ (by decide), State.rd_bump, if_pos rfl]
  exact Nat.mod_eq_of_lt (by simp [R.GLB_ACCERR_RSVDWR])

theorem State.tbcfgPps_frame (s : State) : Frame ppsFlds s s.tbcfgPps := by
  unfold State.tbcfgPps
  split
  · exact Frame.refl ..
  · exact (((Frame.refl ..).wr (by decide)).trans ((State.driftDrop_frame _).mono (by simp [ppsFlds]))).trans
      ((State.tbEval_frame _).mono (List.subset_append_right ..))

/-- Dropping PPS leaves the hold alone. -/
theorem State.tbcfgPps_hold (s : State) : s.tbcfgPps.clk.holdRun = s.clk.holdRun ∧ s.tbcfgPps.clk.holdAge = s.clk.holdAge := by
  unfold State.tbcfgPps
  split <;> simp

/-- Without PPSEN nothing of PPS and drift is left. -/
theorem State.tbcfgPps_dropped (s : State) (h : s.rd R.CLK_TBCFG_PPSEN = 0) :
    s.tbcfgPps.rd R.CLK_STATUS_PPSOK = 0 ∧ s.tbcfgPps.rd R.CLK_STATUS_DRIFTVAL = 0 ∧ s.tbcfgPps.rd R.CLK_DRIFT_DRIFT = 0
      ∧ s.tbcfgPps.clk.freqs = [] := by
  have ho : s.tbcfgPps = (s.wr R.CLK_STATUS_PPSOK 0).driftDrop.tbEval := if_neg (by simp [State.on, h])
  rw [ho]
  have hrd (f : Fld) (hf : ∀ g ∈ tbFlds, f.key ≠ g.key) (hs : OffSummary f.key) :=
    (State.tbEval_frame (s.wr R.CLK_STATUS_PPSOK 0).driftDrop).rd f hf hs
  refine ⟨?_, ?_, ?_, by simp⟩
  · rw [hrd _ (by decide) (by decide), State.driftDrop_rd, if_neg (by decide), State.rd_wr_same, Nat.zero_mod]
  · rw [hrd _ (by decide) (by decide), State.driftDrop_rd, if_pos (by decide)]
  · rw [hrd _ (by decide) (by decide), State.driftDrop_rd, if_pos (by decide)]

theorem State.tbcfgHold_frame (s : State) : Frame tbFlds s s.tbcfgHold := by
  unfold State.tbcfgHold
  split
  · exact s.holdEnd_frame
  · exact Frame.refl ..

@[simp] theorem State.tbcfgHold_freqs (s : State) : s.tbcfgHold.clk.freqs = s.clk.freqs := by
  unfold State.tbcfgHold
  split <;> simp

theorem State.tbcfgHold_ends (s : State) (hr : s.clk.holdRun = true) (h : s.rd R.CLK_TBCFG_HOLD * 200000000 ≤ s.clk.holdAge) :
    s.tbcfgHold.clk.holdRun = false ∧ s.tbcfgHold.clk.holdDone = true := by
  simp [State.tbcfgHold, hr, h]

theorem State.tbcfgHold_goes_on (s : State) (h : s.clk.holdAge < s.rd R.CLK_TBCFG_HOLD * 200000000) : s.tbcfgHold = s :=
  if_neg (by simp [Nat.not_le.mpr h])

/-- The four parts of the write. -/
def State.tbcfgWrite (s : State) (n : Nat) : State := ((s.tbcfgFields n).tbcfgReserved n).tbcfgPps.tbcfgHold

theorem exec_clkTbcfgWrite (v : Word) (s : State) : exec (.clkTbcfgWrite v) s = (s.tbcfgWrite v.toNat).done := rfl

/-- The last two parts write what PPS, drift and a move name. -/
theorem State.tbcfgPpsHold_frame (s : State) : Frame ppsFlds s s.tbcfgPps.tbcfgHold :=
  s.tbcfgPps_frame.trans ((State.tbcfgHold_frame _).mono (List.subset_append_right ..))

theorem State.tbcfgWrite_frame (s : State) (n : Nat) :
    Frame (tbcfgFlds ++ ppsFlds ++ if n &&& 0xFC008000 = 0 then [] else rsvdFlds true) s (s.tbcfgWrite n) :=
  (((s.tbcfgFields_frame n).mono (by simp)).trans ((State.tbcfgReserved_frame _ n).mono (by simp))).trans
    ((State.tbcfgPpsHold_frame _).mono (by simp))

/-- The fields of CLK_TBCFG end as the write's first part leaves them. -/
theorem State.tbcfgWrite_rd (s : State) (n : Nat) (f : Fld) (hf : ∀ g ∈ rsvdFlds true ++ ppsFlds, f.key ≠ g.key)
    (hs : OffSummary f.key) :
    (s.tbcfgWrite n).rd f = (s.tbcfgFields n).rd f :=
  (((State.tbcfgReserved_frame _ n).mono (by split <;> simp)).trans ((State.tbcfgPpsHold_frame _).mono (by simp))).rd f hf hs

theorem State.tbcfgWrite_count (s : State) {n : Nat} (h : n &&& 0xFC008000 ≠ 0) :
    (s.tbcfgWrite n).rd R.GLB_ACCERR_RSVDWR = min (s.rd R.GLB_ACCERR_RSVDWR + 1) 65535 := by
  rw [State.tbcfgWrite, (State.tbcfgPpsHold_frame _).rd _ (by decide) (by decide), State.tbcfgReserved_count _ h,
    (s.tbcfgFields_frame n).rd _ (by decide) (by decide)]

/-- Clearing PPSEN drops PPS and drift. -/
theorem State.tbcfgWrite_dropped (s : State) {n : Nat} (h : n / 4096 % 2 = 0) :
    (s.tbcfgWrite n).rd R.CLK_STATUS_PPSOK = 0 ∧ (s.tbcfgWrite n).rd R.CLK_STATUS_DRIFTVAL = 0
      ∧ (s.tbcfgWrite n).rd R.CLK_DRIFT_DRIFT = 0 ∧ (s.tbcfgWrite n).clk.freqs = [] := by
  obtain ⟨-, hppsen, -⟩ := s.tbcfgFields_rd n
  have hen : ((s.tbcfgFields n).tbcfgReserved n).rd R.CLK_TBCFG_PPSEN = 0 := by
    rw [State.tbcfgReserved_rd _ _ _ (by decide) (by decide), hppsen, h]
  obtain ⟨hok, hval, hdrift, hfreqs⟩ := State.tbcfgPps_dropped _ hen
  rw [State.tbcfgWrite, State.tbcfgHold_freqs]
  refine ⟨?_, ?_, ?_, hfreqs⟩
  · rw [(State.tbcfgHold_frame _).rd _ (by decide) (by decide), hok]
  · rw [(State.tbcfgHold_frame _).rd _ (by decide) (by decide), hval]
  · rw [(State.tbcfgHold_frame _).rd _ (by decide) (by decide), hdrift]

/-- What the write's last part finds of the hold: the new HOLD, and the age that the hold had. -/
theorem State.tbcfgPps_hold_of_write (s : State) (n : Nat) :
    ((s.tbcfgFields n).tbcfgReserved n).tbcfgPps.rd R.CLK_TBCFG_HOLD = n % 4096
      ∧ ((s.tbcfgFields n).tbcfgReserved n).tbcfgPps.clk.holdRun = s.clk.holdRun
      ∧ ((s.tbcfgFields n).tbcfgReserved n).tbcfgPps.clk.holdAge = s.clk.holdAge := by
  obtain ⟨hrun, hage⟩ := ((s.tbcfgFields n).tbcfgReserved n).tbcfgPps_hold
  obtain ⟨hhold, -⟩ := s.tbcfgFields_rd n
  refine ⟨?_, hrun.trans (by simp), hage.trans (by simp)⟩
  rw [(State.tbcfgPps_frame _).rd _ (by decide) (by decide), State.tbcfgReserved_rd _ _ _ (by decide) (by decide), hhold]

/-- A running hold that is as long as the new HOLD already ends. -/
theorem State.tbcfgWrite_ends_hold (s : State) {n : Nat} (hr : s.clk.holdRun = true) (h : n % 4096 * 200000000 ≤ s.clk.holdAge) :
    (s.tbcfgWrite n).clk.holdRun = false ∧ (s.tbcfgWrite n).clk.holdDone = true := by
  obtain ⟨hhold, hrun, hage⟩ := s.tbcfgPps_hold_of_write n
  exact State.tbcfgHold_ends _ (hrun.trans hr) (by rwa [hhold, hage])

/-- A running hold that is shorter than the new HOLD goes on. -/
theorem State.tbcfgWrite_keeps_hold (s : State) {n : Nat} (h : s.clk.holdAge < n % 4096 * 200000000) :
    (s.tbcfgWrite n).clk.holdRun = s.clk.holdRun := by
  obtain ⟨hhold, hrun, hage⟩ := s.tbcfgPps_hold_of_write n
  rw [State.tbcfgWrite, State.tbcfgHold_goes_on _ (by rwa [hhold, hage]), hrun]

/-- A set bit among the reserved ones, of the word and of its number. -/
theorem word_and_eq_zero_iff (v : Word) : v &&& 0xFC008000#32 = 0 ↔ v.toNat &&& 0xFC008000 = 0 := by
  rw [← BitVec.toNat_inj, BitVec.toNat_and]
  rfl

/-- A write of CLK_TBCFG completes with the statement's clauses. -/
theorem clkTbcfgWrite_completes (v : Word) (s : State) :
    Completes (.clkTbcfgWrite v) s (fun t =>
      t.rd R.CLK_TBCFG_HOLD = v.toNat % 4096 ∧ t.rd R.CLK_TBCFG_PPSEN = v.toNat / 4096 % 2
        ∧ t.rd R.CLK_TBCFG_PPSEDGE = v.toNat / 8192 % 2 ∧ t.rd R.CLK_TBCFG_TBGATE = v.toNat / 16384 % 2
        ∧ t.rd R.CLK_TBCFG_STEPMAX = v.toNat / 65536 % 1024
        ∧ (v.toNat / 4096 % 2 = 0 → t.rd R.CLK_STATUS_PPSOK = 0 ∧ t.rd R.CLK_STATUS_DRIFTVAL = 0 ∧ t.rd R.CLK_DRIFT_DRIFT = 0
          ∧ t.clk.freqs = [])
        ∧ (s.clk.holdRun = true → v.toNat % 4096 * 200000000 ≤ s.clk.holdAge → t.clk.holdRun = false ∧ t.clk.holdDone = true)
        ∧ (s.clk.holdRun = true → s.clk.holdAge < v.toNat % 4096 * 200000000 → t.clk.holdRun = true)
        ∧ (v &&& 0xFC008000#32 ≠ 0 → t.rd R.GLB_ACCERR_RSVDWR = min (s.rd R.GLB_ACCERR_RSVDWR + 1) 65535)
        ∧ Frame (tbcfgFlds ++ ppsFlds ++ if v &&& 0xFC008000#32 = 0 then [] else rsvdFlds true) s t) := by
  obtain ⟨hhold, hppsen, hedge, hgate, hmax⟩ := s.tbcfgFields_rd v.toNat
  have hrd (f : Fld) (hf : ∀ g ∈ rsvdFlds true ++ ppsFlds, f.key ≠ g.key)
      (hs : OffSummary f.key) :
      (s.tbcfgWrite v.toNat).settle.rd f = (s.tbcfgFields v.toNat).rd f :=
    (State.settle_rd _ f hs.1 hs.2).trans (s.tbcfgWrite_rd _ f hf hs)
  refine completes_of_done (exec_clkTbcfgWrite v s) ⟨(hrd _ (by decide) (by decide)).trans hhold,
    (hrd _ (by decide) (by decide)).trans hppsen, (hrd _ (by decide) (by decide)).trans hedge,
    (hrd _ (by decide) (by decide)).trans hgate, (hrd _ (by decide) (by decide)).trans hmax,
    fun h => ?_, fun hr h => ?_, fun hr h => ?_, fun h => ?_, ?_⟩
  · rw [State.settle_rd _ _ (by decide) (by decide), State.settle_rd _ _ (by decide) (by decide),
      State.settle_rd _ _ (by decide) (by decide), State.settle_clk]
    exact s.tbcfgWrite_dropped h
  · rw [State.settle_clk]
    exact s.tbcfgWrite_ends_hold hr h
  · rw [State.settle_clk, s.tbcfgWrite_keeps_hold h, hr]
  · rw [State.settle_rd _ _ (by decide) (by decide), s.tbcfgWrite_count (mt (word_and_eq_zero_iff v).mpr h)]
  · simp only [word_and_eq_zero_iff]
    exact (s.tbcfgWrite_frame _).settle

/-- Settles O16: the oven's pin, the hold and the write of CLK_TBCFG, each from its own law. -/
theorem timebaseFollowsOvenAndHold : Obligations.TimebaseFollowsOvenAndHold := by
  refine ⟨fun s h hh => ?_, fun s h hh => ?_, ocxoRdyFall_completes, fun s hr h => holdElapsed_completes hr h,
    clkTbcfgWrite_completes⟩
  · obtain ⟨t, he, htb, hpin, hflag, hclk, hframe⟩ := ocxoRdyRise_completes h
    refine ⟨t, he, ?_, hpin, hflag, ?_, ?_, hframe⟩
    · simpa [hh] using htb
    · simp [hclk, State.ovenReady, hh]
    · simp [hclk, State.ovenReady]
  · obtain ⟨t, he, htb, hpin, hflag, hclk, hframe⟩ := ocxoRdyRise_completes h
    refine ⟨t, he, ?_, hpin, hflag, ?_, hframe⟩
    · simpa [hh] using htb
    · simp [hclk, State.ovenReady, hh]

end Sys2Proof.Machine
end

section
/-!
The frame clock (R22, R121 to R123, R227): what the parts of a frame boundary leave of Peg's frame clock, of the frame number and of the
rings that wait for a frame (O32).
-/
namespace Sys2Proof.Machine

/-- A part of the state that no step of a fold changes is the same after the fold. -/
theorem foldl_keeps {α β : Type} (g : State → β) {f : State → α → State} (h : ∀ t a, g (f t a) = g t) (l : List α) (s : State) :
    g (l.foldl f s) = g s :=
  List.foldlRecOn (motive := fun t => g t = g s) l f rfl fun t ht a _ => (h t a).trans ht

/-- The same of a conditional effect. -/
theorem State.when_keeps {β : Type} (g : State → β) {s : State} {c : Bool} {f : State → State} (h : g (f s) = g s) :
    g (s.when c f) = g s := by
  unfold State.when
  split
  · exact h
  · rfl

/-- Peg's record without what a frame start and the journal change beside the frame clock: the bursts, the foreign flags, the driver
timelines, the codebooks and the calibration flags. -/
def PegState.frameClock (p : PegState) : PegState :=
  { p with bursts := [], foreign := [], drivers := [], codebooks := [], calMask := 0 }

/-! ### The journal settles: bursts leave Peg's record, the frame clock stays -/

@[simp] theorem State.fault_peg (s : State) (f : Fld) (sev unit : Nat) : (s.fault f sev unit).peg = s.peg :=
  (State.reportFree_only ..).peg.resolve_left (by decide)

@[simp] theorem State.commitMarker_peg (s : State) (m : Marker) : (s.commitMarker m).peg = s.peg :=
  (State.commitMarker_only s m).peg.resolve_left (by decide)

@[simp] theorem State.judgeFull_peg (s : State) : s.judgeFull.peg = s.peg :=
  (State.judgeFull_only s).peg.resolve_left (by decide)

@[simp] theorem State.refuseBurst_peg (s : State) (h : Handed) : (s.refuseBurst h).peg = s.peg :=
  (State.refuseBurst_only s h).peg.resolve_left (by decide)

theorem State.commitRecs_peg (l : List Rec) (s : State) : (l.foldl State.commitRec s).peg = s.peg :=
  foldl_keeps State.peg (fun t _ => (State.commitRec_only t _).peg.resolve_left (by decide)) l s

@[simp] theorem State.dropBurst_frameClock (s : State) (num : Nat) :
    (s.dropBurst num).peg.frameClock = s.peg.frameClock := rfl

theorem State.commitBurst_frameClock (s : State) (h : Handed) :
    (s.commitBurst h).1.peg.frameClock = s.peg.frameClock := by
  unfold State.commitBurst
  dsimp only
  split
  · rfl
  · split
    · simp
    · split
      · simp [State.bump]
      · rw [State.commitRecs_peg, State.judgeFull_peg, State.dropBurst_frameClock]

theorem State.drainJnl_frameClock (n : Nat) (s : State) : (s.drainJnl n).1.peg.frameClock = s.peg.frameClock := by
  induction n generalizing s with
  | zero => rfl
  | succ n ih =>
    unfold State.drainJnl
    split
    · rfl
    · rw [ih, State.commitMarker_peg]
    · exact (ih _).trans (State.commitBurst_frameClock ..)

theorem State.drain_frameClock (s : State) : s.drain.1.peg.frameClock = s.peg.frameClock :=
  State.drainJnl_frameClock _ s

@[simp] theorem State.showLevels_peg (s : State) (fill drain : Nat) : (s.showLevels fill drain).peg = s.peg := by
  unfold State.showLevels
  extract_lets lvl old shown
  have hrate : (shown.when (old == 0 && decide (0 < lvl)) (·.fault R.DOG_INTSTAT_RATE 1 0)).peg = shown.peg :=
    State.when_keeps State.peg (State.fault_peg ..)
  exact hrate

@[simp] theorem State.ringRegs_peg (s : State) : s.ringRegs.peg = s.peg := State.showLevels_peg ..

@[simp] theorem State.reserve_peg (s : State) (size : Nat) : (s.reserve size).1.peg = s.peg := by
  unfold State.reserve
  extract_lets ring
  split
  · exact State.fault_peg ..
  · exact State.ringRegs_peg _

@[simp] theorem State.capture_peg (s : State) (u : Nat) (g : Trig) : (s.capture u g).peg = s.peg := by
  have hres := s.reserve_peg (entrySize (s.uLen u))
  unfold State.capture
  dsimp only
  split
  · next hr => rwa [hr] at hres
  · next hr => simpa [State.bump, hr] using hres

@[simp] theorem State.trigger_peg (s : State) (u : Nat) (g : Trig) : (s.trigger u g).peg = s.peg := by
  unfold State.trigger
  dsimp only
  repeat' split
  all_goals simp [State.bump]

@[simp] theorem State.pointTrigger_peg (s : State) (h : Handed) (r : Rec) (u : Nat) : (s.pointTrigger h r u).peg = s.peg := by
  unfold State.pointTrigger State.modeTrigger
  dsimp only
  repeat' split
  all_goals simp

@[simp] theorem State.dogPoints_peg (s : State) (h : Handed) : (s.dogPoints h).peg = s.peg :=
  foldl_keeps State.peg (fun t _ => foldl_keeps State.peg (fun _ _ => State.pointTrigger_peg ..) _ t) _ s

theorem State.settleJnl_frameClock (s : State) : s.settleJnl.peg.frameClock = s.peg.frameClock := by
  have hcover (t : State) (h : Handed) : ((t.lbkCover h).dogPoints h).peg = t.peg := by
    rw [State.dogPoints_peg, (State.lbkCover_only t h).peg.resolve_left (by decide)]
  have hfold : s.settleJnl.peg = s.drain.1.peg := foldl_keeps State.peg hcover _ _
  rw [hfold, State.drain_frameClock]

/-! ### The parts of a boundary -/

/-- The boundary's first part: the old frame ends, a waiting time step is applied, and the frame number and the grid instant count on. -/
def State.frameCounts (s : State) (b : Nat) : State :=
  let old := s.rd R.PEG_FRAMENUM_NUM
  let num := (old + 1) % 2 ^ 32
  let s1 := s.frameEnds b old
  (((s1.applyStep).1.stepBreak (s1.applyStep).2 num).wr R.PEG_FRAMENUM_NUM num).onPeg (fun p =>
    { p with clockOn := true, epochOld := if p.clockOn then some p.epochLsb else none, epochLsb := b })

/-- The boundary's second part: the new frame takes its period and scanning begins or stops. -/
def State.frameTurns (s : State) (b : Nat) : State :=
  (((s.frameCounts b).swapsAt .frame b).periodFrame).scanFrame b (s.rd R.PEG_FRAMENUM_NUM)

/-- The number of the frame that starts. -/
def State.nextFrame (s : State) : Nat := (s.rd R.PEG_FRAMENUM_NUM + 1) % 2 ^ 32

theorem State.boundary_eq (s : State) (b : Nat) :
    s.boundary b = (((s.frameTurns b).frameEffects b s.nextFrame).frameStarts b s.nextFrame).settleJnl := rfl

/-- The end of a frame counts one passed over at most. -/
theorem State.frameEnds_peg (s : State) (b old : Nat) :
    (s.frameEnds b old).peg = { s.peg with passed := (s.frameEnds b old).peg.passed } := by
  unfold State.frameEnds
  repeat' split
  all_goals rfl

theorem State.frameCounts_peg (s : State) (b : Nat) :
    (s.frameCounts b).peg = { s.peg with
      passed := (s.frameCounts b).peg.passed, clockOn := true, epochLsb := b,
      epochOld := if s.peg.clockOn then some s.peg.epochLsb else none } := by
  have hpeg (t : State) (num : Nat) : ((t.applyStep).1.stepBreak (t.applyStep).2 num).peg = t.peg :=
    ((State.stepBreak_only ..).peg.resolve_left (by decide)).trans ((State.applyStep_only t).peg.resolve_left (by decide))
  simp only [State.frameCounts, State.onPeg, State.wr_peg, hpeg]
  rw [State.frameEnds_peg]

/-- Of the registers outside CLK and LBK only the frame number changes. -/
theorem State.frameCounts_rd (s : State) (b : Nat) (f : Fld) (h : Nat.testBit 0x32200000402 (blk f.key) = false) :
    (s.frameCounts b).rd f = if f.key = R.PEG_FRAMENUM_NUM.key then s.nextFrame else s.rd f := by
  have hstep (t : State) (num : Nat) : Only 0x30200000402 t ((t.applyStep).1.stepBreak (t.applyStep).2 num) :=
    ((Only.refl _ t).app (State.applyStep_only t) (by decide)).app (State.stepBreak_only ..) (by decide)
  have hbefore : Only 0x32200000402 s _ :=
    ((Only.refl _ s).app (State.frameEnds_only s b (s.rd R.PEG_FRAMENUM_NUM)) (by decide)).app (hstep _ s.nextFrame) (by decide)
  refine (State.rd_wr _ R.PEG_FRAMENUM_NUM f _).trans ?_
  split
  · exact Nat.mod_mod ..
  · exact hbefore.rd f h

/-- The configuration of an epoch depends on what is retained of it and on the staged fields of PEG, MRT and JST, of which the
frame number is none. -/
theorem State.epochCfg_congr {s t : State} (he : t.peg.epochs = s.peg.epochs)
    (hr : ∀ f : Fld, f.key ≠ R.PEG_FRAMENUM_NUM.key → (blk f.key = 5 ∨ blk f.key = 6 ∨ blk f.key = 7) → t.rd f = s.rd f) (e : Nat) :
    t.epochCfg e = s.epochCfg e := by
  have hzone (z : Nat) : t.rd (R.JST_ZONESEL_SLOT z) = s.rd (R.JST_ZONESEL_SLOT z) :=
    hr _ (fun h => absurd (blk_JST_ZONESEL_SLOT z) (by rw [h]; decide)) (.inr (.inr (blk_JST_ZONESEL_SLOT z)))
  have hcap : t.captureCfg 0 0 0 0 = s.captureCfg 0 0 0 0 := by
    simp (disch := decide) only [State.captureCfg, State.on, hzone, hr]
  rw [State.epochCfg, State.epochCfg, he, hcap]

/-- The frame that starts has the period of the active epoch. -/
theorem State.periodFrame_peg (s : State) :
    s.periodFrame.peg =
      { s.peg with period := (s.epochCfg s.peg.active).period, cfgPeriod := (s.epochCfg s.peg.active).period } := by
  unfold State.periodFrame
  dsimp only
  split
  · rfl
  · exact (State.lbkRelay_only ..).peg.resolve_left (by decide)

/-- What begins or ends scanning leaves the frame clock as it is. -/
theorem State.scanFrame_clock (s : State) (b old : Nat) :
    (s.scanFrame b old).peg.clockOn = s.peg.clockOn ∧ (s.scanFrame b old).peg.epochLsb = s.peg.epochLsb
      ∧ (s.scanFrame b old).peg.epochOld = s.peg.epochOld ∧ (s.scanFrame b old).peg.period = s.peg.period := by
  unfold State.scanFrame
  dsimp only
  split
  · rw [(State.nowReady_only _).peg.resolve_left (by decide)]
    exact ⟨rfl, rfl, rfl, rfl⟩
  · split
    · rw [(State.nowRunning_only _).peg.resolve_left (by decide)]
      exact ⟨rfl, rfl, rfl, rfl⟩
    · exact ⟨rfl, rfl, rfl, rfl⟩

theorem State.scanFrame_rd_frameNum (s : State) (b old : Nat) :
    (s.scanFrame b old).rd R.PEG_FRAMENUM_NUM = s.rd R.PEG_FRAMENUM_NUM := by
  unfold State.scanFrame
  dsimp only
  split
  · rw [(State.nowReady_only _).rd _ (by decide), State.rd_wr_ne _ _ _ _ (by decide), State.onPeg_rd]
  · split
    · rw [(State.nowRunning_only _).rd _ (by decide), State.rd_wr_ne _ _ _ _ (by decide), State.onBoot_rd, State.onPeg_rd]
    · rfl

/-- A stop that was asked for ends scanning with the frame that ends. -/
theorem State.scanFrame_of_stop {s : State} (b old : Nat) (hs : s.peg.scanning = true) (hstop : s.peg.stopReq = true) :
    (s.scanFrame b old).peg.scanning = false ∧ (s.scanFrame b old).peg.lastFrame = old := by
  unfold State.scanFrame
  rw [if_pos (by simp [hs, hstop]), (State.nowReady_only _).peg.resolve_left (by decide)]
  exact ⟨rfl, rfl⟩

/-- Scanning without a stop asked for goes on. -/
theorem State.scanFrame_of_scanning {s : State} (b old : Nat) (hs : s.peg.scanning = true) (hstop : s.peg.stopReq = false) :
    s.scanFrame b old = s := by
  simp [State.scanFrame, State.scanBegins, hs, hstop]

/-! ### What takes effect at the boundary -/

theorem frameNum_key_ne_foreign (i : Nat) : R.PEG_FRAMENUM_NUM.key ≠ (R.PEG_FOREIGN_CH i).key := by
  simp only [R.PEG_FRAMENUM_NUM, R.PEG_FOREIGN_CH]
  omega

theorem State.foreignFrame_frameClock (s : State) : s.foreignFrame.peg.frameClock = s.peg.frameClock := by
  unfold State.foreignFrame
  dsimp only
  rw [foldl_keeps State.peg (fun _ _ => State.wr_peg ..)]
  rfl

theorem State.foreignFrame_rd_frameNum (s : State) : s.foreignFrame.rd R.PEG_FRAMENUM_NUM = s.rd R.PEG_FRAMENUM_NUM :=
  foldl_keeps (State.rd · R.PEG_FRAMENUM_NUM) (fun t _ => State.rd_wr_ne t _ _ _ (frameNum_key_ne_foreign _)) _ _

theorem State.setPlan_frameClock (s : State) (n : Nat) (f : DrvPlan → DrvPlan) :
    (s.setPlan n f).peg.frameClock = s.peg.frameClock := rfl

theorem State.driverFrame_frameClock (s : State) : s.driverFrame.peg.frameClock = s.peg.frameClock := by
  unfold State.driverFrame
  rw [foldl_keeps (fun t => t.peg.frameClock) (fun _ _ => State.setPlan_frameClock ..)]

theorem State.codeChunk_frameClock (s : State) (gen first chunk : Nat) (gaps : List Byte) :
    (s.codeChunk gen first chunk gaps).peg.frameClock = s.peg.frameClock := by
  unfold State.codeChunk
  dsimp only
  split
  · rfl
  · rfl

theorem State.tieOriginate_peg (s : State) (on : Nat → Bool) (typ dest : Nat) (payload : List Byte) :
    (s.tieOriginate on typ dest payload).peg = s.peg :=
  (State.tieOriginate_only ..).peg.resolve_left (by decide)

theorem State.sendCodebook_frameClock (s : State) (gen first : Nat) :
    (s.sendCodebook gen first).peg.frameClock = s.peg.frameClock := by
  have hsent (t : State) (u : Nat) (payload : Nat → List Byte) :
      ((List.range 17).foldl (fun t i => t.tieOriginate (fun _ => true) 4 u (payload i)) t).peg = t.peg :=
    foldl_keeps State.peg (fun _ _ => State.tieOriginate_peg ..) _ t
  unfold State.sendCodebook
  dsimp only
  rw [foldl_keeps (fun t => t.peg.frameClock)]
  · exact foldl_keeps (fun t => t.peg.frameClock) (fun _ _ => State.codeChunk_frameClock ..) _ s
  · intro t u
    split
    · rw [hsent]
    · rfl

theorem State.masterFrameStart_frameClock (s : State) (num b : Nat) :
    (s.masterFrameStart num b).peg.frameClock = s.peg.frameClock := by
  unfold State.masterFrameStart
  dsimp only
  split
  · rw [State.when_keeps (fun t => t.peg.frameClock) (State.sendCodebook_frameClock ..), State.tieOriginate_peg]
  · rfl

theorem State.codebookFrame_rd_frameNum (s : State) (num : Nat) :
    (s.codebookFrame num).rd R.PEG_FRAMENUM_NUM = s.rd R.PEG_FRAMENUM_NUM := by
  unfold State.codebookFrame
  dsimp only
  rw [State.when_keeps (State.rd · R.PEG_FRAMENUM_NUM), State.rd_wrB, if_neg (by decide)]
  exact (State.fault_rd _ _ _ _ _ (by decide) (by decide)).trans (if_neg (by decide))

/-- What starts afresh with a frame in Batten, Kerf, Peg and Tenon. -/
def State.frameAfresh (s : State) : State :=
  ((s.ringFrame.skewFrame.foreignFrame).driverFrame).onTnn (fun t => { t with tlSwapDue := t.tlSwap })

/-- What the tie between units and its codebooks do at a boundary. -/
def State.frameTies (s : State) (b num : Nat) : State := ((s.tieFrame num).masterFrameStart num b).codebookFrame num

theorem State.frameEffects_eq (s : State) (b num : Nat) :
    ∃ m scanned, s.frameEffects b num =
      ((s.frameAfresh.frameTies b num).plbFrame.onPeg (fun p => { p with calMask := m })).lbkFrame b num scanned := by
  unfold State.frameEffects State.frameAfresh State.frameTies
  exact ⟨_, _, rfl⟩

theorem State.onPeg_calMask_frameClock (s : State) (m : Nat) :
    (s.onPeg (fun p => { p with calMask := m })).peg.frameClock = s.peg.frameClock := rfl

theorem State.frameAfresh_frameClock (s : State) : s.frameAfresh.peg.frameClock = s.peg.frameClock := by
  rw [State.frameAfresh, State.onTnn_peg, State.driverFrame_frameClock, State.foreignFrame_frameClock,
    (State.skewFrame_only s.ringFrame).peg.resolve_left (by decide), (State.ringFrame_only s).peg.resolve_left (by decide)]

theorem State.frameAfresh_rd_frameNum (s : State) : s.frameAfresh.rd R.PEG_FRAMENUM_NUM = s.rd R.PEG_FRAMENUM_NUM := by
  rw [State.frameAfresh, State.onTnn_rd, (State.driverFrame_only _).rd _ (by decide), State.foreignFrame_rd_frameNum,
    (State.skewFrame_only _).rd _ (by decide), (State.ringFrame_only _).rd _ (by decide)]

theorem State.frameAfresh_btn (s : State) : s.frameAfresh.btn = s.ringFrame.btn := by
  rw [State.frameAfresh, State.onTnn_btn, (State.driverFrame_only _).btn.resolve_left (by decide),
    (State.foreignFrame_only _).btn.resolve_left (by decide), (State.skewFrame_only _).btn.resolve_left (by decide)]

theorem State.frameTies_frameClock (s : State) (b num : Nat) : (s.frameTies b num).peg.frameClock = s.peg.frameClock := by
  rw [State.frameTies, (State.codebookFrame_only _ num).peg.resolve_left (by decide), State.masterFrameStart_frameClock,
    (State.tieFrame_only s num).peg.resolve_left (by decide)]

theorem State.frameTies_rd_frameNum (s : State) (b num : Nat) :
    (s.frameTies b num).rd R.PEG_FRAMENUM_NUM = s.rd R.PEG_FRAMENUM_NUM := by
  rw [State.frameTies, State.codebookFrame_rd_frameNum, (State.masterFrameStart_only ..).rd _ (by decide),
    (State.tieFrame_only ..).rd _ (by decide)]

theorem State.frameTies_btn (s : State) (b num : Nat) : (s.frameTies b num).btn = s.btn := by
  rw [State.frameTies, (State.codebookFrame_only ..).btn.resolve_left (by decide),
    (State.masterFrameStart_only ..).btn.resolve_left (by decide), (State.tieFrame_only ..).btn.resolve_left (by decide)]

theorem State.frameEffects_frameClock (s : State) (b num : Nat) :
    (s.frameEffects b num).peg.frameClock = s.peg.frameClock := by
  obtain ⟨m, scanned, h⟩ := s.frameEffects_eq b num
  rw [h, (State.lbkFrame_only _ b num _).peg.resolve_left (by decide), State.onPeg_calMask_frameClock,
    (State.plbFrame_only _).peg.resolve_left (by decide), State.frameTies_frameClock, State.frameAfresh_frameClock]

theorem State.frameEffects_rd_frameNum (s : State) (b num : Nat) :
    (s.frameEffects b num).rd R.PEG_FRAMENUM_NUM = s.rd R.PEG_FRAMENUM_NUM := by
  obtain ⟨m, scanned, h⟩ := s.frameEffects_eq b num
  rw [h, (State.lbkFrame_only _ b num _).rd _ (by decide), State.onPeg_rd, (State.plbFrame_only _).rd _ (by decide),
    State.frameTies_rd_frameNum, State.frameAfresh_rd_frameNum]

/-- Of the rings' records only the waiting for a frame ends. -/
theorem State.frameEffects_btn (s : State) (b num : Nat) : (s.frameEffects b num).btn = s.ringFrame.btn := by
  obtain ⟨m, scanned, h⟩ := s.frameEffects_eq b num
  rw [h, (State.lbkFrame_only _ b num _).btn.resolve_left (by decide), State.onPeg_btn,
    (State.plbFrame_only _).btn.resolve_left (by decide), State.frameTies_btn, State.frameAfresh_btn]

/-- A lookup in a map whose values have all been changed alike. -/
theorem mapGet_map {α β : Type} (f : α → β) (d : α) (m : List (Nat × α)) (k : Nat) :
    mapGet (f d) (m.map (fun p => (p.1, f p.2))) k = f (mapGet d m k) := by
  induction m with
  | nil => rfl
  | cons p rest ih =>
    by_cases hk : p.1 = k <;> simp [mapGet, hk, ih]

/-- A ring's record that waits for no frame. -/
def RingState.joined (x : RingState) : RingState := { x with waits := false }

theorem State.ringFrame_waits (s : State) (r : Nat) : (s.ringFrame.ringSt r).waits = false := by
  have hjoined : s.ringFrame.ringSt r = (s.ringSt r).joined := mapGet_map RingState.joined .zero s.btn.rings r
  rw [hjoined]
  rfl

/-! ### The frame start marker -/

theorem State.frameStarts_clock (s : State) (b num : Nat) :
    (s.frameStarts b num).peg.clockOn = s.peg.clockOn ∧ (s.frameStarts b num).peg.epochLsb = s.peg.epochLsb
      ∧ (s.frameStarts b num).peg.epochOld = s.peg.epochOld ∧ (s.frameStarts b num).peg.period = s.peg.period
      ∧ (s.frameStarts b num).peg.scanning = s.peg.scanning := by
  unfold State.frameStarts
  dsimp only
  split
  · exact ⟨rfl, rfl, rfl, rfl, rfl⟩
  · exact ⟨rfl, rfl, rfl, rfl, rfl⟩

theorem State.frameStarts_rd_frameNum (s : State) (b num : Nat) :
    (s.frameStarts b num).rd R.PEG_FRAMENUM_NUM = s.rd R.PEG_FRAMENUM_NUM := by
  unfold State.frameStarts
  dsimp only
  split
  · rw [State.rd_flag, if_neg (by decide)]
    rfl
  · rfl

/-- A scanned frame that starts is flagged and is the last one scanned. -/
theorem State.frameStarts_of_scanning {s : State} (b num : Nat) (hs : s.peg.scanning = true) :
    (s.frameStarts b num).rd R.PEG_INTSTAT_FRAMESTART = 1 ∧ (s.frameStarts b num).peg.lastFrame = num := by
  rw [State.frameStarts, if_pos hs]
  exact ⟨State.rd_wr_same .., rfl⟩

/-- A frame that is not scanned starts without a word. -/
theorem State.frameStarts_of_idle {s : State} (b num : Nat) (hs : s.peg.scanning = false) : s.frameStarts b num = s := by
  simp [State.frameStarts, hs]

/-! ### The whole boundary -/

theorem State.frameTurns_clock (s : State) (b : Nat) :
    (s.frameTurns b).peg.clockOn = true ∧ (s.frameTurns b).peg.epochLsb = b
      ∧ (s.frameTurns b).peg.epochOld = (if s.peg.clockOn then some s.peg.epochLsb else none)
      ∧ (s.frameTurns b).peg.period = (s.epochCfg s.peg.active).period := by
  have hcfg : ((s.frameCounts b).swapsAt .frame b).epochCfg s.peg.active = s.epochCfg s.peg.active := by
    refine State.epochCfg_congr ((congrArg PegState.epochs (s.frameCounts_peg b)).trans rfl) (fun f hf hb => ?_) _
    refine (s.frameCounts_rd b f ?_).trans (if_neg hf)
    rcases hb with h | h | h <;> rw [h] <;> decide
  have hpeg : ((s.frameCounts b).swapsAt .frame b).periodFrame.peg =
      { (s.frameCounts b).peg with
        period := (s.epochCfg s.peg.active).period, cfgPeriod := (s.epochCfg s.peg.active).period } := by
    have hactive : ((s.frameCounts b).swapsAt .frame b).peg.active = s.peg.active :=
      (congrArg PegState.active (s.frameCounts_peg b)).trans rfl
    rw [State.periodFrame_peg, hactive, hcfg]
    rfl
  obtain ⟨hon, hepoch, hold, hperiod⟩ := ((s.frameCounts b).swapsAt .frame b).periodFrame.scanFrame_clock b (s.rd R.PEG_FRAMENUM_NUM)
  refine ⟨hon.trans ?_, hepoch.trans ?_, hold.trans ?_, hperiod.trans ?_⟩
  · rw [hpeg, s.frameCounts_peg b]
  · rw [hpeg, s.frameCounts_peg b]
  · rw [hpeg, s.frameCounts_peg b]
  · rw [hpeg]

theorem State.frameTurns_rd_frameNum (s : State) (b : Nat) : (s.frameTurns b).rd R.PEG_FRAMENUM_NUM = s.nextFrame := by
  rw [State.frameTurns, State.scanFrame_rd_frameNum, (State.periodFrame_only _).rd _ (by decide),
    (State.swapsAt_only ..).rd _ (by decide), s.frameCounts_rd b _ (by decide), if_pos rfl]

/-- What the boundary's first parts leave of scanning and of a stop asked for. -/
theorem State.frameTurns_before_scanFrame (s : State) (b : Nat) :
    ((s.frameCounts b).swapsAt .frame b).periodFrame.peg.scanning = s.peg.scanning
      ∧ ((s.frameCounts b).swapsAt .frame b).periodFrame.peg.stopReq = s.peg.stopReq := by
  rw [State.periodFrame_peg, (State.swapsAt_only ..).peg.resolve_left (by decide), s.frameCounts_peg b]
  exact ⟨rfl, rfl⟩

theorem State.frameTurns_of_scanning {s : State} (b : Nat) (hs : s.peg.scanning = true) (hstop : s.peg.stopReq = false) :
    (s.frameTurns b).peg.scanning = true := by
  obtain ⟨hscan, hreq⟩ := s.frameTurns_before_scanFrame b
  rw [State.frameTurns, State.scanFrame_of_scanning b _ (hscan.trans hs) (hreq.trans hstop), hscan, hs]

theorem State.frameTurns_of_stop {s : State} (b : Nat) (hs : s.peg.scanning = true) (hstop : s.peg.stopReq = true) :
    (s.frameTurns b).peg.scanning = false ∧ (s.frameTurns b).peg.lastFrame = s.rd R.PEG_FRAMENUM_NUM := by
  obtain ⟨hscan, hreq⟩ := s.frameTurns_before_scanFrame b
  exact State.scanFrame_of_stop b _ (hscan.trans hs) (hreq.trans hstop)

theorem State.boundary_frameClock (s : State) (b : Nat) :
    (s.boundary b).peg.frameClock =
      (((s.frameTurns b).frameEffects b s.nextFrame).frameStarts b s.nextFrame).peg.frameClock :=
  State.settleJnl_frameClock _

theorem PegState.fields_of_frameClock {p q : PegState} (h : p.frameClock = q.frameClock) :
    p.clockOn = q.clockOn ∧ p.epochLsb = q.epochLsb ∧ p.epochOld = q.epochOld ∧ p.period = q.period ∧ p.scanning = q.scanning
      ∧ p.lastFrame = q.lastFrame :=
  ⟨(congrArg PegState.clockOn h :), (congrArg PegState.epochLsb h :), (congrArg PegState.epochOld h :),
    (congrArg PegState.period h :), (congrArg PegState.scanning h :), (congrArg PegState.lastFrame h :)⟩

/-- The clock that a boundary at the instant `b` leaves (R122). -/
theorem State.boundary_clock (s : State) (b : Nat) :
    (s.boundary b).peg.clockOn = true ∧ (s.boundary b).peg.epochLsb = b
      ∧ (s.boundary b).peg.epochOld = (if s.peg.clockOn then some s.peg.epochLsb else none)
      ∧ (s.boundary b).peg.period = (s.epochCfg s.peg.active).period := by
  obtain ⟨hon1, hepoch1, hold1, hperiod1, -, -⟩ := PegState.fields_of_frameClock (s.boundary_frameClock b)
  obtain ⟨hon2, hepoch2, hold2, hperiod2, -⟩ := ((s.frameTurns b).frameEffects b s.nextFrame).frameStarts_clock b s.nextFrame
  obtain ⟨hon3, hepoch3, hold3, hperiod3, -, -⟩ :=
    PegState.fields_of_frameClock ((s.frameTurns b).frameEffects_frameClock b s.nextFrame)
  obtain ⟨hon4, hepoch4, hold4, hperiod4⟩ := s.frameTurns_clock b
  exact ⟨hon1.trans (hon2.trans (hon3.trans hon4)), hepoch1.trans (hepoch2.trans (hepoch3.trans hepoch4)),
    hold1.trans (hold2.trans (hold3.trans hold4)), hperiod1.trans (hperiod2.trans (hperiod3.trans hperiod4))⟩

theorem State.boundary_rd_frameNum (s : State) (b : Nat) : (s.boundary b).rd R.PEG_FRAMENUM_NUM = s.nextFrame := by
  rw [State.boundary_eq, (State.settleJnl_only _).rd _ (by decide), State.frameStarts_rd_frameNum,
    State.frameEffects_rd_frameNum, State.frameTurns_rd_frameNum]

/-- Every ring that waited for a frame takes part in the one that starts (R121). -/
theorem State.boundary_joins_rings (s : State) (b r : Nat) : ((s.boundary b).ringSt r).waits = false := by
  have hbtn : (s.boundary b).btn = (s.frameTurns b).ringFrame.btn := by
    rw [State.boundary_eq, (State.settleJnl_only _).btn.resolve_left (by decide),
      (State.frameStarts_only _ _ _).btn.resolve_left (by decide), State.frameEffects_btn]
  rw [State.ringSt, hbtn]
  exact State.ringFrame_waits _ r

/-- Scanning goes on over a boundary: the frame that starts is flagged, and is the last one scanned (R123). -/
theorem State.boundary_of_scanning {s : State} (b : Nat) (hs : s.peg.scanning = true) (hstop : s.peg.stopReq = false) :
    (s.boundary b).peg.scanning = true ∧ (s.boundary b).rd R.PEG_INTSTAT_FRAMESTART = 1
      ∧ (s.boundary b).peg.lastFrame = s.nextFrame := by
  obtain ⟨-, -, -, -, hscan1, hlast1⟩ := PegState.fields_of_frameClock (s.boundary_frameClock b)
  obtain ⟨-, -, -, -, hscan2⟩ := ((s.frameTurns b).frameEffects b s.nextFrame).frameStarts_clock b s.nextFrame
  obtain ⟨-, -, -, -, hscan3, -⟩ := PegState.fields_of_frameClock ((s.frameTurns b).frameEffects_frameClock b s.nextFrame)
  have hscanning := hscan3.trans (State.frameTurns_of_scanning b hs hstop)
  obtain ⟨hflag, hlast⟩ := State.frameStarts_of_scanning b s.nextFrame hscanning
  refine ⟨hscan1.trans (hscan2.trans hscanning), ?_, hlast1.trans hlast⟩
  rw [State.boundary_eq, (State.settleJnl_only _).rd _ (by decide), hflag]

/-- A stop that was asked for takes effect with the frame that ends, which stays the last one scanned (R123). -/
theorem State.boundary_of_stop {s : State} (b : Nat) (hs : s.peg.scanning = true) (hstop : s.peg.stopReq = true) :
    (s.boundary b).peg.scanning = false ∧ (s.boundary b).peg.lastFrame = s.rd R.PEG_FRAMENUM_NUM := by
  obtain ⟨-, -, -, -, hscan1, hlast1⟩ := PegState.fields_of_frameClock (s.boundary_frameClock b)
  obtain ⟨-, -, -, -, hscan3, hlast3⟩ :=
    PegState.fields_of_frameClock ((s.frameTurns b).frameEffects_frameClock b s.nextFrame)
  obtain ⟨hidle, hlast⟩ := State.frameTurns_of_stop b hs hstop
  rw [State.frameStarts_of_idle b _ (hscan3.trans hidle)] at hscan1 hlast1
  exact ⟨hscan1.trans (hscan3.trans hidle), hlast1.trans (hlast3.trans hlast)⟩

@[simp] theorem State.settle_peg (s : State) : s.settle.peg = s.peg := (State.settle_only s).peg.resolve_left (by decide)

theorem State.settle_ringSt (s : State) (r : Nat) : s.settle.ringSt r = s.ringSt r := by
  rw [State.ringSt, State.ringSt, (State.settle_only s).btn.resolve_left (by decide)]

/-! ### FRAME_BOUNDARY -/

theorem exec_frameBoundary_of_due {s : State} (hon : s.peg.clockOn = true) (hdue : s.gridNext ≤ s.nowLsb) :
    exec .frameBoundary s = (s.boundary s.gridNext).done := by
  show execFrameBoundary s = _
  rw [execFrameBoundary, if_pos hon, if_pos hdue]

theorem exec_frameBoundary_of_early {s : State} (hon : s.peg.clockOn = true) (hearly : s.nowLsb < s.gridNext) :
    exec .frameBoundary s = s.done := by
  show execFrameBoundary s = _
  rw [execFrameBoundary, if_pos hon, if_neg (Nat.not_le.mpr hearly)]

theorem exec_frameBoundary_of_first {s : State} (hon : s.peg.clockOn = false) (hlo : 0x0A ≤ s.stage) (hhi : s.stage ≤ 0x0E)
    (hreset : s.boot.inReset = false) (hporn : s.boot.pornLow = false) (hpow : s.boot.powered = true) :
    exec .frameBoundary s = (s.boundary s.nowLsb).done := by
  show execFrameBoundary s = _
  simp [execFrameBoundary, hon, hlo, hhi, hreset, hporn, hpow]

/-- Settles O32: a boundary that is due, one that is not, and the first one, each from the law of its branch. -/
theorem frameBoundariesAdvanceTheFrame : Obligations.FrameBoundariesAdvanceTheFrame := by
  refine ⟨fun s hon hdue => ?_, fun s hon hearly => ?_, fun s hon hlo hhi hreset hporn hpow => ?_⟩
  · obtain ⟨-, hepoch, hold, hperiod⟩ := s.boundary_clock s.gridNext
    refine completes_of_done (exec_frameBoundary_of_due hon hdue) ?_
    simp only [State.settle_peg, State.settle_ringSt]
    refine ⟨?_, hepoch, hold.trans (if_pos hon), hperiod, fun r => s.boundary_joins_rings _ r, fun hs hstop => ?_,
      State.boundary_of_stop _⟩
    · rw [State.settle_rd _ _ (by decide) (by decide), s.boundary_rd_frameNum, State.nextFrame]
    · rw [State.settle_rd _ _ (by decide) (by decide)]
      exact State.boundary_of_scanning _ hs hstop
  · exact completes_of_done (exec_frameBoundary_of_early hon hearly) ⟨s.settle_peg, s.settle_clk, (Frame.refl [] s).settle⟩
  · obtain ⟨hclock, hepoch, -, -⟩ := s.boundary_clock s.nowLsb
    refine completes_of_done (exec_frameBoundary_of_first hon hlo hhi hreset hporn hpow) ⟨?_, ?_, ?_⟩
    · rw [State.settle_peg, hclock]
    · rw [State.settle_peg, hepoch]
    · rw [State.settle_rd _ _ (by decide) (by decide), s.boundary_rd_frameNum, State.nextFrame]

end Sys2Proof.Machine
end

section
/-!
The answer of a command (R377, R378, R382): what the completion of a ring's one command leaves in the ring, in the host link's other
records, in the registers and in what has left the part.
-/
namespace Sys2Proof.Machine

/-! ### Frames of the operations of the host link -/

section
variable {l : List Fld} {s u : State}

/-- A message of a vector writes a pending bit at most. -/
theorem Frame.msix (h : Frame l s u) (v : Nat) : Frame l s (u.msix v) := by
  refine h.trans ⟨fun f _ hs => ?_, fun a => ?_, fun a => ?_⟩
  · unfold State.msix
    split
    · rfl
    · refine State.rd_wr_ne u _ _ _ fun hk => hs (.inr ?_)
      simp only [hk, R.MSIX_PENDING]
      omega
  · rw [State.hbmByte, State.hbmByte, (State.msix_only u v).hbm.resolve_left (by decide)]
  · rw [State.flashByte, State.flashByte, (State.msix_only u v).flash.resolve_left (by decide)]

theorem Frame.bump {f : Fld} {n : Nat} (h : Frame l s u) (hf : f ∈ l) : Frame l s (u.bump f n) := h.wr hf

/-- A fault sets its flag, and a full fault log FIFO counts it. -/
theorem Frame.fault {f : Fld} {sev unit : Nat} (h : Frame l s u) (hf : f ∈ l) (hr : reportFlds ⊆ l) :
    Frame l s (u.fault f sev unit) := by
  refine h.trans ⟨fun g hg _ => ?_, fun a => ?_, fun a => ?_⟩
  · rw [State.fault_rd u f g sev unit (hg _ (hr (by decide))) (hg _ (hr (by decide))), if_neg (hg f hf)]
  · rw [State.hbmByte, State.hbmByte, State.fault, (State.reportFree_only ..).hbm.resolve_left (by decide)]
    rfl
  · rw [State.flashByte, State.flashByte, State.fault, (State.reportFree_only ..).flash.resolve_left (by decide)]
    rfl

theorem Frame.onHif (h : Frame l s u) (f : HifState → HifState) : Frame l s (u.onHif f) :=
  h.trans (Frame.of_only (State.onHif_only ..) (by decide) (by decide) (by decide))

theorem Frame.setCmdRing (h : Frame l s u) (r : Nat) (f : CmdRing → CmdRing) : Frame l s (u.setCmdRing r f) := h.onHif _

theorem Frame.emits {α : Type} (h : Frame l s u) (es : List α) (f : α → Emit) : Frame l s (es.foldl (fun t p => t.emit (f p)) u) :=
  h.trans (Frame.of_only ((Only.refl 0x40000000000000 u).foldl fun t _ => State.emit_only t _) (by decide) (by decide) (by decide))

end

/-! ### What a completion entry leaves -/

/-- The host link's record without its command rings and the count of bytes written. -/
def HifState.apart (h : HifState) : HifState := { h with rings := [], bytesOut := 0 }

/-- The fields that a completion of a status other than 0 writes beside the others. -/
def errFlds (status : Nat) : List Fld := if status = 0 then [] else R.HIF_INTSTAT_CMDERR :: reportFlds

theorem State.cmdRing_setCmdRing (s : State) (r : Nat) (f : CmdRing → CmdRing) :
    (s.setCmdRing r f).cmdRing r = f (s.cmdRing r) := mapGet_set_same ..

theorem State.setCmdRing_apart (s : State) (r : Nat) (f : CmdRing → CmdRing) : (s.setCmdRing r f).hif.apart = s.hif.apart := rfl

theorem State.emits_hif {α : Type} (f : α → Emit) (es : List α) (s : State) : (es.foldl (fun t p => t.emit (f p)) s).hif = s.hif :=
  foldl_keeps State.hif (fun t p => State.emit_hif t (f p)) es s

/-- Every message listed has left. -/
theorem State.mem_out_emits {α : Type} (f : α → Emit) (es : List α) (s : State) {e : Emit}
    (h : e ∈ s.out ∨ ∃ p ∈ es, e = f p) : e ∈ (es.foldl (fun t p => t.emit (f p)) s).out := by
  induction es generalizing s with
  | nil => simpa using h
  | cons p rest ih =>
    refine ih (s.emit (f p)) ?_
    rcases h with h | ⟨q, hq, rfl⟩
    · exact .inl (List.mem_cons_of_mem _ h)
    · rcases List.mem_cons.mp hq with rfl | hq
      · exact .inl List.mem_cons_self
      · exact .inr ⟨q, hq, rfl⟩

theorem State.hostWrite_cmdRing (s : State) (addr : Nat) (bytes : List Byte) (r : Nat) :
    (s.hostWrite addr bytes).cmdRing r = s.cmdRing r := by
  unfold State.hostWrite
  dsimp only
  rw [State.cmdRing, State.emits_hif]
  rfl

theorem State.hostWrite_apart (s : State) (addr : Nat) (bytes : List Byte) :
    (s.hostWrite addr bytes).hif.apart = s.hif.apart := by
  unfold State.hostWrite
  dsimp only
  rw [State.emits_hif]
  rfl

theorem State.hostWrite_frame (s : State) (addr : Nat) (bytes : List Byte) : Frame [R.PUR_KIB_CNT] s (s.hostWrite addr bytes) :=
  (((Frame.refl _ s).onHif _).bump (by decide)).emits _ _

theorem State.hostWrite_sent (s : State) (addr : Nat) (bytes : List Byte) : Sent addr bytes s (s.hostWrite addr bytes) :=
  fun p hp => State.mem_out_emits _ _ _ (.inr ⟨p, hp, rfl⟩)

/-- What has left stays in the record of a message. -/
theorem State.msix_out (s : State) (v : Nat) : s.out ⊆ (s.msix v).out := by
  unfold State.msix
  split
  · exact List.subset_cons_self ..
  · exact fun _ h => h

@[simp] theorem State.msix_hif (s : State) (v : Nat) : (s.msix v).hif = s.hif := (State.msix_only s v).hif.resolve_left (by decide)

@[simp] theorem State.fault_hif (s : State) (f : Fld) (sev unit : Nat) : (s.fault f sev unit).hif = s.hif :=
  (State.reportFree_only ..).hif.resolve_left (by decide)

theorem State.fault_out (s : State) (f : Fld) (sev unit : Nat) : (s.fault f sev unit).out = s.out :=
  (State.reportFree_only ..).out.resolve_left (by decide)

theorem State.whenFault_hif (s : State) (c : Bool) (f : Fld) (sev unit : Nat) :
    (s.when c (·.fault f sev unit)).hif = s.hif := State.when_keeps State.hif (State.fault_hif ..)

theorem State.whenFault_out (s : State) (c : Bool) (f : Fld) (sev unit : Nat) :
    (s.when c (·.fault f sev unit)).out = s.out := State.when_keeps State.out (State.fault_out ..)

/-- The entry is written and its ring's count goes on: the first part of a completion. -/
def State.cplEntry (s : State) (r cid status result : Nat) (replay : Bool) : State :=
  let lg := s.rd (R.HIF_CRCFG_LOG2 r)
  let i := (s.cmdRing r).written
  let base := s.rd (R.HIF_CCBASELO_ADDR r) + 2 ^ 32 * s.rd (R.HIF_CCBASEHI_ADDR r)
  ((s.hostWrite (base + 16 * (i % 2 ^ lg)) (cplBytes cid status (passBit i lg) result replay)).setCmdRing r
    (fun x => { x with written := x.written + 1 })).when (status != 0) (·.fault R.HIF_INTSTAT_CMDERR 1 r)

theorem State.writeCpl_eq (s : State) (r cid status result : Nat) (replay : Bool) :
    s.writeCpl r cid status result replay =
      if (s.cmdRing r).armed && s.on (R.HIF_CRCFG_VECEN r) then
        ((s.cplEntry r cid status result replay).setCmdRing r (fun x => { x with armed := false })).msix
          (s.rd (R.HIF_CRCFG_VECTOR r))
      else s.cplEntry r cid status result replay := rfl

theorem State.cplEntry_cmdRing (s : State) (r cid status result : Nat) (replay : Bool) :
    (s.cplEntry r cid status result replay).cmdRing r = { s.cmdRing r with written := (s.cmdRing r).written + 1 } := by
  unfold State.cplEntry
  dsimp only
  rw [State.cmdRing, State.whenFault_hif, ← State.cmdRing, State.cmdRing_setCmdRing, State.hostWrite_cmdRing]

theorem State.cplEntry_apart (s : State) (r cid status result : Nat) (replay : Bool) :
    (s.cplEntry r cid status result replay).hif.apart = s.hif.apart := by
  unfold State.cplEntry
  dsimp only
  rw [State.whenFault_hif, State.setCmdRing_apart, State.hostWrite_apart]

theorem State.cplEntry_frame (s : State) (r cid status result : Nat) (replay : Bool) :
    Frame (R.PUR_KIB_CNT :: errFlds status) s (s.cplEntry r cid status result replay) := by
  unfold State.cplEntry State.when
  extract_lets lg i base
  have hentry := ((s.hostWrite_frame (base + 16 * (i % 2 ^ lg)) (cplBytes cid status (passBit i lg) result replay)).mono
    (List.cons_subset_cons _ (List.nil_subset (errFlds status)))).setCmdRing r (fun x => { x with written := x.written + 1 })
  split
  · next h =>
    have he : errFlds status = R.HIF_INTSTAT_CMDERR :: reportFlds := if_neg (by simpa using h)
    exact hentry.fault (by simp [he]) (by simp [he])
  · exact hentry

theorem State.cplEntry_sent (s : State) (r cid status result : Nat) (replay : Bool) :
    Sent (s.rd (R.HIF_CCBASELO_ADDR r) + 2 ^ 32 * s.rd (R.HIF_CCBASEHI_ADDR r)
        + 16 * ((s.cmdRing r).written % 2 ^ s.rd (R.HIF_CRCFG_LOG2 r)))
      (cplBytes cid status (passBit (s.cmdRing r).written (s.rd (R.HIF_CRCFG_LOG2 r))) result replay) s
      (s.cplEntry r cid status result replay) := by
  intro p hp
  unfold State.cplEntry
  dsimp only
  rw [State.whenFault_out, State.setCmdRing_out]
  exact State.hostWrite_sent s _ _ p hp

/-- A ring's completion entry: one more is written, and the ring's message is sent at most. -/
theorem State.writeCpl_cmdRing (s : State) (r cid status result : Nat) (replay : Bool) :
    ∃ armed, (s.writeCpl r cid status result replay).cmdRing r =
      { s.cmdRing r with written := (s.cmdRing r).written + 1, armed := armed } := by
  rw [State.writeCpl_eq]
  split
  · refine ⟨false, ?_⟩
    rw [State.cmdRing, State.msix_hif, ← State.cmdRing, State.cmdRing_setCmdRing, State.cplEntry_cmdRing]
  · exact ⟨_, State.cplEntry_cmdRing ..⟩

theorem State.writeCpl_apart (s : State) (r cid status result : Nat) (replay : Bool) :
    (s.writeCpl r cid status result replay).hif.apart = s.hif.apart := by
  rw [State.writeCpl_eq, ← s.cplEntry_apart r cid status result replay]
  split
  · rw [State.msix_hif, State.setCmdRing_apart]
  · rfl

theorem State.writeCpl_frame (s : State) (r cid status result : Nat) (replay : Bool) :
    Frame (R.PUR_KIB_CNT :: errFlds status) s (s.writeCpl r cid status result replay) := by
  rw [State.writeCpl_eq]
  split
  · exact ((s.cplEntry_frame r cid status result replay).setCmdRing r _).msix _
  · exact s.cplEntry_frame r cid status result replay

theorem State.cplEntry_out (s : State) (r cid status result : Nat) (replay : Bool) :
    (s.cplEntry r cid status result replay).out ⊆ (s.writeCpl r cid status result replay).out := by
  rw [State.writeCpl_eq]
  split
  · exact State.msix_out ((s.cplEntry r cid status result replay).setCmdRing r (fun x => { x with armed := false })) _
  · exact fun _ h => h

/-! ### The execution point of the one command of a ring -/

/-- The command is retained and its identity shown: what precedes its completion entry. -/
def State.execNoted (s : State) (r cid status result : Nat) : State :=
  (((s.setCmdRing r (fun x => { x with done := ((cid, status, result) :: x.done).take 64 })).wr (R.HIF_CRLASTLO_CID r)
    (cid % 2 ^ 32)).wr (R.HIF_CRLASTHI_CID r) (cid / 2 ^ 32)).bump R.HIF_CMDS_CNT 1

theorem State.execPoint_eq (s : State) (r cid status result : Nat) :
    s.execPoint r cid status result = ((s.execNoted r cid status result).writeCpl r cid status result false).popCmd r := rfl

theorem State.execNoted_cmdRing (s : State) (r cid status result : Nat) :
    (s.execNoted r cid status result).cmdRing r =
      { s.cmdRing r with done := ((cid, status, result) :: (s.cmdRing r).done).take 64 } :=
  s.cmdRing_setCmdRing r (fun x => { x with done := ((cid, status, result) :: x.done).take 64 })

/-- The ring that held one command is empty behind its execution point. -/
theorem State.popCmd_eq {s : State} {r : Nat} {e : BitVec 512} (h : (s.cmdRing r).fetched = [e]) :
    s.popCmd r =
      ((s.setCmdRing r (fun x => { x with fetched := x.fetched.drop 1 })).wr (R.HIF_CRSTAT_BUSY r) 0).wr (R.HIF_CRSTAT_OPCODE r) 0 := by
  have hnone : ((s.setCmdRing r (fun x => { x with fetched := x.fetched.drop 1 })).cmdRing r).fetched = [] := by
    rw [State.cmdRing_setCmdRing]
    simp [h]
  unfold State.popCmd State.showRing
  rw [hnone]

theorem State.popCmd_cmdRing {s : State} {r : Nat} {e : BitVec 512} (h : (s.cmdRing r).fetched = [e]) :
    (s.popCmd r).cmdRing r = { s.cmdRing r with fetched := [] } := by
  have hpop := s.cmdRing_setCmdRing r (fun x => { x with fetched := x.fetched.drop 1 })
  rw [State.popCmd_eq h]
  refine Eq.trans hpop ?_
  simp [h]

/-- A ring's own fields lie apart from each other and from what an answer writes elsewhere. -/
theorem State.popCmd_rd {s : State} {r : Nat} {e : BitVec 512} (h : (s.cmdRing r).fetched = [e]) (g : Fld)
    (hb : g.key ≠ (R.HIF_CRSTAT_BUSY r).key) (ho : g.key ≠ (R.HIF_CRSTAT_OPCODE r).key) : (s.popCmd r).rd g = s.rd g := by
  rw [State.popCmd_eq h, State.rd_wr_ne _ _ _ _ ho, State.rd_wr_ne _ _ _ _ hb, State.setCmdRing_rd]

theorem State.popCmd_frame {s : State} {r : Nat} {e : BitVec 512} (h : (s.cmdRing r).fetched = [e]) :
    Frame [R.HIF_CRSTAT_BUSY r, R.HIF_CRSTAT_OPCODE r] s (s.popCmd r) := by
  rw [State.popCmd_eq h]
  exact (((Frame.refl _ s).setCmdRing r _).wr (by simp)).wr (by simp)

/-- A command that is all its ring holds completes with its own entry alone. -/
theorem State.complete_eq {u : State} {r : Nat} {e : BitVec 512} (he : (u.cmdRing r).fetched = [e]) (status result : Nat) :
    u.complete r e status result =
        ((u.execNoted r (cmdCid e) status result).writeCpl r (cmdCid e) status result false).popCmd r
      ∧ (((u.execNoted r (cmdCid e) status result).writeCpl r (cmdCid e) status result false).cmdRing r).fetched = [e]
      ∧ ((u.complete r e status result).cmdRing r).fetched = []
      ∧ ((u.complete r e status result).cmdRing r).written = (u.cmdRing r).written + 1
      ∧ ((u.complete r e status result).cmdRing r).done = ((cmdCid e, status, result) :: (u.cmdRing r).done).take 64 := by
  obtain ⟨armed, hw⟩ := (u.execNoted r (cmdCid e) status result).writeCpl_cmdRing r (cmdCid e) status result false
  rw [State.execNoted_cmdRing] at hw
  have hfront : (((u.execNoted r (cmdCid e) status result).writeCpl r (cmdCid e) status result false).cmdRing r).fetched = [e] := by
    rw [hw, he]
  have hpop := State.popCmd_cmdRing hfront
  have heq : u.complete r e status result =
      ((u.execNoted r (cmdCid e) status result).writeCpl r (cmdCid e) status result false).popCmd r := by
    rw [State.complete, State.execPoint_eq, hpop]
    rfl
  refine ⟨heq, hfront, ?_⟩
  rw [heq, hpop, hw]
  exact ⟨rfl, rfl, rfl⟩

/-- What an answer reads of the host link: the ring, the size of a write and the registers of HIF. -/
structure SameRing (r : Nat) (s u : State) : Prop where
  ring : u.cmdRing r = s.cmdRing r
  mps : u.hif.mps = s.hif.mps
  rd : ∀ f : Fld, blk f.key = 18 → u.rd f = s.rd f

theorem SameRing.refl (r : Nat) (s : State) : SameRing r s s := ⟨rfl, rfl, fun _ _ => rfl⟩

/-- An operation that touches neither the host link's record nor its registers. -/
theorem SameRing.app {m r : Nat} {s u t : State} (h : SameRing r s u) (ho : Only m u t) (hm : m.testBit 18 = false)
    (hh : m.testBit 48 = false) : SameRing r s t := by
  have hhif : t.hif = u.hif := ho.hif.resolve_left (by simp [hh])
  exact ⟨by rw [State.cmdRing, hhif]; exact h.ring, by rw [hhif, h.mps], fun f hf => (ho.rd f (by rw [hf, hm])).trans (h.rd f hf)⟩

/-- What an answer notes before its completion entry, field by field. -/
theorem State.execNoted_rd (s : State) (r cid status result : Nat) (g : Fld) (hc : g.key ≠ R.HIF_CMDS_CNT.key)
    (hl : g.key ≠ (R.HIF_CRLASTLO_CID r).key) (hh : g.key ≠ (R.HIF_CRLASTHI_CID r).key) :
    (s.execNoted r cid status result).rd g = s.rd g := by
  rw [State.execNoted, State.rd_bump, if_neg hc, State.rd_wr_ne _ _ _ _ hh, State.rd_wr_ne _ _ _ _ hl, State.setCmdRing_rd]

theorem State.execNoted_lastCid (s : State) (r cid status result : Nat) (h : cid < 2 ^ 64) :
    (s.execNoted r cid status result).lastCid r = cid := by
  have hlo : (s.execNoted r cid status result).rd (R.HIF_CRLASTLO_CID r) = cid % 2 ^ 32 := by
    rw [State.execNoted, State.rd_bump, if_neg (by simp only [R.HIF_CRLASTLO_CID, R.HIF_CMDS_CNT]; omega),
      State.rd_wr_ne _ _ _ _ (by simp only [R.HIF_CRLASTLO_CID, R.HIF_CRLASTHI_CID]; omega), State.rd_wr_same]
    exact Nat.mod_mod ..
  have hhi : (s.execNoted r cid status result).rd (R.HIF_CRLASTHI_CID r) = cid / 2 ^ 32 := by
    rw [State.execNoted, State.rd_bump, if_neg (by simp only [R.HIF_CRLASTHI_CID, R.HIF_CMDS_CNT]; omega), State.rd_wr_same]
    show cid / 2 ^ 32 % 2 ^ 32 = cid / 2 ^ 32
    omega
  rw [State.lastCid, hlo, hhi]
  omega

theorem State.execNoted_count (s : State) (r cid status result : Nat) :
    (s.execNoted r cid status result).rd R.HIF_CMDS_CNT = min (s.rd R.HIF_CMDS_CNT + 1) 0xFFFFFFFF := by
  rw [State.execNoted, State.rd_bump, if_pos rfl, State.rd_wr_ne _ _ _ _ (by simp only [R.HIF_CRLASTHI_CID, R.HIF_CMDS_CNT]; omega),
    State.rd_wr_ne _ _ _ _ (by simp only [R.HIF_CRLASTLO_CID, R.HIF_CMDS_CNT]; omega), State.setCmdRing_rd]
  show min (s.rd R.HIF_CMDS_CNT + 1) (2 ^ 32 - 1) % 2 ^ 32 = _
  omega

theorem State.settle_out (s : State) : s.out ⊆ s.settle.out := by
  unfold State.settle
  split
  · exact State.msix_out ..
  · exact fun _ h => h

@[simp] theorem State.settle_hif (s : State) : s.settle.hif = s.hif := (State.settle_only s).hif.resolve_left (by decide)

theorem State.settle_cmdRing (s : State) (r : Nat) : s.settle.cmdRing r = s.cmdRing r := by
  rw [State.cmdRing, State.settle_hif, State.cmdRing]

theorem errFlds_subset (status : Nat) : errFlds status ⊆ R.HIF_INTSTAT_CMDERR :: reportFlds := by
  unfold errFlds
  split
  · exact List.nil_subset _
  · exact List.Subset.refl _

/-- The fields that the completion entry and the front of the ring write. -/
def frontFlds (r : Nat) : List Fld :=
  [R.HIF_CRSTAT_BUSY r, R.HIF_CRSTAT_OPCODE r, R.PUR_KIB_CNT, R.HIF_INTSTAT_CMDERR] ++ reportFlds

theorem lastLo_apart (r : Nat) :
    (∀ f ∈ frontFlds r, (R.HIF_CRLASTLO_CID r).key ≠ f.key) ∧ OffSummary (R.HIF_CRLASTLO_CID r).key := by
  simp only [frontFlds, reportFlds, List.cons_append, List.nil_append, List.forall_mem_cons, List.not_mem_nil, R.HIF_CRLASTLO_CID,
    R.HIF_CRSTAT_BUSY, R.HIF_CRSTAT_OPCODE, R.PUR_KIB_CNT, R.HIF_INTSTAT_CMDERR, R.FLT_OVERFLOW_CNT, R.FLT_INTSTAT_OVERFLOW,
    OffSummary, R.GLB_INTCTL_ARMED, false_implies, implies_true, and_true]
  omega

theorem lastHi_apart (r : Nat) :
    (∀ f ∈ frontFlds r, (R.HIF_CRLASTHI_CID r).key ≠ f.key) ∧ OffSummary (R.HIF_CRLASTHI_CID r).key := by
  simp only [frontFlds, reportFlds, List.cons_append, List.nil_append, List.forall_mem_cons, List.not_mem_nil, R.HIF_CRLASTHI_CID,
    R.HIF_CRSTAT_BUSY, R.HIF_CRSTAT_OPCODE, R.PUR_KIB_CNT, R.HIF_INTSTAT_CMDERR, R.FLT_OVERFLOW_CNT, R.FLT_INTSTAT_OVERFLOW,
    OffSummary, R.GLB_INTCTL_ARMED, false_implies, implies_true, and_true]
  omega

theorem cmds_apart (r : Nat) : (∀ f ∈ frontFlds r, R.HIF_CMDS_CNT.key ≠ f.key) ∧ OffSummary R.HIF_CMDS_CNT.key := by
  simp only [frontFlds, reportFlds, List.cons_append, List.nil_append, List.forall_mem_cons, List.not_mem_nil, R.HIF_CMDS_CNT,
    R.HIF_CRSTAT_BUSY, R.HIF_CRSTAT_OPCODE, R.PUR_KIB_CNT, R.HIF_INTSTAT_CMDERR, R.FLT_OVERFLOW_CNT, R.FLT_INTSTAT_OVERFLOW,
    OffSummary, R.GLB_INTCTL_ARMED, false_implies, implies_true, and_true]
  omega

theorem busy_apart (r : Nat) :
    (R.HIF_CRSTAT_BUSY r).key ≠ (R.HIF_CRSTAT_OPCODE r).key ∧ OffSummary (R.HIF_CRSTAT_BUSY r).key := by
  simp only [R.HIF_CRSTAT_BUSY, R.HIF_CRSTAT_OPCODE, OffSummary, R.GLB_INTCTL_ARMED]
  omega

/-- The registers that say where a ring's completions go are none of those that an answer writes first. -/
theorem ringBase_apart (r : Nat) :
    (∀ f ∈ [R.HIF_CMDS_CNT, R.HIF_CRLASTLO_CID r, R.HIF_CRLASTHI_CID r], (R.HIF_CCBASELO_ADDR r).key ≠ f.key)
      ∧ (∀ f ∈ [R.HIF_CMDS_CNT, R.HIF_CRLASTLO_CID r, R.HIF_CRLASTHI_CID r], (R.HIF_CCBASEHI_ADDR r).key ≠ f.key)
      ∧ (∀ f ∈ [R.HIF_CMDS_CNT, R.HIF_CRLASTLO_CID r, R.HIF_CRLASTHI_CID r], (R.HIF_CRCFG_LOG2 r).key ≠ f.key) := by
  simp only [List.forall_mem_cons, List.not_mem_nil, R.HIF_CMDS_CNT, R.HIF_CRLASTLO_CID, R.HIF_CRLASTHI_CID, R.HIF_CCBASELO_ADDR,
    R.HIF_CCBASEHI_ADDR, R.HIF_CRCFG_LOG2, false_implies, implies_true, and_true]
  omega

theorem blk_HIF_CCBASELO_ADDR (r : Nat) : blk (R.HIF_CCBASELO_ADDR r).key = 18 := by
  refine blk_of 18 (by decide) _ ?_ ?_ ?_ <;> simp only [R.HIF_CCBASELO_ADDR] <;> omega

theorem blk_HIF_CCBASEHI_ADDR (r : Nat) : blk (R.HIF_CCBASEHI_ADDR r).key = 18 := by
  refine blk_of 18 (by decide) _ ?_ ?_ ?_ <;> simp only [R.HIF_CCBASEHI_ADDR] <;> omega

theorem blk_HIF_CRCFG_LOG2 (r : Nat) : blk (R.HIF_CRCFG_LOG2 r).key = 18 := by
  refine blk_of 18 (by decide) _ ?_ ?_ ?_ <;> simp only [R.HIF_CRCFG_LOG2] <;> omega

/-- Behind the completion entry a field other than those of the entry and of the ring's front is as noted. -/
theorem State.complete_settle_rd {u : State} {r : Nat} {e : BitVec 512} (he : (u.cmdRing r).fetched = [e]) (status result : Nat)
    (g : Fld) (hg : ∀ f ∈ frontFlds r, g.key ≠ f.key) (hs : OffSummary g.key) :
    (u.complete r e status result).settle.rd g = (u.execNoted r (cmdCid e) status result).rd g := by
  obtain ⟨heq, hfront, -⟩ := State.complete_eq he status result
  have hsub : R.PUR_KIB_CNT :: errFlds status ⊆ frontFlds r :=
    List.Subset.trans (List.cons_subset_cons _ (errFlds_subset status)) (by simp [frontFlds])
  rw [State.settle_rd _ _ hs.1 hs.2, heq]
  exact (((State.writeCpl_frame ..).mono hsub).trans ((State.popCmd_frame hfront).mono (by simp [frontFlds]))).rd g hg hs

theorem cmdCid_lt (e : BitVec 512) : cmdCid e < 2 ^ 64 := Nat.mod_lt _ (by decide)

/-- The answer of the one command of a ring, in the state behind it. -/
theorem State.complete_answers {s u : State} {r : Nat} {e : BitVec 512} (hs : SameRing r s u)
    (he : (s.cmdRing r).fetched = [e]) (status result : Nat) :
    Answered r e status result s (u.complete r e status result).settle := by
  have hu : (u.cmdRing r).fetched = [e] := by rw [hs.ring, he]
  obtain ⟨heq, hfront, hfetched, hwritten, hdone⟩ := State.complete_eq hu status result
  have hrd := State.complete_settle_rd hu status result
  refine ⟨?_, ?_, ?_, ?_, ?_, ?_, ?_⟩
  · rw [State.settle_cmdRing, hdone]
    rfl
  · obtain ⟨hlo, hloff⟩ := lastLo_apart r
    obtain ⟨hhi, hhoff⟩ := lastHi_apart r
    rw [State.lastCid, hrd _ hlo hloff, hrd _ hhi hhoff]
    exact State.execNoted_lastCid _ _ _ _ _ (cmdCid_lt e)
  · rw [State.settle_cmdRing, hfetched]
  · rw [State.settle_cmdRing, hwritten, hs.ring]
  · obtain ⟨hbusy, hoff⟩ := busy_apart r
    rw [State.settle_rd _ _ hoff.1 hoff.2, heq, State.popCmd_eq hfront, State.rd_wr_ne _ _ _ _ hbusy, State.rd_wr_same,
      Nat.zero_mod]
  · obtain ⟨hcmds, hoff⟩ := cmds_apart r
    rw [hrd _ hcmds hoff, State.execNoted_count, hs.rd _ (by decide)]
  · have hsent := (u.execNoted r (cmdCid e) status result).cplEntry_sent r (cmdCid e) status result false
    have hmps : (u.execNoted r (cmdCid e) status result).maxPayload = s.maxPayload :=
      congrArg (fun m : BitVec 3 => 128 * 2 ^ min m.toNat 2) hs.mps
    obtain ⟨hlo, hhi, hlg⟩ := ringBase_apart r
    have hring (g : Fld) (hg : ∀ f ∈ [R.HIF_CMDS_CNT, R.HIF_CRLASTLO_CID r, R.HIF_CRLASTHI_CID r], g.key ≠ f.key)
        (hb : blk g.key = 18) : (u.execNoted r (cmdCid e) status result).rd g = s.rd g :=
      (State.execNoted_rd _ _ _ _ _ _ (hg _ (by simp)) (hg _ (by simp)) (hg _ (by simp))).trans (hs.rd g hb)
    rw [State.execNoted_cmdRing, hring _ hlo (blk_HIF_CCBASELO_ADDR r), hring _ hhi (blk_HIF_CCBASEHI_ADDR r),
      hring _ hlg (blk_HIF_CRCFG_LOG2 r), hs.ring] at hsent
    intro p hp
    refine State.settle_out _ ?_
    rw [heq, State.popCmd_eq hfront]
    exact State.cplEntry_out _ _ _ _ _ _ (hsent p (by rwa [hmps]))

/-- An answer writes the ring's fields, and the error's where the status is one. -/
theorem State.complete_frame {u : State} {r : Nat} {e : BitVec 512} (he : (u.cmdRing r).fetched = [e]) (status result : Nat) :
    Frame (errFlds status ++ cplFlds r) u (u.complete r e status result).settle := by
  obtain ⟨heq, hfront, -⟩ := State.complete_eq he status result
  have hnoted : Frame (errFlds status ++ cplFlds r) u (u.execNoted r (cmdCid e) status result) :=
    ((((Frame.refl _ u).setCmdRing r _).wr (by simp [cplFlds])).wr (by simp [cplFlds])).bump (by simp [cplFlds])
  refine Frame.settle ?_
  rw [heq]
  refine (hnoted.trans ((State.writeCpl_frame ..).mono ?_)).trans ((State.popCmd_frame hfront).mono (by simp [cplFlds]))
  simp [cplFlds]

/-- Of the host link's record an answer changes the rings and the count of bytes alone. -/
theorem State.complete_apart {u : State} {r : Nat} {e : BitVec 512} (he : (u.cmdRing r).fetched = [e]) (status result : Nat) :
    (u.complete r e status result).settle.hif.apart = u.hif.apart := by
  obtain ⟨heq, hfront, -⟩ := State.complete_eq he status result
  rw [State.settle_hif, heq, State.popCmd_eq hfront, State.wr_hif, State.wr_hif, State.setCmdRing_apart, State.writeCpl_apart,
    State.execNoted, State.bump, State.wr_hif, State.wr_hif, State.wr_hif, State.setCmdRing_apart]

end Sys2Proof.Machine
end

section
/-!
Epoch commits, staged tables and program sets (R22, R112, R210, R227, R380, R381, R402, R435): each command's branches, what each
stages, and its answer (O40).
-/
namespace Sys2Proof.Machine

/-! ### What a change within a mask keeps of the memories and of the registers -/

section
variable {m : Nat} {s u t : State}

theorem Only.keepsFlash (h : Only m s t) (h53 : m.testBit 53 = false) : KeepsFlash s t := fun a => by
  rw [State.flashByte, State.flashByte, h.flash.resolve_left (by simp [h53])]

theorem Only.keepsMemory (h : Only m s t) (h52 : m.testBit 52 = false) (h53 : m.testBit 53 = false) : KeepsMemory s t :=
  ⟨fun a => by rw [State.hbmByte, State.hbmByte, h.hbm.resolve_left (by simp [h52])], h.keepsFlash h53⟩

end

/-- What an answer may change, the summary message behind it included. -/
theorem State.complete_settle_only (u : State) (r : Nat) (e : BitVec 512) (status result : Nat) :
    Only 0x490000038c0000 u (u.complete r e status result).settle :=
  ((Only.refl _ u).app (State.complete_only ..) (by decide)).app (State.settle_only _) (by decide)

@[simp] theorem State.complete_settle_peg (u : State) (r : Nat) (e : BitVec 512) (status result : Nat) :
    (u.complete r e status result).settle.peg = u.peg := (State.complete_settle_only ..).peg.resolve_left (by decide)

@[simp] theorem State.complete_settle_jst (u : State) (r : Nat) (e : BitVec 512) (status result : Nat) :
    (u.complete r e status result).settle.jst = u.jst := (State.complete_settle_only ..).jst.resolve_left (by decide)

theorem HifState.fields_of_apart {h k : HifState} (e : h.apart = k.apart) :
    h.staged = k.staged ∧ h.waitCommit = k.waitCommit ∧ h.accepted = k.accepted :=
  ⟨(congrArg HifState.staged e :), (congrArg HifState.waitCommit e :), (congrArg HifState.accepted e :)⟩

/-- Of the host link's record an answer keeps the staged tables and the epochs that wait or are accepted. -/
theorem State.complete_settle_hif {u : State} {r : Nat} {e : BitVec 512} (he : (u.cmdRing r).fetched = [e]) (status result : Nat) :
    (u.complete r e status result).settle.hif.staged = u.hif.staged
      ∧ (u.complete r e status result).settle.hif.waitCommit = u.hif.waitCommit
      ∧ (u.complete r e status result).settle.hif.accepted = u.hif.accepted :=
  HifState.fields_of_apart (State.complete_apart he status result)

/-- A change of the host link's record that leaves its rings and its size of a write alone. -/
theorem SameRing.of_only {m r : Nat} {s u : State} (h : Only m s u) (hm : m.testBit 18 = false) (hrings : u.hif.rings = s.hif.rings)
    (hmps : u.hif.mps = s.hif.mps) : SameRing r s u :=
  ⟨by rw [State.cmdRing, State.cmdRing, hrings], hmps, fun f hf => h.rd f (by rw [hf, hm])⟩

/-! ### EPOCH_COMMIT (R381) -/

theorem exec_epochCommit {s : State} {r : Fin 16} {e : BitVec 512} (hf : s.frontCmd r.val 5 = some e) (hc : cmdClean e 32 = true)
    (hp : cmdParam e = 0) (hz : cmdField e 17 7 = 0) : exec (.epochCommit r) s = (s.commitEpoch r.val e).done := by
  show execEpochCommit r s = _
  simp [execEpochCommit, hf, hc, hp, hz]

theorem State.commitEpoch_of_wrong {s : State} {e : BitVec 512} (r : Nat) (h : cmdField e 16 1 ≠ (s.peg.active + 1) % 256) :
    s.commitEpoch r e = s.complete r e stState (cmdField e 16 1) := by
  simp [State.commitEpoch, h]

section
variable {s : State} {e : BitVec 512} (hn : cmdField e 16 1 = (s.peg.active + 1) % 256) (hw : s.hif.waitCommit = none)
  (ha : s.hif.accepted = none)
include hn hw ha

theorem State.commitEpoch_of_held (r : Nat) (ho : s.olderHeld = true) :
    s.commitEpoch r e = s.onHif (fun h =>
      { h with waitCommit := some { ring := r, cid := cmdCid e, epoch := cmdField e 16 1, time := cmdField e 24 8 } }) := by
  simp [State.commitEpoch, hn, hw, ha, ho]

theorem State.commitEpoch_of_next (r : Nat) (ho : s.olderHeld = false) :
    s.commitEpoch r e = (s.epochPoint (cmdField e 16 1) (cmdField e 24 8)).1.complete r e
      (s.epochPoint (cmdField e 16 1) (cmdField e 24 8)).2.1 (s.epochPoint (cmdField e 16 1) (cmdField e 24 8)).2.2 := by
  simp [State.commitEpoch, hn, hw, ha, ho]

end

theorem State.epochPoint_of_soon {s : State} {n time : Nat} (h : time < 1000000 + s.clk.devTime.toNat) :
    s.epochPoint n time = (s.onHif (fun h => { h with waitCommit := none }), stTooSoon, n) := by
  rw [State.epochPoint, if_pos h]

theorem State.epochPoint_of_good {s : State} {n time : Nat} (h : 1000000 + s.clk.devTime.toNat ≤ time)
    (hcode : s.stagingCode s.nextCfg (budgetsTaken s) = 0) :
    s.epochPoint n time =
      ((s.onHif (fun h => { h with waitCommit := none })).acceptEpoch n time s.nextCfg (budgetsTaken s), stOk, n) := by
  rw [State.epochPoint, if_neg (Nat.not_lt.mpr h)]
  exact if_pos hcode

/-- The epoch staged in every block, before Batten sends it. -/
def State.epochStaged (s : State) (n time : Nat) (c : EpochCfg) (copy : List (Bool × Nat)) : State :=
  let s1 := s.onPeg (fun p => { p with epochs := mapIns (mapErase (p.epochs.filter (fun x => x.1 == p.active)) n) n c })
  let s2 := s1.onTrs (fun t => { t with budCopy := (t.budCopy.filter (fun x => x.1 == s.peg.active)) ++ [(n, copy)] })
  let sets := match s.jst.staged with | some p => s.jst.sets.filter (fun x => x.num != p.num) ++ [p] | none => s.jst.sets
  let s3 : State := { s2 with jst := { s2.jst with sets := sets, staged := none } }
  let s4 := s3.onHif (fun h => { h with staged := h.staged.filter (fun p => p.1 == 4 || p.1 == 5), waitCommit := none
                                        accepted := some (n, time) })
  (((s4.wr R.BTN_EPOCH_STAGED n).wr R.BTN_EPOCH_STGVALID 1).wr R.BTN_EPOCH_STGBAD 0).wr R.JST_STATUS_STGVALID 0

theorem State.acceptEpoch_eq (s : State) (n time : Nat) (c : EpochCfg) (copy : List (Bool × Nat)) :
    s.acceptEpoch n time c copy = (s.epochStaged n time c copy).sendEpoch n time := rfl

/-- What is inserted is found. -/
theorem mem_mapIns_self {α : Type} (m : List (Nat × α)) (k : Nat) (v : α) : (k, v) ∈ mapIns m k v := by
  induction m with
  | nil => exact List.mem_singleton_self _
  | cons p rest ih =>
    unfold mapIns
    split
    · exact List.mem_cons_self
    · exact List.mem_cons_of_mem _ ih

/-- An accepted epoch: retained beside the active one, accepted for its time, its program set no longer staged (R22, R381). -/
theorem State.acceptEpoch_stages (s : State) (n time : Nat) (c : EpochCfg) (copy : List (Bool × Nat)) :
    (n, c) ∈ (s.acceptEpoch n time c copy).peg.epochs ∧ (s.acceptEpoch n time c copy).peg.active = s.peg.active
      ∧ (s.acceptEpoch n time c copy).jst.staged = none := by
  have ho := State.sendEpoch_only (s.epochStaged n time c copy) n time
  rw [State.acceptEpoch_eq, ho.peg.resolve_left (by decide), ho.jst.resolve_left (by decide)]
  exact ⟨mem_mapIns_self .., rfl, rfl⟩

theorem State.acceptEpoch_hif (s : State) (n time : Nat) (c : EpochCfg) (copy : List (Bool × Nat)) :
    (s.acceptEpoch n time c copy).hif =
      { s.hif with staged := s.hif.staged.filter (fun p => p.1 == 4 || p.1 == 5), waitCommit := none, accepted := some (n, time) } := by
  rw [State.acceptEpoch_eq, (State.sendEpoch_only ..).hif.resolve_left (by decide)]
  rfl

theorem State.acceptEpoch_shows (s : State) {n : Nat} (hn : n < 256) (time : Nat) (c : EpochCfg) (copy : List (Bool × Nat)) :
    (s.acceptEpoch n time c copy).rd R.BTN_EPOCH_STAGED = n ∧ (s.acceptEpoch n time c copy).rd R.BTN_EPOCH_STGVALID = 1 := by
  have ho := State.sendEpoch_only (s.epochStaged n time c copy) n time
  rw [State.acceptEpoch_eq, ho.rd _ (by decide), ho.rd _ (by decide), State.epochStaged]
  simp only [State.rd_wr]
  exact ⟨Nat.mod_eq_of_lt hn, rfl⟩

/-- The execution point of a good commit, with all that its answer and its statement read. -/
theorem State.epochPoint_accepts {s : State} {n time : Nat} (hn : n < 256) (h : 1000000 + s.clk.devTime.toNat ≤ time)
    (hcode : s.stagingCode s.nextCfg (budgetsTaken s) = 0) {r : Nat} {e : BitVec 512} (he : (s.cmdRing r).fetched = [e]) :
    (s.epochPoint n time).2 = (stOk, n) ∧ ((s.epochPoint n time).1.cmdRing r).fetched = [e]
      ∧ let t := ((s.epochPoint n time).1.complete r e stOk n).settle
        t.hif.waitCommit = none ∧ t.hif.accepted = some (n, time) ∧ (n, s.nextCfg) ∈ t.peg.epochs ∧ t.peg.active = s.peg.active
          ∧ t.jst.staged = none ∧ t.rd R.BTN_EPOCH_STAGED = n ∧ t.rd R.BTN_EPOCH_STGVALID = 1 ∧ Answered r e stOk n s t
          ∧ KeepsMemory s t := by
  have hpoint := State.epochPoint_of_good (n := n) h hcode
  have honly := State.epochPoint_only s n time
  rw [hpoint] at honly ⊢
  set u := (s.onHif (fun h => { h with waitCommit := none })).acceptEpoch n time s.nextCfg (budgetsTaken s) with hu
  have hhif := State.acceptEpoch_hif (s.onHif (fun h => { h with waitCommit := none })) n time s.nextCfg (budgetsTaken s)
  rw [← hu] at hhif
  have hring : SameRing r s u := .of_only honly (by decide) (by rw [hhif]; rfl) (by rw [hhif]; rfl)
  have hue : (u.cmdRing r).fetched = [e] := by rw [hring.ring, he]
  obtain ⟨hmem, hact, hstaged⟩ := State.acceptEpoch_stages (s.onHif (fun h => { h with waitCommit := none })) n time s.nextCfg
    (budgetsTaken s)
  obtain ⟨hnum, hvalid⟩ := State.acceptEpoch_shows (s.onHif (fun h => { h with waitCommit := none })) hn time s.nextCfg
    (budgetsTaken s)
  obtain ⟨-, hwait, hacc⟩ := State.complete_settle_hif hue stOk n
  have hthen := State.complete_settle_only u r e stOk n
  refine ⟨rfl, hue, ?_, ?_, ?_, ?_, ?_, ?_, ?_, State.complete_answers hring he stOk n, ?_⟩
  · rw [hwait, hhif]
  · rw [hacc, hhif]
  · rwa [State.complete_settle_peg]
  · rw [State.complete_settle_peg, hact, State.onHif_peg]
  · rw [State.complete_settle_jst, hstaged]
  · rw [hthen.rd _ (by decide), hnum]
  · rw [hthen.rd _ (by decide), hvalid]
  · exact ((Only.mono (by decide) honly).trans (Only.mono (by decide) hthen) : Only 0xcb10b0039c18a0 s _).keepsMemory
      (by decide) (by decide)

/-! ### EPOCH_COMMIT_EXECUTION and EPOCH_EFFECTIVE -/

theorem State.completeHeld_eq {s : State} {r : Nat} {e : BitVec 512} (he : (s.cmdRing r).fetched = [e]) (status result : Nat) :
    s.completeHeld r status result = s.complete r e status result := by
  rw [State.completeHeld, he]

theorem exec_epochCommitExecution {s : State} {w : EpochWait} (hw : s.hif.waitCommit = some w) (hr : s.ringRuns w.ring = true)
    (ho : s.olderHeld = false) :
    exec .epochCommitExecution s = ((s.epochPoint w.epoch w.time).1.completeHeld w.ring (s.epochPoint w.epoch w.time).2.1
      (s.epochPoint w.epoch w.time).2.2).done := by
  show execEpochCommitExecution s = _
  simp [execEpochCommitExecution, hw, hr, ho]

theorem exec_epochEffective {s : State} {n u : Nat} (h : s.hif.accepted = some (n, u)) :
    exec .epochEffective s = (s.epochStarts n u).settleJnl.done := by
  show execEpochEffective s = _
  rw [execEpochEffective, h]

/-- Before HOST_LINK nothing is committed (R241): only the mark of what is held follows. -/
theorem State.settleJnl_of_unlinked {s : State} (h : s.boot.linked = false) : s.settleJnl = s.heldStatus := by
  have hdue : s.nextDue = none := by simp [State.nextDue, h]
  have hdrain (n : Nat) : s.drainJnl n = (s, []) := by
    cases n with
    | zero => rfl
    | succ n => rw [State.drainJnl, hdue]
  unfold State.settleJnl State.drain
  rw [hdrain]
  rfl

/-- The epoch number and the set's registers follow, without the swaps and the marker of the new epoch. -/
def State.epochShown (s : State) (n : Nat) : State :=
  (((((s.onPeg (fun p => { p with active := n })).onHif (fun h => { h with accepted := none })).wr R.BTN_EPOCH_ACTIVE n).wr
    R.BTN_EPOCH_STGVALID 0)).setInfo

/-- The fields that the start of an epoch writes. -/
def epochFlds : List Fld :=
  [R.BTN_EPOCH_ACTIVE, R.BTN_EPOCH_STGVALID, R.JST_STATUS_ACTEPOCH, R.JST_SETINFO_BMAX, R.JST_SETINFO_SLOTS, R.JNL_STATUS_HELD]

theorem State.epochShown_frame (s : State) (n : Nat) : Frame epochFlds s (s.epochShown n) :=
  (((((((Frame.refl _ s).trans (Frame.of_only (State.onPeg_only ..) (by decide) (by decide) (by decide))).onHif _).wr (by decide)).wr
    (by decide)).wr (by decide)).wr (by decide)).wr (by decide)

theorem State.epochShown_rd (s : State) {n : Nat} (hn : n < 256) :
    (s.epochShown n).rd R.BTN_EPOCH_ACTIVE = n ∧ (s.epochShown n).rd R.BTN_EPOCH_STGVALID = 0
      ∧ (s.epochShown n).rd R.JST_STATUS_ACTEPOCH = n := by
  simp only [State.epochShown, State.setInfo, State.rd_wr]
  exact ⟨Nat.mod_eq_of_lt hn, rfl, Nat.mod_eq_of_lt hn⟩

/-- The accepted epoch becomes active, and its marker waits behind all others with the epoch's own time (R22, R227). -/
theorem State.epochStarts_eq (s : State) (n time : Nat) :
    ∃ b payload, s.epochStarts n time =
      ((s.epochShown n).swapsAt .epoch b).raiseMarker b (BitVec.ofNat 64 time) 5 payload 0 := ⟨_, _, rfl⟩

theorem epochEffective_completes {s : State} {n u : Nat} (h : s.hif.accepted = some (n, u)) (hn : n < 256)
    (hl : s.boot.linked = false) :
    Completes .epochEffective s (fun t =>
      t.peg.active = n ∧ t.hif.accepted = none ∧ t.rd R.BTN_EPOCH_ACTIVE = n ∧ t.rd R.BTN_EPOCH_STGVALID = 0
        ∧ t.rd R.JST_STATUS_ACTEPOCH = n ∧ (t.jnl.markers.getLast?.map (fun m => (m.kind, m.time))) = some (5, BitVec.ofNat 64 u)
        ∧ Frame epochFlds s t) := by
  obtain ⟨b, payload, heq⟩ := s.epochStarts_eq n u
  have hsettle : (s.epochStarts n u).settleJnl = (s.epochStarts n u).heldStatus :=
    State.settleJnl_of_unlinked (((State.epochStarts_only s n u).boot.resolve_left (by decide)) ▸ hl)
  obtain ⟨hactive, hvalid, hepoch⟩ := s.epochShown_rd hn
  have honly : Only 0x50000000200 (s.epochShown n) (s.epochStarts n u).heldStatus := by
    rw [heq]
    exact (((Only.refl _ _).app (State.swapsAt_only ..) (by decide)).app (State.raiseMarker_only ..) (by decide)).app
      (State.heldStatus_only _) (by decide)
  have hthen := (Only.mono (n := 0x40050003000200) (by decide) honly).app (State.settle_only _) (by decide)
  refine completes_of_done ((exec_epochEffective h).trans (congrArg State.done hsettle)) ⟨?_, ?_, ?_, ?_, ?_, ?_, ?_⟩
  · rw [hthen.peg.resolve_left (by decide)]
    rfl
  · rw [hthen.hif.resolve_left (by decide)]
    rfl
  · rw [hthen.rd _ (by decide), hactive]
  · rw [hthen.rd _ (by decide), hvalid]
  · rw [hthen.rd _ (by decide), hepoch]
  · rw [(State.settle_only _).jnl.resolve_left (by decide), heq]
    show (((s.epochShown n).jnl.markers ++ [_]).getLast?.map _) = _
    rw [List.getLast?_concat]
    rfl
  · have hstarts : Frame epochFlds s (s.epochStarts n u) := by
      rw [heq]
      exact (s.epochShown_frame n).trans (Frame.of_only (((Only.refl 0x50000000000 _).app (State.swapsAt_only ..) (by decide)).app
        (State.raiseMarker_only ..) (by decide)) (by decide) (by decide) (by decide))
    exact (hstarts.wr (by decide)).settle

/-! ### TABLE_LOAD (R380, R402) -/

/-- A command whose entry is clean answers its effect. -/
theorem State.command_of_clean {s : State} {r op used : Nat} {e : BitVec 512} (hf : s.frontCmd r op = some e)
    (hc : cmdClean e used = true) (eff : BitVec 512 → State × Nat × Nat) :
    s.command r op used true eff = (eff e).1.complete r e (eff e).2.1 (eff e).2.2 := by
  unfold State.command
  split
  · next hnone => simp [hf] at hnone
  · next e' he' =>
    obtain rfl : e = e' := Option.some.inj (hf.symm.trans he')
    exact if_pos (by rw [hc]; rfl)

theorem exec_tableLoad {s : State} {r : Fin 16} {e : BitVec 512} (hf : s.frontCmd r.val 6 = some e) (hc : cmdClean e 28 = true)
    (d : Option (List Byte)) {u : State} {status result : Nat}
    (hl : s.loadTable (cmdParam e) (cmdField e 16 8) (cmdField e 24 4) d = (u, status, result)) :
    exec (.tableLoad r d) s = (u.complete r.val e status result).done := by
  show execTableLoad r d s = _
  rw [execTableLoad, State.command_of_clean hf hc, hl]

theorem State.loadTable_of_unread {s : State} {kind addr len : Nat} (hk : tableLenOk kind len = true) (ha : addr % 64 = 0) :
    s.loadTable kind addr len none = (s, stDmaErr, noRes) := by
  simp [State.loadTable, hk, ha]

/-- Areas repeat after 64 (R380). -/
theorem State.areaAddr_mod (s : State) (i : Nat) : s.areaAddr (i % 64) = s.areaAddr i := by
  simp [State.areaAddr]

/-- Krovent chooses one of the 64 areas. -/
theorem State.chooseArea_is_area (s : State) : ∃ i : Fin 64, s.chooseArea = s.areaAddr i.val := by
  have harea : ∃ n, s.chooseArea = s.areaAddr n := by
    unfold State.chooseArea
    dsimp only
    split
    · next a ha =>
      obtain ⟨i, -, hi⟩ := List.mem_map.mp (List.mem_of_find?_eq_some ha)
      exact ⟨_, hi.symm⟩
    · exact ⟨_, rfl⟩
  obtain ⟨n, hn⟩ := harea
  exact ⟨⟨n % 64, Nat.mod_lt _ (by decide)⟩, hn.trans (s.areaAddr_mod n).symm⟩

theorem State.stageTable_area (s : State) (kind : Nat) (bytes : List Byte) :
    ∃ i : Fin 64, (s.stageTable kind bytes).2 = s.areaAddr i.val :=
  State.chooseArea_is_area (s.onHif (fun h => { h with staged := mapErase h.staged kind }))

theorem State.stageTable_staged (s : State) (kind : Nat) (bytes : List Byte) :
    mapGet 0 (s.stageTable kind bytes).1.hif.staged kind = (s.stageTable kind bytes).2 :=
  mapGet_ins_same 0 _ kind _ (mapErase_mem_ne s.hif.staged kind)

theorem State.stageTable_hbm (s : State) (kind : Nat) (bytes : List Byte) :
    (s.stageTable kind bytes).1.hbm = storeBytes 0 s.hbm (s.stageTable kind bytes).2 bytes := rfl

/-- Bytes stored above an address leave the one at it alone. -/
theorem mapGet_storeBytes_below (d : Byte) (m : List (Nat × Byte)) (a k : Nat) (bs : List Byte) (h : k < a) :
    mapGet d (storeBytes d m a bs) k = mapGet d m k := by
  induction bs generalizing m a with
  | nil => rfl
  | cons b rest ih =>
    rw [storeBytes, ih _ _ (Nat.lt_succ_of_lt h), mapGet_set_ne _ _ _ _ _ _ (Nat.ne_of_lt h)]

/-- A byte that has been stored is read back. -/
theorem mapGet_storeBytes (d : Byte) (m : List (Nat × Byte)) (a j : Nat) (bs : List Byte) (h : j < bs.length) :
    mapGet d (storeBytes d m a bs) (a + j) = bs.getD j 0 := by
  induction bs generalizing m a j with
  | nil => exact absurd h (Nat.not_lt_zero j)
  | cons b rest ih =>
    cases j with
    | zero => simpa [storeBytes] using mapGet_storeBytes_below d (mapSet d m a b) (a + 1) a rest (Nat.lt_succ_self a)
    | succ j => simpa [storeBytes, Nat.add_right_comm a 1 j, Nat.add_assoc] using ih (mapSet d m a b) (a + 1) j (by simpa using h)

theorem fitBytes_length (n : Nat) (l : List Byte) : (fitBytes n l).length = n := by
  simp only [fitBytes, List.length_append, List.length_take, List.length_replicate]
  omega

/-- A new channel calibration table is handed to Plumb (R366, R380). -/
def State.tableTaken (s : State) (kind a : Nat) : State :=
  if kind = 5 then { s with plb := { s.plb with chanNew := some (a, s.nowLsb) } } else s

theorem State.tableTaken_only (s : State) (kind a : Nat) : Only 0x800000000000 s (s.tableTaken kind a) := by
  unfold State.tableTaken
  split
  · exact State.onPlb_only s (fun p => { p with chanNew := some (a, s.nowLsb) })
  · exact Only.refl _ s

/-- A table that fits its kind is copied to the area chosen, whose place is the result (R380). -/
theorem State.loadTable_of_good {s : State} {kind addr len a : Nat} (d : List Byte) (hk : tableLenOk kind len = true)
    (haddr : addr % 64 = 0) (ha : (s.stageTable kind (fitBytes len d)).2 = a) (hg : s.girtSpan girtPurlin63 a len true = none) :
    s.loadTable kind addr len (some d) = ((s.stageTable kind (fitBytes len d)).1.tableTaken kind a, stOk, a / 64) := by
  subst ha
  unfold State.loadTable
  rw [if_neg (by simp [hk, haddr])]
  dsimp only
  rw [hg]
  rfl

theorem tableLoad_completes {s : State} {r : Fin 16} {e : BitVec 512} (d : List Byte) (hf : AtFront r.val 6 e s)
    (hc : cmdClean e 28 = true) (hk : tableLenOk (cmdParam e) (cmdField e 24 4) = true) (haddr : cmdField e 16 8 % 64 = 0)
    (hg : ∀ i : Fin 64, s.girtSpan girtPurlin63 (s.areaAddr i.val) (cmdField e 24 4) true = none) :
    Completes (.tableLoad r (some d)) s (fun t =>
      (∃ i : Fin 64, mapGet 0 t.hif.staged (cmdParam e) = s.areaAddr i.val ∧ Answered r.val e stOk (s.areaAddr i.val / 64) s t
          ∧ ∀ j < cmdField e 24 4, t.hbmByte (s.areaAddr i.val + j) = (fitBytes (cmdField e 24 4) d).getD j 0)
        ∧ KeepsRegs (cplFlds r.val) s t ∧ KeepsFlash s t ∧ t.peg = s.peg) := by
  obtain ⟨hfront, hone⟩ := hf
  obtain ⟨i, harea⟩ := s.stageTable_area (cmdParam e) (fitBytes (cmdField e 24 4) d)
  have hload := State.loadTable_of_good d hk haddr harea (hg i)
  have hstage := State.stageTable_only s (cmdParam e) (fitBytes (cmdField e 24 4) d)
  have htake := State.tableTaken_only (s.stageTable (cmdParam e) (fitBytes (cmdField e 24 4) d)).1 (cmdParam e) (s.areaAddr i.val)
  have hstaged := s.stageTable_staged (cmdParam e) (fitBytes (cmdField e 24 4) d)
  have hhbm := s.stageTable_hbm (cmdParam e) (fitBytes (cmdField e 24 4) d)
  have hring : SameRing r.val s _ := (SameRing.of_only hstage (by decide) rfl rfl).app htake (by decide) (by decide)
  have hu := (congrArg CmdRing.fetched hring.ring).trans hone
  obtain ⟨hkept, -, -⟩ := State.complete_settle_hif hu stOk (s.areaAddr i.val / 64)
  have hthen := State.complete_settle_only ((s.stageTable (cmdParam e) (fitBytes (cmdField e 24 4) d)).1.tableTaken (cmdParam e)
    (s.areaAddr i.val)) r.val e stOk (s.areaAddr i.val / 64)
  have hbefore : Only 0x19800000000000 s _ := (hstage.mono (by decide)).app htake (by decide)
  refine completes_of_done (exec_tableLoad hfront hc (some d) hload)
    ⟨⟨i, ?_, State.complete_answers hring hone stOk _, fun j hj => ?_⟩, ?_, ?_, ?_⟩
  · rw [hkept, htake.hif.resolve_left (by decide), hstaged, harea]
  · rw [State.hbmByte, hthen.hbm.resolve_left (by decide), htake.hbm.resolve_left (by decide), hhbm, harea]
    exact mapGet_storeBytes 0 _ _ _ _ (by rwa [fitBytes_length])
  · intro f hl hs
    obtain ⟨hregs, -⟩ := State.complete_frame hu stOk (s.areaAddr i.val / 64)
    rw [hregs f hl hs]
    exact hbefore.rd f ((by decide : ∀ b < 27, Nat.testBit 0x19800000000000 b = false) _ (Nat.lt_succ_of_le (blk_le _)))
  · exact ((hbefore.mono (by decide)).app hthen (by decide) : Only 0x598000038c0000 s _).keepsFlash (by decide)
  · rw [State.complete_settle_peg, hbefore.peg.resolve_left (by decide)]

/-! ### PROG_LOAD and PROGRAM_BANK_WRITE (R205, R210, R435) -/

theorem exec_progLoad_of_busy {s : State} (r : Fin 16) (d : Option (List Byte)) (h : s.jst.waiting ≠ none) :
    exec (.progLoad r d) s = s.done :=
  if_pos (Option.isSome_iff_ne_none.mpr h)

theorem exec_progLoad {s : State} {r : Fin 16} {e : BitVec 512} (hw : s.jst.waiting = none) (hf : s.frontCmd r.val 7 = some e)
    (hc : cmdClean e 28 = true) (hp : cmdParam e = 0) (d : Option (List Byte)) :
    exec (.progLoad r d) s = (s.loadSet r.val e d).done := by
  show execProgLoad r d s = _
  simp [execProgLoad, hw, hf, hc, hp]

/-- An image that no header wraps is the set itself, where neither the one-time memory nor the host asks for a signature. -/
theorem State.openSet_of_plain {s : State} {b : List Byte} (ho : s.fwu.otp.progsig = false) (hr : s.rd R.FWU_CTL_PROGSIG = 0)
    (hm : fieldAt b 0 4 ≠ 0x5A4B494D) : s.openSet b = (0, b) := by
  simp [State.openSet, ho, hr, hm, State.on]

theorem State.loadSet_of_plain {s : State} {b d : List Byte} {e : BitVec 512} (r : Nat) (hb : fitBytes (cmdField e 24 4) d = b)
    (ho : s.openSet b = (0, b)) :
    s.loadSet r e (some d) =
      if (s.showProof (proveSet b (Config.proofOf b))).rd R.JST_PROOF_CODE = 0 then
        (s.showProof (proveSet b (Config.proofOf b))).acceptSet r e b
      else (s.showProof (proveSet b (Config.proofOf b))).complete r e stProof
        (s.showProof (proveSet b (Config.proofOf b))).proofWord := by
  subst hb
  unfold State.loadSet
  dsimp only
  rw [ho]
  rfl

/-- A proof answers one of the codes of R205. -/
theorem proveSet_code_lt (b : List Byte) (p : ProofFind) : (proveSet b p).1 < 16 := by
  unfold proveSet
  dsimp only
  split
  · show 1 < 16
    decide
  · split
    · show 2 < 16
      decide
    · split
      · show 3 < 16
        decide
      · split
        · next h =>
          simp only [Bool.and_eq_true, decide_eq_true_eq] at h
          omega
        · split
          · show 9 < 16
            decide
          · dsimp only
            split <;> decide

theorem State.showProof_code (s : State) (p : Nat × Nat × Nat) (h : p.1 < 16) :
    (s.showProof p).rd R.JST_PROOF_CODE = p.1 ∧ (p.1 ≠ 0 → (s.showProof p).rd R.JST_INTSTAT_PROOFFAIL = 1) := by
  have hcode : (((s.wr R.JST_PROOF_CODE p.1).wr R.JST_PROOF_SLOT p.2.1).wr R.JST_PROOF_WORST p.2.2).rd R.JST_PROOF_CODE = p.1 := by
    rw [State.rd_wr_ne _ _ _ _ (by decide), State.rd_wr_ne _ _ _ _ (by decide), State.rd_wr_same]
    exact Nat.mod_eq_of_lt h
  unfold State.showProof State.when
  dsimp only
  split
  · refine ⟨?_, fun _ => ?_⟩
    · rw [State.refuse_rd _ _ _ (by decide) (by decide), if_neg (by decide), hcode]
    · rw [State.refuse_rd _ _ _ (by decide) (by decide), if_pos rfl]
      rfl
  · next hz => exact ⟨hcode, fun hne => absurd (by simpa using hne) hz⟩

/-- JST_PROOF as a word depends on its own register alone. -/
theorem State.proofWord_congr {m : Nat} {s t : State} (h : Only m s t) (hm : m.testBit 7 = false) : t.proofWord = s.proofWord := by
  rw [State.proofWord, State.proofWord, h.rd _ ((by decide : blk R.JST_PROOF_CODE.key = 7) ▸ hm),
    h.rd _ ((by decide : blk R.JST_PROOF_SLOT.key = 7) ▸ hm), h.rd _ ((by decide : blk R.JST_PROOF_WORST.key = 7) ▸ hm)]

/-- Whether a bank is free depends on the bursts, fires, records and epochs, not on what the registers or Joist hold. -/
theorem State.bankFree_congr {s t : State} (hp : t.peg = s.peg) (hb : t.btn = s.btn) (hj : t.jnl = s.jnl) (hh : t.hif = s.hif) :
    t.bankFree = s.bankFree := by
  have hheld (n : Nat) : t.epochHeld n = s.epochHeld n := by rw [State.epochHeld, State.epochHeld, hp, hb, hj]
  rw [State.bankFree, State.bankFree, State.olderHeld, State.olderHeld, hp, hh]
  simp only [hheld]

theorem State.bankWrite_of_free {s : State} (h : s.bankFree = true) (p : ProgSet) :
    s.bankWrite p = (((({ s with jst := { s.jst with waiting := none, staged := some p } } : State).wr R.JST_STATUS_LOADBUSY 0).wr
      R.JST_STATUS_STGVALID 1).flag R.JST_INTSTAT_SETREADY) := if_pos h

theorem State.bankWrite_of_taken {s : State} (h : s.bankFree = false) (p : ProgSet) :
    s.bankWrite p = ({ s with jst := { s.jst with waiting := some p } } : State).wr R.JST_STATUS_LOADBUSY 1 :=
  if_neg (by simp [h])

theorem State.bankWrite_taken_code {s : State} (h : s.bankFree = false) (p : ProgSet) :
    (s.bankWrite p).rd R.JST_PROOF_CODE = s.rd R.JST_PROOF_CODE := by
  rw [State.bankWrite_of_taken h, State.rd_wr_ne _ _ _ _ (by decide)]
  rfl

/-- A set written into free banks: staged and shown so, the proof's word as it was. -/
theorem State.bankWrite_stages {s : State} (h : s.bankFree = true) (p : ProgSet) :
    (s.bankWrite p).jst = { s.jst with waiting := none, staged := some p } ∧ (s.bankWrite p).proofWord = s.proofWord
      ∧ (s.bankWrite p).rd R.JST_STATUS_LOADBUSY = 0 ∧ (s.bankWrite p).rd R.JST_STATUS_STGVALID = 1
      ∧ (s.bankWrite p).rd R.JST_INTSTAT_SETREADY = 1
      ∧ Frame [R.JST_STATUS_LOADBUSY, R.JST_STATUS_STGVALID, R.JST_INTSTAT_SETREADY] s (s.bankWrite p) := by
  have hframe : Frame [R.JST_STATUS_LOADBUSY, R.JST_STATUS_STGVALID, R.JST_INTSTAT_SETREADY] s (s.bankWrite p) := by
    rw [State.bankWrite_of_free h]
    refine (((Frame.trans ?_ (Frame.refl _ _)).wr (by decide)).wr (by decide)).wr (by decide)
    exact ⟨fun _ _ _ => rfl, fun _ => rfl, fun _ => rfl⟩
  refine ⟨?_, ?_, ?_, ?_, ?_, hframe⟩
  · rw [State.bankWrite_of_free h]
    rfl
  · rw [State.proofWord, State.proofWord, hframe.rd _ (by decide) (by decide), hframe.rd _ (by decide) (by decide),
      hframe.rd _ (by decide) (by decide)]
  · rw [State.bankWrite_of_free h, State.rd_flag, if_neg (by decide), State.rd_wr_ne _ _ _ _ (by decide), State.rd_wr_same,
      Nat.zero_mod]
  · rw [State.bankWrite_of_free h, State.rd_flag, if_neg (by decide), State.rd_wr_same]
    rfl
  · rw [State.bankWrite_of_free h, State.rd_flag, if_pos rfl]
    rfl

/-- The registers that an answer leaves alone include JST's. -/
theorem State.complete_settle_proofWord (u : State) (r : Nat) (e : BitVec 512) (status result : Nat) :
    (u.complete r e status result).settle.proofWord = u.proofWord :=
  State.proofWord_congr (State.complete_settle_only ..) (by decide)

/-- A set that fails the proof is refused with its word (R205, R210). -/
theorem State.loadSet_refused {s : State} {b d : List Byte} {r : Nat} {e : BitVec 512} (hone : (s.cmdRing r).fetched = [e])
    (hb : fitBytes (cmdField e 24 4) d = b) (ho : s.openSet b = (0, b)) (hne : (proveSet b (Config.proofOf b)).1 ≠ 0) :
    let t := (s.loadSet r e (some d)).settle
    t.rd R.JST_PROOF_CODE = (proveSet b (Config.proofOf b)).1 ∧ t.rd R.JST_INTSTAT_PROOFFAIL = 1 ∧ t.jst = s.jst
      ∧ Answered r e stProof t.proofWord s t := by
  obtain ⟨hcode, hfail⟩ := s.showProof_code (proveSet b (Config.proofOf b)) (proveSet_code_lt b _)
  have hshow := State.showProof_only s (proveSet b (Config.proofOf b))
  have hload := (State.loadSet_of_plain r hb ho).trans (if_neg (by rwa [hcode]))
  have hring : SameRing r s _ := (SameRing.refl r s).app hshow (by decide) (by decide)
  rw [hload]
  refine ⟨?_, ?_, ?_, ?_⟩
  · rw [(State.complete_settle_only ..).rd _ (by decide), hcode]
  · rw [(State.complete_settle_only ..).rd _ (by decide), hfail hne]
  · rw [State.complete_settle_jst, hshow.jst.resolve_left (by decide)]
  · rw [State.complete_settle_proofWord]
    exact State.complete_answers hring hone _ _

/-- A set takes its number. -/
def State.setNumbered (s : State) : State := { s with jst := { s.jst with nextSet := s.jst.nextSet + 1 } }

theorem State.setNumbered_only (s : State) : Only 0x8000000000 s s.setNumbered :=
  (Only.refl _ s).upd (.inr rfl) (.inr rfl) (.inr rfl) (.inr rfl) (.inr rfl) (.inr rfl) (.inr rfl) (.inl (by decide)) (.inr rfl)
    (.inr rfl) (.inr rfl) (.inr rfl) (.inr rfl) (.inr rfl) (.inr rfl) (.inr rfl) (.inr rfl) (.inr rfl) (.inr rfl) (.inr rfl)
    (.inr rfl) (.inr rfl)

/-- The loader's state once a set is proven: the proof shown and the set's number taken. -/
def State.setProven (s : State) (b : List Byte) : State := (s.showProof (proveSet b (Config.proofOf b))).setNumbered

theorem State.setProven_only (s : State) (b : List Byte) : Only 0x8008000800080 s (s.setProven b) :=
  ((Only.refl _ s).app (State.showProof_only ..) (by decide)).app (State.setNumbered_only _) (by decide)

theorem State.setProven_code (s : State) (b : List Byte) : (s.setProven b).rd R.JST_PROOF_CODE = (proveSet b (Config.proofOf b)).1 := by
  obtain ⟨hcode, -⟩ := s.showProof_code (proveSet b (Config.proofOf b)) (proveSet_code_lt b _)
  rw [State.setProven, (State.setNumbered_only _).rd _ (by decide), hcode]

theorem State.setProven_bankFree (s : State) (b : List Byte) : (s.setProven b).bankFree = s.bankFree := by
  have ho := s.setProven_only b
  exact State.bankFree_congr (ho.peg.resolve_left (by decide)) (ho.btn.resolve_left (by decide))
    (ho.jnl.resolve_left (by decide)) (ho.hif.resolve_left (by decide))

/-- The set of an image, as the loader numbers it. -/
def State.setOfImage (s : State) (b : List Byte) : ProgSet := ProgSet.ofImage s.jst.nextSet s.standardImage b

/-- A ring is held until the set that waits has been written. -/
def State.loadHolds (s : State) (r : Nat) : State := { s with jst := { s.jst with loadRing := some r } }

theorem State.loadHolds_rd (s : State) (r : Nat) (g : Fld) : (s.loadHolds r).rd g = s.rd g := rfl

theorem State.loadHolds_cmdRing (s : State) (r k : Nat) : (s.loadHolds r).cmdRing k = s.cmdRing k := rfl

theorem State.acceptSet_of_proven (s : State) (r : Nat) (e : BitVec 512) (b : List Byte) :
    (s.showProof (proveSet b (Config.proofOf b))).acceptSet r e b =
      let u := (s.setProven b).bankWrite (s.setOfImage b)
      if u.jst.waiting.isSome then u.loadHolds r else u.complete r e stOk u.proofWord := by
  have hshow := State.showProof_only s (proveSet b (Config.proofOf b))
  have hset : ProgSet.ofImage (s.showProof (proveSet b (Config.proofOf b))).jst.nextSet
      (s.showProof (proveSet b (Config.proofOf b))).standardImage b = s.setOfImage b := by
    rw [State.standardImage, hshow.fwu.resolve_left (by decide), hshow.jst.resolve_left (by decide)]
    rfl
  rw [State.acceptSet, hset]
  rfl

/-- A proven set is staged where a bank is free (R210). -/
theorem State.loadSet_staged {s : State} {b d : List Byte} {r : Nat} {e : BitVec 512} (hone : (s.cmdRing r).fetched = [e])
    (hb : fitBytes (cmdField e 24 4) d = b) (ho : s.openSet b = (0, b)) (hz : (proveSet b (Config.proofOf b)).1 = 0)
    (hfree : s.bankFree = true) :
    let t := (s.loadSet r e (some d)).settle
    t.rd R.JST_PROOF_CODE = 0 ∧ t.jst.staged = some (s.setOfImage b) ∧ t.rd R.JST_INTSTAT_SETREADY = 1
      ∧ Answered r e stOk t.proofWord s t := by
  obtain ⟨hcode, -⟩ := s.showProof_code (proveSet b (Config.proofOf b)) (proveSet_code_lt b _)
  obtain ⟨hjst, -, -, -, hready, hframe⟩ := State.bankWrite_stages ((s.setProven_bankFree b).trans hfree) (s.setOfImage b)
  have hwrite := State.bankWrite_only (s.setProven b) (s.setOfImage b)
  have hring : SameRing r s ((s.setProven b).bankWrite (s.setOfImage b)) :=
    ((SameRing.refl r s).app (s.setProven_only b) (by decide) (by decide)).app hwrite (by decide) (by decide)
  have hload : s.loadSet r e (some d) = ((s.setProven b).bankWrite (s.setOfImage b)).complete r e stOk
      ((s.setProven b).bankWrite (s.setOfImage b)).proofWord := by
    rw [State.loadSet_of_plain r hb ho, if_pos (hcode.trans hz), State.acceptSet_of_proven]
    exact if_neg (by simp [hjst])
  rw [hload]
  refine ⟨?_, ?_, ?_, ?_⟩
  · rw [(State.complete_settle_only ..).rd _ (by decide), hframe.rd _ (by decide) (by decide), State.setProven_code, hz]
  · rw [State.complete_settle_jst, hjst]
  · rw [(State.complete_settle_only ..).rd _ (by decide), hready]
  · rw [State.complete_settle_proofWord]
    exact State.complete_answers hring hone _ _

/-- A proven set waits where none is free, and holds its ring (R210). -/
theorem State.loadSet_waits {s : State} {b d : List Byte} {r : Nat} {e : BitVec 512} (hone : (s.cmdRing r).fetched = [e])
    (hb : fitBytes (cmdField e 24 4) d = b) (ho : s.openSet b = (0, b)) (hz : (proveSet b (Config.proofOf b)).1 = 0)
    (htaken : s.bankFree = false) :
    let t := (s.loadSet r e (some d)).settle
    t.rd R.JST_PROOF_CODE = 0 ∧ t.jst.waiting = some (s.setOfImage b) ∧ t.jst.loadRing = some r
      ∧ (t.cmdRing r).fetched = [e] := by
  obtain ⟨hcode, -⟩ := s.showProof_code (proveSet b (Config.proofOf b)) (proveSet_code_lt b _)
  have htaken' := (s.setProven_bankFree b).trans htaken
  have hwrite := State.bankWrite_of_taken htaken' (s.setOfImage b)
  have hring : SameRing r s ((s.setProven b).bankWrite (s.setOfImage b)) :=
    ((SameRing.refl r s).app (s.setProven_only b) (by decide) (by decide)).app (State.bankWrite_only ..) (by decide) (by decide)
  have hload : s.loadSet r e (some d) = ((s.setProven b).bankWrite (s.setOfImage b)).loadHolds r := by
    rw [State.loadSet_of_plain r hb ho, if_pos (hcode.trans hz), State.acceptSet_of_proven]
    exact if_pos (by rw [hwrite]; rfl)
  have hjst := (State.settle_only (((s.setProven b).bankWrite (s.setOfImage b)).loadHolds r)).jst.resolve_left (by decide)
  rw [hload]
  refine ⟨?_, ?_, ?_, ?_⟩
  · rw [State.settle_rd _ _ (by decide) (by decide), State.loadHolds_rd, State.bankWrite_taken_code htaken', State.setProven_code, hz]
  · rw [hjst, hwrite]
    rfl
  · rw [hjst]
    rfl
  · rw [State.settle_cmdRing, State.loadHolds_cmdRing, hring.ring, hone]

/-- The proof of a set and what follows from its code: refused, staged, or waiting (R205, R210, R435). -/
theorem progLoad_completes {s : State} {r : Fin 16} {e : BitVec 512} {d : List Byte} (hf : AtFront r.val 7 e s)
    (hc : cmdClean e 28 = true) (hp : cmdParam e = 0) (hw : s.jst.waiting = none) (ho : s.fwu.otp.progsig = false)
    (hr : s.rd R.FWU_CTL_PROGSIG = 0) {b : List Byte} (hb : fitBytes (cmdField e 24 4) d = b) (hm : fieldAt b 0 4 ≠ 0x5A4B494D) :
    Completes (.progLoad r (some d)) s (fun t =>
      t.rd R.JST_PROOF_CODE = (proveSet b (Config.proofOf b)).1
        ∧ (t.rd R.JST_PROOF_CODE ≠ 0 → t.rd R.JST_INTSTAT_PROOFFAIL = 1 ∧ t.jst.staged = s.jst.staged
          ∧ Answered r.val e stProof t.proofWord s t)
        ∧ (t.rd R.JST_PROOF_CODE = 0 → s.bankFree = true → t.jst.staged = some (s.setOfImage b)
          ∧ t.rd R.JST_INTSTAT_SETREADY = 1 ∧ Answered r.val e stOk t.proofWord s t)
        ∧ (t.rd R.JST_PROOF_CODE = 0 → s.bankFree = false → t.jst.waiting = some (s.setOfImage b)
          ∧ t.jst.loadRing = some r.val ∧ (t.cmdRing r.val).fetched = [e])
        ∧ KeepsMemory s t) := by
  obtain ⟨hfront, hone⟩ := hf
  have hopen := State.openSet_of_plain ho hr hm
  have hexec := exec_progLoad hw hfront hc hp (some d)
  have hmem := (execProgLoad_only r (some d) s _ hexec).keepsMemory (by decide) (by decide)
  by_cases hz : (proveSet b (Config.proofOf b)).1 = 0
  · cases hfree : s.bankFree with
    | true =>
      obtain ⟨hcode, hstaged, hready, hans⟩ := State.loadSet_staged hone hb hopen hz hfree
      exact completes_of_done hexec ⟨hcode.trans hz.symm, fun h => absurd hcode h, fun _ _ => ⟨hstaged, hready, hans⟩,
        fun _ h => absurd h (by decide), hmem⟩
    | false =>
      obtain ⟨hcode, hwaits, hring, hfetched⟩ := State.loadSet_waits hone hb hopen hz hfree
      exact completes_of_done hexec ⟨hcode.trans hz.symm, fun h => absurd hcode h, fun _ h => absurd h (by decide),
        fun _ _ => ⟨hwaits, hring, hfetched⟩, hmem⟩
  · obtain ⟨hcode, hfail, hjst, hans⟩ := State.loadSet_refused hone hb hopen hz
    exact completes_of_done hexec ⟨hcode, fun _ => ⟨hfail, congrArg JstState.staged hjst, hans⟩,
      fun h => absurd (hcode.symm.trans h) hz, fun h => absurd (hcode.symm.trans h) hz, hmem⟩

/-- The waiting set is written, and no ring is held for it any longer. -/
def State.bankWritten (s : State) (p : ProgSet) : State :=
  { s.bankWrite p with jst := { (s.bankWrite p).jst with loadRing := none } }

theorem exec_programBankWrite_of_unheld {s : State} {p : ProgSet} (hw : s.jst.waiting = some p) (hfree : s.bankFree = true)
    (hl : s.jst.loadRing = none) : exec .programBankWrite s = (s.bankWritten p).done := by
  show execProgramBankWrite s = _
  unfold execProgramBankWrite
  rw [hw]
  dsimp only
  rw [if_pos hfree, hl]
  rfl

theorem exec_programBankWrite_of_held {s : State} {p : ProgSet} {r : Nat} (hw : s.jst.waiting = some p) (hfree : s.bankFree = true)
    (hl : s.jst.loadRing = some r) :
    exec .programBankWrite s = ((s.bankWritten p).completeHeld r stOk (s.bankWritten p).proofWord).done := by
  show execProgramBankWrite s = _
  unfold execProgramBankWrite
  rw [hw]
  dsimp only
  rw [if_pos hfree, hl]
  rfl

theorem State.bankWritten_jst {s : State} (hfree : s.bankFree = true) (p : ProgSet) :
    (s.bankWritten p).jst = { s.jst with waiting := none, staged := some p, loadRing := none } := by
  obtain ⟨hjst, -⟩ := State.bankWrite_stages hfree p
  rw [State.bankWritten, hjst]

theorem State.bankWritten_frame {s : State} (hfree : s.bankFree = true) (p : ProgSet) :
    Frame [R.JST_STATUS_LOADBUSY, R.JST_STATUS_STGVALID, R.JST_INTSTAT_SETREADY] s (s.bankWritten p) := by
  obtain ⟨-, -, -, -, -, hframe⟩ := State.bankWrite_stages hfree p
  exact hframe

/-- A bank that is free takes a set for which no ring is held. -/
theorem programBankWrite_completes {s : State} {p : ProgSet} (hw : s.jst.waiting = some p) (hfree : s.bankFree = true)
    (hl : s.jst.loadRing = none) :
    Completes .programBankWrite s (fun t =>
      t.jst.waiting = none ∧ t.jst.staged = some p ∧ t.rd R.JST_STATUS_LOADBUSY = 0 ∧ t.rd R.JST_STATUS_STGVALID = 1
        ∧ t.rd R.JST_INTSTAT_SETREADY = 1
        ∧ Frame [R.JST_STATUS_LOADBUSY, R.JST_STATUS_STGVALID, R.JST_INTSTAT_SETREADY] s t) := by
  obtain ⟨-, -, hbusy, hvalid, hready, -⟩ := State.bankWrite_stages hfree p
  have hjst : (s.bankWritten p).settle.jst = _ :=
    ((State.settle_only _).jst.resolve_left (by decide)).trans (State.bankWritten_jst hfree p)
  refine completes_of_done (exec_programBankWrite_of_unheld hw hfree hl) ⟨?_, ?_, ?_, ?_, ?_, (State.bankWritten_frame hfree p).settle⟩
  · rw [hjst]
  · rw [hjst]
  · exact (State.settle_rd _ _ (by decide) (by decide)).trans hbusy
  · exact (State.settle_rd _ _ (by decide) (by decide)).trans hvalid
  · exact (State.settle_rd _ _ (by decide) (by decide)).trans hready

/-- A bank that is free takes a set whose command holds its ring, and the command is answered. -/
theorem programBankWrite_answers {s : State} {p : ProgSet} {r : Nat} {e : BitVec 512} (hw : s.jst.waiting = some p)
    (hfree : s.bankFree = true) (hl : s.jst.loadRing = some r) (hone : (s.cmdRing r).fetched = [e]) :
    Completes .programBankWrite s (fun t =>
      t.jst.waiting = none ∧ t.jst.staged = some p ∧ t.jst.loadRing = none ∧ Answered r e stOk s.proofWord s t
        ∧ KeepsMemory s t) := by
  obtain ⟨-, hword, -⟩ := State.bankWrite_stages hfree p
  have hwordOf : (s.bankWritten p).proofWord = s.proofWord := hword
  have hwrite := State.bankWrite_only s p
  have hring : SameRing r s (s.bankWritten p) := ⟨by
    rw [State.cmdRing, State.cmdRing, ← hwrite.hif.resolve_left (by decide)]; rfl,
    congrArg HifState.mps (hwrite.hif.resolve_left (by decide)), fun f hf => hwrite.rd f (by rw [hf]; decide)⟩
  have hfetched : ((s.bankWritten p).cmdRing r).fetched = [e] := by rw [hring.ring, hone]
  have hexec : exec .programBankWrite s = ((s.bankWritten p).complete r e stOk s.proofWord).done := by
    rw [exec_programBankWrite_of_held hw hfree hl, State.completeHeld_eq hfetched, hwordOf]
  have hmem := (execProgramBankWrite_only s _ hexec).keepsMemory (by decide) (by decide)
  refine completes_of_done hexec ⟨?_, ?_, ?_, State.complete_answers hring hone _ _, hmem⟩
  · rw [State.complete_settle_jst, State.bankWritten_jst hfree]
  · rw [State.complete_settle_jst, State.bankWritten_jst hfree]
  · rw [State.complete_settle_jst, State.bankWritten_jst hfree]

/-- A refusal writes the ring's fields and those of the error. -/
theorem State.complete_frame_refused {u : State} {r : Nat} {e : BitVec 512} (he : (u.cmdRing r).fetched = [e]) (status result : Nat) :
    Frame (R.HIF_INTSTAT_CMDERR :: cplFlds r ++ reportFlds) u (u.complete r e status result).settle :=
  (State.complete_frame he status result).mono (List.append_subset.mpr
    ⟨List.Subset.trans (errFlds_subset status) (List.cons_subset_cons _ (List.subset_append_right ..)),
      List.subset_cons_of_subset _ (List.subset_append_left ..)⟩)

/-- A command whose effect writes no register is refused with its answer alone. -/
theorem completes_refused {c : Instr} {s u : State} {r : Nat} {e : BitVec 512} {status result : Nat}
    (hexec : exec c s = (u.complete r e status result).done) (hone : (s.cmdRing r).fetched = [e]) (hring : SameRing r s u)
    (hframe : Frame [] s u) (hpeg : u.peg = s.peg) :
    Completes c s (fun t =>
      t.hif.staged = u.hif.staged ∧ t.hif.accepted = u.hif.accepted ∧ t.peg = s.peg ∧ Answered r e status result s t
        ∧ Frame (R.HIF_INTSTAT_CMDERR :: cplFlds r ++ reportFlds) s t) := by
  have hu : (u.cmdRing r).fetched = [e] := by rw [hring.ring, hone]
  obtain ⟨hstaged, -, hacc⟩ := State.complete_settle_hif hu status result
  exact completes_of_done hexec ⟨hstaged, hacc, (State.complete_settle_peg ..).trans hpeg, State.complete_answers hring hone _ _,
    (hframe.mono (List.nil_subset _)).trans (State.complete_frame_refused hu _ _)⟩

theorem cmdField_byte_lt (e : BitVec 512) (byte : Nat) : cmdField e byte 1 < 256 := Nat.mod_lt _ (by decide)

/-- Settles O40: each command's branches, with the answer that the law of completions gives. -/
theorem epochsAndTablesFollowCommands : Obligations.EpochsAndTablesFollowCommands := by
  refine ⟨fun r e s hf hc hp hz hn => ?_, fun r e s hf hc hp hz hn hw ha ho => ?_, fun r e s hf hc hp hz hn hw ha ho ht => ?_,
    fun r e s hf hc hp hz hn hw ha ho ht hcode => ?_, fun w e s hw hr ho hone hl hring hep ht hcode => ?_,
    fun n u s h hn hl => epochEffective_completes h hn hl, fun r e d s hf hc hk haddr hg hl => tableLoad_completes d hf hc hk haddr hg,
    fun r e s hf hc hk haddr => ?_, fun r e d s hf hc hp hw ho hr hm => progLoad_completes hf hc hp hw ho hr rfl hm,
    fun r d s h => ?_, fun p s hw hfree hl => programBankWrite_completes hw hfree hl,
    fun p r e s hw hfree hl hr hone => programBankWrite_answers hw hfree hl hone⟩
  · obtain ⟨hfront, hone⟩ := hf
    have hexec := (exec_epochCommit hfront hc hp hz).trans (congrArg State.done (State.commitEpoch_of_wrong r.val hn))
    obtain ⟨t, ht, -, hacc, hpeg, hans, hframe⟩ := completes_refused hexec hone (.refl _ s) (.refl [] s) rfl
    exact ⟨t, ht, hpeg, hacc, hans, hframe⟩
  · exact completes_of_done ((exec_epochCommit hf hc hp hz).trans (congrArg State.done (State.commitEpoch_of_held hn hw ha r.val ho)))
      ⟨by rw [State.settle_hif]; rfl, by rw [State.settle_hif]; rfl, State.settle_peg _, ((Frame.refl [] s).onHif _).settle⟩
  · obtain ⟨hfront, hone⟩ := hf
    have hexec := (exec_epochCommit hfront hc hp hz).trans (congrArg State.done (State.commitEpoch_of_next hn hw ha r.val ho))
    rw [State.epochPoint_of_soon ht] at hexec
    obtain ⟨t, ht', -, hacc, hpeg, hans, hframe⟩ := completes_refused hexec hone ⟨rfl, rfl, fun _ _ => rfl⟩
      ((Frame.refl [] s).onHif _) rfl
    exact ⟨t, ht', hacc.trans ha, hpeg, hans, hframe⟩
  · obtain ⟨hfront, hone⟩ := hf
    have hexec := (exec_epochCommit hfront hc hp hz).trans (congrArg State.done (State.commitEpoch_of_next hn hw ha r.val ho))
    obtain ⟨hans, -, -, hacc, hmem, hact, hstaged, hnum, hvalid, hanswered, hkeeps⟩ :=
      State.epochPoint_accepts (cmdField_byte_lt e 16) ht hcode hone
    simp only [hans] at hexec
    exact completes_of_done hexec ⟨hacc, hmem, hact, hstaged, hnum, hvalid, hanswered, hkeeps⟩
  · obtain ⟨hans, hfetched, hwait, hacc, hmem, -, -, hnum, -, hanswered, hkeeps⟩ := State.epochPoint_accepts hep ht hcode hone
    have hexec := exec_epochCommitExecution hw hr ho
    simp only [hans, State.completeHeld_eq hfetched] at hexec
    exact completes_of_done hexec ⟨hwait, hacc, hmem, hnum, hanswered, hkeeps⟩
  · obtain ⟨hfront, hone⟩ := hf
    obtain ⟨t, ht, hstaged, -, -, hans, hframe⟩ := completes_refused
      (exec_tableLoad hfront hc none (State.loadTable_of_unread hk haddr)) hone (.refl _ s) (.refl [] s) rfl
    exact ⟨t, ht, hstaged, hans, hframe⟩
  · refine completes_of_done (exec_progLoad_of_busy r d h) ⟨?_, State.settle_hif s, (Frame.refl [] s).settle⟩
    exact (State.settle_only s).jst.resolve_left (by decide)

end Sys2Proof.Machine
end

section
/-!
Power-on reset and the loss of power (R36, R37, R48, R56): what is left of the state, and what has left the part (O3, O11). The laws of
start-up lines, stages and stalls, on which the stages of start-up rest, come first.
-/
namespace Sys2Proof.Machine

/-! ### Start-up lines (R60) -/

theorem regReset_armed : regReset R.GLB_INTCTL_ARMED.key = 0 := by decide +kernel

/-- A summary message that is not armed is not sent. -/
theorem State.settle_of_unarmed {s : State} (h : s.rd R.GLB_INTCTL_ARMED = 0) : s.settle = s := by
  simp [State.settle, State.on, h]

@[simp] theorem State.settle_boot (s : State) : s.settle.boot = s.boot := (State.settle_only s).boot.resolve_left (by decide)

@[simp] theorem State.settle_fwu (s : State) : s.settle.fwu = s.fwu := (State.settle_only s).fwu.resolve_left (by decide)

@[simp] theorem State.settle_trs (s : State) : s.settle.trs = s.trs := (State.settle_only s).trs.resolve_left (by decide)

@[simp] theorem State.settle_jst (s : State) : s.settle.jst = s.jst := (State.settle_only s).jst.resolve_left (by decide)

@[simp] theorem State.settle_flt (s : State) : s.settle.flt = s.flt := (State.settle_only s).flt.resolve_left (by decide)

/-- GLB_STATUS as a start-up line leaves it, and the line itself. -/
def State.lineShown (s : State) (n c d : Nat) : State :=
  (((s.wr R.GLB_STATUS_STAGE n).wr R.GLB_STATUS_CAUSE c).wr R.GLB_STATUS_DETAIL d).emit (.line n (lineTime s) c d)

/-- Before stage SETTINGS, and in recovery mode, a line is not copied to the fault log. -/
theorem State.stageLine_of_early {n : Nat} (h : n < 6 ∨ n = 0x0F) (s : State) (c d : Nat) :
    s.stageLine n c d = s.lineShown n c d := by
  have hearly : (decide (6 ≤ n) && n != 0x0F) = false := by
    rcases h with h | rfl
    · simp [Nat.not_le.mpr h]
    · rfl
  unfold State.stageLine
  dsimp only
  rw [hearly]
  rfl

/-- A line adds itself to what has left the part, and takes nothing away. -/
theorem State.stageLine_out (s : State) (n c d : Nat) : (s.stageLine n c d).out = .line n (lineTime s) c d :: s.out := by
  unfold State.stageLine
  dsimp only
  split
  · rw [(State.report_only ..).out.resolve_left (by decide)]
    rfl
  · rfl

@[simp] theorem State.stageLine_boot (s : State) (n c d : Nat) : (s.stageLine n c d).boot = s.boot :=
  (State.stageLine_only ..).boot.resolve_left (by decide)

/-- The entry to a stage adds its line. -/
theorem State.enterStage_out (s : State) (n : Nat) : (s.enterStage n).out = .line n (lineTime s) 0 0 :: s.out := by
  have hline := (s.onBoot (fun b => { b with stalled := false })).stageLine_out n 0 0
  unfold State.enterStage
  dsimp only
  split
  · exact hline
  · exact hline

/-- The entry to a stage ends a stall, and leaves the rest of start-up's record. -/
@[simp] theorem State.enterStage_boot (s : State) (n : Nat) : (s.enterStage n).boot = { s.boot with stalled := false } := by
  have hline := (s.onBoot (fun b => { b with stalled := false })).stageLine_boot n 0 0
  unfold State.enterStage
  dsimp only
  split
  · exact hline
  · exact hline

/-- A stall says so in start-up's record. -/
@[simp] theorem State.stall_boot (s : State) (c d : Nat) : (s.stall c d).boot = { s.boot with stalled := true } := by
  unfold State.stall
  dsimp only
  rw [State.stageLine_boot]

theorem State.stall_out (s : State) (c d : Nat) : (s.stall c d).out = .line s.stage (lineTime s) c d :: s.out :=
  s.stageLine_out s.stage c d

section
variable {l : List Fld} {s u : State}

theorem Frame.emit (h : Frame l s u) (e : Emit) : Frame l s (u.emit e) :=
  h.trans (Frame.of_only (State.emit_only ..) (by decide) (by decide) (by decide))

theorem Frame.onBoot (h : Frame l s u) (f : BootState → BootState) : Frame l s (u.onBoot f) :=
  h.trans (Frame.of_only (State.onBoot_only ..) (by decide) (by decide) (by decide))

/-- A report counts in the fault log unit alone. -/
theorem Frame.report (h : Frame l s u) (src code sev unit : Nat) (d : BitVec 64) (hr : reportFlds ⊆ l) :
    Frame l s (u.report src code sev unit d) := by
  have honly := State.report_only u src code sev unit d
  refine h.trans ⟨fun g hg _ => ?_, honly.keepsMemory (by decide) (by decide)⟩
  exact State.report_rd _ _ _ _ _ _ _ (hg _ (hr (by decide))) (hg _ (hr (by decide)))

theorem Frame.lineShown (h : Frame l s u) (n c d : Nat) (hl : stageFlds ⊆ l) : Frame l s (u.lineShown n c d) :=
  (((h.wr (hl (by decide))).wr (hl (by decide))).wr (hl (by decide))).emit _

/-- A line that is not copied to the fault log writes GLB_STATUS alone. -/
theorem Frame.stageLine_early {n : Nat} (h : Frame l s u) (hn : n < 6 ∨ n = 0x0F) (c d : Nat) (hl : stageFlds ⊆ l) :
    Frame l s (u.stageLine n c d) := by
  rw [State.stageLine_of_early hn]
  exact h.lineShown n c d hl

theorem Frame.stageLine (h : Frame l s u) (n c d : Nat) (hl : stageFlds ⊆ l) (hr : reportFlds ⊆ l) :
    Frame l s (u.stageLine n c d) := by
  unfold State.stageLine
  dsimp only
  split
  · exact (h.lineShown n c d hl).report _ _ _ _ _ hr
  · exact h.lineShown n c d hl

/-- Before SETTINGS the entry to a stage writes GLB_STATUS alone. -/
theorem Frame.enterStage_early {n : Nat} (h : Frame l s u) (hn : n < 6) (hl : stageFlds ⊆ l) : Frame l s (u.enterStage n) := by
  have hlate : (decide (7 ≤ n) && n != 0x0F) = false := by simp; omega
  unfold State.enterStage
  dsimp only
  rw [hlate]
  exact (h.onBoot (fun b => { b with stalled := false })).stageLine_early (.inl hn) 0 0 hl

theorem Frame.stall_early (h : Frame l s u) (hn : u.stage < 6) (c d : Nat) (hl : stageFlds ⊆ l) : Frame l s (u.stall c d) :=
  (h.stageLine_early (.inl hn) c d hl).onBoot (fun b => { b with stalled := true })

theorem Frame.stall (h : Frame l s u) (c d : Nat) (hl : stageFlds ⊆ l) (hr : reportFlds ⊆ l) : Frame l s (u.stall c d) :=
  (h.stageLine u.stage c d hl hr).onBoot (fun b => { b with stalled := true })

end

/-- What is shown of a line: stage, cause and detail, each cut to its byte. -/
theorem State.stageLine_shows (s : State) (n c d : Nat) :
    (s.stageLine n c d).rd R.GLB_STATUS_STAGE = n % 256 ∧ (s.stageLine n c d).rd R.GLB_STATUS_CAUSE = c % 256
      ∧ (s.stageLine n c d).rd R.GLB_STATUS_DETAIL = d % 256 := by
  refine ⟨?_, ?_, ?_⟩
  · rw [State.stageLine_rd _ _ _ _ _ (by decide) (by decide), if_neg (by decide), if_neg (by decide), if_pos rfl]
  · rw [State.stageLine_rd _ _ _ _ _ (by decide) (by decide), if_neg (by decide), if_pos rfl]
  · rw [State.stageLine_rd _ _ _ _ _ (by decide) (by decide), if_pos rfl]

/-! ### The reset state -/

/-- Settles O3: the stores of the reset state are empty, so every read is of an unlisted key. -/
theorem resetIsCanonicalAndEmpty : Obligations.ResetIsCanonicalAndEmpty :=
  ⟨rfl, fun _ => rfl, fun _ => rfl, fun _ => rfl, rfl, rfl, rfl⟩

/-! ### What a power-on reset leaves -/

theorem State.cutFlash_of_idle {s : State} (h : s.fwu.job = none) : s.cutFlash = s := by
  simp [State.cutFlash, h]

section
variable (s : State) (low powered : Bool) (sel : BitVec 2)

/-- Start-up's record takes BOOTSEL and the levels of the pins. -/
theorem State.powerState_boot : (s.powerState low powered sel).boot =
    { BootState.reset with pornLow := low, powered := powered, clkreqLow := powered, bootsel := sel
                           fullrstHi := s.boot.fullrstHi, perstHi := s.boot.perstHi } := by
  unfold State.powerState
  exact State.when_keeps State.boot rfl

/-- Every register field reads its reset value (R48). -/
theorem State.powerState_rd (f : Fld) : (s.powerState low powered sel).rd f = regReset f.key := by
  unfold State.powerState
  exact State.when_keeps (State.rd · f) rfl

/-- HBM is lost, the one-time memory stays, and Truss and the clock plant restart (R36, R48). -/
theorem State.powerState_blocks : (s.powerState low powered sel).hbm = [] ∧ (s.powerState low powered sel).fwu.otp = s.fwu.otp
    ∧ (s.powerState low powered sel).trs = .reset ∧ (s.powerState low powered sel).clk = .reset := by
  unfold State.powerState
  exact ⟨State.when_keeps State.hbm rfl, State.when_keeps (fun t => t.fwu.otp) rfl, State.when_keeps State.trs rfl,
    State.when_keeps State.clk rfl⟩

/-- The boot flash stays unless a slot is being written. -/
theorem State.powerState_flash (h : s.fwu.job = none) : (s.powerState low powered sel).flash = s.flash := by
  have hcut : s.cutFlash.flash = s.flash := congrArg State.flash (State.cutFlash_of_idle h)
  unfold State.powerState
  exact (State.when_keeps State.flash rfl).trans hcut

/-- What has left the part stays on record. -/
theorem State.powerState_out : s.out ⊆ (s.powerState low powered sel).out := by
  unfold State.powerState State.when
  dsimp only
  split
  · exact List.subset_cons_self ..
  · exact fun _ h => h

/-- Nothing is armed behind a power-on reset. -/
theorem State.powerState_settle : (s.powerState low powered sel).settle = s.powerState low powered sel :=
  State.settle_of_unarmed ((State.powerState_rd ..).trans regReset_armed)

end

/-! ### The pins under PORN_N low (R37) -/

theorem State.pinsLow_keeps (s : State) : s.pinsLow.fwu = s.fwu ∧ s.pinsLow.flash = s.flash :=
  ⟨(State.pinsLow_only s).fwu.resolve_left (by decide), (State.pinsLow_only s).flash.resolve_left (by decide)⟩

theorem State.soutsLow_out (s : State) (l : List Nat) (u : State) :
    u.out ⊆ (l.foldl (fun t k => if (s.rd R.TRS_STATE_SOUTCMD).testBit k then t.emit (.sout k false) else t) u).out := by
  induction l generalizing u with
  | nil => exact fun _ h => h
  | cons k rest ih =>
    refine List.Subset.trans ?_ (ih _)
    dsimp only
    split
    · exact List.subset_cons_self ..
    · exact fun _ h => h

/-- DARK_N falls where it was high. -/
theorem State.pinsLow_dark {s : State} (h : s.on R.TRS_STATE_DARKCMD = true) : Emit.darkN false ∈ s.pinsLow.out := by
  unfold State.pinsLow
  rw [if_pos h]
  exact State.soutsLow_out s _ _ List.mem_cons_self

/-- What the fall of PORN_N and the loss of power leave. -/
theorem State.powerFalls (s : State) (powered : Bool) :
    (∀ f : Fld, (s.pinsLow.powerState true powered 0).rd f = regReset f.key) ∧ (s.pinsLow.powerState true powered 0).hbm = []
      ∧ (s.fwu.job = none → (s.pinsLow.powerState true powered 0).flash = s.flash)
      ∧ (s.pinsLow.powerState true powered 0).fwu.otp = s.fwu.otp
      ∧ (s.on R.TRS_STATE_DARKCMD = true → Emit.darkN false ∈ (s.pinsLow.powerState true powered 0).out) := by
  obtain ⟨hfwu, hflash⟩ := s.pinsLow_keeps
  obtain ⟨hhbm, hotp, -, -⟩ := s.pinsLow.powerState_blocks true powered 0
  refine ⟨State.powerState_rd _ _ _ _, hhbm, fun hj => ?_, hotp.trans (by rw [hfwu]), fun hd => ?_⟩
  · rw [State.powerState_flash _ _ _ _ (by rw [hfwu, hj]), hflash]
  · exact State.powerState_out _ _ _ _ (State.pinsLow_dark hd)

/-! ### The three events -/

/-- GLB_STATUS is all that the first stage's line writes. -/
theorem State.enterStage_early_rd {n : Nat} (hn : n < 6) (s : State) (f : Fld) (hf : ∀ g ∈ stageFlds, f.key ≠ g.key) :
    (s.enterStage n).rd f = s.rd f := by
  have hlate : (decide (7 ≤ n) && n != 0x0F) = false := by simp; omega
  unfold State.enterStage
  dsimp only
  rw [hlate, State.stageLine_of_early (.inl hn)]
  simp only [Bool.false_eq_true, if_false, State.lineShown, State.emit_rd]
  rw [State.rd_wr_ne _ _ _ _ (hf _ (by decide)), State.rd_wr_ne _ _ _ _ (hf _ (by decide)), State.rd_wr_ne _ _ _ _ (hf _ (by decide))]
  rfl

/-- The rise of PORN_N completes at stage TRUSS_TEST with everything else as after reset. -/
theorem powerOnReset_completes (b : BitVec 2) (s : State) :
    Completes (.powerOnReset b) s (fun t =>
      t.boot.pornLow = false ∧ t.boot.powered = true ∧ t.boot.clkreqLow = true ∧ t.boot.bootsel = b ∧ t.rd R.GLB_STATUS_STAGE = 1
        ∧ (∀ f : Fld, f.key ∉ [R.GLB_STATUS_STAGE.key, R.GLB_STATUS_CAUSE.key, R.GLB_STATUS_DETAIL.key] → t.rd f = regReset f.key)
        ∧ t.trs = .reset ∧ t.clk = .reset ∧ t.hbm = [] ∧ (s.fwu.job = none → t.flash = s.flash) ∧ t.fwu.otp = s.fwu.otp) := by
  obtain ⟨hhbm, hotp, htrs, hclk⟩ := s.powerState_blocks false true b
  have honly := State.enterStage_only (s.powerState false true b) 1
  have hrd (f : Fld) (hf : ∀ g ∈ stageFlds, f.key ≠ g.key) : ((s.powerState false true b).enterStage 1).rd f = regReset f.key :=
    (State.enterStage_early_rd (by decide) _ f hf).trans (State.powerState_rd ..)
  obtain ⟨hstage, -⟩ := (s.powerState false true b).enterStage_shows 1 (by decide)
  refine ⟨(s.powerState false true b).enterStage 1,
    congrArg Host.Outcome.next (State.settle_of_unarmed ((hrd R.GLB_INTCTL_ARMED (by decide)).trans regReset_armed)), ?_⟩
  beta_reduce
  rw [State.enterStage_boot, State.powerState_boot]
  refine ⟨rfl, rfl, rfl, rfl, hstage, fun f hf => hrd f ?_, ?_, ?_, ?_, fun hj => ?_, ?_⟩
  · intro g hg he
    exact hf (he ▸ List.mem_map_of_mem (f := Fld.key) hg)
  · rw [honly.trs.resolve_left (by decide), htrs]
  · rw [honly.clk.resolve_left (by decide), hclk]
  · rw [honly.hbm.resolve_left (by decide), hhbm]
  · rw [honly.flash.resolve_left (by decide), State.powerState_flash _ _ _ _ hj]
  · rw [honly.fwu.resolve_left (by decide), hotp]

/-- Settles O11: each event from what a power-on reset leaves. -/
theorem powerEventsRestart : Obligations.PowerEventsRestart := by
  refine ⟨fun s => ?_, powerOnReset_completes, fun s => ?_⟩
  · refine ⟨s.pinsLow.powerState true s.boot.powered 0, congrArg Host.Outcome.next (State.powerState_settle ..), ?_,
      s.powerFalls s.boot.powered⟩
    rw [State.powerState_boot]
  · refine ⟨s.pinsLow.powerState true false 0, congrArg Host.Outcome.next (State.powerState_settle ..), ?_, ?_, s.powerFalls false⟩
    · rw [State.powerState_boot]
    · rw [State.powerState_boot]

end Sys2Proof.Machine
end

section
/-!
PPS discipline, the device-time snapshot and the root PLLs (R45 to R47, R455): what an edge, its loss, the snapshot and a lock detector
leave in the clock plant and in the registers (O17).
-/
namespace Sys2Proof.Machine

section
variable {l : List Fld} {s u : State}

theorem Frame.onClk (h : Frame l s u) (f : ClkState → ClkState) : Frame l s (u.onClk f) :=
  h.trans (Frame.of_only (State.onClk_only ..) (by decide) (by decide) (by decide))

theorem Frame.when (h : Frame l s u) (c : Bool) {f : State → State} (hf : Frame l u (f u)) : Frame l s (u.when c f) := by
  unfold State.when
  split
  · exact h.trans hf
  · exact h

end

/-! ### An edge (R41, R46) -/

/-- A frequency measurement changes the list of measurements alone. -/
theorem State.freqIn_clk (s : State) (i : Nat) : ∃ l, (s.freqIn i).clk = { s.clk with freqs := l } := by
  unfold State.freqIn
  dsimp only
  split
  · exact ⟨_, rfl⟩
  · exact ⟨_, rfl⟩

theorem State.freqIn_frame (s : State) (i : Nat) :
    Frame [R.CLK_FREQERR_FERR, R.CLK_STATUS_DRIFTVAL, R.CLK_DRIFT_DRIFT] s (s.freqIn i) := by
  unfold State.freqIn
  dsimp only
  split
  · exact ((((Frame.refl ..).onClk _).wr (by decide)).wr (by decide)).wr (by decide)
  · exact ((Frame.refl ..).onClk _).wr (by decide)

/-- The edge is shown and its offset from the whole second reported. -/
def State.edgeShown (s : State) (sub : Nat) : State :=
  (s.wr R.CLK_STATUS_PPSOK 1).wrS R.CLK_PPSOFS_OFS (divRound (secondOffset (256 * s.clk.devTime.toNat + sub)) 256)

/-- The interval from the edge before it is a frequency measurement. -/
def State.edgeMeasured (s : State) (root : Nat) : State :=
  match s.clk.lastPps with
  | some p => s.freqIn (root - p)
  | none => s

/-- The edge, measured on the root clock and on device time. -/
def State.edgeTaken (s : State) (sub : Nat) : State :=
  ((s.edgeShown sub).edgeMeasured (1280 * s.clk.ticks + sub)).onClk
    (fun c => { c with lastPps := some (1280 * s.clk.ticks + sub), afterSet := false })

theorem exec_ppsEdge {s : State} (h : s.rd R.CLK_TBCFG_PPSEN ≠ 0) (sub : Nat) :
    exec (.ppsEdge sub) s =
      (((s.edgeTaken sub).ppsStep (secondOffset (256 * s.clk.devTime.toNat + sub))).tbEval).done := by
  show execPpsEdge sub s = _
  unfold execPpsEdge
  rw [if_neg (by simp [State.on, h])]
  rfl

theorem State.edgeMeasured_clk (s : State) (root : Nat) : ∃ l, (s.edgeMeasured root).clk = { s.clk with freqs := l } := by
  unfold State.edgeMeasured
  split
  · exact s.freqIn_clk _
  · exact ⟨_, rfl⟩

theorem State.edgeMeasured_frame (s : State) (root : Nat) :
    Frame [R.CLK_FREQERR_FERR, R.CLK_STATUS_DRIFTVAL, R.CLK_DRIFT_DRIFT] s (s.edgeMeasured root) := by
  unfold State.edgeMeasured
  split
  · exact s.freqIn_frame _
  · exact Frame.refl ..

/-- The edge is the last one; device time and a waiting step stay. -/
theorem State.edgeTaken_clk (s : State) (sub : Nat) :
    (s.edgeTaken sub).clk.lastPps = some (1280 * s.clk.ticks + sub) ∧ (s.edgeTaken sub).clk.devTime = s.clk.devTime
      ∧ (s.edgeTaken sub).clk.pend = s.clk.pend := by
  obtain ⟨l, hl⟩ := (s.edgeShown sub).edgeMeasured_clk (1280 * s.clk.ticks + sub)
  rw [State.edgeTaken, State.onClk_self, hl]
  exact ⟨rfl, rfl, rfl⟩

theorem State.rd_wrS (s : State) (f g : Fld) (v : Int) :
    (s.wrS f v).rd g = if g.key = f.key then ofIntBits f.width v else s.rd g := by
  have hlt : (v % (2 : Int) ^ f.width).toNat < 2 ^ f.width := by
    have hpos : (0 : Int) < 2 ^ f.width := Int.pow_pos (by decide)
    have hmod := Int.emod_lt_of_pos v hpos
    have hcast : ((2 ^ f.width : Nat) : Int) = (2 : Int) ^ f.width := by push_cast; rfl
    omega
  rw [State.wrS, State.rd_wr, Nat.mod_eq_of_lt hlt]
  rfl

theorem State.edgeShown_rd (s : State) (sub : Nat) :
    (s.edgeShown sub).rd R.CLK_STATUS_PPSOK = 1
      ∧ (s.edgeShown sub).rd R.CLK_PPSOFS_OFS =
        ofIntBits R.CLK_PPSOFS_OFS.width (divRound (secondOffset (256 * s.clk.devTime.toNat + sub)) 256) := by
  refine ⟨?_, ?_⟩
  · rw [State.edgeShown, State.rd_wrS, if_neg (by decide), State.rd_wr_same]
    rfl
  · rw [State.edgeShown, State.rd_wrS, if_pos rfl]

theorem State.edgeTaken_frame (s : State) (sub : Nat) :
    Frame [R.CLK_STATUS_PPSOK, R.CLK_PPSOFS_OFS, R.CLK_FREQERR_FERR, R.CLK_STATUS_DRIFTVAL, R.CLK_DRIFT_DRIFT] s (s.edgeTaken sub) :=
  ((((Frame.refl ..).wr (by decide)).wr (by decide)).trans ((State.edgeMeasured_frame ..).mono (by decide))).onClk _

/-! ### The step that an edge asks for (R46) -/

theorem State.ppsStep_frame (s : State) (ofs : Int) : Frame [R.CLK_STEPS_CLAMPS, R.CLK_INTSTAT_STEPCLAMP] s (s.ppsStep ofs) := by
  unfold State.ppsStep
  dsimp only
  split
  · exact Frame.refl ..
  · split
    · exact (Frame.refl ..).onClk _
    · exact ((Frame.refl ..).onClk _).when _ (((Frame.refl ..).wr (by decide)).wr (by decide))

/-- Only the waiting step changes. -/
theorem State.ppsStep_clk (s : State) (ofs : Int) : ∃ p, (s.ppsStep ofs).clk = { s.clk with pend := p } := by
  unfold State.ppsStep
  dsimp only
  split
  · exact ⟨_, rfl⟩
  · split
    · exact ⟨_, rfl⟩
    · exact ⟨_, State.when_keeps State.clk rfl⟩

/-- With STEPMAX 0 only a time-set waits. -/
theorem State.ppsStep_of_zero {s : State} (ofs : Int) (h : s.rd R.CLK_TBCFG_STEPMAX = 0) :
    (s.ppsStep ofs).clk.pend = timeSetOnly s.clk.pend := by
  unfold State.ppsStep
  dsimp only
  split
  · next u hp => rw [hp, timeSetOnly]
  · next hp =>
    rw [if_pos (by rw [h]; rfl)]
    cases hk : s.clk.pend with
    | none => rfl
    | discipline _ => rfl
    | timeSet u => exact absurd hk (hp u)

theorem clampI_natAbs_le (m : Nat) (u : Int) : (clampI (-m) m u).natAbs ≤ m := by
  unfold clampI
  omega

/-- No discipline step is larger than STEPMAX. -/
theorem State.ppsStep_bounded (s : State) (ofs : Int) : disciplineSize (s.ppsStep ofs).clk.pend ≤ s.rd R.CLK_TBCFG_STEPMAX := by
  have hclk (t : State) (c : Bool) :
      (t.when c (fun t => (t.count R.CLK_STEPS_CLAMPS 1).flag R.CLK_INTSTAT_STEPCLAMP)).clk = t.clk :=
    State.when_keeps State.clk rfl
  unfold State.ppsStep
  dsimp only
  split
  · next u hp => simp [hp, disciplineSize]
  · split
    · exact Nat.zero_le _
    · rw [hclk, State.onClk_self]
      dsimp only
      split
      · exact Nat.zero_le _
      · exact clampI_natAbs_le ..

/-- The registers that an edge writes. -/
def edgeFlds : List Fld :=
  [R.CLK_STATUS_PPSOK, R.CLK_PPSOFS_OFS, R.CLK_FREQERR_FERR, R.CLK_STATUS_DRIFTVAL, R.CLK_DRIFT_DRIFT, R.CLK_STATUS_TBSTATE,
   R.CLK_INTSTAT_TBCHG, R.CLK_STEPS_CLAMPS, R.CLK_INTSTAT_STEPCLAMP]

theorem ppsEdge_completes {s : State} (h : s.rd R.CLK_TBCFG_PPSEN ≠ 0) (sub : Nat) :
    Completes (.ppsEdge sub) s (fun t =>
      t.rd R.CLK_STATUS_PPSOK = 1
        ∧ t.rd R.CLK_PPSOFS_OFS = ofIntBits R.CLK_PPSOFS_OFS.width (divRound (secondOffset (256 * s.clk.devTime.toNat + sub)) 256)
        ∧ t.clk.lastPps = some (1280 * s.clk.ticks + sub) ∧ t.clk.devTime = s.clk.devTime
        ∧ (s.rd R.CLK_TBCFG_STEPMAX = 0 → t.clk.pend = timeSetOnly s.clk.pend)
        ∧ disciplineSize t.clk.pend ≤ s.rd R.CLK_TBCFG_STEPMAX ∧ Frame edgeFlds s t) := by
  let ofs := secondOffset (256 * s.clk.devTime.toNat + sub)
  obtain ⟨hok, hofs⟩ := s.edgeShown_rd sub
  obtain ⟨hlast, hdev, hpend⟩ := s.edgeTaken_clk sub
  obtain ⟨p, hp⟩ := (s.edgeTaken sub).ppsStep_clk ofs
  have hmax : (s.edgeTaken sub).rd R.CLK_TBCFG_STEPMAX = s.rd R.CLK_TBCFG_STEPMAX :=
    (s.edgeTaken_frame sub).rd _ (by decide) (by decide)
  have hafter : Frame (edgeFlds.drop 2) (s.edgeShown sub) (((s.edgeTaken sub).ppsStep ofs).tbEval).settle :=
    ((((State.edgeMeasured_frame ..).mono (by decide)).onClk _).trans (((State.ppsStep_frame ..).mono (by decide)).trans
      ((State.tbEval_frame _).mono (by decide)))).settle
  refine completes_of_done (exec_ppsEdge h sub) ⟨?_, ?_, ?_, ?_, fun hz => ?_, ?_, ?_⟩
  · exact (hafter.rd _ (by decide) (by decide)).trans hok
  · exact (hafter.rd _ (by decide) (by decide)).trans hofs
  · rw [State.settle_clk, State.tbEval_clk, hp, hlast]
  · rw [State.settle_clk, State.tbEval_clk, hp, hdev]
  · rw [State.settle_clk, State.tbEval_clk, State.ppsStep_of_zero _ (hmax.trans hz), hpend]
  · rw [State.settle_clk, State.tbEval_clk, ← hmax]
    exact State.ppsStep_bounded ..
  · exact (((s.edgeTaken_frame sub).mono (by decide)).trans (((State.ppsStep_frame ..).mono (by decide)).trans
      ((State.tbEval_frame _).mono (by decide)))).settle

/-! ### The loss of PPS (R46) -/

/-- PPS is lost: the flag, and the drift is dropped. -/
def State.ppsLost (s : State) : State := ((s.wr R.CLK_STATUS_PPSOK 0).fault R.CLK_INTSTAT_PPSLOSS 1 0).driftDrop

theorem State.fault_clk (s : State) (f : Fld) (sev unit : Nat) : (s.fault f sev unit).clk = s.clk :=
  (State.reportFree_only ..).clk.resolve_left (by decide)

theorem State.ppsLost_clk (s : State) : s.ppsLost.clk = { s.clk with freqs := [], lastPps := none } := by
  rw [State.ppsLost, State.driftDrop_clk, State.fault_clk, State.wr_clk]

theorem exec_ppsLoss {s : State} (h : s.rd R.CLK_TBCFG_PPSEN ≠ 0) :
    exec .ppsLoss s = ((s.ppsLost.onClk (fun c => { c with pend := timeSetOnly s.clk.pend })).tbEval).done := by
  have hpend : s.ppsLost.clk.pend = s.clk.pend := by rw [State.ppsLost_clk]
  show execPpsLoss s = _
  unfold execPpsLoss
  rw [if_neg (by simp [State.on, h])]
  show ((s.ppsLost.onClk (fun c => { c with pend := match s.ppsLost.clk.pend with | .discipline _ => .none | x => x })).tbEval).done = _
  rw [hpend]
  cases s.clk.pend with
  | none => rfl
  | discipline _ => rfl
  | timeSet _ => rfl

theorem State.ppsLost_rd (s : State) :
    s.ppsLost.rd R.CLK_STATUS_PPSOK = 0 ∧ s.ppsLost.rd R.CLK_INTSTAT_PPSLOSS = 1 ∧ s.ppsLost.rd R.CLK_STATUS_DRIFTVAL = 0
      ∧ s.ppsLost.rd R.CLK_DRIFT_DRIFT = 0 := by
  refine ⟨?_, ?_, ?_, ?_⟩
  · rw [State.ppsLost, State.driftDrop_rd, if_neg (by decide), State.fault_rd _ _ _ _ _ (by decide) (by decide), if_neg (by decide),
      State.rd_wr_same, Nat.zero_mod]
  · rw [State.ppsLost, State.driftDrop_rd, if_neg (by decide), State.fault_rd _ _ _ _ _ (by decide) (by decide), if_pos rfl]
    rfl
  · rw [State.ppsLost, State.driftDrop_rd, if_pos (by decide)]
  · rw [State.ppsLost, State.driftDrop_rd, if_pos (by decide)]

/-- The registers that the loss of PPS writes. -/
def ppsLossFlds : List Fld :=
  [R.CLK_STATUS_PPSOK, R.CLK_INTSTAT_PPSLOSS, R.CLK_STATUS_DRIFTVAL, R.CLK_DRIFT_DRIFT, R.CLK_STATUS_TBSTATE, R.CLK_INTSTAT_TBCHG]
    ++ reportFlds

theorem State.ppsLost_frame (s : State) : Frame ppsLossFlds s s.ppsLost :=
  (((Frame.refl _ s).wr (by decide)).fault (by decide) (by decide)).trans ((State.driftDrop_frame _).mono (by decide))

theorem ppsLoss_completes {s : State} (h : s.rd R.CLK_TBCFG_PPSEN ≠ 0) :
    Completes .ppsLoss s (fun t =>
      t.rd R.CLK_STATUS_PPSOK = 0 ∧ t.rd R.CLK_INTSTAT_PPSLOSS = 1 ∧ t.rd R.CLK_STATUS_DRIFTVAL = 0 ∧ t.rd R.CLK_DRIFT_DRIFT = 0
        ∧ t.clk.freqs = [] ∧ t.clk.lastPps = none ∧ t.clk.pend = timeSetOnly s.clk.pend ∧ Frame ppsLossFlds s t) := by
  obtain ⟨hok, hloss, hval, hdrift⟩ := s.ppsLost_rd
  have hafter : Frame tbFlds s.ppsLost
      ((s.ppsLost.onClk (fun c => { c with pend := timeSetOnly s.clk.pend })).tbEval).settle :=
    (((Frame.refl ..).onClk _).trans (State.tbEval_frame _)).settle
  have hclk : ((s.ppsLost.onClk (fun c => { c with pend := timeSetOnly s.clk.pend })).tbEval).settle.clk =
      { s.clk with freqs := [], lastPps := none, pend := timeSetOnly s.clk.pend } := by
    rw [State.settle_clk, State.tbEval_clk, State.onClk_self, State.ppsLost_clk]
  refine completes_of_done (exec_ppsLoss h) ⟨?_, ?_, ?_, ?_, ?_, ?_, ?_, s.ppsLost_frame.trans (hafter.mono (by decide))⟩
  · exact (hafter.rd _ (by decide) (by decide)).trans hok
  · exact (hafter.rd _ (by decide) (by decide)).trans hloss
  · exact (hafter.rd _ (by decide) (by decide)).trans hval
  · exact (hafter.rd _ (by decide) (by decide)).trans hdrift
  · rw [hclk]
  · rw [hclk]
  · rw [hclk]

/-! ### The snapshot (R47) -/

theorem clkTimeloRead_completes (s : State) :
    Completes .clkTimeloRead s (fun t =>
      Emit.regRead 0x10010 (s.clk.devTime.toNat % 2 ^ 32) ∈ t.out ∧ t.rd R.CLK_TIMEHI_TTHI = s.clk.devTime.toNat / 2 ^ 32
        ∧ t.clk = s.clk ∧ Frame [R.CLK_TIMELO_TLO, R.CLK_TIMEHI_TTHI] s t) := by
  have hhi : s.clk.devTime.toNat / 2 ^ 32 < 2 ^ 32 := by
    have := s.clk.devTime.isLt
    omega
  refine completes_of_done (u := s.timeLatch.emit (.regRead 0x10010 (s.clk.devTime.toNat % 2 ^ 32))) rfl ⟨?_, ?_, ?_, ?_⟩
  · exact State.settle_out _ List.mem_cons_self
  · rw [State.settle_rd _ _ (by decide) (by decide), State.emit_rd, State.timeLatch, State.rd_wr_same]
    exact Nat.mod_eq_of_lt hhi
  · rw [State.settle_clk]
    rfl
  · exact ((((Frame.refl ..).wr (by decide)).wr (by decide)).emit _).settle

/-! ### The root PLLs (R455) -/

/-- The fields that the loss of a lock writes, without those of a report. -/
def pllFlds : List Fld :=
  [R.CLK_STATUS_PLLALOCK, R.CLK_STATUS_PLLBLOCK, R.CLK_STATUS_PLLSEL, R.CLK_INTSTAT_PLLFAIL, R.FLT_INTSTAT_PLLSW]

theorem pllLock_mem (b : Bool) : pllLock b ∈ [R.CLK_STATUS_PLLALOCK, R.CLK_STATUS_PLLBLOCK] := by cases b <;> decide

/-- A lock field is none of the fields written beside it. -/
theorem pllLock_apart (b : Bool) :
    (pllLock b).key ≠ (pllLock (!b)).key ∧ (∀ g ∈ [R.CLK_STATUS_PLLSEL, R.CLK_INTSTAT_PLLFAIL, R.FLT_INTSTAT_PLLSW] ++ reportFlds,
      (pllLock b).key ≠ g.key) ∧ OffSummary (pllLock b).key := by cases b <;> decide

/-- The active PLL's lock is gone and PLLFAIL is set. -/
def State.lockGone (s : State) : State := (s.wr (pllLock (s.on R.CLK_STATUS_PLLSEL)) 0).flag R.CLK_INTSTAT_PLLFAIL

theorem State.lockGone_rd (s : State) (g : Fld) :
    s.lockGone.rd g = if g.key = R.CLK_INTSTAT_PLLFAIL.key then 1
      else if g.key = (pllLock (s.on R.CLK_STATUS_PLLSEL)).key then 0 else s.rd g := by
  rw [State.lockGone, State.rd_flag, State.rd_wr, Nat.zero_mod]
  rfl

/-- What follows the loss: the standby takes over where it is locked, and a report either way. -/
def State.standbyTakes (s : State) (act : Bool) : State :=
  if s.on (pllLock (!act)) then ((s.wrB R.CLK_STATUS_PLLSEL (!act)).flag R.FLT_INTSTAT_PLLSW).reportFree 0x21 1 2 act.toNat
  else s.reportFree 1 4 3 act.toNat

theorem exec_pllLockLoss {s : State} (h : s.rd (pllLock (s.on R.CLK_STATUS_PLLSEL)) ≠ 0) :
    exec .pllLockLoss s = (s.lockGone.standbyTakes (s.on R.CLK_STATUS_PLLSEL)).done := by
  show (s.pllLoss false).done = _
  have hlocked : s.on (pllLock (s.on R.CLK_STATUS_PLLSEL)) = true := by simpa [State.on] using h
  unfold State.pllLoss
  dsimp only
  rw [hlocked]
  rfl

theorem State.standbyTakes_frame (s : State) (act : Bool) :
    Frame ([R.CLK_STATUS_PLLSEL, R.FLT_INTSTAT_PLLSW] ++ reportFlds) s (s.standbyTakes act) := by
  unfold State.standbyTakes
  split
  · exact (((Frame.refl ..).wr (by decide)).wr (by decide)).report _ _ _ _ _ (by decide)
  · exact (Frame.refl ..).report _ _ _ _ _ (by decide)

/-- The standby is selected where it is locked. -/
theorem State.standbyTakes_sel (s : State) (act : Bool) :
    (s.standbyTakes act).on R.CLK_STATUS_PLLSEL = if s.on (pllLock (!act)) then !act else s.on R.CLK_STATUS_PLLSEL := by
  unfold State.standbyTakes
  split
  · rw [State.on, State.reportFree_rd _ _ _ _ _ _ (by decide) (by decide), State.rd_flag, if_neg (by decide), State.rd_wrB, if_pos rfl]
    cases act <;> rfl
  · rw [State.on, State.reportFree_rd _ _ _ _ _ _ (by decide) (by decide)]
    rfl

theorem pllLockLoss_completes {s : State} (h : s.rd (pllLock (s.on R.CLK_STATUS_PLLSEL)) ≠ 0) :
    Completes .pllLockLoss s (fun t =>
      t.rd (pllLock (s.on R.CLK_STATUS_PLLSEL)) = 0 ∧ t.rd R.CLK_INTSTAT_PLLFAIL = 1
        ∧ t.on R.CLK_STATUS_PLLSEL = (if s.on (pllLock (!s.on R.CLK_STATUS_PLLSEL)) then !s.on R.CLK_STATUS_PLLSEL else s.on
          R.CLK_STATUS_PLLSEL)
        ∧ Frame (pllFlds ++ reportFlds) s t) := by
  set act := s.on R.CLK_STATUS_PLLSEL with hact
  obtain ⟨hother, hapart, hoff⟩ := pllLock_apart act
  obtain ⟨-, hapart', -⟩ := pllLock_apart (!act)
  have hafter := (State.standbyTakes_frame s.lockGone act).settle
  have hstandby : s.lockGone.on (pllLock (!act)) = s.on (pllLock (!act)) := by
    rw [State.on, State.lockGone_rd, if_neg (hapart' _ (by decide)), if_neg hother.symm]
    rfl
  have hsel : s.lockGone.on R.CLK_STATUS_PLLSEL = act := by
    rw [State.on, State.lockGone_rd, if_neg (by decide), if_neg (hapart _ (by decide)).symm]
    rfl
  refine completes_of_done (exec_pllLockLoss h) ⟨?_, ?_, ?_, ?_⟩
  · rw [hafter.rd _ (fun g hg => hapart g (by revert g; decide)) hoff, State.lockGone_rd, if_neg (hapart _ (by decide)), if_pos rfl]
  · rw [hafter.rd _ (by decide) (by decide), State.lockGone_rd, if_pos rfl]
  · have hsettle := State.settle_rd (s.lockGone.standbyTakes act) R.CLK_STATUS_PLLSEL (by decide) (by decide)
    rw [State.on, hsettle, ← State.on, State.standbyTakes_sel, hstandby, hsel]
  · have hgone : Frame (pllFlds ++ reportFlds) s s.lockGone :=
      ((Frame.refl ..).wr ((by decide : _ ⊆ pllFlds ++ reportFlds) (pllLock_mem act))).wr (by decide)
    exact hgone.trans (hafter.mono (by decide))

theorem exec_pllRelock {s : State} (h : s.rd (pllLock (!s.on R.CLK_STATUS_PLLSEL)) = 0) :
    exec (.pllRelock true) s =
      ((s.wr (pllLock (!s.on R.CLK_STATUS_PLLSEL)) 1).reportFree 0x21 2 0 (!s.on R.CLK_STATUS_PLLSEL).toNat).done := by
  have hoff : s.on (pllLock (!s.on R.CLK_STATUS_PLLSEL)) = false := by rw [State.on, h]; rfl
  exact if_pos (by rw [hoff]; rfl)

theorem pllRelock_completes {s : State} (h : s.rd (pllLock (!s.on R.CLK_STATUS_PLLSEL)) = 0) :
    Completes (.pllRelock true) s (fun t =>
      t.rd (pllLock (!s.on R.CLK_STATUS_PLLSEL)) = 1 ∧ t.rd R.CLK_STATUS_PLLSEL = s.rd R.CLK_STATUS_PLLSEL
        ∧ Frame ([R.CLK_STATUS_PLLALOCK, R.CLK_STATUS_PLLBLOCK] ++ reportFlds) s t) := by
  have hframe : Frame ([R.CLK_STATUS_PLLALOCK, R.CLK_STATUS_PLLBLOCK] ++ reportFlds) s _ :=
    ((((Frame.refl ..).wr (v := 1) (List.mem_append_left _ (pllLock_mem (!s.on R.CLK_STATUS_PLLSEL)))).report 0x21 2 0
      (!s.on R.CLK_STATUS_PLLSEL).toNat (Config.freeDetail 0x21 2 (!s.on R.CLK_STATUS_PLLSEL).toNat) (by decide))).settle
  obtain ⟨-, hapart, hoff⟩ := pllLock_apart (!s.on R.CLK_STATUS_PLLSEL)
  refine completes_of_done (exec_pllRelock h) ⟨?_, hframe.rd _ (by decide) (by decide), hframe⟩
  rw [State.settle_rd _ _ hoff.1 hoff.2, State.reportFree_rd _ _ _ _ _ _ (hapart _ (by decide)) (hapart _ (by decide)),
    State.rd_wr_same]
  cases s.on R.CLK_STATUS_PLLSEL <;> rfl

/-- A command that does nothing completes with everything as it was. -/
theorem completes_of_idle {c : Instr} {s : State} (h : exec c s = s.done) :
    Completes c s (fun t => t.clk = s.clk ∧ Frame [] s t) :=
  completes_of_done h ⟨s.settle_clk, (Frame.refl [] s).settle⟩

/-- Settles O17: an edge, the loss of PPS, the snapshot and the lock detectors, each from its own law. -/
theorem ppsAndRootPllCommands : Obligations.PpsAndRootPllCommands :=
  ⟨fun _ _ h => completes_of_idle (if_pos (by simp [State.on, h])), fun sub _ h => ppsEdge_completes h sub,
    fun _ h => ppsLoss_completes h, clkTimeloRead_completes, fun _ h => pllLockLoss_completes h,
    fun _ h => pllRelock_completes h, fun s => completes_of_idle rfl⟩

end Sys2Proof.Machine
end

section
/-!
Start-up stages TRUSS_TEST, CLOCK, ROM_START and HBM_TRAIN (R58 to R60, R291, R428, R429): what each result leaves of GLB_STATUS, of the
block it concerns and of start-up's own record (O13).
-/
namespace Sys2Proof.Machine

/-! ### Register keys that an operation leaves alone -/

/-- Every register field whose key satisfies `P` keeps its value, and what has left the part stays on record. -/
structure Spares (P : Nat → Prop) (s t : State) : Prop where
  rd  : ∀ f : Fld, P f.key → t.rd f = s.rd f
  out : s.out ⊆ t.out

section
variable {P : Nat → Prop} {s u t : State}

theorem Spares.refl (P : Nat → Prop) (s : State) : Spares P s s := ⟨fun _ _ => rfl, List.Subset.refl _⟩

theorem Spares.trans (h : Spares P s u) (h' : Spares P u t) : Spares P s t :=
  ⟨fun f hf => (h'.rd f hf).trans (h.rd f hf), List.Subset.trans h.out h'.out⟩

/-- Fewer keys. -/
theorem Spares.imp {Q : Nat → Prop} (h : Spares P s t) (hq : ∀ k, Q k → P k) : Spares Q s t := ⟨fun f hf => h.rd f (hq _ hf), h.out⟩

/-- A change of neither the registers nor of what has left the part. -/
theorem Spares.regs (h : Spares P s u) (hr : t.regs = u.regs) (ho : t.out = u.out) : Spares P s t :=
  h.trans ⟨fun f _ => by rw [State.rd, State.rd, hr], fun _ he => ho.symm ▸ he⟩

theorem Spares.wr {f : Fld} {v : Nat} (h : Spares P s u) (hf : ¬ P f.key) : Spares P s (u.wr f v) :=
  h.trans ⟨fun g hg => State.rd_wr_ne u f g v fun he => hf (he ▸ hg), List.Subset.refl _⟩

theorem Spares.bump {f : Fld} {n : Nat} (h : Spares P s u) (hf : ¬ P f.key) : Spares P s (u.bump f n) := h.wr hf

theorem Spares.emit (h : Spares P s u) (e : Emit) : Spares P s (u.emit e) := h.trans ⟨fun _ _ => rfl, List.subset_cons_self ..⟩

/-- An operation whose register blocks hold no such key, and that says nothing. -/
theorem Spares.app {m : Nat} (h : Spares P s u) (ho : Only m u t) (hm : ∀ k, P k → m.testBit (blk k) = false)
    (h54 : m.testBit 54 = false) : Spares P s t :=
  h.trans ⟨fun f hf => ho.rd f (hm f.key hf), fun _ he => (ho.out.resolve_left (by simp [h54])).symm ▸ he⟩

theorem Spares.onTrs (h : Spares P s u) (f : TrsState → TrsState) : Spares P s (u.onTrs f) := h.regs rfl rfl

theorem Spares.when (h : Spares P s u) (c : Bool) {f : State → State} (hf : Spares P u (f u)) : Spares P s (u.when c f) := by
  unfold State.when
  split
  · exact h.trans hf
  · exact h

theorem Spares.foldl {α : Type} {f : State → α → State} (h : Spares P s u) (hf : ∀ t a, Spares P t (f t a)) (l : List α) :
    Spares P s (l.foldl f u) :=
  List.foldlRecOn l f h fun _ ht a _ => ht.trans (hf _ a)

end

/-! ### Truss's stop paths (R113, R304, R312) -/

/-- The fields that follow Truss's state: its own, and those of a hush. -/
def trsEvalFlds : List Fld :=
  [R.TRS_STATE_HOLD, R.TRS_STATE_LIGHT, R.TRS_STATE_DARKCMD, R.TRS_STATE_SOUTCMD, R.TRS_EVENT_NUM, R.BTN_HUSHGEN_GEN,
    R.BTN_STATUS_HUSHED, R.PEG_VOIDSHOT_CNT]

/-- A key other than those that follow Truss's state. -/
def OffEval (k : Nat) : Prop := ∀ g ∈ trsEvalFlds, k ≠ g.key

theorem not_offEval {f : Fld} (h : f ∈ trsEvalFlds) : ¬ OffEval f.key := fun hk => hk f h rfl

/-- No key lies in a block of a mask without register blocks. -/
theorem no_blk {m : Nat} (hm : ∀ b < 27, m.testBit b = false) (k : Nat) : m.testBit (blk k) = false :=
  hm _ (Nat.lt_succ_of_le (blk_le k))

theorem State.ringOut_spares (P : Nat → Prop) (s : State) (r dirs : Nat) (e : Nat → Emit) : Spares P s (s.ringOut r dirs e) := by
  have hdirs (d : Nat) : Spares P s (if d = 0 then s else s.emit (e d)) := by
    split
    · exact .refl ..
    · exact (Spares.refl P s).emit _
  exact hdirs _

theorem State.laneOut_spares (P : Nat → Prop) (s : State) (p : Nat) (chars : List RingChar) : Spares P s (s.laneOut p chars) := by
  unfold State.laneOut
  split
  · exact .refl ..
  · exact (((Spares.refl P s).regs rfl rfl).emit _).regs rfl rfl

theorem State.hushSets_spares (P : Nat → Prop) (s : State) (r n : Nat) : Spares P s (s.hushSets r n) :=
  ((State.ringOut_spares P ..).trans (State.laneOut_spares P ..)).trans (State.laneOut_spares P ..)

theorem State.onRings_spares {P : Nat → Prop} (s : State) (p : State → Nat → Bool) {f : State → Nat → State}
    (hf : ∀ t r, Spares P t (f t r)) : Spares P s (s.onRings p f) := by
  unfold State.onRings
  refine (Spares.refl P s).foldl (fun t r => ?_) _
  split
  · exact hf t r
  · exact .refl ..

/-- A fire that is discarded is counted as void. -/
theorem State.discardFire_spares (s : State) (f : Fire) : Spares OffEval s (s.discardFire f) := by
  have hvoid (u : State) : Spares OffEval u (u.voidOf f fun _ => true) := by
    unfold State.voidOf
    split
    · exact .refl ..
    · exact Spares.bump (f := R.PEG_VOIDSHOT_CNT) ((Spares.refl _ u).regs rfl rfl) (not_offEval (by decide))
  unfold State.discardFire
  dsimp only
  split
  · exact (Spares.refl _ s).regs rfl rfl
  · refine Spares.trans ?_ (hvoid _)
    exact (Spares.refl _ s).regs rfl rfl

theorem State.hushStart_spares (s : State) : Spares OffEval s s.hushStart := by
  have hgen : Spares OffEval s ((s.count R.BTN_HUSHGEN_GEN 1).wr R.BTN_STATUS_HUSHED 1) :=
    ((Spares.refl _ s).wr (not_offEval (by decide))).wr (not_offEval (by decide))
  have hrings := hgen.trans (State.onRings_spares _ State.ringEn fun t r => State.hushSets_spares OffEval t r 240)
  refine Spares.foldl ?_ State.discardFire_spares _
  exact hrings.regs rfl rfl

theorem State.goLight_spares (s : State) : Spares OffEval s s.goLight := by
  unfold State.goLight
  split
  · exact .refl ..
  · split
    · exact (Spares.refl _ s).onTrs _
    · exact (((Spares.refl _ s).wr (f := R.TRS_STATE_DARKCMD) (v := 1) (not_offEval (by decide))).emit _).onTrs _

/-- DARK_N is commanded low. -/
def State.darkLow (s : State) : State :=
  if s.on R.TRS_STATE_DARKCMD then
    ((s.wr R.TRS_STATE_DARKCMD 0).emit (.darkN false)).onTrs (fun t => { t with darkTick := s.clk.porTicks })
  else s

/-- The hush request is raised where it does not stand. -/
def State.hushRaised (s : State) : State :=
  if s.trs.hushReq then s else (s.onTrs (fun t => { t with hushReq := true })).hushStart

theorem State.goDark_eq (s : State) :
    s.goDark = (s.onTrs (fun t => { t with darkRel := false, withdraw := false })).darkLow.hushRaised := rfl

theorem State.hushRaised_only (s : State) : Only 0xc2103000000820 s s.hushRaised := by
  unfold State.hushRaised
  split
  · exact Only.refl ..
  · exact ((Only.refl _ s).app (State.onTrs_only ..) (by decide)).app (State.hushStart_only _) (by decide)

theorem State.hushRaised_spares (s : State) : Spares OffEval s s.hushRaised := by
  unfold State.hushRaised
  split
  · exact .refl ..
  · exact ((Spares.refl _ s).onTrs _).trans (State.hushStart_spares _)

theorem State.darkLow_rd (s : State) : s.darkLow.rd R.TRS_STATE_DARKCMD = 0 := by
  unfold State.darkLow
  split
  · exact State.rd_wr_same s R.TRS_STATE_DARKCMD 0
  · next h => simpa [State.on] using h

theorem State.goDark_rd (s : State) : s.goDark.rd R.TRS_STATE_DARKCMD = 0 := by
  rw [State.goDark_eq, (State.hushRaised_only _).rd _ (by decide), State.darkLow_rd]

theorem State.goDark_spares (s : State) : Spares OffEval s s.goDark := by
  have hlow (u : State) : Spares OffEval u u.darkLow := by
    unfold State.darkLow
    split
    · exact (((Spares.refl _ u).wr (f := R.TRS_STATE_DARKCMD) (v := 0) (not_offEval (by decide))).emit _).onTrs _
    · exact .refl ..
  rw [State.goDark_eq]
  exact (((Spares.refl _ s).onTrs _).trans (hlow _)).trans (State.hushRaised_spares _)

/-- A safety output follows its level: of the registers only SOUTCMD changes. -/
theorem State.soutStep_spares (s : State) (k : Nat) : Spares (· ≠ R.TRS_STATE_SOUTCMD.key) s (s.soutStep k) := by
  have hstart (c : Bool) (f : TrsState → TrsState) : Spares (· ≠ R.TRS_STATE_SOUTCMD.key) s (if c then s.onTrs f else s) := by
    split
    · exact (Spares.refl _ s).onTrs f
    · exact .refl ..
  unfold State.soutStep
  dsimp only
  split
  · exact hstart _ _
  · exact ((hstart _ _).wr (· rfl)).emit _

theorem State.soutSteps_spares (l : List Nat) (s : State) : Spares (· ≠ R.TRS_STATE_SOUTCMD.key) s (l.foldl State.soutStep s) :=
  (Spares.refl _ s).foldl State.soutStep_spares l

theorem State.trsMarker_spares (s : State) (prev cause : Nat) : Spares (· ≠ R.TRS_EVENT_NUM.key) s (s.trsMarker prev cause) := by
  have hcount : Spares (· ≠ R.TRS_EVENT_NUM.key) s (s.count R.TRS_EVENT_NUM 1) := (Spares.refl _ s).wr (· rfl)
  unfold State.trsMarker
  dsimp only
  split
  · exact hcount
  · exact hcount.regs rfl rfl

/-- HOLD and LIGHT as the state and its inputs ask for them. -/
def State.lightShown (s : State) : State := (s.wrB R.TRS_STATE_HOLD s.anyHold).wrB R.TRS_STATE_LIGHT s.lightOk

/-- The stop paths follow. -/
def State.stopPaths (s : State) : State :=
  (List.range 4).foldl State.soutStep (if s.lightShown.lightOk then s.lightShown.goLight else s.lightShown.goDark)

theorem State.trsEvalFrom_eq (s : State) (prev cause : Nat) :
    s.trsEvalFrom prev cause = s.stopPaths ∨ s.trsEvalFrom prev cause = s.stopPaths.trsMarker prev cause := by
  have heval : s.trsEvalFrom prev cause =
      if prev != s.stopPaths.trsState
        || (s.rd R.TRS_STATE_DARKCMD, s.soutCmd) != (s.stopPaths.rd R.TRS_STATE_DARKCMD, s.stopPaths.soutCmd)
      then s.stopPaths.trsMarker prev cause else s.stopPaths := rfl
  rw [heval]
  split
  · exact .inr rfl
  · exact .inl rfl

theorem State.stopPaths_spares (s : State) : Spares OffEval s s.stopPaths := by
  have hshown : Spares OffEval s s.lightShown :=
    ((Spares.refl _ s).wr (not_offEval (by decide))).wr (not_offEval (by decide))
  refine Spares.trans ?_ ((State.soutSteps_spares ..).imp fun _ hk => hk _ (by decide))
  split
  · exact hshown.trans (State.goLight_spares _)
  · exact hshown.trans (State.goDark_spares _)

theorem State.trsEvalFrom_spares (s : State) (prev cause : Nat) : Spares OffEval s (s.trsEvalFrom prev cause) := by
  rcases s.trsEvalFrom_eq prev cause with h | h
  · rw [h]
    exact s.stopPaths_spares
  · rw [h]
    exact s.stopPaths_spares.trans ((State.trsMarker_spares ..).imp fun _ hk => hk _ (by decide))

@[simp] theorem State.trsEvalFrom_trsState (s : State) (prev cause : Nat) : (s.trsEvalFrom prev cause).trsState = s.trsState :=
  (s.trsEvalFrom_spares prev cause).rd R.TRS_STATE_STATE (by unfold OffEval; decide)

/-- Light needs ARMED or LIMP (R294). -/
theorem State.lightOk_of_state {s : State} (h : s.trsState ≠ 1 ∧ s.trsState ≠ 2) : s.lightOk = false := by
  simp [State.lightOk, h.1, h.2]

/-- Outside ARMED and LIMP the stop paths drive DARK_N low (R294, R304). -/
theorem State.trsEvalFrom_dark {s : State} (h : s.trsState ≠ 1 ∧ s.trsState ≠ 2) (prev cause : Nat) :
    (s.trsEvalFrom prev cause).rd R.TRS_STATE_DARKCMD = 0 := by
  have hstate : s.lightShown.trsState = s.trsState := by
    rw [State.trsState, State.lightShown, State.rd_wrB, if_neg (by decide), State.rd_wrB, if_neg (by decide)]
    rfl
  have hlight : s.lightShown.lightOk = false := State.lightOk_of_state (by rwa [hstate])
  have hstop : s.stopPaths.rd R.TRS_STATE_DARKCMD = 0 := by
    unfold State.stopPaths
    rw [hlight, (State.soutSteps_spares ..).rd _ (by decide)]
    exact State.goDark_rd _
  rcases s.trsEvalFrom_eq prev cause with he | he
  · rw [he, hstop]
  · rw [he, (State.trsMarker_spares ..).rd _ (by decide), hstop]

/-! ### Faults of a rail in SAFE (R291, R315) -/

/-- Truss is dark in state `n`, and its supply status is as in `s`. -/
def DarkIn (n : Nat) (s t : State) : Prop :=
  t.trsState = n ∧ t.rd R.TRS_STATE_DARKCMD = 0 ∧ t.rd R.TRS_SUPSTAT_INWIN = s.rd R.TRS_SUPSTAT_INWIN

/-- LOCKOUT and HALT end dark, whether the state changes or stays. -/
theorem State.setTrs_dark (s : State) {n : Nat} (hn : n = 3 ∨ n = 4) (cause detail : Nat) : DarkIn n s (s.setTrs n cause detail) := by
  have hne : n ≠ 1 ∧ n ≠ 2 := by omega
  unfold State.setTrs
  dsimp only
  split
  · next h =>
    exact ⟨(State.trsEvalFrom_trsState ..).trans h, State.trsEvalFrom_dark (by rwa [h]) _ _,
      (s.trsEvalFrom_spares _ _).rd _ (by unfold OffEval; decide)⟩
  · set u := ((((s.wr R.TRS_STATE_STATE n).wr R.TRS_LASTCAUSE_CAUSE cause).wr R.TRS_LASTCAUSE_DETAIL detail).flag
      R.TRS_INTSTAT_STATECHG) with hu
    have hstate : u.trsState = n := by
      rw [hu, State.trsState, State.rd_flag, if_neg (by decide), State.rd_wr_ne _ _ _ _ (by decide), State.rd_wr_ne _ _ _ _ (by decide),
        State.rd_wr_same]
      exact Nat.mod_eq_of_lt (by simp [R.TRS_STATE_STATE]; omega)
    refine ⟨(State.trsEvalFrom_trsState ..).trans hstate, State.trsEvalFrom_dark (by rwa [hstate]) _ _,
      ((u.trsEvalFrom_spares _ _).rd _ (by unfold OffEval; decide)).trans ?_⟩
    rw [hu, State.rd_flag, if_neg (by decide), State.rd_wr_ne _ _ _ _ (by decide), State.rd_wr_ne _ _ _ _ (by decide),
      State.rd_wr_ne _ _ _ _ (by decide)]

/-- What precedes the reaction to a fault: the flag of its class and its report. -/
def State.faultNoted (s : State) (cause detail : Nat) : State := (s.trsClassFlag cause).trsReport cause detail

theorem State.faultNoted_rd (s : State) (cause detail : Nat) (f : Fld)
    (hf : ∀ g ∈ [R.TRS_INTSTAT_EXPFAULT, R.TRS_INTSTAT_DEVFAULT] ++ reportFlds, f.key ≠ g.key) :
    (s.faultNoted cause detail).rd f = s.rd f := by
  rw [State.faultNoted, State.trsReport, State.report_rd _ _ _ _ _ _ _ (hf _ (by decide)) (hf _ (by decide)), State.trsClassFlag]
  split
  · rw [State.rd_flag, if_neg (hf _ (by decide))]
  · split
    · rw [State.rd_flag, if_neg (hf _ (by decide))]
    · rfl

theorem DarkIn.of_noted {n : Nat} {s t : State} {cause detail : Nat} (h : DarkIn n (s.faultNoted cause detail) t) : DarkIn n s t := by
  obtain ⟨hstate, hdark, hinwin⟩ := h
  exact ⟨hstate, hdark, hinwin.trans (State.faultNoted_rd _ _ _ _ (by decide))⟩

theorem DarkIn.of_onTrs {n : Nat} {s t : State} {f : TrsState → TrsState} (h : DarkIn n (s.onTrs f) t) : DarkIn n s t := h

/-- A rail's fault leads from SAFE to LOCKOUT, and is only logged there. -/
theorem State.railFault_dark {s : State} (h : s.trsState = 0 ∨ s.trsState = 3) (i : Nat) : DarkIn 3 s (s.trussFault 0x0201 i) := by
  have hnoted : (s.faultNoted 0x0201 i).trsState = s.trsState := State.faultNoted_rd _ _ _ _ (by decide)
  have h4 : s.trsState ≠ 4 := by omega
  have hfault : s.trussFault 0x0201 i = if (s.faultNoted 0x0201 i).trsState = 3 then (s.faultNoted 0x0201 i).trsEval 0x0201
      else ((s.faultNoted 0x0201 i).onTrs (fun t => { t with limp := [] })).setTrs 3 0x0201 i := by
    have h1 : ((s.faultNoted 0x0201 i).trsState == 1) = false := by rw [hnoted]; rcases h with h | h <;> rw [h] <;> rfl
    have h2 : ((s.faultNoted 0x0201 i).trsState == 2) = false := by rw [hnoted]; rcases h with h | h <;> rw [h] <;> rfl
    simp only [State.faultNoted] at h1 h2 ⊢
    unfold State.trussFault
    rw [if_neg h4]
    simp [h1, h2]
    rfl
  rw [hfault]
  split
  · next h3 =>
    exact DarkIn.of_noted ⟨(State.trsEvalFrom_trsState ..).trans h3, State.trsEvalFrom_dark (by rw [h3]; decide) _ _,
      (State.trsEvalFrom_spares _ _ _).rd _ (by unfold OffEval; decide)⟩
  · exact (State.setTrs_dark _ (.inl rfl) _ _).of_onTrs.of_noted

/-- The fault of the monitor's own rail halts Truss. -/
theorem State.ownRailFault_dark {s : State} (h : s.trsState ≠ 4) (i : Nat) : DarkIn 4 s (s.trussFault 0x0303 i) := by
  have hfault : s.trussFault 0x0303 i = ((s.faultNoted 0x0303 i).onTrs (fun t => { t with limp := [] })).setTrs 4 0x0303 i := by
    unfold State.trussFault
    rw [if_neg h]
    rfl
  rw [hfault]
  exact (State.setTrs_dark _ (.inr rfl) _ _).of_onTrs.of_noted

/-! ### TRUSS_TEST (R58, R291) -/

theorem bootAt_of_standsAt {n : Nat} {s : State} (h : StandsAt n s) : s.bootAt n = true := by
  obtain ⟨hstage, hreset, hporn, hpow, hended, hgated⟩ := h
  simp [State.bootAt, State.stage, hstage, hreset, hporn, hpow, hended, hgated]

/-- A rail outside its window is a fault at once. -/
def railStep (rails : BitVec 16) (t : State) (i : Nat) : State :=
  if rails.getLsbD i then t else t.trussFault (if i = 15 then 0x0303 else 0x0201) i

/-- The supply monitors are armed. -/
def State.railsShown (s : State) (rails : BitVec 16) : State := s.wr R.TRS_SUPSTAT_INWIN rails.toNat

theorem exec_trussTest {s : State} (h : StandsAt 1 s) (rails : BitVec 16) :
    exec (.trussTest true rails) s = (((List.range 16).foldl (railStep rails) (s.railsShown rails)).enterStage 2).done := by
  show execTrussTest true rails s = _
  unfold execTrussTest
  rw [bootAt_of_standsAt h]
  rfl

theorem State.railsShown_rd (s : State) (rails : BitVec 16) : (s.railsShown rails).rd R.TRS_SUPSTAT_INWIN = rails.toNat := by
  rw [State.railsShown, State.rd_wr_same]
  exact Nat.mod_eq_of_lt rails.isLt

/-- With every rail inside its window nothing happens to Truss. -/
theorem railSteps_of_good (n : Nat) (hn : n ≤ 16) (s : State) : (List.range n).foldl (railStep 0xFFFF#16) s = s := by
  induction n with
  | zero => rfl
  | succ n ih =>
    rw [List.range_succ, List.foldl_append, ih (by omega)]
    exact if_pos ((by decide : ∀ i < 16, (0xFFFF#16).getLsbD i = true) n (by omega))

/-- Before the monitor's own rail: Truss is untouched while all rails are good, and locked out and dark behind the first bad one. -/
theorem railSteps_of_safe {s : State} (h : s.trsState = 0) (rails : BitVec 16) (n : Nat) (hn : n ≤ 15) :
    ((List.range n).foldl (railStep rails) s = s ∧ ∀ i < n, rails.getLsbD i = true)
      ∨ DarkIn 3 s ((List.range n).foldl (railStep rails) s) := by
  induction n with
  | zero => exact .inl ⟨rfl, fun i hi => absurd hi (Nat.not_lt_zero i)⟩
  | succ n ih =>
    have hstep (t : State) : railStep rails t n = if rails.getLsbD n then t else t.trussFault 0x0201 n := by
      rw [railStep, if_neg (by omega : ¬ n = 15)]
    rw [List.range_succ, List.foldl_append]
    show (railStep rails _ n = s ∧ _) ∨ DarkIn 3 s (railStep rails _ n)
    rw [hstep]
    rcases ih (by omega) with ⟨hs, hgood⟩ | hdark
    · rw [hs]
      split
      · next hi =>
        refine .inl ⟨rfl, fun i hlt => ?_⟩
        rcases Nat.lt_succ_iff_lt_or_eq.mp hlt with hlt | rfl
        · exact hgood i hlt
        · exact hi
      · exact .inr (State.railFault_dark (.inl h) n)
    · split
      · exact .inr hdark
      · obtain ⟨hstate, -, hinwin⟩ := hdark
        obtain ⟨hstate', hdark', hinwin'⟩ := State.railFault_dark (.inr hstate) n
        exact .inr ⟨hstate', hdark', hinwin'.trans hinwin⟩

/-- A word whose bits are all set. -/
theorem rails_eq_of_bits {rails : BitVec 16} (h : ∀ i < 16, rails.getLsbD i = true) : rails = 0xFFFF#16 := by
  refine BitVec.eq_of_getLsbD_eq fun i hi => ?_
  rw [h i hi, (by decide : ∀ i < 16, (0xFFFF#16).getLsbD i = true) i hi]

/-- A rail outside its window locks Truss out, the monitor's own rail halts it (R291). -/
theorem railSteps_dark {s : State} (h : s.trsState = 0) {rails : BitVec 16} (hr : rails ≠ 0xFFFF#16) :
    DarkIn (if rails.getLsbD 15 then 3 else 4) s ((List.range 16).foldl (railStep rails) s) := by
  have hlast : (List.range 16).foldl (railStep rails) s =
      if rails.getLsbD 15 then (List.range 15).foldl (railStep rails) s
      else ((List.range 15).foldl (railStep rails) s).trussFault 0x0303 15 := by
    rw [List.range_succ, List.foldl_append]
    rfl
  rw [hlast]
  rcases railSteps_of_safe h rails 15 (le_refl _) with ⟨hs, hgood⟩ | hdark
  · have hbad : rails.getLsbD 15 = false := by
      refine Bool.eq_false_iff.mpr fun hown => hr (rails_eq_of_bits fun i hi => ?_)
      rcases Nat.lt_succ_iff_lt_or_eq.mp hi with hi | rfl
      · exact hgood i hi
      · exact hown
    rw [hs, hbad]
    exact State.ownRailFault_dark (by rw [h]; decide) 15
  · cases rails.getLsbD 15 with
    | true => exact hdark
    | false =>
      obtain ⟨hstate, -, hinwin⟩ := hdark
      obtain ⟨hstate', hdark', hinwin'⟩ := State.ownRailFault_dark (by rw [hstate]; decide) 15
      exact ⟨hstate', hdark', hinwin'.trans hinwin⟩

/-- The entry to a stage before SETTINGS, behind the summary: what is shown, the line, and what is left alone. -/
theorem State.enterStage_settle {n : Nat} (hn : n < 6) (s : State) :
    (s.enterStage n).settle.rd R.GLB_STATUS_STAGE = n ∧ (s.enterStage n).settle.rd R.GLB_STATUS_CAUSE = 0
      ∧ Emit.line n (lineTime s) 0 0 ∈ (s.enterStage n).settle.out ∧ Frame stageFlds s (s.enterStage n).settle := by
  obtain ⟨hstage, hcause⟩ := s.enterStage_shows n (by omega)
  refine ⟨?_, ?_, ?_, ((Frame.refl _ s).enterStage_early hn (List.Subset.refl _)).settle⟩
  · rw [State.settle_rd _ _ (by decide) (by decide), hstage]
  · rw [State.settle_rd _ _ (by decide) (by decide), hcause]
  · refine State.settle_out _ ?_
    rw [State.enterStage_out]
    exact List.mem_cons_self

theorem trussTest_passes {s : State} (h : StandsAt 1 s) :
    Completes (.trussTest true 0xFFFF#16) s (fun t =>
      t.rd R.GLB_STATUS_STAGE = 2 ∧ t.rd R.GLB_STATUS_CAUSE = 0 ∧ t.rd R.TRS_SUPSTAT_INWIN = 0xFFFF
        ∧ Emit.line 2 (lineTime s) 0 0 ∈ t.out ∧ t.trs = s.trs ∧ Frame (R.TRS_SUPSTAT_INWIN :: stageFlds) s t) := by
  have hexec := exec_trussTest h 0xFFFF#16
  rw [railSteps_of_good 16 (le_refl _)] at hexec
  obtain ⟨hstage, hcause, hline, hframe⟩ := (s.railsShown 0xFFFF#16).enterStage_settle (n := 2) (by decide)
  refine completes_of_done hexec ⟨hstage, hcause, ?_, hline, ?_, ?_⟩
  · exact (hframe.rd _ (by decide) (by decide)).trans (s.railsShown_rd _)
  · rw [State.settle_trs, (State.enterStage_only ..).trs.resolve_left (by decide)]
    rfl
  · exact ((Frame.refl _ s).wr (by decide)).trans (hframe.mono (List.subset_cons_self ..))

theorem trussTest_faults {s : State} (h : StandsAt 1 s) {rails : BitVec 16} (hr : rails ≠ 0xFFFF#16)
    (hsafe : s.rd R.TRS_STATE_STATE = 0) :
    Completes (.trussTest true rails) s (fun t =>
      t.rd R.TRS_STATE_STATE = (if rails.getLsbD 15 then 3 else 4) ∧ t.rd R.TRS_STATE_DARKCMD = 0
        ∧ t.rd R.TRS_SUPSTAT_INWIN = rails.toNat ∧ t.rd R.GLB_STATUS_STAGE = 2 ∧ KeepsMemory s t) := by
  have hexec := exec_trussTest h rails
  have hstart : (s.railsShown rails).trsState = 0 := hsafe ▸ State.rd_wr_ne s R.TRS_SUPSTAT_INWIN _ _ (by decide)
  obtain ⟨hstate, hdark, hinwin⟩ := railSteps_dark hstart hr
  obtain ⟨hstage, -, -, hframe⟩ :=
    ((List.range 16).foldl (railStep rails) (s.railsShown rails)).enterStage_settle (n := 2) (by decide)
  refine completes_of_done hexec ⟨?_, ?_, ?_, hstage, (execTrussTest_only true rails s _ hexec).keepsMemory (by decide) (by decide)⟩
  · exact (hframe.rd _ (by decide) (by decide)).trans hstate
  · exact (hframe.rd _ (by decide) (by decide)).trans hdark
  · exact (hframe.rd _ (by decide) (by decide)).trans (hinwin.trans (s.railsShown_rd rails))

/-- A stall before SETTINGS, behind the summary. -/
theorem State.stall_settle {s : State} (hs : s.stage < 6) {c : Nat} (hc : c < 256) :
    (s.stall c 0).settle.rd R.GLB_STATUS_STAGE = s.stage ∧ (s.stall c 0).settle.rd R.GLB_STATUS_CAUSE = c
      ∧ (s.stall c 0).settle.boot.stalled = true ∧ Emit.line s.stage (lineTime s) c 0 ∈ (s.stall c 0).settle.out
      ∧ Frame stageFlds s (s.stall c 0).settle := by
  obtain ⟨hstage, hcause, -⟩ := s.stageLine_shows s.stage c 0
  refine ⟨?_, ?_, ?_, ?_, ((Frame.refl _ s).stall_early hs c 0 (List.Subset.refl _)).settle⟩
  · rw [State.settle_rd _ _ (by decide) (by decide)]
    exact hstage.trans (Nat.mod_eq_of_lt (by omega))
  · rw [State.settle_rd _ _ (by decide) (by decide)]
    exact hcause.trans (Nat.mod_eq_of_lt hc)
  · rw [State.settle_boot, State.stall_boot]
  · refine State.settle_out _ ?_
    rw [State.stall_out]
    exact List.mem_cons_self

/-- Start-up that ends shows what a stall shows. -/
theorem State.bootEnds_eq (s : State) (c : Nat) : s.bootEnds c = (s.stall c 0).onBoot (fun b => { b with ended := true }) := rfl

/-- The end of start-up before SETTINGS, behind the summary. -/
theorem State.bootEnds_settle {s : State} (hs : s.stage < 6) {c : Nat} (hc : c < 256) :
    (s.bootEnds c).settle.rd R.GLB_STATUS_STAGE = s.stage ∧ (s.bootEnds c).settle.rd R.GLB_STATUS_CAUSE = c
      ∧ (s.bootEnds c).settle.boot.ended = true ∧ Emit.line s.stage (lineTime s) c 0 ∈ (s.bootEnds c).settle.out
      ∧ Frame stageFlds s (s.bootEnds c).settle := by
  obtain ⟨hstage, hcause, -⟩ := s.stageLine_shows s.stage c 0
  refine ⟨?_, ?_, ?_, ?_, (((Frame.refl _ s).stall_early hs c 0 (List.Subset.refl _)).onBoot _).settle⟩
  · rw [State.settle_rd _ _ (by decide) (by decide)]
    exact hstage.trans (Nat.mod_eq_of_lt (by omega))
  · rw [State.settle_rd _ _ (by decide) (by decide)]
    exact hcause.trans (Nat.mod_eq_of_lt hc)
  · rw [State.settle_boot]
    rfl
  · refine State.settle_out _ ?_
    rw [State.bootEnds_eq, State.onBoot_out, State.stall_out]
    exact List.mem_cons_self

theorem trussTest_fails {s : State} (h : StandsAt 1 s) (rails : BitVec 16) :
    Completes (.trussTest false rails) s (fun t =>
      t.rd R.GLB_STATUS_STAGE = 1 ∧ t.rd R.GLB_STATUS_CAUSE = 1 ∧ t.boot.ended = true ∧ Emit.line 1 (lineTime s) 1 0 ∈ t.out
        ∧ t.trs = s.trs ∧ Frame stageFlds s t) := by
  have hexec : exec (.trussTest false rails) s = (s.bootEnds 1).done := by
    show execTrussTest false rails s = _
    unfold execTrussTest
    rw [bootAt_of_standsAt h]
    rfl
  have hstage : s.stage = 1 := h.1
  obtain ⟨hs, hc, hended, hline, hframe⟩ := State.bootEnds_settle (s := s) (c := 1) (by omega) (by decide)
  refine completes_of_done hexec ⟨hs.trans hstage, hc, hended, hstage ▸ hline, ?_, hframe⟩
  rw [State.settle_trs, (State.bootEnds_only ..).trs.resolve_left (by decide)]

/-! ### CLOCK (R43, R58) -/

/-- REFOK and the locks as checked. -/
def State.locksShown (s : State) (ref a b : Bool) : State :=
  ((s.wrB R.CLK_STATUS_REFOK ref).wrB R.CLK_STATUS_PLLALOCK a).wrB R.CLK_STATUS_PLLBLOCK b

/-- The clock plant runs from a locked PLL. -/
def State.plantRuns (s : State) (a b : Bool) : State :=
  ((s.locksShown true a b).wrB R.CLK_STATUS_PLLSEL (!a)).onClk (fun c => { c with running := true })

/-- One PLL alone is noted: there is no standby (R58, cause 3). -/
def State.standbyNoted (s : State) (a b : Bool) : State :=
  if a && b then s else (s.stageLine 2 3 0).fault R.CLK_INTSTAT_PLLFAIL 2 (if a then 1 else 0)

/-- The fields of the locks. -/
def lockFlds : List Fld := [R.CLK_STATUS_REFOK, R.CLK_STATUS_PLLALOCK, R.CLK_STATUS_PLLBLOCK]

/-- The fields that stage CLOCK writes where it goes on. -/
def clockFlds : List Fld :=
  [R.CLK_STATUS_REFOK, R.CLK_STATUS_PLLALOCK, R.CLK_STATUS_PLLBLOCK, R.CLK_STATUS_PLLSEL, R.CLK_INTSTAT_PLLFAIL] ++ stageFlds ++ reportFlds

theorem State.locksShown_frame (s : State) (ref a b : Bool) : Frame lockFlds s (s.locksShown ref a b) :=
  (((Frame.refl ..).wr (by decide)).wr (by decide)).wr (by decide)

/-- A Boolean fits a field of one bit. -/
theorem State.rd_wrB_same (s : State) (f : Fld) (hw : f.width = 1) (b : Bool) : (s.wrB f b).rd f = b.toNat := by
  rw [State.rd_wrB, if_pos rfl, hw]
  cases b <;> rfl

theorem State.rd_wrB_ne (s : State) (f g : Fld) (b : Bool) (h : g.key ≠ f.key) : (s.wrB f b).rd g = s.rd g :=
  State.rd_wr_ne s f g b.toNat h

theorem State.plantRuns_rd (s : State) (a b : Bool) :
    (s.plantRuns a b).rd R.CLK_STATUS_REFOK = 1 ∧ (s.plantRuns a b).rd R.CLK_STATUS_PLLALOCK = a.toNat
      ∧ (s.plantRuns a b).rd R.CLK_STATUS_PLLBLOCK = b.toNat ∧ (s.plantRuns a b).rd R.CLK_STATUS_PLLSEL = (!a).toNat := by
  simp only [State.plantRuns, State.locksShown, State.onClk_rd]
  refine ⟨?_, ?_, ?_, ?_⟩
  · rw [State.rd_wrB_ne _ _ _ _ (by decide), State.rd_wrB_ne _ _ _ _ (by decide), State.rd_wrB_ne _ _ _ _ (by decide),
      State.rd_wrB_same _ _ rfl]
    rfl
  · rw [State.rd_wrB_ne _ _ _ _ (by decide), State.rd_wrB_ne _ _ _ _ (by decide), State.rd_wrB_same _ _ rfl]
  · rw [State.rd_wrB_ne _ _ _ _ (by decide), State.rd_wrB_same _ _ rfl]
  · rw [State.rd_wrB_same _ _ rfl]

theorem State.plantRuns_stage (s : State) (a b : Bool) : (s.plantRuns a b).rd R.GLB_STATUS_STAGE = s.rd R.GLB_STATUS_STAGE := by
  rw [State.plantRuns, State.onClk_rd, State.rd_wrB_ne _ _ _ _ (by decide), (s.locksShown_frame true a b).rd _ (by decide) (by decide)]

theorem State.plantRuns_frame (s : State) (a b : Bool) : Frame clockFlds s (s.plantRuns a b) :=
  (((s.locksShown_frame true a b).mono (by decide)).wr (by decide)).onClk _

theorem State.standbyNoted_frame (s : State) (a b : Bool) :
    Frame (R.CLK_INTSTAT_PLLFAIL :: stageFlds ++ reportFlds) s (s.standbyNoted a b) := by
  unfold State.standbyNoted
  split
  · exact Frame.refl ..
  · exact ((Frame.refl ..).stageLine_early (.inl (by decide)) 3 0 (by decide)).fault (by decide) (by decide)

/-- With one lock alone cause 3 is logged, and the flag is set. -/
theorem State.standbyNoted_of_one {s : State} {a b : Bool} (h : (a && b) = false) :
    (s.standbyNoted a b).rd R.CLK_INTSTAT_PLLFAIL = 1 ∧ Emit.line 2 (lineTime s) 3 0 ∈ (s.standbyNoted a b).out := by
  rw [State.standbyNoted, h]
  refine ⟨?_, ?_⟩
  · exact (State.fault_rd _ _ _ _ _ (by decide) (by decide)).trans (if_pos rfl)
  · show _ ∈ ((s.stageLine 2 3 0).fault _ _ _).out
    rw [State.fault_out, State.stageLine_out]
    exact List.mem_cons_self

theorem State.standbyNoted_clk (s : State) (a b : Bool) : (s.standbyNoted a b).clk = s.clk := by
  unfold State.standbyNoted
  split
  · rfl
  · rw [State.fault_clk, (State.stageLine_only ..).clk.resolve_left (by decide)]

theorem State.fault_boot (s : State) (f : Fld) (sev unit : Nat) : (s.fault f sev unit).boot = s.boot :=
  (State.reportFree_only ..).boot.resolve_left (by decide)

theorem State.standbyNoted_boot (s : State) (a b : Bool) : (s.standbyNoted a b).boot = s.boot := by
  unfold State.standbyNoted
  split
  · rfl
  · rw [State.fault_boot, State.stageLine_boot]

/-- The clock plant runs, with or without a standby. -/
def State.clockRuns (s : State) (a b : Bool) : State := (s.plantRuns a b).standbyNoted a b

theorem exec_clock {s : State} (h : StandsAt 2 s) {a b : Bool} (hab : (a || b) = true) :
    exec (.clock true a b) s =
      (if (s.clockRuns a b).jtagHold then (s.clockRuns a b).onBoot (fun x => { x with ended := true })
        else (s.clockRuns a b).enterStage 3).done := by
  show execClock true a b s = _
  have hplant : s.plantCheck true a b = s.plantRuns a b := by
    unfold State.plantCheck
    rw [hab]
    rfl
  have hlock : (!a && !b) = false := by rw [← Bool.not_or, hab]; rfl
  unfold execClock
  rw [bootAt_of_standsAt h, hplant, hlock]
  rfl

theorem State.clockRuns_jtagHold (s : State) (a b : Bool) : (s.clockRuns a b).jtagHold = s.jtagHold := by
  rw [State.jtagHold, State.jtagHold, State.clockRuns, State.standbyNoted_boot]
  rfl

theorem State.clockRuns_clk (s : State) (a b : Bool) : (s.clockRuns a b).clk = { s.clk with running := true } := by
  rw [State.clockRuns, State.standbyNoted_clk]
  rfl

theorem State.clockRuns_frame (s : State) (a b : Bool) : Frame clockFlds s (s.clockRuns a b) :=
  (s.plantRuns_frame a b).trans ((State.standbyNoted_frame ..).mono (by decide))

theorem clock_goesOn {s : State} (h : StandsAt 2 s) (hj : s.jtagHold = false) {a b : Bool} (hab : (a || b) = true) :
    Completes (.clock true a b) s (fun t =>
      t.rd R.GLB_STATUS_STAGE = 3 ∧ t.rd R.GLB_STATUS_CAUSE = 0 ∧ t.rd R.CLK_STATUS_REFOK = 1 ∧ t.rd R.CLK_STATUS_PLLALOCK = a.toNat
        ∧ t.rd R.CLK_STATUS_PLLBLOCK = b.toNat ∧ t.rd R.CLK_STATUS_PLLSEL = (!a).toNat ∧ t.clk.running = true
        ∧ Emit.line 3 (lineTime s) 0 0 ∈ t.out
        ∧ ((a && b) = false → t.rd R.CLK_INTSTAT_PLLFAIL = 1 ∧ Emit.line 2 (lineTime s) 3 0 ∈ t.out) ∧ Frame clockFlds s t) := by
  have hexec := exec_clock h hab
  rw [State.clockRuns_jtagHold, hj, if_neg Bool.false_ne_true] at hexec
  obtain ⟨hstage, hcause, hline, hframe⟩ := (s.clockRuns a b).enterStage_settle (n := 3) (by decide)
  obtain ⟨href, ha, hb, hsel⟩ := s.plantRuns_rd a b
  have hafter : Frame (R.CLK_INTSTAT_PLLFAIL :: stageFlds ++ reportFlds) (s.plantRuns a b) ((s.clockRuns a b).enterStage 3).settle :=
    (State.standbyNoted_frame ..).trans (hframe.mono (by decide))
  have htime : lineTime (s.clockRuns a b) = lineTime s := by rw [lineTime, lineTime, State.clockRuns_clk]
  refine completes_of_done hexec ⟨hstage, hcause, ?_, ?_, ?_, ?_, ?_, htime ▸ hline, fun hone => ⟨?_, ?_⟩,
    (s.clockRuns_frame a b).trans (hframe.mono (by decide))⟩
  · exact (hafter.rd _ (by decide) (by decide)).trans href
  · exact (hafter.rd _ (by decide) (by decide)).trans ha
  · exact (hafter.rd _ (by decide) (by decide)).trans hb
  · exact (hafter.rd _ (by decide) (by decide)).trans hsel
  · rw [State.settle_clk, (State.enterStage_only ..).clk.resolve_left (by decide), State.clockRuns_clk]
  · exact (hframe.rd _ (by decide) (by decide)).trans (State.standbyNoted_of_one hone).1
  · obtain ⟨-, hlogged⟩ := State.standbyNoted_of_one (s := s.plantRuns a b) hone
    refine State.settle_out _ ?_
    show _ ∈ ((s.clockRuns a b).enterStage 3).out
    rw [State.enterStage_out]
    exact List.mem_cons_of_mem _ hlogged

/-- A start-up that ends where it stands, behind the summary. -/
theorem State.endHere_settle (s : State) :
    (s.onBoot (fun b => { b with ended := true })).settle.boot = { s.boot with ended := true }
      ∧ Frame [] s (s.onBoot (fun b => { b with ended := true })).settle :=
  ⟨State.settle_boot _, ((Frame.refl ..).onBoot _).settle⟩

theorem clock_stops {s : State} (h : StandsAt 2 s) (hj : s.jtagHold = true) {a b : Bool} (hab : (a || b) = true) :
    Completes (.clock true a b) s (fun t =>
      t.rd R.GLB_STATUS_STAGE = 2 ∧ t.boot.ended = true ∧ t.clk.running = true ∧ KeepsMemory s t) := by
  have hexec := exec_clock h hab
  rw [State.clockRuns_jtagHold, hj, if_pos rfl] at hexec
  obtain ⟨hboot, hframe⟩ := (s.clockRuns a b).endHere_settle
  have hstage : (s.clockRuns a b).rd R.GLB_STATUS_STAGE = 2 := by
    obtain ⟨hs, -⟩ := (s.plantRuns a b).stageLine_shows 2 3 0
    have hplant : (s.plantRuns a b).rd R.GLB_STATUS_STAGE = 2 := (s.plantRuns_stage a b).trans h.1
    rw [State.clockRuns, State.standbyNoted]
    split
    · exact hplant
    · rw [State.fault_rd _ _ _ _ _ (by decide) (by decide), if_neg (by decide), hs]
  refine completes_of_done hexec ⟨(hframe.rd _ (by decide) (by decide)).trans hstage, ?_, ?_, ?_⟩
  · show (State.settle _).boot.ended = true
    rw [hboot]
  · show (State.settle _).clk.running = true
    rw [State.settle_clk, State.onBoot_clk, State.clockRuns_clk]
  · exact ((s.clockRuns_frame a b).trans (hframe.mono (List.nil_subset _))).2

/-- Stage CLOCK waits: it shows the cause and repeats its line. -/
theorem clock_waits {s : State} (h : StandsAt 2 s) {ref a b : Bool} {c : Nat} (hc : c < 256)
    (hexec : exec (.clock ref a b) s = ((s.locksShown ref a b).stall c 0).done) :
    Completes (.clock ref a b) s (fun t =>
      t.rd R.GLB_STATUS_STAGE = 2 ∧ t.rd R.GLB_STATUS_CAUSE = c ∧ t.boot.stalled = true ∧ Emit.line 2 (lineTime s) c 0 ∈ t.out
        ∧ t.clk = s.clk ∧ Frame (lockFlds ++ stageFlds) s t) := by
  have hstage : (s.locksShown ref a b).stage = 2 := ((s.locksShown_frame ref a b).rd _ (by decide) (by decide)).trans h.1
  obtain ⟨hs, hcause, hstalled, hline, hframe⟩ := State.stall_settle (s := s.locksShown ref a b) (c := c) (by omega) hc
  refine completes_of_done hexec ⟨hs.trans hstage, hcause, hstalled, hstage ▸ hline, ?_,
    ((s.locksShown_frame ref a b).mono (by decide)).trans (hframe.mono (by decide))⟩
  rw [State.settle_clk, (State.stall_only ..).clk.resolve_left (by decide)]
  rfl

theorem exec_clock_of_noRef {s : State} (h : StandsAt 2 s) (a b : Bool) :
    exec (.clock false a b) s = ((s.locksShown false a b).stall 2 0).done := by
  show execClock false a b s = _
  unfold execClock
  rw [bootAt_of_standsAt h]
  rfl

theorem exec_clock_of_noLock {s : State} (h : StandsAt 2 s) :
    exec (.clock true false false) s = ((s.locksShown true false false).stall 4 0).done := by
  show execClock true false false s = _
  unfold execClock
  rw [bootAt_of_standsAt h]
  rfl

/-! ### ROM_START (R56, R59, R428) -/

theorem romStart_waits {s : State} (h : StandsAt 3 s) (hcool : s.coolEnough = false) (hs : s.boot.stalled = false) :
    Completes .romStart s (fun t =>
      t.rd R.GLB_STATUS_STAGE = 3 ∧ t.rd R.GLB_STATUS_CAUSE = 6 ∧ t.boot.stalled = true ∧ Emit.line 3 (lineTime s) 6 0 ∈ t.out
        ∧ Frame stageFlds s t) := by
  have hexec : exec .romStart s = (s.stall 6 0).done := by
    show execRomStart s = _
    unfold execRomStart
    rw [bootAt_of_standsAt h, hcool, hs]
    rfl
  have hstage : s.stage = 3 := h.1
  obtain ⟨hst, hcause, hstalled, hline, hframe⟩ := State.stall_settle (s := s) (c := 6) (by omega) (by decide)
  exact completes_of_done hexec ⟨hst.trans hstage, hcause, hstalled, hstage ▸ hline, hframe⟩

theorem exec_romStart {s : State} (h : StandsAt 3 s) (hcool : s.coolEnough = true) : exec .romStart s = s.otpRegs.romChoice.done := by
  show execRomStart s = _
  unfold execRomStart
  rw [bootAt_of_standsAt h, hcool]
  rfl

/-- The fields that show the one-time memory. -/
def otpFlds : List Fld := [R.FWU_SVN_CNT, R.FWU_SVN_REVOKED]

theorem State.otpRegs_frame (s : State) : Frame otpFlds s s.otpRegs := ((Frame.refl ..).wr (by decide)).wr (by decide)

/-- Bytes of the flash depend on the flash alone. -/
theorem State.flashBytes_congr {s t : State} (h : t.flash = s.flash) (a n : Nat) : t.flashBytes a n = s.flashBytes a n := by
  induction n generalizing a with
  | zero => rfl
  | succ n ih => rw [State.flashBytes, State.flashBytes, ih, State.flashByte, State.flashByte, h]

/-- So does the boot header. -/
theorem State.bootHead_congr {s t : State} (h : t.flash = s.flash) : t.bootHead = s.bootHead := by
  rw [State.bootHead, State.bootHead, State.flashBytes_congr h, State.flashBytes_congr h]

theorem romStart_holds {s : State} (h : StandsAt 3 s) (hcool : s.coolEnough = true) (hj : s.jtagHold = true) :
    Completes .romStart s (fun t => t.boot.ended = true ∧ t.rd R.GLB_STATUS_STAGE = 3 ∧ Frame otpFlds s t) := by
  have hchoice : s.otpRegs.romChoice = s.otpRegs.onBoot (fun b => { b with ended := true }) := if_pos hj
  obtain ⟨hboot, hframe⟩ := s.otpRegs.endHere_settle
  have hall : Frame otpFlds s _ := s.otpRegs_frame.trans (hframe.mono (List.nil_subset _))
  refine completes_of_done ((exec_romStart h hcool).trans (congrArg State.done hchoice)) ⟨?_, ?_, hall⟩
  · rw [hboot]
  · exact (hall.rd _ (by decide) (by decide)).trans h.1

/-- Recovery mode: its stage and cause, and IMGSTATE 3 (R444). -/
theorem State.enterRecovery_settle (s : State) {c d : Nat} (hc : c < 256) (hd : d < 256) :
    (s.enterRecovery c d).settle.rd R.GLB_STATUS_STAGE = 0x0F ∧ (s.enterRecovery c d).settle.rd R.GLB_STATUS_CAUSE = c
      ∧ (s.enterRecovery c d).settle.rd R.GLB_STATUS_DETAIL = d ∧ (s.enterRecovery c d).settle.fwu.recovery = true
      ∧ (s.enterRecovery c d).settle.rd R.FWU_STATUS_IMGSTATE = 3
      ∧ Frame (R.FWU_STATUS_IMGSTATE :: stageFlds) s (s.enterRecovery c d).settle := by
  obtain ⟨hstage, hcause, hdetail⟩ :=
    ((s.onFwu (fun f => { f with recovery := true })).wr R.FWU_STATUS_IMGSTATE 3).stageLine_shows 0x0F c d
  have hbefore : Frame (R.FWU_STATUS_IMGSTATE :: stageFlds) s ((s.onFwu (fun f => { f with recovery := true })).wr R.FWU_STATUS_IMGSTATE 3) :=
    ((Frame.refl ..).trans (Frame.of_only (State.onFwu_only ..) (by decide) (by decide) (by decide))).wr (by decide)
  refine ⟨?_, ?_, ?_, ?_, ?_, (hbefore.stageLine_early (.inr rfl) c d (List.subset_cons_self ..)).settle⟩
  · rw [State.settle_rd _ _ (by decide) (by decide)]
    exact hstage
  · rw [State.settle_rd _ _ (by decide) (by decide)]
    exact hcause.trans (Nat.mod_eq_of_lt hc)
  · rw [State.settle_rd _ _ (by decide) (by decide)]
    exact hdetail.trans (Nat.mod_eq_of_lt hd)
  · rw [State.settle_fwu, State.enterRecovery, (State.stageLine_only ..).fwu.resolve_left (by decide)]
    rfl
  · rw [State.settle_rd _ _ (by decide) (by decide), State.enterRecovery,
      State.stageLine_rd _ _ _ _ _ (by decide) (by decide), if_neg (by decide), if_neg (by decide), if_neg (by decide), State.rd_wr_same]
    rfl

/-- ROM_START leads to recovery mode with a cause. -/
theorem romStart_recovers {s : State} (h : StandsAt 3 s) (hcool : s.coolEnough = true) {c : Nat} (hc : c < 256)
    (hchoice : s.otpRegs.romChoice = s.otpRegs.enterRecovery c 0) :
    Completes .romStart s (fun t =>
      t.rd R.GLB_STATUS_STAGE = 0x0F ∧ t.rd R.GLB_STATUS_CAUSE = c ∧ t.fwu.recovery = true ∧ t.rd R.FWU_STATUS_IMGSTATE = 3
        ∧ Frame (otpFlds ++ R.FWU_STATUS_IMGSTATE :: stageFlds) s t) := by
  obtain ⟨hstage, hcause, -, hrec, himg, hframe⟩ := s.otpRegs.enterRecovery_settle hc (d := 0) (by decide)
  exact completes_of_done ((exec_romStart h hcool).trans (congrArg State.done hchoice))
    ⟨hstage, hcause, hrec, himg, (s.otpRegs_frame.mono (by decide)).trans (hframe.mono (by decide))⟩

/-- BOOTSEL 1 or 2 asks for recovery mode. -/
theorem State.romChoice_of_asked {s : State} (hb : s.boot.bootsel = 1 ∨ s.boot.bootsel = 2) (hi : s.boot.ignoreSel = false) :
    s.romChoice = s.enterRecovery 0 0 := by
  have hj : s.jtagHold = false := by rcases hb with hb | hb <;> simp [State.jtagHold, hb]
  have hsel : (s.boot.bootsel != 0 && !s.boot.ignoreSel) = true := by rcases hb with hb | hb <;> simp [hb, hi]
  unfold State.romChoice
  rw [hj, hsel]
  rfl

/-- BOOTSEL does not ask for anything but the boot flash. -/
theorem State.bootsel_free {s : State} (hb : s.boot.bootsel = 0 ∨ s.boot.ignoreSel = true) :
    s.jtagHold = false ∧ (s.boot.bootsel != 0 && !s.boot.ignoreSel) = false := by
  rcases hb with hb | hb <;> simp [State.jtagHold, hb]

theorem State.romChoice_of_noHead {s : State} (hb : s.boot.bootsel = 0 ∨ s.boot.ignoreSel = true) (hn : s.bootHead = none) :
    s.romChoice = s.enterRecovery 5 0 := by
  obtain ⟨hj, hsel⟩ := State.bootsel_free hb
  unfold State.romChoice
  rw [hj, hsel, hn]
  rfl

/-- The boot header as rewritten, where it is. -/
def State.headRewritten (s : State) (g : Option BootHead) : State := match g with | some g => s.putHead g | none => s

/-- The slot is chosen and no slot has been tried. -/
def State.slotChosen (s : State) (slot ok : Bool) : State :=
  (s.onBoot (fun b => { b with slotB := slot, imageOk := ok })).onFwu (fun f => { f with tried := [] })

/-- Full training in place of a retained image is logged (cause 0x10). -/
def State.lossNoted (s : State) (lost : Bool) : State := if lost then s.stageLine 3 0x10 0 else s

theorem State.romChoice_of_head {s : State} (hb : s.boot.bootsel = 0 ∨ s.boot.ignoreSel = true) {c : Bool} {h : BootHead}
    (hh : s.bootHead = some (c, h)) :
    ∃ ok, s.romChoice =
      (((s.headRewritten (chooseSlot h).2).slotChosen (chooseSlot h).1 ok).lossNoted (s.boot.fast && !ok)).enterStage 4 := by
  obtain ⟨hj, hsel⟩ := State.bootsel_free hb
  refine ⟨s.retainedOk h && (chooseSlot h).1 == h.active, ?_⟩
  unfold State.romChoice
  rw [hj, hsel, hh]
  rfl

/-- The slot that a header names (R428). -/
theorem chooseSlot_slot (h : BootHead) :
    (chooseSlot h).1 = if h.state = 2 ∨ (h.state = 1 ∧ h.tries = 0) then !h.active else h.active := by
  unfold chooseSlot
  split
  · next h1 =>
    split
    · next h0 => rw [if_pos (.inr ⟨h1, h0⟩)]
    · next h0 => rw [if_neg (by omega)]
  · next h1 =>
    split
    · next h2 => rw [if_pos (.inl h2)]
    · next h2 => rw [if_neg (by omega)]

theorem chooseSlot_head {h : BootHead} (hs : h.state ≠ 1) : (chooseSlot h).2 = none := by
  unfold chooseSlot
  rw [if_neg hs]

theorem State.headRewritten_only (s : State) (g : Option BootHead) : Only 0x20000000000000 s (s.headRewritten g) := by
  unfold State.headRewritten
  split
  · exact State.putHead_only ..
  · exact Only.refl ..

theorem State.slotChosen_only (s : State) (slot ok : Bool) : Only 0x4000400000000 s (s.slotChosen slot ok) :=
  ((Only.refl _ s).app (State.onBoot_only ..) (by decide)).app (State.onFwu_only ..) (by decide)

theorem Frame.lossNoted {l : List Fld} {s u : State} (h : Frame l s u) (lost : Bool) (hl : stageFlds ⊆ l) :
    Frame l s (u.lossNoted lost) := by
  unfold State.lossNoted
  split
  · exact h.stageLine_early (.inl (by decide)) _ _ hl
  · exact h

theorem State.lossNoted_boot (s : State) (lost : Bool) : (s.lossNoted lost).boot = s.boot := by
  unfold State.lossNoted
  split
  · exact s.stageLine_boot ..
  · rfl

/-- What a good boot header leads to: HBM_TRAIN, with the slot that it names. -/
theorem romStart_chooses {s : State} (h : StandsAt 3 s) (hcool : s.coolEnough = true)
    (hb : s.boot.bootsel = 0 ∨ s.boot.ignoreSel = true) {c : Bool} {x : BootHead} (hh : s.bootHead = some (c, x)) :
    Completes .romStart s (fun t =>
      t.rd R.GLB_STATUS_STAGE = 4 ∧ t.rd R.GLB_STATUS_CAUSE = 0
        ∧ t.boot.slotB = (if x.state = 2 ∨ (x.state = 1 ∧ x.tries = 0) then !x.active else x.active)
        ∧ t.rd R.FWU_SVN_CNT = s.fwu.otp.rollback % 2 ^ R.FWU_SVN_CNT.width ∧ (x.state ≠ 1 → KeepsFlash s t)
        ∧ KeepsRegs (otpFlds ++ stageFlds) s t ∧ KeepsHbm s t) := by
  obtain ⟨ok, hchoice⟩ := State.romChoice_of_head (s := s.otpRegs) hb ((State.bootHead_congr rfl).trans hh)
  set u := (s.otpRegs.headRewritten (chooseSlot x).2).slotChosen (chooseSlot x).1 ok with hu
  set v := u.lossNoted (s.otpRegs.boot.fast && !ok) with hv
  obtain ⟨hstage, hcause, -, hframe⟩ := v.enterStage_settle (n := 4) (by decide)
  have honly : Only 0x24000400000000 s.otpRegs u :=
    ((Only.refl _ _).app (State.headRewritten_only ..) (by decide)).app (State.slotChosen_only ..) (by decide)
  obtain ⟨hregs, hmem⟩ := ((Frame.refl stageFlds u).lossNoted (s.otpRegs.boot.fast && !ok) (List.Subset.refl _)).trans hframe
  obtain ⟨hhbm, hflash⟩ := hmem
  have hrd (f : Fld) : u.rd f = s.otpRegs.rd f :=
    honly.rd f ((by decide : ∀ b < 27, Nat.testBit 0x24000400000000 b = false) _ (Nat.lt_succ_of_le (blk_le _)))
  refine completes_of_done ((exec_romStart h hcool).trans (congrArg State.done hchoice))
    ⟨hstage, hcause, ?_, ?_, fun hs => ?_, fun f hf hsum => ?_, fun a => ?_⟩
  · rw [State.settle_boot, State.enterStage_boot, ← chooseSlot_slot, hv, State.lossNoted_boot]
    rfl
  · have hcnt : s.otpRegs.rd R.FWU_SVN_CNT = s.fwu.otp.rollback % 2 ^ R.FWU_SVN_CNT.width := by
      rw [State.otpRegs, State.rd_wr_ne _ _ _ _ (by decide), State.rd_wr_same]
    rw [← hcnt, ← hrd]
    exact hregs _ (by decide) (not_summaryKey_iff.mpr (by decide))
  · have hkept : u.flash = s.flash := by
      rw [hu, chooseSlot_head hs]
      rfl
    intro a
    rw [hflash a, State.flashByte, State.flashByte, hkept]
  · obtain ⟨hotp, -⟩ := s.otpRegs_frame
    rw [hregs f (fun g hg => hf g (List.mem_append_right _ hg)) hsum, hrd]
    exact hotp f (fun g hg => hf g (List.mem_append_left _ hg)) hsum
  · rw [hhbm a, State.hbmByte, State.hbmByte, honly.hbm.resolve_left (by decide)]
    rfl

/-! ### HBM_TRAIN (R58, R453) -/

/-- HBM is trained, and row repairs of a full reset become permanent. -/
def State.stacksTrained (s : State) : State :=
  let s1 := s.onBoot (fun b => { b with trained := true, selfRef := false })
  if s.boot.fast then
    s1.onFlt (fun f => { f with permanent := f.permanent ++ f.spared.filter (fun r => !f.permanent.contains r) })
  else s1

theorem exec_hbmTrain {s : State} (h : StandsAt 4 s) : exec (.hbmTrain 0xF#4) s = (s.stacksTrained.enterStage 5).done := by
  show execHbmTrain 0xF#4 s = _
  unfold execHbmTrain
  rw [bootAt_of_standsAt h]
  rfl

theorem State.stacksTrained_only (s : State) : Only 0x8000400000000 s s.stacksTrained := by
  unfold State.stacksTrained
  dsimp only
  split
  · exact ((Only.refl _ s).app (State.onBoot_only ..) (by decide)).app (State.onFlt_only ..) (by decide)
  · exact (Only.refl _ s).app (State.onBoot_only ..) (by decide)

theorem State.stacksTrained_boot (s : State) : s.stacksTrained.boot = { s.boot with trained := true, selfRef := false } := by
  unfold State.stacksTrained
  dsimp only
  split <;> rfl

theorem State.stacksTrained_repairs {s : State} (hf : s.boot.fast = true) : ∀ r ∈ s.flt.spared, r ∈ s.stacksTrained.flt.permanent := by
  intro r hr
  unfold State.stacksTrained
  dsimp only
  rw [if_pos hf]
  by_cases hp : r ∈ s.flt.permanent
  · exact List.mem_append_left _ hp
  · exact List.mem_append_right _ (List.mem_filter.mpr ⟨hr, by simpa using hp⟩)

theorem hbmTrain_trains {s : State} (h : StandsAt 4 s) :
    Completes (.hbmTrain 0xF#4) s (fun t =>
      t.rd R.GLB_STATUS_STAGE = 5 ∧ t.rd R.GLB_STATUS_CAUSE = 0 ∧ t.boot.trained = true ∧ t.boot.selfRef = false
        ∧ (s.boot.fast = true → ∀ r ∈ s.flt.spared, r ∈ t.flt.permanent) ∧ Frame stageFlds s t) := by
  obtain ⟨hstage, hcause, -, hframe⟩ := s.stacksTrained.enterStage_settle (n := 5) (by decide)
  have hboot : (s.stacksTrained.enterStage 5).settle.boot = { s.boot with trained := true, selfRef := false, stalled := false } := by
    rw [State.settle_boot, State.enterStage_boot, State.stacksTrained_boot]
  have hflt : (s.stacksTrained.enterStage 5).settle.flt = s.stacksTrained.flt := by
    rw [State.settle_flt]
    show ((s.stacksTrained.onBoot (fun b => { b with stalled := false })).stageLine 5 0 0).flt = _
    rw [State.stageLine_of_early (.inl (by decide))]
    rfl
  refine completes_of_done (exec_hbmTrain h) ⟨hstage, hcause, ?_, ?_, fun hf => ?_, ?_⟩
  · rw [hboot]
  · rw [hboot]
  · rw [hflt]
    exact State.stacksTrained_repairs hf
  · exact (Frame.of_only s.stacksTrained_only (by decide) (by decide) (by decide)).trans hframe

/-- Some stack fails where not all four bits are set. -/
theorem failedStack (ok : BitVec 4) (h : ok ≠ 0xF#4) :
    ∃ i, (List.range 4).find? (fun i => !ok.getLsbD i) = some i ∧ i < 4 ∧ ok.getLsbD i = false := by
  cases hf : (List.range 4).find? (fun i => !ok.getLsbD i) with
  | some i =>
    refine ⟨i, rfl, List.mem_range.mp (List.mem_of_find?_eq_some hf), ?_⟩
    simpa using List.find?_some hf
  | none =>
    refine absurd (BitVec.eq_of_getLsbD_eq fun i hi => ?_) h
    have hset := List.find?_eq_none.mp hf i (List.mem_range.mpr hi)
    rw [(by decide : ∀ i < 4, (0xF#4).getLsbD i = true) i hi]
    simpa using hset

theorem hbmTrain_fails {s : State} (h : StandsAt 4 s) {ok : BitVec 4} (hok : ok ≠ 0xF#4) :
    Completes (.hbmTrain ok) s (fun t =>
      t.rd R.GLB_STATUS_STAGE = 0x0F ∧ t.rd R.GLB_STATUS_CAUSE = 7 ∧ t.rd R.GLB_STATUS_DETAIL < 4
        ∧ ok.getLsbD (t.rd R.GLB_STATUS_DETAIL) = false ∧ t.fwu.recovery = true
        ∧ Frame (R.FWU_STATUS_IMGSTATE :: stageFlds) s t) := by
  obtain ⟨i, hfind, hi, hbad⟩ := failedStack ok hok
  have hexec : exec (.hbmTrain ok) s = (s.enterRecovery 7 i).done := by
    show execHbmTrain ok s = _
    unfold execHbmTrain
    rw [bootAt_of_standsAt h, hfind]
    rfl
  obtain ⟨hstage, hcause, hdetail, hrec, -, hframe⟩ := s.enterRecovery_settle (c := 7) (by decide) (d := i) (by omega)
  refine completes_of_done hexec ⟨hstage, hcause, ?_, ?_, hrec, hframe⟩
  · rw [hdetail]
    exact hi
  · rw [hdetail]
    exact hbad

/-- Settles O13: each stage's results, from the laws of its branches. -/
theorem earlyStagesMoveOn : Obligations.EarlyStagesMoveOn :=
  ⟨fun _ h => trussTest_passes h, fun _ _ h hr hsafe => trussTest_faults h hr hsafe, fun rails _ h => trussTest_fails h rails,
    fun _ _ _ h hj hab => clock_goesOn h hj hab, fun _ _ _ h hj hab => clock_stops h hj hab,
    fun a b _ h => clock_waits h (by decide) (exec_clock_of_noRef h a b),
    fun _ h => clock_waits h (by decide) (exec_clock_of_noLock h), fun _ h hcool hs => romStart_waits h hcool hs,
    fun _ h hcool hj => romStart_holds h hcool hj,
    fun _ h hcool hb hi => romStart_recovers h hcool (by decide) (State.romChoice_of_asked hb hi),
    fun s h hcool hb hn => romStart_recovers h hcool (by decide)
      (State.romChoice_of_noHead (s := s.otpRegs) hb ((State.bootHead_congr rfl).trans hn)),
    fun _ _ _ h hcool hb hh => romStart_chooses h hcool hb hh, fun _ h => hbmTrain_trains h, fun _ _ h hok => hbmTrain_fails h hok⟩

end Sys2Proof.Machine
end

section
/-!
Start-up stages RINGS to ARM, stalls, logic release and the reset of recovery mode (R49, R50, R58 to R60, R104, R444): what the entry to
stage SPIN and what each result leaves (O15).
-/
namespace Sys2Proof.Machine

/-! ### What the entry to stage SPIN says, and the rings that are up -/

/-- A key of Batten's block that no hush writes. -/
def AtBatten (k : Nat) : Prop := OffEval k ∧ blk k = 11

theorem not_atBatten {f : Fld} (h : blk f.key ≠ 11) : ¬ AtBatten f.key := fun hk => h hk.2

theorem atBatten_mask {m : Nat} (hm : m.testBit 11 = false) (k : Nat) (h : AtBatten k) : m.testBit (blk k) = false := by
  rw [h.2, hm]

section
variable {P : Nat → Prop} {s u : State}

theorem Spares.fault {f : Fld} (h : Spares P s u) (hf : ∀ g ∈ f :: reportFlds, ¬ P g.key) (sev unit : Nat) :
    Spares P s (u.fault f sev unit) := by
  refine h.trans ⟨fun g hg => ?_, fun _ he => (State.fault_out u f sev unit).symm ▸ he⟩
  have hne (x : Fld) (hx : x ∈ f :: reportFlds) : g.key ≠ x.key := fun he => hf x hx (he ▸ hg)
  rw [State.fault_rd _ _ _ _ _ (hne _ (by simp [reportFlds])) (hne _ (by simp [reportFlds])), if_neg (hne _ (by simp))]

theorem Spares.ite {c : Prop} [Decidable c] {a b : State} (ha : Spares P s a) (hb : Spares P s b) : Spares P s (if c then a else b) := by
  split
  · exact ha
  · exact hb

theorem Spares.onTnn (h : Spares P s u) (f : TnnState → TnnState) : Spares P s (u.onTnn f) := h.regs rfl rfl

end

theorem State.enterStage_spares (s : State) (n : Nat) : Spares AtBatten s (s.enterStage n) :=
  ⟨fun f hf => (State.enterStage_only ..).rd f (atBatten_mask (by decide) _ hf),
    fun e he => State.enterStage_out s n ▸ List.mem_cons_of_mem _ he⟩

theorem State.trsEval_spares (s : State) (cause : Nat) : Spares AtBatten s (s.trsEval cause) :=
  (State.trsEvalFrom_spares ..).imp fun _ h => h.1

theorem State.scanEval_spares (s : State) : Spares AtBatten s s.scanEval := by
  have hshown : Spares AtBatten s (s.wrB R.TNN_STATUS_SCANVALID s.scanOk) := (Spares.refl _ s).wr (not_atBatten (by decide))
  unfold State.scanEval
  dsimp only
  split
  · exact .refl ..
  · split
    · exact hshown.trans (State.trsEval_spares ..)
    · refine Spares.trans ?_ (State.trsEval_spares ..)
      exact hshown.regs rfl rfl

theorem State.unlock_spares (s : State) : Spares AtBatten s s.unlock := by
  have hcount := (Spares.refl AtBatten s).onTnn fun t => { t with lockN := 0 }
  unfold State.unlock
  dsimp only
  split
  · refine Spares.trans ?_ (State.scanEval_spares _)
    exact (hcount.wr (not_atBatten (by decide))).fault
      (fun g hg => not_atBatten ((by decide : ∀ g ∈ R.TNN_INTSTAT_LOCKLOSS :: reportFlds, blk g.key ≠ 11) g hg)) 1 0
  · exact hcount

theorem State.endInject_spares (s : State) (tilt : Bool) : Spares AtBatten s (s.endInject tilt) := by
  unfold State.endInject
  split
  · split
    · refine Spares.trans ?_ (State.scanEval_spares _)
      exact (((Spares.refl _ s).onTnn _).wr (not_atBatten (by decide))).wr (not_atBatten (by decide))
    · exact .refl ..
  · exact .refl ..

/-- The spindle's mode is written, and what it leaves follows. -/
theorem State.setSpMode_spares (s : State) (m : Nat) : Spares AtBatten s (s.setSpMode m) := by
  have hctl : Spares AtBatten s (s.wr R.TNN_SPCTL_MODE m) := (Spares.refl _ s).wr (not_atBatten (by decide))
  have hinj : Spares AtBatten s (((s.wr R.TNN_SPCTL_MODE m).wr R.TNN_STATUS_SPMODE m).endInject false) :=
    (hctl.wr (not_atBatten (by decide))).trans (State.endInject_spares ..)
  have hleft (f : TnnState → TnnState) (u : State) (hu : Spares AtBatten s u) (c : Prop) [Decidable c] :
      Spares AtBatten s (if c then (u.onTnn f).unlock else u) := by
    split
    · exact (hu.onTnn f).trans (State.unlock_spares _)
    · exact hu
  unfold State.setSpMode
  dsimp only
  split
  · exact hctl
  · split
    · split
      · exact (hleft _ _ hinj _).onTnn _
      · exact ((hleft _ _ hinj _).app (State.spCold_only _) (atBatten_mask (by decide)) (by decide)).onTnn _
    · exact ((hleft _ _ hinj _).wr (not_atBatten (by decide))).onTnn _

theorem State.setDac_spares (P : Nat → Prop) (s : State) (u : Word) : Spares P s (s.setDac u) := ((Spares.refl _ s).onTnn _).emit _

theorem State.setTlMode_spares (s : State) (m : Nat) : Spares AtBatten s (s.setTlMode m) := by
  have hctl : Spares AtBatten s (s.wr R.TNN_TLCTL_MODE m) := (Spares.refl _ s).wr (not_atBatten (by decide))
  have hinj : Spares AtBatten s (((s.wr R.TNN_TLCTL_MODE m).wr R.TNN_STATUS_TLMODE m).endInject true) :=
    (hctl.wr (not_atBatten (by decide))).trans (State.endInject_spares ..)
  have hoff (u : State) (hu : Spares AtBatten s u) : Spares AtBatten s (if m = 0 then (u.fw R.TNN_TLOUT_U 0).setDac 0 else u) := by
    split
    · exact (hu.wr (f := R.TNN_TLOUT_U) (not_atBatten (by decide))).trans (State.setDac_spares ..)
    · exact hu
  unfold State.setTlMode
  dsimp only
  split
  · exact hctl
  · refine (hoff _ ?_).trans (State.scanEval_spares _)
    split
    · exact hinj.onTnn _
    · split
      · exact hinj
      · exact hinj.onTnn _

theorem badcfg_offBatten (g : Fld) (hg : g ∈ R.TNN_INTSTAT_BADCFG :: reportFlds) : ¬ AtBatten g.key :=
  not_atBatten ((by decide : ∀ g ∈ R.TNN_INTSTAT_BADCFG :: reportFlds, blk g.key ≠ 11) g hg)

theorem State.requestSp_spares (s : State) (m : Nat) : Spares AtBatten s (s.requestSp m) := by
  unfold State.requestSp
  dsimp only
  split
  · exact (Spares.refl _ s).fault badcfg_offBatten 1 0
  · exact State.setSpMode_spares s m

theorem State.requestTl_spares (s : State) (m : Nat) : Spares AtBatten s (s.requestTl m) := by
  unfold State.requestTl
  split
  · exact (Spares.refl _ s).fault badcfg_offBatten 1 0
  · exact State.setTlMode_spares s m

theorem State.reengage_spares (s : State) : Spares AtBatten s s.reengage := by
  have htilt (u : State) (hu : Spares AtBatten s u) :
      Spares AtBatten s (if s.tnn.retTl = 0 then u else u.setTlMode s.tnn.retTl) := by
    split
    · exact hu
    · exact hu.trans (State.setTlMode_spares ..)
  refine htilt _ ?_
  dsimp only
  split
  · split
    · exact Spares.onTnn ((((Spares.refl _ s).wr (not_atBatten (by decide))).wr (not_atBatten (by decide))).wr
        (f := R.TNN_RETDEM_U) (not_atBatten (by decide))) _
    · exact State.setSpMode_spares ..
  · split
    · exact .refl ..
    · exact State.setSpMode_spares ..

theorem State.excSet_spares (P : Nat → Prop) (s : State) (src : Bool) : Spares P s (s.excSet src) := by
  refine Spares.ite (.refl ..) (Spares.emit ?_ _)
  exact (Spares.refl P s).regs rfl rfl

theorem State.switch_spares (P : Nat → Prop) (s : State) : Spares P s s.switch :=
  ((State.excSet_spares P s false).trans (State.excSet_spares P _ true)).regs rfl rfl

/-- A converter's calibration run begins (R338). -/
def State.calBegins (s : State) (adc : Bool) : State :=
  ({ s with sil := { s.sil with calPend := s.sil.calPend &&& (if adc then 1 else 2), calAt := s.clk.ticks } }.wr
    (if adc then R.SIL_STATUS_CAL1 else R.SIL_STATUS_CAL0) 1).switch

/-- It begins where no injected conversion has the converter, and aborts a sample in progress. -/
def State.calGo (s : State) (adc : Bool) : State :=
  if s.on (if adc then R.SIL_STATUS_INJ1 else R.SIL_STATUS_INJ0) then s
  else (s.when (s.sampling adc) (·.bump R.SIL_ABORTS_ABORT 1)).calBegins adc

theorem State.calStart_eq (s : State) : s.calStart =
    if s.on R.SIL_STATUS_REFRDY && !s.on R.SIL_STATUS_CAL0 && !s.on R.SIL_STATUS_CAL1 then
      (if s.sil.calPend.getLsbD 0 then s.calGo false else if s.sil.calPend.getLsbD 1 then s.calGo true else s)
    else s := rfl

theorem State.calBegins_spares (s : State) (adc : Bool) : Spares AtBatten s (s.calBegins adc) := by
  refine Spares.trans (Spares.wr ?_ ?_) (State.switch_spares ..)
  · exact (Spares.refl _ s).regs rfl rfl
  · cases adc <;> exact not_atBatten (by decide)

theorem State.calGo_spares (s : State) (adc : Bool) : Spares AtBatten s (s.calGo adc) :=
  Spares.ite (.refl ..) (((Spares.refl _ s).when _ ((Spares.refl _ s).bump (not_atBatten (by decide)))).trans
    (State.calBegins_spares ..))

theorem State.calAsk_spares (s : State) (adc : Bool) : Spares AtBatten s (s.calAsk adc) := by
  have hstart (u : State) : Spares AtBatten u u.calStart := by
    rw [State.calStart_eq]
    exact .ite (.ite (State.calGo_spares ..) (.ite (State.calGo_spares ..) (.refl ..))) (.refl ..)
  refine Spares.trans ?_ (hstart _)
  exact (Spares.refl _ s).regs rfl rfl

theorem State.startRun_spares (s : State) (k : Nat) : Spares AtBatten s (s.startRun k) := by
  unfold State.startRun
  split
  · split
    · exact (Spares.refl _ s).app (State.startCd_only _) (atBatten_mask (by decide)) (by decide)
    · exact .refl ..
  · split
    · split
      · exact Spares.wr ((Spares.refl _ s).regs rfl rfl) (not_atBatten (by decide))
      · exact .refl ..
    · split
      · split
        · refine Spares.trans (Spares.trans ?_ (State.calAsk_spares ..)) (State.calAsk_spares ..)
          exact Spares.wr ((Spares.refl _ s).regs rfl rfl) (not_atBatten (by decide))
        · exact .refl ..
      · exact .refl ..

theorem State.calStage_spares (s : State) : Spares AtBatten s s.calStage := by
  have hruns : Spares AtBatten s (((s.calSurvivors.startRun 1).startRun 3).startRun 4) :=
    ((((Spares.refl _ s).app (State.calSurvivors_only _) (atBatten_mask (by decide)) (by decide)).trans
      (State.startRun_spares ..)).trans (State.startRun_spares ..)).trans (State.startRun_spares ..)
  unfold State.calStage
  dsimp only
  split
  · exact hruns
  · exact (hruns.app (State.setDz_only ..) (atBatten_mask (by decide)) (by decide)).app (State.mark5_only _)
      (atBatten_mask (by decide)) (by decide)

/-- What the entry to stage SPIN says adds to what has left the part, and the rings that are up stay so. -/
theorem State.enterSpin_spares (s : State) : Spares AtBatten s s.enterSpin := by
  have hstage : Spares AtBatten s ((s.onBoot (fun b => { b with spinDone := false, calDone := false })).enterStage 0x0A) :=
    (Spares.regs (Spares.refl _ s) (t := s.onBoot _) rfl rfl).trans (State.enterStage_spares ..)
  have hrun := (((hstage.wr (f := R.KRF_CTL_RUN) (v := 1) (not_atBatten (by decide))).app (State.krfResume_only _)
    (atBatten_mask (by decide)) (by decide)).wr (f := R.WFP_CTL_RUN) (v := 1) (not_atBatten (by decide))).trans
    (State.calStage_spares _)
  unfold State.enterSpin
  dsimp only
  split
  · exact hrun.trans (State.reengage_spares _)
  · exact (hrun.trans (State.requestSp_spares ..)).trans (State.requestTl_spares ..)

/-! ### RINGS (R58, R104) -/

/-- A write behind a register field leaves it alone. -/
theorem State.rd_wr_behind {f g : Fld} (s : State) (v : Nat) (h : f.key < g.key) : (s.wr g v).rd f = s.rd f :=
  State.rd_wr_ne s g f v (Nat.ne_of_lt h)

theorem State.rd_wrS_behind {f g : Fld} (s : State) (v : Int) (h : f.key < g.key) : (s.wrS g v).rd f = s.rd f :=
  State.rd_wr_behind s _ h

theorem State.bringDriver_ringen (s : State) (n : Nat) (id : BitVec 8 × BitVec 5 × BitVec 5 × BitVec 8) (a c : Nat) :
    (s.bringDriver n id a c).rd R.BTN_CTL_RINGEN = s.rd R.BTN_CTL_RINGEN := by
  unfold State.bringDriver
  dsimp only
  rw [(State.sendRing_only ..).rd _ (by decide), State.rd_wr_behind _ _ (Nat.lt_add_right _ (by decide)), State.setDrv_rd]
  show ((_ : State).wr (R.BTN_DRES_RES n) _).rd _ = _
  iterate 7 rw [State.rd_wr_behind _ _ (Nat.lt_add_right _ (by decide))]

theorem State.ringen_fault (s : State) (f : Fld) (sev unit : Nat) (h : R.BTN_CTL_RINGEN.key < f.key) :
    (s.fault f sev unit).rd R.BTN_CTL_RINGEN = s.rd R.BTN_CTL_RINGEN := by
  rw [State.fault_rd _ _ _ _ _ (by decide) (by decide), if_neg (Nat.ne_of_lt h)]

/-- A ring that comes up keeps RINGEN. -/
theorem State.ringComes_ringen (s : State) (r : Nat) (f : RingFind) (k : RingKept) :
    (s.ringComes r f k).rd R.BTN_CTL_RINGEN = s.rd R.BTN_CTL_RINGEN := by
  have hsend (c : Bool) (u : State) (typ : Nat) (l : List Byte) :
      (if c then u else u.sendRing r typ 0xFF l 3).rd R.BTN_CTL_RINGEN = u.rd R.BTN_CTL_RINGEN := by
    split
    · rfl
    · exact (State.sendRing_only ..).rd _ (by decide)
  have hdue (u : State) : (match u.hif.accepted with | some (e, t) => u.stageOn r e (t * 64 / 5) | none => u).rd R.BTN_CTL_RINGEN
      = u.rd R.BTN_CTL_RINGEN := by
    split
    · exact (State.stageOn_only ..).rd _ (by decide)
    · rfl
  unfold State.ringComes
  dsimp only
  rw [hsend, State.setRing_rd, State.setRingBit, State.rd_wr_behind _ _ (by decide), State.setRingBit,
    State.rd_wr_behind _ _ (by decide), (State.sendRing_only ..).rd _ (by decide)]
  refine (hdue _).trans ?_
  rw [State.rd_wr_behind _ _ (by decide), (State.stageOn_only ..).rd _ (by decide), foldl_keeps (State.rd · R.BTN_CTL_RINGEN)]
  · iterate 6 rw [State.rd_wr_behind _ _ (Nat.lt_add_right _ (by decide))]
  · intro t i
    rw [State.when_keeps (State.rd · R.BTN_CTL_RINGEN) (State.ringen_fault _ _ _ _ (by decide)), State.bringDriver_ringen]

theorem State.fullBringUp_ringen (s : State) (r : Nat) (f : RingFind) :
    (s.fullBringUp r f).rd R.BTN_CTL_RINGEN = s.rd R.BTN_CTL_RINGEN := by
  have hask : (((s.sendRing r 0x09 0xFF [1] 1).sendRing r 0x0A 0xFF [0] 2).askDrivers r (min 8 f.ids.length)).rd R.BTN_CTL_RINGEN
      = s.rd R.BTN_CTL_RINGEN := by
    rw [(State.askDrivers_only ..).rd _ (by decide), (State.sendRing_only ..).rd _ (by decide), (State.sendRing_only ..).rd _ (by decide)]
  unfold State.fullBringUp
  dsimp only
  split
  · rw [State.ringComes_ringen, State.when_keeps (State.rd · R.BTN_CTL_RINGEN) (State.ringen_fault _ _ _ _ (by decide)), hask]
  · rw [State.ringen_fault _ _ _ _ (by decide), State.rd_wr_behind _ _ (Nat.lt_add_right _ (by decide)), State.setRingBit,
      State.rd_wr_behind _ _ (by decide), State.setRingBit, State.rd_wr_behind _ _ (by decide),
      State.when_keeps (State.rd · R.BTN_CTL_RINGEN) (State.ringen_fault _ _ _ _ (by decide)), hask]

theorem State.bringUp_ringen (s : State) (r : Nat) (f : RingFind) : (s.bringUp r f).rd R.BTN_CTL_RINGEN = s.rd R.BTN_CTL_RINGEN := by
  have hask (k : Nat) : ((s.sendRing r 0x0A 0xFF [0] 2).askDrivers r k).rd R.BTN_CTL_RINGEN = s.rd R.BTN_CTL_RINGEN := by
    rw [(State.askDrivers_only ..).rd _ (by decide), (State.sendRing_only ..).rd _ (by decide)]
  unfold State.bringUp
  split
  · dsimp only
    split
    · rw [State.ringComes_ringen]
      exact hask _
    · rw [State.fullBringUp_ringen]
      exact hask _
  · exact State.fullBringUp_ringen s r f

/-- The rings that a test picks, as a mask. -/
def ringMask (p : Nat → Bool) (n : Nat) : Nat := (List.range n).foldl (fun m r => if p r then m + 2 ^ r else m) 0

theorem ringMask_succ (p : Nat → Bool) (n : Nat) : ringMask p (n + 1) = if p n then ringMask p n + 2 ^ n else ringMask p n := by
  rw [ringMask, List.range_succ, List.foldl_append]
  rfl

theorem ringMask_lt (p : Nat → Bool) (n : Nat) : ringMask p n < 2 ^ n := by
  induction n with
  | zero => exact Nat.one_pos
  | succ n ih =>
    rw [ringMask_succ, Nat.pow_succ]
    split <;> omega

/-- A bit of the mask is set for each ring that the test picks. -/
theorem ringMask_testBit {p : Nat → Bool} {n r : Nat} (hr : r < n) (hp : p r = true) : (ringMask p n).testBit r = true := by
  induction n with
  | zero => exact absurd hr (Nat.not_lt_zero r)
  | succ n ih =>
    rw [ringMask_succ]
    rcases Nat.lt_succ_iff_lt_or_eq.mp hr with hr | rfl
    · split
      · rw [Nat.add_comm, Nat.testBit_two_pow_add_gt hr]
        exact ih hr
      · exact ih hr
    · rw [if_pos hp, Nat.add_comm, Nat.testBit_two_pow_add_eq, Nat.testBit_lt_two_pow (ringMask_lt p r)]
      rfl

/-- Every enabled ring is brought up (R104). -/
def State.ringsBrought (s : State) (finds : List (Fin 8 × RingFind)) : State :=
  s.onRings State.ringEn (fun t r => t.bringUp r (findOf finds r))

/-- The rings that are enabled and not up. -/
def State.ringsDown (s : State) : Nat := ringMask (fun r => s.ringEn r && !s.ringUp r) 8

/-- They are reported (R60). -/
def State.ringsNoted (s : State) : State := if s.ringsDown = 0 then s else s.stageLine 9 0x0C s.ringsDown

theorem exec_rings {s : State} (h : StandsAt 9 s) (finds : List (Fin 8 × RingFind)) :
    exec (.rings finds) s = (s.ringsBrought finds).ringsNoted.enterSpin.done := by
  show execRings finds s = _
  unfold execRings
  rw [bootAt_of_standsAt h]
  rfl

theorem State.ringsBrought_ringen (s : State) (finds : List (Fin 8 × RingFind)) :
    (s.ringsBrought finds).rd R.BTN_CTL_RINGEN = s.rd R.BTN_CTL_RINGEN := by
  refine foldl_keeps (State.rd · R.BTN_CTL_RINGEN) (fun t r => ?_) _ _
  dsimp only
  split
  · exact State.bringUp_ringen ..
  · rfl

/-- An enabled ring that is not up is reported. -/
theorem State.ringsNoted_reports (s : State) (r : Fin 8) (hen : s.ringEn r = true) (hup : s.ringUp r = false) :
    s.ringsNoted.out.any (ringReported · r) = true := by
  have hbit : s.ringsDown.testBit r = true := ringMask_testBit r.isLt (by rw [hen, hup]; rfl)
  have hne : s.ringsDown ≠ 0 := fun h0 => by
    rw [h0, Nat.zero_testBit] at hbit
    cases hbit
  unfold State.ringsNoted
  rw [if_neg hne, State.stageLine_out]
  exact List.any_eq_true.mpr ⟨_, List.mem_cons_self, hbit⟩

theorem State.ringsNoted_ringUp (s : State) (r : Nat) : s.ringsNoted.ringUp r = s.ringUp r := by
  have hup : s.ringsNoted.rd R.BTN_STATUS_RINGUP = s.rd R.BTN_STATUS_RINGUP := by
    unfold State.ringsNoted
    split
    · rfl
    · exact (State.stageLine_only ..).rd _ (by decide)
  rw [State.ringUp, hup]
  rfl

/-! ### What the entry to stage SPIN shows (R58, R78, R365) -/

/-- Stage SPIN is entered. -/
def State.spinStage (s : State) : State := (s.onBoot (fun b => { b with spinDone := false, calDone := false })).enterStage 0x0A

/-- Kerf and Plane run, and calibration begins. -/
def State.spinRuns (s : State) : State := (((s.wr R.KRF_CTL_RUN 1).krfResume).wr R.WFP_CTL_RUN 1).calStage

/-- The modes of spindle and tilt are asked for. -/
def State.spinAsked (s : State) (fast : Bool) : State := if fast then s.reengage else (s.requestSp 3).requestTl 2

theorem State.enterSpin_eq (s : State) : s.enterSpin = s.spinStage.spinRuns.spinAsked s.boot.fast := rfl

theorem State.spinAsked_only (s : State) (fast : Bool) : Only 0xca113800803820 s (s.spinAsked fast) := by
  unfold State.spinAsked
  split
  · exact State.reengage_only s
  · exact (State.requestSp_only ..).trans (State.requestTl_only ..)

theorem State.spinRuns_only (s : State) : Only 0x40a14000034010 s s.spinRuns :=
  ((((Only.refl _ s).wr (by decide)).app (State.krfResume_only _) (by decide)).wr (by decide)).app (State.calStage_only _) (by decide)

/-- A move that is taken up again leaves Kerf running. -/
theorem State.krfResume_run (s : State) : s.krfResume.rd R.KRF_CTL_RUN = s.rd R.KRF_CTL_RUN := by
  have hrep (u : State) (g : Nat) (c : Option Nat) : (u.moveReplaced g c).rd R.KRF_CTL_RUN = u.rd R.KRF_CTL_RUN := by
    unfold State.moveReplaced
    split
    · split
      · rw [State.rd_flag, if_neg (by decide), State.noRepair, State.rd_wr_behind _ _ (Nat.lt_add_right _ (by decide)),
          State.maskEval, State.wrB, State.rd_wr_behind _ _ (Nat.lt_add_right _ (by decide)), State.setChan_rd]
      · rfl
    · rfl
  have hmove (u : State) (g c : Nat) : (u.requestMove g c 2).rd R.KRF_CTL_RUN = u.rd R.KRF_CTL_RUN := by
    unfold State.requestMove
    dsimp only
    rw [State.setGroup_rd, State.when_keeps (State.rd · R.KRF_CTL_RUN), hrep]
    exact State.rd_wr_behind _ _ (Nat.lt_add_right _ (by decide))
  refine foldl_keeps (State.rd · R.KRF_CTL_RUN) (fun t g => ?_) _ _
  split
  · exact State.when_keeps (State.rd · R.KRF_CTL_RUN) (hmove ..)
  · rfl

/-- What has survived a full reset shows again, and Plane runs on. -/
theorem State.calSurvivors_run (s : State) : s.calSurvivors.rd R.WFP_CTL_RUN = s.rd R.WFP_CTL_RUN := by
  have hput (u : State) (l : List (Nat × Int × Int × Int)) : (u.putWf l).rd R.WFP_CTL_RUN = u.rd R.WFP_CTL_RUN := by
    refine foldl_keeps (State.rd · R.WFP_CTL_RUN) (fun t c => ?_) l u
    iterate 3 rw [State.rd_wrS_behind _ _ (Nat.lt_add_right _ (by decide))]
  unfold State.calSurvivors
  dsimp only
  rw [(State.showStored_only ..).rd _ (by decide),
    foldl_keeps (State.rd · R.WFP_CTL_RUN) fun t p => State.rd_wr_behind _ _ (Nat.lt_add_right _ (by decide)),
    foldl_keeps (State.rd · R.WFP_CTL_RUN) fun t p => State.rd_wrS_behind _ _ (Nat.lt_add_right _ (by decide))]
  have hterms : ((s.when (!s.plb.lastWf.isEmpty) (fun t => t.putWf t.plb.lastWf)).when
      (!(s.when (!s.plb.lastWf.isEmpty) (fun t => t.putWf t.plb.lastWf)).plb.lastHk.isEmpty)
      (fun t => t.putHk t.plb.lastHk)).rd R.WFP_CTL_RUN = s.rd R.WFP_CTL_RUN := by
    rw [State.when_keeps (State.rd · R.WFP_CTL_RUN) ((State.putHk_only ..).rd _ (by decide)),
      State.when_keeps (State.rd · R.WFP_CTL_RUN) (hput ..)]
  split
  · rw [(State.markCal_only ..).rd _ (by decide)]
    exact hterms
  · exact hterms

/-- Calibration leaves Plane running. -/
theorem State.calStage_run (s : State) : s.calStage.rd R.WFP_CTL_RUN = s.rd R.WFP_CTL_RUN := by
  have hruns : (((s.calSurvivors.startRun 1).startRun 3).startRun 4).rd R.WFP_CTL_RUN = s.rd R.WFP_CTL_RUN := by
    rw [(State.startRun_only ..).rd _ (by decide), (State.startRun_only ..).rd _ (by decide), (State.startRun_only ..).rd _ (by decide),
      State.calSurvivors_run]
  unfold State.calStage
  dsimp only
  split
  · exact hruns
  · rw [(State.mark5_only ..).rd _ (by decide), (State.setDz_only ..).rd _ (by decide), hruns]

/-- The entry to stage SPIN shows it; Kerf and Plane run; spindle and calibration are still to be waited for. -/
theorem State.enterSpin_shows (s : State) : s.enterSpin.rd R.GLB_STATUS_STAGE = 0x0A ∧ s.enterSpin.rd R.KRF_CTL_RUN = 1
    ∧ s.enterSpin.rd R.WFP_CTL_RUN = 1 ∧ s.enterSpin.boot.spinDone = false ∧ s.enterSpin.boot.calDone = false := by
  have hboot : s.enterSpin.boot = s.spinStage.boot := by
    rw [State.enterSpin_eq, (State.spinAsked_only ..).boot.resolve_left (by decide), (State.spinRuns_only ..).boot.resolve_left (by decide)]
  rw [hboot, State.spinStage, State.enterStage_boot, State.enterSpin_eq]
  refine ⟨?_, ?_, ?_, rfl, rfl⟩
  · rw [(State.spinAsked_only ..).rd _ (by decide), (State.spinRuns_only ..).rd _ (by decide)]
    exact (State.enterStage_shows _ 0x0A (by decide)).1
  · rw [(State.spinAsked_only ..).rd _ (by decide), State.spinRuns, (State.calStage_only _).rd _ (by decide),
      State.rd_wr_ne _ _ _ _ (by decide), State.krfResume_run, State.rd_wr_same]
    rfl
  · rw [(State.spinAsked_only ..).rd _ (by decide), State.spinRuns, State.calStage_run, State.rd_wr_same]
    rfl

theorem rings_goOn {s : State} (h : StandsAt 9 s) (finds : List (Fin 8 × RingFind)) :
    Completes (.rings finds) s (fun t =>
      t.rd R.GLB_STATUS_STAGE = 0x0A ∧ t.rd R.KRF_CTL_RUN = 1 ∧ t.rd R.WFP_CTL_RUN = 1
        ∧ (∀ r : Fin 8, s.ringEn r = true → t.ringUp r = false → t.out.any (ringReported · r) = true) ∧ t.boot.spinDone = false
        ∧ t.boot.calDone = false ∧ KeepsMemory s t) := by
  have hexec := exec_rings h finds
  obtain ⟨hstage, hkrf, hwfp, hspin, hcal⟩ := (s.ringsBrought finds).ringsNoted.enterSpin_shows
  have hspared := (s.ringsBrought finds).ringsNoted.enterSpin_spares
  refine completes_of_done hexec ⟨?_, ?_, ?_, fun r hen hup => ?_, ?_, ?_,
    (execRings_only finds s _ hexec).keepsMemory (by decide) (by decide)⟩
  · rw [State.settle_rd _ _ (by decide) (by decide), hstage]
  · rw [State.settle_rd _ _ (by decide) (by decide), hkrf]
  · rw [State.settle_rd _ _ (by decide) (by decide), hwfp]
  · have hdown : (s.ringsBrought finds).ringUp r = false := by
      rw [← State.ringsNoted_ringUp, State.ringUp,
        ← hspared.rd R.BTN_STATUS_RINGUP ⟨by unfold OffEval; decide, by decide⟩, ← State.settle_rd _ _ (by decide) (by decide)]
      exact hup
    have hen' : (s.ringsBrought finds).ringEn r = true := by
      rw [State.ringEn, State.ringsBrought_ringen]
      exact hen
    obtain ⟨e, he, hr⟩ := List.any_eq_true.mp (State.ringsNoted_reports _ r hen' hdown)
    exact List.any_eq_true.mpr ⟨e, State.settle_out _ (hspared.out he), hr⟩
  · rw [State.settle_boot, hspin]
  · rw [State.settle_boot, hcal]

/-! ### SPIN and CALIBRATE (R58, R80, R365) -/

/-- Both stages done lead to ARM; SPIN alone to CALIBRATE. -/
theorem State.afterSpin_stage (s : State) : s.afterSpin.rd R.GLB_STATUS_STAGE =
    if s.boot.spinDone then (if s.boot.calDone then 0x0C else if s.stage = 0x0A then 0x0B else s.stage) else s.stage := by
  unfold State.afterSpin
  cases s.boot.spinDone with
  | false => rfl
  | true =>
    cases s.boot.calDone with
    | true => exact (State.enterStage_shows s 0x0C (by decide)).1
    | false =>
      simp only [Bool.not_true, Bool.false_eq_true, ite_false, ite_true]
      split
      · exact (State.enterStage_shows s 0x0B (by decide)).1
      · rfl

theorem State.afterSpin_boot (s : State) :
    s.afterSpin.boot.spinDone = s.boot.spinDone ∧ s.afterSpin.boot.calDone = s.boot.calDone := by
  have hentered (n : Nat) : (s.enterStage n).boot.spinDone = s.boot.spinDone ∧ (s.enterStage n).boot.calDone = s.boot.calDone := by
    rw [State.enterStage_boot]
    exact ⟨rfl, rfl⟩
  unfold State.afterSpin
  split
  · exact ⟨rfl, rfl⟩
  · split
    · exact hentered _
    · split
      · exact hentered _
      · exact ⟨rfl, rfl⟩

/-- What it says adds to what has left the part. -/
theorem State.afterSpin_out (s : State) : s.out ⊆ s.afterSpin.out := by
  have hentered (n : Nat) : s.out ⊆ (s.enterStage n).out := State.enterStage_out s n ▸ List.subset_cons_self ..
  unfold State.afterSpin
  split
  · exact List.Subset.refl _
  · split
    · exact hentered _
    · split
      · exact hentered _
      · exact List.Subset.refl _

theorem spin_done {s : State} (h : StandsAt 0x0A s) (hlock : s.rd R.TNN_STATUS_SPLOCK ≠ 0) (hok : s.tnn.tlOk = true) :
    Completes .spin s (fun t =>
      t.boot.spinDone = true ∧ t.rd R.GLB_STATUS_STAGE = (if s.boot.calDone then 0x0C else 0x0B) ∧ KeepsMemory s t) := by
  have hexec : exec .spin s = ((s.onBoot (fun b => { b with spinDone := true })).afterSpin).done := by
    have hready : s.spinReady = true := by simp [State.spinReady, State.on, hlock, hok]
    show execSpin s = _
    unfold execSpin
    rw [bootAt_of_standsAt h, hready]
    rfl
  obtain ⟨hstage, -⟩ := h
  refine completes_of_done hexec ⟨?_, ?_, (execSpin_only s _ hexec).keepsMemory (by decide) (by decide)⟩
  · rw [State.settle_boot, (State.afterSpin_boot _).1]
    rfl
  · rw [State.settle_rd _ _ (by decide) (by decide), State.afterSpin_stage]
    exact congrArg (ite _ _) (if_pos hstage)

/-- What CALIBRATE leaves before start-up goes on. -/
def State.calEnded (s : State) (ok : Bool) : State :=
  ((if ok then s else s.stageLine s.stage 0x0E 0).calReinstate).onBoot (fun b => { b with calDone := true })

theorem exec_calibrate {s : State} (h : StandsAt 0x0A s ∨ StandsAt 0x0B s) (hcal : s.boot.calDone = false) (ok : Bool) :
    exec (.calibrate ok) s = (s.calEnded ok).afterSpin.done := by
  have hat : ((s.bootAt 0x0A || s.bootAt 0x0B) && !s.boot.calDone) = true := by
    rcases h with h | h <;> simp [bootAt_of_standsAt h, hcal]
  show execCalibrate ok s = _
  unfold execCalibrate
  rw [hat]
  rfl

theorem State.calEnded_boot (s : State) (ok : Bool) : (s.calEnded ok).boot = { s.boot with calDone := true } := by
  have hline : (if ok then s else s.stageLine s.stage 0x0E 0).boot = s.boot := by
    split
    · rfl
    · exact State.stageLine_boot ..
  show ({ ((if ok then s else s.stageLine s.stage 0x0E 0).calReinstate).boot with calDone := true } : BootState) = _
  rw [(State.calReinstate_only ..).boot.resolve_left (by decide), hline]

theorem State.calEnded_stage {s : State} (h : s.stage < 256) (ok : Bool) : (s.calEnded ok).stage = s.stage := by
  rw [State.stage, State.calEnded, State.onBoot_rd, (State.calReinstate_only ..).rd _ (by decide)]
  split
  · rfl
  · exact (s.stageLine_shows s.stage 0x0E 0).1.trans (Nat.mod_eq_of_lt h)

/-- What uses stored values is logged with cause 0x0E. -/
theorem State.calEnded_out (s : State) : Emit.line s.stage (lineTime s) 0x0E 0 ∈ (s.calEnded false).out := by
  rw [State.calEnded, if_neg Bool.false_ne_true, State.onBoot_out, (State.calReinstate_only ..).out.resolve_left (by decide),
    State.stageLine_out]
  exact List.mem_cons_self

theorem calibrate_done {s : State} (h : StandsAt 0x0A s ∨ StandsAt 0x0B s) (hcal : s.boot.calDone = false) (ok : Bool) :
    Completes (.calibrate ok) s (fun t =>
      t.boot.calDone = true ∧ (ok = false → Emit.line (s.rd R.GLB_STATUS_STAGE) (lineTime s) 0x0E 0 ∈ t.out)
        ∧ t.rd R.GLB_STATUS_STAGE = (if s.boot.spinDone then 0x0C else s.rd R.GLB_STATUS_STAGE) ∧ KeepsMemory s t) := by
  have hexec := exec_calibrate h hcal ok
  have hlt : s.stage < 256 := by
    rcases h with ⟨h, -⟩ | ⟨h, -⟩ <;> simp [State.stage, h]
  refine completes_of_done hexec ⟨?_, fun hok => ?_, ?_, (execCalibrate_only ok s _ hexec).keepsMemory (by decide) (by decide)⟩
  · rw [State.settle_boot, (State.afterSpin_boot _).2, State.calEnded_boot]
  · subst hok
    exact State.settle_out _ (State.afterSpin_out _ s.calEnded_out)
  · rw [State.settle_rd _ _ (by decide) (by decide), State.afterSpin_stage, State.calEnded_boot, State.calEnded_stage hlt]
    rfl

/-! ### ARM (R58, R59, R296) -/

/-- A stall behind SETTINGS, behind the summary. -/
theorem State.stall_settle_late {s : State} (hs : s.stage < 256) {c : Nat} (hc : c < 256) :
    (s.stall c 0).settle.rd R.GLB_STATUS_STAGE = s.stage ∧ (s.stall c 0).settle.rd R.GLB_STATUS_CAUSE = c
      ∧ (s.stall c 0).settle.boot.stalled = true ∧ Frame (stageFlds ++ reportFlds) s (s.stall c 0).settle := by
  obtain ⟨hstage, hcause, -⟩ := s.stageLine_shows s.stage c 0
  refine ⟨?_, ?_, ?_, ((Frame.refl _ s).stall c 0 (by decide) (by decide)).settle⟩
  · rw [State.settle_rd _ _ (by decide) (by decide)]
    exact hstage.trans (Nat.mod_eq_of_lt hs)
  · rw [State.settle_rd _ _ (by decide) (by decide)]
    exact hcause.trans (Nat.mod_eq_of_lt hc)
  · rw [State.settle_boot, State.stall_boot]

theorem arm_waits {s : State} (h : StandsAt 0x0C s) (hgate : s.rd R.CLK_TBCFG_TBGATE ≠ 0) (htb : s.rd R.CLK_STATUS_TBSTATE ≠ 2)
    (fb : Bool) :
    Completes (.arm fb) s (fun t =>
      t.rd R.GLB_STATUS_STAGE = 0x0C ∧ t.rd R.GLB_STATUS_CAUSE = 0x11 ∧ t.boot.stalled = true ∧ t.trs = s.trs
        ∧ Frame ([R.GLB_STATUS_STAGE, R.GLB_STATUS_CAUSE, R.GLB_STATUS_DETAIL] ++ reportFlds) s t) := by
  have hexec : exec (.arm fb) s = (s.stall 0x11 0).done := by
    have hwait : (s.on R.CLK_TBCFG_TBGATE && s.tb != 2) = true := by simp [State.on, State.tb, hgate, htb]
    show execArm fb s = _
    unfold execArm
    rw [bootAt_of_standsAt h, hwait]
    rfl
  have hstage : s.stage = 0x0C := h.1
  obtain ⟨hs, hcause, hstalled, hframe⟩ := State.stall_settle_late (s := s) (c := 0x11) (by omega) (by decide)
  refine completes_of_done hexec ⟨hs.trans hstage, hcause, hstalled, ?_, hframe⟩
  rw [State.settle_trs, (State.stall_only ..).trs.resolve_left (by decide)]

/-- The end of the ARM checks at stage ARM. -/
def State.stageArmed (s : State) (fb : Bool) : State := (s.onTrs (fun t => { t with armDue := .stage })).armResult fb

theorem exec_arm {s : State} (h : StandsAt 0x0C s) (hgate : s.rd R.CLK_TBCFG_TBGATE = 0) (fb : Bool) :
    exec (.arm fb) s = (if (s.stageArmed fb).trsState = 1 || (s.stageArmed fb).trsState = 2
      then (s.stageArmed fb).plbArm.armPassed else (s.stageArmed fb).stall 0x0F 0).done := by
  have hwait : (s.on R.CLK_TBCFG_TBGATE && s.tb != 2) = false := by simp [State.on, hgate]
  show execArm fb s = _
  unfold execArm
  rw [bootAt_of_standsAt h, hwait]
  rfl

theorem State.stageArmed_keeps (s : State) (fb : Bool) : (s.stageArmed fb).boot = s.boot ∧ (s.stageArmed fb).stage = s.stage :=
  ⟨(State.armResult_only ..).boot.resolve_left (by decide), (State.armResult_only ..).rd _ (by decide)⟩

/-- Stage ARM is left for READY, or for RUNNING when scanning resumes. -/
theorem State.armPassed_stage (s : State) : s.armPassed.rd R.GLB_STATUS_STAGE = if s.boot.wasRun then 0x0E else 0x0D := by
  have hentered : (s.enterStage (if s.boot.wasRun then 0x0E else 0x0D)).rd R.GLB_STATUS_STAGE = if s.boot.wasRun then 0x0E else 0x0D :=
    (State.enterStage_shows _ _ (by split <;> decide)).1
  unfold State.armPassed
  dsimp only
  split
  · exact hentered
  · rw [State.rd_flag, if_neg (by decide), hentered]

theorem arm_decides {s : State} (h : StandsAt 0x0C s) (hgate : s.rd R.CLK_TBCFG_TBGATE = 0) (fb : Bool) :
    Completes (.arm fb) s (fun t =>
      (t.rd R.TRS_STATE_STATE = 1 ∨ t.rd R.TRS_STATE_STATE = 2 → t.rd R.GLB_STATUS_STAGE = (if s.boot.wasRun then 0x0E else 0x0D))
        ∧ (t.rd R.TRS_STATE_STATE ≠ 1 → t.rd R.TRS_STATE_STATE ≠ 2 → t.rd R.GLB_STATUS_STAGE = 0x0C ∧ t.rd R.GLB_STATUS_CAUSE = 0x0F ∧
          t.boot.stalled = true)
        ∧ KeepsMemory s t) := by
  have hexec := exec_arm h hgate fb
  obtain ⟨hboot, hstage⟩ := s.stageArmed_keeps fb
  have hstage : (s.stageArmed fb).stage = 0x0C := hstage.trans h.1
  by_cases harmed : (s.stageArmed fb).trsState = 1 ∨ (s.stageArmed fb).trsState = 2
  · rw [if_pos (by simpa using harmed)] at hexec
    have hstate : (s.stageArmed fb).plbArm.armPassed.settle.rd R.TRS_STATE_STATE = (s.stageArmed fb).trsState := by
      rw [State.settle_rd _ _ (by decide) (by decide), (State.armPassed_only _).rd _ (by decide), (State.plbArm_only _).rd _ (by decide)]
      rfl
    refine completes_of_done hexec ⟨fun _ => ?_, fun h1 h2 => ?_, (execArm_only fb s _ hexec).keepsMemory (by decide) (by decide)⟩
    · rw [State.settle_rd _ _ (by decide) (by decide), State.armPassed_stage, (State.plbArm_only _).boot.resolve_left (by decide), hboot]
    · rw [hstate] at h1 h2
      exact absurd harmed (not_or.mpr ⟨h1, h2⟩)
  · rw [if_neg (by simpa using harmed)] at hexec
    obtain ⟨hs, hcause, hstalled, hframe⟩ := State.stall_settle_late (s := s.stageArmed fb) (c := 0x0F) (by omega) (by decide)
    have hstate : ((s.stageArmed fb).stall 0x0F 0).settle.rd R.TRS_STATE_STATE = (s.stageArmed fb).trsState :=
      hframe.rd _ (by decide) (by decide)
    refine completes_of_done hexec ⟨fun hon => ?_, fun _ _ => ⟨hs.trans hstage, hcause, hstalled⟩,
      (execArm_only fb s _ hexec).keepsMemory (by decide) (by decide)⟩
    rw [hstate] at hon
    exact absurd hon harmed

/-! ### Stalls, logic release, the reset of recovery mode and PERST_N (R49, R50, R60, R444) -/

/-- A line that repeats what GLB_STATUS shows leaves every register field outside the fault log as it is. -/
theorem State.stageLine_repeats {s : State} (hstage : s.stage < 256) (hcause : s.rd R.GLB_STATUS_CAUSE < 256)
    (hdetail : s.rd R.GLB_STATUS_DETAIL < 256) :
    Frame reportFlds s (s.stageLine s.stage (s.rd R.GLB_STATUS_CAUSE) (s.rd R.GLB_STATUS_DETAIL)) := by
  refine ⟨fun f hf _ => ?_, (State.stageLine_only ..).keepsMemory (by decide) (by decide)⟩
  have hsame (g : Fld) (h : f.key = g.key) : s.rd f = s.rd g := by rw [State.rd, State.rd, h]
  rw [State.stageLine_rd _ _ _ _ _ (hf _ (by decide)) (hf _ (by decide)), Nat.mod_eq_of_lt hstage, Nat.mod_eq_of_lt hcause,
    Nat.mod_eq_of_lt hdetail]
  split
  · next h => exact (hsame _ h).symm
  · split
    · next h => exact (hsame _ h).symm
    · split
      · next h => exact (hsame _ h).symm
      · rfl

theorem stallLine_repeats {s : State} (hs : s.boot.stalled = true) (hr : s.boot.inReset = false) (hstage : s.rd R.GLB_STATUS_STAGE < 256)
    (hcause : s.rd R.GLB_STATUS_CAUSE < 256) (hdetail : s.rd R.GLB_STATUS_DETAIL < 256) :
    Completes .stallLine s (fun t =>
      Emit.line (s.rd R.GLB_STATUS_STAGE) (s.clk.porTicks / 200000 % 1000000) (s.rd R.GLB_STATUS_CAUSE) (s.rd R.GLB_STATUS_DETAIL) ∈
        t.out
        ∧ Frame reportFlds s t) := by
  have hexec : exec .stallLine s = (s.stageLine s.stage (s.rd R.GLB_STATUS_CAUSE) (s.rd R.GLB_STATUS_DETAIL)).done := by
    show execStallLine s = _
    unfold execStallLine
    rw [hs, hr]
    rfl
  refine completes_of_done hexec ⟨State.settle_out _ ?_, (State.stageLine_repeats hstage hcause hdetail).settle⟩
  rw [State.stageLine_out]
  exact List.mem_cons_self

/-- HBM is lost where the shutdown has noted it, and the fault log writes what the reset interrupted (R345, R465). -/
def State.logicOn (s : State) : State :=
  let s1 := s.onBoot (fun b => { b with inReset := false, fullrstHi := true })
  (if s1.on R.THM_STATUS_HBMLOST then s1.hbmLoss else s1).fltRelease

theorem exec_logicRelease {s : State} (hr : s.boot.inReset = true) (hp : s.boot.perstHi = true) :
    exec .logicRelease s = (if s.logicOn.boot.ended then s.logicOn else s.logicOn.enterStage 3).done := by
  show execLogicRelease s = _
  unfold execLogicRelease
  rw [hr, hp]
  rfl

/-- The loss of HBM has HBM trained fully, and leaves the rest of start-up's record. -/
theorem State.hbmLoss_boot (s : State) : s.hbmLoss.boot = { s.boot with fast := false, trained := false, wasRun := false } := by
  unfold State.hbmLoss
  dsimp only
  show ({ (State.boot _) with fast := false, trained := false, wasRun := false } : BootState) = _
  rw [State.fault_boot, State.wr_boot, State.wr_boot,
    foldl_keeps State.boot (f := fun t r => (t.wr (R.HIF_CRLASTLO_CID r) 0).wr (R.HIF_CRLASTHI_CID r) 0) fun _ _ => rfl,
    foldl_keeps State.boot (f := fun t q => t.wr (R.HIF_QSTATE_STATE q) 0) fun _ _ => rfl]
  rfl

/-- Before SETTINGS the entry to a stage writes nothing to the fault log. -/
theorem State.enterStage_flt_early {n : Nat} (hn : n < 6) (s : State) : (s.enterStage n).flt = s.flt := by
  have hlate : (decide (7 ≤ n) && n != 0x0F) = false := by simp; omega
  unfold State.enterStage
  dsimp only
  rw [hlate, if_neg Bool.false_ne_true, State.stageLine_of_early (.inl hn)]
  rfl

theorem State.logicOn_boot (s : State) : s.logicOn.boot.inReset = false ∧ s.logicOn.boot.ended = s.boot.ended := by
  unfold State.logicOn
  dsimp only
  rw [(State.fltRelease_only _).boot.resolve_left (by decide)]
  split
  · rw [State.hbmLoss_boot]
    exact ⟨rfl, rfl⟩
  · exact ⟨rfl, rfl⟩

theorem State.logicOn_stage (s : State) : s.logicOn.stage = s.stage := by
  unfold State.logicOn State.stage
  dsimp only
  rw [(State.fltRelease_only _).rd _ (by decide)]
  split
  · exact (State.hbmLoss_only _).rd _ (by decide)
  · rfl

/-- Without a loss of HBM every byte stays. -/
theorem State.logicOn_memory {s : State} (h : s.rd R.THM_STATUS_HBMLOST = 0) : KeepsMemory s s.logicOn := by
  have hlost : (s.onBoot (fun b => { b with inReset := false, fullrstHi := true })).on R.THM_STATUS_HBMLOST = false := by
    simp [State.on, h]
  have honly : Only 0x8000400800000 s s.logicOn := by
    unfold State.logicOn
    dsimp only
    rw [hlost, if_neg Bool.false_ne_true]
    exact ((Only.refl _ s).app (State.onBoot_only ..) (by decide)).app (State.fltRelease_only _) (by decide)
  exact honly.keepsMemory (by decide) (by decide)

theorem logicRelease_starts {s : State} (hr : s.boot.inReset = true) (hp : s.boot.perstHi = true) :
    Completes .logicRelease s (fun t =>
      t.boot.inReset = false ∧ t.rd R.GLB_STATUS_STAGE = (if s.boot.ended then s.rd R.GLB_STATUS_STAGE else 3) ∧ t.flt.opens = []
        ∧ (s.rd R.THM_STATUS_HBMLOST = 0 → KeepsMemory s t)) := by
  have hexec := exec_logicRelease hr hp
  obtain ⟨hreset, hended⟩ := s.logicOn_boot
  have hopens : s.logicOn.flt.opens = [] := rfl
  have hmem (t : State) (ht : Frame stageFlds s.logicOn t) (hlost : s.rd R.THM_STATUS_HBMLOST = 0) : KeepsMemory s t := by
    obtain ⟨hhbm, hflash⟩ := State.logicOn_memory hlost
    obtain ⟨-, hhbm', hflash'⟩ := ht
    exact ⟨fun a => (hhbm' a).trans (hhbm a), fun a => (hflash' a).trans (hflash a)⟩
  rw [hended] at hexec
  cases he : s.boot.ended with
  | true =>
    rw [he, if_pos rfl] at hexec
    refine completes_of_done hexec ⟨?_, ?_, ?_, hmem _ (Frame.refl ..).settle⟩
    · rw [State.settle_boot, hreset]
    · rw [State.settle_rd _ _ (by decide) (by decide)]
      exact s.logicOn_stage
    · rw [State.settle_flt, hopens]
  | false =>
    rw [he, if_neg Bool.false_ne_true] at hexec
    obtain ⟨hstage, -, -, hframe⟩ := s.logicOn.enterStage_settle (n := 3) (by decide)
    refine completes_of_done hexec ⟨?_, hstage, ?_, hmem _ hframe⟩
    · rw [State.settle_boot, State.enterStage_boot]
      exact hreset
    · rw [State.settle_flt, State.enterStage_flt_early (by decide), hopens]

theorem recoveryReset_starts {s : State} (hrec : s.fwu.recovery = true) {via : RecPath} (hcrc : recBadCrc via = false) :
    Completes (.recoveryReset via) s (fun t =>
      t.fwu.recovery = false ∧ t.rd R.GLB_STATUS_STAGE = 3 ∧ t.rd R.FWU_STATUS_IMGSTATE = 0 ∧ t.boot.ignoreSel = true
        ∧ Frame (R.FWU_STATUS_IMGSTATE :: stageFlds) s t) := by
  set u := ((((s.recAnswer via 4 0 0 0).onFwu (fun f => { f with recovery := false, receipt := none })).wr R.FWU_STATUS_IMGSTATE 0).onBoot
    (fun b => { b with ignoreSel := true })) with hu
  have hexec : exec (.recoveryReset via) s = (u.enterStage 3).done := by
    show execRecoveryReset via s = _
    unfold execRecoveryReset
    rw [hrec, hcrc]
    rfl
  obtain ⟨hstage, -, -, hframe⟩ := u.enterStage_settle (n := 3) (by decide)
  have hbefore : Frame (R.FWU_STATUS_IMGSTATE :: stageFlds) s u :=
    (((((Frame.refl _ s).trans (Frame.of_only (State.recAnswer_only ..) (by decide) (by decide) (by decide))).trans
      (Frame.of_only (State.onFwu_only ..) (by decide) (by decide) (by decide))).wr (by decide)).onBoot _)
  refine completes_of_done hexec ⟨?_, hstage, ?_, ?_, hbefore.trans (hframe.mono (List.subset_cons_self ..))⟩
  · rw [State.settle_fwu, (State.enterStage_only ..).fwu.resolve_left (by decide)]
    rfl
  · rw [hframe.rd _ (by decide) (by decide), hu, State.onBoot_rd, State.rd_wr_same]
    rfl
  · rw [State.settle_boot, State.enterStage_boot]
    rfl

theorem perstNRise_noted (s : State) : Completes .perstNRise s (fun t => t.boot.perstHi = true ∧ Frame [] s t) :=
  completes_of_done (u := s.onBoot (fun b => { b with perstHi := true })) rfl
    ⟨by rw [State.settle_boot]; rfl, ((Frame.refl _ s).onBoot _).settle⟩

/-- Settles O15: each stage's results, from the laws of its branches. -/
theorem lateStagesMoveOn : Obligations.LateStagesMoveOn :=
  ⟨fun finds _ h => rings_goOn h finds, fun _ h hlock hok => spin_done h hlock hok, fun ok _ h hcal => calibrate_done h hcal ok,
    fun fb _ h hgate htb => arm_waits h hgate htb fb, fun fb _ h hgate => arm_decides h hgate fb,
    fun _ hs hr hstage hcause hdetail => stallLine_repeats hs hr hstage hcause hdetail, fun _ hr hp => logicRelease_starts hr hp,
    fun _ _ hrec hcrc => recoveryReset_starts hrec hcrc, perstNRise_noted⟩

end Sys2Proof.Machine
end

section
/-!
What the journal's commits and Dog's captures leave alone (R230 to R237, R280 to R285): a commit writes registers of the journal, of Dog and
of the fault log only.
-/
namespace Sys2Proof.Machine

/-! ### Commits of the journal -/

/-- The fields that a commit writes outside Dog's block. -/
def commitFlds : List Fld :=
  [R.JNL_STATUS_REFUSING, R.JNL_STATUS_HELD, R.JNL_INTSTAT_FULL, R.JNL_INTSTAT_RESUMED, R.JNL_INTSTAT_MKREFUSE, R.JNL_COMMITS_CNT,
    R.JNL_PEAK_USED, R.JNL_REFREC_CNT, R.JNL_REFBURST_CNT, R.JNL_RATEREF_CNT, R.JNL_MKREFUSE_CNT] ++ reportFlds

/-- A key that no commit writes. -/
def OffCommit (k : Nat) : Prop := blk k ≠ 15 ∧ ∀ g ∈ commitFlds, k ≠ g.key

theorem not_offCommit {f : Fld} (h : f ∈ commitFlds) : ¬ OffCommit f.key := fun hk => hk.2 f h rfl

theorem not_offCommit_dog {f : Fld} (h : blk f.key = 15) : ¬ OffCommit f.key := fun hk => hk.1 h

theorem offCommit_mask {m : Nat} (hm : ∀ b < 27, b ≠ 15 → m.testBit b = false) (k : Nat) (h : OffCommit k) : m.testBit (blk k) = false :=
  hm _ (Nat.lt_succ_of_le (blk_le k)) h.1

/-- A fault of a flag that a commit may set. -/
theorem Spares.commitFault {s u : State} (h : Spares OffCommit s u) {f : Fld} (hf : ¬ OffCommit f.key) (sev unit : Nat) :
    Spares OffCommit s (u.fault f sev unit) :=
  h.fault (fun _ hg => (List.mem_cons.mp hg).elim (fun he => he ▸ hf) fun hr => not_offCommit (List.mem_append_right _ hr)) sev unit

theorem State.fullBegins_spares (s : State) : Spares OffCommit s s.fullBegins := by
  unfold State.fullBegins
  exact .ite (((Spares.refl _ s).wr (not_offCommit (by decide))).commitFault (not_offCommit (by decide)) 1 0) (.refl ..)

theorem State.commitRec_spares (s : State) (r : Rec) : Spares OffCommit s (s.commitRec r) := by
  refine Spares.trans (Spares.wr (f := R.JNL_PEAK_USED) (Spares.bump (f := R.JNL_COMMITS_CNT) ?_ (not_offCommit (by decide)))
    (not_offCommit (by decide))) (State.fullBegins_spares _)
  exact (Spares.refl _ s).regs rfl rfl

theorem State.judgeFull_spares (s : State) : Spares OffCommit s s.judgeFull := by
  unfold State.judgeFull
  exact .ite (.ite (((Spares.refl _ s).wr (not_offCommit (by decide))).wr (not_offCommit (by decide))) (.refl ..)) s.fullBegins_spares

theorem State.refuseBurst_spares (s : State) (h : Handed) : Spares OffCommit s (s.refuseBurst h) :=
  (((Spares.refl _ s).bump (f := R.JNL_REFREC_CNT) (not_offCommit (by decide))).bump (f := R.JNL_REFBURST_CNT)
    (not_offCommit (by decide))).app (State.tally_only ..) (offCommit_mask (by decide)) (by decide)

theorem State.commitBurst_spares (s : State) (h : Handed) : Spares OffCommit s (s.commitBurst h).1 := by
  have hdrop : Spares OffCommit s
      ({ s with jnl := { s.jnl with handed := s.jnl.handed.filter (fun x => x.burst != h.burst) } }.dropBurst h.burst) :=
    (Spares.refl _ s).regs rfl rfl
  have hjudge := hdrop.trans (State.judgeFull_spares _)
  unfold State.commitBurst
  dsimp only
  split
  · exact hdrop
  · split
    · exact hjudge.trans (State.refuseBurst_spares ..)
    · split
      · exact (hjudge.trans (State.refuseBurst_spares ..)).bump (not_offCommit (by decide))
      · exact hjudge.foldl State.commitRec_spares _

theorem State.commitMarker_spares (s : State) (m : Marker) : Spares OffCommit s (s.commitMarker m) := by
  have htaken : Spares OffCommit s { s with jnl := { s.jnl with markers := removeFirst (· == m) s.jnl.markers } } :=
    (Spares.refl _ s).regs rfl rfl
  have hpend (u : State) (n : Nat) : Spares OffCommit u { u with jnl := { u.jnl with mkPend := n } } := (Spares.refl _ u).regs rfl rfl
  have hframes (u : State) (l : List (Nat × FrameStat)) : Spares OffCommit u { u with jnl := { u.jnl with frames := l } } :=
    (Spares.refl _ u).regs rfl rfl
  unfold State.commitMarker
  dsimp only
  split
  · exact (((htaken.trans (hpend _ _)).bump (not_offCommit (by decide))).commitFault (not_offCommit (by decide)) 3 0)
  · have hrec (r : Rec) := htaken.trans (State.commitRec_spares _ r)
    have hcount (c : Prop) [Decidable c] (r : Rec) := Spares.ite (c := c) (hrec r) ((hrec r).trans (hpend _ 0))
    exact .ite ((hcount ..).trans (hframes _ _)) (hcount ..)

theorem State.drainJnl_spares (n : Nat) (s : State) : Spares OffCommit s (s.drainJnl n).1 := by
  induction n generalizing s with
  | zero => exact .refl ..
  | succ n ih =>
    unfold State.drainJnl
    split
    · exact .refl ..
    · exact (State.commitMarker_spares ..).trans (ih _)
    · exact (State.commitBurst_spares ..).trans (ih _)

theorem State.drain_spares (s : State) : Spares OffCommit s s.drain.1 :=
  (State.drainJnl_spares _ s).wr (f := R.JNL_STATUS_HELD) (not_offCommit (by decide))

/-! ### Captures of Dog (R280 to R285) -/

theorem State.showLevels_spares (s : State) (fill drain : Nat) : Spares OffCommit s (s.showLevels fill drain) := by
  have hshown : Spares OffCommit s (((s.wr R.DOG_STATUS_FILLLVL fill).wr R.DOG_STATUS_DRAINLVL drain).wr R.DOG_STATUS_RLVL
      (if s.draining then max fill drain else 0)) :=
    (((Spares.refl _ s).wr (not_offCommit_dog (by decide))).wr (not_offCommit_dog (by decide))).wr (not_offCommit_dog (by decide))
  unfold State.showLevels
  refine hshown.when _ ?_
  exact (Spares.refl _ _).commitFault (not_offCommit_dog (by decide)) 1 0

theorem State.ringRegs_spares (s : State) : Spares OffCommit s s.ringRegs := by
  have hring (n k : Nat) : Spares OffCommit s ((s.wr R.DOG_FILL_MIB n).wr R.DOG_OLDEST_OFS k) :=
    ((Spares.refl _ s).wr (not_offCommit_dog (by decide))).wr (not_offCommit_dog (by decide))
  unfold State.ringRegs
  dsimp only
  exact (hring _ _).trans (State.showLevels_spares ..)

theorem State.reserve_spares (s : State) (size : Nat) : Spares OffCommit s (s.reserve size).1 := by
  unfold State.reserve
  dsimp only
  rw [apply_ite Prod.fst]
  refine .ite (((Spares.refl _ s).bump (f := R.DOG_FULLDROP_CNT) (not_offCommit_dog (by decide))).commitFault
    (f := R.DOG_INTSTAT_FULL) (not_offCommit_dog (by decide)) 1 0) (Spares.trans ?_ (State.ringRegs_spares _))
  exact (Spares.refl _ s).regs rfl rfl

theorem State.capture_spares (s : State) (u : Nat) (g : Trig) : Spares OffCommit s (s.capture u g) := by
  have hres := s.reserve_spares (entrySize (s.uLen u))
  unfold State.capture
  dsimp only
  split
  · next heq => rwa [heq] at hres
  · next heq =>
    rw [heq] at hres
    refine Spares.wr (Spares.bump ?_ (not_offCommit_dog (blk_DOG_UCAPS_CNT u))) (not_offCommit_dog (blk_DOG_USTAT_BUSY u))
    exact hres.regs rfl rfl

theorem State.trigger_spares (s : State) (u : Nat) (g : Trig) : Spares OffCommit s (s.trigger u g) := by
  have hrate (n : Nat) : Spares OffCommit s (s.setDogU u (fun x => { x with rateCnt := n })) := (Spares.refl _ s).regs rfl rfl
  unfold State.trigger
  refine .ite ?_ (.ite ?_ (.ite (s.capture_spares u g) (.ite ?_ ?_)))
  · exact (Spares.refl _ s).bump (not_offCommit_dog (blk_DOG_USKIPBUSY_CNT u))
  · exact ((Spares.refl _ s).bump (not_offCommit_dog (blk_DOG_ULATEPT_CNT u))).commitFault (not_offCommit_dog (by decide)) 1 u
  · exact (hrate _).trans (State.capture_spares ..)
  · exact (hrate _).bump (not_offCommit_dog (blk_DOG_USKIPRATE_CNT u))

theorem State.dogPoints_spares (s : State) (h : Handed) : Spares OffCommit s (s.dogPoints h) := by
  have hmode (t : State) (u mode : Nat) (g : Trig) : Spares OffCommit t (t.modeTrigger u mode g) := by
    have hevery (n : Nat) : Spares OffCommit t (t.setDogU u (fun x => { x with everyCnt := n })) := (Spares.refl _ t).regs rfl rfl
    exact .ite (.ite ((hevery _).trans (State.trigger_spares ..)) (hevery _)) (.refl ..)
  refine Spares.foldl (.refl ..) (fun t r => Spares.foldl (.refl ..) (fun t u => ?_) _) _
  exact .ite (hmode ..) (.refl ..)

/-- What settles writes registers of the journal, Dog and the fault log only. -/
theorem State.settleJnl_spares (s : State) : Spares OffCommit s s.settleJnl :=
  s.drain_spares.foldl (fun t h => ((Spares.refl _ t).app (State.lbkCover_only ..) (offCommit_mask (by decide)) (by decide)).trans
    (State.dogPoints_spares ..)) _

end Sys2Proof.Machine
end

section
/-!
What applying the settings leaves of FWU_STATUS.SETSRC, and of what has left the part (R440 to R446, R501, R502): the register images
write no field that is read-only.
-/
namespace Sys2Proof.Machine

/-! ### Register images and SETSRC -/

/-- The key of FWU_STATUS.SETSRC. -/
def AtSetsrc (k : Nat) : Prop := k = R.FWU_STATUS_SETSRC.key

theorem not_atSetsrc {f : Fld} (h : f.key ≠ R.FWU_STATUS_SETSRC.key) : ¬ AtSetsrc f.key := h

theorem atSetsrc_mask {m : Nat} (hm : m.testBit 21 = false) (k : Nat) (h : AtSetsrc k) : m.testBit (blk k) = false := by
  have hk : k = R.FWU_STATUS_SETSRC.key := h
  rw [hk, show blk R.FWU_STATUS_SETSRC.key = 21 by decide, hm]

/-- A field of another block. -/
theorem not_atSetsrc_blk {f : Fld} (h : blk f.key ≠ 21) : ¬ AtSetsrc f.key := fun hk => h (by
  rw [show f.key = R.FWU_STATUS_SETSRC.key from hk]
  decide)

/-- A family of registers lies beside SETSRC, or is read-only. -/
def RegDesc.sparesSetsrc (d : RegDesc) : Bool :=
  (decide (R.FWU_STATUS_SETSRC.key < 8 * d.base) || decide (8 * (d.base + d.stride * (d.count - 1)) + 32 ≤ R.FWU_STATUS_SETSRC.key)
    || d.fields.all (fun f => f.2.2 == .ro)) && d.fields.all (fun f => decide (f.1 < 32))

theorem allRegs_spareSetsrc : allRegs.all RegDesc.sparesSetsrc = true := by decide +kernel

/-- No field that can be written lies at SETSRC. -/
theorem fldAt_ne_setsrc {off : Nat} {d : RegDesc} (h : findReg off = some d) {f : Nat × Nat × Acc} (hf : f ∈ d.fields)
    (ha : f.2.2 ≠ .ro) : (fldAt off f).key ≠ R.FWU_STATUS_SETSRC.key := by
  have hd := List.all_eq_true.mp allRegs_spareSetsrc d (List.mem_of_find?_eq_some h)
  have hfound := List.find?_some (show allRegs.find? (·.has off) = some d from h)
  have hhas : d.has off = true := hfound
  simp only [RegDesc.has, Bool.and_eq_true, decide_eq_true_eq, beq_iff_eq] at hhas
  obtain ⟨⟨hbase, hmod⟩, hcount⟩ := hhas
  simp only [RegDesc.sparesSetsrc, Bool.and_eq_true, Bool.or_eq_true, decide_eq_true_eq, List.all_eq_true, beq_iff_eq] at hd
  obtain ⟨hplace, hwide⟩ := hd
  have hlast : off ≤ d.base + d.stride * (d.count - 1) := by
    have hdiv := Nat.div_add_mod (off - d.base) d.stride
    have hmul : d.stride * ((off - d.base) / d.stride) ≤ d.stride * (d.count - 1) := Nat.mul_le_mul_left _ (by omega)
    omega
  have hlow := hwide f hf
  show 8 * off + f.1 ≠ _
  rcases hplace with (hafter | hbefore) | hro
  · omega
  · omega
  · exact absurd (hro f hf) ha

/-- An entry of a register image leaves SETSRC alone. -/
theorem State.putImage_spares (s : State) {a : Acc} (ha : a ≠ .ro) (e : Nat × Nat) : Spares AtSetsrc s (s.putImage a e) := by
  unfold State.putImage
  split
  · next d hd =>
    refine List.foldlRecOn _ _ (Spares.refl _ s) fun t ht f hf => ?_
    obtain ⟨hmem, hacc⟩ := List.mem_filter.mp hf
    refine ht.wr (not_atSetsrc (fldAt_ne_setsrc hd hmem ?_))
    rw [beq_iff_eq.mp hacc]
    exact ha
  · exact .refl ..

theorem State.putImages_spares (s : State) {a : Acc} (ha : a ≠ .ro) (l : List (Nat × Nat)) :
    Spares AtSetsrc s (l.foldl (State.putImage · a) s) := (Spares.refl _ s).foldl (fun t e => t.putImage_spares ha e) l

/-! ### Tie links under a new configuration (R416, R422) -/

theorem Spares.onDwl {P : Nat → Prop} {s u : State} (h : Spares P s u) (f : DwlState → DwlState) : Spares P s (u.onDwl f) :=
  h.regs rfl rfl

theorem Spares.setLink {P : Nat → Prop} {s u : State} (h : Spares P s u) (k : Nat) (f : TieLink → TieLink) :
    Spares P s (u.setLink k f) := h.regs rfl rfl

theorem State.tieFrameOut_spares (P : Nat → Prop) (s : State) (k : Nat) (f : TieFrame) (bad : Bool) :
    Spares P s (s.tieFrameOut k f bad) :=
  (((Spares.refl P s).emit _).setLink k _).trans (State.laneOut_spares P ..)

theorem State.tieTransmit_spares (s : State) (k : Nat) (f : TieFrame) : Spares AtSetsrc s (s.tieTransmit k f) := by
  have hheld (u : State) (hu : Spares AtSetsrc s u) :
      Spares AtSetsrc s (match (s.link k).heldFr with | some h => u.tieFrameOut k h false | none => u) := by
    split
    · exact hu.trans (State.tieFrameOut_spares ..)
    · exact hu
  have hsent (g : TieLink → TieLink) : Spares AtSetsrc s (s.setLink k g) := (Spares.refl _ s).setLink k g
  refine hheld _ ?_
  dsimp only
  split
  · have hcount (g : TieLink → TieLink) : Spares AtSetsrc s ((s.setLink k g).bump (R.DWL_PINJ_CNT (16 + k)) 1) :=
      (hsent g).bump (not_atSetsrc_blk (by rw [blk_DWL_PINJ_CNT]; decide))
    exact .ite ((hcount _).trans (State.tieFrameOut_spares ..)) (hcount _)
  · exact (hsent _).trans (State.tieFrameOut_spares ..)

theorem State.tiePump_spares (k n : Nat) (s : State) : Spares AtSetsrc s (s.tiePump k n) := by
  induction n generalizing s with
  | zero => exact .refl ..
  | succ n ih =>
    unfold State.tiePump
    dsimp only
    split
    · exact .refl ..
    · exact .ite ((((Spares.refl _ s).setLink k _).trans (State.tieTransmit_spares ..)).trans (ih _)) (.refl ..)

theorem State.linkUp_spares (s : State) (k : Nat) : Spares AtSetsrc s (s.linkUp k) := by
  have hsend (t : State) (j : Nat) (f : TieFrame) : Spares AtSetsrc t (t.tieSend j f) :=
    .ite (((Spares.refl _ t).setLink j _).trans (State.tiePump_spares ..)) (.refl ..)
  have hhello (u : State) : Spares AtSetsrc u (u.sendHello (· == k)) :=
    .ite (((Spares.refl _ u).onDwl _).foldl (fun t j => .ite (hsend t j _) (.refl ..)) _) (.refl ..)
  exact .ite (((Spares.refl _ s).setLink k _).trans (hhello _)) (.refl ..)

theorem State.startTrain_spares (s : State) (k : Nat) : Spares AtSetsrc s (s.startTrain (16 + k)) := by
  have hsent : Spares AtSetsrc s (((s.wr (R.DWL_PSTAT_TRAINING (16 + k)) 1).setUp (16 + k) false).emit (.training (16 + k))) :=
    (((Spares.refl _ s).wr (not_atSetsrc_blk (by rw [blk_DWL_PSTAT_TRAINING]; decide))).app (State.setUp_only ..)
      (atSetsrc_mask (by decide)) (by decide)).emit _
  unfold State.startTrain
  dsimp only
  rw [if_neg (by omega)]
  exact (hsent.onDwl _).app (State.linkDown_only ..) (atSetsrc_mask (by decide)) (by decide)

theorem State.tieConfig_spares (s : State) : Spares AtSetsrc s s.tieConfig := by
  have hrefresh {u : State} (h : Spares AtSetsrc s u) : Spares AtSetsrc s u.tieRefresh :=
    h.app (State.tieRefresh_only _) (atSetsrc_mask (by decide)) (by decide)
  have hlinks : Spares AtSetsrc s ((List.range 4).foldl (fun t k =>
      if !t.tieOn k then t.linkDown k
      else if t.pairUp (16 + k) then t.linkUp k
      else if t.on (R.DWL_PSTAT_LOCK (16 + k)) && !t.on (R.DWL_PSTAT_TRAINING (16 + k)) then t.startTrain (16 + k)
      else t) s) :=
    (Spares.refl _ s).foldl (fun t k => .ite ((Spares.refl _ t).app (State.linkDown_only ..) (atSetsrc_mask (by decide)) (by decide))
      (.ite (t.linkUp_spares k) (.ite (t.startTrain_spares k) (.refl ..)))) _
  unfold State.tieConfig
  dsimp only
  refine .ite (hrefresh hlinks) (hrefresh (Spares.onDwl ?_ _))
  exact (hlinks.wr (not_atSetsrc (by decide))).wr (not_atSetsrc (by decide))

/-! ### Tables, Truss, Girt and the allocation -/

theorem Spares.reportFree {s u : State} (h : Spares AtSetsrc s u) (src code sev unit : Nat) :
    Spares AtSetsrc s (u.reportFree src code sev unit) :=
  h.app (State.reportFree_only ..) (atSetsrc_mask (by decide)) (by decide)

theorem Spares.onFwu {P : Nat → Prop} {s u : State} (h : Spares P s u) (f : FwuState → FwuState) : Spares P s (u.onFwu f) :=
  h.regs rfl rfl

theorem Spares.onHif {P : Nat → Prop} {s u : State} (h : Spares P s u) (f : HifState → HifState) : Spares P s (u.onHif f) :=
  h.regs rfl rfl

theorem Spares.onPlb {P : Nat → Prop} {s u : State} (h : Spares P s u) (f : PlbState → PlbState) : Spares P s (u.onPlb f) :=
  h.regs rfl rfl

theorem Spares.stageTable {s u : State} (h : Spares AtSetsrc s u) (kind : Nat) (bytes : List Byte) :
    Spares AtSetsrc s (u.stageTable kind bytes).1 :=
  h.app (State.stageTable_only ..) (atSetsrc_mask (by decide)) (by decide)

theorem State.settingsTable_spares (s : State) (l : List SetRec) (kind : Nat) : Spares AtSetsrc s (s.settingsTable l kind).1 := by
  have hempty {u : State} (hu : Spares AtSetsrc s u) :
      Spares AtSetsrc s ((u.reportFree (srcOf R.FWU_INTSTAT_IMGREJ) 0xFF 1 kind).stageTable kind (emptyTable kind)).1 :=
    (hu.reportFree ..).stageTable ..
  unfold State.settingsTable
  dsimp only
  split
  · next d _ =>
    split
    · rw [apply_ite Prod.fst]
      exact .ite ((Spares.refl _ s).stageTable kind d) (hempty (.refl ..))
    · exact hempty (.refl ..)
  · exact hempty (.refl ..)

/-- A table of the epoch in force is taken from HBM or from the settings. -/
theorem State.keptTable_spares (s : State) (l : List SetRec) (kind addr : Nat) : Spares AtSetsrc s (s.keptTable l kind addr).1 := by
  unfold State.keptTable
  split
  · exact .refl ..
  · exact ((Spares.refl _ s).reportFree ..).trans (State.settingsTable_spares ..)

/-- A table of the epoch in force: the one retained, or that of the settings. -/
def State.tableInForce (s : State) (l : List SetRec) (kept : Bool) (kind addr : Nat) : State × Nat :=
  if kept then s.keptTable l kind addr else s.settingsTable l kind

theorem State.tableInForce_spares (s : State) (l : List SetRec) (kept : Bool) (kind addr : Nat) :
    Spares AtSetsrc s (s.tableInForce l kept kind addr).1 := by
  unfold State.tableInForce
  split
  · exact State.keptTable_spares ..
  · exact State.settingsTable_spares ..

/-- The tables of the epoch in force come into force, each at its address; Truss's copy follows. -/
def State.tablesForced (s : State) (l : List SetRec) (kept : Bool) : State :=
  let c := s.epochCfg s.peg.active
  let p1 := s.tableInForce l kept 1 c.sightAddr
  let p2 := p1.1.tableInForce l kept 2 c.rowAddr
  let p3 := p2.1.tableInForce l kept 3 c.planAddr
  let cfg : EpochCfg := if kept then { c with sightAddr := p1.2, rowAddr := p2.2, planAddr := p3.2 } else p3.1.captureCfg p1.2 p2.2 p3.2 0
  let s4 : State := { p3.1 with peg := { p3.1.peg with epochs := mapIns (mapErase p3.1.peg.epochs p3.1.peg.active) p3.1.peg.active cfg } }
  (s4.onHif (fun h => { h with staged := [] })).onTrs (fun t => { t with budCopy := [(s4.peg.active, s4.readBudgets p1.2)] })

/-- The channel table of the settings comes into force, where they hold a whole one. -/
def State.chanForced (s : State) (l : List SetRec) : State :=
  match (recData l 6).bind (fun b => Config.unpackTable b 5) with
  | some d =>
    if d.length = 1048576 then
      ((s.stageTable 5 d).1.onHif (fun h => { h with staged := [] })).onPlb (fun p =>
        { p with chanAddr := (s.stageTable 5 d).2, chanNew := none })
    else s
  | none => s

theorem State.restoreTables_eq (s : State) (l : List SetRec) (kept : Bool) :
    s.restoreTables l kept = if kept then s.tablesForced l kept else (s.tablesForced l kept).chanForced l := rfl

theorem State.tablesForced_spares (s : State) (l : List SetRec) (kept : Bool) : Spares AtSetsrc s (s.tablesForced l kept) := by
  unfold State.tablesForced
  dsimp only
  refine Spares.onTrs (Spares.onHif ?_ _) _
  exact ((State.tableInForce_spares s l kept 1 _).trans ((State.tableInForce_spares _ l kept 2 _).trans
    (State.tableInForce_spares _ l kept 3 _))).regs rfl rfl

theorem State.chanForced_spares (s : State) (l : List SetRec) : Spares AtSetsrc s (s.chanForced l) := by
  unfold State.chanForced
  split
  · split
    · exact (((Spares.refl _ s).stageTable ..).onHif _).onPlb _
    · exact .refl ..
  · exact .refl ..

theorem State.restoreTables_spares (s : State) (l : List SetRec) (kept : Bool) : Spares AtSetsrc s (s.restoreTables l kept) := by
  rw [State.restoreTables_eq]
  exact .ite (State.tablesForced_spares ..) ((State.tablesForced_spares ..).trans (State.chanForced_spares ..))

theorem State.restoreAlloc_spares (s : State) (l : List SetRec) : Spares AtSetsrc s (s.restoreAlloc l) := by
  unfold State.restoreAlloc
  split
  · dsimp only
    split
    · exact (Spares.refl _ s).onFwu _
    · exact (Spares.refl _ s).reportFree ..
  · exact .refl ..

theorem State.restoreTruss_spares (s : State) (l : List SetRec) : Spares AtSetsrc s (s.restoreTruss l) := by
  unfold State.restoreTruss
  split
  · exact ((s.putImages_spares (by decide) _).foldl (fun t k => (Spares.refl _ t).app (State.inputMode_only ..)
      (atSetsrc_mask (by decide)) (by decide)) _).onTrs _
  · exact .refl ..

theorem State.restoreGirt_spares (s : State) (l : List SetRec) : Spares AtSetsrc s (s.restoreGirt l) := by
  unfold State.restoreGirt
  split
  · exact (s.putImages_spares (by decide) _).foldl (fun t i => (Spares.refl _ t).wr
      (not_atSetsrc_blk (by rw [blk_GRT_RIGHTS_RIGHTS]; decide))) _
  · exact (Spares.refl _ s).app (State.girtDefaults_only _) (atSetsrc_mask (by decide)) (by decide)

/-! ### All settings -/

/-- The records in use, and the allocation and registers of records 1 and 2. -/
def State.firstApplied (s : State) (l : List SetRec) (power full : Bool) : State :=
  let s1 := s.onFwu (fun f => { f with records := l })
  let s2 := if power then s1.restoreAlloc l else s1
  match recData l 1 with | some b => s2.restore1 b full | none => s2

/-- The staged fields, spares, Truss and the stored calibration. -/
def State.unitsApplied (s : State) (l : List SetRec) (power full : Bool) : State :=
  let s4 := (if full then s.putStaged (s.epochCfg s.peg.active) else s).krfRestore full
  let s5 := if power then s4.restoreTruss l else s4
  match recData l 4 with | some b => s5.unpackCal b | none => s5

/-- Journal, lookback, receivers and tie links. -/
def State.layoutApplied (s : State) : State :=
  let s9 := s.wr R.JNL_CAP_CAP (s.fwu.alloc.journal.2 / 32)
  ((List.range 20).foldl State.restoreTrained (s9.lbkLayout (s9.epochCfg s9.peg.active).period)).tieConfig

/-- The reference buffer is asked for, and the settings are applied. -/
def State.lastApplied (s : State) (full : Bool) : State :=
  let s11 := if s.on R.SIL_CTL_REFEN then { s with sil := { s.sil with refWait := true } }
    else ({ s with sil := { s.sil with refWait := true } }).wr R.SIL_CTL_REFEN 1
  (s11.when (!full) (·.wr R.FLT_STATUS_MGMTSB 1)).onFwu (fun f => { f with applied := true })

theorem State.applySettings_eq (s : State) (l : List SetRec) (power : Bool) :
    s.applySettings l power = ((((((s.firstApplied l power s.boot.fast).unitsApplied l power s.boot.fast).restoreGirt l).restoreTables l
      s.boot.fast).layoutApplied).lastApplied s.boot.fast) := by
  unfold State.applySettings
  extract_lets full s1 s2 s3 s4 s5 s6 s7 s8 s9 s10 s11
  have h3 : s.firstApplied l power s.boot.fast = s3 := rfl
  have h6 : s3.unitsApplied l power s.boot.fast = s6 := rfl
  have h10 : s8.layoutApplied = s10 := rfl
  rw [h3, h6]
  show _ = (s8.layoutApplied).lastApplied full
  rw [h10]
  rfl

theorem State.restore1_spares (s : State) (b : List Byte) (full : Bool) : Spares AtSetsrc s (s.restore1 b full) := by
  unfold State.restore1
  exact State.putImages_spares _ (by decide) _

theorem State.firstApplied_spares (s : State) (l : List SetRec) (power full : Bool) : Spares AtSetsrc s (s.firstApplied l power full) := by
  have halloc : Spares AtSetsrc s (if power then (s.onFwu (fun f => { f with records := l })).restoreAlloc l
      else s.onFwu (fun f => { f with records := l })) :=
    .ite (((Spares.refl _ s).onFwu _).trans (State.restoreAlloc_spares ..)) ((Spares.refl _ s).onFwu _)
  unfold State.firstApplied
  dsimp only
  split
  · exact halloc.trans (State.restore1_spares ..)
  · exact halloc

theorem State.unitsApplied_spares (s : State) (l : List SetRec) (power full : Bool) : Spares AtSetsrc s (s.unitsApplied l power full) := by
  have hstaged : Spares AtSetsrc s (if full then s.putStaged (s.epochCfg s.peg.active) else s) :=
    .ite ((Spares.refl _ s).app (State.putStaged_only ..) (atSetsrc_mask (by decide)) (by decide)) (.refl ..)
  have hkerf := hstaged.app (State.krfRestore_only _ full) (atSetsrc_mask (by decide)) (by decide)
  have htruss := Spares.ite (c := power = true) (hkerf.trans (State.restoreTruss_spares _ l)) hkerf
  unfold State.unitsApplied
  dsimp only
  split
  · exact htruss.app (State.unpackCal_only ..) (atSetsrc_mask (by decide)) (by decide)
  · exact htruss

theorem State.layoutApplied_spares (s : State) : Spares AtSetsrc s s.layoutApplied := by
  have hcap (n : Nat) : Spares AtSetsrc s (s.wr R.JNL_CAP_CAP n) := (Spares.refl _ s).wr (not_atSetsrc (by decide))
  have htrained (t : State) (p : Nat) : Spares AtSetsrc t (t.restoreTrained p) :=
    (Spares.refl _ t).app (State.restoreTrained_only t p) (atSetsrc_mask (by decide)) (by decide)
  unfold State.layoutApplied
  dsimp only
  refine Spares.trans (Spares.foldl ?_ htrained _) (State.tieConfig_spares _)
  exact (hcap _).app (State.lbkLayout_only ..) (atSetsrc_mask (by decide)) (by decide)

theorem State.lastApplied_spares (s : State) (full : Bool) : Spares AtSetsrc s (s.lastApplied full) := by
  have hwait : Spares AtSetsrc s { s with sil := { s.sil with refWait := true } } := (Spares.refl _ s).regs rfl rfl
  have hmgmt (t : State) : Spares AtSetsrc t (t.wr R.FLT_STATUS_MGMTSB 1) := (Spares.refl _ t).wr (not_atSetsrc (by decide))
  unfold State.lastApplied
  dsimp only
  refine Spares.onFwu (Spares.when ?_ _ (hmgmt _)) _
  exact .ite hwait (hwait.wr (not_atSetsrc (by decide)))

/-- Applying the settings leaves SETSRC alone, and takes back nothing that has left the part. -/
theorem State.applySettings_spares (s : State) (l : List SetRec) (power : Bool) : Spares AtSetsrc s (s.applySettings l power) := by
  rw [State.applySettings_eq]
  exact (((((State.firstApplied_spares ..).trans (State.unitsApplied_spares ..)).trans (State.restoreGirt_spares ..)).trans
    (State.restoreTables_spares ..)).trans (State.layoutApplied_spares _)).trans (State.lastApplied_spares ..)

end Sys2Proof.Machine
end

section
/-!
Start-up stages IMAGE, SETTINGS, HOST_LINK and JOIST (R58, R60, R205, R240, R246, R426, R428, R429): what each result leaves (O14).
-/
namespace Sys2Proof.Machine

/-! ### IMAGE (R58, R426, R428) -/

theorem Only.keepsHbm {m : Nat} {s t : State} (h : Only m s t) (h52 : m.testBit 52 = false) : KeepsHbm s t := fun a => by
  rw [State.hbmByte, State.hbmByte, h.hbm.resolve_left (by simp [h52])]

/-- Stage SETTINGS is entered: its line goes to the fault log too. -/
theorem State.enterStage6_frame (s : State) : Frame (stageFlds ++ reportFlds) s (s.enterStage 6) :=
  ((Frame.refl _ s).onBoot (fun b => { b with stalled := false })).stageLine 6 0 0 (by decide) (by decide)

/-- The entry to a stage, behind the summary. -/
theorem State.enterStage_settle_shows (s : State) {n : Nat} (hn : n < 256) :
    (s.enterStage n).settle.rd R.GLB_STATUS_STAGE = n ∧ (s.enterStage n).settle.rd R.GLB_STATUS_CAUSE = 0 := by
  obtain ⟨hstage, hcause⟩ := s.enterStage_shows n hn
  exact ⟨by rw [State.settle_rd _ _ (by decide) (by decide), hstage], by rw [State.settle_rd _ _ (by decide) (by decide), hcause]⟩

theorem exec_image {s : State} (h : StandsAt 5 s) : exec .image s = s.imageStage.done := by
  show execImage s = _
  unfold execImage
  rw [bootAt_of_standsAt h]
  rfl

theorem image_kept {s : State} (h : StandsAt 5 s) (hok : s.boot.imageOk = true) :
    Completes .image s (fun t =>
      t.rd R.GLB_STATUS_STAGE = 6 ∧ t.rd R.GLB_STATUS_CAUSE = 0 ∧ t.fwu = s.fwu ∧ Frame (stageFlds ++ reportFlds) s t) := by
  have himage : s.imageStage = s.enterStage 6 := if_pos hok
  obtain ⟨hstage, hcause⟩ := s.enterStage_settle_shows (n := 6) (by decide)
  refine completes_of_done ((exec_image h).trans (congrArg State.done himage)) ⟨hstage, hcause, ?_, s.enterStage6_frame.settle⟩
  rw [State.settle_fwu, (State.enterStage_only ..).fwu.resolve_left (by decide)]

/-- The chosen slot passes its checks. -/
theorem State.imageStage_of_good {s : State} (hok : s.boot.imageOk = false) {i : Image} (h : slotImage s = (0, some i)) :
    s.imageStage = (s.onFwu (fun f => { f with running := some i })).enterStage 6 := by
  unfold slotImage at h
  unfold State.imageStage
  rw [hok, if_neg Bool.false_ne_true]
  dsimp only at h ⊢
  rw [h]
  rfl

/-- The chosen slot is reported with the code of what it fails. -/
def State.slotRejected (s : State) (c : Nat) : State := (s.fwErr c s.boot.slotB).flag R.FWU_INTSTAT_IMGREJ

/-- A pair by its second part. -/
theorem pair_of_snd {α β : Type} {p : α × β} {b : β} (h : p.2 = b) : p = (p.1, b) := by rw [← h]

theorem State.imageStage_of_bad {s : State} (hok : s.boot.imageOk = false) (h : (slotImage s).2 = none) :
    s.imageStage = (s.slotRejected (slotImage s).1).slotFails := by
  have hpair : slotImage s = ((slotImage s).1, none) := pair_of_snd h
  generalize (slotImage s).1 = c at hpair
  unfold slotImage at hpair
  unfold State.imageStage
  rw [hok, if_neg Bool.false_ne_true]
  dsimp only at hpair ⊢
  rw [hpair]
  cases c with
  | zero => rfl
  | succ n => rfl

theorem State.slotRejected_only (s : State) (c : Nat) : Only 0x200000 s (s.slotRejected c) :=
  ((Only.refl _ s).app (State.fwErr_only ..) (by decide)).flag (by decide)

theorem State.slotRejected_rd (s : State) (c : Nat) : (s.slotRejected c).rd R.FWU_INTSTAT_IMGREJ = 1 := by
  rw [State.slotRejected, State.rd_flag, if_pos rfl]
  rfl

theorem State.enterRecovery_fwu (s : State) (c d : Nat) : (s.enterRecovery c d).fwu = { s.fwu with recovery := true } := by
  rw [State.enterRecovery, (State.stageLine_only ..).fwu.resolve_left (by decide), State.wr_fwu, State.onFwu_self]

/-- A failed trial is marked in the boot header (R428). -/
def State.trialFailed (s : State) : State :=
  if s.slotIsTrial then match s.bootHead with | some (_, h) => s.putHead { h with state := 2 } | none => s else s

/-- The chosen slot has been tried, and no image runs. -/
def State.slotTried (s : State) : State :=
  s.trialFailed.onFwu (fun f => { f with tried := s.boot.slotB :: f.tried, running := none })

/-- Start-up goes on with the other slot. -/
def State.otherSlot (s : State) : State := s.onBoot (fun b => { b with slotB := !b.slotB, imageOk := false })

theorem State.trialFailed_only (s : State) : Only 0x20000000000000 s s.trialFailed := by
  unfold State.trialFailed
  split
  · split
    · exact State.putHead_only ..
    · exact Only.refl ..
  · exact Only.refl ..

theorem State.slotTried_only (s : State) : Only 0x24000000000000 s s.slotTried :=
  ((Only.refl _ s).app (State.trialFailed_only s) (by decide)).app (State.onFwu_only ..) (by decide)

theorem State.slotTried_rd (s : State) (f : Fld) : s.slotTried.rd f = s.rd f :=
  s.slotTried_only.rd f ((by decide : ∀ b < 27, Nat.testBit 0x24000000000000 b = false) _ (Nat.lt_succ_of_le (blk_le _)))

theorem State.slotTried_fwu (s : State) : s.slotTried.fwu = { s.fwu with tried := s.boot.slotB :: s.fwu.tried, running := none } := by
  show ({ s.trialFailed.fwu with tried := s.boot.slotB :: s.trialFailed.fwu.tried, running := none } : FwuState) = _
  rw [s.trialFailed_only.fwu.resolve_left (by decide)]

/-- What fails last is not the other slot. -/
theorem contains_other (b : Bool) (l : List Bool) : (b :: l).contains (!b) = l.contains (!b) := by cases b <;> rfl

theorem State.slotFails_eq (s : State) : s.slotFails =
    if s.fwu.tried.contains (!s.boot.slotB) then (s.slotTried.stageLine s.slotTried.stage 9 0).enterRecovery 9 0
    else (s.slotTried.otherSlot.stageLine s.slotTried.otherSlot.stage 8 0).enterStage 5 := by
  rw [← contains_other s.boot.slotB, ← s.trialFailed_only.fwu.resolve_left (by decide)]
  rfl

/-- Both slots have failed: recovery mode with cause 9. -/
theorem State.slotFails_both {s : State} (h : s.fwu.tried.contains (!s.boot.slotB) = true) :
    s.slotFails.settle.rd R.GLB_STATUS_STAGE = 0x0F ∧ s.slotFails.settle.rd R.GLB_STATUS_CAUSE = 9
      ∧ s.slotFails.settle.rd R.FWU_INTSTAT_IMGREJ = s.rd R.FWU_INTSTAT_IMGREJ ∧ s.slotFails.settle.fwu.recovery = true
      ∧ s.slotFails.settle.fwu.running = none := by
  rw [State.slotFails_eq, if_pos h]
  obtain ⟨hstage, hcause, -, hrec, -, hframe⟩ :=
    (s.slotTried.stageLine s.slotTried.stage 9 0).enterRecovery_settle (c := 9) (by decide) (d := 0) (by decide)
  refine ⟨hstage, hcause, ?_, hrec, ?_⟩
  · rw [hframe.rd _ (by decide) (by decide), (State.stageLine_only ..).rd _ (by decide), State.slotTried_rd]
  · rw [State.settle_fwu, State.enterRecovery_fwu, (State.stageLine_only ..).fwu.resolve_left (by decide), State.slotTried_fwu]

/-- One slot has failed: the other one is tried, with cause 8 in the line. -/
theorem State.slotFails_one {s : State} (h : s.fwu.tried.contains (!s.boot.slotB) = false) :
    s.slotFails.settle.rd R.GLB_STATUS_STAGE = 5 ∧ s.slotFails.settle.rd R.FWU_INTSTAT_IMGREJ = s.rd R.FWU_INTSTAT_IMGREJ
      ∧ s.slotFails.settle.fwu.running = none ∧ s.slotFails.settle.boot.slotB = (!s.boot.slotB)
      ∧ Emit.line s.stage (lineTime s) 8 0 ∈ s.slotFails.settle.out := by
  have hstage : s.slotTried.otherSlot.stage = s.stage := by
    rw [State.stage, State.otherSlot, State.onBoot_rd, State.slotTried_rd, State.stage]
  have htime : lineTime s.slotTried.otherSlot = lineTime s := by
    rw [lineTime, lineTime, State.otherSlot, State.onBoot_clk, s.slotTried_only.clk.resolve_left (by decide)]
  rw [State.slotFails_eq, if_neg (by rw [h]; decide), hstage]
  obtain ⟨hs, -, -, hframe⟩ := (s.slotTried.otherSlot.stageLine s.stage 8 0).enterStage_settle (n := 5) (by decide)
  refine ⟨hs, ?_, ?_, ?_, ?_⟩
  · rw [hframe.rd _ (by decide) (by decide), (State.stageLine_only ..).rd _ (by decide), State.otherSlot, State.onBoot_rd, State.slotTried_rd]
  · rw [State.settle_fwu, (State.enterStage_only ..).fwu.resolve_left (by decide), (State.stageLine_only ..).fwu.resolve_left (by decide),
      State.otherSlot, State.onBoot_fwu, State.slotTried_fwu]
  · rw [State.settle_boot, State.enterStage_boot, State.stageLine_boot, State.otherSlot, State.onBoot_self,
      s.slotTried_only.boot.resolve_left (by decide)]
  · refine State.settle_out _ ?_
    rw [State.enterStage_out, State.stageLine_out, htime]
    exact List.mem_cons_of_mem _ List.mem_cons_self

theorem image_checked {s : State} (h : StandsAt 5 s) (hok : s.boot.imageOk = false) :
    Completes .image s (fun t =>
      (∀ i, slotImage s = (0, some i) → t.rd R.GLB_STATUS_STAGE = 6 ∧ t.fwu.running = some i)
        ∧ ((slotImage s).2 = none → t.rd R.FWU_INTSTAT_IMGREJ = 1 ∧ t.fwu.running = none ∧ t.rd R.GLB_STATUS_STAGE = (if
          s.fwu.tried.contains (!s.boot.slotB) then 0x0F else 5))
        ∧ ((slotImage s).2 = none → s.fwu.tried.contains (!s.boot.slotB) = false → t.boot.slotB = (!s.boot.slotB) ∧ Emit.line 5
          (lineTime s) 8 0 ∈ t.out)
        ∧ ((slotImage s).2 = none → s.fwu.tried.contains (!s.boot.slotB) = true → t.fwu.recovery = true ∧ t.rd R.GLB_STATUS_CAUSE = 9)
        ∧ KeepsHbm s t) := by
  have hexec := exec_image h
  have hhbm : KeepsHbm s s.imageStage.settle := (execImage_only s _ hexec).keepsHbm (by decide)
  have hstage : s.stage = 5 := h.1
  have htried (c : Nat) : (s.slotRejected c).fwu = s.fwu ∧ (s.slotRejected c).boot = s.boot ∧ (s.slotRejected c).stage = 5
      ∧ lineTime (s.slotRejected c) = lineTime s :=
    ⟨rfl, rfl, ((s.slotRejected_only c).rd _ (by decide)).trans hstage, by
      rw [lineTime, lineTime, (s.slotRejected_only c).clk.resolve_left (by decide)]⟩
  refine completes_of_done hexec ⟨fun i hi => ?_, fun hn => ?_, fun hn hother => ?_, fun hn hother => ?_, hhbm⟩
  · rw [State.imageStage_of_good hok hi]
    refine ⟨(State.enterStage_settle_shows _ (by decide)).1, ?_⟩
    rw [State.settle_fwu, (State.enterStage_only ..).fwu.resolve_left (by decide), State.onFwu_self]
  · obtain ⟨hfwu, hboot, -, -⟩ := htried (slotImage s).1
    rw [State.imageStage_of_bad hok hn]
    cases hother : s.fwu.tried.contains (!s.boot.slotB) with
    | true =>
      obtain ⟨hs, -, hrej, -, hrun⟩ := State.slotFails_both (s := s.slotRejected (slotImage s).1) (by rw [hfwu, hboot, hother])
      exact ⟨hrej.trans (s.slotRejected_rd _), hrun, hs⟩
    | false =>
      obtain ⟨hs, hrej, hrun, -⟩ := State.slotFails_one (s := s.slotRejected (slotImage s).1) (by rw [hfwu, hboot, hother])
      exact ⟨hrej.trans (s.slotRejected_rd _), hrun, hs⟩
  · obtain ⟨hfwu, hboot, hs, htime⟩ := htried (slotImage s).1
    obtain ⟨-, -, -, hslot, hline⟩ := State.slotFails_one (s := s.slotRejected (slotImage s).1) (by rw [hfwu, hboot, hother])
    rw [hs, htime] at hline
    rw [hboot] at hslot
    rw [State.imageStage_of_bad hok hn]
    exact ⟨hslot, hline⟩
  · obtain ⟨hfwu, hboot, -, -⟩ := htried (slotImage s).1
    obtain ⟨-, hcause, -, hrec, -⟩ := State.slotFails_both (s := s.slotRejected (slotImage s).1) (by rw [hfwu, hboot, hother])
    rw [State.imageStage_of_bad hok hn]
    exact ⟨hrec, hcause⟩

/-! ### SETTINGS without a good store (R440, R443) -/

/-- The settings given are applied, and start-up goes on. -/
def State.settingsGo (s : State) (i : Image) (l : List SetRec) (src : Nat) (parsed power : Bool) : State :=
  ((((((s.onFwu (fun f => { f with parsed := parsed })).wr R.FWU_STATUS_SETSRC src).applySettings l power).fallback i).setLock).readRails
    l).enterStage 7

theorem exec_settings_of_noStore {i : Image} {s : State} (h : StandsAt 6 s) (hrun : s.fwu.running = some i)
    (hstore : (s.imageRuns i).storeNow = none) :
    exec .settings s = (((s.imageRuns i).stageLine 6 0x0A 0).settingsGo i i.defaults 2 true (!s.fwu.applied)).done := by
  have hstage : s.settingsStage i = ((s.imageRuns i).stageLine 6 0x0A 0).settingsGo i i.defaults 2 true (!s.fwu.applied) := by
    unfold State.settingsStage
    dsimp only
    rw [hstore]
    rfl
  show execSettings s = _
  unfold execSettings
  rw [hrun, ← hstage]
  exact congrArg (fun c => if c then (s.settingsStage i).done else s.done) (bootAt_of_standsAt h) |>.trans (if_pos rfl)

theorem State.fallback_spares (s : State) (i : Image) : Spares AtSetsrc s (s.fallback i) := by
  have hregs (u : State) : Spares AtSetsrc u u.headRegs := by
    unfold State.headRegs
    split
    · exact ((Spares.refl _ u).wr (not_atSetsrc (by decide))).wr (not_atSetsrc (by decide))
    · exact .refl ..
  unfold State.fallback
  split
  · split
    · exact (((Spares.refl _ s).app (State.putHead_only ..) (atSetsrc_mask (by decide)) (by decide)).trans (hregs _)).wr
        (not_atSetsrc (by decide))
    · exact .refl ..
  · exact .refl ..

theorem State.readRails_spares (P : Nat → Prop) (s : State) (l : List SetRec) : Spares P s (s.readRails l) :=
  (Spares.refl P s).foldl (fun t _ => (Spares.refl P t).emit _) _

/-- Behind the settings SETSRC shows where they came from, and the stage is HOST_LINK. -/
theorem State.settingsGo_shows (s : State) (i : Image) (l : List SetRec) (src : Nat) (parsed power : Bool) :
    (s.settingsGo i l src parsed power).rd R.GLB_STATUS_STAGE = 7 ∧ (s.settingsGo i l src parsed power).rd R.GLB_STATUS_CAUSE = 0
      ∧ (s.settingsGo i l src parsed power).rd R.FWU_STATUS_SETSRC = src % 4 ∧ s.out ⊆ (s.settingsGo i l src parsed power).out := by
  set u := (s.onFwu (fun f => { f with parsed := parsed })).wr R.FWU_STATUS_SETSRC src with hu
  set v := (((u.applySettings l power).fallback i).setLock).readRails l with hv
  have hspared : Spares AtSetsrc u v :=
    (((u.applySettings_spares l power).trans (State.fallback_spares ..)).wr (f := R.FWU_STATUS_SETLOCK) (not_atSetsrc (by decide))).trans
      (State.readRails_spares ..)
  obtain ⟨hstage, hcause⟩ := v.enterStage_shows 7 (by decide)
  refine ⟨hstage, hcause, ?_, fun e he => ?_⟩
  · show (v.enterStage 7).rd _ = _
    rw [(State.enterStage_only ..).rd _ (by decide), hspared.rd R.FWU_STATUS_SETSRC rfl, hu, State.rd_wr_same]
    rfl
  · show e ∈ (v.enterStage 7).out
    rw [State.enterStage_out]
    exact List.mem_cons_of_mem _ (hspared.out he)

theorem settings_default {i : Image} {s : State} (h : StandsAt 6 s) (hrun : s.fwu.running = some i)
    (hstore : (s.imageRuns i).storeNow = none) :
    Completes .settings s (fun t =>
      t.rd R.GLB_STATUS_STAGE = 7 ∧ t.rd R.GLB_STATUS_CAUSE = 0 ∧ t.rd R.FWU_STATUS_SETSRC = 2
        ∧ Emit.line 6 (lineTime s) 0x0A 0 ∈ t.out) := by
  obtain ⟨hstage, hcause, hsrc, hout⟩ :=
    ((s.imageRuns i).stageLine 6 0x0A 0).settingsGo_shows i i.defaults 2 true (!s.fwu.applied)
  have htime : lineTime (s.imageRuns i) = lineTime s := by
    rw [lineTime, lineTime, (State.imageRuns_only ..).clk.resolve_left (by decide)]
  refine completes_of_done (exec_settings_of_noStore h hrun hstore) ⟨?_, ?_, ?_, State.settle_out _ (hout ?_)⟩
  · rw [State.settle_rd _ _ (by decide) (by decide), hstage]
  · rw [State.settle_rd _ _ (by decide) (by decide), hcause]
  · rw [State.settle_rd _ _ (by decide) (by decide), hsrc]
  · rw [State.stageLine_out, htime]
    exact List.mem_cons_self

/-! ### HOST_LINK (R240, R241) -/

/-- What a full reset has left is recovered (R240). -/
def State.linkRecovered (s : State) (bad : List Nat) : State :=
  if s.boot.fast then (s.onBoot (fun b => { b with linked := true })).journalRecover.lbkRecover bad
  else s.onBoot (fun b => { b with linked := true })

theorem exec_hostLink {s : State} (h : StandsAt 7 s) (bad : List Nat) :
    exec (.hostLink ⟨true, bad⟩) s = (((s.linkRecovered bad).enterStage 8).settleJnl).done := by
  show execHostLink ⟨true, bad⟩ s = _
  unfold execHostLink
  rw [bootAt_of_standsAt h]
  rfl

theorem State.journalRecover_sound {s : State} (h : s.journalSound = true) : s.journalRecover.rd R.JNL_STATUS_RECOVERED = 1 := by
  rw [State.journalRecover, if_pos h, State.rd_flag, if_neg (by decide), State.rd_wr_same]
  rfl

theorem State.journalRecover_lost {s : State} (h : s.journalSound = false) : s.journalRecover.rd R.JNL_INTSTAT_NEWGEN = 1 := by
  rw [State.journalRecover, if_neg (by rw [h]; decide), State.fault_rd _ _ _ _ _ (by decide) (by decide), if_pos rfl]
  rfl

/-- Recovery leaves the entry of HOST_LINK in start-up's record. -/
theorem State.linkRecovered_boot (s : State) (bad : List Nat) : (s.linkRecovered bad).boot = { s.boot with linked := true } := by
  unfold State.linkRecovered
  split
  · rw [(State.lbkRecover_only ..).boot.resolve_left (by decide), (State.journalRecover_only _).boot.resolve_left (by decide),
      State.onBoot_self]
  · rw [State.onBoot_self]

/-- A field that recovery sets is shown when the stage is left. -/
theorem State.hostLink_rd (s : State) (bad : List Nat) (hf : s.boot.fast = true) {f : Fld} (hc : OffCommit f.key) (hb : blk f.key = 9) :
    (((s.linkRecovered bad).enterStage 8).settleJnl).settle.rd f = (s.onBoot (fun b => { b with linked := true })).journalRecover.rd f := by
  have hmask {m : Nat} (hm : m.testBit 9 = false) : m.testBit (blk f.key) = false := by rw [hb, hm]
  rw [(State.settle_only _).rd f (hmask (by decide)), (State.settleJnl_spares _).rd f hc, (State.enterStage_only ..).rd f (hmask (by decide)),
    State.linkRecovered, if_pos hf, (State.lbkRecover_only ..).rd f (hmask (by decide))]

theorem hostLink_links {s : State} (h : StandsAt 7 s) (bad : List Nat) :
    Completes (.hostLink ⟨true, bad⟩) s (fun t =>
      t.rd R.GLB_STATUS_STAGE = 8 ∧ t.rd R.GLB_STATUS_CAUSE = 0 ∧ t.boot.linked = true
        ∧ (s.boot.fast = true → s.journalSound = true → t.rd R.JNL_STATUS_RECOVERED = 1)
        ∧ (s.boot.fast = true → s.journalSound = false → t.rd R.JNL_INTSTAT_NEWGEN = 1) ∧ KeepsMemory s t) := by
  have hexec := exec_hostLink h bad
  obtain ⟨hstage, hcause⟩ := (s.linkRecovered bad).enterStage_shows 8 (by decide)
  refine completes_of_done hexec ⟨?_, ?_, ?_, fun hf hs => ?_, fun hf hs => ?_,
    (execHostLink_only _ s _ hexec).keepsMemory (by decide) (by decide)⟩
  · rw [State.settle_rd _ _ (by decide) (by decide), (State.settleJnl_only _).rd _ (by decide), hstage]
  · rw [State.settle_rd _ _ (by decide) (by decide), (State.settleJnl_only _).rd _ (by decide), hcause]
  · rw [State.settle_boot, (State.settleJnl_only _).boot.resolve_left (by decide), State.enterStage_boot, State.linkRecovered_boot]
  · rw [State.hostLink_rd s bad hf ⟨by decide, by decide⟩ (by decide)]
    exact State.journalRecover_sound (s := s.onBoot _) hs
  · rw [State.hostLink_rd s bad hf ⟨by decide, by decide⟩ (by decide)]
    exact State.journalRecover_lost (s := s.onBoot _) hs

theorem hostLink_stalls {s : State} (h : StandsAt 7 s) (bad : List Nat) :
    Completes (.hostLink ⟨false, bad⟩) s (fun t =>
      t.rd R.GLB_STATUS_STAGE = 7 ∧ t.boot.stalled = true ∧ t.boot.linked = s.boot.linked ∧ Frame (stageFlds ++ reportFlds) s t) := by
  have hexec : exec (.hostLink ⟨false, bad⟩) s = ((s.stall 0 0).reportFree (srcOf R.HIF_INTSTAT_LINKDOWN) 0xFF 3 0).done := by
    show execHostLink ⟨false, bad⟩ s = _
    unfold execHostLink
    rw [bootAt_of_standsAt h]
    rfl
  have hstage : s.stage = 7 := h.1
  have hstall : Frame (stageFlds ++ reportFlds) s ((s.stall 0 0).reportFree (srcOf R.HIF_INTSTAT_LINKDOWN) 0xFF 3 0) :=
    ((Frame.refl _ s).stall 0 0 (by decide) (by decide)).report _ _ _ _ _ (by decide)
  have hboot : ((s.stall 0 0).reportFree (srcOf R.HIF_INTSTAT_LINKDOWN) 0xFF 3 0).settle.boot = { s.boot with stalled := true } := by
    rw [State.settle_boot, (State.reportFree_only ..).boot.resolve_left (by decide), State.stall_boot]
  refine completes_of_done hexec ⟨?_, ?_, ?_, hstall.settle⟩
  · rw [State.settle_rd _ _ (by decide) (by decide), State.reportFree_rd _ _ _ _ _ _ (by decide) (by decide),
      State.stall_rd _ _ _ _ (by decide) (by decide), if_neg (by decide), if_neg (by decide), if_pos rfl, hstage]
  · rw [hboot]
  · rw [hboot]

/-! ### JOIST (R58, R205, R428) -/

theorem State.showProof_frame (s : State) (p : Nat × Nat × Nat) : Frame (proofFlds ++ reportFlds) s (s.showProof p) := by
  have hshown : Frame (proofFlds ++ reportFlds) s
      (((s.wr R.JST_PROOF_CODE p.1).wr R.JST_PROOF_SLOT p.2.1).wr R.JST_PROOF_WORST p.2.2) :=
    (((Frame.refl _ s).wr (by decide)).wr (by decide)).wr (by decide)
  unfold State.showProof
  refine hshown.when _ ?_
  exact (Frame.refl _ _).fault (by decide) (by decide)

/-- Every epoch in force takes the standard set. -/
def PegState.standardForced (p : PegState) : PegState :=
  { p with epochs := p.epochs.map (fun q => if q.1 = p.active then (q.1, { q.2 with progSet := 0 }) else q) }

/-- A set in force that fails its proof is replaced by the standard set, and reported (R205). -/
def State.setReplaced (s : State) (p : Nat × Nat × Nat) : State := ((s.showProof p).stageLine 8 0x0B 0).onPeg PegState.standardForced

/-- The set in force has been proven again, where it is not the standard one. -/
def State.forceProven (s : State) (std set : ProofFind) : State :=
  let act := s.setOf s.peg.active
  if act.num = 0 then s.showProof (proveSet s.standardSet.image std)
  else if (proveSet act.image set).1 = 0 then s.showProof (proveSet act.image set)
  else s.setReplaced (proveSet act.image set)

theorem exec_joist {s : State} (h : StandsAt 8 s) (std set : ProofFind) : exec (.joist std set) s = (s.joistStage std set).done := by
  show execJoist std set s = _
  unfold execJoist
  rw [bootAt_of_standsAt h]
  rfl

theorem State.joistStage_of_good {s : State} {std : ProofFind} (h : (proveSet s.standardSet.image std).1 = 0) (set : ProofFind) :
    s.joistStage std set = ((standardLoaded s).forceProven std set).clusterStatus.setInfo.enterStage 9 := by
  unfold State.joistStage
  dsimp only
  rw [h]
  rfl

theorem State.setReplaced_only (s : State) (p : Nat × Nat × Nat) : Only 0x48002000800081 s (s.setReplaced p) :=
  (((Only.refl _ s).app (State.showProof_only ..) (by decide)).app (State.stageLine_only ..) (by decide)).app (State.onPeg_only ..)
    (by decide)

theorem State.forceProven_only (s : State) (std set : ProofFind) : Only 0x48002000800081 s (s.forceProven std set) := by
  unfold State.forceProven
  dsimp only
  split
  · exact (Only.refl _ s).app (State.showProof_only ..) (by decide)
  · split
    · exact (Only.refl _ s).app (State.showProof_only ..) (by decide)
    · exact State.setReplaced_only ..

/-- The registers of clusters and of the set in force leave the proof's code as it is. -/
theorem State.clusterStatus_code (s : State) : s.clusterStatus.setInfo.rd R.JST_PROOF_CODE = s.rd R.JST_PROOF_CODE := by
  have hclusters : ((List.range 33).foldl State.clusterRegs s).rd R.JST_PROOF_CODE = s.rd R.JST_PROOF_CODE :=
    foldl_keeps (State.rd · R.JST_PROOF_CODE) (fun t c => by
      show (t.clusterRegs c).rd _ = _
      rw [State.clusterRegs, State.rd_wr_behind _ _ (Nat.lt_add_right _ (by decide)),
        State.rd_wr_behind _ _ (Nat.lt_add_right _ (by decide))]) _ s
  have hstatus : s.clusterStatus.rd R.JST_PROOF_CODE = s.rd R.JST_PROOF_CODE := by
    unfold State.clusterStatus
    dsimp only
    split
    · rw [State.rd_wr_ne _ _ _ _ (by decide), State.rd_wr_behind _ _ (Nat.lt_add_right _ (by decide)),
        State.rd_wr_behind _ _ (Nat.lt_add_right _ (by decide)), hclusters]
    · exact hclusters
  rw [State.setInfo, State.rd_wr_ne _ _ _ _ (by decide), State.rd_wr_ne _ _ _ _ (by decide), State.rd_wr_ne _ _ _ _ (by decide), hstatus]

/-- In the epoch in force the standard set is the one named. -/
theorem epochCfg_of_standardForced {s t : State} (h : t.peg = s.peg.standardForced) : (t.epochCfg s.peg.active).progSet = 0 := by
  unfold State.epochCfg
  rw [h]
  split
  · next p hp =>
    have hkey : p.1 = s.peg.active := by simpa using List.find?_some hp
    obtain ⟨q, -, hq⟩ := List.mem_map.mp (List.mem_of_find?_eq_some hp)
    split at hq
    · rw [← hq]
    · next hne =>
      rw [hq] at hne
      exact absurd hkey hne
  · rfl

/-- What the stage leaves once the standard set is proven. -/
def State.joistDone (s : State) (std set : ProofFind) : State :=
  (((standardLoaded s).forceProven std set).clusterStatus.setInfo.enterStage 9).settle

section
variable (s : State) (std set : ProofFind)

theorem State.joistDone_jst : (s.joistDone std set).jst = (standardLoaded s).jst := by
  rw [State.joistDone, State.settle_jst, (State.enterStage_only ..).jst.resolve_left (by decide),
    (State.setInfo_only _).jst.resolve_left (by decide), (State.clusterStatus_only _).jst.resolve_left (by decide),
    (State.forceProven_only ..).jst.resolve_left (by decide)]

theorem State.joistDone_code : (s.joistDone std set).rd R.JST_PROOF_CODE = ((standardLoaded s).forceProven std set).rd R.JST_PROOF_CODE := by
  rw [State.joistDone, State.settle_rd _ _ (by decide) (by decide), (State.enterStage_only ..).rd _ (by decide), State.clusterStatus_code]

theorem State.joistDone_peg : (s.joistDone std set).peg = ((standardLoaded s).forceProven std set).peg := by
  rw [State.joistDone, (State.settle_only _).peg.resolve_left (by decide), (State.enterStage_only ..).peg.resolve_left (by decide),
    (State.setInfo_only _).peg.resolve_left (by decide), (State.clusterStatus_only _).peg.resolve_left (by decide)]

theorem State.joistDone_out : ((standardLoaded s).forceProven std set).out ⊆ (s.joistDone std set).out := by
  intro e he
  refine State.settle_out _ ?_
  rw [State.enterStage_out, (State.setInfo_only _).out.resolve_left (by decide), (State.clusterStatus_only _).out.resolve_left (by decide)]
  exact List.mem_cons_of_mem _ he

end

theorem standardLoaded_memory (s : State) : KeepsMemory s (standardLoaded s) := ⟨fun _ => rfl, fun _ => rfl⟩

theorem State.joistDone_memory (s : State) (std set : ProofFind) : KeepsMemory s (s.joistDone std set) := by
  have honly : Only 0x48002400800081 (standardLoaded s) (((standardLoaded s).forceProven std set).clusterStatus.setInfo.enterStage 9) :=
    ((((Only.refl _ _).app (State.forceProven_only ..) (by decide)).app (State.clusterStatus_only _) (by decide)).app
      (State.setInfo_only _) (by decide)).app (State.enterStage_only ..) (by decide)
  have hstage : KeepsMemory (standardLoaded s) _ := honly.keepsMemory (by decide) (by decide)
  have hsettle : KeepsMemory _ (s.joistDone std set) := (State.settle_only _).keepsMemory (by decide) (by decide)
  obtain ⟨hhbm, hflash⟩ := hstage
  obtain ⟨hhbm', hflash'⟩ := hsettle
  exact ⟨fun a => (hhbm' a).trans (hhbm a), fun a => (hflash' a).trans (hflash a)⟩

theorem joist_goesOn {s : State} (h : StandsAt 8 s) {std : ProofFind} (hgood : (proveSet s.standardSet.image std).1 = 0) (set : ProofFind) :
    Completes (.joist std set) s (fun t =>
      t.rd R.GLB_STATUS_STAGE = 9 ∧ t.rd R.GLB_STATUS_CAUSE = 0 ∧ s.standardSet ∈ t.jst.sets
        ∧ (((standardLoaded s).setOf s.peg.active).num = 0 → t.rd R.JST_PROOF_CODE = 0)
        ∧ (((standardLoaded s).setOf s.peg.active).num ≠ 0 → (proveSet ((standardLoaded s).setOf s.peg.active).image set).1 ≠ 0 →
          (t.epochCfg s.peg.active).progSet = 0 ∧ Emit.line 8 (lineTime s) 0x0B 0 ∈ t.out)
        ∧ KeepsMemory s t) := by
  obtain ⟨hstage, hcause⟩ := ((standardLoaded s).forceProven std set).clusterStatus.setInfo.enterStage_settle_shows (n := 9) (by decide)
  refine completes_of_done ((exec_joist h std set).trans (congrArg State.done (State.joistStage_of_good hgood set)))
    ⟨hstage, hcause, ?_, fun hnum => ?_, fun hnum hbad => ⟨?_, ?_⟩, s.joistDone_memory std set⟩
  · show s.standardSet ∈ (s.joistDone std set).jst.sets
    rw [State.joistDone_jst]
    exact List.mem_cons_self
  · show (s.joistDone std set).rd _ = 0
    have hforce : (standardLoaded s).forceProven std set = (standardLoaded s).showProof (proveSet (standardLoaded s).standardSet.image std) :=
      if_pos hnum
    rw [State.joistDone_code, hforce, (State.showProof_code _ _ (proveSet_code_lt ..)).1]
    exact hgood
  all_goals
    have hforce : (standardLoaded s).forceProven std set
        = (standardLoaded s).setReplaced (proveSet ((standardLoaded s).setOf s.peg.active).image set) :=
      (if_neg hnum).trans (if_neg hbad)
  · refine epochCfg_of_standardForced ?_
    show (s.joistDone std set).peg = _
    rw [State.joistDone_peg, hforce, State.setReplaced, State.onPeg_self, (State.stageLine_only ..).peg.resolve_left (by decide),
      (State.showProof_only ..).peg.resolve_left (by decide)]
    rfl
  · refine s.joistDone_out std set ?_
    have htime (p : Nat × Nat × Nat) : lineTime ((standardLoaded s).showProof p) = lineTime s := by
      rw [lineTime, lineTime, (State.showProof_only ..).clk.resolve_left (by decide)]
      rfl
    rw [hforce, State.setReplaced, State.onPeg_out, State.stageLine_out, htime]
    exact List.mem_cons_self

/-- A failed proof leaves what the boot header and the slot say. -/
theorem State.showProof_slotIsTrial (s : State) (p : Nat × Nat × Nat) : (s.showProof p).slotIsTrial = s.slotIsTrial := by
  rw [State.slotIsTrial, State.slotIsTrial, State.bootHead_congr ((State.showProof_only ..).flash.resolve_left (by decide)),
    (State.showProof_only ..).boot.resolve_left (by decide)]

theorem joist_ends {s : State} (h : StandsAt 8 s) {std : ProofFind} (hbad : (proveSet s.standardSet.image std).1 ≠ 0)
    (htrial : s.slotIsTrial = false) (set : ProofFind) :
    Completes (.joist std set) s (fun t =>
      t.rd R.GLB_STATUS_STAGE = 8 ∧ t.rd R.GLB_STATUS_CAUSE = 0x0B ∧ t.boot.ended = true
        ∧ t.rd R.JST_PROOF_CODE = (proveSet s.standardSet.image std).1 % 2 ^ R.JST_PROOF_CODE.width
        ∧ Frame (proofFlds ++ stageFlds ++ reportFlds) s t) := by
  set u := s.showProof (proveSet s.standardSet.image std) with hu
  have hjoist : s.joistStage std set = u.bootEnds 0x0B := by
    have htried : (u.slotIsTrial && !u.fwu.tried.contains (!u.boot.slotB)) = false := by
      rw [hu, State.showProof_slotIsTrial, htrial, Bool.false_and]
    unfold State.joistStage
    dsimp only
    rw [if_pos (by simpa using hbad), ← hu, htried]
    rfl
  have hstage : u.stage = 8 := ((State.showProof_only ..).rd _ (by decide)).trans h.1
  have hends : Frame (stageFlds ++ reportFlds) u (u.bootEnds 0x0B) := ((Frame.refl _ u).stall _ _ (by decide) (by decide)).onBoot _
  have hframe : Frame (proofFlds ++ stageFlds ++ reportFlds) s (u.bootEnds 0x0B) :=
    ((s.showProof_frame _).mono (by decide)).trans (hends.mono (by decide))
  refine completes_of_done ((exec_joist h std set).trans (congrArg State.done hjoist)) ⟨?_, ?_, ?_, ?_, hframe.settle⟩
  · rw [State.settle_rd _ _ (by decide) (by decide), State.bootEnds_eq, State.onBoot_rd, State.stall_rd _ _ _ _ (by decide) (by decide),
      if_neg (by decide), if_neg (by decide), if_pos rfl, hstage]
  · rw [State.settle_rd _ _ (by decide) (by decide), State.bootEnds_eq, State.onBoot_rd, State.stall_rd _ _ _ _ (by decide) (by decide),
      if_neg (by decide), if_pos rfl]
  · rw [State.settle_boot]
    rfl
  · have hlt := proveSet_code_lt s.standardSet.image std
    rw [State.settle_rd _ _ (by decide) (by decide), hends.rd _ (by decide) (by decide), hu, (State.showProof_code _ _ hlt).1]
    exact (Nat.mod_eq_of_lt hlt).symm

/-- Settles O14: each stage's results, from the laws of its branches. -/
theorem imageStagesMoveOn : Obligations.ImageStagesMoveOn :=
  ⟨fun _ h hok => image_kept h hok, fun _ h hok => image_checked h hok, fun _ _ h hrun hstore => settings_default h hrun hstore,
    fun bad _ h => hostLink_links h bad, fun bad _ h => hostLink_stalls h bad, fun _ set _ h hgood => joist_goesOn h hgood set,
    fun _ set _ h hbad htrial => joist_ends h hbad htrial set⟩

end Sys2Proof.Machine
end

section
/-!
Full reset (R48 to R53, R479, R482, R483): what a source leaves of the registers, what Truss does at the reset instant, and the sources that
join a reset already running (O12).
-/
namespace Sys2Proof.Machine

/-! ### Registers that the reset instant leaves alone -/

/-- The block that a mask's bit stands for, from PEG on. -/
theorem blockOf_of_blk {k c : Nat} (hc : 9 ≤ c ∧ c ≤ 23) (h : blk k = c) : blockOf (k / 8) = some (c - 2) := by
  unfold blk at h
  unfold blockOf
  repeat' split at h
  all_goals repeat' split
  all_goals simp only [Option.some.injEq, reduceCtorEq]
  all_goals omega

/-- A register that survives and lies in none of the blocks JNL, TRS and DOG, whose registers follow the reset instant. -/
def Steady (k : Nat) : Prop := survives k = true ∧ ∀ b ∈ [7, 11, 13], blockOf (k / 8) ≠ some b

/-- What a commit or an evaluation of Truss writes lies in those blocks or does not survive. -/
theorem instant_flds_notSteady : ∀ g ∈ commitFlds ++ trsEvalFlds,
    survives g.key = false ∨ blockOf (g.key / 8) = some 7 ∨ blockOf (g.key / 8) = some 11 := by decide +kernel

theorem Steady.apart {k : Nat} (h : Steady k) {g : Fld} (hg : g ∈ commitFlds ++ trsEvalFlds) : k ≠ g.key := by
  obtain ⟨hs, hb⟩ := h
  rintro rfl
  rcases instant_flds_notSteady g hg with hn | h7 | h11
  · rw [hs] at hn
    exact absurd hn (by decide)
  · exact hb 7 (by decide) h7
  · exact hb 11 (by decide) h11

theorem Steady.offCommit {k : Nat} (h : Steady k) : OffCommit k :=
  ⟨fun hd => h.2 13 (by decide) (blockOf_of_blk (by decide) hd), fun _ hg => h.apart (List.mem_append_left _ hg)⟩

theorem Steady.offEval {k : Nat} (h : Steady k) : OffEval k := fun _ hg => h.apart (List.mem_append_right _ hg)

/-! ### The reset instant -/

/-- GLB_RSTCAUSE shows the source. -/
def State.sourceShown (s : State) (cause : Nat) : State :=
  ((s.wr R.GLB_RSTCAUSE_CAUSE cause).wr R.GLB_RSTCAUSE_JOINED 0).bump R.GLB_RSTCAUSE_RSTCNT 1

/-- The journal drains, start-up restarts and Truss holds light back. -/
def State.instantHeld (s : State) : State :=
  s.resetJournal.resetBoot.onTrs (fun t => { t with resetHold := true, armDue := .none })

/-- Dog's lost entries count. -/
def State.lostCounted (s : State) (lost : Nat) : State := s.when (lost != 0) (·.bump R.DOG_RSTDISC_CNT lost)

/-- A queue shows that it is suspended. -/
def queueSuspended (t : State) (q : Nat) : State := t.wr (R.HIF_QSTATE_STATE q) 2

/-- The queues show that they are suspended. -/
def State.queuesSuspended (s : State) : State := (s.hif.queues.map (·.1)).foldl queueSuspended s

/-- What a source leaves, up to Dog's counter and the queues' states. -/
def State.resetCore (s : State) (cause : Nat) : State := ((s.sourceShown cause).instantHeld.trsEval 0x0013).resetBlocks

theorem State.fullReset_of_start {s : State} (h : ResetMayStart s) (cause : Nat) : ∃ lost,
    s.fullReset cause = ((s.resetCore cause).lostCounted lost).queuesSuspended.when
      (!((s.resetCore cause).lostCounted lost).queuesSuspended.hif.queues.isEmpty) (·.flag R.HIF_INTSTAT_QSUSP) := by
  obtain ⟨hporn, hpow, hin⟩ := h
  refine ⟨(s.sourceShown cause).resetJournal.dog.ring.length, ?_⟩
  unfold State.fullReset
  rw [hporn, hpow, hin, if_neg (by decide), if_neg (by decide)]
  rfl

/-- Every burst makes its frame incomplete and is discarded. -/
def State.burstsDropped (s : State) : State :=
  let u := s.peg.bursts.foldl (fun t b => t.tallyIncomplete b.frame) s
  { u with peg := { s.peg with bursts := [] }, jnl := { u.jnl with handed := [] } }

/-- The write queue is empty, and only the markers that a full reset leaves wait. -/
def State.markersCut (s : State) : State :=
  { s with jnl := { s.jnl with wq := 0, markers := s.jnl.markers.filter (fun m => m.kind == 6 || m.kind == 2) } }

theorem State.resetJournal_eq (s : State) : s.resetJournal =
    if s.peg.scanning then
      (s.burstsDropped.drain.1.markersCut.tally (s.burstsDropped.drain.1.rd R.PEG_FRAMENUM_NUM)
        (fun t => { t with incomplete := true, byReset := true })).raiseMarker s.nowLsb s.clk.devTime 2 []
          (s.burstsDropped.drain.1.rd R.PEG_FRAMENUM_NUM)
    else s.burstsDropped.drain.1.markersCut := rfl

theorem State.resetJournal_spares (s : State) : Spares OffCommit s s.resetJournal := by
  have htallied : Spares OffCommit s (s.peg.bursts.foldl (fun t b => t.tallyIncomplete b.frame) s) :=
    (Spares.refl _ s).foldl (fun t b => (Spares.refl _ t).app (State.tallyIncomplete_only ..) (offCommit_mask (by decide)) (by decide)) _
  have hdropped : Spares OffCommit s s.burstsDropped := htallied.regs rfl rfl
  have hcut : Spares OffCommit s s.burstsDropped.drain.1.markersCut := (hdropped.trans (State.drain_spares _)).regs rfl rfl
  rw [State.resetJournal_eq]
  exact .ite ((hcut.app (State.tally_only ..) (offCommit_mask (by decide)) (by decide)).app (State.raiseMarker_only ..)
    (offCommit_mask (by decide)) (by decide)) hcut

theorem State.instantHeld_spares (s : State) : Spares OffCommit s s.instantHeld := by
  have hboot : Spares OffCommit s s.resetJournal.resetBoot := s.resetJournal_spares.regs rfl rfl
  exact hboot.onTrs _

/-- What is steady and not in GLB_RSTCAUSE reads as before when the blocks are reset. -/
theorem State.instant_rd (s : State) {f : Fld} (h : Steady f.key) : (s.instantHeld.trsEval 0x0013).rd f = s.rd f :=
  ((State.trsEvalFrom_spares ..).rd f h.offEval).trans (s.instantHeld_spares.rd f h.offCommit)

/-! ### Truss at the reset instant (R49, R295, R304) -/

/-- Light needs that no hold stands (R294, R295). -/
theorem State.lightOk_of_resetHold {s : State} (h : s.trs.resetHold = true) : s.lightOk = false := by
  simp [State.lightOk, State.anyHold, h]

theorem State.hushStart_trs (s : State) : s.hushStart.trs = s.trs := (State.hushStart_only s).trs.resolve_left (by decide)

theorem State.goDark_resetHold (s : State) : s.goDark.trs.resetHold = s.trs.resetHold := by
  have hlow (u : State) : u.darkLow.trs.resetHold = u.trs.resetHold := by unfold State.darkLow; split <;> rfl
  have hraised (u : State) : u.hushRaised.trs.resetHold = u.trs.resetHold := by
    unfold State.hushRaised
    split
    · rfl
    · rw [State.hushStart_trs]
      rfl
  rw [State.goDark_eq, hraised, hlow]
  rfl

theorem State.soutStep_resetHold (s : State) (k : Nat) : (s.soutStep k).trs.resetHold = s.trs.resetHold := by
  unfold State.soutStep
  dsimp only
  split <;> split <;> rfl

theorem State.trsMarker_trs (s : State) (prev cause : Nat) : (s.trsMarker prev cause).trs = s.trs := by
  unfold State.trsMarker
  dsimp only
  split <;> rfl

/-- The hold of a full reset drives DARK_N low, and stands. -/
theorem State.stopPaths_of_resetHold {s : State} (h : s.trs.resetHold = true) :
    s.stopPaths.rd R.TRS_STATE_DARKCMD = 0 ∧ s.stopPaths.trs.resetHold = true := by
  have hlight : s.lightShown.lightOk = false := State.lightOk_of_resetHold h
  unfold State.stopPaths
  rw [hlight, if_neg Bool.false_ne_true]
  refine ⟨((State.soutSteps_spares ..).rd _ (by decide)).trans (State.goDark_rd _), ?_⟩
  rw [foldl_keeps (fun t : State => t.trs.resetHold) State.soutStep_resetHold, State.goDark_resetHold]
  exact h

theorem State.trsEvalFrom_of_resetHold {s : State} (h : s.trs.resetHold = true) (prev cause : Nat) :
    (s.trsEvalFrom prev cause).rd R.TRS_STATE_DARKCMD = 0 ∧ (s.trsEvalFrom prev cause).trs.resetHold = true := by
  obtain ⟨hdark, hhold⟩ := State.stopPaths_of_resetHold h
  rcases s.trsEvalFrom_eq prev cause with he | he
  · rw [he]
    exact ⟨hdark, hhold⟩
  · rw [he, (State.trsMarker_spares ..).rd _ (by decide), State.trsMarker_trs]
    exact ⟨hdark, hhold⟩

/-! ### What a source leaves -/

/-- GLB_RSTCAUSE. -/
def sourceFlds : List Fld := [R.GLB_RSTCAUSE_CAUSE, R.GLB_RSTCAUSE_JOINED, R.GLB_RSTCAUSE_RSTCNT]

theorem sourceFlds_block : ∀ g ∈ sourceFlds, blockOf (g.key / 8) = some 0 := by decide

theorem State.sourceShown_rd (s : State) (cause : Nat) {f : Fld}
    (hf : ∀ g ∈ sourceFlds, f.key ≠ g.key) : (s.sourceShown cause).rd f = s.rd f := by
  rw [State.sourceShown, State.rd_bump, if_neg (hf _ (by decide)), State.rd_wr_ne _ _ _ _ (hf _ (by decide)),
    State.rd_wr_ne _ _ _ _ (hf _ (by decide))]

theorem State.sourceShown_shows (s : State) {cause : Nat} (hc : cause < 16) :
    (s.sourceShown cause).rd R.GLB_RSTCAUSE_CAUSE = cause ∧ (s.sourceShown cause).rd R.GLB_RSTCAUSE_JOINED = 0
      ∧ (s.sourceShown cause).rd R.GLB_RSTCAUSE_RSTCNT = min (s.rd R.GLB_RSTCAUSE_RSTCNT + 1) 65535 := by
  refine ⟨?_, ?_, ?_⟩
  · rw [State.sourceShown, State.rd_bump, if_neg (by decide), State.rd_wr_ne _ _ _ _ (by decide), State.rd_wr_same]
    exact Nat.mod_eq_of_lt hc
  · rw [State.sourceShown, State.rd_bump, if_neg (by decide), State.rd_wr_same]
    rfl
  · rw [State.sourceShown, State.rd_bump, if_pos rfl, State.rd_wr_ne _ _ _ _ (by decide), State.rd_wr_ne _ _ _ _ (by decide)]
    exact Nat.mod_eq_of_lt (Nat.lt_succ_of_le (Nat.min_le_right ..))

/-- A register that survives the reset keeps what it held at the reset instant; any other is reset. -/
theorem State.resetCore_rd (s : State) (cause : Nat) {f : Fld} (hf : ∀ b ∈ [7, 11, 13], blockOf (f.key / 8) ≠ some b) :
    (s.resetCore cause).rd f = if survives f.key then (s.sourceShown cause).rd f else regReset f.key := by
  rw [State.resetCore, State.resetBlocks_rd]
  split
  · next hs => exact State.instant_rd _ ⟨hs, hf⟩
  · rfl

theorem State.resetCore_regs (s : State) (cause : Nat) : RegsAfterReset [0, 7, 11, 13, 16] s (s.resetCore cause) := by
  intro f hf _
  rw [State.resetCore_rd _ _ fun b hb => hf b (by revert b; decide)]
  split
  · refine State.sourceShown_rd _ _ fun g hg he => hf 0 (by decide) ?_
    rw [he]
    exact sourceFlds_block g hg
  · rfl

/-- The reset instant touches neither the clock plant nor HBM, the flash and the firmware's record. -/
theorem State.instant_only (s : State) (cause : Nat) :
    Only 0xcb113400802a21 s ((s.sourceShown cause).instantHeld.trsEval 0x0013) := by
  refine Only.app (Only.app (Only.app (Only.app (u := s.sourceShown cause) ?_ (State.resetJournal_only _) (by decide))
    (State.resetBoot_only _) (by decide)) (State.onTrs_only ..) (by decide)) (State.trsEval_only ..) (by decide)
  exact ((Only.wr (Only.wr (Only.refl ..) (by decide)) (by decide)).bump (by decide))

/-- Start-up's record at the reset instant. -/
theorem State.resetCore_boot (s : State) (cause : Nat) :
    (s.resetCore cause).boot.inReset = true ∧ (s.resetCore cause).boot.stalled = false ∧ (s.resetCore cause).boot.linked = false
      ∧ (s.resetCore cause).boot.fullrstHi = s.boot.fullrstHi ∧ (s.resetCore cause).boot.perstHi = s.boot.perstHi := by
  have hjournal : (s.sourceShown cause).resetJournal.boot = s.boot := (State.resetJournal_only _).boot.resolve_left (by decide)
  have hcore : (s.resetCore cause).boot = (s.sourceShown cause).resetJournal.resetBoot.boot :=
    ((State.resetBlocks_only _).boot.resolve_left (by decide)).trans ((State.trsEval_only ..).boot.resolve_left (by decide))
  rw [hcore, ← hjournal]
  exact ⟨rfl, rfl, rfl, rfl, rfl⟩

theorem State.resetBlocks_keeps (s : State) : s.resetBlocks.trs = s.trs ∧ s.resetBlocks.clk = s.clk ∧ s.resetBlocks.hbm = s.hbm :=
  ⟨(State.resetBlocks_only s).trs.resolve_left (by decide), (State.resetBlocks_only s).clk.resolve_left (by decide),
    (State.resetBlocks_only s).hbm.resolve_left (by decide)⟩

/-- A full reset has begun once the blocks are reset. -/
theorem State.resetCore_begun (s : State) {cause : Nat} (hc : cause < 16) : FullResetBegun cause s (s.resetCore cause) := by
  obtain ⟨hin, hstalled, hlinked, -, -⟩ := s.resetCore_boot cause
  obtain ⟨hcause, hjoined, hcount⟩ := s.sourceShown_shows hc
  have honly := s.instant_only cause
  obtain ⟨htrs, hclk, hhbm⟩ := ((s.sourceShown cause).instantHeld.trsEval 0x0013).resetBlocks_keeps
  obtain ⟨hdark, hhold⟩ := State.trsEvalFrom_of_resetHold (s := (s.sourceShown cause).instantHeld) rfl
    (s.sourceShown cause).instantHeld.trsState 0x0013
  have hrst {f : Fld} (hf : survives f.key = true ∧ ∀ b ∈ [7, 11, 13], blockOf (f.key / 8) ≠ some b) :
      (s.resetCore cause).rd f = (s.sourceShown cause).rd f := (s.resetCore_rd cause hf.2).trans (if_pos hf.1)
  have hkept {f : Fld} (hf : survives f.key = true) :
      (s.resetCore cause).rd f = ((s.sourceShown cause).instantHeld.trsEval 0x0013).rd f := (State.resetBlocks_rd ..).trans (if_pos hf)
  refine ⟨hin, hstalled, hlinked, (hrst (by decide)).trans hcause, (hrst (by decide)).trans hjoined, (hrst (by decide)).trans hcount,
    (congrArg TrsState.resetHold htrs).trans hhold, (hkept (by decide)).trans hdark, ?_, rfl, rfl, rfl,
    hclk.trans (honly.clk.resolve_left (by decide)), fun a => ?_, fun hj a => ?_⟩
  · rw [hkept (by decide)]
    exact (State.trsEvalFrom_trsState ..).trans (((State.instantHeld_spares _).rd R.TRS_STATE_STATE (by unfold OffCommit; decide)).trans
      (State.sourceShown_rd _ _ (by decide)))
  · exact congrArg (fun m => mapGet (0 : Byte) m a) (hhbm.trans (honly.hbm.resolve_left (by decide)))
  · have hidle : ((s.sourceShown cause).instantHeld.trsEval 0x0013).fwu.job = none := by
      rw [honly.fwu.resolve_left (by decide), hj]
    have hcut : (s.resetCore cause).flash = ((s.sourceShown cause).instantHeld.trsEval 0x0013).flash :=
      (show (s.resetCore cause).flash = State.flash (State.cutFlash _) from rfl).trans (congrArg State.flash (State.cutFlash_of_idle hidle))
    exact congrArg (fun m => mapGet (0xFF : Byte) m a) (hcut.trans (honly.flash.resolve_left (by decide)))

/-! ### What DOG, HIF and the link show behind the reset -/

/-- What follows the reset of the blocks: Dog's counter and the suspended queues. -/
def State.hostSuspended (s : State) (lost : Nat) : State :=
  (s.lostCounted lost).queuesSuspended.when (!(s.lostCounted lost).queuesSuspended.hif.queues.isEmpty) (·.flag R.HIF_INTSTAT_QSUSP)

theorem State.hostSuspended_only (s : State) (lost : Nat) : Only 0x48000 s (s.hostSuspended lost) := by
  have hlost : Only 0x48000 s (s.lostCounted lost) := (Only.refl ..).when ((Only.refl ..).bump (by decide))
  have hqueue (t : State) (q : Nat) : Only 0x48000 t (queueSuspended t q) :=
    (Only.refl ..).wr (by rw [blk_HIF_QSTATE_STATE]; decide)
  exact (hlost.foldl hqueue).when ((Only.refl ..).flag (by decide))

/-- The link's speed and width stand apart from the queues' states. -/
theorem State.hostSuspended_speed (s : State) (lost : Nat) : (s.hostSuspended lost).rd R.HIF_STATUS_SPEED = s.rd R.HIF_STATUS_SPEED := by
  have hlost : (s.lostCounted lost).rd R.HIF_STATUS_SPEED = s.rd R.HIF_STATUS_SPEED :=
    State.when_keeps (State.rd · R.HIF_STATUS_SPEED) (by rw [State.rd_bump, if_neg (by decide)])
  have hqueue (t : State) (q : Nat) : (queueSuspended t q).rd R.HIF_STATUS_SPEED = t.rd R.HIF_STATUS_SPEED :=
    State.rd_wr_ne _ _ _ _ (by unfold R.HIF_STATUS_SPEED R.HIF_QSTATE_STATE; dsimp only; omega)
  unfold State.hostSuspended
  refine (State.when_keeps (State.rd · R.HIF_STATUS_SPEED) (by rw [State.rd_flag, if_neg (by decide)])).trans ?_
  exact (foldl_keeps (State.rd · R.HIF_STATUS_SPEED) hqueue _ _).trans hlost

theorem State.fullReset_starts {s : State} (h : ResetMayStart s) (cause : Nat) :
    ∃ lost, s.fullReset cause = (s.resetCore cause).hostSuspended lost := State.fullReset_of_start h cause

/-- Only summary keys have the bits of the summary message. -/
theorem not_summaryKey_blk {k : Nat} (h : ¬ summaryKey k) : blk k ≠ 24 ∧ blk k ≠ 25 := by
  simp only [summaryKey, not_or] at h
  unfold blk
  rw [if_neg h.1, if_neg h.2]
  constructor
  all_goals repeat' split
  all_goals omega

section
variable {cause m : Nat} {skip : List Nat} {s u t : State}

/-- A change elsewhere leaves a full reset begun. -/
theorem FullResetBegun.of_only (h : FullResetBegun cause s u) (ho : Only m u t)
    (hm : ∀ b ∈ [0, 13, 33, 34, 35, 36, 37, 44, 52, 53], m.testBit b = false) : FullResetBegun cause s t := by
  have hclear {b : Nat} {q : Prop} (hb : b ∈ [0, 13, 33, 34, 35, 36, 37, 44, 52, 53]) (hq : m.testBit b = true ∨ q) : q :=
    hq.resolve_left (by simp [hm b hb])
  have hmem := ho.keepsMemory (hm 52 (by decide)) (hm 53 (by decide))
  obtain ⟨hin, hstalled, hlinked, hcause, hjoined, hcount, hhold, hdark, hstate, hbursts, hfires, hloop, hclk, hhbm, hflash⟩ := h
  rw [← hclear (by decide) ho.boot] at hin hstalled hlinked
  rw [← hclear (by decide) ho.trs] at hhold
  rw [← hclear (by decide) ho.peg] at hbursts
  rw [← hclear (by decide) ho.btn] at hfires
  rw [← hclear (by decide) ho.tnn] at hloop
  rw [← hclear (by decide) ho.clk] at hclk
  have hglb (f : Fld) (hf : blk f.key = 0) : t.rd f = u.rd f := ho.rd f (hf ▸ hm 0 (by decide))
  have htrs (f : Fld) (hf : blk f.key = 13) : t.rd f = u.rd f := ho.rd f (hf ▸ hm 13 (by decide))
  exact ⟨hin, hstalled, hlinked, (hglb _ (by decide)).trans hcause, (hglb _ (by decide)).trans hjoined,
    (hglb _ (by decide)).trans hcount, hhold, (htrs _ (by decide)).trans hdark, (htrs _ (by decide)).trans hstate, hbursts,
    hfires, hloop, hclk, fun a => (hmem.1 a).trans (hhbm a), fun hj a => (hmem.2 a).trans (hflash hj a)⟩

/-- A change in blocks that are passed over, or of the summary message, leaves the registers after a reset. -/
theorem RegsAfterReset.of_only (h : RegsAfterReset skip s u) (ho : Only m u t)
    (hm : ∀ c < 27, m.testBit c = true → (9 ≤ c ∧ c ≤ 23 ∧ c - 2 ∈ skip) ∨ c = 24 ∨ c = 25) : RegsAfterReset skip s t := by
  intro f hf hs
  refine (ho.rd f ?_).trans (h f hf hs)
  have hnot := not_summaryKey_blk hs
  cases hbit : m.testBit (blk f.key) with
  | false => rfl
  | true =>
    rcases hm _ (Nat.lt_succ_of_le (blk_le _)) hbit with ⟨hlo, hhi, hskip⟩ | h24 | h25
    · exact absurd (blockOf_of_blk ⟨hlo, hhi⟩ rfl) (hf _ hskip)
    · exact absurd h24 hnot.1
    · exact absurd h25 hnot.2

theorem RegsAfterReset.mono {l : List Nat} (h : RegsAfterReset skip s t) (hl : skip ⊆ l) : RegsAfterReset l s t :=
  fun f hf => h f fun b hb => hf b (hl hb)

end

/-! ### The sources -/

theorem FullResetBegun.settle {cause : Nat} {s u : State} (h : FullResetBegun cause s u) : FullResetBegun cause s u.settle :=
  h.of_only u.settle_only (by decide)

theorem RegsAfterReset.settle {skip : List Nat} {s u : State} (h : RegsAfterReset skip s u) : RegsAfterReset skip s u.settle := by
  have hbits : ∀ c < 27, Nat.testBit 0x40000003000000 c = true → c = 24 ∨ c = 25 := by decide
  exact h.of_only u.settle_only fun c hc hb => .inr (hbits c hc hb)

/-- What every source of a full reset leaves. -/
theorem State.fullReset_begins {s : State} (h : ResetMayStart s) {cause : Nat} (hc : cause < 16) :
    FullResetBegun cause s (s.fullReset cause) ∧ RegsAfterReset [0, 7, 11, 13, 16] s (s.fullReset cause)
      ∧ (s.fullReset cause).boot.fullrstHi = s.boot.fullrstHi ∧ (s.fullReset cause).boot.perstHi = s.boot.perstHi
      ∧ (s.fullReset cause).rd R.HIF_STATUS_SPEED = s.rd R.HIF_STATUS_SPEED := by
  obtain ⟨lost, he⟩ := State.fullReset_starts h cause
  have honly := (s.resetCore cause).hostSuspended_only lost
  obtain ⟨-, -, -, hfull, hperst⟩ := s.resetCore_boot cause
  have hspeed : (s.resetCore cause).rd R.HIF_STATUS_SPEED = s.rd R.HIF_STATUS_SPEED := by
    rw [State.resetCore_rd _ _ (by decide), if_pos (by decide), State.sourceShown_rd _ _ (by decide)]
  rw [he]
  refine ⟨(s.resetCore_begun hc).of_only honly (by decide), (s.resetCore_regs cause).of_only honly (by decide), ?_, ?_, ?_⟩
  · rw [honly.boot.resolve_left (by decide), hfull]
  · rw [honly.boot.resolve_left (by decide), hperst]
  · rw [State.hostSuspended_speed, hspeed]

/-- The lost link shows neither speed nor width, and every lane is tried again (R457). -/
theorem State.linkGone_rd (s : State) : s.linkGone.rd R.HIF_STATUS_SPEED = 0 ∧ s.linkGone.rd R.HIF_STATUS_WIDTH = 0
    ∧ s.linkGone.rd R.FLT_PCIE_LANEOUT = 0 := by
  refine ⟨?_, ?_, State.rd_wr_same _ R.FLT_PCIE_LANEOUT 0⟩
  · rw [State.linkGone, State.rd_wr_ne _ _ _ _ (by decide), State.rd_wr_ne _ _ _ _ (by decide)]
    exact State.rd_wr_same s R.HIF_STATUS_SPEED 0
  · rw [State.linkGone, State.rd_wr_ne _ _ _ _ (by decide)]
    exact State.rd_wr_same _ R.HIF_STATUS_WIDTH 0

/-- A source that takes the link down. -/
theorem State.fullReset_linkGone {s : State} (h : ResetMayStart s) {cause : Nat} (hc : cause < 16) :
    FullResetBegun cause s (s.fullReset cause).linkGone ∧ RegsAfterReset [0, 7, 11, 13, 16, 21] s (s.fullReset cause).linkGone
      ∧ (s.fullReset cause).linkGone.boot.perstHi = s.boot.perstHi := by
  obtain ⟨hbegun, hregs, -, hperst, -⟩ := State.fullReset_begins h hc
  have honly := State.linkGone_only (s.fullReset cause)
  exact ⟨hbegun.of_only honly (by decide), (hregs.mono (by decide)).of_only honly (by decide),
    (congrArg BootState.perstHi (honly.boot.resolve_left (by decide))).trans hperst⟩

/-- A source before logic release only joins (R53). -/
theorem State.fullReset_joins {s : State} (hp : s.boot.pornLow = false) (hw : s.boot.powered = true) (hi : s.boot.inReset = true)
    {cause : Nat} (hc : cause ≠ 6) : s.fullReset cause = s.wr R.GLB_RSTCAUSE_JOINED 1 := by
  have hgated : (s.boot.gated && cause != 6) = s.boot.gated := by simp [hc]
  unfold State.fullReset
  rw [hp, hw, hi, hgated, if_neg (by decide), if_pos rfl]

theorem State.joined_onlyJoins {s : State} (hi : s.boot.inReset = true) : OnlyJoins s (s.wr R.GLB_RSTCAUSE_JOINED 1).settle := by
  refine ⟨?_, by rw [State.settle_boot]; exact hi, ((Frame.refl ..).wr (by decide)).settle⟩
  rw [State.settle_rd _ _ (by decide) (by decide)]
  exact State.rd_wr_same s R.GLB_RSTCAUSE_JOINED 1

/-- FULLRST_N is low. -/
def State.fullrstFalls (s : State) : State := s.onBoot (fun b => { b with fullrstHi := false })

/-- PERST_N is low. -/
def State.perstFalls (s : State) : State := s.onBoot (fun b => { b with perstHi := false })

theorem fullrstNFall_starts {s : State} (h : ResetMayStart s) : Completes .fullrstNFall s (fun t =>
    FullResetBegun 1 s t ∧ RegsAfterReset [0, 7, 11, 13, 16] s t ∧ t.boot.fullrstHi = false
      ∧ t.rd R.HIF_STATUS_SPEED = s.rd R.HIF_STATUS_SPEED) := by
  obtain ⟨hbegun, hregs, hpin, -, hspeed⟩ :=
    State.fullReset_begins (s := s.fullrstFalls) h (cause := 1) (by decide)
  refine completes_of_done (u := s.fullrstFalls.fullReset 1) rfl
    ⟨hbegun.settle, hregs.settle, ?_, ?_⟩
  · rw [State.settle_boot, hpin]
    rfl
  · rw [State.settle_rd _ _ (by decide) (by decide), hspeed]
    rfl

theorem perstNFall_starts {s : State} (h : ResetMayStart s) : Completes .perstNFall s (fun t =>
    FullResetBegun 5 s t ∧ RegsAfterReset [0, 7, 11, 13, 16, 21] s t ∧ t.boot.perstHi = false ∧ t.rd R.HIF_STATUS_SPEED = 0
      ∧ t.rd R.HIF_STATUS_WIDTH = 0 ∧ t.rd R.FLT_PCIE_LANEOUT = 0) := by
  obtain ⟨hbegun, hregs, hpin⟩ :=
    State.fullReset_linkGone (s := s.perstFalls) h (cause := 5) (by decide)
  obtain ⟨hspeed, hwidth, hlanes⟩ := (s.perstFalls.fullReset 5).linkGone_rd
  refine completes_of_done (u := (s.perstFalls.fullReset 5).linkGone) rfl
    ⟨hbegun.settle, hregs.settle, ?_, ?_, ?_, ?_⟩
  · rw [State.settle_boot, hpin]
    rfl
  · rw [State.settle_rd _ _ (by decide) (by decide), hspeed]
  · rw [State.settle_rd _ _ (by decide) (by decide), hwidth]
  · rw [State.settle_rd _ _ (by decide) (by decide), hlanes]

theorem pcieFlr_starts {s : State} (h : ResetMayStart s) (hlink : s.rd R.HIF_STATUS_SPEED ≠ 0) : Completes .pcieFlr s (fun t =>
    FullResetBegun 3 s t ∧ RegsAfterReset [0, 7, 11, 13, 16] s t ∧ t.rd R.HIF_STATUS_SPEED = s.rd R.HIF_STATUS_SPEED) := by
  obtain ⟨hbegun, hregs, -, -, hspeed⟩ := State.fullReset_begins h (cause := 3) (by decide)
  refine completes_of_done (if_neg hlink) ⟨hbegun.settle, hregs.settle, ?_⟩
  rw [State.settle_rd _ _ (by decide) (by decide), hspeed]

theorem hotReset_starts {s : State} (h : ResetMayStart s) (hlink : s.rd R.HIF_STATUS_SPEED ≠ 0) : Completes .hotReset s (fun t =>
    FullResetBegun 4 s t ∧ RegsAfterReset [0, 7, 11, 13, 16, 21] s t ∧ t.rd R.HIF_STATUS_SPEED = 0 ∧ t.rd R.HIF_STATUS_WIDTH = 0
      ∧ t.rd R.FLT_PCIE_LANEOUT = 0) := by
  obtain ⟨hbegun, hregs, -⟩ := State.fullReset_linkGone h (cause := 4) (by decide)
  obtain ⟨hspeed, hwidth, hlanes⟩ := (s.fullReset 4).linkGone_rd
  refine completes_of_done (if_neg hlink) ⟨hbegun.settle, hregs.settle, ?_, ?_, ?_⟩
  · rw [State.settle_rd _ _ (by decide) (by decide), hspeed]
  · rw [State.settle_rd _ _ (by decide) (by decide), hwidth]
  · rw [State.settle_rd _ _ (by decide) (by decide), hlanes]

/-- With the host's right on the GLB block its write of GLB_RST is taken (R482). -/
theorem exec_glbRst {s : State} (hbar : s.barOn = true) (hright : rightOk (s.girtRight girtHost 64) true = true) (v : Word) :
    exec (.glbRst v) s = (s.glbRstWrite v.toNat).done := by
  have hexec : exec (.glbRst v) s = execGlbRst v s := rfl
  rw [hexec, execGlbRst, hbar, hright]
  rfl

theorem glbRst_starts {s : State} (h : ResetMayStart s) (hbar : s.barOn = true)
    (hright : rightOk (s.girtRight girtHost 64) true = true) : Completes (.glbRst 0x46554C4C#32) s (fun t =>
      FullResetBegun 2 s t ∧ RegsAfterReset [0, 7, 11, 13, 16] s t) := by
  obtain ⟨hbegun, hregs, -⟩ := State.fullReset_begins h (cause := 2) (by decide)
  exact completes_of_done (exec_glbRst hbar hright _) ⟨hbegun.settle, hregs.settle⟩

theorem glbRst_wrongKey {v : Word} {s : State} (hbar : s.barOn = true) (hright : rightOk (s.girtRight girtHost 64) true = true)
    (hv : v ≠ 0x46554C4C#32) : Completes (.glbRst v) s (fun t =>
      t.rd R.GLB_INTSTAT_KEYBAD = 1 ∧ t.boot = s.boot
        ∧ KeepsRegs ([R.GLB_INTSTAT_KEYBAD, R.GLB_LASTERR_OFFSET, R.GLB_LASTERR_WRITE, R.GLB_LASTERR_KIND] ++ reportFlds) s t
        ∧ KeepsMemory s t) := by
  have hkey : v.toNat ≠ 0x46554C4C := fun he => hv (BitVec.eq_of_toNat_eq he)
  have hframe : Frame ([R.GLB_INTSTAT_KEYBAD, R.GLB_LASTERR_OFFSET, R.GLB_LASTERR_WRITE, R.GLB_LASTERR_KIND] ++ reportFlds) s
      ((s.fault R.GLB_INTSTAT_KEYBAD 1 0).lastErr 0x14 4 true) :=
    ((((Frame.refl ..).fault (by decide) (by decide)).wr (by decide)).wr (by decide)).wr (by decide)
  refine completes_of_done ((exec_glbRst hbar hright v).trans (congrArg State.done (if_neg hkey))) ⟨?_, ?_, hframe.settle⟩
  · rw [State.settle_rd _ _ (by decide) (by decide), State.lastErr, State.rd_wr_ne _ _ _ _ (by decide), State.rd_wrB_ne _ _ _ _ (by decide),
      State.rd_wr_ne _ _ _ _ (by decide), State.fault_rd _ _ _ _ _ (by decide) (by decide), if_pos rfl]
    rfl
  · rw [State.settle_boot]
    exact State.fault_boot ..

theorem glbRst_denied {v : Word} {s : State} (hbar : s.barOn = true) (hright : rightOk (s.girtRight girtHost 64) true = false) :
    Completes (.glbRst v) s (fun t => t.boot = s.boot ∧ t.rd R.GRT_INTSTAT_DENY = 1 ∧ KeepsMemory s t) := by
  have hexec : exec (.glbRst v) s = (s.girtDeny girtHost 64 0x14 true).done := by
    have hglb : exec (.glbRst v) s = execGlbRst v s := rfl
    rw [hglb, execGlbRst, hbar, hright]
    rfl
  have honly := State.girtDeny_only s girtHost 64 0x14 true
  have hsettled := (State.settle_only (s.girtDeny girtHost 64 0x14 true)).mono (n := 0x4800000bc00000) (by decide)
  refine completes_of_done hexec ⟨?_, ?_,
    ((honly.mono (n := 0x4800000bc00000) (by decide)).trans hsettled).keepsMemory (by decide) (by decide)⟩
  · rw [State.settle_boot]
    exact honly.boot.resolve_left (by decide)
  · rw [State.settle_rd _ _ (by decide) (by decide), State.girtDeny, State.fault_rd _ _ _ _ _ (by decide) (by decide), if_pos rfl]
    rfl

theorem perstNFall_joins {s : State} (hp : s.boot.pornLow = false) (hw : s.boot.powered = true) (hi : s.boot.inReset = true) :
    Completes .perstNFall s (fun t =>
      t.boot.perstHi = false ∧ t.boot.inReset = true ∧ t.rd R.GLB_RSTCAUSE_JOINED = 1 ∧ t.rd R.HIF_STATUS_SPEED = 0
        ∧ t.rd R.HIF_STATUS_WIDTH = 0 ∧ t.rd R.FLT_PCIE_LANEOUT = 0
        ∧ Frame [R.GLB_RSTCAUSE_JOINED, R.HIF_STATUS_SPEED, R.HIF_STATUS_WIDTH, R.FLT_PCIE_LANEOUT] s t) := by
  set u := s.perstFalls.wr R.GLB_RSTCAUSE_JOINED 1 with hu
  have hexec : exec .perstNFall s = u.linkGone.done := by
    have hfall : exec .perstNFall s = ((s.perstFalls.fullReset 5).linkGone).done := rfl
    rw [hfall, State.fullReset_joins (s := s.perstFalls) hp hw hi (by decide)]
  have hboot : u.linkGone.boot = { s.boot with perstHi := false } := rfl
  obtain ⟨hspeed, hwidth, hlanes⟩ := u.linkGone_rd
  have hframe : Frame [R.GLB_RSTCAUSE_JOINED, R.HIF_STATUS_SPEED, R.HIF_STATUS_WIDTH, R.FLT_PCIE_LANEOUT] s u.linkGone :=
    (((((Frame.refl _ s).onBoot _).wr (by decide)).wr (by decide)).wr (by decide)).wr (by decide)
  refine completes_of_done hexec ⟨?_, ?_, ?_, ?_, ?_, ?_, hframe.settle⟩
  · rw [State.settle_boot, hboot]
  · rw [State.settle_boot, hboot]
    exact hi
  · rw [State.settle_rd _ _ (by decide) (by decide), (State.linkGone_only u).rd _ (by decide), hu]
    exact State.rd_wr_same _ R.GLB_RSTCAUSE_JOINED 1
  · rw [State.settle_rd _ _ (by decide) (by decide), hspeed]
  · rw [State.settle_rd _ _ (by decide) (by decide), hwidth]
  · rw [State.settle_rd _ _ (by decide) (by decide), hlanes]

theorem fullrstNFall_joins {s : State} (hp : s.boot.pornLow = false) (hw : s.boot.powered = true) (hi : s.boot.inReset = true) :
    Completes .fullrstNFall s (fun t => OnlyJoins s t ∧ t.boot.fullrstHi = false) := by
  have hexec : exec .fullrstNFall s = (s.fullrstFalls.wr R.GLB_RSTCAUSE_JOINED 1).done := by
    have hfall : exec .fullrstNFall s = (s.fullrstFalls.fullReset 1).done := rfl
    rw [hfall, State.fullReset_joins (s := s.fullrstFalls) hp hw hi (by decide)]
  refine completes_of_done hexec ⟨State.joined_onlyJoins (s := s.fullrstFalls) hi, ?_⟩
  rw [State.settle_boot]
  rfl

theorem pcieFlr_joins {s : State} (hp : s.boot.pornLow = false) (hw : s.boot.powered = true) (hi : s.boot.inReset = true)
    (hlink : s.rd R.HIF_STATUS_SPEED ≠ 0) : Completes .pcieFlr s (fun t => OnlyJoins s t) := by
  have hexec : exec .pcieFlr s = (s.fullReset 3).done := if_neg hlink
  rw [State.fullReset_joins hp hw hi (by decide)] at hexec
  exact completes_of_done hexec (State.joined_onlyJoins hi)

/-- Settles O12: what the reset instant leaves alone survives with the registers of R479, and every source goes through it or joins. -/
theorem resetSourcesStartFullReset : Obligations.ResetSourcesStartFullReset :=
  ⟨fun _ h => fullrstNFall_starts h, fun _ h => perstNFall_starts h, fun _ h hl => pcieFlr_starts h hl, fun _ h hl => hotReset_starts h hl,
    fun _ h hb hr => glbRst_starts h hb hr, fun _ _ hb hr hv => glbRst_wrongKey hb hr hv, fun _ _ hb hr => glbRst_denied hb hr,
    fun _ hp hw hi => fullrstNFall_joins hp hw hi, fun _ hp hw hi => perstNFall_joins hp hw hi,
    fun _ hp hw hi hl => pcieFlr_joins hp hw hi hl⟩

end Sys2Proof.Machine
end

section
/-!
Command rings (R45, R123, R249, R374 to R382): doorbells, and the commands on scanning, time and poses with the answers that the law of
completions gives (O39).
-/
namespace Sys2Proof.Machine

/-! ### Doorbells (R374, R376) -/

theorem State.dbBad_hif (s : State) : s.dbBad.hif = s.hif := State.fault_hif ..

theorem State.dbBad_rd (s : State) :
    s.dbBad.rd R.HIF_DBBAD_CNT = min (s.rd R.HIF_DBBAD_CNT + 1) 0xFFFFFFFF ∧ s.dbBad.rd R.HIF_INTSTAT_DBBAD = 1 := by
  constructor
  · rw [State.dbBad, State.fault_rd _ _ _ _ _ (by decide) (by decide), if_neg (by decide), State.rd_bump, if_pos rfl]
    exact Nat.mod_eq_of_lt (Nat.lt_of_le_of_lt (Nat.min_le_right ..) (by decide))
  · rw [State.dbBad, State.fault_rd _ _ _ _ _ (by decide) (by decide), if_pos rfl]
    rfl

theorem State.dbBad_frame (s : State) : Frame ([R.HIF_DBBAD_CNT, R.HIF_INTSTAT_DBBAD] ++ reportFlds) s s.dbBad :=
  ((Frame.refl ..).bump (by decide)).fault (by decide) (by decide)

theorem exec_commandDoorbell_of_bad {r : Fin 16} {whole : Bool} {v : BitVec 64} {s : State} (hbar : s.barOn = true)
    (hbad : whole = false ∨ s.rd (R.HIF_CRCFG_EN r.val) = 0 ∨ v.toNat / 2 ^ 17 ≠ 0) (entries : List (BitVec 512)) :
    exec (.commandDoorbell r whole v entries) s = s.dbBad.done := by
  have hcond : (!whole || v.toNat / 2 ^ 17 != 0 || !s.on (R.HIF_CRCFG_EN r.val)) = true := by
    rcases hbad with h | h | h
    · simp [h]
    · simp [State.on, h]
    · rw [bne_iff_ne.mpr h, Bool.or_true, Bool.true_or]
  have hexec : exec (.commandDoorbell r whole v entries) s = execCommandDoorbell r whole v entries s := rfl
  rw [hexec, execCommandDoorbell, hbar, hcond]
  rfl

theorem commandDoorbell_bad {r : Fin 16} {whole : Bool} {v : BitVec 64} {s : State} (hbar : s.barOn = true)
    (hbad : whole = false ∨ s.rd (R.HIF_CRCFG_EN r.val) = 0 ∨ v.toNat / 2 ^ 17 ≠ 0) (entries : List (BitVec 512)) :
    Completes (.commandDoorbell r whole v entries) s (fun t =>
      t.rd R.HIF_DBBAD_CNT = min (s.rd R.HIF_DBBAD_CNT + 1) 0xFFFFFFFF ∧ t.rd R.HIF_INTSTAT_DBBAD = 1 ∧ t.hif.rings = s.hif.rings
        ∧ Frame ([R.HIF_DBBAD_CNT, R.HIF_INTSTAT_DBBAD] ++ reportFlds) s t) := by
  obtain ⟨hcount, hflag⟩ := s.dbBad_rd
  refine completes_of_done (exec_commandDoorbell_of_bad hbar hbad entries) ⟨?_, ?_, ?_, s.dbBad_frame.settle⟩
  · rw [State.settle_rd _ _ (by decide) (by decide), hcount]
  · rw [State.settle_rd _ _ (by decide) (by decide), hflag]
  · rw [State.settle_hif, State.dbBad_hif]

/-- The fields of a ring's status that a fetch shows. -/
def fetchFlds (r : Nat) : List Fld := [R.HIF_CRSTAT_HEAD r, R.HIF_CRSTAT_BUSY r, R.HIF_CRSTAT_OPCODE r]

/-- The ring's status fields lie apart, and apart from the summary message. -/
theorem fetchFlds_apart (r : Nat) :
    (R.HIF_CRSTAT_HEAD r).key ≠ (R.HIF_CRSTAT_BUSY r).key ∧ (R.HIF_CRSTAT_HEAD r).key ≠ (R.HIF_CRSTAT_OPCODE r).key
      ∧ (R.HIF_CRSTAT_BUSY r).key ≠ (R.HIF_CRSTAT_OPCODE r).key ∧ (R.HIF_CRSTAT_WEDGED r).key ≠ (R.HIF_CRSTAT_HEAD r).key
      ∧ ∀ f ∈ fetchFlds r, OffSummary f.key := by
  simp only [fetchFlds, List.forall_mem_cons, List.not_mem_nil, R.HIF_CRSTAT_HEAD, R.HIF_CRSTAT_BUSY, R.HIF_CRSTAT_OPCODE,
    R.HIF_CRSTAT_WEDGED, OffSummary, R.GLB_INTCTL_ARMED, false_implies, implies_true, and_true]
  omega

/-- One entry enters a ring, and the ring's head goes on. -/
def State.entryFetched (s : State) (r : Nat) (e : BitVec 512) : State :=
  ((s.setCmdRing r (fun x => { x with unread := none })).wr (R.HIF_CRSTAT_HEAD r) (s.rd (R.HIF_CRSTAT_HEAD r) + 1)).setCmdRing r
    (fun x => { x with fetched := x.fetched ++ [e] })

/-- The front of a ring whose one entry is `e`. -/
def State.frontShown (s : State) (r : Nat) (e : BitVec 512) : State :=
  (s.wr (R.HIF_CRSTAT_BUSY r) 1).wr (R.HIF_CRSTAT_OPCODE r) (cmdOp e)

section
variable {s : State} {r : Nat} {e : BitVec 512}

theorem State.entryFetched_cmdRing (hnone : (s.cmdRing r).fetched = []) : ((s.entryFetched r e).cmdRing r).fetched = [e] := by
  rw [State.entryFetched, State.cmdRing_setCmdRing]
  refine (congrArg (· ++ [e]) ?_).trans (List.nil_append _)
  have hring := s.cmdRing_setCmdRing r (fun x => { x with unread := none })
  exact (congrArg CmdRing.fetched hring).trans hnone

/-- An entry of the phase expected is fetched into a ring that is wedged, so nothing runs. -/
theorem State.ringFetch_of_one (hdma : s.dmaOn = true) (hw : s.rd (R.HIF_CRSTAT_WEDGED r) = 1) (hnone : (s.cmdRing r).fetched = [])
    (hphase : cmdPhase e = passBit (s.rd (R.HIF_CRSTAT_HEAD r)) (s.rd (R.HIF_CRCFG_LOG2 r))) :
    s.ringFetch r 1 [e] = (s.entryFetched r e).frontShown r e := by
  obtain ⟨-, -, -, hwedged, -⟩ := fetchFlds_apart r
  have hfetch : (s.setCmdRing r (fun x => { x with unread := none })).fetchCmds r 1 [e] = s.entryFetched r e := if_pos hphase
  have hstuck : (s.entryFetched r e).ringRuns r = false := by
    have hon : (s.entryFetched r e).rd (R.HIF_CRSTAT_WEDGED r) = 1 :=
      (State.rd_wr_ne (s.setCmdRing r (fun x => { x with unread := none })) _ _ _ hwedged).trans hw
    simp [State.ringRuns, State.on, hon]
  unfold State.ringFetch
  rw [hdma, if_pos rfl, hfetch]
  dsimp only
  rw [hstuck, Bool.false_and, if_neg Bool.false_ne_true, State.showRing]
  rw [State.entryFetched_cmdRing hnone]
  rfl

/-- A whole doorbell for the next entry fetches it. -/
theorem exec_commandDoorbell_of_one {r : Fin 16} {v : BitVec 64} (hbar : s.barOn = true) (hdma : s.dmaOn = true)
    (hen : s.rd (R.HIF_CRCFG_EN r.val) = 1) (hw : s.rd (R.HIF_CRSTAT_WEDGED r.val) = 1)
    (hv : v.toNat = s.rd (R.HIF_CRSTAT_HEAD r.val) + 1) (hhead : s.rd (R.HIF_CRSTAT_HEAD r.val) < 65535)
    (hnone : (s.cmdRing r.val).fetched = [])
    (hphase : cmdPhase e = passBit (s.rd (R.HIF_CRSTAT_HEAD r.val)) (s.rd (R.HIF_CRCFG_LOG2 r.val))) :
    exec (.commandDoorbell r true v [e]) s = ((s.entryFetched r.val e).frontShown r.val e).done := by
  have hexec : exec (.commandDoorbell r true v [e]) s = execCommandDoorbell r true v [e] s := rfl
  have hlow : v.toNat / 2 ^ 17 = 0 := by omega
  have hpi : (bits v.toNat 0 16 + (2 ^ 16 - s.rd (R.HIF_CRSTAT_HEAD r.val))) % 2 ^ 16 = 1 := by
    unfold bits
    omega
  have harm : v.toNat.testBit 16 = false := Nat.testBit_lt_two_pow (by omega)
  have hroom : ¬ 2 ^ s.rd (R.HIF_CRCFG_LOG2 r.val) < (s.cmdRing r.val).fetched.length + 1 := by
    rw [hnone]
    exact Nat.not_lt.mpr Nat.one_le_two_pow
  have hon : s.on (R.HIF_CRCFG_EN r.val) = true := by simp [State.on, hen]
  rw [hexec, execCommandDoorbell, hbar, hlow, hon, State.ringBell, hpi, if_neg hroom, harm,
    ← State.ringFetch_of_one hdma hw hnone hphase]
  rfl

theorem commandDoorbell_fetches {r : Fin 16} {v : BitVec 64} (hbar : s.barOn = true) (hdma : s.dmaOn = true)
    (hen : s.rd (R.HIF_CRCFG_EN r.val) = 1) (hw : s.rd (R.HIF_CRSTAT_WEDGED r.val) = 1)
    (hv : v.toNat = s.rd (R.HIF_CRSTAT_HEAD r.val) + 1) (hhead : s.rd (R.HIF_CRSTAT_HEAD r.val) < 65535)
    (hnone : (s.cmdRing r.val).fetched = [])
    (hphase : cmdPhase e = passBit (s.rd (R.HIF_CRSTAT_HEAD r.val)) (s.rd (R.HIF_CRCFG_LOG2 r.val))) :
    Completes (.commandDoorbell r true v [e]) s (fun t =>
      (t.cmdRing r.val).fetched = [e] ∧ t.rd (R.HIF_CRSTAT_HEAD r.val) = s.rd (R.HIF_CRSTAT_HEAD r.val) + 1
        ∧ t.rd (R.HIF_CRSTAT_BUSY r.val) = 1 ∧ t.rd (R.HIF_CRSTAT_OPCODE r.val) = cmdOp e
        ∧ Frame [R.HIF_CRSTAT_HEAD r.val, R.HIF_CRSTAT_BUSY r.val, R.HIF_CRSTAT_OPCODE r.val] s t) := by
  obtain ⟨hheadBusy, hheadOp, hbusyOp, -, hoff⟩ := fetchFlds_apart r.val
  have hframe : Frame (fetchFlds r.val) s ((s.entryFetched r.val e).frontShown r.val e) :=
    ((((((Frame.refl _ s).setCmdRing r.val _).wr (by simp [fetchFlds])).setCmdRing r.val _).wr (by simp [fetchFlds])).wr
      (by simp [fetchFlds]))
  have hrd {f : Fld} (hf : f ∈ fetchFlds r.val) (u : State) : u.settle.rd f = u.rd f := State.settle_rd _ _ (hoff f hf).1 (hoff f hf).2
  refine completes_of_done (exec_commandDoorbell_of_one hbar hdma hen hw hv hhead hnone hphase) ⟨?_, ?_, ?_, ?_, hframe.settle⟩
  · rw [State.settle_cmdRing]
    exact State.entryFetched_cmdRing hnone
  · rw [hrd (by simp [fetchFlds]), State.frontShown, State.rd_wr_ne _ _ _ _ hheadOp, State.rd_wr_ne _ _ _ _ hheadBusy, State.entryFetched,
      State.setCmdRing_rd, State.rd_wr_same]
    exact Nat.mod_eq_of_lt (show _ < 65536 by omega)
  · rw [hrd (by simp [fetchFlds]), State.frontShown, State.rd_wr_ne _ _ _ _ hbusyOp, State.rd_wr_same]
    rfl
  · rw [hrd (by simp [fetchFlds]), State.frontShown, State.rd_wr_same]
    exact Nat.mod_eq_of_lt (Nat.mod_lt _ (by decide))

/-! ### Answers (R377, R378) -/

/-- A command whose entry is clean and takes no parameter answers its effect. -/
theorem State.command_of_plain {op used : Nat} (hf : s.frontCmd r op = some e) (hc : cmdClean e used = true) (hp : cmdParam e = 0)
    (eff : BitVec 512 → State × Nat × Nat) : s.command r op used false eff = (eff e).1.complete r e (eff e).2.1 (eff e).2.2 := by
  unfold State.command
  rw [hf]
  dsimp only
  rw [hc, hp]
  rfl

/-- A reserved byte that is set is answered BADPARAM (R378). -/
theorem State.command_of_unclean {op used : Nat} (hf : s.frontCmd r op = some e) (hbad : cmdClean e used = false ∨ cmdParam e ≠ 0)
    (eff : BitVec 512 → State × Nat × Nat) : s.command r op used false eff = s.complete r e stBadParam (failRes e) := by
  have hcond : (cmdClean e used && (false || cmdParam e == 0)) = false := by
    rcases hbad with h | h
    · simp [h]
    · simp [h]
  unfold State.command
  rw [hf]
  dsimp only
  rw [hcond]
  rfl

theorem cmdOp_of_frontCmd {op : Nat} (hf : s.frontCmd r op = some e) : cmdOp e = op := by
  unfold State.frontCmd at hf
  split at hf
  · split at hf
    · split at hf
      · next hop => exact Option.some.inj hf ▸ hop
      · cases hf
    · cases hf
  · cases hf

/-- The answer of a ring's one command whose effect is `u`: what the answer leaves beside it. -/
theorem completes_answered {c : Instr} {u : State} {l : List Fld} {status result : Nat} {P : State → Prop}
    (hexec : exec c s = (u.complete r e status result).done) (hone : (s.cmdRing r).fetched = [e]) (hring : SameRing r s u)
    (hframe : Frame l s u)
    (hP : ∀ t, t.hif.apart = u.hif.apart → Only 0x490000038c0000 u t → Answered r e status result s t
      → Frame (l ++ (errFlds status ++ cplFlds r)) s t → P t) : Completes c s P := by
  have hu : (u.cmdRing r).fetched = [e] := by rw [hring.ring, hone]
  refine completes_of_done hexec (hP _ (State.complete_apart hu _ _) (State.complete_settle_only ..)
    (State.complete_answers hring hone _ _) ((hframe.mono (List.subset_append_left ..)).trans
      ((State.complete_frame hu _ _).mono (List.subset_append_right ..))))

/-- A command refused without an effect. -/
theorem completes_turnedAway {c : Instr} {status result : Nat} (hexec : exec c s = (s.complete r e status result).done)
    (hone : (s.cmdRing r).fetched = [e]) :
    Completes c s (fun t =>
      Only 0x490000038c0000 s t ∧ Answered r e status result s t ∧ Frame (R.HIF_INTSTAT_CMDERR :: cplFlds r ++ reportFlds) s t) :=
  completes_of_done hexec ⟨State.complete_settle_only .., State.complete_answers (.refl r s) hone _ _, State.complete_frame_refused hone _ _⟩

end

/-! ### NOP and the scan (R123, R379) -/

section
variable {s : State} {r : Fin 16} {e : BitVec 512}

theorem nop_answers (h : AtFront r.val 1 e s) (hc : cmdClean e 16 = true) (hp : cmdParam e = 0) :
    Completes (.nop r) s (fun t => Answered r.val e stOk 0 s t ∧ Frame (cplFlds r.val) s t) := by
  obtain ⟨hf, hone⟩ := h
  have hexec : exec (.nop r) s = (s.complete r.val e stOk 0).done :=
    congrArg State.done (State.command_of_plain hf hc hp (fun _ => (s, stOk, 0)))
  exact completes_answered hexec hone (.refl ..) (.refl [] s) fun t _ _ hans hframe => ⟨hans, hframe⟩

theorem nop_refused (h : AtFront r.val 1 e s) (hbad : cmdClean e 16 = false ∨ cmdParam e ≠ 0) :
    Completes (.nop r) s (fun t =>
      Answered r.val e stBadParam 0 s t ∧ Frame (R.HIF_INTSTAT_CMDERR :: cplFlds r.val ++ reportFlds) s t) := by
  obtain ⟨hf, hone⟩ := h
  have hres : failRes e = 0 := if_pos (by rw [cmdOp_of_frontCmd hf]; rfl)
  have hexec : exec (.nop r) s = (s.complete r.val e stBadParam (failRes e)).done :=
    congrArg State.done (State.command_of_unclean hf hbad (fun _ => (s, stOk, 0)))
  rw [hres] at hexec
  obtain ⟨t, ht, -, hans, hframe⟩ := completes_turnedAway hexec hone
  exact ⟨t, ht, hans, hframe⟩

theorem exec_scanStart (hf : s.frontCmd r.val 2 = some e) (hc : cmdClean e 16 = true) (hp : cmdParam e = 0) :
    exec (.scanStart r) s = (s.scanStart.1.complete r.val e s.scanStart.2.1 s.scanStart.2.2).done :=
  congrArg State.done (State.command_of_plain hf hc hp (fun _ => s.scanStart))

/-- A start is asked for, by the first command that asks. -/
def State.startAsked (s : State) : State :=
  (s.onPeg (fun p => { p with startReq := some (s.peg.startReq.getD s.nowLsb) })).wr R.PEG_STATUS_STATE 1

theorem State.scanStart_of_ready (hstage : s.stage = 0x0D ∨ s.stage = 0x0E) (hidle : s.peg.scanning = false)
    (hstep : fLt 0 (s.epochCfg s.peg.active).elStep = true) :
    s.scanStart =
      (s.startAsked, stOk, (s.rd R.PEG_FRAMENUM_NUM + s.boundariesTo (s.peg.startReq.getD s.nowLsb)) % 2 ^ 32) := by
  have hready : (!(decide (s.stage = 0x0D) || decide (s.stage = 0x0E))) = false := by rcases hstage with h | h <;> rw [h] <;> rfl
  simp only [State.scanStart, hready, hidle, hstep]
  rfl

theorem scanStart_asks (h : AtFront r.val 2 e s) (hc : cmdClean e 16 = true) (hp : cmdParam e = 0)
    (hstage : s.stage = 0x0D ∨ s.stage = 0x0E) (hidle : s.peg.scanning = false)
    (hstep : fLt 0 (s.epochCfg s.peg.active).elStep = true) : Completes (.scanStart r) s (fun t =>
      t.peg.startReq = some (s.peg.startReq.getD s.nowLsb) ∧ t.rd R.PEG_STATUS_STATE = 1
        ∧ Answered r.val e stOk ((s.rd R.PEG_FRAMENUM_NUM + s.boundariesTo (s.peg.startReq.getD s.nowLsb)) % 2 ^ 32) s t
        ∧ Frame (R.PEG_STATUS_STATE :: cplFlds r.val) s t) := by
  obtain ⟨hf, hone⟩ := h
  have hexec := exec_scanStart hf hc hp
  have hasked := State.scanStart_of_ready hstage hidle hstep
  have honly := State.scanStart_only s
  rw [hasked] at hexec honly
  refine completes_answered (l := [R.PEG_STATUS_STATE]) hexec hone ((SameRing.refl ..).app honly (by decide) (by decide))
    (Frame.wr ⟨fun _ _ _ => rfl, fun _ => rfl, fun _ => rfl⟩ (by decide)) fun t _ hthen hans hframe => ⟨?_, ?_, hans, hframe⟩
  · rw [hthen.peg.resolve_left (by decide)]
    rfl
  · rw [hthen.rd _ (by decide)]
    exact State.rd_wr_same _ R.PEG_STATUS_STATE 1

theorem scanStart_early (h : AtFront r.val 2 e s) (hc : cmdClean e 16 = true) (hp : cmdParam e = 0) (hready : s.stage ≠ 0x0D)
    (hrun : s.stage ≠ 0x0E) : Completes (.scanStart r) s (fun t =>
      t.peg = s.peg ∧ Answered r.val e stState noRes s t ∧ Frame (R.HIF_INTSTAT_CMDERR :: cplFlds r.val ++ reportFlds) s t) := by
  obtain ⟨hf, hone⟩ := h
  have hearly : s.scanStart = (s, stState, noRes) := if_pos (by simp [hready, hrun])
  have hexec := exec_scanStart hf hc hp
  rw [hearly] at hexec
  obtain ⟨t, ht, hthen, hans, hframe⟩ := completes_turnedAway hexec hone
  exact ⟨t, ht, hthen.peg.resolve_left (by decide), hans, hframe⟩

theorem exec_scanStop (hf : s.frontCmd r.val 3 = some e) (hc : cmdClean e 16 = true) (hp : cmdParam e = 0) :
    exec (.scanStop r) s = (s.scanStop.1.complete r.val e s.scanStop.2.1 s.scanStop.2.2).done :=
  congrArg State.done (State.command_of_plain hf hc hp (fun _ => s.scanStop))

theorem scanStop_asks (h : AtFront r.val 3 e s) (hc : cmdClean e 16 = true) (hp : cmdParam e = 0) (hscan : s.peg.scanning = true) :
    Completes (.scanStop r) s (fun t =>
      t.peg.stopReq = true ∧ t.rd R.PEG_STATUS_STATE = 3 ∧ Answered r.val e stOk (s.rd R.PEG_FRAMENUM_NUM) s t
        ∧ Frame (R.PEG_STATUS_STATE :: cplFlds r.val) s t) := by
  obtain ⟨hf, hone⟩ := h
  set u := (s.onPeg (fun p => { p with stopReq := true })).wr R.PEG_STATUS_STATE 3 with hu
  have hstop : s.scanStop = (u, stOk, s.rd R.PEG_FRAMENUM_NUM) := if_pos hscan
  have honly : Only 0x8002000800020 s u := ((Only.refl ..).app (State.onPeg_only ..) (by decide)).wr (by decide)
  have hexec := exec_scanStop hf hc hp
  rw [hstop] at hexec
  refine completes_answered (l := [R.PEG_STATUS_STATE]) hexec hone ((SameRing.refl ..).app honly (by decide) (by decide))
    (Frame.wr ⟨fun _ _ _ => rfl, fun _ => rfl, fun _ => rfl⟩ (by decide)) fun t _ hthen hans hframe => ⟨?_, ?_, hans, hframe⟩
  · rw [hthen.peg.resolve_left (by decide)]
    rfl
  · rw [hthen.rd _ (by decide)]
    exact State.rd_wr_same _ R.PEG_STATUS_STATE 3

/-! ### TIME_SET (R45) -/

theorem timeSet_asks (h : AtFront r.val 4 e s) (hc : cmdClean e 24 = true) (hp : cmdParam e = 0) :
    Completes (.timeSet r) s (fun t =>
      t.clk.pend = .timeSet (((cmdField e 16 8 : Nat) : Int) / 5 + (if cmdField e 16 8 % 5 < 3 then 0 else 1)
          - (s.clk.devTime.toNat : Int) / 5)
        ∧ t.clk.devTime = s.clk.devTime ∧ t.rd R.CLK_STATUS_TSET = 1 ∧ Answered r.val e stOk 0 s t
        ∧ Frame (R.CLK_STATUS_TSET :: cplFlds r.val) s t) := by
  obtain ⟨hf, hone⟩ := h
  have honly := State.timeSetStep_only s (cmdField e 16 8)
  have hexec : exec (.timeSet r) s = ((s.timeSetStep (cmdField e 16 8)).complete r.val e stOk 0).done :=
    congrArg State.done (State.command_of_plain hf hc hp (fun e => (s.timeSetStep (cmdField e 16 8), stOk, 0)))
  have hround : ((cmdField e 16 8 : Int) + 2) / 5 = (cmdField e 16 8 : Int) / 5 + (if cmdField e 16 8 % 5 < 3 then 0 else 1) := by
    split <;> omega
  refine completes_answered (l := [R.CLK_STATUS_TSET]) hexec hone ((SameRing.refl ..).app honly (by decide) (by decide))
    (Frame.wr ⟨fun _ _ _ => rfl, fun _ => rfl, fun _ => rfl⟩ (by decide)) fun t _ hthen hans hframe => ?_
  rw [hthen.clk.resolve_left (by decide), hthen.rd _ (by decide), ← hround]
  exact ⟨rfl, rfl, State.rd_wr_same _ R.CLK_STATUS_TSET 1, hans, hframe⟩

end

/-! ### POSE (R249) -/

/-- A good sample as its frame and the pose table take it. -/
def State.poseTaken (s : State) (raw : BitVec 384) : State :=
  let p := Pose.parse raw
  let s1 := match s.slotAt p.time with
    | some f => s.setFrame f.num (fun f => { f with poses := f.poses ++ [p] })
    | none => s
  { s1 with lbk := { s1.lbk with lastPose := some p.time
                                 disconts := if raw.getLsbD 289 then p.time :: s1.lbk.disconts else s1.lbk.disconts } }

section
variable {s : State}

theorem State.poseIn_of_fits {raw : BitVec 384} (h : s.poseFits raw = true) :
    s.poseIn raw = (s.poseTaken raw).when (raw.getLsbD 289) (·.flag R.LBK_INTSTAT_DISCONT) := by
  unfold State.poseIn
  rw [if_pos h]
  rfl

/-- Whether a sample is acceptable depends on the pose tables and the device time. -/
theorem State.poseFits_congr {u : State} (hlbk : u.lbk = s.lbk) (hclk : u.clk = s.clk) (raw : BitVec 384) :
    u.poseFits raw = s.poseFits raw := by
  unfold State.poseFits State.slotAt
  rw [hlbk, hclk]

theorem State.poseTaken_frame (raw : BitVec 384) : Frame [] s (s.poseTaken raw) := by
  unfold State.poseTaken
  dsimp only
  split <;> exact ⟨fun _ _ _ => rfl, fun _ => rfl, fun _ => rfl⟩

theorem State.poseTick_frame : Frame [R.LBK_STATUS_POSEOK, R.LBK_INTSTAT_POSEGAP] s s.poseTick := by
  unfold State.poseTick
  split
  · exact .refl ..
  · split
    · exact (Frame.refl ..).wr (by decide)
    · exact ((Frame.refl ..).wr (by decide)).wr (by decide)

theorem State.poseIn_takes {raw : BitVec 384} (h : s.poseFits raw = true) :
    (s.poseIn raw).lbk.lastPose = some (Pose.parse raw).time ∧ Frame [R.LBK_INTSTAT_DISCONT] s (s.poseIn raw) := by
  rw [State.poseIn_of_fits h]
  refine ⟨State.when_keeps (fun t => t.lbk.lastPose) rfl, ?_⟩
  unfold State.when
  split
  · exact ((State.poseTaken_frame raw).mono (List.nil_subset _)).wr (by decide)
  · exact (State.poseTaken_frame raw).mono (List.nil_subset _)

end

section
variable {s : State} {r : Fin 16} {e : BitVec 512}

theorem exec_pose (hf : s.frontCmd r.val 8 = some e) (d : Option (List (BitVec 384))) :
    exec (.pose r d) s = (s.poseCommand r.val e d).done := by
  have hexec : exec (.pose r d) s = execPose r d s := rfl
  rw [hexec, execPose, hf]

/-- The time of the sample that a command entry carries. -/
theorem inlinePose_time (e : BitVec 512) : (Pose.parse (e.extractLsb' 128 384)).time = cmdField e 16 8 := by
  simp only [Pose.parse, cmdField, bits, BitVec.extractLsb'_toNat, Nat.shiftRight_eq_div_pow]
  omega

theorem pose_enters (h : AtFront r.val 8 e s) (hc : cmdClean e 64 = true) (hp : cmdParam e = 0)
    (hfit : s.poseFits (e.extractLsb' 128 384) = true) (d : Option (List (BitVec 384))) : Completes (.pose r d) s (fun t =>
      Answered r.val e stOk 1 s t ∧ t.lbk.lastPose = some (cmdField e 16 8) ∧ t.peg = s.peg
        ∧ Frame ([R.LBK_INTSTAT_DISCONT, R.LBK_STATUS_POSEOK, R.LBK_INTSTAT_POSEGAP] ++ cplFlds r.val) s t) := by
  obtain ⟨hf, hone⟩ := h
  obtain ⟨hlast, htaken⟩ := State.poseIn_takes hfit
  set u := (s.poseIn (e.extractLsb' 128 384)).poseTick with hu
  have hentered : s.enterPoses [e.extractLsb' 128 384] = (u, stOk, 1) := by
    rw [State.enterPoses, State.poseEnter, if_pos hfit]
    rfl
  have hcommand : s.poseCommand r.val e d = u.complete r.val e stOk 1 := by
    unfold State.poseCommand
    dsimp only
    rw [if_pos hp, if_pos hc, hentered]
  have honly : Only 0x8020000800400 s u :=
    ((Only.refl ..).app (State.poseIn_only ..) (by decide)).app (State.poseTick_only _) (by decide)
  have hframe : Frame [R.LBK_INTSTAT_DISCONT, R.LBK_STATUS_POSEOK, R.LBK_INTSTAT_POSEGAP] s u :=
    (htaken.mono (by decide)).trans (State.poseTick_frame.mono (by decide))
  refine completes_answered ((exec_pose hf d).trans (congrArg State.done hcommand)) hone
    ((SameRing.refl ..).app honly (by decide) (by decide)) hframe fun t _ hthen hans hcpl => ⟨hans, ?_, ?_, hcpl⟩
  · rw [hthen.lbk.resolve_left (by decide), hu, (State.poseTick_only _).lbk.resolve_left (by decide), hlast, inlinePose_time]
  · rw [hthen.peg.resolve_left (by decide), honly.peg.resolve_left (by decide)]

/-- What a list of samples leaves that are all refused: they are counted, and nothing enters (R249). -/
theorem State.poseEnter_of_bad (l : List (BitVec 384)) : ∀ (s : State) (a n : Nat), l.all (fun p => !s.poseFits p) = true →
    s.rd R.LBK_POSEDROP_CNT + l.length ≤ 0xFFFFFFFF →
    (s.poseEnter l a n).2 = (a, n + l.length) ∧ (s.poseEnter l a n).1.lbk = s.lbk
      ∧ (s.poseEnter l a n).1.rd R.LBK_POSEDROP_CNT = s.rd R.LBK_POSEDROP_CNT + l.length
      ∧ (l ≠ [] ∨ s.rd R.LBK_INTSTAT_POSEBAD = 1 → (s.poseEnter l a n).1.rd R.LBK_INTSTAT_POSEBAD = 1)
      ∧ Frame ([R.LBK_POSEDROP_CNT, R.LBK_INTSTAT_POSEBAD] ++ reportFlds) s (s.poseEnter l a n).1 := by
  induction l with
  | nil => exact fun s a n _ _ => ⟨rfl, rfl, rfl, fun h => h.resolve_left (fun hne => hne rfl), .refl ..⟩
  | cons p rest ih =>
    intro s a n hall hcnt
    rw [List.all_cons, Bool.and_eq_true, Bool.not_eq_true'] at hall
    obtain ⟨hbad, hrest⟩ := hall
    set u := (s.bump R.LBK_POSEDROP_CNT 1).fault R.LBK_INTSTAT_POSEBAD 1 0 with hu
    have hin : s.poseIn p = u := if_neg (by rw [hbad]; decide)
    have honly : Only 0x8000000800400 s u := State.fault_only ((Only.refl ..).bump (by decide)) (by decide) (by decide)
    have hdrop : u.rd R.LBK_POSEDROP_CNT = s.rd R.LBK_POSEDROP_CNT + 1 := by
      rw [hu, State.fault_rd _ _ _ _ _ (by decide) (by decide), if_neg (by decide), State.rd_bump, if_pos rfl]
      rw [List.length_cons] at hcnt
      show min (s.rd R.LBK_POSEDROP_CNT + 1) (2 ^ 32 - 1) % 2 ^ 32 = _
      omega
    have hflag : u.rd R.LBK_INTSTAT_POSEBAD = 1 := by
      rw [hu, State.fault_rd _ _ _ _ _ (by decide) (by decide), if_pos rfl]
      rfl
    have hlbk : u.lbk = s.lbk := honly.lbk.resolve_left (by decide)
    have hfits (q : BitVec 384) : u.poseFits q = s.poseFits q :=
      State.poseFits_congr hlbk (honly.clk.resolve_left (by decide)) q
    have hcounted : Frame ([R.LBK_POSEDROP_CNT, R.LBK_INTSTAT_POSEBAD] ++ reportFlds) s u :=
      ((Frame.refl ..).bump (by decide)).fault (by decide) (by decide)
    obtain ⟨hans, hlbk', hdrop', hflag', hframe⟩ := ih u a (n + 1) (by simpa only [hfits] using hrest) (by
      rw [hdrop, Nat.add_assoc, Nat.add_comm 1]
      exact hcnt)
    have henter : s.poseEnter (p :: rest) a n = u.poseEnter rest a (n + 1) := by
      rw [State.poseEnter, hbad, if_neg Bool.false_ne_true, hin]
    rw [henter]
    refine ⟨hans.trans ?_, hlbk'.trans hlbk, hdrop'.trans ?_, fun _ => hflag' (.inr hflag), hcounted.trans hframe⟩
    · rw [List.length_cons, Nat.add_assoc, Nat.add_comm 1]
    · rw [hdrop, List.length_cons, Nat.add_assoc, Nat.add_comm 1]

theorem pose_refuses {l : List (BitVec 384)} (h : AtFront r.val 8 e s) (hc : cmdClean e 24 = true) (hp : cmdParam e = l.length)
    (hlo : 1 ≤ l.length) (hhi : l.length ≤ 64) (hall : l.all (fun p => !s.poseFits p) = true)
    (hcnt : s.rd R.LBK_POSEDROP_CNT + l.length ≤ 0xFFFFFFFF) : Completes (.pose r (some l)) s (fun t =>
      Answered r.val e stOk (2 ^ 16 * l.length) s t ∧ t.rd R.LBK_POSEDROP_CNT = s.rd R.LBK_POSEDROP_CNT + l.length
        ∧ t.rd R.LBK_INTSTAT_POSEBAD = 1 ∧ t.lbk = s.lbk
        ∧ Frame ([R.LBK_POSEDROP_CNT, R.LBK_INTSTAT_POSEBAD, R.LBK_STATUS_POSEOK, R.LBK_INTSTAT_POSEGAP] ++ cplFlds r.val ++
          reportFlds) s t) := by
  obtain ⟨hf, hone⟩ := h
  obtain ⟨hans, hlbk, hdrop, hflag, hcounted⟩ := State.poseEnter_of_bad l s 0 0 hall hcnt
  have hne : l ≠ [] := List.ne_nil_of_length_pos hlo
  set u := (s.poseEnter l 0 0).1.poseTick with hu
  have hentered : s.enterPoses l = (u, stOk, 2 ^ 16 * l.length) := by
    have hpair : s.poseEnter l 0 0 = ((s.poseEnter l 0 0).1, 0, 0 + l.length) := by rw [← hans]
    rw [State.enterPoses, hpair, hu, Nat.zero_add]
    dsimp only
    rw [Nat.zero_add]
  have hcommand : s.poseCommand r.val e (some l) = u.complete r.val e stOk (2 ^ 16 * l.length) := by
    unfold State.poseCommand
    dsimp only
    rw [hp, if_neg (Nat.ne_of_gt hlo), if_pos (by simp [hhi, hc]), List.take_length, Nat.sub_self, List.replicate_zero,
      List.append_nil, hentered]
  have honly : Only 0x8020000800400 s u :=
    ((Only.refl ..).app (State.poseEnter_only ..) (by decide)).app (State.poseTick_only _) (by decide)
  have htick := State.poseTick_frame (s := (s.poseEnter l 0 0).1)
  have hframe : Frame ([R.LBK_POSEDROP_CNT, R.LBK_INTSTAT_POSEBAD, R.LBK_STATUS_POSEOK, R.LBK_INTSTAT_POSEGAP] ++ reportFlds) s u :=
    (hcounted.mono (by decide)).trans (htick.mono (by decide))
  refine completes_answered ((exec_pose hf (some l)).trans (congrArg State.done hcommand)) hone
    ((SameRing.refl ..).app honly (by decide) (by decide)) hframe fun t _ hthen hanswered hcpl => ⟨hanswered, ?_, ?_, ?_, hcpl.mono ?_⟩
  · rw [hthen.rd _ (by decide), htick.rd _ (by decide) (by decide), hdrop]
  · rw [hthen.rd _ (by decide), htick.rd _ (by decide) (by decide), hflag (.inl hne)]
  · rw [hthen.lbk.resolve_left (by decide), (State.poseTick_only _).lbk.resolve_left (by decide), hlbk]
  · exact fun g hg => by
      simp only [List.mem_append] at hg ⊢
      rcases hg with (hg | hg) | hg | hg
      · exact .inl (.inl hg)
      · exact .inr hg
      · exact absurd hg (List.not_mem_nil)
      · exact .inl (.inr hg)

theorem pose_unread (h : AtFront r.val 8 e s) (hc : cmdClean e 24 = true) (hp : cmdParam e = 2) : Completes (.pose r none) s (fun t =>
      t.lbk = s.lbk ∧ Answered r.val e stDmaErr noRes s t ∧ Frame (R.HIF_INTSTAT_CMDERR :: cplFlds r.val ++ reportFlds) s t) := by
  obtain ⟨hf, hone⟩ := h
  have hcommand : s.poseCommand r.val e none = s.complete r.val e stDmaErr noRes := by
    unfold State.poseCommand
    dsimp only
    rw [hp, if_neg (by decide), if_pos (by rw [hc]; decide)]
  obtain ⟨t, ht, hthen, hans, hframe⟩ := completes_turnedAway ((exec_pose hf none).trans (congrArg State.done hcommand)) hone
  exact ⟨t, ht, hthen.lbk.resolve_left (by decide), hans, hframe⟩

end

/-- Settles O39: doorbells from the law of a fetch, each command from its effect and the law of its answer. -/
theorem hostCommandsComplete : Obligations.HostCommandsComplete :=
  ⟨fun _ _ _ entries _ hbar hbad => commandDoorbell_bad hbar hbad entries,
    fun _ _ _ _ hbar hdma hen hw hv hhead hnone hphase => commandDoorbell_fetches hbar hdma hen hw hv hhead hnone hphase,
    fun _ _ _ h hc hp => nop_answers h hc hp, fun _ _ _ h hbad => nop_refused h hbad,
    fun _ _ _ h hc hp hstage hidle hstep => scanStart_asks h hc hp hstage hidle hstep,
    fun _ _ _ h hc hp hready hrun => scanStart_early h hc hp hready hrun, fun _ _ _ h hc hp hscan => scanStop_asks h hc hp hscan,
    fun _ _ _ h hc hp => timeSet_asks h hc hp, fun _ _ d _ h hc hp hfit => pose_enters h hc hp hfit d,
    fun _ _ _ _ h hc hp hlo hhi hall hcnt => pose_refuses h hc hp hlo hhi hall hcnt, fun _ _ _ h hc hp => pose_unread h hc hp⟩

end Sys2Proof.Machine
end

section
/-!
The link (R54, R59, R370, R373, R391, R393, R403, R404, R457): its loss and its coming up, configuration requests, wedged objects, dropped
packets and removed lanes (O52).
-/
namespace Sys2Proof.Machine

/-- The key of the lanes that are out. -/
def AtLanes (k : Nat) : Prop := k = R.FLT_PCIE_LANEOUT.key

theorem not_atLanes {f : Fld} (h : f.key ≠ R.FLT_PCIE_LANEOUT.key) : ¬ AtLanes f.key := h

theorem reportFlds_ne_lanes : ∀ g ∈ reportFlds, g.key ≠ R.FLT_PCIE_LANEOUT.key := by decide

/-! ### What a cut transfer touches of the host link -/

section
variable (s : State)

theorem State.moveBytes_apart (d : Desc) (n : Nat) (bad : Bool) (data : List Byte) :
    (s.moveBytes d n bad data).hif.apart = s.hif.apart := by
  unfold State.moveBytes
  dsimp only
  split
  · rfl
  · split
    · exact State.hostWrite_apart ..
    · exact congrArg HifState.apart ((State.hbmStore_only ..).hif.resolve_left (by decide))

theorem State.bulkBad_hif (c status : Nat) (late : Bool) : (s.bulkBad c status late).hif = s.hif :=
  (State.bulkBad_only ..).hif.resolve_left (by decide)

/-- The front descriptor has left. -/
def BulkChan.popped (x : BulkChan) : BulkChan := { x with descs := x.descs.drop 1, stopDue := false }

theorem State.popDesc_hif (c : Nat) : (s.popDesc c).hif = (s.setBulk c BulkChan.popped).hif := by
  unfold State.popDesc
  dsimp only
  split <;> rfl

theorem State.setBulk_queues (c : Nat) (f : BulkChan → BulkChan) : (s.setBulk c f).hif.queues = s.hif.queues := rfl

theorem State.setBulk_bulk (c : Nat) (f : BulkChan → BulkChan) : (s.setBulk c f).bulk c = f (s.bulk c) := mapGet_set_same ..

/-- The bytes of the front descriptor that have moved when it is cut off, and how many of them were Dog's. -/
def State.cutMoved (c : Nat) (d : Desc) (residue : Nat) : State × Nat :=
  let sink := s.on (R.PUR_CHCFG_MODE c)
  let n := d.len - min residue d.len
  let came := if sink then (match s.nextEntry with | some e => (s.entryBytes e).take n | none => [])
    else (List.range n).map (Config.freeByte s.fresh)
  (if sink then (s.draw).hostWrite d.host (brokenBytes s.fresh d.host n came) else (s.draw).moveBytes d n true came,
    if sink then came.length else 0)

/-- The completion that a cut descriptor is owed. -/
def BulkChan.owing (d : Desc) (residue bytes : Nat) (x : BulkChan) : BulkChan :=
  { x with owed := x.owed ++ [(d.id, min residue d.len, bytes, d.irq)] }

theorem State.cutDesc_of_runs {c : Nat} {d : Desc} {rest : List Desc} (hd : (s.bulk c).descs = d :: rest) (hr : s.bulkRuns c = true)
    (residue : Nat) :
    s.cutDesc c residue = (((s.cutMoved c d residue).1.setBulk c (BulkChan.owing d residue (s.cutMoved c d residue).2)).bulkBad c 4
      (min residue d.len == 0)).popDesc c := by
  unfold State.cutDesc
  rw [hd]
  dsimp only
  rw [if_pos hr]
  rfl

theorem State.cutMoved_apart (c : Nat) (d : Desc) (residue : Nat) : (s.cutMoved c d residue).1.hif.apart = s.hif.apart := by
  unfold State.cutMoved
  dsimp only
  split
  · exact State.hostWrite_apart ..
  · exact State.moveBytes_apart ..

theorem State.cutMoved_only (c : Nat) (d : Desc) (residue : Nat) : Only 0xd9000000080000 s (s.cutMoved c d residue).1 := by
  unfold State.cutMoved
  dsimp only
  split
  · exact ((Only.refl ..).app (State.draw_only _) (by decide)).app (State.hostWrite_only ..) (by decide)
  · exact ((Only.refl ..).app (State.draw_only _) (by decide)).app (State.moveBytes_only ..) (by decide)

/-- A cut either leaves the state or ends the front descriptor. -/
theorem State.cutDesc_cases (c residue : Nat) :
    s.cutDesc c residue = s ∨ ∃ d, s.cutDesc c residue =
      (((s.cutMoved c d residue).1.setBulk c (BulkChan.owing d residue (s.cutMoved c d residue).2)).bulkBad c 4
        (min residue d.len == 0)).popDesc c := by
  cases hd : (s.bulk c).descs with
  | nil =>
    refine .inl ?_
    unfold State.cutDesc
    rw [hd]
  | cons d rest =>
    by_cases hr : s.bulkRuns c = true
    · exact .inr ⟨d, s.cutDesc_of_runs hd hr residue⟩
    · refine .inl ?_
      unfold State.cutDesc
      rw [hd]
      exact if_neg hr

theorem State.cutDesc_queues (c residue : Nat) : (s.cutDesc c residue).hif.queues = s.hif.queues := by
  rcases s.cutDesc_cases c residue with h | ⟨d, h⟩
  · rw [h]
  · have hmoved : (s.cutMoved c d residue).1.hif.queues = s.hif.queues := (congrArg HifState.queues (s.cutMoved_apart c d residue) :)
    rw [h, State.popDesc_hif, State.setBulk_queues, State.bulkBad_hif, State.setBulk_queues, hmoved]

/-- A bad descriptor is counted among Purlin's registers and in the fault log alone. -/
theorem State.bulkBad_spares (c status : Nat) (late : Bool) : Spares AtLanes s (s.bulkBad c status late) := by
  have hfault (u : State) {f : Fld} (hf : f.key ≠ R.FLT_PCIE_LANEOUT.key) : Spares AtLanes u (u.fault f 1 c) :=
    (Spares.refl ..).fault (fun g hg => (List.mem_cons.mp hg).elim (fun he => he ▸ not_atLanes hf)
      (fun hr => not_atLanes (reportFlds_ne_lanes g hr))) 1 c
  have herrs : (R.PUR_CHERR_ERRS c).key ≠ R.FLT_PCIE_LANEOUT.key := by unfold R.FLT_PCIE_LANEOUT R.PUR_CHERR_ERRS; dsimp only; omega
  have hlate : (R.PUR_CHERR_LATE c).key ≠ R.FLT_PCIE_LANEOUT.key := by unfold R.FLT_PCIE_LANEOUT R.PUR_CHERR_LATE; dsimp only; omega
  unfold State.bulkBad
  refine Spares.when (Spares.when (((Spares.refl AtLanes s).bump (not_atLanes herrs)).trans (hfault _ ?_)) late ?_) _ (hfault _ ?_)
  · decide
  · exact ((Spares.refl AtLanes _).bump (not_atLanes hlate)).trans (hfault _ (by decide))
  · decide

theorem State.cutDesc_lanes (c residue : Nat) : (s.cutDesc c residue).rd R.FLT_PCIE_LANEOUT = s.rd R.FLT_PCIE_LANEOUT := by
  rcases s.cutDesc_cases c residue with h | ⟨d, h⟩
  · rw [h]
  · rw [h, (State.popDesc_only ..).rd _ (by decide), (State.bulkBad_spares ..).rd _ rfl]
    exact (s.cutMoved_only c d residue).rd _ (by decide)

/-- What runs on a bulk channel is cut off after a residue of its own. -/
def State.cutStep (i : Nat) : State := s.draw.cutDesc (32 + i) (Config.cutResidue s.fresh)

theorem State.cutAll_eq (stop : Bool) :
    s.cutAll stop = if stop && s.dmaOn then (List.range 31).foldl State.cutStep s else s := rfl

theorem State.cutStep_queues (i : Nat) : (s.cutStep i).hif.queues = s.hif.queues := s.draw.cutDesc_queues ..

theorem State.cutStep_lanes (i : Nat) : (s.cutStep i).rd R.FLT_PCIE_LANEOUT = s.rd R.FLT_PCIE_LANEOUT := s.draw.cutDesc_lanes ..

theorem State.cutAll_queues (stop : Bool) : (s.cutAll stop).hif.queues = s.hif.queues := by
  rw [State.cutAll_eq]
  split
  · exact foldl_keeps (fun t : State => t.hif.queues) State.cutStep_queues _ _
  · rfl

theorem State.cutAll_lanes (stop : Bool) : (s.cutAll stop).rd R.FLT_PCIE_LANEOUT = s.rd R.FLT_PCIE_LANEOUT := by
  rw [State.cutAll_eq]
  split
  · exact foldl_keeps (State.rd · R.FLT_PCIE_LANEOUT) State.cutStep_lanes _ _
  · rfl

end

/-- Where no channel has a descriptor nothing is cut. -/
theorem State.cutAll_of_idle {s : State} (h : ∀ i : Fin 31, (s.bulk (32 + i.val)).descs = []) (stop : Bool) :
    ∃ n, s.cutAll stop = { s with fresh := n } := by
  have hcut (n i : Nat) (hi : i < 31) : ({ s with fresh := n } : State).cutStep i = { s with fresh := n + 1 } := by
    have hnone : (({ s with fresh := n } : State).draw.bulk (32 + i)).descs = [] := h ⟨i, hi⟩
    unfold State.cutStep State.cutDesc
    rw [hnone]
    rfl
  have hfold (l : List Nat) (hl : ∀ i ∈ l, i < 31) (n : Nat) :
      ∃ n', l.foldl State.cutStep ({ s with fresh := n } : State) = { s with fresh := n' } := by
    induction l generalizing n with
    | nil => exact ⟨n, rfl⟩
    | cons i rest ih =>
      rw [List.foldl_cons, hcut n i (hl i List.mem_cons_self)]
      exact ih (fun j hj => hl j (List.mem_cons_of_mem _ hj)) (n + 1)
  rw [State.cutAll_eq]
  split
  · exact hfold _ (fun i hi => List.mem_range.mp hi) s.fresh
  · exact ⟨s.fresh, rfl⟩

/-! ### Suspended queues (R373, R393) -/

/-- The fields that the loss of the link and a wedge write beside the queues' states. -/
def linkFlds : List Fld :=
  [R.HIF_STATUS_SPEED, R.HIF_STATUS_WIDTH, R.HIF_STATUS_BME, R.HIF_STATUS_D3, R.HIF_INTSTAT_QSUSP, R.HIF_INTSTAT_LINKDOWN,
    R.HIF_INTSTAT_WEDGE, R.FLT_OVERFLOW_CNT, R.FLT_INTSTAT_OVERFLOW]

/-- A key between HIF's status and the fault log is none of them. -/
theorem linkFlds_apart {k : Nat} (hlo : 31457671 ≤ k) (hhi : k < 41943040) : ∀ f ∈ linkFlds, k ≠ f.key := by
  have hkeys : ∀ f ∈ linkFlds, f.key < 31457671 ∨ 41943040 ≤ f.key := by decide
  intro f hf he
  have := hkeys f hf
  omega

/-- A queue's state stands apart from what the loss of the link writes, and from the summary message. -/
theorem qstate_apart (q : Nat) :
    (∀ f ∈ linkFlds, (R.HIF_QSTATE_STATE q).key ≠ f.key) ∧ OffSummary (R.HIF_QSTATE_STATE q).key := by
  simp only [R.HIF_QSTATE_STATE, OffSummary, R.GLB_INTCTL_ARMED]
  exact ⟨linkFlds_apart (by omega) (by omega), by omega, by omega⟩

/-- The queues that are open. -/
def State.openQueues (s : State) : List Nat := (s.hif.queues.map (·.1)).filter (fun q => s.qState q == 1)

/-- The queues listed go back to what a suspended queue keeps. -/
def HifState.queuesShut (h : HifState) (l : List Nat) : HifState :=
  { h with queues := h.queues.map (fun p => if l.contains p.1 then (p.1, p.2.suspend) else p) }

section
variable {s : State}

theorem State.suspendQueues_eq : s.suspendQueues =
    if s.openQueues.isEmpty then s.openQueues.foldl queueSuspended (s.onHif (·.queuesShut s.openQueues))
    else (s.openQueues.foldl queueSuspended (s.onHif (·.queuesShut s.openQueues))).flag R.HIF_INTSTAT_QSUSP := rfl

theorem State.suspendQueues_hif : s.suspendQueues.hif = s.hif.queuesShut s.openQueues := by
  have hfold : (s.openQueues.foldl queueSuspended (s.onHif (·.queuesShut s.openQueues))).hif = s.hif.queuesShut s.openQueues :=
    foldl_keeps State.hif (fun t q => State.wr_hif t (R.HIF_QSTATE_STATE q) 2) _ _
  rw [State.suspendQueues_eq]
  split
  · exact hfold
  · exact hfold

/-- A field that is no queue's state and not QSUSP stays. -/
theorem State.suspendQueues_rd {f : Fld} (hq : ∀ q, f.key ≠ (R.HIF_QSTATE_STATE q).key) (hs : f.key ≠ R.HIF_INTSTAT_QSUSP.key) :
    s.suspendQueues.rd f = s.rd f := by
  have hfold : (s.openQueues.foldl queueSuspended (s.onHif (·.queuesShut s.openQueues))).rd f = s.rd f :=
    foldl_keeps (State.rd · f) (fun t q => State.rd_wr_ne t _ _ _ (hq q)) _ _
  rw [State.suspendQueues_eq]
  split
  · exact hfold
  · rw [State.rd_flag, if_neg hs, hfold]

theorem queueSuspended_same (q : Nat) : (queueSuspended s q).qState q = 2 := State.rd_wr_same s (R.HIF_QSTATE_STATE q) 2

theorem queueSuspended_keeps {q : Nat} (h : s.qState q = 2) (p : Nat) : (queueSuspended s p).qState q = 2 := by
  rw [State.qState, queueSuspended, State.rd_wr]
  split
  · rfl
  · exact h

theorem queuesSuspended_qState {q : Nat} {l : List Nat} (hq : q ∈ l ∨ s.qState q = 2) : (l.foldl queueSuspended s).qState q = 2 := by
  induction l generalizing s with
  | nil => exact hq.resolve_left (List.not_mem_nil)
  | cons p rest ih =>
    refine ih ?_
    rcases hq with hq | hq
    · rcases List.mem_cons.mp hq with rfl | hq
      · exact .inr (queueSuspended_same _)
      · exact .inl hq
    · exact .inr (queueSuspended_keeps hq p)

/-- An open queue is suspended. -/
theorem State.suspendQueues_qState {q : Nat} (hq : q ∈ s.hif.queues.map (·.1)) (ho : s.qState q = 1) : s.suspendQueues.qState q = 2 := by
  have hopen : q ∈ s.openQueues := List.mem_filter.mpr ⟨hq, by rw [ho]; rfl⟩
  have hfold : (s.openQueues.foldl queueSuspended (s.onHif (·.queuesShut s.openQueues))).qState q = 2 :=
    queuesSuspended_qState (.inl hopen)
  obtain ⟨hapart, -⟩ := qstate_apart q
  rw [State.suspendQueues_eq]
  split
  · exact hfold
  · rw [State.qState, State.rd_flag, if_neg (hapart _ (by decide))]
    exact hfold

/-! ### LINK_DOWN and LINK_UP (R54, R373) -/

/-- The function's configuration is reset, the queues are suspended and the link shows neither speed nor width. -/
def State.linkCut (s : State) : State :=
  ((s.resetConfig.suspendQueues.wr R.HIF_STATUS_SPEED 0).wr R.HIF_STATUS_WIDTH 0).fault R.HIF_INTSTAT_LINKDOWN 3 0

theorem State.pcieDown_of_up (h : s.rd R.HIF_STATUS_SPEED ≠ 0) : s.pcieDown = (s.cutAll true).linkCut := if_neg h

theorem State.linkCut_only : Only 0x9000000840000 s s.linkCut := by
  refine State.fault_only (Only.wr (Only.wr ?_ (by decide)) (by decide)) (by decide) (by decide)
  exact ((Only.refl ..).app (State.resetConfig_only _) (by decide)).app (State.suspendQueues_only _) (by decide)

/-- No queue's state lies among the function's configuration. -/
theorem statusFlds_apart : ∀ f ∈ [R.HIF_STATUS_BME, R.HIF_STATUS_D3], ∀ q, f.key ≠ (R.HIF_QSTATE_STATE q).key := by
  intro f hf q he
  obtain ⟨hapart, -⟩ := qstate_apart q
  exact hapart f ((by decide : [R.HIF_STATUS_BME, R.HIF_STATUS_D3] ⊆ linkFlds) hf) he.symm

theorem State.resetConfig_bme : s.resetConfig.rd R.HIF_STATUS_BME = 0 := by
  rw [State.resetConfig, State.rd_wr_ne _ _ _ _ (by decide)]
  exact State.rd_wr_same _ R.HIF_STATUS_BME 0

theorem State.linkCut_rd :
    s.linkCut.rd R.HIF_STATUS_SPEED = 0 ∧ s.linkCut.rd R.HIF_STATUS_WIDTH = 0 ∧ s.linkCut.rd R.HIF_STATUS_BME = 0
      ∧ s.linkCut.rd R.HIF_INTSTAT_LINKDOWN = 1 := by
  have hfault {f : Fld} (h1 : f.key ≠ R.FLT_OVERFLOW_CNT.key) (h2 : f.key ≠ R.FLT_INTSTAT_OVERFLOW.key)
      (h3 : f.key ≠ R.HIF_INTSTAT_LINKDOWN.key) :
      s.linkCut.rd f = ((s.resetConfig.suspendQueues.wr R.HIF_STATUS_SPEED 0).wr R.HIF_STATUS_WIDTH 0).rd f := by
    rw [State.linkCut, State.fault_rd _ _ _ _ _ h1 h2, if_neg h3]
  refine ⟨?_, ?_, ?_, ?_⟩
  · rw [hfault (by decide) (by decide) (by decide), State.rd_wr_ne _ _ _ _ (by decide)]
    exact State.rd_wr_same _ R.HIF_STATUS_SPEED 0
  · rw [hfault (by decide) (by decide) (by decide)]
    exact State.rd_wr_same _ R.HIF_STATUS_WIDTH 0
  · rw [hfault (by decide) (by decide) (by decide), State.rd_wr_ne _ _ _ _ (by decide), State.rd_wr_ne _ _ _ _ (by decide),
      State.suspendQueues_rd (statusFlds_apart _ (by decide)) (by decide), State.resetConfig_bme]
  · rw [State.linkCut, State.fault_rd _ _ _ _ _ (by decide) (by decide), if_pos rfl]
    rfl

theorem State.linkCut_lanes : s.linkCut.rd R.FLT_PCIE_LANEOUT = s.rd R.FLT_PCIE_LANEOUT := by
  rw [State.linkCut, State.fault_rd _ _ _ _ _ (by decide) (by decide), if_neg (by decide), State.rd_wr_ne _ _ _ _ (by decide),
    State.rd_wr_ne _ _ _ _ (by decide), (State.suspendQueues_only _).rd _ (by decide), (State.resetConfig_only _).rd _ (by decide)]

theorem State.linkCut_hif : s.linkCut.hif = s.resetConfig.hif.queuesShut s.resetConfig.openQueues := by
  rw [State.linkCut, State.fault_hif, State.wr_hif, State.wr_hif, State.suspendQueues_hif]

theorem State.linkCut_qState {q : Nat} (hq : q ∈ s.hif.queues.map (·.1)) (ho : s.qState q = 1) : s.linkCut.qState q = 2 := by
  obtain ⟨hapart, -⟩ := qstate_apart q
  have hopen : s.resetConfig.qState q = 1 := by
    rw [State.qState, State.resetConfig, State.rd_wr_ne _ _ _ _ (hapart _ (by decide)), State.rd_wr_ne _ _ _ _ (hapart _ (by decide))]
    exact ho
  rw [State.qState, State.linkCut, State.fault_rd _ _ _ _ _ (hapart _ (by decide)) (hapart _ (by decide)), if_neg (hapart _ (by decide)),
    State.rd_wr_ne _ _ _ _ (hapart _ (by decide)), State.rd_wr_ne _ _ _ _ (hapart _ (by decide))]
  exact State.suspendQueues_qState (s := s.resetConfig) hq hopen

theorem linkDown_falls (h : s.rd R.HIF_STATUS_SPEED ≠ 0) : Completes .linkDown s (fun t =>
      t.rd R.HIF_STATUS_SPEED = 0 ∧ t.rd R.HIF_STATUS_WIDTH = 0 ∧ t.rd R.HIF_STATUS_BME = 0 ∧ t.hif.memOn = false ∧ t.hif.busOn = false
        ∧ t.hif.msixOn = false ∧ t.rd R.HIF_INTSTAT_LINKDOWN = 1
        ∧ (∀ p ∈ s.hif.queues, s.qState p.1 = 1 → p.1 < 4096 → t.qState p.1 = 2) ∧ KeepsFlash s t
        ∧ ((∀ i : Fin 31, (s.bulk (32 + i.val)).descs = []) → KeepsHbm s t)) := by
  obtain ⟨hspeed, hwidth, hbme, hdown⟩ := (s.cutAll true).linkCut_rd
  have hhif : (s.cutAll true).linkCut.settle.hif = _ := (State.settle_hif _).trans State.linkCut_hif
  have hexec : exec .linkDown s = (s.cutAll true).linkCut.done := congrArg State.done (State.pcieDown_of_up h)
  have hthen : Only 0x49000003840000 (s.cutAll true) (s.cutAll true).linkCut.settle :=
    ((Only.refl ..).app State.linkCut_only (by decide)).app (State.settle_only _) (by decide)
  refine completes_of_done hexec ⟨?_, ?_, ?_, ?_, ?_, ?_, ?_, fun p hp ho _ => ?_, ?_, fun hidle => ?_⟩
  · rw [State.settle_rd _ _ (by decide) (by decide), hspeed]
  · rw [State.settle_rd _ _ (by decide) (by decide), hwidth]
  · rw [State.settle_rd _ _ (by decide) (by decide), hbme]
  · rw [hhif]
    rfl
  · rw [hhif]
    rfl
  · rw [hhif]
    rfl
  · rw [State.settle_rd _ _ (by decide) (by decide), hdown]
  · obtain ⟨-, hoff⟩ := qstate_apart p.1
    rw [State.qState, State.settle_rd _ _ hoff.1 hoff.2]
    refine State.linkCut_qState ?_ ?_
    · rw [State.cutAll_queues]
      exact List.mem_map_of_mem (f := Prod.fst) hp
    · rw [State.qState, (State.cutAll_only s true).rd _ (by rw [blk_HIF_QSTATE_STATE]; decide)]
      exact ho
  · exact ((State.cutAll_only s true).mono (n := 0xd90000038c0000) (by decide) |>.trans
      (hthen.mono (by decide))).keepsFlash (by decide)
  · obtain ⟨n, hn⟩ := State.cutAll_of_idle hidle true
    have hkeeps := (hthen.keepsMemory (by decide) (by decide)).1
    rw [hn] at hkeeps ⊢
    exact hkeeps

theorem linkDown_idle (h : s.rd R.HIF_STATUS_SPEED = 0) : Completes .linkDown s (fun t => t.hif = s.hif ∧ Frame [] s t) := by
  have hexec : exec .linkDown s = s.done := congrArg State.done (if_pos h)
  exact completes_of_done hexec ⟨State.settle_hif s, (Frame.refl [] s).settle⟩

theorem linkUp_rises {speed width : BitVec 3} (hperst : s.boot.perstHi = true) (hpow : s.boot.powered = true)
    (hporn : s.boot.pornLow = false) (h : s.rd R.HIF_STATUS_SPEED = 0) (hlo : 1 ≤ speed.toNat) (hhi : speed.toNat ≤ 5)
    (hw : width.toNat ≤ 4) : Completes (.linkUp speed width) s (fun t =>
      t.rd R.HIF_STATUS_SPEED = speed.toNat ∧ t.rd R.HIF_STATUS_WIDTH = 2 ^ width.toNat ∧ t.rd R.HIF_INTSTAT_LINKUP = 1
        ∧ Frame [R.HIF_STATUS_SPEED, R.HIF_STATUS_WIDTH, R.HIF_INTSTAT_LINKUP] s t) := by
  have hlanes : 2 ^ width.toNat < 2 ^ 5 := Nat.pow_lt_pow_right (by decide) (Nat.lt_succ_of_le hw)
  have hexec : exec (.linkUp speed width) s =
      (((s.wr R.HIF_STATUS_SPEED speed.toNat).wr R.HIF_STATUS_WIDTH (2 ^ width.toNat)).flag R.HIF_INTSTAT_LINKUP).done :=
    if_pos (by simp [hperst, hpow, hporn, h, hlo, hhi, hw])
  refine completes_of_done hexec ⟨?_, ?_, ?_, ((((Frame.refl ..).wr (by decide)).wr (by decide)).wr (by decide)).settle⟩
  · rw [State.settle_rd _ _ (by decide) (by decide), State.rd_flag, if_neg (by decide), State.rd_wr_ne _ _ _ _ (by decide), State.rd_wr_same]
    exact Nat.mod_eq_of_lt speed.isLt
  · rw [State.settle_rd _ _ (by decide) (by decide), State.rd_flag, if_neg (by decide), State.rd_wr_same]
    exact Nat.mod_eq_of_lt hlanes
  · rw [State.settle_rd _ _ (by decide) (by decide), State.rd_flag, if_pos rfl]
    rfl

end

/-! ### BUS_MASTER_DISABLE (R373) -/

section
variable {s : State}

theorem State.speed_of_partUp (h : s.partUp = true) : s.rd R.HIF_STATUS_SPEED ≠ 0 := by
  unfold State.partUp at h
  simp only [Bool.and_eq_true] at h
  exact bne_iff_ne.mp h.2

theorem busMasterDisable_stops (h : s.partUp = true) : Completes (.busMasterDisable false []) s (fun t =>
      t.hif = { s.hif with busOn := false } ∧ t.rd R.HIF_STATUS_BME = 0 ∧ Frame [R.HIF_STATUS_BME] s t) := by
  have hexec : exec (.busMasterDisable false []) s = ((s.onHif (fun h => { h with busOn := false })).wr R.HIF_STATUS_BME 0).done :=
    if_neg (by rw [h]; decide)
  refine completes_of_done hexec ⟨State.settle_hif _, ?_, (((Frame.refl _ s).onHif _).wr (by decide)).settle⟩
  rw [State.settle_rd _ _ (by decide) (by decide)]
  exact State.rd_wr_same _ R.HIF_STATUS_BME 0

/-- A copy that is cut off leaves its channel and is owed its completion. -/
theorem State.cutDesc_of_one {c : Nat} {d : Desc} (hr : s.bulkRuns c = true) (hm : s.rd (R.PUR_CHCFG_MODE c) = 0)
    (hd : (s.bulk c).descs = [d]) (ho : (s.bulk c).owed = []) {r : Nat} (hle : r ≤ d.len) :
    ((s.cutDesc c r).bulk c).descs = [] ∧ ((s.cutDesc c r).bulk c).owed = [(d.id, r, 0, d.irq)] := by
  have hcopy : (s.cutMoved c d r).2 = 0 := if_neg (by simp [State.on, hm])
  have hmoved : (s.cutMoved c d r).1.bulk c = s.bulk c :=
    congrArg (fun m => mapGet BulkChan.zero m c) (congrArg HifState.bulk (s.cutMoved_apart c d r) :)
  have hcut : (s.cutDesc c r).bulk c = (BulkChan.owing d r (s.cutMoved c d r).2 (s.bulk c)).popped := by
    rw [s.cutDesc_of_runs hd hr, State.bulk, State.popDesc_hif, ← State.bulk, State.setBulk_bulk, State.bulk, State.bulkBad_hif, ← State.bulk,
      State.setBulk_bulk, hmoved]
  rw [hcut, hcopy]
  unfold BulkChan.popped BulkChan.owing
  rw [hd, ho, Nat.min_eq_left hle]
  exact ⟨rfl, rfl⟩

/-- A descriptor that ends badly, its bytes not all moved, sets DESCERR. -/
theorem State.bulkBad_descerr (c : Nat) : (s.bulkBad c 4 false).rd R.PUR_INTSTAT_DESCERR = 1 := by
  have hbad : s.bulkBad c 4 false = (s.bump (R.PUR_CHERR_ERRS c) 1).fault R.PUR_INTSTAT_DESCERR 1 c := rfl
  rw [hbad, State.fault_rd _ _ _ _ _ (by decide) (by decide), if_pos rfl]
  rfl

/-- Purlin's flags stand apart from a channel's status. -/
theorem descerr_apart (c : Nat) :
    R.PUR_INTSTAT_DESCERR.key ≠ (R.PUR_CHSTAT_HEAD c).key ∧ R.PUR_INTSTAT_DESCERR.key ≠ (R.PUR_CHSTAT_STATE c).key := by
  simp only [R.PUR_INTSTAT_DESCERR, R.PUR_CHSTAT_HEAD, R.PUR_CHSTAT_STATE]
  omega

theorem State.popDesc_descerr (c : Nat) : (s.popDesc c).rd R.PUR_INTSTAT_DESCERR = s.rd R.PUR_INTSTAT_DESCERR := by
  obtain ⟨hhead, hstate⟩ := descerr_apart c
  have hcount (u : State) : (u.count (R.PUR_CHSTAT_HEAD c) 1).rd R.PUR_INTSTAT_DESCERR = u.rd R.PUR_INTSTAT_DESCERR := by
    rw [State.rd_count, if_neg hhead]
  unfold State.popDesc
  dsimp only
  split
  · rw [State.rd_flag, if_neg (by decide), State.rd_wr_ne _ _ _ _ hstate, hcount]
    rfl
  · rw [hcount]
    rfl

theorem busMasterDisable_cuts {c : Fin 32} {r : Nat} {d : Desc} (h : s.partUp = true) (hr : s.bulkRuns (32 + c.val) = true)
    (hm : s.rd (R.PUR_CHCFG_MODE (32 + c.val)) = 0) (hd : (s.bulk (32 + c.val)).descs = [d]) (ho : (s.bulk (32 + c.val)).owed = [])
    (hpos : 0 < r) (hle : r ≤ d.len) : Completes (.busMasterDisable true [(c, r)]) s (fun t =>
      t.hif.d3 = true ∧ t.rd R.HIF_STATUS_D3 = 1 ∧ (t.bulk (32 + c.val)).descs = []
        ∧ (t.bulk (32 + c.val)).owed = [(d.id, r, 0, d.irq)] ∧ t.rd R.PUR_INTSTAT_DESCERR = 1) := by
  set u := ((s.cutDesc (32 + c.val) r).onHif (fun h => { h with d3 := true })).wr R.HIF_STATUS_D3 1 with hu
  have hexec : exec (.busMasterDisable true [(c, r)]) s = u.done := by
    refine (if_neg (by rw [h]; decide)).trans ?_
    rfl
  obtain ⟨hdescs, howed⟩ := State.cutDesc_of_one hr hm hd ho hle
  have hbulk : u.settle.bulk (32 + c.val) = (s.cutDesc (32 + c.val) r).bulk (32 + c.val) :=
    (congrArg (fun k : HifState => mapGet BulkChan.zero k.bulk (32 + c.val)) (State.settle_hif u) :)
  have hlate : (min r d.len == 0) = false := by simp; omega
  refine completes_of_done hexec ⟨?_, ?_, ?_, ?_, ?_⟩
  · rw [State.settle_hif]
    rfl
  · rw [State.settle_rd _ _ (by decide) (by decide), hu]
    exact State.rd_wr_same _ R.HIF_STATUS_D3 1
  · rw [hbulk, hdescs]
  · rw [hbulk, howed]
  · rw [State.settle_rd _ _ (by decide) (by decide), hu, State.rd_wr_ne _ _ _ _ (by decide), State.onHif_rd, s.cutDesc_of_runs hd hr,
      State.popDesc_descerr, hlate, State.bulkBad_descerr]

/-! ### WEDGE (R404) -/

/-- A field that is raised, with the wedge that it stands for. -/
def State.wedged (s : State) (f : Fld) (v unit : Nat) : State := (s.wr f v).fault R.HIF_INTSTAT_WEDGE 3 unit

/-- A wedge marks its object and is flagged. -/
theorem State.wedged_marks {f : Fld} (hf : ∀ g ∈ linkFlds, f.key ≠ g.key) (hoff : OffSummary f.key) {v : Nat} (hv : v < 2 ^ f.width)
    (unit : Nat) :
    (s.wedged f v unit).settle.rd f = v ∧ (s.wedged f v unit).settle.rd R.HIF_INTSTAT_WEDGE = 1
      ∧ (s.wedged f v unit).settle.hif = s.hif
      ∧ Frame (f :: R.HIF_INTSTAT_WEDGE :: reportFlds) s (s.wedged f v unit).settle := by
  refine ⟨?_, ?_, ?_, (((Frame.refl ..).wr List.mem_cons_self).fault (List.mem_cons_of_mem _ List.mem_cons_self)
    (List.subset_cons_of_subset _ (List.subset_cons_self ..))).settle⟩
  · rw [State.settle_rd _ _ hoff.1 hoff.2, State.wedged, State.fault_rd _ _ _ _ _ (hf _ (by decide)) (hf _ (by decide)),
      if_neg (hf _ (by decide)), State.rd_wr_same, Nat.mod_eq_of_lt hv]
  · rw [State.settle_rd _ _ (by decide) (by decide), State.wedged, State.fault_rd _ _ _ _ _ (by decide) (by decide), if_pos rfl]
    rfl
  · rw [State.settle_hif, State.wedged, State.fault_hif, State.wr_hif]

theorem ringWedged_apart (r : Nat) :
    (∀ f ∈ linkFlds, (R.HIF_CRSTAT_WEDGED r).key ≠ f.key) ∧ OffSummary (R.HIF_CRSTAT_WEDGED r).key := by
  simp only [R.HIF_CRSTAT_WEDGED, OffSummary, R.GLB_INTCTL_ARMED]
  exact ⟨linkFlds_apart (by omega) (by omega), by omega, by omega⟩

theorem channelWedged_apart (c : Nat) :
    (∀ f ∈ linkFlds, (R.PUR_CHSTAT_WEDGED c).key ≠ f.key) ∧ OffSummary (R.PUR_CHSTAT_WEDGED c).key := by
  simp only [R.PUR_CHSTAT_WEDGED, OffSummary, R.GLB_INTCTL_ARMED]
  exact ⟨linkFlds_apart (by omega) (by omega), by omega, by omega⟩

theorem wedge_queue {q : Fin 4096} (hq : s.qState q.val = 1) (hc : (s.queue q.val).bind (·.closing) = none) :
    Completes (.wedge (.queue q)) s (fun t =>
      t.qState q.val = 3 ∧ t.rd R.HIF_INTSTAT_WEDGE = 1 ∧ Frame (R.HIF_QSTATE_STATE q.val :: R.HIF_INTSTAT_WEDGE :: reportFlds) s t) := by
  have hexec : exec (.wedge (.queue q)) s = (s.wedged (R.HIF_QSTATE_STATE q.val) 3 q.val).done := by
    have hwedge : exec (.wedge (.queue q)) s = execWedge (.queue q) s := rfl
    rw [hwedge, execWedge, hq, hc]
    rfl
  obtain ⟨hapart, hoff⟩ := qstate_apart q.val
  obtain ⟨hstate, hflag, -, hframe⟩ := State.wedged_marks (s := s) hapart hoff (show 3 < 2 ^ 2 by decide) q.val
  exact completes_of_done hexec ⟨hstate, hflag, hframe⟩

theorem wedge_ring {r : Fin 16} (hen : s.rd (R.HIF_CRCFG_EN r.val) = 1) (hw : s.rd (R.HIF_CRSTAT_WEDGED r.val) = 0) :
    Completes (.wedge (.ring r)) s (fun t =>
      t.rd (R.HIF_CRSTAT_WEDGED r.val) = 1 ∧ t.rd R.HIF_INTSTAT_WEDGE = 1 ∧ t.hif = s.hif
        ∧ Frame (R.HIF_CRSTAT_WEDGED r.val :: R.HIF_INTSTAT_WEDGE :: reportFlds) s t) := by
  have hexec : exec (.wedge (.ring r)) s = (s.wedged (R.HIF_CRSTAT_WEDGED r.val) 1 r.val).done := if_pos (by simp [State.on, hen, hw])
  obtain ⟨hapart, hoff⟩ := ringWedged_apart r.val
  exact completes_of_done hexec (State.wedged_marks hapart hoff (show 1 < 2 ^ 1 by decide) r.val)

theorem wedge_channel {c : Fin 32} (hrun : s.rd (R.PUR_CHCFG_RUN (32 + c.val)) = 1) (hw : s.rd (R.PUR_CHSTAT_WEDGED (32 + c.val)) = 0) :
    Completes (.wedge (.channel c)) s (fun t =>
      t.rd (R.PUR_CHSTAT_WEDGED (32 + c.val)) = 1 ∧ t.rd R.HIF_INTSTAT_WEDGE = 1
        ∧ Frame (R.PUR_CHSTAT_WEDGED (32 + c.val) :: R.HIF_INTSTAT_WEDGE :: reportFlds) s t) := by
  have hexec : exec (.wedge (.channel c)) s = (s.wedged (R.PUR_CHSTAT_WEDGED (32 + c.val)) 1 (32 + c.val)).done :=
    if_pos (by simp [State.on, hrun, hw])
  obtain ⟨hapart, hoff⟩ := channelWedged_apart (32 + c.val)
  obtain ⟨hmark, hflag, -, hframe⟩ := State.wedged_marks (s := s) hapart hoff (show 1 < 2 ^ 1 by decide) (32 + c.val)
  exact completes_of_done hexec ⟨hmark, hflag, hframe⟩

/-! ### LATH_DROP (R403) -/

theorem State.dropPacket_flag (inbound : Bool) : (s.dropPacket inbound).rd R.HIF_INTSTAT_LATHDROP = 1 := by
  have hinj (u : State) (inj : Bool) : (u.faultInj R.HIF_INTSTAT_LATHDROP 1 0 inj).rd R.HIF_INTSTAT_LATHDROP = 1 := by
    unfold State.faultInj
    split
    · rw [State.reportInj, State.rd_flag, if_neg (by decide), State.report_rd _ _ _ _ _ _ _ (by decide) (by decide), State.rd_flag,
        if_pos rfl]
      rfl
    · rw [State.fault_rd _ _ _ _ _ (by decide) (by decide), if_pos rfl]
      rfl
  unfold State.dropPacket
  exact (State.when_keeps (State.rd · R.HIF_INTSTAT_LATHDROP) rfl).trans (hinj _ _)

theorem lathDrop_aborts (hinj : s.flt.injLath = false) : Completes (.lathDrop .inboundRead) s (fun t =>
      Emit.abort ∈ t.out ∧ t.rd R.HIF_LATHDROP_CNT = min (s.rd R.HIF_LATHDROP_CNT + 1) (2 ^ R.HIF_LATHDROP_CNT.width - 1)
        ∧ t.rd R.HIF_INTSTAT_LATHDROP = 1 ∧ t.hif = s.hif ∧ Frame (R.HIF_LATHDROP_CNT :: R.HIF_INTSTAT_LATHDROP :: reportFlds) s t) := by
  set u := (s.bump R.HIF_LATHDROP_CNT 1).fault R.HIF_INTSTAT_LATHDROP 1 0 with hu
  have hdrop : s.dropPacket true = u := by
    unfold State.dropPacket
    rw [hinj]
    rfl
  have hexec : exec (.lathDrop .inboundRead) s = (u.emit .abort).done := by rw [← hdrop]; rfl
  have hframe : Frame (R.HIF_LATHDROP_CNT :: R.HIF_INTSTAT_LATHDROP :: reportFlds) s u :=
    ((Frame.refl ..).bump (by decide)).fault (by decide) (by decide)
  have hflag := s.dropPacket_flag true
  rw [hdrop] at hflag
  refine completes_of_done hexec ⟨State.settle_out _ List.mem_cons_self, ?_, ?_, ?_, (hframe.emit _).settle⟩
  · rw [State.settle_rd _ _ (by decide) (by decide), State.emit_rd, hu, State.fault_rd _ _ _ _ _ (by decide) (by decide), if_neg (by decide),
      State.rd_bump, if_pos rfl]
    exact Nat.mod_eq_of_lt (Nat.lt_of_le_of_lt (Nat.min_le_right ..) (by decide))
  · rw [State.settle_rd _ _ (by decide) (by decide), State.emit_rd, hflag]
  · rw [State.settle_hif, State.emit_hif, hu, State.fault_hif]
    rfl

theorem lathdrop_apart (r : Nat) :
    (∀ f ∈ frontFlds r, R.HIF_INTSTAT_LATHDROP.key ≠ f.key) ∧ R.HIF_INTSTAT_LATHDROP.key ≠ (R.HIF_CRLASTLO_CID r).key
      ∧ R.HIF_INTSTAT_LATHDROP.key ≠ (R.HIF_CRLASTHI_CID r).key := by
  simp only [frontFlds, reportFlds, List.cons_append, List.nil_append, List.forall_mem_cons, List.not_mem_nil, R.HIF_INTSTAT_LATHDROP,
    R.HIF_CRSTAT_BUSY, R.HIF_CRSTAT_OPCODE, R.PUR_KIB_CNT, R.HIF_INTSTAT_CMDERR, R.FLT_OVERFLOW_CNT, R.FLT_INTSTAT_OVERFLOW,
    R.HIF_CRLASTLO_CID, R.HIF_CRLASTHI_CID, false_implies, implies_true, and_true]
  omega

theorem lathDrop_fails {r : Fin 16} {e : BitVec 512} (hone : (s.cmdRing r.val).fetched = [e]) (hruns : s.ringRuns r.val = true)
    (hheld : s.ringHeld r.val = false) (hagain : mapGet 0 s.hif.redone r.val = cmdCid e) :
    Completes (.lathDrop (.commandFetch r)) s (fun t =>
      ((t.cmdRing r.val).done.head?) = some (cmdCid e, stDmaErr, failRes e) ∧ (t.cmdRing r.val).fetched = []
        ∧ t.rd R.HIF_INTSTAT_LATHDROP = 1 ∧ KeepsMemory s t) := by
  have hhif : (s.dropPacket true).hif = s.hif := (State.dropPacket_only s true).hif.resolve_left (by decide)
  set u := (s.dropPacket true).onHif (fun h => { h with redone := mapErase h.redone r.val }) with hu
  have hdropped : (s.dropPacket true).droppedAgain r.val (cmdCid e) = (true, u) := if_pos (by rw [hhif]; exact hagain)
  have hfetched : (u.cmdRing r.val).fetched = [e] := by
    have hring : u.cmdRing r.val = s.cmdRing r.val := 
      (congrArg (fun k : HifState => mapGet CmdRing.zero k.rings r.val) hhif :)
    rw [hring, hone]
  have hexec : exec (.lathDrop (.commandFetch r)) s = (u.complete r.val e stDmaErr (failRes e)).done := by
    have hlath : exec (.lathDrop (.commandFetch r)) s = execLathDrop (.commandFetch r) s := rfl
    rw [hlath, execLathDrop, hone]
    dsimp only
    rw [hdropped, hruns, hheld]
    rfl
  obtain ⟨-, -, hempty, -, hdone⟩ := State.complete_eq hfetched stDmaErr (failRes e)
  obtain ⟨hfront, hlo, hhi⟩ := lathdrop_apart r.val
  have honly : Only 0x490000038c0000 s (u.complete r.val e stDmaErr (failRes e)).settle := by
    have hbefore : Only 0x9000000840000 s u :=
      ((Only.refl ..).app (State.dropPacket_only ..) (by decide)).app (State.onHif_only ..) (by decide)
    exact (hbefore.mono (by decide)).trans (State.complete_settle_only ..)
  refine completes_of_done hexec ⟨?_, ?_, ?_, ?_⟩
  · rw [State.settle_cmdRing, hdone]
    rfl
  · rw [State.settle_cmdRing, hempty]
  · rw [State.complete_settle_rd hfetched _ _ _ hfront (by decide), State.execNoted_rd _ _ _ _ _ _ (by decide) hlo hhi]
    exact s.dropPacket_flag true
  · exact honly.keepsMemory (by decide) (by decide)

/-! ### Removed lanes (R457) -/

/-- A lane is out and the fault log knows. -/
def State.laneOutNoted (s : State) (lane : Nat) : State :=
  ((s.wr R.FLT_PCIE_LANEOUT (putBit (s.rd R.FLT_PCIE_LANEOUT) lane true)).flag R.FLT_INTSTAT_LANEOUT).reportFree 0x23 1 2 lane

theorem State.laneOutNoted_rd {f : Fld} (hf : ∀ g ∈ reportFlds, f.key ≠ g.key) (hl : f.key ≠ R.FLT_INTSTAT_LANEOUT.key) (lane : Nat) :
    (s.laneOutNoted lane).rd f = (s.wr R.FLT_PCIE_LANEOUT (putBit (s.rd R.FLT_PCIE_LANEOUT) lane true)).rd f := by
  rw [State.laneOutNoted, State.reportFree_rd _ _ _ _ _ _ (hf _ (by decide)) (hf _ (by decide)), State.rd_flag, if_neg hl]

/-- The lane removed shows. -/
theorem State.laneOutNoted_lane (lane : Fin 16) : ((s.laneOutNoted lane.val).rd R.FLT_PCIE_LANEOUT).testBit lane.val = true := by
  rw [State.laneOutNoted_rd (by decide) (by decide), State.rd_wr_same]
  show (putBit (s.rd R.FLT_PCIE_LANEOUT) lane.val true % 2 ^ 16).testBit lane.val = true
  rw [Nat.testBit_mod_two_pow, putBit, if_pos rfl, Nat.testBit_or, Nat.testBit_two_pow_self]
  simp

theorem State.laneOutNoted_flag (lane : Nat) : (s.laneOutNoted lane).rd R.FLT_INTSTAT_LANEOUT = 1 := by
  rw [State.laneOutNoted, State.reportFree_rd _ _ _ _ _ _ (by decide) (by decide), State.rd_flag, if_pos rfl]
  rfl

theorem State.laneOutNoted_frame (lane : Nat) :
    Frame ([R.FLT_PCIE_LANEOUT, R.FLT_INTSTAT_LANEOUT] ++ reportFlds) s (s.laneOutNoted lane) :=
  (((Frame.refl ..).wr (by decide)).wr (by decide)).report _ _ _ _ _ (by decide)

/-- A lane still in of a link that is up is removed. -/
theorem exec_pcieLaneRemove {lane : Fin 16} (hup : s.rd R.HIF_STATUS_SPEED ≠ 0)
    (hin : (s.rd R.FLT_PCIE_LANEOUT).testBit lane.val = false) : exec (.pcieLaneRemove lane) s =
      (match widthWithout (putBit (s.rd R.FLT_PCIE_LANEOUT) lane.val true) (s.rd R.HIF_STATUS_WIDTH) with
        | some k => (s.laneOutNoted lane.val).wr R.HIF_STATUS_WIDTH k
        | none => (s.laneOutNoted lane.val).pcieDown).done := if_neg (by rw [hin]; simp [hup])

/-- The widths are powers of two up to 16. -/
theorem widthWithout_lt {out w k : Nat} (h : widthWithout out w = some k) : k < 32 := by
  have hmem := List.mem_of_find?_eq_some h
  revert hmem
  have hall : ∀ n ∈ [16, 8, 4, 2, 1], n < 32 := by decide
  exact hall k

theorem pcieLaneRemove_narrows {lane : Fin 16} {k : Nat} (hup : s.rd R.HIF_STATUS_SPEED ≠ 0)
    (hin : (s.rd R.FLT_PCIE_LANEOUT).testBit lane.val = false)
    (hk : widthWithout (putBit (s.rd R.FLT_PCIE_LANEOUT) lane.val true) (s.rd R.HIF_STATUS_WIDTH) = some k) :
    Completes (.pcieLaneRemove lane) s (fun t =>
      (t.rd R.FLT_PCIE_LANEOUT).testBit lane.val = true ∧ t.rd R.HIF_STATUS_WIDTH = k ∧ t.rd R.FLT_INTSTAT_LANEOUT = 1 ∧ t.hif = s.hif
        ∧ Frame ([R.FLT_PCIE_LANEOUT, R.HIF_STATUS_WIDTH, R.FLT_INTSTAT_LANEOUT] ++ reportFlds) s t) := by
  have hexec := exec_pcieLaneRemove hup hin
  rw [hk] at hexec
  have hframe : Frame ([R.FLT_PCIE_LANEOUT, R.HIF_STATUS_WIDTH, R.FLT_INTSTAT_LANEOUT] ++ reportFlds) s
      ((s.laneOutNoted lane.val).wr R.HIF_STATUS_WIDTH k) := ((State.laneOutNoted_frame _).mono (by decide)).wr (by decide)
  refine completes_of_done hexec ⟨?_, ?_, ?_, ?_, hframe.settle⟩
  · rw [State.settle_rd _ _ (by decide) (by decide), State.rd_wr_ne _ _ _ _ (by decide)]
    exact State.laneOutNoted_lane lane
  · rw [State.settle_rd _ _ (by decide) (by decide), State.rd_wr_same]
    exact Nat.mod_eq_of_lt (widthWithout_lt hk)
  · rw [State.settle_rd _ _ (by decide) (by decide), State.rd_wr_ne _ _ _ _ (by decide), State.laneOutNoted_flag]
  · rw [State.settle_hif, State.wr_hif, State.laneOutNoted, (State.reportFree_only ..).hif.resolve_left (by decide)]
    rfl

theorem pcieLaneRemove_loses {lane : Fin 16} (hup : s.rd R.HIF_STATUS_SPEED ≠ 0)
    (hin : (s.rd R.FLT_PCIE_LANEOUT).testBit lane.val = false)
    (hk : widthWithout (putBit (s.rd R.FLT_PCIE_LANEOUT) lane.val true) (s.rd R.HIF_STATUS_WIDTH) = none) :
    Completes (.pcieLaneRemove lane) s (fun t =>
      (t.rd R.FLT_PCIE_LANEOUT).testBit lane.val = true ∧ t.rd R.HIF_STATUS_SPEED = 0 ∧ t.rd R.HIF_INTSTAT_LINKDOWN = 1) := by
  have hstill : (s.laneOutNoted lane.val).rd R.HIF_STATUS_SPEED ≠ 0 := by
    rw [State.laneOutNoted_rd (by decide) (by decide), State.rd_wr_ne _ _ _ _ (by decide)]
    exact hup
  have hexec := exec_pcieLaneRemove hup hin
  rw [hk] at hexec
  dsimp only at hexec
  rw [State.pcieDown_of_up hstill] at hexec
  obtain ⟨hspeed, -, -, hdown⟩ := ((s.laneOutNoted lane.val).cutAll true).linkCut_rd
  refine completes_of_done hexec ⟨?_, ?_, ?_⟩
  · rw [State.settle_rd _ _ (by decide) (by decide), State.linkCut_lanes, State.cutAll_lanes]
    exact State.laneOutNoted_lane lane
  · rw [State.settle_rd _ _ (by decide) (by decide), hspeed]
  · rw [State.settle_rd _ _ (by decide) (by decide), hdown]

/-! ### Configuration requests (R59, R373) -/

theorem config_retried (c : ConfigRequest) (hup : s.rd R.HIF_STATUS_SPEED ≠ 0) (h : s.partUp = false) :
    Completes (.configurationRequest c) s (fun t => Emit.cfgRetry ∈ t.out ∧ t.hif = s.hif ∧ Frame [] s t) := by
  have hexec : exec (.configurationRequest c) s = (s.emit .cfgRetry).done :=
    (if_neg hup).trans (if_pos (by rw [h]; rfl))
  exact completes_of_done hexec ⟨State.settle_out _ List.mem_cons_self, State.settle_hif _, ((Frame.refl [] s).emit _).settle⟩

theorem config_read (n : BitVec 10) (h : s.partUp = true) : Completes (.configurationRequest (.read n)) s (fun t =>
      Emit.cfgData n.toNat (s.cfgRead n.toNat) ∈ t.out ∧ t.hif = s.hif ∧ Frame [] s t) := by
  have hexec : exec (.configurationRequest (.read n)) s = (s.emit (.cfgData n.toNat (s.cfgRead n.toNat))).done :=
    (if_neg (State.speed_of_partUp h)).trans (if_neg (by rw [h]; decide))
  exact completes_of_done hexec ⟨State.settle_out _ List.mem_cons_self, State.settle_hif _, ((Frame.refl [] s).emit _).settle⟩

/-- A request that only changes the host link's record is answered. -/
theorem config_taken {c : ConfigRequest} {f : HifState → HifState} {l : List Fld} {u : State}
    (hexec : exec (.configurationRequest c) s = u.done) (hhif : u.hif = f s.hif) (hout : Emit.cfgOk ∈ u.out) (hframe : Frame l s u) :
    Completes (.configurationRequest c) s (fun t => t.hif = f s.hif ∧ Emit.cfgOk ∈ t.out ∧ Frame l s t) :=
  completes_of_done hexec ⟨(State.settle_hif u).trans hhif, State.settle_out _ hout, hframe.settle⟩

theorem config_control (payload readRequest : BitVec 3) (h : s.partUp = true) :
    Completes (.configurationRequest (.control payload readRequest)) s (fun t =>
      t.hif = { s.hif with mps := payload, mrrs := readRequest } ∧ Emit.cfgOk ∈ t.out ∧ Frame [] s t) :=
  config_taken (f := fun h => { h with mps := payload, mrrs := readRequest })
    (u := (s.emit .cfgOk).onHif (fun h => { h with mps := payload, mrrs := readRequest }))
    ((if_neg (State.speed_of_partUp h)).trans (if_neg (by rw [h]; decide))) rfl List.mem_cons_self (((Frame.refl [] s).emit _).onHif _)

theorem config_control2 (b g : Bool) (h : s.partUp = true) : Completes (.configurationRequest (.control2 b g)) s (fun t =>
      t.hif = { s.hif with rangeB := b, tags10 := g } ∧ Emit.cfgOk ∈ t.out ∧ Frame [] s t) :=
  config_taken (f := fun h => { h with rangeB := b, tags10 := g })
    (u := (s.emit .cfgOk).onHif (fun h => { h with rangeB := b, tags10 := g }))
    ((if_neg (State.speed_of_partUp h)).trans (if_neg (by rw [h]; decide))) rfl List.mem_cons_self (((Frame.refl [] s).emit _).onHif _)

/-- Pending messages that leave take nothing back of what has left. -/
theorem State.flushMsix_out : s.out ⊆ s.flushMsix.out := by
  refine List.foldlRecOn (motive := fun t : State => s.out ⊆ t.out) (List.range 2048) _ (fun _ he => he) fun t ht v _ => ?_
  split
  · exact List.Subset.trans ht (State.msix_out (t.wr (R.MSIX_PENDING v) 0) v)
  · exact ht

theorem config_msix (m : Bool) (h : s.partUp = true) : Completes (.configurationRequest (.msix true m)) s (fun t =>
      t.hif.msixOn = true ∧ t.hif.funcMask = m ∧ Emit.cfgOk ∈ t.out ∧ KeepsMemory s t) := by
  set u := (s.emit .cfgOk).onHif (fun h => { h with msixOn := true, funcMask := m }) with hu
  have hexec : exec (.configurationRequest (.msix true m)) s = u.flushMsix.done :=
    (if_neg (State.speed_of_partUp h)).trans (if_neg (by rw [h]; decide))
  have hhif : u.flushMsix.settle.hif = u.hif := (State.settle_hif _).trans ((State.flushMsix_only u).hif.resolve_left (by decide))
  have hframe : Frame [] s u := ((Frame.refl [] s).emit _).onHif _
  have hthen : Only 0x40000003000000 u u.flushMsix.settle :=
    ((Only.refl ..).app (State.flushMsix_only _) (by decide)).app (State.settle_only _) (by decide)
  obtain ⟨hhbm, hflash⟩ := hthen.keepsMemory (by decide) (by decide)
  refine completes_of_done hexec ⟨?_, ?_, State.settle_out _ (State.flushMsix_out (List.mem_cons_self)), fun a => (hhbm a).trans
    (hframe.2.1 a), fun a => (hflash a).trans (hframe.2.2 a)⟩
  · rw [hhif]
    rfl
  · rw [hhif]
    rfl

/-- Requests that may not be issued do not resume. -/
theorem State.resumeDma_of_off (h : s.dmaOn = false) : s.resumeDma = s := if_neg (by rw [h]; decide)

/-- With no descriptor in progress a configuration write that takes bus mastering away only draws the residues. -/
theorem State.cutAll_answered (hidle : ∀ i : Fin 31, (s.bulk (32 + i.val)).descs = []) :
    ∃ n, (s.emit .cfgOk).cutAll true = { s.emit .cfgOk with fresh := n } := State.cutAll_of_idle (s := s.emit .cfgOk) hidle true

/-- A configuration write that takes bus mastering or D0 away while nothing runs. -/
theorem config_stopped {c : ConfigRequest} {f : HifState → HifState} {g : Fld} {b : Bool}
    (hidle : ∀ i : Fin 31, (s.bulk (32 + i.val)).descs = [])
    (hexec : exec (.configurationRequest c) s = ((((s.emit .cfgOk).cutAll true).onHif f).wrB g b).resumeDma.done)
    (hoff : ((f s.hif).busOn && !(f s.hif).d3) = false) (hw : g.width = 1) (hs : OffSummary g.key) :
    Completes (.configurationRequest c) s (fun t => t.hif = f s.hif ∧ t.rd g = b.toNat ∧ Emit.cfgOk ∈ t.out ∧ Frame [g] s t) := by
  obtain ⟨n, hn⟩ := State.cutAll_answered hidle
  set u := (({ s.emit .cfgOk with fresh := n } : State).onHif f).wrB g b with hu
  have hdma : u.dmaOn = false := by
    have hhif : u.hif = f s.hif := rfl
    rw [State.dmaOn, Bool.and_assoc, hhif, hoff, Bool.and_false]
  rw [hn, ← hu, State.resumeDma_of_off hdma] at hexec
  have hdrawn : Frame [g] s { s.emit .cfgOk with fresh := n } := ⟨fun _ _ _ => rfl, fun _ => rfl, fun _ => rfl⟩
  refine completes_of_done hexec ⟨State.settle_hif u, ?_, State.settle_out u List.mem_cons_self,
    ((hdrawn.onHif f).wr (List.mem_singleton_self g)).settle⟩
  rw [State.settle_rd _ _ hs.1 hs.2, hu, State.rd_wrB_same _ _ hw]

theorem config_command (m : Bool) (h : s.partUp = true) (hidle : ∀ i : Fin 31, (s.bulk (32 + i.val)).descs = []) :
    Completes (.configurationRequest (.command m false)) s (fun t =>
      t.hif = { s.hif with memOn := m, busOn := false } ∧ t.rd R.HIF_STATUS_BME = 0 ∧ Emit.cfgOk ∈ t.out
        ∧ Frame [R.HIF_STATUS_BME] s t) :=
  config_stopped (f := fun h => { h with memOn := m, busOn := false }) (g := R.HIF_STATUS_BME) (b := false) hidle
    ((if_neg (State.speed_of_partUp h)).trans (if_neg (by rw [h]; decide))) rfl rfl (by unfold OffSummary; decide)

theorem config_power (h : s.partUp = true) (hidle : ∀ i : Fin 31, (s.bulk (32 + i.val)).descs = []) :
    Completes (.configurationRequest (.power true)) s (fun t =>
      t.hif = { s.hif with d3 := true } ∧ t.rd R.HIF_STATUS_D3 = 1 ∧ Emit.cfgOk ∈ t.out ∧ Frame [R.HIF_STATUS_D3] s t) :=
  config_stopped (f := fun h => { h with d3 := true }) (g := R.HIF_STATUS_D3) (b := true) hidle
    ((if_neg (State.speed_of_partUp h)).trans (if_neg (by rw [h]; decide))) (Bool.and_false _) rfl (by unfold OffSummary; decide)

end

/-- Settles O52: the loss of the link from its cut, each other event and request from the law of its branch. -/
theorem theLinkGoesAndComes : Obligations.TheLinkGoesAndComes :=
  ⟨fun _ h => linkDown_falls h, fun _ h => linkDown_idle h,
    fun _ _ _ hperst hpow hporn h hlo hhi hw => linkUp_rises hperst hpow hporn h hlo hhi hw, fun _ h => busMasterDisable_stops h,
    fun _ _ _ _ h hr hm hd ho hpos hle => busMasterDisable_cuts h hr hm hd ho hpos hle, fun _ _ hq hc => wedge_queue hq hc,
    fun _ _ hen hw => wedge_ring hen hw, fun _ _ hrun hw => wedge_channel hrun hw, fun _ hinj => lathDrop_aborts hinj,
    fun _ _ _ hone hruns hheld hagain => lathDrop_fails hone hruns hheld hagain,
    fun _ _ _ hup hin hk => pcieLaneRemove_narrows hup hin hk, fun _ _ hup hin hk => pcieLaneRemove_loses hup hin hk,
    fun c _ hup h => config_retried c hup h, fun n _ h => config_read n h, fun m _ h hidle => config_command m h hidle,
    fun _ h hidle => config_power h hidle, fun m _ h => config_msix m h, fun payload readRequest _ h => config_control payload readRequest h,
    fun b g _ h => config_control2 b g h⟩

end Sys2Proof.Machine
end

section
/-!
Tenon's shared operations (R66, R75, R80, R83, R303): what the evaluation of SCANVALID, the loss of lock, an encoder error, the end of an
injection and a sample of it leave in the registers, in Tenon's record and in Truss's phase. The statements of Tenon (O23 to O26) rest on
these laws.
-/
namespace Sys2Proof.Machine

/-! ### Frames of plain changes -/

section
variable {l : List Fld} {s u : State}

theorem Frame.onTnn (h : Frame l s u) (f : TnnState → TnnState) : Frame l s (u.onTnn f) :=
  h.trans (Frame.of_only (State.onTnn_only ..) (by decide) (by decide) (by decide))

theorem Frame.onTrs (h : Frame l s u) (f : TrsState → TrsState) : Frame l s (u.onTrs f) :=
  h.trans (Frame.of_only (State.onTrs_only ..) (by decide) (by decide) (by decide))

theorem KeepsMemory.trans {t : State} (h : KeepsMemory s u) (h' : KeepsMemory u t) : KeepsMemory s t :=
  ⟨fun a => (h'.1 a).trans (h.1 a), fun a => (h'.2 a).trans (h.2 a)⟩

theorem KeepsMemory.settle (h : KeepsMemory s u) : KeepsMemory s u.settle :=
  h.trans ((State.settle_only u).keepsMemory (by decide) (by decide))

end

@[simp] theorem State.settle_tnn (s : State) : s.settle.tnn = s.tnn := (State.settle_only s).tnn.resolve_left (by decide)

@[simp] theorem State.settle_sil (s : State) : s.settle.sil = s.sil := (State.settle_only s).sil.resolve_left (by decide)

@[simp] theorem State.settle_btn (s : State) : s.settle.btn = s.btn := (State.settle_only s).btn.resolve_left (by decide)

@[simp] theorem State.fault_tnn (s : State) (f : Fld) (sev unit : Nat) : (s.fault f sev unit).tnn = s.tnn :=
  (State.reportFree_only ..).tnn.resolve_left (by decide)

@[simp] theorem State.fault_trs (s : State) (f : Fld) (sev unit : Nat) : (s.fault f sev unit).trs = s.trs :=
  (State.reportFree_only ..).trs.resolve_left (by decide)

/-! ### What the stop paths keep of Truss's record (R304, R312) -/

/-- Truss's record without what its stop paths write: the hush request, the times of DARK_N, and the outputs that wait for a restart. -/
def TrsState.offStop (t : TrsState) : TrsState :=
  { t with darkRel := false, withdraw := false, hushReq := false, darkTick := 0, restart := 0 }

theorem TrsState.fields_of_offStop {t u : TrsState} (e : t.offStop = u.offStop) : t.phase = u.phase ∧ t.phFault = u.phFault :=
  ⟨(congrArg TrsState.phase e :), (congrArg TrsState.phFault e :)⟩

theorem State.goLight_trs (s : State) : s.goLight.trs.offStop = s.trs.offStop := by
  unfold State.goLight
  split
  · rfl
  · split <;> rfl

theorem State.goDark_trs (s : State) : s.goDark.trs.offStop = s.trs.offStop := by
  have hlow (u : State) : u.darkLow.trs.offStop = u.trs.offStop := by
    unfold State.darkLow
    split <;> rfl
  have hraised (u : State) : u.hushRaised.trs.offStop = u.trs.offStop := by
    unfold State.hushRaised
    split
    · rfl
    · rw [(State.hushStart_only _).trs.resolve_left (by decide)]
      rfl
  rw [State.goDark_eq, hraised, hlow]
  rfl

theorem State.soutStep_trs (s : State) (k : Nat) : (s.soutStep k).trs.offStop = s.trs.offStop := by
  unfold State.soutStep
  dsimp only
  split <;> split <;> rfl

theorem State.trsEvalFrom_trs (s : State) (prev cause : Nat) : (s.trsEvalFrom prev cause).trs.offStop = s.trs.offStop := by
  have hstop : s.stopPaths.trs.offStop = s.trs.offStop := by
    unfold State.stopPaths
    rw [foldl_keeps (fun t => t.trs.offStop) State.soutStep_trs]
    split
    · exact State.goLight_trs _
    · exact State.goDark_trs _
  rcases s.trsEvalFrom_eq prev cause with h | h
  · rw [h, hstop]
  · rw [h, (State.trsMarker_only ..).trs.resolve_left (by decide), hstop]

/-! ### SCANVALID (R80) -/

/-- A key neither of the fields that follow Truss's state nor SCANVALID nor of the fields listed. -/
abbrev OffScan (l : List Fld) (k : Nat) : Prop := ∀ g ∈ trsEvalFlds ++ R.TNN_STATUS_SCANVALID :: l, k ≠ g.key

theorem not_offScan {l : List Fld} {f : Fld} (h : f ∈ R.TNN_STATUS_SCANVALID :: l) : ¬ OffScan l f.key :=
  fun hk => hk f (List.mem_append_right _ h) rfl

theorem Spares.offScan_mono {l l' : List Fld} {s t : State} (h : Spares (OffScan l) s t) (hl : l ⊆ l') : Spares (OffScan l') s t :=
  h.imp fun _ hk g hg => hk g ((List.append_subset.mpr ⟨List.subset_append_left ..,
    List.subset_append_of_subset_right _ (List.cons_subset_cons _ hl)⟩) hg)

/-- SCANVALID is written with a change of its conditions, and what is published with it follows. -/
def State.scanShown (s : State) : State :=
  if s.scanOk then s.wrB R.TNN_STATUS_SCANVALID true
  else { s.wrB R.TNN_STATUS_SCANVALID false with
    btn := { s.btn with windows := s.btn.windows.filter (fun w => decide (w.stop ≤ s.nowLsb)) } }

theorem State.scanEval_eq (s : State) : s.scanEval = if s.on R.TNN_STATUS_SCANVALID == s.scanOk then s
    else s.scanShown.trsEval (if s.scanOk then 0 else 0x0010) := by
  unfold State.scanEval State.scanShown
  cases s.scanOk <;> rfl

theorem State.scanShown_spares (s : State) : Spares (OffScan []) s s.scanShown := by
  have hwr (b : Bool) : Spares (OffScan []) s (s.wrB R.TNN_STATUS_SCANVALID b) := (Spares.refl _ s).wr (not_offScan (by decide))
  unfold State.scanShown
  split
  · exact hwr true
  · exact (hwr false).regs rfl rfl

theorem State.scanShown_rd (s : State) : s.scanShown.rd R.TNN_STATUS_SCANVALID = s.scanOk.toNat := by
  unfold State.scanShown
  cases s.scanOk
  · exact State.rd_wrB_same s _ rfl false
  · exact State.rd_wrB_same s _ rfl true

theorem State.scanEval_offScan (s : State) : Spares (OffScan []) s s.scanEval := by
  rw [State.scanEval_eq]
  split
  · exact .refl ..
  · exact s.scanShown_spares.trans ((State.trsEvalFrom_spares ..).imp fun _ hk g hg => hk g (List.mem_append_left _ hg))

@[simp] theorem State.scanEval_tnn (s : State) : s.scanEval.tnn = s.tnn := (State.scanEval_only s).tnn.resolve_left (by decide)

theorem State.scanEval_trs (s : State) : s.scanEval.trs.offStop = s.trs.offStop := by
  rw [State.scanEval_eq]
  split
  · rfl
  · rw [State.trsEval, State.trsEvalFrom_trs]
    unfold State.scanShown
    split <;> rfl

/-- Where a condition of SCANVALID fails, it reads 0. -/
theorem State.scanEval_invalid {s : State} (h : s.scanOk = false) : s.scanEval.rd R.TNN_STATUS_SCANVALID = 0 := by
  rw [State.scanEval_eq, h]
  split
  · next hon => simpa [State.on] using hon
  · rw [State.trsEval, (State.trsEvalFrom_spares ..).rd _ (by unfold OffEval; decide), State.scanShown_rd, h]
    rfl

theorem State.scanEval_keepsMemory (s : State) : KeepsMemory s s.scanEval := (State.scanEval_only s).keepsMemory (by decide) (by decide)

/-! ### Lock and encoder errors (R66, R75, R80) -/

/-- The fields of the loss of lock. -/
def unlockFlds : List Fld := [R.TNN_STATUS_SPLOCK, R.TNN_INTSTAT_LOCKLOSS] ++ reportFlds

theorem Spares.faultOffScan {l : List Fld} {s u : State} {f : Fld} (h : Spares (OffScan l) s u) (hf : f :: reportFlds ⊆ l) (sev unit : Nat) :
    Spares (OffScan l) s (u.fault f sev unit) :=
  h.fault (fun _ hg => not_offScan (List.mem_cons_of_mem _ (hf hg))) sev unit

theorem State.unlock_offScan (s : State) : Spares (OffScan unlockFlds) s s.unlock := by
  have hcount := (Spares.refl (OffScan unlockFlds) s).onTnn fun t => { t with lockN := 0 }
  unfold State.unlock
  dsimp only
  split
  · exact (Spares.faultOffScan (hcount.wr (not_offScan (by decide))) (by decide) 1 0).trans
      ((State.scanEval_offScan _).offScan_mono (by decide))
  · exact hcount

@[simp] theorem State.unlock_tnn (s : State) : s.unlock.tnn = { s.tnn with lockN := 0 } := by
  unfold State.unlock
  dsimp only
  split
  · simp [State.onTnn]
  · rfl

theorem State.unlock_trs (s : State) : s.unlock.trs.offStop = s.trs.offStop := by
  unfold State.unlock
  dsimp only
  split
  · rw [State.scanEval_trs, State.fault_trs]
    rfl
  · rfl

theorem State.unlock_splock (s : State) : s.unlock.rd R.TNN_STATUS_SPLOCK = 0 := by
  unfold State.unlock
  dsimp only
  split
  · rw [(State.scanEval_offScan _).rd _ (by decide), State.fault_rd _ _ _ _ _ (by decide) (by decide), if_neg (by decide), State.rd_wr_same]
    rfl
  · next h => simpa [State.on] using h

/-- Without lock the scan is not valid. -/
theorem State.scanOk_of_unlocked {s : State} (h : s.rd R.TNN_STATUS_SPLOCK = 0) : s.scanOk = false := by
  simp [State.scanOk, State.on, h]

/-- An encoder error unlocks, and the scan is not valid. -/
theorem State.encError_unlocks (s : State) (f : Fld) :
    (s.encError f).tnn = { s.tnn with encErr := true, lockN := 0 } ∧ (s.encError f).rd R.TNN_STATUS_SPLOCK = 0
      ∧ (s.encError f).rd R.TNN_STATUS_SCANVALID = 0 ∧ (s.encError f).trs.phase = s.trs.phase := by
  unfold State.encError
  refine ⟨?_, ?_, State.scanEval_invalid (State.scanOk_of_unlocked (State.unlock_splock _)), ?_⟩
  · rw [State.scanEval_tnn, State.unlock_tnn, State.onTnn, State.fault_tnn]
  · rw [(State.scanEval_offScan _).rd _ (by decide), State.unlock_splock]
  · refine (TrsState.fields_of_offStop ?_).1
    rw [State.scanEval_trs, State.unlock_trs, State.onTnn, State.fault_trs]

theorem State.encError_flag (s : State) {f : Fld} (hf : OffScan unlockFlds f.key) (hw : f.width = 1) : (s.encError f).rd f = 1 := by
  have hr (g : Fld) (hg : g ∈ reportFlds) : f.key ≠ g.key := hf g (by simp [unlockFlds, hg])
  unfold State.encError
  rw [((State.scanEval_offScan _).offScan_mono (l' := unlockFlds) (by decide)).rd _ hf, (State.unlock_offScan _).rd _ hf]
  show (s.fault f 1 0).rd f = 1
  rw [State.fault_rd _ _ _ _ _ (hr _ (by decide)) (hr _ (by decide)), if_pos rfl, hw]
  rfl

theorem State.encError_keepsMemory (s : State) (f : Fld) (hb : blk f.key = 12) : KeepsMemory s (s.encError f) :=
  (State.encError_only (m := 0xca113800803820) (Only.refl _ s) (by rw [hb]; decide) (by decide)).keepsMemory (by decide) (by decide)

/-! ### Injections (R83) -/

/-- The fields of an injection. -/
def injFlds : List Fld := [R.TNN_STATUS_INJ, R.TNN_INTSTAT_INJEND]

theorem State.endInject_offScan (s : State) (tilt : Bool) : Spares (OffScan injFlds) s (s.endInject tilt) := by
  unfold State.endInject
  split
  · split
    · exact ((((Spares.refl _ s).onTnn _).wr (not_offScan (by decide))).wr (f := R.TNN_INTSTAT_INJEND)
        (not_offScan (by decide))).trans ((State.scanEval_offScan _).offScan_mono (by decide))
    · exact .refl ..
  · exact .refl ..

/-- The end of an injection leaves all of Tenon's record but the injection. -/
theorem State.endInject_tnn (s : State) (tilt : Bool) : ∃ x, (s.endInject tilt).tnn = { s.tnn with inj := x } := by
  unfold State.endInject
  split
  · split
    · exact ⟨none, by rw [State.scanEval_tnn]; rfl⟩
    · exact ⟨s.tnn.inj, rfl⟩
  · exact ⟨s.tnn.inj, rfl⟩

theorem State.injSample_offScan (s : State) (tilt : Bool) : Spares (OffScan injFlds) s (s.injSample tilt).1 := by
  unfold State.injSample
  split
  · exact .refl ..
  · split
    · exact .refl ..
    · split
      · exact State.endInject_offScan ..
      · dsimp only
        split
        · exact .refl ..
        · exact (((Spares.refl _ s).onTnn _).wr (f := R.TNN_STATUS_INJ) (not_offScan (by decide))).trans
            ((State.scanEval_offScan _).offScan_mono (by decide))

/-- A sample of an injection leaves all of Tenon's record but the injection. -/
theorem State.injSample_tnn (s : State) (tilt : Bool) : ∃ x, (s.injSample tilt).1.tnn = { s.tnn with inj := x } := by
  unfold State.injSample
  split
  · exact ⟨s.tnn.inj, rfl⟩
  · split
    · exact ⟨s.tnn.inj, rfl⟩
    · split
      · exact State.endInject_tnn ..
      · dsimp only
        split
        · exact ⟨s.tnn.inj, rfl⟩
        · exact ⟨_, State.scanEval_tnn _⟩

theorem State.injSample_of_none {s : State} (h : s.tnn.inj = none) (tilt : Bool) : s.injSample tilt = (s, 0, 0) := by
  unfold State.injSample
  rw [h]

theorem State.capSample_of_none {s : State} (h : s.tnn.cap = none) (tilt : Bool) (r m e u : Word) : s.capSample tilt r m e u = s := by
  unfold State.capSample
  rw [h]

end Sys2Proof.Machine
end

section
/-!
The encoder, the index, the scan state sample, the retained requests and the spin-up timer (R64 to R66, R76, R78, R291, R303): each
event's branches, and what each leaves (O23).
-/
namespace Sys2Proof.Machine

section
variable {s : State}

/-! ### Encoder and index edges (R66, R291) -/

/-- A quadrature edge counts in Tenon and in Truss. -/
def State.edgeCounted (s : State) (back : Bool) : State :=
  (s.onTnn (fun t =>
    { t with count := t.count + (if back != s.on R.TNN_ENCCFG_ABSWAP then -1 else 1), interval := s.clk.ticks - t.edgeTick
             edgeTick := s.clk.ticks, reverse := back != s.on R.TNN_ENCCFG_ABSWAP })).onTrs (fun t =>
    { t with phase := { t.phase with counts := t.phase.counts + 1, edgeLsb := s.nowLsb } })

theorem exec_encoderEdge (back : Bool) (s : State) : exec (.encoderEdge back) s =
    (if s.clk.ticks - s.tnn.edgeTick < 5 then (s.edgeCounted back).encError R.TNN_INTSTAT_ENCFAST else s.edgeCounted back).done := rfl

theorem encoderEdge_counts (back : Bool) (h : s.tnn.edgeTick + 5 ≤ s.clk.ticks) : Completes (.encoderEdge back) s (fun t =>
    t.tnn.count = s.tnn.count + (if back != s.on R.TNN_ENCCFG_ABSWAP then -1 else 1) ∧ t.tnn.interval = s.clk.ticks - s.tnn.edgeTick
      ∧ t.tnn.edgeTick = s.clk.ticks ∧ t.trs.phase.counts = s.trs.phase.counts + 1 ∧ Frame [] s t) := by
  have hexec : exec (.encoderEdge back) s = (s.edgeCounted back).done := by rw [exec_encoderEdge, if_neg (by omega)]
  refine completes_of_done hexec ?_
  rw [State.settle_tnn, State.settle_trs]
  exact ⟨rfl, rfl, rfl, rfl, (((Frame.refl [] s).onTnn _).onTrs _).settle⟩

/-- What an encoder error leaves once the summary has settled, whatever was counted before it. -/
theorem State.encError_settles (u : State) {f : Fld} (hf : OffScan unlockFlds f.key) (hw : f.width = 1) (hs : OffSummary f.key)
    (hb : blk f.key = 12) :
    (u.encError f).settle.rd f = 1 ∧ (u.encError f).settle.tnn = { u.tnn with encErr := true, lockN := 0 }
      ∧ (u.encError f).settle.rd R.TNN_STATUS_SPLOCK = 0 ∧ (u.encError f).settle.rd R.TNN_STATUS_SCANVALID = 0
      ∧ (u.encError f).settle.trs.phase = u.trs.phase ∧ KeepsMemory u (u.encError f).settle := by
  obtain ⟨htnn, hlock, hvalid, hphase⟩ := u.encError_unlocks f
  rw [State.settle_rd _ _ hs.1 hs.2, State.settle_rd _ _ (by decide) (by decide), State.settle_rd _ _ (by decide) (by decide),
    State.settle_tnn, State.settle_trs]
  exact ⟨u.encError_flag hf hw, htnn, hlock, hvalid, hphase, (u.encError_keepsMemory f hb).settle⟩

theorem encoderEdge_tooFast (back : Bool) (h : s.clk.ticks < s.tnn.edgeTick + 5) : Completes (.encoderEdge back) s (fun t =>
    t.rd R.TNN_INTSTAT_ENCFAST = 1 ∧ t.tnn.encErr = true ∧ t.rd R.TNN_STATUS_SPLOCK = 0 ∧ t.rd R.TNN_STATUS_SCANVALID = 0
      ∧ t.trs.phase.counts = s.trs.phase.counts + 1 ∧ KeepsMemory s t) := by
  have hexec : exec (.encoderEdge back) s = ((s.edgeCounted back).encError R.TNN_INTSTAT_ENCFAST).done := by
    rw [exec_encoderEdge, if_pos (by omega)]
  obtain ⟨hflag, htnn, hlock, hvalid, hphase, hmem⟩ :=
    (s.edgeCounted back).encError_settles (f := R.TNN_INTSTAT_ENCFAST) (by decide) rfl (by decide) (by decide)
  exact completes_of_done hexec ⟨hflag, by rw [htnn], hlock, hvalid, by rw [hphase]; rfl, hmem⟩

/-- The index restarts Tenon's count at `c`, and Truss closes a revolution. -/
def State.indexTaken (s : State) (c : Int) : State :=
  (s.onTnn (fun t => { t with count := c, indexSeen := true, indexTick := s.clk.ticks })).onTrs (fun t =>
    { t with phase := { t.phase with counts := 0, indexLsb := s.nowLsb, seen := true
                                     revCnt := if t.phase.seen then t.phase.counts else 0
                                     revLsb := if t.phase.seen then s.nowLsb - t.phase.indexLsb else 0 } })

theorem exec_indexEdge (hseen : s.tnn.indexSeen = true) : exec .indexEdge s =
    (if 2 < (revRest s.tnn.count s.cpr).natAbs then (s.indexTaken 0).encError R.TNN_INTSTAT_IDXERR
     else s.indexTaken (revRest s.tnn.count s.cpr)).done := by
  show execIndexEdge s = _
  unfold execIndexEdge
  by_cases h : 2 < (revRest s.tnn.count s.cpr).natAbs <;> simp only [h, hseen] <;> rfl

theorem indexEdge_keepsCount (hseen : s.tnn.indexSeen = true) (h : (revRest s.tnn.count s.cpr).natAbs ≤ 2) :
    Completes .indexEdge s (fun t =>
      t.tnn.count = revRest s.tnn.count s.cpr ∧ t.tnn.indexTick = s.clk.ticks ∧ t.trs.phase.counts = 0 ∧ t.trs.phase.seen = true
        ∧ t.trs.phase.indexLsb = s.nowLsb ∧ Frame [] s t) := by
  refine completes_of_done ((exec_indexEdge hseen).trans (by rw [if_neg (Nat.not_lt.mpr h)])) ?_
  rw [State.settle_tnn, State.settle_trs]
  exact ⟨rfl, rfl, rfl, rfl, rfl, (((Frame.refl [] s).onTnn _).onTrs _).settle⟩

theorem indexEdge_restartsCount (hseen : s.tnn.indexSeen = true) (h : 2 < (revRest s.tnn.count s.cpr).natAbs) :
    Completes .indexEdge s (fun t =>
      t.tnn.count = 0 ∧ t.rd R.TNN_INTSTAT_IDXERR = 1 ∧ t.tnn.encErr = true ∧ t.rd R.TNN_STATUS_SPLOCK = 0 ∧ KeepsMemory s t) := by
  obtain ⟨hflag, htnn, hlock, -, -, hmem⟩ :=
    (s.indexTaken 0).encError_settles (f := R.TNN_INTSTAT_IDXERR) (by decide) rfl (by decide) (by decide)
  exact completes_of_done ((exec_indexEdge hseen).trans (by rw [if_pos h])) ⟨by rw [htnn]; rfl, hflag, by rw [htnn], hlock, hmem⟩

theorem indexMissing_unlocks (hfast : fLe (fInt 10) (fAbs s.speed) = true) (hlate : 3 * s.cpr ≤ 2 * s.tnn.count.natAbs) :
    Completes .indexMissing s (fun t =>
      t.tnn.indexSeen = false ∧ t.rd R.TNN_INTSTAT_IDXERR = 1 ∧ t.rd R.TNN_STATUS_SPLOCK = 0 ∧ t.rd R.TNN_STATUS_SCANVALID = 0
        ∧ KeepsMemory s t) := by
  have hexec : exec .indexMissing s = ((s.onTnn (fun t => { t with indexSeen := false })).encError R.TNN_INTSTAT_IDXERR).done :=
    if_pos (by simp [hfast, hlate])
  obtain ⟨hflag, htnn, hlock, hvalid, -, hmem⟩ := (s.onTnn (fun t => { t with indexSeen := false })).encError_settles
    (f := R.TNN_INTSTAT_IDXERR) (by decide) rfl (by decide) (by decide)
  exact completes_of_done hexec ⟨by rw [htnn]; rfl, hflag, hlock, hvalid, hmem⟩

theorem indexMissing_waits (h : fLe (fInt 10) (fAbs s.speed) = false ∨ 2 * s.tnn.count.natAbs < 3 * s.cpr) :
    Completes .indexMissing s (fun t => t.tnn = s.tnn ∧ Frame [] s t) := by
  have hexec : exec .indexMissing s = s.done := by
    refine if_neg ?_
    rcases h with hslow | hsoon
    · simp [hslow]
    · simp [Nat.not_le.mpr hsoon]
  exact completes_of_done hexec ⟨State.settle_tnn s, (Frame.refl [] s).settle⟩

/-! ### The scan state sample (R64, R65, R303) -/

/-- Tenon publishes its scan state, and Batten drops the dead angles that have ended. -/
def State.scanPublished (s : State) : State :=
  { s.onTnn (fun t => { t with smpLsb := s.nowLsb, smpPhi := BitVec.ofNat 32 s.phi, smpSpeed := s.speed, smpTilt := s.fr R.TNN_TLPOS_M
                               smpValid := s.on R.TNN_STATUS_SCANVALID, smpFacet := s.facet }) with
    btn := { s.btn with windows := s.btn.windows.filter (fun w => decide (s.nowLsb < w.stop)) } }

/-- While the scan is valid and turns, the next two dead angles are published. -/
def State.deadPublished (s : State) : State :=
  if s.on R.TNN_STATUS_SCANVALID && s.tnn.interval != 0 then (s.publishDead 0).publishDead 1 else s

theorem exec_scanStateSample (s : State) : exec .scanStateSample s = s.scanPublished.deadPublished.phaseCompare.done := rfl

theorem State.scanPublished_only (s : State) : Only 0x1800000000 s s.scanPublished := by
  have htnn : Only 0x1800000000 s (s.onTnn fun t => { t with
      smpLsb := s.nowLsb, smpPhi := BitVec.ofNat 32 s.phi, smpSpeed := s.speed, smpTilt := s.fr R.TNN_TLPOS_M
      smpValid := s.on R.TNN_STATUS_SCANVALID, smpFacet := s.facet }) := (State.onTnn_only ..).mono (by decide)
  unfold State.scanPublished
  apply htnn.upd
  all_goals first | exact .inl (by decide) | exact .inr rfl

theorem State.deadPublished_only (s : State) : Only 0x1000000000 s s.deadPublished := by
  unfold State.deadPublished
  split
  · exact (State.publishDead_only ..).trans (State.publishDead_only ..)
  · exact Only.refl ..

theorem State.phiValid_congr {t : State} (htrs : t.trs = s.trs) (hclk : t.clk = s.clk) : t.phiValid = s.phiValid := by
  rw [State.phiValid, State.phiValid, State.nowLsb, State.nowLsb, htrs, hclk]

theorem State.phaseCompare_of_invalid (h : s.phiValid = false) : s.phaseCompare = s := by
  unfold State.phaseCompare
  rw [h]
  rfl

theorem scanStateSample_publishes (hoff : s.rd R.TNN_STATUS_SCANVALID = 0) (hphi : s.phiValid = false) :
    Completes .scanStateSample s (fun t =>
      t.tnn.smpLsb = s.nowLsb ∧ t.tnn.smpPhi = BitVec.ofNat 32 s.phi ∧ t.tnn.smpSpeed = s.speed ∧ t.tnn.smpTilt = s.fr R.TNN_TLPOS_M
        ∧ t.tnn.smpValid = false
        ∧ t.tnn.smpFacet = s.rd R.TNN_SPCFG_FACETS * ((s.phi + (2 ^ 32 - s.rd R.TNN_DEADOFS_DEADOFS)) % 2 ^ 32) / 2 ^ 32
        ∧ t.btn.windows = s.btn.windows.filter (fun w => decide (s.nowLsb < w.stop)) ∧ Frame [] s t) := by
  have hvalid : s.on R.TNN_STATUS_SCANVALID = false := by simp [State.on, hoff]
  have hdead : s.scanPublished.deadPublished = s.scanPublished := if_neg (by
    rw [show s.scanPublished.on R.TNN_STATUS_SCANVALID = false from hvalid]
    simp)
  have hsame : s.scanPublished.phaseCompare = s.scanPublished := State.phaseCompare_of_invalid ((State.phiValid_congr rfl rfl).trans hphi)
  refine completes_of_done ((exec_scanStateSample s).trans (by rw [hdead, hsame])) ?_
  rw [State.settle_tnn, State.settle_btn]
  exact ⟨rfl, rfl, rfl, rfl, hvalid, rfl, rfl, (Frame.of_only s.scanPublished_only (by decide) (by decide) (by decide)).settle⟩

theorem State.phi_lt (s : State) : s.phi < 2 ^ 32 := by
  unfold State.phi
  dsimp only
  have hlt := Int.emod_lt_of_pos
    ((s.tnn.count * ((max 1 s.tnn.interval : Nat) : Int) + if s.tnn.reverse = true then -(s.edgeAge : Int) else s.edgeAge) * (2 : Int) ^ 32
      / ((s.cpr * max 1 s.tnn.interval : Nat) : Int)) (b := (2 : Int) ^ 32) (by decide)
  omega

/-- A phase that Truss finds too far off is an exposure fault. -/
theorem State.phaseCompare_of_apart (hphi : s.phiValid = true) (hvalid : s.tnn.smpValid = true)
    (hfar : max 1 (s.rd R.TRS_EXPCFG_PHTOL) * 2 ^ 16 < (toSigned 32 ((s.phiT + (2 ^ 32 - s.tnn.smpPhi.toNat)) % 2 ^ 32)).natAbs) :
    s.phaseCompare = (s.onTrs (fun t => { t with phFault := true })).trussFault 0x0106 0 := by
  unfold State.phaseCompare
  rw [hphi, hvalid, Bool.and_self, if_pos rfl]
  exact if_pos hfar

theorem State.setTrs_trs (s : State) (st cause detail : Nat) : (s.setTrs st cause detail).trs.offStop = s.trs.offStop := by
  unfold State.setTrs
  dsimp only
  split
  · exact State.trsEvalFrom_trs ..
  · rw [State.trsEvalFrom_trs]
    rfl

/-- A change of state names its cause. -/
theorem State.setTrs_cause {st : Nat} (h : s.trsState ≠ st) {cause : Nat} (hc : cause < 65536) (detail : Nat) :
    (s.setTrs st cause detail).rd R.TRS_LASTCAUSE_CAUSE = cause := by
  unfold State.setTrs
  dsimp only
  rw [if_neg h, (State.trsEvalFrom_spares ..).rd _ (by unfold OffEval; decide), State.rd_flag, if_neg (by decide),
    State.rd_wr_ne _ _ _ _ (by decide), State.rd_wr_same]
  exact Nat.mod_eq_of_lt hc

/-- An exposure fault in ARMED locks Truss out (R303, R315). -/
theorem State.exposureFault_eq (h : s.trsState = 1) :
    s.trussFault 0x0106 0 = ((s.faultNoted 0x0106 0).onTrs (fun t => { t with limp := [] })).setTrs 3 0x0106 0 := by
  have hnoted : ((s.trsClassFlag 0x0106).trsReport 0x0106 0).trsState = 1 :=
    (State.faultNoted_rd s 0x0106 0 R.TRS_STATE_STATE (by decide)).trans h
  unfold State.trussFault
  rw [if_neg (by rw [h]; decide), if_neg (by decide), if_neg (by rw [hnoted]; decide), if_neg (by simp [limpEligible]),
    if_neg (by simp [limpEligible])]
  rfl

theorem State.faultNoted_trs (s : State) (cause detail : Nat) : (s.faultNoted cause detail).trs = s.trs := by
  rw [State.faultNoted, State.trsReport, (State.report_only ..).trs.resolve_left (by decide), State.trsClassFlag]
  split
  · rfl
  · split <;> rfl

theorem State.exposureFault_locksOut (h : s.trsState = 1) :
    (s.trussFault 0x0106 0).trs.phFault = s.trs.phFault ∧ DarkIn 3 s (s.trussFault 0x0106 0)
      ∧ (s.trussFault 0x0106 0).rd R.TRS_LASTCAUSE_CAUSE = 0x0106 := by
  have hstate : ((s.faultNoted 0x0106 0).onTrs (fun t => { t with limp := [] })).trsState = 1 :=
    (State.faultNoted_rd s 0x0106 0 R.TRS_STATE_STATE (by decide)).trans h
  have htrs : ((s.faultNoted 0x0106 0).onTrs (fun t => { t with limp := [] })).trs.phFault = s.trs.phFault := by
    show (s.faultNoted 0x0106 0).trs.phFault = _
    rw [State.faultNoted_trs]
  rw [State.exposureFault_eq h]
  generalize hu : (s.faultNoted 0x0106 0).onTrs (fun t => { t with limp := [] }) = u at hstate htrs ⊢
  have hdark : DarkIn 3 ((s.faultNoted 0x0106 0).onTrs (fun t => { t with limp := [] })) (u.setTrs 3 0x0106 0) :=
    hu ▸ u.setTrs_dark (.inl rfl) 0x0106 0
  exact ⟨(TrsState.fields_of_offStop (u.setTrs_trs 3 0x0106 0)).2.trans htrs, hdark.of_onTrs.of_noted,
    State.setTrs_cause (by rw [hstate]; decide) (by decide) 0⟩

theorem scanStateSample_locksOut (hon : s.rd R.TNN_STATUS_SCANVALID ≠ 0) (hphi : s.phiValid = true)
    (hfar : max 1 (s.rd R.TRS_EXPCFG_PHTOL) * 2 ^ 16 < (toSigned 32 ((s.phiT + (2 ^ 32 - s.phi)) % 2 ^ 32)).natAbs)
    (harmed : s.trsState = 1) : Completes .scanStateSample s (fun t =>
      t.tnn.smpValid = true ∧ t.trs.phFault = true ∧ t.trsState = 3 ∧ t.rd R.TRS_LASTCAUSE_CAUSE = 0x0106
        ∧ t.rd R.TRS_STATE_DARKCMD = 0 ∧ KeepsMemory s t) := by
  have hpub : Only 0x1800000000 s s.scanPublished.deadPublished := s.scanPublished_only.app (State.deadPublished_only _) (by decide)
  have htnn : s.scanPublished.deadPublished.tnn = s.scanPublished.tnn := (State.deadPublished_only _).tnn.resolve_left (by decide)
  have htrs : s.scanPublished.deadPublished.trs = s.trs := hpub.trs.resolve_left (by decide)
  have hclk : s.scanPublished.deadPublished.clk = s.clk := hpub.clk.resolve_left (by decide)
  have hsmp : s.scanPublished.deadPublished.tnn.smpPhi.toNat = s.phi := by
    rw [htnn]
    exact (BitVec.toNat_ofNat ..).trans (Nat.mod_eq_of_lt s.phi_lt)
  have hvalid : s.scanPublished.deadPublished.tnn.smpValid = true := by
    rw [htnn]
    exact bne_iff_ne.mpr hon
  have hcompare := State.phaseCompare_of_apart (s := s.scanPublished.deadPublished)
    ((State.phiValid_congr htrs hclk).trans hphi) hvalid
    (by rw [hsmp, State.phiT, htrs, hpub.rd _ (by decide)]; exact hfar)
  set u := s.scanPublished.deadPublished.onTrs (fun t => { t with phFault := true }) with hu
  have hstate : u.trsState = 1 := (hpub.rd R.TRS_STATE_STATE (by decide)).trans harmed
  obtain ⟨hfault, ⟨hout, hdark, -⟩, hcause⟩ := State.exposureFault_locksOut hstate
  refine completes_of_done ((exec_scanStateSample s).trans (by rw [hcompare])) ?_
  rw [State.settle_tnn, State.settle_trs, State.trsState, State.settle_rd _ _ (by decide) (by decide),
    State.settle_rd _ _ (by decide) (by decide), State.settle_rd _ _ (by decide) (by decide),
    (State.trussFault_only ..).tnn.resolve_left (by decide)]
  exact ⟨hvalid, hfault.trans rfl, hout, hcause, hdark, KeepsMemory.settle ((hpub.keepsMemory (by decide) (by decide)).trans
    ((State.trussFault_only u _ _).keepsMemory (by decide) (by decide)))⟩

/-! ### Retained requests and the spin-up timer (R76, R78) -/

theorem retainedStateCopy_keeps (s : State) : Completes .retainedStateCopy s (fun t =>
    t.tnn.retSp = s.rd R.TNN_SPCTL_MODE ∧ t.tnn.retTl = s.rd R.TNN_TLCTL_MODE ∧ t.tnn.retDem = s.tnn.sp.u ∧ Frame [] s t) := by
  refine completes_of_done (u := s.onTnn fun t => { t with
    retSp := s.rd R.TNN_SPCTL_MODE, retTl := s.rd R.TNN_TLCTL_MODE, retDem := t.sp.u }) rfl ?_
  rw [State.settle_tnn]
  exact ⟨rfl, rfl, rfl, ((Frame.refl [] s).onTnn _).settle⟩

/-- The spin-up timer stops, and its expiry is flagged. -/
def State.timerExpired (s : State) : State := (s.onTnn (fun t => { t with spinTimer := false })).fault R.TNN_INTSTAT_SUTIMEOUT 1 0

theorem exec_spinUpTimeout (ht : s.tnn.spinTimer = true) (hsu : s.rd R.TNN_SPCFG_SUTIME ≠ 0) : exec .spinUpTimeout s =
    (if s.timerExpired.stage = 0x0A then s.timerExpired.stall 0x0D 0 else s.timerExpired).done := if_pos (by simp [ht, hsu])

theorem State.timerExpired_rd (s : State) (g : Fld) (h1 : g.key ≠ R.FLT_OVERFLOW_CNT.key) (h2 : g.key ≠ R.FLT_INTSTAT_OVERFLOW.key) :
    s.timerExpired.rd g = if g.key = R.TNN_INTSTAT_SUTIMEOUT.key then 1 else s.rd g := State.fault_rd _ _ _ _ _ h1 h2

theorem State.timerExpired_stage (s : State) : s.timerExpired.stage = s.rd R.GLB_STATUS_STAGE :=
  (s.timerExpired_rd R.GLB_STATUS_STAGE (by decide) (by decide)).trans (if_neg (by decide))

theorem State.timerExpired_tnn (s : State) : s.timerExpired.tnn = { s.tnn with spinTimer := false } := State.fault_tnn ..

theorem State.timerExpired_frame (s : State) : Frame ([R.TNN_INTSTAT_SUTIMEOUT] ++ reportFlds) s s.timerExpired :=
  ((Frame.refl _ s).onTnn _).fault (by decide) (by decide)

theorem spinUpTimeout_flags (ht : s.tnn.spinTimer = true) (hsu : s.rd R.TNN_SPCFG_SUTIME ≠ 0)
    (hstage : s.rd R.GLB_STATUS_STAGE ≠ 0x0A) : Completes .spinUpTimeout s (fun t =>
      t.rd R.TNN_INTSTAT_SUTIMEOUT = 1 ∧ t.tnn.spinTimer = false ∧ Frame ([R.TNN_INTSTAT_SUTIMEOUT] ++ reportFlds) s t) := by
  refine completes_of_done ((exec_spinUpTimeout ht hsu).trans (by rw [if_neg (by rwa [State.timerExpired_stage])])) ?_
  rw [State.settle_tnn, State.timerExpired_tnn, State.settle_rd _ _ (by decide) (by decide),
    State.timerExpired_rd _ _ (by decide) (by decide), if_pos rfl]
  exact ⟨rfl, rfl, s.timerExpired_frame.settle⟩

theorem spinUpTimeout_stalls (ht : s.tnn.spinTimer = true) (hsu : s.rd R.TNN_SPCFG_SUTIME ≠ 0)
    (hstage : s.rd R.GLB_STATUS_STAGE = 0x0A) : Completes .spinUpTimeout s (fun t =>
      t.rd R.TNN_INTSTAT_SUTIMEOUT = 1 ∧ t.rd R.GLB_STATUS_STAGE = 0x0A ∧ t.rd R.GLB_STATUS_CAUSE = 0x0D ∧ t.boot.stalled = true
        ∧ KeepsMemory s t) := by
  refine completes_of_done ((exec_spinUpTimeout ht hsu).trans (by rw [if_pos (State.timerExpired_stage s ▸ hstage)])) ?_
  rw [State.settle_boot, State.stall_boot, State.settle_rd _ _ (by decide) (by decide), State.settle_rd _ _ (by decide) (by decide),
    State.settle_rd _ _ (by decide) (by decide), State.stall_rd _ _ _ _ (by decide) (by decide), State.stall_rd _ _ _ _ (by decide) (by decide),
    State.stall_rd _ _ _ _ (by decide) (by decide), State.timerExpired_rd _ _ (by decide) (by decide), State.timerExpired_stage, hstage]
  exact ⟨rfl, rfl, rfl, rfl, (s.timerExpired_frame.2.trans
    ((State.stall_only ..).keepsMemory (by decide) (by decide))).settle⟩

end

/-- Settles O23: each edge, sample and timer from the law of its branch. -/
theorem encoderMovesTheScanState : Obligations.EncoderMovesTheScanState :=
  ⟨fun back _ h => encoderEdge_counts back h, fun back _ h => encoderEdge_tooFast back h, fun _ hseen h => indexEdge_keepsCount hseen h,
    fun _ hseen h => indexEdge_restartsCount hseen h, fun _ hfast hlate => indexMissing_unlocks hfast hlate,
    fun _ h => indexMissing_waits h, fun _ hoff hphi => scanStateSample_publishes hoff hphi,
    fun _ hon hphi hfar harmed => scanStateSample_locksOut hon hphi hfar harmed, retainedStateCopy_keeps,
    fun _ ht hsu hstage => spinUpTimeout_flags ht hsu hstage, fun _ ht hsu hstage => spinUpTimeout_stalls ht hsu hstage⟩

end Sys2Proof.Machine
end

section
/-!
Spindle modes and geometry, bank swaps, injections and response captures (R62, R74, R81, R83, R84): each request's branches, and what it
leaves (O26).
-/
namespace Sys2Proof.Machine

section
variable {s : State}

/-! ### Refusals -/

/-- A request that Tenon refuses sets BADCFG, is reported, and leaves Tenon's record. -/
theorem completes_of_badcfg {c : Instr} (h : exec c s = (s.refuse R.TNN_INTSTAT_BADCFG).done) : Completes c s (fun t =>
    t.rd R.TNN_INTSTAT_BADCFG = 1 ∧ t.tnn = s.tnn ∧ Frame ([R.TNN_INTSTAT_BADCFG] ++ reportFlds) s t) := by
  refine completes_of_done h ⟨?_, ?_, ((Frame.refl _ s).fault (by decide) (by decide)).settle⟩
  · rw [State.settle_rd _ _ (by decide) (by decide), State.refuse_rd _ _ _ (by decide) (by decide), if_pos rfl]
    rfl
  · rw [State.settle_tnn, State.refuse, State.fault_tnn]

/-! ### Spindle modes (R62, R74) -/

theorem exec_spindleModeRequest (m : BitVec 3) (s : State) : exec (.spindleModeRequest m) s = (s.requestSp m.toNat).done := rfl

/-- The new mode is shown, the spindle's injection ends, and LOCK is left. -/
def State.modeShown (s : State) (m : Nat) : State :=
  if s.spMode = 3 then ((((s.wr R.TNN_SPCTL_MODE m).wr R.TNN_STATUS_SPMODE m).endInject false).onTnn (fun t => { t with spOk := false })).unlock
  else ((s.wr R.TNN_SPCTL_MODE m).wr R.TNN_STATUS_SPMODE m).endInject false

theorem State.setSpMode_of_same {m : Nat} (h : s.spMode = m) : s.setSpMode m = s.wr R.TNN_SPCTL_MODE m := if_pos h

/-- A loop of the spindle that goes on, or starts cold, in the new mode writes no register of its own. -/
theorem State.setSpMode_rd_of_run {m : Nat} (h : s.spMode ≠ m) (hm : m = 2 ∨ m = 3) (f : Fld) :
    (s.setSpMode m).rd f = (s.modeShown m).rd f := by
  have hrun : s.setSpMode m = if s.spMode = 2 || s.spMode = 3 then (s.modeShown m).onTnn (fun t => { t with capN := 0, captured := false })
      else (s.modeShown m).spCold.onTnn (fun t => { t with spinTimer := s.spMode != 4 }) :=
    (if_neg h).trans (if_pos (by simp [hm]))
  rw [hrun]
  split <;> rfl

/-- The spindle's loops are off in the new mode. -/
theorem State.setSpMode_of_idle {m : Nat} (h : s.spMode ≠ m) (h2 : m ≠ 2) (h3 : m ≠ 3) :
    s.setSpMode m = ((s.modeShown m).wr R.TNN_STATUS_BLEND 0).onTnn (fun t =>
      { t with blend0 := 0, blendN := 2500, phaseLoop := false, fall := false, engage := false, spinTimer := false
               portQuiet := t.portQuiet || m == 0 }) :=
  (if_neg h).trans (if_neg (by simp [h2, h3]))

/-- The mode as it is requested and shown. -/
theorem State.modeShown_rd (s : State) {m : Nat} (hm : m < 8) :
    (s.modeShown m).rd R.TNN_SPCTL_MODE = m ∧ (s.modeShown m).rd R.TNN_STATUS_SPMODE = m := by
  have hinj (f : Fld) (hf : OffScan injFlds f.key) := (((s.wr R.TNN_SPCTL_MODE m).wr R.TNN_STATUS_SPMODE m).endInject_offScan false).rd f hf
  have hctl : ((s.wr R.TNN_SPCTL_MODE m).wr R.TNN_STATUS_SPMODE m).rd R.TNN_SPCTL_MODE = m := by
    rw [State.rd_wr_ne _ _ _ _ (by decide), State.rd_wr_same]
    exact Nat.mod_eq_of_lt hm
  have hmode : ((s.wr R.TNN_SPCTL_MODE m).wr R.TNN_STATUS_SPMODE m).rd R.TNN_STATUS_SPMODE = m := by
    rw [State.rd_wr_same]
    exact Nat.mod_eq_of_lt hm
  unfold State.modeShown
  split
  · rw [(State.unlock_offScan _).rd _ (by decide), (State.unlock_offScan _).rd _ (by decide), State.onTnn_rd, State.onTnn_rd,
      hinj _ (by decide), hinj _ (by decide)]
    exact ⟨hctl, hmode⟩
  · rw [hinj _ (by decide), hinj _ (by decide)]
    exact ⟨hctl, hmode⟩

theorem State.setSpMode_shows (s : State) {m : Nat} (hm : m < 8) :
    (s.setSpMode m).rd R.TNN_SPCTL_MODE = m ∧ (s.setSpMode m).spMode = m := by
  unfold State.spMode
  by_cases hsame : s.spMode = m
  · rw [State.setSpMode_of_same hsame, State.rd_wr_same, State.rd_wr_ne _ _ _ _ (by decide)]
    exact ⟨Nat.mod_eq_of_lt hm, hsame⟩
  · by_cases hrun : m = 2 ∨ m = 3
    · rw [State.setSpMode_rd_of_run hsame hrun, State.setSpMode_rd_of_run hsame hrun]
      exact s.modeShown_rd hm
    · obtain ⟨h2, h3⟩ := not_or.mp hrun
      rw [State.setSpMode_of_idle hsame h2 h3, State.onTnn_rd, State.onTnn_rd, State.rd_wr_ne _ _ _ _ (by decide),
        State.rd_wr_ne _ _ _ _ (by decide)]
      exact s.modeShown_rd hm

theorem State.requestSp_of_good {m : Nat} (hm : m < 5) (hbank : s.spBankOk s.spBank = true)
    (hrun : m = 2 ∨ m = 3 → 256 ≤ s.rd R.TNN_ENCCFG_CPR ∧ s.spindleOk (s.rd R.TNN_SPCFG_FACETS) (s.rd R.TNN_SPCFG_REVS) = true) :
    s.requestSp m = s.setSpMode m := by
  refine if_neg ?_
  by_cases h : m = 2 ∨ m = 3
  · obtain ⟨hcpr, hok⟩ := hrun h
    simp [Nat.not_le.mpr hm, hbank, Nat.not_lt.mpr hcpr, hok]
  · obtain ⟨h2, h3⟩ := not_or.mp h
    simp [Nat.not_le.mpr hm, hbank, h2, h3]

theorem State.requestSp_of_bad {m : Nat} (h : 5 ≤ m ∨ s.spBankOk s.spBank = false ∨ ((m = 2 ∨ m = 3) ∧ (s.rd R.TNN_ENCCFG_CPR < 256
    ∨ s.spindleOk (s.rd R.TNN_SPCFG_FACETS) (s.rd R.TNN_SPCFG_REVS) = false))) : s.requestSp m = s.refuse R.TNN_INTSTAT_BADCFG := by
  refine if_pos ?_
  rcases h with hcode | hbank | ⟨hrun, hcpr | hok⟩
  · simp [hcode]
  · simp [hbank]
  · simp [hrun, hcpr]
  · simp [hrun, hok]

theorem spindleModeRequest_taken {m : BitVec 3} (hm : m.toNat < 5) (hbank : s.spBankOk s.spBank = true)
    (hrun : m.toNat = 2 ∨ m.toNat = 3 → 256 ≤ s.rd R.TNN_ENCCFG_CPR
      ∧ s.spindleOk (s.rd R.TNN_SPCFG_FACETS) (s.rd R.TNN_SPCFG_REVS) = true) : Completes (.spindleModeRequest m) s (fun t =>
      t.spMode = m.toNat ∧ t.rd R.TNN_SPCTL_MODE = m.toNat
        ∧ (m.toNat ≠ 2 → m.toNat ≠ 3 → s.spMode ≠ m.toNat → t.tnn.phaseLoop = false ∧ t.rd R.TNN_STATUS_BLEND = 0)
        ∧ KeepsMemory s t) := by
  obtain ⟨hctl, hmode⟩ := s.setSpMode_shows m.isLt
  refine completes_of_done ((exec_spindleModeRequest m s).trans (by rw [State.requestSp_of_good hm hbank hrun]))
    ⟨?_, ?_, fun h2 h3 hne => ?_, ((State.setSpMode_only ..).keepsMemory (by decide) (by decide)).settle⟩
  · rw [State.spMode, State.settle_rd _ _ (by decide) (by decide)]
    exact hmode
  · rw [State.settle_rd _ _ (by decide) (by decide), hctl]
  · rw [State.settle_tnn, State.settle_rd _ _ (by decide) (by decide), State.setSpMode_of_idle hne h2 h3, State.onTnn_rd, State.rd_wr_same]
    exact ⟨rfl, rfl⟩

/-! ### The geometry (R62) -/

theorem reserved_eq_zero_iff (v : Word) : v &&& 0xE000#32 = 0 ↔ v.toNat &&& 0xE000 = 0 := by
  rw [← BitVec.toNat_inj, BitVec.toNat_and]
  rfl

/-- A write of reserved bits is counted, and nothing else is. -/
theorem State.rsvdCheck_frame (s : State) (off : Nat) (v : Word) :
    Frame (rsvdFlds (v &&& 0xE000#32 != 0)) s (s.rsvdCheck off 0xE000 v.toNat) := by
  unfold State.rsvdCheck
  split
  · exact Frame.refl ..
  · next h =>
    rw [show (v &&& 0xE000#32 != 0) = true from bne_iff_ne.mpr (mt (reserved_eq_zero_iff v).mp h)]
    exact ((((Frame.refl _ s).wr (by decide)).wr (by decide)).wr (f := R.GLB_LASTERR_WRITE) (by decide)).wr (by decide)

theorem State.epochPeriod_congr {t : State} (h : t.peg = s.peg) (e : Nat) : t.epochPeriod e = s.epochPeriod e := by
  rw [State.epochPeriod, State.epochPeriod, h]

theorem State.periods_congr {t : State} (hpeg : t.peg = s.peg) (hhif : t.hif = s.hif)
    (hreg : t.rd R.PEG_FRAME_PERIOD = s.rd R.PEG_FRAME_PERIOD) : t.periods = s.periods := by
  unfold State.periods State.framePeriod
  rw [hpeg, hhif, hreg, State.epochPeriod_congr hpeg]
  cases s.hif.accepted with
  | none => rfl
  | some p => exact congrArg _ (State.epochPeriod_congr hpeg p.1)

theorem State.rsvdCheck_periods (s : State) (off mask v : Nat) : (s.rsvdCheck off mask v).periods = s.periods :=
  State.periods_congr ((State.rsvdCheck_only ..).peg.resolve_left (by decide)) ((State.rsvdCheck_only ..).hif.resolve_left (by decide))
    ((State.rsvdCheck_only ..).rd _ (by decide))

/-- The fields of TNN_SPCFG. -/
def spcfgFlds : List Fld := [R.TNN_SPCFG_FACETS, R.TNN_SPCFG_REVS, R.TNN_SPCFG_DIR, R.TNN_SPCFG_SUTIME]

/-- The write takes the register's fields. -/
def State.spcfgTaken (s : State) (n : Nat) : State :=
  (((s.wr R.TNN_SPCFG_FACETS (bits n 0 5)).wr R.TNN_SPCFG_REVS (bits n 5 7)).wr R.TNN_SPCFG_DIR (bits n 12 1)).wr
    R.TNN_SPCFG_SUTIME (bits n 16 16)

theorem State.spcfgTaken_rd (s : State) {n : Nat} (hn : n < 2 ^ 32) :
    (s.spcfgTaken n).rd R.TNN_SPCFG_FACETS = n % 32 ∧ (s.spcfgTaken n).rd R.TNN_SPCFG_REVS = n / 32 % 128
      ∧ (s.spcfgTaken n).rd R.TNN_SPCFG_DIR = n / 4096 % 2 ∧ (s.spcfgTaken n).rd R.TNN_SPCFG_SUTIME = n / 65536 := by
  simp only [State.spcfgTaken, State.rd_wr, bits, R.TNN_SPCFG_FACETS, R.TNN_SPCFG_REVS, R.TNN_SPCFG_DIR, R.TNN_SPCFG_SUTIME]
  simp
  omega

theorem State.spcfgTaken_frame (s : State) (n : Nat) : Frame spcfgFlds s (s.spcfgTaken n) :=
  ((((Frame.refl _ s).wr (by decide)).wr (by decide)).wr (by decide)).wr (by decide)

theorem exec_tnnSpcfgWrite (v : Word) (s : State) : exec (.tnnSpcfgWrite v) s =
    if s.periods.all (fun p => targetOk (v.toNat / 32 % 128) p) then ((s.rsvdCheck 0x240008 0xE000 v.toNat).spcfgTaken v.toNat).done
    else ((s.rsvdCheck 0x240008 0xE000 v.toNat).refuse R.TNN_INTSTAT_BADCFG).done := by
  rw [← s.rsvdCheck_periods 0x240008 0xE000 v.toNat]
  rfl

theorem tnnSpcfgWrite_taken {v : Word} (h : s.periods.all (fun p => targetOk (v.toNat / 32 % 128) p) = true) :
    Completes (.tnnSpcfgWrite v) s (fun t =>
      t.rd R.TNN_SPCFG_FACETS = v.toNat % 32 ∧ t.rd R.TNN_SPCFG_REVS = v.toNat / 32 % 128 ∧ t.rd R.TNN_SPCFG_DIR = v.toNat / 4096 % 2
        ∧ t.rd R.TNN_SPCFG_SUTIME = v.toNat / 65536 ∧ Frame (spcfgFlds ++ rsvdFlds (v &&& 0xE000#32 != 0)) s t) := by
  obtain ⟨hfacets, hrevs, hdir, hsu⟩ := (s.rsvdCheck 0x240008 0xE000 v.toNat).spcfgTaken_rd v.isLt
  refine completes_of_done ((exec_tnnSpcfgWrite v s).trans (if_pos h)) ?_
  rw [State.settle_rd _ _ (by decide) (by decide), State.settle_rd _ _ (by decide) (by decide),
    State.settle_rd _ _ (by decide) (by decide), State.settle_rd _ _ (by decide) (by decide)]
  exact ⟨hfacets, hrevs, hdir, hsu, (((s.rsvdCheck_frame 0x240008 v).mono (List.subset_append_right ..)).trans
    ((State.spcfgTaken_frame ..).mono (List.subset_append_left ..))).settle⟩

theorem tnnSpcfgWrite_refused {v : Word} (h : s.periods.all (fun p => targetOk (v.toNat / 32 % 128) p) = false) :
    Completes (.tnnSpcfgWrite v) s (fun t =>
      t.rd R.TNN_INTSTAT_BADCFG = 1 ∧ t.tnn = s.tnn
        ∧ Frame ([R.TNN_INTSTAT_BADCFG] ++ reportFlds ++ rsvdFlds (v &&& 0xE000#32 != 0)) s t) := by
  refine completes_of_done ((exec_tnnSpcfgWrite v s).trans (if_neg (by rw [h]; decide))) ⟨?_, ?_, Frame.settle ?_⟩
  · rw [State.settle_rd _ _ (by decide) (by decide), State.refuse_rd _ _ _ (by decide) (by decide), if_pos rfl]
    rfl
  · rw [State.settle_tnn, State.refuse, State.fault_tnn, (State.rsvdCheck_only ..).tnn.resolve_left (by decide)]
  · exact ((s.rsvdCheck_frame 0x240008 v).mono (List.subset_append_right ..)).fault (by simp)
      (List.subset_append_of_subset_left _ (List.subset_append_right ..))

/-! ### Swaps of the spindle's bank (R81) -/

theorem spindleSwap_asks (hswap : s.tnn.spSwap = false) (hbank : s.spBankOk (1 - s.spBank) = true) : Completes .spindleSwap s (fun t =>
    t.rd R.TNN_SPCTL_SWAP = 1 ∧ t.tnn.spSwap = true ∧ Frame [R.TNN_SPCTL_SWAP] s t) := by
  refine completes_of_done ((if_neg (by simp [hswap])).trans (if_pos hbank)) ?_
  rw [State.settle_tnn, State.settle_rd _ _ (by decide) (by decide), State.onTnn_rd, State.rd_wr_same]
  exact ⟨rfl, rfl, (((Frame.refl _ s).wr (by decide)).onTnn _).settle⟩

/-- A command without an effect leaves Tenon's record and every register. -/
theorem completes_of_ignored {c : Instr} (h : exec c s = s.done) : Completes c s (fun t => t.tnn = s.tnn ∧ Frame [] s t) :=
  completes_of_done h ⟨State.settle_tnn s, (Frame.refl [] s).settle⟩

/-! ### Injections (R83) -/

theorem injectionStart_starts (hrun : s.rd R.TNN_INJCFG_LOOP = 1 ∧ 1 < s.spMode ∨ s.rd R.TNN_INJCFG_LOOP = 2 ∧ s.tlMode ≠ 0)
    (hshape : s.rd R.TNN_INJCFG_SHAPE ≠ 3) : Completes .injectionStart s (fun t =>
      t.tnn.inj = some
        { tilt := s.rd R.TNN_INJCFG_LOOP == 2, output := s.on R.TNN_INJCFG_POINT, shape := s.rd R.TNN_INJCFG_SHAPE, n := 0, lfsr := 0x7FF#11, stop := false }
        ∧ Frame [] s t) := by
  refine completes_of_done (if_neg ?_) (by rw [State.settle_tnn]; exact ⟨rfl, ((Frame.refl [] s).onTnn _).settle⟩)
  rcases hrun with ⟨hloop, hmode⟩ | ⟨hloop, hmode⟩
  · simp [hloop, hshape, Nat.not_le.mpr hmode]
  · simp [hloop, hshape, hmode]

theorem exec_injectionStart_of_bad (h : s.rd R.TNN_INJCFG_LOOP = 0 ∨ s.rd R.TNN_INJCFG_LOOP = 3 ∨ s.rd R.TNN_INJCFG_SHAPE = 3
    ∨ (s.rd R.TNN_INJCFG_LOOP = 1 ∧ s.spMode ≤ 1) ∨ (s.rd R.TNN_INJCFG_LOOP = 2 ∧ s.tlMode = 0)) :
    exec .injectionStart s = (s.refuse R.TNN_INTSTAT_BADCFG).done := by
  refine if_pos ?_
  rcases h with h | h | h | ⟨h, hmode⟩ | ⟨h, hmode⟩ <;> simp [*]

theorem injectionStop_asks (s : State) : Completes .injectionStop s (fun t =>
    t.tnn.inj = s.tnn.inj.map (fun i => { i with stop := true }) ∧ Frame [] s t) :=
  completes_of_done (u := s.onTnn (fun t => { t with inj := t.inj.map (fun i => { i with stop := true }) })) rfl
    (by rw [State.settle_tnn]; exact ⟨rfl, ((Frame.refl [] s).onTnn _).settle⟩)

/-- The end of the loop's injection shows in INJ and INJEND. -/
theorem State.endInject_of_some {i : Inject} (h : s.tnn.inj = some i) :
    (s.endInject i.tilt).tnn.inj = none ∧ (s.endInject i.tilt).rd R.TNN_STATUS_INJ = 0
      ∧ (s.endInject i.tilt).rd R.TNN_INTSTAT_INJEND = 1 := by
  unfold State.endInject
  rw [h]
  dsimp only
  rw [if_pos (beq_self_eq_true _), State.scanEval_tnn, (State.scanEval_offScan _).rd _ (by decide), (State.scanEval_offScan _).rd _ (by decide),
    State.rd_flag, if_neg (by decide), State.rd_flag, if_pos rfl, State.rd_wr_same]
  exact ⟨rfl, rfl, rfl⟩

theorem injectionEnd_ends {i : Inject} (hinj : s.tnn.inj = some i) (hlen : s.rd R.TNN_INJLEN_LEN ≠ 0)
    (hn : s.rd R.TNN_INJLEN_LEN ≤ i.n) : Completes .injectionEnd s (fun t =>
      t.tnn.inj = none ∧ t.rd R.TNN_STATUS_INJ = 0 ∧ t.rd R.TNN_INTSTAT_INJEND = 1 ∧ KeepsMemory s t) := by
  have hexec : exec .injectionEnd s = (s.endInject i.tilt).done := by
    show execInjectionEnd s = _
    unfold execInjectionEnd
    rw [hinj]
    exact if_pos (by simp [hlen, hn])
  obtain ⟨hnone, hoff, hend⟩ := State.endInject_of_some hinj
  refine completes_of_done hexec ?_
  rw [State.settle_tnn, State.settle_rd _ _ (by decide) (by decide), State.settle_rd _ _ (by decide) (by decide)]
  exact ⟨hnone, hoff, hend, ((State.endInject_only ..).keepsMemory (by decide) (by decide)).settle⟩

/-! ### Response captures (R84) -/

/-- A response capture is armed. -/
def State.captureArmed (s : State) (addr n : Nat) : State :=
  ((s.onTnn (fun t => { t with cap := some { tilt := s.rd R.TNN_CAPCFG_LOOP == 2, addr := addr, len := n, n := 0
                                             waitInj := s.on R.TNN_CAPCFG_TRIG } })).wr R.TNN_CAPCNT_CNT 0).wr R.TNN_STATUS_CAP 1

theorem exec_captureStart {addr n : Nat} (haddr : s.rd R.TNN_CAPADDRLO_ADDR + 2 ^ 32 * s.rd R.TNN_CAPADDRHI_ADDR = addr)
    (hn : n = if s.rd R.TNN_CAPCFG_LEN = 0 then 65536 else s.rd R.TNN_CAPCFG_LEN) : exec .captureStart s =
      if s.rd R.TNN_CAPCFG_LOOP = 0 ∨ s.rd R.TNN_CAPCFG_LOOP = 3 ∨ addr % 16 ≠ 0 ∨ addr < s.fwu.alloc.scratch.1
        ∨ s.fwu.alloc.scratch.1 + s.fwu.alloc.scratch.2 < addr + 16 * n
      then (s.refuse R.TNN_INTSTAT_BADCFG).done else (s.captureArmed addr n).done := by
  show execCaptureStart s = _
  unfold execCaptureStart
  dsimp only
  rw [haddr, ← hn]
  exact if_congr (by simp only [Bool.or_eq_true, decide_eq_true_eq, bne_iff_ne, or_assoc]) rfl rfl

theorem captureStart_starts {addr n : Nat} (haddr : s.rd R.TNN_CAPADDRLO_ADDR + 2 ^ 32 * s.rd R.TNN_CAPADDRHI_ADDR = addr)
    (hloop : s.rd R.TNN_CAPCFG_LOOP = 1 ∨ s.rd R.TNN_CAPCFG_LOOP = 2) (halign : addr % 16 = 0) (hlo : s.fwu.alloc.scratch.1 ≤ addr)
    (hn : n = if s.rd R.TNN_CAPCFG_LEN = 0 then 65536 else s.rd R.TNN_CAPCFG_LEN)
    (hhi : addr + 16 * n ≤ s.fwu.alloc.scratch.1 + s.fwu.alloc.scratch.2) : Completes .captureStart s (fun t =>
      t.rd R.TNN_STATUS_CAP = 1 ∧ t.rd R.TNN_CAPCNT_CNT = 0
        ∧ t.tnn.cap = some { tilt := s.rd R.TNN_CAPCFG_LOOP == 2, addr := addr, len := n, n := 0, waitInj := s.on R.TNN_CAPCFG_TRIG }
        ∧ Frame [R.TNN_STATUS_CAP, R.TNN_CAPCNT_CNT] s t) := by
  refine completes_of_done ((exec_captureStart haddr hn).trans (if_neg (by omega))) ?_
  rw [State.settle_tnn, State.settle_rd _ _ (by decide) (by decide), State.settle_rd _ _ (by decide) (by decide), State.captureArmed,
    State.rd_wr_same, State.rd_wr_ne _ _ _ _ (by decide), State.rd_wr_same]
  exact ⟨rfl, rfl, rfl, ((((Frame.refl _ s).onTnn _).wr (by decide)).wr (by decide)).settle⟩

theorem capdone_ends {c : RespCap} (hcap : s.tnn.cap = some c) (hfull : c.len ≤ c.n) : Completes .capdone s (fun t =>
    t.tnn.cap = none ∧ t.rd R.TNN_STATUS_CAP = 0 ∧ t.rd R.TNN_INTSTAT_CAPDONE = 1
      ∧ Frame [R.TNN_STATUS_CAP, R.TNN_INTSTAT_CAPDONE] s t) := by
  have hexec : exec .capdone s =
      (((s.onTnn (fun t => { t with cap := none })).wr R.TNN_STATUS_CAP 0).flag R.TNN_INTSTAT_CAPDONE).done := by
    show execCapdone s = _
    unfold execCapdone
    rw [hcap]
    exact if_pos hfull
  refine completes_of_done hexec ?_
  rw [State.settle_tnn, State.settle_rd _ _ (by decide) (by decide), State.settle_rd _ _ (by decide) (by decide), State.rd_flag,
    if_neg (by decide), State.rd_wr_same, State.rd_flag, if_pos rfl]
  exact ⟨rfl, rfl, rfl, ((((Frame.refl _ s).onTnn _).wr (by decide)).wr (f := R.TNN_INTSTAT_CAPDONE) (by decide)).settle⟩

end

/-- Settles O26: each request from the law of its branch. -/
theorem spindleRequestsInjectionCapture : Obligations.SpindleRequestsInjectionCapture :=
  ⟨fun _ _ hm hbank hrun => spindleModeRequest_taken hm hbank hrun,
    fun m s h => completes_of_badcfg ((exec_spindleModeRequest m s).trans (by rw [State.requestSp_of_bad h])),
    fun _ _ h => tnnSpcfgWrite_taken h, fun _ _ h => tnnSpcfgWrite_refused h, fun _ hswap hbank => spindleSwap_asks hswap hbank,
    fun _ hswap => completes_of_ignored (if_pos hswap),
    fun _ hswap hbank => completes_of_badcfg ((if_neg (by simp [hswap])).trans (if_neg (by simp [hbank]))),
    fun _ hrun hshape => injectionStart_starts hrun hshape, fun _ h => completes_of_badcfg (exec_injectionStart_of_bad h), injectionStop_asks,
    fun _ _ hinj hlen hn => injectionEnd_ends hinj hlen hn,
    fun _ _ _ haddr hloop halign hlo hn hhi => captureStart_starts haddr hloop halign hlo hn hhi,
    fun _ _ _ haddr hn h => completes_of_badcfg ((exec_captureStart haddr hn).trans (if_pos h)), fun _ _ hcap hfull => capdone_ends hcap hfull⟩

end Sys2Proof.Machine
end

section
/-!
The spindle's sample and the commands around its loops (R67, R71, R74, R75, R77, R79): what a sample in each mode leaves, and what speed
capture, lock, the end of a blend and following errors change (O24).
-/
namespace Sys2Proof.Machine

/-! ### What a sample of the spindle leaves alone -/

/-- The fields that a sample of a spindle loop shows. -/
def sampleFlds : List Fld := [R.TNN_STATUS_BLEND, R.TNN_STATUS_SPSAT, R.TNN_SPEED_V, R.TNN_SPERR_E, R.TNN_SPOUT_U]

/-- What the encoder has counted. -/
def TnnState.encoder (t : TnnState) : Int × Nat × Nat × Bool := (t.count, t.edgeTick, t.interval, t.reverse)

/-- The motion that a sample measures, and the settings of its loops, are the same. -/
structure SameMotion (s t : State) : Prop where
  frame   : Frame sampleFlds s t
  clk     : t.clk = s.clk
  peg     : t.peg = s.peg
  encoder : t.tnn.encoder = s.tnn.encoder

section
variable {s t u : State}

theorem Frame.draw {l : List Fld} (h : Frame l s u) : Frame l s u.draw := h.trans ⟨fun _ _ _ => rfl, fun _ => rfl, fun _ => rfl⟩

theorem SameMotion.refl (s : State) : SameMotion s s := ⟨Frame.refl .., rfl, rfl, rfl⟩

theorem SameMotion.trans (h : SameMotion s t) (h' : SameMotion t u) : SameMotion s u :=
  ⟨h.frame.trans h'.frame, h'.clk.trans h.clk, h'.peg.trans h.peg, h'.encoder.trans h.encoder⟩

theorem SameMotion.wr {f : Fld} (h : SameMotion s t) (hf : f ∈ sampleFlds) (v : Nat) : SameMotion s (t.wr f v) :=
  ⟨h.frame.wr hf, h.clk, h.peg, h.encoder⟩

theorem SameMotion.sendTorque (h : SameMotion s t) (typ : Nat) (d : BitVec 16) : SameMotion s (t.sendTorque typ d) :=
  ⟨(h.frame.onTnn _).emit _, h.clk, h.peg, h.encoder⟩

/-- A field of a spindle bank keeps its value. -/
theorem SameMotion.bank (h : SameMotion s t) (f : Fld) (hlo : 18907136 ≤ f.key) (hhi : f.key < 19000000) : t.rd f = s.rd f := by
  refine h.frame.rd f ?_ ⟨?_, by omega⟩
  · simp only [sampleFlds, List.forall_mem_cons, R.TNN_STATUS_BLEND, R.TNN_STATUS_SPSAT, R.TNN_SPEED_V, R.TNN_SPERR_E, R.TNN_SPOUT_U]
    refine ⟨?_, ?_, ?_, ?_, ?_, by simp⟩ <;> omega
  · have hkey : R.GLB_INTCTL_ARMED.key < 18907136 := by decide
    omega

theorem SameMotion.spMode (h : SameMotion s t) : t.spMode = s.spMode := h.frame.rd _ (by decide) (by decide)

theorem SameMotion.spBank (h : SameMotion s t) : t.spBank = s.spBank := h.frame.rd _ (by decide) (by decide)

theorem SameMotion.cpr (h : SameMotion s t) : t.cpr = s.cpr := by
  rw [State.cpr, State.cpr, h.frame.rd _ (by decide) (by decide)]

/-- The encoder's fields one by one. -/
theorem SameMotion.counted (h : SameMotion s t) :
    t.tnn.count = s.tnn.count ∧ t.tnn.edgeTick = s.tnn.edgeTick ∧ t.tnn.interval = s.tnn.interval ∧ t.tnn.reverse = s.tnn.reverse := by
  simpa only [TnnState.encoder, Prod.mk.injEq] using h.encoder

theorem SameMotion.phi (h : SameMotion s t) : t.phi = s.phi := by
  obtain ⟨hcount, hedge, hinterval, hreverse⟩ := h.counted
  rw [State.phi, State.phi, State.edgeAge, State.edgeAge, h.cpr, h.clk, hcount, hedge, hinterval, hreverse]

theorem SameMotion.speed (h : SameMotion s t) : t.speed = s.speed := by
  obtain ⟨-, hedge, hinterval, hreverse⟩ := h.counted
  rw [State.speed, State.speed, State.countTicks, State.countTicks, h.cpr, h.clk, hedge, hinterval, hreverse]

theorem SameMotion.framePeriod (h : SameMotion s t) : t.framePeriod = s.framePeriod := by
  rw [State.framePeriod, State.framePeriod, h.peg, h.frame.rd _ (by decide) (by decide)]

theorem SameMotion.target (h : SameMotion s t) : t.target = s.target := by
  rw [State.target, State.target, h.framePeriod, h.frame.rd _ (by decide) (by decide)]

theorem SameMotion.phiRef (h : SameMotion s t) : t.phiRef = s.phiRef := by
  rw [State.phiRef, State.phiRef, State.frameAge, State.frameAge, State.nowLsb, State.nowLsb, h.framePeriod, h.peg, h.clk,
    h.frame.rd R.TNN_SPCFG_REVS (by decide) (by decide), h.frame.rd R.TNN_PHOFS_PHOFS (by decide) (by decide)]

theorem SameMotion.phaseErr (h : SameMotion s t) : t.phaseErr = s.phaseErr := by
  rw [State.phaseErr, State.phaseErr, h.phiRef, h.phi]

theorem SameMotion.fr (h : SameMotion s t) (f : Fld) (hlo : 18907136 ≤ f.key) (hhi : f.key < 19000000) : t.fr f = s.fr f := by
  rw [State.fr, State.fr, h.bank f hlo hhi]

theorem SameMotion.speedCoef (h : SameMotion s t) (b : Nat) : t.speedCoef b = s.speedCoef b := by
  simp (disch := (dsimp only [R.TNN_SP_SKP, R.TNN_SP_SKI, R.TNN_SP_SKD, R.TNN_SP_STF, R.TNN_SP_SIMIN, R.TNN_SP_SIMAX, R.TNN_SP_UMIN,
    R.TNN_SP_UMAX]; omega)) only [State.speedCoef, h.fr]

theorem SameMotion.phaseCoef (h : SameMotion s t) (b : Nat) : t.phaseCoef b = s.phaseCoef b := by
  simp (disch := (dsimp only [R.TNN_SP_PKP, R.TNN_SP_PKI, R.TNN_SP_PKD, R.TNN_SP_PTF, R.TNN_SP_PIMIN, R.TNN_SP_PIMAX, R.TNN_SP_UMIN,
    R.TNN_SP_UMAX]; omega)) only [State.phaseCoef, h.fr]

theorem SameMotion.ramp (h : SameMotion s t) (b : Nat) : t.fr (R.TNN_SP_RAMP b) = s.fr (R.TNN_SP_RAMP b) :=
  h.fr _ (by dsimp only [R.TNN_SP_RAMP]; omega) (by dsimp only [R.TNN_SP_RAMP]; omega)

theorem SameMotion.lockWin (h : SameMotion s t) (b : Nat) : t.fr (R.TNN_SP_LOCKWIN b) = s.fr (R.TNN_SP_LOCKWIN b) :=
  h.fr _ (by dsimp only [R.TNN_SP_LOCKWIN]; omega) (by dsimp only [R.TNN_SP_LOCKWIN]; omega)

theorem SameMotion.spFf (h : SameMotion s t) (v : Word) : t.spFf v = s.spFf v := by
  simp (disch := (dsimp only [R.TNN_SP_COG, R.TNN_SP_FRIC]; omega)) only [State.spFf, h.spBank, h.phi, h.fr]

theorem SameMotion.phaseIn (h : SameMotion s t) (r u b : Word) : t.phaseIn r u b = s.phaseIn r u b := by
  rw [State.phaseIn, State.phaseIn, h.phiRef, h.phi, h.phaseErr, h.speed, h.spFf]

theorem SameMotion.speedIn (h : SameMotion s t) (sp r u b : Word) : t.speedIn sp r u b = s.speedIn sp r u b := by
  rw [State.speedIn, State.speedIn, h.spMode, h.phaseErr, h.target, h.speed, h.spFf]

theorem SameMotion.demand (h : SameMotion s t) (v : Word) : t.demand v = s.demand v := by
  rw [State.demand, State.demand, State.on, State.on, h.frame.rd _ (by decide) (by decide)]

end

section
variable {s : State}

/-! ### The sample in OFF, COAST and TEST (R67, R71, R74) -/

/-- The sample shows the speed. -/
def State.speedShown (s : State) : State := s.fw R.TNN_SPEED_V s.speed

theorem State.speedShown_same (s : State) : SameMotion s s.speedShown := (SameMotion.refl s).wr (by decide) _

theorem State.speedShown_rd (s : State) : s.speedShown.rd R.TNN_SPEED_V = s.speed.toNat :=
  (State.rd_wr_same s R.TNN_SPEED_V s.speed.toNat).trans (Nat.mod_eq_of_lt s.speed.isLt)

theorem State.spSwapNow_of_none (h : s.tnn.spSwap = false) : s.spSwapNow = s := if_neg (by simp [h])

/-- A sample without a loop: nothing is clamped. -/
def State.unclamped (s : State) : State := (s.speedShown.wr R.TNN_STATUS_SPSAT 0).draw.draw

theorem State.unclamped_frame (s : State) : Frame [R.TNN_SPEED_V, R.TNN_STATUS_SPSAT] s s.unclamped :=
  (((Frame.refl _ s).wr (f := R.TNN_SPEED_V) (by decide)).wr (by decide)).draw.draw

theorem State.unclamped_rd (s : State) : s.unclamped.rd R.TNN_SPEED_V = s.speed.toNat ∧ s.unclamped.rd R.TNN_STATUS_SPSAT = 0 := by
  rw [State.unclamped, State.draw_rd, State.draw_rd, State.draw_rd, State.draw_rd, State.rd_wr_same, State.rd_wr_ne _ _ _ _ (by decide),
    State.speedShown_rd]
  exact ⟨rfl, rfl⟩

theorem exec_spindleSample_of_off (hswap : s.tnn.spSwap = false) (hmode : s.spMode = 0) (hcap : s.tnn.cap = none) :
    exec .spindleSample s = (s.unclamped.onTnn (fun t => { t with portQuiet := true })).done := by
  have hmode' : (s.fw R.TNN_SPEED_V s.speed).spMode = 0 := s.speedShown_same.spMode.trans hmode
  show execSpindleSample s = _
  unfold execSpindleSample
  rw [State.spSwapNow_of_none hswap]
  dsimp only
  rw [hmode', State.capSample_of_none (s := (s.fw R.TNN_SPEED_V s.speed).wr R.TNN_STATUS_SPSAT 0) hcap]
  rfl

theorem spindleSample_off (hswap : s.tnn.spSwap = false) (hmode : s.spMode = 0) (hcap : s.tnn.cap = none) :
    Completes .spindleSample s (fun t =>
      t.rd R.TNN_SPEED_V = s.speed.toNat ∧ t.tnn.portQuiet = true ∧ t.rd R.TNN_STATUS_SPSAT = 0
        ∧ Frame [R.TNN_SPEED_V, R.TNN_STATUS_SPSAT] s t) := by
  obtain ⟨hspeed, hsat⟩ := s.unclamped_rd
  refine completes_of_done (exec_spindleSample_of_off hswap hmode hcap) ?_
  rw [State.settle_tnn, State.settle_rd _ _ (by decide) (by decide), State.settle_rd _ _ (by decide) (by decide)]
  exact ⟨hspeed, rfl, hsat, (s.unclamped_frame.onTnn _).settle⟩

/-- DEMAND of a coast frame is never -32,768 (R67). -/
theorem coastDemand_ne (n : Nat) : coastDemand n ≠ 0x8000#16 := by
  unfold coastDemand
  split
  · decide
  · assumption

theorem exec_spindleSample_of_coast (hswap : s.tnn.spSwap = false) (hmode : s.spMode = 1) (hcap : s.tnn.cap = none) :
    exec .spindleSample s = (s.unclamped.sendTorque 1 (coastDemand s.fresh)).draw.done := by
  have hmode' : (s.fw R.TNN_SPEED_V s.speed).spMode = 1 := s.speedShown_same.spMode.trans hmode
  show execSpindleSample s = _
  unfold execSpindleSample
  rw [State.spSwapNow_of_none hswap]
  dsimp only
  rw [hmode', State.capSample_of_none (s := (s.fw R.TNN_SPEED_V s.speed).wr R.TNN_STATUS_SPSAT 0) hcap]
  rfl

theorem spindleSample_coast (hswap : s.tnn.spSwap = false) (hmode : s.spMode = 1) (hcap : s.tnn.cap = none) :
    Completes .spindleSample s (fun t =>
      t.rd R.TNN_SPEED_V = s.speed.toNat ∧ t.tnn.portQuiet = false ∧ t.tnn.seq = (if s.tnn.portQuiet then 0 else s.tnn.seq) + 1
        ∧ (∃ w, w ≠ 0x8000 ∧ Emit.torque (torqueFrame 1 (if s.tnn.portQuiet then 0 else s.tnn.seq) w) ∈ t.out)
        ∧ t.rd R.TNN_STATUS_SPSAT = 0 ∧ Frame [R.TNN_SPEED_V, R.TNN_STATUS_SPSAT] s t) := by
  obtain ⟨hspeed, hsat⟩ := s.unclamped_rd
  refine completes_of_done (exec_spindleSample_of_coast hswap hmode hcap) ?_
  rw [State.settle_tnn, State.settle_rd _ _ (by decide) (by decide), State.settle_rd _ _ (by decide) (by decide)]
  exact ⟨hspeed, rfl, rfl, ⟨_, coastDemand_ne _, State.settle_out _ List.mem_cons_self⟩, hsat,
    ((s.unclamped_frame.onTnn _).emit _).draw.settle⟩

/-- The open-loop output. -/
def State.openOut (s : State) : Word := fAdd (s.fr R.TNN_SPOPEN_U) 0

/-- A sample in TEST shows the open-loop output. -/
def State.openShown (s : State) : State :=
  ((s.speedShown.fw R.TNN_SPOUT_U s.openOut).wr R.TNN_STATUS_SPSAT 0).draw.draw.onTnn (fun t => { t with sp := { t.sp with u := s.openOut } })

theorem exec_spindleSample_of_test (hswap : s.tnn.spSwap = false) (hmode : s.spMode = 4) (hcap : s.tnn.cap = none)
    (hinj : s.tnn.inj = none) :
    exec .spindleSample s = (s.openShown.sendTorque 0 (((s.speedShown.fw R.TNN_SPOUT_U s.openOut).wr R.TNN_STATUS_SPSAT 0).demand
      s.openOut)).done := by
  have hmode' : (s.fw R.TNN_SPEED_V s.speed).spMode = 4 := s.speedShown_same.spMode.trans hmode
  have hopen : fAdd ((s.fw R.TNN_SPEED_V s.speed).fr R.TNN_SPOPEN_U) 0 = s.openOut :=
    congrArg (fun n => fAdd (BitVec.ofNat 32 n) 0) (State.rd_wr_ne s R.TNN_SPEED_V R.TNN_SPOPEN_U _ (by decide))
  show execSpindleSample s = _
  unfold execSpindleSample
  rw [State.spSwapNow_of_none hswap]
  dsimp only
  rw [hmode']
  show (s.fw R.TNN_SPEED_V s.speed).spindleTest.done = _
  rw [State.spindleTest, State.injSample_of_none (s := s.fw R.TNN_SPEED_V s.speed) hinj]
  dsimp only
  rw [hopen, State.capSample_of_none (s := ((s.fw R.TNN_SPEED_V s.speed).fw R.TNN_SPOUT_U s.openOut).wr R.TNN_STATUS_SPSAT 0) hcap]
  rfl

theorem spindleSample_test (hswap : s.tnn.spSwap = false) (hmode : s.spMode = 4) (hcap : s.tnn.cap = none) (hinj : s.tnn.inj = none) :
    Completes .spindleSample s (fun t =>
      t.rd R.TNN_SPOUT_U = (fAdd (s.fr R.TNN_SPOPEN_U) 0).toNat ∧ t.tnn.sp.u = fAdd (s.fr R.TNN_SPOPEN_U) 0
        ∧ Emit.torque (torqueFrame 0 (if s.tnn.portQuiet then 0 else s.tnn.seq) (s.demand (fAdd (s.fr R.TNN_SPOPEN_U) 0))) ∈ t.out
        ∧ t.rd R.TNN_STATUS_SPSAT = 0 ∧ Frame [R.TNN_SPEED_V, R.TNN_SPOUT_U, R.TNN_STATUS_SPSAT] s t) := by
  have hsame : SameMotion s ((s.speedShown.fw R.TNN_SPOUT_U s.openOut).wr R.TNN_STATUS_SPSAT 0) :=
    (s.speedShown_same.wr (f := R.TNN_SPOUT_U) (by decide) _).wr (by decide) 0
  have hframe : Frame [R.TNN_SPEED_V, R.TNN_SPOUT_U, R.TNN_STATUS_SPSAT] s s.openShown :=
    (((((Frame.refl _ s).wr (f := R.TNN_SPEED_V) (by decide)).wr (f := R.TNN_SPOUT_U) (by decide)).wr (by decide)).draw.draw).onTnn _
  have hout : s.openShown.rd R.TNN_SPOUT_U = s.openOut.toNat := by
    rw [State.openShown, State.onTnn_rd, State.draw_rd, State.draw_rd, State.rd_wr_ne _ _ _ _ (by decide), State.fw, State.rd_wr_same]
    exact Nat.mod_eq_of_lt s.openOut.isLt
  have hsat : s.openShown.rd R.TNN_STATUS_SPSAT = 0 := by
    rw [State.openShown, State.onTnn_rd, State.draw_rd, State.draw_rd, State.rd_wr_same]
    rfl
  refine completes_of_done (exec_spindleSample_of_test hswap hmode hcap hinj) ?_
  rw [State.settle_tnn, State.settle_rd _ _ (by decide) (by decide), State.settle_rd _ _ (by decide) (by decide), hsame.demand]
  exact ⟨hout, rfl, State.settle_out _ List.mem_cons_self, hsat, ((hframe.onTnn _).emit _).settle⟩

/-! ### What a sample of a loop sends (R67, R71) -/

/-- What a sample of a spindle loop leaves in Tenon's record, in the registers and on the torque port while no capture runs. -/
theorem State.spOut_leaves (hcap : s.tnn.cap = none) (x : LoopIn) (u : Word) (sat : Bool) :
    (s.spOut x u sat).tnn = { s.tnn with seq := (if s.tnn.portQuiet then 0 else s.tnn.seq) + 1, portQuiet := false }
      ∧ (s.spOut x u sat).rd R.TNN_SPOUT_U = u.toNat ∧ (s.spOut x u sat).rd R.TNN_STATUS_SPSAT = sat.toNat
      ∧ Emit.torque (torqueFrame 0 (if s.tnn.portQuiet then 0 else s.tnn.seq) (s.demand u)) ∈ (s.spOut x u sat).out
      ∧ SameMotion s (s.spOut x u sat) := by
  have hsame : SameMotion s (((s.fw R.TNN_SPERR_E x.e).fw R.TNN_SPOUT_U u).wrB R.TNN_STATUS_SPSAT sat) :=
    (((SameMotion.refl s).wr (f := R.TNN_SPERR_E) (by decide) _).wr (f := R.TNN_SPOUT_U) (by decide) _).wr (by decide) _
  have hout : s.spOut x u sat = (((s.fw R.TNN_SPERR_E x.e).fw R.TNN_SPOUT_U u).wrB R.TNN_STATUS_SPSAT sat).sendTorque 0 (s.demand u) := by
    unfold State.spOut
    dsimp only
    rw [State.capSample_of_none (s := ((s.fw R.TNN_SPERR_E x.e).fw R.TNN_SPOUT_U u).wrB R.TNN_STATUS_SPSAT sat) hcap, hsame.demand]
  rw [hout]
  refine ⟨rfl, ?_, ?_, List.mem_cons_self, hsame.sendTorque ..⟩
  · show (((s.fw R.TNN_SPERR_E x.e).fw R.TNN_SPOUT_U u).wrB R.TNN_STATUS_SPSAT sat).rd R.TNN_SPOUT_U = _
    rw [State.rd_wrB_ne _ _ _ _ (by decide), State.fw, State.rd_wr_same]
    exact Nat.mod_eq_of_lt u.isLt
  · exact State.rd_wrB_same _ _ rfl sat

/-- The counters of the speed loop leave what the sample has sent. -/
theorem State.speedCounts_leaves (s : State) (sp0 : Word) :
    (s.speedCounts sp0).tnn.sp = s.tnn.sp ∧ (s.speedCounts sp0).tnn.setpoint = sp0 ∧ Spares (OffScan []) s (s.speedCounts sp0)
      ∧ KeepsMemory s (s.speedCounts sp0) := by
  unfold State.speedCounts
  rw [State.scanEval_tnn]
  exact ⟨rfl, rfl, ((Spares.refl _ s).onTnn _).trans (State.scanEval_offScan _),
    ((Frame.refl [] s).onTnn _).2.trans (State.scanEval_keepsMemory _)⟩

/-- The counters of the phase loop leave what the sample has sent. -/
theorem State.phaseCounts_leaves (s : State) (e : Word) :
    (∃ ok, (s.phaseCounts e).tnn = { s.tnn with
        lockN := if fLe (fAbs (fTurn s.phaseErr)) (s.fr (R.TNN_SP_LOCKWIN s.spBank)) then s.tnn.lockN + 1 else 0, spOk := ok })
      ∧ Spares (OffScan [R.TNN_FECNT_SP]) s (s.phaseCounts e) ∧ KeepsMemory s (s.phaseCounts e) := by
  unfold State.phaseCounts
  rw [State.scanEval_tnn]
  exact ⟨⟨_, rfl⟩, (((Spares.refl _ s).wr (not_offScan (by decide))).onTnn _).trans ((State.scanEval_offScan _).offScan_mono (by decide)),
    (((Frame.refl [R.TNN_FECNT_SP] s).wr (by decide)).onTnn _).2.trans (State.scanEval_keepsMemory _)⟩

/-! ### A sample in SPEED and LOCK (R71, R75, R77) -/

theorem exec_spindleSample_of_loop (hswap : s.tnn.spSwap = false) (hmode : s.spMode = 2 ∨ s.spMode = 3) :
    exec .spindleSample s = s.speedShown.spindleLoop.done := by
  have hmode' : (s.fw R.TNN_SPEED_V s.speed).spMode = s.spMode := s.speedShown_same.spMode
  show execSpindleSample s = _
  unfold execSpindleSample
  rw [State.spSwapNow_of_none hswap]
  dsimp only
  rw [hmode']
  rcases hmode with hmode | hmode <;> rw [hmode] <;> rfl

/-- A sample of the loop that runs takes its new state. -/
def State.loopTaken (s : State) (l : LoopState) : State :=
  (s.onTnn (fun t => { t with sp := l, fall := false, blendN := min (t.blendN + 1) 2500 })).wrB R.TNN_STATUS_BLEND
    (!fEq (blendAt s.tnn.blend0 s.tnn.blendN) 0)

theorem State.loopTaken_same (s : State) (l : LoopState) : SameMotion s (s.loopTaken l) :=
  ⟨((Frame.refl _ s).onTnn _).wr (by decide), rfl, rfl, rfl⟩

/-- The hand-over sample takes the state of the loop that begins (R77). -/
def State.handedOver (s : State) (p : LoopState × Word × Bool) : State :=
  (s.onTnn (fun t => { t with sp := p.1, phaseLoop := true, fall := false, engage := false, blend0 := p.2.1, blendN := 1 })).wrB
    R.TNN_STATUS_BLEND (!fEq p.2.1 0)

theorem State.handedOver_same (s : State) (p : LoopState × Word × Bool) : SameMotion s (s.handedOver p) :=
  ⟨((Frame.refl _ s).onTnn _).wr (by decide), rfl, rfl, rfl⟩

/-- The speed loop's input of this sample. -/
def State.rampedIn (s : State) : LoopIn :=
  s.speedIn (rampToward (s.fr (R.TNN_SP_RAMP s.spBank)) s.tnn.setpoint s.target) 0 0 (blendAt s.tnn.blend0 s.tnn.blendN)

/-- The phase loop's input of this sample. -/
def State.lockedIn (s : State) : LoopIn := s.phaseIn 0 0 (blendAt s.tnn.blend0 s.tnn.blendN)

theorem State.wantPhase_of_speed (h : s.spMode = 2) : s.wantPhase = false := by simp [State.wantPhase, h]

theorem State.wantPhase_of_locked (h : s.spMode = 3) (hfall : s.tnn.fall = false) (hloop : s.tnn.phaseLoop = true) :
    s.wantPhase = true := by simp [State.wantPhase, h, hfall, hloop]

theorem State.wantPhase_of_captured (h : s.spMode = 3) (hfall : s.tnn.fall = false)
    (hcap : max 1 (s.rd R.TNN_LOCKCFG_CAPCNT) ≤ s.capNow) (hnear : turnWithin s.phaseErr 5 1000 = true) : s.wantPhase = true := by
  simp only [State.wantPhase, h, hfall, hcap, hnear]
  simp

theorem State.spindleLoop_of_speed {l : LoopState} {sat : Bool} (hinj : s.tnn.inj = none) (hmode : s.spMode = 2)
    (hloop : s.tnn.phaseLoop = false) (heng : s.tnn.engage = false)
    (hstep : loopStep (s.speedCoef s.spBank) (tsOf false) s.tnn.sp s.rampedIn = (l, sat)) :
    s.spindleLoop = ((s.loopTaken l).spOut s.rampedIn l.u sat).speedCounts
      (rampToward (s.fr (R.TNN_SP_RAMP s.spBank)) s.tnn.setpoint s.target) := by
  unfold State.rampedIn at hstep
  simp only [State.spindleLoop, State.injSample_of_none hinj, State.wantPhase_of_speed hmode, hloop, heng, bne_self_eq_false,
    Bool.or_false, Bool.false_eq_true, if_false, hstep]
  rfl

theorem State.spindleLoop_of_locked {l : LoopState} {sat : Bool} (hinj : s.tnn.inj = none) (hmode : s.spMode = 3)
    (hloop : s.tnn.phaseLoop = true) (hfall : s.tnn.fall = false) (heng : s.tnn.engage = false)
    (hstep : loopStep (s.phaseCoef s.spBank) (tsOf false) s.tnn.sp s.lockedIn = (l, sat)) :
    s.spindleLoop = ((s.loopTaken l).spOut s.lockedIn l.u sat).phaseCounts s.lockedIn.e := by
  unfold State.lockedIn at hstep
  simp only [State.spindleLoop, State.injSample_of_none hinj, State.wantPhase_of_locked hmode hfall hloop, hloop, heng,
    bne_self_eq_false, Bool.or_false, Bool.false_eq_true, if_false, if_true, hstep]
  rfl

theorem State.spindleLoop_of_captured {p : LoopState × Word × Bool} (hinj : s.tnn.inj = none) (hloop : s.tnn.phaseLoop = false)
    (hwant : s.wantPhase = true) (hp : loopHandOver (s.phaseCoef s.spBank) s.tnn.sp.u (s.phaseIn 0 0 0) = p) :
    s.spindleLoop = ((s.handedOver p).spOut (s.phaseIn 0 0 0) p.1.u p.2.2).phaseCounts (s.phaseIn 0 0 0).e := by
  subst hp
  simp only [State.spindleLoop, State.injSample_of_none hinj, hwant, hloop, Bool.true_bne, Bool.not_false, Bool.or_true, if_true]
  rfl

/-- What a sample of the running loop leaves before its counters move. -/
theorem State.loopTaken_leaves (hcap : s.tnn.cap = none) (l : LoopState) (x : LoopIn) (sat : Bool) :
    ((s.loopTaken l).spOut x l.u sat).tnn.sp = l ∧ ((s.loopTaken l).spOut x l.u sat).tnn.phaseLoop = s.tnn.phaseLoop
      ∧ ((s.loopTaken l).spOut x l.u sat).tnn.lockN = s.tnn.lockN ∧ ((s.loopTaken l).spOut x l.u sat).rd R.TNN_SPOUT_U = l.u.toNat
      ∧ ((s.loopTaken l).spOut x l.u sat).rd R.TNN_STATUS_SPSAT = sat.toNat
      ∧ Emit.torque (torqueFrame 0 (if s.tnn.portQuiet then 0 else s.tnn.seq) (s.demand l.u)) ∈ ((s.loopTaken l).spOut x l.u sat).out
      ∧ SameMotion s ((s.loopTaken l).spOut x l.u sat) := by
  obtain ⟨htnn, hout, hsat, hsent, hsame⟩ := State.spOut_leaves (s := s.loopTaken l) hcap x l.u sat
  rw [(s.loopTaken_same l).demand] at hsent
  rw [htnn]
  exact ⟨rfl, rfl, rfl, hout, hsat, hsent, (s.loopTaken_same l).trans hsame⟩

theorem spindleSample_speed {l : LoopState} {sat : Bool} (hswap : s.tnn.spSwap = false) (hmode : s.spMode = 2) (hcap : s.tnn.cap = none)
    (hinj : s.tnn.inj = none) (hloop : s.tnn.phaseLoop = false) (heng : s.tnn.engage = false)
    (hstep : loopStep (s.speedCoef s.spBank) (tsOf false) s.tnn.sp s.rampedIn = (l, sat)) : Completes .spindleSample s (fun t =>
      t.tnn.sp = l ∧ t.rd R.TNN_SPOUT_U = l.u.toNat ∧ t.rd R.TNN_STATUS_SPSAT = sat.toNat
        ∧ t.tnn.setpoint = rampToward (s.fr (R.TNN_SP_RAMP s.spBank)) s.tnn.setpoint s.target
        ∧ Emit.torque (torqueFrame 0 (if s.tnn.portQuiet then 0 else s.tnn.seq) (s.demand l.u)) ∈ t.out ∧ KeepsMemory s t) := by
  have h := s.speedShown_same
  have hramp : rampToward (s.speedShown.fr (R.TNN_SP_RAMP s.speedShown.spBank)) s.speedShown.tnn.setpoint s.speedShown.target
      = rampToward (s.fr (R.TNN_SP_RAMP s.spBank)) s.tnn.setpoint s.target := by
    rw [h.spBank, h.ramp, h.target]
    rfl
  have hin : s.speedShown.rampedIn = s.rampedIn := by
    rw [State.rampedIn, hramp, h.speedIn]
    rfl
  have hrun := State.spindleLoop_of_speed (s := s.speedShown) (l := l) (sat := sat) hinj (h.spMode.trans hmode) hloop heng
    (by rw [h.spBank, h.speedCoef, hin]; exact hstep)
  rw [hin, hramp] at hrun
  obtain ⟨hsp, -, -, hout, hsat, hsent, hsame⟩ := State.loopTaken_leaves (s := s.speedShown) hcap l s.rampedIn sat
  rw [h.demand] at hsent
  obtain ⟨hkeep, hset, hoff, hmem⟩ := ((s.speedShown.loopTaken l).spOut s.rampedIn l.u sat).speedCounts_leaves
    (rampToward (s.fr (R.TNN_SP_RAMP s.spBank)) s.tnn.setpoint s.target)
  refine completes_of_done ((exec_spindleSample_of_loop hswap (.inl hmode)).trans (by rw [hrun])) ?_
  rw [State.settle_tnn, State.settle_rd _ _ (by decide) (by decide), State.settle_rd _ _ (by decide) (by decide),
    hoff.rd _ (by decide), hoff.rd _ (by decide)]
  exact ⟨hkeep.trans hsp, hout, hsat, hset, State.settle_out _ (hoff.out hsent), ((h.trans hsame).frame.2.trans hmem).settle⟩

theorem spindleSample_locked {l : LoopState} {sat : Bool} (hswap : s.tnn.spSwap = false) (hmode : s.spMode = 3) (hcap : s.tnn.cap = none)
    (hinj : s.tnn.inj = none) (hloop : s.tnn.phaseLoop = true) (hfall : s.tnn.fall = false) (heng : s.tnn.engage = false)
    (hstep : loopStep (s.phaseCoef s.spBank) (tsOf false) s.tnn.sp s.lockedIn = (l, sat)) : Completes .spindleSample s (fun t =>
      t.tnn.sp = l ∧ t.tnn.phaseLoop = true ∧ t.rd R.TNN_SPOUT_U = l.u.toNat ∧ t.rd R.TNN_STATUS_SPSAT = sat.toNat
        ∧ t.tnn.lockN = (if fLe (fAbs (fTurn s.phaseErr)) (s.fr (R.TNN_SP_LOCKWIN s.spBank)) then s.tnn.lockN + 1 else 0)
        ∧ Emit.torque (torqueFrame 0 (if s.tnn.portQuiet then 0 else s.tnn.seq) (s.demand l.u)) ∈ t.out ∧ KeepsMemory s t) := by
  have h := s.speedShown_same
  have hin : s.speedShown.lockedIn = s.lockedIn := h.phaseIn ..
  have hrun := State.spindleLoop_of_locked (s := s.speedShown) (l := l) (sat := sat) hinj (h.spMode.trans hmode) hloop hfall heng
    (by rw [h.spBank, h.phaseCoef, hin]; exact hstep)
  rw [hin] at hrun
  obtain ⟨hsp, hphase, hlockN, hout, hsat, hsent, hsame⟩ := State.loopTaken_leaves (s := s.speedShown) hcap l s.lockedIn sat
  rw [h.demand] at hsent
  have hall := h.trans hsame
  obtain ⟨⟨ok, htnn⟩, hoff, hmem⟩ := ((s.speedShown.loopTaken l).spOut s.lockedIn l.u sat).phaseCounts_leaves s.lockedIn.e
  rw [hall.phaseErr, hall.spBank, hall.lockWin, hlockN] at htnn
  refine completes_of_done ((exec_spindleSample_of_loop hswap (.inr hmode)).trans (by rw [hrun])) ?_
  rw [State.settle_tnn, State.settle_rd _ _ (by decide) (by decide), State.settle_rd _ _ (by decide) (by decide),
    hoff.rd _ (by decide), hoff.rd _ (by decide), htnn]
  exact ⟨hsp, hphase.trans hloop, hout, hsat, rfl, State.settle_out _ (hoff.out hsent), (hall.frame.2.trans hmem).settle⟩

theorem spindleSample_handsOver (hswap : s.tnn.spSwap = false) (hmode : s.spMode = 3) (hcap : s.tnn.cap = none) (hinj : s.tnn.inj = none)
    (hloop : s.tnn.phaseLoop = false) (hfall : s.tnn.fall = false) (hcapN : max 1 (s.rd R.TNN_LOCKCFG_CAPCNT) ≤ s.capNow)
    (hnear : turnWithin s.phaseErr 5 1000 = true) : Completes .spindleSample s (fun t =>
      t.tnn.phaseLoop = true ∧ t.tnn.blendN = 1 ∧ t.tnn.sp = (loopHandOver (s.phaseCoef s.spBank) s.tnn.sp.u (s.phaseIn 0 0 0)).1
        ∧ t.tnn.blend0 = (loopHandOver (s.phaseCoef s.spBank) s.tnn.sp.u (s.phaseIn 0 0 0)).2.1 ∧ KeepsMemory s t) := by
  have h := s.speedShown_same
  have hnow : s.speedShown.capNow = s.capNow := by
    rw [State.capNow, State.capNow, h.speed, h.target]
    rfl
  have hwant : s.speedShown.wantPhase = true := State.wantPhase_of_captured (h.spMode.trans hmode) hfall
    (by rw [hnow, h.frame.rd _ (by decide) (by decide)]; exact hcapN) (by rw [h.phaseErr]; exact hnear)
  generalize hp : loopHandOver (s.phaseCoef s.spBank) s.tnn.sp.u (s.phaseIn 0 0 0) = p
  have hrun := State.spindleLoop_of_captured (s := s.speedShown) hinj hloop hwant
    (show _ = p by rw [h.spBank, h.phaseCoef, h.phaseIn]; exact hp)
  rw [h.phaseIn] at hrun
  obtain ⟨hsent, -, -, -, hsame⟩ := State.spOut_leaves (s := s.speedShown.handedOver p) hcap (s.phaseIn 0 0 0) p.1.u p.2.2
  obtain ⟨⟨ok, htnn⟩, -, hmem⟩ := ((s.speedShown.handedOver p).spOut (s.phaseIn 0 0 0) p.1.u p.2.2).phaseCounts_leaves (s.phaseIn 0 0 0).e
  refine completes_of_done ((exec_spindleSample_of_loop hswap (.inr hmode)).trans (by rw [hrun])) ?_
  rw [State.settle_tnn, htnn, hsent]
  exact ⟨rfl, rfl, rfl, rfl, (((h.trans (State.handedOver_same _ p)).trans hsame).frame.2.trans hmem).settle⟩

/-! ### Speed capture, lock, the end of a blend and following errors (R75 to R77, R79) -/

theorem speedCapture_captures (hmode : s.spMode = 2 ∨ s.spMode = 3) (hloop : s.tnn.phaseLoop = false)
    (hcap : max 1 (s.rd R.TNN_LOCKCFG_CAPCNT) ≤ s.tnn.capN) : Completes .speedCapture s (fun t =>
      t.tnn.captured = true ∧ (s.spMode = 2 → t.tnn.spinTimer = false) ∧ Frame [] s t) := by
  have hcond : ((s.spMode = 2 || s.spMode = 3) && !s.tnn.phaseLoop && decide (max 1 (s.rd R.TNN_LOCKCFG_CAPCNT) ≤ s.tnn.capN)) = true := by
    simp only [hloop, hcap]
    simpa using hmode
  refine completes_of_done (if_pos hcond) ?_
  rw [State.settle_tnn]
  exact ⟨rfl, fun h => by simp [h], ((Frame.refl [] s).onTnn _).settle⟩

theorem splockSet_locks (hmode : s.spMode = 3) (hloop : s.tnn.phaseLoop = true) (hlock : s.rd R.TNN_STATUS_SPLOCK = 0)
    (hcnt : max 1 (s.rd R.TNN_LOCKCFG_LOCKCNT) ≤ s.tnn.lockN) : Completes .splockSet s (fun t =>
      t.rd R.TNN_STATUS_SPLOCK = 1 ∧ t.rd R.TNN_INTSTAT_LOCKGAIN = 1 ∧ t.tnn.encErr = false ∧ t.tnn.spinTimer = false
        ∧ KeepsMemory s t) := by
  have hcond : (decide (s.spMode = 3) && s.tnn.phaseLoop && !s.on R.TNN_STATUS_SPLOCK
      && decide (max 1 (s.rd R.TNN_LOCKCFG_LOCKCNT) ≤ s.tnn.lockN)) = true := by
    simp only [State.on, hmode, hloop, hlock, hcnt]
    rfl
  refine completes_of_done (if_pos hcond) ?_
  rw [State.settle_tnn, State.scanEval_tnn, State.settle_rd _ _ (by decide) (by decide), State.settle_rd _ _ (by decide) (by decide),
    (State.scanEval_offScan _).rd _ (by decide), (State.scanEval_offScan _).rd _ (by decide), State.onTnn_rd, State.onTnn_rd,
    State.rd_flag, if_neg (by decide), State.rd_wr_same, State.rd_flag, if_pos rfl]
  exact ⟨rfl, rfl, rfl, rfl, ((((Frame.refl [R.TNN_STATUS_SPLOCK, R.TNN_INTSTAT_LOCKGAIN] s).wr (by decide)).wr
    (f := R.TNN_INTSTAT_LOCKGAIN) (by decide)).onTnn _).2.trans (State.scanEval_keepsMemory _) |>.settle⟩

theorem blendEnd_ends (h : 2500 ≤ s.tnn.blendN) : Completes .blendEnd s (fun t =>
    t.rd R.TNN_STATUS_BLEND = 0 ∧ t.tnn.blend0 = 0 ∧ Frame [R.TNN_STATUS_BLEND] s t) := by
  refine completes_of_done (if_pos h) ?_
  rw [State.settle_tnn, State.settle_rd _ _ (by decide) (by decide), State.onTnn_rd, State.rd_wr_same]
  exact ⟨rfl, rfl, (((Frame.refl _ s).wr (by decide)).onTnn _).settle⟩

/-- The spindle's following error falls back to the speed loop of LOCK (R79). -/
def State.fellBack (s : State) : State :=
  ((s.fault R.TNN_INTSTAT_SPFETRIP 1 0).unlock.wr R.TNN_FECNT_SP 0).onTnn (fun t => { t with fall := true, capN := 0, captured := false })

theorem spindleTrip_fallsBack (hmode : s.spMode = 3) (hloop : s.tnn.phaseLoop = true)
    (hcnt : feTrip (s.rd (R.TNN_SP_FETIME s.spBank)) ≤ s.rd R.TNN_FECNT_SP) : Completes (.followingErrorTrip false) s (fun t =>
      t.rd R.TNN_INTSTAT_SPFETRIP = 1 ∧ t.rd R.TNN_FECNT_SP = 0 ∧ t.tnn.fall = true ∧ t.tnn.captured = false
        ∧ t.rd R.TNN_STATUS_SPLOCK = 0 ∧ KeepsMemory s t) := by
  have hexec : exec (.followingErrorTrip false) s = s.fellBack.done := if_pos (by simp [hmode, hloop, hcnt])
  have hmem : KeepsMemory s s.fellBack :=
    (((Frame.refl _ s).fault (l := R.TNN_INTSTAT_SPFETRIP :: reportFlds) (by decide) (by decide)).2.trans
      ((State.unlock_only _).keepsMemory (by decide) (by decide))).trans (((Frame.refl [R.TNN_FECNT_SP] _).wr (by decide)).onTnn _).2
  refine completes_of_done hexec ?_
  rw [State.settle_tnn, State.settle_rd _ _ (by decide) (by decide), State.settle_rd _ _ (by decide) (by decide),
    State.settle_rd _ _ (by decide) (by decide), State.fellBack, State.onTnn_rd, State.onTnn_rd, State.onTnn_rd,
    State.rd_wr_ne _ _ _ _ (by decide), State.rd_wr_same, State.rd_wr_ne _ _ _ _ (by decide), State.unlock_splock,
    (State.unlock_offScan _).rd _ (by decide), State.fault_rd _ _ _ _ _ (by decide) (by decide), if_pos rfl]
  exact ⟨rfl, rfl, rfl, rfl, rfl, hmem.settle⟩

/-- A standing tilt trip makes the scan invalid. -/
theorem State.scanOk_of_tripped (h : s.tnn.tlTrip = true) : s.scanOk = false := by simp [State.scanOk, h]

theorem tiltTrip_endsValidity (hmode : s.tlMode = 1 ∨ s.tlMode = 2) (htrip : s.tnn.tlTrip = false)
    (hcnt : feTrip (s.rd (R.TNN_TL_FETIME s.tlBank)) ≤ s.rd R.TNN_FECNT_TL) : Completes (.followingErrorTrip true) s (fun t =>
      t.rd R.TNN_INTSTAT_TLFETRIP = 1 ∧ t.tnn.tlTrip = true ∧ t.rd R.TNN_STATUS_SCANVALID = 0 ∧ t.tlMode = s.tlMode
        ∧ KeepsMemory s t) := by
  have hcond : ((s.tlMode = 1 || s.tlMode = 2) && !s.tnn.tlTrip
      && decide (feTrip (s.rd (R.TNN_TL_FETIME s.tlBank)) ≤ s.rd R.TNN_FECNT_TL)) = true := by
    simp only [htrip, hcnt]
    simpa using hmode
  have hexec : exec (.followingErrorTrip true) s
      = (((s.fault R.TNN_INTSTAT_TLFETRIP 1 0).onTnn (fun t => { t with tlTrip := true })).scanEval).done := if_pos hcond
  refine completes_of_done hexec ?_
  rw [State.settle_tnn, State.scanEval_tnn, State.tlMode, State.settle_rd _ _ (by decide) (by decide),
    State.settle_rd _ _ (by decide) (by decide), State.settle_rd _ _ (by decide) (by decide),
    State.scanEval_invalid (State.scanOk_of_tripped rfl), (State.scanEval_offScan _).rd _ (by decide),
    (State.scanEval_offScan _).rd _ (by decide), State.onTnn_rd, State.onTnn_rd, State.fault_rd _ _ _ _ _ (by decide) (by decide),
    if_pos rfl, State.fault_rd _ _ _ _ _ (by decide) (by decide), if_neg (by decide)]
  exact ⟨rfl, rfl, rfl, rfl, ((((Frame.refl _ s).fault (l := R.TNN_INTSTAT_TLFETRIP :: reportFlds) (by decide) (by decide)).onTnn _).2.trans
    (State.scanEval_keepsMemory _)).settle⟩

end

/-- Settles O24: each mode's sample and each command from the law of its branch. -/
theorem spindleLoopRuns : Obligations.SpindleLoopRuns :=
  ⟨fun _ hswap hmode hcap => spindleSample_off hswap hmode hcap, fun _ hswap hmode hcap => spindleSample_coast hswap hmode hcap,
    fun _ hswap hmode hcap hinj => spindleSample_test hswap hmode hcap hinj,
    fun _ _ _ hswap hmode hcap hinj hloop heng hstep => spindleSample_speed hswap hmode hcap hinj hloop heng hstep,
    fun _ _ _ hswap hmode hcap hinj hloop hfall heng hstep => spindleSample_locked hswap hmode hcap hinj hloop hfall heng hstep,
    fun _ hswap hmode hcap hinj hloop hfall hcapN hnear => spindleSample_handsOver hswap hmode hcap hinj hloop hfall hcapN hnear,
    fun _ hmode hloop hcap => speedCapture_captures hmode hloop hcap, fun _ hmode hloop hlock hcnt => splockSet_locks hmode hloop hlock hcnt,
    fun _ h => blendEnd_ends h, fun _ hmode hloop hcnt => spindleTrip_fallsBack hmode hloop hcnt,
    fun _ hmode htrip hcnt => tiltTrip_endsValidity hmode htrip hcnt⟩

end Sys2Proof.Machine
end

section
/-!
The tilt's sample and requests (R69, R73, R74, R81, R335, R336): the injected conversion between Tenon and Sill, what its result leaves,
and the requests of tilt modes and bank swaps (O25).
-/
namespace Sys2Proof.Machine

section
variable {s t u : State}

/-! ### An injected request at Sill (R322, R335, R338) -/

/-- The injected conversion that is asked for, and its pins. -/
def SilState.request (t : SilState) : Bool × Nat × Nat := (t.injPend, t.injP, t.injN)

theorem State.excSet_request (s : State) (src : Bool) : (s.excSet src).sil.request = s.sil.request := by
  unfold State.excSet
  cases src
  · dsimp only
    exact iteInduction (motive := fun t : State => t.sil.request = s.sil.request) (fun _ => rfl) fun _ => rfl
  · dsimp only
    exact iteInduction (motive := fun t : State => t.sil.request = s.sil.request) (fun _ => rfl) fun _ => rfl

theorem State.switch_request (s : State) : s.switch.sil.request = s.sil.request :=
  (State.excSet_request (s.excSet false) true).trans (State.excSet_request s false)

theorem Frame.switch {l : List Fld} (h : Frame l s u) : Frame l s u.switch :=
  h.trans (Frame.of_only (State.switch_only u) (by decide) (by decide) (by decide))

/-- The fields that the start of a calibration run writes. -/
def calFlds : List Fld := [R.SIL_STATUS_CAL0, R.SIL_STATUS_CAL1, R.SIL_ABORTS_ABORT]

theorem State.calGo_leaves (s : State) (adc : Bool) : (s.calGo adc).sil.request = s.sil.request ∧ Frame calFlds s (s.calGo adc) := by
  have habort : Frame calFlds s (s.when (s.sampling adc) (·.bump R.SIL_ABORTS_ABORT 1)) :=
    (Frame.refl _ s).when _ ((Frame.refl _ s).bump (by decide))
  unfold State.calGo
  refine iteInduction (motive := fun t : State => t.sil.request = s.sil.request ∧ Frame calFlds s t) (fun _ => ⟨rfl, Frame.refl ..⟩)
    fun _ => ⟨?_, ?_⟩
  · exact (State.switch_request _).trans (State.when_keeps (fun t : State => t.sil.request) rfl)
  · refine Frame.switch (Frame.wr (habort.trans ⟨fun _ _ _ => rfl, fun _ => rfl, fun _ => rfl⟩) ?_)
    cases adc <;> decide

theorem State.calStart_leaves (s : State) : s.calStart.sil.request = s.sil.request ∧ Frame calFlds s s.calStart := by
  rw [State.calStart_eq]
  split
  · split
    · exact State.calGo_leaves ..
    · split
      · exact State.calGo_leaves ..
      · exact ⟨rfl, Frame.refl ..⟩
  · exact ⟨rfl, Frame.refl ..⟩

/-- The fields that the end of an injected conversion writes. -/
def injectEndFlds : List Fld := [R.SIL_STATUS_INJ0, R.SIL_STATUS_INJ1] ++ calFlds

/-- No conversion is asked for. -/
structure Unasked (s : State) : Prop where
  pend : s.sil.injPend = false
  inj0 : s.rd R.SIL_STATUS_INJ0 = 0
  inj1 : s.rd R.SIL_STATUS_INJ1 = 0

theorem State.injectEnd_leaves (s : State) : Unasked s.injectEnd ∧ s.injectEnd.tnn = s.tnn ∧ Frame injectEndFlds s s.injectEnd := by
  generalize hu : (({ s with sil := { s.sil with injPend := false } } : State).wr R.SIL_STATUS_INJ0 0).wr R.SIL_STATUS_INJ1 0 = u
  have hend : s.injectEnd = u.switch.calStart := by rw [← hu]; rfl
  have hframe : Frame injectEndFlds s u := by
    rw [← hu]
    exact Frame.wr (Frame.wr ⟨fun _ _ _ => rfl, fun _ => rfl, fun _ => rfl⟩ (by decide)) (by decide)
  obtain ⟨hreq, hcal⟩ := u.switch.calStart_leaves
  have hkeep : Frame calFlds u u.switch.calStart := (Frame.refl _ u).switch.trans hcal
  refine ⟨⟨?_, ?_, ?_⟩, (State.injectEnd_only s).tnn.resolve_left (by decide), ?_⟩
  · rw [hend]
    exact (congrArg Prod.fst (hreq.trans u.switch_request)).trans (by rw [← hu]; rfl)
  · rw [hend, hkeep.rd _ (by decide) (by decide), ← hu, State.rd_wr_ne _ _ _ _ (by decide), State.rd_wr_same]
    rfl
  · rw [hend, hkeep.rd _ (by decide) (by decide), ← hu, State.rd_wr_same]
    rfl
  · rw [hend]
    exact hframe.trans (hkeep.mono (by decide))

/-! ### The flags of a result (R336, R339) -/

/-- The fields that an open wire is seen in. -/
def wireFlds : List Fld := [R.SIL_PINWB_PIN, R.SIL_INTSTAT_WB] ++ reportFlds

theorem State.seenWb_frame (s : State) (pins : BitVec 24) : Frame wireFlds s (s.seenWb pins) := by
  unfold State.seenWb
  split
  · exact Frame.refl ..
  · exact ((Frame.refl _ s).wr (by decide)).fault (by decide) (by decide)

/-- The injected conversion has ended, and its flags are seen. -/
def State.converted (s : State) (ovr : Bool) (wb : BitVec 24) : State := (s.injectEnd.when ovr (·.flag R.SIL_INTSTAT_OVR)).seenWb wb

/-- The fields that an injected conversion's end and its flags write. -/
def convertedFlds : List Fld := injectEndFlds ++ R.SIL_INTSTAT_OVR :: wireFlds

theorem State.converted_leaves (s : State) (ovr : Bool) (wb : BitVec 24) :
    Unasked (s.converted ovr wb) ∧ (s.converted ovr wb).tnn = s.tnn ∧ Frame convertedFlds s (s.converted ovr wb) := by
  obtain ⟨⟨hpend, h0, h1⟩, htnn, hend⟩ := s.injectEnd_leaves
  have hflag : Frame (R.SIL_INTSTAT_OVR :: wireFlds) s.injectEnd (s.injectEnd.when ovr (·.flag R.SIL_INTSTAT_OVR)) :=
    (Frame.refl _ _).when _ ((Frame.refl _ _).wr (by decide))
  have hseen : Frame (R.SIL_INTSTAT_OVR :: wireFlds) s.injectEnd (s.converted ovr wb) :=
    hflag.trans ((State.seenWb_frame ..).mono (by decide))
  have hwb := State.seenWb_only (s.injectEnd.when ovr (·.flag R.SIL_INTSTAT_OVR)) wb
  refine ⟨⟨?_, ?_, ?_⟩, ?_, (hend.mono (by decide)).trans (hseen.mono (by decide))⟩
  · rw [State.converted, hwb.sil.resolve_left (by decide)]
    exact (State.when_keeps (fun t : State => t.sil.injPend) rfl).trans hpend
  · rw [hseen.rd _ (by decide) (by decide), h0]
  · rw [hseen.rd _ (by decide) (by decide), h1]
  · rw [State.converted, hwb.tnn.resolve_left (by decide)]
    exact (State.when_keeps (fun t : State => t.tnn) rfl).trans htnn

/-! ### What a tilt sample leaves alone -/

/-- A tilt sample counts no further invalid sample, leaves the measured position, and changes no memory while no capture runs. -/
structure TiltKeeps (s t : State) : Prop where
  bad : t.tnn.tlBad = s.tnn.tlBad
  cap : t.tnn.cap = s.tnn.cap
  pos : t.rd R.TNN_TLPOS_M = s.rd R.TNN_TLPOS_M
  mem : KeepsMemory s t

theorem TiltKeeps.refl (s : State) : TiltKeeps s s := ⟨rfl, rfl, rfl, fun _ => rfl, fun _ => rfl⟩

theorem TiltKeeps.trans (h : TiltKeeps s t) (h' : TiltKeeps t u) : TiltKeeps s u :=
  ⟨h'.bad.trans h.bad, h'.cap.trans h.cap, h'.pos.trans h.pos, h.mem.trans h'.mem⟩

theorem TiltKeeps.wr {f : Fld} (h : TiltKeeps s u) (v : Nat) (hf : R.TNN_TLPOS_M.key ≠ f.key) : TiltKeeps s (u.wr f v) :=
  h.trans ⟨rfl, rfl, State.rd_wr_ne _ _ _ _ hf, fun _ => rfl, fun _ => rfl⟩

theorem TiltKeeps.onTnn {f : TnnState → TnnState} (h : TiltKeeps s u) (hbad : (f u.tnn).tlBad = u.tnn.tlBad)
    (hcap : (f u.tnn).cap = u.tnn.cap) : TiltKeeps s (u.onTnn f) :=
  h.trans ⟨hbad, hcap, rfl, fun _ => rfl, fun _ => rfl⟩

theorem TiltKeeps.scanEval (h : TiltKeeps s u) : TiltKeeps s u.scanEval :=
  h.trans ⟨by rw [State.scanEval_tnn], by rw [State.scanEval_tnn], (State.scanEval_offScan u).rd _ (by decide), u.scanEval_keepsMemory⟩

theorem TiltKeeps.injSample (h : TiltKeeps s u) (tilt : Bool) : TiltKeeps s (u.injSample tilt).1 := by
  obtain ⟨x, hx⟩ := u.injSample_tnn tilt
  exact h.trans ⟨by rw [hx], by rw [hx], (u.injSample_offScan tilt).rd _ (by decide),
    (State.injSample_only u tilt).keepsMemory (by decide) (by decide)⟩

theorem TiltKeeps.capSample (h : TiltKeeps s u) (hcap : s.tnn.cap = none) (tilt : Bool) (r m e v : Word) :
    TiltKeeps s (u.capSample tilt r m e v) := by
  rwa [State.capSample_of_none (h.cap.trans hcap)]

theorem TiltKeeps.setDac (h : TiltKeeps s u) (v : Word) : TiltKeeps s (u.setDac v) := h.trans ⟨rfl, rfl, rfl, fun _ => rfl, fun _ => rfl⟩

theorem TiltKeeps.draw (h : TiltKeeps s u) : TiltKeeps s u.draw := h.trans ⟨rfl, rfl, rfl, fun _ => rfl, fun _ => rfl⟩

theorem State.tiltLoop_keeps (hcap : s.tnn.cap = none) (m : Word) : TiltKeeps s (s.tiltLoop m) := by
  unfold State.tiltLoop
  dsimp only
  refine (TiltKeeps.capSample (TiltKeeps.scanEval (TiltKeeps.onTnn ?_ rfl rfl)) hcap ..).setDac _
  exact (((((TiltKeeps.refl s).injSample true).wr (f := R.TNN_TLERR_E) _ (by decide)).wr (f := R.TNN_TLOUT_U) _ (by decide)).wr
    (f := R.TNN_STATUS_TLSAT) _ (by decide)).wr (f := R.TNN_FECNT_TL) _ (by decide)

theorem State.tiltOpen_keeps (hcap : s.tnn.cap = none) (m : Word) : TiltKeeps s (s.tiltOpen m) := by
  unfold State.tiltOpen
  dsimp only
  refine ((TiltKeeps.capSample ?_ hcap ..).draw.draw).setDac _
  exact (((TiltKeeps.refl s).injSample true).wr (f := R.TNN_TLOUT_U) _ (by decide)).wr (f := R.TNN_STATUS_TLSAT) _ (by decide)

/-! ### The result of a tilt conversion (R69, R336) -/

/-- The result and its flags stand in Sill's register. -/
def State.resultShown (s : State) (v : Int) (ovr wb : Bool) : State :=
  ((s.wrS R.SIL_INJRES_RESULT v).wrB R.SIL_INJRES_OVR ovr).wrB R.SIL_INJRES_WB wb

theorem State.resultShown_frame (s : State) (v : Int) (ovr wb : Bool) :
    Frame [R.SIL_INJRES_RESULT, R.SIL_INJRES_OVR, R.SIL_INJRES_WB] s (s.resultShown v ovr wb) :=
  ((Frame.wr (Frame.refl _ s) (by decide)).wr (f := R.SIL_INJRES_OVR) (by decide)).wr (f := R.SIL_INJRES_WB) (by decide)

theorem State.resultShown_rd (s : State) (v : Int) (ovr wb : Bool) : (s.resultShown v ovr wb).rd R.SIL_INJRES_OVR = ovr.toNat
    ∧ (s.resultShown v ovr wb).rd R.SIL_INJRES_WB = wb.toNat :=
  ⟨(State.rd_wr_ne _ _ _ _ (by decide)).trans (State.rd_wrB_same _ _ rfl _), State.rd_wrB_same _ _ rfl _⟩

/-- The tilt's position that a result measures (R69). -/
def State.tiltPos (s : State) (v : Int) : Word := fRat (if s.on R.TNN_TLCFG_SENSPOL then -v else v) 2097152

/-- A valid result is the tilt's position. -/
def State.tiltMeasured (s : State) (m : Word) : State := (s.fw R.TNN_TLPOS_M m).onTnn (fun t => { t with tlBad := 0 })

/-- The sample that a valid result brings. -/
def State.tiltSampled (s : State) (m : Word) : State := if s.tlMode = 1 || s.tlMode = 2 then s.tiltLoop m else s.tiltOpen m

theorem State.tiltResult_eq (s : State) (v : Int) (ovr wb : Bool) : s.tiltResult v ovr wb =
    if ovr || wb then (s.resultShown v ovr wb).tiltInvalid
    else ((s.resultShown v ovr wb).tiltMeasured ((s.resultShown v ovr wb).tiltPos v)).tiltSampled ((s.resultShown v ovr wb).tiltPos v) := rfl

/-- After the result is shown, the sample that it brings leaves Sill alone. -/
theorem State.tiltResult_afterShown (s : State) (v : Int) (ovr wb : Bool) :
    Only 0xda113800c03820 (s.resultShown v ovr wb) (s.tiltResult v ovr wb) := by
  have hmeasured (u : State) (m : Word) : Only 0xda113800c03820 u (u.tiltMeasured m) :=
    (State.fw_only (Only.refl _ u) (by decide) (by decide)).app (State.onTnn_only ..) (by decide)
  have hsampled (u : State) (m : Word) : Only 0xda113800c03820 u (u.tiltSampled m) :=
    iteInduction (motive := Only _ u) (fun _ => State.tiltLoop_only ..) fun _ => State.tiltOpen_only ..
  rw [State.tiltResult_eq]
  split
  · exact State.tiltInvalid_only _
  · exact (hmeasured ..).app (hsampled ..) (by decide)

theorem State.tiltResult_flags (s : State) (v : Int) (ovr wb : Bool) : (s.tiltResult v ovr wb).rd R.SIL_INJRES_OVR = ovr.toNat
    ∧ (s.tiltResult v ovr wb).rd R.SIL_INJRES_WB = wb.toNat := by
  have hkeep := s.tiltResult_afterShown v ovr wb
  rw [hkeep.rd _ (by decide), hkeep.rd _ (by decide)]
  exact s.resultShown_rd v ovr wb

theorem Unasked.tiltResult (h : Unasked s) (v : Int) (ovr wb : Bool) : Unasked (s.tiltResult v ovr wb) := by
  have hkeep := s.tiltResult_afterShown v ovr wb
  have hshown := s.resultShown_frame v ovr wb
  refine ⟨?_, ?_, ?_⟩
  · rw [hkeep.sil.resolve_left (by decide)]
    exact h.pend
  · rw [hkeep.rd _ (by decide), hshown.rd _ (by decide) (by decide), h.inj0]
  · rw [hkeep.rd _ (by decide), hshown.rd _ (by decide) (by decide), h.inj1]

/-- After an invalid sample the scan is not valid. -/
theorem State.scanOk_of_tiltLost (h : s.tnn.tlOk = false) : s.scanOk = false := by simp [State.scanOk, h]

theorem State.tiltInvalid_leaves (hcap : s.tnn.cap = none) : s.tiltInvalid.tnn.tlBad = s.tnn.tlBad + 1 ∧ s.tiltInvalid.tnn.tlOk = false
    ∧ s.tiltInvalid.rd R.TNN_STATUS_SCANVALID = 0 ∧ KeepsMemory s s.tiltInvalid := by
  have hs := (TiltKeeps.refl s).injSample true
  generalize hu : ((s.injSample true).1.onTnn (fun t => { t with tlBad := t.tlBad + 1, tlOk := false })).scanEval = u
  have hlost : u.tnn.tlBad = s.tnn.tlBad + 1 ∧ u.tnn.tlOk = false ∧ u.tnn.cap = none := by
    rw [← hu, State.scanEval_tnn]
    exact ⟨congrArg (· + 1) hs.bad, rfl, hs.cap.trans hcap⟩
  obtain ⟨hbad, hok, hnone⟩ := hlost
  have hend : s.tiltInvalid = u.draw.draw.draw := by
    unfold State.tiltInvalid
    dsimp only
    rw [hu, State.capSample_of_none hnone]
  have hvalid : u.rd R.TNN_STATUS_SCANVALID = 0 := by
    rw [← hu]
    exact State.scanEval_invalid (State.scanOk_of_tiltLost rfl)
  have hmem : KeepsMemory s u := by
    rw [← hu]
    have hcounted (f : TnnState → TnnState) : KeepsMemory s ((s.injSample true).1.onTnn f) := hs.mem
    exact (hcounted _).trans (State.scanEval_keepsMemory _)
  rw [hend]
  exact ⟨hbad, hok, hvalid, hmem⟩

theorem State.tiltResult_invalid (hcap : s.tnn.cap = none) (v : Int) {ovr wb : Bool} (h : (ovr || wb) = true) :
    (s.tiltResult v ovr wb).tnn.tlBad = s.tnn.tlBad + 1 ∧ (s.tiltResult v ovr wb).tnn.tlOk = false
      ∧ (s.tiltResult v ovr wb).rd R.TNN_STATUS_SCANVALID = 0 ∧ KeepsMemory s (s.tiltResult v ovr wb) := by
  have hresult : s.tiltResult v ovr wb = (s.resultShown v ovr wb).tiltInvalid := if_pos h
  obtain ⟨hbad, hok, hvalid, hmem⟩ := State.tiltInvalid_leaves (s := s.resultShown v ovr wb) hcap
  rw [hresult]
  exact ⟨hbad, hok, hvalid, (s.resultShown_frame v ovr wb).2.trans hmem⟩

theorem State.tiltSampled_keeps (hcap : s.tnn.cap = none) (m : Word) : TiltKeeps s (s.tiltSampled m) :=
  iteInduction (motive := TiltKeeps s) (fun _ => State.tiltLoop_keeps hcap m) fun _ => State.tiltOpen_keeps hcap m

theorem State.tiltResult_good (hcap : s.tnn.cap = none) (v : Int) : (s.tiltResult v false false).tnn.tlBad = 0
    ∧ (s.tiltResult v false false).rd R.TNN_TLPOS_M = (s.tiltPos v).toNat ∧ KeepsMemory s (s.tiltResult v false false) := by
  have hshown := s.resultShown_frame v false false
  have hpos : (s.resultShown v false false).tiltPos v = s.tiltPos v := by
    rw [State.tiltPos, State.tiltPos, State.on, State.on, hshown.rd _ (by decide) (by decide)]
  have hkeep := State.tiltSampled_keeps (s := (s.resultShown v false false).tiltMeasured (s.tiltPos v)) hcap (s.tiltPos v)
  rw [State.tiltResult_eq, if_neg (by decide), hpos]
  refine ⟨hkeep.bad, hkeep.pos.trans ?_, KeepsMemory.trans ?_ hkeep.mem⟩
  · rw [State.tiltMeasured, State.onTnn_rd, State.fw, State.rd_wr_same]
    exact Nat.mod_eq_of_lt (s.tiltPos v).isLt
  · exact hshown.2.trans (((Frame.refl [R.TNN_TLPOS_M] _).wr (by decide)).onTnn _).2

/-! ### Tilt samples (R69, R73, R335, R336) -/

theorem State.tlSwapNow_of_none (h : s.tnn.tlSwap = false) : s.tlSwapNow = s := if_neg (by simp [h])

/-- The sample notes its instant in the frame. -/
def State.tiltAged (s : State) : State := s.onTnn (fun t => { t with tlAge := s.frameAge })

theorem exec_tiltSample (hswap : s.tnn.tlSwap = false) : exec .tiltSample s =
    if s.rd R.TNN_TLCFG_AXPIN = s.rd R.SIL_INJCFG_NPIN || !s.on R.SIL_STATUS_REFRDY then (s.tiltAged.tiltResult markPos true false).done
    else (s.tiltAged.inject s.injAdc).done := by
  show execTiltSample s = _
  rw [execTiltSample, State.tlSwapNow_of_none hswap]
  rfl

theorem tiltSample_fails (hswap : s.tnn.tlSwap = false) (hcap : s.tnn.cap = none)
    (h : s.rd R.TNN_TLCFG_AXPIN = s.rd R.SIL_INJCFG_NPIN ∨ s.rd R.SIL_STATUS_REFRDY = 0) : Completes .tiltSample s (fun t =>
      t.rd R.SIL_INJRES_OVR = 1 ∧ t.rd R.SIL_INJRES_WB = 0 ∧ t.tnn.tlBad = s.tnn.tlBad + 1 ∧ t.tnn.tlOk = false
        ∧ t.rd R.TNN_STATUS_SCANVALID = 0 ∧ KeepsMemory s t) := by
  obtain ⟨hovr, hwb⟩ := s.tiltAged.tiltResult_flags markPos true false
  obtain ⟨hbad, hok, hvalid, hmem⟩ := State.tiltResult_invalid (s := s.tiltAged) hcap markPos (ovr := true) (wb := false) rfl
  refine completes_of_done ((exec_tiltSample hswap).trans (if_pos (by simpa [State.on] using h))) ?_
  rw [State.settle_tnn, State.settle_rd _ _ (by decide) (by decide), State.settle_rd _ _ (by decide) (by decide),
    State.settle_rd _ _ (by decide) (by decide)]
  exact ⟨hovr, hwb, hbad, hok, hvalid, hmem.settle⟩

/-- An injected request holds its converter, with the pins that the configuration names. -/
theorem State.inject_leaves (s : State) (adc : Bool) :
    (s.inject adc).sil.request = (true, s.rd R.TNN_TLCFG_AXPIN, s.rd R.SIL_INJCFG_NPIN)
      ∧ (s.inject adc).rd (if adc then R.SIL_STATUS_INJ1 else R.SIL_STATUS_INJ0) = 1 ∧ (s.inject adc).tnn = s.tnn
      ∧ Frame [R.SIL_STATUS_INJ0, R.SIL_STATUS_INJ1, R.SIL_ABORTS_ABORT] s (s.inject adc) := by
  have habort : Frame [R.SIL_STATUS_INJ0, R.SIL_STATUS_INJ1, R.SIL_ABORTS_ABORT] s
      (s.when (s.sampling adc) (·.bump R.SIL_ABORTS_ABORT 1)) := (Frame.refl _ s).when _ ((Frame.refl _ s).bump (by decide))
  refine ⟨State.switch_request _, ?_, (State.inject_only ..).tnn.resolve_left (by decide), Frame.switch (Frame.wr ?_ ?_)⟩
  · cases adc
    · exact ((State.switch_only _).rd _ (by decide)).trans (State.rd_wr_same ..)
    · exact ((State.switch_only _).rd _ (by decide)).trans (State.rd_wr_same ..)
  · exact habort.trans ⟨fun _ _ _ => rfl, fun _ => rfl, fun _ => rfl⟩
  · cases adc <;> decide

theorem tiltSample_requests (hswap : s.tnn.tlSwap = false) (hpin : s.rd R.TNN_TLCFG_AXPIN ≠ s.rd R.SIL_INJCFG_NPIN)
    (href : s.rd R.SIL_STATUS_REFRDY ≠ 0) : Completes .tiltSample s (fun t =>
      t.sil.injPend = true ∧ t.rd (if s.injAdc then R.SIL_STATUS_INJ1 else R.SIL_STATUS_INJ0) = 1
        ∧ t.tnn = { s.tnn with tlAge := s.frameAge } ∧ t.sil.injP = s.rd R.TNN_TLCFG_AXPIN ∧ t.sil.injN = s.rd R.SIL_INJCFG_NPIN
        ∧ Frame [R.SIL_STATUS_INJ0, R.SIL_STATUS_INJ1, R.SIL_ABORTS_ABORT] s t) := by
  obtain ⟨hreq, hinj, htnn, hframe⟩ := s.tiltAged.inject_leaves s.injAdc
  simp only [SilState.request, Prod.mk.injEq] at hreq
  obtain ⟨hpend, hp, hn⟩ := hreq
  refine completes_of_done ((exec_tiltSample hswap).trans (if_neg (by simpa [State.on] using ⟨hpin, href⟩))) ?_
  rw [State.settle_tnn, State.settle_sil]
  refine ⟨hpend, Eq.trans ?_ hinj, htnn, hp, hn, (((Frame.refl _ s).onTnn _).trans hframe).settle⟩
  cases s.injAdc
  · exact State.settle_rd _ _ (by decide) (by decide)
  · exact State.settle_rd _ _ (by decide) (by decide)

theorem exec_tiltSampleReady {codes : List (BitVec 18)} {pins wb : BitVec 24} {v : Int} {ovr : Bool} (hpend : s.sil.injPend = true)
    (hwb : ownPins (some (s.sil.injP, s.sil.injN)) pins = wb)
    (hconv : convResult (firstCodes (2 ^ s.rd R.TNN_TLCFG_TLOS) codes) (s.silCor (s.on R.SIL_STATUS_INJ1)).1
      (s.silCor (s.on R.SIL_STATUS_INJ1)).2 = (v, ovr)) :
    exec (.tiltSampleReady codes pins) s = ((s.converted ovr wb).tiltResult (if wb = 0 then v else markPos) ovr (wb != 0)).done := by
  show execTiltSampleReady codes pins s = _
  rw [execTiltSampleReady, if_pos hpend]
  simp only [hwb, hconv]
  rfl

theorem tiltSampleReady_open {codes : List (BitVec 18)} {pins : BitVec 24} (hpend : s.sil.injPend = true) (hcap : s.tnn.cap = none)
    (hwb : ownPins (some (s.sil.injP, s.sil.injN)) pins ≠ 0) : Completes (.tiltSampleReady codes pins) s (fun t =>
      t.sil.injPend = false ∧ t.rd R.SIL_STATUS_INJ0 = 0 ∧ t.rd R.SIL_STATUS_INJ1 = 0 ∧ t.rd R.SIL_INJRES_WB = 1
        ∧ t.tnn.tlBad = s.tnn.tlBad + 1 ∧ t.tnn.tlOk = false ∧ KeepsMemory s t) := by
  generalize hw : ownPins (some (s.sil.injP, s.sil.injN)) pins = wb at hwb
  rcases hconv : convResult (firstCodes (2 ^ s.rd R.TNN_TLCFG_TLOS) codes) (s.silCor (s.on R.SIL_STATUS_INJ1)).1
      (s.silCor (s.on R.SIL_STATUS_INJ1)).2 with ⟨v, ovr⟩
  have hopen : (wb != 0) = true := bne_iff_ne.mpr hwb
  obtain ⟨hfree, htnn, hframe⟩ := s.converted_leaves ovr wb
  obtain ⟨-, hres⟩ := (s.converted ovr wb).tiltResult_flags (if wb = 0 then v else markPos) ovr (wb != 0)
  obtain ⟨hbad, hok, -, hmem⟩ := State.tiltResult_invalid (s := s.converted ovr wb) (by rw [htnn, hcap]) (if wb = 0 then v else markPos)
    (ovr := ovr) (wb := wb != 0) (by rw [hopen, Bool.or_true])
  obtain ⟨hdone, h0, h1⟩ := hfree.tiltResult (if wb = 0 then v else markPos) ovr (wb != 0)
  refine completes_of_done (exec_tiltSampleReady hpend hw hconv) ?_
  rw [State.settle_tnn, State.settle_sil, State.settle_rd _ _ (by decide) (by decide), State.settle_rd _ _ (by decide) (by decide),
    State.settle_rd _ _ (by decide) (by decide)]
  exact ⟨hdone, h0, h1, hres.trans (by rw [hopen]; rfl), hbad.trans (by rw [htnn]), hok, (hframe.2.trans hmem).settle⟩

theorem ownPins_zero (ins : Nat × Nat) : ownPins (some ins) 0#24 = 0 := BitVec.zero_and

theorem tiltSampleReady_good {codes : List (BitVec 18)} {v : Int} (hpend : s.sil.injPend = true) (hcap : s.tnn.cap = none)
    (hconv : convResult (firstCodes (2 ^ s.rd R.TNN_TLCFG_TLOS) codes) (s.silCor (s.on R.SIL_STATUS_INJ1)).1
      (s.silCor (s.on R.SIL_STATUS_INJ1)).2 = (v, false)) : Completes (.tiltSampleReady codes 0#24) s (fun t =>
      t.sil.injPend = false ∧ t.rd R.SIL_INJRES_WB = 0 ∧ t.rd R.SIL_INJRES_OVR = 0 ∧ t.tnn.tlBad = 0
        ∧ t.rd R.TNN_TLPOS_M = (fRat (if s.on R.TNN_TLCFG_SENSPOL then -v else v) 2097152).toNat ∧ KeepsMemory s t) := by
  obtain ⟨hfree, htnn, hframe⟩ := s.converted_leaves false 0
  have hpos : (s.converted false 0).tiltPos v = s.tiltPos v := by
    rw [State.tiltPos, State.tiltPos, State.on, State.on, hframe.rd _ (by decide) (by decide)]
  obtain ⟨hovr, hres⟩ := (s.converted false 0).tiltResult_flags v false false
  obtain ⟨hbad, hm, hmem⟩ := State.tiltResult_good (s := s.converted false 0) (by rw [htnn, hcap]) v
  refine completes_of_done (exec_tiltSampleReady hpend (ownPins_zero _) hconv) ?_
  rw [State.settle_tnn, State.settle_sil, State.settle_rd _ _ (by decide) (by decide), State.settle_rd _ _ (by decide) (by decide),
    State.settle_rd _ _ (by decide) (by decide)]
  exact ⟨(hfree.tiltResult v false false).pend, hres, hovr, hbad, hm.trans (by rw [hpos]; rfl), (hframe.2.trans hmem).settle⟩

theorem tlsens_raises (h : 3 ≤ s.tnn.tlBad) : Completes .tlsens s (fun t =>
    t.rd R.TNN_INTSTAT_TLSENS = 1 ∧ Frame ([R.TNN_INTSTAT_TLSENS] ++ reportFlds) s t) := by
  refine completes_of_done (if_pos h) ⟨?_, ((Frame.refl _ s).fault (by decide) (by decide)).settle⟩
  rw [State.settle_rd _ _ (by decide) (by decide), State.fault_rd _ _ _ _ _ (by decide) (by decide), if_pos rfl]
  rfl

/-! ### Tilt modes (R74) -/

theorem exec_tiltModeRequest (m : BitVec 3) (s : State) : exec (.tiltModeRequest m) s = (s.requestTl m.toNat).done := rfl

theorem State.requestTl_of_good {m : Nat} (hm : m < 4) (hbank : s.tlBankOk s.tlBank = true)
    (hpin : m = 1 ∨ m = 2 → s.rd R.TNN_TLCFG_AXPIN < 24) : s.requestTl m = s.setTlMode m := by
  refine if_neg ?_
  by_cases h : m = 1 ∨ m = 2
  · simp [Nat.not_le.mpr hm, hbank, Nat.not_le.mpr (hpin h)]
  · obtain ⟨h1, h2⟩ := not_or.mp h
    simp [Nat.not_le.mpr hm, hbank, h1, h2]

theorem State.requestTl_of_bad {m : Nat} (h : 4 ≤ m ∨ s.tlBankOk s.tlBank = false ∨ ((m = 1 ∨ m = 2) ∧ 24 ≤ s.rd R.TNN_TLCFG_AXPIN)) :
    s.requestTl m = s.refuse R.TNN_INTSTAT_BADCFG := by
  refine if_pos ?_
  rcases h with hcode | hbank | ⟨hrun, hpin⟩
  · simp [hcode]
  · simp [hbank]
  · simp [hrun, hpin]

/-- The new tilt mode is shown, and the tilt's injection ends. -/
def State.tiltModeShown (s : State) (m : Nat) : State := ((s.wr R.TNN_TLCTL_MODE m).wr R.TNN_STATUS_TLMODE m).endInject true

theorem State.tiltModeShown_rd (s : State) {m : Nat} (hm : m < 8) :
    (s.tiltModeShown m).rd R.TNN_TLCTL_MODE = m ∧ (s.tiltModeShown m).rd R.TNN_STATUS_TLMODE = m := by
  unfold State.tiltModeShown
  rw [(State.endInject_offScan ..).rd _ (by decide), (State.endInject_offScan ..).rd _ (by decide), State.rd_wr_same,
    State.rd_wr_ne _ _ _ _ (by decide), State.rd_wr_same]
  exact ⟨Nat.mod_eq_of_lt hm, Nat.mod_eq_of_lt hm⟩

theorem State.setTlMode_of_same {m : Nat} (h : s.tlMode = m) : s.setTlMode m = s.wr R.TNN_TLCTL_MODE m := if_pos h

/-- A new tilt mode writes of Tenon's registers, after those that show it, the output alone, which is 0 in OFF. -/
theorem State.setTlMode_of_new {m : Nat} (h : s.tlMode ≠ m) : ∃ u : State, (∀ f, u.rd f = (s.tiltModeShown m).rd f)
    ∧ s.setTlMode m = (if m = 0 then (u.fw R.TNN_TLOUT_U 0).setDac 0 else u).scanEval := by
  refine ⟨if (m = 1 || m = 2) && !(s.tlMode = 1 || s.tlMode = 2) then
      (s.tiltModeShown m).onTnn (fun t => { t with tl := { i := 0, d := 0, mPrev := (s.tiltModeShown m).fr R.TNN_TLPOS_M
                                                           rPrev := (s.tiltModeShown m).fr R.TNN_TLPOS_M, u := t.tl.u }, tlOk := false })
    else if m = 1 || m = 2 then s.tiltModeShown m
    else (s.tiltModeShown m).onTnn (fun t => { t with tlOk := false }), fun f => ?_, if_neg h⟩
  split
  · rfl
  · split <;> rfl

theorem State.setTlMode_shows (s : State) {m : Nat} (hm : m < 8) :
    (s.setTlMode m).rd R.TNN_TLCTL_MODE = m ∧ (s.setTlMode m).tlMode = m ∧ (m = 0 → s.tlMode ≠ 0 → (s.setTlMode m).rd R.TNN_TLOUT_U = 0) := by
  unfold State.tlMode
  by_cases hsame : s.tlMode = m
  · rw [State.setTlMode_of_same hsame, State.rd_wr_same, State.rd_wr_ne _ _ _ _ (by decide)]
    exact ⟨Nat.mod_eq_of_lt hm, hsame, fun h0 hne => absurd (hsame.trans h0) hne⟩
  · obtain ⟨u, hu, hset⟩ := State.setTlMode_of_new hsame
    obtain ⟨hctl, hmode⟩ := s.tiltModeShown_rd hm
    rw [hset, (State.scanEval_offScan _).rd _ (by decide), (State.scanEval_offScan _).rd _ (by decide),
      (State.scanEval_offScan _).rd _ (by decide)]
    split
    · have hdac (f : Fld) (hf : f.key ≠ R.TNN_TLOUT_U.key) : ((u.fw R.TNN_TLOUT_U 0).setDac 0).rd f = (s.tiltModeShown m).rd f :=
        (State.rd_wr_ne u R.TNN_TLOUT_U f (0 : Word).toNat hf).trans (hu f)
      rw [hdac _ (by decide), hdac _ (by decide)]
      exact ⟨hctl, hmode, fun _ _ => State.rd_wr_same u R.TNN_TLOUT_U (0 : Word).toNat⟩
    · next h0 =>
      rw [hu, hu]
      exact ⟨hctl, hmode, fun h => absurd h h0⟩

theorem tiltModeRequest_taken {m : BitVec 3} (hm : m.toNat < 4) (hbank : s.tlBankOk s.tlBank = true)
    (hpin : m.toNat = 1 ∨ m.toNat = 2 → s.rd R.TNN_TLCFG_AXPIN < 24) : Completes (.tiltModeRequest m) s (fun t =>
      t.tlMode = m.toNat ∧ t.rd R.TNN_TLCTL_MODE = m.toNat ∧ (m = 0 → s.tlMode ≠ 0 → t.rd R.TNN_TLOUT_U = 0) ∧ KeepsMemory s t) := by
  obtain ⟨hctl, hmode, hout⟩ := s.setTlMode_shows m.isLt
  refine completes_of_done ((exec_tiltModeRequest m s).trans (by rw [State.requestTl_of_good hm hbank hpin])) ?_
  rw [State.tlMode, State.settle_rd _ _ (by decide) (by decide), State.settle_rd _ _ (by decide) (by decide),
    State.settle_rd _ _ (by decide) (by decide)]
  exact ⟨hmode, hctl, fun h0 => hout (congrArg BitVec.toNat h0), ((State.setTlMode_only ..).keepsMemory (by decide) (by decide)).settle⟩

/-! ### Swaps of the tilt's bank (R81) -/

theorem tiltSwap_asks (hswap : s.tnn.tlSwap = false) (hbank : s.tlBankOk (1 - s.tlBank) = true) : Completes .tiltSwap s (fun t =>
    t.rd R.TNN_TLCTL_SWAP = 1 ∧ t.tnn.tlSwap = true ∧ t.tnn.tlSwapDue = false ∧ Frame [R.TNN_TLCTL_SWAP] s t) := by
  refine completes_of_done ((if_neg (by simp [hswap])).trans (if_pos hbank)) ?_
  rw [State.settle_tnn, State.settle_rd _ _ (by decide) (by decide), State.onTnn_rd, State.rd_wr_same]
  exact ⟨rfl, rfl, rfl, (((Frame.refl _ s).wr (by decide)).onTnn _).settle⟩

end

/-- Settles O25: each command from the law of its branch; a result, good or not, from the law of the sample it brings. -/
theorem tiltLoopAndItsRequests : Obligations.TiltLoopAndItsRequests :=
  ⟨fun _ hswap hcap h => tiltSample_fails hswap hcap h, fun _ hswap hpin href => tiltSample_requests hswap hpin href,
    fun _ _ _ hpend hcap hwb => tiltSampleReady_open hpend hcap hwb, fun _ _ _ hpend hcap hconv => tiltSampleReady_good hpend hcap hconv,
    fun _ h => tlsens_raises h, fun _ _ hm hbank hpin => tiltModeRequest_taken hm hbank hpin,
    fun m s h => completes_of_badcfg ((exec_tiltModeRequest m s).trans (by rw [State.requestTl_of_bad h])),
    fun _ hswap hbank => tiltSwap_asks hswap hbank, fun _ h => completes_of_ignored (if_pos h),
    fun _ hswap hbank => completes_of_badcfg ((if_neg (by simp [hswap])).trans (if_neg (by simp [hbank])))⟩

end Sys2Proof.Machine
end

section
/-!
A RETURNED FRAME UNDER AN IDLE INJECTION (R93, R94, R467). Batten takes down a direction whose frames do not return, whatever makes
them stay away. Where an injection of R467 made the direction send IDLE only, the same step shows the repair of that injection in
FLT_INTSTAT.INJDONE, a flag that O20's frame does not list.
-/
namespace Sys2Proof.Machine

/-- A command that ends by `done` settles what its effect left: what is said of its completion holds there. -/
theorem Completes.of_done {c : Instr} {s u : State} {P : State → Prop} (h : Completes c s P) (hexec : exec c s = u.done) :
    P u.settle := by
  obtain ⟨t, ht, hP⟩ := h
  obtain rfl : u.settle = t := Host.Outcome.next.inj (hexec.symm.trans ht)
  exact hP

/-- Ring 0 is up with both loops, and pair 0, its CW direction, is made to send IDLE only. -/
def idledRing : State :=
  let s := ((State.reset.wr R.BTN_STATUS_RINGUP 1).wr (R.BTN_RSTAT_CWUP 0) 1).wr (R.BTN_RSTAT_CCWUP 0) 1
  { s with flt := { s.flt with injIdle := [0] } }

theorem idledRing_up : idledRing.ringUp 0 = true ∧ idledRing.bothLoops 0 = true := by decide +kernel

theorem idledRing_on : idledRing.on (R.BTN_RSTAT_CWUP 0) = true := by decide +kernel

/-- The direction taken down shows the injection's repair. -/
theorem idledRing_injdone :
    (idledRing.ringDirDown 0 false).rd R.FLT_INTSTAT_INJDONE = 1 ∧ idledRing.rd R.FLT_INTSTAT_INJDONE = 0 := by decide +kernel

theorem idledRing_missing : exec (.returnedFrame 0 false .missing) idledRing = (idledRing.ringDirDown 0 false).done :=
  congrArg State.done (if_pos idledRing_on)

/-- Refutes O20: a frame that does not return on a direction under an IDLE injection sets FLT_INTSTAT.INJDONE too. -/
theorem not_battenMeasuresRings : ¬ Obligations.BattenMeasuresRings := by
  intro hrings
  obtain ⟨-, -, -, -, -, -, -, -, -, -, hmissing, -⟩ := hrings
  obtain ⟨-, -, -, -, hframe⟩ := (hmissing 0 false idledRing idledRing_up.1 idledRing_up.2).of_done idledRing_missing
  have hkept := hframe.rd R.FLT_INTSTAT_INJDONE (by decide) (by decide)
  rw [State.settle_rd _ _ (by decide) (by decide), idledRing_injdone.1, idledRing_injdone.2] at hkept
  exact absurd hkept (by decide)

end Sys2Proof.Machine
end

section
/-!
A SUBMISSION THAT LOCKS TRUSS OUT (R108, R297, R304, R315). Truss judges a fire's columns in order and charges each allowed one at once. A
later column whose BUDGET differs from Truss's copy is an exposure fault: Truss locks out, the hush request rises, and every fire not
yet transmitted is discarded, the fire under judgement with them. Columns are allowed, and yet nothing is submitted.
-/
namespace Sys2Proof.Machine

/-- A fire of row 0 of driver 0 over columns 0 and 1, planned. -/
def twoColFire : Fire :=
  { driver := 0, tag := 5, row := 0, proof := false, time := 0, ec := 4095, mask := 0, cur := 0, width := 0, epoch := 0, shot := 0
    cols := [(0, 1), (1, 2)], stage := .planned }

/-- The sightline table stands at 4,096 and the row table at 8,192: emitters 0 and 1 are VALID with BUDGET 0, and row 0 has
IMAX 1,000 and KNEE 10. -/
def twoColTables : List (Nat × Byte) :=
  storeBytes 0 (storeBytes 0 (storeBytes 0 [] 4096 (leBytes 2 1024)) 4112 (leBytes 2 1024)) 8192 (leBytes 4 (1000 + 1024 * 10))

/-- Truss in ARMED with no hold: one scan direction of ample budget, a phase halfway through the only facet, and a copy of the
BUDGET column that holds emitter 0 and lacks emitter 1. -/
def halfCopied : TrsState :=
  { TrsState.reset with
    resetHold := false, hushReq := false, prime1 := 0, prime2 := 0
    bankA := { ndir := 1, entries := [{ pulseMax := 10 ^ 9, lim1 := 10 ^ 9, lim2 := 10 ^ 9, valid := true, absorb := false }] }
    budCopy := [(0, [(true, 0)])]
    phase := { counts := 2, revCnt := 4, revLsb := 1000, edgeLsb := 0, indexLsb := 0, seen := true } }

/-- Light is permitted, and `twoColFire` is all that driver 0 has planned. -/
def copyShort : State :=
  let s := ((((((State.reset.wr R.TRS_STATE_STATE 1).wr R.TNN_STATUS_SCANVALID 1).wr R.TRS_GEOM_FACETS 1).wr R.TRS_GEOM_HALFW 0).wr
    R.TRS_EXPCFG_SECTLOG 0).wr R.TRS_DEADOFS_DEADOFS 0).wr R.BTN_WNOM_WNOM 10
  let s := (List.range 8).foldl (fun t k => t.wr (R.TRS_INCFG_DARK k) 0) s
  { s with trs := halfCopied, hbm := twoColTables, btn := { s.btn with fires := [twoColFire] }
           peg := { s.peg with epochs := [(0, s.captureCfg 4096 8192 0 0)] } }

theorem copyShort_plans : copyShort.nextFire 0 .planned = some twoColFire := by decide +kernel

/-- Column 0 alone is allowed. -/
theorem copyShort_allowed : (allowedOf copyShort twoColFire).2.2 = 1#32 := by decide +kernel

theorem copyShort_drive : copyShort.tooClose twoColFire = false ∧ copyShort.fireDrive twoColFire = some (1000, 10) := by decide +kernel

/-- A fire with a drive and with none near it goes to the exposure monitor. -/
theorem execFireSubmission_fits {n : Fin 64} {f : Fire} {i w : Nat} {s : State} (hnext : s.nextFire n.val .planned = some f)
    (hfar : s.tooClose f = false) (hdrive : s.fireDrive f = some (i, w)) (hlater : s.laterNear f = []) :
    exec (.fireSubmission n) s = (s.submitFire f i w).done := by
  change execFireSubmission n s = _
  simp [execFireSubmission, hnext, hfar, hdrive, hlater]

theorem copyShort_submits : exec (.fireSubmission 0) copyShort = (copyShort.submitFire twoColFire 1000 10).done :=
  execFireSubmission_fits copyShort_plans copyShort_drive.1 copyShort_drive.2 (by decide +kernel)

/-- The lockout that column 1 brings leaves no fire in the schedule. -/
theorem copyShort_discards : (copyShort.submitFire twoColFire 1000 10).btn.fires = [] := by decide +kernel

/-- Refutes O18: the mismatch of a later column locks Truss out, whose hush discards the fire while its mask holds a column. -/
theorem not_battenSendsFires : ¬ Obligations.BattenSendsFires := by
  rintro ⟨hsubmit, -⟩
  obtain ⟨-, hstands, -⟩ := (hsubmit 0 twoColFire copyShort copyShort_plans rfl).of_done copyShort_submits
  have hmask : (allowedOf copyShort twoColFire).2.2 ≠ 0 := by rw [copyShort_allowed]; decide
  have hmem := hstands copyShort_drive.1 (Option.isSome_of_eq_some copyShort_drive.2) hmask
  rw [State.settle_btn, copyShort_discards] at hmem
  exact List.not_mem_nil hmem

end Sys2Proof.Machine
end

section
/-!
DOWNSTREAM FRAMES (R91, R92, R113). What a frame, a HUSH set and a pass over all rings leave: of the registers only the corruption counts of
the pairs (DWL_PINJ.CNT), of Batten's record only the ring's sequence number; and what leaves on a ring that sends on both directions.
-/
namespace Sys2Proof.Machine

section
variable {l : List Fld} {s t u : State}

theorem Frame.ringOut (h : Frame l s u) (r dirs : Nat) (e : Nat → Emit) : Frame l s (u.ringOut r dirs e) :=
  h.trans (Frame.of_only (State.ringOut_only ..) (by decide) (by decide) (by decide))

theorem Frame.laneOut (h : Frame l s u) (p : Nat) (chars : List RingChar) : Frame l s (u.laneOut p chars) :=
  h.trans (Frame.of_only (State.laneOut_only ..) (by decide) (by decide) (by decide))

theorem Frame.hushSets (h : Frame l s u) (r n : Nat) : Frame l s (u.hushSets r n) :=
  ((h.ringOut ..).laneOut ..).laneOut ..

/-- A pair counts the frames that it corrupts for a test. -/
theorem Frame.ringPairOut (h : Frame l s u) {p : Nat} (hp : R.DWL_PINJ_CNT p ∈ l) (q : Nat) (body : List Byte) :
    Frame l s (u.ringPairOut p q body) := by
  have hinj (m : List (Nat × Nat)) : Frame l s { u with dwl := { u.dwl with ringInj := m } } :=
    h.trans ⟨fun _ _ _ => rfl, fun _ => rfl, fun _ => rfl⟩
  unfold State.ringPairOut
  dsimp only
  split
  · exact h
  · split
    · split
      · exact (((hinj _).bump hp).emit _).laneOut ..
      · exact (hinj _).laneOut ..
    · exact h.laneOut ..

theorem Frame.setRing (h : Frame l s u) (r : Nat) (f : RingState → RingState) : Frame l s (u.setRing r f) :=
  h.trans ⟨fun _ _ _ => rfl, fun _ => rfl, fun _ => rfl⟩

theorem Frame.sendRing (h : Frame l s u) {r : Nat} (hcw : R.DWL_PINJ_CNT (2 * r) ∈ l) (hccw : R.DWL_PINJ_CNT (2 * r + 1) ∈ l)
    (typ dest : Nat) (payload : List Byte) (dirs : Nat) : Frame l s (u.sendRing r typ dest payload dirs) := by
  unfold State.sendRing
  dsimp only
  refine Frame.when (Frame.when ((h.setRing ..).ringOut ..) _ ?_) _ ?_
  · exact (Frame.refl ..).ringPairOut hcw ..
  · exact (Frame.refl ..).ringPairOut hccw ..

/-- A frame of a ring takes its next sequence number, and Batten's record changes in nothing else. -/
theorem State.sendRing_btn (s : State) (r typ dest : Nat) (payload : List Byte) (dirs : Nat) :
    (s.sendRing r typ dest payload dirs).btn = (s.setRing r (fun x => { x with seq := ((s.ringSt r).seq + 1) % 65536 })).btn := by
  have hpair (v : State) (p q : Nat) (body : List Byte) : (v.ringPairOut p q body).btn = v.btn :=
    (State.ringPairOut_only ..).btn.resolve_left (by decide)
  unfold State.sendRing
  dsimp only
  rw [State.when_keeps State.btn (hpair ..), State.when_keeps State.btn (hpair ..), (State.ringOut_only ..).btn.resolve_left (by decide)]

theorem State.sendRing_ringSt (s : State) (r typ dest : Nat) (payload : List Byte) (dirs : Nat) {r' : Nat} (h : r' ≠ r) :
    (s.sendRing r typ dest payload dirs).ringSt r' = s.ringSt r' := by
  rw [State.ringSt, State.sendRing_btn]
  exact mapGet_set_ne _ _ _ _ _ _ h

/-- What has left a pair stays on record. -/
theorem State.ringPairOut_out (s : State) (p q : Nat) (body : List Byte) : s.out ⊆ (s.ringPairOut p q body).out := by
  have hlane (v : State) (chars : List RingChar) : v.out ⊆ (v.laneOut p chars).out := (State.laneOut_spares (fun _ => True) ..).out
  unfold State.ringPairOut
  dsimp only
  split
  · exact List.Subset.refl _
  · split
    · split
      · exact fun _ he => hlane _ _ (List.mem_cons_of_mem _ he)
      · exact fun _ he => hlane _ _ he
    · exact hlane _ _

theorem State.when_out {c : Bool} {f : State → State} (h : s.out ⊆ (f s).out) : s.out ⊆ (s.when c f).out := by
  unfold State.when
  split
  · exact h
  · exact List.Subset.refl _

/-- What a ring sends, before the characters of its pairs. -/
theorem State.sendRing_ringOut (s : State) (r typ dest : Nat) (payload : List Byte) (dirs : Nat) :
    ((s.setRing r (fun x => { x with seq := ((s.ringSt r).seq + 1) % 65536 })).ringOut r dirs
      (fun d => .ring r d (Machine.ringFrame typ dest (s.ringSt r).seq payload))).out ⊆ (s.sendRing r typ dest payload dirs).out :=
  List.Subset.trans (State.when_out (State.ringPairOut_out ..)) (State.when_out (State.ringPairOut_out ..))

theorem State.sendRing_out (s : State) (r typ dest : Nat) (payload : List Byte) (dirs : Nat) :
    s.out ⊆ (s.sendRing r typ dest payload dirs).out :=
  List.Subset.trans (State.ringOut_spares (fun _ => True) (s.setRing r _) ..).out (State.sendRing_ringOut ..)

theorem State.ringOut_both {r : Nat} (h : sendsBoth s r) (e : Nat → Emit) : s.ringOut r 3 e = s.emit (e 3) := by
  simp [State.ringOut, h.1, h.2]

/-- A frame for both directions leaves on both where neither is made to send IDLE only. -/
theorem State.sendRing_emits {r : Nat} (h : sendsBoth s r) (typ dest : Nat) (payload : List Byte) :
    Emit.ring r 3 (Machine.ringFrame typ dest (s.ringSt r).seq payload) ∈ (s.sendRing r typ dest payload 3).out := by
  refine State.sendRing_ringOut _ _ _ _ _ _ ?_
  rw [State.ringOut_both (s := s.setRing r _) h]
  exact List.mem_cons_self

/-- HUSH sets for both directions leave on both. -/
theorem State.hushSets_emits {r : Nat} (h : sendsBoth s r) (n : Nat) : Emit.ringSets r 3 hushSet n ∈ (s.hushSets r n).out := by
  unfold State.hushSets
  dsimp only
  rw [State.ringOut_both h]
  exact (State.laneOut_spares (fun _ => True) ..).out ((State.laneOut_spares (fun _ => True) ..).out List.mem_cons_self)

/-! ### A pass over the rings -/

/-- A step that sends on ring `r` alone: it leaves the clock, the fault log, every register outside the links and the records of the other
rings alone, and what has left stays on record. -/
structure RingStep (r : Nat) (s t : State) : Prop where
  only   : Only 0xc2001000100000 s t
  ringSt : ∀ r', r' ≠ r → t.ringSt r' = s.ringSt r'
  out    : s.out ⊆ t.out

theorem RingStep.sendRing (s : State) (r typ dest : Nat) (payload : List Byte) (dirs : Nat) :
    RingStep r s (s.sendRing r typ dest payload dirs) :=
  ⟨State.sendRing_only .., fun _ hr => State.sendRing_ringSt _ _ _ _ _ _ hr, State.sendRing_out ..⟩

theorem RingStep.trans {r : Nat} (h : RingStep r s u) (h' : RingStep r u t) : RingStep r s t :=
  ⟨h.only.app h'.only (by decide), fun r' hr => (h'.ringSt r' hr).trans (h.ringSt r' hr), List.Subset.trans h.out h'.out⟩

theorem RingStep.hushSets (s : State) (r n : Nat) : RingStep r s (s.hushSets r n) :=
  ⟨(State.hushSets_only ..).mono (by decide), fun _ _ => congrArg (fun b : BtnState => mapGet RingState.zero b.rings _)
    ((State.hushSets_only ..).btn.resolve_left (by decide)), (State.hushSets_spares (fun _ => True) ..).out⟩

variable {p : State → Nat → Bool} {f : State → Nat → State}

/-- The first `n` rings of a pass leave the records of the later ones alone. -/
theorem onRings_prefix (hf : ∀ t r, RingStep r t (f t r)) (n : Nat) :
    Only 0xc2001000100000 s ((List.range n).foldl (fun t r => if p t r then f t r else t) s)
      ∧ ∀ r, n ≤ r → ((List.range n).foldl (fun t r => if p t r then f t r else t) s).ringSt r = s.ringSt r := by
  induction n with
  | zero => exact ⟨Only.refl .., fun _ _ => rfl⟩
  | succ n ih =>
    obtain ⟨honly, hring⟩ := ih
    rw [List.range_succ, List.foldl_append, List.foldl_cons, List.foldl_nil]
    split
    · exact ⟨honly.app (hf _ n).only (by decide), fun r hr => ((hf _ n).ringSt r (by omega)).trans (hring r (by omega))⟩
    · exact ⟨honly, fun r hr => hring r (by omega)⟩

/-- A ring's own step finds the ring as it was before the pass, and what it says is said. -/
theorem onRings_reaches (hf : ∀ t r, RingStep r t (f t r)) {n r : Nat} (hr : r < n) :
    ∃ v, Only 0xc2001000100000 s v ∧ v.ringSt r = s.ringSt r ∧
      (if p v r then f v r else v).out ⊆ ((List.range n).foldl (fun t r => if p t r then f t r else t) s).out := by
  induction n with
  | zero => exact absurd hr (Nat.not_lt_zero r)
  | succ n ih =>
    rw [List.range_succ, List.foldl_append, List.foldl_cons, List.foldl_nil]
    obtain rfl | hlt := Nat.eq_or_lt_of_le (Nat.le_of_lt_succ hr)
    · obtain ⟨honly, hring⟩ := onRings_prefix (s := s) (p := p) hf r
      exact ⟨_, honly, hring r (le_refl r), List.Subset.refl _⟩
    · obtain ⟨v, honly, hring, hout⟩ := ih hlt
      refine ⟨v, honly, hring, List.Subset.trans hout ?_⟩
      split
      · exact (hf _ n).out
      · exact List.Subset.refl _

/-- The corruption counts of the ring pairs. -/
theorem pinj_mem {p : Nat} (hp : p < 16) : R.DWL_PINJ_CNT p ∈ (List.range 16).map R.DWL_PINJ_CNT :=
  List.mem_map_of_mem (List.mem_range.mpr hp)

theorem Frame.onRings (h : Frame l s u) (hf : ∀ t r, r < 8 → Frame l t (f t r)) : Frame l s (u.onRings p f) := by
  unfold State.onRings
  refine List.foldlRecOn _ _ h fun t ht r hr => ?_
  split
  · exact ht.trans (hf t r (List.mem_range.mp hr))
  · exact ht

end

end Sys2Proof.Machine
end

section
/-!
TRUSS'S KEY WINDOW, HOLDS AND ARM CHECKS (R113, R292, R295, R296, R304): what the stop paths show of holds and light, and what each of these
commands leaves (O27).
-/
namespace Sys2Proof.Machine

section
variable {s t u : State}

/-! ### What the stop paths show (R294, R295, R304) -/

theorem State.goLight_rd {f : Fld} (h : f.key ≠ R.TRS_STATE_DARKCMD.key) (s : State) : s.goLight.rd f = s.rd f := by
  unfold State.goLight
  split
  · rfl
  · split
    · rfl
    · exact State.rd_wr_ne s R.TRS_STATE_DARKCMD f 1 h

/-- Going dark writes DARKCMD, and what a hush writes. -/
theorem State.goDark_keeps {f : Fld} (h : f.key ≠ R.TRS_STATE_DARKCMD.key) (hb : Nat.testBit 0xc2103000000820 (blk f.key) = false)
    (s : State) : s.goDark.rd f = s.rd f := by
  rw [State.goDark_eq, (State.hushRaised_only _).rd _ hb]
  unfold State.darkLow
  split
  · rw [State.onTrs_rd, State.emit_rd, State.rd_wr_ne _ _ _ _ h]
    rfl
  · rfl

/-- Behind the stop paths HOLD and LIGHT read as the state and its inputs ask for them. -/
theorem State.stopPaths_rd {f : Fld} (h : f.key ≠ R.TRS_STATE_DARKCMD.key) (ho : f.key ≠ R.TRS_STATE_SOUTCMD.key)
    (hb : Nat.testBit 0xc2103000000820 (blk f.key) = false) (s : State) : s.stopPaths.rd f = s.lightShown.rd f := by
  unfold State.stopPaths
  rw [(State.soutSteps_spares ..).rd _ ho]
  split
  · exact State.goLight_rd h _
  · exact State.goDark_keeps h hb _

theorem State.trsEvalFrom_shows {f : Fld} (h : f.key ≠ R.TRS_STATE_DARKCMD.key) (ho : f.key ≠ R.TRS_STATE_SOUTCMD.key)
    (he : f.key ≠ R.TRS_EVENT_NUM.key) (hb : Nat.testBit 0xc2103000000820 (blk f.key) = false) (s : State) (prev cause : Nat) :
    (s.trsEvalFrom prev cause).rd f = s.lightShown.rd f := by
  rcases s.trsEvalFrom_eq prev cause with hs | hs
  · rw [hs, State.stopPaths_rd h ho hb]
  · rw [hs, (State.trsMarker_spares ..).rd _ he, State.stopPaths_rd h ho hb]

theorem State.trsEvalFrom_hold (s : State) (prev cause : Nat) :
    (s.trsEvalFrom prev cause).rd R.TRS_STATE_HOLD = s.anyHold.toNat := by
  rw [State.trsEvalFrom_shows (by decide) (by decide) (by decide) (by decide), State.lightShown, State.rd_wrB_ne _ _ _ _ (by decide),
    State.rd_wrB_same _ _ rfl]

theorem State.trsEvalFrom_light (s : State) (prev cause : Nat) :
    (s.trsEvalFrom prev cause).rd R.TRS_STATE_LIGHT = s.lightOk.toNat := by
  rw [State.trsEvalFrom_shows (by decide) (by decide) (by decide) (by decide), State.lightShown, State.rd_wrB_same _ _ rfl]

/-- Under the DARKREQ hold the stop paths drive DARK_N low. -/
theorem State.trsEvalFrom_of_darkHold (h : s.trs.darkHold = true) (prev cause : Nat) :
    (s.trsEvalFrom prev cause).rd R.TRS_STATE_DARKCMD = 0 := by
  have hlight : s.lightShown.lightOk = false := by
    have hhold : s.lightShown.trs.darkHold = true := h
    simp [State.lightOk, State.anyHold, hhold]
  have hstop : s.stopPaths.rd R.TRS_STATE_DARKCMD = 0 := by
    unfold State.stopPaths
    rw [hlight, (State.soutSteps_spares ..).rd _ (by decide)]
    exact State.goDark_rd _
  rcases s.trsEvalFrom_eq prev cause with he | he
  · rw [he, hstop]
  · rw [he, (State.trsMarker_spares ..).rd _ (by decide), hstop]

/-! ### The key window (R292) -/

theorem trsKey_first (s : State) : Completes (.trsKey 0x54525553#32) s (fun t =>
    t.trs.keySeq = true ∧ t.rd R.TRS_STATE_KEYOPEN = s.rd R.TRS_STATE_KEYOPEN ∧ Frame [] s t) := by
  have hframe : Frame [] s (s.onTrs (fun t => { t with keySeq := true })).settle := ((Frame.refl ..).onTrs _).settle
  refine completes_of_done (u := s.onTrs (fun t => { t with keySeq := true })) rfl ⟨?_, hframe.rd _ (by decide) (by decide), hframe⟩
  rw [State.settle_trs]
  rfl

theorem keyClose_frame (l : List Fld) (h : R.TRS_STATE_KEYOPEN ∈ l) (s : State) : Frame l s s.keyClose :=
  ((Frame.refl ..).wr h).onTrs _

theorem trsKey_second (h : s.trs.keySeq = true) : Completes (.trsKey 0xABADAAAC#32) s (fun t =>
    t.trs.keySeq = false ∧ t.rd R.TRS_STATE_KEYOPEN = 1 ∧ Frame [R.TRS_STATE_KEYOPEN] s t) := by
  have hexec : exec (.trsKey 0xABADAAAC#32) s = ((s.wr R.TRS_STATE_KEYOPEN 1).onTrs (fun t => { t with keySeq := false })).done := by
    refine congrArg State.done ((if_neg (by decide)).trans (if_pos ?_))
    rw [h]
    decide
  refine completes_of_done hexec ⟨?_, ?_, (((Frame.refl ..).wr (by decide)).onTrs _).settle⟩
  · rw [State.settle_trs]
    rfl
  · rw [State.settle_rd _ _ (by decide) (by decide), State.onTrs_rd, State.rd_wr_same]
    rfl

theorem trsKey_zero (s : State) : Completes (.trsKey 0#32) s (fun t =>
    t.trs.keySeq = false ∧ t.rd R.TRS_STATE_KEYOPEN = 0 ∧ Frame [R.TRS_STATE_KEYOPEN] s t) := by
  have hexec : exec (.trsKey 0#32) s = s.keyClose.done := by
    refine congrArg State.done ((if_neg (by decide)).trans ((if_neg ?_).trans (if_pos rfl)))
    rw [(by decide : decide ((0#32).toNat = keyWord2) = false)]
    simp
  refine completes_of_done hexec ⟨?_, ?_, (keyClose_frame _ (by decide) s).settle⟩
  · rw [State.settle_trs]
    rfl
  · rw [State.settle_rd _ _ (by decide) (by decide), State.keyClose, State.onTrs_rd, State.rd_wr_same]
    rfl

/-- Two words that differ have different numbers. -/
theorem toNat_ne_of_ne {w : Nat} {v k : BitVec w} (h : v ≠ k) : v.toNat ≠ k.toNat := fun he => h (BitVec.eq_of_toNat_eq he)

theorem trsKey_other {v : Word} (h0 : v ≠ 0) (h1 : v ≠ 0x54525553#32) (h2 : v = 0xABADAAAC#32 → s.trs.keySeq = false) :
    Completes (.trsKey v) s (fun t =>
      t.trs.keySeq = false ∧ t.rd R.TRS_STATE_KEYOPEN = 0 ∧ t.rd R.TRS_INTSTAT_KEYFAIL = 1
        ∧ Frame ([R.TRS_STATE_KEYOPEN, R.TRS_INTSTAT_KEYFAIL] ++ reportFlds) s t) := by
  have hsecond : (decide (v.toNat = keyWord2) && s.trs.keySeq) = false := by
    rcases Decidable.em (v = 0xABADAAAC#32) with hv | hv
    · rw [h2 hv, Bool.and_false]
    · rw [decide_eq_false (p := v.toNat = keyWord2) (toNat_ne_of_ne hv), Bool.false_and]
  have hexec : exec (.trsKey v) s = ((s.keyClose.flag R.TRS_INTSTAT_KEYFAIL).trsReport 0x0502 0).done := by
    refine congrArg State.done ((if_neg (toNat_ne_of_ne h1)).trans ((if_neg ?_).trans (if_neg (toNat_ne_of_ne h0))))
    simpa using hsecond
  refine completes_of_done hexec ⟨?_, ?_, ?_, ?_⟩
  · rw [State.settle_trs, State.trsReport, (State.report_only ..).trs.resolve_left (by decide)]
    rfl
  · rw [State.settle_rd _ _ (by decide) (by decide), State.trsReport, State.report_rd _ _ _ _ _ _ _ (by decide) (by decide),
      State.rd_flag, if_neg (by decide), State.keyClose, State.onTrs_rd, State.rd_wr_same]
    rfl
  · rw [State.settle_rd _ _ (by decide) (by decide), State.trsReport, State.report_rd _ _ _ _ _ _ _ (by decide) (by decide),
      State.rd_flag, if_pos rfl]
    rfl
  · exact (((keyClose_frame _ (by decide) s).wr (by decide)).report _ _ _ _ _ (by decide)).settle

theorem keyWindowExpiry_completes (s : State) : Completes .keyWindowExpiry s (fun t =>
    t.rd R.TRS_STATE_KEYOPEN = 0 ∧ t.trs = s.trs ∧ Frame [R.TRS_STATE_KEYOPEN] s t) := by
  refine completes_of_done (u := s.wr R.TRS_STATE_KEYOPEN 0) rfl ⟨?_, State.settle_trs _, ((Frame.refl ..).wr (by decide)).settle⟩
  rw [State.settle_rd _ _ (by decide) (by decide), State.rd_wr_same]
  rfl

theorem keySequenceExpiry_completes (s : State) : Completes .keySequenceExpiry s (fun t => t.trs.keySeq = false ∧ Frame [] s t) := by
  refine completes_of_done (u := s.onTrs (fun t => { t with keySeq := false })) rfl ⟨?_, ((Frame.refl ..).onTrs _).settle⟩
  rw [State.settle_trs]
  rfl

/-! ### DARKREQ (R295) -/

/-- The DARKREQ hold and the checks under way outlast the stop paths. -/
theorem TrsState.holds_of_offStop {t u : TrsState} (e : t.offStop = u.offStop) : t.darkHold = u.darkHold ∧ t.armDue = u.armDue :=
  ⟨(congrArg TrsState.darkHold e :), (congrArg TrsState.armDue e :)⟩

theorem State.trsEval_darkHold (s : State) (cause : Nat) : (s.trsEval cause).trs.darkHold = s.trs.darkHold :=
  (TrsState.holds_of_offStop (s.trsEvalFrom_trs _ _)).1

theorem State.trsEval_darkreq (s : State) (cause : Nat) : (s.trsEval cause).rd R.TRS_CTL_DARKREQ = s.rd R.TRS_CTL_DARKREQ :=
  (s.trsEvalFrom_spares _ _).rd _ (by unfold OffEval; decide)

theorem State.darkreq_trsState (s : State) (v : Bool) : (s.wrB R.TRS_CTL_DARKREQ v).trsState = s.trsState :=
  State.rd_wr_ne _ _ _ _ (by decide)

theorem darkreq_raises (s : State) : Completes (.darkreq true) s (fun t =>
    t.rd R.TRS_CTL_DARKREQ = 1 ∧ t.trs.darkHold = true ∧ t.rd R.TRS_STATE_HOLD = 1 ∧ t.rd R.TRS_STATE_LIGHT = 0
      ∧ t.rd R.TRS_STATE_DARKCMD = 0 ∧ t.trsState = s.trsState ∧ KeepsMemory s t) := by
  set u := (s.wrB R.TRS_CTL_DARKREQ true).onTrs
    (fun t => { t with darkHold := true, armDue := if t.armDue == .darkreq then .none else t.armDue }) with hu
  have hhold : u.trs.darkHold = true := rfl
  have hany : u.anyHold = true := by simp [State.anyHold, hhold]
  have hlight : u.lightOk = false := by simp [State.lightOk, hany]
  have hexec : exec (.darkreq true) s = (u.trsEval 0x0011).done := rfl
  refine completes_of_done hexec ⟨?_, ?_, ?_, ?_, ?_, ?_, (execDarkreq_only true s _ hexec).keepsMemory (by decide) (by decide)⟩
  · rw [State.settle_rd _ _ (by decide) (by decide), State.trsEval_darkreq, hu, State.onTrs_rd, State.rd_wrB_same _ _ rfl]
    rfl
  · rw [State.settle_trs, State.trsEval_darkHold, hhold]
  · rw [State.settle_rd _ _ (by decide) (by decide), State.trsEval, State.trsEvalFrom_hold, hany]
    rfl
  · rw [State.settle_rd _ _ (by decide) (by decide), State.trsEval, State.trsEvalFrom_light, hlight]
    rfl
  · rw [State.settle_rd _ _ (by decide) (by decide)]
    exact State.trsEvalFrom_of_darkHold hhold _ _
  · rw [State.trsState, State.settle_rd _ _ (by decide) (by decide)]
    exact (State.trsEvalFrom_trsState ..).trans (s.darkreq_trsState true)

theorem State.wrB_trs (s : State) (f : Fld) (v : Bool) : (s.wrB f v).trs = s.trs := rfl

theorem darkreq_lifts (h : s.trs.darkHold = true) (h3 : s.trsState = 3) : Completes (.darkreq false) s (fun t =>
    t.rd R.TRS_CTL_DARKREQ = 0 ∧ t.trs.darkHold = false ∧ t.rd R.TRS_STATE_DARKCMD = 0 ∧ t.trsState = 3 ∧ KeepsMemory s t) := by
  set u := (s.wrB R.TRS_CTL_DARKREQ false).onTrs (fun t => { t with darkHold := false, rwkUnder := false }) with hu
  have hstate : u.trsState = 3 := (s.darkreq_trsState false).trans h3
  have hexec : exec (.darkreq false) s = (u.trsEval 0).done := by
    show (s.darkreqWrite false).done = _
    simp [State.darkreqWrite, State.wrB_trs, h, State.darkreq_trsState, h3, hu]
  refine completes_of_done hexec ⟨?_, ?_, ?_, ?_, (execDarkreq_only false s _ hexec).keepsMemory (by decide) (by decide)⟩
  · rw [State.settle_rd _ _ (by decide) (by decide), State.trsEval_darkreq, hu, State.onTrs_rd, State.rd_wrB_same _ _ rfl]
    rfl
  · rw [State.settle_trs, State.trsEval_darkHold]
    rfl
  · rw [State.settle_rd _ _ (by decide) (by decide)]
    exact State.trsEvalFrom_dark (by rw [hstate]; decide) _ _
  · rw [State.trsState, State.settle_rd _ _ (by decide) (by decide)]
    exact (State.trsEvalFrom_trsState ..).trans hstate

theorem darkreq_without_hold (h : s.trs.darkHold = false) : Completes (.darkreq false) s (fun t =>
    t.rd R.TRS_CTL_DARKREQ = 0 ∧ t.trs = s.trs ∧ Frame [R.TRS_CTL_DARKREQ] s t) := by
  have hexec : exec (.darkreq false) s = (s.wrB R.TRS_CTL_DARKREQ false).done := by
    show (s.darkreqWrite false).done = _
    simp [State.darkreqWrite, State.wrB_trs, h]
  refine completes_of_done hexec ⟨?_, State.settle_trs _, ((Frame.refl ..).wr (by decide)).settle⟩
  rw [State.settle_rd _ _ (by decide) (by decide), State.rd_wrB_same _ _ rfl]
  rfl

/-! ### ARM checks (R296) -/

/-- Where a change of state leads: the state, its cause and DETAIL, and the flag. -/
def State.stateMoved (s : State) (st cause detail : Nat) : State :=
  (((s.wr R.TRS_STATE_STATE st).wr R.TRS_LASTCAUSE_CAUSE cause).wr R.TRS_LASTCAUSE_DETAIL detail).flag R.TRS_INTSTAT_STATECHG

theorem State.setTrs_of_ne {st : Nat} (h : s.trsState ≠ st) (cause detail : Nat) :
    s.setTrs st cause detail = (s.stateMoved st cause detail).trsEvalFrom s.trsState cause := if_neg h

theorem State.stateMoved_rd {f : Fld} (h : ∀ g ∈ [R.TRS_STATE_STATE, R.TRS_LASTCAUSE_CAUSE, R.TRS_LASTCAUSE_DETAIL,
    R.TRS_INTSTAT_STATECHG], f.key ≠ g.key) (s : State) (st cause detail : Nat) : (s.stateMoved st cause detail).rd f = s.rd f := by
  rw [State.stateMoved, State.rd_flag, if_neg (h _ (by decide)), State.rd_wr_ne _ _ _ _ (h _ (by decide)),
    State.rd_wr_ne _ _ _ _ (h _ (by decide)), State.rd_wr_ne _ _ _ _ (h _ (by decide))]

theorem State.stateMoved_trsState {st : Nat} (h : st < 8) (s : State) (cause detail : Nat) :
    (s.stateMoved st cause detail).trsState = st := by
  rw [State.trsState, State.stateMoved, State.rd_flag, if_neg (by decide), State.rd_wr_ne _ _ _ _ (by decide),
    State.rd_wr_ne _ _ _ _ (by decide), State.rd_wr_same]
  exact Nat.mod_eq_of_lt h

/-- The state that a change of state leads to. -/
theorem State.setTrs_trsState {st : Nat} (h : s.trsState ≠ st) (hst : st < 8) (cause detail : Nat) :
    (s.setTrs st cause detail).trsState = st := by
  rw [State.setTrs_of_ne h, State.trsEvalFrom_trsState, State.stateMoved_trsState hst]

theorem State.setTrs_armDue (s : State) (st cause detail : Nat) : (s.setTrs st cause detail).trs.armDue = s.trs.armDue :=
  (TrsState.holds_of_offStop (s.setTrs_trs st cause detail)).2

/-- The ARM checks have pulsed the outputs, and are over. -/
def State.armEnded (s : State) : State := s.armPulses.onTrs (fun t => { t with armDue := .none, rwkSince := false })

theorem State.armEnded_trsState (s : State) : s.armEnded.trsState = s.trsState := by
  rw [State.trsState, State.armEnded, State.onTrs_rd]
  exact (State.armPulses_only s).rd _ (by decide)

/-- A failed check ends the limp window, and one at start-up the full-reset hold. -/
def State.armDropped (s : State) (keep : Bool) : State :=
  s.armEnded.onTrs (fun t => { t with limp := [], resetHold := t.resetHold && keep })

/-- A failed check shows ARMREF and is reported. -/
def State.armRefused (s : State) (keep : Bool) (n : Nat) : State :=
  ((s.armDropped keep).flag R.TRS_INTSTAT_ARMREF).trsReport 0x0402 n

theorem State.armRefused_rd {f : Fld} (h : ∀ g ∈ reportFlds, f.key ≠ g.key) (s : State) (keep : Bool) (n : Nat)
    (hb : Nat.testBit 0x40000000000000 (blk f.key) = false) :
    (s.armRefused keep n).rd f = if f.key = R.TRS_INTSTAT_ARMREF.key then 1 else s.rd f := by
  rw [State.armRefused, State.trsReport, State.report_rd _ _ _ _ _ _ _ (h _ (by decide)) (h _ (by decide)), State.rd_flag,
    State.armDropped, State.onTrs_rd, State.armEnded, State.onTrs_rd, (State.armPulses_only s).rd _ hb]
  rfl

/-- Check 6 fails, so a check fails. -/
theorem State.armCheck_ne_zero (s : State) : s.armCheck false ≠ 0 := by
  unfold State.armCheck
  repeat' split
  all_goals simp_all

/-- A failed check by the state it finds (R296, R317). -/
theorem State.armResult_of_fail {fb : Bool} {n : Nat} (hn : s.armCheck fb = n) (h : n ≠ 0) {v : State}
    (hv : s.armRefused (!(s.trs.armDue == .stage)) n = v) :
    s.armResult fb =
      if v.trsState = 4 || (v.trsState = 3 && !(s.trs.armDue == .release)) then v.trsEval 0x0402
      else if v.trsState = 0 then ((v.wr R.TRS_LASTCAUSE_CAUSE 0x0402).wr R.TRS_LASTCAUSE_DETAIL n).trsEval 0x0402
      else v.setTrs 0 0x0402 n := by
  subst hn hv
  exact if_neg h

theorem armChecks_fail (hdue : s.trs.armDue = .release) (h3 : s.trsState = 3) : Completes (.armChecks false) s (fun t =>
    t.trs.armDue = .none ∧ t.trsState = 0 ∧ t.rd R.TRS_INTSTAT_ARMREF = 1 ∧ t.rd R.TRS_LASTCAUSE_CAUSE = 0x0402
      ∧ t.rd R.TRS_STATE_DARKCMD = 0 ∧ KeepsMemory s t) := by
  obtain ⟨n, hn⟩ : ∃ n, s.armCheck false = n := ⟨_, rfl⟩
  have hstate : (s.armRefused true n).trsState = 3 :=
    (State.armRefused_rd (by decide) s true n (by decide)).trans ((if_neg (by decide)).trans h3)
  have hne : (s.armRefused true n).trsState ≠ 0 := by rw [hstate]; decide
  have hexec : exec (.armChecks false) s = ((s.armRefused true n).setTrs 0 0x0402 n).done := by
    show execArmChecks false s = _
    have hkeep : s.armRefused (!(s.trs.armDue == .stage)) n = s.armRefused true n := by
      rw [hdue]
      rfl
    rw [execArmChecks, if_pos (by rw [hdue]; rfl), State.armResult_of_fail hn (hn ▸ s.armCheck_ne_zero) hkeep, hdue, hstate,
      if_neg (by decide), if_neg (by decide)]
  refine completes_of_done hexec ⟨?_, ?_, ?_, ?_, ?_, (execArmChecks_only false s _ hexec).keepsMemory (by decide) (by decide)⟩
  · rw [State.settle_trs, State.setTrs_armDue]
    rw [State.armRefused, State.trsReport, (State.report_only ..).trs.resolve_left (by decide)]
    rfl
  · rw [State.trsState, State.settle_rd _ _ (by decide) (by decide)]
    exact State.setTrs_trsState hne (by decide) ..
  · rw [State.settle_rd _ _ (by decide) (by decide), State.setTrs_of_ne hne, (State.trsEvalFrom_spares ..).rd _ (by unfold OffEval; decide),
      State.stateMoved_rd (by decide), State.armRefused_rd (by decide) _ _ _ (by decide), if_pos rfl]
  · rw [State.settle_rd _ _ (by decide) (by decide)]
    exact State.setTrs_cause hne (by decide) _
  · rw [State.settle_rd _ _ (by decide) (by decide), State.setTrs_of_ne hne]
    exact State.trsEvalFrom_dark (by rw [State.stateMoved_trsState (by decide)]; decide) ..

/-- Passed ARM checks lift the holds that waited for them. -/
def State.armGranted (s : State) (keep : Bool) : State :=
  s.armEnded.onTrs (fun t => { t with darkHold := s.armEnded.on R.TRS_CTL_DARKREQ, rwkUnder := false, resetHold := t.resetHold && keep })

theorem State.armGranted_trsState (s : State) (keep : Bool) : (s.armGranted keep).trsState = s.trsState := by
  rw [State.trsState, State.armGranted, State.onTrs_rd]
  exact s.armEnded_trsState

/-- Passed checks by the state they find (R296, R317). -/
theorem State.armResult_of_pass {fb : Bool} (h : s.armCheck fb = 0) {v : State} (hv : s.armGranted (!(s.trs.armDue == .stage)) = v) :
    s.armResult fb =
      if v.trsState = 0 then v.setTrs 1 0x0401 0
      else if s.trs.armDue == .release && v.trsState == 3 then v.setTrs 1 0x0403 0
      else v.trsEval 0 := by
  subst hv
  exact if_pos h

theorem armChecks_release (hdue : s.trs.armDue = .release) (h3 : s.trsState = 3) (hpass : s.armCheck true = 0) :
    Completes (.armChecks true) s (fun t =>
      t.trs.armDue = .none ∧ t.trsState = 1 ∧ t.rd R.TRS_LASTCAUSE_CAUSE = 0x0403 ∧ KeepsMemory s t) := by
  have hne : (s.armGranted true).trsState ≠ 1 := by rw [State.armGranted_trsState, h3]; decide
  have hexec : exec (.armChecks true) s = ((s.armGranted true).setTrs 1 0x0403 0).done := by
    show execArmChecks true s = _
    have hkeep : s.armGranted (!(s.trs.armDue == .stage)) = s.armGranted true := by
      rw [hdue]
      rfl
    rw [execArmChecks, if_pos (by rw [hdue]; rfl), State.armResult_of_pass hpass hkeep, hdue, State.armGranted_trsState, h3,
      if_neg (by decide), if_pos (by decide)]
  refine completes_of_done hexec ⟨?_, ?_, ?_, (execArmChecks_only true s _ hexec).keepsMemory (by decide) (by decide)⟩
  · rw [State.settle_trs, State.setTrs_armDue]
    rfl
  · rw [State.trsState, State.settle_rd _ _ (by decide) (by decide)]
    exact State.setTrs_trsState hne (by decide) ..
  · rw [State.settle_rd _ _ (by decide) (by decide)]
    exact State.setTrs_cause hne (by decide) _

/-! ### DARK_N and the hush request (R113, R295, R304) -/

theorem darkNRelease_completes (hrel : s.trs.darkRel = true) (hlight : s.lightOk = true) : Completes .darkNRelease s (fun t =>
    t.rd R.TRS_STATE_DARKCMD = 1 ∧ t.trs.darkRel = false ∧ t.trs.withdraw = s.trs.hushReq ∧ Emit.darkN true ∈ t.out
      ∧ Frame [R.TRS_STATE_DARKCMD, R.TRS_EVENT_NUM] s t) := by
  have hexec : exec .darkNRelease s = (s.darkHigh.trsMarker s.trsState 0).done := if_pos (by rw [hrel, hlight]; rfl)
  have hspares := s.darkHigh.trsMarker_spares s.trsState 0
  have hframe : Frame [R.TRS_STATE_DARKCMD, R.TRS_EVENT_NUM] s (s.darkHigh.trsMarker s.trsState 0) := by
    have hhigh : Frame [R.TRS_STATE_DARKCMD, R.TRS_EVENT_NUM] s s.darkHigh := (((Frame.refl ..).wr (by decide)).emit _).onTrs _
    have honly := State.trsMarker_only s.darkHigh s.trsState 0
    exact hhigh.trans ⟨fun f hf _ => hspares.rd f (hf _ (by decide)), (honly.keepsMemory (by decide) (by decide))⟩
  refine completes_of_done hexec ⟨?_, ?_, ?_, State.settle_out _ (hspares.out List.mem_cons_self), hframe.settle⟩
  · rw [State.settle_rd _ _ (by decide) (by decide), hspares.rd _ (by decide), State.darkHigh, State.onTrs_rd, State.emit_rd,
      State.rd_wr_same]
    rfl
  · rw [State.settle_trs, State.trsMarker_trs]
    rfl
  · rw [State.settle_trs, State.trsMarker_trs]
    rfl

/-- What a ring's own step of a pass needs of the rest of the machine is as before the pass. -/
theorem sendsBoth_of_only {r : Nat} (h : sendsBoth s r) (ho : Only 0xc2001000100000 s u) : sendsBoth u r := by
  have hidles (p : Nat) : u.idles p = s.idles p := by
    rw [State.idles, State.idles, ho.clk.resolve_left (by decide), ho.flt.resolve_left (by decide)]
  exact ⟨(hidles _).trans h.1, (hidles _).trans h.2⟩

theorem hushGenBytes_of_only (ho : Only 0xc2001000100000 s u) : u.hushGenBytes = s.hushGenBytes :=
  congrArg (leBytes 2) (ho.rd _ (by decide))

/-- RESUME leaves on every ring that is up. -/
def State.resumeRings (s : State) : State :=
  s.onRings (fun t r => t.ringEn r && t.ringUp r) (fun t r => t.sendRing r 0x04 0xFF t.hushGenBytes 3)

theorem State.resumeRings_emits {r : Nat} (hr : r < 8) (hsends : sendsBoth s r) (hen : s.ringEn r = true) (hup : s.ringUp r = true) :
    Emit.ring r 3 (Machine.ringFrame 0x04 0xFF (s.ringSt r).seq s.hushGenBytes) ∈ s.resumeRings.out := by
  obtain ⟨v, honly, hring, hout⟩ := onRings_reaches (s := s) (p := fun t r => t.ringEn r && t.ringUp r)
    (f := fun t r => t.sendRing r 0x04 0xFF t.hushGenBytes 3) (fun t r => RingStep.sendRing ..) hr
  refine hout ?_
  have hen' : v.ringEn r = true := (congrArg (Nat.testBit · r) (honly.rd R.BTN_CTL_RINGEN (by decide))).trans hen
  have hup' : v.ringUp r = true := (congrArg (Nat.testBit · r) (honly.rd R.BTN_STATUS_RINGUP (by decide))).trans hup
  rw [hen', hup', Bool.and_self, if_pos rfl, ← hring, ← hushGenBytes_of_only honly]
  exact State.sendRing_emits (sendsBoth_of_only hsends honly) ..

/-- A pass that sends one frame on each ring writes no register but the corruption counts. -/
theorem State.sendRing_pinj (l : List Fld) (hl : (List.range 16).map R.DWL_PINJ_CNT ⊆ l) {r : Nat} (hr : r < 8) (s : State)
    (typ dest : Nat) (payload : List Byte) (dirs : Nat) : Frame l s (s.sendRing r typ dest payload dirs) :=
  (Frame.refl l s).sendRing (hl (pinj_mem (by omega))) (hl (pinj_mem (by omega))) ..

theorem State.onTrs_ringSt (s : State) (f : TrsState → TrsState) (r : Nat) : (s.onTrs f).ringSt r = s.ringSt r := rfl

theorem hushWithdrawal_completes (hw : s.trs.withdraw = true) (hreq : s.trs.hushReq = true) (hlight : s.lightOk = true)
    (hsends : ∀ r : Fin 8, sendsBoth s r.val) : Completes .hushWithdrawal s (fun t =>
      t.trs.withdraw = false ∧ t.trs.hushReq = false ∧ t.rd R.BTN_STATUS_HUSHED = 0 ∧ t.btn.hushing = false
        ∧ (∀ r : Fin 8, s.ringEn r.val = true → s.ringUp r.val = true → Emit.ring r.val 3 (ringFrame 0x04 0xFF (s.ringSt r.val).seq
          s.hushGenBytes) ∈ t.out)
        ∧ Frame ([R.BTN_STATUS_HUSHED] ++ (List.range 16).map R.DWL_PINJ_CNT) s t) := by
  set u := s.onTrs (fun t => { t with hushReq := false, withdraw := false }) with hu
  have hexec : exec .hushWithdrawal s = u.hushEnd.done := if_pos (by rw [hw, hreq, hlight]; rfl)
  have htrs : u.hushEnd.trs = u.trs := (State.hushEnd_only u).trs.resolve_left (by decide)
  have hframe : Frame ([R.BTN_STATUS_HUSHED] ++ (List.range 16).map R.DWL_PINJ_CNT) s u.hushEnd := by
    have hrings : Frame ([R.BTN_STATUS_HUSHED] ++ (List.range 16).map R.DWL_PINJ_CNT) s u.resumeRings :=
      ((Frame.refl _ s).onTrs _).onRings fun t r hr => State.sendRing_pinj _ (List.subset_append_right ..) hr ..
    exact (hrings.trans ⟨fun _ _ _ => rfl, fun _ => rfl, fun _ => rfl⟩).wr (by simp)
  refine completes_of_done hexec ⟨?_, ?_, ?_, ?_, fun r hen hup => State.settle_out _ ?_, hframe.settle⟩
  · rw [State.settle_trs, htrs]
    rfl
  · rw [State.settle_trs, htrs]
    rfl
  · rw [State.settle_rd _ _ (by decide) (by decide), State.hushEnd, State.rd_wr_same]
    rfl
  · rw [State.settle_btn]
    rfl
  · exact State.resumeRings_emits (s := u) r.isLt (hsends r) hen hup

theorem hushgenRepeat_completes (hreq : s.trs.hushReq = true) (hsends : ∀ r : Fin 8, sendsBoth s r.val) :
    Completes .hushgenRepeat s (fun t =>
      (∀ r : Fin 8, s.ringEn r.val = true → Emit.ringSets r.val 3 hushSet 1 ∈ t.out ∧ Emit.ring r.val 3 (ringFrame 0x0B 0xFF (s.ringSt
        r.val).seq s.hushGenBytes) ∈ t.out)
        ∧ t.trs = s.trs ∧ Frame ((List.range 16).map R.DWL_PINJ_CNT) s t) := by
  have hexec : exec .hushgenRepeat s = s.hushRepeat.done := if_pos hreq
  have hframe : Frame ((List.range 16).map R.DWL_PINJ_CNT) s s.hushRepeat := (Frame.refl _ s).onRings fun t r hr =>
    ((Frame.refl _ t).hushSets ..).trans (State.sendRing_pinj _ (List.Subset.refl _) hr ..)
  refine completes_of_done hexec ⟨fun r hen => ?_, ?_, hframe.settle⟩
  · obtain ⟨v, honly, hring, hout⟩ := onRings_reaches (s := s) (p := State.ringEn)
      (f := fun t r => (t.hushSets r 1).sendRing r 0x0B 0xFF t.hushGenBytes 3)
      (fun t r => (RingStep.hushSets ..).trans (RingStep.sendRing ..)) r.isLt
    have hen' : v.ringEn r.val = true := (congrArg (Nat.testBit · r.val) (honly.rd R.BTN_CTL_RINGEN (by decide))).trans hen
    have hboth : sendsBoth v r.val := sendsBoth_of_only (hsends r) honly
    have hsets : Only 0xc2001000100000 v (v.hushSets r.val 1) := (RingStep.hushSets v r.val 1).only
    have hseq : (v.hushSets r.val 1).ringSt r.val = s.ringSt r.val := by
      rw [← hring]
      exact congrArg (fun b : BtnState => mapGet RingState.zero b.rings r.val) ((State.hushSets_only ..).btn.resolve_left (by decide))
    rw [hen', if_pos rfl] at hout
    refine ⟨State.settle_out _ (hout (State.sendRing_out _ _ _ _ _ _ (State.hushSets_emits hboth 1))), State.settle_out _ (hout ?_)⟩
    rw [← hseq, ← hushGenBytes_of_only honly]
    exact State.sendRing_emits (sendsBoth_of_only hboth hsets) ..
  · rw [State.settle_trs, (State.hushRepeat_only s).trs.resolve_left (by decide)]

end

/-- Settles O27: each command by what its own steps write; holds and light through what the stop paths show. -/
theorem trussKeyWindowAndHolds : Obligations.TrussKeyWindowAndHolds :=
  ⟨trsKey_first, fun _ h => trsKey_second h, trsKey_zero, fun _ _ h0 h1 h2 => trsKey_other h0 h1 h2, keyWindowExpiry_completes,
    keySequenceExpiry_completes, darkreq_raises, fun _ h h3 => darkreq_lifts h h3, fun _ h => darkreq_without_hold h,
    fun _ hdue h3 => armChecks_fail hdue h3, fun _ hdue h3 hpass => armChecks_release hdue h3 hpass,
    fun _ hrel hlight => darkNRelease_completes hrel hlight,
    fun _ hw hreq hlight hsends => hushWithdrawal_completes hw hreq hlight hsends, fun _ hreq hsends => hushgenRepeat_completes hreq hsends⟩

end Sys2Proof.Machine
end

section
/-!
PLAN STEPS (R119, R120, R125, R126, R132, R133, R141, R142, R194): what Peg's operations leave of the bursts, the tags, the bookings and
Batten's schedule; every branch of a plan step adds bursts and fires of its own driver alone (O31).
-/
namespace Sys2Proof.Machine

section
variable {s t u : State}

/-! ### Timelines -/

theorem State.plan_setPlan (s : State) (n : Nat) (f : DrvPlan → DrvPlan) : (s.setPlan n f).plan n = f (s.plan n) :=
  mapGet_set_same ..

@[simp] theorem State.settle_plan (s : State) (n : Nat) : s.settle.plan n = s.plan n := by
  rw [State.plan, State.plan, State.settle_peg]

theorem Frame.setPlan {l : List Fld} (h : Frame l s u) (n : Nat) (f : DrvPlan → DrvPlan) : Frame l s (u.setPlan n f) :=
  h.trans ⟨fun _ _ _ => rfl, fun _ => rfl, fun _ => rfl⟩

/-- The driver's row that is next is one of 32. -/
theorem State.nextRow_lt {n start r : Nat} (h : s.nextRow n start = some r) : r < 32 := by
  have hmem := List.mem_of_find?_eq_some h
  obtain ⟨i, -, rfl⟩ := List.mem_map.mp hmem
  exact Nat.mod_lt _ (by decide)

/-! ### Bursts (R125, R169) -/

/-- A burst as Mortise opens it: without a free slot every shot of it is void. -/
def State.opened (s : State) (b : Burst) : Burst :=
  if 4096 ≤ s.openAll then { b with void := 2 ^ b.k - 1, slot := false } else b

theorem State.openBurst_peg (s : State) (b : Burst) (shot0 : Nat) : (s.openBurst b shot0).peg =
    { s.peg with bursts := s.peg.bursts ++ [s.opened b], nextBurst := max s.peg.nextBurst (b.num + 1)
                 lastOpen := mapSet [] s.peg.lastOpen b.channel ((shot0 :: mapGet [] s.peg.lastOpen b.channel).take 32) } := by
  have hpeg (c : Bool) (v : State) (ch f : Nat) :
      (v.when c (fun t => (t.fault R.MRT_INTSTAT_SLOTFULL 3 ch).tallyDropped f)).mrtUse.peg = v.peg := by
    rw [(State.mrtUse_only _).peg.resolve_left (by decide)]
    refine State.when_keeps State.peg ?_
    rw [(State.tallyDropped_only ..).peg.resolve_left (by decide), State.fault_peg]
  unfold State.openBurst
  dsimp only
  rw [hpeg, State.opened]
  simp only [decide_eq_true_eq]

/-- A burst of a driver's row, open under an epoch with these tags. -/
def OwnBurst (n row epoch : Nat) (tags : List Nat) (b : Burst) : Prop :=
  b.driver = n ∧ b.row = row ∧ b.stage = .open ∧ b.epoch = epoch ∧ b.tags = tags

theorem OwnBurst.opened {n row epoch : Nat} {tags : List Nat} {b : Burst} (h : OwnBurst n row epoch tags b) (s : State) :
    OwnBurst n row epoch tags (s.opened b) := by
  unfold State.opened
  split <;> exact h

/-- Between two states bursts were opened: so many, all a driver's own; tags, timelines and the epoch stay. -/
structure BurstsOpened (n row : Nat) (tags : List Nat) (k : Nat) (s t : State) : Prop where
  bursts  : ∃ new, t.peg.bursts = s.peg.bursts ++ new ∧ new.length = k ∧ ∀ b ∈ new, OwnBurst n row s.peg.active tags b
  tags    : t.peg.tags = s.peg.tags
  drivers : t.peg.drivers = s.peg.drivers
  active  : t.peg.active = s.peg.active

theorem BurstsOpened.none (n row : Nat) (tags : List Nat) (s : State) : BurstsOpened n row tags 0 s s :=
  ⟨⟨[], (List.append_nil _).symm, rfl, fun _ h => absurd h List.not_mem_nil⟩, rfl, rfl, rfl⟩

theorem BurstsOpened.openBurst {n row k : Nat} {tags : List Nat} (h : BurstsOpened n row tags k s u) {b : Burst}
    (hb : OwnBurst n row s.peg.active tags b) (shot0 : Nat) : BurstsOpened n row tags (k + 1) s (u.openBurst b shot0) := by
  obtain ⟨⟨new, hnew, hlen, hown⟩, htags, hdrivers, hactive⟩ := h
  have hpeg := u.openBurst_peg b shot0
  refine ⟨⟨new ++ [u.opened b], ?_, ?_, fun x hx => ?_⟩, ?_, ?_, ?_⟩
  · rw [hpeg, ← List.append_assoc, ← hnew]
  · rw [List.length_append, hlen]
    rfl
  · rcases List.mem_append.mp hx with hx | hx
    · exact hown x hx
    · rw [List.mem_singleton.mp hx]
      exact hb.opened u
  · rw [hpeg]
    exact htags
  · rw [hpeg]
    exact hdrivers
  · rw [hpeg]
    exact hactive

/-- One burst per column of a gang. -/
theorem openBursts {n row num0 k sc close shot0 : Nat} {kind : BurstKind} {tags rel : List Nat} (l : List (GangCol × Nat)) {j : Nat}
    (h : BurstsOpened n row tags j s u) :
    BurstsOpened n row tags (j + l.length) s (l.foldl (fun t x =>
      t.openBurst (newBurst t (num0 + x.2) kind n row x.1 x.1.sight.channel k sc tags rel close) shot0) u) := by
  induction l generalizing u j with
  | nil => exact h
  | cons x l ih =>
    have hb : OwnBurst n row s.peg.active tags (newBurst u (num0 + x.2) kind n row x.1 x.1.sight.channel k sc tags rel close) :=
      ⟨rfl, rfl, rfl, h.active, rfl⟩
    rw [List.length_cons, ← Nat.add_assoc, Nat.add_right_comm]
    exact ih (h.openBurst hb shot0)

/-! ### A gang that is planned (R125, R132, R194) -/

/-- The tags and the bookings are taken. -/
def State.gangTaken (s : State) (tags : List Nat) (books : List Booking) : State := (s.setTags (s.peg.tags ++ tags)).setBookings books

/-- The fires of a gang: none where it listens. -/
def State.handedFires (s : State) (n row : Nat) (h : HeldGang) (tags shots : List Nat) (pairs : List (Nat × Nat)) : List Fire :=
  if h.listen then [] else gangFires s n row (s.limpEc h.ec) tags shots pairs

/-- One burst is open for each column of a gang. -/
def State.gangOpened (s : State) (n row : Nat) (h : HeldGang) (cols : List GangCol) (tags shots : List Nat) (close : Nat)
    (books : List Booking) : State :=
  cols.zipIdx.foldl (fun t x => t.openBurst (newBurst t (s.peg.nextBurst + x.2) (if h.listen then BurstKind.listen else .scan) n row x.1
    x.1.sight.channel h.k h.s tags (s.shotsRel n shots) close) (shots.headD 0)) (s.gangTaken tags books)

/-- Batten gets fires for its schedule. -/
def State.fired (s : State) (fires : List Fire) : State := { s with btn := { s.btn with fires := s.btn.fires ++ fires } }

theorem State.planGang_eq (s : State) (n row : Nat) (h : HeldGang) (cols : List GangCol) (tags shots : List Nat) (close : Nat)
    (books : List Booking) : s.planGang n row h cols tags shots close books =
      ((s.gangOpened n row h cols tags shots close books).fired (s.handedFires n row h tags shots
        (cols.zipIdx.map (fun x => (x.1.col, s.peg.nextBurst + x.2))))).setPlan n (fun p =>
          { p.taken (row % 32) with gangs := p.gangs + 1, lastShot := some (shots.getLastD 0) }) := rfl

/-- A gang is planned: what it takes, opens and hands over. -/
structure GangPlanned (n row : Nat) (h : HeldGang) (tags shots : List Nat) (books : List Booking) (k : Nat) (s t : State) : Prop where
  opened : ∃ new, t.peg.bursts = s.peg.bursts ++ new ∧ new.length = k ∧ ∀ b ∈ new, OwnBurst n row s.peg.active tags b
  handed : ∃ pairs, t.btn.fires = s.btn.fires ++ s.handedFires n row h tags shots pairs
  taken  : t.peg.tags = s.peg.tags ++ tags
  booked : t.jst.bookings = books
  step   : (t.plan n).step = (s.plan n).step + 1
  gangs  : (t.plan n).gangs = (s.plan n).gangs + 1

theorem State.gangOpened_opened (s : State) (n row : Nat) (h : HeldGang) (cols : List GangCol) (tags shots : List Nat) (close : Nat)
    (books : List Booking) :
    BurstsOpened n row tags cols.length (s.gangTaken tags books) (s.gangOpened n row h cols tags shots close books) := by
  have hall := openBursts (num0 := s.peg.nextBurst) (k := h.k) (sc := h.s) (close := close) (shot0 := shots.headD 0)
    (kind := if h.listen then BurstKind.listen else .scan) (rel := s.shotsRel n shots) cols.zipIdx
    (BurstsOpened.none n row tags (s.gangTaken tags books))
  rw [Nat.zero_add, List.length_zipIdx] at hall
  exact hall

theorem State.planGang_planned (s : State) (n row : Nat) (h : HeldGang) (cols : List GangCol) (tags shots : List Nat) (close : Nat)
    (books : List Booking) : GangPlanned n row h tags shots books cols.length s (s.planGang n row h cols tags shots close books) := by
  obtain ⟨hbursts, htags, hdrivers, -⟩ := s.gangOpened_opened n row h cols tags shots close books
  have hjst : (s.gangOpened n row h cols tags shots close books).jst = (s.gangTaken tags books).jst :=
    foldl_keeps State.jst (fun t _ => (State.openBurst_only t ..).jst.resolve_left (by decide)) _ _
  have hbtn : (s.gangOpened n row h cols tags shots close books).btn = s.btn :=
    foldl_keeps State.btn (fun t _ => (State.openBurst_only t ..).btn.resolve_left (by decide)) _ _
  have hplan : (s.gangOpened n row h cols tags shots close books).plan n = s.plan n :=
    congrArg (fun d => mapGet DrvPlan.zero d n) hdrivers
  rw [State.planGang_eq]
  refine ⟨hbursts, ⟨_, congrArg (fun b : BtnState => b.fires ++ _) hbtn⟩, htags, congrArg JstState.bookings hjst, ?_, ?_⟩
  · rw [State.plan_setPlan]
    exact congrArg (fun p : DrvPlan => p.step + 1) hplan
  · rw [State.plan_setPlan]
    exact congrArg (fun p : DrvPlan => p.gangs + 1) hplan

/-! ### What a step adds (R125, R132) -/

/-- What is added of bursts and fires is a driver's own, with tags in use. -/
def AddsOwn (n : Nat) (s t : State) : Prop :=
  (∀ b ∈ t.peg.bursts, b ∈ s.peg.bursts ∨ (b.driver = n ∧ b.row / 32 = n ∧ b.stage = .open ∧ b.epoch = s.peg.active
      ∧ b.tags.all t.peg.tags.contains = true))
    ∧ (∀ f ∈ t.btn.fires, f ∈ s.btn.fires ∨ (f.driver = n ∧ f.row / 32 = n ∧ f.stage = .planned ∧ t.peg.tags.contains f.tag = true))

theorem AddsOwn.of_same {n : Nat} (hb : t.peg.bursts = s.peg.bursts) (hf : t.btn.fires = s.btn.fires) : AddsOwn n s t :=
  ⟨fun _ h => .inl (hb ▸ h), fun _ h => .inl (hf ▸ h)⟩

theorem AddsOwn.refl (n : Nat) (s : State) : AddsOwn n s s := .of_same rfl rfl

/-- A start with the same bursts, epoch and fires. -/
theorem AddsOwn.of_start {n : Nat} (h : AddsOwn n u t) (hb : u.peg.bursts = s.peg.bursts) (ha : u.peg.active = s.peg.active)
    (hf : u.btn.fires = s.btn.fires) : AddsOwn n s t := by
  obtain ⟨hbursts, hfires⟩ := h
  rw [hb, ha] at hbursts
  rw [hf] at hfires
  exact ⟨hbursts, hfires⟩

theorem AddsOwn.settle {n : Nat} (h : AddsOwn n s u) (hm : KeepsMemory s u.settle) : AddsOwnGang n s u.settle := by
  rw [AddsOwnGang, State.settle_peg, State.settle_btn]
  exact ⟨h.1, h.2, hm⟩

/-- A fire of a gang is its driver's own, planned, with one of its tags. -/
theorem mem_handedFires {n row : Nat} {h : HeldGang} {tags shots : List Nat} {pairs : List (Nat × Nat)} {f : Fire}
    (hf : f ∈ s.handedFires n row h tags shots pairs) : f.driver = n ∧ f.row = row ∧ f.stage = .planned ∧ f.tag ∈ tags := by
  unfold State.handedFires at hf
  split at hf
  · exact absurd hf List.not_mem_nil
  · obtain ⟨⟨⟨g, l⟩, i⟩, hx, rfl⟩ := List.mem_map.mp hf
    have hzip : (g, l) ∈ tags.zip shots := List.fst_mem_of_mem_zipIdx hx
    exact ⟨rfl, rfl, rfl, (List.of_mem_zip hzip).1⟩

theorem handedFires_length (s : State) (n row : Nat) (h : HeldGang) (tags shots : List Nat) (pairs : List (Nat × Nat)) :
    (s.handedFires n row h tags shots pairs).length = if h.listen then 0 else min tags.length shots.length := by
  unfold State.handedFires
  split
  · rfl
  · simp [gangFires]

theorem GangPlanned.addsOwn {n row k : Nat} {h : HeldGang} {tags shots : List Nat} {books : List Booking}
    (hp : GangPlanned n row h tags shots books k s t) (hrow : row / 32 = n) : AddsOwn n s t := by
  obtain ⟨new, hnew, -, hown⟩ := hp.opened
  obtain ⟨pairs, hfires⟩ := hp.handed
  have hin {g : Nat} (hg : g ∈ tags) : t.peg.tags.contains g = true := by
    rw [hp.taken, List.contains_iff_mem]
    exact List.mem_append_right _ hg
  refine ⟨fun b hb => ?_, fun f hf => ?_⟩
  · rcases List.mem_append.mp (hnew ▸ hb) with hb | hb
    · exact .inl hb
    · obtain ⟨hdriver, hbrow, hstage, hepoch, htags⟩ := hown b hb
      exact .inr ⟨hdriver, hbrow ▸ hrow, hstage, hepoch, List.all_eq_true.mpr fun g hg => hin (htags ▸ hg)⟩
  · rcases List.mem_append.mp (hfires ▸ hf) with hf | hf
    · exact .inl hf
    · obtain ⟨hdriver, hfrow, hstage, htag⟩ := mem_handedFires hf
      exact .inr ⟨hdriver, hfrow ▸ hrow, hstage, hin htag⟩

/-! ### Every branch of a plan step (R126, R141) -/

theorem State.holdStep_addsOwn (s : State) (n : Nat) (h : HeldGang) (refused : List Nat) (tags : Bool) (m : Nat) :
    AddsOwn m s (s.holdStep n h refused tags) := by
  have hwait (b : Bool) (f : Fld) : (s.when b (·.bump f 1)).peg = s.peg ∧ (s.when b (·.bump f 1)).btn = s.btn :=
    ⟨State.when_keeps State.peg rfl, State.when_keeps State.btn rfl⟩
  exact AddsOwn.of_start (u := s.when _ (·.bump _ 1)) (.of_same rfl rfl) (congrArg PegState.bursts (hwait ..).1)
    (congrArg PegState.active (hwait ..).1) (congrArg BtnState.fires (hwait ..).2)

theorem State.planLimits_addsOwn (s : State) {n row : Nat} (hrow : row / 32 = n) (c : EpochCfg) (h : HeldGang) (shots : List Nat)
    (close : Nat) : AddsOwn n s (s.planLimits n row c h shots close) := by
  have hlimit (b : Bool) (k : Nat) : ∃ v, s.when b (·.bump R.PEG_CHLIMIT_CNT k) = v ∧ v.peg = s.peg ∧ v.btn = s.btn :=
    ⟨_, rfl, State.when_keeps State.peg rfl, State.when_keeps State.btn rfl⟩
  unfold State.planLimits
  dsimp only
  obtain ⟨v, hv, hpeg, hbtn⟩ := hlimit
    (!((s.limitCols h.k shots (s.columnsAt c s.peg.active row ((shots.headD 0 + shots.getLastD 0) / 2))).2.filter
      (fun x => !h.refused.contains x)).isEmpty)
    ((s.limitCols h.k shots (s.columnsAt c s.peg.active row ((shots.headD 0 + shots.getLastD 0) / 2))).2.filter
      (fun x => !h.refused.contains x)).length
  rw [hv]
  refine AddsOwn.of_start (u := v) ?_ (congrArg PegState.bursts hpeg) (congrArg PegState.active hpeg) (congrArg BtnState.fires hbtn)
  split
  · exact .of_same rfl rfl
  · split
    · exact State.holdStep_addsOwn ..
    · split
      · exact State.holdStep_addsOwn ..
      · exact (State.planGang_planned ..).addsOwn hrow

theorem State.planRow_addsOwn (s : State) {n row : Nat} (hrow : row / 32 = n) : AddsOwn n s (s.planRow n row) := by
  have hweak (b : Bool) : ∃ v, s.when b (fun t => (t.bump R.PEG_CODEWEAK_CNT 1).fault R.PEG_INTSTAT_CODEWEAK 1 n) = v
      ∧ v.peg = s.peg ∧ v.btn = s.btn := by
    refine ⟨_, rfl, State.when_keeps State.peg ?_, State.when_keeps State.btn ?_⟩
    · rw [State.fault_peg]
      rfl
    · exact (State.reportFree_only ..).btn.resolve_left (by decide)
  unfold State.planRow
  dsimp only
  split
  · exact .of_same rfl rfl
  · next h weak _ =>
    split
    · exact .refl ..
    · obtain ⟨v, hv, hpeg, hbtn⟩ := hweak weak
      rw [hv]
      refine AddsOwn.of_start (u := v) ?_ (congrArg PegState.bursts hpeg) (congrArg PegState.active hpeg) (congrArg BtnState.fires hbtn)
      split
      · exact .of_same rfl rfl
      · exact State.planLimits_addsOwn v hrow ..

/-- Waking a driver touches its timeline alone, beside a register. -/
theorem State.driverWake_keeps (s : State) (n : Nat) : (s.driverWake n).peg.bursts = s.peg.bursts
    ∧ (s.driverWake n).peg.active = s.peg.active ∧ (s.driverWake n).btn = s.btn := by
  have hbit (v : State) (b : Bool) : (v.idleBit n b).peg = v.peg ∧ (v.idleBit n b).btn = v.btn :=
    ⟨(State.idleBit_only ..).peg.resolve_left (by decide), (State.idleBit_only ..).btn.resolve_left (by decide)⟩
  unfold State.driverWake
  split
  · rw [(hbit ..).1, (hbit ..).2]
    exact ⟨rfl, rfl, rfl⟩
  · exact ⟨rfl, rfl, rfl⟩

theorem State.driverIdle_keeps (s : State) (n : Nat) : (s.driverIdle n).peg.bursts = s.peg.bursts ∧ (s.driverIdle n).btn = s.btn := by
  unfold State.driverIdle
  split
  · exact ⟨rfl, rfl⟩
  · rw [State.fault_peg, (State.idleBit_only ..).peg.resolve_left (by decide)]
    exact ⟨rfl, ((State.reportFree_only ..).btn.resolve_left (by decide)).trans ((State.idleBit_only ..).btn.resolve_left (by decide))⟩

theorem State.planStep_addsOwn (s : State) (n : Nat) : AddsOwn n s (s.planStep n) := by
  have hown {r : Nat} (h : r < 32) : (32 * n + r) / 32 = n := by omega
  unfold State.planStep
  dsimp only
  split
  · exact .refl ..
  · split
    · next r hkept =>
      refine State.planRow_addsOwn s (hown ?_)
      split at hkept
      · split at hkept
        · cases hkept
        · injection hkept with hr
          rw [← hr]
          exact Nat.mod_lt _ (by decide)
      · cases hkept
    · split
      · obtain ⟨hb, hbtn⟩ := (s.setPlan n (fun p => { p with held := none })).driverIdle_keeps n
        exact .of_same hb (congrArg BtnState.fires hbtn)
      · next r hrow =>
        obtain ⟨hb, ha, hbtn⟩ := (s.setPlan n (fun p => { p with held := none })).driverWake_keeps n
        exact (State.planRow_addsOwn _ (hown (State.nextRow_lt hrow))).of_start hb ha (congrArg BtnState.fires hbtn)

end
end Sys2Proof.Machine
end

section
/-!
PLAN STEPS AND PROOF PULSES BY CASE (R119, R120, R126, R132, R141, R142): the step whose gang fits, the step without a row or without a
gang, the hold for tags, and the proof pulse with and without its reference burst (O31).
-/
namespace Sys2Proof.Machine

section
variable {s t u : State}

/-! ### A step by what it finds (R126, R141) -/

/-- The timeline of a driver that holds nothing, as a step starts on it. -/
def State.unheld (s : State) (n : Nat) : State := s.setPlan n (fun p => { p with held := none })

theorem State.unheld_plan {n : Nat} (h : (s.plan n).held = none) : (s.unheld n).plan n = s.plan n := by
  rw [State.unheld, State.plan_setPlan, ← h]

/-- A step of an unblanked driver without a held gang. -/
theorem State.planStep_of_free {n : Nat} (hcan : s.canPlan n = true) (hheld : (s.plan n).held = none) :
    s.planStep n = match s.nextRow n (s.plan n).row with
      | none => (s.unheld n).driverIdle n
      | some r => ((s.unheld n).driverWake n).planRow n (32 * n + r) := by
  unfold State.planStep
  dsimp only
  rw [hcan, hheld]
  rfl

theorem State.planStep_idles {n : Nat} (hcan : s.canPlan n = true) (hheld : (s.plan n).held = none)
    (hrow : s.nextRow n (s.plan n).row = none) : s.planStep n = (s.unheld n).driverIdle n := by
  rw [State.planStep_of_free hcan hheld, hrow]

theorem State.planStep_plans {n r : Nat} (hcan : s.canPlan n = true) (hheld : (s.plan n).held = none) (hidle : (s.plan n).idle = false)
    (hrow : s.nextRow n (s.plan n).row = some r) : s.planStep n = (s.unheld n).planRow n (32 * n + r) := by
  have hwake : (s.unheld n).driverWake n = s.unheld n := by
    rw [State.driverWake, State.unheld_plan hheld, hidle]
    rfl
  rw [State.planStep_of_free hcan hheld, hrow]
  exact congrArg (State.planRow · n (32 * n + r)) hwake

theorem exec_planStep {n : Fin 64} (hheld : (s.plan n.val).held = none) : exec (.planStep n) s = (s.planStep n.val).done :=
  if_neg (by rw [hheld]; decide)

/-! ### What the start of a step does not change -/

theorem State.unheld_gangShots {n : Nat} (h : (s.plan n).held = none) (c : EpochCfg) (offsets : List Nat) :
    (s.unheld n).gangShots n c offsets = s.gangShots n c offsets := by
  unfold State.gangShots
  rw [State.unheld_plan h]
  rfl

theorem State.unheld_gangSpec {n : Nat} (h : (s.plan n).held = none) (c : EpochCfg) (row : Nat) (cols : List GangCol) :
    (s.unheld n).gangSpec c n row cols = s.gangSpec c n row cols := by
  unfold State.gangSpec
  rw [State.unheld_plan h]
  rfl

theorem State.unheld_columnsAt (n : Nat) (c : EpochCfg) (epoch row lsb : Nat) :
    (s.unheld n).columnsAt c epoch row lsb = s.columnsAt c epoch row lsb := rfl

theorem State.unheld_epochCfg (n e : Nat) : (s.unheld n).epochCfg e = s.epochCfg e := rfl

theorem State.unheld_limitCols (n k : Nat) (shots : List Nat) (cols : List GangCol) :
    (s.unheld n).limitCols k shots cols = s.limitCols k shots cols := rfl

theorem State.unheld_freeTags (n k : Nat) : (s.unheld n).freeTags k = s.freeTags k := rfl

theorem State.unheld_bookingFor (n ch num close epoch : Nat) :
    (s.unheld n).bookingFor ch num close epoch = s.bookingFor ch num close epoch := rfl

theorem State.unheld_bookAll (n : Nat) (l want : List Booking) : (s.unheld n).bookAll l want = s.bookAll l want := by
  induction want generalizing l with
  | nil => rfl
  | cons b r ih =>
    unfold State.bookAll
    rw [ih, ih]
    rfl

theorem State.unheld_liveBookings (n : Nat) : (s.unheld n).liveBookings = s.liveBookings := rfl

theorem State.unheld_deadAt (n lsb : Nat) : (s.unheld n).deadAt lsb = s.deadAt lsb := rfl

/-! ### The gang that fits (R125, R132, R133, R194) -/

/-- The bookings that a gang asks for. -/
def State.gangBookings (s : State) (h : HeldGang) (cols : List GangCol) (close : Nat) : List Booking :=
  if h.listen then [] else cols.zipIdx.map (fun x => s.bookingFor x.1.sight.channel (s.peg.nextBurst + x.2) close s.peg.active)

theorem State.planLimits_fits {n row close : Nat} {c : EpochCfg} {h : HeldGang} {shots tags : List Nat} {cols : List GangCol}
    {books : List Booking}
    (hlimit : s.limitCols h.k shots (s.columnsAt c s.peg.active row ((shots.headD 0 + shots.getLastD 0) / 2)) = (cols, []))
    (hcols : cols ≠ []) (htags : s.freeTags h.k = some tags)
    (hbooks : s.bookAll s.liveBookings (s.gangBookings h cols close) = some books) :
    s.planLimits n row c h shots close = s.planGang n row h cols tags shots close books := by
  unfold State.gangBookings at hbooks
  unfold State.planLimits
  rw [hlimit]
  simp [State.when, hcols, htags, hbooks]

theorem State.planRow_fits {n row : Nat} {c : EpochCfg} {h : HeldGang} {shots : List Nat} (hc : s.epochCfg s.peg.active = c)
    (hspec : s.gangSpec c n row (s.columnsAt c s.peg.active row ((s.gangShots n c [0]).headD 0)) = some (h, false))
    (hshots : s.gangShots n c h.offsets = shots) (hclose : shots.getLastD 0 + 524288 ≤ s.peg.epochLsb + 512 * s.peg.period)
    (hdead : shots.any s.deadAt = false) (hthr : s.throttle = 0) :
    s.planRow n row = s.planLimits n row c h shots (shots.getLastD 0 + 524288) := by
  subst hc hshots
  unfold State.planRow
  dsimp only
  rw [hspec]
  simp only [hdead, hthr, State.when]
  rw [if_neg (by simp only [decide_eq_false (Nat.not_lt.mpr hclose)]; decide), if_neg (Nat.not_lt_zero _)]
  rfl

/-- A step whose gang fits plans it. -/
theorem planStep_fits {n : Nat} {r : Nat} {h : HeldGang} {cols : List GangCol} {tags : List Nat} {books : List Booking}
    (hfits : GangFits n r h cols tags books s) :
    s.planStep n = (s.unheld n).planGang n (32 * n + r) h cols tags (s.gangShots n (s.epochCfg s.peg.active) h.offsets)
      ((s.gangShots n (s.epochCfg s.peg.active) h.offsets).getLastD 0 + 524288) books := by
  obtain ⟨hcan, hheld, hidle, hrow, hspec, hclose, hdead, hthr, hlimit, hcols, htags, hbooks⟩ := hfits
  rw [State.planStep_plans hcan hheld hidle hrow]
  refine (State.planRow_fits (s := s.unheld n) (c := s.epochCfg s.peg.active) rfl ?_ (State.unheld_gangShots hheld ..) hclose hdead
    hthr).trans (State.planLimits_fits hlimit hcols htags ?_)
  · rw [State.unheld_gangShots hheld, State.unheld_gangSpec hheld]
    exact hspec
  · rw [State.unheld_bookAll]
    exact hbooks

theorem freeTags_length {k : Nat} {tags : List Nat} (h : s.freeTags k = some tags) : tags.length = k := by
  unfold State.freeTags at h
  dsimp only at h
  split at h
  · next hlen =>
    injection h with h
    rw [← h]
    exact hlen
  · cases h

theorem planStep_keepsMemory {n : Fin 64} (h : exec (.planStep n) s = u.done) : KeepsMemory s u.settle :=
  (execPlanStep_only n s _ h).keepsMemory (by decide) (by decide)

theorem planStep_ofFit {n : Fin 64} {r : Nat} {h : HeldGang} {cols : List GangCol} {tags : List Nat} {books : List Booking}
    (hfits : GangFits n.val r h cols tags books s) : Completes (.planStep n) s (fun t =>
      t.peg.tags = s.peg.tags ++ tags ∧ t.jst.bookings = books ∧ t.peg.bursts.length = s.peg.bursts.length + cols.length
        ∧ t.btn.fires.length = s.btn.fires.length + (if h.listen then 0 else min h.k h.offsets.length)
        ∧ (t.plan n.val).step = (s.plan n.val).step + 1 ∧ (t.plan n.val).gangs = (s.plan n.val).gangs + 1 ∧ AddsOwnGang n.val s t) := by
  obtain ⟨-, hheld, -, -, -, -, -, -, -, -, htags, -⟩ := id hfits
  have hexec := exec_planStep hheld
  have hshots : (s.gangShots n.val (s.epochCfg s.peg.active) h.offsets).length = h.offsets.length := by simp [State.gangShots]
  have hown := (s.planStep_addsOwn n.val).settle (planStep_keepsMemory hexec)
  have hplanned := (s.unheld n.val).planGang_planned n.val (32 * n.val + r) h cols tags
    (s.gangShots n.val (s.epochCfg s.peg.active) h.offsets)
    ((s.gangShots n.val (s.epochCfg s.peg.active) h.offsets).getLastD 0 + 524288) books
  rw [← planStep_fits hfits] at hplanned
  obtain ⟨⟨new, hnew, hlen, -⟩, ⟨pairs, hfires⟩, htaken, hbooked, hstep, hgangs⟩ := hplanned
  rw [State.unheld_plan hheld] at hstep hgangs
  refine completes_of_done hexec ⟨?_, ?_, ?_, ?_, ?_, ?_, hown⟩
  · rw [State.settle_peg]
    exact htaken
  · rw [State.settle_jst]
    exact hbooked
  · rw [State.settle_peg, hnew, List.length_append, hlen]
    rfl
  · rw [State.settle_btn, hfires, List.length_append, handedFires_length, freeTags_length htags, hshots]
    rfl
  · rw [State.settle_plan]
    exact hstep
  · rw [State.settle_plan]
    exact hgangs

/-! ### Steps that plan nothing (R126, R141) -/

theorem Frame.idleBit {l : List Fld} {n : Nat} {b : Bool} (h : Frame l s u) (hlo : R.PEG_DRVIDLELO_DRV ∈ l) (hhi : R.PEG_DRVIDLEHI_DRV ∈ l) :
    Frame l s (u.idleBit n b) := by
  unfold State.idleBit
  split
  · exact h.wr hlo
  · exact h.wr hhi

/-- A driver without an unblanked row goes idle. -/
theorem planStep_withoutRow {n : Fin 64} (hcan : s.canPlan n.val = true) (hheld : (s.plan n.val).held = none)
    (hidle : (s.plan n.val).idle = false) (hrow : s.nextRow n.val (s.plan n.val).row = none) : Completes (.planStep n) s (fun t =>
      (t.plan n.val).idle = true ∧ t.rd R.PEG_INTSTAT_DRVIDLE = 1
        ∧ Frame ([R.PEG_INTSTAT_DRVIDLE, R.PEG_DRVIDLELO_DRV, R.PEG_DRVIDLEHI_DRV] ++ reportFlds) s t) := by
  have hidles : s.planStep n.val =
      (((s.unheld n.val).setPlan n.val (fun p => { p with idle := true, held := none })).idleBit n.val true).fault
        R.PEG_INTSTAT_DRVIDLE 3 n.val := by
    rw [State.planStep_idles hcan hheld hrow]
    exact if_neg (by rw [State.unheld_plan hheld, hidle]; decide)
  refine completes_of_done (exec_planStep hheld) ⟨?_, ?_, ?_⟩
  · rw [State.settle_plan, hidles, State.plan, State.fault_peg, (State.idleBit_only ..).peg.resolve_left (by decide)]
    exact congrArg DrvPlan.idle (State.plan_setPlan (s.unheld n.val) n.val _)
  · rw [State.settle_rd _ _ (by decide) (by decide), hidles, State.fault_rd _ _ _ _ _ (by decide) (by decide), if_pos rfl]
    rfl
  · rw [hidles]
    exact (((((Frame.refl _ s).setPlan ..).setPlan ..).idleBit (by decide) (by decide)).fault (by decide) (by decide)).settle

theorem State.planRow_passes {n row : Nat} {c : EpochCfg} (hc : s.epochCfg s.peg.active = c)
    (hspec : s.gangSpec c n row (s.columnsAt c s.peg.active row ((s.gangShots n c [0]).headD 0)) = none) :
    s.planRow n row = s.setPlan n (fun p => p.taken (row % 32)) := by
  subst hc
  unfold State.planRow
  dsimp only
  rw [hspec]

/-- A row without a gang is passed. -/
theorem planStep_withoutGang {n : Fin 64} {r : Nat} (hcan : s.canPlan n.val = true) (hheld : (s.plan n.val).held = none)
    (hidle : (s.plan n.val).idle = false) (hrow : s.nextRow n.val (s.plan n.val).row = some r)
    (hspec : s.gangSpec (s.epochCfg s.peg.active) n.val (32 * n.val + r) (s.columnsAt (s.epochCfg s.peg.active) s.peg.active
      (32 * n.val + r) ((s.gangShots n.val (s.epochCfg s.peg.active) [0]).headD 0)) = none) : Completes (.planStep n) s (fun t =>
      (t.plan n.val).step = (s.plan n.val).step + 1 ∧ (t.plan n.val).row = (r + 1) % 32 ∧ t.peg.bursts = s.peg.bursts ∧ t.btn = s.btn
        ∧ Frame [] s t) := by
  have hpassed : s.planStep n.val = (s.unheld n.val).setPlan n.val (fun p => p.taken ((32 * n.val + r) % 32)) := by
    rw [State.planStep_plans hcan hheld hidle hrow]
    refine State.planRow_passes (s := s.unheld n.val) (c := s.epochCfg s.peg.active) rfl ?_
    rw [State.unheld_gangShots hheld, State.unheld_gangSpec hheld]
    exact hspec
  have hr := State.nextRow_lt hrow
  have hexec := exec_planStep hheld
  rw [hpassed] at hexec
  refine completes_of_done hexec ⟨?_, ?_, ?_, State.settle_btn _, ((((Frame.refl _ s).setPlan ..).setPlan ..)).settle⟩
  · rw [State.settle_plan, State.plan_setPlan, State.unheld_plan hheld]
    rfl
  · rw [State.settle_plan, State.plan_setPlan]
    show ((32 * n.val + r) % 32 + 1) % 32 = _
    omega
  · rw [State.settle_peg]
    rfl

/-- A step that finds a gang held does nothing: its retry is another command. -/
theorem planStep_adds (n : Fin 64) (s : State) : Completes (.planStep n) s (fun t => AddsOwnGang n.val s t) := by
  rcases Decidable.em ((s.plan n.val).held = none) with hheld | hheld
  · have hexec := exec_planStep hheld
    exact completes_of_done hexec ((s.planStep_addsOwn n.val).settle (planStep_keepsMemory hexec))
  · have hexec : exec (.planStep n) s = s.done := if_pos (Option.isSome_iff_ne_none.mpr hheld)
    exact completes_of_done hexec ((AddsOwn.refl n.val s).settle (planStep_keepsMemory hexec))

theorem planStepRetry_adds {n : Fin 64} (hheld : (s.plan n.val).held ≠ none) :
    Completes (.planStepRetry n) s (fun t => AddsOwnGang n.val s t) := by
  have hexec : exec (.planStepRetry n) s = (s.planStep n.val).done := if_pos (Option.isSome_iff_ne_none.mpr hheld)
  exact completes_of_done hexec ((s.planStep_addsOwn n.val).settle
    ((execPlanStepRetry_only n s _ hexec).keepsMemory (by decide) (by decide)))

theorem tagexh_flags {n : Fin 64} {h : HeldGang} (hheld : (s.plan n.val).held = some h) (htag : h.tagHeld = true) :
    Completes (.tagexh n) s (fun t =>
      t.rd R.PEG_INTSTAT_TAGEXH = 1 ∧ Frame ([R.PEG_INTSTAT_TAGEXH] ++ reportFlds) s t) := by
  have hexec : exec (.tagexh n) s = (s.fault R.PEG_INTSTAT_TAGEXH 1 n.val).done := by
    show execTagexh n s = _
    rw [execTagexh, hheld]
    exact if_pos htag
  refine completes_of_done hexec ⟨?_, ((Frame.refl _ s).fault (by decide) (by decide)).settle⟩
  rw [State.settle_rd _ _ (by decide) (by decide), State.fault_rd _ _ _ _ _ (by decide) (by decide), if_pos rfl]
  rfl

/-! ### Proof pulses (R119, R120, R142) -/

/-- The fire of a proof pulse. -/
def proofFire (n row t epoch tag : Nat) (cols : List (Nat × Nat)) : Fire :=
  { driver := n, tag := tag, row := row, proof := true, time := t / 8, ec := 0, mask := 0, cur := 0, width := 0, epoch := epoch, shot := 0
    cols := cols, stage := .planned }

/-- A proof pulse goes to the schedule, and a reference burst that it opened is awaited. -/
def State.proofHanded (s : State) (f : Fire) : State :=
  let cycles := f.cols.map (fun c => ({ row := f.row, burst := c.2, current := none, back := none } : ProofCycle))
  { s with btn := { s.btn with fires := s.btn.fires ++ [f], proofs := s.btn.proofs.filter (fun p => p.row != f.row) ++ cycles } }

theorem Frame.proofHanded {l : List Fld} (h : Frame l s u) (f : Fire) : Frame l s (u.proofHanded f) :=
  h.trans ⟨fun _ _ _ => rfl, fun _ => rfl, fun _ => rfl⟩

theorem exec_proofPulse {n : Fin 64} {p r : Nat} (hen : s.rd R.BTN_CTL_PROOFEN ≠ 0) (hup : s.drvUp n.val = true)
    (hrun : (s.drv n.val).stopped = false) (hhush : s.trs.hushReq = false) (hpoint : s.proofPoint n.val = some p)
    (hrow : s.nextProofRow n.val = some r) : exec (.proofPulse n) s = (s.planProof n.val r p).done := by
  have hon : s.on R.BTN_CTL_PROOFEN = true := bne_iff_ne.mpr hen
  show execProofPulse n s = _
  simp [execProofPulse, hon, hup, hrun, hhush, hpoint, hrow]

theorem State.planProof_alone {n r p : Nat} (hchk : s.rd R.BTN_CTL_REFCHK = 0) : s.planProof n r p =
    s.draw.proofHanded (proofFire n (32 * n + r) p s.peg.active (Config.proofTag s.fresh % 512) []) := by
  have hoff : s.on R.BTN_CTL_REFCHK = false := by rw [State.on, hchk]; rfl
  unfold State.planProof
  dsimp only
  rw [hoff]
  rfl

theorem proofPulse_alone {n : Fin 64} {p r : Nat} (hen : s.rd R.BTN_CTL_PROOFEN ≠ 0) (hup : s.drvUp n.val = true)
    (hrun : (s.drv n.val).stopped = false) (hhush : s.trs.hushReq = false) (hpoint : s.proofPoint n.val = some p)
    (hrow : s.nextProofRow n.val = some r) (hchk : s.rd R.BTN_CTL_REFCHK = 0) : Completes (.proofPulse n) s (fun t =>
      t.btn.fires.length = s.btn.fires.length + 1
        ∧ (∃ f ∈ t.btn.fires, f.driver = n.val ∧ f.proof = true ∧ f.row = 32 * n.val + r ∧ f.time = p / 8 ∧ f.cols = [] ∧ f.stage =
          .planned)
        ∧ t.peg = s.peg ∧ Frame [] s t) := by
  have hexec := exec_proofPulse hen hup hrun hhush hpoint hrow
  rw [State.planProof_alone hchk] at hexec
  refine completes_of_done hexec ⟨?_, ?_, State.settle_peg _, ?_⟩
  · rw [State.settle_btn]
    exact List.length_append
  · rw [State.settle_btn]
    exact ⟨_, List.mem_append_right _ List.mem_cons_self, rfl, rfl, rfl, rfl, rfl, rfl⟩
  · exact ((Frame.refl [] s).draw.proofHanded _).settle

/-- The reference burst of a proof pulse, as it is opened. -/
def State.referenceBurst (s : State) (n row col p tag : Nat) (books : List Booking) : Burst :=
  let e := s.sight s.peg.active row col
  let u := s.gangTaken [tag] books
  newBurst u s.peg.nextBurst .reference n row { col := col, sight := e, cell := (row, 0) } e.refCh 1 1 [tag] (u.shotsRel n [p]) (p + 131072)

/-- A reference burst that is opened takes one tag and its bookings. -/
theorem State.openReference_opens {n row col p g : Nat} (h : (s.openReference n row col p).2 = some g) :
    ∃ books, (s.openReference n row col p).1
      = (s.gangTaken [g] books).openBurst (s.referenceBurst n row col p g books) p := by
  unfold State.openReference at h ⊢
  dsimp only at h ⊢
  split at h
  · next tag books htags hbooks =>
    split at h
    · next hok =>
      injection h with h
      subst h
      exact ⟨books, by rw [if_pos hok]; rfl⟩
    · cases h
  · cases h

theorem State.planProof_beside {n r c g p : Nat} (hchk : s.rd R.BTN_CTL_REFCHK ≠ 0) (hcol : s.refColumn (32 * n + r) = some c)
    (href : (s.openReference n (32 * n + r) c p).2 = some g) : s.planProof n r p =
      (s.openReference n (32 * n + r) c p).1.proofHanded (proofFire n (32 * n + r) p s.peg.active g [(c, s.peg.nextBurst)]) := by
  have hon : s.on R.BTN_CTL_REFCHK = true := bne_iff_ne.mpr hchk
  generalize hopen : s.openReference n (32 * n + r) c p = o at href
  obtain ⟨u, tag⟩ := o
  subst href
  simp only [State.planProof, hon, if_true, hcol, hopen]
  rfl

theorem proofPulse_beside {n : Fin 64} {p r c g : Nat} (hen : s.rd R.BTN_CTL_PROOFEN ≠ 0) (hup : s.drvUp n.val = true)
    (hrun : (s.drv n.val).stopped = false) (hhush : s.trs.hushReq = false) (hpoint : s.proofPoint n.val = some p)
    (hrow : s.nextProofRow n.val = some r) (hchk : s.rd R.BTN_CTL_REFCHK ≠ 0) (hcol : s.refColumn (32 * n.val + r) = some c)
    (href : (s.openReference n.val (32 * n.val + r) c p).2 = some g) : Completes (.proofPulse n) s (fun t =>
      t.btn.fires.length = s.btn.fires.length + 1
        ∧ (∃ f ∈ t.btn.fires, f.driver = n.val ∧ f.proof = true ∧ f.row = 32 * n.val + r ∧ f.time = p / 8 ∧ f.tag = g ∧ f.cols = [(c,
          s.peg.nextBurst)])
        ∧ t.peg.bursts.length = s.peg.bursts.length + 1
        ∧ (∃ b ∈ t.peg.bursts, b.kind = .reference ∧ b.num = s.peg.nextBurst ∧ b.driver = n.val ∧ b.row = 32 * n.val + r ∧ b.col = c ∧
          b.k = 1 ∧ b.tags = [g])
        ∧ t.peg.tags = s.peg.tags ++ [g] ∧ KeepsMemory s t) := by
  have hexec := exec_proofPulse hen hup hrun hhush hpoint hrow
  obtain ⟨books, hopens⟩ := State.openReference_opens href
  rw [State.planProof_beside hchk hcol href, hopens] at hexec
  set b := s.referenceBurst n.val (32 * n.val + r) c p g books with hb
  have hbtn : ((s.gangTaken [g] books).openBurst b p).btn = s.btn := (State.openBurst_only ..).btn.resolve_left (by decide)
  have hpeg := (s.gangTaken [g] books).openBurst_peg b p
  refine completes_of_done hexec ⟨?_, ?_, ?_, ?_, ?_, (execProofPulse_only n s _ hexec).keepsMemory (by decide) (by decide)⟩
  · rw [State.settle_btn]
    exact List.length_append.trans (congrArg (fun v : BtnState => v.fires.length + 1) hbtn)
  · rw [State.settle_btn]
    exact ⟨_, List.mem_append_right _ List.mem_cons_self, rfl, rfl, rfl, rfl, rfl, rfl⟩
  · rw [State.settle_peg]
    exact (congrArg (fun v : PegState => v.bursts.length) hpeg).trans List.length_append
  · rw [State.settle_peg]
    refine ⟨(s.gangTaken [g] books).opened b, ?_, ?_⟩
    · exact (congrArg PegState.bursts hpeg) ▸ List.mem_append_right _ List.mem_cons_self
    · unfold State.opened
      split <;> exact ⟨rfl, rfl, rfl, rfl, rfl, rfl, rfl⟩
  · rw [State.settle_peg]
    exact congrArg PegState.tags hpeg

end

/-- Settles O31: the gang that fits is planned as one operation, and every other branch of a step adds nothing. -/
theorem pegPlansGangs : Obligations.PegPlansGangs :=
  ⟨fun _ _ _ _ _ _ _ hfits => planStep_ofFit hfits,
    fun _ _ hcan hheld hidle hrow => planStep_withoutRow hcan hheld hidle hrow,
    fun _ _ _ hcan hheld hidle hrow hspec => planStep_withoutGang hcan hheld hidle hrow hspec, planStep_adds,
    fun _ _ hheld => planStepRetry_adds hheld, fun _ _ _ hheld htag => tagexh_flags hheld htag,
    fun _ _ _ _ hen hup hrun hhush hpoint hrow hchk => proofPulse_alone hen hup hrun hhush hpoint hrow hchk,
    fun _ _ _ _ _ _ hen hup hrun hhush hpoint hrow hchk hcol href =>
      proofPulse_beside hen hup hrun hhush hpoint hrow hchk hcol href⟩

end Sys2Proof.Machine
end

section
/-!
WHAT A FAULT LEAVES OF BATTEN (R108, R111, R113, R117, R315). A fault of Truss may raise the hush request, which discards every fire not yet
transmitted: the fires that were sent, the drivers' records and Batten's registers stay. An exposure fault locks an armed Truss out.
-/
namespace Sys2Proof.Machine

section
variable {s t u : State}

/-! ### The fires that were sent -/

/-- The fires that were sent are the same, and so are the drivers' records and what is awaited from before a full reset. -/
structure SentKept (s t : State) : Prop where
  drivers  : t.btn.drivers = s.btn.drivers
  preReset : t.btn.preReset = s.btn.preReset
  sent     : ∀ f : Fire, f.stage = .sent → (f ∈ t.btn.fires ↔ f ∈ s.btn.fires)

theorem SentKept.of_btn (h : t.btn = s.btn) : SentKept s t := ⟨congrArg _ h, congrArg _ h, fun _ _ => by rw [h]⟩

theorem SentKept.refl (s : State) : SentKept s s := .of_btn rfl

theorem SentKept.trans (h : SentKept s u) (h' : SentKept u t) : SentKept s t :=
  ⟨h'.drivers.trans h.drivers, h'.preReset.trans h.preReset, fun f hf => (h'.sent f hf).trans (h.sent f hf)⟩

/-- A start with Batten's record as it was. -/
theorem SentKept.after (h : SentKept u t) (hb : u.btn = s.btn) : SentKept s t := (SentKept.of_btn hb).trans h

theorem SentKept.drv (h : SentKept s t) (n : Nat) : t.drv n = s.drv n := congrArg (fun d => mapGet DrvState.zero d n) h.drivers

theorem SentKept.foldl {α : Type} {f : State → α → State} {l : List α} (h : ∀ t, ∀ a ∈ l, SentKept t (f t a)) (s : State) :
    SentKept s (l.foldl f s) :=
  List.foldlRecOn l f (.refl s) fun _ ht a ha => ht.trans (h _ a ha)

theorem SentKept.when (c : Bool) {f : State → State} (h : SentKept s (f s)) : SentKept s (s.when c f) := by
  unfold State.when
  split
  · exact h
  · exact .refl s

theorem State.voidOf_btn (s : State) (f : Fire) (col : Nat → Bool) : (s.voidOf f col).btn = s.btn :=
  (State.voidOf_only ..).btn.resolve_left (by decide)

theorem State.fault_btn (s : State) (f : Fld) (sev unit : Nat) : (s.fault f sev unit).btn = s.btn :=
  (State.reportFree_only ..).btn.resolve_left (by decide)

/-- A fire not yet sent that is discarded leaves the sent ones. -/
theorem State.discardFire_sent {f : Fire} (h : f.stage ≠ .sent) (s : State) : SentKept s (s.discardFire f) := by
  have hvoid (v : State) : SentKept v (if f.stage == .sent then v else v.voidOf f (fun _ => true)) := by
    split
    · exact .refl v
    · exact .of_btn (State.voidOf_btn ..)
  refine SentKept.trans (u := { s with btn := { s.btn with
    fires := s.btn.fires.filter (fun g => !(g == f)), proofs := s.btn.proofs.filter (fun p => !f.cols.any (·.2 == p.burst)) } })
    ⟨rfl, rfl, fun g hg => ?_⟩ (hvoid _)
  have hne : g ≠ f := fun he => h (he ▸ hg)
  simp [List.mem_filter, hne]

theorem State.discardFires_sent (s : State) (p : Fire → Bool) : SentKept s (s.discardFires p) :=
  .foldl (fun t f hf => State.discardFire_sent (by simpa using (Bool.and_eq_true_iff.mp (List.mem_filter.mp hf).2).1) t) s

theorem State.hushStart_sent (s : State) : SentKept s s.hushStart := by
  have hrings : (((s.count R.BTN_HUSHGEN_GEN 1).wr R.BTN_STATUS_HUSHED 1).onRings State.ringEn State.hushRing).btn = s.btn :=
    (State.onRings_only (Only.refl 0xc2000000000000 _) fun t r => State.hushSets_only t r 240).btn.resolve_left (by decide)
  have hhushing (v : State) (h : v.btn = s.btn) : SentKept s { v with btn := { v.btn with hushing := true } } :=
    (SentKept.of_btn h).trans ⟨rfl, rfl, fun _ _ => Iff.rfl⟩
  unfold State.hushStart
  dsimp only
  exact (hhushing _ hrings).trans (State.discardFires_sent _ _)

theorem State.hushRaised_sent (s : State) : SentKept s s.hushRaised := by
  unfold State.hushRaised
  split
  · exact .refl s
  · exact SentKept.after (State.hushStart_sent _) rfl

theorem State.goDark_sent (s : State) : SentKept s s.goDark := by
  have hlow (v : State) : v.darkLow.btn = v.btn := by
    unfold State.darkLow
    split <;> rfl
  rw [State.goDark_eq]
  exact SentKept.after (State.hushRaised_sent _) (hlow _)

theorem State.goLight_btn (s : State) : s.goLight.btn = s.btn := by
  unfold State.goLight
  split
  · rfl
  · split <;> rfl

theorem State.soutStep_btn (s : State) (k : Nat) : (s.soutStep k).btn = s.btn := by
  unfold State.soutStep
  dsimp only
  split <;> split <;> rfl

theorem State.trsEvalFrom_sent (s : State) (prev cause : Nat) : SentKept s (s.trsEvalFrom prev cause) := by
  have hstop : SentKept s s.stopPaths := by
    unfold State.stopPaths
    refine SentKept.trans ?_ (.of_btn (foldl_keeps State.btn State.soutStep_btn _ _))
    split
    · exact .of_btn (State.goLight_btn _)
    · exact SentKept.after (State.goDark_sent _) rfl
  rcases s.trsEvalFrom_eq prev cause with h | h
  · rw [h]
    exact hstop
  · rw [h]
    exact hstop.trans (.of_btn ((State.trsMarker_only ..).btn.resolve_left (by decide)))

theorem State.setTrs_sent (s : State) (st cause detail : Nat) : SentKept s (s.setTrs st cause detail) := by
  rcases Decidable.em (s.trsState = st) with h | h
  · rw [State.setTrs, if_pos h]
    exact State.trsEvalFrom_sent ..
  · rw [State.setTrs_of_ne h]
    exact SentKept.after (State.trsEvalFrom_sent ..) rfl

theorem State.enterLimp_sent (s : State) (cause detail : Nat) : SentKept s (s.enterLimp cause detail) := by
  have hset : SentKept s
      (((s.onTrs (fun t => { t with limp := [{ cause := cause, detail := detail }] })).flag R.TRS_INTSTAT_LIMP).setTrs 2 cause detail) :=
    SentKept.after (State.setTrs_sent ..) rfl
  unfold State.enterLimp
  dsimp only
  split
  · exact hset.trans (SentKept.after (State.hushStart_sent _) rfl)
  · exact hset

theorem State.faultNoted_btn (s : State) (cause detail : Nat) : (s.faultNoted cause detail).btn = s.btn := by
  rw [State.faultNoted, State.trsReport, (State.report_only ..).btn.resolve_left (by decide), State.trsClassFlag]
  split
  · rfl
  · split <;> rfl

/-- A fault as Truss reacts to it (R315, R316). -/
theorem State.trussFault_eq (s : State) (cause detail : Nat) {v : State} (hv : s.faultNoted cause detail = v) :
    s.trussFault cause detail =
      if s.trsState = 4 then s
      else if cause / 256 = 3 then (v.onTrs (fun t => { t with limp := [] })).setTrs 4 cause detail
      else if v.trsState = 3 then v.trsEval cause
      else if v.on R.TRS_CTL_FEPOAS && limpEligible cause && v.trsState == 1 then v.enterLimp cause detail
      else if v.on R.TRS_CTL_FEPOAS && limpEligible cause && v.trsState == 2 then
        (v.onTrs (fun t => { t with limp := t.limp ++ [{ cause := cause, detail := detail }] })).trsEval cause
      else (v.onTrs (fun t => { t with limp := [] })).setTrs 3 cause detail := by
  subst hv
  rfl

theorem State.trussFault_sent (s : State) (cause detail : Nat) : SentKept s (s.trussFault cause detail) := by
  obtain ⟨v, hv⟩ : ∃ v, s.faultNoted cause detail = v := ⟨_, rfl⟩
  have hnoted : SentKept s v := .of_btn (hv ▸ s.faultNoted_btn cause detail)
  rw [State.trussFault_eq s cause detail hv]
  split
  · exact .refl s
  · refine hnoted.trans ?_
    split
    · exact SentKept.after (State.setTrs_sent ..) rfl
    · split
      · exact State.trsEvalFrom_sent ..
      · split
        · exact State.enterLimp_sent ..
        · split
          · exact SentKept.after (State.trsEvalFrom_sent ..) rfl
          · exact SentKept.after (State.setTrs_sent ..) rfl

/-! ### The registers that a fault leaves alone -/

/-- A key that no fault of Truss writes: outside Truss, outside the fault log, and none of a hush. -/
def OffFault (k : Nat) : Prop := OffEval k ∧ blk k ≠ 13 ∧ blk k ≠ 23

theorem not_offFault {f : Fld} (h : blk f.key = 13) : ¬ OffFault f.key := fun hk => hk.2.1 h

theorem State.trsEvalFrom_fault (s : State) (prev cause : Nat) : Spares OffFault s (s.trsEvalFrom prev cause) :=
  (s.trsEvalFrom_spares prev cause).imp fun _ h => h.1

theorem State.setTrs_fault (s : State) (st cause detail : Nat) : Spares OffFault s (s.setTrs st cause detail) := by
  rcases Decidable.em (s.trsState = st) with h | h
  · rw [State.setTrs, if_pos h]
    exact State.trsEvalFrom_fault ..
  · rw [State.setTrs_of_ne h]
    refine Spares.trans ?_ (State.trsEvalFrom_fault ..)
    exact ((((Spares.refl _ s).wr (not_offFault (by decide))).wr (not_offFault (by decide))).wr (not_offFault (by decide))).wr
      (not_offFault (by decide))

theorem State.enterLimp_fault (s : State) (cause detail : Nat) : Spares OffFault s (s.enterLimp cause detail) := by
  have hset : Spares OffFault s
      (((s.onTrs (fun t => { t with limp := [{ cause := cause, detail := detail }] })).flag R.TRS_INTSTAT_LIMP).setTrs 2 cause detail) :=
    (((Spares.refl _ s).onTrs _).wr (f := R.TRS_INTSTAT_LIMP) (v := 1) (not_offFault (by decide))).trans (State.setTrs_fault ..)
  unfold State.enterLimp
  dsimp only
  split
  · exact (hset.onTrs _).trans ((State.hushStart_spares _).imp fun _ h => h.1)
  · exact hset

theorem State.faultNoted_fault (s : State) (cause detail : Nat) : Spares OffFault s (s.faultNoted cause detail) := by
  have hflag : Spares OffFault s (s.trsClassFlag cause) := by
    unfold State.trsClassFlag
    split
    · exact (Spares.refl _ s).wr (not_offFault (by decide))
    · split
      · exact (Spares.refl _ s).wr (not_offFault (by decide))
      · exact .refl ..
  refine ⟨fun f hf => (State.report_rd _ _ _ _ _ _ _ (fun he => hf.2.2 (he ▸ by decide)) (fun he => hf.2.2 (he ▸ by decide))).trans
    (hflag.rd f hf), fun _ he => ?_⟩
  rw [State.faultNoted, State.trsReport, (State.report_only ..).out.resolve_left (by decide)]
  exact hflag.out he

theorem State.trussFault_fault (s : State) (cause detail : Nat) : Spares OffFault s (s.trussFault cause detail) := by
  obtain ⟨v, hv⟩ : ∃ v, s.faultNoted cause detail = v := ⟨_, rfl⟩
  have hnoted : Spares OffFault s v := hv ▸ s.faultNoted_fault cause detail
  rw [State.trussFault_eq s cause detail hv]
  split
  · exact .refl ..
  · split
    · exact (hnoted.onTrs _).trans (State.setTrs_fault ..)
    · split
      · exact hnoted.trans (State.trsEvalFrom_fault ..)
      · split
        · exact hnoted.trans (State.enterLimp_fault ..)
        · split
          · exact (hnoted.onTrs _).trans (State.trsEvalFrom_fault ..)
          · exact (hnoted.onTrs _).trans (State.setTrs_fault ..)

/-! ### Exposure faults (R315) -/

theorem limpEligible_of_exposure {cause : Nat} (h : cause / 256 = 1) : limpEligible cause = false := by
  simp only [limpEligible, Bool.or_eq_false_iff, beq_eq_false_iff_ne]
  omega

theorem State.trussFault_armed {cause : Nat} (hc : cause / 256 = 1) (h : s.trsState = 1) (detail : Nat) :
    s.trussFault cause detail = ((s.faultNoted cause detail).onTrs (fun t => { t with limp := [] })).setTrs 3 cause detail := by
  have hnoted : (s.faultNoted cause detail).trsState = 1 := (State.faultNoted_rd s cause detail R.TRS_STATE_STATE (by decide)).trans h
  rw [State.trussFault_eq s cause detail rfl, if_neg (by omega), if_neg (by omega), if_neg (by omega), limpEligible_of_exposure hc]
  simp

theorem State.trussFault_locked {cause : Nat} (hc : cause / 256 = 1) (h : s.trsState = 3) (detail : Nat) :
    s.trussFault cause detail = (s.faultNoted cause detail).trsEval cause := by
  have hnoted : (s.faultNoted cause detail).trsState = 3 := (State.faultNoted_rd s cause detail R.TRS_STATE_STATE (by decide)).trans h
  rw [State.trussFault_eq s cause detail rfl, if_neg (by omega), if_neg (by omega), if_pos hnoted]

/-- An exposure fault ends dark in LOCKOUT, from ARMED and from LOCKOUT. -/
theorem State.exposureFault_dark {cause : Nat} (hc : cause / 256 = 1) (h : s.trsState = 1 ∨ s.trsState = 3) (detail : Nat) :
    DarkIn 3 s (s.trussFault cause detail) := by
  rcases h with h | h
  · rw [State.trussFault_armed hc h]
    exact (State.setTrs_dark _ (.inl rfl) _ _).of_onTrs.of_noted
  · have hnoted : (s.faultNoted cause detail).trsState = 3 := (State.faultNoted_rd s cause detail R.TRS_STATE_STATE (by decide)).trans h
    rw [State.trussFault_locked hc h]
    exact DarkIn.of_noted ⟨(State.trsEvalFrom_trsState ..).trans hnoted, State.trsEvalFrom_dark (by rw [hnoted]; decide) _ _,
      (State.trsEvalFrom_spares _ _ _).rd _ (by unfold OffEval; decide)⟩

/-- The lockout of an armed Truss names the fault. -/
theorem State.exposureFault_cause {cause : Nat} (hc : cause / 256 = 1) (h : s.trsState = 1) (detail : Nat) :
    (s.trussFault cause detail).rd R.TRS_LASTCAUSE_CAUSE = cause := by
  have hnoted : (s.faultNoted cause detail).trsState = 1 := (State.faultNoted_rd s cause detail R.TRS_STATE_STATE (by decide)).trans h
  rw [State.trussFault_armed hc h]
  refine State.setTrs_cause ?_ (by omega) detail
  show (s.faultNoted cause detail).trsState ≠ 3
  omega

/-! ### Columns that are declared failed (R117) -/

theorem State.stripColumns_sent (s : State) (row : Nat) (cols : BitVec 32) : SentKept s (s.stripColumns row cols) := by
  refine SentKept.foldl (fun t f hf => ?_) s
  have hsub : f.stage = .submitted := by
    have hpick := (List.mem_filter.mp hf).2
    simp only [Bool.and_eq_true, beq_iff_eq] at hpick
    exact hpick.1.2
  have hne : f.stage ≠ .sent := by rw [hsub]; decide
  dsimp only
  split
  · exact State.discardFire_sent hne t
  · refine (SentKept.of_btn (State.voidOf_btn ..)).trans ⟨rfl, rfl, fun g hg => ?_⟩
    show g ∈ updateWhere _ _ _ ↔ _
    rw [updateWhere, List.mem_map]
    constructor
    · rintro ⟨x, hx, he⟩
      split at he
      · subst he
        exact absurd hg hne
      · exact he ▸ hx
    · intro hx
      exact ⟨g, hx, if_neg fun he => hne (by rw [← eq_of_beq he]; exact hg)⟩

theorem State.autoBlank_btn (s : State) (row : Nat) : (s.autoBlank row).btn = s.btn :=
  (State.autoBlank_only s row).btn.resolve_left (by decide)

theorem State.columnsFail_sent (s : State) (row : Nat) (cols : BitVec 32) : SentKept s (s.columnsFail row cols) := by
  unfold State.columnsFail
  split
  · exact .refl s
  · dsimp only
    refine SentKept.trans (SentKept.after (State.stripColumns_sent ..) ?_) (.of_btn (State.autoBlank_btn ..))
    rw [State.fault_btn]
    rfl

/-- The fields that a failed column is shown in beside its row's mask. -/
def failFlds : List Fld := [R.BTN_INTSTAT_ROWAUTO, R.BTN_INTSTAT_EMFAULT] ++ reportFlds

theorem emfail_ne_failFlds (row : Nat) : ∀ g ∈ failFlds, (R.BTN_EMFAIL_FAIL row).key ≠ g.key := by
  have hlow : 16809984 ≤ (R.BTN_EMFAIL_FAIL row).key ∧ (R.BTN_EMFAIL_FAIL row).key < 16875520 := by
    unfold R.BTN_EMFAIL_FAIL
    dsimp only
    omega
  have hout : ∀ g ∈ failFlds, g.key < 16809984 ∨ 16875520 ≤ g.key := by decide
  intro g hg
  have := hout g hg
  omega

theorem emfail_ne_auto (row i : Nat) : (R.BTN_EMFAIL_FAIL row).key ≠ (R.BTN_RAUTO_AUTO i).key := by
  unfold R.BTN_EMFAIL_FAIL R.BTN_RAUTO_AUTO
  dsimp only
  omega

/-- A row's blanking leaves the columns that have failed, and their flag. -/
theorem State.autoBlank_rd {f : Fld} (hf : ∀ g ∈ R.BTN_INTSTAT_ROWAUTO :: reportFlds, f.key ≠ g.key)
    (ha : ∀ i, f.key ≠ (R.BTN_RAUTO_AUTO i).key) (s : State) (row : Nat) : (s.autoBlank row).rd f = s.rd f := by
  unfold State.autoBlank
  dsimp only
  split
  · rw [State.fault_rd _ _ _ _ _ (hf _ (by decide)) (hf _ (by decide)), if_neg (hf _ (by decide)), State.rd_wr_ne _ _ _ _ (ha _)]
  · rfl

theorem State.stripColumns_rd {f : Fld} (hb : blk f.key = 11) (s : State) (row : Nat) (cols : BitVec 32) :
    (s.stripColumns row cols).rd f = s.rd f := (State.stripColumns_only s row cols).rd f (by rw [hb]; decide)

/-- The columns add to those of the row that have failed. -/
theorem State.columnsFail_rd (s : State) (row : Nat) (cols : BitVec 32) (h : s.rd (R.BTN_EMFAIL_FAIL row) < 2 ^ 32) :
    (s.columnsFail row cols).rd (R.BTN_EMFAIL_FAIL row) = s.rd (R.BTN_EMFAIL_FAIL row) ||| cols.toNat := by
  have hne := emfail_ne_failFlds row
  unfold State.columnsFail
  split
  · next hnone =>
    rw [hnone]
    exact (Nat.or_zero _).symm
  · dsimp only
    rw [State.autoBlank_rd (fun g hg => hne g (by revert g; decide)) (emfail_ne_auto row), State.stripColumns_rd (blk_BTN_EMFAIL_FAIL row),
      State.fault_rd _ _ _ _ _ (hne _ (by decide)) (hne _ (by decide)), if_neg (hne _ (by decide)), State.rd_wr_same]
    exact Nat.mod_eq_of_lt (Nat.or_lt_two_pow h cols.isLt)

/-- Columns that fail are flagged. -/
theorem State.columnsFail_flags {cols : BitVec 32} (h : cols ≠ 0) (s : State) (row : Nat) :
    (s.columnsFail row cols).rd R.BTN_INTSTAT_EMFAULT = 1 := by
  rw [State.columnsFail, if_neg h]
  dsimp only
  rw [State.autoBlank_rd (by decide) (fun i => by unfold R.BTN_INTSTAT_EMFAULT R.BTN_RAUTO_AUTO; dsimp only; omega),
    State.stripColumns_rd (by decide), State.fault_rd _ _ _ _ _ (by decide) (by decide), if_pos rfl]
  rfl

end
end Sys2Proof.Machine
end

section
/-!
UPSTREAM FRAMES (R92, R94, R96, R97, R111, R116 to R118, R503): what STATUS, fire reports, READDATA and ALARM leave, and that a frame which
Batten does not take is counted alone (O19).
-/
namespace Sys2Proof.Machine

section
variable {s t u : State} {n : Fin 64} {h : UpHead}

/-! ### Register keys of a driver -/

/-- A key among BTN_DID and BTN_DSTAT. -/
abbrev DriverKey (k : Nat) : Prop := 16781376 ≤ k ∧ k < 16789568

theorem DriverKey.ne {k : Nat} (hk : DriverKey k) {g : Fld} (hg : ¬ DriverKey g.key) : k ≠ g.key := fun he => hg (he ▸ hk)

theorem DriverKey.ne_report {k : Nat} (hk : DriverKey k) : k ≠ R.FLT_OVERFLOW_CNT.key ∧ k ≠ R.FLT_INTSTAT_OVERFLOW.key :=
  ⟨hk.ne (by decide), hk.ne (by decide)⟩

theorem DriverKey.offSummary {k : Nat} (hk : DriverKey k) : OffSummary k :=
  ⟨hk.ne (by decide), .inl (Nat.lt_trans hk.2 (by decide))⟩

/-- No fault of Truss writes a driver's registers. -/
theorem DriverKey.offFault {f : Fld} (hk : DriverKey f.key) (hb : blk f.key = 11) : OffFault f.key :=
  ⟨fun _ hg => hk.ne ((by decide : ∀ g ∈ trsEvalFlds, ¬ DriverKey g.key) _ hg), by rw [hb]; decide, by rw [hb]; decide⟩

/-- The fields of a driver's status stand in order. -/
theorem dstat_keys (n : Nat) : 16781376 ≤ (R.BTN_DSTAT_HUSHED n).key ∧ (R.BTN_DSTAT_HUSHED n).key < (R.BTN_DSTAT_REPLOST n).key
    ∧ (R.BTN_DSTAT_REPLOST n).key < (R.BTN_DSTAT_CAPREJ n).key ∧ (R.BTN_DSTAT_CAPREJ n).key < (R.BTN_DSTAT_ALARM n).key
    ∧ (R.BTN_DSTAT_ALARM n).key < 16789568 := by
  simp only [R.BTN_DSTAT_HUSHED, R.BTN_DSTAT_REPLOST, R.BTN_DSTAT_CAPREJ, R.BTN_DSTAT_ALARM]
  omega

theorem driverKey_dstat (n : Nat) : DriverKey (R.BTN_DSTAT_HUSHED n).key ∧ DriverKey (R.BTN_DSTAT_REPLOST n).key
    ∧ DriverKey (R.BTN_DSTAT_CAPREJ n).key ∧ DriverKey (R.BTN_DSTAT_ALARM n).key := by
  have := dstat_keys n
  omega

/-- No fault of Truss writes the columns that have failed. -/
theorem emfail_offFault (row : Nat) : OffFault (R.BTN_EMFAIL_FAIL row).key := by
  have hlow : 16809984 ≤ (R.BTN_EMFAIL_FAIL row).key ∧ (R.BTN_EMFAIL_FAIL row).key < 16875520 := by
    unfold R.BTN_EMFAIL_FAIL
    dsimp only
    omega
  have hout : ∀ g ∈ trsEvalFlds, g.key < 16809984 ∨ 16875520 ≤ g.key := by decide
  refine ⟨fun g hg => ?_, by rw [blk_BTN_EMFAIL_FAIL]; decide, by rw [blk_BTN_EMFAIL_FAIL]; decide⟩
  have := hout g hg
  omega

/-! ### Frames that Batten does not take (R92, R94) -/

/-- A frame that is discarded is counted, and leaves nothing else. -/
theorem completes_of_upBad {c : Instr} (hexec : exec c s = (s.upBad n.val).done) : Completes c s (fun t =>
    t.rd (R.BTN_RERR_CRCERR (ringOf n.val)) = min (s.rd (R.BTN_RERR_CRCERR (ringOf n.val)) + 1) (2 ^ (R.BTN_RERR_CRCERR (ringOf
      n.val)).width - 1)
      ∧ t.btn = s.btn ∧ Frame [R.BTN_RERR_CRCERR (ringOf n.val)] s t) := by
  have hkey : OffSummary (R.BTN_RERR_CRCERR (ringOf n.val)).key := by
    unfold R.BTN_RERR_CRCERR OffSummary R.GLB_INTCTL_ARMED
    dsimp only
    omega
  refine completes_of_done hexec ⟨?_, State.settle_btn _, ((Frame.refl ..).bump List.mem_cons_self).settle⟩
  rw [State.settle_rd _ _ hkey.1 hkey.2, State.upBad, State.rd_bump, if_pos rfl]
  exact Nat.mod_eq_of_lt (Nat.lt_of_le_of_lt (Nat.min_le_right ..) (Nat.sub_one_lt (Nat.two_pow_pos _).ne'))

theorem status_bad (hbad : upGood h = false) (p : StatusPayload) : exec (.status ⟨n, h⟩ p) s = (s.upBad n.val).done :=
  if_pos (by rw [hbad]; rfl)

theorem report_bad {reps : List FireReport} (hbad : upGood h = false ∨ reps.length = 0 ∨ 6 < reps.length) :
    exec (.report ⟨n, h⟩ reps) s = (s.upBad n.val).done := by
  refine if_neg fun htake => ?_
  simp only [Bool.and_eq_true, decide_eq_true_eq] at htake
  rcases hbad with hbad | hlen | hlen
  · rw [hbad] at htake
    exact absurd htake.1.1 Bool.false_ne_true
  · omega
  · omega

theorem alarm_bad (hbad : upGood h = false) (code : BitVec 8) (detail : BitVec 24) :
    exec (.alarm ⟨n, h⟩ code detail) s = (s.upBad n.val).done :=
  congrArg State.done (if_pos (by rw [hbad]; rfl))

/-! ### STATUS (R96, R111, R115) -/

/-- What a STATUS leaves before the RESUME that it may ask for. -/
def State.statusTaken (s : State) (n : Nat) (h : UpHead) (p : StatusPayload) : State :=
  ((s.answered n h).noOldReports n).statusRegs n p

/-- A driver that reads hushed for no reason of Batten's gets a RESUME. -/
def State.resumeDriver (s : State) (n : Nat) (p : StatusPayload) : State :=
  if p.hushed && !s.btn.hushing && s.ringEn (ringOf n) && s.lightOk then
    (s.sendRing (ringOf n) 0x04 (addrOf n) s.hushGenBytes 3).reportFree 9 0xFF 1 n
  else s

theorem exec_status (hgood : upGood h = true) (p : StatusPayload) : exec (.status ⟨n, h⟩ p) s =
    ((if p.capRej then ((s.statusTaken n.val h p).wr (R.BTN_DSTAT_CAPREJ n.val) 1).trussFault 0x0102 n.val
      else s.statusTaken n.val h p).resumeDriver n.val p).done := by
  have hresume (v : State) : (if p.hushed && !v.btn.hushing && v.ringEn (ringOf n.val) && v.lightOk then
      ((v.sendRing (ringOf n.val) 0x04 (addrOf n.val) v.hushGenBytes 3).reportFree 9 0xFF 1 n.val).done else v.done)
      = (v.resumeDriver n.val p).done := (apply_ite State.done ..).symm
  exact (if_neg (by rw [hgood]; decide)).trans (hresume _)

theorem State.resumeDriver_only (s : State) (n : Nat) (p : StatusPayload) : Only 0xca001000900000 s (s.resumeDriver n p) := by
  unfold State.resumeDriver
  split
  · exact ((Only.refl _ s).app (State.sendRing_only ..) (by decide)).app (State.reportFree_only ..) (by decide)
  · exact .refl ..

theorem State.resumeDriver_drivers (s : State) (n : Nat) (p : StatusPayload) : (s.resumeDriver n p).btn.drivers = s.btn.drivers := by
  unfold State.resumeDriver
  split
  · rw [(State.reportFree_only ..).btn.resolve_left (by decide), State.sendRing_btn]
    rfl
  · rfl

theorem Frame.reportFree {l : List Fld} (hf : Frame l s u) (src code sev unit : Nat) (hr : reportFlds ⊆ l) :
    Frame l s (u.reportFree src code sev unit) :=
  hf.trans ⟨fun g hg _ => State.reportFree_rd _ _ _ _ _ _ (hg _ (hr (by decide))) (hg _ (hr (by decide))),
    (State.reportFree_only ..).keepsMemory (by decide) (by decide)⟩

theorem Frame.resumeDriver {l : List Fld} (hf : Frame l s u) {k : Nat} (hcw : R.DWL_PINJ_CNT (2 * ringOf k) ∈ l)
    (hccw : R.DWL_PINJ_CNT (2 * ringOf k + 1) ∈ l) (hr : reportFlds ⊆ l) (p : StatusPayload) : Frame l s (u.resumeDriver k p) := by
  unfold State.resumeDriver
  split
  · exact (hf.sendRing hcw hccw ..).reportFree _ _ _ _ hr
  · exact hf

/-- A flag that a condition raises, read elsewhere. -/
theorem State.when_fault_rd {f g : Fld} (hne : f.key ≠ g.key) (hr : f.key ≠ R.FLT_OVERFLOW_CNT.key ∧ f.key ≠ R.FLT_INTSTAT_OVERFLOW.key)
    (s : State) (c : Bool) (sev unit : Nat) : (s.when c (·.fault g sev unit)).rd f = s.rd f :=
  State.when_keeps (State.rd · f) ((State.fault_rd _ _ _ _ _ hr.1 hr.2).trans (if_neg hne))

theorem State.statusTaken_rd (s : State) (n : Nat) (h : UpHead) (p : StatusPayload) :
    (s.statusTaken n h p).rd (R.BTN_DSTAT_HUSHED n) = p.hushed.toNat ∧ (s.statusTaken n h p).rd (R.BTN_DSTAT_REPLOST n) = p.repLost.toNat
      ∧ (s.statusTaken n h p).rd (R.BTN_DSTAT_ALARM n) = p.alarm.toNat
      ∧ (p.repLost = true → (s.statusTaken n h p).rd R.BTN_INTSTAT_REPLOST = 1) := by
  obtain ⟨hkh, hkr, -, hka⟩ := driverKey_dstat n
  obtain ⟨-, hhr, hrc, hca, -⟩ := dstat_keys n
  refine ⟨?_, ?_, ?_, fun hlost => ?_⟩
  · rw [State.statusTaken, State.statusRegs, State.when_fault_rd (hkh.ne (by decide)) hkh.ne_report, State.setDrv_rd,
      State.rd_wr_ne _ _ _ _ (by omega), State.rd_wrB_ne _ _ _ _ (by omega), State.rd_wrB_same _ _ rfl]
  · rw [State.statusTaken, State.statusRegs, State.when_fault_rd (hkr.ne (by decide)) hkr.ne_report, State.setDrv_rd,
      State.rd_wr_ne _ _ _ _ (by omega), State.rd_wrB_same _ _ rfl]
  · rw [State.statusTaken, State.statusRegs, State.when_fault_rd (hka.ne (by decide)) hka.ne_report, State.setDrv_rd, State.rd_wr_same]
    exact Nat.mod_eq_of_lt p.alarm.isLt
  · rw [State.statusTaken, State.statusRegs, hlost]
    exact (State.fault_rd _ _ _ _ _ (by decide) (by decide)).trans (if_pos rfl)

theorem State.drv_setDrv (s : State) (n : Nat) (f : DrvState → DrvState) : (s.setDrv n f).drv n = f (s.drv n) := mapGet_set_same ..

theorem State.statusTaken_drv (s : State) (n : Nat) (h : UpHead) (p : StatusPayload) :
    ((s.statusTaken n h p).drv n).missCw = 0 ∧ ((s.statusTaken n h p).drv n).missCcw = 0 := by
  have hbtn (c : Bool) (v : State) : (v.when c (·.fault R.BTN_INTSTAT_REPLOST 1 n)).drv n = v.drv n :=
    State.when_keeps (State.drv · n) (congrArg (fun b : BtnState => mapGet DrvState.zero b.drivers n) (State.fault_btn ..))
  have hanswer (v : State) (f g : Fld) (a b : Bool) (k c : Nat) : (((v.wrB f a).wrB g b).wr (R.BTN_DSTAT_ALARM k) c).drv n = v.drv n := rfl
  have hkeep (v : State) : (v.noOldReports n).drv n = v.drv n := rfl
  rw [State.statusTaken, State.statusRegs, hbtn, State.drv_setDrv, hanswer, hkeep, State.answered, State.drv_setDrv]
  exact ⟨rfl, rfl⟩

/-- The fields of a STATUS, and those that its RESUME and its reports count in. -/
def statusFlds (n : Nat) : List Fld :=
  [R.BTN_DSTAT_HUSHED n, R.BTN_DSTAT_REPLOST n, R.BTN_DSTAT_ALARM n, R.BTN_INTSTAT_REPLOST, R.DWL_PINJ_CNT (2 * ringOf n),
    R.DWL_PINJ_CNT (2 * ringOf n + 1)] ++ reportFlds

theorem Frame.setDrv {l : List Fld} (hf : Frame l s u) (k : Nat) (f : DrvState → DrvState) : Frame l s (u.setDrv k f) :=
  hf.trans ⟨fun _ _ _ => rfl, fun _ => rfl, fun _ => rfl⟩

theorem State.statusTaken_frame (s : State) (n : Nat) (h : UpHead) (p : StatusPayload) : Frame (statusFlds n) s (s.statusTaken n h p) := by
  have hstart : Frame (statusFlds n) s ((s.answered n h).noOldReports n) := ⟨fun _ _ _ => rfl, fun _ => rfl, fun _ => rfl⟩
  have hfault (v : State) : Frame (statusFlds n) v (v.fault R.BTN_INTSTAT_REPLOST 1 n) :=
    (Frame.refl _ v).fault (by simp [statusFlds]) (List.subset_append_right ..)
  have hregs : Frame (statusFlds n) s ((((((s.answered n h).noOldReports n).wrB (R.BTN_DSTAT_HUSHED n) p.hushed).wrB
      (R.BTN_DSTAT_REPLOST n) p.repLost).wr (R.BTN_DSTAT_ALARM n) p.alarm.toNat).setDrv n (fun d => { d with status := some p })) :=
    (((hstart.wr (by simp [statusFlds])).wr (by simp [statusFlds])).wr (by simp [statusFlds])).setDrv ..
  exact hregs.when _ (hfault _)

theorem status_completes (hgood : upGood h = true) {p : StatusPayload} (hcap : p.capRej = false) : Completes (.status ⟨n, h⟩ p) s (fun t =>
    t.rd (R.BTN_DSTAT_HUSHED n.val) = p.hushed.toNat ∧ t.rd (R.BTN_DSTAT_REPLOST n.val) = p.repLost.toNat
      ∧ t.rd (R.BTN_DSTAT_ALARM n.val) = p.alarm.toNat ∧ (t.drv n.val).missCw = 0 ∧ (t.drv n.val).missCcw = 0
      ∧ (p.repLost = true → t.rd R.BTN_INTSTAT_REPLOST = 1) ∧ Frame (statusFlds n.val) s t) := by
  have hexec := exec_status (s := s) (n := n) hgood p
  rw [hcap, if_neg Bool.false_ne_true] at hexec
  have honly := (s.statusTaken n.val h p).resumeDriver_only n.val p
  obtain ⟨hhushed, hlost, halarm, hflag⟩ := s.statusTaken_rd n.val h p
  obtain ⟨hmiss, hmissc⟩ := s.statusTaken_drv n.val h p
  obtain ⟨hkh, hkr, -, hka⟩ := driverKey_dstat n.val
  have hrd {f : Fld} (hk : DriverKey f.key) (hb : blk f.key = 11) :
      ((s.statusTaken n.val h p).resumeDriver n.val p).settle.rd f = (s.statusTaken n.val h p).rd f := by
    rw [State.settle_rd _ _ hk.offSummary.1 hk.offSummary.2]
    exact honly.rd f (by rw [hb]; decide)
  have hdrv : ((s.statusTaken n.val h p).resumeDriver n.val p).settle.drv n.val = (s.statusTaken n.val h p).drv n.val := by
    rw [State.drv, State.settle_btn, State.resumeDriver_drivers]
    rfl
  refine completes_of_done hexec ⟨(hrd hkh (blk_BTN_DSTAT_HUSHED _)).trans hhushed, (hrd hkr (blk_BTN_DSTAT_REPLOST _)).trans hlost,
    (hrd hka (blk_BTN_DSTAT_ALARM _)).trans halarm, by rw [hdrv, hmiss], by rw [hdrv, hmissc], fun hl => ?_, ?_⟩
  · rw [State.settle_rd _ _ (by decide) (by decide), honly.rd _ (by decide), hflag hl]
  · exact ((s.statusTaken_frame n.val h p).resumeDriver (by simp [statusFlds]) (by simp [statusFlds])
      (List.subset_append_right ..) p).settle

theorem State.statusTaken_trsState (s : State) (n : Nat) (h : UpHead) (p : StatusPayload) :
    (s.statusTaken n h p).trsState = s.trsState :=
  (State.statusRegs_only ..).rd R.TRS_STATE_STATE (by decide)

/-- A cap rejection locks an armed Truss out (R111). -/
theorem status_locksOut (hgood : upGood h = true) {p : StatusPayload} (hcap : p.capRej = true) (harmed : s.trsState = 1) :
    Completes (.status ⟨n, h⟩ p) s (fun t =>
      t.rd (R.BTN_DSTAT_CAPREJ n.val) = 1 ∧ t.trsState = 3 ∧ t.rd R.TRS_LASTCAUSE_CAUSE = 0x0102 ∧ t.rd R.TRS_STATE_DARKCMD = 0
        ∧ KeepsMemory s t) := by
  have hexec := exec_status (s := s) (n := n) hgood p
  rw [hcap, if_pos rfl] at hexec
  set v := (s.statusTaken n.val h p).wr (R.BTN_DSTAT_CAPREJ n.val) 1 with hv
  have honly := (v.trussFault 0x0102 n.val).resumeDriver_only n.val p
  obtain ⟨-, -, hkc, -⟩ := driverKey_dstat n.val
  have hstate : v.trsState = 1 := by
    rw [hv, State.trsState, State.rd_wr_ne _ _ _ _ (hkc.ne (by decide)).symm]
    exact (s.statusTaken_trsState ..).trans harmed
  obtain ⟨hlocked, hdark, -⟩ := State.exposureFault_dark (cause := 0x0102) (by decide) (.inl hstate) n.val
  refine completes_of_done hexec ⟨?_, ?_, ?_, ?_, (execStatus_only ⟨n, h⟩ p s _ hexec).keepsMemory (by decide) (by decide)⟩
  · rw [State.settle_rd _ _ hkc.offSummary.1 hkc.offSummary.2, honly.rd _ (by rw [blk_BTN_DSTAT_CAPREJ]; decide),
      (State.trussFault_fault ..).rd _ (hkc.offFault (blk_BTN_DSTAT_CAPREJ _)), hv, State.rd_wr_same]
    rfl
  · rw [State.trsState, State.settle_rd _ _ (by decide) (by decide), honly.rd _ (by decide)]
    exact hlocked
  · rw [State.settle_rd _ _ (by decide) (by decide), honly.rd _ (by decide)]
    exact State.exposureFault_cause (by decide) hstate _
  · rw [State.settle_rd _ _ (by decide) (by decide), honly.rd _ (by decide)]
    exact hdark

end
end Sys2Proof.Machine
end

section
/-!
ALARM, READDATA AND FIRE REPORTS (R97, R116, R117, R118, R503): the stop of a driver, the words that it reads back, and what each result
of a report leaves (O19).
-/
namespace Sys2Proof.Machine

section
variable {s t u : State} {n : Fin 64} {h : UpHead}

/-! ### ALARM (R118) -/

/-- The fires that a run of discards leaves. -/
theorem mem_discards {l : List Fire} {f : Fire} (hf : f ∈ (l.foldl State.discardFire s).btn.fires) : f ∈ s.btn.fires ∧ f ∉ l := by
  have hstep {v : State} {g : Fire} (hg : f ∈ (v.discardFire g).btn.fires) : f ∈ v.btn.fires ∧ f ≠ g := by
    have hvoid (w : State) : (if g.stage == .sent then w else w.voidOf g (fun _ => true)).btn = w.btn := by
      split
      · rfl
      · exact State.voidOf_btn ..
    unfold State.discardFire at hg
    dsimp only at hg
    rw [hvoid] at hg
    obtain ⟨hmem, hne⟩ := List.mem_filter.mp hg
    exact ⟨hmem, by simpa using hne⟩
  induction l generalizing s with
  | nil => exact ⟨hf, List.not_mem_nil⟩
  | cons g l ih =>
    obtain ⟨hmem, hrest⟩ := ih hf
    obtain ⟨hmem, hne⟩ := hstep hmem
    exact ⟨hmem, fun hin => (List.mem_cons.mp hin).elim hne hrest⟩

/-- Of the fires that a discard picks only the sent ones stay. -/
theorem sent_of_discardFires {p : Fire → Bool} {f : Fire} (hf : f ∈ (s.discardFires p).btn.fires) (hp : p f = true) :
    f.stage = .sent := by
  obtain ⟨hmem, hpicked⟩ := mem_discards hf
  by_contra hne
  refine hpicked (List.mem_filter.mpr ⟨hmem, ?_⟩)
  simp [hne, hp]

/-- A driver that stops keeps only the fires that were sent. -/
theorem State.stopDriver_stops (s : State) (n : Nat) : ((s.stopDriver n).drv n).stopped = true
    ∧ ∀ f ∈ (s.stopDriver n).btn.fires, f.driver = n → f.stage = .sent := by
  refine ⟨?_, fun f hf hn => sent_of_discardFires hf (by simpa using hn)⟩
  rw [State.stopDriver, (State.discardFires_sent ..).drv, State.drv_setDrv]

/-- An alarm is flagged and logged. -/
def State.alarmLogged (s : State) (n sev : Nat) (d : BitVec 64) : State := (s.flag R.BTN_INTSTAT_DRVALARM).report 9 3 sev n d

/-- A driver's alarm code is shown. -/
def State.alarmShown (s : State) (n : Nat) (h : UpHead) (c : Nat) : State := (s.answered n h).wr (R.BTN_DSTAT_ALARM n) c

/-- The detail that an alarm is logged with. -/
def alarmDetail (code : BitVec 8) (detail : BitVec 24) : BitVec 64 := BitVec.ofNat 64 (code.toNat + 256 * detail.toNat)

/-- An alarm by its code. -/
theorem exec_alarm (hgood : upGood h = true) {code : BitVec 8} (h0 : code.toNat ≠ 0) (detail : BitVec 24) :
    exec (.alarm ⟨n, h⟩ code detail) s =
      (if code.toNat < 0x40 then (s.alarmShown n.val h code.toNat).alarmLogged n.val 1 (alarmDetail code detail)
      else if code.toNat < 0x80 then ((s.alarmShown n.val h code.toNat).stopDriver n.val).alarmLogged n.val 3 (alarmDetail code detail)
      else ((s.alarmShown n.val h code.toNat).alarmLogged n.val 3 (alarmDetail code detail)).trussFault 0x0103 n.val).done :=
  congrArg State.done ((if_neg (by rw [hgood]; decide)).trans (if_neg h0))

theorem State.alarmLogged_rd {f : Fld} (hr : f.key ≠ R.FLT_OVERFLOW_CNT.key ∧ f.key ≠ R.FLT_INTSTAT_OVERFLOW.key) (s : State) (n sev : Nat)
    (d : BitVec 64) : (s.alarmLogged n sev d).rd f = if f.key = R.BTN_INTSTAT_DRVALARM.key then 1 else s.rd f := by
  rw [State.alarmLogged, State.report_rd _ _ _ _ _ _ _ hr.1 hr.2, State.rd_flag]
  rfl

theorem State.alarmLogged_btn (s : State) (n sev : Nat) (d : BitVec 64) : (s.alarmLogged n sev d).btn = s.btn :=
  (State.report_only ..).btn.resolve_left (by decide)

theorem State.alarmShown_rd (s : State) (n : Nat) (h : UpHead) (code : BitVec 8) :
    (s.alarmShown n h code.toNat).rd (R.BTN_DSTAT_ALARM n) = code.toNat := by
  rw [State.alarmShown, State.rd_wr_same]
  exact Nat.mod_eq_of_lt code.isLt

/-- A code below 0x40 is shown and logged. -/
theorem alarm_advises (hgood : upGood h = true) {code : BitVec 8} (h0 : code ≠ 0) (hlow : code.toNat < 0x40) (detail : BitVec 24) :
    Completes (.alarm ⟨n, h⟩ code detail) s (fun t =>
      t.rd (R.BTN_DSTAT_ALARM n.val) = code.toNat ∧ t.rd R.BTN_INTSTAT_DRVALARM = 1 ∧ (t.drv n.val).stopped = (s.drv n.val).stopped
        ∧ Frame ([R.BTN_DSTAT_ALARM n.val, R.BTN_INTSTAT_DRVALARM] ++ reportFlds) s t) := by
  have hexec := exec_alarm (s := s) (n := n) hgood (toNat_ne_of_ne h0) detail
  rw [if_pos hlow] at hexec
  obtain ⟨-, -, -, hka⟩ := driverKey_dstat n.val
  have hframe : Frame ([R.BTN_DSTAT_ALARM n.val, R.BTN_INTSTAT_DRVALARM] ++ reportFlds) s
      ((s.alarmShown n.val h code.toNat).alarmLogged n.val 1 (alarmDetail code detail)) :=
    ((((Frame.refl _ s).setDrv ..).wr (by simp)).wr (by simp)).report _ _ _ _ _ (List.subset_append_right ..)
  refine completes_of_done hexec ⟨?_, ?_, ?_, hframe.settle⟩
  · rw [State.settle_rd _ _ hka.offSummary.1 hka.offSummary.2, State.alarmLogged_rd hka.ne_report, if_neg (hka.ne (by decide)),
      State.alarmShown_rd]
  · rw [State.settle_rd _ _ (by decide) (by decide), State.alarmLogged_rd (by decide), if_pos rfl]
  · rw [State.drv, State.settle_btn, State.alarmLogged_btn]
    have hanswer : ((s.answered n.val h).drv n.val).stopped = (s.drv n.val).stopped := by rw [State.answered, State.drv_setDrv]
    exact hanswer

/-- A code from 0x40 to 0x7F stops the driver. -/
theorem alarm_stops (hgood : upGood h = true) {code : BitVec 8} (hlow : 0x40 ≤ code.toNat) (hhigh : code.toNat < 0x80)
    (detail : BitVec 24) : Completes (.alarm ⟨n, h⟩ code detail) s (fun t =>
      t.rd (R.BTN_DSTAT_ALARM n.val) = code.toNat ∧ t.rd R.BTN_INTSTAT_DRVALARM = 1 ∧ (t.drv n.val).stopped = true
        ∧ (∀ f ∈ t.btn.fires, f.driver = n.val → f.stage = .sent) ∧ t.rd R.TRS_STATE_STATE = s.rd R.TRS_STATE_STATE ∧ KeepsMemory s t) := by
  have hexec := exec_alarm (s := s) (n := n) hgood (by omega : code.toNat ≠ 0) detail
  rw [if_neg (by omega), if_pos hhigh] at hexec
  obtain ⟨-, -, -, hka⟩ := driverKey_dstat n.val
  have honly := (s.alarmShown n.val h code.toNat).stopDriver_only n.val
  obtain ⟨hstopped, hfires⟩ := (s.alarmShown n.val h code.toNat).stopDriver_stops n.val
  refine completes_of_done hexec ⟨?_, ?_, ?_, ?_, ?_, (execAlarm_only ⟨n, h⟩ code detail s _ hexec).keepsMemory (by decide) (by decide)⟩
  · rw [State.settle_rd _ _ hka.offSummary.1 hka.offSummary.2, State.alarmLogged_rd hka.ne_report, if_neg (hka.ne (by decide)),
      honly.rd _ (by rw [blk_BTN_DSTAT_ALARM]; decide), State.alarmShown_rd]
  · rw [State.settle_rd _ _ (by decide) (by decide), State.alarmLogged_rd (by decide), if_pos rfl]
  · rw [State.drv, State.settle_btn, State.alarmLogged_btn]
    exact hstopped
  · rw [State.settle_btn, State.alarmLogged_btn]
    exact hfires
  · rw [State.settle_rd _ _ (by decide) (by decide), State.alarmLogged_rd (by decide), if_neg (by decide), honly.rd _ (by decide),
      State.alarmShown, State.rd_wr_ne _ _ _ _ (hka.ne (by decide)).symm]
    rfl

/-- A code from 0x80 on is an exposure fault. -/
theorem alarm_locksOut (hgood : upGood h = true) {code : BitVec 8} (hhigh : 0x80 ≤ code.toNat) (harmed : s.trsState = 1)
    (detail : BitVec 24) : Completes (.alarm ⟨n, h⟩ code detail) s (fun t =>
      t.rd (R.BTN_DSTAT_ALARM n.val) = code.toNat ∧ t.trsState = 3 ∧ t.rd R.TRS_LASTCAUSE_CAUSE = 0x0103 ∧ t.rd R.TRS_STATE_DARKCMD = 0
        ∧ KeepsMemory s t) := by
  have hexec := exec_alarm (s := s) (n := n) hgood (by omega : code.toNat ≠ 0) detail
  rw [if_neg (by omega), if_neg (by omega)] at hexec
  obtain ⟨-, -, -, hka⟩ := driverKey_dstat n.val
  set v := (s.alarmShown n.val h code.toNat).alarmLogged n.val 3 (alarmDetail code detail) with hv
  have hstate : v.trsState = 1 := by
    rw [hv, State.trsState, State.alarmLogged_rd (by decide), if_neg (by decide), State.alarmShown,
      State.rd_wr_ne _ _ _ _ (hka.ne (by decide)).symm]
    exact harmed
  obtain ⟨hlocked, hdark, -⟩ := State.exposureFault_dark (cause := 0x0103) (by decide) (.inl hstate) n.val
  refine completes_of_done hexec ⟨?_, ?_, ?_, ?_, (execAlarm_only ⟨n, h⟩ code detail s _ hexec).keepsMemory (by decide) (by decide)⟩
  · rw [State.settle_rd _ _ hka.offSummary.1 hka.offSummary.2, (State.trussFault_fault ..).rd _ (hka.offFault (blk_BTN_DSTAT_ALARM _)), hv,
      State.alarmLogged_rd hka.ne_report, if_neg (hka.ne (by decide)), State.alarmShown_rd]
  · rw [State.trsState, State.settle_rd _ _ (by decide) (by decide)]
    exact hlocked
  · rw [State.settle_rd _ _ (by decide) (by decide)]
    exact State.exposureFault_cause (by decide) hstate _
  · rw [State.settle_rd _ _ (by decide) (by decide)]
    exact hdark

/-! ### READDATA (R97) -/

/-- Words stored from an address on. -/
def storedWords (m : List (Nat × Nat)) (addr : Nat) (words : List Word) (k : Nat) : List (Nat × Nat) :=
  (List.range k).foldl (fun m i => mapSet 0 m (addr + i) (words.getD i 0).toNat) m

theorem storedWords_get (m : List (Nat × Nat)) (addr : Nat) (words : List Word) {k i : Nat} (hi : i < k) :
    mapGet 0 (storedWords m addr words k) (addr + i) = (words.getD i 0).toNat := by
  induction k with
  | zero => exact absurd hi (Nat.not_lt_zero i)
  | succ k ih =>
    have hstep : storedWords m addr words (k + 1) = mapSet 0 (storedWords m addr words k) (addr + k) (words.getD k 0).toNat := by
      rw [storedWords, List.range_succ, List.foldl_append]
      rfl
    rw [hstep]
    obtain rfl | hlt := Nat.eq_or_lt_of_le (Nat.le_of_lt_succ hi)
    · exact mapGet_set_same ..
    · rw [mapGet_set_ne _ _ _ _ _ _ (by omega)]
      exact ih hlt

/-- The words are kept. -/
def State.wordsKept (s : State) (n addr : Nat) (words : List Word) : State :=
  s.setDrv n (fun d => { d with words := storedWords d.words addr words words.length })

/-- A word shows in BTN_DID. -/
def State.identityShown (s : State) (n w : Nat) : State :=
  ((s.wr (R.BTN_DID_PROTO n) (bits w 0 8)).wr (R.BTN_DID_ROWSM1 n) (bits w 8 5)).wr (R.BTN_DID_COLSM1 n) (bits w 13 5)

/-- Words from address 0 on begin with the identity. -/
def State.identityTaken (s : State) (n addr : Nat) (words : List Word) : State :=
  if addr = 0 && !words.isEmpty then s.identityShown n (mapGet 0 (s.drv n).words 0) else s

/-- The pass-through latency is taken from word 1 (R97). -/
def State.passTaken (s : State) (n addr : Nat) (words : List Word) : State :=
  if addr ≤ 1 && decide (1 < addr + words.length) then s.setDrv n (fun d => { d with pass := bits (mapGet 0 d.words 1) 0 8 }) else s

/-- The maker's words are logged. -/
def State.makerLogged (s : State) (n addr : Nat) (words : List Word) : State :=
  if addr < 0x100 && decide (3 < addr + words.length) then s.reportFree 9 0xFF 0 n else s

theorem State.takeWords_eq (s : State) (n addr : Nat) (words : List Word) : s.takeWords n addr words =
    (((s.wordsKept n addr words).identityTaken n addr words).passTaken n addr words).makerLogged n addr words := rfl

/-- The fields that show a driver's identity. -/
def identityFlds (n : Nat) : List Fld := [R.BTN_DID_PROTO n, R.BTN_DID_ROWSM1 n, R.BTN_DID_COLSM1 n] ++ reportFlds

theorem State.takeWords_frame (s : State) (n addr : Nat) (words : List Word) : Frame (identityFlds n) s (s.takeWords n addr words) := by
  have hidentity (v : State) : Frame (identityFlds n) v (v.identityTaken n addr words) := by
    unfold State.identityTaken
    split
    · exact (((Frame.refl _ v).wr (by simp [identityFlds])).wr (by simp [identityFlds])).wr (by simp [identityFlds])
    · exact .refl ..
  have hpass (v : State) : Frame (identityFlds n) v (v.passTaken n addr words) := by
    unfold State.passTaken
    split
    · exact (Frame.refl _ v).setDrv ..
    · exact .refl ..
  have hmaker (v : State) : Frame (identityFlds n) v (v.makerLogged n addr words) := by
    unfold State.makerLogged
    split
    · exact (Frame.refl _ v).reportFree _ _ _ _ (List.subset_append_right ..)
    · exact .refl ..
  rw [State.takeWords_eq]
  exact ((((Frame.refl _ s).setDrv ..).trans (hidentity _)).trans (hpass _)).trans (hmaker _)

theorem State.makerLogged_btn (s : State) (n addr : Nat) (words : List Word) : (s.makerLogged n addr words).btn = s.btn := by
  unfold State.makerLogged
  split
  · exact (State.reportFree_only ..).btn.resolve_left (by decide)
  · rfl

/-- The words that a driver's record holds. -/
theorem State.takeWords_words (s : State) (n addr : Nat) (words : List Word) :
    ((s.takeWords n addr words).drv n).words = storedWords (s.drv n).words addr words words.length := by
  have hmaker (v : State) : (v.makerLogged n addr words).drv n = v.drv n :=
    congrArg (fun b : BtnState => mapGet DrvState.zero b.drivers n) (State.makerLogged_btn ..)
  have hpass (v : State) : ((v.passTaken n addr words).drv n).words = (v.drv n).words := by
    unfold State.passTaken
    split
    · rw [State.drv_setDrv]
    · rfl
  have hidentity (v : State) : (v.identityTaken n addr words).drv n = v.drv n := by
    unfold State.identityTaken
    split <;> rfl
  rw [State.takeWords_eq, hmaker, hpass, hidentity, State.wordsKept, State.drv_setDrv]

theorem exec_readdata (hgood : upGood h = true) {words : List Word} (h1 : 1 ≤ words.length) (h20 : words.length ≤ 20) (addr : BitVec 16) :
    exec (.readdata ⟨n, h⟩ addr words) s = ((s.answered n.val h).takeWords n.val addr.toNat words).done :=
  if_pos (by simp [hgood, h1, h20])

theorem readdata_keeps (hgood : upGood h = true) {words : List Word} (h1 : 1 ≤ words.length) (h20 : words.length ≤ 20)
    (addr : BitVec 16) : Completes (.readdata ⟨n, h⟩ addr words) s (fun t =>
      (∀ i, i < words.length → mapGet 0 (t.drv n.val).words (addr.toNat + i) = (words.getD i 0).toNat)
        ∧ Frame ([R.BTN_DID_PROTO n.val, R.BTN_DID_ROWSM1 n.val, R.BTN_DID_COLSM1 n.val] ++ reportFlds) s t) := by
  have hanswer : Frame (identityFlds n.val) s (s.answered n.val h) := (Frame.refl _ s).setDrv ..
  refine completes_of_done (exec_readdata hgood h1 h20 addr) ⟨fun i hi => ?_, (hanswer.trans (State.takeWords_frame ..)).settle⟩
  rw [State.drv, State.settle_btn]
  exact (congrArg (fun m => mapGet 0 m (addr.toNat + i)) (State.takeWords_words ..)).trans (storedWords_get _ _ _ hi)

theorem did_keys (n : Nat) : DriverKey (R.BTN_DID_PROTO n).key ∧ DriverKey (R.BTN_DID_ROWSM1 n).key ∧ DriverKey (R.BTN_DID_COLSM1 n).key
    ∧ (R.BTN_DID_PROTO n).key < (R.BTN_DID_ROWSM1 n).key ∧ (R.BTN_DID_ROWSM1 n).key < (R.BTN_DID_COLSM1 n).key := by
  simp only [R.BTN_DID_PROTO, R.BTN_DID_ROWSM1, R.BTN_DID_COLSM1]
  omega

theorem State.identityShown_rd (s : State) (n w : Nat) : (s.identityShown n w).rd (R.BTN_DID_PROTO n) = w % 256
    ∧ (s.identityShown n w).rd (R.BTN_DID_ROWSM1 n) = w / 256 % 32 ∧ (s.identityShown n w).rd (R.BTN_DID_COLSM1 n) = w / 8192 % 32 := by
  obtain ⟨-, -, -, hpr, hrc⟩ := did_keys n
  refine ⟨?_, ?_, ?_⟩
  · rw [State.identityShown, State.rd_wr_ne _ _ _ _ (by omega), State.rd_wr_ne _ _ _ _ (by omega), State.rd_wr_same]
    show w / 1 % 256 % 256 = _
    omega
  · rw [State.identityShown, State.rd_wr_ne _ _ _ _ (by omega), State.rd_wr_same]
    show w / 256 % 32 % 32 = _
    omega
  · rw [State.identityShown, State.rd_wr_same]
    show w / 8192 % 32 % 32 = _
    omega

/-- A driver's identity is its word 0. -/
theorem readdata_identity (hgood : upGood h = true) (w : Word) : Completes (.readdata ⟨n, h⟩ 0#16 [w]) s (fun t =>
    t.rd (R.BTN_DID_PROTO n.val) = w.toNat % 256 ∧ t.rd (R.BTN_DID_ROWSM1 n.val) = w.toNat / 256 % 32
      ∧ t.rd (R.BTN_DID_COLSM1 n.val) = w.toNat / 8192 % 32) := by
  obtain ⟨hproto, hrows, hcols, -, -⟩ := did_keys n.val
  set v := (s.answered n.val h).wordsKept n.val 0 [w] with hv
  have hword : mapGet 0 (v.drv n.val).words 0 = w.toNat := by
    rw [hv, State.wordsKept, State.drv_setDrv]
    exact storedWords_get _ 0 [w] (k := 1) (i := 0) (by decide)
  have htail : ((s.answered n.val h).takeWords n.val 0 [w]) = (v.identityShown n.val w.toNat).passTaken n.val 0 [w] := by
    rw [State.takeWords_eq, ← hv, State.identityTaken, if_pos (by simp), hword]
    exact if_neg (by simp)
  have hpass (f : Fld) (x : State) : (x.passTaken n.val 0 [w]).rd f = x.rd f := congrArg (State.rd · f) (if_neg (by simp))
  have hrd {f : Fld} (hk : DriverKey f.key) :
      ((s.answered n.val h).takeWords n.val 0 [w]).settle.rd f = (v.identityShown n.val w.toNat).rd f := by
    rw [State.settle_rd _ _ hk.offSummary.1 hk.offSummary.2, htail, hpass]
  obtain ⟨hp, hr, hc⟩ := v.identityShown_rd n.val w.toNat
  exact completes_of_done (exec_readdata hgood (by simp) (by simp) 0#16) ⟨(hrd hproto).trans hp, (hrd hrows).trans hr, (hrd hcols).trans hc⟩

/-! ### Fire reports (R116, R503) -/

/-- What follows a report once its result is taken: the registers outside Peg and the fires that were sent stay. -/
structure ReportClosed (s t : State) : Prop where
  rd   : ∀ f : Fld, blk f.key ≠ 5 → t.rd f = s.rd f
  sent : SentKept s t

theorem State.closeReport (s : State) (o : Option Fire) (r : FireReport) (proof : Bool) (row : Nat) (m : BitVec 32) :
    ReportClosed s ((s.voidReported o r).when proof (·.readmitProven row m)) := by
  have hvoid := s.voidReported_only o r
  have hwhen (v : State) : SentKept v (v.when proof (·.readmitProven row m)) := SentKept.when proof ⟨rfl, rfl, fun _ _ => Iff.rfl⟩
  refine ⟨fun f hf => ?_, (SentKept.of_btn (hvoid.btn.resolve_left (by decide))).trans (hwhen _)⟩
  rw [State.when_keeps (State.rd · f) rfl]
  exact hvoid.rd f ((by decide : ∀ b < 27, b ≠ 5 → Nat.testBit 0x2000000020 b = false) _ (Nat.lt_succ_of_le (blk_le _)) hf)

/-- A report of a fire sent since the last full reset has come: it is compared with what Truss allowed, and its fire is closed. -/
def State.reportTaken (s : State) (n : Nat) (r : FireReport) : State :=
  (match s.sentFire n r.tag.toNat with
    | some f => (s.compareReport n r).proofShown f r
    | none => s.compareReport n r).fireReported n r.tag.toNat

/-- A proof pulse stands behind the report. -/
def State.provesRow (s : State) (n : Nat) (r : FireReport) : Bool :=
  match s.sentFire n r.tag.toNat with
  | some f => f.proof
  | none => false

/-- The report's fire, and what the report says of its row, are closed. -/
def State.reportClosed (s v : State) (n : Nat) (r : FireReport) (m : BitVec 32) : State :=
  (v.voidReported (s.sentFire n r.tag.toNat) r).when (s.provesRow n r) (·.readmitProven (32 * n + r.row.toNat) m)

/-- What a report leaves, by its result (R116). -/
def State.reportResult (s : State) (n : Nat) (r : FireReport) : Nat → State
  | 0 => s.reportClosed (s.reportTaken n r) n r 0
  | 1 => (s.reportTaken n r).voidReported (s.sentFire n r.tag.toNat) r
  | 2 => s.reportClosed ((s.reportTaken n r).columnsFail (32 * n + r.row.toNat) r.cmask) n r r.cmask
  | 3 => s.reportClosed (((s.reportTaken n r).trussFault 0x0101 n).columnsFail (32 * n + r.row.toNat) r.cmask) n r r.cmask
  | 4 => ((s.reportTaken n r).voidReported (s.sentFire n r.tag.toNat) r).fault R.BTN_INTSTAT_LATE 1 n
  | 5 => (s.reportTaken n r).voidReported (s.sentFire n r.tag.toNat) r
  | _ => ((s.reportTaken n r).voidReported (s.sentFire n r.tag.toNat) r).fault R.BTN_INTSTAT_REJECT 1 n

theorem State.newReport_eq (s : State) (n : Nat) (r : FireReport) : s.newReport n r = s.reportResult n r r.result.toNat := rfl

/-- A report that names no emitter and no current closes its fire; LATE and REJECT are flagged. -/
theorem State.newReport_plain {n : Nat} {r : FireReport} (h2 : r.result.toNat ≠ 2) (h3 : r.result.toNat ≠ 3) :
    ∃ v, ReportClosed (s.reportTaken n r) v ∧
      ((s.newReport n r = v ∧ r.result.toNat ≠ 4 ∧ r.result.toNat < 6)
        ∨ (s.newReport n r = v.fault R.BTN_INTSTAT_LATE 1 n ∧ r.result.toNat = 4)
        ∨ (s.newReport n r = v.fault R.BTN_INTSTAT_REJECT 1 n ∧ 6 ≤ r.result.toNat)) := by
  have hvoid : ReportClosed (s.reportTaken n r) ((s.reportTaken n r).voidReported (s.sentFire n r.tag.toNat) r) :=
    State.closeReport _ _ r false 0 0
  have hlt : r.result.toNat < 8 := r.result.isLt
  have hcases : r.result.toNat = 0 ∨ r.result.toNat = 1 ∨ r.result.toNat = 4 ∨ r.result.toNat = 5 ∨ r.result.toNat = 6
      ∨ r.result.toNat = 7 := by omega
  rw [State.newReport_eq]
  rcases hcases with hk | hk | hk | hk | hk | hk
  · rw [hk]
    exact ⟨_, State.closeReport .., .inl ⟨rfl, by decide⟩⟩
  · rw [hk]
    exact ⟨_, hvoid, .inl ⟨rfl, by decide⟩⟩
  · rw [hk]
    exact ⟨_, hvoid, .inr (.inl ⟨rfl, rfl⟩)⟩
  · rw [hk]
    exact ⟨_, hvoid, .inl ⟨rfl, by decide⟩⟩
  · rw [hk]
    exact ⟨_, hvoid, .inr (.inr ⟨rfl, by decide⟩)⟩
  · rw [hk]
    exact ⟨_, hvoid, .inr (.inr ⟨rfl, by decide⟩)⟩

/-! ### What a report has left once it is taken -/

theorem State.setProof_sent (s : State) (burst : Nat) (f : ProofCycle → ProofCycle) : SentKept s (s.setProof burst f) := by
  unfold State.setProof
  split
  · exact .refl s
  · dsimp only
    split <;> exact ⟨rfl, rfl, fun _ _ => Iff.rfl⟩

theorem State.proofShown_sent (s : State) (f : Fire) (r : FireReport) : SentKept s (s.proofShown f r) := by
  unfold State.proofShown
  split
  · exact SentKept.foldl (fun t _ _ => State.setProof_sent ..) s
  · exact .refl s

theorem State.compareReport_sent (s : State) (n : Nat) (r : FireReport) : SentKept s (s.compareReport n r) := by
  unfold State.compareReport
  dsimp only
  split
  · exact State.trussFault_sent ..
  · exact .refl s

theorem State.compareReport_fault (s : State) (n : Nat) (r : FireReport) : Spares OffFault s (s.compareReport n r) := by
  unfold State.compareReport
  dsimp only
  split
  · exact State.trussFault_fault ..
  · exact .refl ..

/-- A column that Truss did not allow locks it out (R303). -/
theorem State.compareReport_trsState (harmed : s.trsState = 1 ∨ s.trsState = 3) (n : Nat) (r : FireReport) :
    (s.compareReport n r).trsState = 1 ∨ (s.compareReport n r).trsState = 3 := by
  unfold State.compareReport
  dsimp only
  split
  · exact .inr (State.exposureFault_dark (cause := 0x0104) (by decide) harmed n).1
  · exact harmed

/-- The report's fire leaves the schedule behind the comparison, and a proof pulse is noted. -/
theorem State.reportTaken_eq (s : State) (n : Nat) (r : FireReport) : ∃ v, s.reportTaken n r = v.fireReported n r.tag.toNat
    ∧ SentKept (s.compareReport n r) v ∧ Only 0x1000000000 (s.compareReport n r) v := by
  unfold State.reportTaken
  split
  · exact ⟨_, rfl, State.proofShown_sent .., State.proofShown_only ..⟩
  · exact ⟨_, rfl, .refl _, .refl ..⟩

theorem State.reportTaken_rd (s : State) (n : Nat) (r : FireReport) (f : Fld) :
    (s.reportTaken n r).rd f = (s.compareReport n r).rd f := by
  obtain ⟨v, hv, -, honly⟩ := s.reportTaken_eq n r
  rw [hv]
  exact honly.rd f (no_blk (by decide) _)

theorem State.reportTaken_fault (s : State) (n : Nat) (r : FireReport) {f : Fld} (hf : OffFault f.key) :
    (s.reportTaken n r).rd f = s.rd f := (s.reportTaken_rd n r f).trans ((s.compareReport_fault n r).rd f hf)

theorem State.reportTaken_drv (s : State) (n k : Nat) (r : FireReport) : (s.reportTaken n r).drv k = s.drv k := by
  obtain ⟨v, hv, hsent, -⟩ := s.reportTaken_eq n r
  rw [hv]
  exact ((s.compareReport_sent n r).trans hsent).drv k

/-- No fire that was sent bears a driver's tag. -/
def TagClosed (n tag : Nat) (s : State) : Prop := ∀ f ∈ s.btn.fires, ¬(f.driver = n ∧ f.tag = tag ∧ f.stage = .sent)

theorem TagClosed.sent {n tag : Nat} (hs : TagClosed n tag s) (hk : SentKept s t) : TagClosed n tag t := fun f hf hof =>
  hs f ((hk.sent f hof.2.2).mp hf) hof

theorem State.reportTaken_closed (s : State) (n : Nat) (r : FireReport) : TagClosed n r.tag.toNat (s.reportTaken n r) := by
  obtain ⟨v, hv, -, -⟩ := s.reportTaken_eq n r
  rw [hv]
  intro f hf hof
  have hkept := (List.mem_filter.mp hf).2
  simp [hof] at hkept

/-! ### One report in a frame -/

theorem exec_report (hgood : upGood h = true) (r : FireReport) :
    exec (.report ⟨n, h⟩ [r]) s = ((s.answered n.val h).fireReport n.val r).done := if_pos (by simp [hgood])

theorem exec_newReport (hgood : upGood h = true) {r : FireReport} (hpre : s.btn.preReset.contains (n.val, r.tag.toNat) = false) :
    exec (.report ⟨n, h⟩ [r]) s = ((s.answered n.val h).newReport n.val r).done :=
  (exec_report hgood r).trans (congrArg State.done (if_neg (by
    show ¬ s.btn.preReset.contains (n.val, r.tag.toNat) = true
    rw [hpre]
    decide)))

theorem report_keepsMemory {r : FireReport} (hexec : exec (.report ⟨n, h⟩ [r]) s = u.done) : KeepsMemory s u.settle :=
  (execReport_only ⟨n, h⟩ [r] s _ hexec).keepsMemory (by decide) (by decide)

theorem emfail_offSummary (row : Nat) : OffSummary (R.BTN_EMFAIL_FAIL row).key := by
  unfold OffSummary R.BTN_EMFAIL_FAIL R.GLB_INTCTL_ARMED
  dsimp only
  omega

theorem State.answered_drv (s : State) (n : Nat) (h : UpHead) : ((s.answered n h).drv n).missCw = 0 := by
  rw [State.answered, State.drv_setDrv]

/-- The rest of a report leaves what its columns' failure left. -/
theorem State.reportClosed_closed (s v : State) (n : Nat) (r : FireReport) (m : BitVec 32) : ReportClosed v (s.reportClosed v n r m) :=
  State.closeReport ..

/-- Columns short or open are declared failed, and the fire is closed. -/
theorem report_fails (hgood : upGood h = true) {r : FireReport} (hpre : s.btn.preReset.contains (n.val, r.tag.toNat) = false)
    (h2 : r.result.toNat = 2) (hword : s.rd (R.BTN_EMFAIL_FAIL (32 * n.val + r.row.toNat)) < 2 ^ 32) :
    Completes (.report ⟨n, h⟩ [r]) s (fun t =>
      t.rd (R.BTN_EMFAIL_FAIL (32 * n.val + r.row.toNat)) = s.rd (R.BTN_EMFAIL_FAIL (32 * n.val + r.row.toNat)) ||| r.cmask.toNat
        ∧ (r.cmask ≠ 0 → t.rd R.BTN_INTSTAT_EMFAULT = 1)
        ∧ (∀ f ∈ t.btn.fires, ¬(f.driver = n.val ∧ f.tag = r.tag.toNat ∧ f.stage = .sent)) ∧ (t.drv n.val).missCw = 0
        ∧ KeepsMemory s t) := by
  have hexec := exec_newReport hgood hpre
  rw [State.newReport_eq, h2] at hexec
  set v := ((s.answered n.val h).reportTaken n.val r).columnsFail (32 * n.val + r.row.toNat) r.cmask with hv
  obtain ⟨hrd, hsent⟩ : ReportClosed v ((s.answered n.val h).reportResult n.val r 2) := State.reportClosed_closed ..
  have hcols : SentKept ((s.answered n.val h).reportTaken n.val r) v := State.columnsFail_sent ..
  have hstart : ((s.answered n.val h).reportTaken n.val r).rd (R.BTN_EMFAIL_FAIL (32 * n.val + r.row.toNat))
      = s.rd (R.BTN_EMFAIL_FAIL (32 * n.val + r.row.toNat)) := State.reportTaken_fault _ _ _ (emfail_offFault _)
  refine completes_of_done hexec ⟨?_, fun hm => ?_, ?_, ?_, report_keepsMemory hexec⟩
  · rw [State.settle_rd _ _ (emfail_offSummary _).1 (emfail_offSummary _).2, hrd _ (by rw [blk_BTN_EMFAIL_FAIL]; decide), hv,
      State.columnsFail_rd _ _ _ (hstart.symm ▸ hword), hstart]
  · rw [State.settle_rd _ _ (by decide) (by decide), hrd _ (by decide)]
    exact State.columnsFail_flags hm ..
  · rw [State.settle_btn]
    exact TagClosed.sent (State.reportTaken_closed _ _ _) (hcols.trans hsent)
  · have hdrv := (hcols.trans hsent).drv n.val
    rw [State.drv, State.settle_btn]
    exact (congrArg DrvState.missCw (hdrv.trans (State.reportTaken_drv ..))).trans (State.answered_drv ..)

/-- A current too high is an exposure fault besides. -/
theorem report_locksOut (hgood : upGood h = true) {r : FireReport} (hpre : s.btn.preReset.contains (n.val, r.tag.toNat) = false)
    (h3 : r.result.toNat = 3) (harmed : s.trsState = 1) (hword : s.rd (R.BTN_EMFAIL_FAIL (32 * n.val + r.row.toNat)) < 2 ^ 32) :
    Completes (.report ⟨n, h⟩ [r]) s (fun t =>
      t.trsState = 3 ∧ t.rd R.TRS_STATE_DARKCMD = 0
        ∧ t.rd (R.BTN_EMFAIL_FAIL (32 * n.val + r.row.toNat)) = s.rd (R.BTN_EMFAIL_FAIL (32 * n.val + r.row.toNat)) ||| r.cmask.toNat
        ∧ KeepsMemory s t) := by
  have hexec := exec_newReport hgood hpre
  rw [State.newReport_eq, h3] at hexec
  set u := (s.answered n.val h).reportTaken n.val r with hu
  set v := (u.trussFault 0x0101 n.val).columnsFail (32 * n.val + r.row.toNat) r.cmask with hv
  obtain ⟨hrd, -⟩ : ReportClosed v ((s.answered n.val h).reportResult n.val r 3) := State.reportClosed_closed ..
  have hcols : Only 0x8003000800820 (u.trussFault 0x0101 n.val) v := State.columnsFail_only ..
  have hstate : u.trsState = 1 ∨ u.trsState = 3 := by
    rw [hu, State.trsState, State.reportTaken_rd]
    exact State.compareReport_trsState (s := s.answered n.val h) (.inl harmed) n.val r
  obtain ⟨hlocked, hdark, -⟩ := State.exposureFault_dark (cause := 0x0101) (by decide) hstate n.val
  have hstart : (u.trussFault 0x0101 n.val).rd (R.BTN_EMFAIL_FAIL (32 * n.val + r.row.toNat))
      = s.rd (R.BTN_EMFAIL_FAIL (32 * n.val + r.row.toNat)) :=
    ((State.trussFault_fault ..).rd _ (emfail_offFault _)).trans (State.reportTaken_fault _ _ _ (emfail_offFault _))
  refine completes_of_done hexec ⟨?_, ?_, ?_, report_keepsMemory hexec⟩
  · rw [State.trsState, State.settle_rd _ _ (by decide) (by decide), hrd _ (by decide), hcols.rd _ (by decide)]
    exact hlocked
  · rw [State.settle_rd _ _ (by decide) (by decide), hrd _ (by decide), hcols.rd _ (by decide)]
    exact hdark
  · rw [State.settle_rd _ _ (emfail_offSummary _).1 (emfail_offSummary _).2, hrd _ (by rw [blk_BTN_EMFAIL_FAIL]; decide), hv,
      State.columnsFail_rd _ _ _ (hstart.symm ▸ hword), hstart]

/-- Any other result closes the fire; LATE and REJECT are flagged. -/
theorem report_closes (hgood : upGood h = true) {r : FireReport} (hpre : s.btn.preReset.contains (n.val, r.tag.toNat) = false)
    (h2 : r.result.toNat ≠ 2) (h3 : r.result.toNat ≠ 3) : Completes (.report ⟨n, h⟩ [r]) s (fun t =>
      (r.result.toNat = 4 → t.rd R.BTN_INTSTAT_LATE = 1) ∧ (6 ≤ r.result.toNat → t.rd R.BTN_INTSTAT_REJECT = 1)
        ∧ (∀ f ∈ t.btn.fires, ¬(f.driver = n.val ∧ f.tag = r.tag.toNat ∧ f.stage = .sent)) ∧ KeepsMemory s t) := by
  have hexec := exec_newReport hgood hpre
  have hmemory := report_keepsMemory hexec
  have hflag (v : State) (f : Fld) (hw : f.width = 1) (hs : OffSummary f.key)
      (hr : f.key ≠ R.FLT_OVERFLOW_CNT.key ∧ f.key ≠ R.FLT_INTSTAT_OVERFLOW.key) : (v.fault f 1 n.val).settle.rd f = 1 := by
    rw [State.settle_rd _ _ hs.1 hs.2, State.fault_rd _ _ _ _ _ hr.1 hr.2, if_pos rfl, hw]
    rfl
  obtain ⟨v, ⟨-, hsent⟩, hv⟩ := (s.answered n.val h).newReport_plain (n := n.val) h2 h3
  have hclosed : TagClosed n.val r.tag.toNat v := TagClosed.sent (State.reportTaken_closed _ _ _) hsent
  rcases hv with ⟨hv, h4, h6⟩ | ⟨hv, h4⟩ | ⟨hv, h6⟩
  · rw [hv] at hexec hmemory
    refine completes_of_done hexec ⟨fun hr => absurd hr h4, fun hr => absurd hr (by omega), ?_, hmemory⟩
    rw [State.settle_btn]
    exact hclosed
  · rw [hv] at hexec hmemory
    refine completes_of_done hexec ⟨fun _ => hflag _ _ rfl (by decide) (by decide), fun hr => absurd hr (by omega), ?_, hmemory⟩
    rw [State.settle_btn, State.fault_btn]
    exact hclosed
  · rw [hv] at hexec hmemory
    refine completes_of_done hexec ⟨fun hr => absurd hr (by omega), fun _ => hflag _ _ rfl (by decide) (by decide), ?_, hmemory⟩
    rw [State.settle_btn, State.fault_btn]
    exact hclosed

/-- What the report of a fire sent before the last full reset leaves of the fires. -/
theorem State.oldReport_sent (s : State) (n : Nat) (r : FireReport) :
    SentKept ((s.compareReport n r).oldReported n r.tag.toNat) (s.oldReport n r) := by
  unfold State.oldReport
  dsimp only
  split
  · exact .refl _
  · exact .refl _
  · exact State.columnsFail_sent ..
  · exact (State.trussFault_sent ..).trans (State.columnsFail_sent ..)
  · exact .of_btn (State.fault_btn ..)
  · exact .of_btn ((State.reportFree_only ..).btn.resolve_left (by decide))
  · exact .of_btn (State.fault_btn ..)

/-- It is awaited no longer, and touches no newer fire (R503). -/
theorem report_ofOld (hgood : upGood h = true) {r : FireReport} (hpre : s.btn.preReset.contains (n.val, r.tag.toNat) = true) :
    Completes (.report ⟨n, h⟩ [r]) s (fun t =>
      (n.val, r.tag.toNat) ∉ t.btn.preReset ∧ (∀ f ∈ s.btn.fires, f.stage = .sent → f ∈ t.btn.fires) ∧ KeepsMemory s t) := by
  have hexec : exec (.report ⟨n, h⟩ [r]) s = ((s.answered n.val h).oldReport n.val r).done :=
    (exec_report hgood r).trans (congrArg State.done (if_pos hpre))
  have hcompare := (s.answered n.val h).compareReport_sent n.val r
  have hold := (s.answered n.val h).oldReport_sent n.val r
  refine completes_of_done hexec ⟨?_, fun f hf hs => ?_, report_keepsMemory hexec⟩
  · rw [State.settle_btn, hold.preReset]
    intro hin
    have hkept := (List.mem_filter.mp hin).2
    simp at hkept
  · rw [State.settle_btn]
    exact (hold.sent f hs).mpr ((hcompare.sent f hs).mpr hf)

end

/-- Settles O19: each upstream frame by what it leaves before and behind the fault of Truss that it may bring. -/
theorem battenHearsDrivers : Obligations.BattenHearsDrivers :=
  ⟨fun _ _ _ _ hgood hcap => status_completes hgood hcap, fun _ _ _ _ hgood hcap harmed => status_locksOut hgood hcap harmed,
    fun _ _ _ _ hgood hpre h2 hword => report_fails hgood hpre h2 hword,
    fun _ _ _ _ hgood hpre h2 h3 => report_closes hgood hpre h2 h3,
    fun _ _ addr _ _ hgood h1 h20 => readdata_keeps hgood h1 h20 addr, fun _ _ w _ hgood => readdata_identity hgood w,
    fun _ _ _ detail _ hgood h0 hlow => alarm_advises hgood h0 hlow detail,
    fun _ _ _ detail _ hgood hlow hhigh => alarm_stops hgood hlow hhigh detail,
    fun _ _ _ detail _ hgood hhigh harmed => alarm_locksOut hgood hhigh harmed detail,
    fun _ _ _ _ hgood hpre h3 harmed hword => report_locksOut hgood hpre h3 harmed hword,
    fun _ _ _ _ hgood hpre => report_ofOld hgood hpre, fun _ _ p _ hbad => completes_of_upBad (status_bad hbad p),
    fun _ _ _ _ hbad => completes_of_upBad (report_bad hbad),
    fun _ _ code detail _ hbad => completes_of_upBad (alarm_bad hbad code detail)⟩

end Sys2Proof.Machine
end

section
/-!
Bursts in Peg's record and in Mortise (R125, R171 to R182): what a burst's number finds after each change, and what of a burst its matching
leaves as it was planned.
-/
namespace Sys2Proof.Machine

/-! ### Bursts by their number -/

theorem State.num_of_burst {s : State} {n : Nat} {x : Burst} (h : s.burst n = some x) : x.num = n := by
  simpa using List.find?_some h

/-- A number finds the same burst in the same list. -/
theorem State.burst_congr {s t : State} (h : t.peg.bursts = s.peg.bursts) (n : Nat) : t.burst n = s.burst n := by
  rw [State.burst, State.burst, h]

/-- A change of a burst that keeps its number is what its number finds. -/
theorem State.burst_setBurst {s : State} {n : Nat} {x : Burst} {f : Burst → Burst} (h : s.burst n = some x)
    (hf : ∀ y : Burst, y.num = n → (f y).num = n) : (s.setBurst n f).burst n = some (f x) := by
  have hx := State.num_of_burst h
  have hnum : ((fun y : Burst => y.num == n) ∘ fun y => if y.num == n then f y else y) = fun y => y.num == n := by
    funext y
    by_cases hy : y.num = n <;> simp [hy, hf]
  show (List.map (fun y : Burst => if y.num == n then f y else y) s.peg.bursts).find? _ = _
  rw [List.find?_map, hnum]
  show Option.map _ (s.burst n) = _
  rw [h, Option.map_some, if_pos (by simp [hx])]

theorem State.burst_dropBurst (s : State) (n : Nat) : (s.dropBurst n).burst n = none := by
  refine List.find?_eq_none.mpr fun y hy => ?_
  simpa using (List.mem_filter.mp hy).2

/-- The summary message leaves the bursts alone. -/
@[simp] theorem State.settle_burst (s : State) (n : Nat) : s.settle.burst n = s.burst n :=
  State.burst_congr (by rw [State.settle_peg]) n

/-! ### What matching keeps of a burst (R171, R175 to R182) -/

/-- A burst as it was planned: without what its matching, its sieve, its fill and its close write. -/
def Burst.planned (b : Burst) : Burst :=
  { b with stage := .open, coarse := [], windows := [], sieved := false, placed := none, svScout := 0, lam := 0, thr := 0, npos := 0
           cands := [], ndrop := 0, spare := false, filled := false, rflags := 0, closeT := 0 }

theorem Burst.num_of_planned {x y : Burst} (h : y.planned = x.planned) : y.num = x.num := (congrArg Burst.num h :)

theorem Burst.sieve_planned (b : Burst) (c : EpochCfg) : (b.sieve c).planned = b.planned := rfl

theorem Burst.matchShot_planned (b : Burst) (e : BackEvent) (direct : Bool) (j : Nat) :
    (b.matchShot e direct j).planned = b.planned := by
  unfold Burst.matchShot
  split
  · split
    · rfl
    · extract_lets b1 inWin b2 counted
      have h1 : b1.planned = b.planned := by
        unfold b1
        split <;> rfl
      have h2 : b2.planned = b1.planned := by
        unfold b2
        split <;> rfl
      exact h2.trans h1
  · rfl

theorem Burst.matchEvent_planned (b : Burst) (e : BackEvent) (direct : Bool) : (b.matchEvent e direct).planned = b.planned := by
  unfold Burst.matchEvent
  split
  · exact List.foldlRecOn (motive := fun y : Burst => y.planned = b.planned) _ _ rfl
      fun y hy j _ => (y.matchShot_planned e direct j).trans hy
  · rfl

theorem Burst.fill_planned (b : Burst) (ring entries : List BackEvent) (p : Nat) : (b.fill ring entries p).planned = b.planned := by
  unfold Burst.fill
  exact List.foldlRecOn (motive := fun y : Burst => y.planned = b.planned) _ _ rfl
    fun y hy e _ => (y.matchEvent_planned e false).trans hy

theorem Burst.fill_num (b : Burst) (ring entries : List BackEvent) (p : Nat) : (b.fill ring entries p).num = b.num :=
  Burst.num_of_planned (b.fill_planned ring entries p)

end Sys2Proof.Machine
end

section
/-!
The scout end and the retroactive fill (R175 to R181).
-/
namespace Sys2Proof.Machine

section
variable {b p : Nat} {x : Burst} {s : State}

/-! ### SCOUT_END (R179) -/

/-- The bursts are the same once the sieve's results are counted. -/
theorem State.countSieve_peg (s : State) (y : Burst) : (s.countSieve y).peg = s.peg :=
  (State.countSieve_only s y).peg.resolve_left (by decide)

/-- A listen burst's candidates change the foreign flags alone. -/
theorem State.listenHit_peg (s : State) (y : Burst) : ∃ l, (s.listenHit y).peg = { s.peg with foreign := l } := by
  unfold State.listenHit
  split
  · exact ⟨s.peg.foreign, rfl⟩
  · exact ⟨_, rfl⟩

/-- A burst as its sieve leaves it, with the place of its windows (R175 to R179). -/
def State.sievedBurst (s : State) (x : Burst) (placed : Option Nat) : Burst :=
  { x.sieve (s.epochCfg x.epoch) with placed := placed }

/-- Beside the foreign flags the sieve changes the burst of its number alone. -/
theorem State.runSieve_peg (s : State) (x : Burst) (placed : Option Nat) :
    ∃ l, (s.runSieve x placed).peg = { (s.setBurst x.num (fun _ => s.sievedBurst x placed)).peg with foreign := l } := by
  unfold State.runSieve
  extract_lets _ y u
  have hu : u.peg = (s.setBurst x.num (fun _ => y)).peg := State.countSieve_peg ..
  split
  · obtain ⟨l, hl⟩ := State.listenHit_peg u y
    exact ⟨l, by rw [hl, hu]; rfl⟩
  · exact ⟨_, hu⟩

theorem State.runSieve_burst (h : s.burst b = some x) (placed : Option Nat) :
    (s.runSieve x placed).burst b = some (s.sievedBurst x placed) := by
  obtain rfl := State.num_of_burst h
  obtain ⟨l, hl⟩ := State.runSieve_peg s x placed
  exact (State.burst_congr (congrArg PegState.bursts hl :) _).trans
    (State.burst_setBurst (f := fun _ => s.sievedBurst x placed) h fun _ _ => rfl)

theorem exec_scoutEnd_of_open (h : s.burst b = some x) (hopen : x.stage = .open) (hsieved : x.sieved = false) (haim : x.s < x.k) :
    ∃ c, exec (.scoutEnd b) s = ((s.runSieve x (some (s.nowLsb + 4096))).when c (·.bump R.MRT_FILLWAIT_CNT 1)).done := by
  let u := s.runSieve x (some (s.nowLsb + 4096))
  refine ⟨((u.burst b).map (·.windows.length)).getD 0 != 0 && u.fillBusy x (s.nowLsb + 4096), ?_⟩
  show execScoutEnd b s = _
  rw [execScoutEnd, h]
  exact if_pos (by simp [hopen, hsieved, haim])

theorem scoutEnd_places (h : s.burst b = some x) (hopen : x.stage = .open) (hsieved : x.sieved = false) (haim : x.s < x.k) :
    Completes (.scoutEnd b) s (fun t =>
      t.burst b = some { (x.sieve (s.epochCfg x.epoch)) with placed := some (s.nowLsb + 4096) } ∧ t.jnl = s.jnl ∧ t.btn = s.btn
        ∧ KeepsMemory s t) := by
  obtain ⟨c, hexec⟩ := exec_scoutEnd_of_open h hopen hsieved haim
  have honly := execScoutEnd_only b s _ hexec
  refine completes_of_done hexec ⟨?_, honly.jnl.resolve_left (by decide), honly.btn.resolve_left (by decide),
    honly.keepsMemory (by decide) (by decide)⟩
  rw [State.settle_burst, ← State.sievedBurst, ← State.runSieve_burst h]
  exact State.when_keeps (fun u => u.burst b) rfl

/-- A command without an effect leaves Peg's record and everything else. -/
theorem completes_without_effect {c : Instr} (h : exec c s = s.done) : Completes c s (fun t => t.peg = s.peg ∧ Frame [] s t) :=
  completes_of_done h ⟨State.settle_peg s, (Frame.refl ..).settle⟩

theorem scoutEnd_passes (h : s.burst b = some x) (hno : x.stage ≠ .open ∨ x.sieved = true ∨ x.k ≤ x.s) :
    Completes (.scoutEnd b) s (fun t => t.peg = s.peg ∧ Frame [] s t) := by
  refine completes_without_effect ?_
  show execScoutEnd b s = _
  rw [execScoutEnd, h]
  refine if_neg fun hyes => ?_
  simp only [Bool.and_eq_true, beq_iff_eq, Bool.not_eq_true', decide_eq_true_eq] at hyes
  obtain ⟨⟨hopen, hsieved⟩, haim⟩ := hyes
  rcases hno with hno | hno | hno
  · exact hno hopen
  · simp [hsieved] at hno
  · omega

/-! ### RETROACTIVE_FILL (R180, R181) -/

theorem retroactiveFill_fills (h : s.burst b = some x) (hopen : x.stage = .open) (hplaced : x.placed = some p)
    (hfilled : x.filled = false) (hbusy : s.fillBusy x p = false) : Completes (.retroactiveFill b ()) s (fun t =>
      t.burst b = some
        { x.fill (s.backlog x.channel) ((s.backlog x.channel).filter (fun e => decide (e.deliver < p))) (p - x.epoch0) with filled := true }
        ∧ Frame [R.MRT_WRAPWIN_CNT] s t) := by
  let y : Burst :=
    { x.fill (s.backlog x.channel) ((s.backlog x.channel).filter (fun e => decide (e.deliver < p))) (p - x.epoch0) with filled := true }
  have hexec : exec (.retroactiveFill b ()) s
      = ((s.setBurst b (fun _ => y)).when (y.wrapped != 0) (·.bump R.MRT_WRAPWIN_CNT y.wrapped)).done := by
    show execRetroactiveFill b () s = _
    rw [execRetroactiveFill, h]
    dsimp only
    rw [hplaced]
    exact if_pos (by simp [hopen, hfilled, hbusy])
  have hnum : y.num = b := (x.fill_num ..).trans (State.num_of_burst h)
  refine completes_of_done hexec ⟨?_, Frame.settle (((Frame.refl ..).trans ?_).when _ ((Frame.refl ..).bump List.mem_cons_self))⟩
  · rw [State.settle_burst, ← State.burst_setBurst (f := fun _ => y) h fun _ _ => hnum]
    exact State.when_keeps (fun u => u.burst b) rfl
  · exact Frame.of_only (State.setBurst_only ..) (by decide) (by decide) (by decide)

theorem retroactiveFill_waits (h : s.burst b = some x) (hplaced : x.placed = some p) (hno : x.filled = true ∨ s.fillBusy x p = true) :
    Completes (.retroactiveFill b ()) s (fun t => t.peg = s.peg ∧ Frame [] s t) := by
  refine completes_without_effect ?_
  show execRetroactiveFill b () s = _
  rw [execRetroactiveFill, h]
  dsimp only
  rw [hplaced]
  exact if_neg (by rcases hno with hno | hno <;> simp [hno])

end

end Sys2Proof.Machine
end

section
/-!
Bursts that are over (R193, R201, R212, R213, R230): whatever follows on a close keeps the tags in use and opens no burst.
-/
namespace Sys2Proof.Machine

/-- The tags in use are the same, and every burst that is open was open before. -/
structure OpensNone (s t : State) : Prop where
  tags  : t.peg.tags = s.peg.tags
  opens : ∀ y ∈ t.peg.bursts, y.stage = .open → y ∈ s.peg.bursts

section
variable {s u t : State}

theorem OpensNone.of_peg (h : t.peg = s.peg) : OpensNone s t := ⟨by rw [h], fun y hy _ => h ▸ hy⟩

theorem OpensNone.refl (s : State) : OpensNone s s := .of_peg rfl

theorem OpensNone.trans (h : OpensNone s u) (h' : OpensNone u t) : OpensNone s t :=
  ⟨h'.tags.trans h.tags, fun y hy ho => h.opens y (h'.opens y hy ho) ho⟩

/-- One more operation, which leaves Peg's record alone. -/
theorem OpensNone.app {m : Nat} (h : OpensNone s u) (ho : Only m u t) (hm : m.testBit 37 = false) : OpensNone s t :=
  h.trans (.of_peg (ho.peg.resolve_left (by simp [hm])))

/-- Bursts that are set to another stage than open. -/
theorem State.setBurst_opensNone (s : State) (n : Nat) {f : Burst → Burst} (hf : ∀ y, (f y).stage ≠ .open) :
    OpensNone s (s.setBurst n f) := by
  refine ⟨rfl, fun y hy ho => ?_⟩
  obtain ⟨z, hz, rfl⟩ := List.mem_map.mp hy
  by_cases hn : (z.num == n) = true
  · exact absurd ho (by rw [if_pos hn]; exact hf z)
  · rwa [if_neg hn]

theorem State.dropBurst_opensNone (s : State) (n : Nat) : OpensNone s (s.dropBurst n) :=
  ⟨rfl, fun _ hy _ => (List.mem_filter.mp hy).1⟩

/-! ### The journal settles (R230) -/

/-- Of Peg's record the commit of a burst takes the burst. -/
theorem State.commitBurst_peg (s : State) (h : Handed) : (s.commitBurst h).1.peg = (s.dropBurst h.burst).peg := by
  unfold State.commitBurst
  dsimp only
  split
  · rfl
  · split
    · simp [State.dropBurst]
    · split
      · simp [State.bump, State.dropBurst]
      · rw [State.commitRecs_peg, State.judgeFull_peg]
        rfl

theorem State.drainJnl_opensNone (n : Nat) (s : State) : OpensNone s (s.drainJnl n).1 := by
  induction n generalizing s with
  | zero => exact .refl s
  | succ n ih =>
    unfold State.drainJnl
    split
    · exact .refl s
    · exact (OpensNone.of_peg (State.commitMarker_peg ..)).trans (ih _)
    · exact ((s.dropBurst_opensNone _).trans (.of_peg (State.commitBurst_peg ..))).trans (ih _)

theorem State.settleJnl_opensNone (s : State) : OpensNone s s.settleJnl := by
  have hcover (v : State) (h : Handed) : ((v.lbkCover h).dogPoints h).peg = v.peg := by
    rw [State.dogPoints_peg, (State.lbkCover_only v h).peg.resolve_left (by decide)]
  exact ((s.drainJnl_opensNone _).app (State.heldStatus_only _) (by decide)).trans
    (.of_peg (foldl_keeps State.peg hcover _ _))

theorem State.endBurst_opensNone (s : State) (n : Nat) : OpensNone s (s.endBurst n) :=
  (s.dropBurst_opensNone n).trans (State.settleJnl_opensNone _)

/-! ### Dispatch (R193, R212 to R215) -/

/-- A burst as the item that an engine takes (R193, R199). -/
def Burst.onEngine (b : Burst) (e : Nat) : Burst :=
  { b with stage := .running, engine := some e, spareCl := decide (1024 ≤ e), rflags := b.rflagsFor (decide (1024 ≤ e)) }

theorem State.startItem_peg (s : State) (y : Burst) (e : Nat) :
    (s.startItem y e).peg = (s.setBurst y.num (fun _ => y.onEngine e)).peg := rfl

theorem State.startItem_opensNone (s : State) (y : Burst) (e : Nat) : OpensNone s (s.startItem y e) :=
  (s.setBurst_opensNone y.num (f := fun _ => y.onEngine e) fun _ => BurstStage.noConfusion).trans (.of_peg (s.startItem_peg y e))

theorem State.dropItem_opensNone (s : State) (y : Burst) : OpensNone s (s.dropItem y) := by
  have hcounted : (((s.bump R.JST_DROPITEM_CNT 1).fault R.JST_INTSTAT_DROPITEM 3 y.channel).tallyDropped y.frame).peg = s.peg := by
    rw [(State.tallyDropped_only ..).peg.resolve_left (by decide), State.fault_peg]
    rfl
  exact (OpensNone.of_peg hcounted).trans (State.endBurst_opensNone ..)

theorem State.reRun_opensNone (s : State) (n : Nat) (spare : Bool) : OpensNone s (s.reRun n spare) := by
  unfold State.reRun
  split
  · exact .refl s
  · next b _ =>
    split
    · extract_lets _ v
      have hv : OpensNone s v := by
        refine (OpensNone.trans ?_ (State.setBurst_opensNone _ n fun _ => BurstStage.noConfusion)).app (State.countHeld_only _) (by decide)
        exact .of_peg rfl
      split
      · exact hv.trans (State.startItem_opensNone ..)
      · exact hv.trans (.of_peg (State.fault_peg ..))
    · exact s.dropItem_opensNone b

theorem State.engineFault_opensNone (s : State) (e : Nat) (inj : Bool) : OpensNone s (s.engineFault e inj) := by
  unfold State.engineFault
  extract_lets item s1 s2
  have h1 : OpensNone s s1 :=
    ((OpensNone.refl s).app (State.faultInj_only (m := 0x8000000800080) (.refl ..) (by decide) (by decide)) (by decide)).app
      (State.engineOut_only ..) (by decide)
  have h2 : OpensNone s s2 := by
    unfold s2
    split
    · exact h1.app (State.needSpare_only ..) (by decide)
    · exact h1
  clear_value item s2
  cases item with
  | some n => exact h2.trans (State.reRun_opensNone ..)
  | none => exact h2

theorem State.injected_opensNone (s : State) (e : Nat) : OpensNone s (s.injected e) := by
  unfold State.injected
  split
  · refine OpensNone.trans ?_ (State.engineFault_opensNone _ e true)
    exact .of_peg rfl
  · exact .refl s

theorem State.dispatch_opensNone (s : State) (n : Nat) : OpensNone s (s.dispatch n) := by
  unfold State.dispatch
  split
  · exact .refl s
  · split
    · exact State.dropItem_opensNone ..
    · split
      · exact (State.startItem_opensNone ..).trans (State.injected_opensNone ..)
      · exact s.setBurst_opensNone n fun _ => BurstStage.noConfusion

end

end Sys2Proof.Machine
end

section
/-!
The close of a burst (R139, R169, R182, R186, R190, R193, R198, R215): what it leaves of the burst and of its gang's tags, and the four ways
its work item can go.
-/
namespace Sys2Proof.Machine

section
variable {b e : Nat} {x y : Burst} {s u t : State}

/-! ### Sieve and fill of a burst at its close (R182) -/

/-- A change of bursts of the number `n` alone, with the tags in use the same. -/
structure ChangesBurst (n : Nat) (s t : State) : Prop where
  tags   : t.peg.tags = s.peg.tags
  others : ∀ y ∈ t.peg.bursts, y.num ≠ n → y ∈ s.peg.bursts

theorem ChangesBurst.trans {n : Nat} (h : ChangesBurst n s u) (h' : ChangesBurst n u t) : ChangesBurst n s t :=
  ⟨h'.tags.trans h.tags, fun y hy hn => h.others y (h'.others y hy hn) hn⟩

theorem State.setBurst_changesBurst (s : State) (n : Nat) {f : Burst → Burst} (hf : ∀ y, y.num = n → (f y).num = n) :
    ChangesBurst n s (s.setBurst n f) := by
  refine ⟨rfl, fun y hy hne => ?_⟩
  obtain ⟨z, hz, rfl⟩ := List.mem_map.mp hy
  by_cases hn : z.num = n
  · rw [if_pos (by simpa using hn)] at hne
    exact absurd (hf z hn) hne
  · rwa [if_neg (by simpa using hn)]

theorem State.runSieve_changesBurst (s : State) (x : Burst) (placed : Option Nat) : ChangesBurst x.num s (s.runSieve x placed) := by
  obtain ⟨l, hl⟩ := State.runSieve_peg s x placed
  obtain ⟨htags, hothers⟩ := s.setBurst_changesBurst x.num (f := fun _ => s.sievedBurst x placed) fun _ _ => rfl
  exact ⟨(congrArg PegState.tags hl :).trans htags, fun y hy => hothers y ((congrArg PegState.bursts hl :) ▸ hy)⟩

/-- The fill of a burst without an aim phase, which takes the backlog up to its close (R182). -/
def State.closeFill (s : State) (y : Burst) : Burst :=
  { y.fill (s.backlog y.channel) ((s.backlog y.channel).filter (fun e => decide (e.deliver ≤ y.closeLsb))) y.closeRel with filled := true }

/-- The state at a close before the burst is shut: a burst without an aim phase is sieved and filled (R182). -/
def State.closeMatched (s : State) (x : Burst) : State :=
  if x.sieved then s
  else
    let t := s.runSieve x (some x.closeLsb)
    match t.burst x.num with
    | none => t
    | some y => (t.setBurst x.num (fun _ => t.closeFill y)).when ((t.closeFill y).wrapped != 0)
        (·.bump R.MRT_WRAPWIN_CNT (t.closeFill y).wrapped)

/-- A burst that is shut: it waits for its engine, with its close's device time and RFLAGS (R199). -/
def State.shutRecord (s : State) (y : Burst) : Burst :=
  { y with stage := .waiting, closeT := s.timeAt y.closeLsb
           rflags := (s.flagsWord y.calRamp) ||| (if y.spare then 8 else 0) ||| (if y.limiter then 128 else 0) }

theorem State.closeOut_eq (s : State) (x : Burst) :
    s.closeOut x = (s.closeMatched x).setBurst x.num (s.closeMatched x).shutRecord := rfl

theorem State.closeFill_planned (s : State) (y : Burst) : (s.closeFill y).planned = y.planned := Burst.fill_planned ..

/-- The sieve and the fill change the burst alone, and leave it as it was planned. -/
theorem State.closeMatched_matches (h : s.burst b = some x) :
    ChangesBurst b s (s.closeMatched x) ∧ ∃ y, (s.closeMatched x).burst b = some y ∧ y.planned = x.planned := by
  obtain rfl := State.num_of_burst h
  have hsieve := State.runSieve_burst h (some x.closeLsb)
  unfold State.closeMatched
  split
  · exact ⟨⟨rfl, fun _ hy _ => hy⟩, x, h, rfl⟩
  · extract_lets t
    rw [hsieve]
    dsimp only
    generalize hz : t.closeFill (s.sievedBurst x (some x.closeLsb)) = z
    have hplanned : z.planned = x.planned := hz ▸ State.closeFill_planned ..
    have hnum : z.num = x.num := Burst.num_of_planned hplanned
    have hpeg : ((t.setBurst x.num (fun _ => z)).when (z.wrapped != 0) (·.bump R.MRT_WRAPWIN_CNT z.wrapped)).peg
        = (t.setBurst x.num (fun _ => z)).peg := State.when_keeps State.peg rfl
    refine ⟨(s.runSieve_changesBurst x (some x.closeLsb)).trans (u := t) ?_, z, ?_, hplanned⟩
    · obtain ⟨htags, hothers⟩ := t.setBurst_changesBurst x.num (f := fun _ => z) fun _ _ => hnum
      exact ⟨(congrArg PegState.tags hpeg).trans htags, fun y hy => hothers y (hpeg ▸ hy)⟩
    · rw [State.burst_congr (congrArg PegState.bursts hpeg)]
      exact State.burst_setBurst (f := fun _ => z) hsieve fun _ _ => hnum

/-! ### The burst is shut (R186) -/

/-- The burst that the close leaves is as it was planned, waits, and has its close's device time. -/
theorem State.closeOut_burst (h : s.burst b = some x) : ∃ y, (s.closeOut x).burst b = some y ∧ y.stage = .waiting
    ∧ y.closeT = s.timeAt x.closeLsb ∧ y.planned = x.planned := by
  obtain ⟨-, z, hz, hplanned⟩ := State.closeMatched_matches h
  have hclk : (s.closeMatched x).clk = s.clk := (s.closeOut_only x).clk.resolve_left (by decide)
  obtain rfl := State.num_of_burst h
  refine ⟨_, State.burst_setBurst hz fun _ hy => hy, rfl, ?_, hplanned⟩
  have hclose : z.closeLsb = x.closeLsb := (congrArg Burst.closeLsb hplanned :)
  show (s.closeMatched x).timeAt z.closeLsb = _
  rw [State.timeAt, State.timeAt, State.nowLsb, State.nowLsb, hclk, hclose]

/-- What is open behind the close was open before it, under another number. -/
theorem State.closeOut_opens (h : s.burst b = some x) (hy : y ∈ (s.closeOut x).peg.bursts) (ho : y.stage = .open) :
    y.num ≠ b ∧ y ∈ s.peg.bursts := by
  obtain ⟨⟨-, hothers⟩, -⟩ := State.closeMatched_matches h
  obtain rfl := State.num_of_burst h
  obtain ⟨z, hz, rfl⟩ := List.mem_map.mp hy
  by_cases hn : (z.num == x.num) = true
  · rw [if_pos hn] at ho
    exact BurstStage.noConfusion ho
  · rw [if_neg hn]
    have hne : z.num ≠ x.num := by simpa using hn
    exact ⟨hne, hothers z hz hne⟩

/-- The state once a burst has closed, before its work item is presented: tags are released, and MRT_STATUS follows (R169, R186). -/
def State.closedOff (s : State) (x : Burst) : State := (((s.closeOut x).releaseTags x).shutBurst x).mrtUse

theorem State.closedOff_only (s : State) (x : Burst) : Only 0x2000000060 s (s.closedOff x) :=
  ((((Only.refl _ s).app (s.closeOut_only x) (by decide)).app (State.releaseTags_only ..) (by decide)).app
    (State.shutBurst_only ..) (by decide)).app (State.mrtUse_only _) (by decide)

theorem State.closedOff_bursts (s : State) (x : Burst) : (s.closedOff x).peg.bursts = (s.closeOut x).peg.bursts := by
  show ((s.closeOut x).releaseTags x).peg.bursts = _
  unfold State.releaseTags
  split <;> rfl

/-- The gang's tags are released once no other burst of it is open (R186). -/
theorem State.closedOff_tags (h : s.burst b = some x)
    (hgang : ∀ y ∈ s.peg.bursts, y.stage = .open → y.num ≠ b → ¬ (y.driver = x.driver ∧ y.tags = x.tags)) :
    (s.closedOff x).peg.tags = s.peg.tags.filter (fun g => !x.tags.contains g) := by
  have hlast : ¬ ((s.closeOut x).peg.bursts.any (fun y => y.stage == .open && y.driver == x.driver && y.tags == x.tags)) = true := by
    intro hany
    obtain ⟨y, hy, hgangOf⟩ := List.any_eq_true.mp hany
    simp only [Bool.and_eq_true, beq_iff_eq] at hgangOf
    obtain ⟨⟨hopen, hdriver⟩, htags⟩ := hgangOf
    obtain ⟨hne, hmem⟩ := State.closeOut_opens h hy hopen
    exact hgang y hmem hopen hne ⟨hdriver, htags⟩
  have htags : (s.closeOut x).peg.tags = s.peg.tags := (State.closeMatched_matches h).1.tags
  show ((s.closeOut x).releaseTags x).peg.tags = _
  rw [State.releaseTags, if_neg hlast, ← htags]
  rfl

/-! ### The counts of a close (R139, R183) -/

/-- Backlog-only windows and a burst with no valid shot are counted, and the evidence column leaves (R139, R183, R186). -/
def State.closeCounted (s : State) (y : Burst) : State :=
  ((s.countWindows y).handColumn y).when (y.allVoid && y.kind != .listen) (·.bump R.PEG_VOIDBURST_CNT 1)

theorem State.closeCounted_only (s : State) (y : Burst) : Only 0x8020000800460 s (s.closeCounted y) :=
  (((Only.refl _ s).app (s.countWindows_only y) (by decide)).app (State.handColumn_only ..) (by decide)).when
    ((Only.refl ..).bump (by decide))

theorem State.closeCounted_peg (s : State) (y : Burst) : (s.closeCounted y).peg = s.peg :=
  (s.closeCounted_only y).peg.resolve_left (by decide)

/-- What presents the work item: the state once the close is counted. -/
def State.presenting (s : State) (x y : Burst) : State := (s.closedOff x).closeCounted y

theorem State.presenting_only (s : State) (x y : Burst) : Only 0x8022000800460 s (s.presenting x y) :=
  ((Only.refl _ s).app (s.closedOff_only x) (by decide)).app (State.closeCounted_only ..) (by decide)

/-- The burst `y` is what the close of `x` presents. -/
structure Presents (b : Nat) (x y : Burst) (s : State) : Prop where
  burst   : (s.presenting x y).burst b = some y
  closeT  : y.closeT = s.timeAt x.closeLsb
  planned : y.planned = x.planned
  outcome : exec (.windowClose b) s
    = if y.kind == .listen || !y.slot then ((s.presenting x y).endBurst b).done else ((s.presenting x y).dispatch b).done

theorem exists_presents (h : s.burst b = some x) (hopen : x.stage = .open) : ∃ y, Presents b x y s := by
  obtain ⟨y, hy, -, hcloseT, hplanned⟩ := State.closeOut_burst h
  have hclosed : (s.closedOff x).burst b = some y := (State.burst_congr (s.closedOff_bursts x) b).trans hy
  refine ⟨y, (State.burst_congr (by rw [State.presenting, State.closeCounted_peg]) b).trans hclosed, hcloseT, hplanned, ?_⟩
  show execWindowClose b s = _
  rw [execWindowClose, h]
  dsimp only
  rw [if_pos (by rw [hopen]; rfl)]
  show (match (s.closedOff x).burst b with | none => _ | some y => _) = _
  rw [hclosed]
  rfl

theorem Presents.kind (h : Presents b x y s) : y.kind = x.kind := (congrArg Burst.kind h.planned :)

theorem Presents.slot (h : Presents b x y s) : y.slot = x.slot := (congrArg Burst.slot h.planned :)

theorem Presents.booked (h : Presents b x y s) : y.booked = x.booked := (congrArg Burst.booked h.planned :)

/-- A listen burst, and one that held no slot, have no work item (R169, R190). -/
theorem Presents.exec_of_none (h : Presents b x y s) (hno : x.kind = .listen ∨ x.slot = false) :
    exec (.windowClose b) s = ((s.presenting x y).endBurst b).done := by
  rw [h.outcome, if_pos (by rw [h.kind, h.slot]; rcases hno with hno | hno <;> simp [hno])]

theorem Presents.exec_of_item (h : Presents b x y s) (hkind : x.kind ≠ .listen) (hslot : x.slot = true) :
    exec (.windowClose b) s = ((s.presenting x y).dispatch b).done := by
  rw [h.outcome, if_neg (by simp [h.kind, h.slot, hkind, hslot])]

/-- However the work item goes, no burst comes to be open. -/
theorem Presents.opensNone (h : Presents b x y s) : ∃ v, exec (.windowClose b) s = v.done ∧ OpensNone (s.closedOff x) v := by
  have hcounted : OpensNone (s.closedOff x) (s.presenting x y) := .of_peg (State.closeCounted_peg ..)
  rw [h.outcome]
  split
  · exact ⟨_, rfl, hcounted.trans (State.endBurst_opensNone ..)⟩
  · exact ⟨_, rfl, hcounted.trans (State.dispatch_opensNone ..)⟩

/-- No close touches the memories. -/
theorem windowClose_keepsMemory (hexec : exec (.windowClose b) s = .next t) : KeepsMemory s t :=
  (execWindowClose_only b s t hexec).keepsMemory (by decide) (by decide)

theorem windowClose_releases (h : s.burst b = some x) (hopen : x.stage = .open)
    (hgang : ∀ y ∈ s.peg.bursts, y.stage = .open → y.num ≠ b → ¬ (y.driver = x.driver ∧ y.tags = x.tags)) :
    Completes (.windowClose b) s (fun t => (∀ y ∈ t.peg.bursts, y.num = b → y.stage ≠ .open)
      ∧ t.peg.tags = s.peg.tags.filter (fun g => !x.tags.contains g) ∧ KeepsMemory s t) := by
  obtain ⟨y, hp⟩ := exists_presents h hopen
  obtain ⟨v, hexec, htags, hopens⟩ := hp.opensNone
  refine completes_of_done hexec ⟨fun z hz hnum ho => ?_, ?_, windowClose_keepsMemory hexec⟩
  · rw [State.settle_peg] at hz
    have hz' := hopens z hz ho
    rw [State.closedOff_bursts] at hz'
    exact (State.closeOut_opens h hz' ho).1 hnum
  · rw [State.settle_peg, htags, State.closedOff_tags h hgang]

/-! ### Bursts without a work item (R169, R190) -/

/-- Before the link is up a burst that ends leaves Peg's record and the mark of what is held, and nothing else. -/
theorem State.endBurst_of_unlinked (h : s.boot.linked = false) (n : Nat) : s.endBurst n = (s.dropBurst n).heldStatus :=
  State.settleJnl_of_unlinked (s := s.dropBurst n) h

theorem State.endBurst_unlinked_only (h : s.boot.linked = false) (n : Nat) : Only 0x2000000200 s (s.endBurst n) := by
  rw [State.endBurst_of_unlinked h]
  exact ((Only.refl _ s).app (s.dropBurst_only n) (by decide)).app (State.heldStatus_only _) (by decide)

theorem State.endBurst_burst (h : s.boot.linked = false) (n : Nat) : (s.endBurst n).burst n = none := by
  rw [State.endBurst_of_unlinked h]
  exact s.burst_dropBurst n

theorem State.presenting_linked (h : s.boot.linked = false) (x y : Burst) : (s.presenting x y).boot.linked = false := by
  rw [(s.presenting_only x y).boot.resolve_left (by decide), h]

theorem State.presenting_jst (s : State) (x y : Burst) : (s.presenting x y).jst = s.jst :=
  (s.presenting_only x y).jst.resolve_left (by decide)

theorem windowClose_withoutItem (h : s.burst b = some x) (hopen : x.stage = .open) (hno : x.kind = .listen ∨ x.slot = false)
    (hlink : s.boot.linked = false) : Completes (.windowClose b) s (fun t =>
      t.burst b = none ∧ t.jnl = s.jnl ∧ t.jst = s.jst ∧ KeepsMemory s t) := by
  obtain ⟨y, hp⟩ := exists_presents h hopen
  have hlink' := State.presenting_linked hlink x y
  have hexec := hp.exec_of_none hno
  have honly : Only 0x48022003800660 s ((s.presenting x y).endBurst b).settle :=
    (((Only.refl _ s).app (s.presenting_only x y) (by decide)).app (State.endBurst_unlinked_only hlink' b) (by decide)).app
      (State.settle_only _) (by decide)
  refine completes_of_done hexec ⟨?_, honly.jnl.resolve_left (by decide), honly.jst.resolve_left (by decide),
    windowClose_keepsMemory hexec⟩
  rw [State.settle_burst, State.endBurst_burst hlink']

end

end Sys2Proof.Machine
end

section
/-!
The work item that a close presents (R139, R193, R198, R215), and with it O36: on a free engine, in wait for one, or dropped where the
ledger granted the burst without an engine.
-/
namespace Sys2Proof.Machine

section
variable {b e n : Nat} {x y : Burst} {s : State}

/-! ### The three ways of a work item (R193, R215) -/

theorem State.dispatch_of_unbooked (h : s.burst n = some y) (hbooked : y.booked = false) : s.dispatch n = s.dropItem y := by
  rw [State.dispatch, h]
  exact if_pos (by rw [hbooked]; rfl)

/-- A burst whose work item waits for an engine. -/
def Burst.inWait (b : Burst) : Burst := { b with stage := .waiting }

theorem State.dispatch_of_full (h : s.burst n = some y) (hbooked : y.booked = true)
    (hfull : s.freeEngine (s.servesFor y) = none) : s.dispatch n = s.setBurst n Burst.inWait := by
  rw [State.dispatch, h]
  dsimp only
  rw [if_neg (by simp [hbooked]), hfull]
  rfl

theorem State.dispatch_of_free (h : s.burst n = some y) (hbooked : y.booked = true)
    (hfree : s.freeEngine (s.servesFor y) = some e) (hinj : s.flt.injEngines = []) : s.dispatch n = s.startItem y e := by
  rw [State.dispatch, h]
  dsimp only
  rw [if_neg (by simp [hbooked]), hfree]
  refine if_neg ?_
  show ¬ (s.flt.injEngines.contains e = true)
  simp [hinj]

/-- The engine that a work item finds depends on Joist's record and on the burst as it was planned. -/
theorem Presents.freeEngine (h : Presents b x y s) :
    (s.presenting x y).freeEngine ((s.presenting x y).servesFor y) = s.freeEngine (s.servesFor x) := by
  have hspare : y.spareCl = x.spareCl := (congrArg Burst.spareCl h.planned :)
  have hchannel : y.channel = x.channel := (congrArg Burst.channel h.planned :)
  have hclose : y.closeLsb = x.closeLsb := (congrArg Burst.closeLsb h.planned :)
  simp only [State.freeEngine, State.engine, State.servesFor, State.serving, State.presenting_jst, hspare, hchannel, hclose]

theorem windowClose_waits (h : s.burst b = some x) (hopen : x.stage = .open) (hkind : x.kind ≠ .listen) (hslot : x.slot = true)
    (hbooked : x.booked = true) (hfull : s.freeEngine (s.servesFor x) = none) : Completes (.windowClose b) s (fun t =>
      ((t.burst b).map (fun y => (y.stage, y.engine))) = some (.waiting, x.engine) ∧ t.jst = s.jst ∧ KeepsMemory s t) := by
  obtain ⟨y, hp⟩ := exists_presents h hopen
  have hexec := hp.exec_of_item hkind hslot
  have hwaits := State.dispatch_of_full hp.burst (hp.booked.trans hbooked) (hp.freeEngine.trans hfull)
  have hengine : y.engine = x.engine := (congrArg Burst.engine hp.planned :)
  refine completes_of_done hexec ⟨?_, ?_, windowClose_keepsMemory hexec⟩
  · rw [State.settle_burst, hwaits, State.burst_setBurst (f := Burst.inWait) hp.burst fun _ hz => hz, ← hengine]
    rfl
  · rw [State.settle_jst, hwaits, State.setBurst_jst, State.presenting_jst]

/-- A counter with room counts up. -/
theorem State.rd_bump_of_room {f : Fld} (h : s.rd f < 2 ^ f.width - 1) : (s.bump f 1).rd f = s.rd f + 1 := by
  rw [State.rd_bump, if_pos rfl, Nat.min_eq_left (by omega), Nat.mod_eq_of_lt (by omega)]

/-! ### An item that is dropped (R215) -/

/-- The counts of a dropped item, before its burst ends (R215, R237). -/
def State.dropCounted (s : State) (y : Burst) : State :=
  ((s.bump R.JST_DROPITEM_CNT 1).fault R.JST_INTSTAT_DROPITEM 3 y.channel).tallyDropped y.frame

theorem State.dropCounted_rd {f : Fld} (s : State) (y : Burst) (h1 : f.key ≠ R.FLT_OVERFLOW_CNT.key)
    (h2 : f.key ≠ R.FLT_INTSTAT_OVERFLOW.key) :
    (s.dropCounted y).rd f
      = if f.key = R.JST_INTSTAT_DROPITEM.key then 1 % 2 ^ R.JST_INTSTAT_DROPITEM.width else (s.bump R.JST_DROPITEM_CNT 1).rd f :=
  State.fault_rd (s.bump R.JST_DROPITEM_CNT 1) R.JST_INTSTAT_DROPITEM f 3 y.channel h1 h2

theorem State.dropCounted_only (s : State) (y : Burst) : Only 0x8010000800080 s (s.dropCounted y) :=
  (State.fault_only ((Only.refl _ s).bump (by decide)) (by decide) (by decide)).app (State.tallyDropped_only ..) (by decide)

theorem windowClose_drops (h : s.burst b = some x) (hopen : x.stage = .open) (hkind : x.kind ≠ .listen) (hslot : x.slot = true)
    (hbooked : x.booked = false) (hlink : s.boot.linked = false) (hroom : s.rd R.JST_DROPITEM_CNT < 0xFFFFFFFF) :
    Completes (.windowClose b) s (fun t =>
      t.burst b = none ∧ t.rd R.JST_DROPITEM_CNT = s.rd R.JST_DROPITEM_CNT + 1 ∧ t.rd R.JST_INTSTAT_DROPITEM = 1 ∧ t.jst = s.jst
        ∧ KeepsMemory s t) := by
  obtain ⟨y, hp⟩ := exists_presents h hopen
  have hexec := hp.exec_of_item hkind hslot
  generalize hu : s.presenting x y = u at hexec
  have hburst : u.burst b = some y := hu ▸ hp.burst
  have honly : Only 0x8022000800460 s u := hu ▸ s.presenting_only x y
  have hdrop : u.dispatch b = (u.dropCounted y).endBurst b := by
    rw [State.dispatch_of_unbooked hburst (hp.booked.trans hbooked)]
    exact congrArg (u.dropCounted y).endBurst (State.num_of_burst hburst)
  have hlink' : (u.dropCounted y).boot.linked = false := by
    rw [(u.dropCounted_only y).boot.resolve_left (by decide), honly.boot.resolve_left (by decide), hlink]
  have hends := State.endBurst_unlinked_only hlink' b
  have hcount : u.rd R.JST_DROPITEM_CNT = s.rd R.JST_DROPITEM_CNT := honly.rd _ (by decide)
  refine completes_of_done hexec ⟨?_, ?_, ?_, ?_, windowClose_keepsMemory hexec⟩
  · rw [State.settle_burst, hdrop, State.endBurst_burst hlink']
  · rw [State.settle_rd _ _ (by decide) (by decide), hdrop, hends.rd _ (by decide), State.dropCounted_rd _ _ (by decide) (by decide),
      if_neg (by decide), State.rd_bump_of_room (by rw [hcount]; exact hroom), hcount]
  · rw [State.settle_rd _ _ (by decide) (by decide), hdrop, hends.rd _ (by decide), State.dropCounted_rd _ _ (by decide) (by decide)]
    rfl
  · rw [State.settle_jst, hdrop, hends.jst.resolve_left (by decide), (u.dropCounted_only y).jst.resolve_left (by decide),
      honly.jst.resolve_left (by decide)]

/-! ### An item that an engine takes (R193, R198) -/

theorem State.startItem_burst (h : s.burst b = some y) (e : Nat) : (s.startItem y e).burst b = some (y.onEngine e) := by
  obtain rfl := State.num_of_burst h
  exact (State.burst_congr (congrArg PegState.bursts (s.startItem_peg y e)) _).trans
    (State.burst_setBurst (f := fun _ => y.onEngine e) h fun _ _ => rfl)

/-- The engine holds the burst's number and, in its local memory, its work item. -/
theorem State.startItem_engine (s : State) (y : Burst) (e : Nat) :
    ((s.startItem y e).engine e).burst = some y.num ∧ ((s.startItem y e).engine e).item = (y.onEngine e).item e := by
  have hset : (s.startItem y e).engine e = { s.engine e with
      burst := some y.num, item := (y.onEngine e).item e, port := [], started := max s.nowLsb (presentLsb y.closeLsb) + 2048 } :=
    mapGet_set_same ..
  rw [hset]
  exact ⟨rfl, rfl⟩

theorem State.startItem_rd (s : State) (y : Burst) (e : Nat) (f : Fld) :
    (s.startItem y e).rd f = (s.bump R.JST_ITEMS_CNT 1).rd f := rfl

/-- The close of a burst sets no injected engine fault. -/
theorem State.report_injEngines (s : State) (src code sev unit : Nat) (d : BitVec 64) :
    (s.report src code sev unit d).flt.injEngines = s.flt.injEngines := by
  unfold State.report
  split <;> rfl

theorem State.handColumn_injEngines (s : State) (y : Burst) : (s.handColumn y).flt.injEngines = s.flt.injEngines := by
  unfold State.handColumn
  extract_lets sv
  split
  · unfold State.lbkStore
    split
    · rfl
    · split
      · exact State.report_injEngines ..
      · rfl
  · rfl

theorem State.presenting_injEngines (s : State) (x y : Burst) : (s.presenting x y).flt.injEngines = s.flt.injEngines := by
  have hclosed : (s.closedOff x).flt = s.flt := (s.closedOff_only x).flt.resolve_left (by decide)
  have hwindows : ((s.closedOff x).countWindows y).flt = (s.closedOff x).flt :=
    (State.countWindows_only ..).flt.resolve_left (by decide)
  calc (s.presenting x y).flt.injEngines
    _ = (((s.closedOff x).countWindows y).handColumn y).flt.injEngines := State.when_keeps (fun u => u.flt.injEngines) rfl
    _ = s.flt.injEngines := by rw [State.handColumn_injEngines, hwindows, hclosed]

/-! ### The count of bursts without a valid shot (R139) -/

theorem State.releaseTags_void (s : State) (x : Burst) : (s.releaseTags x).rd R.PEG_VOIDBURST_CNT = s.rd R.PEG_VOIDBURST_CNT := by
  unfold State.releaseTags
  split
  · rfl
  · rw [State.setTags, State.peak, State.rd_wr_ne _ _ _ _ (by decide), State.rd_wr_ne _ _ _ _ (by decide)]
    rfl

theorem State.closedOff_void (hsieved : x.sieved = true) : (s.closedOff x).rd R.PEG_VOIDBURST_CNT = s.rd R.PEG_VOIDBURST_CNT := by
  have hmatched : s.closeMatched x = s := if_pos hsieved
  rw [State.closedOff, (State.mrtUse_only _).rd _ (by decide), (State.shutBurst_only ..).rd _ (by decide), State.releaseTags_void,
    State.closeOut_eq, State.setBurst_rd, hmatched]

theorem Presents.void_rd (h : Presents b x y s) (hsieved : x.sieved = true) (hkind : x.kind ≠ .listen)
    (hroom : s.rd R.PEG_VOIDBURST_CNT < 0xFFFFFFFF) :
    (s.presenting x y).rd R.PEG_VOIDBURST_CNT = s.rd R.PEG_VOIDBURST_CNT + x.allVoid.toNat := by
  have hvoid : y.allVoid = x.allVoid := (congrArg Burst.allVoid h.planned :)
  have hbefore : (((s.closedOff x).countWindows y).handColumn y).rd R.PEG_VOIDBURST_CNT = s.rd R.PEG_VOIDBURST_CNT := by
    rw [(State.handColumn_only ..).rd _ (by decide), (State.countWindows_only ..).rd _ (by decide), State.closedOff_void hsieved]
  have hlisten : (y.kind != .listen) = true := by simp [h.kind, hkind]
  rw [State.presenting, State.closeCounted, hvoid, hlisten, Bool.and_true, State.when]
  cases x.allVoid with
  | false => exact hbefore
  | true => exact (State.rd_bump_of_room (by rw [hbefore]; exact hroom)).trans (by rw [hbefore]; rfl)

theorem windowClose_starts (h : s.burst b = some x) (hopen : x.stage = .open) (hkind : x.kind ≠ .listen) (hslot : x.slot = true)
    (hbooked : x.booked = true) (hsieved : x.sieved = true) (hfree : s.freeEngine (s.servesFor x) = some e)
    (hinj : s.flt.injEngines = []) (hitems : s.rd R.JST_ITEMS_CNT < 0xFFFFFFFF) (hvoids : s.rd R.PEG_VOIDBURST_CNT < 0xFFFFFFFF) :
    Completes (.windowClose b) s (fun t =>
      ((t.burst b).map (fun y => (y.stage, y.engine, y.closeT))) = some (.running, some e, s.timeAt x.closeLsb)
        ∧ (t.engine e).burst = some b ∧ ((t.burst b).map (·.item e)) = some (t.engine e).item
        ∧ t.rd R.JST_ITEMS_CNT = s.rd R.JST_ITEMS_CNT + 1
        ∧ t.rd R.PEG_VOIDBURST_CNT = s.rd R.PEG_VOIDBURST_CNT + x.allVoid.toNat) := by
  obtain ⟨y, hp⟩ := exists_presents h hopen
  have hexec := hp.exec_of_item hkind hslot
  rw [State.dispatch_of_free hp.burst (hp.booked.trans hbooked) (hp.freeEngine.trans hfree)
    ((s.presenting_injEngines x y).trans hinj)] at hexec
  have hburst := State.startItem_burst hp.burst e
  obtain ⟨hnum, hitem⟩ := (s.presenting x y).startItem_engine y e
  have hcount : (s.presenting x y).rd R.JST_ITEMS_CNT = s.rd R.JST_ITEMS_CNT := (s.presenting_only x y).rd _ (by decide)
  have hengine (u : State) : u.settle.engine e = u.engine e := by rw [State.engine, State.engine, State.settle_jst]
  refine completes_of_done hexec ⟨?_, ?_, ?_, ?_, ?_⟩
  · rw [State.settle_burst, hburst, ← hp.closeT]
    rfl
  · rw [hengine, hnum, State.num_of_burst hp.burst]
  · rw [State.settle_burst, hburst, hengine, hitem]
    rfl
  · rw [State.settle_rd _ _ (by decide) (by decide), State.startItem_rd, State.rd_bump_of_room (by rw [hcount]; exact hitems), hcount]
  · rw [State.settle_rd _ _ (by decide) (by decide), State.startItem_rd, State.rd_bump, if_neg (by decide),
      hp.void_rd hsieved hkind hvoids]

end

/-- Settles O36: the scout end and the fill from their own laws, the close from the burst that it presents. -/
theorem mortiseClosesBursts : Obligations.MortiseClosesBursts :=
  ⟨fun _ _ _ h hopen hsieved haim => scoutEnd_places h hopen hsieved haim, fun _ _ _ h hno => scoutEnd_passes h hno,
    fun _ _ _ _ h _ hopen hplaced hfilled hbusy => retroactiveFill_fills h hopen hplaced hfilled hbusy,
    fun _ _ _ _ h hplaced hno => retroactiveFill_waits h hplaced hno,
    fun _ _ _ h hopen hgang => windowClose_releases h hopen hgang,
    fun _ _ _ h hopen hno hlink => windowClose_withoutItem h hopen hno hlink,
    fun _ _ _ _ h _ hopen hkind hslot hbooked hsieved hfree hinj hitems hvoids =>
      windowClose_starts h hopen hkind hslot hbooked hsieved hfree hinj hitems hvoids,
    fun _ _ _ h _ hopen hkind hslot hbooked _ hfull => windowClose_waits h hopen hkind hslot hbooked hfull,
    fun _ _ _ h _ hopen hkind hslot hbooked hlink hroom => windowClose_drops h hopen hkind hslot hbooked hlink hroom⟩

end Sys2Proof.Machine
end
